-- ==== Sys2Proof/Word.lean ====
section
/-!
DEFINITION. Word.lean: the word helpers of the model: bit fields of natural numbers, two's complement,
rounding (R6), serial comparison (R12), and the sorted association lists ("sparse maps") that hold sparse state.
-/
namespace Sys2Proof

/-- A byte. -/
abbrev Byte := BitVec 8

/-- A sparse map: pairs of a key and a value, the keys strictly rising. -/
abbrev SMap (α : Type) := List (Nat × α)

variable {α : Type}

/-- The value at a key, where the map lists it. -/
def mfind : SMap α → Nat → Option α
  | [], _ => none
  | (k, v) :: t, q => if k = q then some v else mfind t q

/-- The value at a key, or the given default. -/
def mget (m : SMap α) (k : Nat) (d : α) : α := (mfind m k).getD d

/-- The map with a key's value written; rising keys stay rising. -/
def mput : SMap α → Nat → α → SMap α
  | [], q, v => [(q, v)]
  | (k, w) :: t, q, v =>
    if q < k then (q, v) :: (k, w) :: t else if q = k then (q, v) :: t else (k, w) :: mput t q v

/-- The map without a key. -/
def mdel : SMap α → Nat → SMap α
  | [], _ => []
  | (k, v) :: t, q => if k = q then t else (k, v) :: mdel t q

/-- The keys of a sparse map rise strictly from a lower bound on. -/
def mrisingFrom : Nat → SMap α → Bool
  | _, [] => true
  | b, (k, _) :: t => decide (b ≤ k) && mrisingFrom (k + 1) t

/-- The canonical form of a sparse map: strictly rising keys. -/
def mwf (m : SMap α) : Bool := mrisingFrom 0 m

/-- Bits [lo + w - 1 : lo] of a word. -/
def bits (x lo w : Nat) : Nat := x / 2 ^ lo % 2 ^ w

/-- Bit n of a word. -/
def bit (x n : Nat) : Bool := x / 2 ^ n % 2 = 1

/-- A word with bit n set to b. -/
def setBit (x n : Nat) (b : Bool) : Nat :=
  (x / 2 ^ (n + 1)) * 2 ^ (n + 1) + (if b then 2 ^ n else 0) + x % 2 ^ n

/-- 1 for true and 0 for false. -/
def b2n (b : Bool) : Nat := if b then 1 else 0

/-- The two's complement value of a w-bit word. -/
def sgn (w x : Nat) : Int := if x % 2 ^ w < 2 ^ (w - 1) then (x % 2 ^ w : Nat) else (x % 2 ^ w : Nat) - (2 : Int) ^ w

/-- The w-bit word of an integer, modulo 2^w. -/
def unsgn (w : Nat) (i : Int) : Nat := (i % (2 : Int) ^ w).toNat

/-- The clamp of the manual's pseudocode. -/
def clampI (lo hi x : Int) : Int := if x < lo then lo else if hi < x then hi else x

/-- The clamp on natural numbers. -/
def clampN (lo hi x : Nat) : Nat := if x < lo then lo else if hi < x then hi else x

/-- Saturate to an unsigned w-bit format (R6). -/
def satU (w : Nat) (i : Int) : Nat := (clampI 0 ((2 : Int) ^ w - 1) i).toNat

/-- Saturate to a signed w-bit format (R6), as the word. -/
def satS (w : Nat) (i : Int) : Nat := unsgn w (clampI (-((2 : Int) ^ (w - 1))) ((2 : Int) ^ (w - 1) - 1) i)

/-- num / den rounded to the nearest integer, ties to even (R6); den must not be 0 (then 0). -/
def roundNE (num : Int) (den : Nat) : Int :=
  if den = 0 then 0 else
  let q := num / (den : Int)
  let r := num % (den : Int)
  if 2 * r < den then q else if (den : Int) < 2 * r then q + 1 else if q % 2 = 0 then q else q + 1

/-- roundNE on natural numbers. -/
def roundNEN (num den : Nat) : Nat := (roundNE num den).toNat

/-- Serial comparison of n-bit values (R12): b is later than a. -/
def laterSer (b a n : Nat) : Bool :=
  let d := (b + 2 ^ n - a % 2 ^ n) % 2 ^ n
  decide (1 ≤ d) && decide (d ≤ 2 ^ (n - 1) - 1)

/-- The little-endian bytes of a number (R7). -/
def leBytes : Nat → Nat → List Byte
  | 0, _ => []
  | n + 1, x => BitVec.ofNat 8 x :: leBytes n (x / 256)

/-- The number that little-endian bytes spell (R7). -/
def leNat : List Byte → Nat
  | [] => 0
  | b :: t => b.toNat + 256 * leNat t

/-- Bytes [off, off + n) of a record as a little-endian number; missing bytes count as zero. -/
def fieldAt (bs : List Byte) (off n : Nat) : Nat := leNat ((bs.drop off).take n)

/-- The sum of a list of natural numbers. -/
def sumN : List Nat → Nat
  | [] => 0
  | x :: t => x + sumN t

/-- The sum of f over 0 .. n - 1. -/
def sumTo (n : Nat) (f : Nat → Nat) : Nat := sumN ((List.range n).map f)

/-- Fold a state through 0 .. n - 1. -/
def foldTo {σ : Type} (n : Nat) (s : σ) (f : σ → Nat → σ) : σ := (List.range n).foldl f s

/-- Timestamp units per microsecond, millisecond and second (R544). -/
def usT : Nat := 800
def msT : Nat := 800000
def secT : Nat := 800000000

end Sys2Proof
end

