-- ==== Sys2Proof/Syntax.lean ====
section
/-!
DEFINITION. Syntax.lean: the commands of the block, one constructor for each row of spec/opcode_table.json, with what the
row's event or access carries.
-/
namespace Sys2Proof

/-- A command of the block. -/
inductive Instr where
  /-- SUPPLY_RISE (R390): Quefa's supply VDD_QF rises and every island undergoes a supply reset that clears the CROWBAR and
  SHUTDOWN latches. -/
  | supplyRise
  /-- SUPPLY_REMOVAL (R528): VDD_QF has stayed below 0.300 V for at least 100 ms; Quefa's supply counts as removed, every
  output is released and the latches clear. -/
  | supplyRemoval
  /-- PORESET_ASSERT (R404): A recognised assertion of PORESET_N puts PWM at mid, drives EN low unless CROWBAR is latched,
  negates QUEFA_READY and holds the instance in die reset. -/
  | poresetAssert
  /-- PORESET_NEGATE (R403): Recognised negation of PORESET_N with REFCLK valid starts the start-up sequence with root PLL
  lock. -/
  | poresetNegate
  /-- REFCLK_LOSS (R391): The clock monitor finds REFCLK lost and within 100 ns forces the outputs safe, negates
  QUEFA_READY, records the cause and holds die reset. -/
  | refclkLoss
  /-- PLL_LOCK_LOSS (R391): The root PLL reports loss of lock and the instance enters die reset as for a lost REFCLK. -/
  | pllLockLoss
  /-- DIE_RESET_RELEASE (R391): REFCLK has been valid for 1 ms after a die reset, so start-up runs again as for PORESET_N. -/
  | dieResetRelease
  /-- PLL_LOCK (R381): The root PLL locks, and HUB and the other root-derived islands are released at H with their followers
  loaded. -/
  | pllLock
  /-- PLL_LOCK_TIMEOUT (R403): The PLL has not locked by P + 100 µs, so the instance stays in die reset with cause 3 and
  tries again. -/
  | pllLockTimeout
  /-- SRAM_CLEAR_DONE (R427): The clear and test engine finishes zeroing a bank after a wake from reset or gating. -/
  | sramClearDone (bank : Fin 18) (sig : Bool) (rev dens : BitVec 8) (erase4k fast : Bool) (qe : BitVec 3)
  /-- FW_IMAGE_LOADED (R436): The read of a firmware image copy completes, its digest and header are judged, and the
  processor starts or the next copy is read. -/
  | fwImageLoaded (n : Fin 4) (readOk : Bool)
  /-- SPI_PORT_RELEASE (R438): 1 ms after FAILED with cause 1, every SPI NOR output goes to high impedance until reset. -/
  | spiPortRelease
  /-- FP3_STARTUP_RESTORE (R462): FP3 restores the heartwood, appends the newest valid mirror with flag 6, writes
  EV_EVT_BOOT and loads the last-fault record. -/
  | fp3StartupRestore
  /-- SLOT0_LOAD (R108): FP0 loads model slot 0 from its image through LOADING to FIT. -/
  | slot0Load
  /-- STARTUP_TAKE (R407): FP0 stages the thermal set, default contexts, THM_CTL.run and the board record, and takes them as
  take number 1. -/
  | startupTake
  /-- QUEFA_READY_ASSERT (R409): Once power-up has ended good, slot 0 is FIT and the start-up take has applied, QUEFA_READY
  is asserted and the stage becomes READY. -/
  | quefaReadyAssert
  /-- OUTPOST_RESET (R392): CORE_RST or LINK_RST asserts; the outpost and the far halves of its crossings reset, its tallies
  are freed and its partial tick is discarded. -/
  | outpostReset (link : Bool) (n : Fin 64)
  /-- OUTPOST_RELEASE (R405): The outpost reset indication negates, the outpost leaves reset and its chokers take their
  floors at the first window boundary. -/
  | outpostRelease (link : Bool) (n : Fin 64)
  /-- LN_MODE_CHANGE (R121): The crossed LN_MODE level of a core changes. -/
  | lnModeChange (core : Fin 64) (level : Bool)
  /-- DISPATCH (R20): A DISPATCH record on a tap lane is latched as an outstanding command of its engine. -/
  | dispatch (core : Fin 64) (engine : Fin 4) (rec : BitVec 128) (mismatch : Bool)
  /-- BEGIN_STROBE (R20): A begin strobe starts the named command, confirms it if it is speculative, and counts its activity
  from then on. -/
  | beginStrobe (core : Fin 64) (engine : Fin 4) (seq : BitVec 8)
  /-- END_STROBE (R20): An end strobe ends the named command and ends any unknown-begin busy state on its lane. -/
  | endStrobe (core : Fin 64) (engine : Fin 4) (seq : BitVec 8)
  /-- SQUASH_STROBE (R20): A squash discards every unbegun command of the engine from the named sequence number on and frees
  their tallies. -/
  | squashStrobe (core : Fin 64) (engine : Fin 4) (seq : BitVec 8)
  /-- TALLY_REQUEST (R243): The dispatcher requests a tally; the outpost holds it until earlier commands have begun or it is
  refused. -/
  | tallyRequest (core : Fin 64) (engine : Fin 4) (seq : BitVec 8) (coll mismatch : Bool)
  /-- TALLY_REQUEST_PRESENT (R244): A held request reaches the hub and is given an amount, pool and clamp, with an object
  allocated if the tenant is within objmax. -/
  | tallyRequestPresent (choker : Fin 256)
  /-- TALLY_ADMIT (R249): A tenant's oldest unadmitted request is admitted once its committed amount plus the request fits
  the quota. -/
  | tallyAdmit (tenant : Fin 512)
  /-- TALLY_GRANT (R252): A deficit-round-robin step grants a WAITING request once deficit and free room allow, and the
  grant crosses to the port. -/
  | tallyGrant (pool : Fin 16)
  /-- TALLY_RELEASE (R246): A release names an id and gen and is answered OK, NOT_HELD, STALE or FUTURE, freeing the object
  on OK. -/
  | tallyRelease (core : Fin 64) (engine : Fin 4) (id : BitVec 13) (gen : BitVec 8)
  /-- TALLY_AUTO_RELEASE (R247): 256 core cycles after an end strobe with the tally still not FREE, the outpost frees it and
  counts a late release. -/
  | tallyAutoRelease (core : Fin 64) (engine : Fin 4) (seq : BitVec 8)
  /-- REQUEST_AGED (R253): A request, or a recall-queue entry, reaches the age limit G and joins the pool's aged queue. -/
  | requestAged (pool : Fin 16)
  /-- RESERVATION_TAKE (R251): With no reservation held, the head of the aged queue takes the pool's reservation. -/
  | reservationTake (pool : Fin 16)
  /-- RESERVATION_MET (R254): The reserved request fits the free room, so it is granted and the reservation ends. -/
  | reservationMet (pool : Fin 16)
  /-- RESERVATION_RECALL (R254): After the reservation wait W, the arbiter recalls up to 16 of the earliest-granted objects
  each cycle until the room fits. -/
  | reservationRecall (pool : Fin 16)
  /-- RECALL_NO_PROGRESS (R257): At a tick boundary, a GRANTED object whose last progress is older than its recall time is
  recalled. -/
  | recallNoProgress
  /-- RECALL_ELIGIBLE (R259): A window with progress crosses to the hub and makes the engine's recall-queue entry eligible. -/
  | recallEligible (choker : Fin 256)
  /-- TALLY_REGRANT (R259): The oldest eligible recall-queue entry is re-granted once room fits, and row 3 lifts when the
  engine holds no recalled tally. -/
  | tallyRegrant (pool : Fin 16)
  /-- CHOKER_WINDOW (R69): A 64-cycle window boundary applies the new allowance and gate pattern, the granted ramp units and
  the free part of a fall. -/
  | chokerWindow (choker : Fin 320) (slots : List (BitVec 8 × Fin 65)) (unk : Fin 65) (bytes : BitVec 32)
  /-- RAMP_TICK (R75): Every 25 ns the up and down credit pools are refilled and spent round-robin on the chokers that want
  credit. -/
  | rampTick
  /-- DROOP_DETECT (R79): A rising edge of a core's unmasked detector OR cuts its engine chokers to the droop value within 4
  cycles and starts the hold. -/
  | droopDetect (core n : Fin 64) (drops : List (Fin 32 × BitVec 12))
  /-- DROOP_HOLD_EXPIRE (R81): The droop hold expires and row 2 stops applying at the next window boundary. -/
  | droopHoldExpire (core : Fin 64)
  /-- SNS_DRP_FORCE_WRITE (R37): A write to SNS_DRP_FORCE forces or unforces detector outputs from the next core cycle. -/
  | snsDrpForceWrite (core : Fin 64) (v : BitVec 32) (n : Fin 64)
  /-- VR_ALERT_ASSERT (R84): VR_ALERT_N is recognised as asserted: the firebreak holds every choker at its floor and orders
  the DVFS descent. -/
  | vrAlertAssert
  /-- VR_ALERT_NEGATE (R85): VR_ALERT_N is recognised as negated and the firebreak hold-off starts. -/
  | vrAlertNegate
  /-- FIREBREAK_HOLDOFF_EXPIRE (R85): The hold-off after negation has run its course. -/
  | firebreakHoldoffExpire
  /-- TLM_FRAME (R43): A telemetry lane frame is received and judged; it is accepted or discarded, and its samples and
  statuses update the phases. -/
  | tlmFrame (lane : Fin 18) (frame : BitVec 1000) (overrun : Bool)
  /-- TLM_LANE_DARK (R44): 64 UI without a transition makes the lane dark; the frame in progress is discarded and the
  receiver enters HUNT. -/
  | tlmLaneDark (lane : Fin 18)
  /-- PHASE_STALE (R49): After stale_frames frame periods without an accepted frame, a phase becomes STALE. -/
  | phaseStale (phase : Fin 144)
  /-- PHASE_FROZEN (R50): A phase current code unchanged over frz_window continuous-conduction samples makes the phase
  FROZEN. -/
  | phaseFrozen (phase : Fin 144)
  /-- PHASE_TEMP_STALE (R51): A phase temperature not refreshed for 1.25 ms is marked stale in SNS_PHT. -/
  | phaseTempStale (phase : Fin 144)
  /-- ANCHOR_CONVERSION (R54): An anchor sensor completes a conversion, updating its latest value, limit temperatures and
  the shutdown test. -/
  | anchorConversion (a : Fin 128) (ok : Bool) (raw : BitVec 16)
  /-- ANCHOR_PUBLISH (R54): At a 1 ms boundary each anchor publishes the mean of its conversions and flags faults. -/
  | anchorPublish
  /-- ESTIMATOR_TICK (R60): Every 1 µs, outposts close their activity counts and the estimator computes per-core energy and
  charges estimates. -/
  | estimatorTick (parts : List (Fin 320 × List (BitVec 8 × Fin 65) × Fin 65 × BitVec 32))
  /-- MEAS_FINALISE (R61): Two ticks after a tick closes, its measured VDD_CORE energy and fill count are finalised and
  published. -/
  | measFinalise
  /-- CALIBRATION_APPLY (R62): At the first tick after each 1 ms boundary, the clamped fitted coefficients are applied to
  ACT_COEF_CAL. -/
  | calibrationApply
  /-- PERIODIC_SNAPSHOT (R102): At its periodic instant, a core's feature vector is snapshotted and a forecast is queued to
  a slice. -/
  | periodicSnapshot (core : Fin 64)
  /-- PROMPT_SNAPSHOT (R102): After a DISPATCH arrives, once the gap has passed, a prompt snapshot of the core is taken. -/
  | promptSnapshot (core : Fin 64)
  /-- FORECAST_OUTPUT (R114): A forecast's output arrives and, if it is the latest, is applied to the feed-forward and the
  predicted loads. -/
  | forecastOutput (slice : Fin 8)
  /-- FCST_LOAD_COMPLETE (R110): An image read for FCST_LOAD finishes, the fit checks run, the slot becomes FIT or FAILED
  and the descriptor completes. -/
  | fcstLoadComplete (ok : Bool) (img : List Byte) (peer : Fin 8) (slot : Fin 48)
  /-- THERMAL_STEP (R207): At a step instant the inputs are sampled and the thermal step starts, or is queued behind a
  running one. -/
  | thermalStep
  /-- THERMAL_STEP_COMPLETE (R224): A step completes; x, L, flags, source 0x08 and the band are updated and the shutdown
  test runs. -/
  | thermalStepComplete
  /-- BAND_FALL (R227): After the dwell below e_b − hyst, the band falls by one. -/
  | bandFall
  /-- SHUTDOWN_DRAIN_EXPIRE (R233): The drain time after shutdown expires; QUEFA_READY negates and power-down starts with
  fault 0x05 for the core. -/
  | shutdownDrainExpire
  /-- MODEL_INIT (R213): At the first 1 ms boundary after run is set, x is initialised from the anchors and THM_TIN and the
  model enters RUN. -/
  | modelInit
  /-- REINIT_RECOVER (R231): At the next 1 ms boundary in REINIT, x is reinitialised without broken anchors and the model
  returns to RUN. -/
  | reinitRecover
  /-- ANCHOR_CORRECTION (R214): At each 1 ms boundary, residuals are formed, anchors are judged and clamped corrections are
  applied to linked nodes before the next step. -/
  | anchorCorrection
  /-- CPLATE_LOCAL (R235): With no primary cold-plate values within 2P, the secondary keeps its own values and writes
  EV_THM_CP_LOCAL. -/
  | cplateLocal
  /-- THM_TIN_WRITE (R207): A write of THM_TIN by the steward or over SMBus sets the coolant inlet temperature, or is
  refused if out of range. -/
  | thmTinWrite (v : BitVec 16)
  /-- PID_SAMPLE (R140): Every 5 ns, v_sense is converted and the voltage loop updates its error, integrator and saturation. -/
  | pidSample (v : BitVec 16)
  /-- VREF_RAMP_STEP (R137): v_ref_int moves one 0.25 mV step toward its target at the slew rate. -/
  | vrefRampStep
  /-- ENABLE_DROP (R153): One µs after PWM went to mid, in STOP or on a fault, every enable goes low. -/
  | enableDrop
  /-- PWM_PERIOD_START (R133): A switching period starts; phase offsets, N_en, shedding and dead times are applied. -/
  | pwmPeriodStart
  /-- PHASE_LEADING_EDGE (R141): At its leading edge a phase's on-time is computed, with a possible brake, diode emulation
  or skipped pulse. -/
  | phaseLeadingEdge (phase : Fin 144)
  /-- DE_ENTER (R144): After the dwell at low current, diode emulation is entered. -/
  | deEnter
  /-- I_TOT_FORMED (R150): An interval's die current total is formed and the shared cap is cut or relaxed. -/
  | iTotFormed
  /-- UV_TIMEOUT (R153): v_sense stays below v_ref_int − margin for the UV time in REGULATE. -/
  | uvTimeout
  /-- OVER_VOLTAGE (R154): The over-voltage comparator is recognised, every PWM goes low with EN high, and CROWBAR latches. -/
  | overVoltage
  /-- LAST_FAULT_FLASH_WRITE (R468): FP3 writes the last-fault record into the next log slot, erasing ahead. -/
  | lastFaultFlashWrite
  /-- TRACK_DELIVERY (R138): A master rail voltage v_m reaches the controller and sets the tracking target. -/
  | trackDelivery (vm : BitVec 16)
  /-- TRACK_HOLD_TIMEOUT (R138): No v_m for 1 ms: in START v_ref_int holds, in STOP tracking ends with target 0, and
  EV_VRC_TRK_HOLD is written. -/
  | trackHoldTimeout
  /-- PMB_TRANSACTION_DONE (R160): A PMBus transaction completes or fails and its result is applied to rail state,
  discovery, ramp or sweep. -/
  | pmbTransactionDone (result : Fin 4) (data : BitVec 16)
  /-- PMB_GROUP_START (R166): After its delay, a group is started with a group command and its members become RAMPING. -/
  | pmbGroupStart
  /-- PMB_GROUP_TIMEOUT (R168): A member is not GOOD within t_on of the on instant. -/
  | pmbGroupTimeout
  /-- PMB_GROUP_RETRY (R168): After cool and every member below 10 %, the failed group is started again. -/
  | pmbGroupRetry
  /-- PMB_GROUP_OFF_TIMEOUT (R169): In power-down, t_on passes before every member reads below 10 %; EV_PMB_OFF_SLOW is
  written and the sequence goes on. -/
  | pmbGroupOffTimeout
  /-- PMB_SWEEP_START (R170): At a sweep start, reads of every enabled rail begin, or the start is skipped if a sweep is
  running. -/
  | pmbSweepStart
  /-- PMB_ALERT (R171): PMB_ALERT_N asserts and Quefa reads the ARA, reads statuses and clears faults. -/
  | pmbAlert (low : Bool)
  /-- PMB_BUS_STUCK (R171): SDA or SCL held low for 35 ms triggers nine clocks and a stop, and sweeps pause if the bus is
  still stuck. -/
  | pmbBusStuck (still : Bool)
  /-- LOOP_RELEASE (R184): A loop context's release instant queues an evaluation. -/
  | loopRelease (n : Fin 4096) (overrun : Bool)
  /-- LOOP_SKIP (R198): A queued release reaches its deadline and is dropped as a skip. -/
  | loopSkip
  /-- LOOP_EVALUATION (R188): An issued evaluation runs the PI or FILT law, publishes its output and updates class values. -/
  | loopEvaluation (late : Bool)
  /-- RECONCILIATION (R278): FP1 reconciles a millisecond's estimates against measured energy into the accounts and
  completes the jobs waiting on that boundary. -/
  | reconciliation (other : List (Fin 4608 × BitVec 64)) (oh omc oma : BitVec 64) (oheld : List (Fin 512))
  /-- DOORBELL_PROD_WRITE (R295): A DB_PROD write is accepted or refused as a violation, and fetching may begin. -/
  | doorbellProdWrite (off : BitVec 22) (v : BitVec 32)
  /-- DOORBELL_CQ_HEAD_WRITE (R295): A DB_CQ_HEAD write is accepted or refused as a violation. -/
  | doorbellCqHeadWrite (off : BitVec 22) (v : BitVec 32)
  /-- DOORBELL_BAD_ACCESS (R296): A doorbell access of the wrong width or to an undefined offset is ignored and counted. -/
  | doorbellBadAccess (off : BitVec 22) (write : Bool) (width : Fin 4) (v : BitVec 32)
  /-- DOORBELL_STRAY (R292): A write outside the ring pages is ignored and counted in stray_db. -/
  | doorbellStray (off : BitVec 22)
  /-- BUCKET_LEAK (R311): At each leak interval every tenant ring's bucket falls by 1. -/
  | bucketLeak
  /-- DESCRIPTOR_FETCHED (R300): A descriptor read completes and enters the ring buffer, or fails after retries with
  ST_FETCH. -/
  | descriptorFetched (r : Fin 513) (ok : Bool) (bytes : BitVec 512)
  /-- FP2_TURN (R308): FP2 takes one buffered descriptor, checks it under R301 and hands it to its unit. -/
  | fp2Turn
  /-- FABRIC_ERROR (R313): A fabric transaction fails; a completion or notify write failure STOPS the ring, and others
  complete with ST_FETCH or ST_DMA. -/
  | fabricError (kind : Fin 6) (ring : Fin 513) (idx : BitVec 32)
  /-- HELLO (R305): HELLO negotiates the ring version and features. -/
  | hello
  /-- SLATE_OPEN (R318): SLATE_OPEN allocates the lowest FREE slate and returns its handle. -/
  | slateOpen
  /-- SLATE_WRITE (R319): SLATE_WRITE stages data into an OPEN slate's table. -/
  | slateWrite (data : List Byte)
  /-- SLATE_CHECK (R323): SLATE_CHECK runs the consistency check on the projected state. -/
  | slateCheck
  /-- TAKE (R325): TAKE checks the slate and hands it to the take engine for its shadow copy. -/
  | take
  /-- ABANDON (R322): ABANDON frees an OPEN slate, or withdraws the latest armed take if allowed. -/
  | abandon
  /-- JOB_OPEN (R283): JOB_OPEN reserves a job record whose start boundary is the next 1 ms boundary. -/
  | jobOpen
  /-- JOB_CLOSE (R284): JOB_CLOSE sets the end boundary of a job and reports its energy once that boundary is reconciled. -/
  | jobClose
  /-- READ_ENERGY (R282): READ_ENERGY returns an account's settled value, boundary and pending estimate. -/
  | readEnergy
  /-- SET_TENANT_CAP (R273): SET_TENANT_CAP writes ACT_TSET for the next division. -/
  | setTenantCap
  /-- FCST_LOAD (R110): FCST_LOAD checks the slot, sets it LOADING and starts reading the model image. -/
  | fcstLoad
  /-- TRACE_START (R491): TRACE_CTL start checks the region, writes the header and a TIME group and begins capture. -/
  | traceStart
  /-- TRACE_STOP (R491): TRACE_CTL stop ends capture, flushes staged groups and writes the stop timestamp. -/
  | traceStop
  /-- TRACE_FLUSH (R491): TRACE_CTL flush writes staged groups and updates the header. -/
  | traceFlush
  /-- CNT_DUMP (R505): CNT_CTL dump writes a counter-set snapshot into host memory. -/
  | cntDump
  /-- CNT_ZERO (R506): CNT_CTL zero clears a counter set at the next tick boundary. -/
  | cntZero
  /-- STEP_ENTER (R508): STEP enter puts an engine choker into per-command release mode with credits. -/
  | stepEnter
  /-- STEP_ADD (R508): STEP add adds credits to a choker in release mode. -/
  | stepAdd
  /-- STEP_LEAVE (R508): STEP leave ends release mode, presents any held request and discards credits. -/
  | stepLeave
  /-- STEP_PRESENT (R89): In release mode, with a credit and the previous command begun, the held request is presented. -/
  | stepPresent (choker : Fin 256)
  /-- EVT_READ (R456): EVT_READ copies sapwood or heartwood records into host memory. -/
  | evtRead
  /-- EVT_CLEAR (R459): EVT_CLEAR with a matching count starts a new heartwood generation and erases the old half. -/
  | evtClear
  /-- TIME_SET (R475): TIME_SET validates the civil fields and writes the civil-time anchor. -/
  | timeSet
  /-- QUARANTINE_RESUME (R312): QUARANTINE_RELEASE mode 0 returns a quarantined ring to RUNNING with its bucket at 0. -/
  | quarantineResume
  /-- QUARANTINE_RESET (R312): QUARANTINE_RELEASE mode 1 waits for in-flight descriptors, zeroes the indices and sets
  HELLO_WAIT. -/
  | quarantineReset
  /-- QUARANTINE_RESET_DRAINED (R312): A ring awaiting mode-1 reset has nothing in flight and is reset. -/
  | quarantineResetDrained (t : Fin 512)
  /-- HIF_SCTL_WRITE (R314): A HIF_SCTL write enables or disables the steward ring or sets its size. -/
  | hifSctlWrite (v : BitVec 32)
  /-- TAKE_ARMED (R325): The shadow copy ends and the take is armed with its instant, or found past. -/
  | takeArmed
  /-- TAKE_APPLY (R327): At the take instant every shadow value is written in one hub cycle and the take number advances. -/
  | takeApply (parity : Bool)
  /-- SHUTDOWN_DRAIN_DONE (R415): After the drain, QUEFA_READY negates and the power-down sequence begins with the core
  taking STOP. -/
  | shutdownDrainDone
  /-- POWER_DOWN_END (R415): The power-down sequence ends; the sapwood is mirrored and the stage becomes OFF. -/
  | powerDownEnd
  /-- RWT_DIRECT_WRITE (R321): A direct write to an RWT field is ignored and counted. -/
  | rwtDirectWrite (priv wide : Bool) (off : BitVec 22)
  /-- REGISTER_WRITE (R539): A direct register write without its own row stores its value, or is dropped in reserved or
  gated space. -/
  | registerWrite (priv wide : Bool) (off : BitVec 22) (v : BitVec 64)
  /-- REGISTER_LOW_WORD_READ (R539): A 32-bit read of the lowest word of a wide register latches its upper words for that
  master. -/
  | registerLowWordRead (aperture : Bool) (master : BitVec 8) (priv wide : Bool) (off : BitVec 22)
  /-- W1C_WRITE (R11): Writing 1 to a W1C bit clears that sticky flag unless it is set again in the same cycle. -/
  | w1cWrite (priv : Bool) (off : BitVec 22) (v again : BitVec 32)
  /-- SNAPSHOT_SELECT (R204): A write to a snapshot select register captures the selected context, object, account, member
  or ring entry whole. -/
  | snapshotSelect (sel : Fin 6) (v : BitVec 32)
  /-- MEM_BU_READ (R432): A write to MEM_BU_ADDR starts a 64-byte bring-up read. -/
  | memBuRead (v : BitVec 32) (ecc : List (Fin 8 × Bool))
  /-- MEM_BU_READ_DONE (R432): A bring-up read completes and MEM_BU_DATA becomes valid. -/
  | memBuReadDone
  /-- FM_START (R395): CLK_FM_CTL.start clears the frequency counter and starts a measurement. -/
  | fmStart (v : BitVec 32)
  /-- FM_DONE (R395): The measurement window ends and CLK_FM_CNT.done sets. -/
  | fmDone (edges : BitVec 31)
  /-- EVT_CIV_LATCH (R484): Writing EVT_CIV_LAT computes civil time for the write's timestamp. -/
  | evtCivLatch (v : BitVec 32)
  /-- WFG_START (R509): Writing CNT_WFG.start triggers assembly of a wait-for graph. -/
  | wfgStart (v : BitVec 32)
  /-- WFG_AUTO_TRIGGER (R509): An admitted request waiting longer than auto µs triggers a graph, at most once per 10 ms. -/
  | wfgAutoTrigger
  /-- WFG_COMPLETE (R511): FP0 completes the graph, marks cycle or trunc and writes WFG groups and events. -/
  | wfgComplete
  /-- FIRMWARE_MEMORY_ACCESS (R422): A non-owner master's bank access is checked against its region entries and rate gate
  and served or refused. -/
  | firmwareMemoryAccess (master : Fin 12) (bank : Fin 18) (line : BitVec 14) (write : Bool) (data : BitVec 512) (ecc : List (Fin 8 × Bool))
  /-- BACKGROUND_TEST (R428): Every period, one region is held, saved, march-tested and restored. -/
  | backgroundTest (fails : Bool) (ecc : List (Fin 32 × Bool))
  /-- WATCHDOG_EXPIRE (R442): A processor's watchdog expires and it restarts with cause 1. -/
  | watchdogExpire (n : Fin 4)
  /-- WATCHDOG_STRIKE (R442): Firmware strikes its watchdog, restarting its count. -/
  | watchdogStrike (n : Fin 4)
  /-- FW_EXCEPTION (R439): A processor exception or a double-bit error in its bank restarts it. -/
  | fwException (n : Fin 4) (ecc : Bool)
  /-- EVENT_RECORD_ACCEPT (R451): The recorder accepts a record, numbers it and writes it into the sapwood with its sequence
  word. -/
  | eventRecordAccept
  /-- HEARTWOOD_PROGRAM (R458): FP3 copies a heartwood record from the sapwood and programs it, or a placeholder. -/
  | heartwoodProgram
  /-- MIRROR_DEFER_EXPIRE (R461): The 10 s deferral ends and the deferred causes are taken as one mirror. -/
  | mirrorDeferExpire
  /-- FLASH_OP_DONE (R465): A flash program or erase completes and its item becomes valid on its final program. -/
  | flashOpDone
  /-- FLASH_OP_TIMEOUT (R472): A program or erase exceeds twice its maximum or fails, and is repeated once or reported with
  EV_NVM_ERR. -/
  | flashOpTimeout (st : BitVec 8)
  /-- SMB_IDENT (R479): SMBus IDENT returns the version words. -/
  | smbIdent (defined : Bool)
  /-- SMB_STATUS (R479): SMBus STATUS returns the status summary word. -/
  | smbStatus (defined : Bool)
  /-- SMB_TEMP_HOT (R479): SMBus TEMP_HOT returns THM_HOT. -/
  | smbTempHot (defined : Bool)
  /-- SMB_ANCHOR_LO (R479): SMBus ANCHOR_LO returns anchors 0 to 63. -/
  | smbAnchorLo (defined : Bool)
  /-- SMB_ANCHOR_HI (R479): SMBus ANCHOR_HI returns anchors 64 to 127. -/
  | smbAnchorHi (defined : Bool)
  /-- SMB_TIN_READ (R479): SMBus TIN read returns THM_TIN. -/
  | smbTinRead (defined : Bool)
  /-- SMB_TIN_WRITE (R479): SMBus TIN write sets THM_TIN when tin_en is 1. -/
  | smbTinWrite (defined pec : Bool) (v : BitVec 16)
  /-- SMB_POWER (R479): SMBus POWER returns the die, rail and budget powers and v_sense. -/
  | smbPower (defined : Bool)
  /-- SMB_LASTF_PAGE_READ (R479): SMBus LASTF_PAGE read returns the selected page. -/
  | smbLastfPageRead (defined : Bool)
  /-- SMB_LASTF_PAGE_WRITE (R479): SMBus LASTF_PAGE write selects the page. -/
  | smbLastfPageWrite (defined pec : Bool) (v : BitVec 8)
  /-- SMB_LASTF (R479): SMBus LASTF returns 128 bytes of VRC_LASTF. -/
  | smbLastf (defined : Bool)
  /-- SMB_EVT_SEL (R479): SMBus EVT_SEL selects a region and record. -/
  | smbEvtSel (defined pec : Bool) (region : BitVec 8) (num : BitVec 32)
  /-- SMB_EVT_DATA (R481): SMBus EVT_DATA returns the selected record through FP3 and advances the selection. -/
  | smbEvtData (defined inTime : Bool)
  /-- SMB_TIME (R479): SMBus TIME returns the civil time. -/
  | smbTime (defined : Bool)
  /-- SMB_BUS_TIMEOUT (R478): SCL low for 25 to 35 ms resets the target interface. -/
  | smbBusTimeout
  /-- TRACE_CONSUMED_REREAD (R490): With a group not fitting, Quefa rereads consumed at most once per µs. -/
  | traceConsumedReread (v : BitVec 64)
  /-- TRACE_HEADER_UPDATE (R490): written and loss are written to the header at least every 10 µs while groups are written. -/
  | traceHeaderUpdate
  /-- TRACE_GROUP_WRITE (R492): The writer writes a staged group to the region, or drops it whole and schedules a LOSS
  group. -/
  | traceGroupWrite
  /-- TRACE_TIME_GROUP (R494): At each timestamp multiple of 2^40, a TIME group is queued. -/
  | traceTimeGroup
  /-- TRACE_SAMPLE (R507): At a sample instant, SAMPLE groups of the die and the sampled tenant are queued. -/
  | traceSample
  /-- FAN_PWM_PERIOD (R517): A 40 µs fan period starts and applies the channel's duty and state. -/
  | fanPwmPeriod (n : Fin 4)
  /-- TACH_EDGE (R519): A filtered tach falling edge counts, and after k edges rpm is measured and the state judged. -/
  | tachEdge (n : Fin 4)
  /-- TACH_TIMEOUT (R519): No tach edge for tach_to × 10 ms sets rpm to 0, possibly entering LOST. -/
  | tachTimeout (n : Fin 4)
  /-- FAN_SPINUP_END (R521): SPINUP ends and the channel enters RUN, REST or FAILED. -/
  | fanSpinupEnd (n : Fin 4)
  /-- FAN_REST_END (R520): REST ends and the channel re-enters SPINUP. -/
  | fanRestEnd (n : Fin 4)
  /-- TS_RESYNC (R384): Every 1,024 units the master sends its value and followers off by more than 1 unit reload. -/
  | tsResync (found : List (Fin 8 × BitVec 32))
  /-- DVFS_REQUEST (R397): FP0 names a target operating point and the sequencer starts a one-point step. -/
  | dvfsRequest (target : Fin 8)
  /-- DVFS_VOLTAGE_READY (R397): For a step up, the voltage reaches target and settles. -/
  | dvfsVoltageReady
  /-- DVFS_SWITCH (R397): The first core cycle with the idle half locked and the voltage ready switches frequency and trim. -/
  | dvfsSwitch
  /-- DVFS_HALF_PARKED (R397): The half now idle locks at point 0's frequency. -/
  | dvfsHalfParked
  /-- DVFS_LOCK_TIMEOUT (R398): A half fails to lock within 20 µs and the step is abandoned. -/
  | dvfsLockTimeout
  /-- DVFS_RETRY (R88): Droop has been clear for the retry wait and a deferred step resumes. -/
  | dvfsRetry
  /-- MGT_FORWARD (R336): A whole management-lane message not for this package is forwarded by route or tree, or dropped. -/
  | mgtForward (link : Fin 64) (m : List Byte)
  /-- VERSION (R347): A VERSION message is received: the coordinator accepts or refuses a join, or a member takes its
  acceptance. -/
  | version (link : Fin 64) (m : List Byte)
  /-- DEMAND (R353): A DEMAND for epoch e + 2 is received by a coordinator. -/
  | demand (link : Fin 64) (m : List Byte)
  /-- GRANT (R352): A GRANT is received and fills the grant slot of its epoch, or is late. -/
  | grant (link : Fin 64) (m : List Byte)
  /-- HEARTBEAT (R356): A HEARTBEAT is received, updating the term and role and possibly starting a clap run. -/
  | heartbeat (link : Fin 64) (m : List Byte)
  /-- LEAVE (R348): A LEAVE is received, dropping a reservation or making the member rejoin. -/
  | leave (link : Fin 64) (m : List Byte)
  /-- CSYNC (R357): The standby receives CSYNC parts or membership records and acknowledges kind 0. -/
  | csync (link : Fin 64) (m : List Byte)
  /-- CSYNC_ACK (R357): The active receives CSYNC_ACK showing the parts received. -/
  | csyncAck (link : Fin 64) (m : List Byte)
  /-- CLAP_REQ (R343): A parent receives CLAP_REQ and answers with stamped CLAP_RSP. -/
  | clapReq (link : Fin 64) (stamp : BitVec 64) (m : List Byte)
  /-- CLAP_RSP (R343): A member receives CLAP_RSP and forms θ and δ for its run. -/
  | clapRsp (link : Fin 64) (stamp : BitVec 64) (m : List Byte)
  /-- CLAP_RUN (R343): A clap run of n exchanges starts on leaving DETACHED and every clap period. -/
  | clapRun
  /-- CLAP_RUN_END (R345): A clap run ends and sets o and ρ, or counts a failure. -/
  | clapRunEnd
  /-- EPOCH_BOUNDARY (R352): At an epoch boundary the grant slot or the decay is put in force and the coordinator sends
  HEARTBEAT. -/
  | epochBoundary
  /-- DEMAND_SEND (R350): At its demand offset, a member sends DEMAND for e + 2. -/
  | demandSend
  /-- SALGOR_CUT_OFF (R353): At the cut-off, the active coordinator freezes the demands and computes the grants. -/
  | salgorCutOff
  /-- CSYNC_SEND (R349): 50 µs after the cut-off, the active sends CSYNC kind 0 to the standby. -/
  | csyncSend
  /-- GRANT_SEND (R349): After the ack wait, the active sends GRANT to every member, at lo if unacknowledged. -/
  | grantSend
  /-- ORPHAN_TIMEOUT (R346): No HEARTBEAT for orphan epochs makes the member ORPHAN. -/
  | orphanTimeout
  /-- VERSION_RESEND (R346): Every 16 ms a JOINING or ORPHAN member resends its VERSION request. -/
  | versionResend
  /-- COORDINATOR_ALONE (R358): hb_miss epochs without a complete ack or HEARTBEAT make the coordinator alone, a standby
  taking over with a raised term. -/
  | coordinatorAlone
  /-- BRIDGE_UP (R536): Training completes and the pair bridge comes up, starting SYNC. -/
  | bridgeUp
  /-- BRIDGE_HB (R368): An HB message is received on the bridge. -/
  | bridgeHb (hdr : BitVec 96) (body : List Byte) (crc : BitVec 32)
  /-- BRIDGE_SYNC (R365): A SYNC message settles roles by term and starts the checkpoint. -/
  | bridgeSync (hdr : BitVec 96) (body : List Byte) (crc : BitVec 32)
  /-- BRIDGE_CKPT (R370): A CKPT part is received, and the last part is applied whole, reaching PAIRED. -/
  | bridgeCkpt (hdr : BitVec 96) (body : List Byte) (crc : BitVec 32)
  /-- BRIDGE_MIRROR (R370): The secondary applies a MIRROR record and answers MACK. -/
  | bridgeMirror (hdr : BitVec 96) (body : List Byte) (crc : BitVec 32)
  /-- BRIDGE_MACK (R370): The primary receives a MACK and makes the mirrored change visible. -/
  | bridgeMack (hdr : BitVec 96) (body : List Byte) (crc : BitVec 32)
  /-- BRIDGE_PREPARE (R330): The secondary receives PREPARE, checks its projection and answers READY or REFUSE. -/
  | bridgePrepare (hdr : BitVec 96) (body : List Byte) (crc : BitVec 32)
  /-- BRIDGE_READY (R330): The primary receives READY, fixes T and sends COMMIT or ABORT. -/
  | bridgeReady (hdr : BitVec 96) (body : List Byte) (crc : BitVec 32)
  /-- BRIDGE_REFUSE (R330): The primary receives REFUSE, disarms and completes ST_SLATE_REFUSED. -/
  | bridgeRefuse (hdr : BitVec 96) (body : List Byte) (crc : BitVec 32)
  /-- BRIDGE_COMMIT (R330): The secondary receives COMMIT with T and answers ACK. -/
  | bridgeCommit (hdr : BitVec 96) (body : List Byte) (crc : BitVec 32)
  /-- BRIDGE_ACK (R330): The primary receives ACK and will apply at T. -/
  | bridgeAck (hdr : BitVec 96) (body : List Byte) (crc : BitVec 32)
  /-- BRIDGE_DONE (R331): The primary receives DONE and completes the pair take or starts an undo on mismatch. -/
  | bridgeDone (hdr : BitVec 96) (body : List Byte) (crc : BitVec 32)
  /-- BRIDGE_ABORT (R330): The secondary receives ABORT and discards its armed pair take. -/
  | bridgeAbort (hdr : BitVec 96) (body : List Byte) (crc : BitVec 32)
  /-- PAIR_PREPARE_TIMEOUT (R330): No READY or REFUSE within the timeout: ABORT and ST_TAKE_FAILED. -/
  | pairPrepareTimeout
  /-- BRIDGE_DIEPWR (R367): The primary receives the other die's measured power for the tick. -/
  | bridgeDiepwr (hdr : BitVec 96) (body : List Byte) (crc : BitVec 32)
  /-- BRIDGE_PKG (R274): The secondary receives its die budget and tenant portions. -/
  | bridgePkg (hdr : BitVec 96) (body : List Byte) (crc : BitVec 32)
  /-- BRIDGE_CPLATE (R235): The secondary receives the primary's cold-plate node values. -/
  | bridgeCplate (hdr : BitVec 96) (body : List Byte) (crc : BitVec 32)
  /-- BRIDGE_LEDGER (R376): The primary receives split-ledger records to add at its next reconciliation. -/
  | bridgeLedger (hdr : BitVec 96) (body : List Byte) (crc : BitVec 32)
  /-- BRIDGE_SALG (R377): The primary receives a management-lane message passed on by the secondary. -/
  | bridgeSalg (hdr : BitVec 96) (body : List Byte) (crc : BitVec 32)
  /-- BRIDGE_PCLAP_REQ (R369): An instance receives PCLAP_REQ and answers PCLAP_RSP. -/
  | bridgePclapReq (hdr : BitVec 96) (body : List Byte) (crc : BitVec 32) (stamp : BitVec 64)
  /-- BRIDGE_PCLAP_RSP (R369): An instance receives PCLAP_RSP and updates PAR_OFS. -/
  | bridgePclapRsp (hdr : BitVec 96) (body : List Byte) (crc : BitVec 32) (stamp : BitVec 64)
  /-- BRIDGE_HANDOVER (R374): HANDOVER is received and, after the final checkpoint, the receiver becomes PRIMARY. -/
  | bridgeHandover (hdr : BitVec 96) (body : List Byte) (crc : BitVec 32)
  /-- BRIDGE_RETRANSMIT (R368): Unacknowledged messages are resent after rtx µs. -/
  | bridgeRetransmit
  /-- BRIDGE_CHECKPOINT_TIMER (R370): Every ckpt × 10 ms the primary sends a full checkpoint. -/
  | bridgeCheckpointTimer
  /-- BRIDGE_LOSS (R371): No valid message for loss µs, or rx_ok = 0, demotes a primary and enters SPLIT with half caps. -/
  | bridgeLoss
  /-- PAIR_TAKEOVER (R371): After take µs of silence, the secondary becomes PRIMARY with a raised term and resumes the
  rings. -/
  | pairTakeover
  /-- PMB_ALERT_MASK_END (R171): At the end of the second in which an alert storm masked PMB_ALERT_N, the alert input is
  heeded again and PMB_STAT.masked clears. -/
  | pmbAlertMaskEnd
  /-- PMB_BUS_FREE (R171): A PMBus bus that was declared stuck frees, PMB_STAT.stuck clears and sweeps resume. -/
  | pmbBusFree
  /-- CORE_START_DELAY (R166): With core_grp = 4, core_delay ms after the last group became good (or after POWER_UP entry if
  no group has rails), the regulator controller enters START. -/
  | coreStartDelay
  /-- VDD_QF_FALL (R537): VDD_QF falls below its range, so every output is released or goes to high impedance, every PWM
  goes to high impedance and every EN goes low, unless CROWBAR is latched. -/
  | vddQfFall
  /-- SMB_UNDEFINED_COMMAND (R480): An SMBus transaction with an undefined command code is not acknowledged, and it is
  counted and recorded as a kind-0 violation. -/
  | smbUndefinedCommand (code : BitVec 8)
  /-- BRIDGE_CLAP_SEND (R369): Every 1 ms each instance sends PCLAP_REQ over the pair bridge to start its bridge clap. -/
  | bridgeClapSend
deriving DecidableEq, Repr

end Sys2Proof
end

