-- ==== Sys2Proof/Config.lean ====
section
/-!
DEFINITION. Config.lean: what the manual leaves open: free values. Each is a constant without a body, so nothing can be proved of
the values it takes; the assumption log names each.
-/
namespace Sys2Proof

/-- R48 divides by v_ref_int: the fill value, 1/32 A, of an estimated energy while v_ref_int is 0 (log entry 20). -/
opaque Config.fillAtZeroRef : Nat → BitVec 16

/-- R60 divides by ACT_VREF: the voltage scale of a reference v_ref_int while ACT_VREF is 0 (log entry 20). -/
opaque Config.scaleAtZeroVref : Nat → BitVec 18

/-- The slice that EV_FCS_ARR_NAN names for the calibration program, by tick: the manual does not place its rows (log entry 22). -/
opaque Config.calSlice : Nat → BitVec 3

/-- A byte that the manual does not determine, by instant and bank address: a bank whose contents it does not lay out, or a region
that failed without a spare (R429; log entry 21). -/
opaque Config.freeByte : Nat → BitVec 8

end Sys2Proof
end

