-- ==== Sys2Proof/Machine/Regs.lean ====
section
/-!
DEFINITION. Machine/Regs.lean: every field of every register block of the manual (R538 to R543 and each unit's register map and
field table), one definition a field, named REGISTER_field as the manual writes REGISTER.field. A field says where it
lies, how many elements its array has, its width, its access code (R11) and its reset value.
-/
namespace Sys2Proof.Machine

/-- The access codes of R11. -/
inductive Acc where
  | rw | ro | wo | w1c | rwt
deriving DecidableEq, Repr

/-- A register field. The key of element i is its bit address in the register window; fused fields reset to the value State's
fuses list at the fuse key. -/
structure Fld where
  key    : Nat
  count  : Nat
  stride : Nat
  width  : Nat
  acc    : Acc
  rst    : Bool → Nat → Nat   -- whether the die is a Glatos D, and the element
  fused  : Bool := false
  fuseKey : Nat := 0

/-- The key of element i (an index past the array wraps: no caller passes one). -/
def Fld.keyOf (f : Fld) (i : Nat) : Nat := f.key + (i % f.count) * f.stride

/-- R205: the default linked anchor of a node. -/
def thmNodeAnchor (n : Nat) : Nat := if n < 256 then n / 4 else if n < 320 then n - 192 else 0
/-- R205: the default threshold group of a node. -/
def thmNodeGroup (n : Nat) : Nat :=
  if n < 256 then 0 else if n < 280 then 1 else if n < 448 then 0 else if n < 504 then 2 else 3

/-- R421: the size of a bank in 256-byte regions. -/
def bankRegions (b : Nat) : Nat :=
  if b < 8 then 4096 else if b < 10 then 2048 else if b = 10 then 1024 else if b = 11 then 512
  else if b = 12 then 256 else if b = 13 then 1024 else if b < 18 then 2048 else 0

/-- R421: the access of each master to each bank beyond eight entries is kept apart (log entry 8). These are the reset
entries of MEM_RGN as (bank, read, write), the owner's own bank first. -/
def rgnReset (master : Nat) : List (Nat × Bool × Bool) :=
  match master with
  | 0 => [(0, true, true), (1, true, true), (2, true, true), (3, true, true), (4, true, true), (5, true, true),
          (6, true, true), (7, true, true)]
  | 1 => [(8, true, true)]
  | 2 => [(9, true, true), (8, false, true), (12, false, true)]
  | 3 => [(10, true, true)]
  | 4 => [(11, true, true)]
  | 5 => [(12, true, true)]
  | 6 => [(13, true, true)]
  | 8 => [(14, true, true), (8, true, false), (9, true, true), (11, true, false), (0, true, true), (1, true, true),
          (2, true, true), (3, true, true)]
  | 9 => [(15, true, true), (10, true, true), (0, true, false), (1, true, false), (2, true, false), (3, true, false),
          (4, true, false), (5, true, false)]
  | 10 => [(16, true, true), (12, true, true)]
  | 11 => [(17, true, true), (13, true, true)]
  | 12 => [(0, true, false), (1, true, false), (2, true, false), (3, true, false), (4, true, false), (5, true, false),
           (6, true, false), (7, true, false)]
  | _ => []

/-- R421: the listed accesses that no reset entry of the master has room for (log entry 8). -/
def rgnExtra (master : Nat) : List (Nat × Bool × Bool) :=
  match master with
  | 8 => [(4, true, true), (5, true, true), (6, true, true), (7, true, true)]
  | 9 => [(6, true, false), (7, true, false)]
  | 12 => [(8, true, false), (9, true, false), (10, true, false), (11, true, false), (12, true, false), (13, true, false),
           (14, true, false), (15, true, false), (16, true, false), (17, true, false)]
  | _ => []

/-- Entry e of a master at reset, where it has one. -/
def rgnEntry (i : Nat) : Option (Nat × Bool × Bool) := (rgnReset (i / 8))[i % 8]?
def rgnBank (i : Nat) : Nat := match rgnEntry i with | some (b, _, _) => b | none => 0
def rgnR (i : Nat) : Nat := match rgnEntry i with | some (_, r, _) => b2n r | none => 0
def rgnW (i : Nat) : Nat := match rgnEntry i with | some (_, _, w) => b2n w | none => 0
def rgnValid (i : Nat) : Nat := b2n (rgnEntry i).isSome
def rgnSize (i : Nat) : Nat := match rgnEntry i with | some (b, _, _) => bankRegions b | none => 0


/-! ### SNS: 02_sensing.md -/

/-- R65 -/
def SNS_ID : Fld := ⟨0xe0000, 1, 32, 32, .ro, fun _ _ => 0x10001, false, 0⟩
/-- R65 -/
def SNS_CTL_lane_en : Fld := ⟨0xe0080, 1, 32, 18, .rwt, fun _ _ => 262143, false, 0⟩
/-- R65 -/
def SNS_CTL_anc_en : Fld := ⟨0xe0092, 1, 32, 1, .rwt, fun _ _ => 1, false, 0⟩
/-- R65 -/
def SNS_FRZ_frz_window : Fld := ⟨0xe0100, 1, 32, 16, .rwt, fun _ _ => 1024, false, 0⟩
/-- R65 -/
def SNS_FRZ_stale_frames : Fld := ⟨0xe0110, 1, 32, 4, .rwt, fun _ _ => 3, false, 0⟩
/-- R65 -/
def SNS_DRP_BAND_band : Fld := ⟨0xe0180, 1, 32, 3, .ro, fun _ _ => 2, false, 0⟩
/-- R65 -/
def SNS_TLM_STAT_state : Fld := ⟨0xe0200, 18, 32, 2, .ro, fun _ _ => 0, false, 0⟩
/-- R65 -/
def SNS_TLM_STAT_degraded : Fld := ⟨0xe0202, 18, 32, 1, .ro, fun _ _ => 0, false, 0⟩
/-- R65 -/
def SNS_TLM_STAT_crc_err : Fld := ⟨0xe0204, 18, 32, 8, .ro, fun _ _ => 0, false, 0⟩
/-- R65 -/
def SNS_TLM_STAT_lane_err : Fld := ⟨0xe020c, 18, 32, 4, .ro, fun _ _ => 0, false, 0⟩
/-- R65 -/
def SNS_TLM_STAT_lost : Fld := ⟨0xe0210, 18, 32, 16, .ro, fun _ _ => 0, false, 0⟩
/-- R65 -/
def SNS_TLM_CNT_ver_err : Fld := ⟨0xe0480, 18, 32, 8, .ro, fun _ _ => 0, false, 0⟩
/-- R65 -/
def SNS_TLM_CNT_rsv_err : Fld := ⟨0xe0488, 18, 32, 8, .ro, fun _ _ => 0, false, 0⟩
/-- R65 -/
def SNS_TLM_CNT_dup : Fld := ⟨0xe0490, 18, 32, 16, .ro, fun _ _ => 0, false, 0⟩
/-- R65 -/
def SNS_TLM_LAT : Fld := ⟨0xe0800, 18, 8, 8, .rwt, fun _ _ => 0, false, 0⟩
/-- R65 -/
def SNS_PHQ_current : Fld := ⟨0xe1800, 144, 32, 16, .ro, fun _ _ => 0, false, 0⟩
/-- R65 -/
def SNS_PHQ_quality : Fld := ⟨0xe1810, 144, 32, 3, .ro, fun _ _ => 6, false, 0⟩
/-- R65 -/
def SNS_PHQ_status : Fld := ⟨0xe1813, 144, 32, 4, .ro, fun _ _ => 0, false, 0⟩
/-- R65 -/
def SNS_PHT : Fld := ⟨0xe3000, 144, 16, 16, .ro, fun _ _ => 32768, false, 0⟩
/-- R65 -/
def SNS_ANC_value : Fld := ⟨0xe4000, 128, 32, 16, .ro, fun _ _ => 0, false, 0⟩
/-- R65 -/
def SNS_ANC_fault : Fld := ⟨0xe4010, 128, 32, 1, .ro, fun _ _ => 0, false, 0⟩
/-- R65 -/
def SNS_ANC_broken : Fld := ⟨0xe4011, 128, 32, 1, .ro, fun _ _ => 0, false, 0⟩
/-- R65 -/
def SNS_DRP_MASK : Fld := ⟨0xe5000, 64, 32, 32, .rwt, fun _ _ => 0, false, 0⟩
/-- R65 -/
def SNS_DRP_FORCE : Fld := ⟨0xe5800, 64, 32, 32, .rw, fun _ _ => 0, false, 0⟩
/-- R65 -/
def SNS_DRP_THR : Fld := ⟨0xe8000, 10240, 8, 8, .rwt, fun _ i => [18, 19, 20, 22, 24].getD (i / 2048) 0, false, 0⟩

/-! ### ACT: 02_sensing.md -/

/-- R66 -/
def ACT_ID : Fld := ⟨0x1e0000, 1, 32, 32, .ro, fun _ _ => 0x10001, false, 0⟩
/-- R66 -/
def ACT_CTL_cal_en : Fld := ⟨0x1e0080, 1, 32, 1, .rwt, fun _ _ => 1, false, 0⟩
/-- R66 -/
def ACT_VREF : Fld := ⟨0x1e0100, 1, 32, 16, .rwt, fun _ _ => 3400, false, 0⟩
/-- R66 -/
def ACT_CAL_LIM_pct : Fld := ⟨0x1e0180, 1, 32, 7, .rwt, fun _ _ => 25, false, 0⟩
/-- R66 -/
def ACT_COEF : Fld := ⟨0x1e0800, 64, 32, 32, .rwt, fun _ _ => 0, true, 0x1e0800⟩
/-- R66 -/
def ACT_COEF_CAL : Fld := ⟨0x1e1000, 64, 32, 32, .ro, fun _ _ => 0, true, 0x1e0800⟩
/-- R66 -/
def ACT_SHAPE_W : Fld := ⟨0x1e1800, 16, 8, 8, .rwt, fun _ _ => 16, false, 0⟩
/-- R66 -/
def ACT_IDLE : Fld := ⟨0x1e2000, 1, 32, 32, .rwt, fun _ _ => 0, true, 0x1e2000⟩
/-- R66 -/
def ACT_LEAK : Fld := ⟨0x1e2800, 64, 32, 32, .rwt, fun _ _ => 0, true, 0x1e2800⟩
/-- R66 -/
def ACT_EST_DIE : Fld := ⟨0x1e3800, 1, 32, 32, .ro, fun _ _ => 0, false, 0⟩
/-- R66 -/
def ACT_MEAS_DIE : Fld := ⟨0x1e3820, 1, 32, 32, .ro, fun _ _ => 0, false, 0⟩
/-- R66 -/
def ACT_MEAS_FILL : Fld := ⟨0x1e3840, 1, 32, 16, .ro, fun _ _ => 0, false, 0⟩

/-! ### CHK: 03_chokers.md -/

/-- R92 -/
def CHK_ID : Fld := ⟨0x100000, 1, 32, 32, .ro, fun _ _ => 0x10001, false, 0⟩
/-- R92 -/
def CHK_SLOPE_slope : Fld := ⟨0x100080, 1, 32, 14, .rwt, fun _ _ => 1000, false, 0⟩
/-- R92 -/
def CHK_DRP_CFG_hold : Fld := ⟨0x1000a0, 1, 32, 16, .rwt, fun _ _ => 256, false, 0⟩
/-- R92 -/
def CHK_FB_CTL_holdoff : Fld := ⟨0x100100, 1, 32, 16, .rwt, fun _ _ => 100, false, 0⟩
/-- R92 -/
def CHK_FB_CTL_release : Fld := ⟨0x100110, 1, 32, 1, .rwt, fun _ _ => 0, false, 0⟩
/-- R92 -/
def CHK_FB_STAT_state : Fld := ⟨0x100120, 1, 32, 2, .ro, fun _ _ => 0, false, 0⟩
/-- R92 -/
def CHK_FB_STAT_armed : Fld := ⟨0x100122, 1, 32, 1, .ro, fun _ _ => 0, false, 0⟩
/-- R92 -/
def CHK_FB_STAT_wire : Fld := ⟨0x100123, 1, 32, 1, .ro, fun _ _ => 0, false, 0⟩
/-- R92 -/
def CHK_FB_STAT_count : Fld := ⟨0x100130, 1, 32, 16, .ro, fun _ _ => 0, false, 0⟩
/-- R92 -/
def CHK_DVFS_CFG_retry : Fld := ⟨0x100180, 1, 32, 16, .rwt, fun _ _ => 20, false, 0⟩
/-- R92 -/
def CHK_DVFS_STAT_cancel : Fld := ⟨0x1001a0, 1, 32, 8, .ro, fun _ _ => 0, false, 0⟩
/-- R92 -/
def CHK_DVFS_STAT_deferred : Fld := ⟨0x1001a8, 1, 32, 1, .ro, fun _ _ => 0, false, 0⟩
/-- R92 -/
def CHK_RAMP_STAT_up_wait : Fld := ⟨0x100200, 1, 32, 9, .ro, fun _ _ => 0, false, 0⟩
/-- R92 -/
def CHK_RAMP_STAT_dn_wait : Fld := ⟨0x100210, 1, 32, 9, .ro, fun _ _ => 0, false, 0⟩
/-- R92 -/
def CHK_ALLOW_floor : Fld := ⟨0x102000, 320, 32, 7, .rwt, fun _ i => if i < 256 then 1 else 8, false, 0⟩
/-- R92 -/
def CHK_ALLOW_droop : Fld := ⟨0x102008, 320, 32, 7, .rwt, fun _ _ => 8, false, 0⟩
/-- R92 -/
def CHK_ALLOW_step_max : Fld := ⟨0x102010, 320, 32, 7, .rwt, fun _ _ => 16, false, 0⟩
/-- R92 -/
def CHK_ALLOW_now : Fld := ⟨0x102018, 320, 32, 7, .ro, fun _ _ => 0, false, 0⟩
/-- R92 -/
def CHK_ALLOW_in_droop : Fld := ⟨0x10201f, 320, 32, 1, .ro, fun _ _ => 0, false, 0⟩
/-- R92 -/
def CHK_IMAX_imax : Fld := ⟨0x105000, 320, 16, 16, .rwt, fun _ _ => 1, true, 0x105000⟩
/-- R92 -/
def CHK_STEP_mode : Fld := ⟨0x108000, 256, 32, 1, .ro, fun _ _ => 0, false, 0⟩
/-- R92 -/
def CHK_STEP_held : Fld := ⟨0x108001, 256, 32, 1, .ro, fun _ _ => 0, false, 0⟩
/-- R92 -/
def CHK_STEP_credits : Fld := ⟨0x108008, 256, 32, 8, .ro, fun _ _ => 0, false, 0⟩
/-- R92 -/
def CHK_STEP_seq : Fld := ⟨0x108010, 256, 32, 8, .ro, fun _ _ => 0, false, 0⟩

/-! ### FCS: 04_forecast.md -/

/-- R130 -/
def FCS_ID : Fld := ⟨0x180000, 1, 32, 32, .ro, fun _ _ => 0x10001, false, 0⟩
/-- R130 -/
def FCS_CTL_fc_en : Fld := ⟨0x180080, 1, 32, 1, .rwt, fun _ _ => 1, false, 0⟩
/-- R130 -/
def FCS_CTL_prompt_en : Fld := ⟨0x180081, 1, 32, 1, .rwt, fun _ _ => 1, false, 0⟩
/-- R130 -/
def FCS_CTL_ff_en : Fld := ⟨0x180082, 1, 32, 1, .rwt, fun _ _ => 1, false, 0⟩
/-- R130 -/
def FCS_FF_gain : Fld := ⟨0x1800a0, 1, 32, 8, .rwt, fun _ _ => 128, false, 0⟩
/-- R130 -/
def FCS_FF_lead : Fld := ⟨0x1800a8, 1, 32, 4, .rwt, fun _ _ => 1, false, 0⟩
/-- R130 -/
def FCS_FF_IMAX_imax : Fld := ⟨0x1800c0, 1, 32, 32, .rwt, fun _ _ => 0x7D000, false, 0⟩
/-- R130 -/
def FCS_LP_horizon : Fld := ⟨0x1800e0, 1, 32, 6, .rwt, fun _ _ => 8, false, 0⟩
/-- R130 -/
def FCS_PROMPT_gap : Fld := ⟨0x180100, 1, 32, 7, .rwt, fun _ _ => 20, false, 0⟩
/-- R130 -/
def FCS_CAL_lam : Fld := ⟨0x180180, 1, 32, 16, .rwt, fun _ _ => 16, false, 0⟩
/-- R130 -/
def FCS_CAL_p0_exp : Fld := ⟨0x180190, 1, 32, 8, .rwt, fun _ _ => 248, false, 0⟩
/-- R130 -/
def FCS_CAL_STAT_upd : Fld := ⟨0x1801a0, 1, 32, 16, .ro, fun _ _ => 0, false, 0⟩
/-- R130 -/
def FCS_CAL_STAT_resets : Fld := ⟨0x1801b0, 1, 32, 8, .ro, fun _ _ => 0, false, 0⟩
/-- R130 -/
def FCS_ARR_STAT_nan : Fld := ⟨0x180200, 1, 32, 1, .w1c, fun _ _ => 0, false, 0⟩
/-- R130 -/
def FCS_ARR_STAT_inf : Fld := ⟨0x180201, 1, 32, 1, .w1c, fun _ _ => 0, false, 0⟩
/-- R130 -/
def FCS_ARR_STAT_util : Fld := ⟨0x180208, 1, 32, 8, .ro, fun _ _ => 0, false, 0⟩
/-- R130 -/
def FCS_ARR_STAT_qmax : Fld := ⟨0x180210, 1, 32, 4, .ro, fun _ _ => 0, false, 0⟩
/-- R130 -/
def FCS_LOAD_STAT_slot : Fld := ⟨0x180220, 1, 32, 6, .ro, fun _ _ => 0, false, 0⟩
/-- R130 -/
def FCS_LOAD_STAT_busy : Fld := ⟨0x180226, 1, 32, 1, .ro, fun _ _ => 0, false, 0⟩
/-- R130 -/
def FCS_TMAP : Fld := ⟨0x180800, 512, 8, 8, .rwt, fun _ _ => 0, false, 0⟩
/-- R130 -/
def FCS_SLOT_state : Fld := ⟨0x182000, 48, 32, 2, .ro, fun _ _ => 0, false, 0⟩
/-- R130 -/
def FCS_SLOT_mode : Fld := ⟨0x182002, 48, 32, 1, .ro, fun _ _ => 0, false, 0⟩
/-- R130 -/
def FCS_SLOT_ID_ident : Fld := ⟨0x182800, 48, 32, 32, .ro, fun _ _ => 0, false, 0⟩
/-- R130 -/
def FCS_CORE_force_static : Fld := ⟨0x183000, 64, 32, 1, .rwt, fun _ _ => 0, false, 0⟩
/-- R130 -/
def FCS_CORE_ln : Fld := ⟨0x183001, 64, 32, 1, .ro, fun _ _ => 0, false, 0⟩
/-- R130 -/
def FCS_CORE_fallback : Fld := ⟨0x183002, 64, 32, 1, .ro, fun _ _ => 0, false, 0⟩
/-- R130 -/
def FCS_CORE_sallow : Fld := ⟨0x183008, 64, 32, 7, .rwt, fun _ _ => 8, false, 0⟩
/-- R130 -/
def FCS_CORE_istat : Fld := ⟨0x183010, 64, 32, 16, .rwt, fun _ _ => 640, false, 0⟩
/-- R130 -/
def FCS_DISCARD_wrong : Fld := ⟨0x184000, 64, 32, 16, .ro, fun _ _ => 0, false, 0⟩
/-- R130 -/
def FCS_DISCARD_unres : Fld := ⟨0x184010, 64, 32, 16, .ro, fun _ _ => 0, false, 0⟩
/-- R130 -/
def FCS_NFC_count : Fld := ⟨0x184800, 64, 32, 32, .ro, fun _ _ => 0, false, 0⟩
/-- R130 -/
def FCS_DIE_FC_current : Fld := ⟨0x185000, 32, 32, 32, .ro, fun _ _ => 0, false, 0⟩

/-! ### VRC: 05_regulator.md -/

/-- R159 -/
def VRC_ID : Fld := ⟨0x120000, 1, 32, 32, .ro, fun _ _ => 0x10001, false, 0⟩
/-- R159 -/
def VRC_CTL_run : Fld := ⟨0x120080, 1, 32, 1, .rwt, fun _ _ => 0, false, 0⟩
/-- R159 -/
def VRC_CTL_trk : Fld := ⟨0x120081, 1, 32, 2, .rwt, fun _ _ => 0, false, 0⟩
/-- R159 -/
def VRC_CTL_de_en : Fld := ⟨0x120083, 1, 32, 1, .rwt, fun _ _ => 1, false, 0⟩
/-- R159 -/
def VRC_CTL_brk_en : Fld := ⟨0x120084, 1, 32, 1, .rwt, fun _ _ => 1, false, 0⟩
/-- R159 -/
def VRC_CTL_restart : Fld := ⟨0x120085, 1, 32, 1, .rwt, fun _ _ => 0, false, 0⟩
/-- R159 -/
def VRC_CTL_unshed : Fld := ⟨0x120086, 1, 32, 1, .rwt, fun _ _ => 0, false, 0⟩
/-- R159 -/
def VRC_STAT_state : Fld := ⟨0x1200a0, 1, 32, 3, .ro, fun _ _ => 0, false, 0⟩
/-- R159 -/
def VRC_STAT_de : Fld := ⟨0x1200a3, 1, 32, 1, .ro, fun _ _ => 0, false, 0⟩
/-- R159 -/
def VRC_STAT_climit : Fld := ⟨0x1200a4, 1, 32, 1, .ro, fun _ _ => 0, false, 0⟩
/-- R159 -/
def VRC_STAT_exc : Fld := ⟨0x1200a5, 1, 32, 1, .ro, fun _ _ => 0, false, 0⟩
/-- R159 -/
def VRC_STAT_peak_spent : Fld := ⟨0x1200a6, 1, 32, 1, .ro, fun _ _ => 0, false, 0⟩
/-- R159 -/
def VRC_STAT_n_en : Fld := ⟨0x1200a8, 1, 32, 8, .ro, fun _ _ => 0, false, 0⟩
/-- R159 -/
def VRC_STAT_fault : Fld := ⟨0x1200b0, 1, 32, 8, .ro, fun _ _ => 0, false, 0⟩
/-- R159 -/
def VRC_VSET_vset : Fld := ⟨0x120100, 1, 32, 16, .rwt, fun _ _ => 3400, false, 0⟩
/-- R159 -/
def VRC_SLEW_slew : Fld := ⟨0x120120, 1, 32, 16, .rwt, fun _ _ => 40, false, 0⟩
/-- R159 -/
def VRC_VREF_vref : Fld := ⟨0x120140, 1, 32, 16, .ro, fun _ _ => 0, false, 0⟩
/-- R159 -/
def VRC_VSENSE_vsense : Fld := ⟨0x120160, 1, 32, 16, .ro, fun _ _ => 0, false, 0⟩
/-- R159 -/
def VRC_VIN_vin : Fld := ⟨0x120180, 1, 32, 16, .rwt, fun _ _ => 48000, false, 0⟩
/-- R159 -/
def VRC_LPH_lph : Fld := ⟨0x1201a0, 1, 32, 16, .rwt, fun _ _ => 1600, false, 0⟩
/-- R159 -/
def VRC_PWM_period : Fld := ⟨0x120200, 1, 32, 14, .rwt, fun _ _ => 3200, false, 0⟩
/-- R159 -/
def VRC_PWM_LIM_ton_min : Fld := ⟨0x120220, 1, 32, 8, .rwt, fun _ _ => 24, false, 0⟩
/-- R159 -/
def VRC_PWM_LIM_toff_min : Fld := ⟨0x120228, 1, 32, 8, .rwt, fun _ _ => 64, false, 0⟩
/-- R159 -/
def VRC_PID_A_kp : Fld := ⟨0x120240, 1, 32, 16, .rwt, fun _ _ => 512, false, 0⟩
/-- R159 -/
def VRC_PID_A_ki : Fld := ⟨0x120250, 1, 32, 16, .rwt, fun _ _ => 256, false, 0⟩
/-- R159 -/
def VRC_PID_B_kd : Fld := ⟨0x120260, 1, 32, 16, .rwt, fun _ _ => 2048, false, 0⟩
/-- R159 -/
def VRC_PID_B_dsh : Fld := ⟨0x120270, 1, 32, 4, .rwt, fun _ _ => 2, false, 0⟩
/-- R159 -/
def VRC_OCP_PH_iph : Fld := ⟨0x120300, 1, 32, 12, .rwt, fun _ _ => 704, false, 0⟩
/-- R159 -/
def VRC_OCP_PH_fold_min : Fld := ⟨0x12030c, 1, 32, 8, .rwt, fun _ _ => 64, false, 0⟩
/-- R159 -/
def VRC_OCP_TOT_icont : Fld := ⟨0x120320, 1, 32, 16, .rwt, fun _ _ => 2000, false, 0⟩
/-- R159 -/
def VRC_OCP_TOT_ipeak : Fld := ⟨0x120330, 1, 32, 16, .rwt, fun _ _ => 2800, false, 0⟩
/-- R159 -/
def VRC_OCP_TRIP_itrip : Fld := ⟨0x120340, 1, 32, 16, .rwt, fun _ _ => 3000, false, 0⟩
/-- R159 -/
def VRC_OCP_TRIP_tpeak : Fld := ⟨0x120350, 1, 32, 16, .rwt, fun _ _ => 1000, false, 0⟩
/-- R159 -/
def VRC_OCP_STAT_peak : Fld := ⟨0x120360, 1, 32, 16, .ro, fun _ _ => 0, false, 0⟩
/-- R159 -/
def VRC_OCP_STAT_avail : Fld := ⟨0x120370, 1, 32, 16, .ro, fun _ _ => 0, false, 0⟩
/-- R159 -/
def VRC_OVP_level : Fld := ⟨0x120380, 1, 32, 16, .rwt, fun _ _ => 4200, false, 0⟩
/-- R159 -/
def VRC_UV_margin : Fld := ⟨0x1203a0, 1, 32, 8, .rwt, fun _ _ => 50, false, 0⟩
/-- R159 -/
def VRC_UV_time : Fld := ⟨0x1203b0, 1, 32, 16, .rwt, fun _ _ => 100, false, 0⟩
/-- R159 -/
def VRC_DE_enter : Fld := ⟨0x1203c0, 1, 32, 8, .rwt, fun _ _ => 32, false, 0⟩
/-- R159 -/
def VRC_DE_exit : Fld := ⟨0x1203c8, 1, 32, 8, .rwt, fun _ _ => 48, false, 0⟩
/-- R159 -/
def VRC_DE_dwell : Fld := ⟨0x1203d0, 1, 32, 8, .rwt, fun _ _ => 10, false, 0⟩
/-- R159 -/
def VRC_DE_zc_trim : Fld := ⟨0x1203d8, 1, 32, 8, .rwt, fun _ _ => 122, false, 0⟩
/-- R159 -/
def VRC_BRK_vf : Fld := ⟨0x1203e0, 1, 32, 12, .rwt, fun _ _ => 700, false, 0⟩
/-- R159 -/
def VRC_BRK_min : Fld := ⟨0x1203ec, 1, 32, 8, .rwt, fun _ _ => 16, false, 0⟩
/-- R159 -/
def VRC_TRK_master : Fld := ⟨0x120400, 1, 32, 4, .rwt, fun _ _ => 0, false, 0⟩
/-- R159 -/
def VRC_TRK_vm_set : Fld := ⟨0x120410, 1, 32, 16, .rwt, fun _ _ => 7200, false, 0⟩
/-- R159 -/
def VRC_PH_CFG_min_ph : Fld := ⟨0x120420, 1, 32, 8, .rwt, fun _ _ => 120, false, 0⟩
/-- R159 -/
def VRC_OPP_v : Fld := ⟨0x120480, 8, 32, 16, .rwt, fun _ i => [0x0A28, 0x0A8C, 0x0AF0, 0x0B54, 0x0BB8, 0x0C80, 0x0D48, 0x0E10].getD i 0, false, 0⟩
/-- R159 -/
def VRC_DT_td_hl : Fld := ⟨0x120800, 5, 32, 8, .rwt, fun _ i => [32, 36, 40, 48, 56].getD i 0, false, 0⟩
/-- R159 -/
def VRC_DT_td_lh : Fld := ⟨0x120808, 5, 32, 8, .rwt, fun _ i => [24, 28, 32, 36, 44].getD i 0, false, 0⟩
/-- R159 -/
def VRC_PH_EN : Fld := ⟨0x121000, 5, 32, 32, .rwt, fun _ i => if i = 4 then 0xFFFF else 0xFFFFFFFF, false, 0⟩
/-- R159 -/
def VRC_PH_SHED : Fld := ⟨0x121100, 5, 32, 32, .ro, fun _ _ => 0, false, 0⟩
/-- R159 -/
def VRC_PH_STAT_ton : Fld := ⟨0x122000, 144, 32, 14, .ro, fun _ _ => 0, false, 0⟩
/-- R159 -/
def VRC_PH_STAT_lim_hits : Fld := ⟨0x122010, 144, 32, 8, .ro, fun _ _ => 0, false, 0⟩
/-- R159 -/
def VRC_PH_STAT_shed : Fld := ⟨0x122018, 144, 32, 3, .ro, fun _ _ => 0, false, 0⟩
/-- R159 -/
def VRC_PH_STAT_de : Fld := ⟨0x12201b, 144, 32, 1, .ro, fun _ _ => 0, false, 0⟩
/-- R159 -/
def VRC_PH_STAT_brake : Fld := ⟨0x12201c, 144, 32, 1, .ro, fun _ _ => 0, false, 0⟩
/-- R159 -/
def VRC_LASTF : Fld := ⟨0x124000, 1, 4096, 4096, .ro, fun _ _ => 0, false, 0⟩

/-! ### PMB: 06_aux_rails.md -/

/-- R173 -/
def PMB_ID : Fld := ⟨0x140000, 1, 32, 32, .ro, fun _ _ => 0x10001, false, 0⟩
/-- R173 -/
def PMB_CTL_speed : Fld := ⟨0x140080, 1, 32, 2, .rwt, fun _ _ => 1, false, 0⟩
/-- R173 -/
def PMB_CTL_auto_clear : Fld := ⟨0x140082, 1, 32, 1, .rwt, fun _ _ => 1, false, 0⟩
/-- R173 -/
def PMB_CTL_alert_en : Fld := ⟨0x140083, 1, 32, 1, .rwt, fun _ _ => 1, false, 0⟩
/-- R173 -/
def PMB_CTL_retries : Fld := ⟨0x140084, 1, 32, 4, .rwt, fun _ _ => 2, false, 0⟩
/-- R173 -/
def PMB_STAT_seq : Fld := ⟨0x1400a0, 1, 32, 3, .ro, fun _ _ => 0, false, 0⟩
/-- R173 -/
def PMB_STAT_stuck : Fld := ⟨0x1400a3, 1, 32, 1, .ro, fun _ _ => 0, false, 0⟩
/-- R173 -/
def PMB_STAT_masked : Fld := ⟨0x1400a4, 1, 32, 1, .ro, fun _ _ => 0, false, 0⟩
/-- R173 -/
def PMB_STAT_unk : Fld := ⟨0x1400a8, 1, 32, 8, .ro, fun _ _ => 0, false, 0⟩
/-- R173 -/
def PMB_STAT_skip : Fld := ⟨0x1400b0, 1, 32, 8, .ro, fun _ _ => 0, false, 0⟩
/-- R173 -/
def PMB_POLL_period : Fld := ⟨0x1400c0, 1, 32, 8, .rwt, fun _ _ => 5, false, 0⟩
/-- R173 -/
def PMB_SEQ_core_grp : Fld := ⟨0x140100, 1, 32, 3, .rwt, fun _ _ => 4, false, 0⟩
/-- R173 -/
def PMB_SEQ_core_delay : Fld := ⟨0x140108, 1, 32, 8, .rwt, fun _ _ => 1, false, 0⟩
/-- R173 -/
def PMB_GRP_t_on : Fld := ⟨0x140200, 4, 32, 8, .rwt, fun _ _ => 20, false, 0⟩
/-- R173 -/
def PMB_GRP_delay : Fld := ⟨0x140208, 4, 32, 8, .rwt, fun _ _ => 1, false, 0⟩
/-- R173 -/
def PMB_GRP_cool : Fld := ⟨0x140210, 4, 32, 8, .rwt, fun _ _ => 50, false, 0⟩
/-- R173 -/
def PMB_GRP_retries : Fld := ⟨0x140218, 4, 32, 2, .rwt, fun _ _ => 1, false, 0⟩
/-- R173 -/
def PMB_RAIL_addr : Fld := ⟨0x140800, 16, 64, 7, .rwt, fun _ _ => 0, false, 0⟩
/-- R173 -/
def PMB_RAIL_en : Fld := ⟨0x140807, 16, 64, 1, .rwt, fun _ _ => 0, false, 0⟩
/-- R173 -/
def PMB_RAIL_page : Fld := ⟨0x140808, 16, 64, 8, .rwt, fun _ _ => 0, false, 0⟩
/-- R173 -/
def PMB_RAIL_group : Fld := ⟨0x140810, 16, 64, 2, .rwt, fun _ _ => 0, false, 0⟩
/-- R173 -/
def PMB_RAIL_crit : Fld := ⟨0x140812, 16, 64, 1, .rwt, fun _ _ => 0, false, 0⟩
/-- R173 -/
def PMB_RAIL_target : Fld := ⟨0x140820, 16, 64, 16, .rwt, fun _ _ => 0, false, 0⟩
/-- R173 -/
def PMB_RAIL_pg_pct : Fld := ⟨0x140830, 16, 64, 6, .rwt, fun _ _ => 0, false, 0⟩
/-- R173 -/
def PMB_RAIL_STAT_status : Fld := ⟨0x141000, 16, 32, 16, .ro, fun _ _ => 0, false, 0⟩
/-- R173 -/
def PMB_RAIL_STAT_state : Fld := ⟨0x141010, 16, 32, 3, .ro, fun _ _ => 0, false, 0⟩
/-- R173 -/
def PMB_RAIL_STAT_nack : Fld := ⟨0x141014, 16, 32, 4, .ro, fun _ _ => 0, false, 0⟩
/-- R173 -/
def PMB_RAIL_STAT_pec : Fld := ⟨0x141018, 16, 32, 8, .ro, fun _ _ => 0, false, 0⟩
/-- R173 -/
def PMB_RAIL_V : Fld := ⟨0x141800, 16, 32, 32, .ro, fun _ _ => 0, false, 0⟩
/-- R173 -/
def PMB_RAIL_P : Fld := ⟨0x141a00, 16, 32, 32, .ro, fun _ _ => 0, false, 0⟩

/-! ### LPE: 07_loops.md -/

/-- R204 -/
def LPE_ID : Fld := ⟨0x1a0000, 1, 32, 32, .ro, fun _ _ => 0x10001, false, 0⟩
/-- R204 -/
def LPE_GUARD_fill_max : Fld := ⟨0x1a0080, 1, 32, 8, .rwt, fun _ _ => 10, false, 0⟩
/-- R204 -/
def LPE_BUDGET_units : Fld := ⟨0x1a0100, 1, 32, 24, .ro, fun _ _ => 0, false, 0⟩
/-- R204 -/
def LPE_STAT_skips : Fld := ⟨0x1a0120, 1, 32, 16, .ro, fun _ _ => 0, false, 0⟩
/-- R204 -/
def LPE_STAT_late : Fld := ⟨0x1a0130, 1, 32, 8, .ro, fun _ _ => 0, false, 0⟩
/-- R204 -/
def LPE_STAT_fb : Fld := ⟨0x1a0138, 1, 32, 8, .ro, fun _ _ => 0, false, 0⟩
/-- R204 -/
def LPE_LOAD_util : Fld := ⟨0x1a0140, 1, 32, 8, .ro, fun _ _ => 0, false, 0⟩
/-- R204 -/
def LPE_LOAD_stall : Fld := ⟨0x1a0148, 1, 32, 8, .ro, fun _ _ => 0, false, 0⟩
/-- R204 -/
def LPE_LOAD_qmax : Fld := ⟨0x1a0150, 1, 32, 16, .ro, fun _ _ => 0, false, 0⟩
/-- R204 -/
def LPE_CTX_SEL_ctx : Fld := ⟨0x1a0180, 1, 32, 12, .rw, fun _ _ => 0, false, 0⟩
/-- R204 -/
def LPE_CTX_CFG : Fld := ⟨0x1a0200, 16, 32, 32, .ro, fun _ _ => 0, false, 0⟩
/-- R204 -/
def LPE_CTX_ST : Fld := ⟨0x1a0400, 8, 32, 32, .ro, fun _ _ => 0, false, 0⟩
/-- R204 -/
def LPE_FAULT : Fld := ⟨0x1a0800, 128, 32, 32, .ro, fun _ _ => 0, false, 0⟩
/-- R204 -/
def LPE_OVR : Fld := ⟨0x1a1800, 128, 32, 32, .ro, fun _ _ => 0, false, 0⟩
/-- R204 -/
def LPE_CLASS_cur : Fld := ⟨0x1a4000, 320, 64, 7, .ro, fun _ _ => 64, false, 0⟩
/-- R204 -/
def LPE_CLASS_pwr : Fld := ⟨0x1a4008, 320, 64, 7, .ro, fun _ _ => 64, false, 0⟩
/-- R204 -/
def LPE_CLASS_thm : Fld := ⟨0x1a4010, 320, 64, 7, .ro, fun _ _ => 64, false, 0⟩
/-- R204 -/
def LPE_CLASS_slp : Fld := ⟨0x1a4018, 320, 64, 7, .ro, fun _ _ => 64, false, 0⟩
/-- R204 -/
def LPE_CLASS_ten : Fld := ⟨0x1a4020, 320, 64, 7, .ro, fun _ _ => 64, false, 0⟩
/-- R204 -/
def LPE_CLASS_row4 : Fld := ⟨0x1a4028, 320, 64, 7, .ro, fun _ _ => 0, false, 0⟩

/-! ### THM: 08_thermal.md -/

/-- R238 -/
def THM_ID : Fld := ⟨0x160000, 1, 32, 32, .ro, fun _ _ => 0x10001, false, 0⟩
/-- R238 -/
def THM_CTL_run : Fld := ⟨0x160080, 1, 32, 1, .rwt, fun _ _ => 0, false, 0⟩
/-- R238 -/
def THM_CTL_set : Fld := ⟨0x160081, 1, 32, 2, .rwt, fun _ _ => 0, false, 0⟩
/-- R238 -/
def THM_CTL_anc_rearm : Fld := ⟨0x160083, 1, 32, 1, .rwt, fun _ _ => 0, false, 0⟩
/-- R238 -/
def THM_CTL_corr_en : Fld := ⟨0x160084, 1, 32, 1, .rwt, fun _ _ => 1, false, 0⟩
/-- R238 -/
def THM_STAT_state : Fld := ⟨0x1600a0, 1, 32, 3, .ro, fun _ _ => 0, false, 0⟩
/-- R238 -/
def THM_STAT_generic : Fld := ⟨0x1600a3, 1, 32, 1, .ro, fun _ _ => 0, false, 0⟩
/-- R238 -/
def THM_STAT_band : Fld := ⟨0x1600a4, 1, 32, 3, .ro, fun _ _ => 2, false, 0⟩
/-- R238 -/
def THM_STAT_cp_remote : Fld := ⟨0x1600a7, 1, 32, 1, .ro, fun _ _ => 0, false, 0⟩
/-- R238 -/
def THM_STAT_warn : Fld := ⟨0x1600a8, 1, 32, 1, .ro, fun _ _ => 0, false, 0⟩
/-- R238 -/
def THM_STAT_throttle : Fld := ⟨0x1600a9, 1, 32, 1, .ro, fun _ _ => 0, false, 0⟩
/-- R238 -/
def THM_STAT_shut : Fld := ⟨0x1600aa, 1, 32, 1, .ro, fun _ _ => 0, false, 0⟩
/-- R238 -/
def THM_STAT_stage_hot : Fld := ⟨0x1600ab, 1, 32, 1, .ro, fun _ _ => 0, false, 0⟩
/-- R238 -/
def THM_STAT_blind : Fld := ⟨0x1600ac, 1, 32, 1, .ro, fun _ _ => 0, false, 0⟩
/-- R238 -/
def THM_STAT_refresh : Fld := ⟨0x1600b0, 1, 32, 2, .ro, fun _ _ => 2, false, 0⟩
/-- R238 -/
def THM_STEP_period : Fld := ⟨0x1600c0, 1, 32, 10, .rwt, fun _ _ => 10, false, 0⟩
/-- R238 -/
def THM_STEP_catchup : Fld := ⟨0x1600d0, 1, 32, 4, .rwt, fun _ _ => 4, false, 0⟩
/-- R238 -/
def THM_STEP_STAT_late : Fld := ⟨0x1600e0, 1, 32, 16, .ro, fun _ _ => 0, false, 0⟩
/-- R238 -/
def THM_STEP_STAT_reinit : Fld := ⟨0x1600f0, 1, 32, 8, .ro, fun _ _ => 0, false, 0⟩
/-- R238 -/
def THM_STEP_STAT_pend : Fld := ⟨0x1600f8, 1, 32, 4, .ro, fun _ _ => 0, false, 0⟩
/-- R238 -/
def THM_STEP_STAT_tin_rej : Fld := ⟨0x1600fc, 1, 32, 4, .ro, fun _ _ => 0, false, 0⟩
/-- R238 -/
def THM_TIN_tin : Fld := ⟨0x160100, 1, 32, 16, .rw, fun _ _ => 3200, false, 0⟩
/-- R238 -/
def THM_HOT_value : Fld := ⟨0x160120, 1, 32, 16, .ro, fun _ _ => 0, false, 0⟩
/-- R238 -/
def THM_HOT_node : Fld := ⟨0x160130, 1, 32, 9, .ro, fun _ _ => 0, false, 0⟩
/-- R238 -/
def THM_ANC_clamp : Fld := ⟨0x160180, 1, 32, 8, .rwt, fun _ _ => 64, false, 0⟩
/-- R238 -/
def THM_ANC_dmodel : Fld := ⟨0x160188, 1, 32, 8, .rwt, fun _ _ => 96, false, 0⟩
/-- R238 -/
def THM_ANC_dnb : Fld := ⟨0x160190, 1, 32, 8, .rwt, fun _ _ => 64, false, 0⟩
/-- R238 -/
def THM_ANC_persist : Fld := ⟨0x160198, 1, 32, 4, .rwt, fun _ _ => 3, false, 0⟩
/-- R238 -/
def THM_BLIND_blind : Fld := ⟨0x1601a0, 1, 32, 8, .rwt, fun _ _ => 80, false, 0⟩
/-- R238 -/
def THM_LVL_warn : Fld := ⟨0x160200, 4, 64, 16, .rwt, fun _ _ => 12160, false, 0⟩
/-- R238 -/
def THM_LVL_throttle : Fld := ⟨0x160210, 4, 64, 16, .rwt, fun _ _ => 13440, false, 0⟩
/-- R238 -/
def THM_LVL_shutdown : Fld := ⟨0x160220, 4, 64, 16, .rwt, fun _ _ => 15360, false, 0⟩
/-- R238 -/
def THM_LVL_hyst : Fld := ⟨0x160230, 4, 64, 8, .rwt, fun _ _ => 48, false, 0⟩
/-- R238 -/
def THM_LVL_rate : Fld := ⟨0x160238, 4, 64, 8, .rwt, fun _ _ => 80, false, 0⟩
/-- R238 -/
def THM_BAND_e1 : Fld := ⟨0x160300, 1, 32, 8, .rwt, fun _ _ => 45, false, 0⟩
/-- R238 -/
def THM_BAND_e2 : Fld := ⟨0x160308, 1, 32, 8, .rwt, fun _ _ => 65, false, 0⟩
/-- R238 -/
def THM_BAND_e3 : Fld := ⟨0x160310, 1, 32, 8, .rwt, fun _ _ => 85, false, 0⟩
/-- R238 -/
def THM_BAND_e4 : Fld := ⟨0x160318, 1, 32, 8, .rwt, fun _ _ => 100, false, 0⟩
/-- R238 -/
def THM_BAND_CFG_hyst : Fld := ⟨0x160320, 1, 32, 4, .rwt, fun _ _ => 2, false, 0⟩
/-- R238 -/
def THM_BAND_CFG_dwell : Fld := ⟨0x160328, 1, 32, 8, .rwt, fun _ _ => 1, false, 0⟩
/-- R238 -/
def THM_BAND_CFG_refresh : Fld := ⟨0x160330, 1, 32, 10, .rwt, fun _ _ => 576, false, 0⟩
/-- R238 -/
def THM_STG_warn : Fld := ⟨0x160340, 1, 32, 8, .rwt, fun _ _ => 110, false, 0⟩
/-- R238 -/
def THM_STG_limit : Fld := ⟨0x160348, 1, 32, 8, .rwt, fun _ _ => 125, false, 0⟩
/-- R238 -/
def THM_SHD_drain : Fld := ⟨0x160360, 1, 32, 8, .rwt, fun _ _ => 10, false, 0⟩
/-- R238 -/
def THM_SET_ID_ident : Fld := ⟨0x160400, 1, 32, 32, .ro, fun _ _ => 0, false, 0⟩
/-- R238 -/
def THM_SET_PER_period : Fld := ⟨0x160420, 1, 32, 10, .ro, fun _ _ => 0, false, 0⟩
/-- R238 -/
def THM_NODE_anchor : Fld := ⟨0x160800, 512, 32, 7, .rwt, fun _ => thmNodeAnchor, false, 0⟩
/-- R238 -/
def THM_NODE_linked : Fld := ⟨0x160807, 512, 32, 1, .rwt, fun _ n => if n < 320 then 1 else 0, false, 0⟩
/-- R238 -/
def THM_NODE_weight : Fld := ⟨0x160808, 512, 32, 8, .rwt, fun _ n => if n < 256 then (if n % 4 = 0 then 128 else 64) else if n < 320 then 128 else 0, false, 0⟩
/-- R238 -/
def THM_NODE_group : Fld := ⟨0x160810, 512, 32, 2, .rwt, fun _ => thmNodeGroup, false, 0⟩
/-- R238 -/
def THM_NODE_band_src : Fld := ⟨0x160812, 512, 32, 1, .rwt, fun _ n => if n < 320 ∨ 504 ≤ n then 1 else 0, false, 0⟩
/-- R238 -/
def THM_ANB_nb0 : Fld := ⟨0x165000, 128, 32, 7, .rwt, fun _ _ => 0, true, 0x165000⟩
/-- R238 -/
def THM_ANB_nb1 : Fld := ⟨0x165008, 128, 32, 7, .rwt, fun _ _ => 0, true, 0x165008⟩
/-- R238 -/
def THM_ANB_nb2 : Fld := ⟨0x165010, 128, 32, 7, .rwt, fun _ _ => 0, true, 0x165010⟩
/-- R238 -/
def THM_ANB_nb3 : Fld := ⟨0x165018, 128, 32, 7, .rwt, fun _ _ => 0, true, 0x165018⟩
/-- R238 -/
def THM_ANB_v0 : Fld := ⟨0x165007, 128, 32, 1, .rwt, fun _ _ => 0, true, 0x165007⟩
/-- R238 -/
def THM_ANB_v1 : Fld := ⟨0x16500f, 128, 32, 1, .rwt, fun _ _ => 0, true, 0x16500f⟩
/-- R238 -/
def THM_ANB_v2 : Fld := ⟨0x165017, 128, 32, 1, .rwt, fun _ _ => 0, true, 0x165017⟩
/-- R238 -/
def THM_ANB_v3 : Fld := ⟨0x16501f, 128, 32, 1, .rwt, fun _ _ => 0, true, 0x16501f⟩
/-- R238 -/
def THM_X_x : Fld := ⟨0x168000, 512, 32, 32, .ro, fun _ _ => 0, false, 0⟩
/-- R238 -/
def THM_L_limit : Fld := ⟨0x16c000, 512, 32, 16, .ro, fun _ _ => 0, false, 0⟩
/-- R238 -/
def THM_L_warn : Fld := ⟨0x16c010, 512, 32, 1, .ro, fun _ _ => 0, false, 0⟩
/-- R238 -/
def THM_L_throttle : Fld := ⟨0x16c011, 512, 32, 1, .ro, fun _ _ => 0, false, 0⟩
/-- R238 -/
def THM_L_blind : Fld := ⟨0x16c012, 512, 32, 1, .ro, fun _ _ => 0, false, 0⟩
/-- R238 -/
def THM_L_anchored : Fld := ⟨0x16c013, 512, 32, 1, .ro, fun _ _ => 0, false, 0⟩
/-- R238 -/
def THM_ANC_ST_residual : Fld := ⟨0x170000, 128, 32, 16, .ro, fun _ _ => 0, false, 0⟩
/-- R238 -/
def THM_ANC_ST_dmod : Fld := ⟨0x170010, 128, 32, 1, .ro, fun _ _ => 0, false, 0⟩
/-- R238 -/
def THM_ANC_ST_dnb : Fld := ⟨0x170011, 128, 32, 1, .ro, fun _ _ => 0, false, 0⟩
/-- R238 -/
def THM_ANC_ST_nb_na : Fld := ⟨0x170012, 128, 32, 1, .ro, fun _ _ => 0, false, 0⟩
/-- R238 -/
def THM_ANC_ST_healthy : Fld := ⟨0x170013, 128, 32, 1, .ro, fun _ _ => 0, false, 0⟩
/-- R238 -/
def THM_ANC_ST_run : Fld := ⟨0x170014, 128, 32, 4, .ro, fun _ _ => 0, false, 0⟩
/-- R238 -/
def THM_RATE : Fld := ⟨0x172000, 512, 16, 16, .ro, fun _ _ => 0, false, 0⟩

/-! ### TLY: 09_tallies.md -/

/-- R267 -/
def TLY_ID : Fld := ⟨0x1c0000, 1, 32, 32, .ro, fun _ _ => 0x10001, false, 0⟩
/-- R267 -/
def TLY_CFG_recall : Fld := ⟨0x1c0080, 1, 32, 16, .rwt, fun _ _ => 50, false, 0⟩
/-- R267 -/
def TLY_CFG_quantum : Fld := ⟨0x1c0090, 1, 32, 10, .rwt, fun _ _ => 16, false, 0⟩
/-- R267 -/
def TLY_STAT_free : Fld := ⟨0x1c0100, 1, 32, 14, .ro, fun _ _ => 8192, false, 0⟩
/-- R267 -/
def TLY_STAT_rsv : Fld := ⟨0x1c0110, 1, 32, 16, .ro, fun _ _ => 0, false, 0⟩
/-- R267 -/
def TLY_VIOL_rel_err : Fld := ⟨0x1c0120, 1, 32, 8, .ro, fun _ _ => 0, false, 0⟩
/-- R267 -/
def TLY_VIOL_bad_req : Fld := ⟨0x1c0128, 1, 32, 8, .ro, fun _ _ => 0, false, 0⟩
/-- R267 -/
def TLY_VIOL_late_rel : Fld := ⟨0x1c0130, 1, 32, 8, .ro, fun _ _ => 0, false, 0⟩
/-- R267 -/
def TLY_VIOL_nogrant : Fld := ⟨0x1c0138, 1, 32, 8, .ro, fun _ _ => 0, false, 0⟩
/-- R267 -/
def TLY_RCL_nprog : Fld := ⟨0x1c0140, 1, 32, 16, .ro, fun _ _ => 0, false, 0⟩
/-- R267 -/
def TLY_RCL_rsv : Fld := ⟨0x1c0150, 1, 32, 16, .ro, fun _ _ => 0, false, 0⟩
/-- R267 -/
def TLY_OBJ_SEL_obj : Fld := ⟨0x1c0180, 1, 32, 13, .rw, fun _ _ => 0, false, 0⟩
/-- R267 -/
def TLY_OBJ : Fld := ⟨0x1c0200, 4, 32, 32, .ro, fun _ _ => 0, false, 0⟩
/-- R267 -/
def TLY_POOL_cap : Fld := ⟨0x1c0800, 16, 64, 13, .rwt, fun _ p => if p = 0 then 3200 else if p = 15 then 400 else 0, false, 0⟩
/-- R267 -/
def TLY_POOL_coll : Fld := ⟨0x1c080d, 16, 64, 1, .rwt, fun _ p => if p = 15 then 1 else 0, false, 0⟩
/-- R267 -/
def TLY_POOL_recall : Fld := ⟨0x1c0810, 16, 64, 16, .rwt, fun _ _ => 0, false, 0⟩
/-- R267 -/
def TLY_POOL_age : Fld := ⟨0x1c0820, 16, 64, 16, .rwt, fun _ _ => 100, false, 0⟩
/-- R267 -/
def TLY_POOL_rwait : Fld := ⟨0x1c0830, 16, 64, 16, .rwt, fun _ _ => 20, false, 0⟩
/-- R267 -/
def TLY_POOL_ST_used : Fld := ⟨0x1c1000, 16, 32, 13, .ro, fun _ _ => 0, false, 0⟩
/-- R267 -/
def TLY_POOL_ST_rsv : Fld := ⟨0x1c100d, 16, 32, 1, .ro, fun _ _ => 0, false, 0⟩
/-- R267 -/
def TLY_POOL_ST_rq : Fld := ⟨0x1c100e, 16, 32, 1, .ro, fun _ _ => 0, false, 0⟩
/-- R267 -/
def TLY_POOL_ST_clamped : Fld := ⟨0x1c1010, 16, 32, 8, .ro, fun _ _ => 0, false, 0⟩
/-- R267 -/
def TLY_POOL_ST_waiting : Fld := ⟨0x1c1018, 16, 32, 8, .ro, fun _ _ => 0, false, 0⟩
/-- R267 -/
def TLY_PSEL_pool : Fld := ⟨0x1c1800, 256, 8, 4, .rwt, fun _ _ => 0, false, 0⟩
/-- R267 -/
def TLY_PSEL_cpool : Fld := ⟨0x1c1804, 256, 8, 4, .rwt, fun _ _ => 15, false, 0⟩
/-- R267 -/
def TLY_AMT_amount : Fld := ⟨0x1c2000, 64, 32, 10, .rwt, fun _ i => [40, 16, 8, 8].getD (i / 16) 8, false, 0⟩
/-- R267 -/
def TLY_AMT_slew : Fld := ⟨0x1c200c, 64, 32, 2, .rwt, fun _ _ => 0, false, 0⟩
/-- R267 -/
def TLY_SLEW_step : Fld := ⟨0x1c2800, 4, 32, 7, .rwt, fun _ i => [64, 16, 8, 4].getD i 4, false, 0⟩
/-- R267 -/
def TLY_TEN_weight : Fld := ⟨0x1c8000, 512, 64, 8, .rwt, fun _ _ => 1, false, 0⟩
/-- R267 -/
def TLY_TEN_objmax : Fld := ⟨0x1c8010, 512, 64, 14, .rwt, fun _ _ => 16, false, 0⟩
/-- R267 -/
def TLY_TEN_quota : Fld := ⟨0x1c8020, 512, 64, 16, .rwt, fun _ _ => 4000, false, 0⟩
/-- R267 -/
def TLY_TEN_ST_committed : Fld := ⟨0x1d0000, 512, 32, 16, .ro, fun _ _ => 0, false, 0⟩
/-- R267 -/
def TLY_TEN_ST_objects : Fld := ⟨0x1d0010, 512, 32, 14, .ro, fun _ _ => 0, false, 0⟩

/-! ### ACT: 10_tenants.md -/

/-- R291 -/
def ACT_ACC_CTL_idle_mode : Fld := ⟨0x1e4000, 1, 32, 1, .rwt, fun _ _ => 1, false, 0⟩
/-- R291 -/
def ACT_ACC_CTL_aux_mode : Fld := ⟨0x1e4001, 1, 32, 1, .rwt, fun _ _ => 1, false, 0⟩
/-- R291 -/
def ACT_ACC_CTL_smax : Fld := ⟨0x1e4008, 1, 32, 8, .rwt, fun _ _ => 32, false, 0⟩
/-- R291 -/
def ACT_ACC_CTL_deadband : Fld := ⟨0x1e4010, 1, 32, 6, .rwt, fun _ _ => 2, false, 0⟩
/-- R291 -/
def ACT_ACC_CTL_jobmax : Fld := ⟨0x1e4018, 1, 32, 6, .rwt, fun _ _ => 16, false, 0⟩
/-- R291 -/
def ACT_ACC_STAT_clamp : Fld := ⟨0x1e4020, 1, 32, 8, .ro, fun _ _ => 0, false, 0⟩
/-- R291 -/
def ACT_ACC_STAT_stray : Fld := ⟨0x1e4028, 1, 32, 8, .ro, fun _ _ => 0, false, 0⟩
/-- R291 -/
def ACT_ACC_STAT_behind : Fld := ⟨0x1e4030, 1, 32, 1, .ro, fun _ _ => 0, false, 0⟩
/-- R291 -/
def ACT_ACC_STAT_dmin : Fld := ⟨0x1e4038, 1, 32, 8, .ro, fun _ _ => 10, false, 0⟩
/-- R291 -/
def ACT_PKG_CAP_cap : Fld := ⟨0x1e4080, 1, 32, 32, .rwt, fun _ _ => 16000, false, 0⟩
/-- R291 -/
def ACT_PKG_BUD : Fld := ⟨0x1e40a0, 1, 32, 32, .ro, fun _ _ => 16000, false, 0⟩
/-- R291 -/
def ACT_SELF_self : Fld := ⟨0x1e40c0, 1, 32, 32, .rwt, fun _ _ => 0, true, 0x1e40c0⟩
/-- R291 -/
def ACT_HOUSE : Fld := ⟨0x1e4100, 1, 64, 64, .ro, fun _ _ => 0, false, 0⟩
/-- R291 -/
def ACT_RLOSS : Fld := ⟨0x1e4140, 1, 64, 64, .ro, fun _ _ => 0, false, 0⟩
/-- R291 -/
def ACT_RECON_T : Fld := ⟨0x1e4180, 1, 64, 64, .ro, fun _ _ => 0, false, 0⟩
/-- R291 -/
def ACT_ACC_SEL_idx : Fld := ⟨0x1e4200, 1, 32, 13, .rw, fun _ _ => 0, false, 0⟩
/-- R291 -/
def ACT_ACC : Fld := ⟨0x1e4280, 4, 32, 32, .ro, fun _ _ => 0, false, 0⟩
/-- R291 -/
def ACT_TCAP : Fld := ⟨0x1e8000, 512, 32, 32, .ro, fun _ _ => 4294967295, false, 0⟩
/-- R291 -/
def ACT_TSET : Fld := ⟨0x1ec000, 512, 32, 32, .ro, fun _ _ => 4294967295, false, 0⟩
/-- R291 -/
def ACT_QOWN_tenant : Fld := ⟨0x1f0000, 4096, 16, 9, .rwt, fun _ _ => 0, false, 0⟩
/-- R291 -/
def ACT_QOWN_valid : Fld := ⟨0x1f000f, 4096, 16, 1, .rwt, fun _ _ => 0, false, 0⟩

/-! ### HIF: 11_rings.md -/

/-- R317 -/
def HIF_ID : Fld := ⟨0xa0000, 1, 32, 32, .ro, fun _ _ => 0x10001, false, 0⟩
/-- R317 -/
def HIF_VER_gen : Fld := ⟨0xa0020, 1, 32, 8, .ro, fun _ _ => 1, false, 0⟩
/-- R317 -/
def HIF_VER_ring : Fld := ⟨0xa0028, 1, 32, 8, .ro, fun _ _ => 18, false, 0⟩
/-- R317 -/
def HIF_VER_slate : Fld := ⟨0xa0030, 1, 32, 8, .ro, fun _ _ => 17, false, 0⟩
/-- R317 -/
def HIF_VER_salgor : Fld := ⟨0xa0038, 1, 32, 8, .ro, fun _ _ => 16, false, 0⟩
/-- R317 -/
def HIF_FEAT : Fld := ⟨0xa0040, 1, 64, 64, .ro, fun d _ => if d then 0x7FF else 0x7F7, false, 0⟩
/-- R317 -/
def HIF_SCTL_en : Fld := ⟨0xa0080, 1, 32, 1, .rw, fun _ _ => 0, false, 0⟩
/-- R317 -/
def HIF_SCTL_size : Fld := ⟨0xa0088, 1, 32, 5, .rw, fun _ _ => 0, false, 0⟩
/-- R317 -/
def HIF_SDESC_base : Fld := ⟨0xa00c0, 1, 64, 64, .rw, fun _ _ => 0, false, 0⟩
/-- R317 -/
def HIF_SCPL_base : Fld := ⟨0xa0100, 1, 64, 64, .rw, fun _ _ => 0, false, 0⟩
/-- R317 -/
def HIF_SNOTIFY_addr : Fld := ⟨0xa0140, 1, 64, 64, .rw, fun _ _ => 0, false, 0⟩
/-- R317 -/
def HIF_QLIM_limit : Fld := ⟨0xa0180, 1, 32, 8, .rwt, fun _ _ => 32, false, 0⟩
/-- R317 -/
def HIF_QLIM_leak : Fld := ⟨0xa0188, 1, 32, 8, .rwt, fun _ _ => 10, false, 0⟩
/-- R317 -/
def HIF_LIM_inflight : Fld := ⟨0xa01a0, 1, 32, 9, .rwt, fun _ _ => 64, false, 0⟩
/-- R317 -/
def HIF_STAT_viol : Fld := ⟨0xa01c0, 1, 32, 16, .ro, fun _ _ => 0, false, 0⟩
/-- R317 -/
def HIF_STAT_fabric : Fld := ⟨0xa01d0, 1, 32, 8, .ro, fun _ _ => 0, false, 0⟩
/-- R317 -/
def HIF_STAT_stray_db : Fld := ⟨0xa01d8, 1, 32, 8, .ro, fun _ _ => 0, false, 0⟩
/-- R317 -/
def HIF_TRING_SEL_tenant : Fld := ⟨0xa0200, 1, 32, 9, .rw, fun _ _ => 0, false, 0⟩
/-- R317 -/
def HIF_TRING_SNAP : Fld := ⟨0xa0400, 16, 32, 32, .ro, fun _ _ => 0, false, 0⟩
/-- R317 -/
def HIF_QUAR : Fld := ⟨0xa0800, 16, 32, 32, .ro, fun _ _ => 0, false, 0⟩
/-- R317 -/
def HIF_RSTATE : Fld := ⟨0xa1000, 65, 32, 32, .ro, fun _ _ => 0, false, 0⟩

/-! ### SLT: 12_slate.md -/

/-- R334 -/
def SLT_ID : Fld := ⟨0xc0000, 1, 32, 32, .ro, fun _ _ => 0x10001, false, 0⟩
/-- R334 -/
def SLT_PAIR_lead : Fld := ⟨0xc0080, 1, 32, 16, .rwt, fun _ _ => 20, false, 0⟩
/-- R334 -/
def SLT_PAIR_timeout : Fld := ⟨0xc0090, 1, 32, 16, .rwt, fun _ _ => 1000, false, 0⟩
/-- R334 -/
def SLT_STAT_open : Fld := ⟨0xc00a0, 1, 32, 4, .ro, fun _ _ => 0, false, 0⟩
/-- R334 -/
def SLT_STAT_armed : Fld := ⟨0xc00a4, 1, 32, 3, .ro, fun _ _ => 0, false, 0⟩
/-- R334 -/
def SLT_STAT_pair : Fld := ⟨0xc00a7, 1, 32, 1, .ro, fun _ _ => 0, false, 0⟩
/-- R334 -/
def SLT_STAT_lines : Fld := ⟨0xc00a8, 1, 32, 17, .ro, fun _ _ => 0, false, 0⟩
/-- R334 -/
def SLT_TAKE_take : Fld := ⟨0xc00c0, 1, 32, 32, .ro, fun _ _ => 0, false, 0⟩
/-- R334 -/
def SLT_TAKE_WRAP_wraps : Fld := ⟨0xc00e0, 1, 32, 32, .ro, fun _ _ => 0, false, 0⟩
/-- R334 -/
def SLT_TAKE_T_instant : Fld := ⟨0xc0100, 1, 64, 64, .ro, fun _ _ => 0, false, 0⟩
/-- R334 -/
def SLT_RWT_offset : Fld := ⟨0xc0140, 1, 32, 20, .ro, fun _ _ => 0, false, 0⟩
/-- R334 -/
def SLT_RWT_count : Fld := ⟨0xc0154, 1, 32, 12, .ro, fun _ _ => 0, false, 0⟩
/-- R334 -/
def SLT_FAIL_failed : Fld := ⟨0xc0180, 1, 32, 8, .ro, fun _ _ => 0, false, 0⟩
/-- R334 -/
def SLT_FAIL_rollback : Fld := ⟨0xc0188, 1, 32, 8, .ro, fun _ _ => 0, false, 0⟩
/-- R334 -/
def SLT_FAIL_past : Fld := ⟨0xc0190, 1, 32, 8, .ro, fun _ _ => 0, false, 0⟩
/-- R334 -/
def SLT_SLATE_state : Fld := ⟨0xc0800, 8, 32, 2, .ro, fun _ _ => 0, false, 0⟩
/-- R334 -/
def SLT_SLATE_thm : Fld := ⟨0xc0802, 8, 32, 1, .ro, fun _ _ => 0, false, 0⟩
/-- R334 -/
def SLT_SLATE_gen : Fld := ⟨0xc0803, 8, 32, 13, .ro, fun _ _ => 0, false, 0⟩
/-- R334 -/
def SLT_SLATE_lines : Fld := ⟨0xc0810, 8, 32, 16, .ro, fun _ _ => 0, false, 0⟩

/-! ### MGT: 13_salgor.md -/

/-- R363 -/
def MGT_ID : Fld := ⟨0x2a0000, 1, 32, 32, .ro, fun _ _ => 0x10001, false, 0⟩
/-- R363 -/
def MGT_CTL_en : Fld := ⟨0x2a0080, 1, 32, 1, .rwt, fun _ _ => 0, false, 0⟩
/-- R363 -/
def MGT_CTL_sole : Fld := ⟨0x2a0081, 1, 32, 1, .rwt, fun _ _ => 0, false, 0⟩
/-- R363 -/
def MGT_STAT_state : Fld := ⟨0x2a00a0, 1, 32, 3, .ro, fun _ _ => 0, false, 0⟩
/-- R363 -/
def MGT_STAT_role : Fld := ⟨0x2a00a3, 1, 32, 2, .ro, fun _ _ => 0, false, 0⟩
/-- R363 -/
def MGT_STAT_bound : Fld := ⟨0x2a00a5, 1, 32, 1, .ro, fun _ _ => 0, false, 0⟩
/-- R363 -/
def MGT_STAT_ready : Fld := ⟨0x2a00a6, 1, 32, 1, .ro, fun _ _ => 0, false, 0⟩
/-- R363 -/
def MGT_STAT_missed : Fld := ⟨0x2a00a8, 1, 32, 8, .ro, fun _ _ => 0, false, 0⟩
/-- R363 -/
def MGT_STAT_term : Fld := ⟨0x2a00b0, 1, 32, 16, .ro, fun _ _ => 0, false, 0⟩
/-- R363 -/
def MGT_IDENT_domain : Fld := ⟨0x2a00c0, 1, 32, 16, .rwt, fun _ _ => 0, false, 0⟩
/-- R363 -/
def MGT_IDENT_member : Fld := ⟨0x2a00d0, 1, 32, 12, .rwt, fun _ _ => 0, false, 0⟩
/-- R363 -/
def MGT_COORD_c0 : Fld := ⟨0x2a00e0, 1, 32, 12, .rwt, fun _ _ => 0, false, 0⟩
/-- R363 -/
def MGT_COORD_c1 : Fld := ⟨0x2a00f0, 1, 32, 12, .rwt, fun _ _ => 1, false, 0⟩
/-- R363 -/
def MGT_TIM_cut : Fld := ⟨0x2a0100, 1, 32, 10, .rwt, fun _ _ => 500, false, 0⟩
/-- R363 -/
def MGT_TIM_ackw : Fld := ⟨0x2a0110, 1, 32, 8, .rwt, fun _ _ => 150, false, 0⟩
/-- R363 -/
def MGT_TIM_hb_miss : Fld := ⟨0x2a0118, 1, 32, 4, .rwt, fun _ _ => 3, false, 0⟩
/-- R363 -/
def MGT_TIM_orphan : Fld := ⟨0x2a011c, 1, 32, 4, .rwt, fun _ _ => 8, false, 0⟩
/-- R363 -/
def MGT_TIM2_dem : Fld := ⟨0x2a0120, 1, 32, 8, .rwt, fun _ _ => 20, false, 0⟩
/-- R363 -/
def MGT_TIM2_gone : Fld := ⟨0x2a0128, 1, 32, 8, .rwt, fun _ _ => 64, false, 0⟩
/-- R363 -/
def MGT_DEM_head : Fld := ⟨0x2a0140, 1, 32, 8, .rwt, fun _ _ => 64, false, 0⟩
/-- R363 -/
def MGT_DEM_weight : Fld := ⟨0x2a0148, 1, 32, 8, .rwt, fun _ _ => 1, false, 0⟩
/-- R363 -/
def MGT_FLOOR_floor : Fld := ⟨0x2a0160, 1, 32, 32, .rwt, fun _ _ => 0, false, 0⟩
/-- R363 -/
def MGT_ADD_add : Fld := ⟨0x2a0180, 1, 32, 32, .rwt, fun _ _ => 400, false, 0⟩
/-- R363 -/
def MGT_SAFE_safe : Fld := ⟨0x2a01a0, 1, 32, 32, .rwt, fun _ _ => 1600, false, 0⟩
/-- R363 -/
def MGT_DECAY_rate : Fld := ⟨0x2a01c0, 1, 32, 8, .rwt, fun _ _ => 8, false, 0⟩
/-- R363 -/
def MGT_BUD_bud : Fld := ⟨0x2a01e0, 1, 32, 32, .ro, fun _ _ => 0, false, 0⟩
/-- R363 -/
def MGT_EPOCH : Fld := ⟨0x2a0200, 1, 64, 64, .ro, fun _ _ => 0, false, 0⟩
/-- R363 -/
def MGT_OFS : Fld := ⟨0x2a0240, 1, 64, 64, .ro, fun _ _ => 0, false, 0⟩
/-- R363 -/
def MGT_RATE_rate : Fld := ⟨0x2a0280, 1, 32, 32, .ro, fun _ _ => 0, false, 0⟩
/-- R363 -/
def MGT_CLAP_n : Fld := ⟨0x2a02a0, 1, 32, 4, .rwt, fun _ _ => 8, false, 0⟩
/-- R363 -/
def MGT_CLAP_parent : Fld := ⟨0x2a02a4, 1, 32, 6, .rwt, fun _ _ => 0, false, 0⟩
/-- R363 -/
def MGT_CLAP_pvalid : Fld := ⟨0x2a02aa, 1, 32, 1, .rwt, fun _ _ => 0, false, 0⟩
/-- R363 -/
def MGT_CLAP_period : Fld := ⟨0x2a02b0, 1, 32, 16, .rwt, fun _ _ => 1000, false, 0⟩
/-- R363 -/
def MGT_CSTAT_hops : Fld := ⟨0x2a02c0, 1, 32, 8, .ro, fun _ _ => 0, false, 0⟩
/-- R363 -/
def MGT_CSTAT_delta : Fld := ⟨0x2a02c8, 1, 32, 16, .ro, fun _ _ => 0, false, 0⟩
/-- R363 -/
def MGT_CSTAT_fail : Fld := ⟨0x2a02d8, 1, 32, 8, .ro, fun _ _ => 0, false, 0⟩
/-- R363 -/
def MGT_VIOL_crc : Fld := ⟨0x2a02e0, 1, 32, 4, .ro, fun _ _ => 0, false, 0⟩
/-- R363 -/
def MGT_VIOL_domain : Fld := ⟨0x2a02e4, 1, 32, 4, .ro, fun _ _ => 0, false, 0⟩
/-- R363 -/
def MGT_VIOL_ver : Fld := ⟨0x2a02e8, 1, 32, 4, .ro, fun _ _ => 0, false, 0⟩
/-- R363 -/
def MGT_VIOL_type : Fld := ⟨0x2a02ec, 1, 32, 4, .ro, fun _ _ => 0, false, 0⟩
/-- R363 -/
def MGT_VIOL_late : Fld := ⟨0x2a02f0, 1, 32, 4, .ro, fun _ _ => 0, false, 0⟩
/-- R363 -/
def MGT_VIOL_dup : Fld := ⟨0x2a02f4, 1, 32, 4, .ro, fun _ _ => 0, false, 0⟩
/-- R363 -/
def MGT_VIOL_ttl : Fld := ⟨0x2a02f8, 1, 32, 4, .ro, fun _ _ => 0, false, 0⟩
/-- R363 -/
def MGT_VIOL_noroute : Fld := ⟨0x2a02fc, 1, 32, 4, .ro, fun _ _ => 0, false, 0⟩
/-- R363 -/
def MGT_DOM_BUD_bud : Fld := ⟨0x2a0300, 1, 32, 32, .rwt, fun _ _ => 0, false, 0⟩
/-- R363 -/
def MGT_DOM_NEXT_next : Fld := ⟨0x2a0320, 1, 32, 32, .rwt, fun _ _ => 0, false, 0⟩
/-- R363 -/
def MGT_DOM_AT : Fld := ⟨0x2a0340, 1, 64, 64, .rwt, fun _ _ => 0, false, 0⟩
/-- R363 -/
def MGT_TREE : Fld := ⟨0x2a0380, 1, 64, 64, .rwt, fun _ _ => 0, false, 0⟩
/-- R363 -/
def MGT_MSEL_member : Fld := ⟨0x2a0400, 1, 32, 12, .rw, fun _ _ => 0, false, 0⟩
/-- R363 -/
def MGT_MSNAP : Fld := ⟨0x2a0420, 3, 32, 32, .ro, fun _ _ => 0, false, 0⟩
/-- R363 -/
def MGT_ROUTE : Fld := ⟨0x2a8000, 4096, 8, 8, .rwt, fun _ _ => 0, false, 0⟩
/-- R363 -/
def MGT_MEMB : Fld := ⟨0x2b0000, 4096, 8, 8, .rwt, fun _ _ => 0, false, 0⟩

/-! ### PAR: 14_pair.md -/

/-- R380 -/
def PAR_ID : Fld := ⟨0x2c0000, 1, 32, 32, .ro, fun _ _ => 0x10001, false, 0⟩
/-- R380 -/
def PAR_CTL_handover : Fld := ⟨0x2c0080, 1, 32, 1, .rwt, fun _ _ => 0, false, 0⟩
/-- R380 -/
def PAR_CTL_sole : Fld := ⟨0x2c0081, 1, 32, 1, .rwt, fun _ _ => 0, false, 0⟩
/-- R380 -/
def PAR_CTL_dmin : Fld := ⟨0x2c0088, 1, 32, 6, .rwt, fun _ _ => 10, false, 0⟩
/-- R380 -/
def PAR_CFG_loss : Fld := ⟨0x2c00a0, 1, 32, 8, .rwt, fun _ _ => 8, false, 0⟩
/-- R380 -/
def PAR_CFG_take : Fld := ⟨0x2c00a8, 1, 32, 8, .rwt, fun _ _ => 40, false, 0⟩
/-- R380 -/
def PAR_CFG_ckpt : Fld := ⟨0x2c00b0, 1, 32, 8, .rwt, fun _ _ => 10, false, 0⟩
/-- R380 -/
def PAR_CFG_rtx : Fld := ⟨0x2c00b8, 1, 32, 8, .rwt, fun _ _ => 4, false, 0⟩
/-- R380 -/
def PAR_STAT_state : Fld := ⟨0x2c00c0, 1, 32, 3, .ro, fun _ _ => 0, false, 0⟩
/-- R380 -/
def PAR_STAT_role : Fld := ⟨0x2c00c3, 1, 32, 2, .ro, fun _ _ => 0, false, 0⟩
/-- R380 -/
def PAR_STAT_die : Fld := ⟨0x2c00c5, 1, 32, 1, .ro, fun _ _ => 0, true, 0x42⟩
/-- R380 -/
def PAR_STAT_up : Fld := ⟨0x2c00c6, 1, 32, 1, .ro, fun _ _ => 0, false, 0⟩
/-- R380 -/
def PAR_STAT_ledger : Fld := ⟨0x2c00c7, 1, 32, 1, .ro, fun _ _ => 0, false, 0⟩
/-- R380 -/
def PAR_STAT_term : Fld := ⟨0x2c00d0, 1, 32, 16, .ro, fun _ _ => 0, false, 0⟩
/-- R380 -/
def PAR_CNT_failover : Fld := ⟨0x2c00e0, 1, 32, 8, .ro, fun _ _ => 0, false, 0⟩
/-- R380 -/
def PAR_CNT_split : Fld := ⟨0x2c00e8, 1, 32, 8, .ro, fun _ _ => 0, false, 0⟩
/-- R380 -/
def PAR_CNT_rtx : Fld := ⟨0x2c00f0, 1, 32, 8, .ro, fun _ _ => 0, false, 0⟩
/-- R380 -/
def PAR_CNT_crc : Fld := ⟨0x2c00f8, 1, 32, 8, .ro, fun _ _ => 0, false, 0⟩
/-- R380 -/
def PAR_OFS : Fld := ⟨0x2c0100, 1, 64, 64, .ro, fun _ _ => 0, false, 0⟩
/-- R380 -/
def PAR_DIEBUD_bud : Fld := ⟨0x2c0180, 1, 32, 32, .ro, fun _ _ => 0, false, 0⟩

/-! ### CLK: 15_clocks.md -/

/-- R401 -/
def CLK_ID : Fld := ⟨0x20000, 1, 32, 32, .ro, fun _ _ => 0x10001, false, 0⟩
/-- R401 -/
def CLK_STAT_lock : Fld := ⟨0x20080, 1, 32, 1, .ro, fun _ _ => 1, false, 0⟩
/-- R401 -/
def CLK_STAT_ref_ok : Fld := ⟨0x20081, 1, 32, 1, .ro, fun _ _ => 1, false, 0⟩
/-- R401 -/
def CLK_EN_en : Fld := ⟨0x200a0, 1, 32, 24, .rwt, fun d _ => if d then 0xFFFFFF else 0xBFFFFF, false, 0⟩
/-- R401 -/
def CLK_XOVR_ovr : Fld := ⟨0x200c0, 1, 32, 12, .w1c, fun _ _ => 0, false, 0⟩
/-- R401 -/
def CLK_XERR_err : Fld := ⟨0x200e0, 1, 32, 12, .w1c, fun _ _ => 0, false, 0⟩
/-- R401 -/
def CLK_FM_CTL_meas : Fld := ⟨0x20100, 1, 32, 6, .rw, fun _ _ => 0, false, 0⟩
/-- R401 -/
def CLK_FM_CTL_ref : Fld := ⟨0x20106, 1, 32, 6, .rw, fun _ _ => 0, false, 0⟩
/-- R401 -/
def CLK_FM_CTL_win : Fld := ⟨0x2010c, 1, 32, 5, .rw, fun _ _ => 16, false, 0⟩
/-- R401 -/
def CLK_FM_CTL_idx : Fld := ⟨0x20111, 1, 32, 7, .rw, fun _ _ => 0, false, 0⟩
/-- R401 -/
def CLK_FM_CTL_start : Fld := ⟨0x20118, 1, 32, 1, .rw, fun _ _ => 0, false, 0⟩
/-- R401 -/
def CLK_FM_CNT_count : Fld := ⟨0x20120, 1, 32, 31, .ro, fun _ _ => 0, false, 0⟩
/-- R401 -/
def CLK_FM_CNT_done : Fld := ⟨0x2013f, 1, 32, 1, .ro, fun _ _ => 0, false, 0⟩
/-- R401 -/
def CLK_TS_STAT_resync : Fld := ⟨0x20180, 1, 32, 16, .ro, fun _ _ => 0, false, 0⟩
/-- R401 -/
def CLK_TS_ts : Fld := ⟨0x201c0, 1, 64, 64, .ro, fun _ _ => 0, false, 0⟩
/-- R401 -/
def CLK_DVFS_CFG_vmargin : Fld := ⟨0x20200, 1, 32, 8, .rwt, fun _ _ => 40, false, 0⟩
/-- R401 -/
def CLK_DVFS_CFG_settle : Fld := ⟨0x20210, 1, 32, 8, .rwt, fun _ _ => 2, false, 0⟩
/-- R401 -/
def CLK_DVFS_LIM_min : Fld := ⟨0x20220, 1, 32, 3, .rwt, fun _ _ => 0, false, 0⟩
/-- R401 -/
def CLK_DVFS_LIM_max : Fld := ⟨0x20228, 1, 32, 3, .rwt, fun _ _ => 7, false, 0⟩
/-- R401 -/
def CLK_DVFS_STAT_point : Fld := ⟨0x20240, 1, 32, 3, .ro, fun _ _ => 0, false, 0⟩
/-- R401 -/
def CLK_DVFS_STAT_target : Fld := ⟨0x20243, 1, 32, 3, .ro, fun _ _ => 0, false, 0⟩
/-- R401 -/
def CLK_DVFS_STAT_stage : Fld := ⟨0x20246, 1, 32, 3, .ro, fun _ _ => 0, false, 0⟩
/-- R401 -/
def CLK_DVFS_STAT_half : Fld := ⟨0x20249, 1, 32, 1, .ro, fun _ _ => 0, false, 0⟩
/-- R401 -/
def CLK_DVFS_STAT_parked : Fld := ⟨0x2024a, 1, 32, 1, .ro, fun _ _ => 0, false, 0⟩
/-- R401 -/
def CLK_DVFS_STAT_lockfail : Fld := ⟨0x20250, 1, 32, 8, .ro, fun _ _ => 0, false, 0⟩
/-- R401 -/
def CLK_OPP_F_mhz : Fld := ⟨0x20400, 8, 32, 11, .rwt, fun _ i => [800, 960, 1120, 1280, 1400, 1500, 1600, 1800].getD i 0, false, 0⟩

/-! ### RST: 15_clocks.md -/

/-- R401 -/
def RST_ID : Fld := ⟨0x40000, 1, 32, 32, .ro, fun _ _ => 0x10001, false, 0⟩
/-- R401 -/
def RST_CAUSE_cause : Fld := ⟨0x40080, 1, 32, 3, .ro, fun _ _ => 0, false, 0⟩
/-- R401 -/
def RST_CAUSE_crowbar : Fld := ⟨0x40088, 1, 32, 1, .ro, fun _ _ => 0, false, 0⟩
/-- R401 -/
def RST_CAUSE_shutdown : Fld := ⟨0x40089, 1, 32, 1, .ro, fun _ _ => 0, false, 0⟩
/-- R401 -/
def RST_COUNT_poreset : Fld := ⟨0x400a0, 1, 32, 8, .ro, fun _ _ => 0, false, 0⟩
/-- R401 -/
def RST_COUNT_refclk : Fld := ⟨0x400a8, 1, 32, 8, .ro, fun _ _ => 0, false, 0⟩
/-- R401 -/
def RST_COUNT_pll : Fld := ⟨0x400b0, 1, 32, 8, .ro, fun _ _ => 0, false, 0⟩
/-- R401 -/
def RST_LAST_TS_ts : Fld := ⟨0x400c0, 1, 64, 64, .ro, fun _ _ => 0, false, 0⟩
/-- R420 -/
def RST_SEQ_stage : Fld := ⟨0x40100, 1, 32, 4, .ro, fun _ _ => 0, false, 0⟩
/-- R420 -/
def RST_SEQ_cause : Fld := ⟨0x40104, 1, 32, 4, .ro, fun _ _ => 0, false, 0⟩
/-- R420 -/
def RST_SEQ_board : Fld := ⟨0x40108, 1, 32, 2, .ro, fun _ _ => 0, false, 0⟩
/-- R420 -/
def RST_SEQ_image : Fld := ⟨0x4010a, 1, 32, 2, .ro, fun _ _ => 0, false, 0⟩
/-- R420 -/
def RST_SEQ_auto : Fld := ⟨0x4010c, 1, 32, 1, .ro, fun _ _ => 0, false, 0⟩
/-- R420 -/
def RST_START_go : Fld := ⟨0x40120, 1, 32, 1, .rwt, fun _ _ => 0, false, 0⟩
/-- R420 -/
def RST_START_down : Fld := ⟨0x40121, 1, 32, 1, .rwt, fun _ _ => 0, false, 0⟩
/-- R420 -/
def RST_START_drain : Fld := ⟨0x40128, 1, 32, 8, .rwt, fun _ _ => 10, false, 0⟩

/-! ### MEM: 17_memory.md -/

/-- R432 -/
def MEM_ID : Fld := ⟨0x60000, 1, 32, 32, .ro, fun _ _ => 0x10001, false, 0⟩
/-- R432 -/
def MEM_STAT_clearing : Fld := ⟨0x60080, 1, 32, 18, .ro, fun _ _ => 0, false, 0⟩
/-- R432 -/
def MEM_STAT_bt_bank : Fld := ⟨0x60092, 1, 32, 5, .ro, fun _ _ => 0, false, 0⟩
/-- R432 -/
def MEM_STAT_nospare : Fld := ⟨0x60097, 1, 32, 1, .ro, fun _ _ => 0, false, 0⟩
/-- R432 -/
def MEM_STAT_retired : Fld := ⟨0x60098, 1, 32, 8, .ro, fun _ _ => 0, false, 0⟩
/-- R432 -/
def MEM_RATE_gap : Fld := ⟨0x600a0, 1, 32, 8, .rwt, fun _ _ => 32, false, 0⟩
/-- R432 -/
def MEM_BT_en : Fld := ⟨0x600c0, 1, 32, 1, .rwt, fun _ _ => 1, false, 0⟩
/-- R432 -/
def MEM_BT_period : Fld := ⟨0x600d0, 1, 32, 10, .rwt, fun _ _ => 10, false, 0⟩
/-- R432 -/
def MEM_ECC_single : Fld := ⟨0x600e0, 1, 32, 16, .ro, fun _ _ => 0, false, 0⟩
/-- R432 -/
def MEM_ECC_double : Fld := ⟨0x600f0, 1, 32, 16, .ro, fun _ _ => 0, false, 0⟩
/-- R432 -/
def MEM_VIOL_master : Fld := ⟨0x60100, 1, 32, 4, .w1c, fun _ _ => 0, false, 0⟩
/-- R432 -/
def MEM_VIOL_bank : Fld := ⟨0x60104, 1, 32, 5, .w1c, fun _ _ => 0, false, 0⟩
/-- R432 -/
def MEM_VIOL_region : Fld := ⟨0x60109, 1, 32, 12, .w1c, fun _ _ => 0, false, 0⟩
/-- R432 -/
def MEM_VIOL_write : Fld := ⟨0x60115, 1, 32, 1, .w1c, fun _ _ => 0, false, 0⟩
/-- R432 -/
def MEM_VIOL_valid : Fld := ⟨0x6011f, 1, 32, 1, .w1c, fun _ _ => 0, false, 0⟩
/-- R432 -/
def MEM_BU_ADDR_bank : Fld := ⟨0x60180, 1, 32, 5, .rw, fun _ _ => 0, false, 0⟩
/-- R432 -/
def MEM_BU_ADDR_line : Fld := ⟨0x60186, 1, 32, 14, .rw, fun _ _ => 0, false, 0⟩
/-- R432 -/
def MEM_BU_ADDR_done : Fld := ⟨0x6019f, 1, 32, 1, .ro, fun _ _ => 0, false, 0⟩
/-- R432 -/
def MEM_BU_DATA : Fld := ⟨0x60200, 16, 32, 32, .ro, fun _ _ => 0, false, 0⟩
/-- R432 -/
def MEM_RGN_bank : Fld := ⟨0x60800, 104, 64, 5, .rwt, fun _ => rgnBank, false, 0⟩
/-- R432 -/
def MEM_RGN_r : Fld := ⟨0x60805, 104, 64, 1, .rwt, fun _ => rgnR, false, 0⟩
/-- R432 -/
def MEM_RGN_w : Fld := ⟨0x60806, 104, 64, 1, .rwt, fun _ => rgnW, false, 0⟩
/-- R432 -/
def MEM_RGN_valid : Fld := ⟨0x60807, 104, 64, 1, .rwt, fun _ => rgnValid, false, 0⟩
/-- R432 -/
def MEM_RGN_base : Fld := ⟨0x60820, 104, 64, 12, .rwt, fun _ _ => 0, false, 0⟩
/-- R432 -/
def MEM_RGN_size : Fld := ⟨0x60830, 104, 64, 13, .rwt, fun _ => rgnSize, false, 0⟩
/-- R432 -/
def MEM_RMAP_region : Fld := ⟨0x63000, 144, 16, 12, .ro, fun _ _ => 0, false, 0⟩
/-- R432 -/
def MEM_RMAP_valid : Fld := ⟨0x6300f, 144, 16, 1, .ro, fun _ _ => 0, false, 0⟩

/-! ### FW: 18_firmware.md -/

/-- R446 -/
def FW_ID : Fld := ⟨0x80000, 1, 32, 32, .ro, fun _ _ => 0x10001, false, 0⟩
/-- R446 -/
def FW_CTL_restart : Fld := ⟨0x80080, 1, 32, 4, .rwt, fun _ _ => 0, false, 0⟩
/-- R446 -/
def FW_WDOG_wd0 : Fld := ⟨0x800a0, 1, 32, 8, .rwt, fun _ _ => 5, false, 0⟩
/-- R446 -/
def FW_WDOG_wd1 : Fld := ⟨0x800a8, 1, 32, 8, .rwt, fun _ _ => 5, false, 0⟩
/-- R446 -/
def FW_WDOG_wd2 : Fld := ⟨0x800b0, 1, 32, 8, .rwt, fun _ _ => 2, false, 0⟩
/-- R446 -/
def FW_WDOG_wd3 : Fld := ⟨0x800b8, 1, 32, 8, .rwt, fun _ _ => 20, false, 0⟩
/-- R446 -/
def FW_STAT_state : Fld := ⟨0x800c0, 1, 32, 8, .ro, fun _ _ => 0, false, 0⟩
/-- R446 -/
def FW_STAT_copy : Fld := ⟨0x800c8, 1, 32, 4, .ro, fun _ _ => 0, false, 0⟩
/-- R446 -/
def FW_RCNT_count : Fld := ⟨0x80100, 4, 32, 8, .ro, fun _ _ => 0, false, 0⟩
/-- R446 -/
def FW_RCNT_cause : Fld := ⟨0x80108, 4, 32, 4, .ro, fun _ _ => 0, false, 0⟩
/-- R446 -/
def FW_VER_version : Fld := ⟨0x80200, 4, 32, 32, .ro, fun _ _ => 0, false, 0⟩
/-- R446 -/
def FW_LEN_length : Fld := ⟨0x80280, 4, 32, 20, .ro, fun _ _ => 0, false, 0⟩
/-- R446 -/
def FW_DIGEST_d : Fld := ⟨0x80800, 48, 32, 32, .ro, fun _ _ => 0, false, 0⟩
/-- R446 -/
def FW_FUSE_d : Fld := ⟨0x81000, 48, 32, 32, .ro, fun _ _ => 0, true, 0x81000⟩

/-! ### EVT: 19_recorder.md -/

/-- R484 -/
def EVT_ID : Fld := ⟨0x200000, 1, 32, 32, .ro, fun _ _ => 0x10001, false, 0⟩
/-- R484 -/
def EVT_NEXT_next : Fld := ⟨0x200080, 1, 32, 32, .ro, fun _ _ => 0, false, 0⟩
/-- R484 -/
def EVT_HW_count : Fld := ⟨0x2000a0, 1, 32, 9, .ro, fun _ _ => 0, false, 0⟩
/-- R484 -/
def EVT_HW_gen : Fld := ⟨0x2000b0, 1, 32, 16, .ro, fun _ _ => 0, false, 0⟩
/-- R484 -/
def EVT_DROP_dropped : Fld := ⟨0x2000c0, 1, 32, 16, .ro, fun _ _ => 0, false, 0⟩
/-- R484 -/
def EVT_DROP_qmax : Fld := ⟨0x2000d0, 1, 32, 8, .ro, fun _ _ => 0, false, 0⟩
/-- R484 -/
def EVT_TA_ta : Fld := ⟨0x200100, 1, 64, 64, .ro, fun _ _ => 0, false, 0⟩
/-- R484 -/
def EVT_SA_sa : Fld := ⟨0x200140, 1, 64, 40, .ro, fun _ _ => 0, false, 0⟩
/-- R484 -/
def EVT_NA_na : Fld := ⟨0x200180, 1, 32, 30, .ro, fun _ _ => 0, false, 0⟩
/-- R484 -/
def EVT_NA_set : Fld := ⟨0x20019f, 1, 32, 1, .ro, fun _ _ => 0, false, 0⟩
/-- R484 -/
def EVT_CIV_LAT_latch : Fld := ⟨0x200200, 1, 32, 1, .wo, fun _ _ => 0, false, 0⟩
/-- R484 -/
def EVT_CIV_year : Fld := ⟨0x200220, 1, 96, 12, .ro, fun _ _ => 0, false, 0⟩
/-- R484 -/
def EVT_CIV_month : Fld := ⟨0x20022c, 1, 96, 4, .ro, fun _ _ => 0, false, 0⟩
/-- R484 -/
def EVT_CIV_day : Fld := ⟨0x200230, 1, 96, 5, .ro, fun _ _ => 0, false, 0⟩
/-- R484 -/
def EVT_CIV_hour : Fld := ⟨0x200235, 1, 96, 5, .ro, fun _ _ => 0, false, 0⟩
/-- R484 -/
def EVT_CIV_minute : Fld := ⟨0x20023a, 1, 96, 6, .ro, fun _ _ => 0, false, 0⟩
/-- R484 -/
def EVT_CIV_second : Fld := ⟨0x200240, 1, 96, 6, .ro, fun _ _ => 0, false, 0⟩
/-- R484 -/
def EVT_CIV_valid : Fld := ⟨0x200246, 1, 96, 1, .ro, fun _ _ => 0, false, 0⟩
/-- R484 -/
def EVT_CIV_done : Fld := ⟨0x200247, 1, 96, 1, .ro, fun _ _ => 0, false, 0⟩
/-- R484 -/
def EVT_CIV_ns : Fld := ⟨0x200260, 1, 96, 30, .ro, fun _ _ => 0, false, 0⟩

/-! ### NVM: 19_recorder.md -/

/-- R485 -/
def NVM_ID : Fld := ⟨0x220000, 1, 32, 32, .ro, fun _ _ => 0x10001, false, 0⟩
/-- R485 -/
def NVM_STAT_found : Fld := ⟨0x220080, 1, 32, 1, .ro, fun _ _ => 0, false, 0⟩
/-- R485 -/
def NVM_STAT_quad : Fld := ⟨0x220081, 1, 32, 1, .ro, fun _ _ => 0, false, 0⟩
/-- R485 -/
def NVM_STAT_busy : Fld := ⟨0x220082, 1, 32, 1, .ro, fun _ _ => 0, false, 0⟩
/-- R485 -/
def NVM_STAT_density : Fld := ⟨0x220088, 1, 32, 8, .ro, fun _ _ => 0, false, 0⟩
/-- R485 -/
def NVM_STAT_sfdp : Fld := ⟨0x220090, 1, 32, 8, .ro, fun _ _ => 0, false, 0⟩
/-- R485 -/
def NVM_ERR_prog : Fld := ⟨0x2200a0, 1, 32, 8, .ro, fun _ _ => 0, false, 0⟩
/-- R485 -/
def NVM_ERR_erase : Fld := ⟨0x2200a8, 1, 32, 8, .ro, fun _ _ => 0, false, 0⟩
/-- R485 -/
def NVM_MIRROR_count : Fld := ⟨0x2200c0, 1, 32, 16, .ro, fun _ _ => 0, false, 0⟩
/-- R485 -/
def NVM_MIRROR_slot : Fld := ⟨0x2200d0, 1, 32, 2, .ro, fun _ _ => 0, false, 0⟩
/-- R485 -/
def NVM_MIRROR_cause : Fld := ⟨0x2200d2, 1, 32, 2, .ro, fun _ _ => 0, false, 0⟩
/-- R485 -/
def NVM_MIRROR_deferred : Fld := ⟨0x2200d4, 1, 32, 1, .ro, fun _ _ => 0, false, 0⟩
/-- R485 -/
def NVM_WEAR_hw : Fld := ⟨0x220100, 1, 64, 16, .ro, fun _ _ => 0, false, 0⟩
/-- R485 -/
def NVM_WEAR_mirror : Fld := ⟨0x220110, 1, 64, 16, .ro, fun _ _ => 0, false, 0⟩
/-- R485 -/
def NVM_WEAR_log : Fld := ⟨0x220120, 1, 64, 16, .ro, fun _ _ => 0, false, 0⟩
/-- R485 -/
def NVM_WEAR_image : Fld := ⟨0x220130, 1, 64, 16, .ro, fun _ _ => 0, false, 0⟩

/-! ### SMB: 19_recorder.md -/

/-- R486 -/
def SMB_ID : Fld := ⟨0x2e0000, 1, 32, 32, .ro, fun _ _ => 0x10001, false, 0⟩
/-- R486 -/
def SMB_CTL_addr : Fld := ⟨0x2e0080, 1, 32, 7, .rwt, fun _ _ => 58, false, 0⟩
/-- R486 -/
def SMB_CTL_tin_en : Fld := ⟨0x2e0087, 1, 32, 1, .rwt, fun _ _ => 1, false, 0⟩
/-- R486 -/
def SMB_STAT_cmd : Fld := ⟨0x2e00a0, 1, 32, 8, .ro, fun _ _ => 0, false, 0⟩
/-- R486 -/
def SMB_STAT_pec : Fld := ⟨0x2e00a8, 1, 32, 8, .ro, fun _ _ => 0, false, 0⟩
/-- R486 -/
def SMB_STAT_timeout : Fld := ⟨0x2e00b0, 1, 32, 8, .ro, fun _ _ => 0, false, 0⟩

/-! ### TRC: 20_observe.md -/

/-- R515 -/
def TRC_ID : Fld := ⟨0x240000, 1, 32, 32, .ro, fun _ _ => 0x10001, false, 0⟩
/-- R515 -/
def TRC_WIN_BASE_base : Fld := ⟨0x240080, 1, 64, 64, .rwt, fun _ _ => 0, false, 0⟩
/-- R515 -/
def TRC_WIN_SIZE_size : Fld := ⟨0x2400c0, 1, 64, 64, .rwt, fun _ _ => 0, false, 0⟩
/-- R515 -/
def TRC_STAT_state : Fld := ⟨0x240100, 1, 32, 2, .ro, fun _ _ => 0, false, 0⟩
/-- R515 -/
def TRC_STAT_kinds : Fld := ⟨0x240102, 1, 32, 4, .ro, fun _ _ => 0, false, 0⟩
/-- R515 -/
def TRC_STAT_loss : Fld := ⟨0x240110, 1, 32, 16, .ro, fun _ _ => 0, false, 0⟩
/-- R515 -/
def TRC_SAMP_tenant : Fld := ⟨0x240120, 1, 32, 9, .rwt, fun _ _ => 0, false, 0⟩
/-- R515 -/
def TRC_SAMP_valid : Fld := ⟨0x240129, 1, 32, 1, .rwt, fun _ _ => 0, false, 0⟩
/-- R515 -/
def TRC_DROP_cmd : Fld := ⟨0x240140, 1, 32, 16, .ro, fun _ _ => 0, false, 0⟩
/-- R515 -/
def TRC_DROP_fcst : Fld := ⟨0x240150, 1, 32, 8, .ro, fun _ _ => 0, false, 0⟩
/-- R515 -/
def TRC_DROP_other : Fld := ⟨0x240158, 1, 32, 8, .ro, fun _ _ => 0, false, 0⟩
/-- R515 -/
def TRC_WRITTEN_written : Fld := ⟨0x240180, 1, 64, 64, .ro, fun _ _ => 0, false, 0⟩
/-- R515 -/
def TRC_BASE_base : Fld := ⟨0x2401c0, 1, 64, 64, .ro, fun _ _ => 0, false, 0⟩
/-- R515 -/
def TRC_SIZE_size : Fld := ⟨0x240200, 1, 64, 64, .ro, fun _ _ => 0, false, 0⟩

/-! ### CNT: 20_observe.md -/

/-- R516 -/
def CNT_ID : Fld := ⟨0x260000, 1, 32, 32, .ro, fun _ _ => 0x10001, false, 0⟩
/-- R516 -/
def CNT_WFG_start : Fld := ⟨0x260080, 1, 32, 1, .wo, fun _ _ => 0, false, 0⟩
/-- R516 -/
def CNT_WFG_busy : Fld := ⟨0x260081, 1, 32, 1, .ro, fun _ _ => 0, false, 0⟩
/-- R516 -/
def CNT_WFG_valid : Fld := ⟨0x260082, 1, 32, 1, .ro, fun _ _ => 0, false, 0⟩
/-- R516 -/
def CNT_WFG_cycle : Fld := ⟨0x260083, 1, 32, 1, .ro, fun _ _ => 0, false, 0⟩
/-- R516 -/
def CNT_WFG_trunc : Fld := ⟨0x260084, 1, 32, 1, .ro, fun _ _ => 0, false, 0⟩
/-- R516 -/
def CNT_WFG_edges : Fld := ⟨0x260090, 1, 32, 12, .ro, fun _ _ => 0, false, 0⟩
/-- R516 -/
def CNT_WFG_CFG_auto : Fld := ⟨0x2600a0, 1, 32, 16, .rwt, fun _ _ => 0, false, 0⟩
/-- R516 -/
def CNT_WFG_CFG_stall : Fld := ⟨0x2600b0, 1, 32, 16, .rwt, fun _ _ => 10, false, 0⟩
/-- R516 -/
def CNT_WFG_SEL_edge : Fld := ⟨0x2600c0, 1, 32, 11, .rw, fun _ _ => 0, false, 0⟩
/-- R516 -/
def CNT_WFG_EDGE : Fld := ⟨0x2600e0, 2, 32, 32, .ro, fun _ _ => 0, false, 0⟩
/-- R516 -/
def CNT_WFG_T_ts : Fld := ⟨0x260140, 1, 64, 64, .ro, fun _ _ => 0, false, 0⟩
/-- R516 -/
def CNT_SHAPE_B_bytes : Fld := ⟨0x260800, 16, 32, 32, .rwt, fun _ _ => 0, true, 0x260800⟩
/-- R516 -/
def CNT_TAP_VIOL_count : Fld := ⟨0x261000, 64, 32, 32, .ro, fun _ _ => 0, false, 0⟩

/-! ### FAN: 21_fans.md -/

/-- R526 -/
def FAN_ID : Fld := ⟨0x280000, 1, 32, 32, .ro, fun _ _ => 0x10001, false, 0⟩
/-- R526 -/
def FAN_CFG_spin : Fld := ⟨0x280080, 1, 32, 16, .rwt, fun _ _ => 2000, false, 0⟩
/-- R526 -/
def FAN_CFG_tach_to : Fld := ⟨0x280090, 1, 32, 8, .rwt, fun _ _ => 50, false, 0⟩
/-- R526 -/
def FAN_CFG_retries : Fld := ⟨0x280098, 1, 32, 4, .rwt, fun _ _ => 3, false, 0⟩
/-- R526 -/
def FAN_CTL_rearm : Fld := ⟨0x2800a0, 1, 32, 4, .rwt, fun _ _ => 0, false, 0⟩
/-- R526 -/
def FAN_CH_en : Fld := ⟨0x280100, 4, 64, 1, .rwt, fun _ _ => 0, false, 0⟩
/-- R526 -/
def FAN_CH_ppr : Fld := ⟨0x280101, 4, 64, 2, .rwt, fun _ _ => 1, false, 0⟩
/-- R526 -/
def FAN_CH_dmin : Fld := ⟨0x280108, 4, 64, 8, .rwt, fun _ _ => 51, false, 0⟩
/-- R526 -/
def FAN_CH_sduty : Fld := ⟨0x280110, 4, 64, 8, .rwt, fun _ _ => 255, false, 0⟩
/-- R526 -/
def FAN_CH_min_rpm : Fld := ⟨0x280120, 4, 64, 16, .rwt, fun _ _ => 600, false, 0⟩
/-- R526 -/
def FAN_CH_cap : Fld := ⟨0x280130, 4, 64, 16, .rwt, fun _ _ => 50, false, 0⟩
/-- R526 -/
def FAN_BAND_d0 : Fld := ⟨0x280200, 4, 64, 8, .rwt, fun _ _ => 0x4D, false, 0⟩
/-- R526 -/
def FAN_BAND_d1 : Fld := ⟨0x280208, 4, 64, 8, .rwt, fun _ _ => 0x66, false, 0⟩
/-- R526 -/
def FAN_BAND_d2 : Fld := ⟨0x280210, 4, 64, 8, .rwt, fun _ _ => 0x99, false, 0⟩
/-- R526 -/
def FAN_BAND_d3 : Fld := ⟨0x280218, 4, 64, 8, .rwt, fun _ _ => 0xCC, false, 0⟩
/-- R526 -/
def FAN_BAND_d4 : Fld := ⟨0x280220, 4, 64, 8, .rwt, fun _ _ => 255, false, 0⟩
/-- R526 -/
def FAN_OVR_duty : Fld := ⟨0x280300, 4, 32, 8, .rwt, fun _ _ => 0, false, 0⟩
/-- R526 -/
def FAN_OVR_valid : Fld := ⟨0x280308, 4, 32, 1, .rwt, fun _ _ => 0, false, 0⟩
/-- R526 -/
def FAN_STAT_state : Fld := ⟨0x280380, 4, 32, 3, .ro, fun _ _ => 0, false, 0⟩
/-- R526 -/
def FAN_STAT_tries : Fld := ⟨0x280384, 4, 32, 4, .ro, fun _ _ => 0, false, 0⟩
/-- R526 -/
def FAN_STAT_duty : Fld := ⟨0x280388, 4, 32, 8, .ro, fun _ _ => 0, false, 0⟩
/-- R526 -/
def FAN_STAT_rpm : Fld := ⟨0x280390, 4, 32, 16, .ro, fun _ _ => 0, false, 0⟩
/-- R526 -/
def FAN_DEF_deficit : Fld := ⟨0x280400, 4, 32, 32, .ro, fun _ _ => 0, false, 0⟩

/-! ### GEN: 23_registers.md -/

/-- R541 -/
def GEN_ID : Fld := ⟨0x0, 1, 32, 32, .ro, fun _ _ => 0x10001, false, 0⟩
/-- R541 -/
def GEN_VER_gen : Fld := ⟨0x20, 1, 32, 8, .ro, fun _ _ => 1, false, 0⟩
/-- R541 -/
def GEN_VER_ring : Fld := ⟨0x28, 1, 32, 8, .ro, fun _ _ => 18, false, 0⟩
/-- R541 -/
def GEN_VER_slate : Fld := ⟨0x30, 1, 32, 8, .ro, fun _ _ => 17, false, 0⟩
/-- R541 -/
def GEN_VER_salgor : Fld := ⟨0x38, 1, 32, 8, .ro, fun _ _ => 16, false, 0⟩
/-- R541 -/
def GEN_CFG_config : Fld := ⟨0x40, 1, 32, 2, .ro, fun _ _ => 0, true, 0x40⟩
/-- R541 -/
def GEN_CFG_die : Fld := ⟨0x42, 1, 32, 1, .ro, fun _ _ => 0, true, 0x42⟩
/-- R541 -/
def GEN_CFG_step : Fld := ⟨0x48, 1, 32, 8, .ro, fun _ _ => 0, true, 0x48⟩
/-- R541 -/
def GEN_CAP_cores : Fld := ⟨0x60, 1, 32, 8, .ro, fun _ _ => 64, false, 0⟩
/-- R541 -/
def GEN_CAP_links : Fld := ⟨0x68, 1, 32, 8, .ro, fun _ _ => 64, false, 0⟩
/-- R541 -/
def GEN_CAP_lanes : Fld := ⟨0x70, 1, 32, 8, .ro, fun _ _ => 18, false, 0⟩
/-- R541 -/
def GEN_CAP_anc8 : Fld := ⟨0x78, 1, 32, 8, .ro, fun _ _ => 16, false, 0⟩
/-- R541 -/
def GEN_UID_uid : Fld := ⟨0x80, 1, 64, 64, .ro, fun _ _ => 0, true, 0x80⟩
/-- R541 -/
def GEN_SCRATCH_scratch : Fld := ⟨0x100, 1, 32, 32, .rw, fun _ _ => 0, false, 0⟩

/-- The fields of the SNS block, in address order of the manual. -/
def fldsSNS : List Fld :=
  [
    SNS_ID, SNS_CTL_lane_en, SNS_CTL_anc_en, SNS_FRZ_frz_window, SNS_FRZ_stale_frames, SNS_DRP_BAND_band,
    SNS_TLM_STAT_state, SNS_TLM_STAT_degraded, SNS_TLM_STAT_crc_err, SNS_TLM_STAT_lane_err, SNS_TLM_STAT_lost,
    SNS_TLM_CNT_ver_err, SNS_TLM_CNT_rsv_err, SNS_TLM_CNT_dup, SNS_TLM_LAT, SNS_PHQ_current, SNS_PHQ_quality,
    SNS_PHQ_status, SNS_PHT, SNS_ANC_value, SNS_ANC_fault, SNS_ANC_broken, SNS_DRP_MASK, SNS_DRP_FORCE, SNS_DRP_THR]

/-- The fields of the ACT block, in address order of the manual. -/
def fldsACT : List Fld :=
  [
    ACT_ID, ACT_CTL_cal_en, ACT_VREF, ACT_CAL_LIM_pct, ACT_COEF, ACT_COEF_CAL, ACT_SHAPE_W, ACT_IDLE, ACT_LEAK,
    ACT_EST_DIE, ACT_MEAS_DIE, ACT_MEAS_FILL, ACT_ACC_CTL_idle_mode, ACT_ACC_CTL_aux_mode, ACT_ACC_CTL_smax,
    ACT_ACC_CTL_deadband, ACT_ACC_CTL_jobmax, ACT_ACC_STAT_clamp, ACT_ACC_STAT_stray, ACT_ACC_STAT_behind,
    ACT_ACC_STAT_dmin, ACT_PKG_CAP_cap, ACT_PKG_BUD, ACT_SELF_self, ACT_HOUSE, ACT_RLOSS, ACT_RECON_T, ACT_ACC_SEL_idx,
    ACT_ACC, ACT_TCAP, ACT_TSET, ACT_QOWN_tenant, ACT_QOWN_valid]

/-- The fields of the CHK block, in address order of the manual. -/
def fldsCHK : List Fld :=
  [
    CHK_ID, CHK_SLOPE_slope, CHK_DRP_CFG_hold, CHK_FB_CTL_holdoff, CHK_FB_CTL_release, CHK_FB_STAT_state,
    CHK_FB_STAT_armed, CHK_FB_STAT_wire, CHK_FB_STAT_count, CHK_DVFS_CFG_retry, CHK_DVFS_STAT_cancel,
    CHK_DVFS_STAT_deferred, CHK_RAMP_STAT_up_wait, CHK_RAMP_STAT_dn_wait, CHK_ALLOW_floor, CHK_ALLOW_droop,
    CHK_ALLOW_step_max, CHK_ALLOW_now, CHK_ALLOW_in_droop, CHK_IMAX_imax, CHK_STEP_mode, CHK_STEP_held,
    CHK_STEP_credits, CHK_STEP_seq]

/-- The fields of the FCS block, in address order of the manual. -/
def fldsFCS : List Fld :=
  [
    FCS_ID, FCS_CTL_fc_en, FCS_CTL_prompt_en, FCS_CTL_ff_en, FCS_FF_gain, FCS_FF_lead, FCS_FF_IMAX_imax, FCS_LP_horizon,
    FCS_PROMPT_gap, FCS_CAL_lam, FCS_CAL_p0_exp, FCS_CAL_STAT_upd, FCS_CAL_STAT_resets, FCS_ARR_STAT_nan,
    FCS_ARR_STAT_inf, FCS_ARR_STAT_util, FCS_ARR_STAT_qmax, FCS_LOAD_STAT_slot, FCS_LOAD_STAT_busy, FCS_TMAP,
    FCS_SLOT_state, FCS_SLOT_mode, FCS_SLOT_ID_ident, FCS_CORE_force_static, FCS_CORE_ln, FCS_CORE_fallback,
    FCS_CORE_sallow, FCS_CORE_istat, FCS_DISCARD_wrong, FCS_DISCARD_unres, FCS_NFC_count, FCS_DIE_FC_current]

/-- The fields of the VRC block, in address order of the manual. -/
def fldsVRC : List Fld :=
  [
    VRC_ID, VRC_CTL_run, VRC_CTL_trk, VRC_CTL_de_en, VRC_CTL_brk_en, VRC_CTL_restart, VRC_CTL_unshed, VRC_STAT_state,
    VRC_STAT_de, VRC_STAT_climit, VRC_STAT_exc, VRC_STAT_peak_spent, VRC_STAT_n_en, VRC_STAT_fault, VRC_VSET_vset,
    VRC_SLEW_slew, VRC_VREF_vref, VRC_VSENSE_vsense, VRC_VIN_vin, VRC_LPH_lph, VRC_PWM_period, VRC_PWM_LIM_ton_min,
    VRC_PWM_LIM_toff_min, VRC_PID_A_kp, VRC_PID_A_ki, VRC_PID_B_kd, VRC_PID_B_dsh, VRC_OCP_PH_iph, VRC_OCP_PH_fold_min,
    VRC_OCP_TOT_icont, VRC_OCP_TOT_ipeak, VRC_OCP_TRIP_itrip, VRC_OCP_TRIP_tpeak, VRC_OCP_STAT_peak, VRC_OCP_STAT_avail,
    VRC_OVP_level, VRC_UV_margin, VRC_UV_time, VRC_DE_enter, VRC_DE_exit] ++
  [
    VRC_DE_dwell, VRC_DE_zc_trim, VRC_BRK_vf, VRC_BRK_min, VRC_TRK_master, VRC_TRK_vm_set, VRC_PH_CFG_min_ph, VRC_OPP_v,
    VRC_DT_td_hl, VRC_DT_td_lh, VRC_PH_EN, VRC_PH_SHED, VRC_PH_STAT_ton, VRC_PH_STAT_lim_hits, VRC_PH_STAT_shed,
    VRC_PH_STAT_de, VRC_PH_STAT_brake, VRC_LASTF]

/-- The fields of the PMB block, in address order of the manual. -/
def fldsPMB : List Fld :=
  [
    PMB_ID, PMB_CTL_speed, PMB_CTL_auto_clear, PMB_CTL_alert_en, PMB_CTL_retries, PMB_STAT_seq, PMB_STAT_stuck,
    PMB_STAT_masked, PMB_STAT_unk, PMB_STAT_skip, PMB_POLL_period, PMB_SEQ_core_grp, PMB_SEQ_core_delay, PMB_GRP_t_on,
    PMB_GRP_delay, PMB_GRP_cool, PMB_GRP_retries, PMB_RAIL_addr, PMB_RAIL_en, PMB_RAIL_page, PMB_RAIL_group,
    PMB_RAIL_crit, PMB_RAIL_target, PMB_RAIL_pg_pct, PMB_RAIL_STAT_status, PMB_RAIL_STAT_state, PMB_RAIL_STAT_nack,
    PMB_RAIL_STAT_pec, PMB_RAIL_V, PMB_RAIL_P]

/-- The fields of the LPE block, in address order of the manual. -/
def fldsLPE : List Fld :=
  [
    LPE_ID, LPE_GUARD_fill_max, LPE_BUDGET_units, LPE_STAT_skips, LPE_STAT_late, LPE_STAT_fb, LPE_LOAD_util,
    LPE_LOAD_stall, LPE_LOAD_qmax, LPE_CTX_SEL_ctx, LPE_CTX_CFG, LPE_CTX_ST, LPE_FAULT, LPE_OVR, LPE_CLASS_cur,
    LPE_CLASS_pwr, LPE_CLASS_thm, LPE_CLASS_slp, LPE_CLASS_ten, LPE_CLASS_row4]

/-- The fields of the THM block, in address order of the manual. -/
def fldsTHM : List Fld :=
  [
    THM_ID, THM_CTL_run, THM_CTL_set, THM_CTL_anc_rearm, THM_CTL_corr_en, THM_STAT_state, THM_STAT_generic,
    THM_STAT_band, THM_STAT_cp_remote, THM_STAT_warn, THM_STAT_throttle, THM_STAT_shut, THM_STAT_stage_hot,
    THM_STAT_blind, THM_STAT_refresh, THM_STEP_period, THM_STEP_catchup, THM_STEP_STAT_late, THM_STEP_STAT_reinit,
    THM_STEP_STAT_pend, THM_STEP_STAT_tin_rej, THM_TIN_tin, THM_HOT_value, THM_HOT_node, THM_ANC_clamp, THM_ANC_dmodel,
    THM_ANC_dnb, THM_ANC_persist, THM_BLIND_blind, THM_LVL_warn, THM_LVL_throttle, THM_LVL_shutdown, THM_LVL_hyst,
    THM_LVL_rate, THM_BAND_e1, THM_BAND_e2, THM_BAND_e3, THM_BAND_e4, THM_BAND_CFG_hyst, THM_BAND_CFG_dwell] ++
  [
    THM_BAND_CFG_refresh, THM_STG_warn, THM_STG_limit, THM_SHD_drain, THM_SET_ID_ident, THM_SET_PER_period,
    THM_NODE_anchor, THM_NODE_linked, THM_NODE_weight, THM_NODE_group, THM_NODE_band_src, THM_ANB_nb0, THM_ANB_nb1,
    THM_ANB_nb2, THM_ANB_nb3, THM_ANB_v0, THM_ANB_v1, THM_ANB_v2, THM_ANB_v3, THM_X_x, THM_L_limit, THM_L_warn,
    THM_L_throttle, THM_L_blind, THM_L_anchored, THM_ANC_ST_residual, THM_ANC_ST_dmod, THM_ANC_ST_dnb, THM_ANC_ST_nb_na,
    THM_ANC_ST_healthy, THM_ANC_ST_run, THM_RATE]

/-- The fields of the TLY block, in address order of the manual. -/
def fldsTLY : List Fld :=
  [
    TLY_ID, TLY_CFG_recall, TLY_CFG_quantum, TLY_STAT_free, TLY_STAT_rsv, TLY_VIOL_rel_err, TLY_VIOL_bad_req,
    TLY_VIOL_late_rel, TLY_VIOL_nogrant, TLY_RCL_nprog, TLY_RCL_rsv, TLY_OBJ_SEL_obj, TLY_OBJ, TLY_POOL_cap,
    TLY_POOL_coll, TLY_POOL_recall, TLY_POOL_age, TLY_POOL_rwait, TLY_POOL_ST_used, TLY_POOL_ST_rsv, TLY_POOL_ST_rq,
    TLY_POOL_ST_clamped, TLY_POOL_ST_waiting, TLY_PSEL_pool, TLY_PSEL_cpool, TLY_AMT_amount, TLY_AMT_slew,
    TLY_SLEW_step, TLY_TEN_weight, TLY_TEN_objmax, TLY_TEN_quota, TLY_TEN_ST_committed, TLY_TEN_ST_objects]

/-- The fields of the HIF block, in address order of the manual. -/
def fldsHIF : List Fld :=
  [
    HIF_ID, HIF_VER_gen, HIF_VER_ring, HIF_VER_slate, HIF_VER_salgor, HIF_FEAT, HIF_SCTL_en, HIF_SCTL_size,
    HIF_SDESC_base, HIF_SCPL_base, HIF_SNOTIFY_addr, HIF_QLIM_limit, HIF_QLIM_leak, HIF_LIM_inflight, HIF_STAT_viol,
    HIF_STAT_fabric, HIF_STAT_stray_db, HIF_TRING_SEL_tenant, HIF_TRING_SNAP, HIF_QUAR, HIF_RSTATE]

/-- The fields of the SLT block, in address order of the manual. -/
def fldsSLT : List Fld :=
  [
    SLT_ID, SLT_PAIR_lead, SLT_PAIR_timeout, SLT_STAT_open, SLT_STAT_armed, SLT_STAT_pair, SLT_STAT_lines,
    SLT_TAKE_take, SLT_TAKE_WRAP_wraps, SLT_TAKE_T_instant, SLT_RWT_offset, SLT_RWT_count, SLT_FAIL_failed,
    SLT_FAIL_rollback, SLT_FAIL_past, SLT_SLATE_state, SLT_SLATE_thm, SLT_SLATE_gen, SLT_SLATE_lines]

/-- The fields of the MGT block, in address order of the manual. -/
def fldsMGT : List Fld :=
  [
    MGT_ID, MGT_CTL_en, MGT_CTL_sole, MGT_STAT_state, MGT_STAT_role, MGT_STAT_bound, MGT_STAT_ready, MGT_STAT_missed,
    MGT_STAT_term, MGT_IDENT_domain, MGT_IDENT_member, MGT_COORD_c0, MGT_COORD_c1, MGT_TIM_cut, MGT_TIM_ackw,
    MGT_TIM_hb_miss, MGT_TIM_orphan, MGT_TIM2_dem, MGT_TIM2_gone, MGT_DEM_head, MGT_DEM_weight, MGT_FLOOR_floor,
    MGT_ADD_add, MGT_SAFE_safe, MGT_DECAY_rate, MGT_BUD_bud, MGT_EPOCH, MGT_OFS, MGT_RATE_rate, MGT_CLAP_n,
    MGT_CLAP_parent, MGT_CLAP_pvalid, MGT_CLAP_period, MGT_CSTAT_hops, MGT_CSTAT_delta, MGT_CSTAT_fail, MGT_VIOL_crc,
    MGT_VIOL_domain, MGT_VIOL_ver, MGT_VIOL_type] ++
  [
    MGT_VIOL_late, MGT_VIOL_dup, MGT_VIOL_ttl, MGT_VIOL_noroute, MGT_DOM_BUD_bud, MGT_DOM_NEXT_next, MGT_DOM_AT,
    MGT_TREE, MGT_MSEL_member, MGT_MSNAP, MGT_ROUTE, MGT_MEMB]

/-- The fields of the PAR block, in address order of the manual. -/
def fldsPAR : List Fld :=
  [
    PAR_ID, PAR_CTL_handover, PAR_CTL_sole, PAR_CTL_dmin, PAR_CFG_loss, PAR_CFG_take, PAR_CFG_ckpt, PAR_CFG_rtx,
    PAR_STAT_state, PAR_STAT_role, PAR_STAT_die, PAR_STAT_up, PAR_STAT_ledger, PAR_STAT_term, PAR_CNT_failover,
    PAR_CNT_split, PAR_CNT_rtx, PAR_CNT_crc, PAR_OFS, PAR_DIEBUD_bud]

/-- The fields of the CLK block, in address order of the manual. -/
def fldsCLK : List Fld :=
  [
    CLK_ID, CLK_STAT_lock, CLK_STAT_ref_ok, CLK_EN_en, CLK_XOVR_ovr, CLK_XERR_err, CLK_FM_CTL_meas, CLK_FM_CTL_ref,
    CLK_FM_CTL_win, CLK_FM_CTL_idx, CLK_FM_CTL_start, CLK_FM_CNT_count, CLK_FM_CNT_done, CLK_TS_STAT_resync, CLK_TS_ts,
    CLK_DVFS_CFG_vmargin, CLK_DVFS_CFG_settle, CLK_DVFS_LIM_min, CLK_DVFS_LIM_max, CLK_DVFS_STAT_point,
    CLK_DVFS_STAT_target, CLK_DVFS_STAT_stage, CLK_DVFS_STAT_half, CLK_DVFS_STAT_parked, CLK_DVFS_STAT_lockfail,
    CLK_OPP_F_mhz]

/-- The fields of the RST block, in address order of the manual. -/
def fldsRST : List Fld :=
  [
    RST_ID, RST_CAUSE_cause, RST_CAUSE_crowbar, RST_CAUSE_shutdown, RST_COUNT_poreset, RST_COUNT_refclk, RST_COUNT_pll,
    RST_LAST_TS_ts, RST_SEQ_stage, RST_SEQ_cause, RST_SEQ_board, RST_SEQ_image, RST_SEQ_auto, RST_START_go,
    RST_START_down, RST_START_drain]

/-- The fields of the MEM block, in address order of the manual. -/
def fldsMEM : List Fld :=
  [
    MEM_ID, MEM_STAT_clearing, MEM_STAT_bt_bank, MEM_STAT_nospare, MEM_STAT_retired, MEM_RATE_gap, MEM_BT_en,
    MEM_BT_period, MEM_ECC_single, MEM_ECC_double, MEM_VIOL_master, MEM_VIOL_bank, MEM_VIOL_region, MEM_VIOL_write,
    MEM_VIOL_valid, MEM_BU_ADDR_bank, MEM_BU_ADDR_line, MEM_BU_ADDR_done, MEM_BU_DATA, MEM_RGN_bank, MEM_RGN_r,
    MEM_RGN_w, MEM_RGN_valid, MEM_RGN_base, MEM_RGN_size, MEM_RMAP_region, MEM_RMAP_valid]

/-- The fields of the FW block, in address order of the manual. -/
def fldsFW : List Fld :=
  [
    FW_ID, FW_CTL_restart, FW_WDOG_wd0, FW_WDOG_wd1, FW_WDOG_wd2, FW_WDOG_wd3, FW_STAT_state, FW_STAT_copy,
    FW_RCNT_count, FW_RCNT_cause, FW_VER_version, FW_LEN_length, FW_DIGEST_d, FW_FUSE_d]

/-- The fields of the EVT block, in address order of the manual. -/
def fldsEVT : List Fld :=
  [
    EVT_ID, EVT_NEXT_next, EVT_HW_count, EVT_HW_gen, EVT_DROP_dropped, EVT_DROP_qmax, EVT_TA_ta, EVT_SA_sa, EVT_NA_na,
    EVT_NA_set, EVT_CIV_LAT_latch, EVT_CIV_year, EVT_CIV_month, EVT_CIV_day, EVT_CIV_hour, EVT_CIV_minute,
    EVT_CIV_second, EVT_CIV_valid, EVT_CIV_done, EVT_CIV_ns]

/-- The fields of the NVM block, in address order of the manual. -/
def fldsNVM : List Fld :=
  [
    NVM_ID, NVM_STAT_found, NVM_STAT_quad, NVM_STAT_busy, NVM_STAT_density, NVM_STAT_sfdp, NVM_ERR_prog, NVM_ERR_erase,
    NVM_MIRROR_count, NVM_MIRROR_slot, NVM_MIRROR_cause, NVM_MIRROR_deferred, NVM_WEAR_hw, NVM_WEAR_mirror,
    NVM_WEAR_log, NVM_WEAR_image]

/-- The fields of the SMB block, in address order of the manual. -/
def fldsSMB : List Fld :=
  [
    SMB_ID, SMB_CTL_addr, SMB_CTL_tin_en, SMB_STAT_cmd, SMB_STAT_pec, SMB_STAT_timeout]

/-- The fields of the TRC block, in address order of the manual. -/
def fldsTRC : List Fld :=
  [
    TRC_ID, TRC_WIN_BASE_base, TRC_WIN_SIZE_size, TRC_STAT_state, TRC_STAT_kinds, TRC_STAT_loss, TRC_SAMP_tenant,
    TRC_SAMP_valid, TRC_DROP_cmd, TRC_DROP_fcst, TRC_DROP_other, TRC_WRITTEN_written, TRC_BASE_base, TRC_SIZE_size]

/-- The fields of the CNT block, in address order of the manual. -/
def fldsCNT : List Fld :=
  [
    CNT_ID, CNT_WFG_start, CNT_WFG_busy, CNT_WFG_valid, CNT_WFG_cycle, CNT_WFG_trunc, CNT_WFG_edges, CNT_WFG_CFG_auto,
    CNT_WFG_CFG_stall, CNT_WFG_SEL_edge, CNT_WFG_EDGE, CNT_WFG_T_ts, CNT_SHAPE_B_bytes, CNT_TAP_VIOL_count]

/-- The fields of the FAN block, in address order of the manual. -/
def fldsFAN : List Fld :=
  [
    FAN_ID, FAN_CFG_spin, FAN_CFG_tach_to, FAN_CFG_retries, FAN_CTL_rearm, FAN_CH_en, FAN_CH_ppr, FAN_CH_dmin,
    FAN_CH_sduty, FAN_CH_min_rpm, FAN_CH_cap, FAN_BAND_d0, FAN_BAND_d1, FAN_BAND_d2, FAN_BAND_d3, FAN_BAND_d4,
    FAN_OVR_duty, FAN_OVR_valid, FAN_STAT_state, FAN_STAT_tries, FAN_STAT_duty, FAN_STAT_rpm, FAN_DEF_deficit]

/-- The fields of the GEN block, in address order of the manual. -/
def fldsGEN : List Fld :=
  [
    GEN_ID, GEN_VER_gen, GEN_VER_ring, GEN_VER_slate, GEN_VER_salgor, GEN_CFG_config, GEN_CFG_die, GEN_CFG_step,
    GEN_CAP_cores, GEN_CAP_links, GEN_CAP_lanes, GEN_CAP_anc8, GEN_UID_uid, GEN_SCRATCH_scratch]

/-- The fields of the block with a number (R538). -/
def unitFlds (n : Nat) : List Fld :=
  match n with
  | 0 => fldsGEN
  | 1 => fldsCLK
  | 2 => fldsRST
  | 3 => fldsMEM
  | 4 => fldsFW
  | 5 => fldsHIF
  | 6 => fldsSLT
  | 7 => fldsSNS
  | 8 => fldsCHK
  | 9 => fldsVRC
  | 10 => fldsPMB
  | 11 => fldsTHM
  | 12 => fldsFCS
  | 13 => fldsLPE
  | 14 => fldsTLY
  | 15 => fldsACT
  | 16 => fldsEVT
  | 17 => fldsNVM
  | 18 => fldsTRC
  | 19 => fldsCNT
  | 20 => fldsFAN
  | 21 => fldsMGT
  | 22 => fldsPAR
  | 23 => fldsSMB
  | _ => []

end Sys2Proof.Machine
end

