-- ==== Sys2Proof/Machine/State.lean ====
section
/-!
DEFINITION. Machine/State.lean: everything the manual gives the block, as plain data: register fields, memories, queues, the
state of every unit, and the queue of waiting commands; the faults and refusals; the block right after reset.
-/
namespace Sys2Proof.Machine

/-- A descriptor Quefa has fetched (R297): its ring and index, the enabling of the ring it belongs to, its 64 bytes as a
number, and when FP2 took it. -/
structure Desc where
  ring : Nat
  idx  : Nat
  gen  : Nat := 0
  w    : Nat
  t    : Nat := 0
deriving DecidableEq, Repr

/-- A command of an engine between DISPATCH and end or squash (R18, R20). An ended command stays until its window closes, so that
the slots it began in that window are counted for it (R57). -/
structure Cmd where
  word  : Nat            -- the 128-bit DISPATCH record
  begun : Bool := false
  spec  : Bool := false  -- the spec bit, cleared by a begin (R21)
  ended : Bool := false
  stepped : Bool := false -- it began in release mode (R495)
deriving DecidableEq, Repr

/-- A tally request held in the port (R242, R243). -/
structure PortReq where
  seq       : Nat
  coll      : Bool
  presented : Bool := false  -- has left release mode's hold (R89)
  since     : Nat := 0       -- timestamp of the request
deriving DecidableEq, Repr

/-- One engine lane of a core outpost: its tap, its tally port and its CMD group queue (R17, R243, R492). -/
structure Lane where
  cmds    : List Cmd := []
  unkBusy : Bool := false            -- unknown begin under R21
  unkWin  : Bool := false            -- it was so at some time in the open window (R21, R64)
  req     : Option PortReq := none   -- the request that is, or will be, presented next
  early   : List PortReq := []       -- later ones that the port holds (R243)
  prevPresented : Option Nat := none -- the command presented last in release mode (R89)
  lastProg : Nat := 0                -- end of the latest window with progress, as crossed to the hub (R257)
deriving DecidableEq, Repr

/-- The choker's own state beside CHK_ALLOW (R67 to R80). -/
structure Chk where
  started : Bool := false            -- has passed a boundary since QUEFA_READY was asserted (R70)
  used    : Nat := 0                 -- slots begun in the last complete window (R76)
  part    : Nat := 0                 -- slots of the open window that a tick boundary has already taken (R58)
  lastAllow : Nat := 0               -- allowance of that window (R104)
  upPend  : Nat := 0                 -- up units granted and waiting for a boundary (R77)
  dnPend  : Nat := 0                 -- down units granted and waiting for a boundary (R77)
  cut     : Option (Nat × Nat) := none  -- a droop inside this window: first cycle of the new pattern, allowance replaced (R79)
deriving DecidableEq, Repr

/-- A core outpost's droop detectors (R32 to R37, R79 to R82). -/
structure Droop where
  cmp   : Nat := 0                   -- the detectors' comparison outputs, a bit each, before force
  orOut : Bool := false              -- the OR of the unmasked outputs
  hold  : Bool := false              -- the droop hold of R81 runs or the OR is asserted
  band  : Nat := 2                   -- the band whose threshold table the core uses (R35)
  quietT : Nat := 0                  -- instant the hold's cycles are counted through (R81)
  quiet  : Nat := 0                  -- core cycles of the hold so far, in 1/800
deriving DecidableEq, Repr

/-- The core outpost as a whole. -/
structure CoreSt where
  reset   : Bool := true             -- CORE_RST asserted (R531)
  lnMode  : Bool := false            -- LN_MODE as last crossed (R121)
  cycles  : Nat := 0                 -- core cycles of the open tick, in 1/800 (R60)
  cycT    : Nat := 0                 -- instant they are counted through
deriving DecidableEq, Repr

/-- A tally object (R239) with the hub's bookkeeping. -/
structure TObj where
  state  : Nat := 0                  -- 0 FREE, 1 WAITING, 2 GRANTED, 3 RECALLED (R240)
  tenant : Nat := 0
  engine : Nat := 0
  seq    : Nat := 0
  queue  : Nat := 0
  amount : Nat := 0
  slew   : Nat := 0
  pool   : Nat := 0
  coll   : Bool := false
  gen    : Nat := 0
  admitted : Bool := false
  eligible : Bool := false
  progSince : Bool := false          -- a window with progress ended after the recall (R259)
  ended  : Bool := false             -- the command's end strobe has been taken (R247)
  everGranted : Bool := false
  tState : Nat := 0                  -- timestamp of the last state change
  tAlloc : Nat := 0
  tAdm   : Nat := 0                  -- admission (R249)
  tElig  : Nat := 0                  -- eligibility (R253)
  tGrant : Nat := 0                  -- grant hub cycle (R257)
  oAlloc : Nat := 0                  -- order of allocation
  oAdm   : Nat := 0                  -- order of admission
  oGrant : Nat := 0                  -- order of grant
  oRecall : Nat := 0                 -- order of recall
deriving DecidableEq, Repr

/-- An active tenant of a pool's round (R252). -/
structure Turn where
  tenant  : Nat
  deficit : Int := 0
  visited : Bool := false
deriving DecidableEq, Repr

/-- A pool's arbiter (R251 to R254). The round's head is the tenant the pointer stands on. -/
structure PoolSt where
  round : List Turn := []
  aged  : List Nat := []                   -- objects, in order of joining (R253)
  rsv   : Option (Nat × Nat) := none       -- reserved object and the instant it was taken (R254)
  acted : Option Nat := none               -- hub cycle of the arbiter's latest action (R251)
deriving DecidableEq, Repr

/-- The tally arbiter (R239 to R259). -/
structure Tly where
  objs    : SMap TObj := []
  fresh   : Nat := 0                       -- objects never used yet begin here (R241)
  freed   : List Nat := []                 -- freed objects, oldest first
  order   : Nat := 0                       -- running order number
  pools   : SMap PoolSt := []
  commStart : SMap (Nat × Nat) := []       -- committed amount at the start of a hub cycle, by tenant (R249)
  drive   : List (Nat × Nat) := []         -- objects granted in this hub cycle, with their gen: their Grant items (R245, R264)
  recalls : List (Nat × Nat × Nat) := []   -- objects recalled in it, with gen and cause: they count as it ends (R258, R264)
deriving DecidableEq, Repr

/-- The ramp credit pools and the firebreak's instants (R75, R83 to R86). -/
structure Ramp where
  up : Nat := 0
  dn : Nat := 0
  upPtr : Nat := 0
  dnPtr : Nat := 0
  negT : Nat := 0                          -- instant the wire was recognised as negated
  assertT : Nat := 0                       -- instant the firebreak was entered
  relTake : Nat := 0                       -- take that armed the release (R86)
  relAsk  : Option Nat := none             -- take of this hub cycle that sets CHK_FB_CTL.release (R87)
  tick    : Option Nat := none             -- instant of the last ramp tick (R75)
deriving DecidableEq, Repr

/-- A record waiting in the recorder's queue (R447, R451). -/
structure EvRec where
  code  : Nat
  sev   : Nat
  flags : Nat          -- the flags known at the event: coalesced, die, role, firebreak, hardware (R448)
  take  : Nat
  ts    : Nat
  params : List Nat
deriving DecidableEq, Repr

/-- The event recorder's own state (R451 to R453). -/
structure Rec where
  queue : List EvRec := []
  lost  : Nat := 0                -- dropped since the last EV_EVT_LOST (R452)
  nextT : Nat := 0                -- first hub cycle in which the recorder may accept again (R451)
  inLost : Bool := false          -- EV_EVT_LOST has been accepted and its record follows
  last  : SMap Nat := []          -- last aligned span recorded + 1, by code and scope (R453)
  coal  : SMap Bool := []         -- codes with a suppressed occurrence (R453)
  deep  : Nat := 0                -- deepest queue of the open millisecond (R484)
  full  : Bool := false           -- 4,096 records have been accepted: every sapwood slot holds one (R454)
deriving DecidableEq, Repr

/-- What leaves the block: the outside reads the list (log entry 5). -/
inductive Out where
  | fabricWrite (addr : Nat) (bytes : List Byte)        -- fabric master write (R534)
  | fabricSplit (addr : Nat) (low : List Byte) (gap : Nat) (high : List Byte) -- one write of two spans, gap bytes apart (R298)
  | fabricRead (addr len : Nat)                         -- fabric master read request
  | grantItem (choker seq id gen status : Nat)          -- Grant item of the tally port (R242)
  | releaseResp (choker id code : Nat)                  -- release response of the tally port (R242)
  | pmbus (bytes : List Nat)                            -- PMBus transaction issued: the bytes that the host drives
  | pmbusRecover                                        -- nine clock pulses and a stop on the PMBus (R171)
  | flashProgram (addr : Nat) (bytes : List Byte)       -- SPI NOR program (R463)
  | flashErase (addr : Nat)                             -- SPI NOR 4 KiB erase
  | flashRead (addr len : Nat)                          -- SPI NOR read
  | smbus (bytes : List Nat)                            -- data an SMBus read returns (R479)
  | smbusNack                                           -- not acknowledged (R480)
  | lane (link : Nat) (bytes : List Byte)               -- management-lane message on a link (R338)
  | pairReport (words : List Nat)                       -- a secondary's report of a millisecond to the primary (R287)
  | bridge (bytes : List Byte)                          -- pair-bridge message (R366)
  | memData (master : Nat) (bytes : List Byte)           -- data a master's bank read returns (R422)
  | fanPwm (channel cycles : Nat)                        -- SLOW cycles of a fan period with the output released (R517)
  | regData (offset value : Nat)                        -- data a register read returns (R539)
  | dbData (offset value : Nat)                         -- data a read of the doorbell aperture returns (R292, R296)
deriving DecidableEq, Repr

/-- An activity record of the open tick: one distinct opclass, tenant and queue of an engine (R57, R59). -/
structure Act where
  cls    : Nat
  tenant : Nat
  queue  : Nat
  count  : Nat            -- weighted count, in 1/16
deriving DecidableEq, Repr

/-- The open tick's activity of an engine (R59, R64). -/
structure EngAct where
  recs   : List Act := []         -- in order of first appearance, at most 16
  merged : SMap Nat := []         -- weighted count of the merged record by opclass
  unk    : SMap Nat := []         -- weighted count of the unknown-begin record by opclass
deriving DecidableEq, Repr

/-- A telemetry lane's receiver (R43 to R45, R52). -/
structure TlmLane where
  got     : Bool := false         -- a frame has been accepted since reset
  lastSeq : Nat := 0
  lastTs  : Nat := 0              -- T of the last accepted frame
  prevTs  : Nat := 0              -- T of the last frame whose sync word was found (R43)
  relock  : Bool := true          -- the continuity rule of R45 is due at the next SYNC
  missSync : Nat := 0             -- consecutive expected positions without a sync word (R43)
  wrongLane : Nat := 0            -- consecutive frames with a wrong lane field (R52)
  crcMs   : Nat := 0              -- CRC failures in the open millisecond
  dark    : Bool := false
  darkTs  : Nat := 0              -- timestamp of the last accepted frame at the dark event (R44)
  pair    : Option (Nat × Nat × List Nat) := none  -- the even frame awaiting its partner: seq, T, 64 codes (R499)
deriving DecidableEq, Repr

/-- A phase of the core rail as telemetry sees it (R47 to R51). -/
structure PhTlm where
  code     : Nat := 0             -- last current code received
  lastIv   : Nat := 0             -- 100 ns interval of its last measured sample (R150)
  thru     : Nat := 0             -- first interval that no received frame covers, accepted or not (R150)
  haveCode : Bool := false
  run      : Nat := 0             -- identical codes in continuous conduction (R50)
  frozen   : Bool := false
  stale    : Bool := false
  good     : Nat := 0             -- consecutive accepted frames while STALE (R49)
  chg      : Nat := 0             -- consecutive accepted frames with a change while FROZEN (R50)
  lastSeq  : Nat := 0
  bad0     : Bool := true         -- status bit 0 or no accepted frame: MISSING
  high     : Bool := false        -- code 0xFFF in the frame
  fault    : Bool := false        -- status bit 3 in the last accepted frame
  tempTs   : Nat := 0
  tempSeen : Bool := false
  sumMs    : Nat := 0             -- measured codes summed over the open millisecond (R48)
  share    : Nat := 0             -- the sum over the last good millisecond
  shareOld : Nat := 0             -- the share before that
deriving DecidableEq, Repr

/-- A 100 ns sample interval of a tick (R61, R150). -/
structure Slot where
  got : Nat := 0                  -- phases with a measured sample, a bit each
  sum : Nat := 0                  -- sum of the measured codes, 1/32 A
  cv  : Nat := 0                  -- sum of code times v_sense over the measured samples
deriving DecidableEq, Repr

/-- An estimator tick until its measured energy is final (R60, R61, R125), by tick number. -/
structure Tick where
  closed : Bool := false          -- the tick has ended and its estimate is formed
  est   : Nat := 0                -- estimated die energy, pJ
  leak  : Nat := 0                -- sum of leak(c), pJ
  vref  : Nat := 0                -- v_ref_int at the tick's start, 0.25 mV
  vs    : Nat := 0                -- voltage scale of R60
  phi   : List Nat := []          -- regressors of R125, binary32
  slots : SMap Slot := []         -- sample intervals 0 to 9
deriving DecidableEq, Repr

/-- From an instant on: the phases enabled for telemetry and those of them in continuous conduction, a bit each, and N_en
(R48, R50, R61). -/
structure PhNote where
  t   : Nat
  on  : Nat
  ccm : Nat
  n   : Nat
deriving DecidableEq, Repr

/-- Sensing as a whole (R47 to R64). -/
structure Sns where
  lanes  : SMap TlmLane := []
  phases : SMap PhTlm := []
  ticks  : SMap Tick := []        -- ticks not yet final, by number
  haveShare : Bool := false       -- a millisecond with every phase GOOD or DISABLED has passed
  haveOld : Bool := false         -- the same before the shares of shareT
  shareT : Nat := 0               -- instant from which the present shares hold
  notes  : List PhNote := []      -- phases enabled and in continuous conduction by instant, newest first
  msClean : Bool := true          -- so far in the open millisecond
  calPause : Bool := false        -- R62: a reason to pause held in the open millisecond
  calPaused : Bool := false       -- it held in the last complete millisecond
  vHist  : List (Nat × Nat) := [] -- v_sense by instant, newest first (R61)
  acts   : SMap EngAct := []      -- by engine choker
  eCore  : SMap Nat := []         -- e(c) of the last tick, pJ
  eEng   : SMap Nat := []         -- scaled dynamic energy per engine choker of the last tick, pJ
  estV   : Nat := 0               -- v_ref_int at the start of the open tick
  estPj  : Nat := 0               -- estimated die energy of the last tick to close, pJ
  estVr  : Nat := 0               -- v_ref_int at that tick's start
  nextFin : Nat := 0              -- next tick whose measured energy is to be made final
  ancConv : SMap (List Nat) := [] -- conversions of the open millisecond by anchor, s16f7 words
  ancBad : SMap Bool := []        -- a conversion failed in the open millisecond
  ancLast : SMap Nat := []        -- latest single conversion, s16f7 word
  ancT   : Option Nat := none     -- boundary of the latest reports (R54)
  ticked : Nat := 0               -- estimator ticks that have closed (R58)
  old    : SMap Nat := []         -- settings a take has replaced, in force until the tick ends, by field key (R63, R288, R504)
  coefNew : Bool := false         -- a take has changed ACT_COEF: the base values apply from the next tick (R63)
  isrc   : Nat := 0               -- source 0x01 of the last final tick, binary32 (R177)
  isrcOk : Bool := false
deriving DecidableEq, Repr

/-- An unresolved forecast, read from a FIT slot (R108, R118). -/
structure Unres where
  snap  : Nat                       -- T_s
  slot  : Nat
  tenant : Option Nat
  ident : Nat
  wait  : List (Nat × Nat)          -- (engine, seq) of the speculative commands it waits for
  wrong : Bool := false
  y     : List Nat := []            -- the output, once it has arrived
  arrived : Bool := false
deriving DecidableEq, Repr

/-- A forecast queued to a slice of the array (R101 to R106). -/
structure FcJob where
  core  : Nat
  snap  : Nat
  slot  : Nat
  slice : Nat
  fit   : Bool                      -- the slot was FIT at the snapshot
  image : List Byte                 -- the slot's image as read at the snapshot
  x     : List Int                  -- the 64 features
deriving DecidableEq, Repr

/-- A core's forecasting state (R102 to R123). -/
structure CoreFc where
  everSnap : Bool := false
  lastSnap : Nat := 0
  prompt   : Bool := false          -- a DISPATCH has reached the hub and no snapshot has covered it (R102)
  atOnce   : Bool := false          -- the first snapshot after fallback (R123)
  applied  : Bool := false          -- an output has been applied (R107, R114)
  appSnap  : Nat := 0
  stat     : Bool := false          -- fallback has been left and no forecast since it applied: istat stays (R123)
  y        : List Nat := []
  ovf      : Nat := 0               -- R120 drops of the open millisecond
  unres    : List Unres := []
  dispT    : List Nat := []         -- recent strobes by kind (features 56 to 59)
  beginT   : List Nat := []
  endT     : List Nat := []
  sqT      : List Nat := []
  lastDisp : Option Nat := none     -- timestamp of the last DISPATCH record
  lastTenant : Option Nat := none   -- its tenant
deriving DecidableEq, Repr

/-- The model array's programs (R93 to R128). -/
structure Fcs where
  cores  : SMap CoreFc := []
  queue  : List FcJob := []
  models : SMap (List Byte) := []   -- image of each slot, 12,992 bytes
  load   : Option (Nat × Desc) := none -- FCST_LOAD in progress: slot and descriptor (R110)
  ff     : Nat := 0                 -- feed-forward current, u32f8 A
  ffPrev : Nat := 0                 -- as last applied to running pulses (R143)
  ffHit  : Bool := false            -- the clamp of R114 has acted in the open millisecond
  ffPeak : Nat := 0                 -- peak of F in it, u32f8 A
  passes : Nat := 0                 -- slice-passes used in the open millisecond
  deepQ  : Nat := 0
  theta  : SMap Nat := []           -- RLS coefficients, binary32 (R125)
  p      : SMap Nat := []           -- P, key 32 i + j; empty as the array leaves its own reset
  thetaSet : Bool := false          -- theta has been loaded from the base values
deriving DecidableEq, Repr

/-- A published source value (R177). -/
structure Src where
  val   : Nat := 0                  -- binary32
  valid : Bool := false
  ts    : Nat := 0
  ever  : Bool := false             -- published since reset or its producer's last start (R193)
  nxt   : Option (Nat × Bool × Nat × Nat) := none -- a FILT signal not yet readable: value, valid, timestamp, readable from (R178)
deriving DecidableEq, Repr

/-- An evaluation that read an unchanging input: whether its value was fresh, |delta u|, out-ranked (R194). -/
structure FrzEv where
  fresh : Bool
  du    : Nat
  outr  : Bool
deriving DecidableEq, Repr

/-- The frozen check of one input (R194): the value read last and the evaluations of its run, newest first. -/
structure Frz where
  seen : Bool := false
  val  : Nat := 0
  ts   : Nat := 0
  evs  : List FrzEv := []
deriving DecidableEq, Repr

/-- A loop context (R176, R188 to R200). -/
structure Ctx where
  cfg    : Nat := 0                 -- 64 bytes, little-endian
  u      : Nat := 0                 -- output, or the filter's signal, binary32
  integ  : Nat := 0
  sp     : Nat := 0
  y      : Nat := 0
  started : Bool := false           -- FILT: a valid value has been read (R191)
  seed   : Bool := false
  fb     : Nat := 0                 -- LPE_CTX_ST.fb
  fbCause : Nat := 0                -- cause of the entry (R203)
  fbT    : Nat := 0                 -- instant of the fault's entry
  onAlt  : Bool := false
  ovr    : Bool := false
  ovrT   : Option Nat := none       -- when ovr last changed (R178)
  outranked : Bool := false
  hold   : Bool := false
  skipRun : Nat := 0
  okRun  : Nat := 0                 -- clean evaluations toward restore
  okChg  : Nat := 0                 -- changes of the primary's value within them
  okVal  : Nat := 0
  onTime : Nat := 0                 -- releases published on time, toward leaving OVERRUN
  frz    : Frz := { }               -- of the primary input
  frzAlt : Frz := { }               -- of the alternate input while in use
  tEval  : Nat := 0
  skips  : Nat := 0
  late   : Nat := 0
  seeded : Nat := 0                 -- the set-point source's seed stamp last seen (R180)
deriving DecidableEq, Repr

/-- A queued release (R184, R186). -/
structure Rel where
  ctx : Nat
  rel : Nat
  dead : Nat
  k   : Nat
  cfg : Nat                         -- configuration at the release (R201)
deriving DecidableEq, Repr

/-- The loop engine (R174 to R203). -/
structure Lpe where
  ctxs  : SMap Ctx := []
  queue : List Rel := []
  src   : SMap Src := []            -- key code * 4096 + index
  seeds : SMap Nat := []            -- seed stamps of set-point sources, key code * 4096 + index
  skipMs : Nat := 0                 -- skips in the open millisecond
  skipLow : Nat := 4096             -- lowest skipping context in it
  issued : Nat := 0                 -- evaluations issued in the open millisecond
  stalls : Nat := 0                 -- cycles of LCX lost to others in it (R187, R424)
  deepQ : Nat := 0
deriving DecidableEq, Repr

/-- Drops awaiting a LOSS group (R497). -/
structure Drops where
  cmd  : Nat := 0
  fcst : Nat := 0
  tlm  : Nat := 0
  oth  : Nat := 0
  ts   : Nat := 0
  any  : Bool := false
deriving DecidableEq, Repr

/-- The trace writer (R488 to R499). A group is a list of 16-byte records as numbers. -/
structure Trc where
  mask    : Nat := 0                -- engine mask
  period  : Nat := 0
  staged  : List (List Nat) := []
  cmdQ    : SMap (List (List Nat)) := []  -- CMD groups per engine lane, at most 4
  drops   : Drops := { }
  consumed : Nat := 0
  start   : Nat := 0
  rereadT : Option Nat := none    -- instant of the last reread of consumed
  loss    : Nat := 0              -- LOSS groups since start
  hdrT    : Nat := 0                -- instant of the last header update
  dirty   : Bool := false           -- groups written since
  timeDue : Bool := false           -- a TIME group is due first
  sampT   : Nat := 0                -- first instant that may still be sampled (R507)
  lossCmdMs : Nat := 0
  lossOthMs : Nat := 0
deriving DecidableEq, Repr

/-- An edge of the wait-for graph (R509, R510). -/
structure Edge where
  src : Nat
  dst : Nat
  obj : Option Nat
  age : Nat
deriving DecidableEq, Repr

/-- The wait-for graph (R509 to R511). -/
structure Wfg where
  edges : List Edge := []
  auto  : Bool := false
  t     : Nat := 0
  lastAuto : Option Nat := none
deriving DecidableEq, Repr

/-- A pending CNT_CTL zero (R506). -/
structure CntZero where
  since  : Nat := 0          -- instant at which FP2 handed it on: a later boundary acts on it
  set    : Nat
  tenant : Nat
  desc   : Option Desc := none
deriving DecidableEq, Repr
/-- The DVFS sequencer beside CLK_DVFS_STAT (R88, R396 to R399). -/
structure Dvfs where
  wanted    : Nat := 0       -- operating point asked for (R397)
  step      : Nat := 0       -- target point of the step in progress
  stepV     : Nat := 2600    -- its voltage, captured at the request (R399)
  vPoint    : Nat := 0       -- operating point whose voltage the rail is ordered to
  vCap      : Option Nat := none -- that voltage as a step captured it, until a take applies outside a step
  mhz       : Nat := 800     -- frequency of the half that drives the core clock
  idleMHz   : Nat := 800     -- frequency that the idle half locks to or is locked at
  lockT     : Nat := 0       -- when that lock began
  reachT    : Option Nat := none -- when Up 1 ended
  retryT    : Nat := 0       -- the step below is not attempted before this instant (R398)
  barred    : Nat × Nat := (0, 0) -- the step that a lock failure abandoned: from a point, to a point
  vBegun    : Bool := false  -- the rail's voltage has begun to move for this step (R88)
  switchOff : Bool := false  -- the frequency rise waits for the retry wait (R88)
  vHeld     : Bool := false  -- the voltage decrease is held (R88)
  deferred  : Bool := false
  fbDescent : Bool := false  -- the firebreak's order stands (R84)
  clearT    : Nat := 0       -- instant the die's droop ended
deriving DecidableEq, Repr

/-- Pins and supplies (R526 to R537). -/
structure Pins where
  ready : Bool := false      -- QUEFA_READY
  trip  : Bool := false      -- THERMTRIP_N is asserted (R233)
deriving DecidableEq, Repr

/-- A phase of the core rail at the controller (R133 to R147, R151). The pulse is high for ton steps from lead, mid to low0, low
to low1, then mid. -/
structure Phase where
  ffPrev : Int := 0           -- s48f16 A
  carry  : Int := 0           -- s48f16 steps
  exceed : Nat := 0           -- consecutive samples above the per-phase limit
  skip   : Bool := false      -- no pulse at its next leading edge (R151)
  shedPend : Nat := 0         -- reason of the shed due at the next period start
  shedWhy : Nat := 0          -- reason it has been shed by the controller (R134)
  lead   : Nat := 0           -- instant of the last leading edge, steps
  lead1  : Bool := false      -- it has had a leading edge since the period began
  ton    : Nat := 0
  low0   : Nat := 0
  low1   : Nat := 0
  de     : Bool := false      -- diode emulation at this phase
deriving DecidableEq, Repr

/-- The regulator controller beside its registers (R131 to R158). Integers are s48f16 steps. -/
structure Vrc where
  n       : Nat := 3200       -- period in effect
  perStart : Nat := 0         -- start of the period in progress, steps
  started : Bool := false     -- a period has started
  tdHl    : Nat := 40         -- dead times latched for the period (R148)
  tdLh    : Nat := 32
  order   : List Nat := []    -- enabled phases in pos order, latched at the period start (R133)
  unshed  : Bool := false     -- an unshed take waits for the period start
  ef      : Int := 0
  efPrev  : Int := 0
  acc     : Int := 0
  tPid    : Int := 0
  tSs     : Int := 0
  sat     : Bool := false
  satHi   : Bool := false
  cap     : Nat := 3064       -- shared cap, steps: t_max of the reset settings
  rampTs  : Nat := 0          -- last reference step and its remainder (R137)
  rampCr  : Nat := 0
  startV  : Nat := 0
  prebias : Bool := false     -- diode emulation is forced until v_ref_int passes startV + 4 (R138)
  trk     : Bool := false     -- tracking is in progress
  trkTgt  : Option Nat := none -- target of the last delivery
  trkT    : Nat := 0
  trkHeld : Bool := false
  pwmMid  : Bool := true      -- every PWM output is driven to mid
  enables : Bool := false     -- the controller drives enables
  midT    : Option Nat := none -- instant every PWM went to mid, until the enables drop
  peakCnt : Nat := 0          -- peak-budget counter, quarter-microseconds (R149)
  vSum    : Nat := 0          -- v_sense samples of the last tick to close
  vCnt    : Nat := 0
  itot    : Nat := 0          -- last interval formed, 1/32 A
  ocRun   : Nat := 0
  nextInt : Nat := 0          -- next sample interval to form
  mAcc    : Nat := 0          -- totals of the tick's intervals so far
  mean10  : Nat := 0          -- ten times the mean current of the last whole tick, 1/32 A
  deSince : Option Nat := none
  uvSince : Option Nat := none
  limPeak : Nat := 0          -- peak I_tot of the open millisecond, 1/32 A
  limMs   : Nat := 0
  limHit  : Bool := false     -- the cap has bound in the open millisecond (R150)
  limLim  : Nat := 0          -- i_lim when it last did
  de      : Bool := false     -- diode emulation has been entered (R144), forced apart (R138)
  lfPend  : Bool := false     -- the last-fault record is not yet in flash
  lfAsked : Bool := false     -- its write has been asked for
  lfCount : Nat := 0          -- records written since the flash region was formatted
  phs     : SMap Phase := []
deriving DecidableEq, Repr

/-- A PMBus transaction to make (R160, R161). Purposes: 0 discovery, 1 group on, 2 ramp read, 3 group off, 4 read while off,
5 soft off of a failed group, 6 read while cooling, 7 sweep, 8 alert response, 9 status after an alert, 10 clear faults, 11 new target.
A PAGE write carries the purpose of what follows it. Rail 16 stands for a whole group or the alert address. -/
structure PmbOp where
  purpose : Nat
  grp  : Nat
  rail : Nat
  cmd  : Nat
deriving DecidableEq, Repr

/-- The PMB unit (R160 to R172). -/
structure Pmb where
  q      : List PmbOp := []
  busy   : Bool := false          -- the head is on the bus
  tries  : Nat := 0               -- repeats of the head so far
  exps   : SMap Nat := []         -- VOUT_MODE exponent field by rail
  phase  : Nat := 0               -- 0 none, 1 group start due, 2 ramping, 3 cooling, 4 stopping, 5 core start due
  grp    : Nat := 0               -- group in turn; 4 is the core alone
  due    : Nat := 0
  onT    : Nat := 0               -- on instant of the group in turn
  starts : Nat := 0               -- starts of the group in turn
  started : List Nat := []        -- groups that have started, latest first
  off    : Bool := false          -- the stopping group's off command has been made (R169)
  low    : List Nat := []         -- members read below 10 % since the stop
  failed : Bool := false          -- the sequence ends failed when the power-down is done
  failGrp : Nat := 0
  thermal : Bool := false         -- thermal shutdown: the core takes fault 0x05 (R233)
  tHot   : Nat := 0
  upT    : Nat := 0               -- instant the power-up ended good
  sweep  : Bool := false          -- a sweep is running
  swE    : Nat := 0               -- its energy so far, 1/64 pJ (R277)
  railT  : SMap Nat := []         -- stop of a rail's last accepted READ_POUT
  onRail : SMap Nat := []         -- a rail's group's on instant
  araSec : Nat := 0               -- second the counts below belong to
  araN   : SMap Nat := []         -- answers to the alert response address
  noReply : Option Nat := none    -- since when the alert stands without a reply
  alert  : Bool := false          -- PMB_ALERT_N is low (R530)
  begun  : Bool := false          -- discovery has begun: the input counts (R530)
  ara    : List Nat := []         -- rails at the address that answered, until their statuses are read (R171)
deriving DecidableEq, Repr

/-- The estimates of a millisecond awaiting reconciliation, by its end boundary (R275 to R278). -/
structure MsRec where
  b    : Nat                      -- end boundary
  tE   : SMap Nat := []           -- pending estimate by tenant, pJ
  qE   : SMap Nat := []           -- by queue
  h    : Nat := 0                 -- the house
  qc   : Option Nat := none       -- Q_c at b, once its last tick is final
  qa   : Nat := 0                 -- Q_a at b
  fill : Nat := 0                 -- fill samples counted through b
  held : List Nat := []           -- tenants that held an object at b (R272)
deriving DecidableEq, Repr

/-- A job record (R283, R284). -/
structure Job where
  state : Nat := 0                -- 0 free, 1 opening, 2 open, 3 closing
  gen   : Nat := 0
  acct  : Nat := 0                -- 0 to 511 a tenant, 512 on a queue
  tenant : Nat := 0               -- whose limit it counts against
  desc  : Option Desc := none     -- the JOB_OPEN that waits for its boundary
  close : Option Desc := none     -- the JOB_CLOSE that does
  b0    : Nat := 0                -- start boundary
  v0    : Nat := 0                -- start value
  clamp0 : Nat := 0
  fill0 : Nat := 0
  b1    : Nat := 0                -- end boundary
  gap   : Bool := false
deriving DecidableEq, Repr

/-- Accounts (R268 to R291). -/
structure Accts where
  tE   : SMap Nat := []           -- pending estimates of the open millisecond, pJ
  qE   : SMap Nat := []
  h    : Nat := 0
  qc   : Nat := 0                 -- cumulative measured energies, 1/64 pJ (R277)
  qa   : Nat := 0
  fill : Nat := 0                 -- fill samples since reset
  clamps : Nat := 0               -- clamp events since reset (R280)
  wait : List MsRec := []         -- milliseconds to reconcile, oldest first
  mc   : Nat := 0                 -- account units already counted of each
  ma   : Nat := 0
  tenants : SMap Nat := []        -- settled accounts, u64f24 J
  queues  : SMap Nat := []
  gap  : Bool := false            -- FP1 was not running at a boundary since the last reconciliation
  lastFill : Nat := 0             -- fill samples counted through the last reconciled boundary
  lastM : Nat := 0                -- package energy of the last reconciled span, account units, and its milliseconds (R350)
  lastN : Nat := 1
  jobs : SMap Job := []
  domBud : Option Nat := none     -- the domain budget Salgor supplies, u32f3 W; none outside a domain (R271)
  portion : SMap Nat := []        -- Glatos D: this die's portion of each tenant's cap (R274)
deriving DecidableEq, Repr

/-- A thermal matrix set (R208): rows of A and B as bf16 words, by node. A row not listed is zero. -/
structure MSet where
  generic : Bool := false         -- it is FP0's generic set, unchanged (R211)
  a      : SMap (List Nat) := []
  b      : SMap (List Nat) := []
  ident  : Nat := 0
  period : Nat := 0
deriving DecidableEq, Repr

/-- A thermal step with the inputs sampled at its instant (R206, R207). -/
structure ThmStep where
  t    : Nat
  p    : List Nat                 -- binary32, the later inputs 0
  corr : List (Nat × Nat) := []   -- nodes with what their anchors add before this step, binary32 (R214)
  newSet : Option MSet := none    -- the set that comes into force with it (R209)
deriving DecidableEq, Repr

/-- Sums of x over the steps of an aligned millisecond (R214, R223). -/
structure ThmMs where
  count : Nat := 0
  sum   : List Nat := []          -- binary32 by node
deriving DecidableEq, Repr

/-- The thermal unit (R205 to R236). Temperatures are binary32. -/
structure Thm where
  set    : MSet := { }
  prev   : MSet := { }            -- what the copy that is not in force was left with (R95)
  copyB  : Bool := false          -- the second copy of R95 is the one in force
  staged : Option MSet := none    -- the copy a slate writes
  pend   : Option MSet := none    -- taken, in force from the next step instant
  per    : Nat := 0               -- P in effect, µs
  t0     : Nat := 0
  runT   : Nat := 0               -- where the present run of the model began
  initT  : Nat := 0               -- take instant that set run
  x      : List Nat := []
  l      : List Nat := []
  deliver : SMap Nat := []        -- set point 0x24 as delivered, by node (R224)
  lastStep : Option Nat := none   -- latest step instant
  run    : Option ThmStep := none -- the step in progress
  queue  : List ThmStep := []
  lastDone : Option Nat := none   -- completion of the latest step
  corr   : List Nat := []         -- corrections waiting for the next step instant
  ms     : SMap ThmMs := []       -- by millisecond
  est    : SMap (List Nat) := []  -- estimated core energies by tick, pJ (R206)
  meas   : SMap Nat := []         -- measured energy by tick, 1/32 pJ (R206)
  health : SMap Bool := []        -- as judged at the last boundary (R215)
  drift  : SMap (Nat × Nat) := [] -- boundaries and summed residual of a drift run (R217)
  blind  : List Nat := []         -- anchors whose regions are blind
  banded : Bool := false          -- a band evaluation has followed the model's start (R229)
  below  : Option Nat := none     -- since when T_b has been below e_b less its hysteresis (R227)
  ovrMs  : Nat := 0               -- steps queued in the open millisecond and deepest queue
  ovrDeep : Nat := 0
  shutT  : Option Nat := none     -- S of R233 until the drain has expired
  tHot   : Nat := 0               -- L_s of the tripping node, s16f7
  trip   : Option (Nat × Nat) := none -- a conversion of this hub cycle reached shutdown while a step runs: node and L_s (R236)
  other  : Nat := 0               -- input 86
  cp     : List Nat := []         -- the primary's nodes 480 to 503 (R235)
  cpT    : Nat := 0               -- when they arrived
deriving DecidableEq, Repr

/-- A host ring (R292 to R311): tenants' rings 0 to 511, the steward's 512. -/
structure Ring where
  st      : Nat := 0              -- R311
  prod    : Nat := 0
  fetch   : Nat := 0
  cqTail  : Nat := 0
  cqHead  : Nat := 0
  bucket  : Nat := 0
  viol    : Nat := 0
  ign     : Nat := 0              -- doorbell writes ignored in quarantine
  gen     : Nat := 0              -- enablings so far
  reads   : Nat := 0              -- descriptor reads on the fabric
  tries   : Nat := 0              -- failures of the oldest of them
  buf     : List Desc := []       -- fetched, not yet taken (R308)
  fly     : List Nat := []        -- indices in flight, in ring order
  barrier : Option Nat := none    -- an ORDER descriptor handed on and not complete (R297)
  agreed  : Bool := false         -- a HELLO has completed
  ver     : Nat := 0
  feat    : Nat := 0
  resets  : List Desc := []       -- QUARANTINE_RELEASE mode 1 waiting for the ring to drain (R312)
deriving DecidableEq, Repr

/-- The host interface (R292 to R315). -/
structure Hif where
  rings  : SMap Ring := []
  trings : SMap Nat := []         -- tenant ring entries in force, 64 bytes each (R294)
  units  : List Desc := []        -- handed on and not yet executed
  stewardTurn : Bool := true
  lastTenant : Nat := 511         -- the tenant ring last served (R308)
deriving DecidableEq, Repr

/-- A slate (R318, R319). Staged items are kept by their key with the die select: 0 every instance, 1 die 0, 2 die 1. -/
structure Slate where
  state : Nat := 0                -- R318
  gen   : Nat := 0
  regs  : SMap Nat := []          -- staged register words, key offset * 4 + die select
  ctxs  : SMap Nat := []          -- staged contexts, key context * 4 + die select
  rings : SMap Nat := []          -- staged ring entries, by tenant
  rowsA : SMap (List Nat) := []   -- thermal rows this slate has written, key node * 4 + die select
  rowsB : SMap (List Nat) := []
  hdr   : Option Nat := none      -- thermal set header it has written, 8 bytes
  thm   : Bool := false           -- it holds the staged thermal copy (R208)
deriving DecidableEq, Repr

/-- The values a take writes: its shadow, or what its undo writes back (R325, R331). -/
structure Shadow where
  regs  : SMap Nat := []          -- register words by offset
  ctxs  : SMap Nat := []          -- contexts
  rings : SMap Nat := []          -- ring entries by tenant
  thm   : Option MSet := none     -- the thermal set
deriving DecidableEq, Repr

/-- A take handed to the take engine (R325, R330). Phases: 0 copying, 1 armed, 2 PREPARE sent, 3 COMMIT sent, 4 ACK received,
5 applied and waiting for DONE, 6 passed without ACK and waiting for DONE; on a secondary 7 armed and READY sent, 8 COMMIT received; 9 an undo take is due (R331). -/
structure TakeJob where
  slate : Nat                     -- slate number
  handle : Nat
  desc  : Option Desc             -- none for a secondary's share of a pair take
  body  : Nat := 0                -- body timestamp
  pair  : Bool := false           -- scope 1
  copyEnd : Nat := 0              -- hub cycle in which the shadow copy ends
  t     : Option Nat := none      -- take instant, once fixed
  phase : Nat := 0
  prepT : Nat := 0                -- instant of PREPARE
  num   : Nat := 0                -- take number applied
  done  : Option Nat := none      -- DONE has arrived with this number
  told  : Bool := false           -- its failure at its instant has been recorded (R328)
  sh    : Shadow := { }
  lines : Nat := 0
deriving DecidableEq, Repr

/-- Slates and the take engine (R318 to R332). -/
structure Slt where
  slates : SMap Slate := []
  jobs   : List TakeJob := []     -- in the shadow copy or armed, in order
  undo   : Shadow := { }          -- values before the latest pair take
  undoNum : Nat := 0              -- its take number
  rwtMs  : Nat := 0               -- ignored writes of the open millisecond (R333)
  prep   : SMap (List Byte) := [] -- a PREPARE being received: part and its lines
  prepH  : Nat := 0               -- its handle
  pairOut : Option (Nat × Nat) := none -- the latest pair take here: handle, and take number applied or 0xFFFFFFFF (R330)
deriving DecidableEq, Repr
/-- A completion that waits for its mirror's acknowledgement (R370). -/
structure HeldCpl where
  mseq   : Nat                    -- seq of the MIRROR message
  ring   : Nat
  idx    : Nat
  gen    : Nat
  tag    : Nat
  status : Nat
  op     : Nat
  res    : List Byte
  notify : Bool
deriving DecidableEq, Repr

/-- A bridge message not yet acknowledged (R368). -/
structure BMsg where
  seq  : Nat
  kind : Nat
  body : List Byte
  sent : Nat                      -- when last sent
  out  : Bool := true             -- it has been sent: at most 64 are out at a time
deriving DecidableEq, Repr

/-- A mirrored completion that the primary has not yet been seen to write (object 0x03). -/
structure MirCpl where
  ring  : Nat
  idx   : Nat
  image : List Byte
deriving DecidableEq, Repr

/-- A management-lane message that waits for its mirror's acknowledgement (R370). -/
structure HeldLane where
  mseq : Nat
  link : Nat
  msg  : List Byte
deriving DecidableEq, Repr

/-- The pair unit (R364 to R378). -/
structure Par where
  up     : Bool := false          -- training is complete (R536)
  tx     : Nat := 0               -- seq of the next message sent
  rx     : Nat := 0               -- seq expected next
  unack  : List BMsg := []
  lastRx : Nat := 0               -- when the latest valid message arrived
  lastTx : Nat := 0
  lost   : Bool := true           -- the bridge is lost, or has never been up
  former : Nat := 0               -- role before the loss
  ledgerDue : Bool := false       -- the other instance's SYNC says that it holds a ledger
  ckptEnd : Option Nat := none    -- a primary in SYNC: seq of the checkpoint's last message
  ckpt   : List Byte := []        -- records of a checkpoint being received
  ckptOn : Bool := false          -- its first part has arrived
  ckptT  : Nat := 0               -- when the latest checkpoint was sent
  held   : List HeldCpl := []
  lane   : List HeldLane := []
  hdrs   : SMap Nat := []         -- headers of descriptors in flight, key ring * 2^32 + index (object 0x02)
  cpls   : List MirCpl := []      -- mirrored completions, oldest first
  ledger : SMap Nat := []         -- split ledger, index as ACT_ACC_SEL, 4608 the house (R376)
  add    : SMap Nat := []         -- a ledger received, to add at the next reconciliation
  added  : Nat := 0               -- ledger units received since the loss
  splitT : Nat := 0               -- when SPLIT was entered
  splitEnd : Nat := 0             -- when the latest SPLIT ended
  mir    : Option Nat := none     -- seq of the latest MIRROR whose MACK is due
  waits  : List (Nat × List (Nat × Nat)) := [] -- portions and die budgets that wait for a MACK, with its MIRROR's seq (R370)
  p      : Nat := 0               -- P of a demoted or secondary instance (R372), u32f3 W
  otherP : Nat := 0               -- the other die's measured power, u32f3 W
  otherT : Nat := 0               -- its tick timestamp
  handing : Option Nat := none    -- HANDOVER received: the final checkpoint follows
  t1     : Option Nat := none     -- of the bridge clap in progress
  clapT  : Nat := 0               -- when the latest began
  paired : Bool := false          -- PAIRED has been reached since reset (R364)
  alone  : Option Nat := none     -- take instant of a pair take applied here whose outcome on the other die is not known (R375)
deriving DecidableEq, Repr


/-- A flash operation asked of the NVM unit (R465, R471). Items: 0 heartwood record, 1 its commit bit, 2 the header of a clear,
3 erase of a heartwood half, 4 mirror records, 5 mirror header, 6 erase of a mirror slot, 7 last-fault record, 8 erase of a log sector,
9 erase of an image copy, 10 program of it, 11 header of a format. -/
structure FlashOp where
  item  : Nat
  addr  : Nat
  erase : Bool := false
  data  : List Byte := []         -- still to program
  arg   : Nat := 0                -- position, slot or processor; for a mirror header slot + 4 cause + 16 records
  num   : Nat := 0                -- record number
  tried : Bool := false           -- the transaction in progress is its repeat (R472)
deriving DecidableEq, Repr

/-- FP3's non-volatile store (R457 to R472). -/
structure Nvm where
  ops     : List FlashOp := []    -- the head is in progress
  done    : Bool := false         -- the head is programmed; FP3 was not running to follow it up
  restored : Bool := false        -- the restore of R462 has been made
  half    : Nat := 0              -- active heartwood half
  gen     : Nat := 0              -- its generation
  hwOpen  : Bool := false         -- a valid half exists
  hwPos   : Nat := 0              -- next position to fill
  hwNext  : Nat := 0              -- number of the record that fills it
  prior   : Nat := 0              -- first number of the records restored with flag 6
  priorN  : Nat := 0              -- how many
  clear   : Option Desc := none   -- EVT_CLEAR whose header is being programmed
  capT    : Option Nat := none    -- instant of the previous mirror capture (R461)
  defer   : Option Nat := none    -- cause of the deferred mirror
  wait    : List Nat := []        -- causes that wait for FP3
  slots   : List Nat := [2, 1, 0] -- mirror slots: newest, previous, erased
  mirCount : Nat := 0             -- count of the newest mirror in flash
  logNext : Nat := 0              -- last-fault log slot that follows the newest
  portHigh : Bool := false        -- the external port holds the flash (R438)
  rewritten : Nat := 0            -- image copies rewritten since die reset, a bit each (R471)
deriving DecidableEq, Repr

/-- The SMBus target (R478 to R481). -/
structure Smb where
  page   : Nat := 0               -- LASTF_PAGE
  region : Nat := 0               -- EVT_SEL
  sel    : Nat := 0
  viols  : SMap (Nat × Nat) := [] -- violations of the open millisecond by kind: count and first command code
deriving DecidableEq, Repr

/-- The firmware processors (R436 to R443). -/
structure Fw where
  loads  : List Nat := []         -- processors whose image is to be read, the first being read (R444)
  copyB  : Bool := false          -- it reads copy B
  failA  : Nat := 0               -- the check that copy A failed (R445)
  lost   : List Desc := []        -- descriptors in execution when their processor restarted (R309)
  times  : SMap (List Nat) := []  -- restarts of the last second by processor (R443)
  struck : SMap Nat := []         -- by processor, where its watchdog began to count (R442)
deriving DecidableEq, Repr

/-- Supplies, reset and start-up (R390 to R420, R528). -/
structure Rst where
  supply  : Bool := true          -- VDD_QF is in range
  removed : Bool := false         -- the supply has been removed: VDD_QF below 0.300 V for 100 ms (R528)
  poreset : Bool := true          -- PORESET_N is asserted
  refOk   : Bool := true          -- REFCLK is valid
  lockDue : Bool := false         -- start-up has begun: the root PLL locks
  lastDie : Bool := false         -- the last reset was a die reset (R403)
  config  : Bool := false         -- stage CONFIG has ended (R402)
  failT   : Nat := 0              -- when the stage became FAILED
  downT   : Option Nat := none    -- T_d of an orderly shutdown (R415)
  drained : Bool := false         -- its drain has ended
deriving DecidableEq, Repr

/-- An access that a master has presented to a bank (R422 to R425): a line of 64 bytes. -/
structure MemAcc where
  master : Nat
  bank   : Nat
  off    : Nat
  write  : Bool
  data   : Nat := 0                -- 512 bits, little-endian
  ecc    : List (Nat × Bool) := [] -- words that a read finds wrong, and whether by two bits (R426)
  gated  : Bool := false           -- it waits at the bank's rate gate (R424)
  held   : Bool := false           -- it has lost an arbitration (R423)
deriving DecidableEq, Repr

/-- The clock and memory units' own state (R384, R395, R423 to R428, R432, R539). -/
structure Hub where
  fm      : Bool := false         -- the frequency counter measures
  fmT     : Nat := 0              -- when it started
  linkUp  : SMap Bool := []       -- link outposts out of reset
  latch   : SMap Nat := []        -- latched upper words of wide registers, key master * 2^22 + offset (R539)
  btT     : Nat := 0              -- instant after the last background test (R428)
  btNext  : Nat := 0              -- next region of the background test in order, counted over all banks
  btQueue : List (Nat × Nat) := [] -- queued regions: bank and region, first next
  accs    : List MemAcc := []     -- accesses presented and not yet served, in order
  gateT   : SMap Nat := []        -- instant of a bank's last non-owner access through the rate gate
  buWait  : Bool := false         -- a bring-up read is in progress
  buData  : Option (List Byte) := none -- what the read has returned, until MEM_BU_DATA takes it
  bad     : SMap Bool := []       -- regions in service that failed without a spare, key bank * 2^12 + region (R429)
  wrote   : SMap Bool := []       -- words of banks 0 to 12 that a master or the test has written since the bank's clear, key address / 8
deriving DecidableEq, Repr

/-- A cooling channel beside FAN_STAT (R517 to R523). -/
structure Fan where
  next   : Option Nat := none     -- state that applies at the next period start
  since  : Nat := 0               -- when the state in force was entered
  edges  : Nat := 0               -- edges since the last measurement
  mark   : Option Nat := none     -- the edge that closed it
  lastEdge : Nat := 0             -- the last edge, or the enabling
  good   : Nat := 0               -- consecutive good measurements in LOST
  tries  : Nat := 0               -- failed attempts
  outT   : Nat := 0               -- when RUN was left
  deficit : Nat := 0              -- R523, binary32
deriving DecidableEq, Repr

/-- A coordinator's record of a member (R347, R353, R354, R357). Budgets are u32f3 W. -/
structure MgtMem where
  joined : Bool := false          -- in the table
  w      : Nat := 0               -- reservation for the latest target
  lo     : Nat := 0               -- what decay alone leaves of the one before it
  safe   : Nat := 0
  rate   : Nat := 0
  fresh  : Bool := false          -- not a member before its J
  join   : Option (Nat × Nat × Nat × Nat) := none -- J, start budget, safe and rate of an accept to come
  heard  : Nat := 0               -- epoch of its last DEMAND, or of its accept
  silent : Bool := false
deriving DecidableEq, Repr

/-- A DEMAND taken for the open target (R341). -/
structure MgtDem where
  want   : Nat
  floor  : Nat
  weight : Nat
deriving DecidableEq, Repr

/-- The best exchange of a clap run (R343). Offsets are in 1/256 timestamp unit. -/
structure ClapBest where
  delta : Int
  theta : Int
  t4    : Nat
  off   : Int
  hops  : Nat
  rate  : Int
deriving DecidableEq, Repr

/-- A clap run in progress. -/
structure ClapRun where
  t0   : Nat
  n    : Nat
  best : Option ClapBest := none
deriving DecidableEq, Repr

/-- The Salgor plane beside its registers (R335 to R363). -/
structure Mgt where
  tx      : Nat := 0              -- seq of the next message
  lastSeq : SMap Nat := []        -- last seq by src * 256 + type
  got     : SMap Nat := []        -- messages delivered in the epoch by src
  inbox   : List (List Byte) := [] -- messages this package sends to itself
  ofs     : Int := 0              -- o in force, 1/256 unit
  rate    : Int := 0              -- its rate
  tc      : Nat := 0
  next    : Option (Int × Int × Nat) := none -- o, rate and t_c of a run, to apply at a boundary (R345)
  run     : Option ClapRun := none
  runT    : Option Nat := none    -- when the latest run began; none: a run is due
  prev    : Option (Int × Nat) := none -- theta and t_c of the previous run
  slots   : SMap Nat := []        -- grant slots by epoch (R352)
  join    : Option (Nat × Nat) := none -- J and start budget of an accept
  started : Bool := false         -- the first J has come
  safe    : Nat := 0              -- as accepted
  rateD   : Nat := 0
  reqSafe : Nat := 0              -- as last requested
  reqRate : Nat := 0
  verT    : Nat := 0              -- when VERSION was last sent
  hbE     : Nat := 0              -- epoch of the last HEARTBEAT heard
  demE    : Option Nat := none    -- epoch in which DEMAND was last sent
  tim     : Nat := 0x839601F4     -- MGT_TIM and MGT_TIM2 of the epoch (R361)
  tim2    : Nat := 0x4014
  mem     : SMap MgtMem := []
  dem     : SMap MgtDem := []
  wait    : List (List Byte) := [] -- VERSION requests that wait for the cut-off
  cut     : Bool := false         -- a cut-off has come in this hub cycle: its allocation is made as the cycle ends (R361)
  alloc   : Nat := 0              -- latest target allocated
  overB   : Bool := false         -- that target exceeded its budget
  sentC   : Nat := 0              -- latest target whose CSYNC has been sent
  sentG   : Nat := 0              -- latest target whose GRANTs have been sent
  acks    : Nat := 0              -- parts of that target acknowledged
  miss    : Nat := 0              -- consecutive epochs without a complete CSYNC_ACK
  peerE   : Nat := 0              -- epoch of the active's last HEARTBEAT
  sole    : Bool := false         -- the steward has confirmed the peer gone (R358)
  unready : Option Nat := none    -- epoch through which an unready takeover grants nothing
  cT      : Nat := 0              -- a standby's latest target with all 16 parts
  cOpen   : Nat := 0              -- the target whose parts are arriving
  cParts  : Nat := 0
  cW      : SMap Nat := []
  mParts  : Nat := 0              -- parts of a whole membership record received
  memE    : Nat := 0              -- epoch in which the whole membership was last sent
deriving DecidableEq, Repr
/-- Why a step stops for good. No command of the manual leaves the block stuck: the type has no constructor that a meaning
raises. -/
inductive Fault where
  /-- Raised by no meaning: the manual gives every command an effect (R4). Safe: it can only be missing. -/
  | none
deriving DecidableEq, Repr

/-- Why a command has no meaning. -/
inductive Refusal where
  /-- Raised by the arms of Machine/Dispatch.lean for a command without a meaning. Safe: the block stops. -/
  | notModelled (mnemonic : String)
deriving DecidableEq, Repr

/-- The block. -/
structure State where
  pending : List Instr := []       -- waiting commands, first in first out
  running : Bool := false          -- HUB is released: the instance is not in die reset (R391)
  ts      : Nat := 0               -- the timestamp of the hub (R383)
  fuse    : SMap Nat := []         -- fused values (log entry 3)
  regs    : SMap Nat := []         -- register fields by bit address
  mem     : List Host.Cell := []   -- on-block banks (R421)
  flash   : List Host.Cell := []   -- the SPI NOR flash (R463)
  out     : List Out := []         -- the model's own: what has left the block
  recd    : Rec := { }
  cnt     : SMap Nat := []         -- counters (R501)
  cntPend : SMap Nat := []         -- counts of the open tick
  lanes   : SMap Lane := []
  chks    : SMap Chk := []
  droops  : SMap Droop := []
  cores   : SMap CoreSt := []
  tly     : Tly := { }
  ramp    : Ramp := { }
  sns     : Sns := { }
  fcs     : Fcs := { }
  lpe     : Lpe := { }
  trc     : Trc := { }
  wfg     : Wfg := { }
  cntZero : List CntZero := []
  dvfs    : Dvfs := { }
  pins    : Pins := { }
  vrc     : Vrc := { }
  pmb     : Pmb := { }
  acc     : Accts := { }
  thm     : Thm := { }
  hif     : Hif := { }
  slt     : Slt := { }
  par     : Par := { }
  nvm     : Nvm := { }
  smb     : Smb := { }
  fw      : Fw := { }
  rst     : Rst := { }
  hub     : Hub := { }
  fans    : SMap Fan := []
  mgt     : Mgt := { }
  xovrMs  : SMap Nat := []         -- items that lossy crossings dropped in the open millisecond (R389)
deriving DecidableEq, Repr

/-- The block right after reset. -/
def State.reset : State := { }

end Sys2Proof.Machine
end

