-- ==== Sys2Proof/Machine/Ops.lean ====
section
/-!
DEFINITION. Machine/Ops.lean: the shared operations of the model: reading and writing register fields, event records, counters,
outputs, trace groups, on-block memory and flash. Every family's meanings go through them.
-/
namespace Sys2Proof.Machine

/-- The answer type of a meaning. -/
abbrev Ans := Host.Outcome State Fault Refusal

/-- Apply f when the condition holds: a step whose instant or condition does not hold changes nothing (log entry 2). -/
def onlyIf (c : Bool) (f : State → State) (s : State) : State := if c then f s else s

/-- What a command does while the instance is out of die reset; in die reset nothing of it acts (R390, R391). -/
def hubOn (f : State → State) (s : State) : Ans := .next (if s.running then f s else s)

/-! ### Register fields -/

/-- The die's configuration: Glatos D when GEN_CFG.config is fused to 1 (R541). -/
def isDFuse (fuse : SMap Nat) : Bool := mget fuse GEN_CFG_config.fuseKey 0 % 4 = 1
def State.isD (s : State) : Bool := isDFuse s.fuse

/-- The reset value of an element of a field: fused where the manual says so. -/
def Fld.resetVal (f : Fld) (fuse : SMap Nat) (i : Nat) : Nat :=
  (if f.fused then mget fuse (f.fuseKey + (i % f.count) * f.stride) (f.rst (isDFuse fuse) i) else f.rst (isDFuse fuse) i)
    % 2 ^ f.width

/-- The value of element i of a field. -/
def State.rd (s : State) (f : Fld) (i : Nat := 0) : Nat := mget s.regs (f.keyOf i) (f.resetVal s.fuse i)

/-- s with element i of a field written, modulo the field's width. -/
def State.wr (s : State) (f : Fld) (i v : Nat) : State :=
  { s with regs := mput s.regs (f.keyOf i) (v % 2 ^ f.width) }

/-- Add to a wrapping count (R6). -/
def State.addTo (s : State) (f : Fld) (i n : Nat) : State := s.wr f i (s.rd f i + n)

/-- Count one on a wrapping count. -/
def State.bump (s : State) (f : Fld) (i : Nat := 0) : State := s.addTo f i 1

/-- The value of a setting that the open estimator tick still uses where a take has just replaced it (R63, R288, R504). -/
def State.rdTick (s : State) (f : Fld) (i : Nat := 0) : Nat := mget s.sns.old (f.keyOf i) (s.rd f i)

/-- A flag field as a Bool. -/
def State.flag (s : State) (f : Fld) (i : Nat := 0) : Bool := s.rd f i = 1

/-- The unit's clock runs: its CLK_EN bit is 1 (R393). -/
def State.clocked (s : State) (unit : Nat) : Bool := bit (s.rd CLK_EN_en) unit

/-- The blocks that answer: until CONFIG ends CLK, RST and FW only (R402, R438); a gated unit does not (R393), nor PAR in Glatos S
(R393). -/
def State.unitAnswers (s : State) (u : Nat) : Bool :=
  s.running && decide (u < 24) && (s.rst.config || decide (u = 1 ∨ u = 2 ∨ u = 4)) && s.clocked u && (s.isD || decide (u ≠ 22))

/-! ### Outputs -/

def State.send (s : State) (o : Out) : State := { s with out := s.out ++ [o] }

/-! ### Event records -/

/-- The severities of R450, R483, R514 and R525 by unit, index 1 first. -/
def evSeverities (unit : Nat) : List Nat :=
  match unit with
  | 1 => [3, 3, 1, 2, 2]
  | 2 => [3, 1, 4, 2, 1, 1]
  | 3 => [2, 3, 2, 4]
  | 4 => [3, 2, 4, 4]
  | 5 => [0, 2, 2, 1, 3, 1]
  | 6 => [0, 1, 1, 3, 3, 1, 2]
  | 7 => [2, 2, 2, 3, 2, 2, 2, 2, 3, 2]
  | 8 => [1, 3, 1, 1, 2, 1]
  | 9 => [4, 5, 3, 1, 2, 2, 3]
  | 10 => [3, 4, 2, 3, 2, 2, 3, 3]
  | 11 => [2, 2, 5, 3, 2, 3, 0, 2, 3, 2, 2, 2]
  | 12 => [1, 1, 2, 2, 2, 3]
  | 13 => [3, 1, 3, 1]
  | 14 => [1, 1, 2, 1]
  | 15 => [2, 2, 3, 2, 2, 1]
  | 16 => [1, 2, 3, 1, 1]
  | 17 => [3, 3, 1, 2, 2]
  | 18 => [1, 1, 2, 3, 2]
  | 19 => [1, 2]
  | 20 => [2, 3, 3, 2, 1]
  | 21 => [1, 3, 3, 2, 2, 3, 2, 2, 2, 2, 2]
  | 22 => [4, 4, 1, 2, 3]
  | 23 => [2]
  | _ => []

/-- The code of event idx of a unit (R447, R450). -/
def evCode (unit idx : Nat) : Nat := unit * 1024 + idx

def evSeverity (unit idx : Nat) : Nat := (evSeverities unit).getD (idx - 1) 0

/-- The firebreak is in force (R84). -/
def State.fbInForce (s : State) : Bool := s.rd CHK_FB_STAT_state ≠ 0

/-- The state of firmware processor n (R439): 0 RESET, 1 LOADING, 2 RUNNING, 3 HALTED. -/
def State.fwState (s : State) (n : Nat) : Nat := bits (s.rd FW_STAT_state) (2 * n) 2
def State.fwRunning (s : State) (n : Nat) : Bool := s.fwState n = 2

/-- The firmware processor that serves a unit, where one does (R433). -/
def unitProcessor (unit : Nat) : Option Nat :=
  if unit = 1 ∨ unit = 6 ∨ unit = 11 ∨ unit = 12 then some 0
  else if unit = 15 ∨ unit = 22 then some 1
  else if unit = 5 ∨ unit = 18 ∨ unit = 19 then some 2
  else if unit = 16 ∨ unit = 17 ∨ unit = 21 ∨ unit = 23 then some 3
  else none

/-- The flags of R448 that are known at the event. -/
def State.evFlags (s : State) (unit : Nat) (coal : Bool) : Nat :=
  b2n coal
  + 4 * b2n (s.isD && decide (s.rd GEN_CFG_die = 1))
  + 8 * b2n (s.isD && !decide (s.rd PAR_STAT_role = 1))
  + 16 * b2n s.fbInForce
  + 32 * b2n (match unitProcessor unit with | some n => !s.fwRunning n | none => false)

/-- Four parameter words, later ones zero (R449). -/
def evParams (ps : List Nat) : List Nat := (List.range 4).map fun k => ps.getD k 0 % 2 ^ 32

/-- Put a record into the recorder's queue, or drop it when the 64 entries are full (R451, R452); one that is kept has carried its
code's flag 0 (R453). -/
def State.pushRec (s : State) (r : EvRec) : State :=
  if s.recd.queue.length < 64 then
    { s with recd := { s.recd with queue := s.recd.queue ++ [r], coal := mdel s.recd.coal r.code, deep := max s.recd.deep (s.recd.queue.length + 1) } }
  else State.bump { s with recd := { s.recd with lost := s.recd.lost + 1 } } EVT_DROP_dropped

/-- Write an event record of a unit (R447 to R452). -/
def State.emit (s : State) (unit idx : Nat) (ps : List Nat) : State :=
  let code := evCode unit idx
  let r : EvRec := { code := code, sev := evSeverity unit idx, flags := s.evFlags unit (mget s.recd.coal code false),
                     take := s.rd SLT_TAKE_take, ts := s.ts, params := evParams ps }
  s.pushRec r

/-- Write an event record at most once per aligned span for the code and scope (R453, R544); a suppressed occurrence marks the
code coalesced. -/
def State.emitLim (s : State) (unit idx scope span : Nat) (ps : List Nat) : State :=
  let code := evCode unit idx
  let key := code * 2 ^ 16 + scope
  let now := s.ts / span + 1
  if mget s.recd.last key 0 = now then { s with recd := { s.recd with coal := mput s.recd.coal code true } }
  else ({ s with recd := { s.recd with last := mput s.recd.last key now } }).emit unit idx ps

/-- A lossy crossing, numbered in the order of R388, drops an entry (R389); the millisecond's end reports the count. -/
def State.crossOvr (s : State) (k : Nat) : State :=
  { s.wr CLK_XOVR_ovr 0 (setBit (s.rd CLK_XOVR_ovr) k true) with xovrMs := mput s.xovrMs k (mget s.xovrMs k 0 + 1) }

/-- The island concerned in a lossy crossing's drops: FAST for releases, LANE for telemetry, else HUB (R382, R388). -/
def ovrIsland (k : Nat) : Nat := if k = 7 then 1 else if k = 11 then 7 else 2

/-- EV_CLK_XOVR of the millisecond that ends (R389). -/
def State.xovrBoundary (s : State) : State :=
  s.xovrMs.foldl (fun s x => s.emit 1 1 [x.1, ovrIsland x.1, x.2]) { s with xovrMs := [] }

/-! ### Counters (R501 to R503) -/

/-- Keys of the counter sets: the global set at its index, then the tenant sets, then the queue counters. -/
def cntDie (k : Nat) : Nat := k
def cntChoker (c k : Nat) : Nat := 16 + 4 * c + k
def cntCore (c k : Nat) : Nat := 1296 + 4 * c + k
def cntLink (l k : Nat) : Nat := 1552 + 2 * l + k
def cntLane (l : Nat) : Nat := 1680 + l
def cntTenant (t k : Nat) : Nat := 2000 + 16 * t + k
def cntQueue (q k : Nat) : Nat := 20000 + 3 * q + k

/-- Count n on a counter; it advances at the next tick boundary (R501). -/
def State.count (s : State) (key n : Nat) : State :=
  if n = 0 then s else { s with cntPend := mput s.cntPend key (mget s.cntPend key 0 + n) }

/-- The width of a counter: queue counters have 32 bits, all others 64 (R501, R502). -/
def cntWidth (key : Nat) : Nat := if key < 20000 then 64 else 32

/-- Apply the counts of the closed tick (R501) and show the tap-violation counters (R503) and the duplicate
counts (R65). -/
def State.applyCounts (s : State) : State :=
  s.cntPend.foldl
    (fun s kn =>
      let v := (mget s.cnt kn.1 0 + kn.2) % 2 ^ cntWidth kn.1
      let s := { s with cnt := mput s.cnt kn.1 v }
      if 1296 ≤ kn.1 ∧ kn.1 < 1552 ∧ (kn.1 - 1296) % 4 = 2 then s.wr CNT_TAP_VIOL_count ((kn.1 - 1296) / 4) v
      else if 1680 ≤ kn.1 ∧ kn.1 < 1698 then s.wr SNS_TLM_CNT_dup (kn.1 - 1680) v
      else s)
    { s with cntPend := [] }

/-! ### Memory: bytes of the on-block banks and of the flash -/

/-- The byte an unlisted address of a memory reads as. -/
def memRead (m : List Host.Cell) (dflt : Byte) (a : Nat) : Byte := mget m a dflt

/-- Write one byte, keeping the canonical form: an entry equal to the default is removed. -/
def memWrite (m : List Host.Cell) (dflt : Byte) (a : Nat) (b : Byte) : List Host.Cell :=
  if b = dflt then mdel m a else mput m a b

/-- Write consecutive bytes. -/
def memWriteBytes (m : List Host.Cell) (dflt : Byte) : Nat → List Byte → List Host.Cell
  | _, [] => m
  | a, b :: t => memWriteBytes (memWrite m dflt a b) dflt (a + 1) t

/-- The canonical form of a memory: addresses strictly rising, no entry equal to the default. -/
def memOk (m : List Host.Cell) (dflt : Byte) : Bool := mwf m && m.all fun c => decide (c.2 ≠ dflt)

/-- On-block banks read as zero where nothing was written (R427); flash reads as erased, 0xFF (R450). -/
def bankDefault : Byte := 0
def flashDefault : Byte := 0xFF

/-- The address of a byte of a bank (R421). -/
def bankAddr (bank off : Nat) : Nat := bank * 2 ^ 20 + off

/-- A free byte for an address at an instant (log entry 21). -/
def State.freeAt (s : State) (a : Nat) : Byte := Config.freeByte (s.ts * 2 ^ 25 + a)

/-- A byte of a bank. A region that failed its march and found no spare does not guarantee its data (R429). -/
def State.bankByte (s : State) (bank off : Nat) : Byte :=
  if mget s.hub.bad (bank * 4096 + off / 256) false then s.freeAt (bankAddr bank off)
  else memRead s.mem bankDefault (bankAddr bank off)

def State.readBank (s : State) (bank off n : Nat) : List Byte := (List.range n).map fun k => s.bankByte bank (off + k)

def State.writeBank (s : State) (bank off : Nat) (bs : List Byte) : State :=
  { s with mem := memWriteBytes s.mem bankDefault (bankAddr bank off) bs }

/-- The word with key k (its address divided by 8) lies in a model slot of bank b (R95). -/
def slotWord (b slot k : Nat) : Bool := decide (8 * k / 2 ^ 20 = b) && decide (8 * k % 2 ^ 20 / 0x4000 = slot + 16)

/-- Clear a whole bank (R427). -/
def State.clearBank (s : State) (bank : Nat) : State :=
  { s with mem := s.mem.filter fun c => c.1 / 2 ^ 20 ≠ bank }

def State.readFlash (s : State) (a n : Nat) : List Byte :=
  (List.range n).map fun k => memRead s.flash flashDefault (a + k)

/-! ### Where each part of the state stands -/

def State.lane (s : State) (choker : Nat) : Lane := mget s.lanes choker { }
def State.setLane (s : State) (choker : Nat) (l : Lane) : State := { s with lanes := mput s.lanes choker l }
def State.chk (s : State) (c : Nat) : Chk := mget s.chks c { }
def State.setChk (s : State) (c : Nat) (x : Chk) : State := { s with chks := mput s.chks c x }
/-- A choker's outpost half is lost, or every gate closes: ramp units in flight lapse, the allowance reads 0, and the choker starts
at its floor (R70, R405). -/
def State.chokerLost (s : State) (c : Nat) : State :=
  ((s.setChk c { }).wr CHK_ALLOW_now c 0).wr CHK_ALLOW_in_droop c 0
def State.droop (s : State) (core : Nat) : Droop := mget s.droops core { }
def State.setDroop (s : State) (core : Nat) (d : Droop) : State := { s with droops := mput s.droops core d }
def State.core (s : State) (c : Nat) : CoreSt := mget s.cores c { }
def State.setCore (s : State) (c : Nat) (x : CoreSt) : State := { s with cores := mput s.cores c x }

/-- Engine choker numbers (R16). -/
def chokerOf (core engine : Nat) : Nat := 4 * core + engine

end Sys2Proof.Machine
end

