-- ==== Sys2Proof/Machine/DvfsOps.lean ====
section
/-!
DEFINITION. Machine/DvfsOps.lean: the DVFS sequencer of Glatos D (R84, R88, R396 to R399): its target, its steps up and down, droop
during a step, and the firebreak's descent.
-/
namespace Sys2Proof.Machine

/-- The core clock in MHz (R381, R396). -/
def State.coreMHz (s : State) : Nat := if s.isD then s.dvfs.mhz else 1600

/-- The voltage target that the sequencer orders, 0.25 mV: VRC_OPP of the point ordered, or the value a step has captured (R137,
R399). -/
def State.vTarget (s : State) : Nat := s.dvfs.vCap.getD (s.rd VRC_OPP_v s.dvfs.vPoint)

/-- v_ref_int stands at the sequencer's target. -/
def State.vAtTarget (s : State) : Bool := s.rd VRC_VREF_vref = s.vTarget

/-- FP0's target within CLK_DVFS_LIM (R397). -/
def State.dvfsClamped (s : State) : Nat := max (s.rd CLK_DVFS_LIM_min) (min s.dvfs.wanted (s.rd CLK_DVFS_LIM_max))

/-- The die is in droop: some core's chokers are in the hold of R81 (R88). -/
def State.dieDroop (s : State) : Bool := s.droops.any fun d => d.2.hold

/-- EV_CHK_DVFS_CANCEL and its count (R88, R91). -/
def State.dvfsCancel (s : State) (src dst stage : Nat) : State :=
  (s.bump CHK_DVFS_STAT_cancel).emit 8 6 [src, dst, stage]

/-- The half now idle begins to lock at point 0's frequency (R396, R397). -/
def State.dvfsPark (s : State) : State :=
  ({ s with dvfs := { s.dvfs with idleMHz := s.rd CLK_OPP_F_mhz 0, lockT := s.ts } }).wr CLK_DVFS_STAT_parked 0 0

/-- A step waits for droop to clear (R88). -/
def State.dvfsDefer (s : State) : State :=
  ({ s with dvfs := { s.dvfs with deferred := true } }).wr CHK_DVFS_STAT_deferred 0 1

/-- Step Up 1 ends: v_ref_int has reached the target and v_sense stands within the margin (R397). -/
def State.dvfsReach (s : State) : State :=
  if s.rd CLK_DVFS_STAT_stage = 1 ∧ s.vAtTarget ∧ s.dvfs.reachT.isNone ∧
      s.vTarget ≤ s.rd VRC_VSENSE_vsense + s.rd CLK_DVFS_CFG_vmargin then
    { s with dvfs := { s.dvfs with reachT := some s.ts } }
  else s

/-- A step up is abandoned before its switch: the core and its voltage stay at the point in force (R88, R398). -/
def State.dvfsDrop (s : State) : State :=
  let s := { s with dvfs := { s.dvfs with vPoint := s.rd CLK_DVFS_STAT_point, vCap := none, switchOff := false } }
  (s.wr CLK_DVFS_STAT_stage 0 0).dvfsPark

/-- Droop reaches the sequencer (R88). Stages are those of CLK_DVFS_STAT.stage: 0 idle, 1 Up 1, 2 Up 2, 3 Down 1, 4 Down 3,
5 firebreak descent. -/
def State.dvfsOnDroop (s : State) : State :=
  if !s.isD then s else
  let st := s.rd CLK_DVFS_STAT_stage
  let p := s.rd CLK_DVFS_STAT_point
  let d := s.dvfs
  if st = 1 ∧ !d.vBegun then (s.dvfsDrop.dvfsDefer).dvfsCancel p d.step st
  else if (st = 1 ∨ st = 2) ∧ !d.switchOff then
    (({ s with dvfs := { d with switchOff := true } }).dvfsDefer).dvfsCancel p d.step st
  else if (st = 4 ∨ (st = 5 ∧ p = 0 ∧ d.vPoint = 0)) ∧ !d.vHeld then
    (({ s with dvfs := { d with vHeld := true } }).dvfsDefer).dvfsCancel p d.step st
  else s

/-- Start the next step of one point toward the target, where none is in progress, deferred or barred (R397, R398). A step
requested while the die is in droop meets R88 at once. -/
def State.dvfsNext (s : State) : State :=
  if !s.isD then s else
  let t := s.dvfsClamped
  let s := s.wr CLK_DVFS_STAT_target 0 t
  let p := s.rd CLK_DVFS_STAT_point
  let q := if p < t then p + 1 else p - 1
  if s.rd CLK_DVFS_STAT_stage ≠ 0 ∨ !s.flag CLK_DVFS_STAT_parked ∨ s.dvfs.deferred ∨ s.dvfs.fbDescent ∨
      (s.ts < s.dvfs.retryT ∧ s.dvfs.barred = (p, q)) ∨ p = t
  then s
  else
    let f := s.rd CLK_OPP_F_mhz q
    let up := decide (p < t)
    let needs := up || decide (q ≠ 0) || decide (s.dvfs.idleMHz ≠ f)
    let d := { s.dvfs with step := q, stepV := s.rd VRC_OPP_v q, vBegun := false, reachT := none, switchOff := false, vHeld := false,
                           idleMHz := f, lockT := s.ts }
    let s := { s with dvfs := if up then { d with vPoint := q, vCap := some d.stepV } else d }
    let s := (s.wr CLK_DVFS_STAT_stage 0 (if up then 1 else 3)).wr CLK_DVFS_STAT_parked 0 (b2n (!needs))
    let s := if s.dieDroop then s.dvfsOnDroop else s
    s.dvfsReach

/-- The voltage decrease of a step down begins, or is held while the die is in droop (R88, R397). -/
def State.dvfsLower (s : State) (p q v : Nat) : State :=
  let s := { s with dvfs := { s.dvfs with vPoint := q, vCap := some v } }
  if s.dieDroop then (({ s with dvfs := { s.dvfs with vHeld := true } }).dvfsDefer).dvfsCancel p q (s.rd CLK_DVFS_STAT_stage) else s

/-- The descent ends where v_ref_int stands at the lowest point's voltage and nothing holds it. -/
def State.dvfsArrive (s : State) : State :=
  if s.vAtTarget ∧ !s.dvfs.vHeld then s.wr CLK_DVFS_STAT_stage 0 0 else s

/-- v_ref_int has moved: Up 1 may end, Down 3 and the descent end at their target (R397); a rise that the descent had to let finish
turns into the decrease, held while the die is in droop (R88). -/
def State.dvfsSettle (s : State) : State :=
  if !s.isD ∨ !s.vAtTarget then s else
  let st := s.rd CLK_DVFS_STAT_stage
  if st = 4 then (s.wr CLK_DVFS_STAT_stage 0 0).dvfsNext
  else if st = 5 ∧ s.rd CLK_DVFS_STAT_point = 0 then
    (if s.dvfs.vPoint ≠ 0 then s.dvfsLower 0 0 (s.rd VRC_OPP_v 0) else s).dvfsArrive
  else s.dvfsReach

/-- What the firebreak's order does to a step in stage st from point p: a step up is cancelled, an idle half locking elsewhere goes on
to park (R88, R399). -/
def State.dvfsAbandon (s : State) (st p : Nat) : State :=
  if st = 1 ∨ st = 2 then
    if s.dvfs.switchOff then s.dvfsPark
    else if s.dvfs.vBegun ∨ st = 2 then s.dvfsPark.dvfsCancel p s.dvfs.step st
    else s.dvfsDrop.dvfsCancel p s.dvfs.step st
  else if st = 3 ∧ !s.flag CLK_DVFS_STAT_parked then s.dvfsPark
  else s

/-- The firebreak's order stands, and a step is as what it did leaves it: b is set when the order comes. -/
def State.dvfsOrder (s : State) (b : Bool) : State :=
  if b then { s with dvfs := { s.dvfs with fbDescent := true } }
  else { s with dvfs := { s.dvfs with switchOff := false, deferred := s.dvfs.vHeld } }

/-- The firebreak orders the sequencer to the lowest operating point (R84, R88, R397, R399). -/
def State.dvfsDescend (s : State) : State :=
  if !s.isD then s else
  let st := s.rd CLK_DVFS_STAT_stage
  let p := s.rd CLK_DVFS_STAT_point
  let s := (((s.dvfsOrder true).dvfsAbandon st p).dvfsOrder false)
  let s := s.wr CHK_DVFS_STAT_deferred 0 (b2n s.dvfs.vHeld)
  if p = 0 ∧ s.dvfs.vPoint = 0 ∧ st ≠ 4 then s.wr CLK_DVFS_STAT_stage 0 0
  else (s.wr CLK_DVFS_STAT_stage 0 5).dvfsSettle

/-- The firebreak has ended: the sequencer may return toward the policy's point (R86). -/
def State.dvfsFree (s : State) : State := ({ s with dvfs := { s.dvfs with fbDescent := false } }).dvfsNext

/-- A take has applied: outside a step the registers are the targets, and a point outside the limits is left by the next step
(R137, R399). -/
def State.dvfsTaken (s : State) : State :=
  if !s.isD then s else
  (if s.rd CLK_DVFS_STAT_stage = 0 then { s with dvfs := { s.dvfs with vCap := none } } else s).dvfsNext

end Sys2Proof.Machine
end

