-- ==== Sys2Proof/Machine/Float32.lean ====
section
/-!
DEFINITION. Machine/Float32.lean: binary32, bf16 and E4M3 arithmetic to the bit (R96 to R100), on encodings held as natural
numbers, and the CRC of R40.
-/
namespace Sys2Proof.Machine

/-- The canonical quiet NaN (R98). -/
def f32NaN : Nat := 0x7FC00000
def f32Inf (neg : Bool) : Nat := if neg then 0xFF800000 else 0x7F800000
def f32One : Nat := 0x3F800000

def f32Neg (w : Nat) : Bool := bit w 31
def f32Exp (w : Nat) : Nat := bits w 23 8
def f32Frac (w : Nat) : Nat := bits w 0 23
def f32IsNaN (w : Nat) : Bool := decide (f32Exp w = 255) && decide (f32Frac w ≠ 0)
def f32IsInf (w : Nat) : Bool := decide (f32Exp w = 255) && decide (f32Frac w = 0)
def f32IsZero (w : Nat) : Bool := decide (f32Exp w = 0) && decide (f32Frac w = 0)
def f32Finite (w : Nat) : Bool := decide (f32Exp w < 255)

/-- The significand of a finite encoding; its value is the significand times 2 to f32Scale. -/
def f32Sig (w : Nat) : Nat := if f32Exp w = 0 then f32Frac w else f32Frac w + 2 ^ 23
def f32Scale (w : Nat) : Int := if f32Exp w = 0 then -149 else (f32Exp w : Int) - 150
def f32Int (w : Nat) : Int := if f32Neg w then -(f32Sig w : Int) else f32Sig w

/-- Round m * 2^e (plus a positive amount below one unit of m when sticky) to binary32, to nearest with ties to even,
keeping subnormals. -/
def f32Round (neg : Bool) (m : Nat) (e : Int) (sticky : Bool) : Nat :=
  let sgnBit := if neg then 2 ^ 31 else 0
  if m = 0 then sgnBit else
  let E := max (e + (Nat.log2 m + 1 : Nat) - 24) (-149)
  let sh := (E - e).toNat
  let q := if E ≤ e then m * 2 ^ (e - E).toNat else m / 2 ^ sh
  let r := if E ≤ e then 0 else m % 2 ^ sh
  let up := if E ≤ e then false else
    decide (2 ^ sh < 2 * r) || (decide (2 * r = 2 ^ sh) && (sticky || decide (q % 2 = 1)))
  let q' := if up then q + 1 else q
  let q2 := if q' = 2 ^ 24 then 2 ^ 23 else q'
  let E2 := if q' = 2 ^ 24 then E + 1 else E
  if q2 < 2 ^ 23 then sgnBit + q2
  else if 105 ≤ E2 then sgnBit + 0x7F800000
  else sgnBit + (E2 + 150).toNat * 2 ^ 23 + (q2 - 2 ^ 23)

/-- The binary32 nearest to n * 2^k. -/
def f32Of (n k : Int) : Nat := f32Round (decide (n < 0)) n.natAbs k false

/-- Addition (R98). -/
def add32 (a b : Nat) : Nat :=
  if f32IsNaN a || f32IsNaN b then f32NaN
  else if f32IsInf a then (if f32IsInf b && f32Neg a != f32Neg b then f32NaN else f32Inf (f32Neg a))
  else if f32IsInf b then f32Inf (f32Neg b)
  else
    let e := min (f32Scale a) (f32Scale b)
    let n := f32Int a * 2 ^ (f32Scale a - e).toNat + f32Int b * 2 ^ (f32Scale b - e).toNat
    if n = 0 then (if f32IsZero a && f32IsZero b && f32Neg a && f32Neg b then 2 ^ 31 else 0)
    else f32Of n e

/-- Change of sign; a NaN stays the canonical NaN. -/
def neg32 (a : Nat) : Nat := if f32IsNaN a then f32NaN else if f32Neg a then a - 2 ^ 31 else a + 2 ^ 31

/-- Subtraction. -/
def sub32 (a b : Nat) : Nat := add32 a (neg32 b)

/-- Multiplication (R98). -/
def mul32 (a b : Nat) : Nat :=
  let neg := f32Neg a != f32Neg b
  if f32IsNaN a || f32IsNaN b then f32NaN
  else if f32IsInf a || f32IsInf b then (if f32IsZero a || f32IsZero b then f32NaN else f32Inf neg)
  else f32Round neg (f32Sig a * f32Sig b) (f32Scale a + f32Scale b) false

/-- Division (R98, R100). -/
def div32 (a b : Nat) : Nat :=
  let neg := f32Neg a != f32Neg b
  if f32IsNaN a || f32IsNaN b then f32NaN
  else if f32IsInf a then (if f32IsInf b then f32NaN else f32Inf neg)
  else if f32IsInf b then (if neg then 2 ^ 31 else 0)
  else if f32IsZero b then (if f32IsZero a then f32NaN else f32Inf neg)
  else if f32IsZero a then (if neg then 2 ^ 31 else 0)
  else
    let n := f32Sig a * 2 ^ 60
    f32Round neg (n / f32Sig b) (f32Scale a - f32Scale b - 60) (decide (n % f32Sig b ≠ 0))

/-- The sign of the comparison of two finite or infinite values as a scaled integer: larger values, larger integers. -/
def f32Key (w : Nat) : Int :=
  let m : Int := ((w % 2 ^ 31 : Nat) : Int)
  if f32Neg w then -m else m

/-- Less than; false when an operand is a NaN. Encodings of one sign order as their magnitudes do. -/
def lt32 (a b : Nat) : Bool := !(f32IsNaN a) && !(f32IsNaN b) && decide (f32Key a < f32Key b)
def le32 (a b : Nat) : Bool := !(f32IsNaN a) && !(f32IsNaN b) && decide (f32Key a ≤ f32Key b)
def max32 (a b : Nat) : Nat := if lt32 a b then b else a
def min32 (a b : Nat) : Nat := if lt32 b a then b else a
def clamp32 (x lo hi : Nat) : Nat := if lt32 x lo then lo else if lt32 hi x then hi else x
def abs32 (a : Nat) : Nat := if f32IsNaN a then f32NaN else a % 2 ^ 31

/-- To an integer, to nearest with ties to even; a NaN becomes 0 and an infinity lies beyond every clamp (R100). -/
def f32ToInt (w : Nat) : Int :=
  if f32IsNaN w then 0
  else if f32IsInf w then (if f32Neg w then -(2 : Int) ^ 200 else (2 : Int) ^ 200)
  else if 0 ≤ f32Scale w then f32Int w * 2 ^ (f32Scale w).toNat
  else roundNE (f32Int w) (2 ^ (-(f32Scale w)).toNat)

/-- To a fixed-point word with the given number of fraction bits, to nearest with ties to even, not yet saturated (R6). -/
def f32ToFix (frac : Nat) (w : Nat) : Int :=
  if f32IsNaN w then 0
  else if f32IsInf w then (if f32Neg w then -(2 : Int) ^ 200 else (2 : Int) ^ 200)
  else if 0 ≤ f32Scale w + frac then f32Int w * 2 ^ (f32Scale w + frac).toNat
  else roundNE (f32Int w) (2 ^ (-(f32Scale w + frac)).toNat)

/-- The largest integer not above the value times 2^k, for a finite value (R182). -/
def f32Floor (k : Nat) (w : Nat) : Int :=
  if 0 ≤ f32Scale w + k then f32Int w * 2 ^ (f32Scale w + k).toNat
  else f32Int w / (2 : Int) ^ (-(f32Scale w + k)).toNat

/-- bf16 from binary32 (R98). -/
def bf16Rne (w : Nat) : Nat :=
  if f32IsNaN w then 0x7FC0 else ((w + 0x7FFF + (w / 2 ^ 16) % 2) / 2 ^ 16) % 2 ^ 16

/-- The binary32 of a bf16 encoding (R96). -/
def bf16To32 (h : Nat) : Nat := (h % 2 ^ 16) * 2 ^ 16

/-- The high and low parts of the split form (R99). -/
def splitHi (v : Nat) : Nat := bf16To32 (bf16Rne v)
def splitLo (v : Nat) : Nat := bf16To32 (bf16Rne (sub32 v (splitHi v)))

/-- The binary32 of an E4M3 encoding (R96). -/
def e4m3To32 (x : Nat) : Nat :=
  let e := bits x 3 4; let m := bits x 0 3; let neg := bit x 7
  if e = 15 ∧ m = 7 then f32NaN
  else if e = 0 then f32Round neg m (-9) false
  else f32Round neg (8 + m) ((e : Int) - 10) false

/-- One level of the balanced tree of R97. -/
def pairUp (add : Nat → Nat → Nat) : List Nat → List Nat
  | a :: b :: t => add a b :: pairUp add t
  | l => l

/-- The segment sum of R97: pairs, in element order, until one value remains; ten levels cover 512 elements. -/
def treeSum (add : Nat → Nat → Nat) : Nat → List Nat → Nat
  | 0, l => l.getD 0 0
  | n + 1, l => if l.length ≤ 1 then l.getD 0 0 else treeSum add n (pairUp add l)

/-- The dot product of one segment in F8 or BF mode: products rounded, then the tree (R97). -/
def dot32 (ws xs : List Nat) : Nat := treeSum add32 10 (List.zipWith mul32 ws xs)

/-- Segments of 128 of a row against a vector, accumulated in pass order (R97, R124). -/
def dotSegs : Nat → Nat → List Nat → List Nat → Nat
  | 0, acc, _, _ => acc
  | n + 1, acc, ws, xs => dotSegs n (add32 acc (dot32 (ws.take 128) (xs.take 128))) (ws.drop 128) (xs.drop 128)

/-- One bit of the CRC of R40: generator 0x04C1_1DB7, most significant bit first. -/
def crcBit (crc : Nat) (b : Bool) : Nat :=
  let top := bit crc 31 != b
  let sh := (crc * 2) % 2 ^ 32
  if top then sh ^^^ 0x04C11DB7 else sh

/-- The bits of a byte, most significant first. -/
def byteBits (b : Byte) : List Bool := (List.range 8).map fun k => bit b.toNat (7 - k)

/-- The CRC of R40 over a list of bits. -/
def crcBits (bs : List Bool) : Nat := (bs.foldl crcBit 0xFFFFFFFF) ^^^ 0xFFFFFFFF

/-- The CRC of R40 over bytes, each taken most significant bit first (R465). -/
def crcBytes (bs : List Byte) : Nat := (bs.foldl (fun c b => (byteBits b).foldl crcBit c) 0xFFFFFFFF) ^^^ 0xFFFFFFFF

end Sys2Proof.Machine
end

