-- ==== Sys2Proof/Machine/Classes.lean ====
section
/-!
DEFINITION. Machine/Classes.lean: what a choker may have: the destinations of loop contexts (R181), the class values (R182), the
ceiling of granted tallies (R74, R250) and the rows of R27 before the ramps.
-/
namespace Sys2Proof.Machine

/-! ### Fields of a context's 64 configuration bytes (R176) -/

def cKind (g : Nat) : Nat := bits g 0 8
def cK (g : Nat) : Nat := bits g 8 8
def cPhase (g : Nat) : Nat := bits g 16 16
def cPred (g : Nat) : Bool := bit g 32
def cFail (g : Nat) : Nat := bits g 33 2
def cClass (g : Nat) : Nat := bits g 40 3
def cDkind (g : Nat) : Nat := bits g 48 8
def cDindex (g : Nat) : Nat := bits g 64 16
def cIn (g : Nat) : Nat := bits g 96 32
def cAlt (g : Nat) : Nat := bits g 128 32
def cSp (g : Nat) : Nat := bits g 160 32
def cSpc (g : Nat) : Nat := bits g 192 32
def cKp (g : Nat) : Nat := bits g 224 32
def cKi (g : Nat) : Nat := bits g 256 32
def cSlew (g : Nat) : Nat := bits g 288 32
def cUmin (g : Nat) : Nat := bits g 320 32
def cUmax (g : Nat) : Nat := bits g 352 32
def cUsafe (g : Nat) : Nat := bits g 384 32
def cLossN (g : Nat) : Nat := bits g 416 8
def cOkN (g : Nat) : Nat := bits g 424 8
def cFrzN (g : Nat) : Nat := bits g 432 16
def cFrzDu (g : Nat) : Nat := bits g 448 32

/-- Source code and index of a source word (R176, R177). -/
def srcCode (w : Nat) : Nat := bits w 0 6
def srcIndex (w : Nat) : Nat := bits w 6 12
def srcKey (w : Nat) : Nat := srcCode w * 4096 + srcIndex w

/-- The class whose coefficient an engine's class takes: reserved classes take class 15 (R56). -/
def clsIx (e k : Nat) : Nat :=
  if e = 0 then (if k < 4 then k else 15) else if e = 1 then (if k < 5 then k else 15) else if k < 6 then k else 15

def State.ctx (s : State) (n : Nat) : Ctx := mget s.lpe.ctxs n { }
def State.setCtx (s : State) (n : Nat) (x : Ctx) : State := { s with lpe := { s.lpe with ctxs := mput s.lpe.ctxs n x } }

/-! ### Tallies an engine holds -/

/-- The engine holds a GRANTED tally of the tenant (R181, dkind 7). -/
def State.holdsOf (s : State) (c t : Nat) : Bool :=
  s.tly.objs.any fun o => decide (o.2.state = 2) && decide (o.2.engine = c) && decide (o.2.tenant = t)

/-- The sum of the amounts of the engine's GRANTED tallies, in 0.5 A steps (R250). -/
def State.grantedAmount (s : State) (c : Nat) : Nat :=
  sumN (s.tly.objs.map fun o => if o.2.state = 2 ∧ o.2.engine = c then o.2.amount else 0)

def State.holdsGranted (s : State) (c : Nat) : Bool :=
  s.tly.objs.any fun o => decide (o.2.state = 2) && decide (o.2.engine = c)

def State.holdsRecalled (s : State) (c : Nat) : Bool :=
  s.tly.objs.any fun o => decide (o.2.state = 3) && decide (o.2.engine = c)

/-- The smallest step limit in force for a choker (R250). -/
def State.stepLimit (s : State) (c : Nat) : Nat :=
  s.tly.objs.foldl (fun m o => if o.2.state = 2 ∧ o.2.engine = c then min m (s.rd TLY_SLEW_step o.2.slew) else m)
    (s.rd CHK_ALLOW_step_max c)

/-- The ceiling of R74: A is in 0.5 A steps and CHK_IMAX in 1/16 A, so A * 64 / CHK_IMAX is amount * 512 / imax. -/
def State.ceiling (s : State) (c : Nat) : Nat :=
  if s.holdsGranted c then
    max (s.rd CHK_ALLOW_floor c) (min 64 (s.grantedAmount c * 512 / s.rd CHK_IMAX_imax c))
  else s.rd CHK_ALLOW_floor c

/-! ### Destinations and class values -/

/-- Whether a context's destination includes choker c (R181). -/
def destHas (s : State) (g c : Nat) : Bool :=
  match cDkind g with
  | 0 => c = cDindex g
  | 1 => c < 256 ∧ c / 4 = cDindex g
  | 2 => 256 ≤ c ∧ (c - 256) / 4 = cDindex g
  | 3 => c < 256 ∧ c % 4 = cDindex g
  | 4 => c < 256
  | 5 => 256 ≤ c
  | 6 => true
  | 7 => c < 256 ∧ s.holdsOf c (cDindex g)
  | _ => false

/-- The chokers of a destination. -/
def destList (s : State) (g : Nat) : List Nat := (List.range 320).filter (destHas s g)

/-- The value a context with output u offers a choker (R182). -/
def offer (s : State) (u c : Nat) : Nat := max (s.rd CHK_ALLOW_floor c) (f32Floor 6 u).toNat

/-- The value of a class for a choker: the least offered by the PI contexts of the class, 64 with none (R182). -/
def classValue (s : State) (cls c : Nat) : Nat :=
  s.lpe.ctxs.foldl
    (fun m x => if cKind x.2.cfg = 1 ∧ cClass x.2.cfg = cls ∧ destHas s x.2.cfg c then min m (offer s x.2.u c) else m) 64

/-- The current class as row 4 takes it: cut to sallow in fallback, never below the floor (R122). -/
def State.curClass (s : State) (c : Nat) : Nat :=
  if c < 256 ∧ s.flag FCS_CORE_fallback (c / 4) then
    max (s.rd CHK_ALLOW_floor c) (min (s.rd LPE_CLASS_cur c) (s.rd FCS_CORE_sallow (c / 4)))
  else s.rd LPE_CLASS_cur c

/-- Row 4 of R27 before the ramp limits (R182). -/
def State.row4 (s : State) (c : Nat) : Nat :=
  let m := min (min (s.curClass c) (s.rd LPE_CLASS_pwr c))
    (min (min (s.rd LPE_CLASS_thm c) (s.rd LPE_CLASS_slp c)) (s.rd LPE_CLASS_ten c))
  if c < 256 then min m (s.ceiling c) else m

/-- Form the class values and the row-4 value of a choker anew (R182, R183). -/
def State.refreshChoker (s : State) (c : Nat) : State :=
  let s := s.wr LPE_CLASS_cur c (classValue s 0 c)
  let s := s.wr LPE_CLASS_pwr c (classValue s 1 c)
  let s := s.wr LPE_CLASS_thm c (classValue s 2 c)
  let s := s.wr LPE_CLASS_slp c (classValue s 3 c)
  let s := s.wr LPE_CLASS_ten c (classValue s 4 c)
  s.wr LPE_CLASS_row4 c (s.row4 c)

def State.refreshChokers (s : State) (cs : List Nat) : State := cs.foldl State.refreshChoker s

/-- Row 1 of R27 decides: the firebreak, or the hold at the floors of a thermal shutdown (R233) or of an orderly
shutdown (R415), which act as row 1. -/
def State.row1 (s : State) : Bool :=
  s.fbInForce || decide (s.rd THM_STAT_state = 4) || decide (s.rd RST_SEQ_stage = 6)

/-- The target that R27 sets a choker before the ramps, rows 1, 3 and 4 (the droop row acts apart). -/
def State.target (s : State) (c : Nat) : Nat :=
  if s.row1 then s.rd CHK_ALLOW_floor c
  else if c < 256 ∧ s.holdsRecalled c then s.rd CHK_ALLOW_floor c
  else s.row4 c

/-- Rows 3 and 4 of R27, as the droop value of R80 takes them. -/
def State.row34 (s : State) (c : Nat) : Nat :=
  if c < 256 ∧ s.holdsRecalled c then s.rd CHK_ALLOW_floor c else s.row4 c

/-- The choker stands under row 2 of R27 (R81, R82). -/
def State.inDroop (s : State) (c : Nat) : Bool := decide (c < 256) && (s.droop (c / 4)).hold && !s.row1

end Sys2Proof.Machine
end

