-- ==== Sys2Proof/Machine/Tally.lean ====
section
/-!
DEFINITION. Machine/Tally.lean: tally objects, the tally port and the pools' arbiters (R239 to R267).
-/
namespace Sys2Proof.Machine

/-! ### Objects and their orders -/

def State.obj (s : State) (o : Nat) : TObj := mget s.tly.objs o { }
def State.setObj (s : State) (o : Nat) (x : TObj) : State := { s with tly := { s.tly with objs := mput s.tly.objs o x } }
def State.poolSt (s : State) (p : Nat) : PoolSt := mget s.tly.pools p { }
def State.setPool (s : State) (p : Nat) (x : PoolSt) : State := { s with tly := { s.tly with pools := mput s.tly.pools p x } }

/-- The committed amount of a tenant as it stood at the start of this hub cycle (R249). -/
def State.committedAtStart (s : State) (t : Nat) : Nat :=
  match mfind s.tly.commStart t with
  | some (ts, v) => if ts = s.ts then v else s.rd TLY_TEN_ST_committed t
  | none => s.rd TLY_TEN_ST_committed t

/-- Change a tenant's committed amount, keeping its value at the start of the hub cycle. -/
def State.setCommitted (s : State) (t v : Nat) : State :=
  ({ s with tly := { s.tly with commStart := mput s.tly.commStart t (s.ts, s.committedAtStart t) } }).wr TLY_TEN_ST_committed t v

/-- A fresh order number. -/
def State.nextOrder (s : State) : State := { s with tly := { s.tly with order := s.tly.order + 1 } }

/-- Of the objects that meet a condition, the one with the least order. -/
def firstBy (objs : SMap TObj) (p : TObj → Bool) (ord : TObj → Nat) : Option Nat :=
  (objs.foldl (fun (best : Option (Nat × Nat)) o =>
      if p o.2 then
        match best with
        | some (_, b) => if ord o.2 < b then some (o.1, ord o.2) else best
        | none => some (o.1, ord o.2)
      else best) none).map (·.1)

/-- The oldest admitted WAITING request of a tenant in a pool (R252). -/
def State.headOf (s : State) (p t : Nat) : Option Nat :=
  firstBy s.tly.objs (fun o => decide (o.state = 1) && o.admitted && decide (o.pool = p) && decide (o.tenant = t)) (·.oAdm)

/-- The oldest eligible entry of a pool's recall queue (R259). -/
def State.recallHead (s : State) (p : Nat) : Option Nat :=
  firstBy s.tly.objs (fun o => decide (o.state = 3) && o.eligible && decide (o.pool = p)) (·.oRecall)

/-- The oldest unadmitted request of a tenant, across all pools (R249). -/
def State.admHead (s : State) (t : Nat) : Option Nat :=
  firstBy s.tly.objs (fun o => decide (o.state = 1) && !o.admitted && decide (o.tenant = t)) (·.oAlloc)

/-- The GRANTED object of a pool granted earliest (R254). -/
def State.oldestGranted (s : State) (p : Nat) : Option Nat :=
  firstBy s.tly.objs (fun o => decide (o.state = 2) && decide (o.pool = p)) (·.oGrant)

/-- The object of a lane's command that is not FREE. An ended command's object counts only where asked. -/
def State.objOf (s : State) (c seq : Nat) (ended : Bool) : Option Nat :=
  firstBy s.tly.objs (fun o => decide (o.state ≠ 0) && decide (o.engine = c) && decide (o.seq = seq) && (o.ended == ended))
    (·.oAlloc)

/-- Free room of a pool, which may be negative (R248). -/
def State.freeRoom (s : State) (p : Nat) : Int := (s.rd TLY_POOL_cap p : Int) - s.rd TLY_POOL_ST_used p

/-- The recall time of a pool in timestamp units (R248). -/
def State.recallTime (s : State) (p : Nat) : Nat :=
  (if s.rd TLY_POOL_recall p = 0 then s.rd TLY_CFG_recall else s.rd TLY_POOL_recall p) * usT

/-- Show the pool's waiting count, its recall queue and its reservation (R267). -/
def State.refreshPool (s : State) (p : Nat) : State :=
  let w := (s.tly.objs.filter fun o => o.2.state = 1 ∧ o.2.admitted ∧ o.2.pool = p).length
  let rq := s.tly.objs.any fun o => decide (o.2.state = 3) && decide (o.2.pool = p)
  let rsv := (s.poolSt p).rsv.isSome
  let s := s.wr TLY_POOL_ST_waiting p (min w 255)
  let s := s.wr TLY_POOL_ST_rq p (b2n rq)
  let s := s.wr TLY_POOL_ST_rsv p (b2n rsv)
  s.wr TLY_STAT_rsv 0 (setBit (s.rd TLY_STAT_rsv) p rsv)

/-- A tenant with no admitted WAITING request left leaves the pool's round (R252). -/
def State.settleRound (s : State) (p t : Nat) : State :=
  match s.headOf p t with
  | some _ => s
  | none => s.setPool p { s.poolSt p with round := (s.poolSt p).round.filter fun r => r.tenant ≠ t }

/-- The ceiling, the step limit and the tenant class of an engine's choker follow its tallies (R183, R250). -/
def State.retally (s : State) (c : Nat) : State := s.refreshChoker c

/-- The pool's arbiter may act in this hub cycle: it takes one action in each (R251). -/
def State.mayAct (s : State) (p : Nat) : Bool := decide ((s.poolSt p).acted ≠ some s.ts)

/-- The arbiter acts. -/
def State.actPool (s : State) (p : Nat) : State := s.setPool p { s.poolSt p with acted := some s.ts }

/-! ### Entering FREE (R240, R241, R246, R247) -/

/-- A pool without an object: off its queue of aged requests, and its reservation ended where the object held it (R254). -/
def PoolSt.without (x : PoolSt) (o now : Nat) : PoolSt :=
  let mine := decide (x.rsv.map (·.1) = some o)
  { x with aged := x.aged.filter (· ≠ o), rsv := if mine then none else x.rsv, acted := if mine then some now else x.acted }

/-- An object becomes FREE: its gen advances, both sums fall, it joins the free list's tail, and it leaves every queue. A reservation
that it held ends, and the arbiter goes on in the next hub cycle (R254). -/
def State.freeObj (s : State) (o : Nat) : State :=
  let x := s.obj o
  if x.state = 0 then s else
  let p := x.pool
  let waited := decide (x.state = 1) && x.admitted && decide (x.tAdm ≠ s.ts)
  let s := if x.state = 2 then s.wr TLY_POOL_ST_used p (s.rd TLY_POOL_ST_used p - x.amount) else s
  let s := if x.state ≠ 1 ∨ x.admitted then
      s.setCommitted x.tenant (s.rd TLY_TEN_ST_committed x.tenant - x.amount) else s
  let s := s.wr TLY_TEN_ST_objects x.tenant (s.rd TLY_TEN_ST_objects x.tenant - 1)
  let s := s.wr TLY_STAT_free 0 (s.rd TLY_STAT_free + 1)
  let s := if waited then
      ((s.count (cntTenant x.tenant 12) 1).count (cntDie 12) 1).count (cntQueue x.queue 0) 1 else s
  let s := { s with tly := { s.tly with freed := s.tly.freed ++ [o] } }
  let s := s.setObj o { gen := (x.gen + 1) % 256, tState := s.ts }
  let s := s.setPool p ((s.poolSt p).without o s.ts)
  let s := s.settleRound p x.tenant
  (s.refreshPool p).retally x.engine

/-- Free every object of a list. -/
def State.freeObjs (s : State) (os : List Nat) : State := os.foldl State.freeObj s

/-- Every object a lane holds. -/
def State.laneObjs (s : State) (c : Nat) : List Nat :=
  (s.tly.objs.filter fun o => o.2.state ≠ 0 ∧ o.2.engine = c).map (·.1)

/-! ### Misuse of the port (R263) -/

/-- EV_TLY_MISUSE, at most once per lane per millisecond. -/
def State.misuse (s : State) (c kind id tag : Nat) : State := s.emitLim 14 3 c msT [c, kind, id, tag]

/-- A request is answered REFUSED (R245, R263). -/
def State.refuseReq (s : State) (c seq : Nat) : State :=
  ((s.bump TLY_VIOL_bad_req).misuse c 3 0 seq).send (.grantItem c seq 0 0 1)

/-! ### Requests (R242 to R245) -/

/-- The outstanding command of a lane with a sequence number (R20). -/
def findCmd (l : Lane) (seq : Nat) : Option Cmd :=
  l.cmds.find? fun c => !c.ended && decide (bits c.word 16 8 = seq)

/-- Every earlier command of the engine has begun (a squashed one is gone): the order of R243. -/
def earlierBegun (l : Lane) (seq : Nat) : Bool :=
  let before := (l.cmds.filter fun c => !c.ended).takeWhile fun c => decide (bits c.word 16 8 ≠ seq)
  before.all (·.begun)

/-- The request that the port presents next: the first whose earlier commands have begun, else the oldest (R243). -/
def Lane.pick (l : Lane) : Lane :=
  let all := l.req.toList ++ l.early
  match all.find? fun r => earlierBegun l r.seq with
  | some r => { l with req := some r, early := all.erase r }
  | none => { l with req := all.head?, early := all.drop 1 }

/-- The request presented leaves the port. -/
def Lane.served (l : Lane) : Lane := Lane.pick { l with req := none }

/-- The requests for a command leave the port. -/
def Lane.dropSeq (l : Lane) (q : Nat) : Lane :=
  Lane.pick { l with req := l.req.filter fun r => decide (r.seq ≠ q), early := l.early.filter fun r => decide (r.seq ≠ q) }

/-- Whether a request is refused under R245: its command is not outstanding, has begun, or already holds a tally. -/
def State.refused (s : State) (c seq : Nat) : Bool :=
  match findCmd (s.lane c) seq with
  | none => true
  | some m => m.begun || (s.objOf c seq false).isSome

/-- Release mode of an engine's choker (R89). -/
def State.stepping (s : State) (c : Nat) : Bool := s.flag CHK_STEP_mode c

/-- Show the held request of a choker in release mode (R90). -/
def State.showHeld (s : State) (c : Nat) : State :=
  match (s.lane c).req with
  | some r => if s.stepping c && !r.presented then (s.wr CHK_STEP_held c 1).wr CHK_STEP_seq c r.seq else s.wr CHK_STEP_held c 0
  | none => s.wr CHK_STEP_held c 0

/-- The hub takes a presented request: amount, pool, clamp and object, or it stays in the port (R244). -/
def State.hubTake (s : State) (c : Nat) (r : PortReq) (m : Cmd) : State :=
  let t := bits m.word 24 9
  let cls := bits m.word 2 4
  let i := (c % 4) * 16 + cls
  let p := if r.coll then s.rd TLY_PSEL_cpool c else s.rd TLY_PSEL_pool c
  let amt := s.rd TLY_AMT_amount i
  let cap := s.rd TLY_POOL_cap p
  if s.rd TLY_TEN_objmax t ≤ s.rd TLY_TEN_ST_objects t then s.emitLim 14 4 t msT [t, s.rd TLY_TEN_objmax t]
  else
    let alloc : Option (Nat × Tly) :=
      if s.tly.fresh < 8192 then some (s.tly.fresh, { s.tly with fresh := s.tly.fresh + 1 })
      else match s.tly.freed with
        | o :: rest => some (o, { s.tly with freed := rest })
        | [] => none
    match alloc with
    | none => s
    | some (o, tly) =>
      let s := { s with tly := tly }
      let s := if cap < amt then s.bump TLY_POOL_ST_clamped p else s
      let gen := (s.obj o).gen
      let s := s.nextOrder
      let s := s.setObj o { state := 1, tenant := t, engine := c, seq := r.seq, queue := bits m.word 36 12,
                            amount := min amt cap, slew := s.rd TLY_AMT_slew i, pool := p, coll := r.coll, gen := gen,
                            tState := s.ts, tAlloc := s.ts, oAlloc := s.tly.order }
      let s := s.wr TLY_TEN_ST_objects t (s.rd TLY_TEN_ST_objects t + 1)
      let s := s.wr TLY_STAT_free 0 (s.rd TLY_STAT_free - 1)
      let l := s.lane c
      (s.setLane c { l.served with prevPresented := some r.seq }).showHeld c

/-- Present the port's request to the hub where the order of R243 and R245 allow it. -/
def State.present (s : State) (c : Nat) (r : PortReq) : State :=
  if s.refused c r.seq then ((s.setLane c (s.lane c).served).refuseReq c r.seq).showHeld c
  else match findCmd (s.lane c) r.seq with
    | some m => if earlierBegun (s.lane c) r.seq then s.hubTake c r m else s
    | none => s

/-- R387: after four disagreeing sample pairs the crossing drops its item. Crossings are numbered in the order of R388. -/
def State.crossErr (s : State) (k : Nat) : State :=
  (s.wr CLK_XERR_err 0 (setBit (s.rd CLK_XERR_err) k true)).emit 1 2 [k, 2]

/-- TALLY_REQUEST (R242, R243, R245): the outpost holds the request in the port, early ones behind it, or answers it REFUSED. -/
def tallyRequest (core : Fin 64) (engine : Fin 4) (seq : BitVec 8) (coll mismatch : Bool) (s : State) : State :=
  let c := chokerOf core engine
  if mismatch then s.crossErr 1
  else if s.refused c seq.toNat then s.refuseReq c seq.toNat
  else
    let r : PortReq := { seq := seq.toNat, coll := coll, presented := !s.stepping c, since := s.ts }
    let l := s.lane c
    (s.setLane c (Lane.pick { l with early := l.early ++ [r] })).showHeld c

/-- The port with the request that may now go first in front. -/
def State.pickReq (s : State) (c : Nat) : State := (s.setLane c (s.lane c).pick).showHeld c

/-- TALLY_REQUEST_PRESENT (R243, R244): a request not held by release mode is presented. -/
def tallyRequestPresent (c : Fin 256) (s : State) : State :=
  let s := s.pickReq c
  match (s.lane c).req with
  | some r => if r.presented || !s.stepping c then s.present c { r with presented := true } else s
  | none => s

/-- The command presented last has begun, was squashed or has ended (R89). -/
def prevBegun (l : Lane) : Bool :=
  match l.prevPresented with
  | none => true
  | some q => match findCmd l q with
    | some m => m.begun
    | none => true

/-- STEP_PRESENT (R89, R243): in release mode, with a credit, the previous command begun and every earlier command of the engine begun,
the held request leaves the hold and is presented. -/
def stepPresent (c : Fin 256) (s : State) : State :=
  let s := s.pickReq c
  match (s.lane c).req with
  | some r =>
    if s.stepping c && !r.presented && decide (1 ≤ s.rd CHK_STEP_credits c) && prevBegun (s.lane c) then
      if s.refused c r.seq then s.present c r
      else if earlierBegun (s.lane c) r.seq then
        let r' := { r with presented := true }
        let s := s.wr CHK_STEP_credits c (s.rd CHK_STEP_credits c - 1)
        let s := (s.setLane c { s.lane c with req := some r' }).showHeld c
        s.present c r'
      else s
    else s
  | none => s

/-! ### Admission and grants (R249 to R254) -/

/-- Append a tenant to a pool's round where it is not active (R252). -/
def State.activate (s : State) (p t : Nat) : State :=
  let ps := s.poolSt p
  if ps.round.any fun r => r.tenant = t then s
  else s.setPool p { ps with round := ps.round ++ [{ tenant := t }] }

/-- TALLY_ADMIT (R249). -/
def tallyAdmit (t : Fin 512) (s : State) : State :=
  match s.admHead t with
  | none => s
  | some o =>
    let x := s.obj o
    if max (s.committedAtStart t) (s.rd TLY_TEN_ST_committed t) + x.amount ≤ s.rd TLY_TEN_quota t then
      let s := s.nextOrder
      let s := s.setObj o { x with admitted := true, tAdm := s.ts, oAdm := s.tly.order }
      let s := s.setCommitted t (s.rd TLY_TEN_ST_committed t + x.amount)
      (s.activate x.pool t).refreshPool x.pool
    else s

/-- A WAITING object is granted, or a RECALLED one granted again; a first grant drives the Grant item as the hub cycle ends, unless a
squash of that cycle has freed the object (R242, R245, R250, R264). -/
def State.grantObj (s : State) (o : Nat) : State :=
  let x := s.obj o
  let s := s.nextOrder
  let s := s.setObj o { x with state := 2, eligible := false, progSince := false, everGranted := true, tState := s.ts,
                               tGrant := s.ts, oGrant := s.tly.order }
  let s := s.wr TLY_POOL_ST_used x.pool (s.rd TLY_POOL_ST_used x.pool + x.amount)
  let s := if x.everGranted then s else
    let s := s.count (cntTenant x.tenant 11) 1
    let s := s.count (cntQueue x.queue 1) 1
    let s := if x.tAdm ≠ s.ts then
      ((s.count (cntTenant x.tenant 12) 1).count (cntDie 12) 1).count (cntQueue x.queue 0) 1 else s
    let s := s.count (cntTenant x.tenant 13) (s.ts - x.tAdm)
    { s with tly := { s.tly with drive := s.tly.drive ++ [(o, x.gen)] } }
  let ps := s.poolSt x.pool
  let s := s.setPool x.pool { ps with aged := ps.aged.filter (· ≠ o) }
  ((s.settleRound x.pool x.tenant).refreshPool x.pool).retally x.engine

/-- The pool's head entry is a recall-queue entry or an aged request (R251): no turn is taken. -/
def State.turnFree (s : State) (p : Nat) : Bool :=
  let ps := s.poolSt p
  ps.rsv.isNone && ps.aged.isEmpty && (s.recallHead p).isNone

/-- TALLY_GRANT (R252): one deficit-round-robin step of a pool. -/
def tallyGrant (p : Fin 16) (s : State) : State :=
  if !s.turnFree p || !s.mayAct p then s else
  let s := s.actPool p
  match (s.poolSt p).round with
  | [] => s
  | r :: rest =>
    let q := s.rd TLY_TEN_weight r.tenant * s.rd TLY_CFG_quantum
    let d : Int := if r.visited then r.deficit else r.deficit + q
    match s.headOf p r.tenant with
    | none => s.setPool p { s.poolSt p with round := rest }
    | some o =>
      let x := s.obj o
      if (x.amount : Int) ≤ d then
        if (x.amount : Int) ≤ s.freeRoom p then
          (s.setPool p { s.poolSt p with round := { r with deficit := d - x.amount, visited := true } :: rest }).grantObj o
        else s.setPool p { s.poolSt p with round := { r with deficit := d, visited := true } :: rest }
      else s.setPool p { s.poolSt p with round := rest ++ [{ r with deficit := d, visited := false }] }

/-- An object joins the aged queue of its pool once it has waited the age limit G since an instant (R253). -/
def State.joinAged (s : State) (p : Nat) (o : Option Nat) (since : TObj → Nat) : State :=
  match o with
  | none => s
  | some o =>
    let ps := s.poolSt p
    if since (s.obj o) + s.rd TLY_POOL_age p * usT ≤ s.ts ∧ ¬ (o ∈ ps.aged) ∧ ps.rsv.map (·.1) ≠ some o then
      s.setPool p { ps with aged := ps.aged ++ [o] }
    else s

/-- REQUEST_AGED (R253): every request that has become aged joins the pool's aged queue, tenants ascending, the recall-queue entry
last. -/
def requestAged (p : Fin 16) (s : State) : State :=
  let s := foldTo 512 s fun s t =>
    if (s.poolSt p).round.any fun r => r.tenant = t then s.joinAged p (s.headOf p t) (·.tAdm) else s
  s.joinAged p (s.recallHead p) (·.tElig)

/-- RESERVATION_TAKE (R251): with no reservation held, the aged queue's head takes it. -/
def reservationTake (p : Fin 16) (s : State) : State :=
  let ps := s.poolSt p
  match ps.rsv, ps.aged with
  | none, o :: rest =>
    if s.mayAct p then (s.setPool p { ps with aged := rest, rsv := some (o, s.ts), acted := some s.ts }).refreshPool p else s
  | _, _ => s

/-- RESERVATION_MET (R252, R254): the reserved request fits, is granted, and a WAITING one is charged to its tenant's deficit. -/
def reservationMet (p : Fin 16) (s : State) : State :=
  let ps := s.poolSt p
  match ps.rsv with
  | none => s
  | some (o, _) =>
    let x := s.obj o
    if (x.amount : Int) ≤ s.freeRoom p ∧ s.mayAct p then
      let since := if x.state = 1 then x.tAdm else x.tElig
      let cap : Int := s.rd TLY_POOL_cap p
      let round := if x.state = 1 then
          ps.round.map fun r => if r.tenant = x.tenant then { r with deficit := max (r.deficit - x.amount) (-cap) } else r
        else ps.round
      let s := s.setPool p { ps with rsv := none, round := round, acted := some s.ts }
      let s := s.grantObj o
      s.emitLim 14 2 p msT [p, o, x.tenant, roundNEN (s.ts - since) usT]
    else s

/-- A recall counts, as its hub cycle ends (R258); cause is 0 for lack of progress and 1 for a reservation, with 2 added where the
amount was clamped (R248). One whose object a release of that cycle has freed does not (R264). -/
def State.countRecall (s : State) (e : Nat × Nat × Nat) : State :=
  let o := e.1
  let x := s.obj o
  if x.state = 0 ∨ x.gen ≠ e.2.1 then s
  else
    let cause := e.2.2 % 2
    let s := if 2 ≤ e.2.2 then s.bump TLY_POOL_ST_clamped x.pool else s
    let s := if cause = 0 then s.bump TLY_RCL_nprog else s.bump TLY_RCL_rsv
    let s := ((s.count (cntTenant x.tenant 14) 1).count (cntDie 13) 1).count (cntQueue x.queue 2) 1
    let stepFlag := (List.range 256).any fun c => s.stepping c
    s.emitLim 14 1 x.engine msT [o, x.engine, cause, x.tenant + 65536 * b2n stepFlag]

/-- The Grant item of an object granted in this hub cycle, where it is not FREE again. -/
def State.driveGrant (s : State) (e : Nat × Nat) : State :=
  let x := s.obj e.1
  if x.state = 0 ∨ x.gen ≠ e.2 then s else s.send (.grantItem x.engine x.seq e.1 x.gen 0)

/-- The hub cycle ends: its Grant items are driven and its recalls count. -/
def State.tlyEnd (s : State) : State :=
  let t := s.tly
  let s := { s with tly := { t with drive := [], recalls := [] } }
  t.recalls.foldl State.countRecall (t.drive.foldl State.driveGrant s)

/-- A GRANTED object is recalled in one hub cycle (R258). An amount above the pool's capacity is clamped now (R248). -/
def State.recallObj (s : State) (o cause : Nat) : State :=
  let x := s.obj o
  let cap := s.rd TLY_POOL_cap x.pool
  let s := s.nextOrder
  let s := s.wr TLY_POOL_ST_used x.pool (s.rd TLY_POOL_ST_used x.pool - x.amount)
  let s := if cap < x.amount then s.setCommitted x.tenant (s.rd TLY_TEN_ST_committed x.tenant - (x.amount - cap)) else s
  let clamp := b2n (decide (cap < x.amount))
  let s := s.setObj o { x with state := 3, eligible := false, progSince := false, amount := min x.amount cap,
                               tState := s.ts, oRecall := s.tly.order }
  let s := { s with tly := { s.tly with recalls := s.tly.recalls ++ [(o, x.gen, cause + 2 * clamp)] } }
  (s.refreshPool x.pool).retally x.engine

/-- Recall up to n objects of a pool, granted earliest first (R254). -/
def State.recallSome : Nat → Nat → State → State
  | 0, _, s => s
  | n + 1, p, s =>
    match s.oldestGranted p with
    | none => s
    | some o => State.recallSome n p (s.recallObj o 1)

/-- RESERVATION_RECALL (R254): after the wait W, up to 16 objects are recalled while the request does not fit. -/
def reservationRecall (p : Fin 16) (s : State) : State :=
  match (s.poolSt p).rsv with
  | none => s
  | some (o, t) =>
    if s.freeRoom p < (s.obj o).amount ∧ t + s.rd TLY_POOL_rwait p * usT ≤ s.ts ∧ s.mayAct p then
      State.recallSome 16 p (s.actPool p)
    else s

/-- The last-progress instant of a GRANTED object (R257). -/
def State.lastProgress (s : State) (x : TObj) : Nat := max x.tGrant (s.lane x.engine).lastProg

/-- RECALL_NO_PROGRESS (R257): at a tick boundary every GRANTED object without progress for its pool's recall time is recalled. -/
def recallNoProgress (s : State) : State :=
  if s.ts % usT = 0 then
    (s.tly.objs.map (·.1)).foldl
      (fun s o =>
        let x := s.obj o
        if x.state = 2 ∧ s.lastProgress x + s.recallTime x.pool ≤ s.ts then s.recallObj o 0 else s) s
  else s

/-- RECALL_ELIGIBLE (R259): a window with progress after the recall has crossed; the engine's entries become eligible. -/
def recallEligible (c : Fin 256) (s : State) : State :=
  (s.tly.objs.map (·.1)).foldl
    (fun s o =>
      let x := s.obj o
      if x.state = 3 ∧ x.engine = c ∧ x.progSince ∧ ¬ x.eligible then
        s.setObj o { x with eligible := true, tElig := s.ts }
      else s) s

/-- TALLY_REGRANT (R251, R259): the oldest eligible recall entry is granted again when it fits and no reservation or aged request
stands before it. -/
def tallyRegrant (p : Fin 16) (s : State) : State :=
  let ps := s.poolSt p
  if ps.rsv.isSome || !ps.aged.isEmpty || !s.mayAct p then s else
  match s.recallHead p with
  | none => s
  | some o => let s := s.actPool p; if ((s.obj o).amount : Int) ≤ s.freeRoom p then s.grantObj o else s

/-! ### Releases (R246, R247) -/

/-- TALLY_RELEASE (R246, R263): the outpost checks the id and gen against the lane's objects and answers the port. -/
def tallyRelease (core : Fin 64) (engine : Fin 4) (id : BitVec 13) (gen : BitVec 8) (s : State) : State :=
  let c := chokerOf core engine
  let o := id.toNat
  let x := s.obj o
  if x.state = 0 ∨ x.engine ≠ c then
    ((s.bump TLY_VIOL_rel_err).misuse c 0 o gen.toNat).send (.releaseResp c o 1)
  else if gen.toNat = x.gen then (s.freeObj o).send (.releaseResp c o 0)
  else if laterSer gen.toNat x.gen 8 then ((s.bump TLY_VIOL_rel_err).misuse c 2 o gen.toNat).send (.releaseResp c o 3)
  else ((s.bump TLY_VIOL_rel_err).misuse c 1 o gen.toNat).send (.releaseResp c o 2)

/-- TALLY_AUTO_RELEASE (R247): 256 core cycles after the end strobe, asserted by the command, the tally is freed. -/
def tallyAutoRelease (core : Fin 64) (engine : Fin 4) (seq : BitVec 8) (s : State) : State :=
  let c := chokerOf core engine
  match s.objOf c seq.toNat true with
  | none => s
  | some o => ((s.freeObj o).bump TLY_VIOL_late_rel).misuse c 5 o seq.toNat

/-- A take lowers a pool's capacity: WAITING and RECALLED objects above it are clamped (R248). -/
def State.clampPool (s : State) (p : Nat) : State :=
  let cap := s.rd TLY_POOL_cap p
  (s.tly.objs.map (·.1)).foldl
    (fun s o =>
      let x := s.obj o
      if x.pool = p ∧ (x.state = 1 ∨ x.state = 3) ∧ cap < x.amount then
        let s := s.bump TLY_POOL_ST_clamped p
        let s := if x.state = 3 ∨ x.admitted then
            s.setCommitted x.tenant (s.rd TLY_TEN_ST_committed x.tenant - (x.amount - cap)) else s
        s.setObj o { x with amount := cap }
      else s) s

/-! ### The meanings -/

def execTallyRequest (core : Fin 64) (engine : Fin 4) (seq : BitVec 8) (coll mismatch : Bool) (s : State) : Ans :=
  hubOn (tallyRequest core engine seq coll mismatch) s
def execTallyRequestPresent (c : Fin 256) (s : State) : Ans := hubOn (tallyRequestPresent c) s
def execTallyAdmit (t : Fin 512) (s : State) : Ans := hubOn (tallyAdmit t) s
def execTallyGrant (p : Fin 16) (s : State) : Ans := hubOn (tallyGrant p) s
def execTallyRelease (core : Fin 64) (engine : Fin 4) (id : BitVec 13) (gen : BitVec 8) (s : State) : Ans :=
  hubOn (tallyRelease core engine id gen) s
def execTallyAutoRelease (core : Fin 64) (engine : Fin 4) (seq : BitVec 8) (s : State) : Ans :=
  hubOn (tallyAutoRelease core engine seq) s
def execRequestAged (p : Fin 16) (s : State) : Ans := hubOn (requestAged p) s
def execReservationTake (p : Fin 16) (s : State) : Ans := hubOn (reservationTake p) s
def execReservationMet (p : Fin 16) (s : State) : Ans := hubOn (reservationMet p) s
def execReservationRecall (p : Fin 16) (s : State) : Ans := hubOn (reservationRecall p) s
def execRecallNoProgress (s : State) : Ans := hubOn recallNoProgress s
def execRecallEligible (c : Fin 256) (s : State) : Ans := hubOn (recallEligible c) s
def execTallyRegrant (p : Fin 16) (s : State) : Ans := hubOn (tallyRegrant p) s
def execStepPresent (c : Fin 256) (s : State) : Ans := hubOn (stepPresent c) s

end Sys2Proof.Machine
end

