-- ==== Sys2Proof/Machine/Choker.lean ====
section
/-!
DEFINITION. Machine/Choker.lean: chokers, ramps, droop and the firebreak (R67 to R91).
-/
namespace Sys2Proof.Machine

/-- The gate is open in cycle i of a window under allowance a (R68). -/
def gateOpen (a i : Nat) : Bool := decide (i * a / 64 < (i + 1) * a / 64)

/-- Open cycles among the first m of a window under allowance a (R68). -/
def openCycles (a m : Nat) : Nat := m * a / 64

/-- The gate of a choker in cycle i of its window (R22, R23, R68, R79): closed while QUEFA_READY is negated. -/
def State.gate (s : State) (c i : Nat) : Bool :=
  if !s.pins.ready then false else
  match (s.chk c).cut with
  | some (n, a) => if i < n then gateOpen a i else gateOpen (s.rd CHK_ALLOW_now c) i
  | none => gateOpen (s.rd CHK_ALLOW_now c) i

/-- Cycles in which the gate of the closing window was open. -/
def State.openInWindow (s : State) (c : Nat) : Nat :=
  if !s.pins.ready then 0 else
  let a := s.rd CHK_ALLOW_now c
  match (s.chk c).cut with
  | some (n, old) => openCycles old n + (a - openCycles a n)
  | none => a

/-- What the closing window adds to the activity of an engine: the slots of one command (R57, R502 to R504). -/
def State.addSlots (s : State) (c : Nat) (m : Cmd) (n : Nat) : State :=
  let e := c % 4
  let cls := bits m.word 2 4; let shape := bits m.word 6 4; let t := bits m.word 24 9; let q := bits m.word 36 12
  let w := n * s.rdTick ACT_SHAPE_W shape
  let a := mget s.sns.acts c { }
  let a :=
    if a.recs.any fun r => r.cls = cls ∧ r.tenant = t ∧ r.queue = q then
      { a with recs := a.recs.map fun r => if r.cls = cls ∧ r.tenant = t ∧ r.queue = q then { r with count := r.count + w } else r }
    else if a.recs.length < 16 then { a with recs := a.recs ++ [{ cls := cls, tenant := t, queue := q, count := w }] }
    else { a with merged := mput a.merged cls (mget a.merged cls 0 + w) }
  let s := { s with sns := { s.sns with acts := mput s.sns.acts c a } }
  let s := (s.count (cntTenant t e) n).count (cntDie e) n
  if 2 ≤ e ∧ cls < 6 then
    let b := n * s.rdTick CNT_SHAPE_B_bytes shape
    (s.count (cntTenant t (5 + cls)) b).count (cntDie (5 + cls)) b
  else s

/-- The engine's class with the largest coefficient in force, the lowest on a tie (R21, R64). DESIGN CHOICE (log entry 157): a
reserved class has no coefficient of its own (R56), so it does not compete. -/
def State.hungryClass (s : State) (e : Nat) : Nat :=
  ((List.range 16).foldl (fun (b : Nat × Nat) k =>
    let v := s.rd ACT_COEF_CAL (16 * e + k)
    if clsIx e k = k ∧ b.2 < v then (k, v) else b) (0, s.rd ACT_COEF_CAL (16 * e))).1

/-- The largest shape weight in force (R64). -/
def State.maxShape (s : State) : Nat := (List.range 16).foldl (fun m k => max m (s.rdTick ACT_SHAPE_W k)) 0

/-- Slots begun in unknown-begin busy state (R64). -/
def State.addUnknown (s : State) (c n : Nat) : State :=
  if n = 0 then s else
  let u := s.hungryClass (c % 4)
  let a := mget s.sns.acts c { }
  let s := { s with sns := { s.sns with acts := mput s.sns.acts c { a with unk := mput a.unk u (mget a.unk u 0 + n * s.maxShape) } } }
  s.count (cntDie (c % 4)) n

/-- A window with progress reaches the hub: last progress, and the recalled objects it makes ready (R257, R259). -/
def State.progress (s : State) (c : Nat) : State :=
  let s := s.setLane c { s.lane c with lastProg := s.ts }
  (s.tly.objs.map (·.1)).foldl
    (fun s o => let x := s.obj o; if x.state = 3 ∧ x.engine = c then s.setObj o { x with progSince := true } else s) s

/-- The allowance of the window that begins (R27, R69, R70, R76, R77, R80); used is what the closed window began. -/
def State.nextAllow (s : State) (c used : Nat) : Nat :=
  let k := s.chk c
  let a := s.rd CHK_ALLOW_now c
  if !s.pins.ready then 0
  else if !k.started then s.rd CHK_ALLOW_floor c
  else if s.inDroop c then min (min (s.rd CHK_ALLOW_droop c) a) (s.row34 c)
  else
    let tv := s.target c
    if a < tv then min tv (a + k.upPend)
    else
      let free := min a (max used tv)          -- the free part of R76 has gone
      max tv (free - k.dnPend)

/-- The outpost of a choker's unit is out of reset, so that its clock runs and its windows pass (R67, R71). -/
def State.unitRuns (s : State) (c : Nat) : Bool :=
  if c < 256 then !(s.core (c / 4)).reset else mget s.hub.linkUp ((c - 256) / 4) false

/-- The slots a list reports: those of named commands and those of an unknown begin. -/
def slotSum (slots : List (BitVec 8 × Fin 65)) (unk : Fin 65) : Nat := min 64 (sumN (slots.map fun p => p.2.val) + unk.val)

/-- What a unit has begun since its last report: an engine's slots by command and those of an unknown begin, or a link's slots and
bytes (R57, R64, R502). DESIGN CHOICE (log entry 158): a slot of a command that is outstanding and begun is that command's, though its
lane is busy with an unknown begin. -/
def State.takeSlots (s : State) (c : Nat) (slots : List (BitVec 8 × Fin 65)) (unk : Fin 65) (bytes : BitVec 32) : State :=
  if c < 256 then
    let s := slots.foldl (fun s p =>
      match (s.lane c).cmds.find? fun m => m.begun && decide (bits m.word 16 8 = p.1.toNat) with
      | some m => s.addSlots c m p.2.val
      | none => s) s
    if (s.lane c).unkBusy || (s.lane c).unkWin then s.addUnknown c unk.val else s
  else
    let l := c - 256
    ((s.count (cntLink l 0) bytes.toNat).count (cntLink l 1) (slotSum slots unk)).count (cntDie 11) bytes.toNat

/-- The open window's slots begun before a tick boundary count in the tick that closes (R58). -/
def State.tickSlots (s : State) (p : Fin 320 × List (BitVec 8 × Fin 65) × Fin 65 × BitVec 32) : State :=
  let c := p.1.val
  if s.unitRuns c then
    let s := s.takeSlots c p.2.1 p.2.2.1 p.2.2.2
    s.setChk c { s.chk c with part := (s.chk c).part + slotSum p.2.1 p.2.2.1 }
  else s

/-- What an engine's lane shows when its window ends: progress goes to the hub, ended commands are forgotten. -/
def State.laneWindow (s : State) (c used : Nat) : State :=
  let s := if 0 < used then s.progress c else s
  let l := s.lane c
  let s := s.setLane c { l with cmds := l.cmds.filter fun m => !m.ended, unkWin := l.unkBusy }
  -- the core's threshold table follows the band (R35)
  s.setDroop (c / 4) { s.droop (c / 4) with band := s.rd SNS_DRP_BAND_band }

/-- CHOKER_WINDOW (R67 to R71, R76 to R82): the window that ends reports what it began and no tick boundary has taken: a list of
(sequence number, slots) of the engine's commands, the slots of an unknown begin, and a link's bytes; then the new allowance
applies. -/
def chokerWindow (c : Fin 320) (slots : List (BitVec 8 × Fin 65)) (unk : Fin 65) (bytes : BitVec 32) (s : State) : State :=
  if !s.unitRuns c then s else
  let used := min 64 ((s.chk c).part + slotSum slots unk)
  -- what the closed window did
  let s := s.takeSlots c slots unk bytes
  let s := if c.val < 256 then s.laneWindow c used else s
  let s := s.count (cntChoker c 0) (64 - s.openInWindow c)
  let s := if s.pins.ready ∧ s.rd CHK_ALLOW_now c = s.rd CHK_ALLOW_floor c then s.count (cntChoker c 1) 1 else s
  let s := if s.flag CHK_ALLOW_in_droop c then s.count (cntChoker c 2) 1 else s
  -- the window that begins
  let a := s.nextAllow c used
  let d := s.inDroop c && s.pins.ready
  let old := s.rd CHK_ALLOW_now c
  let s := s.wr CHK_ALLOW_now c a
  let s := s.wr CHK_ALLOW_in_droop c (b2n d)
  s.setChk c { started := s.pins.ready, used := used, lastAllow := old, upPend := 0, dnPend := 0, cut := none }

/-! ### Ramp ticks (R75 to R78) -/

/-- Row 2 of R27 applies to a choker: through the window in which the hold expires (R81). -/
def State.row2 (s : State) (c : Nat) : Bool := s.inDroop c || (s.flag CHK_ALLOW_in_droop c && !s.row1)

/-- The up demand of a choker (R75): 0 in droop. -/
def State.wantUp (s : State) (c : Nat) : Nat :=
  if s.row2 c || !(s.chk c).started then 0
  else s.target c - s.rd CHK_ALLOW_now c - (s.chk c).upPend

/-- The costed fall of a choker (R76), less what is in flight. -/
def State.wantDown (s : State) (c : Nat) : Nat :=
  if s.row2 c || !(s.chk c).started then 0
  else min (s.rd CHK_ALLOW_now c) (s.chk c).used - s.target c - (s.chk c).dnPend

/-- A choker that takes part in a tick: its number, its demand still open, its step limit still open, its unit cost. -/
structure Bid where
  c : Nat
  want : Nat
  step : Nat
  cost : Nat
  given : Nat := 0
deriving DecidableEq, Repr

/-- One pass of R75 over the bidders in pointer order. -/
def rampPass (credit : Nat) (last : Option Nat) (served : Bool) : List Bid → List Bid × Nat × Option Nat × Bool
  | [] => ([], credit, last, served)
  | b :: t =>
    if b.given < b.want ∧ b.given < b.step ∧ b.cost ≤ credit then
      let r := rampPass (credit - b.cost) (some b.c) true t
      ({ b with given := b.given + 1 } :: r.1, r.2)
    else
      let r := rampPass credit last served t
      (b :: r.1, r.2)

/-- Passes until none is served; a pass serves a bidder at most once and no step limit exceeds 64 (R72, R75). -/
def rampSpend : Nat → List Bid → Nat → Option Nat → List Bid × Nat × Option Nat
  | 0, bs, credit, last => (bs, credit, last)
  | n + 1, bs, credit, last =>
    let r := rampPass credit last false bs
    if r.2.2.2 then rampSpend n r.1 r.2.1 r.2.2.1 else (bs, credit, last)

/-- The tick credit of CHK_SLOPE (R75), in 1/5,120 A. -/
def State.tickCredit (s : State) : Nat := 128 * s.rd CHK_SLOPE_slope

/-- The cost of one allowance unit of a choker (R75). -/
def State.unitCost (s : State) (c : Nat) : Nat := 5 * s.rd CHK_IMAX_imax c

/-- The dearest unit (R75). -/
def State.maxCost (s : State) : Nat := (List.range 320).foldl (fun m c => max m (s.unitCost c)) 0

/-- The bidders of a pool in pointer order. -/
def State.bids (s : State) (ptr : Nat) (want : Nat → Nat) : List Bid :=
  (List.range 320).filterMap fun k =>
    let c := (ptr + k) % 320
    if want c = 0 then none else some { c := c, want := want c, step := s.stepLimit c, cost := s.unitCost c }

/-- The pool after refill (R75). -/
def State.refill (s : State) (credit : Nat) : Nat := min (credit + s.tickCredit) (max s.tickCredit s.maxCost)

/-- RAMP_TICK (R75, R76): every 25 ns, once, both pools are refilled and spent. -/
def rampTick (s : State) : State :=
  if s.ts % 20 = 0 ∧ s.ramp.tick ≠ some s.ts then
    let ub := s.bids s.ramp.upPtr s.wantUp
    let db := s.bids s.ramp.dnPtr s.wantDown
    let s := (s.wr CHK_RAMP_STAT_up_wait 0 ub.length).wr CHK_RAMP_STAT_dn_wait 0 db.length
    let u := rampSpend 65 ub (s.refill s.ramp.up) none
    let d := rampSpend 65 db (s.refill s.ramp.dn) none
    let nextPtr (old : Nat) (last : Option Nat) : Nat := match last with | some c => (c + 1) % 320 | none => old
    let s := { s with ramp := { s.ramp with up := u.2.1, dn := d.2.1, upPtr := nextPtr s.ramp.upPtr u.2.2,
                                            dnPtr := nextPtr s.ramp.dnPtr d.2.2, tick := some s.ts } }
    let s := u.1.foldl (fun s b =>
      let s := s.setChk b.c { s.chk b.c with upPend := (s.chk b.c).upPend + b.given }
      if b.given < min b.want b.step then s.count (cntChoker b.c 3) 1 else s) s
    d.1.foldl (fun s b => s.setChk b.c { s.chk b.c with dnPend := (s.chk b.c).dnPend + b.given }) s
  else s

/-! ### Droop (R32 to R37, R79 to R82) -/

/-- The detector outputs of a core: comparisons or force, none while the core's clock is stopped (R37). -/
def State.detOut (s : State) (core cmp : Nat) : Nat :=
  if (s.core core).reset then 0 else cmp ||| s.rd SNS_DRP_FORCE core

/-- Rising edges between two output words, bit by bit. -/
def risen (old new : Nat) (k : Nat) : Bool := bit new k && !bit old k

/-- The detection's effect on one engine choker (R79, R80): the rest of the window follows the droop value from cycle n + 4. -/
def State.cutChoker (s : State) (c n : Nat) : State :=
  if s.row1 || !s.pins.ready then s else
  let a := s.rd CHK_ALLOW_now c
  let dv := min (s.rd CHK_ALLOW_droop c) a
  let s := if (s.chk c).started then
      let cut := match (s.chk c).cut with | some x => some x | none => some (min 64 (n + 4), a)
      (s.setChk c { s.chk c with cut := cut }).wr CHK_ALLOW_now c dv
    else s
  s.wr CHK_ALLOW_in_droop c 1

/-- A detection of a core (R79 to R82) in cycle n of its window; low is the lowest asserted unmasked detector. -/
def State.detect (s : State) (core n low : Nat) : State :=
  let mac := chokerOf core 0
  let a := s.rd CHK_ALLOW_now mac
  let s := s.setDroop core { s.droop core with hold := true }
  let s := foldTo 4 s fun s e => s.cutChoker (chokerOf core e) n
  let s := (s.count (cntCore core 0) 1).count (cntDie 14) 1
  let s := s.emitLim 8 1 core msT [core, low, a, min (s.rd CHK_ALLOW_droop mac) a]
  s.dvfsOnDroop

/-- Take in a core's new comparison word: masked detections are counted, the OR moves, and its rising edge is a detection. -/
def State.newCmp (s : State) (core n oldOut cmp : Nat) : State :=
  let out := s.detOut core cmp
  let mask := s.rd SNS_DRP_MASK core
  let masked := (List.range 32).filter fun k => risen oldOut out k && bit mask k
  let s := s.count (cntCore core 1) masked.length
  let live := (List.range 32).filter fun k => bit out k && !bit mask k
  let was := (s.droop core).orOut
  let s := s.setDroop core { s.droop core with cmp := cmp, orOut := !live.isEmpty }
  let s := if live.isEmpty && was then s.setDroop core { s.droop core with quiet := 0, quietT := s.ts } else s
  if !live.isEmpty && !was then s.detect core n (live.headD 0) else s

/-- A detector's comparison (R33, R36): drop is how far, in 0.25 mV, its supply equivalent lies below the internal reference,
negative where it lies above. It asserts beyond code * 2 mV and negates above the threshold plus one step. Code 0 never fires. -/
def detNext (code : Nat) (drop : Int) (out : Bool) : Bool :=
  if code = 0 then false
  else if 8 * (code : Int) < drop then true
  else if out then decide (8 * (code : Int) - 8 ≤ drop) else false

/-- DROOP_DETECT (R32 to R37, R79 to R82): the core's detectors compare in cycle n of the window; drops lists the detectors whose
supply moved, with the drop below v_ref_int in 0.25 mV, a two's complement number. -/
def droopDetect (core : Fin 64) (n : Fin 64) (drops : List (Fin 32 × BitVec 12)) (s : State) : State :=
  if (s.core core).reset then s else
  let d := s.droop core
  let oldOut := s.detOut core d.cmp
  let cmp := drops.foldl (fun w p =>
    setBit w p.1.val (detNext (bits (s.rd SNS_DRP_THR (2048 * d.band + 32 * core.val + p.1.val)) 0 7) p.2.toInt (bit w p.1.val))) d.cmp
  s.newCmp core n oldOut cmp

/-- The core cycles that have passed since the OR negated, in 1/800 (R81). -/
def State.quietCycles (s : State) (core : Nat) : Nat := (s.droop core).quiet + s.coreMHz * (s.ts - (s.droop core).quietT)

/-- DROOP_HOLD_EXPIRE (R81): CHK_DRP_CFG.hold core cycles have passed with the OR negated. -/
def droopHoldExpire (core : Fin 64) (s : State) : State :=
  let d := s.droop core
  if d.hold && !d.orOut && decide (800 * s.rd CHK_DRP_CFG_hold ≤ s.quietCycles core) then
    let s := s.setDroop core { d with hold := false }
    if s.dieDroop then s else { s with dvfs := { s.dvfs with clearT := s.ts } }
  else s

/-- SNS_DRP_FORCE_WRITE (R37): the forced outputs assert or negate from the next core cycle, cycle n of the window. -/
def snsDrpForceWrite (core : Fin 64) (v : BitVec 32) (n : Fin 64) (s : State) : State :=
  if !s.unitAnswers 7 then s else
  let d := s.droop core
  let oldOut := s.detOut core d.cmp
  (s.wr SNS_DRP_FORCE core v.toNat).newCmp core n oldOut d.cmp

/-! ### The firebreak (R83 to R87) -/

/-- The allowance sum weighted by CHK_IMAX, in u32f8 A (R91). -/
def State.weightedAllow (s : State) : Nat :=
  roundNEN (sumTo 320 fun c => s.rd CHK_ALLOW_now c * s.rd CHK_IMAX_imax c) 4

/-- VR_ALERT_ASSERT (R83, R84): the firebreak, from the instant at which Quefa watches the wire (R418). -/
def vrAlertAssert (s : State) : State :=
  if !s.running then s else
  let s := s.wr CHK_FB_STAT_wire 0 1
  let s := s.wr CHK_FB_STAT_armed 0 0
  if s.fbInForce then s.wr CHK_FB_STAT_state 0 1
  else
    let sum := s.weightedAllow
    let s := { s with ramp := { s.ramp with assertT := s.ts }, sns := { s.sns with calPause := true } }
    let s := s.wr CHK_FB_STAT_state 0 1
    let s := s.bump CHK_FB_STAT_count
    (s.emit 8 2 [sum]).dvfsDescend

/-- VR_ALERT_NEGATE (R85): the hold-off starts. -/
def vrAlertNegate (s : State) : State :=
  if !s.running then s else
  let s := s.wr CHK_FB_STAT_wire 0 0
  if s.rd CHK_FB_STAT_state = 1 then
    ({ s.wr CHK_FB_STAT_state 0 2 with ramp := { s.ramp with negT := s.ts } }).emit 8 3 [s.rd CHK_FB_CTL_holdoff]
  else s

/-- The hold-off of R85 has passed since the negation. -/
def State.fbHeldOff (s : State) : Bool := decide (s.ramp.negT + s.rd CHK_FB_CTL_holdoff * usT ≤ s.ts)

/-- R86: the firebreak ends where the three conditions of R85 hold together. -/
def State.fbEnd (s : State) : State :=
  if 2 ≤ s.rd CHK_FB_STAT_state ∧ s.flag CHK_FB_STAT_armed ∧ s.fbHeldOff then
    let s := s.emit 8 4 [roundNEN (s.ts - s.ramp.assertT) usT, s.ramp.relTake]
    let s := (s.wr CHK_FB_STAT_state 0 0).wr CHK_FB_STAT_armed 0 0
    s.dvfsFree
  else s

/-- The hold-off is done (R85, R92): the firebreak ends, or awaits its release in state 3. -/
def State.fbHoldoffDone (s : State) : State :=
  if s.rd CHK_FB_STAT_state = 2 ∧ s.fbHeldOff then (s.wr CHK_FB_STAT_state 0 3).fbEnd else s

/-- A take may have changed CHK_FB_CTL.holdoff, which counts from the original negation (R87). -/
def State.fbHoldoffTaken (s : State) : State :=
  if s.rd CHK_FB_STAT_state = 3 ∧ !s.fbHeldOff then s.wr CHK_FB_STAT_state 0 2 else s.fbHoldoffDone

/-- A take sets CHK_FB_CTL.release (R85): it is judged when the hub cycle ends (R87). -/
def State.fbRelease (s : State) : State :=
  { s with ramp := { s.ramp with relAsk := some (s.rd SLT_TAKE_take) } }

/-- The end of a hub cycle whose take set CHK_FB_CTL.release: with the wire then negated and a firebreak in force it arms, else it
is ignored (R85, R87). -/
def State.fbJudge (s : State) : State :=
  match s.ramp.relAsk with
  | none => s
  | some t =>
    let inForce := decide (2 ≤ s.rd CHK_FB_STAT_state)
    let s := { s with ramp := { s.ramp with relAsk := none } }
    if inForce then
      ({ s.wr CHK_FB_STAT_armed 0 1 with ramp := { s.ramp with relTake := t } }).fbEnd
    else s.emit 8 5 [s.rd CHK_FB_STAT_state]

/-- FIREBREAK_HOLDOFF_EXPIRE (R85, R86). -/
def firebreakHoldoffExpire (s : State) : State := s.fbHoldoffDone

/-! ### The meanings -/

def execChokerWindow (c : Fin 320) (slots : List (BitVec 8 × Fin 65)) (unk : Fin 65) (bytes : BitVec 32) (s : State) : Ans :=
  hubOn (chokerWindow c slots unk bytes) s
def execRampTick (s : State) : Ans := hubOn rampTick s
def execDroopDetect (core n : Fin 64) (drops : List (Fin 32 × BitVec 12)) (s : State) : Ans :=
  hubOn (droopDetect core n drops) s
def execDroopHoldExpire (core : Fin 64) (s : State) : Ans := hubOn (droopHoldExpire core) s
def execSnsDrpForceWrite (core : Fin 64) (v : BitVec 32) (n : Fin 64) (s : State) : Ans :=
  hubOn (snsDrpForceWrite core v n) s
def execVrAlertAssert (s : State) : Ans := hubOn vrAlertAssert s
def execVrAlertNegate (s : State) : Ans := hubOn vrAlertNegate s
def execFirebreakHoldoffExpire (s : State) : Ans := hubOn firebreakHoldoffExpire s

end Sys2Proof.Machine
end

