-- ==== Sys2Proof/Machine/TraceOps.lean ====
section
/-!
DEFINITION. Machine/TraceOps.lean: groups of the trace and how they reach the writer (R489 to R499).
-/
namespace Sys2Proof.Machine

/-- A trace runs (R491, TRC_STAT.state). -/
def State.tracing (s : State) : Bool := decide (s.rd TRC_STAT_state = 1)

/-- Kind bit k of TRACE_CTL is in force: 1 forecasts, 2 telemetry, 3 samples. -/
def State.traceKind (s : State) (k : Nat) : Bool := s.tracing && bit (s.rd TRC_STAT_kinds) k

/-- A group's kinds for drop accounting (R497). -/
inductive GKind where
  | cmd | fcst | tlm | oth
deriving DecidableEq, Repr

/-- A header record (R493): type, further records, the middle bits [79:8] and the timestamp's low 48 bits. -/
def hdrRec (type n mid ts : Nat) : Nat := type + 16 * n + 256 * (mid % 2 ^ 72) + 2 ^ 80 * (ts % 2 ^ 48)

/-- The kind of a group by its header's type (R493). -/
def groupKind (g : List Nat) : GKind :=
  match bits (g.headD 0) 0 4 with
  | 1 => .cmd
  | 2 => .fcst
  | 3 => .tlm
  | _ => .oth

/-- A dropped group is counted and joins the next LOSS group (R492, R497). -/
def State.dropGroup (s : State) (g : List Nat) : State :=
  let k := groupKind g
  let d := s.trc.drops
  let d := { d with cmd := d.cmd + b2n (k == .cmd), fcst := d.fcst + b2n (k == .fcst), tlm := d.tlm + b2n (k == .tlm),
                    oth := d.oth + b2n (k == .oth), ts := if d.any then d.ts else s.ts, any := true }
  let t := s.trc
  let t := { t with drops := d, lossCmdMs := t.lossCmdMs + b2n (k == .cmd), lossOthMs := t.lossOthMs + b2n (k != .cmd) }
  let s := { s with trc := t }
  match k with
  | .cmd => s.bump TRC_DROP_cmd
  | .fcst => s.bump TRC_DROP_fcst
  | _ => s.bump TRC_DROP_other

/-- Records staged at the hub (R492). -/
def State.stagedRecs (s : State) : Nat := sumN (s.trc.staged.map List.length)

/-- Queue a group at the hub's staging queue of 256 records, or drop it whole (R492). -/
def State.stageGroup (s : State) (g : List Nat) : State :=
  if s.stagedRecs + g.length ≤ 256 then { s with trc := { s.trc with staged := s.trc.staged ++ [g] } } else s.dropGroup g

/-- CMD groups queued in the lanes move to the staging queue while it has room. -/
def State.drainLanes (s : State) : State :=
  s.trc.cmdQ.foldl
    (fun s q => q.2.foldl
      (fun s g =>
        if s.stagedRecs + 1 ≤ 256 then
          { s with trc := { s.trc with staged := s.trc.staged ++ [g],
                                       cmdQ := mput s.trc.cmdQ q.1 ((mget s.trc.cmdQ q.1 []).drop 1) } }
        else s) s) s

/-- A CMD group of a strobe (R495): an engine lane holds four; a group that finds them full is dropped whole (R492). -/
def State.traceCmd (s : State) (c : Nat) (isEnd stepped unknown : Bool) (seq rec : Nat) : State :=
  if s.tracing && bit s.trc.mask c then
    let f (lo w : Nat) := if unknown then 0 else bits rec lo w
    let mid := b2n isEnd + 2 * b2n stepped + 4 * c + 2 ^ 10 * seq + 2 ^ 18 * f 24 9 + 2 ^ 27 * f 36 12 + 2 ^ 39 * f 48 16
      + 2 ^ 55 * f 64 16 + 2 ^ 71 * b2n unknown
    let g := [hdrRec 1 0 mid s.ts]
    let q := mget s.trc.cmdQ c []
    if q.length < 4 then { s with trc := { s.trc with cmdQ := mput s.trc.cmdQ c (q ++ [g]) } }.drainLanes else s.dropGroup g
  else s

/-- Sixteen bytes of a record (R493). -/
def recBytes (r : Nat) : List Byte := leBytes 16 r

end Sys2Proof.Machine
end

