-- ==== Sys2Proof/Machine/ForecastOps.lean ====
section
/-!
DEFINITION. Machine/ForecastOps.lean: snapshots, features, evaluation, resolution and the die forecast (R101 to R123).
-/
namespace Sys2Proof.Machine

def State.fc (s : State) (core : Nat) : CoreFc := mget s.fcs.cores core { }
def State.setFc (s : State) (core : Nat) (x : CoreFc) : State := { s with fcs := { s.fcs with cores := mput s.fcs.cores core x } }

/-! ### The forecast in force (R107, R114, R122) -/

/-- f_c(t), in u16f5 A. After fallback istat stays until a forecast replaces it (R123). DESIGN CHOICE (log entry 164): a core in
fallback has istat with fc_en = 0 too. -/
def State.fcAt (s : State) (core t : Nat) : Nat :=
  let f := s.fc core
  if !s.clocked 12 then 0
  else if s.flag FCS_CORE_fallback core then s.rd FCS_CORE_istat core
  else if !s.flag FCS_CTL_fc_en then 0
  else if f.stat then s.rd FCS_CORE_istat core
  else
    if f.applied then f.y.getD (min 31 ((t - f.appSnap) / 20)) 0 else 0

/-- F(t), in u32f8 A. -/
def State.dieFc (s : State) (t : Nat) : Nat := sumTo 64 fun c => 8 * s.fcAt c t

/-- FF before its clamp (R114). -/
def State.ffRaw (s : State) : Nat := roundNEN (s.rd FCS_FF_gain * s.dieFc (s.ts + 20 * s.rd FCS_FF_lead)) 128

/-- FF at this hub cycle, in u32f8 A (R114). -/
def State.ffNow (s : State) : Nat := if s.flag FCS_CTL_ff_en then min (s.rd FCS_FF_IMAX_imax) s.ffRaw else 0

/-- FF of this hub cycle, whether its clamp acts, and the peak of F (R114, R129). -/
def State.formFF (s : State) : State :=
  let hit := s.flag FCS_CTL_ff_en && decide (s.rd FCS_FF_IMAX_imax < s.ffRaw)
  { s with fcs := { s.fcs with ff := s.ffNow, ffHit := s.fcs.ffHit || hit, ffPeak := max s.fcs.ffPeak (s.dieFc s.ts) } }

/-- EV_FCS_FF_CLAMP of the millisecond that ends, and EV_FCS_RESOLVE_OVF of each core with drops in it (R129). -/
def State.fcsEvents (s : State) : State :=
  let s := if s.fcs.ffHit then s.emitLim 12 3 0 msT [min s.fcs.ffPeak (2 ^ 32 - 1)] else s
  let s := foldTo 64 s fun s c =>
    if (s.fc c).ovf = 0 then s else (s.emitLim 12 4 c msT [c, (s.fc c).ovf]).setFc c { s.fc c with ovf := 0 }
  { s with fcs := { s.fcs with ffHit := false, ffPeak := 0 } }

/-- FCS_DIE_FC: F over the 25 ns grid interval k from the one in progress (R130). -/
def State.dieFcReg (s : State) (k : Nat) : Nat := s.dieFc ((s.ts / 20 + k) * 20)

/-! ### Features (R104) -/

/-- Outstanding commands of a lane in dispatch order. -/
def outst (l : Lane) : List Cmd := l.cmds.filter fun m => !m.ended

/-- Outstanding commands that have not begun, oldest first. -/
def waitingCmds (l : Lane) : List Cmd := (outst l).filter fun m => !m.begun

/-- The hottest of the three nodes of a core, binary32 (R205): t_model(c). -/
def State.tModel (s : State) (core : Nat) : Nat :=
  max32 (max32 (s.rd THM_X_x (4 * core)) (s.rd THM_X_x (4 * core + 1))) (s.rd THM_X_x (4 * core + 2))

/-- floor(log2) of the loop product, 0 for 0 or 1. -/
def loopLog (rec : Nat) : Nat :=
  let p := bits rec 80 16 * bits rec 96 16 * bits rec 112 16
  if p ≤ 1 then 0 else Nat.log2 p

/-- The four elements of a command, or −1 where there is none. -/
def cmdFeat : Option Cmd → List Int
  | none => [-1, -1, -1, -1]
  | some m => [(bits m.word 2 4 : Int), bits m.word 6 4, loopLog m.word, b2n (bit m.word 10) + 2 * b2n m.spec]

/-- The twelve elements of an engine. -/
def State.engFeat (s : State) (core e : Nat) : List Int :=
  let c := chokerOf core e
  let l := s.lane c
  let o := outst l
  let w := waitingCmds l
  [(min 127 o.length : Int), min 127 (o.filter (·.begun)).length] ++ cmdFeat w[0]? ++ cmdFeat w[1]? ++
    [((s.chk c).used : Int), (s.chk c).lastAllow]

/-- Recent strobes: how many instants lie within the last n units. -/
def recent (s : State) (ts : List Nat) (n : Nat) : Int := min 127 ((ts.filter fun t => s.ts < t + n).length : Int)

/-- The feature vector of a core. DESIGN CHOICE (log entry 165): element 60 reads 127 before the core's first DISPATCH record. -/
def State.features (s : State) (core : Nat) : List Int :=
  let f := s.fc core
  let eng (p : Nat → Bool) : Int := ((List.range 4).filter fun e => p (chokerOf core e)).length
  s.engFeat core 0 ++ s.engFeat core 1 ++ s.engFeat core 2 ++ s.engFeat core 3 ++
  [ (if s.isD then (s.rd CLK_DVFS_STAT_point : Int) else 7),
    s.rd THM_STAT_band,
    clampI (-128) 127 (f32ToInt (s.tModel core)),
    clampI 0 127 (roundNE ((s.rd VRC_VREF_vref : Int) - 2400) 16),
    clampI 0 127 (roundNE ((mget s.sns.eCore core 0 : Nat) : Int) 1000000),
    b2n (s.droop core).hold,
    eng fun c => s.tly.objs.any fun o => decide (o.2.state = 1) && decide (o.2.engine = c),
    eng s.holdsRecalled,
    recent s f.dispT 80, recent s f.beginT 80, recent s f.endT 80, recent s f.sqT 800,
    (match f.lastDisp with | some t => min 127 (((s.ts - t) / 20 : Nat) : Int) | none => 127),
    0, 0, 0 ]

/-! ### Evaluation (R105) -/

def imgU (img : List Byte) (off n : Nat) : Nat := fieldAt img off n
def imgS8 (img : List Byte) (off : Nat) : Int := sgn 8 (imgU img off 1)

/-- Mode 0: one unit, its accumulator saturated to int32 (R98), requantised. -/
def evalI8 (ws : List Int) (xs : List Int) (b : Int) (m sh : Nat) (hi : Int) : Int :=
  let acc := clampI (-(2 ^ 31)) (2 ^ 31 - 1) (b + (List.zipWith (· * ·) ws xs).sum)
  clampI 0 hi (roundNE (acc * m) (2 ^ sh))

/-- Mode 1: one unit in F8, before its conversion to an integer. -/
def evalF8 (ws : List Nat) (xs : List Nat) (b sc : Nat) : Nat := mul32 (add32 b (dot32 ws xs)) sc

/-- The binary32 results of the two layers of a mode 1 model (R105, R109). -/
def evalLayers (img : List Byte) (x : List Int) : List Nat × List Nat :=
  let xf := x.map fun v => f32Of v 0
  let h := (List.range 128).map fun i =>
    evalF8 ((List.range 64).map fun j => e4m3To32 (imgU img (64 + 64 * i + j) 1)) xf (imgU img (12352 + 4 * i) 4) (imgU img 16 4)
  let hf := h.map fun v => f32Of (clampI 0 127 (f32ToInt v)) 0
  (h, (List.range 32).map fun o =>
    evalF8 ((List.range 128).map fun i => e4m3To32 (imgU img (8256 + 128 * o + i) 1)) hf (imgU img (12864 + 4 * o) 4) (imgU img 20 4))

/-- The binary32 results that a forecast writes: none in mode 0. -/
def evalResults (img : List Byte) (x : List Int) : List Nat :=
  if imgU img 5 1 = 0 then [] else (evalLayers img x).1 ++ (evalLayers img x).2

/-- A forecast's 32 outputs from an image and the features (R105, R109). -/
def evalModel (img : List Byte) (x : List Int) : List Nat :=
  if imgU img 5 1 = 0 then
    let h := (List.range 128).map fun i =>
      evalI8 ((List.range 64).map fun j => imgS8 img (64 + 64 * i + j)) x (sgn 32 (imgU img (12352 + 4 * i) 4))
        (imgU img 12 2) (imgU img 9 1) 127
    (List.range 32).map fun o =>
      (evalI8 ((List.range 128).map fun i => imgS8 img (8256 + 128 * o + i)) h (sgn 32 (imgU img (12864 + 4 * o) 4))
        (imgU img 14 2) (imgU img 10 1) 65535).toNat
  else (evalLayers img x).2.map fun v => (clampI 0 65535 (f32ToInt v)).toNat

/-! ### Snapshots (R101 to R103, R107, R118, R120) -/

/-- The tenant of R103. -/
def State.fcTenant (s : State) (core : Nat) : Option Nat :=
  match (List.range 4).findSome? fun e => ((outst (s.lane (chokerOf core e))).head?).map fun m => bits m.word 24 9 with
  | some t => some t
  | none => (s.fc core).lastTenant

/-- The speculative commands a snapshot describes (R118). -/
def State.specWait (s : State) (core : Nat) : List (Nat × Nat) :=
  (List.range 4).flatMap fun e =>
    (((waitingCmds (s.lane (chokerOf core e))).take 2).filter (·.spec)).map fun m => (e, bits m.word 16 8)

/-- Jobs queued to a slice. -/
def State.sliceLoad (s : State) (b : Nat) : Nat := (s.fcs.queue.filter fun j => j.slice = b).length

/-- The slice with the fewest forecasts queued, the lowest on a tie (R101). -/
def State.pickSlice (s : State) : Nat :=
  ((List.range 8).foldl (fun (b : Nat × Nat) k => let n := s.sliceLoad k; if n < b.2 then (k, n) else b) (0, s.sliceLoad 0)).1

/-- An FCST group is written when a right-path forecast resolves (R496). -/
def State.traceFc (s : State) (core : Nat) (u : Unres) : State :=
  if s.traceKind 1 then
    let mid := core + 2 ^ 6 * u.slot + 2 ^ 12 * (u.tenant.getD 0) + 2 ^ 21 * b2n u.tenant.isNone + 2 ^ 22 * u.ident
    let recs := (List.range 4).map fun r => (List.range 8).foldl (fun a k => a + 2 ^ (16 * k) * u.y.getD (8 * r + k) 0) 0
    s.stageGroup (hdrRec 2 4 mid u.snap :: recs)
  else s

/-- A right-path forecast is counted (R119). -/
def State.countRight (s : State) (core : Nat) (u : Unres) : State :=
  let s := s.bump FCS_NFC_count core
  match u.tenant with
  | some t => s.count (cntTenant t 15) 1
  | none => s

/-- Unresolved entries: those that still wait for a speculative command. -/
def pendingUnres (us : List Unres) : Nat := (us.filter fun u => !u.wait.isEmpty).length

/-- A 17th unresolved forecast drops the oldest from resolution; the millisecond's end reports the drops (R120, R129). -/
def State.limitUnres (s : State) (core : Nat) : State :=
  let f := s.fc core
  if 16 < pendingUnres f.unres then
    match f.unres.find? fun u => !u.wait.isEmpty with
    | some old =>
      let s := s.setFc core { f with unres := f.unres.filter fun u => u.snap ≠ old.snap, ovf := f.ovf + 1 }
      s.bump FCS_DISCARD_unres core
    | none => s
  else s

/-- A slot's image as slice b reads it from its own bank: what a master has written there since the load stands over it (R95, R421). -/
def State.sliceImage (s : State) (b slot : Nat) : List Byte :=
  (s.hub.wrote.filter fun e => slotWord b slot e.1).foldl (fun img e =>
    let o := (8 * e.1) % 0x4000
    if o + 8 ≤ img.length then img.take o ++ s.readBank b (8 * e.1 % 2 ^ 20) 8 ++ img.drop (o + 8) else img) (mget s.fcs.models slot [])

/-- Take a snapshot of a core (R102 to R104, R118); one that reads a slot that is not FIT is neither counted nor traced (R108). -/
def State.snapshot (s : State) (core : Nat) : State :=
  let tenant := s.fcTenant core
  let slot := match tenant with | some t => bits (s.rd FCS_TMAP t) 0 6 | none => 0
  let fit := decide (s.rd FCS_SLOT_state slot = 2)
  let job : FcJob := { core := core, snap := s.ts, slot := slot, slice := s.pickSlice, fit := fit,
                       image := s.sliceImage s.pickSlice slot, x := s.features core }
  let u : Unres := { snap := s.ts, slot := slot, tenant := tenant, ident := s.rd FCS_SLOT_ID_ident slot, wait := s.specWait core }
  let f := s.fc core
  let s := s.setFc core { f with everSnap := true, lastSnap := s.ts, prompt := false, atOnce := false,
                                 unres := if fit then f.unres ++ [u] else f.unres }
  let s := { s with fcs := { s.fcs with queue := s.fcs.queue ++ [job], passes := s.fcs.passes + 2,
                                        deepQ := max s.fcs.deepQ (s.sliceLoad job.slice + 1) } }
  let s := if fit && u.wait.isEmpty then s.countRight core u else s
  s.limitUnres core

/-- At least gap units have passed since the core's previous snapshot (R102). -/
def State.gapPassed (s : State) (core : Nat) : Bool :=
  !(s.fc core).everSnap || decide ((s.fc core).lastSnap + s.rd FCS_PROMPT_gap ≤ s.ts)

/-- Snapshots may be taken for a core (R107, R122, R393). -/
def State.mayForecast (s : State) (core : Nat) : Bool :=
  s.clocked 12 && s.flag FCS_CTL_fc_en && !(s.core core).reset && !s.flag FCS_CORE_fallback core

/-! ### Resolution (R118, R119) -/

/-- A speculative command of a core has begun or been squashed. -/
def State.resolveCmd (s : State) (core e seq : Nat) (squashed : Bool) : State :=
  let f := s.fc core
  let touched := f.unres.map fun u =>
    if (e, seq) ∈ u.wait then
      ({ u with wait := u.wait.filter (· ≠ (e, seq)), wrong := u.wrong || squashed }, decide ((u.wait.filter (· ≠ (e, seq))) = []))
    else (u, false)
  let s := s.setFc core { f with unres := (touched.filter fun p => !(p.2 && (p.1.wrong || p.1.arrived))).map (·.1) }
  touched.foldl (fun s p =>
    if p.2 then
      if p.1.wrong then s.bump FCS_DISCARD_wrong core
      else
        let s := s.countRight core p.1
        if p.1.arrived then s.traceFc core p.1 else s
    else s) s

/-- A forecast's output arrives for its unresolved entry. -/
def State.outputArrived (s : State) (core snap : Nat) (y : List Nat) : State :=
  let f := s.fc core
  match f.unres.find? fun u => u.snap = snap with
  | none => s
  | some u =>
    if u.wait.isEmpty then
      let s := s.setFc core { f with unres := f.unres.filter fun v => v.snap ≠ snap }
      s.traceFc core { u with y := y, arrived := true }
    else
      s.setFc core { f with unres := f.unres.map fun v => if v.snap = snap then { v with y := y, arrived := true } else v }

/-! ### Fallback (R121 to R123) -/

/-- The causes of fallback moved from (ln0, fs0) to those now in force: enter or leave fallback and write EV_FCS_FALLBACK. On leaving,
outputs of earlier snapshots are not applied (R128), istat stays until a forecast replaces it, and a snapshot is due at once (R123). -/
def State.moveFallback (s : State) (core : Nat) (ln0 fs0 : Bool) : State :=
  let ln := s.flag FCS_CORE_ln core
  let fs := s.flag FCS_CORE_force_static core
  if (ln || fs) == (ln0 || fs0) then s
  else
    let s := s.wr FCS_CORE_fallback core (b2n (ln || fs))
    let s := s.emit 12 2 [core, b2n (ln || fs), b2n (ln != ln0) + 2 * b2n (fs != fs0)]
    let s := s.refreshChokers ((List.range 4).map (chokerOf core))
    if ln || fs then (s.setFc core { s.fc core with prompt := false }).formFF
    else
      let s := (s.setFc core { s.fc core with applied := true, appSnap := s.ts, y := [], stat := true, atOnce := true }).formFF
      if s.mayForecast core && s.gapPassed core then s.snapshot core else s

end Sys2Proof.Machine
end

