-- ==== Sys2Proof/Machine/PairOps.lean ====
section
/-!
DEFINITION. Machine/PairOps.lean: sending on the pair bridge (R366 to R368), the records of a MIRROR (R367), and a full checkpoint
(R370, R374).
-/
namespace Sys2Proof.Machine

def State.setPar (s : State) (p : Par) : State := { s with par := p }

/-- Role and state of the pair (R364). -/
def State.pRole (s : State) : Nat := s.rd PAR_STAT_role
def State.pState (s : State) : Nat := s.rd PAR_STAT_state

/-- This instance mirrors to a secondary (R370): while PAIRED, and in SYNC from the checkpoint on. -/
def State.mirroring (s : State) : Bool :=
  s.isD && decide (s.pRole = 1) && (decide (s.pState = 2) || (decide (s.pState = 1) && s.par.ckptEnd.isSome))

/-- The instance holds the package roles; not before the first SYNC has ended (R2, R364). -/
def State.holdsRoles (s : State) : Bool := !s.isD || (s.par.paired && decide (s.pRole = 1))

/-- A valid message has arrived within PAR_CFG.loss (R366). -/
def State.rxOk (s : State) : Bool := !s.par.lost && decide (s.ts < s.par.lastRx + s.rd PAR_CFG_loss * usT)

/-- A message's bytes (R366). -/
def State.bridgeBytes (s : State) (kind seq : Nat) (body : List Byte) : List Byte :=
  let flags := b2n s.rxOk + 2 * s.pRole + 8 * s.pState
  let hdr := leBytes 1 kind ++ leBytes 1 flags ++ leBytes 2 seq ++ leBytes 2 s.par.rx ++ leBytes 2 (s.rd PAR_STAT_term)
    ++ leBytes 1 (body.length / 8) ++ leBytes 1 (s.rd GEN_CFG_die) ++ leBytes 2 0
  hdr ++ body ++ leBytes 4 (crcBytes (hdr ++ body))

/-- A body padded to whole units of 8 bytes. -/
def pad8 (b : List Byte) : List Byte := b ++ List.replicate ((8 - b.length % 8) % 8) 0

/-- Send a message; it is held until it is acknowledged, and waits while 64 are unacknowledged (R368). -/
def State.bridgeSend (s : State) (kind : Nat) (body : List Byte) : State :=
  let p := s.par
  let body := pad8 body
  let go := decide (p.unack.length < 64)
  let s := if go then s.send (.bridge (s.bridgeBytes kind p.tx body)) else s
  s.setPar { p with tx := (p.tx + 1) % 65536, lastTx := s.ts,
                    unack := p.unack ++ [{ seq := p.tx, kind := kind, body := body, sent := s.ts, out := go }] }

/-- One MIRROR record (R367). -/
def mirrorRec (obj idx : Nat) (data : List Byte) : List Byte :=
  leBytes 2 obj ++ leBytes 4 idx ++ leBytes 2 data.length ++ pad8 data

/-- Mirror a change of a package role (R370). -/
def State.mirror (s : State) (obj idx : Nat) (data : List Byte) : State :=
  if s.mirroring then
    let q := s.par.tx
    let s := s.bridgeSend 0x04 (mirrorRec obj idx data)
    s.setPar { s.par with mir := some q }
  else s

/-! ### The objects' data -/

/-- Numbers as 8 bytes each. -/
def words8 (l : List Nat) : List Byte := l.flatMap (leBytes 8)

/-- Object 0x01: a ring's indices. -/
def Ring.idxBytes (x : Ring) : List Byte := leBytes 4 x.prod ++ leBytes 4 x.fetch ++ leBytes 4 x.cqTail ++ leBytes 4 x.cqHead

/-- The steward ring's registers as a ring entry (R294, R317). -/
def State.stewardEntry (s : State) : Nat :=
  s.rd HIF_SDESC_base + s.rd HIF_SCPL_base * 2 ^ 64 + s.rd HIF_SNOTIFY_addr * 2 ^ 128 + s.rd HIF_SCTL_size * 2 ^ 192
    + s.rd HIF_SCTL_en * 2 ^ 200

/-- Object 0x08: a ring's entry, its agreement and its state. -/
def State.ringEntryBytes (s : State) (r : Nat) : List Byte :=
  let x := mget s.hif.rings r { }
  let e := if r = 512 then s.stewardEntry else mget s.hif.trings r 0
  leBytes 64 e ++ leBytes 1 x.ver ++ leBytes 1 (b2n x.agreed) ++ leBytes 1 x.st ++ leBytes 5 0 ++ leBytes 8 x.feat

/-- Object 0x02: a descriptor's header with its index. -/
def hdrBytes (idx w : Nat) : List Byte := leBytes 4 idx ++ leBytes 4 0 ++ leBytes 8 (w % 2 ^ 64)

/-- Object 0x03: a completion with its descriptor's index. -/
def HeldCpl.image (h : HeldCpl) : List Byte := leBytes 4 h.tag ++ leBytes 2 h.status ++ leBytes 1 h.op ++ leBytes 1 0 ++ h.res

/-- Object 0x05. -/
def Job.bytes (j : Job) : List Byte := words8 [j.state, j.gen, j.acct, j.tenant, j.b0, j.v0, j.b1, b2n j.gap]

/-- The settings of object 0x07: who takes part, as whom, and the domain's budgets (R377). -/
def mgtFlds : List Fld :=
  [MGT_CTL_en, MGT_IDENT_domain, MGT_IDENT_member, MGT_COORD_c0, MGT_COORD_c1, MGT_TIM_cut, MGT_TIM_ackw, MGT_TIM_hb_miss, MGT_TIM_orphan,
   MGT_TIM2_dem, MGT_TIM2_gone, MGT_DEM_head, MGT_DEM_weight, MGT_FLOOR_floor, MGT_ADD_add, MGT_SAFE_safe, MGT_DECAY_rate, MGT_DOM_BUD_bud,
   MGT_DOM_NEXT_next, MGT_DOM_AT]

/-- Object 0x07, index 4097: which members the steward allows, a bit each. -/
def State.mgtAllow (s : State) : List Byte :=
  leBytes 512 (sumTo 4096 fun i => s.rd MGT_MEMB i % 2 * 2 ^ i)

/-- Object 0x07, index 0: registers, grant slots and the coordinator's own counts. -/
def State.mgtBytes (s : State) : List Byte :=
  let m := s.mgt
  words8 ([s.rd MGT_STAT_state, s.rd MGT_STAT_role, s.rd MGT_STAT_bound, s.rd MGT_STAT_ready, s.rd MGT_STAT_missed,
    s.rd MGT_STAT_term, s.rd MGT_BUD_bud, s.rd MGT_EPOCH, (m.ofs % 2 ^ 64).toNat, (m.rate % 2 ^ 32).toNat, m.tc, m.tx,
    b2n m.started, m.safe, m.rateD, m.reqSafe, m.reqRate, m.hbE, m.alloc, m.sentG, b2n m.sole, m.cT, m.tim, m.tim2,
    (match m.join with | some j => j.1 + 1 | none => 0), (match m.join with | some j => j.2 | none => 0)]
    ++ (mgtFlds.map fun f => s.rd f) ++ m.slots.flatMap fun e => [e.1, e.2])

/-- Object 0x07, index 1 + member: a coordinator's record. -/
def MgtMem.bytes (x : MgtMem) : List Byte :=
  words8 [b2n x.joined, x.w, x.safe, x.rate, b2n x.fresh, x.heard, b2n x.silent,
    (match x.join with | some j => j.1 + 1 | none => 0), (match x.join with | some j => j.2.1 | none => 0),
    (match x.join with | some j => j.2.2.1 | none => 0), (match x.join with | some j => j.2.2.2 | none => 0)]

/-- Object 0x09: a slate's state, or one staged unit of it. -/
def slateStateBytes (x : Slate) : List Byte := leBytes 1 0 ++ leBytes 1 x.state ++ leBytes 2 x.gen
def slateItemBytes (table idx n v : Nat) : List Byte := leBytes 1 1 ++ leBytes 1 table ++ leBytes 4 idx ++ leBytes n v

/-- A staged key's index with its die select (R320). -/
def selIdx (key : Nat) : Nat := key / 4 + 2 ^ 20 * (key % 4)

def Slate.recs (x : Slate) (k : Nat) : List (List Byte) :=
  [mirrorRec 0x09 k (slateStateBytes x)]
  ++ (x.regs.map fun e => mirrorRec 0x09 k (slateItemBytes 1 (selIdx e.1) 4 e.2))
  ++ (x.ctxs.map fun e => mirrorRec 0x09 k (slateItemBytes 2 (selIdx e.1) 64 e.2))
  ++ (x.rings.map fun e => mirrorRec 0x09 k (slateItemBytes 6 e.1 64 e.2))

/-! ### A full checkpoint (R370) -/

/-- Every mirrored object that is not as after reset. -/
def State.ckptRecs (s : State) : List (List Byte) :=
  (s.hif.rings.flatMap fun e => [mirrorRec 0x01 e.1 e.2.idxBytes, mirrorRec 0x08 e.1 (s.ringEntryBytes e.1)])
  ++ (s.par.hdrs.map fun e => mirrorRec 0x02 (e.1 / 2 ^ 32) (hdrBytes (e.1 % 2 ^ 32) e.2))
  ++ (s.par.held.map fun h => mirrorRec 0x03 h.ring (leBytes 4 h.idx ++ h.image))
  ++ (s.acc.tenants.map fun e => mirrorRec 0x04 e.1 (leBytes 8 e.2))
  ++ (s.acc.queues.map fun e => mirrorRec 0x04 (512 + e.1) (leBytes 8 e.2))
  ++ (s.acc.jobs.map fun e => mirrorRec 0x05 e.1 e.2.bytes)
  ++ ((List.range 512).flatMap fun t => [mirrorRec 0x06 t (leBytes 4 (s.rd ACT_TCAP t)), mirrorRec 0x06 (512 + t) (leBytes 4 (s.rd ACT_TSET t))])
  ++ [mirrorRec 0x06 1024 (leBytes 4 (s.rd ACT_PKG_BUD)), mirrorRec 0x06 1025 (leBytes 4 (s.rd ACT_PKG_CAP_cap)), mirrorRec 0x07 0 s.mgtBytes, mirrorRec 0x07 4097 s.mgtAllow]
  ++ (s.mgt.mem.map fun e => mirrorRec 0x07 (1 + e.1) e.2.bytes)
  ++ (s.slt.slates.flatMap fun e => e.2.recs e.1)

/-- Records put into parts of at most n bytes. -/
def packRecs (n : Nat) : List (List Byte) → List Byte → List (List Byte)
  | [], cur => [cur]
  | r :: t, cur => if cur.length + r.length ≤ n then packRecs n t (cur ++ r) else cur :: packRecs n t r

/-- Send a full checkpoint. Parts count down, so that part 0 is the last. -/
def State.sendCkpt (s : State) : State :=
  let parts := packRecs 2024 s.ckptRecs []
  let n := parts.length
  let s := (parts.zip (List.range n)).foldl (fun s p => s.bridgeSend 0x03 (leBytes 2 (n - 1 - p.2) ++ leBytes 6 0 ++ p.1)) s
  s.setPar { s.par with ckptT := s.ts }

/-- How many parts a checkpoint sent now would have. -/
def State.ckptParts (s : State) : Nat := (packRecs 2024 s.ckptRecs []).length

/-! ### The role moves away (R371, R374) -/

/-- What a former primary held of its rings: the new one answers for it (R375). -/
def State.dropRole (s : State) : State :=
  let s := s.setPar { s.par with held := [], lane := [], hdrs := [], mir := none, waits := [] }
  { s with hif := { s.hif with units := [] } }

/-- A primary hands its roles over: HANDOVER, a final checkpoint, and it is SECONDARY (R374). -/
def State.handover (s : State) (cause : Nat) : State :=
  if !s.mirroring ∨ s.pState ≠ 2 then s else
  let s := (s.bridgeSend 0x14 (leBytes 1 cause)).sendCkpt
  (s.wr PAR_STAT_role 0 2).dropRole

/-- The die budget of Glatos D, source 0x23 (R271, R274, R372, R373). -/
def State.dieBudget (s : State) : Nat :=
  let b := s.rd ACT_PKG_BUD
  if s.pState = 2 then (if s.pRole = 2 then s.rd PAR_DIEBUD_bud else b)
  else if s.pState = 4 then b
  else if s.pRole = 2 ∨ s.pRole = 3 then s.par.p / 2
  else b / 2

end Sys2Proof.Machine
end

