-- ==== Sys2Proof/Machine/Publish.lean ====
section
/-!
DEFINITION. Machine/Publish.lean: what producers hand to the loop engine (R177, R180): source values and seed stamps of set points.
-/
namespace Sys2Proof.Machine

/-- The key of a source. -/
def srcK (code idx : Nat) : Nat := code * 4096 + idx

/-- A producer publishes a source at this instant; a NaN or an infinity is invalid (R177). -/
def State.publish (s : State) (code idx val : Nat) (valid : Bool) : State :=
  { s with lpe := { s.lpe with src := mput s.lpe.src (srcK code idx) { val := val, valid := valid && f32Finite val, ts := s.ts, ever := true } } }

/-- The value of a source as last published. -/
def State.srcAt (s : State) (code idx : Nat) : Src := mget s.lpe.src (srcK code idx) { }

/-- A set-point source changes: every context with it is seeded at its next evaluation (R180). -/
def State.seedSp (s : State) (code idx : Nat) : State :=
  let k := srcK code idx
  { s with lpe := { s.lpe with seeds := mput s.lpe.seeds k (mget s.lpe.seeds k 0 + 1) } }

end Sys2Proof.Machine
end

