-- ==== Sys2Proof/Machine/Telemetry.lean ====
section
/-!
DEFINITION. Machine/Telemetry.lean: phase telemetry (R38 to R52, R155, R226, R499) and the phases' quality.
-/
namespace Sys2Proof.Machine

/-! ### The frame (R39 to R41) -/

/-- Bits of a frame from UI u on, n of them, the first the most significant. UI 0 is the operand's top bit. -/
def ui (f : Nat) (u n : Nat) : Nat := bits f (1000 - u - n) n

/-- The scrambler's output over n UI from UI 32: each bit is the sum of the bits 14 and 15 UI before it, all ones at
the start (R40). The newest bit stands first. -/
def scrambleRun : Nat → List Bool
  | 0 => []
  | n + 1 =>
    let t := scrambleRun n
    (if n < 15 then true else xor (t.getD 13 false) (t.getD 14 false)) :: t

/-- A number from bits, the last of the list the most significant. -/
def bitsNat : List Bool → Nat
  | [] => 0
  | b :: t => b2n b + 2 * bitsNat t

/-- The 936 scrambled UI 32 to 967 as a mask over the frame. -/
def scrambleMask : Nat := bitsNat (scrambleRun 936) * 2 ^ 32

/-- The frame with UI 32 to 967 unscrambled. -/
def unscramble (f : Nat) : Nat := f ^^^ scrambleMask

/-- The sync word of R39. -/
def tlmSync : Nat := 0xF6283A5D

/-- How many bits of the received sync word are wrong. -/
def syncErrors (f : Nat) : Nat := (List.range 32).foldl (fun n k => n + b2n (bit (ui f 0 32 ^^^ tlmSync) k)) 0

/-- The CRC over UI 32 to 935 of an unscrambled frame matches its field. -/
def frameCrcOk (f : Nat) : Bool := crcBits ((List.range 904).map fun k => decide (ui f (32 + k) 1 = 1)) = ui f 936 32

def frSeq (f : Nat) : Nat := ui f 32 16
def frLane (f : Nat) : Nat := ui f 48 5
def frVer (f : Nat) : Nat := ui f 53 3
def frStatus (f slot : Nat) : Nat := ui f (56 + 4 * slot) 4
def frTslot (f : Nat) : Nat := ui f 88 3
def frTemp (f : Nat) : Nat := ui f 92 12
def frRsv (f : Nat) : Bool := decide (ui f 91 1 ≠ 0) || decide (ui f 104 64 ≠ 0)
def frCur (f k slot : Nat) : Nat := ui f (168 + 96 * k + 12 * slot) 12

/-! ### Phases and their quality (R47 to R50) -/

def State.tlane (s : State) (l : Nat) : TlmLane := mget s.sns.lanes l { }
def State.setTlane (s : State) (l : Nat) (x : TlmLane) : State := { s with sns := { s.sns with lanes := mput s.sns.lanes l x } }
def State.ph (s : State) (p : Nat) : PhTlm := mget s.sns.phases p { }
def State.setPh (s : State) (p : Nat) (x : PhTlm) : State := { s with sns := { s.sns with phases := mput s.sns.phases p x } }
def State.vph (s : State) (p : Nat) : Phase := mget s.vrc.phs p { }
def State.setVph (s : State) (p : Nat) (x : Phase) : State := { s with vrc := { s.vrc with phs := mput s.vrc.phs p x } }

/-- A phase counts as enabled for telemetry: its lane is enabled and the controller drives it (R47, R134). -/
def State.phaseOn (s : State) (p : Nat) : Bool := bit (s.rd SNS_CTL_lane_en) (p / 8) && decide (p ∈ s.vrc.order)

/-- The quality code of a phase by the precedence of R47. -/
def State.quality (s : State) (p : Nat) : Nat :=
  let x := s.ph p
  if !s.phaseOn p then 6
  else if x.fault then 5
  else if x.frozen then 3
  else if x.stale then 2
  else if x.bad0 then 1
  else if x.high then 4
  else 0

/-- The controller drives the phase in continuous conduction (R50, R146). -/
def State.inCcm (s : State) (p : Nat) : Bool :=
  s.phaseOn p && decide (1 ≤ s.rd VRC_STAT_state) && decide (s.rd VRC_STAT_state ≤ 3) &&
    !s.flag VRC_PH_STAT_de p && !s.flag VRC_PH_STAT_brake p

/-- The driven phases for which a condition holds, a bit each. -/
def State.phMask (s : State) (f : Nat → Bool) : Nat := s.vrc.order.foldl (fun m p => setBit m p (f p)) 0

/-- What the phases are at this instant. -/
def State.phNow (s : State) : PhNote :=
  { t := s.ts, on := s.phMask s.phaseOn, ccm := s.phMask s.inCcm, n := s.vrc.order.length }

/-- Notes newest first, those no sample can reach any more dropped: the newest one at or before lim is the last kept. -/
def keepNotes (lim : Nat) : List PhNote → List PhNote
  | [] => []
  | e :: t => if e.t ≤ lim then [e] else e :: keepNotes lim t

/-- Note the phases at the end of a hub cycle where they changed in it (R42, R48, R50, R61). -/
def State.notePhases (s : State) : State :=
  let e := s.phNow
  match s.sns.notes with
  | [] => if e.on = 0 ∧ e.n = 0 then s else { s with sns := { s.sns with notes := [e] } }
  | x :: t =>
    if { e with t := x.t } = x then s
    else { s with sns := { s.sns with notes := e :: keepNotes (s.ts - 6400) (x :: t) } }

/-- What the phases were at an instant: as the newest note no later than it says. -/
def State.phAt (s : State) (t : Nat) : PhNote :=
  match s.sns.notes.find? fun e => decide (e.t ≤ t) with
  | some e => e
  | none => { t := 0, on := 0, ccm := 0, n := 0 }

/-- The shares that hold for a sample's instant, and whether a millisecond has set them (R48). -/
def State.shareAt (s : State) (p t : Nat) : Nat := if s.sns.shareT ≤ t then (s.ph p).share else (s.ph p).shareOld
def State.sharedAt (s : State) (t : Nat) : Bool := if s.sns.shareT ≤ t then s.sns.haveShare else s.sns.haveOld
def State.shareSum (s : State) (t : Nat) : Nat :=
  sumN (s.sns.phases.map fun x => if s.sns.shareT ≤ t then x.2.share else x.2.shareOld)

/-- The fill value of a phase, 1/32 A, for a sample at instant t and its tick's estimated energy est (pJ) and v_ref_int vref; nEn
phases were enabled (R48). -/
def State.fill (s : State) (p est vref nEn t : Nat) : Nat :=
  if vref = 0 then (Config.fillAtZeroRef est).toNat
  else
    let num := if s.sharedAt t then s.shareAt p t else 1
    let den := if s.sharedAt t then s.shareSum t else nEn
    satU 16 (roundNE (est * 128 * num : Nat) (1000 * vref * den))

/-- The current given to consumers, 1/32 A (R47): a filled phase shows the fill value under the estimate of the newest tick that has
closed (log entry 156). A sample that came with status bit 0 is no measurement. -/
def State.phCurrent (s : State) (p : Nat) : Nat :=
  let fill := s.fill p s.sns.estPj s.sns.estVr s.vrc.order.length s.ts
  match s.quality p with
  | 0 => (s.ph p).code
  | 4 => 4095
  | 5 => if (s.ph p).bad0 then fill else (s.ph p).code
  | 6 => 0
  | _ => fill

/-- Show a phase's quality and current, and note a millisecond that is not clean (R47, R48, R62). -/
def State.refreshPh (s : State) (p : Nat) : State :=
  let q := s.quality p
  let s := (s.wr SNS_PHQ_quality p q).wr SNS_PHQ_current p (s.phCurrent p)
  if q = 0 ∨ q = 6 then s else { s with sns := { s.sns with msClean := false, calPause := true } }

def State.refreshLane (s : State) (l : Nat) : State := foldTo 8 s fun s k => s.refreshPh (8 * l + k)

/-! ### Current limits on samples (R149, R151) -/

/-- fold of R149 as a fraction: clamp(v_avg / v_target, fold_min, 1). v_target is given. DESIGN CHOICE (log entry 163): before a tick
with a v_sense sample has closed it is fold_min. -/
def State.foldFrac (s : State) (target : Nat) : Nat × Nat :=
  let fm := s.rd VRC_OCP_PH_fold_min
  let num := s.vrc.vSum
  let den := s.vrc.vCnt * target
  if target = 0 ∨ den ≤ num ∧ s.vrc.vCnt ≠ 0 then (1, 1)
  else if s.vrc.vCnt = 0 ∨ num * 256 < fm * den then (fm, 256)
  else (num, den)

/-- v_target of R137 in force while the rail regulates. -/
def State.railTarget (s : State) : Nat := if s.isD then s.vTarget else s.rd VRC_VSET_vset

/-- One sample against the per-phase limit (R151, R155); exceeding 16 times running sheds the phase (R134). -/
def State.limitSample (s : State) (p code : Nat) : State :=
  if !s.phaseOn p then s else
  let f := s.foldFrac s.railTarget
  let x := s.vph p
  if code = 4095 ∨ s.rd VRC_OCP_PH_iph * f.1 < code * f.2 then
    let n := x.exceed + 1
    (s.bump VRC_PH_STAT_lim_hits p).setVph p
      { x with exceed := n, skip := true, shedPend := if 16 ≤ n ∧ x.shedPend = 0 then 2 else x.shedPend }
  else s.setVph p { x with exceed := 0 }

/-! ### Measured samples (R42, R61, R150) -/

/-- v_sense at an instant (R136): the newest conversion no later than it. -/
def vAt (h : List (Nat × Nat)) (t : Nat) : Nat :=
  match h.find? fun e => e.1 ≤ t with
  | some e => e.2
  | none => 0

/-- The instant of sample k of a frame at T, in fifths of a timestamp unit (R42). -/
def State.sampleInstant5 (s : State) (l T k : Nat) : Nat :=
  (5 * (T + 80 * k)) - (3200 + 4 * min 200 (s.rd SNS_TLM_LAT l))

/-- Add a phase's sample to an interval, counted over all ticks, unless its tick is final. -/
def State.addSample (s : State) (p iv sum cv : Nat) : State :=
  if iv / 10 < s.sns.nextFin then s else
  let tk := mget s.sns.ticks (iv / 10) { }
  let sl := mget tk.slots (iv % 10) { }
  let sl := { got := setBit sl.got p true, sum := sl.sum + sum, cv := sl.cv + cv }
  { s with sns := { s.sns with ticks := mput s.sns.ticks (iv / 10) { tk with slots := mput tk.slots (iv % 10) sl } } }

/-- Put a measured sample into its interval: two of one interval both count, and an interval that two consecutive samples
straddle has none (R61, R150). -/
def State.putSample (s : State) (p t5 code : Nat) : State :=
  let iv := t5 / 400
  let s := if (s.ph p).lastIv + 2 = iv then s.addSample p (iv - 1) 0 0 else s
  let s := s.addSample p iv code (code * vAt s.sns.vHist (t5 / 5))
  s.setPh p { s.ph p with sumMs := (s.ph p).sumMs + code, lastIv := iv }

/-- One sample of an accepted frame, judged as the phase stood at its instant (R42, R50, R61); a phase in STAGE_FAULT is measured
(R47), and a STALE or FROZEN one is not held against its limit (R155). -/
def State.sample (s : State) (l slot T k code : Nat) : State :=
  let p := 8 * l + slot
  let x := s.ph p
  let t5 := s.sampleInstant5 l T k
  let at' := s.phAt (t5 / 5)
  let run := if !bit at'.ccm p || decide (code = 4095) then 0 else if x.haveCode && decide (code = x.code) then x.run + 1 else 1
  let s := s.setPh p { x with code := code, haveCode := true, run := run }
  let held := x.frozen || x.stale
  let s := if held then s else s.limitSample p code
  if bit at'.on p && (x.fault || !held) then s.putSample p t5 code else s

/-- A slot of an accepted frame: status, samples, and the ways out of STALE and FROZEN (R47, R49, R50, R134). -/
def State.acceptSlot (s : State) (l slot f : Nat) : State :=
  let p := 8 * l + slot
  let st := frStatus f slot
  let codes := (List.range 8).map fun k => frCur f k slot
  let x := s.ph p
  let s := s.wr SNS_PHQ_status p st
  let from' := if x.haveCode then x.code else codes.headD 0
  let changed := codes.any fun c => c ≠ from'
  let good := if x.stale then x.good + 1 else 0
  let chg := if x.frozen then (if changed then x.chg + 1 else 0) else 0
  let s := s.setPh p { x with fault := bit st 3, bad0 := bit st 0, high := codes.any fun c => c = 4095,
                              good := good, stale := x.stale && decide (good < 2),
                              chg := chg, frozen := x.frozen && decide (chg < 4), lastSeq := frSeq f,
                              thru := s.sampleInstant5 l s.ts 7 / 400 + 1 }
  let s := if bit st 3 ∧ s.phaseOn p ∧ (s.vph p).shedPend = 0 then s.setVph p { s.vph p with shedPend := 1 } else s
  let s := if bit st 0 then s else foldTo 8 s fun s k => s.sample l slot s.ts k (codes.getD k 0)
  s.refreshPh p

/-! ### Stage temperatures (R51, R226) -/

/-- The hottest phase whose temperature is not stale: the phase and its temperature in 1/128 °C. -/
def State.hottestStage (s : State) : Option (Nat × Int) :=
  (List.range 144).foldl (fun b p =>
    if s.rd SNS_PHT p = 0x8000 then b else
    let t := sgn 16 (s.rd SNS_PHT p)
    match b with
    | some (_, u) => if u < t then some (p, t) else b
    | none => some (p, t)) none

/-- R226. -/
def State.stageTempCheck (s : State) : State :=
  match s.hottestStage with
  | none => s.wr THM_STAT_stage_hot 0 0
  | some (p, t) =>
    let lim := decide (128 * (s.rd THM_STG_limit : Int) ≤ t)
    let s := s.wr THM_STAT_stage_hot 0 (b2n lim)
    if 128 * (s.rd THM_STG_warn : Int) ≤ t then s.emitLim 11 11 p (100 * msT) [p, unsgn 32 t, b2n lim] else s

/-- A slot's temperature arrives (R41, R51). -/
def State.takeTemp (s : State) (l f : Nat) : State :=
  let p := 8 * l + frTslot f
  let t := unsgn 16 (sgn 12 (frTemp f) * 16)
  ((s.wr SNS_PHT p t).setPh p { s.ph p with tempTs := s.ts, tempSeen := true }).stageTempCheck

/-! ### Trace of telemetry (R499) -/

/-- Exponent of a slot's block. -/
def tlmExp (mx : Nat) : Nat → Nat → Nat
  | 0, e => e
  | n + 1, e => if e < 7 ∧ 63 < roundNEN mx (2 ^ e) then tlmExp mx n (e + 1) else e

/-- The group of a pair: frame s and frame s + 1, each its 64 codes in slot order where it was accepted. -/
def tlmGroup (l sq ts : Nat) (a b : Option (List Nat)) : List Nat :=
  let codes (k : Nat) : List Nat := (List.range 16).map fun j =>
    if j < 8 then (match a with | some c => c.getD (8 * k + j) 0 | none => 0)
    else (match b with | some c => c.getD (8 * k + j - 8) 0 | none => 0)
  let ex (k : Nat) : Nat := tlmExp ((codes k).foldl max 0) 7 0
  let mant := (List.range 8).foldl (fun acc k =>
    ((List.range 16).foldl (fun acc j => acc + 2 ^ (6 * (16 * k + j)) * (roundNEN ((codes k).getD j 0) (2 ^ ex k) % 64)) acc)) 0
  let mid := l + 2 ^ 8 * sq + 2 ^ 24 * b2n a.isNone + 2 ^ 25 * b2n b.isNone
    + (List.range 8).foldl (fun acc k => acc + 2 ^ (32 + 3 * k) * ex k) 0
  hdrRec 3 6 mid ts :: (List.range 6).map fun r => bits mant (128 * r) 128

/-- A pair whose second frame never came is written. -/
def State.flushPair (s : State) (l : Nat) : State :=
  match (s.tlane l).pair with
  | none => s
  | some (q, t, cs) =>
    let s := s.setTlane l { s.tlane l with pair := none }
    if s.traceKind 2 then s.stageGroup (tlmGroup l q t (some cs) none) else s

/-- An accepted frame of a lane in SYNC. -/
def State.traceTlm (s : State) (l f : Nat) : State :=
  if !s.traceKind 2 then s.setTlane l { s.tlane l with pair := none } else
  let q := frSeq f
  let cs := (List.range 8).flatMap fun k => (List.range 8).map fun j => frCur f j k
  if q % 2 = 0 then
    let s := s.flushPair l
    s.setTlane l { s.tlane l with pair := some (q, s.ts, cs) }
  else
    match (s.tlane l).pair with
    | some (q0, t, c0) =>
      if q0 + 1 = q then (s.setTlane l { s.tlane l with pair := none }).stageGroup (tlmGroup l q0 t (some c0) (some cs))
      else (s.flushPair l).stageGroup (tlmGroup l (q - 1) (s.ts - 640) none (some cs))
    | none => s.stageGroup (tlmGroup l (q - 1) (s.ts - 640) none (some cs))

/-! ### Receiving a frame (R43 to R45, R52) -/

/-- The phases of a lane miss this frame (R47). -/
def State.missLane (s : State) (l : Nat) : State :=
  foldTo 8 s fun s k =>
    let p := 8 * l + k
    (s.setPh p { s.ph p with bad0 := true, fault := false, high := false, good := 0, chg := 0,
                             thru := s.sampleInstant5 l s.ts 7 / 400 + 1 }).refreshPh p

/-- The lane enters HUNT: nothing before the gap is joined with what follows it (R45, R50, R499). -/
def State.toHunt (s : State) (l : Nat) : State :=
  let s := s.flushPair l
  let s := foldTo 8 s fun s k => s.setPh (8 * l + k) { s.ph (8 * l + k) with haveCode := false, run := 0, chg := 0 }
  (s.wr SNS_TLM_STAT_state l 0).setTlane l { s.tlane l with missSync := 0, wrongLane := 0, relock := true }

/-- The lane goes dark (R44). -/
def State.laneDark (s : State) (l : Nat) : State :=
  let s := s.toHunt l
  ((s.setTlane l { s.tlane l with dark := true, darkTs := (s.tlane l).lastTs }).emit 7 1 []).missLane l

/-- A CRC failure: counted, and more than 64 in a millisecond mark the lane degraded (R52). -/
def State.crcFail (s : State) (l : Nat) : State :=
  let n := (s.tlane l).crcMs + 1
  let s := ((s.bump SNS_TLM_STAT_crc_err l).setTlane l { s.tlane l with crcMs := n, wrongLane := 0 }).emitLim 7 5 l msT []
  if 64 < n then (s.wr SNS_TLM_STAT_degraded l 1).emitLim 7 9 l msT [] else s

/-- The frame passes the CRC and the checks of R52 that discard it. -/
def frameGood (l f : Nat) : Bool := frameCrcOk f && decide (frLane f = l) && decide (frVer f = 1)

/-- What the checks of R52 leave: each failure is answered. The lane check sends the lane dark after two running. -/
def State.judge (s : State) (l f : Nat) : State :=
  if !frameCrcOk f then s.crcFail l
  else
    let s := if frVer f ≠ 1 then (s.bump SNS_TLM_CNT_ver_err l).emitLim 7 7 l msT [] else s
    if frLane f ≠ l then
      let n := (s.tlane l).wrongLane + 1
      let s := ((s.bump SNS_TLM_STAT_lane_err l).setTlane l { s.tlane l with wrongLane := n }).emitLim 7 6 l msT []
      if 2 ≤ n ∧ ¬ (s.tlane l).dark then s.laneDark l else s
    else s.setTlane l { s.tlane l with wrongLane := 0 }

/-- The continuity rule of R45 for the frame that brings the lane back to SYNC. -/
def State.continuity (s : State) (l f : Nat) : State :=
  let x := s.tlane l
  if !x.got then s else
  let n := roundNEN (s.ts - x.lastTs) 640
  let q := frSeq f
  let expd := (x.lastSeq + n) % 65536
  let d := min ((q + 65536 - expd) % 65536) ((expd + 65536 - q) % 65536)
  if n < 32768 ∧ d ≤ 2 + n / 8192 then s.addTo SNS_TLM_STAT_lost l ((q + 65536 - x.lastSeq - 1) % 65536)
  else (s.addTo SNS_TLM_STAT_lost l n).emit 7 2 []

/-- A frame is accepted. -/
def State.acceptFrame (s : State) (l f : Nat) : State :=
  let s := if frRsv f then s.bump SNS_TLM_CNT_rsv_err l else s
  let s := s.setTlane l { s.tlane l with got := true, lastSeq := frSeq f, lastTs := s.ts, relock := false, missSync := 0,
                                         dark := false }
  let s := foldTo 8 s fun s k => s.acceptSlot l k f
  (s.takeTemp l f).traceTlm l f

/-- A frame received in SYNC. -/
def State.syncFrame (s : State) (l f0 : Nat) : State :=
  let x := s.tlane l
  if 1 < syncErrors f0 then
    let s := s.setTlane l { x with missSync := x.missSync + 1, wrongLane := 0 }
    if 3 ≤ x.missSync + 1 then (s.toHunt l).missLane l else s.missLane l
  else
    let s := s.setTlane l { x with missSync := 0, prevTs := s.ts }
    let f := unscramble f0
    let s := s.judge l f
    if !frameGood l f then s.missLane l else
    let d := (frSeq f + 65536 - x.lastSeq) % 65536
    if d = 1 then s.acceptFrame l f
    else if 2 ≤ d ∧ d < 32768 then ((s.addTo SNS_TLM_STAT_lost l (d - 1)).emitLim 7 8 l msT []).acceptFrame l f
    else ((s.count (cntLane l) 1).emitLim 7 8 l msT []).missLane l

/-- A frame whose sync word a hunting lane finds: exact, it leads to PRESYNC. -/
def State.huntFrame (s : State) (l f0 : Nat) : State :=
  if syncErrors f0 ≠ 0 then s
  else
    let f := unscramble f0
    let s := (s.setTlane l { s.tlane l with prevTs := s.ts }).judge l f
    (if frameGood l f then s.wr SNS_TLM_STAT_state l 1 else s).missLane l

/-- TLM_FRAME (R43): the 1,000 UI of a frame of a lane, received at this instant T, or the frame that a full telemetry crossing
drops (R388, R389). -/
def tlmFrame (lane : Fin 18) (frame : BitVec 1000) (overrun : Bool) (s : State) : State :=
  let l := lane.val
  let f0 := frame.toNat
  if !s.running || !bit (s.rd SNS_CTL_lane_en) l then s
  else if overrun then
    (s.crossOvr 11).missLane l
  else
    let st := s.rd SNS_TLM_STAT_state l
    if st = 2 then s.syncFrame l f0
    else if st = 1 then
      let x := s.tlane l
      if x.prevTs + 641 < s.ts then (s.toHunt l).huntFrame l f0
      else if s.ts < x.prevTs + 639 ∨ 1 < syncErrors f0 then (s.toHunt l).missLane l
      else
        let f := unscramble f0
        let s := (s.setTlane l { x with prevTs := s.ts }).judge l f
        if frameGood l f then ((s.wr SNS_TLM_STAT_state l 2).continuity l f).acceptFrame l f
        else (s.toHunt l).missLane l
    else s.huntFrame l f0

/-- TLM_LANE_DARK (R44). -/
def tlmLaneDark (lane : Fin 18) (s : State) : State :=
  if bit (s.rd SNS_CTL_lane_en) lane.val then s.laneDark lane.val else s

/-- PHASE_STALE (R49): stale_frames frame periods without an accepted frame; 0 acts as 1 (R65). -/
def phaseStale (phase : Fin 144) (s : State) : State :=
  let p := phase.val
  let lim := max 1 (s.rd SNS_FRZ_stale_frames)
  if s.phaseOn p ∧ ¬ (s.ph p).stale ∧ (s.tlane (p / 8)).lastTs + 640 * lim ≤ s.ts then
    ((s.setPh p { s.ph p with stale := true, good := 0 }).emit 7 3 [p, (s.ph p).lastSeq]).refreshPh p
  else s

/-- PHASE_FROZEN (R50): frz_window identical codes in continuous conduction; a setting below 64 acts as 64 (R65). -/
def phaseFrozen (phase : Fin 144) (s : State) : State :=
  let p := phase.val
  let x := s.ph p
  if s.phaseOn p ∧ ¬ x.frozen ∧ max 64 (s.rd SNS_FRZ_frz_window) ≤ x.run then
    ((s.setPh p { x with frozen := true, chg := 0, run := 0 }).emit 7 4 [p, x.code]).refreshPh p
  else s

/-- PHASE_TEMP_STALE (R51): a temperature not refreshed for 1.25 ms. -/
def phaseTempStale (phase : Fin 144) (s : State) : State :=
  let p := phase.val
  if (s.ph p).tempSeen ∧ (s.ph p).tempTs + 1000000 ≤ s.ts then (s.wr SNS_PHT p 0x8000).stageTempCheck else s

def execTlmFrame (lane : Fin 18) (frame : BitVec 1000) (overrun : Bool) (s : State) : Ans := hubOn (tlmFrame lane frame overrun) s
def execTlmLaneDark (lane : Fin 18) (s : State) : Ans := hubOn (tlmLaneDark lane) s
def execPhaseStale (phase : Fin 144) (s : State) : Ans := hubOn (phaseStale phase) s
def execPhaseFrozen (phase : Fin 144) (s : State) : Ans := hubOn (phaseFrozen phase) s
def execPhaseTempStale (phase : Fin 144) (s : State) : Ans := hubOn (phaseTempStale phase) s

end Sys2Proof.Machine
end

