-- ==== Sys2Proof/Machine/NvmOps.lean ====
section
/-!
DEFINITION. Machine/NvmOps.lean: reading the sapwood (R454, R455), asking the NVM unit for programs and erases (R471), and mirror
captures (R460, R461, R467).
-/
namespace Sys2Proof.Machine

def State.setNvm (s : State) (v : Nvm) : State := { s with nvm := v }

/-! ### The sapwood (R454, R455) -/

/-- Bank EVS (R421). -/
def evsBank : Nat := 13

/-- Sapwood records held (R454). -/
def State.held (s : State) : Nat := if s.recd.full then 4096 else min 4096 (s.rd EVT_NEXT_next)

/-- The sequence word of a record's slot. -/
def State.seqWord (s : State) (r : Nat) : Nat := leNat (s.readBank evsBank (0x20000 + 4 * (r % 4096)) 4)

/-- The record numbered r, or none when it is overwritten or not yet written (R455). -/
def State.recordAt (s : State) (r : Nat) : Option (List Byte) :=
  let w := s.seqWord r
  if laterSer (s.rd EVT_NEXT_next) r 32 && decide (w % 2 = 0 ∧ w / 2 = r % 2 ^ 31) then some (s.readBank evsBank (32 * (r % 4096)) 32)
  else none

/-! ### Flash operations (R471) -/

/-- What a program transaction carries: up to the end of its 256-byte page. -/
def FlashOp.page (o : FlashOp) : List Byte := o.data.take (256 - o.addr % 256)

/-- Start the transaction of the operation at the head. -/
def State.flashIssue (s : State) : State :=
  match s.nvm.ops with
  | [] => s.wr NVM_STAT_busy 0 0
  | o :: _ => (s.wr NVM_STAT_busy 0 1).send (if o.erase then .flashErase o.addr else .flashProgram o.addr o.page)

/-- Ask for an operation; they are served one at a time in order of request. A part that failed discovery is never programmed or
erased (R463), nor one whose port is released (R438). -/
def State.flashAsk (s : State) (o : FlashOp) : State :=
  if !s.flag NVM_STAT_found || s.nvm.portHigh then s
  else if s.nvm.ops.isEmpty then (s.setNvm { s.nvm with ops := [o] }).flashIssue
  else s.setNvm { s.nvm with ops := s.nvm.ops ++ [o] }

/-- Ask for the erase of n sectors of 4 KiB. -/
def State.flashEraseN (s : State) (item addr n arg : Nat) : State :=
  foldTo n s fun s k => s.flashAsk { item := item, addr := addr + 4096 * k, erase := true, arg := arg }

/-- Write bytes into flash: a program can only clear bits. -/
def flashProgram (m : List Host.Cell) : Nat → List Byte → List Host.Cell
  | _, [] => m
  | a, b :: t => flashProgram (memWrite m flashDefault a (memRead m flashDefault a &&& b)) (a + 1) t

/-- Erase a 4 KiB sector. -/
def flashEraseAt (m : List Host.Cell) (a : Nat) : List Host.Cell := m.filter fun c => c.1 / 4096 ≠ a / 4096

/-! ### Mirrors (R460, R461, R467) -/

def mirrorBase (slot : Nat) : Nat := 0x10000 + 0x10000 * slot

/-- The slot the next mirror takes: the erased one, or, while a mirror is still being programmed, the one that will be erased. -/
def State.mirrorSlot (s : State) : Nat :=
  s.nvm.slots.getD (if s.nvm.ops.any fun o => decide (o.item = 5) then 1 else 2) 0

/-- The first 60 bytes of a mirror slot. -/
def mirrorHeader (cause count first n ts : Nat) : List Byte :=
  leBytes 4 0x57525053 ++ leBytes 1 0x10 ++ leBytes 1 cause ++ leBytes 2 0 ++ leBytes 4 count ++ leBytes 4 first ++ leBytes 2 n
  ++ leBytes 6 0 ++ leBytes 8 ts ++ leBytes 28 0

/-- FP3 captures the newest 1,024 records and begins to program them. -/
def State.mirrorCapture (s : State) (cause : Nat) : State :=
  let n := min 1024 s.held
  let first := (s.rd EVT_NEXT_next + 2 ^ 32 - n) % 2 ^ 32
  let kept := (List.range n).filterMap fun i => s.recordAt ((first + i) % 2 ^ 32)
  let n := kept.length
  let recs := kept.flatten
  let slot := s.mirrorSlot
  let count := (s.nvm.mirCount + 1 + (s.nvm.ops.filter fun o => decide (o.item = 5)).length) % 2 ^ 32
  let hdr := mirrorHeader cause count first n s.ts
  let s := s.setNvm { s.nvm with capT := some s.ts, defer := none }
  let s := s.wr NVM_MIRROR_deferred 0 0
  let s := s.flashAsk { item := 4, addr := mirrorBase slot + 0x1000, data := recs, arg := slot }
  s.flashAsk { item := 5, addr := mirrorBase slot, data := hdr ++ leBytes 4 (crcBytes (hdr ++ recs)),
               arg := slot + 4 * cause + 16 * n, num := first }

/-- Ten seconds (R461). -/
def mirrorGap : Nat := 10 * secT

/-- Take a mirror for a cause, or defer it to the end of the 10 s after the previous capture. -/
def State.mirrorAsk (s : State) (cause : Nat) : State :=
  let first := s.nvm.defer.getD cause
  match s.nvm.capT with
  | some t =>
    if s.ts < t + mirrorGap then
      let s := (s.setNvm { s.nvm with defer := some first }).wr NVM_MIRROR_deferred 0 1
      s.emit 17 4 [cause, roundNEN (t + mirrorGap - s.ts) msT]
    else s.mirrorCapture first
  | none => s.mirrorCapture first

/-- A cause asks FP3 for a mirror (R460); while FP3 is not RUNNING it waits (R441). -/
def State.mirrorCause (s : State) (cause : Nat) : State :=
  if s.fwRunning 3 then s.mirrorAsk cause else s.setNvm { s.nvm with wait := s.nvm.wait ++ [cause] }

end Sys2Proof.Machine
end

