-- ==== Sys2Proof/Machine/Shared.lean ====
section
/-!
DEFINITION. Machine/Shared.lean: what one unit's event does to others: QUEFA_READY, the stage, mirrors, and the pair's handover.
-/
namespace Sys2Proof.Machine

/-- QUEFA_READY negates (R411) with the row of R411 as cause: every issue gate closes and every allowance reads 0 (R23, R70). -/
def State.readyNegate (s : State) (cause : Nat) : State :=
  if s.pins.ready then (foldTo 320 { s with pins := { s.pins with ready := false } } State.chokerLost).emit 2 2 [0, cause] else s

/-- A rail-off fault of code 0x02 to 0x04 (R411): QUEFA_READY negates and the stage becomes FAULT, cause 6; a power-up in progress fails
under R168 and a power-down goes on (R172). -/
def State.coreFaultStage (s : State) : State :=
  let s := s.readyNegate 1
  if s.rd RST_SEQ_stage = 5 then (s.wr RST_SEQ_stage 0 10).wr RST_SEQ_cause 0 6 else s

/-- The stage becomes LATCHED: cause 4 for CROWBAR, 5 for a thermal shutdown (R411). -/
def State.latchStage (s : State) (cause : Nat) : State :=
  ((s.readyNegate (cause - 2)).wr RST_SEQ_stage 0 9).wr RST_SEQ_cause 0 cause

end Sys2Proof.Machine
end

