-- ==== Sys2Proof/Machine/Regulator.lean ====
section
/-!
DEFINITION. Machine/Regulator.lean: the core-rail regulator controller (R131 to R159). Fixed-point quantities s48f16 are integers in
1/65,536, rounded to nearest even after each operation (R140).
-/
namespace Sys2Proof.Machine

/-! ### Fixed point -/

def fOne : Int := 65536
/-- Saturate to s48f16 (R6). -/
def fSat (x : Int) : Int := clampI (-(2 ^ 47)) (2 ^ 47 - 1) x
def fMul (a b : Int) : Int := fSat (roundNE (a * b) 65536)
/-- a / b; the divisors of this chapter are positive. -/
def fDiv (a b : Int) : Int := if b ≤ 0 then 0 else fSat (roundNE (a * 65536) b.toNat)
def fOfNat (n : Nat) : Int := (n : Int) * 65536

/-! ### Limits in force (R142, R149) -/

def State.nEn (s : State) : Nat := s.vrc.order.length

/-- t_max of R142 with the dead times in force. -/
def State.tMax (s : State) : Nat := s.vrc.n - s.vrc.tdHl - s.vrc.tdLh - s.rd VRC_PWM_LIM_toff_min

/-- t_lim of R140. -/
def State.tLim (s : State) : Nat := min s.tMax s.vrc.cap

/-- icont_eff and ipeak_eff, u32f8 A (R149). -/
def State.icontEff (s : State) : Nat := s.rd VRC_OCP_TOT_icont * 256 * s.nEn / 144
def State.ipeakEff (s : State) : Nat := s.rd VRC_OCP_TOT_ipeak * 256 * s.nEn / 144
def State.iBase (s : State) : Nat := if s.flag VRC_STAT_peak_spent then s.icontEff else s.ipeakEff

/-- i_lim, u32f8 A (R149). DESIGN CHOICE (log entry 162): in STOP v_target stays the target that the rail regulated to. -/
def State.iLim (s : State) : Nat :=
  let f := s.foldFrac s.railTarget
  roundNEN (s.iBase * f.1) f.2

/-- ff_ph, s48f16 A (R141). -/
def State.ffPh (s : State) : Int :=
  if s.nEn = 0 then 0 else fSat (roundNE ((min s.ffNow s.iLim : Nat) * 256) s.nEn)

/-! ### The last-fault record (R156) -/

/-- Diode emulation is forced: START has left v_ref_int below its starting value plus 4 units (R138). -/
def State.deForced (s : State) : Bool :=
  s.vrc.prebias && (decide (s.rd VRC_STAT_state = 1) || decide (s.rd VRC_STAT_state = 2))

/-- The phases are to run in diode emulation. -/
def State.deOn (s : State) : Bool := s.vrc.de || s.deForced

/-- VRC_STAT.de follows (R159). -/
def State.showDe (s : State) : State := s.wr VRC_STAT_de 0 (b2n s.deOn)

/-- Diode emulation is entered or left (R144). -/
def State.setDe (s : State) (b : Bool) : State := ({ s with vrc := { s.vrc with de := b } }).showDe

/-- What DE and the start's force leave when the rail stops or fails. -/
def State.noDe (s : State) : State := ({ s with vrc := { s.vrc with de := false, prebias := false } }).showDe

/-- The hottest model node, s16f7 (R156). -/
def State.hotNode16 (s : State) : Nat :=
  let t := (List.range 512).foldl (fun m n => max32 m (s.rd THM_X_x n)) (s.rd THM_X_x 0)
  satS 16 (f32ToFix 7 t)

/-- The 508 bytes before the check. -/
def State.lastFaultBody (s : State) (code prior tHot : Nat) : List Byte :=
  let anyFill := (List.range 144).any fun p => decide (1 ≤ s.quality p) && decide (s.quality p ≤ 3)
  let flags := b2n anyFill + 2 * b2n s.deOn + 4 * b2n s.vrc.trk + 8 * b2n s.fbInForce + 16 * b2n s.vrc.lfPend
  let tgt := if prior = 3 then 0 else s.railTarget
  leBytes 4 0x46435256 ++ leBytes 1 0x10 ++ leBytes 1 code ++ leBytes 2 flags ++ leBytes 8 s.ts ++ leBytes 4 (s.rd SLT_TAKE_take)
  ++ leBytes 4 (s.vrc.lfCount + 1 + (s.nvm.ops.filter fun o => decide (o.item = 7)).length) ++ leBytes 2 tgt ++ leBytes 2 (s.rd VRC_VREF_vref) ++ leBytes 2 (s.rd VRC_VSENSE_vsense)
  ++ leBytes 2 (s.rd VRC_VIN_vin) ++ leBytes 4 (8 * s.vrc.itot) ++ leBytes 4 s.iLim ++ leBytes 4 s.ffNow
  ++ leBytes 2 (satS 16 (roundNE s.vrc.tPid 65536)) ++ leBytes 2 s.vrc.n ++ leBytes 1 (s.rd THM_STAT_band) ++ leBytes 1 s.nEn
  ++ leBytes 1 prior ++ leBytes 1 0 ++ leBytes 2 (s.vrc.peakCnt / 4) ++ leBytes 2 tHot ++ leBytes 8 0
  ++ ((List.range 144).flatMap fun p =>
      leBytes 2 ((s.ph p).code % 4096 + 4096 * s.quality p + 32768 * b2n (bit (s.rd VRC_PH_SHED (p / 32)) (p % 32))))
  ++ ((List.range 72).flatMap fun k => leBytes 1 (s.rd SNS_PHQ_status (2 * k) % 16 + 16 * (s.rd SNS_PHQ_status (2 * k + 1) % 16)))
  ++ leBytes 84 0

/-- Capture the record into VRC_LASTF; FP3 has it to write. -/
def State.lastFault (s : State) (code prior tHot : Nat) : State :=
  let b := s.lastFaultBody code prior tHot
  let s := s.wr VRC_LASTF 0 (leNat (b ++ leBytes 4 (crcBytes b)))
  { s with vrc := { s.vrc with lfPend := true, lfAsked := false } }

/-- Of two rail-off faults in one hub cycle the lower code is recorded (R157): the record of the first takes it. -/
def State.lastFaultCode (s : State) (code tHot : Nat) : State :=
  let r := leBytes 512 (s.rd VRC_LASTF)
  let b := r.take 5 ++ leBytes 1 code ++ (r.drop 6).take 46 ++ leBytes 2 tHot ++ (r.drop 54).take 454
  s.wr VRC_LASTF 0 (leNat (b ++ leBytes 4 (crcBytes b)))

/-! ### Faults (R152 to R154) -/

/-- Every PWM goes to mid and the enables are due to drop (R139, R153). -/
def State.pwmToMid (s : State) : State :=
  { s with vrc := { s.vrc with pwmMid := true, midT := some s.ts, trk := false, trkHeld := false, uvSince := none, ocRun := 0 } }

/-- What a fault other than a thermal shutdown brings beside the rail: a mirror, and the stage (R411, R460). -/
def State.faultCause (s : State) (code : Nat) : State := if code = 5 then s else (s.mirrorCause 0).coreFaultStage

/-- A rail-off fault of R153; of two in one hub cycle the lower code is recorded (R157), each with its event. -/
def State.railOffFault (s : State) (code tHot : Nat) : State :=
  let st := s.rd VRC_STAT_state
  let was := s.rd VRC_STAT_fault
  if st = 4 ∧ s.vrc.midT = some s.ts ∧ code < was then
    let prior := bits (s.rd VRC_LASTF) 400 8
    let s := (s.wr VRC_STAT_fault 0 code).lastFaultCode code tHot
    let s := s.emit 9 1 [code, s.rd VRC_VSENSE_vsense, 8 * s.vrc.itot, prior]
    if was = 5 then s.faultCause code else s
  else if st = 0 ∨ 4 ≤ st then s
  else
    let s := s.lastFault code st tHot
    let s := s.pwmToMid
    let s := (s.wr VRC_STAT_state 0 4).wr VRC_STAT_fault 0 code
    let s := s.noDe
    let s := s.emit 9 1 [code, s.rd VRC_VSENSE_vsense, 8 * s.vrc.itot, st]
    (s.faultCause code).handover 1

/-- OVER_VOLTAGE (R154): the comparator's recognition; CROWBAR latches from any state. -/
def overVoltage (s : State) : State :=
  let st := s.rd VRC_STAT_state
  if st = 5 then s else
  let s := s.lastFault 1 st s.hotNode16
  let s := { s with vrc := { s.vrc with pwmMid := false, enables := true, midT := none, trk := false, uvSince := none } }
  let s := (s.wr VRC_STAT_state 0 5).wr VRC_STAT_fault 0 1
  let s := s.noDe.wr RST_CAUSE_crowbar 0 1
  let s := s.emit 9 2 [s.rd VRC_VSENSE_vsense, s.rd VRC_OVP_level]
  let s := s.mirrorCause 1
  let s := s.latchStage 4
  s.handover 3

/-! ### Reference (R137 to R139) -/

/-- The target of the reference now. In STOP it is 0, or the delivered one where that lies lower than v_ref_int stands: STOP follows
the master downward and never holds (R139). In START with tracking it waits for the first delivery (R138). -/
def State.refTarget (s : State) : Nat :=
  let st := s.rd VRC_STAT_state
  let v := s.rd VRC_VREF_vref
  if st = 3 then
    if s.vrc.trk then (match s.vrc.trkTgt with | some t => min t v | none => 0) else 0
  else if st = 1 ∧ s.vrc.trk then (match s.vrc.trkTgt with | some t => min t s.railTarget | none => v)
  else s.railTarget

/-- The reference has reached the final target in START, or 0 in STOP (R138, R139, R152). -/
def State.checkReached (s : State) : State :=
  let st := s.rd VRC_STAT_state
  let v := s.rd VRC_VREF_vref
  if st = 1 ∧ v = s.railTarget then
    ({ s with vrc := { s.vrc with trk := false, trkHeld := false } }).wr VRC_STAT_state 0 2
  else if st = 3 ∧ v = 0 ∧ s.vrc.midT = none ∧ ¬ s.vrc.pwmMid then s.pwmToMid
  else s

/-- Enter START (R138): the reference takes the measured voltage. -/
def State.vrcStart (s : State) : State :=
  let v := s.rd VRC_VSENSE_vsense
  let s := (s.wr VRC_VREF_vref 0 v).wr VRC_STAT_state 0 1
  let s := { s with vrc := { s.vrc with startV := v, prebias := true, trk := decide (s.rd VRC_CTL_trk ≠ 0), trkTgt := none,
                                        trkT := s.ts, trkHeld := false, pwmMid := false, enables := true, midT := none,
                                        rampTs := s.ts, rampCr := 0, uvSince := none, ocRun := 0 } }
  s.showDe.checkReached

/-- Enter STOP (R139). -/
def State.vrcStop (s : State) : State :=
  let st := s.rd VRC_STAT_state
  if st = 1 ∨ st = 2 then
    let s := (s.wr VRC_STAT_state 0 3).noDe
    ({ s with vrc := { s.vrc with trk := decide (s.rd VRC_CTL_trk ≠ 0), trkTgt := none, trkT := s.ts, trkHeld := false,
                                  uvSince := none } }).checkReached
  else s

/-- Tracking ends in STOP: EV_VRC_TRK_HOLD and target 0 (R139). -/
def State.trackEnd (s : State) : State :=
  if s.rd VRC_STAT_state = 3 ∧ s.vrc.trk then
    ({ s with vrc := { s.vrc with trk := false, trkTgt := none } }).emit 9 7 [s.rd VRC_TRK_master, s.rd VRC_VREF_vref]
  else s

/-- VREF_RAMP_STEP (R137): one 0.25 mV step, as the slew rate allows, while neither the sequencer (R88) nor a lost master holds. -/
def vrefRampStep (s : State) : State :=
  let st := s.rd VRC_STAT_state
  let v := s.rd VRC_VREF_vref
  let t := s.refTarget
  let slew := s.rd VRC_SLEW_slew
  let cr := min (usT + slew) (s.vrc.rampCr + (s.ts - s.vrc.rampTs) * slew)
  if st = 0 ∨ 4 ≤ st ∨ v = t ∨ cr < usT ∨ (s.isD ∧ s.dvfs.vHeld) ∨ (st = 1 ∧ s.vrc.trkHeld) ∨ s.vrc.pwmMid then s
  else
    let v' := if v < t then v + 1 else v - 1
    let s := s.wr VRC_VREF_vref 0 v'
    let s := { s with vrc := { s.vrc with rampTs := s.ts, rampCr := cr - usT, prebias := s.vrc.prebias && decide (v' < s.vrc.startV + 4) },
                      dvfs := { s.dvfs with vBegun := s.dvfs.vBegun || (s.isD && decide (s.rd CLK_DVFS_STAT_stage ≠ 0)) } }
    s.showDe.checkReached.dvfsSettle

/-- TRACK_DELIVERY (R138, R139): the master's voltage, in 0.25 mV. -/
def trackDelivery (vm : BitVec 16) (s : State) : State :=
  let mode := s.rd VRC_CTL_trk
  if !s.vrc.trk || decide (mode ≠ 1 ∧ mode ≠ 2) then s else
  let tgt := if mode = 1 then roundNEN (s.railTarget * vm.toNat) (s.rd VRC_TRK_vm_set) else vm.toNat
  { s with vrc := { s.vrc with trkTgt := some (min s.railTarget tgt), trkT := s.ts, trkHeld := false } }

/-- A take may have changed the tracking mode: with none, the ramp is under R137 alone; in START a mode begins tracking. -/
def State.trackTaken (s : State) : State :=
  let on := decide (s.rd VRC_CTL_trk ≠ 0)
  if s.vrc.trk && !on then { s with vrc := { s.vrc with trk := false, trkTgt := none, trkHeld := false } }
  else if !s.vrc.trk && on && decide (s.rd VRC_STAT_state = 1) then
    { s with vrc := { s.vrc with trk := true, trkTgt := none, trkT := s.ts, trkHeld := false } }
  else s

/-- TRACK_HOLD_TIMEOUT (R138, R139): 1 ms without a delivery. -/
def trackHoldTimeout (s : State) : State :=
  if s.vrc.trk ∧ s.vrc.trkT + msT ≤ s.ts then
    if s.rd VRC_STAT_state = 3 then s.trackEnd
    else if s.rd VRC_STAT_state = 1 ∧ ¬ s.vrc.trkHeld then
      ({ s with vrc := { s.vrc with trkHeld := true } }).emit 9 7 [s.rd VRC_TRK_master, s.rd VRC_VREF_vref]
    else s
  else s

/-- Every enable goes low. -/
def State.enablesLow (s : State) : State := { s with vrc := { s.vrc with enables := false, midT := none } }

/-- ENABLE_DROP (R139, R153): one µs after PWM went to mid the enables go low; STOP ends in OFF, a fault leaves v_ref_int at 0. -/
def enableDrop (s : State) : State :=
  match s.vrc.midT with
  | none => s
  | some t =>
    if s.ts < t + usT then s
    else
      let s := s.enablesLow
      if s.rd VRC_STAT_state = 3 then s.wr VRC_STAT_state 0 0
      else if s.rd VRC_STAT_state = 4 then s.wr VRC_VREF_vref 0 0
      else s

/-! ### Diode emulation (R144) -/

/-- The mean per-phase current and ff_ph lie below, or one above, a threshold in u8f4 A. -/
def State.deBelow (s : State) (th : Nat) : Bool :=
  decide (s.vrc.mean10 * 16 < th * s.nEn * 320) && decide (s.ffPh < (th : Int) * 4096)
def State.deAbove (s : State) (th : Nat) : Bool :=
  decide (th * s.nEn * 320 < s.vrc.mean10 * 16) || decide ((th : Int) * 4096 < s.ffPh)

/-- Follow the conditions of R144: leave diode emulation at once, or note since when entry is due. -/
def State.deTrack (s : State) : State :=
  let s := if s.vrc.de && (s.deAbove (s.rd VRC_DE_exit) || s.vrc.satHi) then s.setDe false else s
  let since := if s.deBelow (s.rd VRC_DE_enter) then (match s.vrc.deSince with | some t => some t | none => some s.ts) else none
  { s with vrc := { s.vrc with deSince := since } }

/-- DE_ENTER (R144): the dwell is over. -/
def deEnter (s : State) : State :=
  let s := s.deTrack
  match s.vrc.deSince with
  | none => s
  | some t =>
    let st := s.rd VRC_STAT_state
    if t + s.rd VRC_DE_dwell * usT ≤ s.ts ∧ s.flag VRC_CTL_de_en ∧ (st = 1 ∨ st = 2) ∧ ¬ s.vrc.satHi then s.setDe true else s

/-! ### The voltage loop (R136, R140) -/

/-- The law of R140 for one sample. -/
def State.pidLaw (s : State) (v : Nat) : State :=
  let c := s.vrc
  let half := (c.n : Int) * 32768
  let e := clampI (-1024) 1023 ((s.rd VRC_VREF_vref : Int) - v)
  let eF := e * 65536
  let ef := fSat (c.ef + roundNE (eF - c.ef) (2 ^ s.rd VRC_PID_B_dsh))
  let tD := fSat (roundNE (fSat (roundNE ((s.rd VRC_PID_B_kd : Int) * (ef - c.efPrev)) 256)) 4)
  let kiE := fSat (roundNE (fSat ((s.rd VRC_PID_A_ki : Int) * e)) 4)
  let acc := if c.sat then c.acc else clampI (-half) half (c.acc + kiE)
  let kpE := fSat (roundNE (fSat ((s.rd VRC_PID_A_kp : Int) * e * 256)) 4)
  let tPid := clampI (-half) half (fSat (fSat (kpE + acc) + tD))
  let tSs := fSat (roundNE (fOfNat (c.n * s.rd VRC_VREF_vref)) (s.rd VRC_VIN_vin))
  let lim := fOfNat s.tLim
  let hi := decide (lim < tSs + tPid)
  let sat := hi || decide (tSs + tPid < 0)
  let bound := hi && decide (c.cap < s.tMax)
  let s := { s with vrc := { c with ef := ef, efPrev := ef, acc := acc, tPid := tPid, tSs := tSs, sat := sat, satHi := hi } }
  let s := if bound then { s with vrc := { s.vrc with limHit := true, limLim := s.iLim } } else s
  s.wr VRC_STAT_climit 0 (b2n bound)

/-- Under-voltage is followed from sample to sample (R153). -/
def State.uvTrack (s : State) (v : Nat) : State :=
  let low := decide (s.rd VRC_STAT_state = 2) && decide (v + 4 * s.rd VRC_UV_margin < s.rd VRC_VREF_vref)
  let since := if low then (match s.vrc.uvSince with | some t => some t | none => some s.ts) else none
  { s with vrc := { s.vrc with uvSince := since } }

/-- UV_TIMEOUT (R153). -/
def uvTimeout (s : State) : State :=
  match s.vrc.uvSince with
  | none => s
  | some t => if t + s.rd VRC_UV_time * usT ≤ s.ts ∧ s.rd VRC_STAT_state = 2 then s.railOffFault 3 s.hotNode16 else s

/-! ### Periods and edges (R132 to R135, R141 to R148) -/

/-- pos(p) order of R133: slot first, then lane. -/
def posOrder : List Nat := (List.range 144).map fun i => 8 * (i % 18) + i / 18

/-- The phase's bit in VRC_PH_EN is 1 and it has not been shed (R134). -/
def State.phEnabled (s : State) (p : Nat) : Bool :=
  bit (s.rd VRC_PH_EN (p / 32)) (p % 32) && !bit (s.rd VRC_PH_SHED (p / 32)) (p % 32)

/-- Shed one phase at this period start (R134). -/
def State.shedPhase (s : State) (p : Nat) : State :=
  let r := (s.vph p).shedPend
  let s := s.wr VRC_PH_SHED (p / 32) (setBit (s.rd VRC_PH_SHED (p / 32)) (p % 32) true)
  let s := (s.wr VRC_PH_STAT_shed p r).setVph p { s.vph p with shedPend := 0, shedWhy := r, exceed := 0, carry := 0 }
  let n := ((List.range 144).filter s.phEnabled).length
  s.emit 9 3 [p, r, n]

/-- The first grid instant of period n at or after step t0, where it lies before t0 + 16. -/
def gridIn (n t0 : Nat) : Option Nat :=
  if n = 0 then none else
  let k := (t0 + n - 1) / n * n
  if k < t0 + 16 then some k else none

/-- PWM_PERIOD_START (R132 to R134, R148): a whole multiple of N steps falls in this timestamp unit. -/
def pwmPeriodStart (s : State) : State :=
  match gridIn (s.rd VRC_PWM_period) (16 * s.ts) with
  | none => s
  | some t =>
    if s.vrc.started ∧ t = s.vrc.perStart then s else
    let nOld := s.nEn
    -- an unshed take returns every controller-shed phase
    let s := if s.vrc.unshed then
        let back := sumTo 5 fun w => (List.range 32).foldl (fun n k => n + b2n (bit (s.rd VRC_PH_SHED w) k)) 0
        let s := foldTo 5 s fun s w => s.wr VRC_PH_SHED w 0
        ({ s with vrc := { s.vrc with unshed := false } }).emit 9 4 [back]
      else s
    let due := (List.range 144).filter fun p => decide ((s.vph p).shedPend ≠ 0) && s.phEnabled p
    let s := due.foldl State.shedPhase s
    let order := posOrder.filter s.phEnabled
    let band := s.rd THM_STAT_band
    let s := { s with vrc := { s.vrc with n := s.rd VRC_PWM_period, perStart := t, started := true, order := order,
                                          tdHl := s.rd VRC_DT_td_hl band, tdLh := s.rd VRC_DT_td_lh band } }
    let s := s.wr VRC_STAT_n_en 0 order.length
    let s := foldTo 144 s fun s p =>
      let x := s.vph p
      let s := s.wr VRC_PH_STAT_shed p
        (if s.phEnabled p then 0 else if bit (s.rd VRC_PH_EN (p / 32)) (p % 32) then x.shedWhy else 3)
      s.setVph p { x with lead1 := false, ffPrev := if order.length ≠ nOld then s.ffPh else x.ffPrev,
                          carry := if s.phEnabled p then x.carry else 0 }
    let s := foldTo 144 s State.refreshPh
    if !due.isEmpty ∧ s.nEn < s.rd VRC_PH_CFG_min_ph then s.railOffFault 4 s.hotNode16 else s

/-- dv of R141, s48f16 V. -/
def State.dv (s : State) : Int := fSat (roundNE (fOfNat (s.rd VRC_VIN_vin - s.rd VRC_VREF_vref)) 4000)

/-- t_ff of R141 for a change of ff_ph. -/
def State.tFf (s : State) (change : Int) : Int :=
  let a := fSat (roundNE ((s.rd VRC_LPH_lph : Int) * 524288) 10)
  fDiv (fMul a change) s.dv

/-- R147: how long a braking phase stays at mid, and what it carries. -/
def State.brake (s : State) (raw : Int) : Nat × Int :=
  let den := fSat (roundNE (fOfNat (s.rd VRC_VREF_vref)) 4000) + fSat (roundNE (fOfNat (s.rd VRC_BRK_vf)) 1000)
  let want := fDiv (fMul (-raw) s.dv) den
  let t := min (roundNE want 65536).toNat (s.vrc.n - s.vrc.tdLh)
  (t, -(fDiv (fMul (want - fOfNat t) den) s.dv))

/-- t_zc of R145. DESIGN CHOICE (log entry 160): at v_ref_int 0 the quotient has no value, and the low level runs to its limit. -/
def State.tZc (s : State) (ton : Nat) : Nat :=
  let v := s.rd VRC_VREF_vref
  if v = 0 then s.vrc.n else roundNEN (s.rd VRC_DE_zc_trim * ton * (s.rd VRC_VIN_vin - v)) (128 * v)

/-- The end of the low level of a pulse of ton steps: in diode emulation at the zero crossing (R145), else td_lh before the next
leading edge (R142). -/
def State.lowEnd (s : State) (de : Bool) (ton : Nat) : Nat :=
  let last := s.vrc.n - s.vrc.tdLh
  if de then min (ton + max s.vrc.tdHl (s.tZc ton)) last else last

/-- The controller drives pulses: START, REGULATE or STOP before every PWM is at mid. -/
def State.driving (s : State) : Bool :=
  decide (1 ≤ s.rd VRC_STAT_state) && decide (s.rd VRC_STAT_state ≤ 3) && !s.vrc.pwmMid

/-- A phase's leading edge is done: its pulse and its status. -/
def State.edgeDone (s : State) (p : Nat) (x : Phase) (brake : Bool) : State :=
  (((s.setVph p x).wr VRC_PH_STAT_ton p x.ton).wr VRC_PH_STAT_de p (b2n x.de)).wr VRC_PH_STAT_brake p (b2n brake)

/-- The leading edge of an enabled phase (R135, R141, R142, R144 to R147, R151, R155). -/
def State.leadingEdge (s : State) (p lead : Nat) : State :=
  let x := s.vph p
  let n := s.vrc.n
  let ff := s.ffPh
  let q := s.quality p
  let held := decide (q = 2) || decide (q = 3)
  let de := s.deOn
  let tFf := if held then 0 else s.tFf (ff - x.ffPrev)
  let carry := if held then 0 else x.carry
  let raw := s.vrc.tSs + s.vrc.tPid + tFf + carry
  let drop := x.ffPrev - ff
  let x := { x with ffPrev := ff, carry := 0, lead := lead, lead1 := true, de := de }
  let noPulse := x.skip || decide (q = 4)
  let x := { x with skip := false }
  if raw < 0 ∧ s.flag VRC_CTL_brk_en ∧ (s.rd VRC_BRK_min : Int) * 4096 ≤ drop ∧ s.rd VRC_STAT_state = 2 then
    let b := s.brake raw
    s.edgeDone p { x with ton := 0, carry := b.2, low0 := if de then n else b.1, low1 := if de then n else n - s.vrc.tdLh } true
  else
    let lim := fOfNat s.tLim
    let r := min raw lim
    let r := if held then min r (s.vrc.tSs + s.vrc.tPid) else r
    let t := (roundNE r 65536).toNat
    let ton := if noPulse ∨ t < s.rd VRC_PWM_LIM_ton_min then 0 else t
    if ton = 0 then s.edgeDone p { x with ton := 0, low0 := if de then n else 0, low1 := n } false
    else s.edgeDone p { x with ton := ton, low0 := ton + s.vrc.tdHl, low1 := s.lowEnd de ton } false

/-- PHASE_LEADING_EDGE (R133, R141): the phase's leading edge falls in this timestamp unit. -/
def phaseLeadingEdge (phase : Fin 144) (s : State) : State :=
  let p := phase.val
  if !s.driving || !s.vrc.started then s else
  match s.vrc.order.findIdx? (· = p) with
  | none => s
  | some k =>
    let lead := s.vrc.perStart + k * s.vrc.n / s.nEn
    if 16 * s.ts ≤ lead ∧ lead < 16 * s.ts + 16 ∧ ¬ (s.vph p).lead1 then s.deTrack.leadingEdge p lead else s

/-- R143: a change of FF moves the trailing edge of every pulse in progress with at least 16 steps to run, and with it the zero
crossing of one in diode emulation (R145). A STALE or FROZEN phase takes no t_ff (R155). -/
def State.moveEdges (s : State) : State :=
  if !s.driving || decide (s.ffNow = s.fcs.ffPrev) then s else
  let now := 16 * s.ts
  let ff := s.ffPh
  let s := s.vrc.order.foldl (fun s p =>
    let x := s.vph p
    if now + 16 ≤ x.lead + x.ton ∧ s.quality p ≠ 2 ∧ s.quality p ≠ 3 then
      let t : Int := x.ton + roundNE (s.tFf (ff - x.ffPrev)) 65536
      let ton := (clampI ((now : Int) + 16 - x.lead) s.tLim t).toNat
      let s := s.setVph p { x with ffPrev := ff, ton := ton, low0 := ton + s.vrc.tdHl, low1 := s.lowEnd x.de ton }
      s.wr VRC_PH_STAT_ton p ton
    else s) s
  { s with fcs := { s.fcs with ffPrev := s.ffNow } }

/-- PID_SAMPLE (R136, R140): the converter's v_sense at a multiple of 4 units. -/
def pidSample (v : BitVec 16) (s : State) : State :=
  if !s.running || s.ts % 4 ≠ 0 then s else
  let s := (s.wr VRC_VSENSE_vsense 0 v.toNat).dvfsReach
  let s := { s with sns := { s.sns with vHist := (s.ts, v.toNat) :: s.sns.vHist.filter fun e => decide (s.ts < e.1 + 6400) } }
  let s := s.uvTrack v.toNat
  (s.pidLaw v.toNat).deTrack

/-! ### The die total (R149, R150) -/

/-- The total of a sample interval, 1/32 A: measured samples, and fill values for the other driven phases. -/
def State.intervalTotal (s : State) (i : Nat) : Nat :=
  let tk := mget s.sns.ticks (i / 10) { }
  let sl := mget tk.slots (i % 10) { }
  let est := if tk.closed then tk.est else s.sns.estPj
  let vr := if tk.closed then tk.vref else s.sns.estVr
  let e := s.phAt (80 * i)
  sl.sum + sumTo 144 fun p => if bit sl.got p ∨ ¬ bit e.on p then 0 else s.fill p est vr e.n (80 * i)

/-- Every phase driven in the interval has its sample or its fill value: a fill value stands once the tick's estimate is formed, for a
phase that is STALE or FROZEN or whose frame for the interval has come and was not accepted (R47, R48, R150). -/
def State.intervalFull (s : State) (i : Nat) : Bool :=
  let tk := mget s.sns.ticks (i / 10) { }
  let sl := mget tk.slots (i % 10) { }
  let on := (s.phAt (80 * i)).on
  (List.range 144).all fun p =>
    let x := s.ph p
    bit sl.got p || !bit on p || (tk.closed && (x.stale || x.frozen || decide (i < x.thru)))

/-- One interval's total acts on the cap, the trip and the tick's mean (R149, R150, R153). -/
def State.takeTotal (s : State) (i tot : Nat) : State :=
  let lim := s.iLim
  let cap := if lim < 8 * tot then s.vrc.cap - roundNEN (8 * tot - lim) 512 else min s.tMax (s.vrc.cap + 16)
  let oc := if s.rd VRC_OCP_TRIP_itrip * 32 < tot then s.vrc.ocRun + 1 else 0
  let acc := if i % 10 = 0 then tot else s.vrc.mAcc + tot
  let mean := if i % 10 = 9 then acc else s.vrc.mean10
  let ms := s.ts / msT
  let peak := if s.vrc.limMs = ms then max s.vrc.limPeak tot else tot
  let v := { s.vrc with nextInt := i + 1, itot := tot, cap := cap, ocRun := oc, mAcc := acc, mean10 := mean, limPeak := peak, limMs := ms }
  { s with vrc := v }

/-- EV_VRC_LIMIT of the millisecond that ends, where the cap has bound in it: with the millisecond's peak total (R150, R158). -/
def State.vrcBoundary (s : State) : State :=
  if s.vrc.limHit then
    let peak := if s.vrc.limMs + 1 = s.ts / msT then s.vrc.limPeak else 0
    ({ s with vrc := { s.vrc with limHit := false } }).emitLim 9 5 0 msT [8 * peak, s.vrc.limLim]
  else s

/-- HARD_OC: the fourth interval running above the trip level (R153). -/
def State.hardOc (s : State) : State :=
  if decide (4 ≤ s.vrc.ocRun) && s.driving then s.railOffFault 2 s.hotNode16 else s

/-- I_TOT_FORMED (R150, R153): the next interval's total, as soon as it is complete and at the latest 2 µs after its end. -/
def iTotFormed (s : State) : State :=
  let i := max s.vrc.nextInt (s.ts / 80 - 21)
  if !s.running || decide (s.ts < 80 * (i + 1)) || !(s.intervalFull i || decide (80 * (i + 1) + 1600 ≤ s.ts)) then s
  else (s.takeTotal i (s.intervalTotal i)).hardOc

/-- DESIGN CHOICE (log entry 161): the tick's mean current is that of the last whole tick whose totals are formed.
PEAK_BUDGET_UPDATE of R149, at an estimator tick: the counter, i_base, the limit's delivery to the loop engine (R150, R180). -/
def State.peakTick (s : State) : State :=
  let exc := decide (s.icontEff * 10 < 8 * s.vrc.mean10)
  let cnt := if exc then s.vrc.peakCnt + 4 else s.vrc.peakCnt - 1
  let was := s.flag VRC_STAT_peak_spent
  let spent := if was then decide (cnt ≠ 0) else decide (4 * s.rd VRC_OCP_TRIP_tpeak ≤ cnt)
  let s := { s with vrc := { s.vrc with peakCnt := cnt } }
  let s := (s.wr VRC_STAT_exc 0 (b2n exc)).wr VRC_STAT_peak_spent 0 (b2n spent)
  let s := s.wr VRC_OCP_STAT_peak 0 (min 65535 (cnt / 4))
  let s := if spent && !was then s.emit 9 6 [s.icontEff / 256] else s
  let s := if spent != was then s.seedSp 0x21 0 else s
  let lim := s.iLim
  let s := s.wr VRC_OCP_STAT_avail 0 (min 65535 (lim / 256))
  s.publish 0x21 0 (f32Of lim (-8)) true

end Sys2Proof.Machine
end

