-- ==== Sys2Proof/Machine/Pmbus.lean ====
section
/-!
DEFINITION. Machine/Pmbus.lean: the auxiliary rails over PMBus and the power sequences (R160 to R173).
-/
namespace Sys2Proof.Machine

/-! ### Rails -/

def State.railOn (s : State) (r : Nat) : Bool := s.flag PMB_RAIL_en r
def State.railState (s : State) (r : Nat) : Nat := s.rd PMB_RAIL_STAT_state r
def State.setRail (s : State) (r st : Nat) : State := s.wr PMB_RAIL_STAT_state r st
def State.rails (s : State) : List Nat := (List.range 16).filter s.railOn
/-- Enabled rails of a group (R163). -/
def State.members (s : State) (g : Nat) : List Nat := s.rails.filter fun r => s.rd PMB_RAIL_group r = g

/-- The exponent of a rail's voltage, s5 (R161). -/
def State.railExp (s : State) (r : Nat) : Int := sgn 5 (mget s.pmb.exps r 0)

/-- Y × 2^N volts in 0.25 mV units (R162). -/
def voutUnits (y : Nat) (n : Int) : Nat :=
  if 0 ≤ n then satU 16 ((y * 4000 * 2 ^ n.toNat : Nat) : Int) else satU 16 (roundNE ((y * 4000 : Nat) : Int) (2 ^ (-n).toNat))

/-- A LINEAR11 word in u32f3 W (R162). -/
def linear11W (w : Nat) : Nat :=
  let e := sgn 5 (bits w 11 5)
  let m := sgn 11 (bits w 0 11)
  if 0 ≤ e + 3 then satU 32 (m * 2 ^ (e + 3).toNat) else satU 32 (roundNE m (2 ^ (-(e + 3)).toNat))

/-- The VOUT_COMMAND word of a rail, where it fits (R161). -/
def State.voutWord (s : State) (r : Nat) : Option Nat :=
  let n := s.railExp r
  let t := s.rd PMB_RAIL_target r
  let v := if 0 ≤ n then roundNEN t (4000 * 2 ^ n.toNat) else roundNEN (t * 2 ^ (-n).toNat) 4000
  if v < 65536 then some v else none

/-- The reading is below 10 % of the target (R168, R169). -/
def State.below10 (s : State) (r : Nat) : Bool := decide (s.rd PMB_RAIL_V r * 10 < s.rd PMB_RAIL_target r)

/-- The rail meets the conditions of GOOD (R164). -/
def State.railGood (s : State) (r : Nat) : Bool :=
  let w := s.rd PMB_RAIL_STAT_status r
  !bit w 11 && decide (bits w 2 6 = 0) && !bit w 15 && !bit w 14 &&
    decide (s.rd PMB_RAIL_target r * (100 - s.rd PMB_RAIL_pg_pct r) ≤ s.rd PMB_RAIL_V r * 100)

/-- A fault bit of STATUS_WORD (R164). -/
def statusFault (w : Nat) : Bool := decide (bits w 2 6 ≠ 0) || bit w 15 || bit w 14

/-! ### The bus -/

def State.setPmb (s : State) (p : Pmb) : State := { s with pmb := p }

/-- The data bytes of a transaction that writes. -/
def State.opData (s : State) (o : PmbOp) : List Nat :=
  match o.cmd with
  | 0x00 => [s.rd PMB_RAIL_page o.rail]
  | 0x01 => [if o.purpose = 1 then 0x80 else 0x40]
  | 0x02 => [0x18]
  | 0x21 => let v := (s.voutWord o.rail).getD 0; [v % 256, v / 256]
  | _ => []

/-- The commands that are read (R161). -/
def cmdReads (cmd : Nat) : Bool := decide (cmd ∈ [0x20, 0x79, 0x8B, 0x96, 0x98])

/-- The PEC of a transaction's bytes (R160): the CRC-8 of SMBus, x^8 + x^2 + x + 1. PRESUMED (log entry 171). -/
def pec8 (bs : List Nat) : Nat :=
  bs.foldl (fun c b => foldTo 8 (c ^^^ b) fun c _ => if 128 ≤ c then (2 * c % 256) ^^^ 7 else 2 * c) 0

/-- The bytes that the host drives in a transaction with one target: the PEC of a read comes from the target (R160). -/
def State.targetBytes (s : State) (o : PmbOp) (addr : Nat) : List Nat :=
  if cmdReads o.cmd then [2 * addr, o.cmd, 2 * addr + 1]
  else
    let bs := [2 * addr, o.cmd] ++ s.opData o
    bs ++ [pec8 bs]

/-- The rails that a group command addresses: a stop skips those that are UNREACHABLE (R169). -/
def State.groupRails (s : State) (o : PmbOp) : List Nat :=
  (s.members o.grp).filter fun r => decide (o.purpose ≠ 3) || decide (s.railState r ≠ 6)

/-- The bytes of a transaction as they leave. -/
def State.opBytes (s : State) (o : PmbOp) : List Nat :=
  if o.purpose = 8 then [2 * 0x0C + 1]
  else if o.rail = 16 then (s.groupRails o).flatMap fun r => s.targetBytes o (s.rd PMB_RAIL_addr r)
  else s.targetBytes o (s.rd PMB_RAIL_addr o.rail)

/-- Put the head on the bus when the bus is free. -/
def State.pmbIssue (s : State) : State :=
  match s.pmb.q with
  | [] => s
  | o :: _ => if s.pmb.busy || s.flag PMB_STAT_stuck then s else (s.setPmb { s.pmb with busy := true }).send (.pmbus (s.opBytes o))

/-- Queue transactions behind what waits. -/
def State.pmbQueue (s : State) (os : List PmbOp) : State := (s.setPmb { s.pmb with q := s.pmb.q ++ os }).pmbIssue

/-- The PAGE write of a multi-page rail (R161). -/
def State.pageOp (s : State) (purpose g r : Nat) : List PmbOp :=
  if s.rd PMB_RAIL_page r = 0xFF then [] else [{ purpose := purpose, grp := g, rail := r, cmd := 0x00 }]

/-- A group command, with the PAGE writes of its multi-page rails before it (R161, R166). -/
def State.groupOps (s : State) (purpose g : Nat) : List PmbOp :=
  let o : PmbOp := { purpose := purpose, grp := g, rail := 16, cmd := 0x01 }
  (s.groupRails o).flatMap (s.pageOp purpose g) ++ [o]

/-- What waits, after other transactions have come before it: the PAGE of the command that goes on is written again. -/
def State.repage (s : State) (q : List PmbOp) : List PmbOp :=
  match q with
  | [] => []
  | o :: t =>
    if o.cmd = 0x00 ∨ o.purpose = 8 then q
    else if o.rail = 16 then s.groupOps o.purpose o.grp ++ t
    else s.pageOp o.purpose o.grp o.rail ++ q

/-- Queue transactions for the next free bus slot. -/
def State.pmbNext (s : State) (os : List PmbOp) : State :=
  let q := s.pmb.q
  (s.setPmb { s.pmb with q := if s.pmb.busy then q.take 1 ++ os ++ s.repage (q.drop 1) else os ++ s.repage q }).pmbIssue

/-- Reads and writes of a rail, a PAGE write before them. -/
def State.railOps (s : State) (purpose r : Nat) (cmds : List Nat) : List PmbOp :=
  let g := s.rd PMB_RAIL_group r
  s.pageOp purpose g r ++ cmds.map fun c => { purpose := purpose, grp := g, rail := r, cmd := c }

/-- Drop what waits, but not what is on the bus. -/
def State.pmbDrop (s : State) (p : PmbOp → Bool) : State :=
  let q := s.pmb.q
  s.setPmb { s.pmb with q := if s.pmb.busy then q.take 1 ++ (q.drop 1).filter fun o => !p o else q.filter fun o => !p o }

/-- Ramp reads of a group, in rail order; each read of another member is followed by one of the tracking master (R167). -/
def State.pollOps (s : State) (purpose g : Nat) : List PmbOp :=
  let ms := (s.members g).filter fun r => s.railState r ≠ 6
  let mst := s.rd VRC_TRK_master
  let trk := decide (s.rd VRC_CTL_trk ≠ 0) && decide (mst ∈ ms) && decide (purpose ≠ 6)
  ms.flatMap fun r =>
    (if purpose = 2 then [0x8B, 0x79] else [0x8B]).flatMap fun c =>
      s.railOps purpose r [c] ++ (if trk && decide (r ≠ mst) then s.railOps purpose mst [0x8B] else [])

/-! ### The power-down sequence (R169) -/

/-- The stopping group is commanded off (R169): its members are OFF, and the controller of the core group stops in the same hub cycle, or
takes rail-off fault 0x05 in thermal shutdown (R233). -/
def State.groupOff (s : State) : State :=
  let g := s.pmb.grp
  let s := s.setPmb { s.pmb with off := true }
  let s := (s.members g).foldl (fun s r => if s.railState r = 6 ∨ s.railState r = 4 then s else s.setRail r 1) s
  if g = s.rd PMB_SEQ_core_grp then (if s.pmb.thermal then s.railOffFault 5 s.pmb.tHot else s.vrcStop) else s

/-- The turn of the next group to stop; with none left the sequence is over. -/
def State.downNext (s : State) : State :=
  match s.pmb.started with
  | [] =>
    let s := s.wr PMB_STAT_seq 0 (if s.pmb.failed then 5 else 0)
    let s := s.setPmb { s.pmb with phase := 0 }
    if s.pmb.failed ∧ s.rd RST_SEQ_stage = 4 then
      ((s.wr RST_SEQ_stage 0 8).wr RST_SEQ_cause 0 3).emit 2 3 [3, s.pmb.failGrp]
    else s
  | g :: rest =>
    let s := s.setPmb { s.pmb with started := rest, grp := g, phase := 4, onT := s.ts, low := [], off := false }
    if g < 4 ∧ (s.members g).any (fun r => s.railState r ≠ 6) then s.pmbQueue (s.groupOps 3 g) else s.groupOff

/-- A sweep has made its last transaction, or is stopped: its energy counts in this millisecond (R277). -/
def State.sweepStop (s : State) : State :=
  if s.pmb.sweep then
    { s with pmb := { s.pmb with sweep := false, swE := 0 }, acc := { s.acc with qa := s.acc.qa + s.pmb.swE } }
  else s

/-- What waits is dropped, and a group whose command is on the bus counts as started. -/
def State.seqStop (s : State) : State :=
  let s := (s.pmbDrop fun _ => true).sweepStop
  let half := if s.pmb.phase = 6 ∧ ¬ s.pmb.grp ∈ s.pmb.started then s.pmb.grp :: s.pmb.started else s.pmb.started
  s.setPmb { s.pmb with phase := 0, started := half, ara := [] }

/-- A power-up in progress stops at once (R172, R415). -/
def State.haltPowerUp (s : State) : State :=
  if s.rd PMB_STAT_seq = 1 ∨ s.rd PMB_STAT_seq = 2 then s.seqStop else s

/-- Start the power-down sequence over every group that has started. -/
def State.powerDown (s : State) : State :=
  if s.rd PMB_STAT_seq = 4 then s else (s.seqStop.wr PMB_STAT_seq 0 4).downNext

/-- The stopping group's turn is over once every member reads below 10 %, or the controller has stopped (R169). A controller that has
faulted in it is recorded as a failure of its group (R172). -/
def State.downCheck (s : State) : State :=
  if s.pmb.phase ≠ 4 ∨ s.pmb.off = false then s else
  let g := s.pmb.grp
  let st := s.rd VRC_STAT_state
  let doneCore := decide (st = 0) || (decide (st = 4) && !s.vrc.enables) || decide (st = 5)
  let done := if g = 4 then doneCore
    else ((s.members g).all fun r => decide (s.railState r = 6) || decide (r ∈ s.pmb.low))
  if done then
    let s := if g = s.rd PMB_SEQ_core_grp ∧ st = 4 ∧ s.pmb.thermal = false then s.emit 10 2 [g, 0, 3] else s
    (s.pmbDrop fun o => o.purpose = 4).downNext
  else s

/-! ### The power-up sequence (R165 to R168) -/

/-- The turn of the next group from g on (R166). -/
def State.upNext (s : State) (g : Nat) (first : Bool) : State :=
  match (List.range 4).find? fun k => g ≤ k && !(s.members k).isEmpty with
  | some k =>
    s.setPmb { s.pmb with grp := k, phase := 1, starts := 0, due := s.ts + (if first then 0 else s.rd PMB_GRP_delay k * msT) }
  | none =>
    if s.rd PMB_SEQ_core_grp = 4 then
      s.setPmb { s.pmb with grp := 4, phase := 5, starts := 0, due := s.ts + s.rd PMB_SEQ_core_delay * msT }
    else
      (s.setPmb { s.pmb with phase := 0, upT := s.ts }).wr PMB_STAT_seq 0 3

/-- The sequence fails at a group that cannot start or has spent its retries (R165, R168). -/
def State.seqFail (s : State) (g : Nat) : State :=
  (s.setPmb { s.pmb with failed := true, failGrp := g }).powerDown

/-- A group fails (R168); cause: 0 not GOOD in time, 1 a fault while RAMPING, 2 not acknowledged, 3 the controller. -/
def State.groupFail (s : State) (cause : Nat) (mask : Nat) : State :=
  let g := s.pmb.grp
  let s := s.pmbDrop fun o => o.purpose = 2
  let s := if g < 4 then s.pmbNext (s.groupOps 5 g) else s
  let s := if g = s.rd PMB_SEQ_core_grp then
      let s := s.vrcStop
      if bit mask (s.rd VRC_TRK_master) then s.trackEnd else s
    else s
  let s := (s.members g).foldl (fun s r => if s.railState r = 6 then s else s.setRail r (if bit mask r then 4 else 1)) s
  let s := s.emit 10 2 [g, mask, cause]
  let gr := if g = 4 then 3 else g
  if s.pmb.starts < 1 + s.rd PMB_GRP_retries gr then
    let s := s.setPmb { s.pmb with phase := 3, due := s.ts + s.rd PMB_GRP_cool gr * msT, low := [] }
    if g < 4 then s.pmbQueue (s.pollOps 6 g) else s
  else s.seqFail g

/-- Members of the group in turn that are not GOOD, as a mask. -/
def State.notGood (s : State) : Nat :=
  (s.members s.pmb.grp).foldl (fun m r => if s.railState r = 3 then m else setBit m r true) 0

/-- The group in turn holds the core. -/
def State.coreTurn (s : State) : Bool := decide (s.pmb.grp = s.rd PMB_SEQ_core_grp)

/-- After any event: the ramping group is good or its controller has faulted; the stopping group is done. -/
def State.pmbSettle (s : State) : State :=
  if s.pmb.phase = 2 then
    let st := s.rd VRC_STAT_state
    if s.coreTurn ∧ st = 4 then s.groupFail 3 0
    else if s.notGood = 0 ∧ (¬ s.coreTurn ∨ st = 2) then
      let s := s.pmbDrop fun o => o.purpose = 2
      let g := s.pmb.grp
      if g = 4 then (s.setPmb { s.pmb with phase := 0, upT := s.ts }).wr PMB_STAT_seq 0 3 else s.upNext (g + 1) false
    else s
  else s.downCheck

/-- While PMB_ALERT_N is low, the alert response address is read at the next free bus slot, one alert at a time (R171); the input counts
from the beginning of discovery (R530) and not while it is masked. -/
def State.askAra (s : State) : State :=
  if s.pmb.alert && s.pmb.begun && s.clocked 10 && s.flag PMB_CTL_alert_en && !s.flag PMB_STAT_masked
      && !(s.pmb.q.any fun o => decide (o.purpose = 8 ∨ o.purpose = 9 ∨ o.purpose = 10)) then
    s.pmbNext [{ purpose := 8, grp := 0, rail := 16, cmd := 0x0C }]
  else s

/-- Discovery of the enabled rails begins (R165). -/
def State.powerUp (s : State) : State :=
  let s := s.setPmb { s.pmb with failed := false, failGrp := 0, thermal := false, started := [], phase := 0, q := s.pmb.q.take (b2n s.pmb.busy),
                                 onRail := [], railT := [], begun := true, ara := [] }
  let s := s.wr PMB_STAT_seq 0 1
  let ops := s.rails.flatMap fun r => s.railOps 0 r [0x98, 0x20, 0x02, 0x21]
  (if ops.isEmpty then (s.wr PMB_STAT_seq 0 2).upNext 0 true else s.pmbQueue ops).askAra

/-- VDD_CORE starts in a group's turn (R166). -/
def State.coreStart (s : State) : State :=
  let st := s.rd VRC_STAT_state
  if st ≠ 5 ∧ st ≠ 2 then s.vrcStart else s

/-- The on instant of the group in turn (R166). -/
def State.groupOn (s : State) : State :=
  let g := s.pmb.grp
  let s := s.setPmb { s.pmb with phase := 2, onT := s.ts,
                                 started := if g ∈ s.pmb.started then s.pmb.started else g :: s.pmb.started }
  let s := (s.members g).foldl (fun s r =>
    let s := s.setRail r 2
    s.setPmb { s.pmb with onRail := mput s.pmb.onRail r s.ts, railT := mdel s.pmb.railT r }) s
  let s := if s.coreTurn then s.coreStart else s
  (if g < 4 then s.pmbQueue (s.pollOps 2 g) else s).pmbSettle

/-- The group in turn is started: once more counted (R168), by its group command, or the core alone at once. -/
def State.groupCommand (s : State) : State :=
  let g := s.pmb.grp
  let s := s.setPmb { s.pmb with starts := s.pmb.starts + 1 }
  if g = 4 then s.groupOn else (s.setPmb { s.pmb with phase := 6 }).pmbQueue (s.groupOps 1 g)

/-- PMB_GROUP_START (R165, R166): the delay has passed; PAGE writes, then the group command. -/
def pmbGroupStart (s : State) : State :=
  if !s.clocked 10 || s.pmb.phase ≠ 1 || decide (s.ts < s.pmb.due) then s else
  let g := s.pmb.grp
  if (s.members g).any fun r => s.railState r = 6 then s.seqFail g
  else s.groupCommand

/-- CORE_START_DELAY (R166): with core_grp = 4 the controller starts core_delay ms after the last group. -/
def coreStartDelay (s : State) : State :=
  if s.pmb.phase = 5 ∧ s.pmb.due ≤ s.ts then s.groupCommand else s

/-- PMB_GROUP_TIMEOUT (R168). -/
def pmbGroupTimeout (s : State) : State :=
  let gr := if s.pmb.grp = 4 then 3 else s.pmb.grp
  if s.pmb.phase = 2 ∧ s.pmb.onT + s.rd PMB_GRP_t_on gr * msT ≤ s.ts then
    let m := s.notGood
    s.groupFail (if m = 0 then 3 else 0) m
  else s

/-- PMB_GROUP_RETRY (R168): the cooling time has passed and every member reads below 10 %. A group with a member that has become
UNREACHABLE fails the sequence (R165). -/
def pmbGroupRetry (s : State) : State :=
  let g := s.pmb.grp
  if s.pmb.phase ≠ 3 ∨ s.ts < s.pmb.due then s
  else if (s.members g).any fun r => s.railState r = 6 then s.seqFail g
  else if (s.members g).all fun r => decide (r ∈ s.pmb.low) then (s.pmbDrop fun o => o.purpose = 6).groupCommand
  else s

/-- PMB_GROUP_OFF_TIMEOUT (R169). -/
def pmbGroupOffTimeout (s : State) : State :=
  if s.pmb.phase = 4 ∧ s.pmb.grp < 4 ∧ s.pmb.onT + s.rd PMB_GRP_t_on s.pmb.grp * msT ≤ s.ts then
    let s := s.emit 10 3 []
    let s := if s.pmb.off then s else s.groupOff
    (s.pmbDrop fun o => o.purpose = 3 ∨ o.purpose = 4).downNext
  else s

/-! ### Sweeps and lost rails (R170) -/

/-- A rail leaves GOOD: LOST, or UNREACHABLE where its retries are spent; a critical one starts the power-down. -/
def State.railLost (s : State) (r st : Nat) : State :=
  let s := (s.setRail r st).emit 10 4 []
  if s.flag PMB_RAIL_crit r then s.powerDown else s

/-- PMB_SWEEP_START (R170). -/
def pmbSweepStart (s : State) : State :=
  if !s.clocked 10 || s.rd PMB_STAT_seq ≠ 3 then s
  else if (s.ts - s.pmb.upT) % (s.rd PMB_POLL_period * msT) ≠ 0 then s
  else if s.pmb.sweep then s.bump PMB_STAT_skip
  else if s.flag PMB_STAT_stuck then s
  else
    let ops := s.rails.flatMap fun r => s.railOps 7 r [0x8B, 0x96, 0x79]
    if ops.isEmpty then s else (s.setPmb { s.pmb with sweep := true, swE := 0 }).pmbQueue ops

/-- A sweep is over with its last transaction (R170). -/
def State.sweepEnd (s : State) : State := if s.pmb.q.any fun o => o.purpose = 7 then s else s.sweepStop

/-- An accepted READ_POUT of a sweep covers the span since the last one, or since the on instant (R170, R277). -/
def State.railPower (s : State) (r p : Nat) : State :=
  let t0 := match mfind s.pmb.railT r with
    | some t => t
    | none => mget s.pmb.onRail r s.ts
  let s := s.wr PMB_RAIL_P r p
  let e := p * (s.ts - t0) * 10000
  let s := s.setPmb { s.pmb with railT := mput s.pmb.railT r s.ts, swE := if s.pmb.sweep then s.pmb.swE + e else s.pmb.swE }
  if s.pmb.sweep then s else { s with acc := { s.acc with qa := s.acc.qa + e } }

/-! ### Results (R161, R165 to R171) -/

/-- A rail fails discovery (R165). -/
def State.discoverFail (s : State) (r cmd : Nat) : State :=
  let s := s.pmbDrop fun o => decide (o.purpose = 0) && decide (o.rail = r)
  (s.setRail r 6).emit 10 1 [r, cmd]

/-- A rail's group is the one that ramps. -/
def State.ramping (s : State) (r : Nat) : Bool := decide (s.pmb.phase = 2) && decide (s.rd PMB_RAIL_group r = s.pmb.grp)

/-- A rail stands GOOD or not after a reading (R164, R168, R170): in a group that ramps it is RAMPING again and a fault fails the group,
and in one that is up it is LOST. -/
def State.railJudge (s : State) (r : Nat) : State :=
  let st := s.railState r
  let fault := statusFault (s.rd PMB_RAIL_STAT_status r)
  if st = 2 ∧ s.railGood r then s.setRail r 3
  else if (st = 2 ∨ st = 3) ∧ s.ramping r ∧ fault then s.groupFail 1 (setBit 0 r true)
  else if st = 3 ∧ ¬ s.railGood r then (if s.ramping r then s.setRail r 2 else s.railLost r 5)
  else s

/-- A reading of STATUS_WORD. -/
def State.statusRead (s : State) (r w : Nat) : State := (s.wr PMB_RAIL_STAT_status r w).railJudge r

/-- A reading of READ_VOUT; the tracking master's goes to the regulator (R167). -/
def State.voutRead (s : State) (o : PmbOp) (y : Nat) : State :=
  let r := o.rail
  let v := voutUnits y (s.railExp r)
  let s := s.wr PMB_RAIL_V r v
  let s := if (o.purpose = 4 ∨ o.purpose = 6) ∧ s.below10 r ∧ ¬ r ∈ s.pmb.low then
      s.setPmb { s.pmb with low := r :: s.pmb.low } else s
  let s := if r = s.rd VRC_TRK_master ∧ (o.purpose = 2 ∨ o.purpose = 4) then trackDelivery (BitVec.ofNat 16 v) s else s
  if o.purpose = 7 ∧ s.railState r = 3 then s.railJudge r else s

/-- The alert response address answers (R171). -/
def State.araReply (s : State) (addr : Nat) : State :=
  let sec := s.ts / secT
  let n := (if s.pmb.araSec = sec then mget s.pmb.araN addr 0 else 0) + 1
  let s := s.setPmb { s.pmb with araSec := sec, noReply := none,
                                 araN := mput (if s.pmb.araSec = sec then s.pmb.araN else []) addr n }
  if 64 < n then (s.wr PMB_STAT_masked 0 1).emit 10 7 []
  else
    let rs := s.rails.filter fun r => s.rd PMB_RAIL_addr r = addr
    if rs.isEmpty then (s.bump PMB_STAT_unk).emit 10 6 []
    else
      (s.setPmb { s.pmb with ara := rs }).pmbNext (rs.flatMap fun r => s.railOps 9 r [0x79])

/-- The statuses of an alert have been read: its event, and CLEAR_FAULTS where auto_clear is 1; while the input stays low the steps
begin again (R171). -/
def State.alertStep (s : State) : State :=
  if s.pmb.q.any fun o => o.purpose = 9 then s
  else if s.pmb.ara.isEmpty then s.askAra
  else
    let rs := s.pmb.ara
    let s := (s.setPmb { s.pmb with ara := [] }).emit 10 5 []
    (if s.flag PMB_CTL_auto_clear then s.pmbNext (rs.flatMap fun r => s.railOps 10 r [0x03]) else s).askAra

/-- A transaction of a purpose and command succeeds with a data word. -/
def State.opDone (s : State) (o : PmbOp) (d : Nat) : State :=
  let r := o.rail
  if o.cmd = 0x00 then s else
  match o.purpose with
  | 0 =>
    match o.cmd with
    | 0x98 => if d % 256 = 0x22 ∨ d % 256 = 0x33 then s else s.discoverFail r 0x98
    | 0x20 =>
      if bits d 5 3 = 0 then s.setPmb { s.pmb with exps := mput s.pmb.exps r (bits d 0 5) } else s.discoverFail r 0x20
    | 0x02 => if (s.voutWord r).isSome then s else s.discoverFail r 0x21
    | 0x21 => s.setRail r 1
    | _ => s
  | 1 => if s.pmb.phase = 6 then s.groupOn else s
  | 3 => (if s.pmb.phase = 4 ∧ s.pmb.off = false then s.groupOff else s).pmbQueue (s.pollOps 4 o.grp)
  | 8 => s.araReply (bits d 1 7)
  | _ =>
    match o.cmd with
    | 0x8B => s.voutRead o d
    | 0x79 => s.statusRead r d
    | 0x96 => s.railPower r (linear11W d)
    | _ => s

/-- A rail's retries are spent: UNREACHABLE, and treated as LOST if it was GOOD (R171). -/
def State.railUnreached (s : State) (r : Nat) : State := if s.railState r = 3 then s.railLost r 6 else s.setRail r 6

/-- A transaction fails for good. A PAGE write lost at a group's start makes its rail UNREACHABLE, which fails the sequence (R165); an off
command that is not acknowledged is recorded and the power-down goes on (R172). -/
def State.opLost (s : State) (o : PmbOp) : State :=
  let r := o.rail
  if o.purpose = 0 then s.discoverFail r o.cmd
  else if o.purpose = 8 then
    match s.pmb.noReply with
    | none => s.setPmb { s.pmb with noReply := some s.ts }
    | some t => if t + 10 * msT ≤ s.ts then (s.wr PMB_STAT_masked 0 1).emit 10 7 [] else s
  else if r < 16 then
    let s := s.railUnreached r
    if o.purpose = 1 ∧ s.pmb.phase = 6 then (s.setPmb { s.pmb with phase := 0 }).seqFail o.grp else s
  else if o.purpose = 1 then (if s.pmb.phase = 6 then s.groupFail 2 0 else s)
  else if o.purpose = 3 then
    let s := s.emit 10 2 [o.grp, 0, 2]
    (if s.pmb.phase = 4 ∧ s.pmb.off = false then s.groupOff else s).pmbQueue (s.pollOps 4 o.grp)
  else s

/-- Polls go round while their phase lasts. -/
def State.pollAgain (s : State) (o : PmbOp) : State :=
  let again (p : Nat) : Bool := decide (o.purpose = p) && !(s.pmb.q.any fun x => x.purpose = p)
  if s.pmb.phase = 2 && again 2 then s.pmbQueue (s.pollOps 2 s.pmb.grp)
  else if s.pmb.phase = 4 && again 4 then s.pmbQueue (s.pollOps 4 s.pmb.grp)
  else if s.pmb.phase = 3 && again 6 then s.pmbQueue (s.pollOps 6 s.pmb.grp)
  else s

/-- Discovery is over when none of its transactions is left (R165, R166). -/
def State.discoverEnd (s : State) : State :=
  if s.rd PMB_STAT_seq = 1 && !(s.pmb.q.any fun o => o.purpose = 0) then (s.wr PMB_STAT_seq 0 2).upNext 0 true else s

/-- PMB_TRANSACTION_DONE (R160 to R171): the head of the bus queue ends with a data word, or fails: 1 NACK, 2 PEC mismatch, 3 stretched
too long. -/
def pmbTransactionDone (result : Fin 4) (data : BitVec 16) (s : State) : State :=
  if !s.clocked 10 || !s.pmb.busy then s else
  match s.pmb.q with
  | [] => s
  | o :: rest =>
    let group := decide (o.rail = 16)
    if result.val = 0 then
      let s := s.setPmb { s.pmb with q := rest, busy := false, tries := 0 }
      let s := s.opDone o data.toNat
      (((s.pollAgain o).sweepEnd).discoverEnd.pmbSettle).alertStep.pmbIssue
    else
      let s := if group then s else if result.val = 2 then s.bump PMB_RAIL_STAT_pec o.rail else s.bump PMB_RAIL_STAT_nack o.rail
      if !group && decide (s.pmb.tries < s.rd PMB_CTL_retries) then
        (s.setPmb { s.pmb with busy := false, tries := s.pmb.tries + 1 }).pmbIssue
      else
        let s := s.setPmb { s.pmb with q := rest, busy := false, tries := 0 }
        let s := s.opLost o
        (((s.pollAgain o).sweepEnd).discoverEnd.pmbSettle).alertStep.pmbIssue

/-! ### Alerts and the bus (R171) -/

/-- PMB_ALERT (R171, R530): the level of the alert input changes; low is asserted. -/
def pmbAlert (low : Bool) (s : State) : State :=
  if !s.clocked 10 then s
  else (s.setPmb { s.pmb with alert := low, noReply := if low then s.pmb.noReply else none }).askAra

/-- PMB_ALERT_MASK_END (R171): the second in which a storm masked the input is over. -/
def pmbAlertMaskEnd (s : State) : State :=
  if s.ts % secT = 0 then ((s.wr PMB_STAT_masked 0 0).setPmb { s.pmb with noReply := none }).askAra else s

/-- PMB_BUS_STUCK (R171): SDA or SCL held low for 35 ms: nine clocks and a stop, after which the bus may still be stuck. -/
def pmbBusStuck (still : Bool) (s : State) : State :=
  if !s.clocked 10 then s else
  let s := ((s.send .pmbusRecover).wr PMB_STAT_stuck 0 (b2n still)).emit 10 8 []
  (s.setPmb { s.pmb with busy := false }).pmbIssue

/-- PMB_BUS_FREE (R171). -/
def pmbBusFree (s : State) : State :=
  if s.flag PMB_STAT_stuck then ((s.wr PMB_STAT_stuck 0 0).setPmb { s.pmb with busy := false }).pmbIssue else s

/-- A take changes the target of a GOOD rail (R172). -/
def State.railTargetTaken (s : State) (r : Nat) : State :=
  if s.railState r = 3 then s.pmbNext (s.railOps 11 r [0x21]) else s

/-! ### The meanings -/

def execPmbTransactionDone (result : Fin 4) (data : BitVec 16) (s : State) : Ans := hubOn (pmbTransactionDone result data) s
def execPmbGroupStart (s : State) : Ans := hubOn pmbGroupStart s
def execPmbGroupTimeout (s : State) : Ans := hubOn pmbGroupTimeout s
def execPmbGroupRetry (s : State) : Ans := hubOn pmbGroupRetry s
def execPmbGroupOffTimeout (s : State) : Ans := hubOn pmbGroupOffTimeout s
def execPmbSweepStart (s : State) : Ans := hubOn pmbSweepStart s
def execPmbAlert (low : Bool) (s : State) : Ans := hubOn (pmbAlert low) s
def execPmbAlertMaskEnd (s : State) : Ans := hubOn pmbAlertMaskEnd s
def execPmbBusStuck (still : Bool) (s : State) : Ans := hubOn (pmbBusStuck still) s
def execPmbBusFree (s : State) : Ans := hubOn pmbBusFree s
def execCoreStartDelay (s : State) : Ans := hubOn coreStartDelay s

/-! The regulator's meanings, followed by what they mean for the sequences. -/

def execPidSample (v : BitVec 16) (s : State) : Ans := hubOn (pidSample v) s
def execVrefRampStep (s : State) : Ans := hubOn (fun s => (vrefRampStep s).pmbSettle) s
def execEnableDrop (s : State) : Ans := hubOn (fun s => (enableDrop s).pmbSettle) s
def execPwmPeriodStart (s : State) : Ans := hubOn (fun s => (pwmPeriodStart s).pmbSettle) s
def execPhaseLeadingEdge (phase : Fin 144) (s : State) : Ans := hubOn (phaseLeadingEdge phase) s
def execDeEnter (s : State) : Ans := hubOn deEnter s
def execITotFormed (s : State) : Ans := hubOn (fun s => (iTotFormed s).pmbSettle) s
def execUvTimeout (s : State) : Ans := hubOn (fun s => (uvTimeout s).pmbSettle) s
def execOverVoltage (s : State) : Ans :=
  hubOn (fun s => (let t := overVoltage s
         if s.rd VRC_STAT_state = 5 then s else t.powerDown.pmbSettle)) s
def execTrackDelivery (vm : BitVec 16) (s : State) : Ans := hubOn (trackDelivery vm) s
def execTrackHoldTimeout (s : State) : Ans := hubOn trackHoldTimeout s

end Sys2Proof.Machine
end

