-- ==== Sys2Proof/Machine/Estimator.lean ====
section
/-!
DEFINITION. Machine/Estimator.lean: the power estimate, measured energy, calibration and the anchors' conversions (R53 to R66, R115,
R125 to R127, R275 to R277, R501, R506).
-/
namespace Sys2Proof.Machine

/-! ### Core clocks -/

/-- Count a core's cycles through now: MHz times units over 800. -/
def State.countCycles (s : State) (c : Nat) : State :=
  let x := s.core c
  s.setCore c { x with cycles := if x.reset then x.cycles else x.cycles + s.coreMHz * (s.ts - x.cycT), cycT := s.ts }

/-! ### The estimate of a core (R60) -/

/-- vs of R60, u2f16; a reference of 0 leaves the quotient open. -/
def State.voltScale (s : State) : Nat :=
  let r := s.rdTick ACT_VREF
  if r = 0 then (Config.scaleAtZeroVref s.sns.estV).toNat else satU 18 (roundNE ((s.sns.estV * s.sns.estV * 65536 : Nat) : Int) (r * r))

/-- One weighted count, in 1/16, under its coefficient, u32f8: pJ before the voltage scale. -/
def rawEnergy (count coef : Nat) : Nat := roundNEN (count * coef) 4096

/-- The coefficient in force of an engine's class (R56). -/
def State.coefOf (s : State) (e k : Nat) : Nat := s.rd ACT_COEF_CAL (16 * e + clsIx e k)

/-- A record's energy before and after the voltage scale (R275). -/
def State.recRaw (s : State) (e : Nat) (r : Act) : Nat := rawEnergy r.count (s.coefOf e r.cls)
def scaled (raw vs : Nat) : Nat := roundNEN (raw * vs) 65536

/-- A map of weighted counts by class as energy (the merged record of R59 and the unknown begins of R64). -/
def State.mapRaw (s : State) (e : Nat) (m : SMap Nat) : Nat := sumN (m.map fun x => rawEnergy x.2 (s.coefOf e x.1))

def State.actOf (s : State) (core e : Nat) : EngAct := mget s.sns.acts (chokerOf core e) { }

/-- Energy of an engine's records before the voltage scale. -/
def State.engRaw (s : State) (core e : Nat) : Nat :=
  let a := s.actOf core e
  sumN (a.recs.map (s.recRaw e)) + s.mapRaw e a.merged + s.mapRaw e a.unk

/-- The leakage of a core in pJ: bilinear in ACT_LEAK, rounded once (R60). -/
def State.leakOf (s : State) (core : Nat) : Nat :=
  let v := clampN 2400 3800 s.sns.estV - 2400
  let t := clamp32 (s.tModel core) (f32Of 25 0) (f32Of 130 0)
  let q := if f32IsNaN t then 0 else (clampI 0 (105 * 2 ^ 19) (f32ToFix 19 t - 25 * 2 ^ 19)).toNat
  let vi := min 6 (v / 200)
  let ti := min 6 (q / (15 * 2 ^ 19))
  let fv := v - 200 * vi
  let ft := q - 15 * 2 ^ 19 * ti
  let l (a b : Nat) : Nat := s.rdTick ACT_LEAK (8 * a + b)
  let T := 15 * 2 ^ 19
  let w := (200 - fv) * ((T - ft) * l vi ti + ft * l vi (ti + 1)) + fv * ((T - ft) * l (vi + 1) ti + ft * l (vi + 1) (ti + 1))
  roundNEN (w * 125000) (200 * T)

/-- Whole core cycles of the open tick. -/
def State.cyclesOf (s : State) (core : Nat) : Nat := (s.core core).cycles / 800

/-- e(c) of R60 in pJ. -/
def State.coreEnergy (s : State) (core vs : Nat) : Nat :=
  let raw := sumTo 4 (s.engRaw core)
  roundNEN ((256 * raw + s.cyclesOf core * s.rdTick ACT_IDLE) * vs) (256 * 65536) + s.leakOf core

/-! ### Charging the estimate (R275, R276) -/

/-- A pending estimate saturates at 2^63 pJ (R286). -/
def capPend (n : Nat) : Nat := min (2 ^ 63) n

/-- A tenant's estimate takes n; what exceeds its limit falls to the house (R286). -/
def State.chargeTenant (s : State) (t n : Nat) : State :=
  let v := mget s.acc.tE t 0 + n
  { s with acc := { s.acc with tE := mput s.acc.tE t (capPend v), h := s.acc.h + (v - 2 ^ 63) } }

/-- A queue's estimate takes n: it is part of its tenant's, whose excess the house has. -/
def State.chargeQueue (s : State) (q n : Nat) : State :=
  { s with acc := { s.acc with qE := mput s.acc.qE q (capPend (mget s.acc.qE q 0 + n)) } }

/-- The house takes n, and its own excess with it. -/
def State.chargeHouse (s : State) (n : Nat) : State := { s with acc := { s.acc with h := s.acc.h + n } }

/-- The queue's owner, as the open tick takes it (R269, R288). -/
def State.queueOwner (s : State) (q : Nat) : Option Nat :=
  if s.rdTick ACT_QOWN_valid q = 1 then some (s.rdTick ACT_QOWN_tenant q) else none

/-- One record's energy goes to its tenant, and to its queue where the tenant owns it (R269, R275). -/
def State.chargeRec (s : State) (r : Act) (d : Nat) : State :=
  let s := s.chargeTenant r.tenant d
  let o := s.queueOwner r.queue
  if o = some r.tenant then s.chargeQueue r.queue d
  else (s.bump ACT_ACC_STAT_stray).emitLim 15 5 r.queue msT [r.queue, o.getD 0xFFFFFFFF, r.tenant]

/-- The records of a core that name a tenant, with their scaled energies. -/
def State.coreRecs (s : State) (core vs : Nat) : List (Act × Nat) :=
  (List.range 4).flatMap fun e => (s.actOf core e).recs.map fun r => (r, scaled (s.recRaw e r) vs)

/-- House records of a core, scaled (R59, R276). -/
def State.coreHouse (s : State) (core vs : Nat) : Nat :=
  sumTo 4 fun e => scaled (s.mapRaw e (s.actOf core e).merged) vs + scaled (s.mapRaw e (s.actOf core e).unk) vs

/-- The distinct keys of a list of pairs with their sums. -/
def sumsBy (l : List (Nat × Nat)) : SMap Nat := l.foldl (fun m x => mput m x.1 (mget m x.1 0 + x.2)) []

/-- The remainder of a core is divided among the tenants of its records, or goes to the house (R275). -/
def State.chargeRemainder (s : State) (recs : List (Act × Nat)) (rem : Nat) : State :=
  let dt := sumsBy (recs.map fun x => (x.1.tenant, x.2))
  let dc := sumN (dt.map (·.2))
  if s.rdTick ACT_ACC_CTL_idle_mode = 0 ∨ dc = 0 then s.chargeHouse rem
  else
    let s := dt.foldl (fun s t =>
      let part := rem * t.2 / dc
      let s := s.chargeTenant t.1 part
      let qs := sumsBy ((recs.filter fun x => x.1.tenant = t.1).map fun x => (x.1.queue, x.2))
      qs.foldl (fun s q => if s.queueOwner q.1 = some t.1 ∧ t.2 ≠ 0 then s.chargeQueue q.1 (part * q.2 / t.2) else s) s) s
    s.chargeHouse (rem - sumN (dt.map fun t => rem * t.2 / dc))

/-- Charge a core's tick. -/
def State.chargeCore (s : State) (core vs e : Nat) : State :=
  let recs := s.coreRecs core vs
  let house := s.coreHouse core vs
  let s := recs.foldl (fun s x => s.chargeRec x.1 x.2) s
  let s := s.chargeHouse house
  s.chargeRemainder recs (e - (sumN (recs.map (·.2)) + house))

/-! ### Regressors of the calibration (R125) -/

/-- The regressor's slot of an engine's class. -/
def calSlot (e k : Nat) : Nat :=
  let k := clsIx e k
  if e = 0 then (if k < 4 then k else 4) else if e = 1 then (if k < 5 then 5 + k else 10)
  else if e = 2 then (if k < 6 then 11 + k else 17) else if k < 6 then 18 + k else 24

/-- Weighted counts of the die by slot, in 1/16. -/
def State.calCounts (s : State) : SMap Nat :=
  sumsBy ((List.range 64).flatMap fun c => (List.range 4).flatMap fun e =>
    let a := s.actOf c e
    (a.recs.map fun r => (calSlot e r.cls, r.count)) ++ (a.merged.map fun x => (calSlot e x.1, x.2)) ++
      (a.unk.map fun x => (calSlot e x.1, x.2)))

/-- φ of R125, binary32. -/
def State.regressors (s : State) (vs : Nat) : List Nat :=
  let m := s.calCounts
  let cyc := sumTo 64 s.cyclesOf
  (List.range 32).map fun j =>
    if j < 25 then f32Of (mget m j 0 * vs : Nat) (-20) else if j = 25 then f32Of (cyc * vs : Nat) (-16) else 0

/-! ### The tick (R58 to R60) -/

/-- Volts of a 0.25 mV field in binary32 (R177). -/
def volts32 (v : Nat) : Nat := div32 (f32Of v 0) (f32Of 4000 0)

/-- The sources an estimator tick publishes (R115, R177). DESIGN CHOICE (log entry 166): the maximum over the windows counted from the
tick takes each window at its first instant. -/
def State.publishTick (s : State) (es : List Nat) : State :=
  let est := s.rd ACT_EST_DIE
  let v := volts32 s.sns.estV
  let mega := f32Of 1000000 0
  let s := s.publish 0x02 0 (div32 (f32Of est (-3)) v) true
  let s := s.publish 0x05 0 (f32Of est (-3)) true
  let s := foldTo 64 s fun s c =>
    let w := div32 (f32Of (es.getD c 0) 0) mega
    let run := !(s.core c).reset
    (s.publish 0x03 c (div32 w v) run).publish 0x06 c w run
  let h := s.rd FCS_LP_horizon
  let mx (f : Nat → Nat) : Nat := (List.range h).foldl (fun m w => max m (f (s.ts + 20 * w))) 0
  let s := s.publish 0x0C 0 (f32Of (mx s.dieFc) (-8)) true
  foldTo 64 s fun s c => s.publish 0x0D c (f32Of (mx (s.fcAt c)) (-5)) true

/-- Source 0x0A: each tenant's increment of the tick (R177), from the pending estimates before and after charging. -/
def State.publishTenants (s : State) (before : SMap Nat) : State :=
  foldTo 512 s fun s t =>
    s.publish 0x0A t (div32 (f32Of (mget s.acc.tE t 0 - mget before t 0 : Nat) 0) (f32Of 1000000 0)) true

/-- v_avg of R149: the samples of the tick that closes. -/
def State.closeVolts (s : State) : State :=
  let xs := s.sns.vHist.filter fun e => decide (s.ts ≤ e.1 + usT) && decide (e.1 < s.ts)
  { s with vrc := { s.vrc with vSum := sumN (xs.map (·.2)), vCnt := xs.length } }

/-- The base coefficients as the start of θ (R127). -/
def State.thetaBase (s : State) : SMap Nat :=
  (List.range 32).map fun j =>
    (j, if j < 5 then f32Of (s.rd ACT_COEF (if j < 4 then j else 15)) (-8)
        else if j < 11 then f32Of (s.rd ACT_COEF (16 + if j < 10 then j - 5 else 15)) (-8)
        else if j < 18 then f32Of (s.rd ACT_COEF (32 + if j < 17 then j - 11 else 15)) (-8)
        else if j < 25 then f32Of (s.rd ACT_COEF (48 + if j < 24 then j - 18 else 15)) (-8)
        else if j = 25 then f32Of (s.rd ACT_IDLE) (-8) else 0)

/-- P as a reset leaves it: 2^p0_exp on the diagonal (R127). -/
def pDiag (e : Nat) : SMap Nat := (List.range 32).map fun i => (33 * i, f32Of 1 (sgn 8 e))
def State.pReset (s : State) : SMap Nat := pDiag (s.rd FCS_CAL_p0_exp)

/-- R63, R127: a take that changed ACT_COEF restarts calibration at this tick. -/
def State.applyCoefNew (s : State) : State :=
  if s.sns.coefNew then
    let s := foldTo 64 s fun s k => s.wr ACT_COEF_CAL k (s.rd ACT_COEF k)
    { s with sns := { s.sns with coefNew := false }, fcs := { s.fcs with theta := s.thetaBase, p := s.pReset, thetaSet := true } }
  else s

/-- The tenants that hold an object that is not FREE (R272). -/
def State.holdingTenants (s : State) : List Nat :=
  ((sumsBy ((s.tly.objs.filter fun o => o.2.state ≠ 0).map fun o => (o.2.tenant, 1))).map (·.1))

/-- The millisecond that ends at this boundary is closed for the accounts (R275 to R278). -/
def State.closeMs (s : State) : State :=
  let r : MsRec := { b := s.ts, tE := s.acc.tE, qE := s.acc.qE, h := s.acc.h, qa := s.acc.qa, fill := s.acc.fill, held := s.holdingTenants }
  { s with acc := { s.acc with tE := [], qE := [], h := 0, wait := s.acc.wait ++ [r], gap := s.acc.gap || !s.fwRunning 1 } }

/-- Registers that report the last millisecond (R544), and what starts anew with one. -/
def State.msBoundary (s : State) : State :=
  -- telemetry: degraded lanes and shares (R48, R52)
  let s := foldTo 18 s fun s l =>
    let x := s.tlane l
    (if x.crcMs ≤ 64 then s.wr SNS_TLM_STAT_degraded l 0 else s).setTlane l { x with crcMs := 0 }
  let s := if s.sns.msClean && !s.vrc.order.isEmpty then
      let s := foldTo 144 s fun s p =>
        s.setPh p { s.ph p with share := if s.phaseOn p then (s.ph p).sumMs else 0, shareOld := (s.ph p).share }
      let s := { s with sns := { s.sns with haveOld := s.sns.haveShare, shareT := s.ts } }
      { s with sns := { s.sns with haveShare := decide (s.shareSum s.ts ≠ 0) } }
    else s
  let s := foldTo 144 s fun s p => s.setPh p { s.ph p with sumMs := 0 }
  let dirty := (List.range 144).any fun p => decide (s.quality p ≠ 0) && decide (s.quality p ≠ 6)
  let s := { s with sns := { s.sns with calPaused := s.sns.calPause, calPause := dirty || s.fbInForce, msClean := !dirty } }
  -- forecasts (R130)
  let s := (s.wr FCS_ARR_STAT_util 0 (min 255 (roundNEN (s.fcs.passes * 100) (8 * msT)))).wr FCS_ARR_STAT_qmax 0 (min 15 s.fcs.deepQ)
  { s with fcs := { s.fcs with passes := 0, deepQ := (List.range 8).foldl (fun m b => max m (s.sliceLoad b)) 0 } }

/-- The die's counters are zeroed. -/
def State.cntClearDie (s : State) : State :=
  let s := { s with cnt := s.cnt.filter fun k => 2000 ≤ k.1 }
  let s := foldTo 64 s (fun s c => s.wr CNT_TAP_VIOL_count c 0)
  foldTo 18 s (fun s l => s.wr SNS_TLM_CNT_dup l 0)

/-- A tenant's counters and those of the queues it owns are zeroed. -/
def State.cntClearTenant (s : State) (t : Nat) : State :=
  { s with cnt := s.cnt.filter fun k =>
    !(decide (2000 + 16 * t ≤ k.1) && decide (k.1 < 2016 + 16 * t)) &&
    !(decide (20000 ≤ k.1) && decide (s.rd ACT_QOWN_valid ((k.1 - 20000) / 3) = 1 ∧ s.rd ACT_QOWN_tenant ((k.1 - 20000) / 3) = t)) }

/-- The CNT_CTL zeroes that this boundary acts on: those handed on before it (R506). -/
def State.zeroesDue (s : State) : List CntZero := s.cntZero.filter fun z => decide (z.since < s.ts)

/-- Pending CNT_CTL zeroes act at this boundary (R506). -/
def State.cntClear (s : State) : State :=
  let s := s.zeroesDue.foldl (fun s z => if z.set = 1 then s.cntClearDie else s.cntClearTenant z.tenant) s
  { s with cntZero := s.cntZero.filter fun z => decide (s.ts ≤ z.since) }

/-- What a tick leaves for the thermal steps: the estimated core energies of tick n (R206). -/
def State.thmTick (s : State) (n : Nat) : State :=
  let e := (List.range 64).map fun c => mget s.sns.eCore c 0
  { s with thm := { s.thm with est := (mput s.thm.est n e).filter fun q => decide (n ≤ q.1 + 1010) } }

/-- The measured energy of a final tick for the thermal steps, in 1/32 pJ (R206). -/
def State.thmMeas (s : State) (n cv : Nat) : State :=
  { s with thm := { s.thm with meas := (mput s.thm.meas n (25 * cv)).filter fun q => decide (n ≤ q.1 + 1010) } }

/-- The open tick closes at this boundary (R58 to R60, R64, R115, R149, R275, R276, R501). -/
def estimatorTick (s : State) : State :=
  let n := s.ts / usT - 1
  let s := foldTo 64 s State.countCycles
  let vs := s.voltScale
  let es := (List.range 64).map fun c => s.coreEnergy c vs
  let leaks := sumTo 64 s.leakOf
  let die := sumN es
  -- core cycles count (R503)
  let s := foldTo 64 s fun s c => (s.count (cntCore c 3) (s.cyclesOf c)).count (cntDie 4) (s.cyclesOf c)
  -- energies for the thermal model and the accounts
  let eng := (List.range 256).filterMap fun k =>
    let v := scaled (s.engRaw (k / 4) (k % 4)) vs
    if v = 0 then none else some (k, v)
  let before := s.acc.tE
  let t := mget s.sns.ticks n { }
  let t := { t with closed := true, est := die, leak := leaks, vref := s.sns.estV, vs := vs, phi := s.regressors vs }
  let s := foldTo 64 s fun s c => s.chargeCore c vs (es.getD c 0)
  let s := s.chargeHouse (s.rdTick ACT_SELF_self * 125000)
  let s := s.wr ACT_EST_DIE 0 (satU 32 (roundNE ((die : Nat) : Int) 125000))
  let s := { s with sns := { s.sns with ticks := mput s.sns.ticks n t, estPj := die, estVr := s.sns.estV, eEng := eng, ticked := n + 1,
                                        eCore := (List.range 64).map fun c => (c, es.getD c 0) } }
  let s := ((s.publishTick es).publishTenants before).thmTick n
  let s := s.closeVolts.peakTick.deTrack
  -- the next tick
  let s := foldTo 64 s fun s c => s.setCore c { s.core c with cycles := (s.core c).cycles % 800 }
  let s := s.applyCounts.cntClear
  let s := { s with sns := { s.sns with acts := [], old := [], estV := s.rd VRC_VREF_vref } }
  let s := s.applyCoefNew
  if s.ts % msT = 0 then s.closeMs.msBoundary else s

/-! ### Calibration (R62, R125 to R127) -/

def State.theta (s : State) (j : Nat) : Nat := mget (if s.fcs.thetaSet then s.fcs.theta else s.thetaBase) j 0

/-- P[i][j]; as the block's reset leaves it, with p0_exp at its reset value (R127). -/
def State.pAt (s : State) (i j : Nat) : Nat :=
  mget (if s.fcs.p.isEmpty then pDiag (FCS_CAL_p0_exp.resetVal s.fuse 0) else s.fcs.p) (32 * i + j) 0

/-- One row times a vector in the three-product form, segment length 64, padded with +0 (R99, R126). -/
def row3 (m v : List Nat) : Nat :=
  let pad (l : List Nat) : List Nat := l ++ List.replicate 32 0
  let mh := pad (m.map splitHi); let ml := pad (m.map splitLo)
  let vh := pad (v.map splitHi); let vl := pad (v.map splitLo)
  add32 (add32 (add32 0 (dot32 mh vh)) (dot32 mh vl)) (dot32 ml vh)

/-- λ of R126. -/
def State.lambda (s : State) : Nat := f32Of ((2 ^ 24 - s.rd FCS_CAL_lam : Nat) : Int) (-24)

/-- A NaN or an infinity among a program's results sets the sticky flags (R98, R129). -/
def State.arrFlags (s : State) (program slice : Nat) (ws : List Nat) : State :=
  let nan := ws.any f32IsNaN
  let inf := ws.any f32IsInf
  let first := (nan && !s.flag FCS_ARR_STAT_nan) || (inf && !s.flag FCS_ARR_STAT_inf)
  let s := if nan then s.wr FCS_ARR_STAT_nan 0 1 else s
  let s := if inf then s.wr FCS_ARR_STAT_inf 0 1 else s
  if first then s.emit 12 6 [program, slice] else s

/-- P is reset and θ is kept (R127). -/
def State.calReset (s : State) (reason tick : Nat) : State :=
  let s := { s with fcs := { s.fcs with p := s.pReset } }
  (s.bump FCS_CAL_STAT_resets).emit 12 5 [reason, (tick * usT) % 2 ^ 32]

/-- The slice-passes of an update: one for each product of the three-product form (R93, R126). -/
def calPasses : Nat := 3

/-- One update for a tick with measured sum cv (R126). -/
def State.calUpdate (s : State) (tick : Nat) (t : Tick) (cv : Nat) : State :=
  let phi := t.phi
  let y := f32Of (25 * (cv : Int) - 32 * t.leak) (-5)
  let ix := List.range 32
  let lam := s.lambda
  let inv := div32 f32One lam
  let g := ix.map fun i => row3 (ix.map (s.pAt i)) phi
  let den := ix.foldl (fun d j => add32 d (mul32 (phi.getD j 0) (g.getD j 0))) lam
  if !f32Finite den || le32 den 0 then s.calReset 0 tick else
  let e := ix.foldl (fun e j => add32 e (neg32 (mul32 (s.theta j) (phi.getD j 0)))) y
  let k := ix.map fun i => div32 (g.getD i 0) den
  let th := ix.map fun i => (i, add32 (s.theta i) (mul32 (k.getD i 0) e))
  let p := ix.flatMap fun i => ix.map fun j =>
    (32 * i + j, mul32 (add32 (s.pAt i j) (neg32 (mul32 (k.getD i 0) (g.getD j 0)))) inv)
  let s := { s with fcs := { s.fcs with theta := th, thetaSet := true, p := p, passes := s.fcs.passes + calPasses } }
  let s := s.bump FCS_CAL_STAT_upd
  let s := s.arrFlags 2 (Config.calSlice tick).toNat ((th ++ p).map (·.2))
  if ix.any fun i => !f32Finite (s.pAt i i) || le32 (s.pAt i i) 0 then s.calReset 1 tick else s

/-- Fill samples of a tick and their code times v_sense (R48, R61): each phase without a sample of an interval in which it was
enabled. -/
def State.tickFill (s : State) (n : Nat) (t : Tick) : Nat × Nat :=
  (List.range 10).foldl (fun a k =>
    let sl := mget t.slots k { }
    let i := n * usT + 80 * k
    let v := vAt s.sns.vHist i
    let e := s.phAt i
    (List.range 144).foldl (fun a p =>
      if bit sl.got p || !bit e.on p then a else (a.1 + 1, a.2 + s.fill p t.est t.vref e.n i * v)) a) (0, 0)

/-- The mean of v_sense over a tick, in volts (R177). -/
def State.tickVolts (s : State) (n : Nat) : Nat :=
  let xs := s.sns.vHist.filter fun e => decide (n * usT ≤ e.1) && decide (e.1 < (n + 1) * usT)
  div32 (div32 (f32Of (sumN (xs.map (·.2))) 0) (f32Of xs.length 0)) (f32Of 4000 0)

/-- Glatos D's source 0x07: this die's term goes over the bridge (R367), and the other die's latest is added while PAIRED; in SPLIT it
is this die's alone (R372). -/
def State.publishPair (s : State) (n pkg : Nat) (ok : Bool) : State :=
  let mine := satU 32 (f32ToFix 3 pkg)
  let s := if s.par.up && !s.par.lost then
      s.bridgeSend 0x0D (leBytes 4 mine ++ leBytes 4 0 ++ leBytes 8 ((n + 1) * usT)) else s
  s.publish 0x07 0 (if s.pState = 2 then add32 pkg (f32Of s.par.otherP (-3)) else pkg) ok

/-- The package sources of a final tick (R177). -/
def State.publishMeas (s : State) (n : Nat) : State :=
  let p := s.rd ACT_MEAS_DIE
  let ok := decide (s.rd ACT_MEAS_FILL * 100 ≤ s.rd LPE_GUARD_fill_max * 1440)
  let w := f32Of p (-3)
  let i := div32 w (s.tickVolts n)
  let rails := s.rails
  let reach := rails.all fun r => decide (s.railState r ≠ 6)
  let pkg := add32 w ((List.range 16).foldl (fun a r => add32 a (f32Of (s.rd PMB_RAIL_P r) (-3))) 0)
  let slope := add32 i (neg32 s.sns.isrc)
  let slopeOk := ok && s.sns.isrcOk
  let s := s.publish 0x01 0 i ok
  let s := s.publish 0x04 0 w ok
  let s := if s.isD then s.publishPair n pkg (ok && reach) else s.publish 0x07 0 pkg (ok && reach)
  let s := s.publish 0x09 0 slope slopeOk
  { s with sns := { s.sns with isrc := i, isrcOk := ok && f32Finite i } }

/-- The last tick of a millisecond is final: its boundary's Q_c is known (R277, R278). -/
def State.noteQc (s : State) (b : Nat) : State :=
  { s with acc := { s.acc with wait := s.acc.wait.map fun r => if r.b = b then { r with qc := some s.acc.qc, fill := s.acc.fill } else r } }

/-- DESIGN CHOICE (log entry 159): the power compared is the one published, ACT_MEAS_DIE. Measured power below 50 W pauses calibration for its millisecond, the open one or the last (R62). -/
def State.lowPower (s : State) (cur : Bool) : State :=
  let low := decide (s.rd ACT_MEAS_DIE < 400)
  let x : Sns := s.sns
  { s with sns := { x with calPause := x.calPause || (low && cur), calPaused := x.calPaused || (low && !cur) } }

/-- MEAS_FINALISE (R61, R126, R277): at the end of the second tick after it, a tick's measured energy is final. -/
def measFinalise (s : State) : State :=
  let n := s.ts / usT - 3
  if !s.running || s.ts % usT ≠ 0 || decide (s.ts < 3 * usT) || decide (n < s.sns.nextFin) then s else
  let t := mget s.sns.ticks n { }
  let f := s.tickFill n t
  let cv := sumN (t.slots.map fun x => x.2.cv) + f.2
  let s := { s with sns := { s.sns with ticks := s.sns.ticks.filter fun x => n < x.1, nextFin := n + 1 },
                    acc := { s.acc with qc := s.acc.qc + 50 * cv, fill := s.acc.fill + f.1 } }
  let s := s.wr ACT_MEAS_DIE 0 (satU 32 (roundNE ((cv : Nat) : Int) 160000))
  let s := s.wr ACT_MEAS_FILL 0 f.1
  let s := if (n + 1) * usT % msT = 0 then s.noteQc ((n + 1) * usT) else s
  let s := (s.publishMeas n).thmMeas n cv
  let cur := decide (n * usT / msT = s.ts / msT)
  let s := s.lowPower cur
  let paused := if cur then s.sns.calPause else s.sns.calPaused
  if t.closed && s.flag ACT_CTL_cal_en && s.clocked 12 && !paused && !s.sns.coefNew then s.calUpdate n t cv else s

/-- The fitted coefficient of an engine's class, u32f8 (R127). -/
def State.fitted (s : State) (e k : Nat) : Nat := satU 32 (f32ToFix 8 (s.theta (calSlot e k)))

/-- CALIBRATION_APPLY (R62): at the first tick of a millisecond the clamped coefficients come into force. -/
def calibrationApply (s : State) : State :=
  if !s.running || s.ts % msT ≠ 0 || s.sns.calPaused || !s.flag ACT_CTL_cal_en then s else
  let pct := s.rd ACT_CAL_LIM_pct
  let lim (k : Nat) : Nat × Nat :=
    let b := s.rd ACT_COEF k
    (roundNEN (b * (100 - pct)) 100, min (2 ^ 32 - 1) (roundNEN (b * (100 + pct)) 100))
  let acted := (List.range 64).any fun k => let v := s.fitted (k / 16) (k % 16); decide (v < (lim k).1) || decide ((lim k).2 < v)
  let s' := foldTo 64 s fun u k => u.wr ACT_COEF_CAL k (clampN (lim k).1 (lim k).2 (s.fitted (k / 16) (k % 16)))
  if acted then s'.emitLim 15 2 0 msT [] else s'

/-! ### Anchors (R53 to R55) -/

/-- The own node of an anchor (R205). -/
def ownNode (a : Nat) : Nat := if a < 64 then 4 * a else 192 + a

/-- An anchor is healthy: neither broken nor flagged, and the anchors are on (R215, R219). -/
def State.anchorOk (s : State) (a : Nat) : Bool :=
  s.flag SNS_CTL_anc_en && !s.flag SNS_ANC_broken a && !s.flag SNS_ANC_fault a

/-- ANCHOR_PUBLISH (R54, R55): at a 1 ms boundary every anchor reports the mean of its conversions; the health that held before it is
kept for the judging of R215. -/
def anchorPublish (s : State) : State :=
  if !s.running || s.ts % msT ≠ 0 || !s.flag SNS_CTL_anc_en || decide (s.sns.ancT = some s.ts) then s else
  let s := { s with thm := { s.thm with health := (List.range 128).map fun a => (a, s.anchorOk a) } }
  let s := foldTo 128 s fun s a =>
    let xs := mget s.sns.ancConv a []
    let bad := mget s.sns.ancBad a false || xs.isEmpty
    let was := s.flag SNS_ANC_fault a
    let s := if xs.isEmpty then s else s.wr SNS_ANC_value a (satS 16 (roundNE ((xs.map fun w => sgn 16 w).sum) xs.length))
    let s := s.wr SNS_ANC_fault a (b2n bad)
    if bad && !was then s.emit 7 10 [] else s
  { s with sns := { s.sns with ancConv := [], ancBad := [], ancT := some s.ts } }

/-! ### The meanings -/

def execMeasFinalise (s : State) : Ans := hubOn measFinalise s
def execCalibrationApply (s : State) : Ans := hubOn calibrationApply s
def execAnchorPublish (s : State) : Ans := hubOn anchorPublish s

end Sys2Proof.Machine
end

