-- ==== Sys2Proof/Machine/Forecast.lean ====
section
/-!
DEFINITION. Machine/Forecast.lean: when forecasts are made and what their outputs do (R101 to R123), and the fit checks of an image
(R109 to R111).
-/
namespace Sys2Proof.Machine

/-- A snapshot skipped for a stopped clock: the core's forecast is 0 A from here on (R107). -/
def State.skipStopped (s : State) (core : Nat) : State :=
  let f := s.fc core
  (s.setFc core { f with applied := true, appSnap := s.ts, y := [], stat := false, prompt := false }).formFF

/-- PERIODIC_SNAPSHOT (R102, R107, R122). -/
def periodicSnapshot (core : Fin 64) (s : State) : State :=
  let c := core.val
  if !s.running || s.ts % 80 ≠ 10 * (c / 8) || !s.clocked 12 || !s.flag FCS_CTL_fc_en then s
  else if (s.core c).reset then s.skipStopped c
  else if s.flag FCS_CORE_fallback c || !s.gapPassed c then s
  else s.snapshot c

/-- PROMPT_SNAPSHOT (R102, R123): a DISPATCH waits for one, or the core has just left fallback. -/
def promptSnapshot (core : Fin 64) (s : State) : State :=
  let c := core.val
  let f := s.fc c
  if s.running && s.mayForecast c && ((f.prompt && s.flag FCS_CTL_prompt_en) || f.atOnce) && s.gapPassed c then s.snapshot c else s

/-- A job's output: 0 A in every window from a slot that was not FIT (R108). -/
def FcJob.output (j : FcJob) : List Nat := if j.fit then evalModel j.image j.x else []

/-- FORECAST_OUTPUT (R105, R106, R114, R122): the oldest forecast of a slice completes. -/
def forecastOutput (slice : Fin 8) (s : State) : State :=
  if !s.clocked 12 then s else
  match s.fcs.queue.find? fun j => j.slice = slice.val with
  | none => s
  | some j =>
    let y := j.output
    let s := { s with fcs := { s.fcs with queue := s.fcs.queue.erase j } }
    let s := if j.fit then s.arrFlags 0 slice.val (evalResults j.image j.x) else s
    let s := s.outputArrived j.core j.snap y
    let f := s.fc j.core
    if s.flag FCS_CORE_fallback j.core || (f.applied && decide (j.snap < f.appSnap)) then s
    else (s.setFc j.core { f with applied := true, appSnap := j.snap, y := y, stat := false }).formFF

/-- The hub's view of a core's LN_MODE moves (R121). -/
def State.setLn (s : State) (c : Nat) (level : Bool) : State :=
  let s := s.setCore c { s.core c with lnMode := level }
  if !s.clocked 12 then s
  else
    let ln0 := s.flag FCS_CORE_ln c
    let fs := s.flag FCS_CORE_force_static c
    (s.wr FCS_CORE_ln c (b2n level)).moveFallback c ln0 fs

/-- LN_MODE_CHANGE (R121, R531): the crossed level changes; nothing crosses while the core is in reset. -/
def lnModeChange (core : Fin 64) (level : Bool) (s : State) : State :=
  if (s.core core).reset then s else s.setLn core.val level

/-! ### The fit checks (R111) -/

def imgF8Ok (b : Nat) : Bool := decide (b % 128 ≠ 0x7F)

/-- Checks 4 to 9 of R111 on an image: the first that fails, or 0. -/
def fitCheck (img : List Byte) (length : Nat) : Nat :=
  let u8 (o : Nat) : Nat := imgU img o 1
  let mode := u8 5
  let ws := (img.drop 64).take 12288
  let bias (o n : Nat) : List Nat := (List.range n).map fun k => imgU img (o + 4 * k) 4
  let sumAbs (o n : Nat) : Nat := sumN (((img.drop o).take n).map fun b => (sgn 8 b.toNat).natAbs)
  if length ≠ 12992 then 4
  else if imgU img 0 4 ≠ 0x314D4651 ∨ u8 4 ≠ 0x10 ∨ 1 < mode ∨ u8 6 ≠ 64 ∨ u8 7 ≠ 128 ∨ u8 8 ≠ 32 ∨ u8 11 ≠ 0
      ∨ ((img.drop 32).take 32).any (· ≠ 0) then 5
  else if imgU img 28 4 ≠ crcBytes ((img.drop 64).take 12928) then 6
  else if mode = 0 ∧ (imgU img 12 2 = 0 ∨ imgU img 14 2 = 0 ∨ 47 < u8 9 ∨ 47 < u8 10) then 7
  else if mode = 1 ∧ (ws.any (fun b => !imgF8Ok b.toNat) ∨ !f32Finite (imgU img 16 4) ∨ !lt32 0 (imgU img 16 4)
      ∨ !f32Finite (imgU img 20 4) ∨ !lt32 0 (imgU img 20 4)
      ∨ (bias 12352 128 ++ bias 12864 32).any fun b => !f32Finite b || lt32 (f32Of (2 ^ 24) 0) (abs32 b)) then 7
  else if mode = 0 ∧ ((List.range 128).any (fun i => decide (2 ^ 31 - 1 <
        (sgn 32 (imgU img (12352 + 4 * i) 4)).natAbs + 128 * sumAbs (64 + 64 * i) 64))
      ∨ (List.range 32).any fun o => decide (2 ^ 31 - 1 <
        (sgn 32 (imgU img (12864 + 4 * o) 4)).natAbs + 127 * sumAbs (8256 + 128 * o) 128)) then 8
  else if (List.range 128).any fun i => [61, 62, 63].any fun j =>
      let b := u8 (64 + 64 * i + j)
      decide (b ≠ 0) && !(decide (mode = 1) && decide (b = 0x80)) then 9
  else 0

/-- The slot becomes FIT with an image, or FAILED with nothing (R110, R130). -/
def State.setSlot (s : State) (slot : Nat) (img : List Byte) (ok : Bool) : State :=
  let s := { s with hub := { s.hub with wrote := s.hub.wrote.filter fun e => !((List.range 8).any fun b => slotWord b slot e.1) } }
  if ok then
    let s := { s with fcs := { s.fcs with models := mput s.fcs.models slot img } }
    ((s.wr FCS_SLOT_state slot 2).wr FCS_SLOT_mode slot (imgU img 5 1)).wr FCS_SLOT_ID_ident slot (imgU img 24 4)
  else
    ({ s with fcs := { s.fcs with models := mdel s.fcs.models slot } }).wr FCS_SLOT_state slot 3

def execPeriodicSnapshot (core : Fin 64) (s : State) : Ans := hubOn (periodicSnapshot core) s
def execPromptSnapshot (core : Fin 64) (s : State) : Ans := hubOn (promptSnapshot core) s
def execForecastOutput (slice : Fin 8) (s : State) : Ans := hubOn (forecastOutput slice) s
def execLnModeChange (core : Fin 64) (level : Bool) (s : State) : Ans := hubOn (lnModeChange core level) s

end Sys2Proof.Machine
end

