-- ==== Sys2Proof/Machine/Loop.lean ====
section
/-!
DEFINITION. Machine/Loop.lean: the loop engine: releases, skips and evaluations of contexts (R174 to R203) and the snapshot of one
(R204).
-/
namespace Sys2Proof.Machine

/-- The period of a context in µs, as an integer and in binary32 (R176). -/
def periodUs (g : Nat) : Nat := 2 ^ cK g
def period32 (g : Nat) : Nat := f32Of (periodUs g) 0

/-! ### Releases (R184, R186, R198) -/

/-- The order in which releases are issued: earliest deadline, smallest k, lowest context (R186). -/
def relBefore (a b : Rel) : Bool :=
  if a.dead ≠ b.dead then decide (a.dead < b.dead) else if a.k ≠ b.k then decide (a.k < b.k) else decide (a.ctx < b.ctx)

/-- The release that the queue issues next. -/
def State.relHead (s : State) : Option Rel :=
  match s.lpe.queue with
  | [] => none
  | r :: t => some (t.foldl (fun m x => if relBefore x m then x else m) r)

/-- Bit n of a bit array of 32-bit registers. -/
def State.setFlagBit (s : State) (f : Fld) (n : Nat) (b : Bool) : State := s.wr f (n / 32) (setBit (s.rd f (n / 32)) (n % 32) b)

/-- A release is dropped and counts as a skip (R198, R199). -/
def State.skipRelease (s : State) (n : Nat) : State :=
  let x := s.ctx n
  let run := min 255 (x.skipRun + 1)
  let x := { x with skipRun := run, skips := (x.skips + 1) % 65536, onTime := 0, ovr := x.ovr || decide (4 ≤ run),
                    ovrT := if !x.ovr && decide (4 ≤ run) then some s.ts else x.ovrT }
  let l := s.lpe
  let s := { s with lpe := { l with skipMs := l.skipMs + 1, skipLow := min l.skipLow n } }
  ((s.setCtx n x).setFlagBit LPE_OVR n x.ovr).bump LPE_STAT_skips

/-- LOOP_RELEASE (R184): a context's release instant; overrun says that the crossing is full and drops the release (R388). -/
def loopRelease (n : Fin 4096) (overrun : Bool) (s : State) : State :=
  let g := (s.ctx n).cfg
  let on := decide (cKind g = 1 ∨ cKind g = 2)
  let due := decide (s.ts % usT = 0) && decide (s.ts / usT % periodUs g = cPhase g)
  let again := s.lpe.queue.any fun r => r.ctx = n.val ∧ r.rel = s.ts
  if !s.running || !s.clocked 13 || !on || !due || again then s
  else if overrun then (s.skipRelease n).crossOvr 7
  else
    let r : Rel := { ctx := n, rel := s.ts, dead := s.ts + usT * periodUs g, k := cK g, cfg := g }
    { s with lpe := { s.lpe with queue := s.lpe.queue ++ [r], deepQ := max s.lpe.deepQ (s.lpe.queue.length + 1) } }

/-- LOOP_SKIP (R198): the release first in the order is still queued when its deadline comes. -/
def loopSkip (s : State) : State :=
  match s.relHead with
  | some r =>
    if s.clocked 13 && decide (r.dead ≤ s.ts) then
      ({ s with lpe := { s.lpe with queue := s.lpe.queue.erase r } }).skipRelease r.ctx
    else s
  | none => s

/-! ### Sources and set-points (R177 to R180) -/

/-- A FILT signal as readable at an instant: the value not yet readable gives way to the one before it (R178). -/
def readable (x : Src) (t : Nat) : Src :=
  match x.nxt with
  | some (v, ok, ts, at') => if at' ≤ t then { x with val := v, valid := ok, ts := ts, ever := true, nxt := none } else x
  | none => x

/-- A context stands in OVERRUN as the readers of its signal see it in the microsecond of t: a change is seen from the next boundary on
(R178). -/
def Ctx.ovrSeen (x : Ctx) (t : Nat) : Bool :=
  match x.ovrT with
  | some c => if c / usT = t / usT then !x.ovr else x.ovr
  | none => x.ovr

/-- The source a source word names, as it stands now; 0x00 is always invalid, a signal while its context is OFF or in OVERRUN
(R177, R191), a node's while the model is not in RUN (R221). -/
def State.source (s : State) (w : Nat) : Src :=
  let x := readable (s.srcAt (srcCode w) (srcIndex w)) s.ts
  if srcCode w = 0 then { x with valid := false }
  else if srcCode w = 0x08 then { x with valid := x.valid && decide (s.rd THM_STAT_state = 2) }
  else if srcCode w = 0x0B then
    let c := s.ctx (srcIndex w)
    { x with valid := x.valid && decide (cKind c.cfg = 2) && !c.ovrSeen s.ts }
  else x

/-- P_s of a source, in µs (R177). -/
def State.nominal (s : State) (w : Nat) : Nat :=
  if srcCode w = 0x08 then s.rd THM_STEP_period else if srcCode w = 0x0B then periodUs (s.ctx (srcIndex w)).cfg else 1

/-- The predicted load beside an input, 0 A where it is missing (R179, R193). -/
def State.predicted (s : State) (w : Nat) : Nat :=
  let p := if srcCode w = 0x03 then s.source (0x0D + 64 * srcIndex w) else s.source 0x0C
  if p.valid then p.val else 0

/-- The target a set-point word names (R180). -/
def State.setPoint (s : State) (g : Nat) : Nat :=
  let i := srcIndex (cSp g)
  match srcCode (cSp g) with
  | 0x20 => cSpc g
  | 0x21 => (s.srcAt 0x21 0).val
  | 0x22 => f32Of ((if s.isD then mget s.acc.portion i 0xFFFFFFFF else s.rd ACT_TCAP i : Nat) : Int) (-3)
  | 0x23 => f32Of ((if s.isD then s.rd PAR_DIEBUD_bud else s.rd ACT_PKG_BUD : Nat) : Int) (-3)
  | 0x24 => mget s.thm.deliver i (f32Of (sgn 16 (s.rd THM_LVL_throttle (s.rd THM_NODE_group i))) (-7))
  | _ => 0

/-! ### Lost and frozen inputs (R193, R194) -/

/-- The value's timestamp differs from that of the value read before it (R194). -/
def isFresh (f : Frz) (x : Src) : Bool := !f.seen || decide (x.ts ≠ f.ts)

/-- The evaluations that read the last n fresh values, from the newest on. -/
def lastFresh : Nat → List FrzEv → List FrzEv
  | _, [] => []
  | 0, _ => []
  | n + 1, e :: t => e :: lastFresh (if e.fresh then n else n + 1) t

/-- The earlier evaluations of the run that this reading continues; a different value begins a new run. -/
def runOf (f : Frz) (x : Src) : List FrzEv := if f.seen && decide (x.val = f.val) then f.evs else []

/-- The input is frozen at this evaluation, judged before its law runs (R194). -/
def frozen (g : Nat) (f : Frz) (x : Src) : Bool :=
  let n := cFrzN g
  let run := lastFresh (if isFresh f x then n - 1 else n) (runOf f x)
  let fresh := (run.filter (·.fresh)).length + b2n (isFresh f x)
  let sum := run.reverse.foldl (fun a e => add32 a e.du) 0
  decide (n ≠ 0) && decide (n ≤ fresh) && le32 (cFrzDu g) sum && run.all fun e => !e.outr

/-- The check after an evaluation that read x, moved the output by du and stood out-ranked or not. -/
def frzNote (g : Nat) (f : Frz) (x : Src) (du : Nat) (outr : Bool) : Frz :=
  { seen := true, val := x.val, ts := x.ts,
    evs := if cFrzN g = 0 then [] else lastFresh (cFrzN g) ({ fresh := isFresh f x, du := du, outr := outr } :: runOf f x) }

/-- The input is lost (R193): 0 by validity, 1 by age; or frozen: 2. -/
def State.judgeInput (s : State) (g w : Nat) (x : Src) (f : Frz) (rel : Nat) : Option Nat :=
  if !x.valid || !x.ever then some 0
  else if cLossN g * max (periodUs g) (s.nominal w) * usT < rel - x.ts then some 1
  else if frozen g f x then some 2
  else none

/-! ### Evaluation (R188 to R192) -/

/-- For every choker of the destination the allowance in force is below the value offered (R189). -/
def State.outRanked (s : State) (g u : Nat) : Bool :=
  (destList s g).all fun c => decide (s.rd CHK_ALLOW_now c < offer s u c)

/-- A seed is pending (R180, R192). -/
def State.seedPending (s : State) (x : Ctx) (g : Nat) : Bool :=
  x.seed || decide (mget s.lpe.seeds (srcKey (cSp g)) 0 ≠ x.seeded)

/-- The law of R188 on a measurement. -/
def State.piLaw (s : State) (g : Nat) (x : Ctx) (y : Nat) (outr : Bool) : Ctx :=
  let t := period32 g
  let sp := if s.seedPending x g then y else x.sp
  let step := mul32 (cSlew g) t
  let sp := add32 sp (clamp32 (sub32 (s.setPoint g) sp) (neg32 step) step)
  let e := sub32 sp y
  let hold := (le32 (cUmax g) x.u && lt32 0 e) || (le32 x.u (cUmin g) && lt32 e 0) || (outr && lt32 0 e)
  let i := if hold then x.integ else clamp32 (add32 x.integ (mul32 (mul32 (cKi g) t) e)) (cUmin g) (cUmax g)
  let u := clamp32 (add32 (mul32 (cKp g) e) i) (cUmin g) (cUmax g)
  { x with sp := sp, y := y, integ := i, u := u, hold := hold, seed := false,
           seeded := mget s.lpe.seeds (srcKey (cSp g)) 0 }

/-- The measurement: the value read, raised by the predicted load where pred asks for it. DEDUCED (log entry 172): the prediction is that
of the context's input, on the alternate too (R179). -/
def State.measure (s : State) (g val : Nat) : Nat := if cPred g then max32 val (s.predicted (cIn g)) else val

/-- The SAFE action (R195). -/
def safeAct (g : Nat) (x : Ctx) : Ctx := { x with u := cUsafe g, integ := cUsafe g, hold := false }

/-- Count a primary's clean evaluations toward restore (R197). -/
def noteClean (x : Ctx) (val : Nat) (ok : Bool) : Ctx :=
  if !ok then { x with okRun := 0, okChg := 0 }
  else if x.okRun = 0 then { x with okRun := 1, okChg := 0, okVal := val }
  else { x with okRun := min 65535 (x.okRun + 1), okChg := x.okChg + b2n (decide (val ≠ x.okVal)), okVal := val }

/-- A context in feedback fault restores at this evaluation (R197). -/
def restores (g : Nat) (x : Ctx) : Bool :=
  decide (cOkN g ≤ x.okRun) && (decide (x.fbCause ≠ 2) || decide (2 ≤ x.okChg))

/-- EV_LPE_FEEDBACK, at most once per context per millisecond (R196). -/
def State.fbEvent (s : State) (n cause act val : Nat) : State := s.emitLim 13 1 n msT [n, cause, act, val]

/-- What the feedback rules decide for an evaluation: the context, whether it restores, and how it runs (R195, R197, R199). -/
inductive Run where
  | law (w : Nat) (x : Src)   -- the law on this input
  | hold
  | safe
deriving DecidableEq, Repr

/-- On the alternate input; SAFE once that is lost or frozen too (R195). -/
def State.onAlternate (s : State) (n g rel : Nat) (x : Ctx) : State × Ctx × Run :=
  let a := s.source (cAlt g)
  let x := if x.onAlt then x else { x with onAlt := true, seed := true, frzAlt := { } }
  match s.judgeInput g (cAlt g) a x.frzAlt rel with
  | some c => (s.fbEvent n c 1 a.val, { x with fb := 3, onAlt := false }, .safe)
  | none => (s, x, .law (cAlt g) a)

/-- The action of a context in fault. -/
def State.faultRun (s : State) (n g rel : Nat) (x : Ctx) : State × Ctx × Run :=
  if x.fb = 3 then (s, x, .safe)
  else if cFail g = 2 then s.onAlternate n g rel x
  else if cFail g = 1 then (s, x, .safe)
  else (s, x, .hold)

/-- The feedback state before the law (R195 to R197). -/
def State.feedback (s : State) (n g rel : Nat) (x : Ctx) (p : Src) : State × Ctx × Run :=
  let bad := s.judgeInput g (cIn g) p x.frz rel
  if x.fb = 0 then
    match bad with
    | none => (s, x, .law (cIn g) p)
    | some c =>
      let x := { x with fb := if c = 2 then 2 else 1, fbCause := c, fbT := s.ts, okRun := 0, okChg := 0 }
      ((s.bump LPE_STAT_fb).fbEvent n c (cFail g) p.val).faultRun n g rel x
  else
    let x := noteClean x p.val bad.isNone
    if bad.isNone && restores g x then
      let s := s.emit 13 2 [n, min (2 ^ 32 - 1) (roundNEN (s.ts - x.fbT) usT)]
      (s, { x with fb := 0, onAlt := false, seed := true, integ := x.u, okRun := 0, okChg := 0 }, .law (cIn g) p)
    else s.faultRun n g rel x

/-- The context after its run; OVERRUN makes it SAFE (R199). -/
def State.runCtx (s : State) (g : Nat) (x : Ctx) (outr : Bool) : Run → Ctx
  | .law _ p => if x.ovr then safeAct g { x with y := s.measure g p.val } else s.piLaw g x (s.measure g p.val) outr
  | .hold => if x.ovr then safeAct g x else { x with hold := false }
  | .safe => safeAct g x

/-- A PI evaluation, with what it publishes to the class values (R182, R183, R188). -/
def State.evalPI (s : State) (r : Rel) : State :=
  let g := r.cfg
  let x := s.ctx r.ctx
  let p := s.source (cIn g)
  let outr := s.outRanked g x.u
  let (s, x1, run) := s.feedback r.ctx g r.rel x p
  let x2 := s.runCtx g { x1 with outranked := outr } outr run
  let du := abs32 (sub32 x2.u x.u)
  let x2 := { x2 with frz := frzNote g x1.frz p du outr,
                      frzAlt := (match run with
                        | .law w q => if w = cAlt g ∧ x1.onAlt then frzNote g x1.frzAlt q du outr else x1.frzAlt
                        | _ => x1.frzAlt) }
  let s := (s.setCtx r.ctx x2).setFlagBit LPE_FAULT r.ctx (decide (x2.fb ≠ 0))
  s.refreshChokers (destList s x2.cfg)

/-- A FILT evaluation (R191); its signal is readable from the next 1 µs boundary (R178). -/
def State.evalFilt (s : State) (r : Rel) : State :=
  let g := r.cfg
  let x := s.ctx r.ctx
  let p := s.source (cIn g)
  let ok := p.valid && p.ever
  let u := if !ok then x.u else if x.started then add32 x.u (mul32 (cKp g) (sub32 p.val x.u)) else p.val
  let x := { x with u := u, started := x.started || ok, y := if ok then p.val else x.y }
  let old := readable (s.srcAt 0x0B r.ctx) s.ts
  let new := { old with nxt := some (u, ok && f32Finite u, s.ts, (s.ts / usT + 1) * usT) }
  { s.setCtx r.ctx x with lpe := { (s.setCtx r.ctx x).lpe with src := mput s.lpe.src (srcK 0x0B r.ctx) new } }

/-- One more evaluation is issued in the open millisecond. -/
def State.countIssued (s : State) : State := { s with lpe := { s.lpe with issued := s.lpe.issued + 1 } }

/-- The overrun bookkeeping of a release that publishes (R198, R199). -/
def State.published (s : State) (r : Rel) (late : Bool) : State :=
  let x := s.ctx r.ctx
  let x := { x with skipRun := 0, tEval := s.ts, late := (x.late + b2n late) % 65536,
                    onTime := if late then 0 else x.onTime + 1 }
  let s := (s.addTo LPE_STAT_late 0 (b2n late)).countIssued
  if x.ovr && decide (16 ≤ x.onTime) then
    ((s.setCtx r.ctx { x with ovr := false, ovrT := some s.ts, seed := true, integ := x.u }).setFlagBit LPE_OVR r.ctx false).emit 13 4 [r.ctx]
  else s.setCtx r.ctx x

/-- LOOP_EVALUATION (R186, R188): the release first in the order is issued and publishes; late says that its deadline passes
between the two. -/
def loopEvaluation (late : Bool) (s : State) : State :=
  match s.relHead with
  | some r =>
    if s.clocked 13 && decide (s.ts < r.dead) then
      let s := { s with lpe := { s.lpe with queue := s.lpe.queue.erase r } }
      let s := if cKind r.cfg = 1 then s.evalPI r else s.evalFilt r
      s.published r late
    else s
  | none => s

/-! ### What a take does to a context (R190, R200) and its snapshot (R204) -/

/-- The fields whose change re-initialises a context. -/
def reinitFields (g : Nat) : List Nat := [cKind g, cK g, cPhase g, cClass g, cDkind g, cDindex g]

/-- A context enabled or re-initialised (R190, R200): its counts and what its latest evaluation left readable stay. -/
def State.initCtx (s : State) (n g : Nat) : State :=
  let s := (s.setFlagBit LPE_FAULT n false).setFlagBit LPE_OVR n false
  let s := { s with lpe := { s.lpe with src := mdel s.lpe.src (srcK 0x0B n) } }
  let u := if cKind g = 1 then cUmax g else 0
  let x := s.ctx n
  s.setCtx n { cfg := g, u := u, integ := u, seed := true, seeded := mget s.lpe.seeds (srcKey (cSp g)) 0,
               sp := x.sp, y := x.y, outranked := x.outranked, hold := x.hold, tEval := x.tEval, skips := x.skips, late := x.late }

/-- A take writes a context; one out of use keeps its configuration readable and its signal is invalid. -/
def State.takeCtx (s : State) (n g : Nat) : State :=
  let x := s.ctx n
  let s := if g = x.cfg then s
    else if reinitFields g ≠ reinitFields x.cfg then s.initCtx n g
    else s.setCtx n { x with cfg := g, seed := true, frz := if cIn g = cIn x.cfg then x.frz else { },
                             frzAlt := if cAlt g = cAlt x.cfg then x.frzAlt else { } }
  -- a release of this hub cycle uses the configuration after the take (R201)
  let q := s.lpe.queue.filterMap fun r =>
    if r.ctx = n ∧ r.rel = s.ts then
      let on := decide (cKind g = 1 ∨ cKind g = 2) && decide (s.ts / usT % periodUs g = cPhase g)
      if on then some { r with cfg := g, k := cK g, dead := s.ts + usT * periodUs g } else none
    else some r
  { s with lpe := { s.lpe with queue := q } }

/-- Budget units of a configuration (R185). -/
def budgetUnits (g : Nat) : Nat := if cKind g = 0 then 0 else 2 ^ (14 - cK g)

/-- LPE_BUDGET: the sum in force. -/
def State.showBudget (s : State) : State := s.wr LPE_BUDGET_units 0 (sumN (s.lpe.ctxs.map fun x => budgetUnits x.2.cfg))

/-- Words 0 to 7 of a context's state snapshot (R204). -/
def ctxWords (x : Ctx) : List Nat :=
  [ x.u, x.integ, x.sp, x.y,
    x.fb + 4 * b2n x.onAlt + 8 * b2n x.ovr + 16 * b2n x.outranked + 32 * b2n x.hold + 256 * x.skipRun + 65536 * x.okRun,
    x.tEval % 2 ^ 32, x.skips + 65536 * x.late, 0 ]

/-- Writing LPE_CTX_SEL takes a snapshot of the context (R204). -/
def State.snapCtx (s : State) : State :=
  let x := s.ctx (s.rd LPE_CTX_SEL_ctx)
  let s := foldTo 16 s fun s k => s.wr LPE_CTX_CFG k (bits x.cfg (32 * k) 32)
  foldTo 8 s fun s k => s.wr LPE_CTX_ST k ((ctxWords x).getD k 0)

/-- The engine's report of a millisecond (R199, R204): 16 lanes of 1.6 GHz, 38 issue cycles an evaluation, and the cycles of
LCX lost to other masters and to the background test (R424; log entry 173). -/
def State.lpeBoundary (s : State) : State :=
  let l := s.lpe
  let inOvr := (l.ctxs.filter fun x => x.2.ovr).length
  let s := if l.skipMs = 0 then s else s.emit 13 3 [l.skipMs, l.skipLow, inOvr]
  let s := (s.wr LPE_LOAD_util 0 (min 255 (roundNEN (l.issued * 3800) 25600000))).wr LPE_LOAD_qmax 0 (min 65535 l.deepQ)
  let s := s.wr LPE_LOAD_stall 0 (min 255 (roundNEN (l.stalls * 1000) 1600000))
  { s with lpe := { s.lpe with skipMs := 0, skipLow := 4096, issued := 0, stalls := 0, deepQ := s.lpe.queue.length } }

def execLoopRelease (n : Fin 4096) (overrun : Bool) (s : State) : Ans := hubOn (loopRelease n overrun) s
def execLoopSkip (s : State) : Ans := hubOn loopSkip s
def execLoopEvaluation (late : Bool) (s : State) : Ans := hubOn (loopEvaluation late) s

end Sys2Proof.Machine
end

