-- ==== Sys2Proof/Machine/Thermal.lean ====
section
/-!
DEFINITION. Machine/Thermal.lean: the thermal model, its anchors, limits, bands and thermal shutdown (R205 to R237).
-/
namespace Sys2Proof.Machine

def State.setThm (s : State) (t : Thm) : State := { s with thm := t }

/-- s16f7, u8f4 and whole °C in binary32. -/
def c7 (v : Nat) : Nat := f32Of (sgn 16 v) (-7)
def c4 (v : Nat) : Nat := f32Of v (-4)
def c0 (v : Nat) : Nat := f32Of v 0

/-- A temperature as an s16f7 word, and as an event parameter, sign-extended (R449). -/
def t7 (x : Nat) : Nat := satS 16 (f32ToFix 7 x)
def p7 (x : Nat) : Nat := unsgn 32 (sgn 16 (t7 x))

/-! ### Nodes and anchors -/

/-- The anchor at whose site a node lies (R205). -/
def anchorAt (n : Nat) : Option Nat :=
  if n < 256 then (if n % 4 = 0 then some (n / 4) else none) else if n < 320 then some (n - 192) else none

/-- The valid neighbours of an anchor (R215). -/
def State.neighbours (s : State) (a : Nat) : List Nat :=
  (if s.flag THM_ANB_v0 a then [s.rd THM_ANB_nb0 a] else []) ++ (if s.flag THM_ANB_v1 a then [s.rd THM_ANB_nb1 a] else []) ++
  (if s.flag THM_ANB_v2 a then [s.rd THM_ANB_nb2 a] else []) ++ (if s.flag THM_ANB_v3 a then [s.rd THM_ANB_nb3 a] else [])

/-- A node lies in a blind region (R218, R219). -/
def State.nodeBlind (s : State) (n : Nat) : Bool :=
  s.flag SNS_CTL_anc_en && s.flag THM_NODE_linked n && decide (s.rd THM_NODE_anchor n ∈ s.thm.blind)

/-- The latest single conversion of a node's healthy anchor, binary32 (R54, R220). DESIGN CHOICE (log entry 167): no register or command
reads it; it is kept for the limit temperature alone. -/
def State.conversionAt (s : State) (n : Nat) : Option Nat :=
  match anchorAt n with
  | some a => if s.anchorOk a then (mfind s.sns.ancLast a).map c7 else none
  | none => none

/-- The throttle level of a node's group, binary32. -/
def State.lvlThrottle (s : State) (n : Nat) : Nat := c7 (s.rd THM_LVL_throttle (s.rd THM_NODE_group n))
def State.lvlShutdown (s : State) (n : Nat) : Nat := c7 (s.rd THM_LVL_shutdown (s.rd THM_NODE_group n))

/-- L_s[n] (R220): x raised by the anchor. -/
def State.limitS (s : State) (n : Nat) : Nat :=
  let x := s.thm.x.getD n 0
  match s.conversionAt n with | some v => max32 x v | none => x

/-- L[n] (R220): raised in a blind region too. -/
def State.limitOf (s : State) (n : Nat) : Nat :=
  let l := s.limitS n
  if s.nodeBlind n then max32 l (add32 (s.lvlThrottle n) (c4 (s.rd THM_BLIND_blind))) else l

/-- Show one node's L in THM_L. -/
def State.showL (s : State) (n l : Nat) : State :=
  let s := s.wr THM_L_limit n (t7 l)
  let s := s.wr THM_L_blind n (b2n (s.nodeBlind n))
  s.wr THM_L_anchored n (b2n (match s.conversionAt n with | some v => lt32 (s.thm.x.getD n 0) v | none => false))

/-- THM_HOT: the largest L and its lowest node. -/
def State.showHot (s : State) : State :=
  let h := (List.range 512).foldl (fun h n => if lt32 (s.thm.l.getD h 0) (s.thm.l.getD n 0) then n else h) 0
  (s.wr THM_HOT_value 0 (t7 (s.thm.l.getD h 0))).wr THM_HOT_node 0 h

/-! ### Shutdown (R232, R233) -/

/-- What a thermal unit that leaves RUN has in progress is dropped; a taken set that waits with a queued step stays pending (R209). -/
def Thm.dropSteps (t : Thm) : Thm :=
  let q := t.queue.filterMap (·.newSet)
  { t with run := none, queue := [], corr := [], pend := t.pend.orElse fun _ => q.getLast? }

/-- The set that is, or will next be, in force: the latest one taken. -/
def Thm.latest (t : Thm) : MSet := t.dropSteps.pend.getD t.set

/-- Thermal shutdown is entered: S is this hub cycle. -/
def State.shutdown (s : State) (n l source : Nat) : State :=
  if s.flag THM_STAT_shut then s else
  let s := ((s.wr THM_STAT_shut 0 1).wr THM_STAT_state 0 4).wr RST_CAUSE_shutdown 0 1
  let s := s.emit 11 3 [n, p7 l, source]
  let s := { s with pins := { s.pins with trip := true },
                    thm := { s.thm.dropSteps with shutT := some s.ts, tHot := t7 l, trip := none } }
  (s.wr THM_STEP_STAT_pend 0 0).haltPowerUp.handover 2

/-- SHUTDOWN_DRAIN_EXPIRE (R233 step 3, R411): the power-down sequence begins. -/
def shutdownDrainExpire (s : State) : State :=
  match s.thm.shutT with
  | some t =>
    if s.running && decide (t + usT * s.rd THM_SHD_drain ≤ s.ts) then
      let s := s.setThm { s.thm with shutT := none }
      let s := s.setPmb { s.pmb with thermal := true, tHot := s.thm.tHot }
      let s := s.latchStage 5
      ((s.powerDown).mirrorCause 2).pmbSettle
    else s
  | none => s

/-! ### Bands (R227 to R229) -/

/-- The edge e_b, °C. -/
def State.bandEdge (s : State) (b : Nat) : Nat :=
  match b with
  | 1 => s.rd THM_BAND_e1
  | 2 => s.rd THM_BAND_e2
  | 3 => s.rd THM_BAND_e3
  | _ => s.rd THM_BAND_e4

/-- The largest of a list of temperatures. -/
def hottest : List Nat → Option Nat
  | [] => none
  | a :: t => some (t.foldl max32 a)

/-- T_b in RUN, and over the own nodes of healthy anchors otherwise. -/
def State.bandTemp (s : State) : Option Nat :=
  if s.rd THM_STAT_state = 2 then hottest (((List.range 512).filter fun n => s.flag THM_NODE_band_src n).map fun n => s.thm.l.getD n 0)
  else hottest ((List.range 512).filterMap s.conversionAt)

def State.rawBand (s : State) (tb : Nat) : Nat :=
  (List.range 5).foldl (fun m i => if decide (1 ≤ i) && le32 (c0 (s.bandEdge i)) tb then i else m) 0

/-- The refresh code of a band (R229). -/
def State.refreshCode (s : State) (b : Nat) : Nat := bits (s.rd THM_BAND_CFG_refresh) (2 * b) 2

/-- A band change (R228): outputs stay at 4x until a band evaluation has followed the model's start (R229). -/
def State.setBand (s : State) (b tb : Nat) : State :=
  let old := s.rd THM_STAT_band
  let s := (s.wr THM_STAT_band 0 b).wr SNS_DRP_BAND_band 0 b
  let s := s.setThm { s.thm with below := none }
  let s := if s.thm.banded then s.wr THM_STAT_refresh 0 (s.refreshCode b) else s
  s.emit 11 7 [old, b, p7 tb]

/-- T_b is below e_b less the hysteresis. -/
def State.bandLow (s : State) (tb : Nat) : Bool :=
  let b := s.rd THM_STAT_band
  decide (0 < b) && lt32 tb (f32Of ((s.bandEdge b : Int) - s.rd THM_BAND_CFG_hyst) 0)

/-- The rise of the band (R227). -/
def State.bandRise (s : State) : State :=
  match s.bandTemp with
  | some tb => if s.rd THM_STAT_band < s.rawBand tb then s.setBand (s.rawBand tb) tb else s
  | none => s

/-- The band at a step completion: the first evaluation frees the refresh outputs, and the time below the edge is kept. -/
def State.bandStep (s : State) : State :=
  let s := if s.thm.banded then s
    else (s.setThm { s.thm with banded := true }).wr THM_STAT_refresh 0 (s.refreshCode (s.rd THM_STAT_band))
  let s := s.bandRise
  match s.bandTemp with
  | some tb =>
    s.setThm { s.thm with below := if s.bandLow tb then some (s.thm.below.getD s.ts) else none }
  | none => s

/-- BAND_FALL (R227), at a step completion: the dwell below the edge is over. -/
def bandFall (s : State) : State :=
  match s.thm.below, s.bandTemp with
  | some t, some tb =>
    if s.running && decide (s.rd THM_STAT_state = 2) && decide (s.thm.lastDone = some s.ts) && s.bandLow tb
        && decide (t + msT * s.rd THM_BAND_CFG_dwell ≤ s.ts) then
      let s := s.setBand (s.rd THM_STAT_band - 1) tb
      s.setThm { s.thm with below := if s.bandLow tb then some s.ts else none }
    else s
  | _, _ => s

/-! ### Means over a millisecond (R214, R223) -/

/-- The mean of a node over an aligned millisecond of the present run. -/
def State.meanMs (s : State) (j n : Nat) : Option Nat :=
  if j * msT < s.thm.runT then none
  else match mfind s.thm.ms j with
    | some m => if m.count = 0 then none else some (div32 (m.sum.getD n 0) (c0 m.count))
    | none => none

/-- m_prev, or the latest x where no step fell in that millisecond; nothing before a complete millisecond. -/
def State.mPrev (s : State) (n : Nat) : Option Nat :=
  let j := s.ts / msT
  if j = 0 ∨ (j - 1) * msT < s.thm.runT then none else some ((s.meanMs (j - 1) n).getD (s.thm.x.getD n 0))

/-- Add a step's x to its millisecond; older ones than three are dropped. -/
def addMs (t : Thm) (inst : Nat) (x : List Nat) : Thm :=
  let j := inst / msT
  let m := mget t.ms j { }
  let sum := if m.count = 0 then x else List.zipWith add32 m.sum x
  { t with ms := (mput t.ms j { count := m.count + 1, sum := sum }).filter fun e => decide (j ≤ e.1 + 3) }

/-- THM_RATE at a millisecond boundary (R223). -/
def State.rateBoundary (s : State) : State :=
  let j := s.ts / msT
  if s.rd THM_STAT_state ≠ 2 ∨ j < 2 then s else
  foldTo 512 s fun s n =>
    let r := match s.meanMs (j - 1) n, s.meanMs (j - 2) n with
      | some a, some b => t7 (sub32 a b)
      | _, _ => 0
    s.wr THM_RATE n r

/-! ### The step (R206, R207, R124) -/

/-- A row of A and B of a set. -/
def MSet.rowA (m : MSet) (n : Nat) : List Nat := mget m.a n (List.replicate 512 0)
def MSet.rowB (m : MSet) (n : Nat) : List Nat := mget m.b n (List.replicate 256 0)

/-- x_new of R124. -/
def stepX (m : MSet) (x p : List Nat) : List Nat :=
  let xh := x.map splitHi
  let xl := x.map splitLo
  let ph := p.map splitHi
  let pl := p.map splitLo
  (List.range 512).map fun n =>
    let a := (m.rowA n).map bf16To32
    let b := (m.rowB n).map bf16To32
    dotSegs 2 (dotSegs 2 (dotSegs 4 (dotSegs 4 0 a xh) a xl) b ph) b pl

/-- The input vector at a step instant (R206). -/
def State.stepInputs (s : State) (per : Nat) : List Nat :=
  let e := s.ts / usT
  let ticks := (List.range per).map fun j => e - 3 - j
  let core (k : Nat) : Nat := sumN (ticks.map fun n => (mget s.thm.est n []).getD k 0)
  let cores := (List.range 64).map core
  let pw := c0 (per * 1000000)
  let meas := sumN (ticks.map fun n => mget s.thm.meas n 0)
  let resid : Nat := meas - 32 * sumN cores
  cores.map (fun c => div32 (c0 c) pw)
  ++ ((List.range 16).map fun r => if s.railOn r then f32Of (s.rd PMB_RAIL_P r) (-3) else 0)
  ++ [div32 (f32Of resid (-5)) pw, c7 (s.rd THM_TIN_tin)]
  ++ ((List.range 4).map fun f => (mget s.fans f { }).deficit)
  ++ [if s.isD then s.thm.other else 0] ++ List.replicate 169 0

/-- REINIT is entered (R230, R231). -/
def State.thmReinit (s : State) (cause node : Nat) : State :=
  let s := (s.wr THM_STAT_state 0 3).wr THM_STEP_STAT_pend 0 0
  let s := s.setThm { s.thm.dropSteps with below := none }
  (s.bump THM_STEP_STAT_reinit).emit 11 9 [cause, node]

/-- The slice-passes of a step: 48 on each slice (R124). -/
def stepPasses : Nat := 384

/-- A step starts: a matrix set due with it comes into force (R209), and the other copy of R95 keeps the one before. -/
def State.startStep (s : State) (st : ThmStep) : State :=
  let s := { s with fcs := { s.fcs with passes := s.fcs.passes + stepPasses } }
  match st.newSet with
  | some m =>
    let s := s.setThm { s.thm with run := some st, set := m, prev := s.thm.set, copyB := !s.thm.copyB }
    ((s.wr THM_SET_ID_ident 0 m.ident).wr THM_SET_PER_period 0 m.period).wr THM_STAT_generic 0 (b2n m.generic)
  | none => s.setThm { s.thm with run := some st }

/-- What the anchors' corrections add to the linked nodes, at the step instant (R214). -/
def State.nodeCorr (s : State) (corr : List Nat) : List (Nat × Nat) :=
  if corr.isEmpty then []
  else ((List.range 512).filter fun n => s.flag THM_NODE_linked n).map fun n =>
    (n, mul32 (f32Of (s.rd THM_NODE_weight n) (-8)) (corr.getD (s.rd THM_NODE_anchor n) 0))

/-- THERMAL_STEP (R207, R209, R230). -/
def thermalStep (s : State) : State :=
  let t := s.thm
  if !s.running || decide (s.rd THM_STAT_state ≠ 2) || decide (s.ts < t.t0) || decide (t.per = 0)
      || decide ((s.ts - t.t0) % (usT * t.per) ≠ 0) || decide (t.lastStep = some s.ts) then s
  else
    let newP := t.pend.isSome && decide (t.per ≠ s.rd THM_STEP_period)
    let per := if newP then s.rd THM_STEP_period else t.per
    let st : ThmStep := { t := s.ts, p := s.stepInputs per, corr := s.nodeCorr t.corr, newSet := t.pend }
    let s := s.setThm { t with lastStep := some s.ts, corr := [], t0 := if newP then s.ts else t.t0, per := per, pend := none }
    match t.run with
    | none => s.startStep st
    | some _ =>
      if s.rd THM_STEP_catchup ≤ t.queue.length then s.thmReinit 0 0xFFFF
      else
        let q := t.queue ++ [st]
        let s := s.setThm { s.thm with queue := q, ovrMs := t.ovrMs + 1, ovrDeep := max t.ovrDeep q.length }
        (s.bump THM_STEP_STAT_late).wr THM_STEP_STAT_pend 0 q.length

/-- x after the corrections of the anchors (R214). -/
def correctedX (x : List Nat) (corr : List (Nat × Nat)) : List Nat :=
  corr.foldl (fun x e => x.set e.1 (add32 (x.getD e.1 0) e.2)) x

/-- θ[n], and whether the rate term gives it (R223). -/
def State.theta24 (s : State) (n : Nat) : Nat × Bool :=
  let thr := s.lvlThrottle n
  let r := (s.mPrev n).map fun m => add32 m (c4 (s.rd THM_LVL_rate (s.rd THM_NODE_group n)))
  match s.rd THM_CTL_set, r with
  | 0, _ => (thr, false)
  | 1, some v => (v, true)
  | 1, none => (f32Inf false, true)
  | _, some v => if lt32 v thr then (v, true) else (thr, false)
  | _, none => (thr, false)

/-- The flags and the delivered set point of a node at a step completion (R224). -/
def State.nodeFlags (s : State) (n : Nat) : State :=
  let g := s.rd THM_NODE_group n
  let l := s.thm.l.getD n 0
  let hyst := c4 (s.rd THM_LVL_hyst g)
  let warn := c7 (s.rd THM_LVL_warn g)
  let (th, rate) := s.theta24 n
  let w0 := s.flag THM_L_warn n
  let t0 := s.flag THM_L_throttle n
  let w := if le32 warn l then true else if lt32 l (sub32 warn hyst) then false else w0
  let t := if le32 th l then true else if lt32 l (sub32 th hyst) then false else t0
  let s := (s.wr THM_L_warn n (b2n w)).wr THM_L_throttle n (b2n t)
  let s := s.setThm { s.thm with deliver := mput s.thm.deliver n (if t then sub32 th hyst else th) }
  let s := if w ≠ w0 then s.emitLim 11 1 n msT [n, p7 l, p7 warn, b2n w] else s
  if t ≠ t0 then s.emitLim 11 2 n msT [n, p7 l, p7 th, b2n rate] else s

/-- L of every node, from the x in hand (R220), with source 0x08 (R221). -/
def State.refreshL (s : State) : State :=
  let l := (List.range 512).map s.limitOf
  let s := s.setThm { s.thm with l := l }
  (foldTo 512 s fun s n => s.showL n (l.getD n 0)).showHot

/-- The primary's cold plate replaces the secondary's (R235). -/
def State.coldPlate (s : State) (x : List Nat) : List Nat :=
  if s.isD && s.flag THM_STAT_cp_remote && decide (s.rd PAR_STAT_role = 2) then x.take 480 ++ s.thm.cp.take 24 ++ x.drop 504 else x

/-- The primary's cold plate goes over the bridge after each step (R235, R367). -/
def State.sendPlate (s : State) (t : Nat) (x : List Nat) : State :=
  if s.isD && decide (s.pState = 2) && decide (s.pRole = 1) then
    s.bridgeSend 0x0F (leBytes 8 t ++ ((x.drop 480).take 24).flatMap (leBytes 4))
  else s

/-- Some node has the flag. -/
def State.anyNode (s : State) (f : Fld) : Bool := (List.range 512).any fun n => s.flag f n

/-- The lowest node at or above its shutdown level (R233). -/
def State.hotNode (s : State) : Option Nat := (List.range 512).find? fun n => le32 (s.lvlShutdown n) (s.limitS n)

/-- The nodes whose new temperature is no number. -/
def badNodes (x : List Nat) : List Nat := (List.range 512).filter fun n => !f32Finite (x.getD n 0)

/-- THM_X shows the temperatures x. -/
def State.showX (s : State) (x : List Nat) : State := foldTo 512 s fun s n => s.wr THM_X_x n (x.getD n 0)

/-- L is published node by node as source 0x08, and every node is flagged by it (R224, R226). -/
def State.publishL (s : State) : State :=
  let s := foldTo 512 s fun s n => s.publish 0x08 n (s.thm.l.getD n 0) true
  foldTo 512 s State.nodeFlags

/-- The results of a step whose temperatures are x: published values, node flags and the band. -/
def State.stepResults (s : State) (st : ThmStep) (x : List Nat) : State :=
  let s := s.showX x
  let s := s.setThm (addMs { s.thm with x := x, run := none, lastDone := some s.ts } st.t x)
  let s := s.sendPlate st.t x
  let s := s.refreshL.publishL
  let s := (s.wr THM_STAT_warn 0 (b2n (s.anyNode THM_L_warn))).wr THM_STAT_throttle 0 (b2n (s.anyNode THM_L_throttle))
  s.bandStep

/-- What follows a step's results: the shutdown of the lowest node at its level, else the next queued step. -/
def State.stepNext (s : State) : State :=
  match s.hotNode with
  | some n => s.shutdown n (s.limitS n) 0
  | none =>
    match s.thm.queue with
    | [] => s
    | q :: rest => ((s.setThm { s.thm with queue := rest }).wr THM_STEP_STAT_pend 0 rest.length).startStep q

/-- THERMAL_STEP_COMPLETE (R220 to R236). -/
def thermalStepComplete (s : State) : State :=
  match s.thm.run with
  | none => s
  | some st =>
    if !s.running || decide (s.rd THM_STAT_state ≠ 2) then s else
    let x := stepX s.thm.set (correctedX s.thm.x st.corr) st.p
    let s := s.arrFlags 1 ((badNodes x).headD 0 / 64) x
    match badNodes x with
    | n :: _ => s.thmReinit 1 n
    | [] => (s.stepResults st (s.coldPlate x)).stepNext

/-! ### Start and recovery (R213, R231) -/

/-- x at the boundary B, with the anchors that count. -/
def State.initX (s : State) (use : Nat → Bool) : List Nat :=
  let tin := c7 (s.rd THM_TIN_tin)
  let on := s.flag SNS_CTL_anc_en
  let good := (List.range 128).filter fun a => on && use a
  let mean := if good.isEmpty then tin
    else div32 (f32Of ((good.map fun a => sgn 16 (s.rd SNS_ANC_value a)).sum) (-7)) (c0 good.length)
  (List.range 512).map fun n =>
    let a := s.rd THM_NODE_anchor n
    if s.flag THM_NODE_linked n ∧ a ∈ good then c7 (s.rd SNS_ANC_value a)
    else if 448 ≤ n ∧ n ≤ 503 then tin
    else mean

/-- A run of the model begins at this boundary; source 0x08 has no value until its first step completes (R193, R221). -/
def State.beginRun (s : State) (x : List Nat) : State :=
  let s := s.setThm { s.thm.dropSteps with x := x, t0 := s.ts, runT := s.ts, per := s.rd THM_STEP_period, lastStep := none, ms := [],
                                           below := none }
  let s := { s with lpe := { s.lpe with src := s.lpe.src.filter fun e => decide (e.1 / 4096 ≠ 0x08) } }
  let s := foldTo 512 s fun s n => s.wr THM_RATE n 0
  s.wr THM_STAT_state 0 2

/-- MODEL_INIT (R213). -/
def modelInit (s : State) : State :=
  if s.running && decide (s.ts % msT = 0) && decide (s.rd THM_STAT_state = 1) then
    s.beginRun (s.initX fun a => !s.flag SNS_ANC_fault a)
  else s

/-- REINIT_RECOVER (R231). -/
def reinitRecover (s : State) : State :=
  if s.running && decide (s.ts % msT = 0) && decide (s.rd THM_STAT_state = 3) then
    s.beginRun (s.initX fun a => !s.flag SNS_ANC_fault a && !s.flag SNS_ANC_broken a)
  else s

/-! ### Anchors (R214 to R219) -/

/-- Insert by value, and the median of a list of binary32 (R215). -/
def insert32 (x : Nat) : List Nat → List Nat
  | [] => [x]
  | a :: t => if lt32 a x then a :: insert32 x t else x :: a :: t
def median32 (l : List Nat) : Nat :=
  let s := l.foldl (fun m x => insert32 x m) []
  let n := s.length
  if n % 2 = 1 then s.getD (n / 2) 0 else div32 (add32 (s.getD (n / 2 - 1) 0) (s.getD (n / 2) 0)) (c0 2)

/-- The residual of an anchor at boundary B (R214). -/
def State.residual (s : State) (a : Nat) : Nat :=
  let n := ownNode a
  let m := ((mfind s.thm.ms (s.ts / msT - 1)).bind fun q => if q.count = 0 then none else some (div32 (q.sum.getD n 0) (c0 q.count))).getD
    (s.thm.x.getD n 0)
  sub32 (c7 (s.rd SNS_ANC_value a)) m

/-- Judge one anchor (R215 to R217). rs are the residuals, ok the health before the boundary. -/
def State.judgeAnchor (s : State) (rs : List Nat) (ok : Nat → Bool) (a : Nat) : State :=
  let r := rs.getD a 0
  let flagged := s.flag SNS_ANC_fault a
  let nb := (s.neighbours a).filter ok
  let med := median32 (nb.map fun b => rs.getD b 0)
  let fm := flagged || lt32 (c4 (s.rd THM_ANC_dmodel)) (abs32 r)
  let fn := flagged || (!nb.isEmpty && lt32 (c4 (s.rd THM_ANC_dnb)) (abs32 (sub32 r med)))
  let run := if fm && fn then min 15 (s.rd THM_ANC_ST_run a + 1) else 0
  let s := (s.wr THM_ANC_ST_residual a (t7 r)).wr THM_ANC_ST_dmod a (b2n fm)
  let s := ((s.wr THM_ANC_ST_dnb a (b2n fn)).wr THM_ANC_ST_nb_na a (b2n nb.isEmpty)).wr THM_ANC_ST_run a run
  let s := if s.rd THM_ANC_persist ≤ run ∧ ¬ s.flag SNS_ANC_broken a then
      (s.wr SNS_ANC_broken a 1).emit 11 4 [a, p7 r, p7 med]
    else s
  let d := mget s.thm.drift a (0, 0)
  let d := if fm && !fn && !nb.isEmpty then (d.1 + 1, add32 d.2 r) else (0, 0)
  if d.1 = 100 then (s.setThm { s.thm with drift := mput s.thm.drift a (0, 0) }).emit 11 5 [a, p7 (div32 d.2 (c0 100))]
  else s.setThm { s.thm with drift := mput s.thm.drift a d }

/-- The regions that are blind, with an event for each that changes (R218). -/
def State.judgeBlind (s : State) : State :=
  let on := s.flag SNS_CTL_anc_en
  let isB (a : Nat) : Bool := on && s.flag SNS_ANC_broken a && !((s.neighbours a).any s.anchorOk)
  let now := (List.range 128).filter isB
  let old := s.thm.blind
  let s := s.setThm { s.thm with blind := now }
  let s := foldTo 128 s fun s a =>
    let b := decide (a ∈ now)
    if b ≠ decide (a ∈ old) then s.emit 11 6 [a, b2n b] else s
  s.wr THM_STAT_blind 0 (b2n !now.isEmpty)

/-- ANCHOR_CORRECTION (R214 to R219), at a 1 ms boundary after the model's first step. -/
def anchorCorrection (s : State) : State :=
  if !s.running || decide (s.ts % msT ≠ 0) || decide (s.rd THM_STAT_state ≠ 2) || decide (s.ts ≤ s.thm.runT)
      || !s.flag SNS_CTL_anc_en then s
  else
    let rs := (List.range 128).map s.residual
    let ok (a : Nat) : Bool := if s.sns.ancT = some s.ts then mget s.thm.health a false else s.anchorOk a
    let s := foldTo 128 s fun s a => s.judgeAnchor rs ok a
    let s := s.judgeBlind
    let cl := c4 (s.rd THM_ANC_clamp)
    let cs := (List.range 128).map fun a =>
      if s.anchorOk a && s.flag THM_CTL_corr_en then clamp32 (rs.getD a 0) (neg32 cl) cl else 0
    s.setThm { s.thm with corr := cs }

/-- The rearm of R216. -/
def State.ancRearm (s : State) : State :=
  let s := foldTo 128 s fun s a => (s.wr SNS_ANC_broken a 0).wr THM_ANC_ST_run a 0
  s.judgeBlind

/-- A take that clears SNS_CTL.anc_en (R219). -/
def State.anchorsOff (s : State) : State := s.judgeBlind.setThm { s.judgeBlind.thm with corr := [] }

/-- A conversion raises its node's L and may raise the band and trip shutdown (R220, R227, R232). -/
def State.conversionEffects (s : State) (a : Nat) : State :=
  let n := ownNode a
  if !s.anchorOk a then s else
  let v := c7 (mget s.sns.ancLast a 0)
  let inRun := decide (s.rd THM_STAT_state = 2)
  let l := if inRun then s.limitOf n else v
  let ls := if s.thm.l.isEmpty then List.replicate 512 0 else s.thm.l
  let s := s.setThm { s.thm with l := ls.set n l }
  let s := (s.showL n l).showHot
  let s := if inRun then s else s.bandRise
  if !le32 (s.lvlShutdown n) v then s
  else if inRun && s.thm.run.isSome then s.setThm { s.thm with trip := some (s.thm.trip.getD (n, v)) }
  else s.shutdown n v 1

/-- The hub cycle ends: a conversion that reached shutdown while a step ran trips it, unless that step's own test has (R236). -/
def State.thmTrip (s : State) : State :=
  match s.thm.trip with
  | some (n, v) => (s.setThm { s.thm with trip := none }).shutdown n v 1
  | none => s

/-- ANCHOR_CONVERSION (R54, R55): ok is false for a conversion that does not complete; raw is in s16f7. -/
def anchorConversion (a : Fin 128) (ok : Bool) (raw : BitVec 16) (s : State) : State :=
  if !s.running || !s.flag SNS_CTL_anc_en then s else
  let v := sgn 16 raw.toNat
  if !ok || decide (v < -5120) || decide (19200 < v) then { s with sns := { s.sns with ancBad := mput s.sns.ancBad a true } }
  else
    let conv := mget s.sns.ancConv a []
    let s := { s with sns := { s.sns with ancConv := mput s.sns.ancConv a (conv ++ [raw.toNat]),
                                          ancLast := mput s.sns.ancLast a raw.toNat } }
    s.conversionEffects a

/-! ### The cold plate, the coolant, and the take's triggers -/

/-- CPLATE_LOCAL (R235): no values of the primary within 2P. -/
def cplateLocal (s : State) : State :=
  if s.isD && s.flag THM_STAT_cp_remote && decide (s.thm.cpT + 2 * usT * s.thm.per < s.ts) then
    (s.wr THM_STAT_cp_remote 0 0).emit 11 12 [roundNEN (s.ts - s.thm.cpT) usT]
  else s

/-- A write of THM_TIN (R207): −10 to 70 °C, s16f7. -/
def State.writeTin (s : State) (v : Nat) : State :=
  let t := sgn 16 v
  if -1280 ≤ t ∧ t ≤ 8960 then s.wr THM_TIN_tin 0 v else s.bump THM_STEP_STAT_tin_rej

/-- THM_TIN_WRITE. -/
def thmTinWrite (v : BitVec 16) (s : State) : State := if s.unitAnswers 11 then s.writeTin v.toNat else s

/-- A take sets or clears THM_CTL.run (R213); SHUTDOWN stays. -/
def State.thmRunTaken (s : State) : State :=
  let st := s.rd THM_STAT_state
  if st = 4 then s
  else if s.flag THM_CTL_run then (if st = 0 then s.wr THM_STAT_state 0 1 else s)
  else
    let s := s.setThm { s.thm.dropSteps with below := none }
    (s.wr THM_STAT_state 0 0).wr THM_STEP_STAT_pend 0 0

/-- The thermal unit's part of a millisecond boundary (R223, R230). -/
def State.thmBoundary (s : State) : State :=
  let s := s.rateBoundary
  let t := s.thm
  let s := if t.ovrMs = 0 then s else s.emit 11 8 [t.ovrMs, t.ovrDeep]
  s.setThm { s.thm with ovrMs := 0, ovrDeep := s.thm.queue.length }

/-! ### The two copies as bank bytes (R95, R208) -/

/-- The staged lines of the given die selects by offset or index; a later select stands over an earlier one. -/
def linesOf {α : Type} (sels : List Nat) (m : SMap α) : SMap α :=
  sels.foldl (fun r v => m.foldl (fun r e => if e.1 % 4 = v then mput r (e.1 / 4) e.2 else r) r) []

/-- The die selects that reach this instance: a line for this die alone stands over one for every instance. -/
def State.selsHere (s : State) : List Nat := if s.isD then [0, s.rd GEN_CFG_die + 1] else [0]

/-- The staged lines that reach this instance. -/
def State.linesHere (s : State) {α : Type} (m : SMap α) : SMap α := linesOf s.selsHere m

/-- The thermal set a slate leaves on this instance: the staged copy with the rows and header that it has written (R208). -/
def State.stagedSet (s : State) (x : Slate) : MSet :=
  let m := s.thm.staged.getD s.thm.latest
  let a := (s.linesHere x.rowsA).foldl (fun r e => mput r e.1 e.2) m.a
  let b := (s.linesHere x.rowsB).foldl (fun r e => mput r e.1 e.2) m.b
  { generic := false, a := a, b := b,
    ident := match x.hdr with | some h => bits h 0 32 | none => m.ident,
    period := match x.hdr with | some h => bits h 32 16 | none => m.period }

/-- The slate that holds the staged copy. -/
def State.thmSlate (s : State) : Option (Nat × Slate) := s.slt.slates.find? fun e => e.2.thm

/-- The set in the copy that is not in force. -/
def State.otherCopy (s : State) : MSet :=
  if s.thm.staged.isSome then s.stagedSet (match s.thmSlate with | some e => e.2 | none => { })
  else s.thm.dropSteps.pend.getD s.thm.prev

/-- An offset below 0x3_0000 of bank b: whether its copy is in force, whether it lies in B, its node, and its word in the row. DESIGN
CHOICE (log entry 168): copy 0 precedes copy 1, A precedes B, and the rows of a slice's nodes rise. -/
def State.thmPlace (s : State) (bank off : Nat) : Bool × Bool × Nat × Nat :=
  let o := off % 0x18000
  let inB := decide (0x10000 ≤ o)
  let q := if inB then (o - 0x10000) / 2 else o / 2
  let w := if inB then 256 else 512
  (decide (off / 0x18000 = b2n s.thm.copyB), inB, 64 * bank + q / w, q % w)

/-- The bf16 word at an offset of the thermal copies. -/
def State.thmWord (s : State) (bank off : Nat) : Nat :=
  let (now, inB, n, j) := s.thmPlace bank off
  let m := if now then s.thm.set else s.otherCopy
  (if inB then m.rowB n else m.rowA n).getD j 0

/-- A set with one word of a row replaced. -/
def MSet.putWord (m : MSet) (inB : Bool) (n j v : Nat) : MSet :=
  if inB then { m with b := mput m.b n ((m.rowB n).set j v) } else { m with a := mput m.a n ((m.rowA n).set j v) }

/-- A slate's own row with one word replaced, where it has staged the row for this die. -/
def Slate.putWord (x : Slate) (sels : List Nat) (inB : Bool) (n j v : Nat) : Slate :=
  let fix (rows : SMap (List Nat)) : SMap (List Nat) :=
    rows.map fun e => if e.1 / 4 = n ∧ e.1 % 4 ∈ sels then (e.1, e.2.set j v) else e
  if inB then { x with rowsB := fix x.rowsB } else { x with rowsA := fix x.rowsA }

/-- A master writes one word of the thermal copies: the set that the copy holds has it from now on (R95, R421). -/
def State.putThmWord (s : State) (bank off v : Nat) : State :=
  let (now, inB, n, j) := s.thmPlace bank off
  let t := s.thm
  if now then s.setThm { t with set := t.set.putWord inB n j v }
  else if t.staged.isSome then
    let s := s.setThm { t with staged := t.staged.map fun m => m.putWord inB n j v }
    match s.thmSlate with
    | some e => { s with slt := { s.slt with slates := mput s.slt.slates e.1 (e.2.putWord s.selsHere inB n j v) } }
    | none => s
  else if t.pend.isSome then s.setThm { t with pend := t.pend.map fun m => m.putWord inB n j v }
  else s.setThm { t with prev := t.prev.putWord inB n j v }

def execAnchorConversion (a : Fin 128) (ok : Bool) (raw : BitVec 16) (s : State) : Ans := hubOn (anchorConversion a ok raw) s
def execThermalStep (s : State) : Ans := hubOn thermalStep s
def execThermalStepComplete (s : State) : Ans := hubOn thermalStepComplete s
def execBandFall (s : State) : Ans := hubOn bandFall s
def execShutdownDrainExpire (s : State) : Ans := hubOn shutdownDrainExpire s
def execModelInit (s : State) : Ans := hubOn modelInit s
def execReinitRecover (s : State) : Ans := hubOn reinitRecover s
def execAnchorCorrection (s : State) : Ans := hubOn anchorCorrection s
def execCplateLocal (s : State) : Ans := hubOn cplateLocal s
def execThmTinWrite (v : BitVec 16) (s : State) : Ans := hubOn (thmTinWrite v) s

end Sys2Proof.Machine
end

