-- ==== Sys2Proof/Machine/RingOps.lean ====
section
/-!
DEFINITION. Machine/RingOps.lean: the shared operations of the host rings: where a ring lies, its state, violations, fetching,
completions, and the descriptors handed to a unit (R292 to R314).
-/
namespace Sys2Proof.Machine

/-- The steward's ring among the 513 (R317). -/
def stewardRing : Nat := 512

def State.ring (s : State) (r : Nat) : Ring := mget s.hif.rings r { }
def State.setRing (s : State) (r : Nat) (x : Ring) : State := { s with hif := { s.hif with rings := mput s.hif.rings r x } }

/-! ### A ring's fields (R294, R317) -/

def State.tring (s : State) (t : Nat) : Nat := mget s.hif.trings t 0
def eDesc (g : Nat) : Nat := bits g 0 64
def eCpl (g : Nat) : Nat := bits g 64 64
def eNotify (g : Nat) : Nat := bits g 128 64
def eSize (g : Nat) : Nat := bits g 192 8
def eEn (g : Nat) : Bool := bit g 200
def eTfeat (g : Nat) : Nat := bits g 208 16
def eData (g : Nat) : Nat := bits g 256 64
def eDataSize (g : Nat) : Nat := bits g 320 64

def State.rSize (s : State) (r : Nat) : Nat := if r = stewardRing then s.rd HIF_SCTL_size else eSize (s.tring r)
def State.rDesc (s : State) (r : Nat) : Nat := if r = stewardRing then s.rd HIF_SDESC_base else eDesc (s.tring r)
def State.rCpl (s : State) (r : Nat) : Nat := if r = stewardRing then s.rd HIF_SCPL_base else eCpl (s.tring r)
def State.rNotify (s : State) (r : Nat) : Nat := if r = stewardRing then s.rd HIF_SNOTIFY_addr else eNotify (s.tring r)

/-- A ring's entries, N. -/
def State.rN (s : State) (r : Nat) : Nat := 2 ^ s.rSize r

/-! ### State (R311) -/

/-- Put a ring in a state, shown in HIF_RSTATE and HIF_QUAR. -/
def State.setRState (s : State) (r st : Nat) : State :=
  let s := s.setRing r { s.ring r with st := st }
  let w := s.rd HIF_RSTATE (r / 8)
  let lo := 4 * (r % 8)
  let s := s.wr HIF_RSTATE (r / 8) (w - bits w lo 4 * 2 ^ lo + st * 2 ^ lo)
  if r < 512 then s.setFlagBit HIF_QUAR r (decide (st = 3)) else s

/-- A tenant ring whose bucket has reached the limit is quarantined (R311, R315). -/
def State.quarCheck (s : State) (r : Nat) : State :=
  let x := s.ring r
  if r < 512 ∧ (x.st = 1 ∨ x.st = 2) ∧ s.rd HIF_QLIM_limit ≤ x.bucket then (s.setRState r 3).emit 5 3 [r, x.viol]
  else s

/-- A ring violation (R310). -/
def State.ringViol (s : State) (r kind v : Nat) : State :=
  let x := s.ring r
  let b := if r < 512 then min 255 (x.bucket + 1) else 0
  let s := s.setRing r { x with viol := (x.viol + 1) % 65536, bucket := b }
  ((s.bump HIF_STAT_viol).emitLim 5 2 r msT [r, kind, v, b]).quarCheck r

/-! ### Doorbell pages (R292, R293, R296) -/

/-- The ring of the page at an offset of the doorbell aperture: the tenants' in order, then the steward's. -/
def dbPage (off : Nat) : Option Nat := if off / 4096 ≤ stewardRing then some (off / 4096) else none

/-- The descriptors of a ring in flight: read, or being read (R300). -/
def Ring.inFlight (x : Ring) : Nat := x.fly.length + x.reads

/-- The register at an offset of a ring's page; a DISABLED ring's page reads zero. -/
def Ring.dbReg (x : Ring) (o : Nat) : Nat :=
  if x.st = 0 then 0
  else match o with
    | 0x000 => x.prod
    | 0x004 => x.cqHead
    | 0x008 => x.st + 2 ^ 8 * x.bucket + 2 ^ 16 * satU 8 x.inFlight
    | 0x00C => x.fetch
    | 0x010 => x.cqTail
    | 0x014 => x.viol + 2 ^ 16 * x.ign
    | _ => 0

/-- What a 32-bit read of the aperture returns. -/
def State.dbRead (s : State) (off : Nat) : Nat :=
  match dbPage off with
  | some r => if s.clocked 5 then (s.ring r).dbReg (off % 4096) else 0
  | none => 0

/-! ### Fetching (R300, R308) -/

/-- A ring may have another descriptor fetched. -/
def State.mayFetch (s : State) (r : Nat) : Bool :=
  let x := s.ring r
  s.holdsRoles && s.clocked 5 && decide (x.st = 1 ∨ x.st = 2) && decide ((x.fetch + x.reads) % 2 ^ 32 ≠ x.prod)
    && decide (x.inFlight < s.rd HIF_LIM_inflight) && decide (x.buf.length + x.reads < 2)

/-- Issue one descriptor read. -/
def State.fetchOne (s : State) (r : Nat) : State :=
  if s.mayFetch r then
    let x := s.ring r
    let i := (x.fetch + x.reads) % 2 ^ 32
    (s.setRing r { x with reads := x.reads + 1 }).send (.fabricRead (s.rDesc r + 64 * (i % s.rN r)) 64)
  else s

/-- Issue what a ring's two buffer places allow. -/
def State.tryFetch (s : State) (r : Nat) : State := (s.fetchOne r).fetchOne r

/-! ### Descriptors (R297, R302) -/

def dOp (w : Nat) : Nat := bits w 0 8
def dVer (w : Nat) : Nat := bits w 8 8
def dFlags (w : Nat) : Nat := bits w 16 16
def dOrder (w : Nat) : Bool := bit w 16
def dNotify (w : Nat) : Bool := bit w 17
def dInline (w : Nat) : Bool := bit w 18
def dTag (w : Nat) : Nat := bits w 32 32
/-- n bytes of the body from byte offset o. -/
def dB (w o n : Nat) : Nat := bits w (8 * o) (8 * n)

/-! ### Completions (R298, R299) -/

/-- The phase bit of index i: 1 in even passes. -/
def State.phaseBit (s : State) (r i : Nat) : Nat := 1 - (i / s.rN r) % 2

/-- The 24 result bytes of pieces (offset in the completion, length, value). -/
def resultBytes (ps : List (Nat × Nat × Nat)) : List Byte :=
  leBytes 24 (sumN (ps.map fun p => (p.2.2 % 2 ^ (8 * p.2.1)) * 2 ^ (8 * (p.1 - 8))))

/-- Write a completion and its notify on the fabric (R298, R299). -/
def State.writeCompletion (s : State) (r tag status op : Nat) (res : List Byte) (notify : Bool) : State :=
  let x := s.ring r
  let a := s.rCpl r + 32 * (x.cqTail % s.rN r)
  let s := s.send (.fabricSplit a (leBytes 4 tag ++ leBytes 2 status) 2 res)
  let s := s.send (.fabricWrite (a + 6) (leBytes 1 op ++ leBytes 1 (s.phaseBit r x.cqTail)))
  let tail := (x.cqTail + 1) % 2 ^ 32
  let s := s.setRing r { x with cqTail := tail }
  if notify ∧ bit x.feat 0 ∧ s.rNotify r ≠ 0 then s.send (.fabricWrite (s.rNotify r) (leBytes 4 tail)) else s

/-- The indices of a ring as object 0x01 mirrors them. -/
def State.mirrorRing (s : State) (r : Nat) : State :=
  s.mirror 0x01 r (s.ring r).idxBytes

/-- Descriptor idx of a ring's enabling gen is no longer in flight. -/
def State.landAt (s : State) (r idx gen : Nat) : State :=
  let x := s.ring r
  if x.gen = gen then
    let s := if s.isD then s.setPar { s.par with hdrs := mdel s.par.hdrs (r * 2 ^ 32 + idx) } else s
    s.setRing r { x with fly := x.fly.erase idx, barrier := if x.barrier = some idx then none else x.barrier }
  else s

def State.landed (s : State) (d : Desc) : State := s.landAt d.ring d.idx d.gen

/-- A header of a descriptor in flight, for the checkpoint. -/
def State.keepHdr (s : State) (r idx w : Nat) : State :=
  if s.isD then s.setPar { s.par with hdrs := mput s.par.hdrs (r * 2 ^ 32 + idx) (w % 2 ^ 64) } else s

/-- A descriptor completes (R298): its completion is written and it is no longer in flight (R300), unless its ring has been disabled since or is STOPPED (R313, R314); a
mirroring primary writes it once the secondary has acknowledged it (R370), and a demoted one once it is PRIMARY again (R371). -/
def State.completeAs (s : State) (d : Desc) (tag op status : Nat) (res : List Byte) : State :=
  let x := s.ring d.ring
  if x.gen ≠ d.gen ∨ x.st = 0 ∨ x.st = 4 then s.landed d
  else if s.mirroring ∨ (s.isD ∧ s.pRole = 3) then
    let h : HeldCpl := { mseq := s.par.tx, ring := d.ring, idx := d.idx, gen := d.gen, tag := tag, status := status, op := op, res := res,
                         notify := dNotify d.w }
    let s := s.mirror 0x03 d.ring (leBytes 4 d.idx ++ h.image)
    s.setPar { s.par with held := s.par.held ++ [h] }
  else ((s.landed d).writeCompletion d.ring tag status op res (dNotify d.w)).tryFetch d.ring

/-- A completion with result pieces: offset in the completion, length, value. -/
def State.complete (s : State) (d : Desc) (status : Nat) (ps : List (Nat × Nat × Nat)) : State :=
  s.completeAs d (dTag d.w) (dOp d.w) status (resultBytes ps)

/-! ### Descriptors handed to a unit (R300, R302) -/

/-- The processor that executes an opcode (R302). -/
def opUnit (op : Nat) : Nat :=
  if op = 0x01 ∨ op = 0x40 ∨ op = 0x41 ∨ op = 0x42 ∨ op = 0x60 then 2
  else if op = 0x20 ∨ op = 0x21 ∨ op = 0x22 ∨ op = 0x30 then 1
  else if op = 0x50 ∨ op = 0x51 ∨ op = 0x52 then 3
  else 0

/-- The next descriptor with an opcode that its unit may execute: no earlier one of its ring waits at the same unit (R300). -/
def nextIn : List Desc → List Desc → (Desc → Bool) → Option Desc
  | [], _, _ => none
  | d :: t, before, p =>
    if p d && !(before.any fun e => decide (e.ring = d.ring) && decide (opUnit (dOp e.w) = opUnit (dOp d.w))) then some d
    else nextIn t (before ++ [d]) p

/-- Run the meaning of an opcode on the next descriptor handed to its running processor; with none, nothing happens. -/
def State.runOp (s : State) (p : Desc → Bool) (f : Desc → State → State) : State :=
  match nextIn s.hif.units [] p with
  | some d =>
    if s.fwRunning (opUnit (dOp d.w)) ∧ s.holdsRoles then f d { s with hif := { s.hif with units := s.hif.units.erase d } } else s
  | none => s

/-- A plain opcode. -/
def State.runOpcode (s : State) (op : Nat) (f : Desc → State → State) : State := s.runOp (fun d => decide (dOp d.w = op)) f

end Sys2Proof.Machine
end

