-- ==== Sys2Proof/Machine/Rings.lean ====
section
/-!
DEFINITION. Machine/Rings.lean: doorbells, fetching, the turns of FP2 with the checks of R301, HELLO, quarantine, and enabling (R292 to
R315).
-/
namespace Sys2Proof.Machine

/-! ### Enabling and disabling (R314) -/

/-- A ring is enabled: indices, counts and bucket zero. -/
def State.enableRing (s : State) (r : Nat) : State :=
  ((s.setRing r { gen := (s.ring r).gen + 1 }).setRState r 1).emit 5 6 [r, 1, 0]

/-- A ring is disabled: what FP2 has not handed on is dropped, what it has runs unreported. A mode-1 release that waits on the ring finds
it neither QUARANTINED nor STOPPED (log entry 176). -/
def State.disableRing (s : State) (r : Nat) : State :=
  let x := s.ring r
  let s := s.setPar { s.par with hdrs := s.par.hdrs.filter fun e => decide (e.1 / 2 ^ 32 ≠ r) }
  let s := ((s.setRing r { gen := x.gen + 1 }).setRState r 0).emit 5 6 [r, 0, x.inFlight]
  x.resets.foldl (fun s d => (s.emit 5 4 [r, 1]).complete d 0x0600 []) s

/-- HIF_SCTL_WRITE (R314, R317): size is writable only while en is 0, and en cannot be set with size outside 6 to 16. -/
def hifSctlWrite (v : BitVec 32) (s : State) : State :=
  if !s.unitAnswers 5 then s else
  let w := v.toNat
  let en := s.flag HIF_SCTL_en
  let s := if en then s else s.wr HIF_SCTL_size 0 (bits w 8 5)
  let size := s.rd HIF_SCTL_size
  if !en && bit w 0 && decide (6 ≤ size ∧ size ≤ 16) then (s.wr HIF_SCTL_en 0 1).enableRing stewardRing
  else if en && !bit w 0 then (s.wr HIF_SCTL_en 0 0).disableRing stewardRing
  else s

/-! ### Doorbells (R292, R295, R296) -/

/-- A doorbell write on a page: none while DISABLED, ignored and counted while QUARANTINED (R296, R311). -/
def State.doorbell (s : State) (r : Nat) (f : State → State) : State :=
  let x := s.ring r
  if !s.clocked 5 || decide (x.st = 0) then s
  else if x.st = 3 ∧ s.holdsRoles then s.setRing r { x with ign := (x.ign + 1) % 65536 }
  else f s

/-- (a − b) mod 2^32. -/
def sub32w (a b : Nat) : Nat := (a + 2 ^ 32 - b % 2 ^ 32) % 2 ^ 32

/-- An access at register o of a page acts on the page's ring (R292, R293). -/
def State.doorbellAt (s : State) (off : BitVec 22) (o : Nat) (f : Nat → State → State) : State :=
  match dbPage off.toNat with
  | some r => if off.toNat % 4096 = o then s.doorbell r (f r) else s
  | none => s

/-- A violation by a doorbell write is the role holder's to count; in Glatos D the write reaches both instances (R370). -/
def State.dbViol (s : State) (r kind v : Nat) : State := if s.holdsRoles then s.ringViol r kind v else s

/-- The most by which cq_head may move: a secondary, whose cq_tail may lag, records any index that R295 could accept. -/
def State.headRoom (s : State) (r : Nat) : Nat :=
  let x := s.ring r
  if s.holdsRoles then sub32w x.cqTail x.cqHead else s.rN r

/-- DOORBELL_PROD_WRITE (R295). -/
def doorbellProdWrite (off : BitVec 22) (v : BitVec 32) (s : State) : State :=
  s.doorbellAt off 0x000 fun r s =>
    let x := s.ring r
    if sub32w v.toNat x.prod ≤ 2 ^ 31 ∧ sub32w v.toNat x.cqHead ≤ s.rN r then
      (s.setRing r { x with prod := v.toNat }).tryFetch r
    else s.dbViol r 0 v.toNat

/-- DOORBELL_CQ_HEAD_WRITE (R295). -/
def doorbellCqHeadWrite (off : BitVec 22) (v : BitVec 32) (s : State) : State :=
  s.doorbellAt off 0x004 fun r s =>
    let x := s.ring r
    if sub32w v.toNat x.cqHead ≤ s.headRoom r then s.setRing r { x with cqHead := v.toNat }
    else s.dbViol r 1 v.toNat

/-- A read of a page of a width other than 32 bits returns zero and is a violation (R296, R310). -/
def State.dbBadRead (s : State) (off : Nat) : State :=
  let s := s.send (.dbData off 0)
  match dbPage off with
  | some r => if s.clocked 5 && decide ((s.ring r).st ≠ 0) then s.dbViol r 2 0 else s
  | none => s

/-- DOORBELL_BAD_ACCESS (R296, R310): an access of 2^width bytes to a page: a write that is not an aligned 32-bit one to DB_PROD or
DB_CQ_HEAD, or a read of another width. Other accesses are other rows'. -/
def doorbellBadAccess (off : BitVec 22) (write : Bool) (width : Fin 4) (v : BitVec 32) (s : State) : State :=
  let o := off.toNat % 4096
  if !write then (if width.val = 2 then s else s.dbBadRead off.toNat)
  else if width.val = 2 ∧ (o = 0x000 ∨ o = 0x004) then s
  else s.doorbellAt off o fun r s => s.dbViol r 2 v.toNat

/-- DOORBELL_STRAY (R292): a write past the pages. -/
def doorbellStray (off : BitVec 22) (s : State) : State :=
  if s.clocked 5 && (dbPage off.toNat).isNone then s.bump HIF_STAT_stray_db else s

/-- BUCKET_LEAK (R311): at each multiple of the leak interval. -/
def bucketLeak (s : State) : State :=
  let n := msT * s.rd HIF_QLIM_leak
  if !s.running || !s.clocked 5 || decide (n = 0) || decide (s.ts % n ≠ 0) then s else
  { s with hif := { s.hif with rings := s.hif.rings.map fun e => (e.1, { e.2 with bucket := e.2.bucket - 1 }) } }

/-! ### Fetched descriptors (R300, R313) -/

/-- A fabric failure is counted and recorded (R313). -/
def State.fabricEvent (s : State) (r kind idx : Nat) : State := (s.bump HIF_STAT_fabric).emit 5 5 [r, kind, idx]

/-- DESCRIPTOR_FETCHED (R300, R308, R313): a read that fails is repeated up to twice. A descriptor whose read is out when its ring is
quarantined or STOPPED is in flight. -/
def descriptorFetched (r : Fin 513) (ok : Bool) (bytes : BitVec 512) (s : State) : State :=
  let x := s.ring r
  if x.reads = 0 ∨ x.st = 0 then s
  else
    let i := x.fetch
    let nxt := (i + 1) % 2 ^ 32
    if ok then
      let d : Desc := { ring := r, idx := i, gen := x.gen, w := bytes.toNat }
      let s := s.setRing r { x with reads := x.reads - 1, tries := 0, fetch := nxt, buf := x.buf ++ [d], fly := x.fly ++ [i] }
      let s := ((s.keepHdr r i bytes.toNat).mirrorRing r).mirror 0x02 r (hdrBytes i bytes.toNat)
      s.tryFetch r
    else if x.tries < 2 then
      (s.setRing r { x with tries := x.tries + 1 }).send (.fabricRead (s.rDesc r + 64 * (i % s.rN r)) 64)
    else
      let d : Desc := { ring := r, idx := i, gen := x.gen, w := 0 }
      let s := s.setRing r { x with reads := x.reads - 1, tries := 0, fetch := nxt }
      let s := (s.mirrorRing r).fabricEvent r 0 i
      (s.completeAs d 0 0 0x0008 (resultBytes [(8, 4, i)])).tryFetch r

/-! ### The checks of R301 -/

def opDefined (op : Nat) : Bool :=
  decide (op ∈ [0x01, 0x10, 0x11, 0x12, 0x13, 0x14, 0x20, 0x21, 0x22, 0x30, 0x31, 0x40, 0x41, 0x42, 0x50, 0x51, 0x52, 0x60])

/-- The Since minor of an opcode (R302). -/
def opSince (op : Nat) : Nat := if op = 0x31 ∨ op = 0x40 then 1 else if op = 0x42 ∨ op = 0x60 then 2 else 0

/-- Opcodes of any ring; the rest are the steward's only. -/
def opAny (op : Nat) : Bool := decide (op ∈ [0x01, 0x20, 0x21, 0x22, 0x41])

/-- The bytes of a body that its opcode defines, as offset and length (R302). -/
def opFields (w : Nat) : List (Nat × Nat) :=
  match dOp w with
  | 0x01 => [(8, 2), (16, 8)]
  | 0x11 => [(8, 12), (24, 8)] ++ (if dInline w then [(32, 32)] else [])
  | 0x12 => [(8, 2)]
  | 0x13 => [(8, 3), (16, 8)]
  | 0x14 => [(8, 2)]
  | 0x20 => [(8, 1), (10, 2)]
  | 0x21 => [(8, 2)]
  | 0x22 => [(8, 1), (10, 2)]
  | 0x30 => [(8, 2), (12, 4)]
  | 0x31 => [(8, 1), (12, 12)]
  | 0x40 => [(8, 4), (16, 48)]
  | 0x41 => [(8, 16)]
  | 0x42 => [(8, 4)]
  | 0x50 => [(8, 12), (24, 8)]
  | 0x51 => [(8, 4)]
  | 0x52 => [(8, 15), (24, 4)]
  | 0x60 => [(8, 3)]
  | _ => []

/-- Reserved flags or body bytes are not zero (check 5). -/
def descReserved (w : Nat) : Bool :=
  let used (k : Nat) : Bool := (opFields w).any fun f => decide (f.1 ≤ k) && decide (k < f.1 + f.2)
  decide (bits (dFlags w) 3 13 ≠ 0) || (dInline w && decide (dOp w ≠ 0x11))
    || ((List.range 56).any fun k => !used (k + 8) && decide (dB w (k + 8) 1 ≠ 0))
    || (decide (dOp w = 0x40) && decide (16 ≤ dB w 9 1)) || (decide (dOp w = 0x50) && decide (2 ≤ dB w 9 1))

/-- What a tenant's descriptor names is permitted to its ring (check 4): the tenant field of CNT_CTL names the ring's tenant though set 0
does not need it (R302). A queue that JOB_OPEN names is left to R283. -/
def State.descPriv (s : State) (r w : Nat) : Bool :=
  let op := dOp w
  if r = stewardRing then true
  else if !opAny op then false
  else if op = 0x20 ∨ op = 0x22 then
    let n := dB w 10 2
    if dB w 8 1 = 0 then decide (n = r)
    else if dB w 8 1 = 1 then
      decide (op = 0x20) || decide (4096 ≤ n) || (s.flag ACT_QOWN_valid n && decide (s.rd ACT_QOWN_tenant n = r))
    else true
  else if op = 0x41 then decide (dB w 9 1 = 0 ∧ dB w 10 2 = r)
  else true

/-- The features a descriptor uses (check 6, R306). -/
def descFeatures (w : Nat) : Nat :=
  let op := dOp w
  let k := dB w 9 1
  b2n (dNotify w) + 2 * b2n (decide (op = 0x11) && dInline w)
  + 4 * b2n (decide (op = 0x13) && decide (dB w 16 8 ≠ 0)) + 8 * b2n (decide (op = 0x13) && decide (dB w 10 1 = 1))
  + 16 * b2n (decide (op = 0x31)) + 32 * b2n (decide (op = 0x42))
  + 64 * b2n (decide (op = 0x40) && bit k 1) + 128 * b2n (decide (op = 0x40) && bit k 2) + 256 * b2n (decide (op = 0x40) && bit k 3)
  + 512 * b2n (decide (op = 0x20) && decide (dB w 8 1 = 1)) + 1024 * b2n (decide (op = 0x50) && bit k 0)

/-- A host address range lies in the ring's data window; any address is accepted on the steward ring (R294). -/
def State.inWindow (s : State) (r a n : Nat) : Bool :=
  decide (r = stewardRing) ||
    (decide (eData (s.tring r) ≤ a) && decide (a + n ≤ eData (s.tring r) + eDataSize (s.tring r)))

/-- Every field is within its range (check 7). -/
def State.descRange (s : State) (r w : Nat) : Bool :=
  let b (o n : Nat) : Nat := dB w o n
  match dOp w with
  | 0x11 => if dInline w then decide (1 ≤ b 16 4 ∧ b 16 4 ≤ 32 ∧ b 24 8 = 0) else decide (1 ≤ b 16 4 ∧ b 16 4 ≤ 65536)
  | 0x13 => decide (b 10 1 ≤ 1) && decide (b 16 8 ≤ s.ts + 2 ^ 38)
  | 0x20 => (decide (b 8 1 = 0) && decide (b 10 2 < 512)) || (decide (b 8 1 = 1) && decide (b 10 2 < 4096))
  | 0x22 => (decide (b 8 1 = 0) && decide (b 10 2 < 512)) || (decide (b 8 1 = 1) && decide (b 10 2 < 4096))
  | 0x30 => decide (b 8 2 < 512)
  | 0x40 => decide (b 8 1 ≤ 2) && (!bit (b 9 1) 3 || decide (10 ≤ b 10 2 ∧ b 10 2 ≤ 10000))
  | 0x41 => decide (b 8 1 ≤ 1) && decide (b 9 1 ≤ 2) && (decide (b 9 1 ≠ 2) || decide (b 10 2 < 512))
      && (decide (b 8 1 ≠ 0) || s.inWindow r (b 16 8) (b 12 4))
  | 0x42 => decide (b 8 2 ≤ 255) && decide (b 10 1 ≤ 2) && (decide (b 10 1 = 0) || decide (b 11 1 ≠ 0))
  | 0x50 => decide (b 8 1 ≤ 1) && decide (1 ≤ b 10 2 ∧ b 10 2 ≤ 4096)
  | 0x60 => decide (b 8 2 < 512) && decide (b 10 1 ≤ 1)
  | _ => true

/-- The first check of R301 that fails, as its status, or none. -/
def State.descCheck (s : State) (r w : Nat) : Option Nat :=
  let x := s.ring r
  let op := dOp w
  let v := dVer w
  if !opDefined op then some 0x0001
  else if !x.agreed && decide (op ≠ 0x01) then some 0x0002
  else if op ≠ 0x01 ∧ (v / 16 ≠ 1 ∨ x.ver % 16 < v % 16 ∨ v % 16 < opSince op) then some 0x0003
  else if !s.descPriv r w then some 0x0004
  else if descReserved w then some 0x0005
  else if descFeatures w &&& x.feat ≠ descFeatures w then some 0x0006
  else if !s.descRange r w then some 0x0007
  else none

/-! ### Turns (R308) -/

/-- HELLO behaves as though ORDER were set (R305). -/
def isOrder (w : Nat) : Bool := dOrder w || decide (dOp w = 0x01)

/-- The descriptor a turn on a ring would take: ORDER waits for the earlier ones, and holds the later ones (R297). -/
def State.turnOf (s : State) (r : Nat) : Option Desc :=
  let x := s.ring r
  match x.buf with
  | [] => none
  | d :: _ => if x.barrier.isSome || (isOrder d.w && decide (x.fly.head? ≠ some d.idx)) then none else some d

/-- The next tenant ring with a candidate, from the ring after the one last served. -/
def State.tenantTurn (s : State) : Option Desc :=
  ((List.range 512).map fun k => (s.hif.lastTenant + 1 + k) % 512).findSome? s.turnOf

/-- Take a descriptor through the checks and hand it on. -/
def State.takeDesc (s : State) (d : Desc) : State :=
  let x := s.ring d.ring
  let s := s.setRing d.ring { x with buf := x.buf.drop 1 }
  match s.descCheck d.ring d.w with
  | some st => ((s.ringViol d.ring 3 st).complete d st []).tryFetch d.ring
  | none =>
    let x := s.ring d.ring
    let s := if isOrder d.w then s.setRing d.ring { x with barrier := some d.idx } else s
    ({ s with hif := { s.hif with units := s.hif.units ++ [{ d with t := s.ts }] } }).tryFetch d.ring

/-- FP2_TURN (R301, R308). -/
def fp2Turn (s : State) : State :=
  if !s.fwRunning 2 || !s.holdsRoles then s else
  let steward := s.turnOf stewardRing
  let tenant := s.tenantTurn
  let pick := if s.hif.stewardTurn then (steward.orElse fun _ => tenant) else (tenant.orElse fun _ => steward)
  match pick with
  | none => s
  | some d =>
    let isS := decide (d.ring = stewardRing)
    let s := { s with hif := { s.hif with stewardTurn := !isS, lastTenant := if isS then s.hif.lastTenant else d.ring } }
    s.takeDesc d

/-! ### HELLO (R305, R306) -/

/-- The ring protocol version of this stepping (R9). -/
def ringVersion : Nat := 0x12

/-- HELLO. -/
def helloOp (d : Desc) (s : State) : State :=
  let x := s.ring d.ring
  let vmin := dB d.w 8 1
  let vmax := dB d.w 9 1
  let v := min vmax ringVersion
  let sup := s.rd HIF_FEAT
  if vmin ≤ vmax ∧ vmin / 16 ≤ 1 ∧ vmin ≤ v then
    let permitted := if d.ring = stewardRing then 2 ^ 64 - 1 else eTfeat (s.tring d.ring)
    let agreed := dB d.w 16 8 &&& sup &&& permitted
    let s := if x.gen = d.gen then
        let s := s.setRing d.ring { x with agreed := true, ver := v, feat := agreed }
        if x.st = 1 then s.setRState d.ring 2 else s
      else s
    let s := s.mirror 0x08 d.ring (s.ringEntryBytes d.ring)
    let s := s.emit 5 1 [d.ring, v, agreed % 2 ^ 32]
    s.complete d 0 [(8, 1, v), (9, 1, s.rd HIF_VER_gen), (10, 1, s.rd HIF_VER_slate), (11, 1, s.rd HIF_VER_salgor),
      (12, 2, d.ring), (14, 1, if s.isD then s.pRole else 0), (16, 8, agreed), (24, 8, sup)]
  else s.complete d 0x0003 [(8, 1, ringVersion), (24, 8, sup)]

/-! ### Quarantine (R312) -/

def isQrel (mode : Nat) (d : Desc) : Bool := decide (dOp d.w = 0x60) && decide (dB d.w 10 1 = mode)

/-- QUARANTINE_RESUME (R312). EV_HIF_QREL is written however the release completes (R316). -/
def quarantineResume (d : Desc) (s : State) : State :=
  let t := dB d.w 8 2
  let x := s.ring t
  if x.st = 3 then
    let s := ((s.setRing t { x with bucket := 0 }).setRState t 2).emit 5 4 [t, 0]
    (s.complete d 0 [(8, 4, x.ign)]).tryFetch t
  else (s.emit 5 4 [t, 0]).complete d (if x.st = 4 then 0x0007 else 0x0600) []

/-- QUARANTINE_RESET (R312): the ring is reset once it has nothing in flight. -/
def quarantineReset (d : Desc) (s : State) : State :=
  let t := dB d.w 8 2
  let x := s.ring t
  if x.st = 3 ∨ x.st = 4 then s.setRing t { x with resets := x.resets ++ [d] } else (s.emit 5 4 [t, 1]).complete d 0x0600 []

/-- QUARANTINE_RESET_DRAINED (R312). -/
def quarantineResetDrained (t : Fin 512) (s : State) : State :=
  let x := s.ring t
  if x.resets.isEmpty || decide (x.inFlight ≠ 0) then s
  else
    let s := (s.setRing t { gen := x.gen, viol := x.viol, ign := x.ign }).setRState t 1
    x.resets.foldl (fun s d => (s.emit 5 4 [t, 1]).complete d 0 [(8, 4, x.ign)]) s

/-! ### The meanings -/

def execDoorbellProdWrite (off : BitVec 22) (v : BitVec 32) (s : State) : Ans := hubOn (doorbellProdWrite off v) s
def execDoorbellCqHeadWrite (off : BitVec 22) (v : BitVec 32) (s : State) : Ans := hubOn (doorbellCqHeadWrite off v) s
def execDoorbellBadAccess (off : BitVec 22) (write : Bool) (width : Fin 4) (v : BitVec 32) (s : State) : Ans :=
  hubOn (doorbellBadAccess off write width v) s
def execDoorbellStray (off : BitVec 22) (s : State) : Ans := hubOn (doorbellStray off) s
def execBucketLeak (s : State) : Ans := hubOn bucketLeak s
def execDescriptorFetched (r : Fin 513) (ok : Bool) (bytes : BitVec 512) (s : State) : Ans := hubOn (descriptorFetched r ok bytes) s
def execFp2Turn (s : State) : Ans := hubOn fp2Turn s
def execHello (s : State) : Ans := hubOn (fun s => (s.runOpcode 0x01 helloOp)) s
def execQuarantineResume (s : State) : Ans := hubOn (fun s => (s.runOp (isQrel 0) quarantineResume)) s
def execQuarantineReset (s : State) : Ans := hubOn (fun s => (s.runOp (isQrel 1) quarantineReset)) s
def execQuarantineResetDrained (t : Fin 512) (s : State) : Ans := hubOn (quarantineResetDrained t) s
def execHifSctlWrite (v : BitVec 32) (s : State) : Ans := hubOn (hifSctlWrite v) s

end Sys2Proof.Machine
end

