-- ==== Sys2Proof/Machine/Account.lean ====
section
/-!
DEFINITION. Machine/Account.lean: reconciliation, the division of the package budget, jobs and the account commands (R268 to R291, R372,
R376).
-/
namespace Sys2Proof.Machine

/-! ### Accounts -/

/-- The settled value of an account, index as ACT_ACC_SEL: tenants, then queues (R291). -/
def State.settled (s : State) (i : Nat) : Nat := if i < 512 then mget s.acc.tenants i 0 else mget s.acc.queues (i - 512) 0

/-- Add to an account modulo 2^64 (R281); the primary mirrors it (R287). -/
def State.addAcct (s : State) (i n : Nat) : State :=
  let v := (s.settled i + n) % 2 ^ 64
  let a := s.acc
  let s := { s with acc := if i < 512 then { a with tenants := mput a.tenants i v } else { a with queues := mput a.queues (i - 512) v } }
  s.mirror 0x04 i (leBytes 8 v)

/-- The pending estimate of an account since the last reconciled boundary, pJ (R282). -/
def State.pendingOf (s : State) (i : Nat) : Nat :=
  let g (m q : SMap Nat) : Nat := if i < 512 then mget m i 0 else mget q (i - 512) 0
  g s.acc.tE s.acc.qE + sumN (s.acc.wait.map fun r => g r.tE r.qE)

/-- Units of 2^-24 J of a cumulative energy in 1/64 pJ (R277). -/
def acctUnits (q : Nat) : Nat := q * 2 ^ 18 / 10 ^ 12

/-! ### Reconciliation (R278 to R280) -/

/-- One die's estimates and measurement of a span. -/
structure Span where
  tE : SMap Nat
  qE : SMap Nat
  h  : Nat
  mc : Nat
  ma : Nat
deriving DecidableEq, Repr

/-- What R278 adds: increments by tenant and queue with whether the clamp bound, and the house's. -/
structure Incs where
  t     : List (Nat × Nat × Nat × Bool)  -- tenant, a, b, clamped
  q     : List (Nat × Nat)
  house : Nat
  loss  : Nat
  e     : Nat
deriving DecidableEq, Repr

def Span.e (p : Span) : Nat := sumN (p.tE.map (·.2)) + p.h

/-- a of R278, and whether the clamp binds. -/
def Span.share (p : Span) (k e : Nat) : Nat × Bool :=
  let raw := if p.e = 0 then 0 else e * p.mc / p.e
  let lim := e * k * 2 ^ 24 / (16 * 10 ^ 12)
  (min raw lim, decide (lim < raw))

/-- b of R278. -/
def Span.aux (p : Span) (on : Bool) (a : Nat) : Nat := if on ∧ 0 < p.mc then a * p.ma / p.mc else 0

/-- The increments of a span (R278, R279); k is smax and on is aux_mode. -/
def Span.incs (p : Span) (k : Nat) (on : Bool) : Incs :=
  let ts := p.tE.map fun x => let a := p.share k x.2; (x.1, a.1, p.aux on a.1, a.2)
  let qs := p.qE.map fun x => let a := (p.share k x.2).1; (x.1, a + p.aux on a)
  let free := ts.filter fun x => !x.2.2.2
  let eU := sumN ((p.tE.filter fun x => !(p.share k x.2).2).map (·.2))
  let aU := sumN (free.map fun x => x.2.1)
  let bU := sumN (free.map fun x => x.2.2.1)
  let l := if p.e = 0 then 0
    else (p.mc * eU / p.e - aU) + (if on ∧ 0 < p.mc then p.ma * aU / p.mc - bU else 0)
  { t := ts, q := qs, house := p.mc + p.ma - sumN (ts.map fun x => x.2.1 + x.2.2.1), loss := l, e := p.e }

/-- The reconciled charge of each tenant. -/
def Incs.charge (i : Incs) : SMap Nat := i.t.map fun x => (x.1, x.2.1 + x.2.2.1)

/-- Count and record the clamp (R280). -/
def State.clampEvent (s : State) (i : Incs) (mc : Nat) : State :=
  let n := (i.t.filter fun x => x.2.2.2).length
  if n = 0 then s
  else
    let s := { s with acc := { s.acc with clamps := s.acc.clamps + 1 } }
    (s.bump ACT_ACC_STAT_clamp).emitLim 15 3 0 msT [satU 32 mc, satU 32 (roundNEN i.e 1000000), n]

/-- Add a span's increments to the package accounts. -/
def State.addIncs (s : State) (i : Incs) (mc : Nat) : State :=
  let s := i.t.foldl (fun s x => s.addAcct x.1 (x.2.1 + x.2.2.1)) s
  let s := i.q.foldl (fun s x => s.addAcct (512 + x.1) x.2) s
  let s := (s.wr ACT_HOUSE 0 (s.rd ACT_HOUSE + i.house)).wr ACT_RLOSS 0 (s.rd ACT_RLOSS + i.loss)
  s.clampEvent i mc

/-- Add a span's increments to the split ledger (R376). -/
def State.addLedger (s : State) (i : Incs) (mc : Nat) : State :=
  let add (m : SMap Nat) (k n : Nat) : SMap Nat := if n = 0 then m else mput m k (mget m k 0 + n)
  let l := i.t.foldl (fun m x => add m x.1 (x.2.1 + x.2.2.1)) s.par.ledger
  let l := i.q.foldl (fun m x => add m (512 + x.1) x.2) l
  let s := s.setPar { s.par with ledger := add l 4608 i.house }
  ((s.wr PAR_STAT_ledger 0 1).wr ACT_RLOSS 0 (s.rd ACT_RLOSS + i.loss)).clampEvent i mc

/-- A ledger received joins the package accounts (R376). -/
def State.mergeLedger (s : State) : State :=
  let s := s.par.add.foldl (fun s x => if x.1 < 4608 then s.addAcct x.1 x.2 else s.wr ACT_HOUSE 0 (s.rd ACT_HOUSE + x.2)) s
  s.setPar { s.par with add := [] }

/-! ### The division (R272, R274) -/

/-- No cap of its own. -/
def uncapped : Nat := 0xFFFFFFFF

/-- The rounds of R272 over the active tenants: caps so far, what remains, and who remains. -/
def divideRounds (set w : Nat → Nat) : Nat → List Nat → Nat → SMap Nat → SMap Nat × Nat × List Nat
  | 0, u, r, c => (c, r, u)
  | n + 1, u, r, c =>
    let wt := sumN (u.map w)
    let cap := u.filter fun t => decide (set t ≠ uncapped) && decide (set t * wt ≤ r * w t)
    if cap.isEmpty then (c, r, u)
    else divideRounds set w n (u.filter fun t => !decide (t ∈ cap)) (r - sumN (cap.map set)) (cap.foldl (fun m t => mput m t (set t)) c)

/-- c_new of every tenant (R272). -/
def divide (avail : Nat) (set w : Nat → Nat) (active : List Nat) : SMap Nat :=
  let wact := sumN (active.map w)
  let (c, r, u) := divideRounds set w 513 active avail []
  let wu := sumN (u.map w)
  let c := u.foldl (fun m t => mput m t (r * w t / wu)) c
  (List.range 512).map fun t =>
    (t, if t ∈ active then mget c t 0
        else let sh := avail * w t / (wact + w t); if set t = uncapped then sh else min (set t) sh)

/-- Put a cap in force where it falls, or rises by more than the deadband. -/
def State.newCap (s : State) (t v : Nat) : State :=
  let c := s.rd ACT_TCAP t
  if v < c ∨ c + c * s.rd ACT_ACC_CTL_deadband / 100 < v then
    ((s.wr ACT_TCAP t v).seedSp 0x22 t).mirror 0x06 t (leBytes 4 v)
  else s

/-- This die's portion of a cap, as source 0x22 (R274). -/
def State.newPortion (s : State) (t v : Nat) : State :=
  if mget s.acc.portion t uncapped = v then s
  else { s with acc := { s.acc with portion := mput s.acc.portion t v } }.seedSp 0x22 t

/-- The house increment in 1/8 W over a span of n ms, rounded up. -/
def hPrev (house n : Nat) : Nat := (house * 8000 + n * 2 ^ 24 - 1) / (n * 2 ^ 24)

/-- The die budget while SPLIT: half of P (R372). -/
def State.halfCaps (s : State) : Bool := s.isD && !decide (s.pState = 2) && !decide (s.pState = 4)

/-- Portions come in force. -/
def State.putPortions (s : State) (xs : List (Nat × Nat)) : State := xs.foldl (fun s x => s.newPortion x.1 x.2) s

/-- What the loop engine sees of a mirrored change waits for the MACK of the change (R370). -/
def State.untilMack (s : State) (xs : List (Nat × Nat)) (f : State → State) : State :=
  match s.par.mir with
  | some q => if s.mirroring then s.setPar { s.par with waits := s.par.waits ++ [(q, xs)] } else f s
  | none => f s

/-- Split the package caps between the dies and send the other die its part (R274). e0 and e1 are the charges on dies 0 and 1. -/
def State.splitCaps (s : State) (e0 e1 : SMap Nat) : State :=
  let dmin := s.rd PAR_CTL_dmin
  let s := s.wr ACT_ACC_STAT_dmin 0 dmin
  let p0 (t : Nat) : Nat :=
    let c := s.rd ACT_TCAP t
    let m := c * dmin / 100
    let a := mget e0 t 0
    let b := mget e1 t 0
    if a + b = 0 then c / 2 else clampN m (c - m) (c * a / (a + b))
  let parts := (List.range 512).map fun t => (t, p0 t, s.rd ACT_TCAP t - p0 t)
  let me := s.rd GEN_CFG_die
  let mine := parts.map fun x => (x.1, if me = 0 then x.2.1 else x.2.2)
  let s := s.untilMack mine fun s => s.putPortions mine
  if s.mirroring then
    s.bridgeSend 0x0E (leBytes 4 (s.rd ACT_PKG_BUD) ++ parts.flatMap fun x => leBytes 4 (if me = 0 then x.2.2 else x.2.1))
  else s

/-- The division at a boundary (R272, R274, R372). -/
def State.division (s : State) (house n : Nat) (active : List Nat) (e0 e1 : SMap Nat) : State :=
  let half := s.halfCaps
  let bud := if s.isD then (if half then s.rd PAR_DIEBUD_bud else s.rd ACT_PKG_BUD) else s.rd ACT_PKG_BUD
  let set (t : Nat) : Nat := let v := s.rd ACT_TSET t; if half ∧ v ≠ uncapped then v / 2 else v
  let caps := divide (bud - hPrev house n) set (fun t => s.rd TLY_TEN_weight t) active
  let s := caps.foldl (fun s x => s.newCap x.1 x.2) s
  if !s.isD then s
  else if half ∨ s.pState = 4 then caps.foldl (fun s x => s.newPortion x.1 (s.rd ACT_TCAP x.1)) s
  else s.splitCaps e0 e1

/-! ### Jobs (R283, R284) -/

def State.job (s : State) (n : Nat) : Job := mget s.acc.jobs n { }
def State.setJob (s : State) (n : Nat) (j : Job) : State :=
  { s with acc := { s.acc with jobs := mput s.acc.jobs n j } }.mirror 0x05 n j.bytes

/-- A handle: the record number in [9:0], the generation in [15:10]. -/
def jobHandle (n gen : Nat) : Nat := n + 1024 * (gen % 64)

/-- A job opens at its boundary b. -/
def State.openJob (s : State) (n b fill : Nat) : State :=
  let j := s.job n
  let v := s.settled j.acct
  let j' := { j with state := if j.close.isSome then 3 else 2, b0 := b, v0 := v, clamp0 := s.acc.clamps, fill0 := fill, gap := j.gap || decide (j.b0 < b), desc := none }
  let s := s.setJob n j'
  match j.desc with
  | some d => s.complete d 0 [(8, 2, jobHandle n j.gen), (10, 6, b / msT), (16, 8, v)]
  | none => s

/-- A span meets a split of the pair (R376). -/
def State.metSplit (s : State) (b0 b1 : Nat) : Bool :=
  s.isD && decide (0 < s.par.splitT) && decide (s.par.splitT ≤ b1)
    && (decide (s.pState = 3) || decide (s.pState = 4) || decide (b0 ≤ s.par.splitEnd))

/-- A job closes at its boundary b; its record becomes free. -/
def State.closeJob (s : State) (n b fill : Nat) : State :=
  let j := s.job n
  let e := (s.settled j.acct + 2 ^ 64 - j.v0) % 2 ^ 64
  let gap := j.gap || decide (j.b1 < b) || s.metSplit j.b0 b
  let s := s.setJob n { gen := j.gen }
  match j.close with
  | some d => s.complete d 0 [(8, 8, e), (16, 6, j.b0 / msT), (22, 6, b / msT), (28, 2, min 65535 (s.acc.clamps - j.clamp0)),
      (30, 2, min 32767 ((fill - j.fill0) / 1024) + 32768 * b2n gap)]
  | none => s

/-- This instance holds the job records: in Glatos D the primary does (R285). -/
def State.holdsJobs (s : State) : Bool := !s.isD || decide (s.pRole = 1)

/-- The jobs that wait for a boundary at or before b (R283, R284, R286). -/
def State.serveJobs (s : State) (b fill : Nat) : State :=
  let s := s.acc.jobs.foldl (fun s e => if (s.job e.1).state = 1 ∧ (s.job e.1).b0 ≤ b then s.openJob e.1 b fill else s) s
  s.acc.jobs.foldl (fun s e => if (s.job e.1).state = 3 ∧ (s.job e.1).b1 ≤ b then s.closeJob e.1 b fill else s) s

/-! ### RECONCILIATION -/

/-- The records of the span to reconcile: one millisecond, or after a gap all whose measurement is final (R286). -/
def State.spanRecs (s : State) : List MsRec :=
  let rs := s.acc.wait.takeWhile fun r => r.qc.isSome
  if s.acc.gap then rs else rs.take 1

/-- The span of some records: their estimates, each at most its limit with the tenants' excess on the house (R286), and the energy
measured over them. -/
def spanOf (rs : List MsRec) (mc ma : Nat) : Span :=
  let t := sumsBy (rs.flatMap (·.tE))
  { tE := t.map fun x => (x.1, capPend x.2), qE := (sumsBy (rs.flatMap (·.qE))).map fun x => (x.1, capPend x.2),
    h := sumN (rs.map (·.h)) + sumN (t.map fun x => x.2 - 2 ^ 63), mc := mc, ma := ma }

/-- A secondary that is PAIRED sends its report to the primary (R287). -/
def Span.bytes (p : Span) (b : Nat) : List Nat :=
  [b, p.mc, p.ma, p.h] ++ p.tE.flatMap (fun x => [x.1, x.2]) ++ p.qE.flatMap (fun x => [512 + x.1, x.2])

/-- Charge a span where this instance's role puts it (R278, R287, R376). -/
def State.chargeSpan (s : State) (p o : Span) (b n : Nat) (held : List Nat) : State :=
  let k := s.rd ACT_ACC_CTL_smax
  let on := s.flag ACT_ACC_CTL_aux_mode
  let i := p.incs k on
  let act (c : SMap Nat) : List Nat := (List.range 512).filter fun t => decide (mget c t 0 ≠ 0) || decide (t ∈ held)
  if !s.isD then
    (s.addIncs i p.mc).division i.house n (act i.charge) [] []
  else if s.pState = 2 ∧ s.pRole = 1 then
    let j := o.incs k on
    let s := ((s.addIncs i p.mc).addIncs j o.mc).mergeLedger
    let c := sumsBy (i.charge ++ j.charge)
    let (e0, e1) := if s.rd GEN_CFG_die = 0 then (i.charge, j.charge) else (j.charge, i.charge)
    s.division (i.house + j.house) n (act c) e0 e1
  else if s.pState = 2 then s.send (.pairReport (p.bytes b))
  else if s.pRole = 1 then (s.addIncs i p.mc).mergeLedger.division i.house n (act i.charge) [] []
  else (s.addLedger i p.mc).division i.house n (act i.charge) [] []

/-- RECONCILIATION (R272, R278, R286, R287). In Glatos D the primary's carries the secondary's report for the boundary: its
estimates by account index, its house, M_c and M_a, and the tenants that held objects there. -/
def reconciliation (other : List (Fin 4608 × BitVec 64)) (oh omc oma : BitVec 64) (oheld : List (Fin 512)) (s : State) : State :=
  let rs := s.spanRecs
  match rs.getLast? with
  | none => s
  | some last =>
    if !s.fwRunning 1 || !s.clocked 15 then s else
    let gap := s.acc.gap
    let mc := acctUnits (last.qc.getD 0)
    let ma := acctUnits last.qa
    let p := spanOf rs (mc - s.acc.mc) (ma - s.acc.ma)
    let ot := other.filterMap fun x => if x.1.val < 512 then some (x.1.val, x.2.toNat) else none
    let oq := other.filterMap fun x => if x.1.val < 512 then none else some (x.1.val - 512, x.2.toNat)
    let o : Span := { tE := sumsBy ot, qE := sumsBy oq, h := oh.toNat, mc := omc.toNat, ma := oma.toNat }
    let first := (rs.headD last).b
    let n := rs.length
    let both := decide (s.isD) && decide (s.pState = 2) && decide (s.pRole = 1)
    let s := { s with acc := { s.acc with wait := s.acc.wait.drop n, gap := false, mc := mc, ma := ma, lastFill := last.fill,
                                          lastM := p.mc + p.ma + (if both then o.mc + o.ma else 0), lastN := n } }
    let held := last.held ++ (if s.isD then oheld.map (·.val) else [])
    let s := s.chargeSpan p o last.b n held
    let s := if gap then s.emit 15 4 [n, first % 2 ^ 32] else s
    let s := s.wr ACT_RECON_T 0 last.b
    if s.holdsJobs then s.serveJobs last.b last.fill else s

/-! ### The account commands (R282 to R284, R273) -/

/-- The account index of a kind and number. -/
def acctIndex (kind n : Nat) : Nat := if kind = 0 then n else 512 + n

/-- The first 1 ms boundary at or after an instant. -/
def nextMs (t : Nat) : Nat := (t + msT - 1) / msT * msT

/-- JOB_OPEN (R283). -/
def jobOpen (d : Desc) (s : State) : State :=
  let kind := dB d.w 8 1
  let n := dB d.w 10 2
  let own := if kind = 0 then n else if s.flag ACT_QOWN_valid n then s.rd ACT_QOWN_tenant n else 512
  if d.ring < 512 ∧ kind = 1 ∧ own ≠ d.ring then s.complete d 0x0301 []
  else
    let mine := (s.acc.jobs.filter fun e => decide (e.2.state ≠ 0) && decide (e.2.tenant = own)).length
    match (List.range 1024).find? fun k => decide ((s.job k).state = 0) with
    | none => s.complete d 0x0300 []
    | some k =>
      if own < 512 ∧ s.rd ACT_ACC_CTL_jobmax ≤ mine then s.complete d 0x0300 []
      else
        let j : Job := { state := 1, gen := (s.job k).gen + 1, acct := acctIndex kind n, tenant := own, desc := some d,
                         b0 := nextMs d.t }
        let s := s.setJob k j
        if j.b0 ≤ s.rd ACT_RECON_T ∧ s.rd ACT_RECON_T ≠ 0 then s.openJob k (s.rd ACT_RECON_T) s.acc.lastFill else s

/-- JOB_CLOSE (R284). A record that still opens takes it too: both may end at one boundary (R288). A record that a close waits on
answers another as one that is free (log entry 174). -/
def jobClose (d : Desc) (s : State) : State :=
  let h := dB d.w 8 2
  let k := h % 1024
  let j := s.job k
  if j.state = 0 ∨ j.close.isSome ∨ j.gen % 64 ≠ h / 1024 ∨ (d.ring < 512 ∧ j.tenant ≠ d.ring) then s.complete d 0x0302 []
  else
    let s := s.setJob k { j with state := if j.state = 1 then 1 else 3, close := some d, b1 := nextMs d.t }
    if j.state = 2 ∧ nextMs d.t ≤ s.rd ACT_RECON_T then s.closeJob k (s.rd ACT_RECON_T) s.acc.lastFill else s

/-- READ_ENERGY (R282). -/
def readEnergy (d : Desc) (s : State) : State :=
  let i := acctIndex (dB d.w 8 1) (dB d.w 10 2)
  s.complete d 0 [(8, 8, s.settled i), (16, 8, s.rd ACT_RECON_T), (24, 4, min (2 ^ 32 - 1) (s.pendingOf i))]

/-- SET_TENANT_CAP (R273). -/
def setTenantCap (d : Desc) (s : State) : State :=
  let t := dB d.w 8 2
  let v := dB d.w 12 4
  let old := s.rd ACT_TSET t
  ((s.wr ACT_TSET t v).mirror 0x06 (512 + t) (leBytes 4 v)).complete d 0 [(8, 4, old)]

/-- ACT_ACC_SEL takes a snapshot of an account (R291). -/
def State.snapAcct (s : State) : State :=
  let i := s.rd ACT_ACC_SEL_idx
  let ok := decide (i < 4608)
  let v := if ok then s.settled i else 0
  let p := if ok then min (2 ^ 32 - 1) (s.pendingOf i) else 0
  let jobs := if ok then (s.acc.jobs.filter fun e => decide (2 ≤ e.2.state) && decide (e.2.acct = i)).length else 0
  (((s.wr ACT_ACC 0 (v % 2 ^ 32)).wr ACT_ACC 1 (v / 2 ^ 32)).wr ACT_ACC 2 p).wr ACT_ACC 3 (min 65535 jobs)

/-! ### The package budget in force (R271) -/

/-- Put the die budget in force (R274, R372); a change seeds the package limiters. Half of the other die's P is input 86 while the
bridge is lost (R372, R373). -/
def State.refreshDie (s : State) : State :=
  if !s.isD then s else
  let b := s.dieBudget
  let s := if s.pState = 3 then s.setThm { s.thm with other := f32Of b (-3) }
    else if s.pState = 4 then s.setThm { s.thm with other := 0 } else s
  if s.rd PAR_DIEBUD_bud = b then s else (s.wr PAR_DIEBUD_bud 0 b).seedSp 0x23 0

/-- What waited for the MACKs that p selects comes in force. -/
def State.applyWaits (s : State) (p : Nat → Bool) : State :=
  let ws := s.par.waits.filter fun w => p w.1
  let s := s.setPar { s.par with waits := s.par.waits.filter fun w => !p w.1 }
  ws.foldl (fun s w => (s.putPortions w.2).refreshDie) s

/-- A primary mirrors its package cap beside the caps and the budget (R2, R367; log entry 175). -/
def State.mirrorCap (s : State) : State := s.mirror 0x06 1025 (leBytes 4 (s.rd ACT_PKG_CAP_cap))

/-- Form the budget anew; a change is recorded and seeds the package limiters. -/
def State.refreshBudget (s : State) : State :=
  let cap := s.rd ACT_PKG_CAP_cap
  let b := match s.acc.domBud with | some d => min cap d | none => cap
  let src := match s.acc.domBud with | some d => b2n (decide (d < cap)) | none => 0
  let old := s.rd ACT_PKG_BUD
  if b = old then s
  else
    let s := (s.wr ACT_PKG_BUD 0 b).emit 15 6 [old, b, src]
    if s.isD then (s.mirror 0x06 1024 (leBytes 4 b)).untilMack [] State.refreshDie else s.seedSp 0x23 0

def execReconciliation (other : List (Fin 4608 × BitVec 64)) (oh omc oma : BitVec 64) (oheld : List (Fin 512)) (s : State) : Ans :=
  hubOn (reconciliation other oh omc oma oheld) s
def execJobOpen (s : State) : Ans := hubOn (fun s => (s.runOpcode 0x20 jobOpen)) s
def execJobClose (s : State) : Ans := hubOn (fun s => (s.runOpcode 0x21 jobClose)) s
def execReadEnergy (s : State) : Ans := hubOn (fun s => (s.runOpcode 0x22 readEnergy)) s
def execSetTenantCap (s : State) : Ans := hubOn (fun s => (s.runOpcode 0x30 setTenantCap)) s

end Sys2Proof.Machine
end

