-- ==== Sys2Proof/Machine/Sha384.lean ====
section
/-!
DEFINITION. Machine/Sha384.lean: the SHA-384 digest of FIPS 180-4 (R436).
-/
namespace Sys2Proof.Machine

abbrev W64 := BitVec 64

/-- The largest r below 2^n with r^k at most x. -/
def rootBits (k x : Nat) : Nat → Nat → Nat
  | 0, r => r
  | n + 1, r => rootBits k x n (if (r + 2 ^ n) ^ k ≤ x then r + 2 ^ n else r)

/-- The first 64 bits of the fraction of the k-th root of p. -/
def rootFraction (k p : Nat) : W64 := BitVec.ofNat 64 (rootBits k (p * 2 ^ (64 * k)) 70 0)

/-- The primes below 410, of which there are 80. -/
def shaPrimes : List Nat :=
  (List.range 410).filter fun p => decide (2 ≤ p) && (List.range 19).all fun d => decide (p ≤ d + 2) || decide (p % (d + 2) ≠ 0)

/-- The 80 round constants: from the cube roots of the first 80 primes. -/
def shaK : List W64 := shaPrimes.map (rootFraction 3)

/-- The initial hash value of SHA-384: from the square roots of the ninth to the sixteenth prime. -/
def shaH : List W64 := ((shaPrimes.drop 8).take 8).map (rootFraction 2)

def shaS0 (x : W64) : W64 := x.rotateRight 28 ^^^ x.rotateRight 34 ^^^ x.rotateRight 39
def shaS1 (x : W64) : W64 := x.rotateRight 14 ^^^ x.rotateRight 18 ^^^ x.rotateRight 41
def shaG0 (x : W64) : W64 := x.rotateRight 1 ^^^ x.rotateRight 8 ^^^ (x >>> 7)
def shaG1 (x : W64) : W64 := x.rotateRight 19 ^^^ x.rotateRight 61 ^^^ (x >>> 6)
/-- Where x has a one the bit of y, else that of z. -/
def shaCh (x y z : W64) : W64 := z ^^^ (x &&& (y ^^^ z))
/-- The bit that most of the three have. -/
def shaMaj (x y z : W64) : W64 := (x &&& y) ||| ((x ||| y) &&& z)

/-- The next word of the schedule from the last sixteen, oldest first. -/
def shaNext (w : List W64) : W64 := shaG1 (w.getD 14 0) + w.getD 9 0 + shaG0 (w.getD 1 0) + w.getD 0 0

/-- One round: the eight working variables with the sixteen words of the schedule that come next. -/
def shaRound (vw : List W64 × List W64) (k : W64) : List W64 × List W64 :=
  let v (i : Nat) : W64 := vw.1.getD i 0
  let t1 := v 7 + shaS1 (v 4) + shaCh (v 4) (v 5) (v 6) + k + vw.2.getD 0 0
  let t2 := shaS0 (v 0) + shaMaj (v 0) (v 1) (v 2)
  ([t1 + t2, v 0, v 1, v 2, v 3 + t1, v 4, v 5, v 6], vw.2.drop 1 ++ [shaNext vw.2])

/-- One block of sixteen words. -/
def shaBlock (h w : List W64) : List W64 := List.zipWith (· + ·) h (shaK.foldl shaRound (h, w)).1

/-- The big-endian word of eight bytes. -/
def beWord (bs : List Byte) : W64 := BitVec.ofNat 64 (bs.foldl (fun a b => 256 * a + b.toNat) 0)

/-- n words of a message. -/
def beWords : Nat → List Byte → List W64
  | 0, _ => []
  | n + 1, bs => beWord (bs.take 8) :: beWords n (bs.drop 8)

/-- n blocks of 128 bytes. -/
def shaBlocks : Nat → List W64 → List Byte → List W64
  | 0, h, _ => h
  | n + 1, h, bs => shaBlocks n (shaBlock h (beWords 16 bs)) (bs.drop 128)

/-- The padded message. -/
def shaPad (bs : List Byte) : List Byte :=
  bs ++ [0x80] ++ List.replicate ((239 - bs.length % 128) % 128) 0 ++ (leBytes 16 (8 * bs.length)).reverse

/-- The 48 bytes of the digest. -/
def sha384 (bs : List Byte) : List Byte :=
  let m := shaPad bs
  ((shaBlocks (m.length / 128) shaH m).take 6).flatMap fun w => (leBytes 8 w.toNat).reverse

end Sys2Proof.Machine
end

