-- ==== Sys2Proof/Machine/Recorder.lean ====
section
/-!
DEFINITION. Machine/Recorder.lean: the event recorder, EVT_READ, EVT_CLEAR and the heartwood, civil time (R447 to R459, R474 to R477).
-/
namespace Sys2Proof.Machine

/-! ### Acceptance (R451, R452, R454) -/

/-- The 32 bytes of a record (R447); civil is flag 1. -/
def EvRec.bytes (r : EvRec) (civil : Bool) : List Byte :=
  leBytes 2 r.code ++ leBytes 2 (r.sev + 16 * (r.flags + 2 * b2n civil)) ++ leBytes 4 r.take ++ leBytes 8 r.ts
  ++ r.params.flatMap (leBytes 4)

/-- Write 32 bytes as the record with the next number. -/
def State.sapwood (s : State) (bs : List Byte) : State :=
  let n := s.rd EVT_NEXT_next
  let s := s.writeBank evsBank (32 * (n % 4096)) bs
  let s := s.writeBank evsBank (0x20000 + 4 * (n % 4096)) (leBytes 4 (2 * n))
  State.wr { s with recd := { s.recd with full := s.recd.full || decide (n = 4095) } } EVT_NEXT_next 0 (n + 1)

/-- Accept a record. -/
def State.acceptRec (s : State) (r : EvRec) : State :=
  let s := s.sapwood (r.bytes (s.flag EVT_NA_set))
  if 3 ≤ r.sev then s.count (cntDie 15) 1 else s

/-- EVENT_RECORD_ACCEPT: one hub cycle of the recorder, which accepts at most one record. EV_EVT_LOST takes a cycle of its own before the next record of the
queue. -/
def eventRecordAccept (s : State) : State :=
  if s.rd RST_SEQ_stage = 0 ∨ s.ts < s.recd.nextT then s else
  match s.recd.queue with
  | [] => s
  | r :: t =>
    let report := decide (0 < s.recd.lost) && !s.recd.inLost
    let s := { s with recd := { s.recd with nextT := s.ts + 1 } }
    if report then
      let l : EvRec := { code := evCode 16 3, sev := 3, flags := s.evFlags 16 (mget s.recd.coal (evCode 16 3) false),
                         take := s.rd SLT_TAKE_take, ts := s.ts, params := evParams [s.recd.lost] }
      ({ s with recd := { s.recd with lost := 0, inLost := true } }).acceptRec l
    else ({ s with recd := { s.recd with queue := t, inLost := false } }).acceptRec r

/-! ### EVT_READ (R456) -/

/-- An entry of the buffer. -/
def evtEntry (seqWords : Bool) (num seq : Nat) (rec' : List Byte) : List Byte :=
  (if seqWords then leBytes 4 num ++ leBytes 4 seq else []) ++ rec'

/-- The heartwood cache's record at a position (R454). -/
def State.heartwoodAt (s : State) (k : Nat) : List Byte := s.readBank evsBank (0x24000 + 32 * k) 32

/-- The completion of EVT_READ over n records from start on: those still held are written to the descriptor's buffer where they fit,
the others count as overwritten beside skip. -/
def State.evtAnswer (s : State) (d : Desc) (size start n skip : Nat) (es : List (Option (List Byte))) : State :=
  let got := es.filterMap id
  if dB d.w 12 4 < got.length * size then s.complete d 0x0007 []
  else
    let s := if got.isEmpty then s else s.send (.fabricWrite (dB d.w 24 8) got.flatten)
    s.complete d 0 [(8, 4, got.length), (12, 4, start), (16, 4, start + n), (20, 4, skip + (n - got.length))]

/-- EVT_READ: n records from start on, skip already overwritten. -/
def evtRead (d : Desc) (s : State) : State :=
  let w := d.w
  let sw := bit (dB w 9 1) 0
  let size := if sw then 40 else 32
  let count := dB w 10 2
  let first := dB w 16 4
  if dB w 8 1 = 0 then
    let nxt := s.rd EVT_NEXT_next
    if laterSer first nxt 32 then s.complete d 0x0500 []
    else
      let ahead := sub32w nxt first
      let skip := ahead - s.held
      let start := (first + skip) % 2 ^ 32
      let n := min count (ahead - skip)
      s.evtAnswer d size start n skip ((List.range n).map fun i =>
        let r := (start + i) % 2 ^ 32
        (s.recordAt r).map (evtEntry sw r (s.seqWord r)))
  else
    let held := s.rd EVT_HW_count
    if held < first then s.complete d 0x0500 []
    else
      let n := min count (held - first)
      s.evtAnswer d size first n 0 ((List.range n).map fun i => some (evtEntry sw (first + i) 0 (s.heartwoodAt (first + i))))

/-! ### The heartwood (R457, R458) -/

def halfBase (half : Nat) : Nat := 0x1000 + 0x3000 * half

/-- The placeholder of a record that could not be kept (R448, R458). -/
def placeholder (r : Nat) : List Byte := leBytes 2 0 ++ leBytes 2 (16 * 2 ^ 7) ++ leBytes 4 0 ++ leBytes 8 0 ++ leBytes 4 r ++ leBytes 12 0

/-- A position's bytes in the cache. -/
def State.cacheHw (s : State) (k : Nat) (bs : List Byte) : State := s.writeBank evsBank (0x24000 + 32 * k) bs

/-- HEARTWOOD_PROGRAM: FP3 programs the record that the next position takes; records restored with flag 6 are passed over. -/
def heartwoodProgram (s : State) : State :=
  let v := s.nvm
  let r := if v.priorN ≠ 0 ∧ v.hwNext = v.prior then (v.prior + v.priorN) % 2 ^ 32 else v.hwNext
  if !s.fwRunning 3 || !v.restored || !s.flag NVM_STAT_found || !v.hwOpen || decide (256 ≤ v.hwPos) || v.clear.isSome
      || v.ops.any (fun o => decide (o.item ∈ [0, 1, 2, 11])) || !laterSer (s.rd EVT_NEXT_next) r 32 then s
  else
    let bs := (s.recordAt r).getD (placeholder r)
    let s := (s.cacheHw v.hwPos bs).setNvm { v with hwNext := (r + 1) % 2 ^ 32, hwPos := v.hwPos + 1 }
    s.flashAsk { item := 0, addr := halfBase v.half + 0x1000 + 32 * v.hwPos, data := bs, arg := v.hwPos, num := r }

/-- The commit bit of a position (R466). -/
def State.askCommit (s : State) (o : FlashOp) : State :=
  s.flashAsk { item := 1, addr := halfBase s.nvm.half + 64 + o.arg / 8, data := [BitVec.ofNat 8 (255 - 2 ^ (o.arg % 8))],
               arg := o.arg, num := o.num }

/-! ### EVT_CLEAR (R459, R466) -/

/-- The header of a heartwood half. -/
def halfHeader (gen ts : Nat) : List Byte :=
  let h := leBytes 4 0x44485754 ++ leBytes 1 0x10 ++ leBytes 3 0 ++ leBytes 4 gen ++ leBytes 4 0 ++ leBytes 8 ts
  h ++ leBytes 4 (crcBytes h)

/-- EVT_CLEAR: on a part that is never programmed it waits (log entry 178); on a matching count the header of the erased half is programmed with the next generation. -/
def evtClear (d : Desc) (s : State) : State :=
  if dB d.w 8 4 ≠ s.rd EVT_HW_count then s.complete d 0x0501 []
  else
    let s := s.setNvm { s.nvm with clear := some d }
    s.flashAsk { item := 2, addr := halfBase (1 - s.nvm.half), data := halfHeader ((s.nvm.gen + 1) % 2 ^ 32) s.ts }

/-- The number the next record to enter the queue will take. -/
def State.nextNumber (s : State) : Nat :=
  (s.rd EVT_NEXT_next + s.recd.queue.length + b2n (decide (0 < s.recd.lost))) % 2 ^ 32

/-- Steps 2 to 4 of a clear, once its header is programmed. -/
def State.clearDone (s : State) : State :=
  let v := s.nvm
  let count := s.rd EVT_HW_count
  let gen := (v.gen + 1) % 2 ^ 32
  let s := s.setNvm { v with half := 1 - v.half, gen := gen, hwOpen := true, hwPos := 0, hwNext := s.nextNumber, clear := none }
  let s := ((s.wr EVT_HW_count 0 0).wr EVT_HW_gen 0 gen).emit 16 2 [count, gen]
  let s := match v.clear with
    | some d => s.complete d 0 [(8, 4, count)]
    | none => s
  s.flashEraseN 3 (halfBase v.half) 3 v.half

/-! ### Civil time (R474 to R477) -/

def leap (y : Nat) : Bool := decide (y % 4 = 0) && (decide (y % 100 ≠ 0) || decide (y % 400 = 0))
def ylen (y : Nat) : Nat := if leap y then 366 else 365
def mlen (y m : Nat) : Nat :=
  if m = 2 then (if leap y then 29 else 28) else if m = 4 ∨ m = 6 ∨ m = 9 ∨ m = 11 then 30 else 31

/-- Days from 2000-01-01 to a date. -/
def daysOf (y m d : Nat) : Nat := sumTo (y - 2000) (fun k => ylen (2000 + k)) + sumTo (m - 1) (fun k => mlen y (k + 1)) + (d - 1)

/-- The year and the days left in it, with fuel. -/
def yearOf : Nat → Nat → Nat → Nat × Nat
  | 0, y, days => (y, days)
  | n + 1, y, days => if ylen y ≤ days then yearOf n (y + 1) (days - ylen y) else (y, days)

/-- The month and the days left in it, with fuel. -/
def monthOf : Nat → Nat → Nat → Nat → Nat × Nat
  | 0, _, m, days => (m, days)
  | n + 1, y, m, days => if mlen y m ≤ days then monthOf n y (m + 1) (days - mlen y m) else (m, days)

/-- Nanoseconds from 2000-01-01 at a timestamp, by an anchor. -/
def civilNs (ta sa na t : Nat) : Int :=
  (sa : Int) * 10 ^ 9 + (na : Int) + ((t : Int) - (ta : Int)) * 5 / 4

/-- Civil time at a timestamp: year, month, day, hour, minute, second, nanoseconds; none when out of range. -/
def civilAt (ta sa na t : Nat) : Option (List Nat) :=
  let total := civilNs ta sa na t
  let secs := total / 10 ^ 9
  if secs < 0 ∨ 12622780799 < secs then none
  else
    let sec := secs.toNat
    let sod := sec % 86400
    let (y, dy) := yearOf 400 2000 (sec / 86400)
    let (m, dm) := monthOf 12 y 1 dy
    some [y, m, dm + 1, sod / 3600, sod % 3600 / 60, sod % 60, (total % 10 ^ 9).toNat]

/-- Civil time by the anchor of the EVT registers, none while none is set. -/
def State.civil (s : State) (t : Nat) : Option (List Nat) :=
  if s.flag EVT_NA_set then civilAt (s.rd EVT_TA_ta) (s.rd EVT_SA_sa) (s.rd EVT_NA_na) t else none

/-- TIME_SET's checks (R475). -/
def timeOk (w now : Nat) : Bool :=
  let y := dB w 16 2
  let m := dB w 18 1
  let ta := dB w 8 8
  decide (2000 ≤ y ∧ y ≤ 2399 ∧ 1 ≤ m ∧ m ≤ 12) && decide (1 ≤ dB w 19 1 ∧ dB w 19 1 ≤ mlen y m)
    && decide (dB w 20 1 ≤ 23 ∧ dB w 21 1 ≤ 59 ∧ dB w 22 1 ≤ 59 ∧ dB w 24 4 ≤ 999999999)
    && decide (ta ≤ now + 2 ^ 38 ∧ now ≤ ta + 2 ^ 38)

/-- TIME_SET. -/
def timeSet (d : Desc) (s : State) : State :=
  let w := d.w
  if !timeOk w s.ts then s.complete d 0x0502 []
  else
    let ta := dB w 8 8
    let sa := daysOf (dB w 16 2) (dB w 18 1) (dB w 19 1) * 86400 + dB w 20 1 * 3600 + dB w 21 1 * 60 + dB w 22 1
    let na := dB w 24 4
    let step := if s.flag EVT_NA_set then
        satS 32 (roundNE (civilNs ta sa na ta - civilNs (s.rd EVT_TA_ta) (s.rd EVT_SA_sa) (s.rd EVT_NA_na) ta) 1000000)
      else 0
    let s := (((s.wr EVT_TA_ta 0 ta).wr EVT_SA_sa 0 sa).wr EVT_NA_na 0 na).wr EVT_NA_set 0 1
    (s.emit 16 4 [sa % 2 ^ 32, sa / 2 ^ 32, na, step]).complete d 0 []

/-- EVT_CIV_LATCH: a write of 1 to EVT_CIV_LAT.latch (R484). -/
def evtCivLatch (v : BitVec 32) (s : State) : State :=
  if !bit v.toNat 0 || !s.unitAnswers 16 then s else
  let c := s.civil s.ts
  let f := c.getD []
  let g (k : Nat) := f.getD k 0
  let s := (((s.wr EVT_CIV_year 0 (g 0)).wr EVT_CIV_month 0 (g 1)).wr EVT_CIV_day 0 (g 2)).wr EVT_CIV_hour 0 (g 3)
  let s := ((s.wr EVT_CIV_minute 0 (g 4)).wr EVT_CIV_second 0 (g 5)).wr EVT_CIV_ns 0 (g 6)
  (s.wr EVT_CIV_valid 0 (b2n c.isSome)).wr EVT_CIV_done 0 1

/-! ### The meanings -/

def execEventRecordAccept (s : State) : Ans := hubOn eventRecordAccept s
def execHeartwoodProgram (s : State) : Ans := hubOn heartwoodProgram s
def execEvtRead (s : State) : Ans := hubOn (fun s => (s.runOpcode 0x50 evtRead)) s
def execEvtClear (s : State) : Ans :=
  hubOn (fun s => (if s.nvm.clear.isSome || !s.flag NVM_STAT_found || s.nvm.portHigh then s else s.runOpcode 0x51 evtClear)) s
def execTimeSet (s : State) : Ans := hubOn (fun s => (s.runOpcode 0x52 timeSet)) s
def execEvtCivLatch (v : BitVec 32) (s : State) : Ans := hubOn (evtCivLatch v) s

end Sys2Proof.Machine
end

