-- ==== Sys2Proof/Machine/Nvm.lean ====
section
/-!
DEFINITION. Machine/Nvm.lean: flash operations ending and failing, what each item's end brings, the last-fault log, the start-up restore
(R437, R456 to R472).
-/
namespace Sys2Proof.Machine

/-! ### The ends of items (R457 to R468) -/

/-- Heartwood, mirror, log or image erases since supply (R471). -/
def State.countErase (s : State) (item : Nat) : State :=
  if item = 3 then s.bump NVM_WEAR_hw else if item = 6 then s.bump NVM_WEAR_mirror
  else if item = 8 then s.bump NVM_WEAR_log else s.bump NVM_WEAR_image

/-- A position is committed (R457, R466). -/
def State.committed (s : State) (o : FlashOp) : State :=
  let s := s.bump EVT_HW_count
  if o.arg = 255 then s.emit 16 5 [o.num] else s

/-- A mirror is programmed: the oldest slot is erased (R467). -/
def State.mirrorDone (s : State) (o : FlashOp) : State :=
  let slot := o.arg % 4
  let cause := o.arg / 4 % 4
  let n := o.arg / 16
  let old := s.nvm.slots.filter fun k => decide (k ≠ slot)
  let victim := old.getD 1 0
  let s := s.setNvm { s.nvm with slots := slot :: old, mirCount := (s.nvm.mirCount + 1) % 2 ^ 32 }
  let s := ((s.bump NVM_MIRROR_count).wr NVM_MIRROR_slot 0 slot).wr NVM_MIRROR_cause 0 cause
  let s := s.emit 17 3 [slot, o.num, n, cause]
  s.flashEraseN 6 (mirrorBase victim) 16 victim

def logBase : Nat := 0x40000

/-- A last-fault slot is programmed: after the last slot of a sector the next sector is erased (R468). -/
def State.logDone (s : State) (o : FlashOp) : State :=
  if o.arg % 8 = 7 then s.flashAsk { item := 8, addr := logBase + 4096 * ((o.arg / 8 + 1) % 16), erase := true, arg := o.arg }
  else s

/-- A last-fault record stands in flash; unless a newer one has replaced it meanwhile, none is unwritten (R156). -/
def State.logWritten (s : State) : State :=
  { s with vrc := { s.vrc with lfCount := s.vrc.lfCount + 1, lfPend := s.vrc.lfPend && !s.vrc.lfAsked } }

/-- What the end of an operation brings. -/
def State.itemDone (s : State) (o : FlashOp) : State :=
  if o.item = 0 then s.askCommit o
  else if o.item = 1 then s.committed o
  else if o.item = 2 then s.clearDone
  else if o.item = 5 then s.mirrorDone o
  else if o.item = 7 then s.logWritten.logDone o
  else if o.item = 11 then (s.setNvm { s.nvm with half := 0, gen := 1, hwOpen := true }).wr EVT_HW_gen 0 1
  else s

/-- What the failure of an operation brings (R465, R458): a heartwood position takes the placeholder, other items stay invalid; the
later parts of a mirror or an image are dropped. -/
def State.itemFailed (s : State) (o : FlashOp) : State :=
  if o.item = 0 then (s.cacheHw o.arg (placeholder o.num)).askCommit o
  else if o.item = 2 then s.setNvm { s.nvm with clear := none }
  else if o.item = 4 then
    let s := s.setNvm { s.nvm with ops := s.nvm.ops.filter fun p => !(decide (p.item = 5) && decide (p.arg % 4 = o.arg)) }
    s.flashEraseN 6 (mirrorBase o.arg) 16 o.arg
  else if o.item = 5 then s.flashEraseN 6 (mirrorBase (o.arg % 4)) 16 (o.arg % 4)
  else if o.item = 7 then s.logDone o
  else if o.item = 9 ∨ o.item = 10 then
    s.setNvm { s.nvm with ops := s.nvm.ops.filter fun p => !(decide (9 ≤ p.item ∧ p.item ≤ 10) && decide (p.arg = o.arg)) }
  else s

/-- The head leaves and the next operation starts, with f its follow-up. Heartwood records of the old half are discarded with a clear
(R459). -/
def State.popOp (s : State) (o : FlashOp) (f : State → State) : State :=
  let rest := s.nvm.ops.drop 1
  let rest := if o.item = 2 then rest.filter fun p => decide (2 ≤ p.item) else rest
  f (s.setNvm { s.nvm with ops := rest, done := false }).flashIssue

/-- The transaction of the head has ended well: the part holds what it wrote. -/
def State.flashLand (s : State) (o : FlashOp) : State :=
  if o.erase then { s with flash := flashEraseAt s.flash o.addr }.countErase o.item
  else { s with flash := flashProgram s.flash o.addr o.page }

/-- FLASH_OP_DONE. While FP3 is not RUNNING the next step waits for its return (R441, R482). -/
def flashOpDone (s : State) : State :=
  match s.nvm.ops with
  | [] => s
  | o :: t =>
    if s.nvm.done || s.nvm.portHigh || !s.running then s
    else
      let s := s.flashLand o
      let left := o.data.drop o.page.length
      if !o.erase && !left.isEmpty then
        let o' : FlashOp := { o with addr := o.addr + o.page.length, data := left, tried := false }
        (s.setNvm { s.nvm with ops := o' :: t }).flashIssue
      else if s.fwRunning 3 then s.popOp o fun s => s.itemDone o
      else s.setNvm { s.nvm with done := true }

/-- FLASH_OP_TIMEOUT (R472): beyond twice the maximum, or a reported failure; st is the part's status register. -/
def flashOpTimeout (st : BitVec 8) (s : State) : State :=
  match s.nvm.ops with
  | [] => s
  | o :: t =>
    if s.nvm.done || s.nvm.portHigh || !s.running then s
    else if !o.tried then (s.setNvm { s.nvm with ops := { o with tried := true } :: t }).flashIssue
    else
      let s := s.emit 17 2 [b2n o.erase, o.addr, st.toNat]
      let s := if o.erase then s.bump NVM_ERR_erase else s.bump NVM_ERR_prog
      if o.item = 2 ∧ s.nvm.clear.isSome then
        let d := s.nvm.clear
        let s := s.popOp { o with item := 3 } fun s => s.itemFailed o
        match d with
        | some d => { s with hif := { s.hif with units := s.hif.units ++ [d] } }
        | none => s
      else s.popOp o fun s => s.itemFailed o

/-! ### The last-fault log (R156, R468) -/

/-- LAST_FAULT_FLASH_WRITE. -/
def lastFaultFlashWrite (s : State) : State :=
  if !s.vrc.lfPend || s.vrc.lfAsked || !s.fwRunning 3 || !s.nvm.restored then s
  else
    let k := s.nvm.logNext
    let s := { s with vrc := { s.vrc with lfAsked := true } }
    let s := s.setNvm { s.nvm with logNext := (k + 1) % 128 }
    s.flashAsk { item := 7, addr := logBase + 512 * k, data := leBytes 512 (s.rd VRC_LASTF), arg := k }

/-! ### The start-up restore (R462, R465 to R468) -/

/-- The header of a heartwood half in flash is valid. -/
def State.halfValid (s : State) (half : Nat) : Bool :=
  let h := s.readFlash (halfBase half) 24
  decide (fieldAt h 0 4 = 0x44485754) && decide (fieldAt h 4 1 = 0x10)
    && decide (leNat (s.readFlash (halfBase half + 24) 4) = crcBytes h)

def State.halfGen (s : State) (half : Nat) : Nat := leNat (s.readFlash (halfBase half + 8) 4)

/-- A heartwood position in flash is committed. -/
def State.hwCommitted (s : State) (half k : Nat) : Bool := !bit (leNat (s.readFlash (halfBase half + 64 + k / 8) 1)) (k % 8)

/-- FP3 finds the active half, or formats the region. -/
def State.restoreHw (s : State) : State :=
  let v0 := s.halfValid 0
  let v1 := s.halfValid 1
  if !v0 && !v1 then
    if !s.flag NVM_STAT_found then s.emit 17 5 [0, 1]
    else
      let s := ((s.emit 17 5 [0, 0]).flashEraseN 3 (halfBase 0) 3 0).flashEraseN 3 (halfBase 1) 3 1
      s.flashAsk { item := 11, addr := halfBase 0, data := halfHeader 1 s.ts }
  else
    let half := if v0 && v1 then b2n (laterSer (s.halfGen 1) (s.halfGen 0) 32) else b2n v1
    let done := (List.range 256).filter fun k => s.hwCommitted half k
    let s := done.foldl (fun s k => s.cacheHw k (s.readFlash (halfBase half + 0x1000 + 32 * k) 32)) s
    let pos := match done.getLast? with | some k => k + 1 | none => 0
    let s := s.setNvm { s.nvm with half := half, gen := s.halfGen half, hwOpen := true, hwPos := pos }
    let s := (s.wr EVT_HW_count 0 done.length).wr EVT_HW_gen 0 (s.halfGen half)
    let other := halfBase (1 - half)
    if s.flash.any fun c => decide (other ≤ c.1 ∧ c.1 < other + 0x3000) then s.flashEraseN 3 other 3 (1 - half) else s

def State.mirrorCount (s : State) (slot : Nat) : Nat := leNat (s.readFlash (mirrorBase slot + 8) 4)
def State.mirrorLen (s : State) (slot : Nat) : Nat := leNat (s.readFlash (mirrorBase slot + 16) 2)

/-- A mirror slot in flash is valid. -/
def State.mirrorValid (s : State) (slot : Nat) : Bool :=
  let h := s.readFlash (mirrorBase slot) 60
  decide (fieldAt h 0 4 = 0x57525053) && decide (fieldAt h 4 1 = 0x10) && decide (fieldAt h 16 2 ≤ 1024)
    && decide (leNat (s.readFlash (mirrorBase slot + 60) 4)
        = crcBytes (h ++ s.readFlash (mirrorBase slot + 0x1000) (32 * fieldAt h 16 2)))

/-- Insert a slot into a list of valid slots, newest first. -/
def State.insSlot (s : State) (k : Nat) : List Nat → List Nat
  | [] => [k]
  | j :: t => if laterSer (s.mirrorCount k) (s.mirrorCount j) 32 then k :: j :: t else j :: s.insSlot k t

/-- A restored record: flag 6 is set. -/
def priorRecord (bs : List Byte) : List Byte :=
  bs.take 2 ++ leBytes 2 (setBit (fieldAt bs 2 2) (4 + 6) true) ++ bs.drop 4

/-- FP3 appends the newest valid mirror to the sapwood and writes EV_EVT_BOOT. -/
def State.restoreMirror (s : State) : State :=
  let ok := ([0, 1, 2].filter s.mirrorValid).foldl (fun l k => s.insSlot k l) []
  match ok with
  | [] => (s.emit 17 5 [1, 1]).emit 16 1 [0, 0, 0]
  | k :: _ =>
    let n := s.mirrorLen k
    let count := s.mirrorCount k
    let cause := leNat (s.readFlash (mirrorBase k + 5) 1)
    let first := s.rd EVT_NEXT_next
    let recs := (List.range n).map fun i => priorRecord (s.readFlash (mirrorBase k + 0x1000 + 32 * i) 32)
    let slots := ok.take 2 ++ ([0, 1, 2].filter fun j => !decide (j ∈ ok.take 2))
    let s := recs.foldl (fun s r => s.sapwood r) s
    let s := s.setNvm { s.nvm with slots := slots, mirCount := count, prior := first, priorN := n }
    let s := (s.wr NVM_MIRROR_slot 0 k).wr NVM_MIRROR_cause 0 cause
    s.emit 16 1 [n, count, cause]

/-- The slot kept erased is erased where it is not blank. -/
def State.blankSlot (s : State) : State :=
  let k := s.nvm.slots.getD 2 0
  if s.flash.any fun c => decide (c.1 / 0x10000 = mirrorBase k / 0x10000) then s.flashEraseN 6 (mirrorBase k) 16 k else s

/-- A slot of the last-fault log is valid (R156). -/
def State.logValid (s : State) (k : Nat) : Bool :=
  let r := s.readFlash (logBase + 512 * k) 512
  decide (fieldAt r 0 4 = 0x46435256) && decide (fieldAt r 4 1 = 0x10) && decide (fieldAt r 508 4 = crcBytes (r.take 508))

def State.logCount (s : State) (k : Nat) : Nat := leNat (s.readFlash (logBase + 512 * k + 20) 4)

/-- FP3 loads the newest valid last-fault record. -/
def State.restoreLog (s : State) : State :=
  let ok := (List.range 128).filter s.logValid
  match ok with
  | [] => s.emit 17 5 [2, 1]
  | k :: t =>
    let best := t.foldl (fun b j => if laterSer (s.logCount j) (s.logCount b) 32 then j else b) k
    let s := if s.vrc.lfPend then s else s.wr VRC_LASTF 0 (leNat (s.readFlash (logBase + 512 * best) 512))
    let s := { s with vrc := { s.vrc with lfCount := s.vrc.lfCount + s.logCount best } }
    s.setNvm { s.nvm with logNext := (best + 1) % 128 }

/-- FP3_STARTUP_RESTORE (R403 step 5, R462). -/
def fp3StartupRestore (s : State) : State :=
  if !s.running || !decide (1 ≤ s.rd RST_SEQ_stage) || !s.fwRunning 3 || s.nvm.restored then s
  else
    let s := (((s.restoreHw).restoreMirror).blankSlot).restoreLog
    let s := s.setNvm { s.nvm with restored := true }
    if s.rst.lastDie then s.emit 2 1 [s.rd RST_CAUSE_cause, s.rd RST_LAST_TS_ts % 2 ^ 32, s.rd RST_LAST_TS_ts / 2 ^ 32] else s

/-! ### FP3 restarts and returns (R441, R482) -/

/-- EVT_CLEAR in progress completes; a header not yet at the part is never programmed. -/
def State.nvmFwRestart (s : State) : State :=
  match s.nvm.clear with
  | none => s
  | some d =>
    let ops := s.nvm.ops.take 1 ++ (s.nvm.ops.drop 1).filter fun o => decide (o.item ≠ 2)
    { s.setNvm { s.nvm with clear := none, ops := ops } with fw := { s.fw with lost := s.fw.lost ++ [d] } }

/-- FP3 returns: it follows up what ended meanwhile and takes the mirrors that wait. -/
def State.nvmFwReturn (s : State) : State :=
  let s := match s.nvm.ops with
    | o :: _ => if s.nvm.done then s.popOp o fun s => s.itemDone o else s
    | [] => s
  let w := s.nvm.wait
  w.foldl (fun s c => s.mirrorAsk c) (s.setNvm { s.nvm with wait := [] })

/-- MIRROR_DEFER_EXPIRE (R461). -/
def mirrorDeferExpire (s : State) : State :=
  match s.nvm.defer, s.nvm.capT with
  | some c, some t => if t + mirrorGap ≤ s.ts ∧ s.fwRunning 3 then s.mirrorCapture c else s
  | _, _ => s

/-! ### Image copy A (R437, R471) -/

def imageAddr (copyB : Bool) (n : Nat) : Nat := (if copyB then 0x600000 else 0x400000) + 0x80000 * n

/-- FP3 rewrites copy A of an image from copy B, once per die reset; its first page, with the header, comes last. -/
def State.imageRewrite (s : State) (n : Nat) : State :=
  if bit s.nvm.rewritten n then s
  else
    let s := s.setNvm { s.nvm with rewritten := setBit s.nvm.rewritten n true }
    let s := s.flashEraseN 9 (imageAddr false n) 128 n
    let bs := s.readFlash (imageAddr true n) 0x80000
    let s := s.flashAsk { item := 10, addr := imageAddr false n + 256, data := bs.drop 256, arg := n }
    s.flashAsk { item := 10, addr := imageAddr false n, data := bs.take 256, arg := n }

/-! ### The meanings -/

def execFlashOpDone (s : State) : Ans := hubOn flashOpDone s
def execFlashOpTimeout (st : BitVec 8) (s : State) : Ans := hubOn (flashOpTimeout st) s
def execLastFaultFlashWrite (s : State) : Ans := hubOn lastFaultFlashWrite s
def execFp3StartupRestore (s : State) : Ans := hubOn fp3StartupRestore s
def execMirrorDeferExpire (s : State) : Ans := hubOn mirrorDeferExpire s

end Sys2Proof.Machine
end

