-- ==== Sys2Proof/Machine/Smb.lean ====
section
/-!
DEFINITION. Machine/Smb.lean: the SMBus target (R478 to R481).
-/
namespace Sys2Proof.Machine

/-! ### The bus -/

/-- One bit into the packet error code of SMBus 3.1: CRC-8, polynomial x^8 + x^2 + x + 1. -/
def pecBit (c : Nat) : Nat := if 128 ≤ c then (2 * c % 256) ^^^ 7 else 2 * c
def pecByte (c b : Nat) : Nat := pecBit (pecBit (pecBit (pecBit (pecBit (pecBit (pecBit (pecBit (c ^^^ b))))))))
def pecOf (bs : List Nat) : Nat := bs.foldl pecByte 0

/-- The target answers: it is not gated, and stage CLEAR has ended (R478, R530). -/
def State.smbUp (s : State) : Bool := s.running && s.clocked 23 && decide (s.rd RST_SEQ_stage ≠ 0)

/-- Answer a read: the bytes, after their count in a block read, and the packet error code (R478). -/
def State.smbAnswer (s : State) (cmd : Nat) (block : Bool) (bs : List Byte) : State :=
  let a := s.rd SMB_CTL_addr
  let data := (if block then [bs.length] else []) ++ bs.map BitVec.toNat
  s.send (.smbus (data ++ [pecOf ([2 * a, cmd, 2 * a + 1] ++ data)]))

/-- A violation is counted and noted for the millisecond's event (R480). -/
def State.smbViol (s : State) (kind cmd : Nat) : State :=
  let s := if kind ≤ 1 then s.bump SMB_STAT_cmd else if kind = 2 then s.bump SMB_STAT_pec
    else if kind = 3 then s.bump SMB_STAT_timeout else s
  let x := mget s.smb.viols kind (0, cmd)
  { s with smb := { s.smb with viols := mput s.smb.viols kind (x.1 + 1, x.2) } }

/-- EV_SMB_VIOL of the millisecond that ends (R480). -/
def State.smbBoundary (s : State) : State :=
  s.smb.viols.foldl (fun s x => s.emit 23 1 [x.1, x.2.2, x.2.1]) { s with smb := { s.smb with viols := [] } }

/-- A transaction for a command: a target that does not answer does not acknowledge; one that the command does not define is kind 1. -/
def State.smbTx (s : State) (cmd : Nat) (defined : Bool) (f : State → State) : State :=
  if !s.smbUp then s.send .smbusNack
  else if !defined then (s.smbViol 1 cmd).send .smbusNack
  else f s

/-- A write: kind 1 where ok is false, kind 2 on a wrong packet error code. -/
def State.smbWrite (s : State) (cmd : Nat) (defined pec ok : Bool) (f : State → State) : State :=
  s.smbTx cmd (defined && ok) fun s => if pec then f s else (s.smbViol 2 cmd).send .smbusNack

/-! ### The commands (R479) -/

def smbIdent (defined : Bool) (s : State) : State :=
  s.smbTx 0x00 defined fun s =>
    s.smbAnswer 0x00 true (leBytes 1 (s.rd HIF_VER_gen) ++ leBytes 1 (s.rd HIF_VER_ring) ++ leBytes 1 (s.rd HIF_VER_slate)
      ++ leBytes 1 (s.rd HIF_VER_salgor) ++ (List.range 4).flatMap fun n => leBytes 4 (s.rd FW_VER_version n))

def State.statusWord (s : State) : Nat :=
  s.rd RST_SEQ_stage + 16 * (s.rd VRC_STAT_state % 8) + 128 * b2n s.pins.trip + 256 * b2n s.fbInForce
  + 512 * s.rd RST_CAUSE_crowbar + 1024 * s.rd THM_STAT_throttle + 2048 * s.rd EVT_NA_set
  + 4096 * (if s.isD then s.rd PAR_STAT_role else 0)

def smbStatus (defined : Bool) (s : State) : State :=
  s.smbTx 0x01 defined fun s => s.smbAnswer 0x01 false (leBytes 2 s.statusWord)

def smbTempHot (defined : Bool) (s : State) : State :=
  s.smbTx 0x10 defined fun s => s.smbAnswer 0x10 true (leBytes 2 (s.rd THM_HOT_value) ++ leBytes 2 (s.rd THM_HOT_node))

/-- 64 anchors from a on. -/
def State.smbAnchors (s : State) (cmd a : Nat) : State :=
  s.smbAnswer cmd true ((List.range 64).flatMap fun k => leBytes 2 (s.rd SNS_ANC_value (a + k)))

def smbAnchorLo (defined : Bool) (s : State) : State := s.smbTx 0x11 defined fun s => s.smbAnchors 0x11 0
def smbAnchorHi (defined : Bool) (s : State) : State := s.smbTx 0x12 defined fun s => s.smbAnchors 0x12 64

def smbTinRead (defined : Bool) (s : State) : State :=
  s.smbTx 0x18 defined fun s => s.smbAnswer 0x18 false (leBytes 2 (s.rd THM_TIN_tin))

/-- A TIN write follows R207; with tin_en = 0 it is kind 1. -/
def smbTinWrite (defined pec : Bool) (v : BitVec 16) (s : State) : State :=
  s.smbWrite 0x18 defined pec (s.flag SMB_CTL_tin_en) fun s => s.writeTin v.toNat

def smbPower (defined : Bool) (s : State) : State :=
  s.smbTx 0x20 defined fun s =>
    s.smbAnswer 0x20 true (leBytes 4 (s.rd ACT_MEAS_DIE) ++ leBytes 4 (sumTo 16 fun r => s.rd PMB_RAIL_P r)
      ++ leBytes 4 (s.rd ACT_PKG_BUD) ++ leBytes 4 (s.rd VRC_VSENSE_vsense))

def smbLastfPageRead (defined : Bool) (s : State) : State :=
  s.smbTx 0x30 defined fun s => s.smbAnswer 0x30 false (leBytes 1 s.smb.page)

/-- A page above 3 is no transaction of the command (log entry 30). -/
def smbLastfPageWrite (defined pec : Bool) (v : BitVec 8) (s : State) : State :=
  s.smbWrite 0x30 defined pec (decide (v.toNat ≤ 3)) fun s => { s with smb := { s.smb with page := v.toNat } }

def smbLastf (defined : Bool) (s : State) : State :=
  s.smbTx 0x31 defined fun s => s.smbAnswer 0x31 true (leBytes 128 (s.rd VRC_LASTF / 2 ^ (1024 * s.smb.page)))

def smbEvtSel (defined pec : Bool) (region : BitVec 8) (num : BitVec 32) (s : State) : State :=
  s.smbWrite 0x40 defined pec true fun s =>
    if 1 < region.toNat then s.smbViol 4 0x40
    else { s with smb := { s.smb with region := region.toNat, sel := num.toNat } }

/-- The selected entry in the 40-byte layout of R456. -/
def State.smbEntry (s : State) : Option (List Byte) :=
  let k := s.smb.sel
  if s.smb.region = 0 then (s.recordAt k).map fun r => evtEntry true k (s.seqWord k) r
  else if k < s.rd EVT_HW_count then some (evtEntry true k 0 (s.heartwoodAt k)) else none

/-- The oldest record still held in the selected region. -/
def State.smbOldest (s : State) : Nat :=
  if s.smb.region = 0 then (s.rd EVT_NEXT_next + 2 ^ 32 - s.held) % 2 ^ 32 else 0

/-- EVT_DATA (R481): inTime says that FP3 answers within the stretch. -/
def smbEvtData (defined inTime : Bool) (s : State) : State :=
  s.smbTx 0x41 defined fun s =>
    if !s.fwRunning 3 || !inTime then s.smbAnswer 0x41 true []
    else
      match s.smbEntry with
      | some bs => { s.smbAnswer 0x41 true bs with smb := { s.smb with sel := (s.smb.sel + 1) % 2 ^ 32 } }
      | none => { s.smbAnswer 0x41 true [] with smb := { s.smb with sel := s.smbOldest } }

def smbTime (defined : Bool) (s : State) : State :=
  s.smbTx 0x50 defined fun s =>
    let c := s.civil s.ts
    let f := c.getD []
    let g (k : Nat) : Nat := f.getD k 0
    s.smbAnswer 0x50 true (leBytes 2 (g 0) ++ leBytes 1 (g 1) ++ leBytes 1 (g 2) ++ leBytes 1 (g 3) ++ leBytes 1 (g 4)
      ++ leBytes 1 (g 5) ++ leBytes 1 (b2n c.isSome) ++ leBytes 4 (g 6) ++ leBytes 4 0)

/-- SCL has been low for 25 to 35 ms: the interface resets (R478, R480). -/
def smbBusTimeout (s : State) : State := if s.smbUp then s.smbViol 3 0 else s

/-- SMB_UNDEFINED_COMMAND (R480). -/
def smbUndefinedCommand (code : BitVec 8) (s : State) : State :=
  if code.toNat ∈ [0x00, 0x01, 0x10, 0x11, 0x12, 0x18, 0x20, 0x30, 0x31, 0x40, 0x41, 0x50] then s
  else if s.smbUp then (s.smbViol 0 code.toNat).send .smbusNack else s.send .smbusNack

/-! ### The meanings -/

def execSmbIdent (defined : Bool) (s : State) : Ans := .next (smbIdent defined s)
def execSmbStatus (defined : Bool) (s : State) : Ans := .next (smbStatus defined s)
def execSmbTempHot (defined : Bool) (s : State) : Ans := .next (smbTempHot defined s)
def execSmbAnchorLo (defined : Bool) (s : State) : Ans := .next (smbAnchorLo defined s)
def execSmbAnchorHi (defined : Bool) (s : State) : Ans := .next (smbAnchorHi defined s)
def execSmbTinRead (defined : Bool) (s : State) : Ans := .next (smbTinRead defined s)
def execSmbTinWrite (defined pec : Bool) (v : BitVec 16) (s : State) : Ans := .next (smbTinWrite defined pec v s)
def execSmbPower (defined : Bool) (s : State) : Ans := .next (smbPower defined s)
def execSmbLastfPageRead (defined : Bool) (s : State) : Ans := .next (smbLastfPageRead defined s)
def execSmbLastfPageWrite (defined pec : Bool) (v : BitVec 8) (s : State) : Ans := .next (smbLastfPageWrite defined pec v s)
def execSmbLastf (defined : Bool) (s : State) : Ans := .next (smbLastf defined s)
def execSmbEvtSel (defined pec : Bool) (region : BitVec 8) (num : BitVec 32) (s : State) : Ans :=
  .next (smbEvtSel defined pec region num s)
def execSmbEvtData (defined inTime : Bool) (s : State) : Ans := .next (smbEvtData defined inTime s)
def execSmbTime (defined : Bool) (s : State) : Ans := .next (smbTime defined s)
def execSmbBusTimeout (s : State) : Ans := .next (smbBusTimeout s)
def execSmbUndefinedCommand (code : BitVec 8) (s : State) : Ans := .next (smbUndefinedCommand code s)

end Sys2Proof.Machine
end

