-- ==== Sys2Proof/Machine/Memory.lean ====
section
/-!
DEFINITION. Machine/Memory.lean: accesses of masters to banks, error correction, bring-up reads, the background test (R421 to R432).
-/
namespace Sys2Proof.Machine

def State.setHub (s : State) (h : Hub) : State := { s with hub := h }

/-! ### Region registers (R422) -/

/-- An entry covers a whole access with its permission. -/
def State.rgnCovers (s : State) (i bank off len : Nat) (write : Bool) : Bool :=
  s.flag MEM_RGN_valid i && decide (s.rd MEM_RGN_bank i = bank) && s.flag (if write then MEM_RGN_w else MEM_RGN_r) i
    && decide (256 * s.rd MEM_RGN_base i ≤ off) && decide (off + len ≤ 256 * (s.rd MEM_RGN_base i + s.rd MEM_RGN_size i))

/-- An access that R421 lists and the eight reset entries have no room for (log entry 8). -/
def extraCovers (master bank off len : Nat) (write : Bool) : Bool :=
  decide (off + len ≤ 256 * bankRegions bank) &&
    (rgnExtra master).any fun e => decide (e.1 = bank) && (if write then e.2.2 else e.2.1)

/-- A master may make an access. -/
def State.rgnOk (s : State) (master bank off len : Nat) (write : Bool) : Bool :=
  ((List.range 8).any fun e => s.rgnCovers (8 * master + e) bank off len write) || extraCovers master bank off len write

/-- A violation is recorded. -/
def State.rgnViol (s : State) (master bank off : Nat) (write : Bool) : State :=
  let s := ((s.wr MEM_VIOL_master 0 master).wr MEM_VIOL_bank 0 bank).wr MEM_VIOL_region 0 (off / 256)
  ((s.wr MEM_VIOL_write 0 (b2n write)).wr MEM_VIOL_valid 0 1).emitLim 3 1 master msT []

/-! ### Error correction (R426) -/

/-- One word read with an error: its region goes to the head of the background test's queue. -/
def State.eccWord (s : State) (bank off : Nat) (double : Bool) : State :=
  let s := s.setHub { s.hub with btQueue := (bank, off / 256) :: s.hub.btQueue }
  if double then (s.bump MEM_ECC_double).emitLim 3 2 bank msT [bank, off / 256] else s.bump MEM_ECC_single

/-- The bytes of a line with the words of double-bit errors zero. -/
def eccBytes (bs : List Byte) (ecc : List (Nat × Bool)) : List Byte :=
  bs.mapIdx fun i b => if ecc.any fun e => decide (e.1 = i / 8) && e.2 then 0 else b

/-- The words of a line that a read finds wrong are counted (R426). -/
def State.eccRead (s : State) (bank off : Nat) (ecc : List (Nat × Bool)) : State :=
  ecc.foldl (fun s e => s.eccWord bank (off + 8 * e.1) e.2) s

/-! ### Reads and writes of lines -/

/-- A byte of any bank: in banks 0 to 7 the thermal copies and the model slots (R95); what the manual does not lay out in banks 0 to 12
is free. -/
def State.anyByte (s : State) (bank off : Nat) : Byte :=
  if bank < 8 ∧ off < 0x30000 ∧ ¬ mget s.hub.bad (bank * 4096 + off / 256) false then
    BitVec.ofNat 8 (s.thmWord bank off / 2 ^ (8 * (off % 2)))
  else if 13 ≤ bank ∨ mget s.hub.wrote (bankAddr bank off / 8) false ∨ mget s.hub.bad (bank * 4096 + off / 256) false then s.bankByte bank off
  else
    if bank < 8 ∧ 0x40000 ≤ off then
      (mget s.fcs.models ((off - 0x40000) / 0x4000) []).getD ((off - 0x40000) % 0x4000) 0
    else s.freeAt (bankAddr bank off)

/-- n words of a bank are written: in banks 0 to 12 they hold what was written from now on. -/
def State.noteWrote (s : State) (bank off n : Nat) : State :=
  if bank < 13 then
    s.setHub { s.hub with wrote := (List.range n).foldl (fun m k => mput m (bankAddr bank off / 8 + k) true) s.hub.wrote }
  else s

/-- Bytes of whole words are written: in the thermal copies the set's rows take them, elsewhere the bank's bytes do. -/
def State.bankPut (s : State) (bank off : Nat) (bs : List Byte) : State :=
  if bank < 8 ∧ off < 0x30000 then foldTo (bs.length / 2) s fun s k => s.putThmWord bank (off + 2 * k) (fieldAt bs (2 * k) 2)
  else (s.writeBank bank off bs).noteWrote bank off (bs.length / 8)

def State.readLine (s : State) (bank off : Nat) : List Byte := (List.range 64).map fun k => s.anyByte bank (off + k)

/-- The master that owns a bank (R421). -/
def bankOwner (bank : Nat) : Nat := if bank < 8 then 0 else if bank < 14 then bank - 7 else bank - 6

/-- The rate gate's span on a bank in timestamp units (R424): its cycles run at 1.6 GHz, 800 MHz or 400 MHz. -/
def State.gateSpan (s : State) (bank : Nat) : Nat :=
  let g := s.rd MEM_RATE_gap
  if bank = 8 then (g + 1) / 2 else if 14 ≤ bank then 2 * g else g

/-- The gate admits a non-owner's access now; the instants of earlier ones are kept by bank. -/
def State.gateOpen (s : State) (bank : Nat) : Bool :=
  match mfind s.hub.gateT bank with
  | some t => decide (t + s.gateSpan bank ≤ s.ts)
  | none => true

/-- A bank is being cleared. -/
def State.clearing (s : State) (bank : Nat) : Bool := bit (s.rd MEM_STAT_clearing) bank

/-- Masters that are not held up at the gate: the owner, the take engine and the clear and test engine (R424; log entry 170). -/
def ungated (m bank : Nat) : Bool := decide (m = bankOwner bank) || decide (m = 2) || decide (m = 7)

/-- Present an access (R422): it is judged by the region entries in force now. A refused read returns zeros, a refused write is dropped,
and neither costs the bank a cycle. -/
def State.presentAcc (s : State) (a : MemAcc) : State :=
  if decide (a.master ≠ 7) && !s.rgnOk a.master a.bank a.off 64 a.write then
    let s := s.rgnViol a.master a.bank a.off a.write
    if a.write then s
    else if a.master = 12 then s.setHub { s.hub with buData := some (List.replicate 64 0) }
    else s.send (.memData a.master (List.replicate 64 0))
  else s.setHub { s.hub with accs := s.hub.accs ++ [{ a with gated := !ungated a.master a.bank }] }

/-- FIRMWARE_MEMORY_ACCESS (R422, R424): a line access of a master is presented; the bank serves it as the cycle ends (R423). ecc lists
the words that read with an error and whether it is double. The bring-up port presents its reads by MEM_BU_READ. -/
def firmwareMemoryAccess (master : Fin 12) (bank : Fin 18) (line : BitVec 14) (write : Bool) (data : BitVec 512)
    (ecc : List (Fin 8 × Bool)) (s : State) : State :=
  let m := master.val
  if decide (8 ≤ m) && !s.fwRunning (m - 8) then s
  else s.presentAcc { master := m, bank := bank, off := 64 * line.toNat, write := write, data := data.toNat,
                      ecc := ecc.map fun e => (e.1.val, e.2) }

/-! ### Arbitration (R423 to R425) -/

/-- The priority of an access, lowest first (R423). -/
def MemAcc.rank (a : MemAcc) : Nat :=
  if a.master = 2 then 0 else if a.held then 1 else if a.master = 7 then 2 else if a.master ≠ bankOwner a.bank then 3 else 4

/-- a goes before b: by priority, then by master number, then in the order presented. -/
def MemAcc.before (a b : MemAcc) : Bool :=
  if a.rank ≠ b.rank then decide (a.rank < b.rank) else decide (a.master < b.master)

/-- The first access in the order of R423. -/
def firstAcc : List MemAcc → Option MemAcc
  | [] => none
  | a :: t => match firstAcc t with
    | some b => if b.before a then some b else some a
    | none => some a

/-- The oldest access of each master: a stalled master presents nothing more. -/
def headAccs (l : List MemAcc) : List MemAcc :=
  l.foldl (fun h a => if h.any fun b => decide (b.master = a.master) then h else h ++ [a]) []

/-- A bank serves nothing: it is being cleared or its island is gated. -/
def State.bankBusy (s : State) (bank : Nat) : Bool := s.clearing bank || (decide (bank < 8) && !s.clocked 12)

/-- The oldest access at a bank's gate enters arbitration where the gate admits one (R424). -/
def State.gateAdmit (s : State) (bank : Nat) : State :=
  match (headAccs s.hub.accs).find? fun a => decide (a.bank = bank) && a.gated with
  | some a =>
    if s.gateOpen bank then
      s.setHub { s.hub with gateT := mput s.hub.gateT bank s.ts,
                            accs := s.hub.accs.map fun b => if b = a then { b with gated := false } else b }
    else s
  | none => s

/-- The accesses that one bank cycle serves: the first in order, with every read of its line and one write (R425). -/
def servedAccs (cand : List MemAcc) : List MemAcc :=
  match firstAcc cand with
  | none => []
  | some a =>
    let line := cand.filter fun b => decide (b.off = a.off)
    (line.filter fun b => !b.write) ++ (firstAcc (line.filter (·.write))).toList

/-- Serve one access: a write takes effect after the reads of its cycle (R425). -/
def State.serveAcc (s : State) (a : MemAcc) : State :=
  if a.write then s.bankPut a.bank a.off (leBytes 64 a.data)
  else
    let bs := eccBytes (s.readLine a.bank a.off) a.ecc
    let s := s.eccRead a.bank a.off a.ecc
    if a.master = 12 then s.setHub { s.hub with buData := some bs } else s.send (.memData a.master bs)

/-- Cycles of LCX that the loop engine loses (R187, R424). -/
def State.lcxStall (s : State) (n : Nat) : State := { s with lpe := { s.lpe with stalls := s.lpe.stalls + n } }

/-- One cycle of a bank. -/
def State.bankCycle (s : State) (bank : Nat) : State :=
  if s.bankBusy bank then s
  else
    let s := s.gateAdmit bank
    let cand := (headAccs s.hub.accs).filter fun a => decide (a.bank = bank) && !a.gated
    let now := servedAccs cand
    let rest := (s.hub.accs.filter fun a => !decide (a ∈ now)).map fun a => if a ∈ cand then { a with held := true } else a
    let s := if decide (bank = 8) && now.any (fun a => decide (a.master ≠ 1)) then s.lcxStall 1 else s
    now.foldl State.serveAcc (s.setHub { s.hub with accs := rest })

/-- The bank cycles that end with a hub cycle: two of LCX, one of a bank of the hub, and one in two of a firmware bank (R382, R421). -/
def State.bankCycles (s : State) : State :=
  if s.hub.accs.isEmpty then s
  else
    let s := (foldTo 14 s State.bankCycle).bankCycle 8
    if s.ts % 2 = 1 then foldTo 4 s fun s k => s.bankCycle (14 + k) else s

/-- A processor that stops takes its accesses with it (R440). -/
def State.dropAccs (s : State) (m : Nat) : State :=
  s.setHub { s.hub with accs := s.hub.accs.filter fun a => decide (a.master ≠ m) }

/-! ### The bring-up port (R432) -/

/-- MEM_BU_READ: a write to MEM_BU_ADDR presents a read of master 12, in place of one not yet done; ecc as for an access. -/
def memBuRead (v : BitVec 32) (ecc : List (Fin 8 × Bool)) (s : State) : State :=
  if !s.unitAnswers 3 then s else
  let s := (s.wr MEM_BU_ADDR_bank 0 (bits v.toNat 0 5)).wr MEM_BU_ADDR_line 0 (bits v.toNat 6 14)
  let s := (s.wr MEM_BU_ADDR_done 0 0).dropAccs 12
  let s := s.setHub { s.hub with buWait := true, buData := none }
  s.presentAcc { master := 12, bank := s.rd MEM_BU_ADDR_bank, off := 64 * s.rd MEM_BU_ADDR_line, write := false,
                 ecc := ecc.map fun e => (e.1.val, e.2) }

/-- MEM_BU_READ_DONE: the line that the bank has returned stands in MEM_BU_DATA. -/
def memBuReadDone (s : State) : State :=
  match s.hub.buData with
  | some bs =>
    let s := s.setHub { s.hub with buWait := false, buData := none }
    let s := foldTo 16 s fun s k => s.wr MEM_BU_DATA k (fieldAt bs (4 * k) 4)
    s.wr MEM_BU_ADDR_done 0 1
  | none => s

/-! ### The background test (R428, R429) -/

/-- A bank the test skips: gated or being cleared. -/
def State.btSkip (s : State) (bank : Nat) : Bool := s.clearing bank || (decide (bank < 8) && !s.clocked 12)

/-- The next region in order from a place on, with fuel for each bank. -/
def State.btFind (s : State) : Nat → Nat → Nat → Option (Nat × Nat)
  | 0, _, _ => none
  | n + 1, bank, region =>
    if 18 ≤ bank then s.btFind n 0 0
    else if bankRegions bank ≤ region || s.btSkip bank then s.btFind n (bank + 1) 0
    else some (bank, region)

/-- Retire a region to the lowest free spare of its bank. -/
def State.retire (s : State) (bank region : Nat) : State :=
  match (List.range 8).find? fun k => !s.flag MEM_RMAP_valid (8 * bank + k) with
  | some k =>
    let s := (s.wr MEM_RMAP_region (8 * bank + k) region).wr MEM_RMAP_valid (8 * bank + k) 1
    let s := s.wr MEM_STAT_retired 0 (min 255 (s.rd MEM_STAT_retired + 1))
    s.emit 3 3 [bank, region, ((List.range 8).filter fun j => !s.flag MEM_RMAP_valid (8 * bank + j)).length]
  | none =>
    let s := s.setHub { s.hub with bad := mput s.hub.bad (bank * 4096 + region) true }
    (s.wr MEM_STAT_nospare 0 1).emit 3 4 []

/-- The region tested next, and whether it was queued. -/
def State.btPick (s : State) : Option ((Nat × Nat) × Bool) :=
  match (s.hub.btQueue.filter fun e => !s.btSkip e.1).head? with
  | some e => some (e, true)
  | none => (s.btFind 40 (s.hub.btNext / 4096) (s.hub.btNext % 4096)).map fun e => (e, false)

/-- BACKGROUND_TEST: at every period one region is tested; fails says that the march failed, and ecc lists the words of the region
that step 1 read with an error. -/
def backgroundTest (fails : Bool) (ecc : List (Fin 32 × Bool)) (s : State) : State :=
  if !s.running || !s.flag MEM_BT_en || decide (s.ts % (usT * s.rd MEM_BT_period) ≠ 0) || decide (s.ts < s.hub.btT) then s
  else
    let s := s.setHub { s.hub with btT := s.ts + 1 }
    match s.btPick with
    | none => s
    | some ((bank, region), queued) =>
      let s := s.wr MEM_STAT_bt_bank 0 bank
      let s := if bank = 8 then s.lcxStall 2 else s
      let s := if queued then s.setHub { s.hub with btQueue := s.hub.btQueue.erase (bank, region) }
        else s.setHub { s.hub with btNext := bank * 4096 + region + 1 }
      let s := ecc.foldl (fun s e => s.eccWord bank (256 * region + 8 * e.1.val) e.2) s
      let s := ecc.foldl (fun s e => if e.2 then
          s.bankPut bank (256 * region + 8 * e.1.val) (leBytes 8 0) else s) s
      if fails then s.retire bank region else s

/-! ### The meanings -/

def execFirmwareMemoryAccess (master : Fin 12) (bank : Fin 18) (line : BitVec 14) (write : Bool) (data : BitVec 512)
    (ecc : List (Fin 8 × Bool)) (s : State) : Ans := hubOn (firmwareMemoryAccess master bank line write data ecc) s
def execMemBuRead (v : BitVec 32) (ecc : List (Fin 8 × Bool)) (s : State) : Ans := hubOn (memBuRead v ecc) s
def execMemBuReadDone (s : State) : Ans := hubOn memBuReadDone s
def execBackgroundTest (fails : Bool) (ecc : List (Fin 32 × Bool)) (s : State) : Ans := hubOn (backgroundTest fails ecc) s

end Sys2Proof.Machine
end

