-- ==== Sys2Proof/Machine/RegAccess.lean ====
section
/-!
DEFINITION. Machine/RegAccess.lean: 32-bit words of the register window: which fields lie in a word, reading it, writing the fields
of an access code in it (R11, R535, R538, R539).
-/
namespace Sys2Proof.Machine

/-- The elements of a field that overlap the word at byte offset o. -/
def Fld.elems (f : Fld) (o : Nat) : List Nat :=
  let w := 8 * o
  if w + 32 ≤ f.key then []
  else
    let lo := if w < f.key + f.width then 0 else (w - f.key - f.width) / f.stride + 1
    let hi := min (f.count - 1) ((w + 31 - f.key) / f.stride)
    ((List.range (hi + 1 - lo)).map fun k => lo + k).filter fun i =>
      decide (f.key + i * f.stride < w + 32) && decide (w < f.key + i * f.stride + f.width)

/-- The unit of an offset (R538). -/
def unitOf (o : Nat) : Nat := o / 0x4000

/-- The fields with an element in a word, with that element. -/
def wordFlds (o : Nat) : List (Fld × Nat) := (unitFlds (unitOf o)).flatMap fun f => (f.elems o).map fun i => (f, i)

/-- A word in which a field with the access code lies. -/
def wordHas (o : Nat) (a : Acc) : Bool := (wordFlds o).any fun x => decide (x.1.acc = a)

/-- What an element's value v adds to the word at o. -/
def Fld.toWord (f : Fld) (i o v : Nat) : Nat :=
  let e := f.key + i * f.stride
  if 8 * o ≤ e then v * 2 ^ (e - 8 * o) % 2 ^ 32 else v / 2 ^ (8 * o - e) % 2 ^ 32

/-- An element's value with the part that lies in the word at o replaced by the word v. -/
def Fld.ofWord (f : Fld) (i o old v : Nat) : Nat :=
  let e := f.key + i * f.stride
  if 8 * o ≤ e then
    let n := min f.width (8 * o + 32 - e)
    old - bits old 0 n + bits v (e - 8 * o) n
  else
    let k := 8 * o - e
    let n := min 32 (f.width - k)
    old - bits old k n * 2 ^ k + bits v 0 n * 2 ^ k

/-- The bits of a word that fields with an access code cover. -/
def wordMask (o : Nat) (a : Acc) : Nat :=
  sumN (((wordFlds o).filter fun x => decide (x.1.acc = a)).map fun x => x.1.toWord x.2 o (2 ^ x.1.width - 1))

/-- The bits of a word that any field covers. -/
def wordCover (o : Nat) : Nat := sumN ((wordFlds o).map fun x => x.1.toWord x.2 o (2 ^ x.1.width - 1))

/-- A field that only Glatos D has: the DVFS registers read zero and ignore writes in Glatos S (R401). -/
def dvfsOnly (f : Fld) : Bool := decide (0x20200 ≤ f.key) && decide (f.key < 0x20260)

/-- ACT_ACC_STAT.behind (R291): a boundary awaits reconciliation beyond 200 µs. -/
def State.behind (s : State) : Bool := s.acc.wait.any fun r => decide (r.b + 200 * usT < s.ts)

/-- The value of an element as a read returns it now. -/
def State.liveFld (s : State) (f : Fld) (i : Nat) : Nat :=
  if f.key = CLK_TS_ts.key then s.ts % 2 ^ 64 else if dvfsOnly f && !s.isD then 0 else if f.acc = .wo then 0
  else if f.key = FCS_DIE_FC_current.key then s.dieFcReg i
  else if f.key = THM_ANC_ST_healthy.key then b2n (s.anchorOk i)
  else if f.key = ACT_ACC_STAT_behind.key then b2n s.behind
  else s.rd f i

/-- A read of the word at o (R539). -/
def State.readWord (s : State) (o : Nat) : Nat :=
  if s.unitAnswers (unitOf o) then sumN ((wordFlds o).map fun x => x.1.toWord x.2 o (s.liveFld x.1 x.2)) else 0

/-- Write the elements of the fields that p selects in the word at o. -/
def State.writeFlds (s : State) (p : Fld → Bool) (o v : Nat) : State :=
  ((wordFlds o).filter fun x => p x.1).foldl (fun s x => s.wr x.1 x.2 (x.1.ofWord x.2 o (s.rd x.1 x.2) v)) s

/-- The RWT part of the word at o, as it stands. -/
def State.rwtWord (s : State) (o : Nat) : Nat :=
  sumN (((wordFlds o).filter fun x => decide (x.1.acc = .rwt)).map fun x => x.1.toWord x.2 o (s.rd x.1 x.2))

/-- Write the RWT fields of the word at o: the DVFS settings only in Glatos D. -/
def State.writeRwt (s : State) (o v : Nat) : State :=
  s.writeFlds (fun f => decide (f.acc = .rwt) && (s.isD || !dvfsOnly f)) o v

/-- The offset by which R324 names a register: its own where it is 1 or 2 bytes wide, else its word's. -/
def regOffset (f : Fld) (i : Nat) : Nat := let a := f.keyOf i / 8; if f.stride < 32 then a else a / 4 * 4

end Sys2Proof.Machine
end

