-- ==== Sys2Proof/Machine/SlateOps.lean ====
section
/-!
DEFINITION. Machine/SlateOps.lean: slates: opening, staging, abandoning (R303, R318 to R322).
-/
namespace Sys2Proof.Machine

def State.slate (s : State) (k : Nat) : Slate := mget s.slt.slates k { }
def State.setSlt (s : State) (x : Slt) : State := { s with slt := x }
def State.setSlateRaw (s : State) (k : Nat) (x : Slate) : State := s.setSlt { s.slt with slates := mput s.slt.slates k x }

/-- Lines a slate has staged (R319). -/
def Slate.lines (x : Slate) : Nat := x.regs.length + 9 * x.ctxs.length + 9 * x.rings.length

/-- Lines of the store in use. -/
def State.linesUsed (s : State) : Nat := sumN (s.slt.slates.map fun e => e.2.lines)

/-- A slate's handle (R318). -/
def State.handleOf (s : State) (k : Nat) : Nat := k + 8 * ((s.slate k).gen % 8192)

/-- Takes that are armed: their instants are fixed or, on a secondary, to come (R325, R330). -/
def TakeJob.armed (j : TakeJob) : Bool := decide (j.phase ∈ [1, 3, 4, 7, 8])

/-- Show the slates (R334). -/
def State.showSlates (s : State) : State :=
  let s := foldTo 8 s fun s k =>
    let x := s.slate k
    (((s.wr SLT_SLATE_state k x.state).wr SLT_SLATE_thm k (b2n x.thm)).wr SLT_SLATE_gen k x.gen).wr SLT_SLATE_lines k
      (min 65535 x.lines)
  let s := s.wr SLT_STAT_open 0 ((List.range 8).filter fun k => decide ((s.slate k).state ≠ 0)).length
  let s := s.wr SLT_STAT_armed 0 (s.slt.jobs.filter TakeJob.armed).length
  let s := s.wr SLT_STAT_pair 0 (b2n (s.slt.jobs.any fun j => j.pair && decide (2 ≤ j.phase)))
  s.wr SLT_STAT_lines 0 s.linesUsed

/-- Change a slate; a primary mirrors its state. -/
def State.setSlate (s : State) (k : Nat) (x : Slate) : State :=
  ((s.setSlateRaw k x).mirror 0x09 k (slateStateBytes x)).showSlates

/-- A slate becomes FREE; its lines and any staged thermal copy are released (R322, R208). -/
def State.freeSlate (s : State) (k : Nat) : State :=
  let x := s.slate k
  let s := if x.thm then { s with thm := { s.thm with staged := none } } else s
  s.setSlate k { gen := x.gen }

/-- The slate a handle names, where it does (R318). -/
def State.slateOf (s : State) (h : Nat) : Option Nat :=
  let x := s.slate (h % 8)
  if x.state ≠ 0 ∧ x.gen % 8192 = h / 8 then some (h % 8) else none

/-! ### SLATE_OPEN -/

/-- SLATE_OPEN (R318). -/
def slateOpen (d : Desc) (s : State) : State :=
  match (List.range 8).find? fun k => decide ((s.slate k).state = 0) with
  | none => s.complete d 0x0101 []
  | some k =>
    let s := s.setSlate k { state := 1, gen := ((s.slate k).gen + 1) % 8192 }
    s.complete d 0 [(8, 2, s.handleOf k)]

/-! ### SLATE_WRITE (R303, R319, R320) -/

/-- The die select of an index, where the configuration permits it (R320). -/
def State.dieSel (s : State) (idx : Nat) : Option Nat :=
  let v := bits idx 20 2
  if 2 ^ 22 ≤ idx ∨ v = 3 ∨ (¬ s.isD ∧ v ≠ 0) then none else some v

/-- Units of bf16 words in a row's bytes. -/
def rowWords (n : Nat) (bs : List Byte) : List Nat := (List.range n).map fun k => fieldAt bs (2 * k) 2

/-- The unit of length and the number of indices of a table. -/
def tableShape (table : Nat) : Option (Nat × Nat) :=
  match table with
  | 1 => some (4, 2 ^ 20)
  | 2 => some (64, 4096)
  | 3 => some (1024, 512)
  | 4 => some (512, 512)
  | 5 => some (8, 1)
  | 6 => some (64, 512)
  | _ => none

/-- The table, index and length of a write fit (R303): the die select, the first index and the number of units. -/
def State.tableOk (s : State) (table idx len : Nat) : Option (Nat × Nat × Nat) :=
  match tableShape table with
  | none => none
  | some (unit, size) =>
    let sel := if table ≤ 4 then s.dieSel idx else some 0
    match sel with
    | none => none
    | some v =>
      let i := if table ≤ 4 then idx % 2 ^ 20 else idx
      let n := len / unit
      if len % unit ≠ 0 ∨ len = 0 then none
      else if table = 1 then
        if i % 4 = 0 ∧ i + len ≤ size ∧ (List.range n).all (fun k => wordHas (i + 4 * k) .rwt) then some (v, i, n) else none
      else if i + n ≤ size then some (v, i, n) else none

/-- The lines n units add to a slate that has some of them already. -/
def Slate.newLines (x : Slate) (table v i n : Nat) : Nat :=
  let fresh (m : SMap Nat) (key : Nat → Nat) : Nat := ((List.range n).filter fun k => (mfind m (key k)).isNone).length
  match table with
  | 1 => fresh x.regs fun k => (i + 4 * k) * 4 + v
  | 2 => 9 * fresh x.ctxs fun k => (i + k) * 4 + v
  | 6 => 9 * fresh x.rings fun k => i + k
  | _ => 0

/-- One unit staged. -/
def Slate.stage (x : Slate) (table v i : Nat) (bs : List Byte) : Slate :=
  match table with
  | 1 => { x with regs := mput x.regs (i * 4 + v) (leNat bs) }
  | 2 => { x with ctxs := mput x.ctxs (i * 4 + v) (leNat bs) }
  | 3 => { x with rowsA := mput x.rowsA (i * 4 + v) (rowWords 512 bs), thm := true }
  | 4 => { x with rowsB := mput x.rowsB (i * 4 + v) (rowWords 256 bs), thm := true }
  | 5 => { x with hdr := some (leNat bs), thm := true }
  | 6 => { x with rings := mput x.rings i (leNat bs) }
  | _ => x

/-- Stage the units of a write. -/
def Slate.stageAll (x : Slate) (table v i unit n : Nat) (data : List Byte) : Slate :=
  foldTo n x fun x k => x.stage table v (if table = 1 then i + 4 * k else i + k) ((data.drop (unit * k)).take unit)

/-- The staged thermal copy: at its first thermal write a slate copies the set in force (R208), or the one taken that waits for its step
instant (R209). -/
def State.holdThm (s : State) : State :=
  if s.thm.staged.isSome then s else { s with thm := { s.thm with staged := some s.thm.latest } }

/-- Stage a write into slate k, or answer the status that refuses it. -/
def State.stageWrite (s : State) (k table idx len : Nat) (data : List Byte) : State × Nat :=
  let x := s.slate k
  match s.tableOk table idx len with
  | none => (s, 0x0105)
  | some (v, i, n) =>
    let thm := decide (3 ≤ table) && decide (table ≤ 5)
    if thm && s.slt.slates.any (fun e => decide (e.1 ≠ k) && e.2.thm) then (s, 0x0103)
    else if 65536 < s.linesUsed + x.newLines table v i n then (s, 0x0104)
    else
      let s := if thm then s.holdThm else s
      let unit := ((tableShape table).getD (4, 0)).1
      ((s.setSlateRaw k (x.stageAll table v i unit n data)).showSlates, 0)

/-- Mirror what a write staged, in messages of at most 32 units (R370). -/
def State.mirrorWrite (s : State) (k table idx unit : Nat) (data : List Byte) : State :=
  if !s.mirroring || decide (3 ≤ table ∧ table ≤ 5) then s
  else
    let per := 2048 / (unit + 16)
    foldTo ((data.length / unit + per - 1) / per) s fun s c =>
      let part := (data.drop (c * per * unit)).take (per * unit)
      let step := if table = 1 then 4 else 1
      s.mirror 0x09 k (leBytes 1 1 ++ leBytes 1 table ++ leBytes 4 (idx + step * c * per) ++ part)

/-- SLATE_WRITE; where it is not INLINE the data is read from its host address, and data is what the fabric returns. -/
def slateWrite (data : List Byte) (d : Desc) (s : State) : State :=
  let w := d.w
  let len := dB w 16 4
  let src := if dInline w then leBytes 32 (dB w 32 32) else data
  let bs := (src ++ List.replicate len 0).take len
  match s.slateOf (dB w 8 2) with
  | none => s.complete d 0x0100 []
  | some k =>
    if (s.slate k).state ≠ 1 then s.complete d 0x0102 []
    else
      let fits := (s.tableOk (dB w 10 2) (dB w 12 4) len).isSome
      let s := if !dInline w && fits then s.send (.fabricRead (dB w 24 8) len) else s
      let r := s.stageWrite k (dB w 10 2) (dB w 12 4) len bs
      let s := if r.2 = 0 then
          r.1.mirrorWrite k (dB w 10 2) (dB w 12 4) ((tableShape (dB w 10 2)).getD (4, 0)).1 bs
        else s
      s.complete d r.2 []

/-! ### ABANDON (R322) -/

/-- The take that an ABANDON of an ARMED slate withdraws: the latest one out of its shadow copy, more than 10 µs away, and not a pair
take that has been committed. The instant of an immediate pair take is not fixed before its COMMIT: it is not withdrawn. -/
def State.mayWithdraw (s : State) (k : Nat) : Option TakeJob :=
  match (s.slt.jobs.filter fun j => decide (j.phase ≠ 0)).getLast? with
  | some j =>
    let t := if j.phase = 2 then (if j.body = 0 then none else some j.body) else j.t
    let far := match t with | some t => decide (s.ts + 10 * usT < t) | none => false
    if j.slate = k ∧ (j.phase = 1 ∨ j.phase = 2) ∧ far = true then some j else none
  | none => none

/-- ABANDON. A take withdrawn completes with ST_TAKE_FAILED (log entry 31). -/
def abandon (d : Desc) (s : State) : State :=
  match s.slateOf (dB d.w 8 2) with
  | none => s.complete d 0x0100 []
  | some k =>
    let h := s.handleOf k
    if (s.slate k).state = 1 then ((s.freeSlate k).emit 6 6 [h, 0]).complete d 0 []
    else match (if (s.slate k).state = 2 then s.mayWithdraw k else none) with
      | some j =>
        let s := s.setSlt { s.slt with jobs := s.slt.jobs.filter fun x => decide (x ≠ j) }
        let s := if j.phase = 2 then s.bridgeSend 0x0C (leBytes 2 h) else s
        let s := (s.freeSlate k).emit 6 6 [h, 0]
        let s := match j.desc with | some e => (s.bump SLT_FAIL_failed).complete e 0x0107 [] | none => s
        s.complete d 0 []
      | none => s.complete d 0x0102 []

/-- FP0 restarts: OPEN slates are abandoned (R332). -/
def State.abandonOpen (s : State) : State :=
  foldTo 8 s fun s k =>
    if (s.slate k).state = 1 then let h := s.handleOf k; (s.freeSlate k).emit 6 6 [h, 1] else s

/-! ### The meanings -/


def execSlateOpen (s : State) : Ans := hubOn (fun s => (s.runOpcode 0x10 slateOpen)) s
def execSlateWrite (data : List Byte) (s : State) : Ans := hubOn (fun s => (s.runOpcode 0x11 (slateWrite data))) s
def execAbandon (s : State) : Ans := hubOn (fun s => (s.runOpcode 0x14 abandon)) s

end Sys2Proof.Machine
end

