-- ==== Sys2Proof/Machine/Firmware.lean ====
section
/-!
DEFINITION. Machine/Firmware.lean: firmware images, restarts and watchdogs (R433 to R444), and the model loads of FP0 (R108 to R111).
-/
namespace Sys2Proof.Machine

def State.setFw (s : State) (x : Fw) : State := { s with fw := x }

/-- Put a processor in a state (R446). -/
def State.setFwState (s : State) (n v : Nat) : State :=
  let w := s.rd FW_STAT_state
  s.wr FW_STAT_state 0 (w - bits w (2 * n) 2 * 2 ^ (2 * n) + v * 2 ^ (2 * n))

def State.setMask (s : State) (f : Fld) (n : Nat) (b : Bool) : State := s.wr f 0 (setBit (s.rd f) n b)

/-! ### Images (R434, R436) -/

def imgHdrOk (n : Nat) (img : List Byte) : Bool :=
  let u (o k : Nat) : Nat := fieldAt img o k
  let len := u 12 4
  decide (u 0 4 = 0x474D4946) && decide (u 4 1 = 0x10) && decide (u 5 1 = n) && decide (u 6 2 = 0)
    && decide (len % 64 = 0) && decide (4096 ≤ len ∧ len ≤ 524288) && decide (u 16 4 < len)
    && (decide (n = 0) || decide (u 20 4 = 0 ∧ u 24 4 = 0)) && ((img.drop 28).take 36).all (· = 0)

/-- The fused digest of a processor, in output order. -/
def State.fusedDigest (s : State) (n : Nat) : List Byte := (List.range 12).flatMap fun k => leBytes 4 (s.rd FW_FUSE_d (12 * n + k))

/-- The check that an image fails: 0 digest, 1 header, 2 read; none where it passes. -/
def State.imgCheck (s : State) (n : Nat) (img : List Byte) (readOk : Bool) : Option Nat :=
  if !readOk then some 2
  else if !imgHdrOk n img then some 1
  else if sha384 (img.take (fieldAt img 12 4)) ≠ s.fusedDigest n then some 0
  else none

/-! ### Restart (R439, R440, R443) -/

/-- The order in which processors load (R444). -/
def loadOrder (n : Nat) : Nat := if n = 3 then 0 else n + 1

/-- Put a processor in the queue of loads: the one being read goes on. -/
def insLoad (n : Nat) : List Nat → List Nat
  | [] => [n]
  | m :: t => if loadOrder n < loadOrder m then n :: m :: t else m :: insLoad n t

def queueLoad (q : List Nat) (n : Nat) : List Nat :=
  match q with
  | [] => [n]
  | h :: t => h :: insLoad n t

/-- What FP2 executes and has not completed: mode-1 releases that wait for their rings, and zeroes that wait for their boundary. -/
def State.fp2Waits (s : State) : List Desc := (s.hif.rings.flatMap fun e => e.2.resets) ++ s.cntZero.filterMap (·.desc)

/-- None of it waits any longer. -/
def State.dropWaits (s : State) : State :=
  { s with hif := { s.hif with rings := s.hif.rings.map fun e => (e.1, { e.2 with resets := [] }) }, cntZero := [] }

/-- The descriptors a processor was executing are lost to it: they complete when it returns (R309). -/
def State.loseDescs (s : State) (n : Nat) : State :=
  let mine := (s.hif.units.filter fun d => decide (opUnit (dOp d.w) = n)) ++ (if n = 2 then s.fp2Waits else [])
  let s := { s with hif := { s.hif with units := s.hif.units.filter fun d => !decide (opUnit (dOp d.w) = n) } }
  let s := if n = 2 then s.dropWaits else s
  s.setFw { s.fw with lost := s.fw.lost ++ mine }

/-- A lost descriptor completes (R309); EV_HIF_QREL is written for a release too (R316). -/
def State.completeLost (s : State) (d : Desc) : State :=
  (if dOp d.w = 0x60 then s.emit 5 4 [dB d.w 8 2, dB d.w 10 1] else s).complete d 0x000A []

/-- The FCST_LOAD of a processor that restarts: its slot becomes EMPTY at once, and its descriptor completes at the return (R110). -/
def State.loadLost (s : State) : State :=
  match s.fcs.load with
  | none => s
  | some (slot, d) =>
    let s := { s with fcs := { s.fcs with load := none, models := mdel s.fcs.models slot } }
    let s := (s.wr FCS_SLOT_state slot 0).emit 12 1 [slot, 0, 0x0202, s.rd GEN_CFG_die]
    s.setFw { s.fw with lost := s.fw.lost ++ [d] }

/-- What a processor takes with it as it stops: its descriptors, FP0's load and the wait-for graph that it was assembling (R441), FP3's
writes. -/
def State.fwAbsent (s : State) (n : Nat) : State :=
  let s := (s.loseDescs n).dropAccs (8 + n)
  if n = 3 then s.nvmFwRestart
  else if n = 0 then
    let s := s.loadLost
    if s.flag CNT_WFG_busy then (s.wr CNT_WFG_busy 0 0).wr CNT_WFG_valid 0 0 else s
  else s

/-- Step 1 and 2 of R440: reset, crossings reset, bank cleared, load queued. -/
def State.fwStart (s : State) (n cause : Nat) (recent : List Nat) : State :=
  let s := s.setFw { s.fw with times := mput s.fw.times n (recent ++ [s.ts]) }
  let s := ((s.setFwState n 1).bump FW_RCNT_count n).wr FW_RCNT_cause n cause
  let s := s.emit 4 1 [n, cause, recent.length + 1]
  let s := s.emit 1 3 [3, 2]
  let s := (s.fwAbsent n).clearBank (14 + n)
  let s := s.setMask MEM_STAT_clearing (14 + n) true
  if s.fw.loads.isEmpty then s.setFw { s.fw with loads := [n], copyB := false }
  else s.setFw { s.fw with loads := queueLoad s.fw.loads n }

/-- A processor's watchdog limit, ms. -/
def State.wdLimit (s : State) (n : Nat) : Nat :=
  s.rd (match n with | 0 => FW_WDOG_wd0 | 1 => FW_WDOG_wd1 | 2 => FW_WDOG_wd2 | _ => FW_WDOG_wd3)

/-- A running processor has not struck its watchdog in its limit (R442). -/
def State.wdDue (s : State) (n : Nat) : Bool := decide (mget s.fw.struck n 0 + s.wdLimit n * msT ≤ s.ts)

/-- The cause recorded: a restart take in the hub cycle of a watchdog expiry is one restart with cause 1 (R444). -/
def State.fwCause (s : State) (n cause : Nat) : Nat := if s.fwState n = 2 ∧ cause = 4 ∧ s.wdDue n then 1 else cause

/-- A cause to restart processor n: ignored while it is LOADING; a fifth restart within a second halts it; a take revives a HALTED
one. -/
def State.fwRestart (s : State) (n cause : Nat) : State :=
  let recent := (mget s.fw.times n []).filter fun t => decide (s.ts < t + secT)
  let cause := s.fwCause n cause
  if s.fwState n = 2 then
    if 4 ≤ recent.length then
      (((s.setFwState n 3).wr FW_RCNT_cause n cause).emit 4 4 [n, cause]).fwAbsent n
    else s.fwStart n cause recent
  else if s.fwState n = 3 ∧ cause = 4 then s.fwStart n cause recent
  else s

/-- WATCHDOG_STRIKE (R442). -/
def watchdogStrike (n : Fin 4) (s : State) : State :=
  if s.fwRunning n then s.setFw { s.fw with struck := mput s.fw.struck n s.ts } else s

/-- WATCHDOG_EXPIRE (R442). -/
def watchdogExpire (n : Fin 4) (s : State) : State :=
  onlyIf (s.fwRunning n && s.wdDue n) (fun s => s.fwRestart n 1) s

/-- FW_EXCEPTION (R439): an exception, or a double-bit error in its own bank. -/
def fwException (n : Fin 4) (ecc : Bool) (s : State) : State := s.fwRestart n (if ecc then 3 else 2)

/-! ### Loads (R436, R437) -/

/-- What a processor's return brings (R441, R286, R332). -/
def State.fwReturn (s : State) (n : Nat) : State :=
  let s := if n = 0 then s.abandonOpen else s
  let mine := s.fw.lost.filter fun d => decide (opUnit (dOp d.w) = n)
  let s := s.setFw { s.fw with lost := s.fw.lost.filter fun d => !decide (opUnit (dOp d.w) = n) }
  let s := mine.foldl State.completeLost s
  if n = 1 ∧ s.acc.gap ∧ ¬ (s.isD ∧ s.pState = 2) then reconciliation [] 0 0 0 [] s
  else if n = 3 then s.nvmFwReturn
  else s

/-- The next load begins, or the queue is empty. -/
def State.nextLoad (s : State) : State := s.setFw { s.fw with loads := s.fw.loads.drop 1, copyB := false }

/-- An image has passed: the processor starts. -/
def State.imgPass (s : State) (n : Nat) (img : List Byte) : State :=
  let copyB := s.fw.copyB
  let len := fieldAt img 12 4
  let s := (s.writeBank (14 + n) 0 (img.take len)).setMask FW_STAT_copy n copyB
  let s := ((s.wr FW_VER_version n (fieldAt img 8 4)).wr FW_LEN_length n len).setFwState n 2
  let s := s.setFw { s.fw with struck := mput s.fw.struck n s.ts }
  let s := if copyB then (s.emit 4 2 [n, s.fw.failA]).imageRewrite n else s
  (s.fwReturn n).nextLoad

/-- Stage FAILED with a cause (R406, R410). -/
def State.stageFail (s : State) (cause what : Nat) : State :=
  let s := ((s.wr RST_SEQ_stage 0 8).wr RST_SEQ_cause 0 cause).emit 2 3 [cause, what]
  { s with rst := { s.rst with failT := s.ts } }

/-- Both copies have failed: HALTED; at start-up the stage becomes FAILED (R406, R437). -/
def State.imgFail (s : State) (n check : Nat) : State :=
  let s := (s.setFwState n 3).emit 4 3 [n, check]
  if s.rd RST_SEQ_stage = 1 then ((s.wr RST_SEQ_image 0 n).stageFail 1 n).setFw { s.fw with loads := [], copyB := false }
  else s.nextLoad

/-- The digest of a load is shown (R446). -/
def State.showDigest (s : State) (n : Nat) (img : List Byte) : State :=
  let dg := sha384 (img.take (fieldAt img 12 4))
  foldTo 12 s fun s k => s.wr FW_DIGEST_d (12 * n + k) (fieldAt dg (4 * k) 4)

/-- FW_IMAGE_LOADED: the read of the copy in turn has ended; n is its processor. A read waits for the bank's clear and for a flash
operation in progress. -/
def fwImageLoaded (n : Fin 4) (readOk : Bool) (s : State) : State :=
  let busy := !s.nvm.ops.isEmpty && !s.nvm.done && !s.fwRunning 3
  if s.fw.loads.head? ≠ some n.val || s.clearing (14 + n.val) || busy || !s.running then s
  else
    let img := s.readFlash (imageAddr s.fw.copyB n) 0x80000
    let readOk := readOk && !s.nvm.portHigh
    let s := if readOk && imgHdrOk n img then s.showDigest n img else s
    match s.imgCheck n img readOk with
    | none =>
      let s := s.imgPass n img
      if s.rd RST_SEQ_stage = 1 ∧ (List.range 4).all (fun m => s.fwRunning m) then s.wr RST_SEQ_stage 0 2 else s
    | some c => if s.fw.copyB then s.imgFail n c else s.setFw { s.fw with copyB := true, failA := c }

/-! ### Model loads (R108, R110, R111) -/

/-- A slate that is not FREE, or a take handed on, names a slot in a staged FCS_TMAP entry. -/
def State.tmapStaged (s : State) (slot : Nat) : Bool :=
  let names (regs : SMap Nat) (scale : Nat) : Bool := regs.any fun e =>
    let o := e.1 / scale
    (FCS_TMAP.elems o).any fun i => decide (bits (e.2 / 2 ^ (FCS_TMAP.keyOf i - 8 * o)) 0 FCS_TMAP.width = slot)
  (s.slt.slates.any fun e => decide (e.2.state ≠ 0) && names e.2.regs 4) || s.slt.jobs.any fun j => names j.sh.regs 1

/-- A slot is busy (R110). -/
def State.slotBusy (s : State) (slot : Nat) : Bool :=
  ((List.range 512).any fun t => decide (s.rd FCS_TMAP t = slot)) || s.tmapStaged slot
    || (s.fcs.queue.any fun j => decide (j.slot = slot)) || decide (s.rd FCS_SLOT_state slot = 1)

/-- A load completes at once with a status of R110, and its event. -/
def State.loadRefused (s : State) (d : Desc) (st : Nat) : State :=
  (s.emit 12 1 [dB d.w 8 1, 0, st, s.rd GEN_CFG_die]).complete d st []

/-- FCST_LOAD (R110): steps 1 to 3. -/
def fcstLoad (d : Desc) (s : State) : State :=
  let slot := dB d.w 8 1
  if 47 < slot then s.loadRefused d 0x0200
  else if s.slotBusy slot then s.loadRefused d 0x0201
  else
    let s := (s.wr FCS_SLOT_state slot 1).send (.fabricRead (dB d.w 16 8) (dB d.w 12 4))
    { s with fcs := { s.fcs with load := some (slot, d) } }

/-- The status of the first failing check of R111 among the two instances', ST_OK where both pass (R113). -/
def jointStatus (own peer : Nat) : Nat := if own = 0 then peer else if peer = 0 then own else min own peer

/-- The slot as a load's checks leave it, with its event (R110, R113); the answer's second part is the status. -/
def State.endLoad (s : State) (slot len : Nat) (ok : Bool) (img : List Byte) (peer : Nat) : State × Nat :=
  let img := (img ++ List.replicate 12992 0).take 12992
  let c := if ok then fitCheck img len else 3
  let own := if c = 0 then 0 else 0x0200 + c - 1
  let st := if s.isD ∧ s.pState = 2 then jointStatus own peer else own
  let ident := if ok then imgU img 24 4 else 0
  let s := s.setSlot slot img (decide (st = 0))
  (s.emit 12 1 [slot, ident, st, s.rd GEN_CFG_die], st)

/-- FCST_LOAD_COMPLETE (R110, R111, R113): the read of the image has ended; ok says that it met no error. In PAIRED, peer is the status
that the other instance's checks give, 0 for a pass; a secondary, which holds no descriptor of the load, is told the slot too, and the
image it has read stands for the length (log entry 169). -/
def fcstLoadComplete (ok : Bool) (img : List Byte) (peer : Fin 8) (slot : Fin 48) (s : State) : State :=
  let peer := if peer.val = 0 then 0 else 0x0201 + peer.val
  if !s.fwRunning 0 || !s.clocked 12 then s
  else
    match s.fcs.load with
    | none => if s.isD ∧ s.pState = 2 ∧ s.pRole = 2 then (s.endLoad slot img.length ok img peer).1 else s
    | some (slot, d) =>
      let s := { s with fcs := { s.fcs with load := none } }
      let s := if ok then s else s.fabricEvent d.ring 1 d.idx
      let (s, st) := s.endLoad slot (dB d.w 12 4) ok img peer
      s.complete d st (if st = 0 then [(8, 1, s.rd FCS_SLOT_state slot), (12, 4, imgU img 24 4)] else [])

/-- SLOT0_LOAD (R108, R417): FP0 loads slot 0 from its image, and after a wake of FCS the thermal set in force. -/
def slot0Load (s : State) : State :=
  if !s.fwRunning 0 || !s.clocked 12 || decide (s.rd FCS_SLOT_state 0 ≠ 0) || decide (s.rd MEM_STAT_clearing % 256 ≠ 0) then s
  else
    let img := s.readBank 14 (leNat (s.readBank 14 20 4)) 12992
    let s := s.setSlot 0 img (decide (fitCheck img 12992 = 0))
    if s.rst.config then (s.wr THM_SET_ID_ident 0 s.thm.set.ident).wr THM_SET_PER_period 0 s.thm.set.period else s

/-! ### The meanings -/

def execWatchdogStrike (n : Fin 4) (s : State) : Ans := hubOn (watchdogStrike n) s
def execWatchdogExpire (n : Fin 4) (s : State) : Ans := hubOn (watchdogExpire n) s
def execFwException (n : Fin 4) (ecc : Bool) (s : State) : Ans := hubOn (fwException n ecc) s
def execFwImageLoaded (n : Fin 4) (readOk : Bool) (s : State) : Ans := hubOn (fwImageLoaded n readOk) s
def execFcstLoad (s : State) : Ans :=
  hubOn (fun s => (if s.fcs.load.isSome || !s.clocked 12 then s else s.runOpcode 0x31 fcstLoad)) s
def execFcstLoadComplete (ok : Bool) (img : List Byte) (peer : Fin 8) (slot : Fin 48) (s : State) : Ans :=
  hubOn (fcstLoadComplete ok img peer slot) s
def execSlot0Load (s : State) : Ans := hubOn slot0Load s

end Sys2Proof.Machine
end

