-- ==== Sys2Proof/Machine/Observe.lean ====
section
/-!
DEFINITION. Machine/Observe.lean: the trace writer and TRACE_CTL, CNT_CTL, STEP and the wait-for graph (R488 to R511).
-/
namespace Sys2Proof.Machine

def State.setTrc (s : State) (x : Trc) : State := { s with trc := x }

/-! ### The region (R489, R490) -/

/-- The capacity C of the data area. -/
def State.trcCap (s : State) : Nat := s.rd TRC_SIZE_size - 64

/-- A group of n records fits the region. -/
def State.trcFits (s : State) (n : Nat) : Bool :=
  decide (s.rd TRC_WRITTEN_written + 16 * n ≤ s.trcCap + s.trc.consumed)

/-- Put a group at written mod C; it may wrap across the end. -/
def State.trcPut (s : State) (g : List Nat) : State :=
  let bs := g.flatMap recBytes
  let w := s.rd TRC_WRITTEN_written
  let c := s.trcCap
  let o := w % c
  let a := s.rd TRC_BASE_base + 64
  let s := if o + bs.length ≤ c then s.send (.fabricWrite (a + o) bs)
    else (s.send (.fabricWrite (a + o) (bs.take (c - o)))).send (.fabricWrite a (bs.drop (c - o)))
  (s.wr TRC_WRITTEN_written 0 (w + bs.length)).setTrc { s.trc with dirty := true }

/-- A TIME group (R494). -/
def timeGroup (ts : Nat) : List Nat := [hdrRec 6 0 (ts % 2 ^ 64) ts]

/-- The LOSS group of the drops so far (R497). -/
def lossGroup (d : Drops) : List Nat :=
  [hdrRec 5 0 (min d.cmd (2 ^ 24 - 1) + 2 ^ 24 * min d.fcst 4095 + 2 ^ 36 * min d.tlm 4095 + 2 ^ 48 * min d.oth 255) d.ts]

/-- What the writer writes next: TIME where due, else LOSS after a drop, else the head of the staging queue. -/
inductive TrcNext where
  | none | time | loss | staged (g : List Nat)
deriving DecidableEq, Repr

def State.trcNext (s : State) : TrcNext :=
  if s.trc.timeDue then .time else if s.trc.drops.any then .loss
  else match s.trc.staged with
    | g :: _ => .staged g
    | [] => .none

def State.trcNextLen (s : State) : Nat :=
  match s.trcNext with
  | .none => 0
  | .staged g => g.length
  | _ => 1

/-- Write what is next. -/
def State.trcWrite (s : State) : State :=
  match s.trcNext with
  | .none => s
  | .time =>
    let s := s.trcPut (timeGroup s.ts)
    s.setTrc { s.trc with timeDue := false }
  | .loss =>
    let s := s.trcPut (lossGroup s.trc.drops)
    (s.bump TRC_STAT_loss).setTrc { s.trc with drops := { }, loss := s.trc.loss + 1, timeDue := true }
  | .staged g =>
    let s := s.trcPut g
    (s.setTrc { s.trc with staged := s.trc.staged.drop 1 }).drainLanes

/-- Drop the head of the staging queue whole. -/
def State.trcDrop (s : State) : State :=
  match s.trc.staged with
  | g :: t => ((s.setTrc { s.trc with staged := t }).dropGroup g).drainLanes
  | [] => s

/-- consumed has been reread within the last µs. -/
def State.trcFresh (s : State) : Bool :=
  match s.trc.rereadT with
  | some t => decide (s.ts < t + usT)
  | none => false

/-- TRACE_GROUP_WRITE: write the next group, or drop it whole when it does not fit after a reread of consumed. -/
def traceGroupWrite (s : State) : State :=
  if !s.tracing then s
  else if s.trcFits s.trcNextLen then s.trcWrite
  else if s.trcFresh then s.trcDrop
  else s

/-- TRACE_CONSUMED_REREAD (R490): v is what the header holds. -/
def traceConsumedReread (v : BitVec 64) (s : State) : State :=
  if !s.tracing || s.trcFits s.trcNextLen || s.trcFresh then s
  else
    let s := s.send (.fabricRead (s.rd TRC_BASE_base + 16) 8)
    let s := s.setTrc { s.trc with rereadT := some s.ts }
    let w := s.rd TRC_WRITTEN_written
    if s.trc.consumed ≤ v.toNat ∧ v.toNat ≤ w then s.setTrc { s.trc with consumed := v.toNat }
    else s.emitLim 18 5 0 msT [v.toNat, w]

/-- The header's written and loss (R490). -/
def State.trcHeader (s : State) : State :=
  let a := s.rd TRC_BASE_base
  let s := (s.send (.fabricWrite (a + 8) (leBytes 8 (s.rd TRC_WRITTEN_written)))).send (.fabricWrite (a + 24) (leBytes 4 s.trc.loss))
  s.setTrc { s.trc with dirty := false, hdrT := s.ts }

/-- TRACE_HEADER_UPDATE. -/
def traceHeaderUpdate (s : State) : State := if s.tracing && s.trc.dirty then s.trcHeader else s

/-- TRACE_TIME_GROUP (R494): where a LOSS group is due, which goes before any other (R497), the TIME group after it serves. -/
def traceTimeGroup (s : State) : State :=
  if s.tracing && decide (s.ts % 2 ^ 40 = 0) && !s.trc.drops.any then s.setTrc { s.trc with timeDue := true } else s

/-- A SAMPLE group of sixteen counters (R498) for the instant t; mid is the header's middle. -/
def State.sampleGroup (s : State) (t mid : Nat) (key : Nat → Nat) : List Nat :=
  hdrRec 4 8 mid t :: (List.range 8).map fun r => mget s.cnt (key (2 * r)) 0 + 2 ^ 64 * mget s.cnt (key (2 * r + 1)) 0

/-- The latest sample instant. -/
def State.sampleAt (s : State) : Nat := s.ts / (usT * s.trc.period) * (usT * s.trc.period)

/-- A sample is due: within 1 µs of its instant, with the counts through it applied, and not yet taken. -/
def State.sampleDue (s : State) : Bool :=
  s.traceKind 3 && decide (s.trc.period ≠ 0) && decide (s.ts ≤ s.sampleAt + usT) && decide (s.sns.ticked = s.sampleAt / usT)
    && decide (s.trc.sampT ≤ s.sampleAt)

/-- TRACE_SAMPLE (R507): the groups of a sample instant are queued, once, with the counts through it. -/
def traceSample (s : State) : State :=
  if !s.sampleDue then s
  else
    let at' := s.sampleAt
    let s := s.setTrc { s.trc with sampT := at' + 1 }
    let s := s.stageGroup (s.sampleGroup at' 0 cntDie)
    let t := s.rd TRC_SAMP_tenant
    if s.flag TRC_SAMP_valid then s.stageGroup (s.sampleGroup at' (t + 2 ^ 9) (cntTenant t)) else s

/-- EV_TRC_LOSS of the millisecond that ends (R497). -/
def State.trcBoundary (s : State) : State :=
  let t := s.trc
  if t.lossCmdMs + t.lossOthMs = 0 then s
  else (s.setTrc { t with lossCmdMs := 0, lossOthMs := 0 }).emit 18 3 [t.lossCmdMs, t.lossOthMs]

/-! ### TRACE_CTL (R488, R491) -/

def isTraceCtl (a : Nat) (d : Desc) : Bool := decide (dOp d.w = 0x40) && decide (dB d.w 8 1 = a)

/-- The region named meets R488. -/
def State.regionOk (s : State) (base size : Nat) : Bool :=
  s.clocked 18 && decide (base % 4096 = 0 ∧ size % 4096 = 0 ∧ 65536 ≤ size ∧ size ≤ 2 ^ 32)
    && decide (s.rd TRC_WIN_BASE_base ≤ base ∧ base + size ≤ s.rd TRC_WIN_BASE_base + s.rd TRC_WIN_SIZE_size)

/-- TRACE_START. -/
def traceStart (d : Desc) (s : State) : State :=
  let base := dB d.w 16 8
  let size := dB d.w 24 8
  let kinds := dB d.w 9 1
  let same := decide (base = s.rd TRC_BASE_base ∧ size = s.rd TRC_SIZE_size)
  if !s.regionOk base size || (s.tracing && !same) then s.complete d 0x0400 []
  else
    let s1 := (s.wr TRC_STAT_kinds 0 kinds).setTrc { s.trc with mask := dB d.w 32 32, period := dB d.w 10 2 }
    if s.tracing then s1.complete d 0 []
    else
      let s := ((s1.wr TRC_STAT_state 0 1).wr TRC_BASE_base 0 base).wr TRC_SIZE_size 0 size
      let s := s.wr TRC_WRITTEN_written 0 0
      let s := s.setTrc { mask := s.trc.mask, period := s.trc.period, start := s.ts, timeDue := true, sampT := s.ts,
                          lossCmdMs := s.trc.lossCmdMs, lossOthMs := s.trc.lossOthMs }
      let hdr := leBytes 4 0x45435254 ++ leBytes 1 0x10 ++ leBytes 3 0 ++ leBytes 24 0 ++ leBytes 8 s.ts ++ leBytes 24 0
      let s := (s.send (.fabricWrite base hdr)).emit 18 1 [kinds, size / 4096]
      s.complete d 0 []

/-- Write all that is staged, with fuel; what does not fit is dropped. -/
def trcFlush : Nat → State → State
  | 0, s => s
  | n + 1, s =>
    if s.trcNext = .none then s else if s.trcFits s.trcNextLen then trcFlush n s.trcWrite
    else if s.trc.staged.isEmpty then s else trcFlush n s.trcDrop

/-- Fuel for a flush: every staged group, what the lanes hold, and LOSS and TIME groups. -/
def State.flushFuel (s : State) : Nat := 4 * (s.trc.staged.length + 1024) + 4

/-- The result of a stop or a flush (R302). -/
def State.traceResult (s : State) : List (Nat × Nat × Nat) := [(8, 8, s.rd TRC_WRITTEN_written), (16, 4, s.trc.loss)]

/-- TRACE_STOP. -/
def traceStop (d : Desc) (s : State) : State :=
  if !s.tracing then s.complete d 0 []
  else
    let s := (trcFlush s.flushFuel s).trcHeader
    let s := s.send (.fabricWrite (s.rd TRC_BASE_base + 40) (leBytes 8 s.ts))
    let s := (s.wr TRC_STAT_state 0 0).emit 18 2 [s.rd TRC_WRITTEN_written, s.trc.loss]
    let s := s.complete d 0 s.traceResult
    s.setTrc { s.trc with staged := [], cmdQ := [], drops := { }, timeDue := false }

/-- TRACE_FLUSH. -/
def traceFlush (d : Desc) (s : State) : State :=
  if !s.tracing then s.complete d 0 []
  else
    let s := (trcFlush s.flushFuel s).trcHeader
    s.complete d 0 s.traceResult

/-- A fabric write of the trace fails: capture ends (R491). -/
def State.trcFail (s : State) : State :=
  if !s.tracing then s
  else
    let s := (s.wr TRC_STAT_state 0 2).emit 18 4 [s.rd TRC_WRITTEN_written % s.trcCap]
    s.setTrc { s.trc with staged := [], cmdQ := [], drops := { }, timeDue := false, dirty := false }

/-! ### CNT_CTL (R505, R506) -/

def isCntCtl (a : Nat) (d : Desc) : Bool := decide (dOp d.w = 0x41) && decide (dB d.w 8 1 = a)

/-- The tenant a set names: the ring's own, none for the global set, or the one in the body. -/
def cntTenantOf (d : Desc) : Nat := if dB d.w 9 1 = 0 then d.ring else if dB d.w 9 1 = 1 then 0 else dB d.w 10 2

/-- Queues a tenant owns, ascending. -/
def State.queuesOf (s : State) (t : Nat) : List Nat :=
  (List.range 4096).filter fun q => s.flag ACT_QOWN_valid q && decide (s.rd ACT_QOWN_tenant q = t)

/-- The body of a dump. -/
def State.cntBody (s : State) (set t : Nat) : List Byte :=
  if set = 1 then (List.range 1698).flatMap fun k => leBytes 8 (mget s.cnt k 0)
  else ((List.range 16).flatMap fun k => leBytes 8 (mget s.cnt (cntTenant t k) 0))
    ++ (s.queuesOf t).flatMap fun q =>
      leBytes 2 q ++ leBytes 2 0 ++ leBytes 4 (mget s.cnt (cntQueue q 0) 0) ++ leBytes 4 (mget s.cnt (cntQueue q 1) 0)
        ++ leBytes 4 (mget s.cnt (cntQueue q 2) 0)

/-- CNT_DUMP. Set 0 of the steward ring, which has no tenant, is not permitted (log entry 32). -/
def cntDump (d : Desc) (s : State) : State :=
  let set := dB d.w 9 1
  let t := cntTenantOf d
  if set = 0 ∧ d.ring = stewardRing then s.complete d 0x0004 []
  else
    let b := s.sns.ticked * usT
    let body := s.cntBody set t
    let len := 32 + body.length
    let qs := if set = 1 then 0 else (s.queuesOf t).length
    let hdr := leBytes 4 0x544E4354 ++ leBytes 1 0x10 ++ leBytes 1 set ++ leBytes 2 t ++ leBytes 8 b ++ leBytes 4 len
      ++ leBytes 2 (if set = 1 then 1698 else 16) ++ leBytes 2 qs ++ leBytes 8 0
    if dB d.w 12 4 < len then s.complete d 0x0007 []
    else (s.send (.fabricWrite (dB d.w 16 8) (hdr ++ body))).complete d 0 [(8, 4, len), (16, 8, b)]

/-- CNT_ZERO: it acts at the next tick boundary. -/
def cntZero (d : Desc) (s : State) : State :=
  let set := dB d.w 9 1
  if set = 0 ∧ d.ring = stewardRing then s.complete d 0x0004 []
  else { s with cntZero := s.cntZero ++ [{ since := s.ts, set := set, tenant := cntTenantOf d, desc := some d }] }

/-- Complete the zeroes that acted at this boundary. -/
def State.cntZeroDone (s : State) (zs : List CntZero) : State :=
  zs.foldl (fun s z =>
    let s := s.emit 19 1 [z.set, z.tenant]
    match z.desc with
    | some d => s.complete d 0 [(8, 4, 0), (16, 8, s.ts)]
    | none => s) s

/-! ### STEP (R508, R90) -/

def isStep (a : Nat) (d : Desc) : Bool := decide (dOp d.w = 0x42) && decide (dB d.w 10 1 = a)

/-- The completion of a STEP: CHK_STEP of the choker. -/
def State.stepDone (s : State) (d : Desc) (c : Nat) : State :=
  s.complete d 0 [(8, 4, s.rd CHK_STEP_mode c + 2 * s.rd CHK_STEP_held c + 256 * s.rd CHK_STEP_credits c + 65536 * s.rd CHK_STEP_seq c)]

/-- STEP_ENTER. -/
def stepEnter (d : Desc) (s : State) : State :=
  let c := dB d.w 8 2
  if s.stepping c then s.complete d 0x0401 []
  else (((s.wr CHK_STEP_mode c 1).wr CHK_STEP_credits c (dB d.w 11 1)).showHeld c).stepDone d c

/-- STEP_ADD. -/
def stepAdd (d : Desc) (s : State) : State :=
  let c := dB d.w 8 2
  if !s.stepping c then s.complete d 0x0401 []
  else (s.wr CHK_STEP_credits c (min 255 (s.rd CHK_STEP_credits c + dB d.w 11 1))).stepDone d c

/-- The port's requests are held no longer. -/
def Lane.unheld (l : Lane) : Lane :=
  let mark (r : PortReq) : PortReq := { r with presented := true }
  { l with req := l.req.map mark, early := l.early.map mark }

/-- STEP_LEAVE: a held request is presented at once. -/
def stepLeave (d : Desc) (s : State) : State :=
  let c := dB d.w 8 2
  let s := ((s.wr CHK_STEP_mode c 0).wr CHK_STEP_credits c 0).pickReq c
  let l := s.lane c
  let s := s.setLane c l.unheld
  let s := match l.req with
    | some r => if r.presented then s else s.present c { r with presented := true }
    | none => s
  s.stepDone d c

/-! ### The wait-for graph (R509 to R511) -/

def nodeOf (kind idx : Nat) : Nat := kind * 4096 + idx

def State.stallT (s : State) : Nat := s.rd CNT_WFG_CFG_stall * usT

/-- An age in µs, saturating at 16 bits. -/
def State.ageOf (s : State) (t : Nat) : Nat := min 65535 (roundNEN (s.ts - t) usT)

/-- Edges of a tally object. -/
def State.objEdges (s : State) (o : Nat) (x : TObj) : List Edge :=
  if x.state = 1 then
    if x.admitted then [{ src := nodeOf 0 x.engine, dst := nodeOf 1 x.pool, obj := some o, age := s.ageOf x.tAdm }]
    else [{ src := nodeOf 0 x.engine, dst := nodeOf 5 x.tenant, obj := some o, age := s.ageOf x.tAlloc }]
  else if x.state = 2 ∧ s.lastProgress x + s.stallT ≤ s.ts then
    [{ src := nodeOf 1 x.pool, dst := nodeOf 0 x.engine, obj := some o, age := s.ageOf (s.lastProgress x) }]
  else []

/-- Edges of an engine lane: its port, and its begun command where it is stalled. -/
def State.laneEdges (s : State) (c : Nat) : List Edge :=
  let l := s.lane c
  let port := match l.req with
    | some r =>
      if r.presented then
        match findCmd l r.seq with
        | some m => [{ src := nodeOf 0 c, dst := nodeOf 6 (bits m.word 24 9), obj := none, age := s.ageOf r.since : Edge }]
        | none => []
      else [{ src := nodeOf 0 c, dst := nodeOf 3 c, obj := none, age := s.ageOf r.since }]
    | none => []
  let run := (l.cmds.filter fun m => m.begun && !m.ended).flatMap fun m =>
    let tally := s.objOf c (bits m.word 16 8) false
    let prog := match tally with | some o => s.lastProgress (s.obj o) | none => l.lastProg
    let coll := match tally with | some o => (s.obj o).coll | none => false
    let peer := coll || (decide (2 ≤ c % 4) && decide (bits m.word 2 4 = 4))
    if prog + s.stallT ≤ s.ts then
      [{ src := nodeOf 0 c, dst := nodeOf (if peer then 2 else 4) c, obj := tally, age := s.ageOf prog : Edge }]
    else []
  port ++ run

/-- Every edge. -/
def State.wfgEdges (s : State) : List Edge :=
  (s.tly.objs.flatMap fun e => s.objEdges e.1 e.2) ++ (s.lanes.flatMap fun e => s.laneEdges e.1)

/-- Drop, with fuel, the edges that no other edge leads on from: what is left holds a cycle. -/
def wfgCore : Nat → List Edge → List Edge
  | 0, es => es
  | n + 1, es => wfgCore n (es.filter fun e => es.any fun f => decide (f.src = e.dst))

/-- Engine and pool nodes form a cycle. -/
def wfgCycle (es : List Edge) : Bool :=
  let k := es.filter fun e => decide (e.src / 4096 ≤ 1) && decide (e.dst / 4096 ≤ 1)
  !(wfgCore k.length k).isEmpty

/-- The two words of CNT_WFG_EDGE (R516). -/
def Edge.w0 (e : Edge) : Nat := e.src + 2 ^ 16 * e.dst
def Edge.w1 (e : Edge) : Nat := (match e.obj with | some o => o + 2 ^ 13 | none => 0) + 2 ^ 16 * e.age

/-- Show the selected edge. -/
def State.showEdge (s : State) : State :=
  match s.wfg.edges[s.rd CNT_WFG_SEL_edge]? with
  | some e => (s.wr CNT_WFG_EDGE 0 e.w0).wr CNT_WFG_EDGE 1 e.w1
  | none => (s.wr CNT_WFG_EDGE 0 0).wr CNT_WFG_EDGE 1 0

/-- A graph begins. -/
def State.wfgBegin (s : State) (auto : Bool) : State :=
  let s := { s with wfg := { edges := [], auto := auto, t := s.ts, lastAuto := if auto then some s.ts else s.wfg.lastAuto } }
  let s := ((s.wr CNT_WFG_busy 0 1).wr CNT_WFG_valid 0 0).wr CNT_WFG_edges 0 0
  ((s.wr CNT_WFG_cycle 0 0).wr CNT_WFG_trunc 0 0).wr CNT_WFG_T_ts 0 s.ts

/-- WFG_START (R509): a write of 1 to CNT_WFG.start. -/
def wfgStart (v : BitVec 32) (s : State) : State :=
  if bit v.toNat 0 && s.unitAnswers 19 && s.fwRunning 0 && !s.flag CNT_WFG_busy then s.wfgBegin false else s

/-- WFG_AUTO_TRIGGER (R509). -/
def wfgAutoTrigger (s : State) : State :=
  let a := s.rd CNT_WFG_CFG_auto
  let old := s.tly.objs.any fun e => decide (e.2.state = 1) && e.2.admitted && decide (e.2.tAdm + a * usT < s.ts)
  let due := match s.wfg.lastAuto with | some t => decide (t + 10 * msT ≤ s.ts) | none => true
  if decide (a ≠ 0) && old && due && s.fwRunning 0 && !s.flag CNT_WFG_busy then s.wfgBegin true else s

/-- WFG groups of up to thirty edges (R511). -/
def State.wfgGroups (s : State) (es : List Edge) (cycle trunc : Bool) : List (List Nat) :=
  (List.range ((es.length + 29) / 30)).map fun g =>
    let part := (es.drop (30 * g)).take 30
    let n := (part.length + 1) / 2
    let word (k : Nat) : Nat := match part[k]? with | some e => e.w0 + 2 ^ 32 * e.w1 | none => 0
    hdrRec 7 n (30 * g + 2 ^ 12 * es.length + 2 ^ 24 * b2n cycle + 2 ^ 25 * b2n trunc) s.wfg.t
      :: (List.range n).map fun r => word (2 * r) + 2 ^ 64 * word (2 * r + 1)

/-- WFG_COMPLETE (R511). -/
def wfgComplete (s : State) : State :=
  if !s.flag CNT_WFG_busy || !s.fwRunning 0 then s
  else
    let all := s.wfgEdges
    let es := all.take 2048
    let trunc := decide (2048 < all.length)
    let cycle := wfgCycle es
    let s := { s with wfg := { s.wfg with edges := es } }
    let s := ((s.wr CNT_WFG_busy 0 0).wr CNT_WFG_valid 0 1).wr CNT_WFG_edges 0 es.length
    let s := ((s.wr CNT_WFG_cycle 0 (b2n cycle)).wr CNT_WFG_trunc 0 (b2n trunc)).showEdge
    let s := if s.tracing then (s.wfgGroups es cycle trunc).foldl (fun s g => s.stageGroup g) s else s
    if s.wfg.auto || cycle then s.emit 19 2 [es.length, b2n cycle, b2n trunc, es.foldl (fun m e => max m e.age) 0] else s

/-! ### The meanings -/

def execTraceGroupWrite (s : State) : Ans := hubOn traceGroupWrite s
def execTraceConsumedReread (v : BitVec 64) (s : State) : Ans := hubOn (traceConsumedReread v) s
def execTraceHeaderUpdate (s : State) : Ans := hubOn traceHeaderUpdate s
def execTraceTimeGroup (s : State) : Ans := hubOn traceTimeGroup s
def execTraceSample (s : State) : Ans := hubOn traceSample s
def execTraceStart (s : State) : Ans := hubOn (fun s => (s.runOp (isTraceCtl 1) traceStart)) s
def execTraceStop (s : State) : Ans := hubOn (fun s => (s.runOp (isTraceCtl 0) traceStop)) s
def execTraceFlush (s : State) : Ans := hubOn (fun s => (s.runOp (isTraceCtl 2) traceFlush)) s
def execCntDump (s : State) : Ans := hubOn (fun s => (s.runOp (isCntCtl 0) cntDump)) s
def execCntZero (s : State) : Ans := hubOn (fun s => (s.runOp (isCntCtl 1) cntZero)) s
def execStepEnter (s : State) : Ans := hubOn (fun s => (s.runOp (isStep 1) stepEnter)) s
def execStepAdd (s : State) : Ans := hubOn (fun s => (s.runOp (isStep 2) stepAdd)) s
def execStepLeave (s : State) : Ans := hubOn (fun s => (s.runOp (isStep 0) stepLeave)) s
def execWfgStart (v : BitVec 32) (s : State) : Ans := hubOn (wfgStart v) s
def execWfgAutoTrigger (s : State) : Ans := hubOn wfgAutoTrigger s
def execWfgComplete (s : State) : Ans := hubOn wfgComplete s

end Sys2Proof.Machine
end

