-- ==== Sys2Proof/Machine/Fabric.lean ====
section
/-!
DEFINITION. Machine/Fabric.lean: fabric failures (R313, R491).
-/
namespace Sys2Proof.Machine

/-- A data read or write of the next descriptor that p picks fails: it completes with the status, and the failure is recorded. -/
def State.dataFails (s : State) (kind status : Nat) (p : Desc → Bool) : State :=
  s.runOp p fun d s => (s.fabricEvent d.ring kind d.idx).complete d status []

/-- A completion or notify write fails: the ring is STOPPED. -/
def State.ringStops (s : State) (r kind idx : Nat) : State :=
  if (s.ring r).st = 0 then s else (s.setRState r 4).fabricEvent r kind idx

/-- FABRIC_ERROR: kind 0 a descriptor read, 1 a data read of SLATE_WRITE, 2 a data write of CNT_DUMP or EVT_READ, 3 a completion write,
4 a notify write (idx is the entry's index), 5 a write of the trace. -/
def fabricError (kind : Fin 6) (ring : Fin 513) (idx : BitVec 32) (s : State) : State :=
  let here (d : Desc) : Bool := decide (d.ring = ring.val)
  match kind.val with
  | 0 => descriptorFetched ring false 0 s
  | 1 => s.dataFails 1 0x0008 fun d => here d && decide (dOp d.w = 0x11) && !dInline d.w
  | 2 => s.dataFails 2 0x0009 fun d => here d && (isCntCtl 0 d || decide (dOp d.w = 0x50))
  | 5 => s.trcFail
  | k => s.ringStops ring k idx.toNat

def execFabricError (kind : Fin 6) (ring : Fin 513) (idx : BitVec 32) (s : State) : Ans := hubOn (fabricError kind ring idx) s

end Sys2Proof.Machine
end

