-- ==== Sys2Proof/Machine/SalgorOps.lean ====
section
/-!
DEFINITION. Machine/SalgorOps.lean: Salgor's messages, domain time, forwarding and peer violations (R335 to R345, R351, R360).
-/
namespace Sys2Proof.Machine

def State.setMgt (s : State) (m : Mgt) : State := { s with mgt := m }

/-! ### Who this package is (R338, R356) -/

def State.mgtMe (s : State) : Nat := s.rd MGT_IDENT_member
def State.isC (s : State) (m : Nat) : Bool := decide (m = s.rd MGT_COORD_c0) || decide (m = s.rd MGT_COORD_c1)
def State.isCoord (s : State) : Bool := s.isC s.mgtMe
def State.mgtPeer (s : State) : Nat := if s.mgtMe = s.rd MGT_COORD_c0 then s.rd MGT_COORD_c1 else s.rd MGT_COORD_c0
def State.mgtRole (s : State) : Nat := s.rd MGT_STAT_role
def State.mgtActive (s : State) : Bool := decide (s.mgtRole = 1) || decide (s.mgtRole = 3)
def State.mgtEpoch (s : State) : Nat := s.rd MGT_EPOCH
def State.mgtTerm (s : State) : Nat := s.rd MGT_STAT_term

/-- The package takes part in its domain through this instance (R346, R377). -/
def State.mgtOn (s : State) : Bool := s.clocked 21 && s.flag MGT_CTL_en && s.holdsRoles

/-- FP3 runs the protocol. -/
def State.mgtFw (s : State) : Bool := s.mgtOn && s.fwRunning 3

/-- EV_MGT_ROLE at each change of role (R359). -/
def State.mgtSetRole (s : State) (r : Nat) : State :=
  let old := s.mgtRole
  if old = r then s else (s.wr MGT_STAT_role 0 r).emit 21 5 [s.mgtTerm, old, r]

/-! ### Settings of the epoch (R361) -/

def State.tCut (s : State) : Nat := bits s.mgt.tim 0 10
def State.tAckw (s : State) : Nat := bits s.mgt.tim 16 8
def State.tHbMiss (s : State) : Nat := bits s.mgt.tim 24 4
def State.tOrphan (s : State) : Nat := bits s.mgt.tim 28 4
def State.tDem (s : State) : Nat := bits s.mgt.tim2 0 8
def State.tGone (s : State) : Nat := bits s.mgt.tim2 8 8

/-- MGT_TIM and MGT_TIM2 as they stand. -/
def State.latchTim (s : State) : State :=
  s.setMgt { s.mgt with
    tim := s.rd MGT_TIM_cut + s.rd MGT_TIM_ackw * 2 ^ 16 + s.rd MGT_TIM_hb_miss * 2 ^ 24 + s.rd MGT_TIM_orphan * 2 ^ 28,
    tim2 := s.rd MGT_TIM2_dem + s.rd MGT_TIM2_gone * 2 ^ 8 }

/-! ### Domain time (R342) -/

/-- Domain time less the timestamp at an instant, 1/256 unit. -/
def domOfs (ofs rate : Int) (tc now : Nat) : Int := ofs + 256 * (rate * ((now : Int) - tc) / 2 ^ 40)

/-- Domain time now under o, rate and t_c, in units. -/
def State.domTimeBy (s : State) (ofs rate : Int) (tc : Nat) : Int := (256 * (s.ts : Int) + domOfs ofs rate tc s.ts) / 256
def State.domTime (s : State) : Int := s.domTimeBy s.mgt.ofs s.mgt.rate s.mgt.tc

/-- An epoch in timestamp units. -/
def epochT : Nat := 800000

/-- Microseconds since the epoch's start. -/
def State.inEpoch (s : State) : Int := (s.domTime - (s.mgtEpoch : Int) * epochT) / usT

/-- The cut-off of the present epoch has passed (R349). -/
def State.cutPassed (s : State) : Bool := decide ((s.tCut : Int) ≤ s.inEpoch)

/-- The first target epoch whose cut-off has not yet passed (R355). -/
def State.openTarget (s : State) : Nat :=
  max (s.mgt.alloc + 1) (if s.cutPassed then s.mgtEpoch + 3 else s.mgtEpoch + 2)

/-- Show o and its rate. -/
def State.showOfs (s : State) : State :=
  (s.wr MGT_OFS 0 (s.mgt.ofs % 2 ^ 64).toNat).wr MGT_RATE_rate 0 (s.mgt.rate % 2 ^ 32).toNat

/-- A 16-bit epoch field against the current epoch (R339). -/
def expandEpoch (cur f : Nat) : Int := (cur : Int) + sgn 16 ((f + 65536 - cur % 65536) % 65536)

/-! ### Messages (R338 to R341) -/

def mType (m : List Byte) : Nat := fieldAt m 0 1
def mVer (m : List Byte) : Nat := fieldAt m 1 1
def mDomain (m : List Byte) : Nat := fieldAt m 2 2
def mSrc (m : List Byte) : Nat := fieldAt m 4 2 % 4096
def mDst (m : List Byte) : Nat := fieldAt m 6 2 % 8192
def mEpoch (m : List Byte) : Nat := fieldAt m 8 2
def mTtl (m : List Byte) : Nat := fieldAt m 10 1
def mLen (m : List Byte) : Nat := fieldAt m 11 1
def mSeq (m : List Byte) : Nat := fieldAt m 12 2
def mTerm (m : List Byte) : Nat := fieldAt m 14 2

/-- The destination of every package. -/
def mgtAll : Nat := 0x1000

/-- A defined type's body length; any length for a reserved type. -/
def mgtLenOk (m : List Byte) : Bool :=
  let n := mLen m
  match mType m with
  | 0x01 => decide (n = 4)
  | 0x02 => decide (n = 2)
  | 0x03 => decide (n = 2)
  | 0x04 => decide (n = 2)
  | 0x05 => decide (n = 1)
  | 0x06 => (decide (fieldAt m 16 1 = 0) && decide (n = 129)) || (decide (fieldAt m 16 1 = 1) && decide (n = 97))
  | 0x07 => decide (n = 1)
  | 0x08 => decide (n = 1)
  | 0x09 => decide (n = 5)
  | _ => true

/-- Length and CRC are right (R338, R360). -/
def mgtWhole (m : List Byte) : Bool :=
  decide (m.length = 20 + 8 * mLen m) && mgtLenOk m
    && decide (fieldAt m (16 + 8 * mLen m) 4 = crcBytes (m.take (16 + 8 * mLen m)))

/-- The body bytes a type lists, as offset and length (R341). -/
def mgtFields (m : List Byte) : List (Nat × Nat) :=
  match mType m with
  | 0x01 => [(16, 4), (20, 5), (28, 4), (32, 6), (40, 6)]
  | 0x02 => [(16, 13)]
  | 0x03 => [(16, 11)]
  | 0x04 => [(16, 15)]
  | 0x05 => [(16, 1)]
  | 0x06 => [(16, 1032)]
  | 0x07 => [(16, 2)]
  | 0x08 => [(16, 8)]
  | 0x09 => [(16, 33), (52, 4)]
  | _ => [(16, 2040)]

/-- A reserved bit is not zero. -/
def mgtReserved (m : List Byte) : Bool :=
  decide (4096 ≤ fieldAt m 4 2) || decide (8192 ≤ fieldAt m 6 2)
    || ((List.range (8 * mLen m)).any fun k =>
         !((mgtFields m).any fun f => decide (f.1 ≤ k + 16) && decide (k + 16 < f.1 + f.2)) && decide (fieldAt m (k + 16) 1 ≠ 0))
    || (decide (mType m = 0x03) && decide (2 ≤ fieldAt m 26 1)) || (decide (mType m = 0x04) && decide (4 ≤ fieldAt m 30 1))

/-- A message with its CRC. -/
def mgtSeal (h : List Byte) : List Byte := h ++ leBytes 4 (crcBytes h)

/-- A body of n bytes from fields: offset in the message, length, value. -/
def mgtBody (n : Nat) (fs : List (Nat × Nat × Nat)) : List Byte :=
  leBytes n (sumN (fs.map fun f => (f.2.2 % 2 ^ (8 * f.2.1)) * 2 ^ (8 * (f.1 - 16))))

/-- A message of this package to dst about an epoch. -/
def State.mgtMake (s : State) (dom me type dst ep : Nat) (body : List Byte) : List Byte :=
  mgtSeal (leBytes 1 type ++ leBytes 1 0x10 ++ leBytes 2 dom ++ leBytes 2 me ++ leBytes 2 dst ++ leBytes 2 ep ++ leBytes 1 32
    ++ leBytes 1 (body.length / 8) ++ leBytes 2 s.mgt.tx ++ leBytes 2 s.mgtTerm ++ body)

/-- A message leaves on a link; a mirroring primary sends it once the secondary has acknowledged the state behind it (R370). -/
def State.laneOut (s : State) (link : Nat) (m : List Byte) : State :=
  if s.mirroring then
    let q := s.par.tx
    let s := s.mirror 0x07 0 s.mgtBytes
    s.setPar { s.par with lane := s.par.lane ++ [{ mseq := q, link := link, msg := m }] }
  else s.send (.lane link m)

/-- The link toward a member (R336). -/
def State.mgtRoute (s : State) (dst : Nat) : Option Nat :=
  let r := s.rd MGT_ROUTE dst
  if dst < 4096 ∧ bit r 7 then some (r % 64) else none

/-- The links of the broadcast tree (R336). -/
def State.mgtTree (s : State) : List Nat := (List.range 64).filter fun k => bit (s.rd MGT_TREE) k

/-- Send as domain and member given; a message to the package itself goes to its own inbox. -/
def State.mgtSendAs (s : State) (dom me type dst ep : Nat) (body : List Byte) : State :=
  let m := s.mgtMake dom me type dst ep body
  let s := s.setMgt { s.mgt with tx := (s.mgt.tx + 1) % 65536 }
  if dst = me then s.setMgt { s.mgt with inbox := s.mgt.inbox ++ [m] }
  else if dst = mgtAll then s.mgtTree.foldl (fun s k => s.laneOut k m) s
  else match s.mgtRoute dst with
    | some k => s.laneOut k m
    | none => s.bump MGT_VIOL_noroute

def State.mgtSend (s : State) (type dst ep : Nat) (body : List Byte) : State :=
  s.mgtSendAs (s.rd MGT_IDENT_domain) s.mgtMe type dst ep body

/-- To both coordinators. -/
def State.mgtSendC (s : State) (type ep : Nat) (body : List Byte) : State :=
  (s.mgtSend type (s.rd MGT_COORD_c0) ep body).mgtSend type (s.rd MGT_COORD_c1) ep body

/-! ### Peer violations (R360) -/

/-- Kinds: 0 crc, 1 domain, 2 ver, 4 type, 5 late, 6 dup, 7 term, 8 storm. A dropped message is counted and recorded. -/
def State.mgtDrop (s : State) (kind : Nat) (f : Fld) (m : List Byte) : State :=
  (s.bump f).emitLim 21 11 kind msT [kind, mSrc m, mType m]

/-! ### Forwarding (R336) -/

/-- Decrement ttl; at 0 the message is dropped and counted. -/
def State.mgtAged (s : State) (m : List Byte) : State × Option (List Byte) :=
  if mTtl m ≤ 1 then (s.bump MGT_VIOL_ttl, none)
  else (s, some (mgtSeal (m.take 10 ++ leBytes 1 (mTtl m - 1) ++ ((m.drop 11).take (5 + 8 * mLen m)))))

/-- Forward by route, or on the tree except where the message came from. -/
def State.mgtForward (s : State) (link : Nat) (m : List Byte) : State :=
  if mDst m = mgtAll then
    let out := s.mgtTree.filter fun k => decide (k ≠ link)
    if out.isEmpty then s
    else match s.mgtAged m with
      | (s, some m) => out.foldl (fun s k => s.send (.lane k m)) s
      | (s, none) => s
  else match s.mgtRoute (mDst m) with
    | none => s.bump MGT_VIOL_noroute
    | some k => match s.mgtAged m with
      | (s, some m) => s.send (.lane k m)
      | (s, none) => s

/-! ### Decay (R351) -/

/-- D of R351. -/
def decay (safe rate x : Nat) : Nat := max (min safe x) (x * (256 - rate) / 256)

/-- The least k with D^k(b) = min safe b, at most the fuel (R358). -/
def decaySteps (safe rate b : Nat) : Nat → Nat → Nat
  | 0, _ => 0
  | n + 1, x => if x = min safe b then 0 else 1 + decaySteps safe rate b n (decay safe rate x)

end Sys2Proof.Machine
end

