-- ==== Sys2Proof/Machine/Salgor.lean ====
section
/-!
DEFINITION. Machine/Salgor.lean: the Salgor management plane (R335 to R363).
-/
namespace Sys2Proof.Machine

def State.mgtMem (s : State) (i : Nat) : MgtMem := mget s.mgt.mem i { }
def State.setMem (s : State) (i : Nat) (x : MgtMem) : State :=
  (s.setMgt { s.mgt with mem := mput s.mgt.mem i x }).mirror 0x07 (1 + i) x.bytes

/-- The members in the table. -/
def State.table (s : State) : List (Nat × MgtMem) := s.mgt.mem.filter fun e => e.2.joined

/-- The domain budget for a target epoch (R355). -/
def State.domFor (s : State) (t : Nat) : Nat :=
  if s.rd MGT_DOM_AT ≠ 0 ∧ s.rd MGT_DOM_AT ≤ t then s.rd MGT_DOM_NEXT_next else s.rd MGT_DOM_BUD_bud

/-- An unready takeover that does not yet know w (R358). -/
def State.mgtUnready (s : State) : Bool := s.mgt.unready.isSome

/-- The Salgor budget in force as a request reports it. -/
def State.budNow (s : State) : Nat := if s.mgt.started then s.rd MGT_BUD_bud else s.rd ACT_PKG_CAP_cap

/-! ### Sending -/

/-- A VERSION request to both coordinators (R346). -/
def State.sendVersion (s : State) : State :=
  let safe := s.rd MGT_SAFE_safe
  let rate := s.rd MGT_DECAY_rate
  let s := s.setMgt { s.mgt with reqSafe := safe, reqRate := rate, verT := s.ts }
  s.mgtSendC 0x01 s.mgtEpoch (mgtBody 32 [(16, 1, 0x10), (17, 1, 0x10), (20, 4, safe), (24, 1, rate), (28, 4, s.budNow)])

/-- Enter JOINING (R346, R348). -/
def State.enterJoining (s : State) : State :=
  let s := s.wr MGT_STAT_state 0 2
  if s.mgtFw then s.sendVersion else s

/-- HEARTBEAT to a destination (R341, R349). -/
def State.sendHeartbeat (s : State) (dst : Nat) : State :=
  let flags := b2n (decide (s.mgtRole = 3))
    + 2 * (if s.mgtActive then b2n (decide (s.mgt.acks = 0xFFFF)) else s.rd MGT_STAT_ready)
  s.mgtSend 0x04 dst s.mgtEpoch (mgtBody 16 [(16, 6, s.mgtEpoch), (22, 2, if s.mgtActive then s.mgtMe else s.mgtPeer),
    (24, 4, s.rd MGT_DOM_BUD_bud), (28, 2, s.table.length), (30, 1, flags)])

/-- LEAVE with a reason. -/
def State.sendLeave (s : State) (dst reason : Nat) : State := s.mgtSend 0x05 dst s.mgtEpoch (mgtBody 8 [(16, 1, reason)])

/-- A membership record in a CSYNC of kind 1 (R341). -/
def State.memRec (s : State) (i : Nat) : List Byte :=
  let x := s.mgtMem i
  leBytes 2 i ++ leBytes 1 (b2n x.joined + 2 * (s.rd MGT_MEMB i % 2)) ++ leBytes 1 x.rate ++ leBytes 4 x.safe ++ leBytes 4 0

/-- CSYNC kind 1 after a join, a leave or a removal: one record, part 255 (R357). -/
def State.csyncMember (s : State) (i : Nat) : State :=
  s.mgtSend 0x06 s.mgtPeer s.mgtEpoch (mgtBody 4 [(16, 1, 1), (17, 1, 255), (18, 2, 1)] ++ s.memRec i ++ List.replicate 760 0)

/-- The whole membership in 64 parts of 64 members. -/
def State.csyncWhole (s : State) : State :=
  let s := s.setMgt { s.mgt with memE := s.mgtEpoch }
  foldTo 64 s fun s p => s.mgtSend 0x06 s.mgtPeer s.mgtEpoch
    (mgtBody 4 [(16, 1, 1), (17, 1, p), (18, 2, 64)] ++ ((List.range 64).flatMap fun k => s.memRec (64 * p + k)) ++ List.replicate 4 0)

/-! ### Joining at the coordinator (R347) -/

/-- Answer a VERSION request with a refusal. -/
def State.joinRefuse (s : State) (i reason : Nat) : State :=
  (s.mgtSend 0x01 i s.mgtEpoch (mgtBody 32 [(16, 1, 0x10), (17, 1, 0x10), (18, 1, 2), (19, 1, reason)])).emit 21 1 [i, 2, reason, 0]

/-- What a member may be using in epoch J: its decayed reservation, or its own start budget. -/
def MgtMem.atJ (x : MgtMem) : Nat :=
  match x.join with
  | some j => j.2.1
  | none => decay x.safe x.rate x.w

/-- Accept: the start budget s, the reservation and the answer. -/
def State.joinAccept (s : State) (m : List Byte) : State :=
  let i := mSrc m
  let j := s.mgtEpoch + 3
  let others := sumN ((s.table.filter fun e => decide (e.1 ≠ i)).map fun e => e.2.atJ)
  let st := min (fieldAt m 28 4) (s.domFor j - others)
  let safe := fieldAt m 20 4
  let rate := fieldAt m 24 1
  let x := s.mgtMem i
  let fresh := !x.joined || x.fresh
  let s := s.setMem i { x with joined := true, fresh := fresh, join := some (j, st, safe, rate), heard := s.mgtEpoch, silent := false,
                               safe := if fresh then safe else x.safe, rate := if fresh then rate else x.rate }
  let s := s.mgtSend 0x01 i j (mgtBody 32 [(16, 1, 0x10), (17, 1, 0x10), (18, 1, 1), (20, 4, safe), (24, 1, rate), (28, 4, st), (32, 6, j),
    (40, 6, s.mgtEpoch)])
  (s.csyncMember i).emit 21 1 [i, 1, 0, j % 2 ^ 32]

/-- The active coordinator answers a request. An accept needs the reservations for J − 1, which the present epoch's cut-off makes. -/
def State.joinRequest (s : State) (m : List Byte) : State :=
  let i := mSrc m
  let lo := fieldAt m 16 1
  let hi := fieldAt m 17 1
  if mVer m / 16 ≠ 1 ∨ 1 < lo / 16 ∨ ¬ (lo ≤ 0x10 ∧ 0x10 ≤ hi) then s.joinRefuse i 1
  else if s.rd MGT_MEMB i % 2 = 0 then s.joinRefuse i 2
  else if s.mgtRole = 3 ∨ s.mgtUnready then s.joinRefuse i 3
  else if s.mgtEpoch + 2 ≤ s.mgt.alloc then s.joinAccept m
  else s.setMgt { s.mgt with wait := s.mgt.wait ++ [m] }

/-! ### The member's side -/

/-- A later term from a coordinator is recorded (R356). -/
def State.takeTerm (s : State) (m : List Byte) : State :=
  if laterSer (mTerm m) s.mgtTerm 16 then s.wr MGT_STAT_term 0 (mTerm m) else s

/-- The coordinator is heard (R346). -/
def State.mgtHeard (s : State) : State :=
  let s := s.setMgt { s.mgt with hbE := s.mgtEpoch }
  if s.rd MGT_STAT_state = 4 then (s.wr MGT_STAT_state 0 3).emit 21 2 [s.mgtTerm, s.rd MGT_BUD_bud] else s

/-- VERSION (R347). -/
def State.onVersion (s : State) (m : List Byte) : State :=
  match fieldAt m 18 1 with
  | 0 => if s.mgtActive then s.joinRequest m else s
  | 1 =>
    let s := s.takeTerm m
    let st := s.rd MGT_STAT_state
    if st = 2 ∨ st = 4 then
      let j := fieldAt m 32 6
      let s := s.setMgt { s.mgt with join := some (j, fieldAt m 28 4), hbE := s.mgtEpoch }
      let s := (s.wr MGT_STAT_state 0 3).wr MGT_STAT_bound 0 1
      let s := if st = 4 then s.emit 21 2 [s.mgtTerm, s.rd MGT_BUD_bud] else s
      s.emit 21 1 [s.mgtMe, 1, 0, j % 2 ^ 32]
    else s
  | _ => (s.takeTerm m).emit 21 1 [s.mgtMe, 2, fieldAt m 19 1, 0]

/-- o, rate and t_c at the next boundary: a change of at most 800 units is applied, a larger one steps (R345). -/
def State.nextOfs (s : State) : Mgt :=
  let g := s.mgt
  match g.next with
  | none => g
  | some (o, r, t) =>
    let d := domOfs o r t s.ts - domOfs g.ofs g.rate g.tc s.ts
    if d ≤ 204800 ∧ -204800 ≤ d then { g with ofs := o, rate := r, tc := t, next := none }
    else { g with ofs := g.ofs + (if 0 < d then 204800 else -204800) }

/-- Domain time, with the pending step of a clap applied, has reached the next epoch. -/
def State.epochDue (s : State) : Bool :=
  let g := s.nextOfs
  decide (((s.mgtEpoch + 1 : Nat) : Int) * epochT ≤ s.domTimeBy g.ofs g.rate g.tc)

/-- GRANT (R352): a slot of the next two epochs is filled. In the hub cycle of its epoch's boundary it is late (R361). -/
def State.onGrant (s : State) (m : List Byte) : State :=
  let s := s.takeTerm m
  let e := expandEpoch s.mgtEpoch (mEpoch m)
  let now := s.mgtEpoch + b2n s.epochDue
  if e = now + 1 ∨ e = now + 2 then
    if s.flag MGT_STAT_bound then s.setMgt { s.mgt with slots := mput s.mgt.slots e.toNat (fieldAt m 16 4) } else s
  else s.mgtDrop 5 MGT_VIOL_late m

/-- DEMAND (R353, R360). -/
def State.onDemand (s : State) (m : List Byte) : State :=
  let i := mSrc m
  if !s.isCoord then s
  else if expandEpoch s.mgtEpoch (mEpoch m) ≠ (s.mgtEpoch : Int) + 2 then s.mgtDrop 5 MGT_VIOL_late m
  else if !(s.mgtMem i).joined then
    let s := s.bump MGT_VIOL_noroute
    if s.mgtActive then s.sendLeave i 1 else s
  else
    let s := s.setMem i { s.mgtMem i with heard := s.mgtEpoch, silent := false }
    if s.cutPassed ∨ s.mgt.cut ∨ s.mgtEpoch + 2 ≤ s.mgt.alloc then s.bump MGT_VIOL_late
    else
      let want := fieldAt m 16 4
      let floor := fieldAt m 20 4
      let s := if want < floor then s.bump MGT_VIOL_noroute else s
      s.setMgt { s.mgt with dem := mput s.mgt.dem i { want := max want floor, floor := floor, weight := max 1 (fieldAt m 28 1) } }

/-- An active coordinator becomes standby: it discards its own w and waits for CSYNC (R356, R359). -/
def State.standDown (s : State) : State :=
  let s := s.setMgt { s.mgt with mem := [], dem := [], wait := [], cT := 0, cParts := 0, cW := [], mParts := 0, unready := none,
                                 sole := false, miss := 0, peerE := s.mgtEpoch, runT := none }
  (s.wr MGT_STAT_ready 0 0).mgtSetRole 2

/-- HEARTBEAT (R345, R356). -/
def State.onHeartbeat (s : State) (m : List Byte) : State :=
  let later := laterSer (mTerm m) s.mgtTerm 16
  let s := (s.takeTerm m).mgtHeard
  let s := if s.isCoord ∧ mSrc m = s.mgtPeer then
      if s.mgtActive then
        if later ∨ (fieldAt m 22 2 = mSrc m ∧ s.mgtMe = s.rd MGT_COORD_c1) then s.standDown else s
      else s.setMgt { s.mgt with peerE := s.mgtEpoch }
    else s
  let d : Int := (fieldAt m 16 6 : Int) - s.mgtEpoch
  if (1 < d ∨ d < -1) ∧ ¬ s.mgtActive then s.setMgt { s.mgt with runT := none } else s

/-- The coordinator's LEAVE to its own package: as a member it rejoins. -/
def State.selfLeave (s : State) (src : Nat) : State :=
  if src = s.mgtMe ∧ 3 ≤ s.rd MGT_STAT_state ∧ s.flag MGT_STAT_bound then s.enterJoining else s

/-- LEAVE (R348). -/
def State.onLeave (s : State) (m : List Byte) : State :=
  let i := mSrc m
  let reason := fieldAt m 16 1
  if s.mgtActive ∨ reason = 0 then
    if !s.isCoord ∨ !(s.mgtMem i).joined then (if reason = 0 then s else s.selfLeave i)
    else
      let s := s.emit 21 1 [i, 3, reason, 0]
      if reason = 0 then
        let s := (s.setMem i { }).setMgt { (s.setMem i { }).mgt with dem := mdel s.mgt.dem i }
        if s.mgtActive then s.csyncMember i else s
      else s.selfLeave i
  else if s.isC i ∧ s.flag MGT_STAT_bound then
    (s.emit 21 1 [s.mgtMe, 3, reason, 0]).enterJoining
  else s

/-! ### The coordinator pair (R357) -/

/-- A standby is ready when it holds every part for the latest target for which a GRANT can have been sent, and the membership. -/
def State.showReady (s : State) : State :=
  if s.mgtRole ≠ 2 then s else
  let sent := if (s.tCut + 50 + s.tAckw : Int) ≤ s.inEpoch then s.mgtEpoch + 2 else s.mgtEpoch + 1
  s.wr MGT_STAT_ready 0 (b2n (decide (s.mgt.mParts = 2 ^ 64 - 1) && decide (sent ≤ s.mgt.cT)))

/-- CSYNC (R357). -/
def State.onCsync (s : State) (m : List Byte) : State :=
  if s.mgtRole ≠ 2 ∨ mSrc m ≠ s.mgtPeer then s else
  let part := fieldAt m 17 1
  let count := fieldAt m 18 2
  if fieldAt m 16 1 = 0 then
    let e := (expandEpoch s.mgtEpoch (mEpoch m)).toNat
    let c := s.mgt
    let c := if c.cOpen = e then c else { c with cOpen := e, cParts := 0, cW := [] }
    let w := foldTo (min 256 count) c.cW fun w k =>
      let v := fieldAt m (20 + 4 * k) 4
      if v = 0 then w else mput w (256 * part + k) v
    let c := { c with cW := w, cParts := if part < 16 then setBit c.cParts part true else c.cParts }
    let c := if c.cParts = 0xFFFF then
        { c with cT := e, mem := (c.mem.map fun x => (x.1, { x.2 with w := mget w x.1 0 })) } else c
    let s := s.setMgt c
    (s.mgtSend 0x07 s.mgtPeer (mEpoch m) (mgtBody 8 [(16, 2, c.cParts)])).showReady
  else
    let s := foldTo (min 64 count) s fun s k =>
      let o := 20 + 12 * k
      let i := fieldAt m o 2
      let fl := fieldAt m (o + 2) 1
      let x := s.mgtMem i
      if fl % 2 = 0 then s.setMgt { s.mgt with mem := mdel s.mgt.mem i }
      else s.setMem i { x with joined := true, rate := fieldAt m (o + 3) 1, safe := fieldAt m (o + 4) 4, w := if x.joined then x.w else mget s.mgt.cW i 0 }
    (if part < 64 then s.setMgt { s.mgt with mParts := setBit s.mgt.mParts part true } else s).showReady

/-- CSYNC_ACK (R357, R358): a complete acknowledgement ends alone. -/
def State.onCsyncAck (s : State) (m : List Byte) : State :=
  if !s.mgtActive ∨ mSrc m ≠ s.mgtPeer ∨ expandEpoch s.mgtEpoch (mEpoch m) ≠ (s.mgt.sentC : Int) then s else
  let a := s.mgt.acks ||| fieldAt m 16 2
  let s := s.setMgt { s.mgt with acks := a }
  if a = 0xFFFF then (s.setMgt { s.mgt with miss := 0, sole := false }).mgtSetRole 1 else s

/-! ### Delivery to FP3 (R336, R360) -/

/-- What a message does once it has been taken. -/
def State.mgtHandle (s : State) (m : List Byte) : State :=
  match mType m with
  | 0x01 => s.onVersion m
  | 0x02 => s.onDemand m
  | 0x03 => s.onGrant m
  | 0x04 => s.onHeartbeat m
  | 0x05 => s.onLeave m
  | 0x06 => s.onCsync m
  | 0x07 => s.onCsyncAck m
  | _ => s

/-- The messages this package has sent to itself, those they cause among them. -/
def State.mgtDrain : Nat → State → State
  | 0, s => s
  | n + 1, s =>
    match s.mgt.inbox with
    | [] => s
    | m :: t => State.mgtDrain n ((s.setMgt { s.mgt with inbox := t }).mgtHandle m)

def State.mgtSettle (s : State) : State := State.mgtDrain 32 s

/-- The types that only a coordinator sends. -/
def coordType (m : List Byte) : Bool :=
  decide (mType m ∈ [0x03, 0x04, 0x06, 0x07]) || (decide (mType m = 0x01) && decide (fieldAt m 18 1 ≠ 0))

/-- A message for this package reaches FP3. -/
def State.mgtDeliver (s : State) (m : List Byte) : State :=
  if !s.mgtFw ∨ s.rd MGT_STAT_state = 0 then s else
  let src := mSrc m
  let n := mget s.mgt.got src 0 + 1
  let s := s.setMgt { s.mgt with got := mput s.mgt.got src n }
  let key := src * 256 + mType m
  if 16 < n then s.mgtDrop 8 MGT_VIOL_noroute m
  else if mVer m / 16 ≠ 1 then
    if mType m = 0x01 ∧ fieldAt m 18 1 = 0 then ((s.bump MGT_VIOL_ver).onVersion m).mgtSettle else s.mgtDrop 2 MGT_VIOL_ver m
  else
    let s := if mgtReserved m then s.bump MGT_VIOL_noroute else s
    if mType m = 0 ∨ 0x0A ≤ mType m ∨ (coordType m ∧ !s.isC src) then s.mgtDrop 4 MGT_VIOL_type m
    else if (match mfind s.mgt.lastSeq key with | some q => !laterSer (mSeq m) q 16 | none => false) then s.mgtDrop 6 MGT_VIOL_dup m
    else
      let s := s.setMgt { s.mgt with lastSeq := mput s.mgt.lastSeq key (mSeq m) }
      if laterSer s.mgtTerm (mTerm m) 16 then
        let s := s.mgtDrop 7 MGT_VIOL_dup m
        if s.isCoord then (s.sendHeartbeat src).mgtSettle else s
      else (s.mgtHandle m).mgtSettle

/-! ### The clap (R343 to R345) -/

/-- A message straight onto a link, by the MGT hardware. -/
def State.mgtDirect (s : State) (link type dst : Nat) (body : List Byte) : State :=
  let m := s.mgtMake (s.rd MGT_IDENT_domain) s.mgtMe type dst s.mgtEpoch body
  (s.setMgt { s.mgt with tx := (s.mgt.tx + 1) % 65536 }).send (.lane link m)

/-- CLAP_REQ: a parent that knows domain time answers, with t2 the stamp of arrival. -/
def State.onClapReq (link stamp : Nat) (m : List Byte) (s : State) : State :=
  if s.mgtOn ∧ 2 ≤ s.rd MGT_STAT_state then
    s.mgtDirect link 0x09 (mSrc m) (mgtBody 40 [(16, 8, fieldAt m 16 8), (24, 8, stamp), (32, 8, s.ts),
      (40, 8, (domOfs s.mgt.ofs s.mgt.rate s.mgt.tc s.ts % 2 ^ 64).toNat), (48, 1, s.rd MGT_CSTAT_hops),
      (52, 4, (s.mgt.rate % 2 ^ 32).toNat)])
  else s

/-- CLAP_RSP: theta and delta of an exchange of the run; the smallest delta is kept. -/
def State.onClapRsp (link stamp : Nat) (m : List Byte) (s : State) : State :=
  match s.mgt.run with
  | none => s
  | some r =>
    let t1 := fieldAt m 16 8
    let t2 := fieldAt m 24 8
    let t3 := fieldAt m 32 8
    if link ≠ s.rd MGT_CLAP_parent ∨ t1 < r.t0 ∨ (t1 - r.t0) % usT ≠ 0 ∨ r.n ≤ (t1 - r.t0) / usT then s
    else
      let th : Int := (((t2 : Int) - t1) - ((stamp : Int) - t3)) * 128
      let de : Int := (((stamp : Int) - t1) - ((t3 : Int) - t2)) * 128
      let b : ClapBest := { delta := de, theta := th, t4 := stamp, off := sgn 64 (fieldAt m 40 8), hops := fieldAt m 48 1,
                            rate := sgn 32 (fieldAt m 52 4) }
      let keep := match r.best with | some x => decide (de < x.delta) | none => true
      if keep then s.setMgt { s.mgt with run := some { r with best := some b } } else s

/-- CLAP_RUN (R343): MGT_CLAP.n requests, 1 µs apart. -/
def clapRun (s : State) : State :=
  let due : Bool := match s.mgt.runT with | none => true | some t => decide (t + s.rd MGT_CLAP_period * msT ≤ s.ts)
  if s.mgtOn ∧ 1 ≤ s.rd MGT_STAT_state ∧ s.flag MGT_CLAP_pvalid ∧ ¬ s.mgtActive ∧ s.mgt.run.isNone ∧ due then
    let n := s.rd MGT_CLAP_n
    let s := s.setMgt { s.mgt with run := some { t0 := s.ts, n := n }, runT := some s.ts }
    foldTo n s fun s k => s.mgtDirect (s.rd MGT_CLAP_parent) 0x08 mgtAll (mgtBody 8 [(16, 8, s.ts + k * usT)])
  else s

/-- The first domain time of a member: its epoch starts, and it asks to join. -/
def State.domStart (s : State) : State :=
  let s := s.latchTim.showOfs.wr MGT_EPOCH 0 ((s.domTime / epochT).toNat % 2 ^ 48)
  (s.setMgt { s.mgt with peerE := s.mgtEpoch, hbE := s.mgtEpoch, alloc := s.mgtEpoch + 1 }).enterJoining

/-- The run has an exchange: o and its rate are set, at once on leaving CLAPPING and at a boundary later. -/
def State.clapGood (s : State) (b : ClapBest) : State :=
  let drift : Int := match s.mgt.prev with
    | some p => if p.2 < b.t4 then roundNE ((b.theta - p.1) * 2 ^ 40) (256 * (b.t4 - p.2)) else 0
    | none => 0
  let o := b.off + b.theta
  let rate := clampI (-(2 ^ 31)) (2 ^ 31 - 1) (b.rate + drift)
  let s := (s.wr MGT_CSTAT_hops 0 (b.hops + 1)).wr MGT_CSTAT_delta 0 (satU 16 (roundNE b.delta 256))
  let s := s.setMgt { s.mgt with prev := some (b.theta, b.t4) }
  if s.rd MGT_STAT_state = 1 then (s.setMgt { s.mgt with ofs := o, rate := rate, tc := b.t4 }).domStart
  else
    let change : Int := domOfs o rate b.t4 s.ts - domOfs s.mgt.ofs s.mgt.rate s.mgt.tc s.ts
    let s := s.setMgt { s.mgt with next := some (o, rate, b.t4) }
    if 204800 < change ∨ change < -204800 then s.emit 21 9 [(roundNE change 256 % 2 ^ 32).toNat, s.rd MGT_CSTAT_hops] else s

/-- CLAP_RUN_END (R345): the last exchange's microsecond is over. -/
def clapRunEnd (s : State) : State :=
  match s.mgt.run with
  | none => s
  | some r =>
    if s.ts < r.t0 + r.n * usT then s else
    let s := s.setMgt { s.mgt with run := none }
    match r.best with
    | some b => (s.clapGood b).mgtSettle
    | none => let s := s.bump MGT_CSTAT_fail; s.emit 21 10 [s.rd MGT_CLAP_parent, s.rd MGT_CSTAT_fail]

/-! ### Receiving (R336, R360) -/

/-- A clap's message, which the MGT hardware takes, under R360. -/
def State.clapTake (s : State) (m : List Byte) (f : State → State) : State :=
  let key := mSrc m * 256 + mType m
  if mVer m / 16 ≠ 1 then s.mgtDrop 2 MGT_VIOL_ver m
  else
    let s := if mgtReserved m then s.bump MGT_VIOL_noroute else s
    if (match mfind s.mgt.lastSeq key with | some q => !laterSer (mSeq m) q 16 | none => false) then s.mgtDrop 6 MGT_VIOL_dup m
    else f (s.setMgt { s.mgt with lastSeq := mput s.mgt.lastSeq key (mSeq m) })

/-- A message received whole on a link, with the stamp of its byte 0. -/
def State.mgtReceive (s : State) (link stamp : Nat) (m : List Byte) : State :=
  if !s.running || !s.clocked 21 then s
  else if !mgtWhole m then s.mgtDrop 0 MGT_VIOL_crc m
  else if mDomain m ≠ s.rd MGT_IDENT_domain then s.mgtDrop 1 MGT_VIOL_domain m
  else if mType m = 0x08 ∨ mType m = 0x09 then s.clapTake m (if mType m = 0x08 then State.onClapReq link stamp m else State.onClapRsp link stamp m)
  else
    let s := if mDst m = s.mgtMe then s else s.mgtForward link m
    if mDst m = s.mgtMe ∨ mDst m = mgtAll then
      if s.isD ∧ s.pRole = 2 ∧ s.pState = 2 then s.bridgeSend 0x11 m else s.mgtDeliver m
    else s

/-- A row of one type: a message of another type is not that row's. -/
def mgtRow (type : Nat) (link : Fin 64) (stamp : Nat) (m : List Byte) (s : State) : State :=
  if mType m = type then s.mgtReceive link stamp m else s

/-- MGT_FORWARD: a message for another member, or of no defined type. -/
def mgtForwardRow (link : Fin 64) (m : List Byte) (s : State) : State :=
  if (mDst m ≠ s.mgtMe ∧ mDst m ≠ mgtAll) ∨ mType m = 0 ∨ 0x0A ≤ mType m then s.mgtReceive link s.ts m else s

/-! ### The epoch boundary (R345, R349, R352, R355) -/

/-- The Salgor budget of epoch e (R352). -/
def State.epochBudget (s : State) (e : Nat) : State :=
  let g := s.mgt
  let prev := s.rd MGT_BUD_bud
  let slot := mfind g.slots e
  let joinNow := match g.join with | some j => if j.1 ≤ e then some j.2 else none | none => none
  let base := match slot with | some v => v | none => decay g.safe g.rateD prev
  let s := if slot.isNone ∧ g.started then s.bump MGT_STAT_missed else s
  let keep := g.slots.filter fun x => decide (e < x.1)
  let v : Option Nat := match joinNow with
    | some st => some (min st (if g.started then base else s.rd ACT_PKG_CAP_cap))
    | none => if g.started then some base else none
  let g := if joinNow.isSome then { g with join := none, started := true, safe := g.reqSafe, rateD := g.reqRate } else g
  let s := s.setMgt { g with slots := keep }
  match v with
  | none => s
  | some b => ({ s.wr MGT_BUD_bud 0 b with acc := { s.acc with domBud := some b } }).refreshBudget

/-- The coordinator's and the standby's part. -/
def State.coordBoundary (s : State) (e : Nat) : State :=
  let s := if s.isCoord ∧ s.rd MGT_DOM_AT ≠ 0 ∧ s.rd MGT_DOM_AT ≤ e then
      (s.wr MGT_DOM_BUD_bud 0 (s.rd MGT_DOM_NEXT_next)).wr MGT_DOM_AT 0 0 else s
  let s := match s.mgt.unready with
    | some u => if u ≤ e then
        s.setMgt { s.mgt with unready := none, mem := s.mgt.mem.map fun x => (x.1, { x.2 with w := x.2.safe }) } else s
    | none => s
  if !s.fwRunning 3 then s
  else if s.mgtActive then (s.mgtHeard.sendHeartbeat mgtAll).mgtSettle
  else if s.mgtRole = 2 then (s.showReady.sendHeartbeat s.mgtPeer).mgtSettle
  else s

/-- EPOCH_BOUNDARY: domain time, with the pending step of a clap applied, has reached the next epoch. -/
def epochBoundary (s : State) : State :=
  if !s.running || !s.clocked 21 || !s.flag MGT_CTL_en || decide (s.rd MGT_STAT_state < 2) then s else
  let e := s.mgtEpoch + 1
  let g := s.nextOfs
  if !s.epochDue then s else
  let s := ((s.setMgt { g with got := [], dem := [] }).showOfs.latchTim).wr MGT_EPOCH 0 (e % 2 ^ 48)
  if s.holdsRoles then
    let s := (s.epochBudget e).coordBoundary e
    s.mirror 0x07 0 s.mgtBytes
  else if s.isD ∧ s.pState = 3 then
    (s.setPar { s.par with p := min (s.rd ACT_PKG_CAP_cap) (decay (s.rd MGT_SAFE_safe) (s.rd MGT_DECAY_rate) s.par.p) }).refreshDie
  else s

/-! ### The member's DEMAND (R350) -/

/-- Measured power of the last reconciled millisecond, u32f3 W, rounded up. -/
def State.mgtMeasured (s : State) : Nat := (s.acc.lastM * 8000 + s.acc.lastN * 2 ^ 24 - 1) / (max 1 s.acc.lastN * 2 ^ 24)

/-- DEMAND_SEND. -/
def demandSend (s : State) : State :=
  let st := s.rd MGT_STAT_state
  let e := s.mgtEpoch
  if s.mgtFw ∧ (st = 3 ∨ st = 4) ∧ s.mgt.demE ≠ some e ∧ (s.tDem + 2 * (s.mgtMe % 128) : Int) ≤ s.inEpoch then
    let meas := min (2 ^ 32 - 1) s.mgtMeasured
    let floor := s.rd MGT_FLOOR_floor
    let want := clampN floor (s.rd ACT_PKG_CAP_cap) ((meas * (256 + s.rd MGT_DEM_head) + 255) / 256 + s.rd MGT_ADD_add)
    let s := s.setMgt { s.mgt with demE := some e }
    (s.mgtSendC 0x02 (e + 2) (mgtBody 16 [(16, 4, want), (20, 4, floor), (24, 4, meas), (28, 1, s.rd MGT_DEM_weight)])).mgtSettle
  else s

/-! ### Allocation (R353) -/

/-- A member in the computation. -/
structure Share where
  id : Nat
  lo : Nat
  base : Nat
  cap : Nat
  weight : Nat
deriving DecidableEq, Repr

/-- The repeat of R353: what remains, the members still in U, and the grants of those capped. -/
def shareRounds : Nat → Nat → List Share → SMap Nat → Nat × List Share × SMap Nat
  | 0, r, u, g => (r, u, g)
  | n + 1, r, u, g =>
    let w := sumN (u.map (·.weight))
    let capped := u.filter fun x => decide ((x.cap - x.base) * w ≤ r * x.weight)
    if capped.isEmpty then (r, u, g)
    else
      let r' := r - sumN (capped.map fun x => x.cap - x.base)
      let u' := u.filter fun x => !decide ((x.cap - x.base) * w ≤ r * x.weight)
      shareRounds n r' u' (capped.foldl (fun g x => mput g x.id x.cap) g)

/-- The grants of every member for a budget. -/
def allocate (b : Nat) (xs : List Share) : SMap Nat :=
  let sb := sumN (xs.map (·.base))
  let sl := sumN (xs.map (·.lo))
  if b < sb then
    xs.foldl (fun g x => mput g x.id (x.lo + (if sl < b then (b - sl) * (x.base - x.lo) / (sb - sl) else 0))) []
  else
    let g := xs.foldl (fun g x => mput g x.id x.base) []
    let (r, u, g) := shareRounds (xs.length + 1) (b - sb) (xs.filter fun x => decide (x.base < x.cap)) g
    let w := sumN (u.map (·.weight))
    u.foldl (fun g x => mput g x.id (x.base + r * x.weight / w)) g

/-- A member's place by its DEMAND. -/
def State.demandShare (s : State) (e : Nat × MgtMem) : Share :=
  let lo := decay e.2.safe e.2.rate e.2.w
  match mfind s.mgt.dem e.1 with
  | some d => let base := max lo (min d.floor d.want); { id := e.1, lo := lo, base := base, cap := max base d.want, weight := d.weight }
  | none => { id := e.1, lo := lo, base := lo, cap := lo, weight := 0 }

/-- A member's place in the computation for target t. A join takes its start budget at J; before, a new member has nothing. -/
def State.shareOf (s : State) (t : Nat) (e : Nat × MgtMem) : Share :=
  let fixed (v : Nat) : Share := { id := e.1, lo := v, base := v, cap := v, weight := 0 }
  match e.2.join with
  | some j => if j.1 ≤ t then fixed j.2.1 else if e.2.fresh then fixed 0 else s.demandShare e
  | none => s.demandShare e

/-- A member after the allocation for t: its reservation, and the values of a join that has come. -/
def MgtMem.after (x : MgtMem) (t w lo : Nat) : MgtMem :=
  match x.join with
  | some j => if j.1 ≤ t then { x with w := w, lo := lo, safe := j.2.2.1, rate := j.2.2.2, fresh := false, join := none }
              else { x with w := w, lo := lo }
  | none => { x with w := w, lo := lo }

/-- Members that have sent no DEMAND for MGT_TIM2.gone epochs are silent (R354). -/
def State.markSilent (s : State) : State :=
  s.table.foldl (fun s e =>
    if !e.2.silent ∧ e.2.heard + s.tGone ≤ s.mgtEpoch then
      (s.setMem e.1 { s.mgtMem e.1 with silent := true }).emit 21 7 [e.1, s.mgtEpoch - e.2.heard]
    else s) s

/-- SALGOR_CUT_OFF: the demands are frozen. The grants are computed as the hub cycle ends, with what a take of the cycle sets (R361). -/
def salgorCutOff (s : State) : State :=
  if s.mgtFw && s.mgtActive && s.cutPassed && decide (s.mgt.alloc < s.mgtEpoch + 2) then s.setMgt { s.mgt with cut := true } else s

/-- The allocation of a cut-off of this hub cycle (R353). -/
def State.mgtAllocate (s : State) : State :=
  if !s.mgt.cut then s else
  let t := s.mgtEpoch + 2
  let s := s.setMgt { s.mgt with cut := false, alloc := t }
  let s := if s.mgtUnready then s else
    let xs := s.table.map (s.shareOf t)
    let b := s.domFor t
    let sl := sumN (xs.map (·.lo))
    let g := if s.mgtRole = 3 then xs.map fun x => (x.id, x.lo) else allocate b xs
    let s := xs.foldl (fun s x => s.setMem x.id ((s.mgtMem x.id).after t (mget g x.id x.lo) x.lo)) s
    let s := s.setMgt { s.mgt with overB := decide (b < sl) }
    if b < sl then s.emitLim 21 3 0 msT [t % 2 ^ 32, sl, b] else s
  let w := s.mgt.wait
  let s := w.foldl (fun s m => s.joinRequest m) (s.setMgt { s.mgt with wait := [] })
  s.markSilent.mgtSettle

/-- CSYNC_SEND (R349, R357): w for the target in 16 parts, and every 1,024 epochs the whole membership. -/
def csyncSend (s : State) : State :=
  let t := s.mgtEpoch + 2
  if !(s.mgtFw && s.mgtActive && !s.mgtUnready && decide (s.mgt.alloc = t) && decide (s.mgt.sentC < t)
      && decide ((s.tCut + 50 : Int) ≤ s.inEpoch)) then s else
  let s := s.setMgt { s.mgt with sentC := t, acks := 0 }
  let s := foldTo 16 s fun s p => s.mgtSend 0x06 s.mgtPeer t
    (mgtBody 4 [(17, 1, p), (18, 2, 256)] ++ ((List.range 256).flatMap fun k => leBytes 4 (s.mgtMem (256 * p + k)).w) ++ List.replicate 4 0)
  (if s.mgt.memE = 0 ∨ s.mgt.memE + 1024 ≤ s.mgtEpoch then s.csyncWhole else s).mgtSettle

/-- GRANT_SEND (R349): g after a complete acknowledgement or under sole, else lo. An unready coordinator grants nothing. -/
def grantSend (s : State) : State :=
  let t := s.mgtEpoch + 2
  if !(s.mgtFw && s.mgtActive && decide (s.mgt.alloc = t) && decide (s.mgt.sentG < t)
      && decide ((s.tCut + 50 + s.tAckw : Int) ≤ s.inEpoch)) then s else
  let full := decide (s.mgt.sentC = t) && decide (s.mgt.acks = 0xFFFF)
  let s := s.setMgt { s.mgt with sentG := t, miss := if full then 0 else s.mgt.miss + 1 }
  if s.mgtUnready then s else
  let dst := s.table.filter fun e => !e.2.fresh
  (dst.foldl (fun s e => s.mgtSend 0x03 e.1 t (mgtBody 16 [(16, 4, if full || s.mgt.sole then e.2.w else e.2.lo), (20, 4, s.domFor t),
    (24, 2, s.table.length), (26, 1, b2n s.mgt.overB)])) s).mgtSettle

/-! ### Loss of a coordinator (R346, R358) -/

/-- ORPHAN_TIMEOUT. -/
def orphanTimeout (s : State) : State :=
  if s.mgtFw ∧ s.rd MGT_STAT_state = 3 ∧ s.mgt.hbE + s.tOrphan ≤ s.mgtEpoch then
    (s.wr MGT_STAT_state 0 4).emit 21 2 [s.mgtTerm, s.rd MGT_BUD_bud]
  else s

/-- VERSION_RESEND. -/
def versionResend (s : State) : State :=
  let st := s.rd MGT_STAT_state
  if s.mgtFw ∧ (st = 2 ∨ st = 4) ∧ (s.mgt.verT = 0 ∨ s.mgt.verT + 16 * msT ≤ s.ts) then s.sendVersion.mgtSettle else s

/-- The k of R358 over every member known. -/
def State.unreadyK (s : State) : Nat :=
  s.table.foldl (fun k e => max k (decaySteps e.2.safe e.2.rate (s.rd MGT_DOM_BUD_bud) 8192 (s.rd MGT_DOM_BUD_bud))) 0

/-- A standby takes over: the term rises, and it allocates from the first open target. -/
def State.standUp (s : State) : State :=
  let ready := s.showReady.flag MGT_STAT_ready
  let s := s.wr MGT_STAT_term 0 (s.mgtTerm + 1)
  let s := s.setMgt { s.mgt with alloc := if s.cutPassed then s.mgtEpoch + 2 else s.mgtEpoch + 1, rate := 0, next := none, run := none,
                                 miss := 0, sole := false, memE := 0, wait := [] }
  let s := ((s.showOfs.wr MGT_CSTAT_hops 0 0).wr MGT_STAT_ready 0 0).mgtSetRole 3
  let s := if ready then s
    else let k := s.unreadyK; (s.setMgt { s.mgt with unready := some (s.mgtEpoch + k) }).emit 21 6 [k]
  (s.mgtHeard.sendHeartbeat mgtAll).mgtSettle

/-- COORDINATOR_ALONE. -/
def coordinatorAlone (s : State) : State :=
  if !s.mgtFw ∨ s.rd MGT_STAT_state < 2 then s
  else if s.mgtRole = 1 ∧ s.tHbMiss ≤ s.mgt.miss ∧ !s.mgt.sole then s.mgtSetRole 3
  else if s.mgtRole = 2 ∧ s.mgt.peerE + s.tHbMiss ≤ s.mgtEpoch then s.standUp
  else s

/-! ### Takes (R346, R348, R354, R355, R358) and the snapshot (R363) -/

/-- Membership ends: en is cleared, or the unit gated. -/
def State.mgtDetach (s : State) : State :=
  let m := s.mgt
  let s := s.setMgt { tx := m.tx, lastSeq := m.lastSeq }
  let s := (((s.mgtSetRole 0).wr MGT_STAT_state 0 0).wr MGT_STAT_bound 0 0).wr MGT_STAT_ready 0 0
  let s := ((s.wr MGT_BUD_bud 0 0).wr MGT_EPOCH 0 0).showOfs
  ({ s with acc := { s.acc with domBud := none } }).refreshBudget

/-- en is set: the first coordinator is the time root at once, every other package claps first. -/
def State.mgtAttach (s : State) : State :=
  let role := if s.mgtMe = s.rd MGT_COORD_c0 then 1 else if s.mgtMe = s.rd MGT_COORD_c1 then 2 else 0
  let s := (s.wr MGT_STAT_state 0 1).mgtSetRole role
  if role = 1 then s.domStart.mgtSettle else s

/-- The role after a take has changed who coordinates (R356, log entry 177): a package no longer named is a member, a newly named one waits
as standby. -/
def State.mgtRename (s : State) : State :=
  if s.isCoord then (if s.mgtRole = 0 then (s.setMgt { s.mgt with peerE := s.mgtEpoch }).mgtSetRole 2 else s)
  else if s.mgtRole = 0 then s
  else ((s.setMgt { s.mgt with runT := none }).wr MGT_STAT_ready 0 0).mgtSetRole 0

/-- The steward's removal of silent members: the take clears the allow bit of one that allow0 shows set (R354). -/
def State.mgtRemovals (s : State) (allow0 : Nat → Bool) : State :=
  if !s.mgtActive then s else
  s.table.foldl (fun s e =>
    if e.2.silent ∧ allow0 e.1 ∧ s.rd MGT_MEMB e.1 % 2 = 0 then
      let s := (s.setMem e.1 { }).emit 21 8 [e.1, e.2.w]
      (s.sendLeave e.1 2).csyncMember e.1
    else s) s

/-- Domain, member, coordinators, rate and safe. -/
def State.mgtIdents (s : State) : List Nat :=
  [s.rd MGT_IDENT_domain, s.mgtMe, s.rd MGT_COORD_c0, s.rd MGT_COORD_c1, s.rd MGT_DECAY_rate, s.rd MGT_SAFE_safe]

/-- LEAVE to both coordinators under an identity. -/
def State.leaveAs (s : State) (i : List Nat) (reason : Nat) : State :=
  let d := i.getD 0 0
  let me := i.getD 1 0
  let b := mgtBody 8 [(16, 1, reason)]
  (s.mgtSendAs d me 0x05 (i.getD 2 0) s.mgtEpoch b).mgtSendAs d me 0x05 (i.getD 3 0) s.mgtEpoch b

/-- What a take does to Salgor. en, idents and allow0 are as before it; setAt and sole say what it writes. -/
def State.mgtTaken (s : State) (en : Bool) (idents : List Nat) (allow0 : Nat → Bool) (setAt sole : Bool) : State :=
  let now := s.flag MGT_CTL_en
  let cur := s.mgtIdents
  if en && !now then
    let s := if s.fwRunning 3 ∧ s.clocked 21 ∧ s.holdsRoles ∧ 2 ≤ s.rd MGT_STAT_state then s.leaveAs idents 0 else s
    s.mgtDetach
  else if !en && now then s.mgtAttach
  else if !now then s
  else
    let s := if idents ≠ cur ∧ s.flag MGT_STAT_bound then
        ((if s.mgtFw then s.leaveAs idents 1 else s).enterJoining).mgtSettle else s
    let s := s.mgtRename
    let s := if setAt ∧ s.isCoord ∧ s.rd MGT_DOM_AT ≠ 0 ∧ s.rd MGT_DOM_AT ≤ s.openTarget then
        s.emit 21 4 [s.rd MGT_DOM_AT % 2 ^ 32, s.openTarget % 2 ^ 32] else s
    let s := if sole ∧ s.mgtRole = 3 then (s.setMgt { s.mgt with sole := true, miss := 0 }).mgtSetRole 1 else s
    if s.mgtFw then (s.mgtRemovals allow0).mgtSettle else s

/-- A primary mirrors what a take has changed of Salgor (R370, R377). -/
def State.mirrorMgt (s : State) : State := (s.mirror 0x07 0 s.mgtBytes).mirror 0x07 4097 s.mgtAllow

/-- MGT_MSEL takes a snapshot of a member. -/
def State.snapMember (s : State) : State :=
  let x := if s.isCoord then s.mgtMem (s.rd MGT_MSEL_member) else { }
  ((s.wr MGT_MSNAP 0 x.w).wr MGT_MSNAP 1 x.safe).wr MGT_MSNAP 2 (x.rate % 256 + 256 * b2n x.joined + 512 * b2n x.silent)

/-! ### The meanings -/

def execMgtForward (link : Fin 64) (m : List Byte) (s : State) : Ans := hubOn (mgtForwardRow link m) s
def execVersion (link : Fin 64) (m : List Byte) (s : State) : Ans := hubOn (fun s => (mgtRow 0x01 link s.ts m s)) s
def execDemand (link : Fin 64) (m : List Byte) (s : State) : Ans := hubOn (fun s => (mgtRow 0x02 link s.ts m s)) s
def execGrant (link : Fin 64) (m : List Byte) (s : State) : Ans := hubOn (fun s => (mgtRow 0x03 link s.ts m s)) s
def execHeartbeat (link : Fin 64) (m : List Byte) (s : State) : Ans := hubOn (fun s => (mgtRow 0x04 link s.ts m s)) s
def execLeave (link : Fin 64) (m : List Byte) (s : State) : Ans := hubOn (fun s => (mgtRow 0x05 link s.ts m s)) s
def execCsync (link : Fin 64) (m : List Byte) (s : State) : Ans := hubOn (fun s => (mgtRow 0x06 link s.ts m s)) s
def execCsyncAck (link : Fin 64) (m : List Byte) (s : State) : Ans := hubOn (fun s => (mgtRow 0x07 link s.ts m s)) s
def execClapReq (link : Fin 64) (stamp : BitVec 64) (m : List Byte) (s : State) : Ans := hubOn (mgtRow 0x08 link stamp.toNat m) s
def execClapRsp (link : Fin 64) (stamp : BitVec 64) (m : List Byte) (s : State) : Ans := hubOn (mgtRow 0x09 link stamp.toNat m) s
def execClapRun (s : State) : Ans := hubOn clapRun s
def execClapRunEnd (s : State) : Ans := hubOn clapRunEnd s
def execEpochBoundary (s : State) : Ans := hubOn epochBoundary s
def execDemandSend (s : State) : Ans := hubOn demandSend s
def execSalgorCutOff (s : State) : Ans := hubOn salgorCutOff s
def execCsyncSend (s : State) : Ans := hubOn csyncSend s
def execGrantSend (s : State) : Ans := hubOn grantSend s
def execOrphanTimeout (s : State) : Ans := hubOn orphanTimeout s
def execVersionResend (s : State) : Ans := hubOn versionResend s
def execCoordinatorAlone (s : State) : Ans := hubOn coordinatorAlone s

end Sys2Proof.Machine
end

