-- ==== Sys2Proof/Machine/RegCmds.lean ====
section
/-!
DEFINITION. Machine/RegCmds.lean: accesses to the register window that have no row of their own, and the snapshot selects (R11, R204,
R267, R291, R317, R321, R363, R516, R535, R539, R542).
-/
namespace Sys2Proof.Machine

/-! ### Accesses (R535) -/

/-- A served access: privileged, aligned 32-bit or 64-bit. -/
def served (priv wide : Bool) (off : Nat) : Bool := priv && decide (off % (if wide then 8 else 4) = 0)

/-- The offsets of the words of an access. -/
def accessWords (wide : Bool) (off : Nat) : List Nat := if wide then [off, off + 4] else [off]

/-- The offset of a field's word. -/
def Fld.wordOff (f : Fld) : Nat := f.key / 32 * 4

/-! ### Snapshot selects -/

/-- TLY_OBJ shows a snapshot of the selected object (R267). -/
def State.snapObj (s : State) : State :=
  let x := mget s.tly.objs (s.rd TLY_OBJ_SEL_obj) { }
  let w0 := x.state + 4 * b2n x.admitted + 8 * b2n x.eligible + 16 * x.pool + 256 * x.gen + 65536 * x.tenant
  let w1 := x.engine + 256 * x.seq + 65536 * x.queue
  let w2 := x.amount + 4096 * x.slew + 16384 * b2n x.coll
  (((s.wr TLY_OBJ 0 w0).wr TLY_OBJ 1 w1).wr TLY_OBJ 2 w2).wr TLY_OBJ 3 (x.tState % 2 ^ 32)

/-- HIF_TRING_SNAP shows a snapshot of the selected entry in force (R317). -/
def State.snapRing (s : State) : State :=
  let e := s.tring (s.rd HIF_TRING_SEL_tenant)
  foldTo 16 s fun s k => s.wr HIF_TRING_SNAP k (bits e (32 * k) 32)

/-- The snapshot selects in the order of R542: tenant ring, context, object, account, member, and the edge of the wait-for graph. -/
def selField (sel : Nat) : Fld :=
  match sel with
  | 0 => HIF_TRING_SEL_tenant
  | 1 => LPE_CTX_SEL_ctx
  | 2 => TLY_OBJ_SEL_obj
  | 3 => ACT_ACC_SEL_idx
  | 4 => MGT_MSEL_member
  | _ => CNT_WFG_SEL_edge

/-- SNAPSHOT_SELECT: the select is written and the snapshot taken. -/
def snapshotSelect (sel : Fin 6) (v : BitVec 32) (s : State) : State :=
  let f := selField sel.val
  if !s.unitAnswers (unitOf f.wordOff) then s
  else
    let s := s.wr f 0 v.toNat
    match sel.val with
    | 0 => s.snapRing
    | 1 => s.snapCtx
    | 2 => s.snapObj
    | 3 => s.snapAcct
    | 4 => s.snapMember
    | _ => s.showEdge

/-! ### Sticky flags (R11) -/

/-- W1C_WRITE: again holds the bits that an event sets in the hub cycle of the write; they stay. -/
def w1cWrite (priv : Bool) (off : BitVec 22) (v again : BitVec 32) (s : State) : State :=
  let o := off.toNat
  if !served priv false o || !s.unitAnswers (unitOf o) then s
  else ((wordFlds o).filter fun x => decide (x.1.acc = .w1c)).foldl (fun s x =>
    let old := s.rd x.1 x.2
    let clear := x.1.ofWord x.2 o 0 (v &&& ~~~again).toNat
    s.wr x.1 x.2 (old ^^^ (old &&& clear))) s

/-! ### Settings written directly (R321) -/

/-- A word of a register that exists here with an RWT field. -/
def State.rwtHere (s : State) (o : Nat) : Bool :=
  s.unitAnswers (unitOf o) && (wordFlds o).any fun x => decide (x.1.acc = .rwt) && (s.isD || !dvfsOnly x.1)

/-- RWT_DIRECT_WRITE: ignored and counted. -/
def rwtDirectWrite (priv wide : Bool) (off : BitVec 22) (s : State) : State :=
  if !served priv wide off.toNat then s
  else match (accessWords wide off.toNat).find? s.rwtHere with
    | some o => ((s.bump SLT_RWT_count).wr SLT_RWT_offset 0 o).setSlt { s.slt with rwtMs := s.slt.rwtMs + 1 }
    | none => s

/-! ### Other writes (R539, R542) -/

/-- The RW registers without a row of their own: the steward ring's addresses, while it is disabled (R314), and GEN_SCRATCH. -/
def State.plainRw (s : State) (f : Fld) : Bool :=
  decide (f.key = GEN_SCRATCH_scratch.key)
    || (decide (f.key ∈ [HIF_SDESC_base.key, HIF_SCPL_base.key, HIF_SNOTIFY_addr.key]) && !s.flag HIF_SCTL_en)

/-- What a word written to a register without a row of its own stores: the low bits of the steward ring's addresses read 0 (R317). -/
def plainWord (o v : Nat) : Nat :=
  if 8 * o = HIF_SDESC_base.key ∨ 8 * o = HIF_SCPL_base.key then v - v % 2 ^ 12
  else if 8 * o = HIF_SNOTIFY_addr.key then v - v % 2 ^ 2
  else v

/-- REGISTER_WRITE: the write of a register without its own row stores its value; what is reserved, read-only or gated drops it, and a
register with a row of its own is that row's. -/
def registerWrite (priv wide : Bool) (off : BitVec 22) (v : BitVec 64) (s : State) : State :=
  let o := off.toNat
  if !served priv wide o then s
  else (accessWords wide o).foldl (fun s a =>
    if s.unitAnswers (unitOf a) then s.writeFlds s.plainRw a (plainWord a (bits v.toNat (8 * (a - o)) 32)) else s) s

/-! ### Reads (R535, R539) -/

/-- The register wider than 32 bits to which a word belongs, as its offset and its length in words. -/
def wideReg (o : Nat) : Option (Nat × Nat) :=
  ((wordFlds o).find? fun x => decide (32 < x.1.stride)).map fun x => (x.1.keyOf x.2 / x.1.stride * x.1.stride / 8, x.1.stride / 32)

/-- A master's latch of a word. -/
def latchKey (m o : Nat) : Nat := m * 2 ^ 22 + o

/-- A word as a master reads it: a higher word of a wide register from its latch where it holds one. -/
def State.latched (s : State) (m o : Nat) : Nat :=
  if s.unitAnswers (unitOf o) then (mfind s.hub.latch (latchKey m o)).getD (s.readWord o) else 0

/-- A 32-bit read of the lowest word of a wide register latches the rest for the master. -/
def State.latchRest (s : State) (m o : Nat) : State :=
  match wideReg o with
  | some (base, n) =>
    if base = o ∧ s.unitAnswers (unitOf o) then
      let put (l : SMap Nat) (k : Nat) : SMap Nat := mput l (latchKey m (o + 4 * (k + 1))) (s.readWord (o + 4 * (k + 1)))
      let l := (List.range (n - 1)).foldl put s.hub.latch
      { s with hub := { s.hub with latch := l } }
    else s
  | none => s

/-- REGISTER_LOW_WORD_READ: a read of the register window, answered with its data. A 64-bit read that starts at a register's lowest word
reads both words as they are. A read of the doorbell aperture, on the same port, is answered by R296. -/
def registerLowWordRead (aperture : Bool) (master : BitVec 8) (priv wide : Bool) (off : BitVec 22) (s : State) : State :=
  let o := off.toNat
  let m := master.toNat
  if aperture then (if wide then s.dbBadRead o else s.send (.dbData o (s.dbRead o)))
  else if !served priv wide o then s.send (.regData o 0)
  else if wide then
    let live := match wideReg o with | some (base, _) => decide (base = o) | none => true
    let word (a : Nat) : Nat := if live then s.readWord a else s.latched m a
    s.send (.regData o (word o + 2 ^ 32 * word (o + 4)))
  else
    let v := s.latched m o
    (s.latchRest m o).send (.regData o v)

/-! ### The meanings -/

def execSnapshotSelect (sel : Fin 6) (v : BitVec 32) (s : State) : Ans := hubOn (snapshotSelect sel v) s
def execW1cWrite (priv : Bool) (off : BitVec 22) (v again : BitVec 32) (s : State) : Ans := hubOn (w1cWrite priv off v again) s
def execRwtDirectWrite (priv wide : Bool) (off : BitVec 22) (s : State) : Ans := hubOn (rwtDirectWrite priv wide off) s
def execRegisterWrite (priv wide : Bool) (off : BitVec 22) (v : BitVec 64) (s : State) : Ans := hubOn (registerWrite priv wide off v) s
def execRegisterLowWordRead (aperture : Bool) (master : BitVec 8) (priv wide : Bool) (off : BitVec 22) (s : State) : Ans :=
  hubOn (registerLowWordRead aperture master priv wide off) s

end Sys2Proof.Machine
end

