-- ==== Sys2Proof/Machine/Check.lean ====
section
/-!
DEFINITION. Machine/Check.lean: the consistency check of a slate on the projected state (R323, R324) with every refusal that the
other chapters own.
-/
namespace Sys2Proof.Machine

/-! ### What a slate writes on this instance (R320) and the layers of R323 -/

/-- The shadow a take copies from a slate. HIF_TRING entries are a package role: the primary applies them (R320). -/
def State.shadowOf (s : State) (x : Slate) : Shadow :=
  { regs := s.linesHere x.regs, ctxs := s.linesHere x.ctxs, rings := if s.holdsRoles then x.rings else [],
    thm := if x.thm then some (s.stagedSet x) else none }

/-- The bits of CLK_EN that a take may write (R543). -/
def clkWritable (d : Bool) : List Nat := [10, 12, 18, 20, 21, 23] ++ (if d then [] else [22])

/-- CLK_EN after a take writes v over old: a fixed bit stays (R543). -/
def clkEnOf (d : Bool) (old v : Nat) : Nat := (clkWritable d).foldl (fun w k => setBit w k (bit v k)) old

/-- The offset of CLK_EN. -/
def clkEnOff : Nat := 0x4014

/-- Write the RWT fields of the word at o as a take does: fixed clock-enable bits stay. -/
def State.writeTaken (s : State) (o v : Nat) : State :=
  let v := if o = clkEnOff then clkEnOf s.isD (s.rd CLK_EN_en) v else v
  s.writeFlds (fun f => decide (f.acc = .rwt)) o v

/-- The trigger fields: each reads 0. -/
def triggerFlds : List Fld :=
  [CHK_FB_CTL_release, VRC_CTL_restart, VRC_CTL_unshed, THM_CTL_anc_rearm, MGT_CTL_sole, PAR_CTL_handover, PAR_CTL_sole, RST_START_go,
   RST_START_down, FW_CTL_restart, FAN_CTL_rearm]

def State.clearTriggers (s : State) : State := triggerFlds.foldl (fun s f => s.wr f 0 0) s

/-- One layer of the projected state (R323): settings, context configurations, ring entries and the thermal set. -/
def State.layer (s : State) (sh : Shadow) : State :=
  let s := s.clearTriggers
  let s := sh.regs.foldl (fun s e => s.writeTaken e.1 e.2) s
  let s := sh.ctxs.foldl (fun s e => s.setCtx e.1 { s.ctx e.1 with cfg := e.2 }) s
  let s := { s with hif := { s.hif with trings := sh.rings.foldl (fun m e => mput m e.1 e.2) s.hif.trings } }
  match sh.thm with
  | some m => { s with thm := { s.thm with pend := some m } }
  | none => s

/-- Layers 1 and 2 of R323: the state in force and every armed take, in order. -/
def State.layers12 (s : State) : State := (s.slt.jobs.filter TakeJob.armed).foldl (fun s j => s.layer j.sh) s

/-! ### Helpers -/

def lowest (l : List Nat) : Option Nat := l.foldl (fun m k => match m with | some j => some (min j k) | none => some k) none

def lowBad (n : Nat) (p : Nat → Bool) : Option Nat := (List.range n).find? p

/-! ### 0x0001: values that a field table refuses -/

/-- The ranges that the field tables state for single fields, lowest and highest value. -/
def fieldRanges : List (Fld × Nat × Nat) :=
  [(ACT_CAL_LIM_pct, 0, 100), (CHK_SLOPE_slope, 16, 8000), (CHK_DRP_CFG_hold, 16, 65535), (CHK_FB_CTL_holdoff, 100, 65535),
   (CHK_DVFS_CFG_retry, 1, 65535), (CHK_IMAX_imax, 1, 65535), (FCS_FF_IMAX_imax, 1, 0xFFFFFFFF), (FCS_LP_horizon, 1, 32),
   (FCS_PROMPT_gap, 20, 80), (FCS_CAL_lam, 1, 65535), (FCS_CORE_sallow, 0, 64), (VRC_CTL_trk, 0, 2), (VRC_VSET_vset, 2400, 3800),
   (VRC_SLEW_slew, 1, 4000), (VRC_VIN_vin, 20000, 64000), (VRC_LPH_lph, 160, 16000), (VRC_PWM_period, 3200, 12800)] ++
  [(VRC_OCP_PH_iph, 32, 4094), (VRC_OCP_PH_fold_min, 16, 255), (VRC_OCP_TOT_icont, 1, 2000), (VRC_OCP_TOT_ipeak, 1, 2800),
   (VRC_OCP_TRIP_itrip, 1, 4000), (VRC_OCP_TRIP_tpeak, 1, 1000), (VRC_OVP_level, 2800, 4800), (VRC_UV_margin, 10, 200),
   (VRC_UV_time, 1, 65535), (VRC_DE_dwell, 1, 255), (VRC_DE_zc_trim, 0x40, 0x80), (VRC_BRK_vf, 300, 1200), (VRC_TRK_vm_set, 1, 65535),
   (VRC_PH_CFG_min_ph, 72, 144), (VRC_DT_td_hl, 8, 255), (VRC_DT_td_lh, 8, 255)] ++
  [(PMB_CTL_speed, 0, 2), (PMB_CTL_retries, 0, 7), (PMB_POLL_period, 1, 255), (PMB_SEQ_core_grp, 0, 4), (PMB_GRP_t_on, 1, 255),
   (LPE_GUARD_fill_max, 0, 100), (THM_CTL_set, 0, 2), (THM_STEP_period, 5, 1000), (THM_STEP_catchup, 1, 8), (THM_ANC_persist, 1, 15),
   (THM_BAND_CFG_hyst, 1, 15), (THM_BAND_CFG_dwell, 1, 255), (THM_SHD_drain, 1, 255), (TLY_CFG_recall, 1, 65535),
   (TLY_CFG_quantum, 1, 1023), (TLY_POOL_age, 1, 65535), (TLY_POOL_rwait, 1, 65535), (TLY_AMT_amount, 1, 1023), (TLY_SLEW_step, 1, 64),
   (TLY_TEN_weight, 1, 255), (TLY_TEN_objmax, 0, 8192)] ++
  [(ACT_ACC_CTL_smax, 0x10, 0xFF), (ACT_ACC_CTL_deadband, 0, 50), (ACT_ACC_CTL_jobmax, 1, 64), (ACT_PKG_CAP_cap, 1, 0xFFFFFFFF),
   (HIF_QLIM_limit, 1, 255), (HIF_QLIM_leak, 1, 255), (HIF_LIM_inflight, 1, 256), (SLT_PAIR_lead, 5, 1000), (SLT_PAIR_timeout, 100, 65535),
   (MGT_TIM_cut, 100, 800), (MGT_TIM_ackw, 10, 250), (MGT_TIM_hb_miss, 2, 15), (MGT_TIM_orphan, 2, 15), (MGT_TIM2_gone, 8, 255),
   (MGT_DEM_weight, 1, 255), (MGT_DECAY_rate, 1, 255), (MGT_CLAP_n, 1, 15), (MGT_CLAP_period, 10, 65535), (PAR_CFG_loss, 2, 255),
   (PAR_CFG_ckpt, 1, 255), (PAR_CFG_rtx, 1, 255), (CLK_DVFS_CFG_vmargin, 4, 200), (CLK_OPP_F_mhz, 400, 2000)] ++
  [(RST_START_drain, 1, 255), (MEM_RATE_gap, 32, 255), (MEM_BT_period, 1, 1000), (FW_WDOG_wd0, 1, 255), (FW_WDOG_wd1, 1, 255),
   (FW_WDOG_wd2, 1, 255), (FW_WDOG_wd3, 1, 255), (CNT_WFG_CFG_stall, 1, 65535), (FAN_CFG_spin, 100, 65535), (FAN_CFG_tach_to, 5, 255),
   (FAN_CH_sduty, 1, 255)]

/-- The lowest element of a field outside its range, by the offset that R324 names. -/
def State.rangeBad (p : State) (r : Fld × Nat × Nat) : List Nat :=
  match lowBad r.1.count fun i => decide (p.rd r.1 i < r.2.1) || decide (r.2.2 < p.rd r.1 i) with
  | some i => [regOffset r.1 i]
  | none => []

def offIf (c : Bool) (f : Fld) (i : Nat := 0) : List Nat := if c then [regOffset f i] else []

/-- R394: gating that would stop work in force. -/
def State.gatingBad (p : State) : Bool :=
  (!p.clocked 12 && (p.flag FCS_CTL_fc_en || p.flag THM_CTL_run || p.flag ACT_CTL_cal_en))
  || (!p.clocked 10 && (((List.range 16).any fun r => p.flag PMB_RAIL_en r) || decide (p.rd VRC_CTL_trk ≠ 0)))
  || (!p.clocked 21 && p.flag MGT_CTL_en) || (!p.clocked 18 && decide (p.rd TRC_STAT_state = 1))
  || (!p.clocked 20 && (List.range 4).any fun n => p.flag FAN_CH_en n)

/-- SMB_CTL.addr: 0x00 to 0x0F, 0x28, 0x37, 0x61 and 0x78 to 0x7F are refused. -/
def smbAddrBad (a : Nat) : Bool := decide (a < 16) || decide (a = 0x28) || decide (a = 0x37) || decide (a = 0x61) || decide (0x78 ≤ a)

/-- The refusals of field tables that are no plain range; base is layers 1 and 2. A region's size is judged where the entry is
in use. -/
def State.tableBad (base p : State) : List Nat :=
  ((List.range 16).flatMap fun r =>
    offIf (decide (p.rd PMB_RAIL_addr r = 0x0C)) PMB_RAIL_addr r
    ++ offIf (p.flag PMB_RAIL_en r && decide (p.rd PMB_RAIL_target r = 0)) PMB_RAIL_target r
    ++ offIf ((p.flag PMB_RAIL_en r && decide (p.rd PMB_RAIL_pg_pct r = 0)) || decide (50 < p.rd PMB_RAIL_pg_pct r)) PMB_RAIL_pg_pct r)
  ++ offIf (p.flag MGT_CTL_en && decide (p.rd MGT_DOM_BUD_bud = 0)
      && decide (p.rd MGT_IDENT_member = p.rd MGT_COORD_c0 ∨ p.rd MGT_IDENT_member = p.rd MGT_COORD_c1)) MGT_CTL_en
  ++ offIf (p.flag MGT_CTL_sole && decide (p.rd MGT_STAT_role ≠ 3)) MGT_CTL_sole
  ++ offIf (decide (p.rd MGT_COORD_c0 = p.rd MGT_COORD_c1)) MGT_COORD_c1
  ++ offIf (decide (p.rd MGT_TIM_cut ≤ p.rd MGT_TIM2_dem + 254)) MGT_TIM2_dem
  ++ offIf (p.flag PAR_CTL_sole && !(p.isD && decide (p.rd PAR_STAT_state = 3) && decide (p.rd PAR_STAT_role = 1))) PAR_CTL_sole
  ++ offIf (p.isD && decide (50 < p.rd PAR_CTL_dmin)) PAR_CTL_dmin
  ++ offIf (decide (p.rd PAR_CFG_take < 2 * p.rd PAR_CFG_loss + 4)) PAR_CFG_take
  ++ offIf (decide (p.rd CLK_DVFS_LIM_max < p.rd CLK_DVFS_LIM_min)) CLK_DVFS_LIM_min
  ++ (match lowBad 8 fun i => decide (p.rd CLK_OPP_F_mhz i % 20 ≠ 0)
        || (decide (0 < i) && decide (p.rd CLK_OPP_F_mhz i ≤ p.rd CLK_OPP_F_mhz (i - 1))) with
      | some i => [regOffset CLK_OPP_F_mhz i]
      | none => [])
  ++ offIf p.gatingBad CLK_EN_en
  ++ (match lowBad 104 fun i => p.flag MEM_RGN_valid i && (decide (p.rd MEM_RGN_size i = 0) || decide (4096 < p.rd MEM_RGN_size i)) with
      | some i => [regOffset MEM_RGN_size i]
      | none => [])
  ++ offIf (smbAddrBad (p.rd SMB_CTL_addr)) SMB_CTL_addr
  ++ offIf (decide (p.rd TRC_WIN_BASE_base % 4096 ≠ 0)
      || (decide (p.rd TRC_STAT_state = 1) && decide (p.rd TRC_WIN_BASE_base ≠ base.rd TRC_WIN_BASE_base))) TRC_WIN_BASE_base
  ++ (let z := p.rd TRC_WIN_SIZE_size
      offIf ((decide (z ≠ 0) && (decide (z % 4096 ≠ 0) || decide (z < 2 ^ 16) || decide (2 ^ 32 < z)))
        || (decide (p.rd TRC_STAT_state = 1) && decide (z ≠ base.rd TRC_WIN_SIZE_size))) TRC_WIN_SIZE_size)
  ++ (List.range 4).flatMap fun n => offIf (p.flag FAN_CH_en n && decide (p.rd FAN_CH_min_rpm n = 0)) FAN_CH_min_rpm n

def State.check0001 (base p : State) : Option Nat := lowest (fieldRanges.flatMap p.rangeBad ++ State.tableBad base p)

/-! ### 0x0002 and 0x0003: the staged lines themselves -/

/-- Bits of a word that the maps reserve inside an entry kept here as one field. -/
def extraReserved (o : Nat) : Nat :=
  if 0x1D000 ≤ o ∧ o < 0x1F800 then 0x80808080
  else if 0x30100 ≤ o ∧ o < 0x30300 then 0xC0C0C0C0
  else if 0x55000 ≤ o ∧ o < 0x56000 then 0x40404040
  else if 0x56000 ≤ o ∧ o < 0x57000 then 0xFEFEFEFE
  else if o = 0x24210 ∨ o = 0x5406C then 0xFFFF0000
  else 0

/-- A staged register word has a non-zero reserved bit. -/
def reservedReg (o v : Nat) : Bool :=
  decide ((v % 2 ^ 32) &&& ((0xFFFFFFFF - wordCover o) ||| extraReserved o) ≠ 0)

/-- A staged context has a non-zero reserved bit (R176). -/
def reservedCtx (g : Nat) : Bool :=
  [bits g 35 5, bits g 43 5, bits g 56 8, bits g 80 16, bits g 114 14, bits g 146 14, bits g 178 14, bits g 480 32].any fun v => decide (v ≠ 0)

/-- A staged ring entry has a non-zero reserved bit (R294). -/
def reservedRing (e : Nat) : Bool := [bits e 201 7, bits e 224 32, bits e 384 128].any fun v => decide (v ≠ 0)

/-- Registers rank before contexts and contexts before ring entries (R323). -/
def check0002 (sh : Shadow) : Option Nat :=
  match lowest ((sh.regs.filter fun e => reservedReg e.1 e.2).map Prod.fst) with
  | some o => some o
  | none =>
    match lowest ((sh.ctxs.filter fun e => reservedCtx e.2).map Prod.fst) with
    | some n => some n
    | none => lowest ((sh.rings.filter fun e => reservedRing e.2).map Prod.fst)

/-- A staged register of a unit whose clock-enable bit is 0 in layers 1 and 2. -/
def State.check0003 (base : State) (sh : Shadow) : Option Nat :=
  lowest ((sh.regs.filter fun e => !base.clocked (unitOf e.1)).map fun e => unitOf e.1 * 0x4000)

/-! ### 0x0010 to 0x0020: chokers and forecasting -/

/-- R73. -/
def State.check0010 (p : State) : Option Nat :=
  lowBad 320 fun c => decide (p.rd CHK_ALLOW_droop c < p.rd CHK_ALLOW_floor c) || decide (64 < p.rd CHK_ALLOW_droop c)
    || decide (p.rd CHK_ALLOW_step_max c = 0) || decide (64 < p.rd CHK_ALLOW_step_max c) || decide (p.rd CHK_IMAX_imax c = 0)

/-- R260. -/
def State.check0011 (p : State) : Option Nat := lowBad 256 fun c => decide (p.rd CHK_ALLOW_floor c = 0)

/-- R112: a staged entry of FCS_TMAP names a slot that is FIT. -/
def State.check0020 (p : State) (sh : Shadow) : Option Nat :=
  lowest (sh.regs.flatMap fun e =>
    if 0x30100 ≤ e.1 ∧ e.1 < 0x30300 then
      ((List.range 4).map fun k => e.1 - 0x30100 + k).filter fun t =>
        decide (47 < p.rd FCS_TMAP t % 64) || decide (p.rd FCS_SLOT_state (p.rd FCS_TMAP t % 64) ≠ 2)
    else [])

/-! ### 0x0030 to 0x0040: regulator and rails -/

/-- R137: the operating points' targets; VRC_VSET and VRC_SLEW are field-table ranges. -/
def State.check0030 (p : State) : Option Nat :=
  (lowBad 8 fun i => decide (p.rd VRC_OPP_v i < 2400) || decide (3800 < p.rd VRC_OPP_v i)
    || (decide (0 < i) && decide (p.rd VRC_OPP_v i < p.rd VRC_OPP_v (i - 1)))).map fun i => regOffset VRC_OPP_v i

/-- R142. -/
def State.check0031 (p : State) : Option Nat :=
  lowBad 5 fun b => decide (p.rd VRC_PWM_period
    < 2 * (p.rd VRC_DT_td_hl b + p.rd VRC_DT_td_lh b + p.rd VRC_PWM_LIM_toff_min))

/-- R134. -/
def State.check0032 (p : State) : Option Nat :=
  lowBad 144 fun k => bit (p.rd VRC_PH_EN (k / 32)) (k % 32) && !bit (p.rd SNS_CTL_lane_en) (k / 8)

/-- R144. -/
def State.check0033 (p : State) : Option Nat := if p.rd VRC_DE_exit ≤ p.rd VRC_DE_enter then some 0 else none

/-- R149, R153: the orderings; the bounds by number are field-table ranges. -/
def State.check0034 (p : State) : Option Nat :=
  if p.rd VRC_OCP_TOT_ipeak < p.rd VRC_OCP_TOT_icont then some (regOffset VRC_OCP_TOT_ipeak 0)
  else if p.rd VRC_OCP_TRIP_itrip < p.rd VRC_OCP_TOT_ipeak then some (regOffset VRC_OCP_TRIP_itrip 0)
  else none

/-- R154: the highest target is VRC_VSET in Glatos S and the highest VRC_OPP in Glatos D. -/
def State.check0035 (p : State) : Option Nat :=
  let top := if p.isD then (List.range 8).foldl (fun m i => max m (p.rd VRC_OPP_v i)) 0 else p.rd VRC_VSET_vset
  if p.rd VRC_OVP_level < top + 200 then some 0 else none

/-- R138, R163: with a tracking mode the core group is one of 0 to 3 and the master an enabled rail of it. -/
def State.check0036 (p : State) : Option Nat :=
  let m := p.rd VRC_TRK_master
  if p.rd VRC_CTL_trk ≠ 0 ∧ (p.rd PMB_SEQ_core_grp = 4 ∨ !p.flag PMB_RAIL_en m ∨ p.rd PMB_RAIL_group m ≠ p.rd PMB_SEQ_core_grp) then some m
  else none

/-- Bit times of the bus clock in a millisecond. -/
def busBitsMs (speed : Nat) : Nat := [100, 400, 1000].getD speed 1000

/-- R163: the sweep needs 180 bit times per enabled rail and 40 more where it writes PAGE. -/
def State.sweepBits (p : State) : Nat :=
  sumTo 16 fun r => if p.flag PMB_RAIL_en r then 180 + (if p.rd PMB_RAIL_page r = 0xFF then 0 else 40) else 0

/-- R163: addresses, the sweep period (reported under rail 0), and changes of a rail that is not OFF or DISABLED. -/
def State.check0040 (base p : State) : Option Nat :=
  if p.rd PMB_POLL_period * busBitsMs (p.rd PMB_CTL_speed) < p.sweepBits then some 0
  else lowBad 16 fun r =>
    (p.flag PMB_RAIL_en r && (List.range 16).any fun q => decide (q ≠ r) && p.flag PMB_RAIL_en q
      && decide (p.rd PMB_RAIL_group q = p.rd PMB_RAIL_group r) && decide (p.rd PMB_RAIL_addr q = p.rd PMB_RAIL_addr r))
    || (decide (p.rd PMB_RAIL_STAT_state r ≠ 0) && decide (p.rd PMB_RAIL_STAT_state r ≠ 1)
      && [PMB_RAIL_addr, PMB_RAIL_page, PMB_RAIL_group, PMB_RAIL_en].any fun f => decide (p.rd f r ≠ base.rd f r))

/-! ### 0x0050 and 0x0051: loop contexts -/

/-- R185. -/
def State.check0050 (p : State) : Option Nat :=
  if 10485760 < sumN (p.lpe.ctxs.map fun x => if cKind x.2.cfg = 0 then 0 else 2 ^ (14 - cK x.2.cfg)) then some 0 else none

/-- The unit of a source (R177): 0 A, 1 W, 2 °C, 3 A/µs. -/
def srcUnit (code : Nat) : Nat :=
  if code = 0x04 ∨ code = 0x05 ∨ code = 0x06 ∨ code = 0x07 ∨ code = 0x0A then 1
  else if code = 0x08 then 2 else if code = 0x09 then 3 else 0

/-- How many indices a source takes (R177). -/
def srcCount (code : Nat) : Nat :=
  if code = 0x03 ∨ code = 0x06 ∨ code = 0x0D then 64 else if code = 0x08 ∨ code = 0x0A then 512 else if code = 0x0B then 4096 else 1

/-- A source word names a source with an index in its range; none only where it is allowed. -/
def srcOk (w : Nat) (none : Bool) : Bool :=
  if srcCode w = 0 then none && decide (srcIndex w = 0)
  else decide (srcCode w ≤ 0x0D) && decide (srcIndex w < srcCount (srcCode w))

/-- The unit of an input: a filter's signal has the unit of its own input; an OFF context's signal has none. -/
def State.inputUnit (p : State) : Nat → Nat → Option Nat
  | 0, _ => none
  | n + 1, w =>
    if srcCode w = 0x0B then
      let g := (p.ctx (srcIndex w)).cfg
      if cKind g = 0 then none else p.inputUnit n (cIn g)
    else some (srcUnit (srcCode w))

/-- R180: the unit of a set-point source, and how many indices it takes. -/
def spUnit (code : Nat) : Nat := if code = 0x21 then 0 else if code = 0x24 then 2 else 1
def spCount (code : Nat) : Nat := if code = 0x22 ∨ code = 0x24 then 512 else 1

/-- R191: the chain of signals from context n does not end at a source. -/
def State.chainLoops (p : State) : Nat → Nat → Bool
  | 0, _ => true
  | k + 1, n =>
    let g := (p.ctx n).cfg
    if cKind g = 2 ∧ srcCode (cIn g) = 0x0B then p.chainLoops k (srcIndex (cIn g)) else false

/-- R181: the range of dindex. -/
def dindexCount (dkind : Nat) : Nat := [320, 64, 16, 4, 1, 1, 1, 512].getD dkind 0

/-- R202 for a FILT context. -/
def State.filtBad (p : State) (n g : Nat) : Bool :=
  decide (cFail g ≠ 0) || decide (cClass g ≠ 0) || decide (cDkind g ≠ 0) || decide (cDindex g ≠ 0) || decide (cAlt g ≠ 0) || decide (cSp g ≠ 0)
  || decide (cSpc g ≠ 0) || decide (cKi g ≠ 0) || decide (cSlew g ≠ 0) || decide (cUmin g ≠ 0) || decide (cUmax g ≠ 0)
  || decide (cUsafe g ≠ 0) || decide (cFrzDu g ≠ 0)
  || !(lt32 0 (cKp g) && le32 (cKp g) f32One)
  || (decide (srcCode (cIn g) = 0x0B) && (decide (cKind (p.ctx (srcIndex (cIn g))).cfg ≠ 2) || p.chainLoops 4097 n))

/-- R202 for a PI context. -/
def State.piBad (p : State) (g : Nat) : Bool :=
  decide (4 < cClass g) || decide (7 < cDkind g) || decide (dindexCount (cDkind g) ≤ cDindex g)
  || (decide (cClass g = 4) != decide (cDkind g = 7))
  || !srcOk (cAlt g) true
  || decide (srcCode (cSp g) < 0x20) || decide (0x24 < srcCode (cSp g)) || decide (spCount (srcCode (cSp g)) ≤ srcIndex (cSp g))
  || (decide (srcCode (cSp g) ≠ 0x20) && (match p.inputUnit 4097 (cIn g) with
        | some u => decide (u ≠ spUnit (srcCode (cSp g)))
        | none => false))
  || [cSpc g, cKp g, cKi g, cSlew g, cUmin g, cUmax g, cUsafe g, cFrzDu g].any (fun v => !f32Finite v)
  || le32 (cSlew g) 0 || lt32 (cUmin g) 0 || lt32 f32One (cUmax g) || lt32 (cUmax g) (cUmin g)
  || lt32 (cUsafe g) (cUmin g) || lt32 (cUmax g) (cUsafe g)
  || (decide (1 ≤ cFrzN g) && decide (cFrzN g ≤ 3)) || (decide (cFrzN g ≠ 0) && le32 (cFrzDu g) 0)

/-- R202 for a context that is not OFF. -/
def State.ctxBad (p : State) (n g : Nat) : Bool :=
  decide (2 < cKind g) || decide (14 < cK g) || decide (2 ^ cK g ≤ cPhase g)
  || decide (cLossN g = 0) || decide (cOkN g = 0)
  || decide (cFail g = 3) || (decide (cFail g = 2) && decide (srcCode (cAlt g) = 0))
  || (cPred g && decide (srcCode (cIn g) ≠ 1 ∧ srcCode (cIn g) ≠ 2 ∧ srcCode (cIn g) ≠ 3))
  || !srcOk (cIn g) false
  || (if cKind g = 2 then p.filtBad n g else p.piBad g)

def State.check0051 (p : State) : Option Nat :=
  lowest ((p.lpe.ctxs.filter fun x => decide (cKind x.2.cfg ≠ 0) && p.ctxBad x.1 x.2.cfg).map Prod.fst)

/-! ### 0x0060 to 0x0063: the thermal unit (R210, R229) -/

/-- A finite bf16 word exactly, in units of 2^-133. -/
def bf16Exact (h : Nat) : Int :=
  let e := bits h 7 8
  let v : Int := ((if e = 0 then bits h 0 7 else (bits h 0 7 + 128) * 2 ^ (e - 1) : Nat) : Int)
  if bit h 15 then -v else v

def bf16Finite (h : Nat) : Bool := decide (bits h 7 8 ≠ 255)

/-- A row of the set fails R210. -/
def MSet.rowBad (m : MSet) (n : Nat) : Bool :=
  let a := (mget m.a n []).take 512
  let b := mget m.b n []
  if !(a.all bf16Finite && (b.take 256).all bf16Finite) then true
  else
    let sum := a.foldl (fun t h => t + bf16Exact h) 0
    let off := sum + bf16Exact (b.getD 81 0) - 2 ^ 133
    a.any (fun h => decide (bf16Exact h < 0)) || decide ((2 : Int) ^ 133 < sum) || decide ((2 : Int) ^ 126 < off)
      || decide (off < -((2 : Int) ^ 126)) || ((b.take 256).drop 87).any fun h => decide (h % 2 ^ 15 ≠ 0)

/-- R210: the rows by node, and the header's period under node 0, of the set that would be in force. -/
def State.check0060 (p : State) : Option Nat :=
  let m := p.thm.latest
  if m.period ≠ p.rd THM_STEP_period then some 0 else lowBad 512 m.rowBad

def State.check0061 (p : State) : Option Nat :=
  lowBad 4 fun g =>
    let warn := sgn 16 (p.rd THM_LVL_warn g)
    let thr := sgn 16 (p.rd THM_LVL_throttle g)
    let shd := sgn 16 (p.rd THM_LVL_shutdown g)
    let hyst := p.rd THM_LVL_hyst g
    decide (thr ≤ warn) || decide (shd ≤ thr) || decide (150 * 128 < shd) || decide (hyst = 0) || decide (thr - warn ≤ 8 * (hyst : Int))
      || decide (p.rd THM_LVL_rate g = 0)

def State.check0062 (p : State) : Option Nat :=
  let e := [p.rd THM_BAND_e1, p.rd THM_BAND_e2, p.rd THM_BAND_e3, p.rd THM_BAND_e4]
  lowBad 5 fun b => decide (bits (p.rd THM_BAND_CFG_refresh) (2 * b) 2 = 3) || (decide (2 ≤ b) && decide (e.getD (b - 1) 0 ≤ e.getD (b - 2) 0))

def State.check0063 (p : State) : Option Nat :=
  if p.rd THM_STG_limit ≤ p.rd THM_STG_warn ∨ p.rd THM_ANC_clamp = 0 ∨ p.rd THM_ANC_dmodel = 0 ∨ p.rd THM_ANC_dnb = 0 then some 0
  else lowBad 128 fun a =>
    [(THM_ANB_v0, THM_ANB_nb0), (THM_ANB_v1, THM_ANB_nb1), (THM_ANB_v2, THM_ANB_nb2), (THM_ANB_v3, THM_ANB_nb3)].any fun f =>
      p.flag f.1 a && decide (p.rd f.2 a = a)

/-! ### 0x0070 to 0x00A0: tallies, rings, pair -/

/-- R265: pool capacities are half amperes. -/
def State.check0070 (p : State) : Option Nat :=
  if 2 * p.rd VRC_OCP_TOT_icont < sumTo 16 fun k => p.rd TLY_POOL_cap k then some 0 else none

/-- R261, R265. -/
def State.check0071 (p : State) : Option Nat :=
  lowBad 256 fun c =>
    let a := p.rd TLY_PSEL_pool c
    let b := p.rd TLY_PSEL_cpool c
    decide (p.rd TLY_POOL_cap a = 0) || p.flag TLY_POOL_coll a || decide (p.rd TLY_POOL_cap b = 0) || !p.flag TLY_POOL_coll b

/-- R265: the tenant at which the running sum of objmax first exceeds 8,192. -/
def State.check0072 (p : State) : Option Nat :=
  ((List.range 512).foldl (fun (r : Nat × Option Nat) t =>
    let sum := r.1 + p.rd TLY_TEN_objmax t
    (sum, match r.2 with | some o => some o | none => if 8192 < sum then some (regOffset TLY_TEN_weight t) else none)) (0, none)).2

/-- R289: an owner above 511 does not fit the field; the other values are field-table ranges. -/
def State.check0080 (p : State) : Option Nat :=
  lowBad 4096 fun q => p.flag ACT_QOWN_valid q && decide (511 < p.rd ACT_QOWN_tenant q)

/-- R294 for a ring entry, with the entry before the take. -/
def ringBad (old e : Nat) : Bool :=
  bit e 200 && (decide (bits e 192 8 < 6) || decide (16 < bits e 192 8) || decide (bits e 0 12 ≠ 0) || decide (bits e 64 12 ≠ 0)
    || decide (bits e 128 2 ≠ 0) || decide (2 ^ 64 < bits e 256 64 + bits e 320 64)
    || (bit old 200 && decide ((bits e 0 128, bits e 192 8, bits e 256 128) ≠ (bits old 0 128, bits old 192 8, bits old 256 128))))

/-- R294; in Glatos D on the primary only (R324). -/
def State.check0090 (base p : State) : Option Nat :=
  if p.holdsRoles then lowest ((p.hif.trings.filter fun e => ringBad (mget base.hif.trings e.1 0) e.2).map Prod.fst) else none

def State.check00A0 (p : State) : Option Nat := if p.rd SLT_PAIR_timeout ≤ p.rd SLT_PAIR_lead then some 0 else none

/-! ### The check -/

/-- The first failure of an ordered list of checks. -/
def firstFail : List (Nat × Option Nat) → Option (Nat × Nat)
  | [] => none
  | (c, some o) :: _ => some (c, o)
  | (_, none) :: t => firstFail t

/-- The consistency check of R324: base is layers 1 and 2, p the projected state, sh what the slate stages here. -/
def checkAll (base p : State) (sh : Shadow) : Option (Nat × Nat) :=
  firstFail [(0x0001, State.check0001 base p), (0x0002, check0002 sh), (0x0003, base.check0003 sh), (0x0010, p.check0010),
    (0x0011, p.check0011), (0x0020, p.check0020 sh), (0x0030, p.check0030), (0x0031, p.check0031), (0x0032, p.check0032),
    (0x0033, p.check0033), (0x0034, p.check0034), (0x0035, p.check0035), (0x0036, p.check0036), (0x0040, State.check0040 base p),
    (0x0050, p.check0050), (0x0051, p.check0051), (0x0060, p.check0060), (0x0061, p.check0061), (0x0062, p.check0062),
    (0x0063, p.check0063), (0x0070, p.check0070), (0x0071, p.check0071), (0x0072, p.check0072), (0x0080, p.check0080),
    (0x0090, State.check0090 base p), (0x00A0, p.check00A0)]

/-- The check of a shadow on this instance (R323). -/
def State.checkShadow (s : State) (sh : Shadow) : Option (Nat × Nat) :=
  let base := s.layers12
  checkAll base (base.layer sh) sh

end Sys2Proof.Machine
end

