-- ==== Sys2Proof/Machine/Clock.lean ====
section
/-!
DEFINITION. Machine/Clock.lean: the frequency counter, the timestamp followers, outpost resets and the DVFS sequencer's commands (R384,
R392, R395 to R400, R405).
-/
namespace Sys2Proof.Machine

/-! ### The frequency counter (R395) -/

/-- The window of CLK_FM_CTL: 8 to 24, others act as 24. -/
def fmWin (w : Nat) : Nat := if 8 ≤ w ∧ w ≤ 24 then w else 24

/-- The cycles of an island's clock in eight timestamp units, by its code, where the manual fixes them: FAST, HUB, FW, SLOW and, in
Glatos S, the core clock (R382). -/
def fmRate (isD : Bool) (code : Nat) : Option Nat :=
  match code with
  | 1 => some 16
  | 2 => some 8
  | 3 => some 4
  | 4 => some 1
  | 5 => if isD then none else some 16
  | _ => none

/-- The reference's: code 0 is REFCLK. -/
def State.fmRef (s : State) : Option Nat :=
  if s.rd CLK_FM_CTL_ref = 0 then some 1 else fmRate s.isD (s.rd CLK_FM_CTL_ref)

/-- The measured clock's: code 0 is ROOT. -/
def State.fmMeas (s : State) : Option Nat :=
  if s.rd CLK_FM_CTL_meas = 0 then some 32 else fmRate s.isD (s.rd CLK_FM_CTL_meas)

/-- The window has lasted its cycles of the reference, where the manual's clocks say how long that is. -/
def State.fmOver (s : State) : Bool :=
  match s.fmRef with
  | some r => decide (2 ^ fmWin (s.rd CLK_FM_CTL_win) * 8 ≤ (s.ts - s.hub.fmT) * r)
  | none => true

/-- FM_START: a write of CLK_FM_CTL with start set. -/
def fmStart (v : BitVec 32) (s : State) : State :=
  if !s.running then s else
  let w := v.toNat
  let s := ((s.wr CLK_FM_CTL_meas 0 (bits w 0 6)).wr CLK_FM_CTL_ref 0 (bits w 6 6)).wr CLK_FM_CTL_win 0 (bits w 12 5)
  let s := s.wr CLK_FM_CTL_idx 0 (bits w 17 7)
  if bit w 24 then
    { (s.wr CLK_FM_CNT_count 0 0).wr CLK_FM_CNT_done 0 0 with hub := { s.hub with fm := true, fmT := s.ts } }
  else s

/-- The edges counted: a code that names no clock counts 0, and where both clocks are the root's the count is exact to one edge. -/
def State.fmCount (s : State) (edges : Nat) : Nat :=
  if 10 < s.rd CLK_FM_CTL_meas then 0
  else
    match s.fmMeas, s.fmRef with
    | some m, some r =>
      let n := 2 ^ fmWin (s.rd CLK_FM_CTL_win) * m / r
      max (n - 1) (min (n + 1) edges)
    | _, _ => edges

/-- FM_DONE: the window ends with the edges counted, asserted by the command. -/
def fmDone (edges : BitVec 31) (s : State) : State :=
  if s.hub.fm && s.fmOver then
    { (s.wr CLK_FM_CNT_count 0 (s.fmCount edges.toNat)).wr CLK_FM_CNT_done 0 1 with hub := { s.hub with fm := false } }
  else s

/-! ### Followers (R383, R384) -/

/-- TS_RESYNC: at a multiple of 1,024 units each follower's difference from the master, by its island, asserted by the command. -/
def tsResync (found : List (Fin 8 × BitVec 32)) (s : State) : State :=
  if !s.running || s.ts % 1024 ≠ 0 then s else
  found.foldl (fun s f =>
    if 1 < f.2.toNat ∧ f.1.val ≠ 2 then (s.bump CLK_TS_STAT_resync).emitLim 1 4 0 msT [f.1.val, f.2.toNat] else s) s

/-! ### Outpost resets (R392, R405) -/

/-- The CMD groups that an engine lane still holds are dropped (R513). -/
def State.dropCmds (s : State) (k : Nat) : State :=
  let s := (mget s.trc.cmdQ k []).foldl (fun s g => s.dropGroup g) s
  { s with trc := { s.trc with cmdQ := mdel s.trc.cmdQ k } }

/-- CORE_RST asserts. -/
def State.coreReset (s : State) (c : Nat) : State :=
  let s := (s.setCore c { s.core c with reset := true, cycles := 0, cycT := s.ts }).setLn c false
  let s := foldTo 4 s fun s e =>
    let k := chokerOf c e
    let s := (s.freeObjs (s.laneObjs k)).dropCmds k
    let s := { s with sns := { s.sns with acts := mdel s.sns.acts k } }
    (((s.setLane k { }).chokerLost k).showHeld k)
  let was := s.dieDroop
  let s := s.setDroop c { s.droop c with cmp := 0, orOut := false, hold := false }
  if was && !s.dieDroop then { s with dvfs := { s.dvfs with clearT := s.ts } } else s

/-- LINK_RST asserts: the counts of the partial tick are discarded. -/
def State.linkReset (s : State) (l : Nat) : State :=
  let s := { s with hub := { s.hub with linkUp := mput s.hub.linkUp l false },
                    cntPend := mdel (mdel s.cntPend (cntLink l 0)) (cntLink l 1) }
  foldTo 4 s fun s e => s.chokerLost (256 + 4 * l + e)

/-- OUTPOST_RESET: the indication of a core, or of one of the 16 link groups, asserts. -/
def outpostReset (link : Bool) (n : Fin 64) (s : State) : State :=
  if !s.running then s
  else if link then
    if n.val < 16 ∧ mget s.hub.linkUp n.val false then (s.linkReset n.val).emit 1 3 [6, 3] else s
  else if (s.core n).reset then s
  else (s.coreReset n).emit 1 3 [5, 3]

/-- OUTPOST_RELEASE: the indication negates. -/
def outpostRelease (link : Bool) (n : Fin 64) (s : State) : State :=
  if !s.running then s
  else if link then
    if n.val < 16 then { s with hub := { s.hub with linkUp := mput s.hub.linkUp n.val true } } else s
  else if (s.core n).reset then (s.setCore n { s.core n with reset := false, cycT := s.ts }).newCmp n 0 0 0 else s

/-! ### The DVFS sequencer (R88, R397, R398) -/

/-- DVFS_REQUEST: FP0 names a target point. -/
def dvfsRequest (target : Fin 8) (s : State) : State :=
  if s.isD && s.fwRunning 0 then ({ s with dvfs := { s.dvfs with wanted := target.val } }).dvfsNext else s

/-- DVFS_VOLTAGE_READY: the settle time has passed since Up 1 ended. -/
def dvfsVoltageReady (s : State) : State :=
  match s.dvfs.reachT with
  | none => s
  | some t =>
    if s.isD ∧ s.rd CLK_DVFS_STAT_stage = 1 ∧ t + s.rd CLK_DVFS_CFG_settle * usT ≤ s.ts then s.wr CLK_DVFS_STAT_stage 0 2 else s

/-- Bring the cycles of a core's droop hold up to this instant (R81). -/
def State.countQuiet (s : State) (c : Nat) : State :=
  s.setDroop c { s.droop c with quiet := s.quietCycles c, quietT := s.ts }

/-- The frequency switch cycle: the idle half drives the core clock of all 64 cores, the other is idle and parks. -/
def State.dvfsFlip (s : State) (p : Nat) : State :=
  let s := foldTo 64 (foldTo 64 s State.countCycles) State.countQuiet
  let d := s.dvfs
  let s := { s with dvfs := { d with mhz := d.idleMHz } }
  ((s.wr CLK_DVFS_STAT_point 0 p).wr CLK_DVFS_STAT_half 0 (s.rd CLK_DVFS_STAT_half + 1)).dvfsPark

/-- DVFS_SWITCH: the first core cycle at which the idle half is locked, asserted by the command, and the voltage is ready. -/
def dvfsSwitch (s : State) : State :=
  if !s.isD then s else
  let st := s.rd CLK_DVFS_STAT_stage
  let p := s.rd CLK_DVFS_STAT_point
  let d := s.dvfs
  if st = 2 ∧ !d.switchOff then
    ((s.dvfsFlip d.step).wr CLK_DVFS_STAT_stage 0 0).wr CLK_DVFS_STAT_target 0 s.dvfsClamped
  else if st = 3 then (((s.dvfsFlip d.step).wr CLK_DVFS_STAT_stage 0 4).dvfsLower p d.step d.stepV).dvfsSettle
  else if st = 5 ∧ p ≠ 0 ∧ s.flag CLK_DVFS_STAT_parked then
    ((s.dvfsFlip 0).dvfsLower p 0 (s.rd VRC_OPP_v 0)).dvfsSettle
  else s

/-- DVFS_HALF_PARKED: the idle half has locked at point 0's frequency; the next step may start. -/
def dvfsHalfParked (s : State) : State :=
  let st := s.rd CLK_DVFS_STAT_stage
  if s.isD ∧ !s.flag CLK_DVFS_STAT_parked ∧ (st = 0 ∨ st = 4 ∨ st = 5) then (s.wr CLK_DVFS_STAT_parked 0 1).dvfsNext else s

/-- DVFS_LOCK_TIMEOUT: 20 µs have passed without the lock, asserted by the command. A step before its switch is abandoned for 1 ms;
a half that fails to park begins again. -/
def dvfsLockTimeout (s : State) : State :=
  let d := s.dvfs
  if s.isD ∧ !s.flag CLK_DVFS_STAT_parked ∧ d.lockT + 20 * usT ≤ s.ts then
    let st := s.rd CLK_DVFS_STAT_stage
    let s := (s.bump CLK_DVFS_STAT_lockfail).emit 1 5 [1 - s.rd CLK_DVFS_STAT_half, d.idleMHz]
    if 1 ≤ st ∧ st ≤ 3 then
      let s := { s with dvfs := { d with retryT := s.ts + msT, barred := (s.rd CLK_DVFS_STAT_point, d.step), deferred := d.deferred && !d.switchOff } }
      (s.wr CHK_DVFS_STAT_deferred 0 (b2n s.dvfs.deferred)).dvfsDrop
    else s.dvfsPark
  else s

/-- DVFS_RETRY: droop has been clear for CHK_DVFS_CFG.retry µs and a deferred step resumes (R88), or the millisecond after an
abandoned step is over (R398). -/
def dvfsRetry (s : State) : State :=
  if !s.isD then s else
  let d := s.dvfs
  if d.deferred then
    if !s.dieDroop ∧ d.clearT + s.rd CHK_DVFS_CFG_retry * usT ≤ s.ts then
      let s := { s with dvfs := { d with deferred := false, switchOff := false, vHeld := false } }
      ((s.wr CHK_DVFS_STAT_deferred 0 0).dvfsSettle).dvfsNext
    else s
  else s.dvfsNext

def execFmStart (v : BitVec 32) (s : State) : Ans := hubOn (fmStart v) s
def execFmDone (edges : BitVec 31) (s : State) : Ans := hubOn (fmDone edges) s
def execTsResync (found : List (Fin 8 × BitVec 32)) (s : State) : Ans := hubOn (tsResync found) s
def execOutpostReset (link : Bool) (n : Fin 64) (s : State) : Ans := hubOn (outpostReset link n) s
def execOutpostRelease (link : Bool) (n : Fin 64) (s : State) : Ans := hubOn (outpostRelease link n) s
def execDvfsRequest (target : Fin 8) (s : State) : Ans := hubOn (dvfsRequest target) s
def execDvfsVoltageReady (s : State) : Ans := hubOn dvfsVoltageReady s
def execDvfsSwitch (s : State) : Ans := hubOn dvfsSwitch s
def execDvfsHalfParked (s : State) : Ans := hubOn dvfsHalfParked s
def execDvfsLockTimeout (s : State) : Ans := hubOn dvfsLockTimeout s
def execDvfsRetry (s : State) : Ans := hubOn dvfsRetry s

end Sys2Proof.Machine
end

