-- ==== Sys2Proof/Machine/Fan.lean ====
section
/-!
DEFINITION. Machine/Fan.lean: the cooling channels (R517 to R526).
-/
namespace Sys2Proof.Machine

def State.fan (s : State) (n : Nat) : Fan := mget s.fans n { }
def State.setFan (s : State) (n : Nat) (x : Fan) : State := { s with fans := mput s.fans n x }

/-- The state a channel is in, or will be from the next period start. -/
def State.fanEff (s : State) (n : Nat) : Nat := (s.fan n).next.getD (s.rd FAN_STAT_state n)

/-- A state from the next period start on (R520). -/
def State.fanGo (s : State) (n st : Nat) : State := s.setFan n { s.fan n with next := some st }

/-! ### The deficit (R523) -/

/-- The deficit of a channel in a state, binary32. -/
def State.fanDeficit (s : State) (n st : Nat) : Nat :=
  let i (x : Nat) : Nat := f32Of x 0
  let m := s.rd FAN_CH_min_rpm n
  let rpm := if st = 5 ∨ st = 6 then 0 else s.rd FAN_STAT_rpm n
  if st = 0 ∨ m = 0 then 0
  else mul32 (i (s.rd FAN_CH_cap n)) (clamp32 (div32 (sub32 (i m) (i rpm)) (i m)) 0 f32One)

/-- Update the deficit. -/
def State.fanDefIn (s : State) (n st : Nat) : State :=
  let d := s.fanDeficit n st
  (s.setFan n { s.fan n with deficit := d }).wr FAN_DEF_deficit n (satU 32 (f32ToFix 3 d))

/-- By its state; a channel that a take has disabled has none from that hub cycle on (R524). -/
def State.fanDef (s : State) (n : Nat) : State := s.fanDefIn n (if s.fanEff n = 0 then 0 else s.rd FAN_STAT_state n)

/-! ### Duty (R517, R518, R524) -/

/-- FAN_BAND of a channel for a band. -/
def State.fanBand (s : State) (n band : Nat) : Nat :=
  s.rd (match band with | 0 => FAN_BAND_d0 | 1 => FAN_BAND_d1 | 2 => FAN_BAND_d2 | 3 => FAN_BAND_d3 | _ => FAN_BAND_d4) n

def State.fanSelected (s : State) (n : Nat) : Nat :=
  if s.flag FAN_OVR_valid n then s.rd FAN_OVR_duty n else max (s.rd FAN_CH_dmin n) (s.fanBand n (s.rd THM_STAT_band))

/-- The duty of a state; after a thermal shutdown 255 in any state but OFF. -/
def State.fanDuty (s : State) (n st : Nat) : Nat :=
  if st = 0 then 0
  else if s.flag THM_STAT_shut then 255
  else if st = 2 then 0
  else if st = 3 ∨ st = 4 then s.fanSelected n
  else s.rd FAN_CH_sduty n

/-- FAN_PWM_PERIOD: a change of state applies, and the duty. -/
def fanPwmPeriod (n : Fin 4) (s : State) : State :=
  if !s.running || !s.clocked 20 || decide (s.ts % 32000 ≠ 0) then s
  else
    let old := s.rd FAN_STAT_state n
    let f := s.fan n
    let s := match f.next with
      | some st =>
        let fresh := decide (st = 1) && decide (old ≠ 2)
        let f := { f with next := none, since := s.ts, good := 0, tries := if fresh then 0 else f.tries,
                          lastEdge := if old = 0 then s.ts else f.lastEdge }
        let s := (s.setFan n f).wr FAN_STAT_state n st
        (s.wr FAN_STAT_tries n (min 15 f.tries)).fanDef n
      | none => s
    let st := s.rd FAN_STAT_state n
    let d := s.fanDuty n st
    (s.wr FAN_STAT_duty n d).send (.fanPwm n (if st = 0 then 4000 else roundNEN (4000 * d) 255))

/-! ### Measurements (R519, R520, R522) -/

/-- RUN is left. -/
def State.fanOut (s : State) (n st : Nat) : State :=
  if s.fanEff n = 3 then (s.setFan n { s.fan n with outT := s.ts }).fanGo n st else s.fanGo n st

/-- RUN is reached from SLOW or LOST. -/
def State.fanRestore (s : State) (n : Nat) : State :=
  (s.fanGo n 3).emit 20 5 [n, s.rd FAN_STAT_rpm n, roundNEN (s.ts - (s.fan n).outT) msT]

/-- The tach is lost in RUN or SLOW; last is the rpm before. -/
def State.fanLost (s : State) (n last : Nat) : State :=
  let s := s.fanOut n 5
  (s.setFan n { s.fan n with good := 0 }).emit 20 3 [n, last, s.rd FAN_STAT_duty n]

/-- Judge a measurement. -/
def State.fanJudge (s : State) (n last : Nat) : State :=
  let st := s.fanEff n
  let rpm := s.rd FAN_STAT_rpm n
  let m := s.rd FAN_CH_min_rpm n
  if (st = 3 ∨ st = 4) ∧ rpm = 0 then s.fanLost n last
  else if st = 3 ∧ rpm < m then (s.fanOut n 4).emitLim 20 4 n secT [n, rpm, m]
  else if st = 4 ∧ m ≤ rpm then s.fanRestore n
  else if st = 5 then
    let g := if m ≤ rpm then (s.fan n).good + 1 else 0
    let s := s.setFan n { s.fan n with good := g }
    if 2 ≤ g then s.fanRestore n else s
  else s

/-- A measurement of n SLOW cycles. -/
def State.fanMeasure (s : State) (n cycles : Nat) : State :=
  let last := s.rd FAN_STAT_rpm n
  let rpm := if cycles = 0 then 65535 else min 65535 (roundNEN 6000000000 cycles)
  ((s.wr FAN_STAT_rpm n rpm).fanJudge n last).fanDef n

/-- TACH_EDGE: a filtered falling edge; the first of all closes no measurement (log entry 33). -/
def tachEdge (n : Fin 4) (s : State) : State :=
  if !s.running || !s.clocked 20 then s
  else
    let f := { s.fan n with lastEdge := s.ts }
    match f.mark with
    | none => s.setFan n { f with mark := some s.ts, edges := 0 }
    | some t =>
      if f.edges + 1 < s.rd FAN_CH_ppr n + 1 then s.setFan n { f with edges := f.edges + 1 }
      else (s.setFan n { f with edges := 0, mark := some s.ts }).fanMeasure n (s.ts / 8 - t / 8)

/-- TACH_TIMEOUT: no edge for tach_to × 10 ms. -/
def tachTimeout (n : Fin 4) (s : State) : State :=
  let last := s.rd FAN_STAT_rpm n
  if !s.running || !s.clocked 20 || decide (s.ts < (s.fan n).lastEdge + s.rd FAN_CFG_tach_to * 10 * msT) then s
  else ((s.wr FAN_STAT_rpm n 0).fanJudge n last).fanDef n

/-! ### Attempts (R521) -/

def State.fanSpinT (s : State) : Nat := s.rd FAN_CFG_spin * msT

/-- FAN_SPINUP_END. -/
def fanSpinupEnd (n : Fin 4) (s : State) : State :=
  let f := s.fan n
  if !s.running || !s.clocked 20 || decide (s.rd FAN_STAT_state n ≠ 1) || f.next.isSome || decide (s.ts < f.since + s.fanSpinT) then s
  else if s.rd FAN_CH_min_rpm n ≤ s.rd FAN_STAT_rpm n then s.fanGo n 3
  else
    let tries := f.tries + 1
    let s := (s.setFan n { f with tries := tries }).wr FAN_STAT_tries n (min 15 tries)
    let s := s.emit 20 1 [n, tries, s.rd FAN_STAT_rpm n]
    if tries ≤ s.rd FAN_CFG_retries then s.fanGo n 2 else (s.fanGo n 6).emit 20 2 [n, tries]

/-- FAN_REST_END. -/
def fanRestEnd (n : Fin 4) (s : State) : State :=
  let f := s.fan n
  if !s.running || !s.clocked 20 || decide (s.rd FAN_STAT_state n ≠ 2) || f.next.isSome || decide (s.ts < f.since + s.fanSpinT) then s
  else s.fanGo n 1

/-! ### Takes (R520, R524) -/

/-- What a take does to a channel: en was its enable before, rearm its bit of FAN_CTL.rearm. -/
def State.fanTaken (s : State) (n : Nat) (en rearm : Bool) : State :=
  let now := s.flag FAN_CH_en n
  if !en && now then s.fanGo n 1
  else if en && !now then (s.fanGo n 0).fanDefIn n 0
  else if rearm && decide (s.rd FAN_STAT_state n = 6) then (s.fanGo n 1).fanDef n
  else s.fanDef n

/-! ### The meanings -/

def execFanPwmPeriod (n : Fin 4) (s : State) : Ans := hubOn (fanPwmPeriod n) s
def execTachEdge (n : Fin 4) (s : State) : Ans := hubOn (tachEdge n) s
def execTachTimeout (n : Fin 4) (s : State) : Ans := hubOn (tachTimeout n) s
def execFanSpinupEnd (n : Fin 4) (s : State) : Ans := hubOn (fanSpinupEnd n) s
def execFanRestEnd (n : Fin 4) (s : State) : Ans := hubOn (fanRestEnd n) s

end Sys2Proof.Machine
end

