-- ==== Sys2Proof/Machine/Pair.lean ====
section
/-!
DEFINITION. Machine/Pair.lean: the pair bridge of Glatos D, roles, mirroring and checkpoints, loss and takeover (R364 to R379).
-/
namespace Sys2Proof.Machine

/-! ### Records received (R367, R370) -/

/-- A ring's mirrored indices. Completions the primary has been seen to write leave the list, with their headers. -/
def State.applyIdx (s : State) (r : Nat) (d : List Byte) : State :=
  let u (o : Nat) : Nat := fieldAt d o 4
  let known := (mfind s.hif.rings r).isSome
  let x := s.ring r
  let n := if known then sub32w (u 8) x.cqTail else 0
  let mine := (s.par.cpls.filter fun c => decide (c.ring = r)).take n
  let s := s.setPar { s.par with cpls := s.par.cpls.filter (fun c => !decide (c ∈ mine)),
                                 hdrs := mine.foldl (fun m c => mdel m (r * 2 ^ 32 + c.idx)) s.par.hdrs }
  let later (a b : Nat) : Nat := if known && laterSer a b 32 then a else b
  s.setRing r { x with prod := later x.prod (u 0), fetch := u 4, cqTail := u 8, cqHead := later x.cqHead (u 12) }

/-- A ring's entry, agreement and state. -/
def State.applyEntry (s : State) (r : Nat) (d : List Byte) : State :=
  let e := fieldAt d 0 64
  let s := if r < 512 then { s with hif := { s.hif with trings := mput s.hif.trings r e } }
    else
      let s := ((s.wr HIF_SDESC_base 0 (eDesc e)).wr HIF_SCPL_base 0 (eCpl e)).wr HIF_SNOTIFY_addr 0 (eNotify e)
      (s.wr HIF_SCTL_size 0 (eSize e)).wr HIF_SCTL_en 0 (b2n (eEn e))
  let s := s.setRing r { s.ring r with ver := fieldAt d 64 1, agreed := decide (fieldAt d 65 1 = 1), feat := fieldAt d 72 8 }
  s.setRState r (fieldAt d 66 1)

/-- A job record; the counts it is measured against are this instance's own. -/
def State.applyJob (s : State) (n : Nat) (d : List Byte) : State :=
  let u (k : Nat) : Nat := fieldAt d (8 * k) 8
  s.setJob n { state := u 0, gen := u 1, acct := u 2, tenant := u 3, b0 := u 4, v0 := u 5, b1 := u 6, gap := decide (u 7 = 1),
               clamp0 := s.acc.clamps, fill0 := s.acc.fill }

/-- Salgor's state; domain time is the primary's, offset by theta (R369). -/
def State.applyMgt (s : State) (d : List Byte) : State :=
  let u (k : Nat) : Nat := fieldAt d (8 * k) 8
  let th : Int := sgn 64 (s.rd PAR_OFS)
  let n := 26 + mgtFlds.length
  let pairs := (List.range ((d.length / 8 - n) / 2)).map fun k => (u (n + 2 * k), u (n + 1 + 2 * k))
  let s := foldTo mgtFlds.length s fun s k => s.wr (mgtFlds.getD k MGT_CTL_en) 0 (u (26 + k))
  let s := (((s.wr MGT_STAT_state 0 (u 0)).wr MGT_STAT_role 0 (u 1)).wr MGT_STAT_bound 0 (u 2)).wr MGT_STAT_ready 0 (u 3)
  let s := (((s.wr MGT_STAT_missed 0 (u 4)).wr MGT_STAT_term 0 (u 5)).wr MGT_BUD_bud 0 (u 6)).wr MGT_EPOCH 0 (u 7)
  let s := s.setMgt { s.mgt with
      ofs := sgn 64 (u 8) + th, rate := sgn 32 (u 9), tc := ((u 10 : Int) - th / 256).toNat, tx := u 11,
      started := decide (u 12 = 1), safe := u 13, rateD := u 14, reqSafe := u 15, reqRate := u 16, hbE := u 17, alloc := u 18,
      sentC := u 19, sentG := u 19, sole := decide (u 20 = 1), cT := u 21, tim := u 22, tim2 := u 23,
      join := if u 24 = 0 then none else some (u 24 - 1, u 25), slots := pairs.foldl (fun m e => mput m e.1 e.2) [] }
  { s.showOfs with acc := { s.acc with domBud := if u 12 = 1 then some (u 6) else none } }

/-- The members the steward allows. -/
def State.applyAllow (s : State) (d : List Byte) : State :=
  foldTo 4096 s fun s i => s.wr MGT_MEMB i (b2n (bit (fieldAt d (i / 8) 1) (i % 8)))

def State.applyMember (s : State) (i : Nat) (d : List Byte) : State :=
  let u (k : Nat) : Nat := fieldAt d (8 * k) 8
  let x : MgtMem := {
    joined := decide (u 0 = 1), w := u 1, lo := u 1, safe := u 2, rate := u 3,
    fresh := decide (u 4 = 1), heard := u 5, silent := decide (u 6 = 1), join := if u 7 = 0 then none else some (u 7 - 1, u 8, u 9, u 10) }
  s.setMgt { s.mgt with mem := mput s.mgt.mem i x }

/-- A slate's state, or staged units of it. -/
def State.applySlate (s : State) (k : Nat) (d : List Byte) : State :=
  let x := s.slate k
  if fieldAt d 0 1 = 0 then
    let st := fieldAt d 1 1
    (s.setSlateRaw k (if st = 0 then { gen := fieldAt d 2 2 } else { x with state := st, gen := fieldAt d 2 2 })).showSlates
  else
    let table := fieldAt d 1 1
    let idx := fieldAt d 2 4
    let bs := d.drop 6
    let unit := ((tableShape table).getD (4, 0)).1
    let i := if table ≤ 4 then idx % 2 ^ 20 else idx
    (s.setSlateRaw k (x.stageAll table (if table ≤ 4 then idx / 2 ^ 20 % 4 else 0) i unit (bs.length / unit) bs)).showSlates

/-- A split ledger's entry waits for the next reconciliation (R376). -/
def State.applyLedgerRec (s : State) (idx : Nat) (d : List Byte) : State :=
  s.setPar { s.par with add := mput s.par.add idx (mget s.par.add idx 0 + fieldAt d 0 8), added := s.par.added + fieldAt d 0 8 }

/-- One record. Object 0x06 has the caps in force at indices 0 to 511, the steward's from 512, the package budget at 1024 and the
package cap at 1025 (log entry 175). -/
def State.applyRec (s : State) (obj idx : Nat) (d : List Byte) : State :=
  match obj with
  | 0x01 => s.applyIdx idx d
  | 0x02 => s.setPar { s.par with hdrs := mput s.par.hdrs (idx * 2 ^ 32 + fieldAt d 0 4) (fieldAt d 8 8) }
  | 0x03 => s.setPar { s.par with cpls := s.par.cpls ++ [{ ring := idx, idx := fieldAt d 0 4, image := d.drop 4 }] }
  | 0x04 =>
    let v := fieldAt d 0 8
    { s with acc := if idx < 512 then { s.acc with tenants := mput s.acc.tenants idx v }
                    else { s.acc with queues := mput s.acc.queues (idx - 512) v } }
  | 0x05 => s.applyJob idx d
  | 0x06 =>
    let v := fieldAt d 0 4
    if idx < 512 then s.wr ACT_TCAP idx v
    else if idx < 1024 then s.wr ACT_TSET (idx - 512) v
    else if idx = 1024 then (s.setPar { s.par with p := v }).wr ACT_PKG_BUD 0 v
    else s.wr ACT_PKG_CAP_cap 0 v
  | 0x07 => if idx = 0 then s.applyMgt d else if idx = 4097 then s.applyAllow d else s.applyMember (idx - 1) d
  | 0x08 => s.applyEntry idx d
  | 0x09 => s.applySlate idx d
  | 0x0A => s.applyLedgerRec idx d
  | _ => s

/-- The records of a body, at most n of them: object, index and data. -/
def recsOf : Nat → List Byte → List (Nat × Nat × List Byte)
  | 0, _ => []
  | n + 1, b =>
    let len := fieldAt b 6 2
    if b.length < 8 ∨ fieldAt b 0 2 = 0 then []
    else (fieldAt b 0 2, fieldAt b 2 4, (b.drop 8).take len) :: recsOf n (b.drop (8 + (len + 7) / 8 * 8))

/-- Apply the records of a body. -/
def State.applyRecs (s : State) (b : List Byte) : State := (recsOf b.length b).foldl (fun s r => s.applyRec r.1 r.2.1 r.2.2) s

/-- What a checkpoint replaces is emptied before it is applied. -/
def State.emptyMirror (s : State) : State :=
  let s := s.hif.rings.foldl (fun s e => s.setRState e.1 0) s
  let s := { s with hif := { s.hif with rings := [], trings := [], units := [] },
                    acc := { s.acc with tenants := [], queues := [], jobs := [] } }
  let s := s.setPar { s.par with hdrs := [], cpls := [] }
  (s.setMgt { lastSeq := s.mgt.lastSeq }).setSlt { s.slt with slates := [] }

/-! ### Rings at a new primary (R375) -/

/-- The fate of a descriptor in flight. A TAKE in flight last is the one a pair take of this instance belongs to; other TAKEs were of
scope 0 on the former primary's die. -/
def State.fate (s : State) (op : Nat) (last : Bool) (dropped : Bool) : Nat :=
  if op ≠ 0x13 then 0
  else if last && s.par.alone.isSome then 1
  else if last && dropped then 0
  else 2

/-- Complete what was in flight on a ring, notify once, and fetch again. -/
def State.resumeRing (s : State) (r : Nat) (dropped : Bool) : State :=
  let done := s.par.cpls.filter fun c => decide (c.ring = r)
  let s := done.foldl (fun s c =>
    s.writeCompletion r (fieldAt c.image 0 4) (fieldAt c.image 4 2) (fieldAt c.image 6 1) (c.image.drop 8) false) s
  let open_ := (s.par.hdrs.filter fun e => decide (e.1 / 2 ^ 32 = r)).filter fun e => !(done.any fun c => decide (c.idx = e.1 % 2 ^ 32))
  let takes := (open_.filter fun e => decide (dOp e.2 = 0x13)).map (·.1)
  let s := open_.foldl (fun s e =>
    let res := resultBytes [(8, 1, s.fate (dOp e.2) (decide (takes.getLast? = some e.1)) dropped), (12, 4, s.rd SLT_TAKE_take),
      (16, 2, s.rd PAR_STAT_term)]
    s.writeCompletion r (dTag e.2) 0x000C (dOp e.2) res false) s
  let x := s.ring r
  let s := if bit x.feat 0 ∧ s.rNotify r ≠ 0 then s.send (.fabricWrite (s.rNotify r) (leBytes 4 x.cqTail)) else s
  (s.setRing r { s.ring r with buf := [], fly := [], reads := 0, tries := 0, barrier := none, resets := [] }).tryFetch r

/-- The instance resumes the package roles from what was mirrored to it. Jobs that were opening are gone, those closing stay open. -/
def State.resumeRoles (s : State) : State :=
  let dropped := s.slt.jobs.any fun j => decide (j.phase = 7)
  let s := s.hif.rings.foldl (fun s e => if e.2.st = 1 ∨ e.2.st = 2 ∨ e.2.st = 3 then s.resumeRing e.1 dropped else s) s
  let s := s.setPar { s.par with hdrs := [], cpls := [] }
  let s := s.acc.jobs.foldl (fun s e =>
    if e.2.state = 1 then s.setJob e.1 { gen := e.2.gen }
    else if e.2.state = 3 then s.setJob e.1 { e.2 with state := 2, close := none }
    else s) s
  s.setMgt { s.mgt with demE := some s.mgtEpoch, inbox := [] }

/-- The instance becomes PRIMARY at a takeover or a handover. -/
def State.becomePrimary (s : State) (cause : Nat) : State :=
  let s := ((s.wr PAR_STAT_role 0 1).bump PAR_CNT_failover).emit 22 2 [s.rd PAR_STAT_term, cause]
  s.resumeRoles.refreshBudget.refreshDie

/-! ### Loss (R371, R372, R378) -/

/-- Pair takes between PREPARE and COMMIT when the bridge is lost: the secondary's is discarded, the primary's fails. -/
def State.splitTakes (s : State) : State :=
  let js := s.slt.jobs
  let s := s.setSlt { s.slt with jobs := js.filter fun j => !decide (j.phase = 2) && !decide (j.phase = 7) }
  (js.filter fun j => decide (j.phase = 2)).foldl (fun s j =>
    let s := ((s.freeSlate j.slate).bump SLT_FAIL_failed).emit 6 4 [j.handle, 3]
    match j.desc with | some d => s.complete d 0x0107 [] | none => s) s.showSlates

/-- SPLIT is entered: a PRIMARY becomes DEMOTED. Before roles are settled the bridge is merely down. -/
def State.enterSplit (s : State) (cause : Nat) : State :=
  let role := s.pRole
  let s := s.wr PAR_STAT_up 0 0
  if role = 0 then s else
  let s := s.setPar { s.par with splitT := s.ts, added := 0, ckptEnd := none, ckptOn := false, ckpt := [], handing := none,
                                 mir := none, waits := [],
                                 p := min (s.rd ACT_PKG_CAP_cap) (if role = 1 then s.rd ACT_PKG_BUD else s.par.p) }
  let s := if role = 1 then s.wr PAR_STAT_role 0 3 else s
  let s := ((s.wr PAR_STAT_state 0 3).bump PAR_CNT_split).emit 22 1 [cause, role]
  s.splitTakes.refreshDie

/-- BRIDGE_LOSS: no valid message for PAR_CFG.loss µs. -/
def bridgeLoss (s : State) : State :=
  if s.isD ∧ s.par.up ∧ !s.par.lost ∧ s.par.lastRx + s.rd PAR_CFG_loss * usT ≤ s.ts then
    let s := s.setPar { s.par with lost := true }
    if s.pState = 1 ∨ s.pState = 2 then s.enterSplit 0 else s
  else s

/-- PAIR_TAKEOVER. -/
def pairTakeover (s : State) : State :=
  if s.isD ∧ s.pState = 3 ∧ s.pRole = 2 ∧ s.par.lastRx + s.rd PAR_CFG_take * usT ≤ s.ts then
    (s.wr PAR_STAT_term 0 (s.rd PAR_STAT_term + 1)).becomePrimary 4
  else s

/-! ### SYNC (R365, R370, R376) -/

/-- SYNC begins: each instance sends its former role and whether it holds a ledger, and reports the outcome of a pair take that the
loss may have left open (R378). -/
def State.startSync (s : State) : State :=
  let s := s.setPar { s.par with splitEnd := if s.pState = 3 ∨ s.pState = 4 then s.ts else s.par.splitEnd, mir := none, former := s.pRole, ckptEnd := none, ckptOn := false, ckpt := [], handing := none }
  let s := (s.wr PAR_STAT_state 0 1).wr PAR_STAT_up 0 1
  let s := s.bridgeSend 0x02 (leBytes 1 s.pRole ++ leBytes 1 (s.rd PAR_STAT_ledger) ++ leBytes 2 0)
  (match s.slt.pairOut with
   | some (h, n) => s.bridgeSend 0x0B (leBytes 2 h ++ leBytes 2 0 ++ leBytes 4 n)
   | none => s).refreshDie

/-- BRIDGE_UP: training is complete; both sides count from 0. -/
def bridgeUp (s : State) : State :=
  if s.isD && s.running && !s.par.up then
    (s.setPar { s.par with up := true, tx := 0, rx := 0, unack := [], lost := false, lastRx := s.ts, t1 := none }).startSync
  else s

def wasPrimary (r : Nat) : Bool := decide (r = 1) || decide (r = 3)

/-- Roles by term, then by former role, then by die. -/
def State.winsSync (s : State) (theirTerm theirRole : Nat) : Bool :=
  let t := s.rd PAR_STAT_term
  if laterSer t theirTerm 16 then true
  else if laterSer theirTerm t 16 then false
  else if wasPrimary s.par.former && !wasPrimary theirRole then true
  else if !wasPrimary s.par.former && wasPrimary theirRole then false
  else decide (s.rd GEN_CFG_die = 0)

/-- The primary of a SYNC: its own ledger waits for the next reconciliation, and the checkpoint goes out behind its size. -/
def State.syncPrimary (s : State) (theirRole : Nat) (theirLedger : Bool) : State :=
  let split := decide (s.par.former ≠ 0)
  let s := s.wr PAR_STAT_role 0 1
  let own := s.par.ledger
  let s := s.setPar { s.par with add := own.foldl (fun m x => mput m x.1 (mget m x.1 0 + x.2)) s.par.add,
                                 added := s.par.added + sumN (own.map (·.2)), ledger := [], ledgerDue := theirLedger }
  let s := s.wr PAR_STAT_ledger 0 0
  let s := if split && decide (theirRole = 0) && !theirLedger then s.emit 22 5 [roundNEN (s.ts - s.par.splitT) msT] else s
  let s := s.bridgeSend 0x02 (leBytes 1 1 ++ leBytes 1 0 ++ leBytes 2 s.ckptParts)
  let s := s.sendCkpt
  s.setPar { s.par with ckptEnd := some ((s.par.tx + 65535) % 65536) }

/-- The secondary of a SYNC: it sends the split ledger it holds. -/
def State.syncSecondary (s : State) (theirTerm : Nat) : State :=
  let s := ((s.wr PAR_STAT_role 0 2).wr PAR_STAT_term 0 theirTerm).dropRole
  let recs := s.par.ledger.map fun x => mirrorRec 0x0A x.1 (leBytes 8 x.2)
  let s := if recs.isEmpty then s else (packRecs 2032 recs []).foldl (fun s b => s.bridgeSend 0x10 b) s
  (s.setPar { s.par with ledger := [] }).wr PAR_STAT_ledger 0 0

/-- SYNC is received. -/
def State.onSync (s : State) (h b : List Byte) : State :=
  let role := fieldAt b 0 1
  let term := fieldAt h 6 2
  let s := if s.pState = 1 then s else s.startSync
  if s.winsSync term role then
    if s.par.ckptEnd.isSome then s else s.syncPrimary role (decide (fieldAt b 1 1 = 1))
  else s.syncSecondary term

/-- Completions that the checkpoint, or a MACK, shows the secondary to hold are written. -/
def State.writeHeld (s : State) (p : HeldCpl → Bool) : State :=
  let hs := s.par.held.filter p
  let s := s.setPar { s.par with held := s.par.held.filter fun h => !p h }
  hs.foldl (fun s h =>
    let x := s.ring h.ring
    let s := s.landAt h.ring h.idx h.gen
    if x.gen ≠ h.gen ∨ x.st = 0 ∨ x.st = 4 then s
    else ((s.writeCompletion h.ring h.tag h.status h.op h.res h.notify).mirrorRing h.ring).tryFetch h.ring) s

/-- PAIRED is reached (R370, R379). -/
def State.reachPaired (s : State) : State :=
  let s := s.setPar { s.par with paired := true, ckptEnd := none }
  ((s.wr PAR_STAT_state 0 2).emit 22 3 [s.rd PAR_STAT_term, s.pRole, s.par.added % 2 ^ 32]).refreshDie

/-- The primary has seen its checkpoint acknowledged. -/
def State.pairedPrimary (s : State) (q : Nat) : State :=
  let s := s.reachPaired
  let s := s.writeHeld fun h => !laterSer h.mseq q 16
  let s := s.applyWaits fun m => !laterSer m q 16
  s.hif.rings.foldl (fun s e => s.tryFetch e.1) s

/-! ### Delivery (R368) -/

/-- The acknowledgement in a header: messages it covers are forgotten, waiting ones follow. -/
def State.bridgeAck (s : State) (ack : Nat) : State :=
  let rest := s.par.unack.filter fun m => !laterSer ack m.seq 16
  let fresh := (rest.take 64).filter fun m => !m.out
  let s := fresh.foldl (fun s m => s.send (.bridge (s.bridgeBytes m.kind m.seq m.body))) s
  let s := s.setPar { s.par with unack := (rest.take 64).map (fun m => if m.out then m else { m with out := true, sent := s.ts }) ++ rest.drop 64 }
  match s.par.ckptEnd with
  | some q => if s.pState = 1 ∧ s.pRole = 1 ∧ laterSer ack q 16 then s.pairedPrimary q else s
  | none => s

/-- The least body length of each type. -/
def bridgeMin (kind : Nat) : Nat :=
  match kind with
  | 0x01 => 0
  | 0x06 => 16
  | 0x09 => 16
  | 0x0D => 16
  | 0x0E => 2056
  | 0x0F => 104
  | 0x11 => 24
  | 0x13 => 24
  | _ => 8

/-- A message of one type arrives. A bad CRC, length or seq discards it; a valid one acknowledges, and f is its own effect. -/
def State.bridgeRx (s : State) (kind : Nat) (hdr : BitVec 96) (body : List Byte) (crc : BitVec 32) (f : List Byte → State → State) :
    State :=
  let h := leBytes 12 hdr.toNat
  if !s.isD || !s.running || !s.par.up || decide (fieldAt h 0 1 ≠ kind) then s
  else if body.length % 8 ≠ 0 ∨ body.length / 8 % 256 ≠ fieldAt h 8 1 ∨ body.length < bridgeMin kind ∨ crc.toNat ≠ crcBytes (h ++ body)
      ∨ fieldAt h 2 2 ≠ s.par.rx then s.bump PAR_CNT_crc
  else
    let ok := bit (fieldAt h 1 1) 0
    let s := s.setPar { s.par with lastRx := s.ts, lost := false, rx := (s.par.rx + 1) % 65536 }
    let s := s.bridgeAck (fieldAt h 4 2)
    if !ok && decide (s.pState = 1 ∨ s.pState = 2) then s.enterSplit 1
    else
      let s := if ok && decide (s.pState = 3 ∨ s.pState = 4) then s.startSync else s
      f h s

/-- BRIDGE_RETRANSMIT: messages unacknowledged for PAR_CFG.rtx µs are resent in order. -/
def bridgeRetransmit (s : State) : State :=
  if !s.isD || !s.running || !s.par.up then s else
  let due (m : BMsg) : Bool := m.out && decide (m.sent + s.rd PAR_CFG_rtx * usT ≤ s.ts)
  let ms := s.par.unack.filter due
  let s := ms.foldl (fun s m => (s.send (.bridge (s.bridgeBytes m.kind m.seq m.body))).bump PAR_CNT_rtx) s
  s.setPar { s.par with unack := s.par.unack.map fun m => if due m then { m with sent := s.ts } else m }

/-- Idle: with nothing else sent for a microsecond, HB goes out. -/
def State.bridgeIdle (s : State) : State :=
  if s.isD && s.par.up && decide (s.par.lastTx + usT ≤ s.ts) && decide (s.par.unack.length < 64) then s.bridgeSend 0x01 [] else s

/-- BRIDGE_CHECKPOINT_TIMER (R370). -/
def bridgeCheckpointTimer (s : State) : State :=
  if s.isD ∧ s.pState = 2 ∧ s.pRole = 1 ∧ s.par.ckptT + s.rd PAR_CFG_ckpt * 10 * msT ≤ s.ts then s.sendCkpt else s

/-! ### What each type does -/

/-- CKPT: the parts are applied whole with the last, numbered 0. After HANDOVER the receiver becomes PRIMARY. -/
def State.onCkpt (s : State) (b : List Byte) : State :=
  if s.pRole ≠ 2 then s else
  let acc := (if s.par.ckptOn then s.par.ckpt else []) ++ b.drop 8
  if fieldAt b 0 2 ≠ 0 then s.setPar { s.par with ckpt := acc, ckptOn := true }
  else
    let s := s.setPar { s.par with ckpt := [], ckptOn := false }
    let s := s.emptyMirror.applyRecs acc
    let s := if s.pState = 1 then s.reachPaired else s
    match s.par.handing with
    | some c => (s.setPar { s.par with handing := none }).becomePrimary c
    | none => s

/-- MIRROR: applied and acknowledged. -/
def State.onMirror (s : State) (h b : List Byte) : State :=
  if s.pRole ≠ 2 then s else (s.applyRecs b).bridgeSend 0x05 (leBytes 2 (fieldAt h 2 2))

/-- MACK: what waited for the record becomes visible. -/
def State.onMack (s : State) (b : List Byte) : State :=
  let q := fieldAt b 0 2
  let s := if s.par.mir = some q then s.setPar { s.par with mir := none } else s
  let s := (s.writeHeld fun h => decide (h.mseq = q)).applyWaits fun m => decide (m = q)
  let ls := s.par.lane.filter fun l => decide (l.mseq = q)
  let s := s.setPar { s.par with lane := s.par.lane.filter fun l => !decide (l.mseq = q) }
  ls.foldl (fun s l => s.send (.lane l.link l.msg)) s

/-- DIEPWR: the other die's term of source 0x07, and input 86 while PAIRED (R235). -/
def State.onDiepwr (s : State) (b : List Byte) : State :=
  let p := fieldAt b 0 4
  let s := s.setPar { s.par with otherP := p, otherT := fieldAt b 8 8 }
  if s.pState = 2 then s.setThm { s.thm with other := f32Of p (-3) } else s

/-- PKG: the secondary's die budget and its tenant portions (R274). -/
def State.onPkg (s : State) (b : List Byte) : State :=
  if s.pRole ≠ 2 then s else
  let d := fieldAt b 0 4
  let s := if s.rd PAR_DIEBUD_bud = d then s else (s.wr PAR_DIEBUD_bud 0 d).seedSp 0x23 0
  foldTo 512 s fun s t => s.newPortion t (fieldAt b (4 + 4 * t) 4)

/-- CPLATE (R235). -/
def State.onCplate (s : State) (b : List Byte) : State :=
  if s.pRole ≠ 2 then s else
  let s := s.setThm { s.thm with cp := (List.range 24).map (fun k => fieldAt b (8 + 4 * k) 4), cpT := s.ts }
  s.wr THM_STAT_cp_remote 0 1

/-- LEDGER (R376): its records are the split ledger's, object 0x0A. -/
def State.onLedger (s : State) (b : List Byte) : State :=
  if s.pRole = 1 then
    let s := ((recsOf b.length b).filter fun r => decide (r.1 = 0x0A)).foldl (fun s r => s.applyLedgerRec r.2.1 r.2.2) s
    s.setPar { s.par with ledgerDue := false }
  else s

/-- SALG: a lane message the secondary passes on (R377). -/
def State.onSalg (s : State) (b : List Byte) : State :=
  if s.pRole = 1 then s.mgtDeliver (b.take (20 + 8 * mLen b)) else s

/-- HANDOVER: the final checkpoint follows (R374). -/
def State.onHandover (s : State) (b : List Byte) : State :=
  if s.pRole = 2 ∧ s.pState = 2 then s.setPar { s.par with handing := some (fieldAt b 0 1) } else s

/-! ### The bridge clap (R369) -/

/-- BRIDGE_CLAP_SEND. -/
def bridgeClapSend (s : State) : State :=
  if s.isD ∧ s.running ∧ s.par.up ∧ s.par.clapT + msT ≤ s.ts + (if s.par.clapT = 0 then msT else 0) then
    (s.setPar { s.par with t1 := some s.ts, clapT := s.ts }).bridgeSend 0x12 (leBytes 8 s.ts)
  else s

/-- PCLAP_REQ, stamped t2 on arrival. -/
def State.onPclapReq (s : State) (t2 : Nat) (b : List Byte) : State :=
  s.bridgeSend 0x13 (leBytes 8 (fieldAt b 0 8) ++ leBytes 8 t2 ++ leBytes 8 s.ts)

/-- PCLAP_RSP, stamped t4: theta of R343 from one exchange. -/
def State.onPclapRsp (s : State) (t4 : Nat) (b : List Byte) : State :=
  let t1 := fieldAt b 0 8
  if s.par.t1 ≠ some t1 then s
  else
    let th : Int := (((fieldAt b 8 8 : Int) - t1) - ((t4 : Int) - fieldAt b 16 8)) * 128
    (s.setPar { s.par with t1 := none }).wr PAR_OFS 0 (th % 2 ^ 64).toNat

/-! ### The take's triggers (R373, R374) -/

/-- PAR_CTL.handover. -/
def State.parHandover (s : State) : State := s.handover 0

/-- PAR_CTL.sole. -/
def State.parSole (s : State) : State :=
  if s.isD ∧ s.pState = 3 ∧ s.pRole = 1 then
    let s := (s.wr PAR_STAT_state 0 4).refreshDie
    s.emit 22 4 [s.rd PAR_DIEBUD_bud]
  else s

/-! ### The meanings -/

def execBridgeUp (s : State) : Ans := hubOn bridgeUp s
def execBridgeHb (hdr : BitVec 96) (body : List Byte) (crc : BitVec 32) (s : State) : Ans :=
  hubOn (fun s => (s.bridgeRx 0x01 hdr body crc fun _ s => s)) s
def execBridgeSync (hdr : BitVec 96) (body : List Byte) (crc : BitVec 32) (s : State) : Ans :=
  hubOn (fun s => (s.bridgeRx 0x02 hdr body crc fun h s => s.onSync h body)) s
def execBridgeCkpt (hdr : BitVec 96) (body : List Byte) (crc : BitVec 32) (s : State) : Ans :=
  hubOn (fun s => (s.bridgeRx 0x03 hdr body crc fun _ s => s.onCkpt body)) s
def execBridgeMirror (hdr : BitVec 96) (body : List Byte) (crc : BitVec 32) (s : State) : Ans :=
  hubOn (fun s => (s.bridgeRx 0x04 hdr body crc fun h s => s.onMirror h body)) s
def execBridgeMack (hdr : BitVec 96) (body : List Byte) (crc : BitVec 32) (s : State) : Ans :=
  hubOn (fun s => (s.bridgeRx 0x05 hdr body crc fun _ s => s.onMack body)) s
def execBridgeDiepwr (hdr : BitVec 96) (body : List Byte) (crc : BitVec 32) (s : State) : Ans :=
  hubOn (fun s => (s.bridgeRx 0x0D hdr body crc fun _ s => s.onDiepwr body)) s
def execBridgePkg (hdr : BitVec 96) (body : List Byte) (crc : BitVec 32) (s : State) : Ans :=
  hubOn (fun s => (s.bridgeRx 0x0E hdr body crc fun _ s => s.onPkg body)) s
def execBridgeCplate (hdr : BitVec 96) (body : List Byte) (crc : BitVec 32) (s : State) : Ans :=
  hubOn (fun s => (s.bridgeRx 0x0F hdr body crc fun _ s => s.onCplate body)) s
def execBridgeLedger (hdr : BitVec 96) (body : List Byte) (crc : BitVec 32) (s : State) : Ans :=
  hubOn (fun s => (s.bridgeRx 0x10 hdr body crc fun _ s => s.onLedger body)) s
def execBridgeSalg (hdr : BitVec 96) (body : List Byte) (crc : BitVec 32) (s : State) : Ans :=
  hubOn (fun s => (s.bridgeRx 0x11 hdr body crc fun _ s => s.onSalg body)) s
def execBridgePclapReq (hdr : BitVec 96) (body : List Byte) (crc : BitVec 32) (stamp : BitVec 64) (s : State) : Ans :=
  hubOn (fun s => (s.bridgeRx 0x12 hdr body crc fun _ s => s.onPclapReq stamp.toNat body)) s
def execBridgePclapRsp (hdr : BitVec 96) (body : List Byte) (crc : BitVec 32) (stamp : BitVec 64) (s : State) : Ans :=
  hubOn (fun s => (s.bridgeRx 0x13 hdr body crc fun _ s => s.onPclapRsp stamp.toNat body)) s
def execBridgeHandover (hdr : BitVec 96) (body : List Byte) (crc : BitVec 32) (s : State) : Ans :=
  hubOn (fun s => (s.bridgeRx 0x14 hdr body crc fun _ s => s.onHandover body)) s
def execBridgeRetransmit (s : State) : Ans := hubOn bridgeRetransmit s
def execBridgeCheckpointTimer (s : State) : Ans := hubOn bridgeCheckpointTimer s
def execBridgeLoss (s : State) : Ans := hubOn bridgeLoss s
def execPairTakeover (s : State) : Ans := hubOn pairTakeover s
def execBridgeClapSend (s : State) : Ans := hubOn bridgeClapSend s

end Sys2Proof.Machine
end

