-- ==== Sys2Proof/Machine/TakeOps.lean ====
section
/-!
DEFINITION. Machine/TakeOps.lean: what a take does to the block at its instant: the values it writes and what each unit does with them
at once (R200, R209, R213, R216, R219, R248, R314, R327, R393, R402 to R415, R417, R520).
-/
namespace Sys2Proof.Machine

/-! ### Settings that the open tick goes on using (R63, R288, R504) -/

/-- The settings whose change acts at the next tick boundary. -/
def tickFlds : List Fld :=
  [ACT_SHAPE_W, ACT_LEAK, ACT_VREF, ACT_IDLE, CNT_SHAPE_B_bytes, ACT_QOWN_tenant, ACT_QOWN_valid, ACT_ACC_CTL_idle_mode, ACT_SELF_self]

/-- Keep the values in force of the tick's settings that the word at o holds. -/
def State.keepOld (s : State) (o : Nat) : State :=
  ((wordFlds o).filter fun x => decide (x.1.key ∈ tickFlds.map Fld.key)).foldl
    (fun s x =>
      let k := x.1.keyOf x.2
      if (mfind s.sns.old k).isSome then s else { s with sns := { s.sns with old := mput s.sns.old k (s.rd x.1 x.2) } }) s

/-- The words in which a change pauses calibration, and those of ACT_COEF (R62, R63). -/
def calWord (o : Nat) : Bool := (wordFlds o).any fun x => decide (x.1.key ∈ [ACT_COEF, ACT_SHAPE_W, ACT_LEAK, ACT_VREF].map Fld.key)
def coefWord (o : Nat) : Bool := (wordFlds o).any fun x => decide (x.1.key = ACT_COEF.key)

/-- Write one register word of a take. The DVFS settings do not exist in Glatos S (R401). -/
def State.takeWord (s : State) (o v : Nat) : State :=
  let s := s.keepOld o
  let was := s.rwtWord o
  let v := if o = clkEnOff then clkEnOf s.isD (s.rd CLK_EN_en) v else v
  let s := s.writeRwt o v
  let s := if calWord o && decide (s.rwtWord o ≠ was) then { s with sns := { s.sns with calPause := true } } else s
  if coefWord o && decide (s.rwtWord o ≠ was) then { s with sns := { s.sns with coefNew := true } } else s

/-! ### Power-up and shutdown triggers (R402, R409, R415) -/

/-- Stage POWER_UP: the sequence of R165 starts. -/
def State.enterPowerUp (s : State) : State := ((s.wr RST_SEQ_stage 0 4).wr RST_SEQ_cause 0 0).powerUp

/-- RST_START.go and .down: down decides where both are set (R418); one that its stage does not admit is ignored. -/
def State.startTriggers (s : State) (go down : Bool) : State :=
  let st := s.rd RST_SEQ_stage
  if down then
    if st = 5 ∨ st = 4 then
      let s := if st = 4 then s.haltPowerUp else s
      { s.wr RST_SEQ_stage 0 6 with rst := { s.rst with downT := some s.ts, drained := false } }
    else s.emit 2 6 [1, st]
  else if go then
    if st = 3 ∨ st = 7 ∨ (st = 8 ∧ s.rd RST_SEQ_cause = 3) then s.enterPowerUp else s.emit 2 6 [0, st]
  else s

/-! ### Clock enables (R393, R416, R417) -/

/-- The island of a unit that can be gated (R382). -/
def gateIsland (u : Nat) : Nat := if u = 10 ∨ u = 20 ∨ u = 23 then 4 else 2

/-- The registers of a unit take their reset values. -/
def State.resetRegs (s : State) (u : Nat) : State :=
  { s with regs := s.regs.filter fun e => decide (e.1 / 0x20000 ≠ u) }

/-- A clock-enable bit is cleared: the unit's state is lost. -/
def State.gateUnit (s : State) (u : Nat) : State :=
  let s := if u = 21 then s.mgtDetach else s
  let s := s.resetRegs u
  let s := match u with
    | 10 => s.setPmb { }
    | 12 =>
      let s := { s with fcs := { load := s.fcs.load } }
      let s := { s with hub := { s.hub with wrote := s.hub.wrote.filter fun e => decide (8 ≤ 8 * e.1 / 2 ^ 20) } }
      let s := foldTo 8 s fun s b => s.clearBank b
      (s.wr THM_SET_ID_ident 0 0).wr THM_SET_PER_period 0 0
    | 18 => s.setTrc { }
    | 20 => { s with fans := [] }
    | 21 => s.setMgt { }
    | 23 => { s with smb := { } }
    | _ => s
  if u = 22 then s else s.emit 1 3 [gateIsland u, 4]

/-- A clock-enable bit is set: FCS waits for the clear of its SRAM (R427), and sees the cores' LN_MODE levels (R121). -/
def State.wakeUnit (s : State) (u : Nat) : State :=
  if u = 12 then
    let s := s.wr MEM_STAT_clearing 0 (s.rd MEM_STAT_clearing / 256 * 256 + 255)
    foldTo 64 s fun s c => if (s.core c).lnMode then s.setLn c true else s
  else s

/-- Clock enables that a take changed from en0 to en1. -/
def State.gating (s : State) (en0 en1 : Nat) : State :=
  (clkWritable s.isD).foldl (fun s u =>
    if bit en0 u && !bit en1 u then s.gateUnit u else if !bit en0 u && bit en1 u then s.wakeUnit u else s) s

/-! ### Units (R327) -/

/-- Telemetry lanes and anchors that a take enables or disables (R43, R47, R219). -/
def State.snsTaken (s s0 : State) : State :=
  let a := s0.rd SNS_CTL_lane_en
  let b := s.rd SNS_CTL_lane_en
  let s := foldTo 18 s fun s l =>
    if bit a l && !bit b l then ((s.toHunt l).wr SNS_TLM_STAT_state l 3).missLane l
    else if !bit a l && bit b l then (s.toHunt l).missLane l
    else s
  let s := if s0.flag SNS_CTL_anc_en && !s.flag SNS_CTL_anc_en then s.anchorsOff else s
  -- masks: the OR of the unmasked outputs moves at once (R36)
  foldTo 64 s fun s c => if s.rd SNS_DRP_MASK c = s0.rd SNS_DRP_MASK c then s
    else s.newCmp c 0 (s.detOut c (s.droop c).cmp) (s.droop c).cmp

/-- The controller (R134, R137 to R139, R152). A rail that the sequence has had its turn for starts with run; other starts are the
sequence's. -/
def State.vrcTaken (s s0 : State) (restart unshed : Bool) : State :=
  let st := s.rd VRC_STAT_state
  let on := s.flag VRC_CTL_run
  let turn := decide (s.rd PMB_STAT_seq = 3) || (decide (s.pmb.phase = 2) && s.coreTurn)
  let s := if s0.flag VRC_CTL_run && !on then s.vrcStop
    else if !s0.flag VRC_CTL_run && on && decide (st = 0) && turn then s.vrcStart
    else s
  let s := if restart && decide (st = 4) then s.vrcStart else s
  let s := if unshed then { s with vrc := { s.vrc with unshed := true } } else s
  s.trackTaken.checkReached.pmbSettle

/-- Auxiliary rails: states follow the enables, and a GOOD rail takes a new target (R164, R172). -/
def State.pmbTaken (s s0 : State) : State :=
  let s := foldTo 16 s fun s r =>
    if s.flag PMB_RAIL_en r && !s0.flag PMB_RAIL_en r then s.setRail r 1
    else if !s.flag PMB_RAIL_en r && s0.flag PMB_RAIL_en r then s.setRail r 0
    else s
  (foldTo 16 s fun s r => if s.rd PMB_RAIL_target r = s0.rd PMB_RAIL_target r then s else s.railTargetTaken r).askAra

/-- The thresholds of a node's group. -/
def State.nodeLvls (s : State) (n : Nat) : List Nat :=
  [THM_LVL_warn, THM_LVL_throttle, THM_LVL_shutdown, THM_LVL_hyst, THM_LVL_rate].map fun f => s.rd f (s.rd THM_NODE_group n)

/-- The thermal unit (R180, R213, R216): a take that changes the thresholds of a node's group seeds its set point (R224). -/
def State.thmTaken (s s0 : State) (rearm : Bool) : State :=
  let s := if s.flag THM_CTL_run = s0.flag THM_CTL_run then s else s.thmRunTaken
  let s := if rearm then s.ancRearm else s
  foldTo 512 s fun s n => if s.nodeLvls n = s0.nodeLvls n then s else s.seedSp 0x24 n

/-- Pools whose capacity falls (R248), and what the pools show. -/
def State.tlyTaken (s s0 : State) : State :=
  foldTo 16 s fun s p => (if s.rd TLY_POOL_cap p < s0.rd TLY_POOL_cap p then s.clampPool p else s).refreshPool p

/-- Forecasting: forced fallback and the feed-forward term (R114, R121). -/
def State.fcsTaken (s s0 : State) : State :=
  let s := foldTo 64 s fun s c =>
    if s.rd FCS_CORE_force_static c = s0.rd FCS_CORE_force_static c then s
    else s.moveFallback c (s.flag FCS_CORE_ln c) (s0.flag FCS_CORE_force_static c)
  let s := foldTo 64 s fun s c =>
    if s.flag FCS_CTL_prompt_en && s.flag FCS_CTL_fc_en then s else s.setFc c { s.fc c with prompt := false }
  s.formFF

/-- The host interface: buckets against a new limit, and reads that a new limit admits (R308, R311). -/
def State.hifTaken (s : State) : State :=
  let s := foldTo 512 s fun s r => s.quarCheck r
  s.hif.rings.foldl (fun s e => s.tryFetch e.1) s

/-- A ring entry taken (R314): enabled, disabled or changed. -/
def State.takeRing (s : State) (t e : Nat) : State :=
  let old := s.tring t
  let s := { s with hif := { s.hif with trings := mput s.hif.trings t e } }
  let s := if !eEn old && eEn e then s.enableRing t else if eEn old && !eEn e then s.disableRing t else s
  s.mirror 0x08 t (s.ringEntryBytes t)

/-- A word of these units is among those written. -/
def wroteUnit (regs : SMap Nat) (us : List Nat) : Bool := regs.any fun e => decide (unitOf e.1 ∈ us)

/-- What the units do with the register words a take has written; s0 is the state before it and tr the words as written, with
their triggers. -/
def State.unitsTaken (s s0 tr : State) (regs : SMap Nat) : State :=
  let s := onlyIf (wroteUnit regs [7]) (fun s => s.snsTaken s0) s
  let s := onlyIf (wroteUnit regs [10]) (fun s => s.pmbTaken s0) s
  let s := onlyIf (wroteUnit regs [9]) (fun s => s.vrcTaken s0 (tr.flag VRC_CTL_restart) (tr.flag VRC_CTL_unshed)) s
  let s := onlyIf (wroteUnit regs [11]) (fun s => s.thmTaken s0 (tr.flag THM_CTL_anc_rearm)) s
  let s := onlyIf (wroteUnit regs [14]) (fun s => s.tlyTaken s0) s
  let s := onlyIf (wroteUnit regs [12]) (fun s => s.fcsTaken s0) s
  let s := onlyIf (wroteUnit regs [8, 12, 14]) (fun s => s.refreshChokers (List.range 320)) s
  let s := if tr.flag CHK_FB_CTL_release then s.fbRelease else s
  let s := onlyIf (wroteUnit regs [8]) State.fbHoldoffTaken s
  let s := onlyIf (wroteUnit regs [15]) (fun s => s.mirrorCap.refreshBudget) s
  let s := onlyIf (wroteUnit regs [5]) State.hifTaken s
  let s := onlyIf (wroteUnit regs [20]) (fun s => foldTo 4 s fun s n => s.fanTaken n (s0.flag FAN_CH_en n) (bit (tr.rd FAN_CTL_rearm) n)) s
  let setAt := (mfind regs 0x54068).isSome || (mfind regs 0x5406C).isSome
  let s := onlyIf (wroteUnit regs [21]) (fun s => s.mgtTaken (s0.flag MGT_CTL_en) s0.mgtIdents (fun i => decide (s0.rd MGT_MEMB i % 2 = 1)) setAt
    (tr.flag MGT_CTL_sole) |>.mirrorMgt) s
  let s := if tr.flag PAR_CTL_handover then s.parHandover else s
  let s := if tr.flag PAR_CTL_sole then s.parSole else s
  let s := onlyIf (wroteUnit regs [1, 9]) State.dvfsTaken s
  let s := onlyIf (wroteUnit regs [1]) (fun s => s.gating (s0.rd CLK_EN_en) (s.rd CLK_EN_en)) s
  let s := foldTo 4 s fun s n => if bit (tr.rd FW_CTL_restart) n then s.fwRestart n 4 else s
  s.startTriggers (tr.flag RST_START_go) (tr.flag RST_START_down)

/-- Everything a take writes, and what follows from it in the same hub cycle (R327). -/
def State.applyShadow (s0 : State) (sh : Shadow) : State :=
  let tr := sh.regs.foldl (fun s e => s.takeWord e.1 e.2) s0
  let s := tr.clearTriggers
  let s := match sh.thm with
    | some m => s.setThm { s.thm with pend := some m }
    | none => s
  let s := sh.ctxs.foldl (fun s e => s.takeCtx e.1 e.2) s
  let s := if sh.ctxs.isEmpty then s else (s.refreshChokers (List.range 320)).showBudget
  let s := sh.rings.foldl (fun s e => s.takeRing e.1 e.2) s
  s.unitsTaken s0 tr sh.regs

/-- The values that the items of a shadow hold now: what an undo writes back (R331). -/
def State.captureUndo (s : State) (sh : Shadow) : Shadow :=
  { regs := sh.regs.map fun e => (e.1, s.rwtWord e.1), ctxs := sh.ctxs.map fun e => (e.1, (s.ctx e.1).cfg),
    rings := sh.rings.map fun e => (e.1, s.tring e.1), thm := sh.thm.map fun _ => s.thm.latest }

/-- Items that a later take has written are left as they stand (R378). -/
def Shadow.without (u sh : Shadow) : Shadow :=
  { regs := u.regs.filter fun e => (mfind sh.regs e.1).isNone, ctxs := u.ctxs.filter fun e => (mfind sh.ctxs e.1).isNone,
    rings := u.rings.filter fun e => (mfind sh.rings e.1).isNone, thm := if sh.thm.isSome then none else u.thm }

/-- The take number goes up by one (R327, R329). -/
def State.nextTake (s : State) : State :=
  let n := (s.rd SLT_TAKE_take + 1) % 2 ^ 32
  let s := (s.wr SLT_TAKE_take 0 n).wr SLT_TAKE_T_instant 0 s.ts
  if n = 0 then s.bump SLT_TAKE_WRAP_wraps else s

end Sys2Proof.Machine
end

