-- ==== Sys2Proof/Machine/Take.lean ====
section
/-!
DEFINITION. Machine/Take.lean: SLATE_CHECK, TAKE and the take engine (R323 to R332), and pair takes over the bridge (R330, R331,
R378).
-/
namespace Sys2Proof.Machine

/-! ### The engine's jobs -/

def State.setJobs (s : State) (js : List TakeJob) : State := (s.setSlt { s.slt with jobs := js }).showSlates

/-- Replace a job, or take it out. -/
def State.putTake (s : State) (j k : TakeJob) : State := s.setJobs (s.slt.jobs.map fun x => if x = j then k else x)
def State.dropTake (s : State) (j : TakeJob) : State := s.setJobs (s.slt.jobs.filter fun x => decide (x ≠ j))

/-- Complete the TAKE of a job. -/
def State.endTake (s : State) (j : TakeJob) (status : Nat) (ps : List (Nat × Nat × Nat)) : State :=
  match j.desc with
  | some d => s.complete d status ps
  | none => s

/-- Put a slate in a state. -/
def State.slateTo (s : State) (k st : Nat) : State := s.setSlate k { s.slate k with state := st }

def Shadow.lines (sh : Shadow) : Nat := sh.regs.length + 9 * sh.ctxs.length + 9 * sh.rings.length

/-- EV_SLT_REFUSED and ST_SLATE_REFUSED (R323); inst is the instance that refused. -/
def State.refuseSlate (s : State) (h : Nat) (f : Nat × Nat) (inst : Nat) : State := s.emit 6 2 [h, f.1, f.2, inst]
def refusal (f : Nat × Nat) : List (Nat × Nat × Nat) := [(8, 2, f.1), (12, 4, f.2)]

/-! ### SLATE_CHECK and TAKE (R323, R325) -/

/-- SLATE_CHECK. -/
def slateCheck (d : Desc) (s : State) : State :=
  match s.slateOf (dB d.w 8 2) with
  | none => s.complete d 0x0100 []
  | some k =>
    if (s.slate k).state ≠ 1 then s.complete d 0x0102 []
    else match s.checkShadow (s.shadowOf (s.slate k)) with
      | some f => (s.refuseSlate (s.handleOf k) f (s.rd GEN_CFG_die)).complete d 0x0106 (refusal f)
      | none => s.complete d 0 []

/-- Armed takes, and whether an instant is later than all of theirs. -/
def State.armedTakes (s : State) : List TakeJob := s.slt.jobs.filter TakeJob.armed
def State.afterAll (s : State) (t : Nat) : Bool :=
  s.armedTakes.all fun j => match j.t with | some x => decide (x < t) | none => true

/-- The status that refuses an instant to a take that is to be armed: four are armed, or the instants would not increase. -/
def State.armStatus (s : State) (t : Option Nat) : Nat :=
  if 4 ≤ s.armedTakes.length then 0x0101
  else match t with
    | some t => if s.afterAll t then 0 else 0x0102
    | none => 0

/-- TAKE: the check, then the hand-off to the take engine's shadow copy. A pair take's instant is not yet known, where it is
immediate. -/
def takeRow (d : Desc) (s : State) : State :=
  match s.slateOf (dB d.w 8 2) with
  | none => s.complete d 0x0100 []
  | some k =>
    if (s.slate k).state ≠ 1 then s.complete d 0x0102 []
    else
      let sh := s.shadowOf (s.slate k)
      match s.checkShadow sh with
      | some f => (s.refuseSlate (s.handleOf k) f (s.rd GEN_CFG_die)).complete d 0x0106 (refusal f)
      | none =>
        let body := dB d.w 16 8
        let pair := decide (dB d.w 10 1 = 1)
        let fin := s.ts + (s.slate k).lines
        let st := s.armStatus (if body ≠ 0 then some body else if pair then none else some (fin + 1))
        if st ≠ 0 then s.complete d st []
        else
          let j : TakeJob := { slate := k, handle := s.handleOf k, desc := some d, body := body, pair := pair, copyEnd := fin, sh := sh,
                               lines := sh.lines }
          (s.slateTo k 2).setJobs (s.slt.jobs ++ [j])

/-- No take is in its shadow copy. -/
def State.copyFree (s : State) : Bool := s.slt.jobs.all fun j => decide (j.phase ≠ 0)

/-! ### PREPARE (R330): the slate's lines for the other die -/

/-- The head of an item: a store line of eight bytes with its table. -/
def itemHead (table idx v : Nat) : List Byte := leBytes 4 v ++ leBytes 4 (idx + table * 2 ^ 24)

/-- A row's bytes. -/
def rowBytes (r : List Nat) : List Byte := r.flatMap (leBytes 2)

/-- The items of PREPARE: the lines of a slate for every instance and for the other die. -/
def State.prepItems (s : State) (x : Slate) : List (List Byte) :=
  let sels := [0, 2 - s.rd GEN_CFG_die]
  ((linesOf sels x.regs).map fun e => itemHead 1 e.1 e.2)
  ++ ((linesOf sels x.ctxs).map fun e => itemHead 2 e.1 0 ++ leBytes 64 e.2)
  ++ ((linesOf sels x.rowsA).map fun e => itemHead 3 e.1 0 ++ (rowBytes e.2 ++ List.replicate 1024 0).take 1024)
  ++ ((linesOf sels x.rowsB).map fun e => itemHead 4 e.1 0 ++ (rowBytes e.2 ++ List.replicate 512 0).take 512)
  ++ (match x.hdr with | some h => [itemHead 5 0 0 ++ leBytes 8 h] | none => [])

/-- Send PREPARE in as many parts as it needs. -/
def State.sendPrepare (s : State) (j : TakeJob) : State :=
  let parts := packRecs 2016 (s.prepItems (s.slate j.slate)) []
  (parts.zip (List.range parts.length)).foldl (fun s p =>
    s.bridgeSend 0x06 (leBytes 2 j.handle ++ leBytes 2 p.2 ++ leBytes 2 parts.length ++ leBytes 2 0 ++ leBytes 8 j.body ++ p.1)) s

/-- The length of an item's data. -/
def itemLen (table : Nat) : Nat := [0, 0, 64, 1024, 512, 8].getD table 0

/-- The shadow that PREPARE's items make; m is the set that is, or will next be, in force. -/
def readItems (m : MSet) : Nat → List Byte → Shadow → Shadow
  | 0, _, sh => sh
  | n + 1, b, sh =>
    let table := fieldAt b 7 1
    if b.length < 8 ∨ table = 0 then sh
    else
      let idx := fieldAt b 4 3
      let data := (b.drop 8).take (itemLen table)
      let t : MSet := { sh.thm.getD m with generic := false }
      let sh : Shadow := match table with
        | 1 => { sh with regs := mput sh.regs idx (fieldAt b 0 4) }
        | 2 => { sh with ctxs := mput sh.ctxs idx (leNat data) }
        | 3 => { sh with thm := some { t with a := mput t.a idx (rowWords 512 data) } }
        | 4 => { sh with thm := some { t with b := mput t.b idx (rowWords 256 data) } }
        | 5 => { sh with thm := some { t with ident := fieldAt data 0 4, period := fieldAt data 4 2 } }
        | _ => sh
      readItems m n (b.drop (8 + itemLen table)) sh

/-! ### TAKE_ARMED (R325, R326) -/

/-- A take found past: its slate returns to OPEN. -/
def State.takePast (s : State) (j : TakeJob) (a : Nat) : State :=
  let s := (s.dropTake j).slateTo j.slate 1
  ((s.bump SLT_FAIL_past).emit 6 3 [j.handle, j.body % 2 ^ 32, a % 2 ^ 32]).endTake j 0x0108 []

/-- A take that cannot be armed returns its slate to OPEN. -/
def State.takeBack (s : State) (j : TakeJob) (status : Nat) : State := ((s.dropTake j).slateTo j.slate 1).endTake j status []

/-- TAKE_ARMED: the shadow copy has ended; A is the hub cycle in which it did. A pair take now sends PREPARE. -/
def takeArmed (s : State) : State :=
  match s.slt.jobs.find? fun j => decide (j.phase = 0) && decide (j.copyEnd ≤ s.ts) with
  | none => s
  | some j =>
    let a := j.copyEnd
    if j.pair then (s.putTake j { j with phase := 2, prepT := s.ts }).sendPrepare j
    else if j.body ≠ 0 ∧ j.body ≤ a then s.takePast j a
    else
      let t := if j.body = 0 then a + 1 else j.body
      let st := s.armStatus (some t)
      if st ≠ 0 then s.takeBack j st else s.putTake j { j with phase := 1, t := some t }

/-! ### TAKE_APPLY (R327, R328, R330, R331) -/

/-- What a pair take sends as take number where it has applied none. -/
def noTake : Nat := 0xFFFFFFFF

def State.sendDone (s : State) (h n : Nat) : State := s.bridgeSend 0x0B (leBytes 2 h ++ leBytes 2 0 ++ leBytes 4 n)
def State.setPairOut (s : State) (x : Option (Nat × Nat)) : State := s.setSlt { s.slt with pairOut := x }

/-- A take writes a unit whose clock is disabled (R328, R332); a thermal set lies in the model SRAM. -/
def State.gatedTake (s : State) (sh : Shadow) : Bool :=
  (sh.regs.any fun e => !s.clocked (unitOf e.1)) || (sh.thm.isSome && !s.clocked 12)

/-- A take that fails frees its slate (R328). -/
def State.failTake (s : State) (j : TakeJob) (cause : Nat) : State :=
  let s := s.dropTake j
  let s := if j.desc.isSome then (s.freeSlate j.slate).bump SLT_FAIL_failed else s
  (if j.told then s else s.emit 6 4 [j.handle, cause]).endTake j 0x0107 []

/-- The armed takes behind one: they were checked on a projection with it. -/
def State.takesAfter (s : State) (j : TakeJob) : List TakeJob :=
  ((s.slt.jobs.dropWhile fun x => decide (x ≠ j)).drop 1).filter TakeJob.armed

/-- The takes behind a failed one are withdrawn; a pair take's other half is told. -/
def State.withdrawTakes (s : State) (later : List TakeJob) : State :=
  later.foldl (fun s x =>
    let s := if x.pair && decide (x.phase = 3 ∨ x.phase = 4) then s.bridgeSend 0x0C (leBytes 2 x.handle)
      else if x.phase = 7 ∨ x.phase = 8 then (s.sendDone x.handle noTake).setPairOut (some (x.handle, noTake)) else s
    s.failTake x 2) s

/-- The take itself: its number, its values and their effects, and EV_SLT_TAKE. -/
def State.doTake (s : State) (j : TakeJob) : State :=
  let s := if j.pair then s.setSlt { s.slt with undo := s.captureUndo j.sh, undoNum := (s.rd SLT_TAKE_take + 1) % 2 ^ 32 }
    else s.setSlt { s.slt with undo := s.slt.undo.without j.sh }
  let s := s.nextTake.emit 6 1 [j.handle, j.lines, s.ts % 2 ^ 32, b2n j.pair]
  s.applyShadow j.sh

/-- Why a take fails at its instant, where it does: 0 a gated unit, 1 the shadow's parity. -/
def State.takeFault (s : State) (j : TakeJob) (parity : Bool) : Option Nat :=
  if s.gatedTake j.sh then some 0 else if parity then some 1 else none

/-- Both outcomes of a pair take are known to the primary (R330, R331). -/
def State.settlePair (s : State) (j : TakeJob) : State :=
  match j.done with
  | none => s
  | some n =>
    if j.phase = 5 then
      if n ≠ noTake then
        (((s.dropTake j).setPairOut none).freeSlate j.slate).endTake j 0 [(8, 4, j.num), (16, 8, j.t.getD 0)]
      else (s.slateTo j.slate 3).putTake j { j with phase := 9, t := some (s.ts + 1) }
    else if j.phase = 6 then
      if n ≠ noTake then ((s.slateTo j.slate 3).putTake j { j with done := none }).sendDone j.handle noTake
      else
        let s := s.setPairOut none
        if (s.slate j.slate).state = 3 then
          (((s.dropTake j).freeSlate j.slate).bump SLT_FAIL_failed).endTake j 0x0107 []
        else s.failTake j 3
    else s

/-- A primary's pair take has passed its instant: num is the take number it applied, or none. -/
def State.pairPassed (s : State) (j : TakeJob) (phase num : Nat) : State :=
  let k := { j with phase := phase, num := num }
  ((s.putTake j k).setPairOut (some (j.handle, num))).settlePair k

/-- A secondary's share has passed its instant. -/
def State.sharePassed (s : State) (j : TakeJob) (num : Nat) : State :=
  ((s.dropTake j).setPairOut (some (j.handle, num))).sendDone j.handle num

/-- The undo take (R331): it is never checked. -/
def State.undoTake (s : State) (j : TakeJob) : State :=
  let u := s.slt.undo
  let num := s.slt.undoNum
  let s := ((s.dropTake j).setSlt { s.slt with undo := { }, undoNum := 0, pairOut := none,
                                               jobs := s.slt.jobs.filter fun x => decide (x ≠ j) }).setPar { s.par with alone := none }
  let s := s.nextTake
  let s := (s.bump SLT_FAIL_rollback).emit 6 5 [j.handle, num, s.rd SLT_TAKE_take]
  let s := s.applyShadow u
  if j.desc.isSome then ((s.freeSlate j.slate).bump SLT_FAIL_failed).endTake j 0x0107 []
  else s.sendDone j.handle noTake

/-- TAKE_APPLY: the instant of the first armed take; parity says that the shadow reports a parity error. -/
def takeApply (parity : Bool) (s : State) : State :=
  match s.slt.jobs.find? fun j => (j.armed || decide (j.phase = 9)) && (match j.t with | some t => decide (t ≤ s.ts) | none => false) with
  | none => s
  | some j =>
    let fault := s.takeFault j parity
    match j.phase with
    | 1 =>
      match fault with
      | some c => (s.failTake j c).withdrawTakes (s.takesAfter j)
      | none =>
        let s := (s.dropTake j).doTake j
        (s.freeSlate j.slate).endTake j 0 [(8, 4, s.rd SLT_TAKE_take), (16, 8, j.t.getD 0)]
    | 3 => s.pairPassed j 6 noTake
    | 4 =>
      match fault with
      | some c =>
        let k := { j with told := true }
        (((s.putTake j k).emit 6 4 [j.handle, c]).withdrawTakes (s.takesAfter j)).pairPassed k 6 noTake
      | none =>
        let k := { j with phase := 5, num := (s.rd SLT_TAKE_take + 1) % 2 ^ 32 }
        ((((s.putTake j k).doTake k)).setPairOut (some (k.handle, k.num))).settlePair k
    | 7 => s.sharePassed j noTake
    | 8 =>
      match fault with
      | some c => ((s.emit 6 4 [j.handle, c]).withdrawTakes (s.takesAfter j)).sharePassed j noTake
      | none =>
        let s := s.doTake j
        let s := if s.par.lost then s.setPar { s.par with alone := j.t } else s
        s.sharePassed j (s.rd SLT_TAKE_take)
    | _ => s.undoTake j

/-! ### Pair messages (R330, R331) -/

def State.jobOf (s : State) (h : Nat) (p : Nat → Bool) : Option TakeJob :=
  s.slt.jobs.find? fun j => decide (j.handle = h) && p j.phase

/-- A timestamp of the primary as the secondary's own (R369). -/
def State.fromPrimary (s : State) (t : Nat) : Nat := ((t : Int) - roundNE (sgn 64 (s.rd PAR_OFS)) 256).toNat

/-- PREPARE: with its last part the secondary checks its own projection, and arms or refuses. -/
def State.onPrepare (s : State) (b : List Byte) : State :=
  if s.pRole ≠ 2 ∨ s.pState ≠ 2 then s else
  let h := fieldAt b 0 2
  let old := if s.slt.prepH = h ∧ fieldAt b 2 2 ≠ 0 then s.slt.prep else []
  let parts := mput old (fieldAt b 2 2) (b.drop 16)
  if parts.length < fieldAt b 4 2 then s.setSlt { s.slt with prep := parts, prepH := h }
  else
    let bytes := parts.flatMap (·.2)
    let sh := readItems s.thm.latest bytes.length bytes { }
    let s := s.setSlt { s.slt with prep := [] }
    match s.checkShadow sh with
    | some f => (s.refuseSlate h f (s.rd GEN_CFG_die)).bridgeSend 0x08 (leBytes 2 h ++ leBytes 2 f.1 ++ leBytes 4 f.2)
    | none =>
      let body := fieldAt b 8 8
      let j : TakeJob := { slate := h % 8, handle := h, desc := none, body := body, pair := true, copyEnd := s.ts, phase := 7, prepT := s.ts,
                           t := if body = 0 then none else some (s.fromPrimary body), sh := sh, lines := sh.lines }
      (s.setJobs (s.slt.jobs ++ [j])).bridgeSend 0x07 (leBytes 2 h)

/-- READY: the primary fixes T. A timed take must be later than the cycle of READY plus the lead. -/
def State.onReady (s : State) (b : List Byte) : State :=
  let h := fieldAt b 0 2
  match s.jobOf h (· == 2) with
  | none => s
  | some j =>
    let edge := s.ts + s.rd SLT_PAIR_lead * usT
    let t := if j.body = 0 then edge else j.body
    if j.body ≠ 0 ∧ j.body ≤ edge then (s.bridgeSend 0x0C (leBytes 2 h)).takePast j s.ts
    else
      let st := s.armStatus (some t)
      if st ≠ 0 then (s.bridgeSend 0x0C (leBytes 2 h)).takeBack j st
      else (s.putTake j { j with phase := 3, t := some t }).bridgeSend 0x09 (leBytes 2 h ++ leBytes 6 0 ++ leBytes 8 t)

/-- REFUSE: the slate returns to OPEN. -/
def State.onRefuse (s : State) (b : List Byte) : State :=
  match s.jobOf (fieldAt b 0 2) (· == 2) with
  | none => s
  | some j =>
    let f := (fieldAt b 2 2, fieldAt b 4 4)
    let s := (s.dropTake j).slateTo j.slate 1
    (s.refuseSlate j.handle f (1 - s.rd GEN_CFG_die)).endTake j 0x0106 (refusal f)

/-- COMMIT: the secondary answers ACK; a COMMIT that does not arrive before T arms nothing. -/
def State.onCommit (s : State) (b : List Byte) : State :=
  let h := fieldAt b 0 2
  match s.jobOf h (· == 7) with
  | none => s
  | some j =>
    let t := s.fromPrimary (fieldAt b 8 8)
    (s.putTake j { j with phase := if s.ts < t then 8 else 7, t := some t }).bridgeSend 0x0A (leBytes 2 h)

/-- ACK: the primary will apply at T. -/
def State.onAck (s : State) (b : List Byte) : State :=
  match s.jobOf (fieldAt b 0 2) (· == 3) with
  | none => s
  | some j => if s.ts < j.t.getD 0 then s.putTake j { j with phase := 4 } else s

/-- DONE: the other instance's outcome. An instance that applied a take the other did not undoes it in the next hub cycle. -/
def State.onDone (s : State) (b : List Byte) : State :=
  let h := fieldAt b 0 2
  let n := fieldAt b 4 4
  match s.jobOf h (fun p => decide (3 ≤ p) && decide (p ≤ 6)) with
  | some j =>
    let k := { j with done := some n }
    (s.putTake j k).settlePair k
  | none =>
    match s.slt.pairOut with
    | some (h', m) =>
      if h' ≠ h ∨ (s.slt.jobs.any fun j => decide (j.handle = h)) then s
      else if m ≠ noTake ∧ n = noTake then
        s.setJobs (s.slt.jobs ++ [{ slate := h % 8, handle := h, desc := none, pair := true, phase := 9, t := some (s.ts + 1), num := m }])
      else if m = noTake ∧ n ≠ noTake then s
      else (s.setPairOut none).setPar { s.par with alone := none }
    | none => s

/-- ABORT: the secondary discards its armed take. -/
def State.onAbort (s : State) (b : List Byte) : State :=
  match s.jobOf (fieldAt b 0 2) (fun p => decide (p = 7 ∨ p = 8)) with
  | none => s
  | some j => s.dropTake j

/-- PAIR_PREPARE_TIMEOUT. -/
def pairPrepareTimeout (s : State) : State :=
  match s.slt.jobs.find? fun j => decide (j.phase = 2) && decide (j.prepT + s.rd SLT_PAIR_timeout * usT ≤ s.ts) with
  | none => s
  | some j => (s.bridgeSend 0x0C (leBytes 2 j.handle)).failTake j 3

/-! ### The meanings -/

def execSlateCheck (s : State) : Ans := hubOn (fun s => (s.runOpcode 0x12 slateCheck)) s
def execTake (s : State) : Ans := hubOn (fun s => (if s.copyFree then s.runOpcode 0x13 takeRow else s)) s
def execTakeArmed (s : State) : Ans := hubOn takeArmed s
def execTakeApply (parity : Bool) (s : State) : Ans := hubOn (takeApply parity) s
def execBridgePrepare (hdr : BitVec 96) (body : List Byte) (crc : BitVec 32) (s : State) : Ans :=
  hubOn (fun s => (s.bridgeRx 0x06 hdr body crc fun _ s => s.onPrepare body)) s
def execBridgeReady (hdr : BitVec 96) (body : List Byte) (crc : BitVec 32) (s : State) : Ans :=
  hubOn (fun s => (s.bridgeRx 0x07 hdr body crc fun _ s => s.onReady body)) s
def execBridgeRefuse (hdr : BitVec 96) (body : List Byte) (crc : BitVec 32) (s : State) : Ans :=
  hubOn (fun s => (s.bridgeRx 0x08 hdr body crc fun _ s => s.onRefuse body)) s
def execBridgeCommit (hdr : BitVec 96) (body : List Byte) (crc : BitVec 32) (s : State) : Ans :=
  hubOn (fun s => (s.bridgeRx 0x09 hdr body crc fun _ s => s.onCommit body)) s
def execBridgeAck (hdr : BitVec 96) (body : List Byte) (crc : BitVec 32) (s : State) : Ans :=
  hubOn (fun s => (s.bridgeRx 0x0A hdr body crc fun _ s => s.onAck body)) s
def execBridgeDone (hdr : BitVec 96) (body : List Byte) (crc : BitVec 32) (s : State) : Ans :=
  hubOn (fun s => (s.bridgeRx 0x0B hdr body crc fun _ s => s.onDone body)) s
def execBridgeAbort (hdr : BitVec 96) (body : List Byte) (crc : BitVec 32) (s : State) : Ans :=
  hubOn (fun s => (s.bridgeRx 0x0C hdr body crc fun _ s => s.onAbort body)) s
def execPairPrepareTimeout (s : State) : Ans := hubOn pairPrepareTimeout s

end Sys2Proof.Machine
end

