-- ==== Sys2Proof/Machine/Start.lean ====
section
/-!
DEFINITION. Machine/Start.lean: supplies, resets and the start-up sequence (R390, R391, R402 to R416, R427, R438, R463, R528, R537).
-/
namespace Sys2Proof.Machine

/-! ### Resets (R390, R391, R404, R416) -/

/-- Registers that a die reset keeps: RST_CAUSE, RST_COUNT and RST_LAST_TS (R401), MEM_RMAP and what it reports (R430), NVM_WEAR
(R471) and NVM_MIRROR.count, both counted since the supply (R484). -/
def keptReg (k : Nat) : Bool :=
  (decide (0x40080 ≤ k) && decide (k < 0x40100)) || (decide (0x63000 ≤ k) && decide (k < 0x63900)) || decide (k = MEM_STAT_nospare.key)
    || decide (k = MEM_STAT_retired.key) || (decide (0x220100 ≤ k) && decide (k < 0x220140)) || decide (k = NVM_MIRROR_count.key)

/-- The block with everything in it reset but what outlives a reset: fuses, flash, what has left, what waits, and the registers that
keep selects. -/
def State.cleared (s : State) (keep : Nat → Bool) (r : Rst) : State :=
  { pending := s.pending, fuse := s.fuse, flash := s.flash, out := s.out, regs := s.regs.filter fun e => keep e.1, rst := r,
    hub := { bad := s.hub.bad.filter fun _ => keep MEM_STAT_nospare.key } }

/-- The latches of the block s, held by static logic, in the block t: CROWBAR drives every PWM low and every enable high (R154), and
SHUTDOWN asserts THERMTRIP_N (R234). -/
def State.keepLatches (s t : State) : State :=
  let t := if s.flag RST_CAUSE_crowbar then
      { ((t.wr VRC_STAT_state 0 5).wr VRC_STAT_fault 0 1).wr RST_CAUSE_crowbar 0 1
          with vrc := { t.vrc with pwmMid := false, enables := true } }
    else t
  if s.flag RST_CAUSE_shutdown then
    { ((t.wr THM_STAT_shut 0 1).wr THM_STAT_state 0 4).wr RST_CAUSE_shutdown 0 1 with pins := { t.pins with trip := true } }
  else t

/-- Die reset: PWM at mid and enables low unless CROWBAR is latched, QUEFA_READY negated, HUB held. -/
def State.dieReset (s : State) : State :=
  s.keepLatches (s.cleared keptReg
    { s.rst with lastDie := true, lockDue := false, config := false, failT := 0, downT := none, drained := false })

/-- A cause of R391 or R404 acts: it is recorded and counted, with the last timestamp where HUB was running, and the instance is held
in die reset. -/
def State.enterReset (s : State) (cause : Nat) : State :=
  let s := s.wr RST_CAUSE_cause 0 cause
  let s := s.bump (if cause = 1 then RST_COUNT_poreset else if cause = 2 then RST_COUNT_refclk else RST_COUNT_pll)
  (if s.running then s.wr RST_LAST_TS_ts 0 s.ts else s).dieReset

/-- The instance runs, or its root PLL is locking. -/
def State.started (s : State) : Bool := s.running || s.rst.lockDue

/-- SUPPLY_RISE (R390): a supply reset. The latches clear with the removal of the supply alone (R154, R234, R528): where VDD_QF fell
and was not removed they stand. -/
def supplyRise (s : State) : State :=
  let t := s.cleared (fun _ => false) { }
  if !s.rst.supply && !s.rst.removed then s.keepLatches t else t

/-- VDD_QF_FALL (R527, R537): every output is released or at high impedance, PWM among them, and every enable low, unless CROWBAR is
latched. -/
def vddQfFall (s : State) : State :=
  if !s.rst.supply then s
  else
    let t := s.dieReset
    { t with rst := { t.rst with supply := false }, pins := { t.pins with trip := false } }

/-- SUPPLY_REMOVAL (R528): the latches clear and every output is released. -/
def supplyRemoval (s : State) : State :=
  let t := s.cleared keptReg { s.rst with supply := false, removed := true, lockDue := false, config := false }
  (t.wr RST_CAUSE_crowbar 0 0).wr RST_CAUSE_shutdown 0 0

/-- PORESET_ASSERT (R404). -/
def poresetAssert (s : State) : State :=
  if !s.rst.supply || s.rst.poreset then s
  else let t := s.enterReset 1; { t with rst := { t.rst with poreset := true } }

/-- PORESET_NEGATE (R403): with REFCLK valid, P: the root PLL begins to lock. -/
def poresetNegate (s : State) : State :=
  if !s.rst.supply || !s.rst.poreset then s
  else { s with rst := { s.rst with poreset := false, lockDue := s.rst.refOk } }

/-- REFCLK_LOSS (R391). -/
def refclkLoss (s : State) : State :=
  if !s.rst.supply || !s.rst.refOk then s
  else
    let t := if s.started then s.enterReset 2 else s
    { t with rst := { t.rst with refOk := false } }

/-- PLL_LOCK_LOSS (R391): reported by a PLL that has locked. -/
def pllLockLoss (s : State) : State := if s.running then s.enterReset 3 else s

/-- DIE_RESET_RELEASE (R391, R403): REFCLK has been valid for 1 ms, and start-up runs as for PORESET_N. -/
def dieResetRelease (s : State) : State :=
  if !s.rst.supply || s.running then s
  else { s with rst := { s.rst with refOk := true, lockDue := !s.rst.poreset } }

/-- PLL_LOCK (R381, R383, R403 step 2): H. HUB and the other root-derived islands are released, the timestamp starts from 0 and every
bank begins to clear. -/
def pllLock (s : State) : State :=
  if !s.rst.lockDue || s.running then s
  else ({ s with running := true, ts := 0, rst := { s.rst with lockDue := false } }).wr MEM_STAT_clearing 0 (2 ^ 18 - 1)

/-- PLL_LOCK_TIMEOUT (R403 step 1): the instance stays in die reset with cause 3 and tries again after a DIE_RESET_RELEASE. -/
def pllLockTimeout (s : State) : State :=
  if !s.rst.lockDue || s.running then s
  else { s.wr RST_CAUSE_cause 0 3 with rst := { s.rst with lockDue := false, lastDie := true } }

/-! ### Stage CLEAR (R403, R427, R463) -/

/-- What discovery reads from the flash (R463): the signature, the basic table's revision by R10, log2 of the density in bytes, a
4 KiB erase type, 1-4-4 fast read and the quad-enable requirement. -/
structure Sfdp where
  sig : Bool
  rev : Nat
  dens : Nat
  erase4k : Bool
  fast : Bool
  qe : Nat
deriving DecidableEq, Repr

/-- The first requirement of R463 that fails, in its order. -/
def Sfdp.firstFail (x : Sfdp) : Option Nat :=
  [x.sig, decide (0x15 ≤ x.rev), decide (23 ≤ x.dens), x.erase4k, x.fast, decide (x.qe ≤ 5)].findIdx? (! ·)

/-- Discovery of the flash: NVM_STAT, or EV_NVM_DISCOVER. -/
def State.discover (s : State) (x : Sfdp) : State :=
  let s := if x.sig then (s.wr NVM_STAT_density 0 x.dens).wr NVM_STAT_sfdp 0 x.rev else s
  match x.firstFail with
  | some k => s.emit 17 1 [k, if x.sig then x.rev else 0]
  | none => (s.wr NVM_STAT_found 0 1).wr NVM_STAT_quad 0 1

/-- Stage FW_LOAD (R403 step 4): the images of FP3, FP0, FP1 and FP2 are read in that order. -/
def State.fwLoadStage (s : State) : State :=
  let s := if s.rd RST_SEQ_stage = 0 then s.wr RST_SEQ_stage 0 1 else s
  (foldTo 4 s fun s n => s.setFwState n 1).setFw { s.fw with loads := [3, 0, 1, 2], copyB := false }

/-- SRAM_CLEAR_DONE: the clear of a bank ends; the last one of stage CLEAR leads to FW_LOAD and discovery. -/
def sramClearDone (bank : Fin 18) (x : Sfdp) (s : State) : State :=
  if !s.clearing bank.val then s
  else
    let s := (s.clearBank bank.val).setMask MEM_STAT_clearing bank.val false
    if s.rd MEM_STAT_clearing = 0 ∧ s.rd FW_STAT_state = 0 then s.fwLoadStage.discover x else s

/-- SPI_PORT_RELEASE (R438): the SPI outputs go to high impedance, and what was to be programmed is not. -/
def spiPortRelease (s : State) : State :=
  if s.rd RST_SEQ_stage = 8 ∧ s.rd RST_SEQ_cause = 1 ∧ s.rst.failT + msT ≤ s.ts then
    (s.setNvm { s.nvm with portHigh := true, ops := [] }).wr NVM_STAT_busy 0 0
  else s

/-! ### The start-up take (R211, R225, R407, R408, R435, R469, R470) -/

/-- A context configuration of kind PI from its fields (R176). -/
def piCtx (k phase pred fail cls dkind dindex inw alt sp spc kp ki slew umin umax usafe lossN okN : Nat) : Nat :=
  1 + k * 2 ^ 8 + phase * 2 ^ 16 + pred * 2 ^ 32 + fail * 2 ^ 33 + cls * 2 ^ 40 + dkind * 2 ^ 48 + dindex * 2 ^ 64 + inw * 2 ^ 96
    + alt * 2 ^ 128 + sp * 2 ^ 160 + spc * 2 ^ 192 + kp * 2 ^ 224 + ki * 2 ^ 256 + slew * 2 ^ 288 + umin * 2 ^ 320 + umax * 2 ^ 352
    + usafe * 2 ^ 384 + lossN * 2 ^ 416 + okN * 2 ^ 424

/-- A source word of a code and index. -/
def srcWord (code idx : Nat) : Nat := code + 64 * idx

/-- The decimal n / d in binary32. -/
def dec32 (n d : Nat) : Nat := div32 (f32Of n 0) (f32Of d 0)

/-- The destination of node n's limiter (R225). -/
def limiterDest (n : Nat) : Nat × Nat := if n < 256 then (1, n / 4) else if n < 272 then (2, n - 256) else (6, 0)

/-- The thermal limiter of node n (R225). -/
def limiterCtx (n : Nat) : Nat :=
  piCtx 4 (n % 16) 0 1 2 (limiterDest n).1 (limiterDest n).2 (srcWord 0x08 n) 0 (srcWord 0x24 n) 0 (dec32 8 100) 0 (dec32 1 1) 0 (dec32 1 1)
    (dec32 1 4) 4 8

/-- The default contexts of R408; slope is CHK_SLOPE.slope as the take leaves it. -/
def defaultCtxs (slope : Nat) : SMap Nat :=
  (List.range 512).map (fun n => (n, limiterCtx n))
  ++ (List.range 512).map (fun t => (512 + t, piCtx 8 (t % 256) 0 0 4 7 t (srcWord 0x0A t) 0 (srcWord 0x22 t) 0 (dec32 4 1000) (dec32 2 10000)
      (dec32 1 1) 0 (dec32 1 1) (dec32 1 1) 4 8))
  ++ [(1024, piCtx 0 0 1 2 0 6 0 (srcWord 0x01 0) (srcWord 0x02 0) (srcWord 0x21 0) 0 (dec32 2 1000) (dec32 5 10000) (dec32 100 1) 0
        (dec32 1 1) (dec32 1 2) 3 8),
      (1025, piCtx 0 0 0 1 3 4 0 (srcWord 0x09 0) 0 (srcWord 0x20 0) (dec32 (9 * slope) 10) (dec32 5 10000) 0 (dec32 1000 1) (dec32 1 4)
        (dec32 1 1) (dec32 1 1) 3 8),
      (1026, piCtx 2 0 0 2 1 6 0 (srcWord 0x07 0) (srcWord 0x05 0) (srcWord 0x23 0) 0 (dec32 2 1000) (dec32 5 10000) (dec32 10 1)
        (dec32 1 4) (dec32 1 1) (dec32 1 2) 3 8)]

/-- A map with its elements at their places. -/
def mapOf (xs : List (Nat × List Nat)) : SMap (List Nat) := xs.foldl (fun m e => mput m e.1 e.2) []

/-- The thermal characterisation set in flash (R470), or why it cannot be used: 0 absent, 1 CRC. -/
def State.flashSet (s : State) : MSet ⊕ Nat :=
  let base := 0x100000
  if leNat (s.readFlash base 4) ≠ 0x4D485453 ∨ leNat (s.readFlash (base + 4) 1) ≠ 0x10 then .inr 0
  else if crcBytes (s.readFlash base 786448) ≠ leNat (s.readFlash (base + 786448) 4) then .inr 1
  else .inl { a := mapOf ((List.range 512).map fun n => (n, rowWords 512 (s.readFlash (base + 16 + 1024 * n) 1024))),
              b := mapOf ((List.range 512).map fun n => (n, rowWords 256 (s.readFlash (base + 524304 + 512 * n) 512))),
              ident := leNat (s.readFlash (base + 8) 4), period := leNat (s.readFlash (base + 12) 2) }

/-- FP0's generic set (R435), expanded: its entries over rows of zeros. -/
def State.genericSet (s : State) : MSet :=
  let off := leNat (s.readBank 14 24 4)
  let n := leNat (s.readBank 14 (off + 8) 4)
  let word (k o : Nat) : Nat := leNat (s.readBank 14 (off + 16 + 8 * k + o) 2)
  let zeroA := mapOf ((List.range 512).map fun r => (r, List.replicate 512 0))
  let zeroB := mapOf ((List.range 512).map fun r => (r, List.replicate 256 0))
  let put (m : SMap (List Nat)) (k : Nat) : SMap (List Nat) :=
    mput m (word k 0 % 512) ((mget m (word k 0 % 512) []).set (word k 2) (word k 4))
  let ab := (List.range n).foldl (fun (p : SMap (List Nat) × SMap (List Nat)) k => if word k 6 = 0 then (put p.1 k, p.2) else (p.1, put p.2 k))
    (zeroA, zeroB)
  { generic := true, a := ab.1, b := ab.2, ident := leNat (s.readBank 14 off 4), period := leNat (s.readBank 14 (off + 4) 2) }

/-- The set chosen under R211, and the reason for the generic one where it is that. -/
def State.startSet (s : State) : MSet × Option Nat :=
  match s.flashSet with
  | .inr c => (s.genericSet, some c)
  | .inl m => if ((s.layer { thm := some m }).check0060).isNone then (m, none) else (s.genericSet, some 2)

/-- Items 1 to 3 of the start-up take in a slate; the base values of the thermal rows stand in the staged copy. -/
def State.startItems (s : State) (slope : Nat) : Slate :=
  let o := THM_CTL_run.key / 32 * 4
  { state := 1, gen := ((s.slate 0).gen + 1) % 8192, thm := true, ctxs := (defaultCtxs slope).map fun e => (e.1 * 4, e.2),
    regs := [(o * 4, (s.wr THM_CTL_run 0 1).rwtWord o)] }

/-- The board record in flash (R469): status 0 with its autostart flag and its entries' bytes, 1 absent, 2 CRC fails. -/
def State.boardRecord (s : State) : Nat × Bool × Nat × List Byte :=
  let base := 0x50000
  let len := leNat (s.readFlash (base + 8) 4)
  if leNat (s.readFlash base 4) ≠ 0x44524142 ∨ leNat (s.readFlash (base + 4) 1) ≠ 0x11 then (1, false, 0, [])
  else if 65536 < len ∨ len < 20 ∨ crcBytes (s.readFlash base (len - 4)) ≠ leNat (s.readFlash (base + len - 4) 4) then (2, false, 0, [])
  else (0, bit (leNat (s.readFlash (base + 5) 1)) 0, leNat (s.readFlash (base + 6) 2), s.readFlash (base + 16) (len - 20))

/-- Stage n entries from their bytes into slate 0; the first that SLATE_WRITE's rules refuse, as status and index. -/
def State.boardEntries (s : State) : Nat → List Byte → State × Option (Nat × Nat)
  | 0, _ => (s, none)
  | n + 1, b =>
    let idx := fieldAt b 4 4
    let len := fieldAt b 8 4
    let r := s.stageWrite 0 (fieldAt b 0 2) idx len ((b.drop 16).take len)
    if r.2 ≠ 0 ∨ b.length < 16 + len then (s, some (if r.2 = 0 then 0x0105 else r.2, idx))
    else r.1.boardEntries n (b.drop (16 + (len + 7) / 8 * 8))

/-- What the start-up take writes from slate 0; a set no row of which was staged over is as it was chosen. In Glatos D each instance
applies its own ring entries, no role being held yet (R414). -/
def State.startShadow (s : State) : Shadow :=
  let x := s.slate 0
  let same := x.rowsA.isEmpty && x.rowsB.isEmpty && x.hdr.isNone
  { s.shadowOf x with rings := x.rings, thm := if same then s.thm.staged else some (s.stagedSet x) }

/-- Stage items 1 to 3 in slate 0, and the board record behind them where it is to be taken. -/
def State.startStage (s : State) (set : MSet) (slope : Nat) : State :=
  (s.setThm { s.thm with staged := some set }).setSlateRaw 0 (s.startItems slope)

/-- The slope limit that the staged lines leave, or the one in force. -/
def State.stagedSlope (s : State) : Nat := (s.layer s.startShadow).rd CHK_SLOPE_slope

/-- Context 1,025 follows the slope limit as the take leaves it, unless the board record has replaced it (R408). -/
def State.fixSlope (s : State) (slope : Nat) : State :=
  let x := s.slate 0
  let key := 1025 * 4
  let old := mget (s.startItems slope).ctxs key 0
  if mget x.ctxs key 0 = old then s.setSlateRaw 0 { x with ctxs := mput x.ctxs key (mget (s.startItems s.stagedSlope).ctxs key 0) } else s

/-- The stage after CONFIG (R402, R407, R412). -/
def State.afterConfig (s : State) (auto : Bool) : State :=
  let s := { s with rst := { s.rst with config := true } }
  if s.flag RST_CAUSE_crowbar then (s.wr RST_SEQ_stage 0 9).wr RST_SEQ_cause 0 4
  else if s.flag RST_CAUSE_shutdown then (s.wr RST_SEQ_stage 0 9).wr RST_SEQ_cause 0 5
  else if auto then (s.wr RST_SEQ_auto 0 1).enterPowerUp
  else s.wr RST_SEQ_stage 0 3

/-- Apply the start-up take as take number 1. -/
def State.startApply (s : State) (auto : Bool) : State :=
  let h := s.handleOf 0
  let sh := s.startShadow
  let s := s.nextTake.emit 6 1 [h, sh.lines, s.ts % 2 ^ 32, 0]
  (((s.applyShadow sh).freeSlate 0).showBudget).afterConfig auto

/-- The start-up take's own items staged afresh, without the board record's. -/
def State.startAlone (s : State) (set : MSet) (slope : Nat) : State :=
  ((s.freeSlate 0).setSlt { s.slt with slates := mdel s.slt.slates 0 }).startStage set slope

/-- The start-up take with the board record's n entries in the bytes b. -/
def State.boardTake (s : State) (set : MSet) (slope : Nat) (b : Bool × Nat × List Byte) : State :=
  let r := (s.startStage set slope).boardEntries b.2.1 b.2.2
  let t := r.1.fixSlope slope
  match r.2.orElse fun _ => t.checkShadow t.startShadow with
  | none => t.startApply b.1
  | some f =>
    let t := ((t.refuseSlate (t.handleOf 0) f (t.rd GEN_CFG_die)).wr RST_SEQ_board 0 3).emit 2 4 [3, f.1, f.2]
    (t.startAlone set slope).startApply false

/-- EV_THM_GENERIC where FP0 falls back to its generic set (R211). -/
def State.startSetEvent (s : State) : State :=
  match s.startSet.2 with
  | some r => s.emit 11 10 [r]
  | none => s

/-- The start-up take without a usable board record, b saying why. -/
def State.bareTake (s : State) (set : MSet) (slope b : Nat) : State :=
  let s := s.wr RST_SEQ_board 0 b
  let s := if b = 2 then s.emit 2 4 [2, 0, 0] else s
  (s.startStage set slope).startApply false

/-- FP0 is ready to make the start-up take: it runs, and in stage LATCHED every processor does (R407). -/
def State.startReady (s : State) : Bool :=
  let st := s.rd RST_SEQ_stage
  s.fwRunning 0 && (decide (st = 2) || (decide (st = 9) && (List.range 4).all fun n => s.fwRunning n))

/-- STARTUP_TAKE: FP0 chooses the set, stages the slate and takes it, in one hub cycle (R407). -/
def startupTake (s : State) : State :=
  if s.rst.config || !s.startReady then s
  else if s.boardRecord.1 = 0 then s.startSetEvent.boardTake s.startSet.1 (s.rd CHK_SLOPE_slope) s.boardRecord.2
  else s.startSetEvent.bareTake s.startSet.1 (s.rd CHK_SLOPE_slope) s.boardRecord.1

/-! ### Readiness and shutdown (R409 to R411, R415) -/

/-- QUEFA_READY_ASSERT: the conditions of R409 hold; from FAULT every auxiliary rail must still be good (R411). -/
def quefaReadyAssert (s : State) : State :=
  let st := s.rd RST_SEQ_stage
  let good := decide (st = 4) || (decide (st = 10) && s.rails.all fun r => decide (s.railState r = 3))
  if good && decide (s.rd PMB_STAT_seq = 3) && decide (s.rd VRC_STAT_state = 2) && decide (s.rd FCS_SLOT_state 0 = 2) && s.rst.config then
    let s := (s.wr RST_SEQ_stage 0 5).wr RST_SEQ_cause 0 0
    let fresh (e : Nat × Chk) : Nat × Chk := (e.1, { e.2 with started := false })
    let s := { s with pins := { s.pins with ready := true }, chks := s.chks.map fresh }
    s.emit 2 2 [1, 0]
  else s

/-- SHUTDOWN_DRAIN_DONE (R415 step 2). -/
def shutdownDrainDone (s : State) : State :=
  match s.rst.downT with
  | some t =>
    if s.rd RST_SEQ_stage = 6 ∧ !s.rst.drained ∧ t + s.rd RST_START_drain * usT ≤ s.ts then
      let s := { s with rst := { s.rst with drained := true } }
      ((s.readyNegate 4).powerDown).pmbSettle
    else s
  | none => s

/-- POWER_DOWN_END (R415 step 3): the sequence of R169 has ended. -/
def powerDownEnd (s : State) : State :=
  match s.rst.downT with
  | some t =>
    if s.rd RST_SEQ_stage = 6 ∧ s.rst.drained ∧ s.rd PMB_STAT_seq ≠ 4 then
      let s := (s.mirrorCause 3).wr RST_SEQ_stage 0 7
      { s.emit 2 5 [roundNEN (s.ts - t) usT] with rst := { s.rst with downT := none, drained := false } }
    else s
  | none => s

/-! ### The meanings -/

def execSupplyRise (s : State) : Ans := .next (supplyRise s)
def execSupplyRemoval (s : State) : Ans := .next (supplyRemoval s)
def execVddQfFall (s : State) : Ans := .next (vddQfFall s)
def execPoresetAssert (s : State) : Ans := .next (poresetAssert s)
def execPoresetNegate (s : State) : Ans := .next (poresetNegate s)
def execRefclkLoss (s : State) : Ans := .next (refclkLoss s)
def execPllLockLoss (s : State) : Ans := .next (pllLockLoss s)
def execDieResetRelease (s : State) : Ans := .next (dieResetRelease s)
def execPllLock (s : State) : Ans := .next (pllLock s)
def execPllLockTimeout (s : State) : Ans := .next (pllLockTimeout s)
def execSramClearDone (bank : Fin 18) (sig : Bool) (rev dens : BitVec 8) (erase4k fast : Bool) (qe : BitVec 3) (s : State) : Ans :=
  hubOn (sramClearDone bank { sig := sig, rev := rev.toNat, dens := dens.toNat, erase4k := erase4k, fast := fast, qe := qe.toNat }) s
def execSpiPortRelease (s : State) : Ans := hubOn spiPortRelease s
def execStartupTake (s : State) : Ans := hubOn startupTake s
def execQuefaReadyAssert (s : State) : Ans := hubOn quefaReadyAssert s
def execShutdownDrainDone (s : State) : Ans := hubOn shutdownDrainDone s
def execPowerDownEnd (s : State) : Ans := hubOn powerDownEnd s

end Sys2Proof.Machine
end

