-- ==== Sys2Proof/Machine/Boundary.lean ====
section
/-!
DEFINITION. Machine/Boundary.lean: ESTIMATOR_TICK with what else the tick and millisecond boundaries bring (R60, R199, R223, R230, R321,
R368, R389, R480, R484, R492, R506).
-/
namespace Sys2Proof.Machine

/-- EVT_DROP.qmax: the recorder's deepest queue of the millisecond (R484). -/
def State.evtBoundary (s : State) : State :=
  State.wr { s with recd := { s.recd with deep := s.recd.queue.length } } EVT_DROP_qmax 0 (min 255 s.recd.deep)

/-- EV_SLT_RWT_WRITE of the millisecond (R321, R333). -/
def State.rwtBoundary (s : State) : State :=
  if s.slt.rwtMs = 0 then s
  else (s.emit 6 7 [s.rd SLT_RWT_offset, s.slt.rwtMs]).setSlt { s.slt with rwtMs := 0 }

/-- The end of an aligned millisecond (R544). -/
def State.msEnd (s : State) : State :=
  (((((s.vrcBoundary.fcsEvents.lpeBoundary.thmBoundary).xovrBoundary).smbBoundary).trcBoundary).rwtBoundary).evtBoundary

/-- ESTIMATOR_TICK: at each tick boundary, once, the open tick closes. parts are the slots and bytes that windows still open have
begun before it, by choker (R58). -/
def estimatorBoundary (parts : List (Fin 320 × List (BitVec 8 × Fin 65) × Fin 65 × BitVec 32)) (s : State) : State :=
  if s.ts % usT ≠ 0 ∨ s.ts / usT ≤ s.sns.ticked then s
  else
    let s := parts.foldl State.tickSlots s
    let zs := s.zeroesDue
    let s := ((estimatorTick s).cntZeroDone zs).bridgeIdle
    if s.ts % msT = 0 then s.msEnd else s

def execEstimatorTick (parts : List (Fin 320 × List (BitVec 8 × Fin 65) × Fin 65 × BitVec 32)) (s : State) : Ans :=
  hubOn (estimatorBoundary parts) s

end Sys2Proof.Machine
end

