-- ==== Sys2Proof/Machine/Cycle.lean ====
section
/-!
DEFINITION. Machine/Cycle.lean: what happens as one hub cycle ends and the next begins, whatever is commanded (R42, R87, R114, R143, R236,
R361, R423, R425).
-/
namespace Sys2Proof.Machine

/-- A hub cycle ends: what R87, R236, R264 and R361 judge over the whole of it, the phases' history, and the banks' accesses. -/
def State.cycleEnd (s : State) : State := s.tlyEnd.fbJudge.thmTrip.mgtAllocate.notePhases.bankCycles

/-- A hub cycle begins: the feed-forward current is formed anew, and pulses in progress follow it (R114, R143). -/
def State.cycleStart (s : State) : State := s.formFF.moveEdges

/-- One hub cycle passes. -/
def State.hubCycle (s : State) : State :=
  let s := s.cycleEnd
  State.cycleStart { s with ts := s.ts + 1 }

end Sys2Proof.Machine
end

