-- ==== Sys2Proof/Machine/Tap.lean ====
section
/-!
DEFINITION. Machine/Tap.lean: the dispatch tap (R17 to R21) and what its strobes move.
-/
namespace Sys2Proof.Machine

/-- A tap violation (R21): counted, and recorded once per core per microsecond. -/
def State.tapViol (s : State) (core e seq : Nat) : State :=
  (s.count (cntCore core 2) 1).emitLim 15 1 core usT [core, e, seq]

/-- Keep the instants of a core's recent strobes; older ones than 800 units never count again (R104). -/
def keepT (s : State) (ts : List Nat) : List Nat := s.ts :: ts.filter fun t => s.ts < t + 800

/-- The record with its engine field naming the lane (R21). -/
def laneRec (rec e : Nat) : Nat := rec - rec % 4 + e

/-- A DISPATCH record reaches the hub: the features see it, and the prompt snapshot where one may be taken (R102, R104, R107). -/
def State.noteDispatch (s : State) (core rec : Nat) : State :=
  let f := s.fc core
  s.setFc core { f with prompt := f.prompt || (s.flag FCS_CTL_prompt_en && s.mayForecast core), dispT := keepT s f.dispT, lastDisp := some s.ts, lastTenant := some (bits rec 24 9) }

/-- DISPATCH (R18 to R21). -/
def dispatch (core : Fin 64) (engine : Fin 4) (rec : BitVec 128) (mismatch : Bool) (s : State) : State :=
  let c := chokerOf core engine
  let seq := bits rec.toNat 16 8
  if (s.core core).reset then s
  else if mismatch then s.crossErr 0
  else
    let l := s.lane c
    let s := if bits rec.toNat 0 2 ≠ engine then s.tapViol core engine seq else s
    if (findCmd l seq).isSome then s.tapViol core engine seq
    else if 128 ≤ (outst l).length then s.tapViol core engine seq
    else
      let r := laneRec rec.toNat engine
      let s := s.setLane c { l with cmds := l.cmds ++ [{ word := r, spec := bit r 11 }] }
      s.noteDispatch core r

/-- Whether a begun command holds a tally granted for it (R23, R263). -/
def State.holdsTally (s : State) (c seq : Nat) : Bool :=
  match s.objOf c seq false with
  | some o => decide ((s.obj o).state = 2) || decide ((s.obj o).state = 3)
  | none => false

/-- BEGIN_STROBE (R20, R21, R118, R263, R495). -/
def beginStrobe (core : Fin 64) (engine : Fin 4) (seq : BitVec 8) (s : State) : State :=
  let c := chokerOf core engine
  let q := seq.toNat
  if (s.core core).reset then s else
  let l := s.lane c
  let f := s.fc core
  let s := s.setFc core { f with beginT := keepT s f.beginT }
  match findCmd l q with
  | none =>
    ((s.setLane c { l with unkBusy := true, unkWin := true }).tapViol core engine q).traceCmd c false (s.stepping c) true q 0
  | some m =>
    if m.begun then ((s.tapViol core engine q).traceCmd c false m.stepped false q m.word)
    else
      let st := s.stepping c
      let started (x : Cmd) : Cmd :=
        if !x.ended && decide (bits x.word 16 8 = q) then { x with begun := true, spec := false, stepped := st } else x
      let s := s.setLane c { l with cmds := l.cmds.map started }
      let s := if s.holdsTally c q then s else (s.bump TLY_VIOL_nogrant).misuse c 4 0 q
      let s := s.count (cntTenant (bits m.word 24 9) 4) 1
      let s := s.traceCmd c false st false q m.word
      s.resolveCmd core engine q false

/-- END_STROBE (R20, R21, R247, R495). -/
def endStrobe (core : Fin 64) (engine : Fin 4) (seq : BitVec 8) (s : State) : State :=
  let c := chokerOf core engine
  let q := seq.toNat
  if (s.core core).reset then s else
  let l := s.lane c
  let f := s.fc core
  let s := s.setFc core { f with endT := keepT s f.endT }
  match findCmd l q with
  | none =>
    let s := s.setLane c { l with unkBusy := false }
    (s.tapViol core engine q).traceCmd c true (s.stepping c) true q 0
  | some m =>
    let cmds := if m.begun then
        l.cmds.map fun x => if !x.ended && decide (bits x.word 16 8 = q) then { x with ended := true } else x
      else l.cmds.filter fun x => x.ended || decide (bits x.word 16 8 ≠ q)
    let s := s.setLane c { l with cmds := cmds, unkBusy := false }
    let s := match s.objOf c q false with
      | some o => s.setObj o { s.obj o with ended := true }
      | none => s
    let s := s.traceCmd c true m.stepped false q m.word
    if m.begun then s else s.resolveCmd core engine q false

/-- The commands a squash from seq on discards: dispatched no earlier and not begun (R20). -/
def squashed (l : Lane) (q : Nat) : List Cmd :=
  l.cmds.filter fun x => !x.ended && !x.begun && (decide (bits x.word 16 8 = q) || laterSer (bits x.word 16 8) q 8)

/-- SQUASH_STROBE (R20, R118, R245, R247). -/
def squashStrobe (core : Fin 64) (engine : Fin 4) (seq : BitVec 8) (s : State) : State :=
  let c := chokerOf core engine
  let q := seq.toNat
  if (s.core core).reset then s else
  let l := s.lane c
  let gone := squashed l q
  let f := s.fc core
  let s := s.setFc core { f with sqT := keepT s f.sqT }
  let s := s.setLane c { l with cmds := l.cmds.filter fun x => !decide (x ∈ gone) }
  let s := gone.foldl (fun s m =>
    let k := bits m.word 16 8
    let s := match s.objOf c k false with
      | some o => s.freeObj o
      | none => s
    let l := s.lane c
    let held := (l.req.toList ++ l.early).filter fun r => decide (r.seq = k)
    let s := if held.isEmpty then s
      else (held.foldl (fun s _ => s.refuseReq c k) (s.setLane c (l.dropSeq k))).showHeld c
    s.resolveCmd core engine k true) s
  s

def execDispatch (core : Fin 64) (engine : Fin 4) (rec : BitVec 128) (mismatch : Bool) (s : State) : Ans :=
  hubOn (dispatch core engine rec mismatch) s
def execBeginStrobe (core : Fin 64) (engine : Fin 4) (seq : BitVec 8) (s : State) : Ans := hubOn (beginStrobe core engine seq) s
def execEndStrobe (core : Fin 64) (engine : Fin 4) (seq : BitVec 8) (s : State) : Ans := hubOn (endStrobe core engine seq) s
def execSquashStrobe (core : Fin 64) (engine : Fin 4) (seq : BitVec 8) (s : State) : Ans := hubOn (squashStrobe core engine seq) s

end Sys2Proof.Machine
end

