-- ==== Sys2Proof/Machine/All.lean ====
section
/-!
DEFINITION. Machine/All.lean: every family of meanings, for Machine/Dispatch.lean.
-/
end

