-- ==== Sys2Proof/Machine/Dispatch.lean ====
section
/-!
DEFINITION. Machine/Dispatch.lean: one arm per command, each one direct call of its meaning.
-/
namespace Sys2Proof.Machine

def exec (i : Instr) (s : State) : Host.Outcome State Fault Refusal :=
  match i with
  | .supplyRise => Sys2Proof.Machine.execSupplyRise s
  | .supplyRemoval => Sys2Proof.Machine.execSupplyRemoval s
  | .poresetAssert => Sys2Proof.Machine.execPoresetAssert s
  | .poresetNegate => Sys2Proof.Machine.execPoresetNegate s
  | .refclkLoss => Sys2Proof.Machine.execRefclkLoss s
  | .pllLockLoss => Sys2Proof.Machine.execPllLockLoss s
  | .dieResetRelease => Sys2Proof.Machine.execDieResetRelease s
  | .pllLock => Sys2Proof.Machine.execPllLock s
  | .pllLockTimeout => Sys2Proof.Machine.execPllLockTimeout s
  | .sramClearDone bank sig rev dens erase4k fast qe => Sys2Proof.Machine.execSramClearDone bank sig rev dens erase4k fast qe s
  | .fwImageLoaded n readOk => Sys2Proof.Machine.execFwImageLoaded n readOk s
  | .spiPortRelease => Sys2Proof.Machine.execSpiPortRelease s
  | .fp3StartupRestore => Sys2Proof.Machine.execFp3StartupRestore s
  | .slot0Load => Sys2Proof.Machine.execSlot0Load s
  | .startupTake => Sys2Proof.Machine.execStartupTake s
  | .quefaReadyAssert => Sys2Proof.Machine.execQuefaReadyAssert s
  | .outpostReset link n => Sys2Proof.Machine.execOutpostReset link n s
  | .outpostRelease link n => Sys2Proof.Machine.execOutpostRelease link n s
  | .lnModeChange core level => Sys2Proof.Machine.execLnModeChange core level s
  | .dispatch core engine rec mismatch => Sys2Proof.Machine.execDispatch core engine rec mismatch s
  | .beginStrobe core engine seq => Sys2Proof.Machine.execBeginStrobe core engine seq s
  | .endStrobe core engine seq => Sys2Proof.Machine.execEndStrobe core engine seq s
  | .squashStrobe core engine seq => Sys2Proof.Machine.execSquashStrobe core engine seq s
  | .tallyRequest core engine seq coll mismatch => Sys2Proof.Machine.execTallyRequest core engine seq coll mismatch s
  | .tallyRequestPresent choker => Sys2Proof.Machine.execTallyRequestPresent choker s
  | .tallyAdmit tenant => Sys2Proof.Machine.execTallyAdmit tenant s
  | .tallyGrant pool => Sys2Proof.Machine.execTallyGrant pool s
  | .tallyRelease core engine id gen => Sys2Proof.Machine.execTallyRelease core engine id gen s
  | .tallyAutoRelease core engine seq => Sys2Proof.Machine.execTallyAutoRelease core engine seq s
  | .requestAged pool => Sys2Proof.Machine.execRequestAged pool s
  | .reservationTake pool => Sys2Proof.Machine.execReservationTake pool s
  | .reservationMet pool => Sys2Proof.Machine.execReservationMet pool s
  | .reservationRecall pool => Sys2Proof.Machine.execReservationRecall pool s
  | .recallNoProgress => Sys2Proof.Machine.execRecallNoProgress s
  | .recallEligible choker => Sys2Proof.Machine.execRecallEligible choker s
  | .tallyRegrant pool => Sys2Proof.Machine.execTallyRegrant pool s
  | .chokerWindow choker slots unk bytes => Sys2Proof.Machine.execChokerWindow choker slots unk bytes s
  | .rampTick => Sys2Proof.Machine.execRampTick s
  | .droopDetect core n drops => Sys2Proof.Machine.execDroopDetect core n drops s
  | .droopHoldExpire core => Sys2Proof.Machine.execDroopHoldExpire core s
  | .snsDrpForceWrite core v n => Sys2Proof.Machine.execSnsDrpForceWrite core v n s
  | .vrAlertAssert => Sys2Proof.Machine.execVrAlertAssert s
  | .vrAlertNegate => Sys2Proof.Machine.execVrAlertNegate s
  | .firebreakHoldoffExpire => Sys2Proof.Machine.execFirebreakHoldoffExpire s
  | .tlmFrame lane frame overrun => Sys2Proof.Machine.execTlmFrame lane frame overrun s
  | .tlmLaneDark lane => Sys2Proof.Machine.execTlmLaneDark lane s
  | .phaseStale phase => Sys2Proof.Machine.execPhaseStale phase s
  | .phaseFrozen phase => Sys2Proof.Machine.execPhaseFrozen phase s
  | .phaseTempStale phase => Sys2Proof.Machine.execPhaseTempStale phase s
  | .anchorConversion a ok raw => Sys2Proof.Machine.execAnchorConversion a ok raw s
  | .anchorPublish => Sys2Proof.Machine.execAnchorPublish s
  | .estimatorTick parts => Sys2Proof.Machine.execEstimatorTick parts s
  | .measFinalise => Sys2Proof.Machine.execMeasFinalise s
  | .calibrationApply => Sys2Proof.Machine.execCalibrationApply s
  | .periodicSnapshot core => Sys2Proof.Machine.execPeriodicSnapshot core s
  | .promptSnapshot core => Sys2Proof.Machine.execPromptSnapshot core s
  | .forecastOutput slice => Sys2Proof.Machine.execForecastOutput slice s
  | .fcstLoadComplete ok img peer slot => Sys2Proof.Machine.execFcstLoadComplete ok img peer slot s
  | .thermalStep => Sys2Proof.Machine.execThermalStep s
  | .thermalStepComplete => Sys2Proof.Machine.execThermalStepComplete s
  | .bandFall => Sys2Proof.Machine.execBandFall s
  | .shutdownDrainExpire => Sys2Proof.Machine.execShutdownDrainExpire s
  | .modelInit => Sys2Proof.Machine.execModelInit s
  | .reinitRecover => Sys2Proof.Machine.execReinitRecover s
  | .anchorCorrection => Sys2Proof.Machine.execAnchorCorrection s
  | .cplateLocal => Sys2Proof.Machine.execCplateLocal s
  | .thmTinWrite v => Sys2Proof.Machine.execThmTinWrite v s
  | .pidSample v => Sys2Proof.Machine.execPidSample v s
  | .vrefRampStep => Sys2Proof.Machine.execVrefRampStep s
  | .enableDrop => Sys2Proof.Machine.execEnableDrop s
  | .pwmPeriodStart => Sys2Proof.Machine.execPwmPeriodStart s
  | .phaseLeadingEdge phase => Sys2Proof.Machine.execPhaseLeadingEdge phase s
  | .deEnter => Sys2Proof.Machine.execDeEnter s
  | .iTotFormed => Sys2Proof.Machine.execITotFormed s
  | .uvTimeout => Sys2Proof.Machine.execUvTimeout s
  | .overVoltage => Sys2Proof.Machine.execOverVoltage s
  | .lastFaultFlashWrite => Sys2Proof.Machine.execLastFaultFlashWrite s
  | .trackDelivery vm => Sys2Proof.Machine.execTrackDelivery vm s
  | .trackHoldTimeout => Sys2Proof.Machine.execTrackHoldTimeout s
  | .pmbTransactionDone result data => Sys2Proof.Machine.execPmbTransactionDone result data s
  | .pmbGroupStart => Sys2Proof.Machine.execPmbGroupStart s
  | .pmbGroupTimeout => Sys2Proof.Machine.execPmbGroupTimeout s
  | .pmbGroupRetry => Sys2Proof.Machine.execPmbGroupRetry s
  | .pmbGroupOffTimeout => Sys2Proof.Machine.execPmbGroupOffTimeout s
  | .pmbSweepStart => Sys2Proof.Machine.execPmbSweepStart s
  | .pmbAlert low => Sys2Proof.Machine.execPmbAlert low s
  | .pmbBusStuck still => Sys2Proof.Machine.execPmbBusStuck still s
  | .loopRelease n overrun => Sys2Proof.Machine.execLoopRelease n overrun s
  | .loopSkip => Sys2Proof.Machine.execLoopSkip s
  | .loopEvaluation late => Sys2Proof.Machine.execLoopEvaluation late s
  | .reconciliation other oh omc oma oheld => Sys2Proof.Machine.execReconciliation other oh omc oma oheld s
  | .doorbellProdWrite off v => Sys2Proof.Machine.execDoorbellProdWrite off v s
  | .doorbellCqHeadWrite off v => Sys2Proof.Machine.execDoorbellCqHeadWrite off v s
  | .doorbellBadAccess off write width v => Sys2Proof.Machine.execDoorbellBadAccess off write width v s
  | .doorbellStray off => Sys2Proof.Machine.execDoorbellStray off s
  | .bucketLeak => Sys2Proof.Machine.execBucketLeak s
  | .descriptorFetched r ok bytes => Sys2Proof.Machine.execDescriptorFetched r ok bytes s
  | .fp2Turn => Sys2Proof.Machine.execFp2Turn s
  | .fabricError kind ring idx => Sys2Proof.Machine.execFabricError kind ring idx s
  | .hello => Sys2Proof.Machine.execHello s
  | .slateOpen => Sys2Proof.Machine.execSlateOpen s
  | .slateWrite data => Sys2Proof.Machine.execSlateWrite data s
  | .slateCheck => Sys2Proof.Machine.execSlateCheck s
  | .take => Sys2Proof.Machine.execTake s
  | .abandon => Sys2Proof.Machine.execAbandon s
  | .jobOpen => Sys2Proof.Machine.execJobOpen s
  | .jobClose => Sys2Proof.Machine.execJobClose s
  | .readEnergy => Sys2Proof.Machine.execReadEnergy s
  | .setTenantCap => Sys2Proof.Machine.execSetTenantCap s
  | .fcstLoad => Sys2Proof.Machine.execFcstLoad s
  | .traceStart => Sys2Proof.Machine.execTraceStart s
  | .traceStop => Sys2Proof.Machine.execTraceStop s
  | .traceFlush => Sys2Proof.Machine.execTraceFlush s
  | .cntDump => Sys2Proof.Machine.execCntDump s
  | .cntZero => Sys2Proof.Machine.execCntZero s
  | .stepEnter => Sys2Proof.Machine.execStepEnter s
  | .stepAdd => Sys2Proof.Machine.execStepAdd s
  | .stepLeave => Sys2Proof.Machine.execStepLeave s
  | .stepPresent choker => Sys2Proof.Machine.execStepPresent choker s
  | .evtRead => Sys2Proof.Machine.execEvtRead s
  | .evtClear => Sys2Proof.Machine.execEvtClear s
  | .timeSet => Sys2Proof.Machine.execTimeSet s
  | .quarantineResume => Sys2Proof.Machine.execQuarantineResume s
  | .quarantineReset => Sys2Proof.Machine.execQuarantineReset s
  | .quarantineResetDrained t => Sys2Proof.Machine.execQuarantineResetDrained t s
  | .hifSctlWrite v => Sys2Proof.Machine.execHifSctlWrite v s
  | .takeArmed => Sys2Proof.Machine.execTakeArmed s
  | .takeApply parity => Sys2Proof.Machine.execTakeApply parity s
  | .shutdownDrainDone => Sys2Proof.Machine.execShutdownDrainDone s
  | .powerDownEnd => Sys2Proof.Machine.execPowerDownEnd s
  | .rwtDirectWrite priv wide off => Sys2Proof.Machine.execRwtDirectWrite priv wide off s
  | .registerWrite priv wide off v => Sys2Proof.Machine.execRegisterWrite priv wide off v s
  | .registerLowWordRead aperture master priv wide off => Sys2Proof.Machine.execRegisterLowWordRead aperture master priv wide off s
  | .w1cWrite priv off v again => Sys2Proof.Machine.execW1cWrite priv off v again s
  | .snapshotSelect sel v => Sys2Proof.Machine.execSnapshotSelect sel v s
  | .memBuRead v ecc => Sys2Proof.Machine.execMemBuRead v ecc s
  | .memBuReadDone => Sys2Proof.Machine.execMemBuReadDone s
  | .fmStart v => Sys2Proof.Machine.execFmStart v s
  | .fmDone edges => Sys2Proof.Machine.execFmDone edges s
  | .evtCivLatch v => Sys2Proof.Machine.execEvtCivLatch v s
  | .wfgStart v => Sys2Proof.Machine.execWfgStart v s
  | .wfgAutoTrigger => Sys2Proof.Machine.execWfgAutoTrigger s
  | .wfgComplete => Sys2Proof.Machine.execWfgComplete s
  | .firmwareMemoryAccess master bank line write data ecc => Sys2Proof.Machine.execFirmwareMemoryAccess master bank line write data ecc s
  | .backgroundTest fails ecc => Sys2Proof.Machine.execBackgroundTest fails ecc s
  | .watchdogExpire n => Sys2Proof.Machine.execWatchdogExpire n s
  | .watchdogStrike n => Sys2Proof.Machine.execWatchdogStrike n s
  | .fwException n ecc => Sys2Proof.Machine.execFwException n ecc s
  | .eventRecordAccept => Sys2Proof.Machine.execEventRecordAccept s
  | .heartwoodProgram => Sys2Proof.Machine.execHeartwoodProgram s
  | .mirrorDeferExpire => Sys2Proof.Machine.execMirrorDeferExpire s
  | .flashOpDone => Sys2Proof.Machine.execFlashOpDone s
  | .flashOpTimeout st => Sys2Proof.Machine.execFlashOpTimeout st s
  | .smbIdent defined => Sys2Proof.Machine.execSmbIdent defined s
  | .smbStatus defined => Sys2Proof.Machine.execSmbStatus defined s
  | .smbTempHot defined => Sys2Proof.Machine.execSmbTempHot defined s
  | .smbAnchorLo defined => Sys2Proof.Machine.execSmbAnchorLo defined s
  | .smbAnchorHi defined => Sys2Proof.Machine.execSmbAnchorHi defined s
  | .smbTinRead defined => Sys2Proof.Machine.execSmbTinRead defined s
  | .smbTinWrite defined pec v => Sys2Proof.Machine.execSmbTinWrite defined pec v s
  | .smbPower defined => Sys2Proof.Machine.execSmbPower defined s
  | .smbLastfPageRead defined => Sys2Proof.Machine.execSmbLastfPageRead defined s
  | .smbLastfPageWrite defined pec v => Sys2Proof.Machine.execSmbLastfPageWrite defined pec v s
  | .smbLastf defined => Sys2Proof.Machine.execSmbLastf defined s
  | .smbEvtSel defined pec region num => Sys2Proof.Machine.execSmbEvtSel defined pec region num s
  | .smbEvtData defined inTime => Sys2Proof.Machine.execSmbEvtData defined inTime s
  | .smbTime defined => Sys2Proof.Machine.execSmbTime defined s
  | .smbBusTimeout => Sys2Proof.Machine.execSmbBusTimeout s
  | .traceConsumedReread v => Sys2Proof.Machine.execTraceConsumedReread v s
  | .traceHeaderUpdate => Sys2Proof.Machine.execTraceHeaderUpdate s
  | .traceGroupWrite => Sys2Proof.Machine.execTraceGroupWrite s
  | .traceTimeGroup => Sys2Proof.Machine.execTraceTimeGroup s
  | .traceSample => Sys2Proof.Machine.execTraceSample s
  | .fanPwmPeriod n => Sys2Proof.Machine.execFanPwmPeriod n s
  | .tachEdge n => Sys2Proof.Machine.execTachEdge n s
  | .tachTimeout n => Sys2Proof.Machine.execTachTimeout n s
  | .fanSpinupEnd n => Sys2Proof.Machine.execFanSpinupEnd n s
  | .fanRestEnd n => Sys2Proof.Machine.execFanRestEnd n s
  | .tsResync found => Sys2Proof.Machine.execTsResync found s
  | .dvfsRequest target => Sys2Proof.Machine.execDvfsRequest target s
  | .dvfsVoltageReady => Sys2Proof.Machine.execDvfsVoltageReady s
  | .dvfsSwitch => Sys2Proof.Machine.execDvfsSwitch s
  | .dvfsHalfParked => Sys2Proof.Machine.execDvfsHalfParked s
  | .dvfsLockTimeout => Sys2Proof.Machine.execDvfsLockTimeout s
  | .dvfsRetry => Sys2Proof.Machine.execDvfsRetry s
  | .mgtForward link m => Sys2Proof.Machine.execMgtForward link m s
  | .version link m => Sys2Proof.Machine.execVersion link m s
  | .demand link m => Sys2Proof.Machine.execDemand link m s
  | .grant link m => Sys2Proof.Machine.execGrant link m s
  | .heartbeat link m => Sys2Proof.Machine.execHeartbeat link m s
  | .leave link m => Sys2Proof.Machine.execLeave link m s
  | .csync link m => Sys2Proof.Machine.execCsync link m s
  | .csyncAck link m => Sys2Proof.Machine.execCsyncAck link m s
  | .clapReq link stamp m => Sys2Proof.Machine.execClapReq link stamp m s
  | .clapRsp link stamp m => Sys2Proof.Machine.execClapRsp link stamp m s
  | .clapRun => Sys2Proof.Machine.execClapRun s
  | .clapRunEnd => Sys2Proof.Machine.execClapRunEnd s
  | .epochBoundary => Sys2Proof.Machine.execEpochBoundary s
  | .demandSend => Sys2Proof.Machine.execDemandSend s
  | .salgorCutOff => Sys2Proof.Machine.execSalgorCutOff s
  | .csyncSend => Sys2Proof.Machine.execCsyncSend s
  | .grantSend => Sys2Proof.Machine.execGrantSend s
  | .orphanTimeout => Sys2Proof.Machine.execOrphanTimeout s
  | .versionResend => Sys2Proof.Machine.execVersionResend s
  | .coordinatorAlone => Sys2Proof.Machine.execCoordinatorAlone s
  | .bridgeUp => Sys2Proof.Machine.execBridgeUp s
  | .bridgeHb hdr body crc => Sys2Proof.Machine.execBridgeHb hdr body crc s
  | .bridgeSync hdr body crc => Sys2Proof.Machine.execBridgeSync hdr body crc s
  | .bridgeCkpt hdr body crc => Sys2Proof.Machine.execBridgeCkpt hdr body crc s
  | .bridgeMirror hdr body crc => Sys2Proof.Machine.execBridgeMirror hdr body crc s
  | .bridgeMack hdr body crc => Sys2Proof.Machine.execBridgeMack hdr body crc s
  | .bridgePrepare hdr body crc => Sys2Proof.Machine.execBridgePrepare hdr body crc s
  | .bridgeReady hdr body crc => Sys2Proof.Machine.execBridgeReady hdr body crc s
  | .bridgeRefuse hdr body crc => Sys2Proof.Machine.execBridgeRefuse hdr body crc s
  | .bridgeCommit hdr body crc => Sys2Proof.Machine.execBridgeCommit hdr body crc s
  | .bridgeAck hdr body crc => Sys2Proof.Machine.execBridgeAck hdr body crc s
  | .bridgeDone hdr body crc => Sys2Proof.Machine.execBridgeDone hdr body crc s
  | .bridgeAbort hdr body crc => Sys2Proof.Machine.execBridgeAbort hdr body crc s
  | .pairPrepareTimeout => Sys2Proof.Machine.execPairPrepareTimeout s
  | .bridgeDiepwr hdr body crc => Sys2Proof.Machine.execBridgeDiepwr hdr body crc s
  | .bridgePkg hdr body crc => Sys2Proof.Machine.execBridgePkg hdr body crc s
  | .bridgeCplate hdr body crc => Sys2Proof.Machine.execBridgeCplate hdr body crc s
  | .bridgeLedger hdr body crc => Sys2Proof.Machine.execBridgeLedger hdr body crc s
  | .bridgeSalg hdr body crc => Sys2Proof.Machine.execBridgeSalg hdr body crc s
  | .bridgePclapReq hdr body crc stamp => Sys2Proof.Machine.execBridgePclapReq hdr body crc stamp s
  | .bridgePclapRsp hdr body crc stamp => Sys2Proof.Machine.execBridgePclapRsp hdr body crc stamp s
  | .bridgeHandover hdr body crc => Sys2Proof.Machine.execBridgeHandover hdr body crc s
  | .bridgeRetransmit => Sys2Proof.Machine.execBridgeRetransmit s
  | .bridgeCheckpointTimer => Sys2Proof.Machine.execBridgeCheckpointTimer s
  | .bridgeLoss => Sys2Proof.Machine.execBridgeLoss s
  | .pairTakeover => Sys2Proof.Machine.execPairTakeover s
  | .pmbAlertMaskEnd => Sys2Proof.Machine.execPmbAlertMaskEnd s
  | .pmbBusFree => Sys2Proof.Machine.execPmbBusFree s
  | .coreStartDelay => Sys2Proof.Machine.execCoreStartDelay s
  | .vddQfFall => Sys2Proof.Machine.execVddQfFall s
  | .smbUndefinedCommand code => Sys2Proof.Machine.execSmbUndefinedCommand code s
  | .bridgeClapSend => Sys2Proof.Machine.execBridgeClapSend s

end Sys2Proof.Machine
end

