-- ==== Sys2Proof/Safety.lean ====
section
/-!
DEFINITION. Safety.lean: what a safe run of the block is, and the words that statements are made of.
-/
namespace Sys2Proof

/-- A run of n steps from s meets no fault and no refusal. -/
def RunsSafely (s : Machine.State) (n : Nat) : Prop := ∃ t, core.run n s = .next t

namespace Machine

/-- The canonical form of both memories: addresses strictly rising and no entry equal to what an unlisted address reads as. -/
def State.memoriesOk (s : State) : Bool := memOk s.mem bankDefault && memOk s.flash flashDefault

/-- The command answers a next state, which has the property. -/
def Answers (c : Instr) (s : State) (p : State → Prop) : Prop := ∃ t, exec c s = .next t ∧ p t

/-- Where the recorder's queue has room, an event of the unit with the parameters stands in it in t, at the timestamp of s (R447,
R449, R451). -/
def Recorded (s t : State) (unit idx : Nat) (ps : List Nat) : Prop :=
  s.recd.queue.length < 64 → ∃ r ∈ t.recd.queue, r.code = evCode unit idx ∧ r.params = evParams ps ∧ r.ts = s.ts

/-- The components of State beside the registers. -/
inductive Part where
  | pending | running | ts | fuse | mem | flash | out | recd | cnt | cntPend | lanes | chks | droops | cores | tly
  | ramp | sns | fcs | lpe | trc | wfg | cntZero | dvfs | pins | vrc | pmb | acc | thm | hif | slt | par | nvm | smb
  | fw | rst | hub | fans | mgt | xovrMs
deriving DecidableEq, Repr

/-- A component is the same in both states. -/
def Part.same (s t : State) : Part → Prop
  | .pending => t.pending = s.pending
  | .running => t.running = s.running
  | .ts => t.ts = s.ts
  | .fuse => t.fuse = s.fuse
  | .mem => t.mem = s.mem
  | .flash => t.flash = s.flash
  | .out => t.out = s.out
  | .recd => t.recd = s.recd
  | .cnt => t.cnt = s.cnt
  | .cntPend => t.cntPend = s.cntPend
  | .lanes => t.lanes = s.lanes
  | .chks => t.chks = s.chks
  | .droops => t.droops = s.droops
  | .cores => t.cores = s.cores
  | .tly => t.tly = s.tly
  | .ramp => t.ramp = s.ramp
  | .sns => t.sns = s.sns
  | .fcs => t.fcs = s.fcs
  | .lpe => t.lpe = s.lpe
  | .trc => t.trc = s.trc
  | .wfg => t.wfg = s.wfg
  | .cntZero => t.cntZero = s.cntZero
  | .dvfs => t.dvfs = s.dvfs
  | .pins => t.pins = s.pins
  | .vrc => t.vrc = s.vrc
  | .pmb => t.pmb = s.pmb
  | .acc => t.acc = s.acc
  | .thm => t.thm = s.thm
  | .hif => t.hif = s.hif
  | .slt => t.slt = s.slt
  | .par => t.par = s.par
  | .nvm => t.nvm = s.nvm
  | .smb => t.smb = s.smb
  | .fw => t.fw = s.fw
  | .rst => t.rst = s.rst
  | .hub => t.hub = s.hub
  | .fans => t.fans = s.fans
  | .mgt => t.mgt = s.mgt
  | .xovrMs => t.xovrMs = s.xovrMs

/-- What a command leaves: every register field element whose bit address is no element's of a field of fs, outside the blocks us, reads
as before, and so does every component outside ps. -/
def Keeps (fs : List Fld) (us : List Nat) (ps : List Part) (s t : State) : Prop :=
  (∀ g i, (∀ f ∈ fs, ∀ j, g.keyOf i ≠ f.keyOf j) → min 23 (g.keyOf i / 0x20000) ∉ us → t.rd g i = s.rd g i) ∧
    ∀ p, p ∉ ps → p.same s t

end Machine
end Sys2Proof
end

