-- ==== Sys2Proof/Certificates/Slice0/Obligations.lean ====
section
/-!
DEFINITION. Certificates/Slice0/Obligations.lean: the statements for the provers. Each claim formalises the rules named in its docstring;
an obligation is the conjunction of claims of one kind.
-/
namespace Sys2Proof.Claims
open Machine

/-! ### Words of the claims -/

/-- The block puts an output out: it stands in what t has beyond what s had. -/
def Sent (s t : State) (o : Out) : Prop := s.out <+: t.out ∧ o ∈ t.out.drop s.out.length

/-- R300, R302: the next descriptor of the kind handed to its processor, which runs, on the instance that holds the package roles. -/
def InTurn (s : State) (p : Desc → Bool) (d : Desc) : Prop :=
  nextIn s.hif.units [] p = some d ∧ s.fwRunning (opUnit (dOp d.w)) = true ∧ s.holdsRoles = true

/-- R298, R313, R314, R370: a completion of the descriptor is written at once: its ring is the one it came from, not STOPPED, and no
secondary has to acknowledge it first. -/
def Reports (s : State) (d : Desc) : Prop :=
  (s.ring d.ring).gen = d.gen ∧ 1 ≤ (s.ring d.ring).st ∧ (s.ring d.ring).st ≤ 3 ∧ s.mirroring = false ∧ s.holdsRoles = true

/-- R298: the completion of the descriptor with a status and result pieces (offset, length, value) is written at the tail, which
advances. -/
def Completed (s t : State) (d : Desc) (status : Nat) (ps : List (Nat × Nat × Nat)) : Prop :=
  Sent s t (.fabricSplit (s.rCpl d.ring + 32 * ((s.ring d.ring).cqTail % s.rN d.ring)) (leBytes 4 (dTag d.w) ++ leBytes 2 status) 2
    (resultBytes ps)) ∧
  Sent s t (.fabricWrite (s.rCpl d.ring + 32 * ((s.ring d.ring).cqTail % s.rN d.ring) + 6)
    (leBytes 1 (dOp d.w) ++ leBytes 1 (s.phaseBit d.ring (s.ring d.ring).cqTail))) ∧
  (t.ring d.ring).cqTail = ((s.ring d.ring).cqTail + 1) % 2 ^ 32

/-- The state in which the meaning of the descriptor runs: it has left the units' queue. -/
def picked (s : State) (d : Desc) : State := { s with hif := { s.hif with units := s.hif.units.erase d } }

/-! ### Telemetry -/

/-- R41, R43: a frame accepted in SYNC, the next in sequence: the slot it names takes the temperature. -/
def tlmFrameAccepted : Prop :=
  ∀ (lane : Fin 18) (frame : BitVec 1000) (s : State), s.running = true → bit (s.rd SNS_CTL_lane_en) lane.val = true →
    s.rd SNS_TLM_STAT_state lane.val = 2 → syncErrors frame.toNat ≤ 1 → frameGood lane.val (unscramble frame.toNat) = true →
    (frSeq (unscramble frame.toNat) + 65536 - (s.tlane lane.val).lastSeq) % 65536 = 1 →
    Answers (.tlmFrame lane frame false) s fun t =>
      t.rd SNS_PHT (8 * lane.val + frTslot (unscramble frame.toNat)) = unsgn 16 (sgn 12 (frTemp (unscramble frame.toNat)) * 16)

/-- R52: a frame received in SYNC whose CRC fails is counted. -/
def tlmFrameCrc : Prop :=
  ∀ (lane : Fin 18) (frame : BitVec 1000) (s : State), s.running = true → bit (s.rd SNS_CTL_lane_en) lane.val = true →
    s.rd SNS_TLM_STAT_state lane.val = 2 → syncErrors frame.toNat ≤ 1 → frameCrcOk (unscramble frame.toNat) = false →
    Answers (.tlmFrame lane frame false) s fun t =>
      t.rd SNS_TLM_STAT_crc_err lane.val = (s.rd SNS_TLM_STAT_crc_err lane.val + 1) % 2 ^ 8

/-- R44: a dark lane enters HUNT and writes its event. -/
def tlmLaneDark : Prop :=
  ∀ (lane : Fin 18) (s : State), s.running = true → bit (s.rd SNS_CTL_lane_en) lane.val = true →
    Answers (.tlmLaneDark lane) s fun t => t.rd SNS_TLM_STAT_state lane.val = 0 ∧ Recorded s t 7 1 []

/-- R49: a phase without an accepted frame for the limit becomes STALE, quality code 2 where no code before it in R47 holds. -/
def phaseStale : Prop :=
  ∀ (p : Fin 144) (s : State), s.running = true → s.phaseOn p.val = true → (s.ph p.val).stale = false →
    (s.ph p.val).fault = false → (s.ph p.val).frozen = false →
    (s.tlane (p.val / 8)).lastTs + 640 * max 1 (s.rd SNS_FRZ_stale_frames) ≤ s.ts →
    Answers (.phaseStale p) s fun t => t.rd SNS_PHQ_quality p.val = 2 ∧ Recorded s t 7 3 [p.val, (s.ph p.val).lastSeq]

/-- R50: a phase whose code stays unchanged over the window becomes FROZEN, quality code 3. -/
def phaseFrozen : Prop :=
  ∀ (p : Fin 144) (s : State), s.running = true → s.phaseOn p.val = true → (s.ph p.val).frozen = false →
    (s.ph p.val).fault = false → max 64 (s.rd SNS_FRZ_frz_window) ≤ (s.ph p.val).run →
    Answers (.phaseFrozen p) s fun t => t.rd SNS_PHQ_quality p.val = 3 ∧ Recorded s t 7 4 [p.val, (s.ph p.val).code]

/-- R51: a temperature not refreshed for 1.25 ms reads 0x8000. -/
def phaseTempStale : Prop :=
  ∀ (p : Fin 144) (s : State), s.running = true → (s.ph p.val).tempSeen = true → (s.ph p.val).tempTs + 1000000 ≤ s.ts →
    Answers (.phaseTempStale p) s fun t => t.rd SNS_PHT p.val = 0x8000

/-! ### Tally -/

/-- A request as the port holds it: release mode keeps it from the hub (R89). -/
def heldReq (c : Nat) (seq : BitVec 8) (coll : Bool) (s : State) : PortReq :=
  { seq := seq.toNat, coll := coll, presented := !s.stepping c, since := s.ts }

/-- R242, R243, R245: a request that is not refused is held, and not answered: in the port, or behind the requests that the port holds
already. -/
def tallyRequestHeld : Prop :=
  ∀ (core : Fin 64) (engine : Fin 4) (seq : BitVec 8) (coll : Bool) (s : State), s.running = true →
    s.refused (chokerOf core engine) seq.toNat = false →
    Answers (.tallyRequest core engine seq coll false) s fun t =>
      heldReq (chokerOf core engine) seq coll s ∈
        (t.lane (chokerOf core engine)).req.toList ++ (t.lane (chokerOf core engine)).early ∧
      ((s.lane (chokerOf core engine)).req = none → (s.lane (chokerOf core engine)).early = [] →
        (t.lane (chokerOf core engine)).req = some (heldReq (chokerOf core engine) seq coll s)) ∧ t.out = s.out

/-- R245, R263: a refused request is answered REFUSED and counted. -/
def tallyRequestRefused : Prop :=
  ∀ (core : Fin 64) (engine : Fin 4) (seq : BitVec 8) (coll : Bool) (s : State), s.running = true →
    s.refused (chokerOf core engine) seq.toNat = true →
    Answers (.tallyRequest core engine seq coll false) s fun t =>
      Out.grantItem (chokerOf core engine) seq.toNat 0 0 1 ∈ t.out ∧ t.lanes = s.lanes ∧
        t.rd TLY_VIOL_bad_req = (s.rd TLY_VIOL_bad_req + 1) % 2 ^ TLY_VIOL_bad_req.width

/-- R244: the hub takes a presented request: the next fresh object waits for it with the amount of its table entry, cut to the
pool's capacity, and the port is empty again. -/
def tallyRequestPresent : Prop :=
  ∀ (c : Fin 256) (r : PortReq) (m : Cmd) (s : State), s.running = true → (s.lane c).req = some r → (s.lane c).early = [] →
    (r.presented = true ∨ s.stepping c = false) → findCmd (s.lane c) r.seq = some m → m.begun = false →
    s.objOf c r.seq false = none → earlierBegun (s.lane c) r.seq = true →
    s.rd TLY_TEN_ST_objects (bits m.word 24 9) < s.rd TLY_TEN_objmax (bits m.word 24 9) → s.tly.fresh < 8192 →
    Answers (.tallyRequestPresent c) s fun t =>
      (t.obj s.tly.fresh).state = 1 ∧ (t.obj s.tly.fresh).tenant = bits m.word 24 9 ∧ (t.obj s.tly.fresh).engine = c ∧
        (t.obj s.tly.fresh).amount = min (s.rd TLY_AMT_amount (c % 4 * 16 + bits m.word 2 4))
          (s.rd TLY_POOL_cap (if r.coll then s.rd TLY_PSEL_cpool c else s.rd TLY_PSEL_pool c)) ∧
        (t.lane c).req = none ∧ t.tly.fresh = s.tly.fresh + 1

/-- R249: the oldest unadmitted request of a tenant is admitted where the committed amounts stay within the quota. -/
def tallyAdmit : Prop :=
  ∀ (n : Fin 512) (o : Nat) (s : State), s.running = true → s.admHead n = some o →
    max (s.committedAtStart n) (s.rd TLY_TEN_ST_committed n) + (s.obj o).amount ≤ s.rd TLY_TEN_quota n →
    Answers (.tallyAdmit n) s fun t => (t.obj o).admitted = true ∧ (t.obj o).tAdm = s.ts ∧
      t.rd TLY_TEN_ST_committed n = (s.rd TLY_TEN_ST_committed n + (s.obj o).amount) % 2 ^ TLY_TEN_ST_committed.width

/-- R251, R252: the turn's tenant, its deficit covering its oldest request, which fits, is granted it and charged. -/
def tallyGrant : Prop :=
  ∀ (p : Fin 16) (r : Turn) (rest : List Turn) (o : Nat) (s : State), s.running = true → s.turnFree p = true → s.mayAct p = true →
    (s.poolSt p).round = r :: rest → s.headOf p r.tenant = some o →
    ((s.obj o).amount : Int) ≤
      (if r.visited then r.deficit else r.deficit + ((s.rd TLY_TEN_weight r.tenant * s.rd TLY_CFG_quantum : Nat) : Int)) →
    ((s.obj o).amount : Int) ≤ s.freeRoom p →
    Answers (.tallyGrant p) s fun t => (t.obj o).state = 2 ∧ (t.obj o).tGrant = s.ts ∧
      t.rd TLY_POOL_ST_used (s.obj o).pool =
        (s.rd TLY_POOL_ST_used (s.obj o).pool + (s.obj o).amount) % 2 ^ TLY_POOL_ST_used.width

/-- R246: a release with the id and gen of an object its engine holds frees the object and is answered 0. -/
def tallyRelease : Prop :=
  ∀ (core : Fin 64) (engine : Fin 4) (id : BitVec 13) (gen : BitVec 8) (s : State), s.running = true →
    (s.obj id.toNat).state ≠ 0 → (s.obj id.toNat).engine = chokerOf core engine → gen.toNat = (s.obj id.toNat).gen →
    Answers (.tallyRelease core engine id gen) s fun t =>
      (t.obj id.toNat).state = 0 ∧ (t.obj id.toNat).gen = ((s.obj id.toNat).gen + 1) % 256 ∧
        Out.releaseResp (chokerOf core engine) id.toNat 0 ∈ t.out

/-- R246, R263: a release of a free object, or of another engine's, is answered 1 and counted. -/
def tallyReleaseWrong : Prop :=
  ∀ (core : Fin 64) (engine : Fin 4) (id : BitVec 13) (gen : BitVec 8) (s : State), s.running = true →
    ((s.obj id.toNat).state = 0 ∨ (s.obj id.toNat).engine ≠ chokerOf core engine) →
    Answers (.tallyRelease core engine id gen) s fun t =>
      t.tly = s.tly ∧ Out.releaseResp (chokerOf core engine) id.toNat 1 ∈ t.out ∧
        t.rd TLY_VIOL_rel_err = (s.rd TLY_VIOL_rel_err + 1) % 2 ^ TLY_VIOL_rel_err.width

/-- R247: the tally of an ended command that the port did not release in time is freed and counted. -/
def tallyAutoRelease : Prop :=
  ∀ (core : Fin 64) (engine : Fin 4) (seq : BitVec 8) (o : Nat) (s : State), s.running = true →
    s.objOf (chokerOf core engine) seq.toNat true = some o → (s.obj o).state ≠ 0 →
    Answers (.tallyAutoRelease core engine seq) s fun t => (t.obj o).state = 0 ∧
      t.rd TLY_VIOL_late_rel = (s.rd TLY_VIOL_late_rel + 1) % 2 ^ TLY_VIOL_late_rel.width

/-- R253: a recall-queue head eligible for the age limit joins the pool's aged queue. -/
def requestAged : Prop :=
  ∀ (p : Fin 16) (o : Nat) (s : State), s.running = true → (s.poolSt p).round = [] → s.recallHead p = some o →
    (s.obj o).tElig + s.rd TLY_POOL_age p * usT ≤ s.ts → o ∉ (s.poolSt p).aged → (s.poolSt p).rsv.map (·.1) ≠ some o →
    Answers (.requestAged p) s fun t => (t.poolSt p).aged = (s.poolSt p).aged ++ [o]

/-- R251: with no reservation held, the head of the aged queue takes it. -/
def reservationTake : Prop :=
  ∀ (p : Fin 16) (o : Nat) (rest : List Nat) (s : State), s.running = true → (s.poolSt p).rsv = none →
    (s.poolSt p).aged = o :: rest → s.mayAct p = true →
    Answers (.reservationTake p) s fun t => (t.poolSt p).rsv = some (o, s.ts) ∧ (t.poolSt p).aged = rest ∧
      t.rd TLY_POOL_ST_rsv p = 1 ∧ t.mayAct p = false

/-- R252, R254: a reserved request that fits is granted and the reservation ends. -/
def reservationMet : Prop :=
  ∀ (p : Fin 16) (o n : Nat) (s : State), s.running = true → (s.poolSt p).rsv = some (o, n) →
    ((s.obj o).amount : Int) ≤ s.freeRoom p → s.mayAct p = true →
    Answers (.reservationMet p) s fun t => (t.obj o).state = 2 ∧ (t.poolSt p).rsv = none ∧
      t.rd TLY_POOL_ST_used (s.obj o).pool =
        (s.rd TLY_POOL_ST_used (s.obj o).pool + (s.obj o).amount) % 2 ^ TLY_POOL_ST_used.width

/-- R254, R258: after the wait, the object granted earliest is recalled while the reserved request does not fit; it counts with cause 1
as the hub cycle ends. -/
def reservationRecall : Prop :=
  ∀ (p : Fin 16) (o n q : Nat) (s : State), s.running = true → (s.poolSt p).rsv = some (o, n) →
    s.freeRoom p < (s.obj o).amount → n + s.rd TLY_POOL_rwait p * usT ≤ s.ts → s.oldestGranted p = some q → s.mayAct p = true →
    Answers (.reservationRecall p) s fun t => t.mayAct p = false ∧
      (q, (s.obj q).gen, 1 + 2 * b2n (decide (s.rd TLY_POOL_cap (s.obj q).pool < (s.obj q).amount))) ∈ t.tly.recalls

/-- R258, R264: a recall whose object is still held as its hub cycle ends is recorded, with its cause and whether any choker is in
release mode. -/
def recallReported : Prop :=
  ∀ (o g k : Nat) (s : State), s.running = true → s.pending = [] → s.tly.recalls = [(o, g, k)] → (s.obj o).state ≠ 0 →
    (s.obj o).gen = g → mget s.recd.last (evCode 14 1 * 2 ^ 16 + (s.obj o).engine) 0 ≠ s.ts / msT + 1 →
    ∃ t, step s = .next t ∧ Recorded s t 14 1 [o, (s.obj o).engine, k % 2,
      (s.obj o).tenant + 65536 * b2n ((List.range 256).any fun c => s.stepping c)]

/-- R242, R264: the Grant item of an object granted in a hub cycle and still held goes out as the cycle ends. -/
def grantDriven : Prop :=
  ∀ (o g : Nat) (s : State), s.running = true → s.pending = [] → s.tly.drive = [(o, g)] → (s.obj o).state ≠ 0 → (s.obj o).gen = g →
    ∃ t, step s = .next t ∧ Sent s t (.grantItem (s.obj o).engine (s.obj o).seq o g 0)

/-- R257, R258: at a tick boundary an object without progress for its pool's recall time is recalled. -/
def recallNoProgress : Prop :=
  ∀ (o : Nat) (s : State), s.running = true → s.ts % usT = 0 → o ∈ s.tly.objs.map (·.1) → (s.obj o).state = 2 →
    s.lastProgress (s.obj o) + s.recallTime (s.obj o).pool ≤ s.ts →
    Answers .recallNoProgress s fun t => (t.obj o).state = 3

/-- R259: a window with progress after the recall makes the engine's recalled objects eligible. -/
def recallEligible : Prop :=
  ∀ (c : Fin 256) (o : Nat) (s : State), s.running = true → o ∈ s.tly.objs.map (·.1) → (s.obj o).state = 3 →
    (s.obj o).engine = c → (s.obj o).progSince = true → (s.obj o).eligible = false →
    Answers (.recallEligible c) s fun t => (t.obj o).eligible = true ∧ (t.obj o).tElig = s.ts ∧ (t.obj o).state = 3

/-- R251, R259: the oldest eligible recall entry is granted again when it fits and nothing stands before it. -/
def tallyRegrant : Prop :=
  ∀ (p : Fin 16) (o : Nat) (s : State), s.running = true → (s.poolSt p).rsv = none → (s.poolSt p).aged = [] →
    s.recallHead p = some o → ((s.obj o).amount : Int) ≤ s.freeRoom p → s.mayAct p = true →
    Answers (.tallyRegrant p) s fun t => (t.obj o).state = 2 ∧ (t.obj o).amount = (s.obj o).amount ∧
      t.rd TLY_POOL_ST_used (s.obj o).pool =
        (s.rd TLY_POOL_ST_used (s.obj o).pool + (s.obj o).amount) % 2 ^ TLY_POOL_ST_used.width

/-- R89, R243: with a credit, the previous command begun and every earlier command of the engine begun, the held request leaves the
hold and takes a credit. -/
def stepPresent : Prop :=
  ∀ (c : Fin 256) (r : PortReq) (s : State), s.running = true → (s.lane c).req = some r → (s.lane c).early = [] →
    r.presented = false → s.stepping c = true → 1 ≤ s.rd CHK_STEP_credits c → prevBegun (s.lane c) = true →
    s.refused c r.seq = false → earlierBegun (s.lane c) r.seq = true →
    Answers (.stepPresent c) s fun t =>
      t.rd CHK_STEP_credits c = (s.rd CHK_STEP_credits c - 1) % 2 ^ CHK_STEP_credits.width ∧ t.rd CHK_STEP_held c = 0

/-! ### Choker -/

/-- R69, R71: the first window of a choker, or the first with QUEFA_READY asserted after it was negated, takes the floor; the closed
window's slots become what the choker used. A window passes only where its outpost is out of reset (R67). -/
def chokerWindowFirst : Prop :=
  ∀ (c : Fin 320) (slots : List (BitVec 8 × Fin 65)) (unk : Fin 65) (bytes : BitVec 32) (s : State), s.running = true →
    s.unitRuns c = true → s.pins.ready = true → (s.chk c).started = false →
    Answers (.chokerWindow c slots unk bytes) s fun t =>
      t.rd CHK_ALLOW_now c = s.rd CHK_ALLOW_floor c % 2 ^ CHK_ALLOW_now.width ∧ (t.chk c).started = true ∧
        (t.chk c).used = min 64 ((s.chk c).part + slotSum slots unk) ∧ (t.chk c).upPend = 0 ∧ (t.chk c).cut = none

/-- R27, R69, R75: a link choker below its target rises by the units granted since the last window, and no further than the target. -/
def chokerWindowLink : Prop :=
  ∀ (c : Fin 320) (slots : List (BitVec 8 × Fin 65)) (unk : Fin 65) (bytes : BitVec 32) (s : State), s.running = true →
    256 ≤ c.val → s.unitRuns c = true → s.pins.ready = true → (s.chk c).started = true → s.rd CHK_ALLOW_now c < s.target c →
    Answers (.chokerWindow c slots unk bytes) s fun t =>
      t.rd CHK_ALLOW_now c = min (s.target c) (s.rd CHK_ALLOW_now c + (s.chk c).upPend) % 2 ^ CHK_ALLOW_now.width ∧
        (t.chk c).upPend = 0

/-- R75, R91: at a ramp tick, taken once, each pool is refilled and the chokers that want credit are counted; with none the pool keeps its
credit. -/
def rampTick : Prop :=
  ∀ (s : State), s.running = true → s.ts % 20 = 0 → s.ramp.tick ≠ some s.ts →
    Answers .rampTick s fun t =>
      t.rd CHK_RAMP_STAT_up_wait = (s.bids s.ramp.upPtr s.wantUp).length % 2 ^ CHK_RAMP_STAT_up_wait.width ∧
        t.rd CHK_RAMP_STAT_dn_wait = (s.bids s.ramp.dnPtr s.wantDown).length % 2 ^ CHK_RAMP_STAT_dn_wait.width ∧
        (s.bids s.ramp.upPtr s.wantUp = [] → t.ramp.up = s.refill s.ramp.up ∧ t.ramp.upPtr = s.ramp.upPtr) ∧
        t.ramp.tick = some s.ts

/-- R33, R79, R81: with every detector of a core at rest, one unmasked detector whose supply falls by more than its threshold starts
the hold. -/
def droopDetect : Prop :=
  ∀ (core n : Fin 64) (k : Fin 32) (v : BitVec 12) (s : State), s.running = true → (s.core core).reset = false →
    (s.droop core).cmp = 0 → (s.droop core).orOut = false → s.rd SNS_DRP_FORCE core = 0 →
    bit (s.rd SNS_DRP_MASK core) k = false →
    bits (s.rd SNS_DRP_THR (2048 * (s.droop core).band + 32 * core + k)) 0 7 ≠ 0 →
    8 * ((bits (s.rd SNS_DRP_THR (2048 * (s.droop core).band + 32 * core + k)) 0 7 : Nat) : Int) < v.toInt →
    Answers (.droopDetect core n [(k, v)]) s fun t => (t.droop core).hold = true ∧ (t.droop core).orOut = true

/-- R81: CHK_DRP_CFG.hold core cycles after the last detector negated, with none asserted since, the hold expires. -/
def droopHoldExpire : Prop :=
  ∀ (core : Fin 64) (s : State), s.running = true → (s.droop core).hold = true → (s.droop core).orOut = false →
    800 * s.rd CHK_DRP_CFG_hold ≤ s.quietCycles core →
    Answers (.droopHoldExpire core) s fun t => (t.droop core).hold = false ∧ t.regs = s.regs

/-- R37: a write of SNS_DRP_FORCE stores its value. -/
def snsDrpForceWrite : Prop :=
  ∀ (core n : Fin 64) (v : BitVec 32) (s : State), s.running = true → s.unitAnswers 7 = true →
    Answers (.snsDrpForceWrite core v n) s fun t => t.rd SNS_DRP_FORCE core = v.toNat

/-- R83, R84: the first assertion starts the firebreak, counts it and reports the weighted allowance sum. -/
def vrAlertAssert : Prop :=
  ∀ (s : State), s.running = true → s.fbInForce = false →
    Answers .vrAlertAssert s fun t => t.rd CHK_FB_STAT_state = 1 ∧ t.rd CHK_FB_STAT_wire = 1 ∧ t.rd CHK_FB_STAT_armed = 0 ∧
      t.rd CHK_FB_STAT_count = (s.rd CHK_FB_STAT_count + 1) % 2 ^ CHK_FB_STAT_count.width ∧ t.ramp.assertT = s.ts ∧
      Recorded s t 8 2 [s.weightedAllow]

/-- R85: negation in the asserted state starts the hold-off. -/
def vrAlertNegate : Prop :=
  ∀ (s : State), s.running = true → s.rd CHK_FB_STAT_state = 1 →
    Answers .vrAlertNegate s fun t => t.rd CHK_FB_STAT_state = 2 ∧ t.rd CHK_FB_STAT_wire = 0 ∧ t.ramp.negT = s.ts ∧
      Recorded s t 8 3 [s.rd CHK_FB_CTL_holdoff]

/-- R85, R86: negated, armed and the hold-off over, the firebreak ends. -/
def firebreakHoldoffExpire : Prop :=
  ∀ (s : State), s.running = true → s.rd CHK_FB_STAT_state = 2 → s.flag CHK_FB_STAT_armed = true →
    s.fbHeldOff = true →
    Answers .firebreakHoldoffExpire s fun t => t.rd CHK_FB_STAT_state = 0 ∧ t.rd CHK_FB_STAT_armed = 0 ∧
      Recorded s t 8 4 [roundNEN (s.ts - s.ramp.assertT) usT, s.ramp.relTake]

/-- R85, R92: the hold-off over and the release not armed, the firebreak awaits its release in state 3. -/
def firebreakAwaits : Prop :=
  ∀ (s : State), s.running = true → s.rd CHK_FB_STAT_state = 2 → s.flag CHK_FB_STAT_armed = false → s.fbHeldOff = true →
    Answers .firebreakHoldoffExpire s fun t => t.rd CHK_FB_STAT_state = 3

/-- R85, R86, R87: a release taken in a hub cycle ends a firebreak whose hold-off is done as the cycle ends. -/
def firebreakReleased : Prop :=
  ∀ (n : Nat) (s : State), s.running = true → s.pending = [] → s.ramp.relAsk = some n → s.rd CHK_FB_STAT_state = 3 →
    s.fbHeldOff = true → ∃ t, step s = .next t ∧ t.rd CHK_FB_STAT_state = 0 ∧ t.ramp.relAsk = none

/-! ### Tap -/

/-- R18, R20: a record that names its lane, with a sequence number not outstanding and fewer than 128 commands outstanding, is
latched; the forecasting features see it, and where prompt snapshots are enabled and the core may be forecast one is due (R102). -/
def dispatch : Prop :=
  ∀ (core : Fin 64) (engine : Fin 4) (rec : BitVec 128) (s : State), s.running = true → (s.core core).reset = false →
    bits rec.toNat 0 2 = engine → findCmd (s.lane (chokerOf core engine)) (bits rec.toNat 16 8) = none →
    (outst (s.lane (chokerOf core engine))).length < 128 →
    Answers (.dispatch core engine rec false) s fun t =>
      (t.lane (chokerOf core engine)).cmds = (s.lane (chokerOf core engine)).cmds ++
        [{ word := laneRec rec.toNat engine, spec := bit (laneRec rec.toNat engine) 11 }] ∧ (t.fc core).lastDisp = some s.ts ∧
        (t.fc core).prompt = ((s.fc core).prompt || (s.flag FCS_CTL_prompt_en && s.mayForecast core))

/-- R21: a record whose sequence number is outstanding is a tap violation and is not latched. -/
def dispatchTwice : Prop :=
  ∀ (core : Fin 64) (engine : Fin 4) (rec : BitVec 128) (s : State), s.running = true → (s.core core).reset = false →
    bits rec.toNat 0 2 = engine → (findCmd (s.lane (chokerOf core engine)) (bits rec.toNat 16 8)).isSome = true →
    mget s.recd.last (evCode 15 1 * 2 ^ 16 + core) 0 ≠ s.ts / usT + 1 →
    Answers (.dispatch core engine rec false) s fun t => t.lanes = s.lanes ∧
      Recorded s t 15 1 [core, engine, bits rec.toNat 16 8]

/-- R388, R389: a record dropped by four disagreeing sample pairs of its crossing sets the crossing's error bit. -/
def dispatchMismatch : Prop :=
  ∀ (core : Fin 64) (engine : Fin 4) (rec : BitVec 128) (s : State), s.running = true → (s.core core).reset = false →
    Answers (.dispatch core engine rec true) s fun t => t.lanes = s.lanes ∧
      t.rd CLK_XERR_err = setBit (s.rd CLK_XERR_err) 0 true % 2 ^ CLK_XERR_err.width ∧ Recorded s t 1 2 [0, 2]

/-- R20: a begin strobe starts the outstanding command it names and confirms it. -/
def beginStrobe : Prop :=
  ∀ (core : Fin 64) (engine : Fin 4) (seq : BitVec 8) (m : Cmd) (s : State), s.running = true → (s.core core).reset = false →
    findCmd (s.lane (chokerOf core engine)) seq.toNat = some m → m.begun = false →
    Answers (.beginStrobe core engine seq) s fun t =>
      ∃ x ∈ (t.lane (chokerOf core engine)).cmds, x.word = m.word ∧ x.begun = true ∧ x.spec = false

/-- R20, R21: an end strobe ends the begun command it names and any unknown-begin state. -/
def endStrobe : Prop :=
  ∀ (core : Fin 64) (engine : Fin 4) (seq : BitVec 8) (m : Cmd) (s : State), s.running = true → (s.core core).reset = false →
    findCmd (s.lane (chokerOf core engine)) seq.toNat = some m → m.begun = true →
    Answers (.endStrobe core engine seq) s fun t => (t.lane (chokerOf core engine)).unkBusy = false ∧
      findCmd (t.lane (chokerOf core engine)) seq.toNat = none

/-- R20: a squash discards every unbegun command of the engine from the named sequence number on, and no other. -/
def squashStrobe : Prop :=
  ∀ (core : Fin 64) (engine : Fin 4) (seq : BitVec 8) (s : State), s.running = true → (s.core core).reset = false →
    Answers (.squashStrobe core engine seq) s fun t => (t.lane (chokerOf core engine)).cmds =
      (s.lane (chokerOf core engine)).cmds.filter fun x => !decide (x ∈ squashed (s.lane (chokerOf core engine)) seq.toNat)

/-! ### Clock -/

/-- R395: a write of CLK_FM_CTL with start set clears the count and starts the window. -/
def fmStart : Prop :=
  ∀ (v : BitVec 32) (s : State), s.running = true → bit v.toNat 24 = true →
    Answers (.fmStart v) s fun t => t.rd CLK_FM_CNT_count = 0 ∧ t.rd CLK_FM_CNT_done = 0 ∧ t.hub.fm = true ∧ t.hub.fmT = s.ts ∧
      t.rd CLK_FM_CTL_meas = bits v.toNat 0 6 ∧ t.rd CLK_FM_CTL_ref = bits v.toNat 6 6 ∧ t.rd CLK_FM_CTL_win = bits v.toNat 12 5

/-- R395: the window over, the counted edges stand in CLK_FM_CNT and done is 1: none for a code that names no clock, and to one edge
the ratio of the two clocks where the root makes both. -/
def fmDone : Prop :=
  ∀ (edges : BitVec 31) (s : State), s.running = true → s.hub.fm = true → s.fmOver = true →
    Answers (.fmDone edges) s fun t => t.rd CLK_FM_CNT_done = 1 ∧ t.hub.fm = false ∧
      t.rd CLK_FM_CNT_count = s.fmCount edges.toNat % 2 ^ CLK_FM_CNT_count.width

/-- R384: at a multiple of 1,024 units a follower more than one unit off reloads and is counted and reported. -/
def tsResync : Prop :=
  ∀ (i : Fin 8) (d : BitVec 32) (s : State), s.running = true → s.ts % 1024 = 0 → i.val ≠ 2 → 1 < d.toNat →
    mget s.recd.last (evCode 1 4 * 2 ^ 16 + 0) 0 ≠ s.ts / msT + 1 →
    Answers (.tsResync [(i, d)]) s fun t =>
      t.rd CLK_TS_STAT_resync = (s.rd CLK_TS_STAT_resync + 1) % 2 ^ CLK_TS_STAT_resync.width ∧
        Recorded s t 1 4 [i.val, d.toNat]

/-- R392: CORE_RST resets the core's outpost: its lanes, chokers and droop halves are lost, and the event is written. -/
def outpostResetCore : Prop :=
  ∀ (n : Fin 64) (s : State), s.running = true → (s.core n).reset = false →
    Answers (.outpostReset false n) s fun t => (t.core n).reset = true ∧ (t.core n).cycles = 0 ∧ (t.droop n).hold = false ∧
      t.lane (4 * n) = { } ∧ t.chk (4 * n) = { }

/-- R392: LINK_RST of a link group in use takes it down. -/
def outpostResetLink : Prop :=
  ∀ (n : Fin 64) (s : State), s.running = true → n.val < 16 → mget s.hub.linkUp n.val false = true →
    Answers (.outpostReset true n) s fun t => mget t.hub.linkUp n.val false = false ∧ t.chk (256 + 4 * n) = { } ∧
      Recorded s t 1 3 [6, 3]

/-- R405: a core's outpost leaves reset when the indication negates; with no detector forced nothing else of it moves. -/
def outpostRelease : Prop :=
  ∀ (n : Fin 64) (s : State), s.running = true → (s.core n).reset = true →
    Answers (.outpostRelease false n) s fun t => (t.core n).reset = false ∧ (t.core n).cycT = s.ts ∧
      (s.rd SNS_DRP_FORCE n = 0 → t.regs = s.regs)

/-- R37, R81: a forced, unmasked detector of a core that leaves reset starts the hold. -/
def outpostReleaseForced : Prop :=
  ∀ (n : Fin 64) (k : Fin 32) (s : State), s.running = true → (s.core n).reset = true → (s.droop n).orOut = false →
    bit (s.rd SNS_DRP_FORCE n) k = true → bit (s.rd SNS_DRP_MASK n) k = false →
    Answers (.outpostRelease false n) s fun t => (t.droop n).hold = true ∧ (t.droop n).orOut = true

/-- R405: a link group's outpost leaves reset when its indication negates. -/
def outpostReleaseLink : Prop :=
  ∀ (n : Fin 64) (s : State), s.running = true → n.val < 16 →
    Answers (.outpostRelease true n) s fun t => mget t.hub.linkUp n.val false = true ∧ t.regs = s.regs

/-- R397: with the sequencer idle and parked, a higher target starts a step of one point up, its voltage first. -/
def dvfsRequestUp : Prop :=
  ∀ (target : Fin 8) (s : State), s.running = true → s.isD = true → s.fwRunning 0 = true →
    s.rd CLK_DVFS_STAT_stage = 0 → s.flag CLK_DVFS_STAT_parked = true → s.dvfs.deferred = false → s.dvfs.fbDescent = false →
    s.dvfs.retryT ≤ s.ts → s.dieDroop = false → target.val ≤ s.rd CLK_DVFS_LIM_max → s.rd CLK_DVFS_LIM_min ≤ target.val →
    s.rd CLK_DVFS_STAT_point < target.val →
    Answers (.dvfsRequest target) s fun t => t.dvfs.wanted = target.val ∧ t.rd CLK_DVFS_STAT_target = target.val ∧
      t.rd CLK_DVFS_STAT_stage = 1 ∧ t.dvfs.step = s.rd CLK_DVFS_STAT_point + 1 ∧
      t.dvfs.vCap = some (s.rd VRC_OPP_v (s.rd CLK_DVFS_STAT_point + 1)) ∧ t.dvfs.idleMHz = s.rd CLK_OPP_F_mhz (s.rd CLK_DVFS_STAT_point + 1)

/-- R397: a lower target starts a step of one point down, its frequency first: the target voltage stays. -/
def dvfsRequestDown : Prop :=
  ∀ (target : Fin 8) (s : State), s.running = true → s.isD = true → s.fwRunning 0 = true →
    s.rd CLK_DVFS_STAT_stage = 0 → s.flag CLK_DVFS_STAT_parked = true → s.dvfs.deferred = false → s.dvfs.fbDescent = false →
    s.dvfs.retryT ≤ s.ts → s.dieDroop = false → target.val ≤ s.rd CLK_DVFS_LIM_max → s.rd CLK_DVFS_LIM_min ≤ target.val →
    target.val < s.rd CLK_DVFS_STAT_point →
    Answers (.dvfsRequest target) s fun t => t.dvfs.wanted = target.val ∧ t.rd CLK_DVFS_STAT_target = target.val ∧
      t.rd CLK_DVFS_STAT_stage = 3 ∧ t.dvfs.step = s.rd CLK_DVFS_STAT_point - 1 ∧ t.dvfs.vCap = s.dvfs.vCap ∧
      t.dvfs.vPoint = s.dvfs.vPoint

/-- R397: the settle time over, Up 1 gives way to Up 2. -/
def dvfsVoltageReady : Prop :=
  ∀ (n : Nat) (s : State), s.running = true → s.isD = true → s.dvfs.reachT = some n → s.rd CLK_DVFS_STAT_stage = 1 →
    n + s.rd CLK_DVFS_CFG_settle * usT ≤ s.ts →
    Answers .dvfsVoltageReady s fun t => t.rd CLK_DVFS_STAT_stage = 2

/-- R397: Up 2's switch puts the idle half's frequency and the step's point in force and ends the step; the other half parks. -/
def dvfsSwitchUp : Prop :=
  ∀ (s : State), s.running = true → s.isD = true → s.rd CLK_DVFS_STAT_stage = 2 → s.dvfs.switchOff = false →
    Answers .dvfsSwitch s fun t => t.dvfs.mhz = s.dvfs.idleMHz ∧ t.rd CLK_DVFS_STAT_point = s.dvfs.step % 2 ^ CLK_DVFS_STAT_point.width ∧
      t.rd CLK_DVFS_STAT_stage = 0 ∧ t.rd CLK_DVFS_STAT_parked = 0 ∧
      t.rd CLK_DVFS_STAT_half = (s.rd CLK_DVFS_STAT_half + 1) % 2 ^ CLK_DVFS_STAT_half.width

/-- R397: Down 1's switch puts the lower point's frequency in force; then its voltage is the target, and Down 3 lasts until v_ref_int
stands at it. -/
def dvfsSwitchDown : Prop :=
  ∀ (s : State), s.running = true → s.isD = true → s.rd CLK_DVFS_STAT_stage = 3 → s.dieDroop = false →
    s.rd VRC_VREF_vref ≠ s.dvfs.stepV →
    Answers .dvfsSwitch s fun t => t.dvfs.mhz = s.dvfs.idleMHz ∧ t.rd CLK_DVFS_STAT_point = s.dvfs.step % 2 ^ CLK_DVFS_STAT_point.width ∧
      t.rd CLK_DVFS_STAT_stage = 4 ∧ t.rd CLK_DVFS_STAT_parked = 0 ∧ t.dvfs.vPoint = s.dvfs.step ∧ t.dvfs.vCap = some s.dvfs.stepV

/-- R396, R397: the half now idle locks at point 0's frequency. -/
def dvfsHalfParked : Prop :=
  ∀ (s : State), s.running = true → s.isD = true → s.rd CLK_DVFS_STAT_parked = 0 → s.rd CLK_DVFS_STAT_stage = 4 →
    Answers .dvfsHalfParked s fun t => t.rd CLK_DVFS_STAT_parked = 1 ∧ t.rd CLK_DVFS_STAT_stage = 4

/-- R398: a step whose half does not lock within 20 µs is counted, reported and abandoned for 1 ms before its switch. -/
def dvfsLockTimeout : Prop :=
  ∀ (s : State), s.running = true → s.isD = true → s.rd CLK_DVFS_STAT_parked = 0 → s.dvfs.lockT + 20 * usT ≤ s.ts →
    1 ≤ s.rd CLK_DVFS_STAT_stage → s.rd CLK_DVFS_STAT_stage ≤ 3 →
    Answers .dvfsLockTimeout s fun t => t.rd CLK_DVFS_STAT_stage = 0 ∧ t.dvfs.retryT = s.ts + msT ∧
      t.rd CLK_DVFS_STAT_lockfail = (s.rd CLK_DVFS_STAT_lockfail + 1) % 2 ^ CLK_DVFS_STAT_lockfail.width ∧
      t.rd CLK_DVFS_STAT_point = s.rd CLK_DVFS_STAT_point ∧ Recorded s t 1 5 [1 - s.rd CLK_DVFS_STAT_half, s.dvfs.idleMHz]

/-- R88: once droop has been clear for the retry wait, a deferred step is deferred no longer. -/
def dvfsRetry : Prop :=
  ∀ (s : State), s.running = true → s.isD = true → s.dvfs.deferred = true → s.dieDroop = false →
    s.dvfs.clearT + s.rd CHK_DVFS_CFG_retry * usT ≤ s.ts →
    Answers .dvfsRetry s fun t => t.dvfs.deferred = false ∧ t.rd CHK_DVFS_STAT_deferred = 0

/-! ### Regulator -/

/-- R136, R140: at a multiple of 4 units the conversion is v_sense, and the PID term stays within half a period. -/
def pidSample : Prop :=
  ∀ (v : BitVec 16) (s : State), s.running = true → s.ts % 4 = 0 →
    Answers (.pidSample v) s fun t => t.rd VRC_VSENSE_vsense = v.toNat ∧
      -((s.vrc.n : Int) * 32768) ≤ t.vrc.tPid ∧ t.vrc.tPid ≤ (s.vrc.n : Int) * 32768

/-- R137: with a step's worth of slew credit, v_ref_int moves one 0.25 mV step toward its target and takes the credit. -/
def vrefRampStep : Prop :=
  ∀ (s : State), s.running = true → s.pmb.phase = 0 → s.rd VRC_STAT_state = 2 → s.rd VRC_VREF_vref ≠ s.refTarget →
    usT ≤ s.vrc.rampCr + (s.ts - s.vrc.rampTs) * s.rd VRC_SLEW_slew →
    (s.isD = false ∨ s.dvfs.vHeld = false) → s.vrc.pwmMid = false →
    Answers .vrefRampStep s fun t => t.rd VRC_VREF_vref =
      (if s.rd VRC_VREF_vref < s.refTarget then s.rd VRC_VREF_vref + 1 else s.rd VRC_VREF_vref - 1) % 2 ^ VRC_VREF_vref.width ∧
      t.vrc.rampTs = s.ts ∧
      t.vrc.rampCr = min (usT + s.rd VRC_SLEW_slew) (s.vrc.rampCr + (s.ts - s.vrc.rampTs) * s.rd VRC_SLEW_slew) - usT

/-- R139: one µs after every PWM went to mid in STOP, the enables go low and the state is OFF. -/
def enableDropStop : Prop :=
  ∀ (n : Nat) (s : State), s.running = true → s.pmb.phase = 0 → s.vrc.midT = some n → n + usT ≤ s.ts → s.rd VRC_STAT_state = 3 →
    Answers .enableDrop s fun t => t.vrc.enables = false ∧ t.vrc.midT = none ∧ t.rd VRC_STAT_state = 0

/-- R153: one µs after a rail-off fault sent every PWM to mid, the enables go low and v_ref_int is 0. -/
def enableDropFault : Prop :=
  ∀ (n : Nat) (s : State), s.running = true → s.pmb.phase = 0 → s.vrc.midT = some n → n + usT ≤ s.ts → s.rd VRC_STAT_state = 4 →
    Answers .enableDrop s fun t => t.vrc.enables = false ∧ t.rd VRC_VREF_vref = 0 ∧ t.rd VRC_STAT_state = 4

/-- R132, R133: a period start takes the period, the phases in order and the dead times of the band. -/
def pwmPeriodStart : Prop :=
  ∀ (k : Nat) (s : State), s.running = true → s.pmb.phase = 0 → gridIn (s.rd VRC_PWM_period) (16 * s.ts) = some k → s.vrc.started = false →
    s.vrc.unshed = false → (∀ p < 144, (s.vph p).shedPend = 0) →
    Answers .pwmPeriodStart s fun t => t.vrc.started = true ∧ t.vrc.perStart = k ∧ t.vrc.n = s.rd VRC_PWM_period ∧
      t.vrc.order = posOrder.filter s.phEnabled ∧ t.vrc.tdHl = s.rd VRC_DT_td_hl (s.rd THM_STAT_band) ∧
      t.vrc.tdLh = s.rd VRC_DT_td_lh (s.rd THM_STAT_band)

/-- R133, R141: a driven phase whose leading edge falls in this unit takes its edge: no on-time exceeds the limit in force, and none
lies below the least on-time unless it is 0. -/
def phaseLeadingEdge : Prop :=
  ∀ (p : Fin 144) (k : Nat) (s : State), s.running = true → s.driving = true → s.vrc.started = true →
    s.vrc.order.findIdx? (· = p.val) = some k → 16 * s.ts ≤ s.vrc.perStart + k * s.vrc.n / s.nEn →
    s.vrc.perStart + k * s.vrc.n / s.nEn < 16 * s.ts + 16 → (s.vph p).lead1 = false →
    Answers (.phaseLeadingEdge p) s fun t => (t.vph p).lead1 = true ∧ (t.vph p).lead = s.vrc.perStart + k * s.vrc.n / s.nEn ∧
      (t.vph p).ton ≤ s.tLim ∧ ((t.vph p).ton = 0 ∨ s.rd VRC_PWM_LIM_ton_min ≤ (t.vph p).ton)

/-- R144: below the entry threshold for the dwell, with the loop not limited, diode emulation is entered. -/
def deEnter : Prop :=
  ∀ (n : Nat) (s : State), s.running = true → s.vrc.deSince = some n → s.deBelow (s.rd VRC_DE_enter) = true →
    n + s.rd VRC_DE_dwell * usT ≤ s.ts → s.flag VRC_CTL_de_en = true → (s.rd VRC_STAT_state = 1 ∨ s.rd VRC_STAT_state = 2) →
    s.vrc.satHi = false →
    Answers .deEnter s fun t => t.rd VRC_STAT_de = 1 ∧ t.vrc.de = true

/-- R149, R150: a complete interval's total is taken; above the limit it cuts the shared cap, otherwise the cap relaxes by 16 steps
to t_max. -/
def iTotFormed : Prop :=
  ∀ (i : Nat) (s : State), s.running = true → s.pmb.phase = 0 → i = max s.vrc.nextInt (s.ts / 80 - 21) → 80 * (i + 1) ≤ s.ts →
    s.intervalFull i = true → (s.driving = false ∨ s.vrc.ocRun < 3) →
    Answers .iTotFormed s fun t => t.vrc.nextInt = i + 1 ∧ t.vrc.itot = s.intervalTotal i ∧
      t.vrc.cap = (if s.iLim < 8 * s.intervalTotal i then s.vrc.cap - roundNEN (8 * s.intervalTotal i - s.iLim) 512
        else min s.tMax (s.vrc.cap + 16))

/-- R153: the fourth interval running above the trip level is fault 2. -/
def iTotTrips : Prop :=
  ∀ (i : Nat) (s : State), s.running = true → s.pmb.phase = 0 → i = max s.vrc.nextInt (s.ts / 80 - 21) → 80 * (i + 1) ≤ s.ts →
    s.intervalFull i = true → s.driving = true → s.vrc.ocRun = 3 → s.rd VRC_OCP_TRIP_itrip * 32 < s.intervalTotal i →
    Answers .iTotFormed s fun t => t.rd VRC_STAT_state = 4 ∧ t.rd VRC_STAT_fault = 2 ∧ t.vrc.pwmMid = true ∧
      Recorded s t 9 1 [2, s.rd VRC_VSENSE_vsense, 8 * s.intervalTotal i, s.rd VRC_STAT_state]

/-- R153: v_sense below the margin for the under-voltage time is fault 3: the state is FAULT and every PWM goes to mid. -/
def uvTimeout : Prop :=
  ∀ (n : Nat) (s : State), s.running = true → s.pmb.phase = 0 → s.vrc.uvSince = some n → n + s.rd VRC_UV_time * usT ≤ s.ts →
    s.rd VRC_STAT_state = 2 →
    Answers .uvTimeout s fun t => t.rd VRC_STAT_state = 4 ∧ t.rd VRC_STAT_fault = 3 ∧ t.vrc.pwmMid = true ∧ t.vrc.midT = some s.ts ∧
      t.vrc.lfPend = true ∧ Recorded s t 9 1 [3, s.rd VRC_VSENSE_vsense, 8 * s.vrc.itot, 2]

/-- R154: the over-voltage comparator's recognition latches CROWBAR with the enables high. -/
def overVoltage : Prop :=
  ∀ (s : State), s.running = true → s.pmb.phase = 0 → s.pmb.started = [] → s.rd VRC_STAT_state ≠ 5 →
    Answers .overVoltage s fun t => t.rd VRC_STAT_state = 5 ∧ t.rd VRC_STAT_fault = 1 ∧ t.rd RST_CAUSE_crowbar = 1 ∧
      t.vrc.enables = true ∧ t.vrc.lfPend = true ∧ Recorded s t 9 2 [s.rd VRC_VSENSE_vsense, s.rd VRC_OVP_level]

/-- R138: a delivery of the master's voltage is the tracking target, in coincident mode as it is and in ratiometric mode in the ratio
of the two set voltages, cut to the rail's target. -/
def trackDelivery : Prop :=
  ∀ (vm : BitVec 16) (s : State), s.running = true → s.vrc.trk = true → (s.rd VRC_CTL_trk = 1 ∨ s.rd VRC_CTL_trk = 2) →
    Answers (.trackDelivery vm) s fun t => t.vrc.trkTgt = some (min s.railTarget
        (if s.rd VRC_CTL_trk = 1 then roundNEN (s.railTarget * vm.toNat) (s.rd VRC_TRK_vm_set) else vm.toNat)) ∧
      t.vrc.trkT = s.ts ∧ t.vrc.trkHeld = false ∧ t.regs = s.regs

/-- R138: no delivery for 1 ms in START holds the reference and is reported. -/
def trackHoldStart : Prop :=
  ∀ (s : State), s.running = true → s.vrc.trk = true → s.vrc.trkT + msT ≤ s.ts → s.rd VRC_STAT_state = 1 → s.vrc.trkHeld = false →
    Answers .trackHoldTimeout s fun t => t.vrc.trkHeld = true ∧ Recorded s t 9 7 [s.rd VRC_TRK_master, s.rd VRC_VREF_vref]

/-- R139: no delivery for 1 ms in STOP ends tracking. -/
def trackHoldStop : Prop :=
  ∀ (s : State), s.running = true → s.vrc.trk = true → s.vrc.trkT + msT ≤ s.ts → s.rd VRC_STAT_state = 3 →
    Answers .trackHoldTimeout s fun t => t.vrc.trk = false ∧ Recorded s t 9 7 [s.rd VRC_TRK_master, s.rd VRC_VREF_vref]

/-! ### Pmbus -/

/-- R160, R162: a sweep's READ_VOUT that succeeds gives the rail's voltage in 0.25 mV. -/
def pmbTransactionDone : Prop :=
  ∀ (data : BitVec 16) (o : PmbOp) (rest : List PmbOp) (s : State), s.running = true → s.clocked 10 = true → s.pmb.busy = true →
    s.pmb.q = o :: rest → o.purpose = 7 → o.cmd = 0x8B → o.rail < 16 →
    Answers (.pmbTransactionDone 0 data) s fun t => t.rd PMB_RAIL_V o.rail = voutUnits data.toNat (s.railExp o.rail)

/-- R160, R161: a rail's transaction that is not acknowledged is counted and made again while retries remain. -/
def pmbTransactionRetry : Prop :=
  ∀ (data : BitVec 16) (o : PmbOp) (rest : List PmbOp) (s : State), s.running = true → s.clocked 10 = true → s.pmb.busy = true →
    s.pmb.q = o :: rest → o.rail < 16 → s.pmb.tries < s.rd PMB_CTL_retries →
    Answers (.pmbTransactionDone 1 data) s fun t => t.pmb.tries = s.pmb.tries + 1 ∧ t.pmb.q = s.pmb.q ∧
      t.rd PMB_RAIL_STAT_nack o.rail = (s.rd PMB_RAIL_STAT_nack o.rail + 1) % 2 ^ PMB_RAIL_STAT_nack.width

/-- R166: its delay over and every member reachable, the group's command is queued. -/
def pmbGroupStart : Prop :=
  ∀ (s : State), s.running = true → s.clocked 10 = true → s.pmb.phase = 1 → s.pmb.due ≤ s.ts → s.pmb.grp < 4 →
    (∀ r ∈ s.members s.pmb.grp, s.railState r ≠ 6) →
    Answers .pmbGroupStart s fun t => t.pmb.phase = 6 ∧ t.pmb.starts = s.pmb.starts + 1 ∧
      ({ purpose := 1, grp := s.pmb.grp, rail := 16, cmd := 0x01 } : PmbOp) ∈ t.pmb.q

/-- R168: a group that does not hold the core, not GOOD in time and with a retry left, is turned off, reported and cools. -/
def pmbGroupTimeout : Prop :=
  ∀ (s : State), s.running = true → s.pmb.phase = 2 → s.pmb.grp < 4 → s.pmb.grp ≠ s.rd PMB_SEQ_core_grp →
    s.pmb.onT + s.rd PMB_GRP_t_on s.pmb.grp * msT ≤ s.ts → s.notGood ≠ 0 →
    s.pmb.starts < 1 + s.rd PMB_GRP_retries s.pmb.grp →
    Answers .pmbGroupTimeout s fun t => t.pmb.phase = 3 ∧ t.pmb.due = s.ts + s.rd PMB_GRP_cool s.pmb.grp * msT ∧
      Recorded s t 10 2 [s.pmb.grp, s.notGood, 0]

/-- R168: cooled, with every member reachable and below 10 %, the group's command is queued again. -/
def pmbGroupRetry : Prop :=
  ∀ (s : State), s.running = true → s.pmb.phase = 3 → s.pmb.due ≤ s.ts → s.pmb.grp < 4 →
    (∀ r ∈ s.members s.pmb.grp, r ∈ s.pmb.low ∧ s.railState r ≠ 6) →
    Answers .pmbGroupRetry s fun t => t.pmb.phase = 6 ∧ t.pmb.starts = s.pmb.starts + 1 ∧
      ({ purpose := 1, grp := s.pmb.grp, rail := 16, cmd := 0x01 } : PmbOp) ∈ t.pmb.q

/-- R169: a stopping group that is slow is reported and the sequence goes on. -/
def pmbGroupOffTimeout : Prop :=
  ∀ (s : State), s.running = true → s.pmb.phase = 4 → s.pmb.grp < 4 →
    s.pmb.onT + s.rd PMB_GRP_t_on s.pmb.grp * msT ≤ s.ts → s.pmb.started = [] → s.pmb.failed = false →
    Answers .pmbGroupOffTimeout s fun t => t.pmb.phase = 0 ∧ t.rd PMB_STAT_seq = 0 ∧ Recorded s t 10 3 []

/-- R170: a sweep starts at its period and reads every enabled rail. -/
def pmbSweepStart : Prop :=
  ∀ (r : Fin 16) (s : State), s.running = true → s.clocked 10 = true → s.rd PMB_STAT_seq = 3 → s.flag PMB_STAT_stuck = false →
    (s.ts - s.pmb.upT) % (s.rd PMB_POLL_period * msT) = 0 → s.pmb.sweep = false → s.railOn r = true →
    Answers .pmbSweepStart s fun t => t.pmb.sweep = true ∧
      ({ purpose := 7, grp := s.rd PMB_RAIL_group r, rail := r, cmd := 0x8B } : PmbOp) ∈ t.pmb.q

/-- R170: a start while a sweep runs is skipped and counted. -/
def pmbSweepSkip : Prop :=
  ∀ (s : State), s.running = true → s.clocked 10 = true → s.rd PMB_STAT_seq = 3 →
    (s.ts - s.pmb.upT) % (s.rd PMB_POLL_period * msT) = 0 → s.pmb.sweep = true →
    Answers .pmbSweepStart s fun t => t.rd PMB_STAT_skip = (s.rd PMB_STAT_skip + 1) % 2 ^ PMB_STAT_skip.width ∧ t.pmb = s.pmb

/-- R171, R530: from discovery on, an alert that is heeded, no other being handled, queues a read of the alert response address. -/
def pmbAlert : Prop :=
  ∀ (s : State), s.running = true → s.clocked 10 = true → s.pmb.begun = true → s.flag PMB_CTL_alert_en = true →
    s.flag PMB_STAT_masked = false → (∀ o ∈ s.pmb.q, o.purpose ≠ 8 ∧ o.purpose ≠ 9 ∧ o.purpose ≠ 10) →
    Answers (.pmbAlert true) s fun t => t.pmb.alert = true ∧
      ({ purpose := 8, grp := 0, rail := 16, cmd := 0x0C } : PmbOp) ∈ t.pmb.q

/-- R171: the input's negation asks for nothing, and ends the wait for an answer. -/
def pmbAlertEnds : Prop :=
  ∀ (s : State), s.running = true → s.clocked 10 = true →
    Answers (.pmbAlert false) s fun t => t.pmb.alert = false ∧ t.pmb.noReply = none ∧ t.pmb.q = s.pmb.q ∧ t.regs = s.regs

/-- R171: at the end of the second the alert input is heeded again. -/
def pmbAlertMaskEnd : Prop :=
  ∀ (s : State), s.running = true → s.ts % secT = 0 →
    Answers .pmbAlertMaskEnd s fun t => t.rd PMB_STAT_masked = 0

/-- R171: a bus held low is reported and given nine clocks and a stop, and marked stuck where these do not free it. -/
def pmbBusStuck : Prop :=
  ∀ (still : Bool) (s : State), s.running = true → s.clocked 10 = true →
    Answers (.pmbBusStuck still) s fun t => t.rd PMB_STAT_stuck = b2n still ∧ Recorded s t 10 8 [] ∧ Sent s t .pmbusRecover

/-- R171: the bus is free again. -/
def pmbBusFree : Prop :=
  ∀ (s : State), s.running = true → s.flag PMB_STAT_stuck = true →
    Answers .pmbBusFree s fun t => t.rd PMB_STAT_stuck = 0 ∧ t.pmb.q = s.pmb.q

/-- R138, R166: with core_grp 4 the controller starts from the measured voltage once its delay is over. -/
def coreStartDelay : Prop :=
  ∀ (s : State), s.running = true → s.pmb.phase = 5 → s.pmb.due ≤ s.ts → s.pmb.grp = 4 → s.rd PMB_SEQ_core_grp = 4 →
    s.rd VRC_STAT_state = 0 →
    Answers .coreStartDelay s fun t => t.vrc.enables = true ∧ t.vrc.startV = s.rd VRC_VSENSE_vsense ∧
      t.rd VRC_VREF_vref = s.rd VRC_VSENSE_vsense % 2 ^ VRC_VREF_vref.width ∧ (t.rd VRC_STAT_state = 1 ∨ t.rd VRC_STAT_state = 2)

/-! ### Estimator -/

/-- A state whose open tick holds what the windows still open have begun, and every core's cycles. -/
def closing (s : State) (parts : List (Fin 320 × List (BitVec 8 × Fin 65) × Fin 65 × BitVec 32)) : State :=
  foldTo 64 (parts.foldl State.tickSlots s) State.countCycles

/-- R58, R60, R501: at a tick boundary, once, the tick closes the activity counts, gives the die's estimate in 1/8 W as the sum of the
cores' energies, applies the pending counts and takes the reference for the next tick. -/
def estimatorTick : Prop :=
  ∀ (parts : List (Fin 320 × List (BitVec 8 × Fin 65) × Fin 65 × BitVec 32)) (s : State), s.running = true → s.ts % usT = 0 →
    s.sns.ticked < s.ts / usT →
    Answers (.estimatorTick parts) s fun t => t.sns.acts = [] ∧ t.cntPend = [] ∧
      t.cntZero = s.cntZero.filter (fun z => decide (s.ts ≤ z.since)) ∧ t.sns.estV = s.rd VRC_VREF_vref ∧
      t.rd ACT_EST_DIE = satU 32 (roundNE
        (sumN ((List.range 64).map fun c => (closing s parts).coreEnergy c (closing s parts).voltScale) : Nat) 125000)

/-- R61: two ticks after it closes a tick's measured energy is final. -/
def measFinalise : Prop :=
  ∀ (n : Nat) (s : State), s.running = true → s.ts % usT = 0 → s.ts = (n + 3) * usT → s.sns.nextFin ≤ n →
    Answers .measFinalise s fun t => t.sns.nextFin = n + 1 ∧
      t.rd ACT_MEAS_DIE = satU 32 (roundNE ((sumN ((mget s.sns.ticks n { }).slots.map fun x => x.2.cv)
        + (s.tickFill n (mget s.sns.ticks n { })).2 : Nat) : Int) 160000) ∧
      t.rd ACT_MEAS_FILL = (s.tickFill n (mget s.sns.ticks n { })).1 % 2 ^ ACT_MEAS_FILL.width

/-- R62: the fitted coefficients come into force, each kept within the percentage of its base. -/
def calibrationApply : Prop :=
  ∀ (k : Fin 64) (s : State), s.running = true → s.ts % msT = 0 → s.sns.calPaused = false → s.flag ACT_CTL_cal_en = true →
    Answers .calibrationApply s fun t => t.rd ACT_COEF_CAL k =
      clampN (roundNEN (s.rd ACT_COEF k * (100 - s.rd ACT_CAL_LIM_pct)) 100)
        (min (2 ^ 32 - 1) (roundNEN (s.rd ACT_COEF k * (100 + s.rd ACT_CAL_LIM_pct)) 100)) (s.fitted (k / 16) (k % 16)) % 2 ^ 32

/-- R54, R55: at the 1 ms boundary an anchor with good conversions publishes their mean and shows no fault. -/
def anchorPublish : Prop :=
  ∀ (a : Fin 128) (s : State), s.running = true → s.ts % msT = 0 → s.flag SNS_CTL_anc_en = true →
    s.sns.ancT ≠ some s.ts → mget s.sns.ancConv a.val [] ≠ [] → mget s.sns.ancBad a.val false = false →
    Answers .anchorPublish s fun t => t.rd SNS_ANC_fault a = 0 ∧ t.rd SNS_ANC_value a =
      satS 16 (roundNE (((mget s.sns.ancConv a.val []).map fun w => sgn 16 w).sum) (mget s.sns.ancConv a.val []).length) ∧
      t.sns.ancConv = [] ∧ t.sns.ancBad = []

/-- R55: an anchor without a conversion shows its fault. -/
def anchorFault : Prop :=
  ∀ (a : Fin 128) (s : State), s.running = true → s.ts % msT = 0 → s.flag SNS_CTL_anc_en = true →
    s.sns.ancT ≠ some s.ts → mget s.sns.ancConv a.val [] = [] →
    Answers .anchorPublish s fun t => t.rd SNS_ANC_fault a = 1

/-! ### Forecast -/

/-- R102, R104: at its instant, with forecasting on, a core's features are snapshotted and its forecast is queued. -/
def periodicSnapshot : Prop :=
  ∀ (core : Fin 64) (s : State), s.running = true → s.ts % 80 = 10 * (core.val / 8) → s.clocked 12 = true →
    s.flag FCS_CTL_fc_en = true → (s.core core).reset = false → s.flag FCS_CORE_fallback core = false → s.gapPassed core = true →
    Answers (.periodicSnapshot core) s fun t => (t.fc core).everSnap = true ∧ (t.fc core).lastSnap = s.ts ∧
      t.fcs.passes = s.fcs.passes + 2 ∧ ∃ j ∈ t.fcs.queue, j.core = core ∧ j.snap = s.ts ∧ j.x = s.features core

/-- R107: a core whose clock is stopped has no snapshot: its forecast is 0 A. -/
def periodicSnapshotStopped : Prop :=
  ∀ (core : Fin 64) (s : State), s.running = true → s.ts % 80 = 10 * (core.val / 8) → s.clocked 12 = true →
    s.flag FCS_CTL_fc_en = true → (s.core core).reset = true →
    Answers (.periodicSnapshot core) s fun t => (t.fc core).applied = true ∧ (t.fc core).y = [] ∧ t.fcs.queue = s.fcs.queue

/-- R102: a DISPATCH that waits for it takes a prompt snapshot once the gap has passed. -/
def promptSnapshot : Prop :=
  ∀ (core : Fin 64) (s : State), s.running = true → s.mayForecast core = true → (s.fc core).prompt = true →
    s.flag FCS_CTL_prompt_en = true → s.gapPassed core = true →
    Answers (.promptSnapshot core) s fun t => (t.fc core).prompt = false ∧ (t.fc core).lastSnap = s.ts ∧
      ∃ j ∈ t.fcs.queue, j.core = core ∧ j.snap = s.ts

/-- R106, R114: the slice's oldest forecast completes and, if it is the latest and the core is not in fallback, is applied. -/
def forecastOutput : Prop :=
  ∀ (slice : Fin 8) (j : FcJob) (s : State), s.running = true → s.clocked 12 = true →
    s.fcs.queue.find? (fun j => j.slice = slice.val) = some j → s.flag FCS_CORE_fallback j.core = false →
    ((s.fc j.core).applied = false ∨ (s.fc j.core).appSnap ≤ j.snap) →
    Answers (.forecastOutput slice) s fun t => (t.fc j.core).applied = true ∧ (t.fc j.core).appSnap = j.snap ∧
      (t.fc j.core).y = j.output ∧ t.fcs.queue = s.fcs.queue.erase j

/-- R121, R122: with no static force, LN_MODE puts the core into fallback and reports it. -/
def lnModeChange : Prop :=
  ∀ (core : Fin 64) (s : State), s.running = true → s.clocked 12 = true → (s.core core).reset = false →
    s.rd FCS_CORE_ln core = 0 → s.rd FCS_CORE_force_static core = 0 →
    Answers (.lnModeChange core true) s fun t => t.rd FCS_CORE_ln core = 1 ∧ t.rd FCS_CORE_fallback core = 1 ∧
      Recorded s t 12 2 [core, 1, 1]

/-! ### Loop -/

/-- R184: at its release instant a context in use queues an evaluation with a deadline one period later. -/
def loopRelease : Prop :=
  ∀ (n : Fin 4096) (s : State), s.running = true → s.clocked 13 = true →
    (cKind (s.ctx n).cfg = 1 ∨ cKind (s.ctx n).cfg = 2) → s.ts % usT = 0 →
    s.ts / usT % periodUs (s.ctx n).cfg = cPhase (s.ctx n).cfg → (∀ r ∈ s.lpe.queue, ¬ (r.ctx = n.val ∧ r.rel = s.ts)) →
    Answers (.loopRelease n false) s fun t => t.regs = s.regs ∧ t.lpe.queue = s.lpe.queue ++
      [{ ctx := n, rel := s.ts, dead := s.ts + usT * periodUs (s.ctx n).cfg, k := cK (s.ctx n).cfg, cfg := (s.ctx n).cfg }]

/-- R198, R388, R389: a release that finds the crossing full is dropped, counts as a skip and sets the crossing's bit. -/
def loopReleaseOverrun : Prop :=
  ∀ (n : Fin 4096) (s : State), s.running = true → s.clocked 13 = true →
    (cKind (s.ctx n).cfg = 1 ∨ cKind (s.ctx n).cfg = 2) → s.ts % usT = 0 →
    s.ts / usT % periodUs (s.ctx n).cfg = cPhase (s.ctx n).cfg → (∀ r ∈ s.lpe.queue, ¬ (r.ctx = n.val ∧ r.rel = s.ts)) →
    Answers (.loopRelease n true) s fun t => t.lpe.queue = s.lpe.queue ∧
      t.rd LPE_STAT_skips = (s.rd LPE_STAT_skips + 1) % 2 ^ LPE_STAT_skips.width ∧
      t.rd CLK_XOVR_ovr = setBit (s.rd CLK_XOVR_ovr) 7 true % 2 ^ CLK_XOVR_ovr.width

/-- R198, R199: the release first in the order, still queued at its deadline, is dropped and counts as a skip of its context. -/
def loopSkip : Prop :=
  ∀ (r : Rel) (s : State), s.running = true → s.relHead = some r → s.clocked 13 = true → r.dead ≤ s.ts →
    Answers .loopSkip s fun t => t.lpe.queue = s.lpe.queue.erase r ∧
      t.rd LPE_STAT_skips = (s.rd LPE_STAT_skips + 1) % 2 ^ LPE_STAT_skips.width ∧
      (t.ctx r.ctx).skipRun = min 255 ((s.ctx r.ctx).skipRun + 1) ∧ (t.ctx r.ctx).skips = ((s.ctx r.ctx).skips + 1) % 65536

/-- R188: an issued PI evaluation with a good input, out of feedback fault and OVERRUN, gives the output of the law. -/
def loopEvaluationPI : Prop :=
  ∀ (late : Bool) (r : Rel) (s : State), s.running = true → s.relHead = some r → s.clocked 13 = true → s.ts < r.dead →
    cKind r.cfg = 1 → (s.ctx r.ctx).fb = 0 → (s.ctx r.ctx).ovr = false →
    s.judgeInput r.cfg (cIn r.cfg) (s.source (cIn r.cfg)) (s.ctx r.ctx).frz r.rel = none →
    Answers (.loopEvaluation late) s fun t => t.lpe.queue = s.lpe.queue.erase r ∧ (t.ctx r.ctx).tEval = s.ts ∧
      (t.ctx r.ctx).skipRun = 0 ∧ (t.ctx r.ctx).u =
        (s.piLaw r.cfg { s.ctx r.ctx with outranked := s.outRanked r.cfg (s.ctx r.ctx).u }
          (s.measure r.cfg (s.source (cIn r.cfg)).val) (s.outRanked r.cfg (s.ctx r.ctx).u)).u

/-- R191: an issued FILT evaluation on a valid input moves the signal by kp times its distance; the first takes the input. -/
def loopEvaluationFilt : Prop :=
  ∀ (late : Bool) (r : Rel) (s : State), s.running = true → s.relHead = some r → s.clocked 13 = true → s.ts < r.dead →
    cKind r.cfg = 2 → (s.source (cIn r.cfg)).valid = true → (s.source (cIn r.cfg)).ever = true → (s.ctx r.ctx).ovr = false →
    Answers (.loopEvaluation late) s fun t => (t.ctx r.ctx).started = true ∧ (t.ctx r.ctx).u =
      (if (s.ctx r.ctx).started then add32 (s.ctx r.ctx).u (mul32 (cKp r.cfg) (sub32 (s.source (cIn r.cfg)).val (s.ctx r.ctx).u))
        else (s.source (cIn r.cfg)).val)

/-! ### Thermal -/

/-- R54: a conversion in range joins the open millisecond's and is the anchor's latest. -/
def anchorConversion : Prop :=
  ∀ (a : Fin 128) (raw : BitVec 16) (s : State), s.running = true → s.flag SNS_CTL_anc_en = true →
    -5120 ≤ sgn 16 raw.toNat → sgn 16 raw.toNat ≤ 19200 →
    Answers (.anchorConversion a true raw) s fun t =>
      mget t.sns.ancConv a.val [] = mget s.sns.ancConv a.val [] ++ [raw.toNat] ∧ mget t.sns.ancLast a.val 0 = raw.toNat

/-- R55: a conversion that does not complete marks the anchor's millisecond. -/
def anchorConversionFails : Prop :=
  ∀ (a : Fin 128) (raw : BitVec 16) (s : State), s.running = true → s.flag SNS_CTL_anc_en = true →
    Answers (.anchorConversion a false raw) s fun t => mget t.sns.ancBad a.val false = true ∧ t.regs = s.regs

/-- R206, R207: a step instant with no step running samples the inputs and starts the step. -/
def thermalStep : Prop :=
  ∀ (s : State), s.running = true → s.rd THM_STAT_state = 2 → s.thm.t0 ≤ s.ts → s.thm.per ≠ 0 →
    (s.ts - s.thm.t0) % (usT * s.thm.per) = 0 → s.thm.lastStep ≠ some s.ts → s.thm.pend = none → s.thm.run = none →
    Answers .thermalStep s fun t => t.thm.run = some { t := s.ts, p := s.stepInputs s.thm.per, corr := s.nodeCorr s.thm.corr } ∧
      t.thm.lastStep = some s.ts ∧ t.thm.corr = [] ∧ t.regs = s.regs

/-- R207, R209: a taken matrix set comes into force with the step that starts at the next step instant, and with it the period taken. -/
def thermalStepNewSet : Prop :=
  ∀ (m : MSet) (s : State), s.running = true → s.rd THM_STAT_state = 2 → s.thm.t0 ≤ s.ts → s.thm.per ≠ 0 →
    (s.ts - s.thm.t0) % (usT * s.thm.per) = 0 → s.thm.lastStep ≠ some s.ts → s.thm.pend = some m → s.thm.run = none →
    Answers .thermalStep s fun t => t.thm.set = m ∧ t.thm.prev = s.thm.set ∧ t.thm.pend = none ∧
      t.thm.per = s.rd THM_STEP_period ∧ t.rd THM_SET_ID_ident = m.ident % 2 ^ THM_SET_ID_ident.width ∧
      t.thm.run = some { t := s.ts, p := s.stepInputs (s.rd THM_STEP_period), corr := s.nodeCorr s.thm.corr, newSet := some m }

/-- R230: a step instant that finds the queue full re-initialises the model. -/
def thermalStepOverrun : Prop :=
  ∀ (r : ThmStep) (s : State), s.running = true → s.rd THM_STAT_state = 2 → s.thm.t0 ≤ s.ts → s.thm.per ≠ 0 →
    (s.ts - s.thm.t0) % (usT * s.thm.per) = 0 → s.thm.lastStep ≠ some s.ts → s.thm.run = some r →
    s.rd THM_STEP_catchup ≤ s.thm.queue.length →
    Answers .thermalStep s fun t => t.rd THM_STAT_state = 3 ∧ t.thm.run = none ∧ t.thm.queue = [] ∧
      Recorded s t 11 9 [0, 0xFFFF]

/-- R230: a step instant while a step runs queues behind it and counts as late. -/
def thermalStepLate : Prop :=
  ∀ (r : ThmStep) (s : State), s.running = true → s.rd THM_STAT_state = 2 → s.thm.t0 ≤ s.ts → s.thm.per ≠ 0 →
    (s.ts - s.thm.t0) % (usT * s.thm.per) = 0 → s.thm.lastStep ≠ some s.ts → s.thm.pend = none → s.thm.run = some r →
    s.thm.queue.length < s.rd THM_STEP_catchup →
    Answers .thermalStep s fun t => t.thm.run = some r ∧ t.thm.queue.length = s.thm.queue.length + 1 ∧
      t.rd THM_STEP_STAT_late = (s.rd THM_STEP_STAT_late + 1) % 2 ^ THM_STEP_STAT_late.width

/-- R124, R220: a step completes: with every temperature a finite number, x is A x + B p with the corrections applied first. -/
def thermalStepComplete : Prop :=
  ∀ (st : ThmStep) (s : State), s.running = true → s.thm.run = some st → s.rd THM_STAT_state = 2 → s.isD = false →
    badNodes (stepX s.thm.set (correctedX s.thm.x st.corr) st.p) = [] →
    Answers .thermalStepComplete s fun t => t.thm.x = stepX s.thm.set (correctedX s.thm.x st.corr) st.p ∧ t.thm.lastDone = some s.ts

/-- R230: a step that gives a temperature that is no number re-initialises the model. -/
def thermalStepBad : Prop :=
  ∀ (st : ThmStep) (s : State), s.running = true → s.thm.run = some st → s.rd THM_STAT_state = 2 →
    badNodes (stepX s.thm.set (correctedX s.thm.x st.corr) st.p) ≠ [] →
    Answers .thermalStepComplete s fun t => t.rd THM_STAT_state = 3 ∧ t.thm.run = none ∧ t.thm.x = s.thm.x ∧
      t.rd THM_STEP_STAT_reinit = (s.rd THM_STEP_STAT_reinit + 1) % 2 ^ THM_STEP_STAT_reinit.width

/-- R227, R228: at a step completion, below the edge less the hysteresis for the dwell, the band falls by one. -/
def bandFall : Prop :=
  ∀ (n tb : Nat) (s : State), s.running = true → s.thm.below = some n → s.bandTemp = some tb → s.rd THM_STAT_state = 2 →
    s.thm.lastDone = some s.ts → s.bandLow tb = true → n + msT * s.rd THM_BAND_CFG_dwell ≤ s.ts →
    Answers .bandFall s fun t => t.rd THM_STAT_band = (s.rd THM_STAT_band - 1) % 2 ^ THM_STAT_band.width ∧
      t.rd SNS_DRP_BAND_band = (s.rd THM_STAT_band - 1) % 2 ^ SNS_DRP_BAND_band.width ∧
      Recorded s t 11 7 [s.rd THM_STAT_band, s.rd THM_STAT_band - 1, p7 tb]

/-- R233, R411: the drain time over, QUEFA_READY negates, the stage is LATCHED and the power-down runs for the thermal shutdown. -/
def shutdownDrainExpire : Prop :=
  ∀ (n : Nat) (s : State), s.running = true → s.thm.shutT = some n → n + usT * s.rd THM_SHD_drain ≤ s.ts →
    s.pmb.phase = 0 → s.pmb.started = [] →
    Answers .shutdownDrainExpire s fun t => t.thm.shutT = none ∧ t.pins.ready = false ∧ t.rd RST_SEQ_stage = 9 ∧
      t.rd RST_SEQ_cause = 5 ∧ t.pmb.thermal = true

/-- R213: at the boundary after THM_CTL.run is set x is initialised and the model runs. -/
def modelInit : Prop :=
  ∀ (s : State), s.running = true → s.ts % msT = 0 → s.rd THM_STAT_state = 1 →
    Answers .modelInit s fun t => t.rd THM_STAT_state = 2 ∧ t.thm.t0 = s.ts ∧ t.thm.runT = s.ts ∧
      t.thm.x = s.initX (fun a => !s.flag SNS_ANC_fault a) ∧ t.thm.run = none ∧ t.thm.queue = []

/-- R231: at the next boundary in REINIT x is initialised without broken anchors and the model runs. -/
def reinitRecover : Prop :=
  ∀ (s : State), s.running = true → s.ts % msT = 0 → s.rd THM_STAT_state = 3 →
    Answers .reinitRecover s fun t => t.rd THM_STAT_state = 2 ∧ t.thm.t0 = s.ts ∧ t.thm.runT = s.ts ∧
      t.thm.x = s.initX (fun a => !s.flag SNS_ANC_fault a && !s.flag SNS_ANC_broken a)

/-- R214: at a boundary in RUN every anchor's residual is formed, and one correction by anchor is due before the next step. -/
def anchorCorrection : Prop :=
  ∀ (a : Fin 128) (s : State), s.running = true → s.ts % msT = 0 → s.rd THM_STAT_state = 2 → s.thm.runT < s.ts →
    s.flag SNS_CTL_anc_en = true →
    Answers .anchorCorrection s fun t => t.rd THM_ANC_ST_residual a = t7 (s.residual a) % 2 ^ THM_ANC_ST_residual.width ∧
      t.thm.corr.length = 128

/-- R235: without the primary's cold plate for two periods the secondary keeps its own and reports it. -/
def cplateLocal : Prop :=
  ∀ (s : State), s.running = true → s.isD = true → s.flag THM_STAT_cp_remote = true → s.thm.cpT + 2 * usT * s.thm.per < s.ts →
    Answers .cplateLocal s fun t => t.rd THM_STAT_cp_remote = 0 ∧ Recorded s t 11 12 [roundNEN (s.ts - s.thm.cpT) usT]

/-- R207: a coolant temperature from −10 to 70 °C is stored. -/
def thmTinWrite : Prop :=
  ∀ (v : BitVec 16) (s : State), s.running = true → s.unitAnswers 11 = true → -1280 ≤ sgn 16 v.toNat → sgn 16 v.toNat ≤ 8960 →
    Answers (.thmTinWrite v) s fun t => t.rd THM_TIN_tin = v.toNat ∧ t.rd THM_STEP_STAT_tin_rej = s.rd THM_STEP_STAT_tin_rej

/-- R207: another coolant temperature is refused and counted. -/
def thmTinReject : Prop :=
  ∀ (v : BitVec 16) (s : State), s.running = true → s.unitAnswers 11 = true → (sgn 16 v.toNat < -1280 ∨ 8960 < sgn 16 v.toNat) →
    Answers (.thmTinWrite v) s fun t => t.rd THM_TIN_tin = s.rd THM_TIN_tin ∧
      t.rd THM_STEP_STAT_tin_rej = (s.rd THM_STEP_STAT_tin_rej + 1) % 2 ^ THM_STEP_STAT_tin_rej.width

/-! ### Rings -/

/-- R292, R293: the offset names register o of the page of ring r. -/
def AtPage (off : BitVec 22) (r : Fin 513) (o : Nat) : Prop := off.toNat = 4096 * r.val + o ∧ o < 4096

/-- R295: a permitted producer index of a ring that is neither DISABLED nor QUARANTINED is taken. -/
def doorbellProdWrite : Prop :=
  ∀ (off : BitVec 22) (r : Fin 513) (v : BitVec 32) (s : State), s.running = true → AtPage off r 0x000 → s.clocked 5 = true →
    (s.ring r).st ≠ 0 → (s.ring r).st ≠ 3 →
    sub32w v.toNat (s.ring r).prod ≤ 2 ^ 31 → sub32w v.toNat (s.ring r).cqHead ≤ s.rN r →
    Answers (.doorbellProdWrite off v) s fun t => (t.ring r).prod = v.toNat ∧ (t.ring r).bucket = (s.ring r).bucket ∧
      (t.ring r).fetch = (s.ring r).fetch

/-- R295, R310: one that is not permitted is ignored; the holder of the roles counts and records it (R370). -/
def doorbellProdViolation : Prop :=
  ∀ (off : BitVec 22) (r : Fin 513) (v : BitVec 32) (s : State), s.running = true → AtPage off r 0x000 → s.clocked 5 = true →
    (s.ring r).st ≠ 0 → (s.ring r).st ≠ 3 → s.holdsRoles = true →
    (2 ^ 31 < sub32w v.toNat (s.ring r).prod ∨ s.rN r < sub32w v.toNat (s.ring r).cqHead) →
    mget s.recd.last (evCode 5 2 * 2 ^ 16 + r.val) 0 ≠ s.ts / msT + 1 →
    Answers (.doorbellProdWrite off v) s fun t => (t.ring r).prod = (s.ring r).prod ∧
      (t.ring r).viol = ((s.ring r).viol + 1) % 65536 ∧ t.rd HIF_STAT_viol = (s.rd HIF_STAT_viol + 1) % 2 ^ HIF_STAT_viol.width ∧
      Recorded s t 5 2 [r, 0, v.toNat, if r.val < 512 then min 255 ((s.ring r).bucket + 1) else 0]

/-- R311: the violation that brings the bucket to the limit quarantines a tenant ring. -/
def doorbellQuarantines : Prop :=
  ∀ (off : BitVec 22) (r : Fin 513) (v : BitVec 32) (s : State), s.running = true → AtPage off r 0x000 → s.clocked 5 = true →
    ((s.ring r).st = 1 ∨ (s.ring r).st = 2) → s.holdsRoles = true → r.val < 512 →
    2 ^ 31 < sub32w v.toNat (s.ring r).prod → s.rd HIF_QLIM_limit ≤ min 255 ((s.ring r).bucket + 1) →
    Answers (.doorbellProdWrite off v) s fun t => (t.ring r).st = 3

/-- R296, R311: a doorbell write of a QUARANTINED ring is ignored and counted. -/
def doorbellIgnored : Prop :=
  ∀ (off : BitVec 22) (r : Fin 513) (v : BitVec 32) (s : State), s.running = true → AtPage off r 0x000 → s.clocked 5 = true →
    (s.ring r).st = 3 → s.holdsRoles = true →
    Answers (.doorbellProdWrite off v) s fun t => t.ring r = { s.ring r with ign := ((s.ring r).ign + 1) % 65536 }

/-- R295: a completion head up to the tail is taken. -/
def doorbellCqHeadWrite : Prop :=
  ∀ (off : BitVec 22) (r : Fin 513) (v : BitVec 32) (s : State), s.running = true → AtPage off r 0x004 → s.clocked 5 = true →
    (s.ring r).st ≠ 0 → (s.ring r).st ≠ 3 → s.holdsRoles = true →
    sub32w v.toNat (s.ring r).cqHead ≤ sub32w (s.ring r).cqTail (s.ring r).cqHead →
    Answers (.doorbellCqHeadWrite off v) s fun t => t.ring r = { s.ring r with cqHead := v.toNat } ∧ t.out = s.out

/-- R296, R310: a write that is not a 32-bit one to DB_PROD or DB_CQ_HEAD is a violation of kind 2. -/
def doorbellBadAccess : Prop :=
  ∀ (off : BitVec 22) (r : Fin 513) (o : Nat) (k : Fin 4) (v : BitVec 32) (s : State), s.running = true → AtPage off r o →
    (k.val ≠ 2 ∨ (o ≠ 0x000 ∧ o ≠ 0x004)) → s.clocked 5 = true → (s.ring r).st ≠ 0 → (s.ring r).st ≠ 3 → s.holdsRoles = true →
    mget s.recd.last (evCode 5 2 * 2 ^ 16 + r.val) 0 ≠ s.ts / msT + 1 →
    Answers (.doorbellBadAccess off true k v) s fun t => (t.ring r).viol = ((s.ring r).viol + 1) % 65536 ∧
      (t.ring r).prod = (s.ring r).prod ∧
      Recorded s t 5 2 [r, 2, v.toNat, if r.val < 512 then min 255 ((s.ring r).bucket + 1) else 0]

/-- R296, R310: a read of another width returns zero and is a violation of kind 2. -/
def doorbellBadRead : Prop :=
  ∀ (off : BitVec 22) (r : Fin 513) (o : Nat) (k : Fin 4) (v : BitVec 32) (s : State), s.running = true → AtPage off r o →
    k.val ≠ 2 → s.clocked 5 = true → (s.ring r).st ≠ 0 → s.holdsRoles = true →
    mget s.recd.last (evCode 5 2 * 2 ^ 16 + r.val) 0 ≠ s.ts / msT + 1 →
    Answers (.doorbellBadAccess off false k v) s fun t => (t.ring r).viol = ((s.ring r).viol + 1) % 65536 ∧
      (t.ring r).prod = (s.ring r).prod ∧ Sent s t (.dbData off.toNat 0) ∧
      Recorded s t 5 2 [r, 2, 0, if r.val < 512 then min 255 ((s.ring r).bucket + 1) else 0]

/-- R292: a write past the pages is counted. -/
def doorbellStray : Prop :=
  ∀ (off : BitVec 22) (s : State), s.running = true → s.clocked 5 = true → 4096 * 513 ≤ off.toNat →
    Answers (.doorbellStray off) s fun t => t.rd HIF_STAT_stray_db = (s.rd HIF_STAT_stray_db + 1) % 2 ^ HIF_STAT_stray_db.width

/-- R311: at each multiple of the leak interval every bucket falls by one. -/
def bucketLeak : Prop :=
  ∀ (s : State), s.running = true → s.clocked 5 = true → s.rd HIF_QLIM_leak ≠ 0 → s.ts % (msT * s.rd HIF_QLIM_leak) = 0 →
    Answers .bucketLeak s fun t => (∀ r, (t.ring r).bucket = (s.ring r).bucket - 1 ∧ (t.ring r).st = (s.ring r).st) ∧ t.regs = s.regs

/-- R300: a descriptor whose data arrives stands in the ring's buffer, and the fetch index advances. -/
def descriptorFetched : Prop :=
  ∀ (r : Fin 513) (b : BitVec 512) (s : State), s.running = true → (s.ring r).reads ≠ 0 → (s.ring r).st ≠ 0 →
    Answers (.descriptorFetched r true b) s fun t =>
      (t.ring r).buf = (s.ring r).buf ++ [{ ring := r, idx := (s.ring r).fetch, gen := (s.ring r).gen, w := b.toNat }] ∧
      (t.ring r).fetch = ((s.ring r).fetch + 1) % 2 ^ 32

/-- R313: a descriptor read that fails is repeated, twice at most. -/
def descriptorRetried : Prop :=
  ∀ (r : Fin 513) (b : BitVec 512) (s : State), s.running = true → (s.ring r).reads ≠ 0 → (s.ring r).st ≠ 0 →
    (s.ring r).tries < 2 →
    Answers (.descriptorFetched r false b) s fun t => (t.ring r).tries = (s.ring r).tries + 1 ∧ (t.ring r).fetch = (s.ring r).fetch ∧
      Sent s t (.fabricRead (s.rDesc r + 64 * ((s.ring r).fetch % s.rN r)) 64)

/-- R313: the third failure is counted and recorded, and completes the entry with ST_FABRIC. -/
def descriptorFailed : Prop :=
  ∀ (r : Fin 513) (b : BitVec 512) (s : State), s.running = true → (s.ring r).reads ≠ 0 → 2 ≤ (s.ring r).tries →
    Reports s { ring := r, idx := (s.ring r).fetch, gen := (s.ring r).gen, w := 0 } →
    Answers (.descriptorFetched r false b) s fun t => t.rd HIF_STAT_fabric = (s.rd HIF_STAT_fabric + 1) % 2 ^ HIF_STAT_fabric.width ∧
      Completed s t { ring := r, idx := (s.ring r).fetch, gen := (s.ring r).gen, w := 0 } 0x0008 [(8, 4, (s.ring r).fetch)] ∧
      Recorded s t 5 5 [r, 0, (s.ring r).fetch]

/-- R301, R308: a turn of the steward ring hands a descriptor that passes the checks to its unit. -/
def fp2TurnSteward : Prop :=
  ∀ (d : Desc) (s : State), s.running = true → s.fwRunning 2 = true → s.holdsRoles = true → s.hif.stewardTurn = true →
    s.turnOf stewardRing = some d → d.ring = stewardRing → s.descCheck d.ring d.w = none →
    Answers .fp2Turn s fun t => t.hif.units = s.hif.units ++ [{ d with t := s.ts }] ∧ t.hif.stewardTurn = false ∧
      (t.ring d.ring).buf = (s.ring d.ring).buf.drop 1

/-- R301, R308, R310: a tenant's descriptor that fails a check completes with that check's status and counts as a violation. -/
def fp2TurnRefused : Prop :=
  ∀ (d : Desc) (st : Nat) (s : State), s.running = true → s.fwRunning 2 = true → s.hif.stewardTurn = false →
    s.tenantTurn = some d → d.ring < 512 → s.descCheck d.ring d.w = some st → Reports s d →
    Answers .fp2Turn s fun t => Completed s t d st [] ∧ t.hif.stewardTurn = true ∧ t.hif.lastTenant = d.ring ∧
      (t.ring d.ring).viol = ((s.ring d.ring).viol + 1) % 65536 ∧ t.hif.units = s.hif.units

/-- R305, R306: a HELLO whose versions include one of the block's agrees the lower of the two newest and the features all three
allow; the ring is RUNNING. -/
def hello : Prop :=
  ∀ (d : Desc) (s : State), s.running = true → InTurn s (fun d => decide (dOp d.w = 0x01)) d → Reports s d → (s.ring d.ring).st = 1 →
    d.ring < 512 → dB d.w 8 1 ≤ dB d.w 9 1 → dB d.w 8 1 / 16 ≤ 1 → dB d.w 8 1 ≤ min (dB d.w 9 1) ringVersion →
    Answers .hello s fun t => (t.ring d.ring).agreed = true ∧ (t.ring d.ring).ver = min (dB d.w 9 1) ringVersion ∧
      (t.ring d.ring).feat = (dB d.w 16 8 &&& s.rd HIF_FEAT &&& eTfeat (s.tring d.ring)) ∧ (t.ring d.ring).st = 2 ∧
      Completed s t d 0 [(8, 1, min (dB d.w 9 1) ringVersion), (9, 1, s.rd HIF_VER_gen), (10, 1, s.rd HIF_VER_slate),
        (11, 1, s.rd HIF_VER_salgor), (12, 2, d.ring), (14, 1, if s.isD then s.pRole else 0),
        (16, 8, dB d.w 16 8 &&& s.rd HIF_FEAT &&& eTfeat (s.tring d.ring)), (24, 8, s.rd HIF_FEAT)]

/-- R305: one whose versions do not overlap the block's completes with ST_VERSION, and nothing is agreed. -/
def helloRefused : Prop :=
  ∀ (d : Desc) (s : State), s.running = true → InTurn s (fun d => decide (dOp d.w = 0x01)) d → Reports s d →
    1 < dB d.w 8 1 / 16 →
    Answers .hello s fun t => (t.ring d.ring).agreed = (s.ring d.ring).agreed ∧ (t.ring d.ring).ver = (s.ring d.ring).ver ∧
      (t.ring d.ring).feat = (s.ring d.ring).feat ∧ Completed s t d 0x0003 [(8, 1, ringVersion), (24, 8, s.rd HIF_FEAT)]

/-- R312: RESUME empties the bucket of a QUARANTINED ring and makes it RUNNING again. -/
def quarantineResume : Prop :=
  ∀ (d : Desc) (s : State), s.running = true → InTurn s (isQrel 0) d → Reports s d → d.ring = stewardRing → dB d.w 8 2 < 512 →
    (s.ring (dB d.w 8 2)).st = 3 →
    Answers .quarantineResume s fun t => (t.ring (dB d.w 8 2)).bucket = 0 ∧ (t.ring (dB d.w 8 2)).st = 2 ∧
      Completed s t d 0 [(8, 4, (s.ring (dB d.w 8 2)).ign)] ∧ Recorded s t 5 4 [dB d.w 8 2, 0]

/-- R312: RESUME of a ring that is neither QUARANTINED nor STOPPED is refused. -/
def quarantineResumeRefused : Prop :=
  ∀ (d : Desc) (s : State), s.running = true → InTurn s (isQrel 0) d → Reports s d → (s.ring (dB d.w 8 2)).st ≠ 3 →
    (s.ring (dB d.w 8 2)).st ≠ 4 →
    Answers .quarantineResume s fun t => Completed s t d 0x0600 [] ∧ (t.ring (dB d.w 8 2)).st = (s.ring (dB d.w 8 2)).st

/-- R312: RESET of a QUARANTINED or STOPPED ring waits for its descriptors in flight. -/
def quarantineReset : Prop :=
  ∀ (d : Desc) (s : State), s.running = true → InTurn s (isQrel 1) d →
    ((s.ring (dB d.w 8 2)).st = 3 ∨ (s.ring (dB d.w 8 2)).st = 4) →
    Answers .quarantineReset s fun t => (t.ring (dB d.w 8 2)).resets = (s.ring (dB d.w 8 2)).resets ++ [d] ∧
      t.hif.units = s.hif.units.erase d ∧ t.out = s.out

/-- R312: with nothing in flight the ring is reset, enabled and empty, and the RESET completes. -/
def quarantineResetDrained : Prop :=
  ∀ (r : Fin 512) (d : Desc) (s : State), s.running = true → (s.ring r).resets = [d] → (s.ring r).inFlight = 0 → d.ring = stewardRing →
    Reports s d →
    Answers (.quarantineResetDrained r) s fun t => (t.ring r).st = 1 ∧ (t.ring r).prod = 0 ∧ (t.ring r).fetch = 0 ∧
      (t.ring r).cqTail = 0 ∧ (t.ring r).cqHead = 0 ∧ (t.ring r).bucket = 0 ∧ (t.ring r).agreed = false ∧
      Completed s t d 0 [(8, 4, (s.ring r).ign)] ∧ Recorded s t 5 4 [r, 1]

/-- R314, R317: en set with a size of 6 to 16 enables the steward ring, its indices and counts zero. -/
def hifSctlEnable : Prop :=
  ∀ (v : BitVec 32) (s : State), s.running = true → s.unitAnswers 5 = true → s.rd HIF_SCTL_en = 0 → bit v.toNat 0 = true →
    6 ≤ bits v.toNat 8 5 → bits v.toNat 8 5 ≤ 16 →
    Answers (.hifSctlWrite v) s fun t => t.rd HIF_SCTL_en = 1 ∧ t.rd HIF_SCTL_size = bits v.toNat 8 5 ∧
      t.ring stewardRing = { gen := (s.ring stewardRing).gen + 1, st := 1 } ∧ Recorded s t 5 6 [512, 1, 0]

/-- R317: en cannot be set with a size outside 6 to 16. -/
def hifSctlBadSize : Prop :=
  ∀ (v : BitVec 32) (s : State), s.running = true → s.unitAnswers 5 = true → s.rd HIF_SCTL_en = 0 →
    (bits v.toNat 8 5 < 6 ∨ 16 < bits v.toNat 8 5) →
    Answers (.hifSctlWrite v) s fun t => t.rd HIF_SCTL_en = 0 ∧ t.rd HIF_SCTL_size = bits v.toNat 8 5 ∧ t.hif = s.hif

/-- R314: en cleared disables the ring; what is in flight runs on and is counted in the event. -/
def hifSctlDisable : Prop :=
  ∀ (v : BitVec 32) (s : State), s.running = true → s.unitAnswers 5 = true → s.rd HIF_SCTL_en = 1 → bit v.toNat 0 = false →
    Answers (.hifSctlWrite v) s fun t => t.rd HIF_SCTL_en = 0 ∧ t.rd HIF_SCTL_size = s.rd HIF_SCTL_size ∧
      (t.ring stewardRing).st = 0 ∧ (t.ring stewardRing).fly = [] ∧ t.hif.units = s.hif.units ∧
      Recorded s t 5 6 [512, 0, (s.ring stewardRing).inFlight]

/-! ### Account -/

/-- What R278 adds for one millisecond's record, with its measured energies since the boundary before. -/
def msIncs (s : State) (r : MsRec) (qc : Nat) : Incs :=
  (spanOf [r] (acctUnits qc - s.acc.mc) (acctUnits r.qa - s.acc.ma)).incs (s.rd ACT_ACC_CTL_smax) (s.flag ACT_ACC_CTL_aux_mode)

/-- R278, R279: in Glatos S a reconciliation consumes the oldest millisecond whose measurement is final: every tenant's account grows by
its increment, the house and the loss by theirs, and the boundary is shown. -/
def reconciliation : Prop :=
  ∀ (r : MsRec) (rest : List MsRec) (qc : Nat) (s : State), s.running = true → s.fwRunning 1 = true → s.clocked 15 = true →
    s.isD = false → s.acc.gap = false → s.acc.wait = r :: rest → r.qc = some qc → s.acc.jobs = [] →
    Answers (.reconciliation [] 0 0 0 []) s fun t => t.acc.wait = rest ∧ t.acc.mc = acctUnits qc ∧ t.acc.ma = acctUnits r.qa ∧
      t.rd ACT_RECON_T = r.b % 2 ^ ACT_RECON_T.width ∧ t.acc.lastN = 1 ∧
      (∀ n < 512, t.settled n = (s.settled n + mget (msIncs s r qc).charge n 0) % 2 ^ 64 ∨
        mget (msIncs s r qc).charge n 0 = 0 ∧ t.settled n = s.settled n) ∧
      t.rd ACT_HOUSE = (s.rd ACT_HOUSE + (msIncs s r qc).house) % 2 ^ ACT_HOUSE.width ∧
      t.rd ACT_RLOSS = (s.rd ACT_RLOSS + (msIncs s r qc).loss) % 2 ^ ACT_RLOSS.width ∧
      t.acc.lastM = (acctUnits qc - s.acc.mc) + (acctUnits r.qa - s.acc.ma)

/-- R283: JOB_OPEN takes the first free record, which waits for the first boundary of 1 ms at or after the turn. -/
def jobOpen : Prop :=
  ∀ (d : Desc) (k : Nat) (s : State), s.running = true → InTurn s (fun d => decide (dOp d.w = 0x20)) d → d.ring = stewardRing →
    dB d.w 8 1 = 0 → (List.range 1024).find? (fun k => decide ((s.job k).state = 0)) = some k →
    (s.acc.jobs.filter fun e => decide (e.2.state ≠ 0) && decide (e.2.tenant = dB d.w 10 2)).length < s.rd ACT_ACC_CTL_jobmax →
    s.rd ACT_RECON_T < nextMs d.t →
    Answers .jobOpen s fun t => (t.job k).state = 1 ∧ (t.job k).acct = dB d.w 10 2 ∧ (t.job k).tenant = dB d.w 10 2 ∧
      (t.job k).b0 = nextMs d.t ∧ (t.job k).gen = (s.job k).gen + 1 ∧ (t.job k).desc = some d

/-- R283: with no free record JOB_OPEN completes with ST_JOB_LIMIT. -/
def jobOpenFull : Prop :=
  ∀ (d : Desc) (s : State), s.running = true → InTurn s (fun d => decide (dOp d.w = 0x20)) d → d.ring = stewardRing →
    Reports s d → (List.range 1024).find? (fun k => decide ((s.job k).state = 0)) = none →
    Answers .jobOpen s fun t => Completed s t d 0x0300 [] ∧ t.acc = s.acc

/-- R284: JOB_CLOSE of an open job waits for the next boundary. -/
def jobClose : Prop :=
  ∀ (d : Desc) (s : State), s.running = true → InTurn s (fun d => decide (dOp d.w = 0x21)) d → d.ring = stewardRing →
    (s.job (dB d.w 8 2 % 1024)).state = 2 → (s.job (dB d.w 8 2 % 1024)).close = none →
    (s.job (dB d.w 8 2 % 1024)).gen % 64 = dB d.w 8 2 / 1024 → s.rd ACT_RECON_T < nextMs d.t →
    Answers .jobClose s fun t => t.job (dB d.w 8 2 % 1024) =
      { s.job (dB d.w 8 2 % 1024) with state := 3, close := some d, b1 := nextMs d.t }

/-- R284, R288: JOB_CLOSE of a job whose opening still waits waits with it. -/
def jobCloseOpening : Prop :=
  ∀ (d : Desc) (s : State), s.running = true → InTurn s (fun d => decide (dOp d.w = 0x21)) d → d.ring = stewardRing →
    (s.job (dB d.w 8 2 % 1024)).state = 1 → (s.job (dB d.w 8 2 % 1024)).close = none →
    (s.job (dB d.w 8 2 % 1024)).gen % 64 = dB d.w 8 2 / 1024 →
    Answers .jobClose s fun t => t.job (dB d.w 8 2 % 1024) =
      { s.job (dB d.w 8 2 % 1024) with close := some d, b1 := nextMs d.t }

/-- R284: a handle of no record in use, of another generation or of one that is closing completes with ST_JOB_UNKNOWN. -/
def jobCloseRefused : Prop :=
  ∀ (d : Desc) (s : State), s.running = true → InTurn s (fun d => decide (dOp d.w = 0x21)) d → Reports s d →
    ((s.job (dB d.w 8 2 % 1024)).state = 0 ∨ (s.job (dB d.w 8 2 % 1024)).gen % 64 ≠ dB d.w 8 2 / 1024 ∨
      (s.job (dB d.w 8 2 % 1024)).close.isSome = true) →
    Answers .jobClose s fun t => Completed s t d 0x0302 [] ∧ t.acc = s.acc

/-- R282: READ_ENERGY returns the settled value, its boundary and the pending estimate. -/
def readEnergy : Prop :=
  ∀ (d : Desc) (s : State), s.running = true → InTurn s (fun d => decide (dOp d.w = 0x22)) d → Reports s d →
    Answers .readEnergy s fun t => t.acc = s.acc ∧
      Completed s t d 0 [(8, 8, s.settled (acctIndex (dB d.w 8 1) (dB d.w 10 2))), (16, 8, s.rd ACT_RECON_T),
        (24, 4, min (2 ^ 32 - 1) (s.pendingOf (acctIndex (dB d.w 8 1) (dB d.w 10 2))))]

/-- R273: SET_TENANT_CAP writes the tenant's set cap and returns the one it replaces. -/
def setTenantCap : Prop :=
  ∀ (d : Desc) (s : State), s.running = true → InTurn s (fun d => decide (dOp d.w = 0x30)) d → Reports s d → dB d.w 8 2 < 512 →
    Answers .setTenantCap s fun t => t.rd ACT_TSET (dB d.w 8 2) = dB d.w 12 4 ∧
      Completed s t d 0 [(8, 4, s.rd ACT_TSET (dB d.w 8 2))]

/-! ### Recorder -/

/-- R451, R454, R455: once in a hub cycle the record at the front of the queue takes the next number: its 32 bytes and its sequence word stand in the
sapwood. -/
def eventRecordAccept : Prop :=
  ∀ (r : EvRec) (q : List EvRec) (s : State), s.running = true → s.rd RST_SEQ_stage ≠ 0 → s.recd.queue = r :: q → s.recd.lost = 0 →
    s.recd.nextT ≤ s.ts → s.memoriesOk = true → r.params.length = 4 → s.hub.bad = [] → s.rd EVT_NEXT_next < 2 ^ 32 - 1 →
    Answers .eventRecordAccept s fun t => t.recd.queue = q ∧ t.recd.nextT = s.ts + 1 ∧ t.rd EVT_NEXT_next = s.rd EVT_NEXT_next + 1 ∧
      t.readBank evsBank (32 * (s.rd EVT_NEXT_next % 4096)) 32 = r.bytes (s.flag EVT_NA_set) ∧
      t.seqWord (s.rd EVT_NEXT_next) = 2 * s.rd EVT_NEXT_next % 2 ^ 32

/-- R452: where records were lost, EV_EVT_LOST takes the next number before the queue goes on. -/
def eventRecordLost : Prop :=
  ∀ (r : EvRec) (q : List EvRec) (s : State), s.running = true → s.rd RST_SEQ_stage ≠ 0 → s.recd.queue = r :: q → 0 < s.recd.lost →
    s.recd.inLost = false → s.recd.nextT ≤ s.ts → s.rd EVT_NEXT_next < 2 ^ 32 - 1 →
    Answers .eventRecordAccept s fun t => t.recd.queue = r :: q ∧ t.rd EVT_NEXT_next = s.rd EVT_NEXT_next + 1 ∧ t.recd.lost = 0

/-- R457: FP3 programs the next position of the heartwood with the record of the next number. -/
def heartwoodProgram : Prop :=
  ∀ (bs : List Byte) (s : State), s.running = true → s.fwRunning 3 = true → s.nvm.restored = true → s.flag NVM_STAT_found = true →
    s.nvm.portHigh = false → s.nvm.hwOpen = true → s.nvm.hwPos < 256 → s.nvm.clear = none → s.nvm.ops = [] → s.nvm.priorN = 0 →
    laterSer (s.rd EVT_NEXT_next) s.nvm.hwNext 32 = true → s.recordAt s.nvm.hwNext = some bs →
    Answers .heartwoodProgram s fun t => t.nvm.ops =
      [{ item := 0, addr := halfBase s.nvm.half + 0x1000 + 32 * s.nvm.hwPos, data := bs,
         arg := s.nvm.hwPos, num := s.nvm.hwNext }] ∧ t.nvm.hwPos = s.nvm.hwPos + 1 ∧ t.nvm.hwNext = (s.nvm.hwNext + 1) % 2 ^ 32 ∧
      t.rd NVM_STAT_busy = 1

/-- R456: EVT_READ of records all held writes them to the buffer and returns their count, the first and the next number. -/
def evtRead : Prop :=
  ∀ (d : Desc) (n : Nat) (s : State), s.running = true → InTurn s (fun d => decide (dOp d.w = 0x50)) d → Reports s d → dB d.w 8 1 = 0 →
    bit (dB d.w 9 1) 0 = false → laterSer (dB d.w 16 4) (s.rd EVT_NEXT_next) 32 = false →
    n = min (dB d.w 10 2) (sub32w (s.rd EVT_NEXT_next) (dB d.w 16 4)) → sub32w (s.rd EVT_NEXT_next) (dB d.w 16 4) ≤ s.held →
    n * 32 ≤ dB d.w 12 4 → 0 < n → (∀ i < n, (s.recordAt ((dB d.w 16 4 + i) % 2 ^ 32)).isSome = true) →
    Answers .evtRead s fun t => Completed s t d 0 [(8, 4, n), (12, 4, dB d.w 16 4), (16, 4, dB d.w 16 4 + n), (20, 4, 0)] ∧
      Sent s t (.fabricWrite (dB d.w 24 8)
        ((List.range n).flatMap fun i => (s.recordAt ((dB d.w 16 4 + i) % 2 ^ 32)).getD []))

/-- R456: a first record later than the next completes with ST_EVT_RANGE. -/
def evtReadRefused : Prop :=
  ∀ (d : Desc) (s : State), s.running = true → InTurn s (fun d => decide (dOp d.w = 0x50)) d → Reports s d → dB d.w 8 1 = 0 →
    laterSer (dB d.w 16 4) (s.rd EVT_NEXT_next) 32 = true →
    Answers .evtRead s fun t => Completed s t d 0x0500 []

/-- R459, R466: EVT_CLEAR with the count held asks for the header of the other half, with the next generation. -/
def evtClear : Prop :=
  ∀ (d : Desc) (s : State), s.running = true → s.nvm.clear = none → InTurn s (fun d => decide (dOp d.w = 0x51)) d →
    dB d.w 8 4 = s.rd EVT_HW_count → s.flag NVM_STAT_found = true → s.nvm.portHigh = false → s.nvm.ops = [] →
    Answers .evtClear s fun t => t.nvm.clear = some d ∧ t.nvm.ops =
      [{ item := 2, addr := halfBase (1 - s.nvm.half), data := halfHeader ((s.nvm.gen + 1) % 2 ^ 32) s.ts }] ∧
      t.rd EVT_HW_count = s.rd EVT_HW_count

/-- R459: EVT_CLEAR with another count completes with ST_EVT_COUNT. -/
def evtClearRefused : Prop :=
  ∀ (d : Desc) (s : State), s.running = true → s.nvm.clear = none → InTurn s (fun d => decide (dOp d.w = 0x51)) d → Reports s d →
    s.flag NVM_STAT_found = true → s.nvm.portHigh = false → dB d.w 8 4 ≠ s.rd EVT_HW_count →
    Answers .evtClear s fun t => Completed s t d 0x0501 [] ∧ t.nvm = s.nvm

/-- R474, R475: TIME_SET puts a new anchor in force. -/
def timeSet : Prop :=
  ∀ (d : Desc) (s : State), s.running = true → InTurn s (fun d => decide (dOp d.w = 0x52)) d → Reports s d → timeOk d.w s.ts = true →
    Answers .timeSet s fun t => t.rd EVT_TA_ta = dB d.w 8 8 ∧ t.rd EVT_NA_na = dB d.w 24 4 ∧ t.rd EVT_NA_set = 1 ∧
      t.rd EVT_SA_sa = (daysOf (dB d.w 16 2) (dB d.w 18 1) (dB d.w 19 1) * 86400 + dB d.w 20 1 * 3600 + dB d.w 21 1 * 60 + dB d.w 22 1)
        % 2 ^ EVT_SA_sa.width ∧ Completed s t d 0 []

/-- R475: a time that fails the checks completes with ST_TIME, and the anchor stays. -/
def timeSetRefused : Prop :=
  ∀ (d : Desc) (s : State), s.running = true → InTurn s (fun d => decide (dOp d.w = 0x52)) d → Reports s d → timeOk d.w s.ts = false →
    Answers .timeSet s fun t => Completed s t d 0x0502 [] ∧ t.rd EVT_TA_ta = s.rd EVT_TA_ta ∧ t.rd EVT_NA_set = s.rd EVT_NA_set

/-- R484: EVT_CIV_LAT latches the civil time of now. -/
def evtCivLatch : Prop :=
  ∀ (v : BitVec 32) (y m d h n sec ns : Nat) (s : State), s.running = true → bit v.toNat 0 = true → s.unitAnswers 16 = true →
    s.civil s.ts = some [y, m, d, h, n, sec, ns] →
    Answers (.evtCivLatch v) s fun t => t.rd EVT_CIV_year = y % 2 ^ EVT_CIV_year.width ∧ t.rd EVT_CIV_month = m % 2 ^ EVT_CIV_month.width ∧
      t.rd EVT_CIV_day = d % 2 ^ EVT_CIV_day.width ∧ t.rd EVT_CIV_hour = h % 2 ^ EVT_CIV_hour.width ∧
      t.rd EVT_CIV_minute = n % 2 ^ EVT_CIV_minute.width ∧ t.rd EVT_CIV_second = sec % 2 ^ EVT_CIV_second.width ∧
      t.rd EVT_CIV_ns = ns % 2 ^ EVT_CIV_ns.width ∧ t.rd EVT_CIV_valid = 1 ∧ t.rd EVT_CIV_done = 1

/-- R484: without an anchor valid is 0. -/
def evtCivInvalid : Prop :=
  ∀ (v : BitVec 32) (s : State), s.running = true → bit v.toNat 0 = true → s.unitAnswers 16 = true → s.rd EVT_NA_set = 0 →
    Answers (.evtCivLatch v) s fun t => t.rd EVT_CIV_valid = 0 ∧ t.rd EVT_CIV_done = 1

/-! ### Nvm -/

/-- R463, R471: an erase ends: the sector holds 0xFF, the erase is counted for its region and the operation leaves. -/
def flashEraseDone : Prop :=
  ∀ (o : FlashOp) (q : List FlashOp) (s : State), s.running = true → s.nvm.ops = o :: q → s.nvm.done = false → s.nvm.portHigh = false →
    o.erase = true → o.item = 3 → s.fwRunning 3 = true →
    Answers .flashOpDone s fun t => t.nvm.ops = q ∧ (∀ a, a / 4096 = o.addr / 4096 → memRead t.flash flashDefault a = 0xFF) ∧
      (∀ a, a / 4096 ≠ o.addr / 4096 → memRead t.flash flashDefault a = memRead s.flash flashDefault a) ∧
      t.rd NVM_WEAR_hw = (s.rd NVM_WEAR_hw + 1) % 2 ^ NVM_WEAR_hw.width

/-- R463: a program that goes beyond its page goes on with the next page. -/
def flashProgramPage : Prop :=
  ∀ (o : FlashOp) (q : List FlashOp) (s : State), s.running = true → s.nvm.ops = o :: q → s.nvm.done = false → s.nvm.portHigh = false →
    o.erase = false → o.page.length < o.data.length →
    Answers .flashOpDone s fun t => t.flash = flashProgram s.flash o.addr o.page ∧
      t.nvm.ops = { o with addr := o.addr + o.page.length, data := o.data.drop o.page.length, tried := false } :: q ∧
      t.nvm.done = false

/-- R457, R466: a heartwood record programmed, its commit bit is asked for. -/
def flashRecordDone : Prop :=
  ∀ (o : FlashOp) (s : State), s.running = true → s.nvm.ops = [o] → s.nvm.done = false → s.nvm.portHigh = false →
    o.erase = false → o.data.length ≤ 256 - o.addr % 256 → o.item = 0 → s.fwRunning 3 = true → s.flag NVM_STAT_found = true →
    Answers .flashOpDone s fun t => t.flash = flashProgram s.flash o.addr o.data ∧ t.nvm.ops =
      [{ item := 1, addr := halfBase s.nvm.half + 64 + o.arg / 8, data := [BitVec.ofNat 8 (255 - 2 ^ (o.arg % 8))], arg := o.arg,
         num := o.num }]

/-- R457: its commit bit programmed, the record counts. -/
def flashCommitDone : Prop :=
  ∀ (o : FlashOp) (s : State), s.running = true → s.nvm.ops = [o] → s.nvm.done = false → s.nvm.portHigh = false →
    o.erase = false → o.data.length ≤ 256 - o.addr % 256 → o.item = 1 → s.fwRunning 3 = true →
    Answers .flashOpDone s fun t => t.rd EVT_HW_count = (s.rd EVT_HW_count + 1) % 2 ^ EVT_HW_count.width ∧ t.nvm.ops = []

/-- R441: while FP3 is not running the follow-up of an operation that has ended waits. -/
def flashDoneWaits : Prop :=
  ∀ (o : FlashOp) (q : List FlashOp) (s : State), s.running = true → s.nvm.ops = o :: q → s.nvm.done = false → s.nvm.portHigh = false →
    o.data.length ≤ 256 - o.addr % 256 → s.fwRunning 3 = false →
    Answers .flashOpDone s fun t => t.nvm.done = true ∧ t.nvm.ops = o :: q

/-- R472: an operation that fails is repeated once. -/
def flashOpRetry : Prop :=
  ∀ (st : BitVec 8) (o : FlashOp) (q : List FlashOp) (s : State), s.running = true → s.nvm.ops = o :: q → s.nvm.done = false →
    s.nvm.portHigh = false → o.tried = false →
    Answers (.flashOpTimeout st) s fun t => t.nvm.ops = { o with tried := true } :: q ∧ t.recd = s.recd ∧ t.flash = s.flash

/-- R472: one that fails again is counted and recorded, and leaves. -/
def flashOpFailed : Prop :=
  ∀ (st : BitVec 8) (o : FlashOp) (q : List FlashOp) (s : State), s.running = true → s.nvm.ops = o :: q → s.nvm.done = false →
    s.nvm.portHigh = false → o.tried = true → o.erase = true → o.item = 6 →
    Answers (.flashOpTimeout st) s fun t => t.nvm.ops = q ∧ t.rd NVM_ERR_erase = (s.rd NVM_ERR_erase + 1) % 2 ^ NVM_ERR_erase.width ∧
      Recorded s t 17 2 [1, o.addr, st.toNat] ∧ t.flash = s.flash

/-- R156, R468: FP3 writes the last-fault record to the next of the 128 slots; until it is written it counts as unwritten. -/
def lastFaultFlashWrite : Prop :=
  ∀ (s : State), s.running = true → s.vrc.lfPend = true → s.vrc.lfAsked = false → s.fwRunning 3 = true → s.nvm.restored = true →
    s.flag NVM_STAT_found = true → s.nvm.portHigh = false → s.nvm.ops = [] →
    Answers .lastFaultFlashWrite s fun t => t.vrc.lfAsked = true ∧ t.vrc.lfPend = true ∧ t.nvm.logNext = (s.nvm.logNext + 1) % 128 ∧
      t.nvm.ops = [{ item := 7, addr := logBase + 512 * s.nvm.logNext, data := leBytes 512 (s.rd VRC_LASTF), arg := s.nvm.logNext }]

/-- R156: programmed, the record is counted, and unless a newer one has replaced it none is unwritten. -/
def lastFaultWritten : Prop :=
  ∀ (o : FlashOp) (s : State), s.running = true → s.nvm.ops = [o] → s.nvm.done = false → s.nvm.portHigh = false →
    o.erase = false → o.data.length ≤ 256 - o.addr % 256 → o.item = 7 → s.fwRunning 3 = true →
    Answers .flashOpDone s fun t => t.vrc.lfCount = s.vrc.lfCount + 1 ∧ t.vrc.lfPend = (s.vrc.lfPend && !s.vrc.lfAsked)

/-- R462, R465: at start-up FP3 finds the half of the heartwood whose header is valid. -/
def fp3StartupRestore : Prop :=
  ∀ (s : State), s.running = true → s.rd RST_SEQ_stage ≠ 0 → s.fwRunning 3 = true → s.nvm.restored = false →
    s.halfValid 0 = false → s.halfValid 1 = true → s.flash.all (fun c => decide (c.1 < 0x10000)) = true →
    Answers .fp3StartupRestore s fun t => t.nvm.restored = true ∧ t.nvm.half = 1 ∧ t.nvm.gen = s.halfGen 1 ∧ t.nvm.hwOpen = true ∧
      t.rd EVT_HW_count = ((List.range 256).filter fun k => s.hwCommitted 1 k).length % 2 ^ EVT_HW_count.width ∧
      t.rd EVT_HW_gen = s.halfGen 1 % 2 ^ EVT_HW_gen.width

/-- R461: 10 s after the previous capture a deferred mirror is captured. -/
def mirrorDeferExpire : Prop :=
  ∀ (c n : Nat) (s : State), s.running = true → s.nvm.defer = some c → s.nvm.capT = some n → n + mirrorGap ≤ s.ts →
    s.fwRunning 3 = true → s.flag NVM_STAT_found = true → s.nvm.portHigh = false → s.nvm.ops = [] →
    Answers .mirrorDeferExpire s fun t => t.nvm.defer = none ∧ t.nvm.capT = some s.ts ∧ t.rd NVM_MIRROR_deferred = 0 ∧
      t.nvm.ops.map (fun o => (o.item, o.addr)) =
        [(4, mirrorBase (s.nvm.slots.getD 2 0) + 0x1000), (5, mirrorBase (s.nvm.slots.getD 2 0))]

/-! ### Smb -/

/-- R478: a read of a command returns the bytes, after their count in a block read, and the packet error code over the whole
transaction. -/
def Returns (s t : State) (cmd : Nat) (block : Bool) (bs : List Byte) : Prop :=
  t.out = s.out ++ [.smbus ((if block then [bs.length] else []) ++ bs.map BitVec.toNat ++
    [pecOf ([2 * s.rd SMB_CTL_addr, cmd, 2 * s.rd SMB_CTL_addr + 1] ++ ((if block then [bs.length] else []) ++ bs.map BitVec.toNat))])]

/-- R479: IDENT returns the versions of the block's generation, its three protocols and its four processors' images. -/
def smbIdent : Prop :=
  ∀ (s : State), s.smbUp = true →
    Answers (.smbIdent true) s fun t => Returns s t 0x00 true (leBytes 1 (s.rd HIF_VER_gen) ++ leBytes 1 (s.rd HIF_VER_ring) ++
      leBytes 1 (s.rd HIF_VER_slate) ++ leBytes 1 (s.rd HIF_VER_salgor) ++ leBytes 4 (s.rd FW_VER_version 0) ++
      leBytes 4 (s.rd FW_VER_version 1) ++ leBytes 4 (s.rd FW_VER_version 2) ++ leBytes 4 (s.rd FW_VER_version 3)) ∧ t.regs = s.regs

/-- R479: STATUS returns the stage, the rail's state and the flags of the block in a word. -/
def smbStatus : Prop :=
  ∀ (s : State), s.smbUp = true →
    Answers (.smbStatus true) s fun t => Returns s t 0x01 false (leBytes 2 (s.rd RST_SEQ_stage + 16 * (s.rd VRC_STAT_state % 8) +
      128 * b2n s.pins.trip + 256 * b2n s.fbInForce + 512 * s.rd RST_CAUSE_crowbar + 1024 * s.rd THM_STAT_throttle +
      2048 * s.rd EVT_NA_set + 4096 * (if s.isD then s.rd PAR_STAT_role else 0))) ∧ t.regs = s.regs

/-- R479: TEMP_HOT returns the hottest node and its temperature. -/
def smbTempHot : Prop :=
  ∀ (s : State), s.smbUp = true →
    Answers (.smbTempHot true) s fun t => Returns s t 0x10 true (leBytes 2 (s.rd THM_HOT_value) ++ leBytes 2 (s.rd THM_HOT_node)) ∧
      t.regs = s.regs

/-- R479: ANCHOR_LO returns anchors 0 to 63. -/
def smbAnchorLo : Prop :=
  ∀ (s : State), s.smbUp = true →
    Answers (.smbAnchorLo true) s fun t => Returns s t 0x11 true ((List.range 64).flatMap fun k => leBytes 2 (s.rd SNS_ANC_value k)) ∧
      t.regs = s.regs

/-- R479: ANCHOR_HI returns anchors 64 to 127. -/
def smbAnchorHi : Prop :=
  ∀ (s : State), s.smbUp = true →
    Answers (.smbAnchorHi true) s fun t =>
      Returns s t 0x12 true ((List.range 64).flatMap fun k => leBytes 2 (s.rd SNS_ANC_value (64 + k))) ∧ t.regs = s.regs

/-- R479: TIN returns the inlet temperature. -/
def smbTinRead : Prop :=
  ∀ (s : State), s.smbUp = true →
    Answers (.smbTinRead true) s fun t => Returns s t 0x18 false (leBytes 2 (s.rd THM_TIN_tin)) ∧ t.regs = s.regs

/-- R207, R479: a TIN write from −10 to 70 °C is taken where tin_en allows it. -/
def smbTinWrite : Prop :=
  ∀ (v : BitVec 16) (s : State), s.smbUp = true → s.rd SMB_CTL_tin_en = 1 → -1280 ≤ sgn 16 v.toNat → sgn 16 v.toNat ≤ 8960 →
    Answers (.smbTinWrite true true v) s fun t => t.rd THM_TIN_tin = v.toNat ∧ t.out = s.out

/-- R207: another temperature is counted and changes nothing else. -/
def smbTinRejected : Prop :=
  ∀ (v : BitVec 16) (s : State), s.smbUp = true → s.rd SMB_CTL_tin_en = 1 → (sgn 16 v.toNat < -1280 ∨ 8960 < sgn 16 v.toNat) →
    Answers (.smbTinWrite true true v) s fun t => t.rd THM_TIN_tin = s.rd THM_TIN_tin ∧
      t.rd THM_STEP_STAT_tin_rej = (s.rd THM_STEP_STAT_tin_rej + 1) % 2 ^ THM_STEP_STAT_tin_rej.width

/-- R480: with tin_en 0 a TIN write is not acknowledged and counts as a command violation. -/
def smbTinDisabled : Prop :=
  ∀ (v : BitVec 16) (s : State), s.smbUp = true → s.rd SMB_CTL_tin_en = 0 →
    Answers (.smbTinWrite true true v) s fun t => t.rd THM_TIN_tin = s.rd THM_TIN_tin ∧ t.out = s.out ++ [.smbusNack] ∧
      t.rd SMB_STAT_cmd = (s.rd SMB_STAT_cmd + 1) % 2 ^ SMB_STAT_cmd.width

/-- R480: a write with a wrong packet error code is not acknowledged and counted apart. -/
def smbWrongPec : Prop :=
  ∀ (v : BitVec 16) (s : State), s.smbUp = true → s.rd SMB_CTL_tin_en = 1 →
    Answers (.smbTinWrite true false v) s fun t => t.rd THM_TIN_tin = s.rd THM_TIN_tin ∧ t.out = s.out ++ [.smbusNack] ∧
      t.rd SMB_STAT_pec = (s.rd SMB_STAT_pec + 1) % 2 ^ SMB_STAT_pec.width

/-- R479: POWER returns the die's measured power, the auxiliary rails' sum, the package budget and the rail's voltage. -/
def smbPower : Prop :=
  ∀ (s : State), s.smbUp = true →
    Answers (.smbPower true) s fun t => Returns s t 0x20 true (leBytes 4 (s.rd ACT_MEAS_DIE) ++
      leBytes 4 (sumN ((List.range 16).map fun r => s.rd PMB_RAIL_P r)) ++ leBytes 4 (s.rd ACT_PKG_BUD) ++
      leBytes 4 (s.rd VRC_VSENSE_vsense)) ∧ t.regs = s.regs

/-- R479: LASTF_PAGE returns the page selected. -/
def smbLastfPageRead : Prop :=
  ∀ (s : State), s.smbUp = true →
    Answers (.smbLastfPageRead true) s fun t => Returns s t 0x30 false (leBytes 1 s.smb.page) ∧ t.smb = s.smb

/-- R479: a LASTF_PAGE write selects page 0 to 3. -/
def smbLastfPageWrite : Prop :=
  ∀ (v : BitVec 8) (s : State), s.smbUp = true → v.toNat ≤ 3 →
    Answers (.smbLastfPageWrite true true v) s fun t => t.smb.page = v.toNat ∧ t.out = s.out ∧ t.regs = s.regs

/-- R479: LASTF returns the selected 128 bytes of the last-fault record. -/
def smbLastf : Prop :=
  ∀ (s : State), s.smbUp = true →
    Answers (.smbLastf true) s fun t => Returns s t 0x31 true (leBytes 128 (s.rd VRC_LASTF / 2 ^ (1024 * s.smb.page))) ∧ t.smb = s.smb

/-- R479: EVT_SEL selects a region and a record. -/
def smbEvtSel : Prop :=
  ∀ (region : BitVec 8) (num : BitVec 32) (s : State), s.smbUp = true → region.toNat ≤ 1 →
    Answers (.smbEvtSel true true region num) s fun t => t.smb.region = region.toNat ∧ t.smb.sel = num.toNat ∧ t.out = s.out

/-- R480: a region above 1 is a violation of kind 4, and the selection stays. -/
def smbEvtSelRegion : Prop :=
  ∀ (region : BitVec 8) (num : BitVec 32) (s : State), s.smbUp = true → 1 < region.toNat →
    Answers (.smbEvtSel true true region num) s fun t => t.smb.region = s.smb.region ∧ t.smb.sel = s.smb.sel ∧ t.regs = s.regs

/-- R481: EVT_DATA returns the selected record and selects the next. -/
def smbEvtData : Prop :=
  ∀ (bs : List Byte) (s : State), s.smbUp = true → s.fwRunning 3 = true → s.smb.region = 0 → s.recordAt s.smb.sel = some bs →
    Answers (.smbEvtData true true) s fun t =>
      Returns s t 0x41 true (leBytes 4 s.smb.sel ++ leBytes 4 (s.seqWord s.smb.sel) ++ bs) ∧
      t.smb.sel = (s.smb.sel + 1) % 2 ^ 32

/-- R481: with the selected record gone, EVT_DATA returns none and selects the oldest still held. -/
def smbEvtDataGone : Prop :=
  ∀ (s : State), s.smbUp = true → s.fwRunning 3 = true → s.smb.region = 0 → s.recordAt s.smb.sel = none →
    Answers (.smbEvtData true true) s fun t => Returns s t 0x41 true [] ∧
      t.smb.sel = (s.rd EVT_NEXT_next + 2 ^ 32 - s.held) % 2 ^ 32

/-- R477, R479: TIME returns the civil time. -/
def smbTime : Prop :=
  ∀ (y m d h n sec ns : Nat) (s : State), s.smbUp = true → s.civil s.ts = some [y, m, d, h, n, sec, ns] →
    Answers (.smbTime true) s fun t => Returns s t 0x50 true (leBytes 2 y ++ leBytes 1 m ++ leBytes 1 d ++ leBytes 1 h ++ leBytes 1 n ++
      leBytes 1 sec ++ leBytes 1 1 ++ leBytes 4 ns ++ leBytes 4 0) ∧ t.regs = s.regs

/-- R478, R480: a bus timeout is counted. -/
def smbBusTimeout : Prop :=
  ∀ (s : State), s.smbUp = true →
    Answers .smbBusTimeout s fun t => t.rd SMB_STAT_timeout = (s.rd SMB_STAT_timeout + 1) % 2 ^ SMB_STAT_timeout.width ∧ t.out = s.out

/-- R480: an undefined command code is not acknowledged and counted. -/
def smbUndefinedCommand : Prop :=
  ∀ (code : BitVec 8) (s : State), s.smbUp = true →
    code.toNat ∉ [0x00, 0x01, 0x10, 0x11, 0x12, 0x18, 0x20, 0x30, 0x31, 0x40, 0x41, 0x50] →
    Answers (.smbUndefinedCommand code) s fun t => t.out = s.out ++ [.smbusNack] ∧
      t.rd SMB_STAT_cmd = (s.rd SMB_STAT_cmd + 1) % 2 ^ SMB_STAT_cmd.width

/-! ### Memory -/

/-- An access of a master that may present one: it is no engine of the block's own, and a processor's runs. -/
def MayAccess (s : State) (m : Nat) : Prop := m ≠ 7 ∧ (8 ≤ m → m ≤ 11 → s.fwRunning (m - 8) = true)

/-- R422, R424: an access that the region registers admit waits for its bank's cycle, a master's that does not own the bank at the rate
gate. -/
def firmwareAccess : Prop :=
  ∀ (m : Fin 12) (bank : Fin 18) (line : BitVec 14) (write : Bool) (data : BitVec 512) (s : State), s.running = true →
    MayAccess s m → s.rgnOk m bank (64 * line.toNat) 64 write = true →
    Answers (.firmwareMemoryAccess m bank line write data []) s fun t => t.hub.accs = s.hub.accs ++
      [{ master := m, bank := bank, off := 64 * line.toNat, write := write, data := data.toNat, ecc := [], gated := !ungated m bank }] ∧
      t.mem = s.mem ∧ t.out = s.out ∧ t.regs = s.regs

/-- R422: a read that no region register covers is not made: it is recorded in MEM_VIOL and returns zeros. -/
def firmwareViolation : Prop :=
  ∀ (m : Fin 12) (bank : Fin 18) (line : BitVec 14) (data : BitVec 512) (s : State), s.running = true →
    MayAccess s m → s.rgnOk m bank (64 * line.toNat) 64 false = false →
    Answers (.firmwareMemoryAccess m bank line false data []) s fun t => t.rd MEM_VIOL_valid = 1 ∧ t.rd MEM_VIOL_master = m.val ∧
      t.rd MEM_VIOL_bank = bank.val ∧ t.rd MEM_VIOL_write = 0 ∧ t.rd MEM_VIOL_region = (64 * line.toNat) / 256 % 2 ^ MEM_VIOL_region.width ∧
      t.out = s.out ++ [.memData m (List.replicate 64 0)] ∧ t.mem = s.mem ∧ t.hub.accs = s.hub.accs

/-- R422: a write that no region register covers is dropped and recorded. -/
def firmwareWriteViolation : Prop :=
  ∀ (m : Fin 12) (bank : Fin 18) (line : BitVec 14) (data : BitVec 512) (s : State), s.running = true →
    MayAccess s m → s.rgnOk m bank (64 * line.toNat) 64 true = false →
    Answers (.firmwareMemoryAccess m bank line true data []) s fun t => t.rd MEM_VIOL_valid = 1 ∧ t.rd MEM_VIOL_write = 1 ∧
      t.mem = s.mem ∧ t.hub.accs = s.hub.accs ∧ t.out = s.out

/-- The bank of an access makes a cycle as the hub cycle ends, and the access stands in arbitration, outside the thermal copies. -/
def Served (s : State) (a : MemAcc) : Prop :=
  s.running = true ∧ s.pending = [] ∧ a.bank < 18 ∧ a.off + 64 ≤ 2 ^ 20 ∧ (14 ≤ a.bank → s.ts % 2 = 1) ∧ s.bankBusy a.bank = false ∧
    a.gated = false ∧ (8 ≤ a.bank ∨ 0x30000 ≤ a.off)

/-- R423: a write alone at its bank stands in it after the hub cycle: the line reads as what was written, and every other byte of both
memories as before. -/
def firmwareWrite : Prop :=
  ∀ (a : MemAcc) (s : State), Served s a → s.hub.accs = [a] → a.write = true → s.memoriesOk = true →
    ∃ t, step s = .next t ∧
      (List.range 64).map (fun k => memRead t.mem bankDefault (bankAddr a.bank (a.off + k))) = leBytes 64 a.data ∧
      (∀ x, (x < bankAddr a.bank a.off ∨ bankAddr a.bank a.off + 64 ≤ x) → memRead t.mem bankDefault x = memRead s.mem bankDefault x) ∧
      t.flash = s.flash ∧ t.hub.accs = []

/-- R423: a read alone at its bank returns the 64 bytes of the line. -/
def firmwareRead : Prop :=
  ∀ (a : MemAcc) (s : State), Served s a → s.hub.accs = [a] → a.write = false → a.master ≠ 12 → a.ecc = [] →
    ∃ t, step s = .next t ∧ Sent s t (.memData a.master ((List.range 64).map fun k => s.anyByte a.bank (a.off + k))) ∧ t.mem = s.mem ∧
      t.hub.accs = []

/-- R426: a word with a double-bit error reads as zero, is counted and queues its region. -/
def firmwareDouble : Prop :=
  ∀ (a : MemAcc) (w : Nat) (s : State), Served s a → s.hub.accs = [a] → a.write = false → a.master ≠ 12 → a.ecc = [(w, true)] →
    ∃ t, step s = .next t ∧ Sent s t (.memData a.master (eccBytes (s.readLine a.bank a.off) [(w, true)])) ∧
      t.rd MEM_ECC_double = (s.rd MEM_ECC_double + 1) % 2 ^ MEM_ECC_double.width ∧ t.mem = s.mem ∧
      t.hub.btQueue = (a.bank, (a.off + 8 * w) / 256) :: s.hub.btQueue

/-- R423: of two accesses to different lines of one bank, the later in the order of priority waits, held for its next cycle. -/
def memoryPriority : Prop :=
  ∀ (a b : MemAcc) (s : State), Served s a → Served s b → b.bank = a.bank → a.bank ≠ 8 → b.off ≠ a.off → b.master ≠ a.master →
    b.before a = false → (s.hub.accs = [a, b] ∨ s.hub.accs = [b, a] ∧ a.before b = true) →
    ∃ t, step s = .next t ∧ t.hub.accs = [{ b with held := true }]

/-- R425: a read and a write of one line share a cycle, and the read returns the line as it was before. -/
def memorySameLine : Prop :=
  ∀ (w r : MemAcc) (s : State), Served s w → Served s r → r.bank = w.bank → r.off = w.off → r.master ≠ w.master → r.master ≠ 12 →
    w.write = true → r.write = false → r.ecc = [] → s.hub.accs = [w, r] →
    ∃ t, step s = .next t ∧ Sent s t (.memData r.master (s.readLine r.bank r.off)) ∧ t.hub.accs = [] ∧
      t.mem = memWriteBytes s.mem bankDefault (bankAddr w.bank w.off) (leBytes 64 w.data)

/-- R432: a write of MEM_BU_ADDR presents a read of the bring-up port in place of one not yet done. -/
def memBuRead : Prop :=
  ∀ (v : BitVec 32) (s : State), s.running = true → s.unitAnswers 3 = true →
    s.rgnOk 12 (bits v.toNat 0 5) (64 * bits v.toNat 6 14) 64 false = true →
    Answers (.memBuRead v []) s fun t => t.rd MEM_BU_ADDR_bank = bits v.toNat 0 5 ∧ t.rd MEM_BU_ADDR_line = bits v.toNat 6 14 ∧
      t.rd MEM_BU_ADDR_done = 0 ∧ t.hub.buWait = true ∧ t.mem = s.mem ∧
      t.hub.accs = (s.hub.accs.filter fun a => decide (a.master ≠ 12)) ++
        [{ master := 12, bank := bits v.toNat 0 5, off := 64 * bits v.toNat 6 14, write := false,
           gated := !ungated 12 (bits v.toNat 0 5) }]

/-- R432: the data its bank has returned stand in MEM_BU_DATA, and done is 1. -/
def memBuReadDone : Prop :=
  ∀ (bs : List Byte) (s : State), s.running = true → s.hub.buData = some bs →
    Answers .memBuReadDone s fun t => t.rd MEM_BU_ADDR_done = 1 ∧ t.hub.buWait = false ∧ t.hub.buData = none ∧ t.mem = s.mem ∧
      ∀ k < 16, t.rd MEM_BU_DATA k = fieldAt bs (4 * k) 4 % 2 ^ 32

/-- R422, R432: a bring-up read that no region register covers is recorded and returns zeros. -/
def memBuReadRefused : Prop :=
  ∀ (v : BitVec 32) (s : State), s.running = true → s.unitAnswers 3 = true →
    s.rgnOk 12 (bits v.toNat 0 5) (64 * bits v.toNat 6 14) 64 false = false →
    Answers (.memBuRead v []) s fun t => t.rd MEM_VIOL_valid = 1 ∧ t.rd MEM_VIOL_master = 12 ∧
      t.hub.buData = some (List.replicate 64 0) ∧ t.hub.accs = s.hub.accs.filter fun a => decide (a.master ≠ 12)

/-- R428: a region of the queue that passes its march leaves the queue. -/
def backgroundTest : Prop :=
  ∀ (bank region : Nat) (q : List (Nat × Nat)) (s : State), s.running = true → s.rd MEM_BT_en = 1 →
    s.ts % (usT * s.rd MEM_BT_period) = 0 → s.hub.btT ≤ s.ts → s.hub.btQueue = (bank, region) :: q → s.btSkip bank = false →
    Answers (.backgroundTest false []) s fun t => t.hub.btQueue = q ∧ t.mem = s.mem ∧ t.recd = s.recd ∧
      t.rd MEM_STAT_bt_bank = bank % 2 ^ MEM_STAT_bt_bank.width

/-- R429, R430: a region that fails its march takes the lowest free spare of its bank. -/
def backgroundTestRetires : Prop :=
  ∀ (bank region k : Nat) (q : List (Nat × Nat)) (s : State), s.running = true → s.rd MEM_BT_en = 1 → bank < 18 → region < 4096 →
    s.ts % (usT * s.rd MEM_BT_period) = 0 → s.hub.btT ≤ s.ts → s.hub.btQueue = (bank, region) :: q → s.btSkip bank = false →
    (List.range 8).find? (fun k => !s.flag MEM_RMAP_valid (8 * bank + k)) = some k →
    Answers (.backgroundTest true []) s fun t => t.rd MEM_RMAP_valid (8 * bank + k) = 1 ∧ t.rd MEM_RMAP_region (8 * bank + k) = region ∧
      t.rd MEM_STAT_retired = min 255 (s.rd MEM_STAT_retired + 1) ∧ t.hub.btQueue = q

/-- R429: with no spare left the region stays in service without a guarantee, and MEM_STAT says so. -/
def backgroundTestNoSpare : Prop :=
  ∀ (bank region : Nat) (q : List (Nat × Nat)) (s : State), s.running = true → s.rd MEM_BT_en = 1 →
    s.ts % (usT * s.rd MEM_BT_period) = 0 → s.hub.btT ≤ s.ts → s.hub.btQueue = (bank, region) :: q → s.btSkip bank = false →
    (List.range 8).find? (fun k => !s.flag MEM_RMAP_valid (8 * bank + k)) = none →
    Answers (.backgroundTest true []) s fun t => t.rd MEM_STAT_nospare = 1 ∧ mget t.hub.bad (bank * 4096 + region) false = true ∧
      Recorded s t 3 4 []

/-! ### Slate -/

/-- R318: SLATE_OPEN opens the lowest FREE slate with its next generation and returns its handle. -/
def slateOpen : Prop :=
  ∀ (d : Desc) (k : Nat) (s : State), s.running = true → InTurn s (fun d => decide (dOp d.w = 0x10)) d → Reports s d →
    (List.range 8).find? (fun k => decide ((s.slate k).state = 0)) = some k →
    Answers .slateOpen s fun t => t.slate k = { state := 1, gen := ((s.slate k).gen + 1) % 8192 } ∧ t.rd SLT_SLATE_state k = 1 ∧
      Completed s t d 0 [(8, 2, k + 8 * (((s.slate k).gen + 1) % 8192))]

/-- R318: with no FREE slate it completes with ST_SLATE_LIMIT. -/
def slateOpenFull : Prop :=
  ∀ (d : Desc) (s : State), s.running = true → InTurn s (fun d => decide (dOp d.w = 0x10)) d → Reports s d →
    (List.range 8).find? (fun k => decide ((s.slate k).state = 0)) = none →
    Answers .slateOpen s fun t => Completed s t d 0x0101 [] ∧ t.slt = s.slt

/-- R303, R319: an INLINE SLATE_WRITE of one register word stages it in the OPEN slate; the register itself keeps its value. -/
def slateWrite : Prop :=
  ∀ (data : List Byte) (d : Desc) (k v i : Nat) (s : State), s.running = true → InTurn s (fun d => decide (dOp d.w = 0x11)) d →
    Reports s d → dInline d.w = true → dB d.w 10 2 = 1 → dB d.w 16 4 = 4 → s.slateOf (dB d.w 8 2) = some k → (s.slate k).state = 1 →
    s.tableOk 1 (dB d.w 12 4) 4 = some (v, i, 1) → s.linesUsed < 65536 →
    Answers (.slateWrite data) s fun t => mfind (t.slate k).regs (i * 4 + v) = some (dB d.w 32 4) ∧ (t.slate k).state = 1 ∧
      s.rwtWord i = t.rwtWord i ∧ Completed s t d 0 []

/-- R303: a write that no table admits completes with ST_SLATE_ADDR and stages nothing. -/
def slateWriteRefused : Prop :=
  ∀ (data : List Byte) (d : Desc) (k : Nat) (s : State), s.running = true → InTurn s (fun d => decide (dOp d.w = 0x11)) d → Reports s d →
    s.slateOf (dB d.w 8 2) = some k → (s.slate k).state = 1 → s.tableOk (dB d.w 10 2) (dB d.w 12 4) (dB d.w 16 4) = none →
    Answers (.slateWrite data) s fun t => Completed s t d 0x0105 [] ∧ t.slt = s.slt

/-- R322: ABANDON of an OPEN slate frees it; its generation stays. -/
def abandon : Prop :=
  ∀ (d : Desc) (k : Nat) (s : State), s.running = true → InTurn s (fun d => decide (dOp d.w = 0x14)) d → Reports s d →
    s.slateOf (dB d.w 8 2) = some k → (s.slate k).state = 1 →
    Answers .abandon s fun t => t.slate k = { gen := (s.slate k).gen } ∧ Completed s t d 0 [] ∧ Recorded s t 6 6 [s.handleOf k, 0]

/-- R318, R322: a handle that names no slate completes with ST_SLATE_HANDLE. -/
def abandonHandle : Prop :=
  ∀ (d : Desc) (s : State), s.running = true → InTurn s (fun d => decide (dOp d.w = 0x14)) d → Reports s d →
    s.slateOf (dB d.w 8 2) = none →
    Answers .abandon s fun t => Completed s t d 0x0100 [] ∧ t.slt = s.slt

/-- R323: SLATE_CHECK of a slate that passes completes with ST_OK and changes no slate. -/
def slateCheck : Prop :=
  ∀ (d : Desc) (k : Nat) (s : State), s.running = true → InTurn s (fun d => decide (dOp d.w = 0x12)) d → Reports s d →
    s.slateOf (dB d.w 8 2) = some k → (s.slate k).state = 1 → (picked s d).checkShadow ((picked s d).shadowOf (s.slate k)) = none →
    Answers .slateCheck s fun t => Completed s t d 0 [] ∧ t.slt = s.slt ∧ t.regs = s.regs

/-- R323: one that fails returns the check and the register it names, and records them. -/
def slateCheckRefused : Prop :=
  ∀ (d : Desc) (k : Nat) (f : Nat × Nat) (s : State), s.running = true → InTurn s (fun d => decide (dOp d.w = 0x12)) d → Reports s d →
    s.slateOf (dB d.w 8 2) = some k → (s.slate k).state = 1 →
    (picked s d).checkShadow ((picked s d).shadowOf (s.slate k)) = some f →
    Answers .slateCheck s fun t => Completed s t d 0x0106 [(8, 2, f.1), (12, 4, f.2)] ∧ t.slt = s.slt ∧
      Recorded s t 6 2 [s.handleOf k, f.1, f.2, s.rd GEN_CFG_die]

/-- R325: TAKE of a slate that passes hands its copy to the take engine; the slate is ARMED. -/
def take : Prop :=
  ∀ (d : Desc) (k : Nat) (s : State), s.running = true → s.copyFree = true → InTurn s (fun d => decide (dOp d.w = 0x13)) d →
    s.slateOf (dB d.w 8 2) = some k → (s.slate k).state = 1 → (picked s d).checkShadow ((picked s d).shadowOf (s.slate k)) = none →
    dB d.w 10 1 = 0 → s.armStatus (some (if dB d.w 16 8 ≠ 0 then dB d.w 16 8 else s.ts + (s.slate k).lines + 1)) = 0 →
    Answers .take s fun t => (t.slate k).state = 2 ∧ (t.slate k).regs = (s.slate k).regs ∧
      t.slt.jobs = s.slt.jobs ++ [{ slate := k, handle := s.handleOf k, desc := some d, body := dB d.w 16 8,
                                    copyEnd := s.ts + (s.slate k).lines, sh := (picked s d).shadowOf (s.slate k),
                                    lines := ((picked s d).shadowOf (s.slate k)).lines }]

/-- R325: a fifth take that is to be armed completes with ST_SLATE_LIMIT. -/
def takeLimit : Prop :=
  ∀ (d : Desc) (k : Nat) (s : State), s.running = true → s.copyFree = true → InTurn s (fun d => decide (dOp d.w = 0x13)) d → Reports s d →
    s.slateOf (dB d.w 8 2) = some k → (s.slate k).state = 1 → (picked s d).checkShadow ((picked s d).shadowOf (s.slate k)) = none →
    4 ≤ s.armedTakes.length →
    Answers .take s fun t => Completed s t d 0x0101 [] ∧ t.slt = s.slt

/-- R325: an immediate take is armed for the cycle after the one in which its shadow copy ended. -/
def takeArmed : Prop :=
  ∀ (j : TakeJob) (s : State), s.running = true → s.slt.jobs = [j] → j.phase = 0 → j.copyEnd ≤ s.ts → j.pair = false → j.body = 0 →
    Answers .takeArmed s fun t => t.slt.jobs = [{ j with phase := 1, t := some (j.copyEnd + 1) }] ∧ t.rd SLT_STAT_armed = 1

/-- R326: a timed take found past returns its slate to OPEN, is counted and recorded, and completes with ST_TAKE_PAST. -/
def takePast : Prop :=
  ∀ (j : TakeJob) (d : Desc) (s : State), s.running = true → s.slt.jobs = [j] → j.phase = 0 → j.copyEnd ≤ s.ts → j.pair = false →
    j.body ≠ 0 → j.body ≤ j.copyEnd → j.desc = some d → Reports s d → j.slate < 8 →
    Answers .takeArmed s fun t => t.slt.jobs = [] ∧ (t.slate j.slate).state = 1 ∧
      t.rd SLT_FAIL_past = (s.rd SLT_FAIL_past + 1) % 2 ^ SLT_FAIL_past.width ∧ Completed s t d 0x0108 [] ∧
      Recorded s t 6 3 [j.handle, j.body % 2 ^ 32, j.copyEnd % 2 ^ 32]

/-- R327, R314: at its instant a take of one ring entry gets the next take number, puts the entry in force and enables the ring; the
slate is FREE. -/
def takeApplyRing : Prop :=
  ∀ (j : TakeJob) (r e n : Nat) (s : State), s.running = true → s.slt.jobs = [j] → j.phase = 1 → j.t = some n → n ≤ s.ts → j.pair = false →
    j.sh = { rings := [(r, e)] } → r < 512 → eEn (s.tring r) = false → eEn e = true → j.desc = none → j.slate < 8 →
    (∀ f ∈ triggerFlds, s.rd f = 0) → s.rd SLT_TAKE_take < 2 ^ 32 - 1 →
    Answers (.takeApply false) s fun t => t.rd SLT_TAKE_take = s.rd SLT_TAKE_take + 1 ∧ t.rd SLT_TAKE_T_instant = s.ts % 2 ^ SLT_TAKE_T_instant.width ∧
      t.tring r = e ∧ (t.ring r).st = 1 ∧ (t.ring r).gen = (s.ring r).gen + 1 ∧ (t.ring r).prod = 0 ∧
      t.slt.jobs = [] ∧ (t.slate j.slate).state = 0 ∧ Recorded s t 6 1 [j.handle, j.lines, s.ts % 2 ^ 32, 0]

/-- R327: a take of one word of the background test's settings puts its fields in force. -/
def takeApplyWord : Prop :=
  ∀ (j : TakeJob) (v n : Nat) (s : State), s.running = true → s.slt.jobs = [j] → j.phase = 1 → j.t = some n → n ≤ s.ts → j.pair = false →
    j.sh = { regs := [(MEM_BT_en.key / 8, v)] } → v < 2 ^ 32 → s.clocked 3 = true → j.desc = none → j.slate < 8 →
    (∀ f ∈ triggerFlds, s.rd f = 0) →
    Answers (.takeApply false) s fun t => t.rd MEM_BT_en = bits v 0 1 ∧ t.rd MEM_BT_period = bits v 16 10 ∧ t.slt.jobs = [] ∧
      (t.slate j.slate).state = 0

/-- R328: a take that would write a gated unit fails at its instant: nothing of it is applied, its slate is FREE, and its TAKE completes
with ST_TAKE_FAILED. -/
def takeFailed : Prop :=
  ∀ (j : TakeJob) (d : Desc) (n : Nat) (s : State), s.running = true → s.slt.jobs = [j] → j.phase = 1 → j.t = some n → n ≤ s.ts →
    j.pair = false → s.gatedTake j.sh = true → j.desc = some d → j.told = false → Reports s d → j.slate < 8 →
    Answers (.takeApply false) s fun t => t.rd SLT_FAIL_failed = (s.rd SLT_FAIL_failed + 1) % 2 ^ SLT_FAIL_failed.width ∧
      t.rd SLT_TAKE_take = s.rd SLT_TAKE_take ∧ (∀ o, wordHas o .rwt = true → t.rwtWord o = s.rwtWord o) ∧ t.slt.jobs = [] ∧
      (t.slate j.slate).state = 0 ∧ Completed s t d 0x0107 [] ∧ Recorded s t 6 4 [j.handle, 0]

/-- R330, R331: a pair take whose PREPARE has no answer in time is withdrawn. -/
def pairPrepareTimeout : Prop :=
  ∀ (j : TakeJob) (d : Desc) (s : State), s.running = true → s.slt.jobs = [j] → j.phase = 2 →
    j.prepT + s.rd SLT_PAIR_timeout * usT ≤ s.ts → j.desc = some d → j.told = false → j.slate < 8 →
    Answers .pairPrepareTimeout s fun t => t.slt.jobs = [] ∧ (t.slate j.slate).state = 0 ∧
      t.rd SLT_FAIL_failed = (s.rd SLT_FAIL_failed + 1) % 2 ^ SLT_FAIL_failed.width ∧ Recorded s t 6 4 [j.handle, 3]

/-! ### Firmware -/

/-- R442: a strike of a running processor restarts its watchdog. -/
def watchdogStrike : Prop :=
  ∀ (n : Fin 4) (s : State), s.running = true → s.fwRunning n = true →
    Answers (.watchdogStrike n) s fun t => mget t.fw.struck n 0 = s.ts ∧ t.regs = s.regs ∧ t.recd = s.recd

/-- R440, R442: a processor that lets its watchdog expire restarts: it is LOADING, the restart counted with cause 1 and recorded, its
bank clearing. -/
def watchdogExpire : Prop :=
  ∀ (n : Fin 4) (s : State), s.running = true → s.fwRunning n = true → mget s.fw.struck n 0 + s.wdLimit n * msT ≤ s.ts →
    ((mget s.fw.times n []).filter fun t => decide (s.ts < t + secT)).length < 4 →
    Answers (.watchdogExpire n) s fun t => t.fwState n = 1 ∧ t.rd FW_RCNT_cause n = 1 ∧
      t.rd FW_RCNT_count n = (s.rd FW_RCNT_count n + 1) % 2 ^ FW_RCNT_count.width ∧ n.val ∈ t.fw.loads ∧ t.clearing (14 + n) = true ∧
      Recorded s t 4 1 [n, 1, ((mget s.fw.times n []).filter fun t => decide (s.ts < t + secT)).length + 1]

/-- R439, R440: an exception or a double-bit error restarts it with cause 2 or 3; its bank reads zero. -/
def fwException : Prop :=
  ∀ (n : Fin 4) (ecc : Bool) (s : State), s.running = true → s.fwRunning n = true →
    ((mget s.fw.times n []).filter fun t => decide (s.ts < t + secT)).length < 4 →
    Answers (.fwException n ecc) s fun t => t.fwState n = 1 ∧ t.rd FW_RCNT_cause n = (if ecc then 3 else 2) ∧
      (∀ o < 2 ^ 20, memRead t.mem bankDefault (bankAddr (14 + n) o) = 0) ∧ t.clearing (14 + n) = true

/-- R443: a fifth restart within a second halts it. -/
def fwHalt : Prop :=
  ∀ (n : Fin 4) (ecc : Bool) (s : State), s.running = true → s.fwRunning n = true →
    4 ≤ ((mget s.fw.times n []).filter fun t => decide (s.ts < t + secT)).length →
    Answers (.fwException n ecc) s fun t => t.fwState n = 3 ∧ Recorded s t 4 4 [n, if ecc then 3 else 2]

/-- R436, R440: an image whose checks pass is in the bank; the processor is RUNNING with its version and length shown. -/
def fwImageLoaded : Prop :=
  ∀ (n : Fin 4) (s : State), s.running = true → s.fw.loads.head? = some n.val → s.clearing (14 + n.val) = false → s.nvm.ops = [] →
    s.nvm.portHigh = false → s.imgCheck n (s.readFlash (imageAddr s.fw.copyB n) 0x80000) true = none →
    Answers (.fwImageLoaded n true) s fun t => t.fwState n = 2 ∧
      t.rd FW_VER_version n = fieldAt (s.readFlash (imageAddr s.fw.copyB n) 0x80000) 8 4 % 2 ^ FW_VER_version.width ∧
      t.rd FW_LEN_length n = fieldAt (s.readFlash (imageAddr s.fw.copyB n) 0x80000) 12 4 % 2 ^ FW_LEN_length.width ∧
      t.fw.loads = s.fw.loads.drop 1 ∧ bit (t.rd FW_STAT_copy) n = s.fw.copyB

/-- R437: where copy A fails a check, copy B is read. -/
def fwImageCopyB : Prop :=
  ∀ (n : Fin 4) (c : Nat) (s : State), s.running = true → s.fw.loads.head? = some n.val → s.clearing (14 + n.val) = false →
    s.nvm.ops = [] → s.nvm.portHigh = false → s.fw.copyB = false →
    s.imgCheck n (s.readFlash (imageAddr false n) 0x80000) true = some c →
    Answers (.fwImageLoaded n true) s fun t => t.fw.copyB = true ∧ t.fw.loads = s.fw.loads ∧ t.fwState n = s.fwState n

/-- R437: where copy B fails too, the processor is HALTED. -/
def fwImageHalted : Prop :=
  ∀ (n : Fin 4) (c : Nat) (s : State), s.running = true → s.fw.loads.head? = some n.val → s.clearing (14 + n.val) = false →
    s.nvm.ops = [] → s.nvm.portHigh = false → s.fw.copyB = true →
    s.imgCheck n (s.readFlash (imageAddr true n) 0x80000) true = some c →
    Answers (.fwImageLoaded n true) s fun t => t.fwState n = 3 ∧ Recorded s t 4 3 [n, c]

/-- R110: FCST_LOAD of a slot that is not busy begins to read the image; the slot is LOADING. -/
def fcstLoad : Prop :=
  ∀ (d : Desc) (s : State), s.running = true → s.fcs.load = none → s.clocked 12 = true → InTurn s (fun d => decide (dOp d.w = 0x31)) d →
    dB d.w 8 1 ≤ 47 → s.slotBusy (dB d.w 8 1) = false →
    Answers .fcstLoad s fun t => t.rd FCS_SLOT_state (dB d.w 8 1) = 1 ∧ t.fcs.load = some (dB d.w 8 1, d) ∧
      t.out = s.out ++ [.fabricRead (dB d.w 16 8) (dB d.w 12 4)]

/-- R110: one of a busy slot completes with ST_SLOT_BUSY. -/
def fcstLoadBusy : Prop :=
  ∀ (d : Desc) (s : State), s.running = true → s.fcs.load = none → s.clocked 12 = true → InTurn s (fun d => decide (dOp d.w = 0x31)) d →
    Reports s d → dB d.w 8 1 ≤ 47 → s.slotBusy (dB d.w 8 1) = true →
    Answers .fcstLoad s fun t => Completed s t d 0x0201 [] ∧ t.fcs = s.fcs ∧
      Recorded s t 12 1 [dB d.w 8 1, 0, 0x0201, s.rd GEN_CFG_die]

/-- R110, R111: an image that passes every check makes the slot FIT, with its mode and identity shown. -/
def fcstLoadComplete : Prop :=
  ∀ (img : List Byte) (peer : Fin 8) (k : Fin 48) (slot : Nat) (d : Desc) (s : State), s.running = true → s.fwRunning 0 = true →
    s.clocked 12 = true → s.fcs.load = some (slot, d) → slot < 48 → img.length = 12992 → fitCheck img (dB d.w 12 4) = 0 → Reports s d →
    Answers (.fcstLoadComplete true img peer k) s fun t => t.fcs.load = none ∧ t.rd FCS_SLOT_state slot = 2 ∧
      t.rd FCS_SLOT_mode slot = imgU img 5 1 % 2 ^ FCS_SLOT_mode.width ∧ t.rd FCS_SLOT_ID_ident slot = imgU img 24 4 % 2 ^ 32 ∧
      mget t.fcs.models slot [] = img ∧ Completed s t d 0 [(8, 1, 2), (12, 4, imgU img 24 4)] ∧
      Recorded s t 12 1 [slot, imgU img 24 4, 0, s.rd GEN_CFG_die]

/-- R110, R111: one that fails a check makes it FAILED, with that check's status. -/
def fcstLoadFailed : Prop :=
  ∀ (img : List Byte) (peer : Fin 8) (k : Fin 48) (slot c : Nat) (d : Desc) (s : State), s.running = true → s.fwRunning 0 = true →
    s.clocked 12 = true → s.fcs.load = some (slot, d) → slot < 48 → img.length = 12992 → fitCheck img (dB d.w 12 4) = c + 1 →
    Reports s d →
    Answers (.fcstLoadComplete true img peer k) s fun t => t.fcs.load = none ∧ t.rd FCS_SLOT_state slot = 3 ∧
      Completed s t d (0x0200 + c) [] ∧ Recorded s t 12 1 [slot, imgU img 24 4, 0x0200 + c, s.rd GEN_CFG_die]

/-- R110, R111, R313: one whose read met an error makes it FAILED with the second check's status, and the failure of the fabric is
counted and recorded. -/
def fcstLoadUnread : Prop :=
  ∀ (img : List Byte) (peer : Fin 8) (k : Fin 48) (slot : Nat) (d : Desc) (s : State), s.running = true → s.fwRunning 0 = true →
    s.clocked 12 = true → s.fcs.load = some (slot, d) → slot < 48 → Reports s d →
    Answers (.fcstLoadComplete false img peer k) s fun t => t.fcs.load = none ∧ t.rd FCS_SLOT_state slot = 3 ∧
      Completed s t d 0x0202 [] ∧ t.rd HIF_STAT_fabric = (s.rd HIF_STAT_fabric + 1) % 2 ^ HIF_STAT_fabric.width ∧
      Recorded s t 5 5 [d.ring, 1, d.idx]

/-- R113: in PAIRED the slot of an image that passes here becomes FIT where the other instance's checks pass too, else FAILED; the event
carries the joint status. -/
def fcstLoadJoint : Prop :=
  ∀ (img : List Byte) (peer : Fin 8) (k : Fin 48) (slot : Nat) (d : Desc) (s : State), s.running = true → s.fwRunning 0 = true →
    s.clocked 12 = true → s.isD = true → s.pState = 2 → s.fcs.load = some (slot, d) → slot < 48 → img.length = 12992 →
    fitCheck img (dB d.w 12 4) = 0 →
    Answers (.fcstLoadComplete true img peer k) s fun t => t.fcs.load = none ∧
      t.rd FCS_SLOT_state slot = (if peer.val = 0 then 2 else 3) ∧
      Recorded s t 12 1 [slot, imgU img 24 4, if peer.val = 0 then 0 else 0x0201 + peer.val, s.rd GEN_CFG_die]

/-- R108, R417: FP0 loads slot 0 from its image: FIT where the model passes, FAILED where it does not; after the start-up take, the
thermal set in force too. -/
def slot0Load : Prop :=
  ∀ (s : State), s.running = true → s.fwRunning 0 = true → s.clocked 12 = true → s.rd FCS_SLOT_state 0 = 0 →
    s.rd MEM_STAT_clearing % 256 = 0 →
    Answers .slot0Load s fun t => t.rd FCS_SLOT_state 0 =
      (if fitCheck (s.readBank 14 (leNat (s.readBank 14 20 4)) 12992) 12992 = 0 then 2 else 3) ∧
      (s.rst.config = true → t.rd THM_SET_ID_ident = s.thm.set.ident % 2 ^ THM_SET_ID_ident.width ∧
        t.rd THM_SET_PER_period = s.thm.set.period % 2 ^ THM_SET_PER_period.width)

/-! ### Observe -/

/-- R489, R492: the writer puts the group at the head of the staging queue into the region and counts its bytes. -/
def traceGroupWrite : Prop :=
  ∀ (g : List Nat) (q : List (List Nat)) (s : State), s.running = true → s.tracing = true → s.trc.timeDue = false →
    s.trc.drops.any = false → s.trc.staged = g :: q → s.trcFits g.length = true → s.trc.cmdQ = [] →
    (s.rd TRC_WRITTEN_written) % s.trcCap + 16 * g.length ≤ s.trcCap → s.rd TRC_WRITTEN_written + 16 * g.length < 2 ^ 64 →
    Answers .traceGroupWrite s fun t =>
      t.out = s.out ++ [.fabricWrite (s.rd TRC_BASE_base + 64 + s.rd TRC_WRITTEN_written % s.trcCap) (g.flatMap recBytes)] ∧
      t.rd TRC_WRITTEN_written = s.rd TRC_WRITTEN_written + 16 * g.length ∧ t.trc.staged = q

/-- R492, R497: a group that does not fit after a reread is dropped whole and counted. -/
def traceGroupDrop : Prop :=
  ∀ (g : List Nat) (q : List (List Nat)) (s : State), s.running = true → s.tracing = true → s.trc.timeDue = false →
    s.trc.drops.any = false → s.trc.staged = g :: q → s.trcFits g.length = false → s.trcFresh = true → groupKind g = .fcst →
    s.trc.cmdQ = [] →
    Answers .traceGroupWrite s fun t => t.rd TRC_DROP_fcst = (s.rd TRC_DROP_fcst + 1) % 2 ^ TRC_DROP_fcst.width ∧
      t.trc.staged = q ∧ t.trc.drops.any = true ∧ t.trc.drops.fcst = s.trc.drops.fcst + 1 ∧ t.out = s.out

/-- R490: before a drop the writer reads consumed again and takes a value from the last one to written. -/
def traceConsumedReread : Prop :=
  ∀ (v : BitVec 64) (s : State), s.running = true → s.tracing = true → s.trcFits s.trcNextLen = false → s.trcFresh = false →
    s.trc.consumed ≤ v.toNat → v.toNat ≤ s.rd TRC_WRITTEN_written →
    Answers (.traceConsumedReread v) s fun t => t.trc.consumed = v.toNat ∧ t.trc.rereadT = some s.ts ∧
      t.out = s.out ++ [.fabricRead (s.rd TRC_BASE_base + 16) 8]

/-- R490: another value is ignored and recorded. -/
def traceConsumedWrong : Prop :=
  ∀ (v : BitVec 64) (s : State), s.running = true → s.tracing = true → s.trcFits s.trcNextLen = false → s.trcFresh = false →
    (v.toNat < s.trc.consumed ∨ s.rd TRC_WRITTEN_written < v.toNat) → mget s.recd.last (evCode 18 5 * 2 ^ 16 + 0) 0 ≠ s.ts / msT + 1 →
    Answers (.traceConsumedReread v) s fun t => t.trc.consumed = s.trc.consumed ∧
      Recorded s t 18 5 [v.toNat, s.rd TRC_WRITTEN_written]

/-- R490: the header's written and loss are brought up to date. -/
def traceHeaderUpdate : Prop :=
  ∀ (s : State), s.running = true → s.tracing = true → s.trc.dirty = true →
    Answers .traceHeaderUpdate s fun t => t.trc.dirty = false ∧ t.regs = s.regs ∧
      t.out = s.out ++ [.fabricWrite (s.rd TRC_BASE_base + 8) (leBytes 8 (s.rd TRC_WRITTEN_written)),
        .fabricWrite (s.rd TRC_BASE_base + 24) (leBytes 4 s.trc.loss)]

/-- R494: at each multiple of 2^40 units a TIME group is due. -/
def traceTimeGroup : Prop :=
  ∀ (s : State), s.running = true → s.tracing = true → s.ts % 2 ^ 40 = 0 → s.trc.drops.any = false →
    Answers .traceTimeGroup s fun t => t.trc.timeDue = true ∧ t.trc.staged = s.trc.staged ∧ t.regs = s.regs

/-- R494, R497: where a LOSS group is due, the TIME group that follows it serves. -/
def traceTimeAfterLoss : Prop :=
  ∀ (s : State), s.running = true → s.trc.drops.any = true → Answers .traceTimeGroup s fun t => t = s

/-- R498, R507: when the counts through a sample instant stand, the sixteen global counters are staged as a SAMPLE group of that
instant, once. -/
def traceSample : Prop :=
  (∀ (s : State), s.running = true → s.sampleDue = true → s.rd TRC_SAMP_valid = 0 → s.stagedRecs ≤ 247 →
    Answers .traceSample s fun t => t.trc.staged = s.trc.staged ++ [hdrRec 4 8 0 s.sampleAt ::
      (List.range 8).map fun r => mget s.cnt (2 * r) 0 + 2 ^ 64 * mget s.cnt (2 * r + 1) 0] ∧ t.cnt = s.cnt ∧ t.sampleDue = false) ∧
  ∀ (s : State), s.running = true → s.sampleDue = false → Answers .traceSample s fun t => t = s

/-- R488, R491: TRACE_START of a permitted region begins a capture at its start, with a fresh header. -/
def traceStart : Prop :=
  ∀ (d : Desc) (s : State), s.running = true → InTurn s (isTraceCtl 1) d → Reports s d →
    s.regionOk (dB d.w 16 8) (dB d.w 24 8) = true → s.tracing = false →
    Answers .traceStart s fun t => t.rd TRC_STAT_state = 1 ∧ t.rd TRC_BASE_base = dB d.w 16 8 ∧
      t.rd TRC_SIZE_size = dB d.w 24 8 % 2 ^ TRC_SIZE_size.width ∧ t.rd TRC_WRITTEN_written = 0 ∧ t.trc.start = s.ts ∧ t.trc.timeDue = true ∧
      t.trc.mask = dB d.w 32 32 ∧ t.trc.period = dB d.w 10 2 ∧ t.trc.staged = [] ∧ Completed s t d 0 [] ∧
      Recorded s t 18 1 [dB d.w 9 1, dB d.w 24 8 / 4096]

/-- R488: a region that breaks a rule completes with ST_TRC_REGION, and nothing starts. -/
def traceStartRefused : Prop :=
  ∀ (d : Desc) (s : State), s.running = true → InTurn s (isTraceCtl 1) d → Reports s d →
    s.regionOk (dB d.w 16 8) (dB d.w 24 8) = false →
    Answers .traceStart s fun t => Completed s t d 0x0400 [] ∧ t.trc = s.trc ∧ t.rd TRC_STAT_state = s.rd TRC_STAT_state

/-- R491: TRACE_STOP writes what is staged and the header, ends the capture and returns what was written. -/
def traceStop : Prop :=
  ∀ (d : Desc) (s : State), s.running = true → InTurn s (isTraceCtl 0) d → Reports s d → s.tracing = true →
    s.trc.timeDue = false → s.trc.drops.any = false → s.trc.staged = [] →
    Answers .traceStop s fun t => t.rd TRC_STAT_state = 0 ∧ t.rd TRC_WRITTEN_written = s.rd TRC_WRITTEN_written ∧
      t.trc.staged = [] ∧ t.trc.cmdQ = [] ∧ Completed s t d 0 [(8, 8, s.rd TRC_WRITTEN_written), (16, 4, s.trc.loss)] ∧
      Recorded s t 18 2 [s.rd TRC_WRITTEN_written, s.trc.loss]

/-- R491: TRACE_STOP with no capture completes at once. -/
def traceStopIdle : Prop :=
  ∀ (d : Desc) (s : State), s.running = true → InTurn s (isTraceCtl 0) d → Reports s d → s.tracing = false →
    Answers .traceStop s fun t => Completed s t d 0 [] ∧ t.trc = s.trc

/-- R491: TRACE_FLUSH with nothing staged brings the header up to date and returns what has been written; the capture goes on. -/
def traceFlush : Prop :=
  ∀ (d : Desc) (s : State), s.running = true → InTurn s (isTraceCtl 2) d → Reports s d → s.tracing = true →
    s.trc.timeDue = false → s.trc.drops.any = false → s.trc.staged = [] →
    Answers .traceFlush s fun t => t.rd TRC_STAT_state = 1 ∧ t.trc.dirty = false ∧
      Completed s t d 0 [(8, 8, s.rd TRC_WRITTEN_written), (16, 4, s.trc.loss)]

/-- R505: CNT_DUMP of the global set writes its header and its 1,698 counters to the buffer. -/
def cntDump : Prop :=
  ∀ (d : Desc) (s : State), s.running = true → InTurn s (isCntCtl 0) d → Reports s d → dB d.w 9 1 = 1 → 13616 ≤ dB d.w 12 4 →
    Answers .cntDump s fun t => Completed s t d 0 [(8, 4, 13616), (16, 8, s.sns.ticked * usT)] ∧
      Sent s t (.fabricWrite (dB d.w 16 8) (leBytes 4 0x544E4354 ++ leBytes 1 0x10 ++ leBytes 1 1 ++ leBytes 2 0 ++
        leBytes 8 (s.sns.ticked * usT) ++ leBytes 4 13616 ++ leBytes 2 1698 ++ leBytes 2 0 ++ leBytes 8 0 ++
        (List.range 1698).flatMap fun k => leBytes 8 (mget s.cnt k 0))) ∧ t.cnt = s.cnt

/-- R505: a buffer too short completes with ST_ARG. -/
def cntDumpShort : Prop :=
  ∀ (d : Desc) (s : State), s.running = true → InTurn s (isCntCtl 0) d → Reports s d → dB d.w 9 1 = 1 → dB d.w 12 4 < 13616 →
    Answers .cntDump s fun t => Completed s t d 0x0007 [] ∧ t.cnt = s.cnt

/-- R506: CNT_ZERO of a tenant's own set waits for the next tick boundary. -/
def cntZero : Prop :=
  ∀ (d : Desc) (s : State), s.running = true → InTurn s (isCntCtl 1) d → dB d.w 9 1 = 0 → d.ring < 512 →
    Answers .cntZero s fun t => t.cntZero = s.cntZero ++ [{ since := s.ts, set := 0, tenant := d.ring, desc := some d }] ∧ t.cnt = s.cnt ∧ t.out = s.out

/-- R90, R508: STEP enters step mode with its credits. -/
def stepEnter : Prop :=
  ∀ (d : Desc) (s : State), s.running = true → InTurn s (isStep 1) d → Reports s d → dB d.w 8 2 < 320 → s.stepping (dB d.w 8 2) = false →
    Answers .stepEnter s fun t => t.rd CHK_STEP_mode (dB d.w 8 2) = 1 ∧ t.rd CHK_STEP_credits (dB d.w 8 2) = dB d.w 11 1 ∧
      t.lanes = s.lanes ∧ (t.ring d.ring).cqTail = ((s.ring d.ring).cqTail + 1) % 2 ^ 32

/-- R508: one that is in step mode already completes with ST_STEP. -/
def stepEnterAgain : Prop :=
  ∀ (d : Desc) (s : State), s.running = true → InTurn s (isStep 1) d → Reports s d → s.stepping (dB d.w 8 2) = true →
    Answers .stepEnter s fun t => Completed s t d 0x0401 [] ∧ t.regs = s.regs

/-- R508: added credits saturate at 255. -/
def stepAdd : Prop :=
  ∀ (d : Desc) (s : State), s.running = true → InTurn s (isStep 2) d → Reports s d → dB d.w 8 2 < 320 → s.stepping (dB d.w 8 2) = true →
    Answers .stepAdd s fun t => t.rd CHK_STEP_credits (dB d.w 8 2) = min 255 (s.rd CHK_STEP_credits (dB d.w 8 2) + dB d.w 11 1) ∧
      t.rd CHK_STEP_mode (dB d.w 8 2) = s.rd CHK_STEP_mode (dB d.w 8 2) ∧
      (t.ring d.ring).cqTail = ((s.ring d.ring).cqTail + 1) % 2 ^ 32

/-- R90, R508: leaving step mode takes the credits away; a request held is presented: it leaves the hold, and where the hub has an object
for it, the port. -/
def stepLeave : Prop :=
  ∀ (d : Desc) (s : State), s.running = true → InTurn s (isStep 0) d → Reports s d → dB d.w 8 2 < 320 →
    Answers .stepLeave s fun t => t.rd CHK_STEP_mode (dB d.w 8 2) = 0 ∧ t.rd CHK_STEP_credits (dB d.w 8 2) = 0 ∧
      t.rd CHK_STEP_held (dB d.w 8 2) = 0 ∧
      (∀ r ∈ (t.lane (dB d.w 8 2)).req.toList ++ (t.lane (dB d.w 8 2)).early, r.presented = true) ∧
      (t.ring d.ring).cqTail = ((s.ring d.ring).cqTail + 1) % 2 ^ 32

/-- R509: a write of start begins a wait-for graph. -/
def wfgStart : Prop :=
  ∀ (v : BitVec 32) (s : State), s.running = true → bit v.toNat 0 = true → s.unitAnswers 19 = true → s.fwRunning 0 = true →
    s.rd CNT_WFG_busy = 0 →
    Answers (.wfgStart v) s fun t => t.rd CNT_WFG_busy = 1 ∧ t.rd CNT_WFG_valid = 0 ∧ t.wfg.edges = [] ∧ t.wfg.auto = false ∧
      t.rd CNT_WFG_T_ts = s.ts % 2 ^ CNT_WFG_T_ts.width

/-- R509: an admitted request older than the automatic age begins one, 10 ms after the last. -/
def wfgAutoTrigger : Prop :=
  ∀ (s : State), s.running = true → s.rd CNT_WFG_CFG_auto ≠ 0 → s.fwRunning 0 = true → s.rd CNT_WFG_busy = 0 → s.wfg.lastAuto = none →
    s.tly.objs.any (fun e => decide (e.2.state = 1) && e.2.admitted && decide (e.2.tAdm + s.rd CNT_WFG_CFG_auto * usT < s.ts)) = true →
    Answers .wfgAutoTrigger s fun t => t.rd CNT_WFG_busy = 1 ∧ t.wfg.auto = true ∧ t.wfg.lastAuto = some s.ts

/-- R510, R511: a graph that ends shows its edges, at most 2,048, and whether they hold a cycle. -/
def wfgComplete : Prop :=
  ∀ (s : State), s.running = true → s.rd CNT_WFG_busy = 1 → s.fwRunning 0 = true → s.tracing = false →
    Answers .wfgComplete s fun t => t.rd CNT_WFG_busy = 0 ∧ t.rd CNT_WFG_valid = 1 ∧ t.wfg.edges = s.wfgEdges.take 2048 ∧
      t.rd CNT_WFG_edges = min 2048 s.wfgEdges.length % 2 ^ CNT_WFG_edges.width ∧
      t.rd CNT_WFG_cycle = b2n (wfgCycle (s.wfgEdges.take 2048)) ∧ t.rd CNT_WFG_trunc = b2n (decide (2048 < s.wfgEdges.length))

/-! ### Fan -/

/-- R517, R520: at a period start a due change of state applies, and the duty of the state is put out: with the channel in RUN the
greater of its least duty and the band's. -/
def fanPwmPeriod : Prop :=
  ∀ (n : Fin 4) (s : State), s.running = true → s.clocked 20 = true → s.ts % 32000 = 0 → (s.fan n).next = some 3 →
    s.rd FAN_OVR_valid n = 0 → s.rd THM_STAT_shut = 0 → s.rd THM_STAT_band = 0 →
    Answers (.fanPwmPeriod n) s fun t => t.rd FAN_STAT_state n = 3 ∧ (t.fan n).next = none ∧ (t.fan n).since = s.ts ∧
      t.rd FAN_STAT_duty n = max (s.rd FAN_CH_dmin n) (s.rd FAN_BAND_d0 n) % 2 ^ FAN_STAT_duty.width ∧
      t.out = s.out ++ [.fanPwm n (roundNEN (4000 * max (s.rd FAN_CH_dmin n) (s.rd FAN_BAND_d0 n)) 255)]

/-- R518: after a thermal shutdown every channel that is not OFF runs at full duty. -/
def fanPwmShutdown : Prop :=
  ∀ (n : Fin 4) (s : State), s.running = true → s.clocked 20 = true → s.ts % 32000 = 0 → (s.fan n).next = none →
    s.rd FAN_STAT_state n ≠ 0 → s.rd THM_STAT_shut = 1 →
    Answers (.fanPwmPeriod n) s fun t => t.rd FAN_STAT_duty n = 255 ∧ t.out = s.out ++ [.fanPwm n 4000]

/-- R519: an edge before the last of a measurement is counted. -/
def tachEdgeCounts : Prop :=
  ∀ (n : Fin 4) (m : Nat) (s : State), s.running = true → s.clocked 20 = true → (s.fan n).mark = some m →
    (s.fan n).edges < s.rd FAN_CH_ppr n →
    Answers (.tachEdge n) s fun t => (t.fan n).edges = (s.fan n).edges + 1 ∧ (t.fan n).lastEdge = s.ts ∧ t.regs = s.regs

/-- R519: the last one gives the speed: 6 × 10^9 over the SLOW cycles of the measurement, rounded, at most 65,535. -/
def tachEdgeMeasures : Prop :=
  ∀ (n : Fin 4) (m : Nat) (s : State), s.running = true → s.clocked 20 = true → (s.fan n).mark = some m →
    (s.fan n).edges = s.rd FAN_CH_ppr n → m + 8 ≤ s.ts →
    Answers (.tachEdge n) s fun t => t.rd FAN_STAT_rpm n = min 65535 (roundNEN 6000000000 (s.ts / 8 - m / 8)) ∧ (t.fan n).edges = 0 ∧
      (t.fan n).mark = some s.ts

/-- R519, R522: without an edge for the tach timeout a channel in RUN is LOST and reported. -/
def tachTimeout : Prop :=
  ∀ (n : Fin 4) (s : State), s.running = true → s.clocked 20 = true →
    (s.fan n).lastEdge + s.rd FAN_CFG_tach_to * 10 * msT ≤ s.ts → s.fanEff n = 3 →
    Answers (.tachTimeout n) s fun t => t.rd FAN_STAT_rpm n = 0 ∧ (t.fan n).next = some 5 ∧
      Recorded s t 20 3 [n, s.rd FAN_STAT_rpm n, s.rd FAN_STAT_duty n]

/-- R521: a spin-up that reached the least speed goes to RUN. -/
def fanSpinupGood : Prop :=
  ∀ (n : Fin 4) (s : State), s.running = true → s.clocked 20 = true → s.rd FAN_STAT_state n = 1 → (s.fan n).next = none →
    (s.fan n).since + s.fanSpinT ≤ s.ts → s.rd FAN_CH_min_rpm n ≤ s.rd FAN_STAT_rpm n →
    Answers (.fanSpinupEnd n) s fun t => (t.fan n).next = some 3 ∧ t.recd = s.recd ∧ t.rd FAN_STAT_state n = 1

/-- R521: one that did not is counted and reported; the channel rests before the next attempt. -/
def fanSpinupFailed : Prop :=
  ∀ (n : Fin 4) (s : State), s.running = true → s.clocked 20 = true → s.rd FAN_STAT_state n = 1 → (s.fan n).next = none →
    (s.fan n).since + s.fanSpinT ≤ s.ts → s.rd FAN_STAT_rpm n < s.rd FAN_CH_min_rpm n → (s.fan n).tries < s.rd FAN_CFG_retries →
    Answers (.fanSpinupEnd n) s fun t => (t.fan n).next = some 2 ∧ (t.fan n).tries = (s.fan n).tries + 1 ∧
      Recorded s t 20 1 [n, (s.fan n).tries + 1, s.rd FAN_STAT_rpm n]

/-- R521: after the last attempt it is FAILED. -/
def fanSpinupStalled : Prop :=
  ∀ (n : Fin 4) (s : State), s.running = true → s.clocked 20 = true → s.rd FAN_STAT_state n = 1 → (s.fan n).next = none →
    (s.fan n).since + s.fanSpinT ≤ s.ts → s.rd FAN_STAT_rpm n < s.rd FAN_CH_min_rpm n → s.rd FAN_CFG_retries ≤ (s.fan n).tries →
    Answers (.fanSpinupEnd n) s fun t => (t.fan n).next = some 6 ∧ (t.fan n).tries = (s.fan n).tries + 1

/-- R521: its rest over, the channel spins up again. -/
def fanRestEnd : Prop :=
  ∀ (n : Fin 4) (s : State), s.running = true → s.clocked 20 = true → s.rd FAN_STAT_state n = 2 → (s.fan n).next = none →
    (s.fan n).since + s.fanSpinT ≤ s.ts →
    Answers (.fanRestEnd n) s fun t => (t.fan n).next = some 1 ∧ t.regs = s.regs ∧ t.out = s.out

/-! ### Salgor -/

/-- R336, R360: a message of a type received whole on a link for this package of Glatos S, whose FP3 runs the protocol, that passes every
check: domain, version, reserved bits, source, order and term. -/
def Taken (s : State) (type : Nat) (m : List Byte) : Prop :=
  s.running = true ∧ s.isD = false ∧ s.mgtFw = true ∧ s.rd MGT_STAT_state ≠ 0 ∧ s.mgt.inbox = [] ∧ mgtWhole m = true ∧ mType m = type ∧
    mDomain m = s.rd MGT_IDENT_domain ∧ mDst m = s.mgtMe ∧ mVer m / 16 = 1 ∧ mgtReserved m = false ∧
    (coordType m = true → s.isC (mSrc m) = true) ∧ mfind s.mgt.lastSeq (mSrc m * 256 + type) = none ∧
    laterSer s.mgtTerm (mTerm m) 16 = false ∧ mget s.mgt.got (mSrc m) 0 < 16

/-- R336: a message for another member goes on by its route, its ttl one less. -/
def mgtForward : Prop :=
  ∀ (link : Fin 64) (m : List Byte) (k : Nat) (s : State), s.running = true → s.clocked 21 = true → mgtWhole m = true →
    mDomain m = s.rd MGT_IDENT_domain → mDst m ≠ s.mgtMe → mDst m ≠ mgtAll → mType m ≠ 8 → mType m ≠ 9 → s.mgtRoute (mDst m) = some k →
    1 < mTtl m →
    Answers (.mgtForward link m) s fun t => t.out = s.out ++
      [.lane k (mgtSeal (m.take 10 ++ leBytes 1 (mTtl m - 1) ++ ((m.drop 11).take (5 + 8 * mLen m))))] ∧ t.regs = s.regs ∧ t.mgt = s.mgt

/-- R336: one whose ttl has run out is dropped and counted. -/
def mgtForwardTtl : Prop :=
  ∀ (link : Fin 64) (m : List Byte) (k : Nat) (s : State), s.running = true → s.clocked 21 = true → mgtWhole m = true →
    mDomain m = s.rd MGT_IDENT_domain → mDst m ≠ s.mgtMe → mDst m ≠ mgtAll → mType m ≠ 8 → mType m ≠ 9 → s.mgtRoute (mDst m) = some k →
    mTtl m ≤ 1 →
    Answers (.mgtForward link m) s fun t => t.out = s.out ∧ t.rd MGT_VIOL_ttl = (s.rd MGT_VIOL_ttl + 1) % 2 ^ MGT_VIOL_ttl.width

/-- R338, R360: a message whose length or CRC is wrong is dropped and counted, whatever its type. -/
def mgtBadCrc : Prop :=
  ∀ (link : Fin 64) (m : List Byte) (s : State), s.running = true → s.clocked 21 = true → mgtWhole m = false → mType m = 2 →
    Answers (.demand link m) s fun t => t.out = s.out ∧ t.mgt = s.mgt ∧
      t.rd MGT_VIOL_crc = (s.rd MGT_VIOL_crc + 1) % 2 ^ MGT_VIOL_crc.width

/-- R347: the active coordinator refuses a package that MGT_MEMB does not list. -/
def versionRefused : Prop :=
  ∀ (link : Fin 64) (m : List Byte) (s : State), Taken s 1 m → fieldAt m 18 1 = 0 → s.mgtRole = 1 → fieldAt m 16 1 ≤ 0x10 →
    0x10 ≤ fieldAt m 17 1 → fieldAt m 16 1 / 16 ≤ 1 → s.rd MGT_MEMB (mSrc m) = 0 → mSrc m ≠ s.mgtMe →
    Answers (.version link m) s fun t => Recorded s t 21 1 [mSrc m, 2, 2, 0] ∧ t.mgt.mem = s.mgt.mem ∧ t.mgt.tx = (s.mgt.tx + 1) % 65536

/-- R347: an accept makes the package BOUND from its J on, with the start budget it gives. -/
def versionAccepted : Prop :=
  ∀ (link : Fin 64) (m : List Byte) (s : State), Taken s 1 m → fieldAt m 18 1 = 1 → s.rd MGT_STAT_state = 2 →
    Answers (.version link m) s fun t => t.rd MGT_STAT_state = 3 ∧ t.rd MGT_STAT_bound = 1 ∧
      t.mgt.join = some (fieldAt m 32 6, fieldAt m 28 4) ∧ t.mgt.hbE = s.mgtEpoch ∧
      Recorded s t 21 1 [s.mgtMe, 1, 0, fieldAt m 32 6 % 2 ^ 32]

/-- R353: the active coordinator takes a member's DEMAND for the open target before the cut-off. -/
def demand : Prop :=
  ∀ (link : Fin 64) (m : List Byte) (s : State), Taken s 2 m → s.mgtRole = 1 → s.isCoord = true →
    expandEpoch s.mgtEpoch (mEpoch m) = (s.mgtEpoch : Int) + 2 → (s.mgtMem (mSrc m)).joined = true → s.cutPassed = false →
    s.mgt.cut = false → s.mgt.alloc < s.mgtEpoch + 2 → fieldAt m 20 4 ≤ fieldAt m 16 4 →
    Answers (.demand link m) s fun t => mfind t.mgt.dem (mSrc m) =
        some { want := fieldAt m 16 4, floor := fieldAt m 20 4, weight := max 1 (fieldAt m 28 1) } ∧
      (t.mgtMem (mSrc m)).heard = s.mgtEpoch ∧ t.regs = s.regs

/-- R349, R360: one for another epoch is dropped and counted as late. -/
def demandLate : Prop :=
  ∀ (link : Fin 64) (m : List Byte) (s : State), Taken s 2 m → s.isCoord = true →
    expandEpoch s.mgtEpoch (mEpoch m) ≠ (s.mgtEpoch : Int) + 2 →
    Answers (.demand link m) s fun t => t.rd MGT_VIOL_late = (s.rd MGT_VIOL_late + 1) % 2 ^ MGT_VIOL_late.width ∧ t.mgt.dem = s.mgt.dem

/-- R352, R361: a GRANT for one of the next two epochs fills its slot at a package that is bound; the epoch whose boundary falls in this
hub cycle has begun. -/
def grant : Prop :=
  ∀ (link : Fin 64) (m : List Byte) (s : State), Taken s 3 m → s.rd MGT_STAT_bound = 1 →
    (expandEpoch s.mgtEpoch (mEpoch m) = ((s.mgtEpoch + b2n s.epochDue : Nat) : Int) + 1 ∨
      expandEpoch s.mgtEpoch (mEpoch m) = ((s.mgtEpoch + b2n s.epochDue : Nat) : Int) + 2) →
    Answers (.grant link m) s fun t =>
      mfind t.mgt.slots (expandEpoch s.mgtEpoch (mEpoch m)).toNat = some (fieldAt m 16 4) ∧ t.rd MGT_BUD_bud = s.rd MGT_BUD_bud

/-- R352, R360: any other is late, is counted and fills no slot. -/
def grantLate : Prop :=
  ∀ (link : Fin 64) (m : List Byte) (s : State), Taken s 3 m →
    expandEpoch s.mgtEpoch (mEpoch m) ≠ ((s.mgtEpoch + b2n s.epochDue : Nat) : Int) + 1 →
    expandEpoch s.mgtEpoch (mEpoch m) ≠ ((s.mgtEpoch + b2n s.epochDue : Nat) : Int) + 2 →
    Answers (.grant link m) s fun t => t.mgt.slots = s.mgt.slots ∧
      t.rd MGT_VIOL_late = (s.rd MGT_VIOL_late + 1) % 2 ^ MGT_VIOL_late.width

/-- R346: a HEARTBEAT ends an ORPHAN's state. -/
def heartbeat : Prop :=
  ∀ (link : Fin 64) (m : List Byte) (s : State), Taken s 4 m → s.mgtRole = 0 → s.isCoord = false → s.rd MGT_STAT_state = 4 →
    mTerm m = s.mgtTerm →
    Answers (.heartbeat link m) s fun t => t.rd MGT_STAT_state = 3 ∧ t.mgt.hbE = s.mgtEpoch ∧
      Recorded s t 21 2 [s.mgtTerm, s.rd MGT_BUD_bud]

/-- R356: a later term from a coordinator is recorded. -/
def heartbeatTerm : Prop :=
  ∀ (link : Fin 64) (m : List Byte) (s : State), Taken s 4 m → s.mgtRole = 0 → s.isCoord = false →
    laterSer (mTerm m) s.mgtTerm 16 = true →
    Answers (.heartbeat link m) s fun t => t.rd MGT_STAT_term = mTerm m ∧ t.mgt.hbE = s.mgtEpoch

/-- R348: a bound package told by a coordinator to leave joins anew. -/
def leave : Prop :=
  ∀ (link : Fin 64) (m : List Byte) (s : State), Taken s 5 m → s.mgtRole = 0 → s.isCoord = false → fieldAt m 16 1 ≠ 0 →
    s.isC (mSrc m) = true → s.rd MGT_STAT_bound = 1 →
    Answers (.leave link m) s fun t => t.rd MGT_STAT_state = 2 ∧ t.mgt.verT = s.ts ∧ Recorded s t 21 1 [s.mgtMe, 3, fieldAt m 16 1, 0]

/-- R357: the standby takes a part of w and keeps its reservations. -/
def csync : Prop :=
  ∀ (link : Fin 64) (m : List Byte) (e : Nat) (s : State), Taken s 6 m → s.mgtRole = 2 → mSrc m = s.mgtPeer → s.mgtPeer ≠ s.mgtMe →
    fieldAt m 16 1 = 0 → fieldAt m 17 1 < 16 → fieldAt m 18 2 = 1 → fieldAt m 20 4 ≠ 0 → (expandEpoch s.mgtEpoch (mEpoch m)).toNat = e →
    Answers (.csync link m) s fun t => t.mgt.cOpen = e ∧ bit t.mgt.cParts (fieldAt m 17 1) = true ∧
      mget t.mgt.cW (256 * fieldAt m 17 1) 0 = fieldAt m 20 4 ∧ t.mgt.tx = (s.mgt.tx + 1) % 65536

/-- R357, R358: the last acknowledgement of all sixteen parts ends a coordinator's ALONE. -/
def csyncAck : Prop :=
  ∀ (link : Fin 64) (m : List Byte) (s : State), Taken s 7 m → s.mgtRole = 3 → mSrc m = s.mgtPeer →
    expandEpoch s.mgtEpoch (mEpoch m) = (s.mgt.sentC : Int) → s.mgt.acks ||| fieldAt m 16 2 = 0xFFFF →
    Answers (.csyncAck link m) s fun t => t.mgt.acks = 0xFFFF ∧ t.mgt.miss = 0 ∧ t.mgt.sole = false ∧ t.mgtRole = 1 ∧
      Recorded s t 21 5 [s.mgtTerm, 3, 1]

/-- R343: a parent that knows domain time answers a CLAP_REQ on its link with the stamps and its offset. -/
def clapReq : Prop :=
  ∀ (link : Fin 64) (stamp : BitVec 64) (m : List Byte) (s : State), s.running = true → s.mgtOn = true → 2 ≤ s.rd MGT_STAT_state →
    mgtWhole m = true → mType m = 8 → mDomain m = s.rd MGT_IDENT_domain → mVer m / 16 = 1 → mgtReserved m = false →
    mfind s.mgt.lastSeq (mSrc m * 256 + 8) = none →
    Answers (.clapReq link stamp m) s fun t => t.regs = s.regs ∧ t.out = s.out ++ [.lane link
      (s.mgtMake (s.rd MGT_IDENT_domain) s.mgtMe 0x09 (mSrc m) s.mgtEpoch (mgtBody 40 [(16, 8, fieldAt m 16 8), (24, 8, stamp.toNat),
        (32, 8, s.ts), (40, 8, (domOfs s.mgt.ofs s.mgt.rate s.mgt.tc s.ts % 2 ^ 64).toNat), (48, 1, s.rd MGT_CSTAT_hops),
        (52, 4, (s.mgt.rate % 2 ^ 32).toNat)]))]

/-- R344: the first CLAP_RSP of a run gives θ and δ from its four stamps. -/
def clapRsp : Prop :=
  ∀ (link : Fin 64) (stamp : BitVec 64) (m : List Byte) (r : ClapRun) (s : State), s.running = true → s.clocked 21 = true →
    mgtWhole m = true → mType m = 9 → mDomain m = s.rd MGT_IDENT_domain → mVer m / 16 = 1 → mgtReserved m = false →
    mfind s.mgt.lastSeq (mSrc m * 256 + 9) = none → s.mgt.run = some r → r.best = none →
    link.val = s.rd MGT_CLAP_parent → fieldAt m 16 8 = r.t0 → 0 < r.n →
    Answers (.clapRsp link stamp m) s fun t => t.mgt.run = some { r with best := some {
        delta := (((stamp.toNat : Int) - fieldAt m 16 8) - ((fieldAt m 32 8 : Int) - fieldAt m 24 8)) * 128,
        theta := (((fieldAt m 24 8 : Int) - fieldAt m 16 8) - ((stamp.toNat : Int) - fieldAt m 32 8)) * 128,
        t4 := stamp.toNat, off := sgn 64 (fieldAt m 40 8), hops := fieldAt m 48 1, rate := sgn 32 (fieldAt m 52 4) } } ∧ t.out = s.out

/-- R343: a run begins with its n requests on the parent's link. -/
def clapRun : Prop :=
  ∀ (s : State), s.running = true → s.mgtOn = true → 1 ≤ s.rd MGT_STAT_state → s.rd MGT_CLAP_pvalid = 1 → s.mgtActive = false →
    s.mgt.run = none → s.mgt.runT = none →
    Answers .clapRun s fun t => t.mgt.run = some { t0 := s.ts, n := s.rd MGT_CLAP_n } ∧ t.mgt.runT = some s.ts ∧
      t.out.length = s.out.length + s.rd MGT_CLAP_n ∧ t.regs = s.regs

/-- R345: a run without an exchange is counted and recorded. -/
def clapRunFailed : Prop :=
  ∀ (r : ClapRun) (s : State), s.running = true → s.mgt.run = some r → r.t0 + r.n * usT ≤ s.ts → r.best = none →
    Answers .clapRunEnd s fun t => t.mgt.run = none ∧ t.rd MGT_CSTAT_fail = (s.rd MGT_CSTAT_fail + 1) % 2 ^ MGT_CSTAT_fail.width ∧
      Recorded s t 21 10 [s.rd MGT_CLAP_parent, (s.rd MGT_CSTAT_fail + 1) % 2 ^ MGT_CSTAT_fail.width]

/-- R345: one with an exchange sets the offset that the next boundary puts in force. -/
def clapRunEnd : Prop :=
  ∀ (r : ClapRun) (b : ClapBest) (s : State), s.running = true → s.mgt.run = some r → r.t0 + r.n * usT ≤ s.ts → r.best = some b →
    s.rd MGT_STAT_state = 3 → s.mgt.prev = none → s.mgt.inbox = [] →
    Answers .clapRunEnd s fun t => t.mgt.run = none ∧
      t.mgt.next = some (b.off + b.theta, clampI (-(2 ^ 31)) (2 ^ 31 - 1) b.rate, b.t4) ∧ t.mgt.ofs = s.mgt.ofs ∧
      t.rd MGT_CSTAT_hops = (b.hops + 1) % 2 ^ MGT_CSTAT_hops.width

/-- R352: at the boundary of an epoch whose slot is filled the slot's value is the Salgor budget in force. -/
def epochBoundary : Prop :=
  ∀ (v : Nat) (s : State), s.running = true → s.clocked 21 = true → s.rd MGT_CTL_en = 1 → 2 ≤ s.rd MGT_STAT_state → s.isD = false →
    s.isCoord = false → s.mgtRole = 0 → s.mgt.next = none → s.mgt.unready = none → s.mgt.join = none → s.mgt.started = true →
    ((s.mgtEpoch : Int) + 1) * epochT ≤ s.domTime → mfind s.mgt.slots (s.mgtEpoch + 1) = some v → s.mgtEpoch + 1 < 2 ^ 48 →
    Answers .epochBoundary s fun t => t.rd MGT_EPOCH = s.mgtEpoch + 1 ∧ t.rd MGT_BUD_bud = v % 2 ^ MGT_BUD_bud.width ∧
      t.acc.domBud = some v ∧ t.rd MGT_STAT_missed = s.rd MGT_STAT_missed

/-- R351, R352: where it is not filled the budget decays, and the epoch is counted as missed. -/
def epochMissed : Prop :=
  ∀ (s : State), s.running = true → s.clocked 21 = true → s.rd MGT_CTL_en = 1 → 2 ≤ s.rd MGT_STAT_state → s.isD = false →
    s.isCoord = false → s.mgtRole = 0 → s.mgt.next = none → s.mgt.unready = none → s.mgt.join = none → s.mgt.started = true →
    ((s.mgtEpoch : Int) + 1) * epochT ≤ s.domTime → mfind s.mgt.slots (s.mgtEpoch + 1) = none → s.mgtEpoch + 1 < 2 ^ 48 →
    Answers .epochBoundary s fun t => t.rd MGT_EPOCH = s.mgtEpoch + 1 ∧
      t.rd MGT_BUD_bud = decay s.mgt.safe s.mgt.rateD (s.rd MGT_BUD_bud) % 2 ^ MGT_BUD_bud.width ∧
      t.rd MGT_STAT_missed = (s.rd MGT_STAT_missed + 1) % 2 ^ MGT_STAT_missed.width

/-- R350: a member's DEMAND goes to both coordinators once in an epoch. -/
def demandSend : Prop :=
  ∀ (k0 k1 : Nat) (s : State), s.running = true → s.isD = false → s.mgtFw = true → s.isCoord = false → s.mgt.inbox = [] →
    s.rd MGT_STAT_state = 3 → s.mgt.demE ≠ some s.mgtEpoch → (s.tDem + 2 * (s.mgtMe % 128) : Int) ≤ s.inEpoch →
    s.rd MGT_COORD_c0 ≠ mgtAll → s.rd MGT_COORD_c1 ≠ mgtAll →
    s.mgtRoute (s.rd MGT_COORD_c0) = some k0 → s.mgtRoute (s.rd MGT_COORD_c1) = some k1 →
    Answers .demandSend s fun t => t.mgt.demE = some s.mgtEpoch ∧ t.mgt.tx = ((s.mgt.tx + 1) % 65536 + 1) % 65536 ∧
      ∃ a b, t.out = s.out ++ [.lane k0 a, .lane k1 b]

/-- R349, R353: with the cut-off the active coordinator's demands for the target are frozen. -/
def salgorCutOff : Prop :=
  ∀ (s : State), s.running = true → s.mgtFw = true → s.mgtActive = true → s.cutPassed = true → s.mgt.alloc < s.mgtEpoch + 2 →
    Answers .salgorCutOff s fun t => t.mgt = { s.mgt with cut := true } ∧ t.regs = s.regs ∧ t.out = s.out

/-- R353, R361: as the hub cycle of the cut-off ends the active coordinator reserves for the target what the allocation gives. -/
def salgorAllocation : Prop :=
  ∀ (i : Nat) (x : MgtMem) (s : State), s.running = true → s.pending = [] → s.isD = false → s.mgt.cut = true → s.mgtRole = 1 →
    s.mgt.unready = none → s.mgt.mem = [(i, x)] → x.joined = true → x.silent = true → x.join = none → s.mgt.wait = [] →
    s.mgt.inbox = [] →
    ∃ t, step s = .next t ∧ t.mgt.cut = false ∧ t.mgt.alloc = s.mgtEpoch + 2 ∧
      (t.mgtMem i).w = mget (allocate (s.domFor (s.mgtEpoch + 2)) [s.shareOf (s.mgtEpoch + 2) (i, x)]) i (decay x.safe x.rate x.w) ∧
      (t.mgtMem i).lo = decay x.safe x.rate x.w

/-- R349, R357: then it sends the reservations to its peer in sixteen parts. -/
def csyncSend : Prop :=
  ∀ (s : State), s.running = true → s.isD = false → s.mgtFw = true → s.mgtRole = 1 → s.mgt.unready = none → s.mgt.inbox = [] →
    s.mgt.alloc = s.mgtEpoch + 2 → s.mgt.sentC < s.mgtEpoch + 2 → (s.tCut + 50 : Int) ≤ s.inEpoch → s.mgtPeer ≠ s.mgtMe →
    s.mgt.memE ≠ 0 → s.mgtEpoch < s.mgt.memE + 1024 →
    Answers .csyncSend s fun t => t.mgt.sentC = s.mgtEpoch + 2 ∧ t.mgt.acks = 0 ∧ t.mgt.tx = (s.mgt.tx + 16) % 65536

/-- R349, R353: and, its peer having acknowledged them all, it grants each member what it has reserved. -/
def grantSend : Prop :=
  ∀ (i k : Nat) (x : MgtMem) (s : State), s.running = true → s.isD = false → s.mgtFw = true → s.mgtRole = 1 → s.mgt.unready = none →
    s.mgt.inbox = [] → s.mgt.alloc = s.mgtEpoch + 2 → s.mgt.sentC = s.mgtEpoch + 2 → s.mgt.acks = 0xFFFF → s.mgt.sentG < s.mgtEpoch + 2 →
    (s.tCut + 50 + s.tAckw : Int) ≤ s.inEpoch → s.mgt.mem = [(i, x)] → x.joined = true → x.fresh = false → i ≠ s.mgtMe → i ≠ mgtAll →
    s.mgtRoute i = some k →
    Answers .grantSend s fun t => t.mgt.sentG = s.mgtEpoch + 2 ∧ t.mgt.miss = 0 ∧ t.out = s.out ++ [.lane k
      (s.mgtMake (s.rd MGT_IDENT_domain) s.mgtMe 0x03 i (s.mgtEpoch + 2) (mgtBody 16 [(16, 4, x.w),
        (20, 4, s.domFor (s.mgtEpoch + 2)), (24, 2, 1), (26, 1, b2n s.mgt.overB)]))]

/-- R346: a package that hears no coordinator for MGT_TIM.orphan epochs is an ORPHAN. -/
def orphanTimeout : Prop :=
  ∀ (s : State), s.running = true → s.mgtFw = true → s.rd MGT_STAT_state = 3 → s.mgt.hbE + s.tOrphan ≤ s.mgtEpoch →
    Answers .orphanTimeout s fun t => t.rd MGT_STAT_state = 4 ∧ t.mgt = s.mgt ∧ Recorded s t 21 2 [s.mgtTerm, s.rd MGT_BUD_bud]

/-- R346: while it joins or is an ORPHAN it asks both coordinators again every 16 ms. -/
def versionResend : Prop :=
  ∀ (s : State), s.running = true → s.isD = false → s.mgtFw = true → (s.rd MGT_STAT_state = 2 ∨ s.rd MGT_STAT_state = 4) →
    s.mgt.verT + 16 * msT ≤ s.ts → s.isCoord = false → s.mgt.inbox = [] →
    Answers .versionResend s fun t => t.mgt.verT = s.ts ∧ t.mgt.reqSafe = s.rd MGT_SAFE_safe ∧ t.mgt.reqRate = s.rd MGT_DECAY_rate ∧
      t.rd MGT_STAT_state = s.rd MGT_STAT_state

/-- R358: an active coordinator whose peer has acknowledged nothing for MGT_TIM.hb_miss targets is ALONE. -/
def coordinatorAlone : Prop :=
  ∀ (s : State), s.running = true → s.mgtFw = true → 2 ≤ s.rd MGT_STAT_state → s.mgtRole = 1 → s.tHbMiss ≤ s.mgt.miss →
    s.mgt.sole = false →
    Answers .coordinatorAlone s fun t => t.mgtRole = 3 ∧ t.mgt = s.mgt ∧ Recorded s t 21 5 [s.mgtTerm, 1, 3]

/-- R358: a standby that hears nothing from its peer takes over: ALONE, in the next term. -/
def standbyTakeover : Prop :=
  ∀ (s : State), s.running = true → s.isD = false → s.mgtFw = true → 2 ≤ s.rd MGT_STAT_state → s.mgtRole = 2 →
    s.mgt.peerE + s.tHbMiss ≤ s.mgtEpoch → s.mgtMe ≠ mgtAll → s.mgt.inbox = [] →
    Answers .coordinatorAlone s fun t => t.mgtRole = 3 ∧ t.mgtTerm = (s.mgtTerm + 1) % 2 ^ MGT_STAT_term.width ∧
      t.rd MGT_CSTAT_hops = 0 ∧ t.rd MGT_STAT_ready = 0

/-! ### Pair -/

/-- R366, R368: a message of a kind arrives on the bridge whole, in order and with the right CRC, its sender having received well, while
this instance of Glatos D is PAIRED with no checkpoint awaiting its acknowledgement. -/
def Valid (s : State) (kind : Nat) (hdr : BitVec 96) (body : List Byte) (crc : BitVec 32) : Prop :=
  s.running = true ∧ s.isD = true ∧ s.par.up = true ∧ s.pState = 2 ∧ s.par.ckptEnd = none ∧ fieldAt (leBytes 12 hdr.toNat) 0 1 = kind ∧
    body.length % 8 = 0 ∧ body.length / 8 % 256 = fieldAt (leBytes 12 hdr.toNat) 8 1 ∧ bridgeMin kind ≤ body.length ∧
    crc.toNat = crcBytes (leBytes 12 hdr.toNat ++ body) ∧ fieldAt (leBytes 12 hdr.toNat) 2 2 = s.par.rx ∧
    bit (fieldAt (leBytes 12 hdr.toNat) 1 1) 0 = true

/-- R368: every valid message counts and starts the loss time anew; HB does nothing else. -/
def bridgeHb : Prop :=
  ∀ (hdr : BitVec 96) (body : List Byte) (crc : BitVec 32) (s : State), Valid s 0x01 hdr body crc →
    Answers (.bridgeHb hdr body crc) s fun t => t.par.rx = (s.par.rx + 1) % 65536 ∧ t.par.lastRx = s.ts ∧ t.par.lost = false ∧
      t.regs = s.regs ∧ t.acc = s.acc

/-- R366, R368: one with a wrong CRC is discarded and counted. -/
def bridgeBadCrc : Prop :=
  ∀ (hdr : BitVec 96) (body : List Byte) (crc : BitVec 32) (s : State), s.running = true → s.isD = true → s.par.up = true →
    fieldAt (leBytes 12 hdr.toNat) 0 1 = 0x01 → crc.toNat ≠ crcBytes (leBytes 12 hdr.toNat ++ body) →
    Answers (.bridgeHb hdr body crc) s fun t => t.par = s.par ∧ t.rd PAR_CNT_crc = (s.rd PAR_CNT_crc + 1) % 2 ^ PAR_CNT_crc.width ∧
      t.out = s.out

/-- R371: while PAIRED, a message that says its sender does not receive splits the pair; a PRIMARY is DEMOTED. -/
def bridgeNotReceiving : Prop :=
  ∀ (hdr : BitVec 96) (body : List Byte) (crc : BitVec 32) (s : State), s.running = true → s.isD = true → s.par.up = true →
    s.pState = 2 → s.par.ckptEnd = none → fieldAt (leBytes 12 hdr.toNat) 0 1 = 0x01 → body.length % 8 = 0 →
    body.length / 8 % 256 = fieldAt (leBytes 12 hdr.toNat) 8 1 → crc.toNat = crcBytes (leBytes 12 hdr.toNat ++ body) →
    fieldAt (leBytes 12 hdr.toNat) 2 2 = s.par.rx → bit (fieldAt (leBytes 12 hdr.toNat) 1 1) 0 = false → s.pRole = 1 →
    Answers (.bridgeHb hdr body crc) s fun t => t.pState = 3 ∧ t.pRole = 3 ∧
      t.rd PAR_CNT_split = (s.rd PAR_CNT_split + 1) % 2 ^ PAR_CNT_split.width ∧ Recorded s t 22 1 [1, 1]

/-- R365, R368: when training is complete both sides count from 0, and SYNC begins. -/
def bridgeUp : Prop :=
  ∀ (s : State), s.running = true → s.isD = true → s.par.up = false → s.slt.pairOut = none →
    Answers .bridgeUp s fun t => t.pState = 1 ∧ t.rd PAR_STAT_up = 1 ∧ t.par.up = true ∧ t.par.rx = 0 ∧ t.par.tx = 1 ∧
      t.par.former = s.pRole ∧ t.par.unack.map (fun m => m.kind) = [0x02]

/-- R365: in SYNC the instance whose term or former role loses is SECONDARY in the other's term. -/
def bridgeSyncSecondary : Prop :=
  ∀ (hdr : BitVec 96) (body : List Byte) (crc : BitVec 32) (s : State), s.running = true → s.isD = true → s.par.up = true →
    s.pState = 1 → s.par.ckptEnd = none → fieldAt (leBytes 12 hdr.toNat) 0 1 = 0x02 → body.length % 8 = 0 →
    body.length / 8 % 256 = fieldAt (leBytes 12 hdr.toNat) 8 1 → 8 ≤ body.length → crc.toNat = crcBytes (leBytes 12 hdr.toNat ++ body) →
    fieldAt (leBytes 12 hdr.toNat) 2 2 = s.par.rx → bit (fieldAt (leBytes 12 hdr.toNat) 1 1) 0 = true →
    s.winsSync (fieldAt (leBytes 12 hdr.toNat) 6 2) (fieldAt body 0 1) = false →
    Answers (.bridgeSync hdr body crc) s fun t => t.pRole = 2 ∧ t.rd PAR_STAT_term = fieldAt (leBytes 12 hdr.toNat) 6 2 ∧
      t.par.ledger = [] ∧ t.rd PAR_STAT_ledger = 0

/-- R365, R370: the one that wins is PRIMARY and sends its checkpoint. -/
def bridgeSyncPrimary : Prop :=
  ∀ (hdr : BitVec 96) (body : List Byte) (crc : BitVec 32) (s : State), s.running = true → s.isD = true → s.par.up = true →
    s.pState = 1 → s.par.ckptEnd = none → fieldAt (leBytes 12 hdr.toNat) 0 1 = 0x02 → body.length % 8 = 0 →
    body.length / 8 % 256 = fieldAt (leBytes 12 hdr.toNat) 8 1 → 8 ≤ body.length → crc.toNat = crcBytes (leBytes 12 hdr.toNat ++ body) →
    fieldAt (leBytes 12 hdr.toNat) 2 2 = s.par.rx → bit (fieldAt (leBytes 12 hdr.toNat) 1 1) 0 = true →
    s.winsSync (fieldAt (leBytes 12 hdr.toNat) 6 2) (fieldAt body 0 1) = true →
    Answers (.bridgeSync hdr body crc) s fun t => t.pRole = 1 ∧ t.rd PAR_STAT_term = s.rd PAR_STAT_term ∧ t.par.ckptEnd.isSome = true ∧
      t.par.ckptT = s.ts ∧ t.rd PAR_STAT_ledger = 0

/-- R370: a part of a checkpoint that is not its last is kept. -/
def bridgeCkptPart : Prop :=
  ∀ (hdr : BitVec 96) (body : List Byte) (crc : BitVec 32) (s : State), Valid s 0x03 hdr body crc → s.pRole = 2 → s.par.ckptOn = false →
    fieldAt body 0 2 ≠ 0 →
    Answers (.bridgeCkpt hdr body crc) s fun t => t.par.ckpt = body.drop 8 ∧ t.par.ckptOn = true ∧ t.acc = s.acc ∧ t.regs = s.regs

/-- R370: with its last part the mirrored objects are replaced whole: an account that the checkpoint does not hold is 0. -/
def bridgeCkptLast : Prop :=
  ∀ (hdr : BitVec 96) (body : List Byte) (crc : BitVec 32) (s : State), Valid s 0x03 hdr body crc → s.pRole = 2 → s.par.ckptOn = false →
    fieldAt body 0 2 = 0 → body.length = 8 → s.par.handing = none →
    Answers (.bridgeCkpt hdr body crc) s fun t => t.acc.tenants = [] ∧ t.acc.queues = [] ∧ t.acc.jobs = [] ∧ t.hif.trings = [] ∧
      t.slt.slates = [] ∧ t.par.ckpt = [] ∧ t.pRole = 2

/-- R367, R370: the SECONDARY applies a MIRROR record, here a tenant's cap, and acknowledges it. -/
def bridgeMirror : Prop :=
  ∀ (hdr : BitVec 96) (crc : BitVec 32) (t : Fin 512) (v : BitVec 32) (s : State),
    Valid s 0x04 hdr (mirrorRec 0x06 t (leBytes 4 v.toNat)) crc → s.pRole = 2 →
    Answers (.bridgeMirror hdr (mirrorRec 0x06 t (leBytes 4 v.toNat)) crc) s fun u => u.rd ACT_TCAP t = v.toNat ∧
      u.par.tx = (s.par.tx + 1) % 65536 ∧ u.par.unack.getLast?.map (fun m => (m.kind, m.body)) =
        some (0x05, pad8 (leBytes 2 (fieldAt (leBytes 12 hdr.toNat) 2 2)))

/-- R370: with a MACK the completions that waited for its record are written. -/
def bridgeMack : Prop :=
  ∀ (hdr : BitVec 96) (body : List Byte) (crc : BitVec 32) (s : State), Valid s 0x05 hdr body crc →
    Answers (.bridgeMack hdr body crc) s fun t => t.par.held = s.par.held.filter (fun h => !decide (h.mseq = fieldAt body 0 2)) ∧
      t.par.lane = s.par.lane.filter (fun l => !decide (l.mseq = fieldAt body 0 2))

/-- R235: DIEPWR gives the other die's power term. -/
def bridgeDiepwr : Prop :=
  ∀ (hdr : BitVec 96) (body : List Byte) (crc : BitVec 32) (s : State), Valid s 0x0D hdr body crc →
    Answers (.bridgeDiepwr hdr body crc) s fun t => t.par.otherP = fieldAt body 0 4 ∧ t.par.otherT = fieldAt body 8 8 ∧
      t.thm.other = f32Of (fieldAt body 0 4) (-3) ∧ t.regs = s.regs

/-- R274: PKG gives the SECONDARY its die budget. -/
def bridgePkg : Prop :=
  ∀ (hdr : BitVec 96) (body : List Byte) (crc : BitVec 32) (s : State), Valid s 0x0E hdr body crc → s.pRole = 2 →
    Answers (.bridgePkg hdr body crc) s fun t => t.rd PAR_DIEBUD_bud = fieldAt body 0 4 ∧
      ∀ k < 512, mget t.acc.portion k uncapped = fieldAt body (4 + 4 * k) 4

/-- R235: CPLATE gives it the cold plate's state. -/
def bridgeCplate : Prop :=
  ∀ (hdr : BitVec 96) (body : List Byte) (crc : BitVec 32) (s : State), Valid s 0x0F hdr body crc → s.pRole = 2 →
    Answers (.bridgeCplate hdr body crc) s fun t => t.thm.cp = (List.range 24).map (fun k => fieldAt body (8 + 4 * k) 4) ∧
      t.thm.cpT = s.ts ∧ t.rd THM_STAT_cp_remote = 1

/-- R367, R376: a LEDGER record waits at the PRIMARY for the next reconciliation. -/
def bridgeLedger : Prop :=
  ∀ (hdr : BitVec 96) (crc : BitVec 32) (i : Fin 4609) (v : BitVec 64) (s : State),
    Valid s 0x10 hdr (mirrorRec 0x0A i (leBytes 8 v.toNat)) crc → s.pRole = 1 →
    Answers (.bridgeLedger hdr (mirrorRec 0x0A i (leBytes 8 v.toNat)) crc) s fun t =>
      mget t.par.add i 0 = mget s.par.add i 0 + v.toNat ∧ t.par.ledgerDue = false ∧ t.acc.tenants = s.acc.tenants

/-- R377: a lane message that the SECONDARY passes on reaches the PRIMARY's FP3; one of an undefined type is counted there. -/
def bridgeSalg : Prop :=
  ∀ (hdr : BitVec 96) (body : List Byte) (crc : BitVec 32) (s : State), Valid s 0x11 hdr body crc → s.pRole = 1 → s.par.paired = true →
    s.clocked 21 = true → s.rd MGT_CTL_en = 1 → s.fwRunning 3 = true → s.rd MGT_STAT_state ≠ 0 →
    mget s.mgt.got (mSrc (body.take (20 + 8 * mLen body))) 0 < 16 → mVer (body.take (20 + 8 * mLen body)) / 16 = 1 →
    mType (body.take (20 + 8 * mLen body)) = 0 →
    Answers (.bridgeSalg hdr body crc) s fun t => t.rd MGT_VIOL_type = (s.rd MGT_VIOL_type + 1) % 2 ^ MGT_VIOL_type.width ∧
      mget t.mgt.got (mSrc (body.take (20 + 8 * mLen body))) 0 = mget s.mgt.got (mSrc (body.take (20 + 8 * mLen body))) 0 + 1

/-- R374: HANDOVER tells the SECONDARY that the roles come with the checkpoint behind it. -/
def bridgeHandover : Prop :=
  ∀ (hdr : BitVec 96) (body : List Byte) (crc : BitVec 32) (s : State), Valid s 0x14 hdr body crc → s.pRole = 2 →
    Answers (.bridgeHandover hdr body crc) s fun t => t.par.handing = some (fieldAt body 0 1) ∧ t.pRole = 2

/-- R369: a bridge clap is answered with the stamps of its arrival and of the answer. -/
def bridgePclapReq : Prop :=
  ∀ (hdr : BitVec 96) (body : List Byte) (crc : BitVec 32) (stamp : BitVec 64) (s : State), Valid s 0x12 hdr body crc →
    Answers (.bridgePclapReq hdr body crc stamp) s fun t => t.par.unack.getLast?.map (fun m => (m.kind, m.body)) =
      some (0x13, pad8 (leBytes 8 (fieldAt body 0 8) ++ leBytes 8 stamp.toNat ++ leBytes 8 s.ts)) ∧ t.regs = s.regs

/-- R343, R369: and its answer gives θ, in 1/256 unit. -/
def bridgePclapRsp : Prop :=
  ∀ (hdr : BitVec 96) (body : List Byte) (crc : BitVec 32) (stamp : BitVec 64) (s : State), Valid s 0x13 hdr body crc →
    s.par.t1 = some (fieldAt body 0 8) →
    Answers (.bridgePclapRsp hdr body crc stamp) s fun t => t.par.t1 = none ∧ t.rd PAR_OFS =
      ((((fieldAt body 8 8 : Int) - fieldAt body 0 8) - ((stamp.toNat : Int) - fieldAt body 16 8)) * 128 % 2 ^ 64).toNat

/-- R369: once a millisecond the bridge claps. -/
def bridgeClapSend : Prop :=
  ∀ (s : State), s.running = true → s.isD = true → s.par.up = true → s.par.clapT + msT ≤ s.ts →
    Answers .bridgeClapSend s fun t => t.par.t1 = some s.ts ∧ t.par.clapT = s.ts ∧ t.par.tx = (s.par.tx + 1) % 65536 ∧ t.regs = s.regs

/-- R368: a message unacknowledged for PAR_CFG.rtx is sent again and counted. -/
def bridgeRetransmit : Prop :=
  ∀ (m : BMsg) (s : State), s.running = true → s.isD = true → s.par.up = true → s.par.unack = [m] → m.out = true →
    m.sent + s.rd PAR_CFG_rtx * usT ≤ s.ts →
    Answers .bridgeRetransmit s fun t => t.par.unack = [{ m with sent := s.ts }] ∧
      t.out = s.out ++ [.bridge (s.bridgeBytes m.kind m.seq m.body)] ∧ t.rd PAR_CNT_rtx = (s.rd PAR_CNT_rtx + 1) % 2 ^ PAR_CNT_rtx.width

/-- R370: the PRIMARY sends a full checkpoint every PAR_CFG.ckpt × 10 ms. -/
def bridgeCheckpointTimer : Prop :=
  ∀ (s : State), s.running = true → s.isD = true → s.pState = 2 → s.pRole = 1 → s.par.ckptT + s.rd PAR_CFG_ckpt * 10 * msT ≤ s.ts →
    Answers .bridgeCheckpointTimer s fun t => t.par.ckptT = s.ts ∧ t.par.tx = (s.par.tx + s.ckptParts) % 65536 ∧ t.regs = s.regs

/-- R371: without a valid message for PAR_CFG.loss the pair is SPLIT; the PRIMARY is DEMOTED. -/
def bridgeLoss : Prop :=
  ∀ (s : State), s.running = true → s.isD = true → s.par.up = true → s.par.lost = false →
    s.par.lastRx + s.rd PAR_CFG_loss * usT ≤ s.ts → s.pState = 2 → s.pRole = 1 →
    Answers .bridgeLoss s fun t => t.pState = 3 ∧ t.pRole = 3 ∧ t.par.lost = true ∧ t.rd PAR_STAT_up = 0 ∧ t.par.splitT = s.ts ∧
      t.rd PAR_CNT_split = (s.rd PAR_CNT_split + 1) % 2 ^ PAR_CNT_split.width ∧ Recorded s t 22 1 [0, 1]

/-- R371, R375: a SECONDARY that is SPLIT for PAR_CFG.take takes the roles over in the next term. -/
def pairTakeover : Prop :=
  ∀ (s : State), s.running = true → s.isD = true → s.pState = 3 → s.pRole = 2 → s.par.lastRx + s.rd PAR_CFG_take * usT ≤ s.ts →
    Answers .pairTakeover s fun t => t.pRole = 1 ∧ t.rd PAR_STAT_term = (s.rd PAR_STAT_term + 1) % 2 ^ PAR_STAT_term.width ∧
      t.rd PAR_CNT_failover = (s.rd PAR_CNT_failover + 1) % 2 ^ PAR_CNT_failover.width ∧ t.par.hdrs = [] ∧ t.par.cpls = [] ∧
      Recorded s t 22 2 [(s.rd PAR_STAT_term + 1) % 2 ^ PAR_STAT_term.width, 4]

/-- R330: with READY the primary fixes the instant of an immediate pair take at PAR lead from now and sends COMMIT. -/
def bridgeReady : Prop :=
  ∀ (hdr : BitVec 96) (body : List Byte) (crc : BitVec 32) (j : TakeJob) (s : State), Valid s 0x07 hdr body crc → s.slt.jobs = [j] →
    j.phase = 2 → j.handle = fieldAt body 0 2 → j.body = 0 →
    Answers (.bridgeReady hdr body crc) s fun t =>
      t.slt.jobs = [{ j with phase := 3, t := some (s.ts + s.rd SLT_PAIR_lead * usT) }] ∧
      t.par.unack.getLast?.map (fun m => (m.kind, m.body)) =
        some (0x09, pad8 (leBytes 2 j.handle ++ leBytes 6 0 ++ leBytes 8 (s.ts + s.rd SLT_PAIR_lead * usT)))

/-- R330: with REFUSE the slate returns to OPEN and the refusal is recorded for the other die. -/
def bridgeRefuse : Prop :=
  ∀ (hdr : BitVec 96) (body : List Byte) (crc : BitVec 32) (j : TakeJob) (s : State), Valid s 0x08 hdr body crc → s.slt.jobs = [j] →
    j.phase = 2 → j.handle = fieldAt body 0 2 → j.slate < 8 →
    Answers (.bridgeRefuse hdr body crc) s fun t => t.slt.jobs = [] ∧ (t.slate j.slate).state = 1 ∧
      Recorded s t 6 2 [j.handle, fieldAt body 2 2, fieldAt body 4 4, 1 - s.rd GEN_CFG_die]

/-- R330: the secondary arms with COMMIT and acknowledges it. -/
def bridgeCommit : Prop :=
  ∀ (hdr : BitVec 96) (body : List Byte) (crc : BitVec 32) (j : TakeJob) (s : State), Valid s 0x09 hdr body crc → s.slt.jobs = [j] →
    j.phase = 7 → j.handle = fieldAt body 0 2 → s.ts < s.fromPrimary (fieldAt body 8 8) →
    Answers (.bridgeCommit hdr body crc) s fun t => t.slt.jobs = [{ j with phase := 8, t := some (s.fromPrimary (fieldAt body 8 8)) }] ∧
      t.par.unack.getLast?.map (fun m => (m.kind, m.body)) = some (0x0A, pad8 (leBytes 2 (fieldAt body 0 2)))

/-- R330: with ACK before its instant the primary will apply. -/
def bridgeAck : Prop :=
  ∀ (hdr : BitVec 96) (body : List Byte) (crc : BitVec 32) (j : TakeJob) (n : Nat) (s : State), Valid s 0x0A hdr body crc →
    s.slt.jobs = [j] → j.phase = 3 → j.handle = fieldAt body 0 2 → j.t = some n → s.ts < n →
    Answers (.bridgeAck hdr body crc) s fun t => t.slt.jobs = [{ j with phase := 4 }] ∧ t.rd SLT_STAT_armed = 1

/-- R330: with DONE of both sides a pair take ends: its slate is FREE. -/
def bridgeDone : Prop :=
  ∀ (hdr : BitVec 96) (body : List Byte) (crc : BitVec 32) (j : TakeJob) (s : State), Valid s 0x0B hdr body crc → s.slt.jobs = [j] →
    j.phase = 5 → j.handle = fieldAt body 0 2 → fieldAt body 4 4 ≠ noTake → j.desc = none → j.slate < 8 →
    Answers (.bridgeDone hdr body crc) s fun t => t.slt.jobs = [] ∧ t.slt.pairOut = none ∧ (t.slate j.slate).state = 0

/-- R330: with ABORT the secondary discards its armed take. -/
def bridgeAbort : Prop :=
  ∀ (hdr : BitVec 96) (body : List Byte) (crc : BitVec 32) (j : TakeJob) (s : State), Valid s 0x0C hdr body crc → s.slt.jobs = [j] →
    (j.phase = 7 ∨ j.phase = 8) → j.handle = fieldAt body 0 2 →
    Answers (.bridgeAbort hdr body crc) s fun t => t.slt.jobs = [] ∧ t.rd SLT_STAT_armed = 0

/-- R330: a part of PREPARE that is not the last is kept. -/
def bridgePrepare : Prop :=
  ∀ (hdr : BitVec 96) (body : List Byte) (crc : BitVec 32) (s : State), Valid s 0x06 hdr body crc → s.pRole = 2 → fieldAt body 2 2 = 0 →
    1 < fieldAt body 4 2 →
    Answers (.bridgePrepare hdr body crc) s fun t => t.slt.prep = [(0, body.drop 16)] ∧ t.slt.prepH = fieldAt body 0 2 ∧
      t.slt.jobs = s.slt.jobs

/-- R330: with its last part the secondary checks what the take would leave: it arms the take and answers READY, or answers REFUSE. -/
def bridgePrepareLast : Prop :=
  ∀ (hdr : BitVec 96) (body : List Byte) (crc : BitVec 32) (s : State), Valid s 0x06 hdr body crc → s.pRole = 2 → fieldAt body 2 2 = 0 →
    fieldAt body 4 2 = 1 → s.slt.jobs = [] →
    Answers (.bridgePrepare hdr body crc) s fun t =>
      (t.slt.jobs.map (fun j => (j.handle, j.phase, j.pair)) = [(fieldAt body 0 2, 7, true)] ∧
        t.par.unack.getLast?.map (fun m => (m.kind, m.body)) = some (0x07, pad8 (leBytes 2 (fieldAt body 0 2)))) ∨
      (t.slt.jobs = [] ∧ t.par.unack.getLast?.map (fun m => m.kind) = some 0x08)

/-! ### Start -/

/-- R390, R527: the rise of VDD_QF after a removal leaves the block as reset leaves it: no register written, no unit in any state, held
until its root PLL locks; the flash keeps its contents. -/
def supplyRise : Prop :=
  ∀ (s : State), (s.rst.supply = true ∨ s.rst.removed = true) →
    Answers .supplyRise s fun t => t = { pending := s.pending, fuse := s.fuse, flash := s.flash, out := s.out }

/-- R527, R537: a fall of VDD_QF holds the block in die reset: the registers of the blocks other than RST, MEM
and NVM read as at reset. -/
def vddQfFall : Prop :=
  ∀ (s : State), s.rst.supply = true → s.rd RST_CAUSE_crowbar = 0 → s.rd RST_CAUSE_shutdown = 0 →
    Answers .vddQfFall s fun t => t.running = false ∧ t.rst.supply = false ∧ t.pins.ready = false ∧ t.pins.trip = false ∧
      t.vrc = { } ∧ t.flash = s.flash ∧ ∀ f i, f.keyOf i / 0x20000 ∉ [2, 3, 17] → t.rd f i = f.resetVal s.fuse i

/-- R528: the removal of the supply clears both latches and releases every output. -/
def supplyRemoval : Prop :=
  ∀ (s : State), Answers .supplyRemoval s fun t => t.running = false ∧ t.rd RST_CAUSE_crowbar = 0 ∧ t.rd RST_CAUSE_shutdown = 0 ∧
    t.rst.supply = false ∧ t.rst.removed = true ∧ t.pins = { } ∧ t.vrc = { } ∧ t.flash = s.flash

/-- R391, R404: PORESET_N asserted is recorded as cause 1 with the timestamp it stopped, is counted, and holds the block in die reset. -/
def poresetAssert : Prop :=
  ∀ (s : State), s.running = true → s.rst.supply = true → s.rst.poreset = false → s.rd RST_CAUSE_crowbar = 0 →
    s.rd RST_CAUSE_shutdown = 0 →
    Answers .poresetAssert s fun t => t.running = false ∧ t.rd RST_CAUSE_cause = 1 ∧ t.rd RST_LAST_TS_ts = s.ts % 2 ^ RST_LAST_TS_ts.width ∧
      t.rd RST_COUNT_poreset = (s.rd RST_COUNT_poreset + 1) % 2 ^ RST_COUNT_poreset.width ∧
      t.rd RST_COUNT_refclk = s.rd RST_COUNT_refclk ∧ t.rd RST_SEQ_stage = 0 ∧ t.pins.ready = false ∧ t.rst.poreset = true ∧
      t.flash = s.flash ∧ t.recd.queue = []

/-- R154, R391: a latched CROWBAR stands through a die reset. -/
def poresetCrowbar : Prop :=
  ∀ (s : State), s.rst.supply = true → s.rst.poreset = false → s.rd RST_CAUSE_crowbar = 1 →
    Answers .poresetAssert s fun t => t.running = false ∧ t.rd RST_CAUSE_crowbar = 1 ∧ t.rd VRC_STAT_state = 5 ∧ t.vrc.enables = true ∧
      t.vrc.pwmMid = false

/-- R403: with REFCLK valid, PORESET_N negated starts the lock of the root PLL. -/
def poresetNegate : Prop :=
  ∀ (s : State), s.rst.supply = true → s.rst.poreset = true → s.rst.refOk = true →
    Answers .poresetNegate s fun t => t.rst.poreset = false ∧ t.rst.lockDue = true ∧ t.running = s.running ∧ t.regs = s.regs

/-- R391: the loss of REFCLK is cause 2. -/
def refclkLoss : Prop :=
  ∀ (s : State), s.running = true → s.rst.supply = true → s.rst.refOk = true → s.rd RST_CAUSE_crowbar = 0 → s.rd RST_CAUSE_shutdown = 0 →
    Answers .refclkLoss s fun t => t.running = false ∧ t.rst.refOk = false ∧ t.rd RST_CAUSE_cause = 2 ∧
      t.rd RST_COUNT_refclk = (s.rd RST_COUNT_refclk + 1) % 2 ^ RST_COUNT_refclk.width ∧ t.flash = s.flash

/-- R391: a root PLL that loses its lock is cause 3. -/
def pllLockLoss : Prop :=
  ∀ (s : State), s.running = true → s.rd RST_CAUSE_crowbar = 0 → s.rd RST_CAUSE_shutdown = 0 →
    Answers .pllLockLoss s fun t => t.running = false ∧ t.rd RST_CAUSE_cause = 3 ∧
      t.rd RST_COUNT_pll = (s.rd RST_COUNT_pll + 1) % 2 ^ RST_COUNT_pll.width ∧ t.rst.supply = s.rst.supply ∧ t.flash = s.flash

/-- R391: REFCLK valid again for 1 ms, start-up begins where PORESET_N is negated. -/
def dieResetRelease : Prop :=
  ∀ (s : State), s.running = false → s.rst.supply = true → s.rst.poreset = false →
    Answers .dieResetRelease s fun t => t.rst.refOk = true ∧ t.rst.lockDue = true ∧ t.regs = s.regs

/-- R383, R403, R427: with the lock HUB runs, the timestamp starts from 0 and every bank begins to clear. -/
def pllLock : Prop :=
  ∀ (s : State), s.running = false → s.rst.lockDue = true →
    Answers .pllLock s fun t => t.running = true ∧ t.ts = 0 ∧ t.rst.lockDue = false ∧ ∀ b < 18, t.clearing b = true

/-- R403: without a lock in time the block stays in die reset with cause 3. -/
def pllLockTimeout : Prop :=
  ∀ (s : State), s.running = false → s.rst.lockDue = true →
    Answers .pllLockTimeout s fun t => t.running = false ∧ t.rst.lockDue = false ∧ t.rd RST_CAUSE_cause = 3 ∧
      t.rd RST_COUNT_pll = s.rd RST_COUNT_pll

/-- R427: a bank whose clear ends reads zero. -/
def sramClearDone : Prop :=
  ∀ (bank : Fin 18) (sig : Bool) (rev dens : BitVec 8) (e f : Bool) (qe : BitVec 3) (s : State), s.running = true →
    s.clearing bank = true →
    Answers (.sramClearDone bank sig rev dens e f qe) s fun t => t.clearing bank = false ∧
      (∀ o < 2 ^ 20, memRead t.mem bankDefault (bankAddr bank o) = 0) ∧
      ∀ a, a / 2 ^ 20 ≠ bank.val → memRead t.mem bankDefault a = memRead s.mem bankDefault a

/-- R403, R463: the last clear leads to FW_LOAD, and a part that meets every requirement is found. -/
def discovery : Prop :=
  ∀ (bank : Fin 18) (rev dens : BitVec 8) (qe : BitVec 3) (s : State), s.running = true → s.rd MEM_STAT_clearing = 2 ^ bank.val →
    s.rd FW_STAT_state = 0 → s.rd RST_SEQ_stage = 0 → 0x15 ≤ rev.toNat → 23 ≤ dens.toNat → qe.toNat ≤ 5 →
    Answers (.sramClearDone bank true rev dens true true qe) s fun t => t.rd RST_SEQ_stage = 1 ∧ t.fw.loads = [3, 0, 1, 2] ∧
      t.rd NVM_STAT_found = 1 ∧ t.rd NVM_STAT_quad = 1 ∧ t.rd NVM_STAT_density = dens.toNat % 2 ^ NVM_STAT_density.width ∧
      (∀ n < 4, t.fwState n = 1) ∧ t.recd = s.recd

/-- R463: a part without the signature is not found, and the event says so. -/
def discoveryFailed : Prop :=
  ∀ (bank : Fin 18) (rev dens : BitVec 8) (e f : Bool) (qe : BitVec 3) (s : State), s.running = true →
    s.rd MEM_STAT_clearing = 2 ^ bank.val → s.rd FW_STAT_state = 0 → s.rd RST_SEQ_stage = 0 → s.rd NVM_STAT_found = 0 →
    Answers (.sramClearDone bank false rev dens e f qe) s fun t => t.rd RST_SEQ_stage = 1 ∧ t.rd NVM_STAT_found = 0 ∧
      Recorded s t 17 1 [0, 0]

/-- R438: 1 ms after a failure to load the SPI port goes to high impedance. -/
def spiPortRelease : Prop :=
  ∀ (s : State), s.running = true → s.rd RST_SEQ_stage = 8 → s.rd RST_SEQ_cause = 1 → s.rst.failT + msT ≤ s.ts →
    Answers .spiPortRelease s fun t => t.nvm.portHigh = true ∧ t.nvm.ops = [] ∧ t.rd NVM_STAT_busy = 0 ∧ t.flash = s.flash

/-- R407: FP0 makes the start-up take once, in stage CONFIG; where it has been made, or FP0 does not run, nothing happens. -/
def startupTakeNotDue : Prop :=
  ∀ (s : State), s.running = true → (s.rst.config = true ∨ s.startReady = false) → Answers .startupTake s fun t => t = s

/-- R402, R407: the start-up take made without a board record leads to stage WAIT_GO, or to LATCHED where a latch stands; slate 0 is
FREE. -/
def startupTake : Prop :=
  ∀ (s : State), s.running = true → s.rst.config = false → s.startReady = true → s.boardRecord.1 = 1 →
    Answers .startupTake s fun t => t.rst.config = true ∧ (t.slate 0).state = 0 ∧
      (t.rd RST_SEQ_stage = 3 ∨ t.rd RST_SEQ_stage = 9)

/-- R409: with the rail in regulation, the sequence ended good, slot 0 FIT and the start-up take applied, QUEFA_READY is asserted. -/
def quefaReadyAssert : Prop :=
  ∀ (s : State), s.running = true → s.rd RST_SEQ_stage = 4 → s.rd PMB_STAT_seq = 3 → s.rd VRC_STAT_state = 2 → s.rd FCS_SLOT_state 0 = 2 →
    s.rst.config = true →
    Answers .quefaReadyAssert s fun t => t.pins.ready = true ∧ t.rd RST_SEQ_stage = 5 ∧ t.rd RST_SEQ_cause = 0 ∧
      Recorded s t 2 2 [1, 0]

/-- R415: the drain time over, QUEFA_READY is negated and the rails are taken down. -/
def shutdownDrainDone : Prop :=
  ∀ (n : Nat) (s : State), s.running = true → s.rst.downT = some n → s.rd RST_SEQ_stage = 6 → s.rst.drained = false →
    n + s.rd RST_START_drain * usT ≤ s.ts →
    Answers .shutdownDrainDone s fun t => t.rst.drained = true ∧ t.pins.ready = false ∧ t.rst.downT = some n

/-- R415: the sequence ended, the stage is OFF and the event gives the time it took. -/
def powerDownEnd : Prop :=
  ∀ (n : Nat) (s : State), s.running = true → s.rst.downT = some n → s.rd RST_SEQ_stage = 6 → s.rst.drained = true →
    s.rd PMB_STAT_seq ≠ 4 →
    Answers .powerDownEnd s fun t => t.rd RST_SEQ_stage = 7 ∧ t.rst.downT = none ∧ t.rst.drained = false

/-! ### Access -/

/-- R313: a completion write that fails stops the ring; the failure is counted and recorded. -/
def fabricErrorStops : Prop :=
  ∀ (ring : Fin 513) (idx : BitVec 32) (s : State), s.running = true → (s.ring ring).st ≠ 0 →
    Answers (.fabricError 3 ring idx) s fun t => (t.ring ring).st = 4 ∧
      t.rd HIF_STAT_fabric = (s.rd HIF_STAT_fabric + 1) % 2 ^ HIF_STAT_fabric.width ∧ Recorded s t 5 5 [ring, 3, idx.toNat]

/-- R313: a data read of SLATE_WRITE that fails completes it with ST_FABRIC_READ. -/
def fabricErrorRead : Prop :=
  ∀ (ring : Fin 513) (idx : BitVec 32) (d : Desc) (s : State), s.running = true →
    InTurn s (fun d => decide (d.ring = ring.val) && decide (dOp d.w = 0x11) && !dInline d.w) d → Reports s d →
    Answers (.fabricError 1 ring idx) s fun t => Completed s t d 0x0008 [] ∧ Recorded s t 5 5 [d.ring, 1, d.idx]

/-- R491: a trace write that fails ends the capture. -/
def fabricErrorTrace : Prop :=
  ∀ (ring : Fin 513) (idx : BitVec 32) (s : State), s.running = true → s.tracing = true →
    Answers (.fabricError 5 ring idx) s fun t => t.rd TRC_STAT_state = 2 ∧ t.trc.staged = [] ∧
      Recorded s t 18 4 [s.rd TRC_WRITTEN_written % s.trcCap]

/-- R267: a write of TLY_OBJ_SEL shows the selected object's state. -/
def snapshotObject : Prop :=
  ∀ (v : BitVec 32) (s : State), s.running = true → s.unitAnswers (unitOf TLY_OBJ_SEL_obj.wordOff) = true →
    Answers (.snapshotSelect 2 v) s fun t => t.rd TLY_OBJ_SEL_obj = v.toNat % 2 ^ TLY_OBJ_SEL_obj.width ∧
      t.rd TLY_OBJ 3 = (mget s.tly.objs (v.toNat % 2 ^ TLY_OBJ_SEL_obj.width) { }).tState % 2 ^ 32 ∧ t.tly = s.tly

/-- R291: a write of ACT_ACC_SEL shows the selected account's settled value. -/
def snapshotAccount : Prop :=
  ∀ (v : BitVec 32) (s : State), s.running = true → s.unitAnswers (unitOf ACT_ACC_SEL_idx.wordOff) = true →
    v.toNat < 4608 → s.settled v.toNat < 2 ^ 64 →
    Answers (.snapshotSelect 3 v) s fun t => t.rd ACT_ACC_SEL_idx = v.toNat ∧
      t.rd ACT_ACC 0 + 2 ^ 32 * t.rd ACT_ACC 1 = s.settled v.toNat ∧ t.acc = s.acc

/-- R317: a write of HIF_TRING_SEL shows the tenant's ring entry in force. -/
def snapshotRing : Prop :=
  ∀ (v : BitVec 32) (s : State), s.running = true → s.unitAnswers (unitOf HIF_TRING_SEL_tenant.wordOff) = true → v.toNat < 512 →
    Answers (.snapshotSelect 0 v) s fun t => t.rd HIF_TRING_SEL_tenant = v.toNat ∧
      (∀ k < 16, t.rd HIF_TRING_SNAP k = bits (s.tring v.toNat) (32 * k) 32) ∧ t.hif = s.hif

/-- R11: a write of 1 to a sticky flag clears it; the other flags of the word keep their values. MEM_VIOL.valid is such a flag. -/
def w1cWrite : Prop :=
  ∀ (v : BitVec 32) (s : State), s.running = true → s.unitAnswers 3 = true → bit v.toNat (MEM_VIOL_valid.key % 32) = true →
    Answers (.w1cWrite true (BitVec.ofNat 22 (MEM_VIOL_valid.key / 32 * 4)) v 0) s fun t => t.rd MEM_VIOL_valid = 0 ∧
      (∀ k, bit v.toNat k = false → bit (t.rd MEM_VIOL_master) k = bit (s.rd MEM_VIOL_master) k)

/-- R11: a write of 0 leaves it, and so does a write in whose hub cycle an event sets it again. -/
def w1cKeeps : Prop :=
  ∀ (v again : BitVec 32) (s : State), s.running = true → s.rd MEM_VIOL_valid ≤ 1 →
    (bit v.toNat (MEM_VIOL_valid.key % 32) = false ∨ bit again.toNat (MEM_VIOL_valid.key % 32) = true) →
    Answers (.w1cWrite true (BitVec.ofNat 22 (MEM_VIOL_valid.key / 32 * 4)) v again) s fun t =>
      t.rd MEM_VIOL_valid = s.rd MEM_VIOL_valid

/-- R321: a direct write of a setting is ignored; it is counted and its offset shown. -/
def rwtDirectWrite : Prop :=
  ∀ (off : BitVec 22) (s : State), s.running = true → off.toNat % 4 = 0 → s.rwtHere off.toNat = true →
    Answers (.rwtDirectWrite true false off) s fun t => (∀ f i, f.keyOf i / 0x20000 ≠ 6 → t.rd f i = s.rd f i) ∧
      t.rd SLT_RWT_count = (s.rd SLT_RWT_count + 1) % 2 ^ SLT_RWT_count.width ∧
      t.rd SLT_RWT_offset = off.toNat % 2 ^ SLT_RWT_offset.width ∧ t.slt.rwtMs = s.slt.rwtMs + 1

/-- R535: an access that is not privileged changes nothing. -/
def unprivileged : Prop :=
  ∀ (wide : Bool) (off : BitVec 22) (v again : BitVec 32) (v64 : BitVec 64) (s : State), s.running = true →
    Answers (.rwtDirectWrite false wide off) s (fun t => t = s) ∧ Answers (.registerWrite false wide off v64) s (fun t => t = s) ∧
      Answers (.w1cWrite false off v again) s (fun t => t = s)

/-- R542: a write of GEN_SCRATCH stores its value. -/
def registerWrite : Prop :=
  ∀ (v : BitVec 64) (s : State), s.running = true → s.unitAnswers (unitOf GEN_SCRATCH_scratch.wordOff) = true →
    Answers (.registerWrite true false (BitVec.ofNat 22 GEN_SCRATCH_scratch.wordOff) v) s fun t =>
      t.rd GEN_SCRATCH_scratch = v.toNat % 2 ^ 32

/-- R535, R539: a read of a word that is no higher word of a wide register returns what the register holds. -/
def registerRead : Prop :=
  ∀ (m : BitVec 8) (off : BitVec 22) (s : State), s.running = true → off.toNat % 4 = 0 → wideReg off.toNat = none →
    s.unitAnswers (unitOf off.toNat) = true → mfind s.hub.latch (latchKey m.toNat off.toNat) = none →
    Answers (.registerLowWordRead false m true false off) s fun t => t.out = s.out ++ [.regData off.toNat (s.readWord off.toNat)] ∧
      t.hub = s.hub ∧ ∀ f i, t.rd f i = s.rd f i

/-- R539: a read of the lowest word of a wide register latches its higher words for the master. -/
def registerReadWide : Prop :=
  ∀ (m : BitVec 8) (off : BitVec 22) (s : State), s.running = true → off.toNat % 4 = 0 → wideReg off.toNat = some (off.toNat, 2) →
    s.unitAnswers (unitOf off.toNat) = true → mfind s.hub.latch (latchKey m.toNat off.toNat) = none →
    Answers (.registerLowWordRead false m true false off) s fun t => t.out = s.out ++ [.regData off.toNat (s.readWord off.toNat)] ∧
      mfind t.hub.latch (latchKey m.toNat (off.toNat + 4)) = some (s.readWord (off.toNat + 4))

/-- R393, R535: a unit that does not answer reads as zero. -/
def registerReadGated : Prop :=
  ∀ (m : BitVec 8) (off : BitVec 22) (s : State), s.running = true → off.toNat % 4 = 0 → s.unitAnswers (unitOf off.toNat) = false →
    Answers (.registerLowWordRead false m true false off) s fun t => t.out = s.out ++ [.regData off.toNat 0] ∧ t.hub = s.hub

/-- R292, R296: a 32-bit read in the doorbell aperture answers what the page's register shows, and changes nothing. -/
def doorbellRead : Prop :=
  ∀ (m : BitVec 8) (priv : Bool) (off : BitVec 22) (s : State), s.running = true →
    Answers (.registerLowWordRead true m priv false off) s fun t => t.out = s.out ++ [.dbData off.toNat (s.dbRead off.toNat)] ∧
      t.hif = s.hif ∧ t.regs = s.regs

/-- R292, R296: what the registers of a page show: the indices, the state with the tokens and what is in flight, and the violations; an
undefined offset, a DISABLED ring's page and an offset past the pages read zero. -/
def doorbellShows : Prop :=
  ∀ (r : Fin 513) (s : State), s.clocked 5 = true →
    ((s.ring r).st ≠ 0 → s.dbRead (4096 * r.val) = (s.ring r).prod ∧ s.dbRead (4096 * r.val + 0x004) = (s.ring r).cqHead ∧
      s.dbRead (4096 * r.val + 0x008) = (s.ring r).st + 2 ^ 8 * (s.ring r).bucket + 2 ^ 16 * satU 8 (s.ring r).inFlight ∧
      s.dbRead (4096 * r.val + 0x00C) = (s.ring r).fetch ∧ s.dbRead (4096 * r.val + 0x010) = (s.ring r).cqTail ∧
      s.dbRead (4096 * r.val + 0x014) = (s.ring r).viol + 2 ^ 16 * (s.ring r).ign ∧
      ∀ o < 4096, o ∉ [0x000, 0x004, 0x008, 0x00C, 0x010, 0x014] → s.dbRead (4096 * r.val + o) = 0) ∧
    ((s.ring r).st = 0 → ∀ o < 4096, s.dbRead (4096 * r.val + o) = 0) ∧ ∀ o, 4096 * 513 ≤ o → s.dbRead o = 0

/-! ### The whole block -/

/-- The fields that show the slates. -/
def slateFlds : List Fld :=
  [SLT_STAT_open, SLT_STAT_armed, SLT_STAT_pair, SLT_STAT_lines, SLT_SLATE_state, SLT_SLATE_thm, SLT_SLATE_gen, SLT_SLATE_lines]

/-- The fields that show the Salgor role. -/
def roleFlds : List Fld :=
  [MGT_STAT_role, MGT_STAT_bound, MGT_STAT_ready, MGT_STAT_term]

/-- The fields that show the classes of the power ceiling. -/
def classFlds : List Fld :=
  [LPE_CLASS_cur, LPE_CLASS_pwr, LPE_CLASS_thm, LPE_CLASS_slp, LPE_CLASS_ten, LPE_CLASS_row4]

/-- The fields that show the reservation and the requests of a pool. -/
def tallyFlds : List Fld :=
  [TLY_STAT_rsv, TLY_POOL_ST_rsv, TLY_POOL_ST_rq, TLY_POOL_ST_waiting]

/-- The fields that show the SMBus counts. -/
def smbFlds : List Fld :=
  [SMB_STAT_cmd, SMB_STAT_pec, SMB_STAT_timeout]

/-- The counts of late messages and of those without a route. -/
def lateFlds : List Fld :=
  [MGT_VIOL_late, MGT_VIOL_noroute]

/-- The counts of messages refused by version, type or repetition. -/
def versionFlds : List Fld :=
  [MGT_VIOL_ver, MGT_VIOL_type, MGT_VIOL_dup]

/-- The counts of messages refused by CRC, domain or ttl. -/
def frameFlds : List Fld :=
  [MGT_VIOL_crc, MGT_VIOL_domain, MGT_VIOL_ttl]

/-- The counts of dropped trace groups. -/
def traceDropFlds : List Fld :=
  [TRC_DROP_cmd, TRC_DROP_fcst, TRC_DROP_other]

/-- The rows that reset the supply or the die, or begin it anew (R390, R391, R404, R527, R528). -/
def resets : Instr → Bool
  | .supplyRise | .supplyRemoval | .vddQfFall | .poresetAssert | .refclkLoss | .pllLockLoss => true
  | _ => false

/-- The rows at which a take applies (R327, R407). -/
def takesNow : Instr → Bool
  | .takeApply _ | .startupTake => true
  | _ => false

/-- The rows that bring a secondary what its primary mirrors (R370). -/
def mirrorsNow : Instr → Bool
  | .bridgeMirror _ _ _ | .bridgeCkpt _ _ _ => true
  | _ => false

/-- The settings that a primary mirrors: the package cap and Salgor's (R2, R377; log entry 175). -/
def mirrored : List Fld := ACT_PKG_CAP_cap :: MGT_MEMB :: mgtFlds

/-- The register fields that only a take may write (R11). -/
def settings : List Fld := ((List.range 24).flatMap unitFlds).filter fun f => decide (f.acc = .rwt)

/-- The bytes of mem from a, n of them, do not hold b. -/
def Outside (a n b : Nat) : Prop := b < a ∨ a + n ≤ b

/-- Every byte of memory for which p holds reads in t as in s. -/
def MemAs (s t : State) (p : Nat → Prop) : Prop := ∀ a, p a → memRead t.mem bankDefault a = memRead s.mem bankDefault a

/-- Every byte of the flash for which p holds reads in t as in s. -/
def FlashAs (s t : State) (p : Nat → Prop) : Prop := ∀ a, p a → memRead t.flash flashDefault a = memRead s.flash flashDefault a

/-- R2: no command stops the block: every step answers a next state. -/
def alwaysAnswers : Prop := ∀ s : State, ∃ t, step s = .next t

/-- The commands that wait stay as they are while one runs. -/
def queueKept : Prop := ∀ (c : Instr) (s t : State), exec c s = .next t → t.pending = s.pending

/-- R541: no step changes a fused value. -/
def fusesKept : Prop := ∀ s t : State, step s = .next t → t.fuse = s.fuse

/-- R383: no take, restart or firmware action alters the timestamp: only a reset or the root PLL's lock does. -/
def timestampKept : Prop :=
  ∀ (c : Instr) (s t : State), exec c s = .next t → resets c = false → c ≠ .pllLock → t.ts = s.ts ∧ t.running = s.running

/-- R383, log entry 1: with nothing waiting a step is one hub cycle: the timestamp goes up by one while HUB runs, what R87, R236, R264,
R361 and R423 judge over a whole cycle is judged, and nothing else happens; in die reset nothing does. -/
def idleCounts : Prop :=
  ∀ s t : State, s.pending = [] → step s = .next t →
    t.ts = s.ts + b2n s.running ∧ (s.running = false → t = s) ∧ Keeps
      (roleFlds ++ lateFlds ++ [CLK_DVFS_STAT_target, CLK_DVFS_STAT_stage, CLK_DVFS_STAT_parked, RST_CAUSE_shutdown, MEM_ECC_single,
      MEM_ECC_double, CHK_FB_STAT_state, CHK_FB_STAT_armed, CHK_DVFS_STAT_cancel, CHK_DVFS_STAT_deferred, VRC_PH_STAT_ton,
      THM_STAT_state, THM_STAT_shut, THM_STEP_STAT_pend, TLY_RCL_nprog, TLY_RCL_rsv, TLY_POOL_ST_clamped, EVT_DROP_dropped,
      MGT_STAT_state, PAR_STAT_role]) [] [.ts, .mem, .out, .recd, .cntPend, .tly, .ramp, .sns, .fcs, .lpe, .dvfs, .pins, .vrc, .pmb,
      .acc, .thm, .hif, .slt, .par, .hub, .mgt] s t

/-- R11, R321, R327: a setting changes at a take, at a reset, the domain's scheduled budget at the epoch from which it applies (R355),
and at a secondary what its primary mirrors (R2, R377); nothing else writes it, nor does a hub cycle. -/
def settingsByTake : Prop :=
  (∀ (c : Instr) (s t : State), exec c s = .next t → resets c = false → takesNow c = false →
    ∀ f ∈ settings, (c = .epochBoundary → f.key ≠ MGT_DOM_BUD_bud.key ∧ f.key ≠ MGT_DOM_AT.key) →
      (mirrorsNow c = true → ∀ g ∈ mirrored, f.key ≠ g.key) → ∀ i, t.rd f i = s.rd f i) ∧
  ∀ s t : State, s.pending = [] → step s = .next t → ∀ f ∈ settings, ∀ i, t.rd f i = s.rd f i

/-- R154, R234, R390: CROWBAR and SHUTDOWN, once latched, stay until the supply is removed. -/
def latchesHold : Prop :=
  (∀ (c : Instr) (s t : State), exec c s = .next t → c ≠ .supplyRemoval → c ≠ .supplyRise →
    (s.rd RST_CAUSE_crowbar = 1 → t.rd RST_CAUSE_crowbar = 1) ∧ (s.rd RST_CAUSE_shutdown = 1 → t.rd RST_CAUSE_shutdown = 1)) ∧
  ∀ s t : State, s.pending = [] → step s = .next t →
    (s.rd RST_CAUSE_crowbar = 1 → t.rd RST_CAUSE_crowbar = 1) ∧ (s.rd RST_CAUSE_shutdown = 1 → t.rd RST_CAUSE_shutdown = 1)

/-- R430: a repaired region stays repaired, through a die reset too. -/
def repairsHold : Prop :=
  ∀ (i : Fin 144) (c : Instr) (s t : State), exec c s = .next t → c ≠ .supplyRemoval → c ≠ .supplyRise → c ≠ .vddQfFall →
    s.rd MEM_RMAP_valid i = 1 → t.rd MEM_RMAP_valid i = 1 ∧ t.rd MEM_RMAP_region i = s.rd MEM_RMAP_region i

/-- R390, R391: in die reset nothing but the reset, clock and supply rows changes anything; the SMBus target does not acknowledge. -/
def quietInReset : Prop :=
  ∀ (c : Instr) (s t : State), exec c s = .next t → s.running = false → resets c = false →
    c ∉ [.pllLock, .pllLockTimeout, .poresetNegate, .dieResetRelease] → t = s ∨ t = { s with out := s.out ++ [.smbusNack] }

/-- R519 to R522: what happens to one fan leaves the others. -/
def fansApart : Prop :=
  ∀ (n k : Fin 4) (c : Instr) (s t : State), k ≠ n →
    c ∈ [.fanPwmPeriod n, .tachEdge n, .tachTimeout n, .fanSpinupEnd n, .fanRestEnd n] → exec c s = .next t →
    t.fan k = s.fan k ∧ ∀ f ∈ [FAN_STAT_state, FAN_STAT_tries, FAN_STAT_duty, FAN_STAT_rpm, FAN_DEF_deficit], t.rd f k = s.rd f k

/-- R3, R4: what a ring's doorbell page and its descriptors' fetches bring leaves every other ring. -/
def ringsApart : Prop :=
  ∀ (r k : Fin 513) (off : BitVec 22) (o : Nat) (v : BitVec 32) (w ok : Bool) (n : Fin 4) (b : BitVec 512) (c : Instr) (s t : State),
    k ≠ r → AtPage off r o →
    c ∈ [.doorbellProdWrite off v, .doorbellCqHeadWrite off v, .doorbellBadAccess off w n v, .descriptorFetched r ok b] →
    exec c s = .next t → t.ring k = s.ring k ∧
      bits (t.rd HIF_RSTATE (k / 8)) (4 * (k % 8)) 4 = bits (s.rd HIF_RSTATE (k / 8)) (4 * (k % 8)) 4

/-- R17, R20, R243: the dispatch tap of one engine leaves the others' commands and tally ports, and the other cores' forecasts. -/
def tapsApart : Prop :=
  ∀ (core j : Fin 64) (engine : Fin 4) (k : Nat) (rec : BitVec 128) (seq : BitVec 8) (a b : Bool) (c : Instr) (s t : State),
    k ≠ chokerOf core engine → j ≠ core → c ∈ [.dispatch core engine rec a, .beginStrobe core engine seq, .endStrobe core engine seq,
      .squashStrobe core engine seq, .tallyRequest core engine seq a b] → exec c s = .next t →
    t.lane k = s.lane k ∧ t.fc j = s.fc j

/-- R69, R71: a window of one choker sets no other choker's allowance. -/
def chokersApart : Prop :=
  ∀ (c k : Fin 320) (slots : List (BitVec 8 × Fin 65)) (unk : Fin 65) (bytes : BitVec 32) (s t : State), k ≠ c →
    exec (.chokerWindow c slots unk bytes) s = .next t →
    t.chk k = s.chk k ∧ t.rd CHK_ALLOW_now k = s.rd CHK_ALLOW_now k ∧ t.rd CHK_ALLOW_in_droop k = s.rd CHK_ALLOW_in_droop k

/-- R37, R79, R81: a droop at one core acts on that core's chokers alone. -/
def droopsApart : Prop :=
  ∀ (core n j : Fin 64) (k : Fin 320) (drops : List (Fin 32 × BitVec 12)) (s t : State), j ≠ core → k.val / 4 ≠ core →
    exec (.droopDetect core n drops) s = .next t →
    t.droop j = s.droop j ∧ t.rd CHK_ALLOW_now k = s.rd CHK_ALLOW_now k ∧ t.chk k = s.chk k

/-- R44, R47, R49, R50: a lane's frame and a phase's timeouts leave the phases of the other lanes and the other phases. -/
def phasesApart : Prop :=
  ∀ (p k : Fin 144) (lane : Fin 18) (frame : BitVec 1000) (ov : Bool) (c : Instr) (s t : State), k ≠ p → k.val / 8 ≠ lane →
    c ∈ [.phaseStale p, .phaseFrozen p, .phaseTempStale p, .tlmFrame lane frame ov, .tlmLaneDark lane] → exec c s = .next t →
    t.ph k = s.ph k ∧ t.rd SNS_PHQ_quality k = s.rd SNS_PHQ_quality k ∧ t.rd SNS_PHQ_current k = s.rd SNS_PHQ_current k

/-- R186, R188, R198: an evaluation or a skip acts on the context released, and on no other. -/
def contextsApart : Prop :=
  ∀ (r : Rel) (n : Nat) (late : Bool) (c : Instr) (s t : State), s.relHead = some r → n ≠ r.ctx →
    c ∈ [.loopEvaluation late, .loopSkip] → exec c s = .next t → t.ctx n = s.ctx n

/-- R440, R442: the restart of one firmware processor leaves the others' states, counts and memories. -/
def processorsApart : Prop :=
  ∀ (n k : Fin 4) (ecc : Bool) (c : Instr) (s t : State), k ≠ n → c ∈ [.fwException n ecc, .watchdogExpire n] → exec c s = .next t →
    t.fwState k = s.fwState k ∧ t.rd FW_RCNT_count k = s.rd FW_RCNT_count k ∧ MemAs s t fun a => a / 2 ^ 20 ≠ 14 + n.val

/-- R318, R319: a SLATE_WRITE touches no slate but the one its handle names. -/
def slatesApart : Prop :=
  ∀ (data : List Byte) (d : Desc) (k : Nat) (s t : State), InTurn s (fun d => decide (dOp d.w = 0x11)) d → k ≠ dB d.w 8 2 % 8 →
    exec (.slateWrite data) s = .next t → t.slate k = s.slate k

/-- R421, R422, R423: presenting an access changes no byte; the cycle that serves it changes, for a write, its line, and otherwise
none. -/
def accessBytes : Prop :=
  (∀ (m : Fin 12) (bank : Fin 18) (line : BitVec 14) (w : Bool) (data : BitVec 512) (ecc : List (Fin 8 × Bool)) (s t : State),
    exec (.firmwareMemoryAccess m bank line w data ecc) s = .next t → t.mem = s.mem) ∧
  ∀ s t : State, s.pending = [] → step s = .next t →
    MemAs s t fun b => ∀ a ∈ s.hub.accs, a.write = true → Outside (bankAddr a.bank a.off) 64 b

/-- R428: the background test changes no word but those it finds with a double error, in the region under test. -/
def testBytes : Prop :=
  ∀ (fails : Bool) (ecc : List (Fin 32 × Bool)) (s t : State), exec (.backgroundTest fails ecc) s = .next t →
    MemAs s t fun b => ∀ bank region q, s.btPick = some ((bank, region), q) → ∀ e ∈ ecc, e.2 = true →
      Outside (bankAddr bank (256 * region + 8 * e.1.val)) 8 b

/-- R454: an accepted record changes its slot and its slot's sequence word. -/
def recordBytes : Prop :=
  ∀ s t : State, exec .eventRecordAccept s = .next t → MemAs s t fun b =>
    Outside (bankAddr evsBank (32 * (s.rd EVT_NEXT_next % 4096))) 32 b ∧
      Outside (bankAddr evsBank (0x20000 + 4 * (s.rd EVT_NEXT_next % 4096))) 4 b

/-- R454, R458: a heartwood record, and the placeholder of one that failed, changes its position in the cache. -/
def cacheBytes : Prop :=
  (∀ s t : State, exec .heartwoodProgram s = .next t → MemAs s t (Outside (bankAddr evsBank (0x24000 + 32 * s.nvm.hwPos)) 32)) ∧
  (∀ (st : BitVec 8) (s t : State), exec (.flashOpTimeout st) s = .next t →
    MemAs s t fun b => ∀ o ∈ s.nvm.ops.head?, Outside (bankAddr evsBank (0x24000 + 32 * o.arg)) 32 b) ∧
  ∀ s t : State, exec .fp3StartupRestore s = .next t → MemAs s t fun b => b / 2 ^ 20 ≠ evsBank

/-- R427, R440, R393: a clear and an image change their bank; a take, the banks of a unit or a processor that it stops. -/
def bankBytes : Prop :=
  (∀ (bank : Fin 18) (sig : Bool) (rev dens : BitVec 8) (e f : Bool) (qe : BitVec 3) (s t : State),
    exec (.sramClearDone bank sig rev dens e f qe) s = .next t → MemAs s t fun b => b / 2 ^ 20 ≠ bank.val) ∧
  (∀ (n : Fin 4) (ok : Bool) (s t : State), exec (.fwImageLoaded n ok) s = .next t → MemAs s t fun b => b / 2 ^ 20 ≠ 14 + n.val) ∧
  (∀ (p : Bool) (s t : State), exec (.takeApply p) s = .next t → MemAs s t fun b => 8 ≤ b / 2 ^ 20 ∧ b / 2 ^ 20 < 14) ∧
  ∀ s t : State, exec .startupTake s = .next t → MemAs s t fun b => 8 ≤ b / 2 ^ 20 ∧ b / 2 ^ 20 < 14

/-- R463, R471: a completed flash operation changes the sector of the operation at the head, and no other byte of the flash. -/
def flashBytes : Prop :=
  ∀ s t : State, exec .flashOpDone s = .next t → FlashAs s t fun b => ∀ o ∈ s.nvm.ops.head?, b / 4096 ≠ o.addr / 4096

/-- R272: the caps of the active tenants never sum to more than avail, and no cap exceeds the tenant's own. -/
def capsWithin : Prop :=
  ∀ (avail : Nat) (set w : Nat → Nat) (active : List Nat), active.Nodup → (∀ t ∈ active, t < 512 ∧ 0 < w t) →
    sumN (active.map fun t => mget (divide avail set w active) t 0) ≤ avail ∧
      ∀ t ∈ active, set t ≠ uncapped → mget (divide avail set w active) t 0 ≤ set t

/-- R353: the grants sum to at most the budget whenever the members' floors of decay do, and every member has at least its own. -/
def grantsWithin : Prop :=
  ∀ (b : Nat) (xs : List Share), (xs.map (·.id)).Nodup →
    (∀ x ∈ xs, x.lo ≤ x.base ∧ x.base ≤ x.cap ∧ (x.base < x.cap → 0 < x.weight)) →
    sumN (xs.map fun x => mget (allocate b xs) x.id 0) ≤ max b (sumN (xs.map (·.lo))) ∧
      ∀ x ∈ xs, x.lo ≤ mget (allocate b xs) x.id 0 ∧ mget (allocate b xs) x.id 0 ≤ x.cap

/-- R351: the decay of a member. -/
def decayFalls : Prop :=
  ∀ safe rate x : Nat, decay safe rate x = max (min safe x) (x * (256 - rate) / 256) ∧ decay safe rate x ≤ x ∧
    min safe x ≤ decay safe rate x ∧ (0 < rate → safe < x → decay safe rate x < x) ∧ ∀ y, x ≤ y → decay safe rate x ≤ decay safe rate y

/-- R12: b is later than a where the difference d is 1 to 2^(n-1) - 1, equal where it is 0, earlier where it is 2^(n-1) or more. -/
def serialOrder : Prop :=
  ∀ n a b : Nat, 0 < n → a < 2 ^ n → b < 2 ^ n →
    (laterSer b a n = true ↔ 1 ≤ (b + 2 ^ n - a) % 2 ^ n ∧ (b + 2 ^ n - a) % 2 ^ n ≤ 2 ^ (n - 1) - 1) ∧
    ((b + 2 ^ n - a) % 2 ^ n = 0 ↔ b = a) ∧ (laterSer b a n = false ↔ b = a ∨ 2 ^ (n - 1) ≤ (b + 2 ^ n - a) % 2 ^ n) ∧
    laterSer 0x10 0xF0 8 = true ∧ laterSer 0x70 0xF0 8 = false

/-- R186: releases are issued by earliest deadline, then smallest k, then lowest context; none at or after its deadline. -/
def releaseOrder : Prop :=
  (∀ (r x : Rel) (s : State), s.relHead = some r → x ∈ s.lpe.queue → r ∈ s.lpe.queue ∧
    (r.dead < x.dead ∨ (r.dead = x.dead ∧ (r.k < x.k ∨ (r.k = x.k ∧ r.ctx ≤ x.ctx))))) ∧
  ∀ (late : Bool) (r : Rel) (s t : State), s.relHead = some r → r.dead ≤ s.ts → exec (.loopEvaluation late) s = .next t → t = s

/-- R329: the take number is 0 after reset, goes up by one modulo 2^32 at a take, and SLT_TAKE_WRAP at its wrap; nothing but a take or a
reset changes either. -/
def takeNumbers : Prop :=
  State.reset.rd SLT_TAKE_take = 0 ∧
  (∀ s : State, s.nextTake.rd SLT_TAKE_take = (s.rd SLT_TAKE_take + 1) % 2 ^ 32 ∧ s.nextTake.rd SLT_TAKE_WRAP_wraps =
    (if (s.rd SLT_TAKE_take + 1) % 2 ^ 32 = 0 then (s.rd SLT_TAKE_WRAP_wraps + 1) % 2 ^ 32 else s.rd SLT_TAKE_WRAP_wraps)) ∧
  (∀ (c : Instr) (s t : State), exec c s = .next t → resets c = false → takesNow c = false →
    t.rd SLT_TAKE_take = s.rd SLT_TAKE_take ∧ t.rd SLT_TAKE_WRAP_wraps = s.rd SLT_TAKE_WRAP_wraps) ∧
  laterSer 0 0xFFFFFFFE 32 = true

/-- A step runs the command at the front of the queue with the queue's rest. -/
def stepRunsFront : Prop :=
  ∀ (c : Instr) (q : List Instr) (s : State), step { s with pending := c :: q } = exec c { s with pending := q }

/-- R390, R541: the state right after reset. -/
def resetState : Prop :=
  State.reset.pending = [] ∧ State.reset.running = false ∧ State.reset.ts = 0 ∧ State.reset.fuse = [] ∧ State.reset.mem = [] ∧
    State.reset.flash = [] ∧ State.reset.memoriesOk = true ∧
    (∀ (f : Fld) (i : Nat), State.reset.rd f i = f.rst false i % 2 ^ f.width ∨ f.fused = true) ∧
    State.reset.rd GEN_VER_gen = 1 ∧ State.reset.rd GEN_VER_ring = 0x12 ∧ State.reset.rd GEN_VER_slate = 0x11 ∧
    State.reset.rd GEN_VER_salgor = 0x10 ∧ State.reset.rd GEN_CAP_cores = 64 ∧ State.reset.rd GEN_CAP_lanes = 18 ∧
    State.reset.rd SNS_CTL_lane_en = 0x3FFFF ∧ (∀ p : Nat, State.reset.rd SNS_PHT p = 0x8000 ∧ State.reset.rd SNS_PHQ_quality p = 6) ∧
    State.reset.rd ACT_VREF = 0x0D48 ∧ State.reset.rd RST_SEQ_stage = 0 ∧ State.reset.rd SLT_TAKE_take = 0

/-- Every step keeps the canonical form of both memories. -/
def memoriesKept : Prop := ∀ s t : State, s.memoriesOk = true → step s = .next t → t.memoriesOk = true

/-- R451, R454: records wait in order until each is accepted: no other command but a reset takes one out of the queue, nor does a hub
cycle. -/
def recordsWait : Prop :=
  (∀ (c : Instr) (s t : State), exec c s = .next t → resets c = false → c ≠ .eventRecordAccept → s.recd.queue <+: t.recd.queue) ∧
  ∀ s t : State, s.pending = [] → step s = .next t → s.recd.queue <+: t.recd.queue

/-! ### What each command leaves -/

/-- Where the command answers a next state, it keeps all but the fields fs, the register blocks us and the components ps. -/
def Leaves (c : Instr) (fs : List Fld) (us : List Nat) (ps : List Part) : Prop := ∀ s t : State, exec c s = .next t → Keeps fs us ps s t

/-- What sensing, choker, tap and tally commands leave unchanged. -/
def frameSensing : Prop :=
  (∀ x0, Leaves (.phaseFrozen x0) [SNS_PHQ_current, SNS_PHQ_quality, EVT_DROP_dropped] [] [.recd, .sns]) ∧
  (∀ x0, Leaves (.phaseStale x0) [SNS_PHQ_current, SNS_PHQ_quality, EVT_DROP_dropped] [] [.recd, .sns]) ∧
  (∀ x0, Leaves (.phaseTempStale x0) [SNS_PHT, THM_STAT_stage_hot, EVT_DROP_dropped] [] [.recd]) ∧
  (∀ x0 x1 x2, Leaves (.tlmFrame x0 x1 x2) (traceDropFlds ++ [CLK_XOVR_ovr, SNS_TLM_STAT_state, SNS_TLM_STAT_degraded,
    SNS_TLM_STAT_crc_err, SNS_TLM_STAT_lane_err, SNS_TLM_STAT_lost, SNS_TLM_CNT_ver_err, SNS_TLM_CNT_rsv_err, SNS_PHQ_current,
    SNS_PHQ_quality, SNS_PHQ_status, SNS_PHT, VRC_PH_STAT_lim_hits, THM_STAT_stage_hot, EVT_DROP_dropped]) [] [.recd, .cntPend,
    .sns, .trc, .vrc, .xovrMs]) ∧
  (∀ x0, Leaves (.tlmLaneDark x0) (traceDropFlds ++ [SNS_TLM_STAT_state, SNS_PHQ_current, SNS_PHQ_quality, EVT_DROP_dropped]) []
    [.recd, .sns, .trc]) ∧
  (∀ x0, Leaves (.recallEligible x0) [] [] [.tly]) ∧
  (Leaves .recallNoProgress (classFlds ++ tallyFlds ++ [TLY_POOL_ST_used, TLY_TEN_ST_committed]) [] [.tly]) ∧
  (∀ x0, Leaves (.requestAged x0) [] [] [.tly]) ∧
  (∀ x0, Leaves (.reservationMet x0) (classFlds ++ tallyFlds ++ [TLY_POOL_ST_used, EVT_DROP_dropped]) [] [.recd, .cntPend, .tly]) ∧
  (∀ x0, Leaves (.reservationRecall x0) (classFlds ++ tallyFlds ++ [TLY_POOL_ST_used, TLY_TEN_ST_committed]) [] [.tly]) ∧
  (∀ x0, Leaves (.reservationTake x0) tallyFlds [] [.tly]) ∧
  (∀ x0, Leaves (.stepPresent x0) [CHK_STEP_held, CHK_STEP_credits, CHK_STEP_seq, TLY_STAT_free, TLY_VIOL_bad_req,
    TLY_POOL_ST_clamped, TLY_TEN_ST_objects, EVT_DROP_dropped] [] [.out, .recd, .lanes, .tly]) ∧
  (∀ x0, Leaves (.tallyAdmit x0) (tallyFlds ++ [TLY_TEN_ST_committed]) [] [.tly]) ∧
  (∀ x0 x1 x2, Leaves (.tallyAutoRelease x0 x1 x2) (classFlds ++ tallyFlds ++ [TLY_STAT_free, TLY_VIOL_late_rel, TLY_POOL_ST_used,
    TLY_TEN_ST_committed, TLY_TEN_ST_objects, EVT_DROP_dropped]) [] [.recd, .cntPend, .tly]) ∧
  (∀ x0, Leaves (.tallyGrant x0) (classFlds ++ tallyFlds ++ [TLY_POOL_ST_used]) [] [.cntPend, .tly]) ∧
  (∀ x0, Leaves (.tallyRegrant x0) (classFlds ++ tallyFlds ++ [TLY_POOL_ST_used]) [] [.cntPend, .tly]) ∧
  (∀ x0 x1 x2 x3, Leaves (.tallyRelease x0 x1 x2 x3) (classFlds ++ tallyFlds ++ [TLY_STAT_free, TLY_VIOL_rel_err,
    TLY_POOL_ST_used, TLY_TEN_ST_committed, TLY_TEN_ST_objects, EVT_DROP_dropped]) [] [.out, .recd, .cntPend, .tly]) ∧
  (∀ x0 x1 x2 x3 x4, Leaves (.tallyRequest x0 x1 x2 x3 x4) [CLK_XERR_err, CHK_STEP_held, CHK_STEP_seq, TLY_VIOL_bad_req,
    EVT_DROP_dropped] [] [.out, .recd, .lanes]) ∧
  (∀ x0, Leaves (.tallyRequestPresent x0) [CHK_STEP_held, CHK_STEP_seq, TLY_STAT_free, TLY_VIOL_bad_req, TLY_POOL_ST_clamped,
    TLY_TEN_ST_objects, EVT_DROP_dropped] [] [.out, .recd, .lanes, .tly]) ∧
  (∀ x0 x1 x2 x3, Leaves (.chokerWindow x0 x1 x2 x3) [CHK_ALLOW_now, CHK_ALLOW_in_droop] [] [.cntPend, .lanes, .chks, .droops,
    .tly, .sns]) ∧
  (∀ x0 x1 x2, Leaves (.droopDetect x0 x1 x2) [CLK_DVFS_STAT_stage, CLK_DVFS_STAT_parked, CHK_DVFS_STAT_cancel,
    CHK_DVFS_STAT_deferred, CHK_ALLOW_now, CHK_ALLOW_in_droop, EVT_DROP_dropped] [] [.recd, .cntPend, .chks, .droops, .dvfs]) ∧
  (∀ x0, Leaves (.droopHoldExpire x0) [] [] [.droops, .dvfs]) ∧
  (Leaves .firebreakHoldoffExpire [CLK_DVFS_STAT_target, CLK_DVFS_STAT_stage, CLK_DVFS_STAT_parked, CHK_FB_STAT_state,
    CHK_FB_STAT_armed, CHK_DVFS_STAT_cancel, CHK_DVFS_STAT_deferred, EVT_DROP_dropped] [] [.recd, .dvfs]) ∧
  (Leaves .rampTick [CHK_RAMP_STAT_up_wait, CHK_RAMP_STAT_dn_wait] [] [.cntPend, .chks, .ramp]) ∧
  (∀ x0 x1 x2, Leaves (.snsDrpForceWrite x0 x1 x2) [CLK_DVFS_STAT_stage, CLK_DVFS_STAT_parked, SNS_DRP_FORCE,
    CHK_DVFS_STAT_cancel, CHK_DVFS_STAT_deferred, CHK_ALLOW_now, CHK_ALLOW_in_droop, EVT_DROP_dropped] [] [.recd, .cntPend, .chks,
    .droops, .dvfs]) ∧
  (Leaves .vrAlertAssert [CLK_DVFS_STAT_target, CLK_DVFS_STAT_stage, CLK_DVFS_STAT_parked, CHK_FB_STAT_state, CHK_FB_STAT_armed,
    CHK_FB_STAT_wire, CHK_FB_STAT_count, CHK_DVFS_STAT_cancel, CHK_DVFS_STAT_deferred, EVT_DROP_dropped] [] [.recd, .ramp, .sns,
    .dvfs]) ∧
  (Leaves .vrAlertNegate [CHK_FB_STAT_state, CHK_FB_STAT_wire, EVT_DROP_dropped] [] [.recd, .ramp]) ∧
  (∀ x0 x1 x2, Leaves (.beginStrobe x0 x1 x2) (traceDropFlds ++ [FCS_DISCARD_wrong, FCS_NFC_count, TLY_VIOL_nogrant,
    EVT_DROP_dropped]) [] [.recd, .cntPend, .lanes, .fcs, .trc]) ∧
  (∀ x0 x1 x2 x3, Leaves (.dispatch x0 x1 x2 x3) [CLK_XERR_err, EVT_DROP_dropped] [] [.recd, .cntPend, .lanes, .fcs]) ∧
  (∀ x0 x1 x2, Leaves (.endStrobe x0 x1 x2) (traceDropFlds ++ [FCS_DISCARD_wrong, FCS_NFC_count, EVT_DROP_dropped]) [] [.recd,
    .cntPend, .lanes, .tly, .fcs, .trc]) ∧
  (∀ x0 x1 x2, Leaves (.squashStrobe x0 x1 x2) (classFlds ++ tallyFlds ++ traceDropFlds ++ [CHK_STEP_held, CHK_STEP_seq,
    FCS_DISCARD_wrong, FCS_NFC_count, TLY_STAT_free, TLY_VIOL_bad_req, TLY_POOL_ST_used, TLY_TEN_ST_committed, TLY_TEN_ST_objects,
    EVT_DROP_dropped]) [] [.out, .recd, .cntPend, .lanes, .tly, .fcs, .trc])

/-- What the commands of the core rail and the auxiliary rails leave unchanged. -/
def frameRails : Prop :=
  (Leaves .coreStartDelay [RST_SEQ_stage, RST_SEQ_cause, CHK_ALLOW_now, CHK_ALLOW_in_droop, VRC_STAT_state, VRC_STAT_de,
    VRC_STAT_fault, VRC_VREF_vref, VRC_LASTF, PMB_STAT_seq, PMB_RAIL_STAT_state, EVT_DROP_dropped, NVM_STAT_busy,
    NVM_MIRROR_deferred, PAR_STAT_role] [] [.out, .recd, .chks, .pins, .vrc, .pmb, .acc, .hif, .par, .nvm]) ∧
  (Leaves .deEnter [VRC_STAT_de] [] [.vrc]) ∧
  (Leaves .enableDrop [RST_SEQ_stage, RST_SEQ_cause, CHK_ALLOW_now, CHK_ALLOW_in_droop, VRC_STAT_state, VRC_STAT_de,
    VRC_STAT_fault, VRC_VREF_vref, VRC_LASTF, PMB_STAT_seq, PMB_RAIL_STAT_state, EVT_DROP_dropped, NVM_STAT_busy,
    NVM_MIRROR_deferred, PAR_STAT_role] [] [.out, .recd, .chks, .pins, .vrc, .pmb, .acc, .hif, .par, .nvm]) ∧
  (Leaves .iTotFormed [RST_SEQ_stage, RST_SEQ_cause, CHK_ALLOW_now, CHK_ALLOW_in_droop, VRC_STAT_state, VRC_STAT_de,
    VRC_STAT_fault, VRC_LASTF, PMB_STAT_seq, PMB_RAIL_STAT_state, EVT_DROP_dropped, NVM_STAT_busy, NVM_MIRROR_deferred,
    PAR_STAT_role] [] [.out, .recd, .chks, .pins, .vrc, .pmb, .acc, .hif, .par, .nvm]) ∧
  (Leaves .overVoltage [RST_CAUSE_crowbar, RST_SEQ_stage, RST_SEQ_cause, CHK_ALLOW_now, CHK_ALLOW_in_droop, VRC_STAT_state,
    VRC_STAT_de, VRC_STAT_fault, VRC_LASTF, PMB_STAT_seq, PMB_RAIL_STAT_state, EVT_DROP_dropped, NVM_STAT_busy,
    NVM_MIRROR_deferred, PAR_STAT_role] [] [.out, .recd, .chks, .pins, .vrc, .pmb, .acc, .hif, .par, .nvm]) ∧
  (∀ x0, Leaves (.phaseLeadingEdge x0) [VRC_STAT_de, VRC_PH_STAT_ton, VRC_PH_STAT_de, VRC_PH_STAT_brake] [] [.vrc]) ∧
  (∀ x0, Leaves (.pidSample x0) [VRC_STAT_de, VRC_STAT_climit, VRC_VSENSE_vsense] [] [.sns, .dvfs, .vrc]) ∧
  (∀ x0, Leaves (.pmbAlert x0) [] [] [.out, .pmb]) ∧
  (Leaves .pmbAlertMaskEnd [PMB_STAT_masked] [] [.out, .pmb]) ∧
  (Leaves .pmbBusFree [PMB_STAT_stuck] [] [.out, .pmb]) ∧
  (∀ x0, Leaves (.pmbBusStuck x0) [PMB_STAT_stuck, EVT_DROP_dropped] [] [.out, .recd, .pmb]) ∧
  (Leaves .pmbGroupOffTimeout [RST_SEQ_stage, RST_SEQ_cause, CHK_ALLOW_now, CHK_ALLOW_in_droop, VRC_STAT_state, VRC_STAT_de,
    VRC_STAT_fault, VRC_LASTF, PMB_STAT_seq, PMB_RAIL_STAT_state, EVT_DROP_dropped, NVM_STAT_busy, NVM_MIRROR_deferred,
    PAR_STAT_role] [] [.out, .recd, .chks, .pins, .vrc, .pmb, .hif, .par, .nvm]) ∧
  (Leaves .pmbGroupRetry [RST_SEQ_stage, RST_SEQ_cause, CHK_ALLOW_now, CHK_ALLOW_in_droop, VRC_STAT_state, VRC_STAT_de,
    VRC_STAT_fault, VRC_VREF_vref, VRC_LASTF, PMB_STAT_seq, PMB_RAIL_STAT_state, EVT_DROP_dropped, NVM_STAT_busy,
    NVM_MIRROR_deferred, PAR_STAT_role] [] [.out, .recd, .chks, .pins, .vrc, .pmb, .acc, .hif, .par, .nvm]) ∧
  (Leaves .pmbGroupStart [RST_SEQ_stage, RST_SEQ_cause, CHK_ALLOW_now, CHK_ALLOW_in_droop, VRC_STAT_state, VRC_STAT_de,
    VRC_STAT_fault, VRC_VREF_vref, VRC_LASTF, PMB_STAT_seq, PMB_RAIL_STAT_state, EVT_DROP_dropped, NVM_STAT_busy,
    NVM_MIRROR_deferred, PAR_STAT_role] [] [.out, .recd, .chks, .pins, .vrc, .pmb, .acc, .hif, .par, .nvm]) ∧
  (Leaves .pmbGroupTimeout [RST_SEQ_stage, RST_SEQ_cause, CHK_ALLOW_now, CHK_ALLOW_in_droop, VRC_STAT_state, VRC_STAT_de,
    VRC_STAT_fault, VRC_LASTF, PMB_STAT_seq, PMB_RAIL_STAT_state, EVT_DROP_dropped, NVM_STAT_busy, NVM_MIRROR_deferred,
    PAR_STAT_role] [] [.out, .recd, .chks, .pins, .vrc, .pmb, .acc, .hif, .par, .nvm]) ∧
  (Leaves .pmbSweepStart [PMB_STAT_skip] [] [.out, .pmb]) ∧
  (∀ x0 x1, Leaves (.pmbTransactionDone x0 x1) [RST_SEQ_stage, RST_SEQ_cause, CHK_ALLOW_now, CHK_ALLOW_in_droop, VRC_STAT_state,
    VRC_STAT_de, VRC_STAT_fault, VRC_VREF_vref, VRC_LASTF, PMB_STAT_seq, PMB_STAT_masked, PMB_STAT_unk, PMB_RAIL_STAT_status,
    PMB_RAIL_STAT_state, PMB_RAIL_STAT_nack, PMB_RAIL_STAT_pec, PMB_RAIL_V, PMB_RAIL_P, EVT_DROP_dropped, NVM_STAT_busy,
    NVM_MIRROR_deferred, PAR_STAT_role] [] [.out, .recd, .chks, .pins, .vrc, .pmb, .acc, .hif, .par, .nvm]) ∧
  (Leaves .pwmPeriodStart [RST_SEQ_stage, RST_SEQ_cause, SNS_PHQ_current, SNS_PHQ_quality, CHK_ALLOW_now, CHK_ALLOW_in_droop,
    VRC_STAT_state, VRC_STAT_de, VRC_STAT_n_en, VRC_STAT_fault, VRC_PH_SHED, VRC_PH_STAT_shed, VRC_LASTF, PMB_STAT_seq,
    PMB_RAIL_STAT_state, EVT_DROP_dropped, NVM_STAT_busy, NVM_MIRROR_deferred, PAR_STAT_role] [] [.out, .recd, .chks, .sns, .pins,
    .vrc, .pmb, .acc, .hif, .par, .nvm]) ∧
  (∀ x0, Leaves (.trackDelivery x0) [] [] [.vrc]) ∧
  (Leaves .trackHoldTimeout [EVT_DROP_dropped] [] [.recd, .vrc]) ∧
  (Leaves .uvTimeout [RST_SEQ_stage, RST_SEQ_cause, CHK_ALLOW_now, CHK_ALLOW_in_droop, VRC_STAT_state, VRC_STAT_de,
    VRC_STAT_fault, VRC_LASTF, PMB_STAT_seq, PMB_RAIL_STAT_state, EVT_DROP_dropped, NVM_STAT_busy, NVM_MIRROR_deferred,
    PAR_STAT_role] [] [.out, .recd, .chks, .pins, .vrc, .pmb, .acc, .hif, .par, .nvm]) ∧
  (Leaves .vrefRampStep [CLK_DVFS_STAT_target, CLK_DVFS_STAT_stage, CLK_DVFS_STAT_parked, RST_SEQ_stage, RST_SEQ_cause,
    CHK_DVFS_STAT_cancel, CHK_DVFS_STAT_deferred, CHK_ALLOW_now, CHK_ALLOW_in_droop, VRC_STAT_state, VRC_STAT_de, VRC_STAT_fault,
    VRC_VREF_vref, VRC_LASTF, PMB_STAT_seq, PMB_RAIL_STAT_state, EVT_DROP_dropped, NVM_STAT_busy, NVM_MIRROR_deferred,
    PAR_STAT_role] [] [.out, .recd, .chks, .dvfs, .pins, .vrc, .pmb, .acc, .hif, .par, .nvm])

/-- What forecast, loop and thermal commands leave unchanged. -/
def frameLoops : Prop :=
  (Leaves .anchorPublish [SNS_ANC_value, SNS_ANC_fault, EVT_DROP_dropped] [] [.recd, .sns, .thm]) ∧
  (Leaves .calibrationApply [ACT_COEF_CAL, EVT_DROP_dropped] [] [.recd]) ∧
  (Leaves .measFinalise [FCS_CAL_STAT_upd, FCS_CAL_STAT_resets, FCS_ARR_STAT_nan, FCS_ARR_STAT_inf, ACT_MEAS_DIE, ACT_MEAS_FILL,
    EVT_DROP_dropped] [] [.out, .recd, .sns, .fcs, .lpe, .acc, .thm, .par]) ∧
  (∀ x0, Leaves (.forecastOutput x0) (traceDropFlds ++ [FCS_ARR_STAT_nan, FCS_ARR_STAT_inf, EVT_DROP_dropped]) [] [.recd, .fcs,
    .trc]) ∧
  (∀ x0 x1, Leaves (.lnModeChange x0 x1) (classFlds ++ [FCS_CORE_ln, FCS_CORE_fallback, FCS_DISCARD_unres, FCS_NFC_count,
    EVT_DROP_dropped]) [] [.recd, .cntPend, .cores, .fcs]) ∧
  (∀ x0, Leaves (.periodicSnapshot x0) [FCS_DISCARD_unres, FCS_NFC_count] [] [.cntPend, .fcs]) ∧
  (∀ x0, Leaves (.promptSnapshot x0) [FCS_DISCARD_unres, FCS_NFC_count] [] [.cntPend, .fcs]) ∧
  (∀ x0, Leaves (.loopEvaluation x0) (classFlds ++ [LPE_STAT_late, LPE_STAT_fb, LPE_FAULT, LPE_OVR, EVT_DROP_dropped]) [] [.recd,
    .lpe]) ∧
  (∀ x0 x1, Leaves (.loopRelease x0 x1) [CLK_XOVR_ovr, LPE_STAT_skips, LPE_OVR] [] [.lpe, .xovrMs]) ∧
  (Leaves .loopSkip [LPE_STAT_skips, LPE_OVR] [] [.lpe]) ∧
  (∀ x0 x1 x2, Leaves (.anchorConversion x0 x1 x2) [RST_CAUSE_shutdown, SNS_DRP_BAND_band, THM_STAT_state, THM_STAT_band,
    THM_STAT_shut, THM_STAT_refresh, THM_STEP_STAT_pend, THM_HOT_value, THM_HOT_node, THM_L_limit, THM_L_blind, THM_L_anchored,
    EVT_DROP_dropped, PAR_STAT_role] [] [.out, .recd, .sns, .pins, .pmb, .acc, .thm, .hif, .par]) ∧
  (Leaves .anchorCorrection [SNS_ANC_broken, THM_STAT_blind, THM_ANC_ST_residual, THM_ANC_ST_dmod, THM_ANC_ST_dnb,
    THM_ANC_ST_nb_na, THM_ANC_ST_run, EVT_DROP_dropped] [] [.recd, .thm]) ∧
  (Leaves .bandFall [SNS_DRP_BAND_band, THM_STAT_band, THM_STAT_refresh, EVT_DROP_dropped] [] [.recd, .thm]) ∧
  (Leaves .cplateLocal [THM_STAT_cp_remote, EVT_DROP_dropped] [] [.recd]) ∧
  (Leaves .modelInit [THM_STAT_state, THM_RATE] [] [.lpe, .thm]) ∧
  (Leaves .reinitRecover [THM_STAT_state, THM_RATE] [] [.lpe, .thm]) ∧
  (Leaves .shutdownDrainExpire [RST_SEQ_stage, RST_SEQ_cause, CHK_ALLOW_now, CHK_ALLOW_in_droop, VRC_STAT_state, VRC_STAT_de,
    VRC_STAT_fault, VRC_LASTF, PMB_STAT_seq, PMB_RAIL_STAT_state, EVT_DROP_dropped, NVM_STAT_busy, NVM_MIRROR_deferred,
    PAR_STAT_role] [] [.out, .recd, .chks, .pins, .vrc, .pmb, .acc, .thm, .hif, .par, .nvm]) ∧
  (Leaves .thermalStep [THM_STAT_state, THM_STAT_generic, THM_STEP_STAT_late, THM_STEP_STAT_reinit, THM_STEP_STAT_pend,
    THM_SET_ID_ident, THM_SET_PER_period, EVT_DROP_dropped] [] [.recd, .fcs, .thm]) ∧
  (Leaves .thermalStepComplete [RST_CAUSE_shutdown, SNS_DRP_BAND_band, THM_STAT_state, THM_STAT_generic, THM_STAT_band,
    THM_STAT_warn, THM_STAT_throttle, THM_STAT_shut, THM_STAT_refresh, THM_STEP_STAT_reinit, THM_STEP_STAT_pend, THM_HOT_value,
    THM_HOT_node, THM_SET_ID_ident, THM_SET_PER_period, THM_X_x, THM_L_limit, THM_L_warn, THM_L_throttle, THM_L_blind,
    THM_L_anchored, FCS_ARR_STAT_nan, FCS_ARR_STAT_inf, EVT_DROP_dropped, PAR_STAT_role] [] [.out, .recd, .fcs, .lpe, .pins, .pmb,
    .acc, .thm, .hif, .par]) ∧
  (∀ x0, Leaves (.thmTinWrite x0) [THM_STEP_STAT_tin_rej, THM_TIN_tin] [] [])

/-- What ring and account commands leave unchanged. -/
def frameRings : Prop :=
  (Leaves .bucketLeak [] [] [.hif]) ∧
  (∀ x0 x1 x2, Leaves (.descriptorFetched x0 x1 x2) [HIF_STAT_fabric, EVT_DROP_dropped] [] [.out, .recd, .hif, .par]) ∧
  (∀ x0 x1 x2 x3, Leaves (.doorbellBadAccess x0 x1 x2 x3) [HIF_STAT_viol, HIF_QUAR, HIF_RSTATE, EVT_DROP_dropped] [] [.out, .recd,
    .hif]) ∧
  (∀ x0 x1, Leaves (.doorbellCqHeadWrite x0 x1) [HIF_STAT_viol, HIF_QUAR, HIF_RSTATE, EVT_DROP_dropped] [] [.recd, .hif]) ∧
  (∀ x0 x1, Leaves (.doorbellProdWrite x0 x1) [HIF_STAT_viol, HIF_QUAR, HIF_RSTATE, EVT_DROP_dropped] [] [.out, .recd, .hif]) ∧
  (∀ x0, Leaves (.doorbellStray x0) [HIF_STAT_stray_db] [] []) ∧
  (Leaves .fp2Turn [HIF_STAT_viol, HIF_QUAR, HIF_RSTATE, EVT_DROP_dropped] [] [.out, .recd, .hif, .par]) ∧
  (Leaves .hello [HIF_QUAR, HIF_RSTATE, EVT_DROP_dropped] [] [.out, .recd, .hif, .par]) ∧
  (∀ x0, Leaves (.hifSctlWrite x0) [HIF_SCTL_en, HIF_SCTL_size, HIF_QUAR, HIF_RSTATE, EVT_DROP_dropped] [] [.out, .recd, .hif,
    .par]) ∧
  (Leaves .quarantineReset [EVT_DROP_dropped] [] [.out, .recd, .hif, .par]) ∧
  (∀ x0, Leaves (.quarantineResetDrained x0) [HIF_QUAR, HIF_RSTATE, EVT_DROP_dropped] [] [.out, .recd, .hif, .par]) ∧
  (Leaves .quarantineResume [HIF_QUAR, HIF_RSTATE, EVT_DROP_dropped] [] [.out, .recd, .hif, .par]) ∧
  (Leaves .jobClose [] [] [.out, .acc, .hif, .par]) ∧
  (Leaves .jobOpen [] [] [.out, .acc, .hif, .par]) ∧
  (Leaves .readEnergy [] [] [.out, .hif, .par]) ∧
  (∀ x0 x1 x2 x3 x4, Leaves (.reconciliation x0 x1 x2 x3 x4) [ACT_ACC_STAT_clamp, ACT_ACC_STAT_dmin, ACT_HOUSE, ACT_RLOSS,
    ACT_RECON_T, ACT_TCAP, EVT_DROP_dropped, PAR_STAT_ledger] [] [.out, .recd, .lpe, .acc, .hif, .par]) ∧
  (Leaves .setTenantCap [ACT_TSET] [] [.out, .hif, .par])

/-- What recorder, flash, SMBus and memory commands leave unchanged. -/
def frameStore : Prop :=
  (Leaves .eventRecordAccept [EVT_NEXT_next] [] [.mem, .recd, .cntPend]) ∧
  (∀ x0, Leaves (.evtCivLatch x0) [EVT_CIV_year, EVT_CIV_month, EVT_CIV_day, EVT_CIV_hour, EVT_CIV_minute, EVT_CIV_second,
    EVT_CIV_valid, EVT_CIV_done, EVT_CIV_ns] [] []) ∧
  (Leaves .evtClear [NVM_STAT_busy] [] [.out, .hif, .par, .nvm]) ∧
  (Leaves .evtRead [] [] [.out, .hif, .par]) ∧
  (Leaves .heartwoodProgram [NVM_STAT_busy] [] [.mem, .out, .nvm]) ∧
  (Leaves .timeSet [EVT_DROP_dropped, EVT_TA_ta, EVT_SA_sa, EVT_NA_na, EVT_NA_set] [] [.out, .recd, .hif, .par]) ∧
  (Leaves .flashOpDone [EVT_HW_count, EVT_HW_gen, EVT_DROP_dropped, NVM_STAT_busy, NVM_MIRROR_count, NVM_MIRROR_slot,
    NVM_MIRROR_cause, NVM_WEAR_hw, NVM_WEAR_mirror, NVM_WEAR_log, NVM_WEAR_image] [] [.flash, .out, .recd, .vrc, .hif, .par,
    .nvm]) ∧
  (∀ x0, Leaves (.flashOpTimeout x0) [EVT_DROP_dropped, NVM_STAT_busy, NVM_ERR_prog, NVM_ERR_erase] [] [.mem, .out, .recd, .hif,
    .nvm]) ∧
  (Leaves .fp3StartupRestore [VRC_LASTF, EVT_NEXT_next, EVT_HW_count, EVT_HW_gen, EVT_DROP_dropped, NVM_STAT_busy,
    NVM_MIRROR_slot, NVM_MIRROR_cause] [] [.mem, .out, .recd, .vrc, .nvm]) ∧
  (Leaves .lastFaultFlashWrite [NVM_STAT_busy] [] [.out, .vrc, .nvm]) ∧
  (Leaves .mirrorDeferExpire [NVM_STAT_busy, NVM_MIRROR_deferred] [] [.out, .nvm]) ∧
  (∀ x0, Leaves (.smbAnchorHi x0) smbFlds [] [.out, .smb]) ∧
  (∀ x0, Leaves (.smbAnchorLo x0) smbFlds [] [.out, .smb]) ∧
  (Leaves .smbBusTimeout smbFlds [] [.smb]) ∧
  (∀ x0 x1, Leaves (.smbEvtData x0 x1) smbFlds [] [.out, .smb]) ∧
  (∀ x0 x1 x2 x3, Leaves (.smbEvtSel x0 x1 x2 x3) smbFlds [] [.out, .smb]) ∧
  (∀ x0, Leaves (.smbIdent x0) smbFlds [] [.out, .smb]) ∧
  (∀ x0, Leaves (.smbLastf x0) smbFlds [] [.out, .smb]) ∧
  (∀ x0, Leaves (.smbLastfPageRead x0) smbFlds [] [.out, .smb]) ∧
  (∀ x0 x1 x2, Leaves (.smbLastfPageWrite x0 x1 x2) smbFlds [] [.out, .smb]) ∧
  (∀ x0, Leaves (.smbPower x0) smbFlds [] [.out, .smb]) ∧
  (∀ x0, Leaves (.smbStatus x0) smbFlds [] [.out, .smb]) ∧
  (∀ x0, Leaves (.smbTempHot x0) smbFlds [] [.out, .smb]) ∧
  (∀ x0, Leaves (.smbTime x0) smbFlds [] [.out, .smb]) ∧
  (∀ x0, Leaves (.smbTinRead x0) smbFlds [] [.out, .smb]) ∧
  (∀ x0 x1 x2, Leaves (.smbTinWrite x0 x1 x2) (smbFlds ++ [THM_STEP_STAT_tin_rej, THM_TIN_tin]) [] [.out, .smb]) ∧
  (∀ x0, Leaves (.smbUndefinedCommand x0) smbFlds [] [.out, .smb]) ∧
  (∀ x0 x1, Leaves (.backgroundTest x0 x1) [MEM_STAT_bt_bank, MEM_STAT_nospare, MEM_STAT_retired, MEM_ECC_single, MEM_ECC_double,
    MEM_RMAP_region, MEM_RMAP_valid, EVT_DROP_dropped] [] [.mem, .recd, .lpe, .thm, .slt, .hub]) ∧
  (∀ x0 x1 x2 x3 x4 x5, Leaves (.firmwareMemoryAccess x0 x1 x2 x3 x4 x5) [MEM_VIOL_master, MEM_VIOL_bank, MEM_VIOL_region,
    MEM_VIOL_write, MEM_VIOL_valid, EVT_DROP_dropped] [] [.out, .recd, .hub]) ∧
  (∀ x0 x1, Leaves (.memBuRead x0 x1) [MEM_VIOL_master, MEM_VIOL_bank, MEM_VIOL_region, MEM_VIOL_write, MEM_VIOL_valid,
    MEM_BU_ADDR_bank, MEM_BU_ADDR_line, MEM_BU_ADDR_done, EVT_DROP_dropped] [] [.out, .recd, .hub]) ∧
  (Leaves .memBuReadDone [MEM_BU_ADDR_done, MEM_BU_DATA] [] [.hub])

/-- What slate, take and firmware commands leave unchanged. -/
def frameTakes : Prop :=
  (Leaves .abandon (slateFlds ++ [SLT_FAIL_failed, EVT_DROP_dropped]) [] [.out, .recd, .thm, .hif, .slt, .par]) ∧
  (Leaves .slateOpen slateFlds [] [.out, .hif, .slt, .par]) ∧
  (∀ x0, Leaves (.slateWrite x0) slateFlds [] [.out, .thm, .hif, .slt, .par]) ∧
  (Leaves .fcstLoad [FCS_SLOT_state, EVT_DROP_dropped] [] [.out, .recd, .fcs, .hif, .par]) ∧
  (∀ x0 x1 x2 x3, Leaves (.fcstLoadComplete x0 x1 x2 x3) [HIF_STAT_fabric, FCS_SLOT_state, FCS_SLOT_mode, FCS_SLOT_ID_ident,
    EVT_DROP_dropped] [] [.out, .recd, .fcs, .hif, .par, .hub]) ∧
  (∀ x0 x1, Leaves (.fwException x0 x1) [MEM_STAT_clearing, FW_STAT_state, FW_RCNT_count, FW_RCNT_cause, FCS_SLOT_state,
    EVT_DROP_dropped, CNT_WFG_busy, CNT_WFG_valid] [] [.mem, .recd, .fcs, .cntZero, .hif, .nvm, .fw, .hub]) ∧
  (∀ x0 x1, Leaves (.fwImageLoaded x0 x1) (slateFlds ++ [RST_SEQ_stage, RST_SEQ_cause, RST_SEQ_image, FW_STAT_state, FW_STAT_copy,
    FW_VER_version, FW_LEN_length, FW_DIGEST_d, ACT_ACC_STAT_clamp, ACT_ACC_STAT_dmin, ACT_HOUSE, ACT_RLOSS, ACT_RECON_T,
    ACT_TCAP, EVT_HW_count, EVT_HW_gen, EVT_DROP_dropped, NVM_STAT_busy, NVM_MIRROR_count, NVM_MIRROR_slot, NVM_MIRROR_cause,
    NVM_MIRROR_deferred, PAR_STAT_ledger]) [] [.mem, .out, .recd, .lpe, .vrc, .acc, .thm, .hif, .slt, .par, .nvm, .fw, .rst]) ∧
  (Leaves .slot0Load [THM_SET_ID_ident, THM_SET_PER_period, FCS_SLOT_state, FCS_SLOT_mode, FCS_SLOT_ID_ident] [] [.fcs, .hub]) ∧
  (∀ x0, Leaves (.watchdogExpire x0) [MEM_STAT_clearing, FW_STAT_state, FW_RCNT_count, FW_RCNT_cause, FCS_SLOT_state,
    EVT_DROP_dropped, CNT_WFG_busy, CNT_WFG_valid] [] [.mem, .recd, .fcs, .cntZero, .hif, .nvm, .fw, .hub]) ∧
  (∀ x0, Leaves (.watchdogStrike x0) [] [] [.fw]) ∧
  (∀ x0 x1 x2, Leaves (.bridgeAbort x0 x1 x2) (slateFlds ++ [SLT_FAIL_failed, EVT_DROP_dropped, PAR_STAT_state, PAR_STAT_role,
    PAR_STAT_up, PAR_CNT_split, PAR_CNT_crc, PAR_DIEBUD_bud]) [] [.out, .recd, .lpe, .acc, .thm, .hif, .slt, .par]) ∧
  (∀ x0 x1 x2, Leaves (.bridgeAck x0 x1 x2) (slateFlds ++ [SLT_FAIL_failed, EVT_DROP_dropped, PAR_STAT_state, PAR_STAT_role,
    PAR_STAT_up, PAR_CNT_split, PAR_CNT_crc, PAR_DIEBUD_bud]) [] [.out, .recd, .lpe, .acc, .thm, .hif, .slt, .par]) ∧
  (∀ x0 x1 x2, Leaves (.bridgeCommit x0 x1 x2) (slateFlds ++ [SLT_FAIL_failed, EVT_DROP_dropped, PAR_STAT_state, PAR_STAT_role,
    PAR_STAT_up, PAR_CNT_split, PAR_CNT_crc, PAR_DIEBUD_bud]) [] [.out, .recd, .lpe, .acc, .thm, .hif, .slt, .par]) ∧
  (∀ x0 x1 x2, Leaves (.bridgeDone x0 x1 x2) (slateFlds ++ [SLT_FAIL_failed, EVT_DROP_dropped, PAR_STAT_state, PAR_STAT_role,
    PAR_STAT_up, PAR_CNT_split, PAR_CNT_crc, PAR_DIEBUD_bud]) [] [.out, .recd, .lpe, .acc, .thm, .hif, .slt, .par]) ∧
  (∀ x0 x1 x2, Leaves (.bridgePrepare x0 x1 x2) (slateFlds ++ [SLT_FAIL_failed, EVT_DROP_dropped, PAR_STAT_state, PAR_STAT_role,
    PAR_STAT_up, PAR_CNT_split, PAR_CNT_crc, PAR_DIEBUD_bud]) [] [.out, .recd, .lpe, .acc, .thm, .hif, .slt, .par]) ∧
  (∀ x0 x1 x2, Leaves (.bridgeReady x0 x1 x2) (slateFlds ++ [SLT_FAIL_failed, SLT_FAIL_past, EVT_DROP_dropped, PAR_STAT_state,
    PAR_STAT_role, PAR_STAT_up, PAR_CNT_split, PAR_CNT_crc, PAR_DIEBUD_bud]) [] [.out, .recd, .lpe, .acc, .thm, .hif, .slt, .par]) ∧
  (∀ x0 x1 x2, Leaves (.bridgeRefuse x0 x1 x2) (slateFlds ++ [SLT_FAIL_failed, EVT_DROP_dropped, PAR_STAT_state, PAR_STAT_role,
    PAR_STAT_up, PAR_CNT_split, PAR_CNT_crc, PAR_DIEBUD_bud]) [] [.out, .recd, .lpe, .acc, .thm, .hif, .slt, .par]) ∧
  (Leaves .pairPrepareTimeout (slateFlds ++ [SLT_FAIL_failed, EVT_DROP_dropped]) [] [.out, .recd, .thm, .hif, .slt, .par]) ∧
  (Leaves .slateCheck [EVT_DROP_dropped] [] [.out, .recd, .hif, .par]) ∧
  (Leaves .take (slateFlds ++ [EVT_DROP_dropped]) [] [.out, .recd, .hif, .slt, .par]) ∧
  (∀ x0, Leaves (.takeApply x0) (settings ++ slateFlds ++ roleFlds ++ classFlds ++ tallyFlds ++ lateFlds ++ traceDropFlds ++
    [CLK_DVFS_STAT_target, CLK_DVFS_STAT_stage, CLK_DVFS_STAT_parked, RST_SEQ_stage, RST_SEQ_cause, MEM_STAT_clearing,
    FW_STAT_state, FW_RCNT_count, FW_RCNT_cause, HIF_QUAR, HIF_RSTATE, SLT_TAKE_take, SLT_TAKE_WRAP_wraps, SLT_TAKE_T_instant,
    SLT_FAIL_failed, SLT_FAIL_rollback, SNS_TLM_STAT_state, SNS_PHQ_current, SNS_PHQ_quality, SNS_ANC_broken, CHK_FB_STAT_state,
    CHK_FB_STAT_armed, CHK_DVFS_STAT_cancel, CHK_DVFS_STAT_deferred, CHK_ALLOW_now, CHK_ALLOW_in_droop, VRC_STAT_state,
    VRC_STAT_de, VRC_STAT_fault, VRC_VREF_vref, VRC_LASTF, PMB_STAT_seq, PMB_RAIL_STAT_state, THM_STAT_state, THM_STAT_blind,
    THM_STEP_STAT_pend, THM_SET_ID_ident, THM_SET_PER_period, THM_ANC_ST_run, FCS_SLOT_state, FCS_CORE_ln, FCS_CORE_fallback,
    FCS_DISCARD_unres, FCS_NFC_count, LPE_BUDGET_units, LPE_FAULT, LPE_OVR, TLY_POOL_ST_clamped, TLY_TEN_ST_committed,
    ACT_PKG_BUD, EVT_DROP_dropped, NVM_STAT_busy, NVM_MIRROR_deferred, CNT_WFG_busy, CNT_WFG_valid, FAN_DEF_deficit,
    MGT_STAT_state, MGT_BUD_bud, MGT_EPOCH, MGT_OFS, MGT_RATE_rate, PAR_STAT_state, PAR_STAT_role, PAR_DIEBUD_bud]) [10, 12, 18,
    20, 21, 22, 23] [.mem, .out, .recd, .cntPend, .chks, .droops, .cores, .tly, .ramp, .sns, .fcs, .lpe, .trc, .cntZero, .dvfs,
    .pins, .vrc, .pmb, .acc, .thm, .hif, .slt, .par, .nvm, .smb, .fw, .rst, .hub, .fans, .mgt]) ∧
  (Leaves .takeArmed (slateFlds ++ [SLT_FAIL_past, EVT_DROP_dropped]) [] [.out, .recd, .hif, .slt, .par])

/-- What trace, counter, fan and clock commands leave unchanged. -/
def frameObserve : Prop :=
  (Leaves .cntDump [] [] [.out, .hif, .par]) ∧
  (Leaves .cntZero [] [] [.out, .cntZero, .hif, .par]) ∧
  (Leaves .stepAdd [CHK_STEP_credits] [] [.out, .hif, .par]) ∧
  (Leaves .stepEnter [CHK_STEP_mode, CHK_STEP_held, CHK_STEP_credits, CHK_STEP_seq] [] [.out, .hif, .par]) ∧
  (Leaves .stepLeave [CHK_STEP_mode, CHK_STEP_held, CHK_STEP_credits, CHK_STEP_seq, TLY_STAT_free, TLY_VIOL_bad_req,
    TLY_POOL_ST_clamped, TLY_TEN_ST_objects, EVT_DROP_dropped] [] [.out, .recd, .lanes, .tly, .hif, .par]) ∧
  (∀ x0, Leaves (.traceConsumedReread x0) [EVT_DROP_dropped] [] [.out, .recd, .trc]) ∧
  (Leaves .traceFlush (traceDropFlds ++ [TRC_STAT_loss, TRC_WRITTEN_written]) [] [.out, .trc, .hif, .par]) ∧
  (Leaves .traceGroupWrite (traceDropFlds ++ [TRC_STAT_loss, TRC_WRITTEN_written]) [] [.out, .trc]) ∧
  (Leaves .traceHeaderUpdate [] [] [.out, .trc]) ∧
  (Leaves .traceSample traceDropFlds [] [.trc]) ∧
  (Leaves .traceStart [EVT_DROP_dropped, TRC_STAT_state, TRC_STAT_kinds, TRC_WRITTEN_written, TRC_BASE_base, TRC_SIZE_size] []
    [.out, .recd, .trc, .hif, .par]) ∧
  (Leaves .traceStop (traceDropFlds ++ [EVT_DROP_dropped, TRC_STAT_state, TRC_STAT_loss, TRC_WRITTEN_written]) [] [.out, .recd,
    .trc, .hif, .par]) ∧
  (Leaves .traceTimeGroup [] [] [.trc]) ∧
  (Leaves .wfgAutoTrigger [CNT_WFG_busy, CNT_WFG_valid, CNT_WFG_cycle, CNT_WFG_trunc, CNT_WFG_edges, CNT_WFG_T_ts] [] [.wfg]) ∧
  (Leaves .wfgComplete (traceDropFlds ++ [EVT_DROP_dropped, CNT_WFG_busy, CNT_WFG_valid, CNT_WFG_cycle, CNT_WFG_trunc,
    CNT_WFG_edges, CNT_WFG_EDGE]) [] [.recd, .trc, .wfg]) ∧
  (∀ x0, Leaves (.wfgStart x0) [CNT_WFG_busy, CNT_WFG_valid, CNT_WFG_cycle, CNT_WFG_trunc, CNT_WFG_edges, CNT_WFG_T_ts] [] [.wfg]) ∧
  (∀ x0, Leaves (.fanPwmPeriod x0) [FAN_STAT_state, FAN_STAT_tries, FAN_STAT_duty, FAN_DEF_deficit] [] [.out, .fans]) ∧
  (∀ x0, Leaves (.fanRestEnd x0) [] [] [.fans]) ∧
  (∀ x0, Leaves (.fanSpinupEnd x0) [EVT_DROP_dropped, FAN_STAT_tries] [] [.recd, .fans]) ∧
  (∀ x0, Leaves (.tachEdge x0) [EVT_DROP_dropped, FAN_STAT_rpm, FAN_DEF_deficit] [] [.recd, .fans]) ∧
  (∀ x0, Leaves (.tachTimeout x0) [EVT_DROP_dropped, FAN_STAT_rpm, FAN_DEF_deficit] [] [.recd, .fans]) ∧
  (Leaves .dvfsHalfParked [CLK_DVFS_STAT_target, CLK_DVFS_STAT_stage, CLK_DVFS_STAT_parked, CHK_DVFS_STAT_cancel,
    CHK_DVFS_STAT_deferred, EVT_DROP_dropped] [] [.recd, .dvfs]) ∧
  (Leaves .dvfsLockTimeout [CLK_DVFS_STAT_stage, CLK_DVFS_STAT_parked, CLK_DVFS_STAT_lockfail, CHK_DVFS_STAT_deferred,
    EVT_DROP_dropped] [] [.recd, .dvfs]) ∧
  (∀ x0, Leaves (.dvfsRequest x0) [CLK_DVFS_STAT_target, CLK_DVFS_STAT_stage, CLK_DVFS_STAT_parked, CHK_DVFS_STAT_cancel,
    CHK_DVFS_STAT_deferred, EVT_DROP_dropped] [] [.recd, .dvfs]) ∧
  (Leaves .dvfsRetry [CLK_DVFS_STAT_target, CLK_DVFS_STAT_stage, CLK_DVFS_STAT_parked, CHK_DVFS_STAT_cancel,
    CHK_DVFS_STAT_deferred, EVT_DROP_dropped] [] [.recd, .dvfs]) ∧
  (Leaves .dvfsSwitch [CLK_DVFS_STAT_point, CLK_DVFS_STAT_target, CLK_DVFS_STAT_stage, CLK_DVFS_STAT_half, CLK_DVFS_STAT_parked,
    CHK_DVFS_STAT_cancel, CHK_DVFS_STAT_deferred, EVT_DROP_dropped] [] [.recd, .droops, .cores, .dvfs]) ∧
  (Leaves .dvfsVoltageReady [CLK_DVFS_STAT_stage] [] []) ∧
  (∀ x0, Leaves (.fmDone x0) [CLK_FM_CNT_count, CLK_FM_CNT_done] [] [.hub]) ∧
  (∀ x0, Leaves (.fmStart x0) [CLK_FM_CTL_meas, CLK_FM_CTL_ref, CLK_FM_CTL_win, CLK_FM_CTL_idx, CLK_FM_CNT_count, CLK_FM_CNT_done]
    [] [.hub]) ∧
  (∀ x0 x1, Leaves (.outpostRelease x0 x1) [CLK_DVFS_STAT_stage, CLK_DVFS_STAT_parked, CHK_DVFS_STAT_cancel,
    CHK_DVFS_STAT_deferred, CHK_ALLOW_now, CHK_ALLOW_in_droop, EVT_DROP_dropped] [] [.recd, .cntPend, .chks, .droops, .cores,
    .dvfs, .hub]) ∧
  (∀ x0 x1, Leaves (.outpostReset x0 x1) (classFlds ++ tallyFlds ++ traceDropFlds ++ [CHK_ALLOW_now, CHK_ALLOW_in_droop,
    CHK_STEP_held, CHK_STEP_seq, FCS_CORE_ln, FCS_CORE_fallback, FCS_DISCARD_unres, FCS_NFC_count, TLY_STAT_free,
    TLY_POOL_ST_used, TLY_TEN_ST_committed, TLY_TEN_ST_objects, EVT_DROP_dropped]) [] [.recd, .cntPend, .lanes, .chks, .droops,
    .cores, .tly, .sns, .fcs, .trc, .dvfs, .hub]) ∧
  (∀ x0, Leaves (.tsResync x0) [CLK_TS_STAT_resync, EVT_DROP_dropped] [] [.recd])

/-- What Salgor commands leave unchanged. -/
def frameSalgor : Prop :=
  (∀ x0 x1 x2, Leaves (.clapReq x0 x1 x2) (roleFlds ++ lateFlds ++ versionFlds ++ frameFlds ++ [EVT_DROP_dropped, MGT_STAT_state])
    [] [.out, .recd, .par, .mgt]) ∧
  (∀ x0 x1 x2, Leaves (.clapRsp x0 x1 x2) (roleFlds ++ lateFlds ++ versionFlds ++ frameFlds ++ [EVT_DROP_dropped, MGT_STAT_state])
    [] [.out, .recd, .par, .mgt]) ∧
  (Leaves .clapRun [] [] [.out, .mgt]) ∧
  (Leaves .clapRunEnd (roleFlds ++ lateFlds ++ [EVT_DROP_dropped, MGT_STAT_state, MGT_EPOCH, MGT_OFS, MGT_RATE_rate,
    MGT_CSTAT_hops, MGT_CSTAT_delta, MGT_CSTAT_fail]) [] [.out, .recd, .par, .mgt]) ∧
  (Leaves .coordinatorAlone (roleFlds ++ lateFlds ++ [EVT_DROP_dropped, MGT_STAT_state, MGT_OFS, MGT_RATE_rate, MGT_CSTAT_hops])
    [] [.out, .recd, .par, .mgt]) ∧
  (∀ x0 x1, Leaves (.csync x0 x1) (roleFlds ++ lateFlds ++ versionFlds ++ frameFlds ++ [EVT_DROP_dropped, MGT_STAT_state]) []
    [.out, .recd, .par, .mgt]) ∧
  (∀ x0 x1, Leaves (.csyncAck x0 x1) (roleFlds ++ lateFlds ++ versionFlds ++ frameFlds ++ [EVT_DROP_dropped, MGT_STAT_state]) []
    [.out, .recd, .par, .mgt]) ∧
  (Leaves .csyncSend (roleFlds ++ lateFlds ++ [EVT_DROP_dropped, MGT_STAT_state]) [] [.out, .recd, .par, .mgt]) ∧
  (∀ x0 x1, Leaves (.demand x0 x1) (roleFlds ++ lateFlds ++ versionFlds ++ frameFlds ++ [EVT_DROP_dropped, MGT_STAT_state]) []
    [.out, .recd, .par, .mgt]) ∧
  (Leaves .demandSend (roleFlds ++ lateFlds ++ [EVT_DROP_dropped, MGT_STAT_state]) [] [.out, .recd, .par, .mgt]) ∧
  (Leaves .epochBoundary (roleFlds ++ lateFlds ++ [ACT_PKG_BUD, EVT_DROP_dropped, MGT_STAT_state, MGT_STAT_missed, MGT_BUD_bud,
    MGT_EPOCH, MGT_OFS, MGT_RATE_rate, MGT_DOM_BUD_bud, MGT_DOM_AT, PAR_DIEBUD_bud]) [] [.out, .recd, .lpe, .acc, .thm, .par,
    .mgt]) ∧
  (∀ x0 x1, Leaves (.grant x0 x1) (roleFlds ++ lateFlds ++ versionFlds ++ frameFlds ++ [EVT_DROP_dropped, MGT_STAT_state]) []
    [.out, .recd, .par, .mgt]) ∧
  (Leaves .grantSend (roleFlds ++ lateFlds ++ [EVT_DROP_dropped, MGT_STAT_state]) [] [.out, .recd, .par, .mgt]) ∧
  (∀ x0 x1, Leaves (.heartbeat x0 x1) (roleFlds ++ lateFlds ++ versionFlds ++ frameFlds ++ [EVT_DROP_dropped, MGT_STAT_state]) []
    [.out, .recd, .par, .mgt]) ∧
  (∀ x0 x1, Leaves (.leave x0 x1) (roleFlds ++ lateFlds ++ versionFlds ++ frameFlds ++ [EVT_DROP_dropped, MGT_STAT_state]) []
    [.out, .recd, .par, .mgt]) ∧
  (∀ x0 x1, Leaves (.mgtForward x0 x1) (roleFlds ++ lateFlds ++ versionFlds ++ frameFlds ++ [EVT_DROP_dropped, MGT_STAT_state]) []
    [.out, .recd, .par, .mgt]) ∧
  (Leaves .orphanTimeout [EVT_DROP_dropped, MGT_STAT_state] [] [.recd]) ∧
  (Leaves .salgorCutOff [] [] [.mgt]) ∧
  (∀ x0 x1, Leaves (.version x0 x1) (roleFlds ++ lateFlds ++ versionFlds ++ frameFlds ++ [EVT_DROP_dropped, MGT_STAT_state]) []
    [.out, .recd, .par, .mgt]) ∧
  (Leaves .versionResend (roleFlds ++ lateFlds ++ [EVT_DROP_dropped, MGT_STAT_state]) [] [.out, .recd, .par, .mgt])

/-- What bridge commands leave unchanged. -/
def framePair : Prop :=
  (Leaves .bridgeCheckpointTimer [] [] [.out, .par]) ∧
  (∀ x0 x1 x2, Leaves (.bridgeCkpt x0 x1 x2) (slateFlds ++ roleFlds ++ [HIF_SCTL_en, HIF_SCTL_size, HIF_SDESC_base, HIF_SCPL_base,
    HIF_SNOTIFY_addr, HIF_QUAR, HIF_RSTATE, SLT_FAIL_failed, ACT_PKG_CAP_cap, ACT_PKG_BUD, ACT_TCAP, ACT_TSET, EVT_DROP_dropped,
    MGT_CTL_en, MGT_STAT_state, MGT_STAT_missed, MGT_IDENT_domain, MGT_IDENT_member, MGT_COORD_c0, MGT_COORD_c1, MGT_TIM_cut,
    MGT_TIM_ackw, MGT_TIM_hb_miss, MGT_TIM_orphan, MGT_TIM2_dem, MGT_TIM2_gone, MGT_DEM_head, MGT_DEM_weight, MGT_FLOOR_floor,
    MGT_ADD_add, MGT_SAFE_safe, MGT_DECAY_rate, MGT_BUD_bud, MGT_EPOCH, MGT_OFS, MGT_RATE_rate, MGT_DOM_BUD_bud,
    MGT_DOM_NEXT_next, MGT_DOM_AT, MGT_MEMB, PAR_STAT_state, PAR_STAT_role, PAR_STAT_up, PAR_CNT_failover, PAR_CNT_split,
    PAR_CNT_crc, PAR_DIEBUD_bud]) [] [.out, .recd, .lpe, .acc, .thm, .hif, .slt, .par, .mgt]) ∧
  (Leaves .bridgeClapSend [] [] [.out, .par]) ∧
  (∀ x0 x1 x2, Leaves (.bridgeCplate x0 x1 x2) (slateFlds ++ [SLT_FAIL_failed, THM_STAT_cp_remote, EVT_DROP_dropped,
    PAR_STAT_state, PAR_STAT_role, PAR_STAT_up, PAR_CNT_split, PAR_CNT_crc, PAR_DIEBUD_bud]) [] [.out, .recd, .lpe, .acc, .thm,
    .hif, .slt, .par]) ∧
  (∀ x0 x1 x2, Leaves (.bridgeDiepwr x0 x1 x2) (slateFlds ++ [SLT_FAIL_failed, EVT_DROP_dropped, PAR_STAT_state, PAR_STAT_role,
    PAR_STAT_up, PAR_CNT_split, PAR_CNT_crc, PAR_DIEBUD_bud]) [] [.out, .recd, .lpe, .acc, .thm, .hif, .slt, .par]) ∧
  (∀ x0 x1 x2, Leaves (.bridgeHandover x0 x1 x2) (slateFlds ++ [SLT_FAIL_failed, EVT_DROP_dropped, PAR_STAT_state, PAR_STAT_role,
    PAR_STAT_up, PAR_CNT_split, PAR_CNT_crc, PAR_DIEBUD_bud]) [] [.out, .recd, .lpe, .acc, .thm, .hif, .slt, .par]) ∧
  (∀ x0 x1 x2, Leaves (.bridgeHb x0 x1 x2) (slateFlds ++ [SLT_FAIL_failed, EVT_DROP_dropped, PAR_STAT_state, PAR_STAT_role,
    PAR_STAT_up, PAR_CNT_split, PAR_CNT_crc, PAR_DIEBUD_bud]) [] [.out, .recd, .lpe, .acc, .thm, .hif, .slt, .par]) ∧
  (∀ x0 x1 x2, Leaves (.bridgeLedger x0 x1 x2) (slateFlds ++ [SLT_FAIL_failed, EVT_DROP_dropped, PAR_STAT_state, PAR_STAT_role,
    PAR_STAT_up, PAR_CNT_split, PAR_CNT_crc, PAR_DIEBUD_bud]) [] [.out, .recd, .lpe, .acc, .thm, .hif, .slt, .par]) ∧
  (Leaves .bridgeLoss (slateFlds ++ [SLT_FAIL_failed, EVT_DROP_dropped, PAR_STAT_state, PAR_STAT_role, PAR_STAT_up, PAR_CNT_split,
    PAR_DIEBUD_bud]) [] [.out, .recd, .lpe, .thm, .hif, .slt, .par]) ∧
  (∀ x0 x1 x2, Leaves (.bridgeMack x0 x1 x2) (slateFlds ++ [SLT_FAIL_failed, EVT_DROP_dropped, PAR_STAT_state, PAR_STAT_role,
    PAR_STAT_up, PAR_CNT_split, PAR_CNT_crc, PAR_DIEBUD_bud]) [] [.out, .recd, .lpe, .acc, .thm, .hif, .slt, .par]) ∧
  (∀ x0 x1 x2, Leaves (.bridgeMirror x0 x1 x2) (slateFlds ++ roleFlds ++ [HIF_SCTL_en, HIF_SCTL_size, HIF_SDESC_base,
    HIF_SCPL_base, HIF_SNOTIFY_addr, HIF_QUAR, HIF_RSTATE, SLT_FAIL_failed, ACT_PKG_CAP_cap, ACT_PKG_BUD, ACT_TCAP, ACT_TSET,
    EVT_DROP_dropped, MGT_CTL_en, MGT_STAT_state, MGT_STAT_missed, MGT_IDENT_domain, MGT_IDENT_member, MGT_COORD_c0, MGT_COORD_c1,
    MGT_TIM_cut, MGT_TIM_ackw, MGT_TIM_hb_miss, MGT_TIM_orphan, MGT_TIM2_dem, MGT_TIM2_gone, MGT_DEM_head, MGT_DEM_weight,
    MGT_FLOOR_floor, MGT_ADD_add, MGT_SAFE_safe, MGT_DECAY_rate, MGT_BUD_bud, MGT_EPOCH, MGT_OFS, MGT_RATE_rate, MGT_DOM_BUD_bud,
    MGT_DOM_NEXT_next, MGT_DOM_AT, MGT_MEMB, PAR_STAT_state, PAR_STAT_role, PAR_STAT_up, PAR_CNT_split, PAR_CNT_crc,
    PAR_DIEBUD_bud]) [] [.out, .recd, .lpe, .acc, .thm, .hif, .slt, .par, .mgt]) ∧
  (∀ x0 x1 x2 x3, Leaves (.bridgePclapReq x0 x1 x2 x3) (slateFlds ++ [SLT_FAIL_failed, EVT_DROP_dropped, PAR_STAT_state,
    PAR_STAT_role, PAR_STAT_up, PAR_CNT_split, PAR_CNT_crc, PAR_DIEBUD_bud]) [] [.out, .recd, .lpe, .acc, .thm, .hif, .slt, .par]) ∧
  (∀ x0 x1 x2 x3, Leaves (.bridgePclapRsp x0 x1 x2 x3) (slateFlds ++ [SLT_FAIL_failed, EVT_DROP_dropped, PAR_STAT_state,
    PAR_STAT_role, PAR_STAT_up, PAR_CNT_split, PAR_CNT_crc, PAR_OFS, PAR_DIEBUD_bud]) [] [.out, .recd, .lpe, .acc, .thm, .hif,
    .slt, .par]) ∧
  (∀ x0 x1 x2, Leaves (.bridgePkg x0 x1 x2) (slateFlds ++ [SLT_FAIL_failed, EVT_DROP_dropped, PAR_STAT_state, PAR_STAT_role,
    PAR_STAT_up, PAR_CNT_split, PAR_CNT_crc, PAR_DIEBUD_bud]) [] [.out, .recd, .lpe, .acc, .thm, .hif, .slt, .par]) ∧
  (Leaves .bridgeRetransmit [PAR_CNT_rtx] [] [.out, .par]) ∧
  (∀ x0 x1 x2, Leaves (.bridgeSalg x0 x1 x2) (slateFlds ++ roleFlds ++ lateFlds ++ versionFlds ++ [SLT_FAIL_failed,
    EVT_DROP_dropped, MGT_STAT_state, PAR_STAT_state, PAR_STAT_role, PAR_STAT_up, PAR_CNT_split, PAR_CNT_crc, PAR_DIEBUD_bud]) []
    [.out, .recd, .lpe, .acc, .thm, .hif, .slt, .par, .mgt]) ∧
  (∀ x0 x1 x2, Leaves (.bridgeSync x0 x1 x2) (slateFlds ++ [SLT_FAIL_failed, EVT_DROP_dropped, PAR_STAT_state, PAR_STAT_role,
    PAR_STAT_up, PAR_STAT_ledger, PAR_STAT_term, PAR_CNT_split, PAR_CNT_crc, PAR_DIEBUD_bud]) [] [.out, .recd, .lpe, .acc, .thm,
    .hif, .slt, .par]) ∧
  (Leaves .bridgeUp [PAR_STAT_state, PAR_STAT_up, PAR_DIEBUD_bud] [] [.out, .lpe, .thm, .par]) ∧
  (Leaves .pairTakeover [ACT_PKG_BUD, EVT_DROP_dropped, PAR_STAT_role, PAR_STAT_term, PAR_CNT_failover, PAR_DIEBUD_bud] [] [.out,
    .recd, .lpe, .acc, .thm, .hif, .par, .mgt])

/-- What start-up, register and boundary commands leave unchanged. -/
def frameStart : Prop :=
  (Leaves .dieResetRelease [] [] [.rst]) ∧
  (Leaves .pllLock [MEM_STAT_clearing] [] [.running, .ts, .rst]) ∧
  (Leaves .pllLockLoss [RST_CAUSE_cause, RST_CAUSE_crowbar, RST_CAUSE_shutdown, RST_COUNT_poreset, RST_COUNT_refclk,
    RST_COUNT_pll, RST_LAST_TS_ts, VRC_STAT_state, VRC_STAT_fault, THM_STAT_state, THM_STAT_shut] [0, 1, 2, 3, 4, 5, 6, 7, 8, 9,
    10, 11, 12, 13, 14, 15, 16, 17, 18, 19, 20, 21, 22, 23] [.running, .ts, .mem, .recd, .cnt, .cntPend, .lanes, .chks, .droops,
    .cores, .tly, .ramp, .sns, .fcs, .lpe, .trc, .wfg, .cntZero, .dvfs, .pins, .vrc, .pmb, .acc, .thm, .hif, .slt, .par, .nvm,
    .smb, .fw, .rst, .hub, .fans, .mgt, .xovrMs]) ∧
  (Leaves .pllLockTimeout [RST_CAUSE_cause] [] [.rst]) ∧
  (Leaves .poresetAssert [RST_CAUSE_cause, RST_CAUSE_crowbar, RST_CAUSE_shutdown, RST_COUNT_poreset, RST_COUNT_refclk,
    RST_COUNT_pll, RST_LAST_TS_ts, VRC_STAT_state, VRC_STAT_fault, THM_STAT_state, THM_STAT_shut] [0, 1, 2, 3, 4, 5, 6, 7, 8, 9,
    10, 11, 12, 13, 14, 15, 16, 17, 18, 19, 20, 21, 22, 23] [.running, .ts, .mem, .recd, .cnt, .cntPend, .lanes, .chks, .droops,
    .cores, .tly, .ramp, .sns, .fcs, .lpe, .trc, .wfg, .cntZero, .dvfs, .pins, .vrc, .pmb, .acc, .thm, .hif, .slt, .par, .nvm,
    .smb, .fw, .rst, .hub, .fans, .mgt, .xovrMs]) ∧
  (Leaves .poresetNegate [] [] [.rst]) ∧
  (Leaves .powerDownEnd [RST_SEQ_stage, EVT_DROP_dropped, NVM_STAT_busy, NVM_MIRROR_deferred] [] [.out, .recd, .nvm, .rst]) ∧
  (Leaves .quefaReadyAssert [RST_SEQ_stage, RST_SEQ_cause, EVT_DROP_dropped] [] [.recd, .chks, .pins]) ∧
  (Leaves .refclkLoss [RST_CAUSE_cause, RST_CAUSE_crowbar, RST_CAUSE_shutdown, RST_COUNT_poreset, RST_COUNT_refclk, RST_COUNT_pll,
    RST_LAST_TS_ts, VRC_STAT_state, VRC_STAT_fault, THM_STAT_state, THM_STAT_shut] [0, 1, 2, 3, 4, 5, 6, 7, 8, 9, 10, 11, 12, 13,
    14, 15, 16, 17, 18, 19, 20, 21, 22, 23] [.running, .ts, .mem, .recd, .cnt, .cntPend, .lanes, .chks, .droops, .cores, .tly,
    .ramp, .sns, .fcs, .lpe, .trc, .wfg, .cntZero, .dvfs, .pins, .vrc, .pmb, .acc, .thm, .hif, .slt, .par, .nvm, .smb, .fw, .rst,
    .hub, .fans, .mgt, .xovrMs]) ∧
  (Leaves .shutdownDrainDone [RST_SEQ_stage, RST_SEQ_cause, CHK_ALLOW_now, CHK_ALLOW_in_droop, VRC_STAT_state, VRC_STAT_de,
    VRC_STAT_fault, VRC_LASTF, PMB_STAT_seq, PMB_RAIL_STAT_state, EVT_DROP_dropped, NVM_STAT_busy, NVM_MIRROR_deferred,
    PAR_STAT_role] [] [.out, .recd, .chks, .pins, .vrc, .pmb, .acc, .hif, .par, .nvm, .rst]) ∧
  (Leaves .spiPortRelease [NVM_STAT_busy] [] [.nvm]) ∧
  (∀ x0 x1 x2 x3 x4 x5 x6, Leaves (.sramClearDone x0 x1 x2 x3 x4 x5 x6) [RST_SEQ_stage, MEM_STAT_clearing, FW_STAT_state,
    EVT_DROP_dropped, NVM_STAT_found, NVM_STAT_quad, NVM_STAT_density, NVM_STAT_sfdp] [] [.mem, .recd, .fw]) ∧
  (Leaves .startupTake (settings ++ slateFlds ++ roleFlds ++ classFlds ++ tallyFlds ++ lateFlds ++ traceDropFlds ++
    [CLK_DVFS_STAT_target, CLK_DVFS_STAT_stage, CLK_DVFS_STAT_parked, RST_SEQ_stage, RST_SEQ_cause, RST_SEQ_board, RST_SEQ_auto,
    MEM_STAT_clearing, FW_STAT_state, FW_RCNT_count, FW_RCNT_cause, HIF_QUAR, HIF_RSTATE, SLT_TAKE_take, SLT_TAKE_WRAP_wraps,
    SLT_TAKE_T_instant, SNS_TLM_STAT_state, SNS_PHQ_current, SNS_PHQ_quality, SNS_ANC_broken, CHK_FB_STAT_state,
    CHK_FB_STAT_armed, CHK_DVFS_STAT_cancel, CHK_DVFS_STAT_deferred, CHK_ALLOW_now, CHK_ALLOW_in_droop, VRC_STAT_state,
    VRC_STAT_de, VRC_STAT_fault, VRC_VREF_vref, VRC_LASTF, PMB_STAT_seq, PMB_RAIL_STAT_state, THM_STAT_state, THM_STAT_blind,
    THM_STEP_STAT_pend, THM_SET_ID_ident, THM_SET_PER_period, THM_ANC_ST_run, FCS_SLOT_state, FCS_CORE_ln, FCS_CORE_fallback,
    FCS_DISCARD_unres, FCS_NFC_count, LPE_BUDGET_units, LPE_FAULT, LPE_OVR, TLY_POOL_ST_clamped, TLY_TEN_ST_committed,
    ACT_PKG_BUD, EVT_DROP_dropped, NVM_STAT_busy, NVM_MIRROR_deferred, CNT_WFG_busy, CNT_WFG_valid, FAN_DEF_deficit,
    MGT_STAT_state, MGT_BUD_bud, MGT_EPOCH, MGT_OFS, MGT_RATE_rate, PAR_STAT_state, PAR_STAT_role, PAR_DIEBUD_bud]) [10, 12, 18,
    20, 21, 22, 23] [.mem, .out, .recd, .cntPend, .chks, .droops, .cores, .tly, .ramp, .sns, .fcs, .lpe, .trc, .cntZero, .dvfs,
    .pins, .vrc, .pmb, .acc, .thm, .hif, .slt, .par, .nvm, .smb, .fw, .rst, .hub, .fans, .mgt]) ∧
  (Leaves .supplyRemoval [RST_CAUSE_crowbar, RST_CAUSE_shutdown] [0, 1, 2, 3, 4, 5, 6, 7, 8, 9, 10, 11, 12, 13, 14, 15, 16, 17,
    18, 19, 20, 21, 22, 23] [.running, .ts, .mem, .recd, .cnt, .cntPend, .lanes, .chks, .droops, .cores, .tly, .ramp, .sns, .fcs,
    .lpe, .trc, .wfg, .cntZero, .dvfs, .pins, .vrc, .pmb, .acc, .thm, .hif, .slt, .par, .nvm, .smb, .fw, .rst, .hub, .fans, .mgt,
    .xovrMs]) ∧
  (Leaves .supplyRise [RST_CAUSE_crowbar, RST_CAUSE_shutdown, VRC_STAT_state, VRC_STAT_fault, THM_STAT_state, THM_STAT_shut] [0,
    1, 2, 3, 4, 5, 6, 7, 8, 9, 10, 11, 12, 13, 14, 15, 16, 17, 18, 19, 20, 21, 22, 23] [.running, .ts, .mem, .recd, .cnt,
    .cntPend, .lanes, .chks, .droops, .cores, .tly, .ramp, .sns, .fcs, .lpe, .trc, .wfg, .cntZero, .dvfs, .pins, .vrc, .pmb, .acc,
    .thm, .hif, .slt, .par, .nvm, .smb, .fw, .rst, .hub, .fans, .mgt, .xovrMs]) ∧
  (Leaves .vddQfFall [RST_CAUSE_crowbar, RST_CAUSE_shutdown, VRC_STAT_state, VRC_STAT_fault, THM_STAT_state, THM_STAT_shut] [0, 1,
    2, 3, 4, 5, 6, 7, 8, 9, 10, 11, 12, 13, 14, 15, 16, 17, 18, 19, 20, 21, 22, 23] [.running, .ts, .mem, .recd, .cnt, .cntPend,
    .lanes, .chks, .droops, .cores, .tly, .ramp, .sns, .fcs, .lpe, .trc, .wfg, .cntZero, .dvfs, .pins, .vrc, .pmb, .acc, .thm,
    .hif, .slt, .par, .nvm, .smb, .fw, .rst, .hub, .fans, .mgt, .xovrMs]) ∧
  (∀ x0 x1 x2, Leaves (.fabricError x0 x1 x2) [HIF_STAT_fabric, HIF_QUAR, HIF_RSTATE, EVT_DROP_dropped, TRC_STAT_state] [] [.out,
    .recd, .trc, .hif, .par]) ∧
  (∀ x0 x1 x2 x3 x4, Leaves (.registerLowWordRead x0 x1 x2 x3 x4) [HIF_STAT_viol, HIF_QUAR, HIF_RSTATE, EVT_DROP_dropped] []
    [.out, .recd, .hif, .hub]) ∧
  (∀ x0 x1 x2 x3, Leaves (.registerWrite x0 x1 x2 x3) [GEN_SCRATCH_scratch, HIF_SDESC_base, HIF_SCPL_base, HIF_SNOTIFY_addr] []
    []) ∧
  (∀ x0 x1 x2, Leaves (.rwtDirectWrite x0 x1 x2) [SLT_RWT_offset, SLT_RWT_count] [] [.slt]) ∧
  (∀ x0 x1, Leaves (.snapshotSelect x0 x1) [HIF_TRING_SEL_tenant, HIF_TRING_SNAP, LPE_CTX_SEL_ctx, LPE_CTX_CFG, LPE_CTX_ST,
    TLY_OBJ_SEL_obj, TLY_OBJ, ACT_ACC_SEL_idx, ACT_ACC, CNT_WFG_SEL_edge, CNT_WFG_EDGE, MGT_MSEL_member, MGT_MSNAP] [] []) ∧
  (∀ x0 x1 x2 x3, Leaves (.w1cWrite x0 x1 x2 x3) [CLK_XOVR_ovr, CLK_XERR_err, MEM_VIOL_master, MEM_VIOL_bank, MEM_VIOL_region,
    MEM_VIOL_write, MEM_VIOL_valid, FCS_ARR_STAT_nan, FCS_ARR_STAT_inf] [] []) ∧
  (∀ x0, Leaves (.estimatorTick x0) [SNS_TLM_STAT_degraded, SNS_TLM_CNT_dup, VRC_STAT_de, VRC_STAT_exc, VRC_STAT_peak_spent,
    VRC_OCP_STAT_peak, VRC_OCP_STAT_avail, THM_RATE, FCS_ARR_STAT_util, FCS_ARR_STAT_qmax, LPE_LOAD_util, LPE_LOAD_stall,
    LPE_LOAD_qmax, ACT_COEF_CAL, ACT_EST_DIE, ACT_ACC_STAT_stray, EVT_DROP_dropped, EVT_DROP_qmax, CNT_TAP_VIOL_count] [] [.out,
    .recd, .cnt, .cntPend, .chks, .cores, .sns, .fcs, .lpe, .trc, .cntZero, .vrc, .acc, .thm, .hif, .slt, .par, .smb, .xovrMs])

end Sys2Proof.Claims

open Sys2Proof.Claims

/-- What telemetry frames, phase timeouts and the dispatch tap do. The conditions on instants are the model's choice (log entry
  2); other readings that clauses rest on are log entries 27, 28, 158. -/
def Obligations.TelemetryTap : Prop :=
  tlmFrameAccepted ∧ tlmFrameCrc ∧ tlmLaneDark ∧ phaseStale ∧ phaseFrozen ∧ phaseTempStale ∧ dispatch ∧ dispatchTwice ∧
    dispatchMismatch ∧ beginStrobe ∧ endStrobe ∧ squashStrobe

/-- What tally requests, grants and releases do. The conditions on instants are the model's choice (log entry 2); other readings
  that clauses rest on are log entries 4. -/
def Obligations.TallyRequests : Prop :=
  tallyRequestHeld ∧ tallyRequestRefused ∧ tallyRequestPresent ∧ tallyAdmit ∧ tallyGrant ∧ tallyRelease ∧ tallyReleaseWrong ∧
    tallyAutoRelease

/-- What reservations, recalls and step mode do to tallies. The conditions on instants are the model's choice (log entry 2); other
  readings that clauses rest on are log entries 4. -/
def Obligations.TallyRecalls : Prop :=
  requestAged ∧ reservationTake ∧ reservationMet ∧ reservationRecall ∧ recallNoProgress ∧ recallEligible ∧ tallyRegrant ∧
    stepPresent

/-- What choker windows, ramp ticks, droops and the firebreak do. The conditions on instants are the model's choice (log entry 2);
  other readings that clauses rest on are log entries 48, 158. -/
def Obligations.Chokers : Prop :=
  chokerWindowFirst ∧ chokerWindowLink ∧ rampTick ∧ droopDetect ∧ droopHoldExpire ∧ snsDrpForceWrite ∧ vrAlertAssert ∧
    vrAlertNegate ∧ firebreakHoldoffExpire ∧ firebreakAwaits

/-- What the clock commands, outpost resets and frequency steps do. The conditions on instants are the model's choice (log entry
  2); other readings that clauses rest on are log entries 96, 97, 98, 99, 100, 101, 102, 103. -/
def Obligations.ClocksAndDvfs : Prop :=
  fmStart ∧ fmDone ∧ tsResync ∧ outpostResetCore ∧ outpostResetLink ∧ outpostRelease ∧ outpostReleaseForced ∧ outpostReleaseLink ∧
    dvfsRequestUp ∧ dvfsRequestDown ∧ dvfsVoltageReady ∧ dvfsSwitchUp ∧ dvfsSwitchDown ∧ dvfsHalfParked ∧ dvfsLockTimeout ∧
    dvfsRetry

/-- What the core-rail controller does at its instants. The conditions on instants are the model's choice (log entry 2); other
  readings that clauses rest on are log entries 34, 35, 36, 37, 38, 40, 160, 161, 162, 163. -/
def Obligations.CoreRail : Prop :=
  pidSample ∧ vrefRampStep ∧ enableDropStop ∧ enableDropFault ∧ pwmPeriodStart ∧ phaseLeadingEdge ∧ deEnter ∧ iTotFormed ∧
    iTotTrips ∧ uvTimeout ∧ overVoltage ∧ trackDelivery ∧ trackHoldStart ∧ trackHoldStop

/-- What PMBus transactions, groups, sweeps and alerts do. The conditions on instants are the model's choice (log entry 2); other
  readings that clauses rest on are log entries 26, 42, 43, 44, 45, 171. -/
def Obligations.AuxiliaryRails : Prop :=
  pmbTransactionDone ∧ pmbTransactionRetry ∧ pmbGroupStart ∧ pmbGroupTimeout ∧ pmbGroupRetry ∧ pmbGroupOffTimeout ∧ pmbSweepStart
    ∧ pmbSweepSkip ∧ pmbAlert ∧ pmbAlertEnds ∧ pmbAlertMaskEnd ∧ pmbBusStuck ∧ pmbBusFree ∧ coreStartDelay

/-- What estimator ticks, forecasts and loop evaluations do. The conditions on instants are the model's choice (log entry 2);
  other readings that clauses rest on are log entries 41, 46, 47, 50, 54, 55, 58, 157, 164, 165, 166, 172, 173. -/
def Obligations.EstimateForecastLoops : Prop :=
  estimatorTick ∧ measFinalise ∧ calibrationApply ∧ anchorPublish ∧ anchorFault ∧ periodicSnapshot ∧ periodicSnapshotStopped ∧
    promptSnapshot ∧ forecastOutput ∧ lnModeChange ∧ loopRelease ∧ loopReleaseOverrun ∧ loopSkip ∧ loopEvaluationPI ∧
    loopEvaluationFilt

/-- What anchors, thermal steps and the thermal protection do. The conditions on instants are the model's choice (log entry 2);
  other readings that clauses rest on are log entries 59, 61, 62, 63, 64, 65, 66, 154, 167. -/
def Obligations.ThermalModel : Prop :=
  anchorConversion ∧ anchorConversionFails ∧ thermalStep ∧ thermalStepLate ∧ thermalStepNewSet ∧ thermalStepOverrun ∧
    thermalStepBad ∧ thermalStepComplete ∧ bandFall ∧ shutdownDrainExpire ∧ modelInit ∧ reinitRecover ∧ anchorCorrection ∧
    cplateLocal ∧ thmTinWrite ∧ thmTinReject

/-- What doorbells, descriptor fetches and their failures do. The conditions on instants are the model's choice (log entry 2);
  other readings that clauses rest on are log entries 69, 72. -/
def Obligations.Doorbells : Prop :=
  doorbellProdWrite ∧ doorbellProdViolation ∧ doorbellQuarantines ∧ doorbellIgnored ∧ doorbellCqHeadWrite ∧ doorbellBadAccess ∧
    doorbellBadRead ∧ doorbellRead ∧ doorbellShows ∧ doorbellStray ∧ bucketLeak ∧ descriptorFetched ∧ descriptorRetried ∧
    descriptorFailed

/-- What a turn of the rings, HELLO and the release from quarantine do. The conditions on instants are the model's choice (log
  entry 2); other readings that clauses rest on are log entries 70, 71, 73, 176. -/
def Obligations.RingsAndQuarantine : Prop :=
  fp2TurnSteward ∧ fp2TurnRefused ∧ hello ∧ helloRefused ∧ quarantineResume ∧ quarantineResumeRefused ∧ quarantineReset ∧
    quarantineResetDrained ∧ hifSctlEnable ∧ hifSctlBadSize ∧ hifSctlDisable

/-- What reconciliation, jobs, energy reads and caps do. The conditions on instants are the model's choice (log entry 2); other
  readings that clauses rest on are log entries 68, 74, 75, 76, 174. -/
def Obligations.Accounts : Prop :=
  reconciliation ∧ jobOpen ∧ jobOpenFull ∧ jobClose ∧ jobCloseRefused ∧ jobCloseOpening ∧ readEnergy ∧ setTenantCap

/-- What the event recorder, its reads and clears and civil time do. The conditions on instants are the model's choice (log entry
  2); other readings that clauses rest on are log entries 7, 25, 80, 81. -/
def Obligations.EventRecorder : Prop :=
  eventRecordAccept ∧ eventRecordLost ∧ heartwoodProgram ∧ evtRead ∧ evtReadRefused ∧ evtClear ∧ evtClearRefused ∧ timeSet ∧
    timeSetRefused ∧ evtCivLatch ∧ evtCivInvalid

/-- What flash operations, mirrors, last-fault records and the restore do. The conditions on instants are the model's choice (log
  entry 2); other readings that clauses rest on are log entries 39, 82, 83, 84, 85, 87. -/
def Obligations.NonVolatileStore : Prop :=
  flashEraseDone ∧ flashProgramPage ∧ flashRecordDone ∧ flashCommitDone ∧ flashDoneWaits ∧ flashOpRetry ∧ flashOpFailed ∧
    lastFaultFlashWrite ∧ lastFaultWritten ∧ fp3StartupRestore ∧ mirrorDeferExpire

/-- What SMBus reads answer. The conditions on instants are the model's choice (log entry 2); other readings that clauses rest on
  are log entries 92. -/
def Obligations.SmbusReads : Prop :=
  smbIdent ∧ smbStatus ∧ smbTempHot ∧ smbAnchorLo ∧ smbAnchorHi ∧ smbTinRead ∧ smbTinWrite ∧ smbTinRejected ∧ smbTinDisabled ∧
    smbWrongPec ∧ smbPower

/-- What SMBus selections, writes and violations do. The conditions on instants are the model's choice (log entry 2); other
  readings that clauses rest on are log entries 30, 92. -/
def Obligations.SmbusWrites : Prop :=
  smbLastfPageRead ∧ smbLastfPageWrite ∧ smbLastf ∧ smbEvtSel ∧ smbEvtSelRegion ∧ smbEvtData ∧ smbEvtDataGone ∧ smbTime ∧
    smbBusTimeout ∧ smbUndefinedCommand

/-- What bank accesses, bring-up reads and the background test do. The conditions on instants are the model's choice (log entry
  2); other readings that clauses rest on are log entries 8, 21, 170. -/
def Obligations.MemoryAccess : Prop :=
  firmwareAccess ∧ firmwareViolation ∧ firmwareWriteViolation ∧ memBuRead ∧ memBuReadDone ∧ memBuReadRefused ∧ backgroundTest ∧
    backgroundTestRetires ∧ backgroundTestNoSpare

/-- What the slate commands do. The conditions on instants are the model's choice (log entry 2); other readings that clauses rest
  on are log entries 31, 121, 123, 124. -/
def Obligations.SlateCommands : Prop :=
  slateOpen ∧ slateOpenFull ∧ slateWrite ∧ slateWriteRefused ∧ abandon ∧ abandonHandle ∧ slateCheck ∧ slateCheckRefused

/-- What takes do when they arm, apply or fail. The conditions on instants are the model's choice (log entry 2); other readings
  that clauses rest on are log entries 124, 126, 127, 128. -/
def Obligations.Takes : Prop :=
  take ∧ takeLimit ∧ takeArmed ∧ takePast ∧ takeApplyRing ∧ takeApplyWord ∧ takeFailed ∧ pairPrepareTimeout

/-- What watchdogs, image loads and forecast model loads do. The conditions on instants are the model's choice (log entry 2);
  other readings that clauses rest on are log entries 79, 88, 90, 91, 168, 169. -/
def Obligations.FirmwareAndModels : Prop :=
  watchdogStrike ∧ watchdogExpire ∧ fwException ∧ fwHalt ∧ fwImageLoaded ∧ fwImageCopyB ∧ fwImageHalted ∧ fcstLoad ∧ fcstLoadBusy
    ∧ fcstLoadComplete ∧ fcstLoadFailed ∧ fcstLoadJoint ∧ fcstLoadUnread ∧ slot0Load

/-- What the trace writer and the trace commands do. The conditions on instants are the model's choice (log entry 2); other
  readings that clauses rest on are log entries 94. -/
def Obligations.Trace : Prop :=
  traceGroupWrite ∧ traceGroupDrop ∧ traceConsumedReread ∧ traceConsumedWrong ∧ traceHeaderUpdate ∧ traceTimeGroup ∧
    traceTimeAfterLoss ∧ traceSample ∧ traceStart ∧ traceStartRefused ∧ traceStop ∧ traceStopIdle

/-- What counter commands, step mode and the wait-for graph do. The conditions on instants are the model's choice (log entry 2);
  other readings that clauses rest on are log entries 24, 32, 89. -/
def Obligations.CountersStepsGraphs : Prop :=
  traceFlush ∧ cntDump ∧ cntDumpShort ∧ cntZero ∧ stepEnter ∧ stepEnterAgain ∧ stepAdd ∧ stepLeave ∧ wfgStart ∧ wfgAutoTrigger ∧
    wfgComplete

/-- What fan periods, tachometers and spin-ups do. The conditions on instants are the model's choice (log entry 2); other readings
  that clauses rest on are log entries 33. -/
def Obligations.Fans : Prop :=
  fanPwmPeriod ∧ fanPwmShutdown ∧ tachEdgeCounts ∧ tachEdgeMeasures ∧ tachTimeout ∧ fanSpinupGood ∧ fanSpinupFailed ∧
    fanSpinupStalled ∧ fanRestEnd

/-- What Salgor messages do: forwarding, joining, demands and grants. The conditions on instants are the model's choice (log entry
  2); other readings that clauses rest on are log entries 112, 114, 117, 119. -/
def Obligations.SalgorMessages : Prop :=
  mgtForward ∧ mgtForwardTtl ∧ mgtBadCrc ∧ versionRefused ∧ versionAccepted ∧ demand ∧ demandLate ∧ grant ∧ grantLate ∧ heartbeat

/-- What heartbeats, coordination messages and claps do. The conditions on instants are the model's choice (log entry 2); other
  readings that clauses rest on are log entries 115, 116, 117, 118. -/
def Obligations.SalgorTime : Prop :=
  heartbeatTerm ∧ leave ∧ csync ∧ csyncAck ∧ clapReq ∧ clapRsp ∧ clapRun ∧ clapRunFailed ∧ clapRunEnd ∧ epochBoundary

/-- What epoch boundaries, the cut-off, grants and loss of a coordinator do. The conditions on instants are the model's choice
  (log entry 2); other readings that clauses rest on are log entries 113, 116, 119. -/
def Obligations.SalgorEpochs : Prop :=
  epochMissed ∧ demandSend ∧ salgorCutOff ∧ csyncSend ∧ grantSend ∧ orphanTimeout ∧ versionResend ∧ coordinatorAlone ∧
    standbyTakeover

/-- What the bridge does: validity, SYNC, checkpoints and mirrors. The conditions on instants are the model's choice (log entry
  2); other readings that clauses rest on are log entries 104, 105, 107, 108, 110, 175. -/
def Obligations.PairMessages : Prop :=
  bridgeHb ∧ bridgeBadCrc ∧ bridgeNotReceiving ∧ bridgeUp ∧ bridgeSyncSecondary ∧ bridgeSyncPrimary ∧ bridgeCkptPart ∧
    bridgeCkptLast ∧ bridgeMirror ∧ bridgeMack ∧ bridgeDiepwr

/-- What the messages of power, plates, ledgers and claps do, and the loss of the bridge. The conditions on instants are the
  model's choice (log entry 2); other readings that clauses rest on are log entries 77, 78, 106, 111. -/
def Obligations.PairState : Prop :=
  bridgePkg ∧ bridgeCplate ∧ bridgeLedger ∧ bridgeSalg ∧ bridgeHandover ∧ bridgePclapReq ∧ bridgePclapRsp ∧ bridgeClapSend ∧
    bridgeRetransmit ∧ bridgeCheckpointTimer ∧ bridgeLoss

/-- What the take-over and the messages of a pair take do. The conditions on instants are the model's choice (log entry 2); other
  readings that clauses rest on are log entries 109, 124, 125, 126. -/
def Obligations.PairTakes : Prop :=
  pairTakeover ∧ bridgeReady ∧ bridgeRefuse ∧ bridgeCommit ∧ bridgeAck ∧ bridgeDone ∧ bridgeAbort ∧ bridgePrepare ∧
    bridgePrepareLast

/-- What supplies, PORESET_N, REFCLK and the root PLL do. The conditions on instants are the model's choice (log entry 2); other
  readings that clauses rest on are log entries 133, 134, 135, 136, 137, 138. -/
def Obligations.ResetsAndSupplies : Prop :=
  supplyRise ∧ vddQfFall ∧ supplyRemoval ∧ poresetAssert ∧ poresetCrowbar ∧ poresetNegate ∧ refclkLoss ∧ pllLockLoss ∧
    dieResetRelease ∧ pllLock

/-- What clears, discovery, the start-up take, QUEFA_READY and power-down do. The conditions on instants are the model's choice
  (log entry 2); other readings that clauses rest on are log entries 139, 140, 141, 142, 148. -/
def Obligations.StartUp : Prop :=
  pllLockTimeout ∧ sramClearDone ∧ discovery ∧ discoveryFailed ∧ spiPortRelease ∧ startupTakeNotDue ∧ startupTake ∧
    quefaReadyAssert ∧ shutdownDrainDone ∧ powerDownEnd

/-- What register accesses and fabric errors do. The conditions on instants are the model's choice (log entry 2); other readings
  that clauses rest on are log entries 147, 149, 150, 151, 152. -/
def Obligations.RegisterAccess : Prop :=
  fabricErrorStops ∧ fabricErrorRead ∧ fabricErrorTrace ∧ snapshotObject ∧ snapshotAccount ∧ snapshotRing ∧ w1cWrite ∧ w1cKeeps ∧
    rwtDirectWrite ∧ unprivileged ∧ registerWrite ∧ registerRead ∧ registerReadWide ∧ registerReadGated

/-- What sensing, choker, tap and tally commands leave unchanged. -/
def Obligations.FrameSensing : Prop :=
  frameSensing

/-- What the commands of the core rail and the auxiliary rails leave unchanged. -/
def Obligations.FrameRails : Prop :=
  frameRails

/-- What forecast, loop and thermal commands leave unchanged. -/
def Obligations.FrameLoops : Prop :=
  frameLoops

/-- What ring and account commands leave unchanged. -/
def Obligations.FrameRings : Prop :=
  frameRings

/-- What recorder, flash, SMBus and memory commands leave unchanged. -/
def Obligations.FrameStore : Prop :=
  frameStore

/-- What slate, take and firmware commands leave unchanged. -/
def Obligations.FrameTakes : Prop :=
  frameTakes

/-- What trace, counter, fan and clock commands leave unchanged. -/
def Obligations.FrameObserve : Prop :=
  frameObserve

/-- What Salgor commands leave unchanged. -/
def Obligations.FrameSalgor : Prop :=
  frameSalgor

/-- What bridge commands leave unchanged. -/
def Obligations.FramePair : Prop :=
  framePair

/-- What start-up, register and boundary commands leave unchanged. -/
def Obligations.FrameStart : Prop :=
  frameStart

/-- A step runs the command at the front of the queue; with none, one hub cycle passes. That the block idles one hub cycle is the
  model's choice (log entry 1). -/
def Obligations.StepTakesFront : Prop :=
  stepRunsFront ∧ idleCounts

/-- The state after reset: nothing waits, no island runs, both memories are canonical, registers read their reset values. Where
  the spec gives no reset value the value is the model's choice (log entries 3, 9 and 23). -/
def Obligations.ResetState : Prop :=
  resetState

/-- Every step of every state answers a next state. -/
def Obligations.AlwaysAnswers : Prop :=
  alwaysAnswers

/-- Every step keeps the canonical form of the banks and of the flash. What an unlisted byte reads as is the model's choice (log
  entry 23). -/
def Obligations.MemoriesStayCanonical : Prop :=
  memoriesKept

/-- No command touches the waiting queue, a fused value or, but for resets and the lock, the timestamp. That fused values are data
  of the state is the model's choice (log entry 3). -/
def Obligations.Ownership : Prop :=
  queueKept ∧ fusesKept ∧ timestampKept

/-- A setting changes by a take, a reset, a scheduled budget or, at a secondary, a mirrored value alone. -/
def Obligations.SettingsByTake : Prop :=
  settingsByTake

/-- CROWBAR and SHUTDOWN stay latched, and repaired regions repaired, until the supply goes. That a rise of VDD_QF without a
  removal keeps the latches is the model's choice between two rules (log entry 134). -/
def Obligations.LatchesHold : Prop :=
  latchesHold ∧ repairsHold

/-- In die reset only the reset, clock and supply commands change anything. That nothing of a unit acts in die reset is the
  model's reading (log entry 133). -/
def Obligations.QuietInReset : Prop :=
  quietInReset

/-- No command but the accepting of a record or a reset takes a record out of the recorder's queue. -/
def Obligations.RecordsWait : Prop :=
  recordsWait

/-- What happens to one fan, ring, engine, choker, phase, context, processor or slate leaves the others. -/
def Obligations.Apart : Prop :=
  fansApart ∧ ringsApart ∧ tapsApart ∧ chokersApart ∧ droopsApart ∧ phasesApart ∧ contextsApart ∧ processorsApart ∧ slatesApart

/-- Which bytes of the banks and of the flash each command that stores may change. The free bytes of log entry 21 are no part of
  these memories. -/
def Obligations.MemoryBytes : Prop :=
  accessBytes ∧ testBytes ∧ recordBytes ∧ cacheBytes ∧ bankBytes ∧ flashBytes

/-- The caps of the active tenants never sum to more than what is available. -/
def Obligations.CapsWithin : Prop :=
  capsWithin

/-- The grants of an epoch stay within the domain budget and above every member's decay. -/
def Obligations.GrantsWithin : Prop :=
  grantsWithin

/-- The decay of a member never raises a value and never falls below the smaller of safe and x. -/
def Obligations.DecayFalls : Prop :=
  decayFalls

/-- Serial comparison: later, equal and earlier by the difference modulo 2^n. -/
def Obligations.SerialOrder : Prop :=
  serialOrder

/-- Releases are issued by earliest deadline, smallest k and lowest context, never after their deadline. -/
def Obligations.ReleaseOrder : Prop :=
  releaseOrder

/-- The take number is 0 after reset, is compared serially, and its wraps are counted. -/
def Obligations.TakeNumbers : Prop :=
  takeNumbers

/-- What the block does as a hub cycle with no command ends: the accesses of the banks, the recalls and Grant items of the tallies, the
  firebreak's release and the coordinator's allocation. That these are judged then is the model's reading (log entries 1, 4, 8). -/
def Obligations.HubCycle : Prop :=
  firmwareWrite ∧ firmwareRead ∧ firmwareDouble ∧ memoryPriority ∧ memorySameLine ∧ recallReported ∧ grantDriven ∧
    firebreakReleased ∧ salgorAllocation
end

