-- ==== Sys2Proof/Laws/Memory.lean ====
section
/-!
SUPPORT. Laws/Memory.lean: sparse maps keep rising keys, the memories keep their canonical form, and a read after a write.
-/
namespace Sys2Proof

variable {α : Type}

theorem mrisingFrom_mono {m : SMap α} {a b : Nat} (hab : a ≤ b) (h : mrisingFrom b m = true) : mrisingFrom a m = true := by
  cases m with
  | nil => rfl
  | cons x t =>
    obtain ⟨k, v⟩ := x
    simp only [mrisingFrom, Bool.and_eq_true, decide_eq_true_eq] at h ⊢
    exact ⟨by omega, h.2⟩

theorem mrisingFrom_mput {m : SMap α} {b k : Nat} (v : α) (hk : b ≤ k) (h : mrisingFrom b m = true) :
    mrisingFrom b (mput m k v) = true := by
  induction m generalizing b with
  | nil => simp [mput, mrisingFrom, hk]
  | cons x t ih =>
    obtain ⟨q, w⟩ := x
    simp only [mrisingFrom, Bool.and_eq_true, decide_eq_true_eq] at h
    simp only [mput]
    split
    · simp only [mrisingFrom, Bool.and_eq_true, decide_eq_true_eq]
      exact ⟨hk, by omega, h.2⟩
    · split
      · next e => subst e; simp only [mrisingFrom, Bool.and_eq_true, decide_eq_true_eq]; exact ⟨hk, h.2⟩
      · simp only [mrisingFrom, Bool.and_eq_true, decide_eq_true_eq]
        exact ⟨h.1, ih (by omega) h.2⟩

theorem mrisingFrom_filter {m : SMap α} {b : Nat} (p : Nat × α → Bool) (h : mrisingFrom b m = true) :
    mrisingFrom b (m.filter p) = true := by
  induction m generalizing b with
  | nil => rfl
  | cons x t ih =>
    obtain ⟨q, w⟩ := x
    simp only [mrisingFrom, Bool.and_eq_true, decide_eq_true_eq] at h
    simp only [List.filter_cons]
    split
    · simp only [mrisingFrom, Bool.and_eq_true, decide_eq_true_eq]
      exact ⟨h.1, ih h.2⟩
    · exact ih (mrisingFrom_mono (by omega) h.2)

theorem mrisingFrom_mdel {m : SMap α} {b : Nat} (k : Nat) (h : mrisingFrom b m = true) : mrisingFrom b (mdel m k) = true := by
  induction m generalizing b with
  | nil => rfl
  | cons x t ih =>
    obtain ⟨q, w⟩ := x
    simp only [mrisingFrom, Bool.and_eq_true, decide_eq_true_eq] at h
    simp only [mdel]
    split
    · exact mrisingFrom_mono (by omega) h.2
    · simp only [mrisingFrom, Bool.and_eq_true, decide_eq_true_eq]
      exact ⟨h.1, ih h.2⟩

/-- A key below the bound is not listed. -/
theorem mfind_below {m : SMap α} {b k : Nat} (hk : k < b) (h : mrisingFrom b m = true) : mfind m k = none := by
  induction m generalizing b with
  | nil => rfl
  | cons x t ih =>
    obtain ⟨q, w⟩ := x
    simp only [mrisingFrom, Bool.and_eq_true, decide_eq_true_eq] at h
    simp only [mfind]
    rw [if_neg (by omega)]
    exact ih (by omega) h.2

theorem mfind_mdel_ne (m : SMap α) {q k : Nat} (h : k ≠ q) : mfind (mdel m q) k = mfind m k := by
  induction m with
  | nil => rfl
  | cons x t ih =>
    obtain ⟨p, w⟩ := x
    simp only [mdel]
    split
    · next e => subst e; simp [mfind, Ne.symm h]
    · simp only [mfind]; rw [ih]

theorem mfind_mdel_same {m : SMap α} {b : Nat} (q : Nat) (h : mrisingFrom b m = true) : mfind (mdel m q) q = none := by
  induction m generalizing b with
  | nil => rfl
  | cons x t ih =>
    obtain ⟨p, w⟩ := x
    simp only [mrisingFrom, Bool.and_eq_true, decide_eq_true_eq] at h
    simp only [mdel]
    split
    · next e => exact mfind_below (b := p + 1) (by omega) h.2
    · next e => simp only [mfind]; rw [if_neg e]; exact ih h.2

theorem mem_of_mem_mput {m : SMap α} {k : Nat} {v : α} {c : Nat × α} (h : c ∈ mput m k v) : c ∈ m ∨ c = (k, v) := by
  induction m with
  | nil => simp only [mput, List.mem_singleton] at h; exact Or.inr h
  | cons x t ih =>
    obtain ⟨q, w⟩ := x
    simp only [mput] at h
    split at h
    · rcases List.mem_cons.mp h with e | e
      · exact Or.inr e
      · exact Or.inl e
    · split at h
      · rcases List.mem_cons.mp h with e | e
        · exact Or.inr e
        · exact Or.inl (List.mem_cons_of_mem _ e)
      · rcases List.mem_cons.mp h with e | e
        · exact Or.inl (e ▸ List.mem_cons_self ..)
        · rcases ih e with e | e
          · exact Or.inl (List.mem_cons_of_mem _ e)
          · exact Or.inr e

theorem mem_of_mem_mdel {m : SMap α} {k : Nat} {c : Nat × α} (h : c ∈ mdel m k) : c ∈ m := by
  induction m with
  | nil => exact h
  | cons x t ih =>
    obtain ⟨q, w⟩ := x
    simp only [mdel] at h
    split at h
    · exact List.mem_cons_of_mem _ h
    · rcases List.mem_cons.mp h with e | e
      · exact e ▸ List.mem_cons_self ..
      · exact List.mem_cons_of_mem _ (ih e)

namespace Machine

/-! ### Reading a sparse map after a write -/

theorem mfind_mput_same (m : SMap α) (q : Nat) (v : α) : mfind (mput m q v) q = some v := by
  induction m with
  | nil => simp [mput, mfind]
  | cons x t ih =>
    obtain ⟨k, w⟩ := x
    simp only [mput]
    split
    · simp [mfind]
    · split
      · simp [mfind]
      · simp only [mfind]
        rw [if_neg (fun h => by simp_all)]
        exact ih

theorem mfind_mput_ne (m : SMap α) {q k : Nat} (v : α) (h : k ≠ q) : mfind (mput m q v) k = mfind m k := by
  induction m with
  | nil => simp [mput, mfind, Ne.symm h]
  | cons x t ih =>
    obtain ⟨k0, w⟩ := x
    simp only [mput]
    split
    · simp [mfind, Ne.symm h]
    · split
      · next e => subst e; simp [mfind, Ne.symm h]
      · simp only [mfind]; rw [ih]

theorem mget_mput_same (m : SMap α) (q : Nat) (v d : α) : mget (mput m q v) q d = v := by
  simp [mget, mfind_mput_same]

theorem mget_mput_ne (m : SMap α) {q k : Nat} (v d : α) (h : k ≠ q) : mget (mput m q v) k d = mget m k d := by
  simp [mget, mfind_mput_ne m v h]

theorem mfind_filter (p : Nat → Bool) (m : SMap α) (k : Nat) :
    mfind (m.filter fun e => p e.1) k = if p k then mfind m k else none := by
  induction m with
  | nil => simp [mfind]
  | cons x t ih =>
    obtain ⟨k0, w⟩ := x
    simp only [List.filter_cons]
    split
    · next hp =>
      simp only [mfind]
      split
      · next e => subst e; simp [hp]
      · exact ih
    · next hp =>
      simp only [mfind]
      rw [ih]
      split
      · split
        · next e => subst e; simp_all
        · rfl
      · rfl

/-! ### The canonical form of a memory -/

theorem memOk_iff {m : List Host.Cell} {d : Byte} : memOk m d = true ↔ mrisingFrom 0 m = true ∧ ∀ c ∈ m, c.2 ≠ d := by
  simp [memOk, mwf, List.all_eq_true]

theorem memOk_write {m : List Host.Cell} {d : Byte} (a : Nat) (b : Byte) (h : memOk m d = true) : memOk (memWrite m d a b) d = true := by
  rw [memOk_iff] at h ⊢
  unfold memWrite
  split
  · exact ⟨mrisingFrom_mdel a h.1, fun c hc => h.2 c (mem_of_mem_mdel hc)⟩
  · next hb =>
    refine ⟨mrisingFrom_mput b (Nat.zero_le a) h.1, fun c hc => ?_⟩
    rcases mem_of_mem_mput hc with e | e
    · exact h.2 c e
    · rw [e]; exact hb

theorem memOk_writeBytes {m : List Host.Cell} {d : Byte} (a : Nat) (bs : List Byte) (h : memOk m d = true) :
    memOk (memWriteBytes m d a bs) d = true := by
  induction bs generalizing m a with
  | nil => exact h
  | cons b t ih => exact ih _ (memOk_write a b h)

theorem memOk_filter {m : List Host.Cell} {d : Byte} (p : Host.Cell → Bool) (h : memOk m d = true) : memOk (m.filter p) d = true := by
  rw [memOk_iff] at h ⊢
  exact ⟨mrisingFrom_filter p h.1, fun c hc => h.2 c (List.mem_filter.mp hc).1⟩

theorem memRead_write_ne (m : List Host.Cell) (d : Byte) {a q : Nat} (b : Byte) (h : q ≠ a) :
    memRead (memWrite m d a b) d q = memRead m d q := by
  unfold memRead memWrite mget
  split
  · rw [mfind_mdel_ne m h]
  · rw [mfind_mput_ne m b h]

theorem memRead_write_same {m : List Host.Cell} {d : Byte} (a : Nat) (b : Byte) (h : memOk m d = true) :
    memRead (memWrite m d a b) d a = b := by
  unfold memRead memWrite mget
  split
  · next e => rw [mfind_mdel_same a (memOk_iff.mp h).1, e]; rfl
  · rw [mfind_mput_same]; rfl

theorem memRead_writeBytes_ne (m : List Host.Cell) (d : Byte) {a q : Nat} (bs : List Byte) (h : q < a ∨ a + bs.length ≤ q) :
    memRead (memWriteBytes m d a bs) d q = memRead m d q := by
  induction bs generalizing m a with
  | nil => rfl
  | cons b t ih =>
    simp only [memWriteBytes, List.length_cons] at h ⊢
    rw [ih (memWrite m d a b) (by omega), memRead_write_ne m d b (by omega)]

theorem memRead_writeBytes_in {m : List Host.Cell} {d : Byte} {a k : Nat} {bs : List Byte} (h : memOk m d = true) (hk : k < bs.length) :
    memRead (memWriteBytes m d a bs) d (a + k) = bs[k] := by
  induction bs generalizing m a k with
  | nil => exact absurd hk (Nat.not_lt_zero _)
  | cons b t ih =>
    simp only [memWriteBytes]
    cases k with
    | zero =>
      rw [memRead_writeBytes_ne _ _ _ (by omega)]
      exact memRead_write_same a b h
    | succ k =>
      have e : a + (k + 1) = a + 1 + k := by omega
      rw [e, ih (memOk_write a b h) (by simpa using hk)]
      rfl

theorem memRead_filter (m : List Host.Cell) (d : Byte) (p : Nat → Bool) (q : Nat) :
    memRead (m.filter fun c => p c.1) d q = if p q then memRead m d q else d := by
  unfold memRead mget
  rw [mfind_filter p m q]
  split <;> rfl

/-- Both memories are in canonical form. -/
def MemOk (s : State) : Prop := memOk s.mem bankDefault = true ∧ memOk s.flash flashDefault = true

theorem memoriesOk_iff {s : State} : s.memoriesOk = true ↔ MemOk s := by
  simp [State.memoriesOk, MemOk]

end Machine
end Sys2Proof
end

