-- ==== Sys2Proof/Laws/Frame.lean ====
section
/-!
SUPPORT. Laws/Frame.lean: footprints. A footprint numbers what a function may write: bit c for component c of State, bit 40 + u for all
registers of block u, bit 64 + unitBase u + j for register field j of block u. Frame m s t says that t differs from s nowhere outside
the footprint m. Whatever the footprint, the recorder's queue only grows (unless bit 4 is set) and the memories keep their canonical
form.
-/
namespace Sys2Proof.Machine

/-- The number of a block's first field in a footprint, less 64. -/
def unitBase (u : Nat) : Nat :=
  [0, 14, 40, 56, 83, 97, 118, 137, 162, 186, 244, 274, 346, 378, 398, 431, 464, 484, 500, 514, 528, 551, 603, 623].getD u 0

/-- The footprint m holds the field f. -/
def Has (m : Nat) (f : Fld) : Prop := ∃ u j, (unitFlds u)[j]? = some f ∧ m.testBit (64 + unitBase u + j) = true

/-- The footprint a lies within b. -/
def Sub (a b : Nat) : Prop := a &&& b = a

theorem Sub.refl (a : Nat) : Sub a a := Nat.and_self a

theorem Sub.bit {a b : Nat} (h : Sub a b) (n : Nat) (e : a.testBit n = true) : b.testBit n = true := by
  have h2 : (a &&& b).testBit n = true := by rw [h]; exact e
  rw [Nat.testBit_and] at h2
  simp only [Bool.and_eq_true] at h2
  exact h2.2

theorem Sub.of {a b m : Nat} (h : Sub b m) (e : a &&& b = a) : Sub a m := by
  unfold Sub at h ⊢
  calc a &&& m = (a &&& b) &&& m := by rw [e]
    _ = a &&& (b &&& m) := Nat.and_assoc a b m
    _ = a := by rw [h, e]

theorem Sub.has {a m : Nat} (h : Sub a m) {f : Fld} (u j : Nat) (e : (unitFlds u)[j]? = some f)
    (b : a.testBit (64 + unitBase u + j) = true) : Has m f := ⟨u, j, e, h.bit _ b⟩

theorem Has.mono {a m : Nat} {f : Fld} (h : Sub a m) : Has a f → Has m f
  | ⟨u, j, e, b⟩ => ⟨u, j, e, h.bit _ b⟩

/-! ### Frames -/

/-- The bit of a footprint that stands for every register of the block with the bit address k. -/
def unitBit (k : Nat) : Nat := 40 + min 23 (k / 0x20000)

/-- t differs from s in nothing outside the footprint m; the recorder's queue grows only at its end, unless bit 4 is set, and both
memories stay in canonical form. -/
structure Frame (m : Nat) (s t : State) : Prop where
  queue : m.testBit 4 = false → s.recd.queue <+: t.recd.queue
  memOk : MemOk s → MemOk t
  regs : ∀ k, (∀ f i, Has m f → k ≠ f.keyOf i) → m.testBit (unitBit k) = false → mfind t.regs k = mfind s.regs k
  pending : m.testBit 0 = false → t.pending = s.pending
  running : m.testBit 1 = false → t.running = s.running
  ts : m.testBit 2 = false → t.ts = s.ts
  fuse : m.testBit 3 = false → t.fuse = s.fuse
  mem : m.testBit 5 = false → t.mem = s.mem
  flash : m.testBit 6 = false → t.flash = s.flash
  out : m.testBit 7 = false → t.out = s.out
  recd : m.testBit 8 = false → t.recd = s.recd
  cnt : m.testBit 9 = false → t.cnt = s.cnt
  cntPend : m.testBit 10 = false → t.cntPend = s.cntPend
  lanes : m.testBit 11 = false → t.lanes = s.lanes
  chks : m.testBit 12 = false → t.chks = s.chks
  droops : m.testBit 13 = false → t.droops = s.droops
  cores : m.testBit 14 = false → t.cores = s.cores
  tly : m.testBit 15 = false → t.tly = s.tly
  ramp : m.testBit 16 = false → t.ramp = s.ramp
  sns : m.testBit 17 = false → t.sns = s.sns
  fcs : m.testBit 18 = false → t.fcs = s.fcs
  lpe : m.testBit 19 = false → t.lpe = s.lpe
  trc : m.testBit 20 = false → t.trc = s.trc
  wfg : m.testBit 21 = false → t.wfg = s.wfg
  cntZero : m.testBit 22 = false → t.cntZero = s.cntZero
  dvfs : m.testBit 23 = false → t.dvfs = s.dvfs
  pins : m.testBit 24 = false → t.pins = s.pins
  vrc : m.testBit 25 = false → t.vrc = s.vrc
  pmb : m.testBit 26 = false → t.pmb = s.pmb
  acc : m.testBit 27 = false → t.acc = s.acc
  thm : m.testBit 28 = false → t.thm = s.thm
  hif : m.testBit 29 = false → t.hif = s.hif
  slt : m.testBit 30 = false → t.slt = s.slt
  par : m.testBit 31 = false → t.par = s.par
  nvm : m.testBit 32 = false → t.nvm = s.nvm
  smb : m.testBit 33 = false → t.smb = s.smb
  fw : m.testBit 34 = false → t.fw = s.fw
  rst : m.testBit 35 = false → t.rst = s.rst
  hub : m.testBit 36 = false → t.hub = s.hub
  fans : m.testBit 37 = false → t.fans = s.fans
  mgt : m.testBit 38 = false → t.mgt = s.mgt
  xovrMs : m.testBit 39 = false → t.xovrMs = s.xovrMs

theorem Frame.refl (m : Nat) (s : State) : Frame m s s := by
  constructor <;> intros <;> first | rfl | assumption

theorem Frame.trans {m : Nat} {s t u : State} (h : Frame m s t) (g : Frame m t u) : Frame m s u where
  queue e := (h.queue e).trans (g.queue e)
  memOk e := g.memOk (h.memOk e)
  regs k hk hu := (g.regs k hk hu).trans (h.regs k hk hu)
  pending e := (g.pending e).trans (h.pending e)
  running e := (g.running e).trans (h.running e)
  ts e := (g.ts e).trans (h.ts e)
  fuse e := (g.fuse e).trans (h.fuse e)
  mem e := (g.mem e).trans (h.mem e)
  flash e := (g.flash e).trans (h.flash e)
  out e := (g.out e).trans (h.out e)
  recd e := (g.recd e).trans (h.recd e)
  cnt e := (g.cnt e).trans (h.cnt e)
  cntPend e := (g.cntPend e).trans (h.cntPend e)
  lanes e := (g.lanes e).trans (h.lanes e)
  chks e := (g.chks e).trans (h.chks e)
  droops e := (g.droops e).trans (h.droops e)
  cores e := (g.cores e).trans (h.cores e)
  tly e := (g.tly e).trans (h.tly e)
  ramp e := (g.ramp e).trans (h.ramp e)
  sns e := (g.sns e).trans (h.sns e)
  fcs e := (g.fcs e).trans (h.fcs e)
  lpe e := (g.lpe e).trans (h.lpe e)
  trc e := (g.trc e).trans (h.trc e)
  wfg e := (g.wfg e).trans (h.wfg e)
  cntZero e := (g.cntZero e).trans (h.cntZero e)
  dvfs e := (g.dvfs e).trans (h.dvfs e)
  pins e := (g.pins e).trans (h.pins e)
  vrc e := (g.vrc e).trans (h.vrc e)
  pmb e := (g.pmb e).trans (h.pmb e)
  acc e := (g.acc e).trans (h.acc e)
  thm e := (g.thm e).trans (h.thm e)
  hif e := (g.hif e).trans (h.hif e)
  slt e := (g.slt e).trans (h.slt e)
  par e := (g.par e).trans (h.par e)
  nvm e := (g.nvm e).trans (h.nvm e)
  smb e := (g.smb e).trans (h.smb e)
  fw e := (g.fw e).trans (h.fw e)
  rst e := (g.rst e).trans (h.rst e)
  hub e := (g.hub e).trans (h.hub e)
  fans e := (g.fans e).trans (h.fans e)
  mgt e := (g.mgt e).trans (h.mgt e)
  xovrMs e := (g.xovrMs e).trans (h.xovrMs e)

theorem Sub.notBit {a m : Nat} (h : Sub a m) {n : Nat} (e : m.testBit n = false) : a.testBit n = false := by
  cases ha : a.testBit n with
  | false => rfl
  | true => rw [h.bit n ha] at e; exact e

theorem Frame.mono {a m : Nat} {s t : State} (hm : Sub a m) (h : Frame a s t) : Frame m s t where
  queue e := h.queue (hm.notBit e)
  memOk := h.memOk
  regs k hk hu := h.regs k (fun f i hf => hk f i (hf.mono hm)) (hm.notBit hu)
  pending e := h.pending (hm.notBit e)
  running e := h.running (hm.notBit e)
  ts e := h.ts (hm.notBit e)
  fuse e := h.fuse (hm.notBit e)
  mem e := h.mem (hm.notBit e)
  flash e := h.flash (hm.notBit e)
  out e := h.out (hm.notBit e)
  recd e := h.recd (hm.notBit e)
  cnt e := h.cnt (hm.notBit e)
  cntPend e := h.cntPend (hm.notBit e)
  lanes e := h.lanes (hm.notBit e)
  chks e := h.chks (hm.notBit e)
  droops e := h.droops (hm.notBit e)
  cores e := h.cores (hm.notBit e)
  tly e := h.tly (hm.notBit e)
  ramp e := h.ramp (hm.notBit e)
  sns e := h.sns (hm.notBit e)
  fcs e := h.fcs (hm.notBit e)
  lpe e := h.lpe (hm.notBit e)
  trc e := h.trc (hm.notBit e)
  wfg e := h.wfg (hm.notBit e)
  cntZero e := h.cntZero (hm.notBit e)
  dvfs e := h.dvfs (hm.notBit e)
  pins e := h.pins (hm.notBit e)
  vrc e := h.vrc (hm.notBit e)
  pmb e := h.pmb (hm.notBit e)
  acc e := h.acc (hm.notBit e)
  thm e := h.thm (hm.notBit e)
  hif e := h.hif (hm.notBit e)
  slt e := h.slt (hm.notBit e)
  par e := h.par (hm.notBit e)
  nvm e := h.nvm (hm.notBit e)
  smb e := h.smb (hm.notBit e)
  fw e := h.fw (hm.notBit e)
  rst e := h.rst (hm.notBit e)
  hub e := h.hub (hm.notBit e)
  fans e := h.fans (hm.notBit e)
  mgt e := h.mgt (hm.notBit e)
  xovrMs e := h.xovrMs (hm.notBit e)

variable {m : Nat} {s0 s : State}

theorem Frame.set_ts (h0 : m.testBit 2 = true) (h : Frame m s0 s) {v0} :
    Frame m s0 { s with ts := v0 } :=
  { h with ts := fun e => absurd (h0.symm.trans e) (by decide) }

theorem Frame.set_out (h0 : m.testBit 7 = true) (h : Frame m s0 s) {v0} :
    Frame m s0 { s with out := v0 } :=
  { h with out := fun e => absurd (h0.symm.trans e) (by decide) }

theorem Frame.set_cnt (h0 : m.testBit 9 = true) (h : Frame m s0 s) {v0} :
    Frame m s0 { s with cnt := v0 } :=
  { h with cnt := fun e => absurd (h0.symm.trans e) (by decide) }

theorem Frame.set_cntPend (h0 : m.testBit 10 = true) (h : Frame m s0 s) {v0} :
    Frame m s0 { s with cntPend := v0 } :=
  { h with cntPend := fun e => absurd (h0.symm.trans e) (by decide) }

theorem Frame.set_lanes (h0 : m.testBit 11 = true) (h : Frame m s0 s) {v0} :
    Frame m s0 { s with lanes := v0 } :=
  { h with lanes := fun e => absurd (h0.symm.trans e) (by decide) }

theorem Frame.set_chks (h0 : m.testBit 12 = true) (h : Frame m s0 s) {v0} :
    Frame m s0 { s with chks := v0 } :=
  { h with chks := fun e => absurd (h0.symm.trans e) (by decide) }

theorem Frame.set_droops (h0 : m.testBit 13 = true) (h : Frame m s0 s) {v0} :
    Frame m s0 { s with droops := v0 } :=
  { h with droops := fun e => absurd (h0.symm.trans e) (by decide) }

theorem Frame.set_cores (h0 : m.testBit 14 = true) (h : Frame m s0 s) {v0} :
    Frame m s0 { s with cores := v0 } :=
  { h with cores := fun e => absurd (h0.symm.trans e) (by decide) }

theorem Frame.set_tly (h0 : m.testBit 15 = true) (h : Frame m s0 s) {v0} :
    Frame m s0 { s with tly := v0 } :=
  { h with tly := fun e => absurd (h0.symm.trans e) (by decide) }

theorem Frame.set_ramp (h0 : m.testBit 16 = true) (h : Frame m s0 s) {v0} :
    Frame m s0 { s with ramp := v0 } :=
  { h with ramp := fun e => absurd (h0.symm.trans e) (by decide) }

theorem Frame.set_sns (h0 : m.testBit 17 = true) (h : Frame m s0 s) {v0} :
    Frame m s0 { s with sns := v0 } :=
  { h with sns := fun e => absurd (h0.symm.trans e) (by decide) }

theorem Frame.set_fcs (h0 : m.testBit 18 = true) (h : Frame m s0 s) {v0} :
    Frame m s0 { s with fcs := v0 } :=
  { h with fcs := fun e => absurd (h0.symm.trans e) (by decide) }

theorem Frame.set_lpe (h0 : m.testBit 19 = true) (h : Frame m s0 s) {v0} :
    Frame m s0 { s with lpe := v0 } :=
  { h with lpe := fun e => absurd (h0.symm.trans e) (by decide) }

theorem Frame.set_trc (h0 : m.testBit 20 = true) (h : Frame m s0 s) {v0} :
    Frame m s0 { s with trc := v0 } :=
  { h with trc := fun e => absurd (h0.symm.trans e) (by decide) }

theorem Frame.set_wfg (h0 : m.testBit 21 = true) (h : Frame m s0 s) {v0} :
    Frame m s0 { s with wfg := v0 } :=
  { h with wfg := fun e => absurd (h0.symm.trans e) (by decide) }

theorem Frame.set_cntZero (h0 : m.testBit 22 = true) (h : Frame m s0 s) {v0} :
    Frame m s0 { s with cntZero := v0 } :=
  { h with cntZero := fun e => absurd (h0.symm.trans e) (by decide) }

theorem Frame.set_dvfs (h0 : m.testBit 23 = true) (h : Frame m s0 s) {v0} :
    Frame m s0 { s with dvfs := v0 } :=
  { h with dvfs := fun e => absurd (h0.symm.trans e) (by decide) }

theorem Frame.set_pins (h0 : m.testBit 24 = true) (h : Frame m s0 s) {v0} :
    Frame m s0 { s with pins := v0 } :=
  { h with pins := fun e => absurd (h0.symm.trans e) (by decide) }

theorem Frame.set_vrc (h0 : m.testBit 25 = true) (h : Frame m s0 s) {v0} :
    Frame m s0 { s with vrc := v0 } :=
  { h with vrc := fun e => absurd (h0.symm.trans e) (by decide) }

theorem Frame.set_pmb (h0 : m.testBit 26 = true) (h : Frame m s0 s) {v0} :
    Frame m s0 { s with pmb := v0 } :=
  { h with pmb := fun e => absurd (h0.symm.trans e) (by decide) }

theorem Frame.set_acc (h0 : m.testBit 27 = true) (h : Frame m s0 s) {v0} :
    Frame m s0 { s with acc := v0 } :=
  { h with acc := fun e => absurd (h0.symm.trans e) (by decide) }

theorem Frame.set_thm (h0 : m.testBit 28 = true) (h : Frame m s0 s) {v0} :
    Frame m s0 { s with thm := v0 } :=
  { h with thm := fun e => absurd (h0.symm.trans e) (by decide) }

theorem Frame.set_hif (h0 : m.testBit 29 = true) (h : Frame m s0 s) {v0} :
    Frame m s0 { s with hif := v0 } :=
  { h with hif := fun e => absurd (h0.symm.trans e) (by decide) }

theorem Frame.set_slt (h0 : m.testBit 30 = true) (h : Frame m s0 s) {v0} :
    Frame m s0 { s with slt := v0 } :=
  { h with slt := fun e => absurd (h0.symm.trans e) (by decide) }

theorem Frame.set_par (h0 : m.testBit 31 = true) (h : Frame m s0 s) {v0} :
    Frame m s0 { s with par := v0 } :=
  { h with par := fun e => absurd (h0.symm.trans e) (by decide) }

theorem Frame.set_nvm (h0 : m.testBit 32 = true) (h : Frame m s0 s) {v0} :
    Frame m s0 { s with nvm := v0 } :=
  { h with nvm := fun e => absurd (h0.symm.trans e) (by decide) }

theorem Frame.set_smb (h0 : m.testBit 33 = true) (h : Frame m s0 s) {v0} :
    Frame m s0 { s with smb := v0 } :=
  { h with smb := fun e => absurd (h0.symm.trans e) (by decide) }

theorem Frame.set_fw (h0 : m.testBit 34 = true) (h : Frame m s0 s) {v0} :
    Frame m s0 { s with fw := v0 } :=
  { h with fw := fun e => absurd (h0.symm.trans e) (by decide) }

theorem Frame.set_rst (h0 : m.testBit 35 = true) (h : Frame m s0 s) {v0} :
    Frame m s0 { s with rst := v0 } :=
  { h with rst := fun e => absurd (h0.symm.trans e) (by decide) }

theorem Frame.set_hub (h0 : m.testBit 36 = true) (h : Frame m s0 s) {v0} :
    Frame m s0 { s with hub := v0 } :=
  { h with hub := fun e => absurd (h0.symm.trans e) (by decide) }

theorem Frame.set_fans (h0 : m.testBit 37 = true) (h : Frame m s0 s) {v0} :
    Frame m s0 { s with fans := v0 } :=
  { h with fans := fun e => absurd (h0.symm.trans e) (by decide) }

theorem Frame.set_mgt (h0 : m.testBit 38 = true) (h : Frame m s0 s) {v0} :
    Frame m s0 { s with mgt := v0 } :=
  { h with mgt := fun e => absurd (h0.symm.trans e) (by decide) }

theorem Frame.set_xovrMs (h0 : m.testBit 39 = true) (h : Frame m s0 s) {v0} :
    Frame m s0 { s with xovrMs := v0 } :=
  { h with xovrMs := fun e => absurd (h0.symm.trans e) (by decide) }

theorem Frame.set_cntPend_hub (h0 : m.testBit 10 = true) (h1 : m.testBit 36 = true) (h : Frame m s0 s) {v0} {v1} :
    Frame m s0 { s with cntPend := v0, hub := v1 } :=
  { h with cntPend := fun e => absurd (h0.symm.trans e) (by decide), hub := fun e => absurd (h1.symm.trans e) (by decide) }

theorem Frame.set_chks_pins (h0 : m.testBit 12 = true) (h1 : m.testBit 24 = true) (h : Frame m s0 s) {v0} {v1} :
    Frame m s0 { s with chks := v0, pins := v1 } :=
  { h with chks := fun e => absurd (h0.symm.trans e) (by decide), pins := fun e => absurd (h1.symm.trans e) (by decide) }

theorem Frame.set_ramp_sns (h0 : m.testBit 16 = true) (h1 : m.testBit 17 = true) (h : Frame m s0 s) {v0} {v1} :
    Frame m s0 { s with ramp := v0, sns := v1 } :=
  { h with ramp := fun e => absurd (h0.symm.trans e) (by decide), sns := fun e => absurd (h1.symm.trans e) (by decide) }

theorem Frame.set_sns_fcs (h0 : m.testBit 17 = true) (h1 : m.testBit 18 = true) (h : Frame m s0 s) {v0} {v1} :
    Frame m s0 { s with sns := v0, fcs := v1 } :=
  { h with sns := fun e => absurd (h0.symm.trans e) (by decide), fcs := fun e => absurd (h1.symm.trans e) (by decide) }

theorem Frame.set_sns_acc (h0 : m.testBit 17 = true) (h1 : m.testBit 27 = true) (h : Frame m s0 s) {v0} {v1} :
    Frame m s0 { s with sns := v0, acc := v1 } :=
  { h with sns := fun e => absurd (h0.symm.trans e) (by decide), acc := fun e => absurd (h1.symm.trans e) (by decide) }

theorem Frame.set_cntZero_hif (h0 : m.testBit 22 = true) (h1 : m.testBit 29 = true) (h : Frame m s0 s) {v0} {v1} :
    Frame m s0 { s with cntZero := v0, hif := v1 } :=
  { h with cntZero := fun e => absurd (h0.symm.trans e) (by decide), hif := fun e => absurd (h1.symm.trans e) (by decide) }

theorem Frame.set_dvfs_vrc (h0 : m.testBit 23 = true) (h1 : m.testBit 25 = true) (h : Frame m s0 s) {v0} {v1} :
    Frame m s0 { s with dvfs := v0, vrc := v1 } :=
  { h with dvfs := fun e => absurd (h0.symm.trans e) (by decide), vrc := fun e => absurd (h1.symm.trans e) (by decide) }

theorem Frame.set_pins_thm (h0 : m.testBit 24 = true) (h1 : m.testBit 28 = true) (h : Frame m s0 s) {v0} {v1} :
    Frame m s0 { s with pins := v0, thm := v1 } :=
  { h with pins := fun e => absurd (h0.symm.trans e) (by decide), thm := fun e => absurd (h1.symm.trans e) (by decide) }

theorem Frame.set_pins_rst (h0 : m.testBit 24 = true) (h1 : m.testBit 35 = true) (h : Frame m s0 s) {v0} {v1} :
    Frame m s0 { s with pins := v0, rst := v1 } :=
  { h with pins := fun e => absurd (h0.symm.trans e) (by decide), rst := fun e => absurd (h1.symm.trans e) (by decide) }

theorem Frame.set_pmb_acc (h0 : m.testBit 26 = true) (h1 : m.testBit 27 = true) (h : Frame m s0 s) {v0} {v1} :
    Frame m s0 { s with pmb := v0, acc := v1 } :=
  { h with pmb := fun e => absurd (h0.symm.trans e) (by decide), acc := fun e => absurd (h1.symm.trans e) (by decide) }

theorem Frame.set_acc_hif (h0 : m.testBit 27 = true) (h1 : m.testBit 29 = true) (h : Frame m s0 s) {v0} {v1} :
    Frame m s0 { s with acc := v0, hif := v1 } :=
  { h with acc := fun e => absurd (h0.symm.trans e) (by decide), hif := fun e => absurd (h1.symm.trans e) (by decide) }

theorem Frame.set_running_ts_rst (h0 : m.testBit 1 = true) (h1 : m.testBit 2 = true) (h2 : m.testBit 35 = true) (h : Frame m s0 s) {v0} {v1} {v2} :
    Frame m s0 { s with running := v0, ts := v1, rst := v2 } :=
  { h with running := fun e => absurd (h0.symm.trans e) (by decide), ts := fun e => absurd (h1.symm.trans e) (by decide), rst := fun e => absurd (h2.symm.trans e) (by decide) }

theorem Frame.set_mem (h0 : m.testBit 5 = true) {v : List Host.Cell} (hv : Machine.memOk s.mem bankDefault = true → Machine.memOk v bankDefault = true)
    (h : Frame m s0 s) : Frame m s0 { s with mem := v } :=
  { h with mem := fun e => absurd (h0.symm.trans e) (by decide), memOk := fun e => ⟨hv (h.memOk e).1, (h.memOk e).2⟩ }

theorem Frame.set_flash (h0 : m.testBit 6 = true) {v : List Host.Cell}
    (hv : Machine.memOk s.flash flashDefault = true → Machine.memOk v flashDefault = true) (h : Frame m s0 s) :
    Frame m s0 { s with flash := v } :=
  { h with flash := fun e => absurd (h0.symm.trans e) (by decide), memOk := fun e => ⟨(h.memOk e).1, hv (h.memOk e).2⟩ }

/-- The recorder's state is set anew and its queue grows, or stays. -/
theorem Frame.set_recd (h0 : m.testBit 8 = true) {v : Rec} (hq : s.recd.queue <+: v.queue) (h : Frame m s0 s) :
    Frame m s0 { s with recd := v } :=
  { h with recd := fun e => absurd (h0.symm.trans e) (by decide), queue := fun e => (h.queue e).trans hq }

/-- The recorder's state is set anew, where the footprint lets its queue lose records. -/
theorem Frame.set_recd_any (h0 : m.testBit 8 = true) (h1 : m.testBit 4 = true) (h : Frame m s0 s) {v : Rec} :
    Frame m s0 { s with recd := v } :=
  { h with recd := fun e => absurd (h0.symm.trans e) (by decide), queue := fun e => absurd (h1.symm.trans e) (by decide) }

/-! ### Frames of the shared control forms -/

theorem Frame.ite {c : Prop} {_ : Decidable c} {t u : State} (h : Frame m s0 t) (g : Frame m s0 u) :
    Frame m s0 (if c then t else u) := by
  split <;> assumption

theorem Frame.bif {c : Bool} {t u : State} (h : Frame m s0 t) (g : Frame m s0 u) :
    Frame m s0 (bif c then t else u) := by
  cases c <;> assumption

theorem Frame.foldl {β : Type} {f : State → β → State} {l : List β} (h : Frame m s0 s)
    (g : ∀ s x, Frame m s0 s → Frame m s0 (f s x)) : Frame m s0 (l.foldl f s) := by
  induction l generalizing s with
  | nil => exact h
  | cons x t ih => exact ih (g s x h)

theorem Frame.foldTo {n : Nat} {f : State → Nat → State} (h : Frame m s0 s)
    (g : ∀ s x, Frame m s0 s → Frame m s0 (f s x)) : Frame m s0 (foldTo n s f) :=
  Frame.foldl h g

theorem Frame.foldlFst {β γ : Type} {f : State × γ → β → State × γ} {l : List β} {p : State × γ} (h : Frame m s0 p.1)
    (g : ∀ p x, Frame m s0 p.1 → Frame m s0 (f p x).1) : Frame m s0 (l.foldl f p).1 := by
  induction l generalizing p with
  | nil => exact h
  | cons x t ih => exact ih (g p x h)

theorem Frame.ofFst {β : Type} {p : State × β} {t : State} {x : β} (e : p = (t, x)) (h : Frame m s0 p.1) : Frame m s0 t := by
  rw [e] at h; exact h

theorem Frame.cut {t : State} {p : Prop} (h : Frame m s0 t) (g : Frame m s0 t → p) : p := g h

theorem Frame.pair {β : Type} {t : State} {x : β} (h : Frame m s0 t) : Frame m s0 (t, x).1 := h

theorem Frame.iteFst {β : Type} {c : Prop} {_ : Decidable c} {t u : State × β} (h : Frame m s0 t.1) (g : Frame m s0 u.1) :
    Frame m s0 (if c then t else u).1 := by
  split <;> assumption

theorem Frame.onlyIf {c : Bool} {f : State → State} (h : Frame m s0 s) (g : ∀ s, Frame m s0 s → Frame m s0 (f s)) :
    Frame m s0 (onlyIf c f s) := by
  unfold Machine.onlyIf; split
  · exact g s h
  · exact h

/-- A meaning under hubOn answers a next state within the footprint of what it does. -/
theorem hubOn_frame {f : State → State} {s : State} (g : ∀ s, Frame m s0 s → Frame m s0 (f s)) (h : Frame m s0 s) :
    ∃ t, hubOn f s = .next t ∧ Frame m s0 t := by
  refine ⟨_, rfl, ?_⟩
  split
  · exact g s h
  · exact h

/-! ### Frames of the writes of one register field -/

theorem mfind_wr_ne (s : State) (f : Fld) (i v : Nat) {q : Nat} (e : q ≠ f.keyOf i) :
    mfind (s.wr f i v).regs q = mfind s.regs q := mfind_mput_ne _ _ e

theorem wr_frame {f : Fld} (k : Has m f) (h : Frame m s0 s) (i v : Nat) : Frame m s0 (s.wr f i v) :=
  { h with regs := fun q hq hu => (mfind_wr_ne s f i v (hq f i k)).trans (h.regs q hq hu) }

theorem addTo_frame {f : Fld} (k : Has m f) (h : Frame m s0 s) (i n : Nat) : Frame m s0 (s.addTo f i n) := wr_frame k h _ _

theorem bump_frame {f : Fld} (k : Has m f) (h : Frame m s0 s) (i : Nat) : Frame m s0 (s.bump f i) := wr_frame k h _ _


theorem Has.ite {c : Prop} {_ : Decidable c} {f g : Fld} (h : Has m f) (k : Has m g) : Has m (if c then f else g) := by
  split <;> assumption

/-- Every field of the register blocks that p selects stands in the footprint. -/
def allHas (m : Nat) (p : Fld → Bool) : Bool :=
  (List.range 24).all fun u => (unitFlds u).zipIdx.all fun x => !p x.1 || m.testBit (64 + unitBase u + x.2)

theorem unitFlds_big {u : Nat} (h : 24 ≤ u) : unitFlds u = [] := by
  unfold unitFlds
  split <;> first | omega | rfl

theorem has_of_allHas {p : Fld → Bool} (h : allHas m p = true) {u : Nat} {f : Fld} (hf : f ∈ unitFlds u) (hp : p f = true) : Has m f := by
  have hu : u < 24 := by
    rcases Nat.lt_or_ge u 24 with h24 | h24
    · exact h24
    · rw [unitFlds_big h24] at hf; exact absurd hf (List.not_mem_nil)
  obtain ⟨j, hj⟩ := List.getElem?_of_mem hf
  refine ⟨u, j, hj, ?_⟩
  simp only [allHas, List.all_eq_true, List.mem_range] at h
  have h2 := h u hu (f, j) (List.mk_mem_zipIdx_iff_getElem?.mpr hj)
  simpa [hp] using h2

theorem Frame.foldlMem {β : Type} {f : State → β → State} {l : List β} (h : Frame m s0 s)
    (g : ∀ s x, x ∈ l → Frame m s0 s → Frame m s0 (f s x)) : Frame m s0 (l.foldl f s) := by
  induction l generalizing s with
  | nil => exact h
  | cons x t ih => exact ih (g s x (List.mem_cons_self ..) h) fun s y hy => g s y (List.mem_cons_of_mem _ hy)

/-- A write of words: every field that it selects in a block's word stands in the footprint. -/
theorem wordFlds_mem {o : Nat} {x : Fld × Nat} (h : x ∈ wordFlds o) : x.1 ∈ unitFlds (unitOf o) := by
  simp only [wordFlds, List.mem_flatMap, List.mem_map] at h
  obtain ⟨f, hf, i, _, e⟩ := h
  rw [← e]; exact hf

theorem State.writeFlds_frame {p : Fld → Bool} (hp : ∀ u f, f ∈ unitFlds u → p f = true → Has m f) (h : Frame m s0 s) (o v : Nat) :
    Frame m s0 (s.writeFlds p o v) := by
  unfold State.writeFlds
  refine Frame.foldlMem h fun s x hx hs => wr_frame ?_ hs _ _
  have hx2 := List.mem_filter.mp hx
  exact hp _ _ (wordFlds_mem hx2.1) hx2.2

theorem mfind_resetRegs (s : State) {u k : Nat} (e : k / 0x20000 ≠ u) : mfind (s.resetRegs u).regs k = mfind s.regs k := by
  simp only [State.resetRegs]
  rw [mfind_filter (fun k => decide (k / 0x20000 ≠ u))]
  simp only [e, ne_eq, not_false_eq_true, decide_true, if_true]

theorem unit_ne {u k : Nat} (hu : m.testBit (40 + u) = true) (hl : u < 24) (hb : m.testBit (unitBit k) = false) : k / 0x20000 ≠ u := by
  intro e
  have h : unitBit k = 40 + u := by unfold unitBit; omega
  rw [h, hu] at hb
  exact absurd hb (by decide)

/-- The registers of a block take their reset values. -/
theorem State.resetRegs_frame {u : Nat} (hu : m.testBit (40 + u) = true) (hl : u < 24) (h : Frame m s0 s) :
    Frame m s0 (s.resetRegs u) :=
  { h with regs := fun k hk hb => (mfind_resetRegs s (unit_ne hu hl hb)).trans (h.regs k hk hb) }

end Sys2Proof.Machine
end

