-- ==== Sys2Proof/Laws/FrameOps.lean ====
section
/-!
SUPPORT. Laws/FrameOps.lean: the footprint of every function of Machine/Ops.lean, and that it writes nothing outside it.
-/
namespace Sys2Proof.Machine

set_option linter.all false

variable {m : Nat} {s0 s : State}

def State.send_foot : Nat := 0x80
theorem State.send_frame (hm : Sub State.send_foot m) (h : Frame m s0 s) :
    ∀ a1, Frame m s0 (State.send s a1) := by
  intro a1
  have c_out : m.testBit 7 = true := hm.bit 7 (by decide)
  unfold State.send
  repeat' first
    | with_reducible assumption
    | (extract_lets -underBinder +onlyGivenNames x; have u : True := (by clear_value x; guard_hyp x :ₛ State; trivial); clear u; refine Frame.cut (m := m) (s0 := s0) (t := x) ?_ ?_; (on_goal 1 => subst x); (on_goal 2 => (intro hx; clear_value x)))
    | (extract_lets -underBinder +onlyGivenNames n; first | clear_value n | subst n)
    | with_reducible refine Frame.ite ?_ ?_
    | with_reducible exact Frame.set_out c_out (by with_reducible assumption)

def State.pushRec_foot : Nat := 0x10000000000000000000000000000000000000000000000000000000000000000000000000000000000000000000000000000000000000000000000000000000000100
theorem State.pushRec_frame (hm : Sub State.pushRec_foot m) (h : Frame m s0 s) :
    ∀ a1, Frame m s0 (State.pushRec s a1) := by
  intro a1
  have k_EVT_DROP_dropped : Has m EVT_DROP_dropped := hm.has 16 4 rfl (by decide)
  have c_recd : m.testBit 8 = true := hm.bit 8 (by decide)
  unfold State.pushRec
  repeat' first
    | with_reducible assumption
    | (extract_lets -underBinder +onlyGivenNames x; have u : True := (by clear_value x; guard_hyp x :ₛ State; trivial); clear u; refine Frame.cut (m := m) (s0 := s0) (t := x) ?_ ?_; (on_goal 1 => subst x); (on_goal 2 => (intro hx; clear_value x)))
    | (extract_lets -underBinder +onlyGivenNames n; first | subst n | clear_value n)
    | with_reducible refine Frame.ite ?_ ?_
    | with_reducible refine bump_frame (by with_reducible assumption) ?_ _
    | with_reducible exact Frame.set_recd c_recd (by first | exact List.prefix_rfl | exact List.prefix_append _ _) (by with_reducible assumption)
    | split

def State.emit_foot : Nat := 0x10000000000000000000000000000000000000000000000000000000000000000000000000000000000000000000000000000000000000000000000000000000000100
theorem State.emit_frame (hm : Sub State.emit_foot m) (h : Frame m s0 s) :
    ∀ a1 a2 a3, Frame m s0 (State.emit s a1 a2 a3) := by
  intro a1 a2 a3
  have s_State_pushRec : Sub State.pushRec_foot m := hm.of (by decide)
  unfold State.emit
  repeat' first
    | with_reducible assumption
    | (extract_lets -underBinder +onlyGivenNames x; have u : True := (by clear_value x; guard_hyp x :ₛ State; trivial); clear u; refine Frame.cut (m := m) (s0 := s0) (t := x) ?_ ?_; (on_goal 1 => subst x); (on_goal 2 => (intro hx; clear_value x)))
    | (extract_lets -underBinder +onlyGivenNames n; first | clear_value n | subst n)
    | with_reducible refine Frame.ite ?_ ?_
    | with_reducible refine State.pushRec_frame s_State_pushRec ?_ _

def State.emitLim_foot : Nat := 0x10000000000000000000000000000000000000000000000000000000000000000000000000000000000000000000000000000000000000000000000000000000000100
theorem State.emitLim_frame (hm : Sub State.emitLim_foot m) (h : Frame m s0 s) :
    ∀ a1 a2 a3 a4 a5, Frame m s0 (State.emitLim s a1 a2 a3 a4 a5) := by
  intro a1 a2 a3 a4 a5
  have s_State_emit : Sub State.emit_foot m := hm.of (by decide)
  have c_recd : m.testBit 8 = true := hm.bit 8 (by decide)
  unfold State.emitLim
  repeat' first
    | with_reducible assumption
    | (extract_lets -underBinder +onlyGivenNames x; have u : True := (by clear_value x; guard_hyp x :ₛ State; trivial); clear u; refine Frame.cut (m := m) (s0 := s0) (t := x) ?_ ?_; (on_goal 1 => subst x); (on_goal 2 => (intro hx; clear_value x)))
    | (extract_lets -underBinder +onlyGivenNames n; first | subst n | clear_value n)
    | with_reducible refine Frame.ite ?_ ?_
    | with_reducible refine State.emit_frame s_State_emit ?_ _ _ _
    | with_reducible exact Frame.set_recd c_recd (by first | exact List.prefix_rfl | exact List.prefix_append _ _) (by with_reducible assumption)
    | split

def State.xovrBoundary_foot : Nat := 0x10000000000000000000000000000000000000000000000000000000000000000000000000000000000000000000000000000000000000000000000000008000000100
theorem State.xovrBoundary_frame (hm : Sub State.xovrBoundary_foot m) (h : Frame m s0 s) :
    Frame m s0 (State.xovrBoundary s) := by
  have s_State_emit : Sub State.emit_foot m := hm.of (by decide)
  have c_xovrMs : m.testBit 39 = true := hm.bit 39 (by decide)
  unfold State.xovrBoundary
  repeat' first
    | with_reducible assumption
    | (extract_lets -underBinder +onlyGivenNames x; have u : True := (by clear_value x; guard_hyp x :ₛ State; trivial); clear u; refine Frame.cut (m := m) (s0 := s0) (t := x) ?_ ?_; (on_goal 1 => subst x); (on_goal 2 => (intro hx; clear_value x)))
    | (extract_lets -underBinder +onlyGivenNames n; first | clear_value n | subst n)
    | with_reducible refine Frame.ite ?_ ?_
    | with_reducible refine State.emit_frame s_State_emit ?_ _ _ _
    | with_reducible exact Frame.set_xovrMs c_xovrMs (by with_reducible assumption)
    | with_reducible refine Frame.foldl ?_ (fun s x hs => ?_)

def State.count_foot : Nat := 0x400
theorem State.count_frame (hm : Sub State.count_foot m) (h : Frame m s0 s) :
    ∀ a1 a2, Frame m s0 (State.count s a1 a2) := by
  intro a1 a2
  have c_cntPend : m.testBit 10 = true := hm.bit 10 (by decide)
  unfold State.count
  repeat' first
    | with_reducible assumption
    | (extract_lets -underBinder +onlyGivenNames x; have u : True := (by clear_value x; guard_hyp x :ₛ State; trivial); clear u; refine Frame.cut (m := m) (s0 := s0) (t := x) ?_ ?_; (on_goal 1 => subst x); (on_goal 2 => (intro hx; clear_value x)))
    | (extract_lets -underBinder +onlyGivenNames n; first | clear_value n | subst n)
    | with_reducible refine Frame.ite ?_ ?_
    | with_reducible exact Frame.set_cntPend c_cntPend (by with_reducible assumption)
    | split

def State.setChk_foot : Nat := 0x1000
theorem State.setChk_frame (hm : Sub State.setChk_foot m) (h : Frame m s0 s) :
    ∀ a1 a2, Frame m s0 (State.setChk s a1 a2) := by
  intro a1 a2
  have c_chks : m.testBit 12 = true := hm.bit 12 (by decide)
  unfold State.setChk
  repeat' first
    | with_reducible assumption
    | (extract_lets -underBinder +onlyGivenNames x; have u : True := (by clear_value x; guard_hyp x :ₛ State; trivial); clear u; refine Frame.cut (m := m) (s0 := s0) (t := x) ?_ ?_; (on_goal 1 => subst x); (on_goal 2 => (intro hx; clear_value x)))
    | (extract_lets -underBinder +onlyGivenNames n; first | clear_value n | subst n)
    | with_reducible refine Frame.ite ?_ ?_
    | with_reducible exact Frame.set_chks c_chks (by with_reducible assumption)

def State.setCore_foot : Nat := 0x4000
theorem State.setCore_frame (hm : Sub State.setCore_foot m) (h : Frame m s0 s) :
    ∀ a1 a2, Frame m s0 (State.setCore s a1 a2) := by
  intro a1 a2
  have c_cores : m.testBit 14 = true := hm.bit 14 (by decide)
  unfold State.setCore
  repeat' first
    | with_reducible assumption
    | (extract_lets -underBinder +onlyGivenNames x; have u : True := (by clear_value x; guard_hyp x :ₛ State; trivial); clear u; refine Frame.cut (m := m) (s0 := s0) (t := x) ?_ ?_; (on_goal 1 => subst x); (on_goal 2 => (intro hx; clear_value x)))
    | (extract_lets -underBinder +onlyGivenNames n; first | clear_value n | subst n)
    | with_reducible refine Frame.ite ?_ ?_
    | with_reducible exact Frame.set_cores c_cores (by with_reducible assumption)

def State.applyCounts_foot : Nat := 0x8000000000000000000000000000000000000000000000000000000000000000000000000000000000000000000000400000000000000000000000000000000000000000000000000600
theorem State.applyCounts_frame (hm : Sub State.applyCounts_foot m) (h : Frame m s0 s) :
    Frame m s0 (State.applyCounts s) := by
  have k_CNT_TAP_VIOL_count : Has m CNT_TAP_VIOL_count := hm.has 19 13 rfl (by decide)
  have k_SNS_TLM_CNT_dup : Has m SNS_TLM_CNT_dup := hm.has 7 13 rfl (by decide)
  have c_cnt : m.testBit 9 = true := hm.bit 9 (by decide)
  have c_cntPend : m.testBit 10 = true := hm.bit 10 (by decide)
  unfold State.applyCounts
  repeat' first
    | with_reducible assumption
    | (extract_lets -underBinder +onlyGivenNames x; have u : True := (by clear_value x; guard_hyp x :ₛ State; trivial); clear u; refine Frame.cut (m := m) (s0 := s0) (t := x) ?_ ?_; (on_goal 1 => subst x); (on_goal 2 => (intro hx; clear_value x)))
    | (extract_lets -underBinder +onlyGivenNames n; first | clear_value n | subst n)
    | with_reducible refine Frame.ite ?_ ?_
    | with_reducible refine wr_frame (by with_reducible assumption) ?_ _ _
    | with_reducible exact Frame.set_cnt c_cnt (by with_reducible assumption)
    | with_reducible exact Frame.set_cntPend c_cntPend (by with_reducible assumption)
    | with_reducible refine Frame.foldl ?_ (fun s x hs => ?_)
    | split

def State.setLane_foot : Nat := 0x800
theorem State.setLane_frame (hm : Sub State.setLane_foot m) (h : Frame m s0 s) :
    ∀ a1 a2, Frame m s0 (State.setLane s a1 a2) := by
  intro a1 a2
  have c_lanes : m.testBit 11 = true := hm.bit 11 (by decide)
  unfold State.setLane
  repeat' first
    | with_reducible assumption
    | (extract_lets -underBinder +onlyGivenNames x; have u : True := (by clear_value x; guard_hyp x :ₛ State; trivial); clear u; refine Frame.cut (m := m) (s0 := s0) (t := x) ?_ ?_; (on_goal 1 => subst x); (on_goal 2 => (intro hx; clear_value x)))
    | (extract_lets -underBinder +onlyGivenNames n; first | clear_value n | subst n)
    | with_reducible refine Frame.ite ?_ ?_
    | with_reducible exact Frame.set_lanes c_lanes (by with_reducible assumption)

def State.setDroop_foot : Nat := 0x2000
theorem State.setDroop_frame (hm : Sub State.setDroop_foot m) (h : Frame m s0 s) :
    ∀ a1 a2, Frame m s0 (State.setDroop s a1 a2) := by
  intro a1 a2
  have c_droops : m.testBit 13 = true := hm.bit 13 (by decide)
  unfold State.setDroop
  repeat' first
    | with_reducible assumption
    | (extract_lets -underBinder +onlyGivenNames x; have u : True := (by clear_value x; guard_hyp x :ₛ State; trivial); clear u; refine Frame.cut (m := m) (s0 := s0) (t := x) ?_ ?_; (on_goal 1 => subst x); (on_goal 2 => (intro hx; clear_value x)))
    | (extract_lets -underBinder +onlyGivenNames n; first | clear_value n | subst n)
    | with_reducible refine Frame.ite ?_ ?_
    | with_reducible exact Frame.set_droops c_droops (by with_reducible assumption)

def State.chokerLost_foot : Nat := 0x18000000000000000000000000000000000000000000000000000000001000
theorem State.chokerLost_frame (hm : Sub State.chokerLost_foot m) (h : Frame m s0 s) :
    ∀ a1, Frame m s0 (State.chokerLost s a1) := by
  intro a1
  have s_State_setChk : Sub State.setChk_foot m := hm.of (by decide)
  have k_CHK_ALLOW_in_droop : Has m CHK_ALLOW_in_droop := hm.has 8 18 rfl (by decide)
  have k_CHK_ALLOW_now : Has m CHK_ALLOW_now := hm.has 8 17 rfl (by decide)
  unfold State.chokerLost
  repeat' first
    | with_reducible assumption
    | with_reducible refine Frame.ite ?_ ?_
    | with_reducible refine wr_frame (by with_reducible assumption) ?_ _ _
    | with_reducible refine State.setChk_frame s_State_setChk ?_ _ _

def State.writeBank_foot : Nat := 0x20
theorem State.writeBank_frame (hm : Sub State.writeBank_foot m) (h : Frame m s0 s) :
    ∀ a1 a2 a3, Frame m s0 (State.writeBank s a1 a2 a3) := by
  intro a1 a2 a3
  exact Frame.set_mem (hm.bit 5 (by decide)) (memOk_writeBytes _ _) h

def State.clearBank_foot : Nat := 0x20
theorem State.clearBank_frame (hm : Sub State.clearBank_foot m) (h : Frame m s0 s) :
    ∀ a1, Frame m s0 (State.clearBank s a1) := by
  intro a1
  exact Frame.set_mem (hm.bit 5 (by decide)) (memOk_filter _) h

def State.crossOvr_foot : Nat := 0x400000000008000000000
theorem State.crossOvr_frame (hm : Sub State.crossOvr_foot m) (h : Frame m s0 s) :
    ∀ a1, Frame m s0 (State.crossOvr s a1) := by
  intro a1
  have k_CLK_XOVR_ovr : Has m CLK_XOVR_ovr := hm.has 1 4 rfl (by decide)
  have c_xovrMs : m.testBit 39 = true := hm.bit 39 (by decide)
  unfold State.crossOvr
  repeat' first
    | with_reducible assumption
    | (extract_lets -underBinder +onlyGivenNames x; have u : True := (by clear_value x; guard_hyp x :ₛ State; trivial); clear u; refine Frame.cut (m := m) (s0 := s0) (t := x) ?_ ?_; (on_goal 1 => subst x); (on_goal 2 => (intro hx; clear_value x)))
    | (extract_lets -underBinder +onlyGivenNames n; first | clear_value n | subst n)
    | with_reducible refine Frame.ite ?_ ?_
    | with_reducible refine wr_frame (by with_reducible assumption) ?_ _ _
    | with_reducible exact Frame.set_xovrMs c_xovrMs (by with_reducible assumption)

end Sys2Proof.Machine
end

