-- ==== Sys2Proof/Laws/FrameDvfsOps.lean ====
section
/-!
SUPPORT. Laws/FrameDvfsOps.lean: the footprint of every function of Machine/DvfsOps.lean, and that it writes nothing outside it.
-/
namespace Sys2Proof.Machine

set_option linter.all false

variable {m : Nat} {s0 s : State}

def State.dvfsCancel_foot : Nat := 0x10000000000000000000000000000000000000000000000000000000000000000000000000100000000000000000000000000000000000000000000000000000000100
theorem State.dvfsCancel_frame (hm : Sub State.dvfsCancel_foot m) (h : Frame m s0 s) :
    ∀ a1 a2 a3, Frame m s0 (State.dvfsCancel s a1 a2 a3) := by
  intro a1 a2 a3
  have s_State_emit : Sub State.emit_foot m := hm.of (by decide)
  have k_CHK_DVFS_STAT_cancel : Has m CHK_DVFS_STAT_cancel := hm.has 8 10 rfl (by decide)
  unfold State.dvfsCancel
  repeat' first
    | with_reducible assumption
    | with_reducible refine Frame.ite ?_ ?_
    | with_reducible refine bump_frame (by with_reducible assumption) ?_ _
    | with_reducible refine State.emit_frame s_State_emit ?_ _ _ _

def State.dvfsDefer_foot : Nat := 0x200000000000000000000000000000000000000000000000000000800000
theorem State.dvfsDefer_frame (hm : Sub State.dvfsDefer_foot m) (h : Frame m s0 s) :
    Frame m s0 (State.dvfsDefer s) := by
  have k_CHK_DVFS_STAT_deferred : Has m CHK_DVFS_STAT_deferred := hm.has 8 11 rfl (by decide)
  have c_dvfs : m.testBit 23 = true := hm.bit 23 (by decide)
  unfold State.dvfsDefer
  repeat' first
    | with_reducible assumption
    | (extract_lets -underBinder +onlyGivenNames x; have u : True := (by clear_value x; guard_hyp x :ₛ State; trivial); clear u; refine Frame.cut (m := m) (s0 := s0) (t := x) ?_ ?_; (on_goal 1 => subst x); (on_goal 2 => (intro hx; clear_value x)))
    | (extract_lets -underBinder +onlyGivenNames n; first | clear_value n | subst n)
    | with_reducible refine Frame.ite ?_ ?_
    | with_reducible refine wr_frame (by with_reducible assumption) ?_ _ _
    | with_reducible exact Frame.set_dvfs c_dvfs (by with_reducible assumption)

def State.dvfsPark_foot : Nat := 0x20000000000000000000800000
theorem State.dvfsPark_frame (hm : Sub State.dvfsPark_foot m) (h : Frame m s0 s) :
    Frame m s0 (State.dvfsPark s) := by
  have k_CLK_DVFS_STAT_parked : Has m CLK_DVFS_STAT_parked := hm.has 1 23 rfl (by decide)
  have c_dvfs : m.testBit 23 = true := hm.bit 23 (by decide)
  unfold State.dvfsPark
  repeat' first
    | with_reducible assumption
    | (extract_lets -underBinder +onlyGivenNames x; have u : True := (by clear_value x; guard_hyp x :ₛ State; trivial); clear u; refine Frame.cut (m := m) (s0 := s0) (t := x) ?_ ?_; (on_goal 1 => subst x); (on_goal 2 => (intro hx; clear_value x)))
    | (extract_lets -underBinder +onlyGivenNames n; first | clear_value n | subst n)
    | with_reducible refine Frame.ite ?_ ?_
    | with_reducible refine wr_frame (by with_reducible assumption) ?_ _ _
    | with_reducible exact Frame.set_dvfs c_dvfs (by with_reducible assumption)

def State.dvfsDrop_foot : Nat := 0x28000000000000000000800000
theorem State.dvfsDrop_frame (hm : Sub State.dvfsDrop_foot m) (h : Frame m s0 s) :
    Frame m s0 (State.dvfsDrop s) := by
  have s_State_dvfsPark : Sub State.dvfsPark_foot m := hm.of (by decide)
  have k_CLK_DVFS_STAT_stage : Has m CLK_DVFS_STAT_stage := hm.has 1 21 rfl (by decide)
  have c_dvfs : m.testBit 23 = true := hm.bit 23 (by decide)
  unfold State.dvfsDrop
  repeat' first
    | with_reducible assumption
    | (extract_lets -underBinder +onlyGivenNames x; have u : True := (by clear_value x; guard_hyp x :ₛ State; trivial); clear u; refine Frame.cut (m := m) (s0 := s0) (t := x) ?_ ?_; (on_goal 1 => subst x); (on_goal 2 => (intro hx; clear_value x)))
    | (extract_lets -underBinder +onlyGivenNames n; first | clear_value n | subst n)
    | with_reducible refine Frame.ite ?_ ?_
    | with_reducible refine wr_frame (by with_reducible assumption) ?_ _ _
    | with_reducible refine State.dvfsPark_frame s_State_dvfsPark ?_
    | with_reducible exact Frame.set_dvfs c_dvfs (by with_reducible assumption)

def State.dvfsOnDroop_foot : Nat := 0x10000000000000000000000000000000000000000000000000000000000000000000000000300000000000000000000000000000000028000000000000000000800100
theorem State.dvfsOnDroop_frame (hm : Sub State.dvfsOnDroop_foot m) (h : Frame m s0 s) :
    Frame m s0 (State.dvfsOnDroop s) := by
  have s_State_dvfsCancel : Sub State.dvfsCancel_foot m := hm.of (by decide)
  have s_State_dvfsDefer : Sub State.dvfsDefer_foot m := hm.of (by decide)
  have s_State_dvfsDrop : Sub State.dvfsDrop_foot m := hm.of (by decide)
  have c_dvfs : m.testBit 23 = true := hm.bit 23 (by decide)
  unfold State.dvfsOnDroop
  repeat' first
    | with_reducible assumption
    | (extract_lets -underBinder +onlyGivenNames x; have u : True := (by clear_value x; guard_hyp x :ₛ State; trivial); clear u; refine Frame.cut (m := m) (s0 := s0) (t := x) ?_ ?_; (on_goal 1 => subst x); (on_goal 2 => (intro hx; clear_value x)))
    | (extract_lets -underBinder +onlyGivenNames n; first | clear_value n | subst n)
    | with_reducible refine Frame.ite ?_ ?_
    | with_reducible refine State.dvfsCancel_frame s_State_dvfsCancel ?_ _ _ _
    | with_reducible refine State.dvfsDefer_frame s_State_dvfsDefer ?_
    | with_reducible refine State.dvfsDrop_frame s_State_dvfsDrop ?_
    | with_reducible exact Frame.set_dvfs c_dvfs (by with_reducible assumption)
    | split

def State.dvfsArrive_foot : Nat := 0x8000000000000000000000000
theorem State.dvfsArrive_frame (hm : Sub State.dvfsArrive_foot m) (h : Frame m s0 s) :
    Frame m s0 (State.dvfsArrive s) := by
  have k_CLK_DVFS_STAT_stage : Has m CLK_DVFS_STAT_stage := hm.has 1 21 rfl (by decide)
  unfold State.dvfsArrive
  repeat' first
    | with_reducible assumption
    | with_reducible refine Frame.ite ?_ ?_
    | with_reducible refine wr_frame (by with_reducible assumption) ?_ _ _
    | split

def State.dvfsReach_foot : Nat := 0x800000
theorem State.dvfsReach_frame (hm : Sub State.dvfsReach_foot m) (h : Frame m s0 s) :
    Frame m s0 (State.dvfsReach s) := by
  have c_dvfs : m.testBit 23 = true := hm.bit 23 (by decide)
  unfold State.dvfsReach
  repeat' first
    | with_reducible assumption
    | (extract_lets -underBinder +onlyGivenNames x; have u : True := (by clear_value x; guard_hyp x :ₛ State; trivial); clear u; refine Frame.cut (m := m) (s0 := s0) (t := x) ?_ ?_; (on_goal 1 => subst x); (on_goal 2 => (intro hx; clear_value x)))
    | (extract_lets -underBinder +onlyGivenNames n; first | clear_value n | subst n)
    | with_reducible refine Frame.ite ?_ ?_
    | with_reducible exact Frame.set_dvfs c_dvfs (by with_reducible assumption)
    | split

def State.dvfsLower_foot : Nat := 0x10000000000000000000000000000000000000000000000000000000000000000000000000300000000000000000000000000000000000000000000000000000800100
theorem State.dvfsLower_frame (hm : Sub State.dvfsLower_foot m) (h : Frame m s0 s) :
    ∀ a1 a2 a3, Frame m s0 (State.dvfsLower s a1 a2 a3) := by
  intro a1 a2 a3
  have s_State_dvfsCancel : Sub State.dvfsCancel_foot m := hm.of (by decide)
  have s_State_dvfsDefer : Sub State.dvfsDefer_foot m := hm.of (by decide)
  have c_dvfs : m.testBit 23 = true := hm.bit 23 (by decide)
  unfold State.dvfsLower
  repeat' first
    | with_reducible assumption
    | (extract_lets -underBinder +onlyGivenNames x; have u : True := (by clear_value x; guard_hyp x :ₛ State; trivial); clear u; refine Frame.cut (m := m) (s0 := s0) (t := x) ?_ ?_; (on_goal 1 => subst x); (on_goal 2 => (intro hx; clear_value x)))
    | (extract_lets -underBinder +onlyGivenNames n; first | clear_value n | subst n)
    | with_reducible refine Frame.ite ?_ ?_
    | with_reducible refine State.dvfsCancel_frame s_State_dvfsCancel ?_ _ _ _
    | with_reducible refine State.dvfsDefer_frame s_State_dvfsDefer ?_
    | with_reducible exact Frame.set_dvfs c_dvfs (by with_reducible assumption)
    | split

def State.dvfsNext_foot : Nat := 0x1000000000000000000000000000000000000000000000000000000000000000000000000030000000000000000000000000000000002c000000000000000000800100
theorem State.dvfsNext_frame (hm : Sub State.dvfsNext_foot m) (h : Frame m s0 s) :
    Frame m s0 (State.dvfsNext s) := by
  have s_State_dvfsOnDroop : Sub State.dvfsOnDroop_foot m := hm.of (by decide)
  have s_State_dvfsReach : Sub State.dvfsReach_foot m := hm.of (by decide)
  have k_CLK_DVFS_STAT_parked : Has m CLK_DVFS_STAT_parked := hm.has 1 23 rfl (by decide)
  have k_CLK_DVFS_STAT_stage : Has m CLK_DVFS_STAT_stage := hm.has 1 21 rfl (by decide)
  have k_CLK_DVFS_STAT_target : Has m CLK_DVFS_STAT_target := hm.has 1 20 rfl (by decide)
  have c_dvfs : m.testBit 23 = true := hm.bit 23 (by decide)
  unfold State.dvfsNext
  repeat' first
    | with_reducible assumption
    | (extract_lets -underBinder +onlyGivenNames x; have u : True := (by clear_value x; guard_hyp x :ₛ State; trivial); clear u; refine Frame.cut (m := m) (s0 := s0) (t := x) ?_ ?_; (on_goal 1 => subst x); (on_goal 2 => (intro hx; clear_value x)))
    | (extract_lets -underBinder +onlyGivenNames n; first | clear_value n | subst n)
    | with_reducible refine Frame.ite ?_ ?_
    | with_reducible refine wr_frame (by with_reducible assumption) ?_ _ _
    | with_reducible refine State.dvfsOnDroop_frame s_State_dvfsOnDroop ?_
    | with_reducible refine State.dvfsReach_frame s_State_dvfsReach ?_
    | with_reducible exact Frame.set_dvfs c_dvfs (by with_reducible assumption)
    | split

def State.dvfsSettle_foot : Nat := 0x1000000000000000000000000000000000000000000000000000000000000000000000000030000000000000000000000000000000002c000000000000000000800100
theorem State.dvfsSettle_frame (hm : Sub State.dvfsSettle_foot m) (h : Frame m s0 s) :
    Frame m s0 (State.dvfsSettle s) := by
  have s_State_dvfsArrive : Sub State.dvfsArrive_foot m := hm.of (by decide)
  have s_State_dvfsReach : Sub State.dvfsReach_foot m := hm.of (by decide)
  have s_State_dvfsLower : Sub State.dvfsLower_foot m := hm.of (by decide)
  have s_State_dvfsNext : Sub State.dvfsNext_foot m := hm.of (by decide)
  have k_CLK_DVFS_STAT_stage : Has m CLK_DVFS_STAT_stage := hm.has 1 21 rfl (by decide)
  unfold State.dvfsSettle
  repeat' first
    | with_reducible assumption
    | (extract_lets -underBinder +onlyGivenNames x; have u : True := (by clear_value x; guard_hyp x :ₛ State; trivial); clear u; refine Frame.cut (m := m) (s0 := s0) (t := x) ?_ ?_; (on_goal 1 => subst x); (on_goal 2 => (intro hx; clear_value x)))
    | (extract_lets -underBinder +onlyGivenNames n; first | clear_value n | subst n)
    | with_reducible refine Frame.ite ?_ ?_
    | with_reducible refine wr_frame (by with_reducible assumption) ?_ _ _
    | with_reducible refine State.dvfsArrive_frame s_State_dvfsArrive ?_
    | with_reducible refine State.dvfsReach_frame s_State_dvfsReach ?_
    | with_reducible refine State.dvfsLower_frame s_State_dvfsLower ?_ _ _ _
    | with_reducible refine State.dvfsNext_frame s_State_dvfsNext ?_
    | split

def State.dvfsAbandon_foot : Nat := 0x10000000000000000000000000000000000000000000000000000000000000000000000000100000000000000000000000000000000028000000000000000000800100
theorem State.dvfsAbandon_frame (hm : Sub State.dvfsAbandon_foot m) (h : Frame m s0 s) :
    ∀ a1 a2, Frame m s0 (State.dvfsAbandon s a1 a2) := by
  intro a1 a2
  have s_State_dvfsCancel : Sub State.dvfsCancel_foot m := hm.of (by decide)
  have s_State_dvfsDrop : Sub State.dvfsDrop_foot m := hm.of (by decide)
  have s_State_dvfsPark : Sub State.dvfsPark_foot m := hm.of (by decide)
  unfold State.dvfsAbandon
  repeat' first
    | with_reducible assumption
    | with_reducible refine Frame.ite ?_ ?_
    | with_reducible refine State.dvfsCancel_frame s_State_dvfsCancel ?_ _ _ _
    | with_reducible refine State.dvfsDrop_frame s_State_dvfsDrop ?_
    | with_reducible refine State.dvfsPark_frame s_State_dvfsPark ?_
    | split

def State.dvfsOrder_foot : Nat := 0x800000
theorem State.dvfsOrder_frame (hm : Sub State.dvfsOrder_foot m) (h : Frame m s0 s) :
    ∀ a1, Frame m s0 (State.dvfsOrder s a1) := by
  intro a1
  have c_dvfs : m.testBit 23 = true := hm.bit 23 (by decide)
  unfold State.dvfsOrder
  repeat' first
    | with_reducible assumption
    | (extract_lets -underBinder +onlyGivenNames x; have u : True := (by clear_value x; guard_hyp x :ₛ State; trivial); clear u; refine Frame.cut (m := m) (s0 := s0) (t := x) ?_ ?_; (on_goal 1 => subst x); (on_goal 2 => (intro hx; clear_value x)))
    | (extract_lets -underBinder +onlyGivenNames n; first | clear_value n | subst n)
    | with_reducible refine Frame.ite ?_ ?_
    | with_reducible exact Frame.set_dvfs c_dvfs (by with_reducible assumption)
    | split

def State.dvfsDescend_foot : Nat := 0x1000000000000000000000000000000000000000000000000000000000000000000000000030000000000000000000000000000000002c000000000000000000800100
theorem State.dvfsDescend_frame (hm : Sub State.dvfsDescend_foot m) (h : Frame m s0 s) :
    Frame m s0 (State.dvfsDescend s) := by
  have s_State_dvfsSettle : Sub State.dvfsSettle_foot m := hm.of (by decide)
  have s_State_dvfsAbandon : Sub State.dvfsAbandon_foot m := hm.of (by decide)
  have s_State_dvfsOrder : Sub State.dvfsOrder_foot m := hm.of (by decide)
  have k_CHK_DVFS_STAT_deferred : Has m CHK_DVFS_STAT_deferred := hm.has 8 11 rfl (by decide)
  have k_CLK_DVFS_STAT_stage : Has m CLK_DVFS_STAT_stage := hm.has 1 21 rfl (by decide)
  unfold State.dvfsDescend
  repeat' first
    | with_reducible assumption
    | (extract_lets -underBinder +onlyGivenNames x; have u : True := (by clear_value x; guard_hyp x :ₛ State; trivial); clear u; refine Frame.cut (m := m) (s0 := s0) (t := x) ?_ ?_; (on_goal 1 => subst x); (on_goal 2 => (intro hx; clear_value x)))
    | (extract_lets -underBinder +onlyGivenNames n; first | clear_value n | subst n)
    | with_reducible refine Frame.ite ?_ ?_
    | with_reducible refine wr_frame (by with_reducible assumption) ?_ _ _
    | with_reducible refine State.dvfsSettle_frame s_State_dvfsSettle ?_
    | with_reducible refine State.dvfsAbandon_frame s_State_dvfsAbandon ?_ _ _
    | with_reducible refine State.dvfsOrder_frame s_State_dvfsOrder ?_ _
    | split

def State.dvfsFree_foot : Nat := 0x1000000000000000000000000000000000000000000000000000000000000000000000000030000000000000000000000000000000002c000000000000000000800100
theorem State.dvfsFree_frame (hm : Sub State.dvfsFree_foot m) (h : Frame m s0 s) :
    Frame m s0 (State.dvfsFree s) := by
  have s_State_dvfsNext : Sub State.dvfsNext_foot m := hm.of (by decide)
  have c_dvfs : m.testBit 23 = true := hm.bit 23 (by decide)
  unfold State.dvfsFree
  repeat' first
    | with_reducible assumption
    | (extract_lets -underBinder +onlyGivenNames x; have u : True := (by clear_value x; guard_hyp x :ₛ State; trivial); clear u; refine Frame.cut (m := m) (s0 := s0) (t := x) ?_ ?_; (on_goal 1 => subst x); (on_goal 2 => (intro hx; clear_value x)))
    | (extract_lets -underBinder +onlyGivenNames n; first | clear_value n | subst n)
    | with_reducible refine Frame.ite ?_ ?_
    | with_reducible refine State.dvfsNext_frame s_State_dvfsNext ?_
    | with_reducible exact Frame.set_dvfs c_dvfs (by with_reducible assumption)

def State.dvfsTaken_foot : Nat := 0x1000000000000000000000000000000000000000000000000000000000000000000000000030000000000000000000000000000000002c000000000000000000800100
theorem State.dvfsTaken_frame (hm : Sub State.dvfsTaken_foot m) (h : Frame m s0 s) :
    Frame m s0 (State.dvfsTaken s) := by
  have s_State_dvfsNext : Sub State.dvfsNext_foot m := hm.of (by decide)
  have c_dvfs : m.testBit 23 = true := hm.bit 23 (by decide)
  unfold State.dvfsTaken
  repeat' first
    | with_reducible assumption
    | (extract_lets -underBinder +onlyGivenNames x; have u : True := (by clear_value x; guard_hyp x :ₛ State; trivial); clear u; refine Frame.cut (m := m) (s0 := s0) (t := x) ?_ ?_; (on_goal 1 => subst x); (on_goal 2 => (intro hx; clear_value x)))
    | (extract_lets -underBinder +onlyGivenNames n; first | clear_value n | subst n)
    | with_reducible refine Frame.ite ?_ ?_
    | with_reducible refine State.dvfsNext_frame s_State_dvfsNext ?_
    | with_reducible exact Frame.set_dvfs c_dvfs (by with_reducible assumption)
    | split

end Sys2Proof.Machine
end

