-- ==== Sys2Proof/Laws/FrameClasses.lean ====
section
/-!
SUPPORT. Laws/FrameClasses.lean: the footprint of every function of Machine/Classes.lean, and that it writes nothing outside it.
-/
namespace Sys2Proof.Machine

set_option linter.all false

variable {m : Nat} {s0 s : State}

def State.setCtx_foot : Nat := 0x80000
theorem State.setCtx_frame (hm : Sub State.setCtx_foot m) (h : Frame m s0 s) :
    ∀ a1 a2, Frame m s0 (State.setCtx s a1 a2) := by
  intro a1 a2
  have c_lpe : m.testBit 19 = true := hm.bit 19 (by decide)
  unfold State.setCtx
  repeat' first
    | with_reducible assumption
    | (extract_lets -underBinder +onlyGivenNames x; have u : True := (by clear_value x; guard_hyp x :ₛ State; trivial); clear u; refine Frame.cut (m := m) (s0 := s0) (t := x) ?_ ?_; (on_goal 1 => subst x); (on_goal 2 => (intro hx; clear_value x)))
    | (extract_lets -underBinder +onlyGivenNames n; first | clear_value n | subst n)
    | with_reducible refine Frame.ite ?_ ?_
    | with_reducible exact Frame.set_lpe c_lpe (by with_reducible assumption)

def State.refreshChoker_foot : Nat := 0x3f000000000000000000000000000000000000000000000000000000000000000000000000000000000000000000000000000000000000000000
theorem State.refreshChoker_frame (hm : Sub State.refreshChoker_foot m) (h : Frame m s0 s) :
    ∀ a1, Frame m s0 (State.refreshChoker s a1) := by
  intro a1
  have k_LPE_CLASS_cur : Has m LPE_CLASS_cur := hm.has 13 14 rfl (by decide)
  have k_LPE_CLASS_pwr : Has m LPE_CLASS_pwr := hm.has 13 15 rfl (by decide)
  have k_LPE_CLASS_row4 : Has m LPE_CLASS_row4 := hm.has 13 19 rfl (by decide)
  have k_LPE_CLASS_slp : Has m LPE_CLASS_slp := hm.has 13 17 rfl (by decide)
  have k_LPE_CLASS_ten : Has m LPE_CLASS_ten := hm.has 13 18 rfl (by decide)
  have k_LPE_CLASS_thm : Has m LPE_CLASS_thm := hm.has 13 16 rfl (by decide)
  unfold State.refreshChoker
  repeat' first
    | with_reducible assumption
    | (extract_lets -underBinder +onlyGivenNames x; have u : True := (by clear_value x; guard_hyp x :ₛ State; trivial); clear u; refine Frame.cut (m := m) (s0 := s0) (t := x) ?_ ?_; (on_goal 1 => subst x); (on_goal 2 => (intro hx; clear_value x)))
    | (extract_lets -underBinder +onlyGivenNames n; first | clear_value n | subst n)
    | with_reducible refine Frame.ite ?_ ?_
    | with_reducible refine wr_frame (by with_reducible assumption) ?_ _ _

def State.refreshChokers_foot : Nat := 0x3f000000000000000000000000000000000000000000000000000000000000000000000000000000000000000000000000000000000000000000
theorem State.refreshChokers_frame (hm : Sub State.refreshChokers_foot m) (h : Frame m s0 s) :
    ∀ a1, Frame m s0 (State.refreshChokers s a1) := by
  intro a1
  have s_State_refreshChoker : Sub State.refreshChoker_foot m := hm.of (by decide)
  unfold State.refreshChokers
  repeat' first
    | with_reducible assumption
    | with_reducible refine Frame.ite ?_ ?_
    | with_reducible refine State.refreshChoker_frame s_State_refreshChoker ?_ _
    | with_reducible refine Frame.foldl ?_ (fun s x hs => ?_)

end Sys2Proof.Machine
end

