-- ==== Sys2Proof/Laws/FrameTally.lean ====
section
/-!
SUPPORT. Laws/FrameTally.lean: the footprint of every function of Machine/Tally.lean, and that it writes nothing outside it.
-/
namespace Sys2Proof.Machine

set_option linter.all false

variable {m : Nat} {s0 s : State}

def State.setObj_foot : Nat := 0x8000
theorem State.setObj_frame (hm : Sub State.setObj_foot m) (h : Frame m s0 s) :
    ∀ a1 a2, Frame m s0 (State.setObj s a1 a2) := by
  intro a1 a2
  have c_tly : m.testBit 15 = true := hm.bit 15 (by decide)
  unfold State.setObj
  repeat' first
    | with_reducible assumption
    | (extract_lets -underBinder +onlyGivenNames x; have u : True := (by clear_value x; guard_hyp x :ₛ State; trivial); clear u; refine Frame.cut (m := m) (s0 := s0) (t := x) ?_ ?_; (on_goal 1 => subst x); (on_goal 2 => (intro hx; clear_value x)))
    | (extract_lets -underBinder +onlyGivenNames n; first | clear_value n | subst n)
    | with_reducible refine Frame.ite ?_ ?_
    | with_reducible exact Frame.set_tly c_tly (by with_reducible assumption)

def State.setPool_foot : Nat := 0x8000
theorem State.setPool_frame (hm : Sub State.setPool_foot m) (h : Frame m s0 s) :
    ∀ a1 a2, Frame m s0 (State.setPool s a1 a2) := by
  intro a1 a2
  have c_tly : m.testBit 15 = true := hm.bit 15 (by decide)
  unfold State.setPool
  repeat' first
    | with_reducible assumption
    | (extract_lets -underBinder +onlyGivenNames x; have u : True := (by clear_value x; guard_hyp x :ₛ State; trivial); clear u; refine Frame.cut (m := m) (s0 := s0) (t := x) ?_ ?_; (on_goal 1 => subst x); (on_goal 2 => (intro hx; clear_value x)))
    | (extract_lets -underBinder +onlyGivenNames n; first | clear_value n | subst n)
    | with_reducible refine Frame.ite ?_ ?_
    | with_reducible exact Frame.set_tly c_tly (by with_reducible assumption)

def State.settleRound_foot : Nat := 0x8000
theorem State.settleRound_frame (hm : Sub State.settleRound_foot m) (h : Frame m s0 s) :
    ∀ a1 a2, Frame m s0 (State.settleRound s a1 a2) := by
  intro a1 a2
  have s_State_setPool : Sub State.setPool_foot m := hm.of (by decide)
  unfold State.settleRound
  repeat' first
    | with_reducible assumption
    | (extract_lets -underBinder +onlyGivenNames x; have u : True := (by clear_value x; guard_hyp x :ₛ State; trivial); clear u; refine Frame.cut (m := m) (s0 := s0) (t := x) ?_ ?_; (on_goal 1 => subst x); (on_goal 2 => (intro hx; clear_value x)))
    | (extract_lets -underBinder +onlyGivenNames n; first | clear_value n | subst n)
    | with_reducible refine Frame.ite ?_ ?_
    | with_reducible refine State.setPool_frame s_State_setPool ?_ _ _
    | split

def State.refreshPool_foot : Nat := 0x16000400000000000000000000000000000000000000000000000000000000000000000000000000000000000000000000000000000000000000000000
theorem State.refreshPool_frame (hm : Sub State.refreshPool_foot m) (h : Frame m s0 s) :
    ∀ a1, Frame m s0 (State.refreshPool s a1) := by
  intro a1
  have k_TLY_POOL_ST_rq : Has m TLY_POOL_ST_rq := hm.has 14 20 rfl (by decide)
  have k_TLY_POOL_ST_rsv : Has m TLY_POOL_ST_rsv := hm.has 14 19 rfl (by decide)
  have k_TLY_POOL_ST_waiting : Has m TLY_POOL_ST_waiting := hm.has 14 22 rfl (by decide)
  have k_TLY_STAT_rsv : Has m TLY_STAT_rsv := hm.has 14 4 rfl (by decide)
  unfold State.refreshPool
  repeat' first
    | with_reducible assumption
    | (extract_lets -underBinder +onlyGivenNames x; have u : True := (by clear_value x; guard_hyp x :ₛ State; trivial); clear u; refine Frame.cut (m := m) (s0 := s0) (t := x) ?_ ?_; (on_goal 1 => subst x); (on_goal 2 => (intro hx; clear_value x)))
    | (extract_lets -underBinder +onlyGivenNames n; first | clear_value n | subst n)
    | with_reducible refine Frame.ite ?_ ?_
    | with_reducible refine wr_frame (by with_reducible assumption) ?_ _ _

def State.setCommitted_foot : Nat := 0x2000000000000000000000000000000000000000000000000000000000000000000000000000000000000000000000000000000000000000000000008000
theorem State.setCommitted_frame (hm : Sub State.setCommitted_foot m) (h : Frame m s0 s) :
    ∀ a1 a2, Frame m s0 (State.setCommitted s a1 a2) := by
  intro a1 a2
  have k_TLY_TEN_ST_committed : Has m TLY_TEN_ST_committed := hm.has 14 31 rfl (by decide)
  have c_tly : m.testBit 15 = true := hm.bit 15 (by decide)
  unfold State.setCommitted
  repeat' first
    | with_reducible assumption
    | (extract_lets -underBinder +onlyGivenNames x; have u : True := (by clear_value x; guard_hyp x :ₛ State; trivial); clear u; refine Frame.cut (m := m) (s0 := s0) (t := x) ?_ ?_; (on_goal 1 => subst x); (on_goal 2 => (intro hx; clear_value x)))
    | (extract_lets -underBinder +onlyGivenNames n; first | clear_value n | subst n)
    | with_reducible refine Frame.ite ?_ ?_
    | with_reducible refine wr_frame (by with_reducible assumption) ?_ _ _
    | with_reducible exact Frame.set_tly c_tly (by with_reducible assumption)

def State.retally_foot : Nat := 0x3f000000000000000000000000000000000000000000000000000000000000000000000000000000000000000000000000000000000000000000
theorem State.retally_frame (hm : Sub State.retally_foot m) (h : Frame m s0 s) :
    ∀ a1, Frame m s0 (State.retally s a1) := by
  intro a1
  have s_State_refreshChoker : Sub State.refreshChoker_foot m := hm.of (by decide)
  unfold State.retally
  repeat' first
    | with_reducible assumption
    | with_reducible refine Frame.ite ?_ ?_
    | with_reducible refine State.refreshChoker_frame s_State_refreshChoker ?_ _

def State.freeObj_foot : Nat := 0x601700063f000000000000000000000000000000000000000000000000000000000000000000000000000000000000000000000000000000000000008400
theorem State.freeObj_frame (hm : Sub State.freeObj_foot m) (h : Frame m s0 s) :
    ∀ a1, Frame m s0 (State.freeObj s a1) := by
  intro a1
  have s_State_setObj : Sub State.setObj_foot m := hm.of (by decide)
  have s_State_settleRound : Sub State.settleRound_foot m := hm.of (by decide)
  have s_State_refreshPool : Sub State.refreshPool_foot m := hm.of (by decide)
  have s_State_setCommitted : Sub State.setCommitted_foot m := hm.of (by decide)
  have s_State_retally : Sub State.retally_foot m := hm.of (by decide)
  have s_State_count : Sub State.count_foot m := hm.of (by decide)
  have s_State_setPool : Sub State.setPool_foot m := hm.of (by decide)
  have k_TLY_POOL_ST_used : Has m TLY_POOL_ST_used := hm.has 14 18 rfl (by decide)
  have k_TLY_STAT_free : Has m TLY_STAT_free := hm.has 14 3 rfl (by decide)
  have k_TLY_TEN_ST_objects : Has m TLY_TEN_ST_objects := hm.has 14 32 rfl (by decide)
  have c_tly : m.testBit 15 = true := hm.bit 15 (by decide)
  unfold State.freeObj
  repeat' first
    | with_reducible assumption
    | (extract_lets -underBinder +onlyGivenNames x; have u : True := (by clear_value x; guard_hyp x :ₛ State; trivial); clear u; refine Frame.cut (m := m) (s0 := s0) (t := x) ?_ ?_; (on_goal 1 => subst x); (on_goal 2 => (intro hx; clear_value x)))
    | (extract_lets -underBinder +onlyGivenNames n; first | clear_value n | subst n)
    | with_reducible refine Frame.ite ?_ ?_
    | with_reducible refine wr_frame (by with_reducible assumption) ?_ _ _
    | with_reducible refine State.setObj_frame s_State_setObj ?_ _ _
    | with_reducible refine State.settleRound_frame s_State_settleRound ?_ _ _
    | with_reducible refine State.refreshPool_frame s_State_refreshPool ?_ _
    | with_reducible refine State.setCommitted_frame s_State_setCommitted ?_ _ _
    | with_reducible refine State.retally_frame s_State_retally ?_ _
    | with_reducible refine State.count_frame s_State_count ?_ _ _
    | with_reducible refine State.setPool_frame s_State_setPool ?_ _ _
    | with_reducible exact Frame.set_tly c_tly (by with_reducible assumption)
    | split

def State.freeObjs_foot : Nat := 0x601700063f000000000000000000000000000000000000000000000000000000000000000000000000000000000000000000000000000000000000008400
theorem State.freeObjs_frame (hm : Sub State.freeObjs_foot m) (h : Frame m s0 s) :
    ∀ a1, Frame m s0 (State.freeObjs s a1) := by
  intro a1
  have s_State_freeObj : Sub State.freeObj_foot m := hm.of (by decide)
  unfold State.freeObjs
  repeat' first
    | with_reducible assumption
    | with_reducible refine Frame.ite ?_ ?_
    | with_reducible refine State.freeObj_frame s_State_freeObj ?_ _
    | with_reducible refine Frame.foldl ?_ (fun s x hs => ?_)

def State.showHeld_foot : Nat := 0x280000000000000000000000000000000000000000000000000000000000000
theorem State.showHeld_frame (hm : Sub State.showHeld_foot m) (h : Frame m s0 s) :
    ∀ a1, Frame m s0 (State.showHeld s a1) := by
  intro a1
  have k_CHK_STEP_held : Has m CHK_STEP_held := hm.has 8 21 rfl (by decide)
  have k_CHK_STEP_seq : Has m CHK_STEP_seq := hm.has 8 23 rfl (by decide)
  unfold State.showHeld
  repeat' first
    | with_reducible assumption
    | with_reducible refine Frame.ite ?_ ?_
    | with_reducible refine wr_frame (by with_reducible assumption) ?_ _ _
    | split

def State.driveGrant_foot : Nat := 0x80
theorem State.driveGrant_frame (hm : Sub State.driveGrant_foot m) (h : Frame m s0 s) :
    ∀ a1, Frame m s0 (State.driveGrant s a1) := by
  intro a1
  have s_State_send : Sub State.send_foot m := hm.of (by decide)
  unfold State.driveGrant
  repeat' first
    | with_reducible assumption
    | (extract_lets -underBinder +onlyGivenNames x; have u : True := (by clear_value x; guard_hyp x :ₛ State; trivial); clear u; refine Frame.cut (m := m) (s0 := s0) (t := x) ?_ ?_; (on_goal 1 => subst x); (on_goal 2 => (intro hx; clear_value x)))
    | (extract_lets -underBinder +onlyGivenNames n; first | clear_value n | subst n)
    | with_reducible refine Frame.ite ?_ ?_
    | with_reducible refine State.send_frame s_State_send ?_ _
    | split

def State.countRecall_foot : Nat := 0x10000000000008018000000000000000000000000000000000000000000000000000000000000000000000000000000000000000000000000000000000000000000500
theorem State.countRecall_frame (hm : Sub State.countRecall_foot m) (h : Frame m s0 s) :
    ∀ a1, Frame m s0 (State.countRecall s a1) := by
  intro a1
  have s_State_emitLim : Sub State.emitLim_foot m := hm.of (by decide)
  have s_State_count : Sub State.count_foot m := hm.of (by decide)
  have k_TLY_POOL_ST_clamped : Has m TLY_POOL_ST_clamped := hm.has 14 21 rfl (by decide)
  have k_TLY_RCL_nprog : Has m TLY_RCL_nprog := hm.has 14 9 rfl (by decide)
  have k_TLY_RCL_rsv : Has m TLY_RCL_rsv := hm.has 14 10 rfl (by decide)
  unfold State.countRecall
  repeat' first
    | with_reducible assumption
    | (extract_lets -underBinder +onlyGivenNames x; have u : True := (by clear_value x; guard_hyp x :ₛ State; trivial); clear u; refine Frame.cut (m := m) (s0 := s0) (t := x) ?_ ?_; (on_goal 1 => subst x); (on_goal 2 => (intro hx; clear_value x)))
    | (extract_lets -underBinder +onlyGivenNames n; first | clear_value n | subst n)
    | with_reducible refine Frame.ite ?_ ?_
    | with_reducible refine bump_frame (by with_reducible assumption) ?_ _
    | with_reducible refine State.emitLim_frame s_State_emitLim ?_ _ _ _ _ _
    | with_reducible refine State.count_frame s_State_count ?_ _ _
    | split

def State.tlyEnd_foot : Nat := 0x10000000000008018000000000000000000000000000000000000000000000000000000000000000000000000000000000000000000000000000000000000000008580
theorem State.tlyEnd_frame (hm : Sub State.tlyEnd_foot m) (h : Frame m s0 s) :
    Frame m s0 (State.tlyEnd s) := by
  have s_State_driveGrant : Sub State.driveGrant_foot m := hm.of (by decide)
  have s_State_countRecall : Sub State.countRecall_foot m := hm.of (by decide)
  have c_tly : m.testBit 15 = true := hm.bit 15 (by decide)
  unfold State.tlyEnd
  repeat' first
    | with_reducible assumption
    | (extract_lets -underBinder +onlyGivenNames x; have u : True := (by clear_value x; guard_hyp x :ₛ State; trivial); clear u; refine Frame.cut (m := m) (s0 := s0) (t := x) ?_ ?_; (on_goal 1 => subst x); (on_goal 2 => (intro hx; clear_value x)))
    | (extract_lets -underBinder +onlyGivenNames n; first | clear_value n | subst n)
    | with_reducible refine Frame.ite ?_ ?_
    | with_reducible refine State.driveGrant_frame s_State_driveGrant ?_ _
    | with_reducible refine State.countRecall_frame s_State_countRecall ?_ _
    | with_reducible exact Frame.set_tly c_tly (by with_reducible assumption)
    | with_reducible refine Frame.foldl ?_ (fun s x hs => ?_)

def State.misuse_foot : Nat := 0x10000000000000000000000000000000000000000000000000000000000000000000000000000000000000000000000000000000000000000000000000000000000100
theorem State.misuse_frame (hm : Sub State.misuse_foot m) (h : Frame m s0 s) :
    ∀ a1 a2 a3 a4, Frame m s0 (State.misuse s a1 a2 a3 a4) := by
  intro a1 a2 a3 a4
  have s_State_emitLim : Sub State.emitLim_foot m := hm.of (by decide)
  unfold State.misuse
  repeat' first
    | with_reducible assumption
    | with_reducible refine Frame.ite ?_ ?_
    | with_reducible refine State.emitLim_frame s_State_emitLim ?_ _ _ _ _ _

def State.refuseReq_foot : Nat := 0x10000000000000001000000000000000000000000000000000000000000000000000000000000000000000000000000000000000000000000000000000000000000180
theorem State.refuseReq_frame (hm : Sub State.refuseReq_foot m) (h : Frame m s0 s) :
    ∀ a1 a2, Frame m s0 (State.refuseReq s a1 a2) := by
  intro a1 a2
  have s_State_misuse : Sub State.misuse_foot m := hm.of (by decide)
  have s_State_send : Sub State.send_foot m := hm.of (by decide)
  have k_TLY_VIOL_bad_req : Has m TLY_VIOL_bad_req := hm.has 14 6 rfl (by decide)
  unfold State.refuseReq
  repeat' first
    | with_reducible assumption
    | with_reducible refine Frame.ite ?_ ?_
    | with_reducible refine bump_frame (by with_reducible assumption) ?_ _
    | with_reducible refine State.misuse_frame s_State_misuse ?_ _ _ _ _
    | with_reducible refine State.send_frame s_State_send ?_ _

def State.nextOrder_foot : Nat := 0x8000
theorem State.nextOrder_frame (hm : Sub State.nextOrder_foot m) (h : Frame m s0 s) :
    Frame m s0 (State.nextOrder s) := by
  have c_tly : m.testBit 15 = true := hm.bit 15 (by decide)
  unfold State.nextOrder
  repeat' first
    | with_reducible assumption
    | (extract_lets -underBinder +onlyGivenNames x; have u : True := (by clear_value x; guard_hyp x :ₛ State; trivial); clear u; refine Frame.cut (m := m) (s0 := s0) (t := x) ?_ ?_; (on_goal 1 => subst x); (on_goal 2 => (intro hx; clear_value x)))
    | (extract_lets -underBinder +onlyGivenNames n; first | clear_value n | subst n)
    | with_reducible refine Frame.ite ?_ ?_
    | with_reducible exact Frame.set_tly c_tly (by with_reducible assumption)

def State.hubTake_foot : Nat := 0x10000000004008000200000000000000000000000000000000000000000000000000000280000000000000000000000000000000000000000000000000000000008900
theorem State.hubTake_frame (hm : Sub State.hubTake_foot m) (h : Frame m s0 s) :
    ∀ a1 a2 a3, Frame m s0 (State.hubTake s a1 a2 a3) := by
  intro a1 a2 a3
  have s_State_setLane : Sub State.setLane_foot m := hm.of (by decide)
  have s_State_emitLim : Sub State.emitLim_foot m := hm.of (by decide)
  have s_State_setObj : Sub State.setObj_foot m := hm.of (by decide)
  have s_State_showHeld : Sub State.showHeld_foot m := hm.of (by decide)
  have s_State_nextOrder : Sub State.nextOrder_foot m := hm.of (by decide)
  have k_TLY_POOL_ST_clamped : Has m TLY_POOL_ST_clamped := hm.has 14 21 rfl (by decide)
  have k_TLY_STAT_free : Has m TLY_STAT_free := hm.has 14 3 rfl (by decide)
  have k_TLY_TEN_ST_objects : Has m TLY_TEN_ST_objects := hm.has 14 32 rfl (by decide)
  have c_tly : m.testBit 15 = true := hm.bit 15 (by decide)
  unfold State.hubTake
  repeat' first
    | with_reducible assumption
    | (extract_lets -underBinder +onlyGivenNames x; have u : True := (by clear_value x; guard_hyp x :ₛ State; trivial); clear u; refine Frame.cut (m := m) (s0 := s0) (t := x) ?_ ?_; (on_goal 1 => subst x); (on_goal 2 => (intro hx; clear_value x)))
    | (extract_lets -underBinder +onlyGivenNames n; first | clear_value n | subst n)
    | with_reducible refine Frame.ite ?_ ?_
    | with_reducible refine wr_frame (by with_reducible assumption) ?_ _ _
    | with_reducible refine bump_frame (by with_reducible assumption) ?_ _
    | with_reducible refine State.setLane_frame s_State_setLane ?_ _ _
    | with_reducible refine State.emitLim_frame s_State_emitLim ?_ _ _ _ _ _
    | with_reducible refine State.setObj_frame s_State_setObj ?_ _ _
    | with_reducible refine State.showHeld_frame s_State_showHeld ?_ _
    | with_reducible refine State.nextOrder_frame s_State_nextOrder ?_
    | with_reducible exact Frame.set_tly c_tly (by with_reducible assumption)
    | split

def State.present_foot : Nat := 0x10000000004008001200000000000000000000000000000000000000000000000000000280000000000000000000000000000000000000000000000000000000008980
theorem State.present_frame (hm : Sub State.present_foot m) (h : Frame m s0 s) :
    ∀ a1 a2, Frame m s0 (State.present s a1 a2) := by
  intro a1 a2
  have s_State_refuseReq : Sub State.refuseReq_foot m := hm.of (by decide)
  have s_State_setLane : Sub State.setLane_foot m := hm.of (by decide)
  have s_State_hubTake : Sub State.hubTake_foot m := hm.of (by decide)
  have s_State_showHeld : Sub State.showHeld_foot m := hm.of (by decide)
  unfold State.present
  repeat' first
    | with_reducible assumption
    | with_reducible refine Frame.ite ?_ ?_
    | with_reducible refine State.refuseReq_frame s_State_refuseReq ?_ _ _
    | with_reducible refine State.setLane_frame s_State_setLane ?_ _ _
    | with_reducible refine State.hubTake_frame s_State_hubTake ?_ _ _ _
    | with_reducible refine State.showHeld_frame s_State_showHeld ?_ _
    | split

def State.pickReq_foot : Nat := 0x280000000000000000000000000000000000000000000000000000000000800
theorem State.pickReq_frame (hm : Sub State.pickReq_foot m) (h : Frame m s0 s) :
    ∀ a1, Frame m s0 (State.pickReq s a1) := by
  intro a1
  have s_State_setLane : Sub State.setLane_foot m := hm.of (by decide)
  have s_State_showHeld : Sub State.showHeld_foot m := hm.of (by decide)
  unfold State.pickReq
  repeat' first
    | with_reducible assumption
    | with_reducible refine Frame.ite ?_ ?_
    | with_reducible refine State.setLane_frame s_State_setLane ?_ _ _
    | with_reducible refine State.showHeld_frame s_State_showHeld ?_ _

def State.clampPool_foot : Nat := 0x2008000000000000000000000000000000000000000000000000000000000000000000000000000000000000000000000000000000000000000000008000
theorem State.clampPool_frame (hm : Sub State.clampPool_foot m) (h : Frame m s0 s) :
    ∀ a1, Frame m s0 (State.clampPool s a1) := by
  intro a1
  have s_State_setObj : Sub State.setObj_foot m := hm.of (by decide)
  have s_State_setCommitted : Sub State.setCommitted_foot m := hm.of (by decide)
  have k_TLY_POOL_ST_clamped : Has m TLY_POOL_ST_clamped := hm.has 14 21 rfl (by decide)
  unfold State.clampPool
  repeat' first
    | with_reducible assumption
    | (extract_lets -underBinder +onlyGivenNames x; have u : True := (by clear_value x; guard_hyp x :ₛ State; trivial); clear u; refine Frame.cut (m := m) (s0 := s0) (t := x) ?_ ?_; (on_goal 1 => subst x); (on_goal 2 => (intro hx; clear_value x)))
    | (extract_lets -underBinder +onlyGivenNames n; first | clear_value n | subst n)
    | with_reducible refine Frame.ite ?_ ?_
    | with_reducible refine bump_frame (by with_reducible assumption) ?_ _
    | with_reducible refine State.setObj_frame s_State_setObj ?_ _ _
    | with_reducible refine State.setCommitted_frame s_State_setCommitted ?_ _ _
    | with_reducible refine Frame.foldl ?_ (fun s x hs => ?_)
    | split

def State.actPool_foot : Nat := 0x8000
theorem State.actPool_frame (hm : Sub State.actPool_foot m) (h : Frame m s0 s) :
    ∀ a1, Frame m s0 (State.actPool s a1) := by
  intro a1
  have s_State_setPool : Sub State.setPool_foot m := hm.of (by decide)
  unfold State.actPool
  repeat' first
    | with_reducible assumption
    | (extract_lets -underBinder +onlyGivenNames x; have u : True := (by clear_value x; guard_hyp x :ₛ State; trivial); clear u; refine Frame.cut (m := m) (s0 := s0) (t := x) ?_ ?_; (on_goal 1 => subst x); (on_goal 2 => (intro hx; clear_value x)))
    | (extract_lets -underBinder +onlyGivenNames n; first | clear_value n | subst n)
    | with_reducible refine Frame.ite ?_ ?_
    | with_reducible refine State.setPool_frame s_State_setPool ?_ _ _

def State.crossErr_foot : Nat := 0x10000000000000000000000000000000000000000000000000000000000000000000000000000000000000000000000000000000000000000800000000000000000100
theorem State.crossErr_frame (hm : Sub State.crossErr_foot m) (h : Frame m s0 s) :
    ∀ a1, Frame m s0 (State.crossErr s a1) := by
  intro a1
  have s_State_emit : Sub State.emit_foot m := hm.of (by decide)
  have k_CLK_XERR_err : Has m CLK_XERR_err := hm.has 1 5 rfl (by decide)
  unfold State.crossErr
  repeat' first
    | with_reducible assumption
    | with_reducible refine Frame.ite ?_ ?_
    | with_reducible refine wr_frame (by with_reducible assumption) ?_ _ _
    | with_reducible refine State.emit_frame s_State_emit ?_ _ _ _

def tallyRequest_foot : Nat := 0x10000000000000001000000000000000000000000000000000000000000000000000000280000000000000000000000000000000000000000800000000000000000980
theorem tallyRequest_frame (hm : Sub tallyRequest_foot m) (h : Frame m s0 s) :
    ∀ a0 a1 a2 a3 a4, Frame m s0 (tallyRequest a0 a1 a2 a3 a4 s) := by
  intro a0 a1 a2 a3 a4
  have s_State_refuseReq : Sub State.refuseReq_foot m := hm.of (by decide)
  have s_State_setLane : Sub State.setLane_foot m := hm.of (by decide)
  have s_State_crossErr : Sub State.crossErr_foot m := hm.of (by decide)
  have s_State_showHeld : Sub State.showHeld_foot m := hm.of (by decide)
  unfold tallyRequest
  repeat' first
    | with_reducible assumption
    | (extract_lets -underBinder +onlyGivenNames x; have u : True := (by clear_value x; guard_hyp x :ₛ State; trivial); clear u; refine Frame.cut (m := m) (s0 := s0) (t := x) ?_ ?_; (on_goal 1 => subst x); (on_goal 2 => (intro hx; clear_value x)))
    | (extract_lets -underBinder +onlyGivenNames n; first | clear_value n | subst n)
    | with_reducible refine Frame.ite ?_ ?_
    | with_reducible refine State.refuseReq_frame s_State_refuseReq ?_ _ _
    | with_reducible refine State.setLane_frame s_State_setLane ?_ _ _
    | with_reducible refine State.crossErr_frame s_State_crossErr ?_ _
    | with_reducible refine State.showHeld_frame s_State_showHeld ?_ _
    | split

def tallyRequestPresent_foot : Nat := 0x10000000004008001200000000000000000000000000000000000000000000000000000280000000000000000000000000000000000000000000000000000000008980
theorem tallyRequestPresent_frame (hm : Sub tallyRequestPresent_foot m) (h : Frame m s0 s) :
    ∀ a0, Frame m s0 (tallyRequestPresent a0 s) := by
  intro a0
  have s_State_present : Sub State.present_foot m := hm.of (by decide)
  have s_State_pickReq : Sub State.pickReq_foot m := hm.of (by decide)
  unfold tallyRequestPresent
  repeat' first
    | with_reducible assumption
    | (extract_lets -underBinder +onlyGivenNames x; have u : True := (by clear_value x; guard_hyp x :ₛ State; trivial); clear u; refine Frame.cut (m := m) (s0 := s0) (t := x) ?_ ?_; (on_goal 1 => subst x); (on_goal 2 => (intro hx; clear_value x)))
    | (extract_lets -underBinder +onlyGivenNames n; first | clear_value n | subst n)
    | with_reducible refine Frame.ite ?_ ?_
    | with_reducible refine State.present_frame s_State_present ?_ _ _
    | with_reducible refine State.pickReq_frame s_State_pickReq ?_ _
    | split

def stepPresent_foot : Nat := 0x10000000004008001200000000000000000000000000000000000000000000000000000380000000000000000000000000000000000000000000000000000000008980
theorem stepPresent_frame (hm : Sub stepPresent_foot m) (h : Frame m s0 s) :
    ∀ a0, Frame m s0 (stepPresent a0 s) := by
  intro a0
  have s_State_present : Sub State.present_foot m := hm.of (by decide)
  have s_State_setLane : Sub State.setLane_foot m := hm.of (by decide)
  have s_State_pickReq : Sub State.pickReq_foot m := hm.of (by decide)
  have s_State_showHeld : Sub State.showHeld_foot m := hm.of (by decide)
  have k_CHK_STEP_credits : Has m CHK_STEP_credits := hm.has 8 22 rfl (by decide)
  unfold stepPresent
  repeat' first
    | with_reducible assumption
    | (extract_lets -underBinder +onlyGivenNames x; have u : True := (by clear_value x; guard_hyp x :ₛ State; trivial); clear u; refine Frame.cut (m := m) (s0 := s0) (t := x) ?_ ?_; (on_goal 1 => subst x); (on_goal 2 => (intro hx; clear_value x)))
    | (extract_lets -underBinder +onlyGivenNames n; first | clear_value n | subst n)
    | with_reducible refine Frame.ite ?_ ?_
    | with_reducible refine wr_frame (by with_reducible assumption) ?_ _ _
    | with_reducible refine State.present_frame s_State_present ?_ _ _
    | with_reducible refine State.setLane_frame s_State_setLane ?_ _ _
    | with_reducible refine State.pickReq_frame s_State_pickReq ?_ _
    | with_reducible refine State.showHeld_frame s_State_showHeld ?_ _
    | split

def State.activate_foot : Nat := 0x8000
theorem State.activate_frame (hm : Sub State.activate_foot m) (h : Frame m s0 s) :
    ∀ a1 a2, Frame m s0 (State.activate s a1 a2) := by
  intro a1 a2
  have s_State_setPool : Sub State.setPool_foot m := hm.of (by decide)
  unfold State.activate
  repeat' first
    | with_reducible assumption
    | (extract_lets -underBinder +onlyGivenNames x; have u : True := (by clear_value x; guard_hyp x :ₛ State; trivial); clear u; refine Frame.cut (m := m) (s0 := s0) (t := x) ?_ ?_; (on_goal 1 => subst x); (on_goal 2 => (intro hx; clear_value x)))
    | (extract_lets -underBinder +onlyGivenNames n; first | clear_value n | subst n)
    | with_reducible refine Frame.ite ?_ ?_
    | with_reducible refine State.setPool_frame s_State_setPool ?_ _ _
    | split

def tallyAdmit_foot : Nat := 0x2016000400000000000000000000000000000000000000000000000000000000000000000000000000000000000000000000000000000000000000008000
theorem tallyAdmit_frame (hm : Sub tallyAdmit_foot m) (h : Frame m s0 s) :
    ∀ a0, Frame m s0 (tallyAdmit a0 s) := by
  intro a0
  have s_State_setObj : Sub State.setObj_foot m := hm.of (by decide)
  have s_State_activate : Sub State.activate_foot m := hm.of (by decide)
  have s_State_refreshPool : Sub State.refreshPool_foot m := hm.of (by decide)
  have s_State_setCommitted : Sub State.setCommitted_foot m := hm.of (by decide)
  have s_State_nextOrder : Sub State.nextOrder_foot m := hm.of (by decide)
  unfold tallyAdmit
  repeat' first
    | with_reducible assumption
    | (extract_lets -underBinder +onlyGivenNames x; have u : True := (by clear_value x; guard_hyp x :ₛ State; trivial); clear u; refine Frame.cut (m := m) (s0 := s0) (t := x) ?_ ?_; (on_goal 1 => subst x); (on_goal 2 => (intro hx; clear_value x)))
    | (extract_lets -underBinder +onlyGivenNames n; first | clear_value n | subst n)
    | with_reducible refine Frame.ite ?_ ?_
    | with_reducible refine State.setObj_frame s_State_setObj ?_ _ _
    | with_reducible refine State.activate_frame s_State_activate ?_ _ _
    | with_reducible refine State.refreshPool_frame s_State_refreshPool ?_ _
    | with_reducible refine State.setCommitted_frame s_State_setCommitted ?_ _ _
    | with_reducible refine State.nextOrder_frame s_State_nextOrder ?_
    | split

def State.grantObj_foot : Nat := 0x1700043f000000000000000000000000000000000000000000000000000000000000000000000000000000000000000000000000000000000000008400
theorem State.grantObj_frame (hm : Sub State.grantObj_foot m) (h : Frame m s0 s) :
    ∀ a1, Frame m s0 (State.grantObj s a1) := by
  intro a1
  have s_State_setObj : Sub State.setObj_foot m := hm.of (by decide)
  have s_State_settleRound : Sub State.settleRound_foot m := hm.of (by decide)
  have s_State_refreshPool : Sub State.refreshPool_foot m := hm.of (by decide)
  have s_State_retally : Sub State.retally_foot m := hm.of (by decide)
  have s_State_nextOrder : Sub State.nextOrder_foot m := hm.of (by decide)
  have s_State_count : Sub State.count_foot m := hm.of (by decide)
  have s_State_setPool : Sub State.setPool_foot m := hm.of (by decide)
  have k_TLY_POOL_ST_used : Has m TLY_POOL_ST_used := hm.has 14 18 rfl (by decide)
  have c_tly : m.testBit 15 = true := hm.bit 15 (by decide)
  unfold State.grantObj
  repeat' first
    | with_reducible assumption
    | (extract_lets -underBinder +onlyGivenNames x; have u : True := (by clear_value x; guard_hyp x :ₛ State; trivial); clear u; refine Frame.cut (m := m) (s0 := s0) (t := x) ?_ ?_; (on_goal 1 => subst x); (on_goal 2 => (intro hx; clear_value x)))
    | (extract_lets -underBinder +onlyGivenNames n; first | clear_value n | subst n)
    | with_reducible refine Frame.ite ?_ ?_
    | with_reducible refine wr_frame (by with_reducible assumption) ?_ _ _
    | with_reducible refine State.setObj_frame s_State_setObj ?_ _ _
    | with_reducible refine State.settleRound_frame s_State_settleRound ?_ _ _
    | with_reducible refine State.refreshPool_frame s_State_refreshPool ?_ _
    | with_reducible refine State.retally_frame s_State_retally ?_ _
    | with_reducible refine State.nextOrder_frame s_State_nextOrder ?_
    | with_reducible refine State.count_frame s_State_count ?_ _ _
    | with_reducible refine State.setPool_frame s_State_setPool ?_ _ _
    | with_reducible exact Frame.set_tly c_tly (by with_reducible assumption)
    | split

def tallyGrant_foot : Nat := 0x1700043f000000000000000000000000000000000000000000000000000000000000000000000000000000000000000000000000000000000000008400
theorem tallyGrant_frame (hm : Sub tallyGrant_foot m) (h : Frame m s0 s) :
    ∀ a0, Frame m s0 (tallyGrant a0 s) := by
  intro a0
  have s_State_actPool : Sub State.actPool_foot m := hm.of (by decide)
  have s_State_grantObj : Sub State.grantObj_foot m := hm.of (by decide)
  have s_State_setPool : Sub State.setPool_foot m := hm.of (by decide)
  unfold tallyGrant
  repeat' first
    | with_reducible assumption
    | (extract_lets -underBinder +onlyGivenNames x; have u : True := (by clear_value x; guard_hyp x :ₛ State; trivial); clear u; refine Frame.cut (m := m) (s0 := s0) (t := x) ?_ ?_; (on_goal 1 => subst x); (on_goal 2 => (intro hx; clear_value x)))
    | (extract_lets -underBinder +onlyGivenNames n; first | clear_value n | subst n)
    | with_reducible refine Frame.ite ?_ ?_
    | with_reducible refine State.actPool_frame s_State_actPool ?_ _
    | with_reducible refine State.grantObj_frame s_State_grantObj ?_ _
    | with_reducible refine State.setPool_frame s_State_setPool ?_ _ _
    | split

def State.joinAged_foot : Nat := 0x8000
theorem State.joinAged_frame (hm : Sub State.joinAged_foot m) (h : Frame m s0 s) :
    ∀ a1 a2 a3, Frame m s0 (State.joinAged s a1 a2 a3) := by
  intro a1 a2 a3
  have s_State_setPool : Sub State.setPool_foot m := hm.of (by decide)
  unfold State.joinAged
  repeat' first
    | with_reducible assumption
    | (extract_lets -underBinder +onlyGivenNames x; have u : True := (by clear_value x; guard_hyp x :ₛ State; trivial); clear u; refine Frame.cut (m := m) (s0 := s0) (t := x) ?_ ?_; (on_goal 1 => subst x); (on_goal 2 => (intro hx; clear_value x)))
    | (extract_lets -underBinder +onlyGivenNames n; first | clear_value n | subst n)
    | with_reducible refine Frame.ite ?_ ?_
    | with_reducible refine State.setPool_frame s_State_setPool ?_ _ _
    | split

def requestAged_foot : Nat := 0x8000
theorem requestAged_frame (hm : Sub requestAged_foot m) (h : Frame m s0 s) :
    ∀ a0, Frame m s0 (requestAged a0 s) := by
  intro a0
  have s_State_joinAged : Sub State.joinAged_foot m := hm.of (by decide)
  unfold requestAged
  repeat' first
    | with_reducible assumption
    | (extract_lets -underBinder +onlyGivenNames x; have u : True := (by clear_value x; guard_hyp x :ₛ State; trivial); clear u; refine Frame.cut (m := m) (s0 := s0) (t := x) ?_ ?_; (on_goal 1 => subst x); (on_goal 2 => (intro hx; clear_value x)))
    | (extract_lets -underBinder +onlyGivenNames n; first | clear_value n | subst n)
    | with_reducible refine Frame.ite ?_ ?_
    | with_reducible refine State.joinAged_frame s_State_joinAged ?_ _ _ _
    | with_reducible refine Frame.foldTo ?_ (fun s x hs => ?_)
    | split

def reservationTake_foot : Nat := 0x16000400000000000000000000000000000000000000000000000000000000000000000000000000000000000000000000000000000000000000008000
theorem reservationTake_frame (hm : Sub reservationTake_foot m) (h : Frame m s0 s) :
    ∀ a0, Frame m s0 (reservationTake a0 s) := by
  intro a0
  have s_State_refreshPool : Sub State.refreshPool_foot m := hm.of (by decide)
  have s_State_setPool : Sub State.setPool_foot m := hm.of (by decide)
  unfold reservationTake
  repeat' first
    | with_reducible assumption
    | (extract_lets -underBinder +onlyGivenNames x; have u : True := (by clear_value x; guard_hyp x :ₛ State; trivial); clear u; refine Frame.cut (m := m) (s0 := s0) (t := x) ?_ ?_; (on_goal 1 => subst x); (on_goal 2 => (intro hx; clear_value x)))
    | (extract_lets -underBinder +onlyGivenNames n; first | clear_value n | subst n)
    | with_reducible refine Frame.ite ?_ ?_
    | with_reducible refine State.refreshPool_frame s_State_refreshPool ?_ _
    | with_reducible refine State.setPool_frame s_State_setPool ?_ _ _
    | split

def reservationMet_foot : Nat := 0x1000000000001700043f000000000000000000000000000000000000000000000000000000000000000000000000000000000000000000000000000000000000008500
theorem reservationMet_frame (hm : Sub reservationMet_foot m) (h : Frame m s0 s) :
    ∀ a0, Frame m s0 (reservationMet a0 s) := by
  intro a0
  have s_State_emitLim : Sub State.emitLim_foot m := hm.of (by decide)
  have s_State_grantObj : Sub State.grantObj_foot m := hm.of (by decide)
  have s_State_setPool : Sub State.setPool_foot m := hm.of (by decide)
  unfold reservationMet
  repeat' first
    | with_reducible assumption
    | (extract_lets -underBinder +onlyGivenNames x; have u : True := (by clear_value x; guard_hyp x :ₛ State; trivial); clear u; refine Frame.cut (m := m) (s0 := s0) (t := x) ?_ ?_; (on_goal 1 => subst x); (on_goal 2 => (intro hx; clear_value x)))
    | (extract_lets -underBinder +onlyGivenNames n; first | clear_value n | subst n)
    | with_reducible refine Frame.ite ?_ ?_
    | with_reducible refine State.emitLim_frame s_State_emitLim ?_ _ _ _ _ _
    | with_reducible refine State.grantObj_frame s_State_grantObj ?_ _
    | with_reducible refine State.setPool_frame s_State_setPool ?_ _ _
    | split

def State.recallObj_foot : Nat := 0x201700043f000000000000000000000000000000000000000000000000000000000000000000000000000000000000000000000000000000000000008000
theorem State.recallObj_frame (hm : Sub State.recallObj_foot m) (h : Frame m s0 s) :
    ∀ a1 a2, Frame m s0 (State.recallObj s a1 a2) := by
  intro a1 a2
  have s_State_setObj : Sub State.setObj_foot m := hm.of (by decide)
  have s_State_refreshPool : Sub State.refreshPool_foot m := hm.of (by decide)
  have s_State_setCommitted : Sub State.setCommitted_foot m := hm.of (by decide)
  have s_State_retally : Sub State.retally_foot m := hm.of (by decide)
  have s_State_nextOrder : Sub State.nextOrder_foot m := hm.of (by decide)
  have k_TLY_POOL_ST_used : Has m TLY_POOL_ST_used := hm.has 14 18 rfl (by decide)
  have c_tly : m.testBit 15 = true := hm.bit 15 (by decide)
  unfold State.recallObj
  repeat' first
    | with_reducible assumption
    | (extract_lets -underBinder +onlyGivenNames x; have u : True := (by clear_value x; guard_hyp x :ₛ State; trivial); clear u; refine Frame.cut (m := m) (s0 := s0) (t := x) ?_ ?_; (on_goal 1 => subst x); (on_goal 2 => (intro hx; clear_value x)))
    | (extract_lets -underBinder +onlyGivenNames n; first | clear_value n | subst n)
    | with_reducible refine Frame.ite ?_ ?_
    | with_reducible refine wr_frame (by with_reducible assumption) ?_ _ _
    | with_reducible refine State.setObj_frame s_State_setObj ?_ _ _
    | with_reducible refine State.refreshPool_frame s_State_refreshPool ?_ _
    | with_reducible refine State.setCommitted_frame s_State_setCommitted ?_ _ _
    | with_reducible refine State.retally_frame s_State_retally ?_ _
    | with_reducible refine State.nextOrder_frame s_State_nextOrder ?_
    | with_reducible exact Frame.set_tly c_tly (by with_reducible assumption)
    | split

def State.recallSome_foot : Nat := 0x201700043f000000000000000000000000000000000000000000000000000000000000000000000000000000000000000000000000000000000000008000
theorem State.recallSome_frame (hm : Sub State.recallSome_foot m) (h : Frame m s0 s) :
    ∀ a0 a1, Frame m s0 (State.recallSome a0 a1 s) := by
  intro a0 a1
  have s1 : Sub State.recallObj_foot m := hm.of (by decide)
  induction a0 generalizing s with
  | zero => exact h
  | succ n ih =>
    rw [State.recallSome]
    split
    · exact h
    · exact ih (State.recallObj_frame s1 h _ _)

def reservationRecall_foot : Nat := 0x201700043f000000000000000000000000000000000000000000000000000000000000000000000000000000000000000000000000000000000000008000
theorem reservationRecall_frame (hm : Sub reservationRecall_foot m) (h : Frame m s0 s) :
    ∀ a0, Frame m s0 (reservationRecall a0 s) := by
  intro a0
  have s_State_actPool : Sub State.actPool_foot m := hm.of (by decide)
  have s_State_recallSome : Sub State.recallSome_foot m := hm.of (by decide)
  unfold reservationRecall
  repeat' first
    | with_reducible assumption
    | with_reducible refine Frame.ite ?_ ?_
    | with_reducible refine State.actPool_frame s_State_actPool ?_ _
    | with_reducible refine State.recallSome_frame s_State_recallSome ?_ _ _
    | split

def recallNoProgress_foot : Nat := 0x201700043f000000000000000000000000000000000000000000000000000000000000000000000000000000000000000000000000000000000000008000
theorem recallNoProgress_frame (hm : Sub recallNoProgress_foot m) (h : Frame m s0 s) :
    Frame m s0 (recallNoProgress s) := by
  have s_State_recallObj : Sub State.recallObj_foot m := hm.of (by decide)
  unfold recallNoProgress
  repeat' first
    | with_reducible assumption
    | (extract_lets -underBinder +onlyGivenNames x; have u : True := (by clear_value x; guard_hyp x :ₛ State; trivial); clear u; refine Frame.cut (m := m) (s0 := s0) (t := x) ?_ ?_; (on_goal 1 => subst x); (on_goal 2 => (intro hx; clear_value x)))
    | (extract_lets -underBinder +onlyGivenNames n; first | clear_value n | subst n)
    | with_reducible refine Frame.ite ?_ ?_
    | with_reducible refine State.recallObj_frame s_State_recallObj ?_ _ _
    | with_reducible refine Frame.foldl ?_ (fun s x hs => ?_)
    | split

def recallEligible_foot : Nat := 0x8000
theorem recallEligible_frame (hm : Sub recallEligible_foot m) (h : Frame m s0 s) :
    ∀ a0, Frame m s0 (recallEligible a0 s) := by
  intro a0
  have s_State_setObj : Sub State.setObj_foot m := hm.of (by decide)
  unfold recallEligible
  repeat' first
    | with_reducible assumption
    | (extract_lets -underBinder +onlyGivenNames x; have u : True := (by clear_value x; guard_hyp x :ₛ State; trivial); clear u; refine Frame.cut (m := m) (s0 := s0) (t := x) ?_ ?_; (on_goal 1 => subst x); (on_goal 2 => (intro hx; clear_value x)))
    | (extract_lets -underBinder +onlyGivenNames n; first | clear_value n | subst n)
    | with_reducible refine Frame.ite ?_ ?_
    | with_reducible refine State.setObj_frame s_State_setObj ?_ _ _
    | with_reducible refine Frame.foldl ?_ (fun s x hs => ?_)
    | split

def tallyRegrant_foot : Nat := 0x1700043f000000000000000000000000000000000000000000000000000000000000000000000000000000000000000000000000000000000000008400
theorem tallyRegrant_frame (hm : Sub tallyRegrant_foot m) (h : Frame m s0 s) :
    ∀ a0, Frame m s0 (tallyRegrant a0 s) := by
  intro a0
  have s_State_actPool : Sub State.actPool_foot m := hm.of (by decide)
  have s_State_grantObj : Sub State.grantObj_foot m := hm.of (by decide)
  unfold tallyRegrant
  repeat' first
    | with_reducible assumption
    | (extract_lets -underBinder +onlyGivenNames x; have u : True := (by clear_value x; guard_hyp x :ₛ State; trivial); clear u; refine Frame.cut (m := m) (s0 := s0) (t := x) ?_ ?_; (on_goal 1 => subst x); (on_goal 2 => (intro hx; clear_value x)))
    | (extract_lets -underBinder +onlyGivenNames n; first | clear_value n | subst n)
    | with_reducible refine Frame.ite ?_ ?_
    | with_reducible refine State.actPool_frame s_State_actPool ?_ _
    | with_reducible refine State.grantObj_frame s_State_grantObj ?_ _
    | split

def tallyRelease_foot : Nat := 0x10000000006017000e3f000000000000000000000000000000000000000000000000000000000000000000000000000000000000000000000000000000000000008580
theorem tallyRelease_frame (hm : Sub tallyRelease_foot m) (h : Frame m s0 s) :
    ∀ a0 a1 a2 a3, Frame m s0 (tallyRelease a0 a1 a2 a3 s) := by
  intro a0 a1 a2 a3
  have s_State_freeObj : Sub State.freeObj_foot m := hm.of (by decide)
  have s_State_misuse : Sub State.misuse_foot m := hm.of (by decide)
  have s_State_send : Sub State.send_foot m := hm.of (by decide)
  have k_TLY_VIOL_rel_err : Has m TLY_VIOL_rel_err := hm.has 14 5 rfl (by decide)
  unfold tallyRelease
  repeat' first
    | with_reducible assumption
    | (extract_lets -underBinder +onlyGivenNames x; have u : True := (by clear_value x; guard_hyp x :ₛ State; trivial); clear u; refine Frame.cut (m := m) (s0 := s0) (t := x) ?_ ?_; (on_goal 1 => subst x); (on_goal 2 => (intro hx; clear_value x)))
    | (extract_lets -underBinder +onlyGivenNames n; first | clear_value n | subst n)
    | with_reducible refine Frame.ite ?_ ?_
    | with_reducible refine bump_frame (by with_reducible assumption) ?_ _
    | with_reducible refine State.freeObj_frame s_State_freeObj ?_ _
    | with_reducible refine State.misuse_frame s_State_misuse ?_ _ _ _ _
    | with_reducible refine State.send_frame s_State_send ?_ _
    | split

def tallyAutoRelease_foot : Nat := 0x1000000000601700263f000000000000000000000000000000000000000000000000000000000000000000000000000000000000000000000000000000000000008500
theorem tallyAutoRelease_frame (hm : Sub tallyAutoRelease_foot m) (h : Frame m s0 s) :
    ∀ a0 a1 a2, Frame m s0 (tallyAutoRelease a0 a1 a2 s) := by
  intro a0 a1 a2
  have s_State_freeObj : Sub State.freeObj_foot m := hm.of (by decide)
  have s_State_misuse : Sub State.misuse_foot m := hm.of (by decide)
  have k_TLY_VIOL_late_rel : Has m TLY_VIOL_late_rel := hm.has 14 7 rfl (by decide)
  unfold tallyAutoRelease
  repeat' first
    | with_reducible assumption
    | (extract_lets -underBinder +onlyGivenNames x; have u : True := (by clear_value x; guard_hyp x :ₛ State; trivial); clear u; refine Frame.cut (m := m) (s0 := s0) (t := x) ?_ ?_; (on_goal 1 => subst x); (on_goal 2 => (intro hx; clear_value x)))
    | (extract_lets -underBinder +onlyGivenNames n; first | clear_value n | subst n)
    | with_reducible refine Frame.ite ?_ ?_
    | with_reducible refine bump_frame (by with_reducible assumption) ?_ _
    | with_reducible refine State.freeObj_frame s_State_freeObj ?_ _
    | with_reducible refine State.misuse_frame s_State_misuse ?_ _ _ _ _
    | split

def execTallyRequest_foot : Nat := 0x10000000000000001000000000000000000000000000000000000000000000000000000280000000000000000000000000000000000000000800000000000000000980
theorem execTallyRequest_frame (hm : Sub execTallyRequest_foot m) (h : Frame m s0 s) :
    ∀ a0 a1 a2 a3 a4, ∃ t, execTallyRequest a0 a1 a2 a3 a4 s = .next t ∧ Frame m s0 t := by
  intro a0 a1 a2 a3 a4
  have s_tallyRequest : Sub tallyRequest_foot m := hm.of (by decide)
  unfold execTallyRequest
  refine hubOn_frame (fun s h => ?_) h
  repeat' first
    | with_reducible assumption
    | with_reducible refine Frame.ite ?_ ?_
    | with_reducible refine tallyRequest_frame s_tallyRequest ?_ _ _ _ _ _
    | split

def execTallyRequestPresent_foot : Nat := 0x10000000004008001200000000000000000000000000000000000000000000000000000280000000000000000000000000000000000000000000000000000000008980
theorem execTallyRequestPresent_frame (hm : Sub execTallyRequestPresent_foot m) (h : Frame m s0 s) :
    ∀ a0, ∃ t, execTallyRequestPresent a0 s = .next t ∧ Frame m s0 t := by
  intro a0
  have s_tallyRequestPresent : Sub tallyRequestPresent_foot m := hm.of (by decide)
  unfold execTallyRequestPresent
  refine hubOn_frame (fun s h => ?_) h
  repeat' first
    | with_reducible assumption
    | with_reducible refine Frame.ite ?_ ?_
    | with_reducible refine tallyRequestPresent_frame s_tallyRequestPresent ?_ _

def execTallyAdmit_foot : Nat := 0x2016000400000000000000000000000000000000000000000000000000000000000000000000000000000000000000000000000000000000000000008000
theorem execTallyAdmit_frame (hm : Sub execTallyAdmit_foot m) (h : Frame m s0 s) :
    ∀ a0, ∃ t, execTallyAdmit a0 s = .next t ∧ Frame m s0 t := by
  intro a0
  have s_tallyAdmit : Sub tallyAdmit_foot m := hm.of (by decide)
  unfold execTallyAdmit
  refine hubOn_frame (fun s h => ?_) h
  repeat' first
    | with_reducible assumption
    | with_reducible refine Frame.ite ?_ ?_
    | with_reducible refine tallyAdmit_frame s_tallyAdmit ?_ _

def execTallyGrant_foot : Nat := 0x1700043f000000000000000000000000000000000000000000000000000000000000000000000000000000000000000000000000000000000000008400
theorem execTallyGrant_frame (hm : Sub execTallyGrant_foot m) (h : Frame m s0 s) :
    ∀ a0, ∃ t, execTallyGrant a0 s = .next t ∧ Frame m s0 t := by
  intro a0
  have s_tallyGrant : Sub tallyGrant_foot m := hm.of (by decide)
  unfold execTallyGrant
  refine hubOn_frame (fun s h => ?_) h
  repeat' first
    | with_reducible assumption
    | with_reducible refine Frame.ite ?_ ?_
    | with_reducible refine tallyGrant_frame s_tallyGrant ?_ _

def execTallyRelease_foot : Nat := 0x10000000006017000e3f000000000000000000000000000000000000000000000000000000000000000000000000000000000000000000000000000000000000008580
theorem execTallyRelease_frame (hm : Sub execTallyRelease_foot m) (h : Frame m s0 s) :
    ∀ a0 a1 a2 a3, ∃ t, execTallyRelease a0 a1 a2 a3 s = .next t ∧ Frame m s0 t := by
  intro a0 a1 a2 a3
  have s_tallyRelease : Sub tallyRelease_foot m := hm.of (by decide)
  unfold execTallyRelease
  refine hubOn_frame (fun s h => ?_) h
  repeat' first
    | with_reducible assumption
    | with_reducible refine Frame.ite ?_ ?_
    | with_reducible refine tallyRelease_frame s_tallyRelease ?_ _ _ _ _

def execTallyAutoRelease_foot : Nat := 0x1000000000601700263f000000000000000000000000000000000000000000000000000000000000000000000000000000000000000000000000000000000000008500
theorem execTallyAutoRelease_frame (hm : Sub execTallyAutoRelease_foot m) (h : Frame m s0 s) :
    ∀ a0 a1 a2, ∃ t, execTallyAutoRelease a0 a1 a2 s = .next t ∧ Frame m s0 t := by
  intro a0 a1 a2
  have s_tallyAutoRelease : Sub tallyAutoRelease_foot m := hm.of (by decide)
  unfold execTallyAutoRelease
  refine hubOn_frame (fun s h => ?_) h
  repeat' first
    | with_reducible assumption
    | with_reducible refine Frame.ite ?_ ?_
    | with_reducible refine tallyAutoRelease_frame s_tallyAutoRelease ?_ _ _ _

def execRequestAged_foot : Nat := 0x8000
theorem execRequestAged_frame (hm : Sub execRequestAged_foot m) (h : Frame m s0 s) :
    ∀ a0, ∃ t, execRequestAged a0 s = .next t ∧ Frame m s0 t := by
  intro a0
  have s_requestAged : Sub requestAged_foot m := hm.of (by decide)
  unfold execRequestAged
  refine hubOn_frame (fun s h => ?_) h
  repeat' first
    | with_reducible assumption
    | with_reducible refine Frame.ite ?_ ?_
    | with_reducible refine requestAged_frame s_requestAged ?_ _

def execReservationTake_foot : Nat := 0x16000400000000000000000000000000000000000000000000000000000000000000000000000000000000000000000000000000000000000000008000
theorem execReservationTake_frame (hm : Sub execReservationTake_foot m) (h : Frame m s0 s) :
    ∀ a0, ∃ t, execReservationTake a0 s = .next t ∧ Frame m s0 t := by
  intro a0
  have s_reservationTake : Sub reservationTake_foot m := hm.of (by decide)
  unfold execReservationTake
  refine hubOn_frame (fun s h => ?_) h
  repeat' first
    | with_reducible assumption
    | with_reducible refine Frame.ite ?_ ?_
    | with_reducible refine reservationTake_frame s_reservationTake ?_ _

def execReservationMet_foot : Nat := 0x1000000000001700043f000000000000000000000000000000000000000000000000000000000000000000000000000000000000000000000000000000000000008500
theorem execReservationMet_frame (hm : Sub execReservationMet_foot m) (h : Frame m s0 s) :
    ∀ a0, ∃ t, execReservationMet a0 s = .next t ∧ Frame m s0 t := by
  intro a0
  have s_reservationMet : Sub reservationMet_foot m := hm.of (by decide)
  unfold execReservationMet
  refine hubOn_frame (fun s h => ?_) h
  repeat' first
    | with_reducible assumption
    | with_reducible refine Frame.ite ?_ ?_
    | with_reducible refine reservationMet_frame s_reservationMet ?_ _

def execReservationRecall_foot : Nat := 0x201700043f000000000000000000000000000000000000000000000000000000000000000000000000000000000000000000000000000000000000008000
theorem execReservationRecall_frame (hm : Sub execReservationRecall_foot m) (h : Frame m s0 s) :
    ∀ a0, ∃ t, execReservationRecall a0 s = .next t ∧ Frame m s0 t := by
  intro a0
  have s_reservationRecall : Sub reservationRecall_foot m := hm.of (by decide)
  unfold execReservationRecall
  refine hubOn_frame (fun s h => ?_) h
  repeat' first
    | with_reducible assumption
    | with_reducible refine Frame.ite ?_ ?_
    | with_reducible refine reservationRecall_frame s_reservationRecall ?_ _

def execRecallNoProgress_foot : Nat := 0x201700043f000000000000000000000000000000000000000000000000000000000000000000000000000000000000000000000000000000000000008000
theorem execRecallNoProgress_frame (hm : Sub execRecallNoProgress_foot m) (h : Frame m s0 s) :
    ∃ t, execRecallNoProgress s = .next t ∧ Frame m s0 t := by
  have s_recallNoProgress : Sub recallNoProgress_foot m := hm.of (by decide)
  unfold execRecallNoProgress
  refine hubOn_frame (fun s h => ?_) h
  repeat' first
    | with_reducible assumption
    | with_reducible refine Frame.ite ?_ ?_
    | with_reducible refine recallNoProgress_frame s_recallNoProgress ?_

def execRecallEligible_foot : Nat := 0x8000
theorem execRecallEligible_frame (hm : Sub execRecallEligible_foot m) (h : Frame m s0 s) :
    ∀ a0, ∃ t, execRecallEligible a0 s = .next t ∧ Frame m s0 t := by
  intro a0
  have s_recallEligible : Sub recallEligible_foot m := hm.of (by decide)
  unfold execRecallEligible
  refine hubOn_frame (fun s h => ?_) h
  repeat' first
    | with_reducible assumption
    | with_reducible refine Frame.ite ?_ ?_
    | with_reducible refine recallEligible_frame s_recallEligible ?_ _

def execTallyRegrant_foot : Nat := 0x1700043f000000000000000000000000000000000000000000000000000000000000000000000000000000000000000000000000000000000000008400
theorem execTallyRegrant_frame (hm : Sub execTallyRegrant_foot m) (h : Frame m s0 s) :
    ∀ a0, ∃ t, execTallyRegrant a0 s = .next t ∧ Frame m s0 t := by
  intro a0
  have s_tallyRegrant : Sub tallyRegrant_foot m := hm.of (by decide)
  unfold execTallyRegrant
  refine hubOn_frame (fun s h => ?_) h
  repeat' first
    | with_reducible assumption
    | with_reducible refine Frame.ite ?_ ?_
    | with_reducible refine tallyRegrant_frame s_tallyRegrant ?_ _

def execStepPresent_foot : Nat := 0x10000000004008001200000000000000000000000000000000000000000000000000000380000000000000000000000000000000000000000000000000000000008980
theorem execStepPresent_frame (hm : Sub execStepPresent_foot m) (h : Frame m s0 s) :
    ∀ a0, ∃ t, execStepPresent a0 s = .next t ∧ Frame m s0 t := by
  intro a0
  have s_stepPresent : Sub stepPresent_foot m := hm.of (by decide)
  unfold execStepPresent
  refine hubOn_frame (fun s h => ?_) h
  repeat' first
    | with_reducible assumption
    | with_reducible refine Frame.ite ?_ ?_
    | with_reducible refine stepPresent_frame s_stepPresent ?_ _

end Sys2Proof.Machine
end

