-- ==== Sys2Proof/Laws/FrameChoker.lean ====
section
/-!
SUPPORT. Laws/FrameChoker.lean: the footprint of every function of Machine/Choker.lean, and that it writes nothing outside it.
-/
namespace Sys2Proof.Machine

set_option linter.all false

variable {m : Nat} {s0 s : State}

def State.addSlots_foot : Nat := 0x20400
theorem State.addSlots_frame (hm : Sub State.addSlots_foot m) (h : Frame m s0 s) :
    ∀ a1 a2 a3, Frame m s0 (State.addSlots s a1 a2 a3) := by
  intro a1 a2 a3
  have s_State_count : Sub State.count_foot m := hm.of (by decide)
  have c_sns : m.testBit 17 = true := hm.bit 17 (by decide)
  unfold State.addSlots
  repeat' first
    | with_reducible assumption
    | (extract_lets -underBinder +onlyGivenNames x; have u : True := (by clear_value x; guard_hyp x :ₛ State; trivial); clear u; refine Frame.cut (m := m) (s0 := s0) (t := x) ?_ ?_; (on_goal 1 => subst x); (on_goal 2 => (intro hx; clear_value x)))
    | (extract_lets -underBinder +onlyGivenNames n; first | clear_value n | subst n)
    | with_reducible refine Frame.ite ?_ ?_
    | with_reducible refine State.count_frame s_State_count ?_ _ _
    | with_reducible exact Frame.set_sns c_sns (by with_reducible assumption)
    | split

def State.addUnknown_foot : Nat := 0x20400
theorem State.addUnknown_frame (hm : Sub State.addUnknown_foot m) (h : Frame m s0 s) :
    ∀ a1 a2, Frame m s0 (State.addUnknown s a1 a2) := by
  intro a1 a2
  have s_State_count : Sub State.count_foot m := hm.of (by decide)
  have c_sns : m.testBit 17 = true := hm.bit 17 (by decide)
  unfold State.addUnknown
  repeat' first
    | with_reducible assumption
    | (extract_lets -underBinder +onlyGivenNames x; have u : True := (by clear_value x; guard_hyp x :ₛ State; trivial); clear u; refine Frame.cut (m := m) (s0 := s0) (t := x) ?_ ?_; (on_goal 1 => subst x); (on_goal 2 => (intro hx; clear_value x)))
    | (extract_lets -underBinder +onlyGivenNames n; first | clear_value n | subst n)
    | with_reducible refine Frame.ite ?_ ?_
    | with_reducible refine State.count_frame s_State_count ?_ _ _
    | with_reducible exact Frame.set_sns c_sns (by with_reducible assumption)
    | split

def State.takeSlots_foot : Nat := 0x20400
theorem State.takeSlots_frame (hm : Sub State.takeSlots_foot m) (h : Frame m s0 s) :
    ∀ a1 a2 a3 a4, Frame m s0 (State.takeSlots s a1 a2 a3 a4) := by
  intro a1 a2 a3 a4
  have s_State_addSlots : Sub State.addSlots_foot m := hm.of (by decide)
  have s_State_addUnknown : Sub State.addUnknown_foot m := hm.of (by decide)
  have s_State_count : Sub State.count_foot m := hm.of (by decide)
  unfold State.takeSlots
  repeat' first
    | with_reducible assumption
    | (extract_lets -underBinder +onlyGivenNames x; have u : True := (by clear_value x; guard_hyp x :ₛ State; trivial); clear u; refine Frame.cut (m := m) (s0 := s0) (t := x) ?_ ?_; (on_goal 1 => subst x); (on_goal 2 => (intro hx; clear_value x)))
    | (extract_lets -underBinder +onlyGivenNames n; first | clear_value n | subst n)
    | with_reducible refine Frame.ite ?_ ?_
    | with_reducible refine State.addSlots_frame s_State_addSlots ?_ _ _ _
    | with_reducible refine State.addUnknown_frame s_State_addUnknown ?_ _ _
    | with_reducible refine State.count_frame s_State_count ?_ _ _
    | with_reducible refine Frame.foldl ?_ (fun s x hs => ?_)
    | split

def State.tickSlots_foot : Nat := 0x21400
theorem State.tickSlots_frame (hm : Sub State.tickSlots_foot m) (h : Frame m s0 s) :
    ∀ a1, Frame m s0 (State.tickSlots s a1) := by
  intro a1
  have s_State_takeSlots : Sub State.takeSlots_foot m := hm.of (by decide)
  have s_State_setChk : Sub State.setChk_foot m := hm.of (by decide)
  unfold State.tickSlots
  repeat' first
    | with_reducible assumption
    | (extract_lets -underBinder +onlyGivenNames x; have u : True := (by clear_value x; guard_hyp x :ₛ State; trivial); clear u; refine Frame.cut (m := m) (s0 := s0) (t := x) ?_ ?_; (on_goal 1 => subst x); (on_goal 2 => (intro hx; clear_value x)))
    | (extract_lets -underBinder +onlyGivenNames n; first | clear_value n | subst n)
    | with_reducible refine Frame.ite ?_ ?_
    | with_reducible refine State.takeSlots_frame s_State_takeSlots ?_ _ _ _ _
    | with_reducible refine State.setChk_frame s_State_setChk ?_ _ _
    | split

def State.progress_foot : Nat := 0x8800
theorem State.progress_frame (hm : Sub State.progress_foot m) (h : Frame m s0 s) :
    ∀ a1, Frame m s0 (State.progress s a1) := by
  intro a1
  have s_State_setLane : Sub State.setLane_foot m := hm.of (by decide)
  have s_State_setObj : Sub State.setObj_foot m := hm.of (by decide)
  unfold State.progress
  repeat' first
    | with_reducible assumption
    | (extract_lets -underBinder +onlyGivenNames x; have u : True := (by clear_value x; guard_hyp x :ₛ State; trivial); clear u; refine Frame.cut (m := m) (s0 := s0) (t := x) ?_ ?_; (on_goal 1 => subst x); (on_goal 2 => (intro hx; clear_value x)))
    | (extract_lets -underBinder +onlyGivenNames n; first | clear_value n | subst n)
    | with_reducible refine Frame.ite ?_ ?_
    | with_reducible refine State.setLane_frame s_State_setLane ?_ _ _
    | with_reducible refine State.setObj_frame s_State_setObj ?_ _ _
    | with_reducible refine Frame.foldl ?_ (fun s x hs => ?_)
    | split

def State.laneWindow_foot : Nat := 0xa800
theorem State.laneWindow_frame (hm : Sub State.laneWindow_foot m) (h : Frame m s0 s) :
    ∀ a1 a2, Frame m s0 (State.laneWindow s a1 a2) := by
  intro a1 a2
  have s_State_setLane : Sub State.setLane_foot m := hm.of (by decide)
  have s_State_progress : Sub State.progress_foot m := hm.of (by decide)
  have s_State_setDroop : Sub State.setDroop_foot m := hm.of (by decide)
  unfold State.laneWindow
  repeat' first
    | with_reducible assumption
    | (extract_lets -underBinder +onlyGivenNames x; have u : True := (by clear_value x; guard_hyp x :ₛ State; trivial); clear u; refine Frame.cut (m := m) (s0 := s0) (t := x) ?_ ?_; (on_goal 1 => subst x); (on_goal 2 => (intro hx; clear_value x)))
    | (extract_lets -underBinder +onlyGivenNames n; first | clear_value n | subst n)
    | with_reducible refine Frame.ite ?_ ?_
    | with_reducible refine State.setLane_frame s_State_setLane ?_ _ _
    | with_reducible refine State.progress_frame s_State_progress ?_ _
    | with_reducible refine State.setDroop_frame s_State_setDroop ?_ _ _
    | split

def chokerWindow_foot : Nat := 0x1800000000000000000000000000000000000000000000000000000002bc00
theorem chokerWindow_frame (hm : Sub chokerWindow_foot m) (h : Frame m s0 s) :
    ∀ a0 a1 a2 a3, Frame m s0 (chokerWindow a0 a1 a2 a3 s) := by
  intro a0 a1 a2 a3
  have s_State_takeSlots : Sub State.takeSlots_foot m := hm.of (by decide)
  have s_State_laneWindow : Sub State.laneWindow_foot m := hm.of (by decide)
  have s_State_setChk : Sub State.setChk_foot m := hm.of (by decide)
  have s_State_count : Sub State.count_foot m := hm.of (by decide)
  have k_CHK_ALLOW_in_droop : Has m CHK_ALLOW_in_droop := hm.has 8 18 rfl (by decide)
  have k_CHK_ALLOW_now : Has m CHK_ALLOW_now := hm.has 8 17 rfl (by decide)
  unfold chokerWindow
  repeat' first
    | with_reducible assumption
    | (extract_lets -underBinder +onlyGivenNames x; have u : True := (by clear_value x; guard_hyp x :ₛ State; trivial); clear u; refine Frame.cut (m := m) (s0 := s0) (t := x) ?_ ?_; (on_goal 1 => subst x); (on_goal 2 => (intro hx; clear_value x)))
    | (extract_lets -underBinder +onlyGivenNames n; first | clear_value n | subst n)
    | with_reducible refine Frame.ite ?_ ?_
    | with_reducible refine wr_frame (by with_reducible assumption) ?_ _ _
    | with_reducible refine State.takeSlots_frame s_State_takeSlots ?_ _ _ _ _
    | with_reducible refine State.laneWindow_frame s_State_laneWindow ?_ _ _
    | with_reducible refine State.setChk_frame s_State_setChk ?_ _ _
    | with_reducible refine State.count_frame s_State_count ?_ _ _
    | split

def rampTick_foot : Nat := 0xc00000000000000000000000000000000000000000000000000000011400
theorem rampTick_frame (hm : Sub rampTick_foot m) (h : Frame m s0 s) :
    Frame m s0 (rampTick s) := by
  have s_State_setChk : Sub State.setChk_foot m := hm.of (by decide)
  have s_State_count : Sub State.count_foot m := hm.of (by decide)
  have k_CHK_RAMP_STAT_dn_wait : Has m CHK_RAMP_STAT_dn_wait := hm.has 8 13 rfl (by decide)
  have k_CHK_RAMP_STAT_up_wait : Has m CHK_RAMP_STAT_up_wait := hm.has 8 12 rfl (by decide)
  have c_ramp : m.testBit 16 = true := hm.bit 16 (by decide)
  unfold rampTick
  repeat' first
    | with_reducible assumption
    | (extract_lets -underBinder +onlyGivenNames x; have u : True := (by clear_value x; guard_hyp x :ₛ State; trivial); clear u; refine Frame.cut (m := m) (s0 := s0) (t := x) ?_ ?_; (on_goal 1 => subst x); (on_goal 2 => (intro hx; clear_value x)))
    | (extract_lets -underBinder +onlyGivenNames n; first | clear_value n | subst n)
    | with_reducible refine Frame.ite ?_ ?_
    | with_reducible refine wr_frame (by with_reducible assumption) ?_ _ _
    | with_reducible refine State.setChk_frame s_State_setChk ?_ _ _
    | with_reducible refine State.count_frame s_State_count ?_ _ _
    | with_reducible exact Frame.set_ramp c_ramp (by with_reducible assumption)
    | with_reducible refine Frame.foldl ?_ (fun s x hs => ?_)
    | split

def State.cutChoker_foot : Nat := 0x18000000000000000000000000000000000000000000000000000000001000
theorem State.cutChoker_frame (hm : Sub State.cutChoker_foot m) (h : Frame m s0 s) :
    ∀ a1 a2, Frame m s0 (State.cutChoker s a1 a2) := by
  intro a1 a2
  have s_State_setChk : Sub State.setChk_foot m := hm.of (by decide)
  have k_CHK_ALLOW_in_droop : Has m CHK_ALLOW_in_droop := hm.has 8 18 rfl (by decide)
  have k_CHK_ALLOW_now : Has m CHK_ALLOW_now := hm.has 8 17 rfl (by decide)
  unfold State.cutChoker
  repeat' first
    | with_reducible assumption
    | (extract_lets -underBinder +onlyGivenNames x; have u : True := (by clear_value x; guard_hyp x :ₛ State; trivial); clear u; refine Frame.cut (m := m) (s0 := s0) (t := x) ?_ ?_; (on_goal 1 => subst x); (on_goal 2 => (intro hx; clear_value x)))
    | (extract_lets -underBinder +onlyGivenNames n; first | clear_value n | subst n)
    | with_reducible refine Frame.ite ?_ ?_
    | with_reducible refine wr_frame (by with_reducible assumption) ?_ _ _
    | with_reducible refine State.setChk_frame s_State_setChk ?_ _ _
    | split

def State.detect_foot : Nat := 0x10000000000000000000000000000000000000000000000000000000000000000000000018300000000000000000000000000000000028000000000000000000803500
theorem State.detect_frame (hm : Sub State.detect_foot m) (h : Frame m s0 s) :
    ∀ a1 a2 a3, Frame m s0 (State.detect s a1 a2 a3) := by
  intro a1 a2 a3
  have s_State_dvfsOnDroop : Sub State.dvfsOnDroop_foot m := hm.of (by decide)
  have s_State_emitLim : Sub State.emitLim_foot m := hm.of (by decide)
  have s_State_cutChoker : Sub State.cutChoker_foot m := hm.of (by decide)
  have s_State_setDroop : Sub State.setDroop_foot m := hm.of (by decide)
  have s_State_count : Sub State.count_foot m := hm.of (by decide)
  unfold State.detect
  repeat' first
    | with_reducible assumption
    | (extract_lets -underBinder +onlyGivenNames x; have u : True := (by clear_value x; guard_hyp x :ₛ State; trivial); clear u; refine Frame.cut (m := m) (s0 := s0) (t := x) ?_ ?_; (on_goal 1 => subst x); (on_goal 2 => (intro hx; clear_value x)))
    | (extract_lets -underBinder +onlyGivenNames n; first | clear_value n | subst n)
    | with_reducible refine Frame.ite ?_ ?_
    | with_reducible refine State.dvfsOnDroop_frame s_State_dvfsOnDroop ?_
    | with_reducible refine State.emitLim_frame s_State_emitLim ?_ _ _ _ _ _
    | with_reducible refine State.cutChoker_frame s_State_cutChoker ?_ _ _
    | with_reducible refine State.setDroop_frame s_State_setDroop ?_ _ _
    | with_reducible refine State.count_frame s_State_count ?_ _ _
    | with_reducible refine Frame.foldTo ?_ (fun s x hs => ?_)

def State.newCmp_foot : Nat := 0x10000000000000000000000000000000000000000000000000000000000000000000000018300000000000000000000000000000000028000000000000000000803500
theorem State.newCmp_frame (hm : Sub State.newCmp_foot m) (h : Frame m s0 s) :
    ∀ a1 a2 a3 a4, Frame m s0 (State.newCmp s a1 a2 a3 a4) := by
  intro a1 a2 a3 a4
  have s_State_detect : Sub State.detect_foot m := hm.of (by decide)
  have s_State_setDroop : Sub State.setDroop_foot m := hm.of (by decide)
  have s_State_count : Sub State.count_foot m := hm.of (by decide)
  unfold State.newCmp
  repeat' first
    | with_reducible assumption
    | (extract_lets -underBinder +onlyGivenNames x; have u : True := (by clear_value x; guard_hyp x :ₛ State; trivial); clear u; refine Frame.cut (m := m) (s0 := s0) (t := x) ?_ ?_; (on_goal 1 => subst x); (on_goal 2 => (intro hx; clear_value x)))
    | (extract_lets -underBinder +onlyGivenNames n; first | clear_value n | subst n)
    | with_reducible refine Frame.ite ?_ ?_
    | with_reducible refine State.detect_frame s_State_detect ?_ _ _ _
    | with_reducible refine State.setDroop_frame s_State_setDroop ?_ _ _
    | with_reducible refine State.count_frame s_State_count ?_ _ _
    | split

def droopDetect_foot : Nat := 0x10000000000000000000000000000000000000000000000000000000000000000000000018300000000000000000000000000000000028000000000000000000803500
theorem droopDetect_frame (hm : Sub droopDetect_foot m) (h : Frame m s0 s) :
    ∀ a0 a1 a2, Frame m s0 (droopDetect a0 a1 a2 s) := by
  intro a0 a1 a2
  have s_State_newCmp : Sub State.newCmp_foot m := hm.of (by decide)
  unfold droopDetect
  repeat' first
    | with_reducible assumption
    | (extract_lets -underBinder +onlyGivenNames x; have u : True := (by clear_value x; guard_hyp x :ₛ State; trivial); clear u; refine Frame.cut (m := m) (s0 := s0) (t := x) ?_ ?_; (on_goal 1 => subst x); (on_goal 2 => (intro hx; clear_value x)))
    | (extract_lets -underBinder +onlyGivenNames n; first | clear_value n | subst n)
    | with_reducible refine Frame.ite ?_ ?_
    | with_reducible refine State.newCmp_frame s_State_newCmp ?_ _ _ _ _
    | with_reducible refine Frame.foldl ?_ (fun s x hs => ?_)
    | split

def droopHoldExpire_foot : Nat := 0x802000
theorem droopHoldExpire_frame (hm : Sub droopHoldExpire_foot m) (h : Frame m s0 s) :
    ∀ a0, Frame m s0 (droopHoldExpire a0 s) := by
  intro a0
  have s_State_setDroop : Sub State.setDroop_foot m := hm.of (by decide)
  have c_dvfs : m.testBit 23 = true := hm.bit 23 (by decide)
  unfold droopHoldExpire
  repeat' first
    | with_reducible assumption
    | (extract_lets -underBinder +onlyGivenNames x; have u : True := (by clear_value x; guard_hyp x :ₛ State; trivial); clear u; refine Frame.cut (m := m) (s0 := s0) (t := x) ?_ ?_; (on_goal 1 => subst x); (on_goal 2 => (intro hx; clear_value x)))
    | (extract_lets -underBinder +onlyGivenNames n; first | clear_value n | subst n)
    | with_reducible refine Frame.ite ?_ ?_
    | with_reducible refine State.setDroop_frame s_State_setDroop ?_ _ _
    | with_reducible exact Frame.set_dvfs c_dvfs (by with_reducible assumption)
    | split

def snsDrpForceWrite_foot : Nat := 0x10000000000000000000000000000000000000000000000000000000000000000000000018300100000000000000000000000000000028000000000000000000803500
theorem snsDrpForceWrite_frame (hm : Sub snsDrpForceWrite_foot m) (h : Frame m s0 s) :
    ∀ a0 a1 a2, Frame m s0 (snsDrpForceWrite a0 a1 a2 s) := by
  intro a0 a1 a2
  have s_State_newCmp : Sub State.newCmp_foot m := hm.of (by decide)
  have k_SNS_DRP_FORCE : Has m SNS_DRP_FORCE := hm.has 7 23 rfl (by decide)
  unfold snsDrpForceWrite
  repeat' first
    | with_reducible assumption
    | (extract_lets -underBinder +onlyGivenNames x; have u : True := (by clear_value x; guard_hyp x :ₛ State; trivial); clear u; refine Frame.cut (m := m) (s0 := s0) (t := x) ?_ ?_; (on_goal 1 => subst x); (on_goal 2 => (intro hx; clear_value x)))
    | (extract_lets -underBinder +onlyGivenNames n; first | clear_value n | subst n)
    | with_reducible refine Frame.ite ?_ ?_
    | with_reducible refine wr_frame (by with_reducible assumption) ?_ _ _
    | with_reducible refine State.newCmp_frame s_State_newCmp ?_ _ _ _ _
    | split

def vrAlertAssert_foot : Nat := 0x1000000000000000000000000000000000000000000000000000000000000000000000000037800000000000000000000000000000002c000000000000000000830100
theorem vrAlertAssert_frame (hm : Sub vrAlertAssert_foot m) (h : Frame m s0 s) :
    Frame m s0 (vrAlertAssert s) := by
  have s_State_dvfsDescend : Sub State.dvfsDescend_foot m := hm.of (by decide)
  have s_State_emit : Sub State.emit_foot m := hm.of (by decide)
  have k_CHK_FB_STAT_armed : Has m CHK_FB_STAT_armed := hm.has 8 6 rfl (by decide)
  have k_CHK_FB_STAT_count : Has m CHK_FB_STAT_count := hm.has 8 8 rfl (by decide)
  have k_CHK_FB_STAT_state : Has m CHK_FB_STAT_state := hm.has 8 5 rfl (by decide)
  have k_CHK_FB_STAT_wire : Has m CHK_FB_STAT_wire := hm.has 8 7 rfl (by decide)
  have c_ramp : m.testBit 16 = true := hm.bit 16 (by decide)
  have c_sns : m.testBit 17 = true := hm.bit 17 (by decide)
  unfold vrAlertAssert
  repeat' first
    | with_reducible assumption
    | (extract_lets -underBinder +onlyGivenNames x; have u : True := (by clear_value x; guard_hyp x :ₛ State; trivial); clear u; refine Frame.cut (m := m) (s0 := s0) (t := x) ?_ ?_; (on_goal 1 => subst x); (on_goal 2 => (intro hx; clear_value x)))
    | (extract_lets -underBinder +onlyGivenNames n; first | clear_value n | subst n)
    | with_reducible refine Frame.ite ?_ ?_
    | with_reducible refine wr_frame (by with_reducible assumption) ?_ _ _
    | with_reducible refine bump_frame (by with_reducible assumption) ?_ _
    | with_reducible refine State.dvfsDescend_frame s_State_dvfsDescend ?_
    | with_reducible refine State.emit_frame s_State_emit ?_ _ _ _
    | with_reducible exact Frame.set_ramp_sns c_ramp c_sns (by with_reducible assumption)
    | split

def vrAlertNegate_foot : Nat := 0x10000000000000000000000000000000000000000000000000000000000000000000000000028000000000000000000000000000000000000000000000000000010100
theorem vrAlertNegate_frame (hm : Sub vrAlertNegate_foot m) (h : Frame m s0 s) :
    Frame m s0 (vrAlertNegate s) := by
  have s_State_emit : Sub State.emit_foot m := hm.of (by decide)
  have k_CHK_FB_STAT_state : Has m CHK_FB_STAT_state := hm.has 8 5 rfl (by decide)
  have k_CHK_FB_STAT_wire : Has m CHK_FB_STAT_wire := hm.has 8 7 rfl (by decide)
  have c_ramp : m.testBit 16 = true := hm.bit 16 (by decide)
  unfold vrAlertNegate
  repeat' first
    | with_reducible assumption
    | (extract_lets -underBinder +onlyGivenNames x; have u : True := (by clear_value x; guard_hyp x :ₛ State; trivial); clear u; refine Frame.cut (m := m) (s0 := s0) (t := x) ?_ ?_; (on_goal 1 => subst x); (on_goal 2 => (intro hx; clear_value x)))
    | (extract_lets -underBinder +onlyGivenNames n; first | clear_value n | subst n)
    | with_reducible refine Frame.ite ?_ ?_
    | with_reducible refine wr_frame (by with_reducible assumption) ?_ _ _
    | with_reducible refine State.emit_frame s_State_emit ?_ _ _ _
    | with_reducible exact Frame.set_ramp c_ramp (by with_reducible assumption)
    | split

def State.fbEnd_foot : Nat := 0x1000000000000000000000000000000000000000000000000000000000000000000000000031800000000000000000000000000000002c000000000000000000800100
theorem State.fbEnd_frame (hm : Sub State.fbEnd_foot m) (h : Frame m s0 s) :
    Frame m s0 (State.fbEnd s) := by
  have s_State_dvfsFree : Sub State.dvfsFree_foot m := hm.of (by decide)
  have s_State_emit : Sub State.emit_foot m := hm.of (by decide)
  have k_CHK_FB_STAT_armed : Has m CHK_FB_STAT_armed := hm.has 8 6 rfl (by decide)
  have k_CHK_FB_STAT_state : Has m CHK_FB_STAT_state := hm.has 8 5 rfl (by decide)
  unfold State.fbEnd
  repeat' first
    | with_reducible assumption
    | (extract_lets -underBinder +onlyGivenNames x; have u : True := (by clear_value x; guard_hyp x :ₛ State; trivial); clear u; refine Frame.cut (m := m) (s0 := s0) (t := x) ?_ ?_; (on_goal 1 => subst x); (on_goal 2 => (intro hx; clear_value x)))
    | (extract_lets -underBinder +onlyGivenNames n; first | clear_value n | subst n)
    | with_reducible refine Frame.ite ?_ ?_
    | with_reducible refine wr_frame (by with_reducible assumption) ?_ _ _
    | with_reducible refine State.dvfsFree_frame s_State_dvfsFree ?_
    | with_reducible refine State.emit_frame s_State_emit ?_ _ _ _
    | split

def State.fbHoldoffDone_foot : Nat := 0x1000000000000000000000000000000000000000000000000000000000000000000000000031800000000000000000000000000000002c000000000000000000800100
theorem State.fbHoldoffDone_frame (hm : Sub State.fbHoldoffDone_foot m) (h : Frame m s0 s) :
    Frame m s0 (State.fbHoldoffDone s) := by
  have s_State_fbEnd : Sub State.fbEnd_foot m := hm.of (by decide)
  have k_CHK_FB_STAT_state : Has m CHK_FB_STAT_state := hm.has 8 5 rfl (by decide)
  unfold State.fbHoldoffDone
  repeat' first
    | with_reducible assumption
    | with_reducible refine Frame.ite ?_ ?_
    | with_reducible refine wr_frame (by with_reducible assumption) ?_ _ _
    | with_reducible refine State.fbEnd_frame s_State_fbEnd ?_
    | split

def State.fbHoldoffTaken_foot : Nat := 0x1000000000000000000000000000000000000000000000000000000000000000000000000031800000000000000000000000000000002c000000000000000000800100
theorem State.fbHoldoffTaken_frame (hm : Sub State.fbHoldoffTaken_foot m) (h : Frame m s0 s) :
    Frame m s0 (State.fbHoldoffTaken s) := by
  have s_State_fbHoldoffDone : Sub State.fbHoldoffDone_foot m := hm.of (by decide)
  have k_CHK_FB_STAT_state : Has m CHK_FB_STAT_state := hm.has 8 5 rfl (by decide)
  unfold State.fbHoldoffTaken
  repeat' first
    | with_reducible assumption
    | with_reducible refine Frame.ite ?_ ?_
    | with_reducible refine wr_frame (by with_reducible assumption) ?_ _ _
    | with_reducible refine State.fbHoldoffDone_frame s_State_fbHoldoffDone ?_
    | split

def State.fbRelease_foot : Nat := 0x10000
theorem State.fbRelease_frame (hm : Sub State.fbRelease_foot m) (h : Frame m s0 s) :
    Frame m s0 (State.fbRelease s) := by
  have c_ramp : m.testBit 16 = true := hm.bit 16 (by decide)
  unfold State.fbRelease
  repeat' first
    | with_reducible assumption
    | (extract_lets -underBinder +onlyGivenNames x; have u : True := (by clear_value x; guard_hyp x :ₛ State; trivial); clear u; refine Frame.cut (m := m) (s0 := s0) (t := x) ?_ ?_; (on_goal 1 => subst x); (on_goal 2 => (intro hx; clear_value x)))
    | (extract_lets -underBinder +onlyGivenNames n; first | clear_value n | subst n)
    | with_reducible refine Frame.ite ?_ ?_
    | with_reducible exact Frame.set_ramp c_ramp (by with_reducible assumption)

def State.fbJudge_foot : Nat := 0x1000000000000000000000000000000000000000000000000000000000000000000000000031800000000000000000000000000000002c000000000000000000810100
theorem State.fbJudge_frame (hm : Sub State.fbJudge_foot m) (h : Frame m s0 s) :
    Frame m s0 (State.fbJudge s) := by
  have s_State_fbEnd : Sub State.fbEnd_foot m := hm.of (by decide)
  have s_State_emit : Sub State.emit_foot m := hm.of (by decide)
  have k_CHK_FB_STAT_armed : Has m CHK_FB_STAT_armed := hm.has 8 6 rfl (by decide)
  have c_ramp : m.testBit 16 = true := hm.bit 16 (by decide)
  unfold State.fbJudge
  repeat' first
    | with_reducible assumption
    | (extract_lets -underBinder +onlyGivenNames x; have u : True := (by clear_value x; guard_hyp x :ₛ State; trivial); clear u; refine Frame.cut (m := m) (s0 := s0) (t := x) ?_ ?_; (on_goal 1 => subst x); (on_goal 2 => (intro hx; clear_value x)))
    | (extract_lets -underBinder +onlyGivenNames n; first | clear_value n | subst n)
    | with_reducible refine Frame.ite ?_ ?_
    | with_reducible refine wr_frame (by with_reducible assumption) ?_ _ _
    | with_reducible refine State.fbEnd_frame s_State_fbEnd ?_
    | with_reducible refine State.emit_frame s_State_emit ?_ _ _ _
    | with_reducible exact Frame.set_ramp c_ramp (by with_reducible assumption)
    | split

def firebreakHoldoffExpire_foot : Nat := 0x1000000000000000000000000000000000000000000000000000000000000000000000000031800000000000000000000000000000002c000000000000000000800100
theorem firebreakHoldoffExpire_frame (hm : Sub firebreakHoldoffExpire_foot m) (h : Frame m s0 s) :
    Frame m s0 (firebreakHoldoffExpire s) := by
  have s_State_fbHoldoffDone : Sub State.fbHoldoffDone_foot m := hm.of (by decide)
  unfold firebreakHoldoffExpire
  repeat' first
    | with_reducible assumption
    | with_reducible refine Frame.ite ?_ ?_
    | with_reducible refine State.fbHoldoffDone_frame s_State_fbHoldoffDone ?_

def execChokerWindow_foot : Nat := 0x1800000000000000000000000000000000000000000000000000000002bc00
theorem execChokerWindow_frame (hm : Sub execChokerWindow_foot m) (h : Frame m s0 s) :
    ∀ a0 a1 a2 a3, ∃ t, execChokerWindow a0 a1 a2 a3 s = .next t ∧ Frame m s0 t := by
  intro a0 a1 a2 a3
  have s_chokerWindow : Sub chokerWindow_foot m := hm.of (by decide)
  unfold execChokerWindow
  refine hubOn_frame (fun s h => ?_) h
  repeat' first
    | with_reducible assumption
    | with_reducible refine Frame.ite ?_ ?_
    | with_reducible refine chokerWindow_frame s_chokerWindow ?_ _ _ _ _

def execRampTick_foot : Nat := 0xc00000000000000000000000000000000000000000000000000000011400
theorem execRampTick_frame (hm : Sub execRampTick_foot m) (h : Frame m s0 s) :
    ∃ t, execRampTick s = .next t ∧ Frame m s0 t := by
  have s_rampTick : Sub rampTick_foot m := hm.of (by decide)
  unfold execRampTick
  refine hubOn_frame (fun s h => ?_) h
  repeat' first
    | with_reducible assumption
    | with_reducible refine Frame.ite ?_ ?_
    | with_reducible refine rampTick_frame s_rampTick ?_

def execDroopDetect_foot : Nat := 0x10000000000000000000000000000000000000000000000000000000000000000000000018300000000000000000000000000000000028000000000000000000803500
theorem execDroopDetect_frame (hm : Sub execDroopDetect_foot m) (h : Frame m s0 s) :
    ∀ a0 a1 a2, ∃ t, execDroopDetect a0 a1 a2 s = .next t ∧ Frame m s0 t := by
  intro a0 a1 a2
  have s_droopDetect : Sub droopDetect_foot m := hm.of (by decide)
  unfold execDroopDetect
  refine hubOn_frame (fun s h => ?_) h
  repeat' first
    | with_reducible assumption
    | with_reducible refine Frame.ite ?_ ?_
    | with_reducible refine droopDetect_frame s_droopDetect ?_ _ _ _

def execDroopHoldExpire_foot : Nat := 0x802000
theorem execDroopHoldExpire_frame (hm : Sub execDroopHoldExpire_foot m) (h : Frame m s0 s) :
    ∀ a0, ∃ t, execDroopHoldExpire a0 s = .next t ∧ Frame m s0 t := by
  intro a0
  have s_droopHoldExpire : Sub droopHoldExpire_foot m := hm.of (by decide)
  unfold execDroopHoldExpire
  refine hubOn_frame (fun s h => ?_) h
  repeat' first
    | with_reducible assumption
    | with_reducible refine Frame.ite ?_ ?_
    | with_reducible refine droopHoldExpire_frame s_droopHoldExpire ?_ _

def execSnsDrpForceWrite_foot : Nat := 0x10000000000000000000000000000000000000000000000000000000000000000000000018300100000000000000000000000000000028000000000000000000803500
theorem execSnsDrpForceWrite_frame (hm : Sub execSnsDrpForceWrite_foot m) (h : Frame m s0 s) :
    ∀ a0 a1 a2, ∃ t, execSnsDrpForceWrite a0 a1 a2 s = .next t ∧ Frame m s0 t := by
  intro a0 a1 a2
  have s_snsDrpForceWrite : Sub snsDrpForceWrite_foot m := hm.of (by decide)
  unfold execSnsDrpForceWrite
  refine hubOn_frame (fun s h => ?_) h
  repeat' first
    | with_reducible assumption
    | with_reducible refine Frame.ite ?_ ?_
    | with_reducible refine snsDrpForceWrite_frame s_snsDrpForceWrite ?_ _ _ _

def execVrAlertAssert_foot : Nat := 0x1000000000000000000000000000000000000000000000000000000000000000000000000037800000000000000000000000000000002c000000000000000000830100
theorem execVrAlertAssert_frame (hm : Sub execVrAlertAssert_foot m) (h : Frame m s0 s) :
    ∃ t, execVrAlertAssert s = .next t ∧ Frame m s0 t := by
  have s_vrAlertAssert : Sub vrAlertAssert_foot m := hm.of (by decide)
  unfold execVrAlertAssert
  refine hubOn_frame (fun s h => ?_) h
  repeat' first
    | with_reducible assumption
    | with_reducible refine Frame.ite ?_ ?_
    | with_reducible refine vrAlertAssert_frame s_vrAlertAssert ?_

def execVrAlertNegate_foot : Nat := 0x10000000000000000000000000000000000000000000000000000000000000000000000000028000000000000000000000000000000000000000000000000000010100
theorem execVrAlertNegate_frame (hm : Sub execVrAlertNegate_foot m) (h : Frame m s0 s) :
    ∃ t, execVrAlertNegate s = .next t ∧ Frame m s0 t := by
  have s_vrAlertNegate : Sub vrAlertNegate_foot m := hm.of (by decide)
  unfold execVrAlertNegate
  refine hubOn_frame (fun s h => ?_) h
  repeat' first
    | with_reducible assumption
    | with_reducible refine Frame.ite ?_ ?_
    | with_reducible refine vrAlertNegate_frame s_vrAlertNegate ?_

def execFirebreakHoldoffExpire_foot : Nat := 0x1000000000000000000000000000000000000000000000000000000000000000000000000031800000000000000000000000000000002c000000000000000000800100
theorem execFirebreakHoldoffExpire_frame (hm : Sub execFirebreakHoldoffExpire_foot m) (h : Frame m s0 s) :
    ∃ t, execFirebreakHoldoffExpire s = .next t ∧ Frame m s0 t := by
  have s_firebreakHoldoffExpire : Sub firebreakHoldoffExpire_foot m := hm.of (by decide)
  unfold execFirebreakHoldoffExpire
  refine hubOn_frame (fun s h => ?_) h
  repeat' first
    | with_reducible assumption
    | with_reducible refine Frame.ite ?_ ?_
    | with_reducible refine firebreakHoldoffExpire_frame s_firebreakHoldoffExpire ?_

end Sys2Proof.Machine
end

