-- ==== Sys2Proof/Laws/FrameTraceOps.lean ====
section
/-!
SUPPORT. Laws/FrameTraceOps.lean: the footprint of every function of Machine/TraceOps.lean, and that it writes nothing outside it.
-/
namespace Sys2Proof.Machine

set_option linter.all false

variable {m : Nat} {s0 s : State}

def State.dropGroup_foot : Nat := 0x700000000000000000000000000000000000000000000000000000000000000000000000000000000000000000000000000000000000000000000000000000000000000000100000
theorem State.dropGroup_frame (hm : Sub State.dropGroup_foot m) (h : Frame m s0 s) :
    ∀ a1, Frame m s0 (State.dropGroup s a1) := by
  intro a1
  have k_TRC_DROP_cmd : Has m TRC_DROP_cmd := hm.has 18 8 rfl (by decide)
  have k_TRC_DROP_fcst : Has m TRC_DROP_fcst := hm.has 18 9 rfl (by decide)
  have k_TRC_DROP_other : Has m TRC_DROP_other := hm.has 18 10 rfl (by decide)
  have c_trc : m.testBit 20 = true := hm.bit 20 (by decide)
  unfold State.dropGroup
  repeat' first
    | with_reducible assumption
    | (extract_lets -underBinder +onlyGivenNames x; have u : True := (by clear_value x; guard_hyp x :ₛ State; trivial); clear u; refine Frame.cut (m := m) (s0 := s0) (t := x) ?_ ?_; (on_goal 1 => subst x); (on_goal 2 => (intro hx; clear_value x)))
    | (extract_lets -underBinder +onlyGivenNames n; first | clear_value n | subst n)
    | with_reducible refine Frame.ite ?_ ?_
    | with_reducible refine bump_frame (by with_reducible assumption) ?_ _
    | with_reducible exact Frame.set_trc c_trc (by with_reducible assumption)
    | split

def State.stageGroup_foot : Nat := 0x700000000000000000000000000000000000000000000000000000000000000000000000000000000000000000000000000000000000000000000000000000000000000000100000
theorem State.stageGroup_frame (hm : Sub State.stageGroup_foot m) (h : Frame m s0 s) :
    ∀ a1, Frame m s0 (State.stageGroup s a1) := by
  intro a1
  have s_State_dropGroup : Sub State.dropGroup_foot m := hm.of (by decide)
  have c_trc : m.testBit 20 = true := hm.bit 20 (by decide)
  unfold State.stageGroup
  repeat' first
    | with_reducible assumption
    | (extract_lets -underBinder +onlyGivenNames x; have u : True := (by clear_value x; guard_hyp x :ₛ State; trivial); clear u; refine Frame.cut (m := m) (s0 := s0) (t := x) ?_ ?_; (on_goal 1 => subst x); (on_goal 2 => (intro hx; clear_value x)))
    | (extract_lets -underBinder +onlyGivenNames n; first | clear_value n | subst n)
    | with_reducible refine Frame.ite ?_ ?_
    | with_reducible refine State.dropGroup_frame s_State_dropGroup ?_ _
    | with_reducible exact Frame.set_trc c_trc (by with_reducible assumption)
    | split

def State.drainLanes_foot : Nat := 0x100000
theorem State.drainLanes_frame (hm : Sub State.drainLanes_foot m) (h : Frame m s0 s) :
    Frame m s0 (State.drainLanes s) := by
  have c_trc : m.testBit 20 = true := hm.bit 20 (by decide)
  unfold State.drainLanes
  repeat' first
    | with_reducible assumption
    | (extract_lets -underBinder +onlyGivenNames x; have u : True := (by clear_value x; guard_hyp x :ₛ State; trivial); clear u; refine Frame.cut (m := m) (s0 := s0) (t := x) ?_ ?_; (on_goal 1 => subst x); (on_goal 2 => (intro hx; clear_value x)))
    | (extract_lets -underBinder +onlyGivenNames n; first | clear_value n | subst n)
    | with_reducible refine Frame.ite ?_ ?_
    | with_reducible exact Frame.set_trc c_trc (by with_reducible assumption)
    | with_reducible refine Frame.foldl ?_ (fun s x hs => ?_)
    | split

def State.traceCmd_foot : Nat := 0x700000000000000000000000000000000000000000000000000000000000000000000000000000000000000000000000000000000000000000000000000000000000000000100000
theorem State.traceCmd_frame (hm : Sub State.traceCmd_foot m) (h : Frame m s0 s) :
    ∀ a1 a2 a3 a4 a5 a6, Frame m s0 (State.traceCmd s a1 a2 a3 a4 a5 a6) := by
  intro a1 a2 a3 a4 a5 a6
  have s_State_drainLanes : Sub State.drainLanes_foot m := hm.of (by decide)
  have s_State_dropGroup : Sub State.dropGroup_foot m := hm.of (by decide)
  have c_trc : m.testBit 20 = true := hm.bit 20 (by decide)
  unfold State.traceCmd
  repeat' first
    | with_reducible assumption
    | (extract_lets -underBinder +onlyGivenNames x; have u : True := (by clear_value x; guard_hyp x :ₛ State; trivial); clear u; refine Frame.cut (m := m) (s0 := s0) (t := x) ?_ ?_; (on_goal 1 => subst x); (on_goal 2 => (intro hx; clear_value x)))
    | (extract_lets -underBinder +onlyGivenNames n; first | clear_value n | subst n)
    | with_reducible refine Frame.ite ?_ ?_
    | with_reducible refine State.drainLanes_frame s_State_drainLanes ?_
    | with_reducible refine State.dropGroup_frame s_State_dropGroup ?_ _
    | with_reducible exact Frame.set_trc c_trc (by with_reducible assumption)
    | split

end Sys2Proof.Machine
end

