-- ==== Sys2Proof/Laws/FrameForecastOps.lean ====
section
/-!
SUPPORT. Laws/FrameForecastOps.lean: the footprint of every function of Machine/ForecastOps.lean, and that it writes nothing outside it.
-/
namespace Sys2Proof.Machine

set_option linter.all false

variable {m : Nat} {s0 s : State}

def State.setFc_foot : Nat := 0x40000
theorem State.setFc_frame (hm : Sub State.setFc_foot m) (h : Frame m s0 s) :
    ∀ a1 a2, Frame m s0 (State.setFc s a1 a2) := by
  intro a1 a2
  have c_fcs : m.testBit 18 = true := hm.bit 18 (by decide)
  unfold State.setFc
  repeat' first
    | with_reducible assumption
    | (extract_lets -underBinder +onlyGivenNames x; have u : True := (by clear_value x; guard_hyp x :ₛ State; trivial); clear u; refine Frame.cut (m := m) (s0 := s0) (t := x) ?_ ?_; (on_goal 1 => subst x); (on_goal 2 => (intro hx; clear_value x)))
    | (extract_lets -underBinder +onlyGivenNames n; first | clear_value n | subst n)
    | with_reducible refine Frame.ite ?_ ?_
    | with_reducible exact Frame.set_fcs c_fcs (by with_reducible assumption)

def State.fcsEvents_foot : Nat := 0x10000000000000000000000000000000000000000000000000000000000000000000000000000000000000000000000000000000000000000000000000000000040100
theorem State.fcsEvents_frame (hm : Sub State.fcsEvents_foot m) (h : Frame m s0 s) :
    Frame m s0 (State.fcsEvents s) := by
  have s_State_setFc : Sub State.setFc_foot m := hm.of (by decide)
  have s_State_emitLim : Sub State.emitLim_foot m := hm.of (by decide)
  have c_fcs : m.testBit 18 = true := hm.bit 18 (by decide)
  unfold State.fcsEvents
  repeat' first
    | with_reducible assumption
    | (extract_lets -underBinder +onlyGivenNames x; have u : True := (by clear_value x; guard_hyp x :ₛ State; trivial); clear u; refine Frame.cut (m := m) (s0 := s0) (t := x) ?_ ?_; (on_goal 1 => subst x); (on_goal 2 => (intro hx; clear_value x)))
    | (extract_lets -underBinder +onlyGivenNames n; first | clear_value n | subst n)
    | with_reducible refine Frame.ite ?_ ?_
    | with_reducible refine State.setFc_frame s_State_setFc ?_ _ _
    | with_reducible refine State.emitLim_frame s_State_emitLim ?_ _ _ _ _ _
    | with_reducible exact Frame.set_fcs c_fcs (by with_reducible assumption)
    | with_reducible refine Frame.foldTo ?_ (fun s x hs => ?_)
    | split

def State.limitUnres_foot : Nat := 0x80000000000000000000000000000000000000000000000000000000000000000000000000000000000000000000000000000000040000
theorem State.limitUnres_frame (hm : Sub State.limitUnres_foot m) (h : Frame m s0 s) :
    ∀ a1, Frame m s0 (State.limitUnres s a1) := by
  intro a1
  have s_State_setFc : Sub State.setFc_foot m := hm.of (by decide)
  have k_FCS_DISCARD_unres : Has m FCS_DISCARD_unres := hm.has 12 29 rfl (by decide)
  unfold State.limitUnres
  repeat' first
    | with_reducible assumption
    | (extract_lets -underBinder +onlyGivenNames x; have u : True := (by clear_value x; guard_hyp x :ₛ State; trivial); clear u; refine Frame.cut (m := m) (s0 := s0) (t := x) ?_ ?_; (on_goal 1 => subst x); (on_goal 2 => (intro hx; clear_value x)))
    | (extract_lets -underBinder +onlyGivenNames n; first | clear_value n | subst n)
    | with_reducible refine Frame.ite ?_ ?_
    | with_reducible refine bump_frame (by with_reducible assumption) ?_ _
    | with_reducible refine State.setFc_frame s_State_setFc ?_ _ _
    | split

def State.countRight_foot : Nat := 0x100000000000000000000000000000000000000000000000000000000000000000000000000000000000000000000000000000000000400
theorem State.countRight_frame (hm : Sub State.countRight_foot m) (h : Frame m s0 s) :
    ∀ a1 a2, Frame m s0 (State.countRight s a1 a2) := by
  intro a1 a2
  have s_State_count : Sub State.count_foot m := hm.of (by decide)
  have k_FCS_NFC_count : Has m FCS_NFC_count := hm.has 12 30 rfl (by decide)
  unfold State.countRight
  repeat' first
    | with_reducible assumption
    | (extract_lets -underBinder +onlyGivenNames x; have u : True := (by clear_value x; guard_hyp x :ₛ State; trivial); clear u; refine Frame.cut (m := m) (s0 := s0) (t := x) ?_ ?_; (on_goal 1 => subst x); (on_goal 2 => (intro hx; clear_value x)))
    | (extract_lets -underBinder +onlyGivenNames n; first | clear_value n | subst n)
    | with_reducible refine Frame.ite ?_ ?_
    | with_reducible refine bump_frame (by with_reducible assumption) ?_ _
    | with_reducible refine State.count_frame s_State_count ?_ _ _
    | split

def State.snapshot_foot : Nat := 0x180000000000000000000000000000000000000000000000000000000000000000000000000000000000000000000000000000000040400
theorem State.snapshot_frame (hm : Sub State.snapshot_foot m) (h : Frame m s0 s) :
    ∀ a1, Frame m s0 (State.snapshot s a1) := by
  intro a1
  have s_State_setFc : Sub State.setFc_foot m := hm.of (by decide)
  have s_State_limitUnres : Sub State.limitUnres_foot m := hm.of (by decide)
  have s_State_countRight : Sub State.countRight_foot m := hm.of (by decide)
  have c_fcs : m.testBit 18 = true := hm.bit 18 (by decide)
  unfold State.snapshot
  repeat' first
    | with_reducible assumption
    | (extract_lets -underBinder +onlyGivenNames x; have u : True := (by clear_value x; guard_hyp x :ₛ State; trivial); clear u; refine Frame.cut (m := m) (s0 := s0) (t := x) ?_ ?_; (on_goal 1 => subst x); (on_goal 2 => (intro hx; clear_value x)))
    | (extract_lets -underBinder +onlyGivenNames n; first | clear_value n | subst n)
    | with_reducible refine Frame.ite ?_ ?_
    | with_reducible refine State.setFc_frame s_State_setFc ?_ _ _
    | with_reducible refine State.limitUnres_frame s_State_limitUnres ?_ _
    | with_reducible refine State.countRight_frame s_State_countRight ?_ _ _
    | with_reducible exact Frame.set_fcs c_fcs (by with_reducible assumption)
    | split

def State.formFF_foot : Nat := 0x40000
theorem State.formFF_frame (hm : Sub State.formFF_foot m) (h : Frame m s0 s) :
    Frame m s0 (State.formFF s) := by
  have c_fcs : m.testBit 18 = true := hm.bit 18 (by decide)
  unfold State.formFF
  repeat' first
    | with_reducible assumption
    | (extract_lets -underBinder +onlyGivenNames x; have u : True := (by clear_value x; guard_hyp x :ₛ State; trivial); clear u; refine Frame.cut (m := m) (s0 := s0) (t := x) ?_ ?_; (on_goal 1 => subst x); (on_goal 2 => (intro hx; clear_value x)))
    | (extract_lets -underBinder +onlyGivenNames n; first | clear_value n | subst n)
    | with_reducible refine Frame.ite ?_ ?_
    | with_reducible exact Frame.set_fcs c_fcs (by with_reducible assumption)
    | split

def State.moveFallback_foot : Nat := 0x1000000000000000003f000188000000000000000000000000000000000000000000000000000000000000000000000000000000000000000000000000000000040500
theorem State.moveFallback_frame (hm : Sub State.moveFallback_foot m) (h : Frame m s0 s) :
    ∀ a1 a2 a3, Frame m s0 (State.moveFallback s a1 a2 a3) := by
  intro a1 a2 a3
  have s_State_setFc : Sub State.setFc_foot m := hm.of (by decide)
  have s_State_snapshot : Sub State.snapshot_foot m := hm.of (by decide)
  have s_State_refreshChokers : Sub State.refreshChokers_foot m := hm.of (by decide)
  have s_State_formFF : Sub State.formFF_foot m := hm.of (by decide)
  have s_State_emit : Sub State.emit_foot m := hm.of (by decide)
  have k_FCS_CORE_fallback : Has m FCS_CORE_fallback := hm.has 12 25 rfl (by decide)
  unfold State.moveFallback
  repeat' first
    | with_reducible assumption
    | (extract_lets -underBinder +onlyGivenNames x; have u : True := (by clear_value x; guard_hyp x :ₛ State; trivial); clear u; refine Frame.cut (m := m) (s0 := s0) (t := x) ?_ ?_; (on_goal 1 => subst x); (on_goal 2 => (intro hx; clear_value x)))
    | (extract_lets -underBinder +onlyGivenNames n; first | clear_value n | subst n)
    | with_reducible refine Frame.ite ?_ ?_
    | with_reducible refine wr_frame (by with_reducible assumption) ?_ _ _
    | with_reducible refine State.setFc_frame s_State_setFc ?_ _ _
    | with_reducible refine State.snapshot_frame s_State_snapshot ?_ _
    | with_reducible refine State.refreshChokers_frame s_State_refreshChokers ?_ _
    | with_reducible refine State.formFF_frame s_State_formFF ?_
    | with_reducible refine State.emit_frame s_State_emit ?_ _ _ _
    | split

def State.traceFc_foot : Nat := 0x700000000000000000000000000000000000000000000000000000000000000000000000000000000000000000000000000000000000000000000000000000000000000000100000
theorem State.traceFc_frame (hm : Sub State.traceFc_foot m) (h : Frame m s0 s) :
    ∀ a1 a2, Frame m s0 (State.traceFc s a1 a2) := by
  intro a1 a2
  have s_State_stageGroup : Sub State.stageGroup_foot m := hm.of (by decide)
  unfold State.traceFc
  repeat' first
    | with_reducible assumption
    | (extract_lets -underBinder +onlyGivenNames x; have u : True := (by clear_value x; guard_hyp x :ₛ State; trivial); clear u; refine Frame.cut (m := m) (s0 := s0) (t := x) ?_ ?_; (on_goal 1 => subst x); (on_goal 2 => (intro hx; clear_value x)))
    | (extract_lets -underBinder +onlyGivenNames n; first | clear_value n | subst n)
    | with_reducible refine Frame.ite ?_ ?_
    | with_reducible refine State.stageGroup_frame s_State_stageGroup ?_ _
    | with_reducible refine Frame.foldl ?_ (fun s x hs => ?_)
    | split

def State.outputArrived_foot : Nat := 0x700000000000000000000000000000000000000000000000000000000000000000000000000000000000000000000000000000000000000000000000000000000000000000140000
theorem State.outputArrived_frame (hm : Sub State.outputArrived_foot m) (h : Frame m s0 s) :
    ∀ a1 a2 a3, Frame m s0 (State.outputArrived s a1 a2 a3) := by
  intro a1 a2 a3
  have s_State_setFc : Sub State.setFc_foot m := hm.of (by decide)
  have s_State_traceFc : Sub State.traceFc_foot m := hm.of (by decide)
  unfold State.outputArrived
  repeat' first
    | with_reducible assumption
    | (extract_lets -underBinder +onlyGivenNames x; have u : True := (by clear_value x; guard_hyp x :ₛ State; trivial); clear u; refine Frame.cut (m := m) (s0 := s0) (t := x) ?_ ?_; (on_goal 1 => subst x); (on_goal 2 => (intro hx; clear_value x)))
    | (extract_lets -underBinder +onlyGivenNames n; first | clear_value n | subst n)
    | with_reducible refine Frame.ite ?_ ?_
    | with_reducible refine State.setFc_frame s_State_setFc ?_ _ _
    | with_reducible refine State.traceFc_frame s_State_traceFc ?_ _ _
    | split

def State.resolveCmd_foot : Nat := 0x700000000000000000000000000000000140000000000000000000000000000000000000000000000000000000000000000000000000000000000000000000000000000000140400
theorem State.resolveCmd_frame (hm : Sub State.resolveCmd_foot m) (h : Frame m s0 s) :
    ∀ a1 a2 a3 a4, Frame m s0 (State.resolveCmd s a1 a2 a3 a4) := by
  intro a1 a2 a3 a4
  have s_State_setFc : Sub State.setFc_foot m := hm.of (by decide)
  have s_State_countRight : Sub State.countRight_foot m := hm.of (by decide)
  have s_State_traceFc : Sub State.traceFc_foot m := hm.of (by decide)
  have k_FCS_DISCARD_wrong : Has m FCS_DISCARD_wrong := hm.has 12 28 rfl (by decide)
  unfold State.resolveCmd
  repeat' first
    | with_reducible assumption
    | (extract_lets -underBinder +onlyGivenNames x; have u : True := (by clear_value x; guard_hyp x :ₛ State; trivial); clear u; refine Frame.cut (m := m) (s0 := s0) (t := x) ?_ ?_; (on_goal 1 => subst x); (on_goal 2 => (intro hx; clear_value x)))
    | (extract_lets -underBinder +onlyGivenNames n; first | clear_value n | subst n)
    | with_reducible refine Frame.ite ?_ ?_
    | with_reducible refine bump_frame (by with_reducible assumption) ?_ _
    | with_reducible refine State.setFc_frame s_State_setFc ?_ _ _
    | with_reducible refine State.countRight_frame s_State_countRight ?_ _ _
    | with_reducible refine State.traceFc_frame s_State_traceFc ?_ _ _
    | with_reducible refine Frame.foldl ?_ (fun s x hs => ?_)
    | split

end Sys2Proof.Machine
end

