-- ==== Sys2Proof/Laws/FramePairOps.lean ====
section
/-!
SUPPORT. Laws/FramePairOps.lean: the footprint of every function of Machine/PairOps.lean, and that it writes nothing outside it.
-/
namespace Sys2Proof.Machine

set_option linter.all false

variable {m : Nat} {s0 s : State}

def State.setPar_foot : Nat := 0x80000000
theorem State.setPar_frame (hm : Sub State.setPar_foot m) (h : Frame m s0 s) :
    ∀ a1, Frame m s0 (State.setPar s a1) := by
  intro a1
  have c_par : m.testBit 31 = true := hm.bit 31 (by decide)
  unfold State.setPar
  repeat' first
    | with_reducible assumption
    | (extract_lets -underBinder +onlyGivenNames x; have u : True := (by clear_value x; guard_hyp x :ₛ State; trivial); clear u; refine Frame.cut (m := m) (s0 := s0) (t := x) ?_ ?_; (on_goal 1 => subst x); (on_goal 2 => (intro hx; clear_value x)))
    | (extract_lets -underBinder +onlyGivenNames n; first | clear_value n | subst n)
    | with_reducible refine Frame.ite ?_ ?_
    | with_reducible exact Frame.set_par c_par (by with_reducible assumption)

def State.bridgeSend_foot : Nat := 0x80000080
theorem State.bridgeSend_frame (hm : Sub State.bridgeSend_foot m) (h : Frame m s0 s) :
    ∀ a1 a2, Frame m s0 (State.bridgeSend s a1 a2) := by
  intro a1 a2
  have s_State_setPar : Sub State.setPar_foot m := hm.of (by decide)
  have s_State_send : Sub State.send_foot m := hm.of (by decide)
  unfold State.bridgeSend
  repeat' first
    | with_reducible assumption
    | (extract_lets -underBinder +onlyGivenNames x; have u : True := (by clear_value x; guard_hyp x :ₛ State; trivial); clear u; refine Frame.cut (m := m) (s0 := s0) (t := x) ?_ ?_; (on_goal 1 => subst x); (on_goal 2 => (intro hx; clear_value x)))
    | (extract_lets -underBinder +onlyGivenNames n; first | clear_value n | subst n)
    | with_reducible refine Frame.ite ?_ ?_
    | with_reducible refine State.setPar_frame s_State_setPar ?_ _
    | with_reducible refine State.send_frame s_State_send ?_ _
    | split

def State.mirror_foot : Nat := 0x80000080
theorem State.mirror_frame (hm : Sub State.mirror_foot m) (h : Frame m s0 s) :
    ∀ a1 a2 a3, Frame m s0 (State.mirror s a1 a2 a3) := by
  intro a1 a2 a3
  have s_State_bridgeSend : Sub State.bridgeSend_foot m := hm.of (by decide)
  have s_State_setPar : Sub State.setPar_foot m := hm.of (by decide)
  unfold State.mirror
  repeat' first
    | with_reducible assumption
    | (extract_lets -underBinder +onlyGivenNames x; have u : True := (by clear_value x; guard_hyp x :ₛ State; trivial); clear u; refine Frame.cut (m := m) (s0 := s0) (t := x) ?_ ?_; (on_goal 1 => subst x); (on_goal 2 => (intro hx; clear_value x)))
    | (extract_lets -underBinder +onlyGivenNames n; first | clear_value n | subst n)
    | with_reducible refine Frame.ite ?_ ?_
    | with_reducible refine State.bridgeSend_frame s_State_bridgeSend ?_ _ _
    | with_reducible refine State.setPar_frame s_State_setPar ?_ _
    | split

def State.dropRole_foot : Nat := 0xa0000000
theorem State.dropRole_frame (hm : Sub State.dropRole_foot m) (h : Frame m s0 s) :
    Frame m s0 (State.dropRole s) := by
  have s_State_setPar : Sub State.setPar_foot m := hm.of (by decide)
  have c_hif : m.testBit 29 = true := hm.bit 29 (by decide)
  unfold State.dropRole
  repeat' first
    | with_reducible assumption
    | (extract_lets -underBinder +onlyGivenNames x; have u : True := (by clear_value x; guard_hyp x :ₛ State; trivial); clear u; refine Frame.cut (m := m) (s0 := s0) (t := x) ?_ ?_; (on_goal 1 => subst x); (on_goal 2 => (intro hx; clear_value x)))
    | (extract_lets -underBinder +onlyGivenNames n; first | clear_value n | subst n)
    | with_reducible refine Frame.ite ?_ ?_
    | with_reducible refine State.setPar_frame s_State_setPar ?_ _
    | with_reducible exact Frame.set_hif c_hif (by with_reducible assumption)
    | split

def State.sendCkpt_foot : Nat := 0x80000080
theorem State.sendCkpt_frame (hm : Sub State.sendCkpt_foot m) (h : Frame m s0 s) :
    Frame m s0 (State.sendCkpt s) := by
  have s_State_bridgeSend : Sub State.bridgeSend_foot m := hm.of (by decide)
  have s_State_setPar : Sub State.setPar_foot m := hm.of (by decide)
  unfold State.sendCkpt
  repeat' first
    | with_reducible assumption
    | (extract_lets -underBinder +onlyGivenNames x; have u : True := (by clear_value x; guard_hyp x :ₛ State; trivial); clear u; refine Frame.cut (m := m) (s0 := s0) (t := x) ?_ ?_; (on_goal 1 => subst x); (on_goal 2 => (intro hx; clear_value x)))
    | (extract_lets -underBinder +onlyGivenNames n; first | clear_value n | subst n)
    | with_reducible refine Frame.ite ?_ ?_
    | with_reducible refine State.bridgeSend_frame s_State_bridgeSend ?_ _ _
    | with_reducible refine State.setPar_frame s_State_setPar ?_ _
    | with_reducible refine Frame.foldl ?_ (fun s x hs => ?_)

def State.handover_foot : Nat := 0x100000000000000000000000000000000000000000000000000000000000000000000000000000000000000000000000000000000000000000000000000000000000000000000000000000000000000000a0000080
theorem State.handover_frame (hm : Sub State.handover_foot m) (h : Frame m s0 s) :
    ∀ a1, Frame m s0 (State.handover s a1) := by
  intro a1
  have s_State_dropRole : Sub State.dropRole_foot m := hm.of (by decide)
  have s_State_bridgeSend : Sub State.bridgeSend_foot m := hm.of (by decide)
  have s_State_sendCkpt : Sub State.sendCkpt_foot m := hm.of (by decide)
  have k_PAR_STAT_role : Has m PAR_STAT_role := hm.has 22 9 rfl (by decide)
  unfold State.handover
  repeat' first
    | with_reducible assumption
    | (extract_lets -underBinder +onlyGivenNames x; have u : True := (by clear_value x; guard_hyp x :ₛ State; trivial); clear u; refine Frame.cut (m := m) (s0 := s0) (t := x) ?_ ?_; (on_goal 1 => subst x); (on_goal 2 => (intro hx; clear_value x)))
    | (extract_lets -underBinder +onlyGivenNames n; first | clear_value n | subst n)
    | with_reducible refine Frame.ite ?_ ?_
    | with_reducible refine wr_frame (by with_reducible assumption) ?_ _ _
    | with_reducible refine State.dropRole_frame s_State_dropRole ?_
    | with_reducible refine State.bridgeSend_frame s_State_bridgeSend ?_ _ _
    | with_reducible refine State.sendCkpt_frame s_State_sendCkpt ?_
    | split

end Sys2Proof.Machine
end

