-- ==== Sys2Proof/Laws/FramePublish.lean ====
section
/-!
SUPPORT. Laws/FramePublish.lean: the footprint of every function of Machine/Publish.lean, and that it writes nothing outside it.
-/
namespace Sys2Proof.Machine

set_option linter.all false

variable {m : Nat} {s0 s : State}

def State.seedSp_foot : Nat := 0x80000
theorem State.seedSp_frame (hm : Sub State.seedSp_foot m) (h : Frame m s0 s) :
    ∀ a1 a2, Frame m s0 (State.seedSp s a1 a2) := by
  intro a1 a2
  have c_lpe : m.testBit 19 = true := hm.bit 19 (by decide)
  unfold State.seedSp
  repeat' first
    | with_reducible assumption
    | (extract_lets -underBinder +onlyGivenNames x; have u : True := (by clear_value x; guard_hyp x :ₛ State; trivial); clear u; refine Frame.cut (m := m) (s0 := s0) (t := x) ?_ ?_; (on_goal 1 => subst x); (on_goal 2 => (intro hx; clear_value x)))
    | (extract_lets -underBinder +onlyGivenNames n; first | clear_value n | subst n)
    | with_reducible refine Frame.ite ?_ ?_
    | with_reducible exact Frame.set_lpe c_lpe (by with_reducible assumption)

def State.publish_foot : Nat := 0x80000
theorem State.publish_frame (hm : Sub State.publish_foot m) (h : Frame m s0 s) :
    ∀ a1 a2 a3 a4, Frame m s0 (State.publish s a1 a2 a3 a4) := by
  intro a1 a2 a3 a4
  have c_lpe : m.testBit 19 = true := hm.bit 19 (by decide)
  unfold State.publish
  repeat' first
    | with_reducible assumption
    | (extract_lets -underBinder +onlyGivenNames x; have u : True := (by clear_value x; guard_hyp x :ₛ State; trivial); clear u; refine Frame.cut (m := m) (s0 := s0) (t := x) ?_ ?_; (on_goal 1 => subst x); (on_goal 2 => (intro hx; clear_value x)))
    | (extract_lets -underBinder +onlyGivenNames n; first | clear_value n | subst n)
    | with_reducible refine Frame.ite ?_ ?_
    | with_reducible exact Frame.set_lpe c_lpe (by with_reducible assumption)

end Sys2Proof.Machine
end

