-- ==== Sys2Proof/Laws/FrameTelemetry.lean ====
section
/-!
SUPPORT. Laws/FrameTelemetry.lean: the footprint of every function of Machine/Telemetry.lean, and that it writes nothing outside it.
-/
namespace Sys2Proof.Machine

set_option linter.all false

variable {m : Nat} {s0 s : State}

def State.setTlane_foot : Nat := 0x20000
theorem State.setTlane_frame (hm : Sub State.setTlane_foot m) (h : Frame m s0 s) :
    ∀ a1 a2, Frame m s0 (State.setTlane s a1 a2) := by
  intro a1 a2
  have c_sns : m.testBit 17 = true := hm.bit 17 (by decide)
  unfold State.setTlane
  repeat' first
    | with_reducible assumption
    | (extract_lets -underBinder +onlyGivenNames x; have u : True := (by clear_value x; guard_hyp x :ₛ State; trivial); clear u; refine Frame.cut (m := m) (s0 := s0) (t := x) ?_ ?_; (on_goal 1 => subst x); (on_goal 2 => (intro hx; clear_value x)))
    | (extract_lets -underBinder +onlyGivenNames n; first | clear_value n | subst n)
    | with_reducible refine Frame.ite ?_ ?_
    | with_reducible exact Frame.set_sns c_sns (by with_reducible assumption)

def State.setPh_foot : Nat := 0x20000
theorem State.setPh_frame (hm : Sub State.setPh_foot m) (h : Frame m s0 s) :
    ∀ a1 a2, Frame m s0 (State.setPh s a1 a2) := by
  intro a1 a2
  have c_sns : m.testBit 17 = true := hm.bit 17 (by decide)
  unfold State.setPh
  repeat' first
    | with_reducible assumption
    | (extract_lets -underBinder +onlyGivenNames x; have u : True := (by clear_value x; guard_hyp x :ₛ State; trivial); clear u; refine Frame.cut (m := m) (s0 := s0) (t := x) ?_ ?_; (on_goal 1 => subst x); (on_goal 2 => (intro hx; clear_value x)))
    | (extract_lets -underBinder +onlyGivenNames n; first | clear_value n | subst n)
    | with_reducible refine Frame.ite ?_ ?_
    | with_reducible exact Frame.set_sns c_sns (by with_reducible assumption)

def State.notePhases_foot : Nat := 0x20000
theorem State.notePhases_frame (hm : Sub State.notePhases_foot m) (h : Frame m s0 s) :
    Frame m s0 (State.notePhases s) := by
  have c_sns : m.testBit 17 = true := hm.bit 17 (by decide)
  unfold State.notePhases
  repeat' first
    | with_reducible assumption
    | (extract_lets -underBinder +onlyGivenNames x; have u : True := (by clear_value x; guard_hyp x :ₛ State; trivial); clear u; refine Frame.cut (m := m) (s0 := s0) (t := x) ?_ ?_; (on_goal 1 => subst x); (on_goal 2 => (intro hx; clear_value x)))
    | (extract_lets -underBinder +onlyGivenNames n; first | clear_value n | subst n)
    | with_reducible refine Frame.ite ?_ ?_
    | with_reducible exact Frame.set_sns c_sns (by with_reducible assumption)
    | split

def State.setVph_foot : Nat := 0x2000000
theorem State.setVph_frame (hm : Sub State.setVph_foot m) (h : Frame m s0 s) :
    ∀ a1 a2, Frame m s0 (State.setVph s a1 a2) := by
  intro a1 a2
  have c_vrc : m.testBit 25 = true := hm.bit 25 (by decide)
  unfold State.setVph
  repeat' first
    | with_reducible assumption
    | (extract_lets -underBinder +onlyGivenNames x; have u : True := (by clear_value x; guard_hyp x :ₛ State; trivial); clear u; refine Frame.cut (m := m) (s0 := s0) (t := x) ?_ ?_; (on_goal 1 => subst x); (on_goal 2 => (intro hx; clear_value x)))
    | (extract_lets -underBinder +onlyGivenNames n; first | clear_value n | subst n)
    | with_reducible refine Frame.ite ?_ ?_
    | with_reducible exact Frame.set_vrc c_vrc (by with_reducible assumption)

def State.refreshPh_foot : Nat := 0x3000000000000000000000000000000000000000000000000020000
theorem State.refreshPh_frame (hm : Sub State.refreshPh_foot m) (h : Frame m s0 s) :
    ∀ a1, Frame m s0 (State.refreshPh s a1) := by
  intro a1
  have k_SNS_PHQ_current : Has m SNS_PHQ_current := hm.has 7 15 rfl (by decide)
  have k_SNS_PHQ_quality : Has m SNS_PHQ_quality := hm.has 7 16 rfl (by decide)
  have c_sns : m.testBit 17 = true := hm.bit 17 (by decide)
  unfold State.refreshPh
  repeat' first
    | with_reducible assumption
    | (extract_lets -underBinder +onlyGivenNames x; have u : True := (by clear_value x; guard_hyp x :ₛ State; trivial); clear u; refine Frame.cut (m := m) (s0 := s0) (t := x) ?_ ?_; (on_goal 1 => subst x); (on_goal 2 => (intro hx; clear_value x)))
    | (extract_lets -underBinder +onlyGivenNames n; first | clear_value n | subst n)
    | with_reducible refine Frame.ite ?_ ?_
    | with_reducible refine wr_frame (by with_reducible assumption) ?_ _ _
    | with_reducible exact Frame.set_sns c_sns (by with_reducible assumption)
    | split

def State.missLane_foot : Nat := 0x3000000000000000000000000000000000000000000000000020000
theorem State.missLane_frame (hm : Sub State.missLane_foot m) (h : Frame m s0 s) :
    ∀ a1, Frame m s0 (State.missLane s a1) := by
  intro a1
  have s_State_refreshPh : Sub State.refreshPh_foot m := hm.of (by decide)
  have s_State_setPh : Sub State.setPh_foot m := hm.of (by decide)
  unfold State.missLane
  repeat' first
    | with_reducible assumption
    | (extract_lets -underBinder +onlyGivenNames x; have u : True := (by clear_value x; guard_hyp x :ₛ State; trivial); clear u; refine Frame.cut (m := m) (s0 := s0) (t := x) ?_ ?_; (on_goal 1 => subst x); (on_goal 2 => (intro hx; clear_value x)))
    | (extract_lets -underBinder +onlyGivenNames n; first | clear_value n | subst n)
    | with_reducible refine Frame.ite ?_ ?_
    | with_reducible refine State.refreshPh_frame s_State_refreshPh ?_ _
    | with_reducible refine State.setPh_frame s_State_setPh ?_ _ _
    | with_reducible refine Frame.foldTo ?_ (fun s x hs => ?_)

def State.flushPair_foot : Nat := 0x700000000000000000000000000000000000000000000000000000000000000000000000000000000000000000000000000000000000000000000000000000000000000000120000
theorem State.flushPair_frame (hm : Sub State.flushPair_foot m) (h : Frame m s0 s) :
    ∀ a1, Frame m s0 (State.flushPair s a1) := by
  intro a1
  have s_State_stageGroup : Sub State.stageGroup_foot m := hm.of (by decide)
  have s_State_setTlane : Sub State.setTlane_foot m := hm.of (by decide)
  unfold State.flushPair
  repeat' first
    | with_reducible assumption
    | (extract_lets -underBinder +onlyGivenNames x; have u : True := (by clear_value x; guard_hyp x :ₛ State; trivial); clear u; refine Frame.cut (m := m) (s0 := s0) (t := x) ?_ ?_; (on_goal 1 => subst x); (on_goal 2 => (intro hx; clear_value x)))
    | (extract_lets -underBinder +onlyGivenNames n; first | clear_value n | subst n)
    | with_reducible refine Frame.ite ?_ ?_
    | with_reducible refine State.stageGroup_frame s_State_stageGroup ?_ _
    | with_reducible refine State.setTlane_frame s_State_setTlane ?_ _ _
    | split

def State.toHunt_foot : Nat := 0x700000000000000000000000000000000000000000000000000000000000000000000000000000000000000000008000000000000000000000000000000000000000000000120000
theorem State.toHunt_frame (hm : Sub State.toHunt_foot m) (h : Frame m s0 s) :
    ∀ a1, Frame m s0 (State.toHunt s a1) := by
  intro a1
  have s_State_flushPair : Sub State.flushPair_foot m := hm.of (by decide)
  have s_State_setTlane : Sub State.setTlane_foot m := hm.of (by decide)
  have s_State_setPh : Sub State.setPh_foot m := hm.of (by decide)
  have k_SNS_TLM_STAT_state : Has m SNS_TLM_STAT_state := hm.has 7 6 rfl (by decide)
  unfold State.toHunt
  repeat' first
    | with_reducible assumption
    | (extract_lets -underBinder +onlyGivenNames x; have u : True := (by clear_value x; guard_hyp x :ₛ State; trivial); clear u; refine Frame.cut (m := m) (s0 := s0) (t := x) ?_ ?_; (on_goal 1 => subst x); (on_goal 2 => (intro hx; clear_value x)))
    | (extract_lets -underBinder +onlyGivenNames n; first | clear_value n | subst n)
    | with_reducible refine Frame.ite ?_ ?_
    | with_reducible refine wr_frame (by with_reducible assumption) ?_ _ _
    | with_reducible refine State.flushPair_frame s_State_flushPair ?_ _
    | with_reducible refine State.setTlane_frame s_State_setTlane ?_ _ _
    | with_reducible refine State.setPh_frame s_State_setPh ?_ _ _
    | with_reducible refine Frame.foldTo ?_ (fun s x hs => ?_)

def State.refreshLane_foot : Nat := 0x3000000000000000000000000000000000000000000000000020000
theorem State.refreshLane_frame (hm : Sub State.refreshLane_foot m) (h : Frame m s0 s) :
    ∀ a1, Frame m s0 (State.refreshLane s a1) := by
  intro a1
  have s_State_refreshPh : Sub State.refreshPh_foot m := hm.of (by decide)
  unfold State.refreshLane
  repeat' first
    | with_reducible assumption
    | with_reducible refine Frame.ite ?_ ?_
    | with_reducible refine State.refreshPh_frame s_State_refreshPh ?_ _
    | with_reducible refine Frame.foldTo ?_ (fun s x hs => ?_)

def State.limitSample_foot : Nat := 0x8000000000000000000000000000000000000000000000000000000000000000000002000000
theorem State.limitSample_frame (hm : Sub State.limitSample_foot m) (h : Frame m s0 s) :
    ∀ a1 a2, Frame m s0 (State.limitSample s a1 a2) := by
  intro a1 a2
  have s_State_setVph : Sub State.setVph_foot m := hm.of (by decide)
  have k_VRC_PH_STAT_lim_hits : Has m VRC_PH_STAT_lim_hits := hm.has 9 53 rfl (by decide)
  unfold State.limitSample
  repeat' first
    | with_reducible assumption
    | (extract_lets -underBinder +onlyGivenNames x; have u : True := (by clear_value x; guard_hyp x :ₛ State; trivial); clear u; refine Frame.cut (m := m) (s0 := s0) (t := x) ?_ ?_; (on_goal 1 => subst x); (on_goal 2 => (intro hx; clear_value x)))
    | (extract_lets -underBinder +onlyGivenNames n; first | clear_value n | subst n)
    | with_reducible refine Frame.ite ?_ ?_
    | with_reducible refine bump_frame (by with_reducible assumption) ?_ _
    | with_reducible refine State.setVph_frame s_State_setVph ?_ _ _
    | split

def State.addSample_foot : Nat := 0x20000
theorem State.addSample_frame (hm : Sub State.addSample_foot m) (h : Frame m s0 s) :
    ∀ a1 a2 a3 a4, Frame m s0 (State.addSample s a1 a2 a3 a4) := by
  intro a1 a2 a3 a4
  have c_sns : m.testBit 17 = true := hm.bit 17 (by decide)
  unfold State.addSample
  repeat' first
    | with_reducible assumption
    | (extract_lets -underBinder +onlyGivenNames x; have u : True := (by clear_value x; guard_hyp x :ₛ State; trivial); clear u; refine Frame.cut (m := m) (s0 := s0) (t := x) ?_ ?_; (on_goal 1 => subst x); (on_goal 2 => (intro hx; clear_value x)))
    | (extract_lets -underBinder +onlyGivenNames n; first | clear_value n | subst n)
    | with_reducible refine Frame.ite ?_ ?_
    | with_reducible exact Frame.set_sns c_sns (by with_reducible assumption)
    | split

def State.putSample_foot : Nat := 0x20000
theorem State.putSample_frame (hm : Sub State.putSample_foot m) (h : Frame m s0 s) :
    ∀ a1 a2 a3, Frame m s0 (State.putSample s a1 a2 a3) := by
  intro a1 a2 a3
  have s_State_addSample : Sub State.addSample_foot m := hm.of (by decide)
  have s_State_setPh : Sub State.setPh_foot m := hm.of (by decide)
  unfold State.putSample
  repeat' first
    | with_reducible assumption
    | (extract_lets -underBinder +onlyGivenNames x; have u : True := (by clear_value x; guard_hyp x :ₛ State; trivial); clear u; refine Frame.cut (m := m) (s0 := s0) (t := x) ?_ ?_; (on_goal 1 => subst x); (on_goal 2 => (intro hx; clear_value x)))
    | (extract_lets -underBinder +onlyGivenNames n; first | clear_value n | subst n)
    | with_reducible refine Frame.ite ?_ ?_
    | with_reducible refine State.addSample_frame s_State_addSample ?_ _ _ _ _
    | with_reducible refine State.setPh_frame s_State_setPh ?_ _ _
    | split

def State.sample_foot : Nat := 0x8000000000000000000000000000000000000000000000000000000000000000000002020000
theorem State.sample_frame (hm : Sub State.sample_foot m) (h : Frame m s0 s) :
    ∀ a1 a2 a3 a4 a5, Frame m s0 (State.sample s a1 a2 a3 a4 a5) := by
  intro a1 a2 a3 a4 a5
  have s_State_limitSample : Sub State.limitSample_foot m := hm.of (by decide)
  have s_State_putSample : Sub State.putSample_foot m := hm.of (by decide)
  have s_State_setPh : Sub State.setPh_foot m := hm.of (by decide)
  unfold State.sample
  repeat' first
    | with_reducible assumption
    | (extract_lets -underBinder +onlyGivenNames x; have u : True := (by clear_value x; guard_hyp x :ₛ State; trivial); clear u; refine Frame.cut (m := m) (s0 := s0) (t := x) ?_ ?_; (on_goal 1 => subst x); (on_goal 2 => (intro hx; clear_value x)))
    | (extract_lets -underBinder +onlyGivenNames n; first | clear_value n | subst n)
    | with_reducible refine Frame.ite ?_ ?_
    | with_reducible refine State.limitSample_frame s_State_limitSample ?_ _ _
    | with_reducible refine State.putSample_frame s_State_putSample ?_ _ _ _
    | with_reducible refine State.setPh_frame s_State_setPh ?_ _ _
    | split

def State.acceptSlot_foot : Nat := 0x8000000000000000000007000000000000000000000000000000000000000000000002020000
theorem State.acceptSlot_frame (hm : Sub State.acceptSlot_foot m) (h : Frame m s0 s) :
    ∀ a1 a2 a3, Frame m s0 (State.acceptSlot s a1 a2 a3) := by
  intro a1 a2 a3
  have s_State_refreshPh : Sub State.refreshPh_foot m := hm.of (by decide)
  have s_State_setVph : Sub State.setVph_foot m := hm.of (by decide)
  have s_State_sample : Sub State.sample_foot m := hm.of (by decide)
  have s_State_setPh : Sub State.setPh_foot m := hm.of (by decide)
  have k_SNS_PHQ_status : Has m SNS_PHQ_status := hm.has 7 17 rfl (by decide)
  unfold State.acceptSlot
  repeat' first
    | with_reducible assumption
    | (extract_lets -underBinder +onlyGivenNames x; have u : True := (by clear_value x; guard_hyp x :ₛ State; trivial); clear u; refine Frame.cut (m := m) (s0 := s0) (t := x) ?_ ?_; (on_goal 1 => subst x); (on_goal 2 => (intro hx; clear_value x)))
    | (extract_lets -underBinder +onlyGivenNames n; first | clear_value n | subst n)
    | with_reducible refine Frame.ite ?_ ?_
    | with_reducible refine wr_frame (by with_reducible assumption) ?_ _ _
    | with_reducible refine State.refreshPh_frame s_State_refreshPh ?_ _
    | with_reducible refine State.setVph_frame s_State_setVph ?_ _ _
    | with_reducible refine State.sample_frame s_State_sample ?_ _ _ _ _ _
    | with_reducible refine State.setPh_frame s_State_setPh ?_ _ _
    | with_reducible refine Frame.foldTo ?_ (fun s x hs => ?_)
    | split

def State.stageTempCheck_foot : Nat := 0x10000000000000000000000000000000000000000000004000000000000000000000000000000000000000000000000000000000000000000000000000000000000100
theorem State.stageTempCheck_frame (hm : Sub State.stageTempCheck_foot m) (h : Frame m s0 s) :
    Frame m s0 (State.stageTempCheck s) := by
  have s_State_emitLim : Sub State.emitLim_foot m := hm.of (by decide)
  have k_THM_STAT_stage_hot : Has m THM_STAT_stage_hot := hm.has 11 12 rfl (by decide)
  unfold State.stageTempCheck
  repeat' first
    | with_reducible assumption
    | (extract_lets -underBinder +onlyGivenNames x; have u : True := (by clear_value x; guard_hyp x :ₛ State; trivial); clear u; refine Frame.cut (m := m) (s0 := s0) (t := x) ?_ ?_; (on_goal 1 => subst x); (on_goal 2 => (intro hx; clear_value x)))
    | (extract_lets -underBinder +onlyGivenNames n; first | clear_value n | subst n)
    | with_reducible refine Frame.ite ?_ ?_
    | with_reducible refine wr_frame (by with_reducible assumption) ?_ _ _
    | with_reducible refine State.emitLim_frame s_State_emitLim ?_ _ _ _ _ _
    | split

def State.takeTemp_foot : Nat := 0x10000000000000000000000000000000000000000000004000000000000000000000000000000008000000000000000000000000000000000000000000000000020100
theorem State.takeTemp_frame (hm : Sub State.takeTemp_foot m) (h : Frame m s0 s) :
    ∀ a1 a2, Frame m s0 (State.takeTemp s a1 a2) := by
  intro a1 a2
  have s_State_stageTempCheck : Sub State.stageTempCheck_foot m := hm.of (by decide)
  have s_State_setPh : Sub State.setPh_foot m := hm.of (by decide)
  have k_SNS_PHT : Has m SNS_PHT := hm.has 7 18 rfl (by decide)
  unfold State.takeTemp
  repeat' first
    | with_reducible assumption
    | (extract_lets -underBinder +onlyGivenNames x; have u : True := (by clear_value x; guard_hyp x :ₛ State; trivial); clear u; refine Frame.cut (m := m) (s0 := s0) (t := x) ?_ ?_; (on_goal 1 => subst x); (on_goal 2 => (intro hx; clear_value x)))
    | (extract_lets -underBinder +onlyGivenNames n; first | clear_value n | subst n)
    | with_reducible refine Frame.ite ?_ ?_
    | with_reducible refine wr_frame (by with_reducible assumption) ?_ _ _
    | with_reducible refine State.stageTempCheck_frame s_State_stageTempCheck ?_
    | with_reducible refine State.setPh_frame s_State_setPh ?_ _ _

def State.traceTlm_foot : Nat := 0x700000000000000000000000000000000000000000000000000000000000000000000000000000000000000000000000000000000000000000000000000000000000000000120000
theorem State.traceTlm_frame (hm : Sub State.traceTlm_foot m) (h : Frame m s0 s) :
    ∀ a1 a2, Frame m s0 (State.traceTlm s a1 a2) := by
  intro a1 a2
  have s_State_stageGroup : Sub State.stageGroup_foot m := hm.of (by decide)
  have s_State_flushPair : Sub State.flushPair_foot m := hm.of (by decide)
  have s_State_setTlane : Sub State.setTlane_foot m := hm.of (by decide)
  unfold State.traceTlm
  repeat' first
    | with_reducible assumption
    | (extract_lets -underBinder +onlyGivenNames x; have u : True := (by clear_value x; guard_hyp x :ₛ State; trivial); clear u; refine Frame.cut (m := m) (s0 := s0) (t := x) ?_ ?_; (on_goal 1 => subst x); (on_goal 2 => (intro hx; clear_value x)))
    | (extract_lets -underBinder +onlyGivenNames n; first | clear_value n | subst n)
    | with_reducible refine Frame.ite ?_ ?_
    | with_reducible refine State.stageGroup_frame s_State_stageGroup ?_ _
    | with_reducible refine State.flushPair_frame s_State_flushPair ?_ _
    | with_reducible refine State.setTlane_frame s_State_setTlane ?_ _ _
    | split

def State.laneDark_foot : Nat := 0x700000000010000000000000000000000000000000000000000000000000000000000000000000000000000003008000000000000000000000000000000000000000000000120100
theorem State.laneDark_frame (hm : Sub State.laneDark_foot m) (h : Frame m s0 s) :
    ∀ a1, Frame m s0 (State.laneDark s a1) := by
  intro a1
  have s_State_missLane : Sub State.missLane_foot m := hm.of (by decide)
  have s_State_setTlane : Sub State.setTlane_foot m := hm.of (by decide)
  have s_State_toHunt : Sub State.toHunt_foot m := hm.of (by decide)
  have s_State_emit : Sub State.emit_foot m := hm.of (by decide)
  unfold State.laneDark
  repeat' first
    | with_reducible assumption
    | (extract_lets -underBinder +onlyGivenNames x; have u : True := (by clear_value x; guard_hyp x :ₛ State; trivial); clear u; refine Frame.cut (m := m) (s0 := s0) (t := x) ?_ ?_; (on_goal 1 => subst x); (on_goal 2 => (intro hx; clear_value x)))
    | (extract_lets -underBinder +onlyGivenNames n; first | clear_value n | subst n)
    | with_reducible refine Frame.ite ?_ ?_
    | with_reducible refine State.missLane_frame s_State_missLane ?_ _
    | with_reducible refine State.setTlane_frame s_State_setTlane ?_ _ _
    | with_reducible refine State.toHunt_frame s_State_toHunt ?_ _
    | with_reducible refine State.emit_frame s_State_emit ?_ _ _ _

def State.crcFail_foot : Nat := 0x10000000000000000000000000000000000000000000000000000000000000000000000000000000030000000000000000000000000000000000000000000000020100
theorem State.crcFail_frame (hm : Sub State.crcFail_foot m) (h : Frame m s0 s) :
    ∀ a1, Frame m s0 (State.crcFail s a1) := by
  intro a1
  have s_State_emitLim : Sub State.emitLim_foot m := hm.of (by decide)
  have s_State_setTlane : Sub State.setTlane_foot m := hm.of (by decide)
  have k_SNS_TLM_STAT_crc_err : Has m SNS_TLM_STAT_crc_err := hm.has 7 8 rfl (by decide)
  have k_SNS_TLM_STAT_degraded : Has m SNS_TLM_STAT_degraded := hm.has 7 7 rfl (by decide)
  unfold State.crcFail
  repeat' first
    | with_reducible assumption
    | (extract_lets -underBinder +onlyGivenNames x; have u : True := (by clear_value x; guard_hyp x :ₛ State; trivial); clear u; refine Frame.cut (m := m) (s0 := s0) (t := x) ?_ ?_; (on_goal 1 => subst x); (on_goal 2 => (intro hx; clear_value x)))
    | (extract_lets -underBinder +onlyGivenNames n; first | clear_value n | subst n)
    | with_reducible refine Frame.ite ?_ ?_
    | with_reducible refine wr_frame (by with_reducible assumption) ?_ _ _
    | with_reducible refine bump_frame (by with_reducible assumption) ?_ _
    | with_reducible refine State.emitLim_frame s_State_emitLim ?_ _ _ _ _ _
    | with_reducible refine State.setTlane_frame s_State_setTlane ?_ _ _
    | split

def State.judge_foot : Nat := 0x700000000010000000000000000000000000000000000000000000000000000000000000000000000000000003178000000000000000000000000000000000000000000000120100
theorem State.judge_frame (hm : Sub State.judge_foot m) (h : Frame m s0 s) :
    ∀ a1 a2, Frame m s0 (State.judge s a1 a2) := by
  intro a1 a2
  have s_State_laneDark : Sub State.laneDark_foot m := hm.of (by decide)
  have s_State_emitLim : Sub State.emitLim_foot m := hm.of (by decide)
  have s_State_crcFail : Sub State.crcFail_foot m := hm.of (by decide)
  have s_State_setTlane : Sub State.setTlane_foot m := hm.of (by decide)
  have k_SNS_TLM_CNT_ver_err : Has m SNS_TLM_CNT_ver_err := hm.has 7 11 rfl (by decide)
  have k_SNS_TLM_STAT_lane_err : Has m SNS_TLM_STAT_lane_err := hm.has 7 9 rfl (by decide)
  unfold State.judge
  repeat' first
    | with_reducible assumption
    | (extract_lets -underBinder +onlyGivenNames x; have u : True := (by clear_value x; guard_hyp x :ₛ State; trivial); clear u; refine Frame.cut (m := m) (s0 := s0) (t := x) ?_ ?_; (on_goal 1 => subst x); (on_goal 2 => (intro hx; clear_value x)))
    | (extract_lets -underBinder +onlyGivenNames n; first | clear_value n | subst n)
    | with_reducible refine Frame.ite ?_ ?_
    | with_reducible refine bump_frame (by with_reducible assumption) ?_ _
    | with_reducible refine State.laneDark_frame s_State_laneDark ?_ _
    | with_reducible refine State.emitLim_frame s_State_emitLim ?_ _ _ _ _ _
    | with_reducible refine State.crcFail_frame s_State_crcFail ?_ _
    | with_reducible refine State.setTlane_frame s_State_setTlane ?_ _ _
    | split

def State.continuity_foot : Nat := 0x10000000000000000000000000000000000000000000000000000000000000000000000000000000080000000000000000000000000000000000000000000000000100
theorem State.continuity_frame (hm : Sub State.continuity_foot m) (h : Frame m s0 s) :
    ∀ a1 a2, Frame m s0 (State.continuity s a1 a2) := by
  intro a1 a2
  have s_State_emit : Sub State.emit_foot m := hm.of (by decide)
  have k_SNS_TLM_STAT_lost : Has m SNS_TLM_STAT_lost := hm.has 7 10 rfl (by decide)
  unfold State.continuity
  repeat' first
    | with_reducible assumption
    | (extract_lets -underBinder +onlyGivenNames x; have u : True := (by clear_value x; guard_hyp x :ₛ State; trivial); clear u; refine Frame.cut (m := m) (s0 := s0) (t := x) ?_ ?_; (on_goal 1 => subst x); (on_goal 2 => (intro hx; clear_value x)))
    | (extract_lets -underBinder +onlyGivenNames n; first | clear_value n | subst n)
    | with_reducible refine Frame.ite ?_ ?_
    | with_reducible refine addTo_frame (by with_reducible assumption) ?_ _ _
    | with_reducible refine State.emit_frame s_State_emit ?_ _ _ _
    | split

def State.acceptFrame_foot : Nat := 0x70000000001000000000000000000000000000000000000000000000400000000000800000000000000000000f200000000000000000000000000000000000000000000002120100
theorem State.acceptFrame_frame (hm : Sub State.acceptFrame_foot m) (h : Frame m s0 s) :
    ∀ a1 a2, Frame m s0 (State.acceptFrame s a1 a2) := by
  intro a1 a2
  have s_State_acceptSlot : Sub State.acceptSlot_foot m := hm.of (by decide)
  have s_State_takeTemp : Sub State.takeTemp_foot m := hm.of (by decide)
  have s_State_setTlane : Sub State.setTlane_foot m := hm.of (by decide)
  have s_State_traceTlm : Sub State.traceTlm_foot m := hm.of (by decide)
  have k_SNS_TLM_CNT_rsv_err : Has m SNS_TLM_CNT_rsv_err := hm.has 7 12 rfl (by decide)
  unfold State.acceptFrame
  repeat' first
    | with_reducible assumption
    | (extract_lets -underBinder +onlyGivenNames x; have u : True := (by clear_value x; guard_hyp x :ₛ State; trivial); clear u; refine Frame.cut (m := m) (s0 := s0) (t := x) ?_ ?_; (on_goal 1 => subst x); (on_goal 2 => (intro hx; clear_value x)))
    | (extract_lets -underBinder +onlyGivenNames n; first | clear_value n | subst n)
    | with_reducible refine Frame.ite ?_ ?_
    | with_reducible refine bump_frame (by with_reducible assumption) ?_ _
    | with_reducible refine State.acceptSlot_frame s_State_acceptSlot ?_ _ _ _
    | with_reducible refine State.takeTemp_frame s_State_takeTemp ?_ _ _
    | with_reducible refine State.setTlane_frame s_State_setTlane ?_ _ _
    | with_reducible refine State.traceTlm_frame s_State_traceTlm ?_ _ _
    | with_reducible refine Frame.foldTo ?_ (fun s x hs => ?_)
    | split

def State.syncFrame_foot : Nat := 0x70000000001000000000000000000000000000000000000000000000400000000000800000000000000000000f3f8000000000000000000000000000000000000000000002120500
theorem State.syncFrame_frame (hm : Sub State.syncFrame_foot m) (h : Frame m s0 s) :
    ∀ a1 a2, Frame m s0 (State.syncFrame s a1 a2) := by
  intro a1 a2
  have s_State_judge : Sub State.judge_foot m := hm.of (by decide)
  have s_State_emitLim : Sub State.emitLim_foot m := hm.of (by decide)
  have s_State_missLane : Sub State.missLane_foot m := hm.of (by decide)
  have s_State_acceptFrame : Sub State.acceptFrame_foot m := hm.of (by decide)
  have s_State_setTlane : Sub State.setTlane_foot m := hm.of (by decide)
  have s_State_toHunt : Sub State.toHunt_foot m := hm.of (by decide)
  have s_State_count : Sub State.count_foot m := hm.of (by decide)
  have k_SNS_TLM_STAT_lost : Has m SNS_TLM_STAT_lost := hm.has 7 10 rfl (by decide)
  unfold State.syncFrame
  repeat' first
    | with_reducible assumption
    | (extract_lets -underBinder +onlyGivenNames x; have u : True := (by clear_value x; guard_hyp x :ₛ State; trivial); clear u; refine Frame.cut (m := m) (s0 := s0) (t := x) ?_ ?_; (on_goal 1 => subst x); (on_goal 2 => (intro hx; clear_value x)))
    | (extract_lets -underBinder +onlyGivenNames n; first | clear_value n | subst n)
    | with_reducible refine Frame.ite ?_ ?_
    | with_reducible refine addTo_frame (by with_reducible assumption) ?_ _ _
    | with_reducible refine State.judge_frame s_State_judge ?_ _ _
    | with_reducible refine State.emitLim_frame s_State_emitLim ?_ _ _ _ _ _
    | with_reducible refine State.missLane_frame s_State_missLane ?_ _
    | with_reducible refine State.acceptFrame_frame s_State_acceptFrame ?_ _ _
    | with_reducible refine State.setTlane_frame s_State_setTlane ?_ _ _
    | with_reducible refine State.toHunt_frame s_State_toHunt ?_ _
    | with_reducible refine State.count_frame s_State_count ?_ _ _
    | split

def State.huntFrame_foot : Nat := 0x700000000010000000000000000000000000000000000000000000000000000000000000000000000000000003178000000000000000000000000000000000000000000000120100
theorem State.huntFrame_frame (hm : Sub State.huntFrame_foot m) (h : Frame m s0 s) :
    ∀ a1 a2, Frame m s0 (State.huntFrame s a1 a2) := by
  intro a1 a2
  have s_State_judge : Sub State.judge_foot m := hm.of (by decide)
  have s_State_missLane : Sub State.missLane_foot m := hm.of (by decide)
  have s_State_setTlane : Sub State.setTlane_foot m := hm.of (by decide)
  have k_SNS_TLM_STAT_state : Has m SNS_TLM_STAT_state := hm.has 7 6 rfl (by decide)
  unfold State.huntFrame
  repeat' first
    | with_reducible assumption
    | (extract_lets -underBinder +onlyGivenNames x; have u : True := (by clear_value x; guard_hyp x :ₛ State; trivial); clear u; refine Frame.cut (m := m) (s0 := s0) (t := x) ?_ ?_; (on_goal 1 => subst x); (on_goal 2 => (intro hx; clear_value x)))
    | (extract_lets -underBinder +onlyGivenNames n; first | clear_value n | subst n)
    | with_reducible refine Frame.ite ?_ ?_
    | with_reducible refine wr_frame (by with_reducible assumption) ?_ _ _
    | with_reducible refine State.judge_frame s_State_judge ?_ _ _
    | with_reducible refine State.missLane_frame s_State_missLane ?_ _
    | with_reducible refine State.setTlane_frame s_State_setTlane ?_ _ _
    | split

def tlmFrame_foot : Nat := 0x70000000001000000000000000000000000000000000000000000000400000000000800000000000000000000f3f8000000000000000000000000000000400000000008002120500
theorem tlmFrame_frame (hm : Sub tlmFrame_foot m) (h : Frame m s0 s) :
    ∀ a0 a1 a2, Frame m s0 (tlmFrame a0 a1 a2 s) := by
  intro a0 a1 a2
  have s_State_huntFrame : Sub State.huntFrame_foot m := hm.of (by decide)
  have s_State_judge : Sub State.judge_foot m := hm.of (by decide)
  have s_State_continuity : Sub State.continuity_foot m := hm.of (by decide)
  have s_State_missLane : Sub State.missLane_foot m := hm.of (by decide)
  have s_State_acceptFrame : Sub State.acceptFrame_foot m := hm.of (by decide)
  have s_State_setTlane : Sub State.setTlane_foot m := hm.of (by decide)
  have s_State_syncFrame : Sub State.syncFrame_foot m := hm.of (by decide)
  have s_State_toHunt : Sub State.toHunt_foot m := hm.of (by decide)
  have s_State_crossOvr : Sub State.crossOvr_foot m := hm.of (by decide)
  have k_SNS_TLM_STAT_state : Has m SNS_TLM_STAT_state := hm.has 7 6 rfl (by decide)
  unfold tlmFrame
  repeat' first
    | with_reducible assumption
    | (extract_lets -underBinder +onlyGivenNames x; have u : True := (by clear_value x; guard_hyp x :ₛ State; trivial); clear u; refine Frame.cut (m := m) (s0 := s0) (t := x) ?_ ?_; (on_goal 1 => subst x); (on_goal 2 => (intro hx; clear_value x)))
    | (extract_lets -underBinder +onlyGivenNames n; first | clear_value n | subst n)
    | with_reducible refine Frame.ite ?_ ?_
    | with_reducible refine wr_frame (by with_reducible assumption) ?_ _ _
    | with_reducible refine State.huntFrame_frame s_State_huntFrame ?_ _ _
    | with_reducible refine State.judge_frame s_State_judge ?_ _ _
    | with_reducible refine State.continuity_frame s_State_continuity ?_ _ _
    | with_reducible refine State.missLane_frame s_State_missLane ?_ _
    | with_reducible refine State.acceptFrame_frame s_State_acceptFrame ?_ _ _
    | with_reducible refine State.setTlane_frame s_State_setTlane ?_ _ _
    | with_reducible refine State.syncFrame_frame s_State_syncFrame ?_ _ _
    | with_reducible refine State.toHunt_frame s_State_toHunt ?_ _
    | with_reducible refine State.crossOvr_frame s_State_crossOvr ?_ _
    | split

def tlmLaneDark_foot : Nat := 0x700000000010000000000000000000000000000000000000000000000000000000000000000000000000000003008000000000000000000000000000000000000000000000120100
theorem tlmLaneDark_frame (hm : Sub tlmLaneDark_foot m) (h : Frame m s0 s) :
    ∀ a0, Frame m s0 (tlmLaneDark a0 s) := by
  intro a0
  have s_State_laneDark : Sub State.laneDark_foot m := hm.of (by decide)
  unfold tlmLaneDark
  repeat' first
    | with_reducible assumption
    | with_reducible refine Frame.ite ?_ ?_
    | with_reducible refine State.laneDark_frame s_State_laneDark ?_ _
    | split

def phaseStale_foot : Nat := 0x10000000000000000000000000000000000000000000000000000000000000000000000000000003000000000000000000000000000000000000000000000000020100
theorem phaseStale_frame (hm : Sub phaseStale_foot m) (h : Frame m s0 s) :
    ∀ a0, Frame m s0 (phaseStale a0 s) := by
  intro a0
  have s_State_refreshPh : Sub State.refreshPh_foot m := hm.of (by decide)
  have s_State_setPh : Sub State.setPh_foot m := hm.of (by decide)
  have s_State_emit : Sub State.emit_foot m := hm.of (by decide)
  unfold phaseStale
  repeat' first
    | with_reducible assumption
    | (extract_lets -underBinder +onlyGivenNames x; have u : True := (by clear_value x; guard_hyp x :ₛ State; trivial); clear u; refine Frame.cut (m := m) (s0 := s0) (t := x) ?_ ?_; (on_goal 1 => subst x); (on_goal 2 => (intro hx; clear_value x)))
    | (extract_lets -underBinder +onlyGivenNames n; first | clear_value n | subst n)
    | with_reducible refine Frame.ite ?_ ?_
    | with_reducible refine State.refreshPh_frame s_State_refreshPh ?_ _
    | with_reducible refine State.setPh_frame s_State_setPh ?_ _ _
    | with_reducible refine State.emit_frame s_State_emit ?_ _ _ _
    | split

def phaseFrozen_foot : Nat := 0x10000000000000000000000000000000000000000000000000000000000000000000000000000003000000000000000000000000000000000000000000000000020100
theorem phaseFrozen_frame (hm : Sub phaseFrozen_foot m) (h : Frame m s0 s) :
    ∀ a0, Frame m s0 (phaseFrozen a0 s) := by
  intro a0
  have s_State_refreshPh : Sub State.refreshPh_foot m := hm.of (by decide)
  have s_State_setPh : Sub State.setPh_foot m := hm.of (by decide)
  have s_State_emit : Sub State.emit_foot m := hm.of (by decide)
  unfold phaseFrozen
  repeat' first
    | with_reducible assumption
    | (extract_lets -underBinder +onlyGivenNames x; have u : True := (by clear_value x; guard_hyp x :ₛ State; trivial); clear u; refine Frame.cut (m := m) (s0 := s0) (t := x) ?_ ?_; (on_goal 1 => subst x); (on_goal 2 => (intro hx; clear_value x)))
    | (extract_lets -underBinder +onlyGivenNames n; first | clear_value n | subst n)
    | with_reducible refine Frame.ite ?_ ?_
    | with_reducible refine State.refreshPh_frame s_State_refreshPh ?_ _
    | with_reducible refine State.setPh_frame s_State_setPh ?_ _ _
    | with_reducible refine State.emit_frame s_State_emit ?_ _ _ _
    | split

def phaseTempStale_foot : Nat := 0x10000000000000000000000000000000000000000000004000000000000000000000000000000008000000000000000000000000000000000000000000000000000100
theorem phaseTempStale_frame (hm : Sub phaseTempStale_foot m) (h : Frame m s0 s) :
    ∀ a0, Frame m s0 (phaseTempStale a0 s) := by
  intro a0
  have s_State_stageTempCheck : Sub State.stageTempCheck_foot m := hm.of (by decide)
  have k_SNS_PHT : Has m SNS_PHT := hm.has 7 18 rfl (by decide)
  unfold phaseTempStale
  repeat' first
    | with_reducible assumption
    | (extract_lets -underBinder +onlyGivenNames x; have u : True := (by clear_value x; guard_hyp x :ₛ State; trivial); clear u; refine Frame.cut (m := m) (s0 := s0) (t := x) ?_ ?_; (on_goal 1 => subst x); (on_goal 2 => (intro hx; clear_value x)))
    | (extract_lets -underBinder +onlyGivenNames n; first | clear_value n | subst n)
    | with_reducible refine Frame.ite ?_ ?_
    | with_reducible refine wr_frame (by with_reducible assumption) ?_ _ _
    | with_reducible refine State.stageTempCheck_frame s_State_stageTempCheck ?_
    | split

def execTlmFrame_foot : Nat := 0x70000000001000000000000000000000000000000000000000000000400000000000800000000000000000000f3f8000000000000000000000000000000400000000008002120500
theorem execTlmFrame_frame (hm : Sub execTlmFrame_foot m) (h : Frame m s0 s) :
    ∀ a0 a1 a2, ∃ t, execTlmFrame a0 a1 a2 s = .next t ∧ Frame m s0 t := by
  intro a0 a1 a2
  have s_tlmFrame : Sub tlmFrame_foot m := hm.of (by decide)
  unfold execTlmFrame
  refine hubOn_frame (fun s h => ?_) h
  repeat' first
    | with_reducible assumption
    | with_reducible refine Frame.ite ?_ ?_
    | with_reducible refine tlmFrame_frame s_tlmFrame ?_ _ _ _

def execTlmLaneDark_foot : Nat := 0x700000000010000000000000000000000000000000000000000000000000000000000000000000000000000003008000000000000000000000000000000000000000000000120100
theorem execTlmLaneDark_frame (hm : Sub execTlmLaneDark_foot m) (h : Frame m s0 s) :
    ∀ a0, ∃ t, execTlmLaneDark a0 s = .next t ∧ Frame m s0 t := by
  intro a0
  have s_tlmLaneDark : Sub tlmLaneDark_foot m := hm.of (by decide)
  unfold execTlmLaneDark
  refine hubOn_frame (fun s h => ?_) h
  repeat' first
    | with_reducible assumption
    | with_reducible refine Frame.ite ?_ ?_
    | with_reducible refine tlmLaneDark_frame s_tlmLaneDark ?_ _

def execPhaseStale_foot : Nat := 0x10000000000000000000000000000000000000000000000000000000000000000000000000000003000000000000000000000000000000000000000000000000020100
theorem execPhaseStale_frame (hm : Sub execPhaseStale_foot m) (h : Frame m s0 s) :
    ∀ a0, ∃ t, execPhaseStale a0 s = .next t ∧ Frame m s0 t := by
  intro a0
  have s_phaseStale : Sub phaseStale_foot m := hm.of (by decide)
  unfold execPhaseStale
  refine hubOn_frame (fun s h => ?_) h
  repeat' first
    | with_reducible assumption
    | with_reducible refine Frame.ite ?_ ?_
    | with_reducible refine phaseStale_frame s_phaseStale ?_ _

def execPhaseFrozen_foot : Nat := 0x10000000000000000000000000000000000000000000000000000000000000000000000000000003000000000000000000000000000000000000000000000000020100
theorem execPhaseFrozen_frame (hm : Sub execPhaseFrozen_foot m) (h : Frame m s0 s) :
    ∀ a0, ∃ t, execPhaseFrozen a0 s = .next t ∧ Frame m s0 t := by
  intro a0
  have s_phaseFrozen : Sub phaseFrozen_foot m := hm.of (by decide)
  unfold execPhaseFrozen
  refine hubOn_frame (fun s h => ?_) h
  repeat' first
    | with_reducible assumption
    | with_reducible refine Frame.ite ?_ ?_
    | with_reducible refine phaseFrozen_frame s_phaseFrozen ?_ _

def execPhaseTempStale_foot : Nat := 0x10000000000000000000000000000000000000000000004000000000000000000000000000000008000000000000000000000000000000000000000000000000000100
theorem execPhaseTempStale_frame (hm : Sub execPhaseTempStale_foot m) (h : Frame m s0 s) :
    ∀ a0, ∃ t, execPhaseTempStale a0 s = .next t ∧ Frame m s0 t := by
  intro a0
  have s_phaseTempStale : Sub phaseTempStale_foot m := hm.of (by decide)
  unfold execPhaseTempStale
  refine hubOn_frame (fun s h => ?_) h
  repeat' first
    | with_reducible assumption
    | with_reducible refine Frame.ite ?_ ?_
    | with_reducible refine phaseTempStale_frame s_phaseTempStale ?_ _

end Sys2Proof.Machine
end

