-- ==== Sys2Proof/Laws/FrameNvmOps.lean ====
section
/-!
SUPPORT. Laws/FrameNvmOps.lean: the footprint of every function of Machine/NvmOps.lean, and that it writes nothing outside it.
-/
namespace Sys2Proof.Machine

set_option linter.all false

variable {m : Nat} {s0 s : State}

def State.setNvm_foot : Nat := 0x100000000
theorem State.setNvm_frame (hm : Sub State.setNvm_foot m) (h : Frame m s0 s) :
    ∀ a1, Frame m s0 (State.setNvm s a1) := by
  intro a1
  have c_nvm : m.testBit 32 = true := hm.bit 32 (by decide)
  unfold State.setNvm
  repeat' first
    | with_reducible assumption
    | (extract_lets -underBinder +onlyGivenNames x; have u : True := (by clear_value x; guard_hyp x :ₛ State; trivial); clear u; refine Frame.cut (m := m) (s0 := s0) (t := x) ?_ ?_; (on_goal 1 => subst x); (on_goal 2 => (intro hx; clear_value x)))
    | (extract_lets -underBinder +onlyGivenNames n; first | clear_value n | subst n)
    | with_reducible refine Frame.ite ?_ ?_
    | with_reducible exact Frame.set_nvm c_nvm (by with_reducible assumption)

def State.flashIssue_foot : Nat := 0x800000000000000000000000000000000000000000000000000000000000000000000000000000000000000000000000000000000000000000000000000000000000000080
theorem State.flashIssue_frame (hm : Sub State.flashIssue_foot m) (h : Frame m s0 s) :
    Frame m s0 (State.flashIssue s) := by
  have s_State_send : Sub State.send_foot m := hm.of (by decide)
  have k_NVM_STAT_busy : Has m NVM_STAT_busy := hm.has 17 3 rfl (by decide)
  unfold State.flashIssue
  repeat' first
    | with_reducible assumption
    | with_reducible refine Frame.ite ?_ ?_
    | with_reducible refine wr_frame (by with_reducible assumption) ?_ _ _
    | with_reducible refine State.send_frame s_State_send ?_ _
    | split

def State.flashAsk_foot : Nat := 0x800000000000000000000000000000000000000000000000000000000000000000000000000000000000000000000000000000000000000000000000000000000100000080
theorem State.flashAsk_frame (hm : Sub State.flashAsk_foot m) (h : Frame m s0 s) :
    ∀ a1, Frame m s0 (State.flashAsk s a1) := by
  intro a1
  have s_State_flashIssue : Sub State.flashIssue_foot m := hm.of (by decide)
  have s_State_setNvm : Sub State.setNvm_foot m := hm.of (by decide)
  unfold State.flashAsk
  repeat' first
    | with_reducible assumption
    | (extract_lets -underBinder +onlyGivenNames x; have u : True := (by clear_value x; guard_hyp x :ₛ State; trivial); clear u; refine Frame.cut (m := m) (s0 := s0) (t := x) ?_ ?_; (on_goal 1 => subst x); (on_goal 2 => (intro hx; clear_value x)))
    | (extract_lets -underBinder +onlyGivenNames n; first | clear_value n | subst n)
    | with_reducible refine Frame.ite ?_ ?_
    | with_reducible refine State.flashIssue_frame s_State_flashIssue ?_
    | with_reducible refine State.setNvm_frame s_State_setNvm ?_ _
    | split

def State.flashEraseN_foot : Nat := 0x800000000000000000000000000000000000000000000000000000000000000000000000000000000000000000000000000000000000000000000000000000000100000080
theorem State.flashEraseN_frame (hm : Sub State.flashEraseN_foot m) (h : Frame m s0 s) :
    ∀ a1 a2 a3 a4, Frame m s0 (State.flashEraseN s a1 a2 a3 a4) := by
  intro a1 a2 a3 a4
  have s_State_flashAsk : Sub State.flashAsk_foot m := hm.of (by decide)
  unfold State.flashEraseN
  repeat' first
    | with_reducible assumption
    | with_reducible refine Frame.ite ?_ ?_
    | with_reducible refine State.flashAsk_frame s_State_flashAsk ?_ _
    | with_reducible refine Frame.foldTo ?_ (fun s x hs => ?_)

def State.mirrorCapture_foot : Nat := 0x80800000000000000000000000000000000000000000000000000000000000000000000000000000000000000000000000000000000000000000000000000000000100000080
theorem State.mirrorCapture_frame (hm : Sub State.mirrorCapture_foot m) (h : Frame m s0 s) :
    ∀ a1, Frame m s0 (State.mirrorCapture s a1) := by
  intro a1
  have s_State_flashAsk : Sub State.flashAsk_foot m := hm.of (by decide)
  have s_State_setNvm : Sub State.setNvm_foot m := hm.of (by decide)
  have k_NVM_MIRROR_deferred : Has m NVM_MIRROR_deferred := hm.has 17 11 rfl (by decide)
  unfold State.mirrorCapture
  repeat' first
    | with_reducible assumption
    | (extract_lets -underBinder +onlyGivenNames x; have u : True := (by clear_value x; guard_hyp x :ₛ State; trivial); clear u; refine Frame.cut (m := m) (s0 := s0) (t := x) ?_ ?_; (on_goal 1 => subst x); (on_goal 2 => (intro hx; clear_value x)))
    | (extract_lets -underBinder +onlyGivenNames n; first | clear_value n | subst n)
    | with_reducible refine Frame.ite ?_ ?_
    | with_reducible refine wr_frame (by with_reducible assumption) ?_ _ _
    | with_reducible refine State.flashAsk_frame s_State_flashAsk ?_ _
    | with_reducible refine State.setNvm_frame s_State_setNvm ?_ _

def State.mirrorAsk_foot : Nat := 0x80800010000000000000000000000000000000000000000000000000000000000000000000000000000000000000000000000000000000000000000000000000000100000180
theorem State.mirrorAsk_frame (hm : Sub State.mirrorAsk_foot m) (h : Frame m s0 s) :
    ∀ a1, Frame m s0 (State.mirrorAsk s a1) := by
  intro a1
  have s_State_mirrorCapture : Sub State.mirrorCapture_foot m := hm.of (by decide)
  have s_State_setNvm : Sub State.setNvm_foot m := hm.of (by decide)
  have s_State_emit : Sub State.emit_foot m := hm.of (by decide)
  have k_NVM_MIRROR_deferred : Has m NVM_MIRROR_deferred := hm.has 17 11 rfl (by decide)
  unfold State.mirrorAsk
  repeat' first
    | with_reducible assumption
    | (extract_lets -underBinder +onlyGivenNames x; have u : True := (by clear_value x; guard_hyp x :ₛ State; trivial); clear u; refine Frame.cut (m := m) (s0 := s0) (t := x) ?_ ?_; (on_goal 1 => subst x); (on_goal 2 => (intro hx; clear_value x)))
    | (extract_lets -underBinder +onlyGivenNames n; first | clear_value n | subst n)
    | with_reducible refine Frame.ite ?_ ?_
    | with_reducible refine wr_frame (by with_reducible assumption) ?_ _ _
    | with_reducible refine State.mirrorCapture_frame s_State_mirrorCapture ?_ _
    | with_reducible refine State.setNvm_frame s_State_setNvm ?_ _
    | with_reducible refine State.emit_frame s_State_emit ?_ _ _ _
    | split

def State.mirrorCause_foot : Nat := 0x80800010000000000000000000000000000000000000000000000000000000000000000000000000000000000000000000000000000000000000000000000000000100000180
theorem State.mirrorCause_frame (hm : Sub State.mirrorCause_foot m) (h : Frame m s0 s) :
    ∀ a1, Frame m s0 (State.mirrorCause s a1) := by
  intro a1
  have s_State_mirrorAsk : Sub State.mirrorAsk_foot m := hm.of (by decide)
  have s_State_setNvm : Sub State.setNvm_foot m := hm.of (by decide)
  unfold State.mirrorCause
  repeat' first
    | with_reducible assumption
    | (extract_lets -underBinder +onlyGivenNames x; have u : True := (by clear_value x; guard_hyp x :ₛ State; trivial); clear u; refine Frame.cut (m := m) (s0 := s0) (t := x) ?_ ?_; (on_goal 1 => subst x); (on_goal 2 => (intro hx; clear_value x)))
    | (extract_lets -underBinder +onlyGivenNames n; first | clear_value n | subst n)
    | with_reducible refine Frame.ite ?_ ?_
    | with_reducible refine State.mirrorAsk_frame s_State_mirrorAsk ?_ _
    | with_reducible refine State.setNvm_frame s_State_setNvm ?_ _
    | split

end Sys2Proof.Machine
end

