-- ==== Sys2Proof/Laws/FrameShared.lean ====
section
/-!
SUPPORT. Laws/FrameShared.lean: the footprint of every function of Machine/Shared.lean, and that it writes nothing outside it.
-/
namespace Sys2Proof.Machine

set_option linter.all false

variable {m : Nat} {s0 s : State}

def State.readyNegate_foot : Nat := 0x10000000000000000000000000000000000000000000000000000000000000000000000018000000000000000000000000000000000000000000000000000001001100
theorem State.readyNegate_frame (hm : Sub State.readyNegate_foot m) (h : Frame m s0 s) :
    ∀ a1, Frame m s0 (State.readyNegate s a1) := by
  intro a1
  have s_State_chokerLost : Sub State.chokerLost_foot m := hm.of (by decide)
  have s_State_emit : Sub State.emit_foot m := hm.of (by decide)
  have c_pins : m.testBit 24 = true := hm.bit 24 (by decide)
  unfold State.readyNegate
  repeat' first
    | with_reducible assumption
    | (extract_lets -underBinder +onlyGivenNames x; have u : True := (by clear_value x; guard_hyp x :ₛ State; trivial); clear u; refine Frame.cut (m := m) (s0 := s0) (t := x) ?_ ?_; (on_goal 1 => subst x); (on_goal 2 => (intro hx; clear_value x)))
    | (extract_lets -underBinder +onlyGivenNames n; first | clear_value n | subst n)
    | with_reducible refine Frame.ite ?_ ?_
    | with_reducible refine State.chokerLost_frame s_State_chokerLost ?_ _
    | with_reducible refine State.emit_frame s_State_emit ?_ _ _ _
    | with_reducible exact Frame.set_pins c_pins (by with_reducible assumption)
    | with_reducible refine Frame.foldTo ?_ (fun s x hs => ?_)
    | split

def State.coreFaultStage_foot : Nat := 0x10000000000000000000000000000000000000000000000000000000000000000000000018000000000000000000000000000000030000000000000000000001001100
theorem State.coreFaultStage_frame (hm : Sub State.coreFaultStage_foot m) (h : Frame m s0 s) :
    Frame m s0 (State.coreFaultStage s) := by
  have s_State_readyNegate : Sub State.readyNegate_foot m := hm.of (by decide)
  have k_RST_SEQ_cause : Has m RST_SEQ_cause := hm.has 2 9 rfl (by decide)
  have k_RST_SEQ_stage : Has m RST_SEQ_stage := hm.has 2 8 rfl (by decide)
  unfold State.coreFaultStage
  repeat' first
    | with_reducible assumption
    | (extract_lets -underBinder +onlyGivenNames x; have u : True := (by clear_value x; guard_hyp x :ₛ State; trivial); clear u; refine Frame.cut (m := m) (s0 := s0) (t := x) ?_ ?_; (on_goal 1 => subst x); (on_goal 2 => (intro hx; clear_value x)))
    | (extract_lets -underBinder +onlyGivenNames n; first | clear_value n | subst n)
    | with_reducible refine Frame.ite ?_ ?_
    | with_reducible refine wr_frame (by with_reducible assumption) ?_ _ _
    | with_reducible refine State.readyNegate_frame s_State_readyNegate ?_ _
    | split

def State.latchStage_foot : Nat := 0x10000000000000000000000000000000000000000000000000000000000000000000000018000000000000000000000000000000030000000000000000000001001100
theorem State.latchStage_frame (hm : Sub State.latchStage_foot m) (h : Frame m s0 s) :
    ∀ a1, Frame m s0 (State.latchStage s a1) := by
  intro a1
  have s_State_readyNegate : Sub State.readyNegate_foot m := hm.of (by decide)
  have k_RST_SEQ_cause : Has m RST_SEQ_cause := hm.has 2 9 rfl (by decide)
  have k_RST_SEQ_stage : Has m RST_SEQ_stage := hm.has 2 8 rfl (by decide)
  unfold State.latchStage
  repeat' first
    | with_reducible assumption
    | with_reducible refine Frame.ite ?_ ?_
    | with_reducible refine wr_frame (by with_reducible assumption) ?_ _ _
    | with_reducible refine State.readyNegate_frame s_State_readyNegate ?_ _

end Sys2Proof.Machine
end

