-- ==== Sys2Proof/Laws/FrameRegulator.lean ====
section
/-!
SUPPORT. Laws/FrameRegulator.lean: the footprint of every function of Machine/Regulator.lean, and that it writes nothing outside it.
-/
namespace Sys2Proof.Machine

set_option linter.all false

variable {m : Nat} {s0 s : State}

def State.vrcBoundary_foot : Nat := 0x10000000000000000000000000000000000000000000000000000000000000000000000000000000000000000000000000000000000000000000000000000002000100
theorem State.vrcBoundary_frame (hm : Sub State.vrcBoundary_foot m) (h : Frame m s0 s) :
    Frame m s0 (State.vrcBoundary s) := by
  have s_State_emitLim : Sub State.emitLim_foot m := hm.of (by decide)
  have c_vrc : m.testBit 25 = true := hm.bit 25 (by decide)
  unfold State.vrcBoundary
  repeat' first
    | with_reducible assumption
    | (extract_lets -underBinder +onlyGivenNames x; have u : True := (by clear_value x; guard_hyp x :ₛ State; trivial); clear u; refine Frame.cut (m := m) (s0 := s0) (t := x) ?_ ?_; (on_goal 1 => subst x); (on_goal 2 => (intro hx; clear_value x)))
    | (extract_lets -underBinder +onlyGivenNames n; first | clear_value n | subst n)
    | with_reducible refine Frame.ite ?_ ?_
    | with_reducible refine State.emitLim_frame s_State_emitLim ?_ _ _ _ _ _
    | with_reducible exact Frame.set_vrc c_vrc (by with_reducible assumption)
    | split

def State.showDe_foot : Nat := 0x40000000000000000000000000000000000000000000000000000000000000000
theorem State.showDe_frame (hm : Sub State.showDe_foot m) (h : Frame m s0 s) :
    Frame m s0 (State.showDe s) := by
  have k_VRC_STAT_de : Has m VRC_STAT_de := hm.has 9 8 rfl (by decide)
  unfold State.showDe
  repeat' first
    | with_reducible assumption
    | with_reducible refine Frame.ite ?_ ?_
    | with_reducible refine wr_frame (by with_reducible assumption) ?_ _ _

def State.setDe_foot : Nat := 0x40000000000000000000000000000000000000000000000000000000002000000
theorem State.setDe_frame (hm : Sub State.setDe_foot m) (h : Frame m s0 s) :
    ∀ a1, Frame m s0 (State.setDe s a1) := by
  intro a1
  have s_State_showDe : Sub State.showDe_foot m := hm.of (by decide)
  have c_vrc : m.testBit 25 = true := hm.bit 25 (by decide)
  unfold State.setDe
  repeat' first
    | with_reducible assumption
    | (extract_lets -underBinder +onlyGivenNames x; have u : True := (by clear_value x; guard_hyp x :ₛ State; trivial); clear u; refine Frame.cut (m := m) (s0 := s0) (t := x) ?_ ?_; (on_goal 1 => subst x); (on_goal 2 => (intro hx; clear_value x)))
    | (extract_lets -underBinder +onlyGivenNames n; first | clear_value n | subst n)
    | with_reducible refine Frame.ite ?_ ?_
    | with_reducible refine State.showDe_frame s_State_showDe ?_
    | with_reducible exact Frame.set_vrc c_vrc (by with_reducible assumption)

def State.deTrack_foot : Nat := 0x40000000000000000000000000000000000000000000000000000000002000000
theorem State.deTrack_frame (hm : Sub State.deTrack_foot m) (h : Frame m s0 s) :
    Frame m s0 (State.deTrack s) := by
  have s_State_setDe : Sub State.setDe_foot m := hm.of (by decide)
  have c_vrc : m.testBit 25 = true := hm.bit 25 (by decide)
  unfold State.deTrack
  repeat' first
    | with_reducible assumption
    | (extract_lets -underBinder +onlyGivenNames x; have u : True := (by clear_value x; guard_hyp x :ₛ State; trivial); clear u; refine Frame.cut (m := m) (s0 := s0) (t := x) ?_ ?_; (on_goal 1 => subst x); (on_goal 2 => (intro hx; clear_value x)))
    | (extract_lets -underBinder +onlyGivenNames n; first | clear_value n | subst n)
    | with_reducible refine Frame.ite ?_ ?_
    | with_reducible refine State.setDe_frame s_State_setDe ?_ _
    | with_reducible exact Frame.set_vrc c_vrc (by with_reducible assumption)
    | split

def State.peakTick_foot : Nat := 0x10000000000000000000000000000000000000000000000000000000000000180000300000000000000000000000000000000000000000000000000000000002080100
theorem State.peakTick_frame (hm : Sub State.peakTick_foot m) (h : Frame m s0 s) :
    Frame m s0 (State.peakTick s) := by
  have s_State_publish : Sub State.publish_foot m := hm.of (by decide)
  have s_State_emit : Sub State.emit_foot m := hm.of (by decide)
  have s_State_seedSp : Sub State.seedSp_foot m := hm.of (by decide)
  have k_VRC_OCP_STAT_avail : Has m VRC_OCP_STAT_avail := hm.has 9 34 rfl (by decide)
  have k_VRC_OCP_STAT_peak : Has m VRC_OCP_STAT_peak := hm.has 9 33 rfl (by decide)
  have k_VRC_STAT_exc : Has m VRC_STAT_exc := hm.has 9 10 rfl (by decide)
  have k_VRC_STAT_peak_spent : Has m VRC_STAT_peak_spent := hm.has 9 11 rfl (by decide)
  have c_vrc : m.testBit 25 = true := hm.bit 25 (by decide)
  unfold State.peakTick
  repeat' first
    | with_reducible assumption
    | (extract_lets -underBinder +onlyGivenNames x; have u : True := (by clear_value x; guard_hyp x :ₛ State; trivial); clear u; refine Frame.cut (m := m) (s0 := s0) (t := x) ?_ ?_; (on_goal 1 => subst x); (on_goal 2 => (intro hx; clear_value x)))
    | (extract_lets -underBinder +onlyGivenNames n; first | clear_value n | subst n)
    | with_reducible refine Frame.ite ?_ ?_
    | with_reducible refine wr_frame (by with_reducible assumption) ?_ _ _
    | with_reducible refine State.publish_frame s_State_publish ?_ _ _ _ _
    | with_reducible refine State.emit_frame s_State_emit ?_ _ _ _
    | with_reducible refine State.seedSp_frame s_State_seedSp ?_ _ _
    | with_reducible exact Frame.set_vrc c_vrc (by with_reducible assumption)
    | split

def State.moveEdges_foot : Nat := 0x4000000000000000000000000000000000000000000000000000000000000000000002040000
theorem State.moveEdges_frame (hm : Sub State.moveEdges_foot m) (h : Frame m s0 s) :
    Frame m s0 (State.moveEdges s) := by
  have s_State_setVph : Sub State.setVph_foot m := hm.of (by decide)
  have k_VRC_PH_STAT_ton : Has m VRC_PH_STAT_ton := hm.has 9 52 rfl (by decide)
  have c_fcs : m.testBit 18 = true := hm.bit 18 (by decide)
  unfold State.moveEdges
  repeat' first
    | with_reducible assumption
    | (extract_lets -underBinder +onlyGivenNames x; have u : True := (by clear_value x; guard_hyp x :ₛ State; trivial); clear u; refine Frame.cut (m := m) (s0 := s0) (t := x) ?_ ?_; (on_goal 1 => subst x); (on_goal 2 => (intro hx; clear_value x)))
    | (extract_lets -underBinder +onlyGivenNames n; first | clear_value n | subst n)
    | with_reducible refine Frame.ite ?_ ?_
    | with_reducible refine wr_frame (by with_reducible assumption) ?_ _ _
    | with_reducible refine State.setVph_frame s_State_setVph ?_ _ _
    | with_reducible exact Frame.set_fcs c_fcs (by with_reducible assumption)
    | with_reducible refine Frame.foldl ?_ (fun s x hs => ?_)
    | split

def State.lastFault_foot : Nat := 0x80000000000000000000000000000000000000000000000000000000000000000000002000000
theorem State.lastFault_frame (hm : Sub State.lastFault_foot m) (h : Frame m s0 s) :
    ∀ a1 a2 a3, Frame m s0 (State.lastFault s a1 a2 a3) := by
  intro a1 a2 a3
  have k_VRC_LASTF : Has m VRC_LASTF := hm.has 9 57 rfl (by decide)
  have c_vrc : m.testBit 25 = true := hm.bit 25 (by decide)
  unfold State.lastFault
  repeat' first
    | with_reducible assumption
    | (extract_lets -underBinder +onlyGivenNames x; have u : True := (by clear_value x; guard_hyp x :ₛ State; trivial); clear u; refine Frame.cut (m := m) (s0 := s0) (t := x) ?_ ?_; (on_goal 1 => subst x); (on_goal 2 => (intro hx; clear_value x)))
    | (extract_lets -underBinder +onlyGivenNames n; first | clear_value n | subst n)
    | with_reducible refine Frame.ite ?_ ?_
    | with_reducible refine wr_frame (by with_reducible assumption) ?_ _ _
    | with_reducible exact Frame.set_vrc c_vrc (by with_reducible assumption)

def State.noDe_foot : Nat := 0x40000000000000000000000000000000000000000000000000000000002000000
theorem State.noDe_frame (hm : Sub State.noDe_foot m) (h : Frame m s0 s) :
    Frame m s0 (State.noDe s) := by
  have s_State_showDe : Sub State.showDe_foot m := hm.of (by decide)
  have c_vrc : m.testBit 25 = true := hm.bit 25 (by decide)
  unfold State.noDe
  repeat' first
    | with_reducible assumption
    | (extract_lets -underBinder +onlyGivenNames x; have u : True := (by clear_value x; guard_hyp x :ₛ State; trivial); clear u; refine Frame.cut (m := m) (s0 := s0) (t := x) ?_ ?_; (on_goal 1 => subst x); (on_goal 2 => (intro hx; clear_value x)))
    | (extract_lets -underBinder +onlyGivenNames n; first | clear_value n | subst n)
    | with_reducible refine Frame.ite ?_ ?_
    | with_reducible refine State.showDe_frame s_State_showDe ?_
    | with_reducible exact Frame.set_vrc c_vrc (by with_reducible assumption)

def State.lastFaultCode_foot : Nat := 0x80000000000000000000000000000000000000000000000000000000000000000000000000000
theorem State.lastFaultCode_frame (hm : Sub State.lastFaultCode_foot m) (h : Frame m s0 s) :
    ∀ a1 a2, Frame m s0 (State.lastFaultCode s a1 a2) := by
  intro a1 a2
  have k_VRC_LASTF : Has m VRC_LASTF := hm.has 9 57 rfl (by decide)
  unfold State.lastFaultCode
  repeat' first
    | with_reducible assumption
    | (extract_lets -underBinder +onlyGivenNames x; have u : True := (by clear_value x; guard_hyp x :ₛ State; trivial); clear u; refine Frame.cut (m := m) (s0 := s0) (t := x) ?_ ?_; (on_goal 1 => subst x); (on_goal 2 => (intro hx; clear_value x)))
    | (extract_lets -underBinder +onlyGivenNames n; first | clear_value n | subst n)
    | with_reducible refine Frame.ite ?_ ?_
    | with_reducible refine wr_frame (by with_reducible assumption) ?_ _ _

def State.pwmToMid_foot : Nat := 0x2000000
theorem State.pwmToMid_frame (hm : Sub State.pwmToMid_foot m) (h : Frame m s0 s) :
    Frame m s0 (State.pwmToMid s) := by
  have c_vrc : m.testBit 25 = true := hm.bit 25 (by decide)
  unfold State.pwmToMid
  repeat' first
    | with_reducible assumption
    | (extract_lets -underBinder +onlyGivenNames x; have u : True := (by clear_value x; guard_hyp x :ₛ State; trivial); clear u; refine Frame.cut (m := m) (s0 := s0) (t := x) ?_ ?_; (on_goal 1 => subst x); (on_goal 2 => (intro hx; clear_value x)))
    | (extract_lets -underBinder +onlyGivenNames n; first | clear_value n | subst n)
    | with_reducible refine Frame.ite ?_ ?_
    | with_reducible exact Frame.set_vrc c_vrc (by with_reducible assumption)

def State.faultCause_foot : Nat := 0x80800010000000000000000000000000000000000000000000000000000000000000000000000018000000000000000000000000000000030000000000000000000101001180
theorem State.faultCause_frame (hm : Sub State.faultCause_foot m) (h : Frame m s0 s) :
    ∀ a1, Frame m s0 (State.faultCause s a1) := by
  intro a1
  have s_State_coreFaultStage : Sub State.coreFaultStage_foot m := hm.of (by decide)
  have s_State_mirrorCause : Sub State.mirrorCause_foot m := hm.of (by decide)
  unfold State.faultCause
  repeat' first
    | with_reducible assumption
    | with_reducible refine Frame.ite ?_ ?_
    | with_reducible refine State.coreFaultStage_frame s_State_coreFaultStage ?_
    | with_reducible refine State.mirrorCause_frame s_State_mirrorCause ?_ _
    | split

def State.railOffFault_foot : Nat := 0x100000000000000000000000000000808000100000000000000000000000000000000000000000000000000000000800000000008600180000000000000000000000000000000300000000000000000001a3001180
theorem State.railOffFault_frame (hm : Sub State.railOffFault_foot m) (h : Frame m s0 s) :
    ∀ a1 a2, Frame m s0 (State.railOffFault s a1 a2) := by
  intro a1 a2
  have s_State_handover : Sub State.handover_foot m := hm.of (by decide)
  have s_State_lastFault : Sub State.lastFault_foot m := hm.of (by decide)
  have s_State_noDe : Sub State.noDe_foot m := hm.of (by decide)
  have s_State_lastFaultCode : Sub State.lastFaultCode_foot m := hm.of (by decide)
  have s_State_pwmToMid : Sub State.pwmToMid_foot m := hm.of (by decide)
  have s_State_faultCause : Sub State.faultCause_foot m := hm.of (by decide)
  have s_State_emit : Sub State.emit_foot m := hm.of (by decide)
  have k_VRC_STAT_fault : Has m VRC_STAT_fault := hm.has 9 13 rfl (by decide)
  have k_VRC_STAT_state : Has m VRC_STAT_state := hm.has 9 7 rfl (by decide)
  unfold State.railOffFault
  repeat' first
    | with_reducible assumption
    | (extract_lets -underBinder +onlyGivenNames x; have u : True := (by clear_value x; guard_hyp x :ₛ State; trivial); clear u; refine Frame.cut (m := m) (s0 := s0) (t := x) ?_ ?_; (on_goal 1 => subst x); (on_goal 2 => (intro hx; clear_value x)))
    | (extract_lets -underBinder +onlyGivenNames n; first | clear_value n | subst n)
    | with_reducible refine Frame.ite ?_ ?_
    | with_reducible refine wr_frame (by with_reducible assumption) ?_ _ _
    | with_reducible refine State.handover_frame s_State_handover ?_ _
    | with_reducible refine State.lastFault_frame s_State_lastFault ?_ _ _ _
    | with_reducible refine State.noDe_frame s_State_noDe ?_
    | with_reducible refine State.lastFaultCode_frame s_State_lastFaultCode ?_ _ _
    | with_reducible refine State.pwmToMid_frame s_State_pwmToMid ?_
    | with_reducible refine State.faultCause_frame s_State_faultCause ?_ _
    | with_reducible refine State.emit_frame s_State_emit ?_ _ _ _
    | split

def State.checkReached_foot : Nat := 0x20000000000000000000000000000000000000000000000000000000002000000
theorem State.checkReached_frame (hm : Sub State.checkReached_foot m) (h : Frame m s0 s) :
    Frame m s0 (State.checkReached s) := by
  have s_State_pwmToMid : Sub State.pwmToMid_foot m := hm.of (by decide)
  have k_VRC_STAT_state : Has m VRC_STAT_state := hm.has 9 7 rfl (by decide)
  have c_vrc : m.testBit 25 = true := hm.bit 25 (by decide)
  unfold State.checkReached
  repeat' first
    | with_reducible assumption
    | (extract_lets -underBinder +onlyGivenNames x; have u : True := (by clear_value x; guard_hyp x :ₛ State; trivial); clear u; refine Frame.cut (m := m) (s0 := s0) (t := x) ?_ ?_; (on_goal 1 => subst x); (on_goal 2 => (intro hx; clear_value x)))
    | (extract_lets -underBinder +onlyGivenNames n; first | clear_value n | subst n)
    | with_reducible refine Frame.ite ?_ ?_
    | with_reducible refine wr_frame (by with_reducible assumption) ?_ _ _
    | with_reducible refine State.pwmToMid_frame s_State_pwmToMid ?_
    | with_reducible exact Frame.set_vrc c_vrc (by with_reducible assumption)
    | split

def State.vrcStop_foot : Nat := 0x60000000000000000000000000000000000000000000000000000000002000000
theorem State.vrcStop_frame (hm : Sub State.vrcStop_foot m) (h : Frame m s0 s) :
    Frame m s0 (State.vrcStop s) := by
  have s_State_noDe : Sub State.noDe_foot m := hm.of (by decide)
  have s_State_checkReached : Sub State.checkReached_foot m := hm.of (by decide)
  have k_VRC_STAT_state : Has m VRC_STAT_state := hm.has 9 7 rfl (by decide)
  have c_vrc : m.testBit 25 = true := hm.bit 25 (by decide)
  unfold State.vrcStop
  repeat' first
    | with_reducible assumption
    | (extract_lets -underBinder +onlyGivenNames x; have u : True := (by clear_value x; guard_hyp x :ₛ State; trivial); clear u; refine Frame.cut (m := m) (s0 := s0) (t := x) ?_ ?_; (on_goal 1 => subst x); (on_goal 2 => (intro hx; clear_value x)))
    | (extract_lets -underBinder +onlyGivenNames n; first | clear_value n | subst n)
    | with_reducible refine Frame.ite ?_ ?_
    | with_reducible refine wr_frame (by with_reducible assumption) ?_ _ _
    | with_reducible refine State.noDe_frame s_State_noDe ?_
    | with_reducible refine State.checkReached_frame s_State_checkReached ?_
    | with_reducible exact Frame.set_vrc c_vrc (by with_reducible assumption)
    | split

def State.trackEnd_foot : Nat := 0x10000000000000000000000000000000000000000000000000000000000000000000000000000000000000000000000000000000000000000000000000000002000100
theorem State.trackEnd_frame (hm : Sub State.trackEnd_foot m) (h : Frame m s0 s) :
    Frame m s0 (State.trackEnd s) := by
  have s_State_emit : Sub State.emit_foot m := hm.of (by decide)
  have c_vrc : m.testBit 25 = true := hm.bit 25 (by decide)
  unfold State.trackEnd
  repeat' first
    | with_reducible assumption
    | (extract_lets -underBinder +onlyGivenNames x; have u : True := (by clear_value x; guard_hyp x :ₛ State; trivial); clear u; refine Frame.cut (m := m) (s0 := s0) (t := x) ?_ ?_; (on_goal 1 => subst x); (on_goal 2 => (intro hx; clear_value x)))
    | (extract_lets -underBinder +onlyGivenNames n; first | clear_value n | subst n)
    | with_reducible refine Frame.ite ?_ ?_
    | with_reducible refine State.emit_frame s_State_emit ?_ _ _ _
    | with_reducible exact Frame.set_vrc c_vrc (by with_reducible assumption)
    | split

def State.vrcStart_foot : Nat := 0x4060000000000000000000000000000000000000000000000000000000002000000
theorem State.vrcStart_frame (hm : Sub State.vrcStart_foot m) (h : Frame m s0 s) :
    Frame m s0 (State.vrcStart s) := by
  have s_State_checkReached : Sub State.checkReached_foot m := hm.of (by decide)
  have s_State_showDe : Sub State.showDe_foot m := hm.of (by decide)
  have k_VRC_STAT_state : Has m VRC_STAT_state := hm.has 9 7 rfl (by decide)
  have k_VRC_VREF_vref : Has m VRC_VREF_vref := hm.has 9 16 rfl (by decide)
  have c_vrc : m.testBit 25 = true := hm.bit 25 (by decide)
  unfold State.vrcStart
  repeat' first
    | with_reducible assumption
    | (extract_lets -underBinder +onlyGivenNames x; have u : True := (by clear_value x; guard_hyp x :ₛ State; trivial); clear u; refine Frame.cut (m := m) (s0 := s0) (t := x) ?_ ?_; (on_goal 1 => subst x); (on_goal 2 => (intro hx; clear_value x)))
    | (extract_lets -underBinder +onlyGivenNames n; first | clear_value n | subst n)
    | with_reducible refine Frame.ite ?_ ?_
    | with_reducible refine wr_frame (by with_reducible assumption) ?_ _ _
    | with_reducible refine State.checkReached_frame s_State_checkReached ?_
    | with_reducible refine State.showDe_frame s_State_showDe ?_
    | with_reducible exact Frame.set_vrc c_vrc (by with_reducible assumption)

def trackDelivery_foot : Nat := 0x2000000
theorem trackDelivery_frame (hm : Sub trackDelivery_foot m) (h : Frame m s0 s) :
    ∀ a0, Frame m s0 (trackDelivery a0 s) := by
  intro a0
  have c_vrc : m.testBit 25 = true := hm.bit 25 (by decide)
  unfold trackDelivery
  repeat' first
    | with_reducible assumption
    | (extract_lets -underBinder +onlyGivenNames x; have u : True := (by clear_value x; guard_hyp x :ₛ State; trivial); clear u; refine Frame.cut (m := m) (s0 := s0) (t := x) ?_ ?_; (on_goal 1 => subst x); (on_goal 2 => (intro hx; clear_value x)))
    | (extract_lets -underBinder +onlyGivenNames n; first | clear_value n | subst n)
    | with_reducible refine Frame.ite ?_ ?_
    | with_reducible exact Frame.set_vrc c_vrc (by with_reducible assumption)
    | split

def State.pidLaw_foot : Nat := 0x80000000000000000000000000000000000000000000000000000000002000000
theorem State.pidLaw_frame (hm : Sub State.pidLaw_foot m) (h : Frame m s0 s) :
    ∀ a1, Frame m s0 (State.pidLaw s a1) := by
  intro a1
  have k_VRC_STAT_climit : Has m VRC_STAT_climit := hm.has 9 9 rfl (by decide)
  have c_vrc : m.testBit 25 = true := hm.bit 25 (by decide)
  unfold State.pidLaw
  repeat' first
    | with_reducible assumption
    | (extract_lets -underBinder +onlyGivenNames x; have u : True := (by clear_value x; guard_hyp x :ₛ State; trivial); clear u; refine Frame.cut (m := m) (s0 := s0) (t := x) ?_ ?_; (on_goal 1 => subst x); (on_goal 2 => (intro hx; clear_value x)))
    | (extract_lets -underBinder +onlyGivenNames n; first | clear_value n | subst n)
    | with_reducible refine Frame.ite ?_ ?_
    | with_reducible refine wr_frame (by with_reducible assumption) ?_ _ _
    | with_reducible exact Frame.set_vrc c_vrc (by with_reducible assumption)
    | split

def State.uvTrack_foot : Nat := 0x2000000
theorem State.uvTrack_frame (hm : Sub State.uvTrack_foot m) (h : Frame m s0 s) :
    ∀ a1, Frame m s0 (State.uvTrack s a1) := by
  intro a1
  have c_vrc : m.testBit 25 = true := hm.bit 25 (by decide)
  unfold State.uvTrack
  repeat' first
    | with_reducible assumption
    | (extract_lets -underBinder +onlyGivenNames x; have u : True := (by clear_value x; guard_hyp x :ₛ State; trivial); clear u; refine Frame.cut (m := m) (s0 := s0) (t := x) ?_ ?_; (on_goal 1 => subst x); (on_goal 2 => (intro hx; clear_value x)))
    | (extract_lets -underBinder +onlyGivenNames n; first | clear_value n | subst n)
    | with_reducible refine Frame.ite ?_ ?_
    | with_reducible exact Frame.set_vrc c_vrc (by with_reducible assumption)
    | split

def pidSample_foot : Nat := 0x80c0000000000000000000000000000000000000000000000000000000002820000
theorem pidSample_frame (hm : Sub pidSample_foot m) (h : Frame m s0 s) :
    ∀ a0, Frame m s0 (pidSample a0 s) := by
  intro a0
  have s_State_pidLaw : Sub State.pidLaw_foot m := hm.of (by decide)
  have s_State_deTrack : Sub State.deTrack_foot m := hm.of (by decide)
  have s_State_dvfsReach : Sub State.dvfsReach_foot m := hm.of (by decide)
  have s_State_uvTrack : Sub State.uvTrack_foot m := hm.of (by decide)
  have k_VRC_VSENSE_vsense : Has m VRC_VSENSE_vsense := hm.has 9 17 rfl (by decide)
  have c_sns : m.testBit 17 = true := hm.bit 17 (by decide)
  unfold pidSample
  repeat' first
    | with_reducible assumption
    | (extract_lets -underBinder +onlyGivenNames x; have u : True := (by clear_value x; guard_hyp x :ₛ State; trivial); clear u; refine Frame.cut (m := m) (s0 := s0) (t := x) ?_ ?_; (on_goal 1 => subst x); (on_goal 2 => (intro hx; clear_value x)))
    | (extract_lets -underBinder +onlyGivenNames n; first | clear_value n | subst n)
    | with_reducible refine Frame.ite ?_ ?_
    | with_reducible refine wr_frame (by with_reducible assumption) ?_ _ _
    | with_reducible refine State.pidLaw_frame s_State_pidLaw ?_ _
    | with_reducible refine State.deTrack_frame s_State_deTrack ?_
    | with_reducible refine State.dvfsReach_frame s_State_dvfsReach ?_
    | with_reducible refine State.uvTrack_frame s_State_uvTrack ?_ _
    | with_reducible exact Frame.set_sns c_sns (by with_reducible assumption)
    | split

def vrefRampStep_foot : Nat := 0x1000000000000000000000000000000000000000000000000000000000000000000406000030000000000000000000000000000000002c000000000000000002800100
theorem vrefRampStep_frame (hm : Sub vrefRampStep_foot m) (h : Frame m s0 s) :
    Frame m s0 (vrefRampStep s) := by
  have s_State_dvfsSettle : Sub State.dvfsSettle_foot m := hm.of (by decide)
  have s_State_checkReached : Sub State.checkReached_foot m := hm.of (by decide)
  have s_State_showDe : Sub State.showDe_foot m := hm.of (by decide)
  have k_VRC_VREF_vref : Has m VRC_VREF_vref := hm.has 9 16 rfl (by decide)
  have c_dvfs : m.testBit 23 = true := hm.bit 23 (by decide)
  have c_vrc : m.testBit 25 = true := hm.bit 25 (by decide)
  unfold vrefRampStep
  repeat' first
    | with_reducible assumption
    | (extract_lets -underBinder +onlyGivenNames x; have u : True := (by clear_value x; guard_hyp x :ₛ State; trivial); clear u; refine Frame.cut (m := m) (s0 := s0) (t := x) ?_ ?_; (on_goal 1 => subst x); (on_goal 2 => (intro hx; clear_value x)))
    | (extract_lets -underBinder +onlyGivenNames n; first | clear_value n | subst n)
    | with_reducible refine Frame.ite ?_ ?_
    | with_reducible refine wr_frame (by with_reducible assumption) ?_ _ _
    | with_reducible refine State.dvfsSettle_frame s_State_dvfsSettle ?_
    | with_reducible refine State.checkReached_frame s_State_checkReached ?_
    | with_reducible refine State.showDe_frame s_State_showDe ?_
    | with_reducible exact Frame.set_dvfs_vrc c_dvfs c_vrc (by with_reducible assumption)
    | split

def State.enablesLow_foot : Nat := 0x2000000
theorem State.enablesLow_frame (hm : Sub State.enablesLow_foot m) (h : Frame m s0 s) :
    Frame m s0 (State.enablesLow s) := by
  have c_vrc : m.testBit 25 = true := hm.bit 25 (by decide)
  unfold State.enablesLow
  repeat' first
    | with_reducible assumption
    | (extract_lets -underBinder +onlyGivenNames x; have u : True := (by clear_value x; guard_hyp x :ₛ State; trivial); clear u; refine Frame.cut (m := m) (s0 := s0) (t := x) ?_ ?_; (on_goal 1 => subst x); (on_goal 2 => (intro hx; clear_value x)))
    | (extract_lets -underBinder +onlyGivenNames n; first | clear_value n | subst n)
    | with_reducible refine Frame.ite ?_ ?_
    | with_reducible exact Frame.set_vrc c_vrc (by with_reducible assumption)

def enableDrop_foot : Nat := 0x4020000000000000000000000000000000000000000000000000000000002000000
theorem enableDrop_frame (hm : Sub enableDrop_foot m) (h : Frame m s0 s) :
    Frame m s0 (enableDrop s) := by
  have s_State_enablesLow : Sub State.enablesLow_foot m := hm.of (by decide)
  have k_VRC_STAT_state : Has m VRC_STAT_state := hm.has 9 7 rfl (by decide)
  have k_VRC_VREF_vref : Has m VRC_VREF_vref := hm.has 9 16 rfl (by decide)
  unfold enableDrop
  repeat' first
    | with_reducible assumption
    | (extract_lets -underBinder +onlyGivenNames x; have u : True := (by clear_value x; guard_hyp x :ₛ State; trivial); clear u; refine Frame.cut (m := m) (s0 := s0) (t := x) ?_ ?_; (on_goal 1 => subst x); (on_goal 2 => (intro hx; clear_value x)))
    | (extract_lets -underBinder +onlyGivenNames n; first | clear_value n | subst n)
    | with_reducible refine Frame.ite ?_ ?_
    | with_reducible refine wr_frame (by with_reducible assumption) ?_ _ _
    | with_reducible refine State.enablesLow_frame s_State_enablesLow ?_
    | split

def State.shedPhase_foot : Nat := 0x10000000000000000000000000000000000000000000000000000000012000000000000000000000000000000000000000000000000000000000000000000002000100
theorem State.shedPhase_frame (hm : Sub State.shedPhase_foot m) (h : Frame m s0 s) :
    ∀ a1, Frame m s0 (State.shedPhase s a1) := by
  intro a1
  have s_State_setVph : Sub State.setVph_foot m := hm.of (by decide)
  have s_State_emit : Sub State.emit_foot m := hm.of (by decide)
  have k_VRC_PH_SHED : Has m VRC_PH_SHED := hm.has 9 51 rfl (by decide)
  have k_VRC_PH_STAT_shed : Has m VRC_PH_STAT_shed := hm.has 9 54 rfl (by decide)
  unfold State.shedPhase
  repeat' first
    | with_reducible assumption
    | (extract_lets -underBinder +onlyGivenNames x; have u : True := (by clear_value x; guard_hyp x :ₛ State; trivial); clear u; refine Frame.cut (m := m) (s0 := s0) (t := x) ?_ ?_; (on_goal 1 => subst x); (on_goal 2 => (intro hx; clear_value x)))
    | (extract_lets -underBinder +onlyGivenNames n; first | clear_value n | subst n)
    | with_reducible refine Frame.ite ?_ ?_
    | with_reducible refine wr_frame (by with_reducible assumption) ?_ _ _
    | with_reducible refine State.setVph_frame s_State_setVph ?_ _ _
    | with_reducible refine State.emit_frame s_State_emit ?_ _ _ _

def pwmPeriodStart_foot : Nat := 0x10000000000000000000000000000080800010000000000000000000000000000000000000000000000000000000092000000000c600180000030000000000000000000000000300000000000000000001a3021180
theorem pwmPeriodStart_frame (hm : Sub pwmPeriodStart_foot m) (h : Frame m s0 s) :
    Frame m s0 (pwmPeriodStart s) := by
  have s_State_refreshPh : Sub State.refreshPh_foot m := hm.of (by decide)
  have s_State_setVph : Sub State.setVph_foot m := hm.of (by decide)
  have s_State_shedPhase : Sub State.shedPhase_foot m := hm.of (by decide)
  have s_State_railOffFault : Sub State.railOffFault_foot m := hm.of (by decide)
  have s_State_emit : Sub State.emit_foot m := hm.of (by decide)
  have k_VRC_PH_SHED : Has m VRC_PH_SHED := hm.has 9 51 rfl (by decide)
  have k_VRC_PH_STAT_shed : Has m VRC_PH_STAT_shed := hm.has 9 54 rfl (by decide)
  have k_VRC_STAT_n_en : Has m VRC_STAT_n_en := hm.has 9 12 rfl (by decide)
  have c_vrc : m.testBit 25 = true := hm.bit 25 (by decide)
  unfold pwmPeriodStart
  repeat' first
    | with_reducible assumption
    | (extract_lets -underBinder +onlyGivenNames x; have u : True := (by clear_value x; guard_hyp x :ₛ State; trivial); clear u; refine Frame.cut (m := m) (s0 := s0) (t := x) ?_ ?_; (on_goal 1 => subst x); (on_goal 2 => (intro hx; clear_value x)))
    | (extract_lets -underBinder +onlyGivenNames n; first | clear_value n | subst n)
    | with_reducible refine Frame.ite ?_ ?_
    | with_reducible refine wr_frame (by with_reducible assumption) ?_ _ _
    | with_reducible refine State.refreshPh_frame s_State_refreshPh ?_ _
    | with_reducible refine State.setVph_frame s_State_setVph ?_ _ _
    | with_reducible refine State.shedPhase_frame s_State_shedPhase ?_ _
    | with_reducible refine State.railOffFault_frame s_State_railOffFault ?_ _ _
    | with_reducible refine State.emit_frame s_State_emit ?_ _ _ _
    | with_reducible exact Frame.set_vrc c_vrc (by with_reducible assumption)
    | with_reducible refine Frame.foldl ?_ (fun s x hs => ?_)
    | with_reducible refine Frame.foldTo ?_ (fun s x hs => ?_)
    | split

def State.edgeDone_foot : Nat := 0x64000000000000000000000000000000000000000000000000000000000000000000002000000
theorem State.edgeDone_frame (hm : Sub State.edgeDone_foot m) (h : Frame m s0 s) :
    ∀ a1 a2 a3, Frame m s0 (State.edgeDone s a1 a2 a3) := by
  intro a1 a2 a3
  have s_State_setVph : Sub State.setVph_foot m := hm.of (by decide)
  have k_VRC_PH_STAT_brake : Has m VRC_PH_STAT_brake := hm.has 9 56 rfl (by decide)
  have k_VRC_PH_STAT_de : Has m VRC_PH_STAT_de := hm.has 9 55 rfl (by decide)
  have k_VRC_PH_STAT_ton : Has m VRC_PH_STAT_ton := hm.has 9 52 rfl (by decide)
  unfold State.edgeDone
  repeat' first
    | with_reducible assumption
    | with_reducible refine Frame.ite ?_ ?_
    | with_reducible refine wr_frame (by with_reducible assumption) ?_ _ _
    | with_reducible refine State.setVph_frame s_State_setVph ?_ _ _

def State.leadingEdge_foot : Nat := 0x64000000000000000000000000000000000000000000000000000000000000000000002000000
theorem State.leadingEdge_frame (hm : Sub State.leadingEdge_foot m) (h : Frame m s0 s) :
    ∀ a1 a2, Frame m s0 (State.leadingEdge s a1 a2) := by
  intro a1 a2
  have s_State_edgeDone : Sub State.edgeDone_foot m := hm.of (by decide)
  unfold State.leadingEdge
  repeat' first
    | with_reducible assumption
    | (extract_lets -underBinder +onlyGivenNames x; have u : True := (by clear_value x; guard_hyp x :ₛ State; trivial); clear u; refine Frame.cut (m := m) (s0 := s0) (t := x) ?_ ?_; (on_goal 1 => subst x); (on_goal 2 => (intro hx; clear_value x)))
    | (extract_lets -underBinder +onlyGivenNames n; first | clear_value n | subst n)
    | with_reducible refine Frame.ite ?_ ?_
    | with_reducible refine State.edgeDone_frame s_State_edgeDone ?_ _ _ _
    | split

def phaseLeadingEdge_foot : Nat := 0x64000000000040000000000000000000000000000000000000000000000000000000002000000
theorem phaseLeadingEdge_frame (hm : Sub phaseLeadingEdge_foot m) (h : Frame m s0 s) :
    ∀ a0, Frame m s0 (phaseLeadingEdge a0 s) := by
  intro a0
  have s_State_deTrack : Sub State.deTrack_foot m := hm.of (by decide)
  have s_State_leadingEdge : Sub State.leadingEdge_foot m := hm.of (by decide)
  unfold phaseLeadingEdge
  repeat' first
    | with_reducible assumption
    | (extract_lets -underBinder +onlyGivenNames x; have u : True := (by clear_value x; guard_hyp x :ₛ State; trivial); clear u; refine Frame.cut (m := m) (s0 := s0) (t := x) ?_ ?_; (on_goal 1 => subst x); (on_goal 2 => (intro hx; clear_value x)))
    | (extract_lets -underBinder +onlyGivenNames n; first | clear_value n | subst n)
    | with_reducible refine Frame.ite ?_ ?_
    | with_reducible refine State.deTrack_frame s_State_deTrack ?_
    | with_reducible refine State.leadingEdge_frame s_State_leadingEdge ?_ _ _
    | split

def deEnter_foot : Nat := 0x40000000000000000000000000000000000000000000000000000000002000000
theorem deEnter_frame (hm : Sub deEnter_foot m) (h : Frame m s0 s) :
    Frame m s0 (deEnter s) := by
  have s_State_deTrack : Sub State.deTrack_foot m := hm.of (by decide)
  have s_State_setDe : Sub State.setDe_foot m := hm.of (by decide)
  unfold deEnter
  repeat' first
    | with_reducible assumption
    | (extract_lets -underBinder +onlyGivenNames x; have u : True := (by clear_value x; guard_hyp x :ₛ State; trivial); clear u; refine Frame.cut (m := m) (s0 := s0) (t := x) ?_ ?_; (on_goal 1 => subst x); (on_goal 2 => (intro hx; clear_value x)))
    | (extract_lets -underBinder +onlyGivenNames n; first | clear_value n | subst n)
    | with_reducible refine Frame.ite ?_ ?_
    | with_reducible refine State.deTrack_frame s_State_deTrack ?_
    | with_reducible refine State.setDe_frame s_State_setDe ?_ _
    | split

def State.takeTotal_foot : Nat := 0x2000000
theorem State.takeTotal_frame (hm : Sub State.takeTotal_foot m) (h : Frame m s0 s) :
    ∀ a1 a2, Frame m s0 (State.takeTotal s a1 a2) := by
  intro a1 a2
  have c_vrc : m.testBit 25 = true := hm.bit 25 (by decide)
  unfold State.takeTotal
  repeat' first
    | with_reducible assumption
    | (extract_lets -underBinder +onlyGivenNames x; have u : True := (by clear_value x; guard_hyp x :ₛ State; trivial); clear u; refine Frame.cut (m := m) (s0 := s0) (t := x) ?_ ?_; (on_goal 1 => subst x); (on_goal 2 => (intro hx; clear_value x)))
    | (extract_lets -underBinder +onlyGivenNames n; first | clear_value n | subst n)
    | with_reducible refine Frame.ite ?_ ?_
    | with_reducible exact Frame.set_vrc c_vrc (by with_reducible assumption)
    | split

def State.hardOc_foot : Nat := 0x100000000000000000000000000000808000100000000000000000000000000000000000000000000000000000000800000000008600180000000000000000000000000000000300000000000000000001a3001180
theorem State.hardOc_frame (hm : Sub State.hardOc_foot m) (h : Frame m s0 s) :
    Frame m s0 (State.hardOc s) := by
  have s_State_railOffFault : Sub State.railOffFault_foot m := hm.of (by decide)
  unfold State.hardOc
  repeat' first
    | with_reducible assumption
    | with_reducible refine Frame.ite ?_ ?_
    | with_reducible refine State.railOffFault_frame s_State_railOffFault ?_ _ _
    | split

def iTotFormed_foot : Nat := 0x100000000000000000000000000000808000100000000000000000000000000000000000000000000000000000000800000000008600180000000000000000000000000000000300000000000000000001a3001180
theorem iTotFormed_frame (hm : Sub iTotFormed_foot m) (h : Frame m s0 s) :
    Frame m s0 (iTotFormed s) := by
  have s_State_takeTotal : Sub State.takeTotal_foot m := hm.of (by decide)
  have s_State_hardOc : Sub State.hardOc_foot m := hm.of (by decide)
  unfold iTotFormed
  repeat' first
    | with_reducible assumption
    | (extract_lets -underBinder +onlyGivenNames x; have u : True := (by clear_value x; guard_hyp x :ₛ State; trivial); clear u; refine Frame.cut (m := m) (s0 := s0) (t := x) ?_ ?_; (on_goal 1 => subst x); (on_goal 2 => (intro hx; clear_value x)))
    | (extract_lets -underBinder +onlyGivenNames n; first | clear_value n | subst n)
    | with_reducible refine Frame.ite ?_ ?_
    | with_reducible refine State.takeTotal_frame s_State_takeTotal ?_ _ _
    | with_reducible refine State.hardOc_frame s_State_hardOc ?_
    | split

def uvTimeout_foot : Nat := 0x100000000000000000000000000000808000100000000000000000000000000000000000000000000000000000000800000000008600180000000000000000000000000000000300000000000000000001a3001180
theorem uvTimeout_frame (hm : Sub uvTimeout_foot m) (h : Frame m s0 s) :
    Frame m s0 (uvTimeout s) := by
  have s_State_railOffFault : Sub State.railOffFault_foot m := hm.of (by decide)
  unfold uvTimeout
  repeat' first
    | with_reducible assumption
    | with_reducible refine Frame.ite ?_ ?_
    | with_reducible refine State.railOffFault_frame s_State_railOffFault ?_ _ _
    | split

def overVoltage_foot : Nat := 0x100000000000000000000000000000808000100000000000000000000000000000000000000000000000000000000800000000008600180000000000000000000000000000000304000000000000000001a3001180
theorem overVoltage_frame (hm : Sub overVoltage_foot m) (h : Frame m s0 s) :
    Frame m s0 (overVoltage s) := by
  have s_State_handover : Sub State.handover_foot m := hm.of (by decide)
  have s_State_lastFault : Sub State.lastFault_foot m := hm.of (by decide)
  have s_State_noDe : Sub State.noDe_foot m := hm.of (by decide)
  have s_State_latchStage : Sub State.latchStage_foot m := hm.of (by decide)
  have s_State_mirrorCause : Sub State.mirrorCause_foot m := hm.of (by decide)
  have s_State_emit : Sub State.emit_foot m := hm.of (by decide)
  have k_RST_CAUSE_crowbar : Has m RST_CAUSE_crowbar := hm.has 2 2 rfl (by decide)
  have k_VRC_STAT_fault : Has m VRC_STAT_fault := hm.has 9 13 rfl (by decide)
  have k_VRC_STAT_state : Has m VRC_STAT_state := hm.has 9 7 rfl (by decide)
  have c_vrc : m.testBit 25 = true := hm.bit 25 (by decide)
  unfold overVoltage
  repeat' first
    | with_reducible assumption
    | (extract_lets -underBinder +onlyGivenNames x; have u : True := (by clear_value x; guard_hyp x :ₛ State; trivial); clear u; refine Frame.cut (m := m) (s0 := s0) (t := x) ?_ ?_; (on_goal 1 => subst x); (on_goal 2 => (intro hx; clear_value x)))
    | (extract_lets -underBinder +onlyGivenNames n; first | clear_value n | subst n)
    | with_reducible refine Frame.ite ?_ ?_
    | with_reducible refine wr_frame (by with_reducible assumption) ?_ _ _
    | with_reducible refine State.handover_frame s_State_handover ?_ _
    | with_reducible refine State.lastFault_frame s_State_lastFault ?_ _ _ _
    | with_reducible refine State.noDe_frame s_State_noDe ?_
    | with_reducible refine State.latchStage_frame s_State_latchStage ?_ _
    | with_reducible refine State.mirrorCause_frame s_State_mirrorCause ?_ _
    | with_reducible refine State.emit_frame s_State_emit ?_ _ _ _
    | with_reducible exact Frame.set_vrc c_vrc (by with_reducible assumption)
    | split

def trackHoldTimeout_foot : Nat := 0x10000000000000000000000000000000000000000000000000000000000000000000000000000000000000000000000000000000000000000000000000000002000100
theorem trackHoldTimeout_frame (hm : Sub trackHoldTimeout_foot m) (h : Frame m s0 s) :
    Frame m s0 (trackHoldTimeout s) := by
  have s_State_trackEnd : Sub State.trackEnd_foot m := hm.of (by decide)
  have s_State_emit : Sub State.emit_foot m := hm.of (by decide)
  have c_vrc : m.testBit 25 = true := hm.bit 25 (by decide)
  unfold trackHoldTimeout
  repeat' first
    | with_reducible assumption
    | (extract_lets -underBinder +onlyGivenNames x; have u : True := (by clear_value x; guard_hyp x :ₛ State; trivial); clear u; refine Frame.cut (m := m) (s0 := s0) (t := x) ?_ ?_; (on_goal 1 => subst x); (on_goal 2 => (intro hx; clear_value x)))
    | (extract_lets -underBinder +onlyGivenNames n; first | clear_value n | subst n)
    | with_reducible refine Frame.ite ?_ ?_
    | with_reducible refine State.trackEnd_frame s_State_trackEnd ?_
    | with_reducible refine State.emit_frame s_State_emit ?_ _ _ _
    | with_reducible exact Frame.set_vrc c_vrc (by with_reducible assumption)
    | split

def State.trackTaken_foot : Nat := 0x2000000
theorem State.trackTaken_frame (hm : Sub State.trackTaken_foot m) (h : Frame m s0 s) :
    Frame m s0 (State.trackTaken s) := by
  have c_vrc : m.testBit 25 = true := hm.bit 25 (by decide)
  unfold State.trackTaken
  repeat' first
    | with_reducible assumption
    | (extract_lets -underBinder +onlyGivenNames x; have u : True := (by clear_value x; guard_hyp x :ₛ State; trivial); clear u; refine Frame.cut (m := m) (s0 := s0) (t := x) ?_ ?_; (on_goal 1 => subst x); (on_goal 2 => (intro hx; clear_value x)))
    | (extract_lets -underBinder +onlyGivenNames n; first | clear_value n | subst n)
    | with_reducible refine Frame.ite ?_ ?_
    | with_reducible exact Frame.set_vrc c_vrc (by with_reducible assumption)
    | split

end Sys2Proof.Machine
end

