-- ==== Sys2Proof/Laws/FramePmbus.lean ====
section
/-!
SUPPORT. Laws/FramePmbus.lean: the footprint of every function of Machine/Pmbus.lean, and that it writes nothing outside it.
-/
namespace Sys2Proof.Machine

set_option linter.all false

variable {m : Nat} {s0 s : State}

def State.setPmb_foot : Nat := 0x4000000
theorem State.setPmb_frame (hm : Sub State.setPmb_foot m) (h : Frame m s0 s) :
    ∀ a1, Frame m s0 (State.setPmb s a1) := by
  intro a1
  have c_pmb : m.testBit 26 = true := hm.bit 26 (by decide)
  unfold State.setPmb
  repeat' first
    | with_reducible assumption
    | (extract_lets -underBinder +onlyGivenNames x; have u : True := (by clear_value x; guard_hyp x :ₛ State; trivial); clear u; refine Frame.cut (m := m) (s0 := s0) (t := x) ?_ ?_; (on_goal 1 => subst x); (on_goal 2 => (intro hx; clear_value x)))
    | (extract_lets -underBinder +onlyGivenNames n; first | clear_value n | subst n)
    | with_reducible refine Frame.ite ?_ ?_
    | with_reducible exact Frame.set_pmb c_pmb (by with_reducible assumption)

def State.pmbDrop_foot : Nat := 0x4000000
theorem State.pmbDrop_frame (hm : Sub State.pmbDrop_foot m) (h : Frame m s0 s) :
    ∀ a1, Frame m s0 (State.pmbDrop s a1) := by
  intro a1
  have s_State_setPmb : Sub State.setPmb_foot m := hm.of (by decide)
  unfold State.pmbDrop
  repeat' first
    | with_reducible assumption
    | (extract_lets -underBinder +onlyGivenNames x; have u : True := (by clear_value x; guard_hyp x :ₛ State; trivial); clear u; refine Frame.cut (m := m) (s0 := s0) (t := x) ?_ ?_; (on_goal 1 => subst x); (on_goal 2 => (intro hx; clear_value x)))
    | (extract_lets -underBinder +onlyGivenNames n; first | clear_value n | subst n)
    | with_reducible refine Frame.ite ?_ ?_
    | with_reducible refine State.setPmb_frame s_State_setPmb ?_ _
    | split

def State.sweepStop_foot : Nat := 0xc000000
theorem State.sweepStop_frame (hm : Sub State.sweepStop_foot m) (h : Frame m s0 s) :
    Frame m s0 (State.sweepStop s) := by
  have c_acc : m.testBit 27 = true := hm.bit 27 (by decide)
  have c_pmb : m.testBit 26 = true := hm.bit 26 (by decide)
  unfold State.sweepStop
  repeat' first
    | with_reducible assumption
    | (extract_lets -underBinder +onlyGivenNames x; have u : True := (by clear_value x; guard_hyp x :ₛ State; trivial); clear u; refine Frame.cut (m := m) (s0 := s0) (t := x) ?_ ?_; (on_goal 1 => subst x); (on_goal 2 => (intro hx; clear_value x)))
    | (extract_lets -underBinder +onlyGivenNames n; first | clear_value n | subst n)
    | with_reducible refine Frame.ite ?_ ?_
    | with_reducible exact Frame.set_pmb_acc c_pmb c_acc (by with_reducible assumption)
    | split

def State.seqStop_foot : Nat := 0xc000000
theorem State.seqStop_frame (hm : Sub State.seqStop_foot m) (h : Frame m s0 s) :
    Frame m s0 (State.seqStop s) := by
  have s_State_pmbDrop : Sub State.pmbDrop_foot m := hm.of (by decide)
  have s_State_setPmb : Sub State.setPmb_foot m := hm.of (by decide)
  have s_State_sweepStop : Sub State.sweepStop_foot m := hm.of (by decide)
  unfold State.seqStop
  repeat' first
    | with_reducible assumption
    | (extract_lets -underBinder +onlyGivenNames x; have u : True := (by clear_value x; guard_hyp x :ₛ State; trivial); clear u; refine Frame.cut (m := m) (s0 := s0) (t := x) ?_ ?_; (on_goal 1 => subst x); (on_goal 2 => (intro hx; clear_value x)))
    | (extract_lets -underBinder +onlyGivenNames n; first | clear_value n | subst n)
    | with_reducible refine Frame.ite ?_ ?_
    | with_reducible refine State.pmbDrop_frame s_State_pmbDrop ?_ _
    | with_reducible refine State.setPmb_frame s_State_setPmb ?_ _
    | with_reducible refine State.sweepStop_frame s_State_sweepStop ?_
    | split

def State.haltPowerUp_foot : Nat := 0xc000000
theorem State.haltPowerUp_frame (hm : Sub State.haltPowerUp_foot m) (h : Frame m s0 s) :
    Frame m s0 (State.haltPowerUp s) := by
  have s_State_seqStop : Sub State.seqStop_foot m := hm.of (by decide)
  unfold State.haltPowerUp
  repeat' first
    | with_reducible assumption
    | with_reducible refine Frame.ite ?_ ?_
    | with_reducible refine State.seqStop_frame s_State_seqStop ?_
    | split

def State.setRail_foot : Nat := 0x200000000000000000000000000000000000000000000000000000000000000000000000000000000000
theorem State.setRail_frame (hm : Sub State.setRail_foot m) (h : Frame m s0 s) :
    ∀ a1 a2, Frame m s0 (State.setRail s a1 a2) := by
  intro a1 a2
  have k_PMB_RAIL_STAT_state : Has m PMB_RAIL_STAT_state := hm.has 10 25 rfl (by decide)
  unfold State.setRail
  repeat' first
    | with_reducible assumption
    | with_reducible refine Frame.ite ?_ ?_
    | with_reducible refine wr_frame (by with_reducible assumption) ?_ _ _

def State.pmbIssue_foot : Nat := 0x4000080
theorem State.pmbIssue_frame (hm : Sub State.pmbIssue_foot m) (h : Frame m s0 s) :
    Frame m s0 (State.pmbIssue s) := by
  have s_State_setPmb : Sub State.setPmb_foot m := hm.of (by decide)
  have s_State_send : Sub State.send_foot m := hm.of (by decide)
  unfold State.pmbIssue
  repeat' first
    | with_reducible assumption
    | (extract_lets -underBinder +onlyGivenNames x; have u : True := (by clear_value x; guard_hyp x :ₛ State; trivial); clear u; refine Frame.cut (m := m) (s0 := s0) (t := x) ?_ ?_; (on_goal 1 => subst x); (on_goal 2 => (intro hx; clear_value x)))
    | (extract_lets -underBinder +onlyGivenNames n; first | clear_value n | subst n)
    | with_reducible refine Frame.ite ?_ ?_
    | with_reducible refine State.setPmb_frame s_State_setPmb ?_ _
    | with_reducible refine State.send_frame s_State_send ?_ _
    | split

def State.pmbQueue_foot : Nat := 0x4000080
theorem State.pmbQueue_frame (hm : Sub State.pmbQueue_foot m) (h : Frame m s0 s) :
    ∀ a1, Frame m s0 (State.pmbQueue s a1) := by
  intro a1
  have s_State_setPmb : Sub State.setPmb_foot m := hm.of (by decide)
  have s_State_pmbIssue : Sub State.pmbIssue_foot m := hm.of (by decide)
  unfold State.pmbQueue
  repeat' first
    | with_reducible assumption
    | (extract_lets -underBinder +onlyGivenNames x; have u : True := (by clear_value x; guard_hyp x :ₛ State; trivial); clear u; refine Frame.cut (m := m) (s0 := s0) (t := x) ?_ ?_; (on_goal 1 => subst x); (on_goal 2 => (intro hx; clear_value x)))
    | (extract_lets -underBinder +onlyGivenNames n; first | clear_value n | subst n)
    | with_reducible refine Frame.ite ?_ ?_
    | with_reducible refine State.setPmb_frame s_State_setPmb ?_ _
    | with_reducible refine State.pmbIssue_frame s_State_pmbIssue ?_

def State.pmbNext_foot : Nat := 0x4000080
theorem State.pmbNext_frame (hm : Sub State.pmbNext_foot m) (h : Frame m s0 s) :
    ∀ a1, Frame m s0 (State.pmbNext s a1) := by
  intro a1
  have s_State_setPmb : Sub State.setPmb_foot m := hm.of (by decide)
  have s_State_pmbIssue : Sub State.pmbIssue_foot m := hm.of (by decide)
  unfold State.pmbNext
  repeat' first
    | with_reducible assumption
    | (extract_lets -underBinder +onlyGivenNames x; have u : True := (by clear_value x; guard_hyp x :ₛ State; trivial); clear u; refine Frame.cut (m := m) (s0 := s0) (t := x) ?_ ?_; (on_goal 1 => subst x); (on_goal 2 => (intro hx; clear_value x)))
    | (extract_lets -underBinder +onlyGivenNames n; first | clear_value n | subst n)
    | with_reducible refine Frame.ite ?_ ?_
    | with_reducible refine State.setPmb_frame s_State_setPmb ?_ _
    | with_reducible refine State.pmbIssue_frame s_State_pmbIssue ?_
    | split

def State.groupOff_foot : Nat := 0x100000000000000000000000000000808000100000000000000000000000000000000000000000000000002000000800000000008600180000000000000000000000000000000300000000000000000001a7001180
theorem State.groupOff_frame (hm : Sub State.groupOff_foot m) (h : Frame m s0 s) :
    Frame m s0 (State.groupOff s) := by
  have s_State_setRail : Sub State.setRail_foot m := hm.of (by decide)
  have s_State_setPmb : Sub State.setPmb_foot m := hm.of (by decide)
  have s_State_railOffFault : Sub State.railOffFault_foot m := hm.of (by decide)
  have s_State_vrcStop : Sub State.vrcStop_foot m := hm.of (by decide)
  unfold State.groupOff
  repeat' first
    | with_reducible assumption
    | (extract_lets -underBinder +onlyGivenNames x; have u : True := (by clear_value x; guard_hyp x :ₛ State; trivial); clear u; refine Frame.cut (m := m) (s0 := s0) (t := x) ?_ ?_; (on_goal 1 => subst x); (on_goal 2 => (intro hx; clear_value x)))
    | (extract_lets -underBinder +onlyGivenNames n; first | clear_value n | subst n)
    | with_reducible refine Frame.ite ?_ ?_
    | with_reducible refine State.setRail_frame s_State_setRail ?_ _ _
    | with_reducible refine State.setPmb_frame s_State_setPmb ?_ _
    | with_reducible refine State.railOffFault_frame s_State_railOffFault ?_ _ _
    | with_reducible refine State.vrcStop_frame s_State_vrcStop ?_
    | with_reducible refine Frame.foldl ?_ (fun s x hs => ?_)
    | split

def State.downNext_foot : Nat := 0x100000000000000000000000000000808000100000000000000000000000000000000000000000000000002000020800000000008600180000000000000000000000000000000300000000000000000001a7001180
theorem State.downNext_frame (hm : Sub State.downNext_foot m) (h : Frame m s0 s) :
    Frame m s0 (State.downNext s) := by
  have s_State_setPmb : Sub State.setPmb_foot m := hm.of (by decide)
  have s_State_pmbQueue : Sub State.pmbQueue_foot m := hm.of (by decide)
  have s_State_groupOff : Sub State.groupOff_foot m := hm.of (by decide)
  have s_State_emit : Sub State.emit_foot m := hm.of (by decide)
  have k_PMB_STAT_seq : Has m PMB_STAT_seq := hm.has 10 5 rfl (by decide)
  have k_RST_SEQ_cause : Has m RST_SEQ_cause := hm.has 2 9 rfl (by decide)
  have k_RST_SEQ_stage : Has m RST_SEQ_stage := hm.has 2 8 rfl (by decide)
  unfold State.downNext
  repeat' first
    | with_reducible assumption
    | (extract_lets -underBinder +onlyGivenNames x; have u : True := (by clear_value x; guard_hyp x :ₛ State; trivial); clear u; refine Frame.cut (m := m) (s0 := s0) (t := x) ?_ ?_; (on_goal 1 => subst x); (on_goal 2 => (intro hx; clear_value x)))
    | (extract_lets -underBinder +onlyGivenNames n; first | clear_value n | subst n)
    | with_reducible refine Frame.ite ?_ ?_
    | with_reducible refine wr_frame (by with_reducible assumption) ?_ _ _
    | with_reducible refine State.setPmb_frame s_State_setPmb ?_ _
    | with_reducible refine State.pmbQueue_frame s_State_pmbQueue ?_ _
    | with_reducible refine State.groupOff_frame s_State_groupOff ?_
    | with_reducible refine State.emit_frame s_State_emit ?_ _ _ _
    | split

def State.powerDown_foot : Nat := 0x100000000000000000000000000000808000100000000000000000000000000000000000000000000000002000020800000000008600180000000000000000000000000000000300000000000000000001af001180
theorem State.powerDown_frame (hm : Sub State.powerDown_foot m) (h : Frame m s0 s) :
    Frame m s0 (State.powerDown s) := by
  have s_State_seqStop : Sub State.seqStop_foot m := hm.of (by decide)
  have s_State_downNext : Sub State.downNext_foot m := hm.of (by decide)
  have k_PMB_STAT_seq : Has m PMB_STAT_seq := hm.has 10 5 rfl (by decide)
  unfold State.powerDown
  repeat' first
    | with_reducible assumption
    | with_reducible refine Frame.ite ?_ ?_
    | with_reducible refine wr_frame (by with_reducible assumption) ?_ _ _
    | with_reducible refine State.seqStop_frame s_State_seqStop ?_
    | with_reducible refine State.downNext_frame s_State_downNext ?_
    | split

def State.downCheck_foot : Nat := 0x100000000000000000000000000000808000100000000000000000000000000000000000000000000000002000020800000000008600180000000000000000000000000000000300000000000000000001a7001180
theorem State.downCheck_frame (hm : Sub State.downCheck_foot m) (h : Frame m s0 s) :
    Frame m s0 (State.downCheck s) := by
  have s_State_pmbDrop : Sub State.pmbDrop_foot m := hm.of (by decide)
  have s_State_downNext : Sub State.downNext_foot m := hm.of (by decide)
  have s_State_emit : Sub State.emit_foot m := hm.of (by decide)
  unfold State.downCheck
  repeat' first
    | with_reducible assumption
    | (extract_lets -underBinder +onlyGivenNames x; have u : True := (by clear_value x; guard_hyp x :ₛ State; trivial); clear u; refine Frame.cut (m := m) (s0 := s0) (t := x) ?_ ?_; (on_goal 1 => subst x); (on_goal 2 => (intro hx; clear_value x)))
    | (extract_lets -underBinder +onlyGivenNames n; first | clear_value n | subst n)
    | with_reducible refine Frame.ite ?_ ?_
    | with_reducible refine State.pmbDrop_frame s_State_pmbDrop ?_ _
    | with_reducible refine State.downNext_frame s_State_downNext ?_
    | with_reducible refine State.emit_frame s_State_emit ?_ _ _ _
    | split

def State.upNext_foot : Nat := 0x2000000000000000000000000000000000000000000000000000000000000000000000004000000
theorem State.upNext_frame (hm : Sub State.upNext_foot m) (h : Frame m s0 s) :
    ∀ a1 a2, Frame m s0 (State.upNext s a1 a2) := by
  intro a1 a2
  have s_State_setPmb : Sub State.setPmb_foot m := hm.of (by decide)
  have k_PMB_STAT_seq : Has m PMB_STAT_seq := hm.has 10 5 rfl (by decide)
  unfold State.upNext
  repeat' first
    | with_reducible assumption
    | (extract_lets -underBinder +onlyGivenNames x; have u : True := (by clear_value x; guard_hyp x :ₛ State; trivial); clear u; refine Frame.cut (m := m) (s0 := s0) (t := x) ?_ ?_; (on_goal 1 => subst x); (on_goal 2 => (intro hx; clear_value x)))
    | (extract_lets -underBinder +onlyGivenNames n; first | clear_value n | subst n)
    | with_reducible refine Frame.ite ?_ ?_
    | with_reducible refine wr_frame (by with_reducible assumption) ?_ _ _
    | with_reducible refine State.setPmb_frame s_State_setPmb ?_ _
    | split

def State.seqFail_foot : Nat := 0x100000000000000000000000000000808000100000000000000000000000000000000000000000000000002000020800000000008600180000000000000000000000000000000300000000000000000001af001180
theorem State.seqFail_frame (hm : Sub State.seqFail_foot m) (h : Frame m s0 s) :
    ∀ a1, Frame m s0 (State.seqFail s a1) := by
  intro a1
  have s_State_powerDown : Sub State.powerDown_foot m := hm.of (by decide)
  have s_State_setPmb : Sub State.setPmb_foot m := hm.of (by decide)
  unfold State.seqFail
  repeat' first
    | with_reducible assumption
    | (extract_lets -underBinder +onlyGivenNames x; have u : True := (by clear_value x; guard_hyp x :ₛ State; trivial); clear u; refine Frame.cut (m := m) (s0 := s0) (t := x) ?_ ?_; (on_goal 1 => subst x); (on_goal 2 => (intro hx; clear_value x)))
    | (extract_lets -underBinder +onlyGivenNames n; first | clear_value n | subst n)
    | with_reducible refine Frame.ite ?_ ?_
    | with_reducible refine State.powerDown_frame s_State_powerDown ?_
    | with_reducible refine State.setPmb_frame s_State_setPmb ?_ _

def State.groupFail_foot : Nat := 0x100000000000000000000000000000808000100000000000000000000000000000000000000000000000002000020800000000008600180000000000000000000000000000000300000000000000000001af001180
theorem State.groupFail_frame (hm : Sub State.groupFail_foot m) (h : Frame m s0 s) :
    ∀ a1 a2, Frame m s0 (State.groupFail s a1 a2) := by
  intro a1 a2
  have s_State_pmbDrop : Sub State.pmbDrop_foot m := hm.of (by decide)
  have s_State_pmbNext : Sub State.pmbNext_foot m := hm.of (by decide)
  have s_State_setRail : Sub State.setRail_foot m := hm.of (by decide)
  have s_State_trackEnd : Sub State.trackEnd_foot m := hm.of (by decide)
  have s_State_setPmb : Sub State.setPmb_foot m := hm.of (by decide)
  have s_State_pmbQueue : Sub State.pmbQueue_foot m := hm.of (by decide)
  have s_State_seqFail : Sub State.seqFail_foot m := hm.of (by decide)
  have s_State_vrcStop : Sub State.vrcStop_foot m := hm.of (by decide)
  have s_State_emit : Sub State.emit_foot m := hm.of (by decide)
  unfold State.groupFail
  repeat' first
    | with_reducible assumption
    | (extract_lets -underBinder +onlyGivenNames x; have u : True := (by clear_value x; guard_hyp x :ₛ State; trivial); clear u; refine Frame.cut (m := m) (s0 := s0) (t := x) ?_ ?_; (on_goal 1 => subst x); (on_goal 2 => (intro hx; clear_value x)))
    | (extract_lets -underBinder +onlyGivenNames n; first | clear_value n | subst n)
    | with_reducible refine Frame.ite ?_ ?_
    | with_reducible refine State.pmbDrop_frame s_State_pmbDrop ?_ _
    | with_reducible refine State.pmbNext_frame s_State_pmbNext ?_ _
    | with_reducible refine State.setRail_frame s_State_setRail ?_ _ _
    | with_reducible refine State.trackEnd_frame s_State_trackEnd ?_
    | with_reducible refine State.setPmb_frame s_State_setPmb ?_ _
    | with_reducible refine State.pmbQueue_frame s_State_pmbQueue ?_ _
    | with_reducible refine State.seqFail_frame s_State_seqFail ?_ _
    | with_reducible refine State.vrcStop_frame s_State_vrcStop ?_
    | with_reducible refine State.emit_frame s_State_emit ?_ _ _ _
    | with_reducible refine Frame.foldl ?_ (fun s x hs => ?_)
    | split

def State.pmbSettle_foot : Nat := 0x100000000000000000000000000000808000100000000000000000000000000000000000000000000000002000020800000000008600180000000000000000000000000000000300000000000000000001af001180
theorem State.pmbSettle_frame (hm : Sub State.pmbSettle_foot m) (h : Frame m s0 s) :
    Frame m s0 (State.pmbSettle s) := by
  have s_State_pmbDrop : Sub State.pmbDrop_foot m := hm.of (by decide)
  have s_State_upNext : Sub State.upNext_foot m := hm.of (by decide)
  have s_State_setPmb : Sub State.setPmb_foot m := hm.of (by decide)
  have s_State_groupFail : Sub State.groupFail_foot m := hm.of (by decide)
  have s_State_downCheck : Sub State.downCheck_foot m := hm.of (by decide)
  have k_PMB_STAT_seq : Has m PMB_STAT_seq := hm.has 10 5 rfl (by decide)
  unfold State.pmbSettle
  repeat' first
    | with_reducible assumption
    | (extract_lets -underBinder +onlyGivenNames x; have u : True := (by clear_value x; guard_hyp x :ₛ State; trivial); clear u; refine Frame.cut (m := m) (s0 := s0) (t := x) ?_ ?_; (on_goal 1 => subst x); (on_goal 2 => (intro hx; clear_value x)))
    | (extract_lets -underBinder +onlyGivenNames n; first | clear_value n | subst n)
    | with_reducible refine Frame.ite ?_ ?_
    | with_reducible refine wr_frame (by with_reducible assumption) ?_ _ _
    | with_reducible refine State.pmbDrop_frame s_State_pmbDrop ?_ _
    | with_reducible refine State.upNext_frame s_State_upNext ?_ _ _
    | with_reducible refine State.setPmb_frame s_State_setPmb ?_ _
    | with_reducible refine State.groupFail_frame s_State_groupFail ?_ _ _
    | with_reducible refine State.downCheck_frame s_State_downCheck ?_
    | split

def State.askAra_foot : Nat := 0x4000080
theorem State.askAra_frame (hm : Sub State.askAra_foot m) (h : Frame m s0 s) :
    Frame m s0 (State.askAra s) := by
  have s_State_pmbNext : Sub State.pmbNext_foot m := hm.of (by decide)
  unfold State.askAra
  repeat' first
    | with_reducible assumption
    | with_reducible refine Frame.ite ?_ ?_
    | with_reducible refine State.pmbNext_frame s_State_pmbNext ?_ _
    | split

def State.powerUp_foot : Nat := 0x2000000000000000000000000000000000000000000000000000000000000000000000004000080
theorem State.powerUp_frame (hm : Sub State.powerUp_foot m) (h : Frame m s0 s) :
    Frame m s0 (State.powerUp s) := by
  have s_State_upNext : Sub State.upNext_foot m := hm.of (by decide)
  have s_State_askAra : Sub State.askAra_foot m := hm.of (by decide)
  have s_State_setPmb : Sub State.setPmb_foot m := hm.of (by decide)
  have s_State_pmbQueue : Sub State.pmbQueue_foot m := hm.of (by decide)
  have k_PMB_STAT_seq : Has m PMB_STAT_seq := hm.has 10 5 rfl (by decide)
  unfold State.powerUp
  repeat' first
    | with_reducible assumption
    | (extract_lets -underBinder +onlyGivenNames x; have u : True := (by clear_value x; guard_hyp x :ₛ State; trivial); clear u; refine Frame.cut (m := m) (s0 := s0) (t := x) ?_ ?_; (on_goal 1 => subst x); (on_goal 2 => (intro hx; clear_value x)))
    | (extract_lets -underBinder +onlyGivenNames n; first | clear_value n | subst n)
    | with_reducible refine Frame.ite ?_ ?_
    | with_reducible refine wr_frame (by with_reducible assumption) ?_ _ _
    | with_reducible refine State.upNext_frame s_State_upNext ?_ _ _
    | with_reducible refine State.askAra_frame s_State_askAra ?_
    | with_reducible refine State.setPmb_frame s_State_setPmb ?_ _
    | with_reducible refine State.pmbQueue_frame s_State_pmbQueue ?_ _
    | split

def State.coreStart_foot : Nat := 0x4060000000000000000000000000000000000000000000000000000000002000000
theorem State.coreStart_frame (hm : Sub State.coreStart_foot m) (h : Frame m s0 s) :
    Frame m s0 (State.coreStart s) := by
  have s_State_vrcStart : Sub State.vrcStart_foot m := hm.of (by decide)
  unfold State.coreStart
  repeat' first
    | with_reducible assumption
    | (extract_lets -underBinder +onlyGivenNames x; have u : True := (by clear_value x; guard_hyp x :ₛ State; trivial); clear u; refine Frame.cut (m := m) (s0 := s0) (t := x) ?_ ?_; (on_goal 1 => subst x); (on_goal 2 => (intro hx; clear_value x)))
    | (extract_lets -underBinder +onlyGivenNames n; first | clear_value n | subst n)
    | with_reducible refine Frame.ite ?_ ?_
    | with_reducible refine State.vrcStart_frame s_State_vrcStart ?_
    | split

def State.groupOn_foot : Nat := 0x100000000000000000000000000000808000100000000000000000000000000000000000000000000000002000020800000000048600180000000000000000000000000000000300000000000000000001af001180
theorem State.groupOn_frame (hm : Sub State.groupOn_foot m) (h : Frame m s0 s) :
    Frame m s0 (State.groupOn s) := by
  have s_State_setRail : Sub State.setRail_foot m := hm.of (by decide)
  have s_State_setPmb : Sub State.setPmb_foot m := hm.of (by decide)
  have s_State_pmbSettle : Sub State.pmbSettle_foot m := hm.of (by decide)
  have s_State_pmbQueue : Sub State.pmbQueue_foot m := hm.of (by decide)
  have s_State_coreStart : Sub State.coreStart_foot m := hm.of (by decide)
  unfold State.groupOn
  repeat' first
    | with_reducible assumption
    | (extract_lets -underBinder +onlyGivenNames x; have u : True := (by clear_value x; guard_hyp x :ₛ State; trivial); clear u; refine Frame.cut (m := m) (s0 := s0) (t := x) ?_ ?_; (on_goal 1 => subst x); (on_goal 2 => (intro hx; clear_value x)))
    | (extract_lets -underBinder +onlyGivenNames n; first | clear_value n | subst n)
    | with_reducible refine Frame.ite ?_ ?_
    | with_reducible refine State.setRail_frame s_State_setRail ?_ _ _
    | with_reducible refine State.setPmb_frame s_State_setPmb ?_ _
    | with_reducible refine State.pmbSettle_frame s_State_pmbSettle ?_
    | with_reducible refine State.pmbQueue_frame s_State_pmbQueue ?_ _
    | with_reducible refine State.coreStart_frame s_State_coreStart ?_
    | with_reducible refine Frame.foldl ?_ (fun s x hs => ?_)
    | split

def State.groupCommand_foot : Nat := 0x100000000000000000000000000000808000100000000000000000000000000000000000000000000000002000020800000000048600180000000000000000000000000000000300000000000000000001af001180
theorem State.groupCommand_frame (hm : Sub State.groupCommand_foot m) (h : Frame m s0 s) :
    Frame m s0 (State.groupCommand s) := by
  have s_State_groupOn : Sub State.groupOn_foot m := hm.of (by decide)
  have s_State_setPmb : Sub State.setPmb_foot m := hm.of (by decide)
  have s_State_pmbQueue : Sub State.pmbQueue_foot m := hm.of (by decide)
  unfold State.groupCommand
  repeat' first
    | with_reducible assumption
    | (extract_lets -underBinder +onlyGivenNames x; have u : True := (by clear_value x; guard_hyp x :ₛ State; trivial); clear u; refine Frame.cut (m := m) (s0 := s0) (t := x) ?_ ?_; (on_goal 1 => subst x); (on_goal 2 => (intro hx; clear_value x)))
    | (extract_lets -underBinder +onlyGivenNames n; first | clear_value n | subst n)
    | with_reducible refine Frame.ite ?_ ?_
    | with_reducible refine State.groupOn_frame s_State_groupOn ?_
    | with_reducible refine State.setPmb_frame s_State_setPmb ?_ _
    | with_reducible refine State.pmbQueue_frame s_State_pmbQueue ?_ _
    | split

def pmbGroupStart_foot : Nat := 0x100000000000000000000000000000808000100000000000000000000000000000000000000000000000002000020800000000048600180000000000000000000000000000000300000000000000000001af001180
theorem pmbGroupStart_frame (hm : Sub pmbGroupStart_foot m) (h : Frame m s0 s) :
    Frame m s0 (pmbGroupStart s) := by
  have s_State_groupCommand : Sub State.groupCommand_foot m := hm.of (by decide)
  have s_State_seqFail : Sub State.seqFail_foot m := hm.of (by decide)
  unfold pmbGroupStart
  repeat' first
    | with_reducible assumption
    | (extract_lets -underBinder +onlyGivenNames x; have u : True := (by clear_value x; guard_hyp x :ₛ State; trivial); clear u; refine Frame.cut (m := m) (s0 := s0) (t := x) ?_ ?_; (on_goal 1 => subst x); (on_goal 2 => (intro hx; clear_value x)))
    | (extract_lets -underBinder +onlyGivenNames n; first | clear_value n | subst n)
    | with_reducible refine Frame.ite ?_ ?_
    | with_reducible refine State.groupCommand_frame s_State_groupCommand ?_
    | with_reducible refine State.seqFail_frame s_State_seqFail ?_ _
    | split

def coreStartDelay_foot : Nat := 0x100000000000000000000000000000808000100000000000000000000000000000000000000000000000002000020800000000048600180000000000000000000000000000000300000000000000000001af001180
theorem coreStartDelay_frame (hm : Sub coreStartDelay_foot m) (h : Frame m s0 s) :
    Frame m s0 (coreStartDelay s) := by
  have s_State_groupCommand : Sub State.groupCommand_foot m := hm.of (by decide)
  unfold coreStartDelay
  repeat' first
    | with_reducible assumption
    | with_reducible refine Frame.ite ?_ ?_
    | with_reducible refine State.groupCommand_frame s_State_groupCommand ?_
    | split

def pmbGroupTimeout_foot : Nat := 0x100000000000000000000000000000808000100000000000000000000000000000000000000000000000002000020800000000008600180000000000000000000000000000000300000000000000000001af001180
theorem pmbGroupTimeout_frame (hm : Sub pmbGroupTimeout_foot m) (h : Frame m s0 s) :
    Frame m s0 (pmbGroupTimeout s) := by
  have s_State_groupFail : Sub State.groupFail_foot m := hm.of (by decide)
  unfold pmbGroupTimeout
  repeat' first
    | with_reducible assumption
    | (extract_lets -underBinder +onlyGivenNames x; have u : True := (by clear_value x; guard_hyp x :ₛ State; trivial); clear u; refine Frame.cut (m := m) (s0 := s0) (t := x) ?_ ?_; (on_goal 1 => subst x); (on_goal 2 => (intro hx; clear_value x)))
    | (extract_lets -underBinder +onlyGivenNames n; first | clear_value n | subst n)
    | with_reducible refine Frame.ite ?_ ?_
    | with_reducible refine State.groupFail_frame s_State_groupFail ?_ _ _
    | split

def pmbGroupRetry_foot : Nat := 0x100000000000000000000000000000808000100000000000000000000000000000000000000000000000002000020800000000048600180000000000000000000000000000000300000000000000000001af001180
theorem pmbGroupRetry_frame (hm : Sub pmbGroupRetry_foot m) (h : Frame m s0 s) :
    Frame m s0 (pmbGroupRetry s) := by
  have s_State_pmbDrop : Sub State.pmbDrop_foot m := hm.of (by decide)
  have s_State_groupCommand : Sub State.groupCommand_foot m := hm.of (by decide)
  have s_State_seqFail : Sub State.seqFail_foot m := hm.of (by decide)
  unfold pmbGroupRetry
  repeat' first
    | with_reducible assumption
    | (extract_lets -underBinder +onlyGivenNames x; have u : True := (by clear_value x; guard_hyp x :ₛ State; trivial); clear u; refine Frame.cut (m := m) (s0 := s0) (t := x) ?_ ?_; (on_goal 1 => subst x); (on_goal 2 => (intro hx; clear_value x)))
    | (extract_lets -underBinder +onlyGivenNames n; first | clear_value n | subst n)
    | with_reducible refine Frame.ite ?_ ?_
    | with_reducible refine State.pmbDrop_frame s_State_pmbDrop ?_ _
    | with_reducible refine State.groupCommand_frame s_State_groupCommand ?_
    | with_reducible refine State.seqFail_frame s_State_seqFail ?_ _
    | split

def pmbGroupOffTimeout_foot : Nat := 0x100000000000000000000000000000808000100000000000000000000000000000000000000000000000002000020800000000008600180000000000000000000000000000000300000000000000000001a7001180
theorem pmbGroupOffTimeout_frame (hm : Sub pmbGroupOffTimeout_foot m) (h : Frame m s0 s) :
    Frame m s0 (pmbGroupOffTimeout s) := by
  have s_State_pmbDrop : Sub State.pmbDrop_foot m := hm.of (by decide)
  have s_State_groupOff : Sub State.groupOff_foot m := hm.of (by decide)
  have s_State_downNext : Sub State.downNext_foot m := hm.of (by decide)
  have s_State_emit : Sub State.emit_foot m := hm.of (by decide)
  unfold pmbGroupOffTimeout
  repeat' first
    | with_reducible assumption
    | (extract_lets -underBinder +onlyGivenNames x; have u : True := (by clear_value x; guard_hyp x :ₛ State; trivial); clear u; refine Frame.cut (m := m) (s0 := s0) (t := x) ?_ ?_; (on_goal 1 => subst x); (on_goal 2 => (intro hx; clear_value x)))
    | (extract_lets -underBinder +onlyGivenNames n; first | clear_value n | subst n)
    | with_reducible refine Frame.ite ?_ ?_
    | with_reducible refine State.pmbDrop_frame s_State_pmbDrop ?_ _
    | with_reducible refine State.groupOff_frame s_State_groupOff ?_
    | with_reducible refine State.downNext_frame s_State_downNext ?_
    | with_reducible refine State.emit_frame s_State_emit ?_ _ _ _
    | split

def State.railLost_foot : Nat := 0x100000000000000000000000000000808000100000000000000000000000000000000000000000000000002000020800000000008600180000000000000000000000000000000300000000000000000001af001180
theorem State.railLost_frame (hm : Sub State.railLost_foot m) (h : Frame m s0 s) :
    ∀ a1 a2, Frame m s0 (State.railLost s a1 a2) := by
  intro a1 a2
  have s_State_setRail : Sub State.setRail_foot m := hm.of (by decide)
  have s_State_powerDown : Sub State.powerDown_foot m := hm.of (by decide)
  have s_State_emit : Sub State.emit_foot m := hm.of (by decide)
  unfold State.railLost
  repeat' first
    | with_reducible assumption
    | (extract_lets -underBinder +onlyGivenNames x; have u : True := (by clear_value x; guard_hyp x :ₛ State; trivial); clear u; refine Frame.cut (m := m) (s0 := s0) (t := x) ?_ ?_; (on_goal 1 => subst x); (on_goal 2 => (intro hx; clear_value x)))
    | (extract_lets -underBinder +onlyGivenNames n; first | clear_value n | subst n)
    | with_reducible refine Frame.ite ?_ ?_
    | with_reducible refine State.setRail_frame s_State_setRail ?_ _ _
    | with_reducible refine State.powerDown_frame s_State_powerDown ?_
    | with_reducible refine State.emit_frame s_State_emit ?_ _ _ _
    | split

def pmbSweepStart_foot : Nat := 0x20000000000000000000000000000000000000000000000000000000000000000000000004000080
theorem pmbSweepStart_frame (hm : Sub pmbSweepStart_foot m) (h : Frame m s0 s) :
    Frame m s0 (pmbSweepStart s) := by
  have s_State_setPmb : Sub State.setPmb_foot m := hm.of (by decide)
  have s_State_pmbQueue : Sub State.pmbQueue_foot m := hm.of (by decide)
  have k_PMB_STAT_skip : Has m PMB_STAT_skip := hm.has 10 9 rfl (by decide)
  unfold pmbSweepStart
  repeat' first
    | with_reducible assumption
    | (extract_lets -underBinder +onlyGivenNames x; have u : True := (by clear_value x; guard_hyp x :ₛ State; trivial); clear u; refine Frame.cut (m := m) (s0 := s0) (t := x) ?_ ?_; (on_goal 1 => subst x); (on_goal 2 => (intro hx; clear_value x)))
    | (extract_lets -underBinder +onlyGivenNames n; first | clear_value n | subst n)
    | with_reducible refine Frame.ite ?_ ?_
    | with_reducible refine bump_frame (by with_reducible assumption) ?_ _
    | with_reducible refine State.setPmb_frame s_State_setPmb ?_ _
    | with_reducible refine State.pmbQueue_frame s_State_pmbQueue ?_ _
    | split

def State.sweepEnd_foot : Nat := 0xc000000
theorem State.sweepEnd_frame (hm : Sub State.sweepEnd_foot m) (h : Frame m s0 s) :
    Frame m s0 (State.sweepEnd s) := by
  have s_State_sweepStop : Sub State.sweepStop_foot m := hm.of (by decide)
  unfold State.sweepEnd
  repeat' first
    | with_reducible assumption
    | with_reducible refine Frame.ite ?_ ?_
    | with_reducible refine State.sweepStop_frame s_State_sweepStop ?_
    | split

def State.railPower_foot : Nat := 0x200000000000000000000000000000000000000000000000000000000000000000000000000000c000000
theorem State.railPower_frame (hm : Sub State.railPower_foot m) (h : Frame m s0 s) :
    ∀ a1 a2, Frame m s0 (State.railPower s a1 a2) := by
  intro a1 a2
  have s_State_setPmb : Sub State.setPmb_foot m := hm.of (by decide)
  have k_PMB_RAIL_P : Has m PMB_RAIL_P := hm.has 10 29 rfl (by decide)
  have c_acc : m.testBit 27 = true := hm.bit 27 (by decide)
  unfold State.railPower
  repeat' first
    | with_reducible assumption
    | (extract_lets -underBinder +onlyGivenNames x; have u : True := (by clear_value x; guard_hyp x :ₛ State; trivial); clear u; refine Frame.cut (m := m) (s0 := s0) (t := x) ?_ ?_; (on_goal 1 => subst x); (on_goal 2 => (intro hx; clear_value x)))
    | (extract_lets -underBinder +onlyGivenNames n; first | clear_value n | subst n)
    | with_reducible refine Frame.ite ?_ ?_
    | with_reducible refine wr_frame (by with_reducible assumption) ?_ _ _
    | with_reducible refine State.setPmb_frame s_State_setPmb ?_ _
    | with_reducible exact Frame.set_acc c_acc (by with_reducible assumption)
    | split

def State.discoverFail_foot : Nat := 0x10000000000000000000000000000000000000000000000000200000000000000000000000000000000000000000000000000000000000000000000000000004000100
theorem State.discoverFail_frame (hm : Sub State.discoverFail_foot m) (h : Frame m s0 s) :
    ∀ a1 a2, Frame m s0 (State.discoverFail s a1 a2) := by
  intro a1 a2
  have s_State_pmbDrop : Sub State.pmbDrop_foot m := hm.of (by decide)
  have s_State_setRail : Sub State.setRail_foot m := hm.of (by decide)
  have s_State_emit : Sub State.emit_foot m := hm.of (by decide)
  unfold State.discoverFail
  repeat' first
    | with_reducible assumption
    | (extract_lets -underBinder +onlyGivenNames x; have u : True := (by clear_value x; guard_hyp x :ₛ State; trivial); clear u; refine Frame.cut (m := m) (s0 := s0) (t := x) ?_ ?_; (on_goal 1 => subst x); (on_goal 2 => (intro hx; clear_value x)))
    | (extract_lets -underBinder +onlyGivenNames n; first | clear_value n | subst n)
    | with_reducible refine Frame.ite ?_ ?_
    | with_reducible refine State.pmbDrop_frame s_State_pmbDrop ?_ _
    | with_reducible refine State.setRail_frame s_State_setRail ?_ _ _
    | with_reducible refine State.emit_frame s_State_emit ?_ _ _ _

def State.railJudge_foot : Nat := 0x100000000000000000000000000000808000100000000000000000000000000000000000000000000000002000020800000000008600180000000000000000000000000000000300000000000000000001af001180
theorem State.railJudge_frame (hm : Sub State.railJudge_foot m) (h : Frame m s0 s) :
    ∀ a1, Frame m s0 (State.railJudge s a1) := by
  intro a1
  have s_State_setRail : Sub State.setRail_foot m := hm.of (by decide)
  have s_State_railLost : Sub State.railLost_foot m := hm.of (by decide)
  have s_State_groupFail : Sub State.groupFail_foot m := hm.of (by decide)
  unfold State.railJudge
  repeat' first
    | with_reducible assumption
    | (extract_lets -underBinder +onlyGivenNames x; have u : True := (by clear_value x; guard_hyp x :ₛ State; trivial); clear u; refine Frame.cut (m := m) (s0 := s0) (t := x) ?_ ?_; (on_goal 1 => subst x); (on_goal 2 => (intro hx; clear_value x)))
    | (extract_lets -underBinder +onlyGivenNames n; first | clear_value n | subst n)
    | with_reducible refine Frame.ite ?_ ?_
    | with_reducible refine State.setRail_frame s_State_setRail ?_ _ _
    | with_reducible refine State.railLost_frame s_State_railLost ?_ _ _
    | with_reducible refine State.groupFail_frame s_State_groupFail ?_ _ _
    | split

def State.statusRead_foot : Nat := 0x100000000000000000000000000000808000100000000000000000000000000000000000000000000000003000020800000000008600180000000000000000000000000000000300000000000000000001af001180
theorem State.statusRead_frame (hm : Sub State.statusRead_foot m) (h : Frame m s0 s) :
    ∀ a1 a2, Frame m s0 (State.statusRead s a1 a2) := by
  intro a1 a2
  have s_State_railJudge : Sub State.railJudge_foot m := hm.of (by decide)
  have k_PMB_RAIL_STAT_status : Has m PMB_RAIL_STAT_status := hm.has 10 24 rfl (by decide)
  unfold State.statusRead
  repeat' first
    | with_reducible assumption
    | with_reducible refine Frame.ite ?_ ?_
    | with_reducible refine wr_frame (by with_reducible assumption) ?_ _ _
    | with_reducible refine State.railJudge_frame s_State_railJudge ?_ _

def State.voutRead_foot : Nat := 0x100000000000000000000000000000808000100000000000000000000000000000000000000000000000012000020800000000008600180000000000000000000000000000000300000000000000000001af001180
theorem State.voutRead_frame (hm : Sub State.voutRead_foot m) (h : Frame m s0 s) :
    ∀ a1 a2, Frame m s0 (State.voutRead s a1 a2) := by
  intro a1 a2
  have s_State_railJudge : Sub State.railJudge_foot m := hm.of (by decide)
  have s_State_setPmb : Sub State.setPmb_foot m := hm.of (by decide)
  have s_trackDelivery : Sub trackDelivery_foot m := hm.of (by decide)
  have k_PMB_RAIL_V : Has m PMB_RAIL_V := hm.has 10 28 rfl (by decide)
  unfold State.voutRead
  repeat' first
    | with_reducible assumption
    | (extract_lets -underBinder +onlyGivenNames x; have u : True := (by clear_value x; guard_hyp x :ₛ State; trivial); clear u; refine Frame.cut (m := m) (s0 := s0) (t := x) ?_ ?_; (on_goal 1 => subst x); (on_goal 2 => (intro hx; clear_value x)))
    | (extract_lets -underBinder +onlyGivenNames n; first | clear_value n | subst n)
    | with_reducible refine Frame.ite ?_ ?_
    | with_reducible refine wr_frame (by with_reducible assumption) ?_ _ _
    | with_reducible refine State.railJudge_frame s_State_railJudge ?_ _
    | with_reducible refine State.setPmb_frame s_State_setPmb ?_ _
    | with_reducible refine trackDelivery_frame s_trackDelivery ?_ _
    | split

def State.araReply_foot : Nat := 0x10000000000000000000000000000000000000000000000000000018000000000000000000000000000000000000000000000000000000000000000000000004000180
theorem State.araReply_frame (hm : Sub State.araReply_foot m) (h : Frame m s0 s) :
    ∀ a1, Frame m s0 (State.araReply s a1) := by
  intro a1
  have s_State_pmbNext : Sub State.pmbNext_foot m := hm.of (by decide)
  have s_State_setPmb : Sub State.setPmb_foot m := hm.of (by decide)
  have s_State_emit : Sub State.emit_foot m := hm.of (by decide)
  have k_PMB_STAT_masked : Has m PMB_STAT_masked := hm.has 10 7 rfl (by decide)
  have k_PMB_STAT_unk : Has m PMB_STAT_unk := hm.has 10 8 rfl (by decide)
  unfold State.araReply
  repeat' first
    | with_reducible assumption
    | (extract_lets -underBinder +onlyGivenNames x; have u : True := (by clear_value x; guard_hyp x :ₛ State; trivial); clear u; refine Frame.cut (m := m) (s0 := s0) (t := x) ?_ ?_; (on_goal 1 => subst x); (on_goal 2 => (intro hx; clear_value x)))
    | (extract_lets -underBinder +onlyGivenNames n; first | clear_value n | subst n)
    | with_reducible refine Frame.ite ?_ ?_
    | with_reducible refine wr_frame (by with_reducible assumption) ?_ _ _
    | with_reducible refine bump_frame (by with_reducible assumption) ?_ _
    | with_reducible refine State.pmbNext_frame s_State_pmbNext ?_ _
    | with_reducible refine State.setPmb_frame s_State_setPmb ?_ _
    | with_reducible refine State.emit_frame s_State_emit ?_ _ _ _
    | split

def State.alertStep_foot : Nat := 0x10000000000000000000000000000000000000000000000000000000000000000000000000000000000000000000000000000000000000000000000000000004000180
theorem State.alertStep_frame (hm : Sub State.alertStep_foot m) (h : Frame m s0 s) :
    Frame m s0 (State.alertStep s) := by
  have s_State_pmbNext : Sub State.pmbNext_foot m := hm.of (by decide)
  have s_State_askAra : Sub State.askAra_foot m := hm.of (by decide)
  have s_State_setPmb : Sub State.setPmb_foot m := hm.of (by decide)
  have s_State_emit : Sub State.emit_foot m := hm.of (by decide)
  unfold State.alertStep
  repeat' first
    | with_reducible assumption
    | (extract_lets -underBinder +onlyGivenNames x; have u : True := (by clear_value x; guard_hyp x :ₛ State; trivial); clear u; refine Frame.cut (m := m) (s0 := s0) (t := x) ?_ ?_; (on_goal 1 => subst x); (on_goal 2 => (intro hx; clear_value x)))
    | (extract_lets -underBinder +onlyGivenNames n; first | clear_value n | subst n)
    | with_reducible refine Frame.ite ?_ ?_
    | with_reducible refine State.pmbNext_frame s_State_pmbNext ?_ _
    | with_reducible refine State.askAra_frame s_State_askAra ?_
    | with_reducible refine State.setPmb_frame s_State_setPmb ?_ _
    | with_reducible refine State.emit_frame s_State_emit ?_ _ _ _
    | split

def State.opDone_foot : Nat := 0x1000000000000000000000000000008080001000000000000000000000000000000000000000000000000330001a0800000000048600180000000000000000000000000000000300000000000000000001af001180
theorem State.opDone_frame (hm : Sub State.opDone_foot m) (h : Frame m s0 s) :
    ∀ a1 a2, Frame m s0 (State.opDone s a1 a2) := by
  intro a1 a2
  have s_State_araReply : Sub State.araReply_foot m := hm.of (by decide)
  have s_State_railPower : Sub State.railPower_foot m := hm.of (by decide)
  have s_State_voutRead : Sub State.voutRead_foot m := hm.of (by decide)
  have s_State_groupOn : Sub State.groupOn_foot m := hm.of (by decide)
  have s_State_setRail : Sub State.setRail_foot m := hm.of (by decide)
  have s_State_setPmb : Sub State.setPmb_foot m := hm.of (by decide)
  have s_State_statusRead : Sub State.statusRead_foot m := hm.of (by decide)
  have s_State_discoverFail : Sub State.discoverFail_foot m := hm.of (by decide)
  have s_State_pmbQueue : Sub State.pmbQueue_foot m := hm.of (by decide)
  have s_State_groupOff : Sub State.groupOff_foot m := hm.of (by decide)
  unfold State.opDone
  repeat' first
    | with_reducible assumption
    | (extract_lets -underBinder +onlyGivenNames x; have u : True := (by clear_value x; guard_hyp x :ₛ State; trivial); clear u; refine Frame.cut (m := m) (s0 := s0) (t := x) ?_ ?_; (on_goal 1 => subst x); (on_goal 2 => (intro hx; clear_value x)))
    | (extract_lets -underBinder +onlyGivenNames n; first | clear_value n | subst n)
    | with_reducible refine Frame.ite ?_ ?_
    | with_reducible refine State.araReply_frame s_State_araReply ?_ _
    | with_reducible refine State.railPower_frame s_State_railPower ?_ _ _
    | with_reducible refine State.voutRead_frame s_State_voutRead ?_ _ _
    | with_reducible refine State.groupOn_frame s_State_groupOn ?_
    | with_reducible refine State.setRail_frame s_State_setRail ?_ _ _
    | with_reducible refine State.setPmb_frame s_State_setPmb ?_ _
    | with_reducible refine State.statusRead_frame s_State_statusRead ?_ _ _
    | with_reducible refine State.discoverFail_frame s_State_discoverFail ?_ _ _
    | with_reducible refine State.pmbQueue_frame s_State_pmbQueue ?_ _
    | with_reducible refine State.groupOff_frame s_State_groupOff ?_
    | split

def State.railUnreached_foot : Nat := 0x100000000000000000000000000000808000100000000000000000000000000000000000000000000000002000020800000000008600180000000000000000000000000000000300000000000000000001af001180
theorem State.railUnreached_frame (hm : Sub State.railUnreached_foot m) (h : Frame m s0 s) :
    ∀ a1, Frame m s0 (State.railUnreached s a1) := by
  intro a1
  have s_State_setRail : Sub State.setRail_foot m := hm.of (by decide)
  have s_State_railLost : Sub State.railLost_foot m := hm.of (by decide)
  unfold State.railUnreached
  repeat' first
    | with_reducible assumption
    | with_reducible refine Frame.ite ?_ ?_
    | with_reducible refine State.setRail_frame s_State_setRail ?_ _ _
    | with_reducible refine State.railLost_frame s_State_railLost ?_ _ _
    | split

def State.opLost_foot : Nat := 0x1000000000000000000000000000008080001000000000000000000000000000000000000000000000000020000a0800000000008600180000000000000000000000000000000300000000000000000001af001180
theorem State.opLost_frame (hm : Sub State.opLost_foot m) (h : Frame m s0 s) :
    ∀ a1, Frame m s0 (State.opLost s a1) := by
  intro a1
  have s_State_railUnreached : Sub State.railUnreached_foot m := hm.of (by decide)
  have s_State_setPmb : Sub State.setPmb_foot m := hm.of (by decide)
  have s_State_discoverFail : Sub State.discoverFail_foot m := hm.of (by decide)
  have s_State_pmbQueue : Sub State.pmbQueue_foot m := hm.of (by decide)
  have s_State_groupFail : Sub State.groupFail_foot m := hm.of (by decide)
  have s_State_groupOff : Sub State.groupOff_foot m := hm.of (by decide)
  have s_State_seqFail : Sub State.seqFail_foot m := hm.of (by decide)
  have s_State_emit : Sub State.emit_foot m := hm.of (by decide)
  have k_PMB_STAT_masked : Has m PMB_STAT_masked := hm.has 10 7 rfl (by decide)
  unfold State.opLost
  repeat' first
    | with_reducible assumption
    | (extract_lets -underBinder +onlyGivenNames x; have u : True := (by clear_value x; guard_hyp x :ₛ State; trivial); clear u; refine Frame.cut (m := m) (s0 := s0) (t := x) ?_ ?_; (on_goal 1 => subst x); (on_goal 2 => (intro hx; clear_value x)))
    | (extract_lets -underBinder +onlyGivenNames n; first | clear_value n | subst n)
    | with_reducible refine Frame.ite ?_ ?_
    | with_reducible refine wr_frame (by with_reducible assumption) ?_ _ _
    | with_reducible refine State.railUnreached_frame s_State_railUnreached ?_ _
    | with_reducible refine State.setPmb_frame s_State_setPmb ?_ _
    | with_reducible refine State.discoverFail_frame s_State_discoverFail ?_ _ _
    | with_reducible refine State.pmbQueue_frame s_State_pmbQueue ?_ _
    | with_reducible refine State.groupFail_frame s_State_groupFail ?_ _ _
    | with_reducible refine State.groupOff_frame s_State_groupOff ?_
    | with_reducible refine State.seqFail_frame s_State_seqFail ?_ _
    | with_reducible refine State.emit_frame s_State_emit ?_ _ _ _
    | split

def State.pollAgain_foot : Nat := 0x4000080
theorem State.pollAgain_frame (hm : Sub State.pollAgain_foot m) (h : Frame m s0 s) :
    ∀ a1, Frame m s0 (State.pollAgain s a1) := by
  intro a1
  have s_State_pmbQueue : Sub State.pmbQueue_foot m := hm.of (by decide)
  unfold State.pollAgain
  repeat' first
    | with_reducible assumption
    | (extract_lets -underBinder +onlyGivenNames x; have u : True := (by clear_value x; guard_hyp x :ₛ State; trivial); clear u; refine Frame.cut (m := m) (s0 := s0) (t := x) ?_ ?_; (on_goal 1 => subst x); (on_goal 2 => (intro hx; clear_value x)))
    | (extract_lets -underBinder +onlyGivenNames n; first | clear_value n | subst n)
    | with_reducible refine Frame.ite ?_ ?_
    | with_reducible refine State.pmbQueue_frame s_State_pmbQueue ?_ _
    | split

def State.discoverEnd_foot : Nat := 0x2000000000000000000000000000000000000000000000000000000000000000000000004000000
theorem State.discoverEnd_frame (hm : Sub State.discoverEnd_foot m) (h : Frame m s0 s) :
    Frame m s0 (State.discoverEnd s) := by
  have s_State_upNext : Sub State.upNext_foot m := hm.of (by decide)
  have k_PMB_STAT_seq : Has m PMB_STAT_seq := hm.has 10 5 rfl (by decide)
  unfold State.discoverEnd
  repeat' first
    | with_reducible assumption
    | with_reducible refine Frame.ite ?_ ?_
    | with_reducible refine wr_frame (by with_reducible assumption) ?_ _ _
    | with_reducible refine State.upNext_frame s_State_upNext ?_ _ _
    | split

def pmbTransactionDone_foot : Nat := 0x10000000000000000000000000000080800010000000000000000000000000000000000000000000000003f0001a0800000000048600180000000000000000000000000000000300000000000000000001af001180
theorem pmbTransactionDone_frame (hm : Sub pmbTransactionDone_foot m) (h : Frame m s0 s) :
    ∀ a0 a1, Frame m s0 (pmbTransactionDone a0 a1 s) := by
  intro a0 a1
  have s_State_opLost : Sub State.opLost_foot m := hm.of (by decide)
  have s_State_discoverEnd : Sub State.discoverEnd_foot m := hm.of (by decide)
  have s_State_opDone : Sub State.opDone_foot m := hm.of (by decide)
  have s_State_setPmb : Sub State.setPmb_foot m := hm.of (by decide)
  have s_State_pmbSettle : Sub State.pmbSettle_foot m := hm.of (by decide)
  have s_State_alertStep : Sub State.alertStep_foot m := hm.of (by decide)
  have s_State_sweepEnd : Sub State.sweepEnd_foot m := hm.of (by decide)
  have s_State_pollAgain : Sub State.pollAgain_foot m := hm.of (by decide)
  have s_State_pmbIssue : Sub State.pmbIssue_foot m := hm.of (by decide)
  have k_PMB_RAIL_STAT_nack : Has m PMB_RAIL_STAT_nack := hm.has 10 26 rfl (by decide)
  have k_PMB_RAIL_STAT_pec : Has m PMB_RAIL_STAT_pec := hm.has 10 27 rfl (by decide)
  unfold pmbTransactionDone
  repeat' first
    | with_reducible assumption
    | (extract_lets -underBinder +onlyGivenNames x; have u : True := (by clear_value x; guard_hyp x :ₛ State; trivial); clear u; refine Frame.cut (m := m) (s0 := s0) (t := x) ?_ ?_; (on_goal 1 => subst x); (on_goal 2 => (intro hx; clear_value x)))
    | (extract_lets -underBinder +onlyGivenNames n; first | clear_value n | subst n)
    | with_reducible refine Frame.ite ?_ ?_
    | with_reducible refine bump_frame (by with_reducible assumption) ?_ _
    | with_reducible refine State.opLost_frame s_State_opLost ?_ _
    | with_reducible refine State.discoverEnd_frame s_State_discoverEnd ?_
    | with_reducible refine State.opDone_frame s_State_opDone ?_ _ _
    | with_reducible refine State.setPmb_frame s_State_setPmb ?_ _
    | with_reducible refine State.pmbSettle_frame s_State_pmbSettle ?_
    | with_reducible refine State.alertStep_frame s_State_alertStep ?_
    | with_reducible refine State.sweepEnd_frame s_State_sweepEnd ?_
    | with_reducible refine State.pollAgain_frame s_State_pollAgain ?_ _
    | with_reducible refine State.pmbIssue_frame s_State_pmbIssue ?_
    | split

def pmbAlert_foot : Nat := 0x4000080
theorem pmbAlert_frame (hm : Sub pmbAlert_foot m) (h : Frame m s0 s) :
    ∀ a0, Frame m s0 (pmbAlert a0 s) := by
  intro a0
  have s_State_askAra : Sub State.askAra_foot m := hm.of (by decide)
  have s_State_setPmb : Sub State.setPmb_foot m := hm.of (by decide)
  unfold pmbAlert
  repeat' first
    | with_reducible assumption
    | (extract_lets -underBinder +onlyGivenNames x; have u : True := (by clear_value x; guard_hyp x :ₛ State; trivial); clear u; refine Frame.cut (m := m) (s0 := s0) (t := x) ?_ ?_; (on_goal 1 => subst x); (on_goal 2 => (intro hx; clear_value x)))
    | (extract_lets -underBinder +onlyGivenNames n; first | clear_value n | subst n)
    | with_reducible refine Frame.ite ?_ ?_
    | with_reducible refine State.askAra_frame s_State_askAra ?_
    | with_reducible refine State.setPmb_frame s_State_setPmb ?_ _
    | split

def pmbAlertMaskEnd_foot : Nat := 0x8000000000000000000000000000000000000000000000000000000000000000000000004000080
theorem pmbAlertMaskEnd_frame (hm : Sub pmbAlertMaskEnd_foot m) (h : Frame m s0 s) :
    Frame m s0 (pmbAlertMaskEnd s) := by
  have s_State_askAra : Sub State.askAra_foot m := hm.of (by decide)
  have s_State_setPmb : Sub State.setPmb_foot m := hm.of (by decide)
  have k_PMB_STAT_masked : Has m PMB_STAT_masked := hm.has 10 7 rfl (by decide)
  unfold pmbAlertMaskEnd
  repeat' first
    | with_reducible assumption
    | (extract_lets -underBinder +onlyGivenNames x; have u : True := (by clear_value x; guard_hyp x :ₛ State; trivial); clear u; refine Frame.cut (m := m) (s0 := s0) (t := x) ?_ ?_; (on_goal 1 => subst x); (on_goal 2 => (intro hx; clear_value x)))
    | (extract_lets -underBinder +onlyGivenNames n; first | clear_value n | subst n)
    | with_reducible refine Frame.ite ?_ ?_
    | with_reducible refine wr_frame (by with_reducible assumption) ?_ _ _
    | with_reducible refine State.askAra_frame s_State_askAra ?_
    | with_reducible refine State.setPmb_frame s_State_setPmb ?_ _
    | split

def pmbBusStuck_foot : Nat := 0x10000000000000000000000000000000000000000000000000000004000000000000000000000000000000000000000000000000000000000000000000000004000180
theorem pmbBusStuck_frame (hm : Sub pmbBusStuck_foot m) (h : Frame m s0 s) :
    ∀ a0, Frame m s0 (pmbBusStuck a0 s) := by
  intro a0
  have s_State_setPmb : Sub State.setPmb_foot m := hm.of (by decide)
  have s_State_pmbIssue : Sub State.pmbIssue_foot m := hm.of (by decide)
  have s_State_send : Sub State.send_foot m := hm.of (by decide)
  have s_State_emit : Sub State.emit_foot m := hm.of (by decide)
  have k_PMB_STAT_stuck : Has m PMB_STAT_stuck := hm.has 10 6 rfl (by decide)
  unfold pmbBusStuck
  repeat' first
    | with_reducible assumption
    | (extract_lets -underBinder +onlyGivenNames x; have u : True := (by clear_value x; guard_hyp x :ₛ State; trivial); clear u; refine Frame.cut (m := m) (s0 := s0) (t := x) ?_ ?_; (on_goal 1 => subst x); (on_goal 2 => (intro hx; clear_value x)))
    | (extract_lets -underBinder +onlyGivenNames n; first | clear_value n | subst n)
    | with_reducible refine Frame.ite ?_ ?_
    | with_reducible refine wr_frame (by with_reducible assumption) ?_ _ _
    | with_reducible refine State.setPmb_frame s_State_setPmb ?_ _
    | with_reducible refine State.pmbIssue_frame s_State_pmbIssue ?_
    | with_reducible refine State.send_frame s_State_send ?_ _
    | with_reducible refine State.emit_frame s_State_emit ?_ _ _ _
    | split

def pmbBusFree_foot : Nat := 0x4000000000000000000000000000000000000000000000000000000000000000000000004000080
theorem pmbBusFree_frame (hm : Sub pmbBusFree_foot m) (h : Frame m s0 s) :
    Frame m s0 (pmbBusFree s) := by
  have s_State_setPmb : Sub State.setPmb_foot m := hm.of (by decide)
  have s_State_pmbIssue : Sub State.pmbIssue_foot m := hm.of (by decide)
  have k_PMB_STAT_stuck : Has m PMB_STAT_stuck := hm.has 10 6 rfl (by decide)
  unfold pmbBusFree
  repeat' first
    | with_reducible assumption
    | (extract_lets -underBinder +onlyGivenNames x; have u : True := (by clear_value x; guard_hyp x :ₛ State; trivial); clear u; refine Frame.cut (m := m) (s0 := s0) (t := x) ?_ ?_; (on_goal 1 => subst x); (on_goal 2 => (intro hx; clear_value x)))
    | (extract_lets -underBinder +onlyGivenNames n; first | clear_value n | subst n)
    | with_reducible refine Frame.ite ?_ ?_
    | with_reducible refine wr_frame (by with_reducible assumption) ?_ _ _
    | with_reducible refine State.setPmb_frame s_State_setPmb ?_ _
    | with_reducible refine State.pmbIssue_frame s_State_pmbIssue ?_
    | split

def State.railTargetTaken_foot : Nat := 0x4000080
theorem State.railTargetTaken_frame (hm : Sub State.railTargetTaken_foot m) (h : Frame m s0 s) :
    ∀ a1, Frame m s0 (State.railTargetTaken s a1) := by
  intro a1
  have s_State_pmbNext : Sub State.pmbNext_foot m := hm.of (by decide)
  unfold State.railTargetTaken
  repeat' first
    | with_reducible assumption
    | with_reducible refine Frame.ite ?_ ?_
    | with_reducible refine State.pmbNext_frame s_State_pmbNext ?_ _
    | split

def execPmbTransactionDone_foot : Nat := 0x10000000000000000000000000000080800010000000000000000000000000000000000000000000000003f0001a0800000000048600180000000000000000000000000000000300000000000000000001af001180
theorem execPmbTransactionDone_frame (hm : Sub execPmbTransactionDone_foot m) (h : Frame m s0 s) :
    ∀ a0 a1, ∃ t, execPmbTransactionDone a0 a1 s = .next t ∧ Frame m s0 t := by
  intro a0 a1
  have s_pmbTransactionDone : Sub pmbTransactionDone_foot m := hm.of (by decide)
  unfold execPmbTransactionDone
  refine hubOn_frame (fun s h => ?_) h
  repeat' first
    | with_reducible assumption
    | with_reducible refine Frame.ite ?_ ?_
    | with_reducible refine pmbTransactionDone_frame s_pmbTransactionDone ?_ _ _

def execPmbGroupStart_foot : Nat := 0x100000000000000000000000000000808000100000000000000000000000000000000000000000000000002000020800000000048600180000000000000000000000000000000300000000000000000001af001180
theorem execPmbGroupStart_frame (hm : Sub execPmbGroupStart_foot m) (h : Frame m s0 s) :
    ∃ t, execPmbGroupStart s = .next t ∧ Frame m s0 t := by
  have s_pmbGroupStart : Sub pmbGroupStart_foot m := hm.of (by decide)
  unfold execPmbGroupStart
  refine hubOn_frame (fun s h => ?_) h
  repeat' first
    | with_reducible assumption
    | with_reducible refine Frame.ite ?_ ?_
    | with_reducible refine pmbGroupStart_frame s_pmbGroupStart ?_

def execPmbGroupTimeout_foot : Nat := 0x100000000000000000000000000000808000100000000000000000000000000000000000000000000000002000020800000000008600180000000000000000000000000000000300000000000000000001af001180
theorem execPmbGroupTimeout_frame (hm : Sub execPmbGroupTimeout_foot m) (h : Frame m s0 s) :
    ∃ t, execPmbGroupTimeout s = .next t ∧ Frame m s0 t := by
  have s_pmbGroupTimeout : Sub pmbGroupTimeout_foot m := hm.of (by decide)
  unfold execPmbGroupTimeout
  refine hubOn_frame (fun s h => ?_) h
  repeat' first
    | with_reducible assumption
    | with_reducible refine Frame.ite ?_ ?_
    | with_reducible refine pmbGroupTimeout_frame s_pmbGroupTimeout ?_

def execPmbGroupRetry_foot : Nat := 0x100000000000000000000000000000808000100000000000000000000000000000000000000000000000002000020800000000048600180000000000000000000000000000000300000000000000000001af001180
theorem execPmbGroupRetry_frame (hm : Sub execPmbGroupRetry_foot m) (h : Frame m s0 s) :
    ∃ t, execPmbGroupRetry s = .next t ∧ Frame m s0 t := by
  have s_pmbGroupRetry : Sub pmbGroupRetry_foot m := hm.of (by decide)
  unfold execPmbGroupRetry
  refine hubOn_frame (fun s h => ?_) h
  repeat' first
    | with_reducible assumption
    | with_reducible refine Frame.ite ?_ ?_
    | with_reducible refine pmbGroupRetry_frame s_pmbGroupRetry ?_

def execPmbGroupOffTimeout_foot : Nat := 0x100000000000000000000000000000808000100000000000000000000000000000000000000000000000002000020800000000008600180000000000000000000000000000000300000000000000000001a7001180
theorem execPmbGroupOffTimeout_frame (hm : Sub execPmbGroupOffTimeout_foot m) (h : Frame m s0 s) :
    ∃ t, execPmbGroupOffTimeout s = .next t ∧ Frame m s0 t := by
  have s_pmbGroupOffTimeout : Sub pmbGroupOffTimeout_foot m := hm.of (by decide)
  unfold execPmbGroupOffTimeout
  refine hubOn_frame (fun s h => ?_) h
  repeat' first
    | with_reducible assumption
    | with_reducible refine Frame.ite ?_ ?_
    | with_reducible refine pmbGroupOffTimeout_frame s_pmbGroupOffTimeout ?_

def execPmbSweepStart_foot : Nat := 0x20000000000000000000000000000000000000000000000000000000000000000000000004000080
theorem execPmbSweepStart_frame (hm : Sub execPmbSweepStart_foot m) (h : Frame m s0 s) :
    ∃ t, execPmbSweepStart s = .next t ∧ Frame m s0 t := by
  have s_pmbSweepStart : Sub pmbSweepStart_foot m := hm.of (by decide)
  unfold execPmbSweepStart
  refine hubOn_frame (fun s h => ?_) h
  repeat' first
    | with_reducible assumption
    | with_reducible refine Frame.ite ?_ ?_
    | with_reducible refine pmbSweepStart_frame s_pmbSweepStart ?_

def execPmbAlert_foot : Nat := 0x4000080
theorem execPmbAlert_frame (hm : Sub execPmbAlert_foot m) (h : Frame m s0 s) :
    ∀ a0, ∃ t, execPmbAlert a0 s = .next t ∧ Frame m s0 t := by
  intro a0
  have s_pmbAlert : Sub pmbAlert_foot m := hm.of (by decide)
  unfold execPmbAlert
  refine hubOn_frame (fun s h => ?_) h
  repeat' first
    | with_reducible assumption
    | with_reducible refine Frame.ite ?_ ?_
    | with_reducible refine pmbAlert_frame s_pmbAlert ?_ _

def execPmbAlertMaskEnd_foot : Nat := 0x8000000000000000000000000000000000000000000000000000000000000000000000004000080
theorem execPmbAlertMaskEnd_frame (hm : Sub execPmbAlertMaskEnd_foot m) (h : Frame m s0 s) :
    ∃ t, execPmbAlertMaskEnd s = .next t ∧ Frame m s0 t := by
  have s_pmbAlertMaskEnd : Sub pmbAlertMaskEnd_foot m := hm.of (by decide)
  unfold execPmbAlertMaskEnd
  refine hubOn_frame (fun s h => ?_) h
  repeat' first
    | with_reducible assumption
    | with_reducible refine Frame.ite ?_ ?_
    | with_reducible refine pmbAlertMaskEnd_frame s_pmbAlertMaskEnd ?_

def execPmbBusStuck_foot : Nat := 0x10000000000000000000000000000000000000000000000000000004000000000000000000000000000000000000000000000000000000000000000000000004000180
theorem execPmbBusStuck_frame (hm : Sub execPmbBusStuck_foot m) (h : Frame m s0 s) :
    ∀ a0, ∃ t, execPmbBusStuck a0 s = .next t ∧ Frame m s0 t := by
  intro a0
  have s_pmbBusStuck : Sub pmbBusStuck_foot m := hm.of (by decide)
  unfold execPmbBusStuck
  refine hubOn_frame (fun s h => ?_) h
  repeat' first
    | with_reducible assumption
    | with_reducible refine Frame.ite ?_ ?_
    | with_reducible refine pmbBusStuck_frame s_pmbBusStuck ?_ _

def execPmbBusFree_foot : Nat := 0x4000000000000000000000000000000000000000000000000000000000000000000000004000080
theorem execPmbBusFree_frame (hm : Sub execPmbBusFree_foot m) (h : Frame m s0 s) :
    ∃ t, execPmbBusFree s = .next t ∧ Frame m s0 t := by
  have s_pmbBusFree : Sub pmbBusFree_foot m := hm.of (by decide)
  unfold execPmbBusFree
  refine hubOn_frame (fun s h => ?_) h
  repeat' first
    | with_reducible assumption
    | with_reducible refine Frame.ite ?_ ?_
    | with_reducible refine pmbBusFree_frame s_pmbBusFree ?_

def execCoreStartDelay_foot : Nat := 0x100000000000000000000000000000808000100000000000000000000000000000000000000000000000002000020800000000048600180000000000000000000000000000000300000000000000000001af001180
theorem execCoreStartDelay_frame (hm : Sub execCoreStartDelay_foot m) (h : Frame m s0 s) :
    ∃ t, execCoreStartDelay s = .next t ∧ Frame m s0 t := by
  have s_coreStartDelay : Sub coreStartDelay_foot m := hm.of (by decide)
  unfold execCoreStartDelay
  refine hubOn_frame (fun s h => ?_) h
  repeat' first
    | with_reducible assumption
    | with_reducible refine Frame.ite ?_ ?_
    | with_reducible refine coreStartDelay_frame s_coreStartDelay ?_

def execPidSample_foot : Nat := 0x80c0000000000000000000000000000000000000000000000000000000002820000
theorem execPidSample_frame (hm : Sub execPidSample_foot m) (h : Frame m s0 s) :
    ∀ a0, ∃ t, execPidSample a0 s = .next t ∧ Frame m s0 t := by
  intro a0
  have s_pidSample : Sub pidSample_foot m := hm.of (by decide)
  unfold execPidSample
  refine hubOn_frame (fun s h => ?_) h
  repeat' first
    | with_reducible assumption
    | with_reducible refine Frame.ite ?_ ?_
    | with_reducible refine pidSample_frame s_pidSample ?_ _

def execVrefRampStep_foot : Nat := 0x1000000000000000000000000000008080001000000000000000000000000000000000000000000000000020000208000000000486001830000000000000000000000000000003002c0000000000000001af801180
theorem execVrefRampStep_frame (hm : Sub execVrefRampStep_foot m) (h : Frame m s0 s) :
    ∃ t, execVrefRampStep s = .next t ∧ Frame m s0 t := by
  have s_State_pmbSettle : Sub State.pmbSettle_foot m := hm.of (by decide)
  have s_vrefRampStep : Sub vrefRampStep_foot m := hm.of (by decide)
  unfold execVrefRampStep
  refine hubOn_frame (fun s h => ?_) h
  repeat' first
    | with_reducible assumption
    | with_reducible refine Frame.ite ?_ ?_
    | with_reducible refine State.pmbSettle_frame s_State_pmbSettle ?_
    | with_reducible refine vrefRampStep_frame s_vrefRampStep ?_

def execEnableDrop_foot : Nat := 0x100000000000000000000000000000808000100000000000000000000000000000000000000000000000002000020800000000048600180000000000000000000000000000000300000000000000000001af001180
theorem execEnableDrop_frame (hm : Sub execEnableDrop_foot m) (h : Frame m s0 s) :
    ∃ t, execEnableDrop s = .next t ∧ Frame m s0 t := by
  have s_State_pmbSettle : Sub State.pmbSettle_foot m := hm.of (by decide)
  have s_enableDrop : Sub enableDrop_foot m := hm.of (by decide)
  unfold execEnableDrop
  refine hubOn_frame (fun s h => ?_) h
  repeat' first
    | with_reducible assumption
    | with_reducible refine Frame.ite ?_ ?_
    | with_reducible refine State.pmbSettle_frame s_State_pmbSettle ?_
    | with_reducible refine enableDrop_frame s_enableDrop ?_

def execPwmPeriodStart_foot : Nat := 0x10000000000000000000000000000080800010000000000000000000000000000000000000000000000000200002092000000000c600180000030000000000000000000000000300000000000000000001af021180
theorem execPwmPeriodStart_frame (hm : Sub execPwmPeriodStart_foot m) (h : Frame m s0 s) :
    ∃ t, execPwmPeriodStart s = .next t ∧ Frame m s0 t := by
  have s_pwmPeriodStart : Sub pwmPeriodStart_foot m := hm.of (by decide)
  have s_State_pmbSettle : Sub State.pmbSettle_foot m := hm.of (by decide)
  unfold execPwmPeriodStart
  refine hubOn_frame (fun s h => ?_) h
  repeat' first
    | with_reducible assumption
    | with_reducible refine Frame.ite ?_ ?_
    | with_reducible refine pwmPeriodStart_frame s_pwmPeriodStart ?_
    | with_reducible refine State.pmbSettle_frame s_State_pmbSettle ?_

def execPhaseLeadingEdge_foot : Nat := 0x64000000000040000000000000000000000000000000000000000000000000000000002000000
theorem execPhaseLeadingEdge_frame (hm : Sub execPhaseLeadingEdge_foot m) (h : Frame m s0 s) :
    ∀ a0, ∃ t, execPhaseLeadingEdge a0 s = .next t ∧ Frame m s0 t := by
  intro a0
  have s_phaseLeadingEdge : Sub phaseLeadingEdge_foot m := hm.of (by decide)
  unfold execPhaseLeadingEdge
  refine hubOn_frame (fun s h => ?_) h
  repeat' first
    | with_reducible assumption
    | with_reducible refine Frame.ite ?_ ?_
    | with_reducible refine phaseLeadingEdge_frame s_phaseLeadingEdge ?_ _

def execDeEnter_foot : Nat := 0x40000000000000000000000000000000000000000000000000000000002000000
theorem execDeEnter_frame (hm : Sub execDeEnter_foot m) (h : Frame m s0 s) :
    ∃ t, execDeEnter s = .next t ∧ Frame m s0 t := by
  have s_deEnter : Sub deEnter_foot m := hm.of (by decide)
  unfold execDeEnter
  refine hubOn_frame (fun s h => ?_) h
  repeat' first
    | with_reducible assumption
    | with_reducible refine Frame.ite ?_ ?_
    | with_reducible refine deEnter_frame s_deEnter ?_

def execITotFormed_foot : Nat := 0x100000000000000000000000000000808000100000000000000000000000000000000000000000000000002000020800000000008600180000000000000000000000000000000300000000000000000001af001180
theorem execITotFormed_frame (hm : Sub execITotFormed_foot m) (h : Frame m s0 s) :
    ∃ t, execITotFormed s = .next t ∧ Frame m s0 t := by
  have s_State_pmbSettle : Sub State.pmbSettle_foot m := hm.of (by decide)
  have s_iTotFormed : Sub iTotFormed_foot m := hm.of (by decide)
  unfold execITotFormed
  refine hubOn_frame (fun s h => ?_) h
  repeat' first
    | with_reducible assumption
    | with_reducible refine Frame.ite ?_ ?_
    | with_reducible refine State.pmbSettle_frame s_State_pmbSettle ?_
    | with_reducible refine iTotFormed_frame s_iTotFormed ?_

def execUvTimeout_foot : Nat := 0x100000000000000000000000000000808000100000000000000000000000000000000000000000000000002000020800000000008600180000000000000000000000000000000300000000000000000001af001180
theorem execUvTimeout_frame (hm : Sub execUvTimeout_foot m) (h : Frame m s0 s) :
    ∃ t, execUvTimeout s = .next t ∧ Frame m s0 t := by
  have s_uvTimeout : Sub uvTimeout_foot m := hm.of (by decide)
  have s_State_pmbSettle : Sub State.pmbSettle_foot m := hm.of (by decide)
  unfold execUvTimeout
  refine hubOn_frame (fun s h => ?_) h
  repeat' first
    | with_reducible assumption
    | with_reducible refine Frame.ite ?_ ?_
    | with_reducible refine uvTimeout_frame s_uvTimeout ?_
    | with_reducible refine State.pmbSettle_frame s_State_pmbSettle ?_

def execOverVoltage_foot : Nat := 0x100000000000000000000000000000808000100000000000000000000000000000000000000000000000002000020800000000008600180000000000000000000000000000000304000000000000000001af001180
theorem execOverVoltage_frame (hm : Sub execOverVoltage_foot m) (h : Frame m s0 s) :
    ∃ t, execOverVoltage s = .next t ∧ Frame m s0 t := by
  have s_overVoltage : Sub overVoltage_foot m := hm.of (by decide)
  have s_State_powerDown : Sub State.powerDown_foot m := hm.of (by decide)
  have s_State_pmbSettle : Sub State.pmbSettle_foot m := hm.of (by decide)
  unfold execOverVoltage
  refine hubOn_frame (fun s h => ?_) h
  repeat' first
    | with_reducible assumption
    | (extract_lets -underBinder +onlyGivenNames x; have u : True := (by clear_value x; guard_hyp x :ₛ State; trivial); clear u; refine Frame.cut (m := m) (s0 := s0) (t := x) ?_ ?_; (on_goal 1 => subst x); (on_goal 2 => (intro hx; clear_value x)))
    | (extract_lets -underBinder +onlyGivenNames n; first | clear_value n | subst n)
    | with_reducible refine Frame.ite ?_ ?_
    | with_reducible refine overVoltage_frame s_overVoltage ?_
    | with_reducible refine State.powerDown_frame s_State_powerDown ?_
    | with_reducible refine State.pmbSettle_frame s_State_pmbSettle ?_
    | split

def execTrackDelivery_foot : Nat := 0x2000000
theorem execTrackDelivery_frame (hm : Sub execTrackDelivery_foot m) (h : Frame m s0 s) :
    ∀ a0, ∃ t, execTrackDelivery a0 s = .next t ∧ Frame m s0 t := by
  intro a0
  have s_trackDelivery : Sub trackDelivery_foot m := hm.of (by decide)
  unfold execTrackDelivery
  refine hubOn_frame (fun s h => ?_) h
  repeat' first
    | with_reducible assumption
    | with_reducible refine Frame.ite ?_ ?_
    | with_reducible refine trackDelivery_frame s_trackDelivery ?_ _

def execTrackHoldTimeout_foot : Nat := 0x10000000000000000000000000000000000000000000000000000000000000000000000000000000000000000000000000000000000000000000000000000002000100
theorem execTrackHoldTimeout_frame (hm : Sub execTrackHoldTimeout_foot m) (h : Frame m s0 s) :
    ∃ t, execTrackHoldTimeout s = .next t ∧ Frame m s0 t := by
  have s_trackHoldTimeout : Sub trackHoldTimeout_foot m := hm.of (by decide)
  unfold execTrackHoldTimeout
  refine hubOn_frame (fun s h => ?_) h
  repeat' first
    | with_reducible assumption
    | with_reducible refine Frame.ite ?_ ?_
    | with_reducible refine trackHoldTimeout_frame s_trackHoldTimeout ?_

end Sys2Proof.Machine
end

