-- ==== Sys2Proof/Laws/FrameEstimator.lean ====
section
/-!
SUPPORT. Laws/FrameEstimator.lean: the footprint of every function of Machine/Estimator.lean, and that it writes nothing outside it.
-/
namespace Sys2Proof.Machine

set_option linter.all false

variable {m : Nat} {s0 s : State}

def State.countCycles_foot : Nat := 0x4000
theorem State.countCycles_frame (hm : Sub State.countCycles_foot m) (h : Frame m s0 s) :
    ∀ a1, Frame m s0 (State.countCycles s a1) := by
  intro a1
  have s_State_setCore : Sub State.setCore_foot m := hm.of (by decide)
  unfold State.countCycles
  repeat' first
    | with_reducible assumption
    | (extract_lets -underBinder +onlyGivenNames x; have u : True := (by clear_value x; guard_hyp x :ₛ State; trivial); clear u; refine Frame.cut (m := m) (s0 := s0) (t := x) ?_ ?_; (on_goal 1 => subst x); (on_goal 2 => (intro hx; clear_value x)))
    | (extract_lets -underBinder +onlyGivenNames n; first | clear_value n | subst n)
    | with_reducible refine Frame.ite ?_ ?_
    | with_reducible refine State.setCore_frame s_State_setCore ?_ _ _
    | split

def State.closeVolts_foot : Nat := 0x2000000
theorem State.closeVolts_frame (hm : Sub State.closeVolts_foot m) (h : Frame m s0 s) :
    Frame m s0 (State.closeVolts s) := by
  have c_vrc : m.testBit 25 = true := hm.bit 25 (by decide)
  unfold State.closeVolts
  repeat' first
    | with_reducible assumption
    | (extract_lets -underBinder +onlyGivenNames x; have u : True := (by clear_value x; guard_hyp x :ₛ State; trivial); clear u; refine Frame.cut (m := m) (s0 := s0) (t := x) ?_ ?_; (on_goal 1 => subst x); (on_goal 2 => (intro hx; clear_value x)))
    | (extract_lets -underBinder +onlyGivenNames n; first | clear_value n | subst n)
    | with_reducible refine Frame.ite ?_ ?_
    | with_reducible exact Frame.set_vrc c_vrc (by with_reducible assumption)

def State.cntClearDie_foot : Nat := 0x8000000000000000000000000000000000000000000000000000000000000000000000000000000000000000000000400000000000000000000000000000000000000000000000000200
theorem State.cntClearDie_frame (hm : Sub State.cntClearDie_foot m) (h : Frame m s0 s) :
    Frame m s0 (State.cntClearDie s) := by
  have k_CNT_TAP_VIOL_count : Has m CNT_TAP_VIOL_count := hm.has 19 13 rfl (by decide)
  have k_SNS_TLM_CNT_dup : Has m SNS_TLM_CNT_dup := hm.has 7 13 rfl (by decide)
  have c_cnt : m.testBit 9 = true := hm.bit 9 (by decide)
  unfold State.cntClearDie
  repeat' first
    | with_reducible assumption
    | (extract_lets -underBinder +onlyGivenNames x; have u : True := (by clear_value x; guard_hyp x :ₛ State; trivial); clear u; refine Frame.cut (m := m) (s0 := s0) (t := x) ?_ ?_; (on_goal 1 => subst x); (on_goal 2 => (intro hx; clear_value x)))
    | (extract_lets -underBinder +onlyGivenNames n; first | clear_value n | subst n)
    | with_reducible refine Frame.ite ?_ ?_
    | with_reducible refine wr_frame (by with_reducible assumption) ?_ _ _
    | with_reducible exact Frame.set_cnt c_cnt (by with_reducible assumption)
    | with_reducible refine Frame.foldTo ?_ (fun s x hs => ?_)

def State.cntClearTenant_foot : Nat := 0x200
theorem State.cntClearTenant_frame (hm : Sub State.cntClearTenant_foot m) (h : Frame m s0 s) :
    ∀ a1, Frame m s0 (State.cntClearTenant s a1) := by
  intro a1
  have c_cnt : m.testBit 9 = true := hm.bit 9 (by decide)
  unfold State.cntClearTenant
  repeat' first
    | with_reducible assumption
    | (extract_lets -underBinder +onlyGivenNames x; have u : True := (by clear_value x; guard_hyp x :ₛ State; trivial); clear u; refine Frame.cut (m := m) (s0 := s0) (t := x) ?_ ?_; (on_goal 1 => subst x); (on_goal 2 => (intro hx; clear_value x)))
    | (extract_lets -underBinder +onlyGivenNames n; first | clear_value n | subst n)
    | with_reducible refine Frame.ite ?_ ?_
    | with_reducible exact Frame.set_cnt c_cnt (by with_reducible assumption)

def State.cntClear_foot : Nat := 0x8000000000000000000000000000000000000000000000000000000000000000000000000000000000000000000000400000000000000000000000000000000000000000000000400200
theorem State.cntClear_frame (hm : Sub State.cntClear_foot m) (h : Frame m s0 s) :
    Frame m s0 (State.cntClear s) := by
  have s_State_cntClearDie : Sub State.cntClearDie_foot m := hm.of (by decide)
  have s_State_cntClearTenant : Sub State.cntClearTenant_foot m := hm.of (by decide)
  have c_cntZero : m.testBit 22 = true := hm.bit 22 (by decide)
  unfold State.cntClear
  repeat' first
    | with_reducible assumption
    | (extract_lets -underBinder +onlyGivenNames x; have u : True := (by clear_value x; guard_hyp x :ₛ State; trivial); clear u; refine Frame.cut (m := m) (s0 := s0) (t := x) ?_ ?_; (on_goal 1 => subst x); (on_goal 2 => (intro hx; clear_value x)))
    | (extract_lets -underBinder +onlyGivenNames n; first | clear_value n | subst n)
    | with_reducible refine Frame.ite ?_ ?_
    | with_reducible refine State.cntClearDie_frame s_State_cntClearDie ?_
    | with_reducible refine State.cntClearTenant_frame s_State_cntClearTenant ?_ _
    | with_reducible exact Frame.set_cntZero c_cntZero (by with_reducible assumption)
    | with_reducible refine Frame.foldl ?_ (fun s x hs => ?_)
    | split

def State.publishTenants_foot : Nat := 0x80000
theorem State.publishTenants_frame (hm : Sub State.publishTenants_foot m) (h : Frame m s0 s) :
    ∀ a1, Frame m s0 (State.publishTenants s a1) := by
  intro a1
  have s_State_publish : Sub State.publish_foot m := hm.of (by decide)
  unfold State.publishTenants
  repeat' first
    | with_reducible assumption
    | with_reducible refine Frame.ite ?_ ?_
    | with_reducible refine State.publish_frame s_State_publish ?_ _ _ _ _
    | with_reducible refine Frame.foldTo ?_ (fun s x hs => ?_)

def State.publishTick_foot : Nat := 0x80000
theorem State.publishTick_frame (hm : Sub State.publishTick_foot m) (h : Frame m s0 s) :
    ∀ a1, Frame m s0 (State.publishTick s a1) := by
  intro a1
  have s_State_publish : Sub State.publish_foot m := hm.of (by decide)
  unfold State.publishTick
  repeat' first
    | with_reducible assumption
    | (extract_lets -underBinder +onlyGivenNames x; have u : True := (by clear_value x; guard_hyp x :ₛ State; trivial); clear u; refine Frame.cut (m := m) (s0 := s0) (t := x) ?_ ?_; (on_goal 1 => subst x); (on_goal 2 => (intro hx; clear_value x)))
    | (extract_lets -underBinder +onlyGivenNames n; first | clear_value n | subst n)
    | with_reducible refine Frame.ite ?_ ?_
    | with_reducible refine State.publish_frame s_State_publish ?_ _ _ _ _
    | with_reducible refine Frame.foldl ?_ (fun s x hs => ?_)
    | with_reducible refine Frame.foldTo ?_ (fun s x hs => ?_)

def State.chargeHouse_foot : Nat := 0x8000000
theorem State.chargeHouse_frame (hm : Sub State.chargeHouse_foot m) (h : Frame m s0 s) :
    ∀ a1, Frame m s0 (State.chargeHouse s a1) := by
  intro a1
  have c_acc : m.testBit 27 = true := hm.bit 27 (by decide)
  unfold State.chargeHouse
  repeat' first
    | with_reducible assumption
    | (extract_lets -underBinder +onlyGivenNames x; have u : True := (by clear_value x; guard_hyp x :ₛ State; trivial); clear u; refine Frame.cut (m := m) (s0 := s0) (t := x) ?_ ?_; (on_goal 1 => subst x); (on_goal 2 => (intro hx; clear_value x)))
    | (extract_lets -underBinder +onlyGivenNames n; first | clear_value n | subst n)
    | with_reducible refine Frame.ite ?_ ?_
    | with_reducible exact Frame.set_acc c_acc (by with_reducible assumption)

def State.msBoundary_foot : Nat := 0x60000000000000000000000000000000000000000000000000000010000000000000000000000000000000000000000000000060000
theorem State.msBoundary_frame (hm : Sub State.msBoundary_foot m) (h : Frame m s0 s) :
    Frame m s0 (State.msBoundary s) := by
  have s_State_setTlane : Sub State.setTlane_foot m := hm.of (by decide)
  have s_State_setPh : Sub State.setPh_foot m := hm.of (by decide)
  have k_FCS_ARR_STAT_qmax : Has m FCS_ARR_STAT_qmax := hm.has 12 16 rfl (by decide)
  have k_FCS_ARR_STAT_util : Has m FCS_ARR_STAT_util := hm.has 12 15 rfl (by decide)
  have k_SNS_TLM_STAT_degraded : Has m SNS_TLM_STAT_degraded := hm.has 7 7 rfl (by decide)
  have c_fcs : m.testBit 18 = true := hm.bit 18 (by decide)
  have c_sns : m.testBit 17 = true := hm.bit 17 (by decide)
  unfold State.msBoundary
  repeat' first
    | with_reducible assumption
    | (extract_lets -underBinder +onlyGivenNames x; have u : True := (by clear_value x; guard_hyp x :ₛ State; trivial); clear u; refine Frame.cut (m := m) (s0 := s0) (t := x) ?_ ?_; (on_goal 1 => subst x); (on_goal 2 => (intro hx; clear_value x)))
    | (extract_lets -underBinder +onlyGivenNames n; first | clear_value n | subst n)
    | with_reducible refine Frame.ite ?_ ?_
    | with_reducible refine wr_frame (by with_reducible assumption) ?_ _ _
    | with_reducible refine State.setTlane_frame s_State_setTlane ?_ _ _
    | with_reducible refine State.setPh_frame s_State_setPh ?_ _ _
    | with_reducible exact Frame.set_fcs c_fcs (by with_reducible assumption)
    | with_reducible exact Frame.set_sns c_sns (by with_reducible assumption)
    | with_reducible refine Frame.foldl ?_ (fun s x hs => ?_)
    | with_reducible refine Frame.foldTo ?_ (fun s x hs => ?_)
    | split

def State.closeMs_foot : Nat := 0x8000000
theorem State.closeMs_frame (hm : Sub State.closeMs_foot m) (h : Frame m s0 s) :
    Frame m s0 (State.closeMs s) := by
  have c_acc : m.testBit 27 = true := hm.bit 27 (by decide)
  unfold State.closeMs
  repeat' first
    | with_reducible assumption
    | (extract_lets -underBinder +onlyGivenNames x; have u : True := (by clear_value x; guard_hyp x :ₛ State; trivial); clear u; refine Frame.cut (m := m) (s0 := s0) (t := x) ?_ ?_; (on_goal 1 => subst x); (on_goal 2 => (intro hx; clear_value x)))
    | (extract_lets -underBinder +onlyGivenNames n; first | clear_value n | subst n)
    | with_reducible refine Frame.ite ?_ ?_
    | with_reducible exact Frame.set_acc c_acc (by with_reducible assumption)
    | split

def State.chargeTenant_foot : Nat := 0x8000000
theorem State.chargeTenant_frame (hm : Sub State.chargeTenant_foot m) (h : Frame m s0 s) :
    ∀ a1 a2, Frame m s0 (State.chargeTenant s a1 a2) := by
  intro a1 a2
  have c_acc : m.testBit 27 = true := hm.bit 27 (by decide)
  unfold State.chargeTenant
  repeat' first
    | with_reducible assumption
    | (extract_lets -underBinder +onlyGivenNames x; have u : True := (by clear_value x; guard_hyp x :ₛ State; trivial); clear u; refine Frame.cut (m := m) (s0 := s0) (t := x) ?_ ?_; (on_goal 1 => subst x); (on_goal 2 => (intro hx; clear_value x)))
    | (extract_lets -underBinder +onlyGivenNames n; first | clear_value n | subst n)
    | with_reducible refine Frame.ite ?_ ?_
    | with_reducible exact Frame.set_acc c_acc (by with_reducible assumption)

def State.chargeQueue_foot : Nat := 0x8000000
theorem State.chargeQueue_frame (hm : Sub State.chargeQueue_foot m) (h : Frame m s0 s) :
    ∀ a1 a2, Frame m s0 (State.chargeQueue s a1 a2) := by
  intro a1 a2
  have c_acc : m.testBit 27 = true := hm.bit 27 (by decide)
  unfold State.chargeQueue
  repeat' first
    | with_reducible assumption
    | (extract_lets -underBinder +onlyGivenNames x; have u : True := (by clear_value x; guard_hyp x :ₛ State; trivial); clear u; refine Frame.cut (m := m) (s0 := s0) (t := x) ?_ ?_; (on_goal 1 => subst x); (on_goal 2 => (intro hx; clear_value x)))
    | (extract_lets -underBinder +onlyGivenNames n; first | clear_value n | subst n)
    | with_reducible refine Frame.ite ?_ ?_
    | with_reducible exact Frame.set_acc c_acc (by with_reducible assumption)

def State.chargeRemainder_foot : Nat := 0x8000000
theorem State.chargeRemainder_frame (hm : Sub State.chargeRemainder_foot m) (h : Frame m s0 s) :
    ∀ a1 a2, Frame m s0 (State.chargeRemainder s a1 a2) := by
  intro a1 a2
  have s_State_chargeTenant : Sub State.chargeTenant_foot m := hm.of (by decide)
  have s_State_chargeQueue : Sub State.chargeQueue_foot m := hm.of (by decide)
  have s_State_chargeHouse : Sub State.chargeHouse_foot m := hm.of (by decide)
  unfold State.chargeRemainder
  repeat' first
    | with_reducible assumption
    | (extract_lets -underBinder +onlyGivenNames x; have u : True := (by clear_value x; guard_hyp x :ₛ State; trivial); clear u; refine Frame.cut (m := m) (s0 := s0) (t := x) ?_ ?_; (on_goal 1 => subst x); (on_goal 2 => (intro hx; clear_value x)))
    | (extract_lets -underBinder +onlyGivenNames n; first | clear_value n | subst n)
    | with_reducible refine Frame.ite ?_ ?_
    | with_reducible refine State.chargeTenant_frame s_State_chargeTenant ?_ _ _
    | with_reducible refine State.chargeQueue_frame s_State_chargeQueue ?_ _ _
    | with_reducible refine State.chargeHouse_frame s_State_chargeHouse ?_ _
    | with_reducible refine Frame.foldl ?_ (fun s x hs => ?_)
    | split

def State.chargeRec_foot : Nat := 0x10000200000000000000000000000000000000000000000000000000000000000000000000000000000000000000000000000000000000000000000000000008000100
theorem State.chargeRec_frame (hm : Sub State.chargeRec_foot m) (h : Frame m s0 s) :
    ∀ a1 a2, Frame m s0 (State.chargeRec s a1 a2) := by
  intro a1 a2
  have s_State_chargeTenant : Sub State.chargeTenant_foot m := hm.of (by decide)
  have s_State_chargeQueue : Sub State.chargeQueue_foot m := hm.of (by decide)
  have s_State_emitLim : Sub State.emitLim_foot m := hm.of (by decide)
  have k_ACT_ACC_STAT_stray : Has m ACT_ACC_STAT_stray := hm.has 15 18 rfl (by decide)
  unfold State.chargeRec
  repeat' first
    | with_reducible assumption
    | (extract_lets -underBinder +onlyGivenNames x; have u : True := (by clear_value x; guard_hyp x :ₛ State; trivial); clear u; refine Frame.cut (m := m) (s0 := s0) (t := x) ?_ ?_; (on_goal 1 => subst x); (on_goal 2 => (intro hx; clear_value x)))
    | (extract_lets -underBinder +onlyGivenNames n; first | clear_value n | subst n)
    | with_reducible refine Frame.ite ?_ ?_
    | with_reducible refine bump_frame (by with_reducible assumption) ?_ _
    | with_reducible refine State.chargeTenant_frame s_State_chargeTenant ?_ _ _
    | with_reducible refine State.chargeQueue_frame s_State_chargeQueue ?_ _ _
    | with_reducible refine State.emitLim_frame s_State_emitLim ?_ _ _ _ _ _
    | split

def State.chargeCore_foot : Nat := 0x10000200000000000000000000000000000000000000000000000000000000000000000000000000000000000000000000000000000000000000000000000008000100
theorem State.chargeCore_frame (hm : Sub State.chargeCore_foot m) (h : Frame m s0 s) :
    ∀ a1 a2 a3, Frame m s0 (State.chargeCore s a1 a2 a3) := by
  intro a1 a2 a3
  have s_State_chargeHouse : Sub State.chargeHouse_foot m := hm.of (by decide)
  have s_State_chargeRemainder : Sub State.chargeRemainder_foot m := hm.of (by decide)
  have s_State_chargeRec : Sub State.chargeRec_foot m := hm.of (by decide)
  unfold State.chargeCore
  repeat' first
    | with_reducible assumption
    | (extract_lets -underBinder +onlyGivenNames x; have u : True := (by clear_value x; guard_hyp x :ₛ State; trivial); clear u; refine Frame.cut (m := m) (s0 := s0) (t := x) ?_ ?_; (on_goal 1 => subst x); (on_goal 2 => (intro hx; clear_value x)))
    | (extract_lets -underBinder +onlyGivenNames n; first | clear_value n | subst n)
    | with_reducible refine Frame.ite ?_ ?_
    | with_reducible refine State.chargeHouse_frame s_State_chargeHouse ?_ _
    | with_reducible refine State.chargeRemainder_frame s_State_chargeRemainder ?_ _ _
    | with_reducible refine State.chargeRec_frame s_State_chargeRec ?_ _ _
    | with_reducible refine Frame.foldl ?_ (fun s x hs => ?_)

def State.applyCoefNew_foot : Nat := 0x100000000000000000000000000000000000000000000000000000000000000000000000000000000000000000000000000000000000000000000000060000
theorem State.applyCoefNew_frame (hm : Sub State.applyCoefNew_foot m) (h : Frame m s0 s) :
    Frame m s0 (State.applyCoefNew s) := by
  have k_ACT_COEF_CAL : Has m ACT_COEF_CAL := hm.has 15 5 rfl (by decide)
  have c_fcs : m.testBit 18 = true := hm.bit 18 (by decide)
  have c_sns : m.testBit 17 = true := hm.bit 17 (by decide)
  unfold State.applyCoefNew
  repeat' first
    | with_reducible assumption
    | (extract_lets -underBinder +onlyGivenNames x; have u : True := (by clear_value x; guard_hyp x :ₛ State; trivial); clear u; refine Frame.cut (m := m) (s0 := s0) (t := x) ?_ ?_; (on_goal 1 => subst x); (on_goal 2 => (intro hx; clear_value x)))
    | (extract_lets -underBinder +onlyGivenNames n; first | clear_value n | subst n)
    | with_reducible refine Frame.ite ?_ ?_
    | with_reducible refine wr_frame (by with_reducible assumption) ?_ _ _
    | with_reducible exact Frame.set_sns_fcs c_sns c_fcs (by with_reducible assumption)
    | with_reducible refine Frame.foldTo ?_ (fun s x hs => ?_)
    | split

def State.thmTick_foot : Nat := 0x10000000
theorem State.thmTick_frame (hm : Sub State.thmTick_foot m) (h : Frame m s0 s) :
    ∀ a1, Frame m s0 (State.thmTick s a1) := by
  intro a1
  have c_thm : m.testBit 28 = true := hm.bit 28 (by decide)
  unfold State.thmTick
  repeat' first
    | with_reducible assumption
    | (extract_lets -underBinder +onlyGivenNames x; have u : True := (by clear_value x; guard_hyp x :ₛ State; trivial); clear u; refine Frame.cut (m := m) (s0 := s0) (t := x) ?_ ?_; (on_goal 1 => subst x); (on_goal 2 => (intro hx; clear_value x)))
    | (extract_lets -underBinder +onlyGivenNames n; first | clear_value n | subst n)
    | with_reducible refine Frame.ite ?_ ?_
    | with_reducible exact Frame.set_thm c_thm (by with_reducible assumption)

def estimatorTick_foot : Nat := 0x800000000000001000020110000000000000000006000000000000000000000000000000000018000034000000000041000000000000000000000000000000000000000000001a4e4700
theorem estimatorTick_frame (hm : Sub estimatorTick_foot m) (h : Frame m s0 s) :
    Frame m s0 (estimatorTick s) := by
  have s_State_countCycles : Sub State.countCycles_foot m := hm.of (by decide)
  have s_State_closeVolts : Sub State.closeVolts_foot m := hm.of (by decide)
  have s_State_applyCounts : Sub State.applyCounts_foot m := hm.of (by decide)
  have s_State_deTrack : Sub State.deTrack_foot m := hm.of (by decide)
  have s_State_cntClear : Sub State.cntClear_foot m := hm.of (by decide)
  have s_State_publishTenants : Sub State.publishTenants_foot m := hm.of (by decide)
  have s_State_publishTick : Sub State.publishTick_foot m := hm.of (by decide)
  have s_State_chargeHouse : Sub State.chargeHouse_foot m := hm.of (by decide)
  have s_State_peakTick : Sub State.peakTick_foot m := hm.of (by decide)
  have s_State_setCore : Sub State.setCore_foot m := hm.of (by decide)
  have s_State_msBoundary : Sub State.msBoundary_foot m := hm.of (by decide)
  have s_State_closeMs : Sub State.closeMs_foot m := hm.of (by decide)
  have s_State_chargeCore : Sub State.chargeCore_foot m := hm.of (by decide)
  have s_State_applyCoefNew : Sub State.applyCoefNew_foot m := hm.of (by decide)
  have s_State_count : Sub State.count_foot m := hm.of (by decide)
  have s_State_thmTick : Sub State.thmTick_foot m := hm.of (by decide)
  have k_ACT_EST_DIE : Has m ACT_EST_DIE := hm.has 15 9 rfl (by decide)
  have c_sns : m.testBit 17 = true := hm.bit 17 (by decide)
  unfold estimatorTick
  repeat' first
    | with_reducible assumption
    | (extract_lets -underBinder +onlyGivenNames x; have u : True := (by clear_value x; guard_hyp x :ₛ State; trivial); clear u; refine Frame.cut (m := m) (s0 := s0) (t := x) ?_ ?_; (on_goal 1 => subst x); (on_goal 2 => (intro hx; clear_value x)))
    | (extract_lets -underBinder +onlyGivenNames n; first | clear_value n | subst n)
    | with_reducible refine Frame.ite ?_ ?_
    | with_reducible refine wr_frame (by with_reducible assumption) ?_ _ _
    | with_reducible refine State.countCycles_frame s_State_countCycles ?_ _
    | with_reducible refine State.closeVolts_frame s_State_closeVolts ?_
    | with_reducible refine State.applyCounts_frame s_State_applyCounts ?_
    | with_reducible refine State.deTrack_frame s_State_deTrack ?_
    | with_reducible refine State.cntClear_frame s_State_cntClear ?_
    | with_reducible refine State.publishTenants_frame s_State_publishTenants ?_ _
    | with_reducible refine State.publishTick_frame s_State_publishTick ?_ _
    | with_reducible refine State.chargeHouse_frame s_State_chargeHouse ?_ _
    | with_reducible refine State.peakTick_frame s_State_peakTick ?_
    | with_reducible refine State.setCore_frame s_State_setCore ?_ _ _
    | with_reducible refine State.msBoundary_frame s_State_msBoundary ?_
    | with_reducible refine State.closeMs_frame s_State_closeMs ?_
    | with_reducible refine State.chargeCore_frame s_State_chargeCore ?_ _ _ _
    | with_reducible refine State.applyCoefNew_frame s_State_applyCoefNew ?_
    | with_reducible refine State.count_frame s_State_count ?_ _ _
    | with_reducible refine State.thmTick_frame s_State_thmTick ?_ _
    | with_reducible exact Frame.set_sns c_sns (by with_reducible assumption)
    | with_reducible refine Frame.foldTo ?_ (fun s x hs => ?_)
    | split

def State.thmMeas_foot : Nat := 0x10000000
theorem State.thmMeas_frame (hm : Sub State.thmMeas_foot m) (h : Frame m s0 s) :
    ∀ a1 a2, Frame m s0 (State.thmMeas s a1 a2) := by
  intro a1 a2
  have c_thm : m.testBit 28 = true := hm.bit 28 (by decide)
  unfold State.thmMeas
  repeat' first
    | with_reducible assumption
    | (extract_lets -underBinder +onlyGivenNames x; have u : True := (by clear_value x; guard_hyp x :ₛ State; trivial); clear u; refine Frame.cut (m := m) (s0 := s0) (t := x) ?_ ?_; (on_goal 1 => subst x); (on_goal 2 => (intro hx; clear_value x)))
    | (extract_lets -underBinder +onlyGivenNames n; first | clear_value n | subst n)
    | with_reducible refine Frame.ite ?_ ?_
    | with_reducible exact Frame.set_thm c_thm (by with_reducible assumption)

def State.arrFlags_foot : Nat := 0x10000000000000000000000000018000000000000000000000000000000000000000000000000000000000000000000000000000000000000000000000000000000100
theorem State.arrFlags_frame (hm : Sub State.arrFlags_foot m) (h : Frame m s0 s) :
    ∀ a1 a2 a3, Frame m s0 (State.arrFlags s a1 a2 a3) := by
  intro a1 a2 a3
  have s_State_emit : Sub State.emit_foot m := hm.of (by decide)
  have k_FCS_ARR_STAT_inf : Has m FCS_ARR_STAT_inf := hm.has 12 14 rfl (by decide)
  have k_FCS_ARR_STAT_nan : Has m FCS_ARR_STAT_nan := hm.has 12 13 rfl (by decide)
  unfold State.arrFlags
  repeat' first
    | with_reducible assumption
    | (extract_lets -underBinder +onlyGivenNames x; have u : True := (by clear_value x; guard_hyp x :ₛ State; trivial); clear u; refine Frame.cut (m := m) (s0 := s0) (t := x) ?_ ?_; (on_goal 1 => subst x); (on_goal 2 => (intro hx; clear_value x)))
    | (extract_lets -underBinder +onlyGivenNames n; first | clear_value n | subst n)
    | with_reducible refine Frame.ite ?_ ?_
    | with_reducible refine wr_frame (by with_reducible assumption) ?_ _ _
    | with_reducible refine State.emit_frame s_State_emit ?_ _ _ _
    | split

def State.calReset_foot : Nat := 0x10000000000000000000000000004000000000000000000000000000000000000000000000000000000000000000000000000000000000000000000000000000040100
theorem State.calReset_frame (hm : Sub State.calReset_foot m) (h : Frame m s0 s) :
    ∀ a1 a2, Frame m s0 (State.calReset s a1 a2) := by
  intro a1 a2
  have s_State_emit : Sub State.emit_foot m := hm.of (by decide)
  have k_FCS_CAL_STAT_resets : Has m FCS_CAL_STAT_resets := hm.has 12 12 rfl (by decide)
  have c_fcs : m.testBit 18 = true := hm.bit 18 (by decide)
  unfold State.calReset
  repeat' first
    | with_reducible assumption
    | (extract_lets -underBinder +onlyGivenNames x; have u : True := (by clear_value x; guard_hyp x :ₛ State; trivial); clear u; refine Frame.cut (m := m) (s0 := s0) (t := x) ?_ ?_; (on_goal 1 => subst x); (on_goal 2 => (intro hx; clear_value x)))
    | (extract_lets -underBinder +onlyGivenNames n; first | clear_value n | subst n)
    | with_reducible refine Frame.ite ?_ ?_
    | with_reducible refine bump_frame (by with_reducible assumption) ?_ _
    | with_reducible refine State.emit_frame s_State_emit ?_ _ _ _
    | with_reducible exact Frame.set_fcs c_fcs (by with_reducible assumption)

def State.calUpdate_foot : Nat := 0x1000000000000000000000000001e000000000000000000000000000000000000000000000000000000000000000000000000000000000000000000000000000040100
theorem State.calUpdate_frame (hm : Sub State.calUpdate_foot m) (h : Frame m s0 s) :
    ∀ a1 a2 a3, Frame m s0 (State.calUpdate s a1 a2 a3) := by
  intro a1 a2 a3
  have s_State_arrFlags : Sub State.arrFlags_foot m := hm.of (by decide)
  have s_State_calReset : Sub State.calReset_foot m := hm.of (by decide)
  have k_FCS_CAL_STAT_upd : Has m FCS_CAL_STAT_upd := hm.has 12 11 rfl (by decide)
  have c_fcs : m.testBit 18 = true := hm.bit 18 (by decide)
  unfold State.calUpdate
  repeat' first
    | with_reducible assumption
    | (extract_lets -underBinder +onlyGivenNames x; have u : True := (by clear_value x; guard_hyp x :ₛ State; trivial); clear u; refine Frame.cut (m := m) (s0 := s0) (t := x) ?_ ?_; (on_goal 1 => subst x); (on_goal 2 => (intro hx; clear_value x)))
    | (extract_lets -underBinder +onlyGivenNames n; first | clear_value n | subst n)
    | with_reducible refine Frame.ite ?_ ?_
    | with_reducible refine bump_frame (by with_reducible assumption) ?_ _
    | with_reducible refine State.arrFlags_frame s_State_arrFlags ?_ _ _ _
    | with_reducible refine State.calReset_frame s_State_calReset ?_ _ _
    | with_reducible exact Frame.set_fcs c_fcs (by with_reducible assumption)
    | with_reducible refine Frame.foldl ?_ (fun s x hs => ?_)
    | split

def State.publishPair_foot : Nat := 0x80080080
theorem State.publishPair_frame (hm : Sub State.publishPair_foot m) (h : Frame m s0 s) :
    ∀ a1 a2 a3, Frame m s0 (State.publishPair s a1 a2 a3) := by
  intro a1 a2 a3
  have s_State_bridgeSend : Sub State.bridgeSend_foot m := hm.of (by decide)
  have s_State_publish : Sub State.publish_foot m := hm.of (by decide)
  unfold State.publishPair
  repeat' first
    | with_reducible assumption
    | (extract_lets -underBinder +onlyGivenNames x; have u : True := (by clear_value x; guard_hyp x :ₛ State; trivial); clear u; refine Frame.cut (m := m) (s0 := s0) (t := x) ?_ ?_; (on_goal 1 => subst x); (on_goal 2 => (intro hx; clear_value x)))
    | (extract_lets -underBinder +onlyGivenNames n; first | clear_value n | subst n)
    | with_reducible refine Frame.ite ?_ ?_
    | with_reducible refine State.bridgeSend_frame s_State_bridgeSend ?_ _ _
    | with_reducible refine State.publish_frame s_State_publish ?_ _ _ _ _
    | split

def State.publishMeas_foot : Nat := 0x800a0080
theorem State.publishMeas_frame (hm : Sub State.publishMeas_foot m) (h : Frame m s0 s) :
    ∀ a1, Frame m s0 (State.publishMeas s a1) := by
  intro a1
  have s_State_publish : Sub State.publish_foot m := hm.of (by decide)
  have s_State_publishPair : Sub State.publishPair_foot m := hm.of (by decide)
  have c_sns : m.testBit 17 = true := hm.bit 17 (by decide)
  unfold State.publishMeas
  repeat' first
    | with_reducible assumption
    | (extract_lets -underBinder +onlyGivenNames x; have u : True := (by clear_value x; guard_hyp x :ₛ State; trivial); clear u; refine Frame.cut (m := m) (s0 := s0) (t := x) ?_ ?_; (on_goal 1 => subst x); (on_goal 2 => (intro hx; clear_value x)))
    | (extract_lets -underBinder +onlyGivenNames n; first | clear_value n | subst n)
    | with_reducible refine Frame.ite ?_ ?_
    | with_reducible refine State.publish_frame s_State_publish ?_ _ _ _ _
    | with_reducible refine State.publishPair_frame s_State_publishPair ?_ _ _ _
    | with_reducible exact Frame.set_sns c_sns (by with_reducible assumption)
    | with_reducible refine Frame.foldl ?_ (fun s x hs => ?_)
    | split

def State.noteQc_foot : Nat := 0x8000000
theorem State.noteQc_frame (hm : Sub State.noteQc_foot m) (h : Frame m s0 s) :
    ∀ a1, Frame m s0 (State.noteQc s a1) := by
  intro a1
  have c_acc : m.testBit 27 = true := hm.bit 27 (by decide)
  unfold State.noteQc
  repeat' first
    | with_reducible assumption
    | (extract_lets -underBinder +onlyGivenNames x; have u : True := (by clear_value x; guard_hyp x :ₛ State; trivial); clear u; refine Frame.cut (m := m) (s0 := s0) (t := x) ?_ ?_; (on_goal 1 => subst x); (on_goal 2 => (intro hx; clear_value x)))
    | (extract_lets -underBinder +onlyGivenNames n; first | clear_value n | subst n)
    | with_reducible refine Frame.ite ?_ ?_
    | with_reducible exact Frame.set_acc c_acc (by with_reducible assumption)
    | split

def State.lowPower_foot : Nat := 0x20000
theorem State.lowPower_frame (hm : Sub State.lowPower_foot m) (h : Frame m s0 s) :
    ∀ a1, Frame m s0 (State.lowPower s a1) := by
  intro a1
  have c_sns : m.testBit 17 = true := hm.bit 17 (by decide)
  unfold State.lowPower
  repeat' first
    | with_reducible assumption
    | (extract_lets -underBinder +onlyGivenNames x; have u : True := (by clear_value x; guard_hyp x :ₛ State; trivial); clear u; refine Frame.cut (m := m) (s0 := s0) (t := x) ?_ ?_; (on_goal 1 => subst x); (on_goal 2 => (intro hx; clear_value x)))
    | (extract_lets -underBinder +onlyGivenNames n; first | clear_value n | subst n)
    | with_reducible refine Frame.ite ?_ ?_
    | with_reducible exact Frame.set_sns c_sns (by with_reducible assumption)
    | split

def measFinalise_foot : Nat := 0x1000000600000000000000000001e0000000000000000000000000000000000000000000000000000000000000000000000000000000000000000000000000980e0180
theorem measFinalise_frame (hm : Sub measFinalise_foot m) (h : Frame m s0 s) :
    Frame m s0 (measFinalise s) := by
  have s_State_lowPower : Sub State.lowPower_foot m := hm.of (by decide)
  have s_State_thmMeas : Sub State.thmMeas_foot m := hm.of (by decide)
  have s_State_publishMeas : Sub State.publishMeas_foot m := hm.of (by decide)
  have s_State_noteQc : Sub State.noteQc_foot m := hm.of (by decide)
  have s_State_calUpdate : Sub State.calUpdate_foot m := hm.of (by decide)
  have k_ACT_MEAS_DIE : Has m ACT_MEAS_DIE := hm.has 15 10 rfl (by decide)
  have k_ACT_MEAS_FILL : Has m ACT_MEAS_FILL := hm.has 15 11 rfl (by decide)
  have c_acc : m.testBit 27 = true := hm.bit 27 (by decide)
  have c_sns : m.testBit 17 = true := hm.bit 17 (by decide)
  unfold measFinalise
  repeat' first
    | with_reducible assumption
    | (extract_lets -underBinder +onlyGivenNames x; have u : True := (by clear_value x; guard_hyp x :ₛ State; trivial); clear u; refine Frame.cut (m := m) (s0 := s0) (t := x) ?_ ?_; (on_goal 1 => subst x); (on_goal 2 => (intro hx; clear_value x)))
    | (extract_lets -underBinder +onlyGivenNames n; first | clear_value n | subst n)
    | with_reducible refine Frame.ite ?_ ?_
    | with_reducible refine wr_frame (by with_reducible assumption) ?_ _ _
    | with_reducible refine State.lowPower_frame s_State_lowPower ?_ _
    | with_reducible refine State.thmMeas_frame s_State_thmMeas ?_ _ _
    | with_reducible refine State.publishMeas_frame s_State_publishMeas ?_ _
    | with_reducible refine State.noteQc_frame s_State_noteQc ?_ _
    | with_reducible refine State.calUpdate_frame s_State_calUpdate ?_ _ _ _
    | with_reducible exact Frame.set_sns_acc c_sns c_acc (by with_reducible assumption)
    | split

def calibrationApply_foot : Nat := 0x10000000100000000000000000000000000000000000000000000000000000000000000000000000000000000000000000000000000000000000000000000000000100
theorem calibrationApply_frame (hm : Sub calibrationApply_foot m) (h : Frame m s0 s) :
    Frame m s0 (calibrationApply s) := by
  have s_State_emitLim : Sub State.emitLim_foot m := hm.of (by decide)
  have k_ACT_COEF_CAL : Has m ACT_COEF_CAL := hm.has 15 5 rfl (by decide)
  unfold calibrationApply
  repeat' first
    | with_reducible assumption
    | (extract_lets -underBinder +onlyGivenNames x; have u : True := (by clear_value x; guard_hyp x :ₛ State; trivial); clear u; refine Frame.cut (m := m) (s0 := s0) (t := x) ?_ ?_; (on_goal 1 => subst x); (on_goal 2 => (intro hx; clear_value x)))
    | (extract_lets -underBinder +onlyGivenNames n; first | clear_value n | subst n)
    | with_reducible refine Frame.ite ?_ ?_
    | with_reducible refine wr_frame (by with_reducible assumption) ?_ _ _
    | with_reducible refine State.emitLim_frame s_State_emitLim ?_ _ _ _ _ _
    | with_reducible refine Frame.foldTo ?_ (fun s x hs => ?_)
    | split

def anchorPublish_foot : Nat := 0x10000000000000000000000000000000000000000000000000000000000000000000000000000030000000000000000000000000000000000000000000000010020100
theorem anchorPublish_frame (hm : Sub anchorPublish_foot m) (h : Frame m s0 s) :
    Frame m s0 (anchorPublish s) := by
  have s_State_emit : Sub State.emit_foot m := hm.of (by decide)
  have k_SNS_ANC_fault : Has m SNS_ANC_fault := hm.has 7 20 rfl (by decide)
  have k_SNS_ANC_value : Has m SNS_ANC_value := hm.has 7 19 rfl (by decide)
  have c_sns : m.testBit 17 = true := hm.bit 17 (by decide)
  have c_thm : m.testBit 28 = true := hm.bit 28 (by decide)
  unfold anchorPublish
  repeat' first
    | with_reducible assumption
    | (extract_lets -underBinder +onlyGivenNames x; have u : True := (by clear_value x; guard_hyp x :ₛ State; trivial); clear u; refine Frame.cut (m := m) (s0 := s0) (t := x) ?_ ?_; (on_goal 1 => subst x); (on_goal 2 => (intro hx; clear_value x)))
    | (extract_lets -underBinder +onlyGivenNames n; first | clear_value n | subst n)
    | with_reducible refine Frame.ite ?_ ?_
    | with_reducible refine wr_frame (by with_reducible assumption) ?_ _ _
    | with_reducible refine State.emit_frame s_State_emit ?_ _ _ _
    | with_reducible exact Frame.set_sns c_sns (by with_reducible assumption)
    | with_reducible exact Frame.set_thm c_thm (by with_reducible assumption)
    | with_reducible refine Frame.foldTo ?_ (fun s x hs => ?_)
    | split

def execMeasFinalise_foot : Nat := 0x1000000600000000000000000001e0000000000000000000000000000000000000000000000000000000000000000000000000000000000000000000000000980e0180
theorem execMeasFinalise_frame (hm : Sub execMeasFinalise_foot m) (h : Frame m s0 s) :
    ∃ t, execMeasFinalise s = .next t ∧ Frame m s0 t := by
  have s_measFinalise : Sub measFinalise_foot m := hm.of (by decide)
  unfold execMeasFinalise
  refine hubOn_frame (fun s h => ?_) h
  repeat' first
    | with_reducible assumption
    | with_reducible refine Frame.ite ?_ ?_
    | with_reducible refine measFinalise_frame s_measFinalise ?_

def execCalibrationApply_foot : Nat := 0x10000000100000000000000000000000000000000000000000000000000000000000000000000000000000000000000000000000000000000000000000000000000100
theorem execCalibrationApply_frame (hm : Sub execCalibrationApply_foot m) (h : Frame m s0 s) :
    ∃ t, execCalibrationApply s = .next t ∧ Frame m s0 t := by
  have s_calibrationApply : Sub calibrationApply_foot m := hm.of (by decide)
  unfold execCalibrationApply
  refine hubOn_frame (fun s h => ?_) h
  repeat' first
    | with_reducible assumption
    | with_reducible refine Frame.ite ?_ ?_
    | with_reducible refine calibrationApply_frame s_calibrationApply ?_

def execAnchorPublish_foot : Nat := 0x10000000000000000000000000000000000000000000000000000000000000000000000000000030000000000000000000000000000000000000000000000010020100
theorem execAnchorPublish_frame (hm : Sub execAnchorPublish_foot m) (h : Frame m s0 s) :
    ∃ t, execAnchorPublish s = .next t ∧ Frame m s0 t := by
  have s_anchorPublish : Sub anchorPublish_foot m := hm.of (by decide)
  unfold execAnchorPublish
  refine hubOn_frame (fun s h => ?_) h
  repeat' first
    | with_reducible assumption
    | with_reducible refine Frame.ite ?_ ?_
    | with_reducible refine anchorPublish_frame s_anchorPublish ?_

end Sys2Proof.Machine
end

