-- ==== Sys2Proof/Laws/FrameForecast.lean ====
section
/-!
SUPPORT. Laws/FrameForecast.lean: the footprint of every function of Machine/Forecast.lean, and that it writes nothing outside it.
-/
namespace Sys2Proof.Machine

set_option linter.all false

variable {m : Nat} {s0 s : State}

def State.setLn_foot : Nat := 0x1000000000000000003f00018c000000000000000000000000000000000000000000000000000000000000000000000000000000000000000000000000000000044500
theorem State.setLn_frame (hm : Sub State.setLn_foot m) (h : Frame m s0 s) :
    ∀ a1 a2, Frame m s0 (State.setLn s a1 a2) := by
  intro a1 a2
  have s_State_setCore : Sub State.setCore_foot m := hm.of (by decide)
  have s_State_moveFallback : Sub State.moveFallback_foot m := hm.of (by decide)
  have k_FCS_CORE_ln : Has m FCS_CORE_ln := hm.has 12 24 rfl (by decide)
  unfold State.setLn
  repeat' first
    | with_reducible assumption
    | (extract_lets -underBinder +onlyGivenNames x; have u : True := (by clear_value x; guard_hyp x :ₛ State; trivial); clear u; refine Frame.cut (m := m) (s0 := s0) (t := x) ?_ ?_; (on_goal 1 => subst x); (on_goal 2 => (intro hx; clear_value x)))
    | (extract_lets -underBinder +onlyGivenNames n; first | clear_value n | subst n)
    | with_reducible refine Frame.ite ?_ ?_
    | with_reducible refine wr_frame (by with_reducible assumption) ?_ _ _
    | with_reducible refine State.setCore_frame s_State_setCore ?_ _ _
    | with_reducible refine State.moveFallback_frame s_State_moveFallback ?_ _ _ _
    | split

def State.setSlot_foot : Nat := 0x1c00000000000000000000000000000000000000000000000000000000000000000000000000000000000000000000000001000040000
theorem State.setSlot_frame (hm : Sub State.setSlot_foot m) (h : Frame m s0 s) :
    ∀ a1 a2 a3, Frame m s0 (State.setSlot s a1 a2 a3) := by
  intro a1 a2 a3
  have k_FCS_SLOT_ID_ident : Has m FCS_SLOT_ID_ident := hm.has 12 22 rfl (by decide)
  have k_FCS_SLOT_mode : Has m FCS_SLOT_mode := hm.has 12 21 rfl (by decide)
  have k_FCS_SLOT_state : Has m FCS_SLOT_state := hm.has 12 20 rfl (by decide)
  have c_fcs : m.testBit 18 = true := hm.bit 18 (by decide)
  have c_hub : m.testBit 36 = true := hm.bit 36 (by decide)
  unfold State.setSlot
  repeat' first
    | with_reducible assumption
    | (extract_lets -underBinder +onlyGivenNames x; have u : True := (by clear_value x; guard_hyp x :ₛ State; trivial); clear u; refine Frame.cut (m := m) (s0 := s0) (t := x) ?_ ?_; (on_goal 1 => subst x); (on_goal 2 => (intro hx; clear_value x)))
    | (extract_lets -underBinder +onlyGivenNames n; first | clear_value n | subst n)
    | with_reducible refine Frame.ite ?_ ?_
    | with_reducible refine wr_frame (by with_reducible assumption) ?_ _ _
    | with_reducible exact Frame.set_fcs c_fcs (by with_reducible assumption)
    | with_reducible exact Frame.set_hub c_hub (by with_reducible assumption)
    | split

def State.skipStopped_foot : Nat := 0x40000
theorem State.skipStopped_frame (hm : Sub State.skipStopped_foot m) (h : Frame m s0 s) :
    ∀ a1, Frame m s0 (State.skipStopped s a1) := by
  intro a1
  have s_State_setFc : Sub State.setFc_foot m := hm.of (by decide)
  have s_State_formFF : Sub State.formFF_foot m := hm.of (by decide)
  unfold State.skipStopped
  repeat' first
    | with_reducible assumption
    | (extract_lets -underBinder +onlyGivenNames x; have u : True := (by clear_value x; guard_hyp x :ₛ State; trivial); clear u; refine Frame.cut (m := m) (s0 := s0) (t := x) ?_ ?_; (on_goal 1 => subst x); (on_goal 2 => (intro hx; clear_value x)))
    | (extract_lets -underBinder +onlyGivenNames n; first | clear_value n | subst n)
    | with_reducible refine Frame.ite ?_ ?_
    | with_reducible refine State.setFc_frame s_State_setFc ?_ _ _
    | with_reducible refine State.formFF_frame s_State_formFF ?_

def periodicSnapshot_foot : Nat := 0x180000000000000000000000000000000000000000000000000000000000000000000000000000000000000000000000000000000040400
theorem periodicSnapshot_frame (hm : Sub periodicSnapshot_foot m) (h : Frame m s0 s) :
    ∀ a0, Frame m s0 (periodicSnapshot a0 s) := by
  intro a0
  have s_State_skipStopped : Sub State.skipStopped_foot m := hm.of (by decide)
  have s_State_snapshot : Sub State.snapshot_foot m := hm.of (by decide)
  unfold periodicSnapshot
  repeat' first
    | with_reducible assumption
    | (extract_lets -underBinder +onlyGivenNames x; have u : True := (by clear_value x; guard_hyp x :ₛ State; trivial); clear u; refine Frame.cut (m := m) (s0 := s0) (t := x) ?_ ?_; (on_goal 1 => subst x); (on_goal 2 => (intro hx; clear_value x)))
    | (extract_lets -underBinder +onlyGivenNames n; first | clear_value n | subst n)
    | with_reducible refine Frame.ite ?_ ?_
    | with_reducible refine State.skipStopped_frame s_State_skipStopped ?_ _
    | with_reducible refine State.snapshot_frame s_State_snapshot ?_ _
    | split

def promptSnapshot_foot : Nat := 0x180000000000000000000000000000000000000000000000000000000000000000000000000000000000000000000000000000000040400
theorem promptSnapshot_frame (hm : Sub promptSnapshot_foot m) (h : Frame m s0 s) :
    ∀ a0, Frame m s0 (promptSnapshot a0 s) := by
  intro a0
  have s_State_snapshot : Sub State.snapshot_foot m := hm.of (by decide)
  unfold promptSnapshot
  repeat' first
    | with_reducible assumption
    | (extract_lets -underBinder +onlyGivenNames x; have u : True := (by clear_value x; guard_hyp x :ₛ State; trivial); clear u; refine Frame.cut (m := m) (s0 := s0) (t := x) ?_ ?_; (on_goal 1 => subst x); (on_goal 2 => (intro hx; clear_value x)))
    | (extract_lets -underBinder +onlyGivenNames n; first | clear_value n | subst n)
    | with_reducible refine Frame.ite ?_ ?_
    | with_reducible refine State.snapshot_frame s_State_snapshot ?_ _
    | split

def forecastOutput_foot : Nat := 0x700000000010000000000000000000000000018000000000000000000000000000000000000000000000000000000000000000000000000000000000000000000000000000140100
theorem forecastOutput_frame (hm : Sub forecastOutput_foot m) (h : Frame m s0 s) :
    ∀ a0, Frame m s0 (forecastOutput a0 s) := by
  intro a0
  have s_State_arrFlags : Sub State.arrFlags_foot m := hm.of (by decide)
  have s_State_setFc : Sub State.setFc_foot m := hm.of (by decide)
  have s_State_outputArrived : Sub State.outputArrived_foot m := hm.of (by decide)
  have s_State_formFF : Sub State.formFF_foot m := hm.of (by decide)
  have c_fcs : m.testBit 18 = true := hm.bit 18 (by decide)
  unfold forecastOutput
  repeat' first
    | with_reducible assumption
    | (extract_lets -underBinder +onlyGivenNames x; have u : True := (by clear_value x; guard_hyp x :ₛ State; trivial); clear u; refine Frame.cut (m := m) (s0 := s0) (t := x) ?_ ?_; (on_goal 1 => subst x); (on_goal 2 => (intro hx; clear_value x)))
    | (extract_lets -underBinder +onlyGivenNames n; first | clear_value n | subst n)
    | with_reducible refine Frame.ite ?_ ?_
    | with_reducible refine State.arrFlags_frame s_State_arrFlags ?_ _ _ _
    | with_reducible refine State.setFc_frame s_State_setFc ?_ _ _
    | with_reducible refine State.outputArrived_frame s_State_outputArrived ?_ _ _ _
    | with_reducible refine State.formFF_frame s_State_formFF ?_
    | with_reducible exact Frame.set_fcs c_fcs (by with_reducible assumption)
    | split

def lnModeChange_foot : Nat := 0x1000000000000000003f00018c000000000000000000000000000000000000000000000000000000000000000000000000000000000000000000000000000000044500
theorem lnModeChange_frame (hm : Sub lnModeChange_foot m) (h : Frame m s0 s) :
    ∀ a0 a1, Frame m s0 (lnModeChange a0 a1 s) := by
  intro a0 a1
  have s_State_setLn : Sub State.setLn_foot m := hm.of (by decide)
  unfold lnModeChange
  repeat' first
    | with_reducible assumption
    | with_reducible refine Frame.ite ?_ ?_
    | with_reducible refine State.setLn_frame s_State_setLn ?_ _ _
    | split

def execPeriodicSnapshot_foot : Nat := 0x180000000000000000000000000000000000000000000000000000000000000000000000000000000000000000000000000000000040400
theorem execPeriodicSnapshot_frame (hm : Sub execPeriodicSnapshot_foot m) (h : Frame m s0 s) :
    ∀ a0, ∃ t, execPeriodicSnapshot a0 s = .next t ∧ Frame m s0 t := by
  intro a0
  have s_periodicSnapshot : Sub periodicSnapshot_foot m := hm.of (by decide)
  unfold execPeriodicSnapshot
  refine hubOn_frame (fun s h => ?_) h
  repeat' first
    | with_reducible assumption
    | with_reducible refine Frame.ite ?_ ?_
    | with_reducible refine periodicSnapshot_frame s_periodicSnapshot ?_ _

def execPromptSnapshot_foot : Nat := 0x180000000000000000000000000000000000000000000000000000000000000000000000000000000000000000000000000000000040400
theorem execPromptSnapshot_frame (hm : Sub execPromptSnapshot_foot m) (h : Frame m s0 s) :
    ∀ a0, ∃ t, execPromptSnapshot a0 s = .next t ∧ Frame m s0 t := by
  intro a0
  have s_promptSnapshot : Sub promptSnapshot_foot m := hm.of (by decide)
  unfold execPromptSnapshot
  refine hubOn_frame (fun s h => ?_) h
  repeat' first
    | with_reducible assumption
    | with_reducible refine Frame.ite ?_ ?_
    | with_reducible refine promptSnapshot_frame s_promptSnapshot ?_ _

def execForecastOutput_foot : Nat := 0x700000000010000000000000000000000000018000000000000000000000000000000000000000000000000000000000000000000000000000000000000000000000000000140100
theorem execForecastOutput_frame (hm : Sub execForecastOutput_foot m) (h : Frame m s0 s) :
    ∀ a0, ∃ t, execForecastOutput a0 s = .next t ∧ Frame m s0 t := by
  intro a0
  have s_forecastOutput : Sub forecastOutput_foot m := hm.of (by decide)
  unfold execForecastOutput
  refine hubOn_frame (fun s h => ?_) h
  repeat' first
    | with_reducible assumption
    | with_reducible refine Frame.ite ?_ ?_
    | with_reducible refine forecastOutput_frame s_forecastOutput ?_ _

def execLnModeChange_foot : Nat := 0x1000000000000000003f00018c000000000000000000000000000000000000000000000000000000000000000000000000000000000000000000000000000000044500
theorem execLnModeChange_frame (hm : Sub execLnModeChange_foot m) (h : Frame m s0 s) :
    ∀ a0 a1, ∃ t, execLnModeChange a0 a1 s = .next t ∧ Frame m s0 t := by
  intro a0 a1
  have s_lnModeChange : Sub lnModeChange_foot m := hm.of (by decide)
  unfold execLnModeChange
  refine hubOn_frame (fun s h => ?_) h
  repeat' first
    | with_reducible assumption
    | with_reducible refine Frame.ite ?_ ?_
    | with_reducible refine lnModeChange_frame s_lnModeChange ?_ _ _

end Sys2Proof.Machine
end

