-- ==== Sys2Proof/Laws/FrameLoop.lean ====
section
/-!
SUPPORT. Laws/FrameLoop.lean: the footprint of every function of Machine/Loop.lean, and that it writes nothing outside it.
-/
namespace Sys2Proof.Machine

set_option linter.all false

variable {m : Nat} {s0 s : State}

def State.lpeBoundary_foot : Nat := 0x10000000000000000000070000000000000000000000000000000000000000000000000000000000000000000000000000000000000000000000000000000000080100
theorem State.lpeBoundary_frame (hm : Sub State.lpeBoundary_foot m) (h : Frame m s0 s) :
    Frame m s0 (State.lpeBoundary s) := by
  have s_State_emit : Sub State.emit_foot m := hm.of (by decide)
  have k_LPE_LOAD_qmax : Has m LPE_LOAD_qmax := hm.has 13 8 rfl (by decide)
  have k_LPE_LOAD_stall : Has m LPE_LOAD_stall := hm.has 13 7 rfl (by decide)
  have k_LPE_LOAD_util : Has m LPE_LOAD_util := hm.has 13 6 rfl (by decide)
  have c_lpe : m.testBit 19 = true := hm.bit 19 (by decide)
  unfold State.lpeBoundary
  repeat' first
    | with_reducible assumption
    | (extract_lets -underBinder +onlyGivenNames x; have u : True := (by clear_value x; guard_hyp x :ₛ State; trivial); clear u; refine Frame.cut (m := m) (s0 := s0) (t := x) ?_ ?_; (on_goal 1 => subst x); (on_goal 2 => (intro hx; clear_value x)))
    | (extract_lets -underBinder +onlyGivenNames n; first | clear_value n | subst n)
    | with_reducible refine Frame.ite ?_ ?_
    | with_reducible refine wr_frame (by with_reducible assumption) ?_ _ _
    | with_reducible refine State.emit_frame s_State_emit ?_ _ _ _
    | with_reducible exact Frame.set_lpe c_lpe (by with_reducible assumption)
    | split

def State.setFlagBit_foot : Nat := 0x0
theorem State.setFlagBit_frame (hm : Sub State.setFlagBit_foot m) {f : Fld} (kf : Has m f) (h : Frame m s0 s) :
    ∀ a2 a3, Frame m s0 (State.setFlagBit s f a2 a3) := by
  intro a2 a3
  unfold State.setFlagBit
  repeat' first
    | with_reducible assumption
    | with_reducible refine Frame.ite ?_ ?_
    | with_reducible refine wr_frame (by with_reducible assumption) ?_ _ _

def State.skipRelease_foot : Nat := 0x802000000000000000000000000000000000000000000000000000000000000000000000000000000000000000000000000000000000080000
theorem State.skipRelease_frame (hm : Sub State.skipRelease_foot m) (h : Frame m s0 s) :
    ∀ a1, Frame m s0 (State.skipRelease s a1) := by
  intro a1
  have s_State_setFlagBit : Sub State.setFlagBit_foot m := hm.of (by decide)
  have s_State_setCtx : Sub State.setCtx_foot m := hm.of (by decide)
  have k_LPE_OVR : Has m LPE_OVR := hm.has 13 13 rfl (by decide)
  have k_LPE_STAT_skips : Has m LPE_STAT_skips := hm.has 13 3 rfl (by decide)
  have c_lpe : m.testBit 19 = true := hm.bit 19 (by decide)
  unfold State.skipRelease
  repeat' first
    | with_reducible assumption
    | (extract_lets -underBinder +onlyGivenNames x; have u : True := (by clear_value x; guard_hyp x :ₛ State; trivial); clear u; refine Frame.cut (m := m) (s0 := s0) (t := x) ?_ ?_; (on_goal 1 => subst x); (on_goal 2 => (intro hx; clear_value x)))
    | (extract_lets -underBinder +onlyGivenNames n; first | clear_value n | subst n)
    | with_reducible refine Frame.ite ?_ ?_
    | with_reducible refine bump_frame (by with_reducible assumption) ?_ _
    | with_reducible refine State.setFlagBit_frame s_State_setFlagBit (by with_reducible assumption) ?_ _ _
    | with_reducible refine State.setCtx_frame s_State_setCtx ?_ _ _
    | with_reducible exact Frame.set_lpe c_lpe (by with_reducible assumption)
    | split

def loopRelease_foot : Nat := 0x802000000000000000000000000000000000000000000000000000000000000000000000000000000000000000000400000000008000080000
theorem loopRelease_frame (hm : Sub loopRelease_foot m) (h : Frame m s0 s) :
    ∀ a0 a1, Frame m s0 (loopRelease a0 a1 s) := by
  intro a0 a1
  have s_State_skipRelease : Sub State.skipRelease_foot m := hm.of (by decide)
  have s_State_crossOvr : Sub State.crossOvr_foot m := hm.of (by decide)
  have c_lpe : m.testBit 19 = true := hm.bit 19 (by decide)
  unfold loopRelease
  repeat' first
    | with_reducible assumption
    | (extract_lets -underBinder +onlyGivenNames x; have u : True := (by clear_value x; guard_hyp x :ₛ State; trivial); clear u; refine Frame.cut (m := m) (s0 := s0) (t := x) ?_ ?_; (on_goal 1 => subst x); (on_goal 2 => (intro hx; clear_value x)))
    | (extract_lets -underBinder +onlyGivenNames n; first | clear_value n | subst n)
    | with_reducible refine Frame.ite ?_ ?_
    | with_reducible refine State.skipRelease_frame s_State_skipRelease ?_ _
    | with_reducible refine State.crossOvr_frame s_State_crossOvr ?_ _
    | with_reducible exact Frame.set_lpe c_lpe (by with_reducible assumption)
    | split

def loopSkip_foot : Nat := 0x802000000000000000000000000000000000000000000000000000000000000000000000000000000000000000000000000000000000080000
theorem loopSkip_frame (hm : Sub loopSkip_foot m) (h : Frame m s0 s) :
    Frame m s0 (loopSkip s) := by
  have s_State_skipRelease : Sub State.skipRelease_foot m := hm.of (by decide)
  have c_lpe : m.testBit 19 = true := hm.bit 19 (by decide)
  unfold loopSkip
  repeat' first
    | with_reducible assumption
    | (extract_lets -underBinder +onlyGivenNames x; have u : True := (by clear_value x; guard_hyp x :ₛ State; trivial); clear u; refine Frame.cut (m := m) (s0 := s0) (t := x) ?_ ?_; (on_goal 1 => subst x); (on_goal 2 => (intro hx; clear_value x)))
    | (extract_lets -underBinder +onlyGivenNames n; first | clear_value n | subst n)
    | with_reducible refine Frame.ite ?_ ?_
    | with_reducible refine State.skipRelease_frame s_State_skipRelease ?_ _
    | with_reducible exact Frame.set_lpe c_lpe (by with_reducible assumption)
    | split

def State.fbEvent_foot : Nat := 0x10000000000000000000000000000000000000000000000000000000000000000000000000000000000000000000000000000000000000000000000000000000000100
theorem State.fbEvent_frame (hm : Sub State.fbEvent_foot m) (h : Frame m s0 s) :
    ∀ a1 a2 a3 a4, Frame m s0 (State.fbEvent s a1 a2 a3 a4) := by
  intro a1 a2 a3 a4
  have s_State_emitLim : Sub State.emitLim_foot m := hm.of (by decide)
  unfold State.fbEvent
  repeat' first
    | with_reducible assumption
    | with_reducible refine Frame.ite ?_ ?_
    | with_reducible refine State.emitLim_frame s_State_emitLim ?_ _ _ _ _ _

def State.onAlternate_foot : Nat := 0x10000000000000000000000000000000000000000000000000000000000000000000000000000000000000000000000000000000000000000000000000000000000100
theorem State.onAlternate_frame (hm : Sub State.onAlternate_foot m) (h : Frame m s0 s) :
    ∀ a1 a2 a3 a4, Frame m s0 (State.onAlternate s a1 a2 a3 a4).1 := by
  intro a1 a2 a3 a4
  have s_State_fbEvent : Sub State.fbEvent_foot m := hm.of (by decide)
  unfold State.onAlternate
  repeat' first
    | with_reducible assumption
    | (extract_lets -underBinder +onlyGivenNames x; have u : True := (by clear_value x; guard_hyp x :ₛ State; trivial); clear u; refine Frame.cut (m := m) (s0 := s0) (t := x) ?_ ?_; (on_goal 1 => subst x); (on_goal 2 => (intro hx; clear_value x)))
    | (extract_lets -underBinder +onlyGivenNames x; have u : True := (by clear_value x; guard_hyp x :ₛ State × Ctx × Run; trivial); clear u; refine Frame.cut (m := m) (s0 := s0) (t := x.1) ?_ ?_; (on_goal 1 => subst x); (on_goal 2 => (intro hx; clear_value x)))
    | (extract_lets -underBinder +onlyGivenNames n; first | clear_value n | subst n)
    | with_reducible refine Frame.ite ?_ ?_
    | with_reducible refine State.fbEvent_frame s_State_fbEvent ?_ _ _ _ _
    | with_reducible refine Frame.iteFst ?_ ?_
    | with_reducible refine Frame.ofFst (by with_reducible assumption) ?_
    | split
    | dsimp -zeta only

def State.faultRun_foot : Nat := 0x10000000000000000000000000000000000000000000000000000000000000000000000000000000000000000000000000000000000000000000000000000000000100
theorem State.faultRun_frame (hm : Sub State.faultRun_foot m) (h : Frame m s0 s) :
    ∀ a1 a2 a3 a4, Frame m s0 (State.faultRun s a1 a2 a3 a4).1 := by
  intro a1 a2 a3 a4
  have s_State_onAlternate : Sub State.onAlternate_foot m := hm.of (by decide)
  unfold State.faultRun
  repeat' first
    | with_reducible assumption
    | (extract_lets -underBinder +onlyGivenNames x; have u : True := (by clear_value x; guard_hyp x :ₛ State × Ctx × Run; trivial); clear u; refine Frame.cut (m := m) (s0 := s0) (t := x.1) ?_ ?_; (on_goal 1 => subst x); (on_goal 2 => (intro hx; clear_value x)))
    | with_reducible refine Frame.ite ?_ ?_
    | with_reducible refine State.onAlternate_frame s_State_onAlternate ?_ _ _ _ _
    | with_reducible refine Frame.iteFst ?_ ?_
    | with_reducible refine Frame.ofFst (by with_reducible assumption) ?_
    | split
    | dsimp -zeta only

def State.feedback_foot : Nat := 0x10000000000000000000008000000000000000000000000000000000000000000000000000000000000000000000000000000000000000000000000000000000000100
theorem State.feedback_frame (hm : Sub State.feedback_foot m) (h : Frame m s0 s) :
    ∀ a1 a2 a3 a4 a5, Frame m s0 (State.feedback s a1 a2 a3 a4 a5).1 := by
  intro a1 a2 a3 a4 a5
  have s_State_faultRun : Sub State.faultRun_foot m := hm.of (by decide)
  have s_State_fbEvent : Sub State.fbEvent_foot m := hm.of (by decide)
  have s_State_emit : Sub State.emit_foot m := hm.of (by decide)
  have k_LPE_STAT_fb : Has m LPE_STAT_fb := hm.has 13 5 rfl (by decide)
  unfold State.feedback
  repeat' first
    | with_reducible assumption
    | (extract_lets -underBinder +onlyGivenNames x; have u : True := (by clear_value x; guard_hyp x :ₛ State; trivial); clear u; refine Frame.cut (m := m) (s0 := s0) (t := x) ?_ ?_; (on_goal 1 => subst x); (on_goal 2 => (intro hx; clear_value x)))
    | (extract_lets -underBinder +onlyGivenNames x; have u : True := (by clear_value x; guard_hyp x :ₛ State × Ctx × Run; trivial); clear u; refine Frame.cut (m := m) (s0 := s0) (t := x.1) ?_ ?_; (on_goal 1 => subst x); (on_goal 2 => (intro hx; clear_value x)))
    | (extract_lets -underBinder +onlyGivenNames n; first | clear_value n | subst n)
    | with_reducible refine Frame.ite ?_ ?_
    | with_reducible refine bump_frame (by with_reducible assumption) ?_ _
    | with_reducible refine State.faultRun_frame s_State_faultRun ?_ _ _ _ _
    | with_reducible refine State.fbEvent_frame s_State_fbEvent ?_ _ _ _ _
    | with_reducible refine State.emit_frame s_State_emit ?_ _ _ _
    | with_reducible refine Frame.iteFst ?_ ?_
    | with_reducible refine Frame.ofFst (by with_reducible assumption) ?_
    | split
    | dsimp -zeta only

def State.evalPI_foot : Nat := 0x1000000000000000003f408000000000000000000000000000000000000000000000000000000000000000000000000000000000000000000000000000000000080100
theorem State.evalPI_frame (hm : Sub State.evalPI_foot m) (h : Frame m s0 s) :
    ∀ a1, Frame m s0 (State.evalPI s a1) := by
  intro a1
  have s_State_feedback : Sub State.feedback_foot m := hm.of (by decide)
  have s_State_setFlagBit : Sub State.setFlagBit_foot m := hm.of (by decide)
  have s_State_refreshChokers : Sub State.refreshChokers_foot m := hm.of (by decide)
  have s_State_setCtx : Sub State.setCtx_foot m := hm.of (by decide)
  have k_LPE_FAULT : Has m LPE_FAULT := hm.has 13 12 rfl (by decide)
  unfold State.evalPI
  repeat' first
    | with_reducible assumption
    | (extract_lets -underBinder +onlyGivenNames x; have u : True := (by clear_value x; guard_hyp x :ₛ State; trivial); clear u; refine Frame.cut (m := m) (s0 := s0) (t := x) ?_ ?_; (on_goal 1 => subst x); (on_goal 2 => (intro hx; clear_value x)))
    | (extract_lets -underBinder +onlyGivenNames x; have u : True := (by clear_value x; guard_hyp x :ₛ State × Ctx × Run; trivial); clear u; refine Frame.cut (m := m) (s0 := s0) (t := x.1) ?_ ?_; (on_goal 1 => subst x); (on_goal 2 => (intro hx; clear_value x)))
    | (extract_lets -underBinder +onlyGivenNames n; first | clear_value n | subst n)
    | with_reducible refine Frame.ite ?_ ?_
    | with_reducible refine State.feedback_frame s_State_feedback ?_ _ _ _ _ _
    | with_reducible refine State.setFlagBit_frame s_State_setFlagBit (by with_reducible assumption) ?_ _ _
    | with_reducible refine State.refreshChokers_frame s_State_refreshChokers ?_ _
    | with_reducible refine State.setCtx_frame s_State_setCtx ?_ _ _
    | with_reducible refine Frame.ofFst (by with_reducible assumption) ?_
    | split

def State.evalFilt_foot : Nat := 0x80000
theorem State.evalFilt_frame (hm : Sub State.evalFilt_foot m) (h : Frame m s0 s) :
    ∀ a1, Frame m s0 (State.evalFilt s a1) := by
  intro a1
  have s_State_setCtx : Sub State.setCtx_foot m := hm.of (by decide)
  have c_lpe : m.testBit 19 = true := hm.bit 19 (by decide)
  unfold State.evalFilt
  repeat' first
    | with_reducible assumption
    | (extract_lets -underBinder +onlyGivenNames x; have u : True := (by clear_value x; guard_hyp x :ₛ State; trivial); clear u; refine Frame.cut (m := m) (s0 := s0) (t := x) ?_ ?_; (on_goal 1 => subst x); (on_goal 2 => (intro hx; clear_value x)))
    | (extract_lets -underBinder +onlyGivenNames n; first | clear_value n | subst n)
    | with_reducible refine Frame.ite ?_ ?_
    | with_reducible refine State.setCtx_frame s_State_setCtx ?_ _ _
    | with_reducible exact Frame.set_lpe c_lpe (by with_reducible assumption)
    | split

def State.countIssued_foot : Nat := 0x80000
theorem State.countIssued_frame (hm : Sub State.countIssued_foot m) (h : Frame m s0 s) :
    Frame m s0 (State.countIssued s) := by
  have c_lpe : m.testBit 19 = true := hm.bit 19 (by decide)
  unfold State.countIssued
  repeat' first
    | with_reducible assumption
    | (extract_lets -underBinder +onlyGivenNames x; have u : True := (by clear_value x; guard_hyp x :ₛ State; trivial); clear u; refine Frame.cut (m := m) (s0 := s0) (t := x) ?_ ?_; (on_goal 1 => subst x); (on_goal 2 => (intro hx; clear_value x)))
    | (extract_lets -underBinder +onlyGivenNames n; first | clear_value n | subst n)
    | with_reducible refine Frame.ite ?_ ?_
    | with_reducible exact Frame.set_lpe c_lpe (by with_reducible assumption)

def State.published_foot : Nat := 0x10000000000000000000804000000000000000000000000000000000000000000000000000000000000000000000000000000000000000000000000000000000080100
theorem State.published_frame (hm : Sub State.published_foot m) (h : Frame m s0 s) :
    ∀ a1 a2, Frame m s0 (State.published s a1 a2) := by
  intro a1 a2
  have s_State_countIssued : Sub State.countIssued_foot m := hm.of (by decide)
  have s_State_setFlagBit : Sub State.setFlagBit_foot m := hm.of (by decide)
  have s_State_setCtx : Sub State.setCtx_foot m := hm.of (by decide)
  have s_State_emit : Sub State.emit_foot m := hm.of (by decide)
  have k_LPE_OVR : Has m LPE_OVR := hm.has 13 13 rfl (by decide)
  have k_LPE_STAT_late : Has m LPE_STAT_late := hm.has 13 4 rfl (by decide)
  unfold State.published
  repeat' first
    | with_reducible assumption
    | (extract_lets -underBinder +onlyGivenNames x; have u : True := (by clear_value x; guard_hyp x :ₛ State; trivial); clear u; refine Frame.cut (m := m) (s0 := s0) (t := x) ?_ ?_; (on_goal 1 => subst x); (on_goal 2 => (intro hx; clear_value x)))
    | (extract_lets -underBinder +onlyGivenNames n; first | clear_value n | subst n)
    | with_reducible refine Frame.ite ?_ ?_
    | with_reducible refine addTo_frame (by with_reducible assumption) ?_ _ _
    | with_reducible refine State.countIssued_frame s_State_countIssued ?_
    | with_reducible refine State.setFlagBit_frame s_State_setFlagBit (by with_reducible assumption) ?_ _ _
    | with_reducible refine State.setCtx_frame s_State_setCtx ?_ _ _
    | with_reducible refine State.emit_frame s_State_emit ?_ _ _ _
    | split

def loopEvaluation_foot : Nat := 0x1000000000000000003fc0c000000000000000000000000000000000000000000000000000000000000000000000000000000000000000000000000000000000080100
theorem loopEvaluation_frame (hm : Sub loopEvaluation_foot m) (h : Frame m s0 s) :
    ∀ a0, Frame m s0 (loopEvaluation a0 s) := by
  intro a0
  have s_State_evalFilt : Sub State.evalFilt_foot m := hm.of (by decide)
  have s_State_evalPI : Sub State.evalPI_foot m := hm.of (by decide)
  have s_State_published : Sub State.published_foot m := hm.of (by decide)
  have c_lpe : m.testBit 19 = true := hm.bit 19 (by decide)
  unfold loopEvaluation
  repeat' first
    | with_reducible assumption
    | (extract_lets -underBinder +onlyGivenNames x; have u : True := (by clear_value x; guard_hyp x :ₛ State; trivial); clear u; refine Frame.cut (m := m) (s0 := s0) (t := x) ?_ ?_; (on_goal 1 => subst x); (on_goal 2 => (intro hx; clear_value x)))
    | (extract_lets -underBinder +onlyGivenNames n; first | clear_value n | subst n)
    | with_reducible refine Frame.ite ?_ ?_
    | with_reducible refine State.evalFilt_frame s_State_evalFilt ?_ _
    | with_reducible refine State.evalPI_frame s_State_evalPI ?_ _
    | with_reducible refine State.published_frame s_State_published ?_ _ _
    | with_reducible exact Frame.set_lpe c_lpe (by with_reducible assumption)
    | split

def State.initCtx_foot : Nat := 0xc00000000000000000000000000000000000000000000000000000000000000000000000000000000000000000000000000000000000080000
theorem State.initCtx_frame (hm : Sub State.initCtx_foot m) (h : Frame m s0 s) :
    ∀ a1 a2, Frame m s0 (State.initCtx s a1 a2) := by
  intro a1 a2
  have s_State_setFlagBit : Sub State.setFlagBit_foot m := hm.of (by decide)
  have s_State_setCtx : Sub State.setCtx_foot m := hm.of (by decide)
  have k_LPE_FAULT : Has m LPE_FAULT := hm.has 13 12 rfl (by decide)
  have k_LPE_OVR : Has m LPE_OVR := hm.has 13 13 rfl (by decide)
  have c_lpe : m.testBit 19 = true := hm.bit 19 (by decide)
  unfold State.initCtx
  repeat' first
    | with_reducible assumption
    | (extract_lets -underBinder +onlyGivenNames x; have u : True := (by clear_value x; guard_hyp x :ₛ State; trivial); clear u; refine Frame.cut (m := m) (s0 := s0) (t := x) ?_ ?_; (on_goal 1 => subst x); (on_goal 2 => (intro hx; clear_value x)))
    | (extract_lets -underBinder +onlyGivenNames n; first | clear_value n | subst n)
    | with_reducible refine Frame.ite ?_ ?_
    | with_reducible refine State.setFlagBit_frame s_State_setFlagBit (by with_reducible assumption) ?_ _ _
    | with_reducible refine State.setCtx_frame s_State_setCtx ?_ _ _
    | with_reducible exact Frame.set_lpe c_lpe (by with_reducible assumption)
    | split

def State.takeCtx_foot : Nat := 0xc00000000000000000000000000000000000000000000000000000000000000000000000000000000000000000000000000000000000080000
theorem State.takeCtx_frame (hm : Sub State.takeCtx_foot m) (h : Frame m s0 s) :
    ∀ a1 a2, Frame m s0 (State.takeCtx s a1 a2) := by
  intro a1 a2
  have s_State_initCtx : Sub State.initCtx_foot m := hm.of (by decide)
  have s_State_setCtx : Sub State.setCtx_foot m := hm.of (by decide)
  have c_lpe : m.testBit 19 = true := hm.bit 19 (by decide)
  unfold State.takeCtx
  repeat' first
    | with_reducible assumption
    | (extract_lets -underBinder +onlyGivenNames x; have u : True := (by clear_value x; guard_hyp x :ₛ State; trivial); clear u; refine Frame.cut (m := m) (s0 := s0) (t := x) ?_ ?_; (on_goal 1 => subst x); (on_goal 2 => (intro hx; clear_value x)))
    | (extract_lets -underBinder +onlyGivenNames n; first | clear_value n | subst n)
    | with_reducible refine Frame.ite ?_ ?_
    | with_reducible refine State.initCtx_frame s_State_initCtx ?_ _ _
    | with_reducible refine State.setCtx_frame s_State_setCtx ?_ _ _
    | with_reducible exact Frame.set_lpe c_lpe (by with_reducible assumption)
    | split

def State.showBudget_foot : Nat := 0x1000000000000000000000000000000000000000000000000000000000000000000000000000000000000000000000000000000000000000
theorem State.showBudget_frame (hm : Sub State.showBudget_foot m) (h : Frame m s0 s) :
    Frame m s0 (State.showBudget s) := by
  have k_LPE_BUDGET_units : Has m LPE_BUDGET_units := hm.has 13 2 rfl (by decide)
  unfold State.showBudget
  repeat' first
    | with_reducible assumption
    | with_reducible refine Frame.ite ?_ ?_
    | with_reducible refine wr_frame (by with_reducible assumption) ?_ _ _

def State.snapCtx_foot : Nat := 0x300000000000000000000000000000000000000000000000000000000000000000000000000000000000000000000000000000000000000000
theorem State.snapCtx_frame (hm : Sub State.snapCtx_foot m) (h : Frame m s0 s) :
    Frame m s0 (State.snapCtx s) := by
  have k_LPE_CTX_CFG : Has m LPE_CTX_CFG := hm.has 13 10 rfl (by decide)
  have k_LPE_CTX_ST : Has m LPE_CTX_ST := hm.has 13 11 rfl (by decide)
  unfold State.snapCtx
  repeat' first
    | with_reducible assumption
    | (extract_lets -underBinder +onlyGivenNames x; have u : True := (by clear_value x; guard_hyp x :ₛ State; trivial); clear u; refine Frame.cut (m := m) (s0 := s0) (t := x) ?_ ?_; (on_goal 1 => subst x); (on_goal 2 => (intro hx; clear_value x)))
    | (extract_lets -underBinder +onlyGivenNames n; first | clear_value n | subst n)
    | with_reducible refine Frame.ite ?_ ?_
    | with_reducible refine wr_frame (by with_reducible assumption) ?_ _ _
    | with_reducible refine Frame.foldTo ?_ (fun s x hs => ?_)

def execLoopRelease_foot : Nat := 0x802000000000000000000000000000000000000000000000000000000000000000000000000000000000000000000400000000008000080000
theorem execLoopRelease_frame (hm : Sub execLoopRelease_foot m) (h : Frame m s0 s) :
    ∀ a0 a1, ∃ t, execLoopRelease a0 a1 s = .next t ∧ Frame m s0 t := by
  intro a0 a1
  have s_loopRelease : Sub loopRelease_foot m := hm.of (by decide)
  unfold execLoopRelease
  refine hubOn_frame (fun s h => ?_) h
  repeat' first
    | with_reducible assumption
    | with_reducible refine Frame.ite ?_ ?_
    | with_reducible refine loopRelease_frame s_loopRelease ?_ _ _

def execLoopSkip_foot : Nat := 0x802000000000000000000000000000000000000000000000000000000000000000000000000000000000000000000000000000000000080000
theorem execLoopSkip_frame (hm : Sub execLoopSkip_foot m) (h : Frame m s0 s) :
    ∃ t, execLoopSkip s = .next t ∧ Frame m s0 t := by
  have s_loopSkip : Sub loopSkip_foot m := hm.of (by decide)
  unfold execLoopSkip
  refine hubOn_frame (fun s h => ?_) h
  repeat' first
    | with_reducible assumption
    | with_reducible refine Frame.ite ?_ ?_
    | with_reducible refine loopSkip_frame s_loopSkip ?_

def execLoopEvaluation_foot : Nat := 0x1000000000000000003fc0c000000000000000000000000000000000000000000000000000000000000000000000000000000000000000000000000000000000080100
theorem execLoopEvaluation_frame (hm : Sub execLoopEvaluation_foot m) (h : Frame m s0 s) :
    ∀ a0, ∃ t, execLoopEvaluation a0 s = .next t ∧ Frame m s0 t := by
  intro a0
  have s_loopEvaluation : Sub loopEvaluation_foot m := hm.of (by decide)
  unfold execLoopEvaluation
  refine hubOn_frame (fun s h => ?_) h
  repeat' first
    | with_reducible assumption
    | with_reducible refine Frame.ite ?_ ?_
    | with_reducible refine loopEvaluation_frame s_loopEvaluation ?_ _

end Sys2Proof.Machine
end

