-- ==== Sys2Proof/Laws/FrameThermal.lean ====
section
/-!
SUPPORT. Laws/FrameThermal.lean: the footprint of every function of Machine/Thermal.lean, and that it writes nothing outside it.
-/
namespace Sys2Proof.Machine

set_option linter.all false

variable {m : Nat} {s0 s : State}

def State.setThm_foot : Nat := 0x10000000
theorem State.setThm_frame (hm : Sub State.setThm_foot m) (h : Frame m s0 s) :
    ∀ a1, Frame m s0 (State.setThm s a1) := by
  intro a1
  have c_thm : m.testBit 28 = true := hm.bit 28 (by decide)
  unfold State.setThm
  repeat' first
    | with_reducible assumption
    | (extract_lets -underBinder +onlyGivenNames x; have u : True := (by clear_value x; guard_hyp x :ₛ State; trivial); clear u; refine Frame.cut (m := m) (s0 := s0) (t := x) ?_ ?_; (on_goal 1 => subst x); (on_goal 2 => (intro hx; clear_value x)))
    | (extract_lets -underBinder +onlyGivenNames n; first | clear_value n | subst n)
    | with_reducible refine Frame.ite ?_ ?_
    | with_reducible exact Frame.set_thm c_thm (by with_reducible assumption)

def State.rateBoundary_foot : Nat := 0x2000000000000000000000000000000000000000000000000000000000000000000000000000000000000000000000000000000
theorem State.rateBoundary_frame (hm : Sub State.rateBoundary_foot m) (h : Frame m s0 s) :
    Frame m s0 (State.rateBoundary s) := by
  have k_THM_RATE : Has m THM_RATE := hm.has 11 71 rfl (by decide)
  unfold State.rateBoundary
  repeat' first
    | with_reducible assumption
    | (extract_lets -underBinder +onlyGivenNames x; have u : True := (by clear_value x; guard_hyp x :ₛ State; trivial); clear u; refine Frame.cut (m := m) (s0 := s0) (t := x) ?_ ?_; (on_goal 1 => subst x); (on_goal 2 => (intro hx; clear_value x)))
    | (extract_lets -underBinder +onlyGivenNames n; first | clear_value n | subst n)
    | with_reducible refine Frame.ite ?_ ?_
    | with_reducible refine wr_frame (by with_reducible assumption) ?_ _ _
    | with_reducible refine Frame.foldTo ?_ (fun s x hs => ?_)
    | split

def State.thmBoundary_foot : Nat := 0x10000000000000000000000000000002000000000000000000000000000000000000000000000000000000000000000000000000000000000000000000000010000100
theorem State.thmBoundary_frame (hm : Sub State.thmBoundary_foot m) (h : Frame m s0 s) :
    Frame m s0 (State.thmBoundary s) := by
  have s_State_setThm : Sub State.setThm_foot m := hm.of (by decide)
  have s_State_emit : Sub State.emit_foot m := hm.of (by decide)
  have s_State_rateBoundary : Sub State.rateBoundary_foot m := hm.of (by decide)
  unfold State.thmBoundary
  repeat' first
    | with_reducible assumption
    | (extract_lets -underBinder +onlyGivenNames x; have u : True := (by clear_value x; guard_hyp x :ₛ State; trivial); clear u; refine Frame.cut (m := m) (s0 := s0) (t := x) ?_ ?_; (on_goal 1 => subst x); (on_goal 2 => (intro hx; clear_value x)))
    | (extract_lets -underBinder +onlyGivenNames n; first | clear_value n | subst n)
    | with_reducible refine Frame.ite ?_ ?_
    | with_reducible refine State.setThm_frame s_State_setThm ?_ _
    | with_reducible refine State.emit_frame s_State_emit ?_ _ _ _
    | with_reducible refine State.rateBoundary_frame s_State_rateBoundary ?_
    | split

def State.shutdown_foot : Nat := 0x100000000000000000000000000000000000100000000000000000000000000000000000000000002020800000000000000000000000000000000000000000000000000000000008000000000000000000bd000180
theorem State.shutdown_frame (hm : Sub State.shutdown_foot m) (h : Frame m s0 s) :
    ∀ a1 a2 a3, Frame m s0 (State.shutdown s a1 a2 a3) := by
  intro a1 a2 a3
  have s_State_handover : Sub State.handover_foot m := hm.of (by decide)
  have s_State_haltPowerUp : Sub State.haltPowerUp_foot m := hm.of (by decide)
  have s_State_emit : Sub State.emit_foot m := hm.of (by decide)
  have k_RST_CAUSE_shutdown : Has m RST_CAUSE_shutdown := hm.has 2 3 rfl (by decide)
  have k_THM_STAT_shut : Has m THM_STAT_shut := hm.has 11 11 rfl (by decide)
  have k_THM_STAT_state : Has m THM_STAT_state := hm.has 11 5 rfl (by decide)
  have k_THM_STEP_STAT_pend : Has m THM_STEP_STAT_pend := hm.has 11 19 rfl (by decide)
  have c_pins : m.testBit 24 = true := hm.bit 24 (by decide)
  have c_thm : m.testBit 28 = true := hm.bit 28 (by decide)
  unfold State.shutdown
  repeat' first
    | with_reducible assumption
    | (extract_lets -underBinder +onlyGivenNames x; have u : True := (by clear_value x; guard_hyp x :ₛ State; trivial); clear u; refine Frame.cut (m := m) (s0 := s0) (t := x) ?_ ?_; (on_goal 1 => subst x); (on_goal 2 => (intro hx; clear_value x)))
    | (extract_lets -underBinder +onlyGivenNames n; first | clear_value n | subst n)
    | with_reducible refine Frame.ite ?_ ?_
    | with_reducible refine wr_frame (by with_reducible assumption) ?_ _ _
    | with_reducible refine State.handover_frame s_State_handover ?_ _
    | with_reducible refine State.haltPowerUp_frame s_State_haltPowerUp ?_
    | with_reducible refine State.emit_frame s_State_emit ?_ _ _ _
    | with_reducible exact Frame.set_pins_thm c_pins c_thm (by with_reducible assumption)
    | split

def State.thmTrip_foot : Nat := 0x100000000000000000000000000000000000100000000000000000000000000000000000000000002020800000000000000000000000000000000000000000000000000000000008000000000000000000bd000180
theorem State.thmTrip_frame (hm : Sub State.thmTrip_foot m) (h : Frame m s0 s) :
    Frame m s0 (State.thmTrip s) := by
  have s_State_setThm : Sub State.setThm_foot m := hm.of (by decide)
  have s_State_shutdown : Sub State.shutdown_foot m := hm.of (by decide)
  unfold State.thmTrip
  repeat' first
    | with_reducible assumption
    | (extract_lets -underBinder +onlyGivenNames x; have u : True := (by clear_value x; guard_hyp x :ₛ State; trivial); clear u; refine Frame.cut (m := m) (s0 := s0) (t := x) ?_ ?_; (on_goal 1 => subst x); (on_goal 2 => (intro hx; clear_value x)))
    | (extract_lets -underBinder +onlyGivenNames n; first | clear_value n | subst n)
    | with_reducible refine Frame.ite ?_ ?_
    | with_reducible refine State.setThm_frame s_State_setThm ?_ _
    | with_reducible refine State.shutdown_frame s_State_shutdown ?_ _ _ _
    | split

def State.putThmWord_foot : Nat := 0x50000000
theorem State.putThmWord_frame (hm : Sub State.putThmWord_foot m) (h : Frame m s0 s) :
    ∀ a1 a2 a3, Frame m s0 (State.putThmWord s a1 a2 a3) := by
  intro a1 a2 a3
  have s_State_setThm : Sub State.setThm_foot m := hm.of (by decide)
  have c_slt : m.testBit 30 = true := hm.bit 30 (by decide)
  unfold State.putThmWord
  repeat' first
    | with_reducible assumption
    | (extract_lets -underBinder +onlyGivenNames x; have u : True := (by clear_value x; guard_hyp x :ₛ State; trivial); clear u; refine Frame.cut (m := m) (s0 := s0) (t := x) ?_ ?_; (on_goal 1 => subst x); (on_goal 2 => (intro hx; clear_value x)))
    | (extract_lets -underBinder +onlyGivenNames n; first | clear_value n | subst n)
    | with_reducible refine Frame.ite ?_ ?_
    | with_reducible refine State.setThm_frame s_State_setThm ?_ _
    | with_reducible exact Frame.set_slt c_slt (by with_reducible assumption)
    | split

def State.writeTin_foot : Nat := 0xc00000000000000000000000000000000000000000000000000000000000000000000000000000000000000000
theorem State.writeTin_frame (hm : Sub State.writeTin_foot m) (h : Frame m s0 s) :
    ∀ a1, Frame m s0 (State.writeTin s a1) := by
  intro a1
  have k_THM_STEP_STAT_tin_rej : Has m THM_STEP_STAT_tin_rej := hm.has 11 20 rfl (by decide)
  have k_THM_TIN_tin : Has m THM_TIN_tin := hm.has 11 21 rfl (by decide)
  unfold State.writeTin
  repeat' first
    | with_reducible assumption
    | (extract_lets -underBinder +onlyGivenNames x; have u : True := (by clear_value x; guard_hyp x :ₛ State; trivial); clear u; refine Frame.cut (m := m) (s0 := s0) (t := x) ?_ ?_; (on_goal 1 => subst x); (on_goal 2 => (intro hx; clear_value x)))
    | (extract_lets -underBinder +onlyGivenNames n; first | clear_value n | subst n)
    | with_reducible refine Frame.ite ?_ ?_
    | with_reducible refine wr_frame (by with_reducible assumption) ?_ _ _
    | with_reducible refine bump_frame (by with_reducible assumption) ?_ _
    | split

def State.thmRunTaken_foot : Nat := 0x200080000000000000000000000000000000000000000000000000000000000000000000000000000010000000
theorem State.thmRunTaken_frame (hm : Sub State.thmRunTaken_foot m) (h : Frame m s0 s) :
    Frame m s0 (State.thmRunTaken s) := by
  have s_State_setThm : Sub State.setThm_foot m := hm.of (by decide)
  have k_THM_STAT_state : Has m THM_STAT_state := hm.has 11 5 rfl (by decide)
  have k_THM_STEP_STAT_pend : Has m THM_STEP_STAT_pend := hm.has 11 19 rfl (by decide)
  unfold State.thmRunTaken
  repeat' first
    | with_reducible assumption
    | (extract_lets -underBinder +onlyGivenNames x; have u : True := (by clear_value x; guard_hyp x :ₛ State; trivial); clear u; refine Frame.cut (m := m) (s0 := s0) (t := x) ?_ ?_; (on_goal 1 => subst x); (on_goal 2 => (intro hx; clear_value x)))
    | (extract_lets -underBinder +onlyGivenNames n; first | clear_value n | subst n)
    | with_reducible refine Frame.ite ?_ ?_
    | with_reducible refine wr_frame (by with_reducible assumption) ?_ _ _
    | with_reducible refine State.setThm_frame s_State_setThm ?_ _
    | split

def State.judgeBlind_foot : Nat := 0x10000000000000000000000000000000000000000000008000000000000000000000000000000000000000000000000000000000000000000000000000000010000100
theorem State.judgeBlind_frame (hm : Sub State.judgeBlind_foot m) (h : Frame m s0 s) :
    Frame m s0 (State.judgeBlind s) := by
  have s_State_setThm : Sub State.setThm_foot m := hm.of (by decide)
  have s_State_emit : Sub State.emit_foot m := hm.of (by decide)
  have k_THM_STAT_blind : Has m THM_STAT_blind := hm.has 11 13 rfl (by decide)
  unfold State.judgeBlind
  repeat' first
    | with_reducible assumption
    | (extract_lets -underBinder +onlyGivenNames x; have u : True := (by clear_value x; guard_hyp x :ₛ State; trivial); clear u; refine Frame.cut (m := m) (s0 := s0) (t := x) ?_ ?_; (on_goal 1 => subst x); (on_goal 2 => (intro hx; clear_value x)))
    | (extract_lets -underBinder +onlyGivenNames n; first | clear_value n | subst n)
    | with_reducible refine Frame.ite ?_ ?_
    | with_reducible refine wr_frame (by with_reducible assumption) ?_ _ _
    | with_reducible refine State.setThm_frame s_State_setThm ?_ _
    | with_reducible refine State.emit_frame s_State_emit ?_ _ _ _
    | with_reducible refine Frame.foldTo ?_ (fun s x hs => ?_)
    | split

def State.ancRearm_foot : Nat := 0x10000000000000000000000000000001000000000000008000000000000000000000000000000040000000000000000000000000000000000000000000000010000100
theorem State.ancRearm_frame (hm : Sub State.ancRearm_foot m) (h : Frame m s0 s) :
    Frame m s0 (State.ancRearm s) := by
  have s_State_judgeBlind : Sub State.judgeBlind_foot m := hm.of (by decide)
  have k_SNS_ANC_broken : Has m SNS_ANC_broken := hm.has 7 21 rfl (by decide)
  have k_THM_ANC_ST_run : Has m THM_ANC_ST_run := hm.has 11 70 rfl (by decide)
  unfold State.ancRearm
  repeat' first
    | with_reducible assumption
    | (extract_lets -underBinder +onlyGivenNames x; have u : True := (by clear_value x; guard_hyp x :ₛ State; trivial); clear u; refine Frame.cut (m := m) (s0 := s0) (t := x) ?_ ?_; (on_goal 1 => subst x); (on_goal 2 => (intro hx; clear_value x)))
    | (extract_lets -underBinder +onlyGivenNames n; first | clear_value n | subst n)
    | with_reducible refine Frame.ite ?_ ?_
    | with_reducible refine wr_frame (by with_reducible assumption) ?_ _ _
    | with_reducible refine State.judgeBlind_frame s_State_judgeBlind ?_
    | with_reducible refine Frame.foldTo ?_ (fun s x hs => ?_)

def State.anchorsOff_foot : Nat := 0x10000000000000000000000000000000000000000000008000000000000000000000000000000000000000000000000000000000000000000000000000000010000100
theorem State.anchorsOff_frame (hm : Sub State.anchorsOff_foot m) (h : Frame m s0 s) :
    Frame m s0 (State.anchorsOff s) := by
  have s_State_setThm : Sub State.setThm_foot m := hm.of (by decide)
  have s_State_judgeBlind : Sub State.judgeBlind_foot m := hm.of (by decide)
  unfold State.anchorsOff
  repeat' first
    | with_reducible assumption
    | (extract_lets -underBinder +onlyGivenNames x; have u : True := (by clear_value x; guard_hyp x :ₛ State; trivial); clear u; refine Frame.cut (m := m) (s0 := s0) (t := x) ?_ ?_; (on_goal 1 => subst x); (on_goal 2 => (intro hx; clear_value x)))
    | (extract_lets -underBinder +onlyGivenNames n; first | clear_value n | subst n)
    | with_reducible refine Frame.ite ?_ ?_
    | with_reducible refine State.setThm_frame s_State_setThm ?_ _
    | with_reducible refine State.judgeBlind_frame s_State_judgeBlind ?_

def State.showL_foot : Nat := 0x64000000000000000000000000000000000000000000000000000000000000000000000000000000000000000000000000000
theorem State.showL_frame (hm : Sub State.showL_foot m) (h : Frame m s0 s) :
    ∀ a1 a2, Frame m s0 (State.showL s a1 a2) := by
  intro a1 a2
  have k_THM_L_anchored : Has m THM_L_anchored := hm.has 11 64 rfl (by decide)
  have k_THM_L_blind : Has m THM_L_blind := hm.has 11 63 rfl (by decide)
  have k_THM_L_limit : Has m THM_L_limit := hm.has 11 60 rfl (by decide)
  unfold State.showL
  repeat' first
    | with_reducible assumption
    | (extract_lets -underBinder +onlyGivenNames x; have u : True := (by clear_value x; guard_hyp x :ₛ State; trivial); clear u; refine Frame.cut (m := m) (s0 := s0) (t := x) ?_ ?_; (on_goal 1 => subst x); (on_goal 2 => (intro hx; clear_value x)))
    | (extract_lets -underBinder +onlyGivenNames n; first | clear_value n | subst n)
    | with_reducible refine Frame.ite ?_ ?_
    | with_reducible refine wr_frame (by with_reducible assumption) ?_ _ _
    | split

def State.showHot_foot : Nat := 0x3000000000000000000000000000000000000000000000000000000000000000000000000000000000000000000
theorem State.showHot_frame (hm : Sub State.showHot_foot m) (h : Frame m s0 s) :
    Frame m s0 (State.showHot s) := by
  have k_THM_HOT_node : Has m THM_HOT_node := hm.has 11 23 rfl (by decide)
  have k_THM_HOT_value : Has m THM_HOT_value := hm.has 11 22 rfl (by decide)
  unfold State.showHot
  repeat' first
    | with_reducible assumption
    | (extract_lets -underBinder +onlyGivenNames x; have u : True := (by clear_value x; guard_hyp x :ₛ State; trivial); clear u; refine Frame.cut (m := m) (s0 := s0) (t := x) ?_ ?_; (on_goal 1 => subst x); (on_goal 2 => (intro hx; clear_value x)))
    | (extract_lets -underBinder +onlyGivenNames n; first | clear_value n | subst n)
    | with_reducible refine Frame.ite ?_ ?_
    | with_reducible refine wr_frame (by with_reducible assumption) ?_ _ _
    | with_reducible refine Frame.foldl ?_ (fun s x hs => ?_)
    | split

def shutdownDrainExpire_foot : Nat := 0x100000000000000000000000000000808000100000000000000000000000000000000000000000000000002000020800000000008600180000000000000000000000000000000300000000000000000001bf001180
theorem shutdownDrainExpire_frame (hm : Sub shutdownDrainExpire_foot m) (h : Frame m s0 s) :
    Frame m s0 (shutdownDrainExpire s) := by
  have s_State_setThm : Sub State.setThm_foot m := hm.of (by decide)
  have s_State_powerDown : Sub State.powerDown_foot m := hm.of (by decide)
  have s_State_setPmb : Sub State.setPmb_foot m := hm.of (by decide)
  have s_State_latchStage : Sub State.latchStage_foot m := hm.of (by decide)
  have s_State_pmbSettle : Sub State.pmbSettle_foot m := hm.of (by decide)
  have s_State_mirrorCause : Sub State.mirrorCause_foot m := hm.of (by decide)
  unfold shutdownDrainExpire
  repeat' first
    | with_reducible assumption
    | (extract_lets -underBinder +onlyGivenNames x; have u : True := (by clear_value x; guard_hyp x :ₛ State; trivial); clear u; refine Frame.cut (m := m) (s0 := s0) (t := x) ?_ ?_; (on_goal 1 => subst x); (on_goal 2 => (intro hx; clear_value x)))
    | (extract_lets -underBinder +onlyGivenNames n; first | clear_value n | subst n)
    | with_reducible refine Frame.ite ?_ ?_
    | with_reducible refine State.setThm_frame s_State_setThm ?_ _
    | with_reducible refine State.powerDown_frame s_State_powerDown ?_
    | with_reducible refine State.setPmb_frame s_State_setPmb ?_ _
    | with_reducible refine State.latchStage_frame s_State_latchStage ?_ _
    | with_reducible refine State.pmbSettle_frame s_State_pmbSettle ?_
    | with_reducible refine State.mirrorCause_frame s_State_mirrorCause ?_ _
    | split

def State.setBand_foot : Nat := 0x10000000000000000000000000000000000000000000010200000000000000000000000000000000004000000000000000000000000000000000000000000010000100
theorem State.setBand_frame (hm : Sub State.setBand_foot m) (h : Frame m s0 s) :
    ∀ a1 a2, Frame m s0 (State.setBand s a1 a2) := by
  intro a1 a2
  have s_State_setThm : Sub State.setThm_foot m := hm.of (by decide)
  have s_State_emit : Sub State.emit_foot m := hm.of (by decide)
  have k_SNS_DRP_BAND_band : Has m SNS_DRP_BAND_band := hm.has 7 5 rfl (by decide)
  have k_THM_STAT_band : Has m THM_STAT_band := hm.has 11 7 rfl (by decide)
  have k_THM_STAT_refresh : Has m THM_STAT_refresh := hm.has 11 14 rfl (by decide)
  unfold State.setBand
  repeat' first
    | with_reducible assumption
    | (extract_lets -underBinder +onlyGivenNames x; have u : True := (by clear_value x; guard_hyp x :ₛ State; trivial); clear u; refine Frame.cut (m := m) (s0 := s0) (t := x) ?_ ?_; (on_goal 1 => subst x); (on_goal 2 => (intro hx; clear_value x)))
    | (extract_lets -underBinder +onlyGivenNames n; first | clear_value n | subst n)
    | with_reducible refine Frame.ite ?_ ?_
    | with_reducible refine wr_frame (by with_reducible assumption) ?_ _ _
    | with_reducible refine State.setThm_frame s_State_setThm ?_ _
    | with_reducible refine State.emit_frame s_State_emit ?_ _ _ _
    | split

def State.bandRise_foot : Nat := 0x10000000000000000000000000000000000000000000010200000000000000000000000000000000004000000000000000000000000000000000000000000010000100
theorem State.bandRise_frame (hm : Sub State.bandRise_foot m) (h : Frame m s0 s) :
    Frame m s0 (State.bandRise s) := by
  have s_State_setBand : Sub State.setBand_foot m := hm.of (by decide)
  unfold State.bandRise
  repeat' first
    | with_reducible assumption
    | with_reducible refine Frame.ite ?_ ?_
    | with_reducible refine State.setBand_frame s_State_setBand ?_ _ _
    | split

def State.bandStep_foot : Nat := 0x10000000000000000000000000000000000000000000010200000000000000000000000000000000004000000000000000000000000000000000000000000010000100
theorem State.bandStep_frame (hm : Sub State.bandStep_foot m) (h : Frame m s0 s) :
    Frame m s0 (State.bandStep s) := by
  have s_State_setThm : Sub State.setThm_foot m := hm.of (by decide)
  have s_State_bandRise : Sub State.bandRise_foot m := hm.of (by decide)
  have k_THM_STAT_refresh : Has m THM_STAT_refresh := hm.has 11 14 rfl (by decide)
  unfold State.bandStep
  repeat' first
    | with_reducible assumption
    | (extract_lets -underBinder +onlyGivenNames x; have u : True := (by clear_value x; guard_hyp x :ₛ State; trivial); clear u; refine Frame.cut (m := m) (s0 := s0) (t := x) ?_ ?_; (on_goal 1 => subst x); (on_goal 2 => (intro hx; clear_value x)))
    | (extract_lets -underBinder +onlyGivenNames n; first | clear_value n | subst n)
    | with_reducible refine Frame.ite ?_ ?_
    | with_reducible refine wr_frame (by with_reducible assumption) ?_ _ _
    | with_reducible refine State.setThm_frame s_State_setThm ?_ _
    | with_reducible refine State.bandRise_frame s_State_bandRise ?_
    | split

def bandFall_foot : Nat := 0x10000000000000000000000000000000000000000000010200000000000000000000000000000000004000000000000000000000000000000000000000000010000100
theorem bandFall_frame (hm : Sub bandFall_foot m) (h : Frame m s0 s) :
    Frame m s0 (bandFall s) := by
  have s_State_setBand : Sub State.setBand_foot m := hm.of (by decide)
  have s_State_setThm : Sub State.setThm_foot m := hm.of (by decide)
  unfold bandFall
  repeat' first
    | with_reducible assumption
    | (extract_lets -underBinder +onlyGivenNames x; have u : True := (by clear_value x; guard_hyp x :ₛ State; trivial); clear u; refine Frame.cut (m := m) (s0 := s0) (t := x) ?_ ?_; (on_goal 1 => subst x); (on_goal 2 => (intro hx; clear_value x)))
    | (extract_lets -underBinder +onlyGivenNames n; first | clear_value n | subst n)
    | with_reducible refine Frame.ite ?_ ?_
    | with_reducible refine State.setBand_frame s_State_setBand ?_ _ _
    | with_reducible refine State.setThm_frame s_State_setThm ?_ _
    | split

def State.thmReinit_foot : Nat := 0x10000000000000000000000000000000000000000000300080000000000000000000000000000000000000000000000000000000000000000000000000000010000100
theorem State.thmReinit_frame (hm : Sub State.thmReinit_foot m) (h : Frame m s0 s) :
    ∀ a1 a2, Frame m s0 (State.thmReinit s a1 a2) := by
  intro a1 a2
  have s_State_setThm : Sub State.setThm_foot m := hm.of (by decide)
  have s_State_emit : Sub State.emit_foot m := hm.of (by decide)
  have k_THM_STAT_state : Has m THM_STAT_state := hm.has 11 5 rfl (by decide)
  have k_THM_STEP_STAT_pend : Has m THM_STEP_STAT_pend := hm.has 11 19 rfl (by decide)
  have k_THM_STEP_STAT_reinit : Has m THM_STEP_STAT_reinit := hm.has 11 18 rfl (by decide)
  unfold State.thmReinit
  repeat' first
    | with_reducible assumption
    | (extract_lets -underBinder +onlyGivenNames x; have u : True := (by clear_value x; guard_hyp x :ₛ State; trivial); clear u; refine Frame.cut (m := m) (s0 := s0) (t := x) ?_ ?_; (on_goal 1 => subst x); (on_goal 2 => (intro hx; clear_value x)))
    | (extract_lets -underBinder +onlyGivenNames n; first | clear_value n | subst n)
    | with_reducible refine Frame.ite ?_ ?_
    | with_reducible refine wr_frame (by with_reducible assumption) ?_ _ _
    | with_reducible refine bump_frame (by with_reducible assumption) ?_ _
    | with_reducible refine State.setThm_frame s_State_setThm ?_ _
    | with_reducible refine State.emit_frame s_State_emit ?_ _ _ _

def State.startStep_foot : Nat := 0xc00000000100000000000000000000000000000000000000000000000000000000000000000000000000000010040000
theorem State.startStep_frame (hm : Sub State.startStep_foot m) (h : Frame m s0 s) :
    ∀ a1, Frame m s0 (State.startStep s a1) := by
  intro a1
  have s_State_setThm : Sub State.setThm_foot m := hm.of (by decide)
  have k_THM_SET_ID_ident : Has m THM_SET_ID_ident := hm.has 11 44 rfl (by decide)
  have k_THM_SET_PER_period : Has m THM_SET_PER_period := hm.has 11 45 rfl (by decide)
  have k_THM_STAT_generic : Has m THM_STAT_generic := hm.has 11 6 rfl (by decide)
  have c_fcs : m.testBit 18 = true := hm.bit 18 (by decide)
  unfold State.startStep
  repeat' first
    | with_reducible assumption
    | (extract_lets -underBinder +onlyGivenNames x; have u : True := (by clear_value x; guard_hyp x :ₛ State; trivial); clear u; refine Frame.cut (m := m) (s0 := s0) (t := x) ?_ ?_; (on_goal 1 => subst x); (on_goal 2 => (intro hx; clear_value x)))
    | (extract_lets -underBinder +onlyGivenNames n; first | clear_value n | subst n)
    | with_reducible refine Frame.ite ?_ ?_
    | with_reducible refine wr_frame (by with_reducible assumption) ?_ _ _
    | with_reducible refine State.setThm_frame s_State_setThm ?_ _
    | with_reducible exact Frame.set_fcs c_fcs (by with_reducible assumption)
    | split

def thermalStep_foot : Nat := 0x10000000000000000000000000000000000000c00000380180000000000000000000000000000000000000000000000000000000000000000000000000000010040100
theorem thermalStep_frame (hm : Sub thermalStep_foot m) (h : Frame m s0 s) :
    Frame m s0 (thermalStep s) := by
  have s_State_thmReinit : Sub State.thmReinit_foot m := hm.of (by decide)
  have s_State_setThm : Sub State.setThm_foot m := hm.of (by decide)
  have s_State_startStep : Sub State.startStep_foot m := hm.of (by decide)
  have k_THM_STEP_STAT_late : Has m THM_STEP_STAT_late := hm.has 11 17 rfl (by decide)
  have k_THM_STEP_STAT_pend : Has m THM_STEP_STAT_pend := hm.has 11 19 rfl (by decide)
  unfold thermalStep
  repeat' first
    | with_reducible assumption
    | (extract_lets -underBinder +onlyGivenNames x; have u : True := (by clear_value x; guard_hyp x :ₛ State; trivial); clear u; refine Frame.cut (m := m) (s0 := s0) (t := x) ?_ ?_; (on_goal 1 => subst x); (on_goal 2 => (intro hx; clear_value x)))
    | (extract_lets -underBinder +onlyGivenNames n; first | clear_value n | subst n)
    | with_reducible refine Frame.ite ?_ ?_
    | with_reducible refine wr_frame (by with_reducible assumption) ?_ _ _
    | with_reducible refine bump_frame (by with_reducible assumption) ?_ _
    | with_reducible refine State.thmReinit_frame s_State_thmReinit ?_ _ _
    | with_reducible refine State.setThm_frame s_State_setThm ?_ _
    | with_reducible refine State.startStep_frame s_State_startStep ?_ _
    | split

def State.nodeFlags_foot : Nat := 0x10000000000000000000000000000000018000000000000000000000000000000000000000000000000000000000000000000000000000000000000000000010000100
theorem State.nodeFlags_frame (hm : Sub State.nodeFlags_foot m) (h : Frame m s0 s) :
    ∀ a1, Frame m s0 (State.nodeFlags s a1) := by
  intro a1
  have s_State_setThm : Sub State.setThm_foot m := hm.of (by decide)
  have s_State_emitLim : Sub State.emitLim_foot m := hm.of (by decide)
  have k_THM_L_throttle : Has m THM_L_throttle := hm.has 11 62 rfl (by decide)
  have k_THM_L_warn : Has m THM_L_warn := hm.has 11 61 rfl (by decide)
  unfold State.nodeFlags
  repeat' first
    | with_reducible assumption
    | (extract_lets -underBinder +onlyGivenNames x; have u : True := (by clear_value x; guard_hyp x :ₛ State; trivial); clear u; refine Frame.cut (m := m) (s0 := s0) (t := x) ?_ ?_; (on_goal 1 => subst x); (on_goal 2 => (intro hx; clear_value x)))
    | (extract_lets -underBinder +onlyGivenNames n; first | clear_value n | subst n)
    | with_reducible refine Frame.ite ?_ ?_
    | with_reducible refine wr_frame (by with_reducible assumption) ?_ _ _
    | with_reducible refine State.setThm_frame s_State_setThm ?_ _
    | with_reducible refine State.emitLim_frame s_State_emitLim ?_ _ _ _ _ _
    | split

def State.refreshL_foot : Nat := 0x64000000003000000000000000000000000000000000000000000000000000000000000000000000000000000000010000000
theorem State.refreshL_frame (hm : Sub State.refreshL_foot m) (h : Frame m s0 s) :
    Frame m s0 (State.refreshL s) := by
  have s_State_showL : Sub State.showL_foot m := hm.of (by decide)
  have s_State_setThm : Sub State.setThm_foot m := hm.of (by decide)
  have s_State_showHot : Sub State.showHot_foot m := hm.of (by decide)
  unfold State.refreshL
  repeat' first
    | with_reducible assumption
    | (extract_lets -underBinder +onlyGivenNames x; have u : True := (by clear_value x; guard_hyp x :ₛ State; trivial); clear u; refine Frame.cut (m := m) (s0 := s0) (t := x) ?_ ?_; (on_goal 1 => subst x); (on_goal 2 => (intro hx; clear_value x)))
    | (extract_lets -underBinder +onlyGivenNames n; first | clear_value n | subst n)
    | with_reducible refine Frame.ite ?_ ?_
    | with_reducible refine State.showL_frame s_State_showL ?_ _ _
    | with_reducible refine State.setThm_frame s_State_setThm ?_ _
    | with_reducible refine State.showHot_frame s_State_showHot ?_
    | with_reducible refine Frame.foldTo ?_ (fun s x hs => ?_)

def State.sendPlate_foot : Nat := 0x80000080
theorem State.sendPlate_frame (hm : Sub State.sendPlate_foot m) (h : Frame m s0 s) :
    ∀ a1 a2, Frame m s0 (State.sendPlate s a1 a2) := by
  intro a1 a2
  have s_State_bridgeSend : Sub State.bridgeSend_foot m := hm.of (by decide)
  unfold State.sendPlate
  repeat' first
    | with_reducible assumption
    | with_reducible refine Frame.ite ?_ ?_
    | with_reducible refine State.bridgeSend_frame s_State_bridgeSend ?_ _ _
    | split

def State.showX_foot : Nat := 0x2000000000000000000000000000000000000000000000000000000000000000000000000000000000000000000000000000
theorem State.showX_frame (hm : Sub State.showX_foot m) (h : Frame m s0 s) :
    ∀ a1, Frame m s0 (State.showX s a1) := by
  intro a1
  have k_THM_X_x : Has m THM_X_x := hm.has 11 59 rfl (by decide)
  unfold State.showX
  repeat' first
    | with_reducible assumption
    | with_reducible refine Frame.ite ?_ ?_
    | with_reducible refine wr_frame (by with_reducible assumption) ?_ _ _
    | with_reducible refine Frame.foldTo ?_ (fun s x hs => ?_)

def State.publishL_foot : Nat := 0x10000000000000000000000000000000018000000000000000000000000000000000000000000000000000000000000000000000000000000000000000000010080100
theorem State.publishL_frame (hm : Sub State.publishL_foot m) (h : Frame m s0 s) :
    Frame m s0 (State.publishL s) := by
  have s_State_nodeFlags : Sub State.nodeFlags_foot m := hm.of (by decide)
  have s_State_publish : Sub State.publish_foot m := hm.of (by decide)
  unfold State.publishL
  repeat' first
    | with_reducible assumption
    | (extract_lets -underBinder +onlyGivenNames x; have u : True := (by clear_value x; guard_hyp x :ₛ State; trivial); clear u; refine Frame.cut (m := m) (s0 := s0) (t := x) ?_ ?_; (on_goal 1 => subst x); (on_goal 2 => (intro hx; clear_value x)))
    | (extract_lets -underBinder +onlyGivenNames n; first | clear_value n | subst n)
    | with_reducible refine Frame.ite ?_ ?_
    | with_reducible refine State.nodeFlags_frame s_State_nodeFlags ?_ _
    | with_reducible refine State.publish_frame s_State_publish ?_ _ _ _ _
    | with_reducible refine Frame.foldTo ?_ (fun s x hs => ?_)

def State.stepResults_foot : Nat := 0x1000000000000000000000000000000007e000000003011a00000000000000000000000000000000004000000000000000000000000000000000000000000090080180
theorem State.stepResults_frame (hm : Sub State.stepResults_foot m) (h : Frame m s0 s) :
    ∀ a1 a2, Frame m s0 (State.stepResults s a1 a2) := by
  intro a1 a2
  have s_State_setThm : Sub State.setThm_foot m := hm.of (by decide)
  have s_State_bandStep : Sub State.bandStep_foot m := hm.of (by decide)
  have s_State_refreshL : Sub State.refreshL_foot m := hm.of (by decide)
  have s_State_publishL : Sub State.publishL_foot m := hm.of (by decide)
  have s_State_showX : Sub State.showX_foot m := hm.of (by decide)
  have s_State_sendPlate : Sub State.sendPlate_foot m := hm.of (by decide)
  have k_THM_STAT_throttle : Has m THM_STAT_throttle := hm.has 11 10 rfl (by decide)
  have k_THM_STAT_warn : Has m THM_STAT_warn := hm.has 11 9 rfl (by decide)
  unfold State.stepResults
  repeat' first
    | with_reducible assumption
    | (extract_lets -underBinder +onlyGivenNames x; have u : True := (by clear_value x; guard_hyp x :ₛ State; trivial); clear u; refine Frame.cut (m := m) (s0 := s0) (t := x) ?_ ?_; (on_goal 1 => subst x); (on_goal 2 => (intro hx; clear_value x)))
    | (extract_lets -underBinder +onlyGivenNames n; first | clear_value n | subst n)
    | with_reducible refine Frame.ite ?_ ?_
    | with_reducible refine wr_frame (by with_reducible assumption) ?_ _ _
    | with_reducible refine State.setThm_frame s_State_setThm ?_ _
    | with_reducible refine State.bandStep_frame s_State_bandStep ?_
    | with_reducible refine State.refreshL_frame s_State_refreshL ?_
    | with_reducible refine State.publishL_frame s_State_publishL ?_
    | with_reducible refine State.showX_frame s_State_showX ?_ _
    | with_reducible refine State.sendPlate_frame s_State_sendPlate ?_ _ _

def State.stepNext_foot : Nat := 0x10000000000000000000000000000000000010000000000000000000000000000000000000c000002021800000000000000000000000000000000000000000000000000000000008000000000000000000bd040180
theorem State.stepNext_frame (hm : Sub State.stepNext_foot m) (h : Frame m s0 s) :
    Frame m s0 (State.stepNext s) := by
  have s_State_setThm : Sub State.setThm_foot m := hm.of (by decide)
  have s_State_shutdown : Sub State.shutdown_foot m := hm.of (by decide)
  have s_State_startStep : Sub State.startStep_foot m := hm.of (by decide)
  have k_THM_STEP_STAT_pend : Has m THM_STEP_STAT_pend := hm.has 11 19 rfl (by decide)
  unfold State.stepNext
  repeat' first
    | with_reducible assumption
    | (extract_lets -underBinder +onlyGivenNames x; have u : True := (by clear_value x; guard_hyp x :ₛ State; trivial); clear u; refine Frame.cut (m := m) (s0 := s0) (t := x) ?_ ?_; (on_goal 1 => subst x); (on_goal 2 => (intro hx; clear_value x)))
    | (extract_lets -underBinder +onlyGivenNames n; first | clear_value n | subst n)
    | with_reducible refine Frame.ite ?_ ?_
    | with_reducible refine wr_frame (by with_reducible assumption) ?_ _ _
    | with_reducible refine State.setThm_frame s_State_setThm ?_ _
    | with_reducible refine State.shutdown_frame s_State_shutdown ?_ _ _ _
    | with_reducible refine State.startStep_frame s_State_startStep ?_ _
    | split

def thermalStepComplete_foot : Nat := 0x1000000000000000000000000000000000001000000000000000000000000001800007e000c00003313b800000000000000000000000000000000040000000000000000000000008000000000000000000bd0c0180
theorem thermalStepComplete_frame (hm : Sub thermalStepComplete_foot m) (h : Frame m s0 s) :
    Frame m s0 (thermalStepComplete s) := by
  have s_State_thmReinit : Sub State.thmReinit_foot m := hm.of (by decide)
  have s_State_arrFlags : Sub State.arrFlags_foot m := hm.of (by decide)
  have s_State_stepNext : Sub State.stepNext_foot m := hm.of (by decide)
  have s_State_stepResults : Sub State.stepResults_foot m := hm.of (by decide)
  unfold thermalStepComplete
  repeat' first
    | with_reducible assumption
    | (extract_lets -underBinder +onlyGivenNames x; have u : True := (by clear_value x; guard_hyp x :ₛ State; trivial); clear u; refine Frame.cut (m := m) (s0 := s0) (t := x) ?_ ?_; (on_goal 1 => subst x); (on_goal 2 => (intro hx; clear_value x)))
    | (extract_lets -underBinder +onlyGivenNames n; first | clear_value n | subst n)
    | with_reducible refine Frame.ite ?_ ?_
    | with_reducible refine State.thmReinit_frame s_State_thmReinit ?_ _ _
    | with_reducible refine State.arrFlags_frame s_State_arrFlags ?_ _ _ _
    | with_reducible refine State.stepNext_frame s_State_stepNext ?_
    | with_reducible refine State.stepResults_frame s_State_stepResults ?_ _ _
    | split

def State.beginRun_foot : Nat := 0x2000000000000000080000000000000000000000000000000000000000000000000000000000000000000000000000010080000
theorem State.beginRun_frame (hm : Sub State.beginRun_foot m) (h : Frame m s0 s) :
    ∀ a1, Frame m s0 (State.beginRun s a1) := by
  intro a1
  have s_State_setThm : Sub State.setThm_foot m := hm.of (by decide)
  have k_THM_RATE : Has m THM_RATE := hm.has 11 71 rfl (by decide)
  have k_THM_STAT_state : Has m THM_STAT_state := hm.has 11 5 rfl (by decide)
  have c_lpe : m.testBit 19 = true := hm.bit 19 (by decide)
  unfold State.beginRun
  repeat' first
    | with_reducible assumption
    | (extract_lets -underBinder +onlyGivenNames x; have u : True := (by clear_value x; guard_hyp x :ₛ State; trivial); clear u; refine Frame.cut (m := m) (s0 := s0) (t := x) ?_ ?_; (on_goal 1 => subst x); (on_goal 2 => (intro hx; clear_value x)))
    | (extract_lets -underBinder +onlyGivenNames n; first | clear_value n | subst n)
    | with_reducible refine Frame.ite ?_ ?_
    | with_reducible refine wr_frame (by with_reducible assumption) ?_ _ _
    | with_reducible refine State.setThm_frame s_State_setThm ?_ _
    | with_reducible exact Frame.set_lpe c_lpe (by with_reducible assumption)
    | with_reducible refine Frame.foldTo ?_ (fun s x hs => ?_)

def modelInit_foot : Nat := 0x2000000000000000080000000000000000000000000000000000000000000000000000000000000000000000000000010080000
theorem modelInit_frame (hm : Sub modelInit_foot m) (h : Frame m s0 s) :
    Frame m s0 (modelInit s) := by
  have s_State_beginRun : Sub State.beginRun_foot m := hm.of (by decide)
  unfold modelInit
  repeat' first
    | with_reducible assumption
    | with_reducible refine Frame.ite ?_ ?_
    | with_reducible refine State.beginRun_frame s_State_beginRun ?_ _
    | split

def reinitRecover_foot : Nat := 0x2000000000000000080000000000000000000000000000000000000000000000000000000000000000000000000000010080000
theorem reinitRecover_frame (hm : Sub reinitRecover_foot m) (h : Frame m s0 s) :
    Frame m s0 (reinitRecover s) := by
  have s_State_beginRun : Sub State.beginRun_foot m := hm.of (by decide)
  unfold reinitRecover
  repeat' first
    | with_reducible assumption
    | with_reducible refine Frame.ite ?_ ?_
    | with_reducible refine State.beginRun_frame s_State_beginRun ?_ _
    | split

def State.judgeAnchor_foot : Nat := 0x10000000000000000000000000000001780000000000000000000000000000000000000000000040000000000000000000000000000000000000000000000010000100
theorem State.judgeAnchor_frame (hm : Sub State.judgeAnchor_foot m) (h : Frame m s0 s) :
    ∀ a1 a2 a3, Frame m s0 (State.judgeAnchor s a1 a2 a3) := by
  intro a1 a2 a3
  have s_State_setThm : Sub State.setThm_foot m := hm.of (by decide)
  have s_State_emit : Sub State.emit_foot m := hm.of (by decide)
  have k_SNS_ANC_broken : Has m SNS_ANC_broken := hm.has 7 21 rfl (by decide)
  have k_THM_ANC_ST_dmod : Has m THM_ANC_ST_dmod := hm.has 11 66 rfl (by decide)
  have k_THM_ANC_ST_dnb : Has m THM_ANC_ST_dnb := hm.has 11 67 rfl (by decide)
  have k_THM_ANC_ST_nb_na : Has m THM_ANC_ST_nb_na := hm.has 11 68 rfl (by decide)
  have k_THM_ANC_ST_residual : Has m THM_ANC_ST_residual := hm.has 11 65 rfl (by decide)
  have k_THM_ANC_ST_run : Has m THM_ANC_ST_run := hm.has 11 70 rfl (by decide)
  unfold State.judgeAnchor
  repeat' first
    | with_reducible assumption
    | (extract_lets -underBinder +onlyGivenNames x; have u : True := (by clear_value x; guard_hyp x :ₛ State; trivial); clear u; refine Frame.cut (m := m) (s0 := s0) (t := x) ?_ ?_; (on_goal 1 => subst x); (on_goal 2 => (intro hx; clear_value x)))
    | (extract_lets -underBinder +onlyGivenNames n; first | clear_value n | subst n)
    | with_reducible refine Frame.ite ?_ ?_
    | with_reducible refine wr_frame (by with_reducible assumption) ?_ _ _
    | with_reducible refine State.setThm_frame s_State_setThm ?_ _
    | with_reducible refine State.emit_frame s_State_emit ?_ _ _ _
    | split

def anchorCorrection_foot : Nat := 0x10000000000000000000000000000001780000000000008000000000000000000000000000000040000000000000000000000000000000000000000000000010000100
theorem anchorCorrection_frame (hm : Sub anchorCorrection_foot m) (h : Frame m s0 s) :
    Frame m s0 (anchorCorrection s) := by
  have s_State_setThm : Sub State.setThm_foot m := hm.of (by decide)
  have s_State_judgeAnchor : Sub State.judgeAnchor_foot m := hm.of (by decide)
  have s_State_judgeBlind : Sub State.judgeBlind_foot m := hm.of (by decide)
  unfold anchorCorrection
  repeat' first
    | with_reducible assumption
    | (extract_lets -underBinder +onlyGivenNames x; have u : True := (by clear_value x; guard_hyp x :ₛ State; trivial); clear u; refine Frame.cut (m := m) (s0 := s0) (t := x) ?_ ?_; (on_goal 1 => subst x); (on_goal 2 => (intro hx; clear_value x)))
    | (extract_lets -underBinder +onlyGivenNames n; first | clear_value n | subst n)
    | with_reducible refine Frame.ite ?_ ?_
    | with_reducible refine State.setThm_frame s_State_setThm ?_ _
    | with_reducible refine State.judgeAnchor_frame s_State_judgeAnchor ?_ _ _ _
    | with_reducible refine State.judgeBlind_frame s_State_judgeBlind ?_
    | with_reducible refine Frame.foldTo ?_ (fun s x hs => ?_)
    | split

def State.conversionEffects_foot : Nat := 0x100000000000000000000000000000000000100000000000000000000000000000000640000000032122800000000000000000000000000000000040000000000000000000000008000000000000000000bd000180
theorem State.conversionEffects_frame (hm : Sub State.conversionEffects_foot m) (h : Frame m s0 s) :
    ∀ a1, Frame m s0 (State.conversionEffects s a1) := by
  intro a1
  have s_State_showL : Sub State.showL_foot m := hm.of (by decide)
  have s_State_setThm : Sub State.setThm_foot m := hm.of (by decide)
  have s_State_showHot : Sub State.showHot_foot m := hm.of (by decide)
  have s_State_bandRise : Sub State.bandRise_foot m := hm.of (by decide)
  have s_State_shutdown : Sub State.shutdown_foot m := hm.of (by decide)
  unfold State.conversionEffects
  repeat' first
    | with_reducible assumption
    | (extract_lets -underBinder +onlyGivenNames x; have u : True := (by clear_value x; guard_hyp x :ₛ State; trivial); clear u; refine Frame.cut (m := m) (s0 := s0) (t := x) ?_ ?_; (on_goal 1 => subst x); (on_goal 2 => (intro hx; clear_value x)))
    | (extract_lets -underBinder +onlyGivenNames n; first | clear_value n | subst n)
    | with_reducible refine Frame.ite ?_ ?_
    | with_reducible refine State.showL_frame s_State_showL ?_ _ _
    | with_reducible refine State.setThm_frame s_State_setThm ?_ _
    | with_reducible refine State.showHot_frame s_State_showHot ?_
    | with_reducible refine State.bandRise_frame s_State_bandRise ?_
    | with_reducible refine State.shutdown_frame s_State_shutdown ?_ _ _ _
    | split

def anchorConversion_foot : Nat := 0x100000000000000000000000000000000000100000000000000000000000000000000640000000032122800000000000000000000000000000000040000000000000000000000008000000000000000000bd020180
theorem anchorConversion_frame (hm : Sub anchorConversion_foot m) (h : Frame m s0 s) :
    ∀ a0 a1 a2, Frame m s0 (anchorConversion a0 a1 a2 s) := by
  intro a0 a1 a2
  have s_State_conversionEffects : Sub State.conversionEffects_foot m := hm.of (by decide)
  have c_sns : m.testBit 17 = true := hm.bit 17 (by decide)
  unfold anchorConversion
  repeat' first
    | with_reducible assumption
    | (extract_lets -underBinder +onlyGivenNames x; have u : True := (by clear_value x; guard_hyp x :ₛ State; trivial); clear u; refine Frame.cut (m := m) (s0 := s0) (t := x) ?_ ?_; (on_goal 1 => subst x); (on_goal 2 => (intro hx; clear_value x)))
    | (extract_lets -underBinder +onlyGivenNames n; first | clear_value n | subst n)
    | with_reducible refine Frame.ite ?_ ?_
    | with_reducible refine State.conversionEffects_frame s_State_conversionEffects ?_ _
    | with_reducible exact Frame.set_sns c_sns (by with_reducible assumption)
    | split

def cplateLocal_foot : Nat := 0x10000000000000000000000000000000000000000000000400000000000000000000000000000000000000000000000000000000000000000000000000000000000100
theorem cplateLocal_frame (hm : Sub cplateLocal_foot m) (h : Frame m s0 s) :
    Frame m s0 (cplateLocal s) := by
  have s_State_emit : Sub State.emit_foot m := hm.of (by decide)
  have k_THM_STAT_cp_remote : Has m THM_STAT_cp_remote := hm.has 11 8 rfl (by decide)
  unfold cplateLocal
  repeat' first
    | with_reducible assumption
    | with_reducible refine Frame.ite ?_ ?_
    | with_reducible refine wr_frame (by with_reducible assumption) ?_ _ _
    | with_reducible refine State.emit_frame s_State_emit ?_ _ _ _
    | split

def thmTinWrite_foot : Nat := 0xc00000000000000000000000000000000000000000000000000000000000000000000000000000000000000000
theorem thmTinWrite_frame (hm : Sub thmTinWrite_foot m) (h : Frame m s0 s) :
    ∀ a0, Frame m s0 (thmTinWrite a0 s) := by
  intro a0
  have s_State_writeTin : Sub State.writeTin_foot m := hm.of (by decide)
  unfold thmTinWrite
  repeat' first
    | with_reducible assumption
    | with_reducible refine Frame.ite ?_ ?_
    | with_reducible refine State.writeTin_frame s_State_writeTin ?_ _
    | split

def execAnchorConversion_foot : Nat := 0x100000000000000000000000000000000000100000000000000000000000000000000640000000032122800000000000000000000000000000000040000000000000000000000008000000000000000000bd020180
theorem execAnchorConversion_frame (hm : Sub execAnchorConversion_foot m) (h : Frame m s0 s) :
    ∀ a0 a1 a2, ∃ t, execAnchorConversion a0 a1 a2 s = .next t ∧ Frame m s0 t := by
  intro a0 a1 a2
  have s_anchorConversion : Sub anchorConversion_foot m := hm.of (by decide)
  unfold execAnchorConversion
  refine hubOn_frame (fun s h => ?_) h
  repeat' first
    | with_reducible assumption
    | with_reducible refine Frame.ite ?_ ?_
    | with_reducible refine anchorConversion_frame s_anchorConversion ?_ _ _ _

def execThermalStep_foot : Nat := 0x10000000000000000000000000000000000000c00000380180000000000000000000000000000000000000000000000000000000000000000000000000000010040100
theorem execThermalStep_frame (hm : Sub execThermalStep_foot m) (h : Frame m s0 s) :
    ∃ t, execThermalStep s = .next t ∧ Frame m s0 t := by
  have s_thermalStep : Sub thermalStep_foot m := hm.of (by decide)
  unfold execThermalStep
  refine hubOn_frame (fun s h => ?_) h
  repeat' first
    | with_reducible assumption
    | with_reducible refine Frame.ite ?_ ?_
    | with_reducible refine thermalStep_frame s_thermalStep ?_

def execThermalStepComplete_foot : Nat := 0x1000000000000000000000000000000000001000000000000000000000000001800007e000c00003313b800000000000000000000000000000000040000000000000000000000008000000000000000000bd0c0180
theorem execThermalStepComplete_frame (hm : Sub execThermalStepComplete_foot m) (h : Frame m s0 s) :
    ∃ t, execThermalStepComplete s = .next t ∧ Frame m s0 t := by
  have s_thermalStepComplete : Sub thermalStepComplete_foot m := hm.of (by decide)
  unfold execThermalStepComplete
  refine hubOn_frame (fun s h => ?_) h
  repeat' first
    | with_reducible assumption
    | with_reducible refine Frame.ite ?_ ?_
    | with_reducible refine thermalStepComplete_frame s_thermalStepComplete ?_

def execBandFall_foot : Nat := 0x10000000000000000000000000000000000000000000010200000000000000000000000000000000004000000000000000000000000000000000000000000010000100
theorem execBandFall_frame (hm : Sub execBandFall_foot m) (h : Frame m s0 s) :
    ∃ t, execBandFall s = .next t ∧ Frame m s0 t := by
  have s_bandFall : Sub bandFall_foot m := hm.of (by decide)
  unfold execBandFall
  refine hubOn_frame (fun s h => ?_) h
  repeat' first
    | with_reducible assumption
    | with_reducible refine Frame.ite ?_ ?_
    | with_reducible refine bandFall_frame s_bandFall ?_

def execShutdownDrainExpire_foot : Nat := 0x100000000000000000000000000000808000100000000000000000000000000000000000000000000000002000020800000000008600180000000000000000000000000000000300000000000000000001bf001180
theorem execShutdownDrainExpire_frame (hm : Sub execShutdownDrainExpire_foot m) (h : Frame m s0 s) :
    ∃ t, execShutdownDrainExpire s = .next t ∧ Frame m s0 t := by
  have s_shutdownDrainExpire : Sub shutdownDrainExpire_foot m := hm.of (by decide)
  unfold execShutdownDrainExpire
  refine hubOn_frame (fun s h => ?_) h
  repeat' first
    | with_reducible assumption
    | with_reducible refine Frame.ite ?_ ?_
    | with_reducible refine shutdownDrainExpire_frame s_shutdownDrainExpire ?_

def execModelInit_foot : Nat := 0x2000000000000000080000000000000000000000000000000000000000000000000000000000000000000000000000010080000
theorem execModelInit_frame (hm : Sub execModelInit_foot m) (h : Frame m s0 s) :
    ∃ t, execModelInit s = .next t ∧ Frame m s0 t := by
  have s_modelInit : Sub modelInit_foot m := hm.of (by decide)
  unfold execModelInit
  refine hubOn_frame (fun s h => ?_) h
  repeat' first
    | with_reducible assumption
    | with_reducible refine Frame.ite ?_ ?_
    | with_reducible refine modelInit_frame s_modelInit ?_

def execReinitRecover_foot : Nat := 0x2000000000000000080000000000000000000000000000000000000000000000000000000000000000000000000000010080000
theorem execReinitRecover_frame (hm : Sub execReinitRecover_foot m) (h : Frame m s0 s) :
    ∃ t, execReinitRecover s = .next t ∧ Frame m s0 t := by
  have s_reinitRecover : Sub reinitRecover_foot m := hm.of (by decide)
  unfold execReinitRecover
  refine hubOn_frame (fun s h => ?_) h
  repeat' first
    | with_reducible assumption
    | with_reducible refine Frame.ite ?_ ?_
    | with_reducible refine reinitRecover_frame s_reinitRecover ?_

def execAnchorCorrection_foot : Nat := 0x10000000000000000000000000000001780000000000008000000000000000000000000000000040000000000000000000000000000000000000000000000010000100
theorem execAnchorCorrection_frame (hm : Sub execAnchorCorrection_foot m) (h : Frame m s0 s) :
    ∃ t, execAnchorCorrection s = .next t ∧ Frame m s0 t := by
  have s_anchorCorrection : Sub anchorCorrection_foot m := hm.of (by decide)
  unfold execAnchorCorrection
  refine hubOn_frame (fun s h => ?_) h
  repeat' first
    | with_reducible assumption
    | with_reducible refine Frame.ite ?_ ?_
    | with_reducible refine anchorCorrection_frame s_anchorCorrection ?_

def execCplateLocal_foot : Nat := 0x10000000000000000000000000000000000000000000000400000000000000000000000000000000000000000000000000000000000000000000000000000000000100
theorem execCplateLocal_frame (hm : Sub execCplateLocal_foot m) (h : Frame m s0 s) :
    ∃ t, execCplateLocal s = .next t ∧ Frame m s0 t := by
  have s_cplateLocal : Sub cplateLocal_foot m := hm.of (by decide)
  unfold execCplateLocal
  refine hubOn_frame (fun s h => ?_) h
  repeat' first
    | with_reducible assumption
    | with_reducible refine Frame.ite ?_ ?_
    | with_reducible refine cplateLocal_frame s_cplateLocal ?_

def execThmTinWrite_foot : Nat := 0xc00000000000000000000000000000000000000000000000000000000000000000000000000000000000000000
theorem execThmTinWrite_frame (hm : Sub execThmTinWrite_foot m) (h : Frame m s0 s) :
    ∀ a0, ∃ t, execThmTinWrite a0 s = .next t ∧ Frame m s0 t := by
  intro a0
  have s_thmTinWrite : Sub thmTinWrite_foot m := hm.of (by decide)
  unfold execThmTinWrite
  refine hubOn_frame (fun s h => ?_) h
  repeat' first
    | with_reducible assumption
    | with_reducible refine Frame.ite ?_ ?_
    | with_reducible refine thmTinWrite_frame s_thmTinWrite ?_ _

end Sys2Proof.Machine
end

