-- ==== Sys2Proof/Laws/FrameRingOps.lean ====
section
/-!
SUPPORT. Laws/FrameRingOps.lean: the footprint of every function of Machine/RingOps.lean, and that it writes nothing outside it.
-/
namespace Sys2Proof.Machine

set_option linter.all false

variable {m : Nat} {s0 s : State}

def State.setRing_foot : Nat := 0x20000000
theorem State.setRing_frame (hm : Sub State.setRing_foot m) (h : Frame m s0 s) :
    ∀ a1 a2, Frame m s0 (State.setRing s a1 a2) := by
  intro a1 a2
  have c_hif : m.testBit 29 = true := hm.bit 29 (by decide)
  unfold State.setRing
  repeat' first
    | with_reducible assumption
    | (extract_lets -underBinder +onlyGivenNames x; have u : True := (by clear_value x; guard_hyp x :ₛ State; trivial); clear u; refine Frame.cut (m := m) (s0 := s0) (t := x) ?_ ?_; (on_goal 1 => subst x); (on_goal 2 => (intro hx; clear_value x)))
    | (extract_lets -underBinder +onlyGivenNames n; first | clear_value n | subst n)
    | with_reducible refine Frame.ite ?_ ?_
    | with_reducible exact Frame.set_hif c_hif (by with_reducible assumption)
    | split

def State.fetchOne_foot : Nat := 0x20000080
theorem State.fetchOne_frame (hm : Sub State.fetchOne_foot m) (h : Frame m s0 s) :
    ∀ a1, Frame m s0 (State.fetchOne s a1) := by
  intro a1
  have s_State_setRing : Sub State.setRing_foot m := hm.of (by decide)
  have s_State_send : Sub State.send_foot m := hm.of (by decide)
  unfold State.fetchOne
  repeat' first
    | with_reducible assumption
    | (extract_lets -underBinder +onlyGivenNames x; have u : True := (by clear_value x; guard_hyp x :ₛ State; trivial); clear u; refine Frame.cut (m := m) (s0 := s0) (t := x) ?_ ?_; (on_goal 1 => subst x); (on_goal 2 => (intro hx; clear_value x)))
    | (extract_lets -underBinder +onlyGivenNames n; first | clear_value n | subst n)
    | with_reducible refine Frame.ite ?_ ?_
    | with_reducible refine State.setRing_frame s_State_setRing ?_ _ _
    | with_reducible refine State.send_frame s_State_send ?_ _
    | split

def State.tryFetch_foot : Nat := 0x20000080
theorem State.tryFetch_frame (hm : Sub State.tryFetch_foot m) (h : Frame m s0 s) :
    ∀ a1, Frame m s0 (State.tryFetch s a1) := by
  intro a1
  have s_State_fetchOne : Sub State.fetchOne_foot m := hm.of (by decide)
  unfold State.tryFetch
  repeat' first
    | with_reducible assumption
    | with_reducible refine Frame.ite ?_ ?_
    | with_reducible refine State.fetchOne_frame s_State_fetchOne ?_ _

def State.landAt_foot : Nat := 0xa0000000
theorem State.landAt_frame (hm : Sub State.landAt_foot m) (h : Frame m s0 s) :
    ∀ a1 a2 a3, Frame m s0 (State.landAt s a1 a2 a3) := by
  intro a1 a2 a3
  have s_State_setPar : Sub State.setPar_foot m := hm.of (by decide)
  have s_State_setRing : Sub State.setRing_foot m := hm.of (by decide)
  unfold State.landAt
  repeat' first
    | with_reducible assumption
    | (extract_lets -underBinder +onlyGivenNames x; have u : True := (by clear_value x; guard_hyp x :ₛ State; trivial); clear u; refine Frame.cut (m := m) (s0 := s0) (t := x) ?_ ?_; (on_goal 1 => subst x); (on_goal 2 => (intro hx; clear_value x)))
    | (extract_lets -underBinder +onlyGivenNames n; first | clear_value n | subst n)
    | with_reducible refine Frame.ite ?_ ?_
    | with_reducible refine State.setPar_frame s_State_setPar ?_ _
    | with_reducible refine State.setRing_frame s_State_setRing ?_ _ _
    | split

def State.landed_foot : Nat := 0xa0000000
theorem State.landed_frame (hm : Sub State.landed_foot m) (h : Frame m s0 s) :
    ∀ a1, Frame m s0 (State.landed s a1) := by
  intro a1
  have s_State_landAt : Sub State.landAt_foot m := hm.of (by decide)
  unfold State.landed
  repeat' first
    | with_reducible assumption
    | with_reducible refine Frame.ite ?_ ?_
    | with_reducible refine State.landAt_frame s_State_landAt ?_ _ _ _

def State.writeCompletion_foot : Nat := 0x20000080
theorem State.writeCompletion_frame (hm : Sub State.writeCompletion_foot m) (h : Frame m s0 s) :
    ∀ a1 a2 a3 a4 a5 a6, Frame m s0 (State.writeCompletion s a1 a2 a3 a4 a5 a6) := by
  intro a1 a2 a3 a4 a5 a6
  have s_State_setRing : Sub State.setRing_foot m := hm.of (by decide)
  have s_State_send : Sub State.send_foot m := hm.of (by decide)
  unfold State.writeCompletion
  repeat' first
    | with_reducible assumption
    | (extract_lets -underBinder +onlyGivenNames x; have u : True := (by clear_value x; guard_hyp x :ₛ State; trivial); clear u; refine Frame.cut (m := m) (s0 := s0) (t := x) ?_ ?_; (on_goal 1 => subst x); (on_goal 2 => (intro hx; clear_value x)))
    | (extract_lets -underBinder +onlyGivenNames n; first | clear_value n | subst n)
    | with_reducible refine Frame.ite ?_ ?_
    | with_reducible refine State.setRing_frame s_State_setRing ?_ _ _
    | with_reducible refine State.send_frame s_State_send ?_ _
    | split

def State.completeAs_foot : Nat := 0xa0000080
theorem State.completeAs_frame (hm : Sub State.completeAs_foot m) (h : Frame m s0 s) :
    ∀ a1 a2 a3 a4 a5, Frame m s0 (State.completeAs s a1 a2 a3 a4 a5) := by
  intro a1 a2 a3 a4 a5
  have s_State_tryFetch : Sub State.tryFetch_foot m := hm.of (by decide)
  have s_State_setPar : Sub State.setPar_foot m := hm.of (by decide)
  have s_State_landed : Sub State.landed_foot m := hm.of (by decide)
  have s_State_writeCompletion : Sub State.writeCompletion_foot m := hm.of (by decide)
  have s_State_mirror : Sub State.mirror_foot m := hm.of (by decide)
  unfold State.completeAs
  repeat' first
    | with_reducible assumption
    | (extract_lets -underBinder +onlyGivenNames x; have u : True := (by clear_value x; guard_hyp x :ₛ State; trivial); clear u; refine Frame.cut (m := m) (s0 := s0) (t := x) ?_ ?_; (on_goal 1 => subst x); (on_goal 2 => (intro hx; clear_value x)))
    | (extract_lets -underBinder +onlyGivenNames n; first | clear_value n | subst n)
    | with_reducible refine Frame.ite ?_ ?_
    | with_reducible refine State.tryFetch_frame s_State_tryFetch ?_ _
    | with_reducible refine State.setPar_frame s_State_setPar ?_ _
    | with_reducible refine State.landed_frame s_State_landed ?_ _
    | with_reducible refine State.writeCompletion_frame s_State_writeCompletion ?_ _ _ _ _ _ _
    | with_reducible refine State.mirror_frame s_State_mirror ?_ _ _ _
    | split

def State.complete_foot : Nat := 0xa0000080
theorem State.complete_frame (hm : Sub State.complete_foot m) (h : Frame m s0 s) :
    ∀ a1 a2 a3, Frame m s0 (State.complete s a1 a2 a3) := by
  intro a1 a2 a3
  have s_State_completeAs : Sub State.completeAs_foot m := hm.of (by decide)
  unfold State.complete
  repeat' first
    | with_reducible assumption
    | with_reducible refine Frame.ite ?_ ?_
    | with_reducible refine State.completeAs_frame s_State_completeAs ?_ _ _ _ _ _

def State.runOp_foot : Nat := 0x20000000
theorem State.runOp_frame (hm : Sub State.runOp_foot m) {f2} (hf : ∀ d s, Frame m s0 s → Frame m s0 (f2 d s)) (h : Frame m s0 s) :
    ∀ a1, Frame m s0 (State.runOp s a1 f2) := by
  intro a1
  have c_hif : m.testBit 29 = true := hm.bit 29 (by decide)
  unfold State.runOp
  repeat' first
    | with_reducible assumption
    | (extract_lets -underBinder +onlyGivenNames x; have u : True := (by clear_value x; guard_hyp x :ₛ State; trivial); clear u; refine Frame.cut (m := m) (s0 := s0) (t := x) ?_ ?_; (on_goal 1 => subst x); (on_goal 2 => (intro hx; clear_value x)))
    | (extract_lets -underBinder +onlyGivenNames n; first | clear_value n | subst n)
    | with_reducible refine Frame.ite ?_ ?_
    | with_reducible exact Frame.set_hif c_hif (by with_reducible assumption)
    | with_reducible refine hf _ _ ?_
    | split

def State.runOpcode_foot : Nat := 0x20000000
theorem State.runOpcode_frame (hm : Sub State.runOpcode_foot m) {f2} (hf : ∀ d s, Frame m s0 s → Frame m s0 (f2 d s)) (h : Frame m s0 s) :
    ∀ a1, Frame m s0 (State.runOpcode s a1 f2) := by
  intro a1
  have s_State_runOp : Sub State.runOp_foot m := hm.of (by decide)
  unfold State.runOpcode
  repeat' first
    | with_reducible assumption
    | with_reducible refine Frame.ite ?_ ?_
    | with_reducible refine State.runOp_frame s_State_runOp (fun d s hs => ?_) ?_ _
    | with_reducible refine hf _ _ ?_

def State.setRState_foot : Nat := 0x3000000000000000000000000000000000000020000000
theorem State.setRState_frame (hm : Sub State.setRState_foot m) (h : Frame m s0 s) :
    ∀ a1 a2, Frame m s0 (State.setRState s a1 a2) := by
  intro a1 a2
  have s_State_setFlagBit : Sub State.setFlagBit_foot m := hm.of (by decide)
  have s_State_setRing : Sub State.setRing_foot m := hm.of (by decide)
  have k_HIF_QUAR : Has m HIF_QUAR := hm.has 5 19 rfl (by decide)
  have k_HIF_RSTATE : Has m HIF_RSTATE := hm.has 5 20 rfl (by decide)
  unfold State.setRState
  repeat' first
    | with_reducible assumption
    | (extract_lets -underBinder +onlyGivenNames x; have u : True := (by clear_value x; guard_hyp x :ₛ State; trivial); clear u; refine Frame.cut (m := m) (s0 := s0) (t := x) ?_ ?_; (on_goal 1 => subst x); (on_goal 2 => (intro hx; clear_value x)))
    | (extract_lets -underBinder +onlyGivenNames n; first | clear_value n | subst n)
    | with_reducible refine Frame.ite ?_ ?_
    | with_reducible refine wr_frame (by with_reducible assumption) ?_ _ _
    | with_reducible refine State.setFlagBit_frame s_State_setFlagBit (by with_reducible assumption) ?_ _ _
    | with_reducible refine State.setRing_frame s_State_setRing ?_ _ _
    | split

def State.keepHdr_foot : Nat := 0x80000000
theorem State.keepHdr_frame (hm : Sub State.keepHdr_foot m) (h : Frame m s0 s) :
    ∀ a1 a2 a3, Frame m s0 (State.keepHdr s a1 a2 a3) := by
  intro a1 a2 a3
  have s_State_setPar : Sub State.setPar_foot m := hm.of (by decide)
  unfold State.keepHdr
  repeat' first
    | with_reducible assumption
    | (extract_lets -underBinder +onlyGivenNames x; have u : True := (by clear_value x; guard_hyp x :ₛ State; trivial); clear u; refine Frame.cut (m := m) (s0 := s0) (t := x) ?_ ?_; (on_goal 1 => subst x); (on_goal 2 => (intro hx; clear_value x)))
    | (extract_lets -underBinder +onlyGivenNames n; first | clear_value n | subst n)
    | with_reducible refine Frame.ite ?_ ?_
    | with_reducible refine State.setPar_frame s_State_setPar ?_ _
    | split

def State.mirrorRing_foot : Nat := 0x80000080
theorem State.mirrorRing_frame (hm : Sub State.mirrorRing_foot m) (h : Frame m s0 s) :
    ∀ a1, Frame m s0 (State.mirrorRing s a1) := by
  intro a1
  have s_State_mirror : Sub State.mirror_foot m := hm.of (by decide)
  unfold State.mirrorRing
  repeat' first
    | with_reducible assumption
    | with_reducible refine Frame.ite ?_ ?_
    | with_reducible refine State.mirror_frame s_State_mirror ?_ _ _ _

def State.quarCheck_foot : Nat := 0x10000000000000000000000000000000000000000000000000000000000000000000000000000000000000003000000000000000000000000000000000000020000100
theorem State.quarCheck_frame (hm : Sub State.quarCheck_foot m) (h : Frame m s0 s) :
    ∀ a1, Frame m s0 (State.quarCheck s a1) := by
  intro a1
  have s_State_setRState : Sub State.setRState_foot m := hm.of (by decide)
  have s_State_emit : Sub State.emit_foot m := hm.of (by decide)
  unfold State.quarCheck
  repeat' first
    | with_reducible assumption
    | (extract_lets -underBinder +onlyGivenNames x; have u : True := (by clear_value x; guard_hyp x :ₛ State; trivial); clear u; refine Frame.cut (m := m) (s0 := s0) (t := x) ?_ ?_; (on_goal 1 => subst x); (on_goal 2 => (intro hx; clear_value x)))
    | (extract_lets -underBinder +onlyGivenNames n; first | clear_value n | subst n)
    | with_reducible refine Frame.ite ?_ ?_
    | with_reducible refine State.setRState_frame s_State_setRState ?_ _ _
    | with_reducible refine State.emit_frame s_State_emit ?_ _ _ _
    | split

def State.ringViol_foot : Nat := 0x10000000000000000000000000000000000000000000000000000000000000000000000000000000000000003080000000000000000000000000000000000020000100
theorem State.ringViol_frame (hm : Sub State.ringViol_foot m) (h : Frame m s0 s) :
    ∀ a1 a2 a3, Frame m s0 (State.ringViol s a1 a2 a3) := by
  intro a1 a2 a3
  have s_State_emitLim : Sub State.emitLim_foot m := hm.of (by decide)
  have s_State_setRing : Sub State.setRing_foot m := hm.of (by decide)
  have s_State_quarCheck : Sub State.quarCheck_foot m := hm.of (by decide)
  have k_HIF_STAT_viol : Has m HIF_STAT_viol := hm.has 5 14 rfl (by decide)
  unfold State.ringViol
  repeat' first
    | with_reducible assumption
    | (extract_lets -underBinder +onlyGivenNames x; have u : True := (by clear_value x; guard_hyp x :ₛ State; trivial); clear u; refine Frame.cut (m := m) (s0 := s0) (t := x) ?_ ?_; (on_goal 1 => subst x); (on_goal 2 => (intro hx; clear_value x)))
    | (extract_lets -underBinder +onlyGivenNames n; first | clear_value n | subst n)
    | with_reducible refine Frame.ite ?_ ?_
    | with_reducible refine bump_frame (by with_reducible assumption) ?_ _
    | with_reducible refine State.emitLim_frame s_State_emitLim ?_ _ _ _ _ _
    | with_reducible refine State.setRing_frame s_State_setRing ?_ _ _
    | with_reducible refine State.quarCheck_frame s_State_quarCheck ?_ _
    | split

end Sys2Proof.Machine
end

