-- ==== Sys2Proof/Laws/FrameRings.lean ====
section
/-!
SUPPORT. Laws/FrameRings.lean: the footprint of every function of Machine/Rings.lean, and that it writes nothing outside it.
-/
namespace Sys2Proof.Machine

set_option linter.all false

variable {m : Nat} {s0 s : State}

def State.fabricEvent_foot : Nat := 0x10000000000000000000000000000000000000000000000000000000000000000000000000000000000000000100000000000000000000000000000000000000000100
theorem State.fabricEvent_frame (hm : Sub State.fabricEvent_foot m) (h : Frame m s0 s) :
    ∀ a1 a2 a3, Frame m s0 (State.fabricEvent s a1 a2 a3) := by
  intro a1 a2 a3
  have s_State_emit : Sub State.emit_foot m := hm.of (by decide)
  have k_HIF_STAT_fabric : Has m HIF_STAT_fabric := hm.has 5 15 rfl (by decide)
  unfold State.fabricEvent
  repeat' first
    | with_reducible assumption
    | with_reducible refine Frame.ite ?_ ?_
    | with_reducible refine bump_frame (by with_reducible assumption) ?_ _
    | with_reducible refine State.emit_frame s_State_emit ?_ _ _ _

def descriptorFetched_foot : Nat := 0x100000000000000000000000000000000000000000000000000000000000000000000000000000000000000001000000000000000000000000000000000000a0000180
theorem descriptorFetched_frame (hm : Sub descriptorFetched_foot m) (h : Frame m s0 s) :
    ∀ a0 a1 a2, Frame m s0 (descriptorFetched a0 a1 a2 s) := by
  intro a0 a1 a2
  have s_State_tryFetch : Sub State.tryFetch_foot m := hm.of (by decide)
  have s_State_fabricEvent : Sub State.fabricEvent_foot m := hm.of (by decide)
  have s_State_keepHdr : Sub State.keepHdr_foot m := hm.of (by decide)
  have s_State_mirrorRing : Sub State.mirrorRing_foot m := hm.of (by decide)
  have s_State_setRing : Sub State.setRing_foot m := hm.of (by decide)
  have s_State_completeAs : Sub State.completeAs_foot m := hm.of (by decide)
  have s_State_send : Sub State.send_foot m := hm.of (by decide)
  have s_State_mirror : Sub State.mirror_foot m := hm.of (by decide)
  unfold descriptorFetched
  repeat' first
    | with_reducible assumption
    | (extract_lets -underBinder +onlyGivenNames x; have u : True := (by clear_value x; guard_hyp x :ₛ State; trivial); clear u; refine Frame.cut (m := m) (s0 := s0) (t := x) ?_ ?_; (on_goal 1 => subst x); (on_goal 2 => (intro hx; clear_value x)))
    | (extract_lets -underBinder +onlyGivenNames n; first | clear_value n | subst n)
    | with_reducible refine Frame.ite ?_ ?_
    | with_reducible refine State.tryFetch_frame s_State_tryFetch ?_ _
    | with_reducible refine State.fabricEvent_frame s_State_fabricEvent ?_ _ _ _
    | with_reducible refine State.keepHdr_frame s_State_keepHdr ?_ _ _ _
    | with_reducible refine State.mirrorRing_frame s_State_mirrorRing ?_ _
    | with_reducible refine State.setRing_frame s_State_setRing ?_ _ _
    | with_reducible refine State.completeAs_frame s_State_completeAs ?_ _ _ _ _ _
    | with_reducible refine State.send_frame s_State_send ?_ _
    | with_reducible refine State.mirror_frame s_State_mirror ?_ _ _ _
    | split

def State.dbViol_foot : Nat := 0x10000000000000000000000000000000000000000000000000000000000000000000000000000000000000003080000000000000000000000000000000000020000100
theorem State.dbViol_frame (hm : Sub State.dbViol_foot m) (h : Frame m s0 s) :
    ∀ a1 a2 a3, Frame m s0 (State.dbViol s a1 a2 a3) := by
  intro a1 a2 a3
  have s_State_ringViol : Sub State.ringViol_foot m := hm.of (by decide)
  unfold State.dbViol
  repeat' first
    | with_reducible assumption
    | with_reducible refine Frame.ite ?_ ?_
    | with_reducible refine State.ringViol_frame s_State_ringViol ?_ _ _ _
    | split

def State.dbBadRead_foot : Nat := 0x10000000000000000000000000000000000000000000000000000000000000000000000000000000000000003080000000000000000000000000000000000020000180
theorem State.dbBadRead_frame (hm : Sub State.dbBadRead_foot m) (h : Frame m s0 s) :
    ∀ a1, Frame m s0 (State.dbBadRead s a1) := by
  intro a1
  have s_State_dbViol : Sub State.dbViol_foot m := hm.of (by decide)
  have s_State_send : Sub State.send_foot m := hm.of (by decide)
  unfold State.dbBadRead
  repeat' first
    | with_reducible assumption
    | (extract_lets -underBinder +onlyGivenNames x; have u : True := (by clear_value x; guard_hyp x :ₛ State; trivial); clear u; refine Frame.cut (m := m) (s0 := s0) (t := x) ?_ ?_; (on_goal 1 => subst x); (on_goal 2 => (intro hx; clear_value x)))
    | (extract_lets -underBinder +onlyGivenNames n; first | clear_value n | subst n)
    | with_reducible refine Frame.ite ?_ ?_
    | with_reducible refine State.dbViol_frame s_State_dbViol ?_ _ _ _
    | with_reducible refine State.send_frame s_State_send ?_ _
    | split

def State.enableRing_foot : Nat := 0x10000000000000000000000000000000000000000000000000000000000000000000000000000000000000003000000000000000000000000000000000000020000100
theorem State.enableRing_frame (hm : Sub State.enableRing_foot m) (h : Frame m s0 s) :
    ∀ a1, Frame m s0 (State.enableRing s a1) := by
  intro a1
  have s_State_setRState : Sub State.setRState_foot m := hm.of (by decide)
  have s_State_setRing : Sub State.setRing_foot m := hm.of (by decide)
  have s_State_emit : Sub State.emit_foot m := hm.of (by decide)
  unfold State.enableRing
  repeat' first
    | with_reducible assumption
    | with_reducible refine Frame.ite ?_ ?_
    | with_reducible refine State.setRState_frame s_State_setRState ?_ _ _
    | with_reducible refine State.setRing_frame s_State_setRing ?_ _ _
    | with_reducible refine State.emit_frame s_State_emit ?_ _ _ _

def State.disableRing_foot : Nat := 0x100000000000000000000000000000000000000000000000000000000000000000000000000000000000000030000000000000000000000000000000000000a0000180
theorem State.disableRing_frame (hm : Sub State.disableRing_foot m) (h : Frame m s0 s) :
    ∀ a1, Frame m s0 (State.disableRing s a1) := by
  intro a1
  have s_State_setRState : Sub State.setRState_foot m := hm.of (by decide)
  have s_State_complete : Sub State.complete_foot m := hm.of (by decide)
  have s_State_setPar : Sub State.setPar_foot m := hm.of (by decide)
  have s_State_setRing : Sub State.setRing_foot m := hm.of (by decide)
  have s_State_emit : Sub State.emit_foot m := hm.of (by decide)
  unfold State.disableRing
  repeat' first
    | with_reducible assumption
    | (extract_lets -underBinder +onlyGivenNames x; have u : True := (by clear_value x; guard_hyp x :ₛ State; trivial); clear u; refine Frame.cut (m := m) (s0 := s0) (t := x) ?_ ?_; (on_goal 1 => subst x); (on_goal 2 => (intro hx; clear_value x)))
    | (extract_lets -underBinder +onlyGivenNames n; first | clear_value n | subst n)
    | with_reducible refine Frame.ite ?_ ?_
    | with_reducible refine State.setRState_frame s_State_setRState ?_ _ _
    | with_reducible refine State.complete_frame s_State_complete ?_ _ _ _
    | with_reducible refine State.setPar_frame s_State_setPar ?_ _
    | with_reducible refine State.setRing_frame s_State_setRing ?_ _ _
    | with_reducible refine State.emit_frame s_State_emit ?_ _ _ _
    | with_reducible refine Frame.foldl ?_ (fun s x hs => ?_)

def hifSctlWrite_foot : Nat := 0x100000000000000000000000000000000000000000000000000000000000000000000000000000000000000030018000000000000000000000000000000000a0000180
theorem hifSctlWrite_frame (hm : Sub hifSctlWrite_foot m) (h : Frame m s0 s) :
    ∀ a0, Frame m s0 (hifSctlWrite a0 s) := by
  intro a0
  have s_State_enableRing : Sub State.enableRing_foot m := hm.of (by decide)
  have s_State_disableRing : Sub State.disableRing_foot m := hm.of (by decide)
  have k_HIF_SCTL_en : Has m HIF_SCTL_en := hm.has 5 6 rfl (by decide)
  have k_HIF_SCTL_size : Has m HIF_SCTL_size := hm.has 5 7 rfl (by decide)
  unfold hifSctlWrite
  repeat' first
    | with_reducible assumption
    | (extract_lets -underBinder +onlyGivenNames x; have u : True := (by clear_value x; guard_hyp x :ₛ State; trivial); clear u; refine Frame.cut (m := m) (s0 := s0) (t := x) ?_ ?_; (on_goal 1 => subst x); (on_goal 2 => (intro hx; clear_value x)))
    | (extract_lets -underBinder +onlyGivenNames n; first | clear_value n | subst n)
    | with_reducible refine Frame.ite ?_ ?_
    | with_reducible refine wr_frame (by with_reducible assumption) ?_ _ _
    | with_reducible refine State.enableRing_frame s_State_enableRing ?_ _
    | with_reducible refine State.disableRing_frame s_State_disableRing ?_ _
    | split

def State.doorbell_foot : Nat := 0x20000000
theorem State.doorbell_frame (hm : Sub State.doorbell_foot m) {f2} (hf : ∀ s, Frame m s0 s → Frame m s0 (f2 s)) (h : Frame m s0 s) :
    ∀ a1, Frame m s0 (State.doorbell s a1 f2) := by
  intro a1
  have s_State_setRing : Sub State.setRing_foot m := hm.of (by decide)
  unfold State.doorbell
  repeat' first
    | with_reducible assumption
    | (extract_lets -underBinder +onlyGivenNames x; have u : True := (by clear_value x; guard_hyp x :ₛ State; trivial); clear u; refine Frame.cut (m := m) (s0 := s0) (t := x) ?_ ?_; (on_goal 1 => subst x); (on_goal 2 => (intro hx; clear_value x)))
    | (extract_lets -underBinder +onlyGivenNames n; first | clear_value n | subst n)
    | with_reducible refine Frame.ite ?_ ?_
    | with_reducible refine State.setRing_frame s_State_setRing ?_ _ _
    | with_reducible refine hf _ ?_
    | split

def State.doorbellAt_foot : Nat := 0x20000000
theorem State.doorbellAt_frame (hm : Sub State.doorbellAt_foot m) {f3} (hf : ∀ d s, Frame m s0 s → Frame m s0 (f3 d s)) (h : Frame m s0 s) :
    ∀ a1 a2, Frame m s0 (State.doorbellAt s a1 a2 f3) := by
  intro a1 a2
  have s_State_doorbell : Sub State.doorbell_foot m := hm.of (by decide)
  unfold State.doorbellAt
  repeat' first
    | with_reducible assumption
    | with_reducible refine Frame.ite ?_ ?_
    | with_reducible refine State.doorbell_frame s_State_doorbell (fun s hs => ?_) ?_ _
    | with_reducible refine hf _ _ ?_
    | split

def doorbellProdWrite_foot : Nat := 0x10000000000000000000000000000000000000000000000000000000000000000000000000000000000000003080000000000000000000000000000000000020000180
theorem doorbellProdWrite_frame (hm : Sub doorbellProdWrite_foot m) (h : Frame m s0 s) :
    ∀ a0 a1, Frame m s0 (doorbellProdWrite a0 a1 s) := by
  intro a0 a1
  have s_State_doorbellAt : Sub State.doorbellAt_foot m := hm.of (by decide)
  have s_State_dbViol : Sub State.dbViol_foot m := hm.of (by decide)
  have s_State_tryFetch : Sub State.tryFetch_foot m := hm.of (by decide)
  have s_State_setRing : Sub State.setRing_foot m := hm.of (by decide)
  unfold doorbellProdWrite
  repeat' first
    | with_reducible assumption
    | (extract_lets -underBinder +onlyGivenNames x; have u : True := (by clear_value x; guard_hyp x :ₛ State; trivial); clear u; refine Frame.cut (m := m) (s0 := s0) (t := x) ?_ ?_; (on_goal 1 => subst x); (on_goal 2 => (intro hx; clear_value x)))
    | (extract_lets -underBinder +onlyGivenNames n; first | clear_value n | subst n)
    | with_reducible refine Frame.ite ?_ ?_
    | with_reducible refine State.doorbellAt_frame s_State_doorbellAt (fun d s hs => ?_) ?_ _ _
    | with_reducible refine State.dbViol_frame s_State_dbViol ?_ _ _ _
    | with_reducible refine State.tryFetch_frame s_State_tryFetch ?_ _
    | with_reducible refine State.setRing_frame s_State_setRing ?_ _ _
    | split

def doorbellCqHeadWrite_foot : Nat := 0x10000000000000000000000000000000000000000000000000000000000000000000000000000000000000003080000000000000000000000000000000000020000100
theorem doorbellCqHeadWrite_frame (hm : Sub doorbellCqHeadWrite_foot m) (h : Frame m s0 s) :
    ∀ a0 a1, Frame m s0 (doorbellCqHeadWrite a0 a1 s) := by
  intro a0 a1
  have s_State_doorbellAt : Sub State.doorbellAt_foot m := hm.of (by decide)
  have s_State_dbViol : Sub State.dbViol_foot m := hm.of (by decide)
  have s_State_setRing : Sub State.setRing_foot m := hm.of (by decide)
  unfold doorbellCqHeadWrite
  repeat' first
    | with_reducible assumption
    | (extract_lets -underBinder +onlyGivenNames x; have u : True := (by clear_value x; guard_hyp x :ₛ State; trivial); clear u; refine Frame.cut (m := m) (s0 := s0) (t := x) ?_ ?_; (on_goal 1 => subst x); (on_goal 2 => (intro hx; clear_value x)))
    | (extract_lets -underBinder +onlyGivenNames n; first | clear_value n | subst n)
    | with_reducible refine Frame.ite ?_ ?_
    | with_reducible refine State.doorbellAt_frame s_State_doorbellAt (fun d s hs => ?_) ?_ _ _
    | with_reducible refine State.dbViol_frame s_State_dbViol ?_ _ _ _
    | with_reducible refine State.setRing_frame s_State_setRing ?_ _ _
    | split

def doorbellBadAccess_foot : Nat := 0x10000000000000000000000000000000000000000000000000000000000000000000000000000000000000003080000000000000000000000000000000000020000180
theorem doorbellBadAccess_frame (hm : Sub doorbellBadAccess_foot m) (h : Frame m s0 s) :
    ∀ a0 a1 a2 a3, Frame m s0 (doorbellBadAccess a0 a1 a2 a3 s) := by
  intro a0 a1 a2 a3
  have s_State_doorbellAt : Sub State.doorbellAt_foot m := hm.of (by decide)
  have s_State_dbViol : Sub State.dbViol_foot m := hm.of (by decide)
  have s_State_dbBadRead : Sub State.dbBadRead_foot m := hm.of (by decide)
  unfold doorbellBadAccess
  repeat' first
    | with_reducible assumption
    | (extract_lets -underBinder +onlyGivenNames x; have u : True := (by clear_value x; guard_hyp x :ₛ State; trivial); clear u; refine Frame.cut (m := m) (s0 := s0) (t := x) ?_ ?_; (on_goal 1 => subst x); (on_goal 2 => (intro hx; clear_value x)))
    | (extract_lets -underBinder +onlyGivenNames n; first | clear_value n | subst n)
    | with_reducible refine Frame.ite ?_ ?_
    | with_reducible refine State.doorbellAt_frame s_State_doorbellAt (fun d s hs => ?_) ?_ _ _
    | with_reducible refine State.dbViol_frame s_State_dbViol ?_ _ _ _
    | with_reducible refine State.dbBadRead_frame s_State_dbBadRead ?_ _
    | split

def doorbellStray_foot : Nat := 0x200000000000000000000000000000000000000000000
theorem doorbellStray_frame (hm : Sub doorbellStray_foot m) (h : Frame m s0 s) :
    ∀ a0, Frame m s0 (doorbellStray a0 s) := by
  intro a0
  have k_HIF_STAT_stray_db : Has m HIF_STAT_stray_db := hm.has 5 16 rfl (by decide)
  unfold doorbellStray
  repeat' first
    | with_reducible assumption
    | with_reducible refine Frame.ite ?_ ?_
    | with_reducible refine bump_frame (by with_reducible assumption) ?_ _
    | split

def bucketLeak_foot : Nat := 0x20000000
theorem bucketLeak_frame (hm : Sub bucketLeak_foot m) (h : Frame m s0 s) :
    Frame m s0 (bucketLeak s) := by
  have c_hif : m.testBit 29 = true := hm.bit 29 (by decide)
  unfold bucketLeak
  repeat' first
    | with_reducible assumption
    | (extract_lets -underBinder +onlyGivenNames x; have u : True := (by clear_value x; guard_hyp x :ₛ State; trivial); clear u; refine Frame.cut (m := m) (s0 := s0) (t := x) ?_ ?_; (on_goal 1 => subst x); (on_goal 2 => (intro hx; clear_value x)))
    | (extract_lets -underBinder +onlyGivenNames n; first | clear_value n | subst n)
    | with_reducible refine Frame.ite ?_ ?_
    | with_reducible exact Frame.set_hif c_hif (by with_reducible assumption)
    | split

def State.takeDesc_foot : Nat := 0x100000000000000000000000000000000000000000000000000000000000000000000000000000000000000030800000000000000000000000000000000000a0000180
theorem State.takeDesc_frame (hm : Sub State.takeDesc_foot m) (h : Frame m s0 s) :
    ∀ a1, Frame m s0 (State.takeDesc s a1) := by
  intro a1
  have s_State_tryFetch : Sub State.tryFetch_foot m := hm.of (by decide)
  have s_State_complete : Sub State.complete_foot m := hm.of (by decide)
  have s_State_ringViol : Sub State.ringViol_foot m := hm.of (by decide)
  have s_State_setRing : Sub State.setRing_foot m := hm.of (by decide)
  have c_hif : m.testBit 29 = true := hm.bit 29 (by decide)
  unfold State.takeDesc
  repeat' first
    | with_reducible assumption
    | (extract_lets -underBinder +onlyGivenNames x; have u : True := (by clear_value x; guard_hyp x :ₛ State; trivial); clear u; refine Frame.cut (m := m) (s0 := s0) (t := x) ?_ ?_; (on_goal 1 => subst x); (on_goal 2 => (intro hx; clear_value x)))
    | (extract_lets -underBinder +onlyGivenNames n; first | clear_value n | subst n)
    | with_reducible refine Frame.ite ?_ ?_
    | with_reducible refine State.tryFetch_frame s_State_tryFetch ?_ _
    | with_reducible refine State.complete_frame s_State_complete ?_ _ _ _
    | with_reducible refine State.ringViol_frame s_State_ringViol ?_ _ _ _
    | with_reducible refine State.setRing_frame s_State_setRing ?_ _ _
    | with_reducible exact Frame.set_hif c_hif (by with_reducible assumption)
    | split

def fp2Turn_foot : Nat := 0x100000000000000000000000000000000000000000000000000000000000000000000000000000000000000030800000000000000000000000000000000000a0000180
theorem fp2Turn_frame (hm : Sub fp2Turn_foot m) (h : Frame m s0 s) :
    Frame m s0 (fp2Turn s) := by
  have s_State_takeDesc : Sub State.takeDesc_foot m := hm.of (by decide)
  have c_hif : m.testBit 29 = true := hm.bit 29 (by decide)
  unfold fp2Turn
  repeat' first
    | with_reducible assumption
    | (extract_lets -underBinder +onlyGivenNames x; have u : True := (by clear_value x; guard_hyp x :ₛ State; trivial); clear u; refine Frame.cut (m := m) (s0 := s0) (t := x) ?_ ?_; (on_goal 1 => subst x); (on_goal 2 => (intro hx; clear_value x)))
    | (extract_lets -underBinder +onlyGivenNames n; first | clear_value n | subst n)
    | with_reducible refine Frame.ite ?_ ?_
    | with_reducible refine State.takeDesc_frame s_State_takeDesc ?_ _
    | with_reducible exact Frame.set_hif c_hif (by with_reducible assumption)
    | split

def helloOp_foot : Nat := 0x100000000000000000000000000000000000000000000000000000000000000000000000000000000000000030000000000000000000000000000000000000a0000180
theorem helloOp_frame (hm : Sub helloOp_foot m) (h : Frame m s0 s) :
    ∀ a0, Frame m s0 (helloOp a0 s) := by
  intro a0
  have s_State_setRState : Sub State.setRState_foot m := hm.of (by decide)
  have s_State_complete : Sub State.complete_foot m := hm.of (by decide)
  have s_State_setRing : Sub State.setRing_foot m := hm.of (by decide)
  have s_State_emit : Sub State.emit_foot m := hm.of (by decide)
  have s_State_mirror : Sub State.mirror_foot m := hm.of (by decide)
  unfold helloOp
  repeat' first
    | with_reducible assumption
    | (extract_lets -underBinder +onlyGivenNames x; have u : True := (by clear_value x; guard_hyp x :ₛ State; trivial); clear u; refine Frame.cut (m := m) (s0 := s0) (t := x) ?_ ?_; (on_goal 1 => subst x); (on_goal 2 => (intro hx; clear_value x)))
    | (extract_lets -underBinder +onlyGivenNames n; first | clear_value n | subst n)
    | with_reducible refine Frame.ite ?_ ?_
    | with_reducible refine State.setRState_frame s_State_setRState ?_ _ _
    | with_reducible refine State.complete_frame s_State_complete ?_ _ _ _
    | with_reducible refine State.setRing_frame s_State_setRing ?_ _ _
    | with_reducible refine State.emit_frame s_State_emit ?_ _ _ _
    | with_reducible refine State.mirror_frame s_State_mirror ?_ _ _ _
    | split

def quarantineResume_foot : Nat := 0x100000000000000000000000000000000000000000000000000000000000000000000000000000000000000030000000000000000000000000000000000000a0000180
theorem quarantineResume_frame (hm : Sub quarantineResume_foot m) (h : Frame m s0 s) :
    ∀ a0, Frame m s0 (quarantineResume a0 s) := by
  intro a0
  have s_State_setRState : Sub State.setRState_foot m := hm.of (by decide)
  have s_State_tryFetch : Sub State.tryFetch_foot m := hm.of (by decide)
  have s_State_complete : Sub State.complete_foot m := hm.of (by decide)
  have s_State_setRing : Sub State.setRing_foot m := hm.of (by decide)
  have s_State_emit : Sub State.emit_foot m := hm.of (by decide)
  unfold quarantineResume
  repeat' first
    | with_reducible assumption
    | (extract_lets -underBinder +onlyGivenNames x; have u : True := (by clear_value x; guard_hyp x :ₛ State; trivial); clear u; refine Frame.cut (m := m) (s0 := s0) (t := x) ?_ ?_; (on_goal 1 => subst x); (on_goal 2 => (intro hx; clear_value x)))
    | (extract_lets -underBinder +onlyGivenNames n; first | clear_value n | subst n)
    | with_reducible refine Frame.ite ?_ ?_
    | with_reducible refine State.setRState_frame s_State_setRState ?_ _ _
    | with_reducible refine State.tryFetch_frame s_State_tryFetch ?_ _
    | with_reducible refine State.complete_frame s_State_complete ?_ _ _ _
    | with_reducible refine State.setRing_frame s_State_setRing ?_ _ _
    | with_reducible refine State.emit_frame s_State_emit ?_ _ _ _
    | split

def quarantineReset_foot : Nat := 0x100000000000000000000000000000000000000000000000000000000000000000000000000000000000000000000000000000000000000000000000000000a0000180
theorem quarantineReset_frame (hm : Sub quarantineReset_foot m) (h : Frame m s0 s) :
    ∀ a0, Frame m s0 (quarantineReset a0 s) := by
  intro a0
  have s_State_complete : Sub State.complete_foot m := hm.of (by decide)
  have s_State_setRing : Sub State.setRing_foot m := hm.of (by decide)
  have s_State_emit : Sub State.emit_foot m := hm.of (by decide)
  unfold quarantineReset
  repeat' first
    | with_reducible assumption
    | (extract_lets -underBinder +onlyGivenNames x; have u : True := (by clear_value x; guard_hyp x :ₛ State; trivial); clear u; refine Frame.cut (m := m) (s0 := s0) (t := x) ?_ ?_; (on_goal 1 => subst x); (on_goal 2 => (intro hx; clear_value x)))
    | (extract_lets -underBinder +onlyGivenNames n; first | clear_value n | subst n)
    | with_reducible refine Frame.ite ?_ ?_
    | with_reducible refine State.complete_frame s_State_complete ?_ _ _ _
    | with_reducible refine State.setRing_frame s_State_setRing ?_ _ _
    | with_reducible refine State.emit_frame s_State_emit ?_ _ _ _
    | split

def quarantineResetDrained_foot : Nat := 0x100000000000000000000000000000000000000000000000000000000000000000000000000000000000000030000000000000000000000000000000000000a0000180
theorem quarantineResetDrained_frame (hm : Sub quarantineResetDrained_foot m) (h : Frame m s0 s) :
    ∀ a0, Frame m s0 (quarantineResetDrained a0 s) := by
  intro a0
  have s_State_setRState : Sub State.setRState_foot m := hm.of (by decide)
  have s_State_complete : Sub State.complete_foot m := hm.of (by decide)
  have s_State_setRing : Sub State.setRing_foot m := hm.of (by decide)
  have s_State_emit : Sub State.emit_foot m := hm.of (by decide)
  unfold quarantineResetDrained
  repeat' first
    | with_reducible assumption
    | (extract_lets -underBinder +onlyGivenNames x; have u : True := (by clear_value x; guard_hyp x :ₛ State; trivial); clear u; refine Frame.cut (m := m) (s0 := s0) (t := x) ?_ ?_; (on_goal 1 => subst x); (on_goal 2 => (intro hx; clear_value x)))
    | (extract_lets -underBinder +onlyGivenNames n; first | clear_value n | subst n)
    | with_reducible refine Frame.ite ?_ ?_
    | with_reducible refine State.setRState_frame s_State_setRState ?_ _ _
    | with_reducible refine State.complete_frame s_State_complete ?_ _ _ _
    | with_reducible refine State.setRing_frame s_State_setRing ?_ _ _
    | with_reducible refine State.emit_frame s_State_emit ?_ _ _ _
    | with_reducible refine Frame.foldl ?_ (fun s x hs => ?_)
    | split

def execDoorbellProdWrite_foot : Nat := 0x10000000000000000000000000000000000000000000000000000000000000000000000000000000000000003080000000000000000000000000000000000020000180
theorem execDoorbellProdWrite_frame (hm : Sub execDoorbellProdWrite_foot m) (h : Frame m s0 s) :
    ∀ a0 a1, ∃ t, execDoorbellProdWrite a0 a1 s = .next t ∧ Frame m s0 t := by
  intro a0 a1
  have s_doorbellProdWrite : Sub doorbellProdWrite_foot m := hm.of (by decide)
  unfold execDoorbellProdWrite
  refine hubOn_frame (fun s h => ?_) h
  repeat' first
    | with_reducible assumption
    | with_reducible refine Frame.ite ?_ ?_
    | with_reducible refine doorbellProdWrite_frame s_doorbellProdWrite ?_ _ _

def execDoorbellCqHeadWrite_foot : Nat := 0x10000000000000000000000000000000000000000000000000000000000000000000000000000000000000003080000000000000000000000000000000000020000100
theorem execDoorbellCqHeadWrite_frame (hm : Sub execDoorbellCqHeadWrite_foot m) (h : Frame m s0 s) :
    ∀ a0 a1, ∃ t, execDoorbellCqHeadWrite a0 a1 s = .next t ∧ Frame m s0 t := by
  intro a0 a1
  have s_doorbellCqHeadWrite : Sub doorbellCqHeadWrite_foot m := hm.of (by decide)
  unfold execDoorbellCqHeadWrite
  refine hubOn_frame (fun s h => ?_) h
  repeat' first
    | with_reducible assumption
    | with_reducible refine Frame.ite ?_ ?_
    | with_reducible refine doorbellCqHeadWrite_frame s_doorbellCqHeadWrite ?_ _ _

def execDoorbellBadAccess_foot : Nat := 0x10000000000000000000000000000000000000000000000000000000000000000000000000000000000000003080000000000000000000000000000000000020000180
theorem execDoorbellBadAccess_frame (hm : Sub execDoorbellBadAccess_foot m) (h : Frame m s0 s) :
    ∀ a0 a1 a2 a3, ∃ t, execDoorbellBadAccess a0 a1 a2 a3 s = .next t ∧ Frame m s0 t := by
  intro a0 a1 a2 a3
  have s_doorbellBadAccess : Sub doorbellBadAccess_foot m := hm.of (by decide)
  unfold execDoorbellBadAccess
  refine hubOn_frame (fun s h => ?_) h
  repeat' first
    | with_reducible assumption
    | with_reducible refine Frame.ite ?_ ?_
    | with_reducible refine doorbellBadAccess_frame s_doorbellBadAccess ?_ _ _ _ _

def execDoorbellStray_foot : Nat := 0x200000000000000000000000000000000000000000000
theorem execDoorbellStray_frame (hm : Sub execDoorbellStray_foot m) (h : Frame m s0 s) :
    ∀ a0, ∃ t, execDoorbellStray a0 s = .next t ∧ Frame m s0 t := by
  intro a0
  have s_doorbellStray : Sub doorbellStray_foot m := hm.of (by decide)
  unfold execDoorbellStray
  refine hubOn_frame (fun s h => ?_) h
  repeat' first
    | with_reducible assumption
    | with_reducible refine Frame.ite ?_ ?_
    | with_reducible refine doorbellStray_frame s_doorbellStray ?_ _

def execBucketLeak_foot : Nat := 0x20000000
theorem execBucketLeak_frame (hm : Sub execBucketLeak_foot m) (h : Frame m s0 s) :
    ∃ t, execBucketLeak s = .next t ∧ Frame m s0 t := by
  have s_bucketLeak : Sub bucketLeak_foot m := hm.of (by decide)
  unfold execBucketLeak
  refine hubOn_frame (fun s h => ?_) h
  repeat' first
    | with_reducible assumption
    | with_reducible refine Frame.ite ?_ ?_
    | with_reducible refine bucketLeak_frame s_bucketLeak ?_

def execDescriptorFetched_foot : Nat := 0x100000000000000000000000000000000000000000000000000000000000000000000000000000000000000001000000000000000000000000000000000000a0000180
theorem execDescriptorFetched_frame (hm : Sub execDescriptorFetched_foot m) (h : Frame m s0 s) :
    ∀ a0 a1 a2, ∃ t, execDescriptorFetched a0 a1 a2 s = .next t ∧ Frame m s0 t := by
  intro a0 a1 a2
  have s_descriptorFetched : Sub descriptorFetched_foot m := hm.of (by decide)
  unfold execDescriptorFetched
  refine hubOn_frame (fun s h => ?_) h
  repeat' first
    | with_reducible assumption
    | with_reducible refine Frame.ite ?_ ?_
    | with_reducible refine descriptorFetched_frame s_descriptorFetched ?_ _ _ _

def execFp2Turn_foot : Nat := 0x100000000000000000000000000000000000000000000000000000000000000000000000000000000000000030800000000000000000000000000000000000a0000180
theorem execFp2Turn_frame (hm : Sub execFp2Turn_foot m) (h : Frame m s0 s) :
    ∃ t, execFp2Turn s = .next t ∧ Frame m s0 t := by
  have s_fp2Turn : Sub fp2Turn_foot m := hm.of (by decide)
  unfold execFp2Turn
  refine hubOn_frame (fun s h => ?_) h
  repeat' first
    | with_reducible assumption
    | with_reducible refine Frame.ite ?_ ?_
    | with_reducible refine fp2Turn_frame s_fp2Turn ?_

def execHello_foot : Nat := 0x100000000000000000000000000000000000000000000000000000000000000000000000000000000000000030000000000000000000000000000000000000a0000180
theorem execHello_frame (hm : Sub execHello_foot m) (h : Frame m s0 s) :
    ∃ t, execHello s = .next t ∧ Frame m s0 t := by
  have s_helloOp : Sub helloOp_foot m := hm.of (by decide)
  have s_State_runOpcode : Sub State.runOpcode_foot m := hm.of (by decide)
  unfold execHello
  refine hubOn_frame (fun s h => ?_) h
  repeat' first
    | with_reducible assumption
    | with_reducible refine Frame.ite ?_ ?_
    | with_reducible refine helloOp_frame s_helloOp ?_ _
    | with_reducible refine State.runOpcode_frame s_State_runOpcode (fun d s hs => ?_) ?_ _

def execQuarantineResume_foot : Nat := 0x100000000000000000000000000000000000000000000000000000000000000000000000000000000000000030000000000000000000000000000000000000a0000180
theorem execQuarantineResume_frame (hm : Sub execQuarantineResume_foot m) (h : Frame m s0 s) :
    ∃ t, execQuarantineResume s = .next t ∧ Frame m s0 t := by
  have s_State_runOp : Sub State.runOp_foot m := hm.of (by decide)
  have s_quarantineResume : Sub quarantineResume_foot m := hm.of (by decide)
  unfold execQuarantineResume
  refine hubOn_frame (fun s h => ?_) h
  repeat' first
    | with_reducible assumption
    | with_reducible refine Frame.ite ?_ ?_
    | with_reducible refine State.runOp_frame s_State_runOp (fun d s hs => ?_) ?_ _
    | with_reducible refine quarantineResume_frame s_quarantineResume ?_ _

def execQuarantineReset_foot : Nat := 0x100000000000000000000000000000000000000000000000000000000000000000000000000000000000000000000000000000000000000000000000000000a0000180
theorem execQuarantineReset_frame (hm : Sub execQuarantineReset_foot m) (h : Frame m s0 s) :
    ∃ t, execQuarantineReset s = .next t ∧ Frame m s0 t := by
  have s_State_runOp : Sub State.runOp_foot m := hm.of (by decide)
  have s_quarantineReset : Sub quarantineReset_foot m := hm.of (by decide)
  unfold execQuarantineReset
  refine hubOn_frame (fun s h => ?_) h
  repeat' first
    | with_reducible assumption
    | with_reducible refine Frame.ite ?_ ?_
    | with_reducible refine State.runOp_frame s_State_runOp (fun d s hs => ?_) ?_ _
    | with_reducible refine quarantineReset_frame s_quarantineReset ?_ _

def execQuarantineResetDrained_foot : Nat := 0x100000000000000000000000000000000000000000000000000000000000000000000000000000000000000030000000000000000000000000000000000000a0000180
theorem execQuarantineResetDrained_frame (hm : Sub execQuarantineResetDrained_foot m) (h : Frame m s0 s) :
    ∀ a0, ∃ t, execQuarantineResetDrained a0 s = .next t ∧ Frame m s0 t := by
  intro a0
  have s_quarantineResetDrained : Sub quarantineResetDrained_foot m := hm.of (by decide)
  unfold execQuarantineResetDrained
  refine hubOn_frame (fun s h => ?_) h
  repeat' first
    | with_reducible assumption
    | with_reducible refine Frame.ite ?_ ?_
    | with_reducible refine quarantineResetDrained_frame s_quarantineResetDrained ?_ _

def execHifSctlWrite_foot : Nat := 0x100000000000000000000000000000000000000000000000000000000000000000000000000000000000000030018000000000000000000000000000000000a0000180
theorem execHifSctlWrite_frame (hm : Sub execHifSctlWrite_foot m) (h : Frame m s0 s) :
    ∀ a0, ∃ t, execHifSctlWrite a0 s = .next t ∧ Frame m s0 t := by
  intro a0
  have s_hifSctlWrite : Sub hifSctlWrite_foot m := hm.of (by decide)
  unfold execHifSctlWrite
  refine hubOn_frame (fun s h => ?_) h
  repeat' first
    | with_reducible assumption
    | with_reducible refine Frame.ite ?_ ?_
    | with_reducible refine hifSctlWrite_frame s_hifSctlWrite ?_ _

end Sys2Proof.Machine
end

