-- ==== Sys2Proof/Laws/FrameAccount.lean ====
section
/-!
SUPPORT. Laws/FrameAccount.lean: the footprint of every function of Machine/Account.lean, and that it writes nothing outside it.
-/
namespace Sys2Proof.Machine

set_option linter.all false

variable {m : Nat} {s0 s : State}

def State.addAcct_foot : Nat := 0x88000080
theorem State.addAcct_frame (hm : Sub State.addAcct_foot m) (h : Frame m s0 s) :
    ∀ a1 a2, Frame m s0 (State.addAcct s a1 a2) := by
  intro a1 a2
  have s_State_mirror : Sub State.mirror_foot m := hm.of (by decide)
  have c_acc : m.testBit 27 = true := hm.bit 27 (by decide)
  unfold State.addAcct
  repeat' first
    | with_reducible assumption
    | (extract_lets -underBinder +onlyGivenNames x; have u : True := (by clear_value x; guard_hyp x :ₛ State; trivial); clear u; refine Frame.cut (m := m) (s0 := s0) (t := x) ?_ ?_; (on_goal 1 => subst x); (on_goal 2 => (intro hx; clear_value x)))
    | (extract_lets -underBinder +onlyGivenNames n; first | clear_value n | subst n)
    | with_reducible refine Frame.ite ?_ ?_
    | with_reducible refine State.mirror_frame s_State_mirror ?_ _ _ _
    | with_reducible exact Frame.set_acc c_acc (by with_reducible assumption)
    | split

def State.clampEvent_foot : Nat := 0x10000100000000000000000000000000000000000000000000000000000000000000000000000000000000000000000000000000000000000000000000000008000100
theorem State.clampEvent_frame (hm : Sub State.clampEvent_foot m) (h : Frame m s0 s) :
    ∀ a1 a2, Frame m s0 (State.clampEvent s a1 a2) := by
  intro a1 a2
  have s_State_emitLim : Sub State.emitLim_foot m := hm.of (by decide)
  have k_ACT_ACC_STAT_clamp : Has m ACT_ACC_STAT_clamp := hm.has 15 17 rfl (by decide)
  have c_acc : m.testBit 27 = true := hm.bit 27 (by decide)
  unfold State.clampEvent
  repeat' first
    | with_reducible assumption
    | (extract_lets -underBinder +onlyGivenNames x; have u : True := (by clear_value x; guard_hyp x :ₛ State; trivial); clear u; refine Frame.cut (m := m) (s0 := s0) (t := x) ?_ ?_; (on_goal 1 => subst x); (on_goal 2 => (intro hx; clear_value x)))
    | (extract_lets -underBinder +onlyGivenNames n; first | clear_value n | subst n)
    | with_reducible refine Frame.ite ?_ ?_
    | with_reducible refine bump_frame (by with_reducible assumption) ?_ _
    | with_reducible refine State.emitLim_frame s_State_emitLim ?_ _ _ _ _ _
    | with_reducible exact Frame.set_acc c_acc (by with_reducible assumption)
    | split

def State.addIncs_foot : Nat := 0x10018100000000000000000000000000000000000000000000000000000000000000000000000000000000000000000000000000000000000000000000000088000180
theorem State.addIncs_frame (hm : Sub State.addIncs_foot m) (h : Frame m s0 s) :
    ∀ a1 a2, Frame m s0 (State.addIncs s a1 a2) := by
  intro a1 a2
  have s_State_clampEvent : Sub State.clampEvent_foot m := hm.of (by decide)
  have s_State_addAcct : Sub State.addAcct_foot m := hm.of (by decide)
  have k_ACT_HOUSE : Has m ACT_HOUSE := hm.has 15 24 rfl (by decide)
  have k_ACT_RLOSS : Has m ACT_RLOSS := hm.has 15 25 rfl (by decide)
  unfold State.addIncs
  repeat' first
    | with_reducible assumption
    | (extract_lets -underBinder +onlyGivenNames x; have u : True := (by clear_value x; guard_hyp x :ₛ State; trivial); clear u; refine Frame.cut (m := m) (s0 := s0) (t := x) ?_ ?_; (on_goal 1 => subst x); (on_goal 2 => (intro hx; clear_value x)))
    | (extract_lets -underBinder +onlyGivenNames n; first | clear_value n | subst n)
    | with_reducible refine Frame.ite ?_ ?_
    | with_reducible refine wr_frame (by with_reducible assumption) ?_ _ _
    | with_reducible refine State.clampEvent_frame s_State_clampEvent ?_ _ _
    | with_reducible refine State.addAcct_frame s_State_addAcct ?_ _ _
    | with_reducible refine Frame.foldl ?_ (fun s x hs => ?_)

def State.addLedger_foot : Nat := 0x80000000000000000000000000000000000010010100000000000000000000000000000000000000000000000000000000000000000000000000000000000000000000000000000000000000000000000088000100
theorem State.addLedger_frame (hm : Sub State.addLedger_foot m) (h : Frame m s0 s) :
    ∀ a1 a2, Frame m s0 (State.addLedger s a1 a2) := by
  intro a1 a2
  have s_State_clampEvent : Sub State.clampEvent_foot m := hm.of (by decide)
  have s_State_setPar : Sub State.setPar_foot m := hm.of (by decide)
  have k_ACT_RLOSS : Has m ACT_RLOSS := hm.has 15 25 rfl (by decide)
  have k_PAR_STAT_ledger : Has m PAR_STAT_ledger := hm.has 22 12 rfl (by decide)
  unfold State.addLedger
  repeat' first
    | with_reducible assumption
    | (extract_lets -underBinder +onlyGivenNames x; have u : True := (by clear_value x; guard_hyp x :ₛ State; trivial); clear u; refine Frame.cut (m := m) (s0 := s0) (t := x) ?_ ?_; (on_goal 1 => subst x); (on_goal 2 => (intro hx; clear_value x)))
    | (extract_lets -underBinder +onlyGivenNames n; first | clear_value n | subst n)
    | with_reducible refine Frame.ite ?_ ?_
    | with_reducible refine wr_frame (by with_reducible assumption) ?_ _ _
    | with_reducible refine State.clampEvent_frame s_State_clampEvent ?_ _ _
    | with_reducible refine State.setPar_frame s_State_setPar ?_ _
    | with_reducible refine Frame.foldl ?_ (fun s x hs => ?_)
    | split

def State.mergeLedger_foot : Nat := 0x8000000000000000000000000000000000000000000000000000000000000000000000000000000000000000000000000000000000000000000000000088000080
theorem State.mergeLedger_frame (hm : Sub State.mergeLedger_foot m) (h : Frame m s0 s) :
    Frame m s0 (State.mergeLedger s) := by
  have s_State_addAcct : Sub State.addAcct_foot m := hm.of (by decide)
  have s_State_setPar : Sub State.setPar_foot m := hm.of (by decide)
  have k_ACT_HOUSE : Has m ACT_HOUSE := hm.has 15 24 rfl (by decide)
  unfold State.mergeLedger
  repeat' first
    | with_reducible assumption
    | (extract_lets -underBinder +onlyGivenNames x; have u : True := (by clear_value x; guard_hyp x :ₛ State; trivial); clear u; refine Frame.cut (m := m) (s0 := s0) (t := x) ?_ ?_; (on_goal 1 => subst x); (on_goal 2 => (intro hx; clear_value x)))
    | (extract_lets -underBinder +onlyGivenNames n; first | clear_value n | subst n)
    | with_reducible refine Frame.ite ?_ ?_
    | with_reducible refine wr_frame (by with_reducible assumption) ?_ _ _
    | with_reducible refine State.addAcct_frame s_State_addAcct ?_ _ _
    | with_reducible refine State.setPar_frame s_State_setPar ?_ _
    | with_reducible refine Frame.foldl ?_ (fun s x hs => ?_)
    | split

def State.newCap_foot : Nat := 0x100000000000000000000000000000000000000000000000000000000000000000000000000000000000000000000000000000000000000000000000000080080080
theorem State.newCap_frame (hm : Sub State.newCap_foot m) (h : Frame m s0 s) :
    ∀ a1 a2, Frame m s0 (State.newCap s a1 a2) := by
  intro a1 a2
  have s_State_seedSp : Sub State.seedSp_foot m := hm.of (by decide)
  have s_State_mirror : Sub State.mirror_foot m := hm.of (by decide)
  have k_ACT_TCAP : Has m ACT_TCAP := hm.has 15 29 rfl (by decide)
  unfold State.newCap
  repeat' first
    | with_reducible assumption
    | (extract_lets -underBinder +onlyGivenNames x; have u : True := (by clear_value x; guard_hyp x :ₛ State; trivial); clear u; refine Frame.cut (m := m) (s0 := s0) (t := x) ?_ ?_; (on_goal 1 => subst x); (on_goal 2 => (intro hx; clear_value x)))
    | (extract_lets -underBinder +onlyGivenNames n; first | clear_value n | subst n)
    | with_reducible refine Frame.ite ?_ ?_
    | with_reducible refine wr_frame (by with_reducible assumption) ?_ _ _
    | with_reducible refine State.seedSp_frame s_State_seedSp ?_ _ _
    | with_reducible refine State.mirror_frame s_State_mirror ?_ _ _ _
    | split

def State.newPortion_foot : Nat := 0x8080000
theorem State.newPortion_frame (hm : Sub State.newPortion_foot m) (h : Frame m s0 s) :
    ∀ a1 a2, Frame m s0 (State.newPortion s a1 a2) := by
  intro a1 a2
  have s_State_seedSp : Sub State.seedSp_foot m := hm.of (by decide)
  have c_acc : m.testBit 27 = true := hm.bit 27 (by decide)
  unfold State.newPortion
  repeat' first
    | with_reducible assumption
    | (extract_lets -underBinder +onlyGivenNames x; have u : True := (by clear_value x; guard_hyp x :ₛ State; trivial); clear u; refine Frame.cut (m := m) (s0 := s0) (t := x) ?_ ?_; (on_goal 1 => subst x); (on_goal 2 => (intro hx; clear_value x)))
    | (extract_lets -underBinder +onlyGivenNames n; first | clear_value n | subst n)
    | with_reducible refine Frame.ite ?_ ?_
    | with_reducible refine State.seedSp_frame s_State_seedSp ?_ _ _
    | with_reducible exact Frame.set_acc c_acc (by with_reducible assumption)
    | split

def State.putPortions_foot : Nat := 0x8080000
theorem State.putPortions_frame (hm : Sub State.putPortions_foot m) (h : Frame m s0 s) :
    ∀ a1, Frame m s0 (State.putPortions s a1) := by
  intro a1
  have s_State_newPortion : Sub State.newPortion_foot m := hm.of (by decide)
  unfold State.putPortions
  repeat' first
    | with_reducible assumption
    | with_reducible refine Frame.ite ?_ ?_
    | with_reducible refine State.newPortion_frame s_State_newPortion ?_ _ _
    | with_reducible refine Frame.foldl ?_ (fun s x hs => ?_)

def State.untilMack_foot : Nat := 0x80000000
theorem State.untilMack_frame (hm : Sub State.untilMack_foot m) {f2} (hf : ∀ s, Frame m s0 s → Frame m s0 (f2 s)) (h : Frame m s0 s) :
    ∀ a1, Frame m s0 (State.untilMack s a1 f2) := by
  intro a1
  have s_State_setPar : Sub State.setPar_foot m := hm.of (by decide)
  unfold State.untilMack
  repeat' first
    | with_reducible assumption
    | (extract_lets -underBinder +onlyGivenNames x; have u : True := (by clear_value x; guard_hyp x :ₛ State; trivial); clear u; refine Frame.cut (m := m) (s0 := s0) (t := x) ?_ ?_; (on_goal 1 => subst x); (on_goal 2 => (intro hx; clear_value x)))
    | (extract_lets -underBinder +onlyGivenNames n; first | clear_value n | subst n)
    | with_reducible refine Frame.ite ?_ ?_
    | with_reducible refine State.setPar_frame s_State_setPar ?_ _
    | with_reducible refine hf _ ?_
    | split

def State.splitCaps_foot : Nat := 0x800000000000000000000000000000000000000000000000000000000000000000000000000000000000000000000000000000000000000000000000088080080
theorem State.splitCaps_frame (hm : Sub State.splitCaps_foot m) (h : Frame m s0 s) :
    ∀ a1 a2, Frame m s0 (State.splitCaps s a1 a2) := by
  intro a1 a2
  have s_State_putPortions : Sub State.putPortions_foot m := hm.of (by decide)
  have s_State_bridgeSend : Sub State.bridgeSend_foot m := hm.of (by decide)
  have s_State_untilMack : Sub State.untilMack_foot m := hm.of (by decide)
  have k_ACT_ACC_STAT_dmin : Has m ACT_ACC_STAT_dmin := hm.has 15 20 rfl (by decide)
  unfold State.splitCaps
  repeat' first
    | with_reducible assumption
    | (extract_lets -underBinder +onlyGivenNames x; have u : True := (by clear_value x; guard_hyp x :ₛ State; trivial); clear u; refine Frame.cut (m := m) (s0 := s0) (t := x) ?_ ?_; (on_goal 1 => subst x); (on_goal 2 => (intro hx; clear_value x)))
    | (extract_lets -underBinder +onlyGivenNames n; first | clear_value n | subst n)
    | with_reducible refine Frame.ite ?_ ?_
    | with_reducible refine wr_frame (by with_reducible assumption) ?_ _ _
    | with_reducible refine State.putPortions_frame s_State_putPortions ?_ _
    | with_reducible refine State.bridgeSend_frame s_State_bridgeSend ?_ _ _
    | with_reducible refine State.untilMack_frame s_State_untilMack (fun s hs => ?_) ?_ _
    | split

def State.division_foot : Nat := 0x100800000000000000000000000000000000000000000000000000000000000000000000000000000000000000000000000000000000000000000000000088080080
theorem State.division_frame (hm : Sub State.division_foot m) (h : Frame m s0 s) :
    ∀ a1 a2 a3 a4 a5, Frame m s0 (State.division s a1 a2 a3 a4 a5) := by
  intro a1 a2 a3 a4 a5
  have s_State_newPortion : Sub State.newPortion_foot m := hm.of (by decide)
  have s_State_newCap : Sub State.newCap_foot m := hm.of (by decide)
  have s_State_splitCaps : Sub State.splitCaps_foot m := hm.of (by decide)
  unfold State.division
  repeat' first
    | with_reducible assumption
    | (extract_lets -underBinder +onlyGivenNames x; have u : True := (by clear_value x; guard_hyp x :ₛ State; trivial); clear u; refine Frame.cut (m := m) (s0 := s0) (t := x) ?_ ?_; (on_goal 1 => subst x); (on_goal 2 => (intro hx; clear_value x)))
    | (extract_lets -underBinder +onlyGivenNames n; first | clear_value n | subst n)
    | with_reducible refine Frame.ite ?_ ?_
    | with_reducible refine State.newPortion_frame s_State_newPortion ?_ _ _
    | with_reducible refine State.newCap_frame s_State_newCap ?_ _ _
    | with_reducible refine State.splitCaps_frame s_State_splitCaps ?_ _ _
    | with_reducible refine Frame.foldl ?_ (fun s x hs => ?_)
    | split

def State.setJob_foot : Nat := 0x88000080
theorem State.setJob_frame (hm : Sub State.setJob_foot m) (h : Frame m s0 s) :
    ∀ a1 a2, Frame m s0 (State.setJob s a1 a2) := by
  intro a1 a2
  have s_State_mirror : Sub State.mirror_foot m := hm.of (by decide)
  have c_acc : m.testBit 27 = true := hm.bit 27 (by decide)
  unfold State.setJob
  repeat' first
    | with_reducible assumption
    | (extract_lets -underBinder +onlyGivenNames x; have u : True := (by clear_value x; guard_hyp x :ₛ State; trivial); clear u; refine Frame.cut (m := m) (s0 := s0) (t := x) ?_ ?_; (on_goal 1 => subst x); (on_goal 2 => (intro hx; clear_value x)))
    | (extract_lets -underBinder +onlyGivenNames n; first | clear_value n | subst n)
    | with_reducible refine Frame.ite ?_ ?_
    | with_reducible refine State.mirror_frame s_State_mirror ?_ _ _ _
    | with_reducible exact Frame.set_acc c_acc (by with_reducible assumption)

def State.openJob_foot : Nat := 0xa8000080
theorem State.openJob_frame (hm : Sub State.openJob_foot m) (h : Frame m s0 s) :
    ∀ a1 a2 a3, Frame m s0 (State.openJob s a1 a2 a3) := by
  intro a1 a2 a3
  have s_State_complete : Sub State.complete_foot m := hm.of (by decide)
  have s_State_setJob : Sub State.setJob_foot m := hm.of (by decide)
  unfold State.openJob
  repeat' first
    | with_reducible assumption
    | (extract_lets -underBinder +onlyGivenNames x; have u : True := (by clear_value x; guard_hyp x :ₛ State; trivial); clear u; refine Frame.cut (m := m) (s0 := s0) (t := x) ?_ ?_; (on_goal 1 => subst x); (on_goal 2 => (intro hx; clear_value x)))
    | (extract_lets -underBinder +onlyGivenNames n; first | clear_value n | subst n)
    | with_reducible refine Frame.ite ?_ ?_
    | with_reducible refine State.complete_frame s_State_complete ?_ _ _ _
    | with_reducible refine State.setJob_frame s_State_setJob ?_ _ _
    | split

def State.closeJob_foot : Nat := 0xa8000080
theorem State.closeJob_frame (hm : Sub State.closeJob_foot m) (h : Frame m s0 s) :
    ∀ a1 a2 a3, Frame m s0 (State.closeJob s a1 a2 a3) := by
  intro a1 a2 a3
  have s_State_complete : Sub State.complete_foot m := hm.of (by decide)
  have s_State_setJob : Sub State.setJob_foot m := hm.of (by decide)
  unfold State.closeJob
  repeat' first
    | with_reducible assumption
    | (extract_lets -underBinder +onlyGivenNames x; have u : True := (by clear_value x; guard_hyp x :ₛ State; trivial); clear u; refine Frame.cut (m := m) (s0 := s0) (t := x) ?_ ?_; (on_goal 1 => subst x); (on_goal 2 => (intro hx; clear_value x)))
    | (extract_lets -underBinder +onlyGivenNames n; first | clear_value n | subst n)
    | with_reducible refine Frame.ite ?_ ?_
    | with_reducible refine State.complete_frame s_State_complete ?_ _ _ _
    | with_reducible refine State.setJob_frame s_State_setJob ?_ _ _
    | split

def State.serveJobs_foot : Nat := 0xa8000080
theorem State.serveJobs_frame (hm : Sub State.serveJobs_foot m) (h : Frame m s0 s) :
    ∀ a1 a2, Frame m s0 (State.serveJobs s a1 a2) := by
  intro a1 a2
  have s_State_openJob : Sub State.openJob_foot m := hm.of (by decide)
  have s_State_closeJob : Sub State.closeJob_foot m := hm.of (by decide)
  unfold State.serveJobs
  repeat' first
    | with_reducible assumption
    | (extract_lets -underBinder +onlyGivenNames x; have u : True := (by clear_value x; guard_hyp x :ₛ State; trivial); clear u; refine Frame.cut (m := m) (s0 := s0) (t := x) ?_ ?_; (on_goal 1 => subst x); (on_goal 2 => (intro hx; clear_value x)))
    | (extract_lets -underBinder +onlyGivenNames n; first | clear_value n | subst n)
    | with_reducible refine Frame.ite ?_ ?_
    | with_reducible refine State.openJob_frame s_State_openJob ?_ _ _ _
    | with_reducible refine State.closeJob_frame s_State_closeJob ?_ _ _ _
    | with_reducible refine Frame.foldl ?_ (fun s x hs => ?_)
    | split

def State.chargeSpan_foot : Nat := 0x80000000000000000000000000000000000010118900000000000000000000000000000000000000000000000000000000000000000000000000000000000000000000000000000000000000000000000088080180
theorem State.chargeSpan_frame (hm : Sub State.chargeSpan_foot m) (h : Frame m s0 s) :
    ∀ a1 a2 a3 a4 a5, Frame m s0 (State.chargeSpan s a1 a2 a3 a4 a5) := by
  intro a1 a2 a3 a4 a5
  have s_State_mergeLedger : Sub State.mergeLedger_foot m := hm.of (by decide)
  have s_State_addIncs : Sub State.addIncs_foot m := hm.of (by decide)
  have s_State_division : Sub State.division_foot m := hm.of (by decide)
  have s_State_addLedger : Sub State.addLedger_foot m := hm.of (by decide)
  have s_State_send : Sub State.send_foot m := hm.of (by decide)
  unfold State.chargeSpan
  repeat' first
    | with_reducible assumption
    | (extract_lets -underBinder +onlyGivenNames x; have u : True := (by clear_value x; guard_hyp x :ₛ State; trivial); clear u; refine Frame.cut (m := m) (s0 := s0) (t := x) ?_ ?_; (on_goal 1 => subst x); (on_goal 2 => (intro hx; clear_value x)))
    | (extract_lets -underBinder +onlyGivenNames n; first | clear_value n | subst n)
    | with_reducible refine Frame.ite ?_ ?_
    | with_reducible refine State.mergeLedger_frame s_State_mergeLedger ?_
    | with_reducible refine State.addIncs_frame s_State_addIncs ?_ _ _
    | with_reducible refine State.division_frame s_State_division ?_ _ _ _ _ _
    | with_reducible refine State.addLedger_frame s_State_addLedger ?_ _ _
    | with_reducible refine State.send_frame s_State_send ?_ _
    | split

def reconciliation_foot : Nat := 0x800000000000000000000000000000000000101389000000000000000000000000000000000000000000000000000000000000000000000000000000000000000000000000000000000000000000000000a8080180
theorem reconciliation_frame (hm : Sub reconciliation_foot m) (h : Frame m s0 s) :
    ∀ a0 a1 a2 a3 a4, Frame m s0 (reconciliation a0 a1 a2 a3 a4 s) := by
  intro a0 a1 a2 a3 a4
  have s_State_chargeSpan : Sub State.chargeSpan_foot m := hm.of (by decide)
  have s_State_serveJobs : Sub State.serveJobs_foot m := hm.of (by decide)
  have s_State_emit : Sub State.emit_foot m := hm.of (by decide)
  have k_ACT_RECON_T : Has m ACT_RECON_T := hm.has 15 26 rfl (by decide)
  have c_acc : m.testBit 27 = true := hm.bit 27 (by decide)
  unfold reconciliation
  repeat' first
    | with_reducible assumption
    | (extract_lets -underBinder +onlyGivenNames x; have u : True := (by clear_value x; guard_hyp x :ₛ State; trivial); clear u; refine Frame.cut (m := m) (s0 := s0) (t := x) ?_ ?_; (on_goal 1 => subst x); (on_goal 2 => (intro hx; clear_value x)))
    | (extract_lets -underBinder +onlyGivenNames n; first | clear_value n | subst n)
    | with_reducible refine Frame.ite ?_ ?_
    | with_reducible refine wr_frame (by with_reducible assumption) ?_ _ _
    | with_reducible refine State.chargeSpan_frame s_State_chargeSpan ?_ _ _ _ _ _
    | with_reducible refine State.serveJobs_frame s_State_serveJobs ?_ _ _
    | with_reducible refine State.emit_frame s_State_emit ?_ _ _ _
    | with_reducible exact Frame.set_acc c_acc (by with_reducible assumption)
    | split

def jobOpen_foot : Nat := 0xa8000080
theorem jobOpen_frame (hm : Sub jobOpen_foot m) (h : Frame m s0 s) :
    ∀ a0, Frame m s0 (jobOpen a0 s) := by
  intro a0
  have s_State_openJob : Sub State.openJob_foot m := hm.of (by decide)
  have s_State_complete : Sub State.complete_foot m := hm.of (by decide)
  have s_State_setJob : Sub State.setJob_foot m := hm.of (by decide)
  unfold jobOpen
  repeat' first
    | with_reducible assumption
    | (extract_lets -underBinder +onlyGivenNames x; have u : True := (by clear_value x; guard_hyp x :ₛ State; trivial); clear u; refine Frame.cut (m := m) (s0 := s0) (t := x) ?_ ?_; (on_goal 1 => subst x); (on_goal 2 => (intro hx; clear_value x)))
    | (extract_lets -underBinder +onlyGivenNames n; first | clear_value n | subst n)
    | with_reducible refine Frame.ite ?_ ?_
    | with_reducible refine State.openJob_frame s_State_openJob ?_ _ _ _
    | with_reducible refine State.complete_frame s_State_complete ?_ _ _ _
    | with_reducible refine State.setJob_frame s_State_setJob ?_ _ _
    | split

def jobClose_foot : Nat := 0xa8000080
theorem jobClose_frame (hm : Sub jobClose_foot m) (h : Frame m s0 s) :
    ∀ a0, Frame m s0 (jobClose a0 s) := by
  intro a0
  have s_State_complete : Sub State.complete_foot m := hm.of (by decide)
  have s_State_setJob : Sub State.setJob_foot m := hm.of (by decide)
  have s_State_closeJob : Sub State.closeJob_foot m := hm.of (by decide)
  unfold jobClose
  repeat' first
    | with_reducible assumption
    | (extract_lets -underBinder +onlyGivenNames x; have u : True := (by clear_value x; guard_hyp x :ₛ State; trivial); clear u; refine Frame.cut (m := m) (s0 := s0) (t := x) ?_ ?_; (on_goal 1 => subst x); (on_goal 2 => (intro hx; clear_value x)))
    | (extract_lets -underBinder +onlyGivenNames n; first | clear_value n | subst n)
    | with_reducible refine Frame.ite ?_ ?_
    | with_reducible refine State.complete_frame s_State_complete ?_ _ _ _
    | with_reducible refine State.setJob_frame s_State_setJob ?_ _ _
    | with_reducible refine State.closeJob_frame s_State_closeJob ?_ _ _ _
    | split

def readEnergy_foot : Nat := 0xa0000080
theorem readEnergy_frame (hm : Sub readEnergy_foot m) (h : Frame m s0 s) :
    ∀ a0, Frame m s0 (readEnergy a0 s) := by
  intro a0
  have s_State_complete : Sub State.complete_foot m := hm.of (by decide)
  unfold readEnergy
  repeat' first
    | with_reducible assumption
    | (extract_lets -underBinder +onlyGivenNames x; have u : True := (by clear_value x; guard_hyp x :ₛ State; trivial); clear u; refine Frame.cut (m := m) (s0 := s0) (t := x) ?_ ?_; (on_goal 1 => subst x); (on_goal 2 => (intro hx; clear_value x)))
    | (extract_lets -underBinder +onlyGivenNames n; first | clear_value n | subst n)
    | with_reducible refine Frame.ite ?_ ?_
    | with_reducible refine State.complete_frame s_State_complete ?_ _ _ _

def setTenantCap_foot : Nat := 0x2000000000000000000000000000000000000000000000000000000000000000000000000000000000000000000000000000000000000000000000000000a0000080
theorem setTenantCap_frame (hm : Sub setTenantCap_foot m) (h : Frame m s0 s) :
    ∀ a0, Frame m s0 (setTenantCap a0 s) := by
  intro a0
  have s_State_complete : Sub State.complete_foot m := hm.of (by decide)
  have s_State_mirror : Sub State.mirror_foot m := hm.of (by decide)
  have k_ACT_TSET : Has m ACT_TSET := hm.has 15 30 rfl (by decide)
  unfold setTenantCap
  repeat' first
    | with_reducible assumption
    | (extract_lets -underBinder +onlyGivenNames x; have u : True := (by clear_value x; guard_hyp x :ₛ State; trivial); clear u; refine Frame.cut (m := m) (s0 := s0) (t := x) ?_ ?_; (on_goal 1 => subst x); (on_goal 2 => (intro hx; clear_value x)))
    | (extract_lets -underBinder +onlyGivenNames n; first | clear_value n | subst n)
    | with_reducible refine Frame.ite ?_ ?_
    | with_reducible refine wr_frame (by with_reducible assumption) ?_ _ _
    | with_reducible refine State.complete_frame s_State_complete ?_ _ _ _
    | with_reducible refine State.mirror_frame s_State_mirror ?_ _ _ _

def State.snapAcct_foot : Nat := 0x80000000000000000000000000000000000000000000000000000000000000000000000000000000000000000000000000000000000000000000000000000000000
theorem State.snapAcct_frame (hm : Sub State.snapAcct_foot m) (h : Frame m s0 s) :
    Frame m s0 (State.snapAcct s) := by
  have k_ACT_ACC : Has m ACT_ACC := hm.has 15 28 rfl (by decide)
  unfold State.snapAcct
  repeat' first
    | with_reducible assumption
    | (extract_lets -underBinder +onlyGivenNames x; have u : True := (by clear_value x; guard_hyp x :ₛ State; trivial); clear u; refine Frame.cut (m := m) (s0 := s0) (t := x) ?_ ?_; (on_goal 1 => subst x); (on_goal 2 => (intro hx; clear_value x)))
    | (extract_lets -underBinder +onlyGivenNames n; first | clear_value n | subst n)
    | with_reducible refine Frame.ite ?_ ?_
    | with_reducible refine wr_frame (by with_reducible assumption) ?_ _ _
    | split

def State.refreshDie_foot : Nat := 0x4000000000000000000000000000000000000000000000000000000000000000000000000000000000000000000000000000000000000000000000000000000000000000000000000000000000000000000010080000
theorem State.refreshDie_frame (hm : Sub State.refreshDie_foot m) (h : Frame m s0 s) :
    Frame m s0 (State.refreshDie s) := by
  have s_State_setThm : Sub State.setThm_foot m := hm.of (by decide)
  have s_State_seedSp : Sub State.seedSp_foot m := hm.of (by decide)
  have k_PAR_DIEBUD_bud : Has m PAR_DIEBUD_bud := hm.has 22 19 rfl (by decide)
  unfold State.refreshDie
  repeat' first
    | with_reducible assumption
    | (extract_lets -underBinder +onlyGivenNames x; have u : True := (by clear_value x; guard_hyp x :ₛ State; trivial); clear u; refine Frame.cut (m := m) (s0 := s0) (t := x) ?_ ?_; (on_goal 1 => subst x); (on_goal 2 => (intro hx; clear_value x)))
    | (extract_lets -underBinder +onlyGivenNames n; first | clear_value n | subst n)
    | with_reducible refine Frame.ite ?_ ?_
    | with_reducible refine wr_frame (by with_reducible assumption) ?_ _ _
    | with_reducible refine State.setThm_frame s_State_setThm ?_ _
    | with_reducible refine State.seedSp_frame s_State_seedSp ?_ _ _
    | split

def State.applyWaits_foot : Nat := 0x4000000000000000000000000000000000000000000000000000000000000000000000000000000000000000000000000000000000000000000000000000000000000000000000000000000000000000000098080000
theorem State.applyWaits_frame (hm : Sub State.applyWaits_foot m) (h : Frame m s0 s) :
    ∀ a1, Frame m s0 (State.applyWaits s a1) := by
  intro a1
  have s_State_putPortions : Sub State.putPortions_foot m := hm.of (by decide)
  have s_State_refreshDie : Sub State.refreshDie_foot m := hm.of (by decide)
  have s_State_setPar : Sub State.setPar_foot m := hm.of (by decide)
  unfold State.applyWaits
  repeat' first
    | with_reducible assumption
    | (extract_lets -underBinder +onlyGivenNames x; have u : True := (by clear_value x; guard_hyp x :ₛ State; trivial); clear u; refine Frame.cut (m := m) (s0 := s0) (t := x) ?_ ?_; (on_goal 1 => subst x); (on_goal 2 => (intro hx; clear_value x)))
    | (extract_lets -underBinder +onlyGivenNames n; first | clear_value n | subst n)
    | with_reducible refine Frame.ite ?_ ?_
    | with_reducible refine State.putPortions_frame s_State_putPortions ?_ _
    | with_reducible refine State.refreshDie_frame s_State_refreshDie ?_
    | with_reducible refine State.setPar_frame s_State_setPar ?_ _
    | with_reducible refine Frame.foldl ?_ (fun s x hs => ?_)

def State.mirrorCap_foot : Nat := 0x80000080
theorem State.mirrorCap_frame (hm : Sub State.mirrorCap_foot m) (h : Frame m s0 s) :
    Frame m s0 (State.mirrorCap s) := by
  have s_State_mirror : Sub State.mirror_foot m := hm.of (by decide)
  unfold State.mirrorCap
  repeat' first
    | with_reducible assumption
    | with_reducible refine Frame.ite ?_ ?_
    | with_reducible refine State.mirror_frame s_State_mirror ?_ _ _ _

def State.refreshBudget_foot : Nat := 0x4000000000000000000000000000000000000010002000000000000000000000000000000000000000000000000000000000000000000000000000000000000000000000000000000000000000000000000090080180
theorem State.refreshBudget_frame (hm : Sub State.refreshBudget_foot m) (h : Frame m s0 s) :
    Frame m s0 (State.refreshBudget s) := by
  have s_State_refreshDie : Sub State.refreshDie_foot m := hm.of (by decide)
  have s_State_untilMack : Sub State.untilMack_foot m := hm.of (by decide)
  have s_State_emit : Sub State.emit_foot m := hm.of (by decide)
  have s_State_seedSp : Sub State.seedSp_foot m := hm.of (by decide)
  have s_State_mirror : Sub State.mirror_foot m := hm.of (by decide)
  have k_ACT_PKG_BUD : Has m ACT_PKG_BUD := hm.has 15 22 rfl (by decide)
  unfold State.refreshBudget
  repeat' first
    | with_reducible assumption
    | (extract_lets -underBinder +onlyGivenNames x; have u : True := (by clear_value x; guard_hyp x :ₛ State; trivial); clear u; refine Frame.cut (m := m) (s0 := s0) (t := x) ?_ ?_; (on_goal 1 => subst x); (on_goal 2 => (intro hx; clear_value x)))
    | (extract_lets -underBinder +onlyGivenNames n; first | clear_value n | subst n)
    | with_reducible refine Frame.ite ?_ ?_
    | with_reducible refine wr_frame (by with_reducible assumption) ?_ _ _
    | with_reducible refine State.refreshDie_frame s_State_refreshDie ?_
    | with_reducible refine State.untilMack_frame s_State_untilMack (fun s hs => ?_) ?_ _
    | with_reducible refine State.emit_frame s_State_emit ?_ _ _ _
    | with_reducible refine State.seedSp_frame s_State_seedSp ?_ _ _
    | with_reducible refine State.mirror_frame s_State_mirror ?_ _ _ _
    | split

def execReconciliation_foot : Nat := 0x800000000000000000000000000000000000101389000000000000000000000000000000000000000000000000000000000000000000000000000000000000000000000000000000000000000000000000a8080180
theorem execReconciliation_frame (hm : Sub execReconciliation_foot m) (h : Frame m s0 s) :
    ∀ a0 a1 a2 a3 a4, ∃ t, execReconciliation a0 a1 a2 a3 a4 s = .next t ∧ Frame m s0 t := by
  intro a0 a1 a2 a3 a4
  have s_reconciliation : Sub reconciliation_foot m := hm.of (by decide)
  unfold execReconciliation
  refine hubOn_frame (fun s h => ?_) h
  repeat' first
    | with_reducible assumption
    | with_reducible refine Frame.ite ?_ ?_
    | with_reducible refine reconciliation_frame s_reconciliation ?_ _ _ _ _ _

def execJobOpen_foot : Nat := 0xa8000080
theorem execJobOpen_frame (hm : Sub execJobOpen_foot m) (h : Frame m s0 s) :
    ∃ t, execJobOpen s = .next t ∧ Frame m s0 t := by
  have s_jobOpen : Sub jobOpen_foot m := hm.of (by decide)
  have s_State_runOpcode : Sub State.runOpcode_foot m := hm.of (by decide)
  unfold execJobOpen
  refine hubOn_frame (fun s h => ?_) h
  repeat' first
    | with_reducible assumption
    | with_reducible refine Frame.ite ?_ ?_
    | with_reducible refine jobOpen_frame s_jobOpen ?_ _
    | with_reducible refine State.runOpcode_frame s_State_runOpcode (fun d s hs => ?_) ?_ _

def execJobClose_foot : Nat := 0xa8000080
theorem execJobClose_frame (hm : Sub execJobClose_foot m) (h : Frame m s0 s) :
    ∃ t, execJobClose s = .next t ∧ Frame m s0 t := by
  have s_State_runOpcode : Sub State.runOpcode_foot m := hm.of (by decide)
  have s_jobClose : Sub jobClose_foot m := hm.of (by decide)
  unfold execJobClose
  refine hubOn_frame (fun s h => ?_) h
  repeat' first
    | with_reducible assumption
    | with_reducible refine Frame.ite ?_ ?_
    | with_reducible refine State.runOpcode_frame s_State_runOpcode (fun d s hs => ?_) ?_ _
    | with_reducible refine jobClose_frame s_jobClose ?_ _

def execReadEnergy_foot : Nat := 0xa0000080
theorem execReadEnergy_frame (hm : Sub execReadEnergy_foot m) (h : Frame m s0 s) :
    ∃ t, execReadEnergy s = .next t ∧ Frame m s0 t := by
  have s_readEnergy : Sub readEnergy_foot m := hm.of (by decide)
  have s_State_runOpcode : Sub State.runOpcode_foot m := hm.of (by decide)
  unfold execReadEnergy
  refine hubOn_frame (fun s h => ?_) h
  repeat' first
    | with_reducible assumption
    | with_reducible refine Frame.ite ?_ ?_
    | with_reducible refine readEnergy_frame s_readEnergy ?_ _
    | with_reducible refine State.runOpcode_frame s_State_runOpcode (fun d s hs => ?_) ?_ _

def execSetTenantCap_foot : Nat := 0x2000000000000000000000000000000000000000000000000000000000000000000000000000000000000000000000000000000000000000000000000000a0000080
theorem execSetTenantCap_frame (hm : Sub execSetTenantCap_foot m) (h : Frame m s0 s) :
    ∃ t, execSetTenantCap s = .next t ∧ Frame m s0 t := by
  have s_setTenantCap : Sub setTenantCap_foot m := hm.of (by decide)
  have s_State_runOpcode : Sub State.runOpcode_foot m := hm.of (by decide)
  unfold execSetTenantCap
  refine hubOn_frame (fun s h => ?_) h
  repeat' first
    | with_reducible assumption
    | with_reducible refine Frame.ite ?_ ?_
    | with_reducible refine setTenantCap_frame s_setTenantCap ?_ _
    | with_reducible refine State.runOpcode_frame s_State_runOpcode (fun d s hs => ?_) ?_ _

end Sys2Proof.Machine
end

