-- ==== Sys2Proof/Laws/FrameRecorder.lean ====
section
/-!
SUPPORT. Laws/FrameRecorder.lean: the footprint of every function of Machine/Recorder.lean, and that it writes nothing outside it.
-/
namespace Sys2Proof.Machine

set_option linter.all false

variable {m : Nat} {s0 s : State}

def State.askCommit_foot : Nat := 0x800000000000000000000000000000000000000000000000000000000000000000000000000000000000000000000000000000000000000000000000000000000100000080
theorem State.askCommit_frame (hm : Sub State.askCommit_foot m) (h : Frame m s0 s) :
    ∀ a1, Frame m s0 (State.askCommit s a1) := by
  intro a1
  have s_State_flashAsk : Sub State.flashAsk_foot m := hm.of (by decide)
  unfold State.askCommit
  repeat' first
    | with_reducible assumption
    | with_reducible refine Frame.ite ?_ ?_
    | with_reducible refine State.flashAsk_frame s_State_flashAsk ?_ _

def State.clearDone_foot : Nat := 0x80001c0000000000000000000000000000000000000000000000000000000000000000000000000000000000000000000000000000000000000000000000000001a0000180
theorem State.clearDone_frame (hm : Sub State.clearDone_foot m) (h : Frame m s0 s) :
    Frame m s0 (State.clearDone s) := by
  have s_State_complete : Sub State.complete_foot m := hm.of (by decide)
  have s_State_setNvm : Sub State.setNvm_foot m := hm.of (by decide)
  have s_State_flashEraseN : Sub State.flashEraseN_foot m := hm.of (by decide)
  have s_State_emit : Sub State.emit_foot m := hm.of (by decide)
  have k_EVT_HW_count : Has m EVT_HW_count := hm.has 16 2 rfl (by decide)
  have k_EVT_HW_gen : Has m EVT_HW_gen := hm.has 16 3 rfl (by decide)
  unfold State.clearDone
  repeat' first
    | with_reducible assumption
    | (extract_lets -underBinder +onlyGivenNames x; have u : True := (by clear_value x; guard_hyp x :ₛ State; trivial); clear u; refine Frame.cut (m := m) (s0 := s0) (t := x) ?_ ?_; (on_goal 1 => subst x); (on_goal 2 => (intro hx; clear_value x)))
    | (extract_lets -underBinder +onlyGivenNames n; first | clear_value n | subst n)
    | with_reducible refine Frame.ite ?_ ?_
    | with_reducible refine wr_frame (by with_reducible assumption) ?_ _ _
    | with_reducible refine State.complete_frame s_State_complete ?_ _ _ _
    | with_reducible refine State.setNvm_frame s_State_setNvm ?_ _
    | with_reducible refine State.flashEraseN_frame s_State_flashEraseN ?_ _ _ _ _
    | with_reducible refine State.emit_frame s_State_emit ?_ _ _ _
    | split

def State.cacheHw_foot : Nat := 0x20
theorem State.cacheHw_frame (hm : Sub State.cacheHw_foot m) (h : Frame m s0 s) :
    ∀ a1 a2, Frame m s0 (State.cacheHw s a1 a2) := by
  intro a1 a2
  have s_State_writeBank : Sub State.writeBank_foot m := hm.of (by decide)
  unfold State.cacheHw
  repeat' first
    | with_reducible assumption
    | with_reducible refine Frame.ite ?_ ?_
    | with_reducible refine State.writeBank_frame s_State_writeBank ?_ _ _ _

def State.sapwood_foot : Nat := 0x2000000000000000000000000000000000000000000000000000000000000000000000000000000000000000000000000000000000000000000000000000000000120
theorem State.sapwood_frame (hm : Sub State.sapwood_foot m) (h : Frame m s0 s) :
    ∀ a1, Frame m s0 (State.sapwood s a1) := by
  intro a1
  have s_State_writeBank : Sub State.writeBank_foot m := hm.of (by decide)
  have k_EVT_NEXT_next : Has m EVT_NEXT_next := hm.has 16 1 rfl (by decide)
  have c_recd : m.testBit 8 = true := hm.bit 8 (by decide)
  unfold State.sapwood
  repeat' first
    | with_reducible assumption
    | (extract_lets -underBinder +onlyGivenNames x; have u : True := (by clear_value x; guard_hyp x :ₛ State; trivial); clear u; refine Frame.cut (m := m) (s0 := s0) (t := x) ?_ ?_; (on_goal 1 => subst x); (on_goal 2 => (intro hx; clear_value x)))
    | (extract_lets -underBinder +onlyGivenNames n; first | subst n | clear_value n)
    | with_reducible refine Frame.ite ?_ ?_
    | with_reducible refine wr_frame (by with_reducible assumption) ?_ _ _
    | with_reducible refine State.writeBank_frame s_State_writeBank ?_ _ _ _
    | with_reducible exact Frame.set_recd c_recd (by first | exact List.prefix_rfl | exact List.prefix_append _ _) (by with_reducible assumption)
    | split

def State.acceptRec_foot : Nat := 0x2000000000000000000000000000000000000000000000000000000000000000000000000000000000000000000000000000000000000000000000000000000000520
theorem State.acceptRec_frame (hm : Sub State.acceptRec_foot m) (h : Frame m s0 s) :
    ∀ a1, Frame m s0 (State.acceptRec s a1) := by
  intro a1
  have s_State_sapwood : Sub State.sapwood_foot m := hm.of (by decide)
  have s_State_count : Sub State.count_foot m := hm.of (by decide)
  unfold State.acceptRec
  repeat' first
    | with_reducible assumption
    | (extract_lets -underBinder +onlyGivenNames x; have u : True := (by clear_value x; guard_hyp x :ₛ State; trivial); clear u; refine Frame.cut (m := m) (s0 := s0) (t := x) ?_ ?_; (on_goal 1 => subst x); (on_goal 2 => (intro hx; clear_value x)))
    | (extract_lets -underBinder +onlyGivenNames n; first | clear_value n | subst n)
    | with_reducible refine Frame.ite ?_ ?_
    | with_reducible refine State.sapwood_frame s_State_sapwood ?_ _
    | with_reducible refine State.count_frame s_State_count ?_ _ _
    | split

def eventRecordAccept_foot : Nat := 0x2000000000000000000000000000000000000000000000000000000000000000000000000000000000000000000000000000000000000000000000000000000000530
theorem eventRecordAccept_frame (hm : Sub eventRecordAccept_foot m) (h : Frame m s0 s) :
    Frame m s0 (eventRecordAccept s) := by
  have s_State_acceptRec : Sub State.acceptRec_foot m := hm.of (by decide)
  have c_recd : m.testBit 8 = true := hm.bit 8 (by decide)
  have c_queue : m.testBit 4 = true := hm.bit 4 (by decide)
  unfold eventRecordAccept
  repeat' first
    | with_reducible assumption
    | (extract_lets -underBinder +onlyGivenNames x; have u : True := (by clear_value x; guard_hyp x :ₛ State; trivial); clear u; refine Frame.cut (m := m) (s0 := s0) (t := x) ?_ ?_; (on_goal 1 => subst x); (on_goal 2 => (intro hx; clear_value x)))
    | (extract_lets -underBinder +onlyGivenNames n; first | subst n | clear_value n)
    | with_reducible refine Frame.ite ?_ ?_
    | with_reducible refine State.acceptRec_frame s_State_acceptRec ?_ _
    | with_reducible exact Frame.set_recd c_recd (by first | exact List.prefix_rfl | exact List.prefix_append _ _) (by with_reducible assumption)
    | with_reducible exact Frame.set_recd_any c_recd c_queue (by with_reducible assumption)
    | split

def State.evtAnswer_foot : Nat := 0xa0000080
theorem State.evtAnswer_frame (hm : Sub State.evtAnswer_foot m) (h : Frame m s0 s) :
    ∀ a1 a2 a3 a4 a5 a6, Frame m s0 (State.evtAnswer s a1 a2 a3 a4 a5 a6) := by
  intro a1 a2 a3 a4 a5 a6
  have s_State_complete : Sub State.complete_foot m := hm.of (by decide)
  have s_State_send : Sub State.send_foot m := hm.of (by decide)
  unfold State.evtAnswer
  repeat' first
    | with_reducible assumption
    | (extract_lets -underBinder +onlyGivenNames x; have u : True := (by clear_value x; guard_hyp x :ₛ State; trivial); clear u; refine Frame.cut (m := m) (s0 := s0) (t := x) ?_ ?_; (on_goal 1 => subst x); (on_goal 2 => (intro hx; clear_value x)))
    | (extract_lets -underBinder +onlyGivenNames n; first | clear_value n | subst n)
    | with_reducible refine Frame.ite ?_ ?_
    | with_reducible refine State.complete_frame s_State_complete ?_ _ _ _
    | with_reducible refine State.send_frame s_State_send ?_ _
    | split

def evtRead_foot : Nat := 0xa0000080
theorem evtRead_frame (hm : Sub evtRead_foot m) (h : Frame m s0 s) :
    ∀ a0, Frame m s0 (evtRead a0 s) := by
  intro a0
  have s_State_evtAnswer : Sub State.evtAnswer_foot m := hm.of (by decide)
  have s_State_complete : Sub State.complete_foot m := hm.of (by decide)
  unfold evtRead
  repeat' first
    | with_reducible assumption
    | (extract_lets -underBinder +onlyGivenNames x; have u : True := (by clear_value x; guard_hyp x :ₛ State; trivial); clear u; refine Frame.cut (m := m) (s0 := s0) (t := x) ?_ ?_; (on_goal 1 => subst x); (on_goal 2 => (intro hx; clear_value x)))
    | (extract_lets -underBinder +onlyGivenNames n; first | clear_value n | subst n)
    | with_reducible refine Frame.ite ?_ ?_
    | with_reducible refine State.evtAnswer_frame s_State_evtAnswer ?_ _ _ _ _ _ _
    | with_reducible refine State.complete_frame s_State_complete ?_ _ _ _
    | split

def heartwoodProgram_foot : Nat := 0x8000000000000000000000000000000000000000000000000000000000000000000000000000000000000000000000000000000000000000000000000000000001000000a0
theorem heartwoodProgram_frame (hm : Sub heartwoodProgram_foot m) (h : Frame m s0 s) :
    Frame m s0 (heartwoodProgram s) := by
  have s_State_cacheHw : Sub State.cacheHw_foot m := hm.of (by decide)
  have s_State_flashAsk : Sub State.flashAsk_foot m := hm.of (by decide)
  have s_State_setNvm : Sub State.setNvm_foot m := hm.of (by decide)
  unfold heartwoodProgram
  repeat' first
    | with_reducible assumption
    | (extract_lets -underBinder +onlyGivenNames x; have u : True := (by clear_value x; guard_hyp x :ₛ State; trivial); clear u; refine Frame.cut (m := m) (s0 := s0) (t := x) ?_ ?_; (on_goal 1 => subst x); (on_goal 2 => (intro hx; clear_value x)))
    | (extract_lets -underBinder +onlyGivenNames n; first | clear_value n | subst n)
    | with_reducible refine Frame.ite ?_ ?_
    | with_reducible refine State.cacheHw_frame s_State_cacheHw ?_ _ _
    | with_reducible refine State.flashAsk_frame s_State_flashAsk ?_ _
    | with_reducible refine State.setNvm_frame s_State_setNvm ?_ _
    | split

def evtClear_foot : Nat := 0x8000000000000000000000000000000000000000000000000000000000000000000000000000000000000000000000000000000000000000000000000000000001a0000080
theorem evtClear_frame (hm : Sub evtClear_foot m) (h : Frame m s0 s) :
    ∀ a0, Frame m s0 (evtClear a0 s) := by
  intro a0
  have s_State_complete : Sub State.complete_foot m := hm.of (by decide)
  have s_State_flashAsk : Sub State.flashAsk_foot m := hm.of (by decide)
  have s_State_setNvm : Sub State.setNvm_foot m := hm.of (by decide)
  unfold evtClear
  repeat' first
    | with_reducible assumption
    | (extract_lets -underBinder +onlyGivenNames x; have u : True := (by clear_value x; guard_hyp x :ₛ State; trivial); clear u; refine Frame.cut (m := m) (s0 := s0) (t := x) ?_ ?_; (on_goal 1 => subst x); (on_goal 2 => (intro hx; clear_value x)))
    | (extract_lets -underBinder +onlyGivenNames n; first | clear_value n | subst n)
    | with_reducible refine Frame.ite ?_ ?_
    | with_reducible refine State.complete_frame s_State_complete ?_ _ _ _
    | with_reducible refine State.flashAsk_frame s_State_flashAsk ?_ _
    | with_reducible refine State.setNvm_frame s_State_setNvm ?_ _
    | split

def timeSet_foot : Nat := 0x3d00000000000000000000000000000000000000000000000000000000000000000000000000000000000000000000000000000000000000000000000000000a0000180
theorem timeSet_frame (hm : Sub timeSet_foot m) (h : Frame m s0 s) :
    ∀ a0, Frame m s0 (timeSet a0 s) := by
  intro a0
  have s_State_complete : Sub State.complete_foot m := hm.of (by decide)
  have s_State_emit : Sub State.emit_foot m := hm.of (by decide)
  have k_EVT_NA_na : Has m EVT_NA_na := hm.has 16 8 rfl (by decide)
  have k_EVT_NA_set : Has m EVT_NA_set := hm.has 16 9 rfl (by decide)
  have k_EVT_SA_sa : Has m EVT_SA_sa := hm.has 16 7 rfl (by decide)
  have k_EVT_TA_ta : Has m EVT_TA_ta := hm.has 16 6 rfl (by decide)
  unfold timeSet
  repeat' first
    | with_reducible assumption
    | (extract_lets -underBinder +onlyGivenNames x; have u : True := (by clear_value x; guard_hyp x :ₛ State; trivial); clear u; refine Frame.cut (m := m) (s0 := s0) (t := x) ?_ ?_; (on_goal 1 => subst x); (on_goal 2 => (intro hx; clear_value x)))
    | (extract_lets -underBinder +onlyGivenNames n; first | clear_value n | subst n)
    | with_reducible refine Frame.ite ?_ ?_
    | with_reducible refine wr_frame (by with_reducible assumption) ?_ _ _
    | with_reducible refine State.complete_frame s_State_complete ?_ _ _ _
    | with_reducible refine State.emit_frame s_State_emit ?_ _ _ _
    | split

def evtCivLatch_foot : Nat := 0xff800000000000000000000000000000000000000000000000000000000000000000000000000000000000000000000000000000000000000000000000000000000000000
theorem evtCivLatch_frame (hm : Sub evtCivLatch_foot m) (h : Frame m s0 s) :
    ∀ a0, Frame m s0 (evtCivLatch a0 s) := by
  intro a0
  have k_EVT_CIV_day : Has m EVT_CIV_day := hm.has 16 13 rfl (by decide)
  have k_EVT_CIV_done : Has m EVT_CIV_done := hm.has 16 18 rfl (by decide)
  have k_EVT_CIV_hour : Has m EVT_CIV_hour := hm.has 16 14 rfl (by decide)
  have k_EVT_CIV_minute : Has m EVT_CIV_minute := hm.has 16 15 rfl (by decide)
  have k_EVT_CIV_month : Has m EVT_CIV_month := hm.has 16 12 rfl (by decide)
  have k_EVT_CIV_ns : Has m EVT_CIV_ns := hm.has 16 19 rfl (by decide)
  have k_EVT_CIV_second : Has m EVT_CIV_second := hm.has 16 16 rfl (by decide)
  have k_EVT_CIV_valid : Has m EVT_CIV_valid := hm.has 16 17 rfl (by decide)
  have k_EVT_CIV_year : Has m EVT_CIV_year := hm.has 16 11 rfl (by decide)
  unfold evtCivLatch
  repeat' first
    | with_reducible assumption
    | (extract_lets -underBinder +onlyGivenNames x; have u : True := (by clear_value x; guard_hyp x :ₛ State; trivial); clear u; refine Frame.cut (m := m) (s0 := s0) (t := x) ?_ ?_; (on_goal 1 => subst x); (on_goal 2 => (intro hx; clear_value x)))
    | (extract_lets -underBinder +onlyGivenNames n; first | clear_value n | subst n)
    | with_reducible refine Frame.ite ?_ ?_
    | with_reducible refine wr_frame (by with_reducible assumption) ?_ _ _
    | split

def execEventRecordAccept_foot : Nat := 0x2000000000000000000000000000000000000000000000000000000000000000000000000000000000000000000000000000000000000000000000000000000000530
theorem execEventRecordAccept_frame (hm : Sub execEventRecordAccept_foot m) (h : Frame m s0 s) :
    ∃ t, execEventRecordAccept s = .next t ∧ Frame m s0 t := by
  have s_eventRecordAccept : Sub eventRecordAccept_foot m := hm.of (by decide)
  unfold execEventRecordAccept
  refine hubOn_frame (fun s h => ?_) h
  repeat' first
    | with_reducible assumption
    | with_reducible refine Frame.ite ?_ ?_
    | with_reducible refine eventRecordAccept_frame s_eventRecordAccept ?_

def execHeartwoodProgram_foot : Nat := 0x8000000000000000000000000000000000000000000000000000000000000000000000000000000000000000000000000000000000000000000000000000000001000000a0
theorem execHeartwoodProgram_frame (hm : Sub execHeartwoodProgram_foot m) (h : Frame m s0 s) :
    ∃ t, execHeartwoodProgram s = .next t ∧ Frame m s0 t := by
  have s_heartwoodProgram : Sub heartwoodProgram_foot m := hm.of (by decide)
  unfold execHeartwoodProgram
  refine hubOn_frame (fun s h => ?_) h
  repeat' first
    | with_reducible assumption
    | with_reducible refine Frame.ite ?_ ?_
    | with_reducible refine heartwoodProgram_frame s_heartwoodProgram ?_

def execEvtRead_foot : Nat := 0xa0000080
theorem execEvtRead_frame (hm : Sub execEvtRead_foot m) (h : Frame m s0 s) :
    ∃ t, execEvtRead s = .next t ∧ Frame m s0 t := by
  have s_evtRead : Sub evtRead_foot m := hm.of (by decide)
  have s_State_runOpcode : Sub State.runOpcode_foot m := hm.of (by decide)
  unfold execEvtRead
  refine hubOn_frame (fun s h => ?_) h
  repeat' first
    | with_reducible assumption
    | with_reducible refine Frame.ite ?_ ?_
    | with_reducible refine evtRead_frame s_evtRead ?_ _
    | with_reducible refine State.runOpcode_frame s_State_runOpcode (fun d s hs => ?_) ?_ _

def execEvtClear_foot : Nat := 0x8000000000000000000000000000000000000000000000000000000000000000000000000000000000000000000000000000000000000000000000000000000001a0000080
theorem execEvtClear_frame (hm : Sub execEvtClear_foot m) (h : Frame m s0 s) :
    ∃ t, execEvtClear s = .next t ∧ Frame m s0 t := by
  have s_evtClear : Sub evtClear_foot m := hm.of (by decide)
  have s_State_runOpcode : Sub State.runOpcode_foot m := hm.of (by decide)
  unfold execEvtClear
  refine hubOn_frame (fun s h => ?_) h
  repeat' first
    | with_reducible assumption
    | with_reducible refine Frame.ite ?_ ?_
    | with_reducible refine evtClear_frame s_evtClear ?_ _
    | with_reducible refine State.runOpcode_frame s_State_runOpcode (fun d s hs => ?_) ?_ _
    | split

def execTimeSet_foot : Nat := 0x3d00000000000000000000000000000000000000000000000000000000000000000000000000000000000000000000000000000000000000000000000000000a0000180
theorem execTimeSet_frame (hm : Sub execTimeSet_foot m) (h : Frame m s0 s) :
    ∃ t, execTimeSet s = .next t ∧ Frame m s0 t := by
  have s_timeSet : Sub timeSet_foot m := hm.of (by decide)
  have s_State_runOpcode : Sub State.runOpcode_foot m := hm.of (by decide)
  unfold execTimeSet
  refine hubOn_frame (fun s h => ?_) h
  repeat' first
    | with_reducible assumption
    | with_reducible refine Frame.ite ?_ ?_
    | with_reducible refine timeSet_frame s_timeSet ?_ _
    | with_reducible refine State.runOpcode_frame s_State_runOpcode (fun d s hs => ?_) ?_ _

def execEvtCivLatch_foot : Nat := 0xff800000000000000000000000000000000000000000000000000000000000000000000000000000000000000000000000000000000000000000000000000000000000000
theorem execEvtCivLatch_frame (hm : Sub execEvtCivLatch_foot m) (h : Frame m s0 s) :
    ∀ a0, ∃ t, execEvtCivLatch a0 s = .next t ∧ Frame m s0 t := by
  intro a0
  have s_evtCivLatch : Sub evtCivLatch_foot m := hm.of (by decide)
  unfold execEvtCivLatch
  refine hubOn_frame (fun s h => ?_) h
  repeat' first
    | with_reducible assumption
    | with_reducible refine Frame.ite ?_ ?_
    | with_reducible refine evtCivLatch_frame s_evtCivLatch ?_ _

end Sys2Proof.Machine
end

