-- ==== Sys2Proof/Laws/FrameNvm.lean ====
section
/-!
SUPPORT. Laws/FrameNvm.lean: the footprint of every function of Machine/Nvm.lean, and that it writes nothing outside it.
-/
namespace Sys2Proof.Machine

set_option linter.all false

variable {m : Nat} {s0 s : State}

def State.nvmFwRestart_foot : Nat := 0x500000000
theorem State.nvmFwRestart_frame (hm : Sub State.nvmFwRestart_foot m) (h : Frame m s0 s) :
    Frame m s0 (State.nvmFwRestart s) := by
  have s_State_setNvm : Sub State.setNvm_foot m := hm.of (by decide)
  have c_fw : m.testBit 34 = true := hm.bit 34 (by decide)
  unfold State.nvmFwRestart
  repeat' first
    | with_reducible assumption
    | (extract_lets -underBinder +onlyGivenNames x; have u : True := (by clear_value x; guard_hyp x :ₛ State; trivial); clear u; refine Frame.cut (m := m) (s0 := s0) (t := x) ?_ ?_; (on_goal 1 => subst x); (on_goal 2 => (intro hx; clear_value x)))
    | (extract_lets -underBinder +onlyGivenNames n; first | clear_value n | subst n)
    | with_reducible refine Frame.ite ?_ ?_
    | with_reducible refine State.setNvm_frame s_State_setNvm ?_ _
    | with_reducible exact Frame.set_fw c_fw (by with_reducible assumption)
    | split

def State.committed_foot : Nat := 0x14000000000000000000000000000000000000000000000000000000000000000000000000000000000000000000000000000000000000000000000000000000000100
theorem State.committed_frame (hm : Sub State.committed_foot m) (h : Frame m s0 s) :
    ∀ a1, Frame m s0 (State.committed s a1) := by
  intro a1
  have s_State_emit : Sub State.emit_foot m := hm.of (by decide)
  have k_EVT_HW_count : Has m EVT_HW_count := hm.has 16 2 rfl (by decide)
  unfold State.committed
  repeat' first
    | with_reducible assumption
    | (extract_lets -underBinder +onlyGivenNames x; have u : True := (by clear_value x; guard_hyp x :ₛ State; trivial); clear u; refine Frame.cut (m := m) (s0 := s0) (t := x) ?_ ?_; (on_goal 1 => subst x); (on_goal 2 => (intro hx; clear_value x)))
    | (extract_lets -underBinder +onlyGivenNames n; first | clear_value n | subst n)
    | with_reducible refine Frame.ite ?_ ?_
    | with_reducible refine bump_frame (by with_reducible assumption) ?_ _
    | with_reducible refine State.emit_frame s_State_emit ?_ _ _ _
    | split

def State.logWritten_foot : Nat := 0x2000000
theorem State.logWritten_frame (hm : Sub State.logWritten_foot m) (h : Frame m s0 s) :
    Frame m s0 (State.logWritten s) := by
  have c_vrc : m.testBit 25 = true := hm.bit 25 (by decide)
  unfold State.logWritten
  repeat' first
    | with_reducible assumption
    | (extract_lets -underBinder +onlyGivenNames x; have u : True := (by clear_value x; guard_hyp x :ₛ State; trivial); clear u; refine Frame.cut (m := m) (s0 := s0) (t := x) ?_ ?_; (on_goal 1 => subst x); (on_goal 2 => (intro hx; clear_value x)))
    | (extract_lets -underBinder +onlyGivenNames n; first | clear_value n | subst n)
    | with_reducible refine Frame.ite ?_ ?_
    | with_reducible exact Frame.set_vrc c_vrc (by with_reducible assumption)

def State.logDone_foot : Nat := 0x800000000000000000000000000000000000000000000000000000000000000000000000000000000000000000000000000000000000000000000000000000000100000080
theorem State.logDone_frame (hm : Sub State.logDone_foot m) (h : Frame m s0 s) :
    ∀ a1, Frame m s0 (State.logDone s a1) := by
  intro a1
  have s_State_flashAsk : Sub State.flashAsk_foot m := hm.of (by decide)
  unfold State.logDone
  repeat' first
    | with_reducible assumption
    | with_reducible refine Frame.ite ?_ ?_
    | with_reducible refine State.flashAsk_frame s_State_flashAsk ?_ _
    | split

def State.mirrorDone_foot : Nat := 0x70800010000000000000000000000000000000000000000000000000000000000000000000000000000000000000000000000000000000000000000000000000000100000180
theorem State.mirrorDone_frame (hm : Sub State.mirrorDone_foot m) (h : Frame m s0 s) :
    ∀ a1, Frame m s0 (State.mirrorDone s a1) := by
  intro a1
  have s_State_setNvm : Sub State.setNvm_foot m := hm.of (by decide)
  have s_State_flashEraseN : Sub State.flashEraseN_foot m := hm.of (by decide)
  have s_State_emit : Sub State.emit_foot m := hm.of (by decide)
  have k_NVM_MIRROR_cause : Has m NVM_MIRROR_cause := hm.has 17 10 rfl (by decide)
  have k_NVM_MIRROR_count : Has m NVM_MIRROR_count := hm.has 17 8 rfl (by decide)
  have k_NVM_MIRROR_slot : Has m NVM_MIRROR_slot := hm.has 17 9 rfl (by decide)
  unfold State.mirrorDone
  repeat' first
    | with_reducible assumption
    | (extract_lets -underBinder +onlyGivenNames x; have u : True := (by clear_value x; guard_hyp x :ₛ State; trivial); clear u; refine Frame.cut (m := m) (s0 := s0) (t := x) ?_ ?_; (on_goal 1 => subst x); (on_goal 2 => (intro hx; clear_value x)))
    | (extract_lets -underBinder +onlyGivenNames n; first | clear_value n | subst n)
    | with_reducible refine Frame.ite ?_ ?_
    | with_reducible refine wr_frame (by with_reducible assumption) ?_ _ _
    | with_reducible refine bump_frame (by with_reducible assumption) ?_ _
    | with_reducible refine State.setNvm_frame s_State_setNvm ?_ _
    | with_reducible refine State.flashEraseN_frame s_State_flashEraseN ?_ _ _ _ _
    | with_reducible refine State.emit_frame s_State_emit ?_ _ _ _

def State.itemDone_foot : Nat := 0x7080001c0000000000000000000000000000000000000000000000000000000000000000000000000000000000000000000000000000000000000000000000000001a2000180
theorem State.itemDone_frame (hm : Sub State.itemDone_foot m) (h : Frame m s0 s) :
    ∀ a1, Frame m s0 (State.itemDone s a1) := by
  intro a1
  have s_State_committed : Sub State.committed_foot m := hm.of (by decide)
  have s_State_askCommit : Sub State.askCommit_foot m := hm.of (by decide)
  have s_State_logWritten : Sub State.logWritten_foot m := hm.of (by decide)
  have s_State_clearDone : Sub State.clearDone_foot m := hm.of (by decide)
  have s_State_logDone : Sub State.logDone_foot m := hm.of (by decide)
  have s_State_setNvm : Sub State.setNvm_foot m := hm.of (by decide)
  have s_State_mirrorDone : Sub State.mirrorDone_foot m := hm.of (by decide)
  have k_EVT_HW_gen : Has m EVT_HW_gen := hm.has 16 3 rfl (by decide)
  unfold State.itemDone
  repeat' first
    | with_reducible assumption
    | (extract_lets -underBinder +onlyGivenNames x; have u : True := (by clear_value x; guard_hyp x :ₛ State; trivial); clear u; refine Frame.cut (m := m) (s0 := s0) (t := x) ?_ ?_; (on_goal 1 => subst x); (on_goal 2 => (intro hx; clear_value x)))
    | (extract_lets -underBinder +onlyGivenNames n; first | clear_value n | subst n)
    | with_reducible refine Frame.ite ?_ ?_
    | with_reducible refine wr_frame (by with_reducible assumption) ?_ _ _
    | with_reducible refine State.committed_frame s_State_committed ?_ _
    | with_reducible refine State.askCommit_frame s_State_askCommit ?_ _
    | with_reducible refine State.logWritten_frame s_State_logWritten ?_
    | with_reducible refine State.clearDone_frame s_State_clearDone ?_
    | with_reducible refine State.logDone_frame s_State_logDone ?_ _
    | with_reducible refine State.setNvm_frame s_State_setNvm ?_ _
    | with_reducible refine State.mirrorDone_frame s_State_mirrorDone ?_ _
    | split

def State.popOp_foot : Nat := 0x800000000000000000000000000000000000000000000000000000000000000000000000000000000000000000000000000000000000000000000000000000000100000080
theorem State.popOp_frame (hm : Sub State.popOp_foot m) {f2} (hf : ∀ s, Frame m s0 s → Frame m s0 (f2 s)) (h : Frame m s0 s) :
    ∀ a1, Frame m s0 (State.popOp s a1 f2) := by
  intro a1
  have s_State_flashIssue : Sub State.flashIssue_foot m := hm.of (by decide)
  have s_State_setNvm : Sub State.setNvm_foot m := hm.of (by decide)
  unfold State.popOp
  repeat' first
    | with_reducible assumption
    | (extract_lets -underBinder +onlyGivenNames x; have u : True := (by clear_value x; guard_hyp x :ₛ State; trivial); clear u; refine Frame.cut (m := m) (s0 := s0) (t := x) ?_ ?_; (on_goal 1 => subst x); (on_goal 2 => (intro hx; clear_value x)))
    | (extract_lets -underBinder +onlyGivenNames n; first | clear_value n | subst n)
    | with_reducible refine Frame.ite ?_ ?_
    | with_reducible refine State.flashIssue_frame s_State_flashIssue ?_
    | with_reducible refine State.setNvm_frame s_State_setNvm ?_ _
    | with_reducible refine hf _ ?_
    | split

def State.nvmFwReturn_foot : Nat := 0xf080001c0000000000000000000000000000000000000000000000000000000000000000000000000000000000000000000000000000000000000000000000000001a2000180
theorem State.nvmFwReturn_frame (hm : Sub State.nvmFwReturn_foot m) (h : Frame m s0 s) :
    Frame m s0 (State.nvmFwReturn s) := by
  have s_State_itemDone : Sub State.itemDone_foot m := hm.of (by decide)
  have s_State_popOp : Sub State.popOp_foot m := hm.of (by decide)
  have s_State_mirrorAsk : Sub State.mirrorAsk_foot m := hm.of (by decide)
  have s_State_setNvm : Sub State.setNvm_foot m := hm.of (by decide)
  unfold State.nvmFwReturn
  repeat' first
    | with_reducible assumption
    | (extract_lets -underBinder +onlyGivenNames x; have u : True := (by clear_value x; guard_hyp x :ₛ State; trivial); clear u; refine Frame.cut (m := m) (s0 := s0) (t := x) ?_ ?_; (on_goal 1 => subst x); (on_goal 2 => (intro hx; clear_value x)))
    | (extract_lets -underBinder +onlyGivenNames n; first | clear_value n | subst n)
    | with_reducible refine Frame.ite ?_ ?_
    | with_reducible refine State.itemDone_frame s_State_itemDone ?_ _
    | with_reducible refine State.popOp_frame s_State_popOp (fun s hs => ?_) ?_ _
    | with_reducible refine State.mirrorAsk_frame s_State_mirrorAsk ?_ _
    | with_reducible refine State.setNvm_frame s_State_setNvm ?_ _
    | with_reducible refine Frame.foldl ?_ (fun s x hs => ?_)
    | split

def State.imageRewrite_foot : Nat := 0x800000000000000000000000000000000000000000000000000000000000000000000000000000000000000000000000000000000000000000000000000000000100000080
theorem State.imageRewrite_frame (hm : Sub State.imageRewrite_foot m) (h : Frame m s0 s) :
    ∀ a1, Frame m s0 (State.imageRewrite s a1) := by
  intro a1
  have s_State_flashAsk : Sub State.flashAsk_foot m := hm.of (by decide)
  have s_State_setNvm : Sub State.setNvm_foot m := hm.of (by decide)
  have s_State_flashEraseN : Sub State.flashEraseN_foot m := hm.of (by decide)
  unfold State.imageRewrite
  repeat' first
    | with_reducible assumption
    | (extract_lets -underBinder +onlyGivenNames x; have u : True := (by clear_value x; guard_hyp x :ₛ State; trivial); clear u; refine Frame.cut (m := m) (s0 := s0) (t := x) ?_ ?_; (on_goal 1 => subst x); (on_goal 2 => (intro hx; clear_value x)))
    | (extract_lets -underBinder +onlyGivenNames n; first | clear_value n | subst n)
    | with_reducible refine Frame.ite ?_ ?_
    | with_reducible refine State.flashAsk_frame s_State_flashAsk ?_ _
    | with_reducible refine State.setNvm_frame s_State_setNvm ?_ _
    | with_reducible refine State.flashEraseN_frame s_State_flashEraseN ?_ _ _ _ _
    | split

def State.countErase_foot : Nat := 0xf00000000000000000000000000000000000000000000000000000000000000000000000000000000000000000000000000000000000000000000000000000000000000000000
theorem State.countErase_frame (hm : Sub State.countErase_foot m) (h : Frame m s0 s) :
    ∀ a1, Frame m s0 (State.countErase s a1) := by
  intro a1
  have k_NVM_WEAR_hw : Has m NVM_WEAR_hw := hm.has 17 12 rfl (by decide)
  have k_NVM_WEAR_image : Has m NVM_WEAR_image := hm.has 17 15 rfl (by decide)
  have k_NVM_WEAR_log : Has m NVM_WEAR_log := hm.has 17 14 rfl (by decide)
  have k_NVM_WEAR_mirror : Has m NVM_WEAR_mirror := hm.has 17 13 rfl (by decide)
  unfold State.countErase
  repeat' first
    | with_reducible assumption
    | with_reducible refine Frame.ite ?_ ?_
    | with_reducible refine bump_frame (by with_reducible assumption) ?_ _
    | split

def State.itemFailed_foot : Nat := 0x8000000000000000000000000000000000000000000000000000000000000000000000000000000000000000000000000000000000000000000000000000000001000000a0
theorem State.itemFailed_frame (hm : Sub State.itemFailed_foot m) (h : Frame m s0 s) :
    ∀ a1, Frame m s0 (State.itemFailed s a1) := by
  intro a1
  have s_State_cacheHw : Sub State.cacheHw_foot m := hm.of (by decide)
  have s_State_askCommit : Sub State.askCommit_foot m := hm.of (by decide)
  have s_State_logDone : Sub State.logDone_foot m := hm.of (by decide)
  have s_State_setNvm : Sub State.setNvm_foot m := hm.of (by decide)
  have s_State_flashEraseN : Sub State.flashEraseN_foot m := hm.of (by decide)
  unfold State.itemFailed
  repeat' first
    | with_reducible assumption
    | (extract_lets -underBinder +onlyGivenNames x; have u : True := (by clear_value x; guard_hyp x :ₛ State; trivial); clear u; refine Frame.cut (m := m) (s0 := s0) (t := x) ?_ ?_; (on_goal 1 => subst x); (on_goal 2 => (intro hx; clear_value x)))
    | (extract_lets -underBinder +onlyGivenNames n; first | clear_value n | subst n)
    | with_reducible refine Frame.ite ?_ ?_
    | with_reducible refine State.cacheHw_frame s_State_cacheHw ?_ _ _
    | with_reducible refine State.askCommit_frame s_State_askCommit ?_ _
    | with_reducible refine State.logDone_frame s_State_logDone ?_ _
    | with_reducible refine State.setNvm_frame s_State_setNvm ?_ _
    | with_reducible refine State.flashEraseN_frame s_State_flashEraseN ?_ _ _ _ _
    | split

def State.flashLand_foot : Nat := 0xf00000000000000000000000000000000000000000000000000000000000000000000000000000000000000000000000000000000000000000000000000000000000000000040
theorem memOk_flashEraseAt {c : List Host.Cell} (a : Nat) (h : memOk c flashDefault = true) :
    memOk (flashEraseAt c a) flashDefault = true := memOk_filter _ h

theorem memOk_flashProgram {c : List Host.Cell} (a : Nat) (bs : List Byte) (h : memOk c flashDefault = true) :
    memOk (flashProgram c a bs) flashDefault = true := by
  induction bs generalizing c a with
  | nil => exact h
  | cons b t ih => exact ih _ (memOk_write a _ h)

theorem State.flashLand_frame (hm : Sub State.flashLand_foot m) (h : Frame m s0 s) :
    ∀ a1, Frame m s0 (State.flashLand s a1) := by
  intro a1
  unfold State.flashLand
  refine Frame.ite (State.countErase_frame (hm.of (by decide)) ?_ _) ?_
  · exact Frame.set_flash (hm.bit 6 (by decide)) (memOk_flashEraseAt _) h
  · exact Frame.set_flash (hm.bit 6 (by decide)) (memOk_flashProgram _ _) h

def flashOpDone_foot : Nat := 0xf7080001c0000000000000000000000000000000000000000000000000000000000000000000000000000000000000000000000000000000000000000000000000001a20001c0
theorem flashOpDone_frame (hm : Sub flashOpDone_foot m) (h : Frame m s0 s) :
    Frame m s0 (flashOpDone s) := by
  have s_State_itemDone : Sub State.itemDone_foot m := hm.of (by decide)
  have s_State_flashIssue : Sub State.flashIssue_foot m := hm.of (by decide)
  have s_State_popOp : Sub State.popOp_foot m := hm.of (by decide)
  have s_State_setNvm : Sub State.setNvm_foot m := hm.of (by decide)
  have s_State_flashLand : Sub State.flashLand_foot m := hm.of (by decide)
  unfold flashOpDone
  repeat' first
    | with_reducible assumption
    | (extract_lets -underBinder +onlyGivenNames x; have u : True := (by clear_value x; guard_hyp x :ₛ State; trivial); clear u; refine Frame.cut (m := m) (s0 := s0) (t := x) ?_ ?_; (on_goal 1 => subst x); (on_goal 2 => (intro hx; clear_value x)))
    | (extract_lets -underBinder +onlyGivenNames n; first | clear_value n | subst n)
    | with_reducible refine Frame.ite ?_ ?_
    | with_reducible refine State.itemDone_frame s_State_itemDone ?_ _
    | with_reducible refine State.flashIssue_frame s_State_flashIssue ?_
    | with_reducible refine State.popOp_frame s_State_popOp (fun s hs => ?_) ?_ _
    | with_reducible refine State.setNvm_frame s_State_setNvm ?_ _
    | with_reducible refine State.flashLand_frame s_State_flashLand ?_ _
    | split

def flashOpTimeout_foot : Nat := 0xc8000100000000000000000000000000000000000000000000000000000000000000000000000000000000000000000000000000000000000000000000000000001200001a0
theorem flashOpTimeout_frame (hm : Sub flashOpTimeout_foot m) (h : Frame m s0 s) :
    ∀ a0, Frame m s0 (flashOpTimeout a0 s) := by
  intro a0
  have s_State_flashIssue : Sub State.flashIssue_foot m := hm.of (by decide)
  have s_State_popOp : Sub State.popOp_foot m := hm.of (by decide)
  have s_State_itemFailed : Sub State.itemFailed_foot m := hm.of (by decide)
  have s_State_setNvm : Sub State.setNvm_foot m := hm.of (by decide)
  have s_State_emit : Sub State.emit_foot m := hm.of (by decide)
  have k_NVM_ERR_erase : Has m NVM_ERR_erase := hm.has 17 7 rfl (by decide)
  have k_NVM_ERR_prog : Has m NVM_ERR_prog := hm.has 17 6 rfl (by decide)
  have c_hif : m.testBit 29 = true := hm.bit 29 (by decide)
  unfold flashOpTimeout
  repeat' first
    | with_reducible assumption
    | (extract_lets -underBinder +onlyGivenNames x; have u : True := (by clear_value x; guard_hyp x :ₛ State; trivial); clear u; refine Frame.cut (m := m) (s0 := s0) (t := x) ?_ ?_; (on_goal 1 => subst x); (on_goal 2 => (intro hx; clear_value x)))
    | (extract_lets -underBinder +onlyGivenNames n; first | clear_value n | subst n)
    | with_reducible refine Frame.ite ?_ ?_
    | with_reducible refine bump_frame (by with_reducible assumption) ?_ _
    | with_reducible refine State.flashIssue_frame s_State_flashIssue ?_
    | with_reducible refine State.popOp_frame s_State_popOp (fun s hs => ?_) ?_ _
    | with_reducible refine State.itemFailed_frame s_State_itemFailed ?_ _
    | with_reducible refine State.setNvm_frame s_State_setNvm ?_ _
    | with_reducible refine State.emit_frame s_State_emit ?_ _ _ _
    | with_reducible exact Frame.set_hif c_hif (by with_reducible assumption)
    | split

def lastFaultFlashWrite_foot : Nat := 0x800000000000000000000000000000000000000000000000000000000000000000000000000000000000000000000000000000000000000000000000000000000102000080
theorem lastFaultFlashWrite_frame (hm : Sub lastFaultFlashWrite_foot m) (h : Frame m s0 s) :
    Frame m s0 (lastFaultFlashWrite s) := by
  have s_State_flashAsk : Sub State.flashAsk_foot m := hm.of (by decide)
  have s_State_setNvm : Sub State.setNvm_foot m := hm.of (by decide)
  have c_vrc : m.testBit 25 = true := hm.bit 25 (by decide)
  unfold lastFaultFlashWrite
  repeat' first
    | with_reducible assumption
    | (extract_lets -underBinder +onlyGivenNames x; have u : True := (by clear_value x; guard_hyp x :ₛ State; trivial); clear u; refine Frame.cut (m := m) (s0 := s0) (t := x) ?_ ?_; (on_goal 1 => subst x); (on_goal 2 => (intro hx; clear_value x)))
    | (extract_lets -underBinder +onlyGivenNames n; first | clear_value n | subst n)
    | with_reducible refine Frame.ite ?_ ?_
    | with_reducible refine State.flashAsk_frame s_State_flashAsk ?_ _
    | with_reducible refine State.setNvm_frame s_State_setNvm ?_ _
    | with_reducible exact Frame.set_vrc c_vrc (by with_reducible assumption)
    | split

def State.restoreHw_foot : Nat := 0x80001c0000000000000000000000000000000000000000000000000000000000000000000000000000000000000000000000000000000000000000000000000001000001a0
theorem State.restoreHw_frame (hm : Sub State.restoreHw_foot m) (h : Frame m s0 s) :
    Frame m s0 (State.restoreHw s) := by
  have s_State_cacheHw : Sub State.cacheHw_foot m := hm.of (by decide)
  have s_State_flashAsk : Sub State.flashAsk_foot m := hm.of (by decide)
  have s_State_setNvm : Sub State.setNvm_foot m := hm.of (by decide)
  have s_State_flashEraseN : Sub State.flashEraseN_foot m := hm.of (by decide)
  have s_State_emit : Sub State.emit_foot m := hm.of (by decide)
  have k_EVT_HW_count : Has m EVT_HW_count := hm.has 16 2 rfl (by decide)
  have k_EVT_HW_gen : Has m EVT_HW_gen := hm.has 16 3 rfl (by decide)
  unfold State.restoreHw
  repeat' first
    | with_reducible assumption
    | (extract_lets -underBinder +onlyGivenNames x; have u : True := (by clear_value x; guard_hyp x :ₛ State; trivial); clear u; refine Frame.cut (m := m) (s0 := s0) (t := x) ?_ ?_; (on_goal 1 => subst x); (on_goal 2 => (intro hx; clear_value x)))
    | (extract_lets -underBinder +onlyGivenNames n; first | clear_value n | subst n)
    | with_reducible refine Frame.ite ?_ ?_
    | with_reducible refine wr_frame (by with_reducible assumption) ?_ _ _
    | with_reducible refine State.cacheHw_frame s_State_cacheHw ?_ _ _
    | with_reducible refine State.flashAsk_frame s_State_flashAsk ?_ _
    | with_reducible refine State.setNvm_frame s_State_setNvm ?_ _
    | with_reducible refine State.flashEraseN_frame s_State_flashEraseN ?_ _ _ _ _
    | with_reducible refine State.emit_frame s_State_emit ?_ _ _ _
    | with_reducible refine Frame.foldl ?_ (fun s x hs => ?_)
    | split

def State.restoreMirror_foot : Nat := 0x60000012000000000000000000000000000000000000000000000000000000000000000000000000000000000000000000000000000000000000000000000000000100000120
theorem State.restoreMirror_frame (hm : Sub State.restoreMirror_foot m) (h : Frame m s0 s) :
    Frame m s0 (State.restoreMirror s) := by
  have s_State_sapwood : Sub State.sapwood_foot m := hm.of (by decide)
  have s_State_setNvm : Sub State.setNvm_foot m := hm.of (by decide)
  have s_State_emit : Sub State.emit_foot m := hm.of (by decide)
  have k_NVM_MIRROR_cause : Has m NVM_MIRROR_cause := hm.has 17 10 rfl (by decide)
  have k_NVM_MIRROR_slot : Has m NVM_MIRROR_slot := hm.has 17 9 rfl (by decide)
  unfold State.restoreMirror
  repeat' first
    | with_reducible assumption
    | (extract_lets -underBinder +onlyGivenNames x; have u : True := (by clear_value x; guard_hyp x :ₛ State; trivial); clear u; refine Frame.cut (m := m) (s0 := s0) (t := x) ?_ ?_; (on_goal 1 => subst x); (on_goal 2 => (intro hx; clear_value x)))
    | (extract_lets -underBinder +onlyGivenNames n; first | clear_value n | subst n)
    | with_reducible refine Frame.ite ?_ ?_
    | with_reducible refine wr_frame (by with_reducible assumption) ?_ _ _
    | with_reducible refine State.sapwood_frame s_State_sapwood ?_ _
    | with_reducible refine State.setNvm_frame s_State_setNvm ?_ _
    | with_reducible refine State.emit_frame s_State_emit ?_ _ _ _
    | with_reducible refine Frame.foldl ?_ (fun s x hs => ?_)
    | split

def State.blankSlot_foot : Nat := 0x800000000000000000000000000000000000000000000000000000000000000000000000000000000000000000000000000000000000000000000000000000000100000080
theorem State.blankSlot_frame (hm : Sub State.blankSlot_foot m) (h : Frame m s0 s) :
    Frame m s0 (State.blankSlot s) := by
  have s_State_flashEraseN : Sub State.flashEraseN_foot m := hm.of (by decide)
  unfold State.blankSlot
  repeat' first
    | with_reducible assumption
    | (extract_lets -underBinder +onlyGivenNames x; have u : True := (by clear_value x; guard_hyp x :ₛ State; trivial); clear u; refine Frame.cut (m := m) (s0 := s0) (t := x) ?_ ?_; (on_goal 1 => subst x); (on_goal 2 => (intro hx; clear_value x)))
    | (extract_lets -underBinder +onlyGivenNames n; first | clear_value n | subst n)
    | with_reducible refine Frame.ite ?_ ?_
    | with_reducible refine State.flashEraseN_frame s_State_flashEraseN ?_ _ _ _ _
    | split

def State.restoreLog_foot : Nat := 0x10000000000000000000000000000000000000000000000000000000080000000000000000000000000000000000000000000000000000000000000000000102000100
theorem State.restoreLog_frame (hm : Sub State.restoreLog_foot m) (h : Frame m s0 s) :
    Frame m s0 (State.restoreLog s) := by
  have s_State_setNvm : Sub State.setNvm_foot m := hm.of (by decide)
  have s_State_emit : Sub State.emit_foot m := hm.of (by decide)
  have k_VRC_LASTF : Has m VRC_LASTF := hm.has 9 57 rfl (by decide)
  have c_vrc : m.testBit 25 = true := hm.bit 25 (by decide)
  unfold State.restoreLog
  repeat' first
    | with_reducible assumption
    | (extract_lets -underBinder +onlyGivenNames x; have u : True := (by clear_value x; guard_hyp x :ₛ State; trivial); clear u; refine Frame.cut (m := m) (s0 := s0) (t := x) ?_ ?_; (on_goal 1 => subst x); (on_goal 2 => (intro hx; clear_value x)))
    | (extract_lets -underBinder +onlyGivenNames n; first | clear_value n | subst n)
    | with_reducible refine Frame.ite ?_ ?_
    | with_reducible refine wr_frame (by with_reducible assumption) ?_ _ _
    | with_reducible refine State.setNvm_frame s_State_setNvm ?_ _
    | with_reducible refine State.emit_frame s_State_emit ?_ _ _ _
    | with_reducible exact Frame.set_vrc c_vrc (by with_reducible assumption)
    | with_reducible refine Frame.foldl ?_ (fun s x hs => ?_)
    | split

def fp3StartupRestore_foot : Nat := 0x6080001e0000000000000000000000000000000000000000000000000000000800000000000000000000000000000000000000000000000000000000000000000001020001a0
theorem fp3StartupRestore_frame (hm : Sub fp3StartupRestore_foot m) (h : Frame m s0 s) :
    Frame m s0 (fp3StartupRestore s) := by
  have s_State_restoreMirror : Sub State.restoreMirror_foot m := hm.of (by decide)
  have s_State_restoreHw : Sub State.restoreHw_foot m := hm.of (by decide)
  have s_State_restoreLog : Sub State.restoreLog_foot m := hm.of (by decide)
  have s_State_blankSlot : Sub State.blankSlot_foot m := hm.of (by decide)
  have s_State_setNvm : Sub State.setNvm_foot m := hm.of (by decide)
  have s_State_emit : Sub State.emit_foot m := hm.of (by decide)
  unfold fp3StartupRestore
  repeat' first
    | with_reducible assumption
    | (extract_lets -underBinder +onlyGivenNames x; have u : True := (by clear_value x; guard_hyp x :ₛ State; trivial); clear u; refine Frame.cut (m := m) (s0 := s0) (t := x) ?_ ?_; (on_goal 1 => subst x); (on_goal 2 => (intro hx; clear_value x)))
    | (extract_lets -underBinder +onlyGivenNames n; first | clear_value n | subst n)
    | with_reducible refine Frame.ite ?_ ?_
    | with_reducible refine State.restoreMirror_frame s_State_restoreMirror ?_
    | with_reducible refine State.restoreHw_frame s_State_restoreHw ?_
    | with_reducible refine State.restoreLog_frame s_State_restoreLog ?_
    | with_reducible refine State.blankSlot_frame s_State_blankSlot ?_
    | with_reducible refine State.setNvm_frame s_State_setNvm ?_ _
    | with_reducible refine State.emit_frame s_State_emit ?_ _ _ _
    | split

def mirrorDeferExpire_foot : Nat := 0x80800000000000000000000000000000000000000000000000000000000000000000000000000000000000000000000000000000000000000000000000000000000100000080
theorem mirrorDeferExpire_frame (hm : Sub mirrorDeferExpire_foot m) (h : Frame m s0 s) :
    Frame m s0 (mirrorDeferExpire s) := by
  have s_State_mirrorCapture : Sub State.mirrorCapture_foot m := hm.of (by decide)
  unfold mirrorDeferExpire
  repeat' first
    | with_reducible assumption
    | with_reducible refine Frame.ite ?_ ?_
    | with_reducible refine State.mirrorCapture_frame s_State_mirrorCapture ?_ _
    | split

def execFlashOpDone_foot : Nat := 0xf7080001c0000000000000000000000000000000000000000000000000000000000000000000000000000000000000000000000000000000000000000000000000001a20001c0
theorem execFlashOpDone_frame (hm : Sub execFlashOpDone_foot m) (h : Frame m s0 s) :
    ∃ t, execFlashOpDone s = .next t ∧ Frame m s0 t := by
  have s_flashOpDone : Sub flashOpDone_foot m := hm.of (by decide)
  unfold execFlashOpDone
  refine hubOn_frame (fun s h => ?_) h
  repeat' first
    | with_reducible assumption
    | with_reducible refine Frame.ite ?_ ?_
    | with_reducible refine flashOpDone_frame s_flashOpDone ?_

def execFlashOpTimeout_foot : Nat := 0xc8000100000000000000000000000000000000000000000000000000000000000000000000000000000000000000000000000000000000000000000000000000001200001a0
theorem execFlashOpTimeout_frame (hm : Sub execFlashOpTimeout_foot m) (h : Frame m s0 s) :
    ∀ a0, ∃ t, execFlashOpTimeout a0 s = .next t ∧ Frame m s0 t := by
  intro a0
  have s_flashOpTimeout : Sub flashOpTimeout_foot m := hm.of (by decide)
  unfold execFlashOpTimeout
  refine hubOn_frame (fun s h => ?_) h
  repeat' first
    | with_reducible assumption
    | with_reducible refine Frame.ite ?_ ?_
    | with_reducible refine flashOpTimeout_frame s_flashOpTimeout ?_ _

def execLastFaultFlashWrite_foot : Nat := 0x800000000000000000000000000000000000000000000000000000000000000000000000000000000000000000000000000000000000000000000000000000000102000080
theorem execLastFaultFlashWrite_frame (hm : Sub execLastFaultFlashWrite_foot m) (h : Frame m s0 s) :
    ∃ t, execLastFaultFlashWrite s = .next t ∧ Frame m s0 t := by
  have s_lastFaultFlashWrite : Sub lastFaultFlashWrite_foot m := hm.of (by decide)
  unfold execLastFaultFlashWrite
  refine hubOn_frame (fun s h => ?_) h
  repeat' first
    | with_reducible assumption
    | with_reducible refine Frame.ite ?_ ?_
    | with_reducible refine lastFaultFlashWrite_frame s_lastFaultFlashWrite ?_

def execFp3StartupRestore_foot : Nat := 0x6080001e0000000000000000000000000000000000000000000000000000000800000000000000000000000000000000000000000000000000000000000000000001020001a0
theorem execFp3StartupRestore_frame (hm : Sub execFp3StartupRestore_foot m) (h : Frame m s0 s) :
    ∃ t, execFp3StartupRestore s = .next t ∧ Frame m s0 t := by
  have s_fp3StartupRestore : Sub fp3StartupRestore_foot m := hm.of (by decide)
  unfold execFp3StartupRestore
  refine hubOn_frame (fun s h => ?_) h
  repeat' first
    | with_reducible assumption
    | with_reducible refine Frame.ite ?_ ?_
    | with_reducible refine fp3StartupRestore_frame s_fp3StartupRestore ?_

def execMirrorDeferExpire_foot : Nat := 0x80800000000000000000000000000000000000000000000000000000000000000000000000000000000000000000000000000000000000000000000000000000000100000080
theorem execMirrorDeferExpire_frame (hm : Sub execMirrorDeferExpire_foot m) (h : Frame m s0 s) :
    ∃ t, execMirrorDeferExpire s = .next t ∧ Frame m s0 t := by
  have s_mirrorDeferExpire : Sub mirrorDeferExpire_foot m := hm.of (by decide)
  unfold execMirrorDeferExpire
  refine hubOn_frame (fun s h => ?_) h
  repeat' first
    | with_reducible assumption
    | with_reducible refine Frame.ite ?_ ?_
    | with_reducible refine mirrorDeferExpire_frame s_mirrorDeferExpire ?_

end Sys2Proof.Machine
end

