-- ==== Sys2Proof/Laws/FrameSmb.lean ====
section
/-!
SUPPORT. Laws/FrameSmb.lean: the footprint of every function of Machine/Smb.lean, and that it writes nothing outside it.
-/
namespace Sys2Proof.Machine

set_option linter.all false

variable {m : Nat} {s0 s : State}

def State.smbBoundary_foot : Nat := 0x10000000000000000000000000000000000000000000000000000000000000000000000000000000000000000000000000000000000000000000000000000200000100
theorem State.smbBoundary_frame (hm : Sub State.smbBoundary_foot m) (h : Frame m s0 s) :
    Frame m s0 (State.smbBoundary s) := by
  have s_State_emit : Sub State.emit_foot m := hm.of (by decide)
  have c_smb : m.testBit 33 = true := hm.bit 33 (by decide)
  unfold State.smbBoundary
  repeat' first
    | with_reducible assumption
    | (extract_lets -underBinder +onlyGivenNames x; have u : True := (by clear_value x; guard_hyp x :ₛ State; trivial); clear u; refine Frame.cut (m := m) (s0 := s0) (t := x) ?_ ?_; (on_goal 1 => subst x); (on_goal 2 => (intro hx; clear_value x)))
    | (extract_lets -underBinder +onlyGivenNames n; first | clear_value n | subst n)
    | with_reducible refine Frame.ite ?_ ?_
    | with_reducible refine State.emit_frame s_State_emit ?_ _ _ _
    | with_reducible exact Frame.set_smb c_smb (by with_reducible assumption)
    | with_reducible refine Frame.foldl ?_ (fun s x hs => ?_)

def State.smbAnswer_foot : Nat := 0x80
theorem State.smbAnswer_frame (hm : Sub State.smbAnswer_foot m) (h : Frame m s0 s) :
    ∀ a1 a2 a3, Frame m s0 (State.smbAnswer s a1 a2 a3) := by
  intro a1 a2 a3
  have s_State_send : Sub State.send_foot m := hm.of (by decide)
  unfold State.smbAnswer
  repeat' first
    | with_reducible assumption
    | (extract_lets -underBinder +onlyGivenNames x; have u : True := (by clear_value x; guard_hyp x :ₛ State; trivial); clear u; refine Frame.cut (m := m) (s0 := s0) (t := x) ?_ ?_; (on_goal 1 => subst x); (on_goal 2 => (intro hx; clear_value x)))
    | (extract_lets -underBinder +onlyGivenNames n; first | clear_value n | subst n)
    | with_reducible refine Frame.ite ?_ ?_
    | with_reducible refine State.send_frame s_State_send ?_ _
    | split

def State.smbViol_foot : Nat := 0x1c0000000000000000000000000000000000000000000000000000000000000000000000000000000000000000000000000000000000000000000000000000000000000000000000000000000000000000000200000000
theorem State.smbViol_frame (hm : Sub State.smbViol_foot m) (h : Frame m s0 s) :
    ∀ a1 a2, Frame m s0 (State.smbViol s a1 a2) := by
  intro a1 a2
  have k_SMB_STAT_cmd : Has m SMB_STAT_cmd := hm.has 23 3 rfl (by decide)
  have k_SMB_STAT_pec : Has m SMB_STAT_pec := hm.has 23 4 rfl (by decide)
  have k_SMB_STAT_timeout : Has m SMB_STAT_timeout := hm.has 23 5 rfl (by decide)
  have c_smb : m.testBit 33 = true := hm.bit 33 (by decide)
  unfold State.smbViol
  repeat' first
    | with_reducible assumption
    | (extract_lets -underBinder +onlyGivenNames x; have u : True := (by clear_value x; guard_hyp x :ₛ State; trivial); clear u; refine Frame.cut (m := m) (s0 := s0) (t := x) ?_ ?_; (on_goal 1 => subst x); (on_goal 2 => (intro hx; clear_value x)))
    | (extract_lets -underBinder +onlyGivenNames n; first | clear_value n | subst n)
    | with_reducible refine Frame.ite ?_ ?_
    | with_reducible refine bump_frame (by with_reducible assumption) ?_ _
    | with_reducible exact Frame.set_smb c_smb (by with_reducible assumption)
    | split

def State.smbTx_foot : Nat := 0x1c0000000000000000000000000000000000000000000000000000000000000000000000000000000000000000000000000000000000000000000000000000000000000000000000000000000000000000000200000080
theorem State.smbTx_frame (hm : Sub State.smbTx_foot m) {f3} (hf : ∀ s, Frame m s0 s → Frame m s0 (f3 s)) (h : Frame m s0 s) :
    ∀ a1 a2, Frame m s0 (State.smbTx s a1 a2 f3) := by
  intro a1 a2
  have s_State_smbViol : Sub State.smbViol_foot m := hm.of (by decide)
  have s_State_send : Sub State.send_foot m := hm.of (by decide)
  unfold State.smbTx
  repeat' first
    | with_reducible assumption
    | with_reducible refine Frame.ite ?_ ?_
    | with_reducible refine State.smbViol_frame s_State_smbViol ?_ _ _
    | with_reducible refine State.send_frame s_State_send ?_ _
    | with_reducible refine hf _ ?_
    | split

def State.smbWrite_foot : Nat := 0x1c0000000000000000000000000000000000000000000000000000000000000000000000000000000000000000000000000000000000000000000000000000000000000000000000000000000000000000000200000080
theorem State.smbWrite_frame (hm : Sub State.smbWrite_foot m) {f5} (hf : ∀ s, Frame m s0 s → Frame m s0 (f5 s)) (h : Frame m s0 s) :
    ∀ a1 a2 a3 a4, Frame m s0 (State.smbWrite s a1 a2 a3 a4 f5) := by
  intro a1 a2 a3 a4
  have s_State_smbViol : Sub State.smbViol_foot m := hm.of (by decide)
  have s_State_smbTx : Sub State.smbTx_foot m := hm.of (by decide)
  have s_State_send : Sub State.send_foot m := hm.of (by decide)
  unfold State.smbWrite
  repeat' first
    | with_reducible assumption
    | with_reducible refine Frame.ite ?_ ?_
    | with_reducible refine State.smbViol_frame s_State_smbViol ?_ _ _
    | with_reducible refine State.smbTx_frame s_State_smbTx (fun s hs => ?_) ?_ _ _
    | with_reducible refine State.send_frame s_State_send ?_ _
    | with_reducible refine hf _ ?_
    | split

def smbIdent_foot : Nat := 0x1c0000000000000000000000000000000000000000000000000000000000000000000000000000000000000000000000000000000000000000000000000000000000000000000000000000000000000000000200000080
theorem smbIdent_frame (hm : Sub smbIdent_foot m) (h : Frame m s0 s) :
    ∀ a0, Frame m s0 (smbIdent a0 s) := by
  intro a0
  have s_State_smbTx : Sub State.smbTx_foot m := hm.of (by decide)
  have s_State_smbAnswer : Sub State.smbAnswer_foot m := hm.of (by decide)
  unfold smbIdent
  repeat' first
    | with_reducible assumption
    | with_reducible refine Frame.ite ?_ ?_
    | with_reducible refine State.smbTx_frame s_State_smbTx (fun s hs => ?_) ?_ _ _
    | with_reducible refine State.smbAnswer_frame s_State_smbAnswer ?_ _ _ _

def smbStatus_foot : Nat := 0x1c0000000000000000000000000000000000000000000000000000000000000000000000000000000000000000000000000000000000000000000000000000000000000000000000000000000000000000000200000080
theorem smbStatus_frame (hm : Sub smbStatus_foot m) (h : Frame m s0 s) :
    ∀ a0, Frame m s0 (smbStatus a0 s) := by
  intro a0
  have s_State_smbTx : Sub State.smbTx_foot m := hm.of (by decide)
  have s_State_smbAnswer : Sub State.smbAnswer_foot m := hm.of (by decide)
  unfold smbStatus
  repeat' first
    | with_reducible assumption
    | with_reducible refine Frame.ite ?_ ?_
    | with_reducible refine State.smbTx_frame s_State_smbTx (fun s hs => ?_) ?_ _ _
    | with_reducible refine State.smbAnswer_frame s_State_smbAnswer ?_ _ _ _

def smbTempHot_foot : Nat := 0x1c0000000000000000000000000000000000000000000000000000000000000000000000000000000000000000000000000000000000000000000000000000000000000000000000000000000000000000000200000080
theorem smbTempHot_frame (hm : Sub smbTempHot_foot m) (h : Frame m s0 s) :
    ∀ a0, Frame m s0 (smbTempHot a0 s) := by
  intro a0
  have s_State_smbTx : Sub State.smbTx_foot m := hm.of (by decide)
  have s_State_smbAnswer : Sub State.smbAnswer_foot m := hm.of (by decide)
  unfold smbTempHot
  repeat' first
    | with_reducible assumption
    | with_reducible refine Frame.ite ?_ ?_
    | with_reducible refine State.smbTx_frame s_State_smbTx (fun s hs => ?_) ?_ _ _
    | with_reducible refine State.smbAnswer_frame s_State_smbAnswer ?_ _ _ _

def State.smbAnchors_foot : Nat := 0x80
theorem State.smbAnchors_frame (hm : Sub State.smbAnchors_foot m) (h : Frame m s0 s) :
    ∀ a1 a2, Frame m s0 (State.smbAnchors s a1 a2) := by
  intro a1 a2
  have s_State_smbAnswer : Sub State.smbAnswer_foot m := hm.of (by decide)
  unfold State.smbAnchors
  repeat' first
    | with_reducible assumption
    | with_reducible refine Frame.ite ?_ ?_
    | with_reducible refine State.smbAnswer_frame s_State_smbAnswer ?_ _ _ _

def smbAnchorLo_foot : Nat := 0x1c0000000000000000000000000000000000000000000000000000000000000000000000000000000000000000000000000000000000000000000000000000000000000000000000000000000000000000000200000080
theorem smbAnchorLo_frame (hm : Sub smbAnchorLo_foot m) (h : Frame m s0 s) :
    ∀ a0, Frame m s0 (smbAnchorLo a0 s) := by
  intro a0
  have s_State_smbAnchors : Sub State.smbAnchors_foot m := hm.of (by decide)
  have s_State_smbTx : Sub State.smbTx_foot m := hm.of (by decide)
  unfold smbAnchorLo
  repeat' first
    | with_reducible assumption
    | with_reducible refine Frame.ite ?_ ?_
    | with_reducible refine State.smbAnchors_frame s_State_smbAnchors ?_ _ _
    | with_reducible refine State.smbTx_frame s_State_smbTx (fun s hs => ?_) ?_ _ _

def smbAnchorHi_foot : Nat := 0x1c0000000000000000000000000000000000000000000000000000000000000000000000000000000000000000000000000000000000000000000000000000000000000000000000000000000000000000000200000080
theorem smbAnchorHi_frame (hm : Sub smbAnchorHi_foot m) (h : Frame m s0 s) :
    ∀ a0, Frame m s0 (smbAnchorHi a0 s) := by
  intro a0
  have s_State_smbAnchors : Sub State.smbAnchors_foot m := hm.of (by decide)
  have s_State_smbTx : Sub State.smbTx_foot m := hm.of (by decide)
  unfold smbAnchorHi
  repeat' first
    | with_reducible assumption
    | with_reducible refine Frame.ite ?_ ?_
    | with_reducible refine State.smbAnchors_frame s_State_smbAnchors ?_ _ _
    | with_reducible refine State.smbTx_frame s_State_smbTx (fun s hs => ?_) ?_ _ _

def smbTinRead_foot : Nat := 0x1c0000000000000000000000000000000000000000000000000000000000000000000000000000000000000000000000000000000000000000000000000000000000000000000000000000000000000000000200000080
theorem smbTinRead_frame (hm : Sub smbTinRead_foot m) (h : Frame m s0 s) :
    ∀ a0, Frame m s0 (smbTinRead a0 s) := by
  intro a0
  have s_State_smbTx : Sub State.smbTx_foot m := hm.of (by decide)
  have s_State_smbAnswer : Sub State.smbAnswer_foot m := hm.of (by decide)
  unfold smbTinRead
  repeat' first
    | with_reducible assumption
    | with_reducible refine Frame.ite ?_ ?_
    | with_reducible refine State.smbTx_frame s_State_smbTx (fun s hs => ?_) ?_ _ _
    | with_reducible refine State.smbAnswer_frame s_State_smbAnswer ?_ _ _ _

def smbTinWrite_foot : Nat := 0x1c0000000000000000000000000000000000000000000000000000000000000000000000000000000000c00000000000000000000000000000000000000000000000000000000000000000000000000000000200000080
theorem smbTinWrite_frame (hm : Sub smbTinWrite_foot m) (h : Frame m s0 s) :
    ∀ a0 a1 a2, Frame m s0 (smbTinWrite a0 a1 a2 s) := by
  intro a0 a1 a2
  have s_State_writeTin : Sub State.writeTin_foot m := hm.of (by decide)
  have s_State_smbWrite : Sub State.smbWrite_foot m := hm.of (by decide)
  unfold smbTinWrite
  repeat' first
    | with_reducible assumption
    | with_reducible refine Frame.ite ?_ ?_
    | with_reducible refine State.writeTin_frame s_State_writeTin ?_ _
    | with_reducible refine State.smbWrite_frame s_State_smbWrite (fun s hs => ?_) ?_ _ _ _ _

def smbPower_foot : Nat := 0x1c0000000000000000000000000000000000000000000000000000000000000000000000000000000000000000000000000000000000000000000000000000000000000000000000000000000000000000000200000080
theorem smbPower_frame (hm : Sub smbPower_foot m) (h : Frame m s0 s) :
    ∀ a0, Frame m s0 (smbPower a0 s) := by
  intro a0
  have s_State_smbTx : Sub State.smbTx_foot m := hm.of (by decide)
  have s_State_smbAnswer : Sub State.smbAnswer_foot m := hm.of (by decide)
  unfold smbPower
  repeat' first
    | with_reducible assumption
    | with_reducible refine Frame.ite ?_ ?_
    | with_reducible refine State.smbTx_frame s_State_smbTx (fun s hs => ?_) ?_ _ _
    | with_reducible refine State.smbAnswer_frame s_State_smbAnswer ?_ _ _ _

def smbLastfPageRead_foot : Nat := 0x1c0000000000000000000000000000000000000000000000000000000000000000000000000000000000000000000000000000000000000000000000000000000000000000000000000000000000000000000200000080
theorem smbLastfPageRead_frame (hm : Sub smbLastfPageRead_foot m) (h : Frame m s0 s) :
    ∀ a0, Frame m s0 (smbLastfPageRead a0 s) := by
  intro a0
  have s_State_smbTx : Sub State.smbTx_foot m := hm.of (by decide)
  have s_State_smbAnswer : Sub State.smbAnswer_foot m := hm.of (by decide)
  unfold smbLastfPageRead
  repeat' first
    | with_reducible assumption
    | with_reducible refine Frame.ite ?_ ?_
    | with_reducible refine State.smbTx_frame s_State_smbTx (fun s hs => ?_) ?_ _ _
    | with_reducible refine State.smbAnswer_frame s_State_smbAnswer ?_ _ _ _

def smbLastfPageWrite_foot : Nat := 0x1c0000000000000000000000000000000000000000000000000000000000000000000000000000000000000000000000000000000000000000000000000000000000000000000000000000000000000000000200000080
theorem smbLastfPageWrite_frame (hm : Sub smbLastfPageWrite_foot m) (h : Frame m s0 s) :
    ∀ a0 a1 a2, Frame m s0 (smbLastfPageWrite a0 a1 a2 s) := by
  intro a0 a1 a2
  have s_State_smbWrite : Sub State.smbWrite_foot m := hm.of (by decide)
  have c_smb : m.testBit 33 = true := hm.bit 33 (by decide)
  unfold smbLastfPageWrite
  repeat' first
    | with_reducible assumption
    | (extract_lets -underBinder +onlyGivenNames x; have u : True := (by clear_value x; guard_hyp x :ₛ State; trivial); clear u; refine Frame.cut (m := m) (s0 := s0) (t := x) ?_ ?_; (on_goal 1 => subst x); (on_goal 2 => (intro hx; clear_value x)))
    | (extract_lets -underBinder +onlyGivenNames n; first | clear_value n | subst n)
    | with_reducible refine Frame.ite ?_ ?_
    | with_reducible refine State.smbWrite_frame s_State_smbWrite (fun s hs => ?_) ?_ _ _ _ _
    | with_reducible exact Frame.set_smb c_smb (by with_reducible assumption)

def smbLastf_foot : Nat := 0x1c0000000000000000000000000000000000000000000000000000000000000000000000000000000000000000000000000000000000000000000000000000000000000000000000000000000000000000000200000080
theorem smbLastf_frame (hm : Sub smbLastf_foot m) (h : Frame m s0 s) :
    ∀ a0, Frame m s0 (smbLastf a0 s) := by
  intro a0
  have s_State_smbTx : Sub State.smbTx_foot m := hm.of (by decide)
  have s_State_smbAnswer : Sub State.smbAnswer_foot m := hm.of (by decide)
  unfold smbLastf
  repeat' first
    | with_reducible assumption
    | with_reducible refine Frame.ite ?_ ?_
    | with_reducible refine State.smbTx_frame s_State_smbTx (fun s hs => ?_) ?_ _ _
    | with_reducible refine State.smbAnswer_frame s_State_smbAnswer ?_ _ _ _

def smbEvtSel_foot : Nat := 0x1c0000000000000000000000000000000000000000000000000000000000000000000000000000000000000000000000000000000000000000000000000000000000000000000000000000000000000000000200000080
theorem smbEvtSel_frame (hm : Sub smbEvtSel_foot m) (h : Frame m s0 s) :
    ∀ a0 a1 a2 a3, Frame m s0 (smbEvtSel a0 a1 a2 a3 s) := by
  intro a0 a1 a2 a3
  have s_State_smbViol : Sub State.smbViol_foot m := hm.of (by decide)
  have s_State_smbWrite : Sub State.smbWrite_foot m := hm.of (by decide)
  have c_smb : m.testBit 33 = true := hm.bit 33 (by decide)
  unfold smbEvtSel
  repeat' first
    | with_reducible assumption
    | (extract_lets -underBinder +onlyGivenNames x; have u : True := (by clear_value x; guard_hyp x :ₛ State; trivial); clear u; refine Frame.cut (m := m) (s0 := s0) (t := x) ?_ ?_; (on_goal 1 => subst x); (on_goal 2 => (intro hx; clear_value x)))
    | (extract_lets -underBinder +onlyGivenNames n; first | clear_value n | subst n)
    | with_reducible refine Frame.ite ?_ ?_
    | with_reducible refine State.smbViol_frame s_State_smbViol ?_ _ _
    | with_reducible refine State.smbWrite_frame s_State_smbWrite (fun s hs => ?_) ?_ _ _ _ _
    | with_reducible exact Frame.set_smb c_smb (by with_reducible assumption)
    | split

def smbEvtData_foot : Nat := 0x1c0000000000000000000000000000000000000000000000000000000000000000000000000000000000000000000000000000000000000000000000000000000000000000000000000000000000000000000200000080
theorem smbEvtData_frame (hm : Sub smbEvtData_foot m) (h : Frame m s0 s) :
    ∀ a0 a1, Frame m s0 (smbEvtData a0 a1 s) := by
  intro a0 a1
  have s_State_smbTx : Sub State.smbTx_foot m := hm.of (by decide)
  have s_State_smbAnswer : Sub State.smbAnswer_foot m := hm.of (by decide)
  have c_smb : m.testBit 33 = true := hm.bit 33 (by decide)
  unfold smbEvtData
  repeat' first
    | with_reducible assumption
    | (extract_lets -underBinder +onlyGivenNames x; have u : True := (by clear_value x; guard_hyp x :ₛ State; trivial); clear u; refine Frame.cut (m := m) (s0 := s0) (t := x) ?_ ?_; (on_goal 1 => subst x); (on_goal 2 => (intro hx; clear_value x)))
    | (extract_lets -underBinder +onlyGivenNames n; first | clear_value n | subst n)
    | with_reducible refine Frame.ite ?_ ?_
    | with_reducible refine State.smbTx_frame s_State_smbTx (fun s hs => ?_) ?_ _ _
    | with_reducible refine State.smbAnswer_frame s_State_smbAnswer ?_ _ _ _
    | with_reducible exact Frame.set_smb c_smb (by with_reducible assumption)
    | split

def smbTime_foot : Nat := 0x1c0000000000000000000000000000000000000000000000000000000000000000000000000000000000000000000000000000000000000000000000000000000000000000000000000000000000000000000200000080
theorem smbTime_frame (hm : Sub smbTime_foot m) (h : Frame m s0 s) :
    ∀ a0, Frame m s0 (smbTime a0 s) := by
  intro a0
  have s_State_smbTx : Sub State.smbTx_foot m := hm.of (by decide)
  have s_State_smbAnswer : Sub State.smbAnswer_foot m := hm.of (by decide)
  unfold smbTime
  repeat' first
    | with_reducible assumption
    | (extract_lets -underBinder +onlyGivenNames x; have u : True := (by clear_value x; guard_hyp x :ₛ State; trivial); clear u; refine Frame.cut (m := m) (s0 := s0) (t := x) ?_ ?_; (on_goal 1 => subst x); (on_goal 2 => (intro hx; clear_value x)))
    | (extract_lets -underBinder +onlyGivenNames n; first | clear_value n | subst n)
    | with_reducible refine Frame.ite ?_ ?_
    | with_reducible refine State.smbTx_frame s_State_smbTx (fun s hs => ?_) ?_ _ _
    | with_reducible refine State.smbAnswer_frame s_State_smbAnswer ?_ _ _ _

def smbBusTimeout_foot : Nat := 0x1c0000000000000000000000000000000000000000000000000000000000000000000000000000000000000000000000000000000000000000000000000000000000000000000000000000000000000000000200000000
theorem smbBusTimeout_frame (hm : Sub smbBusTimeout_foot m) (h : Frame m s0 s) :
    Frame m s0 (smbBusTimeout s) := by
  have s_State_smbViol : Sub State.smbViol_foot m := hm.of (by decide)
  unfold smbBusTimeout
  repeat' first
    | with_reducible assumption
    | with_reducible refine Frame.ite ?_ ?_
    | with_reducible refine State.smbViol_frame s_State_smbViol ?_ _ _
    | split

def smbUndefinedCommand_foot : Nat := 0x1c0000000000000000000000000000000000000000000000000000000000000000000000000000000000000000000000000000000000000000000000000000000000000000000000000000000000000000000200000080
theorem smbUndefinedCommand_frame (hm : Sub smbUndefinedCommand_foot m) (h : Frame m s0 s) :
    ∀ a0, Frame m s0 (smbUndefinedCommand a0 s) := by
  intro a0
  have s_State_smbViol : Sub State.smbViol_foot m := hm.of (by decide)
  have s_State_send : Sub State.send_foot m := hm.of (by decide)
  unfold smbUndefinedCommand
  repeat' first
    | with_reducible assumption
    | with_reducible refine Frame.ite ?_ ?_
    | with_reducible refine State.smbViol_frame s_State_smbViol ?_ _ _
    | with_reducible refine State.send_frame s_State_send ?_ _
    | split

def execSmbIdent_foot : Nat := 0x1c0000000000000000000000000000000000000000000000000000000000000000000000000000000000000000000000000000000000000000000000000000000000000000000000000000000000000000000200000080
theorem execSmbIdent_frame (hm : Sub execSmbIdent_foot m) (h : Frame m s0 s) :
    ∀ a0, ∃ t, execSmbIdent a0 s = .next t ∧ Frame m s0 t := by
  intro a0
  have s_smbIdent : Sub smbIdent_foot m := hm.of (by decide)
  unfold execSmbIdent
  refine ⟨_, rfl, ?_⟩
  repeat' first
    | with_reducible assumption
    | with_reducible refine Frame.ite ?_ ?_
    | with_reducible refine smbIdent_frame s_smbIdent ?_ _

def execSmbStatus_foot : Nat := 0x1c0000000000000000000000000000000000000000000000000000000000000000000000000000000000000000000000000000000000000000000000000000000000000000000000000000000000000000000200000080
theorem execSmbStatus_frame (hm : Sub execSmbStatus_foot m) (h : Frame m s0 s) :
    ∀ a0, ∃ t, execSmbStatus a0 s = .next t ∧ Frame m s0 t := by
  intro a0
  have s_smbStatus : Sub smbStatus_foot m := hm.of (by decide)
  unfold execSmbStatus
  refine ⟨_, rfl, ?_⟩
  repeat' first
    | with_reducible assumption
    | with_reducible refine Frame.ite ?_ ?_
    | with_reducible refine smbStatus_frame s_smbStatus ?_ _

def execSmbTempHot_foot : Nat := 0x1c0000000000000000000000000000000000000000000000000000000000000000000000000000000000000000000000000000000000000000000000000000000000000000000000000000000000000000000200000080
theorem execSmbTempHot_frame (hm : Sub execSmbTempHot_foot m) (h : Frame m s0 s) :
    ∀ a0, ∃ t, execSmbTempHot a0 s = .next t ∧ Frame m s0 t := by
  intro a0
  have s_smbTempHot : Sub smbTempHot_foot m := hm.of (by decide)
  unfold execSmbTempHot
  refine ⟨_, rfl, ?_⟩
  repeat' first
    | with_reducible assumption
    | with_reducible refine Frame.ite ?_ ?_
    | with_reducible refine smbTempHot_frame s_smbTempHot ?_ _

def execSmbAnchorLo_foot : Nat := 0x1c0000000000000000000000000000000000000000000000000000000000000000000000000000000000000000000000000000000000000000000000000000000000000000000000000000000000000000000200000080
theorem execSmbAnchorLo_frame (hm : Sub execSmbAnchorLo_foot m) (h : Frame m s0 s) :
    ∀ a0, ∃ t, execSmbAnchorLo a0 s = .next t ∧ Frame m s0 t := by
  intro a0
  have s_smbAnchorLo : Sub smbAnchorLo_foot m := hm.of (by decide)
  unfold execSmbAnchorLo
  refine ⟨_, rfl, ?_⟩
  repeat' first
    | with_reducible assumption
    | with_reducible refine Frame.ite ?_ ?_
    | with_reducible refine smbAnchorLo_frame s_smbAnchorLo ?_ _

def execSmbAnchorHi_foot : Nat := 0x1c0000000000000000000000000000000000000000000000000000000000000000000000000000000000000000000000000000000000000000000000000000000000000000000000000000000000000000000200000080
theorem execSmbAnchorHi_frame (hm : Sub execSmbAnchorHi_foot m) (h : Frame m s0 s) :
    ∀ a0, ∃ t, execSmbAnchorHi a0 s = .next t ∧ Frame m s0 t := by
  intro a0
  have s_smbAnchorHi : Sub smbAnchorHi_foot m := hm.of (by decide)
  unfold execSmbAnchorHi
  refine ⟨_, rfl, ?_⟩
  repeat' first
    | with_reducible assumption
    | with_reducible refine Frame.ite ?_ ?_
    | with_reducible refine smbAnchorHi_frame s_smbAnchorHi ?_ _

def execSmbTinRead_foot : Nat := 0x1c0000000000000000000000000000000000000000000000000000000000000000000000000000000000000000000000000000000000000000000000000000000000000000000000000000000000000000000200000080
theorem execSmbTinRead_frame (hm : Sub execSmbTinRead_foot m) (h : Frame m s0 s) :
    ∀ a0, ∃ t, execSmbTinRead a0 s = .next t ∧ Frame m s0 t := by
  intro a0
  have s_smbTinRead : Sub smbTinRead_foot m := hm.of (by decide)
  unfold execSmbTinRead
  refine ⟨_, rfl, ?_⟩
  repeat' first
    | with_reducible assumption
    | with_reducible refine Frame.ite ?_ ?_
    | with_reducible refine smbTinRead_frame s_smbTinRead ?_ _

def execSmbTinWrite_foot : Nat := 0x1c0000000000000000000000000000000000000000000000000000000000000000000000000000000000c00000000000000000000000000000000000000000000000000000000000000000000000000000000200000080
theorem execSmbTinWrite_frame (hm : Sub execSmbTinWrite_foot m) (h : Frame m s0 s) :
    ∀ a0 a1 a2, ∃ t, execSmbTinWrite a0 a1 a2 s = .next t ∧ Frame m s0 t := by
  intro a0 a1 a2
  have s_smbTinWrite : Sub smbTinWrite_foot m := hm.of (by decide)
  unfold execSmbTinWrite
  refine ⟨_, rfl, ?_⟩
  repeat' first
    | with_reducible assumption
    | with_reducible refine Frame.ite ?_ ?_
    | with_reducible refine smbTinWrite_frame s_smbTinWrite ?_ _ _ _

def execSmbPower_foot : Nat := 0x1c0000000000000000000000000000000000000000000000000000000000000000000000000000000000000000000000000000000000000000000000000000000000000000000000000000000000000000000200000080
theorem execSmbPower_frame (hm : Sub execSmbPower_foot m) (h : Frame m s0 s) :
    ∀ a0, ∃ t, execSmbPower a0 s = .next t ∧ Frame m s0 t := by
  intro a0
  have s_smbPower : Sub smbPower_foot m := hm.of (by decide)
  unfold execSmbPower
  refine ⟨_, rfl, ?_⟩
  repeat' first
    | with_reducible assumption
    | with_reducible refine Frame.ite ?_ ?_
    | with_reducible refine smbPower_frame s_smbPower ?_ _

def execSmbLastfPageRead_foot : Nat := 0x1c0000000000000000000000000000000000000000000000000000000000000000000000000000000000000000000000000000000000000000000000000000000000000000000000000000000000000000000200000080
theorem execSmbLastfPageRead_frame (hm : Sub execSmbLastfPageRead_foot m) (h : Frame m s0 s) :
    ∀ a0, ∃ t, execSmbLastfPageRead a0 s = .next t ∧ Frame m s0 t := by
  intro a0
  have s_smbLastfPageRead : Sub smbLastfPageRead_foot m := hm.of (by decide)
  unfold execSmbLastfPageRead
  refine ⟨_, rfl, ?_⟩
  repeat' first
    | with_reducible assumption
    | with_reducible refine Frame.ite ?_ ?_
    | with_reducible refine smbLastfPageRead_frame s_smbLastfPageRead ?_ _

def execSmbLastfPageWrite_foot : Nat := 0x1c0000000000000000000000000000000000000000000000000000000000000000000000000000000000000000000000000000000000000000000000000000000000000000000000000000000000000000000200000080
theorem execSmbLastfPageWrite_frame (hm : Sub execSmbLastfPageWrite_foot m) (h : Frame m s0 s) :
    ∀ a0 a1 a2, ∃ t, execSmbLastfPageWrite a0 a1 a2 s = .next t ∧ Frame m s0 t := by
  intro a0 a1 a2
  have s_smbLastfPageWrite : Sub smbLastfPageWrite_foot m := hm.of (by decide)
  unfold execSmbLastfPageWrite
  refine ⟨_, rfl, ?_⟩
  repeat' first
    | with_reducible assumption
    | with_reducible refine Frame.ite ?_ ?_
    | with_reducible refine smbLastfPageWrite_frame s_smbLastfPageWrite ?_ _ _ _

def execSmbLastf_foot : Nat := 0x1c0000000000000000000000000000000000000000000000000000000000000000000000000000000000000000000000000000000000000000000000000000000000000000000000000000000000000000000200000080
theorem execSmbLastf_frame (hm : Sub execSmbLastf_foot m) (h : Frame m s0 s) :
    ∀ a0, ∃ t, execSmbLastf a0 s = .next t ∧ Frame m s0 t := by
  intro a0
  have s_smbLastf : Sub smbLastf_foot m := hm.of (by decide)
  unfold execSmbLastf
  refine ⟨_, rfl, ?_⟩
  repeat' first
    | with_reducible assumption
    | with_reducible refine Frame.ite ?_ ?_
    | with_reducible refine smbLastf_frame s_smbLastf ?_ _

def execSmbEvtSel_foot : Nat := 0x1c0000000000000000000000000000000000000000000000000000000000000000000000000000000000000000000000000000000000000000000000000000000000000000000000000000000000000000000200000080
theorem execSmbEvtSel_frame (hm : Sub execSmbEvtSel_foot m) (h : Frame m s0 s) :
    ∀ a0 a1 a2 a3, ∃ t, execSmbEvtSel a0 a1 a2 a3 s = .next t ∧ Frame m s0 t := by
  intro a0 a1 a2 a3
  have s_smbEvtSel : Sub smbEvtSel_foot m := hm.of (by decide)
  unfold execSmbEvtSel
  refine ⟨_, rfl, ?_⟩
  repeat' first
    | with_reducible assumption
    | with_reducible refine Frame.ite ?_ ?_
    | with_reducible refine smbEvtSel_frame s_smbEvtSel ?_ _ _ _ _

def execSmbEvtData_foot : Nat := 0x1c0000000000000000000000000000000000000000000000000000000000000000000000000000000000000000000000000000000000000000000000000000000000000000000000000000000000000000000200000080
theorem execSmbEvtData_frame (hm : Sub execSmbEvtData_foot m) (h : Frame m s0 s) :
    ∀ a0 a1, ∃ t, execSmbEvtData a0 a1 s = .next t ∧ Frame m s0 t := by
  intro a0 a1
  have s_smbEvtData : Sub smbEvtData_foot m := hm.of (by decide)
  unfold execSmbEvtData
  refine ⟨_, rfl, ?_⟩
  repeat' first
    | with_reducible assumption
    | with_reducible refine Frame.ite ?_ ?_
    | with_reducible refine smbEvtData_frame s_smbEvtData ?_ _ _

def execSmbTime_foot : Nat := 0x1c0000000000000000000000000000000000000000000000000000000000000000000000000000000000000000000000000000000000000000000000000000000000000000000000000000000000000000000200000080
theorem execSmbTime_frame (hm : Sub execSmbTime_foot m) (h : Frame m s0 s) :
    ∀ a0, ∃ t, execSmbTime a0 s = .next t ∧ Frame m s0 t := by
  intro a0
  have s_smbTime : Sub smbTime_foot m := hm.of (by decide)
  unfold execSmbTime
  refine ⟨_, rfl, ?_⟩
  repeat' first
    | with_reducible assumption
    | with_reducible refine Frame.ite ?_ ?_
    | with_reducible refine smbTime_frame s_smbTime ?_ _

def execSmbBusTimeout_foot : Nat := 0x1c0000000000000000000000000000000000000000000000000000000000000000000000000000000000000000000000000000000000000000000000000000000000000000000000000000000000000000000200000000
theorem execSmbBusTimeout_frame (hm : Sub execSmbBusTimeout_foot m) (h : Frame m s0 s) :
    ∃ t, execSmbBusTimeout s = .next t ∧ Frame m s0 t := by
  have s_smbBusTimeout : Sub smbBusTimeout_foot m := hm.of (by decide)
  unfold execSmbBusTimeout
  refine ⟨_, rfl, ?_⟩
  repeat' first
    | with_reducible assumption
    | with_reducible refine Frame.ite ?_ ?_
    | with_reducible refine smbBusTimeout_frame s_smbBusTimeout ?_

def execSmbUndefinedCommand_foot : Nat := 0x1c0000000000000000000000000000000000000000000000000000000000000000000000000000000000000000000000000000000000000000000000000000000000000000000000000000000000000000000200000080
theorem execSmbUndefinedCommand_frame (hm : Sub execSmbUndefinedCommand_foot m) (h : Frame m s0 s) :
    ∀ a0, ∃ t, execSmbUndefinedCommand a0 s = .next t ∧ Frame m s0 t := by
  intro a0
  have s_smbUndefinedCommand : Sub smbUndefinedCommand_foot m := hm.of (by decide)
  unfold execSmbUndefinedCommand
  refine ⟨_, rfl, ?_⟩
  repeat' first
    | with_reducible assumption
    | with_reducible refine Frame.ite ?_ ?_
    | with_reducible refine smbUndefinedCommand_frame s_smbUndefinedCommand ?_ _

end Sys2Proof.Machine
end

