-- ==== Sys2Proof/Laws/FrameMemory.lean ====
section
/-!
SUPPORT. Laws/FrameMemory.lean: the footprint of every function of Machine/Memory.lean, and that it writes nothing outside it.
-/
namespace Sys2Proof.Machine

set_option linter.all false

variable {m : Nat} {s0 s : State}

def State.setHub_foot : Nat := 0x1000000000
theorem State.setHub_frame (hm : Sub State.setHub_foot m) (h : Frame m s0 s) :
    ∀ a1, Frame m s0 (State.setHub s a1) := by
  intro a1
  have c_hub : m.testBit 36 = true := hm.bit 36 (by decide)
  unfold State.setHub
  repeat' first
    | with_reducible assumption
    | (extract_lets -underBinder +onlyGivenNames x; have u : True := (by clear_value x; guard_hyp x :ₛ State; trivial); clear u; refine Frame.cut (m := m) (s0 := s0) (t := x) ?_ ?_; (on_goal 1 => subst x); (on_goal 2 => (intro hx; clear_value x)))
    | (extract_lets -underBinder +onlyGivenNames n; first | clear_value n | subst n)
    | with_reducible refine Frame.ite ?_ ?_
    | with_reducible exact Frame.set_hub c_hub (by with_reducible assumption)

def State.eccWord_foot : Nat := 0x10000000000000000000000000000000000000000000000000000000000000000000000000000000000000000000000000000300000000000000000000001000000100
theorem State.eccWord_frame (hm : Sub State.eccWord_foot m) (h : Frame m s0 s) :
    ∀ a1 a2 a3, Frame m s0 (State.eccWord s a1 a2 a3) := by
  intro a1 a2 a3
  have s_State_emitLim : Sub State.emitLim_foot m := hm.of (by decide)
  have s_State_setHub : Sub State.setHub_foot m := hm.of (by decide)
  have k_MEM_ECC_double : Has m MEM_ECC_double := hm.has 3 9 rfl (by decide)
  have k_MEM_ECC_single : Has m MEM_ECC_single := hm.has 3 8 rfl (by decide)
  unfold State.eccWord
  repeat' first
    | with_reducible assumption
    | (extract_lets -underBinder +onlyGivenNames x; have u : True := (by clear_value x; guard_hyp x :ₛ State; trivial); clear u; refine Frame.cut (m := m) (s0 := s0) (t := x) ?_ ?_; (on_goal 1 => subst x); (on_goal 2 => (intro hx; clear_value x)))
    | (extract_lets -underBinder +onlyGivenNames n; first | clear_value n | subst n)
    | with_reducible refine Frame.ite ?_ ?_
    | with_reducible refine bump_frame (by with_reducible assumption) ?_ _
    | with_reducible refine State.emitLim_frame s_State_emitLim ?_ _ _ _ _ _
    | with_reducible refine State.setHub_frame s_State_setHub ?_ _
    | split

def State.eccRead_foot : Nat := 0x10000000000000000000000000000000000000000000000000000000000000000000000000000000000000000000000000000300000000000000000000001000000100
theorem State.eccRead_frame (hm : Sub State.eccRead_foot m) (h : Frame m s0 s) :
    ∀ a1 a2 a3, Frame m s0 (State.eccRead s a1 a2 a3) := by
  intro a1 a2 a3
  have s_State_eccWord : Sub State.eccWord_foot m := hm.of (by decide)
  unfold State.eccRead
  repeat' first
    | with_reducible assumption
    | with_reducible refine Frame.ite ?_ ?_
    | with_reducible refine State.eccWord_frame s_State_eccWord ?_ _ _ _
    | with_reducible refine Frame.foldl ?_ (fun s x hs => ?_)

def State.noteWrote_foot : Nat := 0x1000000000
theorem State.noteWrote_frame (hm : Sub State.noteWrote_foot m) (h : Frame m s0 s) :
    ∀ a1 a2 a3, Frame m s0 (State.noteWrote s a1 a2 a3) := by
  intro a1 a2 a3
  have s_State_setHub : Sub State.setHub_foot m := hm.of (by decide)
  unfold State.noteWrote
  repeat' first
    | with_reducible assumption
    | (extract_lets -underBinder +onlyGivenNames x; have u : True := (by clear_value x; guard_hyp x :ₛ State; trivial); clear u; refine Frame.cut (m := m) (s0 := s0) (t := x) ?_ ?_; (on_goal 1 => subst x); (on_goal 2 => (intro hx; clear_value x)))
    | (extract_lets -underBinder +onlyGivenNames n; first | clear_value n | subst n)
    | with_reducible refine Frame.ite ?_ ?_
    | with_reducible refine State.setHub_frame s_State_setHub ?_ _
    | with_reducible refine Frame.foldl ?_ (fun s x hs => ?_)
    | split

def State.bankPut_foot : Nat := 0x1050000020
theorem State.bankPut_frame (hm : Sub State.bankPut_foot m) (h : Frame m s0 s) :
    ∀ a1 a2 a3, Frame m s0 (State.bankPut s a1 a2 a3) := by
  intro a1 a2 a3
  have s_State_writeBank : Sub State.writeBank_foot m := hm.of (by decide)
  have s_State_putThmWord : Sub State.putThmWord_foot m := hm.of (by decide)
  have s_State_noteWrote : Sub State.noteWrote_foot m := hm.of (by decide)
  unfold State.bankPut
  repeat' first
    | with_reducible assumption
    | with_reducible refine Frame.ite ?_ ?_
    | with_reducible refine State.writeBank_frame s_State_writeBank ?_ _ _ _
    | with_reducible refine State.putThmWord_frame s_State_putThmWord ?_ _ _ _
    | with_reducible refine State.noteWrote_frame s_State_noteWrote ?_ _ _ _
    | with_reducible refine Frame.foldTo ?_ (fun s x hs => ?_)
    | split

def State.serveAcc_foot : Nat := 0x100000000000000000000000000000000000000000000000000000000000000000000000000000000000000000000000000003000000000000000000000010500001a0
theorem State.serveAcc_frame (hm : Sub State.serveAcc_foot m) (h : Frame m s0 s) :
    ∀ a1, Frame m s0 (State.serveAcc s a1) := by
  intro a1
  have s_State_eccRead : Sub State.eccRead_foot m := hm.of (by decide)
  have s_State_setHub : Sub State.setHub_foot m := hm.of (by decide)
  have s_State_bankPut : Sub State.bankPut_foot m := hm.of (by decide)
  have s_State_send : Sub State.send_foot m := hm.of (by decide)
  unfold State.serveAcc
  repeat' first
    | with_reducible assumption
    | (extract_lets -underBinder +onlyGivenNames x; have u : True := (by clear_value x; guard_hyp x :ₛ State; trivial); clear u; refine Frame.cut (m := m) (s0 := s0) (t := x) ?_ ?_; (on_goal 1 => subst x); (on_goal 2 => (intro hx; clear_value x)))
    | (extract_lets -underBinder +onlyGivenNames n; first | clear_value n | subst n)
    | with_reducible refine Frame.ite ?_ ?_
    | with_reducible refine State.eccRead_frame s_State_eccRead ?_ _ _ _
    | with_reducible refine State.setHub_frame s_State_setHub ?_ _
    | with_reducible refine State.bankPut_frame s_State_bankPut ?_ _ _ _
    | with_reducible refine State.send_frame s_State_send ?_ _
    | split

def State.lcxStall_foot : Nat := 0x80000
theorem State.lcxStall_frame (hm : Sub State.lcxStall_foot m) (h : Frame m s0 s) :
    ∀ a1, Frame m s0 (State.lcxStall s a1) := by
  intro a1
  have c_lpe : m.testBit 19 = true := hm.bit 19 (by decide)
  unfold State.lcxStall
  repeat' first
    | with_reducible assumption
    | (extract_lets -underBinder +onlyGivenNames x; have u : True := (by clear_value x; guard_hyp x :ₛ State; trivial); clear u; refine Frame.cut (m := m) (s0 := s0) (t := x) ?_ ?_; (on_goal 1 => subst x); (on_goal 2 => (intro hx; clear_value x)))
    | (extract_lets -underBinder +onlyGivenNames n; first | clear_value n | subst n)
    | with_reducible refine Frame.ite ?_ ?_
    | with_reducible exact Frame.set_lpe c_lpe (by with_reducible assumption)

def State.gateAdmit_foot : Nat := 0x1000000000
theorem State.gateAdmit_frame (hm : Sub State.gateAdmit_foot m) (h : Frame m s0 s) :
    ∀ a1, Frame m s0 (State.gateAdmit s a1) := by
  intro a1
  have s_State_setHub : Sub State.setHub_foot m := hm.of (by decide)
  unfold State.gateAdmit
  repeat' first
    | with_reducible assumption
    | (extract_lets -underBinder +onlyGivenNames x; have u : True := (by clear_value x; guard_hyp x :ₛ State; trivial); clear u; refine Frame.cut (m := m) (s0 := s0) (t := x) ?_ ?_; (on_goal 1 => subst x); (on_goal 2 => (intro hx; clear_value x)))
    | (extract_lets -underBinder +onlyGivenNames n; first | clear_value n | subst n)
    | with_reducible refine Frame.ite ?_ ?_
    | with_reducible refine State.setHub_frame s_State_setHub ?_ _
    | split

def State.bankCycle_foot : Nat := 0x100000000000000000000000000000000000000000000000000000000000000000000000000000000000000000000000000003000000000000000000000010500801a0
theorem State.bankCycle_frame (hm : Sub State.bankCycle_foot m) (h : Frame m s0 s) :
    ∀ a1, Frame m s0 (State.bankCycle s a1) := by
  intro a1
  have s_State_serveAcc : Sub State.serveAcc_foot m := hm.of (by decide)
  have s_State_lcxStall : Sub State.lcxStall_foot m := hm.of (by decide)
  have s_State_setHub : Sub State.setHub_foot m := hm.of (by decide)
  have s_State_gateAdmit : Sub State.gateAdmit_foot m := hm.of (by decide)
  unfold State.bankCycle
  repeat' first
    | with_reducible assumption
    | (extract_lets -underBinder +onlyGivenNames x; have u : True := (by clear_value x; guard_hyp x :ₛ State; trivial); clear u; refine Frame.cut (m := m) (s0 := s0) (t := x) ?_ ?_; (on_goal 1 => subst x); (on_goal 2 => (intro hx; clear_value x)))
    | (extract_lets -underBinder +onlyGivenNames n; first | clear_value n | subst n)
    | with_reducible refine Frame.ite ?_ ?_
    | with_reducible refine State.serveAcc_frame s_State_serveAcc ?_ _
    | with_reducible refine State.lcxStall_frame s_State_lcxStall ?_ _
    | with_reducible refine State.setHub_frame s_State_setHub ?_ _
    | with_reducible refine State.gateAdmit_frame s_State_gateAdmit ?_ _
    | with_reducible refine Frame.foldl ?_ (fun s x hs => ?_)
    | split

def State.bankCycles_foot : Nat := 0x100000000000000000000000000000000000000000000000000000000000000000000000000000000000000000000000000003000000000000000000000010500801a0
theorem State.bankCycles_frame (hm : Sub State.bankCycles_foot m) (h : Frame m s0 s) :
    Frame m s0 (State.bankCycles s) := by
  have s_State_bankCycle : Sub State.bankCycle_foot m := hm.of (by decide)
  unfold State.bankCycles
  repeat' first
    | with_reducible assumption
    | (extract_lets -underBinder +onlyGivenNames x; have u : True := (by clear_value x; guard_hyp x :ₛ State; trivial); clear u; refine Frame.cut (m := m) (s0 := s0) (t := x) ?_ ?_; (on_goal 1 => subst x); (on_goal 2 => (intro hx; clear_value x)))
    | (extract_lets -underBinder +onlyGivenNames n; first | clear_value n | subst n)
    | with_reducible refine Frame.ite ?_ ?_
    | with_reducible refine State.bankCycle_frame s_State_bankCycle ?_ _
    | with_reducible refine Frame.foldTo ?_ (fun s x hs => ?_)
    | split

def State.dropAccs_foot : Nat := 0x1000000000
theorem State.dropAccs_frame (hm : Sub State.dropAccs_foot m) (h : Frame m s0 s) :
    ∀ a1, Frame m s0 (State.dropAccs s a1) := by
  intro a1
  have s_State_setHub : Sub State.setHub_foot m := hm.of (by decide)
  unfold State.dropAccs
  repeat' first
    | with_reducible assumption
    | (extract_lets -underBinder +onlyGivenNames x; have u : True := (by clear_value x; guard_hyp x :ₛ State; trivial); clear u; refine Frame.cut (m := m) (s0 := s0) (t := x) ?_ ?_; (on_goal 1 => subst x); (on_goal 2 => (intro hx; clear_value x)))
    | (extract_lets -underBinder +onlyGivenNames n; first | clear_value n | subst n)
    | with_reducible refine Frame.ite ?_ ?_
    | with_reducible refine State.setHub_frame s_State_setHub ?_ _

def State.rgnViol_foot : Nat := 0x10000000000000000000000000000000000000000000000000000000000000000000000000000000000000000000000000007c00000000000000000000000000000100
theorem State.rgnViol_frame (hm : Sub State.rgnViol_foot m) (h : Frame m s0 s) :
    ∀ a1 a2 a3 a4, Frame m s0 (State.rgnViol s a1 a2 a3 a4) := by
  intro a1 a2 a3 a4
  have s_State_emitLim : Sub State.emitLim_foot m := hm.of (by decide)
  have k_MEM_VIOL_bank : Has m MEM_VIOL_bank := hm.has 3 11 rfl (by decide)
  have k_MEM_VIOL_master : Has m MEM_VIOL_master := hm.has 3 10 rfl (by decide)
  have k_MEM_VIOL_region : Has m MEM_VIOL_region := hm.has 3 12 rfl (by decide)
  have k_MEM_VIOL_valid : Has m MEM_VIOL_valid := hm.has 3 14 rfl (by decide)
  have k_MEM_VIOL_write : Has m MEM_VIOL_write := hm.has 3 13 rfl (by decide)
  unfold State.rgnViol
  repeat' first
    | with_reducible assumption
    | (extract_lets -underBinder +onlyGivenNames x; have u : True := (by clear_value x; guard_hyp x :ₛ State; trivial); clear u; refine Frame.cut (m := m) (s0 := s0) (t := x) ?_ ?_; (on_goal 1 => subst x); (on_goal 2 => (intro hx; clear_value x)))
    | (extract_lets -underBinder +onlyGivenNames n; first | clear_value n | subst n)
    | with_reducible refine Frame.ite ?_ ?_
    | with_reducible refine wr_frame (by with_reducible assumption) ?_ _ _
    | with_reducible refine State.emitLim_frame s_State_emitLim ?_ _ _ _ _ _

def State.presentAcc_foot : Nat := 0x10000000000000000000000000000000000000000000000000000000000000000000000000000000000000000000000000007c00000000000000000000001000000180
theorem State.presentAcc_frame (hm : Sub State.presentAcc_foot m) (h : Frame m s0 s) :
    ∀ a1, Frame m s0 (State.presentAcc s a1) := by
  intro a1
  have s_State_setHub : Sub State.setHub_foot m := hm.of (by decide)
  have s_State_rgnViol : Sub State.rgnViol_foot m := hm.of (by decide)
  have s_State_send : Sub State.send_foot m := hm.of (by decide)
  unfold State.presentAcc
  repeat' first
    | with_reducible assumption
    | (extract_lets -underBinder +onlyGivenNames x; have u : True := (by clear_value x; guard_hyp x :ₛ State; trivial); clear u; refine Frame.cut (m := m) (s0 := s0) (t := x) ?_ ?_; (on_goal 1 => subst x); (on_goal 2 => (intro hx; clear_value x)))
    | (extract_lets -underBinder +onlyGivenNames n; first | clear_value n | subst n)
    | with_reducible refine Frame.ite ?_ ?_
    | with_reducible refine State.setHub_frame s_State_setHub ?_ _
    | with_reducible refine State.rgnViol_frame s_State_rgnViol ?_ _ _ _ _
    | with_reducible refine State.send_frame s_State_send ?_ _
    | split

def firmwareMemoryAccess_foot : Nat := 0x10000000000000000000000000000000000000000000000000000000000000000000000000000000000000000000000000007c00000000000000000000001000000180
theorem firmwareMemoryAccess_frame (hm : Sub firmwareMemoryAccess_foot m) (h : Frame m s0 s) :
    ∀ a0 a1 a2 a3 a4 a5, Frame m s0 (firmwareMemoryAccess a0 a1 a2 a3 a4 a5 s) := by
  intro a0 a1 a2 a3 a4 a5
  have s_State_presentAcc : Sub State.presentAcc_foot m := hm.of (by decide)
  unfold firmwareMemoryAccess
  repeat' first
    | with_reducible assumption
    | (extract_lets -underBinder +onlyGivenNames x; have u : True := (by clear_value x; guard_hyp x :ₛ State; trivial); clear u; refine Frame.cut (m := m) (s0 := s0) (t := x) ?_ ?_; (on_goal 1 => subst x); (on_goal 2 => (intro hx; clear_value x)))
    | (extract_lets -underBinder +onlyGivenNames n; first | clear_value n | subst n)
    | with_reducible refine Frame.ite ?_ ?_
    | with_reducible refine State.presentAcc_frame s_State_presentAcc ?_ _
    | split

def memBuRead_foot : Nat := 0x1000000000000000000000000000000000000000000000000000000000000000000000000000000000000000000000000003fc00000000000000000000001000000180
theorem memBuRead_frame (hm : Sub memBuRead_foot m) (h : Frame m s0 s) :
    ∀ a0 a1, Frame m s0 (memBuRead a0 a1 s) := by
  intro a0 a1
  have s_State_presentAcc : Sub State.presentAcc_foot m := hm.of (by decide)
  have s_State_setHub : Sub State.setHub_foot m := hm.of (by decide)
  have s_State_dropAccs : Sub State.dropAccs_foot m := hm.of (by decide)
  have k_MEM_BU_ADDR_bank : Has m MEM_BU_ADDR_bank := hm.has 3 15 rfl (by decide)
  have k_MEM_BU_ADDR_done : Has m MEM_BU_ADDR_done := hm.has 3 17 rfl (by decide)
  have k_MEM_BU_ADDR_line : Has m MEM_BU_ADDR_line := hm.has 3 16 rfl (by decide)
  unfold memBuRead
  repeat' first
    | with_reducible assumption
    | (extract_lets -underBinder +onlyGivenNames x; have u : True := (by clear_value x; guard_hyp x :ₛ State; trivial); clear u; refine Frame.cut (m := m) (s0 := s0) (t := x) ?_ ?_; (on_goal 1 => subst x); (on_goal 2 => (intro hx; clear_value x)))
    | (extract_lets -underBinder +onlyGivenNames n; first | clear_value n | subst n)
    | with_reducible refine Frame.ite ?_ ?_
    | with_reducible refine wr_frame (by with_reducible assumption) ?_ _ _
    | with_reducible refine State.presentAcc_frame s_State_presentAcc ?_ _
    | with_reducible refine State.setHub_frame s_State_setHub ?_ _
    | with_reducible refine State.dropAccs_frame s_State_dropAccs ?_ _
    | split

def memBuReadDone_foot : Nat := 0x60000000000000000000000001000000000
theorem memBuReadDone_frame (hm : Sub memBuReadDone_foot m) (h : Frame m s0 s) :
    Frame m s0 (memBuReadDone s) := by
  have s_State_setHub : Sub State.setHub_foot m := hm.of (by decide)
  have k_MEM_BU_ADDR_done : Has m MEM_BU_ADDR_done := hm.has 3 17 rfl (by decide)
  have k_MEM_BU_DATA : Has m MEM_BU_DATA := hm.has 3 18 rfl (by decide)
  unfold memBuReadDone
  repeat' first
    | with_reducible assumption
    | (extract_lets -underBinder +onlyGivenNames x; have u : True := (by clear_value x; guard_hyp x :ₛ State; trivial); clear u; refine Frame.cut (m := m) (s0 := s0) (t := x) ?_ ?_; (on_goal 1 => subst x); (on_goal 2 => (intro hx; clear_value x)))
    | (extract_lets -underBinder +onlyGivenNames n; first | clear_value n | subst n)
    | with_reducible refine Frame.ite ?_ ?_
    | with_reducible refine wr_frame (by with_reducible assumption) ?_ _ _
    | with_reducible refine State.setHub_frame s_State_setHub ?_ _
    | with_reducible refine Frame.foldTo ?_ (fun s x hs => ?_)
    | split

def State.retire_foot : Nat := 0x10000000000000000000000000000000000000000000000000000000000000000000000000000000000000000000000006000018000000000000000000001000000100
theorem State.retire_frame (hm : Sub State.retire_foot m) (h : Frame m s0 s) :
    ∀ a1 a2, Frame m s0 (State.retire s a1 a2) := by
  intro a1 a2
  have s_State_setHub : Sub State.setHub_foot m := hm.of (by decide)
  have s_State_emit : Sub State.emit_foot m := hm.of (by decide)
  have k_MEM_RMAP_region : Has m MEM_RMAP_region := hm.has 3 25 rfl (by decide)
  have k_MEM_RMAP_valid : Has m MEM_RMAP_valid := hm.has 3 26 rfl (by decide)
  have k_MEM_STAT_nospare : Has m MEM_STAT_nospare := hm.has 3 3 rfl (by decide)
  have k_MEM_STAT_retired : Has m MEM_STAT_retired := hm.has 3 4 rfl (by decide)
  unfold State.retire
  repeat' first
    | with_reducible assumption
    | (extract_lets -underBinder +onlyGivenNames x; have u : True := (by clear_value x; guard_hyp x :ₛ State; trivial); clear u; refine Frame.cut (m := m) (s0 := s0) (t := x) ?_ ?_; (on_goal 1 => subst x); (on_goal 2 => (intro hx; clear_value x)))
    | (extract_lets -underBinder +onlyGivenNames n; first | clear_value n | subst n)
    | with_reducible refine Frame.ite ?_ ?_
    | with_reducible refine wr_frame (by with_reducible assumption) ?_ _ _
    | with_reducible refine State.setHub_frame s_State_setHub ?_ _
    | with_reducible refine State.emit_frame s_State_emit ?_ _ _ _
    | split

def backgroundTest_foot : Nat := 0x1000000000000000000000000000000000000000000000000000000000000000000000000000000000000000000000000600031c000000000000000000001050080120
theorem backgroundTest_frame (hm : Sub backgroundTest_foot m) (h : Frame m s0 s) :
    ∀ a0 a1, Frame m s0 (backgroundTest a0 a1 s) := by
  intro a0 a1
  have s_State_retire : Sub State.retire_foot m := hm.of (by decide)
  have s_State_lcxStall : Sub State.lcxStall_foot m := hm.of (by decide)
  have s_State_setHub : Sub State.setHub_foot m := hm.of (by decide)
  have s_State_eccWord : Sub State.eccWord_foot m := hm.of (by decide)
  have s_State_bankPut : Sub State.bankPut_foot m := hm.of (by decide)
  have k_MEM_STAT_bt_bank : Has m MEM_STAT_bt_bank := hm.has 3 2 rfl (by decide)
  unfold backgroundTest
  repeat' first
    | with_reducible assumption
    | (extract_lets -underBinder +onlyGivenNames x; have u : True := (by clear_value x; guard_hyp x :ₛ State; trivial); clear u; refine Frame.cut (m := m) (s0 := s0) (t := x) ?_ ?_; (on_goal 1 => subst x); (on_goal 2 => (intro hx; clear_value x)))
    | (extract_lets -underBinder +onlyGivenNames n; first | clear_value n | subst n)
    | with_reducible refine Frame.ite ?_ ?_
    | with_reducible refine wr_frame (by with_reducible assumption) ?_ _ _
    | with_reducible refine State.retire_frame s_State_retire ?_ _ _
    | with_reducible refine State.lcxStall_frame s_State_lcxStall ?_ _
    | with_reducible refine State.setHub_frame s_State_setHub ?_ _
    | with_reducible refine State.eccWord_frame s_State_eccWord ?_ _ _ _
    | with_reducible refine State.bankPut_frame s_State_bankPut ?_ _ _ _
    | with_reducible refine Frame.foldl ?_ (fun s x hs => ?_)
    | split

def execFirmwareMemoryAccess_foot : Nat := 0x10000000000000000000000000000000000000000000000000000000000000000000000000000000000000000000000000007c00000000000000000000001000000180
theorem execFirmwareMemoryAccess_frame (hm : Sub execFirmwareMemoryAccess_foot m) (h : Frame m s0 s) :
    ∀ a0 a1 a2 a3 a4 a5, ∃ t, execFirmwareMemoryAccess a0 a1 a2 a3 a4 a5 s = .next t ∧ Frame m s0 t := by
  intro a0 a1 a2 a3 a4 a5
  have s_firmwareMemoryAccess : Sub firmwareMemoryAccess_foot m := hm.of (by decide)
  unfold execFirmwareMemoryAccess
  refine hubOn_frame (fun s h => ?_) h
  repeat' first
    | with_reducible assumption
    | with_reducible refine Frame.ite ?_ ?_
    | with_reducible refine firmwareMemoryAccess_frame s_firmwareMemoryAccess ?_ _ _ _ _ _ _

def execMemBuRead_foot : Nat := 0x1000000000000000000000000000000000000000000000000000000000000000000000000000000000000000000000000003fc00000000000000000000001000000180
theorem execMemBuRead_frame (hm : Sub execMemBuRead_foot m) (h : Frame m s0 s) :
    ∀ a0 a1, ∃ t, execMemBuRead a0 a1 s = .next t ∧ Frame m s0 t := by
  intro a0 a1
  have s_memBuRead : Sub memBuRead_foot m := hm.of (by decide)
  unfold execMemBuRead
  refine hubOn_frame (fun s h => ?_) h
  repeat' first
    | with_reducible assumption
    | with_reducible refine Frame.ite ?_ ?_
    | with_reducible refine memBuRead_frame s_memBuRead ?_ _ _

def execMemBuReadDone_foot : Nat := 0x60000000000000000000000001000000000
theorem execMemBuReadDone_frame (hm : Sub execMemBuReadDone_foot m) (h : Frame m s0 s) :
    ∃ t, execMemBuReadDone s = .next t ∧ Frame m s0 t := by
  have s_memBuReadDone : Sub memBuReadDone_foot m := hm.of (by decide)
  unfold execMemBuReadDone
  refine hubOn_frame (fun s h => ?_) h
  repeat' first
    | with_reducible assumption
    | with_reducible refine Frame.ite ?_ ?_
    | with_reducible refine memBuReadDone_frame s_memBuReadDone ?_

def execBackgroundTest_foot : Nat := 0x1000000000000000000000000000000000000000000000000000000000000000000000000000000000000000000000000600031c000000000000000000001050080120
theorem execBackgroundTest_frame (hm : Sub execBackgroundTest_foot m) (h : Frame m s0 s) :
    ∀ a0 a1, ∃ t, execBackgroundTest a0 a1 s = .next t ∧ Frame m s0 t := by
  intro a0 a1
  have s_backgroundTest : Sub backgroundTest_foot m := hm.of (by decide)
  unfold execBackgroundTest
  refine hubOn_frame (fun s h => ?_) h
  repeat' first
    | with_reducible assumption
    | with_reducible refine Frame.ite ?_ ?_
    | with_reducible refine backgroundTest_frame s_backgroundTest ?_ _ _

end Sys2Proof.Machine
end

