-- ==== Sys2Proof/Laws/FrameRegAccess.lean ====
section
/-!
SUPPORT. Laws/FrameRegAccess.lean: the footprint of every function of Machine/RegAccess.lean, and that it writes nothing outside it.
-/
namespace Sys2Proof.Machine

set_option linter.all false

variable {m : Nat} {s0 s : State}

def State.writeRwt_foot : Nat := 0x30007f67800f0ffff0303fffe46000c6000000000c050f8ef1fe0f80180000832201ff8001fff3ffffc0600780fffc1e01fffe7fff301f827087a80803c000180700001f1f800e0e00081e00200000000000000000000
theorem State.writeRwt_frame (hm : Sub State.writeRwt_foot m) (h : Frame m s0 s) :
    ∀ a1 a2, Frame m s0 (State.writeRwt s a1 a2) := by
  intro a1 a2
  refine State.writeFlds_frame (fun u f hf hp => (has_of_allHas (m := State.writeRwt_foot) (p := fun f => decide (f.acc = .rwt)) (by decide +kernel) hf ?_).mono hm) h _ _
  revert hp
  cases decide (f.acc = .rwt)
  · intro hp; exact hp
  · intro _; rfl

end Sys2Proof.Machine
end

