-- ==== Sys2Proof/Laws/FrameSlateOps.lean ====
section
/-!
SUPPORT. Laws/FrameSlateOps.lean: the footprint of every function of Machine/SlateOps.lean, and that it writes nothing outside it.
-/
namespace Sys2Proof.Machine

set_option linter.all false

variable {m : Nat} {s0 s : State}

def State.setSlt_foot : Nat := 0x40000000
theorem State.setSlt_frame (hm : Sub State.setSlt_foot m) (h : Frame m s0 s) :
    ∀ a1, Frame m s0 (State.setSlt s a1) := by
  intro a1
  have c_slt : m.testBit 30 = true := hm.bit 30 (by decide)
  unfold State.setSlt
  repeat' first
    | with_reducible assumption
    | (extract_lets -underBinder +onlyGivenNames x; have u : True := (by clear_value x; guard_hyp x :ₛ State; trivial); clear u; refine Frame.cut (m := m) (s0 := s0) (t := x) ?_ ?_; (on_goal 1 => subst x); (on_goal 2 => (intro hx; clear_value x)))
    | (extract_lets -underBinder +onlyGivenNames n; first | clear_value n | subst n)
    | with_reducible refine Frame.ite ?_ ?_
    | with_reducible exact Frame.set_slt c_slt (by with_reducible assumption)

def State.showSlates_foot : Nat := 0x1e01e0000000000000000000000000000000000000000000000
theorem State.showSlates_frame (hm : Sub State.showSlates_foot m) (h : Frame m s0 s) :
    Frame m s0 (State.showSlates s) := by
  have k_SLT_SLATE_gen : Has m SLT_SLATE_gen := hm.has 6 17 rfl (by decide)
  have k_SLT_SLATE_lines : Has m SLT_SLATE_lines := hm.has 6 18 rfl (by decide)
  have k_SLT_SLATE_state : Has m SLT_SLATE_state := hm.has 6 15 rfl (by decide)
  have k_SLT_SLATE_thm : Has m SLT_SLATE_thm := hm.has 6 16 rfl (by decide)
  have k_SLT_STAT_armed : Has m SLT_STAT_armed := hm.has 6 4 rfl (by decide)
  have k_SLT_STAT_lines : Has m SLT_STAT_lines := hm.has 6 6 rfl (by decide)
  have k_SLT_STAT_open : Has m SLT_STAT_open := hm.has 6 3 rfl (by decide)
  have k_SLT_STAT_pair : Has m SLT_STAT_pair := hm.has 6 5 rfl (by decide)
  unfold State.showSlates
  repeat' first
    | with_reducible assumption
    | (extract_lets -underBinder +onlyGivenNames x; have u : True := (by clear_value x; guard_hyp x :ₛ State; trivial); clear u; refine Frame.cut (m := m) (s0 := s0) (t := x) ?_ ?_; (on_goal 1 => subst x); (on_goal 2 => (intro hx; clear_value x)))
    | (extract_lets -underBinder +onlyGivenNames n; first | clear_value n | subst n)
    | with_reducible refine Frame.ite ?_ ?_
    | with_reducible refine wr_frame (by with_reducible assumption) ?_ _ _
    | with_reducible refine Frame.foldTo ?_ (fun s x hs => ?_)

def State.setSlateRaw_foot : Nat := 0x40000000
theorem State.setSlateRaw_frame (hm : Sub State.setSlateRaw_foot m) (h : Frame m s0 s) :
    ∀ a1 a2, Frame m s0 (State.setSlateRaw s a1 a2) := by
  intro a1 a2
  have s_State_setSlt : Sub State.setSlt_foot m := hm.of (by decide)
  unfold State.setSlateRaw
  repeat' first
    | with_reducible assumption
    | (extract_lets -underBinder +onlyGivenNames x; have u : True := (by clear_value x; guard_hyp x :ₛ State; trivial); clear u; refine Frame.cut (m := m) (s0 := s0) (t := x) ?_ ?_; (on_goal 1 => subst x); (on_goal 2 => (intro hx; clear_value x)))
    | (extract_lets -underBinder +onlyGivenNames n; first | clear_value n | subst n)
    | with_reducible refine Frame.ite ?_ ?_
    | with_reducible refine State.setSlt_frame s_State_setSlt ?_ _

def State.setSlate_foot : Nat := 0x1e01e00000000000000000000000000000000000000c0000080
theorem State.setSlate_frame (hm : Sub State.setSlate_foot m) (h : Frame m s0 s) :
    ∀ a1 a2, Frame m s0 (State.setSlate s a1 a2) := by
  intro a1 a2
  have s_State_showSlates : Sub State.showSlates_foot m := hm.of (by decide)
  have s_State_setSlateRaw : Sub State.setSlateRaw_foot m := hm.of (by decide)
  have s_State_mirror : Sub State.mirror_foot m := hm.of (by decide)
  unfold State.setSlate
  repeat' first
    | with_reducible assumption
    | with_reducible refine Frame.ite ?_ ?_
    | with_reducible refine State.showSlates_frame s_State_showSlates ?_
    | with_reducible refine State.setSlateRaw_frame s_State_setSlateRaw ?_ _ _
    | with_reducible refine State.mirror_frame s_State_mirror ?_ _ _ _

def State.freeSlate_foot : Nat := 0x1e01e00000000000000000000000000000000000000d0000080
theorem State.freeSlate_frame (hm : Sub State.freeSlate_foot m) (h : Frame m s0 s) :
    ∀ a1, Frame m s0 (State.freeSlate s a1) := by
  intro a1
  have s_State_setSlate : Sub State.setSlate_foot m := hm.of (by decide)
  have c_thm : m.testBit 28 = true := hm.bit 28 (by decide)
  unfold State.freeSlate
  repeat' first
    | with_reducible assumption
    | (extract_lets -underBinder +onlyGivenNames x; have u : True := (by clear_value x; guard_hyp x :ₛ State; trivial); clear u; refine Frame.cut (m := m) (s0 := s0) (t := x) ?_ ?_; (on_goal 1 => subst x); (on_goal 2 => (intro hx; clear_value x)))
    | (extract_lets -underBinder +onlyGivenNames n; first | clear_value n | subst n)
    | with_reducible refine Frame.ite ?_ ?_
    | with_reducible refine State.setSlate_frame s_State_setSlate ?_ _ _
    | with_reducible exact Frame.set_thm c_thm (by with_reducible assumption)
    | split

def State.abandonOpen_foot : Nat := 0x100000000000000000000000000000000000000000000000000000000000000000000000000000000001e01e00000000000000000000000000000000000000d0000180
theorem State.abandonOpen_frame (hm : Sub State.abandonOpen_foot m) (h : Frame m s0 s) :
    Frame m s0 (State.abandonOpen s) := by
  have s_State_freeSlate : Sub State.freeSlate_foot m := hm.of (by decide)
  have s_State_emit : Sub State.emit_foot m := hm.of (by decide)
  unfold State.abandonOpen
  repeat' first
    | with_reducible assumption
    | (extract_lets -underBinder +onlyGivenNames x; have u : True := (by clear_value x; guard_hyp x :ₛ State; trivial); clear u; refine Frame.cut (m := m) (s0 := s0) (t := x) ?_ ?_; (on_goal 1 => subst x); (on_goal 2 => (intro hx; clear_value x)))
    | (extract_lets -underBinder +onlyGivenNames n; first | clear_value n | subst n)
    | with_reducible refine Frame.ite ?_ ?_
    | with_reducible refine State.freeSlate_frame s_State_freeSlate ?_ _
    | with_reducible refine State.emit_frame s_State_emit ?_ _ _ _
    | with_reducible refine Frame.foldTo ?_ (fun s x hs => ?_)
    | split

def slateOpen_foot : Nat := 0x1e01e00000000000000000000000000000000000000e0000080
theorem slateOpen_frame (hm : Sub slateOpen_foot m) (h : Frame m s0 s) :
    ∀ a0, Frame m s0 (slateOpen a0 s) := by
  intro a0
  have s_State_setSlate : Sub State.setSlate_foot m := hm.of (by decide)
  have s_State_complete : Sub State.complete_foot m := hm.of (by decide)
  unfold slateOpen
  repeat' first
    | with_reducible assumption
    | (extract_lets -underBinder +onlyGivenNames x; have u : True := (by clear_value x; guard_hyp x :ₛ State; trivial); clear u; refine Frame.cut (m := m) (s0 := s0) (t := x) ?_ ?_; (on_goal 1 => subst x); (on_goal 2 => (intro hx; clear_value x)))
    | (extract_lets -underBinder +onlyGivenNames n; first | clear_value n | subst n)
    | with_reducible refine Frame.ite ?_ ?_
    | with_reducible refine State.setSlate_frame s_State_setSlate ?_ _ _
    | with_reducible refine State.complete_frame s_State_complete ?_ _ _ _
    | split

def State.holdThm_foot : Nat := 0x10000000
theorem State.holdThm_frame (hm : Sub State.holdThm_foot m) (h : Frame m s0 s) :
    Frame m s0 (State.holdThm s) := by
  have c_thm : m.testBit 28 = true := hm.bit 28 (by decide)
  unfold State.holdThm
  repeat' first
    | with_reducible assumption
    | (extract_lets -underBinder +onlyGivenNames x; have u : True := (by clear_value x; guard_hyp x :ₛ State; trivial); clear u; refine Frame.cut (m := m) (s0 := s0) (t := x) ?_ ?_; (on_goal 1 => subst x); (on_goal 2 => (intro hx; clear_value x)))
    | (extract_lets -underBinder +onlyGivenNames n; first | clear_value n | subst n)
    | with_reducible refine Frame.ite ?_ ?_
    | with_reducible exact Frame.set_thm c_thm (by with_reducible assumption)
    | split

def State.stageWrite_foot : Nat := 0x1e01e0000000000000000000000000000000000000050000000
theorem State.stageWrite_frame (hm : Sub State.stageWrite_foot m) (h : Frame m s0 s) :
    ∀ a1 a2 a3 a4 a5, Frame m s0 (State.stageWrite s a1 a2 a3 a4 a5).1 := by
  intro a1 a2 a3 a4 a5
  have s_State_showSlates : Sub State.showSlates_foot m := hm.of (by decide)
  have s_State_setSlateRaw : Sub State.setSlateRaw_foot m := hm.of (by decide)
  have s_State_holdThm : Sub State.holdThm_foot m := hm.of (by decide)
  unfold State.stageWrite
  repeat' first
    | with_reducible assumption
    | (extract_lets -underBinder +onlyGivenNames x; have u : True := (by clear_value x; guard_hyp x :ₛ State; trivial); clear u; refine Frame.cut (m := m) (s0 := s0) (t := x) ?_ ?_; (on_goal 1 => subst x); (on_goal 2 => (intro hx; clear_value x)))
    | (extract_lets -underBinder +onlyGivenNames x; have u : True := (by clear_value x; guard_hyp x :ₛ State × Nat; trivial); clear u; refine Frame.cut (m := m) (s0 := s0) (t := x.1) ?_ ?_; (on_goal 1 => subst x); (on_goal 2 => (intro hx; clear_value x)))
    | (extract_lets -underBinder +onlyGivenNames n; first | clear_value n | subst n)
    | with_reducible refine Frame.ite ?_ ?_
    | with_reducible refine State.showSlates_frame s_State_showSlates ?_
    | with_reducible refine State.setSlateRaw_frame s_State_setSlateRaw ?_ _ _
    | with_reducible refine State.holdThm_frame s_State_holdThm ?_
    | with_reducible refine Frame.iteFst ?_ ?_
    | with_reducible refine Frame.ofFst (by with_reducible assumption) ?_
    | split
    | dsimp -zeta only

def State.mirrorWrite_foot : Nat := 0x80000080
theorem State.mirrorWrite_frame (hm : Sub State.mirrorWrite_foot m) (h : Frame m s0 s) :
    ∀ a1 a2 a3 a4 a5, Frame m s0 (State.mirrorWrite s a1 a2 a3 a4 a5) := by
  intro a1 a2 a3 a4 a5
  have s_State_mirror : Sub State.mirror_foot m := hm.of (by decide)
  unfold State.mirrorWrite
  repeat' first
    | with_reducible assumption
    | (extract_lets -underBinder +onlyGivenNames x; have u : True := (by clear_value x; guard_hyp x :ₛ State; trivial); clear u; refine Frame.cut (m := m) (s0 := s0) (t := x) ?_ ?_; (on_goal 1 => subst x); (on_goal 2 => (intro hx; clear_value x)))
    | (extract_lets -underBinder +onlyGivenNames n; first | clear_value n | subst n)
    | with_reducible refine Frame.ite ?_ ?_
    | with_reducible refine State.mirror_frame s_State_mirror ?_ _ _ _
    | with_reducible refine Frame.foldTo ?_ (fun s x hs => ?_)
    | split

def slateWrite_foot : Nat := 0x1e01e00000000000000000000000000000000000000f0000080
theorem slateWrite_frame (hm : Sub slateWrite_foot m) (h : Frame m s0 s) :
    ∀ a0 a1, Frame m s0 (slateWrite a0 a1 s) := by
  intro a0 a1
  have s_State_mirrorWrite : Sub State.mirrorWrite_foot m := hm.of (by decide)
  have s_State_complete : Sub State.complete_foot m := hm.of (by decide)
  have s_State_stageWrite : Sub State.stageWrite_foot m := hm.of (by decide)
  have s_State_send : Sub State.send_foot m := hm.of (by decide)
  unfold slateWrite
  repeat' first
    | with_reducible assumption
    | (extract_lets -underBinder +onlyGivenNames x; have u : True := (by clear_value x; guard_hyp x :ₛ State; trivial); clear u; refine Frame.cut (m := m) (s0 := s0) (t := x) ?_ ?_; (on_goal 1 => subst x); (on_goal 2 => (intro hx; clear_value x)))
    | (extract_lets -underBinder +onlyGivenNames x; have u : True := (by clear_value x; guard_hyp x :ₛ State × Nat; trivial); clear u; refine Frame.cut (m := m) (s0 := s0) (t := x.1) ?_ ?_; (on_goal 1 => subst x); (on_goal 2 => (intro hx; clear_value x)))
    | (extract_lets -underBinder +onlyGivenNames n; first | clear_value n | subst n)
    | with_reducible refine Frame.ite ?_ ?_
    | with_reducible refine State.mirrorWrite_frame s_State_mirrorWrite ?_ _ _ _ _ _
    | with_reducible refine State.complete_frame s_State_complete ?_ _ _ _
    | with_reducible refine State.stageWrite_frame s_State_stageWrite ?_ _ _ _ _ _
    | with_reducible refine State.send_frame s_State_send ?_ _
    | with_reducible refine Frame.ofFst (by with_reducible assumption) ?_
    | split

def abandon_foot : Nat := 0x100000000000000000000000000000000000000000000000000000000000000000000000000000000001e41e00000000000000000000000000000000000000f0000180
theorem abandon_frame (hm : Sub abandon_foot m) (h : Frame m s0 s) :
    ∀ a0, Frame m s0 (abandon a0 s) := by
  intro a0
  have s_State_freeSlate : Sub State.freeSlate_foot m := hm.of (by decide)
  have s_State_complete : Sub State.complete_foot m := hm.of (by decide)
  have s_State_bridgeSend : Sub State.bridgeSend_foot m := hm.of (by decide)
  have s_State_setSlt : Sub State.setSlt_foot m := hm.of (by decide)
  have s_State_emit : Sub State.emit_foot m := hm.of (by decide)
  have k_SLT_FAIL_failed : Has m SLT_FAIL_failed := hm.has 6 12 rfl (by decide)
  unfold abandon
  repeat' first
    | with_reducible assumption
    | (extract_lets -underBinder +onlyGivenNames x; have u : True := (by clear_value x; guard_hyp x :ₛ State; trivial); clear u; refine Frame.cut (m := m) (s0 := s0) (t := x) ?_ ?_; (on_goal 1 => subst x); (on_goal 2 => (intro hx; clear_value x)))
    | (extract_lets -underBinder +onlyGivenNames n; first | clear_value n | subst n)
    | with_reducible refine Frame.ite ?_ ?_
    | with_reducible refine bump_frame (by with_reducible assumption) ?_ _
    | with_reducible refine State.freeSlate_frame s_State_freeSlate ?_ _
    | with_reducible refine State.complete_frame s_State_complete ?_ _ _ _
    | with_reducible refine State.bridgeSend_frame s_State_bridgeSend ?_ _ _
    | with_reducible refine State.setSlt_frame s_State_setSlt ?_ _
    | with_reducible refine State.emit_frame s_State_emit ?_ _ _ _
    | split

def execSlateOpen_foot : Nat := 0x1e01e00000000000000000000000000000000000000e0000080
theorem execSlateOpen_frame (hm : Sub execSlateOpen_foot m) (h : Frame m s0 s) :
    ∃ t, execSlateOpen s = .next t ∧ Frame m s0 t := by
  have s_slateOpen : Sub slateOpen_foot m := hm.of (by decide)
  have s_State_runOpcode : Sub State.runOpcode_foot m := hm.of (by decide)
  unfold execSlateOpen
  refine hubOn_frame (fun s h => ?_) h
  repeat' first
    | with_reducible assumption
    | with_reducible refine Frame.ite ?_ ?_
    | with_reducible refine slateOpen_frame s_slateOpen ?_ _
    | with_reducible refine State.runOpcode_frame s_State_runOpcode (fun d s hs => ?_) ?_ _

def execSlateWrite_foot : Nat := 0x1e01e00000000000000000000000000000000000000f0000080
theorem execSlateWrite_frame (hm : Sub execSlateWrite_foot m) (h : Frame m s0 s) :
    ∀ a0, ∃ t, execSlateWrite a0 s = .next t ∧ Frame m s0 t := by
  intro a0
  have s_slateWrite : Sub slateWrite_foot m := hm.of (by decide)
  have s_State_runOpcode : Sub State.runOpcode_foot m := hm.of (by decide)
  unfold execSlateWrite
  refine hubOn_frame (fun s h => ?_) h
  repeat' first
    | with_reducible assumption
    | with_reducible refine Frame.ite ?_ ?_
    | with_reducible refine slateWrite_frame s_slateWrite ?_ _ _
    | with_reducible refine State.runOpcode_frame s_State_runOpcode (fun d s hs => ?_) ?_ _

def execAbandon_foot : Nat := 0x100000000000000000000000000000000000000000000000000000000000000000000000000000000001e41e00000000000000000000000000000000000000f0000180
theorem execAbandon_frame (hm : Sub execAbandon_foot m) (h : Frame m s0 s) :
    ∃ t, execAbandon s = .next t ∧ Frame m s0 t := by
  have s_abandon : Sub abandon_foot m := hm.of (by decide)
  have s_State_runOpcode : Sub State.runOpcode_foot m := hm.of (by decide)
  unfold execAbandon
  refine hubOn_frame (fun s h => ?_) h
  repeat' first
    | with_reducible assumption
    | with_reducible refine Frame.ite ?_ ?_
    | with_reducible refine abandon_frame s_abandon ?_ _
    | with_reducible refine State.runOpcode_frame s_State_runOpcode (fun d s hs => ?_) ?_ _

end Sys2Proof.Machine
end

