-- ==== Sys2Proof/Laws/FrameFirmware.lean ====
section
/-!
SUPPORT. Laws/FrameFirmware.lean: the footprint of every function of Machine/Firmware.lean, and that it writes nothing outside it.
-/
namespace Sys2Proof.Machine

set_option linter.all false

variable {m : Nat} {s0 s : State}

def State.setFw_foot : Nat := 0x400000000
theorem State.setFw_frame (hm : Sub State.setFw_foot m) (h : Frame m s0 s) :
    ∀ a1, Frame m s0 (State.setFw s a1) := by
  intro a1
  have c_fw : m.testBit 34 = true := hm.bit 34 (by decide)
  unfold State.setFw
  repeat' first
    | with_reducible assumption
    | (extract_lets -underBinder +onlyGivenNames x; have u : True := (by clear_value x; guard_hyp x :ₛ State; trivial); clear u; refine Frame.cut (m := m) (s0 := s0) (t := x) ?_ ?_; (on_goal 1 => subst x); (on_goal 2 => (intro hx; clear_value x)))
    | (extract_lets -underBinder +onlyGivenNames n; first | clear_value n | subst n)
    | with_reducible refine Frame.ite ?_ ?_
    | with_reducible exact Frame.set_fw c_fw (by with_reducible assumption)

def State.setFwState_foot : Nat := 0x200000000000000000000000000000000000000
theorem State.setFwState_frame (hm : Sub State.setFwState_foot m) (h : Frame m s0 s) :
    ∀ a1 a2, Frame m s0 (State.setFwState s a1 a2) := by
  intro a1 a2
  have k_FW_STAT_state : Has m FW_STAT_state := hm.has 4 6 rfl (by decide)
  unfold State.setFwState
  repeat' first
    | with_reducible assumption
    | (extract_lets -underBinder +onlyGivenNames x; have u : True := (by clear_value x; guard_hyp x :ₛ State; trivial); clear u; refine Frame.cut (m := m) (s0 := s0) (t := x) ?_ ?_; (on_goal 1 => subst x); (on_goal 2 => (intro hx; clear_value x)))
    | (extract_lets -underBinder +onlyGivenNames n; first | clear_value n | subst n)
    | with_reducible refine Frame.ite ?_ ?_
    | with_reducible refine wr_frame (by with_reducible assumption) ?_ _ _

def State.setMask_foot : Nat := 0x0
theorem State.setMask_frame (hm : Sub State.setMask_foot m) {f : Fld} (kf : Has m f) (h : Frame m s0 s) :
    ∀ a2 a3, Frame m s0 (State.setMask s f a2 a3) := by
  intro a2 a3
  unfold State.setMask
  repeat' first
    | with_reducible assumption
    | with_reducible refine Frame.ite ?_ ?_
    | with_reducible refine wr_frame (by with_reducible assumption) ?_ _ _

def State.dropWaits_foot : Nat := 0x20400000
theorem State.dropWaits_frame (hm : Sub State.dropWaits_foot m) (h : Frame m s0 s) :
    Frame m s0 (State.dropWaits s) := by
  have c_cntZero : m.testBit 22 = true := hm.bit 22 (by decide)
  have c_hif : m.testBit 29 = true := hm.bit 29 (by decide)
  unfold State.dropWaits
  repeat' first
    | with_reducible assumption
    | (extract_lets -underBinder +onlyGivenNames x; have u : True := (by clear_value x; guard_hyp x :ₛ State; trivial); clear u; refine Frame.cut (m := m) (s0 := s0) (t := x) ?_ ?_; (on_goal 1 => subst x); (on_goal 2 => (intro hx; clear_value x)))
    | (extract_lets -underBinder +onlyGivenNames n; first | clear_value n | subst n)
    | with_reducible refine Frame.ite ?_ ?_
    | with_reducible exact Frame.set_cntZero_hif c_cntZero c_hif (by with_reducible assumption)
    | split

def State.loseDescs_foot : Nat := 0x420400000
theorem State.loseDescs_frame (hm : Sub State.loseDescs_foot m) (h : Frame m s0 s) :
    ∀ a1, Frame m s0 (State.loseDescs s a1) := by
  intro a1
  have s_State_dropWaits : Sub State.dropWaits_foot m := hm.of (by decide)
  have s_State_setFw : Sub State.setFw_foot m := hm.of (by decide)
  have c_hif : m.testBit 29 = true := hm.bit 29 (by decide)
  unfold State.loseDescs
  repeat' first
    | with_reducible assumption
    | (extract_lets -underBinder +onlyGivenNames x; have u : True := (by clear_value x; guard_hyp x :ₛ State; trivial); clear u; refine Frame.cut (m := m) (s0 := s0) (t := x) ?_ ?_; (on_goal 1 => subst x); (on_goal 2 => (intro hx; clear_value x)))
    | (extract_lets -underBinder +onlyGivenNames n; first | clear_value n | subst n)
    | with_reducible refine Frame.ite ?_ ?_
    | with_reducible refine State.dropWaits_frame s_State_dropWaits ?_
    | with_reducible refine State.setFw_frame s_State_setFw ?_ _
    | with_reducible exact Frame.set_hif c_hif (by with_reducible assumption)
    | split

def State.completeLost_foot : Nat := 0x100000000000000000000000000000000000000000000000000000000000000000000000000000000000000000000000000000000000000000000000000000a0000180
theorem State.completeLost_frame (hm : Sub State.completeLost_foot m) (h : Frame m s0 s) :
    ∀ a1, Frame m s0 (State.completeLost s a1) := by
  intro a1
  have s_State_complete : Sub State.complete_foot m := hm.of (by decide)
  have s_State_emit : Sub State.emit_foot m := hm.of (by decide)
  unfold State.completeLost
  repeat' first
    | with_reducible assumption
    | with_reducible refine Frame.ite ?_ ?_
    | with_reducible refine State.complete_frame s_State_complete ?_ _ _ _
    | with_reducible refine State.emit_frame s_State_emit ?_ _ _ _
    | split

def State.loadLost_foot : Nat := 0x10000000000000000000000000400000000000000000000000000000000000000000000000000000000000000000000000000000000000000000000000000400040100
theorem State.loadLost_frame (hm : Sub State.loadLost_foot m) (h : Frame m s0 s) :
    Frame m s0 (State.loadLost s) := by
  have s_State_setFw : Sub State.setFw_foot m := hm.of (by decide)
  have s_State_emit : Sub State.emit_foot m := hm.of (by decide)
  have k_FCS_SLOT_state : Has m FCS_SLOT_state := hm.has 12 20 rfl (by decide)
  have c_fcs : m.testBit 18 = true := hm.bit 18 (by decide)
  unfold State.loadLost
  repeat' first
    | with_reducible assumption
    | (extract_lets -underBinder +onlyGivenNames x; have u : True := (by clear_value x; guard_hyp x :ₛ State; trivial); clear u; refine Frame.cut (m := m) (s0 := s0) (t := x) ?_ ?_; (on_goal 1 => subst x); (on_goal 2 => (intro hx; clear_value x)))
    | (extract_lets -underBinder +onlyGivenNames n; first | clear_value n | subst n)
    | with_reducible refine Frame.ite ?_ ?_
    | with_reducible refine wr_frame (by with_reducible assumption) ?_ _ _
    | with_reducible refine State.setFw_frame s_State_setFw ?_ _
    | with_reducible refine State.emit_frame s_State_emit ?_ _ _ _
    | with_reducible exact Frame.set_fcs c_fcs (by with_reducible assumption)
    | split

def State.fwAbsent_foot : Nat := 0x30000000000010000000000000000000000000400000000000000000000000000000000000000000000000000000000000000000000000000000000000000000000000001520440100
theorem State.fwAbsent_frame (hm : Sub State.fwAbsent_foot m) (h : Frame m s0 s) :
    ∀ a1, Frame m s0 (State.fwAbsent s a1) := by
  intro a1
  have s_State_loseDescs : Sub State.loseDescs_foot m := hm.of (by decide)
  have s_State_loadLost : Sub State.loadLost_foot m := hm.of (by decide)
  have s_State_nvmFwRestart : Sub State.nvmFwRestart_foot m := hm.of (by decide)
  have s_State_dropAccs : Sub State.dropAccs_foot m := hm.of (by decide)
  have k_CNT_WFG_busy : Has m CNT_WFG_busy := hm.has 19 2 rfl (by decide)
  have k_CNT_WFG_valid : Has m CNT_WFG_valid := hm.has 19 3 rfl (by decide)
  unfold State.fwAbsent
  repeat' first
    | with_reducible assumption
    | (extract_lets -underBinder +onlyGivenNames x; have u : True := (by clear_value x; guard_hyp x :ₛ State; trivial); clear u; refine Frame.cut (m := m) (s0 := s0) (t := x) ?_ ?_; (on_goal 1 => subst x); (on_goal 2 => (intro hx; clear_value x)))
    | (extract_lets -underBinder +onlyGivenNames n; first | clear_value n | subst n)
    | with_reducible refine Frame.ite ?_ ?_
    | with_reducible refine wr_frame (by with_reducible assumption) ?_ _ _
    | with_reducible refine State.loseDescs_frame s_State_loseDescs ?_ _
    | with_reducible refine State.loadLost_frame s_State_loadLost ?_
    | with_reducible refine State.nvmFwRestart_frame s_State_nvmFwRestart ?_
    | with_reducible refine State.dropAccs_frame s_State_dropAccs ?_ _
    | split

def State.fwStart_foot : Nat := 0x30000000000010000000000000000000000000400000000000000000000000000000000000000000000000000000000000000000001a00000002000000000000000000001520440120
theorem State.fwStart_frame (hm : Sub State.fwStart_foot m) (h : Frame m s0 s) :
    ∀ a1 a2 a3, Frame m s0 (State.fwStart s a1 a2 a3) := by
  intro a1 a2 a3
  have s_State_fwAbsent : Sub State.fwAbsent_foot m := hm.of (by decide)
  have s_State_setFwState : Sub State.setFwState_foot m := hm.of (by decide)
  have s_State_setMask : Sub State.setMask_foot m := hm.of (by decide)
  have s_State_setFw : Sub State.setFw_foot m := hm.of (by decide)
  have s_State_clearBank : Sub State.clearBank_foot m := hm.of (by decide)
  have s_State_emit : Sub State.emit_foot m := hm.of (by decide)
  have k_FW_RCNT_cause : Has m FW_RCNT_cause := hm.has 4 9 rfl (by decide)
  have k_FW_RCNT_count : Has m FW_RCNT_count := hm.has 4 8 rfl (by decide)
  have k_MEM_STAT_clearing : Has m MEM_STAT_clearing := hm.has 3 1 rfl (by decide)
  unfold State.fwStart
  repeat' first
    | with_reducible assumption
    | (extract_lets -underBinder +onlyGivenNames x; have u : True := (by clear_value x; guard_hyp x :ₛ State; trivial); clear u; refine Frame.cut (m := m) (s0 := s0) (t := x) ?_ ?_; (on_goal 1 => subst x); (on_goal 2 => (intro hx; clear_value x)))
    | (extract_lets -underBinder +onlyGivenNames n; first | clear_value n | subst n)
    | with_reducible refine Frame.ite ?_ ?_
    | with_reducible refine wr_frame (by with_reducible assumption) ?_ _ _
    | with_reducible refine bump_frame (by with_reducible assumption) ?_ _
    | with_reducible refine State.fwAbsent_frame s_State_fwAbsent ?_ _
    | with_reducible refine State.setFwState_frame s_State_setFwState ?_ _ _
    | with_reducible refine State.setMask_frame s_State_setMask (by with_reducible assumption) ?_ _ _
    | with_reducible refine State.setFw_frame s_State_setFw ?_ _
    | with_reducible refine State.clearBank_frame s_State_clearBank ?_ _
    | with_reducible refine State.emit_frame s_State_emit ?_ _ _ _
    | split

def State.fwRestart_foot : Nat := 0x30000000000010000000000000000000000000400000000000000000000000000000000000000000000000000000000000000000001a00000002000000000000000000001520440120
theorem State.fwRestart_frame (hm : Sub State.fwRestart_foot m) (h : Frame m s0 s) :
    ∀ a1 a2, Frame m s0 (State.fwRestart s a1 a2) := by
  intro a1 a2
  have s_State_fwAbsent : Sub State.fwAbsent_foot m := hm.of (by decide)
  have s_State_setFwState : Sub State.setFwState_foot m := hm.of (by decide)
  have s_State_fwStart : Sub State.fwStart_foot m := hm.of (by decide)
  have s_State_emit : Sub State.emit_foot m := hm.of (by decide)
  have k_FW_RCNT_cause : Has m FW_RCNT_cause := hm.has 4 9 rfl (by decide)
  unfold State.fwRestart
  repeat' first
    | with_reducible assumption
    | (extract_lets -underBinder +onlyGivenNames x; have u : True := (by clear_value x; guard_hyp x :ₛ State; trivial); clear u; refine Frame.cut (m := m) (s0 := s0) (t := x) ?_ ?_; (on_goal 1 => subst x); (on_goal 2 => (intro hx; clear_value x)))
    | (extract_lets -underBinder +onlyGivenNames n; first | clear_value n | subst n)
    | with_reducible refine Frame.ite ?_ ?_
    | with_reducible refine wr_frame (by with_reducible assumption) ?_ _ _
    | with_reducible refine State.fwAbsent_frame s_State_fwAbsent ?_ _
    | with_reducible refine State.setFwState_frame s_State_setFwState ?_ _ _
    | with_reducible refine State.fwStart_frame s_State_fwStart ?_ _ _ _
    | with_reducible refine State.emit_frame s_State_emit ?_ _ _ _
    | split

def watchdogStrike_foot : Nat := 0x400000000
theorem watchdogStrike_frame (hm : Sub watchdogStrike_foot m) (h : Frame m s0 s) :
    ∀ a0, Frame m s0 (watchdogStrike a0 s) := by
  intro a0
  have s_State_setFw : Sub State.setFw_foot m := hm.of (by decide)
  unfold watchdogStrike
  repeat' first
    | with_reducible assumption
    | (extract_lets -underBinder +onlyGivenNames x; have u : True := (by clear_value x; guard_hyp x :ₛ State; trivial); clear u; refine Frame.cut (m := m) (s0 := s0) (t := x) ?_ ?_; (on_goal 1 => subst x); (on_goal 2 => (intro hx; clear_value x)))
    | (extract_lets -underBinder +onlyGivenNames n; first | clear_value n | subst n)
    | with_reducible refine Frame.ite ?_ ?_
    | with_reducible refine State.setFw_frame s_State_setFw ?_ _
    | split

def watchdogExpire_foot : Nat := 0x30000000000010000000000000000000000000400000000000000000000000000000000000000000000000000000000000000000001a00000002000000000000000000001520440120
theorem watchdogExpire_frame (hm : Sub watchdogExpire_foot m) (h : Frame m s0 s) :
    ∀ a0, Frame m s0 (watchdogExpire a0 s) := by
  intro a0
  have s_State_fwRestart : Sub State.fwRestart_foot m := hm.of (by decide)
  unfold watchdogExpire
  repeat' first
    | with_reducible assumption
    | with_reducible refine Frame.ite ?_ ?_
    | with_reducible refine State.fwRestart_frame s_State_fwRestart ?_ _ _
    | with_reducible refine Frame.onlyIf ?_ (fun s hs => ?_)

def fwException_foot : Nat := 0x30000000000010000000000000000000000000400000000000000000000000000000000000000000000000000000000000000000001a00000002000000000000000000001520440120
theorem fwException_frame (hm : Sub fwException_foot m) (h : Frame m s0 s) :
    ∀ a0 a1, Frame m s0 (fwException a0 a1 s) := by
  intro a0 a1
  have s_State_fwRestart : Sub State.fwRestart_foot m := hm.of (by decide)
  unfold fwException
  repeat' first
    | with_reducible assumption
    | with_reducible refine Frame.ite ?_ ?_
    | with_reducible refine State.fwRestart_frame s_State_fwRestart ?_ _ _
    | split

def State.fwReturn_foot : Nat := 0x800000000000000000000000000000f080001c1389000000000000000000000000000000000000000000000000000000000000000000000000000001e01e00000000000000000000000000000000000005fa080180
theorem State.fwReturn_frame (hm : Sub State.fwReturn_foot m) (h : Frame m s0 s) :
    ∀ a1, Frame m s0 (State.fwReturn s a1) := by
  intro a1
  have s_State_nvmFwReturn : Sub State.nvmFwReturn_foot m := hm.of (by decide)
  have s_reconciliation : Sub reconciliation_foot m := hm.of (by decide)
  have s_State_completeLost : Sub State.completeLost_foot m := hm.of (by decide)
  have s_State_setFw : Sub State.setFw_foot m := hm.of (by decide)
  have s_State_abandonOpen : Sub State.abandonOpen_foot m := hm.of (by decide)
  unfold State.fwReturn
  repeat' first
    | with_reducible assumption
    | (extract_lets -underBinder +onlyGivenNames x; have u : True := (by clear_value x; guard_hyp x :ₛ State; trivial); clear u; refine Frame.cut (m := m) (s0 := s0) (t := x) ?_ ?_; (on_goal 1 => subst x); (on_goal 2 => (intro hx; clear_value x)))
    | (extract_lets -underBinder +onlyGivenNames n; first | clear_value n | subst n)
    | with_reducible refine Frame.ite ?_ ?_
    | with_reducible refine State.nvmFwReturn_frame s_State_nvmFwReturn ?_
    | with_reducible refine reconciliation_frame s_reconciliation ?_ _ _ _ _ _
    | with_reducible refine State.completeLost_frame s_State_completeLost ?_ _
    | with_reducible refine State.setFw_frame s_State_setFw ?_ _
    | with_reducible refine State.abandonOpen_frame s_State_abandonOpen ?_
    | with_reducible refine Frame.foldl ?_ (fun s x hs => ?_)
    | split

def State.nextLoad_foot : Nat := 0x400000000
theorem State.nextLoad_frame (hm : Sub State.nextLoad_foot m) (h : Frame m s0 s) :
    Frame m s0 (State.nextLoad s) := by
  have s_State_setFw : Sub State.setFw_foot m := hm.of (by decide)
  unfold State.nextLoad
  repeat' first
    | with_reducible assumption
    | (extract_lets -underBinder +onlyGivenNames x; have u : True := (by clear_value x; guard_hyp x :ₛ State; trivial); clear u; refine Frame.cut (m := m) (s0 := s0) (t := x) ?_ ?_; (on_goal 1 => subst x); (on_goal 2 => (intro hx; clear_value x)))
    | (extract_lets -underBinder +onlyGivenNames n; first | clear_value n | subst n)
    | with_reducible refine Frame.ite ?_ ?_
    | with_reducible refine State.setFw_frame s_State_setFw ?_ _

def State.imgPass_foot : Nat := 0x800000000000000000000000000000f080001c1389000000000000000000000000000000000000000000000000000000000000000000000000000001e01e00000066000000000000000000000000000005fa0801a0
theorem State.imgPass_frame (hm : Sub State.imgPass_foot m) (h : Frame m s0 s) :
    ∀ a1 a2, Frame m s0 (State.imgPass s a1 a2) := by
  intro a1 a2
  have s_State_imageRewrite : Sub State.imageRewrite_foot m := hm.of (by decide)
  have s_State_fwReturn : Sub State.fwReturn_foot m := hm.of (by decide)
  have s_State_setFwState : Sub State.setFwState_foot m := hm.of (by decide)
  have s_State_nextLoad : Sub State.nextLoad_foot m := hm.of (by decide)
  have s_State_writeBank : Sub State.writeBank_foot m := hm.of (by decide)
  have s_State_setMask : Sub State.setMask_foot m := hm.of (by decide)
  have s_State_setFw : Sub State.setFw_foot m := hm.of (by decide)
  have s_State_emit : Sub State.emit_foot m := hm.of (by decide)
  have k_FW_LEN_length : Has m FW_LEN_length := hm.has 4 11 rfl (by decide)
  have k_FW_STAT_copy : Has m FW_STAT_copy := hm.has 4 7 rfl (by decide)
  have k_FW_VER_version : Has m FW_VER_version := hm.has 4 10 rfl (by decide)
  unfold State.imgPass
  repeat' first
    | with_reducible assumption
    | (extract_lets -underBinder +onlyGivenNames x; have u : True := (by clear_value x; guard_hyp x :ₛ State; trivial); clear u; refine Frame.cut (m := m) (s0 := s0) (t := x) ?_ ?_; (on_goal 1 => subst x); (on_goal 2 => (intro hx; clear_value x)))
    | (extract_lets -underBinder +onlyGivenNames n; first | clear_value n | subst n)
    | with_reducible refine Frame.ite ?_ ?_
    | with_reducible refine wr_frame (by with_reducible assumption) ?_ _ _
    | with_reducible refine State.imageRewrite_frame s_State_imageRewrite ?_ _
    | with_reducible refine State.fwReturn_frame s_State_fwReturn ?_ _
    | with_reducible refine State.setFwState_frame s_State_setFwState ?_ _ _
    | with_reducible refine State.nextLoad_frame s_State_nextLoad ?_
    | with_reducible refine State.writeBank_frame s_State_writeBank ?_ _ _ _
    | with_reducible refine State.setMask_frame s_State_setMask (by with_reducible assumption) ?_ _ _
    | with_reducible refine State.setFw_frame s_State_setFw ?_ _
    | with_reducible refine State.emit_frame s_State_emit ?_ _ _ _
    | split

def State.stageFail_foot : Nat := 0x10000000000000000000000000000000000000000000000000000000000000000000000000000000000000000000000000000000030000000000000000000800000100
theorem State.stageFail_frame (hm : Sub State.stageFail_foot m) (h : Frame m s0 s) :
    ∀ a1 a2, Frame m s0 (State.stageFail s a1 a2) := by
  intro a1 a2
  have s_State_emit : Sub State.emit_foot m := hm.of (by decide)
  have k_RST_SEQ_cause : Has m RST_SEQ_cause := hm.has 2 9 rfl (by decide)
  have k_RST_SEQ_stage : Has m RST_SEQ_stage := hm.has 2 8 rfl (by decide)
  have c_rst : m.testBit 35 = true := hm.bit 35 (by decide)
  unfold State.stageFail
  repeat' first
    | with_reducible assumption
    | (extract_lets -underBinder +onlyGivenNames x; have u : True := (by clear_value x; guard_hyp x :ₛ State; trivial); clear u; refine Frame.cut (m := m) (s0 := s0) (t := x) ?_ ?_; (on_goal 1 => subst x); (on_goal 2 => (intro hx; clear_value x)))
    | (extract_lets -underBinder +onlyGivenNames n; first | clear_value n | subst n)
    | with_reducible refine Frame.ite ?_ ?_
    | with_reducible refine wr_frame (by with_reducible assumption) ?_ _ _
    | with_reducible refine State.emit_frame s_State_emit ?_ _ _ _
    | with_reducible exact Frame.set_rst c_rst (by with_reducible assumption)

def State.imgFail_foot : Nat := 0x100000000000000000000000000000000000000000000000000000000000000000000000000000000000000000000002000000000b0000000000000000000c00000100
theorem State.imgFail_frame (hm : Sub State.imgFail_foot m) (h : Frame m s0 s) :
    ∀ a1 a2, Frame m s0 (State.imgFail s a1 a2) := by
  intro a1 a2
  have s_State_setFwState : Sub State.setFwState_foot m := hm.of (by decide)
  have s_State_nextLoad : Sub State.nextLoad_foot m := hm.of (by decide)
  have s_State_setFw : Sub State.setFw_foot m := hm.of (by decide)
  have s_State_stageFail : Sub State.stageFail_foot m := hm.of (by decide)
  have s_State_emit : Sub State.emit_foot m := hm.of (by decide)
  have k_RST_SEQ_image : Has m RST_SEQ_image := hm.has 2 11 rfl (by decide)
  unfold State.imgFail
  repeat' first
    | with_reducible assumption
    | (extract_lets -underBinder +onlyGivenNames x; have u : True := (by clear_value x; guard_hyp x :ₛ State; trivial); clear u; refine Frame.cut (m := m) (s0 := s0) (t := x) ?_ ?_; (on_goal 1 => subst x); (on_goal 2 => (intro hx; clear_value x)))
    | (extract_lets -underBinder +onlyGivenNames n; first | clear_value n | subst n)
    | with_reducible refine Frame.ite ?_ ?_
    | with_reducible refine wr_frame (by with_reducible assumption) ?_ _ _
    | with_reducible refine State.setFwState_frame s_State_setFwState ?_ _ _
    | with_reducible refine State.nextLoad_frame s_State_nextLoad ?_
    | with_reducible refine State.setFw_frame s_State_setFw ?_ _
    | with_reducible refine State.stageFail_frame s_State_stageFail ?_ _ _
    | with_reducible refine State.emit_frame s_State_emit ?_ _ _ _
    | split

def State.showDigest_foot : Nat := 0x8000000000000000000000000000000000000000
theorem State.showDigest_frame (hm : Sub State.showDigest_foot m) (h : Frame m s0 s) :
    ∀ a1 a2, Frame m s0 (State.showDigest s a1 a2) := by
  intro a1 a2
  have k_FW_DIGEST_d : Has m FW_DIGEST_d := hm.has 4 12 rfl (by decide)
  unfold State.showDigest
  repeat' first
    | with_reducible assumption
    | (extract_lets -underBinder +onlyGivenNames x; have u : True := (by clear_value x; guard_hyp x :ₛ State; trivial); clear u; refine Frame.cut (m := m) (s0 := s0) (t := x) ?_ ?_; (on_goal 1 => subst x); (on_goal 2 => (intro hx; clear_value x)))
    | (extract_lets -underBinder +onlyGivenNames n; first | clear_value n | subst n)
    | with_reducible refine Frame.ite ?_ ?_
    | with_reducible refine wr_frame (by with_reducible assumption) ?_ _ _
    | with_reducible refine Frame.foldTo ?_ (fun s x hs => ?_)

def fwImageLoaded_foot : Nat := 0x800000000000000000000000000000f080001c1389000000000000000000000000000000000000000000000000000000000000000000000000000001e01e000000e6000000000b0000000000000000000dfa0801a0
theorem fwImageLoaded_frame (hm : Sub fwImageLoaded_foot m) (h : Frame m s0 s) :
    ∀ a0 a1, Frame m s0 (fwImageLoaded a0 a1 s) := by
  intro a0 a1
  have s_State_imgFail : Sub State.imgFail_foot m := hm.of (by decide)
  have s_State_imgPass : Sub State.imgPass_foot m := hm.of (by decide)
  have s_State_showDigest : Sub State.showDigest_foot m := hm.of (by decide)
  have s_State_setFw : Sub State.setFw_foot m := hm.of (by decide)
  have k_RST_SEQ_stage : Has m RST_SEQ_stage := hm.has 2 8 rfl (by decide)
  unfold fwImageLoaded
  repeat' first
    | with_reducible assumption
    | (extract_lets -underBinder +onlyGivenNames x; have u : True := (by clear_value x; guard_hyp x :ₛ State; trivial); clear u; refine Frame.cut (m := m) (s0 := s0) (t := x) ?_ ?_; (on_goal 1 => subst x); (on_goal 2 => (intro hx; clear_value x)))
    | (extract_lets -underBinder +onlyGivenNames n; first | clear_value n | subst n)
    | with_reducible refine Frame.ite ?_ ?_
    | with_reducible refine wr_frame (by with_reducible assumption) ?_ _ _
    | with_reducible refine State.imgFail_frame s_State_imgFail ?_ _ _
    | with_reducible refine State.imgPass_frame s_State_imgPass ?_ _ _
    | with_reducible refine State.showDigest_frame s_State_showDigest ?_ _ _
    | with_reducible refine State.setFw_frame s_State_setFw ?_ _
    | split

def State.loadRefused_foot : Nat := 0x100000000000000000000000000000000000000000000000000000000000000000000000000000000000000000000000000000000000000000000000000000a0000180
theorem State.loadRefused_frame (hm : Sub State.loadRefused_foot m) (h : Frame m s0 s) :
    ∀ a1 a2, Frame m s0 (State.loadRefused s a1 a2) := by
  intro a1 a2
  have s_State_complete : Sub State.complete_foot m := hm.of (by decide)
  have s_State_emit : Sub State.emit_foot m := hm.of (by decide)
  unfold State.loadRefused
  repeat' first
    | with_reducible assumption
    | with_reducible refine Frame.ite ?_ ?_
    | with_reducible refine State.complete_frame s_State_complete ?_ _ _ _
    | with_reducible refine State.emit_frame s_State_emit ?_ _ _ _

def fcstLoad_foot : Nat := 0x100000000000000000000000004000000000000000000000000000000000000000000000000000000000000000000000000000000000000000000000000000a0040180
theorem fcstLoad_frame (hm : Sub fcstLoad_foot m) (h : Frame m s0 s) :
    ∀ a0, Frame m s0 (fcstLoad a0 s) := by
  intro a0
  have s_State_loadRefused : Sub State.loadRefused_foot m := hm.of (by decide)
  have s_State_send : Sub State.send_foot m := hm.of (by decide)
  have k_FCS_SLOT_state : Has m FCS_SLOT_state := hm.has 12 20 rfl (by decide)
  have c_fcs : m.testBit 18 = true := hm.bit 18 (by decide)
  unfold fcstLoad
  repeat' first
    | with_reducible assumption
    | (extract_lets -underBinder +onlyGivenNames x; have u : True := (by clear_value x; guard_hyp x :ₛ State; trivial); clear u; refine Frame.cut (m := m) (s0 := s0) (t := x) ?_ ?_; (on_goal 1 => subst x); (on_goal 2 => (intro hx; clear_value x)))
    | (extract_lets -underBinder +onlyGivenNames n; first | clear_value n | subst n)
    | with_reducible refine Frame.ite ?_ ?_
    | with_reducible refine wr_frame (by with_reducible assumption) ?_ _ _
    | with_reducible refine State.loadRefused_frame s_State_loadRefused ?_ _ _
    | with_reducible refine State.send_frame s_State_send ?_ _
    | with_reducible exact Frame.set_fcs c_fcs (by with_reducible assumption)
    | split

def State.endLoad_foot : Nat := 0x10000000000000000000000001c00000000000000000000000000000000000000000000000000000000000000000000000000000000000000000000000001000040100
theorem State.endLoad_frame (hm : Sub State.endLoad_foot m) (h : Frame m s0 s) :
    ∀ a1 a2 a3 a4 a5, Frame m s0 (State.endLoad s a1 a2 a3 a4 a5).1 := by
  intro a1 a2 a3 a4 a5
  have s_State_setSlot : Sub State.setSlot_foot m := hm.of (by decide)
  have s_State_emit : Sub State.emit_foot m := hm.of (by decide)
  unfold State.endLoad
  repeat' first
    | with_reducible assumption
    | (extract_lets -underBinder +onlyGivenNames x; have u : True := (by clear_value x; guard_hyp x :ₛ State; trivial); clear u; refine Frame.cut (m := m) (s0 := s0) (t := x) ?_ ?_; (on_goal 1 => subst x); (on_goal 2 => (intro hx; clear_value x)))
    | (extract_lets -underBinder +onlyGivenNames x; have u : True := (by clear_value x; guard_hyp x :ₛ State × Nat; trivial); clear u; refine Frame.cut (m := m) (s0 := s0) (t := x.1) ?_ ?_; (on_goal 1 => subst x); (on_goal 2 => (intro hx; clear_value x)))
    | (extract_lets -underBinder +onlyGivenNames n; first | clear_value n | subst n)
    | with_reducible refine Frame.ite ?_ ?_
    | with_reducible refine State.setSlot_frame s_State_setSlot ?_ _ _ _
    | with_reducible refine State.emit_frame s_State_emit ?_ _ _ _
    | with_reducible refine Frame.iteFst ?_ ?_
    | with_reducible refine Frame.ofFst (by with_reducible assumption) ?_
    | split
    | dsimp -zeta only

def fcstLoadComplete_foot : Nat := 0x10000000000000000000000001c000000000000000000000000000000000000000000000000000000000000001000000000000000000000000000000000010a0040180
theorem fcstLoadComplete_frame (hm : Sub fcstLoadComplete_foot m) (h : Frame m s0 s) :
    ∀ a0 a1 a2 a3, Frame m s0 (fcstLoadComplete a0 a1 a2 a3 s) := by
  intro a0 a1 a2 a3
  have s_State_endLoad : Sub State.endLoad_foot m := hm.of (by decide)
  have s_State_fabricEvent : Sub State.fabricEvent_foot m := hm.of (by decide)
  have s_State_complete : Sub State.complete_foot m := hm.of (by decide)
  have c_fcs : m.testBit 18 = true := hm.bit 18 (by decide)
  unfold fcstLoadComplete
  repeat' first
    | with_reducible assumption
    | (extract_lets -underBinder +onlyGivenNames x; have u : True := (by clear_value x; guard_hyp x :ₛ State; trivial); clear u; refine Frame.cut (m := m) (s0 := s0) (t := x) ?_ ?_; (on_goal 1 => subst x); (on_goal 2 => (intro hx; clear_value x)))
    | (extract_lets -underBinder +onlyGivenNames x; have u : True := (by clear_value x; guard_hyp x :ₛ State × Nat; trivial); clear u; refine Frame.cut (m := m) (s0 := s0) (t := x.1) ?_ ?_; (on_goal 1 => subst x); (on_goal 2 => (intro hx; clear_value x)))
    | (extract_lets -underBinder +onlyGivenNames n; first | clear_value n | subst n)
    | with_reducible refine Frame.ite ?_ ?_
    | with_reducible refine State.endLoad_frame s_State_endLoad ?_ _ _ _ _ _
    | with_reducible refine State.fabricEvent_frame s_State_fabricEvent ?_ _ _ _
    | with_reducible refine State.complete_frame s_State_complete ?_ _ _ _
    | with_reducible exact Frame.set_fcs c_fcs (by with_reducible assumption)
    | with_reducible refine Frame.ofFst (by with_reducible assumption) ?_
    | split

def slot0Load_foot : Nat := 0x1c00000000000c00000000000000000000000000000000000000000000000000000000000000000000000000000000000001000040000
theorem slot0Load_frame (hm : Sub slot0Load_foot m) (h : Frame m s0 s) :
    Frame m s0 (slot0Load s) := by
  have s_State_setSlot : Sub State.setSlot_foot m := hm.of (by decide)
  have k_THM_SET_ID_ident : Has m THM_SET_ID_ident := hm.has 11 44 rfl (by decide)
  have k_THM_SET_PER_period : Has m THM_SET_PER_period := hm.has 11 45 rfl (by decide)
  unfold slot0Load
  repeat' first
    | with_reducible assumption
    | (extract_lets -underBinder +onlyGivenNames x; have u : True := (by clear_value x; guard_hyp x :ₛ State; trivial); clear u; refine Frame.cut (m := m) (s0 := s0) (t := x) ?_ ?_; (on_goal 1 => subst x); (on_goal 2 => (intro hx; clear_value x)))
    | (extract_lets -underBinder +onlyGivenNames n; first | clear_value n | subst n)
    | with_reducible refine Frame.ite ?_ ?_
    | with_reducible refine wr_frame (by with_reducible assumption) ?_ _ _
    | with_reducible refine State.setSlot_frame s_State_setSlot ?_ _ _ _
    | split

def execWatchdogStrike_foot : Nat := 0x400000000
theorem execWatchdogStrike_frame (hm : Sub execWatchdogStrike_foot m) (h : Frame m s0 s) :
    ∀ a0, ∃ t, execWatchdogStrike a0 s = .next t ∧ Frame m s0 t := by
  intro a0
  have s_watchdogStrike : Sub watchdogStrike_foot m := hm.of (by decide)
  unfold execWatchdogStrike
  refine hubOn_frame (fun s h => ?_) h
  repeat' first
    | with_reducible assumption
    | with_reducible refine Frame.ite ?_ ?_
    | with_reducible refine watchdogStrike_frame s_watchdogStrike ?_ _

def execWatchdogExpire_foot : Nat := 0x30000000000010000000000000000000000000400000000000000000000000000000000000000000000000000000000000000000001a00000002000000000000000000001520440120
theorem execWatchdogExpire_frame (hm : Sub execWatchdogExpire_foot m) (h : Frame m s0 s) :
    ∀ a0, ∃ t, execWatchdogExpire a0 s = .next t ∧ Frame m s0 t := by
  intro a0
  have s_watchdogExpire : Sub watchdogExpire_foot m := hm.of (by decide)
  unfold execWatchdogExpire
  refine hubOn_frame (fun s h => ?_) h
  repeat' first
    | with_reducible assumption
    | with_reducible refine Frame.ite ?_ ?_
    | with_reducible refine watchdogExpire_frame s_watchdogExpire ?_ _

def execFwException_foot : Nat := 0x30000000000010000000000000000000000000400000000000000000000000000000000000000000000000000000000000000000001a00000002000000000000000000001520440120
theorem execFwException_frame (hm : Sub execFwException_foot m) (h : Frame m s0 s) :
    ∀ a0 a1, ∃ t, execFwException a0 a1 s = .next t ∧ Frame m s0 t := by
  intro a0 a1
  have s_fwException : Sub fwException_foot m := hm.of (by decide)
  unfold execFwException
  refine hubOn_frame (fun s h => ?_) h
  repeat' first
    | with_reducible assumption
    | with_reducible refine Frame.ite ?_ ?_
    | with_reducible refine fwException_frame s_fwException ?_ _ _

def execFwImageLoaded_foot : Nat := 0x800000000000000000000000000000f080001c1389000000000000000000000000000000000000000000000000000000000000000000000000000001e01e000000e6000000000b0000000000000000000dfa0801a0
theorem execFwImageLoaded_frame (hm : Sub execFwImageLoaded_foot m) (h : Frame m s0 s) :
    ∀ a0 a1, ∃ t, execFwImageLoaded a0 a1 s = .next t ∧ Frame m s0 t := by
  intro a0 a1
  have s_fwImageLoaded : Sub fwImageLoaded_foot m := hm.of (by decide)
  unfold execFwImageLoaded
  refine hubOn_frame (fun s h => ?_) h
  repeat' first
    | with_reducible assumption
    | with_reducible refine Frame.ite ?_ ?_
    | with_reducible refine fwImageLoaded_frame s_fwImageLoaded ?_ _ _

def execFcstLoad_foot : Nat := 0x100000000000000000000000004000000000000000000000000000000000000000000000000000000000000000000000000000000000000000000000000000a0040180
theorem execFcstLoad_frame (hm : Sub execFcstLoad_foot m) (h : Frame m s0 s) :
    ∃ t, execFcstLoad s = .next t ∧ Frame m s0 t := by
  have s_fcstLoad : Sub fcstLoad_foot m := hm.of (by decide)
  have s_State_runOpcode : Sub State.runOpcode_foot m := hm.of (by decide)
  unfold execFcstLoad
  refine hubOn_frame (fun s h => ?_) h
  repeat' first
    | with_reducible assumption
    | with_reducible refine Frame.ite ?_ ?_
    | with_reducible refine fcstLoad_frame s_fcstLoad ?_ _
    | with_reducible refine State.runOpcode_frame s_State_runOpcode (fun d s hs => ?_) ?_ _
    | split

def execFcstLoadComplete_foot : Nat := 0x10000000000000000000000001c000000000000000000000000000000000000000000000000000000000000001000000000000000000000000000000000010a0040180
theorem execFcstLoadComplete_frame (hm : Sub execFcstLoadComplete_foot m) (h : Frame m s0 s) :
    ∀ a0 a1 a2 a3, ∃ t, execFcstLoadComplete a0 a1 a2 a3 s = .next t ∧ Frame m s0 t := by
  intro a0 a1 a2 a3
  have s_fcstLoadComplete : Sub fcstLoadComplete_foot m := hm.of (by decide)
  unfold execFcstLoadComplete
  refine hubOn_frame (fun s h => ?_) h
  repeat' first
    | with_reducible assumption
    | with_reducible refine Frame.ite ?_ ?_
    | with_reducible refine fcstLoadComplete_frame s_fcstLoadComplete ?_ _ _ _ _

def execSlot0Load_foot : Nat := 0x1c00000000000c00000000000000000000000000000000000000000000000000000000000000000000000000000000000001000040000
theorem execSlot0Load_frame (hm : Sub execSlot0Load_foot m) (h : Frame m s0 s) :
    ∃ t, execSlot0Load s = .next t ∧ Frame m s0 t := by
  have s_slot0Load : Sub slot0Load_foot m := hm.of (by decide)
  unfold execSlot0Load
  refine hubOn_frame (fun s h => ?_) h
  repeat' first
    | with_reducible assumption
    | with_reducible refine Frame.ite ?_ ?_
    | with_reducible refine slot0Load_frame s_slot0Load ?_

end Sys2Proof.Machine
end

