-- ==== Sys2Proof/Laws/FrameObserve.lean ====
section
/-!
SUPPORT. Laws/FrameObserve.lean: the footprint of every function of Machine/Observe.lean, and that it writes nothing outside it.
-/
namespace Sys2Proof.Machine

set_option linter.all false

variable {m : Nat} {s0 s : State}

def State.setTrc_foot : Nat := 0x100000
theorem State.setTrc_frame (hm : Sub State.setTrc_foot m) (h : Frame m s0 s) :
    ∀ a1, Frame m s0 (State.setTrc s a1) := by
  intro a1
  have c_trc : m.testBit 20 = true := hm.bit 20 (by decide)
  unfold State.setTrc
  repeat' first
    | with_reducible assumption
    | (extract_lets -underBinder +onlyGivenNames x; have u : True := (by clear_value x; guard_hyp x :ₛ State; trivial); clear u; refine Frame.cut (m := m) (s0 := s0) (t := x) ?_ ?_; (on_goal 1 => subst x); (on_goal 2 => (intro hx; clear_value x)))
    | (extract_lets -underBinder +onlyGivenNames n; first | clear_value n | subst n)
    | with_reducible refine Frame.ite ?_ ?_
    | with_reducible exact Frame.set_trc c_trc (by with_reducible assumption)

def State.trcBoundary_foot : Nat := 0x10000000000000000000000000000000000000000000000000000000000000000000000000000000000000000000000000000000000000000000000000000000100100
theorem State.trcBoundary_frame (hm : Sub State.trcBoundary_foot m) (h : Frame m s0 s) :
    Frame m s0 (State.trcBoundary s) := by
  have s_State_setTrc : Sub State.setTrc_foot m := hm.of (by decide)
  have s_State_emit : Sub State.emit_foot m := hm.of (by decide)
  unfold State.trcBoundary
  repeat' first
    | with_reducible assumption
    | (extract_lets -underBinder +onlyGivenNames x; have u : True := (by clear_value x; guard_hyp x :ₛ State; trivial); clear u; refine Frame.cut (m := m) (s0 := s0) (t := x) ?_ ?_; (on_goal 1 => subst x); (on_goal 2 => (intro hx; clear_value x)))
    | (extract_lets -underBinder +onlyGivenNames n; first | clear_value n | subst n)
    | with_reducible refine Frame.ite ?_ ?_
    | with_reducible refine State.setTrc_frame s_State_setTrc ?_ _
    | with_reducible refine State.emit_frame s_State_emit ?_ _ _ _
    | split

def State.cntZeroDone_foot : Nat := 0x100000000000000000000000000000000000000000000000000000000000000000000000000000000000000000000000000000000000000000000000000000a0000180
theorem State.cntZeroDone_frame (hm : Sub State.cntZeroDone_foot m) (h : Frame m s0 s) :
    ∀ a1, Frame m s0 (State.cntZeroDone s a1) := by
  intro a1
  have s_State_complete : Sub State.complete_foot m := hm.of (by decide)
  have s_State_emit : Sub State.emit_foot m := hm.of (by decide)
  unfold State.cntZeroDone
  repeat' first
    | with_reducible assumption
    | (extract_lets -underBinder +onlyGivenNames x; have u : True := (by clear_value x; guard_hyp x :ₛ State; trivial); clear u; refine Frame.cut (m := m) (s0 := s0) (t := x) ?_ ?_; (on_goal 1 => subst x); (on_goal 2 => (intro hx; clear_value x)))
    | (extract_lets -underBinder +onlyGivenNames n; first | clear_value n | subst n)
    | with_reducible refine Frame.ite ?_ ?_
    | with_reducible refine State.complete_frame s_State_complete ?_ _ _ _
    | with_reducible refine State.emit_frame s_State_emit ?_ _ _ _
    | with_reducible refine Frame.foldl ?_ (fun s x hs => ?_)
    | split

def State.trcFail_foot : Nat := 0x8000000010000000000000000000000000000000000000000000000000000000000000000000000000000000000000000000000000000000000000000000000000000000100100
theorem State.trcFail_frame (hm : Sub State.trcFail_foot m) (h : Frame m s0 s) :
    Frame m s0 (State.trcFail s) := by
  have s_State_setTrc : Sub State.setTrc_foot m := hm.of (by decide)
  have s_State_emit : Sub State.emit_foot m := hm.of (by decide)
  have k_TRC_STAT_state : Has m TRC_STAT_state := hm.has 18 3 rfl (by decide)
  unfold State.trcFail
  repeat' first
    | with_reducible assumption
    | (extract_lets -underBinder +onlyGivenNames x; have u : True := (by clear_value x; guard_hyp x :ₛ State; trivial); clear u; refine Frame.cut (m := m) (s0 := s0) (t := x) ?_ ?_; (on_goal 1 => subst x); (on_goal 2 => (intro hx; clear_value x)))
    | (extract_lets -underBinder +onlyGivenNames n; first | clear_value n | subst n)
    | with_reducible refine Frame.ite ?_ ?_
    | with_reducible refine wr_frame (by with_reducible assumption) ?_ _ _
    | with_reducible refine State.setTrc_frame s_State_setTrc ?_ _
    | with_reducible refine State.emit_frame s_State_emit ?_ _ _ _
    | split

def State.trcPut_foot : Nat := 0x800000000000000000000000000000000000000000000000000000000000000000000000000000000000000000000000000000000000000000000000000000000000000000100080
theorem State.trcPut_frame (hm : Sub State.trcPut_foot m) (h : Frame m s0 s) :
    ∀ a1, Frame m s0 (State.trcPut s a1) := by
  intro a1
  have s_State_setTrc : Sub State.setTrc_foot m := hm.of (by decide)
  have s_State_send : Sub State.send_foot m := hm.of (by decide)
  have k_TRC_WRITTEN_written : Has m TRC_WRITTEN_written := hm.has 18 11 rfl (by decide)
  unfold State.trcPut
  repeat' first
    | with_reducible assumption
    | (extract_lets -underBinder +onlyGivenNames x; have u : True := (by clear_value x; guard_hyp x :ₛ State; trivial); clear u; refine Frame.cut (m := m) (s0 := s0) (t := x) ?_ ?_; (on_goal 1 => subst x); (on_goal 2 => (intro hx; clear_value x)))
    | (extract_lets -underBinder +onlyGivenNames n; first | clear_value n | subst n)
    | with_reducible refine Frame.ite ?_ ?_
    | with_reducible refine wr_frame (by with_reducible assumption) ?_ _ _
    | with_reducible refine State.setTrc_frame s_State_setTrc ?_ _
    | with_reducible refine State.send_frame s_State_send ?_ _
    | split

def State.trcWrite_foot : Nat := 0x820000000000000000000000000000000000000000000000000000000000000000000000000000000000000000000000000000000000000000000000000000000000000000100080
theorem State.trcWrite_frame (hm : Sub State.trcWrite_foot m) (h : Frame m s0 s) :
    Frame m s0 (State.trcWrite s) := by
  have s_State_trcPut : Sub State.trcPut_foot m := hm.of (by decide)
  have s_State_drainLanes : Sub State.drainLanes_foot m := hm.of (by decide)
  have s_State_setTrc : Sub State.setTrc_foot m := hm.of (by decide)
  have k_TRC_STAT_loss : Has m TRC_STAT_loss := hm.has 18 5 rfl (by decide)
  unfold State.trcWrite
  repeat' first
    | with_reducible assumption
    | (extract_lets -underBinder +onlyGivenNames x; have u : True := (by clear_value x; guard_hyp x :ₛ State; trivial); clear u; refine Frame.cut (m := m) (s0 := s0) (t := x) ?_ ?_; (on_goal 1 => subst x); (on_goal 2 => (intro hx; clear_value x)))
    | (extract_lets -underBinder +onlyGivenNames n; first | clear_value n | subst n)
    | with_reducible refine Frame.ite ?_ ?_
    | with_reducible refine bump_frame (by with_reducible assumption) ?_ _
    | with_reducible refine State.trcPut_frame s_State_trcPut ?_ _
    | with_reducible refine State.drainLanes_frame s_State_drainLanes ?_
    | with_reducible refine State.setTrc_frame s_State_setTrc ?_ _
    | split

def State.trcDrop_foot : Nat := 0x700000000000000000000000000000000000000000000000000000000000000000000000000000000000000000000000000000000000000000000000000000000000000000100000
theorem State.trcDrop_frame (hm : Sub State.trcDrop_foot m) (h : Frame m s0 s) :
    Frame m s0 (State.trcDrop s) := by
  have s_State_drainLanes : Sub State.drainLanes_foot m := hm.of (by decide)
  have s_State_dropGroup : Sub State.dropGroup_foot m := hm.of (by decide)
  have s_State_setTrc : Sub State.setTrc_foot m := hm.of (by decide)
  unfold State.trcDrop
  repeat' first
    | with_reducible assumption
    | (extract_lets -underBinder +onlyGivenNames x; have u : True := (by clear_value x; guard_hyp x :ₛ State; trivial); clear u; refine Frame.cut (m := m) (s0 := s0) (t := x) ?_ ?_; (on_goal 1 => subst x); (on_goal 2 => (intro hx; clear_value x)))
    | (extract_lets -underBinder +onlyGivenNames n; first | clear_value n | subst n)
    | with_reducible refine Frame.ite ?_ ?_
    | with_reducible refine State.drainLanes_frame s_State_drainLanes ?_
    | with_reducible refine State.dropGroup_frame s_State_dropGroup ?_ _
    | with_reducible refine State.setTrc_frame s_State_setTrc ?_ _
    | split

def traceGroupWrite_foot : Nat := 0xf20000000000000000000000000000000000000000000000000000000000000000000000000000000000000000000000000000000000000000000000000000000000000000100080
theorem traceGroupWrite_frame (hm : Sub traceGroupWrite_foot m) (h : Frame m s0 s) :
    Frame m s0 (traceGroupWrite s) := by
  have s_State_trcWrite : Sub State.trcWrite_foot m := hm.of (by decide)
  have s_State_trcDrop : Sub State.trcDrop_foot m := hm.of (by decide)
  unfold traceGroupWrite
  repeat' first
    | with_reducible assumption
    | with_reducible refine Frame.ite ?_ ?_
    | with_reducible refine State.trcWrite_frame s_State_trcWrite ?_
    | with_reducible refine State.trcDrop_frame s_State_trcDrop ?_
    | split

def traceConsumedReread_foot : Nat := 0x10000000000000000000000000000000000000000000000000000000000000000000000000000000000000000000000000000000000000000000000000000000100180
theorem traceConsumedReread_frame (hm : Sub traceConsumedReread_foot m) (h : Frame m s0 s) :
    ∀ a0, Frame m s0 (traceConsumedReread a0 s) := by
  intro a0
  have s_State_emitLim : Sub State.emitLim_foot m := hm.of (by decide)
  have s_State_setTrc : Sub State.setTrc_foot m := hm.of (by decide)
  have s_State_send : Sub State.send_foot m := hm.of (by decide)
  unfold traceConsumedReread
  repeat' first
    | with_reducible assumption
    | (extract_lets -underBinder +onlyGivenNames x; have u : True := (by clear_value x; guard_hyp x :ₛ State; trivial); clear u; refine Frame.cut (m := m) (s0 := s0) (t := x) ?_ ?_; (on_goal 1 => subst x); (on_goal 2 => (intro hx; clear_value x)))
    | (extract_lets -underBinder +onlyGivenNames n; first | clear_value n | subst n)
    | with_reducible refine Frame.ite ?_ ?_
    | with_reducible refine State.emitLim_frame s_State_emitLim ?_ _ _ _ _ _
    | with_reducible refine State.setTrc_frame s_State_setTrc ?_ _
    | with_reducible refine State.send_frame s_State_send ?_ _
    | split

def State.trcHeader_foot : Nat := 0x100080
theorem State.trcHeader_frame (hm : Sub State.trcHeader_foot m) (h : Frame m s0 s) :
    Frame m s0 (State.trcHeader s) := by
  have s_State_setTrc : Sub State.setTrc_foot m := hm.of (by decide)
  have s_State_send : Sub State.send_foot m := hm.of (by decide)
  unfold State.trcHeader
  repeat' first
    | with_reducible assumption
    | (extract_lets -underBinder +onlyGivenNames x; have u : True := (by clear_value x; guard_hyp x :ₛ State; trivial); clear u; refine Frame.cut (m := m) (s0 := s0) (t := x) ?_ ?_; (on_goal 1 => subst x); (on_goal 2 => (intro hx; clear_value x)))
    | (extract_lets -underBinder +onlyGivenNames n; first | clear_value n | subst n)
    | with_reducible refine Frame.ite ?_ ?_
    | with_reducible refine State.setTrc_frame s_State_setTrc ?_ _
    | with_reducible refine State.send_frame s_State_send ?_ _

def traceHeaderUpdate_foot : Nat := 0x100080
theorem traceHeaderUpdate_frame (hm : Sub traceHeaderUpdate_foot m) (h : Frame m s0 s) :
    Frame m s0 (traceHeaderUpdate s) := by
  have s_State_trcHeader : Sub State.trcHeader_foot m := hm.of (by decide)
  unfold traceHeaderUpdate
  repeat' first
    | with_reducible assumption
    | with_reducible refine Frame.ite ?_ ?_
    | with_reducible refine State.trcHeader_frame s_State_trcHeader ?_
    | split

def traceTimeGroup_foot : Nat := 0x100000
theorem traceTimeGroup_frame (hm : Sub traceTimeGroup_foot m) (h : Frame m s0 s) :
    Frame m s0 (traceTimeGroup s) := by
  have s_State_setTrc : Sub State.setTrc_foot m := hm.of (by decide)
  unfold traceTimeGroup
  repeat' first
    | with_reducible assumption
    | (extract_lets -underBinder +onlyGivenNames x; have u : True := (by clear_value x; guard_hyp x :ₛ State; trivial); clear u; refine Frame.cut (m := m) (s0 := s0) (t := x) ?_ ?_; (on_goal 1 => subst x); (on_goal 2 => (intro hx; clear_value x)))
    | (extract_lets -underBinder +onlyGivenNames n; first | clear_value n | subst n)
    | with_reducible refine Frame.ite ?_ ?_
    | with_reducible refine State.setTrc_frame s_State_setTrc ?_ _
    | split

def traceSample_foot : Nat := 0x700000000000000000000000000000000000000000000000000000000000000000000000000000000000000000000000000000000000000000000000000000000000000000100000
theorem traceSample_frame (hm : Sub traceSample_foot m) (h : Frame m s0 s) :
    Frame m s0 (traceSample s) := by
  have s_State_stageGroup : Sub State.stageGroup_foot m := hm.of (by decide)
  have s_State_setTrc : Sub State.setTrc_foot m := hm.of (by decide)
  unfold traceSample
  repeat' first
    | with_reducible assumption
    | (extract_lets -underBinder +onlyGivenNames x; have u : True := (by clear_value x; guard_hyp x :ₛ State; trivial); clear u; refine Frame.cut (m := m) (s0 := s0) (t := x) ?_ ?_; (on_goal 1 => subst x); (on_goal 2 => (intro hx; clear_value x)))
    | (extract_lets -underBinder +onlyGivenNames n; first | clear_value n | subst n)
    | with_reducible refine Frame.ite ?_ ?_
    | with_reducible refine State.stageGroup_frame s_State_stageGroup ?_ _
    | with_reducible refine State.setTrc_frame s_State_setTrc ?_ _
    | split

def traceStart_foot : Nat := 0x38180000000100000000000000000000000000000000000000000000000000000000000000000000000000000000000000000000000000000000000000000000000000000a0100180
theorem traceStart_frame (hm : Sub traceStart_foot m) (h : Frame m s0 s) :
    ∀ a0, Frame m s0 (traceStart a0 s) := by
  intro a0
  have s_State_complete : Sub State.complete_foot m := hm.of (by decide)
  have s_State_setTrc : Sub State.setTrc_foot m := hm.of (by decide)
  have s_State_send : Sub State.send_foot m := hm.of (by decide)
  have s_State_emit : Sub State.emit_foot m := hm.of (by decide)
  have k_TRC_BASE_base : Has m TRC_BASE_base := hm.has 18 12 rfl (by decide)
  have k_TRC_SIZE_size : Has m TRC_SIZE_size := hm.has 18 13 rfl (by decide)
  have k_TRC_STAT_kinds : Has m TRC_STAT_kinds := hm.has 18 4 rfl (by decide)
  have k_TRC_STAT_state : Has m TRC_STAT_state := hm.has 18 3 rfl (by decide)
  have k_TRC_WRITTEN_written : Has m TRC_WRITTEN_written := hm.has 18 11 rfl (by decide)
  unfold traceStart
  repeat' first
    | with_reducible assumption
    | (extract_lets -underBinder +onlyGivenNames x; have u : True := (by clear_value x; guard_hyp x :ₛ State; trivial); clear u; refine Frame.cut (m := m) (s0 := s0) (t := x) ?_ ?_; (on_goal 1 => subst x); (on_goal 2 => (intro hx; clear_value x)))
    | (extract_lets -underBinder +onlyGivenNames n; first | clear_value n | subst n)
    | with_reducible refine Frame.ite ?_ ?_
    | with_reducible refine wr_frame (by with_reducible assumption) ?_ _ _
    | with_reducible refine State.complete_frame s_State_complete ?_ _ _ _
    | with_reducible refine State.setTrc_frame s_State_setTrc ?_ _
    | with_reducible refine State.send_frame s_State_send ?_ _
    | with_reducible refine State.emit_frame s_State_emit ?_ _ _ _
    | split

def trcFlush_foot : Nat := 0xf20000000000000000000000000000000000000000000000000000000000000000000000000000000000000000000000000000000000000000000000000000000000000000100080
theorem trcFlush_frame (hm : Sub trcFlush_foot m) (h : Frame m s0 s) :
    ∀ a0, Frame m s0 (trcFlush a0 s) := by
  intro a0
  have s1 : Sub State.trcWrite_foot m := hm.of (by decide)
  have s2 : Sub State.trcDrop_foot m := hm.of (by decide)
  induction a0 generalizing s with
  | zero => exact h
  | succ n ih =>
    rw [trcFlush]
    split
    · exact h
    · split
      · exact ih (State.trcWrite_frame s1 h)
      · split
        · exact h
        · exact ih (State.trcDrop_frame s2 h)

def traceStop_foot : Nat := 0xf280000000100000000000000000000000000000000000000000000000000000000000000000000000000000000000000000000000000000000000000000000000000000a0100180
theorem traceStop_frame (hm : Sub traceStop_foot m) (h : Frame m s0 s) :
    ∀ a0, Frame m s0 (traceStop a0 s) := by
  intro a0
  have s_trcFlush : Sub trcFlush_foot m := hm.of (by decide)
  have s_State_complete : Sub State.complete_foot m := hm.of (by decide)
  have s_State_setTrc : Sub State.setTrc_foot m := hm.of (by decide)
  have s_State_send : Sub State.send_foot m := hm.of (by decide)
  have s_State_emit : Sub State.emit_foot m := hm.of (by decide)
  have s_State_trcHeader : Sub State.trcHeader_foot m := hm.of (by decide)
  have k_TRC_STAT_state : Has m TRC_STAT_state := hm.has 18 3 rfl (by decide)
  unfold traceStop
  repeat' first
    | with_reducible assumption
    | (extract_lets -underBinder +onlyGivenNames x; have u : True := (by clear_value x; guard_hyp x :ₛ State; trivial); clear u; refine Frame.cut (m := m) (s0 := s0) (t := x) ?_ ?_; (on_goal 1 => subst x); (on_goal 2 => (intro hx; clear_value x)))
    | (extract_lets -underBinder +onlyGivenNames n; first | clear_value n | subst n)
    | with_reducible refine Frame.ite ?_ ?_
    | with_reducible refine wr_frame (by with_reducible assumption) ?_ _ _
    | with_reducible refine trcFlush_frame s_trcFlush ?_ _
    | with_reducible refine State.complete_frame s_State_complete ?_ _ _ _
    | with_reducible refine State.setTrc_frame s_State_setTrc ?_ _
    | with_reducible refine State.send_frame s_State_send ?_ _
    | with_reducible refine State.emit_frame s_State_emit ?_ _ _ _
    | with_reducible refine State.trcHeader_frame s_State_trcHeader ?_
    | split

def traceFlush_foot : Nat := 0xf200000000000000000000000000000000000000000000000000000000000000000000000000000000000000000000000000000000000000000000000000000000000000a0100080
theorem traceFlush_frame (hm : Sub traceFlush_foot m) (h : Frame m s0 s) :
    ∀ a0, Frame m s0 (traceFlush a0 s) := by
  intro a0
  have s_trcFlush : Sub trcFlush_foot m := hm.of (by decide)
  have s_State_complete : Sub State.complete_foot m := hm.of (by decide)
  have s_State_trcHeader : Sub State.trcHeader_foot m := hm.of (by decide)
  unfold traceFlush
  repeat' first
    | with_reducible assumption
    | (extract_lets -underBinder +onlyGivenNames x; have u : True := (by clear_value x; guard_hyp x :ₛ State; trivial); clear u; refine Frame.cut (m := m) (s0 := s0) (t := x) ?_ ?_; (on_goal 1 => subst x); (on_goal 2 => (intro hx; clear_value x)))
    | (extract_lets -underBinder +onlyGivenNames n; first | clear_value n | subst n)
    | with_reducible refine Frame.ite ?_ ?_
    | with_reducible refine trcFlush_frame s_trcFlush ?_ _
    | with_reducible refine State.complete_frame s_State_complete ?_ _ _ _
    | with_reducible refine State.trcHeader_frame s_State_trcHeader ?_
    | split

def cntDump_foot : Nat := 0xa0000080
theorem cntDump_frame (hm : Sub cntDump_foot m) (h : Frame m s0 s) :
    ∀ a0, Frame m s0 (cntDump a0 s) := by
  intro a0
  have s_State_complete : Sub State.complete_foot m := hm.of (by decide)
  have s_State_send : Sub State.send_foot m := hm.of (by decide)
  unfold cntDump
  repeat' first
    | with_reducible assumption
    | (extract_lets -underBinder +onlyGivenNames x; have u : True := (by clear_value x; guard_hyp x :ₛ State; trivial); clear u; refine Frame.cut (m := m) (s0 := s0) (t := x) ?_ ?_; (on_goal 1 => subst x); (on_goal 2 => (intro hx; clear_value x)))
    | (extract_lets -underBinder +onlyGivenNames n; first | clear_value n | subst n)
    | with_reducible refine Frame.ite ?_ ?_
    | with_reducible refine State.complete_frame s_State_complete ?_ _ _ _
    | with_reducible refine State.send_frame s_State_send ?_ _
    | split

def cntZero_foot : Nat := 0xa0400080
theorem cntZero_frame (hm : Sub cntZero_foot m) (h : Frame m s0 s) :
    ∀ a0, Frame m s0 (cntZero a0 s) := by
  intro a0
  have s_State_complete : Sub State.complete_foot m := hm.of (by decide)
  have c_cntZero : m.testBit 22 = true := hm.bit 22 (by decide)
  unfold cntZero
  repeat' first
    | with_reducible assumption
    | (extract_lets -underBinder +onlyGivenNames x; have u : True := (by clear_value x; guard_hyp x :ₛ State; trivial); clear u; refine Frame.cut (m := m) (s0 := s0) (t := x) ?_ ?_; (on_goal 1 => subst x); (on_goal 2 => (intro hx; clear_value x)))
    | (extract_lets -underBinder +onlyGivenNames n; first | clear_value n | subst n)
    | with_reducible refine Frame.ite ?_ ?_
    | with_reducible refine State.complete_frame s_State_complete ?_ _ _ _
    | with_reducible exact Frame.set_cntZero c_cntZero (by with_reducible assumption)
    | split

def State.stepDone_foot : Nat := 0xa0000080
theorem State.stepDone_frame (hm : Sub State.stepDone_foot m) (h : Frame m s0 s) :
    ∀ a1 a2, Frame m s0 (State.stepDone s a1 a2) := by
  intro a1 a2
  have s_State_complete : Sub State.complete_foot m := hm.of (by decide)
  unfold State.stepDone
  repeat' first
    | with_reducible assumption
    | with_reducible refine Frame.ite ?_ ?_
    | with_reducible refine State.complete_frame s_State_complete ?_ _ _ _

def stepEnter_foot : Nat := 0x3c00000000000000000000000000000000000000000000000000000a0000080
theorem stepEnter_frame (hm : Sub stepEnter_foot m) (h : Frame m s0 s) :
    ∀ a0, Frame m s0 (stepEnter a0 s) := by
  intro a0
  have s_State_stepDone : Sub State.stepDone_foot m := hm.of (by decide)
  have s_State_complete : Sub State.complete_foot m := hm.of (by decide)
  have s_State_showHeld : Sub State.showHeld_foot m := hm.of (by decide)
  have k_CHK_STEP_credits : Has m CHK_STEP_credits := hm.has 8 22 rfl (by decide)
  have k_CHK_STEP_mode : Has m CHK_STEP_mode := hm.has 8 20 rfl (by decide)
  unfold stepEnter
  repeat' first
    | with_reducible assumption
    | (extract_lets -underBinder +onlyGivenNames x; have u : True := (by clear_value x; guard_hyp x :ₛ State; trivial); clear u; refine Frame.cut (m := m) (s0 := s0) (t := x) ?_ ?_; (on_goal 1 => subst x); (on_goal 2 => (intro hx; clear_value x)))
    | (extract_lets -underBinder +onlyGivenNames n; first | clear_value n | subst n)
    | with_reducible refine Frame.ite ?_ ?_
    | with_reducible refine wr_frame (by with_reducible assumption) ?_ _ _
    | with_reducible refine State.stepDone_frame s_State_stepDone ?_ _ _
    | with_reducible refine State.complete_frame s_State_complete ?_ _ _ _
    | with_reducible refine State.showHeld_frame s_State_showHeld ?_ _
    | split

def stepAdd_foot : Nat := 0x1000000000000000000000000000000000000000000000000000000a0000080
theorem stepAdd_frame (hm : Sub stepAdd_foot m) (h : Frame m s0 s) :
    ∀ a0, Frame m s0 (stepAdd a0 s) := by
  intro a0
  have s_State_stepDone : Sub State.stepDone_foot m := hm.of (by decide)
  have s_State_complete : Sub State.complete_foot m := hm.of (by decide)
  have k_CHK_STEP_credits : Has m CHK_STEP_credits := hm.has 8 22 rfl (by decide)
  unfold stepAdd
  repeat' first
    | with_reducible assumption
    | (extract_lets -underBinder +onlyGivenNames x; have u : True := (by clear_value x; guard_hyp x :ₛ State; trivial); clear u; refine Frame.cut (m := m) (s0 := s0) (t := x) ?_ ?_; (on_goal 1 => subst x); (on_goal 2 => (intro hx; clear_value x)))
    | (extract_lets -underBinder +onlyGivenNames n; first | clear_value n | subst n)
    | with_reducible refine Frame.ite ?_ ?_
    | with_reducible refine wr_frame (by with_reducible assumption) ?_ _ _
    | with_reducible refine State.stepDone_frame s_State_stepDone ?_ _ _
    | with_reducible refine State.complete_frame s_State_complete ?_ _ _ _
    | split

def stepLeave_foot : Nat := 0x100000000040080012000000000000000000000000000000000000000000000000000003c00000000000000000000000000000000000000000000000000000a0008980
theorem stepLeave_frame (hm : Sub stepLeave_foot m) (h : Frame m s0 s) :
    ∀ a0, Frame m s0 (stepLeave a0 s) := by
  intro a0
  have s_State_stepDone : Sub State.stepDone_foot m := hm.of (by decide)
  have s_State_present : Sub State.present_foot m := hm.of (by decide)
  have s_State_setLane : Sub State.setLane_foot m := hm.of (by decide)
  have s_State_pickReq : Sub State.pickReq_foot m := hm.of (by decide)
  have k_CHK_STEP_credits : Has m CHK_STEP_credits := hm.has 8 22 rfl (by decide)
  have k_CHK_STEP_mode : Has m CHK_STEP_mode := hm.has 8 20 rfl (by decide)
  unfold stepLeave
  repeat' first
    | with_reducible assumption
    | (extract_lets -underBinder +onlyGivenNames x; have u : True := (by clear_value x; guard_hyp x :ₛ State; trivial); clear u; refine Frame.cut (m := m) (s0 := s0) (t := x) ?_ ?_; (on_goal 1 => subst x); (on_goal 2 => (intro hx; clear_value x)))
    | (extract_lets -underBinder +onlyGivenNames n; first | clear_value n | subst n)
    | with_reducible refine Frame.ite ?_ ?_
    | with_reducible refine wr_frame (by with_reducible assumption) ?_ _ _
    | with_reducible refine State.stepDone_frame s_State_stepDone ?_ _ _
    | with_reducible refine State.present_frame s_State_present ?_ _ _
    | with_reducible refine State.setLane_frame s_State_setLane ?_ _ _
    | with_reducible refine State.pickReq_frame s_State_pickReq ?_ _
    | split

def State.showEdge_foot : Nat := 0x1000000000000000000000000000000000000000000000000000000000000000000000000000000000000000000000000000000000000000000000000000000000000000000000000000
theorem State.showEdge_frame (hm : Sub State.showEdge_foot m) (h : Frame m s0 s) :
    Frame m s0 (State.showEdge s) := by
  have k_CNT_WFG_EDGE : Has m CNT_WFG_EDGE := hm.has 19 10 rfl (by decide)
  unfold State.showEdge
  repeat' first
    | with_reducible assumption
    | with_reducible refine Frame.ite ?_ ?_
    | with_reducible refine wr_frame (by with_reducible assumption) ?_ _ _
    | split

def State.wfgBegin_foot : Nat := 0x21f0000000000000000000000000000000000000000000000000000000000000000000000000000000000000000000000000000000000000000000000000000000000000000000200000
theorem State.wfgBegin_frame (hm : Sub State.wfgBegin_foot m) (h : Frame m s0 s) :
    ∀ a1, Frame m s0 (State.wfgBegin s a1) := by
  intro a1
  have k_CNT_WFG_T_ts : Has m CNT_WFG_T_ts := hm.has 19 11 rfl (by decide)
  have k_CNT_WFG_busy : Has m CNT_WFG_busy := hm.has 19 2 rfl (by decide)
  have k_CNT_WFG_cycle : Has m CNT_WFG_cycle := hm.has 19 4 rfl (by decide)
  have k_CNT_WFG_edges : Has m CNT_WFG_edges := hm.has 19 6 rfl (by decide)
  have k_CNT_WFG_trunc : Has m CNT_WFG_trunc := hm.has 19 5 rfl (by decide)
  have k_CNT_WFG_valid : Has m CNT_WFG_valid := hm.has 19 3 rfl (by decide)
  have c_wfg : m.testBit 21 = true := hm.bit 21 (by decide)
  unfold State.wfgBegin
  repeat' first
    | with_reducible assumption
    | (extract_lets -underBinder +onlyGivenNames x; have u : True := (by clear_value x; guard_hyp x :ₛ State; trivial); clear u; refine Frame.cut (m := m) (s0 := s0) (t := x) ?_ ?_; (on_goal 1 => subst x); (on_goal 2 => (intro hx; clear_value x)))
    | (extract_lets -underBinder +onlyGivenNames n; first | clear_value n | subst n)
    | with_reducible refine Frame.ite ?_ ?_
    | with_reducible refine wr_frame (by with_reducible assumption) ?_ _ _
    | with_reducible exact Frame.set_wfg c_wfg (by with_reducible assumption)
    | split

def wfgStart_foot : Nat := 0x21f0000000000000000000000000000000000000000000000000000000000000000000000000000000000000000000000000000000000000000000000000000000000000000000200000
theorem wfgStart_frame (hm : Sub wfgStart_foot m) (h : Frame m s0 s) :
    ∀ a0, Frame m s0 (wfgStart a0 s) := by
  intro a0
  have s_State_wfgBegin : Sub State.wfgBegin_foot m := hm.of (by decide)
  unfold wfgStart
  repeat' first
    | with_reducible assumption
    | with_reducible refine Frame.ite ?_ ?_
    | with_reducible refine State.wfgBegin_frame s_State_wfgBegin ?_ _
    | split

def wfgAutoTrigger_foot : Nat := 0x21f0000000000000000000000000000000000000000000000000000000000000000000000000000000000000000000000000000000000000000000000000000000000000000000200000
theorem wfgAutoTrigger_frame (hm : Sub wfgAutoTrigger_foot m) (h : Frame m s0 s) :
    Frame m s0 (wfgAutoTrigger s) := by
  have s_State_wfgBegin : Sub State.wfgBegin_foot m := hm.of (by decide)
  unfold wfgAutoTrigger
  repeat' first
    | with_reducible assumption
    | (extract_lets -underBinder +onlyGivenNames x; have u : True := (by clear_value x; guard_hyp x :ₛ State; trivial); clear u; refine Frame.cut (m := m) (s0 := s0) (t := x) ?_ ?_; (on_goal 1 => subst x); (on_goal 2 => (intro hx; clear_value x)))
    | (extract_lets -underBinder +onlyGivenNames n; first | clear_value n | subst n)
    | with_reducible refine Frame.ite ?_ ?_
    | with_reducible refine State.wfgBegin_frame s_State_wfgBegin ?_ _
    | split

def wfgComplete_foot : Nat := 0x11f0700000000010000000000000000000000000000000000000000000000000000000000000000000000000000000000000000000000000000000000000000000000000000000300100
theorem wfgComplete_frame (hm : Sub wfgComplete_foot m) (h : Frame m s0 s) :
    Frame m s0 (wfgComplete s) := by
  have s_State_stageGroup : Sub State.stageGroup_foot m := hm.of (by decide)
  have s_State_showEdge : Sub State.showEdge_foot m := hm.of (by decide)
  have s_State_emit : Sub State.emit_foot m := hm.of (by decide)
  have k_CNT_WFG_busy : Has m CNT_WFG_busy := hm.has 19 2 rfl (by decide)
  have k_CNT_WFG_cycle : Has m CNT_WFG_cycle := hm.has 19 4 rfl (by decide)
  have k_CNT_WFG_edges : Has m CNT_WFG_edges := hm.has 19 6 rfl (by decide)
  have k_CNT_WFG_trunc : Has m CNT_WFG_trunc := hm.has 19 5 rfl (by decide)
  have k_CNT_WFG_valid : Has m CNT_WFG_valid := hm.has 19 3 rfl (by decide)
  have c_wfg : m.testBit 21 = true := hm.bit 21 (by decide)
  unfold wfgComplete
  repeat' first
    | with_reducible assumption
    | (extract_lets -underBinder +onlyGivenNames x; have u : True := (by clear_value x; guard_hyp x :ₛ State; trivial); clear u; refine Frame.cut (m := m) (s0 := s0) (t := x) ?_ ?_; (on_goal 1 => subst x); (on_goal 2 => (intro hx; clear_value x)))
    | (extract_lets -underBinder +onlyGivenNames n; first | clear_value n | subst n)
    | with_reducible refine Frame.ite ?_ ?_
    | with_reducible refine wr_frame (by with_reducible assumption) ?_ _ _
    | with_reducible refine State.stageGroup_frame s_State_stageGroup ?_ _
    | with_reducible refine State.showEdge_frame s_State_showEdge ?_
    | with_reducible refine State.emit_frame s_State_emit ?_ _ _ _
    | with_reducible exact Frame.set_wfg c_wfg (by with_reducible assumption)
    | with_reducible refine Frame.foldl ?_ (fun s x hs => ?_)
    | split

def execTraceGroupWrite_foot : Nat := 0xf20000000000000000000000000000000000000000000000000000000000000000000000000000000000000000000000000000000000000000000000000000000000000000100080
theorem execTraceGroupWrite_frame (hm : Sub execTraceGroupWrite_foot m) (h : Frame m s0 s) :
    ∃ t, execTraceGroupWrite s = .next t ∧ Frame m s0 t := by
  have s_traceGroupWrite : Sub traceGroupWrite_foot m := hm.of (by decide)
  unfold execTraceGroupWrite
  refine hubOn_frame (fun s h => ?_) h
  repeat' first
    | with_reducible assumption
    | with_reducible refine Frame.ite ?_ ?_
    | with_reducible refine traceGroupWrite_frame s_traceGroupWrite ?_

def execTraceConsumedReread_foot : Nat := 0x10000000000000000000000000000000000000000000000000000000000000000000000000000000000000000000000000000000000000000000000000000000100180
theorem execTraceConsumedReread_frame (hm : Sub execTraceConsumedReread_foot m) (h : Frame m s0 s) :
    ∀ a0, ∃ t, execTraceConsumedReread a0 s = .next t ∧ Frame m s0 t := by
  intro a0
  have s_traceConsumedReread : Sub traceConsumedReread_foot m := hm.of (by decide)
  unfold execTraceConsumedReread
  refine hubOn_frame (fun s h => ?_) h
  repeat' first
    | with_reducible assumption
    | with_reducible refine Frame.ite ?_ ?_
    | with_reducible refine traceConsumedReread_frame s_traceConsumedReread ?_ _

def execTraceHeaderUpdate_foot : Nat := 0x100080
theorem execTraceHeaderUpdate_frame (hm : Sub execTraceHeaderUpdate_foot m) (h : Frame m s0 s) :
    ∃ t, execTraceHeaderUpdate s = .next t ∧ Frame m s0 t := by
  have s_traceHeaderUpdate : Sub traceHeaderUpdate_foot m := hm.of (by decide)
  unfold execTraceHeaderUpdate
  refine hubOn_frame (fun s h => ?_) h
  repeat' first
    | with_reducible assumption
    | with_reducible refine Frame.ite ?_ ?_
    | with_reducible refine traceHeaderUpdate_frame s_traceHeaderUpdate ?_

def execTraceTimeGroup_foot : Nat := 0x100000
theorem execTraceTimeGroup_frame (hm : Sub execTraceTimeGroup_foot m) (h : Frame m s0 s) :
    ∃ t, execTraceTimeGroup s = .next t ∧ Frame m s0 t := by
  have s_traceTimeGroup : Sub traceTimeGroup_foot m := hm.of (by decide)
  unfold execTraceTimeGroup
  refine hubOn_frame (fun s h => ?_) h
  repeat' first
    | with_reducible assumption
    | with_reducible refine Frame.ite ?_ ?_
    | with_reducible refine traceTimeGroup_frame s_traceTimeGroup ?_

def execTraceSample_foot : Nat := 0x700000000000000000000000000000000000000000000000000000000000000000000000000000000000000000000000000000000000000000000000000000000000000000100000
theorem execTraceSample_frame (hm : Sub execTraceSample_foot m) (h : Frame m s0 s) :
    ∃ t, execTraceSample s = .next t ∧ Frame m s0 t := by
  have s_traceSample : Sub traceSample_foot m := hm.of (by decide)
  unfold execTraceSample
  refine hubOn_frame (fun s h => ?_) h
  repeat' first
    | with_reducible assumption
    | with_reducible refine Frame.ite ?_ ?_
    | with_reducible refine traceSample_frame s_traceSample ?_

def execTraceStart_foot : Nat := 0x38180000000100000000000000000000000000000000000000000000000000000000000000000000000000000000000000000000000000000000000000000000000000000a0100180
theorem execTraceStart_frame (hm : Sub execTraceStart_foot m) (h : Frame m s0 s) :
    ∃ t, execTraceStart s = .next t ∧ Frame m s0 t := by
  have s_traceStart : Sub traceStart_foot m := hm.of (by decide)
  have s_State_runOp : Sub State.runOp_foot m := hm.of (by decide)
  unfold execTraceStart
  refine hubOn_frame (fun s h => ?_) h
  repeat' first
    | with_reducible assumption
    | with_reducible refine Frame.ite ?_ ?_
    | with_reducible refine traceStart_frame s_traceStart ?_ _
    | with_reducible refine State.runOp_frame s_State_runOp (fun d s hs => ?_) ?_ _

def execTraceStop_foot : Nat := 0xf280000000100000000000000000000000000000000000000000000000000000000000000000000000000000000000000000000000000000000000000000000000000000a0100180
theorem execTraceStop_frame (hm : Sub execTraceStop_foot m) (h : Frame m s0 s) :
    ∃ t, execTraceStop s = .next t ∧ Frame m s0 t := by
  have s_State_runOp : Sub State.runOp_foot m := hm.of (by decide)
  have s_traceStop : Sub traceStop_foot m := hm.of (by decide)
  unfold execTraceStop
  refine hubOn_frame (fun s h => ?_) h
  repeat' first
    | with_reducible assumption
    | with_reducible refine Frame.ite ?_ ?_
    | with_reducible refine State.runOp_frame s_State_runOp (fun d s hs => ?_) ?_ _
    | with_reducible refine traceStop_frame s_traceStop ?_ _

def execTraceFlush_foot : Nat := 0xf200000000000000000000000000000000000000000000000000000000000000000000000000000000000000000000000000000000000000000000000000000000000000a0100080
theorem execTraceFlush_frame (hm : Sub execTraceFlush_foot m) (h : Frame m s0 s) :
    ∃ t, execTraceFlush s = .next t ∧ Frame m s0 t := by
  have s_State_runOp : Sub State.runOp_foot m := hm.of (by decide)
  have s_traceFlush : Sub traceFlush_foot m := hm.of (by decide)
  unfold execTraceFlush
  refine hubOn_frame (fun s h => ?_) h
  repeat' first
    | with_reducible assumption
    | with_reducible refine Frame.ite ?_ ?_
    | with_reducible refine State.runOp_frame s_State_runOp (fun d s hs => ?_) ?_ _
    | with_reducible refine traceFlush_frame s_traceFlush ?_ _

def execCntDump_foot : Nat := 0xa0000080
theorem execCntDump_frame (hm : Sub execCntDump_foot m) (h : Frame m s0 s) :
    ∃ t, execCntDump s = .next t ∧ Frame m s0 t := by
  have s_cntDump : Sub cntDump_foot m := hm.of (by decide)
  have s_State_runOp : Sub State.runOp_foot m := hm.of (by decide)
  unfold execCntDump
  refine hubOn_frame (fun s h => ?_) h
  repeat' first
    | with_reducible assumption
    | with_reducible refine Frame.ite ?_ ?_
    | with_reducible refine cntDump_frame s_cntDump ?_ _
    | with_reducible refine State.runOp_frame s_State_runOp (fun d s hs => ?_) ?_ _

def execCntZero_foot : Nat := 0xa0400080
theorem execCntZero_frame (hm : Sub execCntZero_foot m) (h : Frame m s0 s) :
    ∃ t, execCntZero s = .next t ∧ Frame m s0 t := by
  have s_State_runOp : Sub State.runOp_foot m := hm.of (by decide)
  have s_cntZero : Sub cntZero_foot m := hm.of (by decide)
  unfold execCntZero
  refine hubOn_frame (fun s h => ?_) h
  repeat' first
    | with_reducible assumption
    | with_reducible refine Frame.ite ?_ ?_
    | with_reducible refine State.runOp_frame s_State_runOp (fun d s hs => ?_) ?_ _
    | with_reducible refine cntZero_frame s_cntZero ?_ _

def execStepEnter_foot : Nat := 0x3c00000000000000000000000000000000000000000000000000000a0000080
theorem execStepEnter_frame (hm : Sub execStepEnter_foot m) (h : Frame m s0 s) :
    ∃ t, execStepEnter s = .next t ∧ Frame m s0 t := by
  have s_State_runOp : Sub State.runOp_foot m := hm.of (by decide)
  have s_stepEnter : Sub stepEnter_foot m := hm.of (by decide)
  unfold execStepEnter
  refine hubOn_frame (fun s h => ?_) h
  repeat' first
    | with_reducible assumption
    | with_reducible refine Frame.ite ?_ ?_
    | with_reducible refine State.runOp_frame s_State_runOp (fun d s hs => ?_) ?_ _
    | with_reducible refine stepEnter_frame s_stepEnter ?_ _

def execStepAdd_foot : Nat := 0x1000000000000000000000000000000000000000000000000000000a0000080
theorem execStepAdd_frame (hm : Sub execStepAdd_foot m) (h : Frame m s0 s) :
    ∃ t, execStepAdd s = .next t ∧ Frame m s0 t := by
  have s_State_runOp : Sub State.runOp_foot m := hm.of (by decide)
  have s_stepAdd : Sub stepAdd_foot m := hm.of (by decide)
  unfold execStepAdd
  refine hubOn_frame (fun s h => ?_) h
  repeat' first
    | with_reducible assumption
    | with_reducible refine Frame.ite ?_ ?_
    | with_reducible refine State.runOp_frame s_State_runOp (fun d s hs => ?_) ?_ _
    | with_reducible refine stepAdd_frame s_stepAdd ?_ _

def execStepLeave_foot : Nat := 0x100000000040080012000000000000000000000000000000000000000000000000000003c00000000000000000000000000000000000000000000000000000a0008980
theorem execStepLeave_frame (hm : Sub execStepLeave_foot m) (h : Frame m s0 s) :
    ∃ t, execStepLeave s = .next t ∧ Frame m s0 t := by
  have s_State_runOp : Sub State.runOp_foot m := hm.of (by decide)
  have s_stepLeave : Sub stepLeave_foot m := hm.of (by decide)
  unfold execStepLeave
  refine hubOn_frame (fun s h => ?_) h
  repeat' first
    | with_reducible assumption
    | with_reducible refine Frame.ite ?_ ?_
    | with_reducible refine State.runOp_frame s_State_runOp (fun d s hs => ?_) ?_ _
    | with_reducible refine stepLeave_frame s_stepLeave ?_ _

def execWfgStart_foot : Nat := 0x21f0000000000000000000000000000000000000000000000000000000000000000000000000000000000000000000000000000000000000000000000000000000000000000000200000
theorem execWfgStart_frame (hm : Sub execWfgStart_foot m) (h : Frame m s0 s) :
    ∀ a0, ∃ t, execWfgStart a0 s = .next t ∧ Frame m s0 t := by
  intro a0
  have s_wfgStart : Sub wfgStart_foot m := hm.of (by decide)
  unfold execWfgStart
  refine hubOn_frame (fun s h => ?_) h
  repeat' first
    | with_reducible assumption
    | with_reducible refine Frame.ite ?_ ?_
    | with_reducible refine wfgStart_frame s_wfgStart ?_ _

def execWfgAutoTrigger_foot : Nat := 0x21f0000000000000000000000000000000000000000000000000000000000000000000000000000000000000000000000000000000000000000000000000000000000000000000200000
theorem execWfgAutoTrigger_frame (hm : Sub execWfgAutoTrigger_foot m) (h : Frame m s0 s) :
    ∃ t, execWfgAutoTrigger s = .next t ∧ Frame m s0 t := by
  have s_wfgAutoTrigger : Sub wfgAutoTrigger_foot m := hm.of (by decide)
  unfold execWfgAutoTrigger
  refine hubOn_frame (fun s h => ?_) h
  repeat' first
    | with_reducible assumption
    | with_reducible refine Frame.ite ?_ ?_
    | with_reducible refine wfgAutoTrigger_frame s_wfgAutoTrigger ?_

def execWfgComplete_foot : Nat := 0x11f0700000000010000000000000000000000000000000000000000000000000000000000000000000000000000000000000000000000000000000000000000000000000000000300100
theorem execWfgComplete_frame (hm : Sub execWfgComplete_foot m) (h : Frame m s0 s) :
    ∃ t, execWfgComplete s = .next t ∧ Frame m s0 t := by
  have s_wfgComplete : Sub wfgComplete_foot m := hm.of (by decide)
  unfold execWfgComplete
  refine hubOn_frame (fun s h => ?_) h
  repeat' first
    | with_reducible assumption
    | with_reducible refine Frame.ite ?_ ?_
    | with_reducible refine wfgComplete_frame s_wfgComplete ?_

end Sys2Proof.Machine
end

