-- ==== Sys2Proof/Laws/FrameFabric.lean ====
section
/-!
SUPPORT. Laws/FrameFabric.lean: the footprint of every function of Machine/Fabric.lean, and that it writes nothing outside it.
-/
namespace Sys2Proof.Machine

set_option linter.all false

variable {m : Nat} {s0 s : State}

def State.dataFails_foot : Nat := 0x100000000000000000000000000000000000000000000000000000000000000000000000000000000000000001000000000000000000000000000000000000a0000180
theorem State.dataFails_frame (hm : Sub State.dataFails_foot m) (h : Frame m s0 s) :
    ∀ a1 a2 a3, Frame m s0 (State.dataFails s a1 a2 a3) := by
  intro a1 a2 a3
  have s_State_runOp : Sub State.runOp_foot m := hm.of (by decide)
  have s_State_fabricEvent : Sub State.fabricEvent_foot m := hm.of (by decide)
  have s_State_complete : Sub State.complete_foot m := hm.of (by decide)
  unfold State.dataFails
  repeat' first
    | with_reducible assumption
    | with_reducible refine Frame.ite ?_ ?_
    | with_reducible refine State.runOp_frame s_State_runOp (fun d s hs => ?_) ?_ _
    | with_reducible refine State.fabricEvent_frame s_State_fabricEvent ?_ _ _ _
    | with_reducible refine State.complete_frame s_State_complete ?_ _ _ _

def State.ringStops_foot : Nat := 0x10000000000000000000000000000000000000000000000000000000000000000000000000000000000000003100000000000000000000000000000000000020000100
theorem State.ringStops_frame (hm : Sub State.ringStops_foot m) (h : Frame m s0 s) :
    ∀ a1 a2 a3, Frame m s0 (State.ringStops s a1 a2 a3) := by
  intro a1 a2 a3
  have s_State_setRState : Sub State.setRState_foot m := hm.of (by decide)
  have s_State_fabricEvent : Sub State.fabricEvent_foot m := hm.of (by decide)
  unfold State.ringStops
  repeat' first
    | with_reducible assumption
    | with_reducible refine Frame.ite ?_ ?_
    | with_reducible refine State.setRState_frame s_State_setRState ?_ _ _
    | with_reducible refine State.fabricEvent_frame s_State_fabricEvent ?_ _ _ _
    | split

def fabricError_foot : Nat := 0x80000000100000000000000000000000000000000000000000000000000000000000000000000000000000000000000031000000000000000000000000000000000000a0100180
theorem fabricError_frame (hm : Sub fabricError_foot m) (h : Frame m s0 s) :
    ∀ a0 a1 a2, Frame m s0 (fabricError a0 a1 a2 s) := by
  intro a0 a1 a2
  have s_descriptorFetched : Sub descriptorFetched_foot m := hm.of (by decide)
  have s_State_dataFails : Sub State.dataFails_foot m := hm.of (by decide)
  have s_State_trcFail : Sub State.trcFail_foot m := hm.of (by decide)
  have s_State_ringStops : Sub State.ringStops_foot m := hm.of (by decide)
  unfold fabricError
  repeat' first
    | with_reducible assumption
    | (extract_lets -underBinder +onlyGivenNames x; have u : True := (by clear_value x; guard_hyp x :ₛ State; trivial); clear u; refine Frame.cut (m := m) (s0 := s0) (t := x) ?_ ?_; (on_goal 1 => subst x); (on_goal 2 => (intro hx; clear_value x)))
    | (extract_lets -underBinder +onlyGivenNames n; first | clear_value n | subst n)
    | with_reducible refine Frame.ite ?_ ?_
    | with_reducible refine descriptorFetched_frame s_descriptorFetched ?_ _ _ _
    | with_reducible refine State.dataFails_frame s_State_dataFails ?_ _ _ _
    | with_reducible refine State.trcFail_frame s_State_trcFail ?_
    | with_reducible refine State.ringStops_frame s_State_ringStops ?_ _ _ _
    | split

def execFabricError_foot : Nat := 0x80000000100000000000000000000000000000000000000000000000000000000000000000000000000000000000000031000000000000000000000000000000000000a0100180
theorem execFabricError_frame (hm : Sub execFabricError_foot m) (h : Frame m s0 s) :
    ∀ a0 a1 a2, ∃ t, execFabricError a0 a1 a2 s = .next t ∧ Frame m s0 t := by
  intro a0 a1 a2
  have s_fabricError : Sub fabricError_foot m := hm.of (by decide)
  unfold execFabricError
  refine hubOn_frame (fun s h => ?_) h
  repeat' first
    | with_reducible assumption
    | with_reducible refine Frame.ite ?_ ?_
    | with_reducible refine fabricError_frame s_fabricError ?_ _ _ _

end Sys2Proof.Machine
end

