-- ==== Sys2Proof/Laws/FrameSalgorOps.lean ====
section
/-!
SUPPORT. Laws/FrameSalgorOps.lean: the footprint of every function of Machine/SalgorOps.lean, and that it writes nothing outside it.
-/
namespace Sys2Proof.Machine

set_option linter.all false

variable {m : Nat} {s0 s : State}

def State.mgtSetRole_foot : Nat := 0x80000000000000000000010000000000000000000000000000000000000000000000000000000000000000000000000000000000000000000000000000000000000000000000000000000000100
theorem State.mgtSetRole_frame (hm : Sub State.mgtSetRole_foot m) (h : Frame m s0 s) :
    ∀ a1, Frame m s0 (State.mgtSetRole s a1) := by
  intro a1
  have s_State_emit : Sub State.emit_foot m := hm.of (by decide)
  have k_MGT_STAT_role : Has m MGT_STAT_role := hm.has 21 4 rfl (by decide)
  unfold State.mgtSetRole
  repeat' first
    | with_reducible assumption
    | (extract_lets -underBinder +onlyGivenNames x; have u : True := (by clear_value x; guard_hyp x :ₛ State; trivial); clear u; refine Frame.cut (m := m) (s0 := s0) (t := x) ?_ ?_; (on_goal 1 => subst x); (on_goal 2 => (intro hx; clear_value x)))
    | (extract_lets -underBinder +onlyGivenNames n; first | clear_value n | subst n)
    | with_reducible refine Frame.ite ?_ ?_
    | with_reducible refine wr_frame (by with_reducible assumption) ?_ _ _
    | with_reducible refine State.emit_frame s_State_emit ?_ _ _ _
    | split

def State.setMgt_foot : Nat := 0x4000000000
theorem State.setMgt_frame (hm : Sub State.setMgt_foot m) (h : Frame m s0 s) :
    ∀ a1, Frame m s0 (State.setMgt s a1) := by
  intro a1
  have c_mgt : m.testBit 38 = true := hm.bit 38 (by decide)
  unfold State.setMgt
  repeat' first
    | with_reducible assumption
    | (extract_lets -underBinder +onlyGivenNames x; have u : True := (by clear_value x; guard_hyp x :ₛ State; trivial); clear u; refine Frame.cut (m := m) (s0 := s0) (t := x) ?_ ?_; (on_goal 1 => subst x); (on_goal 2 => (intro hx; clear_value x)))
    | (extract_lets -underBinder +onlyGivenNames n; first | clear_value n | subst n)
    | with_reducible refine Frame.ite ?_ ?_
    | with_reducible exact Frame.set_mgt c_mgt (by with_reducible assumption)

def State.laneOut_foot : Nat := 0x80000080
theorem State.laneOut_frame (hm : Sub State.laneOut_foot m) (h : Frame m s0 s) :
    ∀ a1 a2, Frame m s0 (State.laneOut s a1 a2) := by
  intro a1 a2
  have s_State_setPar : Sub State.setPar_foot m := hm.of (by decide)
  have s_State_send : Sub State.send_foot m := hm.of (by decide)
  have s_State_mirror : Sub State.mirror_foot m := hm.of (by decide)
  unfold State.laneOut
  repeat' first
    | with_reducible assumption
    | (extract_lets -underBinder +onlyGivenNames x; have u : True := (by clear_value x; guard_hyp x :ₛ State; trivial); clear u; refine Frame.cut (m := m) (s0 := s0) (t := x) ?_ ?_; (on_goal 1 => subst x); (on_goal 2 => (intro hx; clear_value x)))
    | (extract_lets -underBinder +onlyGivenNames n; first | clear_value n | subst n)
    | with_reducible refine Frame.ite ?_ ?_
    | with_reducible refine State.setPar_frame s_State_setPar ?_ _
    | with_reducible refine State.send_frame s_State_send ?_ _
    | with_reducible refine State.mirror_frame s_State_mirror ?_ _ _ _
    | split

def State.mgtSendAs_foot : Nat := 0x400000000000000000000000000000000000000000000000000000000000000000000000000000000000000000000000000000000000000000000000000000000000000000000000000000000004080000080
theorem State.mgtSendAs_frame (hm : Sub State.mgtSendAs_foot m) (h : Frame m s0 s) :
    ∀ a1 a2 a3 a4 a5 a6, Frame m s0 (State.mgtSendAs s a1 a2 a3 a4 a5 a6) := by
  intro a1 a2 a3 a4 a5 a6
  have s_State_laneOut : Sub State.laneOut_foot m := hm.of (by decide)
  have s_State_setMgt : Sub State.setMgt_foot m := hm.of (by decide)
  have k_MGT_VIOL_noroute : Has m MGT_VIOL_noroute := hm.has 21 43 rfl (by decide)
  unfold State.mgtSendAs
  repeat' first
    | with_reducible assumption
    | (extract_lets -underBinder +onlyGivenNames x; have u : True := (by clear_value x; guard_hyp x :ₛ State; trivial); clear u; refine Frame.cut (m := m) (s0 := s0) (t := x) ?_ ?_; (on_goal 1 => subst x); (on_goal 2 => (intro hx; clear_value x)))
    | (extract_lets -underBinder +onlyGivenNames n; first | clear_value n | subst n)
    | with_reducible refine Frame.ite ?_ ?_
    | with_reducible refine bump_frame (by with_reducible assumption) ?_ _
    | with_reducible refine State.laneOut_frame s_State_laneOut ?_ _ _
    | with_reducible refine State.setMgt_frame s_State_setMgt ?_ _
    | with_reducible refine Frame.foldl ?_ (fun s x hs => ?_)
    | split

def State.mgtSend_foot : Nat := 0x400000000000000000000000000000000000000000000000000000000000000000000000000000000000000000000000000000000000000000000000000000000000000000000000000000000004080000080
theorem State.mgtSend_frame (hm : Sub State.mgtSend_foot m) (h : Frame m s0 s) :
    ∀ a1 a2 a3 a4, Frame m s0 (State.mgtSend s a1 a2 a3 a4) := by
  intro a1 a2 a3 a4
  have s_State_mgtSendAs : Sub State.mgtSendAs_foot m := hm.of (by decide)
  unfold State.mgtSend
  repeat' first
    | with_reducible assumption
    | with_reducible refine Frame.ite ?_ ?_
    | with_reducible refine State.mgtSendAs_frame s_State_mgtSendAs ?_ _ _ _ _ _ _

def State.mgtSendC_foot : Nat := 0x400000000000000000000000000000000000000000000000000000000000000000000000000000000000000000000000000000000000000000000000000000000000000000000000000000000004080000080
theorem State.mgtSendC_frame (hm : Sub State.mgtSendC_foot m) (h : Frame m s0 s) :
    ∀ a1 a2 a3, Frame m s0 (State.mgtSendC s a1 a2 a3) := by
  intro a1 a2 a3
  have s_State_mgtSend : Sub State.mgtSend_foot m := hm.of (by decide)
  unfold State.mgtSendC
  repeat' first
    | with_reducible assumption
    | with_reducible refine Frame.ite ?_ ?_
    | with_reducible refine State.mgtSend_frame s_State_mgtSend ?_ _ _ _ _

def State.mgtDrop_foot : Nat := 0x10000000000000000000000000000000000000000000000000000000000000000000000000000000000000000000000000000000000000000000000000000000000100
theorem State.mgtDrop_frame (hm : Sub State.mgtDrop_foot m) {f : Fld} (kf : Has m f) (h : Frame m s0 s) :
    ∀ a1 a3, Frame m s0 (State.mgtDrop s a1 f a3) := by
  intro a1 a3
  have s_State_emitLim : Sub State.emitLim_foot m := hm.of (by decide)
  unfold State.mgtDrop
  repeat' first
    | with_reducible assumption
    | with_reducible refine Frame.ite ?_ ?_
    | with_reducible refine bump_frame (by with_reducible assumption) ?_ _
    | with_reducible refine State.emitLim_frame s_State_emitLim ?_ _ _ _ _ _

def State.showOfs_foot : Nat := 0xc0000000000000000000000000000000000000000000000000000000000000000000000000000000000000000000000000000000000000000000000000000000000000000000000000000000000000000
theorem State.showOfs_frame (hm : Sub State.showOfs_foot m) (h : Frame m s0 s) :
    Frame m s0 (State.showOfs s) := by
  have k_MGT_OFS : Has m MGT_OFS := hm.has 21 27 rfl (by decide)
  have k_MGT_RATE_rate : Has m MGT_RATE_rate := hm.has 21 28 rfl (by decide)
  unfold State.showOfs
  repeat' first
    | with_reducible assumption
    | with_reducible refine Frame.ite ?_ ?_
    | with_reducible refine wr_frame (by with_reducible assumption) ?_ _ _

def State.latchTim_foot : Nat := 0x4000000000
theorem State.latchTim_frame (hm : Sub State.latchTim_foot m) (h : Frame m s0 s) :
    Frame m s0 (State.latchTim s) := by
  have s_State_setMgt : Sub State.setMgt_foot m := hm.of (by decide)
  unfold State.latchTim
  repeat' first
    | with_reducible assumption
    | with_reducible refine Frame.ite ?_ ?_
    | with_reducible refine State.setMgt_frame s_State_setMgt ?_ _

def State.mgtAged_foot : Nat := 0x200000000000000000000000000000000000000000000000000000000000000000000000000000000000000000000000000000000000000000000000000000000000000000000000000000000000000000000
theorem State.mgtAged_frame (hm : Sub State.mgtAged_foot m) (h : Frame m s0 s) :
    ∀ a1, Frame m s0 (State.mgtAged s a1).1 := by
  intro a1
  have k_MGT_VIOL_ttl : Has m MGT_VIOL_ttl := hm.has 21 42 rfl (by decide)
  unfold State.mgtAged
  repeat' first
    | with_reducible assumption
    | (extract_lets -underBinder +onlyGivenNames x; have u : True := (by clear_value x; guard_hyp x :ₛ State × Option (List Byte); trivial); clear u; refine Frame.cut (m := m) (s0 := s0) (t := x.1) ?_ ?_; (on_goal 1 => subst x); (on_goal 2 => (intro hx; clear_value x)))
    | with_reducible refine Frame.ite ?_ ?_
    | with_reducible refine bump_frame (by with_reducible assumption) ?_ _
    | with_reducible refine Frame.iteFst ?_ ?_
    | with_reducible refine Frame.ofFst (by with_reducible assumption) ?_
    | split
    | dsimp -zeta only

def State.mgtForward_foot : Nat := 0x600000000000000000000000000000000000000000000000000000000000000000000000000000000000000000000000000000000000000000000000000000000000000000000000000000000000000000080
theorem State.mgtForward_frame (hm : Sub State.mgtForward_foot m) (h : Frame m s0 s) :
    ∀ a1 a2, Frame m s0 (State.mgtForward s a1 a2) := by
  intro a1 a2
  have s_State_mgtAged : Sub State.mgtAged_foot m := hm.of (by decide)
  have s_State_send : Sub State.send_foot m := hm.of (by decide)
  have k_MGT_VIOL_noroute : Has m MGT_VIOL_noroute := hm.has 21 43 rfl (by decide)
  unfold State.mgtForward
  repeat' first
    | with_reducible assumption
    | (extract_lets -underBinder +onlyGivenNames x; have u : True := (by clear_value x; guard_hyp x :ₛ State; trivial); clear u; refine Frame.cut (m := m) (s0 := s0) (t := x) ?_ ?_; (on_goal 1 => subst x); (on_goal 2 => (intro hx; clear_value x)))
    | (extract_lets -underBinder +onlyGivenNames x; have u : True := (by clear_value x; guard_hyp x :ₛ State × Option (List Byte); trivial); clear u; refine Frame.cut (m := m) (s0 := s0) (t := x.1) ?_ ?_; (on_goal 1 => subst x); (on_goal 2 => (intro hx; clear_value x)))
    | (extract_lets -underBinder +onlyGivenNames n; first | clear_value n | subst n)
    | with_reducible refine Frame.ite ?_ ?_
    | with_reducible refine bump_frame (by with_reducible assumption) ?_ _
    | with_reducible refine State.mgtAged_frame s_State_mgtAged ?_ _
    | with_reducible refine State.send_frame s_State_send ?_ _
    | with_reducible refine Frame.foldl ?_ (fun s x hs => ?_)
    | with_reducible refine Frame.ofFst (by with_reducible assumption) ?_
    | split

end Sys2Proof.Machine
end

