-- ==== Sys2Proof/Laws/FrameSalgor.lean ====
section
/-!
SUPPORT. Laws/FrameSalgor.lean: the footprint of every function of Machine/Salgor.lean, and that it writes nothing outside it.
-/
namespace Sys2Proof.Machine

set_option linter.all false

variable {m : Nat} {s0 s : State}

def State.onCsyncAck_foot : Nat := 0x80000000000000000000010000000000000000000000000000000000000000000000000000000000000000000000000000000000000000000000000000000000000000000000000004000000100
theorem State.onCsyncAck_frame (hm : Sub State.onCsyncAck_foot m) (h : Frame m s0 s) :
    ∀ a1, Frame m s0 (State.onCsyncAck s a1) := by
  intro a1
  have s_State_mgtSetRole : Sub State.mgtSetRole_foot m := hm.of (by decide)
  have s_State_setMgt : Sub State.setMgt_foot m := hm.of (by decide)
  unfold State.onCsyncAck
  repeat' first
    | with_reducible assumption
    | (extract_lets -underBinder +onlyGivenNames x; have u : True := (by clear_value x; guard_hyp x :ₛ State; trivial); clear u; refine Frame.cut (m := m) (s0 := s0) (t := x) ?_ ?_; (on_goal 1 => subst x); (on_goal 2 => (intro hx; clear_value x)))
    | (extract_lets -underBinder +onlyGivenNames n; first | clear_value n | subst n)
    | with_reducible refine Frame.ite ?_ ?_
    | with_reducible refine State.mgtSetRole_frame s_State_mgtSetRole ?_ _
    | with_reducible refine State.setMgt_frame s_State_setMgt ?_ _
    | split

def State.showReady_foot : Nat := 0x200000000000000000000000000000000000000000000000000000000000000000000000000000000000000000000000000000000000000000000000000000000000000000000000000000000000
theorem State.showReady_frame (hm : Sub State.showReady_foot m) (h : Frame m s0 s) :
    Frame m s0 (State.showReady s) := by
  have k_MGT_STAT_ready : Has m MGT_STAT_ready := hm.has 21 6 rfl (by decide)
  unfold State.showReady
  repeat' first
    | with_reducible assumption
    | (extract_lets -underBinder +onlyGivenNames x; have u : True := (by clear_value x; guard_hyp x :ₛ State; trivial); clear u; refine Frame.cut (m := m) (s0 := s0) (t := x) ?_ ?_; (on_goal 1 => subst x); (on_goal 2 => (intro hx; clear_value x)))
    | (extract_lets -underBinder +onlyGivenNames n; first | clear_value n | subst n)
    | with_reducible refine Frame.ite ?_ ?_
    | with_reducible refine wr_frame (by with_reducible assumption) ?_ _ _
    | split

def State.setMem_foot : Nat := 0x4080000080
theorem State.setMem_frame (hm : Sub State.setMem_foot m) (h : Frame m s0 s) :
    ∀ a1 a2, Frame m s0 (State.setMem s a1 a2) := by
  intro a1 a2
  have s_State_setMgt : Sub State.setMgt_foot m := hm.of (by decide)
  have s_State_mirror : Sub State.mirror_foot m := hm.of (by decide)
  unfold State.setMem
  repeat' first
    | with_reducible assumption
    | (extract_lets -underBinder +onlyGivenNames x; have u : True := (by clear_value x; guard_hyp x :ₛ State; trivial); clear u; refine Frame.cut (m := m) (s0 := s0) (t := x) ?_ ?_; (on_goal 1 => subst x); (on_goal 2 => (intro hx; clear_value x)))
    | (extract_lets -underBinder +onlyGivenNames n; first | clear_value n | subst n)
    | with_reducible refine Frame.ite ?_ ?_
    | with_reducible refine State.setMgt_frame s_State_setMgt ?_ _
    | with_reducible refine State.mirror_frame s_State_mirror ?_ _ _ _

def State.onCsync_foot : Nat := 0x400000000200000000000000000000000000000000000000000000000000000000000000000000000000000000000000000000000000000000000000000000000000000000000000000000000004080000080
theorem State.onCsync_frame (hm : Sub State.onCsync_foot m) (h : Frame m s0 s) :
    ∀ a1, Frame m s0 (State.onCsync s a1) := by
  intro a1
  have s_State_showReady : Sub State.showReady_foot m := hm.of (by decide)
  have s_State_setMem : Sub State.setMem_foot m := hm.of (by decide)
  have s_State_mgtSend : Sub State.mgtSend_foot m := hm.of (by decide)
  have s_State_setMgt : Sub State.setMgt_foot m := hm.of (by decide)
  unfold State.onCsync
  repeat' first
    | with_reducible assumption
    | (extract_lets -underBinder +onlyGivenNames x; have u : True := (by clear_value x; guard_hyp x :ₛ State; trivial); clear u; refine Frame.cut (m := m) (s0 := s0) (t := x) ?_ ?_; (on_goal 1 => subst x); (on_goal 2 => (intro hx; clear_value x)))
    | (extract_lets -underBinder +onlyGivenNames n; first | clear_value n | subst n)
    | with_reducible refine Frame.ite ?_ ?_
    | with_reducible refine State.showReady_frame s_State_showReady ?_
    | with_reducible refine State.setMem_frame s_State_setMem ?_ _ _
    | with_reducible refine State.mgtSend_frame s_State_mgtSend ?_ _ _ _ _
    | with_reducible refine State.setMgt_frame s_State_setMgt ?_ _
    | with_reducible refine Frame.foldTo ?_ (fun s x hs => ?_)
    | split

def State.sendVersion_foot : Nat := 0x400000000000000000000000000000000000000000000000000000000000000000000000000000000000000000000000000000000000000000000000000000000000000000000000000000000004080000080
theorem State.sendVersion_frame (hm : Sub State.sendVersion_foot m) (h : Frame m s0 s) :
    Frame m s0 (State.sendVersion s) := by
  have s_State_mgtSendC : Sub State.mgtSendC_foot m := hm.of (by decide)
  have s_State_setMgt : Sub State.setMgt_foot m := hm.of (by decide)
  unfold State.sendVersion
  repeat' first
    | with_reducible assumption
    | (extract_lets -underBinder +onlyGivenNames x; have u : True := (by clear_value x; guard_hyp x :ₛ State; trivial); clear u; refine Frame.cut (m := m) (s0 := s0) (t := x) ?_ ?_; (on_goal 1 => subst x); (on_goal 2 => (intro hx; clear_value x)))
    | (extract_lets -underBinder +onlyGivenNames n; first | clear_value n | subst n)
    | with_reducible refine Frame.ite ?_ ?_
    | with_reducible refine State.mgtSendC_frame s_State_mgtSendC ?_ _ _ _
    | with_reducible refine State.setMgt_frame s_State_setMgt ?_ _

def State.enterJoining_foot : Nat := 0x400000000040000000000000000000000000000000000000000000000000000000000000000000000000000000000000000000000000000000000000000000000000000000000000000000000004080000080
theorem State.enterJoining_frame (hm : Sub State.enterJoining_foot m) (h : Frame m s0 s) :
    Frame m s0 (State.enterJoining s) := by
  have s_State_sendVersion : Sub State.sendVersion_foot m := hm.of (by decide)
  have k_MGT_STAT_state : Has m MGT_STAT_state := hm.has 21 3 rfl (by decide)
  unfold State.enterJoining
  repeat' first
    | with_reducible assumption
    | (extract_lets -underBinder +onlyGivenNames x; have u : True := (by clear_value x; guard_hyp x :ₛ State; trivial); clear u; refine Frame.cut (m := m) (s0 := s0) (t := x) ?_ ?_; (on_goal 1 => subst x); (on_goal 2 => (intro hx; clear_value x)))
    | (extract_lets -underBinder +onlyGivenNames n; first | clear_value n | subst n)
    | with_reducible refine Frame.ite ?_ ?_
    | with_reducible refine wr_frame (by with_reducible assumption) ?_ _ _
    | with_reducible refine State.sendVersion_frame s_State_sendVersion ?_
    | split

def State.selfLeave_foot : Nat := 0x400000000040000000000000000000000000000000000000000000000000000000000000000000000000000000000000000000000000000000000000000000000000000000000000000000000004080000080
theorem State.selfLeave_frame (hm : Sub State.selfLeave_foot m) (h : Frame m s0 s) :
    ∀ a1, Frame m s0 (State.selfLeave s a1) := by
  intro a1
  have s_State_enterJoining : Sub State.enterJoining_foot m := hm.of (by decide)
  unfold State.selfLeave
  repeat' first
    | with_reducible assumption
    | with_reducible refine Frame.ite ?_ ?_
    | with_reducible refine State.enterJoining_frame s_State_enterJoining ?_
    | split

def State.csyncMember_foot : Nat := 0x400000000000000000000000000000000000000000000000000000000000000000000000000000000000000000000000000000000000000000000000000000000000000000000000000000000004080000080
theorem State.csyncMember_frame (hm : Sub State.csyncMember_foot m) (h : Frame m s0 s) :
    ∀ a1, Frame m s0 (State.csyncMember s a1) := by
  intro a1
  have s_State_mgtSend : Sub State.mgtSend_foot m := hm.of (by decide)
  unfold State.csyncMember
  repeat' first
    | with_reducible assumption
    | with_reducible refine Frame.ite ?_ ?_
    | with_reducible refine State.mgtSend_frame s_State_mgtSend ?_ _ _ _ _

def State.onLeave_foot : Nat := 0x400000000040000000000000000000010000000000000000000000000000000000000000000000000000000000000000000000000000000000000000000000000000000000000000000000000004080000180
theorem State.onLeave_frame (hm : Sub State.onLeave_foot m) (h : Frame m s0 s) :
    ∀ a1, Frame m s0 (State.onLeave s a1) := by
  intro a1
  have s_State_selfLeave : Sub State.selfLeave_foot m := hm.of (by decide)
  have s_State_csyncMember : Sub State.csyncMember_foot m := hm.of (by decide)
  have s_State_enterJoining : Sub State.enterJoining_foot m := hm.of (by decide)
  have s_State_setMem : Sub State.setMem_foot m := hm.of (by decide)
  have s_State_setMgt : Sub State.setMgt_foot m := hm.of (by decide)
  have s_State_emit : Sub State.emit_foot m := hm.of (by decide)
  unfold State.onLeave
  repeat' first
    | with_reducible assumption
    | (extract_lets -underBinder +onlyGivenNames x; have u : True := (by clear_value x; guard_hyp x :ₛ State; trivial); clear u; refine Frame.cut (m := m) (s0 := s0) (t := x) ?_ ?_; (on_goal 1 => subst x); (on_goal 2 => (intro hx; clear_value x)))
    | (extract_lets -underBinder +onlyGivenNames n; first | clear_value n | subst n)
    | with_reducible refine Frame.ite ?_ ?_
    | with_reducible refine State.selfLeave_frame s_State_selfLeave ?_ _
    | with_reducible refine State.csyncMember_frame s_State_csyncMember ?_ _
    | with_reducible refine State.enterJoining_frame s_State_enterJoining ?_
    | with_reducible refine State.setMem_frame s_State_setMem ?_ _ _
    | with_reducible refine State.setMgt_frame s_State_setMgt ?_ _
    | with_reducible refine State.emit_frame s_State_emit ?_ _ _ _
    | split

def State.joinRefuse_foot : Nat := 0x400000000000000000000000000000010000000000000000000000000000000000000000000000000000000000000000000000000000000000000000000000000000000000000000000000000004080000180
theorem State.joinRefuse_frame (hm : Sub State.joinRefuse_foot m) (h : Frame m s0 s) :
    ∀ a1 a2, Frame m s0 (State.joinRefuse s a1 a2) := by
  intro a1 a2
  have s_State_mgtSend : Sub State.mgtSend_foot m := hm.of (by decide)
  have s_State_emit : Sub State.emit_foot m := hm.of (by decide)
  unfold State.joinRefuse
  repeat' first
    | with_reducible assumption
    | with_reducible refine Frame.ite ?_ ?_
    | with_reducible refine State.mgtSend_frame s_State_mgtSend ?_ _ _ _ _
    | with_reducible refine State.emit_frame s_State_emit ?_ _ _ _

def State.joinAccept_foot : Nat := 0x400000000000000000000000000000010000000000000000000000000000000000000000000000000000000000000000000000000000000000000000000000000000000000000000000000000004080000180
theorem State.joinAccept_frame (hm : Sub State.joinAccept_foot m) (h : Frame m s0 s) :
    ∀ a1, Frame m s0 (State.joinAccept s a1) := by
  intro a1
  have s_State_csyncMember : Sub State.csyncMember_foot m := hm.of (by decide)
  have s_State_setMem : Sub State.setMem_foot m := hm.of (by decide)
  have s_State_mgtSend : Sub State.mgtSend_foot m := hm.of (by decide)
  have s_State_emit : Sub State.emit_foot m := hm.of (by decide)
  unfold State.joinAccept
  repeat' first
    | with_reducible assumption
    | (extract_lets -underBinder +onlyGivenNames x; have u : True := (by clear_value x; guard_hyp x :ₛ State; trivial); clear u; refine Frame.cut (m := m) (s0 := s0) (t := x) ?_ ?_; (on_goal 1 => subst x); (on_goal 2 => (intro hx; clear_value x)))
    | (extract_lets -underBinder +onlyGivenNames n; first | clear_value n | subst n)
    | with_reducible refine Frame.ite ?_ ?_
    | with_reducible refine State.csyncMember_frame s_State_csyncMember ?_ _
    | with_reducible refine State.setMem_frame s_State_setMem ?_ _ _
    | with_reducible refine State.mgtSend_frame s_State_mgtSend ?_ _ _ _ _
    | with_reducible refine State.emit_frame s_State_emit ?_ _ _ _
    | split

def State.joinRequest_foot : Nat := 0x400000000000000000000000000000010000000000000000000000000000000000000000000000000000000000000000000000000000000000000000000000000000000000000000000000000004080000180
theorem State.joinRequest_frame (hm : Sub State.joinRequest_foot m) (h : Frame m s0 s) :
    ∀ a1, Frame m s0 (State.joinRequest s a1) := by
  intro a1
  have s_State_joinRefuse : Sub State.joinRefuse_foot m := hm.of (by decide)
  have s_State_joinAccept : Sub State.joinAccept_foot m := hm.of (by decide)
  have s_State_setMgt : Sub State.setMgt_foot m := hm.of (by decide)
  unfold State.joinRequest
  repeat' first
    | with_reducible assumption
    | (extract_lets -underBinder +onlyGivenNames x; have u : True := (by clear_value x; guard_hyp x :ₛ State; trivial); clear u; refine Frame.cut (m := m) (s0 := s0) (t := x) ?_ ?_; (on_goal 1 => subst x); (on_goal 2 => (intro hx; clear_value x)))
    | (extract_lets -underBinder +onlyGivenNames n; first | clear_value n | subst n)
    | with_reducible refine Frame.ite ?_ ?_
    | with_reducible refine State.joinRefuse_frame s_State_joinRefuse ?_ _ _
    | with_reducible refine State.joinAccept_frame s_State_joinAccept ?_ _
    | with_reducible refine State.setMgt_frame s_State_setMgt ?_ _
    | split

def State.takeTerm_foot : Nat := 0x800000000000000000000000000000000000000000000000000000000000000000000000000000000000000000000000000000000000000000000000000000000000000000000000000000000000
theorem State.takeTerm_frame (hm : Sub State.takeTerm_foot m) (h : Frame m s0 s) :
    ∀ a1, Frame m s0 (State.takeTerm s a1) := by
  intro a1
  have k_MGT_STAT_term : Has m MGT_STAT_term := hm.has 21 8 rfl (by decide)
  unfold State.takeTerm
  repeat' first
    | with_reducible assumption
    | with_reducible refine Frame.ite ?_ ?_
    | with_reducible refine wr_frame (by with_reducible assumption) ?_ _ _
    | split

def State.onVersion_foot : Nat := 0x400000000940000000000000000000010000000000000000000000000000000000000000000000000000000000000000000000000000000000000000000000000000000000000000000000000004080000180
theorem State.onVersion_frame (hm : Sub State.onVersion_foot m) (h : Frame m s0 s) :
    ∀ a1, Frame m s0 (State.onVersion s a1) := by
  intro a1
  have s_State_joinRequest : Sub State.joinRequest_foot m := hm.of (by decide)
  have s_State_takeTerm : Sub State.takeTerm_foot m := hm.of (by decide)
  have s_State_setMgt : Sub State.setMgt_foot m := hm.of (by decide)
  have s_State_emit : Sub State.emit_foot m := hm.of (by decide)
  have k_MGT_STAT_bound : Has m MGT_STAT_bound := hm.has 21 5 rfl (by decide)
  have k_MGT_STAT_state : Has m MGT_STAT_state := hm.has 21 3 rfl (by decide)
  unfold State.onVersion
  repeat' first
    | with_reducible assumption
    | (extract_lets -underBinder +onlyGivenNames x; have u : True := (by clear_value x; guard_hyp x :ₛ State; trivial); clear u; refine Frame.cut (m := m) (s0 := s0) (t := x) ?_ ?_; (on_goal 1 => subst x); (on_goal 2 => (intro hx; clear_value x)))
    | (extract_lets -underBinder +onlyGivenNames n; first | clear_value n | subst n)
    | with_reducible refine Frame.ite ?_ ?_
    | with_reducible refine wr_frame (by with_reducible assumption) ?_ _ _
    | with_reducible refine State.joinRequest_frame s_State_joinRequest ?_ _
    | with_reducible refine State.takeTerm_frame s_State_takeTerm ?_ _
    | with_reducible refine State.setMgt_frame s_State_setMgt ?_ _
    | with_reducible refine State.emit_frame s_State_emit ?_ _ _ _
    | split

def State.sendLeave_foot : Nat := 0x400000000000000000000000000000000000000000000000000000000000000000000000000000000000000000000000000000000000000000000000000000000000000000000000000000000004080000080
theorem State.sendLeave_frame (hm : Sub State.sendLeave_foot m) (h : Frame m s0 s) :
    ∀ a1 a2, Frame m s0 (State.sendLeave s a1 a2) := by
  intro a1 a2
  have s_State_mgtSend : Sub State.mgtSend_foot m := hm.of (by decide)
  unfold State.sendLeave
  repeat' first
    | with_reducible assumption
    | with_reducible refine Frame.ite ?_ ?_
    | with_reducible refine State.mgtSend_frame s_State_mgtSend ?_ _ _ _ _

def State.onDemand_foot : Nat := 0x480000000000000000000000000000010000000000000000000000000000000000000000000000000000000000000000000000000000000000000000000000000000000000000000000000000004080000180
theorem State.onDemand_frame (hm : Sub State.onDemand_foot m) (h : Frame m s0 s) :
    ∀ a1, Frame m s0 (State.onDemand s a1) := by
  intro a1
  have s_State_mgtDrop : Sub State.mgtDrop_foot m := hm.of (by decide)
  have s_State_sendLeave : Sub State.sendLeave_foot m := hm.of (by decide)
  have s_State_setMem : Sub State.setMem_foot m := hm.of (by decide)
  have s_State_setMgt : Sub State.setMgt_foot m := hm.of (by decide)
  have k_MGT_VIOL_late : Has m MGT_VIOL_late := hm.has 21 40 rfl (by decide)
  have k_MGT_VIOL_noroute : Has m MGT_VIOL_noroute := hm.has 21 43 rfl (by decide)
  unfold State.onDemand
  repeat' first
    | with_reducible assumption
    | (extract_lets -underBinder +onlyGivenNames x; have u : True := (by clear_value x; guard_hyp x :ₛ State; trivial); clear u; refine Frame.cut (m := m) (s0 := s0) (t := x) ?_ ?_; (on_goal 1 => subst x); (on_goal 2 => (intro hx; clear_value x)))
    | (extract_lets -underBinder +onlyGivenNames n; first | clear_value n | subst n)
    | with_reducible refine Frame.ite ?_ ?_
    | with_reducible refine bump_frame (by with_reducible assumption) ?_ _
    | with_reducible refine State.mgtDrop_frame s_State_mgtDrop (by with_reducible assumption) ?_ _ _
    | with_reducible refine State.sendLeave_frame s_State_sendLeave ?_ _ _
    | with_reducible refine State.setMem_frame s_State_setMem ?_ _ _
    | with_reducible refine State.setMgt_frame s_State_setMgt ?_ _
    | split

def State.onGrant_foot : Nat := 0x80000000800000000000000000000010000000000000000000000000000000000000000000000000000000000000000000000000000000000000000000000000000000000000000000000000004000000100
theorem State.onGrant_frame (hm : Sub State.onGrant_foot m) (h : Frame m s0 s) :
    ∀ a1, Frame m s0 (State.onGrant s a1) := by
  intro a1
  have s_State_mgtDrop : Sub State.mgtDrop_foot m := hm.of (by decide)
  have s_State_takeTerm : Sub State.takeTerm_foot m := hm.of (by decide)
  have s_State_setMgt : Sub State.setMgt_foot m := hm.of (by decide)
  have k_MGT_VIOL_late : Has m MGT_VIOL_late := hm.has 21 40 rfl (by decide)
  unfold State.onGrant
  repeat' first
    | with_reducible assumption
    | (extract_lets -underBinder +onlyGivenNames x; have u : True := (by clear_value x; guard_hyp x :ₛ State; trivial); clear u; refine Frame.cut (m := m) (s0 := s0) (t := x) ?_ ?_; (on_goal 1 => subst x); (on_goal 2 => (intro hx; clear_value x)))
    | (extract_lets -underBinder +onlyGivenNames n; first | clear_value n | subst n)
    | with_reducible refine Frame.ite ?_ ?_
    | with_reducible refine State.mgtDrop_frame s_State_mgtDrop (by with_reducible assumption) ?_ _ _
    | with_reducible refine State.takeTerm_frame s_State_takeTerm ?_ _
    | with_reducible refine State.setMgt_frame s_State_setMgt ?_ _
    | split

def State.standDown_foot : Nat := 0x280000000000000000000010000000000000000000000000000000000000000000000000000000000000000000000000000000000000000000000000000000000000000000000000004000000100
theorem State.standDown_frame (hm : Sub State.standDown_foot m) (h : Frame m s0 s) :
    Frame m s0 (State.standDown s) := by
  have s_State_mgtSetRole : Sub State.mgtSetRole_foot m := hm.of (by decide)
  have s_State_setMgt : Sub State.setMgt_foot m := hm.of (by decide)
  have k_MGT_STAT_ready : Has m MGT_STAT_ready := hm.has 21 6 rfl (by decide)
  unfold State.standDown
  repeat' first
    | with_reducible assumption
    | (extract_lets -underBinder +onlyGivenNames x; have u : True := (by clear_value x; guard_hyp x :ₛ State; trivial); clear u; refine Frame.cut (m := m) (s0 := s0) (t := x) ?_ ?_; (on_goal 1 => subst x); (on_goal 2 => (intro hx; clear_value x)))
    | (extract_lets -underBinder +onlyGivenNames n; first | clear_value n | subst n)
    | with_reducible refine Frame.ite ?_ ?_
    | with_reducible refine wr_frame (by with_reducible assumption) ?_ _ _
    | with_reducible refine State.mgtSetRole_frame s_State_mgtSetRole ?_ _
    | with_reducible refine State.setMgt_frame s_State_setMgt ?_ _

def State.mgtHeard_foot : Nat := 0x40000000000000000000010000000000000000000000000000000000000000000000000000000000000000000000000000000000000000000000000000000000000000000000000004000000100
theorem State.mgtHeard_frame (hm : Sub State.mgtHeard_foot m) (h : Frame m s0 s) :
    Frame m s0 (State.mgtHeard s) := by
  have s_State_setMgt : Sub State.setMgt_foot m := hm.of (by decide)
  have s_State_emit : Sub State.emit_foot m := hm.of (by decide)
  have k_MGT_STAT_state : Has m MGT_STAT_state := hm.has 21 3 rfl (by decide)
  unfold State.mgtHeard
  repeat' first
    | with_reducible assumption
    | (extract_lets -underBinder +onlyGivenNames x; have u : True := (by clear_value x; guard_hyp x :ₛ State; trivial); clear u; refine Frame.cut (m := m) (s0 := s0) (t := x) ?_ ?_; (on_goal 1 => subst x); (on_goal 2 => (intro hx; clear_value x)))
    | (extract_lets -underBinder +onlyGivenNames n; first | clear_value n | subst n)
    | with_reducible refine Frame.ite ?_ ?_
    | with_reducible refine wr_frame (by with_reducible assumption) ?_ _ _
    | with_reducible refine State.setMgt_frame s_State_setMgt ?_ _
    | with_reducible refine State.emit_frame s_State_emit ?_ _ _ _
    | split

def State.onHeartbeat_foot : Nat := 0xac0000000000000000000010000000000000000000000000000000000000000000000000000000000000000000000000000000000000000000000000000000000000000000000000004000000100
theorem State.onHeartbeat_frame (hm : Sub State.onHeartbeat_foot m) (h : Frame m s0 s) :
    ∀ a1, Frame m s0 (State.onHeartbeat s a1) := by
  intro a1
  have s_State_standDown : Sub State.standDown_foot m := hm.of (by decide)
  have s_State_mgtHeard : Sub State.mgtHeard_foot m := hm.of (by decide)
  have s_State_takeTerm : Sub State.takeTerm_foot m := hm.of (by decide)
  have s_State_setMgt : Sub State.setMgt_foot m := hm.of (by decide)
  unfold State.onHeartbeat
  repeat' first
    | with_reducible assumption
    | (extract_lets -underBinder +onlyGivenNames x; have u : True := (by clear_value x; guard_hyp x :ₛ State; trivial); clear u; refine Frame.cut (m := m) (s0 := s0) (t := x) ?_ ?_; (on_goal 1 => subst x); (on_goal 2 => (intro hx; clear_value x)))
    | (extract_lets -underBinder +onlyGivenNames n; first | clear_value n | subst n)
    | with_reducible refine Frame.ite ?_ ?_
    | with_reducible refine State.standDown_frame s_State_standDown ?_
    | with_reducible refine State.mgtHeard_frame s_State_mgtHeard ?_
    | with_reducible refine State.takeTerm_frame s_State_takeTerm ?_ _
    | with_reducible refine State.setMgt_frame s_State_setMgt ?_ _
    | split

def State.mgtHandle_foot : Nat := 0x480000000bc0000000000000000000010000000000000000000000000000000000000000000000000000000000000000000000000000000000000000000000000000000000000000000000000004080000180
theorem State.mgtHandle_frame (hm : Sub State.mgtHandle_foot m) (h : Frame m s0 s) :
    ∀ a1, Frame m s0 (State.mgtHandle s a1) := by
  intro a1
  have s_State_onCsyncAck : Sub State.onCsyncAck_foot m := hm.of (by decide)
  have s_State_onCsync : Sub State.onCsync_foot m := hm.of (by decide)
  have s_State_onLeave : Sub State.onLeave_foot m := hm.of (by decide)
  have s_State_onVersion : Sub State.onVersion_foot m := hm.of (by decide)
  have s_State_onDemand : Sub State.onDemand_foot m := hm.of (by decide)
  have s_State_onGrant : Sub State.onGrant_foot m := hm.of (by decide)
  have s_State_onHeartbeat : Sub State.onHeartbeat_foot m := hm.of (by decide)
  unfold State.mgtHandle
  repeat' first
    | with_reducible assumption
    | with_reducible refine Frame.ite ?_ ?_
    | with_reducible refine State.onCsyncAck_frame s_State_onCsyncAck ?_ _
    | with_reducible refine State.onCsync_frame s_State_onCsync ?_ _
    | with_reducible refine State.onLeave_frame s_State_onLeave ?_ _
    | with_reducible refine State.onVersion_frame s_State_onVersion ?_ _
    | with_reducible refine State.onDemand_frame s_State_onDemand ?_ _
    | with_reducible refine State.onGrant_frame s_State_onGrant ?_ _
    | with_reducible refine State.onHeartbeat_frame s_State_onHeartbeat ?_ _
    | split

def State.mgtDrain_foot : Nat := 0x480000000bc0000000000000000000010000000000000000000000000000000000000000000000000000000000000000000000000000000000000000000000000000000000000000000000000004080000180
theorem State.mgtDrain_frame (hm : Sub State.mgtDrain_foot m) (h : Frame m s0 s) :
    ∀ a0, Frame m s0 (State.mgtDrain a0 s) := by
  intro a0
  have s1 : Sub State.mgtHandle_foot m := hm.of (by decide)
  have s2 : Sub State.setMgt_foot m := hm.of (by decide)
  induction a0 generalizing s with
  | zero => exact h
  | succ n ih =>
    rw [State.mgtDrain]
    split
    · exact h
    · exact ih (State.mgtHandle_frame s1 (State.setMgt_frame s2 h _) _)

def State.mgtSettle_foot : Nat := 0x480000000bc0000000000000000000010000000000000000000000000000000000000000000000000000000000000000000000000000000000000000000000000000000000000000000000000004080000180
theorem State.mgtSettle_frame (hm : Sub State.mgtSettle_foot m) (h : Frame m s0 s) :
    Frame m s0 (State.mgtSettle s) := by
  have s_State_mgtDrain : Sub State.mgtDrain_foot m := hm.of (by decide)
  unfold State.mgtSettle
  repeat' first
    | with_reducible assumption
    | with_reducible refine Frame.ite ?_ ?_
    | with_reducible refine State.mgtDrain_frame s_State_mgtDrain ?_ _

def State.markSilent_foot : Nat := 0x10000000000000000000000000000000000000000000000000000000000000000000000000000000000000000000000000000000000000000000000000004080000180
theorem State.markSilent_frame (hm : Sub State.markSilent_foot m) (h : Frame m s0 s) :
    Frame m s0 (State.markSilent s) := by
  have s_State_setMem : Sub State.setMem_foot m := hm.of (by decide)
  have s_State_emit : Sub State.emit_foot m := hm.of (by decide)
  unfold State.markSilent
  repeat' first
    | with_reducible assumption
    | (extract_lets -underBinder +onlyGivenNames x; have u : True := (by clear_value x; guard_hyp x :ₛ State; trivial); clear u; refine Frame.cut (m := m) (s0 := s0) (t := x) ?_ ?_; (on_goal 1 => subst x); (on_goal 2 => (intro hx; clear_value x)))
    | (extract_lets -underBinder +onlyGivenNames n; first | clear_value n | subst n)
    | with_reducible refine Frame.ite ?_ ?_
    | with_reducible refine State.setMem_frame s_State_setMem ?_ _ _
    | with_reducible refine State.emit_frame s_State_emit ?_ _ _ _
    | with_reducible refine Frame.foldl ?_ (fun s x hs => ?_)
    | split

def State.mgtAllocate_foot : Nat := 0x480000000bc0000000000000000000010000000000000000000000000000000000000000000000000000000000000000000000000000000000000000000000000000000000000000000000000004080000180
theorem State.mgtAllocate_frame (hm : Sub State.mgtAllocate_foot m) (h : Frame m s0 s) :
    Frame m s0 (State.mgtAllocate s) := by
  have s_State_mgtSettle : Sub State.mgtSettle_foot m := hm.of (by decide)
  have s_State_emitLim : Sub State.emitLim_foot m := hm.of (by decide)
  have s_State_markSilent : Sub State.markSilent_foot m := hm.of (by decide)
  have s_State_joinRequest : Sub State.joinRequest_foot m := hm.of (by decide)
  have s_State_setMem : Sub State.setMem_foot m := hm.of (by decide)
  have s_State_setMgt : Sub State.setMgt_foot m := hm.of (by decide)
  unfold State.mgtAllocate
  repeat' first
    | with_reducible assumption
    | (extract_lets -underBinder +onlyGivenNames x; have u : True := (by clear_value x; guard_hyp x :ₛ State; trivial); clear u; refine Frame.cut (m := m) (s0 := s0) (t := x) ?_ ?_; (on_goal 1 => subst x); (on_goal 2 => (intro hx; clear_value x)))
    | (extract_lets -underBinder +onlyGivenNames n; first | clear_value n | subst n)
    | with_reducible refine Frame.ite ?_ ?_
    | with_reducible refine State.mgtSettle_frame s_State_mgtSettle ?_
    | with_reducible refine State.emitLim_frame s_State_emitLim ?_ _ _ _ _ _
    | with_reducible refine State.markSilent_frame s_State_markSilent ?_
    | with_reducible refine State.joinRequest_frame s_State_joinRequest ?_ _
    | with_reducible refine State.setMem_frame s_State_setMem ?_ _ _
    | with_reducible refine State.setMgt_frame s_State_setMgt ?_ _
    | with_reducible refine Frame.foldl ?_ (fun s x hs => ?_)
    | split

def State.sendHeartbeat_foot : Nat := 0x400000000000000000000000000000000000000000000000000000000000000000000000000000000000000000000000000000000000000000000000000000000000000000000000000000000004080000080
theorem State.sendHeartbeat_frame (hm : Sub State.sendHeartbeat_foot m) (h : Frame m s0 s) :
    ∀ a1, Frame m s0 (State.sendHeartbeat s a1) := by
  intro a1
  have s_State_mgtSend : Sub State.mgtSend_foot m := hm.of (by decide)
  unfold State.sendHeartbeat
  repeat' first
    | with_reducible assumption
    | (extract_lets -underBinder +onlyGivenNames x; have u : True := (by clear_value x; guard_hyp x :ₛ State; trivial); clear u; refine Frame.cut (m := m) (s0 := s0) (t := x) ?_ ?_; (on_goal 1 => subst x); (on_goal 2 => (intro hx; clear_value x)))
    | (extract_lets -underBinder +onlyGivenNames n; first | clear_value n | subst n)
    | with_reducible refine Frame.ite ?_ ?_
    | with_reducible refine State.mgtSend_frame s_State_mgtSend ?_ _ _ _ _
    | split

def State.mgtDeliver_foot : Nat := 0x5e0000000bc0000000000000000000010000000000000000000000000000000000000000000000000000000000000000000000000000000000000000000000000000000000000000000000000004080000180
theorem State.mgtDeliver_frame (hm : Sub State.mgtDeliver_foot m) (h : Frame m s0 s) :
    ∀ a1, Frame m s0 (State.mgtDeliver s a1) := by
  intro a1
  have s_State_mgtSettle : Sub State.mgtSettle_foot m := hm.of (by decide)
  have s_State_mgtDrop : Sub State.mgtDrop_foot m := hm.of (by decide)
  have s_State_sendHeartbeat : Sub State.sendHeartbeat_foot m := hm.of (by decide)
  have s_State_mgtHandle : Sub State.mgtHandle_foot m := hm.of (by decide)
  have s_State_onVersion : Sub State.onVersion_foot m := hm.of (by decide)
  have s_State_setMgt : Sub State.setMgt_foot m := hm.of (by decide)
  have k_MGT_VIOL_dup : Has m MGT_VIOL_dup := hm.has 21 41 rfl (by decide)
  have k_MGT_VIOL_noroute : Has m MGT_VIOL_noroute := hm.has 21 43 rfl (by decide)
  have k_MGT_VIOL_type : Has m MGT_VIOL_type := hm.has 21 39 rfl (by decide)
  have k_MGT_VIOL_ver : Has m MGT_VIOL_ver := hm.has 21 38 rfl (by decide)
  unfold State.mgtDeliver
  repeat' first
    | with_reducible assumption
    | (extract_lets -underBinder +onlyGivenNames x; have u : True := (by clear_value x; guard_hyp x :ₛ State; trivial); clear u; refine Frame.cut (m := m) (s0 := s0) (t := x) ?_ ?_; (on_goal 1 => subst x); (on_goal 2 => (intro hx; clear_value x)))
    | (extract_lets -underBinder +onlyGivenNames n; first | clear_value n | subst n)
    | with_reducible refine Frame.ite ?_ ?_
    | with_reducible refine bump_frame (by with_reducible assumption) ?_ _
    | with_reducible refine State.mgtSettle_frame s_State_mgtSettle ?_
    | with_reducible refine State.mgtDrop_frame s_State_mgtDrop (by with_reducible assumption) ?_ _ _
    | with_reducible refine State.sendHeartbeat_frame s_State_sendHeartbeat ?_ _
    | with_reducible refine State.mgtHandle_frame s_State_mgtHandle ?_ _
    | with_reducible refine State.onVersion_frame s_State_onVersion ?_ _
    | with_reducible refine State.setMgt_frame s_State_setMgt ?_ _
    | split

def State.snapMember_foot : Nat := 0x10000000000000000000000000000000000000000000000000000000000000000000000000000000000000000000000000000000000000000000000000000000000000000000000000000000000000000000000
theorem State.snapMember_frame (hm : Sub State.snapMember_foot m) (h : Frame m s0 s) :
    Frame m s0 (State.snapMember s) := by
  have k_MGT_MSNAP : Has m MGT_MSNAP := hm.has 21 49 rfl (by decide)
  unfold State.snapMember
  repeat' first
    | with_reducible assumption
    | (extract_lets -underBinder +onlyGivenNames x; have u : True := (by clear_value x; guard_hyp x :ₛ State; trivial); clear u; refine Frame.cut (m := m) (s0 := s0) (t := x) ?_ ?_; (on_goal 1 => subst x); (on_goal 2 => (intro hx; clear_value x)))
    | (extract_lets -underBinder +onlyGivenNames n; first | clear_value n | subst n)
    | with_reducible refine Frame.ite ?_ ?_
    | with_reducible refine wr_frame (by with_reducible assumption) ?_ _ _
    | split

def State.csyncWhole_foot : Nat := 0x400000000000000000000000000000000000000000000000000000000000000000000000000000000000000000000000000000000000000000000000000000000000000000000000000000000004080000080
theorem State.csyncWhole_frame (hm : Sub State.csyncWhole_foot m) (h : Frame m s0 s) :
    Frame m s0 (State.csyncWhole s) := by
  have s_State_mgtSend : Sub State.mgtSend_foot m := hm.of (by decide)
  have s_State_setMgt : Sub State.setMgt_foot m := hm.of (by decide)
  unfold State.csyncWhole
  repeat' first
    | with_reducible assumption
    | (extract_lets -underBinder +onlyGivenNames x; have u : True := (by clear_value x; guard_hyp x :ₛ State; trivial); clear u; refine Frame.cut (m := m) (s0 := s0) (t := x) ?_ ?_; (on_goal 1 => subst x); (on_goal 2 => (intro hx; clear_value x)))
    | (extract_lets -underBinder +onlyGivenNames n; first | clear_value n | subst n)
    | with_reducible refine Frame.ite ?_ ?_
    | with_reducible refine State.mgtSend_frame s_State_mgtSend ?_ _ _ _ _
    | with_reducible refine State.setMgt_frame s_State_setMgt ?_ _
    | with_reducible refine Frame.foldTo ?_ (fun s x hs => ?_)

def State.mgtDirect_foot : Nat := 0x4000000080
theorem State.mgtDirect_frame (hm : Sub State.mgtDirect_foot m) (h : Frame m s0 s) :
    ∀ a1 a2 a3 a4, Frame m s0 (State.mgtDirect s a1 a2 a3 a4) := by
  intro a1 a2 a3 a4
  have s_State_send : Sub State.send_foot m := hm.of (by decide)
  have s_State_setMgt : Sub State.setMgt_foot m := hm.of (by decide)
  unfold State.mgtDirect
  repeat' first
    | with_reducible assumption
    | (extract_lets -underBinder +onlyGivenNames x; have u : True := (by clear_value x; guard_hyp x :ₛ State; trivial); clear u; refine Frame.cut (m := m) (s0 := s0) (t := x) ?_ ?_; (on_goal 1 => subst x); (on_goal 2 => (intro hx; clear_value x)))
    | (extract_lets -underBinder +onlyGivenNames n; first | clear_value n | subst n)
    | with_reducible refine Frame.ite ?_ ?_
    | with_reducible refine State.send_frame s_State_send ?_ _
    | with_reducible refine State.setMgt_frame s_State_setMgt ?_ _

def State.onClapReq_foot : Nat := 0x4000000080
theorem State.onClapReq_frame (hm : Sub State.onClapReq_foot m) (h : Frame m s0 s) :
    ∀ a0 a1 a2, Frame m s0 (State.onClapReq a0 a1 a2 s) := by
  intro a0 a1 a2
  have s_State_mgtDirect : Sub State.mgtDirect_foot m := hm.of (by decide)
  unfold State.onClapReq
  repeat' first
    | with_reducible assumption
    | with_reducible refine Frame.ite ?_ ?_
    | with_reducible refine State.mgtDirect_frame s_State_mgtDirect ?_ _ _ _ _
    | split

def State.onClapRsp_foot : Nat := 0x4000000000
theorem State.onClapRsp_frame (hm : Sub State.onClapRsp_foot m) (h : Frame m s0 s) :
    ∀ a0 a1 a2, Frame m s0 (State.onClapRsp a0 a1 a2 s) := by
  intro a0 a1 a2
  have s_State_setMgt : Sub State.setMgt_foot m := hm.of (by decide)
  unfold State.onClapRsp
  repeat' first
    | with_reducible assumption
    | (extract_lets -underBinder +onlyGivenNames x; have u : True := (by clear_value x; guard_hyp x :ₛ State; trivial); clear u; refine Frame.cut (m := m) (s0 := s0) (t := x) ?_ ?_; (on_goal 1 => subst x); (on_goal 2 => (intro hx; clear_value x)))
    | (extract_lets -underBinder +onlyGivenNames n; first | clear_value n | subst n)
    | with_reducible refine Frame.ite ?_ ?_
    | with_reducible refine State.setMgt_frame s_State_setMgt ?_ _
    | split

def clapRun_foot : Nat := 0x4000000080
theorem clapRun_frame (hm : Sub clapRun_foot m) (h : Frame m s0 s) :
    Frame m s0 (clapRun s) := by
  have s_State_mgtDirect : Sub State.mgtDirect_foot m := hm.of (by decide)
  have s_State_setMgt : Sub State.setMgt_foot m := hm.of (by decide)
  unfold clapRun
  repeat' first
    | with_reducible assumption
    | (extract_lets -underBinder +onlyGivenNames x; have u : True := (by clear_value x; guard_hyp x :ₛ State; trivial); clear u; refine Frame.cut (m := m) (s0 := s0) (t := x) ?_ ?_; (on_goal 1 => subst x); (on_goal 2 => (intro hx; clear_value x)))
    | (extract_lets -underBinder +onlyGivenNames n; first | clear_value n | subst n)
    | with_reducible refine Frame.ite ?_ ?_
    | with_reducible refine State.mgtDirect_frame s_State_mgtDirect ?_ _ _ _ _
    | with_reducible refine State.setMgt_frame s_State_setMgt ?_ _
    | with_reducible refine Frame.foldTo ?_ (fun s x hs => ?_)
    | split

def State.domStart_foot : Nat := 0x4000e0000040000000000000000000000000000000000000000000000000000000000000000000000000000000000000000000000000000000000000000000000000000000000000000000000004080000080
theorem State.domStart_frame (hm : Sub State.domStart_foot m) (h : Frame m s0 s) :
    Frame m s0 (State.domStart s) := by
  have s_State_latchTim : Sub State.latchTim_foot m := hm.of (by decide)
  have s_State_enterJoining : Sub State.enterJoining_foot m := hm.of (by decide)
  have s_State_showOfs : Sub State.showOfs_foot m := hm.of (by decide)
  have s_State_setMgt : Sub State.setMgt_foot m := hm.of (by decide)
  have k_MGT_EPOCH : Has m MGT_EPOCH := hm.has 21 26 rfl (by decide)
  unfold State.domStart
  repeat' first
    | with_reducible assumption
    | (extract_lets -underBinder +onlyGivenNames x; have u : True := (by clear_value x; guard_hyp x :ₛ State; trivial); clear u; refine Frame.cut (m := m) (s0 := s0) (t := x) ?_ ?_; (on_goal 1 => subst x); (on_goal 2 => (intro hx; clear_value x)))
    | (extract_lets -underBinder +onlyGivenNames n; first | clear_value n | subst n)
    | with_reducible refine Frame.ite ?_ ?_
    | with_reducible refine wr_frame (by with_reducible assumption) ?_ _ _
    | with_reducible refine State.latchTim_frame s_State_latchTim ?_
    | with_reducible refine State.enterJoining_frame s_State_enterJoining ?_
    | with_reducible refine State.showOfs_frame s_State_showOfs ?_
    | with_reducible refine State.setMgt_frame s_State_setMgt ?_ _

def State.clapGood_foot : Nat := 0x4030e0000040000000000000000000010000000000000000000000000000000000000000000000000000000000000000000000000000000000000000000000000000000000000000000000000004080000180
theorem State.clapGood_frame (hm : Sub State.clapGood_foot m) (h : Frame m s0 s) :
    ∀ a1, Frame m s0 (State.clapGood s a1) := by
  intro a1
  have s_State_domStart : Sub State.domStart_foot m := hm.of (by decide)
  have s_State_setMgt : Sub State.setMgt_foot m := hm.of (by decide)
  have s_State_emit : Sub State.emit_foot m := hm.of (by decide)
  have k_MGT_CSTAT_delta : Has m MGT_CSTAT_delta := hm.has 21 34 rfl (by decide)
  have k_MGT_CSTAT_hops : Has m MGT_CSTAT_hops := hm.has 21 33 rfl (by decide)
  unfold State.clapGood
  repeat' first
    | with_reducible assumption
    | (extract_lets -underBinder +onlyGivenNames x; have u : True := (by clear_value x; guard_hyp x :ₛ State; trivial); clear u; refine Frame.cut (m := m) (s0 := s0) (t := x) ?_ ?_; (on_goal 1 => subst x); (on_goal 2 => (intro hx; clear_value x)))
    | (extract_lets -underBinder +onlyGivenNames n; first | clear_value n | subst n)
    | with_reducible refine Frame.ite ?_ ?_
    | with_reducible refine wr_frame (by with_reducible assumption) ?_ _ _
    | with_reducible refine State.domStart_frame s_State_domStart ?_
    | with_reducible refine State.setMgt_frame s_State_setMgt ?_ _
    | with_reducible refine State.emit_frame s_State_emit ?_ _ _ _
    | split

def clapRunEnd_foot : Nat := 0x4870e0000bc0000000000000000000010000000000000000000000000000000000000000000000000000000000000000000000000000000000000000000000000000000000000000000000000004080000180
theorem clapRunEnd_frame (hm : Sub clapRunEnd_foot m) (h : Frame m s0 s) :
    Frame m s0 (clapRunEnd s) := by
  have s_State_mgtSettle : Sub State.mgtSettle_foot m := hm.of (by decide)
  have s_State_clapGood : Sub State.clapGood_foot m := hm.of (by decide)
  have s_State_setMgt : Sub State.setMgt_foot m := hm.of (by decide)
  have s_State_emit : Sub State.emit_foot m := hm.of (by decide)
  have k_MGT_CSTAT_fail : Has m MGT_CSTAT_fail := hm.has 21 35 rfl (by decide)
  unfold clapRunEnd
  repeat' first
    | with_reducible assumption
    | (extract_lets -underBinder +onlyGivenNames x; have u : True := (by clear_value x; guard_hyp x :ₛ State; trivial); clear u; refine Frame.cut (m := m) (s0 := s0) (t := x) ?_ ?_; (on_goal 1 => subst x); (on_goal 2 => (intro hx; clear_value x)))
    | (extract_lets -underBinder +onlyGivenNames n; first | clear_value n | subst n)
    | with_reducible refine Frame.ite ?_ ?_
    | with_reducible refine bump_frame (by with_reducible assumption) ?_ _
    | with_reducible refine State.mgtSettle_frame s_State_mgtSettle ?_
    | with_reducible refine State.clapGood_frame s_State_clapGood ?_ _
    | with_reducible refine State.setMgt_frame s_State_setMgt ?_ _
    | with_reducible refine State.emit_frame s_State_emit ?_ _ _ _
    | split

def State.clapTake_foot : Nat := 0x520000000000000000000000000000010000000000000000000000000000000000000000000000000000000000000000000000000000000000000000000000000000000000000000000000000004000000100
theorem State.clapTake_frame (hm : Sub State.clapTake_foot m) {f2} (hf : ∀ s, Frame m s0 s → Frame m s0 (f2 s)) (h : Frame m s0 s) :
    ∀ a1, Frame m s0 (State.clapTake s a1 f2) := by
  intro a1
  have s_State_mgtDrop : Sub State.mgtDrop_foot m := hm.of (by decide)
  have s_State_setMgt : Sub State.setMgt_foot m := hm.of (by decide)
  have k_MGT_VIOL_dup : Has m MGT_VIOL_dup := hm.has 21 41 rfl (by decide)
  have k_MGT_VIOL_noroute : Has m MGT_VIOL_noroute := hm.has 21 43 rfl (by decide)
  have k_MGT_VIOL_ver : Has m MGT_VIOL_ver := hm.has 21 38 rfl (by decide)
  unfold State.clapTake
  repeat' first
    | with_reducible assumption
    | (extract_lets -underBinder +onlyGivenNames x; have u : True := (by clear_value x; guard_hyp x :ₛ State; trivial); clear u; refine Frame.cut (m := m) (s0 := s0) (t := x) ?_ ?_; (on_goal 1 => subst x); (on_goal 2 => (intro hx; clear_value x)))
    | (extract_lets -underBinder +onlyGivenNames n; first | clear_value n | subst n)
    | with_reducible refine Frame.ite ?_ ?_
    | with_reducible refine bump_frame (by with_reducible assumption) ?_ _
    | with_reducible refine State.mgtDrop_frame s_State_mgtDrop (by with_reducible assumption) ?_ _ _
    | with_reducible refine State.setMgt_frame s_State_setMgt ?_ _
    | with_reducible refine hf _ ?_
    | split

def State.mgtReceive_foot : Nat := 0x7f8000000bc0000000000000000000010000000000000000000000000000000000000000000000000000000000000000000000000000000000000000000000000000000000000000000000000004080000180
theorem State.mgtReceive_frame (hm : Sub State.mgtReceive_foot m) (h : Frame m s0 s) :
    ∀ a1 a2 a3, Frame m s0 (State.mgtReceive s a1 a2 a3) := by
  intro a1 a2 a3
  have s_State_mgtDrop : Sub State.mgtDrop_foot m := hm.of (by decide)
  have s_State_mgtForward : Sub State.mgtForward_foot m := hm.of (by decide)
  have s_State_onClapRsp : Sub State.onClapRsp_foot m := hm.of (by decide)
  have s_State_bridgeSend : Sub State.bridgeSend_foot m := hm.of (by decide)
  have s_State_clapTake : Sub State.clapTake_foot m := hm.of (by decide)
  have s_State_onClapReq : Sub State.onClapReq_foot m := hm.of (by decide)
  have s_State_mgtDeliver : Sub State.mgtDeliver_foot m := hm.of (by decide)
  have k_MGT_VIOL_crc : Has m MGT_VIOL_crc := hm.has 21 36 rfl (by decide)
  have k_MGT_VIOL_domain : Has m MGT_VIOL_domain := hm.has 21 37 rfl (by decide)
  unfold State.mgtReceive
  repeat' first
    | with_reducible assumption
    | (extract_lets -underBinder +onlyGivenNames x; have u : True := (by clear_value x; guard_hyp x :ₛ State; trivial); clear u; refine Frame.cut (m := m) (s0 := s0) (t := x) ?_ ?_; (on_goal 1 => subst x); (on_goal 2 => (intro hx; clear_value x)))
    | (extract_lets -underBinder +onlyGivenNames n; first | clear_value n | subst n)
    | with_reducible refine Frame.ite ?_ ?_
    | with_reducible refine State.mgtDrop_frame s_State_mgtDrop (by with_reducible assumption) ?_ _ _
    | with_reducible refine State.mgtForward_frame s_State_mgtForward ?_ _ _
    | with_reducible refine State.onClapRsp_frame s_State_onClapRsp ?_ _ _ _
    | with_reducible refine State.bridgeSend_frame s_State_bridgeSend ?_ _ _
    | with_reducible refine State.clapTake_frame s_State_clapTake (fun s hs => ?_) ?_ _
    | with_reducible refine State.onClapReq_frame s_State_onClapReq ?_ _ _ _
    | with_reducible refine State.mgtDeliver_frame s_State_mgtDeliver ?_ _
    | split

def mgtRow_foot : Nat := 0x7f8000000bc0000000000000000000010000000000000000000000000000000000000000000000000000000000000000000000000000000000000000000000000000000000000000000000000004080000180
theorem mgtRow_frame (hm : Sub mgtRow_foot m) (h : Frame m s0 s) :
    ∀ a0 a1 a2 a3, Frame m s0 (mgtRow a0 a1 a2 a3 s) := by
  intro a0 a1 a2 a3
  have s_State_mgtReceive : Sub State.mgtReceive_foot m := hm.of (by decide)
  unfold mgtRow
  repeat' first
    | with_reducible assumption
    | with_reducible refine Frame.ite ?_ ?_
    | with_reducible refine State.mgtReceive_frame s_State_mgtReceive ?_ _ _ _
    | split

def mgtForwardRow_foot : Nat := 0x7f8000000bc0000000000000000000010000000000000000000000000000000000000000000000000000000000000000000000000000000000000000000000000000000000000000000000000004080000180
theorem mgtForwardRow_frame (hm : Sub mgtForwardRow_foot m) (h : Frame m s0 s) :
    ∀ a0 a1, Frame m s0 (mgtForwardRow a0 a1 s) := by
  intro a0 a1
  have s_State_mgtReceive : Sub State.mgtReceive_foot m := hm.of (by decide)
  unfold mgtForwardRow
  repeat' first
    | with_reducible assumption
    | with_reducible refine Frame.ite ?_ ?_
    | with_reducible refine State.mgtReceive_frame s_State_mgtReceive ?_ _ _ _
    | split

def State.epochBudget_foot : Nat := 0x4000000000010000400000000000000000000010002000000000000000000000000000000000000000000000000000000000000000000000000000000000000000000000000000000000000000000000004098080180
theorem State.epochBudget_frame (hm : Sub State.epochBudget_foot m) (h : Frame m s0 s) :
    ∀ a1, Frame m s0 (State.epochBudget s a1) := by
  intro a1
  have s_State_refreshBudget : Sub State.refreshBudget_foot m := hm.of (by decide)
  have s_State_setMgt : Sub State.setMgt_foot m := hm.of (by decide)
  have k_MGT_BUD_bud : Has m MGT_BUD_bud := hm.has 21 25 rfl (by decide)
  have k_MGT_STAT_missed : Has m MGT_STAT_missed := hm.has 21 7 rfl (by decide)
  have c_acc : m.testBit 27 = true := hm.bit 27 (by decide)
  unfold State.epochBudget
  repeat' first
    | with_reducible assumption
    | (extract_lets -underBinder +onlyGivenNames x; have u : True := (by clear_value x; guard_hyp x :ₛ State; trivial); clear u; refine Frame.cut (m := m) (s0 := s0) (t := x) ?_ ?_; (on_goal 1 => subst x); (on_goal 2 => (intro hx; clear_value x)))
    | (extract_lets -underBinder +onlyGivenNames n; first | clear_value n | subst n)
    | with_reducible refine Frame.ite ?_ ?_
    | with_reducible refine wr_frame (by with_reducible assumption) ?_ _ _
    | with_reducible refine bump_frame (by with_reducible assumption) ?_ _
    | with_reducible refine State.refreshBudget_frame s_State_refreshBudget ?_
    | with_reducible refine State.setMgt_frame s_State_setMgt ?_ _
    | with_reducible exact Frame.set_acc c_acc (by with_reducible assumption)
    | split

def State.coordBoundary_foot : Nat := 0x2c80000000bc0000000000000000000010000000000000000000000000000000000000000000000000000000000000000000000000000000000000000000000000000000000000000000000000004080000180
theorem State.coordBoundary_frame (hm : Sub State.coordBoundary_foot m) (h : Frame m s0 s) :
    ∀ a1, Frame m s0 (State.coordBoundary s a1) := by
  intro a1
  have s_State_mgtSettle : Sub State.mgtSettle_foot m := hm.of (by decide)
  have s_State_sendHeartbeat : Sub State.sendHeartbeat_foot m := hm.of (by decide)
  have s_State_showReady : Sub State.showReady_foot m := hm.of (by decide)
  have s_State_mgtHeard : Sub State.mgtHeard_foot m := hm.of (by decide)
  have s_State_setMgt : Sub State.setMgt_foot m := hm.of (by decide)
  have k_MGT_DOM_AT : Has m MGT_DOM_AT := hm.has 21 46 rfl (by decide)
  have k_MGT_DOM_BUD_bud : Has m MGT_DOM_BUD_bud := hm.has 21 44 rfl (by decide)
  unfold State.coordBoundary
  repeat' first
    | with_reducible assumption
    | (extract_lets -underBinder +onlyGivenNames x; have u : True := (by clear_value x; guard_hyp x :ₛ State; trivial); clear u; refine Frame.cut (m := m) (s0 := s0) (t := x) ?_ ?_; (on_goal 1 => subst x); (on_goal 2 => (intro hx; clear_value x)))
    | (extract_lets -underBinder +onlyGivenNames n; first | clear_value n | subst n)
    | with_reducible refine Frame.ite ?_ ?_
    | with_reducible refine wr_frame (by with_reducible assumption) ?_ _ _
    | with_reducible refine State.mgtSettle_frame s_State_mgtSettle ?_
    | with_reducible refine State.sendHeartbeat_frame s_State_sendHeartbeat ?_ _
    | with_reducible refine State.showReady_frame s_State_showReady ?_
    | with_reducible refine State.mgtHeard_frame s_State_mgtHeard ?_
    | with_reducible refine State.setMgt_frame s_State_setMgt ?_ _
    | split

def epochBoundary_foot : Nat := 0x4000002c800f0000fc0000000000000000000010002000000000000000000000000000000000000000000000000000000000000000000000000000000000000000000000000000000000000000000000004098080180
theorem epochBoundary_frame (hm : Sub epochBoundary_foot m) (h : Frame m s0 s) :
    Frame m s0 (epochBoundary s) := by
  have s_State_latchTim : Sub State.latchTim_foot m := hm.of (by decide)
  have s_State_refreshDie : Sub State.refreshDie_foot m := hm.of (by decide)
  have s_State_setPar : Sub State.setPar_foot m := hm.of (by decide)
  have s_State_showOfs : Sub State.showOfs_foot m := hm.of (by decide)
  have s_State_epochBudget : Sub State.epochBudget_foot m := hm.of (by decide)
  have s_State_coordBoundary : Sub State.coordBoundary_foot m := hm.of (by decide)
  have s_State_setMgt : Sub State.setMgt_foot m := hm.of (by decide)
  have s_State_mirror : Sub State.mirror_foot m := hm.of (by decide)
  have k_MGT_EPOCH : Has m MGT_EPOCH := hm.has 21 26 rfl (by decide)
  unfold epochBoundary
  repeat' first
    | with_reducible assumption
    | (extract_lets -underBinder +onlyGivenNames x; have u : True := (by clear_value x; guard_hyp x :ₛ State; trivial); clear u; refine Frame.cut (m := m) (s0 := s0) (t := x) ?_ ?_; (on_goal 1 => subst x); (on_goal 2 => (intro hx; clear_value x)))
    | (extract_lets -underBinder +onlyGivenNames n; first | clear_value n | subst n)
    | with_reducible refine Frame.ite ?_ ?_
    | with_reducible refine wr_frame (by with_reducible assumption) ?_ _ _
    | with_reducible refine State.latchTim_frame s_State_latchTim ?_
    | with_reducible refine State.refreshDie_frame s_State_refreshDie ?_
    | with_reducible refine State.setPar_frame s_State_setPar ?_ _
    | with_reducible refine State.showOfs_frame s_State_showOfs ?_
    | with_reducible refine State.epochBudget_frame s_State_epochBudget ?_ _
    | with_reducible refine State.coordBoundary_frame s_State_coordBoundary ?_ _
    | with_reducible refine State.setMgt_frame s_State_setMgt ?_ _
    | with_reducible refine State.mirror_frame s_State_mirror ?_ _ _ _
    | split

def demandSend_foot : Nat := 0x480000000bc0000000000000000000010000000000000000000000000000000000000000000000000000000000000000000000000000000000000000000000000000000000000000000000000004080000180
theorem demandSend_frame (hm : Sub demandSend_foot m) (h : Frame m s0 s) :
    Frame m s0 (demandSend s) := by
  have s_State_mgtSettle : Sub State.mgtSettle_foot m := hm.of (by decide)
  have s_State_mgtSendC : Sub State.mgtSendC_foot m := hm.of (by decide)
  have s_State_setMgt : Sub State.setMgt_foot m := hm.of (by decide)
  unfold demandSend
  repeat' first
    | with_reducible assumption
    | (extract_lets -underBinder +onlyGivenNames x; have u : True := (by clear_value x; guard_hyp x :ₛ State; trivial); clear u; refine Frame.cut (m := m) (s0 := s0) (t := x) ?_ ?_; (on_goal 1 => subst x); (on_goal 2 => (intro hx; clear_value x)))
    | (extract_lets -underBinder +onlyGivenNames n; first | clear_value n | subst n)
    | with_reducible refine Frame.ite ?_ ?_
    | with_reducible refine State.mgtSettle_frame s_State_mgtSettle ?_
    | with_reducible refine State.mgtSendC_frame s_State_mgtSendC ?_ _ _ _
    | with_reducible refine State.setMgt_frame s_State_setMgt ?_ _
    | split

def salgorCutOff_foot : Nat := 0x4000000000
theorem salgorCutOff_frame (hm : Sub salgorCutOff_foot m) (h : Frame m s0 s) :
    Frame m s0 (salgorCutOff s) := by
  have s_State_setMgt : Sub State.setMgt_foot m := hm.of (by decide)
  unfold salgorCutOff
  repeat' first
    | with_reducible assumption
    | (extract_lets -underBinder +onlyGivenNames x; have u : True := (by clear_value x; guard_hyp x :ₛ State; trivial); clear u; refine Frame.cut (m := m) (s0 := s0) (t := x) ?_ ?_; (on_goal 1 => subst x); (on_goal 2 => (intro hx; clear_value x)))
    | (extract_lets -underBinder +onlyGivenNames n; first | clear_value n | subst n)
    | with_reducible refine Frame.ite ?_ ?_
    | with_reducible refine State.setMgt_frame s_State_setMgt ?_ _
    | split

def csyncSend_foot : Nat := 0x480000000bc0000000000000000000010000000000000000000000000000000000000000000000000000000000000000000000000000000000000000000000000000000000000000000000000004080000180
theorem csyncSend_frame (hm : Sub csyncSend_foot m) (h : Frame m s0 s) :
    Frame m s0 (csyncSend s) := by
  have s_State_mgtSettle : Sub State.mgtSettle_foot m := hm.of (by decide)
  have s_State_csyncWhole : Sub State.csyncWhole_foot m := hm.of (by decide)
  have s_State_mgtSend : Sub State.mgtSend_foot m := hm.of (by decide)
  have s_State_setMgt : Sub State.setMgt_foot m := hm.of (by decide)
  unfold csyncSend
  repeat' first
    | with_reducible assumption
    | (extract_lets -underBinder +onlyGivenNames x; have u : True := (by clear_value x; guard_hyp x :ₛ State; trivial); clear u; refine Frame.cut (m := m) (s0 := s0) (t := x) ?_ ?_; (on_goal 1 => subst x); (on_goal 2 => (intro hx; clear_value x)))
    | (extract_lets -underBinder +onlyGivenNames n; first | clear_value n | subst n)
    | with_reducible refine Frame.ite ?_ ?_
    | with_reducible refine State.mgtSettle_frame s_State_mgtSettle ?_
    | with_reducible refine State.csyncWhole_frame s_State_csyncWhole ?_
    | with_reducible refine State.mgtSend_frame s_State_mgtSend ?_ _ _ _ _
    | with_reducible refine State.setMgt_frame s_State_setMgt ?_ _
    | with_reducible refine Frame.foldTo ?_ (fun s x hs => ?_)
    | split

def grantSend_foot : Nat := 0x480000000bc0000000000000000000010000000000000000000000000000000000000000000000000000000000000000000000000000000000000000000000000000000000000000000000000004080000180
theorem grantSend_frame (hm : Sub grantSend_foot m) (h : Frame m s0 s) :
    Frame m s0 (grantSend s) := by
  have s_State_mgtSettle : Sub State.mgtSettle_foot m := hm.of (by decide)
  have s_State_mgtSend : Sub State.mgtSend_foot m := hm.of (by decide)
  have s_State_setMgt : Sub State.setMgt_foot m := hm.of (by decide)
  unfold grantSend
  repeat' first
    | with_reducible assumption
    | (extract_lets -underBinder +onlyGivenNames x; have u : True := (by clear_value x; guard_hyp x :ₛ State; trivial); clear u; refine Frame.cut (m := m) (s0 := s0) (t := x) ?_ ?_; (on_goal 1 => subst x); (on_goal 2 => (intro hx; clear_value x)))
    | (extract_lets -underBinder +onlyGivenNames n; first | clear_value n | subst n)
    | with_reducible refine Frame.ite ?_ ?_
    | with_reducible refine State.mgtSettle_frame s_State_mgtSettle ?_
    | with_reducible refine State.mgtSend_frame s_State_mgtSend ?_ _ _ _ _
    | with_reducible refine State.setMgt_frame s_State_setMgt ?_ _
    | with_reducible refine Frame.foldl ?_ (fun s x hs => ?_)
    | split

def orphanTimeout_foot : Nat := 0x40000000000000000000010000000000000000000000000000000000000000000000000000000000000000000000000000000000000000000000000000000000000000000000000000000000100
theorem orphanTimeout_frame (hm : Sub orphanTimeout_foot m) (h : Frame m s0 s) :
    Frame m s0 (orphanTimeout s) := by
  have s_State_emit : Sub State.emit_foot m := hm.of (by decide)
  have k_MGT_STAT_state : Has m MGT_STAT_state := hm.has 21 3 rfl (by decide)
  unfold orphanTimeout
  repeat' first
    | with_reducible assumption
    | with_reducible refine Frame.ite ?_ ?_
    | with_reducible refine wr_frame (by with_reducible assumption) ?_ _ _
    | with_reducible refine State.emit_frame s_State_emit ?_ _ _ _
    | split

def versionResend_foot : Nat := 0x480000000bc0000000000000000000010000000000000000000000000000000000000000000000000000000000000000000000000000000000000000000000000000000000000000000000000004080000180
theorem versionResend_frame (hm : Sub versionResend_foot m) (h : Frame m s0 s) :
    Frame m s0 (versionResend s) := by
  have s_State_mgtSettle : Sub State.mgtSettle_foot m := hm.of (by decide)
  have s_State_sendVersion : Sub State.sendVersion_foot m := hm.of (by decide)
  unfold versionResend
  repeat' first
    | with_reducible assumption
    | (extract_lets -underBinder +onlyGivenNames x; have u : True := (by clear_value x; guard_hyp x :ₛ State; trivial); clear u; refine Frame.cut (m := m) (s0 := s0) (t := x) ?_ ?_; (on_goal 1 => subst x); (on_goal 2 => (intro hx; clear_value x)))
    | (extract_lets -underBinder +onlyGivenNames n; first | clear_value n | subst n)
    | with_reducible refine Frame.ite ?_ ?_
    | with_reducible refine State.mgtSettle_frame s_State_mgtSettle ?_
    | with_reducible refine State.sendVersion_frame s_State_sendVersion ?_
    | split

def State.standUp_foot : Nat := 0x4810c0000bc0000000000000000000010000000000000000000000000000000000000000000000000000000000000000000000000000000000000000000000000000000000000000000000000004080000180
theorem State.standUp_frame (hm : Sub State.standUp_foot m) (h : Frame m s0 s) :
    Frame m s0 (State.standUp s) := by
  have s_State_mgtSettle : Sub State.mgtSettle_foot m := hm.of (by decide)
  have s_State_sendHeartbeat : Sub State.sendHeartbeat_foot m := hm.of (by decide)
  have s_State_showReady : Sub State.showReady_foot m := hm.of (by decide)
  have s_State_mgtSetRole : Sub State.mgtSetRole_foot m := hm.of (by decide)
  have s_State_showOfs : Sub State.showOfs_foot m := hm.of (by decide)
  have s_State_mgtHeard : Sub State.mgtHeard_foot m := hm.of (by decide)
  have s_State_setMgt : Sub State.setMgt_foot m := hm.of (by decide)
  have s_State_emit : Sub State.emit_foot m := hm.of (by decide)
  have k_MGT_CSTAT_hops : Has m MGT_CSTAT_hops := hm.has 21 33 rfl (by decide)
  have k_MGT_STAT_ready : Has m MGT_STAT_ready := hm.has 21 6 rfl (by decide)
  have k_MGT_STAT_term : Has m MGT_STAT_term := hm.has 21 8 rfl (by decide)
  unfold State.standUp
  repeat' first
    | with_reducible assumption
    | (extract_lets -underBinder +onlyGivenNames x; have u : True := (by clear_value x; guard_hyp x :ₛ State; trivial); clear u; refine Frame.cut (m := m) (s0 := s0) (t := x) ?_ ?_; (on_goal 1 => subst x); (on_goal 2 => (intro hx; clear_value x)))
    | (extract_lets -underBinder +onlyGivenNames n; first | clear_value n | subst n)
    | with_reducible refine Frame.ite ?_ ?_
    | with_reducible refine wr_frame (by with_reducible assumption) ?_ _ _
    | with_reducible refine State.mgtSettle_frame s_State_mgtSettle ?_
    | with_reducible refine State.sendHeartbeat_frame s_State_sendHeartbeat ?_ _
    | with_reducible refine State.showReady_frame s_State_showReady ?_
    | with_reducible refine State.mgtSetRole_frame s_State_mgtSetRole ?_ _
    | with_reducible refine State.showOfs_frame s_State_showOfs ?_
    | with_reducible refine State.mgtHeard_frame s_State_mgtHeard ?_
    | with_reducible refine State.setMgt_frame s_State_setMgt ?_ _
    | with_reducible refine State.emit_frame s_State_emit ?_ _ _ _
    | split

def coordinatorAlone_foot : Nat := 0x4810c0000bc0000000000000000000010000000000000000000000000000000000000000000000000000000000000000000000000000000000000000000000000000000000000000000000000004080000180
theorem coordinatorAlone_frame (hm : Sub coordinatorAlone_foot m) (h : Frame m s0 s) :
    Frame m s0 (coordinatorAlone s) := by
  have s_State_standUp : Sub State.standUp_foot m := hm.of (by decide)
  have s_State_mgtSetRole : Sub State.mgtSetRole_foot m := hm.of (by decide)
  unfold coordinatorAlone
  repeat' first
    | with_reducible assumption
    | with_reducible refine Frame.ite ?_ ?_
    | with_reducible refine State.standUp_frame s_State_standUp ?_
    | with_reducible refine State.mgtSetRole_frame s_State_mgtSetRole ?_ _
    | split

def State.mgtDetach_foot : Nat := 0x40000000000f00003c0000000000000000000010002000000000000000000000000000000000000000000000000000000000000000000000000000000000000000000000000000000000000000000000004098080180
theorem State.mgtDetach_frame (hm : Sub State.mgtDetach_foot m) (h : Frame m s0 s) :
    Frame m s0 (State.mgtDetach s) := by
  have s_State_refreshBudget : Sub State.refreshBudget_foot m := hm.of (by decide)
  have s_State_mgtSetRole : Sub State.mgtSetRole_foot m := hm.of (by decide)
  have s_State_showOfs : Sub State.showOfs_foot m := hm.of (by decide)
  have s_State_setMgt : Sub State.setMgt_foot m := hm.of (by decide)
  have k_MGT_BUD_bud : Has m MGT_BUD_bud := hm.has 21 25 rfl (by decide)
  have k_MGT_EPOCH : Has m MGT_EPOCH := hm.has 21 26 rfl (by decide)
  have k_MGT_STAT_bound : Has m MGT_STAT_bound := hm.has 21 5 rfl (by decide)
  have k_MGT_STAT_ready : Has m MGT_STAT_ready := hm.has 21 6 rfl (by decide)
  have k_MGT_STAT_state : Has m MGT_STAT_state := hm.has 21 3 rfl (by decide)
  have c_acc : m.testBit 27 = true := hm.bit 27 (by decide)
  unfold State.mgtDetach
  repeat' first
    | with_reducible assumption
    | (extract_lets -underBinder +onlyGivenNames x; have u : True := (by clear_value x; guard_hyp x :ₛ State; trivial); clear u; refine Frame.cut (m := m) (s0 := s0) (t := x) ?_ ?_; (on_goal 1 => subst x); (on_goal 2 => (intro hx; clear_value x)))
    | (extract_lets -underBinder +onlyGivenNames n; first | clear_value n | subst n)
    | with_reducible refine Frame.ite ?_ ?_
    | with_reducible refine wr_frame (by with_reducible assumption) ?_ _ _
    | with_reducible refine State.refreshBudget_frame s_State_refreshBudget ?_
    | with_reducible refine State.mgtSetRole_frame s_State_mgtSetRole ?_ _
    | with_reducible refine State.showOfs_frame s_State_showOfs ?_
    | with_reducible refine State.setMgt_frame s_State_setMgt ?_ _
    | with_reducible exact Frame.set_acc c_acc (by with_reducible assumption)

def State.mgtAttach_foot : Nat := 0x4800e0000bc0000000000000000000010000000000000000000000000000000000000000000000000000000000000000000000000000000000000000000000000000000000000000000000000004080000180
theorem State.mgtAttach_frame (hm : Sub State.mgtAttach_foot m) (h : Frame m s0 s) :
    Frame m s0 (State.mgtAttach s) := by
  have s_State_domStart : Sub State.domStart_foot m := hm.of (by decide)
  have s_State_mgtSettle : Sub State.mgtSettle_foot m := hm.of (by decide)
  have s_State_mgtSetRole : Sub State.mgtSetRole_foot m := hm.of (by decide)
  have k_MGT_STAT_state : Has m MGT_STAT_state := hm.has 21 3 rfl (by decide)
  unfold State.mgtAttach
  repeat' first
    | with_reducible assumption
    | (extract_lets -underBinder +onlyGivenNames x; have u : True := (by clear_value x; guard_hyp x :ₛ State; trivial); clear u; refine Frame.cut (m := m) (s0 := s0) (t := x) ?_ ?_; (on_goal 1 => subst x); (on_goal 2 => (intro hx; clear_value x)))
    | (extract_lets -underBinder +onlyGivenNames n; first | clear_value n | subst n)
    | with_reducible refine Frame.ite ?_ ?_
    | with_reducible refine wr_frame (by with_reducible assumption) ?_ _ _
    | with_reducible refine State.domStart_frame s_State_domStart ?_
    | with_reducible refine State.mgtSettle_frame s_State_mgtSettle ?_
    | with_reducible refine State.mgtSetRole_frame s_State_mgtSetRole ?_ _
    | split

def State.mgtRename_foot : Nat := 0x280000000000000000000010000000000000000000000000000000000000000000000000000000000000000000000000000000000000000000000000000000000000000000000000004000000100
theorem State.mgtRename_frame (hm : Sub State.mgtRename_foot m) (h : Frame m s0 s) :
    Frame m s0 (State.mgtRename s) := by
  have s_State_mgtSetRole : Sub State.mgtSetRole_foot m := hm.of (by decide)
  have s_State_setMgt : Sub State.setMgt_foot m := hm.of (by decide)
  have k_MGT_STAT_ready : Has m MGT_STAT_ready := hm.has 21 6 rfl (by decide)
  unfold State.mgtRename
  repeat' first
    | with_reducible assumption
    | (extract_lets -underBinder +onlyGivenNames x; have u : True := (by clear_value x; guard_hyp x :ₛ State; trivial); clear u; refine Frame.cut (m := m) (s0 := s0) (t := x) ?_ ?_; (on_goal 1 => subst x); (on_goal 2 => (intro hx; clear_value x)))
    | (extract_lets -underBinder +onlyGivenNames n; first | clear_value n | subst n)
    | with_reducible refine Frame.ite ?_ ?_
    | with_reducible refine wr_frame (by with_reducible assumption) ?_ _ _
    | with_reducible refine State.mgtSetRole_frame s_State_mgtSetRole ?_ _
    | with_reducible refine State.setMgt_frame s_State_setMgt ?_ _
    | split

def State.mgtRemovals_foot : Nat := 0x400000000000000000000000000000010000000000000000000000000000000000000000000000000000000000000000000000000000000000000000000000000000000000000000000000000004080000180
theorem State.mgtRemovals_frame (hm : Sub State.mgtRemovals_foot m) (h : Frame m s0 s) :
    ∀ a1, Frame m s0 (State.mgtRemovals s a1) := by
  intro a1
  have s_State_sendLeave : Sub State.sendLeave_foot m := hm.of (by decide)
  have s_State_csyncMember : Sub State.csyncMember_foot m := hm.of (by decide)
  have s_State_setMem : Sub State.setMem_foot m := hm.of (by decide)
  have s_State_emit : Sub State.emit_foot m := hm.of (by decide)
  unfold State.mgtRemovals
  repeat' first
    | with_reducible assumption
    | (extract_lets -underBinder +onlyGivenNames x; have u : True := (by clear_value x; guard_hyp x :ₛ State; trivial); clear u; refine Frame.cut (m := m) (s0 := s0) (t := x) ?_ ?_; (on_goal 1 => subst x); (on_goal 2 => (intro hx; clear_value x)))
    | (extract_lets -underBinder +onlyGivenNames n; first | clear_value n | subst n)
    | with_reducible refine Frame.ite ?_ ?_
    | with_reducible refine State.sendLeave_frame s_State_sendLeave ?_ _ _
    | with_reducible refine State.csyncMember_frame s_State_csyncMember ?_ _
    | with_reducible refine State.setMem_frame s_State_setMem ?_ _ _
    | with_reducible refine State.emit_frame s_State_emit ?_ _ _ _
    | with_reducible refine Frame.foldl ?_ (fun s x hs => ?_)
    | split

def State.leaveAs_foot : Nat := 0x400000000000000000000000000000000000000000000000000000000000000000000000000000000000000000000000000000000000000000000000000000000000000000000000000000000004080000080
theorem State.leaveAs_frame (hm : Sub State.leaveAs_foot m) (h : Frame m s0 s) :
    ∀ a1 a2, Frame m s0 (State.leaveAs s a1 a2) := by
  intro a1 a2
  have s_State_mgtSendAs : Sub State.mgtSendAs_foot m := hm.of (by decide)
  unfold State.leaveAs
  repeat' first
    | with_reducible assumption
    | (extract_lets -underBinder +onlyGivenNames x; have u : True := (by clear_value x; guard_hyp x :ₛ State; trivial); clear u; refine Frame.cut (m := m) (s0 := s0) (t := x) ?_ ?_; (on_goal 1 => subst x); (on_goal 2 => (intro hx; clear_value x)))
    | (extract_lets -underBinder +onlyGivenNames n; first | clear_value n | subst n)
    | with_reducible refine Frame.ite ?_ ?_
    | with_reducible refine State.mgtSendAs_frame s_State_mgtSendAs ?_ _ _ _ _ _ _

def State.mgtTaken_foot : Nat := 0x40000004800f0000bc0000000000000000000010002000000000000000000000000000000000000000000000000000000000000000000000000000000000000000000000000000000000000000000000004098080180
theorem State.mgtTaken_frame (hm : Sub State.mgtTaken_foot m) (h : Frame m s0 s) :
    ∀ a1 a2 a3 a4 a5, Frame m s0 (State.mgtTaken s a1 a2 a3 a4 a5) := by
  intro a1 a2 a3 a4 a5
  have s_State_mgtSettle : Sub State.mgtSettle_foot m := hm.of (by decide)
  have s_State_mgtRename : Sub State.mgtRename_foot m := hm.of (by decide)
  have s_State_leaveAs : Sub State.leaveAs_foot m := hm.of (by decide)
  have s_State_mgtDetach : Sub State.mgtDetach_foot m := hm.of (by decide)
  have s_State_enterJoining : Sub State.enterJoining_foot m := hm.of (by decide)
  have s_State_mgtAttach : Sub State.mgtAttach_foot m := hm.of (by decide)
  have s_State_mgtRemovals : Sub State.mgtRemovals_foot m := hm.of (by decide)
  have s_State_mgtSetRole : Sub State.mgtSetRole_foot m := hm.of (by decide)
  have s_State_setMgt : Sub State.setMgt_foot m := hm.of (by decide)
  have s_State_emit : Sub State.emit_foot m := hm.of (by decide)
  unfold State.mgtTaken
  repeat' first
    | with_reducible assumption
    | (extract_lets -underBinder +onlyGivenNames x; have u : True := (by clear_value x; guard_hyp x :ₛ State; trivial); clear u; refine Frame.cut (m := m) (s0 := s0) (t := x) ?_ ?_; (on_goal 1 => subst x); (on_goal 2 => (intro hx; clear_value x)))
    | (extract_lets -underBinder +onlyGivenNames n; first | clear_value n | subst n)
    | with_reducible refine Frame.ite ?_ ?_
    | with_reducible refine State.mgtSettle_frame s_State_mgtSettle ?_
    | with_reducible refine State.mgtRename_frame s_State_mgtRename ?_
    | with_reducible refine State.leaveAs_frame s_State_leaveAs ?_ _ _
    | with_reducible refine State.mgtDetach_frame s_State_mgtDetach ?_
    | with_reducible refine State.enterJoining_frame s_State_enterJoining ?_
    | with_reducible refine State.mgtAttach_frame s_State_mgtAttach ?_
    | with_reducible refine State.mgtRemovals_frame s_State_mgtRemovals ?_ _
    | with_reducible refine State.mgtSetRole_frame s_State_mgtSetRole ?_ _
    | with_reducible refine State.setMgt_frame s_State_setMgt ?_ _
    | with_reducible refine State.emit_frame s_State_emit ?_ _ _ _
    | split

def State.mirrorMgt_foot : Nat := 0x80000080
theorem State.mirrorMgt_frame (hm : Sub State.mirrorMgt_foot m) (h : Frame m s0 s) :
    Frame m s0 (State.mirrorMgt s) := by
  have s_State_mirror : Sub State.mirror_foot m := hm.of (by decide)
  unfold State.mirrorMgt
  repeat' first
    | with_reducible assumption
    | with_reducible refine Frame.ite ?_ ?_
    | with_reducible refine State.mirror_frame s_State_mirror ?_ _ _ _

def execMgtForward_foot : Nat := 0x7f8000000bc0000000000000000000010000000000000000000000000000000000000000000000000000000000000000000000000000000000000000000000000000000000000000000000000004080000180
theorem execMgtForward_frame (hm : Sub execMgtForward_foot m) (h : Frame m s0 s) :
    ∀ a0 a1, ∃ t, execMgtForward a0 a1 s = .next t ∧ Frame m s0 t := by
  intro a0 a1
  have s_mgtForwardRow : Sub mgtForwardRow_foot m := hm.of (by decide)
  unfold execMgtForward
  refine hubOn_frame (fun s h => ?_) h
  repeat' first
    | with_reducible assumption
    | with_reducible refine Frame.ite ?_ ?_
    | with_reducible refine mgtForwardRow_frame s_mgtForwardRow ?_ _ _

def execVersion_foot : Nat := 0x7f8000000bc0000000000000000000010000000000000000000000000000000000000000000000000000000000000000000000000000000000000000000000000000000000000000000000000004080000180
theorem execVersion_frame (hm : Sub execVersion_foot m) (h : Frame m s0 s) :
    ∀ a0 a1, ∃ t, execVersion a0 a1 s = .next t ∧ Frame m s0 t := by
  intro a0 a1
  have s_mgtRow : Sub mgtRow_foot m := hm.of (by decide)
  unfold execVersion
  refine hubOn_frame (fun s h => ?_) h
  repeat' first
    | with_reducible assumption
    | with_reducible refine Frame.ite ?_ ?_
    | with_reducible refine mgtRow_frame s_mgtRow ?_ _ _ _ _

def execDemand_foot : Nat := 0x7f8000000bc0000000000000000000010000000000000000000000000000000000000000000000000000000000000000000000000000000000000000000000000000000000000000000000000004080000180
theorem execDemand_frame (hm : Sub execDemand_foot m) (h : Frame m s0 s) :
    ∀ a0 a1, ∃ t, execDemand a0 a1 s = .next t ∧ Frame m s0 t := by
  intro a0 a1
  have s_mgtRow : Sub mgtRow_foot m := hm.of (by decide)
  unfold execDemand
  refine hubOn_frame (fun s h => ?_) h
  repeat' first
    | with_reducible assumption
    | with_reducible refine Frame.ite ?_ ?_
    | with_reducible refine mgtRow_frame s_mgtRow ?_ _ _ _ _

def execGrant_foot : Nat := 0x7f8000000bc0000000000000000000010000000000000000000000000000000000000000000000000000000000000000000000000000000000000000000000000000000000000000000000000004080000180
theorem execGrant_frame (hm : Sub execGrant_foot m) (h : Frame m s0 s) :
    ∀ a0 a1, ∃ t, execGrant a0 a1 s = .next t ∧ Frame m s0 t := by
  intro a0 a1
  have s_mgtRow : Sub mgtRow_foot m := hm.of (by decide)
  unfold execGrant
  refine hubOn_frame (fun s h => ?_) h
  repeat' first
    | with_reducible assumption
    | with_reducible refine Frame.ite ?_ ?_
    | with_reducible refine mgtRow_frame s_mgtRow ?_ _ _ _ _

def execHeartbeat_foot : Nat := 0x7f8000000bc0000000000000000000010000000000000000000000000000000000000000000000000000000000000000000000000000000000000000000000000000000000000000000000000004080000180
theorem execHeartbeat_frame (hm : Sub execHeartbeat_foot m) (h : Frame m s0 s) :
    ∀ a0 a1, ∃ t, execHeartbeat a0 a1 s = .next t ∧ Frame m s0 t := by
  intro a0 a1
  have s_mgtRow : Sub mgtRow_foot m := hm.of (by decide)
  unfold execHeartbeat
  refine hubOn_frame (fun s h => ?_) h
  repeat' first
    | with_reducible assumption
    | with_reducible refine Frame.ite ?_ ?_
    | with_reducible refine mgtRow_frame s_mgtRow ?_ _ _ _ _

def execLeave_foot : Nat := 0x7f8000000bc0000000000000000000010000000000000000000000000000000000000000000000000000000000000000000000000000000000000000000000000000000000000000000000000004080000180
theorem execLeave_frame (hm : Sub execLeave_foot m) (h : Frame m s0 s) :
    ∀ a0 a1, ∃ t, execLeave a0 a1 s = .next t ∧ Frame m s0 t := by
  intro a0 a1
  have s_mgtRow : Sub mgtRow_foot m := hm.of (by decide)
  unfold execLeave
  refine hubOn_frame (fun s h => ?_) h
  repeat' first
    | with_reducible assumption
    | with_reducible refine Frame.ite ?_ ?_
    | with_reducible refine mgtRow_frame s_mgtRow ?_ _ _ _ _

def execCsync_foot : Nat := 0x7f8000000bc0000000000000000000010000000000000000000000000000000000000000000000000000000000000000000000000000000000000000000000000000000000000000000000000004080000180
theorem execCsync_frame (hm : Sub execCsync_foot m) (h : Frame m s0 s) :
    ∀ a0 a1, ∃ t, execCsync a0 a1 s = .next t ∧ Frame m s0 t := by
  intro a0 a1
  have s_mgtRow : Sub mgtRow_foot m := hm.of (by decide)
  unfold execCsync
  refine hubOn_frame (fun s h => ?_) h
  repeat' first
    | with_reducible assumption
    | with_reducible refine Frame.ite ?_ ?_
    | with_reducible refine mgtRow_frame s_mgtRow ?_ _ _ _ _

def execCsyncAck_foot : Nat := 0x7f8000000bc0000000000000000000010000000000000000000000000000000000000000000000000000000000000000000000000000000000000000000000000000000000000000000000000004080000180
theorem execCsyncAck_frame (hm : Sub execCsyncAck_foot m) (h : Frame m s0 s) :
    ∀ a0 a1, ∃ t, execCsyncAck a0 a1 s = .next t ∧ Frame m s0 t := by
  intro a0 a1
  have s_mgtRow : Sub mgtRow_foot m := hm.of (by decide)
  unfold execCsyncAck
  refine hubOn_frame (fun s h => ?_) h
  repeat' first
    | with_reducible assumption
    | with_reducible refine Frame.ite ?_ ?_
    | with_reducible refine mgtRow_frame s_mgtRow ?_ _ _ _ _

def execClapReq_foot : Nat := 0x7f8000000bc0000000000000000000010000000000000000000000000000000000000000000000000000000000000000000000000000000000000000000000000000000000000000000000000004080000180
theorem execClapReq_frame (hm : Sub execClapReq_foot m) (h : Frame m s0 s) :
    ∀ a0 a1 a2, ∃ t, execClapReq a0 a1 a2 s = .next t ∧ Frame m s0 t := by
  intro a0 a1 a2
  have s_mgtRow : Sub mgtRow_foot m := hm.of (by decide)
  unfold execClapReq
  refine hubOn_frame (fun s h => ?_) h
  repeat' first
    | with_reducible assumption
    | with_reducible refine Frame.ite ?_ ?_
    | with_reducible refine mgtRow_frame s_mgtRow ?_ _ _ _ _

def execClapRsp_foot : Nat := 0x7f8000000bc0000000000000000000010000000000000000000000000000000000000000000000000000000000000000000000000000000000000000000000000000000000000000000000000004080000180
theorem execClapRsp_frame (hm : Sub execClapRsp_foot m) (h : Frame m s0 s) :
    ∀ a0 a1 a2, ∃ t, execClapRsp a0 a1 a2 s = .next t ∧ Frame m s0 t := by
  intro a0 a1 a2
  have s_mgtRow : Sub mgtRow_foot m := hm.of (by decide)
  unfold execClapRsp
  refine hubOn_frame (fun s h => ?_) h
  repeat' first
    | with_reducible assumption
    | with_reducible refine Frame.ite ?_ ?_
    | with_reducible refine mgtRow_frame s_mgtRow ?_ _ _ _ _

def execClapRun_foot : Nat := 0x4000000080
theorem execClapRun_frame (hm : Sub execClapRun_foot m) (h : Frame m s0 s) :
    ∃ t, execClapRun s = .next t ∧ Frame m s0 t := by
  have s_clapRun : Sub clapRun_foot m := hm.of (by decide)
  unfold execClapRun
  refine hubOn_frame (fun s h => ?_) h
  repeat' first
    | with_reducible assumption
    | with_reducible refine Frame.ite ?_ ?_
    | with_reducible refine clapRun_frame s_clapRun ?_

def execClapRunEnd_foot : Nat := 0x4870e0000bc0000000000000000000010000000000000000000000000000000000000000000000000000000000000000000000000000000000000000000000000000000000000000000000000004080000180
theorem execClapRunEnd_frame (hm : Sub execClapRunEnd_foot m) (h : Frame m s0 s) :
    ∃ t, execClapRunEnd s = .next t ∧ Frame m s0 t := by
  have s_clapRunEnd : Sub clapRunEnd_foot m := hm.of (by decide)
  unfold execClapRunEnd
  refine hubOn_frame (fun s h => ?_) h
  repeat' first
    | with_reducible assumption
    | with_reducible refine Frame.ite ?_ ?_
    | with_reducible refine clapRunEnd_frame s_clapRunEnd ?_

def execEpochBoundary_foot : Nat := 0x4000002c800f0000fc0000000000000000000010002000000000000000000000000000000000000000000000000000000000000000000000000000000000000000000000000000000000000000000000004098080180
theorem execEpochBoundary_frame (hm : Sub execEpochBoundary_foot m) (h : Frame m s0 s) :
    ∃ t, execEpochBoundary s = .next t ∧ Frame m s0 t := by
  have s_epochBoundary : Sub epochBoundary_foot m := hm.of (by decide)
  unfold execEpochBoundary
  refine hubOn_frame (fun s h => ?_) h
  repeat' first
    | with_reducible assumption
    | with_reducible refine Frame.ite ?_ ?_
    | with_reducible refine epochBoundary_frame s_epochBoundary ?_

def execDemandSend_foot : Nat := 0x480000000bc0000000000000000000010000000000000000000000000000000000000000000000000000000000000000000000000000000000000000000000000000000000000000000000000004080000180
theorem execDemandSend_frame (hm : Sub execDemandSend_foot m) (h : Frame m s0 s) :
    ∃ t, execDemandSend s = .next t ∧ Frame m s0 t := by
  have s_demandSend : Sub demandSend_foot m := hm.of (by decide)
  unfold execDemandSend
  refine hubOn_frame (fun s h => ?_) h
  repeat' first
    | with_reducible assumption
    | with_reducible refine Frame.ite ?_ ?_
    | with_reducible refine demandSend_frame s_demandSend ?_

def execSalgorCutOff_foot : Nat := 0x4000000000
theorem execSalgorCutOff_frame (hm : Sub execSalgorCutOff_foot m) (h : Frame m s0 s) :
    ∃ t, execSalgorCutOff s = .next t ∧ Frame m s0 t := by
  have s_salgorCutOff : Sub salgorCutOff_foot m := hm.of (by decide)
  unfold execSalgorCutOff
  refine hubOn_frame (fun s h => ?_) h
  repeat' first
    | with_reducible assumption
    | with_reducible refine Frame.ite ?_ ?_
    | with_reducible refine salgorCutOff_frame s_salgorCutOff ?_

def execCsyncSend_foot : Nat := 0x480000000bc0000000000000000000010000000000000000000000000000000000000000000000000000000000000000000000000000000000000000000000000000000000000000000000000004080000180
theorem execCsyncSend_frame (hm : Sub execCsyncSend_foot m) (h : Frame m s0 s) :
    ∃ t, execCsyncSend s = .next t ∧ Frame m s0 t := by
  have s_csyncSend : Sub csyncSend_foot m := hm.of (by decide)
  unfold execCsyncSend
  refine hubOn_frame (fun s h => ?_) h
  repeat' first
    | with_reducible assumption
    | with_reducible refine Frame.ite ?_ ?_
    | with_reducible refine csyncSend_frame s_csyncSend ?_

def execGrantSend_foot : Nat := 0x480000000bc0000000000000000000010000000000000000000000000000000000000000000000000000000000000000000000000000000000000000000000000000000000000000000000000004080000180
theorem execGrantSend_frame (hm : Sub execGrantSend_foot m) (h : Frame m s0 s) :
    ∃ t, execGrantSend s = .next t ∧ Frame m s0 t := by
  have s_grantSend : Sub grantSend_foot m := hm.of (by decide)
  unfold execGrantSend
  refine hubOn_frame (fun s h => ?_) h
  repeat' first
    | with_reducible assumption
    | with_reducible refine Frame.ite ?_ ?_
    | with_reducible refine grantSend_frame s_grantSend ?_

def execOrphanTimeout_foot : Nat := 0x40000000000000000000010000000000000000000000000000000000000000000000000000000000000000000000000000000000000000000000000000000000000000000000000000000000100
theorem execOrphanTimeout_frame (hm : Sub execOrphanTimeout_foot m) (h : Frame m s0 s) :
    ∃ t, execOrphanTimeout s = .next t ∧ Frame m s0 t := by
  have s_orphanTimeout : Sub orphanTimeout_foot m := hm.of (by decide)
  unfold execOrphanTimeout
  refine hubOn_frame (fun s h => ?_) h
  repeat' first
    | with_reducible assumption
    | with_reducible refine Frame.ite ?_ ?_
    | with_reducible refine orphanTimeout_frame s_orphanTimeout ?_

def execVersionResend_foot : Nat := 0x480000000bc0000000000000000000010000000000000000000000000000000000000000000000000000000000000000000000000000000000000000000000000000000000000000000000000004080000180
theorem execVersionResend_frame (hm : Sub execVersionResend_foot m) (h : Frame m s0 s) :
    ∃ t, execVersionResend s = .next t ∧ Frame m s0 t := by
  have s_versionResend : Sub versionResend_foot m := hm.of (by decide)
  unfold execVersionResend
  refine hubOn_frame (fun s h => ?_) h
  repeat' first
    | with_reducible assumption
    | with_reducible refine Frame.ite ?_ ?_
    | with_reducible refine versionResend_frame s_versionResend ?_

def execCoordinatorAlone_foot : Nat := 0x4810c0000bc0000000000000000000010000000000000000000000000000000000000000000000000000000000000000000000000000000000000000000000000000000000000000000000000004080000180
theorem execCoordinatorAlone_frame (hm : Sub execCoordinatorAlone_foot m) (h : Frame m s0 s) :
    ∃ t, execCoordinatorAlone s = .next t ∧ Frame m s0 t := by
  have s_coordinatorAlone : Sub coordinatorAlone_foot m := hm.of (by decide)
  unfold execCoordinatorAlone
  refine hubOn_frame (fun s h => ?_) h
  repeat' first
    | with_reducible assumption
    | with_reducible refine Frame.ite ?_ ?_
    | with_reducible refine coordinatorAlone_frame s_coordinatorAlone ?_

end Sys2Proof.Machine
end

