-- ==== Sys2Proof/Laws/FrameRegCmds.lean ====
section
/-!
SUPPORT. Laws/FrameRegCmds.lean: the footprint of every function of Machine/RegCmds.lean, and that it writes nothing outside it.
-/
namespace Sys2Proof.Machine

set_option linter.all false

variable {m : Nat} {s0 s : State}

def State.snapObj_foot : Nat := 0x40000000000000000000000000000000000000000000000000000000000000000000000000000000000000000000000000000000000000000000000
theorem State.snapObj_frame (hm : Sub State.snapObj_foot m) (h : Frame m s0 s) :
    Frame m s0 (State.snapObj s) := by
  have k_TLY_OBJ : Has m TLY_OBJ := hm.has 14 12 rfl (by decide)
  unfold State.snapObj
  repeat' first
    | with_reducible assumption
    | (extract_lets -underBinder +onlyGivenNames x; have u : True := (by clear_value x; guard_hyp x :ₛ State; trivial); clear u; refine Frame.cut (m := m) (s0 := s0) (t := x) ?_ ?_; (on_goal 1 => subst x); (on_goal 2 => (intro hx; clear_value x)))
    | (extract_lets -underBinder +onlyGivenNames n; first | clear_value n | subst n)
    | with_reducible refine Frame.ite ?_ ?_
    | with_reducible refine wr_frame (by with_reducible assumption) ?_ _ _

def State.snapRing_foot : Nat := 0x800000000000000000000000000000000000000000000
theorem State.snapRing_frame (hm : Sub State.snapRing_foot m) (h : Frame m s0 s) :
    Frame m s0 (State.snapRing s) := by
  have k_HIF_TRING_SNAP : Has m HIF_TRING_SNAP := hm.has 5 18 rfl (by decide)
  unfold State.snapRing
  repeat' first
    | with_reducible assumption
    | (extract_lets -underBinder +onlyGivenNames x; have u : True := (by clear_value x; guard_hyp x :ₛ State; trivial); clear u; refine Frame.cut (m := m) (s0 := s0) (t := x) ?_ ?_; (on_goal 1 => subst x); (on_goal 2 => (intro hx; clear_value x)))
    | (extract_lets -underBinder +onlyGivenNames n; first | clear_value n | subst n)
    | with_reducible refine Frame.ite ?_ ?_
    | with_reducible refine wr_frame (by with_reducible assumption) ?_ _ _
    | with_reducible refine Frame.foldTo ?_ (fun s x hs => ?_)

def snapshotSelect_foot : Nat := 0x180000000000000000018000000000000000c0000000000060000380000000000000000000000000000000000000000000000000000000000000000000c00000000000000000000000000000000000000000000
theorem snapshotSelect_frame (hm : Sub snapshotSelect_foot m) (h : Frame m s0 s) :
    ∀ a0 a1, Frame m s0 (snapshotSelect a0 a1 s) := by
  intro a0 a1
  have k1 : Has m (selField a0.val) := by
    unfold selField
    split
    · exact hm.has 5 17 rfl (by decide)
    · exact hm.has 13 9 rfl (by decide)
    · exact hm.has 14 11 rfl (by decide)
    · exact hm.has 15 27 rfl (by decide)
    · exact hm.has 21 48 rfl (by decide)
    · exact hm.has 19 9 rfl (by decide)
  unfold snapshotSelect
  extract_lets +onlyGivenNames f
  refine Frame.ite h ?_
  extract_lets +onlyGivenNames t
  have ht : Frame m s0 t := wr_frame k1 h _ _
  split
  · exact State.snapRing_frame (hm.of (by decide)) ht
  · exact State.snapCtx_frame (hm.of (by decide)) ht
  · exact State.snapObj_frame (hm.of (by decide)) ht
  · exact State.snapAcct_frame (hm.of (by decide)) ht
  · exact State.snapMember_frame (hm.of (by decide)) ht
  · exact State.showEdge_frame (hm.of (by decide)) ht

def w1cWrite_foot : Nat := 0x18000000000000000000000000000000000000000000000000000000000000000000000007c00000000000c00000000000000000000
theorem w1cWrite_frame (hm : Sub w1cWrite_foot m) (h : Frame m s0 s) :
    ∀ a0 a1 a2 a3, Frame m s0 (w1cWrite a0 a1 a2 a3 s) := by
  intro a0 a1 a2 a3
  unfold w1cWrite
  extract_lets o
  split
  · exact h
  · refine Frame.foldlMem h fun s x hx hs => wr_frame ?_ hs _ _
    have hx2 := List.mem_filter.mp hx
    exact (has_of_allHas (m := w1cWrite_foot) (p := fun f => decide (f.acc = .w1c)) (by decide +kernel) (wordFlds_mem hx2.1) hx2.2).mono hm

def rwtDirectWrite_foot : Nat := 0x3000000000000000000000000000000000000000040000000
theorem rwtDirectWrite_frame (hm : Sub rwtDirectWrite_foot m) (h : Frame m s0 s) :
    ∀ a0 a1 a2, Frame m s0 (rwtDirectWrite a0 a1 a2 s) := by
  intro a0 a1 a2
  have s_State_setSlt : Sub State.setSlt_foot m := hm.of (by decide)
  have k_SLT_RWT_count : Has m SLT_RWT_count := hm.has 6 11 rfl (by decide)
  have k_SLT_RWT_offset : Has m SLT_RWT_offset := hm.has 6 10 rfl (by decide)
  unfold rwtDirectWrite
  repeat' first
    | with_reducible assumption
    | (extract_lets -underBinder +onlyGivenNames x; have u : True := (by clear_value x; guard_hyp x :ₛ State; trivial); clear u; refine Frame.cut (m := m) (s0 := s0) (t := x) ?_ ?_; (on_goal 1 => subst x); (on_goal 2 => (intro hx; clear_value x)))
    | (extract_lets -underBinder +onlyGivenNames n; first | clear_value n | subst n)
    | with_reducible refine Frame.ite ?_ ?_
    | with_reducible refine wr_frame (by with_reducible assumption) ?_ _ _
    | with_reducible refine bump_frame (by with_reducible assumption) ?_ _
    | with_reducible refine State.setSlt_frame s_State_setSlt ?_ _
    | split

def registerWrite_foot : Nat := 0xe000000000000000000000020000000000000000000
theorem registerWrite_frame (hm : Sub registerWrite_foot m) (h : Frame m s0 s) :
    ∀ a0 a1 a2 a3, Frame m s0 (registerWrite a0 a1 a2 a3 s) := by
  intro a0 a1 a2 a3
  unfold registerWrite
  extract_lets o
  split
  · exact h
  · refine Frame.foldl h fun s x hs => ?_
    split
    · refine State.writeFlds_frame (fun u f hf hp => (has_of_allHas (m := registerWrite_foot)
        (p := fun f => decide (f.key ∈ [GEN_SCRATCH_scratch.key, HIF_SDESC_base.key, HIF_SCPL_base.key, HIF_SNOTIFY_addr.key]))
        (by decide +kernel) hf ?_).mono hm) hs _ _
      simp only [State.plainRw, Bool.or_eq_true, Bool.and_eq_true, decide_eq_true_eq, List.mem_cons, List.not_mem_nil, or_false] at hp ⊢
      tauto
    · exact hs

def State.latchRest_foot : Nat := 0x1000000000
theorem State.latchRest_frame (hm : Sub State.latchRest_foot m) (h : Frame m s0 s) :
    ∀ a1 a2, Frame m s0 (State.latchRest s a1 a2) := by
  intro a1 a2
  have c_hub : m.testBit 36 = true := hm.bit 36 (by decide)
  unfold State.latchRest
  repeat' first
    | with_reducible assumption
    | (extract_lets -underBinder +onlyGivenNames x; have u : True := (by clear_value x; guard_hyp x :ₛ State; trivial); clear u; refine Frame.cut (m := m) (s0 := s0) (t := x) ?_ ?_; (on_goal 1 => subst x); (on_goal 2 => (intro hx; clear_value x)))
    | (extract_lets -underBinder +onlyGivenNames n; first | clear_value n | subst n)
    | with_reducible refine Frame.ite ?_ ?_
    | with_reducible exact Frame.set_hub c_hub (by with_reducible assumption)
    | with_reducible refine Frame.foldl ?_ (fun s x hs => ?_)
    | split

def registerLowWordRead_foot : Nat := 0x10000000000000000000000000000000000000000000000000000000000000000000000000000000000000003080000000000000000000000000000000001020000180
theorem registerLowWordRead_frame (hm : Sub registerLowWordRead_foot m) (h : Frame m s0 s) :
    ∀ a0 a1 a2 a3 a4, Frame m s0 (registerLowWordRead a0 a1 a2 a3 a4 s) := by
  intro a0 a1 a2 a3 a4
  have s_State_dbBadRead : Sub State.dbBadRead_foot m := hm.of (by decide)
  have s_State_latchRest : Sub State.latchRest_foot m := hm.of (by decide)
  have s_State_send : Sub State.send_foot m := hm.of (by decide)
  unfold registerLowWordRead
  repeat' first
    | with_reducible assumption
    | (extract_lets -underBinder +onlyGivenNames x; have u : True := (by clear_value x; guard_hyp x :ₛ State; trivial); clear u; refine Frame.cut (m := m) (s0 := s0) (t := x) ?_ ?_; (on_goal 1 => subst x); (on_goal 2 => (intro hx; clear_value x)))
    | (extract_lets -underBinder +onlyGivenNames n; first | clear_value n | subst n)
    | with_reducible refine Frame.ite ?_ ?_
    | with_reducible refine State.dbBadRead_frame s_State_dbBadRead ?_ _
    | with_reducible refine State.latchRest_frame s_State_latchRest ?_ _ _
    | with_reducible refine State.send_frame s_State_send ?_ _
    | split

def execSnapshotSelect_foot : Nat := 0x180000000000000000018000000000000000c0000000000060000380000000000000000000000000000000000000000000000000000000000000000000c00000000000000000000000000000000000000000000
theorem execSnapshotSelect_frame (hm : Sub execSnapshotSelect_foot m) (h : Frame m s0 s) :
    ∀ a0 a1, ∃ t, execSnapshotSelect a0 a1 s = .next t ∧ Frame m s0 t := by
  intro a0 a1
  have s_snapshotSelect : Sub snapshotSelect_foot m := hm.of (by decide)
  unfold execSnapshotSelect
  refine hubOn_frame (fun s h => ?_) h
  repeat' first
    | with_reducible assumption
    | with_reducible refine Frame.ite ?_ ?_
    | with_reducible refine snapshotSelect_frame s_snapshotSelect ?_ _ _

def execW1cWrite_foot : Nat := 0x18000000000000000000000000000000000000000000000000000000000000000000000007c00000000000c00000000000000000000
theorem execW1cWrite_frame (hm : Sub execW1cWrite_foot m) (h : Frame m s0 s) :
    ∀ a0 a1 a2 a3, ∃ t, execW1cWrite a0 a1 a2 a3 s = .next t ∧ Frame m s0 t := by
  intro a0 a1 a2 a3
  have s_w1cWrite : Sub w1cWrite_foot m := hm.of (by decide)
  unfold execW1cWrite
  refine hubOn_frame (fun s h => ?_) h
  repeat' first
    | with_reducible assumption
    | with_reducible refine Frame.ite ?_ ?_
    | with_reducible refine w1cWrite_frame s_w1cWrite ?_ _ _ _ _

def execRwtDirectWrite_foot : Nat := 0x3000000000000000000000000000000000000000040000000
theorem execRwtDirectWrite_frame (hm : Sub execRwtDirectWrite_foot m) (h : Frame m s0 s) :
    ∀ a0 a1 a2, ∃ t, execRwtDirectWrite a0 a1 a2 s = .next t ∧ Frame m s0 t := by
  intro a0 a1 a2
  have s_rwtDirectWrite : Sub rwtDirectWrite_foot m := hm.of (by decide)
  unfold execRwtDirectWrite
  refine hubOn_frame (fun s h => ?_) h
  repeat' first
    | with_reducible assumption
    | with_reducible refine Frame.ite ?_ ?_
    | with_reducible refine rwtDirectWrite_frame s_rwtDirectWrite ?_ _ _ _

def execRegisterWrite_foot : Nat := 0xe000000000000000000000020000000000000000000
theorem execRegisterWrite_frame (hm : Sub execRegisterWrite_foot m) (h : Frame m s0 s) :
    ∀ a0 a1 a2 a3, ∃ t, execRegisterWrite a0 a1 a2 a3 s = .next t ∧ Frame m s0 t := by
  intro a0 a1 a2 a3
  have s_registerWrite : Sub registerWrite_foot m := hm.of (by decide)
  unfold execRegisterWrite
  refine hubOn_frame (fun s h => ?_) h
  repeat' first
    | with_reducible assumption
    | with_reducible refine Frame.ite ?_ ?_
    | with_reducible refine registerWrite_frame s_registerWrite ?_ _ _ _ _

def execRegisterLowWordRead_foot : Nat := 0x10000000000000000000000000000000000000000000000000000000000000000000000000000000000000003080000000000000000000000000000000001020000180
theorem execRegisterLowWordRead_frame (hm : Sub execRegisterLowWordRead_foot m) (h : Frame m s0 s) :
    ∀ a0 a1 a2 a3 a4, ∃ t, execRegisterLowWordRead a0 a1 a2 a3 a4 s = .next t ∧ Frame m s0 t := by
  intro a0 a1 a2 a3 a4
  have s_registerLowWordRead : Sub registerLowWordRead_foot m := hm.of (by decide)
  unfold execRegisterLowWordRead
  refine hubOn_frame (fun s h => ?_) h
  repeat' first
    | with_reducible assumption
    | with_reducible refine Frame.ite ?_ ?_
    | with_reducible refine registerLowWordRead_frame s_registerLowWordRead ?_ _ _ _ _ _

end Sys2Proof.Machine
end

