-- ==== Sys2Proof/Laws/FrameCheck.lean ====
section
/-!
SUPPORT. Laws/FrameCheck.lean: the footprint of every function of Machine/Check.lean, and that it writes nothing outside it.
-/
namespace Sys2Proof.Machine

set_option linter.all false

variable {m : Nat} {s0 s : State}

def State.writeTaken_foot : Nat := 0x30007f67800f0ffff0303fffe46000c6000000000c050f8ef1fe0f80180000832201ff8001fff3ffffc0600780fffc1e01fffe7fff301f827087a80803c000180700001f1f800e0e00081e00200000000000000000000
theorem State.writeTaken_frame (hm : Sub State.writeTaken_foot m) (h : Frame m s0 s) :
    ∀ a1 a2, Frame m s0 (State.writeTaken s a1 a2) := by
  intro a1 a2
  exact State.writeFlds_frame (fun u f hf hp => (has_of_allHas (m := State.writeTaken_foot) (p := fun f => decide (f.acc = .rwt)) (by decide +kernel) hf hp).mono hm) h _ _

def State.clearTriggers_foot : Nat := 0x300000000000020000100000000000000000000000000000000000000000000000000000000000000020000000000000000000018000004000000000000000000010000000600000000000000000000000000000
theorem State.clearTriggers_frame (hm : Sub State.clearTriggers_foot m) (h : Frame m s0 s) :
    Frame m s0 (State.clearTriggers s) := by
  unfold State.clearTriggers
  refine Frame.foldlMem h fun s x hx hs => wr_frame ?_ hs _ _
  simp only [triggerFlds, List.mem_cons, List.not_mem_nil, or_false] at hx
  rcases hx with e | e | e | e | e | e | e | e | e | e | e <;> subst e
  · exact hm.has 8 4 rfl (by decide)
  · exact hm.has 9 5 rfl (by decide)
  · exact hm.has 9 6 rfl (by decide)
  · exact hm.has 11 3 rfl (by decide)
  · exact hm.has 21 2 rfl (by decide)
  · exact hm.has 22 1 rfl (by decide)
  · exact hm.has 22 2 rfl (by decide)
  · exact hm.has 2 13 rfl (by decide)
  · exact hm.has 2 14 rfl (by decide)
  · exact hm.has 4 1 rfl (by decide)
  · exact hm.has 20 4 rfl (by decide)

def State.layer_foot : Nat := 0x30007f67800f0ffff0303fffe46000c6000000000c050f8ef1fe0f80180000832201ff8001fff3ffffc0600780fffc1e01fffe7fff301f827087a80803c000180700001f1f800e0e00081e00200000000000030080000
theorem State.layer_frame (hm : Sub State.layer_foot m) (h : Frame m s0 s) :
    ∀ a1, Frame m s0 (State.layer s a1) := by
  intro a1
  have s_State_clearTriggers : Sub State.clearTriggers_foot m := hm.of (by decide)
  have s_State_writeTaken : Sub State.writeTaken_foot m := hm.of (by decide)
  have s_State_setCtx : Sub State.setCtx_foot m := hm.of (by decide)
  have c_hif : m.testBit 29 = true := hm.bit 29 (by decide)
  have c_thm : m.testBit 28 = true := hm.bit 28 (by decide)
  unfold State.layer
  repeat' first
    | with_reducible assumption
    | (extract_lets -underBinder +onlyGivenNames x; have u : True := (by clear_value x; guard_hyp x :ₛ State; trivial); clear u; refine Frame.cut (m := m) (s0 := s0) (t := x) ?_ ?_; (on_goal 1 => subst x); (on_goal 2 => (intro hx; clear_value x)))
    | (extract_lets -underBinder +onlyGivenNames n; first | clear_value n | subst n)
    | with_reducible refine Frame.ite ?_ ?_
    | with_reducible refine State.clearTriggers_frame s_State_clearTriggers ?_
    | with_reducible refine State.writeTaken_frame s_State_writeTaken ?_ _ _
    | with_reducible refine State.setCtx_frame s_State_setCtx ?_ _ _
    | with_reducible exact Frame.set_hif c_hif (by with_reducible assumption)
    | with_reducible exact Frame.set_thm c_thm (by with_reducible assumption)
    | with_reducible refine Frame.foldl ?_ (fun s x hs => ?_)
    | split

def State.layers12_foot : Nat := 0x30007f67800f0ffff0303fffe46000c6000000000c050f8ef1fe0f80180000832201ff8001fff3ffffc0600780fffc1e01fffe7fff301f827087a80803c000180700001f1f800e0e00081e00200000000000030080000
theorem State.layers12_frame (hm : Sub State.layers12_foot m) (h : Frame m s0 s) :
    Frame m s0 (State.layers12 s) := by
  have s_State_layer : Sub State.layer_foot m := hm.of (by decide)
  unfold State.layers12
  repeat' first
    | with_reducible assumption
    | with_reducible refine Frame.ite ?_ ?_
    | with_reducible refine State.layer_frame s_State_layer ?_ _
    | with_reducible refine Frame.foldl ?_ (fun s x hs => ?_)

end Sys2Proof.Machine
end

