-- ==== Sys2Proof/Laws/FrameClock.lean ====
section
/-!
SUPPORT. Laws/FrameClock.lean: the footprint of every function of Machine/Clock.lean, and that it writes nothing outside it.
-/
namespace Sys2Proof.Machine

set_option linter.all false

variable {m : Nat} {s0 s : State}

def fmStart_foot : Nat := 0x6f000000000001000000000
theorem fmStart_frame (hm : Sub fmStart_foot m) (h : Frame m s0 s) :
    ∀ a0, Frame m s0 (fmStart a0 s) := by
  intro a0
  have k_CLK_FM_CNT_count : Has m CLK_FM_CNT_count := hm.has 1 11 rfl (by decide)
  have k_CLK_FM_CNT_done : Has m CLK_FM_CNT_done := hm.has 1 12 rfl (by decide)
  have k_CLK_FM_CTL_idx : Has m CLK_FM_CTL_idx := hm.has 1 9 rfl (by decide)
  have k_CLK_FM_CTL_meas : Has m CLK_FM_CTL_meas := hm.has 1 6 rfl (by decide)
  have k_CLK_FM_CTL_ref : Has m CLK_FM_CTL_ref := hm.has 1 7 rfl (by decide)
  have k_CLK_FM_CTL_win : Has m CLK_FM_CTL_win := hm.has 1 8 rfl (by decide)
  have c_hub : m.testBit 36 = true := hm.bit 36 (by decide)
  unfold fmStart
  repeat' first
    | with_reducible assumption
    | (extract_lets -underBinder +onlyGivenNames x; have u : True := (by clear_value x; guard_hyp x :ₛ State; trivial); clear u; refine Frame.cut (m := m) (s0 := s0) (t := x) ?_ ?_; (on_goal 1 => subst x); (on_goal 2 => (intro hx; clear_value x)))
    | (extract_lets -underBinder +onlyGivenNames n; first | clear_value n | subst n)
    | with_reducible refine Frame.ite ?_ ?_
    | with_reducible refine wr_frame (by with_reducible assumption) ?_ _ _
    | with_reducible exact Frame.set_hub c_hub (by with_reducible assumption)
    | split

def fmDone_foot : Nat := 0x60000000000001000000000
theorem fmDone_frame (hm : Sub fmDone_foot m) (h : Frame m s0 s) :
    ∀ a0, Frame m s0 (fmDone a0 s) := by
  intro a0
  have k_CLK_FM_CNT_count : Has m CLK_FM_CNT_count := hm.has 1 11 rfl (by decide)
  have k_CLK_FM_CNT_done : Has m CLK_FM_CNT_done := hm.has 1 12 rfl (by decide)
  have c_hub : m.testBit 36 = true := hm.bit 36 (by decide)
  unfold fmDone
  repeat' first
    | with_reducible assumption
    | (extract_lets -underBinder +onlyGivenNames x; have u : True := (by clear_value x; guard_hyp x :ₛ State; trivial); clear u; refine Frame.cut (m := m) (s0 := s0) (t := x) ?_ ?_; (on_goal 1 => subst x); (on_goal 2 => (intro hx; clear_value x)))
    | (extract_lets -underBinder +onlyGivenNames n; first | clear_value n | subst n)
    | with_reducible refine Frame.ite ?_ ?_
    | with_reducible refine wr_frame (by with_reducible assumption) ?_ _ _
    | with_reducible exact Frame.set_hub c_hub (by with_reducible assumption)
    | split

def tsResync_foot : Nat := 0x10000000000000000000000000000000000000000000000000000000000000000000000000000000000000000000000000000000000000080000000000000000000100
theorem tsResync_frame (hm : Sub tsResync_foot m) (h : Frame m s0 s) :
    ∀ a0, Frame m s0 (tsResync a0 s) := by
  intro a0
  have s_State_emitLim : Sub State.emitLim_foot m := hm.of (by decide)
  have k_CLK_TS_STAT_resync : Has m CLK_TS_STAT_resync := hm.has 1 13 rfl (by decide)
  unfold tsResync
  repeat' first
    | with_reducible assumption
    | with_reducible refine Frame.ite ?_ ?_
    | with_reducible refine bump_frame (by with_reducible assumption) ?_ _
    | with_reducible refine State.emitLim_frame s_State_emitLim ?_ _ _ _ _ _
    | with_reducible refine Frame.foldl ?_ (fun s x hs => ?_)
    | split

def State.dropCmds_foot : Nat := 0x700000000000000000000000000000000000000000000000000000000000000000000000000000000000000000000000000000000000000000000000000000000000000000100000
theorem State.dropCmds_frame (hm : Sub State.dropCmds_foot m) (h : Frame m s0 s) :
    ∀ a1, Frame m s0 (State.dropCmds s a1) := by
  intro a1
  have s_State_dropGroup : Sub State.dropGroup_foot m := hm.of (by decide)
  have c_trc : m.testBit 20 = true := hm.bit 20 (by decide)
  unfold State.dropCmds
  repeat' first
    | with_reducible assumption
    | (extract_lets -underBinder +onlyGivenNames x; have u : True := (by clear_value x; guard_hyp x :ₛ State; trivial); clear u; refine Frame.cut (m := m) (s0 := s0) (t := x) ?_ ?_; (on_goal 1 => subst x); (on_goal 2 => (intro hx; clear_value x)))
    | (extract_lets -underBinder +onlyGivenNames n; first | clear_value n | subst n)
    | with_reducible refine Frame.ite ?_ ?_
    | with_reducible refine State.dropGroup_frame s_State_dropGroup ?_ _
    | with_reducible exact Frame.set_trc c_trc (by with_reducible assumption)
    | with_reducible refine Frame.foldl ?_ (fun s x hs => ?_)

def State.coreReset_foot : Nat := 0x70000000001000000000601700063f00018c00000000000000000000000000000000000000000000029800000000000000000000000000000000000000000000000000000096fd00
theorem State.coreReset_frame (hm : Sub State.coreReset_foot m) (h : Frame m s0 s) :
    ∀ a1, Frame m s0 (State.coreReset s a1) := by
  intro a1
  have s_State_setLane : Sub State.setLane_foot m := hm.of (by decide)
  have s_State_setLn : Sub State.setLn_foot m := hm.of (by decide)
  have s_State_chokerLost : Sub State.chokerLost_foot m := hm.of (by decide)
  have s_State_dropCmds : Sub State.dropCmds_foot m := hm.of (by decide)
  have s_State_freeObjs : Sub State.freeObjs_foot m := hm.of (by decide)
  have s_State_setCore : Sub State.setCore_foot m := hm.of (by decide)
  have s_State_showHeld : Sub State.showHeld_foot m := hm.of (by decide)
  have s_State_setDroop : Sub State.setDroop_foot m := hm.of (by decide)
  have c_dvfs : m.testBit 23 = true := hm.bit 23 (by decide)
  have c_sns : m.testBit 17 = true := hm.bit 17 (by decide)
  unfold State.coreReset
  repeat' first
    | with_reducible assumption
    | (extract_lets -underBinder +onlyGivenNames x; have u : True := (by clear_value x; guard_hyp x :ₛ State; trivial); clear u; refine Frame.cut (m := m) (s0 := s0) (t := x) ?_ ?_; (on_goal 1 => subst x); (on_goal 2 => (intro hx; clear_value x)))
    | (extract_lets -underBinder +onlyGivenNames n; first | clear_value n | subst n)
    | with_reducible refine Frame.ite ?_ ?_
    | with_reducible refine State.setLane_frame s_State_setLane ?_ _ _
    | with_reducible refine State.setLn_frame s_State_setLn ?_ _ _
    | with_reducible refine State.chokerLost_frame s_State_chokerLost ?_ _
    | with_reducible refine State.dropCmds_frame s_State_dropCmds ?_ _
    | with_reducible refine State.freeObjs_frame s_State_freeObjs ?_ _
    | with_reducible refine State.setCore_frame s_State_setCore ?_ _ _
    | with_reducible refine State.showHeld_frame s_State_showHeld ?_ _
    | with_reducible refine State.setDroop_frame s_State_setDroop ?_ _ _
    | with_reducible exact Frame.set_dvfs c_dvfs (by with_reducible assumption)
    | with_reducible exact Frame.set_sns c_sns (by with_reducible assumption)
    | with_reducible refine Frame.foldTo ?_ (fun s x hs => ?_)
    | split

def State.linkReset_foot : Nat := 0x18000000000000000000000000000000000000000000000000001000001400
theorem State.linkReset_frame (hm : Sub State.linkReset_foot m) (h : Frame m s0 s) :
    ∀ a1, Frame m s0 (State.linkReset s a1) := by
  intro a1
  have s_State_chokerLost : Sub State.chokerLost_foot m := hm.of (by decide)
  have c_cntPend : m.testBit 10 = true := hm.bit 10 (by decide)
  have c_hub : m.testBit 36 = true := hm.bit 36 (by decide)
  unfold State.linkReset
  repeat' first
    | with_reducible assumption
    | (extract_lets -underBinder +onlyGivenNames x; have u : True := (by clear_value x; guard_hyp x :ₛ State; trivial); clear u; refine Frame.cut (m := m) (s0 := s0) (t := x) ?_ ?_; (on_goal 1 => subst x); (on_goal 2 => (intro hx; clear_value x)))
    | (extract_lets -underBinder +onlyGivenNames n; first | clear_value n | subst n)
    | with_reducible refine Frame.ite ?_ ?_
    | with_reducible refine State.chokerLost_frame s_State_chokerLost ?_ _
    | with_reducible exact Frame.set_cntPend_hub c_cntPend c_hub (by with_reducible assumption)
    | with_reducible refine Frame.foldTo ?_ (fun s x hs => ?_)

def outpostReset_foot : Nat := 0x70000000001000000000601700063f00018c00000000000000000000000000000000000000000000029800000000000000000000000000000000000000000000000000100096fd00
theorem outpostReset_frame (hm : Sub outpostReset_foot m) (h : Frame m s0 s) :
    ∀ a0 a1, Frame m s0 (outpostReset a0 a1 s) := by
  intro a0 a1
  have s_State_coreReset : Sub State.coreReset_foot m := hm.of (by decide)
  have s_State_linkReset : Sub State.linkReset_foot m := hm.of (by decide)
  have s_State_emit : Sub State.emit_foot m := hm.of (by decide)
  unfold outpostReset
  repeat' first
    | with_reducible assumption
    | with_reducible refine Frame.ite ?_ ?_
    | with_reducible refine State.coreReset_frame s_State_coreReset ?_ _
    | with_reducible refine State.linkReset_frame s_State_linkReset ?_ _
    | with_reducible refine State.emit_frame s_State_emit ?_ _ _ _
    | split

def outpostRelease_foot : Nat := 0x10000000000000000000000000000000000000000000000000000000000000000000000018300000000000000000000000000000000028000000000000001000807500
theorem outpostRelease_frame (hm : Sub outpostRelease_foot m) (h : Frame m s0 s) :
    ∀ a0 a1, Frame m s0 (outpostRelease a0 a1 s) := by
  intro a0 a1
  have s_State_newCmp : Sub State.newCmp_foot m := hm.of (by decide)
  have s_State_setCore : Sub State.setCore_foot m := hm.of (by decide)
  have c_hub : m.testBit 36 = true := hm.bit 36 (by decide)
  unfold outpostRelease
  repeat' first
    | with_reducible assumption
    | (extract_lets -underBinder +onlyGivenNames x; have u : True := (by clear_value x; guard_hyp x :ₛ State; trivial); clear u; refine Frame.cut (m := m) (s0 := s0) (t := x) ?_ ?_; (on_goal 1 => subst x); (on_goal 2 => (intro hx; clear_value x)))
    | (extract_lets -underBinder +onlyGivenNames n; first | clear_value n | subst n)
    | with_reducible refine Frame.ite ?_ ?_
    | with_reducible refine State.newCmp_frame s_State_newCmp ?_ _ _ _ _
    | with_reducible refine State.setCore_frame s_State_setCore ?_ _ _
    | with_reducible exact Frame.set_hub c_hub (by with_reducible assumption)
    | split

def dvfsRequest_foot : Nat := 0x1000000000000000000000000000000000000000000000000000000000000000000000000030000000000000000000000000000000002c000000000000000000800100
theorem dvfsRequest_frame (hm : Sub dvfsRequest_foot m) (h : Frame m s0 s) :
    ∀ a0, Frame m s0 (dvfsRequest a0 s) := by
  intro a0
  have s_State_dvfsNext : Sub State.dvfsNext_foot m := hm.of (by decide)
  have c_dvfs : m.testBit 23 = true := hm.bit 23 (by decide)
  unfold dvfsRequest
  repeat' first
    | with_reducible assumption
    | (extract_lets -underBinder +onlyGivenNames x; have u : True := (by clear_value x; guard_hyp x :ₛ State; trivial); clear u; refine Frame.cut (m := m) (s0 := s0) (t := x) ?_ ?_; (on_goal 1 => subst x); (on_goal 2 => (intro hx; clear_value x)))
    | (extract_lets -underBinder +onlyGivenNames n; first | clear_value n | subst n)
    | with_reducible refine Frame.ite ?_ ?_
    | with_reducible refine State.dvfsNext_frame s_State_dvfsNext ?_
    | with_reducible exact Frame.set_dvfs c_dvfs (by with_reducible assumption)
    | split

def dvfsVoltageReady_foot : Nat := 0x8000000000000000000000000
theorem dvfsVoltageReady_frame (hm : Sub dvfsVoltageReady_foot m) (h : Frame m s0 s) :
    Frame m s0 (dvfsVoltageReady s) := by
  have k_CLK_DVFS_STAT_stage : Has m CLK_DVFS_STAT_stage := hm.has 1 21 rfl (by decide)
  unfold dvfsVoltageReady
  repeat' first
    | with_reducible assumption
    | with_reducible refine Frame.ite ?_ ?_
    | with_reducible refine wr_frame (by with_reducible assumption) ?_ _ _
    | split

def State.countQuiet_foot : Nat := 0x2000
theorem State.countQuiet_frame (hm : Sub State.countQuiet_foot m) (h : Frame m s0 s) :
    ∀ a1, Frame m s0 (State.countQuiet s a1) := by
  intro a1
  have s_State_setDroop : Sub State.setDroop_foot m := hm.of (by decide)
  unfold State.countQuiet
  repeat' first
    | with_reducible assumption
    | (extract_lets -underBinder +onlyGivenNames x; have u : True := (by clear_value x; guard_hyp x :ₛ State; trivial); clear u; refine Frame.cut (m := m) (s0 := s0) (t := x) ?_ ?_; (on_goal 1 => subst x); (on_goal 2 => (intro hx; clear_value x)))
    | (extract_lets -underBinder +onlyGivenNames n; first | clear_value n | subst n)
    | with_reducible refine Frame.ite ?_ ?_
    | with_reducible refine State.setDroop_frame s_State_setDroop ?_ _ _

def State.dvfsFlip_foot : Nat := 0x32000000000000000000806000
theorem State.dvfsFlip_frame (hm : Sub State.dvfsFlip_foot m) (h : Frame m s0 s) :
    ∀ a1, Frame m s0 (State.dvfsFlip s a1) := by
  intro a1
  have s_State_countQuiet : Sub State.countQuiet_foot m := hm.of (by decide)
  have s_State_countCycles : Sub State.countCycles_foot m := hm.of (by decide)
  have s_State_dvfsPark : Sub State.dvfsPark_foot m := hm.of (by decide)
  have k_CLK_DVFS_STAT_half : Has m CLK_DVFS_STAT_half := hm.has 1 22 rfl (by decide)
  have k_CLK_DVFS_STAT_point : Has m CLK_DVFS_STAT_point := hm.has 1 19 rfl (by decide)
  have c_dvfs : m.testBit 23 = true := hm.bit 23 (by decide)
  unfold State.dvfsFlip
  repeat' first
    | with_reducible assumption
    | (extract_lets -underBinder +onlyGivenNames x; have u : True := (by clear_value x; guard_hyp x :ₛ State; trivial); clear u; refine Frame.cut (m := m) (s0 := s0) (t := x) ?_ ?_; (on_goal 1 => subst x); (on_goal 2 => (intro hx; clear_value x)))
    | (extract_lets -underBinder +onlyGivenNames n; first | clear_value n | subst n)
    | with_reducible refine Frame.ite ?_ ?_
    | with_reducible refine wr_frame (by with_reducible assumption) ?_ _ _
    | with_reducible refine State.countQuiet_frame s_State_countQuiet ?_ _
    | with_reducible refine State.countCycles_frame s_State_countCycles ?_ _
    | with_reducible refine State.dvfsPark_frame s_State_dvfsPark ?_
    | with_reducible exact Frame.set_dvfs c_dvfs (by with_reducible assumption)
    | with_reducible refine Frame.foldTo ?_ (fun s x hs => ?_)

def dvfsSwitch_foot : Nat := 0x1000000000000000000000000000000000000000000000000000000000000000000000000030000000000000000000000000000000003e000000000000000000806100
theorem dvfsSwitch_frame (hm : Sub dvfsSwitch_foot m) (h : Frame m s0 s) :
    Frame m s0 (dvfsSwitch s) := by
  have s_State_dvfsSettle : Sub State.dvfsSettle_foot m := hm.of (by decide)
  have s_State_dvfsLower : Sub State.dvfsLower_foot m := hm.of (by decide)
  have s_State_dvfsFlip : Sub State.dvfsFlip_foot m := hm.of (by decide)
  have k_CLK_DVFS_STAT_stage : Has m CLK_DVFS_STAT_stage := hm.has 1 21 rfl (by decide)
  have k_CLK_DVFS_STAT_target : Has m CLK_DVFS_STAT_target := hm.has 1 20 rfl (by decide)
  unfold dvfsSwitch
  repeat' first
    | with_reducible assumption
    | (extract_lets -underBinder +onlyGivenNames x; have u : True := (by clear_value x; guard_hyp x :ₛ State; trivial); clear u; refine Frame.cut (m := m) (s0 := s0) (t := x) ?_ ?_; (on_goal 1 => subst x); (on_goal 2 => (intro hx; clear_value x)))
    | (extract_lets -underBinder +onlyGivenNames n; first | clear_value n | subst n)
    | with_reducible refine Frame.ite ?_ ?_
    | with_reducible refine wr_frame (by with_reducible assumption) ?_ _ _
    | with_reducible refine State.dvfsSettle_frame s_State_dvfsSettle ?_
    | with_reducible refine State.dvfsLower_frame s_State_dvfsLower ?_ _ _ _
    | with_reducible refine State.dvfsFlip_frame s_State_dvfsFlip ?_ _
    | split

def dvfsHalfParked_foot : Nat := 0x1000000000000000000000000000000000000000000000000000000000000000000000000030000000000000000000000000000000002c000000000000000000800100
theorem dvfsHalfParked_frame (hm : Sub dvfsHalfParked_foot m) (h : Frame m s0 s) :
    Frame m s0 (dvfsHalfParked s) := by
  have s_State_dvfsNext : Sub State.dvfsNext_foot m := hm.of (by decide)
  have k_CLK_DVFS_STAT_parked : Has m CLK_DVFS_STAT_parked := hm.has 1 23 rfl (by decide)
  unfold dvfsHalfParked
  repeat' first
    | with_reducible assumption
    | (extract_lets -underBinder +onlyGivenNames x; have u : True := (by clear_value x; guard_hyp x :ₛ State; trivial); clear u; refine Frame.cut (m := m) (s0 := s0) (t := x) ?_ ?_; (on_goal 1 => subst x); (on_goal 2 => (intro hx; clear_value x)))
    | (extract_lets -underBinder +onlyGivenNames n; first | clear_value n | subst n)
    | with_reducible refine Frame.ite ?_ ?_
    | with_reducible refine wr_frame (by with_reducible assumption) ?_ _ _
    | with_reducible refine State.dvfsNext_frame s_State_dvfsNext ?_
    | split

def dvfsLockTimeout_foot : Nat := 0x10000000000000000000000000000000000000000000000000000000000000000000000000200000000000000000000000000000000068000000000000000000800100
theorem dvfsLockTimeout_frame (hm : Sub dvfsLockTimeout_foot m) (h : Frame m s0 s) :
    Frame m s0 (dvfsLockTimeout s) := by
  have s_State_dvfsDrop : Sub State.dvfsDrop_foot m := hm.of (by decide)
  have s_State_dvfsPark : Sub State.dvfsPark_foot m := hm.of (by decide)
  have s_State_emit : Sub State.emit_foot m := hm.of (by decide)
  have k_CHK_DVFS_STAT_deferred : Has m CHK_DVFS_STAT_deferred := hm.has 8 11 rfl (by decide)
  have k_CLK_DVFS_STAT_lockfail : Has m CLK_DVFS_STAT_lockfail := hm.has 1 24 rfl (by decide)
  have c_dvfs : m.testBit 23 = true := hm.bit 23 (by decide)
  unfold dvfsLockTimeout
  repeat' first
    | with_reducible assumption
    | (extract_lets -underBinder +onlyGivenNames x; have u : True := (by clear_value x; guard_hyp x :ₛ State; trivial); clear u; refine Frame.cut (m := m) (s0 := s0) (t := x) ?_ ?_; (on_goal 1 => subst x); (on_goal 2 => (intro hx; clear_value x)))
    | (extract_lets -underBinder +onlyGivenNames n; first | clear_value n | subst n)
    | with_reducible refine Frame.ite ?_ ?_
    | with_reducible refine wr_frame (by with_reducible assumption) ?_ _ _
    | with_reducible refine bump_frame (by with_reducible assumption) ?_ _
    | with_reducible refine State.dvfsDrop_frame s_State_dvfsDrop ?_
    | with_reducible refine State.dvfsPark_frame s_State_dvfsPark ?_
    | with_reducible refine State.emit_frame s_State_emit ?_ _ _ _
    | with_reducible exact Frame.set_dvfs c_dvfs (by with_reducible assumption)
    | split

def dvfsRetry_foot : Nat := 0x1000000000000000000000000000000000000000000000000000000000000000000000000030000000000000000000000000000000002c000000000000000000800100
theorem dvfsRetry_frame (hm : Sub dvfsRetry_foot m) (h : Frame m s0 s) :
    Frame m s0 (dvfsRetry s) := by
  have s_State_dvfsSettle : Sub State.dvfsSettle_foot m := hm.of (by decide)
  have s_State_dvfsNext : Sub State.dvfsNext_foot m := hm.of (by decide)
  have k_CHK_DVFS_STAT_deferred : Has m CHK_DVFS_STAT_deferred := hm.has 8 11 rfl (by decide)
  have c_dvfs : m.testBit 23 = true := hm.bit 23 (by decide)
  unfold dvfsRetry
  repeat' first
    | with_reducible assumption
    | (extract_lets -underBinder +onlyGivenNames x; have u : True := (by clear_value x; guard_hyp x :ₛ State; trivial); clear u; refine Frame.cut (m := m) (s0 := s0) (t := x) ?_ ?_; (on_goal 1 => subst x); (on_goal 2 => (intro hx; clear_value x)))
    | (extract_lets -underBinder +onlyGivenNames n; first | clear_value n | subst n)
    | with_reducible refine Frame.ite ?_ ?_
    | with_reducible refine wr_frame (by with_reducible assumption) ?_ _ _
    | with_reducible refine State.dvfsSettle_frame s_State_dvfsSettle ?_
    | with_reducible refine State.dvfsNext_frame s_State_dvfsNext ?_
    | with_reducible exact Frame.set_dvfs c_dvfs (by with_reducible assumption)
    | split

def execFmStart_foot : Nat := 0x6f000000000001000000000
theorem execFmStart_frame (hm : Sub execFmStart_foot m) (h : Frame m s0 s) :
    ∀ a0, ∃ t, execFmStart a0 s = .next t ∧ Frame m s0 t := by
  intro a0
  have s_fmStart : Sub fmStart_foot m := hm.of (by decide)
  unfold execFmStart
  refine hubOn_frame (fun s h => ?_) h
  repeat' first
    | with_reducible assumption
    | with_reducible refine Frame.ite ?_ ?_
    | with_reducible refine fmStart_frame s_fmStart ?_ _

def execFmDone_foot : Nat := 0x60000000000001000000000
theorem execFmDone_frame (hm : Sub execFmDone_foot m) (h : Frame m s0 s) :
    ∀ a0, ∃ t, execFmDone a0 s = .next t ∧ Frame m s0 t := by
  intro a0
  have s_fmDone : Sub fmDone_foot m := hm.of (by decide)
  unfold execFmDone
  refine hubOn_frame (fun s h => ?_) h
  repeat' first
    | with_reducible assumption
    | with_reducible refine Frame.ite ?_ ?_
    | with_reducible refine fmDone_frame s_fmDone ?_ _

def execTsResync_foot : Nat := 0x10000000000000000000000000000000000000000000000000000000000000000000000000000000000000000000000000000000000000080000000000000000000100
theorem execTsResync_frame (hm : Sub execTsResync_foot m) (h : Frame m s0 s) :
    ∀ a0, ∃ t, execTsResync a0 s = .next t ∧ Frame m s0 t := by
  intro a0
  have s_tsResync : Sub tsResync_foot m := hm.of (by decide)
  unfold execTsResync
  refine hubOn_frame (fun s h => ?_) h
  repeat' first
    | with_reducible assumption
    | with_reducible refine Frame.ite ?_ ?_
    | with_reducible refine tsResync_frame s_tsResync ?_ _

def execOutpostReset_foot : Nat := 0x70000000001000000000601700063f00018c00000000000000000000000000000000000000000000029800000000000000000000000000000000000000000000000000100096fd00
theorem execOutpostReset_frame (hm : Sub execOutpostReset_foot m) (h : Frame m s0 s) :
    ∀ a0 a1, ∃ t, execOutpostReset a0 a1 s = .next t ∧ Frame m s0 t := by
  intro a0 a1
  have s_outpostReset : Sub outpostReset_foot m := hm.of (by decide)
  unfold execOutpostReset
  refine hubOn_frame (fun s h => ?_) h
  repeat' first
    | with_reducible assumption
    | with_reducible refine Frame.ite ?_ ?_
    | with_reducible refine outpostReset_frame s_outpostReset ?_ _ _

def execOutpostRelease_foot : Nat := 0x10000000000000000000000000000000000000000000000000000000000000000000000018300000000000000000000000000000000028000000000000001000807500
theorem execOutpostRelease_frame (hm : Sub execOutpostRelease_foot m) (h : Frame m s0 s) :
    ∀ a0 a1, ∃ t, execOutpostRelease a0 a1 s = .next t ∧ Frame m s0 t := by
  intro a0 a1
  have s_outpostRelease : Sub outpostRelease_foot m := hm.of (by decide)
  unfold execOutpostRelease
  refine hubOn_frame (fun s h => ?_) h
  repeat' first
    | with_reducible assumption
    | with_reducible refine Frame.ite ?_ ?_
    | with_reducible refine outpostRelease_frame s_outpostRelease ?_ _ _

def execDvfsRequest_foot : Nat := 0x1000000000000000000000000000000000000000000000000000000000000000000000000030000000000000000000000000000000002c000000000000000000800100
theorem execDvfsRequest_frame (hm : Sub execDvfsRequest_foot m) (h : Frame m s0 s) :
    ∀ a0, ∃ t, execDvfsRequest a0 s = .next t ∧ Frame m s0 t := by
  intro a0
  have s_dvfsRequest : Sub dvfsRequest_foot m := hm.of (by decide)
  unfold execDvfsRequest
  refine hubOn_frame (fun s h => ?_) h
  repeat' first
    | with_reducible assumption
    | with_reducible refine Frame.ite ?_ ?_
    | with_reducible refine dvfsRequest_frame s_dvfsRequest ?_ _

def execDvfsVoltageReady_foot : Nat := 0x8000000000000000000000000
theorem execDvfsVoltageReady_frame (hm : Sub execDvfsVoltageReady_foot m) (h : Frame m s0 s) :
    ∃ t, execDvfsVoltageReady s = .next t ∧ Frame m s0 t := by
  have s_dvfsVoltageReady : Sub dvfsVoltageReady_foot m := hm.of (by decide)
  unfold execDvfsVoltageReady
  refine hubOn_frame (fun s h => ?_) h
  repeat' first
    | with_reducible assumption
    | with_reducible refine Frame.ite ?_ ?_
    | with_reducible refine dvfsVoltageReady_frame s_dvfsVoltageReady ?_

def execDvfsSwitch_foot : Nat := 0x1000000000000000000000000000000000000000000000000000000000000000000000000030000000000000000000000000000000003e000000000000000000806100
theorem execDvfsSwitch_frame (hm : Sub execDvfsSwitch_foot m) (h : Frame m s0 s) :
    ∃ t, execDvfsSwitch s = .next t ∧ Frame m s0 t := by
  have s_dvfsSwitch : Sub dvfsSwitch_foot m := hm.of (by decide)
  unfold execDvfsSwitch
  refine hubOn_frame (fun s h => ?_) h
  repeat' first
    | with_reducible assumption
    | with_reducible refine Frame.ite ?_ ?_
    | with_reducible refine dvfsSwitch_frame s_dvfsSwitch ?_

def execDvfsHalfParked_foot : Nat := 0x1000000000000000000000000000000000000000000000000000000000000000000000000030000000000000000000000000000000002c000000000000000000800100
theorem execDvfsHalfParked_frame (hm : Sub execDvfsHalfParked_foot m) (h : Frame m s0 s) :
    ∃ t, execDvfsHalfParked s = .next t ∧ Frame m s0 t := by
  have s_dvfsHalfParked : Sub dvfsHalfParked_foot m := hm.of (by decide)
  unfold execDvfsHalfParked
  refine hubOn_frame (fun s h => ?_) h
  repeat' first
    | with_reducible assumption
    | with_reducible refine Frame.ite ?_ ?_
    | with_reducible refine dvfsHalfParked_frame s_dvfsHalfParked ?_

def execDvfsLockTimeout_foot : Nat := 0x10000000000000000000000000000000000000000000000000000000000000000000000000200000000000000000000000000000000068000000000000000000800100
theorem execDvfsLockTimeout_frame (hm : Sub execDvfsLockTimeout_foot m) (h : Frame m s0 s) :
    ∃ t, execDvfsLockTimeout s = .next t ∧ Frame m s0 t := by
  have s_dvfsLockTimeout : Sub dvfsLockTimeout_foot m := hm.of (by decide)
  unfold execDvfsLockTimeout
  refine hubOn_frame (fun s h => ?_) h
  repeat' first
    | with_reducible assumption
    | with_reducible refine Frame.ite ?_ ?_
    | with_reducible refine dvfsLockTimeout_frame s_dvfsLockTimeout ?_

def execDvfsRetry_foot : Nat := 0x1000000000000000000000000000000000000000000000000000000000000000000000000030000000000000000000000000000000002c000000000000000000800100
theorem execDvfsRetry_frame (hm : Sub execDvfsRetry_foot m) (h : Frame m s0 s) :
    ∃ t, execDvfsRetry s = .next t ∧ Frame m s0 t := by
  have s_dvfsRetry : Sub dvfsRetry_foot m := hm.of (by decide)
  unfold execDvfsRetry
  refine hubOn_frame (fun s h => ?_) h
  repeat' first
    | with_reducible assumption
    | with_reducible refine Frame.ite ?_ ?_
    | with_reducible refine dvfsRetry_frame s_dvfsRetry ?_

end Sys2Proof.Machine
end

