-- ==== Sys2Proof/Laws/FrameFan.lean ====
section
/-!
SUPPORT. Laws/FrameFan.lean: the footprint of every function of Machine/Fan.lean, and that it writes nothing outside it.
-/
namespace Sys2Proof.Machine

set_option linter.all false

variable {m : Nat} {s0 s : State}

def State.setFan_foot : Nat := 0x2000000000
theorem State.setFan_frame (hm : Sub State.setFan_foot m) (h : Frame m s0 s) :
    ∀ a1 a2, Frame m s0 (State.setFan s a1 a2) := by
  intro a1 a2
  have c_fans : m.testBit 37 = true := hm.bit 37 (by decide)
  unfold State.setFan
  repeat' first
    | with_reducible assumption
    | (extract_lets -underBinder +onlyGivenNames x; have u : True := (by clear_value x; guard_hyp x :ₛ State; trivial); clear u; refine Frame.cut (m := m) (s0 := s0) (t := x) ?_ ?_; (on_goal 1 => subst x); (on_goal 2 => (intro hx; clear_value x)))
    | (extract_lets -underBinder +onlyGivenNames n; first | clear_value n | subst n)
    | with_reducible refine Frame.ite ?_ ?_
    | with_reducible exact Frame.set_fans c_fans (by with_reducible assumption)

def State.fanGo_foot : Nat := 0x2000000000
theorem State.fanGo_frame (hm : Sub State.fanGo_foot m) (h : Frame m s0 s) :
    ∀ a1 a2, Frame m s0 (State.fanGo s a1 a2) := by
  intro a1 a2
  have s_State_setFan : Sub State.setFan_foot m := hm.of (by decide)
  unfold State.fanGo
  repeat' first
    | with_reducible assumption
    | (extract_lets -underBinder +onlyGivenNames x; have u : True := (by clear_value x; guard_hyp x :ₛ State; trivial); clear u; refine Frame.cut (m := m) (s0 := s0) (t := x) ?_ ?_; (on_goal 1 => subst x); (on_goal 2 => (intro hx; clear_value x)))
    | (extract_lets -underBinder +onlyGivenNames n; first | clear_value n | subst n)
    | with_reducible refine Frame.ite ?_ ?_
    | with_reducible refine State.setFan_frame s_State_setFan ?_ _ _

def State.fanDefIn_foot : Nat := 0x4000000000000000000000000000000000000000000000000000000000000000000000000000000000000000000000000000000000000000000000000000000000000000000000002000000000
theorem State.fanDefIn_frame (hm : Sub State.fanDefIn_foot m) (h : Frame m s0 s) :
    ∀ a1 a2, Frame m s0 (State.fanDefIn s a1 a2) := by
  intro a1 a2
  have s_State_setFan : Sub State.setFan_foot m := hm.of (by decide)
  have k_FAN_DEF_deficit : Has m FAN_DEF_deficit := hm.has 20 22 rfl (by decide)
  unfold State.fanDefIn
  repeat' first
    | with_reducible assumption
    | (extract_lets -underBinder +onlyGivenNames x; have u : True := (by clear_value x; guard_hyp x :ₛ State; trivial); clear u; refine Frame.cut (m := m) (s0 := s0) (t := x) ?_ ?_; (on_goal 1 => subst x); (on_goal 2 => (intro hx; clear_value x)))
    | (extract_lets -underBinder +onlyGivenNames n; first | clear_value n | subst n)
    | with_reducible refine Frame.ite ?_ ?_
    | with_reducible refine wr_frame (by with_reducible assumption) ?_ _ _
    | with_reducible refine State.setFan_frame s_State_setFan ?_ _ _

def State.fanDef_foot : Nat := 0x4000000000000000000000000000000000000000000000000000000000000000000000000000000000000000000000000000000000000000000000000000000000000000000000002000000000
theorem State.fanDef_frame (hm : Sub State.fanDef_foot m) (h : Frame m s0 s) :
    ∀ a1, Frame m s0 (State.fanDef s a1) := by
  intro a1
  have s_State_fanDefIn : Sub State.fanDefIn_foot m := hm.of (by decide)
  unfold State.fanDef
  repeat' first
    | with_reducible assumption
    | with_reducible refine Frame.ite ?_ ?_
    | with_reducible refine State.fanDefIn_frame s_State_fanDefIn ?_ _ _
    | split

def fanPwmPeriod_foot : Nat := 0x5c00000000000000000000000000000000000000000000000000000000000000000000000000000000000000000000000000000000000000000000000000000000000000000000002000000080
theorem fanPwmPeriod_frame (hm : Sub fanPwmPeriod_foot m) (h : Frame m s0 s) :
    ∀ a0, Frame m s0 (fanPwmPeriod a0 s) := by
  intro a0
  have s_State_setFan : Sub State.setFan_foot m := hm.of (by decide)
  have s_State_fanDef : Sub State.fanDef_foot m := hm.of (by decide)
  have s_State_send : Sub State.send_foot m := hm.of (by decide)
  have k_FAN_STAT_duty : Has m FAN_STAT_duty := hm.has 20 20 rfl (by decide)
  have k_FAN_STAT_state : Has m FAN_STAT_state := hm.has 20 18 rfl (by decide)
  have k_FAN_STAT_tries : Has m FAN_STAT_tries := hm.has 20 19 rfl (by decide)
  unfold fanPwmPeriod
  repeat' first
    | with_reducible assumption
    | (extract_lets -underBinder +onlyGivenNames x; have u : True := (by clear_value x; guard_hyp x :ₛ State; trivial); clear u; refine Frame.cut (m := m) (s0 := s0) (t := x) ?_ ?_; (on_goal 1 => subst x); (on_goal 2 => (intro hx; clear_value x)))
    | (extract_lets -underBinder +onlyGivenNames n; first | clear_value n | subst n)
    | with_reducible refine Frame.ite ?_ ?_
    | with_reducible refine wr_frame (by with_reducible assumption) ?_ _ _
    | with_reducible refine State.setFan_frame s_State_setFan ?_ _ _
    | with_reducible refine State.fanDef_frame s_State_fanDef ?_ _
    | with_reducible refine State.send_frame s_State_send ?_ _
    | split

def State.fanOut_foot : Nat := 0x2000000000
theorem State.fanOut_frame (hm : Sub State.fanOut_foot m) (h : Frame m s0 s) :
    ∀ a1 a2, Frame m s0 (State.fanOut s a1 a2) := by
  intro a1 a2
  have s_State_setFan : Sub State.setFan_foot m := hm.of (by decide)
  have s_State_fanGo : Sub State.fanGo_foot m := hm.of (by decide)
  unfold State.fanOut
  repeat' first
    | with_reducible assumption
    | (extract_lets -underBinder +onlyGivenNames x; have u : True := (by clear_value x; guard_hyp x :ₛ State; trivial); clear u; refine Frame.cut (m := m) (s0 := s0) (t := x) ?_ ?_; (on_goal 1 => subst x); (on_goal 2 => (intro hx; clear_value x)))
    | (extract_lets -underBinder +onlyGivenNames n; first | clear_value n | subst n)
    | with_reducible refine Frame.ite ?_ ?_
    | with_reducible refine State.setFan_frame s_State_setFan ?_ _ _
    | with_reducible refine State.fanGo_frame s_State_fanGo ?_ _ _
    | split

def State.fanRestore_foot : Nat := 0x10000000000000000000000000000000000000000000000000000000000000000000000000000000000000000000000000000000000000000000000000002000000100
theorem State.fanRestore_frame (hm : Sub State.fanRestore_foot m) (h : Frame m s0 s) :
    ∀ a1, Frame m s0 (State.fanRestore s a1) := by
  intro a1
  have s_State_fanGo : Sub State.fanGo_foot m := hm.of (by decide)
  have s_State_emit : Sub State.emit_foot m := hm.of (by decide)
  unfold State.fanRestore
  repeat' first
    | with_reducible assumption
    | with_reducible refine Frame.ite ?_ ?_
    | with_reducible refine State.fanGo_frame s_State_fanGo ?_ _ _
    | with_reducible refine State.emit_frame s_State_emit ?_ _ _ _

def State.fanLost_foot : Nat := 0x10000000000000000000000000000000000000000000000000000000000000000000000000000000000000000000000000000000000000000000000000002000000100
theorem State.fanLost_frame (hm : Sub State.fanLost_foot m) (h : Frame m s0 s) :
    ∀ a1 a2, Frame m s0 (State.fanLost s a1 a2) := by
  intro a1 a2
  have s_State_setFan : Sub State.setFan_foot m := hm.of (by decide)
  have s_State_fanOut : Sub State.fanOut_foot m := hm.of (by decide)
  have s_State_emit : Sub State.emit_foot m := hm.of (by decide)
  unfold State.fanLost
  repeat' first
    | with_reducible assumption
    | (extract_lets -underBinder +onlyGivenNames x; have u : True := (by clear_value x; guard_hyp x :ₛ State; trivial); clear u; refine Frame.cut (m := m) (s0 := s0) (t := x) ?_ ?_; (on_goal 1 => subst x); (on_goal 2 => (intro hx; clear_value x)))
    | (extract_lets -underBinder +onlyGivenNames n; first | clear_value n | subst n)
    | with_reducible refine Frame.ite ?_ ?_
    | with_reducible refine State.setFan_frame s_State_setFan ?_ _ _
    | with_reducible refine State.fanOut_frame s_State_fanOut ?_ _ _
    | with_reducible refine State.emit_frame s_State_emit ?_ _ _ _

def State.fanJudge_foot : Nat := 0x10000000000000000000000000000000000000000000000000000000000000000000000000000000000000000000000000000000000000000000000000002000000100
theorem State.fanJudge_frame (hm : Sub State.fanJudge_foot m) (h : Frame m s0 s) :
    ∀ a1 a2, Frame m s0 (State.fanJudge s a1 a2) := by
  intro a1 a2
  have s_State_setFan : Sub State.setFan_foot m := hm.of (by decide)
  have s_State_fanLost : Sub State.fanLost_foot m := hm.of (by decide)
  have s_State_fanOut : Sub State.fanOut_foot m := hm.of (by decide)
  have s_State_emitLim : Sub State.emitLim_foot m := hm.of (by decide)
  have s_State_fanRestore : Sub State.fanRestore_foot m := hm.of (by decide)
  unfold State.fanJudge
  repeat' first
    | with_reducible assumption
    | (extract_lets -underBinder +onlyGivenNames x; have u : True := (by clear_value x; guard_hyp x :ₛ State; trivial); clear u; refine Frame.cut (m := m) (s0 := s0) (t := x) ?_ ?_; (on_goal 1 => subst x); (on_goal 2 => (intro hx; clear_value x)))
    | (extract_lets -underBinder +onlyGivenNames n; first | clear_value n | subst n)
    | with_reducible refine Frame.ite ?_ ?_
    | with_reducible refine State.setFan_frame s_State_setFan ?_ _ _
    | with_reducible refine State.fanLost_frame s_State_fanLost ?_ _ _
    | with_reducible refine State.fanOut_frame s_State_fanOut ?_ _ _
    | with_reducible refine State.emitLim_frame s_State_emitLim ?_ _ _ _ _ _
    | with_reducible refine State.fanRestore_frame s_State_fanRestore ?_ _
    | split

def State.fanMeasure_foot : Nat := 0x6000000000000000000010000000000000000000000000000000000000000000000000000000000000000000000000000000000000000000000000000000000000000000000000002000000100
theorem State.fanMeasure_frame (hm : Sub State.fanMeasure_foot m) (h : Frame m s0 s) :
    ∀ a1 a2, Frame m s0 (State.fanMeasure s a1 a2) := by
  intro a1 a2
  have s_State_fanDef : Sub State.fanDef_foot m := hm.of (by decide)
  have s_State_fanJudge : Sub State.fanJudge_foot m := hm.of (by decide)
  have k_FAN_STAT_rpm : Has m FAN_STAT_rpm := hm.has 20 21 rfl (by decide)
  unfold State.fanMeasure
  repeat' first
    | with_reducible assumption
    | (extract_lets -underBinder +onlyGivenNames x; have u : True := (by clear_value x; guard_hyp x :ₛ State; trivial); clear u; refine Frame.cut (m := m) (s0 := s0) (t := x) ?_ ?_; (on_goal 1 => subst x); (on_goal 2 => (intro hx; clear_value x)))
    | (extract_lets -underBinder +onlyGivenNames n; first | clear_value n | subst n)
    | with_reducible refine Frame.ite ?_ ?_
    | with_reducible refine wr_frame (by with_reducible assumption) ?_ _ _
    | with_reducible refine State.fanDef_frame s_State_fanDef ?_ _
    | with_reducible refine State.fanJudge_frame s_State_fanJudge ?_ _ _
    | split

def tachEdge_foot : Nat := 0x6000000000000000000010000000000000000000000000000000000000000000000000000000000000000000000000000000000000000000000000000000000000000000000000002000000100
theorem tachEdge_frame (hm : Sub tachEdge_foot m) (h : Frame m s0 s) :
    ∀ a0, Frame m s0 (tachEdge a0 s) := by
  intro a0
  have s_State_setFan : Sub State.setFan_foot m := hm.of (by decide)
  have s_State_fanMeasure : Sub State.fanMeasure_foot m := hm.of (by decide)
  unfold tachEdge
  repeat' first
    | with_reducible assumption
    | (extract_lets -underBinder +onlyGivenNames x; have u : True := (by clear_value x; guard_hyp x :ₛ State; trivial); clear u; refine Frame.cut (m := m) (s0 := s0) (t := x) ?_ ?_; (on_goal 1 => subst x); (on_goal 2 => (intro hx; clear_value x)))
    | (extract_lets -underBinder +onlyGivenNames n; first | clear_value n | subst n)
    | with_reducible refine Frame.ite ?_ ?_
    | with_reducible refine State.setFan_frame s_State_setFan ?_ _ _
    | with_reducible refine State.fanMeasure_frame s_State_fanMeasure ?_ _ _
    | split

def tachTimeout_foot : Nat := 0x6000000000000000000010000000000000000000000000000000000000000000000000000000000000000000000000000000000000000000000000000000000000000000000000002000000100
theorem tachTimeout_frame (hm : Sub tachTimeout_foot m) (h : Frame m s0 s) :
    ∀ a0, Frame m s0 (tachTimeout a0 s) := by
  intro a0
  have s_State_fanDef : Sub State.fanDef_foot m := hm.of (by decide)
  have s_State_fanJudge : Sub State.fanJudge_foot m := hm.of (by decide)
  have k_FAN_STAT_rpm : Has m FAN_STAT_rpm := hm.has 20 21 rfl (by decide)
  unfold tachTimeout
  repeat' first
    | with_reducible assumption
    | (extract_lets -underBinder +onlyGivenNames x; have u : True := (by clear_value x; guard_hyp x :ₛ State; trivial); clear u; refine Frame.cut (m := m) (s0 := s0) (t := x) ?_ ?_; (on_goal 1 => subst x); (on_goal 2 => (intro hx; clear_value x)))
    | (extract_lets -underBinder +onlyGivenNames n; first | clear_value n | subst n)
    | with_reducible refine Frame.ite ?_ ?_
    | with_reducible refine wr_frame (by with_reducible assumption) ?_ _ _
    | with_reducible refine State.fanDef_frame s_State_fanDef ?_ _
    | with_reducible refine State.fanJudge_frame s_State_fanJudge ?_ _ _
    | split

def fanSpinupEnd_foot : Nat := 0x800000000000000000010000000000000000000000000000000000000000000000000000000000000000000000000000000000000000000000000000000000000000000000000002000000100
theorem fanSpinupEnd_frame (hm : Sub fanSpinupEnd_foot m) (h : Frame m s0 s) :
    ∀ a0, Frame m s0 (fanSpinupEnd a0 s) := by
  intro a0
  have s_State_setFan : Sub State.setFan_foot m := hm.of (by decide)
  have s_State_fanGo : Sub State.fanGo_foot m := hm.of (by decide)
  have s_State_emit : Sub State.emit_foot m := hm.of (by decide)
  have k_FAN_STAT_tries : Has m FAN_STAT_tries := hm.has 20 19 rfl (by decide)
  unfold fanSpinupEnd
  repeat' first
    | with_reducible assumption
    | (extract_lets -underBinder +onlyGivenNames x; have u : True := (by clear_value x; guard_hyp x :ₛ State; trivial); clear u; refine Frame.cut (m := m) (s0 := s0) (t := x) ?_ ?_; (on_goal 1 => subst x); (on_goal 2 => (intro hx; clear_value x)))
    | (extract_lets -underBinder +onlyGivenNames n; first | clear_value n | subst n)
    | with_reducible refine Frame.ite ?_ ?_
    | with_reducible refine wr_frame (by with_reducible assumption) ?_ _ _
    | with_reducible refine State.setFan_frame s_State_setFan ?_ _ _
    | with_reducible refine State.fanGo_frame s_State_fanGo ?_ _ _
    | with_reducible refine State.emit_frame s_State_emit ?_ _ _ _
    | split

def fanRestEnd_foot : Nat := 0x2000000000
theorem fanRestEnd_frame (hm : Sub fanRestEnd_foot m) (h : Frame m s0 s) :
    ∀ a0, Frame m s0 (fanRestEnd a0 s) := by
  intro a0
  have s_State_fanGo : Sub State.fanGo_foot m := hm.of (by decide)
  unfold fanRestEnd
  repeat' first
    | with_reducible assumption
    | (extract_lets -underBinder +onlyGivenNames x; have u : True := (by clear_value x; guard_hyp x :ₛ State; trivial); clear u; refine Frame.cut (m := m) (s0 := s0) (t := x) ?_ ?_; (on_goal 1 => subst x); (on_goal 2 => (intro hx; clear_value x)))
    | (extract_lets -underBinder +onlyGivenNames n; first | clear_value n | subst n)
    | with_reducible refine Frame.ite ?_ ?_
    | with_reducible refine State.fanGo_frame s_State_fanGo ?_ _ _
    | split

def State.fanTaken_foot : Nat := 0x4000000000000000000000000000000000000000000000000000000000000000000000000000000000000000000000000000000000000000000000000000000000000000000000002000000000
theorem State.fanTaken_frame (hm : Sub State.fanTaken_foot m) (h : Frame m s0 s) :
    ∀ a1 a2 a3, Frame m s0 (State.fanTaken s a1 a2 a3) := by
  intro a1 a2 a3
  have s_State_fanDef : Sub State.fanDef_foot m := hm.of (by decide)
  have s_State_fanGo : Sub State.fanGo_foot m := hm.of (by decide)
  have s_State_fanDefIn : Sub State.fanDefIn_foot m := hm.of (by decide)
  unfold State.fanTaken
  repeat' first
    | with_reducible assumption
    | (extract_lets -underBinder +onlyGivenNames x; have u : True := (by clear_value x; guard_hyp x :ₛ State; trivial); clear u; refine Frame.cut (m := m) (s0 := s0) (t := x) ?_ ?_; (on_goal 1 => subst x); (on_goal 2 => (intro hx; clear_value x)))
    | (extract_lets -underBinder +onlyGivenNames n; first | clear_value n | subst n)
    | with_reducible refine Frame.ite ?_ ?_
    | with_reducible refine State.fanDef_frame s_State_fanDef ?_ _
    | with_reducible refine State.fanGo_frame s_State_fanGo ?_ _ _
    | with_reducible refine State.fanDefIn_frame s_State_fanDefIn ?_ _ _
    | split

def execFanPwmPeriod_foot : Nat := 0x5c00000000000000000000000000000000000000000000000000000000000000000000000000000000000000000000000000000000000000000000000000000000000000000000002000000080
theorem execFanPwmPeriod_frame (hm : Sub execFanPwmPeriod_foot m) (h : Frame m s0 s) :
    ∀ a0, ∃ t, execFanPwmPeriod a0 s = .next t ∧ Frame m s0 t := by
  intro a0
  have s_fanPwmPeriod : Sub fanPwmPeriod_foot m := hm.of (by decide)
  unfold execFanPwmPeriod
  refine hubOn_frame (fun s h => ?_) h
  repeat' first
    | with_reducible assumption
    | with_reducible refine Frame.ite ?_ ?_
    | with_reducible refine fanPwmPeriod_frame s_fanPwmPeriod ?_ _

def execTachEdge_foot : Nat := 0x6000000000000000000010000000000000000000000000000000000000000000000000000000000000000000000000000000000000000000000000000000000000000000000000002000000100
theorem execTachEdge_frame (hm : Sub execTachEdge_foot m) (h : Frame m s0 s) :
    ∀ a0, ∃ t, execTachEdge a0 s = .next t ∧ Frame m s0 t := by
  intro a0
  have s_tachEdge : Sub tachEdge_foot m := hm.of (by decide)
  unfold execTachEdge
  refine hubOn_frame (fun s h => ?_) h
  repeat' first
    | with_reducible assumption
    | with_reducible refine Frame.ite ?_ ?_
    | with_reducible refine tachEdge_frame s_tachEdge ?_ _

def execTachTimeout_foot : Nat := 0x6000000000000000000010000000000000000000000000000000000000000000000000000000000000000000000000000000000000000000000000000000000000000000000000002000000100
theorem execTachTimeout_frame (hm : Sub execTachTimeout_foot m) (h : Frame m s0 s) :
    ∀ a0, ∃ t, execTachTimeout a0 s = .next t ∧ Frame m s0 t := by
  intro a0
  have s_tachTimeout : Sub tachTimeout_foot m := hm.of (by decide)
  unfold execTachTimeout
  refine hubOn_frame (fun s h => ?_) h
  repeat' first
    | with_reducible assumption
    | with_reducible refine Frame.ite ?_ ?_
    | with_reducible refine tachTimeout_frame s_tachTimeout ?_ _

def execFanSpinupEnd_foot : Nat := 0x800000000000000000010000000000000000000000000000000000000000000000000000000000000000000000000000000000000000000000000000000000000000000000000002000000100
theorem execFanSpinupEnd_frame (hm : Sub execFanSpinupEnd_foot m) (h : Frame m s0 s) :
    ∀ a0, ∃ t, execFanSpinupEnd a0 s = .next t ∧ Frame m s0 t := by
  intro a0
  have s_fanSpinupEnd : Sub fanSpinupEnd_foot m := hm.of (by decide)
  unfold execFanSpinupEnd
  refine hubOn_frame (fun s h => ?_) h
  repeat' first
    | with_reducible assumption
    | with_reducible refine Frame.ite ?_ ?_
    | with_reducible refine fanSpinupEnd_frame s_fanSpinupEnd ?_ _

def execFanRestEnd_foot : Nat := 0x2000000000
theorem execFanRestEnd_frame (hm : Sub execFanRestEnd_foot m) (h : Frame m s0 s) :
    ∀ a0, ∃ t, execFanRestEnd a0 s = .next t ∧ Frame m s0 t := by
  intro a0
  have s_fanRestEnd : Sub fanRestEnd_foot m := hm.of (by decide)
  unfold execFanRestEnd
  refine hubOn_frame (fun s h => ?_) h
  repeat' first
    | with_reducible assumption
    | with_reducible refine Frame.ite ?_ ?_
    | with_reducible refine fanRestEnd_frame s_fanRestEnd ?_ _

end Sys2Proof.Machine
end

