-- ==== Sys2Proof/Laws/FramePair.lean ====
section
/-!
SUPPORT. Laws/FramePair.lean: the footprint of every function of Machine/Pair.lean, and that it writes nothing outside it.
-/
namespace Sys2Proof.Machine

set_option linter.all false

variable {m : Nat} {s0 s : State}

def State.bridgeIdle_foot : Nat := 0x80000080
theorem State.bridgeIdle_frame (hm : Sub State.bridgeIdle_foot m) (h : Frame m s0 s) :
    Frame m s0 (State.bridgeIdle s) := by
  have s_State_bridgeSend : Sub State.bridgeSend_foot m := hm.of (by decide)
  unfold State.bridgeIdle
  repeat' first
    | with_reducible assumption
    | with_reducible refine Frame.ite ?_ ?_
    | with_reducible refine State.bridgeSend_frame s_State_bridgeSend ?_ _ _
    | split

def State.applyIdx_foot : Nat := 0xa0000000
theorem State.applyIdx_frame (hm : Sub State.applyIdx_foot m) (h : Frame m s0 s) :
    ∀ a1 a2, Frame m s0 (State.applyIdx s a1 a2) := by
  intro a1 a2
  have s_State_setPar : Sub State.setPar_foot m := hm.of (by decide)
  have s_State_setRing : Sub State.setRing_foot m := hm.of (by decide)
  unfold State.applyIdx
  repeat' first
    | with_reducible assumption
    | (extract_lets -underBinder +onlyGivenNames x; have u : True := (by clear_value x; guard_hyp x :ₛ State; trivial); clear u; refine Frame.cut (m := m) (s0 := s0) (t := x) ?_ ?_; (on_goal 1 => subst x); (on_goal 2 => (intro hx; clear_value x)))
    | (extract_lets -underBinder +onlyGivenNames n; first | clear_value n | subst n)
    | with_reducible refine Frame.ite ?_ ?_
    | with_reducible refine State.setPar_frame s_State_setPar ?_ _
    | with_reducible refine State.setRing_frame s_State_setRing ?_ _ _
    | with_reducible refine Frame.foldl ?_ (fun s x hs => ?_)
    | split

def State.applyEntry_foot : Nat := 0x300f800000000000000000000000000000000020000000
theorem State.applyEntry_frame (hm : Sub State.applyEntry_foot m) (h : Frame m s0 s) :
    ∀ a1 a2, Frame m s0 (State.applyEntry s a1 a2) := by
  intro a1 a2
  have s_State_setRState : Sub State.setRState_foot m := hm.of (by decide)
  have s_State_setRing : Sub State.setRing_foot m := hm.of (by decide)
  have k_HIF_SCPL_base : Has m HIF_SCPL_base := hm.has 5 9 rfl (by decide)
  have k_HIF_SCTL_en : Has m HIF_SCTL_en := hm.has 5 6 rfl (by decide)
  have k_HIF_SCTL_size : Has m HIF_SCTL_size := hm.has 5 7 rfl (by decide)
  have k_HIF_SDESC_base : Has m HIF_SDESC_base := hm.has 5 8 rfl (by decide)
  have k_HIF_SNOTIFY_addr : Has m HIF_SNOTIFY_addr := hm.has 5 10 rfl (by decide)
  have c_hif : m.testBit 29 = true := hm.bit 29 (by decide)
  unfold State.applyEntry
  repeat' first
    | with_reducible assumption
    | (extract_lets -underBinder +onlyGivenNames x; have u : True := (by clear_value x; guard_hyp x :ₛ State; trivial); clear u; refine Frame.cut (m := m) (s0 := s0) (t := x) ?_ ?_; (on_goal 1 => subst x); (on_goal 2 => (intro hx; clear_value x)))
    | (extract_lets -underBinder +onlyGivenNames n; first | clear_value n | subst n)
    | with_reducible refine Frame.ite ?_ ?_
    | with_reducible refine wr_frame (by with_reducible assumption) ?_ _ _
    | with_reducible refine State.setRState_frame s_State_setRState ?_ _ _
    | with_reducible refine State.setRing_frame s_State_setRing ?_ _ _
    | with_reducible exact Frame.set_hif c_hif (by with_reducible assumption)
    | split

def State.applyJob_foot : Nat := 0x88000080
theorem State.applyJob_frame (hm : Sub State.applyJob_foot m) (h : Frame m s0 s) :
    ∀ a1 a2, Frame m s0 (State.applyJob s a1 a2) := by
  intro a1 a2
  have s_State_setJob : Sub State.setJob_foot m := hm.of (by decide)
  unfold State.applyJob
  repeat' first
    | with_reducible assumption
    | (extract_lets -underBinder +onlyGivenNames x; have u : True := (by clear_value x; guard_hyp x :ₛ State; trivial); clear u; refine Frame.cut (m := m) (s0 := s0) (t := x) ?_ ?_; (on_goal 1 => subst x); (on_goal 2 => (intro hx; clear_value x)))
    | (extract_lets -underBinder +onlyGivenNames n; first | clear_value n | subst n)
    | with_reducible refine Frame.ite ?_ ?_
    | with_reducible refine State.setJob_frame s_State_setJob ?_ _ _

def State.applyMgt_foot : Nat := 0x38000ffffffd0000000000000000000000000000000000000000000000000000000000000000000000000000000000000000000000000000000000000000000000000000000000000000000000004008000000
theorem State.applyMgt_frame (hm : Sub State.applyMgt_foot m) (h : Frame m s0 s) :
    ∀ a1, Frame m s0 (State.applyMgt s a1) := by
  intro a1
  have s_State_showOfs : Sub State.showOfs_foot m := hm.of (by decide)
  have s_State_setMgt : Sub State.setMgt_foot m := hm.of (by decide)
  have k_MGT_BUD_bud : Has m MGT_BUD_bud := hm.has 21 25 rfl (by decide)
  have k_MGT_CTL_en : Has m MGT_CTL_en := hm.has 21 1 rfl (by decide)
  have k_MGT_EPOCH : Has m MGT_EPOCH := hm.has 21 26 rfl (by decide)
  have k_MGT_STAT_bound : Has m MGT_STAT_bound := hm.has 21 5 rfl (by decide)
  have k_MGT_STAT_missed : Has m MGT_STAT_missed := hm.has 21 7 rfl (by decide)
  have k_MGT_STAT_ready : Has m MGT_STAT_ready := hm.has 21 6 rfl (by decide)
  have k_MGT_STAT_role : Has m MGT_STAT_role := hm.has 21 4 rfl (by decide)
  have k_MGT_STAT_state : Has m MGT_STAT_state := hm.has 21 3 rfl (by decide)
  have k_MGT_STAT_term : Has m MGT_STAT_term := hm.has 21 8 rfl (by decide)
  have c_acc : m.testBit 27 = true := hm.bit 27 (by decide)
  have kq : ∀ f ∈ mgtFlds, Has m f := by
    intro f hf
    simp only [mgtFlds, List.mem_cons, List.not_mem_nil, or_false] at hf
    rcases hf with e | e | e | e | e | e | e | e | e | e | e | e | e | e | e | e | e | e | e | e <;> subst e
    · exact hm.has 21 1 rfl (by decide)
    · exact hm.has 21 9 rfl (by decide)
    · exact hm.has 21 10 rfl (by decide)
    · exact hm.has 21 11 rfl (by decide)
    · exact hm.has 21 12 rfl (by decide)
    · exact hm.has 21 13 rfl (by decide)
    · exact hm.has 21 14 rfl (by decide)
    · exact hm.has 21 15 rfl (by decide)
    · exact hm.has 21 16 rfl (by decide)
    · exact hm.has 21 17 rfl (by decide)
    · exact hm.has 21 18 rfl (by decide)
    · exact hm.has 21 19 rfl (by decide)
    · exact hm.has 21 20 rfl (by decide)
    · exact hm.has 21 21 rfl (by decide)
    · exact hm.has 21 22 rfl (by decide)
    · exact hm.has 21 23 rfl (by decide)
    · exact hm.has 21 24 rfl (by decide)
    · exact hm.has 21 44 rfl (by decide)
    · exact hm.has 21 45 rfl (by decide)
    · exact hm.has 21 46 rfl (by decide)
  have kd : ∀ k, Has m (mgtFlds.getD k MGT_CTL_en) := fun k => by
    rw [List.getD_eq_getElem?_getD]
    cases e : mgtFlds[k]? with
    | none => exact k_MGT_CTL_en
    | some f => exact kq f (List.mem_of_getElem? e)
  unfold State.applyMgt
  repeat' first
    | with_reducible assumption
    | (extract_lets -underBinder +onlyGivenNames x; have u : True := (by clear_value x; guard_hyp x :ₛ State; trivial); clear u; refine Frame.cut (m := m) (s0 := s0) (t := x) ?_ ?_; (on_goal 1 => subst x); (on_goal 2 => (intro hx; clear_value x)))
    | (extract_lets -underBinder +onlyGivenNames n; first | clear_value n | subst n)
    | with_reducible refine wr_frame (kd _) ?_ _ _
    | with_reducible refine Frame.ite ?_ ?_
    | with_reducible refine wr_frame (by repeat' first | with_reducible assumption | with_reducible refine Has.ite ?_ ?_ | split) ?_ _ _
    | with_reducible refine State.showOfs_frame s_State_showOfs ?_
    | with_reducible refine State.setMgt_frame s_State_setMgt ?_ _
    | with_reducible exact Frame.set_acc c_acc (by with_reducible assumption)
    | with_reducible refine Frame.foldl ?_ (fun s x hs => ?_)
    | with_reducible refine Frame.foldTo ?_ (fun s x hs => ?_)
    | split

def State.applyAllow_foot : Nat := 0x40000000000000000000000000000000000000000000000000000000000000000000000000000000000000000000000000000000000000000000000000000000000000000000000000000000000000000000000
theorem State.applyAllow_frame (hm : Sub State.applyAllow_foot m) (h : Frame m s0 s) :
    ∀ a1, Frame m s0 (State.applyAllow s a1) := by
  intro a1
  have k_MGT_MEMB : Has m MGT_MEMB := hm.has 21 51 rfl (by decide)
  unfold State.applyAllow
  repeat' first
    | with_reducible assumption
    | with_reducible refine Frame.ite ?_ ?_
    | with_reducible refine wr_frame (by with_reducible assumption) ?_ _ _
    | with_reducible refine Frame.foldTo ?_ (fun s x hs => ?_)

def State.applyMember_foot : Nat := 0x4000000000
theorem State.applyMember_frame (hm : Sub State.applyMember_foot m) (h : Frame m s0 s) :
    ∀ a1 a2, Frame m s0 (State.applyMember s a1 a2) := by
  intro a1 a2
  have s_State_setMgt : Sub State.setMgt_foot m := hm.of (by decide)
  unfold State.applyMember
  repeat' first
    | with_reducible assumption
    | (extract_lets -underBinder +onlyGivenNames x; have u : True := (by clear_value x; guard_hyp x :ₛ State; trivial); clear u; refine Frame.cut (m := m) (s0 := s0) (t := x) ?_ ?_; (on_goal 1 => subst x); (on_goal 2 => (intro hx; clear_value x)))
    | (extract_lets -underBinder +onlyGivenNames n; first | clear_value n | subst n)
    | with_reducible refine Frame.ite ?_ ?_
    | with_reducible refine State.setMgt_frame s_State_setMgt ?_ _
    | split

def State.applySlate_foot : Nat := 0x1e01e0000000000000000000000000000000000000040000000
theorem State.applySlate_frame (hm : Sub State.applySlate_foot m) (h : Frame m s0 s) :
    ∀ a1 a2, Frame m s0 (State.applySlate s a1 a2) := by
  intro a1 a2
  have s_State_showSlates : Sub State.showSlates_foot m := hm.of (by decide)
  have s_State_setSlateRaw : Sub State.setSlateRaw_foot m := hm.of (by decide)
  unfold State.applySlate
  repeat' first
    | with_reducible assumption
    | (extract_lets -underBinder +onlyGivenNames x; have u : True := (by clear_value x; guard_hyp x :ₛ State; trivial); clear u; refine Frame.cut (m := m) (s0 := s0) (t := x) ?_ ?_; (on_goal 1 => subst x); (on_goal 2 => (intro hx; clear_value x)))
    | (extract_lets -underBinder +onlyGivenNames n; first | clear_value n | subst n)
    | with_reducible refine Frame.ite ?_ ?_
    | with_reducible refine State.showSlates_frame s_State_showSlates ?_
    | with_reducible refine State.setSlateRaw_frame s_State_setSlateRaw ?_ _ _
    | split

def State.applyLedgerRec_foot : Nat := 0x80000000
theorem State.applyLedgerRec_frame (hm : Sub State.applyLedgerRec_foot m) (h : Frame m s0 s) :
    ∀ a1 a2, Frame m s0 (State.applyLedgerRec s a1 a2) := by
  intro a1 a2
  have s_State_setPar : Sub State.setPar_foot m := hm.of (by decide)
  unfold State.applyLedgerRec
  repeat' first
    | with_reducible assumption
    | (extract_lets -underBinder +onlyGivenNames x; have u : True := (by clear_value x; guard_hyp x :ₛ State; trivial); clear u; refine Frame.cut (m := m) (s0 := s0) (t := x) ?_ ?_; (on_goal 1 => subst x); (on_goal 2 => (intro hx; clear_value x)))
    | (extract_lets -underBinder +onlyGivenNames n; first | clear_value n | subst n)
    | with_reducible refine Frame.ite ?_ ?_
    | with_reducible refine State.setPar_frame s_State_setPar ?_ _

def State.applyRec_foot : Nat := 0x438000ffffffd00000000000000000000003030000000000000000000000000000000000000000000000000000000000000000000000000000001e01e300f8000000000000000000000000000000040e8000080
theorem State.applyRec_frame (hm : Sub State.applyRec_foot m) (h : Frame m s0 s) :
    ∀ a1 a2 a3, Frame m s0 (State.applyRec s a1 a2 a3) := by
  intro a1 a2 a3
  have s_State_applyIdx : Sub State.applyIdx_foot m := hm.of (by decide)
  have s_State_applyJob : Sub State.applyJob_foot m := hm.of (by decide)
  have s_State_applyAllow : Sub State.applyAllow_foot m := hm.of (by decide)
  have s_State_setPar : Sub State.setPar_foot m := hm.of (by decide)
  have s_State_applyMember : Sub State.applyMember_foot m := hm.of (by decide)
  have s_State_applySlate : Sub State.applySlate_foot m := hm.of (by decide)
  have s_State_applyLedgerRec : Sub State.applyLedgerRec_foot m := hm.of (by decide)
  have s_State_applyEntry : Sub State.applyEntry_foot m := hm.of (by decide)
  have s_State_applyMgt : Sub State.applyMgt_foot m := hm.of (by decide)
  have k_ACT_PKG_BUD : Has m ACT_PKG_BUD := hm.has 15 22 rfl (by decide)
  have k_ACT_PKG_CAP_cap : Has m ACT_PKG_CAP_cap := hm.has 15 21 rfl (by decide)
  have k_ACT_TCAP : Has m ACT_TCAP := hm.has 15 29 rfl (by decide)
  have k_ACT_TSET : Has m ACT_TSET := hm.has 15 30 rfl (by decide)
  have c_acc : m.testBit 27 = true := hm.bit 27 (by decide)
  unfold State.applyRec
  repeat' first
    | with_reducible assumption
    | (extract_lets -underBinder +onlyGivenNames x; have u : True := (by clear_value x; guard_hyp x :ₛ State; trivial); clear u; refine Frame.cut (m := m) (s0 := s0) (t := x) ?_ ?_; (on_goal 1 => subst x); (on_goal 2 => (intro hx; clear_value x)))
    | (extract_lets -underBinder +onlyGivenNames n; first | clear_value n | subst n)
    | with_reducible refine Frame.ite ?_ ?_
    | with_reducible refine wr_frame (by with_reducible assumption) ?_ _ _
    | with_reducible refine State.applyIdx_frame s_State_applyIdx ?_ _ _
    | with_reducible refine State.applyJob_frame s_State_applyJob ?_ _ _
    | with_reducible refine State.applyAllow_frame s_State_applyAllow ?_ _
    | with_reducible refine State.setPar_frame s_State_setPar ?_ _
    | with_reducible refine State.applyMember_frame s_State_applyMember ?_ _ _
    | with_reducible refine State.applySlate_frame s_State_applySlate ?_ _ _
    | with_reducible refine State.applyLedgerRec_frame s_State_applyLedgerRec ?_ _ _
    | with_reducible refine State.applyEntry_frame s_State_applyEntry ?_ _ _
    | with_reducible refine State.applyMgt_frame s_State_applyMgt ?_ _
    | with_reducible exact Frame.set_acc c_acc (by with_reducible assumption)
    | split

def State.applyRecs_foot : Nat := 0x438000ffffffd00000000000000000000003030000000000000000000000000000000000000000000000000000000000000000000000000000001e01e300f8000000000000000000000000000000040e8000080
theorem State.applyRecs_frame (hm : Sub State.applyRecs_foot m) (h : Frame m s0 s) :
    ∀ a1, Frame m s0 (State.applyRecs s a1) := by
  intro a1
  have s_State_applyRec : Sub State.applyRec_foot m := hm.of (by decide)
  unfold State.applyRecs
  repeat' first
    | with_reducible assumption
    | with_reducible refine Frame.ite ?_ ?_
    | with_reducible refine State.applyRec_frame s_State_applyRec ?_ _ _ _
    | with_reducible refine Frame.foldl ?_ (fun s x hs => ?_)

def State.emptyMirror_foot : Nat := 0x30000000000000000000000000000000000040e8000000
theorem State.emptyMirror_frame (hm : Sub State.emptyMirror_foot m) (h : Frame m s0 s) :
    Frame m s0 (State.emptyMirror s) := by
  have s_State_setRState : Sub State.setRState_foot m := hm.of (by decide)
  have s_State_setPar : Sub State.setPar_foot m := hm.of (by decide)
  have s_State_setSlt : Sub State.setSlt_foot m := hm.of (by decide)
  have s_State_setMgt : Sub State.setMgt_foot m := hm.of (by decide)
  have c_acc : m.testBit 27 = true := hm.bit 27 (by decide)
  have c_hif : m.testBit 29 = true := hm.bit 29 (by decide)
  unfold State.emptyMirror
  repeat' first
    | with_reducible assumption
    | (extract_lets -underBinder +onlyGivenNames x; have u : True := (by clear_value x; guard_hyp x :ₛ State; trivial); clear u; refine Frame.cut (m := m) (s0 := s0) (t := x) ?_ ?_; (on_goal 1 => subst x); (on_goal 2 => (intro hx; clear_value x)))
    | (extract_lets -underBinder +onlyGivenNames n; first | clear_value n | subst n)
    | with_reducible refine Frame.ite ?_ ?_
    | with_reducible refine State.setRState_frame s_State_setRState ?_ _ _
    | with_reducible refine State.setPar_frame s_State_setPar ?_ _
    | with_reducible refine State.setSlt_frame s_State_setSlt ?_ _
    | with_reducible refine State.setMgt_frame s_State_setMgt ?_ _
    | with_reducible exact Frame.set_acc_hif c_acc c_hif (by with_reducible assumption)
    | with_reducible refine Frame.foldl ?_ (fun s x hs => ?_)
    | split

def State.resumeRing_foot : Nat := 0x20000080
theorem State.resumeRing_frame (hm : Sub State.resumeRing_foot m) (h : Frame m s0 s) :
    ∀ a1 a2, Frame m s0 (State.resumeRing s a1 a2) := by
  intro a1 a2
  have s_State_tryFetch : Sub State.tryFetch_foot m := hm.of (by decide)
  have s_State_setRing : Sub State.setRing_foot m := hm.of (by decide)
  have s_State_writeCompletion : Sub State.writeCompletion_foot m := hm.of (by decide)
  have s_State_send : Sub State.send_foot m := hm.of (by decide)
  unfold State.resumeRing
  repeat' first
    | with_reducible assumption
    | (extract_lets -underBinder +onlyGivenNames x; have u : True := (by clear_value x; guard_hyp x :ₛ State; trivial); clear u; refine Frame.cut (m := m) (s0 := s0) (t := x) ?_ ?_; (on_goal 1 => subst x); (on_goal 2 => (intro hx; clear_value x)))
    | (extract_lets -underBinder +onlyGivenNames n; first | clear_value n | subst n)
    | with_reducible refine Frame.ite ?_ ?_
    | with_reducible refine State.tryFetch_frame s_State_tryFetch ?_ _
    | with_reducible refine State.setRing_frame s_State_setRing ?_ _ _
    | with_reducible refine State.writeCompletion_frame s_State_writeCompletion ?_ _ _ _ _ _ _
    | with_reducible refine State.send_frame s_State_send ?_ _
    | with_reducible refine Frame.foldl ?_ (fun s x hs => ?_)
    | split

def State.resumeRoles_foot : Nat := 0x40a8000080
theorem State.resumeRoles_frame (hm : Sub State.resumeRoles_foot m) (h : Frame m s0 s) :
    Frame m s0 (State.resumeRoles s) := by
  have s_State_setPar : Sub State.setPar_foot m := hm.of (by decide)
  have s_State_resumeRing : Sub State.resumeRing_foot m := hm.of (by decide)
  have s_State_setJob : Sub State.setJob_foot m := hm.of (by decide)
  have s_State_setMgt : Sub State.setMgt_foot m := hm.of (by decide)
  unfold State.resumeRoles
  repeat' first
    | with_reducible assumption
    | (extract_lets -underBinder +onlyGivenNames x; have u : True := (by clear_value x; guard_hyp x :ₛ State; trivial); clear u; refine Frame.cut (m := m) (s0 := s0) (t := x) ?_ ?_; (on_goal 1 => subst x); (on_goal 2 => (intro hx; clear_value x)))
    | (extract_lets -underBinder +onlyGivenNames n; first | clear_value n | subst n)
    | with_reducible refine Frame.ite ?_ ?_
    | with_reducible refine State.setPar_frame s_State_setPar ?_ _
    | with_reducible refine State.resumeRing_frame s_State_resumeRing ?_ _ _
    | with_reducible refine State.setJob_frame s_State_setJob ?_ _ _
    | with_reducible refine State.setMgt_frame s_State_setMgt ?_ _
    | with_reducible refine Frame.foldl ?_ (fun s x hs => ?_)
    | split

def State.becomePrimary_foot : Nat := 0x42100000000000000000000000000000000000100020000000000000000000000000000000000000000000000000000000000000000000000000000000000000000000000000000000000000000000000040b8080180
theorem State.becomePrimary_frame (hm : Sub State.becomePrimary_foot m) (h : Frame m s0 s) :
    ∀ a1, Frame m s0 (State.becomePrimary s a1) := by
  intro a1
  have s_State_resumeRoles : Sub State.resumeRoles_foot m := hm.of (by decide)
  have s_State_refreshBudget : Sub State.refreshBudget_foot m := hm.of (by decide)
  have s_State_refreshDie : Sub State.refreshDie_foot m := hm.of (by decide)
  have s_State_emit : Sub State.emit_foot m := hm.of (by decide)
  have k_PAR_CNT_failover : Has m PAR_CNT_failover := hm.has 22 14 rfl (by decide)
  have k_PAR_STAT_role : Has m PAR_STAT_role := hm.has 22 9 rfl (by decide)
  unfold State.becomePrimary
  repeat' first
    | with_reducible assumption
    | (extract_lets -underBinder +onlyGivenNames x; have u : True := (by clear_value x; guard_hyp x :ₛ State; trivial); clear u; refine Frame.cut (m := m) (s0 := s0) (t := x) ?_ ?_; (on_goal 1 => subst x); (on_goal 2 => (intro hx; clear_value x)))
    | (extract_lets -underBinder +onlyGivenNames n; first | clear_value n | subst n)
    | with_reducible refine Frame.ite ?_ ?_
    | with_reducible refine wr_frame (by with_reducible assumption) ?_ _ _
    | with_reducible refine bump_frame (by with_reducible assumption) ?_ _
    | with_reducible refine State.resumeRoles_frame s_State_resumeRoles ?_
    | with_reducible refine State.refreshBudget_frame s_State_refreshBudget ?_
    | with_reducible refine State.refreshDie_frame s_State_refreshDie ?_
    | with_reducible refine State.emit_frame s_State_emit ?_ _ _ _

def State.splitTakes_foot : Nat := 0x100000000000000000000000000000000000000000000000000000000000000000000000000000000001e41e00000000000000000000000000000000000000f0000180
theorem State.splitTakes_frame (hm : Sub State.splitTakes_foot m) (h : Frame m s0 s) :
    Frame m s0 (State.splitTakes s) := by
  have s_State_showSlates : Sub State.showSlates_foot m := hm.of (by decide)
  have s_State_freeSlate : Sub State.freeSlate_foot m := hm.of (by decide)
  have s_State_complete : Sub State.complete_foot m := hm.of (by decide)
  have s_State_setSlt : Sub State.setSlt_foot m := hm.of (by decide)
  have s_State_emit : Sub State.emit_foot m := hm.of (by decide)
  have k_SLT_FAIL_failed : Has m SLT_FAIL_failed := hm.has 6 12 rfl (by decide)
  unfold State.splitTakes
  repeat' first
    | with_reducible assumption
    | (extract_lets -underBinder +onlyGivenNames x; have u : True := (by clear_value x; guard_hyp x :ₛ State; trivial); clear u; refine Frame.cut (m := m) (s0 := s0) (t := x) ?_ ?_; (on_goal 1 => subst x); (on_goal 2 => (intro hx; clear_value x)))
    | (extract_lets -underBinder +onlyGivenNames n; first | clear_value n | subst n)
    | with_reducible refine Frame.ite ?_ ?_
    | with_reducible refine bump_frame (by with_reducible assumption) ?_ _
    | with_reducible refine State.showSlates_frame s_State_showSlates ?_
    | with_reducible refine State.freeSlate_frame s_State_freeSlate ?_ _
    | with_reducible refine State.complete_frame s_State_complete ?_ _ _ _
    | with_reducible refine State.setSlt_frame s_State_setSlt ?_ _
    | with_reducible refine State.emit_frame s_State_emit ?_ _ _ _
    | with_reducible refine Frame.foldl ?_ (fun s x hs => ?_)
    | split

def State.enterSplit_foot : Nat := 0x44580000000000000000000000000000000000100000000000000000000000000000000000000000000000000000000000000000000000000000000001e41e00000000000000000000000000000000000000f0080180
theorem State.enterSplit_frame (hm : Sub State.enterSplit_foot m) (h : Frame m s0 s) :
    ∀ a1, Frame m s0 (State.enterSplit s a1) := by
  intro a1
  have s_State_refreshDie : Sub State.refreshDie_foot m := hm.of (by decide)
  have s_State_setPar : Sub State.setPar_foot m := hm.of (by decide)
  have s_State_splitTakes : Sub State.splitTakes_foot m := hm.of (by decide)
  have s_State_emit : Sub State.emit_foot m := hm.of (by decide)
  have k_PAR_CNT_split : Has m PAR_CNT_split := hm.has 22 15 rfl (by decide)
  have k_PAR_STAT_role : Has m PAR_STAT_role := hm.has 22 9 rfl (by decide)
  have k_PAR_STAT_state : Has m PAR_STAT_state := hm.has 22 8 rfl (by decide)
  have k_PAR_STAT_up : Has m PAR_STAT_up := hm.has 22 11 rfl (by decide)
  unfold State.enterSplit
  repeat' first
    | with_reducible assumption
    | (extract_lets -underBinder +onlyGivenNames x; have u : True := (by clear_value x; guard_hyp x :ₛ State; trivial); clear u; refine Frame.cut (m := m) (s0 := s0) (t := x) ?_ ?_; (on_goal 1 => subst x); (on_goal 2 => (intro hx; clear_value x)))
    | (extract_lets -underBinder +onlyGivenNames n; first | clear_value n | subst n)
    | with_reducible refine Frame.ite ?_ ?_
    | with_reducible refine wr_frame (by with_reducible assumption) ?_ _ _
    | with_reducible refine bump_frame (by with_reducible assumption) ?_ _
    | with_reducible refine State.refreshDie_frame s_State_refreshDie ?_
    | with_reducible refine State.setPar_frame s_State_setPar ?_ _
    | with_reducible refine State.splitTakes_frame s_State_splitTakes ?_
    | with_reducible refine State.emit_frame s_State_emit ?_ _ _ _
    | split

def bridgeLoss_foot : Nat := 0x44580000000000000000000000000000000000100000000000000000000000000000000000000000000000000000000000000000000000000000000001e41e00000000000000000000000000000000000000f0080180
theorem bridgeLoss_frame (hm : Sub bridgeLoss_foot m) (h : Frame m s0 s) :
    Frame m s0 (bridgeLoss s) := by
  have s_State_enterSplit : Sub State.enterSplit_foot m := hm.of (by decide)
  have s_State_setPar : Sub State.setPar_foot m := hm.of (by decide)
  unfold bridgeLoss
  repeat' first
    | with_reducible assumption
    | (extract_lets -underBinder +onlyGivenNames x; have u : True := (by clear_value x; guard_hyp x :ₛ State; trivial); clear u; refine Frame.cut (m := m) (s0 := s0) (t := x) ?_ ?_; (on_goal 1 => subst x); (on_goal 2 => (intro hx; clear_value x)))
    | (extract_lets -underBinder +onlyGivenNames n; first | clear_value n | subst n)
    | with_reducible refine Frame.ite ?_ ?_
    | with_reducible refine State.enterSplit_frame s_State_enterSplit ?_ _
    | with_reducible refine State.setPar_frame s_State_setPar ?_ _
    | split

def pairTakeover_foot : Nat := 0x43100000000000000000000000000000000000100020000000000000000000000000000000000000000000000000000000000000000000000000000000000000000000000000000000000000000000000040b8080180
theorem pairTakeover_frame (hm : Sub pairTakeover_foot m) (h : Frame m s0 s) :
    Frame m s0 (pairTakeover s) := by
  have s_State_becomePrimary : Sub State.becomePrimary_foot m := hm.of (by decide)
  have k_PAR_STAT_term : Has m PAR_STAT_term := hm.has 22 13 rfl (by decide)
  unfold pairTakeover
  repeat' first
    | with_reducible assumption
    | with_reducible refine Frame.ite ?_ ?_
    | with_reducible refine wr_frame (by with_reducible assumption) ?_ _ _
    | with_reducible refine State.becomePrimary_frame s_State_becomePrimary ?_ _
    | split

def State.startSync_foot : Nat := 0x4048000000000000000000000000000000000000000000000000000000000000000000000000000000000000000000000000000000000000000000000000000000000000000000000000000000000000000090080080
theorem State.startSync_frame (hm : Sub State.startSync_foot m) (h : Frame m s0 s) :
    Frame m s0 (State.startSync s) := by
  have s_State_refreshDie : Sub State.refreshDie_foot m := hm.of (by decide)
  have s_State_bridgeSend : Sub State.bridgeSend_foot m := hm.of (by decide)
  have s_State_setPar : Sub State.setPar_foot m := hm.of (by decide)
  have k_PAR_STAT_state : Has m PAR_STAT_state := hm.has 22 8 rfl (by decide)
  have k_PAR_STAT_up : Has m PAR_STAT_up := hm.has 22 11 rfl (by decide)
  unfold State.startSync
  repeat' first
    | with_reducible assumption
    | (extract_lets -underBinder +onlyGivenNames x; have u : True := (by clear_value x; guard_hyp x :ₛ State; trivial); clear u; refine Frame.cut (m := m) (s0 := s0) (t := x) ?_ ?_; (on_goal 1 => subst x); (on_goal 2 => (intro hx; clear_value x)))
    | (extract_lets -underBinder +onlyGivenNames n; first | clear_value n | subst n)
    | with_reducible refine Frame.ite ?_ ?_
    | with_reducible refine wr_frame (by with_reducible assumption) ?_ _ _
    | with_reducible refine State.refreshDie_frame s_State_refreshDie ?_
    | with_reducible refine State.bridgeSend_frame s_State_bridgeSend ?_ _ _
    | with_reducible refine State.setPar_frame s_State_setPar ?_ _
    | split

def bridgeUp_foot : Nat := 0x4048000000000000000000000000000000000000000000000000000000000000000000000000000000000000000000000000000000000000000000000000000000000000000000000000000000000000000090080080
theorem bridgeUp_frame (hm : Sub bridgeUp_foot m) (h : Frame m s0 s) :
    Frame m s0 (bridgeUp s) := by
  have s_State_startSync : Sub State.startSync_foot m := hm.of (by decide)
  have s_State_setPar : Sub State.setPar_foot m := hm.of (by decide)
  unfold bridgeUp
  repeat' first
    | with_reducible assumption
    | (extract_lets -underBinder +onlyGivenNames x; have u : True := (by clear_value x; guard_hyp x :ₛ State; trivial); clear u; refine Frame.cut (m := m) (s0 := s0) (t := x) ?_ ?_; (on_goal 1 => subst x); (on_goal 2 => (intro hx; clear_value x)))
    | (extract_lets -underBinder +onlyGivenNames n; first | clear_value n | subst n)
    | with_reducible refine Frame.ite ?_ ?_
    | with_reducible refine State.startSync_frame s_State_startSync ?_
    | with_reducible refine State.setPar_frame s_State_setPar ?_ _
    | split

def State.syncPrimary_foot : Nat := 0x90000000000000000000000000000000000010000000000000000000000000000000000000000000000000000000000000000000000000000000000000000000000000000000000000000000000000000080000180
theorem State.syncPrimary_frame (hm : Sub State.syncPrimary_foot m) (h : Frame m s0 s) :
    ∀ a1 a2, Frame m s0 (State.syncPrimary s a1 a2) := by
  intro a1 a2
  have s_State_bridgeSend : Sub State.bridgeSend_foot m := hm.of (by decide)
  have s_State_setPar : Sub State.setPar_foot m := hm.of (by decide)
  have s_State_sendCkpt : Sub State.sendCkpt_foot m := hm.of (by decide)
  have s_State_emit : Sub State.emit_foot m := hm.of (by decide)
  have k_PAR_STAT_ledger : Has m PAR_STAT_ledger := hm.has 22 12 rfl (by decide)
  have k_PAR_STAT_role : Has m PAR_STAT_role := hm.has 22 9 rfl (by decide)
  unfold State.syncPrimary
  repeat' first
    | with_reducible assumption
    | (extract_lets -underBinder +onlyGivenNames x; have u : True := (by clear_value x; guard_hyp x :ₛ State; trivial); clear u; refine Frame.cut (m := m) (s0 := s0) (t := x) ?_ ?_; (on_goal 1 => subst x); (on_goal 2 => (intro hx; clear_value x)))
    | (extract_lets -underBinder +onlyGivenNames n; first | clear_value n | subst n)
    | with_reducible refine Frame.ite ?_ ?_
    | with_reducible refine wr_frame (by with_reducible assumption) ?_ _ _
    | with_reducible refine State.bridgeSend_frame s_State_bridgeSend ?_ _ _
    | with_reducible refine State.setPar_frame s_State_setPar ?_ _
    | with_reducible refine State.sendCkpt_frame s_State_sendCkpt ?_
    | with_reducible refine State.emit_frame s_State_emit ?_ _ _ _
    | with_reducible refine Frame.foldl ?_ (fun s x hs => ?_)
    | split

def State.syncSecondary_foot : Nat := 0x1900000000000000000000000000000000000000000000000000000000000000000000000000000000000000000000000000000000000000000000000000000000000000000000000000000000000000000a0000080
theorem State.syncSecondary_frame (hm : Sub State.syncSecondary_foot m) (h : Frame m s0 s) :
    ∀ a1, Frame m s0 (State.syncSecondary s a1) := by
  intro a1
  have s_State_dropRole : Sub State.dropRole_foot m := hm.of (by decide)
  have s_State_bridgeSend : Sub State.bridgeSend_foot m := hm.of (by decide)
  have s_State_setPar : Sub State.setPar_foot m := hm.of (by decide)
  have k_PAR_STAT_ledger : Has m PAR_STAT_ledger := hm.has 22 12 rfl (by decide)
  have k_PAR_STAT_role : Has m PAR_STAT_role := hm.has 22 9 rfl (by decide)
  have k_PAR_STAT_term : Has m PAR_STAT_term := hm.has 22 13 rfl (by decide)
  unfold State.syncSecondary
  repeat' first
    | with_reducible assumption
    | (extract_lets -underBinder +onlyGivenNames x; have u : True := (by clear_value x; guard_hyp x :ₛ State; trivial); clear u; refine Frame.cut (m := m) (s0 := s0) (t := x) ?_ ?_; (on_goal 1 => subst x); (on_goal 2 => (intro hx; clear_value x)))
    | (extract_lets -underBinder +onlyGivenNames n; first | clear_value n | subst n)
    | with_reducible refine Frame.ite ?_ ?_
    | with_reducible refine wr_frame (by with_reducible assumption) ?_ _ _
    | with_reducible refine State.dropRole_frame s_State_dropRole ?_
    | with_reducible refine State.bridgeSend_frame s_State_bridgeSend ?_ _ _
    | with_reducible refine State.setPar_frame s_State_setPar ?_ _
    | with_reducible refine Frame.foldl ?_ (fun s x hs => ?_)
    | split

def State.onSync_foot : Nat := 0x41d80000000000000000000000000000000000100000000000000000000000000000000000000000000000000000000000000000000000000000000000000000000000000000000000000000000000000000b0080180
theorem State.onSync_frame (hm : Sub State.onSync_foot m) (h : Frame m s0 s) :
    ∀ a1 a2, Frame m s0 (State.onSync s a1 a2) := by
  intro a1 a2
  have s_State_startSync : Sub State.startSync_foot m := hm.of (by decide)
  have s_State_syncSecondary : Sub State.syncSecondary_foot m := hm.of (by decide)
  have s_State_syncPrimary : Sub State.syncPrimary_foot m := hm.of (by decide)
  unfold State.onSync
  repeat' first
    | with_reducible assumption
    | (extract_lets -underBinder +onlyGivenNames x; have u : True := (by clear_value x; guard_hyp x :ₛ State; trivial); clear u; refine Frame.cut (m := m) (s0 := s0) (t := x) ?_ ?_; (on_goal 1 => subst x); (on_goal 2 => (intro hx; clear_value x)))
    | (extract_lets -underBinder +onlyGivenNames n; first | clear_value n | subst n)
    | with_reducible refine Frame.ite ?_ ?_
    | with_reducible refine State.startSync_frame s_State_startSync ?_
    | with_reducible refine State.syncSecondary_frame s_State_syncSecondary ?_ _
    | with_reducible refine State.syncPrimary_frame s_State_syncPrimary ?_ _ _
    | split

def State.writeHeld_foot : Nat := 0xa0000080
theorem State.writeHeld_frame (hm : Sub State.writeHeld_foot m) (h : Frame m s0 s) :
    ∀ a1, Frame m s0 (State.writeHeld s a1) := by
  intro a1
  have s_State_tryFetch : Sub State.tryFetch_foot m := hm.of (by decide)
  have s_State_landAt : Sub State.landAt_foot m := hm.of (by decide)
  have s_State_setPar : Sub State.setPar_foot m := hm.of (by decide)
  have s_State_mirrorRing : Sub State.mirrorRing_foot m := hm.of (by decide)
  have s_State_writeCompletion : Sub State.writeCompletion_foot m := hm.of (by decide)
  unfold State.writeHeld
  repeat' first
    | with_reducible assumption
    | (extract_lets -underBinder +onlyGivenNames x; have u : True := (by clear_value x; guard_hyp x :ₛ State; trivial); clear u; refine Frame.cut (m := m) (s0 := s0) (t := x) ?_ ?_; (on_goal 1 => subst x); (on_goal 2 => (intro hx; clear_value x)))
    | (extract_lets -underBinder +onlyGivenNames n; first | clear_value n | subst n)
    | with_reducible refine Frame.ite ?_ ?_
    | with_reducible refine State.tryFetch_frame s_State_tryFetch ?_ _
    | with_reducible refine State.landAt_frame s_State_landAt ?_ _ _ _
    | with_reducible refine State.setPar_frame s_State_setPar ?_ _
    | with_reducible refine State.mirrorRing_frame s_State_mirrorRing ?_ _
    | with_reducible refine State.writeCompletion_frame s_State_writeCompletion ?_ _ _ _ _ _ _
    | with_reducible refine Frame.foldl ?_ (fun s x hs => ?_)
    | split

def State.reachPaired_foot : Nat := 0x4008000000000000000000000000000000000010000000000000000000000000000000000000000000000000000000000000000000000000000000000000000000000000000000000000000000000000000090080100
theorem State.reachPaired_frame (hm : Sub State.reachPaired_foot m) (h : Frame m s0 s) :
    Frame m s0 (State.reachPaired s) := by
  have s_State_refreshDie : Sub State.refreshDie_foot m := hm.of (by decide)
  have s_State_setPar : Sub State.setPar_foot m := hm.of (by decide)
  have s_State_emit : Sub State.emit_foot m := hm.of (by decide)
  have k_PAR_STAT_state : Has m PAR_STAT_state := hm.has 22 8 rfl (by decide)
  unfold State.reachPaired
  repeat' first
    | with_reducible assumption
    | (extract_lets -underBinder +onlyGivenNames x; have u : True := (by clear_value x; guard_hyp x :ₛ State; trivial); clear u; refine Frame.cut (m := m) (s0 := s0) (t := x) ?_ ?_; (on_goal 1 => subst x); (on_goal 2 => (intro hx; clear_value x)))
    | (extract_lets -underBinder +onlyGivenNames n; first | clear_value n | subst n)
    | with_reducible refine Frame.ite ?_ ?_
    | with_reducible refine wr_frame (by with_reducible assumption) ?_ _ _
    | with_reducible refine State.refreshDie_frame s_State_refreshDie ?_
    | with_reducible refine State.setPar_frame s_State_setPar ?_ _
    | with_reducible refine State.emit_frame s_State_emit ?_ _ _ _

def State.pairedPrimary_foot : Nat := 0x40080000000000000000000000000000000000100000000000000000000000000000000000000000000000000000000000000000000000000000000000000000000000000000000000000000000000000000b8080180
theorem State.pairedPrimary_frame (hm : Sub State.pairedPrimary_foot m) (h : Frame m s0 s) :
    ∀ a1, Frame m s0 (State.pairedPrimary s a1) := by
  intro a1
  have s_State_writeHeld : Sub State.writeHeld_foot m := hm.of (by decide)
  have s_State_tryFetch : Sub State.tryFetch_foot m := hm.of (by decide)
  have s_State_applyWaits : Sub State.applyWaits_foot m := hm.of (by decide)
  have s_State_reachPaired : Sub State.reachPaired_foot m := hm.of (by decide)
  unfold State.pairedPrimary
  repeat' first
    | with_reducible assumption
    | (extract_lets -underBinder +onlyGivenNames x; have u : True := (by clear_value x; guard_hyp x :ₛ State; trivial); clear u; refine Frame.cut (m := m) (s0 := s0) (t := x) ?_ ?_; (on_goal 1 => subst x); (on_goal 2 => (intro hx; clear_value x)))
    | (extract_lets -underBinder +onlyGivenNames n; first | clear_value n | subst n)
    | with_reducible refine Frame.ite ?_ ?_
    | with_reducible refine State.writeHeld_frame s_State_writeHeld ?_ _
    | with_reducible refine State.tryFetch_frame s_State_tryFetch ?_ _
    | with_reducible refine State.applyWaits_frame s_State_applyWaits ?_ _
    | with_reducible refine State.reachPaired_frame s_State_reachPaired ?_
    | with_reducible refine Frame.foldl ?_ (fun s x hs => ?_)

def State.bridgeAck_foot : Nat := 0x40080000000000000000000000000000000000100000000000000000000000000000000000000000000000000000000000000000000000000000000000000000000000000000000000000000000000000000b8080180
theorem State.bridgeAck_frame (hm : Sub State.bridgeAck_foot m) (h : Frame m s0 s) :
    ∀ a1, Frame m s0 (State.bridgeAck s a1) := by
  intro a1
  have s_State_pairedPrimary : Sub State.pairedPrimary_foot m := hm.of (by decide)
  have s_State_setPar : Sub State.setPar_foot m := hm.of (by decide)
  have s_State_send : Sub State.send_foot m := hm.of (by decide)
  unfold State.bridgeAck
  repeat' first
    | with_reducible assumption
    | (extract_lets -underBinder +onlyGivenNames x; have u : True := (by clear_value x; guard_hyp x :ₛ State; trivial); clear u; refine Frame.cut (m := m) (s0 := s0) (t := x) ?_ ?_; (on_goal 1 => subst x); (on_goal 2 => (intro hx; clear_value x)))
    | (extract_lets -underBinder +onlyGivenNames n; first | clear_value n | subst n)
    | with_reducible refine Frame.ite ?_ ?_
    | with_reducible refine State.pairedPrimary_frame s_State_pairedPrimary ?_ _
    | with_reducible refine State.setPar_frame s_State_setPar ?_ _
    | with_reducible refine State.send_frame s_State_send ?_ _
    | with_reducible refine Frame.foldl ?_ (fun s x hs => ?_)
    | split

def State.bridgeRx_foot : Nat := 0x54580000000000000000000000000000000000100000000000000000000000000000000000000000000000000000000000000000000000000000000001e41e00000000000000000000000000000000000000f8080180
theorem State.bridgeRx_frame (hm : Sub State.bridgeRx_foot m) {f5} (hf : ∀ d s, Frame m s0 s → Frame m s0 (f5 d s)) (h : Frame m s0 s) :
    ∀ a1 a2 a3 a4, Frame m s0 (State.bridgeRx s a1 a2 a3 a4 f5) := by
  intro a1 a2 a3 a4
  have s_State_enterSplit : Sub State.enterSplit_foot m := hm.of (by decide)
  have s_State_bridgeAck : Sub State.bridgeAck_foot m := hm.of (by decide)
  have s_State_startSync : Sub State.startSync_foot m := hm.of (by decide)
  have s_State_setPar : Sub State.setPar_foot m := hm.of (by decide)
  have k_PAR_CNT_crc : Has m PAR_CNT_crc := hm.has 22 17 rfl (by decide)
  unfold State.bridgeRx
  repeat' first
    | with_reducible assumption
    | (extract_lets -underBinder +onlyGivenNames x; have u : True := (by clear_value x; guard_hyp x :ₛ State; trivial); clear u; refine Frame.cut (m := m) (s0 := s0) (t := x) ?_ ?_; (on_goal 1 => subst x); (on_goal 2 => (intro hx; clear_value x)))
    | (extract_lets -underBinder +onlyGivenNames n; first | clear_value n | subst n)
    | with_reducible refine Frame.ite ?_ ?_
    | with_reducible refine bump_frame (by with_reducible assumption) ?_ _
    | with_reducible refine State.enterSplit_frame s_State_enterSplit ?_ _
    | with_reducible refine State.bridgeAck_frame s_State_bridgeAck ?_ _
    | with_reducible refine State.startSync_frame s_State_startSync ?_
    | with_reducible refine State.setPar_frame s_State_setPar ?_ _
    | with_reducible refine hf _ _ ?_
    | split

def bridgeRetransmit_foot : Nat := 0x800000000000000000000000000000000000000000000000000000000000000000000000000000000000000000000000000000000000000000000000000000000000000000000000000000000000000000080000080
theorem bridgeRetransmit_frame (hm : Sub bridgeRetransmit_foot m) (h : Frame m s0 s) :
    Frame m s0 (bridgeRetransmit s) := by
  have s_State_setPar : Sub State.setPar_foot m := hm.of (by decide)
  have s_State_send : Sub State.send_foot m := hm.of (by decide)
  have k_PAR_CNT_rtx : Has m PAR_CNT_rtx := hm.has 22 16 rfl (by decide)
  unfold bridgeRetransmit
  repeat' first
    | with_reducible assumption
    | (extract_lets -underBinder +onlyGivenNames x; have u : True := (by clear_value x; guard_hyp x :ₛ State; trivial); clear u; refine Frame.cut (m := m) (s0 := s0) (t := x) ?_ ?_; (on_goal 1 => subst x); (on_goal 2 => (intro hx; clear_value x)))
    | (extract_lets -underBinder +onlyGivenNames n; first | clear_value n | subst n)
    | with_reducible refine Frame.ite ?_ ?_
    | with_reducible refine bump_frame (by with_reducible assumption) ?_ _
    | with_reducible refine State.setPar_frame s_State_setPar ?_ _
    | with_reducible refine State.send_frame s_State_send ?_ _
    | with_reducible refine Frame.foldl ?_ (fun s x hs => ?_)
    | split

def bridgeCheckpointTimer_foot : Nat := 0x80000080
theorem bridgeCheckpointTimer_frame (hm : Sub bridgeCheckpointTimer_foot m) (h : Frame m s0 s) :
    Frame m s0 (bridgeCheckpointTimer s) := by
  have s_State_sendCkpt : Sub State.sendCkpt_foot m := hm.of (by decide)
  unfold bridgeCheckpointTimer
  repeat' first
    | with_reducible assumption
    | with_reducible refine Frame.ite ?_ ?_
    | with_reducible refine State.sendCkpt_frame s_State_sendCkpt ?_
    | split

def State.onCkpt_foot : Nat := 0x42180438000ffffffd00000000000000000000103030000000000000000000000000000000000000000000000000000000000000000000000000000001e01e300f8000000000000000000000000000000040f8080180
theorem State.onCkpt_frame (hm : Sub State.onCkpt_foot m) (h : Frame m s0 s) :
    ∀ a1, Frame m s0 (State.onCkpt s a1) := by
  intro a1
  have s_State_becomePrimary : Sub State.becomePrimary_foot m := hm.of (by decide)
  have s_State_emptyMirror : Sub State.emptyMirror_foot m := hm.of (by decide)
  have s_State_reachPaired : Sub State.reachPaired_foot m := hm.of (by decide)
  have s_State_setPar : Sub State.setPar_foot m := hm.of (by decide)
  have s_State_applyRecs : Sub State.applyRecs_foot m := hm.of (by decide)
  unfold State.onCkpt
  repeat' first
    | with_reducible assumption
    | (extract_lets -underBinder +onlyGivenNames x; have u : True := (by clear_value x; guard_hyp x :ₛ State; trivial); clear u; refine Frame.cut (m := m) (s0 := s0) (t := x) ?_ ?_; (on_goal 1 => subst x); (on_goal 2 => (intro hx; clear_value x)))
    | (extract_lets -underBinder +onlyGivenNames n; first | clear_value n | subst n)
    | with_reducible refine Frame.ite ?_ ?_
    | with_reducible refine State.becomePrimary_frame s_State_becomePrimary ?_ _
    | with_reducible refine State.emptyMirror_frame s_State_emptyMirror ?_
    | with_reducible refine State.reachPaired_frame s_State_reachPaired ?_
    | with_reducible refine State.setPar_frame s_State_setPar ?_ _
    | with_reducible refine State.applyRecs_frame s_State_applyRecs ?_ _
    | split

def State.onMirror_foot : Nat := 0x438000ffffffd00000000000000000000003030000000000000000000000000000000000000000000000000000000000000000000000000000001e01e300f8000000000000000000000000000000040e8000080
theorem State.onMirror_frame (hm : Sub State.onMirror_foot m) (h : Frame m s0 s) :
    ∀ a1 a2, Frame m s0 (State.onMirror s a1 a2) := by
  intro a1 a2
  have s_State_bridgeSend : Sub State.bridgeSend_foot m := hm.of (by decide)
  have s_State_applyRecs : Sub State.applyRecs_foot m := hm.of (by decide)
  unfold State.onMirror
  repeat' first
    | with_reducible assumption
    | with_reducible refine Frame.ite ?_ ?_
    | with_reducible refine State.bridgeSend_frame s_State_bridgeSend ?_ _ _
    | with_reducible refine State.applyRecs_frame s_State_applyRecs ?_ _
    | split

def State.onMack_foot : Nat := 0x40000000000000000000000000000000000000000000000000000000000000000000000000000000000000000000000000000000000000000000000000000000000000000000000000000000000000000000b8080080
theorem State.onMack_frame (hm : Sub State.onMack_foot m) (h : Frame m s0 s) :
    ∀ a1, Frame m s0 (State.onMack s a1) := by
  intro a1
  have s_State_writeHeld : Sub State.writeHeld_foot m := hm.of (by decide)
  have s_State_applyWaits : Sub State.applyWaits_foot m := hm.of (by decide)
  have s_State_setPar : Sub State.setPar_foot m := hm.of (by decide)
  have s_State_send : Sub State.send_foot m := hm.of (by decide)
  unfold State.onMack
  repeat' first
    | with_reducible assumption
    | (extract_lets -underBinder +onlyGivenNames x; have u : True := (by clear_value x; guard_hyp x :ₛ State; trivial); clear u; refine Frame.cut (m := m) (s0 := s0) (t := x) ?_ ?_; (on_goal 1 => subst x); (on_goal 2 => (intro hx; clear_value x)))
    | (extract_lets -underBinder +onlyGivenNames n; first | clear_value n | subst n)
    | with_reducible refine Frame.ite ?_ ?_
    | with_reducible refine State.writeHeld_frame s_State_writeHeld ?_ _
    | with_reducible refine State.applyWaits_frame s_State_applyWaits ?_ _
    | with_reducible refine State.setPar_frame s_State_setPar ?_ _
    | with_reducible refine State.send_frame s_State_send ?_ _
    | with_reducible refine Frame.foldl ?_ (fun s x hs => ?_)
    | split

def State.onDiepwr_foot : Nat := 0x90000000
theorem State.onDiepwr_frame (hm : Sub State.onDiepwr_foot m) (h : Frame m s0 s) :
    ∀ a1, Frame m s0 (State.onDiepwr s a1) := by
  intro a1
  have s_State_setThm : Sub State.setThm_foot m := hm.of (by decide)
  have s_State_setPar : Sub State.setPar_foot m := hm.of (by decide)
  unfold State.onDiepwr
  repeat' first
    | with_reducible assumption
    | (extract_lets -underBinder +onlyGivenNames x; have u : True := (by clear_value x; guard_hyp x :ₛ State; trivial); clear u; refine Frame.cut (m := m) (s0 := s0) (t := x) ?_ ?_; (on_goal 1 => subst x); (on_goal 2 => (intro hx; clear_value x)))
    | (extract_lets -underBinder +onlyGivenNames n; first | clear_value n | subst n)
    | with_reducible refine Frame.ite ?_ ?_
    | with_reducible refine State.setThm_frame s_State_setThm ?_ _
    | with_reducible refine State.setPar_frame s_State_setPar ?_ _
    | split

def State.onPkg_foot : Nat := 0x4000000000000000000000000000000000000000000000000000000000000000000000000000000000000000000000000000000000000000000000000000000000000000000000000000000000000000000008080000
theorem State.onPkg_frame (hm : Sub State.onPkg_foot m) (h : Frame m s0 s) :
    ∀ a1, Frame m s0 (State.onPkg s a1) := by
  intro a1
  have s_State_newPortion : Sub State.newPortion_foot m := hm.of (by decide)
  have s_State_seedSp : Sub State.seedSp_foot m := hm.of (by decide)
  have k_PAR_DIEBUD_bud : Has m PAR_DIEBUD_bud := hm.has 22 19 rfl (by decide)
  unfold State.onPkg
  repeat' first
    | with_reducible assumption
    | (extract_lets -underBinder +onlyGivenNames x; have u : True := (by clear_value x; guard_hyp x :ₛ State; trivial); clear u; refine Frame.cut (m := m) (s0 := s0) (t := x) ?_ ?_; (on_goal 1 => subst x); (on_goal 2 => (intro hx; clear_value x)))
    | (extract_lets -underBinder +onlyGivenNames n; first | clear_value n | subst n)
    | with_reducible refine Frame.ite ?_ ?_
    | with_reducible refine wr_frame (by with_reducible assumption) ?_ _ _
    | with_reducible refine State.newPortion_frame s_State_newPortion ?_ _ _
    | with_reducible refine State.seedSp_frame s_State_seedSp ?_ _ _
    | with_reducible refine Frame.foldTo ?_ (fun s x hs => ?_)
    | split

def State.onCplate_foot : Nat := 0x400000000000000000000000000000000000000000000000000000000000000000000000000000010000000
theorem State.onCplate_frame (hm : Sub State.onCplate_foot m) (h : Frame m s0 s) :
    ∀ a1, Frame m s0 (State.onCplate s a1) := by
  intro a1
  have s_State_setThm : Sub State.setThm_foot m := hm.of (by decide)
  have k_THM_STAT_cp_remote : Has m THM_STAT_cp_remote := hm.has 11 8 rfl (by decide)
  unfold State.onCplate
  repeat' first
    | with_reducible assumption
    | (extract_lets -underBinder +onlyGivenNames x; have u : True := (by clear_value x; guard_hyp x :ₛ State; trivial); clear u; refine Frame.cut (m := m) (s0 := s0) (t := x) ?_ ?_; (on_goal 1 => subst x); (on_goal 2 => (intro hx; clear_value x)))
    | (extract_lets -underBinder +onlyGivenNames n; first | clear_value n | subst n)
    | with_reducible refine Frame.ite ?_ ?_
    | with_reducible refine wr_frame (by with_reducible assumption) ?_ _ _
    | with_reducible refine State.setThm_frame s_State_setThm ?_ _
    | split

def State.onLedger_foot : Nat := 0x80000000
theorem State.onLedger_frame (hm : Sub State.onLedger_foot m) (h : Frame m s0 s) :
    ∀ a1, Frame m s0 (State.onLedger s a1) := by
  intro a1
  have s_State_setPar : Sub State.setPar_foot m := hm.of (by decide)
  have s_State_applyLedgerRec : Sub State.applyLedgerRec_foot m := hm.of (by decide)
  unfold State.onLedger
  repeat' first
    | with_reducible assumption
    | (extract_lets -underBinder +onlyGivenNames x; have u : True := (by clear_value x; guard_hyp x :ₛ State; trivial); clear u; refine Frame.cut (m := m) (s0 := s0) (t := x) ?_ ?_; (on_goal 1 => subst x); (on_goal 2 => (intro hx; clear_value x)))
    | (extract_lets -underBinder +onlyGivenNames n; first | clear_value n | subst n)
    | with_reducible refine Frame.ite ?_ ?_
    | with_reducible refine State.setPar_frame s_State_setPar ?_ _
    | with_reducible refine State.applyLedgerRec_frame s_State_applyLedgerRec ?_ _ _
    | with_reducible refine Frame.foldl ?_ (fun s x hs => ?_)
    | split

def State.onSalg_foot : Nat := 0x5e0000000bc0000000000000000000010000000000000000000000000000000000000000000000000000000000000000000000000000000000000000000000000000000000000000000000000004080000180
theorem State.onSalg_frame (hm : Sub State.onSalg_foot m) (h : Frame m s0 s) :
    ∀ a1, Frame m s0 (State.onSalg s a1) := by
  intro a1
  have s_State_mgtDeliver : Sub State.mgtDeliver_foot m := hm.of (by decide)
  unfold State.onSalg
  repeat' first
    | with_reducible assumption
    | with_reducible refine Frame.ite ?_ ?_
    | with_reducible refine State.mgtDeliver_frame s_State_mgtDeliver ?_ _
    | split

def State.onHandover_foot : Nat := 0x80000000
theorem State.onHandover_frame (hm : Sub State.onHandover_foot m) (h : Frame m s0 s) :
    ∀ a1, Frame m s0 (State.onHandover s a1) := by
  intro a1
  have s_State_setPar : Sub State.setPar_foot m := hm.of (by decide)
  unfold State.onHandover
  repeat' first
    | with_reducible assumption
    | (extract_lets -underBinder +onlyGivenNames x; have u : True := (by clear_value x; guard_hyp x :ₛ State; trivial); clear u; refine Frame.cut (m := m) (s0 := s0) (t := x) ?_ ?_; (on_goal 1 => subst x); (on_goal 2 => (intro hx; clear_value x)))
    | (extract_lets -underBinder +onlyGivenNames n; first | clear_value n | subst n)
    | with_reducible refine Frame.ite ?_ ?_
    | with_reducible refine State.setPar_frame s_State_setPar ?_ _
    | split

def bridgeClapSend_foot : Nat := 0x80000080
theorem bridgeClapSend_frame (hm : Sub bridgeClapSend_foot m) (h : Frame m s0 s) :
    Frame m s0 (bridgeClapSend s) := by
  have s_State_bridgeSend : Sub State.bridgeSend_foot m := hm.of (by decide)
  have s_State_setPar : Sub State.setPar_foot m := hm.of (by decide)
  unfold bridgeClapSend
  repeat' first
    | with_reducible assumption
    | (extract_lets -underBinder +onlyGivenNames x; have u : True := (by clear_value x; guard_hyp x :ₛ State; trivial); clear u; refine Frame.cut (m := m) (s0 := s0) (t := x) ?_ ?_; (on_goal 1 => subst x); (on_goal 2 => (intro hx; clear_value x)))
    | (extract_lets -underBinder +onlyGivenNames n; first | clear_value n | subst n)
    | with_reducible refine Frame.ite ?_ ?_
    | with_reducible refine State.bridgeSend_frame s_State_bridgeSend ?_ _ _
    | with_reducible refine State.setPar_frame s_State_setPar ?_ _
    | split

def State.onPclapReq_foot : Nat := 0x80000080
theorem State.onPclapReq_frame (hm : Sub State.onPclapReq_foot m) (h : Frame m s0 s) :
    ∀ a1 a2, Frame m s0 (State.onPclapReq s a1 a2) := by
  intro a1 a2
  have s_State_bridgeSend : Sub State.bridgeSend_foot m := hm.of (by decide)
  unfold State.onPclapReq
  repeat' first
    | with_reducible assumption
    | with_reducible refine Frame.ite ?_ ?_
    | with_reducible refine State.bridgeSend_frame s_State_bridgeSend ?_ _ _

def State.onPclapRsp_foot : Nat := 0x2000000000000000000000000000000000000000000000000000000000000000000000000000000000000000000000000000000000000000000000000000000000000000000000000000000000000000000080000000
theorem State.onPclapRsp_frame (hm : Sub State.onPclapRsp_foot m) (h : Frame m s0 s) :
    ∀ a1 a2, Frame m s0 (State.onPclapRsp s a1 a2) := by
  intro a1 a2
  have s_State_setPar : Sub State.setPar_foot m := hm.of (by decide)
  have k_PAR_OFS : Has m PAR_OFS := hm.has 22 18 rfl (by decide)
  unfold State.onPclapRsp
  repeat' first
    | with_reducible assumption
    | (extract_lets -underBinder +onlyGivenNames x; have u : True := (by clear_value x; guard_hyp x :ₛ State; trivial); clear u; refine Frame.cut (m := m) (s0 := s0) (t := x) ?_ ?_; (on_goal 1 => subst x); (on_goal 2 => (intro hx; clear_value x)))
    | (extract_lets -underBinder +onlyGivenNames n; first | clear_value n | subst n)
    | with_reducible refine Frame.ite ?_ ?_
    | with_reducible refine wr_frame (by with_reducible assumption) ?_ _ _
    | with_reducible refine State.setPar_frame s_State_setPar ?_ _
    | split

def State.parHandover_foot : Nat := 0x100000000000000000000000000000000000000000000000000000000000000000000000000000000000000000000000000000000000000000000000000000000000000000000000000000000000000000a0000080
theorem State.parHandover_frame (hm : Sub State.parHandover_foot m) (h : Frame m s0 s) :
    Frame m s0 (State.parHandover s) := by
  have s_State_handover : Sub State.handover_foot m := hm.of (by decide)
  unfold State.parHandover
  repeat' first
    | with_reducible assumption
    | with_reducible refine Frame.ite ?_ ?_
    | with_reducible refine State.handover_frame s_State_handover ?_ _

def State.parSole_foot : Nat := 0x4008000000000000000000000000000000000010000000000000000000000000000000000000000000000000000000000000000000000000000000000000000000000000000000000000000000000000000010080100
theorem State.parSole_frame (hm : Sub State.parSole_foot m) (h : Frame m s0 s) :
    Frame m s0 (State.parSole s) := by
  have s_State_refreshDie : Sub State.refreshDie_foot m := hm.of (by decide)
  have s_State_emit : Sub State.emit_foot m := hm.of (by decide)
  have k_PAR_STAT_state : Has m PAR_STAT_state := hm.has 22 8 rfl (by decide)
  unfold State.parSole
  repeat' first
    | with_reducible assumption
    | (extract_lets -underBinder +onlyGivenNames x; have u : True := (by clear_value x; guard_hyp x :ₛ State; trivial); clear u; refine Frame.cut (m := m) (s0 := s0) (t := x) ?_ ?_; (on_goal 1 => subst x); (on_goal 2 => (intro hx; clear_value x)))
    | (extract_lets -underBinder +onlyGivenNames n; first | clear_value n | subst n)
    | with_reducible refine Frame.ite ?_ ?_
    | with_reducible refine wr_frame (by with_reducible assumption) ?_ _ _
    | with_reducible refine State.refreshDie_frame s_State_refreshDie ?_
    | with_reducible refine State.emit_frame s_State_emit ?_ _ _ _
    | split

def execBridgeUp_foot : Nat := 0x4048000000000000000000000000000000000000000000000000000000000000000000000000000000000000000000000000000000000000000000000000000000000000000000000000000000000000000090080080
theorem execBridgeUp_frame (hm : Sub execBridgeUp_foot m) (h : Frame m s0 s) :
    ∃ t, execBridgeUp s = .next t ∧ Frame m s0 t := by
  have s_bridgeUp : Sub bridgeUp_foot m := hm.of (by decide)
  unfold execBridgeUp
  refine hubOn_frame (fun s h => ?_) h
  repeat' first
    | with_reducible assumption
    | with_reducible refine Frame.ite ?_ ?_
    | with_reducible refine bridgeUp_frame s_bridgeUp ?_

def execBridgeHb_foot : Nat := 0x54580000000000000000000000000000000000100000000000000000000000000000000000000000000000000000000000000000000000000000000001e41e00000000000000000000000000000000000000f8080180
theorem execBridgeHb_frame (hm : Sub execBridgeHb_foot m) (h : Frame m s0 s) :
    ∀ a0 a1 a2, ∃ t, execBridgeHb a0 a1 a2 s = .next t ∧ Frame m s0 t := by
  intro a0 a1 a2
  have s_State_bridgeRx : Sub State.bridgeRx_foot m := hm.of (by decide)
  unfold execBridgeHb
  refine hubOn_frame (fun s h => ?_) h
  repeat' first
    | with_reducible assumption
    | with_reducible refine Frame.ite ?_ ?_
    | with_reducible refine State.bridgeRx_frame s_State_bridgeRx (fun d s hs => ?_) ?_ _ _ _ _

def execBridgeSync_foot : Nat := 0x55d80000000000000000000000000000000000100000000000000000000000000000000000000000000000000000000000000000000000000000000001e41e00000000000000000000000000000000000000f8080180
theorem execBridgeSync_frame (hm : Sub execBridgeSync_foot m) (h : Frame m s0 s) :
    ∀ a0 a1 a2, ∃ t, execBridgeSync a0 a1 a2 s = .next t ∧ Frame m s0 t := by
  intro a0 a1 a2
  have s_State_onSync : Sub State.onSync_foot m := hm.of (by decide)
  have s_State_bridgeRx : Sub State.bridgeRx_foot m := hm.of (by decide)
  unfold execBridgeSync
  refine hubOn_frame (fun s h => ?_) h
  repeat' first
    | with_reducible assumption
    | with_reducible refine Frame.ite ?_ ?_
    | with_reducible refine State.onSync_frame s_State_onSync ?_ _ _
    | with_reducible refine State.bridgeRx_frame s_State_bridgeRx (fun d s hs => ?_) ?_ _ _ _ _

def execBridgeCkpt_foot : Nat := 0x56580438000ffffffd00000000000000000000103030000000000000000000000000000000000000000000000000000000000000000000000000000001e41e300f8000000000000000000000000000000040f8080180
theorem execBridgeCkpt_frame (hm : Sub execBridgeCkpt_foot m) (h : Frame m s0 s) :
    ∀ a0 a1 a2, ∃ t, execBridgeCkpt a0 a1 a2 s = .next t ∧ Frame m s0 t := by
  intro a0 a1 a2
  have s_State_onCkpt : Sub State.onCkpt_foot m := hm.of (by decide)
  have s_State_bridgeRx : Sub State.bridgeRx_foot m := hm.of (by decide)
  unfold execBridgeCkpt
  refine hubOn_frame (fun s h => ?_) h
  repeat' first
    | with_reducible assumption
    | with_reducible refine Frame.ite ?_ ?_
    | with_reducible refine State.onCkpt_frame s_State_onCkpt ?_ _
    | with_reducible refine State.bridgeRx_frame s_State_bridgeRx (fun d s hs => ?_) ?_ _ _ _ _

def execBridgeMirror_foot : Nat := 0x54580438000ffffffd00000000000000000000103030000000000000000000000000000000000000000000000000000000000000000000000000000001e41e300f8000000000000000000000000000000040f8080180
theorem execBridgeMirror_frame (hm : Sub execBridgeMirror_foot m) (h : Frame m s0 s) :
    ∀ a0 a1 a2, ∃ t, execBridgeMirror a0 a1 a2 s = .next t ∧ Frame m s0 t := by
  intro a0 a1 a2
  have s_State_onMirror : Sub State.onMirror_foot m := hm.of (by decide)
  have s_State_bridgeRx : Sub State.bridgeRx_foot m := hm.of (by decide)
  unfold execBridgeMirror
  refine hubOn_frame (fun s h => ?_) h
  repeat' first
    | with_reducible assumption
    | with_reducible refine Frame.ite ?_ ?_
    | with_reducible refine State.onMirror_frame s_State_onMirror ?_ _ _
    | with_reducible refine State.bridgeRx_frame s_State_bridgeRx (fun d s hs => ?_) ?_ _ _ _ _

def execBridgeMack_foot : Nat := 0x54580000000000000000000000000000000000100000000000000000000000000000000000000000000000000000000000000000000000000000000001e41e00000000000000000000000000000000000000f8080180
theorem execBridgeMack_frame (hm : Sub execBridgeMack_foot m) (h : Frame m s0 s) :
    ∀ a0 a1 a2, ∃ t, execBridgeMack a0 a1 a2 s = .next t ∧ Frame m s0 t := by
  intro a0 a1 a2
  have s_State_onMack : Sub State.onMack_foot m := hm.of (by decide)
  have s_State_bridgeRx : Sub State.bridgeRx_foot m := hm.of (by decide)
  unfold execBridgeMack
  refine hubOn_frame (fun s h => ?_) h
  repeat' first
    | with_reducible assumption
    | with_reducible refine Frame.ite ?_ ?_
    | with_reducible refine State.onMack_frame s_State_onMack ?_ _
    | with_reducible refine State.bridgeRx_frame s_State_bridgeRx (fun d s hs => ?_) ?_ _ _ _ _

def execBridgeDiepwr_foot : Nat := 0x54580000000000000000000000000000000000100000000000000000000000000000000000000000000000000000000000000000000000000000000001e41e00000000000000000000000000000000000000f8080180
theorem execBridgeDiepwr_frame (hm : Sub execBridgeDiepwr_foot m) (h : Frame m s0 s) :
    ∀ a0 a1 a2, ∃ t, execBridgeDiepwr a0 a1 a2 s = .next t ∧ Frame m s0 t := by
  intro a0 a1 a2
  have s_State_bridgeRx : Sub State.bridgeRx_foot m := hm.of (by decide)
  have s_State_onDiepwr : Sub State.onDiepwr_foot m := hm.of (by decide)
  unfold execBridgeDiepwr
  refine hubOn_frame (fun s h => ?_) h
  repeat' first
    | with_reducible assumption
    | with_reducible refine Frame.ite ?_ ?_
    | with_reducible refine State.bridgeRx_frame s_State_bridgeRx (fun d s hs => ?_) ?_ _ _ _ _
    | with_reducible refine State.onDiepwr_frame s_State_onDiepwr ?_ _

def execBridgePkg_foot : Nat := 0x54580000000000000000000000000000000000100000000000000000000000000000000000000000000000000000000000000000000000000000000001e41e00000000000000000000000000000000000000f8080180
theorem execBridgePkg_frame (hm : Sub execBridgePkg_foot m) (h : Frame m s0 s) :
    ∀ a0 a1 a2, ∃ t, execBridgePkg a0 a1 a2 s = .next t ∧ Frame m s0 t := by
  intro a0 a1 a2
  have s_State_bridgeRx : Sub State.bridgeRx_foot m := hm.of (by decide)
  have s_State_onPkg : Sub State.onPkg_foot m := hm.of (by decide)
  unfold execBridgePkg
  refine hubOn_frame (fun s h => ?_) h
  repeat' first
    | with_reducible assumption
    | with_reducible refine Frame.ite ?_ ?_
    | with_reducible refine State.bridgeRx_frame s_State_bridgeRx (fun d s hs => ?_) ?_ _ _ _ _
    | with_reducible refine State.onPkg_frame s_State_onPkg ?_ _

def execBridgeCplate_foot : Nat := 0x54580000000000000000000000000000000000100000000000000000000000000000000000000000000004000000000000000000000000000000000001e41e00000000000000000000000000000000000000f8080180
theorem execBridgeCplate_frame (hm : Sub execBridgeCplate_foot m) (h : Frame m s0 s) :
    ∀ a0 a1 a2, ∃ t, execBridgeCplate a0 a1 a2 s = .next t ∧ Frame m s0 t := by
  intro a0 a1 a2
  have s_State_onCplate : Sub State.onCplate_foot m := hm.of (by decide)
  have s_State_bridgeRx : Sub State.bridgeRx_foot m := hm.of (by decide)
  unfold execBridgeCplate
  refine hubOn_frame (fun s h => ?_) h
  repeat' first
    | with_reducible assumption
    | with_reducible refine Frame.ite ?_ ?_
    | with_reducible refine State.onCplate_frame s_State_onCplate ?_ _
    | with_reducible refine State.bridgeRx_frame s_State_bridgeRx (fun d s hs => ?_) ?_ _ _ _ _

def execBridgeLedger_foot : Nat := 0x54580000000000000000000000000000000000100000000000000000000000000000000000000000000000000000000000000000000000000000000001e41e00000000000000000000000000000000000000f8080180
theorem execBridgeLedger_frame (hm : Sub execBridgeLedger_foot m) (h : Frame m s0 s) :
    ∀ a0 a1 a2, ∃ t, execBridgeLedger a0 a1 a2 s = .next t ∧ Frame m s0 t := by
  intro a0 a1 a2
  have s_State_onLedger : Sub State.onLedger_foot m := hm.of (by decide)
  have s_State_bridgeRx : Sub State.bridgeRx_foot m := hm.of (by decide)
  unfold execBridgeLedger
  refine hubOn_frame (fun s h => ?_) h
  repeat' first
    | with_reducible assumption
    | with_reducible refine Frame.ite ?_ ?_
    | with_reducible refine State.onLedger_frame s_State_onLedger ?_ _
    | with_reducible refine State.bridgeRx_frame s_State_bridgeRx (fun d s hs => ?_) ?_ _ _ _ _

def execBridgeSalg_foot : Nat := 0x54580005e0000000bc00000000000000000000100000000000000000000000000000000000000000000000000000000000000000000000000000000001e41e00000000000000000000000000000000000040f8080180
theorem execBridgeSalg_frame (hm : Sub execBridgeSalg_foot m) (h : Frame m s0 s) :
    ∀ a0 a1 a2, ∃ t, execBridgeSalg a0 a1 a2 s = .next t ∧ Frame m s0 t := by
  intro a0 a1 a2
  have s_State_onSalg : Sub State.onSalg_foot m := hm.of (by decide)
  have s_State_bridgeRx : Sub State.bridgeRx_foot m := hm.of (by decide)
  unfold execBridgeSalg
  refine hubOn_frame (fun s h => ?_) h
  repeat' first
    | with_reducible assumption
    | with_reducible refine Frame.ite ?_ ?_
    | with_reducible refine State.onSalg_frame s_State_onSalg ?_ _
    | with_reducible refine State.bridgeRx_frame s_State_bridgeRx (fun d s hs => ?_) ?_ _ _ _ _

def execBridgePclapReq_foot : Nat := 0x54580000000000000000000000000000000000100000000000000000000000000000000000000000000000000000000000000000000000000000000001e41e00000000000000000000000000000000000000f8080180
theorem execBridgePclapReq_frame (hm : Sub execBridgePclapReq_foot m) (h : Frame m s0 s) :
    ∀ a0 a1 a2 a3, ∃ t, execBridgePclapReq a0 a1 a2 a3 s = .next t ∧ Frame m s0 t := by
  intro a0 a1 a2 a3
  have s_State_bridgeRx : Sub State.bridgeRx_foot m := hm.of (by decide)
  have s_State_onPclapReq : Sub State.onPclapReq_foot m := hm.of (by decide)
  unfold execBridgePclapReq
  refine hubOn_frame (fun s h => ?_) h
  repeat' first
    | with_reducible assumption
    | with_reducible refine Frame.ite ?_ ?_
    | with_reducible refine State.bridgeRx_frame s_State_bridgeRx (fun d s hs => ?_) ?_ _ _ _ _
    | with_reducible refine State.onPclapReq_frame s_State_onPclapReq ?_ _ _

def execBridgePclapRsp_foot : Nat := 0x74580000000000000000000000000000000000100000000000000000000000000000000000000000000000000000000000000000000000000000000001e41e00000000000000000000000000000000000000f8080180
theorem execBridgePclapRsp_frame (hm : Sub execBridgePclapRsp_foot m) (h : Frame m s0 s) :
    ∀ a0 a1 a2 a3, ∃ t, execBridgePclapRsp a0 a1 a2 a3 s = .next t ∧ Frame m s0 t := by
  intro a0 a1 a2 a3
  have s_State_onPclapRsp : Sub State.onPclapRsp_foot m := hm.of (by decide)
  have s_State_bridgeRx : Sub State.bridgeRx_foot m := hm.of (by decide)
  unfold execBridgePclapRsp
  refine hubOn_frame (fun s h => ?_) h
  repeat' first
    | with_reducible assumption
    | with_reducible refine Frame.ite ?_ ?_
    | with_reducible refine State.onPclapRsp_frame s_State_onPclapRsp ?_ _ _
    | with_reducible refine State.bridgeRx_frame s_State_bridgeRx (fun d s hs => ?_) ?_ _ _ _ _

def execBridgeHandover_foot : Nat := 0x54580000000000000000000000000000000000100000000000000000000000000000000000000000000000000000000000000000000000000000000001e41e00000000000000000000000000000000000000f8080180
theorem execBridgeHandover_frame (hm : Sub execBridgeHandover_foot m) (h : Frame m s0 s) :
    ∀ a0 a1 a2, ∃ t, execBridgeHandover a0 a1 a2 s = .next t ∧ Frame m s0 t := by
  intro a0 a1 a2
  have s_State_onHandover : Sub State.onHandover_foot m := hm.of (by decide)
  have s_State_bridgeRx : Sub State.bridgeRx_foot m := hm.of (by decide)
  unfold execBridgeHandover
  refine hubOn_frame (fun s h => ?_) h
  repeat' first
    | with_reducible assumption
    | with_reducible refine Frame.ite ?_ ?_
    | with_reducible refine State.onHandover_frame s_State_onHandover ?_ _
    | with_reducible refine State.bridgeRx_frame s_State_bridgeRx (fun d s hs => ?_) ?_ _ _ _ _

def execBridgeRetransmit_foot : Nat := 0x800000000000000000000000000000000000000000000000000000000000000000000000000000000000000000000000000000000000000000000000000000000000000000000000000000000000000000080000080
theorem execBridgeRetransmit_frame (hm : Sub execBridgeRetransmit_foot m) (h : Frame m s0 s) :
    ∃ t, execBridgeRetransmit s = .next t ∧ Frame m s0 t := by
  have s_bridgeRetransmit : Sub bridgeRetransmit_foot m := hm.of (by decide)
  unfold execBridgeRetransmit
  refine hubOn_frame (fun s h => ?_) h
  repeat' first
    | with_reducible assumption
    | with_reducible refine Frame.ite ?_ ?_
    | with_reducible refine bridgeRetransmit_frame s_bridgeRetransmit ?_

def execBridgeCheckpointTimer_foot : Nat := 0x80000080
theorem execBridgeCheckpointTimer_frame (hm : Sub execBridgeCheckpointTimer_foot m) (h : Frame m s0 s) :
    ∃ t, execBridgeCheckpointTimer s = .next t ∧ Frame m s0 t := by
  have s_bridgeCheckpointTimer : Sub bridgeCheckpointTimer_foot m := hm.of (by decide)
  unfold execBridgeCheckpointTimer
  refine hubOn_frame (fun s h => ?_) h
  repeat' first
    | with_reducible assumption
    | with_reducible refine Frame.ite ?_ ?_
    | with_reducible refine bridgeCheckpointTimer_frame s_bridgeCheckpointTimer ?_

def execBridgeLoss_foot : Nat := 0x44580000000000000000000000000000000000100000000000000000000000000000000000000000000000000000000000000000000000000000000001e41e00000000000000000000000000000000000000f0080180
theorem execBridgeLoss_frame (hm : Sub execBridgeLoss_foot m) (h : Frame m s0 s) :
    ∃ t, execBridgeLoss s = .next t ∧ Frame m s0 t := by
  have s_bridgeLoss : Sub bridgeLoss_foot m := hm.of (by decide)
  unfold execBridgeLoss
  refine hubOn_frame (fun s h => ?_) h
  repeat' first
    | with_reducible assumption
    | with_reducible refine Frame.ite ?_ ?_
    | with_reducible refine bridgeLoss_frame s_bridgeLoss ?_

def execPairTakeover_foot : Nat := 0x43100000000000000000000000000000000000100020000000000000000000000000000000000000000000000000000000000000000000000000000000000000000000000000000000000000000000000040b8080180
theorem execPairTakeover_frame (hm : Sub execPairTakeover_foot m) (h : Frame m s0 s) :
    ∃ t, execPairTakeover s = .next t ∧ Frame m s0 t := by
  have s_pairTakeover : Sub pairTakeover_foot m := hm.of (by decide)
  unfold execPairTakeover
  refine hubOn_frame (fun s h => ?_) h
  repeat' first
    | with_reducible assumption
    | with_reducible refine Frame.ite ?_ ?_
    | with_reducible refine pairTakeover_frame s_pairTakeover ?_

def execBridgeClapSend_foot : Nat := 0x80000080
theorem execBridgeClapSend_frame (hm : Sub execBridgeClapSend_foot m) (h : Frame m s0 s) :
    ∃ t, execBridgeClapSend s = .next t ∧ Frame m s0 t := by
  have s_bridgeClapSend : Sub bridgeClapSend_foot m := hm.of (by decide)
  unfold execBridgeClapSend
  refine hubOn_frame (fun s h => ?_) h
  repeat' first
    | with_reducible assumption
    | with_reducible refine Frame.ite ?_ ?_
    | with_reducible refine bridgeClapSend_frame s_bridgeClapSend ?_

end Sys2Proof.Machine
end

