-- ==== Sys2Proof/Laws/FrameTakeOps.lean ====
section
/-!
SUPPORT. Laws/FrameTakeOps.lean: the footprint of every function of Machine/TakeOps.lean, and that it writes nothing outside it.
-/
namespace Sys2Proof.Machine

set_option linter.all false

variable {m : Nat} {s0 s : State}

def State.enterPowerUp_foot : Nat := 0x2000000000000000000000000000000000000000000000000030000000000000000000004000080
theorem State.enterPowerUp_frame (hm : Sub State.enterPowerUp_foot m) (h : Frame m s0 s) :
    Frame m s0 (State.enterPowerUp s) := by
  have s_State_powerUp : Sub State.powerUp_foot m := hm.of (by decide)
  have k_RST_SEQ_cause : Has m RST_SEQ_cause := hm.has 2 9 rfl (by decide)
  have k_RST_SEQ_stage : Has m RST_SEQ_stage := hm.has 2 8 rfl (by decide)
  unfold State.enterPowerUp
  repeat' first
    | with_reducible assumption
    | with_reducible refine Frame.ite ?_ ?_
    | with_reducible refine wr_frame (by with_reducible assumption) ?_ _ _
    | with_reducible refine State.powerUp_frame s_State_powerUp ?_

def State.nextTake_foot : Nat := 0xe00000000000000000000000000000000000000000000000
theorem State.nextTake_frame (hm : Sub State.nextTake_foot m) (h : Frame m s0 s) :
    Frame m s0 (State.nextTake s) := by
  have k_SLT_TAKE_T_instant : Has m SLT_TAKE_T_instant := hm.has 6 9 rfl (by decide)
  have k_SLT_TAKE_WRAP_wraps : Has m SLT_TAKE_WRAP_wraps := hm.has 6 8 rfl (by decide)
  have k_SLT_TAKE_take : Has m SLT_TAKE_take := hm.has 6 7 rfl (by decide)
  unfold State.nextTake
  repeat' first
    | with_reducible assumption
    | (extract_lets -underBinder +onlyGivenNames x; have u : True := (by clear_value x; guard_hyp x :ₛ State; trivial); clear u; refine Frame.cut (m := m) (s0 := s0) (t := x) ?_ ?_; (on_goal 1 => subst x); (on_goal 2 => (intro hx; clear_value x)))
    | (extract_lets -underBinder +onlyGivenNames n; first | clear_value n | subst n)
    | with_reducible refine Frame.ite ?_ ?_
    | with_reducible refine wr_frame (by with_reducible assumption) ?_ _ _
    | with_reducible refine bump_frame (by with_reducible assumption) ?_ _
    | split

def State.takeRing_foot : Nat := 0x100000000000000000000000000000000000000000000000000000000000000000000000000000000000000030000000000000000000000000000000000000a0000180
theorem State.takeRing_frame (hm : Sub State.takeRing_foot m) (h : Frame m s0 s) :
    ∀ a1 a2, Frame m s0 (State.takeRing s a1 a2) := by
  intro a1 a2
  have s_State_enableRing : Sub State.enableRing_foot m := hm.of (by decide)
  have s_State_disableRing : Sub State.disableRing_foot m := hm.of (by decide)
  have s_State_mirror : Sub State.mirror_foot m := hm.of (by decide)
  have c_hif : m.testBit 29 = true := hm.bit 29 (by decide)
  unfold State.takeRing
  repeat' first
    | with_reducible assumption
    | (extract_lets -underBinder +onlyGivenNames x; have u : True := (by clear_value x; guard_hyp x :ₛ State; trivial); clear u; refine Frame.cut (m := m) (s0 := s0) (t := x) ?_ ?_; (on_goal 1 => subst x); (on_goal 2 => (intro hx; clear_value x)))
    | (extract_lets -underBinder +onlyGivenNames n; first | clear_value n | subst n)
    | with_reducible refine Frame.ite ?_ ?_
    | with_reducible refine State.enableRing_frame s_State_enableRing ?_ _
    | with_reducible refine State.disableRing_frame s_State_disableRing ?_ _
    | with_reducible refine State.mirror_frame s_State_mirror ?_ _ _ _
    | with_reducible exact Frame.set_hif c_hif (by with_reducible assumption)
    | split

def State.keepOld_foot : Nat := 0x20000
theorem State.keepOld_frame (hm : Sub State.keepOld_foot m) (h : Frame m s0 s) :
    ∀ a1, Frame m s0 (State.keepOld s a1) := by
  intro a1
  have c_sns : m.testBit 17 = true := hm.bit 17 (by decide)
  unfold State.keepOld
  repeat' first
    | with_reducible assumption
    | (extract_lets -underBinder +onlyGivenNames x; have u : True := (by clear_value x; guard_hyp x :ₛ State; trivial); clear u; refine Frame.cut (m := m) (s0 := s0) (t := x) ?_ ?_; (on_goal 1 => subst x); (on_goal 2 => (intro hx; clear_value x)))
    | (extract_lets -underBinder +onlyGivenNames n; first | clear_value n | subst n)
    | with_reducible refine Frame.ite ?_ ?_
    | with_reducible exact Frame.set_sns c_sns (by with_reducible assumption)
    | with_reducible refine Frame.foldl ?_ (fun s x hs => ?_)
    | split

def State.takeWord_foot : Nat := 0x30007f67800f0ffff0303fffe46000c6000000000c050f8ef1fe0f80180000832201ff8001fff3ffffc0600780fffc1e01fffe7fff301f827087a80803c000180700001f1f800e0e00081e00200000000000000020000
theorem State.takeWord_frame (hm : Sub State.takeWord_foot m) (h : Frame m s0 s) :
    ∀ a1 a2, Frame m s0 (State.takeWord s a1 a2) := by
  intro a1 a2
  have s_State_keepOld : Sub State.keepOld_foot m := hm.of (by decide)
  have s_State_writeRwt : Sub State.writeRwt_foot m := hm.of (by decide)
  have c_sns : m.testBit 17 = true := hm.bit 17 (by decide)
  unfold State.takeWord
  repeat' first
    | with_reducible assumption
    | (extract_lets -underBinder +onlyGivenNames x; have u : True := (by clear_value x; guard_hyp x :ₛ State; trivial); clear u; refine Frame.cut (m := m) (s0 := s0) (t := x) ?_ ?_; (on_goal 1 => subst x); (on_goal 2 => (intro hx; clear_value x)))
    | (extract_lets -underBinder +onlyGivenNames n; first | clear_value n | subst n)
    | with_reducible refine Frame.ite ?_ ?_
    | with_reducible refine State.keepOld_frame s_State_keepOld ?_ _
    | with_reducible refine State.writeRwt_frame s_State_writeRwt ?_ _ _
    | with_reducible exact Frame.set_sns c_sns (by with_reducible assumption)
    | split

def State.fcsTaken_foot : Nat := 0x1000000000000000003f000188000000000000000000000000000000000000000000000000000000000000000000000000000000000000000000000000000000040500
theorem State.fcsTaken_frame (hm : Sub State.fcsTaken_foot m) (h : Frame m s0 s) :
    ∀ a1, Frame m s0 (State.fcsTaken s a1) := by
  intro a1
  have s_State_setFc : Sub State.setFc_foot m := hm.of (by decide)
  have s_State_moveFallback : Sub State.moveFallback_foot m := hm.of (by decide)
  have s_State_formFF : Sub State.formFF_foot m := hm.of (by decide)
  unfold State.fcsTaken
  repeat' first
    | with_reducible assumption
    | (extract_lets -underBinder +onlyGivenNames x; have u : True := (by clear_value x; guard_hyp x :ₛ State; trivial); clear u; refine Frame.cut (m := m) (s0 := s0) (t := x) ?_ ?_; (on_goal 1 => subst x); (on_goal 2 => (intro hx; clear_value x)))
    | (extract_lets -underBinder +onlyGivenNames n; first | clear_value n | subst n)
    | with_reducible refine Frame.ite ?_ ?_
    | with_reducible refine State.setFc_frame s_State_setFc ?_ _ _
    | with_reducible refine State.moveFallback_frame s_State_moveFallback ?_ _ _ _
    | with_reducible refine State.formFF_frame s_State_formFF ?_
    | with_reducible refine Frame.foldTo ?_ (fun s x hs => ?_)
    | split

def State.vrcTaken_foot : Nat := 0x100000000000000000000000000000808000100000000000000000000000000000000000000000000000002000020800000000048600180000000000000000000000000000000300000000000000000001af001180
theorem State.vrcTaken_frame (hm : Sub State.vrcTaken_foot m) (h : Frame m s0 s) :
    ∀ a1 a2 a3, Frame m s0 (State.vrcTaken s a1 a2 a3) := by
  intro a1 a2 a3
  have s_State_checkReached : Sub State.checkReached_foot m := hm.of (by decide)
  have s_State_pmbSettle : Sub State.pmbSettle_foot m := hm.of (by decide)
  have s_State_trackTaken : Sub State.trackTaken_foot m := hm.of (by decide)
  have s_State_vrcStart : Sub State.vrcStart_foot m := hm.of (by decide)
  have s_State_vrcStop : Sub State.vrcStop_foot m := hm.of (by decide)
  have c_vrc : m.testBit 25 = true := hm.bit 25 (by decide)
  unfold State.vrcTaken
  repeat' first
    | with_reducible assumption
    | (extract_lets -underBinder +onlyGivenNames x; have u : True := (by clear_value x; guard_hyp x :ₛ State; trivial); clear u; refine Frame.cut (m := m) (s0 := s0) (t := x) ?_ ?_; (on_goal 1 => subst x); (on_goal 2 => (intro hx; clear_value x)))
    | (extract_lets -underBinder +onlyGivenNames n; first | clear_value n | subst n)
    | with_reducible refine Frame.ite ?_ ?_
    | with_reducible refine State.checkReached_frame s_State_checkReached ?_
    | with_reducible refine State.pmbSettle_frame s_State_pmbSettle ?_
    | with_reducible refine State.trackTaken_frame s_State_trackTaken ?_
    | with_reducible refine State.vrcStart_frame s_State_vrcStart ?_
    | with_reducible refine State.vrcStop_frame s_State_vrcStop ?_
    | with_reducible exact Frame.set_vrc c_vrc (by with_reducible assumption)
    | split

def State.pmbTaken_foot : Nat := 0x200000000000000000000000000000000000000000000000000000000000000000000000000004000080
theorem State.pmbTaken_frame (hm : Sub State.pmbTaken_foot m) (h : Frame m s0 s) :
    ∀ a1, Frame m s0 (State.pmbTaken s a1) := by
  intro a1
  have s_State_railTargetTaken : Sub State.railTargetTaken_foot m := hm.of (by decide)
  have s_State_setRail : Sub State.setRail_foot m := hm.of (by decide)
  have s_State_askAra : Sub State.askAra_foot m := hm.of (by decide)
  unfold State.pmbTaken
  repeat' first
    | with_reducible assumption
    | (extract_lets -underBinder +onlyGivenNames x; have u : True := (by clear_value x; guard_hyp x :ₛ State; trivial); clear u; refine Frame.cut (m := m) (s0 := s0) (t := x) ?_ ?_; (on_goal 1 => subst x); (on_goal 2 => (intro hx; clear_value x)))
    | (extract_lets -underBinder +onlyGivenNames n; first | clear_value n | subst n)
    | with_reducible refine Frame.ite ?_ ?_
    | with_reducible refine State.railTargetTaken_frame s_State_railTargetTaken ?_ _
    | with_reducible refine State.setRail_frame s_State_setRail ?_ _ _
    | with_reducible refine State.askAra_frame s_State_askAra ?_
    | with_reducible refine Frame.foldTo ?_ (fun s x hs => ?_)
    | split

def State.thmTaken_foot : Nat := 0x10000000000000000000000000000001000000000000208080000000000000000000000000000040000000000000000000000000000000000000000000000010080100
theorem State.thmTaken_frame (hm : Sub State.thmTaken_foot m) (h : Frame m s0 s) :
    ∀ a1 a2, Frame m s0 (State.thmTaken s a1 a2) := by
  intro a1 a2
  have s_State_thmRunTaken : Sub State.thmRunTaken_foot m := hm.of (by decide)
  have s_State_ancRearm : Sub State.ancRearm_foot m := hm.of (by decide)
  have s_State_seedSp : Sub State.seedSp_foot m := hm.of (by decide)
  unfold State.thmTaken
  repeat' first
    | with_reducible assumption
    | (extract_lets -underBinder +onlyGivenNames x; have u : True := (by clear_value x; guard_hyp x :ₛ State; trivial); clear u; refine Frame.cut (m := m) (s0 := s0) (t := x) ?_ ?_; (on_goal 1 => subst x); (on_goal 2 => (intro hx; clear_value x)))
    | (extract_lets -underBinder +onlyGivenNames n; first | clear_value n | subst n)
    | with_reducible refine Frame.ite ?_ ?_
    | with_reducible refine State.thmRunTaken_frame s_State_thmRunTaken ?_
    | with_reducible refine State.ancRearm_frame s_State_ancRearm ?_
    | with_reducible refine State.seedSp_frame s_State_seedSp ?_ _ _
    | with_reducible refine Frame.foldTo ?_ (fun s x hs => ?_)
    | split

def State.gateUnit_foot : Nat := 0x40000000000f00003c0000000000000000000010002000000000000000000000000000000000c0000000000000000000000000000000000000000000000000000000000000000000000000000000f41400729c1c01a0
theorem State.gateUnit_frame (hm : Sub State.gateUnit_foot m) {a1 : Nat} (hu : a1 ∈ [10, 12, 18, 20, 21, 22, 23]) (h : Frame m s0 s) :
    Frame m s0 (State.gateUnit s a1) := by
  have s_State_setPmb : Sub State.setPmb_foot m := hm.of (by decide)
  have s_State_mgtDetach : Sub State.mgtDetach_foot m := hm.of (by decide)
  have s_State_setTrc : Sub State.setTrc_foot m := hm.of (by decide)
  have s_State_setMgt : Sub State.setMgt_foot m := hm.of (by decide)
  have s_State_clearBank : Sub State.clearBank_foot m := hm.of (by decide)
  have s_State_emit : Sub State.emit_foot m := hm.of (by decide)
  have k_THM_SET_ID_ident : Has m THM_SET_ID_ident := hm.has 11 44 rfl (by decide)
  have k_THM_SET_PER_period : Has m THM_SET_PER_period := hm.has 11 45 rfl (by decide)
  have c_fans : m.testBit 37 = true := hm.bit 37 (by decide)
  have c_fcs : m.testBit 18 = true := hm.bit 18 (by decide)
  have c_hub : m.testBit 36 = true := hm.bit 36 (by decide)
  have c_smb : m.testBit 33 = true := hm.bit 33 (by decide)
  have hb : m.testBit (40 + a1) = true ∧ a1 < 24 := by
    fin_cases hu <;> exact ⟨hm.bit _ (by decide), by decide⟩
  have kr : ∀ s, Frame m s0 s → Frame m s0 (s.resetRegs a1) := fun s h => State.resetRegs_frame hb.1 hb.2 h
  unfold State.gateUnit
  repeat' first
    | with_reducible assumption
    | (extract_lets -underBinder +onlyGivenNames x; have u : True := (by clear_value x; guard_hyp x :ₛ State; trivial); clear u; refine Frame.cut (m := m) (s0 := s0) (t := x) ?_ ?_; (on_goal 1 => subst x); (on_goal 2 => (intro hx; clear_value x)))
    | (extract_lets -underBinder +onlyGivenNames n; first | clear_value n | subst n)
    | with_reducible refine kr _ ?_
    | with_reducible refine Frame.ite ?_ ?_
    | with_reducible refine wr_frame (by with_reducible assumption) ?_ _ _
    | with_reducible refine State.setPmb_frame s_State_setPmb ?_ _
    | with_reducible refine State.mgtDetach_frame s_State_mgtDetach ?_
    | with_reducible refine State.setTrc_frame s_State_setTrc ?_ _
    | with_reducible refine State.setMgt_frame s_State_setMgt ?_ _
    | with_reducible refine State.clearBank_frame s_State_clearBank ?_ _
    | with_reducible refine State.emit_frame s_State_emit ?_ _ _ _
    | with_reducible exact Frame.set_fans c_fans (by with_reducible assumption)
    | with_reducible exact Frame.set_fcs c_fcs (by with_reducible assumption)
    | with_reducible exact Frame.set_hub c_hub (by with_reducible assumption)
    | with_reducible exact Frame.set_smb c_smb (by with_reducible assumption)
    | with_reducible refine Frame.foldTo ?_ (fun s x hs => ?_)
    | split

def State.wakeUnit_foot : Nat := 0x1000000000000000003f00018c000000000000000000000000000000000000000000000000000000000000000000000000000002000000000000000000000000044500
theorem State.wakeUnit_frame (hm : Sub State.wakeUnit_foot m) (h : Frame m s0 s) :
    ∀ a1, Frame m s0 (State.wakeUnit s a1) := by
  intro a1
  have s_State_setLn : Sub State.setLn_foot m := hm.of (by decide)
  have k_MEM_STAT_clearing : Has m MEM_STAT_clearing := hm.has 3 1 rfl (by decide)
  unfold State.wakeUnit
  repeat' first
    | with_reducible assumption
    | (extract_lets -underBinder +onlyGivenNames x; have u : True := (by clear_value x; guard_hyp x :ₛ State; trivial); clear u; refine Frame.cut (m := m) (s0 := s0) (t := x) ?_ ?_; (on_goal 1 => subst x); (on_goal 2 => (intro hx; clear_value x)))
    | (extract_lets -underBinder +onlyGivenNames n; first | clear_value n | subst n)
    | with_reducible refine Frame.ite ?_ ?_
    | with_reducible refine wr_frame (by with_reducible assumption) ?_ _ _
    | with_reducible refine State.setLn_frame s_State_setLn ?_ _ _
    | with_reducible refine Frame.foldTo ?_ (fun s x hs => ?_)
    | split

def State.gating_foot : Nat := 0x40000000000f00003c000000000000000000001000200000000000003f00018c000000000000c0000000000000000000000000000000000000000000000000000000000000000200000000000000f41400729c1c45a0
theorem State.gating_frame (hm : Sub State.gating_foot m) (h : Frame m s0 s) :
    ∀ a1 a2, Frame m s0 (State.gating s a1 a2) := by
  intro a1 a2
  have s_State_gateUnit : Sub State.gateUnit_foot m := hm.of (by decide)
  have s_State_wakeUnit : Sub State.wakeUnit_foot m := hm.of (by decide)
  have hw : ∀ u, u ∈ clkWritable s.isD → u ∈ [10, 12, 18, 20, 21, 22, 23] := by
    intro u hu
    unfold clkWritable at hu
    split at hu <;> fin_cases hu <;> decide
  unfold State.gating
  refine Frame.foldlMem h fun s u hu hs => ?_
  refine Frame.ite (State.gateUnit_frame s_State_gateUnit (hw u hu) hs) (Frame.ite (State.wakeUnit_frame s_State_wakeUnit hs _) hs)

def State.tlyTaken_foot : Nat := 0x201e000400000000000000000000000000000000000000000000000000000000000000000000000000000000000000000000000000000000000000008000
theorem State.tlyTaken_frame (hm : Sub State.tlyTaken_foot m) (h : Frame m s0 s) :
    ∀ a1, Frame m s0 (State.tlyTaken s a1) := by
  intro a1
  have s_State_clampPool : Sub State.clampPool_foot m := hm.of (by decide)
  have s_State_refreshPool : Sub State.refreshPool_foot m := hm.of (by decide)
  unfold State.tlyTaken
  repeat' first
    | with_reducible assumption
    | with_reducible refine Frame.ite ?_ ?_
    | with_reducible refine State.clampPool_frame s_State_clampPool ?_ _
    | with_reducible refine State.refreshPool_frame s_State_refreshPool ?_ _
    | with_reducible refine Frame.foldTo ?_ (fun s x hs => ?_)
    | split

def State.hifTaken_foot : Nat := 0x10000000000000000000000000000000000000000000000000000000000000000000000000000000000000003000000000000000000000000000000000000020000180
theorem State.hifTaken_frame (hm : Sub State.hifTaken_foot m) (h : Frame m s0 s) :
    Frame m s0 (State.hifTaken s) := by
  have s_State_tryFetch : Sub State.tryFetch_foot m := hm.of (by decide)
  have s_State_quarCheck : Sub State.quarCheck_foot m := hm.of (by decide)
  unfold State.hifTaken
  repeat' first
    | with_reducible assumption
    | (extract_lets -underBinder +onlyGivenNames x; have u : True := (by clear_value x; guard_hyp x :ₛ State; trivial); clear u; refine Frame.cut (m := m) (s0 := s0) (t := x) ?_ ?_; (on_goal 1 => subst x); (on_goal 2 => (intro hx; clear_value x)))
    | (extract_lets -underBinder +onlyGivenNames n; first | clear_value n | subst n)
    | with_reducible refine Frame.ite ?_ ?_
    | with_reducible refine State.tryFetch_frame s_State_tryFetch ?_ _
    | with_reducible refine State.quarCheck_frame s_State_quarCheck ?_ _
    | with_reducible refine Frame.foldl ?_ (fun s x hs => ?_)
    | with_reducible refine Frame.foldTo ?_ (fun s x hs => ?_)

def State.startTriggers_foot : Nat := 0x1000000000000000000000000000000000000000000000000000000200000000000000000000000000000000000000000000000003000000000000000000080c000180
theorem State.startTriggers_frame (hm : Sub State.startTriggers_foot m) (h : Frame m s0 s) :
    ∀ a1 a2, Frame m s0 (State.startTriggers s a1 a2) := by
  intro a1 a2
  have s_State_enterPowerUp : Sub State.enterPowerUp_foot m := hm.of (by decide)
  have s_State_haltPowerUp : Sub State.haltPowerUp_foot m := hm.of (by decide)
  have s_State_emit : Sub State.emit_foot m := hm.of (by decide)
  have k_RST_SEQ_stage : Has m RST_SEQ_stage := hm.has 2 8 rfl (by decide)
  have c_rst : m.testBit 35 = true := hm.bit 35 (by decide)
  unfold State.startTriggers
  repeat' first
    | with_reducible assumption
    | (extract_lets -underBinder +onlyGivenNames x; have u : True := (by clear_value x; guard_hyp x :ₛ State; trivial); clear u; refine Frame.cut (m := m) (s0 := s0) (t := x) ?_ ?_; (on_goal 1 => subst x); (on_goal 2 => (intro hx; clear_value x)))
    | (extract_lets -underBinder +onlyGivenNames n; first | clear_value n | subst n)
    | with_reducible refine Frame.ite ?_ ?_
    | with_reducible refine wr_frame (by with_reducible assumption) ?_ _ _
    | with_reducible refine State.enterPowerUp_frame s_State_enterPowerUp ?_
    | with_reducible refine State.haltPowerUp_frame s_State_haltPowerUp ?_
    | with_reducible refine State.emit_frame s_State_emit ?_ _ _ _
    | with_reducible exact Frame.set_rst c_rst (by with_reducible assumption)
    | split

def State.snsTaken_foot : Nat := 0x700000000010000000000000000000000000000000000000000000008000000000000000000000000018300003008000000000000000000000000028000000000000000010923500
theorem State.snsTaken_frame (hm : Sub State.snsTaken_foot m) (h : Frame m s0 s) :
    ∀ a1, Frame m s0 (State.snsTaken s a1) := by
  intro a1
  have s_State_anchorsOff : Sub State.anchorsOff_foot m := hm.of (by decide)
  have s_State_newCmp : Sub State.newCmp_foot m := hm.of (by decide)
  have s_State_missLane : Sub State.missLane_foot m := hm.of (by decide)
  have s_State_toHunt : Sub State.toHunt_foot m := hm.of (by decide)
  have k_SNS_TLM_STAT_state : Has m SNS_TLM_STAT_state := hm.has 7 6 rfl (by decide)
  unfold State.snsTaken
  repeat' first
    | with_reducible assumption
    | (extract_lets -underBinder +onlyGivenNames x; have u : True := (by clear_value x; guard_hyp x :ₛ State; trivial); clear u; refine Frame.cut (m := m) (s0 := s0) (t := x) ?_ ?_; (on_goal 1 => subst x); (on_goal 2 => (intro hx; clear_value x)))
    | (extract_lets -underBinder +onlyGivenNames n; first | clear_value n | subst n)
    | with_reducible refine Frame.ite ?_ ?_
    | with_reducible refine wr_frame (by with_reducible assumption) ?_ _ _
    | with_reducible refine State.anchorsOff_frame s_State_anchorsOff ?_
    | with_reducible refine State.newCmp_frame s_State_newCmp ?_ _ _ _ _
    | with_reducible refine State.missLane_frame s_State_missLane ?_ _
    | with_reducible refine State.toHunt_frame s_State_toHunt ?_ _
    | with_reducible refine Frame.foldTo ?_ (fun s x hs => ?_)
    | split

def State.unitsTaken_foot : Nat := 0x40180004800f0000bc400000003070008080001000200000201e00043f00018c400001000000c00000208080200002080000000004860018318043008000003000001a0000000203002c00000000f414007fbfdff5a0
theorem State.unitsTaken_frame (hm : Sub State.unitsTaken_foot m) (h : Frame m s0 s) :
    ∀ a1 a2 a3, Frame m s0 (State.unitsTaken s a1 a2 a3) := by
  intro a1 a2 a3
  have s_State_fbRelease : Sub State.fbRelease_foot m := hm.of (by decide)
  have s_State_fcsTaken : Sub State.fcsTaken_foot m := hm.of (by decide)
  have s_State_vrcTaken : Sub State.vrcTaken_foot m := hm.of (by decide)
  have s_State_fwRestart : Sub State.fwRestart_foot m := hm.of (by decide)
  have s_State_pmbTaken : Sub State.pmbTaken_foot m := hm.of (by decide)
  have s_State_thmTaken : Sub State.thmTaken_foot m := hm.of (by decide)
  have s_State_fanTaken : Sub State.fanTaken_foot m := hm.of (by decide)
  have s_State_parSole : Sub State.parSole_foot m := hm.of (by decide)
  have s_State_refreshBudget : Sub State.refreshBudget_foot m := hm.of (by decide)
  have s_State_gating : Sub State.gating_foot m := hm.of (by decide)
  have s_State_tlyTaken : Sub State.tlyTaken_foot m := hm.of (by decide)
  have s_State_hifTaken : Sub State.hifTaken_foot m := hm.of (by decide)
  have s_State_parHandover : Sub State.parHandover_foot m := hm.of (by decide)
  have s_State_refreshChokers : Sub State.refreshChokers_foot m := hm.of (by decide)
  have s_State_mgtTaken : Sub State.mgtTaken_foot m := hm.of (by decide)
  have s_State_fbHoldoffTaken : Sub State.fbHoldoffTaken_foot m := hm.of (by decide)
  have s_State_startTriggers : Sub State.startTriggers_foot m := hm.of (by decide)
  have s_State_mirrorCap : Sub State.mirrorCap_foot m := hm.of (by decide)
  have s_State_dvfsTaken : Sub State.dvfsTaken_foot m := hm.of (by decide)
  have s_State_mirrorMgt : Sub State.mirrorMgt_foot m := hm.of (by decide)
  have s_State_snsTaken : Sub State.snsTaken_foot m := hm.of (by decide)
  unfold State.unitsTaken
  repeat' first
    | with_reducible assumption
    | (extract_lets -underBinder +onlyGivenNames x; have u : True := (by clear_value x; guard_hyp x :ₛ State; trivial); clear u; refine Frame.cut (m := m) (s0 := s0) (t := x) ?_ ?_; (on_goal 1 => subst x); (on_goal 2 => (intro hx; clear_value x)))
    | (extract_lets -underBinder +onlyGivenNames n; first | clear_value n | subst n)
    | with_reducible refine Frame.ite ?_ ?_
    | with_reducible refine State.fbRelease_frame s_State_fbRelease ?_
    | with_reducible refine State.fcsTaken_frame s_State_fcsTaken ?_ _
    | with_reducible refine State.vrcTaken_frame s_State_vrcTaken ?_ _ _ _
    | with_reducible refine State.fwRestart_frame s_State_fwRestart ?_ _ _
    | with_reducible refine State.pmbTaken_frame s_State_pmbTaken ?_ _
    | with_reducible refine State.thmTaken_frame s_State_thmTaken ?_ _ _
    | with_reducible refine State.fanTaken_frame s_State_fanTaken ?_ _ _ _
    | with_reducible refine State.parSole_frame s_State_parSole ?_
    | with_reducible refine State.refreshBudget_frame s_State_refreshBudget ?_
    | with_reducible refine State.gating_frame s_State_gating ?_ _ _
    | with_reducible refine State.tlyTaken_frame s_State_tlyTaken ?_ _
    | with_reducible refine State.hifTaken_frame s_State_hifTaken ?_
    | with_reducible refine State.parHandover_frame s_State_parHandover ?_
    | with_reducible refine State.refreshChokers_frame s_State_refreshChokers ?_ _
    | with_reducible refine State.mgtTaken_frame s_State_mgtTaken ?_ _ _ _ _ _
    | with_reducible refine State.fbHoldoffTaken_frame s_State_fbHoldoffTaken ?_
    | with_reducible refine State.startTriggers_frame s_State_startTriggers ?_ _ _
    | with_reducible refine State.mirrorCap_frame s_State_mirrorCap ?_
    | with_reducible refine State.dvfsTaken_frame s_State_dvfsTaken ?_
    | with_reducible refine State.mirrorMgt_frame s_State_mirrorMgt ?_
    | with_reducible refine State.snsTaken_frame s_State_snsTaken ?_ _
    | with_reducible refine Frame.onlyIf ?_ (fun s hs => ?_)
    | with_reducible refine Frame.foldTo ?_ (fun s x hs => ?_)
    | split

def State.applyShadow_foot : Nat := 0x3401ff67c80ffffffbf43fffe46307c6080800010c070f8ef3ffef805bfc019be601ff9001ffffffffc2680f82fffc3e81fffe7fff787f83f39fac380bc0001b070001bf1f800e2e300ade0020000f414007fbfdff5a0
theorem State.applyShadow_frame (hm : Sub State.applyShadow_foot m) (h : Frame m s0 s) :
    ∀ a1, Frame m s0 (State.applyShadow s a1) := by
  intro a1
  have s_State_setThm : Sub State.setThm_foot m := hm.of (by decide)
  have s_State_takeRing : Sub State.takeRing_foot m := hm.of (by decide)
  have s_State_takeWord : Sub State.takeWord_foot m := hm.of (by decide)
  have s_State_takeCtx : Sub State.takeCtx_foot m := hm.of (by decide)
  have s_State_showBudget : Sub State.showBudget_foot m := hm.of (by decide)
  have s_State_clearTriggers : Sub State.clearTriggers_foot m := hm.of (by decide)
  have s_State_unitsTaken : Sub State.unitsTaken_foot m := hm.of (by decide)
  have s_State_refreshChokers : Sub State.refreshChokers_foot m := hm.of (by decide)
  unfold State.applyShadow
  repeat' first
    | with_reducible assumption
    | (extract_lets -underBinder +onlyGivenNames x; have u : True := (by clear_value x; guard_hyp x :ₛ State; trivial); clear u; refine Frame.cut (m := m) (s0 := s0) (t := x) ?_ ?_; (on_goal 1 => subst x); (on_goal 2 => (intro hx; clear_value x)))
    | (extract_lets -underBinder +onlyGivenNames n; first | clear_value n | subst n)
    | with_reducible refine Frame.ite ?_ ?_
    | with_reducible refine State.setThm_frame s_State_setThm ?_ _
    | with_reducible refine State.takeRing_frame s_State_takeRing ?_ _ _
    | with_reducible refine State.takeWord_frame s_State_takeWord ?_ _ _
    | with_reducible refine State.takeCtx_frame s_State_takeCtx ?_ _ _
    | with_reducible refine State.showBudget_frame s_State_showBudget ?_
    | with_reducible refine State.clearTriggers_frame s_State_clearTriggers ?_
    | with_reducible refine State.unitsTaken_frame s_State_unitsTaken ?_ _ _ _
    | with_reducible refine State.refreshChokers_frame s_State_refreshChokers ?_ _
    | with_reducible refine Frame.foldl ?_ (fun s x hs => ?_)
    | split

end Sys2Proof.Machine
end

