-- ==== Sys2Proof/Laws/FrameTake.lean ====
section
/-!
SUPPORT. Laws/FrameTake.lean: the footprint of every function of Machine/Take.lean, and that it writes nothing outside it.
-/
namespace Sys2Proof.Machine

set_option linter.all false

variable {m : Nat} {s0 s : State}

def State.refuseSlate_foot : Nat := 0x10000000000000000000000000000000000000000000000000000000000000000000000000000000000000000000000000000000000000000000000000000000000100
theorem State.refuseSlate_frame (hm : Sub State.refuseSlate_foot m) (h : Frame m s0 s) :
    ∀ a1 a2 a3, Frame m s0 (State.refuseSlate s a1 a2 a3) := by
  intro a1 a2 a3
  have s_State_emit : Sub State.emit_foot m := hm.of (by decide)
  unfold State.refuseSlate
  repeat' first
    | with_reducible assumption
    | with_reducible refine Frame.ite ?_ ?_
    | with_reducible refine State.emit_frame s_State_emit ?_ _ _ _

def State.setJobs_foot : Nat := 0x1e01e0000000000000000000000000000000000000040000000
theorem State.setJobs_frame (hm : Sub State.setJobs_foot m) (h : Frame m s0 s) :
    ∀ a1, Frame m s0 (State.setJobs s a1) := by
  intro a1
  have s_State_showSlates : Sub State.showSlates_foot m := hm.of (by decide)
  have s_State_setSlt : Sub State.setSlt_foot m := hm.of (by decide)
  unfold State.setJobs
  repeat' first
    | with_reducible assumption
    | (extract_lets -underBinder +onlyGivenNames x; have u : True := (by clear_value x; guard_hyp x :ₛ State; trivial); clear u; refine Frame.cut (m := m) (s0 := s0) (t := x) ?_ ?_; (on_goal 1 => subst x); (on_goal 2 => (intro hx; clear_value x)))
    | (extract_lets -underBinder +onlyGivenNames n; first | clear_value n | subst n)
    | with_reducible refine Frame.ite ?_ ?_
    | with_reducible refine State.showSlates_frame s_State_showSlates ?_
    | with_reducible refine State.setSlt_frame s_State_setSlt ?_ _

def State.putTake_foot : Nat := 0x1e01e0000000000000000000000000000000000000040000000
theorem State.putTake_frame (hm : Sub State.putTake_foot m) (h : Frame m s0 s) :
    ∀ a1 a2, Frame m s0 (State.putTake s a1 a2) := by
  intro a1 a2
  have s_State_setJobs : Sub State.setJobs_foot m := hm.of (by decide)
  unfold State.putTake
  repeat' first
    | with_reducible assumption
    | with_reducible refine Frame.ite ?_ ?_
    | with_reducible refine State.setJobs_frame s_State_setJobs ?_ _
    | split

def State.dropTake_foot : Nat := 0x1e01e0000000000000000000000000000000000000040000000
theorem State.dropTake_frame (hm : Sub State.dropTake_foot m) (h : Frame m s0 s) :
    ∀ a1, Frame m s0 (State.dropTake s a1) := by
  intro a1
  have s_State_setJobs : Sub State.setJobs_foot m := hm.of (by decide)
  unfold State.dropTake
  repeat' first
    | with_reducible assumption
    | with_reducible refine Frame.ite ?_ ?_
    | with_reducible refine State.setJobs_frame s_State_setJobs ?_ _

def State.endTake_foot : Nat := 0xa0000080
theorem State.endTake_frame (hm : Sub State.endTake_foot m) (h : Frame m s0 s) :
    ∀ a1 a2 a3, Frame m s0 (State.endTake s a1 a2 a3) := by
  intro a1 a2 a3
  have s_State_complete : Sub State.complete_foot m := hm.of (by decide)
  unfold State.endTake
  repeat' first
    | with_reducible assumption
    | with_reducible refine Frame.ite ?_ ?_
    | with_reducible refine State.complete_frame s_State_complete ?_ _ _ _
    | split

def State.slateTo_foot : Nat := 0x1e01e00000000000000000000000000000000000000c0000080
theorem State.slateTo_frame (hm : Sub State.slateTo_foot m) (h : Frame m s0 s) :
    ∀ a1 a2, Frame m s0 (State.slateTo s a1 a2) := by
  intro a1 a2
  have s_State_setSlate : Sub State.setSlate_foot m := hm.of (by decide)
  unfold State.slateTo
  repeat' first
    | with_reducible assumption
    | (extract_lets -underBinder +onlyGivenNames x; have u : True := (by clear_value x; guard_hyp x :ₛ State; trivial); clear u; refine Frame.cut (m := m) (s0 := s0) (t := x) ?_ ?_; (on_goal 1 => subst x); (on_goal 2 => (intro hx; clear_value x)))
    | (extract_lets -underBinder +onlyGivenNames n; first | clear_value n | subst n)
    | with_reducible refine Frame.ite ?_ ?_
    | with_reducible refine State.setSlate_frame s_State_setSlate ?_ _ _

def slateCheck_foot : Nat := 0x100000000000000000000000000000000000000000000000000000000000000000000000000000000000000000000000000000000000000000000000000000a0000180
theorem slateCheck_frame (hm : Sub slateCheck_foot m) (h : Frame m s0 s) :
    ∀ a0, Frame m s0 (slateCheck a0 s) := by
  intro a0
  have s_State_complete : Sub State.complete_foot m := hm.of (by decide)
  have s_State_refuseSlate : Sub State.refuseSlate_foot m := hm.of (by decide)
  unfold slateCheck
  repeat' first
    | with_reducible assumption
    | with_reducible refine Frame.ite ?_ ?_
    | with_reducible refine State.complete_frame s_State_complete ?_ _ _ _
    | with_reducible refine State.refuseSlate_frame s_State_refuseSlate ?_ _ _ _
    | split

def takeRow_foot : Nat := 0x100000000000000000000000000000000000000000000000000000000000000000000000000000000001e01e00000000000000000000000000000000000000e0000180
theorem takeRow_frame (hm : Sub takeRow_foot m) (h : Frame m s0 s) :
    ∀ a0, Frame m s0 (takeRow a0 s) := by
  intro a0
  have s_State_slateTo : Sub State.slateTo_foot m := hm.of (by decide)
  have s_State_complete : Sub State.complete_foot m := hm.of (by decide)
  have s_State_refuseSlate : Sub State.refuseSlate_foot m := hm.of (by decide)
  have s_State_setJobs : Sub State.setJobs_foot m := hm.of (by decide)
  unfold takeRow
  repeat' first
    | with_reducible assumption
    | (extract_lets -underBinder +onlyGivenNames x; have u : True := (by clear_value x; guard_hyp x :ₛ State; trivial); clear u; refine Frame.cut (m := m) (s0 := s0) (t := x) ?_ ?_; (on_goal 1 => subst x); (on_goal 2 => (intro hx; clear_value x)))
    | (extract_lets -underBinder +onlyGivenNames n; first | clear_value n | subst n)
    | with_reducible refine Frame.ite ?_ ?_
    | with_reducible refine State.slateTo_frame s_State_slateTo ?_ _ _
    | with_reducible refine State.complete_frame s_State_complete ?_ _ _ _
    | with_reducible refine State.refuseSlate_frame s_State_refuseSlate ?_ _ _ _
    | with_reducible refine State.setJobs_frame s_State_setJobs ?_ _
    | split

def State.sendPrepare_foot : Nat := 0x80000080
theorem State.sendPrepare_frame (hm : Sub State.sendPrepare_foot m) (h : Frame m s0 s) :
    ∀ a1, Frame m s0 (State.sendPrepare s a1) := by
  intro a1
  have s_State_bridgeSend : Sub State.bridgeSend_foot m := hm.of (by decide)
  unfold State.sendPrepare
  repeat' first
    | with_reducible assumption
    | (extract_lets -underBinder +onlyGivenNames x; have u : True := (by clear_value x; guard_hyp x :ₛ State; trivial); clear u; refine Frame.cut (m := m) (s0 := s0) (t := x) ?_ ?_; (on_goal 1 => subst x); (on_goal 2 => (intro hx; clear_value x)))
    | (extract_lets -underBinder +onlyGivenNames n; first | clear_value n | subst n)
    | with_reducible refine Frame.ite ?_ ?_
    | with_reducible refine State.bridgeSend_frame s_State_bridgeSend ?_ _ _
    | with_reducible refine Frame.foldl ?_ (fun s x hs => ?_)

def State.takePast_foot : Nat := 0x100000000000000000000000000000000000000000000000000000000000000000000000000000000001f01e00000000000000000000000000000000000000e0000180
theorem State.takePast_frame (hm : Sub State.takePast_foot m) (h : Frame m s0 s) :
    ∀ a1 a2, Frame m s0 (State.takePast s a1 a2) := by
  intro a1 a2
  have s_State_slateTo : Sub State.slateTo_foot m := hm.of (by decide)
  have s_State_endTake : Sub State.endTake_foot m := hm.of (by decide)
  have s_State_dropTake : Sub State.dropTake_foot m := hm.of (by decide)
  have s_State_emit : Sub State.emit_foot m := hm.of (by decide)
  have k_SLT_FAIL_past : Has m SLT_FAIL_past := hm.has 6 14 rfl (by decide)
  unfold State.takePast
  repeat' first
    | with_reducible assumption
    | (extract_lets -underBinder +onlyGivenNames x; have u : True := (by clear_value x; guard_hyp x :ₛ State; trivial); clear u; refine Frame.cut (m := m) (s0 := s0) (t := x) ?_ ?_; (on_goal 1 => subst x); (on_goal 2 => (intro hx; clear_value x)))
    | (extract_lets -underBinder +onlyGivenNames n; first | clear_value n | subst n)
    | with_reducible refine Frame.ite ?_ ?_
    | with_reducible refine bump_frame (by with_reducible assumption) ?_ _
    | with_reducible refine State.slateTo_frame s_State_slateTo ?_ _ _
    | with_reducible refine State.endTake_frame s_State_endTake ?_ _ _ _
    | with_reducible refine State.dropTake_frame s_State_dropTake ?_ _
    | with_reducible refine State.emit_frame s_State_emit ?_ _ _ _

def State.takeBack_foot : Nat := 0x1e01e00000000000000000000000000000000000000e0000080
theorem State.takeBack_frame (hm : Sub State.takeBack_foot m) (h : Frame m s0 s) :
    ∀ a1 a2, Frame m s0 (State.takeBack s a1 a2) := by
  intro a1 a2
  have s_State_slateTo : Sub State.slateTo_foot m := hm.of (by decide)
  have s_State_endTake : Sub State.endTake_foot m := hm.of (by decide)
  have s_State_dropTake : Sub State.dropTake_foot m := hm.of (by decide)
  unfold State.takeBack
  repeat' first
    | with_reducible assumption
    | with_reducible refine Frame.ite ?_ ?_
    | with_reducible refine State.slateTo_frame s_State_slateTo ?_ _ _
    | with_reducible refine State.endTake_frame s_State_endTake ?_ _ _ _
    | with_reducible refine State.dropTake_frame s_State_dropTake ?_ _

def takeArmed_foot : Nat := 0x100000000000000000000000000000000000000000000000000000000000000000000000000000000001f01e00000000000000000000000000000000000000e0000180
theorem takeArmed_frame (hm : Sub takeArmed_foot m) (h : Frame m s0 s) :
    Frame m s0 (takeArmed s) := by
  have s_State_putTake : Sub State.putTake_foot m := hm.of (by decide)
  have s_State_takeBack : Sub State.takeBack_foot m := hm.of (by decide)
  have s_State_sendPrepare : Sub State.sendPrepare_foot m := hm.of (by decide)
  have s_State_takePast : Sub State.takePast_foot m := hm.of (by decide)
  unfold takeArmed
  repeat' first
    | with_reducible assumption
    | (extract_lets -underBinder +onlyGivenNames x; have u : True := (by clear_value x; guard_hyp x :ₛ State; trivial); clear u; refine Frame.cut (m := m) (s0 := s0) (t := x) ?_ ?_; (on_goal 1 => subst x); (on_goal 2 => (intro hx; clear_value x)))
    | (extract_lets -underBinder +onlyGivenNames n; first | clear_value n | subst n)
    | with_reducible refine Frame.ite ?_ ?_
    | with_reducible refine State.putTake_frame s_State_putTake ?_ _ _
    | with_reducible refine State.takeBack_frame s_State_takeBack ?_ _ _
    | with_reducible refine State.sendPrepare_frame s_State_sendPrepare ?_ _
    | with_reducible refine State.takePast_frame s_State_takePast ?_ _ _
    | split

def State.sendDone_foot : Nat := 0x80000080
theorem State.sendDone_frame (hm : Sub State.sendDone_foot m) (h : Frame m s0 s) :
    ∀ a1 a2, Frame m s0 (State.sendDone s a1 a2) := by
  intro a1 a2
  have s_State_bridgeSend : Sub State.bridgeSend_foot m := hm.of (by decide)
  unfold State.sendDone
  repeat' first
    | with_reducible assumption
    | with_reducible refine Frame.ite ?_ ?_
    | with_reducible refine State.bridgeSend_frame s_State_bridgeSend ?_ _ _

def State.setPairOut_foot : Nat := 0x40000000
theorem State.setPairOut_frame (hm : Sub State.setPairOut_foot m) (h : Frame m s0 s) :
    ∀ a1, Frame m s0 (State.setPairOut s a1) := by
  intro a1
  have s_State_setSlt : Sub State.setSlt_foot m := hm.of (by decide)
  unfold State.setPairOut
  repeat' first
    | with_reducible assumption
    | (extract_lets -underBinder +onlyGivenNames x; have u : True := (by clear_value x; guard_hyp x :ₛ State; trivial); clear u; refine Frame.cut (m := m) (s0 := s0) (t := x) ?_ ?_; (on_goal 1 => subst x); (on_goal 2 => (intro hx; clear_value x)))
    | (extract_lets -underBinder +onlyGivenNames n; first | clear_value n | subst n)
    | with_reducible refine Frame.ite ?_ ?_
    | with_reducible refine State.setSlt_frame s_State_setSlt ?_ _

def State.failTake_foot : Nat := 0x100000000000000000000000000000000000000000000000000000000000000000000000000000000001e41e00000000000000000000000000000000000000f0000180
theorem State.failTake_frame (hm : Sub State.failTake_foot m) (h : Frame m s0 s) :
    ∀ a1 a2, Frame m s0 (State.failTake s a1 a2) := by
  intro a1 a2
  have s_State_endTake : Sub State.endTake_foot m := hm.of (by decide)
  have s_State_dropTake : Sub State.dropTake_foot m := hm.of (by decide)
  have s_State_freeSlate : Sub State.freeSlate_foot m := hm.of (by decide)
  have s_State_emit : Sub State.emit_foot m := hm.of (by decide)
  have k_SLT_FAIL_failed : Has m SLT_FAIL_failed := hm.has 6 12 rfl (by decide)
  unfold State.failTake
  repeat' first
    | with_reducible assumption
    | (extract_lets -underBinder +onlyGivenNames x; have u : True := (by clear_value x; guard_hyp x :ₛ State; trivial); clear u; refine Frame.cut (m := m) (s0 := s0) (t := x) ?_ ?_; (on_goal 1 => subst x); (on_goal 2 => (intro hx; clear_value x)))
    | (extract_lets -underBinder +onlyGivenNames n; first | clear_value n | subst n)
    | with_reducible refine Frame.ite ?_ ?_
    | with_reducible refine bump_frame (by with_reducible assumption) ?_ _
    | with_reducible refine State.endTake_frame s_State_endTake ?_ _ _ _
    | with_reducible refine State.dropTake_frame s_State_dropTake ?_ _
    | with_reducible refine State.freeSlate_frame s_State_freeSlate ?_ _
    | with_reducible refine State.emit_frame s_State_emit ?_ _ _ _
    | split

def State.withdrawTakes_foot : Nat := 0x100000000000000000000000000000000000000000000000000000000000000000000000000000000001e41e00000000000000000000000000000000000000f0000180
theorem State.withdrawTakes_frame (hm : Sub State.withdrawTakes_foot m) (h : Frame m s0 s) :
    ∀ a1, Frame m s0 (State.withdrawTakes s a1) := by
  intro a1
  have s_State_sendDone : Sub State.sendDone_foot m := hm.of (by decide)
  have s_State_failTake : Sub State.failTake_foot m := hm.of (by decide)
  have s_State_bridgeSend : Sub State.bridgeSend_foot m := hm.of (by decide)
  have s_State_setPairOut : Sub State.setPairOut_foot m := hm.of (by decide)
  unfold State.withdrawTakes
  repeat' first
    | with_reducible assumption
    | (extract_lets -underBinder +onlyGivenNames x; have u : True := (by clear_value x; guard_hyp x :ₛ State; trivial); clear u; refine Frame.cut (m := m) (s0 := s0) (t := x) ?_ ?_; (on_goal 1 => subst x); (on_goal 2 => (intro hx; clear_value x)))
    | (extract_lets -underBinder +onlyGivenNames n; first | clear_value n | subst n)
    | with_reducible refine Frame.ite ?_ ?_
    | with_reducible refine State.sendDone_frame s_State_sendDone ?_ _ _
    | with_reducible refine State.failTake_frame s_State_failTake ?_ _ _
    | with_reducible refine State.bridgeSend_frame s_State_bridgeSend ?_ _ _
    | with_reducible refine State.setPairOut_frame s_State_setPairOut ?_ _
    | with_reducible refine Frame.foldl ?_ (fun s x hs => ?_)
    | split

def State.doTake_foot : Nat := 0x3401ff67c80ffffffbf43fffe46307c6080800010c070f8ef3ffef805bfc019be601ff9001ffffffffc2680f82fffc3e81fffe7fff787f83f39fac380bc00e1b070001bf1f800e2e300ade0020000f414007fffdff5a0
theorem State.doTake_frame (hm : Sub State.doTake_foot m) (h : Frame m s0 s) :
    ∀ a1, Frame m s0 (State.doTake s a1) := by
  intro a1
  have s_State_nextTake : Sub State.nextTake_foot m := hm.of (by decide)
  have s_State_setSlt : Sub State.setSlt_foot m := hm.of (by decide)
  have s_State_applyShadow : Sub State.applyShadow_foot m := hm.of (by decide)
  have s_State_emit : Sub State.emit_foot m := hm.of (by decide)
  unfold State.doTake
  repeat' first
    | with_reducible assumption
    | (extract_lets -underBinder +onlyGivenNames x; have u : True := (by clear_value x; guard_hyp x :ₛ State; trivial); clear u; refine Frame.cut (m := m) (s0 := s0) (t := x) ?_ ?_; (on_goal 1 => subst x); (on_goal 2 => (intro hx; clear_value x)))
    | (extract_lets -underBinder +onlyGivenNames n; first | clear_value n | subst n)
    | with_reducible refine Frame.ite ?_ ?_
    | with_reducible refine State.nextTake_frame s_State_nextTake ?_
    | with_reducible refine State.setSlt_frame s_State_setSlt ?_ _
    | with_reducible refine State.applyShadow_frame s_State_applyShadow ?_ _
    | with_reducible refine State.emit_frame s_State_emit ?_ _ _ _
    | split

def State.settlePair_foot : Nat := 0x100000000000000000000000000000000000000000000000000000000000000000000000000000000001e41e00000000000000000000000000000000000000f0000180
theorem State.settlePair_frame (hm : Sub State.settlePair_foot m) (h : Frame m s0 s) :
    ∀ a1, Frame m s0 (State.settlePair s a1) := by
  intro a1
  have s_State_slateTo : Sub State.slateTo_foot m := hm.of (by decide)
  have s_State_sendDone : Sub State.sendDone_foot m := hm.of (by decide)
  have s_State_endTake : Sub State.endTake_foot m := hm.of (by decide)
  have s_State_dropTake : Sub State.dropTake_foot m := hm.of (by decide)
  have s_State_putTake : Sub State.putTake_foot m := hm.of (by decide)
  have s_State_freeSlate : Sub State.freeSlate_foot m := hm.of (by decide)
  have s_State_failTake : Sub State.failTake_foot m := hm.of (by decide)
  have s_State_setPairOut : Sub State.setPairOut_foot m := hm.of (by decide)
  have k_SLT_FAIL_failed : Has m SLT_FAIL_failed := hm.has 6 12 rfl (by decide)
  unfold State.settlePair
  repeat' first
    | with_reducible assumption
    | (extract_lets -underBinder +onlyGivenNames x; have u : True := (by clear_value x; guard_hyp x :ₛ State; trivial); clear u; refine Frame.cut (m := m) (s0 := s0) (t := x) ?_ ?_; (on_goal 1 => subst x); (on_goal 2 => (intro hx; clear_value x)))
    | (extract_lets -underBinder +onlyGivenNames n; first | clear_value n | subst n)
    | with_reducible refine Frame.ite ?_ ?_
    | with_reducible refine bump_frame (by with_reducible assumption) ?_ _
    | with_reducible refine State.slateTo_frame s_State_slateTo ?_ _ _
    | with_reducible refine State.sendDone_frame s_State_sendDone ?_ _ _
    | with_reducible refine State.endTake_frame s_State_endTake ?_ _ _ _
    | with_reducible refine State.dropTake_frame s_State_dropTake ?_ _
    | with_reducible refine State.putTake_frame s_State_putTake ?_ _ _
    | with_reducible refine State.freeSlate_frame s_State_freeSlate ?_ _
    | with_reducible refine State.failTake_frame s_State_failTake ?_ _ _
    | with_reducible refine State.setPairOut_frame s_State_setPairOut ?_ _
    | split

def State.pairPassed_foot : Nat := 0x100000000000000000000000000000000000000000000000000000000000000000000000000000000001e41e00000000000000000000000000000000000000f0000180
theorem State.pairPassed_frame (hm : Sub State.pairPassed_foot m) (h : Frame m s0 s) :
    ∀ a1 a2 a3, Frame m s0 (State.pairPassed s a1 a2 a3) := by
  intro a1 a2 a3
  have s_State_settlePair : Sub State.settlePair_foot m := hm.of (by decide)
  have s_State_putTake : Sub State.putTake_foot m := hm.of (by decide)
  have s_State_setPairOut : Sub State.setPairOut_foot m := hm.of (by decide)
  unfold State.pairPassed
  repeat' first
    | with_reducible assumption
    | (extract_lets -underBinder +onlyGivenNames x; have u : True := (by clear_value x; guard_hyp x :ₛ State; trivial); clear u; refine Frame.cut (m := m) (s0 := s0) (t := x) ?_ ?_; (on_goal 1 => subst x); (on_goal 2 => (intro hx; clear_value x)))
    | (extract_lets -underBinder +onlyGivenNames n; first | clear_value n | subst n)
    | with_reducible refine Frame.ite ?_ ?_
    | with_reducible refine State.settlePair_frame s_State_settlePair ?_ _
    | with_reducible refine State.putTake_frame s_State_putTake ?_ _ _
    | with_reducible refine State.setPairOut_frame s_State_setPairOut ?_ _

def State.sharePassed_foot : Nat := 0x1e01e00000000000000000000000000000000000000c0000080
theorem State.sharePassed_frame (hm : Sub State.sharePassed_foot m) (h : Frame m s0 s) :
    ∀ a1 a2, Frame m s0 (State.sharePassed s a1 a2) := by
  intro a1 a2
  have s_State_sendDone : Sub State.sendDone_foot m := hm.of (by decide)
  have s_State_dropTake : Sub State.dropTake_foot m := hm.of (by decide)
  have s_State_setPairOut : Sub State.setPairOut_foot m := hm.of (by decide)
  unfold State.sharePassed
  repeat' first
    | with_reducible assumption
    | with_reducible refine Frame.ite ?_ ?_
    | with_reducible refine State.sendDone_frame s_State_sendDone ?_ _ _
    | with_reducible refine State.dropTake_frame s_State_dropTake ?_ _
    | with_reducible refine State.setPairOut_frame s_State_setPairOut ?_ _

def State.undoTake_foot : Nat := 0x3401ff67c80ffffffbf43fffe46307c6080800010c070f8ef3ffef805bfc019be601ff9001ffffffffc2680f82fffc3e81fffe7fff787f83f39fac380bdecffb070001bf1f800e2e300ade0020000f414007fffdff5a0
theorem State.undoTake_frame (hm : Sub State.undoTake_foot m) (h : Frame m s0 s) :
    ∀ a1, Frame m s0 (State.undoTake s a1) := by
  intro a1
  have s_State_nextTake : Sub State.nextTake_foot m := hm.of (by decide)
  have s_State_sendDone : Sub State.sendDone_foot m := hm.of (by decide)
  have s_State_endTake : Sub State.endTake_foot m := hm.of (by decide)
  have s_State_dropTake : Sub State.dropTake_foot m := hm.of (by decide)
  have s_State_freeSlate : Sub State.freeSlate_foot m := hm.of (by decide)
  have s_State_setPar : Sub State.setPar_foot m := hm.of (by decide)
  have s_State_setSlt : Sub State.setSlt_foot m := hm.of (by decide)
  have s_State_applyShadow : Sub State.applyShadow_foot m := hm.of (by decide)
  have s_State_emit : Sub State.emit_foot m := hm.of (by decide)
  have k_SLT_FAIL_failed : Has m SLT_FAIL_failed := hm.has 6 12 rfl (by decide)
  have k_SLT_FAIL_rollback : Has m SLT_FAIL_rollback := hm.has 6 13 rfl (by decide)
  unfold State.undoTake
  repeat' first
    | with_reducible assumption
    | (extract_lets -underBinder +onlyGivenNames x; have u : True := (by clear_value x; guard_hyp x :ₛ State; trivial); clear u; refine Frame.cut (m := m) (s0 := s0) (t := x) ?_ ?_; (on_goal 1 => subst x); (on_goal 2 => (intro hx; clear_value x)))
    | (extract_lets -underBinder +onlyGivenNames n; first | clear_value n | subst n)
    | with_reducible refine Frame.ite ?_ ?_
    | with_reducible refine bump_frame (by with_reducible assumption) ?_ _
    | with_reducible refine State.nextTake_frame s_State_nextTake ?_
    | with_reducible refine State.sendDone_frame s_State_sendDone ?_ _ _
    | with_reducible refine State.endTake_frame s_State_endTake ?_ _ _ _
    | with_reducible refine State.dropTake_frame s_State_dropTake ?_ _
    | with_reducible refine State.freeSlate_frame s_State_freeSlate ?_ _
    | with_reducible refine State.setPar_frame s_State_setPar ?_ _
    | with_reducible refine State.setSlt_frame s_State_setSlt ?_ _
    | with_reducible refine State.applyShadow_frame s_State_applyShadow ?_ _
    | with_reducible refine State.emit_frame s_State_emit ?_ _ _ _
    | split

def takeApply_foot : Nat := 0x3401ff67c80ffffffbf43fffe46307c6080800010c070f8ef3ffef805bfc019be601ff9001ffffffffc2680f82fffc3e81fffe7fff787f83f39fac380bdecffb070001bf1f800e2e300ade0020000f414007fffdff5a0
theorem takeApply_frame (hm : Sub takeApply_foot m) (h : Frame m s0 s) :
    ∀ a0, Frame m s0 (takeApply a0 s) := by
  intro a0
  have s_State_sharePassed : Sub State.sharePassed_foot m := hm.of (by decide)
  have s_State_withdrawTakes : Sub State.withdrawTakes_foot m := hm.of (by decide)
  have s_State_endTake : Sub State.endTake_foot m := hm.of (by decide)
  have s_State_dropTake : Sub State.dropTake_foot m := hm.of (by decide)
  have s_State_settlePair : Sub State.settlePair_foot m := hm.of (by decide)
  have s_State_putTake : Sub State.putTake_foot m := hm.of (by decide)
  have s_State_freeSlate : Sub State.freeSlate_foot m := hm.of (by decide)
  have s_State_doTake : Sub State.doTake_foot m := hm.of (by decide)
  have s_State_failTake : Sub State.failTake_foot m := hm.of (by decide)
  have s_State_undoTake : Sub State.undoTake_foot m := hm.of (by decide)
  have s_State_setPar : Sub State.setPar_foot m := hm.of (by decide)
  have s_State_setPairOut : Sub State.setPairOut_foot m := hm.of (by decide)
  have s_State_pairPassed : Sub State.pairPassed_foot m := hm.of (by decide)
  have s_State_emit : Sub State.emit_foot m := hm.of (by decide)
  unfold takeApply
  repeat' first
    | with_reducible assumption
    | (extract_lets -underBinder +onlyGivenNames x; have u : True := (by clear_value x; guard_hyp x :ₛ State; trivial); clear u; refine Frame.cut (m := m) (s0 := s0) (t := x) ?_ ?_; (on_goal 1 => subst x); (on_goal 2 => (intro hx; clear_value x)))
    | (extract_lets -underBinder +onlyGivenNames n; first | clear_value n | subst n)
    | with_reducible refine Frame.ite ?_ ?_
    | with_reducible refine State.sharePassed_frame s_State_sharePassed ?_ _ _
    | with_reducible refine State.withdrawTakes_frame s_State_withdrawTakes ?_ _
    | with_reducible refine State.endTake_frame s_State_endTake ?_ _ _ _
    | with_reducible refine State.dropTake_frame s_State_dropTake ?_ _
    | with_reducible refine State.settlePair_frame s_State_settlePair ?_ _
    | with_reducible refine State.putTake_frame s_State_putTake ?_ _ _
    | with_reducible refine State.freeSlate_frame s_State_freeSlate ?_ _
    | with_reducible refine State.doTake_frame s_State_doTake ?_ _
    | with_reducible refine State.failTake_frame s_State_failTake ?_ _ _
    | with_reducible refine State.undoTake_frame s_State_undoTake ?_ _
    | with_reducible refine State.setPar_frame s_State_setPar ?_ _
    | with_reducible refine State.setPairOut_frame s_State_setPairOut ?_ _
    | with_reducible refine State.pairPassed_frame s_State_pairPassed ?_ _ _ _
    | with_reducible refine State.emit_frame s_State_emit ?_ _ _ _
    | split

def State.onPrepare_foot : Nat := 0x100000000000000000000000000000000000000000000000000000000000000000000000000000000001e01e00000000000000000000000000000000000000c0000180
theorem State.onPrepare_frame (hm : Sub State.onPrepare_foot m) (h : Frame m s0 s) :
    ∀ a1, Frame m s0 (State.onPrepare s a1) := by
  intro a1
  have s_State_bridgeSend : Sub State.bridgeSend_foot m := hm.of (by decide)
  have s_State_refuseSlate : Sub State.refuseSlate_foot m := hm.of (by decide)
  have s_State_setJobs : Sub State.setJobs_foot m := hm.of (by decide)
  have s_State_setSlt : Sub State.setSlt_foot m := hm.of (by decide)
  unfold State.onPrepare
  repeat' first
    | with_reducible assumption
    | (extract_lets -underBinder +onlyGivenNames x; have u : True := (by clear_value x; guard_hyp x :ₛ State; trivial); clear u; refine Frame.cut (m := m) (s0 := s0) (t := x) ?_ ?_; (on_goal 1 => subst x); (on_goal 2 => (intro hx; clear_value x)))
    | (extract_lets -underBinder +onlyGivenNames n; first | clear_value n | subst n)
    | with_reducible refine Frame.ite ?_ ?_
    | with_reducible refine State.bridgeSend_frame s_State_bridgeSend ?_ _ _
    | with_reducible refine State.refuseSlate_frame s_State_refuseSlate ?_ _ _ _
    | with_reducible refine State.setJobs_frame s_State_setJobs ?_ _
    | with_reducible refine State.setSlt_frame s_State_setSlt ?_ _
    | split

def State.onReady_foot : Nat := 0x100000000000000000000000000000000000000000000000000000000000000000000000000000000001f01e00000000000000000000000000000000000000e0000180
theorem State.onReady_frame (hm : Sub State.onReady_foot m) (h : Frame m s0 s) :
    ∀ a1, Frame m s0 (State.onReady s a1) := by
  intro a1
  have s_State_putTake : Sub State.putTake_foot m := hm.of (by decide)
  have s_State_takeBack : Sub State.takeBack_foot m := hm.of (by decide)
  have s_State_bridgeSend : Sub State.bridgeSend_foot m := hm.of (by decide)
  have s_State_takePast : Sub State.takePast_foot m := hm.of (by decide)
  unfold State.onReady
  repeat' first
    | with_reducible assumption
    | (extract_lets -underBinder +onlyGivenNames x; have u : True := (by clear_value x; guard_hyp x :ₛ State; trivial); clear u; refine Frame.cut (m := m) (s0 := s0) (t := x) ?_ ?_; (on_goal 1 => subst x); (on_goal 2 => (intro hx; clear_value x)))
    | (extract_lets -underBinder +onlyGivenNames n; first | clear_value n | subst n)
    | with_reducible refine Frame.ite ?_ ?_
    | with_reducible refine State.putTake_frame s_State_putTake ?_ _ _
    | with_reducible refine State.takeBack_frame s_State_takeBack ?_ _ _
    | with_reducible refine State.bridgeSend_frame s_State_bridgeSend ?_ _ _
    | with_reducible refine State.takePast_frame s_State_takePast ?_ _ _
    | split

def State.onRefuse_foot : Nat := 0x100000000000000000000000000000000000000000000000000000000000000000000000000000000001e01e00000000000000000000000000000000000000e0000180
theorem State.onRefuse_frame (hm : Sub State.onRefuse_foot m) (h : Frame m s0 s) :
    ∀ a1, Frame m s0 (State.onRefuse s a1) := by
  intro a1
  have s_State_slateTo : Sub State.slateTo_foot m := hm.of (by decide)
  have s_State_endTake : Sub State.endTake_foot m := hm.of (by decide)
  have s_State_dropTake : Sub State.dropTake_foot m := hm.of (by decide)
  have s_State_refuseSlate : Sub State.refuseSlate_foot m := hm.of (by decide)
  unfold State.onRefuse
  repeat' first
    | with_reducible assumption
    | (extract_lets -underBinder +onlyGivenNames x; have u : True := (by clear_value x; guard_hyp x :ₛ State; trivial); clear u; refine Frame.cut (m := m) (s0 := s0) (t := x) ?_ ?_; (on_goal 1 => subst x); (on_goal 2 => (intro hx; clear_value x)))
    | (extract_lets -underBinder +onlyGivenNames n; first | clear_value n | subst n)
    | with_reducible refine Frame.ite ?_ ?_
    | with_reducible refine State.slateTo_frame s_State_slateTo ?_ _ _
    | with_reducible refine State.endTake_frame s_State_endTake ?_ _ _ _
    | with_reducible refine State.dropTake_frame s_State_dropTake ?_ _
    | with_reducible refine State.refuseSlate_frame s_State_refuseSlate ?_ _ _ _
    | split

def State.onCommit_foot : Nat := 0x1e01e00000000000000000000000000000000000000c0000080
theorem State.onCommit_frame (hm : Sub State.onCommit_foot m) (h : Frame m s0 s) :
    ∀ a1, Frame m s0 (State.onCommit s a1) := by
  intro a1
  have s_State_putTake : Sub State.putTake_foot m := hm.of (by decide)
  have s_State_bridgeSend : Sub State.bridgeSend_foot m := hm.of (by decide)
  unfold State.onCommit
  repeat' first
    | with_reducible assumption
    | (extract_lets -underBinder +onlyGivenNames x; have u : True := (by clear_value x; guard_hyp x :ₛ State; trivial); clear u; refine Frame.cut (m := m) (s0 := s0) (t := x) ?_ ?_; (on_goal 1 => subst x); (on_goal 2 => (intro hx; clear_value x)))
    | (extract_lets -underBinder +onlyGivenNames n; first | clear_value n | subst n)
    | with_reducible refine Frame.ite ?_ ?_
    | with_reducible refine State.putTake_frame s_State_putTake ?_ _ _
    | with_reducible refine State.bridgeSend_frame s_State_bridgeSend ?_ _ _
    | split

def State.onAck_foot : Nat := 0x1e01e0000000000000000000000000000000000000040000000
theorem State.onAck_frame (hm : Sub State.onAck_foot m) (h : Frame m s0 s) :
    ∀ a1, Frame m s0 (State.onAck s a1) := by
  intro a1
  have s_State_putTake : Sub State.putTake_foot m := hm.of (by decide)
  unfold State.onAck
  repeat' first
    | with_reducible assumption
    | (extract_lets -underBinder +onlyGivenNames x; have u : True := (by clear_value x; guard_hyp x :ₛ State; trivial); clear u; refine Frame.cut (m := m) (s0 := s0) (t := x) ?_ ?_; (on_goal 1 => subst x); (on_goal 2 => (intro hx; clear_value x)))
    | (extract_lets -underBinder +onlyGivenNames n; first | clear_value n | subst n)
    | with_reducible refine Frame.ite ?_ ?_
    | with_reducible refine State.putTake_frame s_State_putTake ?_ _ _
    | split

def State.onDone_foot : Nat := 0x100000000000000000000000000000000000000000000000000000000000000000000000000000000001e41e00000000000000000000000000000000000000f0000180
theorem State.onDone_frame (hm : Sub State.onDone_foot m) (h : Frame m s0 s) :
    ∀ a1, Frame m s0 (State.onDone s a1) := by
  intro a1
  have s_State_settlePair : Sub State.settlePair_foot m := hm.of (by decide)
  have s_State_putTake : Sub State.putTake_foot m := hm.of (by decide)
  have s_State_setPar : Sub State.setPar_foot m := hm.of (by decide)
  have s_State_setPairOut : Sub State.setPairOut_foot m := hm.of (by decide)
  have s_State_setJobs : Sub State.setJobs_foot m := hm.of (by decide)
  unfold State.onDone
  repeat' first
    | with_reducible assumption
    | (extract_lets -underBinder +onlyGivenNames x; have u : True := (by clear_value x; guard_hyp x :ₛ State; trivial); clear u; refine Frame.cut (m := m) (s0 := s0) (t := x) ?_ ?_; (on_goal 1 => subst x); (on_goal 2 => (intro hx; clear_value x)))
    | (extract_lets -underBinder +onlyGivenNames n; first | clear_value n | subst n)
    | with_reducible refine Frame.ite ?_ ?_
    | with_reducible refine State.settlePair_frame s_State_settlePair ?_ _
    | with_reducible refine State.putTake_frame s_State_putTake ?_ _ _
    | with_reducible refine State.setPar_frame s_State_setPar ?_ _
    | with_reducible refine State.setPairOut_frame s_State_setPairOut ?_ _
    | with_reducible refine State.setJobs_frame s_State_setJobs ?_ _
    | split

def State.onAbort_foot : Nat := 0x1e01e0000000000000000000000000000000000000040000000
theorem State.onAbort_frame (hm : Sub State.onAbort_foot m) (h : Frame m s0 s) :
    ∀ a1, Frame m s0 (State.onAbort s a1) := by
  intro a1
  have s_State_dropTake : Sub State.dropTake_foot m := hm.of (by decide)
  unfold State.onAbort
  repeat' first
    | with_reducible assumption
    | with_reducible refine Frame.ite ?_ ?_
    | with_reducible refine State.dropTake_frame s_State_dropTake ?_ _
    | split

def pairPrepareTimeout_foot : Nat := 0x100000000000000000000000000000000000000000000000000000000000000000000000000000000001e41e00000000000000000000000000000000000000f0000180
theorem pairPrepareTimeout_frame (hm : Sub pairPrepareTimeout_foot m) (h : Frame m s0 s) :
    Frame m s0 (pairPrepareTimeout s) := by
  have s_State_failTake : Sub State.failTake_foot m := hm.of (by decide)
  have s_State_bridgeSend : Sub State.bridgeSend_foot m := hm.of (by decide)
  unfold pairPrepareTimeout
  repeat' first
    | with_reducible assumption
    | with_reducible refine Frame.ite ?_ ?_
    | with_reducible refine State.failTake_frame s_State_failTake ?_ _ _
    | with_reducible refine State.bridgeSend_frame s_State_bridgeSend ?_ _ _
    | split

def execSlateCheck_foot : Nat := 0x100000000000000000000000000000000000000000000000000000000000000000000000000000000000000000000000000000000000000000000000000000a0000180
theorem execSlateCheck_frame (hm : Sub execSlateCheck_foot m) (h : Frame m s0 s) :
    ∃ t, execSlateCheck s = .next t ∧ Frame m s0 t := by
  have s_slateCheck : Sub slateCheck_foot m := hm.of (by decide)
  have s_State_runOpcode : Sub State.runOpcode_foot m := hm.of (by decide)
  unfold execSlateCheck
  refine hubOn_frame (fun s h => ?_) h
  repeat' first
    | with_reducible assumption
    | with_reducible refine Frame.ite ?_ ?_
    | with_reducible refine slateCheck_frame s_slateCheck ?_ _
    | with_reducible refine State.runOpcode_frame s_State_runOpcode (fun d s hs => ?_) ?_ _

def execTake_foot : Nat := 0x100000000000000000000000000000000000000000000000000000000000000000000000000000000001e01e00000000000000000000000000000000000000e0000180
theorem execTake_frame (hm : Sub execTake_foot m) (h : Frame m s0 s) :
    ∃ t, execTake s = .next t ∧ Frame m s0 t := by
  have s_takeRow : Sub takeRow_foot m := hm.of (by decide)
  have s_State_runOpcode : Sub State.runOpcode_foot m := hm.of (by decide)
  unfold execTake
  refine hubOn_frame (fun s h => ?_) h
  repeat' first
    | with_reducible assumption
    | with_reducible refine Frame.ite ?_ ?_
    | with_reducible refine takeRow_frame s_takeRow ?_ _
    | with_reducible refine State.runOpcode_frame s_State_runOpcode (fun d s hs => ?_) ?_ _
    | split

def execTakeArmed_foot : Nat := 0x100000000000000000000000000000000000000000000000000000000000000000000000000000000001f01e00000000000000000000000000000000000000e0000180
theorem execTakeArmed_frame (hm : Sub execTakeArmed_foot m) (h : Frame m s0 s) :
    ∃ t, execTakeArmed s = .next t ∧ Frame m s0 t := by
  have s_takeArmed : Sub takeArmed_foot m := hm.of (by decide)
  unfold execTakeArmed
  refine hubOn_frame (fun s h => ?_) h
  repeat' first
    | with_reducible assumption
    | with_reducible refine Frame.ite ?_ ?_
    | with_reducible refine takeArmed_frame s_takeArmed ?_

def execTakeApply_foot : Nat := 0x3401ff67c80ffffffbf43fffe46307c6080800010c070f8ef3ffef805bfc019be601ff9001ffffffffc2680f82fffc3e81fffe7fff787f83f39fac380bdecffb070001bf1f800e2e300ade0020000f414007fffdff5a0
theorem execTakeApply_frame (hm : Sub execTakeApply_foot m) (h : Frame m s0 s) :
    ∀ a0, ∃ t, execTakeApply a0 s = .next t ∧ Frame m s0 t := by
  intro a0
  have s_takeApply : Sub takeApply_foot m := hm.of (by decide)
  unfold execTakeApply
  refine hubOn_frame (fun s h => ?_) h
  repeat' first
    | with_reducible assumption
    | with_reducible refine Frame.ite ?_ ?_
    | with_reducible refine takeApply_frame s_takeApply ?_ _

def execBridgePrepare_foot : Nat := 0x54580000000000000000000000000000000000100000000000000000000000000000000000000000000000000000000000000000000000000000000001e41e00000000000000000000000000000000000000f8080180
theorem execBridgePrepare_frame (hm : Sub execBridgePrepare_foot m) (h : Frame m s0 s) :
    ∀ a0 a1 a2, ∃ t, execBridgePrepare a0 a1 a2 s = .next t ∧ Frame m s0 t := by
  intro a0 a1 a2
  have s_State_onPrepare : Sub State.onPrepare_foot m := hm.of (by decide)
  have s_State_bridgeRx : Sub State.bridgeRx_foot m := hm.of (by decide)
  unfold execBridgePrepare
  refine hubOn_frame (fun s h => ?_) h
  repeat' first
    | with_reducible assumption
    | with_reducible refine Frame.ite ?_ ?_
    | with_reducible refine State.onPrepare_frame s_State_onPrepare ?_ _
    | with_reducible refine State.bridgeRx_frame s_State_bridgeRx (fun d s hs => ?_) ?_ _ _ _ _

def execBridgeReady_foot : Nat := 0x54580000000000000000000000000000000000100000000000000000000000000000000000000000000000000000000000000000000000000000000001f41e00000000000000000000000000000000000000f8080180
theorem execBridgeReady_frame (hm : Sub execBridgeReady_foot m) (h : Frame m s0 s) :
    ∀ a0 a1 a2, ∃ t, execBridgeReady a0 a1 a2 s = .next t ∧ Frame m s0 t := by
  intro a0 a1 a2
  have s_State_onReady : Sub State.onReady_foot m := hm.of (by decide)
  have s_State_bridgeRx : Sub State.bridgeRx_foot m := hm.of (by decide)
  unfold execBridgeReady
  refine hubOn_frame (fun s h => ?_) h
  repeat' first
    | with_reducible assumption
    | with_reducible refine Frame.ite ?_ ?_
    | with_reducible refine State.onReady_frame s_State_onReady ?_ _
    | with_reducible refine State.bridgeRx_frame s_State_bridgeRx (fun d s hs => ?_) ?_ _ _ _ _

def execBridgeRefuse_foot : Nat := 0x54580000000000000000000000000000000000100000000000000000000000000000000000000000000000000000000000000000000000000000000001e41e00000000000000000000000000000000000000f8080180
theorem execBridgeRefuse_frame (hm : Sub execBridgeRefuse_foot m) (h : Frame m s0 s) :
    ∀ a0 a1 a2, ∃ t, execBridgeRefuse a0 a1 a2 s = .next t ∧ Frame m s0 t := by
  intro a0 a1 a2
  have s_State_bridgeRx : Sub State.bridgeRx_foot m := hm.of (by decide)
  have s_State_onRefuse : Sub State.onRefuse_foot m := hm.of (by decide)
  unfold execBridgeRefuse
  refine hubOn_frame (fun s h => ?_) h
  repeat' first
    | with_reducible assumption
    | with_reducible refine Frame.ite ?_ ?_
    | with_reducible refine State.bridgeRx_frame s_State_bridgeRx (fun d s hs => ?_) ?_ _ _ _ _
    | with_reducible refine State.onRefuse_frame s_State_onRefuse ?_ _

def execBridgeCommit_foot : Nat := 0x54580000000000000000000000000000000000100000000000000000000000000000000000000000000000000000000000000000000000000000000001e41e00000000000000000000000000000000000000f8080180
theorem execBridgeCommit_frame (hm : Sub execBridgeCommit_foot m) (h : Frame m s0 s) :
    ∀ a0 a1 a2, ∃ t, execBridgeCommit a0 a1 a2 s = .next t ∧ Frame m s0 t := by
  intro a0 a1 a2
  have s_State_onCommit : Sub State.onCommit_foot m := hm.of (by decide)
  have s_State_bridgeRx : Sub State.bridgeRx_foot m := hm.of (by decide)
  unfold execBridgeCommit
  refine hubOn_frame (fun s h => ?_) h
  repeat' first
    | with_reducible assumption
    | with_reducible refine Frame.ite ?_ ?_
    | with_reducible refine State.onCommit_frame s_State_onCommit ?_ _
    | with_reducible refine State.bridgeRx_frame s_State_bridgeRx (fun d s hs => ?_) ?_ _ _ _ _

def execBridgeAck_foot : Nat := 0x54580000000000000000000000000000000000100000000000000000000000000000000000000000000000000000000000000000000000000000000001e41e00000000000000000000000000000000000000f8080180
theorem execBridgeAck_frame (hm : Sub execBridgeAck_foot m) (h : Frame m s0 s) :
    ∀ a0 a1 a2, ∃ t, execBridgeAck a0 a1 a2 s = .next t ∧ Frame m s0 t := by
  intro a0 a1 a2
  have s_State_bridgeRx : Sub State.bridgeRx_foot m := hm.of (by decide)
  have s_State_onAck : Sub State.onAck_foot m := hm.of (by decide)
  unfold execBridgeAck
  refine hubOn_frame (fun s h => ?_) h
  repeat' first
    | with_reducible assumption
    | with_reducible refine Frame.ite ?_ ?_
    | with_reducible refine State.bridgeRx_frame s_State_bridgeRx (fun d s hs => ?_) ?_ _ _ _ _
    | with_reducible refine State.onAck_frame s_State_onAck ?_ _

def execBridgeDone_foot : Nat := 0x54580000000000000000000000000000000000100000000000000000000000000000000000000000000000000000000000000000000000000000000001e41e00000000000000000000000000000000000000f8080180
theorem execBridgeDone_frame (hm : Sub execBridgeDone_foot m) (h : Frame m s0 s) :
    ∀ a0 a1 a2, ∃ t, execBridgeDone a0 a1 a2 s = .next t ∧ Frame m s0 t := by
  intro a0 a1 a2
  have s_State_onDone : Sub State.onDone_foot m := hm.of (by decide)
  have s_State_bridgeRx : Sub State.bridgeRx_foot m := hm.of (by decide)
  unfold execBridgeDone
  refine hubOn_frame (fun s h => ?_) h
  repeat' first
    | with_reducible assumption
    | with_reducible refine Frame.ite ?_ ?_
    | with_reducible refine State.onDone_frame s_State_onDone ?_ _
    | with_reducible refine State.bridgeRx_frame s_State_bridgeRx (fun d s hs => ?_) ?_ _ _ _ _

def execBridgeAbort_foot : Nat := 0x54580000000000000000000000000000000000100000000000000000000000000000000000000000000000000000000000000000000000000000000001e41e00000000000000000000000000000000000000f8080180
theorem execBridgeAbort_frame (hm : Sub execBridgeAbort_foot m) (h : Frame m s0 s) :
    ∀ a0 a1 a2, ∃ t, execBridgeAbort a0 a1 a2 s = .next t ∧ Frame m s0 t := by
  intro a0 a1 a2
  have s_State_onAbort : Sub State.onAbort_foot m := hm.of (by decide)
  have s_State_bridgeRx : Sub State.bridgeRx_foot m := hm.of (by decide)
  unfold execBridgeAbort
  refine hubOn_frame (fun s h => ?_) h
  repeat' first
    | with_reducible assumption
    | with_reducible refine Frame.ite ?_ ?_
    | with_reducible refine State.onAbort_frame s_State_onAbort ?_ _
    | with_reducible refine State.bridgeRx_frame s_State_bridgeRx (fun d s hs => ?_) ?_ _ _ _ _

def execPairPrepareTimeout_foot : Nat := 0x100000000000000000000000000000000000000000000000000000000000000000000000000000000001e41e00000000000000000000000000000000000000f0000180
theorem execPairPrepareTimeout_frame (hm : Sub execPairPrepareTimeout_foot m) (h : Frame m s0 s) :
    ∃ t, execPairPrepareTimeout s = .next t ∧ Frame m s0 t := by
  have s_pairPrepareTimeout : Sub pairPrepareTimeout_foot m := hm.of (by decide)
  unfold execPairPrepareTimeout
  refine hubOn_frame (fun s h => ?_) h
  repeat' first
    | with_reducible assumption
    | with_reducible refine Frame.ite ?_ ?_
    | with_reducible refine pairPrepareTimeout_frame s_pairPrepareTimeout ?_

end Sys2Proof.Machine
end

