-- ==== Sys2Proof/Laws/FrameStart.lean ====
section
/-!
SUPPORT. Laws/FrameStart.lean: the footprint of every function of Machine/Start.lean, and that it writes nothing outside it.
-/
namespace Sys2Proof.Machine

set_option linter.all false

variable {m : Nat} {s0 s : State}

def State.cleared_foot : Nat := 0xffffffffffffff36
theorem State.cleared_frame (hm : Sub State.cleared_foot m) (h : Frame m s0 s) :
    ∀ a1 a2, Frame m s0 (State.cleared s a1 a2) := by
  intro a1 a2
  unfold State.cleared
  exact {
    regs := fun k hk hb => absurd ((hm.bit (unitBit k) (by
      have hlt : unitBit k < 64 := by unfold unitBit; omega
      have hge : 40 ≤ unitBit k := by unfold unitBit; omega
      interval_cases unitBit k <;> decide)).symm.trans hb) (by decide)
    queue := fun e => absurd ((hm.bit 4 (by decide)).symm.trans e) (by decide)
    memOk := fun e => ⟨rfl, (h.memOk e).2⟩
    pending := h.pending
    fuse := h.fuse
    flash := h.flash
    out := h.out
    running := fun e => absurd ((hm.bit 1 (by decide)).symm.trans e) (by decide)
    ts := fun e => absurd ((hm.bit 2 (by decide)).symm.trans e) (by decide)
    mem := fun e => absurd ((hm.bit 5 (by decide)).symm.trans e) (by decide)
    recd := fun e => absurd ((hm.bit 8 (by decide)).symm.trans e) (by decide)
    cnt := fun e => absurd ((hm.bit 9 (by decide)).symm.trans e) (by decide)
    cntPend := fun e => absurd ((hm.bit 10 (by decide)).symm.trans e) (by decide)
    lanes := fun e => absurd ((hm.bit 11 (by decide)).symm.trans e) (by decide)
    chks := fun e => absurd ((hm.bit 12 (by decide)).symm.trans e) (by decide)
    droops := fun e => absurd ((hm.bit 13 (by decide)).symm.trans e) (by decide)
    cores := fun e => absurd ((hm.bit 14 (by decide)).symm.trans e) (by decide)
    tly := fun e => absurd ((hm.bit 15 (by decide)).symm.trans e) (by decide)
    ramp := fun e => absurd ((hm.bit 16 (by decide)).symm.trans e) (by decide)
    sns := fun e => absurd ((hm.bit 17 (by decide)).symm.trans e) (by decide)
    fcs := fun e => absurd ((hm.bit 18 (by decide)).symm.trans e) (by decide)
    lpe := fun e => absurd ((hm.bit 19 (by decide)).symm.trans e) (by decide)
    trc := fun e => absurd ((hm.bit 20 (by decide)).symm.trans e) (by decide)
    wfg := fun e => absurd ((hm.bit 21 (by decide)).symm.trans e) (by decide)
    cntZero := fun e => absurd ((hm.bit 22 (by decide)).symm.trans e) (by decide)
    dvfs := fun e => absurd ((hm.bit 23 (by decide)).symm.trans e) (by decide)
    pins := fun e => absurd ((hm.bit 24 (by decide)).symm.trans e) (by decide)
    vrc := fun e => absurd ((hm.bit 25 (by decide)).symm.trans e) (by decide)
    pmb := fun e => absurd ((hm.bit 26 (by decide)).symm.trans e) (by decide)
    acc := fun e => absurd ((hm.bit 27 (by decide)).symm.trans e) (by decide)
    thm := fun e => absurd ((hm.bit 28 (by decide)).symm.trans e) (by decide)
    hif := fun e => absurd ((hm.bit 29 (by decide)).symm.trans e) (by decide)
    slt := fun e => absurd ((hm.bit 30 (by decide)).symm.trans e) (by decide)
    par := fun e => absurd ((hm.bit 31 (by decide)).symm.trans e) (by decide)
    nvm := fun e => absurd ((hm.bit 32 (by decide)).symm.trans e) (by decide)
    smb := fun e => absurd ((hm.bit 33 (by decide)).symm.trans e) (by decide)
    fw := fun e => absurd ((hm.bit 34 (by decide)).symm.trans e) (by decide)
    rst := fun e => absurd ((hm.bit 35 (by decide)).symm.trans e) (by decide)
    hub := fun e => absurd ((hm.bit 36 (by decide)).symm.trans e) (by decide)
    fans := fun e => absurd ((hm.bit 37 (by decide)).symm.trans e) (by decide)
    mgt := fun e => absurd ((hm.bit 38 (by decide)).symm.trans e) (by decide)
    xovrMs := fun e => absurd ((hm.bit 39 (by decide)).symm.trans e) (by decide)
  }

def State.keepLatches_foot : Nat := 0x2080000000000000000000820000000000000000000000000000000000000c00000000000000000003000000
theorem State.keepLatches_frame (hm : Sub State.keepLatches_foot m) (h : Frame m s0 s) :
    ∀ a0, Frame m s0 (State.keepLatches a0 s) := by
  intro a0
  have k_RST_CAUSE_crowbar : Has m RST_CAUSE_crowbar := hm.has 2 2 rfl (by decide)
  have k_RST_CAUSE_shutdown : Has m RST_CAUSE_shutdown := hm.has 2 3 rfl (by decide)
  have k_THM_STAT_shut : Has m THM_STAT_shut := hm.has 11 11 rfl (by decide)
  have k_THM_STAT_state : Has m THM_STAT_state := hm.has 11 5 rfl (by decide)
  have k_VRC_STAT_fault : Has m VRC_STAT_fault := hm.has 9 13 rfl (by decide)
  have k_VRC_STAT_state : Has m VRC_STAT_state := hm.has 9 7 rfl (by decide)
  have c_pins : m.testBit 24 = true := hm.bit 24 (by decide)
  have c_vrc : m.testBit 25 = true := hm.bit 25 (by decide)
  unfold State.keepLatches
  repeat' first
    | with_reducible assumption
    | (extract_lets -underBinder +onlyGivenNames x; have u : True := (by clear_value x; guard_hyp x :ₛ State; trivial); clear u; refine Frame.cut (m := m) (s0 := s0) (t := x) ?_ ?_; (on_goal 1 => subst x); (on_goal 2 => (intro hx; clear_value x)))
    | (extract_lets -underBinder +onlyGivenNames n; first | clear_value n | subst n)
    | with_reducible refine Frame.ite ?_ ?_
    | with_reducible refine wr_frame (by with_reducible assumption) ?_ _ _
    | with_reducible exact Frame.set_pins c_pins (by with_reducible assumption)
    | with_reducible exact Frame.set_vrc c_vrc (by with_reducible assumption)
    | split

def State.dieReset_foot : Nat := 0x2080000000000000000000820000000000000000000000000000000000000c0000000000ffffffffffffff36
theorem State.dieReset_frame (hm : Sub State.dieReset_foot m) (h : Frame m s0 s) :
    Frame m s0 (State.dieReset s) := by
  have s_State_cleared : Sub State.cleared_foot m := hm.of (by decide)
  have s_State_keepLatches : Sub State.keepLatches_foot m := hm.of (by decide)
  unfold State.dieReset
  repeat' first
    | with_reducible assumption
    | (extract_lets -underBinder +onlyGivenNames x; have u : True := (by clear_value x; guard_hyp x :ₛ State; trivial); clear u; refine Frame.cut (m := m) (s0 := s0) (t := x) ?_ ?_; (on_goal 1 => subst x); (on_goal 2 => (intro hx; clear_value x)))
    | (extract_lets -underBinder +onlyGivenNames n; first | clear_value n | subst n)
    | with_reducible refine Frame.ite ?_ ?_
    | with_reducible refine State.cleared_frame s_State_cleared ?_ _ _
    | with_reducible refine State.keepLatches_frame s_State_keepLatches ?_ _

def State.enterReset_foot : Nat := 0x208000000000000000000082000000000000000000000000000000000000fe0000000000ffffffffffffff36
theorem State.enterReset_frame (hm : Sub State.enterReset_foot m) (h : Frame m s0 s) :
    ∀ a1, Frame m s0 (State.enterReset s a1) := by
  intro a1
  have s_State_dieReset : Sub State.dieReset_foot m := hm.of (by decide)
  have k_RST_CAUSE_cause : Has m RST_CAUSE_cause := hm.has 2 1 rfl (by decide)
  have k_RST_COUNT_pll : Has m RST_COUNT_pll := hm.has 2 6 rfl (by decide)
  have k_RST_COUNT_poreset : Has m RST_COUNT_poreset := hm.has 2 4 rfl (by decide)
  have k_RST_COUNT_refclk : Has m RST_COUNT_refclk := hm.has 2 5 rfl (by decide)
  have k_RST_LAST_TS_ts : Has m RST_LAST_TS_ts := hm.has 2 7 rfl (by decide)
  unfold State.enterReset
  repeat' first
    | with_reducible assumption
    | (extract_lets -underBinder +onlyGivenNames x; have u : True := (by clear_value x; guard_hyp x :ₛ State; trivial); clear u; refine Frame.cut (m := m) (s0 := s0) (t := x) ?_ ?_; (on_goal 1 => subst x); (on_goal 2 => (intro hx; clear_value x)))
    | (extract_lets -underBinder +onlyGivenNames n; first | clear_value n | subst n)
    | with_reducible refine Frame.ite ?_ ?_
    | with_reducible refine wr_frame (by repeat' first | with_reducible assumption | with_reducible refine Has.ite ?_ ?_ | split) ?_ _ _
    | with_reducible refine bump_frame (by repeat' first | with_reducible assumption | with_reducible refine Has.ite ?_ ?_ | split) ?_ _
    | with_reducible refine State.dieReset_frame s_State_dieReset ?_
    | split

def supplyRise_foot : Nat := 0x2080000000000000000000820000000000000000000000000000000000000c0000000000ffffffffffffff36
theorem supplyRise_frame (hm : Sub supplyRise_foot m) (h : Frame m s0 s) :
    Frame m s0 (supplyRise s) := by
  have s_State_cleared : Sub State.cleared_foot m := hm.of (by decide)
  have s_State_keepLatches : Sub State.keepLatches_foot m := hm.of (by decide)
  unfold supplyRise
  repeat' first
    | with_reducible assumption
    | (extract_lets -underBinder +onlyGivenNames x; have u : True := (by clear_value x; guard_hyp x :ₛ State; trivial); clear u; refine Frame.cut (m := m) (s0 := s0) (t := x) ?_ ?_; (on_goal 1 => subst x); (on_goal 2 => (intro hx; clear_value x)))
    | (extract_lets -underBinder +onlyGivenNames n; first | clear_value n | subst n)
    | with_reducible refine Frame.ite ?_ ?_
    | with_reducible refine State.cleared_frame s_State_cleared ?_ _ _
    | with_reducible refine State.keepLatches_frame s_State_keepLatches ?_ _
    | split

def vddQfFall_foot : Nat := 0x2080000000000000000000820000000000000000000000000000000000000c0000000000ffffffffffffff36
theorem vddQfFall_frame (hm : Sub vddQfFall_foot m) (h : Frame m s0 s) :
    Frame m s0 (vddQfFall s) := by
  have s_State_dieReset : Sub State.dieReset_foot m := hm.of (by decide)
  have c_pins : m.testBit 24 = true := hm.bit 24 (by decide)
  have c_rst : m.testBit 35 = true := hm.bit 35 (by decide)
  unfold vddQfFall
  repeat' first
    | with_reducible assumption
    | (extract_lets -underBinder +onlyGivenNames x; have u : True := (by clear_value x; guard_hyp x :ₛ State; trivial); clear u; refine Frame.cut (m := m) (s0 := s0) (t := x) ?_ ?_; (on_goal 1 => subst x); (on_goal 2 => (intro hx; clear_value x)))
    | (extract_lets -underBinder +onlyGivenNames n; first | clear_value n | subst n)
    | with_reducible refine Frame.ite ?_ ?_
    | with_reducible refine State.dieReset_frame s_State_dieReset ?_
    | with_reducible exact Frame.set_pins_rst c_pins c_rst (by with_reducible assumption)
    | split

def supplyRemoval_foot : Nat := 0xc0000000000ffffffffffffff36
theorem supplyRemoval_frame (hm : Sub supplyRemoval_foot m) (h : Frame m s0 s) :
    Frame m s0 (supplyRemoval s) := by
  have s_State_cleared : Sub State.cleared_foot m := hm.of (by decide)
  have k_RST_CAUSE_crowbar : Has m RST_CAUSE_crowbar := hm.has 2 2 rfl (by decide)
  have k_RST_CAUSE_shutdown : Has m RST_CAUSE_shutdown := hm.has 2 3 rfl (by decide)
  unfold supplyRemoval
  repeat' first
    | with_reducible assumption
    | (extract_lets -underBinder +onlyGivenNames x; have u : True := (by clear_value x; guard_hyp x :ₛ State; trivial); clear u; refine Frame.cut (m := m) (s0 := s0) (t := x) ?_ ?_; (on_goal 1 => subst x); (on_goal 2 => (intro hx; clear_value x)))
    | (extract_lets -underBinder +onlyGivenNames n; first | clear_value n | subst n)
    | with_reducible refine Frame.ite ?_ ?_
    | with_reducible refine wr_frame (by with_reducible assumption) ?_ _ _
    | with_reducible refine State.cleared_frame s_State_cleared ?_ _ _

def poresetAssert_foot : Nat := 0x208000000000000000000082000000000000000000000000000000000000fe0000000000ffffffffffffff36
theorem poresetAssert_frame (hm : Sub poresetAssert_foot m) (h : Frame m s0 s) :
    Frame m s0 (poresetAssert s) := by
  have s_State_enterReset : Sub State.enterReset_foot m := hm.of (by decide)
  have c_rst : m.testBit 35 = true := hm.bit 35 (by decide)
  unfold poresetAssert
  repeat' first
    | with_reducible assumption
    | (extract_lets -underBinder +onlyGivenNames x; have u : True := (by clear_value x; guard_hyp x :ₛ State; trivial); clear u; refine Frame.cut (m := m) (s0 := s0) (t := x) ?_ ?_; (on_goal 1 => subst x); (on_goal 2 => (intro hx; clear_value x)))
    | (extract_lets -underBinder +onlyGivenNames n; first | clear_value n | subst n)
    | with_reducible refine Frame.ite ?_ ?_
    | with_reducible refine State.enterReset_frame s_State_enterReset ?_ _
    | with_reducible exact Frame.set_rst c_rst (by with_reducible assumption)
    | split

def poresetNegate_foot : Nat := 0x800000000
theorem poresetNegate_frame (hm : Sub poresetNegate_foot m) (h : Frame m s0 s) :
    Frame m s0 (poresetNegate s) := by
  have c_rst : m.testBit 35 = true := hm.bit 35 (by decide)
  unfold poresetNegate
  repeat' first
    | with_reducible assumption
    | (extract_lets -underBinder +onlyGivenNames x; have u : True := (by clear_value x; guard_hyp x :ₛ State; trivial); clear u; refine Frame.cut (m := m) (s0 := s0) (t := x) ?_ ?_; (on_goal 1 => subst x); (on_goal 2 => (intro hx; clear_value x)))
    | (extract_lets -underBinder +onlyGivenNames n; first | clear_value n | subst n)
    | with_reducible refine Frame.ite ?_ ?_
    | with_reducible exact Frame.set_rst c_rst (by with_reducible assumption)
    | split

def refclkLoss_foot : Nat := 0x208000000000000000000082000000000000000000000000000000000000fe0000000000ffffffffffffff36
theorem refclkLoss_frame (hm : Sub refclkLoss_foot m) (h : Frame m s0 s) :
    Frame m s0 (refclkLoss s) := by
  have s_State_enterReset : Sub State.enterReset_foot m := hm.of (by decide)
  have c_rst : m.testBit 35 = true := hm.bit 35 (by decide)
  unfold refclkLoss
  repeat' first
    | with_reducible assumption
    | (extract_lets -underBinder +onlyGivenNames x; have u : True := (by clear_value x; guard_hyp x :ₛ State; trivial); clear u; refine Frame.cut (m := m) (s0 := s0) (t := x) ?_ ?_; (on_goal 1 => subst x); (on_goal 2 => (intro hx; clear_value x)))
    | (extract_lets -underBinder +onlyGivenNames n; first | clear_value n | subst n)
    | with_reducible refine Frame.ite ?_ ?_
    | with_reducible refine State.enterReset_frame s_State_enterReset ?_ _
    | with_reducible exact Frame.set_rst c_rst (by with_reducible assumption)
    | split

def pllLockLoss_foot : Nat := 0x208000000000000000000082000000000000000000000000000000000000fe0000000000ffffffffffffff36
theorem pllLockLoss_frame (hm : Sub pllLockLoss_foot m) (h : Frame m s0 s) :
    Frame m s0 (pllLockLoss s) := by
  have s_State_enterReset : Sub State.enterReset_foot m := hm.of (by decide)
  unfold pllLockLoss
  repeat' first
    | with_reducible assumption
    | with_reducible refine Frame.ite ?_ ?_
    | with_reducible refine State.enterReset_frame s_State_enterReset ?_ _
    | split

def dieResetRelease_foot : Nat := 0x800000000
theorem dieResetRelease_frame (hm : Sub dieResetRelease_foot m) (h : Frame m s0 s) :
    Frame m s0 (dieResetRelease s) := by
  have c_rst : m.testBit 35 = true := hm.bit 35 (by decide)
  unfold dieResetRelease
  repeat' first
    | with_reducible assumption
    | (extract_lets -underBinder +onlyGivenNames x; have u : True := (by clear_value x; guard_hyp x :ₛ State; trivial); clear u; refine Frame.cut (m := m) (s0 := s0) (t := x) ?_ ?_; (on_goal 1 => subst x); (on_goal 2 => (intro hx; clear_value x)))
    | (extract_lets -underBinder +onlyGivenNames n; first | clear_value n | subst n)
    | with_reducible refine Frame.ite ?_ ?_
    | with_reducible exact Frame.set_rst c_rst (by with_reducible assumption)
    | split

def pllLock_foot : Nat := 0x2000000000000000000000800000006
theorem pllLock_frame (hm : Sub pllLock_foot m) (h : Frame m s0 s) :
    Frame m s0 (pllLock s) := by
  have k_MEM_STAT_clearing : Has m MEM_STAT_clearing := hm.has 3 1 rfl (by decide)
  have c_rst : m.testBit 35 = true := hm.bit 35 (by decide)
  have c_running : m.testBit 1 = true := hm.bit 1 (by decide)
  have c_ts : m.testBit 2 = true := hm.bit 2 (by decide)
  unfold pllLock
  repeat' first
    | with_reducible assumption
    | (extract_lets -underBinder +onlyGivenNames x; have u : True := (by clear_value x; guard_hyp x :ₛ State; trivial); clear u; refine Frame.cut (m := m) (s0 := s0) (t := x) ?_ ?_; (on_goal 1 => subst x); (on_goal 2 => (intro hx; clear_value x)))
    | (extract_lets -underBinder +onlyGivenNames n; first | clear_value n | subst n)
    | with_reducible refine Frame.ite ?_ ?_
    | with_reducible refine wr_frame (by with_reducible assumption) ?_ _ _
    | with_reducible exact Frame.set_running_ts_rst c_running c_ts c_rst (by with_reducible assumption)
    | split

def pllLockTimeout_foot : Nat := 0x200000000000000000800000000
theorem pllLockTimeout_frame (hm : Sub pllLockTimeout_foot m) (h : Frame m s0 s) :
    Frame m s0 (pllLockTimeout s) := by
  have k_RST_CAUSE_cause : Has m RST_CAUSE_cause := hm.has 2 1 rfl (by decide)
  have c_rst : m.testBit 35 = true := hm.bit 35 (by decide)
  unfold pllLockTimeout
  repeat' first
    | with_reducible assumption
    | (extract_lets -underBinder +onlyGivenNames x; have u : True := (by clear_value x; guard_hyp x :ₛ State; trivial); clear u; refine Frame.cut (m := m) (s0 := s0) (t := x) ?_ ?_; (on_goal 1 => subst x); (on_goal 2 => (intro hx; clear_value x)))
    | (extract_lets -underBinder +onlyGivenNames n; first | clear_value n | subst n)
    | with_reducible refine Frame.ite ?_ ?_
    | with_reducible refine wr_frame (by with_reducible assumption) ?_ _ _
    | with_reducible exact Frame.set_rst c_rst (by with_reducible assumption)
    | split

def State.discover_foot : Nat := 0x3600010000000000000000000000000000000000000000000000000000000000000000000000000000000000000000000000000000000000000000000000000000000000100
theorem State.discover_frame (hm : Sub State.discover_foot m) (h : Frame m s0 s) :
    ∀ a1, Frame m s0 (State.discover s a1) := by
  intro a1
  have s_State_emit : Sub State.emit_foot m := hm.of (by decide)
  have k_NVM_STAT_density : Has m NVM_STAT_density := hm.has 17 4 rfl (by decide)
  have k_NVM_STAT_found : Has m NVM_STAT_found := hm.has 17 1 rfl (by decide)
  have k_NVM_STAT_quad : Has m NVM_STAT_quad := hm.has 17 2 rfl (by decide)
  have k_NVM_STAT_sfdp : Has m NVM_STAT_sfdp := hm.has 17 5 rfl (by decide)
  unfold State.discover
  repeat' first
    | with_reducible assumption
    | (extract_lets -underBinder +onlyGivenNames x; have u : True := (by clear_value x; guard_hyp x :ₛ State; trivial); clear u; refine Frame.cut (m := m) (s0 := s0) (t := x) ?_ ?_; (on_goal 1 => subst x); (on_goal 2 => (intro hx; clear_value x)))
    | (extract_lets -underBinder +onlyGivenNames n; first | clear_value n | subst n)
    | with_reducible refine Frame.ite ?_ ?_
    | with_reducible refine wr_frame (by with_reducible assumption) ?_ _ _
    | with_reducible refine State.emit_frame s_State_emit ?_ _ _ _
    | split

def State.fwLoadStage_foot : Nat := 0x200000000010000000000000000000400000000
theorem State.fwLoadStage_frame (hm : Sub State.fwLoadStage_foot m) (h : Frame m s0 s) :
    Frame m s0 (State.fwLoadStage s) := by
  have s_State_setFwState : Sub State.setFwState_foot m := hm.of (by decide)
  have s_State_setFw : Sub State.setFw_foot m := hm.of (by decide)
  have k_RST_SEQ_stage : Has m RST_SEQ_stage := hm.has 2 8 rfl (by decide)
  unfold State.fwLoadStage
  repeat' first
    | with_reducible assumption
    | (extract_lets -underBinder +onlyGivenNames x; have u : True := (by clear_value x; guard_hyp x :ₛ State; trivial); clear u; refine Frame.cut (m := m) (s0 := s0) (t := x) ?_ ?_; (on_goal 1 => subst x); (on_goal 2 => (intro hx; clear_value x)))
    | (extract_lets -underBinder +onlyGivenNames n; first | clear_value n | subst n)
    | with_reducible refine Frame.ite ?_ ?_
    | with_reducible refine wr_frame (by with_reducible assumption) ?_ _ _
    | with_reducible refine State.setFwState_frame s_State_setFwState ?_ _ _
    | with_reducible refine State.setFw_frame s_State_setFw ?_ _
    | with_reducible refine Frame.foldTo ?_ (fun s x hs => ?_)
    | split

def sramClearDone_foot : Nat := 0x3600010000000000000000000000000000000000000000000000000000000000000000000000000000000000000000000000200000002010000000000000000000400000120
theorem sramClearDone_frame (hm : Sub sramClearDone_foot m) (h : Frame m s0 s) :
    ∀ a0 a1, Frame m s0 (sramClearDone a0 a1 s) := by
  intro a0 a1
  have s_State_setMask : Sub State.setMask_foot m := hm.of (by decide)
  have s_State_fwLoadStage : Sub State.fwLoadStage_foot m := hm.of (by decide)
  have s_State_discover : Sub State.discover_foot m := hm.of (by decide)
  have s_State_clearBank : Sub State.clearBank_foot m := hm.of (by decide)
  have k_MEM_STAT_clearing : Has m MEM_STAT_clearing := hm.has 3 1 rfl (by decide)
  unfold sramClearDone
  repeat' first
    | with_reducible assumption
    | (extract_lets -underBinder +onlyGivenNames x; have u : True := (by clear_value x; guard_hyp x :ₛ State; trivial); clear u; refine Frame.cut (m := m) (s0 := s0) (t := x) ?_ ?_; (on_goal 1 => subst x); (on_goal 2 => (intro hx; clear_value x)))
    | (extract_lets -underBinder +onlyGivenNames n; first | clear_value n | subst n)
    | with_reducible refine Frame.ite ?_ ?_
    | with_reducible refine State.setMask_frame s_State_setMask (by with_reducible assumption) ?_ _ _
    | with_reducible refine State.fwLoadStage_frame s_State_fwLoadStage ?_
    | with_reducible refine State.discover_frame s_State_discover ?_ _
    | with_reducible refine State.clearBank_frame s_State_clearBank ?_ _
    | split

def spiPortRelease_foot : Nat := 0x800000000000000000000000000000000000000000000000000000000000000000000000000000000000000000000000000000000000000000000000000000000100000000
theorem spiPortRelease_frame (hm : Sub spiPortRelease_foot m) (h : Frame m s0 s) :
    Frame m s0 (spiPortRelease s) := by
  have s_State_setNvm : Sub State.setNvm_foot m := hm.of (by decide)
  have k_NVM_STAT_busy : Has m NVM_STAT_busy := hm.has 17 3 rfl (by decide)
  unfold spiPortRelease
  repeat' first
    | with_reducible assumption
    | (extract_lets -underBinder +onlyGivenNames x; have u : True := (by clear_value x; guard_hyp x :ₛ State; trivial); clear u; refine Frame.cut (m := m) (s0 := s0) (t := x) ?_ ?_; (on_goal 1 => subst x); (on_goal 2 => (intro hx; clear_value x)))
    | (extract_lets -underBinder +onlyGivenNames n; first | clear_value n | subst n)
    | with_reducible refine Frame.ite ?_ ?_
    | with_reducible refine wr_frame (by with_reducible assumption) ?_ _ _
    | with_reducible refine State.setNvm_frame s_State_setNvm ?_ _
    | split

def State.boardEntries_foot : Nat := 0x1e01e0000000000000000000000000000000000000050000000
theorem State.boardEntries_frame (hm : Sub State.boardEntries_foot m) (h : Frame m s0 s) :
    ∀ a1 a2, Frame m s0 (State.boardEntries s a1 a2).1 := by
  intro a1 a2
  have s1 : Sub State.stageWrite_foot m := hm.of (by decide)
  induction a1 generalizing s a2 with
  | zero => exact h
  | succ n ih =>
    rw [State.boardEntries]
    split
    · exact h
    · exact ih (State.stageWrite_frame s1 h _ _ _ _ _) _

def State.startStage_foot : Nat := 0x50000000
theorem State.startStage_frame (hm : Sub State.startStage_foot m) (h : Frame m s0 s) :
    ∀ a1 a2, Frame m s0 (State.startStage s a1 a2) := by
  intro a1 a2
  have s_State_setThm : Sub State.setThm_foot m := hm.of (by decide)
  have s_State_setSlateRaw : Sub State.setSlateRaw_foot m := hm.of (by decide)
  unfold State.startStage
  repeat' first
    | with_reducible assumption
    | (extract_lets -underBinder +onlyGivenNames x; have u : True := (by clear_value x; guard_hyp x :ₛ State; trivial); clear u; refine Frame.cut (m := m) (s0 := s0) (t := x) ?_ ?_; (on_goal 1 => subst x); (on_goal 2 => (intro hx; clear_value x)))
    | (extract_lets -underBinder +onlyGivenNames n; first | clear_value n | subst n)
    | with_reducible refine Frame.ite ?_ ?_
    | with_reducible refine State.setThm_frame s_State_setThm ?_ _
    | with_reducible refine State.setSlateRaw_frame s_State_setSlateRaw ?_ _ _

def State.fixSlope_foot : Nat := 0x40000000
theorem State.fixSlope_frame (hm : Sub State.fixSlope_foot m) (h : Frame m s0 s) :
    ∀ a1, Frame m s0 (State.fixSlope s a1) := by
  intro a1
  have s_State_setSlateRaw : Sub State.setSlateRaw_foot m := hm.of (by decide)
  unfold State.fixSlope
  repeat' first
    | with_reducible assumption
    | (extract_lets -underBinder +onlyGivenNames x; have u : True := (by clear_value x; guard_hyp x :ₛ State; trivial); clear u; refine Frame.cut (m := m) (s0 := s0) (t := x) ?_ ?_; (on_goal 1 => subst x); (on_goal 2 => (intro hx; clear_value x)))
    | (extract_lets -underBinder +onlyGivenNames n; first | clear_value n | subst n)
    | with_reducible refine Frame.ite ?_ ?_
    | with_reducible refine State.setSlateRaw_frame s_State_setSlateRaw ?_ _ _
    | split

def State.afterConfig_foot : Nat := 0x2000000000000000000000000000000000000000000000000130000000000000000000804000080
theorem State.afterConfig_frame (hm : Sub State.afterConfig_foot m) (h : Frame m s0 s) :
    ∀ a1, Frame m s0 (State.afterConfig s a1) := by
  intro a1
  have s_State_enterPowerUp : Sub State.enterPowerUp_foot m := hm.of (by decide)
  have k_RST_SEQ_auto : Has m RST_SEQ_auto := hm.has 2 12 rfl (by decide)
  have k_RST_SEQ_cause : Has m RST_SEQ_cause := hm.has 2 9 rfl (by decide)
  have k_RST_SEQ_stage : Has m RST_SEQ_stage := hm.has 2 8 rfl (by decide)
  have c_rst : m.testBit 35 = true := hm.bit 35 (by decide)
  unfold State.afterConfig
  repeat' first
    | with_reducible assumption
    | (extract_lets -underBinder +onlyGivenNames x; have u : True := (by clear_value x; guard_hyp x :ₛ State; trivial); clear u; refine Frame.cut (m := m) (s0 := s0) (t := x) ?_ ?_; (on_goal 1 => subst x); (on_goal 2 => (intro hx; clear_value x)))
    | (extract_lets -underBinder +onlyGivenNames n; first | clear_value n | subst n)
    | with_reducible refine Frame.ite ?_ ?_
    | with_reducible refine wr_frame (by with_reducible assumption) ?_ _ _
    | with_reducible refine State.enterPowerUp_frame s_State_enterPowerUp ?_
    | with_reducible exact Frame.set_rst c_rst (by with_reducible assumption)
    | split

def State.startApply_foot : Nat := 0x3401ff67c80ffffffbf43fffe46307c6080800010c070f8ef3ffef805bfc019be601ff9001ffffffffc2680f82fffc3e81fffe7fff787f83f39fac380bde0ffb070001bf1f800e2f300ade0020000f414007fffdff5a0
theorem State.startApply_frame (hm : Sub State.startApply_foot m) (h : Frame m s0 s) :
    ∀ a1, Frame m s0 (State.startApply s a1) := by
  intro a1
  have s_State_nextTake : Sub State.nextTake_foot m := hm.of (by decide)
  have s_State_freeSlate : Sub State.freeSlate_foot m := hm.of (by decide)
  have s_State_afterConfig : Sub State.afterConfig_foot m := hm.of (by decide)
  have s_State_showBudget : Sub State.showBudget_foot m := hm.of (by decide)
  have s_State_applyShadow : Sub State.applyShadow_foot m := hm.of (by decide)
  have s_State_emit : Sub State.emit_foot m := hm.of (by decide)
  unfold State.startApply
  repeat' first
    | with_reducible assumption
    | (extract_lets -underBinder +onlyGivenNames x; have u : True := (by clear_value x; guard_hyp x :ₛ State; trivial); clear u; refine Frame.cut (m := m) (s0 := s0) (t := x) ?_ ?_; (on_goal 1 => subst x); (on_goal 2 => (intro hx; clear_value x)))
    | (extract_lets -underBinder +onlyGivenNames n; first | clear_value n | subst n)
    | with_reducible refine Frame.ite ?_ ?_
    | with_reducible refine State.nextTake_frame s_State_nextTake ?_
    | with_reducible refine State.freeSlate_frame s_State_freeSlate ?_ _
    | with_reducible refine State.afterConfig_frame s_State_afterConfig ?_ _
    | with_reducible refine State.showBudget_frame s_State_showBudget ?_
    | with_reducible refine State.applyShadow_frame s_State_applyShadow ?_ _
    | with_reducible refine State.emit_frame s_State_emit ?_ _ _ _

def State.startAlone_foot : Nat := 0x1e01e00000000000000000000000000000000000000d0000080
theorem State.startAlone_frame (hm : Sub State.startAlone_foot m) (h : Frame m s0 s) :
    ∀ a1 a2, Frame m s0 (State.startAlone s a1 a2) := by
  intro a1 a2
  have s_State_startStage : Sub State.startStage_foot m := hm.of (by decide)
  have s_State_freeSlate : Sub State.freeSlate_foot m := hm.of (by decide)
  have s_State_setSlt : Sub State.setSlt_foot m := hm.of (by decide)
  unfold State.startAlone
  repeat' first
    | with_reducible assumption
    | (extract_lets -underBinder +onlyGivenNames x; have u : True := (by clear_value x; guard_hyp x :ₛ State; trivial); clear u; refine Frame.cut (m := m) (s0 := s0) (t := x) ?_ ?_; (on_goal 1 => subst x); (on_goal 2 => (intro hx; clear_value x)))
    | (extract_lets -underBinder +onlyGivenNames n; first | clear_value n | subst n)
    | with_reducible refine Frame.ite ?_ ?_
    | with_reducible refine State.startStage_frame s_State_startStage ?_ _ _
    | with_reducible refine State.freeSlate_frame s_State_freeSlate ?_ _
    | with_reducible refine State.setSlt_frame s_State_setSlt ?_ _

def State.boardTake_foot : Nat := 0x3401ff67c80ffffffbf43fffe46307c6080800010c070f8ef3ffef805bfc019be601ff9001ffffffffc2680f82fffc3e81fffe7fff787f83f39fac380bde0ffb070001bf1f800e2f700ade0020000f414007fffdff5a0
theorem State.boardTake_frame (hm : Sub State.boardTake_foot m) (h : Frame m s0 s) :
    ∀ a1 a2 a3, Frame m s0 (State.boardTake s a1 a2 a3) := by
  intro a1 a2 a3
  have s_State_boardEntries : Sub State.boardEntries_foot m := hm.of (by decide)
  have s_State_startStage : Sub State.startStage_foot m := hm.of (by decide)
  have s_State_startAlone : Sub State.startAlone_foot m := hm.of (by decide)
  have s_State_startApply : Sub State.startApply_foot m := hm.of (by decide)
  have s_State_fixSlope : Sub State.fixSlope_foot m := hm.of (by decide)
  have s_State_refuseSlate : Sub State.refuseSlate_foot m := hm.of (by decide)
  have s_State_emit : Sub State.emit_foot m := hm.of (by decide)
  have k_RST_SEQ_board : Has m RST_SEQ_board := hm.has 2 10 rfl (by decide)
  unfold State.boardTake
  repeat' first
    | with_reducible assumption
    | (extract_lets -underBinder +onlyGivenNames x; have u : True := (by clear_value x; guard_hyp x :ₛ State; trivial); clear u; refine Frame.cut (m := m) (s0 := s0) (t := x) ?_ ?_; (on_goal 1 => subst x); (on_goal 2 => (intro hx; clear_value x)))
    | (extract_lets -underBinder +onlyGivenNames x; have u : True := (by clear_value x; guard_hyp x :ₛ State × Option (Nat × Nat); trivial); clear u; refine Frame.cut (m := m) (s0 := s0) (t := x.1) ?_ ?_; (on_goal 1 => subst x); (on_goal 2 => (intro hx; clear_value x)))
    | (extract_lets -underBinder +onlyGivenNames n; first | clear_value n | subst n)
    | with_reducible refine Frame.ite ?_ ?_
    | with_reducible refine wr_frame (by with_reducible assumption) ?_ _ _
    | with_reducible refine State.boardEntries_frame s_State_boardEntries ?_ _ _
    | with_reducible refine State.startStage_frame s_State_startStage ?_ _ _
    | with_reducible refine State.startAlone_frame s_State_startAlone ?_ _ _
    | with_reducible refine State.startApply_frame s_State_startApply ?_ _
    | with_reducible refine State.fixSlope_frame s_State_fixSlope ?_ _
    | with_reducible refine State.refuseSlate_frame s_State_refuseSlate ?_ _ _ _
    | with_reducible refine State.emit_frame s_State_emit ?_ _ _ _
    | with_reducible refine Frame.ofFst (by with_reducible assumption) ?_
    | split

def State.startSetEvent_foot : Nat := 0x10000000000000000000000000000000000000000000000000000000000000000000000000000000000000000000000000000000000000000000000000000000000100
theorem State.startSetEvent_frame (hm : Sub State.startSetEvent_foot m) (h : Frame m s0 s) :
    Frame m s0 (State.startSetEvent s) := by
  have s_State_emit : Sub State.emit_foot m := hm.of (by decide)
  unfold State.startSetEvent
  repeat' first
    | with_reducible assumption
    | with_reducible refine Frame.ite ?_ ?_
    | with_reducible refine State.emit_frame s_State_emit ?_ _ _ _
    | split

def State.bareTake_foot : Nat := 0x3401ff67c80ffffffbf43fffe46307c6080800010c070f8ef3ffef805bfc019be601ff9001ffffffffc2680f82fffc3e81fffe7fff787f83f39fac380bde0ffb070001bf1f800e2f700ade0020000f414007fffdff5a0
theorem State.bareTake_frame (hm : Sub State.bareTake_foot m) (h : Frame m s0 s) :
    ∀ a1 a2 a3, Frame m s0 (State.bareTake s a1 a2 a3) := by
  intro a1 a2 a3
  have s_State_startStage : Sub State.startStage_foot m := hm.of (by decide)
  have s_State_startApply : Sub State.startApply_foot m := hm.of (by decide)
  have s_State_emit : Sub State.emit_foot m := hm.of (by decide)
  have k_RST_SEQ_board : Has m RST_SEQ_board := hm.has 2 10 rfl (by decide)
  unfold State.bareTake
  repeat' first
    | with_reducible assumption
    | (extract_lets -underBinder +onlyGivenNames x; have u : True := (by clear_value x; guard_hyp x :ₛ State; trivial); clear u; refine Frame.cut (m := m) (s0 := s0) (t := x) ?_ ?_; (on_goal 1 => subst x); (on_goal 2 => (intro hx; clear_value x)))
    | (extract_lets -underBinder +onlyGivenNames n; first | clear_value n | subst n)
    | with_reducible refine Frame.ite ?_ ?_
    | with_reducible refine wr_frame (by with_reducible assumption) ?_ _ _
    | with_reducible refine State.startStage_frame s_State_startStage ?_ _ _
    | with_reducible refine State.startApply_frame s_State_startApply ?_ _
    | with_reducible refine State.emit_frame s_State_emit ?_ _ _ _
    | split

def startupTake_foot : Nat := 0x3401ff67c80ffffffbf43fffe46307c6080800010c070f8ef3ffef805bfc019be601ff9001ffffffffc2680f82fffc3e81fffe7fff787f83f39fac380bde0ffb070001bf1f800e2f700ade0020000f414007fffdff5a0
theorem startupTake_frame (hm : Sub startupTake_foot m) (h : Frame m s0 s) :
    Frame m s0 (startupTake s) := by
  have s_State_startSetEvent : Sub State.startSetEvent_foot m := hm.of (by decide)
  have s_State_bareTake : Sub State.bareTake_foot m := hm.of (by decide)
  have s_State_boardTake : Sub State.boardTake_foot m := hm.of (by decide)
  unfold startupTake
  repeat' first
    | with_reducible assumption
    | with_reducible refine Frame.ite ?_ ?_
    | with_reducible refine State.startSetEvent_frame s_State_startSetEvent ?_
    | with_reducible refine State.bareTake_frame s_State_bareTake ?_ _ _ _
    | with_reducible refine State.boardTake_frame s_State_boardTake ?_ _ _ _
    | split

def quefaReadyAssert_foot : Nat := 0x10000000000000000000000000000000000000000000000000000000000000000000000000000000000000000000000000000000030000000000000000000001001100
theorem quefaReadyAssert_frame (hm : Sub quefaReadyAssert_foot m) (h : Frame m s0 s) :
    Frame m s0 (quefaReadyAssert s) := by
  have s_State_emit : Sub State.emit_foot m := hm.of (by decide)
  have k_RST_SEQ_cause : Has m RST_SEQ_cause := hm.has 2 9 rfl (by decide)
  have k_RST_SEQ_stage : Has m RST_SEQ_stage := hm.has 2 8 rfl (by decide)
  have c_chks : m.testBit 12 = true := hm.bit 12 (by decide)
  have c_pins : m.testBit 24 = true := hm.bit 24 (by decide)
  unfold quefaReadyAssert
  repeat' first
    | with_reducible assumption
    | (extract_lets -underBinder +onlyGivenNames x; have u : True := (by clear_value x; guard_hyp x :ₛ State; trivial); clear u; refine Frame.cut (m := m) (s0 := s0) (t := x) ?_ ?_; (on_goal 1 => subst x); (on_goal 2 => (intro hx; clear_value x)))
    | (extract_lets -underBinder +onlyGivenNames n; first | clear_value n | subst n)
    | with_reducible refine Frame.ite ?_ ?_
    | with_reducible refine wr_frame (by with_reducible assumption) ?_ _ _
    | with_reducible refine State.emit_frame s_State_emit ?_ _ _ _
    | with_reducible exact Frame.set_chks_pins c_chks c_pins (by with_reducible assumption)
    | split

def shutdownDrainDone_foot : Nat := 0x100000000000000000000000000000808000100000000000000000000000000000000000000000000000002000020800000000008600180000000000000000000000000000000300000000000000000009af001180
theorem shutdownDrainDone_frame (hm : Sub shutdownDrainDone_foot m) (h : Frame m s0 s) :
    Frame m s0 (shutdownDrainDone s) := by
  have s_State_powerDown : Sub State.powerDown_foot m := hm.of (by decide)
  have s_State_pmbSettle : Sub State.pmbSettle_foot m := hm.of (by decide)
  have s_State_readyNegate : Sub State.readyNegate_foot m := hm.of (by decide)
  have c_rst : m.testBit 35 = true := hm.bit 35 (by decide)
  unfold shutdownDrainDone
  repeat' first
    | with_reducible assumption
    | (extract_lets -underBinder +onlyGivenNames x; have u : True := (by clear_value x; guard_hyp x :ₛ State; trivial); clear u; refine Frame.cut (m := m) (s0 := s0) (t := x) ?_ ?_; (on_goal 1 => subst x); (on_goal 2 => (intro hx; clear_value x)))
    | (extract_lets -underBinder +onlyGivenNames n; first | clear_value n | subst n)
    | with_reducible refine Frame.ite ?_ ?_
    | with_reducible refine State.powerDown_frame s_State_powerDown ?_
    | with_reducible refine State.pmbSettle_frame s_State_pmbSettle ?_
    | with_reducible refine State.readyNegate_frame s_State_readyNegate ?_ _
    | with_reducible exact Frame.set_rst c_rst (by with_reducible assumption)
    | split

def powerDownEnd_foot : Nat := 0x80800010000000000000000000000000000000000000000000000000000000000000000000000000000000000000000000000000000000010000000000000000000900000180
theorem powerDownEnd_frame (hm : Sub powerDownEnd_foot m) (h : Frame m s0 s) :
    Frame m s0 (powerDownEnd s) := by
  have s_State_mirrorCause : Sub State.mirrorCause_foot m := hm.of (by decide)
  have s_State_emit : Sub State.emit_foot m := hm.of (by decide)
  have k_RST_SEQ_stage : Has m RST_SEQ_stage := hm.has 2 8 rfl (by decide)
  have c_rst : m.testBit 35 = true := hm.bit 35 (by decide)
  unfold powerDownEnd
  repeat' first
    | with_reducible assumption
    | (extract_lets -underBinder +onlyGivenNames x; have u : True := (by clear_value x; guard_hyp x :ₛ State; trivial); clear u; refine Frame.cut (m := m) (s0 := s0) (t := x) ?_ ?_; (on_goal 1 => subst x); (on_goal 2 => (intro hx; clear_value x)))
    | (extract_lets -underBinder +onlyGivenNames n; first | clear_value n | subst n)
    | with_reducible refine Frame.ite ?_ ?_
    | with_reducible refine wr_frame (by with_reducible assumption) ?_ _ _
    | with_reducible refine State.mirrorCause_frame s_State_mirrorCause ?_ _
    | with_reducible refine State.emit_frame s_State_emit ?_ _ _ _
    | with_reducible exact Frame.set_rst c_rst (by with_reducible assumption)
    | split

def execSupplyRise_foot : Nat := 0x2080000000000000000000820000000000000000000000000000000000000c0000000000ffffffffffffff36
theorem execSupplyRise_frame (hm : Sub execSupplyRise_foot m) (h : Frame m s0 s) :
    ∃ t, execSupplyRise s = .next t ∧ Frame m s0 t := by
  have s_supplyRise : Sub supplyRise_foot m := hm.of (by decide)
  unfold execSupplyRise
  refine ⟨_, rfl, ?_⟩
  repeat' first
    | with_reducible assumption
    | with_reducible refine Frame.ite ?_ ?_
    | with_reducible refine supplyRise_frame s_supplyRise ?_

def execSupplyRemoval_foot : Nat := 0xc0000000000ffffffffffffff36
theorem execSupplyRemoval_frame (hm : Sub execSupplyRemoval_foot m) (h : Frame m s0 s) :
    ∃ t, execSupplyRemoval s = .next t ∧ Frame m s0 t := by
  have s_supplyRemoval : Sub supplyRemoval_foot m := hm.of (by decide)
  unfold execSupplyRemoval
  refine ⟨_, rfl, ?_⟩
  repeat' first
    | with_reducible assumption
    | with_reducible refine Frame.ite ?_ ?_
    | with_reducible refine supplyRemoval_frame s_supplyRemoval ?_

def execVddQfFall_foot : Nat := 0x2080000000000000000000820000000000000000000000000000000000000c0000000000ffffffffffffff36
theorem execVddQfFall_frame (hm : Sub execVddQfFall_foot m) (h : Frame m s0 s) :
    ∃ t, execVddQfFall s = .next t ∧ Frame m s0 t := by
  have s_vddQfFall : Sub vddQfFall_foot m := hm.of (by decide)
  unfold execVddQfFall
  refine ⟨_, rfl, ?_⟩
  repeat' first
    | with_reducible assumption
    | with_reducible refine Frame.ite ?_ ?_
    | with_reducible refine vddQfFall_frame s_vddQfFall ?_

def execPoresetAssert_foot : Nat := 0x208000000000000000000082000000000000000000000000000000000000fe0000000000ffffffffffffff36
theorem execPoresetAssert_frame (hm : Sub execPoresetAssert_foot m) (h : Frame m s0 s) :
    ∃ t, execPoresetAssert s = .next t ∧ Frame m s0 t := by
  have s_poresetAssert : Sub poresetAssert_foot m := hm.of (by decide)
  unfold execPoresetAssert
  refine ⟨_, rfl, ?_⟩
  repeat' first
    | with_reducible assumption
    | with_reducible refine Frame.ite ?_ ?_
    | with_reducible refine poresetAssert_frame s_poresetAssert ?_

def execPoresetNegate_foot : Nat := 0x800000000
theorem execPoresetNegate_frame (hm : Sub execPoresetNegate_foot m) (h : Frame m s0 s) :
    ∃ t, execPoresetNegate s = .next t ∧ Frame m s0 t := by
  have s_poresetNegate : Sub poresetNegate_foot m := hm.of (by decide)
  unfold execPoresetNegate
  refine ⟨_, rfl, ?_⟩
  repeat' first
    | with_reducible assumption
    | with_reducible refine Frame.ite ?_ ?_
    | with_reducible refine poresetNegate_frame s_poresetNegate ?_

def execRefclkLoss_foot : Nat := 0x208000000000000000000082000000000000000000000000000000000000fe0000000000ffffffffffffff36
theorem execRefclkLoss_frame (hm : Sub execRefclkLoss_foot m) (h : Frame m s0 s) :
    ∃ t, execRefclkLoss s = .next t ∧ Frame m s0 t := by
  have s_refclkLoss : Sub refclkLoss_foot m := hm.of (by decide)
  unfold execRefclkLoss
  refine ⟨_, rfl, ?_⟩
  repeat' first
    | with_reducible assumption
    | with_reducible refine Frame.ite ?_ ?_
    | with_reducible refine refclkLoss_frame s_refclkLoss ?_

def execPllLockLoss_foot : Nat := 0x208000000000000000000082000000000000000000000000000000000000fe0000000000ffffffffffffff36
theorem execPllLockLoss_frame (hm : Sub execPllLockLoss_foot m) (h : Frame m s0 s) :
    ∃ t, execPllLockLoss s = .next t ∧ Frame m s0 t := by
  have s_pllLockLoss : Sub pllLockLoss_foot m := hm.of (by decide)
  unfold execPllLockLoss
  refine ⟨_, rfl, ?_⟩
  repeat' first
    | with_reducible assumption
    | with_reducible refine Frame.ite ?_ ?_
    | with_reducible refine pllLockLoss_frame s_pllLockLoss ?_

def execDieResetRelease_foot : Nat := 0x800000000
theorem execDieResetRelease_frame (hm : Sub execDieResetRelease_foot m) (h : Frame m s0 s) :
    ∃ t, execDieResetRelease s = .next t ∧ Frame m s0 t := by
  have s_dieResetRelease : Sub dieResetRelease_foot m := hm.of (by decide)
  unfold execDieResetRelease
  refine ⟨_, rfl, ?_⟩
  repeat' first
    | with_reducible assumption
    | with_reducible refine Frame.ite ?_ ?_
    | with_reducible refine dieResetRelease_frame s_dieResetRelease ?_

def execPllLock_foot : Nat := 0x2000000000000000000000800000006
theorem execPllLock_frame (hm : Sub execPllLock_foot m) (h : Frame m s0 s) :
    ∃ t, execPllLock s = .next t ∧ Frame m s0 t := by
  have s_pllLock : Sub pllLock_foot m := hm.of (by decide)
  unfold execPllLock
  refine ⟨_, rfl, ?_⟩
  repeat' first
    | with_reducible assumption
    | with_reducible refine Frame.ite ?_ ?_
    | with_reducible refine pllLock_frame s_pllLock ?_

def execPllLockTimeout_foot : Nat := 0x200000000000000000800000000
theorem execPllLockTimeout_frame (hm : Sub execPllLockTimeout_foot m) (h : Frame m s0 s) :
    ∃ t, execPllLockTimeout s = .next t ∧ Frame m s0 t := by
  have s_pllLockTimeout : Sub pllLockTimeout_foot m := hm.of (by decide)
  unfold execPllLockTimeout
  refine ⟨_, rfl, ?_⟩
  repeat' first
    | with_reducible assumption
    | with_reducible refine Frame.ite ?_ ?_
    | with_reducible refine pllLockTimeout_frame s_pllLockTimeout ?_

def execSramClearDone_foot : Nat := 0x3600010000000000000000000000000000000000000000000000000000000000000000000000000000000000000000000000200000002010000000000000000000400000120
theorem execSramClearDone_frame (hm : Sub execSramClearDone_foot m) (h : Frame m s0 s) :
    ∀ a0 a1 a2 a3 a4 a5 a6, ∃ t, execSramClearDone a0 a1 a2 a3 a4 a5 a6 s = .next t ∧ Frame m s0 t := by
  intro a0 a1 a2 a3 a4 a5 a6
  have s_sramClearDone : Sub sramClearDone_foot m := hm.of (by decide)
  unfold execSramClearDone
  refine hubOn_frame (fun s h => ?_) h
  repeat' first
    | with_reducible assumption
    | with_reducible refine Frame.ite ?_ ?_
    | with_reducible refine sramClearDone_frame s_sramClearDone ?_ _ _

def execSpiPortRelease_foot : Nat := 0x800000000000000000000000000000000000000000000000000000000000000000000000000000000000000000000000000000000000000000000000000000000100000000
theorem execSpiPortRelease_frame (hm : Sub execSpiPortRelease_foot m) (h : Frame m s0 s) :
    ∃ t, execSpiPortRelease s = .next t ∧ Frame m s0 t := by
  have s_spiPortRelease : Sub spiPortRelease_foot m := hm.of (by decide)
  unfold execSpiPortRelease
  refine hubOn_frame (fun s h => ?_) h
  repeat' first
    | with_reducible assumption
    | with_reducible refine Frame.ite ?_ ?_
    | with_reducible refine spiPortRelease_frame s_spiPortRelease ?_

def execStartupTake_foot : Nat := 0x3401ff67c80ffffffbf43fffe46307c6080800010c070f8ef3ffef805bfc019be601ff9001ffffffffc2680f82fffc3e81fffe7fff787f83f39fac380bde0ffb070001bf1f800e2f700ade0020000f414007fffdff5a0
theorem execStartupTake_frame (hm : Sub execStartupTake_foot m) (h : Frame m s0 s) :
    ∃ t, execStartupTake s = .next t ∧ Frame m s0 t := by
  have s_startupTake : Sub startupTake_foot m := hm.of (by decide)
  unfold execStartupTake
  refine hubOn_frame (fun s h => ?_) h
  repeat' first
    | with_reducible assumption
    | with_reducible refine Frame.ite ?_ ?_
    | with_reducible refine startupTake_frame s_startupTake ?_

def execQuefaReadyAssert_foot : Nat := 0x10000000000000000000000000000000000000000000000000000000000000000000000000000000000000000000000000000000030000000000000000000001001100
theorem execQuefaReadyAssert_frame (hm : Sub execQuefaReadyAssert_foot m) (h : Frame m s0 s) :
    ∃ t, execQuefaReadyAssert s = .next t ∧ Frame m s0 t := by
  have s_quefaReadyAssert : Sub quefaReadyAssert_foot m := hm.of (by decide)
  unfold execQuefaReadyAssert
  refine hubOn_frame (fun s h => ?_) h
  repeat' first
    | with_reducible assumption
    | with_reducible refine Frame.ite ?_ ?_
    | with_reducible refine quefaReadyAssert_frame s_quefaReadyAssert ?_

def execShutdownDrainDone_foot : Nat := 0x100000000000000000000000000000808000100000000000000000000000000000000000000000000000002000020800000000008600180000000000000000000000000000000300000000000000000009af001180
theorem execShutdownDrainDone_frame (hm : Sub execShutdownDrainDone_foot m) (h : Frame m s0 s) :
    ∃ t, execShutdownDrainDone s = .next t ∧ Frame m s0 t := by
  have s_shutdownDrainDone : Sub shutdownDrainDone_foot m := hm.of (by decide)
  unfold execShutdownDrainDone
  refine hubOn_frame (fun s h => ?_) h
  repeat' first
    | with_reducible assumption
    | with_reducible refine Frame.ite ?_ ?_
    | with_reducible refine shutdownDrainDone_frame s_shutdownDrainDone ?_

def execPowerDownEnd_foot : Nat := 0x80800010000000000000000000000000000000000000000000000000000000000000000000000000000000000000000000000000000000010000000000000000000900000180
theorem execPowerDownEnd_frame (hm : Sub execPowerDownEnd_foot m) (h : Frame m s0 s) :
    ∃ t, execPowerDownEnd s = .next t ∧ Frame m s0 t := by
  have s_powerDownEnd : Sub powerDownEnd_foot m := hm.of (by decide)
  unfold execPowerDownEnd
  refine hubOn_frame (fun s h => ?_) h
  repeat' first
    | with_reducible assumption
    | with_reducible refine Frame.ite ?_ ?_
    | with_reducible refine powerDownEnd_frame s_powerDownEnd ?_

end Sys2Proof.Machine
end

