-- ==== Sys2Proof/Laws/FrameBoundary.lean ====
section
/-!
SUPPORT. Laws/FrameBoundary.lean: the footprint of every function of Machine/Boundary.lean, and that it writes nothing outside it.
-/
namespace Sys2Proof.Machine

set_option linter.all false

variable {m : Nat} {s0 s : State}

def State.evtBoundary_foot : Nat := 0x20000000000000000000000000000000000000000000000000000000000000000000000000000000000000000000000000000000000000000000000000000000000100
theorem State.evtBoundary_frame (hm : Sub State.evtBoundary_foot m) (h : Frame m s0 s) :
    Frame m s0 (State.evtBoundary s) := by
  have k_EVT_DROP_qmax : Has m EVT_DROP_qmax := hm.has 16 5 rfl (by decide)
  have c_recd : m.testBit 8 = true := hm.bit 8 (by decide)
  unfold State.evtBoundary
  repeat' first
    | with_reducible assumption
    | (extract_lets -underBinder +onlyGivenNames x; have u : True := (by clear_value x; guard_hyp x :ₛ State; trivial); clear u; refine Frame.cut (m := m) (s0 := s0) (t := x) ?_ ?_; (on_goal 1 => subst x); (on_goal 2 => (intro hx; clear_value x)))
    | (extract_lets -underBinder +onlyGivenNames n; first | subst n | clear_value n)
    | with_reducible refine Frame.ite ?_ ?_
    | with_reducible refine wr_frame (by with_reducible assumption) ?_ _ _
    | with_reducible exact Frame.set_recd c_recd (by first | exact List.prefix_rfl | exact List.prefix_append _ _) (by with_reducible assumption)

def State.rwtBoundary_foot : Nat := 0x10000000000000000000000000000000000000000000000000000000000000000000000000000000000000000000000000000000000000000000000000000040000100
theorem State.rwtBoundary_frame (hm : Sub State.rwtBoundary_foot m) (h : Frame m s0 s) :
    Frame m s0 (State.rwtBoundary s) := by
  have s_State_setSlt : Sub State.setSlt_foot m := hm.of (by decide)
  have s_State_emit : Sub State.emit_foot m := hm.of (by decide)
  unfold State.rwtBoundary
  repeat' first
    | with_reducible assumption
    | (extract_lets -underBinder +onlyGivenNames x; have u : True := (by clear_value x; guard_hyp x :ₛ State; trivial); clear u; refine Frame.cut (m := m) (s0 := s0) (t := x) ?_ ?_; (on_goal 1 => subst x); (on_goal 2 => (intro hx; clear_value x)))
    | (extract_lets -underBinder +onlyGivenNames n; first | clear_value n | subst n)
    | with_reducible refine Frame.ite ?_ ?_
    | with_reducible refine State.setSlt_frame s_State_setSlt ?_ _
    | with_reducible refine State.emit_frame s_State_emit ?_ _ _ _
    | split

def State.msEnd_foot : Nat := 0x300000000000000000000700000000020000000000000000000000000000000000000000000000000000000000000000000000000000000000000000000082521c0100
theorem State.msEnd_frame (hm : Sub State.msEnd_foot m) (h : Frame m s0 s) :
    Frame m s0 (State.msEnd s) := by
  have s_State_evtBoundary : Sub State.evtBoundary_foot m := hm.of (by decide)
  have s_State_fcsEvents : Sub State.fcsEvents_foot m := hm.of (by decide)
  have s_State_rwtBoundary : Sub State.rwtBoundary_foot m := hm.of (by decide)
  have s_State_trcBoundary : Sub State.trcBoundary_foot m := hm.of (by decide)
  have s_State_lpeBoundary : Sub State.lpeBoundary_foot m := hm.of (by decide)
  have s_State_xovrBoundary : Sub State.xovrBoundary_foot m := hm.of (by decide)
  have s_State_thmBoundary : Sub State.thmBoundary_foot m := hm.of (by decide)
  have s_State_vrcBoundary : Sub State.vrcBoundary_foot m := hm.of (by decide)
  have s_State_smbBoundary : Sub State.smbBoundary_foot m := hm.of (by decide)
  unfold State.msEnd
  repeat' first
    | with_reducible assumption
    | with_reducible refine Frame.ite ?_ ?_
    | with_reducible refine State.evtBoundary_frame s_State_evtBoundary ?_
    | with_reducible refine State.fcsEvents_frame s_State_fcsEvents ?_
    | with_reducible refine State.rwtBoundary_frame s_State_rwtBoundary ?_
    | with_reducible refine State.trcBoundary_frame s_State_trcBoundary ?_
    | with_reducible refine State.lpeBoundary_frame s_State_lpeBoundary ?_
    | with_reducible refine State.xovrBoundary_frame s_State_xovrBoundary ?_
    | with_reducible refine State.thmBoundary_frame s_State_thmBoundary ?_
    | with_reducible refine State.vrcBoundary_frame s_State_vrcBoundary ?_
    | with_reducible refine State.smbBoundary_frame s_State_smbBoundary ?_

def estimatorBoundary_foot : Nat := 0x80000000000000300002011000000000000700000600020000000000000000000000000000001800003400000000004100000000000000000000000000000000000000000082fa5e5780
theorem estimatorBoundary_frame (hm : Sub estimatorBoundary_foot m) (h : Frame m s0 s) :
    ∀ a0, Frame m s0 (estimatorBoundary a0 s) := by
  intro a0
  have s_State_msEnd : Sub State.msEnd_foot m := hm.of (by decide)
  have s_State_bridgeIdle : Sub State.bridgeIdle_foot m := hm.of (by decide)
  have s_State_tickSlots : Sub State.tickSlots_foot m := hm.of (by decide)
  have s_estimatorTick : Sub estimatorTick_foot m := hm.of (by decide)
  have s_State_cntZeroDone : Sub State.cntZeroDone_foot m := hm.of (by decide)
  unfold estimatorBoundary
  repeat' first
    | with_reducible assumption
    | (extract_lets -underBinder +onlyGivenNames x; have u : True := (by clear_value x; guard_hyp x :ₛ State; trivial); clear u; refine Frame.cut (m := m) (s0 := s0) (t := x) ?_ ?_; (on_goal 1 => subst x); (on_goal 2 => (intro hx; clear_value x)))
    | (extract_lets -underBinder +onlyGivenNames n; first | clear_value n | subst n)
    | with_reducible refine Frame.ite ?_ ?_
    | with_reducible refine State.msEnd_frame s_State_msEnd ?_
    | with_reducible refine State.bridgeIdle_frame s_State_bridgeIdle ?_
    | with_reducible refine State.tickSlots_frame s_State_tickSlots ?_ _
    | with_reducible refine estimatorTick_frame s_estimatorTick ?_
    | with_reducible refine State.cntZeroDone_frame s_State_cntZeroDone ?_ _
    | with_reducible refine Frame.foldl ?_ (fun s x hs => ?_)
    | split

def execEstimatorTick_foot : Nat := 0x80000000000000300002011000000000000700000600020000000000000000000000000000001800003400000000004100000000000000000000000000000000000000000082fa5e5780
theorem execEstimatorTick_frame (hm : Sub execEstimatorTick_foot m) (h : Frame m s0 s) :
    ∀ a0, ∃ t, execEstimatorTick a0 s = .next t ∧ Frame m s0 t := by
  intro a0
  have s_estimatorBoundary : Sub estimatorBoundary_foot m := hm.of (by decide)
  unfold execEstimatorTick
  refine hubOn_frame (fun s h => ?_) h
  repeat' first
    | with_reducible assumption
    | with_reducible refine Frame.ite ?_ ?_
    | with_reducible refine estimatorBoundary_frame s_estimatorBoundary ?_ _

end Sys2Proof.Machine
end

