-- ==== Sys2Proof/Laws/FrameCycle.lean ====
section
/-!
SUPPORT. Laws/FrameCycle.lean: the footprint of every function of Machine/Cycle.lean, and that it writes nothing outside it.
-/
namespace Sys2Proof.Machine

set_option linter.all false

variable {m : Nat} {s0 s : State}

def State.cycleEnd_foot : Nat := 0x10000480000000bc000000000000000000001000000000000801800000000000000000000000000020208000000000000000000000000031800000000000000000000000030000082c0000000000000050fd8b85a0
theorem State.cycleEnd_frame (hm : Sub State.cycleEnd_foot m) (h : Frame m s0 s) :
    Frame m s0 (State.cycleEnd s) := by
  have s_State_thmTrip : Sub State.thmTrip_foot m := hm.of (by decide)
  have s_State_fbJudge : Sub State.fbJudge_foot m := hm.of (by decide)
  have s_State_mgtAllocate : Sub State.mgtAllocate_foot m := hm.of (by decide)
  have s_State_tlyEnd : Sub State.tlyEnd_foot m := hm.of (by decide)
  have s_State_notePhases : Sub State.notePhases_foot m := hm.of (by decide)
  have s_State_bankCycles : Sub State.bankCycles_foot m := hm.of (by decide)
  unfold State.cycleEnd
  repeat' first
    | with_reducible assumption
    | with_reducible refine Frame.ite ?_ ?_
    | with_reducible refine State.thmTrip_frame s_State_thmTrip ?_
    | with_reducible refine State.fbJudge_frame s_State_fbJudge ?_
    | with_reducible refine State.mgtAllocate_frame s_State_mgtAllocate ?_
    | with_reducible refine State.tlyEnd_frame s_State_tlyEnd ?_
    | with_reducible refine State.notePhases_frame s_State_notePhases ?_
    | with_reducible refine State.bankCycles_frame s_State_bankCycles ?_

def State.cycleStart_foot : Nat := 0x4000000000000000000000000000000000000000000000000000000000000000000002040000
theorem State.cycleStart_frame (hm : Sub State.cycleStart_foot m) (h : Frame m s0 s) :
    Frame m s0 (State.cycleStart s) := by
  have s_State_moveEdges : Sub State.moveEdges_foot m := hm.of (by decide)
  have s_State_formFF : Sub State.formFF_foot m := hm.of (by decide)
  unfold State.cycleStart
  repeat' first
    | with_reducible assumption
    | with_reducible refine Frame.ite ?_ ?_
    | with_reducible refine State.moveEdges_frame s_State_moveEdges ?_
    | with_reducible refine State.formFF_frame s_State_formFF ?_

def State.hubCycle_foot : Nat := 0x10000480000000bc000000000000000000001000000000000801800000000000000000000000000020208000000000400000000000000031800000000000000000000000030000082c0000000000000050ff8f85a4
theorem State.hubCycle_frame (hm : Sub State.hubCycle_foot m) (h : Frame m s0 s) :
    Frame m s0 (State.hubCycle s) := by
  have s_State_cycleEnd : Sub State.cycleEnd_foot m := hm.of (by decide)
  have s_State_cycleStart : Sub State.cycleStart_foot m := hm.of (by decide)
  have c_ts : m.testBit 2 = true := hm.bit 2 (by decide)
  unfold State.hubCycle
  repeat' first
    | with_reducible assumption
    | (extract_lets -underBinder +onlyGivenNames x; have u : True := (by clear_value x; guard_hyp x :ₛ State; trivial); clear u; refine Frame.cut (m := m) (s0 := s0) (t := x) ?_ ?_; (on_goal 1 => subst x); (on_goal 2 => (intro hx; clear_value x)))
    | (extract_lets -underBinder +onlyGivenNames n; first | clear_value n | subst n)
    | with_reducible refine Frame.ite ?_ ?_
    | with_reducible refine State.cycleEnd_frame s_State_cycleEnd ?_
    | with_reducible refine State.cycleStart_frame s_State_cycleStart ?_
    | with_reducible exact Frame.set_ts c_ts (by with_reducible assumption)

end Sys2Proof.Machine
end

