-- ==== Sys2Proof/Laws/FrameTap.lean ====
section
/-!
SUPPORT. Laws/FrameTap.lean: the footprint of every function of Machine/Tap.lean, and that it writes nothing outside it.
-/
namespace Sys2Proof.Machine

set_option linter.all false

variable {m : Nat} {s0 s : State}

def State.tapViol_foot : Nat := 0x10000000000000000000000000000000000000000000000000000000000000000000000000000000000000000000000000000000000000000000000000000000000500
theorem State.tapViol_frame (hm : Sub State.tapViol_foot m) (h : Frame m s0 s) :
    ∀ a1 a2 a3, Frame m s0 (State.tapViol s a1 a2 a3) := by
  intro a1 a2 a3
  have s_State_emitLim : Sub State.emitLim_foot m := hm.of (by decide)
  have s_State_count : Sub State.count_foot m := hm.of (by decide)
  unfold State.tapViol
  repeat' first
    | with_reducible assumption
    | with_reducible refine Frame.ite ?_ ?_
    | with_reducible refine State.emitLim_frame s_State_emitLim ?_ _ _ _ _ _
    | with_reducible refine State.count_frame s_State_count ?_ _ _

def State.noteDispatch_foot : Nat := 0x40000
theorem State.noteDispatch_frame (hm : Sub State.noteDispatch_foot m) (h : Frame m s0 s) :
    ∀ a1 a2, Frame m s0 (State.noteDispatch s a1 a2) := by
  intro a1 a2
  have s_State_setFc : Sub State.setFc_foot m := hm.of (by decide)
  unfold State.noteDispatch
  repeat' first
    | with_reducible assumption
    | (extract_lets -underBinder +onlyGivenNames x; have u : True := (by clear_value x; guard_hyp x :ₛ State; trivial); clear u; refine Frame.cut (m := m) (s0 := s0) (t := x) ?_ ?_; (on_goal 1 => subst x); (on_goal 2 => (intro hx; clear_value x)))
    | (extract_lets -underBinder +onlyGivenNames n; first | clear_value n | subst n)
    | with_reducible refine Frame.ite ?_ ?_
    | with_reducible refine State.setFc_frame s_State_setFc ?_ _ _
    | split

def dispatch_foot : Nat := 0x10000000000000000000000000000000000000000000000000000000000000000000000000000000000000000000000000000000000000000800000000000000040d00
theorem dispatch_frame (hm : Sub dispatch_foot m) (h : Frame m s0 s) :
    ∀ a0 a1 a2 a3, Frame m s0 (dispatch a0 a1 a2 a3 s) := by
  intro a0 a1 a2 a3
  have s_State_noteDispatch : Sub State.noteDispatch_foot m := hm.of (by decide)
  have s_State_setLane : Sub State.setLane_foot m := hm.of (by decide)
  have s_State_tapViol : Sub State.tapViol_foot m := hm.of (by decide)
  have s_State_crossErr : Sub State.crossErr_foot m := hm.of (by decide)
  unfold dispatch
  repeat' first
    | with_reducible assumption
    | (extract_lets -underBinder +onlyGivenNames x; have u : True := (by clear_value x; guard_hyp x :ₛ State; trivial); clear u; refine Frame.cut (m := m) (s0 := s0) (t := x) ?_ ?_; (on_goal 1 => subst x); (on_goal 2 => (intro hx; clear_value x)))
    | (extract_lets -underBinder +onlyGivenNames n; first | clear_value n | subst n)
    | with_reducible refine Frame.ite ?_ ?_
    | with_reducible refine State.noteDispatch_frame s_State_noteDispatch ?_ _ _
    | with_reducible refine State.setLane_frame s_State_setLane ?_ _ _
    | with_reducible refine State.tapViol_frame s_State_tapViol ?_ _ _ _
    | with_reducible refine State.crossErr_frame s_State_crossErr ?_ _
    | split

def beginStrobe_foot : Nat := 0x700000000010000000000000004000000140000000000000000000000000000000000000000000000000000000000000000000000000000000000000000000000000000000140d00
theorem beginStrobe_frame (hm : Sub beginStrobe_foot m) (h : Frame m s0 s) :
    ∀ a0 a1 a2, Frame m s0 (beginStrobe a0 a1 a2 s) := by
  intro a0 a1 a2
  have s_State_setFc : Sub State.setFc_foot m := hm.of (by decide)
  have s_State_setLane : Sub State.setLane_foot m := hm.of (by decide)
  have s_State_tapViol : Sub State.tapViol_foot m := hm.of (by decide)
  have s_State_traceCmd : Sub State.traceCmd_foot m := hm.of (by decide)
  have s_State_resolveCmd : Sub State.resolveCmd_foot m := hm.of (by decide)
  have s_State_misuse : Sub State.misuse_foot m := hm.of (by decide)
  have s_State_count : Sub State.count_foot m := hm.of (by decide)
  have k_TLY_VIOL_nogrant : Has m TLY_VIOL_nogrant := hm.has 14 8 rfl (by decide)
  unfold beginStrobe
  repeat' first
    | with_reducible assumption
    | (extract_lets -underBinder +onlyGivenNames x; have u : True := (by clear_value x; guard_hyp x :ₛ State; trivial); clear u; refine Frame.cut (m := m) (s0 := s0) (t := x) ?_ ?_; (on_goal 1 => subst x); (on_goal 2 => (intro hx; clear_value x)))
    | (extract_lets -underBinder +onlyGivenNames n; first | clear_value n | subst n)
    | with_reducible refine Frame.ite ?_ ?_
    | with_reducible refine bump_frame (by with_reducible assumption) ?_ _
    | with_reducible refine State.setFc_frame s_State_setFc ?_ _ _
    | with_reducible refine State.setLane_frame s_State_setLane ?_ _ _
    | with_reducible refine State.tapViol_frame s_State_tapViol ?_ _ _ _
    | with_reducible refine State.traceCmd_frame s_State_traceCmd ?_ _ _ _ _ _ _
    | with_reducible refine State.resolveCmd_frame s_State_resolveCmd ?_ _ _ _ _
    | with_reducible refine State.misuse_frame s_State_misuse ?_ _ _ _ _
    | with_reducible refine State.count_frame s_State_count ?_ _ _
    | split

def endStrobe_foot : Nat := 0x700000000010000000000000000000000140000000000000000000000000000000000000000000000000000000000000000000000000000000000000000000000000000000148d00
theorem endStrobe_frame (hm : Sub endStrobe_foot m) (h : Frame m s0 s) :
    ∀ a0 a1 a2, Frame m s0 (endStrobe a0 a1 a2 s) := by
  intro a0 a1 a2
  have s_State_setFc : Sub State.setFc_foot m := hm.of (by decide)
  have s_State_setLane : Sub State.setLane_foot m := hm.of (by decide)
  have s_State_setObj : Sub State.setObj_foot m := hm.of (by decide)
  have s_State_tapViol : Sub State.tapViol_foot m := hm.of (by decide)
  have s_State_traceCmd : Sub State.traceCmd_foot m := hm.of (by decide)
  have s_State_resolveCmd : Sub State.resolveCmd_foot m := hm.of (by decide)
  unfold endStrobe
  repeat' first
    | with_reducible assumption
    | (extract_lets -underBinder +onlyGivenNames x; have u : True := (by clear_value x; guard_hyp x :ₛ State; trivial); clear u; refine Frame.cut (m := m) (s0 := s0) (t := x) ?_ ?_; (on_goal 1 => subst x); (on_goal 2 => (intro hx; clear_value x)))
    | (extract_lets -underBinder +onlyGivenNames n; first | clear_value n | subst n)
    | with_reducible refine Frame.ite ?_ ?_
    | with_reducible refine State.setFc_frame s_State_setFc ?_ _ _
    | with_reducible refine State.setLane_frame s_State_setLane ?_ _ _
    | with_reducible refine State.setObj_frame s_State_setObj ?_ _ _
    | with_reducible refine State.tapViol_frame s_State_tapViol ?_ _ _ _
    | with_reducible refine State.traceCmd_frame s_State_traceCmd ?_ _ _ _ _ _ _
    | with_reducible refine State.resolveCmd_frame s_State_resolveCmd ?_ _ _ _ _
    | split

def squashStrobe_foot : Nat := 0x70000000001000000000601700163f000140000000000000000000000000000000000000000000000280000000000000000000000000000000000000000000000000000000148d80
theorem squashStrobe_frame (hm : Sub squashStrobe_foot m) (h : Frame m s0 s) :
    ∀ a0 a1 a2, Frame m s0 (squashStrobe a0 a1 a2 s) := by
  intro a0 a1 a2
  have s_State_setFc : Sub State.setFc_foot m := hm.of (by decide)
  have s_State_freeObj : Sub State.freeObj_foot m := hm.of (by decide)
  have s_State_refuseReq : Sub State.refuseReq_foot m := hm.of (by decide)
  have s_State_setLane : Sub State.setLane_foot m := hm.of (by decide)
  have s_State_resolveCmd : Sub State.resolveCmd_foot m := hm.of (by decide)
  have s_State_showHeld : Sub State.showHeld_foot m := hm.of (by decide)
  unfold squashStrobe
  repeat' first
    | with_reducible assumption
    | (extract_lets -underBinder +onlyGivenNames x; have u : True := (by clear_value x; guard_hyp x :ₛ State; trivial); clear u; refine Frame.cut (m := m) (s0 := s0) (t := x) ?_ ?_; (on_goal 1 => subst x); (on_goal 2 => (intro hx; clear_value x)))
    | (extract_lets -underBinder +onlyGivenNames n; first | clear_value n | subst n)
    | with_reducible refine Frame.ite ?_ ?_
    | with_reducible refine State.setFc_frame s_State_setFc ?_ _ _
    | with_reducible refine State.freeObj_frame s_State_freeObj ?_ _
    | with_reducible refine State.refuseReq_frame s_State_refuseReq ?_ _ _
    | with_reducible refine State.setLane_frame s_State_setLane ?_ _ _
    | with_reducible refine State.resolveCmd_frame s_State_resolveCmd ?_ _ _ _ _
    | with_reducible refine State.showHeld_frame s_State_showHeld ?_ _
    | with_reducible refine Frame.foldl ?_ (fun s x hs => ?_)
    | split

def execDispatch_foot : Nat := 0x10000000000000000000000000000000000000000000000000000000000000000000000000000000000000000000000000000000000000000800000000000000040d00
theorem execDispatch_frame (hm : Sub execDispatch_foot m) (h : Frame m s0 s) :
    ∀ a0 a1 a2 a3, ∃ t, execDispatch a0 a1 a2 a3 s = .next t ∧ Frame m s0 t := by
  intro a0 a1 a2 a3
  have s_dispatch : Sub dispatch_foot m := hm.of (by decide)
  unfold execDispatch
  refine hubOn_frame (fun s h => ?_) h
  repeat' first
    | with_reducible assumption
    | with_reducible refine Frame.ite ?_ ?_
    | with_reducible refine dispatch_frame s_dispatch ?_ _ _ _ _
    | split

def execBeginStrobe_foot : Nat := 0x700000000010000000000000004000000140000000000000000000000000000000000000000000000000000000000000000000000000000000000000000000000000000000140d00
theorem execBeginStrobe_frame (hm : Sub execBeginStrobe_foot m) (h : Frame m s0 s) :
    ∀ a0 a1 a2, ∃ t, execBeginStrobe a0 a1 a2 s = .next t ∧ Frame m s0 t := by
  intro a0 a1 a2
  have s_beginStrobe : Sub beginStrobe_foot m := hm.of (by decide)
  unfold execBeginStrobe
  refine hubOn_frame (fun s h => ?_) h
  repeat' first
    | with_reducible assumption
    | with_reducible refine Frame.ite ?_ ?_
    | with_reducible refine beginStrobe_frame s_beginStrobe ?_ _ _ _

def execEndStrobe_foot : Nat := 0x700000000010000000000000000000000140000000000000000000000000000000000000000000000000000000000000000000000000000000000000000000000000000000148d00
theorem execEndStrobe_frame (hm : Sub execEndStrobe_foot m) (h : Frame m s0 s) :
    ∀ a0 a1 a2, ∃ t, execEndStrobe a0 a1 a2 s = .next t ∧ Frame m s0 t := by
  intro a0 a1 a2
  have s_endStrobe : Sub endStrobe_foot m := hm.of (by decide)
  unfold execEndStrobe
  refine hubOn_frame (fun s h => ?_) h
  repeat' first
    | with_reducible assumption
    | with_reducible refine Frame.ite ?_ ?_
    | with_reducible refine endStrobe_frame s_endStrobe ?_ _ _ _

def execSquashStrobe_foot : Nat := 0x70000000001000000000601700163f000140000000000000000000000000000000000000000000000280000000000000000000000000000000000000000000000000000000148d80
theorem execSquashStrobe_frame (hm : Sub execSquashStrobe_foot m) (h : Frame m s0 s) :
    ∀ a0 a1 a2, ∃ t, execSquashStrobe a0 a1 a2 s = .next t ∧ Frame m s0 t := by
  intro a0 a1 a2
  have s_squashStrobe : Sub squashStrobe_foot m := hm.of (by decide)
  unfold execSquashStrobe
  refine hubOn_frame (fun s h => ?_) h
  repeat' first
    | with_reducible assumption
    | with_reducible refine Frame.ite ?_ ?_
    | with_reducible refine squashStrobe_frame s_squashStrobe ?_ _ _ _

end Sys2Proof.Machine
end

