-- ==== Sys2Proof/Laws/Footprint.lean ====
section
/-!
SUPPORT. Laws/Footprint.lean: the footprint of every command, and that a command's next state differs from the state before nowhere
outside it, keeps both memories in canonical form and leaves the recorder's queue no shorter.
-/
namespace Sys2Proof.Machine

set_option linter.all false

/-- What each command may write. -/
def footprint : Instr → Nat
  | .supplyRise => execSupplyRise_foot
  | .supplyRemoval => execSupplyRemoval_foot
  | .poresetAssert => execPoresetAssert_foot
  | .poresetNegate => execPoresetNegate_foot
  | .refclkLoss => execRefclkLoss_foot
  | .pllLockLoss => execPllLockLoss_foot
  | .dieResetRelease => execDieResetRelease_foot
  | .pllLock => execPllLock_foot
  | .pllLockTimeout => execPllLockTimeout_foot
  | .sramClearDone _ _ _ _ _ _ _ => execSramClearDone_foot
  | .fwImageLoaded _ _ => execFwImageLoaded_foot
  | .spiPortRelease => execSpiPortRelease_foot
  | .fp3StartupRestore => execFp3StartupRestore_foot
  | .slot0Load => execSlot0Load_foot
  | .startupTake => execStartupTake_foot
  | .quefaReadyAssert => execQuefaReadyAssert_foot
  | .outpostReset _ _ => execOutpostReset_foot
  | .outpostRelease _ _ => execOutpostRelease_foot
  | .lnModeChange _ _ => execLnModeChange_foot
  | .dispatch _ _ _ _ => execDispatch_foot
  | .beginStrobe _ _ _ => execBeginStrobe_foot
  | .endStrobe _ _ _ => execEndStrobe_foot
  | .squashStrobe _ _ _ => execSquashStrobe_foot
  | .tallyRequest _ _ _ _ _ => execTallyRequest_foot
  | .tallyRequestPresent _ => execTallyRequestPresent_foot
  | .tallyAdmit _ => execTallyAdmit_foot
  | .tallyGrant _ => execTallyGrant_foot
  | .tallyRelease _ _ _ _ => execTallyRelease_foot
  | .tallyAutoRelease _ _ _ => execTallyAutoRelease_foot
  | .requestAged _ => execRequestAged_foot
  | .reservationTake _ => execReservationTake_foot
  | .reservationMet _ => execReservationMet_foot
  | .reservationRecall _ => execReservationRecall_foot
  | .recallNoProgress => execRecallNoProgress_foot
  | .recallEligible _ => execRecallEligible_foot
  | .tallyRegrant _ => execTallyRegrant_foot
  | .chokerWindow _ _ _ _ => execChokerWindow_foot
  | .rampTick => execRampTick_foot
  | .droopDetect _ _ _ => execDroopDetect_foot
  | .droopHoldExpire _ => execDroopHoldExpire_foot
  | .snsDrpForceWrite _ _ _ => execSnsDrpForceWrite_foot
  | .vrAlertAssert => execVrAlertAssert_foot
  | .vrAlertNegate => execVrAlertNegate_foot
  | .firebreakHoldoffExpire => execFirebreakHoldoffExpire_foot
  | .tlmFrame _ _ _ => execTlmFrame_foot
  | .tlmLaneDark _ => execTlmLaneDark_foot
  | .phaseStale _ => execPhaseStale_foot
  | .phaseFrozen _ => execPhaseFrozen_foot
  | .phaseTempStale _ => execPhaseTempStale_foot
  | .anchorConversion _ _ _ => execAnchorConversion_foot
  | .anchorPublish => execAnchorPublish_foot
  | .estimatorTick _ => execEstimatorTick_foot
  | .measFinalise => execMeasFinalise_foot
  | .calibrationApply => execCalibrationApply_foot
  | .periodicSnapshot _ => execPeriodicSnapshot_foot
  | .promptSnapshot _ => execPromptSnapshot_foot
  | .forecastOutput _ => execForecastOutput_foot
  | .fcstLoadComplete _ _ _ _ => execFcstLoadComplete_foot
  | .thermalStep => execThermalStep_foot
  | .thermalStepComplete => execThermalStepComplete_foot
  | .bandFall => execBandFall_foot
  | .shutdownDrainExpire => execShutdownDrainExpire_foot
  | .modelInit => execModelInit_foot
  | .reinitRecover => execReinitRecover_foot
  | .anchorCorrection => execAnchorCorrection_foot
  | .cplateLocal => execCplateLocal_foot
  | .thmTinWrite _ => execThmTinWrite_foot
  | .pidSample _ => execPidSample_foot
  | .vrefRampStep => execVrefRampStep_foot
  | .enableDrop => execEnableDrop_foot
  | .pwmPeriodStart => execPwmPeriodStart_foot
  | .phaseLeadingEdge _ => execPhaseLeadingEdge_foot
  | .deEnter => execDeEnter_foot
  | .iTotFormed => execITotFormed_foot
  | .uvTimeout => execUvTimeout_foot
  | .overVoltage => execOverVoltage_foot
  | .lastFaultFlashWrite => execLastFaultFlashWrite_foot
  | .trackDelivery _ => execTrackDelivery_foot
  | .trackHoldTimeout => execTrackHoldTimeout_foot
  | .pmbTransactionDone _ _ => execPmbTransactionDone_foot
  | .pmbGroupStart => execPmbGroupStart_foot
  | .pmbGroupTimeout => execPmbGroupTimeout_foot
  | .pmbGroupRetry => execPmbGroupRetry_foot
  | .pmbGroupOffTimeout => execPmbGroupOffTimeout_foot
  | .pmbSweepStart => execPmbSweepStart_foot
  | .pmbAlert _ => execPmbAlert_foot
  | .pmbBusStuck _ => execPmbBusStuck_foot
  | .loopRelease _ _ => execLoopRelease_foot
  | .loopSkip => execLoopSkip_foot
  | .loopEvaluation _ => execLoopEvaluation_foot
  | .reconciliation _ _ _ _ _ => execReconciliation_foot
  | .doorbellProdWrite _ _ => execDoorbellProdWrite_foot
  | .doorbellCqHeadWrite _ _ => execDoorbellCqHeadWrite_foot
  | .doorbellBadAccess _ _ _ _ => execDoorbellBadAccess_foot
  | .doorbellStray _ => execDoorbellStray_foot
  | .bucketLeak => execBucketLeak_foot
  | .descriptorFetched _ _ _ => execDescriptorFetched_foot
  | .fp2Turn => execFp2Turn_foot
  | .fabricError _ _ _ => execFabricError_foot
  | .hello => execHello_foot
  | .slateOpen => execSlateOpen_foot
  | .slateWrite _ => execSlateWrite_foot
  | .slateCheck => execSlateCheck_foot
  | .take => execTake_foot
  | .abandon => execAbandon_foot
  | .jobOpen => execJobOpen_foot
  | .jobClose => execJobClose_foot
  | .readEnergy => execReadEnergy_foot
  | .setTenantCap => execSetTenantCap_foot
  | .fcstLoad => execFcstLoad_foot
  | .traceStart => execTraceStart_foot
  | .traceStop => execTraceStop_foot
  | .traceFlush => execTraceFlush_foot
  | .cntDump => execCntDump_foot
  | .cntZero => execCntZero_foot
  | .stepEnter => execStepEnter_foot
  | .stepAdd => execStepAdd_foot
  | .stepLeave => execStepLeave_foot
  | .stepPresent _ => execStepPresent_foot
  | .evtRead => execEvtRead_foot
  | .evtClear => execEvtClear_foot
  | .timeSet => execTimeSet_foot
  | .quarantineResume => execQuarantineResume_foot
  | .quarantineReset => execQuarantineReset_foot
  | .quarantineResetDrained _ => execQuarantineResetDrained_foot
  | .hifSctlWrite _ => execHifSctlWrite_foot
  | .takeArmed => execTakeArmed_foot
  | .takeApply _ => execTakeApply_foot
  | .shutdownDrainDone => execShutdownDrainDone_foot
  | .powerDownEnd => execPowerDownEnd_foot
  | .rwtDirectWrite _ _ _ => execRwtDirectWrite_foot
  | .registerWrite _ _ _ _ => execRegisterWrite_foot
  | .registerLowWordRead _ _ _ _ _ => execRegisterLowWordRead_foot
  | .w1cWrite _ _ _ _ => execW1cWrite_foot
  | .snapshotSelect _ _ => execSnapshotSelect_foot
  | .memBuRead _ _ => execMemBuRead_foot
  | .memBuReadDone => execMemBuReadDone_foot
  | .fmStart _ => execFmStart_foot
  | .fmDone _ => execFmDone_foot
  | .evtCivLatch _ => execEvtCivLatch_foot
  | .wfgStart _ => execWfgStart_foot
  | .wfgAutoTrigger => execWfgAutoTrigger_foot
  | .wfgComplete => execWfgComplete_foot
  | .firmwareMemoryAccess _ _ _ _ _ _ => execFirmwareMemoryAccess_foot
  | .backgroundTest _ _ => execBackgroundTest_foot
  | .watchdogExpire _ => execWatchdogExpire_foot
  | .watchdogStrike _ => execWatchdogStrike_foot
  | .fwException _ _ => execFwException_foot
  | .eventRecordAccept => execEventRecordAccept_foot
  | .heartwoodProgram => execHeartwoodProgram_foot
  | .mirrorDeferExpire => execMirrorDeferExpire_foot
  | .flashOpDone => execFlashOpDone_foot
  | .flashOpTimeout _ => execFlashOpTimeout_foot
  | .smbIdent _ => execSmbIdent_foot
  | .smbStatus _ => execSmbStatus_foot
  | .smbTempHot _ => execSmbTempHot_foot
  | .smbAnchorLo _ => execSmbAnchorLo_foot
  | .smbAnchorHi _ => execSmbAnchorHi_foot
  | .smbTinRead _ => execSmbTinRead_foot
  | .smbTinWrite _ _ _ => execSmbTinWrite_foot
  | .smbPower _ => execSmbPower_foot
  | .smbLastfPageRead _ => execSmbLastfPageRead_foot
  | .smbLastfPageWrite _ _ _ => execSmbLastfPageWrite_foot
  | .smbLastf _ => execSmbLastf_foot
  | .smbEvtSel _ _ _ _ => execSmbEvtSel_foot
  | .smbEvtData _ _ => execSmbEvtData_foot
  | .smbTime _ => execSmbTime_foot
  | .smbBusTimeout => execSmbBusTimeout_foot
  | .traceConsumedReread _ => execTraceConsumedReread_foot
  | .traceHeaderUpdate => execTraceHeaderUpdate_foot
  | .traceGroupWrite => execTraceGroupWrite_foot
  | .traceTimeGroup => execTraceTimeGroup_foot
  | .traceSample => execTraceSample_foot
  | .fanPwmPeriod _ => execFanPwmPeriod_foot
  | .tachEdge _ => execTachEdge_foot
  | .tachTimeout _ => execTachTimeout_foot
  | .fanSpinupEnd _ => execFanSpinupEnd_foot
  | .fanRestEnd _ => execFanRestEnd_foot
  | .tsResync _ => execTsResync_foot
  | .dvfsRequest _ => execDvfsRequest_foot
  | .dvfsVoltageReady => execDvfsVoltageReady_foot
  | .dvfsSwitch => execDvfsSwitch_foot
  | .dvfsHalfParked => execDvfsHalfParked_foot
  | .dvfsLockTimeout => execDvfsLockTimeout_foot
  | .dvfsRetry => execDvfsRetry_foot
  | .mgtForward _ _ => execMgtForward_foot
  | .version _ _ => execVersion_foot
  | .demand _ _ => execDemand_foot
  | .grant _ _ => execGrant_foot
  | .heartbeat _ _ => execHeartbeat_foot
  | .leave _ _ => execLeave_foot
  | .csync _ _ => execCsync_foot
  | .csyncAck _ _ => execCsyncAck_foot
  | .clapReq _ _ _ => execClapReq_foot
  | .clapRsp _ _ _ => execClapRsp_foot
  | .clapRun => execClapRun_foot
  | .clapRunEnd => execClapRunEnd_foot
  | .epochBoundary => execEpochBoundary_foot
  | .demandSend => execDemandSend_foot
  | .salgorCutOff => execSalgorCutOff_foot
  | .csyncSend => execCsyncSend_foot
  | .grantSend => execGrantSend_foot
  | .orphanTimeout => execOrphanTimeout_foot
  | .versionResend => execVersionResend_foot
  | .coordinatorAlone => execCoordinatorAlone_foot
  | .bridgeUp => execBridgeUp_foot
  | .bridgeHb _ _ _ => execBridgeHb_foot
  | .bridgeSync _ _ _ => execBridgeSync_foot
  | .bridgeCkpt _ _ _ => execBridgeCkpt_foot
  | .bridgeMirror _ _ _ => execBridgeMirror_foot
  | .bridgeMack _ _ _ => execBridgeMack_foot
  | .bridgePrepare _ _ _ => execBridgePrepare_foot
  | .bridgeReady _ _ _ => execBridgeReady_foot
  | .bridgeRefuse _ _ _ => execBridgeRefuse_foot
  | .bridgeCommit _ _ _ => execBridgeCommit_foot
  | .bridgeAck _ _ _ => execBridgeAck_foot
  | .bridgeDone _ _ _ => execBridgeDone_foot
  | .bridgeAbort _ _ _ => execBridgeAbort_foot
  | .pairPrepareTimeout => execPairPrepareTimeout_foot
  | .bridgeDiepwr _ _ _ => execBridgeDiepwr_foot
  | .bridgePkg _ _ _ => execBridgePkg_foot
  | .bridgeCplate _ _ _ => execBridgeCplate_foot
  | .bridgeLedger _ _ _ => execBridgeLedger_foot
  | .bridgeSalg _ _ _ => execBridgeSalg_foot
  | .bridgePclapReq _ _ _ _ => execBridgePclapReq_foot
  | .bridgePclapRsp _ _ _ _ => execBridgePclapRsp_foot
  | .bridgeHandover _ _ _ => execBridgeHandover_foot
  | .bridgeRetransmit => execBridgeRetransmit_foot
  | .bridgeCheckpointTimer => execBridgeCheckpointTimer_foot
  | .bridgeLoss => execBridgeLoss_foot
  | .pairTakeover => execPairTakeover_foot
  | .pmbAlertMaskEnd => execPmbAlertMaskEnd_foot
  | .pmbBusFree => execPmbBusFree_foot
  | .coreStartDelay => execCoreStartDelay_foot
  | .vddQfFall => execVddQfFall_foot
  | .smbUndefinedCommand _ => execSmbUndefinedCommand_foot
  | .bridgeClapSend => execBridgeClapSend_foot

/-- Every command answers a next state, within its footprint. -/
theorem exec_frame (c : Instr) (s : State) : ∃ t, exec c s = .next t ∧ Frame (footprint c) s t := by
  cases c with
  | supplyRise => exact execSupplyRise_frame (Sub.refl _) (Frame.refl _ s)
  | supplyRemoval => exact execSupplyRemoval_frame (Sub.refl _) (Frame.refl _ s)
  | poresetAssert => exact execPoresetAssert_frame (Sub.refl _) (Frame.refl _ s)
  | poresetNegate => exact execPoresetNegate_frame (Sub.refl _) (Frame.refl _ s)
  | refclkLoss => exact execRefclkLoss_frame (Sub.refl _) (Frame.refl _ s)
  | pllLockLoss => exact execPllLockLoss_frame (Sub.refl _) (Frame.refl _ s)
  | dieResetRelease => exact execDieResetRelease_frame (Sub.refl _) (Frame.refl _ s)
  | pllLock => exact execPllLock_frame (Sub.refl _) (Frame.refl _ s)
  | pllLockTimeout => exact execPllLockTimeout_frame (Sub.refl _) (Frame.refl _ s)
  | sramClearDone bank sig rev dens erase4k fast qe => exact execSramClearDone_frame (Sub.refl _) (Frame.refl _ s) bank sig rev dens erase4k fast qe
  | fwImageLoaded n readOk => exact execFwImageLoaded_frame (Sub.refl _) (Frame.refl _ s) n readOk
  | spiPortRelease => exact execSpiPortRelease_frame (Sub.refl _) (Frame.refl _ s)
  | fp3StartupRestore => exact execFp3StartupRestore_frame (Sub.refl _) (Frame.refl _ s)
  | slot0Load => exact execSlot0Load_frame (Sub.refl _) (Frame.refl _ s)
  | startupTake => exact execStartupTake_frame (Sub.refl _) (Frame.refl _ s)
  | quefaReadyAssert => exact execQuefaReadyAssert_frame (Sub.refl _) (Frame.refl _ s)
  | outpostReset link n => exact execOutpostReset_frame (Sub.refl _) (Frame.refl _ s) link n
  | outpostRelease link n => exact execOutpostRelease_frame (Sub.refl _) (Frame.refl _ s) link n
  | lnModeChange core level => exact execLnModeChange_frame (Sub.refl _) (Frame.refl _ s) core level
  | dispatch core engine rec mismatch => exact execDispatch_frame (Sub.refl _) (Frame.refl _ s) core engine rec mismatch
  | beginStrobe core engine seq => exact execBeginStrobe_frame (Sub.refl _) (Frame.refl _ s) core engine seq
  | endStrobe core engine seq => exact execEndStrobe_frame (Sub.refl _) (Frame.refl _ s) core engine seq
  | squashStrobe core engine seq => exact execSquashStrobe_frame (Sub.refl _) (Frame.refl _ s) core engine seq
  | tallyRequest core engine seq coll mismatch => exact execTallyRequest_frame (Sub.refl _) (Frame.refl _ s) core engine seq coll mismatch
  | tallyRequestPresent choker => exact execTallyRequestPresent_frame (Sub.refl _) (Frame.refl _ s) choker
  | tallyAdmit tenant => exact execTallyAdmit_frame (Sub.refl _) (Frame.refl _ s) tenant
  | tallyGrant pool => exact execTallyGrant_frame (Sub.refl _) (Frame.refl _ s) pool
  | tallyRelease core engine id gen => exact execTallyRelease_frame (Sub.refl _) (Frame.refl _ s) core engine id gen
  | tallyAutoRelease core engine seq => exact execTallyAutoRelease_frame (Sub.refl _) (Frame.refl _ s) core engine seq
  | requestAged pool => exact execRequestAged_frame (Sub.refl _) (Frame.refl _ s) pool
  | reservationTake pool => exact execReservationTake_frame (Sub.refl _) (Frame.refl _ s) pool
  | reservationMet pool => exact execReservationMet_frame (Sub.refl _) (Frame.refl _ s) pool
  | reservationRecall pool => exact execReservationRecall_frame (Sub.refl _) (Frame.refl _ s) pool
  | recallNoProgress => exact execRecallNoProgress_frame (Sub.refl _) (Frame.refl _ s)
  | recallEligible choker => exact execRecallEligible_frame (Sub.refl _) (Frame.refl _ s) choker
  | tallyRegrant pool => exact execTallyRegrant_frame (Sub.refl _) (Frame.refl _ s) pool
  | chokerWindow choker slots unk bytes => exact execChokerWindow_frame (Sub.refl _) (Frame.refl _ s) choker slots unk bytes
  | rampTick => exact execRampTick_frame (Sub.refl _) (Frame.refl _ s)
  | droopDetect core n drops => exact execDroopDetect_frame (Sub.refl _) (Frame.refl _ s) core n drops
  | droopHoldExpire core => exact execDroopHoldExpire_frame (Sub.refl _) (Frame.refl _ s) core
  | snsDrpForceWrite core v n => exact execSnsDrpForceWrite_frame (Sub.refl _) (Frame.refl _ s) core v n
  | vrAlertAssert => exact execVrAlertAssert_frame (Sub.refl _) (Frame.refl _ s)
  | vrAlertNegate => exact execVrAlertNegate_frame (Sub.refl _) (Frame.refl _ s)
  | firebreakHoldoffExpire => exact execFirebreakHoldoffExpire_frame (Sub.refl _) (Frame.refl _ s)
  | tlmFrame lane frame overrun => exact execTlmFrame_frame (Sub.refl _) (Frame.refl _ s) lane frame overrun
  | tlmLaneDark lane => exact execTlmLaneDark_frame (Sub.refl _) (Frame.refl _ s) lane
  | phaseStale phase => exact execPhaseStale_frame (Sub.refl _) (Frame.refl _ s) phase
  | phaseFrozen phase => exact execPhaseFrozen_frame (Sub.refl _) (Frame.refl _ s) phase
  | phaseTempStale phase => exact execPhaseTempStale_frame (Sub.refl _) (Frame.refl _ s) phase
  | anchorConversion a ok raw => exact execAnchorConversion_frame (Sub.refl _) (Frame.refl _ s) a ok raw
  | anchorPublish => exact execAnchorPublish_frame (Sub.refl _) (Frame.refl _ s)
  | estimatorTick parts => exact execEstimatorTick_frame (Sub.refl _) (Frame.refl _ s) parts
  | measFinalise => exact execMeasFinalise_frame (Sub.refl _) (Frame.refl _ s)
  | calibrationApply => exact execCalibrationApply_frame (Sub.refl _) (Frame.refl _ s)
  | periodicSnapshot core => exact execPeriodicSnapshot_frame (Sub.refl _) (Frame.refl _ s) core
  | promptSnapshot core => exact execPromptSnapshot_frame (Sub.refl _) (Frame.refl _ s) core
  | forecastOutput slice => exact execForecastOutput_frame (Sub.refl _) (Frame.refl _ s) slice
  | fcstLoadComplete ok img peer slot => exact execFcstLoadComplete_frame (Sub.refl _) (Frame.refl _ s) ok img peer slot
  | thermalStep => exact execThermalStep_frame (Sub.refl _) (Frame.refl _ s)
  | thermalStepComplete => exact execThermalStepComplete_frame (Sub.refl _) (Frame.refl _ s)
  | bandFall => exact execBandFall_frame (Sub.refl _) (Frame.refl _ s)
  | shutdownDrainExpire => exact execShutdownDrainExpire_frame (Sub.refl _) (Frame.refl _ s)
  | modelInit => exact execModelInit_frame (Sub.refl _) (Frame.refl _ s)
  | reinitRecover => exact execReinitRecover_frame (Sub.refl _) (Frame.refl _ s)
  | anchorCorrection => exact execAnchorCorrection_frame (Sub.refl _) (Frame.refl _ s)
  | cplateLocal => exact execCplateLocal_frame (Sub.refl _) (Frame.refl _ s)
  | thmTinWrite v => exact execThmTinWrite_frame (Sub.refl _) (Frame.refl _ s) v
  | pidSample v => exact execPidSample_frame (Sub.refl _) (Frame.refl _ s) v
  | vrefRampStep => exact execVrefRampStep_frame (Sub.refl _) (Frame.refl _ s)
  | enableDrop => exact execEnableDrop_frame (Sub.refl _) (Frame.refl _ s)
  | pwmPeriodStart => exact execPwmPeriodStart_frame (Sub.refl _) (Frame.refl _ s)
  | phaseLeadingEdge phase => exact execPhaseLeadingEdge_frame (Sub.refl _) (Frame.refl _ s) phase
  | deEnter => exact execDeEnter_frame (Sub.refl _) (Frame.refl _ s)
  | iTotFormed => exact execITotFormed_frame (Sub.refl _) (Frame.refl _ s)
  | uvTimeout => exact execUvTimeout_frame (Sub.refl _) (Frame.refl _ s)
  | overVoltage => exact execOverVoltage_frame (Sub.refl _) (Frame.refl _ s)
  | lastFaultFlashWrite => exact execLastFaultFlashWrite_frame (Sub.refl _) (Frame.refl _ s)
  | trackDelivery vm => exact execTrackDelivery_frame (Sub.refl _) (Frame.refl _ s) vm
  | trackHoldTimeout => exact execTrackHoldTimeout_frame (Sub.refl _) (Frame.refl _ s)
  | pmbTransactionDone result data => exact execPmbTransactionDone_frame (Sub.refl _) (Frame.refl _ s) result data
  | pmbGroupStart => exact execPmbGroupStart_frame (Sub.refl _) (Frame.refl _ s)
  | pmbGroupTimeout => exact execPmbGroupTimeout_frame (Sub.refl _) (Frame.refl _ s)
  | pmbGroupRetry => exact execPmbGroupRetry_frame (Sub.refl _) (Frame.refl _ s)
  | pmbGroupOffTimeout => exact execPmbGroupOffTimeout_frame (Sub.refl _) (Frame.refl _ s)
  | pmbSweepStart => exact execPmbSweepStart_frame (Sub.refl _) (Frame.refl _ s)
  | pmbAlert low => exact execPmbAlert_frame (Sub.refl _) (Frame.refl _ s) low
  | pmbBusStuck still => exact execPmbBusStuck_frame (Sub.refl _) (Frame.refl _ s) still
  | loopRelease n overrun => exact execLoopRelease_frame (Sub.refl _) (Frame.refl _ s) n overrun
  | loopSkip => exact execLoopSkip_frame (Sub.refl _) (Frame.refl _ s)
  | loopEvaluation late => exact execLoopEvaluation_frame (Sub.refl _) (Frame.refl _ s) late
  | reconciliation other oh omc oma oheld => exact execReconciliation_frame (Sub.refl _) (Frame.refl _ s) other oh omc oma oheld
  | doorbellProdWrite off v => exact execDoorbellProdWrite_frame (Sub.refl _) (Frame.refl _ s) off v
  | doorbellCqHeadWrite off v => exact execDoorbellCqHeadWrite_frame (Sub.refl _) (Frame.refl _ s) off v
  | doorbellBadAccess off write width v => exact execDoorbellBadAccess_frame (Sub.refl _) (Frame.refl _ s) off write width v
  | doorbellStray off => exact execDoorbellStray_frame (Sub.refl _) (Frame.refl _ s) off
  | bucketLeak => exact execBucketLeak_frame (Sub.refl _) (Frame.refl _ s)
  | descriptorFetched r ok bytes => exact execDescriptorFetched_frame (Sub.refl _) (Frame.refl _ s) r ok bytes
  | fp2Turn => exact execFp2Turn_frame (Sub.refl _) (Frame.refl _ s)
  | fabricError kind ring idx => exact execFabricError_frame (Sub.refl _) (Frame.refl _ s) kind ring idx
  | hello => exact execHello_frame (Sub.refl _) (Frame.refl _ s)
  | slateOpen => exact execSlateOpen_frame (Sub.refl _) (Frame.refl _ s)
  | slateWrite data => exact execSlateWrite_frame (Sub.refl _) (Frame.refl _ s) data
  | slateCheck => exact execSlateCheck_frame (Sub.refl _) (Frame.refl _ s)
  | take => exact execTake_frame (Sub.refl _) (Frame.refl _ s)
  | abandon => exact execAbandon_frame (Sub.refl _) (Frame.refl _ s)
  | jobOpen => exact execJobOpen_frame (Sub.refl _) (Frame.refl _ s)
  | jobClose => exact execJobClose_frame (Sub.refl _) (Frame.refl _ s)
  | readEnergy => exact execReadEnergy_frame (Sub.refl _) (Frame.refl _ s)
  | setTenantCap => exact execSetTenantCap_frame (Sub.refl _) (Frame.refl _ s)
  | fcstLoad => exact execFcstLoad_frame (Sub.refl _) (Frame.refl _ s)
  | traceStart => exact execTraceStart_frame (Sub.refl _) (Frame.refl _ s)
  | traceStop => exact execTraceStop_frame (Sub.refl _) (Frame.refl _ s)
  | traceFlush => exact execTraceFlush_frame (Sub.refl _) (Frame.refl _ s)
  | cntDump => exact execCntDump_frame (Sub.refl _) (Frame.refl _ s)
  | cntZero => exact execCntZero_frame (Sub.refl _) (Frame.refl _ s)
  | stepEnter => exact execStepEnter_frame (Sub.refl _) (Frame.refl _ s)
  | stepAdd => exact execStepAdd_frame (Sub.refl _) (Frame.refl _ s)
  | stepLeave => exact execStepLeave_frame (Sub.refl _) (Frame.refl _ s)
  | stepPresent choker => exact execStepPresent_frame (Sub.refl _) (Frame.refl _ s) choker
  | evtRead => exact execEvtRead_frame (Sub.refl _) (Frame.refl _ s)
  | evtClear => exact execEvtClear_frame (Sub.refl _) (Frame.refl _ s)
  | timeSet => exact execTimeSet_frame (Sub.refl _) (Frame.refl _ s)
  | quarantineResume => exact execQuarantineResume_frame (Sub.refl _) (Frame.refl _ s)
  | quarantineReset => exact execQuarantineReset_frame (Sub.refl _) (Frame.refl _ s)
  | quarantineResetDrained t => exact execQuarantineResetDrained_frame (Sub.refl _) (Frame.refl _ s) t
  | hifSctlWrite v => exact execHifSctlWrite_frame (Sub.refl _) (Frame.refl _ s) v
  | takeArmed => exact execTakeArmed_frame (Sub.refl _) (Frame.refl _ s)
  | takeApply parity => exact execTakeApply_frame (Sub.refl _) (Frame.refl _ s) parity
  | shutdownDrainDone => exact execShutdownDrainDone_frame (Sub.refl _) (Frame.refl _ s)
  | powerDownEnd => exact execPowerDownEnd_frame (Sub.refl _) (Frame.refl _ s)
  | rwtDirectWrite priv wide off => exact execRwtDirectWrite_frame (Sub.refl _) (Frame.refl _ s) priv wide off
  | registerWrite priv wide off v => exact execRegisterWrite_frame (Sub.refl _) (Frame.refl _ s) priv wide off v
  | registerLowWordRead aperture master priv wide off => exact execRegisterLowWordRead_frame (Sub.refl _) (Frame.refl _ s) aperture master priv wide off
  | w1cWrite priv off v again => exact execW1cWrite_frame (Sub.refl _) (Frame.refl _ s) priv off v again
  | snapshotSelect sel v => exact execSnapshotSelect_frame (Sub.refl _) (Frame.refl _ s) sel v
  | memBuRead v ecc => exact execMemBuRead_frame (Sub.refl _) (Frame.refl _ s) v ecc
  | memBuReadDone => exact execMemBuReadDone_frame (Sub.refl _) (Frame.refl _ s)
  | fmStart v => exact execFmStart_frame (Sub.refl _) (Frame.refl _ s) v
  | fmDone edges => exact execFmDone_frame (Sub.refl _) (Frame.refl _ s) edges
  | evtCivLatch v => exact execEvtCivLatch_frame (Sub.refl _) (Frame.refl _ s) v
  | wfgStart v => exact execWfgStart_frame (Sub.refl _) (Frame.refl _ s) v
  | wfgAutoTrigger => exact execWfgAutoTrigger_frame (Sub.refl _) (Frame.refl _ s)
  | wfgComplete => exact execWfgComplete_frame (Sub.refl _) (Frame.refl _ s)
  | firmwareMemoryAccess master bank line write data ecc => exact execFirmwareMemoryAccess_frame (Sub.refl _) (Frame.refl _ s) master bank line write data ecc
  | backgroundTest fails ecc => exact execBackgroundTest_frame (Sub.refl _) (Frame.refl _ s) fails ecc
  | watchdogExpire n => exact execWatchdogExpire_frame (Sub.refl _) (Frame.refl _ s) n
  | watchdogStrike n => exact execWatchdogStrike_frame (Sub.refl _) (Frame.refl _ s) n
  | fwException n ecc => exact execFwException_frame (Sub.refl _) (Frame.refl _ s) n ecc
  | eventRecordAccept => exact execEventRecordAccept_frame (Sub.refl _) (Frame.refl _ s)
  | heartwoodProgram => exact execHeartwoodProgram_frame (Sub.refl _) (Frame.refl _ s)
  | mirrorDeferExpire => exact execMirrorDeferExpire_frame (Sub.refl _) (Frame.refl _ s)
  | flashOpDone => exact execFlashOpDone_frame (Sub.refl _) (Frame.refl _ s)
  | flashOpTimeout st => exact execFlashOpTimeout_frame (Sub.refl _) (Frame.refl _ s) st
  | smbIdent defined => exact execSmbIdent_frame (Sub.refl _) (Frame.refl _ s) defined
  | smbStatus defined => exact execSmbStatus_frame (Sub.refl _) (Frame.refl _ s) defined
  | smbTempHot defined => exact execSmbTempHot_frame (Sub.refl _) (Frame.refl _ s) defined
  | smbAnchorLo defined => exact execSmbAnchorLo_frame (Sub.refl _) (Frame.refl _ s) defined
  | smbAnchorHi defined => exact execSmbAnchorHi_frame (Sub.refl _) (Frame.refl _ s) defined
  | smbTinRead defined => exact execSmbTinRead_frame (Sub.refl _) (Frame.refl _ s) defined
  | smbTinWrite defined pec v => exact execSmbTinWrite_frame (Sub.refl _) (Frame.refl _ s) defined pec v
  | smbPower defined => exact execSmbPower_frame (Sub.refl _) (Frame.refl _ s) defined
  | smbLastfPageRead defined => exact execSmbLastfPageRead_frame (Sub.refl _) (Frame.refl _ s) defined
  | smbLastfPageWrite defined pec v => exact execSmbLastfPageWrite_frame (Sub.refl _) (Frame.refl _ s) defined pec v
  | smbLastf defined => exact execSmbLastf_frame (Sub.refl _) (Frame.refl _ s) defined
  | smbEvtSel defined pec region num => exact execSmbEvtSel_frame (Sub.refl _) (Frame.refl _ s) defined pec region num
  | smbEvtData defined inTime => exact execSmbEvtData_frame (Sub.refl _) (Frame.refl _ s) defined inTime
  | smbTime defined => exact execSmbTime_frame (Sub.refl _) (Frame.refl _ s) defined
  | smbBusTimeout => exact execSmbBusTimeout_frame (Sub.refl _) (Frame.refl _ s)
  | traceConsumedReread v => exact execTraceConsumedReread_frame (Sub.refl _) (Frame.refl _ s) v
  | traceHeaderUpdate => exact execTraceHeaderUpdate_frame (Sub.refl _) (Frame.refl _ s)
  | traceGroupWrite => exact execTraceGroupWrite_frame (Sub.refl _) (Frame.refl _ s)
  | traceTimeGroup => exact execTraceTimeGroup_frame (Sub.refl _) (Frame.refl _ s)
  | traceSample => exact execTraceSample_frame (Sub.refl _) (Frame.refl _ s)
  | fanPwmPeriod n => exact execFanPwmPeriod_frame (Sub.refl _) (Frame.refl _ s) n
  | tachEdge n => exact execTachEdge_frame (Sub.refl _) (Frame.refl _ s) n
  | tachTimeout n => exact execTachTimeout_frame (Sub.refl _) (Frame.refl _ s) n
  | fanSpinupEnd n => exact execFanSpinupEnd_frame (Sub.refl _) (Frame.refl _ s) n
  | fanRestEnd n => exact execFanRestEnd_frame (Sub.refl _) (Frame.refl _ s) n
  | tsResync found => exact execTsResync_frame (Sub.refl _) (Frame.refl _ s) found
  | dvfsRequest target => exact execDvfsRequest_frame (Sub.refl _) (Frame.refl _ s) target
  | dvfsVoltageReady => exact execDvfsVoltageReady_frame (Sub.refl _) (Frame.refl _ s)
  | dvfsSwitch => exact execDvfsSwitch_frame (Sub.refl _) (Frame.refl _ s)
  | dvfsHalfParked => exact execDvfsHalfParked_frame (Sub.refl _) (Frame.refl _ s)
  | dvfsLockTimeout => exact execDvfsLockTimeout_frame (Sub.refl _) (Frame.refl _ s)
  | dvfsRetry => exact execDvfsRetry_frame (Sub.refl _) (Frame.refl _ s)
  | mgtForward link m => exact execMgtForward_frame (Sub.refl _) (Frame.refl _ s) link m
  | version link m => exact execVersion_frame (Sub.refl _) (Frame.refl _ s) link m
  | demand link m => exact execDemand_frame (Sub.refl _) (Frame.refl _ s) link m
  | grant link m => exact execGrant_frame (Sub.refl _) (Frame.refl _ s) link m
  | heartbeat link m => exact execHeartbeat_frame (Sub.refl _) (Frame.refl _ s) link m
  | leave link m => exact execLeave_frame (Sub.refl _) (Frame.refl _ s) link m
  | csync link m => exact execCsync_frame (Sub.refl _) (Frame.refl _ s) link m
  | csyncAck link m => exact execCsyncAck_frame (Sub.refl _) (Frame.refl _ s) link m
  | clapReq link stamp m => exact execClapReq_frame (Sub.refl _) (Frame.refl _ s) link stamp m
  | clapRsp link stamp m => exact execClapRsp_frame (Sub.refl _) (Frame.refl _ s) link stamp m
  | clapRun => exact execClapRun_frame (Sub.refl _) (Frame.refl _ s)
  | clapRunEnd => exact execClapRunEnd_frame (Sub.refl _) (Frame.refl _ s)
  | epochBoundary => exact execEpochBoundary_frame (Sub.refl _) (Frame.refl _ s)
  | demandSend => exact execDemandSend_frame (Sub.refl _) (Frame.refl _ s)
  | salgorCutOff => exact execSalgorCutOff_frame (Sub.refl _) (Frame.refl _ s)
  | csyncSend => exact execCsyncSend_frame (Sub.refl _) (Frame.refl _ s)
  | grantSend => exact execGrantSend_frame (Sub.refl _) (Frame.refl _ s)
  | orphanTimeout => exact execOrphanTimeout_frame (Sub.refl _) (Frame.refl _ s)
  | versionResend => exact execVersionResend_frame (Sub.refl _) (Frame.refl _ s)
  | coordinatorAlone => exact execCoordinatorAlone_frame (Sub.refl _) (Frame.refl _ s)
  | bridgeUp => exact execBridgeUp_frame (Sub.refl _) (Frame.refl _ s)
  | bridgeHb hdr body crc => exact execBridgeHb_frame (Sub.refl _) (Frame.refl _ s) hdr body crc
  | bridgeSync hdr body crc => exact execBridgeSync_frame (Sub.refl _) (Frame.refl _ s) hdr body crc
  | bridgeCkpt hdr body crc => exact execBridgeCkpt_frame (Sub.refl _) (Frame.refl _ s) hdr body crc
  | bridgeMirror hdr body crc => exact execBridgeMirror_frame (Sub.refl _) (Frame.refl _ s) hdr body crc
  | bridgeMack hdr body crc => exact execBridgeMack_frame (Sub.refl _) (Frame.refl _ s) hdr body crc
  | bridgePrepare hdr body crc => exact execBridgePrepare_frame (Sub.refl _) (Frame.refl _ s) hdr body crc
  | bridgeReady hdr body crc => exact execBridgeReady_frame (Sub.refl _) (Frame.refl _ s) hdr body crc
  | bridgeRefuse hdr body crc => exact execBridgeRefuse_frame (Sub.refl _) (Frame.refl _ s) hdr body crc
  | bridgeCommit hdr body crc => exact execBridgeCommit_frame (Sub.refl _) (Frame.refl _ s) hdr body crc
  | bridgeAck hdr body crc => exact execBridgeAck_frame (Sub.refl _) (Frame.refl _ s) hdr body crc
  | bridgeDone hdr body crc => exact execBridgeDone_frame (Sub.refl _) (Frame.refl _ s) hdr body crc
  | bridgeAbort hdr body crc => exact execBridgeAbort_frame (Sub.refl _) (Frame.refl _ s) hdr body crc
  | pairPrepareTimeout => exact execPairPrepareTimeout_frame (Sub.refl _) (Frame.refl _ s)
  | bridgeDiepwr hdr body crc => exact execBridgeDiepwr_frame (Sub.refl _) (Frame.refl _ s) hdr body crc
  | bridgePkg hdr body crc => exact execBridgePkg_frame (Sub.refl _) (Frame.refl _ s) hdr body crc
  | bridgeCplate hdr body crc => exact execBridgeCplate_frame (Sub.refl _) (Frame.refl _ s) hdr body crc
  | bridgeLedger hdr body crc => exact execBridgeLedger_frame (Sub.refl _) (Frame.refl _ s) hdr body crc
  | bridgeSalg hdr body crc => exact execBridgeSalg_frame (Sub.refl _) (Frame.refl _ s) hdr body crc
  | bridgePclapReq hdr body crc stamp => exact execBridgePclapReq_frame (Sub.refl _) (Frame.refl _ s) hdr body crc stamp
  | bridgePclapRsp hdr body crc stamp => exact execBridgePclapRsp_frame (Sub.refl _) (Frame.refl _ s) hdr body crc stamp
  | bridgeHandover hdr body crc => exact execBridgeHandover_frame (Sub.refl _) (Frame.refl _ s) hdr body crc
  | bridgeRetransmit => exact execBridgeRetransmit_frame (Sub.refl _) (Frame.refl _ s)
  | bridgeCheckpointTimer => exact execBridgeCheckpointTimer_frame (Sub.refl _) (Frame.refl _ s)
  | bridgeLoss => exact execBridgeLoss_frame (Sub.refl _) (Frame.refl _ s)
  | pairTakeover => exact execPairTakeover_frame (Sub.refl _) (Frame.refl _ s)
  | pmbAlertMaskEnd => exact execPmbAlertMaskEnd_frame (Sub.refl _) (Frame.refl _ s)
  | pmbBusFree => exact execPmbBusFree_frame (Sub.refl _) (Frame.refl _ s)
  | coreStartDelay => exact execCoreStartDelay_frame (Sub.refl _) (Frame.refl _ s)
  | vddQfFall => exact execVddQfFall_frame (Sub.refl _) (Frame.refl _ s)
  | smbUndefinedCommand code => exact execSmbUndefinedCommand_frame (Sub.refl _) (Frame.refl _ s) code
  | bridgeClapSend => exact execBridgeClapSend_frame (Sub.refl _) (Frame.refl _ s)

/-- No command ends a run. -/
theorem exec_total (c : Instr) (s : State) : ∃ t, exec c s = .next t := (exec_frame c s).imp fun _ h => h.1

theorem Frame.of_exec {c : Instr} {s t : State} (h : exec c s = .next t) : Frame (footprint c) s t := by
  obtain ⟨u, e, f⟩ := exec_frame c s
  rw [e] at h; injection h with h; subst h; exact f

/-- A command keeps both memories in canonical form. -/
theorem exec_memOk {c : Instr} {s t : State} (h : exec c s = .next t) (hs : MemOk s) : MemOk t := (Frame.of_exec h).memOk hs

/-- A command whose footprint does not let the recorder's queue lose records leaves what stands in it. -/
theorem exec_queue {c : Instr} {s t : State} (h : exec c s = .next t) (hc : (footprint c).testBit 4 = false) :
    s.recd.queue <+: t.recd.queue := (Frame.of_exec h).queue hc

/-- With nothing waiting, a step is a hub cycle, or nothing in die reset. -/
theorem idle_frame (s : State) : Frame State.hubCycle_foot s s.idle := by
  unfold State.idle
  exact Frame.ite (State.hubCycle_frame (Sub.refl _) (Frame.refl _ s)) (Frame.refl _ s)

/-- A step keeps both memories in canonical form. -/
theorem step_memOk {s t : State} (h : step s = .next t) (hs : MemOk s) : MemOk t := by
  unfold step at h
  split at h
  · injection h with h; subst h; exact (idle_frame s).memOk hs
  · exact exec_memOk h hs

/-- Every step answers a next state. -/
theorem step_total (s : State) : ∃ t, step s = .next t := by
  unfold step
  split
  · exact ⟨_, rfl⟩
  · exact exec_total _ _

end Sys2Proof.Machine
end

