-- ==== Sys2Proof/Laws/State.lean ====
section
/-!
SUPPORT. Laws/State.lean: what each updater of State leaves: every other component, and every register field. True by rfl, for simp.
-/
namespace Sys2Proof.Machine

set_option linter.all false

variable (s : State)

@[simp] theorem State.wr_same (f : Fld) (i v : Nat) :
    (s.wr f i v).pending = s.pending ∧ (s.wr f i v).running = s.running ∧ (s.wr f i v).ts = s.ts ∧ (s.wr f i v).fuse = s.fuse ∧
    (s.wr f i v).mem = s.mem ∧ (s.wr f i v).flash = s.flash ∧ (s.wr f i v).out = s.out ∧ (s.wr f i v).recd = s.recd ∧
    (s.wr f i v).cnt = s.cnt ∧ (s.wr f i v).cntPend = s.cntPend ∧ (s.wr f i v).lanes = s.lanes ∧ (s.wr f i v).chks = s.chks ∧
    (s.wr f i v).droops = s.droops ∧ (s.wr f i v).cores = s.cores ∧ (s.wr f i v).tly = s.tly ∧ (s.wr f i v).ramp = s.ramp ∧
    (s.wr f i v).sns = s.sns ∧ (s.wr f i v).fcs = s.fcs ∧ (s.wr f i v).lpe = s.lpe ∧ (s.wr f i v).trc = s.trc ∧
    (s.wr f i v).wfg = s.wfg ∧ (s.wr f i v).cntZero = s.cntZero ∧ (s.wr f i v).dvfs = s.dvfs ∧ (s.wr f i v).pins = s.pins ∧
    (s.wr f i v).vrc = s.vrc ∧ (s.wr f i v).pmb = s.pmb ∧ (s.wr f i v).acc = s.acc ∧ (s.wr f i v).thm = s.thm ∧
    (s.wr f i v).hif = s.hif ∧ (s.wr f i v).slt = s.slt ∧ (s.wr f i v).par = s.par ∧ (s.wr f i v).nvm = s.nvm ∧
    (s.wr f i v).smb = s.smb ∧ (s.wr f i v).fw = s.fw ∧ (s.wr f i v).rst = s.rst ∧ (s.wr f i v).hub = s.hub ∧
    (s.wr f i v).fans = s.fans ∧ (s.wr f i v).mgt = s.mgt ∧ (s.wr f i v).xovrMs = s.xovrMs :=
  ⟨rfl, rfl, rfl, rfl, rfl, rfl, rfl, rfl, rfl, rfl, rfl, rfl, rfl, rfl, rfl, rfl, rfl, rfl, rfl, rfl, rfl, rfl, rfl, rfl, rfl, rfl, rfl, rfl, rfl, rfl, rfl, rfl, rfl, rfl, rfl, rfl, rfl, rfl, rfl⟩

@[simp] theorem State.addTo_same (f : Fld) (i v : Nat) :
    (s.addTo f i v).pending = s.pending ∧ (s.addTo f i v).running = s.running ∧ (s.addTo f i v).ts = s.ts ∧
    (s.addTo f i v).fuse = s.fuse ∧ (s.addTo f i v).mem = s.mem ∧ (s.addTo f i v).flash = s.flash ∧
    (s.addTo f i v).out = s.out ∧ (s.addTo f i v).recd = s.recd ∧ (s.addTo f i v).cnt = s.cnt ∧
    (s.addTo f i v).cntPend = s.cntPend ∧ (s.addTo f i v).lanes = s.lanes ∧ (s.addTo f i v).chks = s.chks ∧
    (s.addTo f i v).droops = s.droops ∧ (s.addTo f i v).cores = s.cores ∧ (s.addTo f i v).tly = s.tly ∧
    (s.addTo f i v).ramp = s.ramp ∧ (s.addTo f i v).sns = s.sns ∧ (s.addTo f i v).fcs = s.fcs ∧ (s.addTo f i v).lpe = s.lpe ∧
    (s.addTo f i v).trc = s.trc ∧ (s.addTo f i v).wfg = s.wfg ∧ (s.addTo f i v).cntZero = s.cntZero ∧
    (s.addTo f i v).dvfs = s.dvfs ∧ (s.addTo f i v).pins = s.pins ∧ (s.addTo f i v).vrc = s.vrc ∧ (s.addTo f i v).pmb = s.pmb ∧
    (s.addTo f i v).acc = s.acc ∧ (s.addTo f i v).thm = s.thm ∧ (s.addTo f i v).hif = s.hif ∧ (s.addTo f i v).slt = s.slt ∧
    (s.addTo f i v).par = s.par ∧ (s.addTo f i v).nvm = s.nvm ∧ (s.addTo f i v).smb = s.smb ∧ (s.addTo f i v).fw = s.fw ∧
    (s.addTo f i v).rst = s.rst ∧ (s.addTo f i v).hub = s.hub ∧ (s.addTo f i v).fans = s.fans ∧ (s.addTo f i v).mgt = s.mgt ∧
    (s.addTo f i v).xovrMs = s.xovrMs :=
  ⟨rfl, rfl, rfl, rfl, rfl, rfl, rfl, rfl, rfl, rfl, rfl, rfl, rfl, rfl, rfl, rfl, rfl, rfl, rfl, rfl, rfl, rfl, rfl, rfl, rfl, rfl, rfl, rfl, rfl, rfl, rfl, rfl, rfl, rfl, rfl, rfl, rfl, rfl, rfl⟩

@[simp] theorem State.bump_same (f : Fld) (i : Nat) :
    (s.bump f i).pending = s.pending ∧ (s.bump f i).running = s.running ∧ (s.bump f i).ts = s.ts ∧ (s.bump f i).fuse = s.fuse ∧
    (s.bump f i).mem = s.mem ∧ (s.bump f i).flash = s.flash ∧ (s.bump f i).out = s.out ∧ (s.bump f i).recd = s.recd ∧
    (s.bump f i).cnt = s.cnt ∧ (s.bump f i).cntPend = s.cntPend ∧ (s.bump f i).lanes = s.lanes ∧ (s.bump f i).chks = s.chks ∧
    (s.bump f i).droops = s.droops ∧ (s.bump f i).cores = s.cores ∧ (s.bump f i).tly = s.tly ∧ (s.bump f i).ramp = s.ramp ∧
    (s.bump f i).sns = s.sns ∧ (s.bump f i).fcs = s.fcs ∧ (s.bump f i).lpe = s.lpe ∧ (s.bump f i).trc = s.trc ∧
    (s.bump f i).wfg = s.wfg ∧ (s.bump f i).cntZero = s.cntZero ∧ (s.bump f i).dvfs = s.dvfs ∧ (s.bump f i).pins = s.pins ∧
    (s.bump f i).vrc = s.vrc ∧ (s.bump f i).pmb = s.pmb ∧ (s.bump f i).acc = s.acc ∧ (s.bump f i).thm = s.thm ∧
    (s.bump f i).hif = s.hif ∧ (s.bump f i).slt = s.slt ∧ (s.bump f i).par = s.par ∧ (s.bump f i).nvm = s.nvm ∧
    (s.bump f i).smb = s.smb ∧ (s.bump f i).fw = s.fw ∧ (s.bump f i).rst = s.rst ∧ (s.bump f i).hub = s.hub ∧
    (s.bump f i).fans = s.fans ∧ (s.bump f i).mgt = s.mgt ∧ (s.bump f i).xovrMs = s.xovrMs :=
  ⟨rfl, rfl, rfl, rfl, rfl, rfl, rfl, rfl, rfl, rfl, rfl, rfl, rfl, rfl, rfl, rfl, rfl, rfl, rfl, rfl, rfl, rfl, rfl, rfl, rfl, rfl, rfl, rfl, rfl, rfl, rfl, rfl, rfl, rfl, rfl, rfl, rfl, rfl, rfl⟩

@[simp] theorem State.send_same (a1 : Out) :
    (s.send a1).pending = s.pending ∧ (s.send a1).running = s.running ∧ (s.send a1).ts = s.ts ∧ (s.send a1).fuse = s.fuse ∧
    (s.send a1).regs = s.regs ∧ (s.send a1).mem = s.mem ∧ (s.send a1).flash = s.flash ∧ (s.send a1).recd = s.recd ∧
    (s.send a1).cnt = s.cnt ∧ (s.send a1).cntPend = s.cntPend ∧ (s.send a1).lanes = s.lanes ∧ (s.send a1).chks = s.chks ∧
    (s.send a1).droops = s.droops ∧ (s.send a1).cores = s.cores ∧ (s.send a1).tly = s.tly ∧ (s.send a1).ramp = s.ramp ∧
    (s.send a1).sns = s.sns ∧ (s.send a1).fcs = s.fcs ∧ (s.send a1).lpe = s.lpe ∧ (s.send a1).trc = s.trc ∧
    (s.send a1).wfg = s.wfg ∧ (s.send a1).cntZero = s.cntZero ∧ (s.send a1).dvfs = s.dvfs ∧ (s.send a1).pins = s.pins ∧
    (s.send a1).vrc = s.vrc ∧ (s.send a1).pmb = s.pmb ∧ (s.send a1).acc = s.acc ∧ (s.send a1).thm = s.thm ∧
    (s.send a1).hif = s.hif ∧ (s.send a1).slt = s.slt ∧ (s.send a1).par = s.par ∧ (s.send a1).nvm = s.nvm ∧
    (s.send a1).smb = s.smb ∧ (s.send a1).fw = s.fw ∧ (s.send a1).rst = s.rst ∧ (s.send a1).hub = s.hub ∧
    (s.send a1).fans = s.fans ∧ (s.send a1).mgt = s.mgt ∧ (s.send a1).xovrMs = s.xovrMs ∧ ∀ f i, (s.send a1).rd f i = s.rd f i :=
  ⟨rfl, rfl, rfl, rfl, rfl, rfl, rfl, rfl, rfl, rfl, rfl, rfl, rfl, rfl, rfl, rfl, rfl, rfl, rfl, rfl, rfl, rfl, rfl, rfl, rfl, rfl, rfl, rfl, rfl, rfl, rfl, rfl, rfl, rfl, rfl, rfl, rfl, rfl, rfl, fun _ _ => rfl⟩

@[simp] theorem State.writeBank_same (a1 : Nat) (a2 : Nat) (a3 : List Byte) :
    (s.writeBank a1 a2 a3).pending = s.pending ∧ (s.writeBank a1 a2 a3).running = s.running ∧
    (s.writeBank a1 a2 a3).ts = s.ts ∧ (s.writeBank a1 a2 a3).fuse = s.fuse ∧ (s.writeBank a1 a2 a3).regs = s.regs ∧
    (s.writeBank a1 a2 a3).flash = s.flash ∧ (s.writeBank a1 a2 a3).out = s.out ∧ (s.writeBank a1 a2 a3).recd = s.recd ∧
    (s.writeBank a1 a2 a3).cnt = s.cnt ∧ (s.writeBank a1 a2 a3).cntPend = s.cntPend ∧ (s.writeBank a1 a2 a3).lanes = s.lanes ∧
    (s.writeBank a1 a2 a3).chks = s.chks ∧ (s.writeBank a1 a2 a3).droops = s.droops ∧ (s.writeBank a1 a2 a3).cores = s.cores ∧
    (s.writeBank a1 a2 a3).tly = s.tly ∧ (s.writeBank a1 a2 a3).ramp = s.ramp ∧ (s.writeBank a1 a2 a3).sns = s.sns ∧
    (s.writeBank a1 a2 a3).fcs = s.fcs ∧ (s.writeBank a1 a2 a3).lpe = s.lpe ∧ (s.writeBank a1 a2 a3).trc = s.trc ∧
    (s.writeBank a1 a2 a3).wfg = s.wfg ∧ (s.writeBank a1 a2 a3).cntZero = s.cntZero ∧ (s.writeBank a1 a2 a3).dvfs = s.dvfs ∧
    (s.writeBank a1 a2 a3).pins = s.pins ∧ (s.writeBank a1 a2 a3).vrc = s.vrc ∧ (s.writeBank a1 a2 a3).pmb = s.pmb ∧
    (s.writeBank a1 a2 a3).acc = s.acc ∧ (s.writeBank a1 a2 a3).thm = s.thm ∧ (s.writeBank a1 a2 a3).hif = s.hif ∧
    (s.writeBank a1 a2 a3).slt = s.slt ∧ (s.writeBank a1 a2 a3).par = s.par ∧ (s.writeBank a1 a2 a3).nvm = s.nvm ∧
    (s.writeBank a1 a2 a3).smb = s.smb ∧ (s.writeBank a1 a2 a3).fw = s.fw ∧ (s.writeBank a1 a2 a3).rst = s.rst ∧
    (s.writeBank a1 a2 a3).hub = s.hub ∧ (s.writeBank a1 a2 a3).fans = s.fans ∧ (s.writeBank a1 a2 a3).mgt = s.mgt ∧
    (s.writeBank a1 a2 a3).xovrMs = s.xovrMs ∧ ∀ f i, (s.writeBank a1 a2 a3).rd f i = s.rd f i :=
  ⟨rfl, rfl, rfl, rfl, rfl, rfl, rfl, rfl, rfl, rfl, rfl, rfl, rfl, rfl, rfl, rfl, rfl, rfl, rfl, rfl, rfl, rfl, rfl, rfl, rfl, rfl, rfl, rfl, rfl, rfl, rfl, rfl, rfl, rfl, rfl, rfl, rfl, rfl, rfl, fun _ _ => rfl⟩

@[simp] theorem State.clearBank_same (a1 : Nat) :
    (s.clearBank a1).pending = s.pending ∧ (s.clearBank a1).running = s.running ∧ (s.clearBank a1).ts = s.ts ∧
    (s.clearBank a1).fuse = s.fuse ∧ (s.clearBank a1).regs = s.regs ∧ (s.clearBank a1).flash = s.flash ∧
    (s.clearBank a1).out = s.out ∧ (s.clearBank a1).recd = s.recd ∧ (s.clearBank a1).cnt = s.cnt ∧
    (s.clearBank a1).cntPend = s.cntPend ∧ (s.clearBank a1).lanes = s.lanes ∧ (s.clearBank a1).chks = s.chks ∧
    (s.clearBank a1).droops = s.droops ∧ (s.clearBank a1).cores = s.cores ∧ (s.clearBank a1).tly = s.tly ∧
    (s.clearBank a1).ramp = s.ramp ∧ (s.clearBank a1).sns = s.sns ∧ (s.clearBank a1).fcs = s.fcs ∧
    (s.clearBank a1).lpe = s.lpe ∧ (s.clearBank a1).trc = s.trc ∧ (s.clearBank a1).wfg = s.wfg ∧
    (s.clearBank a1).cntZero = s.cntZero ∧ (s.clearBank a1).dvfs = s.dvfs ∧ (s.clearBank a1).pins = s.pins ∧
    (s.clearBank a1).vrc = s.vrc ∧ (s.clearBank a1).pmb = s.pmb ∧ (s.clearBank a1).acc = s.acc ∧ (s.clearBank a1).thm = s.thm ∧
    (s.clearBank a1).hif = s.hif ∧ (s.clearBank a1).slt = s.slt ∧ (s.clearBank a1).par = s.par ∧ (s.clearBank a1).nvm = s.nvm ∧
    (s.clearBank a1).smb = s.smb ∧ (s.clearBank a1).fw = s.fw ∧ (s.clearBank a1).rst = s.rst ∧ (s.clearBank a1).hub = s.hub ∧
    (s.clearBank a1).fans = s.fans ∧ (s.clearBank a1).mgt = s.mgt ∧ (s.clearBank a1).xovrMs = s.xovrMs ∧
    ∀ f i, (s.clearBank a1).rd f i = s.rd f i :=
  ⟨rfl, rfl, rfl, rfl, rfl, rfl, rfl, rfl, rfl, rfl, rfl, rfl, rfl, rfl, rfl, rfl, rfl, rfl, rfl, rfl, rfl, rfl, rfl, rfl, rfl, rfl, rfl, rfl, rfl, rfl, rfl, rfl, rfl, rfl, rfl, rfl, rfl, rfl, rfl, fun _ _ => rfl⟩

@[simp] theorem State.setChk_same (a1 : Nat) (a2 : Chk) :
    (s.setChk a1 a2).pending = s.pending ∧ (s.setChk a1 a2).running = s.running ∧ (s.setChk a1 a2).ts = s.ts ∧
    (s.setChk a1 a2).fuse = s.fuse ∧ (s.setChk a1 a2).regs = s.regs ∧ (s.setChk a1 a2).mem = s.mem ∧
    (s.setChk a1 a2).flash = s.flash ∧ (s.setChk a1 a2).out = s.out ∧ (s.setChk a1 a2).recd = s.recd ∧
    (s.setChk a1 a2).cnt = s.cnt ∧ (s.setChk a1 a2).cntPend = s.cntPend ∧ (s.setChk a1 a2).lanes = s.lanes ∧
    (s.setChk a1 a2).droops = s.droops ∧ (s.setChk a1 a2).cores = s.cores ∧ (s.setChk a1 a2).tly = s.tly ∧
    (s.setChk a1 a2).ramp = s.ramp ∧ (s.setChk a1 a2).sns = s.sns ∧ (s.setChk a1 a2).fcs = s.fcs ∧
    (s.setChk a1 a2).lpe = s.lpe ∧ (s.setChk a1 a2).trc = s.trc ∧ (s.setChk a1 a2).wfg = s.wfg ∧
    (s.setChk a1 a2).cntZero = s.cntZero ∧ (s.setChk a1 a2).dvfs = s.dvfs ∧ (s.setChk a1 a2).pins = s.pins ∧
    (s.setChk a1 a2).vrc = s.vrc ∧ (s.setChk a1 a2).pmb = s.pmb ∧ (s.setChk a1 a2).acc = s.acc ∧ (s.setChk a1 a2).thm = s.thm ∧
    (s.setChk a1 a2).hif = s.hif ∧ (s.setChk a1 a2).slt = s.slt ∧ (s.setChk a1 a2).par = s.par ∧ (s.setChk a1 a2).nvm = s.nvm ∧
    (s.setChk a1 a2).smb = s.smb ∧ (s.setChk a1 a2).fw = s.fw ∧ (s.setChk a1 a2).rst = s.rst ∧ (s.setChk a1 a2).hub = s.hub ∧
    (s.setChk a1 a2).fans = s.fans ∧ (s.setChk a1 a2).mgt = s.mgt ∧ (s.setChk a1 a2).xovrMs = s.xovrMs ∧
    ∀ f i, (s.setChk a1 a2).rd f i = s.rd f i :=
  ⟨rfl, rfl, rfl, rfl, rfl, rfl, rfl, rfl, rfl, rfl, rfl, rfl, rfl, rfl, rfl, rfl, rfl, rfl, rfl, rfl, rfl, rfl, rfl, rfl, rfl, rfl, rfl, rfl, rfl, rfl, rfl, rfl, rfl, rfl, rfl, rfl, rfl, rfl, rfl, fun _ _ => rfl⟩

@[simp] theorem State.setCore_same (a1 : Nat) (a2 : CoreSt) :
    (s.setCore a1 a2).pending = s.pending ∧ (s.setCore a1 a2).running = s.running ∧ (s.setCore a1 a2).ts = s.ts ∧
    (s.setCore a1 a2).fuse = s.fuse ∧ (s.setCore a1 a2).regs = s.regs ∧ (s.setCore a1 a2).mem = s.mem ∧
    (s.setCore a1 a2).flash = s.flash ∧ (s.setCore a1 a2).out = s.out ∧ (s.setCore a1 a2).recd = s.recd ∧
    (s.setCore a1 a2).cnt = s.cnt ∧ (s.setCore a1 a2).cntPend = s.cntPend ∧ (s.setCore a1 a2).lanes = s.lanes ∧
    (s.setCore a1 a2).chks = s.chks ∧ (s.setCore a1 a2).droops = s.droops ∧ (s.setCore a1 a2).tly = s.tly ∧
    (s.setCore a1 a2).ramp = s.ramp ∧ (s.setCore a1 a2).sns = s.sns ∧ (s.setCore a1 a2).fcs = s.fcs ∧
    (s.setCore a1 a2).lpe = s.lpe ∧ (s.setCore a1 a2).trc = s.trc ∧ (s.setCore a1 a2).wfg = s.wfg ∧
    (s.setCore a1 a2).cntZero = s.cntZero ∧ (s.setCore a1 a2).dvfs = s.dvfs ∧ (s.setCore a1 a2).pins = s.pins ∧
    (s.setCore a1 a2).vrc = s.vrc ∧ (s.setCore a1 a2).pmb = s.pmb ∧ (s.setCore a1 a2).acc = s.acc ∧
    (s.setCore a1 a2).thm = s.thm ∧ (s.setCore a1 a2).hif = s.hif ∧ (s.setCore a1 a2).slt = s.slt ∧
    (s.setCore a1 a2).par = s.par ∧ (s.setCore a1 a2).nvm = s.nvm ∧ (s.setCore a1 a2).smb = s.smb ∧
    (s.setCore a1 a2).fw = s.fw ∧ (s.setCore a1 a2).rst = s.rst ∧ (s.setCore a1 a2).hub = s.hub ∧
    (s.setCore a1 a2).fans = s.fans ∧ (s.setCore a1 a2).mgt = s.mgt ∧ (s.setCore a1 a2).xovrMs = s.xovrMs ∧
    ∀ f i, (s.setCore a1 a2).rd f i = s.rd f i :=
  ⟨rfl, rfl, rfl, rfl, rfl, rfl, rfl, rfl, rfl, rfl, rfl, rfl, rfl, rfl, rfl, rfl, rfl, rfl, rfl, rfl, rfl, rfl, rfl, rfl, rfl, rfl, rfl, rfl, rfl, rfl, rfl, rfl, rfl, rfl, rfl, rfl, rfl, rfl, rfl, fun _ _ => rfl⟩

@[simp] theorem State.setDroop_same (a1 : Nat) (a2 : Droop) :
    (s.setDroop a1 a2).pending = s.pending ∧ (s.setDroop a1 a2).running = s.running ∧ (s.setDroop a1 a2).ts = s.ts ∧
    (s.setDroop a1 a2).fuse = s.fuse ∧ (s.setDroop a1 a2).regs = s.regs ∧ (s.setDroop a1 a2).mem = s.mem ∧
    (s.setDroop a1 a2).flash = s.flash ∧ (s.setDroop a1 a2).out = s.out ∧ (s.setDroop a1 a2).recd = s.recd ∧
    (s.setDroop a1 a2).cnt = s.cnt ∧ (s.setDroop a1 a2).cntPend = s.cntPend ∧ (s.setDroop a1 a2).lanes = s.lanes ∧
    (s.setDroop a1 a2).chks = s.chks ∧ (s.setDroop a1 a2).cores = s.cores ∧ (s.setDroop a1 a2).tly = s.tly ∧
    (s.setDroop a1 a2).ramp = s.ramp ∧ (s.setDroop a1 a2).sns = s.sns ∧ (s.setDroop a1 a2).fcs = s.fcs ∧
    (s.setDroop a1 a2).lpe = s.lpe ∧ (s.setDroop a1 a2).trc = s.trc ∧ (s.setDroop a1 a2).wfg = s.wfg ∧
    (s.setDroop a1 a2).cntZero = s.cntZero ∧ (s.setDroop a1 a2).dvfs = s.dvfs ∧ (s.setDroop a1 a2).pins = s.pins ∧
    (s.setDroop a1 a2).vrc = s.vrc ∧ (s.setDroop a1 a2).pmb = s.pmb ∧ (s.setDroop a1 a2).acc = s.acc ∧
    (s.setDroop a1 a2).thm = s.thm ∧ (s.setDroop a1 a2).hif = s.hif ∧ (s.setDroop a1 a2).slt = s.slt ∧
    (s.setDroop a1 a2).par = s.par ∧ (s.setDroop a1 a2).nvm = s.nvm ∧ (s.setDroop a1 a2).smb = s.smb ∧
    (s.setDroop a1 a2).fw = s.fw ∧ (s.setDroop a1 a2).rst = s.rst ∧ (s.setDroop a1 a2).hub = s.hub ∧
    (s.setDroop a1 a2).fans = s.fans ∧ (s.setDroop a1 a2).mgt = s.mgt ∧ (s.setDroop a1 a2).xovrMs = s.xovrMs ∧
    ∀ f i, (s.setDroop a1 a2).rd f i = s.rd f i :=
  ⟨rfl, rfl, rfl, rfl, rfl, rfl, rfl, rfl, rfl, rfl, rfl, rfl, rfl, rfl, rfl, rfl, rfl, rfl, rfl, rfl, rfl, rfl, rfl, rfl, rfl, rfl, rfl, rfl, rfl, rfl, rfl, rfl, rfl, rfl, rfl, rfl, rfl, rfl, rfl, fun _ _ => rfl⟩

@[simp] theorem State.setLane_same (a1 : Nat) (a2 : Lane) :
    (s.setLane a1 a2).pending = s.pending ∧ (s.setLane a1 a2).running = s.running ∧ (s.setLane a1 a2).ts = s.ts ∧
    (s.setLane a1 a2).fuse = s.fuse ∧ (s.setLane a1 a2).regs = s.regs ∧ (s.setLane a1 a2).mem = s.mem ∧
    (s.setLane a1 a2).flash = s.flash ∧ (s.setLane a1 a2).out = s.out ∧ (s.setLane a1 a2).recd = s.recd ∧
    (s.setLane a1 a2).cnt = s.cnt ∧ (s.setLane a1 a2).cntPend = s.cntPend ∧ (s.setLane a1 a2).chks = s.chks ∧
    (s.setLane a1 a2).droops = s.droops ∧ (s.setLane a1 a2).cores = s.cores ∧ (s.setLane a1 a2).tly = s.tly ∧
    (s.setLane a1 a2).ramp = s.ramp ∧ (s.setLane a1 a2).sns = s.sns ∧ (s.setLane a1 a2).fcs = s.fcs ∧
    (s.setLane a1 a2).lpe = s.lpe ∧ (s.setLane a1 a2).trc = s.trc ∧ (s.setLane a1 a2).wfg = s.wfg ∧
    (s.setLane a1 a2).cntZero = s.cntZero ∧ (s.setLane a1 a2).dvfs = s.dvfs ∧ (s.setLane a1 a2).pins = s.pins ∧
    (s.setLane a1 a2).vrc = s.vrc ∧ (s.setLane a1 a2).pmb = s.pmb ∧ (s.setLane a1 a2).acc = s.acc ∧
    (s.setLane a1 a2).thm = s.thm ∧ (s.setLane a1 a2).hif = s.hif ∧ (s.setLane a1 a2).slt = s.slt ∧
    (s.setLane a1 a2).par = s.par ∧ (s.setLane a1 a2).nvm = s.nvm ∧ (s.setLane a1 a2).smb = s.smb ∧
    (s.setLane a1 a2).fw = s.fw ∧ (s.setLane a1 a2).rst = s.rst ∧ (s.setLane a1 a2).hub = s.hub ∧
    (s.setLane a1 a2).fans = s.fans ∧ (s.setLane a1 a2).mgt = s.mgt ∧ (s.setLane a1 a2).xovrMs = s.xovrMs ∧
    ∀ f i, (s.setLane a1 a2).rd f i = s.rd f i :=
  ⟨rfl, rfl, rfl, rfl, rfl, rfl, rfl, rfl, rfl, rfl, rfl, rfl, rfl, rfl, rfl, rfl, rfl, rfl, rfl, rfl, rfl, rfl, rfl, rfl, rfl, rfl, rfl, rfl, rfl, rfl, rfl, rfl, rfl, rfl, rfl, rfl, rfl, rfl, rfl, fun _ _ => rfl⟩

@[simp] theorem State.setPar_same (a1 : Par) :
    (s.setPar a1).pending = s.pending ∧ (s.setPar a1).running = s.running ∧ (s.setPar a1).ts = s.ts ∧
    (s.setPar a1).fuse = s.fuse ∧ (s.setPar a1).regs = s.regs ∧ (s.setPar a1).mem = s.mem ∧ (s.setPar a1).flash = s.flash ∧
    (s.setPar a1).out = s.out ∧ (s.setPar a1).recd = s.recd ∧ (s.setPar a1).cnt = s.cnt ∧ (s.setPar a1).cntPend = s.cntPend ∧
    (s.setPar a1).lanes = s.lanes ∧ (s.setPar a1).chks = s.chks ∧ (s.setPar a1).droops = s.droops ∧
    (s.setPar a1).cores = s.cores ∧ (s.setPar a1).tly = s.tly ∧ (s.setPar a1).ramp = s.ramp ∧ (s.setPar a1).sns = s.sns ∧
    (s.setPar a1).fcs = s.fcs ∧ (s.setPar a1).lpe = s.lpe ∧ (s.setPar a1).trc = s.trc ∧ (s.setPar a1).wfg = s.wfg ∧
    (s.setPar a1).cntZero = s.cntZero ∧ (s.setPar a1).dvfs = s.dvfs ∧ (s.setPar a1).pins = s.pins ∧ (s.setPar a1).vrc = s.vrc ∧
    (s.setPar a1).pmb = s.pmb ∧ (s.setPar a1).acc = s.acc ∧ (s.setPar a1).thm = s.thm ∧ (s.setPar a1).hif = s.hif ∧
    (s.setPar a1).slt = s.slt ∧ (s.setPar a1).nvm = s.nvm ∧ (s.setPar a1).smb = s.smb ∧ (s.setPar a1).fw = s.fw ∧
    (s.setPar a1).rst = s.rst ∧ (s.setPar a1).hub = s.hub ∧ (s.setPar a1).fans = s.fans ∧ (s.setPar a1).mgt = s.mgt ∧
    (s.setPar a1).xovrMs = s.xovrMs ∧ ∀ f i, (s.setPar a1).rd f i = s.rd f i :=
  ⟨rfl, rfl, rfl, rfl, rfl, rfl, rfl, rfl, rfl, rfl, rfl, rfl, rfl, rfl, rfl, rfl, rfl, rfl, rfl, rfl, rfl, rfl, rfl, rfl, rfl, rfl, rfl, rfl, rfl, rfl, rfl, rfl, rfl, rfl, rfl, rfl, rfl, rfl, rfl, fun _ _ => rfl⟩

@[simp] theorem State.setPar_val (a1 : Par) : (s.setPar a1).par = a1 := rfl

@[simp] theorem State.setCtx_same (a1 : Nat) (a2 : Ctx) :
    (s.setCtx a1 a2).pending = s.pending ∧ (s.setCtx a1 a2).running = s.running ∧ (s.setCtx a1 a2).ts = s.ts ∧
    (s.setCtx a1 a2).fuse = s.fuse ∧ (s.setCtx a1 a2).regs = s.regs ∧ (s.setCtx a1 a2).mem = s.mem ∧
    (s.setCtx a1 a2).flash = s.flash ∧ (s.setCtx a1 a2).out = s.out ∧ (s.setCtx a1 a2).recd = s.recd ∧
    (s.setCtx a1 a2).cnt = s.cnt ∧ (s.setCtx a1 a2).cntPend = s.cntPend ∧ (s.setCtx a1 a2).lanes = s.lanes ∧
    (s.setCtx a1 a2).chks = s.chks ∧ (s.setCtx a1 a2).droops = s.droops ∧ (s.setCtx a1 a2).cores = s.cores ∧
    (s.setCtx a1 a2).tly = s.tly ∧ (s.setCtx a1 a2).ramp = s.ramp ∧ (s.setCtx a1 a2).sns = s.sns ∧
    (s.setCtx a1 a2).fcs = s.fcs ∧ (s.setCtx a1 a2).trc = s.trc ∧ (s.setCtx a1 a2).wfg = s.wfg ∧
    (s.setCtx a1 a2).cntZero = s.cntZero ∧ (s.setCtx a1 a2).dvfs = s.dvfs ∧ (s.setCtx a1 a2).pins = s.pins ∧
    (s.setCtx a1 a2).vrc = s.vrc ∧ (s.setCtx a1 a2).pmb = s.pmb ∧ (s.setCtx a1 a2).acc = s.acc ∧ (s.setCtx a1 a2).thm = s.thm ∧
    (s.setCtx a1 a2).hif = s.hif ∧ (s.setCtx a1 a2).slt = s.slt ∧ (s.setCtx a1 a2).par = s.par ∧ (s.setCtx a1 a2).nvm = s.nvm ∧
    (s.setCtx a1 a2).smb = s.smb ∧ (s.setCtx a1 a2).fw = s.fw ∧ (s.setCtx a1 a2).rst = s.rst ∧ (s.setCtx a1 a2).hub = s.hub ∧
    (s.setCtx a1 a2).fans = s.fans ∧ (s.setCtx a1 a2).mgt = s.mgt ∧ (s.setCtx a1 a2).xovrMs = s.xovrMs ∧
    ∀ f i, (s.setCtx a1 a2).rd f i = s.rd f i :=
  ⟨rfl, rfl, rfl, rfl, rfl, rfl, rfl, rfl, rfl, rfl, rfl, rfl, rfl, rfl, rfl, rfl, rfl, rfl, rfl, rfl, rfl, rfl, rfl, rfl, rfl, rfl, rfl, rfl, rfl, rfl, rfl, rfl, rfl, rfl, rfl, rfl, rfl, rfl, rfl, fun _ _ => rfl⟩

@[simp] theorem State.publish_same (a1 : Nat) (a2 : Nat) (a3 : Nat) (a4 : Bool) :
    (s.publish a1 a2 a3 a4).pending = s.pending ∧ (s.publish a1 a2 a3 a4).running = s.running ∧
    (s.publish a1 a2 a3 a4).ts = s.ts ∧ (s.publish a1 a2 a3 a4).fuse = s.fuse ∧ (s.publish a1 a2 a3 a4).regs = s.regs ∧
    (s.publish a1 a2 a3 a4).mem = s.mem ∧ (s.publish a1 a2 a3 a4).flash = s.flash ∧ (s.publish a1 a2 a3 a4).out = s.out ∧
    (s.publish a1 a2 a3 a4).recd = s.recd ∧ (s.publish a1 a2 a3 a4).cnt = s.cnt ∧ (s.publish a1 a2 a3 a4).cntPend = s.cntPend ∧
    (s.publish a1 a2 a3 a4).lanes = s.lanes ∧ (s.publish a1 a2 a3 a4).chks = s.chks ∧
    (s.publish a1 a2 a3 a4).droops = s.droops ∧ (s.publish a1 a2 a3 a4).cores = s.cores ∧ (s.publish a1 a2 a3 a4).tly = s.tly ∧
    (s.publish a1 a2 a3 a4).ramp = s.ramp ∧ (s.publish a1 a2 a3 a4).sns = s.sns ∧ (s.publish a1 a2 a3 a4).fcs = s.fcs ∧
    (s.publish a1 a2 a3 a4).trc = s.trc ∧ (s.publish a1 a2 a3 a4).wfg = s.wfg ∧ (s.publish a1 a2 a3 a4).cntZero = s.cntZero ∧
    (s.publish a1 a2 a3 a4).dvfs = s.dvfs ∧ (s.publish a1 a2 a3 a4).pins = s.pins ∧ (s.publish a1 a2 a3 a4).vrc = s.vrc ∧
    (s.publish a1 a2 a3 a4).pmb = s.pmb ∧ (s.publish a1 a2 a3 a4).acc = s.acc ∧ (s.publish a1 a2 a3 a4).thm = s.thm ∧
    (s.publish a1 a2 a3 a4).hif = s.hif ∧ (s.publish a1 a2 a3 a4).slt = s.slt ∧ (s.publish a1 a2 a3 a4).par = s.par ∧
    (s.publish a1 a2 a3 a4).nvm = s.nvm ∧ (s.publish a1 a2 a3 a4).smb = s.smb ∧ (s.publish a1 a2 a3 a4).fw = s.fw ∧
    (s.publish a1 a2 a3 a4).rst = s.rst ∧ (s.publish a1 a2 a3 a4).hub = s.hub ∧ (s.publish a1 a2 a3 a4).fans = s.fans ∧
    (s.publish a1 a2 a3 a4).mgt = s.mgt ∧ (s.publish a1 a2 a3 a4).xovrMs = s.xovrMs ∧
    ∀ f i, (s.publish a1 a2 a3 a4).rd f i = s.rd f i :=
  ⟨rfl, rfl, rfl, rfl, rfl, rfl, rfl, rfl, rfl, rfl, rfl, rfl, rfl, rfl, rfl, rfl, rfl, rfl, rfl, rfl, rfl, rfl, rfl, rfl, rfl, rfl, rfl, rfl, rfl, rfl, rfl, rfl, rfl, rfl, rfl, rfl, rfl, rfl, rfl, fun _ _ => rfl⟩

@[simp] theorem State.setVph_same (a1 : Nat) (a2 : Phase) :
    (s.setVph a1 a2).pending = s.pending ∧ (s.setVph a1 a2).running = s.running ∧ (s.setVph a1 a2).ts = s.ts ∧
    (s.setVph a1 a2).fuse = s.fuse ∧ (s.setVph a1 a2).regs = s.regs ∧ (s.setVph a1 a2).mem = s.mem ∧
    (s.setVph a1 a2).flash = s.flash ∧ (s.setVph a1 a2).out = s.out ∧ (s.setVph a1 a2).recd = s.recd ∧
    (s.setVph a1 a2).cnt = s.cnt ∧ (s.setVph a1 a2).cntPend = s.cntPend ∧ (s.setVph a1 a2).lanes = s.lanes ∧
    (s.setVph a1 a2).chks = s.chks ∧ (s.setVph a1 a2).droops = s.droops ∧ (s.setVph a1 a2).cores = s.cores ∧
    (s.setVph a1 a2).tly = s.tly ∧ (s.setVph a1 a2).ramp = s.ramp ∧ (s.setVph a1 a2).sns = s.sns ∧
    (s.setVph a1 a2).fcs = s.fcs ∧ (s.setVph a1 a2).lpe = s.lpe ∧ (s.setVph a1 a2).trc = s.trc ∧ (s.setVph a1 a2).wfg = s.wfg ∧
    (s.setVph a1 a2).cntZero = s.cntZero ∧ (s.setVph a1 a2).dvfs = s.dvfs ∧ (s.setVph a1 a2).pins = s.pins ∧
    (s.setVph a1 a2).pmb = s.pmb ∧ (s.setVph a1 a2).acc = s.acc ∧ (s.setVph a1 a2).thm = s.thm ∧ (s.setVph a1 a2).hif = s.hif ∧
    (s.setVph a1 a2).slt = s.slt ∧ (s.setVph a1 a2).par = s.par ∧ (s.setVph a1 a2).nvm = s.nvm ∧ (s.setVph a1 a2).smb = s.smb ∧
    (s.setVph a1 a2).fw = s.fw ∧ (s.setVph a1 a2).rst = s.rst ∧ (s.setVph a1 a2).hub = s.hub ∧ (s.setVph a1 a2).fans = s.fans ∧
    (s.setVph a1 a2).mgt = s.mgt ∧ (s.setVph a1 a2).xovrMs = s.xovrMs ∧ ∀ f i, (s.setVph a1 a2).rd f i = s.rd f i :=
  ⟨rfl, rfl, rfl, rfl, rfl, rfl, rfl, rfl, rfl, rfl, rfl, rfl, rfl, rfl, rfl, rfl, rfl, rfl, rfl, rfl, rfl, rfl, rfl, rfl, rfl, rfl, rfl, rfl, rfl, rfl, rfl, rfl, rfl, rfl, rfl, rfl, rfl, rfl, rfl, fun _ _ => rfl⟩

@[simp] theorem State.setPh_same (a1 : Nat) (a2 : PhTlm) :
    (s.setPh a1 a2).pending = s.pending ∧ (s.setPh a1 a2).running = s.running ∧ (s.setPh a1 a2).ts = s.ts ∧
    (s.setPh a1 a2).fuse = s.fuse ∧ (s.setPh a1 a2).regs = s.regs ∧ (s.setPh a1 a2).mem = s.mem ∧
    (s.setPh a1 a2).flash = s.flash ∧ (s.setPh a1 a2).out = s.out ∧ (s.setPh a1 a2).recd = s.recd ∧
    (s.setPh a1 a2).cnt = s.cnt ∧ (s.setPh a1 a2).cntPend = s.cntPend ∧ (s.setPh a1 a2).lanes = s.lanes ∧
    (s.setPh a1 a2).chks = s.chks ∧ (s.setPh a1 a2).droops = s.droops ∧ (s.setPh a1 a2).cores = s.cores ∧
    (s.setPh a1 a2).tly = s.tly ∧ (s.setPh a1 a2).ramp = s.ramp ∧ (s.setPh a1 a2).fcs = s.fcs ∧ (s.setPh a1 a2).lpe = s.lpe ∧
    (s.setPh a1 a2).trc = s.trc ∧ (s.setPh a1 a2).wfg = s.wfg ∧ (s.setPh a1 a2).cntZero = s.cntZero ∧
    (s.setPh a1 a2).dvfs = s.dvfs ∧ (s.setPh a1 a2).pins = s.pins ∧ (s.setPh a1 a2).vrc = s.vrc ∧ (s.setPh a1 a2).pmb = s.pmb ∧
    (s.setPh a1 a2).acc = s.acc ∧ (s.setPh a1 a2).thm = s.thm ∧ (s.setPh a1 a2).hif = s.hif ∧ (s.setPh a1 a2).slt = s.slt ∧
    (s.setPh a1 a2).par = s.par ∧ (s.setPh a1 a2).nvm = s.nvm ∧ (s.setPh a1 a2).smb = s.smb ∧ (s.setPh a1 a2).fw = s.fw ∧
    (s.setPh a1 a2).rst = s.rst ∧ (s.setPh a1 a2).hub = s.hub ∧ (s.setPh a1 a2).fans = s.fans ∧ (s.setPh a1 a2).mgt = s.mgt ∧
    (s.setPh a1 a2).xovrMs = s.xovrMs ∧ ∀ f i, (s.setPh a1 a2).rd f i = s.rd f i :=
  ⟨rfl, rfl, rfl, rfl, rfl, rfl, rfl, rfl, rfl, rfl, rfl, rfl, rfl, rfl, rfl, rfl, rfl, rfl, rfl, rfl, rfl, rfl, rfl, rfl, rfl, rfl, rfl, rfl, rfl, rfl, rfl, rfl, rfl, rfl, rfl, rfl, rfl, rfl, rfl, fun _ _ => rfl⟩

@[simp] theorem State.setTlane_same (a1 : Nat) (a2 : TlmLane) :
    (s.setTlane a1 a2).pending = s.pending ∧ (s.setTlane a1 a2).running = s.running ∧ (s.setTlane a1 a2).ts = s.ts ∧
    (s.setTlane a1 a2).fuse = s.fuse ∧ (s.setTlane a1 a2).regs = s.regs ∧ (s.setTlane a1 a2).mem = s.mem ∧
    (s.setTlane a1 a2).flash = s.flash ∧ (s.setTlane a1 a2).out = s.out ∧ (s.setTlane a1 a2).recd = s.recd ∧
    (s.setTlane a1 a2).cnt = s.cnt ∧ (s.setTlane a1 a2).cntPend = s.cntPend ∧ (s.setTlane a1 a2).lanes = s.lanes ∧
    (s.setTlane a1 a2).chks = s.chks ∧ (s.setTlane a1 a2).droops = s.droops ∧ (s.setTlane a1 a2).cores = s.cores ∧
    (s.setTlane a1 a2).tly = s.tly ∧ (s.setTlane a1 a2).ramp = s.ramp ∧ (s.setTlane a1 a2).fcs = s.fcs ∧
    (s.setTlane a1 a2).lpe = s.lpe ∧ (s.setTlane a1 a2).trc = s.trc ∧ (s.setTlane a1 a2).wfg = s.wfg ∧
    (s.setTlane a1 a2).cntZero = s.cntZero ∧ (s.setTlane a1 a2).dvfs = s.dvfs ∧ (s.setTlane a1 a2).pins = s.pins ∧
    (s.setTlane a1 a2).vrc = s.vrc ∧ (s.setTlane a1 a2).pmb = s.pmb ∧ (s.setTlane a1 a2).acc = s.acc ∧
    (s.setTlane a1 a2).thm = s.thm ∧ (s.setTlane a1 a2).hif = s.hif ∧ (s.setTlane a1 a2).slt = s.slt ∧
    (s.setTlane a1 a2).par = s.par ∧ (s.setTlane a1 a2).nvm = s.nvm ∧ (s.setTlane a1 a2).smb = s.smb ∧
    (s.setTlane a1 a2).fw = s.fw ∧ (s.setTlane a1 a2).rst = s.rst ∧ (s.setTlane a1 a2).hub = s.hub ∧
    (s.setTlane a1 a2).fans = s.fans ∧ (s.setTlane a1 a2).mgt = s.mgt ∧ (s.setTlane a1 a2).xovrMs = s.xovrMs ∧
    ∀ f i, (s.setTlane a1 a2).rd f i = s.rd f i :=
  ⟨rfl, rfl, rfl, rfl, rfl, rfl, rfl, rfl, rfl, rfl, rfl, rfl, rfl, rfl, rfl, rfl, rfl, rfl, rfl, rfl, rfl, rfl, rfl, rfl, rfl, rfl, rfl, rfl, rfl, rfl, rfl, rfl, rfl, rfl, rfl, rfl, rfl, rfl, rfl, fun _ _ => rfl⟩

@[simp] theorem State.setPool_same (a1 : Nat) (a2 : PoolSt) :
    (s.setPool a1 a2).pending = s.pending ∧ (s.setPool a1 a2).running = s.running ∧ (s.setPool a1 a2).ts = s.ts ∧
    (s.setPool a1 a2).fuse = s.fuse ∧ (s.setPool a1 a2).regs = s.regs ∧ (s.setPool a1 a2).mem = s.mem ∧
    (s.setPool a1 a2).flash = s.flash ∧ (s.setPool a1 a2).out = s.out ∧ (s.setPool a1 a2).recd = s.recd ∧
    (s.setPool a1 a2).cnt = s.cnt ∧ (s.setPool a1 a2).cntPend = s.cntPend ∧ (s.setPool a1 a2).lanes = s.lanes ∧
    (s.setPool a1 a2).chks = s.chks ∧ (s.setPool a1 a2).droops = s.droops ∧ (s.setPool a1 a2).cores = s.cores ∧
    (s.setPool a1 a2).ramp = s.ramp ∧ (s.setPool a1 a2).sns = s.sns ∧ (s.setPool a1 a2).fcs = s.fcs ∧
    (s.setPool a1 a2).lpe = s.lpe ∧ (s.setPool a1 a2).trc = s.trc ∧ (s.setPool a1 a2).wfg = s.wfg ∧
    (s.setPool a1 a2).cntZero = s.cntZero ∧ (s.setPool a1 a2).dvfs = s.dvfs ∧ (s.setPool a1 a2).pins = s.pins ∧
    (s.setPool a1 a2).vrc = s.vrc ∧ (s.setPool a1 a2).pmb = s.pmb ∧ (s.setPool a1 a2).acc = s.acc ∧
    (s.setPool a1 a2).thm = s.thm ∧ (s.setPool a1 a2).hif = s.hif ∧ (s.setPool a1 a2).slt = s.slt ∧
    (s.setPool a1 a2).par = s.par ∧ (s.setPool a1 a2).nvm = s.nvm ∧ (s.setPool a1 a2).smb = s.smb ∧
    (s.setPool a1 a2).fw = s.fw ∧ (s.setPool a1 a2).rst = s.rst ∧ (s.setPool a1 a2).hub = s.hub ∧
    (s.setPool a1 a2).fans = s.fans ∧ (s.setPool a1 a2).mgt = s.mgt ∧ (s.setPool a1 a2).xovrMs = s.xovrMs ∧
    ∀ f i, (s.setPool a1 a2).rd f i = s.rd f i :=
  ⟨rfl, rfl, rfl, rfl, rfl, rfl, rfl, rfl, rfl, rfl, rfl, rfl, rfl, rfl, rfl, rfl, rfl, rfl, rfl, rfl, rfl, rfl, rfl, rfl, rfl, rfl, rfl, rfl, rfl, rfl, rfl, rfl, rfl, rfl, rfl, rfl, rfl, rfl, rfl, fun _ _ => rfl⟩

@[simp] theorem State.setObj_same (a1 : Nat) (a2 : TObj) :
    (s.setObj a1 a2).pending = s.pending ∧ (s.setObj a1 a2).running = s.running ∧ (s.setObj a1 a2).ts = s.ts ∧
    (s.setObj a1 a2).fuse = s.fuse ∧ (s.setObj a1 a2).regs = s.regs ∧ (s.setObj a1 a2).mem = s.mem ∧
    (s.setObj a1 a2).flash = s.flash ∧ (s.setObj a1 a2).out = s.out ∧ (s.setObj a1 a2).recd = s.recd ∧
    (s.setObj a1 a2).cnt = s.cnt ∧ (s.setObj a1 a2).cntPend = s.cntPend ∧ (s.setObj a1 a2).lanes = s.lanes ∧
    (s.setObj a1 a2).chks = s.chks ∧ (s.setObj a1 a2).droops = s.droops ∧ (s.setObj a1 a2).cores = s.cores ∧
    (s.setObj a1 a2).ramp = s.ramp ∧ (s.setObj a1 a2).sns = s.sns ∧ (s.setObj a1 a2).fcs = s.fcs ∧
    (s.setObj a1 a2).lpe = s.lpe ∧ (s.setObj a1 a2).trc = s.trc ∧ (s.setObj a1 a2).wfg = s.wfg ∧
    (s.setObj a1 a2).cntZero = s.cntZero ∧ (s.setObj a1 a2).dvfs = s.dvfs ∧ (s.setObj a1 a2).pins = s.pins ∧
    (s.setObj a1 a2).vrc = s.vrc ∧ (s.setObj a1 a2).pmb = s.pmb ∧ (s.setObj a1 a2).acc = s.acc ∧ (s.setObj a1 a2).thm = s.thm ∧
    (s.setObj a1 a2).hif = s.hif ∧ (s.setObj a1 a2).slt = s.slt ∧ (s.setObj a1 a2).par = s.par ∧ (s.setObj a1 a2).nvm = s.nvm ∧
    (s.setObj a1 a2).smb = s.smb ∧ (s.setObj a1 a2).fw = s.fw ∧ (s.setObj a1 a2).rst = s.rst ∧ (s.setObj a1 a2).hub = s.hub ∧
    (s.setObj a1 a2).fans = s.fans ∧ (s.setObj a1 a2).mgt = s.mgt ∧ (s.setObj a1 a2).xovrMs = s.xovrMs ∧
    ∀ f i, (s.setObj a1 a2).rd f i = s.rd f i :=
  ⟨rfl, rfl, rfl, rfl, rfl, rfl, rfl, rfl, rfl, rfl, rfl, rfl, rfl, rfl, rfl, rfl, rfl, rfl, rfl, rfl, rfl, rfl, rfl, rfl, rfl, rfl, rfl, rfl, rfl, rfl, rfl, rfl, rfl, rfl, rfl, rfl, rfl, rfl, rfl, fun _ _ => rfl⟩

@[simp] theorem State.nextOrder_same :
    (s.nextOrder).pending = s.pending ∧ (s.nextOrder).running = s.running ∧ (s.nextOrder).ts = s.ts ∧
    (s.nextOrder).fuse = s.fuse ∧ (s.nextOrder).regs = s.regs ∧ (s.nextOrder).mem = s.mem ∧ (s.nextOrder).flash = s.flash ∧
    (s.nextOrder).out = s.out ∧ (s.nextOrder).recd = s.recd ∧ (s.nextOrder).cnt = s.cnt ∧ (s.nextOrder).cntPend = s.cntPend ∧
    (s.nextOrder).lanes = s.lanes ∧ (s.nextOrder).chks = s.chks ∧ (s.nextOrder).droops = s.droops ∧
    (s.nextOrder).cores = s.cores ∧ (s.nextOrder).ramp = s.ramp ∧ (s.nextOrder).sns = s.sns ∧ (s.nextOrder).fcs = s.fcs ∧
    (s.nextOrder).lpe = s.lpe ∧ (s.nextOrder).trc = s.trc ∧ (s.nextOrder).wfg = s.wfg ∧ (s.nextOrder).cntZero = s.cntZero ∧
    (s.nextOrder).dvfs = s.dvfs ∧ (s.nextOrder).pins = s.pins ∧ (s.nextOrder).vrc = s.vrc ∧ (s.nextOrder).pmb = s.pmb ∧
    (s.nextOrder).acc = s.acc ∧ (s.nextOrder).thm = s.thm ∧ (s.nextOrder).hif = s.hif ∧ (s.nextOrder).slt = s.slt ∧
    (s.nextOrder).par = s.par ∧ (s.nextOrder).nvm = s.nvm ∧ (s.nextOrder).smb = s.smb ∧ (s.nextOrder).fw = s.fw ∧
    (s.nextOrder).rst = s.rst ∧ (s.nextOrder).hub = s.hub ∧ (s.nextOrder).fans = s.fans ∧ (s.nextOrder).mgt = s.mgt ∧
    (s.nextOrder).xovrMs = s.xovrMs ∧ ∀ f i, (s.nextOrder).rd f i = s.rd f i :=
  ⟨rfl, rfl, rfl, rfl, rfl, rfl, rfl, rfl, rfl, rfl, rfl, rfl, rfl, rfl, rfl, rfl, rfl, rfl, rfl, rfl, rfl, rfl, rfl, rfl, rfl, rfl, rfl, rfl, rfl, rfl, rfl, rfl, rfl, rfl, rfl, rfl, rfl, rfl, rfl, fun _ _ => rfl⟩

@[simp] theorem State.setNvm_same (a1 : Nvm) :
    (s.setNvm a1).pending = s.pending ∧ (s.setNvm a1).running = s.running ∧ (s.setNvm a1).ts = s.ts ∧
    (s.setNvm a1).fuse = s.fuse ∧ (s.setNvm a1).regs = s.regs ∧ (s.setNvm a1).mem = s.mem ∧ (s.setNvm a1).flash = s.flash ∧
    (s.setNvm a1).out = s.out ∧ (s.setNvm a1).recd = s.recd ∧ (s.setNvm a1).cnt = s.cnt ∧ (s.setNvm a1).cntPend = s.cntPend ∧
    (s.setNvm a1).lanes = s.lanes ∧ (s.setNvm a1).chks = s.chks ∧ (s.setNvm a1).droops = s.droops ∧
    (s.setNvm a1).cores = s.cores ∧ (s.setNvm a1).tly = s.tly ∧ (s.setNvm a1).ramp = s.ramp ∧ (s.setNvm a1).sns = s.sns ∧
    (s.setNvm a1).fcs = s.fcs ∧ (s.setNvm a1).lpe = s.lpe ∧ (s.setNvm a1).trc = s.trc ∧ (s.setNvm a1).wfg = s.wfg ∧
    (s.setNvm a1).cntZero = s.cntZero ∧ (s.setNvm a1).dvfs = s.dvfs ∧ (s.setNvm a1).pins = s.pins ∧ (s.setNvm a1).vrc = s.vrc ∧
    (s.setNvm a1).pmb = s.pmb ∧ (s.setNvm a1).acc = s.acc ∧ (s.setNvm a1).thm = s.thm ∧ (s.setNvm a1).hif = s.hif ∧
    (s.setNvm a1).slt = s.slt ∧ (s.setNvm a1).par = s.par ∧ (s.setNvm a1).smb = s.smb ∧ (s.setNvm a1).fw = s.fw ∧
    (s.setNvm a1).rst = s.rst ∧ (s.setNvm a1).hub = s.hub ∧ (s.setNvm a1).fans = s.fans ∧ (s.setNvm a1).mgt = s.mgt ∧
    (s.setNvm a1).xovrMs = s.xovrMs ∧ ∀ f i, (s.setNvm a1).rd f i = s.rd f i :=
  ⟨rfl, rfl, rfl, rfl, rfl, rfl, rfl, rfl, rfl, rfl, rfl, rfl, rfl, rfl, rfl, rfl, rfl, rfl, rfl, rfl, rfl, rfl, rfl, rfl, rfl, rfl, rfl, rfl, rfl, rfl, rfl, rfl, rfl, rfl, rfl, rfl, rfl, rfl, rfl, fun _ _ => rfl⟩

@[simp] theorem State.setNvm_val (a1 : Nvm) : (s.setNvm a1).nvm = a1 := rfl

@[simp] theorem State.setFc_same (a1 : Nat) (a2 : CoreFc) :
    (s.setFc a1 a2).pending = s.pending ∧ (s.setFc a1 a2).running = s.running ∧ (s.setFc a1 a2).ts = s.ts ∧
    (s.setFc a1 a2).fuse = s.fuse ∧ (s.setFc a1 a2).regs = s.regs ∧ (s.setFc a1 a2).mem = s.mem ∧
    (s.setFc a1 a2).flash = s.flash ∧ (s.setFc a1 a2).out = s.out ∧ (s.setFc a1 a2).recd = s.recd ∧
    (s.setFc a1 a2).cnt = s.cnt ∧ (s.setFc a1 a2).cntPend = s.cntPend ∧ (s.setFc a1 a2).lanes = s.lanes ∧
    (s.setFc a1 a2).chks = s.chks ∧ (s.setFc a1 a2).droops = s.droops ∧ (s.setFc a1 a2).cores = s.cores ∧
    (s.setFc a1 a2).tly = s.tly ∧ (s.setFc a1 a2).ramp = s.ramp ∧ (s.setFc a1 a2).sns = s.sns ∧ (s.setFc a1 a2).lpe = s.lpe ∧
    (s.setFc a1 a2).trc = s.trc ∧ (s.setFc a1 a2).wfg = s.wfg ∧ (s.setFc a1 a2).cntZero = s.cntZero ∧
    (s.setFc a1 a2).dvfs = s.dvfs ∧ (s.setFc a1 a2).pins = s.pins ∧ (s.setFc a1 a2).vrc = s.vrc ∧ (s.setFc a1 a2).pmb = s.pmb ∧
    (s.setFc a1 a2).acc = s.acc ∧ (s.setFc a1 a2).thm = s.thm ∧ (s.setFc a1 a2).hif = s.hif ∧ (s.setFc a1 a2).slt = s.slt ∧
    (s.setFc a1 a2).par = s.par ∧ (s.setFc a1 a2).nvm = s.nvm ∧ (s.setFc a1 a2).smb = s.smb ∧ (s.setFc a1 a2).fw = s.fw ∧
    (s.setFc a1 a2).rst = s.rst ∧ (s.setFc a1 a2).hub = s.hub ∧ (s.setFc a1 a2).fans = s.fans ∧ (s.setFc a1 a2).mgt = s.mgt ∧
    (s.setFc a1 a2).xovrMs = s.xovrMs ∧ ∀ f i, (s.setFc a1 a2).rd f i = s.rd f i :=
  ⟨rfl, rfl, rfl, rfl, rfl, rfl, rfl, rfl, rfl, rfl, rfl, rfl, rfl, rfl, rfl, rfl, rfl, rfl, rfl, rfl, rfl, rfl, rfl, rfl, rfl, rfl, rfl, rfl, rfl, rfl, rfl, rfl, rfl, rfl, rfl, rfl, rfl, rfl, rfl, fun _ _ => rfl⟩

@[simp] theorem State.pwmToMid_same :
    (s.pwmToMid).pending = s.pending ∧ (s.pwmToMid).running = s.running ∧ (s.pwmToMid).ts = s.ts ∧ (s.pwmToMid).fuse = s.fuse ∧
    (s.pwmToMid).regs = s.regs ∧ (s.pwmToMid).mem = s.mem ∧ (s.pwmToMid).flash = s.flash ∧ (s.pwmToMid).out = s.out ∧
    (s.pwmToMid).recd = s.recd ∧ (s.pwmToMid).cnt = s.cnt ∧ (s.pwmToMid).cntPend = s.cntPend ∧ (s.pwmToMid).lanes = s.lanes ∧
    (s.pwmToMid).chks = s.chks ∧ (s.pwmToMid).droops = s.droops ∧ (s.pwmToMid).cores = s.cores ∧ (s.pwmToMid).tly = s.tly ∧
    (s.pwmToMid).ramp = s.ramp ∧ (s.pwmToMid).sns = s.sns ∧ (s.pwmToMid).fcs = s.fcs ∧ (s.pwmToMid).lpe = s.lpe ∧
    (s.pwmToMid).trc = s.trc ∧ (s.pwmToMid).wfg = s.wfg ∧ (s.pwmToMid).cntZero = s.cntZero ∧ (s.pwmToMid).dvfs = s.dvfs ∧
    (s.pwmToMid).pins = s.pins ∧ (s.pwmToMid).pmb = s.pmb ∧ (s.pwmToMid).acc = s.acc ∧ (s.pwmToMid).thm = s.thm ∧
    (s.pwmToMid).hif = s.hif ∧ (s.pwmToMid).slt = s.slt ∧ (s.pwmToMid).par = s.par ∧ (s.pwmToMid).nvm = s.nvm ∧
    (s.pwmToMid).smb = s.smb ∧ (s.pwmToMid).fw = s.fw ∧ (s.pwmToMid).rst = s.rst ∧ (s.pwmToMid).hub = s.hub ∧
    (s.pwmToMid).fans = s.fans ∧ (s.pwmToMid).mgt = s.mgt ∧ (s.pwmToMid).xovrMs = s.xovrMs ∧
    ∀ f i, (s.pwmToMid).rd f i = s.rd f i :=
  ⟨rfl, rfl, rfl, rfl, rfl, rfl, rfl, rfl, rfl, rfl, rfl, rfl, rfl, rfl, rfl, rfl, rfl, rfl, rfl, rfl, rfl, rfl, rfl, rfl, rfl, rfl, rfl, rfl, rfl, rfl, rfl, rfl, rfl, rfl, rfl, rfl, rfl, rfl, rfl, fun _ _ => rfl⟩

@[simp] theorem State.enablesLow_same :
    (s.enablesLow).pending = s.pending ∧ (s.enablesLow).running = s.running ∧ (s.enablesLow).ts = s.ts ∧
    (s.enablesLow).fuse = s.fuse ∧ (s.enablesLow).regs = s.regs ∧ (s.enablesLow).mem = s.mem ∧ (s.enablesLow).flash = s.flash ∧
    (s.enablesLow).out = s.out ∧ (s.enablesLow).recd = s.recd ∧ (s.enablesLow).cnt = s.cnt ∧
    (s.enablesLow).cntPend = s.cntPend ∧ (s.enablesLow).lanes = s.lanes ∧ (s.enablesLow).chks = s.chks ∧
    (s.enablesLow).droops = s.droops ∧ (s.enablesLow).cores = s.cores ∧ (s.enablesLow).tly = s.tly ∧
    (s.enablesLow).ramp = s.ramp ∧ (s.enablesLow).sns = s.sns ∧ (s.enablesLow).fcs = s.fcs ∧ (s.enablesLow).lpe = s.lpe ∧
    (s.enablesLow).trc = s.trc ∧ (s.enablesLow).wfg = s.wfg ∧ (s.enablesLow).cntZero = s.cntZero ∧
    (s.enablesLow).dvfs = s.dvfs ∧ (s.enablesLow).pins = s.pins ∧ (s.enablesLow).pmb = s.pmb ∧ (s.enablesLow).acc = s.acc ∧
    (s.enablesLow).thm = s.thm ∧ (s.enablesLow).hif = s.hif ∧ (s.enablesLow).slt = s.slt ∧ (s.enablesLow).par = s.par ∧
    (s.enablesLow).nvm = s.nvm ∧ (s.enablesLow).smb = s.smb ∧ (s.enablesLow).fw = s.fw ∧ (s.enablesLow).rst = s.rst ∧
    (s.enablesLow).hub = s.hub ∧ (s.enablesLow).fans = s.fans ∧ (s.enablesLow).mgt = s.mgt ∧ (s.enablesLow).xovrMs = s.xovrMs ∧
    ∀ f i, (s.enablesLow).rd f i = s.rd f i :=
  ⟨rfl, rfl, rfl, rfl, rfl, rfl, rfl, rfl, rfl, rfl, rfl, rfl, rfl, rfl, rfl, rfl, rfl, rfl, rfl, rfl, rfl, rfl, rfl, rfl, rfl, rfl, rfl, rfl, rfl, rfl, rfl, rfl, rfl, rfl, rfl, rfl, rfl, rfl, rfl, fun _ _ => rfl⟩

@[simp] theorem State.setPmb_same (a1 : Pmb) :
    (s.setPmb a1).pending = s.pending ∧ (s.setPmb a1).running = s.running ∧ (s.setPmb a1).ts = s.ts ∧
    (s.setPmb a1).fuse = s.fuse ∧ (s.setPmb a1).regs = s.regs ∧ (s.setPmb a1).mem = s.mem ∧ (s.setPmb a1).flash = s.flash ∧
    (s.setPmb a1).out = s.out ∧ (s.setPmb a1).recd = s.recd ∧ (s.setPmb a1).cnt = s.cnt ∧ (s.setPmb a1).cntPend = s.cntPend ∧
    (s.setPmb a1).lanes = s.lanes ∧ (s.setPmb a1).chks = s.chks ∧ (s.setPmb a1).droops = s.droops ∧
    (s.setPmb a1).cores = s.cores ∧ (s.setPmb a1).tly = s.tly ∧ (s.setPmb a1).ramp = s.ramp ∧ (s.setPmb a1).sns = s.sns ∧
    (s.setPmb a1).fcs = s.fcs ∧ (s.setPmb a1).lpe = s.lpe ∧ (s.setPmb a1).trc = s.trc ∧ (s.setPmb a1).wfg = s.wfg ∧
    (s.setPmb a1).cntZero = s.cntZero ∧ (s.setPmb a1).dvfs = s.dvfs ∧ (s.setPmb a1).pins = s.pins ∧ (s.setPmb a1).vrc = s.vrc ∧
    (s.setPmb a1).acc = s.acc ∧ (s.setPmb a1).thm = s.thm ∧ (s.setPmb a1).hif = s.hif ∧ (s.setPmb a1).slt = s.slt ∧
    (s.setPmb a1).par = s.par ∧ (s.setPmb a1).nvm = s.nvm ∧ (s.setPmb a1).smb = s.smb ∧ (s.setPmb a1).fw = s.fw ∧
    (s.setPmb a1).rst = s.rst ∧ (s.setPmb a1).hub = s.hub ∧ (s.setPmb a1).fans = s.fans ∧ (s.setPmb a1).mgt = s.mgt ∧
    (s.setPmb a1).xovrMs = s.xovrMs ∧ ∀ f i, (s.setPmb a1).rd f i = s.rd f i :=
  ⟨rfl, rfl, rfl, rfl, rfl, rfl, rfl, rfl, rfl, rfl, rfl, rfl, rfl, rfl, rfl, rfl, rfl, rfl, rfl, rfl, rfl, rfl, rfl, rfl, rfl, rfl, rfl, rfl, rfl, rfl, rfl, rfl, rfl, rfl, rfl, rfl, rfl, rfl, rfl, fun _ _ => rfl⟩

@[simp] theorem State.setPmb_val (a1 : Pmb) : (s.setPmb a1).pmb = a1 := rfl

@[simp] theorem State.setThm_same (a1 : Thm) :
    (s.setThm a1).pending = s.pending ∧ (s.setThm a1).running = s.running ∧ (s.setThm a1).ts = s.ts ∧
    (s.setThm a1).fuse = s.fuse ∧ (s.setThm a1).regs = s.regs ∧ (s.setThm a1).mem = s.mem ∧ (s.setThm a1).flash = s.flash ∧
    (s.setThm a1).out = s.out ∧ (s.setThm a1).recd = s.recd ∧ (s.setThm a1).cnt = s.cnt ∧ (s.setThm a1).cntPend = s.cntPend ∧
    (s.setThm a1).lanes = s.lanes ∧ (s.setThm a1).chks = s.chks ∧ (s.setThm a1).droops = s.droops ∧
    (s.setThm a1).cores = s.cores ∧ (s.setThm a1).tly = s.tly ∧ (s.setThm a1).ramp = s.ramp ∧ (s.setThm a1).sns = s.sns ∧
    (s.setThm a1).fcs = s.fcs ∧ (s.setThm a1).lpe = s.lpe ∧ (s.setThm a1).trc = s.trc ∧ (s.setThm a1).wfg = s.wfg ∧
    (s.setThm a1).cntZero = s.cntZero ∧ (s.setThm a1).dvfs = s.dvfs ∧ (s.setThm a1).pins = s.pins ∧ (s.setThm a1).vrc = s.vrc ∧
    (s.setThm a1).pmb = s.pmb ∧ (s.setThm a1).acc = s.acc ∧ (s.setThm a1).hif = s.hif ∧ (s.setThm a1).slt = s.slt ∧
    (s.setThm a1).par = s.par ∧ (s.setThm a1).nvm = s.nvm ∧ (s.setThm a1).smb = s.smb ∧ (s.setThm a1).fw = s.fw ∧
    (s.setThm a1).rst = s.rst ∧ (s.setThm a1).hub = s.hub ∧ (s.setThm a1).fans = s.fans ∧ (s.setThm a1).mgt = s.mgt ∧
    (s.setThm a1).xovrMs = s.xovrMs ∧ ∀ f i, (s.setThm a1).rd f i = s.rd f i :=
  ⟨rfl, rfl, rfl, rfl, rfl, rfl, rfl, rfl, rfl, rfl, rfl, rfl, rfl, rfl, rfl, rfl, rfl, rfl, rfl, rfl, rfl, rfl, rfl, rfl, rfl, rfl, rfl, rfl, rfl, rfl, rfl, rfl, rfl, rfl, rfl, rfl, rfl, rfl, rfl, fun _ _ => rfl⟩

@[simp] theorem State.setThm_val (a1 : Thm) : (s.setThm a1).thm = a1 := rfl

@[simp] theorem State.setRing_same (a1 : Nat) (a2 : Ring) :
    (s.setRing a1 a2).pending = s.pending ∧ (s.setRing a1 a2).running = s.running ∧ (s.setRing a1 a2).ts = s.ts ∧
    (s.setRing a1 a2).fuse = s.fuse ∧ (s.setRing a1 a2).regs = s.regs ∧ (s.setRing a1 a2).mem = s.mem ∧
    (s.setRing a1 a2).flash = s.flash ∧ (s.setRing a1 a2).out = s.out ∧ (s.setRing a1 a2).recd = s.recd ∧
    (s.setRing a1 a2).cnt = s.cnt ∧ (s.setRing a1 a2).cntPend = s.cntPend ∧ (s.setRing a1 a2).lanes = s.lanes ∧
    (s.setRing a1 a2).chks = s.chks ∧ (s.setRing a1 a2).droops = s.droops ∧ (s.setRing a1 a2).cores = s.cores ∧
    (s.setRing a1 a2).tly = s.tly ∧ (s.setRing a1 a2).ramp = s.ramp ∧ (s.setRing a1 a2).sns = s.sns ∧
    (s.setRing a1 a2).fcs = s.fcs ∧ (s.setRing a1 a2).lpe = s.lpe ∧ (s.setRing a1 a2).trc = s.trc ∧
    (s.setRing a1 a2).wfg = s.wfg ∧ (s.setRing a1 a2).cntZero = s.cntZero ∧ (s.setRing a1 a2).dvfs = s.dvfs ∧
    (s.setRing a1 a2).pins = s.pins ∧ (s.setRing a1 a2).vrc = s.vrc ∧ (s.setRing a1 a2).pmb = s.pmb ∧
    (s.setRing a1 a2).acc = s.acc ∧ (s.setRing a1 a2).thm = s.thm ∧ (s.setRing a1 a2).slt = s.slt ∧
    (s.setRing a1 a2).par = s.par ∧ (s.setRing a1 a2).nvm = s.nvm ∧ (s.setRing a1 a2).smb = s.smb ∧
    (s.setRing a1 a2).fw = s.fw ∧ (s.setRing a1 a2).rst = s.rst ∧ (s.setRing a1 a2).hub = s.hub ∧
    (s.setRing a1 a2).fans = s.fans ∧ (s.setRing a1 a2).mgt = s.mgt ∧ (s.setRing a1 a2).xovrMs = s.xovrMs ∧
    ∀ f i, (s.setRing a1 a2).rd f i = s.rd f i :=
  ⟨rfl, rfl, rfl, rfl, rfl, rfl, rfl, rfl, rfl, rfl, rfl, rfl, rfl, rfl, rfl, rfl, rfl, rfl, rfl, rfl, rfl, rfl, rfl, rfl, rfl, rfl, rfl, rfl, rfl, rfl, rfl, rfl, rfl, rfl, rfl, rfl, rfl, rfl, rfl, fun _ _ => rfl⟩

@[simp] theorem State.setHub_same (a1 : Hub) :
    (s.setHub a1).pending = s.pending ∧ (s.setHub a1).running = s.running ∧ (s.setHub a1).ts = s.ts ∧
    (s.setHub a1).fuse = s.fuse ∧ (s.setHub a1).regs = s.regs ∧ (s.setHub a1).mem = s.mem ∧ (s.setHub a1).flash = s.flash ∧
    (s.setHub a1).out = s.out ∧ (s.setHub a1).recd = s.recd ∧ (s.setHub a1).cnt = s.cnt ∧ (s.setHub a1).cntPend = s.cntPend ∧
    (s.setHub a1).lanes = s.lanes ∧ (s.setHub a1).chks = s.chks ∧ (s.setHub a1).droops = s.droops ∧
    (s.setHub a1).cores = s.cores ∧ (s.setHub a1).tly = s.tly ∧ (s.setHub a1).ramp = s.ramp ∧ (s.setHub a1).sns = s.sns ∧
    (s.setHub a1).fcs = s.fcs ∧ (s.setHub a1).lpe = s.lpe ∧ (s.setHub a1).trc = s.trc ∧ (s.setHub a1).wfg = s.wfg ∧
    (s.setHub a1).cntZero = s.cntZero ∧ (s.setHub a1).dvfs = s.dvfs ∧ (s.setHub a1).pins = s.pins ∧ (s.setHub a1).vrc = s.vrc ∧
    (s.setHub a1).pmb = s.pmb ∧ (s.setHub a1).acc = s.acc ∧ (s.setHub a1).thm = s.thm ∧ (s.setHub a1).hif = s.hif ∧
    (s.setHub a1).slt = s.slt ∧ (s.setHub a1).par = s.par ∧ (s.setHub a1).nvm = s.nvm ∧ (s.setHub a1).smb = s.smb ∧
    (s.setHub a1).fw = s.fw ∧ (s.setHub a1).rst = s.rst ∧ (s.setHub a1).fans = s.fans ∧ (s.setHub a1).mgt = s.mgt ∧
    (s.setHub a1).xovrMs = s.xovrMs ∧ ∀ f i, (s.setHub a1).rd f i = s.rd f i :=
  ⟨rfl, rfl, rfl, rfl, rfl, rfl, rfl, rfl, rfl, rfl, rfl, rfl, rfl, rfl, rfl, rfl, rfl, rfl, rfl, rfl, rfl, rfl, rfl, rfl, rfl, rfl, rfl, rfl, rfl, rfl, rfl, rfl, rfl, rfl, rfl, rfl, rfl, rfl, rfl, fun _ _ => rfl⟩

@[simp] theorem State.setHub_val (a1 : Hub) : (s.setHub a1).hub = a1 := rfl

@[simp] theorem State.setSlt_same (a1 : Slt) :
    (s.setSlt a1).pending = s.pending ∧ (s.setSlt a1).running = s.running ∧ (s.setSlt a1).ts = s.ts ∧
    (s.setSlt a1).fuse = s.fuse ∧ (s.setSlt a1).regs = s.regs ∧ (s.setSlt a1).mem = s.mem ∧ (s.setSlt a1).flash = s.flash ∧
    (s.setSlt a1).out = s.out ∧ (s.setSlt a1).recd = s.recd ∧ (s.setSlt a1).cnt = s.cnt ∧ (s.setSlt a1).cntPend = s.cntPend ∧
    (s.setSlt a1).lanes = s.lanes ∧ (s.setSlt a1).chks = s.chks ∧ (s.setSlt a1).droops = s.droops ∧
    (s.setSlt a1).cores = s.cores ∧ (s.setSlt a1).tly = s.tly ∧ (s.setSlt a1).ramp = s.ramp ∧ (s.setSlt a1).sns = s.sns ∧
    (s.setSlt a1).fcs = s.fcs ∧ (s.setSlt a1).lpe = s.lpe ∧ (s.setSlt a1).trc = s.trc ∧ (s.setSlt a1).wfg = s.wfg ∧
    (s.setSlt a1).cntZero = s.cntZero ∧ (s.setSlt a1).dvfs = s.dvfs ∧ (s.setSlt a1).pins = s.pins ∧ (s.setSlt a1).vrc = s.vrc ∧
    (s.setSlt a1).pmb = s.pmb ∧ (s.setSlt a1).acc = s.acc ∧ (s.setSlt a1).thm = s.thm ∧ (s.setSlt a1).hif = s.hif ∧
    (s.setSlt a1).par = s.par ∧ (s.setSlt a1).nvm = s.nvm ∧ (s.setSlt a1).smb = s.smb ∧ (s.setSlt a1).fw = s.fw ∧
    (s.setSlt a1).rst = s.rst ∧ (s.setSlt a1).hub = s.hub ∧ (s.setSlt a1).fans = s.fans ∧ (s.setSlt a1).mgt = s.mgt ∧
    (s.setSlt a1).xovrMs = s.xovrMs ∧ ∀ f i, (s.setSlt a1).rd f i = s.rd f i :=
  ⟨rfl, rfl, rfl, rfl, rfl, rfl, rfl, rfl, rfl, rfl, rfl, rfl, rfl, rfl, rfl, rfl, rfl, rfl, rfl, rfl, rfl, rfl, rfl, rfl, rfl, rfl, rfl, rfl, rfl, rfl, rfl, rfl, rfl, rfl, rfl, rfl, rfl, rfl, rfl, fun _ _ => rfl⟩

@[simp] theorem State.setSlt_val (a1 : Slt) : (s.setSlt a1).slt = a1 := rfl

@[simp] theorem State.setFw_same (a1 : Fw) :
    (s.setFw a1).pending = s.pending ∧ (s.setFw a1).running = s.running ∧ (s.setFw a1).ts = s.ts ∧ (s.setFw a1).fuse = s.fuse ∧
    (s.setFw a1).regs = s.regs ∧ (s.setFw a1).mem = s.mem ∧ (s.setFw a1).flash = s.flash ∧ (s.setFw a1).out = s.out ∧
    (s.setFw a1).recd = s.recd ∧ (s.setFw a1).cnt = s.cnt ∧ (s.setFw a1).cntPend = s.cntPend ∧ (s.setFw a1).lanes = s.lanes ∧
    (s.setFw a1).chks = s.chks ∧ (s.setFw a1).droops = s.droops ∧ (s.setFw a1).cores = s.cores ∧ (s.setFw a1).tly = s.tly ∧
    (s.setFw a1).ramp = s.ramp ∧ (s.setFw a1).sns = s.sns ∧ (s.setFw a1).fcs = s.fcs ∧ (s.setFw a1).lpe = s.lpe ∧
    (s.setFw a1).trc = s.trc ∧ (s.setFw a1).wfg = s.wfg ∧ (s.setFw a1).cntZero = s.cntZero ∧ (s.setFw a1).dvfs = s.dvfs ∧
    (s.setFw a1).pins = s.pins ∧ (s.setFw a1).vrc = s.vrc ∧ (s.setFw a1).pmb = s.pmb ∧ (s.setFw a1).acc = s.acc ∧
    (s.setFw a1).thm = s.thm ∧ (s.setFw a1).hif = s.hif ∧ (s.setFw a1).slt = s.slt ∧ (s.setFw a1).par = s.par ∧
    (s.setFw a1).nvm = s.nvm ∧ (s.setFw a1).smb = s.smb ∧ (s.setFw a1).rst = s.rst ∧ (s.setFw a1).hub = s.hub ∧
    (s.setFw a1).fans = s.fans ∧ (s.setFw a1).mgt = s.mgt ∧ (s.setFw a1).xovrMs = s.xovrMs ∧
    ∀ f i, (s.setFw a1).rd f i = s.rd f i :=
  ⟨rfl, rfl, rfl, rfl, rfl, rfl, rfl, rfl, rfl, rfl, rfl, rfl, rfl, rfl, rfl, rfl, rfl, rfl, rfl, rfl, rfl, rfl, rfl, rfl, rfl, rfl, rfl, rfl, rfl, rfl, rfl, rfl, rfl, rfl, rfl, rfl, rfl, rfl, rfl, fun _ _ => rfl⟩

@[simp] theorem State.setFw_val (a1 : Fw) : (s.setFw a1).fw = a1 := rfl

@[simp] theorem State.setTrc_same (a1 : Trc) :
    (s.setTrc a1).pending = s.pending ∧ (s.setTrc a1).running = s.running ∧ (s.setTrc a1).ts = s.ts ∧
    (s.setTrc a1).fuse = s.fuse ∧ (s.setTrc a1).regs = s.regs ∧ (s.setTrc a1).mem = s.mem ∧ (s.setTrc a1).flash = s.flash ∧
    (s.setTrc a1).out = s.out ∧ (s.setTrc a1).recd = s.recd ∧ (s.setTrc a1).cnt = s.cnt ∧ (s.setTrc a1).cntPend = s.cntPend ∧
    (s.setTrc a1).lanes = s.lanes ∧ (s.setTrc a1).chks = s.chks ∧ (s.setTrc a1).droops = s.droops ∧
    (s.setTrc a1).cores = s.cores ∧ (s.setTrc a1).tly = s.tly ∧ (s.setTrc a1).ramp = s.ramp ∧ (s.setTrc a1).sns = s.sns ∧
    (s.setTrc a1).fcs = s.fcs ∧ (s.setTrc a1).lpe = s.lpe ∧ (s.setTrc a1).wfg = s.wfg ∧ (s.setTrc a1).cntZero = s.cntZero ∧
    (s.setTrc a1).dvfs = s.dvfs ∧ (s.setTrc a1).pins = s.pins ∧ (s.setTrc a1).vrc = s.vrc ∧ (s.setTrc a1).pmb = s.pmb ∧
    (s.setTrc a1).acc = s.acc ∧ (s.setTrc a1).thm = s.thm ∧ (s.setTrc a1).hif = s.hif ∧ (s.setTrc a1).slt = s.slt ∧
    (s.setTrc a1).par = s.par ∧ (s.setTrc a1).nvm = s.nvm ∧ (s.setTrc a1).smb = s.smb ∧ (s.setTrc a1).fw = s.fw ∧
    (s.setTrc a1).rst = s.rst ∧ (s.setTrc a1).hub = s.hub ∧ (s.setTrc a1).fans = s.fans ∧ (s.setTrc a1).mgt = s.mgt ∧
    (s.setTrc a1).xovrMs = s.xovrMs ∧ ∀ f i, (s.setTrc a1).rd f i = s.rd f i :=
  ⟨rfl, rfl, rfl, rfl, rfl, rfl, rfl, rfl, rfl, rfl, rfl, rfl, rfl, rfl, rfl, rfl, rfl, rfl, rfl, rfl, rfl, rfl, rfl, rfl, rfl, rfl, rfl, rfl, rfl, rfl, rfl, rfl, rfl, rfl, rfl, rfl, rfl, rfl, rfl, fun _ _ => rfl⟩

@[simp] theorem State.setTrc_val (a1 : Trc) : (s.setTrc a1).trc = a1 := rfl

@[simp] theorem State.setFan_same (a1 : Nat) (a2 : Fan) :
    (s.setFan a1 a2).pending = s.pending ∧ (s.setFan a1 a2).running = s.running ∧ (s.setFan a1 a2).ts = s.ts ∧
    (s.setFan a1 a2).fuse = s.fuse ∧ (s.setFan a1 a2).regs = s.regs ∧ (s.setFan a1 a2).mem = s.mem ∧
    (s.setFan a1 a2).flash = s.flash ∧ (s.setFan a1 a2).out = s.out ∧ (s.setFan a1 a2).recd = s.recd ∧
    (s.setFan a1 a2).cnt = s.cnt ∧ (s.setFan a1 a2).cntPend = s.cntPend ∧ (s.setFan a1 a2).lanes = s.lanes ∧
    (s.setFan a1 a2).chks = s.chks ∧ (s.setFan a1 a2).droops = s.droops ∧ (s.setFan a1 a2).cores = s.cores ∧
    (s.setFan a1 a2).tly = s.tly ∧ (s.setFan a1 a2).ramp = s.ramp ∧ (s.setFan a1 a2).sns = s.sns ∧
    (s.setFan a1 a2).fcs = s.fcs ∧ (s.setFan a1 a2).lpe = s.lpe ∧ (s.setFan a1 a2).trc = s.trc ∧ (s.setFan a1 a2).wfg = s.wfg ∧
    (s.setFan a1 a2).cntZero = s.cntZero ∧ (s.setFan a1 a2).dvfs = s.dvfs ∧ (s.setFan a1 a2).pins = s.pins ∧
    (s.setFan a1 a2).vrc = s.vrc ∧ (s.setFan a1 a2).pmb = s.pmb ∧ (s.setFan a1 a2).acc = s.acc ∧ (s.setFan a1 a2).thm = s.thm ∧
    (s.setFan a1 a2).hif = s.hif ∧ (s.setFan a1 a2).slt = s.slt ∧ (s.setFan a1 a2).par = s.par ∧ (s.setFan a1 a2).nvm = s.nvm ∧
    (s.setFan a1 a2).smb = s.smb ∧ (s.setFan a1 a2).fw = s.fw ∧ (s.setFan a1 a2).rst = s.rst ∧ (s.setFan a1 a2).hub = s.hub ∧
    (s.setFan a1 a2).mgt = s.mgt ∧ (s.setFan a1 a2).xovrMs = s.xovrMs ∧ ∀ f i, (s.setFan a1 a2).rd f i = s.rd f i :=
  ⟨rfl, rfl, rfl, rfl, rfl, rfl, rfl, rfl, rfl, rfl, rfl, rfl, rfl, rfl, rfl, rfl, rfl, rfl, rfl, rfl, rfl, rfl, rfl, rfl, rfl, rfl, rfl, rfl, rfl, rfl, rfl, rfl, rfl, rfl, rfl, rfl, rfl, rfl, rfl, fun _ _ => rfl⟩

@[simp] theorem State.setMgt_same (a1 : Mgt) :
    (s.setMgt a1).pending = s.pending ∧ (s.setMgt a1).running = s.running ∧ (s.setMgt a1).ts = s.ts ∧
    (s.setMgt a1).fuse = s.fuse ∧ (s.setMgt a1).regs = s.regs ∧ (s.setMgt a1).mem = s.mem ∧ (s.setMgt a1).flash = s.flash ∧
    (s.setMgt a1).out = s.out ∧ (s.setMgt a1).recd = s.recd ∧ (s.setMgt a1).cnt = s.cnt ∧ (s.setMgt a1).cntPend = s.cntPend ∧
    (s.setMgt a1).lanes = s.lanes ∧ (s.setMgt a1).chks = s.chks ∧ (s.setMgt a1).droops = s.droops ∧
    (s.setMgt a1).cores = s.cores ∧ (s.setMgt a1).tly = s.tly ∧ (s.setMgt a1).ramp = s.ramp ∧ (s.setMgt a1).sns = s.sns ∧
    (s.setMgt a1).fcs = s.fcs ∧ (s.setMgt a1).lpe = s.lpe ∧ (s.setMgt a1).trc = s.trc ∧ (s.setMgt a1).wfg = s.wfg ∧
    (s.setMgt a1).cntZero = s.cntZero ∧ (s.setMgt a1).dvfs = s.dvfs ∧ (s.setMgt a1).pins = s.pins ∧ (s.setMgt a1).vrc = s.vrc ∧
    (s.setMgt a1).pmb = s.pmb ∧ (s.setMgt a1).acc = s.acc ∧ (s.setMgt a1).thm = s.thm ∧ (s.setMgt a1).hif = s.hif ∧
    (s.setMgt a1).slt = s.slt ∧ (s.setMgt a1).par = s.par ∧ (s.setMgt a1).nvm = s.nvm ∧ (s.setMgt a1).smb = s.smb ∧
    (s.setMgt a1).fw = s.fw ∧ (s.setMgt a1).rst = s.rst ∧ (s.setMgt a1).hub = s.hub ∧ (s.setMgt a1).fans = s.fans ∧
    (s.setMgt a1).xovrMs = s.xovrMs ∧ ∀ f i, (s.setMgt a1).rd f i = s.rd f i :=
  ⟨rfl, rfl, rfl, rfl, rfl, rfl, rfl, rfl, rfl, rfl, rfl, rfl, rfl, rfl, rfl, rfl, rfl, rfl, rfl, rfl, rfl, rfl, rfl, rfl, rfl, rfl, rfl, rfl, rfl, rfl, rfl, rfl, rfl, rfl, rfl, rfl, rfl, rfl, rfl, fun _ _ => rfl⟩

@[simp] theorem State.setMgt_val (a1 : Mgt) : (s.setMgt a1).mgt = a1 := rfl

@[simp] theorem State.countIssued_same :
    (s.countIssued).pending = s.pending ∧ (s.countIssued).running = s.running ∧ (s.countIssued).ts = s.ts ∧
    (s.countIssued).fuse = s.fuse ∧ (s.countIssued).regs = s.regs ∧ (s.countIssued).mem = s.mem ∧
    (s.countIssued).flash = s.flash ∧ (s.countIssued).out = s.out ∧ (s.countIssued).recd = s.recd ∧
    (s.countIssued).cnt = s.cnt ∧ (s.countIssued).cntPend = s.cntPend ∧ (s.countIssued).lanes = s.lanes ∧
    (s.countIssued).chks = s.chks ∧ (s.countIssued).droops = s.droops ∧ (s.countIssued).cores = s.cores ∧
    (s.countIssued).tly = s.tly ∧ (s.countIssued).ramp = s.ramp ∧ (s.countIssued).sns = s.sns ∧ (s.countIssued).fcs = s.fcs ∧
    (s.countIssued).trc = s.trc ∧ (s.countIssued).wfg = s.wfg ∧ (s.countIssued).cntZero = s.cntZero ∧
    (s.countIssued).dvfs = s.dvfs ∧ (s.countIssued).pins = s.pins ∧ (s.countIssued).vrc = s.vrc ∧ (s.countIssued).pmb = s.pmb ∧
    (s.countIssued).acc = s.acc ∧ (s.countIssued).thm = s.thm ∧ (s.countIssued).hif = s.hif ∧ (s.countIssued).slt = s.slt ∧
    (s.countIssued).par = s.par ∧ (s.countIssued).nvm = s.nvm ∧ (s.countIssued).smb = s.smb ∧ (s.countIssued).fw = s.fw ∧
    (s.countIssued).rst = s.rst ∧ (s.countIssued).hub = s.hub ∧ (s.countIssued).fans = s.fans ∧ (s.countIssued).mgt = s.mgt ∧
    (s.countIssued).xovrMs = s.xovrMs ∧ ∀ f i, (s.countIssued).rd f i = s.rd f i :=
  ⟨rfl, rfl, rfl, rfl, rfl, rfl, rfl, rfl, rfl, rfl, rfl, rfl, rfl, rfl, rfl, rfl, rfl, rfl, rfl, rfl, rfl, rfl, rfl, rfl, rfl, rfl, rfl, rfl, rfl, rfl, rfl, rfl, rfl, rfl, rfl, rfl, rfl, rfl, rfl, fun _ _ => rfl⟩

@[simp] theorem State.chargeHouse_same (a1 : Nat) :
    (s.chargeHouse a1).pending = s.pending ∧ (s.chargeHouse a1).running = s.running ∧ (s.chargeHouse a1).ts = s.ts ∧
    (s.chargeHouse a1).fuse = s.fuse ∧ (s.chargeHouse a1).regs = s.regs ∧ (s.chargeHouse a1).mem = s.mem ∧
    (s.chargeHouse a1).flash = s.flash ∧ (s.chargeHouse a1).out = s.out ∧ (s.chargeHouse a1).recd = s.recd ∧
    (s.chargeHouse a1).cnt = s.cnt ∧ (s.chargeHouse a1).cntPend = s.cntPend ∧ (s.chargeHouse a1).lanes = s.lanes ∧
    (s.chargeHouse a1).chks = s.chks ∧ (s.chargeHouse a1).droops = s.droops ∧ (s.chargeHouse a1).cores = s.cores ∧
    (s.chargeHouse a1).tly = s.tly ∧ (s.chargeHouse a1).ramp = s.ramp ∧ (s.chargeHouse a1).sns = s.sns ∧
    (s.chargeHouse a1).fcs = s.fcs ∧ (s.chargeHouse a1).lpe = s.lpe ∧ (s.chargeHouse a1).trc = s.trc ∧
    (s.chargeHouse a1).wfg = s.wfg ∧ (s.chargeHouse a1).cntZero = s.cntZero ∧ (s.chargeHouse a1).dvfs = s.dvfs ∧
    (s.chargeHouse a1).pins = s.pins ∧ (s.chargeHouse a1).vrc = s.vrc ∧ (s.chargeHouse a1).pmb = s.pmb ∧
    (s.chargeHouse a1).thm = s.thm ∧ (s.chargeHouse a1).hif = s.hif ∧ (s.chargeHouse a1).slt = s.slt ∧
    (s.chargeHouse a1).par = s.par ∧ (s.chargeHouse a1).nvm = s.nvm ∧ (s.chargeHouse a1).smb = s.smb ∧
    (s.chargeHouse a1).fw = s.fw ∧ (s.chargeHouse a1).rst = s.rst ∧ (s.chargeHouse a1).hub = s.hub ∧
    (s.chargeHouse a1).fans = s.fans ∧ (s.chargeHouse a1).mgt = s.mgt ∧ (s.chargeHouse a1).xovrMs = s.xovrMs ∧
    ∀ f i, (s.chargeHouse a1).rd f i = s.rd f i :=
  ⟨rfl, rfl, rfl, rfl, rfl, rfl, rfl, rfl, rfl, rfl, rfl, rfl, rfl, rfl, rfl, rfl, rfl, rfl, rfl, rfl, rfl, rfl, rfl, rfl, rfl, rfl, rfl, rfl, rfl, rfl, rfl, rfl, rfl, rfl, rfl, rfl, rfl, rfl, rfl, fun _ _ => rfl⟩

@[simp] theorem State.chargeQueue_same (a1 : Nat) (a2 : Nat) :
    (s.chargeQueue a1 a2).pending = s.pending ∧ (s.chargeQueue a1 a2).running = s.running ∧ (s.chargeQueue a1 a2).ts = s.ts ∧
    (s.chargeQueue a1 a2).fuse = s.fuse ∧ (s.chargeQueue a1 a2).regs = s.regs ∧ (s.chargeQueue a1 a2).mem = s.mem ∧
    (s.chargeQueue a1 a2).flash = s.flash ∧ (s.chargeQueue a1 a2).out = s.out ∧ (s.chargeQueue a1 a2).recd = s.recd ∧
    (s.chargeQueue a1 a2).cnt = s.cnt ∧ (s.chargeQueue a1 a2).cntPend = s.cntPend ∧ (s.chargeQueue a1 a2).lanes = s.lanes ∧
    (s.chargeQueue a1 a2).chks = s.chks ∧ (s.chargeQueue a1 a2).droops = s.droops ∧ (s.chargeQueue a1 a2).cores = s.cores ∧
    (s.chargeQueue a1 a2).tly = s.tly ∧ (s.chargeQueue a1 a2).ramp = s.ramp ∧ (s.chargeQueue a1 a2).sns = s.sns ∧
    (s.chargeQueue a1 a2).fcs = s.fcs ∧ (s.chargeQueue a1 a2).lpe = s.lpe ∧ (s.chargeQueue a1 a2).trc = s.trc ∧
    (s.chargeQueue a1 a2).wfg = s.wfg ∧ (s.chargeQueue a1 a2).cntZero = s.cntZero ∧ (s.chargeQueue a1 a2).dvfs = s.dvfs ∧
    (s.chargeQueue a1 a2).pins = s.pins ∧ (s.chargeQueue a1 a2).vrc = s.vrc ∧ (s.chargeQueue a1 a2).pmb = s.pmb ∧
    (s.chargeQueue a1 a2).thm = s.thm ∧ (s.chargeQueue a1 a2).hif = s.hif ∧ (s.chargeQueue a1 a2).slt = s.slt ∧
    (s.chargeQueue a1 a2).par = s.par ∧ (s.chargeQueue a1 a2).nvm = s.nvm ∧ (s.chargeQueue a1 a2).smb = s.smb ∧
    (s.chargeQueue a1 a2).fw = s.fw ∧ (s.chargeQueue a1 a2).rst = s.rst ∧ (s.chargeQueue a1 a2).hub = s.hub ∧
    (s.chargeQueue a1 a2).fans = s.fans ∧ (s.chargeQueue a1 a2).mgt = s.mgt ∧ (s.chargeQueue a1 a2).xovrMs = s.xovrMs ∧
    ∀ f i, (s.chargeQueue a1 a2).rd f i = s.rd f i :=
  ⟨rfl, rfl, rfl, rfl, rfl, rfl, rfl, rfl, rfl, rfl, rfl, rfl, rfl, rfl, rfl, rfl, rfl, rfl, rfl, rfl, rfl, rfl, rfl, rfl, rfl, rfl, rfl, rfl, rfl, rfl, rfl, rfl, rfl, rfl, rfl, rfl, rfl, rfl, rfl, fun _ _ => rfl⟩

@[simp] theorem State.chargeTenant_same (a1 : Nat) (a2 : Nat) :
    (s.chargeTenant a1 a2).pending = s.pending ∧ (s.chargeTenant a1 a2).running = s.running ∧
    (s.chargeTenant a1 a2).ts = s.ts ∧ (s.chargeTenant a1 a2).fuse = s.fuse ∧ (s.chargeTenant a1 a2).regs = s.regs ∧
    (s.chargeTenant a1 a2).mem = s.mem ∧ (s.chargeTenant a1 a2).flash = s.flash ∧ (s.chargeTenant a1 a2).out = s.out ∧
    (s.chargeTenant a1 a2).recd = s.recd ∧ (s.chargeTenant a1 a2).cnt = s.cnt ∧ (s.chargeTenant a1 a2).cntPend = s.cntPend ∧
    (s.chargeTenant a1 a2).lanes = s.lanes ∧ (s.chargeTenant a1 a2).chks = s.chks ∧ (s.chargeTenant a1 a2).droops = s.droops ∧
    (s.chargeTenant a1 a2).cores = s.cores ∧ (s.chargeTenant a1 a2).tly = s.tly ∧ (s.chargeTenant a1 a2).ramp = s.ramp ∧
    (s.chargeTenant a1 a2).sns = s.sns ∧ (s.chargeTenant a1 a2).fcs = s.fcs ∧ (s.chargeTenant a1 a2).lpe = s.lpe ∧
    (s.chargeTenant a1 a2).trc = s.trc ∧ (s.chargeTenant a1 a2).wfg = s.wfg ∧ (s.chargeTenant a1 a2).cntZero = s.cntZero ∧
    (s.chargeTenant a1 a2).dvfs = s.dvfs ∧ (s.chargeTenant a1 a2).pins = s.pins ∧ (s.chargeTenant a1 a2).vrc = s.vrc ∧
    (s.chargeTenant a1 a2).pmb = s.pmb ∧ (s.chargeTenant a1 a2).thm = s.thm ∧ (s.chargeTenant a1 a2).hif = s.hif ∧
    (s.chargeTenant a1 a2).slt = s.slt ∧ (s.chargeTenant a1 a2).par = s.par ∧ (s.chargeTenant a1 a2).nvm = s.nvm ∧
    (s.chargeTenant a1 a2).smb = s.smb ∧ (s.chargeTenant a1 a2).fw = s.fw ∧ (s.chargeTenant a1 a2).rst = s.rst ∧
    (s.chargeTenant a1 a2).hub = s.hub ∧ (s.chargeTenant a1 a2).fans = s.fans ∧ (s.chargeTenant a1 a2).mgt = s.mgt ∧
    (s.chargeTenant a1 a2).xovrMs = s.xovrMs ∧ ∀ f i, (s.chargeTenant a1 a2).rd f i = s.rd f i :=
  ⟨rfl, rfl, rfl, rfl, rfl, rfl, rfl, rfl, rfl, rfl, rfl, rfl, rfl, rfl, rfl, rfl, rfl, rfl, rfl, rfl, rfl, rfl, rfl, rfl, rfl, rfl, rfl, rfl, rfl, rfl, rfl, rfl, rfl, rfl, rfl, rfl, rfl, rfl, rfl, fun _ _ => rfl⟩

@[simp] theorem State.send_out (o : Out) : (s.send o).out = s.out ++ [o] := rfl

/-! ### Reading a register field after a write -/

theorem State.rd_wr_key (f g : Fld) (i j v : Nat) (h : g.keyOf j ≠ f.keyOf i) : (s.wr f i v).rd g j = s.rd g j := by
  unfold State.rd State.wr
  exact mget_mput_ne _ _ _ h

/-- The element just written reads as the value, modulo the field's width. -/
@[simp] theorem State.rd_wr_same (f : Fld) (i v : Nat) : (s.wr f i v).rd f i = v % 2 ^ f.width := by
  unfold State.rd State.wr
  exact mget_mput_same _ _ _ _

/-- The bit address of the last element of a field. -/
def Fld.last (f : Fld) : Nat := f.key + (f.count - 1) * f.stride

/-- Two fields whose elements share no bit address, as a check on their places. -/
def sepFld (f g : Fld) : Bool :=
  decide (0 < f.count) && decide (0 < g.count) &&
  (decide (f.last < g.key) || decide (g.last < f.key) || decide (f.key % Nat.gcd f.stride g.stride ≠ g.key % Nat.gcd f.stride g.stride))

theorem Fld.keyOf_le {f : Fld} (h : 0 < f.count) (i : Nat) : f.key ≤ f.keyOf i ∧ f.keyOf i ≤ f.last := by
  unfold Fld.keyOf Fld.last
  have h1 : i % f.count ≤ f.count - 1 := by have := Nat.mod_lt i h; omega
  have h2 := Nat.mul_le_mul_right f.stride h1
  omega

theorem sepFld_ne {f g : Fld} (h : sepFld f g = true) (i j : Nat) : f.keyOf i ≠ g.keyOf j := by
  simp only [sepFld, Bool.and_eq_true, Bool.or_eq_true, decide_eq_true_eq] at h
  obtain ⟨⟨hf, hg⟩, h⟩ := h
  have h1 := Fld.keyOf_le hf i
  have h2 := Fld.keyOf_le hg j
  rcases h with (h | h) | h
  · omega
  · omega
  · intro e
    apply h
    have red : ∀ (d k x n : Nat), (k + n * (d * x)) % d = k % d := by
      intro d k x n
      rw [Nat.mul_left_comm, Nat.add_mul_mod_self_left]
    obtain ⟨x, hx⟩ := Nat.gcd_dvd_left f.stride g.stride
    obtain ⟨y, hy⟩ := Nat.gcd_dvd_right f.stride g.stride
    unfold Fld.keyOf at e
    generalize Nat.gcd f.stride g.stride = d at hx hy ⊢
    rw [hx, hy] at e
    rw [← red d f.key x (i % f.count), ← red d g.key y (j % g.count), e]

/-- A field that shares no place with the one written reads as before. -/
theorem State.rd_wr_sep (f g : Fld) (i j v : Nat) (h : sepFld g f = true) : (s.wr f i v).rd g j = s.rd g j :=
  s.rd_wr_key f g i j v (sepFld_ne h j i)

theorem State.rd_bump_sep (f g : Fld) (i j : Nat) (h : sepFld g f = true) : (s.bump f i).rd g j = s.rd g j :=
  s.rd_wr_sep f g i j _ h

theorem State.rd_addTo_sep (f g : Fld) (i j n : Nat) (h : sepFld g f = true) : (s.addTo f i n).rd g j = s.rd g j :=
  s.rd_wr_sep f g i j _ h

@[simp] theorem State.rd_bump_same (f : Fld) (i : Nat) : (s.bump f i).rd f i = (s.rd f i + 1) % 2 ^ f.width := s.rd_wr_same f i _

@[simp] theorem State.rd_addTo_same (f : Fld) (i n : Nat) : (s.addTo f i n).rd f i = (s.rd f i + n) % 2 ^ f.width := s.rd_wr_same f i _

/-- Two elements of one field are apart where their indices differ within the array. -/
theorem Fld.keyOf_ne {f : Fld} {i j : Nat} (hs : 0 < f.stride) (hi : i < f.count) (hj : j < f.count) (h : i ≠ j) : f.keyOf i ≠ f.keyOf j := by
  unfold Fld.keyOf
  rw [Nat.mod_eq_of_lt hi, Nat.mod_eq_of_lt hj]
  intro e
  have e2 : i * f.stride = j * f.stride := by omega
  exact h (Nat.eq_of_mul_eq_mul_right hs e2)

theorem State.rd_wr_idx (f : Fld) {i j : Nat} (v : Nat) (hs : 0 < f.stride) (hi : i < f.count) (hj : j < f.count) (h : j ≠ i) :
    (s.wr f i v).rd f j = s.rd f j :=
  s.rd_wr_key f f i j v (Fld.keyOf_ne hs hj hi h)

/-! ### Reading a register field across a frame -/

/-- The footprint m holds no field that shares a place with f, nor f's whole block. -/
def untouched (m : Nat) (f : Fld) : Bool :=
  decide (0 < f.count) && decide (f.last / 0x20000 = f.key / 0x20000) && !m.testBit (unitBit f.key) && !m.testBit 3 &&
  (List.range 24).all fun u => (unitFlds u).zipIdx.all fun x => !m.testBit (64 + unitBase u + x.2) || sepFld f x.1

variable {m : Nat} {s t : State}

theorem untouched_ne {f g : Fld} (h : untouched m f = true) (hg : Has m g) (i j : Nat) : f.keyOf i ≠ g.keyOf j := by
  obtain ⟨u, k, e, hb⟩ := hg
  have hu : u < 24 := by
    rcases Nat.lt_or_ge u 24 with h24 | h24
    · exact h24
    · rw [unitFlds_big h24] at e; simp at e
  simp only [untouched, Bool.and_eq_true, List.all_eq_true, List.mem_range] at h
  have h2 := h.2 u hu (g, k) (List.mk_mem_zipIdx_iff_getElem?.mpr e)
  simp only [hb, Bool.not_true, Bool.false_or] at h2
  exact sepFld_ne h2 i j

theorem Frame.rd_of (h : Frame m s t) {f : Fld} (hf : untouched m f = true) (i : Nat) : t.rd f i = s.rd f i := by
  have hk : mfind t.regs (f.keyOf i) = mfind s.regs (f.keyOf i) := by
    refine h.regs _ (fun g j hg => untouched_ne hf hg i j) ?_
    simp only [untouched, Bool.and_eq_true, decide_eq_true_eq, Bool.not_eq_true'] at hf
    obtain ⟨⟨⟨⟨hc, hl⟩, hu⟩, -⟩, -⟩ := hf
    have hb := Fld.keyOf_le hc i
    have e : f.keyOf i / 0x20000 = f.key / 0x20000 := by
      have := Nat.div_le_div_right (c := 0x20000) hb.1
      have := Nat.div_le_div_right (c := 0x20000) hb.2
      omega
    unfold unitBit at hu ⊢
    rw [e]; exact hu
  have hfu : t.fuse = s.fuse := by
    refine h.fuse ?_
    simp only [untouched, Bool.and_eq_true, Bool.not_eq_true'] at hf
    exact hf.1.2
  unfold State.rd mget
  rw [hk, hfu]

end Sys2Proof.Machine
end

