-- ==== Sys2Proof/Laws/Keeps.lean ====
section
/-!
SUPPORT. Laws/Keeps.lean: what a footprint leaves in the words of Safety.lean, and what writing an event does.
-/
namespace Sys2Proof.Machine

/-- The fields of a footprint, in the order of the blocks. -/
def footFlds (m : Nat) : List Fld :=
  (List.range 24).flatMap fun u => (unitFlds u).zipIdx.filterMap fun x => if m.testBit (64 + unitBase u + x.2) then some x.1 else none

/-- The blocks that a footprint holds whole. -/
def footUnits (m : Nat) : List Nat := (List.range 24).filter fun u => m.testBit (40 + u)

/-- The components of a footprint. -/
def footParts (m : Nat) : List Part :=
  [(0, Part.pending), (1, .running), (2, .ts), (3, .fuse), (5, .mem), (6, .flash), (7, .out), (8, .recd), (9, .cnt), (10, .cntPend),
   (11, .lanes), (12, .chks), (13, .droops), (14, .cores), (15, .tly), (16, .ramp), (17, .sns), (18, .fcs), (19, .lpe), (20, .trc),
   (21, .wfg), (22, .cntZero), (23, .dvfs), (24, .pins), (25, .vrc), (26, .pmb), (27, .acc), (28, .thm), (29, .hif), (30, .slt),
   (31, .par), (32, .nvm), (33, .smb), (34, .fw), (35, .rst), (36, .hub), (37, .fans), (38, .mgt), (39, .xovrMs)].filterMap fun x =>
    if m.testBit x.1 then some x.2 else none

theorem has_footFlds {m : Nat} {f : Fld} (h : Has m f) : f ∈ footFlds m := by
  obtain ⟨u, j, e, hb⟩ := h
  have hu : u < 24 := by
    rcases Nat.lt_or_ge u 24 with h24 | h24
    · exact h24
    · rw [unitFlds_big h24] at e; simp at e
  simp only [footFlds, List.mem_flatMap, List.mem_range, List.mem_filterMap]
  exact ⟨u, hu, (f, j), List.mk_mem_zipIdx_iff_getElem?.mpr e, by simp [hb]⟩

theorem same_of_notMem {m : Nat} {s t : State} (h : Frame m s t) (p : Part) (hp : p ∉ footParts m) : p.same s t := by
  have key : ∀ n, (n, p) ∈ [(0, Part.pending), (1, .running), (2, .ts), (3, .fuse), (5, .mem), (6, .flash), (7, .out), (8, .recd),
      (9, .cnt), (10, .cntPend), (11, .lanes), (12, .chks), (13, .droops), (14, .cores), (15, .tly), (16, .ramp), (17, .sns),
      (18, .fcs), (19, .lpe), (20, .trc), (21, .wfg), (22, .cntZero), (23, .dvfs), (24, .pins), (25, .vrc), (26, .pmb), (27, .acc),
      (28, .thm), (29, .hif), (30, .slt), (31, .par), (32, .nvm), (33, .smb), (34, .fw), (35, .rst), (36, .hub), (37, .fans),
      (38, .mgt), (39, .xovrMs)] → m.testBit n = false := by
    intro n hn
    cases hb : m.testBit n with
    | false => rfl
    | true =>
      exfalso; apply hp
      unfold footParts
      exact List.mem_filterMap.mpr ⟨(n, p), hn, by simp [hb]⟩
  cases p
  case pending => exact h.pending (key 0 (by decide))
  case running => exact h.running (key 1 (by decide))
  case ts => exact h.ts (key 2 (by decide))
  case fuse => exact h.fuse (key 3 (by decide))
  case mem => exact h.mem (key 5 (by decide))
  case flash => exact h.flash (key 6 (by decide))
  case out => exact h.out (key 7 (by decide))
  case recd => exact h.recd (key 8 (by decide))
  case cnt => exact h.cnt (key 9 (by decide))
  case cntPend => exact h.cntPend (key 10 (by decide))
  case lanes => exact h.lanes (key 11 (by decide))
  case chks => exact h.chks (key 12 (by decide))
  case droops => exact h.droops (key 13 (by decide))
  case cores => exact h.cores (key 14 (by decide))
  case tly => exact h.tly (key 15 (by decide))
  case ramp => exact h.ramp (key 16 (by decide))
  case sns => exact h.sns (key 17 (by decide))
  case fcs => exact h.fcs (key 18 (by decide))
  case lpe => exact h.lpe (key 19 (by decide))
  case trc => exact h.trc (key 20 (by decide))
  case wfg => exact h.wfg (key 21 (by decide))
  case cntZero => exact h.cntZero (key 22 (by decide))
  case dvfs => exact h.dvfs (key 23 (by decide))
  case pins => exact h.pins (key 24 (by decide))
  case vrc => exact h.vrc (key 25 (by decide))
  case pmb => exact h.pmb (key 26 (by decide))
  case acc => exact h.acc (key 27 (by decide))
  case thm => exact h.thm (key 28 (by decide))
  case hif => exact h.hif (key 29 (by decide))
  case slt => exact h.slt (key 30 (by decide))
  case par => exact h.par (key 31 (by decide))
  case nvm => exact h.nvm (key 32 (by decide))
  case smb => exact h.smb (key 33 (by decide))
  case fw => exact h.fw (key 34 (by decide))
  case rst => exact h.rst (key 35 (by decide))
  case hub => exact h.hub (key 36 (by decide))
  case fans => exact h.fans (key 37 (by decide))
  case mgt => exact h.mgt (key 38 (by decide))
  case xovrMs => exact h.xovrMs (key 39 (by decide))

/-- A state within the footprint m keeps what m does not name: fs, us and ps are read off m. -/
theorem Frame.keeps {m : Nat} {s t : State} {fs : List Fld} {us : List Nat} {ps : List Part} (h : Frame m s t)
    (hf : footFlds m = fs) (hu : footUnits m = us) (hp : footParts m = ps) (h3 : m.testBit 3 = false) : Keeps fs us ps s t := by
  refine ⟨fun g i hg hn => ?_, fun p hnp => same_of_notMem h p (by rw [hp]; exact hnp)⟩
  have hk : mfind t.regs (g.keyOf i) = mfind s.regs (g.keyOf i) := by
    refine h.regs _ (fun f j hm => hg f (hf ▸ has_footFlds hm) j) ?_
    cases hb : m.testBit (unitBit (g.keyOf i)) with
    | false => rfl
    | true =>
      exfalso; apply hn
      rw [← hu]
      exact List.mem_filter.mpr ⟨List.mem_range.mpr (by omega), hb⟩
  unfold State.rd mget
  rw [hk, h.fuse h3]

/-- A wider list keeps less. -/
theorem Keeps.mono {fs fs' : List Fld} {us us' : List Nat} {ps ps' : List Part} {s t : State} (h : Keeps fs us ps s t)
    (hf : ∀ f ∈ fs, f ∈ fs') (hu : ∀ u ∈ us, u ∈ us') (hp : ∀ p ∈ ps, p ∈ ps') : Keeps fs' us' ps' s t :=
  ⟨fun g i hg hn => h.1 g i (fun f hf2 => hg f (hf f hf2)) (fun hm => hn (hu _ hm)), fun p hn => h.2 p fun hm => hn (hp p hm)⟩

/-- Every field of fs has one of fs' over the same bits. -/
def covers (fs fs' : List Fld) : Bool :=
  fs.all fun f => fs'.any fun g => decide (f.key = g.key) && decide (f.count = g.count) && decide (f.stride = g.stride)

/-- A list that covers another keeps less. -/
theorem Keeps.wider {fs fs' : List Fld} {us : List Nat} {ps : List Part} {s t : State} (h : Keeps fs us ps s t)
    (hf : covers fs fs' = true) : Keeps fs' us ps s t := by
  refine ⟨fun g i hg hn => h.1 g i (fun f hm j => ?_) hn, h.2⟩
  obtain ⟨f', hm', e⟩ := List.any_eq_true.mp (List.all_eq_true.mp hf f hm)
  simp only [Bool.and_eq_true, decide_eq_true_eq] at e
  have hk : f.keyOf j = f'.keyOf j := by unfold Fld.keyOf; rw [e.1.1, e.1.2, e.2]
  rw [hk]; exact hg f' hm' j

/-- What a command keeps, read off its footprint. -/
theorem exec_keeps {c : Instr} {m : Nat} {fs : List Fld} {us : List Nat} {ps : List Part} (e : footprint c = m)
    (hf : covers (footFlds m) fs = true) (hu : footUnits m = us) (hp : footParts m = ps) (h3 : m.testBit 3 = false) (s t : State)
    (h : exec c s = .next t) : Keeps fs us ps s t := by
  obtain ⟨t', e', f⟩ := exec_frame c s
  rw [e'] at h; injection h with h; subst h
  rw [e] at f
  exact (f.keeps rfl hu hp h3).wider hf

/-! ### Writing an event -/

theorem State.emit_queue (s : State) (unit idx : Nat) (ps : List Nat) (h : s.recd.queue.length < 64) :
    ∃ r, (s.emit unit idx ps).recd.queue = s.recd.queue ++ [r] ∧ r.code = evCode unit idx ∧ r.params = evParams ps ∧ r.ts = s.ts ∧
      r.sev = evSeverity unit idx := by
  unfold State.emit State.pushRec
  simp only [h, if_true]
  exact ⟨_, rfl, rfl, rfl, rfl, rfl⟩

/-- An event written stands in the queue where there is room. -/
theorem State.emit_recorded (s : State) (unit idx : Nat) (ps : List Nat) : Recorded s (s.emit unit idx ps) unit idx ps := by
  intro h
  obtain ⟨r, hq, hc, hp, ht, -⟩ := s.emit_queue unit idx ps h
  exact ⟨r, by rw [hq]; simp, hc, hp, ht⟩

theorem State.emitLim_recorded (s : State) (unit idx scope span : Nat) (ps : List Nat)
    (h : mget s.recd.last (evCode unit idx * 2 ^ 16 + scope) 0 ≠ s.ts / span + 1) :
    Recorded s (s.emitLim unit idx scope span ps) unit idx ps := by
  unfold State.emitLim
  simp only [h, if_false]
  intro hq
  exact State.emit_recorded ({ s with recd := { s.recd with last := mput s.recd.last (evCode unit idx * 2 ^ 16 + scope) (s.ts / span + 1) } })
    unit idx ps hq

theorem Recorded.after {s t u : State} {unit idx : Nat} {ps : List Nat} (h : Recorded s t unit idx ps) (e : u.recd = t.recd) :
    Recorded s u unit idx ps := by
  unfold Recorded; rw [e]; exact h

theorem Recorded.before {r s t : State} {unit idx : Nat} {ps : List Nat} (h : Recorded s t unit idx ps) (e : s.recd = r.recd)
    (et : s.ts = r.ts) : Recorded r t unit idx ps := by
  unfold Recorded at h ⊢; rw [← e, ← et]; exact h

theorem State.emit_rd (s : State) (unit idx : Nat) (ps : List Nat) (f : Fld) (i : Nat)
    (h : untouched State.emit_foot f = true) : (s.emit unit idx ps).rd f i = s.rd f i :=
  Frame.rd_of (State.emit_frame (Sub.refl _) (Frame.refl _ s) unit idx ps) h i

theorem State.emitLim_rd (s : State) (unit idx scope span : Nat) (ps : List Nat) (f : Fld) (i : Nat)
    (h : untouched State.emitLim_foot f = true) : (s.emitLim unit idx scope span ps).rd f i = s.rd f i :=
  Frame.rd_of (State.emitLim_frame (Sub.refl _) (Frame.refl _ s) unit idx scope span ps) h i

/-- A meaning under hubOn, out of die reset. -/
theorem hubOn_running {f : State → State} {s : State} (h : s.running = true) : hubOn f s = .next (f s) := by
  unfold hubOn; rw [h]; rfl

/-- What a command that is a meaning under hubOn answers out of die reset. -/
theorem Answers.hub {c : Instr} {f : State → State} {s : State} {p : State → Prop} (e : exec c s = hubOn f s) (h : s.running = true)
    (g : p (f s)) : Answers c s p := ⟨f s, e.trans (hubOn_running h), g⟩

/-- In die reset it changes nothing. -/
theorem hubOn_reset {f : State → State} {s : State} (h : s.running = false) : hubOn f s = .next s := by
  unfold hubOn; rw [h]; rfl

end Sys2Proof.Machine
end

