-- ==== Sys2Proof/WellFormed.lean ====
section
/-!
DEFINITION. WellFormed.lean: what the outside can send: operands that an event or a message can carry.
-/
namespace Sys2Proof

/-- A link group index: 16 link outposts (R382). -/
def groupOk (link : Bool) (n : Fin 64) : Bool := !link || decide (n.val < 16)

/-- A management message: at most 2,060 bytes (R338). -/
def mgtOk (m : List Byte) : Bool := decide (m.length ≤ 2060)

/-- A bridge body: whole units of 8 bytes, at most 255 (R366). -/
def bodyOk (b : List Byte) : Bool := decide (b.length % 8 = 0) && decide (b.length ≤ 2040)

/-- A PKG body: 4 bytes and 512 portions of 4, padded to whole units of 8 bytes, which are 257 (R366, R367; log entry 191). -/
def pkgOk (b : List Byte) : Bool := decide (b.length % 8 = 0) && decide (b.length ≤ 2056)

/-- A list names nothing twice. -/
def onceEach {α β : Type} [DecidableEq α] (l : List (α × β)) : Bool := decide ((l.map (·.1)).Nodup)

/-- At most 64 slots begin in a window (R67). -/
def slotsOk (slots : List (BitVec 8 × Fin 65)) (unk : Fin 65) : Bool := decide ((slots.map fun x => x.2.val).sum + unk.val ≤ 64)

/-- A command that the outside can send. -/
def Instr.wellFormed : Instr → Bool
  | .outpostReset link n => groupOk link n
  | .outpostRelease link n => groupOk link n
  | .chokerWindow _ slots unk _ => slotsOk slots unk
  | .droopDetect _ _ drops => onceEach drops
  | .estimatorTick parts => onceEach parts && parts.all fun p => slotsOk p.2.1 p.2.2.1
  | .reconciliation other _ _ _ oheld => onceEach other && decide oheld.Nodup
  | .slateWrite data => decide (data.length ≤ 65536)
  | .memBuRead _ ecc => onceEach ecc
  | .firmwareMemoryAccess _ _ _ _ _ ecc => onceEach ecc
  | .backgroundTest _ ecc => onceEach ecc
  | .tsResync found => onceEach found
  | .mgtForward _ m => mgtOk m
  | .version _ m => mgtOk m
  | .demand _ m => mgtOk m
  | .grant _ m => mgtOk m
  | .heartbeat _ m => mgtOk m
  | .leave _ m => mgtOk m
  | .csync _ m => mgtOk m
  | .csyncAck _ m => mgtOk m
  | .clapReq _ _ m => mgtOk m
  | .clapRsp _ _ m => mgtOk m
  | .bridgeHb _ b _ => bodyOk b
  | .bridgeSync _ b _ => bodyOk b
  | .bridgeCkpt _ b _ => bodyOk b
  | .bridgeMirror _ b _ => bodyOk b
  | .bridgeMack _ b _ => bodyOk b
  | .bridgePrepare _ b _ => bodyOk b
  | .bridgeReady _ b _ => bodyOk b
  | .bridgeRefuse _ b _ => bodyOk b
  | .bridgeCommit _ b _ => bodyOk b
  | .bridgeAck _ b _ => bodyOk b
  | .bridgeDone _ b _ => bodyOk b
  | .bridgeAbort _ b _ => bodyOk b
  | .bridgeDiepwr _ b _ => bodyOk b
  | .bridgePkg _ b _ => pkgOk b
  | .bridgeCplate _ b _ => bodyOk b
  | .bridgeLedger _ b _ => bodyOk b
  | .bridgeSalg _ b _ => bodyOk b
  | .bridgePclapReq _ b _ _ => bodyOk b
  | .bridgePclapRsp _ b _ _ => bodyOk b
  | .bridgeHandover _ b _ => bodyOk b
  | _ => true

end Sys2Proof
end

