-- ==== Sys2Proof/Tests/Slice0.lean ====
section
/-!
SUPPORT. Tests/Slice0.lean: this row's own tests: ill-formed terms, the manual's worked examples, and for every claim a state and
operands that meet all its hypotheses.
-/
namespace Sys2Proof.Tests
open Sys2Proof Sys2Proof.Machine Sys2Proof.Claims

set_option linter.all false
set_option maxRecDepth 100000
set_option Elab.async false

/-! ### Helpers -/

/-- A state after start-up, with the steward ring running. -/
def up : State :=
  let s : State := { State.reset with running := true, ts := 2 ^ 40 * 5 ^ 8, rst := { config := true } }
  let s := ((s.wr FW_STAT_state 0 0xAA).wr RST_SEQ_stage 0 5).wr NVM_STAT_found 0 1
  let s := s.setRing 512 { st := 2, agreed := true, ver := 0x12 }
  let s := s.wr HIF_SCTL_size 0 8
  s.setNvm { s.nvm with restored := true }
/-- The same of a Glatos D that is the primary of a pair. -/
def upD : State :=
  let s : State := { up with fuse := [(GEN_CFG_config.fuseKey, 1)] }
  let s := { s with par := { up := true, lost := false, paired := true, rx := 9 } }
  (s.wr PAR_STAT_role 0 1).wr PAR_STAT_state 0 2
/-- The state after reset. -/
def down : State := State.reset
/-- A telemetry frame that passes every check. -/
def tlmGood (lane seq : Nat) : BitVec 1000 :=
  let u := tlmSync * 2 ^ 968 + seq * 2 ^ (1000 - 48) + lane * 2 ^ (1000 - 53) + 2 ^ (1000 - 56)
  BitVec.ofNat 1000 ((u + crcBits ((List.range 904).map fun k => decide (ui u (32 + k) 1 = 1)) * 2 ^ 32) ^^^ scrambleMask)
/-- Bytes as memory cells from an address. -/
def cellsAt (a : Nat) (bs : List Byte) : List Host.Cell := (bs.zipIdx).map fun (b, k) => (a + k, b)
/-- The header of a firmware image of 4 KiB. -/
def imgHead (n : Nat) : List Byte :=
  leBytes 4 0x474D4946 ++ leBytes 1 0x10 ++ leBytes 1 n ++ leBytes 6 0 ++ leBytes 4 4096 ++ leBytes 48 0
/-- The header of a heartwood half. -/
def halfHead : List Byte :=
  let h := leBytes 4 0x44485754 ++ leBytes 1 0x10 ++ leBytes 19 0
  h ++ leBytes 4 (crcBytes h)
/-- A state of a bound Salgor member. -/
def mg (s : State) : State :=
  ((((s.wr MGT_IDENT_member 0 5).wr MGT_COORD_c0 0 1).wr MGT_COORD_c1 0 2).wr MGT_CTL_en 0 1).wr MGT_STAT_state 0 3
/-- A whole Salgor message. -/
def smsg (type src dst ep ttl term : Nat) (body : List Byte) : List Byte :=
  mgtSeal (leBytes 1 type ++ leBytes 1 0x10 ++ leBytes 2 0 ++ leBytes 2 src ++ leBytes 2 dst ++ leBytes 2 ep ++ leBytes 1 ttl
    ++ leBytes 1 (body.length / 8) ++ leBytes 2 7 ++ leBytes 2 term ++ body)
/-- A bridge header in turn. -/
def bh (kind n : Nat) : BitVec 96 := BitVec.ofNat 96 (kind + 2 ^ 8 + 9 * 2 ^ 16 + n % 256 * 2 ^ 64)
/-- Its CRC. -/
def bc (kind : Nat) (body : List Byte) : BitVec 32 := BitVec.ofNat 32 (crcBytes (leBytes 12 (bh kind (body.length / 8)).toNat ++ body))
/-- A state with a thermal set that passes its checks. -/
def okSet (s : State) : State :=
  { s with thm := { s.thm with set := { a := (List.range 512).map fun n => (n, [0x3F80]), period := s.rd THM_STEP_period } } }

/-! ### What the outside cannot send: each check of WellFormed refuses a term that breaks it -/

theorem test_wf_linkGroup : Instr.wellFormed (.outpostReset true 16) = false := by decide
theorem test_wf_linkGroupRelease : Instr.wellFormed (.outpostRelease true 63) = false := by decide
theorem test_wf_slots : Instr.wellFormed (.chokerWindow 0 [(1, 40)] 25 0) = false := by decide
theorem test_wf_slotsFull : Instr.wellFormed (.chokerWindow 0 [(1, 40)] 24 0) = true := by decide
theorem test_wf_parts : Instr.wellFormed (.estimatorTick [(1, [], 0, 0), (1, [], 0, 0)]) = false := by decide
theorem test_wf_partSlots : Instr.wellFormed (.estimatorTick [(1, [(1, 40)], 25, 0)]) = false := by decide
theorem test_wf_drops : Instr.wellFormed (.droopDetect 0 0 [(3, 1), (3, 2)]) = false := by decide
theorem test_wf_secondary : Instr.wellFormed (.reconciliation [(5, 1), (5, 1)] 0 0 0 []) = false := by decide
theorem test_wf_held : Instr.wellFormed (.reconciliation [] 0 0 0 [7, 7]) = false := by decide
theorem test_wf_slateData : Instr.wellFormed (.slateWrite (List.replicate 65537 0)) = false := by decide +kernel
theorem test_wf_words : Instr.wellFormed (.firmwareMemoryAccess 0 0 0 false 0 [(1, true), (1, false)]) = false := by decide
theorem test_wf_buWords : Instr.wellFormed (.memBuRead 0 [(1, true), (1, false)]) = false := by decide
theorem test_wf_testWords : Instr.wellFormed (.backgroundTest false [(9, true), (9, true)]) = false := by decide
theorem test_wf_followers : Instr.wellFormed (.tsResync [(2, 5), (2, 6)]) = false := by decide
theorem test_wf_message : Instr.wellFormed (.csync 0 (List.replicate 2061 0)) = false := by decide +kernel
theorem test_wf_body : Instr.wellFormed (.bridgeHb 0 (List.replicate 9 0) 0) = false := by decide +kernel
theorem test_wf_pkg : Instr.wellFormed (.bridgePkg 0 (List.replicate 2056 0) 0) = true := by decide +kernel
theorem test_wf_longPkg : Instr.wellFormed (.bridgePkg 0 (List.replicate 2064 0) 0) = false := by decide +kernel
theorem test_wf_longBody : Instr.wellFormed (.bridgeCkpt 0 (List.replicate 2048 0) 0) = false := by decide +kernel

/-! ### The manual's worked examples -/

/-- R5: 0.850 V is 0x0D48, the reset value of ACT_VREF. -/
theorem test_R5_volts : State.reset.rd ACT_VREF = 0x0D48 := by decide +kernel
/-- R12: 0x10 is later than 0xF0, and 0x70 is not. -/
theorem test_R12_later : laterSer 0x10 0xF0 8 = true := by decide +kernel
theorem test_R12_half : laterSer 0x70 0xF0 8 = false := by decide +kernel
/-- R162: VOUT_MODE 0x14 and READ_VOUT 0x0E66 give 3,600 units. -/
theorem test_R162_vout : voutUnits 0x0E66 (-12) = 3600 := by decide +kernel
/-- R162: READ_POUT 0xE8F0 is 30 W. -/
theorem test_R162_pout : linear11W 0xE8F0 = 0xF0 := by decide +kernel
/-- R447: EV_THM_SHUTDOWN is 0x2C03, EV_VRC_CROWBAR 0x2402. -/
theorem test_R447_codes : (evCode 11 3, evCode 9 2) = (0x2C03, 0x2402) := by decide +kernel
/-- R500: a block whose largest code is 470 needs exponent 3. -/
theorem test_R500_exponent : tlmExp 470 8 0 = 3 := by decide +kernel
/-- R519: two edges that span 1,200,000 SLOW cycles, with ppr 1, give 5,000 rpm. -/
theorem test_R519_speed : roundNEN 6000000000 1200000 = 5000 := by decide +kernel
/-- R339's example: field 1 at epoch 0x00001234FFFE is epoch 0x000012350001. -/
theorem test_R339_epoch : expandEpoch 0x1234FFFE 1 = 0x12350001 := by decide +kernel
/-- R295's example on a ring of 256 entries: prod 0x40 is accepted, prod 0x150 after it is a violation. -/
def ring40 : State :=
  let s : State := { up with hif := { up.hif with trings := [(40, 8 * 2 ^ 192 + 2 ^ 200)] } }
  s.setRing 40 { st := 2, prod := 0xFFFFFFC0, fetch := 0xFFFFFFC0, cqTail := 0xFFFFFFC0, cqHead := 0xFFFFFFC0 }
theorem test_R295_prod : ((doorbellProdWrite 0x28000 0x40 ring40).ring 40).prod = 0x40 := by decide +kernel
theorem test_R295_violation : ((doorbellProdWrite 0x28000 0x150 (doorbellProdWrite 0x28000 0x40 ring40)).ring 40).prod = 0x40 ∧
    ((doorbellProdWrite 0x28000 0x150 (doorbellProdWrite 0x28000 0x40 ring40)).ring 40).viol = 1 := by decide +kernel
/-- R272's table: A 4,620, B 1,200 and C 1,540 units, and D, inactive, 2,102. -/
def capTable : SMap Nat :=
  divide 7360 (fun t => [4800, 1200, 3200, uncapped].getD t uncapped) (fun t => [3, 1, 1, 2].getD t 0) [0, 1, 2]
theorem test_R272_table : (List.range 4).map (fun t => mget capTable t 0) = [4620, 1200, 1540, 2102] := by decide +kernel
/-- R353's table: the lo column, and the grants 10,400, 7,750, 9,975 and 3,875. -/
theorem test_R353_lo : (decay 1600 8 8000, decay 1600 8 6400, decay 1600 8 4000) = (7750, 6200, 3875) := by decide +kernel
def shareTable : SMap Nat :=
  allocate 32000 [{ id := 7, lo := 7750, base := 7750, cap := 10400, weight := 2 },
    { id := 12, lo := 7750, base := 7750, cap := 7750, weight := 1 },
    { id := 30, lo := 6200, base := 6200, cap := 12000, weight := 1 }, { id := 41, lo := 3875, base := 3875, cap := 3875, weight := 0 }]
theorem test_R353_table : [7, 12, 30, 41].map (fun i => mget shareTable i 0) = [10400, 7750, 9975, 3875] := by decide +kernel
/-- R345's clap: θ is 4,000 units and δ 80; with the parent's offset −12,345.5 units o becomes −8,345.5, in 1/256 unit. -/
def clapped : State :=
  let s : State := { up with ts := 1000260, mgt := { up.mgt with run := some { t0 := 1000000, n := 4 } } }
  State.onClapRsp 0 1000260 (List.replicate 16 0 ++ leBytes 8 1000000 ++ leBytes 8 1004080 ++ leBytes 8 1004180 ++
    leBytes 8 (2 ^ 64 - 3160448) ++ leBytes 8 0) s
def clapResult : Option (Int × Int × Int) :=
  match clapped.mgt.run with
  | some r => r.best.map fun b => (b.theta, b.delta, b.off + b.theta)
  | none => none
theorem test_R345_clap : clapResult = some (4000 * 256, 80 * 256, -2136448) := by decide +kernel

/-! ### Witnesses of the statements about the whole block -/

def stepped (c : Instr) (s : State) : State := match exec c s with | .next t => t | _ => s

theorem exec_stepped (c : Instr) (s : State) : exec c s = .next (stepped c s) := by
  obtain ⟨t, e, -⟩ := exec_frame c s
  rw [e]; unfold stepped; rw [e]

theorem wit_Extra_queueKept : ∃ (c : Instr) (s t : State), s.pending = [.pllLock] ∧ exec c s = .next t ∧ t ≠ s :=
  ⟨.tlmLaneDark 1, { up with pending := [.pllLock] }, _, rfl, exec_stepped _ _, by decide +kernel⟩
theorem wit_Extra_fusesKept : ∃ s t : State, step s = .next t ∧ s.fuse ≠ [] ∧ s.pending ≠ [] :=
  ⟨{ upD with pending := [.estimatorTick []] }, _, exec_stepped (.estimatorTick []) { upD with pending := [] }, by decide +kernel, by decide +kernel⟩
theorem wit_Extra_timestampKept : ∃ (c : Instr) (s t : State), exec c s = .next t ∧ resets c = false ∧ c ≠ .pllLock ∧ s.ts ≠ 0 :=
  ⟨.estimatorTick [], up, _, exec_stepped _ _, by decide, by decide, by decide +kernel⟩
theorem wit_Extra_idleCounts : ∃ s t : State, s.pending = [] ∧ step s = .next t ∧ s.running = true := ⟨up, _, rfl, rfl, rfl⟩
theorem wit_Extra_settingsByTake : ∃ (c : Instr) (s t : State) (f : Fld), exec c s = .next t ∧ resets c = false ∧ takesNow c = false ∧
    (f ∈ settings) ∧ (c = .epochBoundary → f.key ≠ MGT_DOM_BUD_bud.key ∧ f.key ≠ MGT_DOM_AT.key) ∧
    (mirrorsNow c = true → ∀ g ∈ mirrored, f.key ≠ g.key) := by
  refine ⟨.epochBoundary, up, _, ACT_VREF, exec_stepped _ _, by decide, by decide, ?_, fun _ => by decide, fun h => by cases h⟩
  unfold settings
  rw [List.mem_filter]
  refine ⟨List.mem_flatMap.mpr ⟨15, by decide, ?_⟩, by decide⟩
  unfold unitFlds fldsACT
  simp
/-- The second clauses: a hub cycle with nothing waiting, where a setting, a latch and a record stand. -/
theorem wit_Extra_hubCycle : ∃ s t : State, s.pending = [] ∧ step s = .next t ∧ s.rd RST_CAUSE_crowbar = 1 ∧ s.rd RST_CAUSE_shutdown = 1 ∧
    s.recd.queue ≠ [] ∧ s.hub.accs ≠ [] :=
  ⟨{ ((up.wr RST_CAUSE_crowbar 0 1).wr RST_CAUSE_shutdown 0 1).emit 7 1 [] with
    hub := { up.hub with accs := [{ master := 2, bank := 8, off := 64, write := true, data := 5 }] } }, _, by decide +kernel, rfl,
    by decide +kernel, by decide +kernel, by decide +kernel, by decide +kernel⟩
theorem wit_Extra_latchesHold : ∃ (c : Instr) (s t : State), exec c s = .next t ∧ c ≠ .supplyRemoval ∧ c ≠ .supplyRise ∧
    s.rd RST_CAUSE_crowbar = 1 ∧ s.rd RST_CAUSE_shutdown = 1 :=
  ⟨.poresetAssert, ({ up with rst := { up.rst with poreset := false } }.wr RST_CAUSE_crowbar 0 1).wr RST_CAUSE_shutdown 0 1, _,
    exec_stepped _ _, by decide, by decide, by decide +kernel, by decide +kernel⟩
theorem wit_Extra_repairsHold : ∃ (i : Fin 144) (c : Instr) (s t : State), exec c s = .next t ∧ c ≠ .supplyRemoval ∧ c ≠ .supplyRise ∧
    c ≠ .vddQfFall ∧ s.rd MEM_RMAP_valid i = 1 :=
  ⟨143, .poresetAssert, up.wr MEM_RMAP_valid 143 1, _, exec_stepped _ _, by decide, by decide, by decide, by decide +kernel⟩
theorem wit_Extra_quietInReset : ∃ (c : Instr) (s t : State), exec c s = .next t ∧ s.running = false ∧ resets c = false ∧
    c ∉ [.pllLock, .pllLockTimeout, .poresetNegate, .dieResetRelease] :=
  ⟨.estimatorTick [], State.reset, _, exec_stepped _ _, by decide, by decide, by decide⟩
theorem wit_Extra_memoriesKept : ∃ s t : State, s.memoriesOk = true ∧ step s = .next t ∧ t.mem ≠ s.mem :=
  let e : EvRec := { code := 0x2C03, sev := 5, flags := 0, take := 1, ts := 7, params := [1, 2, 3, 4] }
  ⟨{ up with pending := [.eventRecordAccept], recd := { up.recd with queue := [e] } }, _, by decide +kernel,
    exec_stepped .eventRecordAccept { up with recd := { up.recd with queue := [e] } }, by decide +kernel⟩
theorem wit_Extra_recordsWait : ∃ (c : Instr) (s t : State), exec c s = .next t ∧ resets c = false ∧ c ≠ .eventRecordAccept ∧
    t.recd.queue.length = 2 ∧ s.recd.queue.length = 1 :=
  ⟨.tlmLaneDark 1, up.emit 7 1 [], _, exec_stepped _ _, by decide, by decide, by decide +kernel, by decide +kernel⟩
theorem wit_Extra_fansApart : ∃ (n k : Fin 4) (c : Instr) (s t : State), k ≠ n ∧
    c ∈ [.fanPwmPeriod n, .tachEdge n, .tachTimeout n, .fanSpinupEnd n, .fanRestEnd n] ∧ exec c s = .next t :=
  ⟨3, 0, .tachEdge 3, up, _, by decide, by decide, exec_stepped _ _⟩
theorem wit_Extra_ringsApart : ∃ (r k : Fin 513) (off : BitVec 22) (o : Nat) (v : BitVec 32) (w ok : Bool) (n : Fin 4) (b : BitVec 512)
    (c : Instr) (s t : State), k ≠ r ∧ AtPage off r o ∧
    c ∈ [.doorbellProdWrite off v, .doorbellCqHeadWrite off v, .doorbellBadAccess off w n v, .descriptorFetched r ok b] ∧ exec c s = .next t :=
  ⟨512, 511, 0x200000, 0, 1, true, true, 2, 0, .doorbellProdWrite 0x200000 1, up, _, by decide, by unfold AtPage; decide, by decide,
    exec_stepped _ _⟩
theorem wit_Extra_tapsApart : ∃ (core j : Fin 64) (engine : Fin 4) (k : Nat) (rec : BitVec 128) (seq : BitVec 8) (a b : Bool) (c : Instr)
    (s t : State), k ≠ chokerOf core engine ∧ j ≠ core ∧ c ∈ [.dispatch core engine rec a, .beginStrobe core engine seq,
      .endStrobe core engine seq, .squashStrobe core engine seq, .tallyRequest core engine seq a b] ∧ exec c s = .next t :=
  ⟨63, 0, 3, 0, 0, 5, false, false, .dispatch 63 3 0 false, up, _, by decide, by decide, by decide, exec_stepped _ _⟩
theorem wit_Extra_chokersApart : ∃ (c k : Fin 320) (slots : List (BitVec 8 × Fin 65)) (unk : Fin 65) (bytes : BitVec 32) (s t : State),
    k ≠ c ∧ exec (.chokerWindow c slots unk bytes) s = .next t := ⟨319, 0, [(1, 3)], 0, 0, up, _, by decide, exec_stepped _ _⟩
theorem wit_Extra_droopsApart : ∃ (core n j : Fin 64) (k : Fin 320) (drops : List (Fin 32 × BitVec 12)) (s t : State), j ≠ core ∧
    k.val / 4 ≠ core ∧ exec (.droopDetect core n drops) s = .next t := ⟨63, 0, 0, 319, [(0, 300)], up, _, by decide, by decide, exec_stepped _ _⟩
theorem wit_Extra_phasesApart : ∃ (p k : Fin 144) (lane : Fin 18) (frame : BitVec 1000) (ov : Bool) (c : Instr) (s t : State), k ≠ p ∧
    k.val / 8 ≠ lane ∧ c ∈ [.phaseStale p, .phaseFrozen p, .phaseTempStale p, .tlmFrame lane frame ov, .tlmLaneDark lane] ∧
    exec c s = .next t := ⟨0, 143, 0, 0, false, .phaseStale 0, up, _, by decide, by decide, by decide, exec_stepped _ _⟩
theorem wit_Extra_contextsApart : ∃ (r : Rel) (n : Nat) (late : Bool) (c : Instr) (s t : State), s.relHead = some r ∧ n ≠ r.ctx ∧
    c ∈ [.loopEvaluation late, .loopSkip] ∧ exec c s = .next t :=
  ⟨{ ctx := 0, rel := 0, dead := 2 ^ 62, k := 0, cfg := 1 }, 4096, false, .loopEvaluation false,
    { up with lpe := { up.lpe with queue := [{ ctx := 0, rel := 0, dead := 2 ^ 62, k := 0, cfg := 1 }] } }, _, by decide +kernel, by decide,
    by decide, exec_stepped _ _⟩
theorem wit_Extra_processorsApart : ∃ (n k : Fin 4) (ecc : Bool) (c : Instr) (s t : State), k ≠ n ∧ c ∈ [.fwException n ecc, .watchdogExpire n] ∧
    exec c s = .next t := ⟨0, 3, true, .fwException 0 true, up, _, by decide, by decide, exec_stepped _ _⟩
theorem wit_Extra_slatesApart : ∃ (data : List Byte) (d : Desc) (k : Nat) (s t : State), InTurn s (fun d => decide (dOp d.w = 0x11)) d ∧
    k ≠ dB d.w 8 2 % 8 ∧ exec (.slateWrite data) s = .next t :=
  ⟨[], { ring := 512, idx := 3, w := 0x11 * 2 ^ 0 + 0x11 * 2 ^ 8 + 7 * 2 ^ 64 },  0,
    { up with hif := { up.hif with units := [{ ring := 512, idx := 3, w := 0x11 * 2 ^ 0 + 0x11 * 2 ^ 8 + 7 * 2 ^ 64 }] } }, _,
    by unfold InTurn; decide +kernel, by decide +kernel, exec_stepped _ _⟩
theorem wit_Extra_memoryBytes : ∃ s t : State, s.pending = [] ∧ step s = .next t ∧ t.mem ≠ s.mem :=
  ⟨{ up with hub := { up.hub with accs := [{ master := 11, bank := 8, off := 2 ^ 20 - 64, write := true, data := 5 }] } }, _,
    by decide +kernel, rfl, by decide +kernel⟩
/-- The commands of the other clauses: a background test that finds a double error, a heartwood record, a clear. -/
theorem wit_Extra_testBytes : ∃ (e : Fin 32 × Bool) (bank region : Nat) (q : Bool) (s t : State),
    exec (.backgroundTest false [e]) s = .next t ∧ s.btPick = some ((bank, region), q) ∧ e.2 = true :=
  ⟨(31, true), 8, 5, true, { up with hub := { up.hub with btQueue := [(8, 5)] } }, _, exec_stepped _ _, by decide +kernel, rfl⟩
theorem wit_Extra_cacheBytes : ∃ (o : FlashOp) (s t : State), exec (.flashOpTimeout 5) s = .next t ∧ o ∈ s.nvm.ops.head? :=
  ⟨{ item := 7, addr := 0x4000, data := [1] }, { up with nvm := { up.nvm with ops := [{ item := 7, addr := 0x4000, data := [1] }] } }, _,
    exec_stepped _ _, by decide +kernel⟩
theorem wit_Extra_flashBytes : ∃ s t : State, exec .flashOpDone s = .next t ∧ t.flash ≠ s.flash :=
  ⟨{ up with nvm := { up.nvm with ops := [{ item := 7, addr := 0x4000, data := [1] }] } }, _, exec_stepped _ _, by decide +kernel⟩
theorem wit_Extra_capsWithin : ∃ (set w : Nat → Nat) (active : List Nat), active.Nodup ∧ (∀ t ∈ active, t < 512 ∧ 0 < w t) ∧ active ≠ [] :=
  ⟨fun _ => uncapped, fun _ => 1, [0, 511], by decide, by decide, by decide⟩
theorem wit_Extra_grantsWithin : ∃ xs : List Share, (xs.map (·.id)).Nodup ∧
    (∀ x ∈ xs, x.lo ≤ x.base ∧ x.base ≤ x.cap ∧ (x.base < x.cap → 0 < x.weight)) ∧ xs.length = 2 :=
  ⟨[{ id := 1, lo := 5, base := 5, cap := 9, weight := 1 }, { id := 2, lo := 5, base := 6, cap := 6, weight := 0 }], by decide, by decide, rfl⟩
/-- R12 at each boundary of d, with n = 8: 0, 1, 127, 128 and 255. -/
theorem wit_Extra_serialOrder : [0, 1, 127, 128, 255].map (fun d => laterSer d 0 8) = [false, true, true, false, false] := by decide +kernel
/-- R186: the two clauses, the second at the deadline itself. -/
theorem wit_Extra_releaseOrder : ∃ (r x : Rel) (s : State), s.relHead = some r ∧ x ∈ s.lpe.queue ∧ x ≠ r ∧ r.dead ≤ s.ts := by
  refine ⟨{ ctx := 4, rel := 0, dead := 2 ^ 40 * 5 ^ 8, k := 1, cfg := 1 }, { ctx := 3, rel := 0, dead := 2 ^ 40 * 5 ^ 8, k := 2, cfg := 1 },
    { up with lpe := { up.lpe with queue := [{ ctx := 3, rel := 0, dead := 2 ^ 40 * 5 ^ 8, k := 2, cfg := 1 },
      { ctx := 4, rel := 0, dead := 2 ^ 40 * 5 ^ 8, k := 1, cfg := 1 }] } }, ?_, ?_, ?_, ?_⟩ <;> decide +kernel
/-- R329: both clauses of the wrap. -/
theorem wit_Extra_takeNumbers : (up.wr SLT_TAKE_take 0 0xFFFFFFFF).nextTake.rd SLT_TAKE_take = 0 ∧
    (up.wr SLT_TAKE_take 0 0xFFFFFFFF).nextTake.rd SLT_TAKE_WRAP_wraps = 1 ∧ up.nextTake.rd SLT_TAKE_WRAP_wraps = 0 := by decide +kernel
/-- The frame statements have no premise but that the command answers; it does so for all. -/
theorem wit_Frames (c : Instr) : ∃ t, exec c up = .next t := ⟨_, exec_stepped c up⟩

/-! ### Witnesses of the claims -/

theorem wit_Telemetry_tlmFrameAccepted : ∃ (lane : Fin 18) (frame : BitVec 1000) (s : State), s.running = true ∧ bit (s.rd
    SNS_CTL_lane_en) lane.val = true ∧ s.rd SNS_TLM_STAT_state lane.val = 2 ∧ syncErrors frame.toNat ≤ 1 ∧ frameGood lane.val
    (unscramble frame.toNat) = true ∧ (frSeq (unscramble frame.toNat) + 65536 - (s.tlane lane.val).lastSeq) % 65536 = 1 :=
  ⟨(1 : Fin 18), (tlmGood 1 1 : BitVec 1000),
    (let lane : Fin 18 := 1;
    let s : State := up;
    let s : State := s.wr SNS_TLM_STAT_state lane.val (2);
    s),
    by decide +kernel⟩
theorem wit_Telemetry_tlmFrameCrc : ∃ (lane : Fin 18) (frame : BitVec 1000) (s : State), s.running = true ∧ bit (s.rd
    SNS_CTL_lane_en) lane.val = true ∧ s.rd SNS_TLM_STAT_state lane.val = 2 ∧ syncErrors frame.toNat ≤ 1 ∧ frameCrcOk (unscramble
    frame.toNat) = false :=
  ⟨(1 : Fin 18), (BitVec.ofNat 1000 (0xF6283A5D * 2 ^ 968) : BitVec 1000),
    (let lane : Fin 18 := 1;
    let s : State := up;
    let s : State := s.wr SNS_TLM_STAT_state lane.val (2);
    s),
    by decide +kernel⟩
theorem wit_Telemetry_tlmLaneDark : ∃ (lane : Fin 18) (s : State), s.running = true ∧ bit (s.rd SNS_CTL_lane_en) lane.val = true
    :=
  ⟨(1 : Fin 18),
    up,
    by decide +kernel⟩
theorem wit_Telemetry_phaseStale : ∃ (p : Fin 144) (s : State), s.running = true ∧ s.phaseOn p.val = true ∧ (s.ph p.val).stale =
    false ∧ (s.ph p.val).fault = false ∧ (s.ph p.val).frozen = false ∧ (s.tlane (p.val / 8)).lastTs + 640 * max 1 (s.rd
    SNS_FRZ_stale_frames) ≤ s.ts :=
  ⟨(1 : Fin 144),
    (let p : Fin 144 := 1;
    let s : State := up;
    let s : State := s.setPh p.val { s.ph p.val with stale := false };
    let s : State := s.setPh p.val { s.ph p.val with fault := false };
    let s : State := s.setPh p.val { s.ph p.val with frozen := false };
    let s : State := s.wr SNS_CTL_lane_en 0 1;
    let s : State := { s with vrc := { s.vrc with order := [1] } };
    s),
    by decide +kernel⟩
theorem wit_Telemetry_phaseFrozen : ∃ (p : Fin 144) (s : State), s.running = true ∧ s.phaseOn p.val = true ∧ (s.ph p.val).frozen
    = false ∧ (s.ph p.val).fault = false ∧ max 64 (s.rd SNS_FRZ_frz_window) ≤ (s.ph p.val).run :=
  ⟨(1 : Fin 144),
    (let p : Fin 144 := 1;
    let s : State := up;
    let s : State := s.setPh p.val { s.ph p.val with frozen := false };
    let s : State := s.setPh p.val { s.ph p.val with fault := false };
    let s : State := s.wr SNS_CTL_lane_en 0 1;
    let s : State := { s with vrc := { s.vrc with order := [1] } };
    let s : State := s.setPh 1 { s.ph 1 with run := 5000 };
    s),
    by decide +kernel⟩
theorem wit_Telemetry_phaseTempStale : ∃ (p : Fin 144) (s : State), s.running = true ∧ (s.ph p.val).tempSeen = true ∧ (s.ph
    p.val).tempTs + 1000000 ≤ s.ts :=
  ⟨(1 : Fin 144),
    (let p : Fin 144 := 1;
    let s : State := up;
    let s : State := s.setPh p.val { s.ph p.val with tempSeen := true };
    s),
    by decide +kernel⟩
theorem wit_Tally_tallyRequestHeld : ∃ (core : Fin 64) (engine : Fin 4) (seq : BitVec 8) (coll : Bool) (s : State), s.running =
    true ∧ s.refused (chokerOf core engine) seq.toNat = false :=
  ⟨(1 : Fin 64), (1 : Fin 4), (3 : BitVec 8), (true : Bool),
    (let core : Fin 64 := 1;
    let engine : Fin 4 := 1;
    let s : State := up;
    let s : State := s.setLane (chokerOf core engine) { s.lane (chokerOf core engine) with req := none };
    let s : State := s.setLane 5 { s.lane 5 with cmds := [{ word := 3 * 2 ^ 16 }] };
    s),
    by decide +kernel⟩
theorem wit_Tally_tallyRequestRefused : ∃ (core : Fin 64) (engine : Fin 4) (seq : BitVec 8) (coll : Bool) (s : State), s.running
    = true ∧ s.refused (chokerOf core engine) seq.toNat = true :=
  ⟨(1 : Fin 64), (1 : Fin 4), (0 : BitVec 8), (true : Bool),
    up,
    by decide +kernel⟩
theorem wit_Tally_tallyRequestPresent : ∃ (c : Fin 256) (r : PortReq) (m : Cmd) (s : State), s.running = true ∧ (s.lane c).req =
    some r ∧ (s.lane c).early = [] ∧ (r.presented = true ∨ s.stepping c = false) ∧ findCmd (s.lane c) r.seq = some m ∧ m.begun =
    false ∧ s.objOf c r.seq false = none ∧ earlierBegun (s.lane c) r.seq = true ∧ s.rd TLY_TEN_ST_objects (bits m.word 24 9) < s.rd
    TLY_TEN_objmax (bits m.word 24 9) ∧ s.tly.fresh < 8192 :=
  ⟨(1 : Fin 256), ({ seq := 3, coll := false } : PortReq), ({ word := 3 * 2 ^ 16 } : Cmd),
    (let c : Fin 256 := 1;
    let r : PortReq := { seq := 3, coll := false };
    let m : Cmd := { word := 3 * 2 ^ 16 };
    let s : State := up;
    let s : State := s.setLane c { s.lane c with req := some r };
    let s : State := s.wr TLY_TEN_ST_objects (bits m.word 24 9) (0);
    let s : State := s.setLane 1 { s.lane 1 with cmds := [{ word := 3 * 2 ^ 16 }], req := some { seq := 3, coll := false } };
    let s : State := s.wr TLY_TEN_objmax 0 4;
    s),
    by decide +kernel⟩
theorem wit_Tally_tallyAdmit : ∃ (n : Fin 512) (o : Nat) (s : State), s.running = true ∧ s.admHead n = some o ∧ max
    (s.committedAtStart n) (s.rd TLY_TEN_ST_committed n) + (s.obj o).amount ≤ s.rd TLY_TEN_quota n :=
  ⟨(1 : Fin 512), (3 : Nat),
    (let s : State := up;
    let s : State := s.setObj 3 { s.obj 3 with state := 1, tenant := 1 };
    s),
    by decide +kernel⟩
theorem wit_Tally_tallyGrant : ∃ (p : Fin 16) (r : Turn) (rest : List Turn) (o : Nat) (s : State), s.running = true ∧ s.turnFree
    p = true ∧ s.mayAct p = true ∧ (s.poolSt p).round = r :: rest ∧ s.headOf p r.tenant = some o ∧ ((s.obj o).amount : Int) ≤ (if
    r.visited then r.deficit else r.deficit + ((s.rd TLY_TEN_weight r.tenant * s.rd TLY_CFG_quantum : Nat) : Int)) ∧ ((s.obj
    o).amount : Int) ≤ s.freeRoom p :=
  ⟨(1 : Fin 16), ({ tenant := 3 } : Turn), ([] : List Turn), (3 : Nat),
    (let p : Fin 16 := 1;
    let r : Turn := { tenant := 3 };
    let rest : List Turn := [];
    let s : State := up;
    let s : State := s.setPool p { s.poolSt p with round := r :: rest };
    let s : State := s.setPool 1 { s.poolSt 1 with round := [{ tenant := 3 }] };
    let s : State := s.setObj 3 { s.obj 3 with state := 1, admitted := true, pool := 1, tenant := 3, amount := 5 };
    let s : State := s.wr TLY_TEN_weight 3 1;
    let s : State := s.wr TLY_CFG_quantum 0 10;
    let s : State := s.wr TLY_POOL_cap 1 100;
    s),
    by decide +kernel⟩
theorem wit_Tally_tallyRelease : ∃ (core : Fin 64) (engine : Fin 4) (id : BitVec 13) (gen : BitVec 8) (s : State), s.running =
    true ∧ (s.obj id.toNat).state ≠ 0 ∧ (s.obj id.toNat).engine = chokerOf core engine ∧ gen.toNat = (s.obj id.toNat).gen :=
  ⟨(1 : Fin 64), (1 : Fin 4), (0 : BitVec 13), (0 : BitVec 8),
    (let core : Fin 64 := 1;
    let engine : Fin 4 := 1;
    let id : BitVec 13 := 0;
    let s : State := up;
    let s : State := s.setObj id.toNat { s.obj id.toNat with state := 1 };
    let s : State := s.setObj id.toNat { s.obj id.toNat with engine := chokerOf core engine };
    s),
    by decide +kernel⟩
theorem wit_Tally_tallyReleaseWrong : ∃ (core : Fin 64) (engine : Fin 4) (id : BitVec 13) (gen : BitVec 8) (s : State),
    s.running = true ∧ ((s.obj id.toNat).state = 0 ∨ (s.obj id.toNat).engine ≠ chokerOf core engine) :=
  ⟨(1 : Fin 64), (1 : Fin 4), (0 : BitVec 13), (0 : BitVec 8),
    (let id : BitVec 13 := 0;
    let s : State := up;
    let s : State := s.setObj id.toNat { s.obj id.toNat with state := 0 };
    s),
    by decide +kernel⟩
theorem wit_Tally_tallyAutoRelease : ∃ (core : Fin 64) (engine : Fin 4) (seq : BitVec 8) (o : Nat) (s : State), s.running = true
    ∧ s.objOf (chokerOf core engine) seq.toNat true = some o ∧ (s.obj o).state ≠ 0 :=
  ⟨(1 : Fin 64), (1 : Fin 4), (3 : BitVec 8), (3 : Nat),
    (let engine : Fin 4 := 1;
    let seq : BitVec 8 := 3;
    let o : Nat := 3;
    let s : State := up;
    let s : State := s.setObj o { s.obj o with state := 1 };
    let s : State := s.setObj 3 { s.obj 3 with state := 2, engine := 5, seq := 3, ended := true };
    s),
    by decide +kernel⟩
theorem wit_Tally_requestAged : ∃ (p : Fin 16) (o : Nat) (s : State), s.running = true ∧ (s.poolSt p).round = [] ∧ s.recallHead
    p = some o ∧ (s.obj o).tElig + s.rd TLY_POOL_age p * usT ≤ s.ts ∧ o ∉ (s.poolSt p).aged ∧ (s.poolSt p).rsv.map (·.1) ≠ some o :=
  ⟨(1 : Fin 16), (3 : Nat),
    (let p : Fin 16 := 1;
    let s : State := up;
    let s : State := s.setPool p { s.poolSt p with round := [] };
    let s : State := s.setObj 3 { s.obj 3 with state := 3, eligible := true, pool := 1 };
    s),
    by decide +kernel⟩
theorem wit_Tally_reservationTake : ∃ (p : Fin 16) (o : Nat) (rest : List Nat) (s : State), s.running = true ∧ (s.poolSt p).rsv
    = none ∧ (s.poolSt p).aged = o :: rest ∧ s.mayAct p = true :=
  ⟨(1 : Fin 16), (3 : Nat), ([] : List Nat),
    (let p : Fin 16 := 1;
    let o : Nat := 3;
    let rest : List Nat := [];
    let s : State := up;
    let s : State := s.setPool p { s.poolSt p with rsv := none };
    let s : State := s.setPool p { s.poolSt p with aged := o :: rest };
    s),
    by decide +kernel⟩
theorem wit_Tally_reservationMet : ∃ (p : Fin 16) (o n : Nat) (s : State), s.running = true ∧ (s.poolSt p).rsv = some (o, n) ∧
    ((s.obj o).amount : Int) ≤ s.freeRoom p ∧ s.mayAct p = true :=
  ⟨(1 : Fin 16), (3 : Nat), (3 : Nat),
    (let p : Fin 16 := 1;
    let o : Nat := 3;
    let n : Nat := 3;
    let s : State := up;
    let s : State := s.setPool p { s.poolSt p with rsv := some (o, n) };
    s),
    by decide +kernel⟩
theorem wit_Tally_reservationRecall : ∃ (p : Fin 16) (o n q : Nat) (s : State), s.running = true ∧ (s.poolSt p).rsv = some (o,
    n) ∧ s.freeRoom p < (s.obj o).amount ∧ n + s.rd TLY_POOL_rwait p * usT ≤ s.ts ∧ s.oldestGranted p = some q ∧ s.mayAct p = true
    :=
  ⟨(1 : Fin 16), (3 : Nat), (3 : Nat), (4 : Nat),
    (let p : Fin 16 := 1;
    let o : Nat := 3;
    let n : Nat := 3;
    let s : State := up;
    let s : State := s.setPool p { s.poolSt p with rsv := some (o, n) };
    let s : State := s.setObj 3 { s.obj 3 with amount := 5 };
    let s : State := s.setObj 4 { s.obj 4 with state := 2, pool := 1 };
    s),
    by decide +kernel⟩
theorem wit_Tally_recallReported : ∃ (o g k : Nat) (s : State), s.running = true ∧ s.pending = [] ∧ s.tly.recalls = [(o, g, k)]
    ∧ (s.obj o).state ≠ 0 ∧ (s.obj o).gen = g ∧ mget s.recd.last (evCode 14 1 * 2 ^ 16 + (s.obj o).engine) 0 ≠ s.ts / msT + 1 :=
  ⟨(5 : Nat), (0 : Nat), (1 : Nat),
    (let s : State := up;
    let s : State := s.setObj 5 { s.obj 5 with state := 2, tenant := 9 };
    let s : State := { s with tly := { s.tly with recalls := [(5, 0, 1)] } };
    s),
    by decide +kernel⟩
theorem wit_Tally_grantDriven : ∃ (o g : Nat) (s : State), s.running = true ∧ s.pending = [] ∧ s.tly.drive = [(o, g)] ∧ (s.obj
    o).state ≠ 0 ∧ (s.obj o).gen = g :=
  ⟨(5 : Nat), (0 : Nat),
    (let s : State := up;
    let s : State := s.setObj 5 { s.obj 5 with state := 2, tenant := 9 };
    let s : State := { s with tly := { s.tly with drive := [(5, 0)] } };
    s),
    by decide +kernel⟩
theorem wit_Tally_recallNoProgress : ∃ (o : Nat) (s : State), s.running = true ∧ s.ts % usT = 0 ∧ o ∈ s.tly.objs.map (·.1) ∧
    (s.obj o).state = 2 ∧ s.lastProgress (s.obj o) + s.recallTime (s.obj o).pool ≤ s.ts :=
  ⟨(3 : Nat),
    (let o : Nat := 3;
    let s : State := up;
    let s : State := s.setObj o { s.obj o with state := 2 };
    s),
    by decide +kernel⟩
theorem wit_Tally_recallEligible : ∃ (c : Fin 256) (o : Nat) (s : State), s.running = true ∧ o ∈ s.tly.objs.map (·.1) ∧ (s.obj
    o).state = 3 ∧ (s.obj o).engine = c ∧ (s.obj o).progSince = true ∧ (s.obj o).eligible = false :=
  ⟨(1 : Fin 256), (3 : Nat),
    (let c : Fin 256 := 1;
    let o : Nat := 3;
    let s : State := up;
    let s : State := s.setObj o { s.obj o with state := 3 };
    let s : State := s.setObj o { s.obj o with engine := c };
    let s : State := s.setObj o { s.obj o with progSince := true };
    let s : State := s.setObj o { s.obj o with eligible := false };
    s),
    by decide +kernel⟩
theorem wit_Tally_tallyRegrant : ∃ (p : Fin 16) (o : Nat) (s : State), s.running = true ∧ (s.poolSt p).rsv = none ∧ (s.poolSt
    p).aged = [] ∧ s.recallHead p = some o ∧ ((s.obj o).amount : Int) ≤ s.freeRoom p ∧ s.mayAct p = true :=
  ⟨(1 : Fin 16), (3 : Nat),
    (let p : Fin 16 := 1;
    let s : State := up;
    let s : State := s.setPool p { s.poolSt p with rsv := none };
    let s : State := s.setPool p { s.poolSt p with aged := [] };
    let s : State := s.setObj 3 { s.obj 3 with state := 3, eligible := true, pool := 1 };
    s),
    by decide +kernel⟩
theorem wit_Tally_stepPresent : ∃ (c : Fin 256) (r : PortReq) (s : State), s.running = true ∧ (s.lane c).req = some r ∧ (s.lane
    c).early = [] ∧ r.presented = false ∧ s.stepping c = true ∧ 1 ≤ s.rd CHK_STEP_credits c ∧ prevBegun (s.lane c) = true ∧
    s.refused c r.seq = false ∧ earlierBegun (s.lane c) r.seq = true :=
  ⟨(1 : Fin 256), ({ seq := 3, coll := false } : PortReq),
    (let c : Fin 256 := 1;
    let r : PortReq := { seq := 3, coll := false };
    let s : State := up;
    let s : State := s.setLane c { s.lane c with req := some r };
    let s : State := s.wr CHK_STEP_mode c 1;
    let s : State := s.wr CHK_STEP_credits c 1;
    let s : State := s.setLane 1 { s.lane 1 with cmds := [{ word := 3 * 2 ^ 16 }], req := some { seq := 3, coll := false } };
    s),
    by decide +kernel⟩
theorem wit_Choker_chokerWindowFirst : ∃ (c : Fin 320) (slots : List (BitVec 8 × Fin 65)) (unk : Fin 65) (bytes : BitVec 32) (s
    : State), s.running = true ∧ s.unitRuns c = true ∧ s.pins.ready = true ∧ (s.chk c).started = false :=
  ⟨(1 : Fin 320), ([] : List (BitVec 8 × Fin 65)), (1 : Fin 65), (0 : BitVec 32),
    (let s : State := up;
    let s : State := s.setCore 0 { s.core 0 with reset := false };
    let s : State := { s with pins := { s.pins with ready := true } };
    s),
    by decide +kernel⟩
theorem wit_Choker_chokerWindowLink : ∃ (c : Fin 320) (slots : List (BitVec 8 × Fin 65)) (unk : Fin 65) (bytes : BitVec 32) (s :
    State), s.running = true ∧ 256 ≤ c.val ∧ s.unitRuns c = true ∧ s.pins.ready = true ∧ (s.chk c).started = true ∧ s.rd
    CHK_ALLOW_now c < s.target c :=
  ⟨(300 : Fin 320), ([] : List (BitVec 8 × Fin 65)), (1 : Fin 65), (0 : BitVec 32),
    (let c : Fin 320 := 300;
    let s : State := up;
    let s : State := { s with hub := { s.hub with linkUp := [(11, true)] } };
    let s : State := { s with pins := { s.pins with ready := true } };
    let s : State := s.setChk c { s.chk c with started := true };
    let s : State := s.wr CHK_ALLOW_now c (0);
    s),
    by decide +kernel⟩
theorem wit_Choker_rampTick : ∃ (s : State), s.running = true ∧ s.ts % 20 = 0 ∧ s.ramp.tick ≠ some s.ts :=
  ⟨up,
    by decide +kernel⟩
theorem wit_Choker_droopDetect : ∃ (core n : Fin 64) (k : Fin 32) (v : BitVec 12) (s : State), s.running = true ∧ (s.core
    core).reset = false ∧ (s.droop core).cmp = 0 ∧ (s.droop core).orOut = false ∧ s.rd SNS_DRP_FORCE core = 0 ∧ bit (s.rd
    SNS_DRP_MASK core) k = false ∧ bits (s.rd SNS_DRP_THR (2048 * (s.droop core).band + 32 * core + k)) 0 7 ≠ 0 ∧ 8 * ((bits (s.rd
    SNS_DRP_THR (2048 * (s.droop core).band + 32 * core + k)) 0 7 : Nat) : Int) < v.toInt :=
  ⟨(1 : Fin 64), (1 : Fin 64), (1 : Fin 32), (1100 : BitVec 12),
    (let core : Fin 64 := 1;
    let s : State := up;
    let s : State := s.setCore core { s.core core with reset := false };
    s),
    by decide +kernel⟩
theorem wit_Choker_droopHoldExpire : ∃ (core : Fin 64) (s : State), s.running = true ∧ (s.droop core).hold = true ∧ (s.droop
    core).orOut = false ∧ 800 * s.rd CHK_DRP_CFG_hold ≤ s.quietCycles core :=
  ⟨(1 : Fin 64),
    (let core : Fin 64 := 1;
    let s : State := up;
    let s : State := s.setDroop core { s.droop core with hold := true };
    let s : State := s.setDroop core { s.droop core with orOut := false };
    s),
    by decide +kernel⟩
theorem wit_Choker_snsDrpForceWrite : ∃ (core n : Fin 64) (v : BitVec 32) (s : State), s.running = true ∧ s.unitAnswers 7 = true
    :=
  ⟨(1 : Fin 64), (1 : Fin 64), (0 : BitVec 32),
    up,
    by decide +kernel⟩
theorem wit_Choker_vrAlertAssert : ∃ (s : State), s.running = true ∧ s.fbInForce = false :=
  ⟨up,
    by decide +kernel⟩
theorem wit_Choker_vrAlertNegate : ∃ (s : State), s.running = true ∧ s.rd CHK_FB_STAT_state = 1 :=
  ⟨(let s : State := up;
    let s : State := s.wr CHK_FB_STAT_state 0 (1);
    s),
    by decide +kernel⟩
theorem wit_Choker_firebreakHoldoffExpire : ∃ (s : State), s.running = true ∧ s.rd CHK_FB_STAT_state = 2 ∧ s.flag
    CHK_FB_STAT_armed = true ∧ s.fbHeldOff = true :=
  ⟨(let s : State := up;
    let s : State := s.wr CHK_FB_STAT_state 0 (2);
    let s : State := s.wr CHK_FB_STAT_armed 0 (1);
    s),
    by decide +kernel⟩
theorem wit_Choker_firebreakAwaits : ∃ (s : State), s.running = true ∧ s.rd CHK_FB_STAT_state = 2 ∧ s.flag CHK_FB_STAT_armed =
    false ∧ s.fbHeldOff = true :=
  ⟨(let s : State := up;
    let s : State := s.wr CHK_FB_STAT_state 0 (2);
    s),
    by decide +kernel⟩
theorem wit_Choker_firebreakReleased : ∃ (n : Nat) (s : State), s.running = true ∧ s.pending = [] ∧ s.ramp.relAsk = some n ∧
    s.rd CHK_FB_STAT_state = 3 ∧ s.fbHeldOff = true :=
  ⟨(3 : Nat),
    (let s : State := up;
    let s : State := s.wr CHK_FB_STAT_state 0 (3);
    let s : State := { s with ramp := { s.ramp with relAsk := some 3 } };
    s),
    by decide +kernel⟩
theorem wit_Tap_dispatch : ∃ (core : Fin 64) (engine : Fin 4) (rec : BitVec 128) (s : State), s.running = true ∧ (s.core
    core).reset = false ∧ bits rec.toNat 0 2 = engine ∧ findCmd (s.lane (chokerOf core engine)) (bits rec.toNat 16 8) = none ∧
    (outst (s.lane (chokerOf core engine))).length < 128 :=
  ⟨(1 : Fin 64), (1 : Fin 4), (1 : BitVec 128),
    (let core : Fin 64 := 1;
    let s : State := up;
    let s : State := s.setCore core { s.core core with reset := false };
    s),
    by decide +kernel⟩
theorem wit_Tap_dispatchTwice : ∃ (core : Fin 64) (engine : Fin 4) (rec : BitVec 128) (s : State), s.running = true ∧ (s.core
    core).reset = false ∧ bits rec.toNat 0 2 = engine ∧ (findCmd (s.lane (chokerOf core engine)) (bits rec.toNat 16 8)).isSome =
    true ∧ mget s.recd.last (evCode 15 1 * 2 ^ 16 + core) 0 ≠ s.ts / usT + 1 :=
  ⟨(1 : Fin 64), (1 : Fin 4), (1 : BitVec 128),
    (let core : Fin 64 := 1;
    let s : State := up;
    let s : State := s.setCore core { s.core core with reset := false };
    let s : State := s.setLane 5 { s.lane 5 with cmds := [{ word := 0 }] };
    s),
    by decide +kernel⟩
theorem wit_Tap_dispatchMismatch : ∃ (core : Fin 64) (engine : Fin 4) (rec : BitVec 128) (s : State), s.running = true ∧ (s.core
    core).reset = false :=
  ⟨(1 : Fin 64), (1 : Fin 4), (0 : BitVec 128),
    (let core : Fin 64 := 1;
    let s : State := up;
    let s : State := s.setCore core { s.core core with reset := false };
    s),
    by decide +kernel⟩
theorem wit_Tap_beginStrobe : ∃ (core : Fin 64) (engine : Fin 4) (seq : BitVec 8) (m : Cmd) (s : State), s.running = true ∧
    (s.core core).reset = false ∧ findCmd (s.lane (chokerOf core engine)) seq.toNat = some m ∧ m.begun = false :=
  ⟨(1 : Fin 64), (1 : Fin 4), (0 : BitVec 8), ({ word := 0 } : Cmd),
    (let core : Fin 64 := 1;
    let s : State := up;
    let s : State := s.setCore core { s.core core with reset := false };
    let s : State := s.setLane 5 { s.lane 5 with cmds := [{ word := 0 }] };
    s),
    by decide +kernel⟩
theorem wit_Tap_endStrobe : ∃ (core : Fin 64) (engine : Fin 4) (seq : BitVec 8) (m : Cmd) (s : State), s.running = true ∧
    (s.core core).reset = false ∧ findCmd (s.lane (chokerOf core engine)) seq.toNat = some m ∧ m.begun = true :=
  ⟨(1 : Fin 64), (1 : Fin 4), (0 : BitVec 8), ({ word := 0, begun := true } : Cmd),
    (let core : Fin 64 := 1;
    let s : State := up;
    let s : State := s.setCore core { s.core core with reset := false };
    let s : State := s.setLane 5 { s.lane 5 with cmds := [{ word := 0, begun := true }] };
    s),
    by decide +kernel⟩
theorem wit_Tap_squashStrobe : ∃ (core : Fin 64) (engine : Fin 4) (seq : BitVec 8) (s : State), s.running = true ∧ (s.core
    core).reset = false :=
  ⟨(1 : Fin 64), (1 : Fin 4), (0 : BitVec 8),
    (let core : Fin 64 := 1;
    let s : State := up;
    let s : State := s.setCore core { s.core core with reset := false };
    s),
    by decide +kernel⟩
theorem wit_Clock_fmStart : ∃ (v : BitVec 32) (s : State), s.running = true ∧ bit v.toNat 24 = true :=
  ⟨(0x1000000 : BitVec 32),
    up,
    by decide +kernel⟩
theorem wit_Clock_fmDone : ∃ (edges : BitVec 31) (s : State), s.running = true ∧ s.hub.fm = true ∧ s.fmOver = true :=
  ⟨(0 : BitVec 31),
    (let s : State := up;
    let s : State := { s with hub := { s.hub with fm := true } };
    s),
    by decide +kernel⟩
theorem wit_Clock_tsResync : ∃ (i : Fin 8) (d : BitVec 32) (s : State), s.running = true ∧ s.ts % 1024 = 0 ∧ i.val ≠ 2 ∧ 1 <
    d.toNat ∧ mget s.recd.last (evCode 1 4 * 2 ^ 16 + 0) 0 ≠ s.ts / msT + 1 :=
  ⟨(1 : Fin 8), (2 : BitVec 32),
    up,
    by decide +kernel⟩
theorem wit_Clock_outpostResetCore : ∃ (n : Fin 64) (s : State), s.running = true ∧ (s.core n).reset = false :=
  ⟨(1 : Fin 64),
    (let n : Fin 64 := 1;
    let s : State := up;
    let s : State := s.setCore n { s.core n with reset := false };
    s),
    by decide +kernel⟩
theorem wit_Clock_outpostResetLink : ∃ (n : Fin 64) (s : State), s.running = true ∧ n.val < 16 ∧ mget s.hub.linkUp n.val false =
    true :=
  ⟨(1 : Fin 64),
    (let s : State := up;
    let s : State := { s with hub := { s.hub with linkUp := [(1, true)] } };
    s),
    by decide +kernel⟩
theorem wit_Clock_outpostRelease : ∃ (n : Fin 64) (s : State), s.running = true ∧ (s.core n).reset = true :=
  ⟨(1 : Fin 64),
    (let n : Fin 64 := 1;
    let s : State := up;
    let s : State := s.setCore n { s.core n with reset := true };
    s),
    by decide +kernel⟩
theorem wit_Clock_outpostReleaseForced : ∃ (n : Fin 64) (k : Fin 32) (s : State), s.running = true ∧ (s.core n).reset = true ∧
    (s.droop n).orOut = false ∧ bit (s.rd SNS_DRP_FORCE n) k = true ∧ bit (s.rd SNS_DRP_MASK n) k = false :=
  ⟨(63 : Fin 64), (31 : Fin 32),
    (let n : Fin 64 := 63;
    let s : State := up;
    let s : State := s.setCore n { s.core n with reset := true };
    let s : State := s.wr SNS_DRP_FORCE n (0x80000000);
    s),
    by decide +kernel⟩
theorem wit_Clock_outpostReleaseLink : ∃ (n : Fin 64) (s : State), s.running = true ∧ n.val < 16 :=
  ⟨(15 : Fin 64),
    up,
    by decide +kernel⟩
theorem wit_Clock_dvfsRequestUp : ∃ (target : Fin 8) (s : State), s.running = true ∧ s.isD = true ∧ s.fwRunning 0 = true ∧ s.rd
    CLK_DVFS_STAT_stage = 0 ∧ s.flag CLK_DVFS_STAT_parked = true ∧ s.dvfs.deferred = false ∧ s.dvfs.fbDescent = false ∧
    s.dvfs.retryT ≤ s.ts ∧ s.dieDroop = false ∧ target.val ≤ s.rd CLK_DVFS_LIM_max ∧ s.rd CLK_DVFS_LIM_min ≤ target.val ∧ s.rd
    CLK_DVFS_STAT_point < target.val :=
  ⟨(1 : Fin 8),
    (let s : State := upD;
    let s : State := s.wr CLK_DVFS_STAT_stage 0 (0);
    let s : State := s.wr CLK_DVFS_STAT_parked 0 (1);
    let s : State := { s with dvfs := { s.dvfs with deferred := false } };
    let s : State := { s with dvfs := { s.dvfs with fbDescent := false } };
    let s : State := s.wr CLK_DVFS_LIM_min 0 (0);
    let s : State := s.wr CLK_DVFS_STAT_point 0 (0);
    s),
    by decide +kernel⟩
theorem wit_Clock_dvfsRequestDown : ∃ (target : Fin 8) (s : State), s.running = true ∧ s.isD = true ∧ s.fwRunning 0 = true ∧
    s.rd CLK_DVFS_STAT_stage = 0 ∧ s.flag CLK_DVFS_STAT_parked = true ∧ s.dvfs.deferred = false ∧ s.dvfs.fbDescent = false ∧
    s.dvfs.retryT ≤ s.ts ∧ s.dieDroop = false ∧ target.val ≤ s.rd CLK_DVFS_LIM_max ∧ s.rd CLK_DVFS_LIM_min ≤ target.val ∧ target.val
    < s.rd CLK_DVFS_STAT_point :=
  ⟨(1 : Fin 8),
    (let s : State := upD;
    let s : State := s.wr CLK_DVFS_STAT_stage 0 (0);
    let s : State := s.wr CLK_DVFS_STAT_parked 0 (1);
    let s : State := { s with dvfs := { s.dvfs with deferred := false } };
    let s : State := { s with dvfs := { s.dvfs with fbDescent := false } };
    let s : State := s.wr CLK_DVFS_LIM_min 0 (0);
    let s : State := s.wr CLK_DVFS_STAT_point 0 5;
    let s : State := s.wr CLK_DVFS_LIM_max 0 7;
    s),
    by decide +kernel⟩
theorem wit_Clock_dvfsVoltageReady : ∃ (n : Nat) (s : State), s.running = true ∧ s.isD = true ∧ s.dvfs.reachT = some n ∧ s.rd
    CLK_DVFS_STAT_stage = 1 ∧ n + s.rd CLK_DVFS_CFG_settle * usT ≤ s.ts :=
  ⟨(3 : Nat),
    (let n : Nat := 3;
    let s : State := upD;
    let s : State := { s with dvfs := { s.dvfs with reachT := some n } };
    let s : State := s.wr CLK_DVFS_STAT_stage 0 (1);
    s),
    by decide +kernel⟩
theorem wit_Clock_dvfsSwitchUp : ∃ (s : State), s.running = true ∧ s.isD = true ∧ s.rd CLK_DVFS_STAT_stage = 2 ∧
    s.dvfs.switchOff = false :=
  ⟨(let s : State := upD;
    let s : State := s.wr CLK_DVFS_STAT_stage 0 (2);
    let s : State := { s with dvfs := { s.dvfs with switchOff := false } };
    s),
    by decide +kernel⟩
theorem wit_Clock_dvfsSwitchDown : ∃ (s : State), s.running = true ∧ s.isD = true ∧ s.rd CLK_DVFS_STAT_stage = 3 ∧ s.dieDroop =
    false ∧ s.rd VRC_VREF_vref ≠ s.dvfs.stepV :=
  ⟨(let s : State := upD;
    let s : State := s.wr CLK_DVFS_STAT_stage 0 (3);
    let s : State := { s with dvfs := { s.dvfs with step := 1, stepV := 3000 } };
    s),
    by decide +kernel⟩
theorem wit_Clock_dvfsHalfParked : ∃ (s : State), s.running = true ∧ s.isD = true ∧ s.rd CLK_DVFS_STAT_parked = 0 ∧ s.rd
    CLK_DVFS_STAT_stage = 4 :=
  ⟨(let s : State := upD;
    let s : State := s.wr CLK_DVFS_STAT_parked 0 (0);
    let s : State := s.wr CLK_DVFS_STAT_stage 0 (4);
    s),
    by decide +kernel⟩
theorem wit_Clock_dvfsLockTimeout : ∃ (s : State), s.running = true ∧ s.isD = true ∧ s.rd CLK_DVFS_STAT_parked = 0 ∧
    s.dvfs.lockT + 20 * usT ≤ s.ts ∧ 1 ≤ s.rd CLK_DVFS_STAT_stage ∧ s.rd CLK_DVFS_STAT_stage ≤ 3 :=
  ⟨(let s : State := upD;
    let s : State := s.wr CLK_DVFS_STAT_parked 0 (0);
    let s : State := s.wr CLK_DVFS_STAT_stage 0 1;
    let s : State := s.wr CLK_DVFS_STAT_stage 0 (0);
    let s : State := s.wr CLK_DVFS_STAT_stage 0 1;
    s),
    by decide +kernel⟩
theorem wit_Clock_dvfsRetry : ∃ (s : State), s.running = true ∧ s.isD = true ∧ s.dvfs.deferred = true ∧ s.dieDroop = false ∧
    s.dvfs.clearT + s.rd CHK_DVFS_CFG_retry * usT ≤ s.ts :=
  ⟨(let s : State := upD;
    let s : State := { s with dvfs := { s.dvfs with deferred := true } };
    s),
    by decide +kernel⟩
theorem wit_Regulator_pidSample : ∃ (v : BitVec 16) (s : State), s.running = true ∧ s.ts % 4 = 0 :=
  ⟨(0 : BitVec 16),
    up,
    by decide +kernel⟩
theorem wit_Regulator_vrefRampStep : ∃ (s : State), s.running = true ∧ s.pmb.phase = 0 ∧ s.rd VRC_STAT_state = 2 ∧ s.rd
    VRC_VREF_vref ≠ s.refTarget ∧ usT ≤ s.vrc.rampCr + (s.ts - s.vrc.rampTs) * s.rd VRC_SLEW_slew ∧ (s.isD = false ∨ s.dvfs.vHeld =
    false) ∧ s.vrc.pwmMid = false :=
  ⟨(let s : State := up;
    let s : State := { s with pmb := { s.pmb with phase := 0 } };
    let s : State := s.wr VRC_STAT_state 0 (2);
    let s : State := { s with dvfs := { s.dvfs with vHeld := false } };
    let s : State := { s with vrc := { s.vrc with pwmMid := false } };
    s),
    by decide +kernel⟩
theorem wit_Regulator_enableDropStop : ∃ (n : Nat) (s : State), s.running = true ∧ s.pmb.phase = 0 ∧ s.vrc.midT = some n ∧ n +
    usT ≤ s.ts ∧ s.rd VRC_STAT_state = 3 :=
  ⟨(3 : Nat),
    (let n : Nat := 3;
    let s : State := up;
    let s : State := { s with pmb := { s.pmb with phase := 0 } };
    let s : State := { s with vrc := { s.vrc with midT := some n } };
    let s : State := s.wr VRC_STAT_state 0 (3);
    s),
    by decide +kernel⟩
theorem wit_Regulator_enableDropFault : ∃ (n : Nat) (s : State), s.running = true ∧ s.pmb.phase = 0 ∧ s.vrc.midT = some n ∧ n +
    usT ≤ s.ts ∧ s.rd VRC_STAT_state = 4 :=
  ⟨(3 : Nat),
    (let n : Nat := 3;
    let s : State := up;
    let s : State := { s with pmb := { s.pmb with phase := 0 } };
    let s : State := { s with vrc := { s.vrc with midT := some n } };
    let s : State := s.wr VRC_STAT_state 0 (4);
    s),
    by decide +kernel⟩
theorem wit_Regulator_pwmPeriodStart : ∃ (k : Nat) (s : State), s.running = true ∧ s.pmb.phase = 0 ∧ gridIn (s.rd
    VRC_PWM_period) (16 * s.ts) = some k ∧ s.vrc.started = false ∧ s.vrc.unshed = false ∧ (∀ p < 144, (s.vph p).shedPend = 0) :=
  ⟨(16 * (2 ^ 40 * 5 ^ 8) : Nat),
    (let s : State := up;
    let s : State := s.wr VRC_PWM_period 0 3200;
    let s : State := { s with pmb := { s.pmb with phase := 0 } };
    let s : State := { s with vrc := { s.vrc with started := false } };
    let s : State := { s with vrc := { s.vrc with unshed := false } };
    s),
    by decide +kernel⟩
theorem wit_Regulator_phaseLeadingEdge : ∃ (p : Fin 144) (k : Nat) (s : State), s.running = true ∧ s.driving = true ∧
    s.vrc.started = true ∧ s.vrc.order.findIdx? (· = p.val) = some k ∧ 16 * s.ts ≤ s.vrc.perStart + k * s.vrc.n / s.nEn ∧
    s.vrc.perStart + k * s.vrc.n / s.nEn < 16 * s.ts + 16 ∧ (s.vph p).lead1 = false :=
  ⟨(1 : Fin 144), (0 : Nat),
    (let p : Fin 144 := 1;
    let s : State := up;
    let s : State := { s with vrc := { s.vrc with started := true } };
    let s : State := s.setVph p { s.vph p with lead1 := false };
    let s : State := { s with vrc := { s.vrc with order := [1], n := 3200, pwmMid := false, perStart := 16 * s.ts } };
    let s : State := s.wr VRC_STAT_state 0 2;
    s),
    by decide +kernel⟩
theorem wit_Regulator_deEnter : ∃ (n : Nat) (s : State), s.running = true ∧ s.vrc.deSince = some n ∧ s.deBelow (s.rd
    VRC_DE_enter) = true ∧ n + s.rd VRC_DE_dwell * usT ≤ s.ts ∧ s.flag VRC_CTL_de_en = true ∧ (s.rd VRC_STAT_state = 1 ∨ s.rd
    VRC_STAT_state = 2) ∧ s.vrc.satHi = false :=
  ⟨(3 : Nat),
    (let n : Nat := 3;
    let s : State := up;
    let s : State := { s with vrc := { s.vrc with deSince := some n } };
    let s : State := s.wr VRC_STAT_de 0 (0);
    let s : State := s.wr VRC_CTL_de_en 0 (1);
    let s : State := s.wr VRC_STAT_state 0 (2);
    let s : State := { s with vrc := { s.vrc with satHi := false } };
    let s : State := s.wr VRC_DE_enter 0 100;
    let s : State := { s with vrc := { s.vrc with order := [1] } };
    s),
    by decide +kernel⟩
theorem wit_Regulator_iTotFormed : ∃ (i : Nat) (s : State), s.running = true ∧ s.pmb.phase = 0 ∧ i = max s.vrc.nextInt (s.ts /
    80 - 21) ∧ 80 * (i + 1) ≤ s.ts ∧ s.intervalFull i = true ∧ (s.driving = false ∨ s.vrc.ocRun < 3) :=
  ⟨(2 ^ 40 * 5 ^ 8 / 80 - 21 : Nat),
    (let s : State := up;
    let s : State := { s with pmb := { s.pmb with phase := 0 } };
    s),
    by decide +kernel⟩
theorem wit_Regulator_iTotTrips : ∃ (i : Nat) (s : State), s.running = true ∧ s.pmb.phase = 0 ∧ i = max s.vrc.nextInt (s.ts / 80
    - 21) ∧ 80 * (i + 1) ≤ s.ts ∧ s.intervalFull i = true ∧ s.driving = true ∧ s.vrc.ocRun = 3 ∧ s.rd VRC_OCP_TRIP_itrip * 32 <
    s.intervalTotal i :=
  ⟨(2 ^ 40 * 5 ^ 8 / 80 - 21 : Nat),
    (let s : State := up;
    let s : State := s.wr VRC_STAT_state 0 (2);
    let s : State := s.wr VRC_OCP_TRIP_itrip 0 (0);
    let s : State := { s with pmb := { s.pmb with phase := 0 } };
    let s : State := { s with vrc := { s.vrc with ocRun := 3, pwmMid := false } };
    let s : State := { s with sns := { s.sns with ticks := [(2 ^ 35 * 5 ^ 6 - 3, { slots := [(9, { sum := 32000 })] })] } };
    s),
    by decide +kernel⟩
theorem wit_Regulator_uvTimeout : ∃ (n : Nat) (s : State), s.running = true ∧ s.pmb.phase = 0 ∧ s.vrc.uvSince = some n ∧ n +
    s.rd VRC_UV_time * usT ≤ s.ts ∧ s.rd VRC_STAT_state = 2 :=
  ⟨(3 : Nat),
    (let n : Nat := 3;
    let s : State := up;
    let s : State := { s with pmb := { s.pmb with phase := 0 } };
    let s : State := { s with vrc := { s.vrc with uvSince := some n } };
    let s : State := s.wr VRC_STAT_state 0 (2);
    s),
    by decide +kernel⟩
theorem wit_Regulator_overVoltage : ∃ (s : State), s.running = true ∧ s.pmb.phase = 0 ∧ s.pmb.started = [] ∧ s.rd VRC_STAT_state
    ≠ 5 :=
  ⟨(let s : State := up;
    let s : State := { s with pmb := { s.pmb with phase := 0 } };
    let s : State := { s with pmb := { s.pmb with started := [] } };
    let s : State := s.wr VRC_STAT_state 0 (0);
    s),
    by decide +kernel⟩
theorem wit_Regulator_trackDelivery : ∃ (vm : BitVec 16) (s : State), s.running = true ∧ s.vrc.trk = true ∧ (s.rd VRC_CTL_trk =
    1 ∨ s.rd VRC_CTL_trk = 2) :=
  ⟨(50 : BitVec 16),
    (let s : State := up;
    let s : State := { s with vrc := { s.vrc with trk := true } };
    let s : State := s.wr VRC_TRK_vm_set 0 (100);
    let s : State := s.wr VRC_CTL_trk 0 (1);
    s),
    by decide +kernel⟩
theorem wit_Regulator_trackHoldStart : ∃ (s : State), s.running = true ∧ s.vrc.trk = true ∧ s.vrc.trkT + msT ≤ s.ts ∧ s.rd
    VRC_STAT_state = 1 ∧ s.vrc.trkHeld = false :=
  ⟨(let s : State := up;
    let s : State := { s with vrc := { s.vrc with trk := true } };
    let s : State := s.wr VRC_STAT_state 0 (1);
    let s : State := { s with vrc := { s.vrc with trkHeld := false } };
    s),
    by decide +kernel⟩
theorem wit_Regulator_trackHoldStop : ∃ (s : State), s.running = true ∧ s.vrc.trk = true ∧ s.vrc.trkT + msT ≤ s.ts ∧ s.rd
    VRC_STAT_state = 3 :=
  ⟨(let s : State := up;
    let s : State := { s with vrc := { s.vrc with trk := true } };
    let s : State := s.wr VRC_STAT_state 0 (3);
    s),
    by decide +kernel⟩
theorem wit_Pmbus_pmbTransactionDone : ∃ (data : BitVec 16) (o : PmbOp) (rest : List PmbOp) (s : State), s.running = true ∧
    s.clocked 10 = true ∧ s.pmb.busy = true ∧ s.pmb.q = o :: rest ∧ o.purpose = 7 ∧ o.cmd = 0x8B ∧ o.rail < 16 :=
  ⟨(0 : BitVec 16), ({ purpose := 7, grp := 1, rail := 3, cmd := 0x8B } : PmbOp), ([] : List PmbOp),
    (let o : PmbOp := { purpose := 7, grp := 1, rail := 3, cmd := 0x8B };
    let rest : List PmbOp := [];
    let s : State := up;
    let s : State := { s with pmb := { s.pmb with busy := true } };
    let s : State := { s with pmb := { s.pmb with q := o :: rest } };
    s),
    by decide +kernel⟩
theorem wit_Pmbus_pmbTransactionRetry : ∃ (data : BitVec 16) (o : PmbOp) (rest : List PmbOp) (s : State), s.running = true ∧
    s.clocked 10 = true ∧ s.pmb.busy = true ∧ s.pmb.q = o :: rest ∧ o.rail < 16 ∧ s.pmb.tries < s.rd PMB_CTL_retries :=
  ⟨(0 : BitVec 16), ({ purpose := 7, grp := 1, rail := 3, cmd := 0x8B } : PmbOp), ([] : List PmbOp),
    (let o : PmbOp := { purpose := 7, grp := 1, rail := 3, cmd := 0x8B };
    let rest : List PmbOp := [];
    let s : State := up;
    let s : State := { s with pmb := { s.pmb with busy := true } };
    let s : State := { s with pmb := { s.pmb with q := o :: rest } };
    s),
    by decide +kernel⟩
theorem wit_Pmbus_pmbGroupStart : ∃ (s : State), s.running = true ∧ s.clocked 10 = true ∧ s.pmb.phase = 1 ∧ s.pmb.due ≤ s.ts ∧
    s.pmb.grp < 4 ∧ (∀ r ∈ s.members s.pmb.grp, s.railState r ≠ 6) :=
  ⟨(let s : State := up;
    let s : State := { s with pmb := { s.pmb with phase := 1 } };
    s),
    by decide +kernel⟩
theorem wit_Pmbus_pmbGroupTimeout : ∃ (s : State), s.running = true ∧ s.pmb.phase = 2 ∧ s.pmb.grp < 4 ∧ s.pmb.grp ≠ s.rd
    PMB_SEQ_core_grp ∧ s.pmb.onT + s.rd PMB_GRP_t_on s.pmb.grp * msT ≤ s.ts ∧ s.notGood ≠ 0 ∧ s.pmb.starts < 1 + s.rd
    PMB_GRP_retries s.pmb.grp :=
  ⟨(let s : State := up;
    let s : State := { s with pmb := { s.pmb with phase := 2 } };
    let s : State := { s with pmb := { s.pmb with grp := 1 } };
    let s : State := s.wr PMB_RAIL_en 3 1;
    let s : State := s.wr PMB_RAIL_group 3 1;
    s),
    by decide +kernel⟩
theorem wit_Pmbus_pmbGroupRetry : ∃ (s : State), s.running = true ∧ s.pmb.phase = 3 ∧ s.pmb.due ≤ s.ts ∧ s.pmb.grp < 4 ∧ (∀ r ∈
    s.members s.pmb.grp, r ∈ s.pmb.low ∧ s.railState r ≠ 6) :=
  ⟨(let s : State := up;
    let s : State := { s with pmb := { s.pmb with phase := 3 } };
    s),
    by decide +kernel⟩
theorem wit_Pmbus_pmbGroupOffTimeout : ∃ (s : State), s.running = true ∧ s.pmb.phase = 4 ∧ s.pmb.grp < 4 ∧ s.pmb.onT + s.rd
    PMB_GRP_t_on s.pmb.grp * msT ≤ s.ts ∧ s.pmb.started = [] ∧ s.pmb.failed = false :=
  ⟨(let s : State := up;
    let s : State := { s with pmb := { s.pmb with phase := 4 } };
    let s : State := { s with pmb := { s.pmb with started := [] } };
    let s : State := { s with pmb := { s.pmb with failed := false } };
    s),
    by decide +kernel⟩
theorem wit_Pmbus_pmbSweepStart : ∃ (r : Fin 16) (s : State), s.running = true ∧ s.clocked 10 = true ∧ s.rd PMB_STAT_seq = 3 ∧
    s.flag PMB_STAT_stuck = false ∧ (s.ts - s.pmb.upT) % (s.rd PMB_POLL_period * msT) = 0 ∧ s.pmb.sweep = false ∧ s.railOn r = true
    :=
  ⟨(1 : Fin 16),
    (let s : State := up;
    let s : State := s.wr PMB_STAT_seq 0 (3);
    let s : State := s.wr PMB_STAT_stuck 0 (0);
    let s : State := { s with pmb := { s.pmb with sweep := false } };
    let s : State := s.wr PMB_RAIL_en 1 1;
    s),
    by decide +kernel⟩
theorem wit_Pmbus_pmbSweepSkip : ∃ (s : State), s.running = true ∧ s.clocked 10 = true ∧ s.rd PMB_STAT_seq = 3 ∧ (s.ts -
    s.pmb.upT) % (s.rd PMB_POLL_period * msT) = 0 ∧ s.pmb.sweep = true :=
  ⟨(let s : State := up;
    let s : State := s.wr PMB_STAT_seq 0 (3);
    let s : State := s.wr PMB_STAT_stuck 0 (0);
    let s : State := { s with pmb := { s.pmb with sweep := true } };
    s),
    by decide +kernel⟩
theorem wit_Pmbus_pmbAlert : ∃ (s : State), s.running = true ∧ s.clocked 10 = true ∧ s.pmb.begun = true ∧ s.flag
    PMB_CTL_alert_en = true ∧ s.flag PMB_STAT_masked = false ∧ (∀ o ∈ s.pmb.q, o.purpose ≠ 8 ∧ o.purpose ≠ 9 ∧ o.purpose ≠ 10) :=
  ⟨(let s : State := up;
    let s : State := { s with pmb := { s.pmb with begun := true } };
    let s : State := s.wr PMB_CTL_alert_en 0 (1);
    s),
    by decide +kernel⟩
theorem wit_Pmbus_pmbAlertEnds : ∃ (s : State), s.running = true ∧ s.clocked 10 = true :=
  ⟨(let s : State := up;
    let s : State := { s with pmb := { s.pmb with alert := true, noReply := some 5 } };
    s),
    by decide +kernel⟩
theorem wit_Pmbus_pmbAlertMaskEnd : ∃ (s : State), s.running = true ∧ s.ts % secT = 0 :=
  ⟨up,
    by decide +kernel⟩
theorem wit_Pmbus_pmbBusStuck : ∃ (still : Bool) (s : State), s.running = true ∧ s.clocked 10 = true :=
  ⟨(true : Bool),
    up,
    by decide +kernel⟩
theorem wit_Pmbus_pmbBusFree : ∃ (s : State), s.running = true ∧ s.flag PMB_STAT_stuck = true :=
  ⟨(let s : State := up;
    let s : State := s.wr PMB_STAT_stuck 0 (1);
    s),
    by decide +kernel⟩
theorem wit_Pmbus_coreStartDelay : ∃ (s : State), s.running = true ∧ s.pmb.phase = 5 ∧ s.pmb.due ≤ s.ts ∧ s.pmb.grp = 4 ∧ s.rd
    PMB_SEQ_core_grp = 4 ∧ s.rd VRC_STAT_state = 0 :=
  ⟨(let s : State := up;
    let s : State := { s with pmb := { s.pmb with phase := 5 } };
    let s : State := { s with pmb := { s.pmb with grp := 4 } };
    let s : State := s.wr PMB_SEQ_core_grp 0 (4);
    let s : State := s.wr VRC_CTL_run 0 (1);
    let s : State := s.wr VRC_STAT_state 0 (0);
    s),
    by decide +kernel⟩
theorem wit_Estimator_estimatorTick : ∃ (parts : List (Fin 320 × List (BitVec 8 × Fin 65) × Fin 65 × BitVec 32)) (s : State),
    s.running = true ∧ s.ts % usT = 0 ∧ s.sns.ticked < s.ts / usT :=
  ⟨([] : List (Fin 320 × List (BitVec 8 × Fin 65) × Fin 65 × BitVec 32)),
    up,
    by decide +kernel⟩
theorem wit_Estimator_measFinalise : ∃ (n : Nat) (s : State), s.running = true ∧ s.ts % usT = 0 ∧ s.ts = (n + 3) * usT ∧
    s.sns.nextFin ≤ n :=
  ⟨(3 : Nat),
    (let n : Nat := 3;
    let s : State := up;
    let s : State := { s with ts := (n + 3) * usT };
    s),
    by decide +kernel⟩
theorem wit_Estimator_calibrationApply : ∃ (k : Fin 64) (s : State), s.running = true ∧ s.ts % msT = 0 ∧ s.sns.calPaused = false
    ∧ s.flag ACT_CTL_cal_en = true :=
  ⟨(1 : Fin 64),
    (let s : State := up;
    let s : State := { s with sns := { s.sns with calPaused := false } };
    let s : State := s.wr ACT_CTL_cal_en 0 (1);
    s),
    by decide +kernel⟩
theorem wit_Estimator_anchorPublish : ∃ (a : Fin 128) (s : State), s.running = true ∧ s.ts % msT = 0 ∧ s.flag SNS_CTL_anc_en =
    true ∧ s.sns.ancT ≠ some s.ts ∧ mget s.sns.ancConv a.val [] ≠ [] ∧ mget s.sns.ancBad a.val false = false :=
  ⟨(1 : Fin 128),
    (let s : State := up;
    let s : State := s.wr SNS_CTL_anc_en 0 (1);
    let s : State := { s with sns := { s.sns with ancConv := [(1, [5, 7])] } };
    s),
    by decide +kernel⟩
theorem wit_Estimator_anchorFault : ∃ (a : Fin 128) (s : State), s.running = true ∧ s.ts % msT = 0 ∧ s.flag SNS_CTL_anc_en =
    true ∧ s.sns.ancT ≠ some s.ts ∧ mget s.sns.ancConv a.val [] = [] :=
  ⟨(1 : Fin 128),
    (let s : State := up;
    let s : State := s.wr SNS_CTL_anc_en 0 (1);
    s),
    by decide +kernel⟩
theorem wit_Forecast_periodicSnapshot : ∃ (core : Fin 64) (s : State), s.running = true ∧ s.ts % 80 = 10 * (core.val / 8) ∧
    s.clocked 12 = true ∧ s.flag FCS_CTL_fc_en = true ∧ (s.core core).reset = false ∧ s.flag FCS_CORE_fallback core = false ∧
    s.gapPassed core = true :=
  ⟨(1 : Fin 64),
    (let core : Fin 64 := 1;
    let s : State := up;
    let s : State := s.wr FCS_CTL_fc_en 0 (1);
    let s : State := s.setCore core { s.core core with reset := false };
    let s : State := s.wr FCS_CORE_fallback core (0);
    s),
    by decide +kernel⟩
theorem wit_Forecast_periodicSnapshotStopped : ∃ (core : Fin 64) (s : State), s.running = true ∧ s.ts % 80 = 10 * (core.val / 8)
    ∧ s.clocked 12 = true ∧ s.flag FCS_CTL_fc_en = true ∧ (s.core core).reset = true :=
  ⟨(1 : Fin 64),
    (let core : Fin 64 := 1;
    let s : State := up;
    let s : State := s.wr FCS_CTL_fc_en 0 (1);
    let s : State := s.setCore core { s.core core with reset := true };
    s),
    by decide +kernel⟩
theorem wit_Forecast_promptSnapshot : ∃ (core : Fin 64) (s : State), s.running = true ∧ s.mayForecast core = true ∧ (s.fc
    core).prompt = true ∧ s.flag FCS_CTL_prompt_en = true ∧ s.gapPassed core = true :=
  ⟨(1 : Fin 64),
    (let core : Fin 64 := 1;
    let s : State := up;
    let s : State := s.setFc core { s.fc core with prompt := true };
    let s : State := s.wr FCS_CTL_prompt_en 0 (1);
    let s : State := s.wr FCS_CTL_fc_en 0 1;
    let s : State := s.setCore 1 { s.core 1 with reset := false };
    s),
    by decide +kernel⟩
theorem wit_Forecast_forecastOutput : ∃ (slice : Fin 8) (j : FcJob) (s : State), s.running = true ∧ s.clocked 12 = true ∧
    s.fcs.queue.find? (fun j => j.slice = slice.val) = some j ∧ s.flag FCS_CORE_fallback j.core = false ∧ ((s.fc j.core).applied =
    false ∨ (s.fc j.core).appSnap ≤ j.snap) :=
  ⟨(1 : Fin 8), (let slice : Fin 8 := 1; ({ core := 1, snap := 0, slot := 1, slice := 1, fit := true, image := [], x := [] } : FcJob)),
    (let slice : Fin 8 := 1;
    let j : FcJob := { core := 1, snap := 0, slot := 1, slice := 1, fit := true, image := [], x := [] };
    let s : State := up;
    let s : State := s.wr FCS_CORE_fallback j.core (0);
    let s : State := s.setFc j.core { s.fc j.core with applied := false };
    let s : State := { s with fcs := { s.fcs with queue := [{ core := 1, snap := 0, slot := 1, slice := 1, fit := true, image := [], x := [] }] } };
    s),
    by decide +kernel⟩
theorem wit_Forecast_lnModeChange : ∃ (core : Fin 64) (s : State), s.running = true ∧ s.clocked 12 = true ∧ (s.core core).reset
    = false ∧ s.rd FCS_CORE_ln core = 0 ∧ s.rd FCS_CORE_force_static core = 0 :=
  ⟨(1 : Fin 64),
    (let core : Fin 64 := 1;
    let s : State := up;
    let s : State := s.setCore core { s.core core with reset := false };
    let s : State := s.wr FCS_CORE_ln core (0);
    let s : State := s.wr FCS_CORE_force_static core (0);
    s),
    by decide +kernel⟩
theorem wit_Loop_loopRelease : ∃ (n : Fin 4096) (s : State), s.running = true ∧ s.clocked 13 = true ∧ (cKind (s.ctx n).cfg = 1 ∨
    cKind (s.ctx n).cfg = 2) ∧ s.ts % usT = 0 ∧ s.ts / usT % periodUs (s.ctx n).cfg = cPhase (s.ctx n).cfg ∧ (∀ r ∈ s.lpe.queue, ¬
    (r.ctx = n.val ∧ r.rel = s.ts)) :=
  ⟨(1 : Fin 4096),
    (let s : State := up;
    let s : State := s.setCtx 1 { s.ctx 1 with cfg := 1 };
    s),
    by decide +kernel⟩
theorem wit_Loop_loopReleaseOverrun : ∃ (n : Fin 4096) (s : State), s.running = true ∧ s.clocked 13 = true ∧ (cKind (s.ctx
    n).cfg = 1 ∨ cKind (s.ctx n).cfg = 2) ∧ s.ts % usT = 0 ∧ s.ts / usT % periodUs (s.ctx n).cfg = cPhase (s.ctx n).cfg ∧ (∀ r ∈
    s.lpe.queue, ¬ (r.ctx = n.val ∧ r.rel = s.ts)) :=
  ⟨(1 : Fin 4096),
    (let s : State := up;
    let s : State := s.setCtx 1 { s.ctx 1 with cfg := 1 };
    s),
    by decide +kernel⟩
theorem wit_Loop_loopSkip : ∃ (r : Rel) (s : State), s.running = true ∧ s.relHead = some r ∧ s.clocked 13 = true ∧ r.dead ≤ s.ts
    :=
  ⟨({ ctx := 1, rel := 0, dead := 0, k := 0, cfg := 1 + 2 ^ 96 * 0x41 } : Rel),
    (let s : State := up;
    let s : State := { s with lpe := { s.lpe with queue := [{ ctx := 1, rel := 0, dead := 0, k := 0, cfg := 1 + 2 ^ 96 * 0x41 }] } };
    s),
    by decide +kernel⟩
theorem wit_Loop_loopEvaluationPI : ∃ (late : Bool) (r : Rel) (s : State), s.running = true ∧ s.relHead = some r ∧ s.clocked 13
    = true ∧ s.ts < r.dead ∧ cKind r.cfg = 1 ∧ (s.ctx r.ctx).fb = 0 ∧ (s.ctx r.ctx).ovr = false ∧ s.judgeInput r.cfg (cIn r.cfg)
    (s.source (cIn r.cfg)) (s.ctx r.ctx).frz r.rel = none :=
  ⟨(true : Bool), ({ ctx := 1, rel := 2 ^ 40 * 5 ^ 8, dead := 2 ^ 40 * 5 ^ 8 + 1000, k := 0, cfg := 1 + 2 ^ 96 * 0x41 } : Rel),
    (let r : Rel := { ctx := 1, rel := 2 ^ 40 * 5 ^ 8, dead := 2 ^ 40 * 5 ^ 8 + 1000, k := 0, cfg := 1 + 2 ^ 96 * 0x41 };
    let s : State := up;
    let s : State := s.setCtx r.ctx { s.ctx r.ctx with fb := 0 };
    let s : State := s.setCtx r.ctx { s.ctx r.ctx with ovr := false };
    let s : State := { s with lpe := { s.lpe with src := [(1 * 4096 + 1, { val := 0, valid := true, ts := 2 ^ 40 * 5 ^ 8, ever := true })] } };
    let s : State := { s with lpe := { s.lpe with queue := [{ ctx := 1, rel := 2 ^ 40 * 5 ^ 8, dead := 2 ^ 40 * 5 ^ 8 + 1000, k := 0, cfg := 1 + 2 ^ 96 * 0x41 }] } };
    s),
    by decide +kernel⟩
theorem wit_Loop_loopEvaluationFilt : ∃ (late : Bool) (r : Rel) (s : State), s.running = true ∧ s.relHead = some r ∧ s.clocked
    13 = true ∧ s.ts < r.dead ∧ cKind r.cfg = 2 ∧ (s.source (cIn r.cfg)).valid = true ∧ (s.source (cIn r.cfg)).ever = true ∧ (s.ctx
    r.ctx).ovr = false :=
  ⟨(true : Bool), ({ ctx := 1, rel := 2 ^ 40 * 5 ^ 8, dead := 2 ^ 40 * 5 ^ 8 + 1000, k := 0, cfg := 2 + 2 ^ 96 * 0x41 } : Rel),
    (let r : Rel := { ctx := 1, rel := 2 ^ 40 * 5 ^ 8, dead := 2 ^ 40 * 5 ^ 8 + 1000, k := 0, cfg := 2 + 2 ^ 96 * 0x41 };
    let s : State := up;
    let s : State := s.setCtx r.ctx { s.ctx r.ctx with ovr := false };
    let s : State := { s with lpe := { s.lpe with src := [(1 * 4096 + 1, { val := 0, valid := true, ts := 2 ^ 40 * 5 ^ 8, ever := true })] } };
    let s : State := { s with lpe := { s.lpe with queue := [{ ctx := 1, rel := 2 ^ 40 * 5 ^ 8, dead := 2 ^ 40 * 5 ^ 8 + 1000, k := 0, cfg := 2 + 2 ^ 96 * 0x41 }] } };
    s),
    by decide +kernel⟩
theorem wit_Thermal_anchorConversion : ∃ (a : Fin 128) (raw : BitVec 16) (s : State), s.running = true ∧ s.flag SNS_CTL_anc_en =
    true ∧ -5120 ≤ sgn 16 raw.toNat ∧ sgn 16 raw.toNat ≤ 19200 :=
  ⟨(1 : Fin 128), (0 : BitVec 16),
    (let s : State := up;
    let s : State := s.wr SNS_CTL_anc_en 0 (1);
    s),
    by decide +kernel⟩
theorem wit_Thermal_anchorConversionFails : ∃ (a : Fin 128) (raw : BitVec 16) (s : State), s.running = true ∧ s.flag
    SNS_CTL_anc_en = true :=
  ⟨(1 : Fin 128), (0 : BitVec 16),
    (let s : State := up;
    let s : State := s.wr SNS_CTL_anc_en 0 (1);
    s),
    by decide +kernel⟩
theorem wit_Thermal_thermalStep : ∃ (s : State), s.running = true ∧ s.rd THM_STAT_state = 2 ∧ s.thm.t0 ≤ s.ts ∧ s.thm.per ≠ 0 ∧
    (s.ts - s.thm.t0) % (usT * s.thm.per) = 0 ∧ s.thm.lastStep ≠ some s.ts ∧ s.thm.pend = none ∧ s.thm.run = none :=
  ⟨(let s : State := up;
    let s : State := s.wr THM_STAT_state 0 (2);
    let s : State := { s with thm := { s.thm with pend := none } };
    let s : State := { s with thm := { s.thm with run := none } };
    let s : State := { s with thm := { s.thm with per := 100 } };
    s),
    by decide +kernel⟩
theorem wit_Thermal_thermalStepNewSet : ∃ (m : MSet) (s : State), s.running = true ∧ s.rd THM_STAT_state = 2 ∧ s.thm.t0 ≤ s.ts ∧
    s.thm.per ≠ 0 ∧ (s.ts - s.thm.t0) % (usT * s.thm.per) = 0 ∧ s.thm.lastStep ≠ some s.ts ∧ s.thm.pend = some m ∧ s.thm.run = none
    :=
  ⟨({ period := 100, ident := 7 } : MSet),
    (let s : State := up;
    let s : State := s.wr THM_STAT_state 0 (2);
    let s : State := { s with thm := { s.thm with pend := some { period := 100, ident := 7 }, run := none, per := 100 } };
    s),
    by decide +kernel⟩
theorem wit_Thermal_thermalStepOverrun : ∃ (r : ThmStep) (s : State), s.running = true ∧ s.rd THM_STAT_state = 2 ∧ s.thm.t0 ≤
    s.ts ∧ s.thm.per ≠ 0 ∧ (s.ts - s.thm.t0) % (usT * s.thm.per) = 0 ∧ s.thm.lastStep ≠ some s.ts ∧ s.thm.run = some r ∧ s.rd
    THM_STEP_catchup ≤ s.thm.queue.length :=
  ⟨({ t := 0, p := [] } : ThmStep),
    (let s : State := up;
    let s : State := s.wr THM_STAT_state 0 (2);
    let s : State := s.wr THM_STEP_catchup 0 (1);
    let s : State := { s with thm := { s.thm with run := some { t := 0, p := [] }, queue := [{ t := 0, p := [] }], per := 100 } };
    s),
    by decide +kernel⟩
theorem wit_Thermal_thermalStepLate : ∃ (r : ThmStep) (s : State), s.running = true ∧ s.rd THM_STAT_state = 2 ∧ s.thm.t0 ≤ s.ts
    ∧ s.thm.per ≠ 0 ∧ (s.ts - s.thm.t0) % (usT * s.thm.per) = 0 ∧ s.thm.lastStep ≠ some s.ts ∧ s.thm.pend = none ∧ s.thm.run = some
    r ∧ s.thm.queue.length < s.rd THM_STEP_catchup :=
  ⟨({ t := 0, p := [] } : ThmStep),
    (let r : ThmStep := { t := 0, p := [] };
    let s : State := up;
    let s : State := s.wr THM_STAT_state 0 (2);
    let s : State := { s with thm := { s.thm with pend := none } };
    let s : State := { s with thm := { s.thm with run := some r } };
    let s : State := { s with thm := { s.thm with per := 100 } };
    let s : State := s.wr THM_STEP_catchup 0 2;
    s),
    by decide +kernel⟩
theorem wit_Thermal_bandFall : ∃ (n tb : Nat) (s : State), s.running = true ∧ s.thm.below = some n ∧ s.bandTemp = some tb ∧ s.rd
    THM_STAT_state = 2 ∧ s.thm.lastDone = some s.ts ∧ s.bandLow tb = true ∧ n + msT * s.rd THM_BAND_CFG_dwell ≤ s.ts :=
  ⟨(0 : Nat), (0 : Nat),
    (let n : Nat := 0;
    let s : State := up;
    let s : State := { s with thm := { s.thm with below := some n } };
    let s : State := s.wr THM_STAT_state 0 (2);
    let s : State := { s with thm := { s.thm with lastDone := some s.ts } };
    let s : State := { s with thm := { s.thm with l := [0] } };
    let s : State := s.wr THM_NODE_band_src 0 1;
    let s : State := s.wr THM_STAT_band 0 1;
    let s : State := s.wr THM_BAND_e1 0 100;
    s),
    by decide +kernel⟩
theorem wit_Thermal_shutdownDrainExpire : ∃ (n : Nat) (s : State), s.running = true ∧ s.thm.shutT = some n ∧ n + usT * s.rd
    THM_SHD_drain ≤ s.ts ∧ s.pmb.phase = 0 ∧ s.pmb.started = [] :=
  ⟨(3 : Nat),
    (let n : Nat := 3;
    let s : State := up;
    let s : State := { s with thm := { s.thm with shutT := some n } };
    let s : State := { s with pmb := { s.pmb with phase := 0 } };
    let s : State := { s with pmb := { s.pmb with started := [] } };
    s),
    by decide +kernel⟩
theorem wit_Thermal_modelInit : ∃ (s : State), s.running = true ∧ s.ts % msT = 0 ∧ s.rd THM_STAT_state = 1 :=
  ⟨(let s : State := up;
    let s : State := s.wr THM_STAT_state 0 (1);
    s),
    by decide +kernel⟩
theorem wit_Thermal_reinitRecover : ∃ (s : State), s.running = true ∧ s.ts % msT = 0 ∧ s.rd THM_STAT_state = 3 :=
  ⟨(let s : State := up;
    let s : State := s.wr THM_STAT_state 0 (3);
    s),
    by decide +kernel⟩
theorem wit_Thermal_anchorCorrection : ∃ (a : Fin 128) (s : State), s.running = true ∧ s.ts % msT = 0 ∧ s.rd THM_STAT_state = 2
    ∧ s.thm.runT < s.ts ∧ s.flag SNS_CTL_anc_en = true :=
  ⟨(1 : Fin 128),
    (let s : State := up;
    let s : State := s.wr THM_STAT_state 0 (2);
    let s : State := s.wr SNS_CTL_anc_en 0 (1);
    s),
    by decide +kernel⟩
theorem wit_Thermal_cplateLocal : ∃ (s : State), s.running = true ∧ s.isD = true ∧ s.flag THM_STAT_cp_remote = true ∧ s.thm.cpT
    + 2 * usT * s.thm.per < s.ts :=
  ⟨(let s : State := upD;
    let s : State := s.wr THM_STAT_cp_remote 0 (1);
    s),
    by decide +kernel⟩
theorem wit_Thermal_thmTinWrite : ∃ (v : BitVec 16) (s : State), s.running = true ∧ s.unitAnswers 11 = true ∧ -1280 ≤ sgn 16
    v.toNat ∧ sgn 16 v.toNat ≤ 8960 :=
  ⟨(0 : BitVec 16),
    up,
    by decide +kernel⟩
theorem wit_Thermal_thmTinReject : ∃ (v : BitVec 16) (s : State), s.running = true ∧ s.unitAnswers 11 = true ∧ (sgn 16 v.toNat <
    -1280 ∨ 8960 < sgn 16 v.toNat) :=
  ⟨(0x7FFF : BitVec 16),
    up,
    by decide +kernel⟩
theorem wit_Rings_doorbellProdWrite : ∃ (off : BitVec 22) (r : Fin 513) (v : BitVec 32) (s : State), s.running = true ∧ AtPage
    off r 0x000 ∧ s.clocked 5 = true ∧ (s.ring r).st ≠ 0 ∧ (s.ring r).st ≠ 3 ∧ sub32w v.toNat (s.ring r).prod ≤ 2 ^ 31 ∧ sub32w
    v.toNat (s.ring r).cqHead ≤ s.rN r :=
  ⟨(0x1000 : BitVec 22), (1 : Fin 513), (0 : BitVec 32),
    (let r : Fin 513 := 1;
    let s : State := up;
    let s : State := s.setRing r { s.ring r with st := 1 };
    s),
    by unfold AtPage; decide +kernel⟩
theorem wit_Rings_doorbellProdViolation : ∃ (off : BitVec 22) (r : Fin 513) (v : BitVec 32) (s : State), s.running = true ∧
    AtPage off r 0x000 ∧ s.clocked 5 = true ∧ (s.ring r).st ≠ 0 ∧ (s.ring r).st ≠ 3 ∧ s.holdsRoles = true ∧ (2 ^ 31 < sub32w v.toNat
    (s.ring r).prod ∨ s.rN r < sub32w v.toNat (s.ring r).cqHead) ∧ mget s.recd.last (evCode 5 2 * 2 ^ 16 + r.val) 0 ≠ s.ts / msT + 1
    :=
  ⟨(0x1000 : BitVec 22), (1 : Fin 513), (0x80000001 : BitVec 32),
    (let r : Fin 513 := 1;
    let s : State := up;
    let s : State := s.setRing r { s.ring r with st := 1 };
    s),
    by unfold AtPage; decide +kernel⟩
theorem wit_Rings_doorbellQuarantines : ∃ (off : BitVec 22) (r : Fin 513) (v : BitVec 32) (s : State), s.running = true ∧ AtPage
    off r 0x000 ∧ s.clocked 5 = true ∧ ((s.ring r).st = 1 ∨ (s.ring r).st = 2) ∧ s.holdsRoles = true ∧ r.val < 512 ∧ 2 ^ 31 < sub32w
    v.toNat (s.ring r).prod ∧ s.rd HIF_QLIM_limit ≤ min 255 ((s.ring r).bucket + 1) :=
  ⟨(0x1000 : BitVec 22), (1 : Fin 513), (0x80000001 : BitVec 32),
    (let r : Fin 513 := 1;
    let s : State := up;
    let s : State := s.setRing r { s.ring r with st := 2 };
    let s : State := s.wr HIF_QLIM_limit 0 (0);
    s),
    by unfold AtPage; decide +kernel⟩
theorem wit_Rings_doorbellIgnored : ∃ (off : BitVec 22) (r : Fin 513) (v : BitVec 32) (s : State), s.running = true ∧ AtPage off
    r 0x000 ∧ s.clocked 5 = true ∧ (s.ring r).st = 3 ∧ s.holdsRoles = true :=
  ⟨(0x1000 : BitVec 22), (1 : Fin 513), (0 : BitVec 32),
    (let r : Fin 513 := 1;
    let s : State := up;
    let s : State := s.setRing r { s.ring r with st := 3 };
    s),
    by unfold AtPage; decide +kernel⟩
theorem wit_Rings_doorbellCqHeadWrite : ∃ (off : BitVec 22) (r : Fin 513) (v : BitVec 32) (s : State), s.running = true ∧ AtPage
    off r 0x004 ∧ s.clocked 5 = true ∧ (s.ring r).st ≠ 0 ∧ (s.ring r).st ≠ 3 ∧ s.holdsRoles = true ∧ sub32w v.toNat (s.ring
    r).cqHead ≤ sub32w (s.ring r).cqTail (s.ring r).cqHead :=
  ⟨(0x1004 : BitVec 22), (1 : Fin 513), (0 : BitVec 32),
    (let r : Fin 513 := 1;
    let s : State := up;
    let s : State := s.setRing r { s.ring r with st := 1 };
    s),
    by unfold AtPage; decide +kernel⟩
theorem wit_Rings_doorbellBadAccess : ∃ (off : BitVec 22) (r : Fin 513) (o : Nat) (k : Fin 4) (v : BitVec 32) (s : State),
    s.running = true ∧ AtPage off r o ∧ (k.val ≠ 2 ∨ (o ≠ 0x000 ∧ o ≠ 0x004)) ∧ s.clocked 5 = true ∧ (s.ring r).st ≠ 0 ∧ (s.ring
    r).st ≠ 3 ∧ s.holdsRoles = true ∧ mget s.recd.last (evCode 5 2 * 2 ^ 16 + r.val) 0 ≠ s.ts / msT + 1 :=
  ⟨(0x1004 : BitVec 22), (1 : Fin 513), (4 : Nat), (3 : Fin 4), (0 : BitVec 32),
    (let r : Fin 513 := 1;
    let s : State := up;
    let s : State := s.setRing r { s.ring r with st := 1 };
    s),
    by unfold AtPage; decide +kernel⟩
theorem wit_Rings_doorbellBadRead : ∃ (off : BitVec 22) (r : Fin 513) (o : Nat) (k : Fin 4) (v : BitVec 32) (s : State),
    s.running = true ∧ AtPage off r o ∧ k.val ≠ 2 ∧ s.clocked 5 = true ∧ (s.ring r).st ≠ 0 ∧ s.holdsRoles = true ∧ mget s.recd.last
    (evCode 5 2 * 2 ^ 16 + r.val) 0 ≠ s.ts / msT + 1 :=
  ⟨(0x1008 : BitVec 22), (1 : Fin 513), (8 : Nat), (3 : Fin 4), (0 : BitVec 32),
    (let r : Fin 513 := 1;
    let s : State := up;
    let s : State := s.setRing r { s.ring r with st := 3 };
    s),
    by unfold AtPage; decide +kernel⟩
theorem wit_Rings_doorbellStray : ∃ (off : BitVec 22) (s : State), s.running = true ∧ s.clocked 5 = true ∧ 4096 * 513 ≤
    off.toNat :=
  ⟨(0x201000 : BitVec 22),
    up,
    by decide +kernel⟩
theorem wit_Rings_bucketLeak : ∃ (s : State), s.running = true ∧ s.clocked 5 = true ∧ s.rd HIF_QLIM_leak ≠ 0 ∧ s.ts % (msT *
    s.rd HIF_QLIM_leak) = 0 :=
  ⟨(let s : State := up;
    let s : State := s.wr HIF_QLIM_leak 0 (1);
    s),
    by decide +kernel⟩
theorem wit_Rings_descriptorFetched : ∃ (r : Fin 513) (b : BitVec 512) (s : State), s.running = true ∧ (s.ring r).reads ≠ 0 ∧
    (s.ring r).st ≠ 0 :=
  ⟨(1 : Fin 513), (0 : BitVec 512),
    (let r : Fin 513 := 1;
    let s : State := up;
    let s : State := s.setRing r { s.ring r with reads := 1 };
    let s : State := s.setRing 1 { s.ring 1 with st := 2 };
    s),
    by decide +kernel⟩
theorem wit_Rings_descriptorRetried : ∃ (r : Fin 513) (b : BitVec 512) (s : State), s.running = true ∧ (s.ring r).reads ≠ 0 ∧
    (s.ring r).st ≠ 0 ∧ (s.ring r).tries < 2 :=
  ⟨(1 : Fin 513), (0 : BitVec 512),
    (let r : Fin 513 := 1;
    let s : State := up;
    let s : State := s.setRing r { s.ring r with reads := 1 };
    let s : State := s.setRing 1 { s.ring 1 with st := 2 };
    s),
    by decide +kernel⟩
theorem wit_Rings_descriptorFailed : ∃ (r : Fin 513) (b : BitVec 512) (s : State), s.running = true ∧ (s.ring r).reads ≠ 0 ∧ 2 ≤
    (s.ring r).tries ∧ Reports s { ring := r, idx := (s.ring r).fetch, gen := (s.ring r).gen, w := 0 } :=
  ⟨(1 : Fin 513), (0 : BitVec 512),
    (let r : Fin 513 := 1;
    let s : State := up;
    let s : State := s.setRing r { s.ring r with reads := 1 };
    let s : State := s.setRing 1 { s.ring 1 with st := 2, tries := 2 };
    s),
    by unfold Reports; decide +kernel⟩
theorem wit_Rings_fp2TurnSteward : ∃ (d : Desc) (s : State), s.running = true ∧ s.fwRunning 2 = true ∧ s.holdsRoles = true ∧
    s.hif.stewardTurn = true ∧ s.turnOf stewardRing = some d ∧ d.ring = stewardRing ∧ s.descCheck d.ring d.w = none :=
  ⟨({ ring := 512, idx := 3, gen := 0, w := 0x10 * 2 ^ 0 + 0x12 * 2 ^ 8 } : Desc),
    (let d : Desc := { ring := 512, idx := 3, gen := 0, w := 0x10 * 2 ^ 0 + 0x12 * 2 ^ 8 };
    let s : State := up;
    let s : State := { s with hif := { s.hif with stewardTurn := true } };
    let s : State := s.setRing d.ring { s.ring d.ring with buf := [d] };
    s),
    by decide +kernel⟩
theorem wit_Rings_fp2TurnRefused : ∃ (d : Desc) (st : Nat) (s : State), s.running = true ∧ s.fwRunning 2 = true ∧
    s.hif.stewardTurn = false ∧ s.tenantTurn = some d ∧ d.ring < 512 ∧ s.descCheck d.ring d.w = some st ∧ Reports s d :=
  ⟨({ ring := 7, idx := 3, gen := 0, w := 0 } : Desc), (1 : Nat),
    (let d : Desc := { ring := 7, idx := 3, gen := 0, w := 0 };
    let st : Nat := 1;
    let s : State := up;
    let s : State := { s with hif := { s.hif with stewardTurn := false } };
    let s : State := s.setRing d.ring { s.ring d.ring with st := 2, gen := d.gen };
    let s : State := s.setRing d.ring { s.ring d.ring with buf := [d] };
    s),
    by unfold Reports; decide +kernel⟩
theorem wit_Rings_hello : ∃ (d : Desc) (s : State), s.running = true ∧ InTurn s (fun d => decide (dOp d.w = 0x01)) d ∧ Reports s
    d ∧ (s.ring d.ring).st = 1 ∧ d.ring < 512 ∧ dB d.w 8 1 ≤ dB d.w 9 1 ∧ dB d.w 8 1 / 16 ≤ 1 ∧ dB d.w 8 1 ≤ min (dB d.w 9 1)
    ringVersion :=
  ⟨({ ring := 7, idx := 3, gen := 0, w := 0x01 * 2 ^ 0 } : Desc),
    (let d : Desc := { ring := 7, idx := 3, gen := 0, w := 0x01 * 2 ^ 0 };
    let s : State := up;
    let s : State := { s with hif := { s.hif with units := [d] } };
    let s : State := s.setRing d.ring { s.ring d.ring with st := 2, gen := d.gen };
    let s : State := s.setRing d.ring { s.ring d.ring with st := 1 };
    s),
    by unfold InTurn Reports; decide +kernel⟩
theorem wit_Rings_helloRefused : ∃ (d : Desc) (s : State), s.running = true ∧ InTurn s (fun d => decide (dOp d.w = 0x01)) d ∧
    Reports s d ∧ 1 < dB d.w 8 1 / 16 :=
  ⟨({ ring := 512, idx := 3, gen := 0, w := 0x01 * 2 ^ 0 + 0x20 * 2 ^ 64 } : Desc),
    (let d : Desc := { ring := 512, idx := 3, gen := 0, w := 0x01 * 2 ^ 0 + 0x20 * 2 ^ 64 };
    let s : State := up;
    let s : State := { s with hif := { s.hif with units := [d] } };
    let s : State := s.setRing d.ring { s.ring d.ring with st := 2, gen := d.gen };
    s),
    by unfold InTurn Reports; decide +kernel⟩
theorem wit_Rings_quarantineResume : ∃ (d : Desc) (s : State), s.running = true ∧ InTurn s (isQrel 0) d ∧ Reports s d ∧ d.ring =
    stewardRing ∧ dB d.w 8 2 < 512 ∧ (s.ring (dB d.w 8 2)).st = 3 :=
  ⟨({ ring := 512, idx := 3, gen := 0, w := 0x60 * 2 ^ 0 + 0 * 2 ^ 80 } : Desc),
    (let d : Desc := { ring := 512, idx := 3, gen := 0, w := 0x60 * 2 ^ 0 + 0 * 2 ^ 80 };
    let s : State := up;
    let s : State := { s with hif := { s.hif with units := [d] } };
    let s : State := s.setRing d.ring { s.ring d.ring with st := 2, gen := d.gen };
    let s : State := s.setRing (dB d.w 8 2) { s.ring (dB d.w 8 2) with st := 3 };
    s),
    by unfold InTurn Reports; decide +kernel⟩
theorem wit_Rings_quarantineResumeRefused : ∃ (d : Desc) (s : State), s.running = true ∧ InTurn s (isQrel 0) d ∧ Reports s d ∧
    (s.ring (dB d.w 8 2)).st ≠ 3 ∧ (s.ring (dB d.w 8 2)).st ≠ 4 :=
  ⟨({ ring := 512, idx := 3, gen := 0, w := 0x60 * 2 ^ 0 + 0 * 2 ^ 80 } : Desc),
    (let d : Desc := { ring := 512, idx := 3, gen := 0, w := 0x60 * 2 ^ 0 + 0 * 2 ^ 80 };
    let s : State := up;
    let s : State := { s with hif := { s.hif with units := [d] } };
    let s : State := s.setRing d.ring { s.ring d.ring with st := 2, gen := d.gen };
    s),
    by unfold InTurn Reports; decide +kernel⟩
theorem wit_Rings_quarantineReset : ∃ (d : Desc) (s : State), s.running = true ∧ InTurn s (isQrel 1) d ∧ ((s.ring (dB d.w 8
    2)).st = 3 ∨ (s.ring (dB d.w 8 2)).st = 4) :=
  ⟨({ ring := 512, idx := 3, gen := 0, w := 0x60 * 2 ^ 0 + 1 * 2 ^ 80 } : Desc),
    (let d : Desc := { ring := 512, idx := 3, gen := 0, w := 0x60 * 2 ^ 0 + 1 * 2 ^ 80 };
    let s : State := up;
    let s : State := { s with hif := { s.hif with units := [d] } };
    let s : State := s.setRing (dB d.w 8 2) { s.ring (dB d.w 8 2) with st := 3 };
    s),
    by unfold InTurn; decide +kernel⟩
theorem wit_Rings_quarantineResetDrained : ∃ (r : Fin 512) (d : Desc) (s : State), s.running = true ∧ (s.ring r).resets = [d] ∧
    (s.ring r).inFlight = 0 ∧ d.ring = stewardRing ∧ Reports s d :=
  ⟨(1 : Fin 512), ({ ring := 512, idx := 3, gen := 0, w := 0 } : Desc),
    (let r : Fin 512 := 1;
    let d : Desc := { ring := 512, idx := 3, gen := 0, w := 0 };
    let s : State := up;
    let s : State := s.setRing r { s.ring r with resets := [d] };
    let s : State := s.setRing r { s.ring r with fly := [] };
    let s : State := s.setRing d.ring { s.ring d.ring with st := 2, gen := d.gen };
    s),
    by unfold Reports; decide +kernel⟩
theorem wit_Rings_hifSctlEnable : ∃ (v : BitVec 32) (s : State), s.running = true ∧ s.unitAnswers 5 = true ∧ s.rd HIF_SCTL_en =
    0 ∧ bit v.toNat 0 = true ∧ 6 ≤ bits v.toNat 8 5 ∧ bits v.toNat 8 5 ≤ 16 :=
  ⟨(0x801 : BitVec 32),
    (let s : State := up;
    let s : State := s.wr HIF_SCTL_en 0 (0);
    s),
    by decide +kernel⟩
theorem wit_Rings_hifSctlBadSize : ∃ (v : BitVec 32) (s : State), s.running = true ∧ s.unitAnswers 5 = true ∧ s.rd HIF_SCTL_en =
    0 ∧ (bits v.toNat 8 5 < 6 ∨ 16 < bits v.toNat 8 5) :=
  ⟨(0 : BitVec 32),
    (let s : State := up;
    let s : State := s.wr HIF_SCTL_en 0 (0);
    s),
    by decide +kernel⟩
theorem wit_Rings_hifSctlDisable : ∃ (v : BitVec 32) (s : State), s.running = true ∧ s.unitAnswers 5 = true ∧ s.rd HIF_SCTL_en =
    1 ∧ bit v.toNat 0 = false :=
  ⟨(0 : BitVec 32),
    (let s : State := up;
    let s : State := s.wr HIF_SCTL_en 0 (1);
    s),
    by decide +kernel⟩
theorem wit_Account_reconciliation : ∃ (r : MsRec) (rest : List MsRec) (qc : Nat) (s : State), s.running = true ∧ s.fwRunning 1
    = true ∧ s.clocked 15 = true ∧ s.isD = false ∧ s.acc.gap = false ∧ s.acc.wait = r :: rest ∧ r.qc = some qc ∧ s.acc.jobs = [] :=
  ⟨({ b := 0, qc := some 5 } : MsRec), ([] : List MsRec), (5 : Nat),
    (let r : MsRec := { b := 0, qc := some 5 };
    let rest : List MsRec := [];
    let s : State := up;
    let s : State := { s with acc := { s.acc with gap := false } };
    let s : State := { s with acc := { s.acc with wait := r :: rest } };
    let s : State := { s with acc := { s.acc with jobs := [] } };
    s),
    by decide +kernel⟩
theorem wit_Account_jobOpen : ∃ (d : Desc) (k : Nat) (s : State), s.running = true ∧ InTurn s (fun d => decide (dOp d.w = 0x20))
    d ∧ d.ring = stewardRing ∧ dB d.w 8 1 = 0 ∧ (List.range 1024).find? (fun k => decide ((s.job k).state = 0)) = some k ∧
    (s.acc.jobs.filter fun e => decide (e.2.state ≠ 0) && decide (e.2.tenant = dB d.w 10 2)).length < s.rd ACT_ACC_CTL_jobmax ∧ s.rd
    ACT_RECON_T < nextMs d.t :=
  ⟨({ ring := 512, idx := 3, gen := 0, w := 0x20 * 2 ^ 0 + 0 * 2 ^ 64, t := 1 } : Desc), (0 : Nat),
    (let d : Desc := { ring := 512, idx := 3, gen := 0, w := 0x20 * 2 ^ 0 + 0 * 2 ^ 64, t := 1 };
    let s : State := up;
    let s : State := { s with hif := { s.hif with units := [d] } };
    let s : State := s.wr ACT_RECON_T 0 (0);
    s),
    by unfold InTurn; decide +kernel⟩
theorem wit_Account_jobClose : ∃ (d : Desc) (s : State), s.running = true ∧ InTurn s (fun d => decide (dOp d.w = 0x21)) d ∧
    d.ring = stewardRing ∧ (s.job (dB d.w 8 2 % 1024)).state = 2 ∧ (s.job (dB d.w 8 2 % 1024)).close = none ∧ (s.job (dB d.w 8 2 %
    1024)).gen % 64 = dB d.w 8 2 / 1024 ∧ s.rd ACT_RECON_T < nextMs d.t :=
  ⟨({ ring := 512, idx := 3, gen := 0, w := 0x21 * 2 ^ 0, t := 1 } : Desc),
    (let d : Desc := { ring := 512, idx := 3, gen := 0, w := 0x21 * 2 ^ 0, t := 1 };
    let s : State := up;
    let s : State := { s with hif := { s.hif with units := [d] } };
    let s : State := s.setJob (dB d.w 8 2 % 1024) { s.job (dB d.w 8 2 % 1024) with state := 2 };
    let s : State := s.wr ACT_RECON_T 0 (0);
    s),
    by unfold InTurn; decide +kernel⟩
theorem wit_Account_jobCloseOpening : ∃ (d : Desc) (s : State), s.running = true ∧ InTurn s (fun d => decide (dOp d.w = 0x21)) d
    ∧ d.ring = stewardRing ∧ (s.job (dB d.w 8 2 % 1024)).state = 1 ∧ (s.job (dB d.w 8 2 % 1024)).close = none ∧ (s.job (dB d.w 8 2 %
    1024)).gen % 64 = dB d.w 8 2 / 1024 :=
  ⟨({ ring := 512, idx := 3, w := 0x21 + 5 * 2 ^ 64 } : Desc),
    (let s : State := up;
    let s : State := { s with hif := { s.hif with units := [{ ring := 512, idx := 3, w := 0x21 + 5 * 2 ^ 64 }] } };
    let s : State := s.setJob 5 { s.job 5 with state := 1, gen := 0 };
    s),
    by unfold InTurn; decide +kernel⟩
theorem wit_Account_jobCloseRefused : ∃ (d : Desc) (s : State), s.running = true ∧ InTurn s (fun d => decide (dOp d.w = 0x21)) d
    ∧ Reports s d ∧ ((s.job (dB d.w 8 2 % 1024)).state = 0 ∨ (s.job (dB d.w 8 2 % 1024)).gen % 64 ≠ dB d.w 8 2 / 1024 ∨ (s.job (dB
    d.w 8 2 % 1024)).close.isSome = true) :=
  ⟨({ ring := 512, idx := 3, gen := 0, w := 0x21 * 2 ^ 0 } : Desc),
    (let d : Desc := { ring := 512, idx := 3, gen := 0, w := 0x21 * 2 ^ 0 };
    let s : State := up;
    let s : State := { s with hif := { s.hif with units := [d] } };
    let s : State := s.setRing d.ring { s.ring d.ring with st := 2, gen := d.gen };
    s),
    by unfold InTurn Reports; decide +kernel⟩
theorem wit_Account_readEnergy : ∃ (d : Desc) (s : State), s.running = true ∧ InTurn s (fun d => decide (dOp d.w = 0x22)) d ∧
    Reports s d :=
  ⟨({ ring := 512, idx := 3, gen := 0, w := 0x22 * 2 ^ 0 } : Desc),
    (let d : Desc := { ring := 512, idx := 3, gen := 0, w := 0x22 * 2 ^ 0 };
    let s : State := up;
    let s : State := { s with hif := { s.hif with units := [d] } };
    let s : State := s.setRing d.ring { s.ring d.ring with st := 2, gen := d.gen };
    s),
    by unfold InTurn Reports; decide +kernel⟩
theorem wit_Account_setTenantCap : ∃ (d : Desc) (s : State), s.running = true ∧ InTurn s (fun d => decide (dOp d.w = 0x30)) d ∧
    Reports s d ∧ dB d.w 8 2 < 512 :=
  ⟨({ ring := 512, idx := 3, gen := 0, w := 0x30 * 2 ^ 0 } : Desc),
    (let d : Desc := { ring := 512, idx := 3, gen := 0, w := 0x30 * 2 ^ 0 };
    let s : State := up;
    let s : State := { s with hif := { s.hif with units := [d] } };
    let s : State := s.setRing d.ring { s.ring d.ring with st := 2, gen := d.gen };
    s),
    by unfold InTurn Reports; decide +kernel⟩
theorem wit_Recorder_eventRecordAccept : ∃ (r : EvRec) (q : List EvRec) (s : State), s.running = true ∧ s.rd RST_SEQ_stage ≠ 0 ∧
    s.recd.queue = r :: q ∧ s.recd.lost = 0 ∧ s.recd.nextT ≤ s.ts ∧ s.memoriesOk = true ∧ r.params.length = 4 ∧ s.hub.bad = [] ∧
    s.rd EVT_NEXT_next < 2 ^ 32 - 1 :=
  ⟨({ code := 1, sev := 1, flags := 0, take := 0, ts := 0, params := [0, 0, 0, 0] } : EvRec), ([] : List EvRec),
    (let r : EvRec := { code := 1, sev := 1, flags := 0, take := 0, ts := 0, params := [0, 0, 0, 0] };
    let q : List EvRec := [];
    let s : State := up;
    let s : State := s.wr RST_SEQ_stage 0 (1);
    let s : State := { s with recd := { s.recd with queue := r :: q } };
    let s : State := { s with recd := { s.recd with lost := 0 } };
    let s : State := { s with hub := { s.hub with bad := [] } };
    let s : State := s.wr EVT_NEXT_next 0 (0);
    s),
    by decide +kernel⟩
theorem wit_Recorder_eventRecordLost : ∃ (r : EvRec) (q : List EvRec) (s : State), s.running = true ∧ s.rd RST_SEQ_stage ≠ 0 ∧
    s.recd.queue = r :: q ∧ 0 < s.recd.lost ∧ s.recd.inLost = false ∧ s.recd.nextT ≤ s.ts ∧ s.rd EVT_NEXT_next < 2 ^ 32 - 1 :=
  ⟨({ code := 1, sev := 1, flags := 0, take := 0, ts := 0, params := [0, 0, 0, 0] } : EvRec), ([] : List EvRec),
    (let r : EvRec := { code := 1, sev := 1, flags := 0, take := 0, ts := 0, params := [0, 0, 0, 0] };
    let q : List EvRec := [];
    let s : State := up;
    let s : State := s.wr RST_SEQ_stage 0 (1);
    let s : State := { s with recd := { s.recd with queue := r :: q } };
    let s : State := { s with recd := { s.recd with inLost := false } };
    let s : State := s.wr EVT_NEXT_next 0 (0);
    let s : State := { s with recd := { s.recd with lost := 1 } };
    s),
    by decide +kernel⟩
theorem wit_Recorder_heartwoodProgram : ∃ (bs : List Byte) (s : State), s.running = true ∧ s.fwRunning 3 = true ∧ s.nvm.restored
    = true ∧ s.flag NVM_STAT_found = true ∧ s.nvm.portHigh = false ∧ s.nvm.hwOpen = true ∧ s.nvm.hwPos < 256 ∧ s.nvm.clear = none ∧
    s.nvm.ops = [] ∧ s.nvm.priorN = 0 ∧ laterSer (s.rd EVT_NEXT_next) s.nvm.hwNext 32 = true ∧ s.recordAt s.nvm.hwNext = some bs :=
  ⟨(List.replicate 32 0 : List Byte),
    (let s : State := up;
    let s : State := { s with nvm := { s.nvm with restored := true } };
    let s : State := s.wr NVM_STAT_found 0 (1);
    let s : State := { s with nvm := { s.nvm with hwOpen := true } };
    let s : State := { s with nvm := { s.nvm with clear := none } };
    let s : State := { s with nvm := { s.nvm with ops := [] } };
    let s : State := { s with nvm := { s.nvm with priorN := 0 } };
    let s : State := s.wr EVT_NEXT_next 0 1;
    s),
    by decide +kernel⟩
theorem wit_Recorder_evtRead : ∃ (d : Desc) (n : Nat) (s : State), s.running = true ∧ InTurn s (fun d => decide (dOp d.w =
    0x50)) d ∧ Reports s d ∧ dB d.w 8 1 = 0 ∧ bit (dB d.w 9 1) 0 = false ∧ laterSer (dB d.w 16 4) (s.rd EVT_NEXT_next) 32 = false ∧
    n = min (dB d.w 10 2) (sub32w (s.rd EVT_NEXT_next) (dB d.w 16 4)) ∧ sub32w (s.rd EVT_NEXT_next) (dB d.w 16 4) ≤ s.held ∧ n * 32
    ≤ dB d.w 12 4 ∧ 0 < n ∧ (∀ i < n, (s.recordAt ((dB d.w 16 4 + i) % 2 ^ 32)).isSome = true) :=
  ⟨({ ring := 512, idx := 3, gen := 0, w := 0x50 * 2 ^ 0 + 0 * 2 ^ 64 + 1 * 2 ^ 80 + 32 * 2 ^ 96 } : Desc), (1 : Nat),
    (let d : Desc := { ring := 512, idx := 3, gen := 0, w := 0x50 * 2 ^ 0 + 0 * 2 ^ 64 + 1 * 2 ^ 80 + 32 * 2 ^ 96 };
    let s : State := up;
    let s : State := { s with hif := { s.hif with units := [d] } };
    let s : State := s.setRing d.ring { s.ring d.ring with st := 2, gen := d.gen };
    let s : State := s.wr EVT_NEXT_next 0 1;
    s),
    by unfold InTurn Reports; decide +kernel⟩
theorem wit_Recorder_evtReadRefused : ∃ (d : Desc) (s : State), s.running = true ∧ InTurn s (fun d => decide (dOp d.w = 0x50)) d
    ∧ Reports s d ∧ dB d.w 8 1 = 0 ∧ laterSer (dB d.w 16 4) (s.rd EVT_NEXT_next) 32 = true :=
  ⟨({ ring := 512, idx := 3, gen := 0, w := 0x50 * 2 ^ 0 + 0 * 2 ^ 64 + 5 * 2 ^ 128 } : Desc),
    (let d : Desc := { ring := 512, idx := 3, gen := 0, w := 0x50 * 2 ^ 0 + 0 * 2 ^ 64 + 5 * 2 ^ 128 };
    let s : State := up;
    let s : State := { s with hif := { s.hif with units := [d] } };
    let s : State := s.setRing d.ring { s.ring d.ring with st := 2, gen := d.gen };
    s),
    by unfold InTurn Reports; decide +kernel⟩
theorem wit_Recorder_evtClear : ∃ (d : Desc) (s : State), s.running = true ∧ s.nvm.clear = none ∧ InTurn s (fun d => decide (dOp
    d.w = 0x51)) d ∧ dB d.w 8 4 = s.rd EVT_HW_count ∧ s.flag NVM_STAT_found = true ∧ s.nvm.portHigh = false ∧ s.nvm.ops = [] :=
  ⟨({ ring := 512, idx := 3, gen := 0, w := 0x51 * 2 ^ 0 } : Desc),
    (let d : Desc := { ring := 512, idx := 3, gen := 0, w := 0x51 * 2 ^ 0 };
    let s : State := up;
    let s : State := { s with nvm := { s.nvm with clear := none } };
    let s : State := { s with hif := { s.hif with units := [d] } };
    let s : State := s.wr NVM_STAT_found 0 (1);
    let s : State := { s with nvm := { s.nvm with ops := [] } };
    s),
    by unfold InTurn; decide +kernel⟩
theorem wit_Recorder_evtClearRefused : ∃ (d : Desc) (s : State), s.running = true ∧ s.nvm.clear = none ∧ InTurn s (fun d =>
    decide (dOp d.w = 0x51)) d ∧ Reports s d ∧ s.flag NVM_STAT_found = true ∧ s.nvm.portHigh = false ∧ dB d.w 8 4 ≠ s.rd
    EVT_HW_count :=
  ⟨({ ring := 512, idx := 3, gen := 0, w := 0x51 * 2 ^ 0 + 5 * 2 ^ 64 } : Desc),
    (let d : Desc := { ring := 512, idx := 3, gen := 0, w := 0x51 * 2 ^ 0 + 5 * 2 ^ 64 };
    let s : State := up;
    let s : State := { s with nvm := { s.nvm with clear := none } };
    let s : State := { s with hif := { s.hif with units := [d] } };
    let s : State := s.setRing d.ring { s.ring d.ring with st := 2, gen := d.gen };
    s),
    by unfold InTurn Reports; decide +kernel⟩
theorem wit_Recorder_timeSet : ∃ (d : Desc) (s : State), s.running = true ∧ InTurn s (fun d => decide (dOp d.w = 0x52)) d ∧
    Reports s d ∧ timeOk d.w s.ts = true :=
  ⟨({ ring := 512, idx := 3, gen := 0, w := 0x52 * 2 ^ 0 + 2 ^ 40 * 5 ^ 8 * 2 ^ 64 + 2024 * 2 ^ 128 + 1 * 2 ^ 144 + 1 * 2 ^ 152 } : Desc),
    (let d : Desc := { ring := 512, idx := 3, gen := 0, w := 0x52 * 2 ^ 0 + 2 ^ 40 * 5 ^ 8 * 2 ^ 64 + 2024 * 2 ^ 128 + 1 * 2 ^ 144 + 1 * 2 ^ 152 };
    let s : State := up;
    let s : State := { s with hif := { s.hif with units := [d] } };
    let s : State := s.setRing d.ring { s.ring d.ring with st := 2, gen := d.gen };
    s),
    by unfold InTurn Reports; decide +kernel⟩
theorem wit_Recorder_timeSetRefused : ∃ (d : Desc) (s : State), s.running = true ∧ InTurn s (fun d => decide (dOp d.w = 0x52)) d
    ∧ Reports s d ∧ timeOk d.w s.ts = false :=
  ⟨({ ring := 512, idx := 3, gen := 0, w := 0x52 * 2 ^ 0 } : Desc),
    (let d : Desc := { ring := 512, idx := 3, gen := 0, w := 0x52 * 2 ^ 0 };
    let s : State := up;
    let s : State := { s with hif := { s.hif with units := [d] } };
    let s : State := s.setRing d.ring { s.ring d.ring with st := 2, gen := d.gen };
    s),
    by unfold InTurn Reports; decide +kernel⟩
theorem wit_Recorder_evtCivLatch : ∃ (v : BitVec 32) (y m d h n sec ns : Nat) (s : State), s.running = true ∧ bit v.toNat 0 =
    true ∧ s.unitAnswers 16 = true ∧ s.civil s.ts = some [y, m, d, h, n, sec, ns] :=
  ⟨(1 : BitVec 32), (2000 : Nat), (1 : Nat), (1 : Nat), (0 : Nat), (0 : Nat), (0 : Nat), (0 : Nat),
    (let s : State := up;
    let s : State := s.wr EVT_NA_set 0 1;
    let s : State := s.wr EVT_TA_ta 0 (2 ^ 40 * 5 ^ 8);
    s),
    by decide +kernel⟩
theorem wit_Recorder_evtCivInvalid : ∃ (v : BitVec 32) (s : State), s.running = true ∧ bit v.toNat 0 = true ∧ s.unitAnswers 16 =
    true ∧ s.rd EVT_NA_set = 0 :=
  ⟨(1 : BitVec 32),
    (let s : State := up;
    let s : State := s.wr EVT_NA_set 0 (0);
    s),
    by decide +kernel⟩
theorem wit_Nvm_flashEraseDone : ∃ (o : FlashOp) (q : List FlashOp) (s : State), s.running = true ∧ s.nvm.ops = o :: q ∧
    s.nvm.done = false ∧ s.nvm.portHigh = false ∧ o.erase = true ∧ o.item = 3 ∧ s.fwRunning 3 = true :=
  ⟨({ item := 3, addr := 0, erase := true } : FlashOp), ([] : List FlashOp),
    (let o : FlashOp := { item := 3, addr := 0, erase := true };
    let q : List FlashOp := [];
    let s : State := up;
    let s : State := { s with nvm := { s.nvm with ops := o :: q } };
    let s : State := { s with nvm := { s.nvm with done := false } };
    let s : State := { s with nvm := { s.nvm with portHigh := false } };
    s),
    by decide +kernel⟩
theorem wit_Nvm_flashProgramPage : ∃ (o : FlashOp) (q : List FlashOp) (s : State), s.running = true ∧ s.nvm.ops = o :: q ∧
    s.nvm.done = false ∧ s.nvm.portHigh = false ∧ o.erase = false ∧ o.page.length < o.data.length :=
  ⟨({ item := 3, addr := 0, data := List.replicate 300 0 } : FlashOp), ([] : List FlashOp),
    (let o : FlashOp := { item := 3, addr := 0, data := List.replicate 300 0 };
    let q : List FlashOp := [];
    let s : State := up;
    let s : State := { s with nvm := { s.nvm with ops := o :: q } };
    let s : State := { s with nvm := { s.nvm with done := false } };
    let s : State := { s with nvm := { s.nvm with portHigh := false } };
    s),
    by decide +kernel⟩
theorem wit_Nvm_flashRecordDone : ∃ (o : FlashOp) (s : State), s.running = true ∧ s.nvm.ops = [o] ∧ s.nvm.done = false ∧
    s.nvm.portHigh = false ∧ o.erase = false ∧ o.data.length ≤ 256 - o.addr % 256 ∧ o.item = 0 ∧ s.fwRunning 3 = true ∧ s.flag
    NVM_STAT_found = true :=
  ⟨({ item := 0, addr := 0 } : FlashOp),
    (let o : FlashOp := { item := 0, addr := 0 };
    let s : State := up;
    let s : State := { s with nvm := { s.nvm with ops := [o] } };
    let s : State := { s with nvm := { s.nvm with done := false } };
    let s : State := { s with nvm := { s.nvm with portHigh := false } };
    let s : State := s.wr NVM_STAT_found 0 (1);
    s),
    by decide +kernel⟩
theorem wit_Nvm_flashCommitDone : ∃ (o : FlashOp) (s : State), s.running = true ∧ s.nvm.ops = [o] ∧ s.nvm.done = false ∧
    s.nvm.portHigh = false ∧ o.erase = false ∧ o.data.length ≤ 256 - o.addr % 256 ∧ o.item = 1 ∧ s.fwRunning 3 = true :=
  ⟨({ item := 1, addr := 0 } : FlashOp),
    (let o : FlashOp := { item := 1, addr := 0 };
    let s : State := up;
    let s : State := { s with nvm := { s.nvm with ops := [o] } };
    let s : State := { s with nvm := { s.nvm with done := false } };
    let s : State := { s with nvm := { s.nvm with portHigh := false } };
    s),
    by decide +kernel⟩
theorem wit_Nvm_flashDoneWaits : ∃ (o : FlashOp) (q : List FlashOp) (s : State), s.running = true ∧ s.nvm.ops = o :: q ∧
    s.nvm.done = false ∧ s.nvm.portHigh = false ∧ o.data.length ≤ 256 - o.addr % 256 ∧ s.fwRunning 3 = false :=
  ⟨({ item := 1, addr := 0 } : FlashOp), ([] : List FlashOp),
    (let o : FlashOp := { item := 1, addr := 0 };
    let q : List FlashOp := [];
    let s : State := up;
    let s : State := { s with nvm := { s.nvm with ops := o :: q } };
    let s : State := { s with nvm := { s.nvm with done := false } };
    let s : State := { s with nvm := { s.nvm with portHigh := false } };
    let s : State := s.setFwState 3 0;
    s),
    by decide +kernel⟩
theorem wit_Nvm_flashOpRetry : ∃ (st : BitVec 8) (o : FlashOp) (q : List FlashOp) (s : State), s.running = true ∧ s.nvm.ops = o
    :: q ∧ s.nvm.done = false ∧ s.nvm.portHigh = false ∧ o.tried = false :=
  ⟨(0 : BitVec 8), ({ item := 1, addr := 0 } : FlashOp), ([] : List FlashOp),
    (let o : FlashOp := { item := 1, addr := 0 };
    let q : List FlashOp := [];
    let s : State := up;
    let s : State := { s with nvm := { s.nvm with ops := o :: q } };
    let s : State := { s with nvm := { s.nvm with done := false } };
    let s : State := { s with nvm := { s.nvm with portHigh := false } };
    s),
    by decide +kernel⟩
theorem wit_Nvm_flashOpFailed : ∃ (st : BitVec 8) (o : FlashOp) (q : List FlashOp) (s : State), s.running = true ∧ s.nvm.ops = o
    :: q ∧ s.nvm.done = false ∧ s.nvm.portHigh = false ∧ o.tried = true ∧ o.erase = true ∧ o.item = 6 :=
  ⟨(0 : BitVec 8), ({ item := 6, addr := 0, erase := true, tried := true } : FlashOp), ([] : List FlashOp),
    (let o : FlashOp := { item := 6, addr := 0, erase := true, tried := true };
    let q : List FlashOp := [];
    let s : State := up;
    let s : State := { s with nvm := { s.nvm with ops := o :: q } };
    let s : State := { s with nvm := { s.nvm with done := false } };
    let s : State := { s with nvm := { s.nvm with portHigh := false } };
    s),
    by decide +kernel⟩
theorem wit_Nvm_lastFaultFlashWrite : ∃ (s : State), s.running = true ∧ s.vrc.lfPend = true ∧ s.vrc.lfAsked = false ∧
    s.fwRunning 3 = true ∧ s.nvm.restored = true ∧ s.flag NVM_STAT_found = true ∧ s.nvm.portHigh = false ∧ s.nvm.ops = [] :=
  ⟨(let s : State := up;
    let s : State := { s with vrc := { s.vrc with lfPend := true } };
    let s : State := { s with nvm := { s.nvm with restored := true } };
    let s : State := s.wr NVM_STAT_found 0 (1);
    let s : State := { s with nvm := { s.nvm with ops := [] } };
    s),
    by decide +kernel⟩
theorem wit_Nvm_lastFaultWritten : ∃ (o : FlashOp) (s : State), s.running = true ∧ s.nvm.ops = [o] ∧ s.nvm.done = false ∧
    s.nvm.portHigh = false ∧ o.erase = false ∧ o.data.length ≤ 256 - o.addr % 256 ∧ o.item = 7 ∧ s.fwRunning 3 = true :=
  ⟨({ item := 7, addr := 0x4000, data := [1] } : FlashOp),
    (let s : State := up;
    let s : State := { s with nvm := { s.nvm with ops := [{ item := 7, addr := 0x4000, data := [1] }] } };
    s),
    by decide +kernel⟩
theorem wit_Nvm_fp3StartupRestore : ∃ (s : State), s.running = true ∧ s.rd RST_SEQ_stage ≠ 0 ∧ s.fwRunning 3 = true ∧
    s.nvm.restored = false ∧ s.halfValid 0 = false ∧ s.halfValid 1 = true ∧ s.flash.all (fun c => decide (c.1 < 0x10000)) = true :=
  ⟨(let s : State := up;
    let s : State := s.wr RST_SEQ_stage 0 (1);
    let s : State := { s with nvm := { s.nvm with restored := false } };
    let s : State := { s with flash := cellsAt 0x4000 halfHead };
    s),
    by decide +kernel⟩
theorem wit_Nvm_mirrorDeferExpire : ∃ (c n : Nat) (s : State), s.running = true ∧ s.nvm.defer = some c ∧ s.nvm.capT = some n ∧ n
    + mirrorGap ≤ s.ts ∧ s.fwRunning 3 = true ∧ s.flag NVM_STAT_found = true ∧ s.nvm.portHigh = false ∧ s.nvm.ops = [] :=
  ⟨(3 : Nat), (3 : Nat),
    (let c : Nat := 3;
    let n : Nat := 3;
    let s : State := up;
    let s : State := { s with nvm := { s.nvm with defer := some c } };
    let s : State := { s with nvm := { s.nvm with capT := some n } };
    let s : State := s.wr NVM_STAT_found 0 (1);
    let s : State := { s with nvm := { s.nvm with ops := [] } };
    s),
    by decide +kernel⟩
theorem wit_Smb_smbIdent : ∃ (s : State), s.smbUp = true :=
  ⟨up,
    by decide +kernel⟩
theorem wit_Smb_smbStatus : ∃ (s : State), s.smbUp = true :=
  ⟨up,
    by decide +kernel⟩
theorem wit_Smb_smbTempHot : ∃ (s : State), s.smbUp = true :=
  ⟨up,
    by decide +kernel⟩
theorem wit_Smb_smbAnchorLo : ∃ (s : State), s.smbUp = true :=
  ⟨up,
    by decide +kernel⟩
theorem wit_Smb_smbAnchorHi : ∃ (s : State), s.smbUp = true :=
  ⟨up,
    by decide +kernel⟩
theorem wit_Smb_smbTinRead : ∃ (s : State), s.smbUp = true :=
  ⟨up,
    by decide +kernel⟩
theorem wit_Smb_smbTinWrite : ∃ (v : BitVec 16) (s : State), s.smbUp = true ∧ s.rd SMB_CTL_tin_en = 1 ∧ -1280 ≤ sgn 16 v.toNat ∧
    sgn 16 v.toNat ≤ 8960 :=
  ⟨(0 : BitVec 16),
    (let s : State := up;
    let s : State := s.wr SMB_CTL_tin_en 0 (1);
    s),
    by decide +kernel⟩
theorem wit_Smb_smbTinRejected : ∃ (v : BitVec 16) (s : State), s.smbUp = true ∧ s.rd SMB_CTL_tin_en = 1 ∧ (sgn 16 v.toNat <
    -1280 ∨ 8960 < sgn 16 v.toNat) :=
  ⟨(0x7FFF : BitVec 16),
    (let s : State := up;
    let s : State := s.wr SMB_CTL_tin_en 0 (1);
    s),
    by decide +kernel⟩
theorem wit_Smb_smbTinDisabled : ∃ (v : BitVec 16) (s : State), s.smbUp = true ∧ s.rd SMB_CTL_tin_en = 0 :=
  ⟨(0 : BitVec 16),
    (let s : State := up;
    let s : State := s.wr SMB_CTL_tin_en 0 (0);
    s),
    by decide +kernel⟩
theorem wit_Smb_smbWrongPec : ∃ (v : BitVec 16) (s : State), s.smbUp = true ∧ s.rd SMB_CTL_tin_en = 1 :=
  ⟨(0 : BitVec 16),
    (let s : State := up;
    let s : State := s.wr SMB_CTL_tin_en 0 (1);
    s),
    by decide +kernel⟩
theorem wit_Smb_smbPower : ∃ (s : State), s.smbUp = true :=
  ⟨up,
    by decide +kernel⟩
theorem wit_Smb_smbLastfPageRead : ∃ (s : State), s.smbUp = true :=
  ⟨up,
    by decide +kernel⟩
theorem wit_Smb_smbLastfPageWrite : ∃ (v : BitVec 8) (s : State), s.smbUp = true ∧ v.toNat ≤ 3 :=
  ⟨(0 : BitVec 8),
    up,
    by decide +kernel⟩
theorem wit_Smb_smbLastf : ∃ (s : State), s.smbUp = true :=
  ⟨up,
    by decide +kernel⟩
theorem wit_Smb_smbEvtSel : ∃ (region : BitVec 8) (num : BitVec 32) (s : State), s.smbUp = true ∧ region.toNat ≤ 1 :=
  ⟨(0 : BitVec 8), (0 : BitVec 32),
    up,
    by decide +kernel⟩
theorem wit_Smb_smbEvtSelRegion : ∃ (region : BitVec 8) (num : BitVec 32) (s : State), s.smbUp = true ∧ 1 < region.toNat :=
  ⟨(2 : BitVec 8), (0 : BitVec 32),
    up,
    by decide +kernel⟩
theorem wit_Smb_smbEvtData : ∃ (bs : List Byte) (s : State), s.smbUp = true ∧ s.fwRunning 3 = true ∧ s.smb.region = 0 ∧
    s.recordAt s.smb.sel = some bs :=
  ⟨(List.replicate 32 0 : List Byte),
    (let s : State := up;
    let s : State := { s with smb := { s.smb with region := 0 } };
    let s : State := s.wr EVT_NEXT_next 0 1;
    s),
    by decide +kernel⟩
theorem wit_Smb_smbEvtDataGone : ∃ (s : State), s.smbUp = true ∧ s.fwRunning 3 = true ∧ s.smb.region = 0 ∧ s.recordAt s.smb.sel
    = none :=
  ⟨(let s : State := up;
    let s : State := { s with smb := { s.smb with region := 0 } };
    s),
    by decide +kernel⟩
theorem wit_Smb_smbTime : ∃ (y m d h n sec ns : Nat) (s : State), s.smbUp = true ∧ s.civil s.ts = some [y, m, d, h, n, sec, ns]
    :=
  ⟨(2000 : Nat), (1 : Nat), (1 : Nat), (0 : Nat), (0 : Nat), (0 : Nat), (0 : Nat),
    (let s : State := up;
    let s : State := s.wr EVT_NA_set 0 1;
    let s : State := s.wr EVT_TA_ta 0 (2 ^ 40 * 5 ^ 8);
    s),
    by decide +kernel⟩
theorem wit_Smb_smbBusTimeout : ∃ (s : State), s.smbUp = true :=
  ⟨up,
    by decide +kernel⟩
theorem wit_Smb_smbUndefinedCommand : ∃ (code : BitVec 8) (s : State), s.smbUp = true ∧ code.toNat ∉ [0x00, 0x01, 0x10, 0x11,
    0x12, 0x18, 0x20, 0x30, 0x31, 0x40, 0x41, 0x50] :=
  ⟨(0x77 : BitVec 8),
    up,
    by decide +kernel⟩
theorem wit_Memory_firmwareAccess : ∃ (m : Fin 12) (bank : Fin 18) (line : BitVec 14) (write : Bool) (data : BitVec 512) (s :
    State), s.running = true ∧ MayAccess s m ∧ s.rgnOk m bank (64 * line.toNat) 64 write = true :=
  ⟨(8 : Fin 12), (8 : Fin 18), (0 : BitVec 14), (true : Bool), (0 : BitVec 512),
    (let s : State := up;
    let s : State := ((((s.wr MEM_RGN_valid 64 1).wr MEM_RGN_bank 64 8).wr MEM_RGN_w 64 1).wr MEM_RGN_base 64 0).wr MEM_RGN_size 64 8;
    s),
    by unfold MayAccess; decide +kernel⟩
theorem wit_Memory_firmwareWrite : ∃ (a : MemAcc) (s : State), Served s a ∧ s.hub.accs = [a] ∧ a.write = true ∧ s.memoriesOk =
    true :=
  ⟨({ master := 2, bank := 8, off := 64, write := true, data := 5 } : MemAcc),
    (let s : State := up;
    let s : State := { s with hub := { s.hub with accs := [{ master := 2, bank := 8, off := 64, write := true, data := 5 }] } };
    s),
    by unfold Served; decide +kernel⟩
theorem wit_Memory_firmwareRead : ∃ (a : MemAcc) (s : State), Served s a ∧ s.hub.accs = [a] ∧ a.write = false ∧ a.master ≠ 12 ∧
    a.ecc = [] :=
  ⟨({ master := 2, bank := 8, off := 64, write := false } : MemAcc),
    (let s : State := up;
    let s : State := { s with hub := { s.hub with accs := [{ master := 2, bank := 8, off := 64, write := false }] } };
    s),
    by unfold Served; decide +kernel⟩
theorem wit_Memory_firmwareViolation : ∃ (m : Fin 12) (bank : Fin 18) (line : BitVec 14) (data : BitVec 512) (s : State),
    s.running = true ∧ MayAccess s m ∧ s.rgnOk m bank (64 * line.toNat) 64 false = false :=
  ⟨(1 : Fin 12), (1 : Fin 18), (0 : BitVec 14), (0 : BitVec 512),
    up,
    by unfold MayAccess; decide +kernel⟩
theorem wit_Memory_firmwareWriteViolation : ∃ (m : Fin 12) (bank : Fin 18) (line : BitVec 14) (data : BitVec 512) (s : State),
    s.running = true ∧ MayAccess s m ∧ s.rgnOk m bank (64 * line.toNat) 64 true = false :=
  ⟨(1 : Fin 12), (1 : Fin 18), (0 : BitVec 14), (0 : BitVec 512),
    up,
    by unfold MayAccess; decide +kernel⟩
theorem wit_Memory_firmwareDouble : ∃ (a : MemAcc) (w : Nat) (s : State), Served s a ∧ s.hub.accs = [a] ∧ a.write = false ∧
    a.master ≠ 12 ∧ a.ecc = [(w, true)] :=
  ⟨({ master := 2, bank := 8, off := 64, write := false, ecc := [(3, true)] } : MemAcc), (3 : Nat),
    (let s : State := up;
    let s : State := { s with hub := { s.hub with accs := [{ master := 2, bank := 8, off := 64, write := false, ecc := [(3, true)] }] } };
    s),
    by unfold Served; decide +kernel⟩
theorem wit_Memory_memoryPriority : ∃ (a b : MemAcc) (s : State), Served s a ∧ Served s b ∧ b.bank = a.bank ∧ a.bank ≠ 8 ∧ b.off
    ≠ a.off ∧ b.master ≠ a.master ∧ b.before a = false ∧ (s.hub.accs = [a, b] ∨ s.hub.accs = [b, a] ∧ a.before b = true) :=
  ⟨({ master := 2, bank := 9, off := 64, write := false } : MemAcc), ({ master := 1, bank := 9, off := 0, write := false } : MemAcc),
    (let s : State := up;
    let s : State := { s with hub := { s.hub with accs :=
      [{ master := 2, bank := 9, off := 64, write := false }, { master := 1, bank := 9, off := 0, write := false }] } };
    s),
    by unfold Served; decide +kernel⟩
theorem wit_Memory_memorySameLine : ∃ (w r : MemAcc) (s : State), Served s w ∧ Served s r ∧ r.bank = w.bank ∧ r.off = w.off ∧
    r.master ≠ w.master ∧ r.master ≠ 12 ∧ w.write = true ∧ r.write = false ∧ r.ecc = [] ∧ s.hub.accs = [w, r] :=
  ⟨({ master := 1, bank := 9, off := 64, write := true, data := 7 } : MemAcc), ({ master := 2, bank := 9, off := 64, write := false } : MemAcc),
    (let s : State := up;
    let s : State := { s with hub := { s.hub with accs :=
      [{ master := 1, bank := 9, off := 64, write := true, data := 7 }, { master := 2, bank := 9, off := 64, write := false }] } };
    s),
    by unfold Served; decide +kernel⟩
theorem wit_Memory_memBuRead : ∃ (v : BitVec 32) (s : State), s.running = true ∧ s.unitAnswers 3 = true ∧ s.rgnOk 12 (bits
    v.toNat 0 5) (64 * bits v.toNat 6 14) 64 false = true :=
  ⟨(0 : BitVec 32),
    up,
    by decide +kernel⟩
theorem wit_Memory_memBuReadDone : ∃ (bs : List Byte) (s : State), s.running = true ∧ s.hub.buData = some bs :=
  ⟨(leBytes 64 5 : List Byte),
    (let s : State := up;
    let s : State := { s with hub := { s.hub with buWait := true, buData := some (leBytes 64 5) } };
    s),
    by decide +kernel⟩
theorem wit_Memory_memBuReadRefused : ∃ (v : BitVec 32) (s : State), s.running = true ∧ s.unitAnswers 3 = true ∧ s.rgnOk 12
    (bits v.toNat 0 5) (64 * bits v.toNat 6 14) 64 false = false :=
  ⟨(0xFFFCD : BitVec 32),
    up,
    by decide +kernel⟩
theorem wit_Memory_backgroundTest : ∃ (bank region : Nat) (q : List (Nat × Nat)) (s : State), s.running = true ∧ s.rd MEM_BT_en
    = 1 ∧ s.ts % (usT * s.rd MEM_BT_period) = 0 ∧ s.hub.btT ≤ s.ts ∧ s.hub.btQueue = (bank, region) :: q ∧ s.btSkip bank = false :=
  ⟨(3 : Nat), (3 : Nat), ([] : List (Nat × Nat)),
    (let bank : Nat := 3;
    let region : Nat := 3;
    let q : List (Nat × Nat) := [];
    let s : State := up;
    let s : State := s.wr MEM_BT_en 0 (1);
    let s : State := { s with hub := { s.hub with btQueue := (bank, region) :: q } };
    s),
    by decide +kernel⟩
theorem wit_Memory_backgroundTestRetires : ∃ (bank region k : Nat) (q : List (Nat × Nat)) (s : State), s.running = true ∧ s.rd
    MEM_BT_en = 1 ∧ bank < 18 ∧ region < 4096 ∧ s.ts % (usT * s.rd MEM_BT_period) = 0 ∧ s.hub.btT ≤ s.ts ∧ s.hub.btQueue = (bank,
    region) :: q ∧ s.btSkip bank = false ∧ (List.range 8).find? (fun k => !s.flag MEM_RMAP_valid (8 * bank + k)) = some k :=
  ⟨(3 : Nat), (3 : Nat), (0 : Nat), ([] : List (Nat × Nat)),
    (let bank : Nat := 3;
    let region : Nat := 3;
    let q : List (Nat × Nat) := [];
    let s : State := up;
    let s : State := s.wr MEM_BT_en 0 (1);
    let s : State := { s with hub := { s.hub with btQueue := (bank, region) :: q } };
    s),
    by decide +kernel⟩
theorem wit_Memory_backgroundTestNoSpare : ∃ (bank region : Nat) (q : List (Nat × Nat)) (s : State), s.running = true ∧ s.rd
    MEM_BT_en = 1 ∧ s.ts % (usT * s.rd MEM_BT_period) = 0 ∧ s.hub.btT ≤ s.ts ∧ s.hub.btQueue = (bank, region) :: q ∧ s.btSkip bank =
    false ∧ (List.range 8).find? (fun k => !s.flag MEM_RMAP_valid (8 * bank + k)) = none :=
  ⟨(3 : Nat), (3 : Nat), ([] : List (Nat × Nat)),
    (let bank : Nat := 3;
    let region : Nat := 3;
    let q : List (Nat × Nat) := [];
    let s : State := up;
    let s : State := s.wr MEM_BT_en 0 (1);
    let s : State := { s with hub := { s.hub with btQueue := (bank, region) :: q } };
    let s : State := (List.range 8).foldl (fun s k => s.wr MEM_RMAP_valid (24 + k) 1) s;
    s),
    by decide +kernel⟩
theorem wit_Slate_slateOpen : ∃ (d : Desc) (k : Nat) (s : State), s.running = true ∧ InTurn s (fun d => decide (dOp d.w = 0x10))
    d ∧ Reports s d ∧ (List.range 8).find? (fun k => decide ((s.slate k).state = 0)) = some k :=
  ⟨({ ring := 512, idx := 3, gen := 0, w := 0x10 * 2 ^ 0 } : Desc), (0 : Nat),
    (let d : Desc := { ring := 512, idx := 3, gen := 0, w := 0x10 * 2 ^ 0 };
    let s : State := up;
    let s : State := { s with hif := { s.hif with units := [d] } };
    let s : State := s.setRing d.ring { s.ring d.ring with st := 2, gen := d.gen };
    s),
    by unfold InTurn Reports; decide +kernel⟩
theorem wit_Slate_slateOpenFull : ∃ (d : Desc) (s : State), s.running = true ∧ InTurn s (fun d => decide (dOp d.w = 0x10)) d ∧
    Reports s d ∧ (List.range 8).find? (fun k => decide ((s.slate k).state = 0)) = none :=
  ⟨({ ring := 512, idx := 3, gen := 0, w := 0x10 * 2 ^ 0 } : Desc),
    (let d : Desc := { ring := 512, idx := 3, gen := 0, w := 0x10 * 2 ^ 0 };
    let s : State := up;
    let s : State := { s with hif := { s.hif with units := [d] } };
    let s : State := s.setRing d.ring { s.ring d.ring with st := 2, gen := d.gen };
    let s : State := (List.range 8).foldl (fun s k => s.setSlateRaw k { s.slate k with state := 1 }) s;
    s),
    by unfold InTurn Reports; decide +kernel⟩
theorem wit_Slate_slateWrite : ∃ (data : List Byte) (d : Desc) (k v i : Nat) (s : State), s.running = true ∧ InTurn s (fun d =>
    decide (dOp d.w = 0x11)) d ∧ Reports s d ∧ dInline d.w = true ∧ dB d.w 10 2 = 1 ∧ dB d.w 16 4 = 4 ∧ s.slateOf (dB d.w 8 2) =
    some k ∧ (s.slate k).state = 1 ∧ s.tableOk 1 (dB d.w 12 4) 4 = some (v, i, 1) ∧ s.linesUsed < 65536 :=
  ⟨([] : List Byte), ({ ring := 512, idx := 3, gen := 0, w := 0x11 * 2 ^ 0 + 4 * 2 ^ 16 + 3 * 2 ^ 64 + 1 * 2 ^ 80 + 0x38010 * 2 ^ 96 + 4 * 2 ^ 128 } : Desc), (3 : Nat), (0 : Nat), (0x38010 : Nat),
    (let d : Desc := { ring := 512, idx := 3, gen := 0, w := 0x11 * 2 ^ 0 + 4 * 2 ^ 16 + 3 * 2 ^ 64 + 1 * 2 ^ 80 + 0x38010 * 2 ^ 96 + 4 * 2 ^ 128 };
    let k : Nat := 3;
    let s : State := up;
    let s : State := { s with hif := { s.hif with units := [d] } };
    let s : State := s.setRing d.ring { s.ring d.ring with st := 2, gen := d.gen };
    let s : State := s.setSlateRaw k { s.slate k with state := 1 };
    s),
    by unfold InTurn Reports; decide +kernel⟩
theorem wit_Slate_slateWriteRefused : ∃ (data : List Byte) (d : Desc) (k : Nat) (s : State), s.running = true ∧ InTurn s (fun d
    => decide (dOp d.w = 0x11)) d ∧ Reports s d ∧ s.slateOf (dB d.w 8 2) = some k ∧ (s.slate k).state = 1 ∧ s.tableOk (dB d.w 10 2)
    (dB d.w 12 4) (dB d.w 16 4) = none :=
  ⟨([] : List Byte), ({ ring := 512, idx := 3, gen := 0, w := 0x11 * 2 ^ 0 + 3 * 2 ^ 64 } : Desc), (3 : Nat),
    (let d : Desc := { ring := 512, idx := 3, gen := 0, w := 0x11 * 2 ^ 0 + 3 * 2 ^ 64 };
    let k : Nat := 3;
    let s : State := up;
    let s : State := { s with hif := { s.hif with units := [d] } };
    let s : State := s.setRing d.ring { s.ring d.ring with st := 2, gen := d.gen };
    let s : State := s.setSlateRaw k { s.slate k with state := 1 };
    s),
    by unfold InTurn Reports; decide +kernel⟩
theorem wit_Slate_abandon : ∃ (d : Desc) (k : Nat) (s : State), s.running = true ∧ InTurn s (fun d => decide (dOp d.w = 0x14)) d
    ∧ Reports s d ∧ s.slateOf (dB d.w 8 2) = some k ∧ (s.slate k).state = 1 :=
  ⟨({ ring := 512, idx := 3, gen := 0, w := 0x14 * 2 ^ 0 + 3 * 2 ^ 64 } : Desc), (3 : Nat),
    (let d : Desc := { ring := 512, idx := 3, gen := 0, w := 0x14 * 2 ^ 0 + 3 * 2 ^ 64 };
    let k : Nat := 3;
    let s : State := up;
    let s : State := { s with hif := { s.hif with units := [d] } };
    let s : State := s.setRing d.ring { s.ring d.ring with st := 2, gen := d.gen };
    let s : State := s.setSlateRaw k { s.slate k with state := 1 };
    s),
    by unfold InTurn Reports; decide +kernel⟩
theorem wit_Slate_abandonHandle : ∃ (d : Desc) (s : State), s.running = true ∧ InTurn s (fun d => decide (dOp d.w = 0x14)) d ∧
    Reports s d ∧ s.slateOf (dB d.w 8 2) = none :=
  ⟨({ ring := 512, idx := 3, gen := 0, w := 0x14 * 2 ^ 0 } : Desc),
    (let d : Desc := { ring := 512, idx := 3, gen := 0, w := 0x14 * 2 ^ 0 };
    let s : State := up;
    let s : State := { s with hif := { s.hif with units := [d] } };
    let s : State := s.setRing d.ring { s.ring d.ring with st := 2, gen := d.gen };
    s),
    by unfold InTurn Reports; decide +kernel⟩
theorem wit_Slate_slateCheckRefused : ∃ (d : Desc) (k : Nat) (f : Nat × Nat) (s : State), s.running = true ∧ InTurn s (fun d =>
    decide (dOp d.w = 0x12)) d ∧ Reports s d ∧ s.slateOf (dB d.w 8 2) = some k ∧ (s.slate k).state = 1 ∧ (picked s d).checkShadow
    ((picked s d).shadowOf (s.slate k)) = some f :=
  ⟨({ ring := 512, idx := 3, gen := 0, w := 0x12 * 2 ^ 0 + 3 * 2 ^ 64 } : Desc), (3 : Nat), ((1, 0x28018) : Nat × Nat),
    (let d : Desc := { ring := 512, idx := 3, gen := 0, w := 0x12 * 2 ^ 0 + 3 * 2 ^ 64 };
    let k : Nat := 3;
    let s : State := up;
    let s : State := { s with hif := { s.hif with units := [d] } };
    let s : State := s.setRing d.ring { s.ring d.ring with st := 2, gen := d.gen };
    let s : State := s.setSlateRaw k { s.slate k with state := 1 };
    let s : State := s.setSlateRaw 3 { s.slate 3 with regs := [(0x28018 * 4, 0)] };
    s),
    by unfold InTurn Reports; decide +kernel⟩
theorem wit_Slate_takeArmed : ∃ (j : TakeJob) (s : State), s.running = true ∧ s.slt.jobs = [j] ∧ j.phase = 0 ∧ j.copyEnd ≤ s.ts
    ∧ j.pair = false ∧ j.body = 0 :=
  ⟨({ slate := 3, handle := 3, desc := none } : TakeJob),
    (let j : TakeJob := { slate := 3, handle := 3, desc := none };
    let s : State := up;
    let s : State := { s with slt := { s.slt with jobs := [j] } };
    s),
    by decide +kernel⟩
theorem wit_Slate_takePast : ∃ (j : TakeJob) (d : Desc) (s : State), s.running = true ∧ s.slt.jobs = [j] ∧ j.phase = 0 ∧
    j.copyEnd ≤ s.ts ∧ j.pair = false ∧ j.body ≠ 0 ∧ j.body ≤ j.copyEnd ∧ j.desc = some d ∧ Reports s d ∧ j.slate < 8 :=
  ⟨({ slate := 3, handle := 3, body := 1, copyEnd := 1, desc := some { ring := 7, idx := 3, w := 0 } } : TakeJob), ({ ring := 7, idx := 3, gen := 0, w := 0 } : Desc),
    (let j : TakeJob := { slate := 3, handle := 3, body := 1, copyEnd := 1, desc := some { ring := 7, idx := 3, w := 0 } };
    let d : Desc := { ring := 7, idx := 3, gen := 0, w := 0 };
    let s : State := up;
    let s : State := { s with slt := { s.slt with jobs := [j] } };
    let s : State := s.setRing d.ring { s.ring d.ring with st := 2, gen := d.gen };
    s),
    by unfold Reports; decide +kernel⟩
theorem wit_Slate_takeApplyRing : ∃ (j : TakeJob) (r e n : Nat) (s : State), s.running = true ∧ s.slt.jobs = [j] ∧ j.phase = 1 ∧
    j.t = some n ∧ n ≤ s.ts ∧ j.pair = false ∧ j.sh = { rings := [(r, e)] } ∧ r < 512 ∧ eEn (s.tring r) = false ∧ eEn e = true ∧
    j.desc = none ∧ j.slate < 8 ∧ (∀ f ∈ triggerFlds, s.rd f = 0) ∧ s.rd SLT_TAKE_take < 2 ^ 32 - 1 :=
  ⟨({ slate := 3, handle := 3, desc := none, phase := 1, t := some 3, sh := { rings := [(7, 2 ^ 200)] } } : TakeJob), (7 : Nat), (2 ^ 200 : Nat), (3 : Nat),
    (let j : TakeJob := { slate := 3, handle := 3, desc := none, phase := 1, t := some 3, sh := { rings := [(7, 2 ^ 200)] } };
    let s : State := up;
    let s : State := { s with slt := { s.slt with jobs := [j] } };
    let s : State := s.wr SLT_TAKE_take 0 (0);
    s),
    by decide +kernel⟩
theorem wit_Slate_takeApplyWord : ∃ (j : TakeJob) (v n : Nat) (s : State), s.running = true ∧ s.slt.jobs = [j] ∧ j.phase = 1 ∧
    j.t = some n ∧ n ≤ s.ts ∧ j.pair = false ∧ j.sh = { regs := [(MEM_BT_en.key / 8, v)] } ∧ v < 2 ^ 32 ∧ s.clocked 3 = true ∧
    j.desc = none ∧ j.slate < 8 ∧ (∀ f ∈ triggerFlds, s.rd f = 0) :=
  ⟨({ slate := 3, handle := 3, desc := none, phase := 1, t := some 3, sh := { regs := [(MEM_BT_en.key / 8, 0x100)] } } : TakeJob), (0x100 : Nat), (3 : Nat),
    (let j : TakeJob := { slate := 3, handle := 3, desc := none, phase := 1, t := some 3, sh := { regs := [(MEM_BT_en.key / 8, 0x100)] } };
    let s : State := up;
    let s : State := { s with slt := { s.slt with jobs := [j] } };
    s),
    by decide +kernel⟩
theorem wit_Slate_takeFailed : ∃ (j : TakeJob) (d : Desc) (n : Nat) (s : State), s.running = true ∧ s.slt.jobs = [j] ∧ j.phase =
    1 ∧ j.t = some n ∧ n ≤ s.ts ∧ j.pair = false ∧ s.gatedTake j.sh = true ∧ j.desc = some d ∧ j.told = false ∧ Reports s d ∧
    j.slate < 8 :=
  ⟨({ slate := 3, handle := 3, phase := 1, t := some 3, desc := some { ring := 7, idx := 3, w := 0 }, sh := { regs := [(FCS_CTL_fc_en.key / 8, 1)] } } : TakeJob), ({ ring := 7, idx := 3, gen := 0, w := 0 } : Desc), (3 : Nat),
    (let j : TakeJob := { slate := 3, handle := 3, phase := 1, t := some 3, desc := some { ring := 7, idx := 3, w := 0 }, sh := { regs := [(FCS_CTL_fc_en.key / 8, 1)] } };
    let d : Desc := { ring := 7, idx := 3, gen := 0, w := 0 };
    let s : State := up;
    let s : State := { s with slt := { s.slt with jobs := [j] } };
    let s : State := s.setRing d.ring { s.ring d.ring with st := 2, gen := d.gen };
    let s : State := s.wr CLK_EN_en 0 0;
    s),
    by unfold Reports; decide +kernel⟩
theorem wit_Slate_pairPrepareTimeout : ∃ (j : TakeJob) (d : Desc) (s : State), s.running = true ∧ s.slt.jobs = [j] ∧ j.phase = 2
    ∧ j.prepT + s.rd SLT_PAIR_timeout * usT ≤ s.ts ∧ j.desc = some d ∧ j.told = false ∧ j.slate < 8 :=
  ⟨({ slate := 3, handle := 3, phase := 2, desc := some { ring := 7, idx := 3, w := 0 } } : TakeJob), ({ ring := 7, idx := 3, gen := 0, w := 0 } : Desc),
    (let j : TakeJob := { slate := 3, handle := 3, phase := 2, desc := some { ring := 7, idx := 3, w := 0 } };
    let s : State := up;
    let s : State := { s with slt := { s.slt with jobs := [j] } };
    s),
    by decide +kernel⟩
theorem wit_Firmware_watchdogStrike : ∃ (n : Fin 4) (s : State), s.running = true ∧ s.fwRunning n = true :=
  ⟨(1 : Fin 4),
    up,
    by decide +kernel⟩
theorem wit_Firmware_watchdogExpire : ∃ (n : Fin 4) (s : State), s.running = true ∧ s.fwRunning n = true ∧ mget s.fw.struck n 0
    + s.wdLimit n * msT ≤ s.ts ∧ ((mget s.fw.times n []).filter fun t => decide (s.ts < t + secT)).length < 4 :=
  ⟨(1 : Fin 4),
    up,
    by decide +kernel⟩
theorem wit_Firmware_fwException : ∃ (n : Fin 4) (ecc : Bool) (s : State), s.running = true ∧ s.fwRunning n = true ∧ ((mget
    s.fw.times n []).filter fun t => decide (s.ts < t + secT)).length < 4 :=
  ⟨(1 : Fin 4), (true : Bool),
    up,
    by decide +kernel⟩
theorem wit_Firmware_fwHalt : ∃ (n : Fin 4) (ecc : Bool) (s : State), s.running = true ∧ s.fwRunning n = true ∧ 4 ≤ ((mget
    s.fw.times n []).filter fun t => decide (s.ts < t + secT)).length :=
  ⟨(1 : Fin 4), (true : Bool),
    (let s : State := up;
    let s : State := { s with fw := { s.fw with times := [(1, [s.ts, s.ts, s.ts, s.ts])] } };
    s),
    by decide +kernel⟩
theorem wit_Firmware_fcstLoad : ∃ (d : Desc) (s : State), s.running = true ∧ s.fcs.load = none ∧ s.clocked 12 = true ∧ InTurn s
    (fun d => decide (dOp d.w = 0x31)) d ∧ dB d.w 8 1 ≤ 47 ∧ s.slotBusy (dB d.w 8 1) = false :=
  ⟨({ ring := 512, idx := 3, gen := 0, w := 0x31 * 2 ^ 0 + 5 * 2 ^ 64 + 12992 * 2 ^ 96 } : Desc),
    (let d : Desc := { ring := 512, idx := 3, gen := 0, w := 0x31 * 2 ^ 0 + 5 * 2 ^ 64 + 12992 * 2 ^ 96 };
    let s : State := up;
    let s : State := { s with fcs := { s.fcs with load := none } };
    let s : State := { s with hif := { s.hif with units := [d] } };
    s),
    by unfold InTurn; decide +kernel⟩
theorem wit_Firmware_fcstLoadBusy : ∃ (d : Desc) (s : State), s.running = true ∧ s.fcs.load = none ∧ s.clocked 12 = true ∧
    InTurn s (fun d => decide (dOp d.w = 0x31)) d ∧ Reports s d ∧ dB d.w 8 1 ≤ 47 ∧ s.slotBusy (dB d.w 8 1) = true :=
  ⟨({ ring := 512, idx := 3, gen := 0, w := 0x31 * 2 ^ 0 } : Desc),
    (let d : Desc := { ring := 512, idx := 3, gen := 0, w := 0x31 * 2 ^ 0 };
    let s : State := up;
    let s : State := { s with fcs := { s.fcs with load := none } };
    let s : State := { s with hif := { s.hif with units := [d] } };
    let s : State := s.setRing d.ring { s.ring d.ring with st := 2, gen := d.gen };
    s),
    by unfold InTurn Reports; decide +kernel⟩
theorem wit_Firmware_fcstLoadFailed : ∃ (img : List Byte) (peer : Fin 8) (k : Fin 48) (slot c : Nat) (d : Desc) (s : State),
    s.running = true ∧ s.fwRunning 0 = true ∧ s.clocked 12 = true ∧ s.fcs.load = some (slot, d) ∧ slot < 48 ∧ img.length = 12992 ∧
    fitCheck img (dB d.w 12 4) = c + 1 ∧ Reports s d :=
  ⟨(List.replicate 12992 0 : List Byte), (0 : Fin 8), (0 : Fin 48), (3 : Nat), (3 : Nat), ({ ring := 512, idx := 3, gen := 0, w := 0 } : Desc),
    (let slot : Nat := 3;
    let d : Desc := { ring := 512, idx := 3, gen := 0, w := 0 };
    let s : State := up;
    let s : State := { s with fcs := { s.fcs with load := some (slot, d) } };
    let s : State := s.setRing d.ring { s.ring d.ring with st := 2, gen := d.gen };
    s),
    by unfold Reports; decide +kernel⟩
theorem wit_Firmware_fcstLoadUnread : ∃ (img : List Byte) (peer : Fin 8) (k : Fin 48) (slot : Nat) (d : Desc) (s : State),
    s.running = true ∧ s.fwRunning 0 = true ∧ s.clocked 12 = true ∧ s.fcs.load = some (slot, d) ∧ slot < 48 ∧ Reports s d :=
  ⟨([] : List Byte), (0 : Fin 8), (0 : Fin 48), (3 : Nat), ({ ring := 512, idx := 3, gen := 0, w := 0 } : Desc),
    (let slot : Nat := 3;
    let d : Desc := { ring := 512, idx := 3, gen := 0, w := 0 };
    let s : State := up;
    let s : State := { s with fcs := { s.fcs with load := some (slot, d) } };
    let s : State := s.setRing d.ring { s.ring d.ring with st := 2, gen := d.gen };
    s),
    by unfold Reports; decide +kernel⟩
theorem wit_Firmware_slot0Load : ∃ (s : State), s.running = true ∧ s.fwRunning 0 = true ∧ s.clocked 12 = true ∧ s.rd
    FCS_SLOT_state 0 = 0 ∧ s.rd MEM_STAT_clearing % 256 = 0 :=
  ⟨(let s : State := up;
    let s : State := s.wr FCS_SLOT_state 0 (0);
    s),
    by decide +kernel⟩
theorem wit_Observe_traceGroupWrite : ∃ (g : List Nat) (q : List (List Nat)) (s : State), s.running = true ∧ s.tracing = true ∧
    s.trc.timeDue = false ∧ s.trc.drops.any = false ∧ s.trc.staged = g :: q ∧ s.trcFits g.length = true ∧ s.trc.cmdQ = [] ∧ (s.rd
    TRC_WRITTEN_written) % s.trcCap + 16 * g.length ≤ s.trcCap ∧ s.rd TRC_WRITTEN_written + 16 * g.length < 2 ^ 64 :=
  ⟨([] : List Nat), ([] : List (List Nat)),
    (let g : List Nat := [];
    let q : List (List Nat) := [];
    let s : State := up;
    let s : State := s.wr TRC_STAT_state 0 1;
    let s : State := { s with trc := { s.trc with timeDue := false } };
    let s : State := { s with trc := { s.trc with drops := { s.trc.drops with any := false } } };
    let s : State := { s with trc := { s.trc with staged := g :: q } };
    let s : State := { s with trc := { s.trc with cmdQ := [] } };
    s),
    by decide +kernel⟩
theorem wit_Observe_traceGroupDrop : ∃ (g : List Nat) (q : List (List Nat)) (s : State), s.running = true ∧ s.tracing = true ∧
    s.trc.timeDue = false ∧ s.trc.drops.any = false ∧ s.trc.staged = g :: q ∧ s.trcFits g.length = false ∧ s.trcFresh = true ∧
    groupKind g = .fcst ∧ s.trc.cmdQ = [] :=
  ⟨([2] : List Nat), ([] : List (List Nat)),
    (let g : List Nat := [2];
    let q : List (List Nat) := [];
    let s : State := up;
    let s : State := s.wr TRC_STAT_state 0 1;
    let s : State := { s with trc := { s.trc with timeDue := false } };
    let s : State := { s with trc := { s.trc with drops := { s.trc.drops with any := false } } };
    let s : State := { s with trc := { s.trc with staged := g :: q } };
    let s : State := { s with trc := { s.trc with cmdQ := [] } };
    let s : State := { s with trc := { s.trc with rereadT := some s.ts } };
    s),
    by decide +kernel⟩
theorem wit_Observe_traceConsumedReread : ∃ (v : BitVec 64) (s : State), s.running = true ∧ s.tracing = true ∧ s.trcFits
    s.trcNextLen = false ∧ s.trcFresh = false ∧ s.trc.consumed ≤ v.toNat ∧ v.toNat ≤ s.rd TRC_WRITTEN_written :=
  ⟨(0 : BitVec 64),
    (let s : State := up;
    let s : State := s.wr TRC_STAT_state 0 1;
    let s : State := { s with trc := { s.trc with staged := [[1]] } };
    s),
    by decide +kernel⟩
theorem wit_Observe_traceConsumedWrong : ∃ (v : BitVec 64) (s : State), s.running = true ∧ s.tracing = true ∧ s.trcFits
    s.trcNextLen = false ∧ s.trcFresh = false ∧ (v.toNat < s.trc.consumed ∨ s.rd TRC_WRITTEN_written < v.toNat) ∧ mget s.recd.last
    (evCode 18 5 * 2 ^ 16 + 0) 0 ≠ s.ts / msT + 1 :=
  ⟨(5 : BitVec 64),
    (let s : State := up;
    let s : State := s.wr TRC_STAT_state 0 1;
    let s : State := { s with trc := { s.trc with staged := [[1]] } };
    s),
    by decide +kernel⟩
theorem wit_Observe_traceHeaderUpdate : ∃ (s : State), s.running = true ∧ s.tracing = true ∧ s.trc.dirty = true :=
  ⟨(let s : State := up;
    let s : State := s.wr TRC_STAT_state 0 1;
    let s : State := { s with trc := { s.trc with dirty := true } };
    s),
    by decide +kernel⟩
theorem wit_Observe_traceTimeGroup : ∃ (s : State), s.running = true ∧ s.tracing = true ∧ s.ts % 2 ^ 40 = 0 ∧ s.trc.drops.any =
    false :=
  ⟨(let s : State := up;
    let s : State := s.wr TRC_STAT_state 0 1;
    s),
    by decide +kernel⟩
theorem wit_Observe_traceTimeAfterLoss : ∃ (s : State), s.running = true ∧ s.trc.drops.any = true :=
  ⟨(let s : State := up;
    let s : State := { s with trc := { s.trc with drops := { s.trc.drops with ts := 1, any := true } } };
    s),
    by decide +kernel⟩
theorem wit_Observe_traceSample : ∃ (s : State), s.running = true ∧ s.sampleDue = true ∧ s.rd TRC_SAMP_valid = 0 ∧ s.stagedRecs
    ≤ 247 :=
  ⟨(let s : State := up;
    let s : State := s.wr TRC_SAMP_valid 0 (0);
    let s : State := s.wr TRC_STAT_state 0 1;
    let s : State := s.wr TRC_STAT_kinds 0 8;
    let s : State := { s with sns := { s.sns with ticked := s.ts / usT } };
    let s : State := { s with trc := { s.trc with period := 10 } };
    s),
    by decide +kernel⟩
theorem wit_Observe_traceSample_2 : ∃ (s : State), s.running = true ∧ s.sampleDue = false :=
  ⟨up,
    by decide +kernel⟩
theorem wit_Observe_traceStart : ∃ (d : Desc) (s : State), s.running = true ∧ InTurn s (isTraceCtl 1) d ∧ Reports s d ∧
    s.regionOk (dB d.w 16 8) (dB d.w 24 8) = true ∧ s.tracing = false :=
  ⟨({ ring := 512, idx := 3, gen := 0, w := 0x40 * 2 ^ 0 + 1 * 2 ^ 64 + 65536 * 2 ^ 192 } : Desc),
    (let d : Desc := { ring := 512, idx := 3, gen := 0, w := 0x40 * 2 ^ 0 + 1 * 2 ^ 64 + 65536 * 2 ^ 192 };
    let s : State := up;
    let s : State := { s with hif := { s.hif with units := [d] } };
    let s : State := s.setRing d.ring { s.ring d.ring with st := 2, gen := d.gen };
    let s : State := s.wr TRC_STAT_state 0 0;
    let s : State := s.wr TRC_WIN_SIZE_size 0 65536;
    s),
    by unfold InTurn Reports; decide +kernel⟩
theorem wit_Observe_traceStartRefused : ∃ (d : Desc) (s : State), s.running = true ∧ InTurn s (isTraceCtl 1) d ∧ Reports s d ∧
    s.regionOk (dB d.w 16 8) (dB d.w 24 8) = false :=
  ⟨({ ring := 512, idx := 3, gen := 0, w := 0x40 * 2 ^ 0 + 1 * 2 ^ 64 } : Desc),
    (let d : Desc := { ring := 512, idx := 3, gen := 0, w := 0x40 * 2 ^ 0 + 1 * 2 ^ 64 };
    let s : State := up;
    let s : State := { s with hif := { s.hif with units := [d] } };
    let s : State := s.setRing d.ring { s.ring d.ring with st := 2, gen := d.gen };
    s),
    by unfold InTurn Reports; decide +kernel⟩
theorem wit_Observe_traceStop : ∃ (d : Desc) (s : State), s.running = true ∧ InTurn s (isTraceCtl 0) d ∧ Reports s d ∧ s.tracing
    = true ∧ s.trc.timeDue = false ∧ s.trc.drops.any = false ∧ s.trc.staged = [] :=
  ⟨({ ring := 512, idx := 3, gen := 0, w := 0x40 * 2 ^ 0 + 0 * 2 ^ 64 } : Desc),
    (let d : Desc := { ring := 512, idx := 3, gen := 0, w := 0x40 * 2 ^ 0 + 0 * 2 ^ 64 };
    let s : State := up;
    let s : State := { s with hif := { s.hif with units := [d] } };
    let s : State := s.setRing d.ring { s.ring d.ring with st := 2, gen := d.gen };
    let s : State := s.wr TRC_STAT_state 0 1;
    let s : State := { s with trc := { s.trc with timeDue := false } };
    let s : State := { s with trc := { s.trc with drops := { s.trc.drops with any := false } } };
    let s : State := { s with trc := { s.trc with staged := [] } };
    s),
    by unfold InTurn Reports; decide +kernel⟩
theorem wit_Observe_traceStopIdle : ∃ (d : Desc) (s : State), s.running = true ∧ InTurn s (isTraceCtl 0) d ∧ Reports s d ∧
    s.tracing = false :=
  ⟨({ ring := 512, idx := 3, gen := 0, w := 0x40 * 2 ^ 0 + 0 * 2 ^ 64 } : Desc),
    (let d : Desc := { ring := 512, idx := 3, gen := 0, w := 0x40 * 2 ^ 0 + 0 * 2 ^ 64 };
    let s : State := up;
    let s : State := { s with hif := { s.hif with units := [d] } };
    let s : State := s.setRing d.ring { s.ring d.ring with st := 2, gen := d.gen };
    let s : State := s.wr TRC_STAT_state 0 0;
    s),
    by unfold InTurn Reports; decide +kernel⟩
theorem wit_Observe_traceFlush : ∃ (d : Desc) (s : State), s.running = true ∧ InTurn s (isTraceCtl 2) d ∧ Reports s d ∧
    s.tracing = true ∧ s.trc.timeDue = false ∧ s.trc.drops.any = false ∧ s.trc.staged = [] :=
  ⟨({ ring := 512, idx := 3, gen := 0, w := 0x40 * 2 ^ 0 + 2 * 2 ^ 64 } : Desc),
    (let d : Desc := { ring := 512, idx := 3, gen := 0, w := 0x40 * 2 ^ 0 + 2 * 2 ^ 64 };
    let s : State := up;
    let s : State := { s with hif := { s.hif with units := [d] } };
    let s : State := s.setRing d.ring { s.ring d.ring with st := 2, gen := d.gen };
    let s : State := s.wr TRC_STAT_state 0 1;
    let s : State := { s with trc := { s.trc with timeDue := false } };
    let s : State := { s with trc := { s.trc with drops := { s.trc.drops with any := false } } };
    let s : State := { s with trc := { s.trc with staged := [] } };
    s),
    by unfold InTurn Reports; decide +kernel⟩
theorem wit_Observe_cntDump : ∃ (d : Desc) (s : State), s.running = true ∧ InTurn s (isCntCtl 0) d ∧ Reports s d ∧ dB d.w 9 1 =
    1 ∧ 13616 ≤ dB d.w 12 4 :=
  ⟨({ ring := 512, idx := 3, gen := 0, w := 0x41 * 2 ^ 0 + 0 * 2 ^ 64 + 1 * 2 ^ 72 + 13616 * 2 ^ 96 } : Desc),
    (let d : Desc := { ring := 512, idx := 3, gen := 0, w := 0x41 * 2 ^ 0 + 0 * 2 ^ 64 + 1 * 2 ^ 72 + 13616 * 2 ^ 96 };
    let s : State := up;
    let s : State := { s with hif := { s.hif with units := [d] } };
    let s : State := s.setRing d.ring { s.ring d.ring with st := 2, gen := d.gen };
    s),
    by unfold InTurn Reports; decide +kernel⟩
theorem wit_Observe_cntDumpShort : ∃ (d : Desc) (s : State), s.running = true ∧ InTurn s (isCntCtl 0) d ∧ Reports s d ∧ dB d.w 9
    1 = 1 ∧ dB d.w 12 4 < 13616 :=
  ⟨({ ring := 512, idx := 3, gen := 0, w := 0x41 * 2 ^ 0 + 0 * 2 ^ 64 + 1 * 2 ^ 72 } : Desc),
    (let d : Desc := { ring := 512, idx := 3, gen := 0, w := 0x41 * 2 ^ 0 + 0 * 2 ^ 64 + 1 * 2 ^ 72 };
    let s : State := up;
    let s : State := { s with hif := { s.hif with units := [d] } };
    let s : State := s.setRing d.ring { s.ring d.ring with st := 2, gen := d.gen };
    s),
    by unfold InTurn Reports; decide +kernel⟩
theorem wit_Observe_cntZero : ∃ (d : Desc) (s : State), s.running = true ∧ InTurn s (isCntCtl 1) d ∧ dB d.w 9 1 = 0 ∧ d.ring <
    512 :=
  ⟨({ ring := 7, idx := 3, gen := 0, w := 0x41 * 2 ^ 0 + 1 * 2 ^ 64 + 0 * 2 ^ 72 } : Desc),
    (let d : Desc := { ring := 7, idx := 3, gen := 0, w := 0x41 * 2 ^ 0 + 1 * 2 ^ 64 + 0 * 2 ^ 72 };
    let s : State := up;
    let s : State := { s with hif := { s.hif with units := [d] } };
    s),
    by unfold InTurn; decide +kernel⟩
theorem wit_Observe_stepEnter : ∃ (d : Desc) (s : State), s.running = true ∧ InTurn s (isStep 1) d ∧ Reports s d ∧ dB d.w 8 2 <
    320 ∧ s.stepping (dB d.w 8 2) = false :=
  ⟨({ ring := 512, idx := 3, gen := 0, w := 0x42 * 2 ^ 0 + 1 * 2 ^ 80 } : Desc),
    (let d : Desc := { ring := 512, idx := 3, gen := 0, w := 0x42 * 2 ^ 0 + 1 * 2 ^ 80 };
    let s : State := up;
    let s : State := { s with hif := { s.hif with units := [d] } };
    let s : State := s.setRing d.ring { s.ring d.ring with st := 2, gen := d.gen };
    let s : State := s.wr CHK_STEP_mode (dB d.w 8 2) 0;
    s),
    by unfold InTurn Reports; decide +kernel⟩
theorem wit_Observe_stepEnterAgain : ∃ (d : Desc) (s : State), s.running = true ∧ InTurn s (isStep 1) d ∧ Reports s d ∧
    s.stepping (dB d.w 8 2) = true :=
  ⟨({ ring := 512, idx := 3, gen := 0, w := 0x42 * 2 ^ 0 + 1 * 2 ^ 80 } : Desc),
    (let d : Desc := { ring := 512, idx := 3, gen := 0, w := 0x42 * 2 ^ 0 + 1 * 2 ^ 80 };
    let s : State := up;
    let s : State := { s with hif := { s.hif with units := [d] } };
    let s : State := s.setRing d.ring { s.ring d.ring with st := 2, gen := d.gen };
    let s : State := s.wr CHK_STEP_mode (dB d.w 8 2) 1;
    s),
    by unfold InTurn Reports; decide +kernel⟩
theorem wit_Observe_stepAdd : ∃ (d : Desc) (s : State), s.running = true ∧ InTurn s (isStep 2) d ∧ Reports s d ∧ dB d.w 8 2 <
    320 ∧ s.stepping (dB d.w 8 2) = true :=
  ⟨({ ring := 512, idx := 3, gen := 0, w := 0x42 * 2 ^ 0 + 2 * 2 ^ 80 } : Desc),
    (let d : Desc := { ring := 512, idx := 3, gen := 0, w := 0x42 * 2 ^ 0 + 2 * 2 ^ 80 };
    let s : State := up;
    let s : State := { s with hif := { s.hif with units := [d] } };
    let s : State := s.setRing d.ring { s.ring d.ring with st := 2, gen := d.gen };
    let s : State := s.wr CHK_STEP_mode (dB d.w 8 2) 1;
    s),
    by unfold InTurn Reports; decide +kernel⟩
theorem wit_Observe_stepLeave : ∃ (d : Desc) (s : State), s.running = true ∧ InTurn s (isStep 0) d ∧ Reports s d ∧ dB d.w 8 2 <
    320 :=
  ⟨({ ring := 512, idx := 3, gen := 0, w := 0x42 * 2 ^ 0 + 0 * 2 ^ 80 } : Desc),
    (let d : Desc := { ring := 512, idx := 3, gen := 0, w := 0x42 * 2 ^ 0 + 0 * 2 ^ 80 };
    let s : State := up;
    let s : State := { s with hif := { s.hif with units := [d] } };
    let s : State := s.setRing d.ring { s.ring d.ring with st := 2, gen := d.gen };
    let s : State := s.setLane (dB d.w 8 2) { s.lane (dB d.w 8 2) with req := none };
    s),
    by unfold InTurn Reports; decide +kernel⟩
theorem wit_Observe_wfgStart : ∃ (v : BitVec 32) (s : State), s.running = true ∧ bit v.toNat 0 = true ∧ s.unitAnswers 19 = true
    ∧ s.fwRunning 0 = true ∧ s.rd CNT_WFG_busy = 0 :=
  ⟨(1 : BitVec 32),
    (let s : State := up;
    let s : State := s.wr CNT_WFG_busy 0 (0);
    s),
    by decide +kernel⟩
theorem wit_Observe_wfgAutoTrigger : ∃ (s : State), s.running = true ∧ s.rd CNT_WFG_CFG_auto ≠ 0 ∧ s.fwRunning 0 = true ∧ s.rd
    CNT_WFG_busy = 0 ∧ s.wfg.lastAuto = none ∧ s.tly.objs.any (fun e => decide (e.2.state = 1) && e.2.admitted && decide (e.2.tAdm +
    s.rd CNT_WFG_CFG_auto * usT < s.ts)) = true :=
  ⟨(let s : State := up;
    let s : State := s.wr CNT_WFG_CFG_auto 0 (1);
    let s : State := s.wr CNT_WFG_busy 0 (0);
    let s : State := { s with wfg := { s.wfg with lastAuto := none } };
    let s : State := s.setObj 3 { s.obj 3 with state := 1, admitted := true };
    s),
    by decide +kernel⟩
theorem wit_Observe_wfgComplete : ∃ (s : State), s.running = true ∧ s.rd CNT_WFG_busy = 1 ∧ s.fwRunning 0 = true ∧ s.tracing =
    false :=
  ⟨(let s : State := up;
    let s : State := s.wr CNT_WFG_busy 0 (1);
    let s : State := s.wr TRC_STAT_state 0 0;
    s),
    by decide +kernel⟩
theorem wit_Fan_fanPwmPeriod : ∃ (n : Fin 4) (s : State), s.running = true ∧ s.clocked 20 = true ∧ s.ts % 32000 = 0 ∧ (s.fan
    n).next = some 3 ∧ s.rd FAN_OVR_valid n = 0 ∧ s.rd THM_STAT_shut = 0 ∧ s.rd THM_STAT_band = 0 :=
  ⟨(1 : Fin 4),
    (let n : Fin 4 := 1;
    let s : State := up;
    let s : State := s.setFan n { s.fan n with next := some 3 };
    let s : State := s.wr FAN_OVR_valid n (0);
    let s : State := s.wr THM_STAT_shut 0 (0);
    let s : State := s.wr THM_STAT_band 0 (0);
    s),
    by decide +kernel⟩
theorem wit_Fan_fanPwmShutdown : ∃ (n : Fin 4) (s : State), s.running = true ∧ s.clocked 20 = true ∧ s.ts % 32000 = 0 ∧ (s.fan
    n).next = none ∧ s.rd FAN_STAT_state n ≠ 0 ∧ s.rd THM_STAT_shut = 1 :=
  ⟨(1 : Fin 4),
    (let n : Fin 4 := 1;
    let s : State := up;
    let s : State := s.setFan n { s.fan n with next := none };
    let s : State := s.wr FAN_STAT_state n (1);
    let s : State := s.wr THM_STAT_shut 0 (1);
    s),
    by decide +kernel⟩
theorem wit_Fan_tachEdgeCounts : ∃ (n : Fin 4) (m : Nat) (s : State), s.running = true ∧ s.clocked 20 = true ∧ (s.fan n).mark =
    some m ∧ (s.fan n).edges < s.rd FAN_CH_ppr n :=
  ⟨(1 : Fin 4), (3 : Nat),
    (let n : Fin 4 := 1;
    let m : Nat := 3;
    let s : State := up;
    let s : State := s.setFan n { s.fan n with mark := some m };
    s),
    by decide +kernel⟩
theorem wit_Fan_tachEdgeMeasures : ∃ (n : Fin 4) (m : Nat) (s : State), s.running = true ∧ s.clocked 20 = true ∧ (s.fan n).mark
    = some m ∧ (s.fan n).edges = s.rd FAN_CH_ppr n ∧ m + 8 ≤ s.ts :=
  ⟨(1 : Fin 4), (3 : Nat),
    (let n : Fin 4 := 1;
    let m : Nat := 3;
    let s : State := up;
    let s : State := s.setFan n { s.fan n with mark := some m };
    let s : State := s.setFan n { s.fan n with edges := s.rd FAN_CH_ppr n };
    s),
    by decide +kernel⟩
theorem wit_Fan_tachTimeout : ∃ (n : Fin 4) (s : State), s.running = true ∧ s.clocked 20 = true ∧ (s.fan n).lastEdge + s.rd
    FAN_CFG_tach_to * 10 * msT ≤ s.ts ∧ s.fanEff n = 3 :=
  ⟨(1 : Fin 4),
    (let s : State := up;
    let s : State := s.wr FAN_STAT_state 1 3;
    s),
    by decide +kernel⟩
theorem wit_Fan_fanSpinupGood : ∃ (n : Fin 4) (s : State), s.running = true ∧ s.clocked 20 = true ∧ s.rd FAN_STAT_state n = 1 ∧
    (s.fan n).next = none ∧ (s.fan n).since + s.fanSpinT ≤ s.ts ∧ s.rd FAN_CH_min_rpm n ≤ s.rd FAN_STAT_rpm n :=
  ⟨(1 : Fin 4),
    (let n : Fin 4 := 1;
    let s : State := up;
    let s : State := s.wr FAN_STAT_state n (1);
    let s : State := s.setFan n { s.fan n with next := none };
    let s : State := s.wr FAN_CH_min_rpm n (0);
    s),
    by decide +kernel⟩
theorem wit_Fan_fanSpinupFailed : ∃ (n : Fin 4) (s : State), s.running = true ∧ s.clocked 20 = true ∧ s.rd FAN_STAT_state n = 1
    ∧ (s.fan n).next = none ∧ (s.fan n).since + s.fanSpinT ≤ s.ts ∧ s.rd FAN_STAT_rpm n < s.rd FAN_CH_min_rpm n ∧ (s.fan n).tries <
    s.rd FAN_CFG_retries :=
  ⟨(1 : Fin 4),
    (let n : Fin 4 := 1;
    let s : State := up;
    let s : State := s.wr FAN_STAT_state n (1);
    let s : State := s.setFan n { s.fan n with next := none };
    let s : State := s.wr FAN_STAT_rpm n (0);
    s),
    by decide +kernel⟩
theorem wit_Fan_fanSpinupStalled : ∃ (n : Fin 4) (s : State), s.running = true ∧ s.clocked 20 = true ∧ s.rd FAN_STAT_state n = 1
    ∧ (s.fan n).next = none ∧ (s.fan n).since + s.fanSpinT ≤ s.ts ∧ s.rd FAN_STAT_rpm n < s.rd FAN_CH_min_rpm n ∧ s.rd
    FAN_CFG_retries ≤ (s.fan n).tries :=
  ⟨(1 : Fin 4),
    (let n : Fin 4 := 1;
    let s : State := up;
    let s : State := s.wr FAN_STAT_state n (1);
    let s : State := s.setFan n { s.fan n with next := none };
    let s : State := s.wr FAN_STAT_rpm n (0);
    let s : State := s.wr FAN_CFG_retries 0 (0);
    s),
    by decide +kernel⟩
theorem wit_Fan_fanRestEnd : ∃ (n : Fin 4) (s : State), s.running = true ∧ s.clocked 20 = true ∧ s.rd FAN_STAT_state n = 2 ∧
    (s.fan n).next = none ∧ (s.fan n).since + s.fanSpinT ≤ s.ts :=
  ⟨(1 : Fin 4),
    (let n : Fin 4 := 1;
    let s : State := up;
    let s : State := s.wr FAN_STAT_state n (2);
    let s : State := s.setFan n { s.fan n with next := none };
    s),
    by decide +kernel⟩
theorem wit_Salgor_mgtForward : ∃ (link : Fin 64) (m : List Byte) (k : Nat) (s : State), s.running = true ∧ s.clocked 21 = true
    ∧ mgtWhole m = true ∧ mDomain m = s.rd MGT_IDENT_domain ∧ mDst m ≠ s.mgtMe ∧ mDst m ≠ mgtAll ∧ mType m ≠ 8 ∧ mType m ≠ 9 ∧
    s.mgtRoute (mDst m) = some k ∧ 1 < mTtl m :=
  ⟨(1 : Fin 64), (smsg 3 1 9 0 5 0 (leBytes 16 0) : List Byte), (4 : Nat),
    (let s : State := up;
    let s : State := mg s;
    let s : State := s.wr MGT_ROUTE 9 0x84;
    s),
    by decide +kernel⟩
theorem wit_Salgor_mgtForwardTtl : ∃ (link : Fin 64) (m : List Byte) (k : Nat) (s : State), s.running = true ∧ s.clocked 21 =
    true ∧ mgtWhole m = true ∧ mDomain m = s.rd MGT_IDENT_domain ∧ mDst m ≠ s.mgtMe ∧ mDst m ≠ mgtAll ∧ mType m ≠ 8 ∧ mType m ≠ 9 ∧
    s.mgtRoute (mDst m) = some k ∧ mTtl m ≤ 1 :=
  ⟨(1 : Fin 64), (smsg 3 1 9 0 1 0 (leBytes 16 0) : List Byte), (4 : Nat),
    (let s : State := up;
    let s : State := mg s;
    let s : State := s.wr MGT_ROUTE 9 0x84;
    s),
    by decide +kernel⟩
theorem wit_Salgor_mgtBadCrc : ∃ (link : Fin 64) (m : List Byte) (s : State), s.running = true ∧ s.clocked 21 = true ∧ mgtWhole
    m = false ∧ mType m = 2 :=
  ⟨(1 : Fin 64), (leBytes 36 2 : List Byte),
    up,
    by decide +kernel⟩
theorem wit_Salgor_versionRefused : ∃ (link : Fin 64) (m : List Byte) (s : State), Taken s 1 m ∧ fieldAt m 18 1 = 0 ∧ s.mgtRole
    = 1 ∧ fieldAt m 16 1 ≤ 0x10 ∧ 0x10 ≤ fieldAt m 17 1 ∧ fieldAt m 16 1 / 16 ≤ 1 ∧ s.rd MGT_MEMB (mSrc m) = 0 ∧ mSrc m ≠ s.mgtMe :=
  ⟨(1 : Fin 64), (smsg 1 9 5 0 5 0 (leBytes 32 0x2010) : List Byte),
    (let m : List Byte := smsg 1 9 5 0 5 0 (leBytes 32 0x2010);
    let s : State := up;
    let s : State := mg s;
    let s : State := s.wr MGT_STAT_role 0 1;
    let s : State := s.wr MGT_MEMB (mSrc m) (0);
    s),
    by unfold Taken; decide +kernel⟩
theorem wit_Salgor_versionAccepted : ∃ (link : Fin 64) (m : List Byte) (s : State), Taken s 1 m ∧ fieldAt m 18 1 = 1 ∧ s.rd
    MGT_STAT_state = 2 :=
  ⟨(1 : Fin 64), (smsg 1 1 5 0 5 0 (leBytes 32 0x11010) : List Byte),
    (let s : State := up;
    let s : State := mg s;
    let s : State := s.wr MGT_STAT_state 0 (2);
    s),
    by unfold Taken; decide +kernel⟩
theorem wit_Salgor_demand : ∃ (link : Fin 64) (m : List Byte) (s : State), Taken s 2 m ∧ s.mgtRole = 1 ∧ s.isCoord = true ∧
    expandEpoch s.mgtEpoch (mEpoch m) = (s.mgtEpoch : Int) + 2 ∧ (s.mgtMem (mSrc m)).joined = true ∧ s.cutPassed = false ∧ s.mgt.cut
    = false ∧ s.mgt.alloc < s.mgtEpoch + 2 ∧ fieldAt m 20 4 ≤ fieldAt m 16 4 :=
  ⟨(1 : Fin 64), (smsg 2 9 5 2 5 0 (leBytes 16 0) : List Byte),
    (let m : List Byte := smsg 2 9 5 2 5 0 (leBytes 16 0);
    let s : State := up;
    let s : State := mg s;
    let s : State := s.wr MGT_STAT_role 0 1;
    let s : State := s.setMem (mSrc m) { s.mgtMem (mSrc m) with joined := true };
    let s : State := s.wr MGT_COORD_c0 0 5;
    let s : State := s.wr MGT_EPOCH 0 0;
    let s : State := { s with mgt := { s.mgt with ofs := -256 * (2 ^ 40 * 5 ^ 8) } };
    s),
    by unfold Taken; decide +kernel⟩
theorem wit_Salgor_demandLate : ∃ (link : Fin 64) (m : List Byte) (s : State), Taken s 2 m ∧ s.isCoord = true ∧ expandEpoch
    s.mgtEpoch (mEpoch m) ≠ (s.mgtEpoch : Int) + 2 :=
  ⟨(1 : Fin 64), (smsg 2 9 5 7 5 0 (leBytes 16 0) : List Byte),
    (let s : State := up;
    let s : State := mg s;
    let s : State := s.wr MGT_COORD_c0 0 5;
    s),
    by unfold Taken; decide +kernel⟩
theorem wit_Salgor_grant : ∃ (link : Fin 64) (m : List Byte) (s : State), Taken s 3 m ∧ s.rd MGT_STAT_bound = 1 ∧ (expandEpoch
    s.mgtEpoch (mEpoch m) = ((s.mgtEpoch + b2n s.epochDue : Nat) : Int) + 1 ∨ expandEpoch s.mgtEpoch (mEpoch m) = ((s.mgtEpoch + b2n
    s.epochDue : Nat) : Int) + 2) :=
  ⟨(1 : Fin 64), (smsg 3 1 5 2 5 0 (leBytes 16 77) : List Byte),
    (let s : State := up;
    let s : State := mg s;
    let s : State := s.wr MGT_STAT_bound 0 (1);
    s),
    by unfold Taken; decide +kernel⟩
theorem wit_Salgor_grantLate : ∃ (link : Fin 64) (m : List Byte) (s : State), Taken s 3 m ∧ expandEpoch s.mgtEpoch (mEpoch m) ≠
    ((s.mgtEpoch + b2n s.epochDue : Nat) : Int) + 1 ∧ expandEpoch s.mgtEpoch (mEpoch m) ≠ ((s.mgtEpoch + b2n s.epochDue : Nat) :
    Int) + 2 :=
  ⟨(1 : Fin 64), (smsg 3 1 5 7 5 0 (leBytes 16 77) : List Byte),
    (let s : State := up;
    let s : State := mg s;
    s),
    by unfold Taken; decide +kernel⟩
theorem wit_Salgor_heartbeat : ∃ (link : Fin 64) (m : List Byte) (s : State), Taken s 4 m ∧ s.mgtRole = 0 ∧ s.isCoord = false ∧
    s.rd MGT_STAT_state = 4 ∧ mTerm m = s.mgtTerm :=
  ⟨(1 : Fin 64), (smsg 4 1 5 0 5 0 (leBytes 16 0) : List Byte),
    (let s : State := up;
    let s : State := mg s;
    let s : State := s.wr MGT_STAT_role 0 0;
    let s : State := s.wr MGT_STAT_state 0 (4);
    s),
    by unfold Taken; decide +kernel⟩
theorem wit_Salgor_heartbeatTerm : ∃ (link : Fin 64) (m : List Byte) (s : State), Taken s 4 m ∧ s.mgtRole = 0 ∧ s.isCoord =
    false ∧ laterSer (mTerm m) s.mgtTerm 16 = true :=
  ⟨(1 : Fin 64), (smsg 4 1 5 0 5 3 (leBytes 16 0) : List Byte),
    (let s : State := up;
    let s : State := mg s;
    let s : State := s.wr MGT_STAT_role 0 0;
    s),
    by unfold Taken; decide +kernel⟩
theorem wit_Salgor_leave : ∃ (link : Fin 64) (m : List Byte) (s : State), Taken s 5 m ∧ s.mgtRole = 0 ∧ s.isCoord = false ∧
    fieldAt m 16 1 ≠ 0 ∧ s.isC (mSrc m) = true ∧ s.rd MGT_STAT_bound = 1 :=
  ⟨(1 : Fin 64), (smsg 5 1 5 0 5 0 (leBytes 8 2) : List Byte),
    (let s : State := up;
    let s : State := mg s;
    let s : State := s.wr MGT_STAT_role 0 0;
    let s : State := s.wr MGT_STAT_bound 0 (1);
    s),
    by unfold Taken; decide +kernel⟩
theorem wit_Salgor_csync : ∃ (link : Fin 64) (m : List Byte) (e : Nat) (s : State), Taken s 6 m ∧ s.mgtRole = 2 ∧ mSrc m =
    s.mgtPeer ∧ s.mgtPeer ≠ s.mgtMe ∧ fieldAt m 16 1 = 0 ∧ fieldAt m 17 1 < 16 ∧ fieldAt m 18 2 = 1 ∧ fieldAt m 20 4 ≠ 0 ∧
    (expandEpoch s.mgtEpoch (mEpoch m)).toNat = e :=
  ⟨(1 : Fin 64), (smsg 6 1 5 0 5 0 (leBytes 1032 0x400010000) : List Byte), (0 : Nat),
    (let s : State := up;
    let s : State := mg s;
    let s : State := s.wr MGT_STAT_role 0 2;
    let s : State := s.wr MGT_COORD_c1 0 5;
    s),
    by unfold Taken; decide +kernel⟩
theorem wit_Salgor_csyncAck : ∃ (link : Fin 64) (m : List Byte) (s : State), Taken s 7 m ∧ s.mgtRole = 3 ∧ mSrc m = s.mgtPeer ∧
    expandEpoch s.mgtEpoch (mEpoch m) = (s.mgt.sentC : Int) ∧ s.mgt.acks ||| fieldAt m 16 2 = 0xFFFF :=
  ⟨(1 : Fin 64), (smsg 7 1 5 0 5 0 (leBytes 8 0xFFFF) : List Byte),
    (let s : State := up;
    let s : State := mg s;
    let s : State := s.wr MGT_STAT_role 0 3;
    let s : State := s.wr MGT_COORD_c1 0 5;
    s),
    by unfold Taken; decide +kernel⟩
theorem wit_Salgor_clapReq : ∃ (link : Fin 64) (stamp : BitVec 64) (m : List Byte) (s : State), s.running = true ∧ s.mgtOn =
    true ∧ 2 ≤ s.rd MGT_STAT_state ∧ mgtWhole m = true ∧ mType m = 8 ∧ mDomain m = s.rd MGT_IDENT_domain ∧ mVer m / 16 = 1 ∧
    mgtReserved m = false ∧ mfind s.mgt.lastSeq (mSrc m * 256 + 8) = none :=
  ⟨(1 : Fin 64), (0 : BitVec 64), (smsg 8 1 5 0 5 0 (leBytes 8 3) : List Byte),
    (let s : State := up;
    let s : State := s.wr MGT_CTL_en 0 1;
    let s : State := s.wr MGT_STAT_state 0 2;
    let s : State := mg s;
    s),
    by decide +kernel⟩
theorem wit_Salgor_clapRsp : ∃ (link : Fin 64) (stamp : BitVec 64) (m : List Byte) (r : ClapRun) (s : State), s.running = true ∧
    s.clocked 21 = true ∧ mgtWhole m = true ∧ mType m = 9 ∧ mDomain m = s.rd MGT_IDENT_domain ∧ mVer m / 16 = 1 ∧ mgtReserved m =
    false ∧ mfind s.mgt.lastSeq (mSrc m * 256 + 9) = none ∧ s.mgt.run = some r ∧ r.best = none ∧ link.val = s.rd MGT_CLAP_parent ∧
    fieldAt m 16 8 = r.t0 ∧ 0 < r.n :=
  ⟨(0 : Fin 64), (0 : BitVec 64), (smsg 9 1 5 0 5 0 (leBytes 40 0) : List Byte), ({ t0 := 0, n := 3 } : ClapRun),
    (let r : ClapRun := { t0 := 0, n := 3 };
    let s : State := up;
    let s : State := { s with mgt := { s.mgt with run := some r } };
    s),
    by decide +kernel⟩
theorem wit_Salgor_clapRun : ∃ (s : State), s.running = true ∧ s.mgtOn = true ∧ 1 ≤ s.rd MGT_STAT_state ∧ s.rd MGT_CLAP_pvalid =
    1 ∧ s.mgtActive = false ∧ s.mgt.run = none ∧ s.mgt.runT = none :=
  ⟨(let s : State := up;
    let s : State := s.wr MGT_CTL_en 0 1;
    let s : State := s.wr MGT_STAT_state 0 1;
    let s : State := s.wr MGT_CLAP_pvalid 0 (1);
    let s : State := { s with mgt := { s.mgt with run := none } };
    let s : State := { s with mgt := { s.mgt with runT := none } };
    s),
    by decide +kernel⟩
theorem wit_Salgor_clapRunFailed : ∃ (r : ClapRun) (s : State), s.running = true ∧ s.mgt.run = some r ∧ r.t0 + r.n * usT ≤ s.ts
    ∧ r.best = none :=
  ⟨({ t0 := 0, n := 3 } : ClapRun),
    (let r : ClapRun := { t0 := 0, n := 3 };
    let s : State := up;
    let s : State := { s with mgt := { s.mgt with run := some r } };
    s),
    by decide +kernel⟩
theorem wit_Salgor_clapRunEnd : ∃ (r : ClapRun) (b : ClapBest) (s : State), s.running = true ∧ s.mgt.run = some r ∧ r.t0 + r.n *
    usT ≤ s.ts ∧ r.best = some b ∧ s.rd MGT_STAT_state = 3 ∧ s.mgt.prev = none ∧ s.mgt.inbox = [] :=
  ⟨({ t0 := 0, n := 3, best := some { delta := 1, theta := 1, t4 := 5, off := 3, hops := 0, rate := 1 } } : ClapRun), ({ delta := 1, theta := 1, t4 := 5, off := 3, hops := 0, rate := 1 } : ClapBest),
    (let r : ClapRun := { t0 := 0, n := 3, best := some { delta := 1, theta := 1, t4 := 5, off := 3, hops := 0, rate := 1 } };
    let s : State := up;
    let s : State := { s with mgt := { s.mgt with run := some r } };
    let s : State := s.wr MGT_STAT_state 0 (3);
    let s : State := { s with mgt := { s.mgt with prev := none } };
    let s : State := { s with mgt := { s.mgt with inbox := [] } };
    s),
    by decide +kernel⟩
theorem wit_Salgor_epochBoundary : ∃ (v : Nat) (s : State), s.running = true ∧ s.clocked 21 = true ∧ s.rd MGT_CTL_en = 1 ∧ 2 ≤
    s.rd MGT_STAT_state ∧ s.isD = false ∧ s.isCoord = false ∧ s.mgtRole = 0 ∧ s.mgt.next = none ∧ s.mgt.unready = none ∧ s.mgt.join
    = none ∧ s.mgt.started = true ∧ ((s.mgtEpoch : Int) + 1) * epochT ≤ s.domTime ∧ mfind s.mgt.slots (s.mgtEpoch + 1) = some v ∧
    s.mgtEpoch + 1 < 2 ^ 48 :=
  ⟨(5 : Nat),
    (let s : State := up;
    let s : State := mg s;
    let s : State := s.wr MGT_CTL_en 0 (1);
    let s : State := s.wr MGT_STAT_state 0 2;
    let s : State := s.wr MGT_STAT_role 0 0;
    let s : State := { s with mgt := { s.mgt with next := none } };
    let s : State := { s with mgt := { s.mgt with unready := none } };
    let s : State := { s with mgt := { s.mgt with join := none } };
    let s : State := { s with mgt := { s.mgt with started := true } };
    let s : State := { s with mgt := { s.mgt with slots := [(1, 5)] } };
    s),
    by decide +kernel⟩
theorem wit_Salgor_epochMissed : ∃ (s : State), s.running = true ∧ s.clocked 21 = true ∧ s.rd MGT_CTL_en = 1 ∧ 2 ≤ s.rd
    MGT_STAT_state ∧ s.isD = false ∧ s.isCoord = false ∧ s.mgtRole = 0 ∧ s.mgt.next = none ∧ s.mgt.unready = none ∧ s.mgt.join =
    none ∧ s.mgt.started = true ∧ ((s.mgtEpoch : Int) + 1) * epochT ≤ s.domTime ∧ mfind s.mgt.slots (s.mgtEpoch + 1) = none ∧
    s.mgtEpoch + 1 < 2 ^ 48 :=
  ⟨(let s : State := up;
    let s : State := mg s;
    let s : State := s.wr MGT_CTL_en 0 (1);
    let s : State := s.wr MGT_STAT_state 0 2;
    let s : State := s.wr MGT_STAT_role 0 0;
    let s : State := { s with mgt := { s.mgt with next := none } };
    let s : State := { s with mgt := { s.mgt with unready := none } };
    let s : State := { s with mgt := { s.mgt with join := none } };
    let s : State := { s with mgt := { s.mgt with started := true } };
    s),
    by decide +kernel⟩
theorem wit_Salgor_demandSend : ∃ (k0 k1 : Nat) (s : State), s.running = true ∧ s.isD = false ∧ s.mgtFw = true ∧ s.isCoord =
    false ∧ s.mgt.inbox = [] ∧ s.rd MGT_STAT_state = 3 ∧ s.mgt.demE ≠ some s.mgtEpoch ∧ (s.tDem + 2 * (s.mgtMe % 128) : Int) ≤
    s.inEpoch ∧ s.rd MGT_COORD_c0 ≠ mgtAll ∧ s.rd MGT_COORD_c1 ≠ mgtAll ∧ s.mgtRoute (s.rd MGT_COORD_c0) = some k0 ∧ s.mgtRoute
    (s.rd MGT_COORD_c1) = some k1 :=
  ⟨(4 : Nat), (5 : Nat),
    (let s : State := up;
    let s : State := mg s;
    let s : State := s.wr MGT_CTL_en 0 1;
    let s : State := { s with mgt := { s.mgt with inbox := [] } };
    let s : State := s.wr MGT_STAT_state 0 (3);
    let s : State := s.wr MGT_ROUTE 1 0x84;
    let s : State := s.wr MGT_ROUTE 2 0x85;
    s),
    by decide +kernel⟩
theorem wit_Salgor_salgorCutOff : ∃ (s : State), s.running = true ∧ s.mgtFw = true ∧ s.mgtActive = true ∧ s.cutPassed = true ∧
    s.mgt.alloc < s.mgtEpoch + 2 :=
  ⟨(let s : State := { up with ts := 64000000000 };
    let s : State := s.wr MGT_CTL_en 0 1;
    let s : State := s.wr MGT_STAT_role 0 1;
    s),
    by decide +kernel⟩
theorem wit_Salgor_salgorAllocation : ∃ (i : Nat) (x : MgtMem) (s : State), s.running = true ∧ s.pending = [] ∧ s.isD = false ∧
    s.mgt.cut = true ∧ s.mgtRole = 1 ∧ s.mgt.unready = none ∧ s.mgt.mem = [(i, x)] ∧ x.joined = true ∧ x.silent = true ∧ x.join =
    none ∧ s.mgt.wait = [] ∧ s.mgt.inbox = [] :=
  ⟨(9 : Nat), ({ joined := true, silent := true } : MgtMem),
    (let i : Nat := 9;
    let x : MgtMem := { joined := true, silent := true };
    let s : State := up;
    let s : State := s.wr MGT_CTL_en 0 1;
    let s : State := s.wr MGT_STAT_role 0 1;
    let s : State := { s with mgt := { s.mgt with cut := true, unready := none, mem := [(i, x)] } };
    s),
    by decide +kernel⟩
theorem wit_Salgor_csyncSend : ∃ (s : State), s.running = true ∧ s.isD = false ∧ s.mgtFw = true ∧ s.mgtRole = 1 ∧ s.mgt.unready
    = none ∧ s.mgt.inbox = [] ∧ s.mgt.alloc = s.mgtEpoch + 2 ∧ s.mgt.sentC < s.mgtEpoch + 2 ∧ (s.tCut + 50 : Int) ≤ s.inEpoch ∧
    s.mgtPeer ≠ s.mgtMe ∧ s.mgt.memE ≠ 0 ∧ s.mgtEpoch < s.mgt.memE + 1024 :=
  ⟨(let s : State := up;
    let s : State := s.wr MGT_CTL_en 0 1;
    let s : State := s.wr MGT_STAT_role 0 1;
    let s : State := { s with mgt := { s.mgt with unready := none } };
    let s : State := { s with mgt := { s.mgt with inbox := [] } };
    let s : State := { s with mgt := { s.mgt with alloc := s.mgtEpoch + 2 } };
    let s : State := { s with mgt := { s.mgt with memE := 1 } };
    s),
    by decide +kernel⟩
theorem wit_Salgor_grantSend : ∃ (i k : Nat) (x : MgtMem) (s : State), s.running = true ∧ s.isD = false ∧ s.mgtFw = true ∧
    s.mgtRole = 1 ∧ s.mgt.unready = none ∧ s.mgt.inbox = [] ∧ s.mgt.alloc = s.mgtEpoch + 2 ∧ s.mgt.sentC = s.mgtEpoch + 2 ∧
    s.mgt.acks = 0xFFFF ∧ s.mgt.sentG < s.mgtEpoch + 2 ∧ (s.tCut + 50 + s.tAckw : Int) ≤ s.inEpoch ∧ s.mgt.mem = [(i, x)] ∧ x.joined
    = true ∧ x.fresh = false ∧ i ≠ s.mgtMe ∧ i ≠ mgtAll ∧ s.mgtRoute i = some k :=
  ⟨(9 : Nat), (4 : Nat), ({ joined := true, w := 5 } : MgtMem),
    (let i : Nat := 9;
    let x : MgtMem := { joined := true, w := 5 };
    let s : State := up;
    let s : State := s.wr MGT_CTL_en 0 1;
    let s : State := s.wr MGT_STAT_role 0 1;
    let s : State := { s with mgt := { s.mgt with unready := none } };
    let s : State := { s with mgt := { s.mgt with inbox := [] } };
    let s : State := { s with mgt := { s.mgt with alloc := s.mgtEpoch + 2 } };
    let s : State := { s with mgt := { s.mgt with sentC := s.mgtEpoch + 2 } };
    let s : State := { s with mgt := { s.mgt with acks := 0xFFFF } };
    let s : State := { s with mgt := { s.mgt with mem := [(i, x)] } };
    let s : State := s.wr MGT_ROUTE 9 0x84;
    s),
    by decide +kernel⟩
theorem wit_Salgor_orphanTimeout : ∃ (s : State), s.running = true ∧ s.mgtFw = true ∧ s.rd MGT_STAT_state = 3 ∧ s.mgt.hbE +
    s.tOrphan ≤ s.mgtEpoch :=
  ⟨(let s : State := up;
    let s : State := s.wr MGT_CTL_en 0 1;
    let s : State := s.wr MGT_STAT_state 0 (3);
    let s : State := s.wr MGT_EPOCH 0 100;
    s),
    by decide +kernel⟩
theorem wit_Salgor_versionResend : ∃ (s : State), s.running = true ∧ s.isD = false ∧ s.mgtFw = true ∧ (s.rd MGT_STAT_state = 2 ∨
    s.rd MGT_STAT_state = 4) ∧ s.mgt.verT + 16 * msT ≤ s.ts ∧ s.isCoord = false ∧ s.mgt.inbox = [] :=
  ⟨(let s : State := up;
    let s : State := mg s;
    let s : State := s.wr MGT_CTL_en 0 1;
    let s : State := s.wr MGT_STAT_state 0 (2);
    let s : State := { s with mgt := { s.mgt with inbox := [] } };
    let s : State := s.wr MGT_STAT_state 0 2;
    s),
    by decide +kernel⟩
theorem wit_Salgor_coordinatorAlone : ∃ (s : State), s.running = true ∧ s.mgtFw = true ∧ 2 ≤ s.rd MGT_STAT_state ∧ s.mgtRole = 1
    ∧ s.tHbMiss ≤ s.mgt.miss ∧ s.mgt.sole = false :=
  ⟨(let s : State := up;
    let s : State := s.wr MGT_CTL_en 0 1;
    let s : State := s.wr MGT_STAT_state 0 2;
    let s : State := s.wr MGT_STAT_role 0 1;
    let s : State := { s with mgt := { s.mgt with sole := false } };
    let s : State := { s with mgt := { s.mgt with miss := 20 } };
    s),
    by decide +kernel⟩
theorem wit_Salgor_standbyTakeover : ∃ (s : State), s.running = true ∧ s.isD = false ∧ s.mgtFw = true ∧ 2 ≤ s.rd MGT_STAT_state
    ∧ s.mgtRole = 2 ∧ s.mgt.peerE + s.tHbMiss ≤ s.mgtEpoch ∧ s.mgtMe ≠ mgtAll ∧ s.mgt.inbox = [] :=
  ⟨(let s : State := up;
    let s : State := s.wr MGT_CTL_en 0 1;
    let s : State := s.wr MGT_STAT_state 0 2;
    let s : State := s.wr MGT_STAT_role 0 2;
    let s : State := { s with mgt := { s.mgt with inbox := [] } };
    let s : State := s.wr MGT_EPOCH 0 100;
    s),
    by decide +kernel⟩
theorem wit_Pair_bridgeHb : ∃ (hdr : BitVec 96) (body : List Byte) (crc : BitVec 32) (s : State), Valid s 0x01 hdr body crc :=
  ⟨(bh 0x01 ((leBytes 0 0).length / 8) : BitVec 96), (leBytes 0 0 : List Byte), (bc 0x01 (leBytes 0 0) : BitVec 32),
    upD,
    by unfold Valid; decide +kernel⟩
theorem wit_Pair_bridgeBadCrc : ∃ (hdr : BitVec 96) (body : List Byte) (crc : BitVec 32) (s : State), s.running = true ∧ s.isD =
    true ∧ s.par.up = true ∧ fieldAt (leBytes 12 hdr.toNat) 0 1 = 0x01 ∧ crc.toNat ≠ crcBytes (leBytes 12 hdr.toNat ++ body) :=
  ⟨(1 : BitVec 96), ([] : List Byte), (0 : BitVec 32),
    (let s : State := upD;
    let s : State := { s with par := { s.par with up := true } };
    s),
    by decide +kernel⟩
theorem wit_Pair_bridgeNotReceiving : ∃ (hdr : BitVec 96) (body : List Byte) (crc : BitVec 32) (s : State), s.running = true ∧
    s.isD = true ∧ s.par.up = true ∧ s.pState = 2 ∧ s.par.ckptEnd = none ∧ fieldAt (leBytes 12 hdr.toNat) 0 1 = 0x01 ∧ body.length %
    8 = 0 ∧ body.length / 8 % 256 = fieldAt (leBytes 12 hdr.toNat) 8 1 ∧ crc.toNat = crcBytes (leBytes 12 hdr.toNat ++ body) ∧
    fieldAt (leBytes 12 hdr.toNat) 2 2 = s.par.rx ∧ bit (fieldAt (leBytes 12 hdr.toNat) 1 1) 0 = false ∧ s.pRole = 1 :=
  ⟨(BitVec.ofNat 96 (1 + 9 * 2 ^ 16) : BitVec 96), ([] : List Byte), (BitVec.ofNat 32 (crcBytes (leBytes 12 (1 + 9 * 2 ^ 16))) : BitVec 32),
    (let s : State := upD;
    let s : State := { s with par := { s.par with up := true } };
    let s : State := s.wr PAR_STAT_state 0 2;
    let s : State := { s with par := { s.par with ckptEnd := none } };
    let s : State := s.wr PAR_STAT_role 0 1;
    s),
    by decide +kernel⟩
theorem wit_Pair_bridgeUp : ∃ (s : State), s.running = true ∧ s.isD = true ∧ s.par.up = false ∧ s.slt.pairOut = none :=
  ⟨(let s : State := upD;
    let s : State := { s with par := { s.par with up := false } };
    let s : State := { s with slt := { s.slt with pairOut := none } };
    s),
    by decide +kernel⟩
theorem wit_Pair_bridgeSyncSecondary : ∃ (hdr : BitVec 96) (body : List Byte) (crc : BitVec 32) (s : State), s.running = true ∧
    s.isD = true ∧ s.par.up = true ∧ s.pState = 1 ∧ s.par.ckptEnd = none ∧ fieldAt (leBytes 12 hdr.toNat) 0 1 = 0x02 ∧ body.length %
    8 = 0 ∧ body.length / 8 % 256 = fieldAt (leBytes 12 hdr.toNat) 8 1 ∧ 8 ≤ body.length ∧ crc.toNat = crcBytes (leBytes 12
    hdr.toNat ++ body) ∧ fieldAt (leBytes 12 hdr.toNat) 2 2 = s.par.rx ∧ bit (fieldAt (leBytes 12 hdr.toNat) 1 1) 0 = true ∧
    s.winsSync (fieldAt (leBytes 12 hdr.toNat) 6 2) (fieldAt body 0 1) = false :=
  ⟨(BitVec.ofNat 96 (2 + 2 ^ 8 + 9 * 2 ^ 16 + 5 * 2 ^ 48 + 2 ^ 64) : BitVec 96), (leBytes 8 1 : List Byte), (BitVec.ofNat 32 (crcBytes (leBytes 12 (2 + 2 ^ 8 + 9 * 2 ^ 16 + 5 * 2 ^ 48 + 2 ^ 64) ++ leBytes 8 1)) : BitVec 32),
    (let s : State := upD;
    let s : State := { s with par := { s.par with up := true } };
    let s : State := s.wr PAR_STAT_state 0 1;
    let s : State := { s with par := { s.par with ckptEnd := none } };
    s),
    by decide +kernel⟩
theorem wit_Pair_bridgeSyncPrimary : ∃ (hdr : BitVec 96) (body : List Byte) (crc : BitVec 32) (s : State), s.running = true ∧
    s.isD = true ∧ s.par.up = true ∧ s.pState = 1 ∧ s.par.ckptEnd = none ∧ fieldAt (leBytes 12 hdr.toNat) 0 1 = 0x02 ∧ body.length %
    8 = 0 ∧ body.length / 8 % 256 = fieldAt (leBytes 12 hdr.toNat) 8 1 ∧ 8 ≤ body.length ∧ crc.toNat = crcBytes (leBytes 12
    hdr.toNat ++ body) ∧ fieldAt (leBytes 12 hdr.toNat) 2 2 = s.par.rx ∧ bit (fieldAt (leBytes 12 hdr.toNat) 1 1) 0 = true ∧
    s.winsSync (fieldAt (leBytes 12 hdr.toNat) 6 2) (fieldAt body 0 1) = true :=
  ⟨(bh 2 1 : BitVec 96), (leBytes 8 0 : List Byte), (bc 2 (leBytes 8 0) : BitVec 32),
    (let s : State := upD;
    let s : State := { s with par := { s.par with up := true } };
    let s : State := s.wr PAR_STAT_state 0 1;
    let s : State := { s with par := { s.par with ckptEnd := none } };
    s),
    by decide +kernel⟩
theorem wit_Pair_bridgeCkptPart : ∃ (hdr : BitVec 96) (body : List Byte) (crc : BitVec 32) (s : State), Valid s 0x03 hdr body
    crc ∧ s.pRole = 2 ∧ s.par.ckptOn = false ∧ fieldAt body 0 2 ≠ 0 :=
  ⟨(bh 0x03 ((leBytes 8 3).length / 8) : BitVec 96), (leBytes 8 3 : List Byte), (bc 0x03 (leBytes 8 3) : BitVec 32),
    (let s : State := upD;
    let s : State := s.wr PAR_STAT_role 0 2;
    let s : State := { s with par := { s.par with ckptOn := false } };
    s),
    by unfold Valid; decide +kernel⟩
theorem wit_Pair_bridgeCkptLast : ∃ (hdr : BitVec 96) (body : List Byte) (crc : BitVec 32) (s : State), Valid s 0x03 hdr body
    crc ∧ s.pRole = 2 ∧ s.par.ckptOn = false ∧ fieldAt body 0 2 = 0 ∧ body.length = 8 ∧ s.par.handing = none :=
  ⟨(bh 0x03 ((leBytes 8 0).length / 8) : BitVec 96), (leBytes 8 0 : List Byte), (bc 0x03 (leBytes 8 0) : BitVec 32),
    (let s : State := upD;
    let s : State := s.wr PAR_STAT_role 0 2;
    let s : State := { s with par := { s.par with ckptOn := false } };
    let s : State := { s with par := { s.par with handing := none } };
    s),
    by unfold Valid; decide +kernel⟩
theorem wit_Pair_bridgeMirror : ∃ (hdr : BitVec 96) (crc : BitVec 32) (t : Fin 512) (v : BitVec 32) (s : State), Valid s 0x04
    hdr (mirrorRec 0x06 t (leBytes 4 v.toNat)) crc ∧ s.pRole = 2 :=
  ⟨(bh 4 2 : BitVec 96), (bc 4 (mirrorRec 0x06 1 (leBytes 4 0)) : BitVec 32), (1 : Fin 512), (0 : BitVec 32),
    (let s : State := upD;
    let s : State := s.wr PAR_STAT_role 0 2;
    s),
    by unfold Valid; decide +kernel⟩
theorem wit_Pair_bridgeMack : ∃ (hdr : BitVec 96) (body : List Byte) (crc : BitVec 32) (s : State), Valid s 0x05 hdr body crc :=
  ⟨(bh 0x05 ((leBytes 8 0).length / 8) : BitVec 96), (leBytes 8 0 : List Byte), (bc 0x05 (leBytes 8 0) : BitVec 32),
    upD,
    by unfold Valid; decide +kernel⟩
theorem wit_Pair_bridgeDiepwr : ∃ (hdr : BitVec 96) (body : List Byte) (crc : BitVec 32) (s : State), Valid s 0x0D hdr body crc
    :=
  ⟨(bh 0x0D ((leBytes 16 0).length / 8) : BitVec 96), (leBytes 16 0 : List Byte), (bc 0x0D (leBytes 16 0) : BitVec 32),
    upD,
    by unfold Valid; decide +kernel⟩
theorem wit_Pair_bridgePkg : ∃ (hdr : BitVec 96) (body : List Byte) (crc : BitVec 32) (s : State), Valid s 0x0E hdr body crc ∧
    s.pRole = 2 :=
  ⟨(bh 0x0E ((leBytes 2056 0).length / 8) : BitVec 96), (leBytes 2056 0 : List Byte), (bc 0x0E (leBytes 2056 0) : BitVec 32),
    (let s : State := upD;
    let s : State := s.wr PAR_STAT_role 0 2;
    s),
    by unfold Valid; decide +kernel⟩
theorem wit_Pair_bridgeCplate : ∃ (hdr : BitVec 96) (body : List Byte) (crc : BitVec 32) (s : State), Valid s 0x0F hdr body crc
    ∧ s.pRole = 2 :=
  ⟨(bh 0x0F ((leBytes 104 0).length / 8) : BitVec 96), (leBytes 104 0 : List Byte), (bc 0x0F (leBytes 104 0) : BitVec 32),
    (let s : State := upD;
    let s : State := s.wr PAR_STAT_role 0 2;
    s),
    by unfold Valid; decide +kernel⟩
theorem wit_Pair_bridgeLedger : ∃ (hdr : BitVec 96) (crc : BitVec 32) (i : Fin 4609) (v : BitVec 64) (s : State), Valid s 0x10
    hdr (mirrorRec 0x0A i (leBytes 8 v.toNat)) crc ∧ s.pRole = 1 :=
  ⟨(bh 0x10 2 : BitVec 96), (bc 0x10 (mirrorRec 0x0A 1 (leBytes 8 0)) : BitVec 32), (1 : Fin 4609), (0 : BitVec 64),
    (let s : State := upD;
    let s : State := s.wr PAR_STAT_role 0 1;
    s),
    by unfold Valid; decide +kernel⟩
theorem wit_Pair_bridgeSalg : ∃ (hdr : BitVec 96) (body : List Byte) (crc : BitVec 32) (s : State), Valid s 0x11 hdr body crc ∧
    s.pRole = 1 ∧ s.par.paired = true ∧ s.clocked 21 = true ∧ s.rd MGT_CTL_en = 1 ∧ s.fwRunning 3 = true ∧ s.rd MGT_STAT_state ≠ 0 ∧
    mget s.mgt.got (mSrc (body.take (20 + 8 * mLen body))) 0 < 16 ∧ mVer (body.take (20 + 8 * mLen body)) / 16 = 1 ∧ mType
    (body.take (20 + 8 * mLen body)) = 0 :=
  ⟨(bh 0x11 ((leBytes 24 0x1000).length / 8) : BitVec 96), (leBytes 24 0x1000 : List Byte), (bc 0x11 (leBytes 24 0x1000) : BitVec 32),
    (let s : State := upD;
    let s : State := s.wr PAR_STAT_role 0 1;
    let s : State := { s with par := { s.par with paired := true } };
    let s : State := s.wr MGT_CTL_en 0 (1);
    let s : State := s.wr MGT_STAT_state 0 (1);
    s),
    by unfold Valid; decide +kernel⟩
theorem wit_Pair_bridgeHandover : ∃ (hdr : BitVec 96) (body : List Byte) (crc : BitVec 32) (s : State), Valid s 0x14 hdr body
    crc ∧ s.pRole = 2 :=
  ⟨(bh 0x14 ((leBytes 8 0).length / 8) : BitVec 96), (leBytes 8 0 : List Byte), (bc 0x14 (leBytes 8 0) : BitVec 32),
    (let s : State := upD;
    let s : State := s.wr PAR_STAT_role 0 2;
    s),
    by unfold Valid; decide +kernel⟩
theorem wit_Pair_bridgePclapReq : ∃ (hdr : BitVec 96) (body : List Byte) (crc : BitVec 32) (stamp : BitVec 64) (s : State),
    Valid s 0x12 hdr body crc :=
  ⟨(bh 0x12 ((leBytes 8 0).length / 8) : BitVec 96), (leBytes 8 0 : List Byte), (bc 0x12 (leBytes 8 0) : BitVec 32), (0 : BitVec 64),
    upD,
    by unfold Valid; decide +kernel⟩
theorem wit_Pair_bridgePclapRsp : ∃ (hdr : BitVec 96) (body : List Byte) (crc : BitVec 32) (stamp : BitVec 64) (s : State),
    Valid s 0x13 hdr body crc ∧ s.par.t1 = some (fieldAt body 0 8) :=
  ⟨(bh 0x13 ((leBytes 24 0).length / 8) : BitVec 96), (leBytes 24 0 : List Byte), (bc 0x13 (leBytes 24 0) : BitVec 32), (0 : BitVec 64),
    (let body : List Byte := leBytes 24 0;
    let s : State := upD;
    let s : State := { s with par := { s.par with t1 := some (fieldAt body 0 8) } };
    s),
    by unfold Valid; decide +kernel⟩
theorem wit_Pair_bridgeClapSend : ∃ (s : State), s.running = true ∧ s.isD = true ∧ s.par.up = true ∧ s.par.clapT + msT ≤ s.ts :=
  ⟨(let s : State := upD;
    let s : State := { s with par := { s.par with up := true } };
    s),
    by decide +kernel⟩
theorem wit_Pair_bridgeRetransmit : ∃ (m : BMsg) (s : State), s.running = true ∧ s.isD = true ∧ s.par.up = true ∧ s.par.unack =
    [m] ∧ m.out = true ∧ m.sent + s.rd PAR_CFG_rtx * usT ≤ s.ts :=
  ⟨({ seq := 1, kind := 1, body := [], sent := 0 } : BMsg),
    (let m : BMsg := { seq := 1, kind := 1, body := [], sent := 0 };
    let s : State := upD;
    let s : State := { s with par := { s.par with up := true } };
    let s : State := { s with par := { s.par with unack := [m] } };
    s),
    by decide +kernel⟩
theorem wit_Pair_bridgeCheckpointTimer : ∃ (s : State), s.running = true ∧ s.isD = true ∧ s.pState = 2 ∧ s.pRole = 1 ∧
    s.par.ckptT + s.rd PAR_CFG_ckpt * 10 * msT ≤ s.ts :=
  ⟨(let s : State := upD;
    let s : State := s.wr PAR_STAT_state 0 2;
    let s : State := s.wr PAR_STAT_role 0 1;
    s),
    by decide +kernel⟩
theorem wit_Pair_bridgeLoss : ∃ (s : State), s.running = true ∧ s.isD = true ∧ s.par.up = true ∧ s.par.lost = false ∧
    s.par.lastRx + s.rd PAR_CFG_loss * usT ≤ s.ts ∧ s.pState = 2 ∧ s.pRole = 1 :=
  ⟨(let s : State := upD;
    let s : State := { s with par := { s.par with up := true } };
    let s : State := { s with par := { s.par with lost := false } };
    let s : State := s.wr PAR_STAT_state 0 2;
    let s : State := s.wr PAR_STAT_role 0 1;
    s),
    by decide +kernel⟩
theorem wit_Pair_pairTakeover : ∃ (s : State), s.running = true ∧ s.isD = true ∧ s.pState = 3 ∧ s.pRole = 2 ∧ s.par.lastRx +
    s.rd PAR_CFG_take * usT ≤ s.ts :=
  ⟨(let s : State := upD;
    let s : State := s.wr PAR_STAT_state 0 3;
    let s : State := s.wr PAR_STAT_role 0 2;
    s),
    by decide +kernel⟩
theorem wit_Pair_bridgeReady : ∃ (hdr : BitVec 96) (body : List Byte) (crc : BitVec 32) (j : TakeJob) (s : State), Valid s 0x07
    hdr body crc ∧ s.slt.jobs = [j] ∧ j.phase = 2 ∧ j.handle = fieldAt body 0 2 ∧ j.body = 0 :=
  ⟨(bh 0x07 ((leBytes 8 0).length / 8) : BitVec 96), (leBytes 8 0 : List Byte), (bc 0x07 (leBytes 8 0) : BitVec 32), ({ slate := 3, handle := 0, desc := none, phase := 2 } : TakeJob),
    (let j : TakeJob := { slate := 3, handle := 0, desc := none, phase := 2 };
    let s : State := upD;
    let s : State := { s with slt := { s.slt with jobs := [j] } };
    s),
    by unfold Valid; decide +kernel⟩
theorem wit_Pair_bridgeRefuse : ∃ (hdr : BitVec 96) (body : List Byte) (crc : BitVec 32) (j : TakeJob) (s : State), Valid s 0x08
    hdr body crc ∧ s.slt.jobs = [j] ∧ j.phase = 2 ∧ j.handle = fieldAt body 0 2 ∧ j.slate < 8 :=
  ⟨(bh 0x08 ((leBytes 8 0).length / 8) : BitVec 96), (leBytes 8 0 : List Byte), (bc 0x08 (leBytes 8 0) : BitVec 32), ({ slate := 3, handle := 0, desc := none, phase := 2 } : TakeJob),
    (let j : TakeJob := { slate := 3, handle := 0, desc := none, phase := 2 };
    let s : State := upD;
    let s : State := { s with slt := { s.slt with jobs := [j] } };
    s),
    by unfold Valid; decide +kernel⟩
theorem wit_Pair_bridgeCommit : ∃ (hdr : BitVec 96) (body : List Byte) (crc : BitVec 32) (j : TakeJob) (s : State), Valid s 0x09
    hdr body crc ∧ s.slt.jobs = [j] ∧ j.phase = 7 ∧ j.handle = fieldAt body 0 2 ∧ s.ts < s.fromPrimary (fieldAt body 8 8) :=
  ⟨(bh 0x09 ((leBytes 16 (2 ^ 126)).length / 8) : BitVec 96), (leBytes 16 (2 ^ 126) : List Byte), (bc 0x09 (leBytes 16 (2 ^ 126)) : BitVec 32), ({ slate := 3, handle := 0, desc := none, phase := 7 } : TakeJob),
    (let j : TakeJob := { slate := 3, handle := 0, desc := none, phase := 7 };
    let s : State := upD;
    let s : State := { s with slt := { s.slt with jobs := [j] } };
    s),
    by unfold Valid; decide +kernel⟩
theorem wit_Pair_bridgeAck : ∃ (hdr : BitVec 96) (body : List Byte) (crc : BitVec 32) (j : TakeJob) (n : Nat) (s : State), Valid
    s 0x0A hdr body crc ∧ s.slt.jobs = [j] ∧ j.phase = 3 ∧ j.handle = fieldAt body 0 2 ∧ j.t = some n ∧ s.ts < n :=
  ⟨(bh 0x0A ((leBytes 8 0).length / 8) : BitVec 96), (leBytes 8 0 : List Byte), (bc 0x0A (leBytes 8 0) : BitVec 32), ({ slate := 3, handle := 0, desc := none, phase := 3, t := some (2 ^ 40 * 5 ^ 8 + 1) } : TakeJob), (2 ^ 40 * 5 ^ 8 + 1 : Nat),
    (let j : TakeJob := { slate := 3, handle := 0, desc := none, phase := 3, t := some (2 ^ 40 * 5 ^ 8 + 1) };
    let s : State := upD;
    let s : State := { s with slt := { s.slt with jobs := [j] } };
    s),
    by unfold Valid; decide +kernel⟩
theorem wit_Pair_bridgeDone : ∃ (hdr : BitVec 96) (body : List Byte) (crc : BitVec 32) (j : TakeJob) (s : State), Valid s 0x0B
    hdr body crc ∧ s.slt.jobs = [j] ∧ j.phase = 5 ∧ j.handle = fieldAt body 0 2 ∧ fieldAt body 4 4 ≠ noTake ∧ j.desc = none ∧
    j.slate < 8 :=
  ⟨(bh 0x0B ((leBytes 8 0).length / 8) : BitVec 96), (leBytes 8 0 : List Byte), (bc 0x0B (leBytes 8 0) : BitVec 32), ({ slate := 3, handle := 0, desc := none, phase := 5 } : TakeJob),
    (let j : TakeJob := { slate := 3, handle := 0, desc := none, phase := 5 };
    let s : State := upD;
    let s : State := { s with slt := { s.slt with jobs := [j] } };
    s),
    by unfold Valid; decide +kernel⟩
theorem wit_Pair_bridgeAbort : ∃ (hdr : BitVec 96) (body : List Byte) (crc : BitVec 32) (j : TakeJob) (s : State), Valid s 0x0C
    hdr body crc ∧ s.slt.jobs = [j] ∧ (j.phase = 7 ∨ j.phase = 8) ∧ j.handle = fieldAt body 0 2 :=
  ⟨(bh 0x0C ((leBytes 8 0).length / 8) : BitVec 96), (leBytes 8 0 : List Byte), (bc 0x0C (leBytes 8 0) : BitVec 32), ({ slate := 3, handle := 0, desc := none, phase := 7 } : TakeJob),
    (let j : TakeJob := { slate := 3, handle := 0, desc := none, phase := 7 };
    let s : State := upD;
    let s : State := { s with slt := { s.slt with jobs := [j] } };
    s),
    by unfold Valid; decide +kernel⟩
theorem wit_Pair_bridgePrepare : ∃ (hdr : BitVec 96) (body : List Byte) (crc : BitVec 32) (s : State), Valid s 0x06 hdr body crc
    ∧ s.pRole = 2 ∧ fieldAt body 2 2 = 0 ∧ 1 < fieldAt body 4 2 :=
  ⟨(bh 0x06 ((leBytes 16 0x200000000).length / 8) : BitVec 96), (leBytes 16 0x200000000 : List Byte), (bc 0x06 (leBytes 16 0x200000000) : BitVec 32),
    (let s : State := upD;
    let s : State := s.wr PAR_STAT_role 0 2;
    s),
    by unfold Valid; decide +kernel⟩
theorem wit_Pair_bridgePrepareLast : ∃ (hdr : BitVec 96) (body : List Byte) (crc : BitVec 32) (s : State), Valid s 0x06 hdr body
    crc ∧ s.pRole = 2 ∧ fieldAt body 2 2 = 0 ∧ fieldAt body 4 2 = 1 ∧ s.slt.jobs = [] :=
  ⟨(bh 0x06 ((leBytes 16 0x100000000).length / 8) : BitVec 96), (leBytes 16 0x100000000 : List Byte), (bc 0x06 (leBytes 16 0x100000000) : BitVec 32),
    (let s : State := upD;
    let s : State := s.wr PAR_STAT_role 0 2;
    let s : State := { s with slt := { s.slt with jobs := [] } };
    s),
    by unfold Valid; decide +kernel⟩
theorem wit_Start_supplyRise : ∃ (s : State), (s.rst.supply = true ∨ s.rst.removed = true) :=
  ⟨(let s : State := up;
    let s : State := { s with rst := { s.rst with supply := true } };
    s),
    by decide +kernel⟩
theorem wit_Start_vddQfFall : ∃ (s : State), s.rst.supply = true ∧ s.rd RST_CAUSE_crowbar = 0 ∧ s.rd RST_CAUSE_shutdown = 0 :=
  ⟨(let s : State := up;
    let s : State := { s with rst := { s.rst with supply := true } };
    let s : State := s.wr RST_CAUSE_crowbar 0 (0);
    let s : State := s.wr RST_CAUSE_shutdown 0 (0);
    s),
    by decide +kernel⟩
theorem wit_Start_supplyRemoval : ∃  (s : State), True :=
  ⟨up,
    by decide +kernel⟩
theorem wit_Start_poresetAssert : ∃ (s : State), s.running = true ∧ s.rst.supply = true ∧ s.rst.poreset = false ∧ s.rd
    RST_CAUSE_crowbar = 0 ∧ s.rd RST_CAUSE_shutdown = 0 :=
  ⟨(let s : State := up;
    let s : State := { s with rst := { s.rst with supply := true } };
    let s : State := { s with rst := { s.rst with poreset := false } };
    let s : State := s.wr RST_CAUSE_crowbar 0 (0);
    let s : State := s.wr RST_CAUSE_shutdown 0 (0);
    s),
    by decide +kernel⟩
theorem wit_Start_poresetCrowbar : ∃ (s : State), s.rst.supply = true ∧ s.rst.poreset = false ∧ s.rd RST_CAUSE_crowbar = 1 :=
  ⟨(let s : State := up;
    let s : State := { s with rst := { s.rst with supply := true } };
    let s : State := { s with rst := { s.rst with poreset := false } };
    let s : State := s.wr RST_CAUSE_crowbar 0 (1);
    s),
    by decide +kernel⟩
theorem wit_Start_poresetNegate : ∃ (s : State), s.rst.supply = true ∧ s.rst.poreset = true ∧ s.rst.refOk = true :=
  ⟨(let s : State := up;
    let s : State := { s with rst := { s.rst with supply := true } };
    let s : State := { s with rst := { s.rst with poreset := true } };
    let s : State := { s with rst := { s.rst with refOk := true } };
    s),
    by decide +kernel⟩
theorem wit_Start_refclkLoss : ∃ (s : State), s.running = true ∧ s.rst.supply = true ∧ s.rst.refOk = true ∧ s.rd
    RST_CAUSE_crowbar = 0 ∧ s.rd RST_CAUSE_shutdown = 0 :=
  ⟨(let s : State := up;
    let s : State := { s with rst := { s.rst with supply := true } };
    let s : State := { s with rst := { s.rst with refOk := true } };
    let s : State := s.wr RST_CAUSE_crowbar 0 (0);
    let s : State := s.wr RST_CAUSE_shutdown 0 (0);
    s),
    by decide +kernel⟩
theorem wit_Start_pllLockLoss : ∃ (s : State), s.running = true ∧ s.rd RST_CAUSE_crowbar = 0 ∧ s.rd RST_CAUSE_shutdown = 0 :=
  ⟨(let s : State := up;
    let s : State := s.wr RST_CAUSE_crowbar 0 (0);
    let s : State := s.wr RST_CAUSE_shutdown 0 (0);
    s),
    by decide +kernel⟩
theorem wit_Start_dieResetRelease : ∃ (s : State), s.running = false ∧ s.rst.supply = true ∧ s.rst.poreset = false :=
  ⟨(let s : State := down;
    let s : State := { s with rst := { s.rst with supply := true } };
    let s : State := { s with rst := { s.rst with poreset := false } };
    s),
    by decide +kernel⟩
theorem wit_Start_pllLock : ∃ (s : State), s.running = false ∧ s.rst.lockDue = true :=
  ⟨(let s : State := down;
    let s : State := { s with rst := { s.rst with lockDue := true } };
    s),
    by decide +kernel⟩
theorem wit_Start_pllLockTimeout : ∃ (s : State), s.running = false ∧ s.rst.lockDue = true :=
  ⟨(let s : State := down;
    let s : State := { s with rst := { s.rst with lockDue := true } };
    s),
    by decide +kernel⟩
theorem wit_Start_sramClearDone : ∃ (bank : Fin 18) (sig : Bool) (rev dens : BitVec 8) (e f : Bool) (qe : BitVec 3) (s : State),
    s.running = true ∧ s.clearing bank = true :=
  ⟨(1 : Fin 18), (true : Bool), (0 : BitVec 8), (0 : BitVec 8), (true : Bool), (true : Bool), (0 : BitVec 3),
    (let s : State := up;
    let s : State := s.wr MEM_STAT_clearing 0 (2 ^ (18 : Nat) - 1);
    s),
    by decide +kernel⟩
theorem wit_Start_discovery : ∃ (bank : Fin 18) (rev dens : BitVec 8) (qe : BitVec 3) (s : State), s.running = true ∧ s.rd
    MEM_STAT_clearing = 2 ^ bank.val ∧ s.rd FW_STAT_state = 0 ∧ s.rd RST_SEQ_stage = 0 ∧ 0x15 ≤ rev.toNat ∧ 23 ≤ dens.toNat ∧
    qe.toNat ≤ 5 :=
  ⟨(1 : Fin 18), (0x15 : BitVec 8), (23 : BitVec 8), (0 : BitVec 3),
    (let bank : Fin 18 := 1;
    let s : State := up;
    let s : State := s.wr MEM_STAT_clearing 0 (2 ^ bank.val);
    let s : State := s.wr FW_STAT_state 0 (0);
    let s : State := s.wr RST_SEQ_stage 0 (0);
    s),
    by decide +kernel⟩
theorem wit_Start_discoveryFailed : ∃ (bank : Fin 18) (rev dens : BitVec 8) (e f : Bool) (qe : BitVec 3) (s : State), s.running
    = true ∧ s.rd MEM_STAT_clearing = 2 ^ bank.val ∧ s.rd FW_STAT_state = 0 ∧ s.rd RST_SEQ_stage = 0 ∧ s.rd NVM_STAT_found = 0 :=
  ⟨(1 : Fin 18), (0 : BitVec 8), (0 : BitVec 8), (true : Bool), (true : Bool), (0 : BitVec 3),
    (let bank : Fin 18 := 1;
    let s : State := up;
    let s : State := s.wr MEM_STAT_clearing 0 (2 ^ bank.val);
    let s : State := s.wr FW_STAT_state 0 (0);
    let s : State := s.wr RST_SEQ_stage 0 (0);
    let s : State := s.wr NVM_STAT_found 0 (0);
    s),
    by decide +kernel⟩
theorem wit_Start_spiPortRelease : ∃ (s : State), s.running = true ∧ s.rd RST_SEQ_stage = 8 ∧ s.rd RST_SEQ_cause = 1 ∧
    s.rst.failT + msT ≤ s.ts :=
  ⟨(let s : State := up;
    let s : State := s.wr RST_SEQ_stage 0 (8);
    let s : State := s.wr RST_SEQ_cause 0 (1);
    s),
    by decide +kernel⟩
theorem wit_Start_startupTakeNotDue : ∃ (s : State), s.running = true ∧ (s.rst.config = true ∨ s.startReady = false) :=
  ⟨(let s : State := up;
    let s : State := { s with rst := { s.rst with config := true } };
    s),
    by decide +kernel⟩
theorem wit_Start_startupTake : ∃ (s : State), s.running = true ∧ s.rst.config = false ∧ s.startReady = true ∧ s.boardRecord.1 =
    1 :=
  ⟨(let s : State := up;
    let s : State := { s with rst := { s.rst with config := false } };
    let s : State := s.wr RST_SEQ_stage 0 2;
    s),
    by decide +kernel⟩
theorem wit_Start_quefaReadyAssert : ∃ (s : State), s.running = true ∧ s.rd RST_SEQ_stage = 4 ∧ s.rd PMB_STAT_seq = 3 ∧ s.rd
    VRC_STAT_state = 2 ∧ s.rd FCS_SLOT_state 0 = 2 ∧ s.rst.config = true :=
  ⟨(let s : State := up;
    let s : State := s.wr RST_SEQ_stage 0 (4);
    let s : State := s.wr PMB_STAT_seq 0 (3);
    let s : State := s.wr VRC_STAT_state 0 (2);
    let s : State := s.wr FCS_SLOT_state 0 (2);
    let s : State := { s with rst := { s.rst with config := true } };
    s),
    by decide +kernel⟩
theorem wit_Start_shutdownDrainDone : ∃ (n : Nat) (s : State), s.running = true ∧ s.rst.downT = some n ∧ s.rd RST_SEQ_stage = 6
    ∧ s.rst.drained = false ∧ n + s.rd RST_START_drain * usT ≤ s.ts :=
  ⟨(3 : Nat),
    (let n : Nat := 3;
    let s : State := up;
    let s : State := { s with rst := { s.rst with downT := some n } };
    let s : State := s.wr RST_SEQ_stage 0 (6);
    let s : State := { s with rst := { s.rst with drained := false } };
    s),
    by decide +kernel⟩
theorem wit_Start_powerDownEnd : ∃ (n : Nat) (s : State), s.running = true ∧ s.rst.downT = some n ∧ s.rd RST_SEQ_stage = 6 ∧
    s.rst.drained = true ∧ s.rd PMB_STAT_seq ≠ 4 :=
  ⟨(3 : Nat),
    (let n : Nat := 3;
    let s : State := up;
    let s : State := { s with rst := { s.rst with downT := some n } };
    let s : State := s.wr RST_SEQ_stage 0 (6);
    let s : State := { s with rst := { s.rst with drained := true } };
    let s : State := s.wr PMB_STAT_seq 0 (0);
    s),
    by decide +kernel⟩
theorem wit_Access_fabricErrorStops : ∃ (ring : Fin 513) (idx : BitVec 32) (s : State), s.running = true ∧ (s.ring ring).st ≠ 0
    :=
  ⟨(1 : Fin 513), (0 : BitVec 32),
    (let ring : Fin 513 := 1;
    let s : State := up;
    let s : State := s.setRing ring { s.ring ring with st := 1 };
    s),
    by decide +kernel⟩
theorem wit_Access_fabricErrorRead : ∃ (ring : Fin 513) (idx : BitVec 32) (d : Desc) (s : State), s.running = true ∧ InTurn s
    (fun d => decide (d.ring = ring.val) && decide (dOp d.w = 0x11) && !dInline d.w) d ∧ Reports s d :=
  ⟨(7 : Fin 513), (0 : BitVec 32), (let ring : Fin 513 := 7; let idx : BitVec 32 := 0; ({ ring := 7, idx := 3, gen := 0, w := 0x11 * 2 ^ 0 } : Desc)),
    (let ring : Fin 513 := 7;
    let idx : BitVec 32 := 0;
    let d : Desc := { ring := 7, idx := 3, gen := 0, w := 0x11 * 2 ^ 0 };
    let s : State := up;
    let s : State := { s with hif := { s.hif with units := [d] } };
    let s : State := s.setRing d.ring { s.ring d.ring with st := 2, gen := d.gen };
    s),
    by unfold InTurn Reports; decide +kernel⟩
theorem wit_Access_fabricErrorTrace : ∃ (ring : Fin 513) (idx : BitVec 32) (s : State), s.running = true ∧ s.tracing = true :=
  ⟨(1 : Fin 513), (0 : BitVec 32),
    (let s : State := up;
    let s : State := s.wr TRC_STAT_state 0 1;
    s),
    by decide +kernel⟩
theorem wit_Access_snapshotObject : ∃ (v : BitVec 32) (s : State), s.running = true ∧ s.unitAnswers (unitOf
    TLY_OBJ_SEL_obj.wordOff) = true :=
  ⟨(0 : BitVec 32),
    up,
    by decide +kernel⟩
theorem wit_Access_snapshotAccount : ∃ (v : BitVec 32) (s : State), s.running = true ∧ s.unitAnswers (unitOf
    ACT_ACC_SEL_idx.wordOff) = true ∧ v.toNat < 4608 ∧ s.settled v.toNat < 2 ^ 64 :=
  ⟨(0 : BitVec 32),
    up,
    by decide +kernel⟩
theorem wit_Access_snapshotRing : ∃ (v : BitVec 32) (s : State), s.running = true ∧ s.unitAnswers (unitOf
    HIF_TRING_SEL_tenant.wordOff) = true ∧ v.toNat < 512 :=
  ⟨(0 : BitVec 32),
    up,
    by decide +kernel⟩
theorem wit_Access_w1cWrite : ∃ (v : BitVec 32) (s : State), s.running = true ∧ s.unitAnswers 3 = true ∧ bit v.toNat
    (MEM_VIOL_valid.key % 32) = true :=
  ⟨(0xFFFFFFFF : BitVec 32),
    up,
    by decide +kernel⟩
theorem wit_Access_w1cKeeps : ∃ (v again : BitVec 32) (s : State), s.running = true ∧ s.rd MEM_VIOL_valid ≤ 1 ∧ (bit v.toNat
    (MEM_VIOL_valid.key % 32) = false ∨ bit again.toNat (MEM_VIOL_valid.key % 32) = true) :=
  ⟨(0 : BitVec 32), (0 : BitVec 32),
    (let s : State := up;
    let s : State := s.wr MEM_VIOL_valid 0 (0);
    s),
    by decide +kernel⟩
theorem wit_Access_rwtDirectWrite : ∃ (off : BitVec 22) (s : State), s.running = true ∧ off.toNat % 4 = 0 ∧ s.rwtHere off.toNat
    = true :=
  ⟨(0x28018 : BitVec 22),
    up,
    by decide +kernel⟩
theorem wit_Access_unprivileged : ∃ (wide : Bool) (off : BitVec 22) (v again : BitVec 32) (v64 : BitVec 64) (s : State),
    s.running = true :=
  ⟨(true : Bool), (0 : BitVec 22), (0 : BitVec 32), (0 : BitVec 32), (0 : BitVec 64),
    up,
    by decide +kernel⟩
theorem wit_Access_registerWrite : ∃ (v : BitVec 64) (s : State), s.running = true ∧ s.unitAnswers (unitOf
    GEN_SCRATCH_scratch.wordOff) = true :=
  ⟨(0 : BitVec 64),
    up,
    by decide +kernel⟩
theorem wit_Access_registerRead : ∃ (m : BitVec 8) (off : BitVec 22) (s : State), s.running = true ∧ off.toNat % 4 = 0 ∧ wideReg
    off.toNat = none ∧ s.unitAnswers (unitOf off.toNat) = true ∧ mfind s.hub.latch (latchKey m.toNat off.toNat) = none :=
  ⟨(0 : BitVec 8), (0 : BitVec 22),
    up,
    by decide +kernel⟩
theorem wit_Access_registerReadWide : ∃ (m : BitVec 8) (off : BitVec 22) (s : State), s.running = true ∧ off.toNat % 4 = 0 ∧
    wideReg off.toNat = some (off.toNat, 2) ∧ s.unitAnswers (unitOf off.toNat) = true ∧ mfind s.hub.latch (latchKey m.toNat
    off.toNat) = none :=
  ⟨(0 : BitVec 8), (BitVec.ofNat 22 (MGT_OFS.key / 8) : BitVec 22),
    up,
    by decide +kernel⟩
theorem wit_Access_registerReadGated : ∃ (m : BitVec 8) (off : BitVec 22) (s : State), s.running = true ∧ off.toNat % 4 = 0 ∧
    s.unitAnswers (unitOf off.toNat) = false :=
  ⟨(0 : BitVec 8), (0 : BitVec 22),
    (let s : State := up;
    let s : State := s.wr CLK_EN_en 0 0;
    s),
    by decide +kernel⟩
theorem wit_Access_doorbellRead : ∃ (m : BitVec 8) (priv : Bool) (off : BitVec 22) (s : State), s.running = true :=
  ⟨(1 : BitVec 8), (false : Bool), (0x200000 : BitVec 22),
    up,
    by decide +kernel⟩
/-- Both clauses: a ring that is not DISABLED, and one that is. -/
theorem wit_Access_doorbellShows : ∃ (r q : Fin 513) (s : State), s.clocked 5 = true ∧ (s.ring r).st ≠ 0 ∧ (s.ring q).st = 0 :=
  ⟨512, 511, up, by decide +kernel⟩

/-! ### Witnesses whose data is too long to evaluate byte by byte -/

theorem fieldAt_take (l : List Byte) (m o n : Nat) (h : o + n ≤ m) : fieldAt (l.take m) o n = fieldAt l o n := by
  unfold fieldAt
  rw [List.drop_take, List.take_take, min_eq_left (by omega)]

theorem imgHdrOk_take (n : Nat) (l : List Byte) : imgHdrOk n (l.take 64) = imgHdrOk n l := by
  unfold imgHdrOk
  simp only [fieldAt_take, Nat.reduceAdd, Nat.reduceLeDiff, List.drop_take, List.take_take, Nat.reduceSub, min_self]

theorem readFlash_take (s : State) (a n m : Nat) (h : m ≤ n) : (s.readFlash a n).take m = s.readFlash a m := by
  unfold State.readFlash
  rw [← List.map_take, List.take_range, min_eq_left h]

theorem imgCheck_bad (s : State) (n a : Nat) (h : imgHdrOk n (s.readFlash a 64) = false) :
    s.imgCheck n (s.readFlash a 0x80000) true = some 1 := by
  have e : imgHdrOk n (s.readFlash a 0x80000) = false := by rw [← imgHdrOk_take, readFlash_take _ _ _ _ (by decide)]; exact h
  unfold State.imgCheck
  rw [e]; rfl

theorem imgCheck_good (s : State) (n a k : Nat) (h : imgHdrOk n (s.readFlash a 64) = true) (hk : fieldAt (s.readFlash a 64) 12 4 = k)
    (hm : k ≤ 0x80000) (hd : sha384 (s.readFlash a k) = s.fusedDigest n) : s.imgCheck n (s.readFlash a 0x80000) true = none := by
  have e : imgHdrOk n (s.readFlash a 0x80000) = true := by rw [← imgHdrOk_take, readFlash_take _ _ _ _ (by decide)]; exact h
  have el : fieldAt (s.readFlash a 0x80000) 12 4 = k := by
    rw [← hk, ← readFlash_take s a 0x80000 64 (by decide), fieldAt_take _ _ _ _ (by decide)]
  unfold State.imgCheck
  rw [e, el, readFlash_take _ _ _ _ hm, hd]; simp

theorem mget_over {α : Type} (m : SMap α) (d : α) (b k : Nat) (h : m.all (fun e => decide (e.1 < b)) = true) (hk : b ≤ k) : mget m k d = d := by
  induction m with
  | nil => rfl
  | cons e t ih =>
    rw [List.all_cons, Bool.and_eq_true, decide_eq_true_eq] at h
    have ht := ih h.2
    unfold mget at ht ⊢
    unfold mfind
    rw [if_neg (by omega)]; exact ht

theorem readFlash_over (s : State) (a m n : Nat) (h : s.flash.all (fun e => decide (e.1 < a + m)) = true) :
    s.readFlash a (m + n) = s.readFlash a m ++ List.replicate n flashDefault := by
  unfold State.readFlash
  rw [List.range_add, List.map_append, List.map_map]
  congr 1
  refine List.eq_replicate_iff.mpr ⟨by simp, fun b hb => ?_⟩
  obtain ⟨k, -, rfl⟩ := List.mem_map.mp hb
  exact mget_over _ _ (a + m) _ h (by show a + m ≤ a + (m + k); omega)

theorem mget_full {α : Type} (v d : α) (n k : Nat) (hk : k < n) : mget ((List.range n).map fun i => (i, v)) k d = v := by
  suffices ∀ l : List Nat, k ∈ l → mfind (l.map fun i => (i, v)) k = some v by
    unfold mget; rw [this _ (List.mem_range.mpr hk)]; rfl
  intro l hl
  induction l with
  | nil => cases hl
  | cons i t ih =>
    rw [List.map_cons]
    unfold mfind
    split
    · rfl
    · exact ih ((List.mem_cons.mp hl).resolve_left fun e => by omega)

def busyJobs : State :=
  { up with hif := { up.hif with units := [{ ring := 512, idx := 3, w := 0x20 }] },
            acc := { up.acc with jobs := (List.range 1024).map fun k => (k, { state := 2 }) } }

theorem wit_Account_jobOpenFull : ∃ (d : Desc) (s : State), s.running = true ∧ InTurn s (fun d => decide (dOp d.w = 0x20)) d ∧
    d.ring = stewardRing ∧ Reports s d ∧ (List.range 1024).find? (fun k => decide ((s.job k).state = 0)) = none := by
  refine ⟨{ ring := 512, idx := 3, w := 0x20 }, busyJobs, by decide +kernel, by unfold InTurn; decide +kernel, rfl,
    by unfold Reports; decide +kernel, ?_⟩
  refine List.find?_eq_none.mpr fun k hk => ?_
  have e : busyJobs.job k = { state := 2 } := mget_full _ _ 1024 k (List.mem_range.mp hk)
  rw [e]; decide

/-- The image's digest as its fuses hold it: nothing here evaluates it. -/
def imgDigest : List Byte := sha384 (imgHead 1 ++ List.replicate 4032 255)
/-- The image and the fuses of a digest d. -/
def loadedOf (d : List Byte) : State :=
  { up with fw := { up.fw with loads := [1] }, flash := cellsAt 0x480000 (imgHead 1),
            fuse := (List.range 12).map fun k => (FW_FUSE_d.fuseKey + (12 + k) * 32, fieldAt d (4 * k) 4) }
def loaded : State := loadedOf imgDigest
def blank : State := { up with fw := { up.fw with loads := [1] } }

theorem leBytes_leNat (l : List Byte) : leBytes l.length (leNat l) = l := by
  induction l with
  | nil => rfl
  | cons b t ih =>
    have h : b.toNat < 256 := b.isLt
    simp only [List.length_cons, leBytes, leNat]
    rw [show (b.toNat + 256 * leNat t) / 256 = leNat t by omega, ih]
    congr 1
    apply BitVec.eq_of_toNat_eq
    rw [BitVec.toNat_ofNat]
    omega

theorem leNat_lt (l : List Byte) : leNat l < 256 ^ l.length := by
  induction l with
  | nil => decide
  | cons b t ih =>
    have h : b.toNat < 256 := b.isLt
    rw [List.length_cons, Nat.pow_succ]
    unfold leNat
    omega

theorem words_all (n : Nat) (d : List Byte) (h : d.length = 4 * n) :
    ((List.range n).flatMap fun k => (d.drop (4 * k)).take 4) = d := by
  induction n generalizing d with
  | zero => rw [List.length_eq_zero_iff.mp h]; rfl
  | succ n ih =>
    rw [List.range_succ_eq_map, List.flatMap_cons, List.flatMap_map]
    have e := ih (d.drop 4) (by rw [List.length_drop]; omega)
    conv_rhs => rw [← List.take_append_drop 4 d, ← e]
    simp only [Nat.mul_zero, List.drop_zero, List.drop_drop, Nat.succ_eq_add_one, Nat.mul_add, Nat.mul_one, Nat.add_comm]

theorem sha384_length (l : List Byte) : (sha384 l).length = 48 := by
  have hb : ∀ n h m, h.length = 8 → (shaBlocks n h m).length = 8 := by
    have hr : ∀ (ks : List W64) (vw : List W64 × List W64), vw.1.length = 8 → (ks.foldl shaRound vw).1.length = 8 := by
      intro ks
      induction ks with
      | nil => exact fun _ h => h
      | cons k t ih => exact fun vw _ => ih _ rfl
    intro n
    induction n with
    | zero => exact fun h m e => e
    | succ n ih =>
      intro h m e
      refine ih _ _ ?_
      unfold shaBlock
      rw [List.length_zipWith, hr _ _ e, e]; rfl
  have hl : ∀ n x, (leBytes n x).length = n := by
    intro n
    induction n with
    | zero => exact fun _ => rfl
    | succ n ih => intro x; unfold leBytes; rw [List.length_cons, ih]
  unfold sha384
  dsimp only
  have h6 : ((shaBlocks ((shaPad l).length / 128) shaH (shaPad l)).take 6).length = 6 := by
    rw [List.length_take, hb _ _ _ rfl]; rfl
  generalize (shaBlocks ((shaPad l).length / 128) shaH (shaPad l)).take 6 = w at h6
  rw [List.length_flatMap]
  have : w.map (fun a => ((leBytes 8 a.toNat).reverse).length) = List.replicate 6 8 := by
    refine List.eq_replicate_iff.mpr ⟨by rw [List.length_map, h6], fun b hb => ?_⟩
    obtain ⟨a, -, rfl⟩ := List.mem_map.mp hb
    rw [List.length_reverse, hl]
  rw [this]; rfl

theorem loaded_digest : loaded.fusedDigest 1 = imgDigest := by
  have hw : ∀ k, k < 12 → loaded.rd FW_FUSE_d (12 * 1 + k) = fieldAt imgDigest (4 * k) 4 % 2 ^ 32 := by
    intro k hk
    unfold loaded
    generalize imgDigest = d
    interval_cases k <;> rfl
  unfold State.fusedDigest
  conv_rhs => rw [← words_all 12 imgDigest (sha384_length _)]
  refine List.flatMap_congr fun k hk => ?_
  have hk' : k < 12 := List.mem_range.mp hk
  have hl : ((imgDigest.drop (4 * k)).take 4).length = 4 := by
    have := sha384_length (imgHead 1 ++ List.replicate 4032 255)
    rw [List.length_take, List.length_drop]
    show min 4 ((sha384 (imgHead 1 ++ List.replicate 4032 255)).length - 4 * k) = 4
    omega
  have hx := leNat_lt ((imgDigest.drop (4 * k)).take 4)
  rw [hl, show (256 : Nat) ^ 4 = 2 ^ 32 by decide] at hx
  rw [hw k hk', show fieldAt imgDigest (4 * k) 4 = leNat ((imgDigest.drop (4 * k)).take 4) from rfl, Nat.mod_eq_of_lt hx]
  have e := leBytes_leNat ((imgDigest.drop (4 * k)).take 4)
  rw [hl] at e
  exact e

theorem wit_Firmware_fwImageLoaded : ∃ (n : Fin 4) (s : State), s.running = true ∧ s.fw.loads.head? = some n.val ∧ s.clearing
    (14 + n.val) = false ∧ s.nvm.ops = [] ∧ s.nvm.portHigh = false ∧ s.imgCheck n (s.readFlash (imageAddr s.fw.copyB n) 0x80000)
    true = none := by
  refine ⟨1, loaded, by decide +kernel, by decide +kernel, by decide +kernel, by decide +kernel, by decide +kernel, ?_⟩
  refine imgCheck_good _ _ _ 4096 (by decide +kernel) (by decide +kernel) (by decide) ?_
  have e : loaded.readFlash (imageAddr loaded.fw.copyB ((1 : Fin 4) : Nat)) 4096 = imgHead 1 ++ List.replicate 4032 255 := by
    rw [readFlash_over loaded _ 64 4032 (by decide +kernel)]
    refine congrArg (· ++ List.replicate 4032 flashDefault) ?_
    decide +kernel
  rw [e]; exact loaded_digest.symm

theorem wit_Firmware_fwImageCopyB : ∃ (n : Fin 4) (c : Nat) (s : State), s.running = true ∧ s.fw.loads.head? = some n.val ∧
    s.clearing (14 + n.val) = false ∧ s.nvm.ops = [] ∧ s.nvm.portHigh = false ∧ s.fw.copyB = false ∧ s.imgCheck n (s.readFlash
    (imageAddr false n) 0x80000) true = some c := by
  refine ⟨1, 1, blank, by decide +kernel, by decide +kernel, by decide +kernel, by decide +kernel, by decide +kernel, by decide +kernel, ?_⟩
  exact imgCheck_bad _ _ _ (by decide +kernel)

theorem wit_Firmware_fwImageHalted : ∃ (n : Fin 4) (c : Nat) (s : State), s.running = true ∧ s.fw.loads.head? = some n.val ∧
    s.clearing (14 + n.val) = false ∧ s.nvm.ops = [] ∧ s.nvm.portHigh = false ∧ s.fw.copyB = true ∧ s.imgCheck n (s.readFlash
    (imageAddr true n) 0x80000) true = some c := by
  refine ⟨1, 1, { blank with fw := { blank.fw with copyB := true } }, by decide +kernel, by decide +kernel, by decide +kernel,
    by decide +kernel, by decide +kernel, by decide +kernel, ?_⟩
  exact imgCheck_bad _ _ _ (by decide +kernel)

/-- A model image of zero weights in mode 0, with a header h. -/
def zeroImg (h : List Byte) : List Byte := h ++ List.replicate 12928 0

theorem leNat_zeros (n : Nat) : leNat (List.replicate n 0) = 0 := by
  induction n with
  | zero => rfl
  | succ n ih =>
    rw [List.replicate_succ]
    show (0 : BitVec 8).toNat + 256 * leNat (List.replicate n 0) = 0
    rw [ih]; rfl

theorem zeroImg_drop (h : List Byte) (hl : h.length = 64) (o : Nat) (ho : 64 ≤ o) :
    (zeroImg h).drop o = List.replicate (12992 - o) 0 := by
  unfold zeroImg
  rw [List.drop_append, hl, List.drop_eq_nil_of_le (by omega), List.drop_replicate, List.nil_append]
  congr 1; omega

theorem zeroImg_field (h : List Byte) (hl : h.length = 64) (o n : Nat) (ho : 64 ≤ o) : imgU (zeroImg h) o n = 0 := by
  unfold imgU fieldAt
  rw [zeroImg_drop h hl o ho, List.take_replicate, leNat_zeros]

theorem zeroImg_head (h : List Byte) (hl : h.length = 64) (o n : Nat) (ho : o + n ≤ 64) : imgU (zeroImg h) o n = fieldAt h o n := by
  unfold imgU
  rw [← fieldAt_take _ 64 _ _ ho]
  unfold zeroImg
  rw [List.take_append_of_le_length (by omega), List.take_of_length_le (by omega)]

theorem sumN_zeros (n : Nat) : sumN (List.replicate n 0) = 0 := by
  induction n with
  | zero => rfl
  | succ n ih => simp [List.replicate_succ, sumN, ih]

theorem sgn_zero (n : Nat) (hn : 0 < n) : sgn n 0 = 0 := by
  obtain ⟨m, rfl⟩ := Nat.exists_eq_succ_of_ne_zero (Nat.pos_iff_ne_zero.mp hn)
  unfold sgn
  simp

theorem fitCheck_of (img : List Byte) (h0 : imgU img 0 4 = 0x314D4651) (h4 : imgU img 4 1 = 0x10) (h5 : imgU img 5 1 = 0)
    (h6 : imgU img 6 1 = 64) (h7 : imgU img 7 1 = 128) (h8 : imgU img 8 1 = 32) (h9 : imgU img 9 1 = 0) (h10 : imgU img 10 1 = 0)
    (h11 : imgU img 11 1 = 0) (h12 : imgU img 12 2 = 1) (h14 : imgU img 14 2 = 1)
    (h28 : imgU img 28 4 = crcBytes ((img.drop 64).take 12928)) (h32 : ((img.drop 32).take 32).any (· ≠ 0) = false)
    (hz : ∀ o n, 64 ≤ o → imgU img o n = 0)
    (hs : ∀ o n, 64 ≤ o → sumN (((img.drop o).take n).map fun b => (sgn 8 b.toNat).natAbs) = 0) : fitCheck img 12992 = 0 := by
  have a : ((List.range 128).any fun i => decide (2 ^ 31 - 1 < (sgn 32 (imgU img (12352 + 4 * i) 4)).natAbs +
      128 * sumN (((img.drop (64 + 64 * i)).take 64).map fun b => (sgn 8 b.toNat).natAbs))) = false := by
    rw [List.any_eq_false]; intro i _
    rw [hz _ _ (by omega), hs _ _ (by omega), sgn_zero 32 (by decide)]; decide
  have b : ((List.range 32).any fun o => decide (2 ^ 31 - 1 < (sgn 32 (imgU img (12864 + 4 * o) 4)).natAbs +
      127 * sumN (((img.drop (8256 + 128 * o)).take 128).map fun b => (sgn 8 b.toNat).natAbs))) = false := by
    rw [List.any_eq_false]; intro i _
    rw [hz _ _ (by omega), hs _ _ (by omega), sgn_zero 32 (by decide)]; decide
  have c : ((List.range 128).any fun i => [61, 62, 63].any fun j => decide (imgU img (64 + 64 * i + j) 1 ≠ 0) &&
      !(decide (imgU img 5 1 = 1) && decide (imgU img (64 + 64 * i + j) 1 = 0x80))) = false := by
    rw [List.any_eq_false]; intro i _
    simp only [List.any_cons, List.any_nil, h5, hz (64 + 64 * i + 61) 1 (by omega), hz (64 + 64 * i + 62) 1 (by omega),
      hz (64 + 64 * i + 63) 1 (by omega)]
    decide
  unfold fitCheck
  dsimp only
  rw [if_neg (by decide), if_neg (by rw [h0, h4, h5, h6, h7, h8, h11, h32]; decide), if_neg (by rw [h28]; exact fun h => h rfl),
    if_neg (by rw [h5, h9, h10, h12, h14]; decide), if_neg (by rw [h5]; exact fun h => absurd h.1 (by decide)),
    if_neg (by rw [a, b]; exact fun h => h.2.elim (by decide) (by decide)), if_neg (by rw [c]; decide)]

theorem crcBit_lt (c : Nat) (b : Bool) : crcBit c b < 2 ^ 32 := by
  unfold crcBit
  dsimp only
  split
  · exact Nat.xor_lt_two_pow (Nat.mod_lt _ (by decide)) (by decide)
  · exact Nat.mod_lt _ (by decide)

theorem crc_lt (l : List Byte) : crcBytes l < 2 ^ 32 := by
  unfold crcBytes
  refine Nat.xor_lt_two_pow ?_ (by decide)
  suffices ∀ c < 2 ^ 32, l.foldl (fun c b => (byteBits b).foldl crcBit c) c < 2 ^ 32 from this _ (by decide)
  induction l with
  | nil => exact fun c h => h
  | cons b t ih =>
    intro c hc
    refine ih _ ?_
    suffices ∀ (m : List Bool) (c : Nat), c < 2 ^ 32 → m.foldl crcBit c < 2 ^ 32 from this _ _ hc
    intro m
    induction m with
    | nil => exact fun c h => h
    | cons x m im => exact fun c _ => im _ (crcBit_lt c x)

def zeroHead (c : Nat) : List Byte :=
  leBytes 4 0x314D4651 ++ leBytes 1 0x10 ++ leBytes 1 0 ++ leBytes 1 64 ++ leBytes 1 128 ++ leBytes 1 32 ++ leBytes 3 0 ++
    leBytes 2 1 ++ leBytes 2 1 ++ leBytes 12 0 ++ leBytes 4 c ++ leBytes 32 0

theorem leNat_leBytes (n x : Nat) : leNat (leBytes n x) = x % 256 ^ n := by
  induction n generalizing x with
  | zero => simp [leBytes, leNat, Nat.mod_one]
  | succ n ih =>
    simp only [leBytes, leNat, ih, BitVec.toNat_ofNat]
    have e : 256 ^ (n + 1) = 256 * 256 ^ n := Nat.pow_succ'
    rw [e, Nat.mod_mul]

theorem fitCheck_zeroHead : fitCheck (zeroImg (zeroHead (crcBytes (List.replicate 12928 0)))) 12992 = 0 := by
  have hc := crc_lt (List.replicate 12928 0)
  generalize e : crcBytes (List.replicate 12928 0) = c at hc ⊢
  have hl : (zeroHead c).length = 64 := rfl
  have hd : ∀ o n, o + n ≤ 64 → imgU (zeroImg (zeroHead c)) o n = fieldAt (zeroHead c) o n := fun o n h => zeroImg_head _ hl o n h
  refine fitCheck_of _ (hd _ _ (by decide)) (hd _ _ (by decide)) (hd _ _ (by decide)) (hd _ _ (by decide)) (hd _ _ (by decide))
    (hd _ _ (by decide)) (hd _ _ (by decide)) (hd _ _ (by decide)) (hd _ _ (by decide)) (hd _ _ (by decide)) (hd _ _ (by decide))
    ?_ ?_ (fun o n ho => zeroImg_field _ hl o n ho) ?_
  · rw [hd _ _ (by decide), zeroImg_drop _ hl 64 (by decide), List.take_replicate, Nat.min_eq_left (by decide), e]
    show leNat (leBytes 4 c) = c
    rw [leNat_leBytes]
    exact Nat.mod_eq_of_lt hc
  · unfold zeroImg
    rw [List.drop_append_of_le_length (by rw [hl]; decide), List.take_append_of_le_length (by rw [List.length_drop, hl])]
    rfl
  · intro o n ho
    rw [zeroImg_drop _ hl o ho, List.take_replicate, List.map_replicate]
    exact sumN_zeros _

theorem wit_Firmware_fcstLoadComplete : ∃ (img : List Byte) (peer : Fin 8) (k : Fin 48) (slot : Nat) (d : Desc) (s : State),
    s.running = true ∧ s.fwRunning 0 = true ∧ s.clocked 12 = true ∧ s.fcs.load = some (slot, d) ∧ slot < 48 ∧ img.length = 12992 ∧
    fitCheck img (dB d.w 12 4) = 0 ∧ Reports s d :=
  by
  refine ⟨zeroImg (zeroHead (crcBytes (List.replicate 12928 0))), 0, 0, 5, { ring := 512, idx := 3, w := 12992 * 2 ^ 96 },
    { up with fcs := { up.fcs with load := some (5, { ring := 512, idx := 3, w := 12992 * 2 ^ 96 }) } }, by decide +kernel,
    by decide +kernel, by decide +kernel, rfl, by decide, ?_, ?_, by unfold Reports; decide +kernel⟩
  · unfold zeroImg; rw [List.length_append, List.length_replicate]; rfl
  · have e : dB ({ ring := 512, idx := 3, w := 12992 * 2 ^ 96 } : Desc).w 12 4 = 12992 := by decide +kernel
    rw [e]; exact fitCheck_zeroHead
theorem wit_Firmware_fcstLoadJoint : ∃ (img : List Byte) (peer : Fin 8) (k : Fin 48) (slot : Nat) (d : Desc) (s : State),
    s.running = true ∧ s.fwRunning 0 = true ∧ s.clocked 12 = true ∧ s.isD = true ∧ s.pState = 2 ∧ s.fcs.load = some (slot, d) ∧ slot
    < 48 ∧ img.length = 12992 ∧ fitCheck img (dB d.w 12 4) = 0 :=
  by
  refine ⟨zeroImg (zeroHead (crcBytes (List.replicate 12928 0))), 7, 0, 5, { ring := 512, idx := 3, w := 12992 * 2 ^ 96 },
    { upD with fcs := { upD.fcs with load := some (5, { ring := 512, idx := 3, w := 12992 * 2 ^ 96 }) } }, by decide +kernel,
    by decide +kernel, by decide +kernel, by decide +kernel, by decide +kernel, rfl, by decide, ?_, ?_⟩
  · unfold zeroImg; rw [List.length_append, List.length_replicate]; rfl
  · have e : dB ({ ring := 512, idx := 3, w := 12992 * 2 ^ 96 } : Desc).w 12 4 = 12992 := by decide +kernel
    rw [e]; exact fitCheck_zeroHead

/-! ### A thermal step and slates that pass every check -/

theorem stepX_zero : badNodes (stepX { } [] []) = [] := by
  unfold badNodes
  refine List.filter_eq_nil_iff.mpr fun n hn => ?_
  have hn' : n < 512 := List.mem_range.mp hn
  have e : (stepX { } [] []).getD n 0 =
      dotSegs 2 (dotSegs 2 (dotSegs 4 (dotSegs 4 0 ((List.replicate 512 0).map bf16To32) []) ((List.replicate 512 0).map bf16To32) [])
        ((List.replicate 256 0).map bf16To32) []) ((List.replicate 256 0).map bf16To32) [] := by
    unfold stepX
    have ha : MSet.rowA { } n = List.replicate 512 0 := rfl
    have hb : MSet.rowB { } n = List.replicate 256 0 := rfl
    simp only [List.getD_eq_getElem?_getD, List.getElem?_map, List.getElem?_range hn', Option.map_some, Option.getD_some, List.map_nil, ha, hb]
  rw [e]
  decide +kernel

def stepping : State :=
  let s : State := { up with thm := { up.thm with run := some { t := 0, p := [] } } }
  s.wr THM_STAT_state 0 2

theorem wit_Thermal_thermalStepComplete : ∃ (st : ThmStep) (s : State), s.running = true ∧ s.thm.run = some st ∧ s.rd
    THM_STAT_state = 2 ∧ s.isD = false ∧ badNodes (stepX s.thm.set (correctedX s.thm.x st.corr) st.p) = [] :=
  ⟨{ t := 0, p := [] }, stepping, by decide +kernel, by decide +kernel, by decide +kernel, by decide +kernel, stepX_zero⟩
theorem wit_Thermal_thermalStepBad : ∃ (st : ThmStep) (s : State), s.running = true ∧ s.thm.run = some st ∧ s.rd THM_STAT_state
    = 2 ∧ badNodes (stepX s.thm.set (correctedX s.thm.x st.corr) st.p) ≠ [] :=
  by
  refine ⟨{ t := 0, p := [] }, { stepping with thm := { stepping.thm with x := [0], set := { a := [(0, List.replicate 512 0x7FC0)] } } },
    by decide +kernel, by decide +kernel, by decide +kernel, ?_⟩
  refine List.ne_nil_of_mem (a := 0) ?_
  unfold badNodes
  refine List.mem_filter.mpr ⟨List.mem_range.mpr (by decide), ?_⟩
  unfold stepX
  simp only [List.getD_eq_getElem?_getD, List.getElem?_map, List.getElem?_range (show 0 < 512 by decide), Option.map_some, Option.getD_some]
  decide +kernel

def okRows : MSet := { a := (List.range 512).map fun n => (n, [0x3F80]), period := State.reset.rd THM_STEP_period }

theorem okRows_pass (p : State) (h : p.thm.latest = okRows) (hp : okRows.period = p.rd THM_STEP_period) :
    p.check0060 = none := by
  unfold State.check0060
  dsimp only
  rw [h, if_neg (fun e => e hp)]
  unfold lowBad
  refine List.find?_eq_none.mpr fun n hn => ?_
  have e : okRows.rowBad n = MSet.rowBad { a := [(0, [0x3F80])] } 0 := by
    unfold MSet.rowBad
    rw [show mget okRows.a n [] = [0x3F80] from mget_full _ _ 512 n (List.mem_range.mp hn)]
    rfl
  rw [e]
  decide +kernel

theorem checkAll_none (b p : State) (sh : Shadow) (h1 : State.check0001 b p = none) (h2 : check0002 sh = none)
    (h3 : b.check0003 sh = none) (h4 : p.check0010 = none) (h5 : p.check0011 = none) (h6 : p.check0020 sh = none)
    (h7 : p.check0030 = none ∧ p.check0031 = none ∧ p.check0032 = none ∧ p.check0033 = none)
    (h8 : p.check0034 = none ∧ p.check0035 = none ∧ p.check0036 = none ∧ State.check0040 b p = none)
    (h9 : p.check0050 = none ∧ p.check0051 = none) (h10 : p.check0060 = none)
    (h11 : p.check0061 = none ∧ p.check0062 = none ∧ p.check0063 = none)
    (h12 : p.check0070 = none ∧ p.check0071 = none ∧ p.check0072 = none ∧ p.check0080 = none)
    (h13 : State.check0090 b p = none ∧ p.check00A0 = none) : checkAll b p sh = none := by
  unfold checkAll
  rw [h1, h2, h3, h4, h5, h6, h7.1, h7.2.1, h7.2.2.1, h7.2.2.2, h8.1, h8.2.1, h8.2.2.1, h8.2.2.2, h9.1, h9.2, h10, h11.1, h11.2.1,
    h11.2.2, h12.1, h12.2.1, h12.2.2.1, h12.2.2.2, h13.1, h13.2]
  rfl

def openSlate (d : Desc) (jobs : List TakeJob) : State :=
  let s : State := { up with thm := { up.thm with set := okRows } }
  let s : State := { s with hif := { s.hif with units := [d] } }
  let s : State := s.setSlateRaw 3 { s.slate 3 with state := 1 }
  { s with slt := { s.slt with jobs := jobs } }
def armed (n : Nat) : List TakeJob := (List.range n).map fun k => { slate := k + 4, handle := k + 4, desc := none, phase := 1 }

/-- The slate's check, once its descriptor has been taken. -/
def checked (jobs : List TakeJob) : State :=
  { openSlate { ring := 0, idx := 0, w := 0 } jobs with hif := { (openSlate { ring := 0, idx := 0, w := 0 } jobs).hif with units := [] } }

theorem openSlate_picked (d : Desc) (jobs : List TakeJob) :
    (picked (openSlate d jobs) d).checkShadow ((picked (openSlate d jobs) d).shadowOf ((openSlate d jobs).slate 3)) =
      (checked jobs).checkShadow ((checked jobs).shadowOf ((checked jobs).slate 3)) := by
  have e : picked (openSlate d jobs) d = checked jobs := by
    unfold picked
    have u : (openSlate d jobs).hif.units = [d] := rfl
    rw [u, List.erase_cons_head]
    rfl
  rw [e]; rfl

theorem passes0 : (checked []).checkShadow ((checked []).shadowOf ((checked []).slate 3)) = none := by
  unfold State.checkShadow
  refine checkAll_none _ _ _ ?_ ?_ ?_ ?_ ?_ ?_ ?_ ?_ ?_ (okRows_pass _ ?_ ?_) ?_ ?_ ?_ <;> decide +kernel

theorem passes4 : (checked (armed 4)).checkShadow ((checked (armed 4)).shadowOf ((checked (armed 4)).slate 3)) = none := by
  unfold State.checkShadow
  refine checkAll_none _ _ _ ?_ ?_ ?_ ?_ ?_ ?_ ?_ ?_ ?_ (okRows_pass _ ?_ ?_) ?_ ?_ ?_ <;> decide +kernel

def dCheck : Desc := { ring := 512, idx := 3, w := 0x12 + 3 * 2 ^ 64 }
def dTake : Desc := { ring := 512, idx := 3, w := 0x13 + 3 * 2 ^ 64 }

theorem wit_Slate_slateCheck : ∃ (d : Desc) (k : Nat) (s : State), s.running = true ∧ InTurn s (fun d => decide (dOp d.w =
    0x12)) d ∧ Reports s d ∧ s.slateOf (dB d.w 8 2) = some k ∧ (s.slate k).state = 1 ∧ (picked s d).checkShadow ((picked s
    d).shadowOf (s.slate k)) = none :=
  ⟨dCheck, 3, openSlate dCheck (armed 4), by decide +kernel, by unfold InTurn; decide +kernel, by unfold Reports; decide +kernel,
    by decide +kernel, by decide +kernel, (openSlate_picked _ _).trans passes4⟩

theorem wit_Slate_take : ∃ (d : Desc) (k : Nat) (s : State), s.running = true ∧ s.copyFree = true ∧ InTurn s (fun d => decide
    (dOp d.w = 0x13)) d ∧ s.slateOf (dB d.w 8 2) = some k ∧ (s.slate k).state = 1 ∧ (picked s d).checkShadow ((picked s d).shadowOf
    (s.slate k)) = none ∧ dB d.w 10 1 = 0 ∧ s.armStatus (some (if dB d.w 16 8 ≠ 0 then dB d.w 16 8 else s.ts + (s.slate k).lines +
    1)) = 0 :=
  ⟨dTake, 3, openSlate dTake [], by decide +kernel, by decide +kernel, by unfold InTurn; decide +kernel, by decide +kernel, by decide +kernel,
    (openSlate_picked _ _).trans passes0, by decide +kernel, by decide +kernel⟩

theorem wit_Slate_takeLimit : ∃ (d : Desc) (k : Nat) (s : State), s.running = true ∧ s.copyFree = true ∧ InTurn s (fun d =>
    decide (dOp d.w = 0x13)) d ∧ Reports s d ∧ s.slateOf (dB d.w 8 2) = some k ∧ (s.slate k).state = 1 ∧ (picked s d).checkShadow
    ((picked s d).shadowOf (s.slate k)) = none ∧ 4 ≤ s.armedTakes.length :=
  ⟨dTake, 3, openSlate dTake (armed 4), by decide +kernel, by decide +kernel, by unfold InTurn; decide +kernel, by unfold Reports; decide +kernel,
    by decide +kernel, by decide +kernel, (openSlate_picked _ _).trans passes4, by decide +kernel⟩

end Sys2Proof.Tests
end

section
/-!
PROOF. Serial comparison (R12): the difference of two n-bit values, and what laterSer decides of it.
-/
namespace Sys2Proof

/-- Below 2^n the reference needs no reduction, and laterSer is R12's test of the difference. -/
theorem laterSer_eq_true_iff {n a : Nat} (b : Nat) (ha : a < 2 ^ n) :
    laterSer b a n = true ↔ 1 ≤ (b + 2 ^ n - a) % 2 ^ n ∧ (b + 2 ^ n - a) % 2 ^ n ≤ 2 ^ (n - 1) - 1 := by
  simp only [laterSer, Nat.mod_eq_of_lt ha, Bool.and_eq_true, decide_eq_true_eq]

/-- Two n-bit values differ by 0 only if they are the same: the difference wraps exactly where b is not below a. -/
theorem serialDiff_eq_zero_iff {n a b : Nat} (ha : a < 2 ^ n) (hb : b < 2 ^ n) :
    (b + 2 ^ n - a) % 2 ^ n = 0 ↔ b = a := by
  rcases Nat.lt_or_ge b a with hlt | hge
  · have hd : (b + 2 ^ n - a) % 2 ^ n = b + 2 ^ n - a := Nat.mod_eq_of_lt (by omega)
    omega
  · have hd : (b + 2 ^ n - a) % 2 ^ n = b - a := by
      rw [Nat.sub_add_comm hge, Nat.add_mod_right, Nat.mod_eq_of_lt (by omega)]
    omega

/-- What is not later is equal or at least half the number space away; the case of exactly half counts as earlier. -/
theorem laterSer_eq_false_iff {n a b : Nat} (ha : a < 2 ^ n) (hb : b < 2 ^ n) :
    laterSer b a n = false ↔ b = a ∨ 2 ^ (n - 1) ≤ (b + 2 ^ n - a) % 2 ^ n := by
  have hhalf : 0 < 2 ^ (n - 1) := Nat.two_pow_pos (n - 1)
  rw [← Bool.not_eq_true, laterSer_eq_true_iff b ha, ← serialDiff_eq_zero_iff ha hb]
  omega

/-- Settles O57: the three cases of R12 and its two examples at n = 8. -/
theorem serialOrder : Obligations.SerialOrder := by
  unfold Obligations.SerialOrder Claims.serialOrder
  intro n a b _ ha hb
  exact ⟨laterSer_eq_true_iff b ha, serialDiff_eq_zero_iff ha hb, laterSer_eq_false_iff ha hb, by decide, by decide⟩

end Sys2Proof
end

section
/-!
PROOF. The order of releases (R186): the queue's next release is the least by deadline, k and context, and it is not issued at or after
its deadline.
-/
namespace Sys2Proof.Machine

/-- What the releases of the queue are ordered by, the first that differs deciding: deadline, k, context number (R186). -/
def relKey (r : Rel) : ℕ ×ₗ ℕ ×ₗ ℕ := toLex (r.dead, toLex (r.k, r.ctx))

/-- relBefore is the strict order of the keys. -/
theorem relBefore_iff_relKey_lt (a b : Rel) : relBefore a b = true ↔ relKey a < relKey b := by
  simp only [relKey, Prod.Lex.toLex_lt_toLex, relBefore]
  split_ifs with hdead hk <;> simp only [decide_eq_true_eq] <;> omega

theorem relKey_le_iff (a b : Rel) :
    relKey a ≤ relKey b ↔ a.dead < b.dead ∨ (a.dead = b.dead ∧ (a.k < b.k ∨ (a.k = b.k ∧ a.ctx ≤ b.ctx))) := by
  simp only [relKey, Prod.Lex.toLex_le_toLex]

/-- The queue's scan for the next release is the library's search for the least key. -/
theorem State.relHead_eq_argmin (s : State) : s.relHead = s.lpe.queue.argmin relKey := by
  unfold State.relHead
  cases s.lpe.queue with
  | nil => rfl
  | cons r t =>
    refine (List.foldl_hom some fun m x => ?_).symm
    simp only [List.argAux, relBefore_iff_relKey_lt, apply_ite some]

theorem State.relHead_mem {s : State} {r : Rel} (h : s.relHead = some r) : r ∈ s.lpe.queue :=
  List.argmin_mem (s.relHead_eq_argmin ▸ h)

theorem State.relHead_relKey_le {s : State} {r x : Rel} (h : s.relHead = some r) (hx : x ∈ s.lpe.queue) : relKey r ≤ relKey x :=
  List.le_of_mem_argmin hx (s.relHead_eq_argmin ▸ h)

/-- An evaluation does not issue a release whose deadline has come; dropping it is left to the overrun rule (R198). -/
theorem loopEvaluation_eq_self_of_dead_le {s : State} {r : Rel} (late : Bool) (h : s.relHead = some r) (hdead : r.dead ≤ s.ts) :
    loopEvaluation late s = s := by
  simp only [loopEvaluation, h, decide_eq_false (Nat.not_lt.mpr hdead), Bool.and_false, Bool.false_eq_true, if_false]

theorem exec_loopEvaluation (late : Bool) (s : State) : exec (.loopEvaluation late) s = hubOn (loopEvaluation late) s := by
  rfl

/-- A meaning that keeps the state answers that state, in die reset and out of it. -/
theorem hubOn_eq_next_self {f : State → State} {s : State} (h : f s = s) : hubOn f s = .next s := by
  unfold hubOn
  rw [h, ite_self]

/-- Settles O58: the release issued next has the least key of the queue, and an evaluation at or after its deadline keeps the state. -/
theorem releaseOrder : Obligations.ReleaseOrder := by
  unfold Obligations.ReleaseOrder Claims.releaseOrder
  refine ⟨fun r x s hhead hx => ⟨State.relHead_mem hhead, (relKey_le_iff r x).mp (State.relHead_relKey_le hhead hx)⟩, ?_⟩
  intro late r s t hhead hdead hexec
  rw [exec_loopEvaluation, hubOn_eq_next_self (loopEvaluation_eq_self_of_dead_le late hhead hdead)] at hexec
  exact (Host.Outcome.next.inj hexec).symm

end Sys2Proof.Machine
end

section
/-!
PROOF. The decay of a member (R351): beside the bound by safe it scales x by (256 - rate) / 256, a factor of at most 1, and below 1
where rate is above 0.
-/
namespace Sys2Proof.Machine

theorem decay_le_self (safe rate x : Nat) : decay safe rate x ≤ x := by
  have hscaled : x * (256 - rate) / 256 ≤ x := by
    refine Nat.div_le_of_le_mul ?_
    rw [Nat.mul_comm 256 x]
    exact Nat.mul_le_mul_left x (Nat.sub_le 256 rate)
  exact max_le (min_le_right safe x) hscaled

theorem min_safe_le_decay (safe rate x : Nat) : min safe x ≤ decay safe rate x :=
  le_max_left _ _

theorem decay_lt_self {safe rate x : Nat} (hrate : 0 < rate) (hsafe : safe < x) : decay safe rate x < x := by
  have hfactor : 256 - rate < 256 := Nat.sub_lt (by decide) hrate
  have hscaled : x * (256 - rate) / 256 < x := by
    refine Nat.div_lt_of_lt_mul ?_
    rw [Nat.mul_comm 256 x]
    exact Nat.mul_lt_mul_of_pos_left hfactor (Nat.zero_lt_of_lt hsafe)
  exact max_lt (min_lt_of_left_lt hsafe) hscaled

theorem decay_monotone (safe rate : Nat) : Monotone (decay safe rate) := fun _ _ hxy =>
  max_le_max (min_le_min_left safe hxy) (Nat.div_le_div_right (Nat.mul_le_mul_right (256 - rate) hxy))

/-- Settles O56: the decay is the larger of the two terms of R351, each of them at most x and monotone in x. -/
theorem decayFalls : Obligations.DecayFalls := by
  unfold Obligations.DecayFalls Claims.decayFalls
  exact fun safe rate x =>
    ⟨rfl, decay_le_self safe rate x, min_safe_le_decay safe rate x, decay_lt_self, fun _ hxy => decay_monotone safe rate hxy⟩

end Sys2Proof.Machine
end

section
/-!
PROOF. The frames: what a command leaves is read off its footprint (Laws/Keeps.lean). One check by computation for each command: the
footprint's fields, blocks and components against those that the statement lists.
-/
namespace Sys2Proof.Machine
open Sys2Proof.Claims

set_option Elab.async false

/-- The footprint m names no field outside fs, the blocks us and the components ps, and no fused value. -/
def footprintWithin (m : Nat) (fs : List Fld) (us : List Nat) (ps : List Part) : Bool :=
  covers (footFlds m) fs && decide (footUnits m = us) && decide (footParts m = ps) && !m.testBit 3

/-- A command whose footprint m is within the lists leaves all that they do not name. -/
theorem leaves_of_footprint {c : Instr} {fs : List Fld} {us : List Nat} {ps : List Part} (m : Nat) (hfoot : footprint c = m)
    (hwithin : footprintWithin m fs us ps = true) : Leaves c fs us ps := by
  simp only [footprintWithin, Bool.and_eq_true, decide_eq_true_eq, Bool.not_eq_true'] at hwithin
  obtain ⟨⟨⟨hfields, hblocks⟩, hparts⟩, hfuse⟩ := hwithin
  exact exec_keeps hfoot hfields hblocks hparts hfuse

/-- Settles O33: the footprint of each of the sensing, choker, tap and tally commands is within its clause's lists. -/
theorem frameSensing : Obligations.FrameSensing :=
  ⟨fun _ => leaves_of_footprint execPhaseFrozen_foot rfl (by decide +kernel),
    fun _ => leaves_of_footprint execPhaseStale_foot rfl (by decide +kernel),
    fun _ => leaves_of_footprint execPhaseTempStale_foot rfl (by decide +kernel),
    fun _ _ _ => leaves_of_footprint execTlmFrame_foot rfl (by decide +kernel),
    fun _ => leaves_of_footprint execTlmLaneDark_foot rfl (by decide +kernel),
    fun _ => leaves_of_footprint execRecallEligible_foot rfl (by decide +kernel),
    leaves_of_footprint execRecallNoProgress_foot rfl (by decide +kernel),
    fun _ => leaves_of_footprint execRequestAged_foot rfl (by decide +kernel),
    fun _ => leaves_of_footprint execReservationMet_foot rfl (by decide +kernel),
    fun _ => leaves_of_footprint execReservationRecall_foot rfl (by decide +kernel),
    fun _ => leaves_of_footprint execReservationTake_foot rfl (by decide +kernel),
    fun _ => leaves_of_footprint execStepPresent_foot rfl (by decide +kernel),
    fun _ => leaves_of_footprint execTallyAdmit_foot rfl (by decide +kernel),
    fun _ _ _ => leaves_of_footprint execTallyAutoRelease_foot rfl (by decide +kernel),
    fun _ => leaves_of_footprint execTallyGrant_foot rfl (by decide +kernel),
    fun _ => leaves_of_footprint execTallyRegrant_foot rfl (by decide +kernel),
    fun _ _ _ _ => leaves_of_footprint execTallyRelease_foot rfl (by decide +kernel),
    fun _ _ _ _ _ => leaves_of_footprint execTallyRequest_foot rfl (by decide +kernel),
    fun _ => leaves_of_footprint execTallyRequestPresent_foot rfl (by decide +kernel),
    fun _ _ _ _ => leaves_of_footprint execChokerWindow_foot rfl (by decide +kernel),
    fun _ _ _ => leaves_of_footprint execDroopDetect_foot rfl (by decide +kernel),
    fun _ => leaves_of_footprint execDroopHoldExpire_foot rfl (by decide +kernel),
    leaves_of_footprint execFirebreakHoldoffExpire_foot rfl (by decide +kernel),
    leaves_of_footprint execRampTick_foot rfl (by decide +kernel),
    fun _ _ _ => leaves_of_footprint execSnsDrpForceWrite_foot rfl (by decide +kernel),
    leaves_of_footprint execVrAlertAssert_foot rfl (by decide +kernel),
    leaves_of_footprint execVrAlertNegate_foot rfl (by decide +kernel),
    fun _ _ _ => leaves_of_footprint execBeginStrobe_foot rfl (by decide +kernel),
    fun _ _ _ _ => leaves_of_footprint execDispatch_foot rfl (by decide +kernel),
    fun _ _ _ => leaves_of_footprint execEndStrobe_foot rfl (by decide +kernel),
    fun _ _ _ => leaves_of_footprint execSquashStrobe_foot rfl (by decide +kernel)⟩

/-- Settles O34: the footprint of each of the core-rail and auxiliary-rail commands is within its clause's lists. -/
theorem frameRails : Obligations.FrameRails :=
  ⟨leaves_of_footprint execCoreStartDelay_foot rfl (by decide +kernel),
    leaves_of_footprint execDeEnter_foot rfl (by decide +kernel),
    leaves_of_footprint execEnableDrop_foot rfl (by decide +kernel),
    leaves_of_footprint execITotFormed_foot rfl (by decide +kernel),
    leaves_of_footprint execOverVoltage_foot rfl (by decide +kernel),
    fun _ => leaves_of_footprint execPhaseLeadingEdge_foot rfl (by decide +kernel),
    fun _ => leaves_of_footprint execPidSample_foot rfl (by decide +kernel),
    fun _ => leaves_of_footprint execPmbAlert_foot rfl (by decide +kernel),
    leaves_of_footprint execPmbAlertMaskEnd_foot rfl (by decide +kernel),
    leaves_of_footprint execPmbBusFree_foot rfl (by decide +kernel),
    fun _ => leaves_of_footprint execPmbBusStuck_foot rfl (by decide +kernel),
    leaves_of_footprint execPmbGroupOffTimeout_foot rfl (by decide +kernel),
    leaves_of_footprint execPmbGroupRetry_foot rfl (by decide +kernel),
    leaves_of_footprint execPmbGroupStart_foot rfl (by decide +kernel),
    leaves_of_footprint execPmbGroupTimeout_foot rfl (by decide +kernel),
    leaves_of_footprint execPmbSweepStart_foot rfl (by decide +kernel),
    fun _ _ => leaves_of_footprint execPmbTransactionDone_foot rfl (by decide +kernel),
    leaves_of_footprint execPwmPeriodStart_foot rfl (by decide +kernel),
    fun _ => leaves_of_footprint execTrackDelivery_foot rfl (by decide +kernel),
    leaves_of_footprint execTrackHoldTimeout_foot rfl (by decide +kernel),
    leaves_of_footprint execUvTimeout_foot rfl (by decide +kernel),
    leaves_of_footprint execVrefRampStep_foot rfl (by decide +kernel)⟩

/-- Settles O35: the footprint of each of the forecast, loop and thermal commands is within its clause's lists. -/
theorem frameLoops : Obligations.FrameLoops :=
  ⟨leaves_of_footprint execAnchorPublish_foot rfl (by decide +kernel),
    leaves_of_footprint execCalibrationApply_foot rfl (by decide +kernel),
    leaves_of_footprint execMeasFinalise_foot rfl (by decide +kernel),
    fun _ => leaves_of_footprint execForecastOutput_foot rfl (by decide +kernel),
    fun _ _ => leaves_of_footprint execLnModeChange_foot rfl (by decide +kernel),
    fun _ => leaves_of_footprint execPeriodicSnapshot_foot rfl (by decide +kernel),
    fun _ => leaves_of_footprint execPromptSnapshot_foot rfl (by decide +kernel),
    fun _ => leaves_of_footprint execLoopEvaluation_foot rfl (by decide +kernel),
    fun _ _ => leaves_of_footprint execLoopRelease_foot rfl (by decide +kernel),
    leaves_of_footprint execLoopSkip_foot rfl (by decide +kernel),
    fun _ _ _ => leaves_of_footprint execAnchorConversion_foot rfl (by decide +kernel),
    leaves_of_footprint execAnchorCorrection_foot rfl (by decide +kernel),
    leaves_of_footprint execBandFall_foot rfl (by decide +kernel),
    leaves_of_footprint execCplateLocal_foot rfl (by decide +kernel),
    leaves_of_footprint execModelInit_foot rfl (by decide +kernel),
    leaves_of_footprint execReinitRecover_foot rfl (by decide +kernel),
    leaves_of_footprint execShutdownDrainExpire_foot rfl (by decide +kernel),
    leaves_of_footprint execThermalStep_foot rfl (by decide +kernel),
    leaves_of_footprint execThermalStepComplete_foot rfl (by decide +kernel),
    fun _ => leaves_of_footprint execThmTinWrite_foot rfl (by decide +kernel)⟩

/-- Settles O36: the footprint of each of the ring and account commands is within its clause's lists. -/
theorem frameRings : Obligations.FrameRings :=
  ⟨leaves_of_footprint execBucketLeak_foot rfl (by decide +kernel),
    fun _ _ _ => leaves_of_footprint execDescriptorFetched_foot rfl (by decide +kernel),
    fun _ _ _ _ => leaves_of_footprint execDoorbellBadAccess_foot rfl (by decide +kernel),
    fun _ _ => leaves_of_footprint execDoorbellCqHeadWrite_foot rfl (by decide +kernel),
    fun _ _ => leaves_of_footprint execDoorbellProdWrite_foot rfl (by decide +kernel),
    fun _ => leaves_of_footprint execDoorbellStray_foot rfl (by decide +kernel),
    leaves_of_footprint execFp2Turn_foot rfl (by decide +kernel),
    leaves_of_footprint execHello_foot rfl (by decide +kernel),
    fun _ => leaves_of_footprint execHifSctlWrite_foot rfl (by decide +kernel),
    leaves_of_footprint execQuarantineReset_foot rfl (by decide +kernel),
    fun _ => leaves_of_footprint execQuarantineResetDrained_foot rfl (by decide +kernel),
    leaves_of_footprint execQuarantineResume_foot rfl (by decide +kernel),
    leaves_of_footprint execJobClose_foot rfl (by decide +kernel),
    leaves_of_footprint execJobOpen_foot rfl (by decide +kernel),
    leaves_of_footprint execReadEnergy_foot rfl (by decide +kernel),
    fun _ _ _ _ _ => leaves_of_footprint execReconciliation_foot rfl (by decide +kernel),
    leaves_of_footprint execSetTenantCap_foot rfl (by decide +kernel)⟩

/-- Settles O37: the footprint of each of the recorder, flash, SMBus and memory commands is within its clause's lists. -/
theorem frameStore : Obligations.FrameStore :=
  ⟨leaves_of_footprint execEventRecordAccept_foot rfl (by decide +kernel),
    fun _ => leaves_of_footprint execEvtCivLatch_foot rfl (by decide +kernel),
    leaves_of_footprint execEvtClear_foot rfl (by decide +kernel),
    leaves_of_footprint execEvtRead_foot rfl (by decide +kernel),
    leaves_of_footprint execHeartwoodProgram_foot rfl (by decide +kernel),
    leaves_of_footprint execTimeSet_foot rfl (by decide +kernel),
    leaves_of_footprint execFlashOpDone_foot rfl (by decide +kernel),
    fun _ => leaves_of_footprint execFlashOpTimeout_foot rfl (by decide +kernel),
    leaves_of_footprint execFp3StartupRestore_foot rfl (by decide +kernel),
    leaves_of_footprint execLastFaultFlashWrite_foot rfl (by decide +kernel),
    leaves_of_footprint execMirrorDeferExpire_foot rfl (by decide +kernel),
    fun _ => leaves_of_footprint execSmbAnchorHi_foot rfl (by decide +kernel),
    fun _ => leaves_of_footprint execSmbAnchorLo_foot rfl (by decide +kernel),
    leaves_of_footprint execSmbBusTimeout_foot rfl (by decide +kernel),
    fun _ _ => leaves_of_footprint execSmbEvtData_foot rfl (by decide +kernel),
    fun _ _ _ _ => leaves_of_footprint execSmbEvtSel_foot rfl (by decide +kernel),
    fun _ => leaves_of_footprint execSmbIdent_foot rfl (by decide +kernel),
    fun _ => leaves_of_footprint execSmbLastf_foot rfl (by decide +kernel),
    fun _ => leaves_of_footprint execSmbLastfPageRead_foot rfl (by decide +kernel),
    fun _ _ _ => leaves_of_footprint execSmbLastfPageWrite_foot rfl (by decide +kernel),
    fun _ => leaves_of_footprint execSmbPower_foot rfl (by decide +kernel),
    fun _ => leaves_of_footprint execSmbStatus_foot rfl (by decide +kernel),
    fun _ => leaves_of_footprint execSmbTempHot_foot rfl (by decide +kernel),
    fun _ => leaves_of_footprint execSmbTime_foot rfl (by decide +kernel),
    fun _ => leaves_of_footprint execSmbTinRead_foot rfl (by decide +kernel),
    fun _ _ _ => leaves_of_footprint execSmbTinWrite_foot rfl (by decide +kernel),
    fun _ => leaves_of_footprint execSmbUndefinedCommand_foot rfl (by decide +kernel),
    fun _ _ => leaves_of_footprint execBackgroundTest_foot rfl (by decide +kernel),
    fun _ _ _ _ _ _ => leaves_of_footprint execFirmwareMemoryAccess_foot rfl (by decide +kernel),
    fun _ _ => leaves_of_footprint execMemBuRead_foot rfl (by decide +kernel),
    leaves_of_footprint execMemBuReadDone_foot rfl (by decide +kernel)⟩

/-- Settles O38: the footprint of each of the slate, take and firmware commands is within its clause's lists. -/
theorem frameTakes : Obligations.FrameTakes :=
  ⟨leaves_of_footprint execAbandon_foot rfl (by decide +kernel),
    leaves_of_footprint execSlateOpen_foot rfl (by decide +kernel),
    fun _ => leaves_of_footprint execSlateWrite_foot rfl (by decide +kernel),
    leaves_of_footprint execFcstLoad_foot rfl (by decide +kernel),
    fun _ _ _ _ => leaves_of_footprint execFcstLoadComplete_foot rfl (by decide +kernel),
    fun _ _ => leaves_of_footprint execFwException_foot rfl (by decide +kernel),
    fun _ _ => leaves_of_footprint execFwImageLoaded_foot rfl (by decide +kernel),
    leaves_of_footprint execSlot0Load_foot rfl (by decide +kernel),
    fun _ => leaves_of_footprint execWatchdogExpire_foot rfl (by decide +kernel),
    fun _ => leaves_of_footprint execWatchdogStrike_foot rfl (by decide +kernel),
    fun _ _ _ => leaves_of_footprint execBridgeAbort_foot rfl (by decide +kernel),
    fun _ _ _ => leaves_of_footprint execBridgeAck_foot rfl (by decide +kernel),
    fun _ _ _ => leaves_of_footprint execBridgeCommit_foot rfl (by decide +kernel),
    fun _ _ _ => leaves_of_footprint execBridgeDone_foot rfl (by decide +kernel),
    fun _ _ _ => leaves_of_footprint execBridgePrepare_foot rfl (by decide +kernel),
    fun _ _ _ => leaves_of_footprint execBridgeReady_foot rfl (by decide +kernel),
    fun _ _ _ => leaves_of_footprint execBridgeRefuse_foot rfl (by decide +kernel),
    leaves_of_footprint execPairPrepareTimeout_foot rfl (by decide +kernel),
    leaves_of_footprint execSlateCheck_foot rfl (by decide +kernel),
    leaves_of_footprint execTake_foot rfl (by decide +kernel),
    fun _ => leaves_of_footprint execTakeApply_foot rfl (by decide +kernel),
    leaves_of_footprint execTakeArmed_foot rfl (by decide +kernel)⟩

/-- Settles O39: the footprint of each of the trace, counter, fan and clock commands is within its clause's lists. -/
theorem frameObserve : Obligations.FrameObserve :=
  ⟨leaves_of_footprint execCntDump_foot rfl (by decide +kernel),
    leaves_of_footprint execCntZero_foot rfl (by decide +kernel),
    leaves_of_footprint execStepAdd_foot rfl (by decide +kernel),
    leaves_of_footprint execStepEnter_foot rfl (by decide +kernel),
    leaves_of_footprint execStepLeave_foot rfl (by decide +kernel),
    fun _ => leaves_of_footprint execTraceConsumedReread_foot rfl (by decide +kernel),
    leaves_of_footprint execTraceFlush_foot rfl (by decide +kernel),
    leaves_of_footprint execTraceGroupWrite_foot rfl (by decide +kernel),
    leaves_of_footprint execTraceHeaderUpdate_foot rfl (by decide +kernel),
    leaves_of_footprint execTraceSample_foot rfl (by decide +kernel),
    leaves_of_footprint execTraceStart_foot rfl (by decide +kernel),
    leaves_of_footprint execTraceStop_foot rfl (by decide +kernel),
    leaves_of_footprint execTraceTimeGroup_foot rfl (by decide +kernel),
    leaves_of_footprint execWfgAutoTrigger_foot rfl (by decide +kernel),
    leaves_of_footprint execWfgComplete_foot rfl (by decide +kernel),
    fun _ => leaves_of_footprint execWfgStart_foot rfl (by decide +kernel),
    fun _ => leaves_of_footprint execFanPwmPeriod_foot rfl (by decide +kernel),
    fun _ => leaves_of_footprint execFanRestEnd_foot rfl (by decide +kernel),
    fun _ => leaves_of_footprint execFanSpinupEnd_foot rfl (by decide +kernel),
    fun _ => leaves_of_footprint execTachEdge_foot rfl (by decide +kernel),
    fun _ => leaves_of_footprint execTachTimeout_foot rfl (by decide +kernel),
    leaves_of_footprint execDvfsHalfParked_foot rfl (by decide +kernel),
    leaves_of_footprint execDvfsLockTimeout_foot rfl (by decide +kernel),
    fun _ => leaves_of_footprint execDvfsRequest_foot rfl (by decide +kernel),
    leaves_of_footprint execDvfsRetry_foot rfl (by decide +kernel),
    leaves_of_footprint execDvfsSwitch_foot rfl (by decide +kernel),
    leaves_of_footprint execDvfsVoltageReady_foot rfl (by decide +kernel),
    fun _ => leaves_of_footprint execFmDone_foot rfl (by decide +kernel),
    fun _ => leaves_of_footprint execFmStart_foot rfl (by decide +kernel),
    fun _ _ => leaves_of_footprint execOutpostRelease_foot rfl (by decide +kernel),
    fun _ _ => leaves_of_footprint execOutpostReset_foot rfl (by decide +kernel),
    fun _ => leaves_of_footprint execTsResync_foot rfl (by decide +kernel)⟩

/-- Settles O40: the footprint of each of the Salgor commands is within its clause's lists. -/
theorem frameSalgor : Obligations.FrameSalgor :=
  ⟨fun _ _ _ => leaves_of_footprint execClapReq_foot rfl (by decide +kernel),
    fun _ _ _ => leaves_of_footprint execClapRsp_foot rfl (by decide +kernel),
    leaves_of_footprint execClapRun_foot rfl (by decide +kernel),
    leaves_of_footprint execClapRunEnd_foot rfl (by decide +kernel),
    leaves_of_footprint execCoordinatorAlone_foot rfl (by decide +kernel),
    fun _ _ => leaves_of_footprint execCsync_foot rfl (by decide +kernel),
    fun _ _ => leaves_of_footprint execCsyncAck_foot rfl (by decide +kernel),
    leaves_of_footprint execCsyncSend_foot rfl (by decide +kernel),
    fun _ _ => leaves_of_footprint execDemand_foot rfl (by decide +kernel),
    leaves_of_footprint execDemandSend_foot rfl (by decide +kernel),
    leaves_of_footprint execEpochBoundary_foot rfl (by decide +kernel),
    fun _ _ => leaves_of_footprint execGrant_foot rfl (by decide +kernel),
    leaves_of_footprint execGrantSend_foot rfl (by decide +kernel),
    fun _ _ => leaves_of_footprint execHeartbeat_foot rfl (by decide +kernel),
    fun _ _ => leaves_of_footprint execLeave_foot rfl (by decide +kernel),
    fun _ _ => leaves_of_footprint execMgtForward_foot rfl (by decide +kernel),
    leaves_of_footprint execOrphanTimeout_foot rfl (by decide +kernel),
    leaves_of_footprint execSalgorCutOff_foot rfl (by decide +kernel),
    fun _ _ => leaves_of_footprint execVersion_foot rfl (by decide +kernel),
    leaves_of_footprint execVersionResend_foot rfl (by decide +kernel)⟩

/-- Settles O41: the footprint of each of the bridge commands is within its clause's lists. -/
theorem framePair : Obligations.FramePair :=
  ⟨leaves_of_footprint execBridgeCheckpointTimer_foot rfl (by decide +kernel),
    fun _ _ _ => leaves_of_footprint execBridgeCkpt_foot rfl (by decide +kernel),
    leaves_of_footprint execBridgeClapSend_foot rfl (by decide +kernel),
    fun _ _ _ => leaves_of_footprint execBridgeCplate_foot rfl (by decide +kernel),
    fun _ _ _ => leaves_of_footprint execBridgeDiepwr_foot rfl (by decide +kernel),
    fun _ _ _ => leaves_of_footprint execBridgeHandover_foot rfl (by decide +kernel),
    fun _ _ _ => leaves_of_footprint execBridgeHb_foot rfl (by decide +kernel),
    fun _ _ _ => leaves_of_footprint execBridgeLedger_foot rfl (by decide +kernel),
    leaves_of_footprint execBridgeLoss_foot rfl (by decide +kernel),
    fun _ _ _ => leaves_of_footprint execBridgeMack_foot rfl (by decide +kernel),
    fun _ _ _ => leaves_of_footprint execBridgeMirror_foot rfl (by decide +kernel),
    fun _ _ _ _ => leaves_of_footprint execBridgePclapReq_foot rfl (by decide +kernel),
    fun _ _ _ _ => leaves_of_footprint execBridgePclapRsp_foot rfl (by decide +kernel),
    fun _ _ _ => leaves_of_footprint execBridgePkg_foot rfl (by decide +kernel),
    leaves_of_footprint execBridgeRetransmit_foot rfl (by decide +kernel),
    fun _ _ _ => leaves_of_footprint execBridgeSalg_foot rfl (by decide +kernel),
    fun _ _ _ => leaves_of_footprint execBridgeSync_foot rfl (by decide +kernel),
    leaves_of_footprint execBridgeUp_foot rfl (by decide +kernel),
    leaves_of_footprint execPairTakeover_foot rfl (by decide +kernel)⟩

/-- Settles O42: the footprint of each of the start-up, register and boundary commands is within its clause's lists. -/
theorem frameStart : Obligations.FrameStart :=
  ⟨leaves_of_footprint execDieResetRelease_foot rfl (by decide +kernel),
    leaves_of_footprint execPllLock_foot rfl (by decide +kernel),
    leaves_of_footprint execPllLockLoss_foot rfl (by decide +kernel),
    leaves_of_footprint execPllLockTimeout_foot rfl (by decide +kernel),
    leaves_of_footprint execPoresetAssert_foot rfl (by decide +kernel),
    leaves_of_footprint execPoresetNegate_foot rfl (by decide +kernel),
    leaves_of_footprint execPowerDownEnd_foot rfl (by decide +kernel),
    leaves_of_footprint execQuefaReadyAssert_foot rfl (by decide +kernel),
    leaves_of_footprint execRefclkLoss_foot rfl (by decide +kernel),
    leaves_of_footprint execShutdownDrainDone_foot rfl (by decide +kernel),
    leaves_of_footprint execSpiPortRelease_foot rfl (by decide +kernel),
    fun _ _ _ _ _ _ _ => leaves_of_footprint execSramClearDone_foot rfl (by decide +kernel),
    leaves_of_footprint execStartupTake_foot rfl (by decide +kernel),
    leaves_of_footprint execSupplyRemoval_foot rfl (by decide +kernel),
    leaves_of_footprint execSupplyRise_foot rfl (by decide +kernel),
    leaves_of_footprint execVddQfFall_foot rfl (by decide +kernel),
    fun _ _ _ => leaves_of_footprint execFabricError_foot rfl (by decide +kernel),
    fun _ _ _ _ _ => leaves_of_footprint execRegisterLowWordRead_foot rfl (by decide +kernel),
    fun _ _ _ _ => leaves_of_footprint execRegisterWrite_foot rfl (by decide +kernel),
    fun _ _ _ => leaves_of_footprint execRwtDirectWrite_foot rfl (by decide +kernel),
    fun _ _ => leaves_of_footprint execSnapshotSelect_foot rfl (by decide +kernel),
    fun _ _ _ _ => leaves_of_footprint execW1cWrite_foot rfl (by decide +kernel),
    fun _ => leaves_of_footprint execEstimatorTick_foot rfl (by decide +kernel)⟩

end Sys2Proof.Machine
end

section
/-!
PROOF. What every step keeps: it answers, keeps both memories canonical, leaves what waits, the fused values and the timestamp, and takes
no record out of the recorder's queue. Each is read off the footprints of the commands and of the hub cycle (Laws/Footprint.lean).
-/
namespace Sys2Proof.Machine
open Sys2Proof.Claims

set_option Elab.async false

/-- Settles O45: a step is a hub cycle or a command, and each answers. -/
theorem alwaysAnswers : Obligations.AlwaysAnswers := step_total

theorem State.memoriesOk_iff (s : State) : s.memoriesOk = true ↔ MemOk s := by
  unfold State.memoriesOk MemOk
  exact Bool.and_eq_true_iff

/-- Settles O46: every write of a command keeps the canonical form, and so does a hub cycle. -/
theorem memoriesStayCanonical : Obligations.MemoriesStayCanonical := fun s t hs hstep =>
  t.memoriesOk_iff.mpr (step_memOk hstep (s.memoriesOk_iff.mp hs))

theorem footprint_pending (c : Instr) : (footprint c).testBit 0 = false := by
  cases c <;> simp only [footprint] <;> rfl

theorem footprint_fuse (c : Instr) : (footprint c).testBit 3 = false := by
  cases c <;> simp only [footprint] <;> rfl

/-- A step with nothing waiting is the hub cycle of the state. -/
theorem step_idle {s t : State} (hpending : s.pending = []) (hstep : step s = .next t) : t = s.idle := by
  unfold step at hstep
  rw [hpending] at hstep
  exact (Host.Outcome.next.inj hstep).symm

/-- A step is a hub cycle, or the command at the front of the queue on the rest. -/
theorem step_cases {s t : State} (hstep : step s = .next t) :
    t = s.idle ∨ ∃ c rest, s.pending = c :: rest ∧ exec c { s with pending := rest } = .next t := by
  cases hpending : s.pending with
  | nil => exact Or.inl (step_idle hpending hstep)
  | cons c rest =>
    unfold step at hstep
    rw [hpending] at hstep
    exact Or.inr ⟨c, rest, rfl, hstep⟩

theorem step_fuse {s t : State} (hstep : step s = .next t) : t.fuse = s.fuse := by
  rcases step_cases hstep with hidle | ⟨c, rest, -, hexec⟩
  · rw [hidle]
    exact (idle_frame s).fuse rfl
  · exact (Frame.of_exec hexec).fuse (footprint_fuse c)

/-- The timestamp and HUB's run are in the footprint of a reset and of the root PLL's lock alone. -/
theorem footprint_ts_running {c : Instr} (hreset : resets c = false) (hlock : c ≠ .pllLock) :
    (footprint c).testBit 2 = false ∧ (footprint c).testBit 1 = false := by
  cases c with
  | supplyRise | supplyRemoval | vddQfFall | poresetAssert | refclkLoss | pllLockLoss => cases hreset
  | pllLock => exact absurd rfl hlock
  | _ => simp only [footprint]; exact ⟨rfl, rfl⟩

/-- Settles O47. -/
theorem ownership : Obligations.Ownership := by
  refine ⟨fun c s t hexec => (Frame.of_exec hexec).pending (footprint_pending c), fun s t => step_fuse, ?_⟩
  intro c s t hexec hreset hlock
  obtain ⟨hts, hrun⟩ := footprint_ts_running hreset hlock
  exact ⟨(Frame.of_exec hexec).ts hts, (Frame.of_exec hexec).running hrun⟩

/-- Only a reset and the accepting of a record let the recorder's queue lose records. -/
theorem footprint_queue {c : Instr} (hreset : resets c = false) (haccept : c ≠ .eventRecordAccept) :
    (footprint c).testBit 4 = false := by
  cases c with
  | supplyRise | supplyRemoval | vddQfFall | poresetAssert | refclkLoss | pllLockLoss => cases hreset
  | eventRecordAccept => exact absurd rfl haccept
  | _ => simp only [footprint]; rfl

/-- Settles O51. -/
theorem recordsWait : Obligations.RecordsWait := by
  refine ⟨fun c s t hexec hreset haccept => exec_queue hexec (footprint_queue hreset haccept), fun s t hpending hstep => ?_⟩
  rw [step_idle hpending hstep]
  exact (idle_frame s).queue rfl

theorem hubCycle_ts (s : State) : s.hubCycle.ts = s.ts + 1 := by
  have hend : s.cycleEnd.ts = s.ts := (State.cycleEnd_frame (Sub.refl _) (Frame.refl _ s)).ts rfl
  calc s.hubCycle.ts = s.cycleEnd.ts + 1 :=
        (State.cycleStart_frame (Sub.refl _) (Frame.refl _ ({ s.cycleEnd with ts := s.cycleEnd.ts + 1 } : State))).ts rfl
    _ = s.ts + 1 := by rw [hend]

theorem idle_of_reset {s : State} (hrun : s.running = false) : s.idle = s := by
  unfold State.idle
  rw [hrun]
  exact if_neg Bool.false_ne_true

theorem idle_of_running {s : State} (hrun : s.running = true) : s.idle = s.hubCycle := by
  unfold State.idle
  exact if_pos hrun

theorem idle_ts (s : State) : s.idle.ts = s.ts + b2n s.running := by
  cases hrun : s.running with
  | true => rw [idle_of_running hrun]; exact hubCycle_ts s
  | false => rw [idle_of_reset hrun]; rfl

/-- Settles O43: the queue's front is what step runs, and the hub cycle's footprint is within the lists of the statement. -/
theorem stepTakesFront : Obligations.StepTakesFront := by
  refine ⟨fun c q s => rfl, fun s t hpending hstep => ?_⟩
  rw [step_idle hpending hstep]
  exact ⟨idle_ts s, idle_of_reset, ((idle_frame s).keeps rfl (by decide +kernel) (by decide +kernel) rfl).wider (by decide +kernel)⟩

/-- After reset no register is listed and no fuse is blown. -/
theorem reset_rd (f : Fld) (i : Nat) (hfused : f.fused = false) : State.reset.rd f i = f.rst false i % 2 ^ f.width := by
  show f.resetVal [] i = _
  unfold Fld.resetVal
  rw [hfused]
  rfl

/-- Settles O44. -/
theorem resetState : Obligations.ResetState := by
  refine ⟨rfl, rfl, rfl, rfl, rfl, rfl, rfl, fun f i => ?_, rfl, rfl, rfl, rfl, rfl, rfl, rfl,
    fun p => ⟨reset_rd _ p rfl, reset_rd _ p rfl⟩, rfl, rfl, rfl⟩
  cases hfused : f.fused with
  | false => exact Or.inl (reset_rd f i hfused)
  | true => exact Or.inr rfl

end Sys2Proof.Machine
end

section
/-!
PROOF. The latches (R154, R234, R390) and the repairs (R430): few functions write these registers, and each of them keeps a 1. What does not
write them is read off its footprint.
-/
namespace Sys2Proof.Machine
open Sys2Proof.Claims

set_option Elab.async false

/-- A flag that reads 1 in s reads 1 in t. -/
def Latched (f : Fld) (s t : State) : Prop := s.rd f = 1 → t.rd f = 1

variable {f : Fld} {s t u : State}

theorem Latched.refl (f : Fld) (s : State) : Latched f s s := id

theorem Latched.trans (h : Latched f s t) (g : Latched f t u) : Latched f s u := fun e => g (h e)

theorem Frame.latched {m : Nat} (h : Frame m s t) (hf : untouched m f = true) : Latched f s t := fun e =>
  (h.rd_of hf 0).trans e

theorem Latched.of_rd_eq_one (h : t.rd f = 1) : Latched f s t := fun _ => h

/-- The field stands at place j of block u, and every other field of the blocks is apart from it. -/
def placedAt (u j : Nat) (f : Fld) : Bool :=
  decide (0 < f.count) && decide (f.last / 0x20000 = f.key / 0x20000) &&
  (List.range 24).all fun v => (unitFlds v).zipIdx.all fun x => (decide (v = u) && decide (x.2 = j)) || sepFld f x.1

/-- For a field with a known place, three bits of a footprint tell whether it may be written. -/
theorem untouched_of_placedAt {m u j : Nat} (hplace : placedAt u j f = true) (hfield : m.testBit (64 + unitBase u + j) = false)
    (hblock : m.testBit (unitBit f.key) = false) (hfuse : m.testBit 3 = false) : untouched m f = true := by
  simp only [placedAt, Bool.and_eq_true, List.all_eq_true] at hplace
  obtain ⟨⟨hcount, hlast⟩, happart⟩ := hplace
  simp only [untouched, Bool.and_eq_true, List.all_eq_true, hcount, hlast, hblock, hfuse, Bool.not_false, true_and]
  intro v hv x hx
  rcases (Bool.or_eq_true _ _).mp (happart v hv x hx) with hself | hsep
  · obtain ⟨rfl, rfl⟩ : v = u ∧ x.2 = j := by simpa using hself
    simp [hfield]
  · simp [hsep]

theorem crowbar_placedAt : placedAt 2 2 RST_CAUSE_crowbar = true := by decide +kernel
theorem shutdown_placedAt : placedAt 2 3 RST_CAUSE_shutdown = true := by decide +kernel
theorem rmapRegion_placedAt : placedAt 3 25 MEM_RMAP_region = true := by decide +kernel
theorem rmapValid_placedAt : placedAt 3 26 MEM_RMAP_valid = true := by decide +kernel

/-! ### The shutdown's latch -/

theorem setThm_latched (s : State) (x : Thm) : Latched f s (s.setThm x) := id

theorem shutdown_latched (s : State) (n l source : Nat) : Latched RST_CAUSE_shutdown s (s.shutdown n l source) := by
  unfold State.shutdown
  extract_lets s₁ s₂ pins thm s₃
  split
  · exact Latched.refl _ s
  · refine Latched.of_rd_eq_one ?_
    have hset : s₁.rd RST_CAUSE_shutdown = 1 := State.rd_wr_same _ _ _ _
    have hevent : s₃.rd RST_CAUSE_shutdown = 1 := (State.emit_rd s₁ 11 3 _ _ 0 (by decide +kernel)).trans hset
    have hpend : (s₃.wr THM_STEP_STAT_pend 0 0).rd RST_CAUSE_shutdown = 1 := (State.rd_wr_sep _ _ _ _ _ _ (by decide)).trans hevent
    exact ((State.haltPowerUp_frame (Sub.refl _) (Frame.refl _ _)).latched (f := RST_CAUSE_shutdown) (by decide +kernel)).trans
      ((State.handover_frame (Sub.refl _) (Frame.refl _ _) 2).latched (by decide +kernel)) hpend

theorem thmTrip_latched (s : State) : Latched RST_CAUSE_shutdown s s.thmTrip := by
  unfold State.thmTrip
  split
  · exact (setThm_latched s _).trans (shutdown_latched _ _ _ _)
  · exact Latched.refl _ s

theorem conversionEffects_latched (s : State) (a : Nat) : Latched RST_CAUSE_shutdown s (s.conversionEffects a) := by
  unfold State.conversionEffects
  extract_lets n v inRun l ls thm s₁ s₂ s₃
  have hshown : Latched RST_CAUSE_shutdown s s₂ :=
    ((State.showL_frame (Sub.refl _) (Frame.refl _ s₁) n l).latched (f := RST_CAUSE_shutdown) (by decide +kernel)).trans
      ((State.showHot_frame (Sub.refl _) (Frame.refl _ (s₁.showL n l))).latched (by decide +kernel))
  have hraised : Latched RST_CAUSE_shutdown s₂ s₃ :=
    (Frame.ite (m := State.bandRise_foot) (Frame.refl _ s₂) (State.bandRise_frame (Sub.refl _) (Frame.refl _ s₂))).latched
      (by decide +kernel)
  have hs₃ := hshown.trans hraised
  split
  · exact Latched.refl _ s
  · split
    · exact hs₃
    · split
      · exact hs₃
      · exact hs₃.trans (shutdown_latched s₃ n v 1)

theorem anchorConversion_latched (a : Fin 128) (ok : Bool) (raw : BitVec 16) (s : State) :
    Latched RST_CAUSE_shutdown s (Machine.anchorConversion a ok raw s) := by
  unfold Machine.anchorConversion
  extract_lets v sns conv s₁
  split
  · exact Latched.refl _ s
  · split
    · exact Latched.refl _ s
    · exact conversionEffects_latched s₁ a

theorem stepNext_latched (s : State) : Latched RST_CAUSE_shutdown s s.stepNext := by
  unfold State.stepNext
  split
  · exact shutdown_latched _ _ _ _
  · split
    · exact Latched.refl _ s
    · refine Latched.trans ?_ ((State.startStep_frame (Sub.refl _) (Frame.refl _ _) _).latched (by decide +kernel))
      exact fun e => (State.rd_wr_sep _ _ _ _ _ _ (by decide)).trans e

theorem thermalStepComplete_latched (s : State) : Latched RST_CAUSE_shutdown s (Machine.thermalStepComplete s) := by
  unfold Machine.thermalStepComplete
  split
  · exact Latched.refl _ s
  · split
    · exact Latched.refl _ s
    · extract_lets x s₁
      have hs₁ : Latched RST_CAUSE_shutdown s s₁ :=
        (State.arrFlags_frame (Sub.refl _) (Frame.refl _ s) _ _ _).latched (by decide +kernel)
      split
      · exact hs₁.trans ((State.thmReinit_frame (Sub.refl _) (Frame.refl _ _) _ _).latched (by decide +kernel))
      · exact (hs₁.trans ((State.stepResults_frame (Sub.refl _) (Frame.refl _ _) _ _).latched (by decide +kernel))).trans
          (stepNext_latched _)

theorem hubCycle_latched (s : State) : Latched RST_CAUSE_shutdown s s.hubCycle := by
  have hbefore : Latched RST_CAUSE_shutdown s s.tlyEnd.fbJudge :=
    ((State.tlyEnd_frame (Sub.refl _) (Frame.refl _ s)).latched (by decide +kernel)).trans
      ((State.fbJudge_frame (Sub.refl _) (Frame.refl _ _)).latched (by decide +kernel))
  have hend : Latched RST_CAUSE_shutdown s s.cycleEnd :=
    (((hbefore.trans (thmTrip_latched _)).trans
      ((State.mgtAllocate_frame (Sub.refl _) (Frame.refl _ _)).latched (by decide +kernel))).trans
      ((State.notePhases_frame (Sub.refl _) (Frame.refl _ _)).latched (by decide +kernel))).trans
      ((State.bankCycles_frame (Sub.refl _) (Frame.refl _ _)).latched (by decide +kernel))
  exact hend.trans ((State.cycleStart_frame (Sub.refl _)
    (Frame.refl _ ({ s.cycleEnd with ts := s.cycleEnd.ts + 1 } : State))).latched (f := RST_CAUSE_shutdown) (by decide +kernel))

/-! ### The over-voltage's latch -/

theorem overVoltage_latched (s : State) : Latched RST_CAUSE_crowbar s (Machine.overVoltage s) := by
  unfold Machine.overVoltage
  extract_lets st s₁ vrc s₂ s₃ s₄ s₅ s₆ s₇
  split
  · exact Latched.refl _ s
  · refine Latched.of_rd_eq_one ?_
    have hset : s₄.rd RST_CAUSE_crowbar = 1 := State.rd_wr_same _ _ _ _
    have hevent : s₅.rd RST_CAUSE_crowbar = 1 := (State.emit_rd s₄ 9 2 _ _ 0 (by decide +kernel)).trans hset
    have hstage : Latched RST_CAUSE_crowbar s₅ s₇ :=
      ((State.mirrorCause_frame (Sub.refl _) (Frame.refl _ s₅) 1).latched (by decide +kernel)).trans
        ((State.latchStage_frame (Sub.refl _) (Frame.refl _ s₆) 4).latched (by decide +kernel))
    exact hstage.trans ((State.handover_frame (Sub.refl _) (Frame.refl _ s₇) 3).latched (by decide +kernel)) hevent

/-- The command's whole meaning: the over-voltage, and the rails' power-down behind it (R154, R169). -/
theorem overVoltageEffects_latched (s : State) :
    Latched RST_CAUSE_crowbar s (if s.rd VRC_STAT_state = 5 then s else (Machine.overVoltage s).powerDown.pmbSettle) := by
  split
  · exact Latched.refl _ s
  · exact (overVoltage_latched s).trans
      (((State.powerDown_frame (Sub.refl _) (Frame.refl _ _)).latched (by decide +kernel)).trans
        ((State.pmbSettle_frame (Sub.refl _) (Frame.refl _ _)).latched (by decide +kernel)))

/-! ### What a reset leaves -/

theorem rd_cleared (s : State) {keep : Nat → Bool} (r : Rst) {i : Nat} (hkeep : keep (f.keyOf i) = true) :
    (s.cleared keep r).rd f i = s.rd f i := by
  unfold State.rd State.cleared mget
  rw [mfind_filter keep, if_pos hkeep]

theorem keepLatches_crowbar {s : State} (t : State) (hs : s.rd RST_CAUSE_crowbar = 1) : (s.keepLatches t).rd RST_CAUSE_crowbar = 1 := by
  unfold State.keepLatches
  have hflag : s.flag RST_CAUSE_crowbar = true := decide_eq_true hs
  rw [if_pos hflag]
  extract_lets w vrc u w' pins
  have hu : u.rd RST_CAUSE_crowbar = 1 := State.rd_wr_same _ _ _ _
  split
  · calc _ = ((u.wr THM_STAT_shut 0 1).wr THM_STAT_state 0 4).rd RST_CAUSE_crowbar := State.rd_wr_sep _ _ _ _ _ _ (by decide)
      _ = (u.wr THM_STAT_shut 0 1).rd RST_CAUSE_crowbar := State.rd_wr_sep _ _ _ _ _ _ (by decide)
      _ = u.rd RST_CAUSE_crowbar := State.rd_wr_sep _ _ _ _ _ _ (by decide)
      _ = 1 := hu
  · exact hu

theorem keepLatches_shutdown {s : State} (t : State) (hs : s.rd RST_CAUSE_shutdown = 1) : (s.keepLatches t).rd RST_CAUSE_shutdown = 1 := by
  unfold State.keepLatches
  have hflag : s.flag RST_CAUSE_shutdown = true := decide_eq_true hs
  extract_lets w vrc u w' pins
  rw [if_pos hflag]
  exact State.rd_wr_same _ _ _ _

/-- Both latches of s stand in t. -/
def LatchesStand (s t : State) : Prop := Latched RST_CAUSE_crowbar s t ∧ Latched RST_CAUSE_shutdown s t

theorem LatchesStand.trans (h : LatchesStand s t) (g : LatchesStand t u) : LatchesStand s u := ⟨h.1.trans g.1, h.2.trans g.2⟩

theorem LatchesStand.refl (s : State) : LatchesStand s s := ⟨Latched.refl _ s, Latched.refl _ s⟩

theorem dieReset_latchesStand (s : State) : LatchesStand s s.dieReset := ⟨keepLatches_crowbar _, keepLatches_shutdown _⟩

/-- The registers that a reset's entry writes are none of the latches. -/
theorem enterReset_latchesStand (s : State) (cause : Nat) : LatchesStand s (s.enterReset cause) := by
  unfold State.enterReset
  extract_lets s₁ s₂
  have hcause (f : Fld) (hf : sepFld f RST_CAUSE_cause = true) : Latched f s s₁ := fun e => (State.rd_wr_sep _ _ _ _ _ _ hf).trans e
  have hcount : LatchesStand s₁ s₂ := by
    constructor <;> intro e <;> refine (State.rd_bump_sep _ _ _ _ _ ?_).trans e <;> split_ifs <;> decide
  have hts : LatchesStand s₂ (if s₂.running then s₂.wr RST_LAST_TS_ts 0 s₂.ts else s₂) := by
    split
    · constructor <;> intro e <;> exact (State.rd_wr_sep _ _ _ _ _ _ (by decide)).trans e
    · exact LatchesStand.refl s₂
  have hfirst : LatchesStand s s₁ := ⟨hcause _ (by decide), hcause _ (by decide)⟩
  exact LatchesStand.trans (LatchesStand.trans (LatchesStand.trans hfirst hcount) hts) (dieReset_latchesStand _)

/-- The register survives a die reset (R430). -/
theorem rd_dieReset (s : State) {i : Nat} (hkept : keptReg (f.keyOf i) = true) (hf : untouched State.keepLatches_foot f = true) :
    s.dieReset.rd f i = s.rd f i :=
  ((State.keepLatches_frame (Sub.refl _) (Frame.refl _ _) s).rd_of hf i).trans (rd_cleared s _ hkept)

/-! ### The commands -/

theorem next_inj {s t : State} (h : (.next s : Ans) = .next t) : s = t := Host.Outcome.next.inj h

theorem exec_latched {c : Instr} {meaning : State → State} (harm : exec c s = hubOn meaning s) (hmeaning : Latched f s (meaning s))
    (hexec : exec c s = .next t) : Latched f s t := by
  cases hrun : s.running with
  | true => exact next_inj ((harm.trans (hubOn_running hrun)).symm.trans hexec) ▸ hmeaning
  | false => exact next_inj ((harm.trans (hubOn_reset hrun)).symm.trans hexec) ▸ Latched.refl f s

theorem resets_latchesStand {c : Instr} (hexec : exec c s = .next t) (hreset : resets c = true) (hremoval : c ≠ .supplyRemoval)
    (hrise : c ≠ .supplyRise) : LatchesStand s t := by
  cases c with
  | supplyRemoval => exact absurd rfl hremoval
  | supplyRise => exact absurd rfl hrise
  | vddQfFall =>
    rw [← next_inj (s := Machine.vddQfFall s) hexec]
    unfold Machine.vddQfFall
    split
    · exact LatchesStand.refl s
    · exact dieReset_latchesStand s
  | poresetAssert =>
    rw [← next_inj (s := Machine.poresetAssert s) hexec]
    unfold Machine.poresetAssert
    split
    · exact LatchesStand.refl s
    · exact enterReset_latchesStand s 1
  | refclkLoss =>
    rw [← next_inj (s := Machine.refclkLoss s) hexec]
    unfold Machine.refclkLoss
    extract_lets u
    split
    · exact LatchesStand.refl s
    · show LatchesStand s (if s.started then s.enterReset 2 else s)
      split
      · exact enterReset_latchesStand s 2
      · exact LatchesStand.refl s
  | pllLockLoss =>
    rw [← next_inj (s := Machine.pllLockLoss s) hexec]
    unfold Machine.pllLockLoss
    split
    · exact enterReset_latchesStand s 3
    · exact LatchesStand.refl s
  | _ => cases hreset

theorem footprint_crowbar {c : Instr} (hreset : resets c = false) (hov : c ≠ .overVoltage) :
    untouched (footprint c) RST_CAUSE_crowbar = true := by
  cases c with
  | supplyRise | supplyRemoval | vddQfFall | poresetAssert | refclkLoss | pllLockLoss => cases hreset
  | overVoltage => exact absurd rfl hov
  | _ => simp only [footprint]; exact untouched_of_placedAt crowbar_placedAt rfl rfl rfl

theorem exec_crowbar_latched {c : Instr} (hexec : exec c s = .next t) (hreset : resets c = false) : Latched RST_CAUSE_crowbar s t := by
  by_cases hov : c = .overVoltage
  · subst hov
    exact exec_latched (meaning := fun s => if s.rd VRC_STAT_state = 5 then s else (Machine.overVoltage s).powerDown.pmbSettle) rfl
      (overVoltageEffects_latched s) hexec
  · exact (Frame.of_exec hexec).latched (footprint_crowbar hreset hov)

/-- The commands whose meaning may enter thermal shutdown (R232). -/
def mayShutDown : Instr → Bool
  | .anchorConversion _ _ _ | .thermalStepComplete => true
  | _ => false

theorem footprint_shutdown {c : Instr} (hreset : resets c = false) (hthermal : mayShutDown c = false) :
    untouched (footprint c) RST_CAUSE_shutdown = true := by
  cases c with
  | supplyRise | supplyRemoval | vddQfFall | poresetAssert | refclkLoss | pllLockLoss => cases hreset
  | anchorConversion | thermalStepComplete => cases hthermal
  | _ => simp only [footprint]; exact untouched_of_placedAt shutdown_placedAt rfl rfl rfl

theorem exec_shutdown_latched {c : Instr} (hexec : exec c s = .next t) (hreset : resets c = false) : Latched RST_CAUSE_shutdown s t := by
  cases hthermal : mayShutDown c with
  | false => exact (Frame.of_exec hexec).latched (footprint_shutdown hreset hthermal)
  | true =>
    cases c with
    | anchorConversion a ok raw => exact exec_latched rfl (anchorConversion_latched a ok raw s) hexec
    | thermalStepComplete => exact exec_latched rfl (thermalStepComplete_latched s) hexec
    | _ => cases hthermal

theorem idle_latchesStand (s : State) : LatchesStand s s.idle := by
  refine ⟨(idle_frame s).latched (by decide +kernel), ?_⟩
  unfold State.idle
  split
  · exact hubCycle_latched s
  · exact Latched.refl _ s

theorem latches_stand : Claims.latchesHold := by
  refine ⟨fun c s t hexec hremoval hrise => ?_, fun s t hpending hstep => step_idle hpending hstep ▸ idle_latchesStand s⟩
  cases hreset : resets c with
  | true => exact resets_latchesStand hexec hreset hremoval hrise
  | false => exact ⟨exec_crowbar_latched hexec hreset, exec_shutdown_latched hexec hreset⟩

/-! ### The repairs -/

/-- Region i, where it is repaired in s, is repaired in t to the same region (R430). -/
def RepairStands (i : Nat) (s t : State) : Prop :=
  s.rd MEM_RMAP_valid i = 1 → t.rd MEM_RMAP_valid i = 1 ∧ t.rd MEM_RMAP_region i = s.rd MEM_RMAP_region i

theorem RepairStands.of_rd {i : Nat} (hvalid : t.rd MEM_RMAP_valid i = s.rd MEM_RMAP_valid i)
    (hregion : t.rd MEM_RMAP_region i = s.rd MEM_RMAP_region i) : RepairStands i s t := fun e => ⟨hvalid.trans e, hregion⟩

theorem RepairStands.refl (i : Nat) (s : State) : RepairStands i s s := RepairStands.of_rd rfl rfl

theorem RepairStands.trans {i : Nat} (h : RepairStands i s t) (g : RepairStands i t u) : RepairStands i s u := fun e =>
  ⟨(g (h e).1).1, (g (h e).1).2.trans (h e).2⟩

theorem Frame.repairStands {m : Nat} (h : Frame m s t) (hvalid : untouched m MEM_RMAP_valid = true)
    (hregion : untouched m MEM_RMAP_region = true) (i : Nat) : RepairStands i s t :=
  RepairStands.of_rd (h.rd_of hvalid i) (h.rd_of hregion i)

theorem keptReg_of_rmap {k : Nat} (hlow : 0x63000 ≤ k) (hhigh : k < 0x63900) : keptReg k = true := by
  simp [keptReg, hlow, hhigh]

theorem keptReg_rmap (i : Nat) : keptReg (MEM_RMAP_valid.keyOf i) = true ∧ keptReg (MEM_RMAP_region.keyOf i) = true := by
  have hi : i % 144 < 144 := Nat.mod_lt i (by decide)
  constructor <;> refine keptReg_of_rmap ?_ ?_ <;> simp only [Fld.keyOf, MEM_RMAP_valid, MEM_RMAP_region] <;> omega

theorem dieReset_repairStands (s : State) (i : Nat) : RepairStands i s s.dieReset :=
  RepairStands.of_rd (rd_dieReset s (keptReg_rmap i).1 (by decide +kernel)) (rd_dieReset s (keptReg_rmap i).2 (by decide +kernel))

theorem wr_repairStands (s : State) (g : Fld) (j v i : Nat) (hvalid : sepFld MEM_RMAP_valid g = true)
    (hregion : sepFld MEM_RMAP_region g = true) : RepairStands i s (s.wr g j v) :=
  RepairStands.of_rd (State.rd_wr_sep _ _ _ _ _ _ hvalid) (State.rd_wr_sep _ _ _ _ _ _ hregion)

theorem enterReset_repairStands (s : State) (cause i : Nat) : RepairStands i s (s.enterReset cause) := by
  unfold State.enterReset
  extract_lets s₁ s₂
  have hcause : RepairStands i s s₁ := wr_repairStands s _ _ _ _ (by decide) (by decide)
  have hcount : RepairStands i s₁ s₂ := by
    refine wr_repairStands s₁ _ _ _ _ ?_ ?_ <;> split_ifs <;> decide
  have hts : RepairStands i s₂ (if s₂.running then s₂.wr RST_LAST_TS_ts 0 s₂.ts else s₂) := by
    split
    · exact wr_repairStands s₂ _ _ _ _ (by decide) (by decide)
    · exact RepairStands.refl i s₂
  exact RepairStands.trans (RepairStands.trans (RepairStands.trans hcause hcount) hts) (dieReset_repairStands _ i)

/-- Another spare of the bank is taken: the first that is not in use. -/
theorem retire_repairStands (s : State) (bank region i : Nat) : RepairStands i s (s.retire bank region) := by
  unfold State.retire
  split
  · next k hk =>
    extract_lets s₁ s₂
    intro hvalid
    have hfree : s.rd MEM_RMAP_valid (8 * bank + k) ≠ 1 := by
      have := List.find?_some hk
      simpa [State.flag] using this
    have hkey : MEM_RMAP_valid.keyOf i ≠ MEM_RMAP_valid.keyOf (8 * bank + k) := by
      intro e
      apply hfree
      rw [← hvalid]
      unfold State.rd Fld.resetVal
      rw [e]
      rfl
    have hregionKey : MEM_RMAP_region.keyOf i ≠ MEM_RMAP_region.keyOf (8 * bank + k) := by
      simp only [Fld.keyOf, MEM_RMAP_valid, MEM_RMAP_region] at hkey ⊢
      omega
    have hwritten : s₁.rd MEM_RMAP_valid i = 1 ∧ s₁.rd MEM_RMAP_region i = s.rd MEM_RMAP_region i :=
      ⟨(State.rd_wr_key _ _ _ _ _ _ hkey).trans ((State.rd_wr_sep _ _ _ _ _ _ (by decide)).trans hvalid),
        (State.rd_wr_sep _ _ _ _ _ _ (by decide)).trans (State.rd_wr_key _ _ _ _ _ _ hregionKey)⟩
    have hafter : RepairStands i s₁ (s₂.emit 3 3 [bank, region,
        ((List.range 8).filter fun j => !s₂.flag MEM_RMAP_valid (8 * bank + j)).length]) :=
      RepairStands.trans (wr_repairStands s₁ _ _ _ _ (by decide) (by decide))
        ((State.emit_frame (Sub.refl _) (Frame.refl _ s₂) _ _ _).repairStands (by decide +kernel) (by decide +kernel) i)
    exact ⟨(hafter hwritten.1).1, (hafter hwritten.1).2.trans hwritten.2⟩
  · extract_lets hub s₁
    exact RepairStands.trans (wr_repairStands s₁ MEM_STAT_nospare 0 1 i (by decide) (by decide))
      ((State.emit_frame (Sub.refl _) (Frame.refl _ _) _ _ _).repairStands (by decide +kernel) (by decide +kernel) i)

/-- Errors found in the region change bytes and counts, and retire nothing. -/
theorem foldl_repairStands {α : Type} (g : State → α → State) (i : Nat) (hg : ∀ s x, RepairStands i s (g s x)) (l : List α) (s : State) :
    RepairStands i s (l.foldl g s) := by
  induction l generalizing s with
  | nil => exact RepairStands.refl i s
  | cons x xs ih => exact RepairStands.trans (hg s x) (ih (g s x))

theorem backgroundTest_repairStands (fails : Bool) (ecc : List (Fin 32 × Bool)) (s : State) (i : Nat) :
    RepairStands i s (Machine.backgroundTest fails ecc s) := by
  unfold Machine.backgroundTest
  extract_lets hub s₁
  split
  · exact RepairStands.refl i s
  · have hs₁ : RepairStands i s s₁ := RepairStands.of_rd rfl rfl
    split
    · exact hs₁
    · next bank region queued _ =>
      extract_lets s₂ s₃ hub' s₄ s₅ s₆
      have hbank : RepairStands i s₁ s₂ := wr_repairStands s₁ MEM_STAT_bt_bank 0 bank i (by decide) (by decide)
      have hstall : RepairStands i s₂ s₃ := by
        show RepairStands i s₂ (if bank = 8 then s₂.lcxStall 2 else s₂)
        split
        · exact (State.lcxStall_frame (Sub.refl _) (Frame.refl _ s₂) 2).repairStands (by decide +kernel) (by decide +kernel) i
        · exact RepairStands.refl i s₂
      have hqueue : RepairStands i s₃ s₄ := by
        cases queued <;> exact RepairStands.of_rd rfl rfl
      have hcounted : RepairStands i s₄ s₅ := foldl_repairStands _ i (fun s e =>
        (State.eccWord_frame (Sub.refl _) (Frame.refl _ s) _ _ _).repairStands (by decide +kernel) (by decide +kernel) i) ecc s₄
      have hzeroed : RepairStands i s₅ s₆ := by
        refine foldl_repairStands _ i (fun s e => ?_) ecc s₅
        split
        · exact (State.bankPut_frame (Sub.refl _) (Frame.refl _ s) _ _ _).repairStands (by decide +kernel) (by decide +kernel) i
        · exact RepairStands.refl i s
      have hbefore : RepairStands i s s₆ :=
        ((((hs₁.trans hbank).trans hstall).trans hqueue).trans hcounted).trans hzeroed
      split
      · exact hbefore.trans (retire_repairStands s₆ bank region i)
      · exact hbefore

theorem footprint_rmap {c : Instr} (hreset : resets c = false) (htest : ∀ fails ecc, c ≠ .backgroundTest fails ecc) :
    untouched (footprint c) MEM_RMAP_valid = true ∧ untouched (footprint c) MEM_RMAP_region = true := by
  cases c with
  | supplyRise | supplyRemoval | vddQfFall | poresetAssert | refclkLoss | pllLockLoss => cases hreset
  | backgroundTest fails ecc => exact absurd rfl (htest fails ecc)
  | _ =>
    simp only [footprint]
    exact ⟨untouched_of_placedAt rmapValid_placedAt rfl rfl rfl, untouched_of_placedAt rmapRegion_placedAt rfl rfl rfl⟩

theorem resets_repairStands {c : Instr} (hexec : exec c s = .next t) (hreset : resets c = true) (hremoval : c ≠ .supplyRemoval)
    (hrise : c ≠ .supplyRise) (hfall : c ≠ .vddQfFall) (i : Nat) : RepairStands i s t := by
  cases c with
  | supplyRemoval => exact absurd rfl hremoval
  | supplyRise => exact absurd rfl hrise
  | vddQfFall => exact absurd rfl hfall
  | poresetAssert =>
    rw [← next_inj (s := Machine.poresetAssert s) hexec]
    unfold Machine.poresetAssert
    split
    · exact RepairStands.refl i s
    · exact enterReset_repairStands s 1 i
  | refclkLoss =>
    rw [← next_inj (s := Machine.refclkLoss s) hexec]
    unfold Machine.refclkLoss
    extract_lets u
    split
    · exact RepairStands.refl i s
    · show RepairStands i s (if s.started then s.enterReset 2 else s)
      split
      · exact enterReset_repairStands s 2 i
      · exact RepairStands.refl i s
  | pllLockLoss =>
    rw [← next_inj (s := Machine.pllLockLoss s) hexec]
    unfold Machine.pllLockLoss
    split
    · exact enterReset_repairStands s 3 i
    · exact RepairStands.refl i s
  | _ => cases hreset

theorem repairs_stand : Claims.repairsHold := by
  intro i c s t hexec hremoval hrise hfall
  cases hreset : resets c with
  | true => exact resets_repairStands hexec hreset hremoval hrise hfall i
  | false =>
    by_cases htest : ∃ fails ecc, c = .backgroundTest fails ecc
    · obtain ⟨fails, ecc, rfl⟩ := htest
      cases hrun : s.running with
      | true => exact next_inj ((hubOn_running hrun).symm.trans hexec) ▸ backgroundTest_repairStands fails ecc s i
      | false => exact next_inj ((hubOn_reset (f := Machine.backgroundTest fails ecc) hrun).symm.trans hexec) ▸ RepairStands.refl _ s
    · obtain ⟨hvalid, hregion⟩ := footprint_rmap hreset fun fails ecc h => htest ⟨fails, ecc, h⟩
      exact (Frame.of_exec hexec).repairStands hvalid hregion i

/-- Settles O49. -/
theorem latchesHold : Obligations.LatchesHold := ⟨latches_stand, repairs_stand⟩

end Sys2Proof.Machine
end

section
/-!
PROOF. Die reset is quiet (R390, R391): every meaning but the resets' and the clocks' is under hubOn, or is an SMBus transaction of a target
that does not answer.
-/
namespace Sys2Proof.Machine
open Sys2Proof.Claims

set_option Elab.async false

variable {c : Instr} {s t : State}

theorem eq_of_hub_in_reset {meaning : State → State} (harm : exec c s = hubOn meaning s) (hrun : s.running = false)
    (hexec : exec c s = .next t) : t = s :=
  next_inj (hexec.symm.trans (harm.trans (hubOn_reset hrun)))

theorem smbUp_of_reset (hrun : s.running = false) : s.smbUp = false := by
  unfold State.smbUp
  rw [hrun]
  rfl

theorem smbTx_of_down (hdown : s.smbUp = false) (cmd : Nat) (defined : Bool) (f : State → State) :
    s.smbTx cmd defined f = s.send .smbusNack := by
  unfold State.smbTx
  rw [hdown]
  rfl

theorem smbBusTimeout_of_down (hdown : s.smbUp = false) : Machine.smbBusTimeout s = s := by
  unfold Machine.smbBusTimeout
  rw [hdown]
  rfl

theorem smbUndefinedCommand_of_down (hdown : s.smbUp = false) (code : BitVec 8) :
    Machine.smbUndefinedCommand code s = s ∨ Machine.smbUndefinedCommand code s = s.send .smbusNack := by
  unfold Machine.smbUndefinedCommand
  rw [hdown]
  split
  · exact Or.inl rfl
  · exact Or.inr rfl

/-- A transaction in die reset is not acknowledged, whatever it would do. -/
theorem smbTx_in_reset {cmd : Nat} {defined : Bool} {f : State → State} (harm : exec c s = .next (s.smbTx cmd defined f))
    (hrun : s.running = false) (hexec : exec c s = .next t) : t = { s with out := s.out ++ [.smbusNack] } := by
  rw [smbTx_of_down (smbUp_of_reset hrun)] at harm
  exact next_inj (hexec.symm.trans harm)

theorem smbWrite_in_reset {cmd : Nat} {defined pec ok : Bool} {f : State → State}
    (harm : exec c s = .next (s.smbWrite cmd defined pec ok f)) (hrun : s.running = false) (hexec : exec c s = .next t) :
    t = { s with out := s.out ++ [.smbusNack] } := smbTx_in_reset harm hrun hexec

/-- Settles O50. -/
theorem quietInReset : Obligations.QuietInReset := by
  intro c s t hexec hrun hreset hclock
  cases c with
  | supplyRise | supplyRemoval | vddQfFall | poresetAssert | refclkLoss | pllLockLoss => cases hreset
  | pllLock | pllLockTimeout | poresetNegate | dieResetRelease => exact absurd (by decide) hclock
  | smbTinWrite | smbLastfPageWrite | smbEvtSel => exact Or.inr (smbWrite_in_reset (by unfold exec; exact rfl) hrun hexec)
  | smbIdent | smbStatus | smbTempHot | smbAnchorLo | smbAnchorHi | smbTinRead | smbPower | smbLastfPageRead | smbLastf | smbEvtData
  | smbTime => exact Or.inr (smbTx_in_reset (by unfold exec; exact rfl) hrun hexec)
  | smbBusTimeout => exact Or.inl (next_inj (hexec.symm.trans (congrArg Host.Outcome.next (smbBusTimeout_of_down (smbUp_of_reset hrun)))))
  | smbUndefinedCommand code =>
    have harm : t = Machine.smbUndefinedCommand code s := next_inj hexec.symm
    rw [harm]
    exact smbUndefinedCommand_of_down (smbUp_of_reset hrun) code
  | _ => exact Or.inl (eq_of_hub_in_reset (by unfold exec; exact rfl) hrun hexec)

end Sys2Proof.Machine
end

section
/-!
PROOF. The SMBus target's reads and writes (R207, R478 to R480): a target that answers runs the transaction, and a read sends its bytes and
writes no register.
-/
namespace Sys2Proof.Machine
open Sys2Proof.Claims

set_option Elab.async false

variable {s : State}

theorem Answers.of_exec {c : Instr} {s t : State} {p : State → Prop} (hexec : exec c s = .next t) (ht : p t) : Answers c s p :=
  ⟨t, hexec, ht⟩

theorem smbTx_of_up (hup : s.smbUp = true) (cmd : Nat) (f : State → State) : s.smbTx cmd true f = f s := by
  unfold State.smbTx
  rw [hup]
  rfl

theorem smbTx_undefined (hup : s.smbUp = true) (cmd : Nat) (f : State → State) :
    s.smbTx cmd false f = (s.smbViol 1 cmd).send .smbusNack := by
  unfold State.smbTx
  rw [hup]
  rfl

theorem smbAnswer_returns (s : State) (cmd : Nat) (block : Bool) (bs : List Byte) :
    Returns s (s.smbAnswer cmd block bs) cmd block bs ∧ (s.smbAnswer cmd block bs).regs = s.regs := ⟨rfl, rfl⟩

/-- A read of a target that answers returns the bytes. -/
theorem smbRead_answers {c : Instr} {cmd : Nat} {block : Bool} {bs : State → List Byte} (hup : s.smbUp = true)
    (harm : exec c s = .next (s.smbTx cmd true fun s => s.smbAnswer cmd block (bs s))) :
    Answers c s fun t => Returns s t cmd block (bs s) ∧ t.regs = s.regs :=
  Answers.of_exec (harm.trans (congrArg Host.Outcome.next (smbTx_of_up hup cmd _))) (smbAnswer_returns s cmd block (bs s))

/-- The versions that IDENT returns (R479). -/
def identBytes (s : State) : List Byte :=
  leBytes 1 (s.rd HIF_VER_gen) ++ leBytes 1 (s.rd HIF_VER_ring) ++ leBytes 1 (s.rd HIF_VER_slate) ++ leBytes 1 (s.rd HIF_VER_salgor) ++
    (List.range 4).flatMap fun n => leBytes 4 (s.rd FW_VER_version n)

theorem identBytes_eq (s : State) :
    identBytes s = leBytes 1 (s.rd HIF_VER_gen) ++ leBytes 1 (s.rd HIF_VER_ring) ++ leBytes 1 (s.rd HIF_VER_slate) ++
      leBytes 1 (s.rd HIF_VER_salgor) ++ leBytes 4 (s.rd FW_VER_version 0) ++ leBytes 4 (s.rd FW_VER_version 1) ++
      leBytes 4 (s.rd FW_VER_version 2) ++ leBytes 4 (s.rd FW_VER_version 3) := by
  simp only [identBytes, List.range_succ, List.range_zero, List.nil_append, List.flatMap_append, List.flatMap_cons, List.flatMap_nil,
    List.append_nil, List.append_assoc]

theorem smbIdent_answers : Claims.smbIdent := fun s hup => by
  rw [← identBytes_eq]
  exact smbRead_answers hup rfl

theorem smbStatus_answers : Claims.smbStatus := fun _ hup => smbRead_answers (bs := fun s => leBytes 2 s.statusWord) hup rfl

theorem smbTempHot_answers : Claims.smbTempHot := fun _ hup =>
  smbRead_answers (bs := fun s => leBytes 2 (s.rd THM_HOT_value) ++ leBytes 2 (s.rd THM_HOT_node)) hup rfl

/-- The 64 anchors from a on (R479). -/
def anchorBytes (a : Nat) (s : State) : List Byte := (List.range 64).flatMap fun k => leBytes 2 (s.rd SNS_ANC_value (a + k))

theorem smbAnchorLo_answers : Claims.smbAnchorLo := fun s hup => by
  have hread := smbRead_answers (c := .smbAnchorLo true) (cmd := 0x11) (block := true) (bs := anchorBytes 0) hup rfl
  simpa only [anchorBytes, Nat.zero_add] using hread

theorem smbAnchorHi_answers : Claims.smbAnchorHi := fun _ hup => smbRead_answers (bs := anchorBytes 64) hup rfl

theorem smbTinRead_answers : Claims.smbTinRead := fun _ hup => smbRead_answers (bs := fun s => leBytes 2 (s.rd THM_TIN_tin)) hup rfl

/-- What POWER returns (R479). -/
def powerBytes (s : State) : List Byte :=
  leBytes 4 (s.rd ACT_MEAS_DIE) ++ leBytes 4 (sumTo 16 fun r => s.rd PMB_RAIL_P r) ++ leBytes 4 (s.rd ACT_PKG_BUD) ++
    leBytes 4 (s.rd VRC_VSENSE_vsense)

theorem smbPower_answers : Claims.smbPower := fun _ hup => smbRead_answers (bs := powerBytes) hup rfl

/-! ### TIN writes -/

theorem exec_smbTinWrite (defined pec : Bool) (v : BitVec 16) (s : State) :
    exec (.smbTinWrite defined pec v) s = .next (s.smbWrite 0x18 defined pec (s.flag SMB_CTL_tin_en) fun s => s.writeTin v.toNat) := rfl

theorem flag_of_rd_one {f : Fld} {i : Nat} (h : s.rd f i = 1) : s.flag f i = true := decide_eq_true h

theorem flag_of_rd_zero {f : Fld} {i : Nat} (h : s.rd f i = 0) : s.flag f i = false := decide_eq_false (by rw [h]; decide)

theorem smbWrite_of_up (hup : s.smbUp = true) (cmd : Nat) (f : State → State) : s.smbWrite cmd true true true f = f s :=
  smbTx_of_up hup cmd _

theorem smbWrite_wrongPec (hup : s.smbUp = true) (cmd : Nat) (f : State → State) :
    s.smbWrite cmd true false true f = (s.smbViol 2 cmd).send .smbusNack := smbTx_of_up hup cmd _

theorem smbWrite_notOk (hup : s.smbUp = true) (cmd : Nat) (f : State → State) :
    s.smbWrite cmd true true false f = (s.smbViol 1 cmd).send .smbusNack := smbTx_undefined hup cmd _

theorem exec_smbTinWrite_of_enabled (hup : s.smbUp = true) (hen : s.rd SMB_CTL_tin_en = 1) (v : BitVec 16) :
    exec (.smbTinWrite true true v) s = .next (s.writeTin v.toNat) := by
  rw [exec_smbTinWrite, flag_of_rd_one hen, smbWrite_of_up hup]

theorem writeTin_inRange {v : Nat} (hlow : -1280 ≤ sgn 16 v) (hhigh : sgn 16 v ≤ 8960) : s.writeTin v = s.wr THM_TIN_tin 0 v :=
  if_pos ⟨hlow, hhigh⟩

theorem writeTin_outOfRange {v : Nat} (h : sgn 16 v < -1280 ∨ 8960 < sgn 16 v) : s.writeTin v = s.bump THM_STEP_STAT_tin_rej :=
  if_neg (by omega)

theorem smbTinWrite_answers : Claims.smbTinWrite := by
  intro v s hup hen hlow hhigh
  refine Answers.of_exec (exec_smbTinWrite_of_enabled hup hen v) ?_
  rw [writeTin_inRange hlow hhigh]
  exact ⟨(State.rd_wr_same _ _ _ _).trans (Nat.mod_eq_of_lt v.isLt), rfl⟩

theorem smbTinRejected_answers : Claims.smbTinRejected := by
  intro v s hup hen hrange
  refine Answers.of_exec (exec_smbTinWrite_of_enabled hup hen v) ?_
  rw [writeTin_outOfRange hrange]
  exact ⟨State.rd_bump_sep _ _ _ _ _ (by decide), State.rd_bump_same _ _ _⟩

/-- A violation of kind 1 or 2 counts in its own field alone, and the refusal puts out a NACK. -/
theorem smbTinDisabled_answers : Claims.smbTinDisabled := by
  intro v s hup hen
  refine Answers.of_exec (t := (s.smbViol 1 0x18).send .smbusNack) ?_ ⟨?_, rfl, ?_⟩
  · rw [exec_smbTinWrite, flag_of_rd_zero hen, smbWrite_notOk hup]
  · exact State.rd_bump_sep s SMB_STAT_cmd _ 0 0 (by decide)
  · exact State.rd_bump_same s SMB_STAT_cmd 0

theorem smbWrongPec_answers : Claims.smbWrongPec := by
  intro v s hup hen
  refine Answers.of_exec (t := (s.smbViol 2 0x18).send .smbusNack) ?_ ⟨?_, rfl, ?_⟩
  · rw [exec_smbTinWrite, flag_of_rd_one hen, smbWrite_wrongPec hup]
  · exact State.rd_bump_sep s SMB_STAT_pec _ 0 0 (by decide)
  · exact State.rd_bump_same s SMB_STAT_pec 0

/-- Settles O15. -/
theorem smbusReads : Obligations.SmbusReads :=
  ⟨smbIdent_answers, smbStatus_answers, smbTempHot_answers, smbAnchorLo_answers, smbAnchorHi_answers, smbTinRead_answers,
    smbTinWrite_answers, smbTinRejected_answers, smbTinDisabled_answers, smbWrongPec_answers, smbPower_answers⟩

end Sys2Proof.Machine
end

section
/-!
PROOF. Shares of an amount (R272, R353): who would reach its own limit takes it, and what remains is divided by weight, rounded down.
-/
namespace Sys2Proof.Machine
open Sys2Proof.Claims

set_option Elab.async false

theorem sumN_eq_sum (l : List Nat) : sumN l = l.sum := by
  induction l with
  | nil => rfl
  | cons x xs ih => rw [sumN, ih, List.sum_cons]

variable {α : Type}

theorem sumN_map_cons (f : α → Nat) (x : α) (xs : List α) : sumN ((x :: xs).map f) = f x + sumN (xs.map f) := rfl

theorem sumN_map_add (f g : α → Nat) (l : List α) : sumN (l.map fun x => f x + g x) = sumN (l.map f) + sumN (l.map g) := by
  induction l with
  | nil => rfl
  | cons x xs ih => rw [sumN_map_cons, sumN_map_cons, sumN_map_cons, ih]; omega

theorem sumN_map_le {f g : α → Nat} {l : List α} (h : ∀ x ∈ l, f x ≤ g x) : sumN (l.map f) ≤ sumN (l.map g) := by
  rw [sumN_eq_sum, sumN_eq_sum]
  exact List.sum_le_sum h

theorem sumN_map_congr {f g : α → Nat} {l : List α} (h : ∀ x ∈ l, f x = g x) : sumN (l.map f) = sumN (l.map g) :=
  congrArg sumN (List.map_congr_left h)

theorem sumN_map_mul_left (k : Nat) (f : α → Nat) (l : List α) : sumN (l.map fun x => k * f x) = k * sumN (l.map f) := by
  rw [sumN_eq_sum, sumN_eq_sum, List.sum_map_mul_left]

theorem sumN_map_filter_add (f : α → Nat) (p : α → Bool) (l : List α) :
    sumN ((l.filter p).map f) + sumN ((l.filter fun x => !p x).map f) = sumN (l.map f) := by
  induction l with
  | nil => rfl
  | cons x xs ih =>
    cases hp : p x <;> simp only [List.filter_cons, hp, if_true, if_false, Bool.not_true, Bool.not_false, Bool.false_eq_true, sumN_map_cons] <;>
      omega

theorem sumN_map_filter_le (f : α → Nat) (p : α → Bool) (l : List α) : sumN ((l.filter p).map f) ≤ sumN (l.map f) :=
  Nat.le_of_add_right_le (le_of_eq (sumN_map_filter_add f p l))

/-- The shares by weight of an amount, rounded down, stay within it. -/
theorem sumN_shares_le (r : Nat) (w : α → Nat) (l : List α) (W : Nat) (hW : sumN (l.map w) ≤ W) :
    sumN (l.map fun x => r * w x / W) ≤ r := by
  rcases Nat.eq_zero_or_pos W with hzero | hpos
  · subst hzero
    simp only [Nat.div_zero]
    rw [sumN_eq_sum]
    simp
  · refine Nat.le_of_mul_le_mul_left ?_ hpos
    calc W * sumN (l.map fun x => r * w x / W) = sumN (l.map fun x => W * (r * w x / W)) := (sumN_map_mul_left _ _ _).symm
      _ ≤ sumN (l.map fun x => r * w x) := sumN_map_le fun x _ => Nat.mul_div_le _ _
      _ = r * sumN (l.map w) := sumN_map_mul_left _ _ _
      _ ≤ r * W := Nat.mul_le_mul_left r hW
      _ = W * r := Nat.mul_comm r W

/-- Limits that are each within their share of an amount are within it together. -/
theorem sumN_limits_le {f w : α → Nat} {l : List α} {r W : Nat} (hpos : 0 < W) (hW : sumN (l.map w) ≤ W)
    (h : ∀ x ∈ l, f x * W ≤ r * w x) : sumN (l.map f) ≤ r := by
  refine Nat.le_trans (sumN_map_le fun x hx => ?_) (sumN_shares_le r w l W hW)
  exact (Nat.le_div_iff_mul_le hpos).mpr (h x hx)

/-! ### Maps built entry by entry -/

theorem mget_foldl_mput_notMem (key val : α → Nat) (d k : Nat) (l : List α) (m : SMap Nat) (hk : k ∉ l.map key) :
    mget (l.foldl (fun m x => mput m (key x) (val x)) m) k d = mget m k d := by
  induction l generalizing m with
  | nil => rfl
  | cons x xs ih =>
    obtain ⟨hx, hxs⟩ := not_or.mp (fun h => hk (List.mem_cons.mpr h))
    rw [List.foldl_cons, ih _ hxs]
    exact mget_mput_ne _ _ _ hx

theorem mget_foldl_mput_mem (key val : α → Nat) (d : Nat) {l : List α} (m : SMap Nat) (hl : (l.map key).Nodup) {x : α} (hx : x ∈ l) :
    mget (l.foldl (fun m x => mput m (key x) (val x)) m) (key x) d = val x := by
  induction l generalizing m with
  | nil => cases hx
  | cons y ys ih =>
    obtain ⟨hy, hys⟩ := List.nodup_cons.mp hl
    rcases List.mem_cons.mp hx with rfl | hmem
    · rw [List.foldl_cons, mget_foldl_mput_notMem _ _ _ _ _ _ hy]
      exact mget_mput_same _ _ _ _
    · exact ih _ hys hmem

theorem mget_map_pair (f : Nat → Nat) (d : Nat) {l : List Nat} {k : Nat} (hk : k ∈ l) : mget (l.map fun t => (t, f t)) k d = f k := by
  induction l with
  | nil => cases hk
  | cons x xs ih =>
    show (if x = k then some (f x) else mfind (xs.map fun t => (t, f t)) k).getD d = f k
    by_cases hx : x = k
    · rw [if_pos hx, hx]
      rfl
    · rw [if_neg hx]
      exact ih (List.mem_of_ne_of_mem (Ne.symm hx) hk)

/-! ### The caps of tenants (R272) -/

section
variable (set w : Nat → Nat)

/-- What the rounds and the division of their remainder give. -/
def roundCaps (n : Nat) (u : List Nat) (r : Nat) (c : SMap Nat) : SMap Nat :=
  (divideRounds set w n u r c).2.2.foldl
    (fun m t => mput m t ((divideRounds set w n u r c).2.1 * w t / sumN ((divideRounds set w n u r c).2.2.map w)))
    (divideRounds set w n u r c).1

/-- The tenants that a round caps: their own cap is within their share. -/
def cappedOf (u : List Nat) (r : Nat) : List Nat :=
  u.filter fun t => decide (set t ≠ uncapped) && decide (set t * sumN (u.map w) ≤ r * w t)

theorem roundCaps_stop {n : Nat} {u : List Nat} {r : Nat} (c : SMap Nat) (hnone : cappedOf set w u r = []) :
    roundCaps set w (n + 1) u r c = u.foldl (fun m t => mput m t (r * w t / sumN (u.map w))) c := by
  have hround : divideRounds set w (n + 1) u r c = (c, r, u) := by
    show (if (cappedOf set w u r).isEmpty then _ else _) = _
    exact if_pos (List.isEmpty_iff.mpr hnone)
  unfold roundCaps
  rw [hround]

theorem roundCaps_go {n : Nat} {u : List Nat} {r : Nat} (c : SMap Nat) (hsome : cappedOf set w u r ≠ []) :
    roundCaps set w (n + 1) u r c = roundCaps set w n (u.filter fun t => !decide (t ∈ cappedOf set w u r))
      (r - sumN ((cappedOf set w u r).map set)) ((cappedOf set w u r).foldl (fun m t => mput m t (set t)) c) := by
  have hround : divideRounds set w (n + 1) u r c = divideRounds set w n (u.filter fun t => !decide (t ∈ cappedOf set w u r))
      (r - sumN ((cappedOf set w u r).map set)) ((cappedOf set w u r).foldl (fun m t => mput m t (set t)) c) := by
    show (if (cappedOf set w u r).isEmpty then _ else _) = _
    exact if_neg fun h => hsome (List.isEmpty_iff.mp h)
  unfold roundCaps
  rw [hround]

theorem mem_cappedOf {u : List Nat} {r t : Nat} :
    t ∈ cappedOf set w u r ↔ t ∈ u ∧ set t ≠ uncapped ∧ set t * sumN (u.map w) ≤ r * w t := by
  simp [cappedOf]

theorem filter_mem_cappedOf (u : List Nat) (r : Nat) : (u.filter fun t => decide (t ∈ cappedOf set w u r)) = cappedOf set w u r := by
  conv_rhs => unfold cappedOf
  refine List.filter_congr fun t ht => ?_
  simp [mem_cappedOf, ht]

theorem sumN_cappedOf_le {u : List Nat} {r : Nat} (hw : ∀ t ∈ u, 0 < w t) : sumN ((cappedOf set w u r).map set) ≤ r := by
  rcases Nat.eq_zero_or_pos (sumN (u.map w)) with hzero | hpos
  · have hnone : cappedOf set w u r = [] := by
      cases u with
      | nil => rfl
      | cons t ts =>
        rw [sumN_map_cons] at hzero
        have := hw t (List.mem_cons_self ..)
        omega
    rw [hnone]
    exact Nat.zero_le r
  · exact sumN_limits_le hpos (sumN_map_filter_le w _ u) fun t ht => ((mem_cappedOf set w).mp ht).2.2

theorem roundCaps_outside (n : Nat) (u : List Nat) (r : Nat) (c : SMap Nat) {t : Nat} (ht : t ∉ u) :
    mget (roundCaps set w n u r c) t 0 = mget c t 0 := by
  induction n generalizing u r c with
  | zero => exact mget_foldl_mput_notMem id _ 0 t u c (by rwa [List.map_id])
  | succ n ih =>
    by_cases hcap : cappedOf set w u r = []
    · rw [roundCaps_stop set w c hcap]
      exact mget_foldl_mput_notMem id _ 0 t u c (by rwa [List.map_id])
    · rw [roundCaps_go set w c hcap, ih _ _ _ fun h => ht (List.mem_of_mem_filter h)]
      exact mget_foldl_mput_notMem id set 0 t _ c fun h => ht ((mem_cappedOf set w).mp (by rwa [List.map_id] at h)).1

/-- The caps of the tenants of a round stay within its amount, and none is above the tenant's own. -/
theorem roundCaps_within (n : Nat) (u : List Nat) (r : Nat) (c : SMap Nat) (hfuel : u.length < n) (hu : u.Nodup) (hw : ∀ t ∈ u, 0 < w t) :
    sumN (u.map fun t => mget (roundCaps set w n u r c) t 0) ≤ r ∧
      ∀ t ∈ u, set t ≠ uncapped → mget (roundCaps set w n u r c) t 0 ≤ set t := by
  induction n generalizing u r c with
  | zero => exact absurd hfuel (Nat.not_lt_zero _)
  | succ n ih =>
    by_cases hcap : cappedOf set w u r = []
    · have hshare : ∀ t ∈ u, mget (roundCaps set w (n + 1) u r c) t 0 = r * w t / sumN (u.map w) := fun t ht => by
        rw [roundCaps_stop set w c hcap]
        exact mget_foldl_mput_mem id (fun t => r * w t / sumN (u.map w)) 0 c (by rwa [List.map_id]) ht
      refine ⟨?_, fun t ht hset => ?_⟩
      · rw [sumN_map_congr hshare]
        exact sumN_shares_le r w u _ (Nat.le_refl _)
      · rw [hshare t ht]
        have habove : ¬ set t * sumN (u.map w) ≤ r * w t := fun h => by
          have : t ∈ cappedOf set w u r := (mem_cappedOf set w).mpr ⟨ht, hset, h⟩
          rw [hcap] at this
          cases this
        exact Nat.le_of_lt (Nat.div_lt_of_lt_mul (Nat.mul_comm (set t) _ ▸ Nat.lt_of_not_le habove))
    · have hrest : (u.filter fun t => !decide (t ∈ cappedOf set w u r)).length < n := by
        obtain ⟨t, ht⟩ := List.exists_mem_of_ne_nil _ hcap
        have hlt : (u.filter fun t => !decide (t ∈ cappedOf set w u r)).length < u.length :=
          List.length_filter_lt_length_iff_exists.mpr ⟨t, ((mem_cappedOf set w).mp ht).1, by simp [ht]⟩
        omega
      have hcapped : ∀ t ∈ cappedOf set w u r, mget (roundCaps set w (n + 1) u r c) t 0 = set t := fun t ht => by
        rw [roundCaps_go set w c hcap, roundCaps_outside set w _ _ _ _ (by simp [ht])]
        exact mget_foldl_mput_mem id set 0 c (by rw [List.map_id]; exact hu.filter _) ht
      obtain ⟨hsum, hown⟩ := ih (u.filter fun t => !decide (t ∈ cappedOf set w u r)) (r - sumN ((cappedOf set w u r).map set))
        ((cappedOf set w u r).foldl (fun m t => mput m t (set t)) c) hrest (hu.filter _)
        fun t ht => hw t (List.mem_of_mem_filter ht)
      rw [← roundCaps_go set w c hcap] at hsum hown
      refine ⟨?_, fun t ht hset => ?_⟩
      · rw [← sumN_map_filter_add _ (fun t => decide (t ∈ cappedOf set w u r)) u, filter_mem_cappedOf set w u r, sumN_map_congr hcapped]
        have hle := sumN_cappedOf_le set w (r := r) hw
        omega
      · by_cases hmem : t ∈ cappedOf set w u r
        · exact le_of_eq (hcapped t hmem)
        · exact hown t (List.mem_filter.mpr ⟨ht, by simp [hmem]⟩) hset

end

theorem divide_active (avail : Nat) (set w : Nat → Nat) {active : List Nat} {t : Nat} (ht : t ∈ active) (hlt : t < 512) :
    mget (divide avail set w active) t 0 = mget (roundCaps set w 513 active avail []) t 0 := by
  unfold divide
  rw [mget_map_pair _ 0 (List.mem_range.mpr hlt), if_pos ht]
  rfl

/-- Settles O54. -/
theorem capsWithin : Obligations.CapsWithin := by
  intro avail set w active hnodup hactive
  have hlength : active.length < 513 := by
    have hsub : active ⊆ List.range 512 := fun t ht => List.mem_range.mpr (hactive t ht).1
    have := (List.subperm_of_subset hnodup hsub).length_le
    rw [List.length_range] at this
    omega
  have heq : ∀ t ∈ active, mget (divide avail set w active) t 0 = mget (roundCaps set w 513 active avail []) t 0 := fun t ht =>
    divide_active avail set w ht (hactive t ht).1
  obtain ⟨hsum, hown⟩ := roundCaps_within set w 513 active avail [] hlength hnodup fun t ht => (hactive t ht).2
  exact ⟨(sumN_map_congr heq).trans_le hsum, fun t ht hset => (heq t ht).trans_le (hown t ht hset)⟩

end Sys2Proof.Machine
end

section
/-!
PROOF. The grants of an epoch (R353): below the members' bases every floor of decay is kept, above them the rounds share what remains.
-/
namespace Sys2Proof.Machine
open Sys2Proof.Claims

set_option Elab.async false

/-- The members that a round caps: what they may still take is within their share. -/
def cappedShares (u : List Share) (r : Nat) : List Share :=
  u.filter fun x => decide ((x.cap - x.base) * sumN (u.map Share.weight) ≤ r * x.weight)

/-- The members that a round leaves in U. -/
def openShares (u : List Share) (r : Nat) : List Share :=
  u.filter fun x => !decide ((x.cap - x.base) * sumN (u.map Share.weight) ≤ r * x.weight)

/-- What the rounds and the division of their remainder give. -/
def roundGrants (n r : Nat) (u : List Share) (g : SMap Nat) : SMap Nat :=
  (shareRounds n r u g).2.1.foldl
    (fun m x => mput m x.id (x.base + (shareRounds n r u g).1 * x.weight / sumN ((shareRounds n r u g).2.1.map Share.weight)))
    (shareRounds n r u g).2.2

theorem roundGrants_stop {n r : Nat} {u : List Share} (g : SMap Nat) (hnone : cappedShares u r = []) :
    roundGrants (n + 1) r u g = u.foldl (fun g x => mput g x.id (x.base + r * x.weight / sumN (u.map Share.weight))) g := by
  have hround : shareRounds (n + 1) r u g = (r, u, g) := by
    show (if (cappedShares u r).isEmpty then _ else _) = _
    exact if_pos (List.isEmpty_iff.mpr hnone)
  unfold roundGrants
  rw [hround]

theorem roundGrants_go {n r : Nat} {u : List Share} (g : SMap Nat) (hsome : cappedShares u r ≠ []) :
    roundGrants (n + 1) r u g = roundGrants n (r - sumN ((cappedShares u r).map fun x => x.cap - x.base)) (openShares u r)
      ((cappedShares u r).foldl (fun g x => mput g x.id x.cap) g) := by
  have hround : shareRounds (n + 1) r u g = shareRounds n (r - sumN ((cappedShares u r).map fun x => x.cap - x.base)) (openShares u r)
      ((cappedShares u r).foldl (fun g x => mput g x.id x.cap) g) := by
    show (if (cappedShares u r).isEmpty then _ else _) = _
    exact if_neg fun h => hsome (List.isEmpty_iff.mp h)
  unfold roundGrants
  rw [hround]

theorem mem_cappedShares {u : List Share} {r : Nat} {x : Share} :
    x ∈ cappedShares u r ↔ x ∈ u ∧ (x.cap - x.base) * sumN (u.map Share.weight) ≤ r * x.weight := by
  simp [cappedShares]

theorem mem_openShares {u : List Share} {r : Nat} {x : Share} : x ∈ openShares u r ↔ x ∈ u ∧ x ∉ cappedShares u r := by
  simp only [openShares, List.mem_filter, Bool.not_eq_true', decide_eq_false_iff_not, mem_cappedShares]
  tauto

theorem sumN_cappedShares_le {u : List Share} {r : Nat} (hw : ∀ x ∈ u, 0 < x.weight) :
    sumN ((cappedShares u r).map fun x => x.cap - x.base) ≤ r := by
  cases u with
  | nil => exact Nat.zero_le r
  | cons x xs =>
    have hpos : 0 < sumN ((x :: xs).map Share.weight) := by
      rw [sumN_map_cons]
      have := hw x (List.mem_cons_self ..)
      omega
    exact sumN_limits_le hpos (sumN_map_filter_le Share.weight _ (x :: xs)) fun y hy => (mem_cappedShares.mp hy).2

theorem roundGrants_outside (n r : Nat) (u : List Share) (g : SMap Nat) {k : Nat} (hk : k ∉ u.map Share.id) :
    mget (roundGrants n r u g) k 0 = mget g k 0 := by
  induction n generalizing u r g with
  | zero => exact mget_foldl_mput_notMem (fun x : Share => x.id) _ 0 k u g hk
  | succ n ih =>
    by_cases hcap : cappedShares u r = []
    · rw [roundGrants_stop g hcap]
      exact mget_foldl_mput_notMem (fun x : Share => x.id) _ 0 k u g hk
    · have hopen : k ∉ (openShares u r).map Share.id := fun h => hk (List.map_subset _ (fun _ => List.mem_of_mem_filter) h)
      have hcapped : k ∉ (cappedShares u r).map Share.id := fun h => hk (List.map_subset _ (fun _ => List.mem_of_mem_filter) h)
      rw [roundGrants_go g hcap, ih _ _ _ hopen]
      exact mget_foldl_mput_notMem (fun x : Share => x.id) Share.cap 0 k _ g hcapped

/-- A member's grant is its share's, so members with one id are one member. -/
theorem eq_of_id_eq {u : List Share} (hu : (u.map Share.id).Nodup) {x y : Share} (hx : x ∈ u) (hy : y ∈ u) (h : x.id = y.id) : x = y :=
  List.inj_on_of_nodup_map hu hx hy h

theorem nodup_filter_ids {u : List Share} (hu : (u.map Share.id).Nodup) (p : Share → Bool) : ((u.filter p).map Share.id).Nodup :=
  hu.sublist (List.filter_sublist.map _)

/-- The grants of a round's members stay within their bases and the amount, and each lies between the member's base and its cap. -/
theorem roundGrants_within (n r : Nat) (u : List Share) (g : SMap Nat) (hfuel : u.length < n) (hu : (u.map Share.id).Nodup)
    (hshare : ∀ x ∈ u, x.base ≤ x.cap ∧ 0 < x.weight) :
    sumN (u.map fun x => mget (roundGrants n r u g) x.id 0) ≤ sumN (u.map Share.base) + r ∧
      ∀ x ∈ u, x.base ≤ mget (roundGrants n r u g) x.id 0 ∧ mget (roundGrants n r u g) x.id 0 ≤ x.cap := by
  induction n generalizing u r g with
  | zero => exact absurd hfuel (Nat.not_lt_zero _)
  | succ n ih =>
    by_cases hcap : cappedShares u r = []
    · have hgrant : ∀ x ∈ u, mget (roundGrants (n + 1) r u g) x.id 0 = x.base + r * x.weight / sumN (u.map Share.weight) := fun x hx => by
        rw [roundGrants_stop g hcap]
        exact mget_foldl_mput_mem Share.id (fun x => x.base + r * x.weight / sumN (u.map Share.weight)) 0 g hu hx
      refine ⟨?_, fun x hx => ?_⟩
      · rw [sumN_map_congr hgrant, sumN_map_add]
        exact Nat.add_le_add_left (sumN_shares_le r Share.weight u _ (Nat.le_refl _)) _
      · rw [hgrant x hx]
        have habove : ¬ (x.cap - x.base) * sumN (u.map Share.weight) ≤ r * x.weight := fun h => by
          have hmem : x ∈ cappedShares u r := mem_cappedShares.mpr ⟨hx, h⟩
          rw [hcap] at hmem
          cases hmem
        have hlt : r * x.weight / sumN (u.map Share.weight) < x.cap - x.base :=
          Nat.div_lt_of_lt_mul (Nat.mul_comm (x.cap - x.base) _ ▸ Nat.lt_of_not_le habove)
        exact ⟨Nat.le_add_right _ _, Nat.add_le_of_le_sub' (hshare x hx).1 hlt.le⟩
    · have hrest : (openShares u r).length < n := by
        obtain ⟨x, hx⟩ := List.exists_mem_of_ne_nil _ hcap
        have hlt : (openShares u r).length < u.length :=
          List.length_filter_lt_length_iff_exists.mpr ⟨x, (mem_cappedShares.mp hx).1, by simp [(mem_cappedShares.mp hx).2]⟩
        omega
      have hcapped : ∀ x ∈ cappedShares u r, mget (roundGrants (n + 1) r u g) x.id 0 = x.cap := fun x hx => by
        have hout : x.id ∉ (openShares u r).map Share.id := fun h => by
          obtain ⟨y, hy, hid⟩ := List.mem_map.mp h
          obtain ⟨hyu, hyc⟩ := mem_openShares.mp hy
          exact hyc (eq_of_id_eq hu (mem_cappedShares.mp hx).1 hyu hid.symm ▸ hx)
        rw [roundGrants_go g hcap, roundGrants_outside _ _ _ _ hout]
        exact mget_foldl_mput_mem Share.id Share.cap 0 g (nodup_filter_ids hu _) hx
      obtain ⟨hsum, hown⟩ := ih (r - sumN ((cappedShares u r).map fun x => x.cap - x.base)) (openShares u r)
        ((cappedShares u r).foldl (fun g x => mput g x.id x.cap) g) hrest (nodup_filter_ids hu _)
        fun x hx => hshare x (mem_openShares.mp hx).1
      rw [← roundGrants_go g hcap] at hsum hown
      refine ⟨?_, fun x hx => ?_⟩
      · have hsplit (f : Share → Nat) : sumN ((cappedShares u r).map f) + sumN ((openShares u r).map f) = sumN (u.map f) :=
          sumN_map_filter_add f _ u
        have hcaps : sumN ((cappedShares u r).map Share.cap) =
            sumN ((cappedShares u r).map Share.base) + sumN ((cappedShares u r).map fun x => x.cap - x.base) := by
          rw [← sumN_map_add]
          exact sumN_map_congr fun x hx => by have := (hshare x (mem_cappedShares.mp hx).1).1; omega
        have hle := sumN_cappedShares_le (r := r) fun x hx => (hshare x hx).2
        rw [← hsplit, ← hsplit Share.base, sumN_map_congr hcapped]
        omega
      · by_cases hmem : x ∈ cappedShares u r
        · rw [hcapped x hmem]
          exact ⟨(hshare x hx).1, Nat.le_refl _⟩
        · exact hown x (mem_openShares.mpr ⟨hx, hmem⟩)

/-! ### The two cases of the budget -/

/-- A member's grant where the budget lies below the bases: its floor of decay, and its part of what the budget leaves above all. -/
def lowGrant (b : Nat) (xs : List Share) (x : Share) : Nat :=
  x.lo + (if sumN (xs.map Share.lo) < b then
    (b - sumN (xs.map Share.lo)) * (x.base - x.lo) / (sumN (xs.map Share.base) - sumN (xs.map Share.lo)) else 0)

theorem allocate_low {b : Nat} {xs : List Share} (hlow : b < sumN (xs.map Share.base)) :
    allocate b xs = xs.foldl (fun g x => mput g x.id (lowGrant b xs x)) [] := by
  unfold allocate
  exact if_pos hlow

theorem lowGrant_within {b : Nat} {xs : List Share} (hlow : b < sumN (xs.map Share.base)) (hxs : ∀ x ∈ xs, x.lo ≤ x.base) :
    sumN (xs.map (lowGrant b xs)) ≤ max b (sumN (xs.map Share.lo)) ∧ ∀ x ∈ xs, x.lo ≤ lowGrant b xs x ∧ lowGrant b xs x ≤ x.base := by
  by_cases habove : sumN (xs.map Share.lo) < b
  · have hrange : sumN (xs.map fun x => x.base - x.lo) = sumN (xs.map Share.base) - sumN (xs.map Share.lo) := by
      have hadd := sumN_map_add (fun x : Share => x.base - x.lo) Share.lo xs
      have hbase : sumN (xs.map fun x => x.base - x.lo + x.lo) = sumN (xs.map Share.base) :=
        sumN_map_congr fun x hx => Nat.sub_add_cancel (hxs x hx)
      omega
    have hgrant : ∀ x ∈ xs, lowGrant b xs x = x.lo +
        (b - sumN (xs.map Share.lo)) * (x.base - x.lo) / (sumN (xs.map Share.base) - sumN (xs.map Share.lo)) := fun x _ =>
      congrArg (x.lo + ·) (if_pos habove)
    refine ⟨?_, fun x hx => ⟨Nat.le_add_right _ _, ?_⟩⟩
    · rw [sumN_map_congr hgrant, sumN_map_add]
      have := sumN_shares_le (b - sumN (xs.map Share.lo)) (fun x : Share => x.base - x.lo) xs _ (Nat.le_of_eq hrange)
      omega
    · have hpart : (b - sumN (xs.map Share.lo)) * (x.base - x.lo) / (sumN (xs.map Share.base) - sumN (xs.map Share.lo)) ≤ x.base - x.lo :=
        Nat.div_le_of_le_mul (Nat.mul_le_mul_right _ (by omega))
      rw [hgrant x hx]
      exact Nat.add_le_of_le_sub' (hxs x hx) hpart
  · have hgrant : ∀ x ∈ xs, lowGrant b xs x = x.lo := fun x _ => congrArg (x.lo + ·) (if_neg habove)
    exact ⟨(sumN_map_congr hgrant).trans_le (Nat.le_max_right _ _), fun x hx => by
      rw [hgrant x hx]
      exact ⟨Nat.le_refl _, hxs x hx⟩⟩

/-- The members that may rise above their base. -/
def rising (xs : List Share) : List Share := xs.filter fun x => decide (x.base < x.cap)

theorem allocate_high {b : Nat} {xs : List Share} (hhigh : ¬ b < sumN (xs.map Share.base)) :
    allocate b xs = roundGrants (xs.length + 1) (b - sumN (xs.map Share.base)) (rising xs)
      (xs.foldl (fun g x => mput g x.id x.base) []) := by
  unfold allocate
  exact if_neg hhigh

theorem highGrant_within {b : Nat} {xs : List Share} (hhigh : ¬ b < sumN (xs.map Share.base)) (hids : (xs.map Share.id).Nodup)
    (hxs : ∀ x ∈ xs, x.base ≤ x.cap ∧ (x.base < x.cap → 0 < x.weight)) :
    sumN (xs.map fun x => mget (allocate b xs) x.id 0) ≤ b ∧
      ∀ x ∈ xs, x.base ≤ mget (allocate b xs) x.id 0 ∧ mget (allocate b xs) x.id 0 ≤ x.cap := by
  obtain ⟨hsum, hown⟩ := roundGrants_within (xs.length + 1) (b - sumN (xs.map Share.base)) (rising xs)
    (xs.foldl (fun g x => mput g x.id x.base) []) (Nat.lt_succ_of_le (List.length_filter_le _ _)) (nodup_filter_ids hids _)
    fun x hx => ⟨(hxs x (List.mem_of_mem_filter hx)).1, (hxs x (List.mem_of_mem_filter hx)).2 (by simpa using (List.mem_filter.mp hx).2)⟩
  rw [← allocate_high hhigh] at hsum hown
  have hbase : ∀ x ∈ xs.filter (fun x => !decide (x.base < x.cap)), mget (allocate b xs) x.id 0 = x.base := fun x hx => by
    obtain ⟨hmem, hflat⟩ := List.mem_filter.mp hx
    have hout : x.id ∉ (rising xs).map Share.id := fun h => by
      obtain ⟨y, hy, hid⟩ := List.mem_map.mp h
      obtain ⟨hyxs, hrise⟩ := List.mem_filter.mp hy
      rw [eq_of_id_eq hids hyxs hmem hid] at hrise
      rw [hrise] at hflat
      cases hflat
    rw [allocate_high hhigh, roundGrants_outside _ _ _ _ hout]
    exact mget_foldl_mput_mem Share.id Share.base 0 [] hids hmem
  refine ⟨?_, fun x hx => ?_⟩
  · rw [← sumN_map_filter_add _ (fun x => decide (x.base < x.cap)) xs, sumN_map_congr hbase]
    have hsplit := sumN_map_filter_add Share.base (fun x : Share => decide (x.base < x.cap)) xs
    have hsum' : sumN ((xs.filter fun x => decide (x.base < x.cap)).map fun x => mget (allocate b xs) x.id 0) ≤
        sumN ((xs.filter fun x => decide (x.base < x.cap)).map Share.base) + (b - sumN (xs.map Share.base)) := hsum
    omega
  · by_cases hrise : x.base < x.cap
    · exact hown x (List.mem_filter.mpr ⟨hx, by simpa using hrise⟩)
    · rw [hbase x (List.mem_filter.mpr ⟨hx, by simpa using hrise⟩)]
      exact ⟨Nat.le_refl _, (hxs x hx).1⟩

/-- Settles O55. -/
theorem grantsWithin : Obligations.GrantsWithin := by
  intro b xs hids hxs
  by_cases hlow : b < sumN (xs.map Share.base)
  · have hgrant : ∀ x ∈ xs, mget (allocate b xs) x.id 0 = lowGrant b xs x := fun x hx => by
      rw [allocate_low hlow]
      exact mget_foldl_mput_mem Share.id (lowGrant b xs) 0 [] hids hx
    obtain ⟨hsum, hown⟩ := lowGrant_within hlow fun x hx => (hxs x hx).1
    refine ⟨(sumN_map_congr hgrant).trans_le hsum, fun x hx => ?_⟩
    rw [hgrant x hx]
    exact ⟨(hown x hx).1, (hown x hx).2.trans (hxs x hx).2.1⟩
  · obtain ⟨hsum, hown⟩ := highGrant_within hlow hids fun x hx => (hxs x hx).2
    exact ⟨hsum.trans (Nat.le_max_left _ _), fun x hx => ⟨(hxs x hx).1.trans (hown x hx).1, (hown x hx).2⟩⟩

end Sys2Proof.Machine
end

section
/-!
PROOF. What writing an event and counting leave, component by component, for simp.
-/
namespace Sys2Proof.Machine

set_option Elab.async false

variable (s : State)

/-- An event written (R447): every component but the recorder stays. -/
@[simp] theorem State.emit_same (unit : Nat) (idx : Nat) (ps : List Nat) :
    (s.emit unit idx ps).pending = s.pending ∧ (s.emit unit idx ps).running = s.running ∧ (s.emit unit idx ps).ts = s.ts ∧
    (s.emit unit idx ps).fuse = s.fuse ∧ (s.emit unit idx ps).mem = s.mem ∧ (s.emit unit idx ps).flash = s.flash ∧
    (s.emit unit idx ps).out = s.out ∧ (s.emit unit idx ps).cnt = s.cnt ∧ (s.emit unit idx ps).cntPend = s.cntPend ∧
    (s.emit unit idx ps).lanes = s.lanes ∧ (s.emit unit idx ps).chks = s.chks ∧ (s.emit unit idx ps).droops = s.droops ∧
    (s.emit unit idx ps).cores = s.cores ∧ (s.emit unit idx ps).tly = s.tly ∧ (s.emit unit idx ps).ramp = s.ramp ∧
    (s.emit unit idx ps).sns = s.sns ∧ (s.emit unit idx ps).fcs = s.fcs ∧ (s.emit unit idx ps).lpe = s.lpe ∧
    (s.emit unit idx ps).trc = s.trc ∧ (s.emit unit idx ps).wfg = s.wfg ∧ (s.emit unit idx ps).cntZero = s.cntZero ∧
    (s.emit unit idx ps).dvfs = s.dvfs ∧ (s.emit unit idx ps).pins = s.pins ∧ (s.emit unit idx ps).vrc = s.vrc ∧
    (s.emit unit idx ps).pmb = s.pmb ∧ (s.emit unit idx ps).acc = s.acc ∧ (s.emit unit idx ps).thm = s.thm ∧
    (s.emit unit idx ps).hif = s.hif ∧ (s.emit unit idx ps).slt = s.slt ∧ (s.emit unit idx ps).par = s.par ∧
    (s.emit unit idx ps).nvm = s.nvm ∧ (s.emit unit idx ps).smb = s.smb ∧ (s.emit unit idx ps).fw = s.fw ∧
    (s.emit unit idx ps).rst = s.rst ∧ (s.emit unit idx ps).hub = s.hub ∧ (s.emit unit idx ps).fans = s.fans ∧
    (s.emit unit idx ps).mgt = s.mgt ∧ (s.emit unit idx ps).xovrMs = s.xovrMs :=
  have h := State.emit_frame (Sub.refl _) (Frame.refl _ s) unit idx ps
  ⟨h.pending rfl, h.running rfl, h.ts rfl, h.fuse rfl, h.mem rfl, h.flash rfl, h.out rfl, h.cnt rfl, h.cntPend rfl,
    h.lanes rfl, h.chks rfl, h.droops rfl, h.cores rfl, h.tly rfl, h.ramp rfl, h.sns rfl, h.fcs rfl, h.lpe rfl, h.trc
    rfl, h.wfg rfl, h.cntZero rfl, h.dvfs rfl, h.pins rfl, h.vrc rfl, h.pmb rfl, h.acc rfl, h.thm rfl, h.hif rfl, h.slt
    rfl, h.par rfl, h.nvm rfl, h.smb rfl, h.fw rfl, h.rst rfl, h.hub rfl, h.fans rfl, h.mgt rfl, h.xovrMs rfl⟩

/-- The same of an event written once per span (R453). -/
@[simp] theorem State.emitLim_same (unit : Nat) (idx : Nat) (scope : Nat) (span : Nat) (ps : List Nat) :
    (s.emitLim unit idx scope span ps).pending = s.pending ∧ (s.emitLim unit idx scope span ps).running = s.running ∧
    (s.emitLim unit idx scope span ps).ts = s.ts ∧ (s.emitLim unit idx scope span ps).fuse = s.fuse ∧
    (s.emitLim unit idx scope span ps).mem = s.mem ∧ (s.emitLim unit idx scope span ps).flash = s.flash ∧
    (s.emitLim unit idx scope span ps).out = s.out ∧ (s.emitLim unit idx scope span ps).cnt = s.cnt ∧
    (s.emitLim unit idx scope span ps).cntPend = s.cntPend ∧ (s.emitLim unit idx scope span ps).lanes = s.lanes ∧
    (s.emitLim unit idx scope span ps).chks = s.chks ∧ (s.emitLim unit idx scope span ps).droops = s.droops ∧
    (s.emitLim unit idx scope span ps).cores = s.cores ∧ (s.emitLim unit idx scope span ps).tly = s.tly ∧
    (s.emitLim unit idx scope span ps).ramp = s.ramp ∧ (s.emitLim unit idx scope span ps).sns = s.sns ∧
    (s.emitLim unit idx scope span ps).fcs = s.fcs ∧ (s.emitLim unit idx scope span ps).lpe = s.lpe ∧
    (s.emitLim unit idx scope span ps).trc = s.trc ∧ (s.emitLim unit idx scope span ps).wfg = s.wfg ∧
    (s.emitLim unit idx scope span ps).cntZero = s.cntZero ∧ (s.emitLim unit idx scope span ps).dvfs = s.dvfs ∧
    (s.emitLim unit idx scope span ps).pins = s.pins ∧ (s.emitLim unit idx scope span ps).vrc = s.vrc ∧
    (s.emitLim unit idx scope span ps).pmb = s.pmb ∧ (s.emitLim unit idx scope span ps).acc = s.acc ∧
    (s.emitLim unit idx scope span ps).thm = s.thm ∧ (s.emitLim unit idx scope span ps).hif = s.hif ∧
    (s.emitLim unit idx scope span ps).slt = s.slt ∧ (s.emitLim unit idx scope span ps).par = s.par ∧
    (s.emitLim unit idx scope span ps).nvm = s.nvm ∧ (s.emitLim unit idx scope span ps).smb = s.smb ∧
    (s.emitLim unit idx scope span ps).fw = s.fw ∧ (s.emitLim unit idx scope span ps).rst = s.rst ∧
    (s.emitLim unit idx scope span ps).hub = s.hub ∧ (s.emitLim unit idx scope span ps).fans = s.fans ∧
    (s.emitLim unit idx scope span ps).mgt = s.mgt ∧ (s.emitLim unit idx scope span ps).xovrMs = s.xovrMs :=
  have h := State.emitLim_frame (Sub.refl _) (Frame.refl _ s) unit idx scope span ps
  ⟨h.pending rfl, h.running rfl, h.ts rfl, h.fuse rfl, h.mem rfl, h.flash rfl, h.out rfl, h.cnt rfl, h.cntPend rfl,
    h.lanes rfl, h.chks rfl, h.droops rfl, h.cores rfl, h.tly rfl, h.ramp rfl, h.sns rfl, h.fcs rfl, h.lpe rfl, h.trc
    rfl, h.wfg rfl, h.cntZero rfl, h.dvfs rfl, h.pins rfl, h.vrc rfl, h.pmb rfl, h.acc rfl, h.thm rfl, h.hif rfl, h.slt
    rfl, h.par rfl, h.nvm rfl, h.smb rfl, h.fw rfl, h.rst rfl, h.hub rfl, h.fans rfl, h.mgt rfl, h.xovrMs rfl⟩

/-- A count (R501) waits for the tick. -/
@[simp] theorem State.count_same (key : Nat) (n : Nat) :
    (s.count key n).pending = s.pending ∧ (s.count key n).running = s.running ∧ (s.count key n).ts = s.ts ∧
    (s.count key n).fuse = s.fuse ∧ (s.count key n).mem = s.mem ∧ (s.count key n).flash = s.flash ∧ (s.count key n).out = s.out ∧
    (s.count key n).recd = s.recd ∧ (s.count key n).cnt = s.cnt ∧ (s.count key n).lanes = s.lanes ∧ (s.count key n).chks = s.chks ∧
    (s.count key n).droops = s.droops ∧ (s.count key n).cores = s.cores ∧ (s.count key n).tly = s.tly ∧
    (s.count key n).ramp = s.ramp ∧ (s.count key n).sns = s.sns ∧ (s.count key n).fcs = s.fcs ∧ (s.count key n).lpe = s.lpe ∧
    (s.count key n).trc = s.trc ∧ (s.count key n).wfg = s.wfg ∧ (s.count key n).cntZero = s.cntZero ∧ (s.count key n).dvfs = s.dvfs ∧
    (s.count key n).pins = s.pins ∧ (s.count key n).vrc = s.vrc ∧ (s.count key n).pmb = s.pmb ∧ (s.count key n).acc = s.acc ∧
    (s.count key n).thm = s.thm ∧ (s.count key n).hif = s.hif ∧ (s.count key n).slt = s.slt ∧ (s.count key n).par = s.par ∧
    (s.count key n).nvm = s.nvm ∧ (s.count key n).smb = s.smb ∧ (s.count key n).fw = s.fw ∧ (s.count key n).rst = s.rst ∧
    (s.count key n).hub = s.hub ∧ (s.count key n).fans = s.fans ∧ (s.count key n).mgt = s.mgt ∧ (s.count key n).xovrMs = s.xovrMs :=
  have h := State.count_frame (Sub.refl _) (Frame.refl _ s) key n
  ⟨h.pending rfl, h.running rfl, h.ts rfl, h.fuse rfl, h.mem rfl, h.flash rfl, h.out rfl, h.recd rfl, h.cnt rfl,
    h.lanes rfl, h.chks rfl, h.droops rfl, h.cores rfl, h.tly rfl, h.ramp rfl, h.sns rfl, h.fcs rfl, h.lpe rfl, h.trc
    rfl, h.wfg rfl, h.cntZero rfl, h.dvfs rfl, h.pins rfl, h.vrc rfl, h.pmb rfl, h.acc rfl, h.thm rfl, h.hif rfl, h.slt
    rfl, h.par rfl, h.nvm rfl, h.smb rfl, h.fw rfl, h.rst rfl, h.hub rfl, h.fans rfl, h.mgt rfl, h.xovrMs rfl⟩

@[simp] theorem State.count_regs (key n : Nat) : (s.count key n).regs = s.regs := by
  unfold State.count
  split <;> rfl

@[simp] theorem State.count_rd (key n : Nat) (f : Fld) (i : Nat) : (s.count key n).rd f i = s.rd f i := by
  unfold State.count
  split <;> rfl

/-- An event written may count in EVT_DROP alone (R452). -/
theorem State.rd_emit (unit idx : Nat) (ps : List Nat) (f : Fld) (i : Nat) (hf : sepFld f EVT_DROP_dropped = true) :
    (s.emit unit idx ps).rd f i = s.rd f i := by
  unfold State.emit State.pushRec
  dsimp only
  split
  · rfl
  · exact State.rd_bump_sep _ _ _ _ _ hf

theorem State.rd_emitLim (unit idx scope span : Nat) (ps : List Nat) (f : Fld) (i : Nat) (hf : sepFld f EVT_DROP_dropped = true) :
    (s.emitLim unit idx scope span ps).rd f i = s.rd f i := by
  unfold State.emitLim
  dsimp only
  split
  · rfl
  · exact State.rd_emit _ unit idx ps f i hf

end Sys2Proof.Machine
end

section
/-!
PROOF. The cooling channels (R517 to R524).
-/
namespace Sys2Proof.Machine
open Sys2Proof.Claims

set_option Elab.async false

section
variable (s : State) (n : Nat)

@[simp] theorem fan_setFan (x : Fan) : (s.setFan n x).fan n = x := mget_mput_same _ _ _ _

@[simp] theorem fan_wr (f : Fld) (i v : Nat) : (s.wr f i v).fan n = s.fan n := rfl

@[simp] theorem fan_send (o : Out) : (s.send o).fan n = s.fan n := rfl

@[simp] theorem fan_emit (unit idx : Nat) (ps : List Nat) : (s.emit unit idx ps).fan n = s.fan n := by
  simp only [State.fan, State.emit_same]

@[simp] theorem fan_emitLim (unit idx scope span : Nat) (ps : List Nat) : (s.emitLim unit idx scope span ps).fan n = s.fan n := by
  simp only [State.fan, State.emitLim_same]

/-- Showing the deficit changes the deficit alone. -/
theorem fan_fanDefIn (st : Nat) : (s.fanDefIn n st).fan n = { s.fan n with deficit := s.fanDeficit n st } := by
  unfold State.fanDefIn
  rw [fan_wr, fan_setFan]

theorem rd_fanDefIn (st : Nat) (f : Fld) (i : Nat) (hf : sepFld f FAN_DEF_deficit = true) : (s.fanDefIn n st).rd f i = s.rd f i := by
  unfold State.fanDefIn
  rw [State.rd_wr_sep _ _ _ _ _ _ hf]
  rfl

theorem rd_fanDef (f : Fld) (i : Nat) (hf : sepFld f FAN_DEF_deficit = true) : (s.fanDef n).rd f i = s.rd f i :=
  rd_fanDefIn _ _ _ _ _ hf

theorem fan_fanDef_next : ((s.fanDef n).fan n).next = (s.fan n).next := by
  unfold State.fanDef
  rw [fan_fanDefIn]

theorem fan_fanDef_since : ((s.fanDef n).fan n).since = (s.fan n).since := by
  unfold State.fanDef
  rw [fan_fanDefIn]

end

/-! ### The period (R517, R518, R520) -/

/-- A change of state that applies at a period start. -/
def State.fanEnter (s : State) (n st : Nat) : State :=
  let old := s.rd FAN_STAT_state n
  let f := s.fan n
  let fresh := decide (st = 1) && decide (old ≠ 2)
  let f := { f with next := none, since := s.ts, good := 0, tries := if fresh then 0 else f.tries,
                    lastEdge := if old = 0 then s.ts else f.lastEdge }
  ((s.setFan n f).wr FAN_STAT_state n st |>.wr FAN_STAT_tries n (min 15 f.tries)).fanDef n

/-- The duty of the channel's state is shown and put out. -/
def State.fanPut (s : State) (n : Nat) : State :=
  (s.wr FAN_STAT_duty n (s.fanDuty n (s.rd FAN_STAT_state n))).send
    (.fanPwm n (if s.rd FAN_STAT_state n = 0 then 4000 else roundNEN (4000 * s.fanDuty n (s.rd FAN_STAT_state n)) 255))

theorem fanPwmPeriod_eq_put {n : Fin 4} {s : State} (hrun : s.running = true) (hclk : s.clocked 20 = true) (hts : s.ts % 32000 = 0)
    (hnext : (s.fan n).next = none) : Machine.fanPwmPeriod n s = s.fanPut n := by
  unfold Machine.fanPwmPeriod
  rw [if_neg (by simp [hrun, hclk, hts])]
  simp only [hnext]
  rfl

theorem fanPwmPeriod_eq_enter_put {n : Fin 4} {st : Nat} {s : State} (hrun : s.running = true) (hclk : s.clocked 20 = true)
    (hts : s.ts % 32000 = 0) (hnext : (s.fan n).next = some st) : Machine.fanPwmPeriod n s = (s.fanEnter n st).fanPut n := by
  unfold Machine.fanPwmPeriod
  rw [if_neg (by simp [hrun, hclk, hts])]
  simp only [hnext]
  rfl

theorem rd_fanEnter_state (s : State) (n st : Nat) : (s.fanEnter n st).rd FAN_STAT_state n = st % 8 := by
  unfold State.fanEnter
  rw [rd_fanDef _ _ _ _ (by decide), State.rd_wr_sep _ _ _ _ _ _ (by decide)]
  exact State.rd_wr_same _ _ _ _

theorem rd_fanEnter (s : State) (n st : Nat) (f : Fld) (i : Nat) (hstate : sepFld f FAN_STAT_state = true)
    (htries : sepFld f FAN_STAT_tries = true) (hdef : sepFld f FAN_DEF_deficit = true) : (s.fanEnter n st).rd f i = s.rd f i := by
  unfold State.fanEnter
  rw [rd_fanDef _ _ _ _ hdef, State.rd_wr_sep _ _ _ _ _ _ htries, State.rd_wr_sep _ _ _ _ _ _ hstate]
  rfl

theorem fan_fanEnter (s : State) (n st : Nat) : ((s.fanEnter n st).fan n).next = none ∧ ((s.fanEnter n st).fan n).since = s.ts := by
  unfold State.fanEnter
  rw [fan_fanDef_next, fan_fanDef_since]
  simp only [fan_wr, fan_setFan, and_self]

theorem out_fanEnter (s : State) (n st : Nat) : (s.fanEnter n st).out = s.out := rfl

theorem fanDuty_run {s : State} {n : Nat} (hshut : s.rd THM_STAT_shut = 0) : s.fanDuty n 3 = s.fanSelected n := by
  unfold State.fanDuty
  rw [flag_of_rd_zero hshut]
  rfl

theorem fanDuty_shut {s : State} {n st : Nat} (hst : st ≠ 0) (hshut : s.rd THM_STAT_shut = 1) : s.fanDuty n st = 255 := by
  unfold State.fanDuty
  rw [if_neg hst, if_pos (flag_of_rd_one hshut)]

theorem fanSelected_band0 {s : State} {n : Nat} (hovr : s.rd FAN_OVR_valid n = 0) (hband : s.rd THM_STAT_band = 0) :
    s.fanSelected n = max (s.rd FAN_CH_dmin n) (s.rd FAN_BAND_d0 n) := by
  unfold State.fanSelected
  rw [flag_of_rd_zero hovr, hband]
  rfl

theorem fanPwmPeriod_answers : Claims.fanPwmPeriod := by
  intro n s hrun hclk hts hnext hovr hshut hband
  refine Answers.hub rfl hrun ?_
  rw [fanPwmPeriod_eq_enter_put hrun hclk hts hnext]
  have hstate : (s.fanEnter n 3).rd FAN_STAT_state n = 3 := rd_fanEnter_state s n 3
  have hread (f : Fld) (i : Nat) (h₁ : sepFld f FAN_STAT_state = true) (h₂ : sepFld f FAN_STAT_tries = true)
      (h₃ : sepFld f FAN_DEF_deficit = true) : (s.fanEnter n 3).rd f i = s.rd f i := rd_fanEnter s n 3 f i h₁ h₂ h₃
  have hduty : (s.fanEnter n 3).fanDuty n 3 = max (s.rd FAN_CH_dmin n) (s.rd FAN_BAND_d0 n) := by
    rw [fanDuty_run ((hread _ _ (by decide) (by decide) (by decide)).trans hshut),
      fanSelected_band0 ((hread _ _ (by decide) (by decide) (by decide)).trans hovr)
        ((hread _ _ (by decide) (by decide) (by decide)).trans hband),
      hread _ _ (by decide) (by decide) (by decide), hread _ _ (by decide) (by decide) (by decide)]
  unfold State.fanPut
  rw [hstate, hduty, if_neg (by decide)]
  refine ⟨(State.rd_wr_sep _ _ _ _ _ _ (by decide)).trans hstate, (fan_fanEnter s n 3).1, (fan_fanEnter s n 3).2,
    State.rd_wr_same _ _ _ _, rfl⟩

theorem fanPwmShutdown_answers : Claims.fanPwmShutdown := by
  intro n s hrun hclk hts hnext hstate hshut
  refine Answers.hub rfl hrun ?_
  rw [fanPwmPeriod_eq_put hrun hclk hts hnext]
  unfold State.fanPut
  rw [fanDuty_shut hstate hshut, if_neg hstate]
  exact ⟨State.rd_wr_same _ _ _ _, rfl⟩

/-! ### Measurements (R519, R522) -/

theorem tachEdge_counts {n : Fin 4} {m : Nat} {s : State} (hrun : s.running = true) (hclk : s.clocked 20 = true)
    (hmark : (s.fan n).mark = some m) (hedges : (s.fan n).edges < s.rd FAN_CH_ppr n) :
    Machine.tachEdge n s = s.setFan n { s.fan n with lastEdge := s.ts, edges := (s.fan n).edges + 1 } := by
  unfold Machine.tachEdge
  rw [if_neg (by simp [hrun, hclk])]
  simp only [hmark, if_pos (Nat.add_lt_add_right hedges 1)]

theorem tachEdge_measures {n : Fin 4} {m : Nat} {s : State} (hrun : s.running = true) (hclk : s.clocked 20 = true)
    (hmark : (s.fan n).mark = some m) (hedges : (s.fan n).edges = s.rd FAN_CH_ppr n) :
    Machine.tachEdge n s = (s.setFan n { s.fan n with lastEdge := s.ts, edges := 0, mark := some s.ts }).fanMeasure n (s.ts / 8 - m / 8) := by
  unfold Machine.tachEdge
  rw [if_neg (by simp [hrun, hclk])]
  simp only [hmark, hedges, lt_self_iff_false, if_false]

/-- A field that a judgement does not write: it writes events and the channel's own record. -/
theorem rd_fanJudge (s : State) (n last : Nat) (f : Fld) (i : Nat) (hf : untouched State.fanJudge_foot f = true) :
    (s.fanJudge n last).rd f i = s.rd f i := (State.fanJudge_frame (Sub.refl _) (Frame.refl _ s) n last).rd_of hf i

/-- What a measurement has counted, and since when. -/
def Fan.measurement (f : Fan) : Nat × Option Nat := (f.edges, f.mark)

section
variable (s : State) (n : Nat)

theorem measurement_fanGo (st : Nat) : ((s.fanGo n st).fan n).measurement = (s.fan n).measurement := by
  unfold State.fanGo
  rw [fan_setFan]
  rfl

theorem measurement_fanOut (st : Nat) : ((s.fanOut n st).fan n).measurement = (s.fan n).measurement := by
  unfold State.fanOut
  split
  · rw [measurement_fanGo, fan_setFan]
    rfl
  · rw [measurement_fanGo]

theorem measurement_fanRestore : ((s.fanRestore n).fan n).measurement = (s.fan n).measurement := by
  unfold State.fanRestore
  rw [fan_emit, measurement_fanGo]

theorem measurement_fanLost (last : Nat) : ((s.fanLost n last).fan n).measurement = (s.fan n).measurement := by
  unfold State.fanLost
  rw [fan_emit, fan_setFan]
  exact measurement_fanOut s n 5

theorem measurement_fanJudge (last : Nat) : ((s.fanJudge n last).fan n).measurement = (s.fan n).measurement := by
  unfold State.fanJudge
  extract_lets _ _ _ _ _ s'
  have hs' : (s'.fan n).measurement = (s.fan n).measurement := by
    rw [fan_setFan]
    rfl
  split
  · exact measurement_fanLost s n last
  split
  · rw [fan_emitLim]
    exact measurement_fanOut s n 4
  split
  · exact measurement_fanRestore s n
  split
  · split
    · exact (measurement_fanRestore s' n).trans hs'
    · exact hs'
  · rfl

theorem measurement_fanDef : ((s.fanDef n).fan n).measurement = (s.fan n).measurement := by
  unfold State.fanDef
  rw [fan_fanDefIn]
  rfl

theorem measurement_fanMeasure (cycles : Nat) : ((s.fanMeasure n cycles).fan n).measurement = (s.fan n).measurement := by
  unfold State.fanMeasure
  rw [measurement_fanDef, measurement_fanJudge]
  rfl

theorem rd_fanMeasure_rpm {cycles : Nat} (hcycles : cycles ≠ 0) :
    (s.fanMeasure n cycles).rd FAN_STAT_rpm n = min 65535 (roundNEN 6000000000 cycles) := by
  unfold State.fanMeasure
  rw [rd_fanDef _ _ _ _ (by decide), rd_fanJudge _ _ _ _ _ (by decide +kernel), if_neg hcycles, State.rd_wr_same]
  exact Nat.mod_eq_of_lt (Nat.lt_of_le_of_lt (min_le_left _ _) (by decide))

end

theorem tachEdgeCounts_answers : Claims.tachEdgeCounts := by
  intro n m s hrun hclk hmark hedges
  refine Answers.hub rfl hrun ?_
  rw [tachEdge_counts hrun hclk hmark hedges]
  exact ⟨by rw [fan_setFan], by rw [fan_setFan], rfl⟩

theorem tachEdgeMeasures_answers : Claims.tachEdgeMeasures := by
  intro n m s hrun hclk hmark hedges hcycles
  refine Answers.hub rfl hrun ?_
  rw [tachEdge_measures hrun hclk hmark hedges]
  have hmeas := measurement_fanMeasure (s.setFan n { s.fan n with lastEdge := s.ts, edges := 0, mark := some s.ts }) n (s.ts / 8 - m / 8)
  rw [fan_setFan] at hmeas
  exact ⟨rd_fanMeasure_rpm _ _ (by omega), congrArg Prod.fst hmeas, congrArg Prod.snd hmeas⟩

/-! ### The loss of the tach, spin-ups and rests (R519, R521, R522) -/

theorem next_fanLost (s : State) (n last : Nat) : ((s.fanLost n last).fan n).next = some 5 := by
  unfold State.fanLost State.fanOut State.fanGo
  rw [fan_emit, fan_setFan]
  split <;> rw [fan_setFan]

theorem fanOut_same (s : State) (n st : Nat) :
    (∀ f i, (s.fanOut n st).rd f i = s.rd f i) ∧ (s.fanOut n st).recd = s.recd ∧ (s.fanOut n st).ts = s.ts := by
  unfold State.fanOut
  split <;> exact ⟨fun _ _ => rfl, rfl, rfl⟩

theorem fanLost_recorded (s : State) (n last : Nat) : Recorded s (s.fanLost n last) 20 3 [n, last, s.rd FAN_STAT_duty n] := by
  obtain ⟨hrd, hrecd, hts⟩ := fanOut_same s n 5
  rw [← hrd FAN_STAT_duty n]
  exact (State.emit_recorded _ _ _ _).before hrecd hts

theorem fanJudge_eq_lost {s : State} {n : Nat} (last : Nat) (heff : s.fanEff n = 3) (hrpm : s.rd FAN_STAT_rpm n = 0) :
    s.fanJudge n last = s.fanLost n last := if_pos ⟨.inl heff, hrpm⟩

theorem fanEff_wr (s : State) (f : Fld) (n v : Nat) (hf : sepFld FAN_STAT_state f = true) : (s.wr f n v).fanEff n = s.fanEff n := by
  unfold State.fanEff
  rw [fan_wr, State.rd_wr_sep _ _ _ _ _ _ hf]

theorem tachTimeout_answers : Claims.tachTimeout := by
  intro n s hrun hclk hdue heff
  refine Answers.hub rfl hrun ?_
  have hzero : (s.wr FAN_STAT_rpm n 0).rd FAN_STAT_rpm n = 0 := State.rd_wr_same _ _ _ _
  have hlost := fanJudge_eq_lost (s.rd FAN_STAT_rpm n) ((fanEff_wr s FAN_STAT_rpm n 0 (by decide)).trans heff) hzero
  have hrec := fanLost_recorded (s.wr FAN_STAT_rpm n 0) n (s.rd FAN_STAT_rpm n)
  rw [State.rd_wr_sep _ _ _ _ _ _ (by decide)] at hrec
  unfold Machine.tachTimeout
  rw [if_neg (by simp [hrun, hclk, hdue])]
  refine ⟨?_, ?_, ?_⟩
  · rw [rd_fanDef _ _ _ _ (by decide), rd_fanJudge _ _ _ _ _ (by decide +kernel), hzero]
  · rw [fan_fanDef_next, hlost, next_fanLost]
  · rw [hlost]
    exact (hrec.before rfl rfl).after rfl

theorem fanSpinupGood_answers : Claims.fanSpinupGood := by
  intro n s hrun hclk hstate hnext hdue hrpm
  refine Answers.hub rfl hrun ?_
  unfold Machine.fanSpinupEnd
  rw [if_neg (by simp [hrun, hclk, hstate, hnext, hdue]), if_pos hrpm]
  exact ⟨by unfold State.fanGo; rw [fan_setFan], rfl, hstate⟩

/-- A spin-up that failed: its attempt is counted and reported. -/
def State.fanFailed (s : State) (n : Nat) : State :=
  ((s.setFan n { s.fan n with tries := (s.fan n).tries + 1 }).wr FAN_STAT_tries n (min 15 ((s.fan n).tries + 1))).emit 20 1
    [n, (s.fan n).tries + 1, s.rd FAN_STAT_rpm n]

theorem fanSpinupEnd_eq_failed {n : Fin 4} {s : State} (hrun : s.running = true) (hclk : s.clocked 20 = true)
    (hstate : s.rd FAN_STAT_state n = 1) (hnext : (s.fan n).next = none) (hdue : (s.fan n).since + s.fanSpinT ≤ s.ts)
    (hrpm : s.rd FAN_STAT_rpm n < s.rd FAN_CH_min_rpm n) :
    Machine.fanSpinupEnd n s = if (s.fan n).tries + 1 ≤ s.rd FAN_CFG_retries then (s.fanFailed n).fanGo n 2
      else ((s.fanFailed n).fanGo n 6).emit 20 2 [n, (s.fan n).tries + 1] := by
  have hread (f : Fld) (i : Nat) (hf : sepFld f FAN_STAT_tries = true) (hf' : sepFld f EVT_DROP_dropped = true) :
      (s.fanFailed n).rd f i = s.rd f i := by
    unfold State.fanFailed
    rw [State.rd_emit _ _ _ _ _ _ hf', State.rd_wr_sep _ _ _ _ _ _ hf]
    rfl
  have hrpm' : ((s.setFan n { s.fan n with tries := (s.fan n).tries + 1 }).wr FAN_STAT_tries n (min 15 ((s.fan n).tries + 1))).rd
      FAN_STAT_rpm n = s.rd FAN_STAT_rpm n := State.rd_wr_sep _ _ _ _ _ _ (by decide)
  rw [← hread FAN_CFG_retries 0 (by decide) (by decide)]
  unfold Machine.fanSpinupEnd
  rw [if_neg (by simp [hrun, hclk, hstate, hnext, hdue]), if_neg (Nat.not_le.2 hrpm)]
  unfold State.fanFailed
  rw [← hrpm']

theorem fan_fanFailed (s : State) (n : Nat) : ((s.fanFailed n).fan n).tries = (s.fan n).tries + 1 := by
  unfold State.fanFailed
  rw [fan_emit, fan_wr, fan_setFan]

theorem fanFailed_recorded (s : State) (n : Nat) :
    Recorded s (s.fanFailed n) 20 1 [n, (s.fan n).tries + 1, s.rd FAN_STAT_rpm n] :=
  (State.emit_recorded _ _ _ _).before rfl rfl

theorem fanSpinupFailed_answers : Claims.fanSpinupFailed := by
  intro n s hrun hclk hstate hnext hdue hrpm htries
  refine Answers.hub rfl hrun ?_
  rw [fanSpinupEnd_eq_failed hrun hclk hstate hnext hdue hrpm, if_pos (Nat.succ_le_of_lt htries)]
  unfold State.fanGo
  rw [fan_setFan]
  exact ⟨rfl, fan_fanFailed s n, (fanFailed_recorded s n).after rfl⟩

theorem fanSpinupStalled_answers : Claims.fanSpinupStalled := by
  intro n s hrun hclk hstate hnext hdue hrpm htries
  refine Answers.hub rfl hrun ?_
  rw [fanSpinupEnd_eq_failed hrun hclk hstate hnext hdue hrpm, if_neg (by omega), fan_emit]
  unfold State.fanGo
  rw [fan_setFan]
  exact ⟨rfl, fan_fanFailed s n⟩

theorem fanRestEnd_answers : Claims.fanRestEnd := by
  intro n s hrun hclk hstate hnext hdue
  refine Answers.hub rfl hrun ?_
  unfold Machine.fanRestEnd
  rw [if_neg (by simp [hrun, hclk, hstate, hnext, hdue])]
  exact ⟨by unfold State.fanGo; rw [fan_setFan], rfl, rfl⟩

/-- Settles O23. -/
theorem fans : Obligations.Fans :=
  ⟨fanPwmPeriod_answers, fanPwmShutdown_answers, tachEdgeCounts_answers, tachEdgeMeasures_answers, tachTimeout_answers,
    fanSpinupGood_answers, fanSpinupFailed_answers, fanSpinupStalled_answers, fanRestEnd_answers⟩

end Sys2Proof.Machine
end

section
/-!
PROOF. The supplies, the resets and the root PLL (R383, R390, R391, R401, R404, R527, R528).
-/
namespace Sys2Proof.Machine
open Sys2Proof.Claims

set_option Elab.async false

section
variable {s : State} {f : Fld}

/-- A register that a reset does not keep reads its reset value. -/
theorem rd_cleared_lost (s : State) {keep : Nat → Bool} (r : Rst) {i : Nat} (hlost : keep (f.keyOf i) = false) :
    (s.cleared keep r).rd f i = f.resetVal s.fuse i := by
  unfold State.rd State.cleared mget
  rw [mfind_filter keep, if_neg (by simp [hlost])]
  rfl

/-- With no latch set nothing is carried over. -/
theorem keepLatches_none (t : State) (hcrowbar : s.rd RST_CAUSE_crowbar = 0) (hshutdown : s.rd RST_CAUSE_shutdown = 0) :
    s.keepLatches t = t := by
  unfold State.keepLatches
  rw [flag_of_rd_zero hcrowbar, flag_of_rd_zero hshutdown]
  rfl

theorem dieReset_unlatched (hcrowbar : s.rd RST_CAUSE_crowbar = 0) (hshutdown : s.rd RST_CAUSE_shutdown = 0) :
    s.dieReset = s.cleared keptReg
      { s.rst with lastDie := true, lockDue := false, config := false, failT := 0, downT := none, drained := false } :=
  keepLatches_none _ hcrowbar hshutdown

/-- The registers kept lie in the blocks RST, MEM and NVM. -/
theorem keptReg_of_otherBlock {k : Nat} (hk : k / 0x20000 ∉ [2, 3, 17]) : keptReg k = false := by
  have hblocks : k / 0x20000 ≠ 2 ∧ k / 0x20000 ≠ 3 ∧ k / 0x20000 ≠ 17 := by simpa using hk
  refine Bool.eq_false_iff.2 fun hkept => ?_
  simp only [keptReg, Bool.or_eq_true, Bool.and_eq_true, decide_eq_true_eq] at hkept
  simp only [MEM_STAT_nospare, MEM_STAT_retired, NVM_MIRROR_count] at hkept
  omega

end

/-! ### The supplies -/

theorem supplyRise_answers : Claims.supplyRise := by
  intro s hsupply
  refine Answers.of_exec rfl ?_
  have hno : ¬ ((!s.rst.supply && !s.rst.removed) = true) := by
    rcases hsupply with h | h <;> simp [h]
  have hnone : s.regs.filter (fun _ => false) = [] ∧ s.hub.bad.filter (fun _ => false) = [] := by
    constructor <;> exact List.filter_eq_nil_iff.2 fun _ _ h => Bool.false_ne_true h
  unfold Machine.supplyRise
  rw [if_neg hno]
  unfold State.cleared
  rw [hnone.1, hnone.2]

theorem vddQfFall_answers : Claims.vddQfFall := by
  intro s hsupply hcrowbar hshutdown
  refine Answers.of_exec rfl ?_
  unfold Machine.vddQfFall
  rw [if_neg (by simp [hsupply]), dieReset_unlatched hcrowbar hshutdown]
  exact ⟨rfl, rfl, rfl, rfl, rfl, rfl, fun f i hf => rd_cleared_lost s _ (keptReg_of_otherBlock hf)⟩

theorem supplyRemoval_answers : Claims.supplyRemoval := by
  intro s
  refine Answers.of_exec rfl ?_
  unfold Machine.supplyRemoval
  exact ⟨rfl, (State.rd_wr_sep _ _ _ _ _ _ (by decide)).trans (State.rd_wr_same _ _ _ _), State.rd_wr_same _ _ _ _, rfl, rfl, rfl, rfl, rfl⟩

/-! ### The causes of a die reset -/

/-- A cause is recorded and counted, with the timestamp where HUB was running (R391, R401, R404). -/
def State.causeNoted (s : State) (cause : Nat) : State :=
  let s := s.wr RST_CAUSE_cause 0 cause
  let s := s.bump (if cause = 1 then RST_COUNT_poreset else if cause = 2 then RST_COUNT_refclk else RST_COUNT_pll)
  if s.running then s.wr RST_LAST_TS_ts 0 s.ts else s

theorem enterReset_eq (s : State) (cause : Nat) : s.enterReset cause = (s.causeNoted cause).dieReset := rfl

theorem causeNoted_running {s : State} {cause : Nat} (hrun : s.running = true) :
    s.causeNoted cause = ((s.wr RST_CAUSE_cause 0 cause).bump
      (if cause = 1 then RST_COUNT_poreset else if cause = 2 then RST_COUNT_refclk else RST_COUNT_pll)).wr RST_LAST_TS_ts 0 s.ts :=
  if_pos hrun

/-- What a cause that acts on a running block leaves, where neither latch is set. -/
theorem enterReset_running {s : State} (cause : Nat) (hrun : s.running = true) (hcrowbar : s.rd RST_CAUSE_crowbar = 0)
    (hshutdown : s.rd RST_CAUSE_shutdown = 0) :
    s.enterReset cause = (s.causeNoted cause).cleared keptReg
      { s.rst with lastDie := true, lockDue := false, config := false, failT := 0, downT := none, drained := false } := by
  have hread (f : Fld) (hf : f = RST_CAUSE_crowbar ∨ f = RST_CAUSE_shutdown) : (s.causeNoted cause).rd f = s.rd f := by
    rw [causeNoted_running hrun, State.rd_wr_sep _ _ _ _ _ _ (by rcases hf with rfl | rfl <;> decide),
      State.rd_bump_sep _ _ _ _ _ (by rcases hf with rfl | rfl <;> split_ifs <;> decide),
      State.rd_wr_sep _ _ _ _ _ _ (by rcases hf with rfl | rfl <;> decide)]
  rw [enterReset_eq, dieReset_unlatched ((hread _ (.inl rfl)).trans hcrowbar) ((hread _ (.inr rfl)).trans hshutdown),
    causeNoted_running hrun]
  rfl

/-- The registers of RST that say why: the cause, the count of it and the last timestamp. -/
theorem causeNoted_reads {s : State} {cause : Nat} {count : Fld} (hrun : s.running = true)
    (hcount : count = if cause = 1 then RST_COUNT_poreset else if cause = 2 then RST_COUNT_refclk else RST_COUNT_pll) :
    (s.causeNoted cause).rd RST_CAUSE_cause = cause % 8 ∧ (s.causeNoted cause).rd RST_LAST_TS_ts = s.ts % 2 ^ 64 ∧
      (s.causeNoted cause).rd count = (s.rd count + 1) % 2 ^ count.width := by
  have hcases : count = RST_COUNT_poreset ∨ count = RST_COUNT_refclk ∨ count = RST_COUNT_pll := by
    rw [hcount]
    split_ifs <;> simp
  rw [causeNoted_running hrun, ← hcount]
  refine ⟨?_, State.rd_wr_same _ _ _ _, ?_⟩
  · rw [State.rd_wr_sep _ _ _ _ _ _ (by decide), State.rd_bump_sep _ _ _ _ _ (by rcases hcases with rfl | rfl | rfl <;> decide)]
    exact State.rd_wr_same _ _ _ _
  · rw [State.rd_wr_sep _ _ _ _ _ _ (by rcases hcases with rfl | rfl | rfl <;> decide), State.rd_bump_same,
      State.rd_wr_sep _ _ _ _ _ _ (by rcases hcases with rfl | rfl | rfl <;> decide)]

theorem poresetAssert_answers : Claims.poresetAssert := by
  intro s hrun hsupply hporeset hcrowbar hshutdown
  refine Answers.of_exec rfl ?_
  unfold Machine.poresetAssert
  rw [if_neg (by simp [hsupply, hporeset]), enterReset_running 1 hrun hcrowbar hshutdown]
  obtain ⟨hcause, hts, hcount⟩ := causeNoted_reads (cause := 1) hrun rfl
  refine ⟨rfl, (rd_cleared _ _ (by decide)).trans hcause, (rd_cleared _ _ (by decide)).trans hts, (rd_cleared _ _ (by decide)).trans hcount,
    (rd_cleared _ _ (by decide)).trans ?_, rd_cleared_lost _ _ (by decide), rfl, rfl, ?_, rfl⟩
  · rw [causeNoted_running hrun, State.rd_wr_sep _ _ _ _ _ _ (by decide), State.rd_bump_sep _ _ _ _ _ (by decide),
      State.rd_wr_sep _ _ _ _ _ _ (by decide)]
  · rw [causeNoted_running hrun]
    rfl

theorem refclkLoss_answers : Claims.refclkLoss := by
  intro s hrun hsupply href hcrowbar hshutdown
  refine Answers.of_exec rfl ?_
  unfold Machine.refclkLoss
  rw [if_neg (by simp [hsupply, href]), if_pos (by simp [State.started, hrun]), enterReset_running 2 hrun hcrowbar hshutdown]
  obtain ⟨hcause, -, hcount⟩ := causeNoted_reads (cause := 2) hrun rfl
  refine ⟨rfl, rfl, (rd_cleared _ _ (by decide)).trans hcause, (rd_cleared _ _ (by decide)).trans hcount, ?_⟩
  rw [causeNoted_running hrun]
  rfl

theorem pllLockLoss_answers : Claims.pllLockLoss := by
  intro s hrun hcrowbar hshutdown
  refine Answers.of_exec rfl ?_
  unfold Machine.pllLockLoss
  rw [if_pos hrun, enterReset_running 3 hrun hcrowbar hshutdown]
  obtain ⟨hcause, -, hcount⟩ := causeNoted_reads (cause := 3) hrun rfl
  refine ⟨rfl, (rd_cleared _ _ (by decide)).trans hcause, (rd_cleared _ _ (by decide)).trans hcount, rfl, ?_⟩
  rw [causeNoted_running hrun]
  rfl

/-! ### A latched CROWBAR -/

/-- The latch drives the rail low through every reset (R154). -/
theorem keepLatches_driven {s : State} (t : State) (hcrowbar : s.rd RST_CAUSE_crowbar = 1) :
    (s.keepLatches t).running = t.running ∧ (s.keepLatches t).rd VRC_STAT_state = 5 ∧ (s.keepLatches t).vrc.enables = true ∧
      (s.keepLatches t).vrc.pwmMid = false := by
  unfold State.keepLatches
  rw [if_pos (flag_of_rd_one hcrowbar)]
  extract_lets w vrc u w' pins
  have hu : u.rd VRC_STAT_state = 5 :=
    (State.rd_wr_sep _ _ _ _ _ _ (by decide)).trans ((State.rd_wr_sep _ _ _ _ _ _ (by decide)).trans (State.rd_wr_same _ _ _ _))
  split
  · refine ⟨rfl, ?_, rfl, rfl⟩
    exact ((State.rd_wr_sep _ _ _ _ _ _ (by decide)).trans ((State.rd_wr_sep _ _ _ _ _ _ (by decide)).trans
      (State.rd_wr_sep _ _ _ _ _ _ (by decide)))).trans hu
  · exact ⟨rfl, hu, rfl, rfl⟩

theorem poresetCrowbar_answers : Claims.poresetCrowbar := by
  intro s hsupply hporeset hcrowbar
  refine Answers.of_exec rfl ?_
  have hlatched := (enterReset_latchesStand s 1).1 hcrowbar
  have hnoted : (s.causeNoted 1).rd RST_CAUSE_crowbar = 1 := by
    unfold State.causeNoted
    extract_lets s₁ s₂
    have hs₂ : s₂.rd RST_CAUSE_crowbar = 1 :=
      (State.rd_bump_sep _ _ _ _ _ (by decide)).trans ((State.rd_wr_sep _ _ _ _ _ _ (by decide)).trans hcrowbar)
    split
    · exact (State.rd_wr_sep _ _ _ _ _ _ (by decide)).trans hs₂
    · exact hs₂
  obtain ⟨hrun, hstate, henables, hmid⟩ := keepLatches_driven ((s.causeNoted 1).cleared keptReg
    { (s.causeNoted 1).rst with lastDie := true, lockDue := false, config := false, failT := 0, downT := none, drained := false }) hnoted
  unfold Machine.poresetAssert
  rw [if_neg (by simp [hsupply, hporeset])]
  exact ⟨hrun, hlatched, hstate, henables, hmid⟩

/-! ### The way back -/

theorem poresetNegate_answers : Claims.poresetNegate := by
  intro s hsupply hporeset href
  refine Answers.of_exec rfl ?_
  unfold Machine.poresetNegate
  rw [if_neg (by simp [hsupply, hporeset])]
  exact ⟨rfl, href, rfl, rfl⟩

theorem dieResetRelease_answers : Claims.dieResetRelease := by
  intro s hrun hsupply hporeset
  refine Answers.of_exec rfl ?_
  unfold Machine.dieResetRelease
  rw [if_neg (by simp [hsupply, hrun]), hporeset]
  exact ⟨rfl, rfl, rfl⟩

theorem pllLock_answers : Claims.pllLock := by
  intro s hrun hdue
  refine Answers.of_exec rfl ?_
  unfold Machine.pllLock
  rw [if_neg (by simp [hdue, hrun])]
  refine ⟨rfl, rfl, rfl, fun b hb => ?_⟩
  unfold State.clearing
  rw [State.rd_wr_same]
  interval_cases b <;> decide

/-- Settles O30. -/
theorem resetsAndSupplies : Obligations.ResetsAndSupplies :=
  ⟨supplyRise_answers, vddQfFall_answers, supplyRemoval_answers, poresetAssert_answers, poresetCrowbar_answers, poresetNegate_answers,
    refclkLoss_answers, pllLockLoss_answers, dieResetRelease_answers, pllLock_answers⟩

end Sys2Proof.Machine
end

section
/-!
PROOF. The non-volatile store: operations that end and fail, last-fault records, the mirror and the restore (R456 to R472).
-/
namespace Sys2Proof.Machine
open Sys2Proof.Claims

set_option Elab.async false

section
variable (s : State)

/-! ### Asking for operations -/

theorem nvm_flashIssue : s.flashIssue.nvm = s.nvm := (State.flashIssue_frame (Sub.refl _) (Frame.refl _ s)).nvm rfl

theorem rd_flashIssue (f : Fld) (i : Nat) (hf : sepFld f NVM_STAT_busy = true) : s.flashIssue.rd f i = s.rd f i := by
  unfold State.flashIssue
  split <;> exact State.rd_wr_sep _ _ _ _ _ _ hf

theorem vrc_flashIssue : s.flashIssue.vrc = s.vrc := (State.flashIssue_frame (Sub.refl _) (Frame.refl _ s)).vrc rfl

theorem flash_flashIssue : s.flashIssue.flash = s.flash := (State.flashIssue_frame (Sub.refl _) (Frame.refl _ s)).flash rfl

theorem recd_flashIssue : s.flashIssue.recd = s.recd := (State.flashIssue_frame (Sub.refl _) (Frame.refl _ s)).recd rfl

/-- An operation asked while others run waits behind them; the store knows nothing else of it. -/
theorem nvm_flashAsk {o : FlashOp} (hfound : s.flag NVM_STAT_found = true) (hport : s.nvm.portHigh = false) :
    (s.flashAsk o).nvm = { s.nvm with ops := s.nvm.ops ++ [o] } := by
  unfold State.flashAsk
  rw [if_neg (by simp [hfound, hport])]
  split
  · next hempty =>
    rw [nvm_flashIssue, List.isEmpty_iff.1 hempty]
    rfl
  · rfl

theorem rd_flashAsk (o : FlashOp) (f : Fld) (i : Nat) (hf : sepFld f NVM_STAT_busy = true) : (s.flashAsk o).rd f i = s.rd f i := by
  unfold State.flashAsk
  split
  · rfl
  split
  · exact rd_flashIssue _ f i hf
  · rfl

theorem flag_flashAsk (o : FlashOp) : (s.flashAsk o).flag NVM_STAT_found = s.flag NVM_STAT_found := by
  unfold State.flag
  rw [rd_flashAsk _ _ _ _ (by decide)]

theorem vrc_flashAsk (o : FlashOp) : (s.flashAsk o).vrc = s.vrc := (State.flashAsk_frame (Sub.refl _) (Frame.refl _ s) o).vrc rfl

end

/-! ### The end of an operation (R457, R463, R466, R471) -/

/-- The operation leaves the store, with, after a clear's header, the records of the old half (R459), and the next one starts. -/
def State.popped (s : State) (o : FlashOp) : State :=
  (s.setNvm { s.nvm with ops := if o.item = 2 then (s.nvm.ops.drop 1).filter fun p => decide (2 ≤ p.item) else s.nvm.ops.drop 1,
                         done := false }).flashIssue

theorem popOp_eq (s : State) (o : FlashOp) (f : State → State) : s.popOp o f = f (s.popped o) := rfl

theorem popped_nvm {s : State} {o : FlashOp} {q : List FlashOp} (hops : s.nvm.ops = o :: q) (hitem : o.item ≠ 2) :
    (s.popped o).nvm = { s.nvm with ops := q, done := false } := by
  unfold State.popped State.setNvm
  rw [nvm_flashIssue]
  simp only [if_neg hitem, hops, List.drop_one, List.tail_cons]

section
variable (s : State) (o : FlashOp)

theorem popped_rd (f : Fld) (i : Nat) (hf : sepFld f NVM_STAT_busy = true) : (s.popped o).rd f i = s.rd f i := rd_flashIssue _ f i hf

theorem popped_flash : (s.popped o).flash = s.flash := flash_flashIssue _

theorem popped_vrc : (s.popped o).vrc = s.vrc := vrc_flashIssue _

theorem popped_recd : (s.popped o).recd = s.recd := recd_flashIssue _

end

section
variable {s : State} {o : FlashOp} {q : List FlashOp}

theorem flashLand_nvm (s : State) (o : FlashOp) : (s.flashLand o).nvm = s.nvm := (State.flashLand_frame (Sub.refl _) (Frame.refl _ s) o).nvm rfl

theorem flashLand_vrc (s : State) (o : FlashOp) : (s.flashLand o).vrc = s.vrc := (State.flashLand_frame (Sub.refl _) (Frame.refl _ s) o).vrc rfl

theorem flashLand_program (herase : o.erase = false) : s.flashLand o = { s with flash := flashProgram s.flash o.addr o.page } := by
  unfold State.flashLand
  rw [herase]
  rfl

theorem flashLand_eraseHeartwood (herase : o.erase = true) (hitem : o.item = 3) :
    s.flashLand o = State.bump { s with flash := flashEraseAt s.flash o.addr } NVM_WEAR_hw := by
  unfold State.flashLand State.countErase
  rw [if_pos herase, if_pos hitem]

theorem fwRunning_flashLand (s : State) (o : FlashOp) (n : Nat) : (s.flashLand o).fwRunning n = s.fwRunning n := by
  unfold State.fwRunning State.fwState
  rw [(State.flashLand_frame (Sub.refl _) (Frame.refl _ s) o).rd_of (f := FW_STAT_state) (by decide +kernel) 0]

/-- Nothing of the operation is left to program. -/
def FlashOp.whole (o : FlashOp) : Prop := (!o.erase && !(o.data.drop o.page.length).isEmpty) = false

theorem whole_of_erase (herase : o.erase = true) : o.whole := by simp [FlashOp.whole, herase]

theorem page_of_length (hlen : o.data.length ≤ 256 - o.addr % 256) : o.page = o.data := List.take_of_length_le hlen

theorem whole_of_length (hlen : o.data.length ≤ 256 - o.addr % 256) : o.whole := by
  simp [FlashOp.whole, page_of_length hlen]

/-- The guard of an operation that ends. -/
theorem flashOpDone_eq (hrun : s.running = true) (hops : s.nvm.ops = o :: q) (hdone : s.nvm.done = false) (hport : s.nvm.portHigh = false)
    (hwhole : o.whole) : Machine.flashOpDone s =
      if s.fwRunning 3 then (s.flashLand o).popOp o (fun u => u.itemDone o) else (s.flashLand o).setNvm { s.nvm with done := true } := by
  unfold Machine.flashOpDone
  simp only [hops]
  rw [if_neg (by simp [hrun, hdone, hport]), if_neg (by rw [hwhole]; exact Bool.false_ne_true), fwRunning_flashLand, flashLand_nvm, hops]

theorem flashOpDone_followed (hrun : s.running = true) (hops : s.nvm.ops = o :: q) (hdone : s.nvm.done = false)
    (hport : s.nvm.portHigh = false) (hwhole : o.whole) (hfw : s.fwRunning 3 = true) :
    Machine.flashOpDone s = ((s.flashLand o).popped o).itemDone o := by
  rw [flashOpDone_eq hrun hops hdone hport hwhole, if_pos hfw, popOp_eq]

end

theorem flashEraseDone_answers : Claims.flashEraseDone := by
  intro o q s hrun hops hdone hport herase hitem hfw
  refine Answers.hub rfl hrun ?_
  rw [flashOpDone_followed hrun hops hdone hport (whole_of_erase herase) hfw]
  have hsame : ((s.flashLand o).popped o).itemDone o = (s.flashLand o).popped o := by
    unfold State.itemDone
    simp only [hitem]
    rfl
  have hflash : ((s.flashLand o).popped o).flash = flashEraseAt s.flash o.addr := by
    rw [popped_flash, flashLand_eraseHeartwood herase hitem]
    rfl
  have hread (a : Nat) : memRead (flashEraseAt s.flash o.addr) flashDefault a =
      if a / 4096 = o.addr / 4096 then flashDefault else memRead s.flash flashDefault a := by
    unfold flashEraseAt
    rw [memRead_filter s.flash flashDefault (fun k => decide (k / 4096 ≠ o.addr / 4096)) a]
    by_cases ha : a / 4096 = o.addr / 4096 <;> simp [ha]
  rw [hsame]
  refine ⟨?_, fun a ha => ?_, fun a ha => ?_, ?_⟩
  · rw [popped_nvm ((congrArg Nvm.ops (flashLand_nvm s o)).trans hops) (by rw [hitem]; decide)]
  · rw [hflash, hread, if_pos ha]
    rfl
  · rw [hflash, hread, if_neg ha]
  · rw [popped_rd _ _ _ _ (by decide), flashLand_eraseHeartwood herase hitem]
    exact State.rd_bump_same _ _ _

theorem flashProgramPage_answers : Claims.flashProgramPage := by
  intro o q s hrun hops hdone hport herase hlong
  refine Answers.hub rfl hrun ?_
  have hleft : ((!o.erase && !(o.data.drop o.page.length).isEmpty) = true) := by
    simp [herase, List.drop_eq_nil_iff, hlong]
  unfold Machine.flashOpDone
  simp only [hops]
  rw [if_neg (by simp [hrun, hdone, hport]), if_pos hleft, flash_flashIssue, nvm_flashIssue, flashLand_program herase]
  exact ⟨rfl, rfl, hdone⟩

theorem flashRecordDone_answers : Claims.flashRecordDone := by
  intro o s hrun hops hdone hport herase hlen hitem hfw hfound
  refine Answers.hub rfl hrun ?_
  rw [flashOpDone_followed hrun hops hdone hport (whole_of_length hlen) hfw]
  have hstep : ((s.flashLand o).popped o).itemDone o = ((s.flashLand o).popped o).askCommit o := if_pos hitem
  have hops' : ((s.flashLand o).popped o).nvm = { s.nvm with ops := [], done := false } := by
    rw [popped_nvm ((congrArg Nvm.ops (flashLand_nvm s o)).trans hops) (by rw [hitem]; decide), flashLand_nvm]
  have hfound' : ((s.flashLand o).popped o).flag NVM_STAT_found = true := by
    unfold State.flag
    rw [popped_rd _ _ _ _ (by decide), flashLand_program herase]
    exact hfound
  rw [hstep]
  unfold State.askCommit
  refine ⟨?_, ?_⟩
  · rw [(State.flashAsk_frame (Sub.refl _) (Frame.refl _ _) _).flash rfl, popped_flash, flashLand_program herase, page_of_length hlen]
  · rw [nvm_flashAsk _ hfound' (by rw [hops']; exact hport), hops']
    rfl

theorem flashCommitDone_answers : Claims.flashCommitDone := by
  intro o s hrun hops hdone hport herase hlen hitem hfw
  refine Answers.hub rfl hrun ?_
  rw [flashOpDone_followed hrun hops hdone hport (whole_of_length hlen) hfw]
  have hstep : ((s.flashLand o).popped o).itemDone o = ((s.flashLand o).popped o).committed o := by
    unfold State.itemDone
    rw [if_neg (by rw [hitem]; decide), if_pos hitem]
  have hcount : (((s.flashLand o).popped o).bump EVT_HW_count).rd EVT_HW_count = (s.rd EVT_HW_count + 1) % 2 ^ EVT_HW_count.width := by
    rw [State.rd_bump_same, popped_rd _ _ _ _ (by decide), flashLand_program herase]
    rfl
  have hnvm : ((s.flashLand o).popped o).nvm.ops = [] := by
    rw [popped_nvm ((congrArg Nvm.ops (flashLand_nvm s o)).trans hops) (by rw [hitem]; decide)]
  rw [hstep]
  unfold State.committed
  extract_lets u
  split
  · rw [State.rd_emit _ _ _ _ _ _ (by decide), hcount]
    exact ⟨rfl, by rw [(State.emit_frame (Sub.refl _) (Frame.refl _ u) _ _ _).nvm rfl]; exact hnvm⟩
  · exact ⟨hcount, hnvm⟩

theorem flashDoneWaits_answers : Claims.flashDoneWaits := by
  intro o q s hrun hops hdone hport hlen hfw
  refine Answers.hub rfl hrun ?_
  rw [flashOpDone_eq hrun hops hdone hport (whole_of_length hlen), hfw]
  exact ⟨rfl, hops⟩

theorem lastFaultWritten_answers : Claims.lastFaultWritten := by
  intro o s hrun hops hdone hport herase hlen hitem hfw
  refine Answers.hub rfl hrun ?_
  rw [flashOpDone_followed hrun hops hdone hport (whole_of_length hlen) hfw]
  have hstep : ((s.flashLand o).popped o).itemDone o = ((s.flashLand o).popped o).logWritten.logDone o := by
    unfold State.itemDone
    simp only [hitem]
    rfl
  have hlogged (u : State) : (u.logDone o).vrc = u.vrc := (State.logDone_frame (Sub.refl _) (Frame.refl _ u) o).vrc rfl
  rw [hstep, hlogged]
  unfold State.logWritten
  rw [popped_vrc, flashLand_vrc]
  exact ⟨rfl, rfl⟩

/-! ### Failures (R472) -/

theorem flashOpRetry_answers : Claims.flashOpRetry := by
  intro st o q s hrun hops hdone hport htried
  refine Answers.hub rfl hrun ?_
  unfold Machine.flashOpTimeout
  simp only [hops]
  rw [if_neg (by simp [hrun, hdone, hport]), if_pos (by simp [htried]), nvm_flashIssue, recd_flashIssue, flash_flashIssue]
  exact ⟨rfl, rfl, rfl⟩

theorem flashOpFailed_answers : Claims.flashOpFailed := by
  intro st o q s hrun hops hdone hport htried herase hitem
  refine Answers.hub rfl hrun ?_
  have heq : Machine.flashOpTimeout st s =
      ((s.emit 17 2 [1, o.addr, st.toNat]).bump NVM_ERR_erase).popped o := by
    unfold Machine.flashOpTimeout
    simp only [hops]
    rw [if_neg (by simp [hrun, hdone, hport]), if_neg (by simp [htried]), herase, if_pos rfl, if_neg (by simp [hitem]), popOp_eq]
    unfold State.itemFailed
    simp only [hitem]
    rfl
  have hnvm : ((s.emit 17 2 [1, o.addr, st.toNat]).bump NVM_ERR_erase).nvm.ops = o :: q := by
    show (s.emit 17 2 [1, o.addr, st.toNat]).nvm.ops = o :: q
    rw [(State.emit_frame (Sub.refl _) (Frame.refl _ s) _ _ _).nvm rfl, hops]
  rw [heq]
  refine ⟨?_, ?_, ?_, ?_⟩
  · rw [popped_nvm hnvm (by rw [hitem]; decide)]
  · rw [popped_rd _ _ _ _ (by decide)]
    exact (State.rd_bump_same _ _ _).trans (by rw [State.rd_emit _ _ _ _ _ _ (by decide)])
  · exact (State.emit_recorded s 17 2 _).after (popped_recd _ _)
  · rw [popped_flash]
    exact (State.emit_frame (Sub.refl _) (Frame.refl _ s) _ _ _).flash rfl

/-! ### The last-fault log and the deferred mirror (R156, R461, R468) -/

theorem lastFaultFlashWrite_answers : Claims.lastFaultFlashWrite := by
  intro s hrun hpend hasked hfw hrestored hfound hport hops
  refine Answers.hub rfl hrun ?_
  unfold Machine.lastFaultFlashWrite
  rw [if_neg (by simp [hpend, hasked, hfw, hrestored])]
  extract_lets k vrc u nvm v
  have hnvm (o : FlashOp) : (v.flashAsk o).nvm = { v.nvm with ops := v.nvm.ops ++ [o] } := nvm_flashAsk v hfound hport
  rw [hnvm, vrc_flashAsk]
  refine ⟨rfl, hpend, rfl, ?_⟩
  show s.nvm.ops ++ [_] = _
  rw [hops]
  rfl

theorem mirrorDeferExpire_answers : Claims.mirrorDeferExpire := by
  intro c n s hrun hdefer hcap hdue hfw hfound hport hops
  refine Answers.hub rfl hrun ?_
  have heq : Machine.mirrorDeferExpire s = s.mirrorCapture c := by
    unfold Machine.mirrorDeferExpire
    simp only [hdefer, hcap]
    exact if_pos ⟨hdue, hfw⟩
  have hslot : s.mirrorSlot = s.nvm.slots.getD 2 0 := by
    unfold State.mirrorSlot
    rw [hops]
    rfl
  rw [heq]
  unfold State.mirrorCapture
  extract_lets n₀ first kept n₁ recs slot count hdr nvm u v w
  have hv : v.flag NVM_STAT_found = true := by
    unfold State.flag
    rw [State.rd_wr_sep _ _ _ _ _ _ (by decide)]
    exact hfound
  have hw : w.nvm = { v.nvm with ops := v.nvm.ops ++ [{ item := 4, addr := mirrorBase slot + 0x1000, data := recs, arg := slot }] } :=
    nvm_flashAsk v hv hport
  have hboth (o : FlashOp) : (w.flashAsk o).nvm = { w.nvm with ops := w.nvm.ops ++ [o] } :=
    nvm_flashAsk w ((flag_flashAsk v _).trans hv) (by rw [hw]; exact hport)
  rw [hboth, hw, rd_flashAsk _ _ _ _ (by decide), rd_flashAsk _ _ _ _ (by decide)]
  refine ⟨rfl, rfl, State.rd_wr_same _ _ _ _, ?_⟩
  show (s.nvm.ops ++ [_] ++ [_]).map _ = _
  rw [hops, ← hslot]
  rfl

/-! ### The restore (R462, R465) -/

/-- What the restore of the heartwood finds and shows; later erases leave it. -/
structure HeartwoodFound (s : State) (half gen count : Nat) : Prop where
  activeHalf : s.nvm.half = half
  generation : s.nvm.gen = gen
  opened : s.nvm.hwOpen = true
  shownCount : s.rd EVT_HW_count = count % 2 ^ EVT_HW_count.width
  shownGen : s.rd EVT_HW_gen = gen % 2 ^ EVT_HW_gen.width

section
variable {s t : State} {half gen count : Nat}

theorem HeartwoodFound.of_eq (h : HeartwoodFound s half gen count) (hhalf : t.nvm.half = s.nvm.half) (hgen : t.nvm.gen = s.nvm.gen)
    (hopen : t.nvm.hwOpen = s.nvm.hwOpen) (hcount : t.rd EVT_HW_count = s.rd EVT_HW_count) (hshown : t.rd EVT_HW_gen = s.rd EVT_HW_gen) :
    HeartwoodFound t half gen count :=
  ⟨hhalf.trans h.activeHalf, hgen.trans h.generation, hopen.trans h.opened, hcount.trans h.shownCount, hshown.trans h.shownGen⟩

theorem HeartwoodFound.flashAsk (h : HeartwoodFound s half gen count) (o : FlashOp) : HeartwoodFound (s.flashAsk o) half gen count := by
  unfold State.flashAsk
  split
  · exact h
  split
  · refine h.of_eq ?_ ?_ ?_ (rd_flashIssue _ _ _ (by decide)) (rd_flashIssue _ _ _ (by decide)) <;> rw [nvm_flashIssue] <;> rfl
  · exact h.of_eq rfl rfl rfl rfl rfl

theorem HeartwoodFound.foldl_flashAsk (h : HeartwoodFound s half gen count) (g : Nat → FlashOp) (l : List Nat) :
    HeartwoodFound (l.foldl (fun u k => u.flashAsk (g k)) s) half gen count := by
  induction l generalizing s with
  | nil => exact h
  | cons k ks ih => exact ih (h.flashAsk (g k))

theorem HeartwoodFound.flashEraseN (h : HeartwoodFound s half gen count) (item addr n arg : Nat) :
    HeartwoodFound (s.flashEraseN item addr n arg) half gen count := h.foldl_flashAsk _ _

theorem HeartwoodFound.emit (h : HeartwoodFound s half gen count) (unit idx : Nat) (ps : List Nat) :
    HeartwoodFound (s.emit unit idx ps) half gen count := by
  have hnvm := (State.emit_frame (Sub.refl _) (Frame.refl _ s) unit idx ps).nvm rfl
  exact h.of_eq (by rw [hnvm]) (by rw [hnvm]) (by rw [hnvm]) (State.rd_emit _ _ _ _ _ _ (by decide)) (State.rd_emit _ _ _ _ _ _ (by decide))

theorem HeartwoodFound.blankSlot (h : HeartwoodFound s half gen count) : HeartwoodFound s.blankSlot half gen count := by
  unfold State.blankSlot
  extract_lets k
  split
  · exact h.flashEraseN _ _ _ _
  · exact h

end

/-- Restoring the heartwood where half 1 alone is valid. -/
theorem restoreHw_found {s : State} (h0 : s.halfValid 0 = false) (h1 : s.halfValid 1 = true) :
    HeartwoodFound s.restoreHw 1 (s.halfGen 1) ((List.range 256).filter fun k => s.hwCommitted 1 k).length := by
  unfold State.restoreHw
  rw [h0, h1]
  extract_lets v0 v1 formatted half done cached pos nvm u3 u4 other
  rw [if_neg (by decide)]
  have hfound : HeartwoodFound u4 1 (s.halfGen 1) ((List.range 256).filter fun k => s.hwCommitted 1 k).length := by
    have hflash : cached.flash = s.flash := (Frame.foldl (m := State.cacheHw_foot) (Frame.refl _ s) fun u k hu =>
      State.cacheHw_frame (Sub.refl _) hu _ _).flash rfl
    have hgen : cached.halfGen half = s.halfGen 1 := by
      unfold State.halfGen State.readFlash
      rw [hflash]
      rfl
    have hgen' : u3.halfGen half = s.halfGen 1 := hgen
    refine ⟨rfl, hgen, rfl, (State.rd_wr_sep _ _ _ _ _ _ (by decide)).trans (State.rd_wr_same _ _ _ _), ?_⟩
    rw [← hgen']
    exact State.rd_wr_same _ _ _ _
  split
  · exact hfound.flashEraseN _ _ _ _
  · exact hfound

/-- Flash beyond the last written byte reads as erased. -/
theorem readFlash_blank {s : State} {a : Nat} (n : Nat) (hall : s.flash.all (fun c => decide (c.1 < 0x10000)) = true) (ha : 0x10000 ≤ a) :
    s.readFlash a n = List.replicate n 0xFF := by
  unfold State.readFlash memRead
  rw [List.eq_replicate_iff]
  refine ⟨by simp, fun b hb => ?_⟩
  obtain ⟨k, -, rfl⟩ := List.mem_map.1 hb
  exact Tests.mget_over _ _ _ _ hall (by omega)

theorem mirrorValid_blank {s : State} (slot : Nat) (hall : s.flash.all (fun c => decide (c.1 < 0x10000)) = true) :
    s.mirrorValid slot = false := by
  unfold State.mirrorValid
  have hmagic : fieldAt (List.replicate 60 0xFF) 0 4 ≠ 0x57525053 := by decide +kernel
  simp only [readFlash_blank 60 hall (show 0x10000 ≤ mirrorBase slot by unfold mirrorBase; omega), hmagic, decide_false, Bool.false_and]

theorem logValid_blank {s : State} (k : Nat) (hall : s.flash.all (fun c => decide (c.1 < 0x10000)) = true) : s.logValid k = false := by
  unfold State.logValid
  have hmagic : fieldAt (List.replicate 512 0xFF) 0 4 ≠ 0x46435256 := by decide +kernel
  simp only [readFlash_blank 512 hall (show 0x10000 ≤ logBase + 512 * k by unfold logBase; omega), hmagic, decide_false, Bool.false_and]

theorem restoreMirror_blank {s : State} (hall : s.flash.all (fun c => decide (c.1 < 0x10000)) = true) :
    s.restoreMirror = (s.emit 17 5 [1, 1]).emit 16 1 [0, 0, 0] := by
  unfold State.restoreMirror
  have hnone : [0, 1, 2].filter s.mirrorValid = [] := by simp [mirrorValid_blank _ hall]
  rw [hnone]
  rfl

theorem restoreLog_blank {s : State} (hall : s.flash.all (fun c => decide (c.1 < 0x10000)) = true) : s.restoreLog = s.emit 17 5 [2, 1] := by
  unfold State.restoreLog
  have hnone : (List.range 128).filter s.logValid = [] := List.filter_eq_nil_iff.2 fun k _ => by simp [logValid_blank k hall]
  rw [hnone]

theorem fp3StartupRestore_answers : Claims.fp3StartupRestore := by
  intro s hrun hstage hfw hrestored h0 h1 hall
  refine Answers.hub rfl hrun ?_
  unfold Machine.fp3StartupRestore
  rw [if_neg (by simp [hrun, hfw, hrestored]; omega)]
  have hhw := restoreHw_found h0 h1
  have hflash : s.restoreHw.flash = s.flash := (State.restoreHw_frame (Sub.refl _) (Frame.refl _ s)).flash rfl
  rw [restoreMirror_blank (by rw [hflash]; exact hall)]
  have hslot := ((hhw.emit 17 5 [1, 1]).emit 16 1 [0, 0, 0]).blankSlot
  have hflash' : ((s.restoreHw.emit 17 5 [1, 1]).emit 16 1 [0, 0, 0]).blankSlot.flash = s.flash := by
    rw [(State.blankSlot_frame (Sub.refl _) (Frame.refl _ _)).flash rfl, (State.emit_frame (Sub.refl _) (Frame.refl _ _) _ _ _).flash rfl,
      (State.emit_frame (Sub.refl _) (Frame.refl _ _) _ _ _).flash rfl, hflash]
  rw [restoreLog_blank (by rw [hflash']; exact hall)]
  extract_lets w nvm u
  have hw : HeartwoodFound w 1 (s.halfGen 1) ((List.range 256).filter fun k => s.hwCommitted 1 k).length := hslot.emit 17 5 [2, 1]
  clear_value w
  have hu : HeartwoodFound u 1 (s.halfGen 1) ((List.range 256).filter fun k => s.hwCommitted 1 k).length := hw.of_eq rfl rfl rfl rfl rfl
  have hdone : u.nvm.restored = true := rfl
  clear_value u
  split
  · obtain ⟨hhalf, hgen, hopen, hcount, hshown⟩ := hu.emit 2 1
      [u.rd RST_CAUSE_cause, u.rd RST_LAST_TS_ts % 2 ^ 32, u.rd RST_LAST_TS_ts / 2 ^ 32]
    exact ⟨by rw [(State.emit_frame (Sub.refl _) (Frame.refl _ u) _ _ _).nvm rfl, hdone], hhalf, hgen, hopen, hcount, hshown⟩
  · obtain ⟨hhalf, hgen, hopen, hcount, hshown⟩ := hu
    exact ⟨hdone, hhalf, hgen, hopen, hcount, hshown⟩

/-- Settles O14. -/
theorem nonVolatileStore : Obligations.NonVolatileStore :=
  ⟨flashEraseDone_answers, flashProgramPage_answers, flashRecordDone_answers, flashCommitDone_answers, flashDoneWaits_answers,
    flashOpRetry_answers, flashOpFailed_answers, lastFaultFlashWrite_answers, lastFaultWritten_answers, fp3StartupRestore_answers,
    mirrorDeferExpire_answers⟩

end Sys2Proof.Machine
end

section
/-!
PROOF. The layer under the commands of the rings (R297 to R302): a descriptor whose turn it is, and what its completion writes.
-/
namespace Sys2Proof.Machine
open Sys2Proof.Claims

set_option Elab.async false

/-- A footprint without registers leaves every field. -/
theorem Frame.rd_all {m : Nat} {s t : State} (h : Frame m s t) (hm : m < 2 ^ 40) (hfuse : m.testBit 3 = false) (f : Fld) (i : Nat) :
    t.rd f i = s.rd f i := by
  have hbit (n : Nat) (hn : 40 ≤ n) : m.testBit n = false :=
    Nat.testBit_lt_two_pow (Nat.lt_of_lt_of_le hm (Nat.pow_le_pow_right (by decide) hn))
  have hreg : mfind t.regs (f.keyOf i) = mfind s.regs (f.keyOf i) := by
    refine h.regs _ (fun g j hg => ?_) (hbit _ (Nat.le_add_right _ _))
    obtain ⟨u, j', -, hset⟩ := hg
    exact absurd hset (by rw [hbit _ (by omega)]; exact Bool.false_ne_true)
  unfold State.rd Fld.resetVal mget
  rw [hreg, h.fuse hfuse]

/-! ### Outputs -/

section
variable {s t u : State} {o : Out}

theorem Sent.of_append {l : List Out} (h : t.out = s.out ++ l) (ho : o ∈ l) : Sent s t o :=
  ⟨h ▸ List.prefix_append _ _, by rw [h, List.drop_left]; exact ho⟩

theorem sent_iff : Sent s t o ↔ ∃ l, t.out = s.out ++ l ∧ o ∈ l := by
  constructor
  · rintro ⟨⟨l, hl⟩, ho⟩
    rw [← hl, List.drop_left] at ho
    exact ⟨l, hl.symm, ho⟩
  · rintro ⟨l, hl, ho⟩
    exact Sent.of_append hl ho

theorem Sent.after (h : Sent s t o) (hout : t.out <+: u.out) : Sent s u o := by
  obtain ⟨l, hl, ho⟩ := sent_iff.1 h
  obtain ⟨k, hk⟩ := hout
  exact Sent.of_append (l := l ++ k) (by rw [← hk, hl, List.append_assoc]) (List.mem_append_left k ho)

theorem Sent.before (h : Sent t u o) (hout : s.out <+: t.out) : Sent s u o := by
  obtain ⟨l, hl, ho⟩ := sent_iff.1 h
  obtain ⟨k, hk⟩ := hout
  exact Sent.of_append (l := k ++ l) (by rw [hl, ← hk, List.append_assoc]) (List.mem_append_right k ho)

theorem send_sent (s : State) (o : Out) : Sent s (s.send o) o := Sent.of_append (l := [o]) rfl (List.mem_singleton.2 rfl)

theorem prefix_send (s : State) (o : Out) : s.out <+: (s.send o).out := List.prefix_append _ _

end

/-! ### The rings' records -/

section
variable (s : State) (r : Nat)

@[simp] theorem ring_setRing_same (x : Ring) : (s.setRing r x).ring r = x := mget_mput_same _ _ _ _

theorem ring_setRing_ne {q : Nat} (x : Ring) (h : q ≠ r) : (s.setRing r x).ring q = s.ring q := mget_mput_ne _ _ _ h

@[simp] theorem ring_send (o : Out) : (s.send o).ring r = s.ring r := rfl

@[simp] theorem ring_wr (f : Fld) (i v : Nat) : (s.wr f i v).ring r = s.ring r := rfl

/-- A fetch puts reads out and counts them in the ring. -/
theorem fetchOne_effect : s.out <+: (s.fetchOne r).out ∧ ((s.fetchOne r).ring r).cqTail = (s.ring r).cqTail := by
  unfold State.fetchOne
  split
  · exact ⟨prefix_send _ _, by rw [ring_send, ring_setRing_same]⟩
  · exact ⟨List.prefix_refl _, rfl⟩

theorem tryFetch_effect : s.out <+: (s.tryFetch r).out ∧ ((s.tryFetch r).ring r).cqTail = (s.ring r).cqTail :=
  ⟨(fetchOne_effect s r).1.trans (fetchOne_effect _ r).1, (fetchOne_effect _ r).2.trans (fetchOne_effect s r).2⟩

end

/-! ### A descriptor in turn (R300, R302) -/

theorem runOp_inTurn {s : State} {p : Desc → Bool} {d : Desc} (f : Desc → State → State) (h : InTurn s p d) :
    s.runOp p f = f d (picked s d) := by
  obtain ⟨hnext, hfw, hroles⟩ := h
  unfold State.runOp
  rw [hnext]
  exact if_pos ⟨hfw, hroles⟩

theorem runOpcode_inTurn {s : State} {op : Nat} {d : Desc} (f : Desc → State → State) (h : InTurn s (fun d => decide (dOp d.w = op)) d) :
    s.runOpcode op f = f d (picked s d) := runOp_inTurn f h

@[simp] theorem rd_picked (s : State) (d : Desc) (f : Fld) (i : Nat) : (picked s d).rd f i = s.rd f i := rfl

theorem Reports.picked {s : State} {d : Desc} (h : Reports s d) : Reports (picked s d) d := h

theorem Completed.before_picked {s t : State} {d : Desc} {status : Nat} {ps : List (Nat × Nat × Nat)}
    (h : Completed (picked s d) t d status ps) : Completed s t d status ps := h

/-! ### Completions (R298, R300) -/

section
variable {s : State} {d : Desc}

theorem rd_complete (s : State) (d : Desc) (status : Nat) (ps : List (Nat × Nat × Nat)) (f : Fld) (i : Nat) :
    (s.complete d status ps).rd f i = s.rd f i :=
  (State.complete_frame (Sub.refl _) (Frame.refl _ s) d status ps).rd_all (by decide) (by decide) f i

/-- A completion changes what leaves, the rings and, at a pair, what the bridge holds. -/
theorem complete_same (s : State) (d : Desc) (status : Nat) (ps : List (Nat × Nat × Nat)) :
    (s.complete d status ps).nvm = s.nvm ∧ (s.complete d status ps).acc = s.acc ∧ (s.complete d status ps).slt = s.slt ∧
      (s.complete d status ps).fw = s.fw ∧ (s.complete d status ps).recd = s.recd ∧ (s.complete d status ps).ts = s.ts ∧
      (s.complete d status ps).fcs = s.fcs ∧ (s.complete d status ps).mem = s.mem ∧ (s.complete d status ps).hub = s.hub :=
  have h := State.complete_frame (Sub.refl _) (Frame.refl _ s) d status ps
  ⟨h.nvm rfl, h.acc rfl, h.slt rfl, h.fw rfl, h.recd rfl, h.ts rfl, h.fcs rfl, h.mem rfl, h.hub rfl⟩

/-- The descriptor's ring, as its completion sees it once the descriptor is no longer in flight. -/
theorem landed_effect (s : State) (d : Desc) : (s.landed d).out = s.out ∧ ((s.landed d).ring d.ring).cqTail = (s.ring d.ring).cqTail ∧
    (s.landed d).rCpl d.ring = s.rCpl d.ring ∧ (s.landed d).rN d.ring = s.rN d.ring := by
  unfold State.landed State.landAt
  dsimp only
  split
  · refine ⟨?_, ?_, ?_, ?_⟩
    · split <;> rfl
    · rw [ring_setRing_same]
    · split <;> rfl
    · split <;> rfl
  · exact ⟨rfl, rfl, rfl, rfl⟩

/-- The two writes of a completion, and the tail that advances. -/
theorem writeCompletion_effect (s : State) (r tag status op : Nat) (res : List Byte) (notify : Bool) :
    (∃ l, (s.writeCompletion r tag status op res notify).out = s.out ++
      .fabricSplit (s.rCpl r + 32 * ((s.ring r).cqTail % s.rN r)) (leBytes 4 tag ++ leBytes 2 status) 2 res ::
      .fabricWrite (s.rCpl r + 32 * ((s.ring r).cqTail % s.rN r) + 6) (leBytes 1 op ++ leBytes 1 (s.phaseBit r (s.ring r).cqTail)) :: l) ∧
    ((s.writeCompletion r tag status op res notify).ring r).cqTail = ((s.ring r).cqTail + 1) % 2 ^ 32 := by
  unfold State.writeCompletion
  extract_lets x a s₁ s₂ tail s₃
  have hout : s₃.out = s.out ++ [.fabricSplit a (leBytes 4 tag ++ leBytes 2 status) 2 res,
      .fabricWrite (a + 6) (leBytes 1 op ++ leBytes 1 (s.phaseBit r x.cqTail))] := List.append_assoc _ _ _
  have htail : (s₃.ring r).cqTail = tail := by rw [ring_setRing_same]
  split
  · exact ⟨⟨[_], by rw [State.send, hout, List.append_assoc]; rfl⟩, htail⟩
  · exact ⟨⟨[], hout⟩, htail⟩

theorem completeAs_reports {status : Nat} {tag op : Nat} {res : List Byte} (h : Reports s d) :
    s.completeAs d tag op status res = ((s.landed d).writeCompletion d.ring tag status op res (dNotify d.w)).tryFetch d.ring := by
  obtain ⟨hgen, hlow, hhigh, hmirror, hroles⟩ := h
  have hrole : ¬ (s.isD = true ∧ s.pRole = 3) := by
    rintro ⟨hD, hrole⟩
    simp [State.holdsRoles, hD, hrole] at hroles
  unfold State.completeAs
  extract_lets x held u
  have hx : ¬ (x.gen ≠ d.gen ∨ x.st = 0 ∨ x.st = 4) := by
    show ¬ ((s.ring d.ring).gen ≠ d.gen ∨ (s.ring d.ring).st = 0 ∨ (s.ring d.ring).st = 4)
    omega
  rw [if_neg hx, if_neg (by simp only [hmirror, Bool.false_eq_true, false_or]; exact hrole)]

theorem complete_completed {status : Nat} {ps : List (Nat × Nat × Nat)} (h : Reports s d) :
    Completed s (s.complete d status ps) d status ps := by
  unfold State.complete
  rw [completeAs_reports h]
  obtain ⟨hout, htail, hcpl, hn⟩ := landed_effect s d
  obtain ⟨⟨l, hl⟩, htail'⟩ := writeCompletion_effect (s.landed d) d.ring (dTag d.w) status (dOp d.w) (resultBytes ps) (dNotify d.w)
  obtain ⟨hfetch, hcq⟩ := tryFetch_effect ((s.landed d).writeCompletion d.ring (dTag d.w) status (dOp d.w) (resultBytes ps) (dNotify d.w)) d.ring
  have hphase : (s.landed d).phaseBit d.ring ((s.landed d).ring d.ring).cqTail = s.phaseBit d.ring (s.ring d.ring).cqTail := by
    unfold State.phaseBit
    rw [hn, htail]
  rw [hout, hphase, htail, hcpl, hn] at hl
  refine ⟨Sent.after (Sent.of_append hl (List.mem_cons_self ..)) hfetch,
    Sent.after (Sent.of_append hl (List.mem_cons_of_mem _ (List.mem_cons_self ..))) hfetch, ?_⟩
  rw [hcq, htail', htail]

/-- What a completion reads of the state: the descriptor's ring, where its completions go and how many, and what has left. -/
structure SameQueue (s u : State) (r : Nat) : Prop where
  tail : (u.ring r).cqTail = (s.ring r).cqTail
  base : u.rCpl r = s.rCpl r
  size : u.rN r = s.rN r
  left : s.out <+: u.out

theorem Completed.before {t u : State} {status : Nat} {ps : List (Nat × Nat × Nat)} (h : Completed u t d status ps)
    (hsame : SameQueue s u d.ring) : Completed s t d status ps := by
  obtain ⟨hbody, hmark, htail⟩ := h
  obtain ⟨htail', hbase, hsize, hleft⟩ := hsame
  unfold State.phaseBit at hmark
  rw [htail', hbase, hsize] at hbody
  rw [htail', hbase, hsize] at hmark
  rw [htail'] at htail
  exact ⟨Sent.before hbody hleft, Sent.before hmark hleft, htail⟩

theorem Completed.after {t u : State} {status : Nat} {ps : List (Nat × Nat × Nat)} (h : Completed s t d status ps)
    (hout : t.out <+: u.out) (htail : (u.ring d.ring).cqTail = (t.ring d.ring).cqTail) : Completed s u d status ps := by
  obtain ⟨hbody, hmark, htail'⟩ := h
  exact ⟨Sent.after hbody hout, Sent.after hmark hout, htail.trans htail'⟩

/-- The registers that tell where the steward's completions go. -/
theorem SameQueue.of_hif {u : State} {r : Nat} (hhif : u.hif = s.hif) (hout : s.out <+: u.out)
    (hbase : u.rd HIF_SCPL_base = s.rd HIF_SCPL_base) (hsize : u.rd HIF_SCTL_size = s.rd HIF_SCTL_size) : SameQueue s u r := by
  refine ⟨?_, ?_, ?_, hout⟩
  · unfold State.ring
    rw [hhif]
  · unfold State.rCpl State.tring
    rw [hhif, hbase]
  · unfold State.rN State.rSize State.tring
    rw [hhif, hsize]

end

end Sys2Proof.Machine
end

section
/-!
PROOF. The event recorder, its reads and clears, and civil time (R447 to R459, R474 to R477, R484).
-/
namespace Sys2Proof.Machine
open Sys2Proof.Claims

set_option Elab.async false

/-- A command that runs an opcode answers what the opcode does of the descriptor in turn. -/
theorem Answers.opcode {c : Instr} {s : State} {op : Nat} {f : Desc → State → State} {d : Desc} {p : State → Prop}
    (harm : exec c s = hubOn (fun s => s.runOpcode op f) s) (hrun : s.running = true) (hturn : InTurn s (fun d => decide (dOp d.w = op)) d)
    (h : p (f d (picked s d))) : Answers c s p :=
  Answers.hub harm hrun (by rw [runOpcode_inTurn f hturn]; exact h)

theorem rd_of_regs {s t : State} (hregs : t.regs = s.regs) (hfuse : t.fuse = s.fuse) (f : Fld) (i : Nat) : t.rd f i = s.rd f i := by
  unfold State.rd Fld.resetVal
  rw [hregs, hfuse]

/-- The registers that tell whether, where and how a completion is written. -/
def completionFlds : List Fld := [PAR_STAT_role, PAR_STAT_state, HIF_SCPL_base, HIF_SCTL_size]

section
variable {s u : State} {d : Desc}

theorem Reports.congr (h : Reports s d) (hhif : u.hif = s.hif) (hpar : u.par = s.par) (hfuse : u.fuse = s.fuse)
    (hrd : ∀ f ∈ completionFlds, u.rd f = s.rd f) : Reports u d := by
  have hD : u.isD = s.isD := by
    unfold State.isD
    rw [hfuse]
  have hrole : u.pRole = s.pRole := hrd _ (by simp [completionFlds])
  have hstate : u.pState = s.pState := hrd _ (by simp [completionFlds])
  unfold Reports State.ring State.mirroring State.holdsRoles at h ⊢
  rw [hhif, hD, hrole, hstate, hpar]
  exact h

/-- A completion written after other changes. -/
theorem complete_completed_after {status : Nat} {ps : List (Nat × Nat × Nat)} (h : Reports s d) (hhif : u.hif = s.hif)
    (hpar : u.par = s.par) (hfuse : u.fuse = s.fuse) (hout : s.out <+: u.out) (hrd : ∀ f ∈ completionFlds, u.rd f = s.rd f) :
    Completed s (u.complete d status ps) d status ps :=
  Completed.before (complete_completed (Reports.congr h hhif hpar hfuse hrd))
    (SameQueue.of_hif hhif hout (hrd _ (by simp [completionFlds])) (hrd _ (by simp [completionFlds])))

theorem out_complete {status : Nat} {ps : List (Nat × Nat × Nat)} (h : Reports s d) : s.out <+: (s.complete d status ps).out :=
  (complete_completed (ps := ps) h).1.1

end

/-! ### Bytes -/

theorem length_leBytes (n x : Nat) : (leBytes n x).length = n := by
  induction n generalizing x with
  | zero => rfl
  | succ n ih => rw [leBytes, List.length_cons, ih]

theorem dB_lt (w o n : Nat) : dB w o n < 2 ^ (8 * n) := Nat.mod_lt _ (Nat.two_pow_pos _)

/-! ### The banks' bytes -/

section
variable {s : State} {bank off : Nat}

/-- With no region out of order a bank's bytes are those of the memory. -/
theorem readBank_eq (hbad : s.hub.bad = []) (n : Nat) :
    s.readBank bank off n = (List.range n).map fun k => memRead s.mem bankDefault (bankAddr bank off + k) := by
  unfold State.readBank State.bankByte
  simp only [hbad, mget, mfind, Option.getD_none, Bool.false_eq_true, if_false, bankAddr, Nat.add_assoc]

theorem readBank_congr {t : State} (hmem : t.mem = s.mem) (hbad : t.hub.bad = []) (hbad' : s.hub.bad = []) (n : Nat) :
    t.readBank bank off n = s.readBank bank off n := by
  rw [readBank_eq hbad, readBank_eq hbad', hmem]

theorem readBank_writeBank_same {bs : List Byte} (hbad : s.hub.bad = []) (hok : memOk s.mem bankDefault = true) :
    (s.writeBank bank off bs).readBank bank off bs.length = bs := by
  rw [readBank_eq (s := s.writeBank bank off bs) hbad]
  refine List.ext_getElem (by simp) fun k _ hk => ?_
  rw [List.getElem_map, List.getElem_range]
  exact memRead_writeBytes_in hok hk

theorem readBank_writeBank_apart {bs : List Byte} {off' n : Nat} (hbad : s.hub.bad = []) (h : off + n ≤ off' ∨ off' + bs.length ≤ off) :
    (s.writeBank bank off' bs).readBank bank off n = s.readBank bank off n := by
  rw [readBank_eq (s := s.writeBank bank off' bs) hbad, readBank_eq hbad]
  refine List.map_congr_left fun k hk => ?_
  have hk := List.mem_range.1 hk
  exact memRead_writeBytes_ne _ _ _ (by unfold bankAddr; omega)

end

/-! ### Acceptance (R451, R452, R454, R455) -/

theorem length_recordBytes {r : EvRec} (civil : Bool) (hr : r.params.length = 4) : (r.bytes civil).length = 32 := by
  have hparams : (r.params.flatMap (leBytes 4)).length = 16 := by
    rw [List.length_flatMap]
    simp [length_leBytes, hr]
  unfold EvRec.bytes
  simp only [List.length_append, length_leBytes, hparams]

section
variable (s : State) (bs : List Byte)

theorem rd_sapwood_next : (s.sapwood bs).rd EVT_NEXT_next = (s.rd EVT_NEXT_next + 1) % 2 ^ 32 := State.rd_wr_same _ _ _ _

theorem sapwood_recd : (s.sapwood bs).recd = { s.recd with full := s.recd.full || decide (s.rd EVT_NEXT_next = 4095) } := rfl

theorem sapwood_record {s : State} {bs : List Byte} (hlen : bs.length = 32) (hbad : s.hub.bad = []) (hok : memOk s.mem bankDefault = true) :
    (s.sapwood bs).readBank evsBank (32 * (s.rd EVT_NEXT_next % 4096)) 32 = bs := by
  unfold State.sapwood
  extract_lets n u v recd
  have hv : v.readBank evsBank (32 * (n % 4096)) 32 = bs := by
    rw [readBank_writeBank_apart (s := u) hbad (by rw [length_leBytes]; omega)]
    have hread := readBank_writeBank_same (s := s) (bank := evsBank) (off := 32 * (n % 4096)) (bs := bs) hbad hok
    rwa [hlen] at hread
  exact hv

theorem sapwood_seqWord {s : State} {bs : List Byte} (hbad : s.hub.bad = []) (hok : memOk s.mem bankDefault = true) :
    (s.sapwood bs).seqWord (s.rd EVT_NEXT_next) = 2 * s.rd EVT_NEXT_next % 2 ^ 32 := by
  unfold State.sapwood
  extract_lets n u v recd
  have hu : memOk u.mem bankDefault = true := memOk_writeBytes _ _ hok
  have hv : v.readBank evsBank (0x20000 + 4 * (n % 4096)) 4 = leBytes 4 (2 * n) := by
    have hread := readBank_writeBank_same (s := u) (bank := evsBank) (off := 0x20000 + 4 * (n % 4096)) (bs := leBytes 4 (2 * n)) hbad hu
    rwa [length_leBytes] at hread
  have hword : leNat (v.readBank evsBank (0x20000 + 4 * (n % 4096)) 4) = 2 * n % 2 ^ 32 := by
    rw [hv, Tests.leNat_leBytes]
    rfl
  exact hword

end

/-- Accepting counts severe records besides. -/
theorem acceptRec_same (s : State) (r : EvRec) :
    (s.acceptRec r).recd = (s.sapwood (r.bytes (s.flag EVT_NA_set))).recd ∧
      (s.acceptRec r).mem = (s.sapwood (r.bytes (s.flag EVT_NA_set))).mem ∧ (s.acceptRec r).hub = s.hub ∧
      (s.acceptRec r).rd EVT_NEXT_next = (s.rd EVT_NEXT_next + 1) % 2 ^ 32 := by
  unfold State.acceptRec
  extract_lets u
  split
  · refine ⟨?_, ?_, ?_, ?_⟩
    · rw [(State.count_frame (Sub.refl _) (Frame.refl _ u) _ _).recd rfl]
    · rw [(State.count_frame (Sub.refl _) (Frame.refl _ u) _ _).mem rfl]
    · rw [(State.count_frame (Sub.refl _) (Frame.refl _ u) _ _).hub rfl]
      rfl
    · rw [State.count_rd]
      exact rd_sapwood_next _ _
  · exact ⟨rfl, rfl, rfl, rd_sapwood_next _ _⟩

/-- The recorder's cycle: it takes the next record, or reports what was lost first. -/
def State.recorderTurn (s : State) : State := { s with recd := { s.recd with nextT := s.ts + 1 } }

/-- The record at the front is taken. -/
def State.frontTaken (s : State) (q : List EvRec) : State := { s with recd := { s.recd with queue := q, inLost := false } }

/-- The records lost are reported. -/
def State.lossTaken (s : State) : State := { s with recd := { s.recd with lost := 0, inLost := true } }

section
variable {r : EvRec} {q : List EvRec} {s : State}

theorem eventRecordAccept_eq_front (hstage : s.rd RST_SEQ_stage ≠ 0) (hqueue : s.recd.queue = r :: q) (hlost : s.recd.lost = 0)
    (hdue : s.recd.nextT ≤ s.ts) : Machine.eventRecordAccept s = (s.recorderTurn.frontTaken q).acceptRec r := by
  unfold Machine.eventRecordAccept
  rw [if_neg (show ¬ (s.rd RST_SEQ_stage = 0 ∨ s.ts < s.recd.nextT) by omega)]
  split
  · next h => cases hqueue.symm.trans h
  · next r' q' h =>
    obtain ⟨rfl, rfl⟩ := List.cons.inj (hqueue.symm.trans h)
    exact if_neg (by simp [hlost])

theorem eventRecordAccept_eq_loss (hstage : s.rd RST_SEQ_stage ≠ 0) (hqueue : s.recd.queue = r :: q) (hlost : 0 < s.recd.lost)
    (hinLost : s.recd.inLost = false) (hdue : s.recd.nextT ≤ s.ts) :
    ∃ l, Machine.eventRecordAccept s = s.recorderTurn.lossTaken.acceptRec l := by
  unfold Machine.eventRecordAccept
  rw [if_neg (show ¬ (s.rd RST_SEQ_stage = 0 ∨ s.ts < s.recd.nextT) by omega)]
  split
  · next h => cases hqueue.symm.trans h
  · exact ⟨_, if_pos (by simp [hlost, hinLost])⟩

end

theorem eventRecordAccept_answers : Claims.eventRecordAccept := by
  intro r q s hrun hstage hqueue hlost hdue hok hparams hbad hnext
  refine Answers.hub rfl hrun ?_
  rw [eventRecordAccept_eq_front hstage hqueue hlost hdue]
  obtain ⟨hrecd, hmem, hhub, hrd⟩ := acceptRec_same (s.recorderTurn.frontTaken q) r
  have hmemOk : memOk s.mem bankDefault = true := (memoriesOk_iff.1 hok).1
  have hread {bank off n : Nat} : ((s.recorderTurn.frontTaken q).acceptRec r).readBank bank off n =
      ((s.recorderTurn.frontTaken q).sapwood (r.bytes ((s.recorderTurn.frontTaken q).flag EVT_NA_set))).readBank bank off n :=
    readBank_congr hmem (by rw [hhub]; exact hbad) hbad n
  refine ⟨?_, ?_, ?_, ?_, ?_⟩
  · rw [hrecd, sapwood_recd]
    rfl
  · rw [hrecd, sapwood_recd]
    rfl
  · rw [hrd]
    exact Nat.mod_eq_of_lt (Nat.add_lt_of_lt_sub hnext)
  · rw [hread]
    exact sapwood_record (s := s.recorderTurn.frontTaken q) (length_recordBytes _ hparams) hbad hmemOk
  · unfold State.seqWord
    rw [hread]
    exact sapwood_seqWord (s := s.recorderTurn.frontTaken q) hbad hmemOk

theorem eventRecordLost_answers : Claims.eventRecordLost := by
  intro r q s hrun hstage hqueue hlost hinLost hdue hnext
  refine Answers.hub rfl hrun ?_
  obtain ⟨l, hl⟩ := eventRecordAccept_eq_loss hstage hqueue hlost hinLost hdue
  rw [hl]
  obtain ⟨hrecd, -, -, hrd⟩ := acceptRec_same s.recorderTurn.lossTaken l
  refine ⟨?_, ?_, ?_⟩
  · rw [hrecd, sapwood_recd]
    exact hqueue
  · rw [hrd]
    exact Nat.mod_eq_of_lt (Nat.add_lt_of_lt_sub hnext)
  · rw [hrecd, sapwood_recd]
    rfl

/-! ### The heartwood (R457) and its clear (R459, R466) -/

theorem rd_flashIssue_busy {s : State} {o : FlashOp} {q : List FlashOp} (hops : s.nvm.ops = o :: q) :
    s.flashIssue.rd NVM_STAT_busy = 1 := by
  unfold State.flashIssue
  split
  · next h => cases hops.symm.trans h
  · exact State.rd_wr_same _ _ _ _

/-- An operation asked of an idle store starts at once. -/
theorem flashAsk_first {s : State} {x : Nvm} (o : FlashOp) (hfound : s.flag NVM_STAT_found = true) (hport : x.portHigh = false)
    (hops : x.ops = []) : (s.setNvm x).flashAsk o = (s.setNvm { x with ops := [o] }).flashIssue := by
  have hfound' : (s.setNvm x).flag NVM_STAT_found = true := hfound
  unfold State.flashAsk
  rw [hfound', if_neg (by simp [State.setNvm, hport]), if_pos (show (s.setNvm x).nvm.ops.isEmpty = true from List.isEmpty_iff.2 hops)]
  rfl

theorem flag_cacheHw (s : State) (k : Nat) (bs : List Byte) (f : Fld) : (s.cacheHw k bs).flag f = s.flag f := by
  unfold State.flag
  rw [rd_of_regs (t := s.cacheHw k bs) (s := s) rfl rfl]

theorem heartwoodProgram_answers : Claims.heartwoodProgram := by
  intro bs s hrun hfw hrestored hfound hport hopen hpos hclear hops hprior hlater hrec
  refine Answers.hub rfl hrun ?_
  have hr : (if s.nvm.priorN ≠ 0 ∧ s.nvm.hwNext = s.nvm.prior then (s.nvm.prior + s.nvm.priorN) % 2 ^ 32 else s.nvm.hwNext) =
      s.nvm.hwNext := if_neg fun h => h.1 hprior
  unfold Machine.heartwoodProgram
  dsimp only
  rw [hr, hrec, if_neg (by simp [hfw, hrestored, hfound, hopen, hpos, hclear, hops, hlater]), Option.getD_some,
    flashAsk_first (x := { s.nvm with hwNext := (s.nvm.hwNext + 1) % 2 ^ 32, hwPos := s.nvm.hwPos + 1 }) _
      ((flag_cacheHw _ _ _ _).trans hfound) hport hops, nvm_flashIssue, rd_flashIssue_busy rfl]
  exact ⟨rfl, rfl, rfl, rfl⟩

theorem evtClear_answers : Claims.evtClear := by
  intro d s hrun hclear hturn hcount hfound hport hops
  refine Answers.hub (by unfold exec; exact rfl) hrun ?_
  rw [if_neg (by simp [hclear, hfound, hport]), runOpcode_inTurn _ hturn]
  unfold Machine.evtClear
  rw [rd_picked, if_neg (not_not.2 hcount)]
  extract_lets nvm u
  have hask (o : FlashOp) : (u.flashAsk o).nvm.ops = [o] ∧ (u.flashAsk o).nvm.clear = some d := by
    rw [nvm_flashAsk u hfound hport]
    exact ⟨congrArg (· ++ [o]) hops, rfl⟩
  refine ⟨(hask _).2, (hask _).1, ?_⟩
  rw [rd_flashAsk _ _ _ _ (by decide)]
  rfl

theorem evtClearRefused_answers : Claims.evtClearRefused := by
  intro d s hrun hclear hturn hreports hfound hport hcount
  refine Answers.hub (by unfold exec; exact rfl) hrun ?_
  rw [if_neg (by simp [hclear, hfound, hport]), runOpcode_inTurn _ hturn]
  unfold Machine.evtClear
  rw [rd_picked, if_pos hcount]
  exact ⟨Completed.before_picked (complete_completed (Reports.picked hreports)), (complete_same _ _ _ _).1⟩

/-! ### EVT_READ (R456) -/

theorem map_evtEntry_plain (o : Option (List Byte)) (num seq : Nat) : o.map (evtEntry false num seq) = o := by
  cases o <;> rfl

/-- A read of records of the sapwood, none of them overwritten. -/
theorem evtRead_held {d : Desc} {u : State} (hsap : dB d.w 8 1 = 0) (hwords : bit (dB d.w 9 1) 0 = false)
    (hlater : laterSer (dB d.w 16 4) (u.rd EVT_NEXT_next) 32 = false) (hheld : sub32w (u.rd EVT_NEXT_next) (dB d.w 16 4) ≤ u.held) :
    Machine.evtRead d u = u.evtAnswer d 32 (dB d.w 16 4) (min (dB d.w 10 2) (sub32w (u.rd EVT_NEXT_next) (dB d.w 16 4))) 0
      ((List.range (min (dB d.w 10 2) (sub32w (u.rd EVT_NEXT_next) (dB d.w 16 4)))).map fun i =>
        u.recordAt ((dB d.w 16 4 + i) % 2 ^ 32)) := by
  have hstart : (dB d.w 16 4 + 0) % 2 ^ 32 = dB d.w 16 4 := Nat.mod_eq_of_lt (dB_lt d.w 16 4)
  unfold Machine.evtRead
  dsimp only
  rw [if_pos hsap, if_neg (by rw [hlater]; exact Bool.false_ne_true), Nat.sub_eq_zero_of_le hheld, hwords, hstart, Nat.sub_zero]
  simp only [map_evtEntry_plain, Bool.false_eq_true, if_false]

theorem filterMap_all_some {α : Type} (g : Nat → Option (List α)) (n : Nat) (hg : ∀ i < n, (g i).isSome = true) :
    ((List.range n).map g).filterMap id = (List.range n).map fun i => (g i).getD [] := by
  rw [List.filterMap_map, ← List.filterMap_eq_map]
  refine List.filterMap_congr fun i hi => ?_
  obtain ⟨x, hx⟩ := Option.isSome_iff_exists.1 (hg i (List.mem_range.1 hi))
  simp [hx]

theorem evtRead_answers : Claims.evtRead := by
  intro d n s hrun hturn hreports hsap hwords hlater hn hheld hfits hpos hsome
  refine Answers.opcode rfl hrun hturn ?_
  rw [evtRead_held (u := picked s d) hsap hwords hlater hheld]
  show Completed s ((picked s d).evtAnswer d 32 (dB d.w 16 4) (min (dB d.w 10 2) (sub32w (s.rd EVT_NEXT_next) (dB d.w 16 4))) 0
    ((List.range (min (dB d.w 10 2) (sub32w (s.rd EVT_NEXT_next) (dB d.w 16 4)))).map fun i =>
      s.recordAt ((dB d.w 16 4 + i) % 2 ^ 32))) d 0 _ ∧ Sent s ((picked s d).evtAnswer d 32 (dB d.w 16 4)
        (min (dB d.w 10 2) (sub32w (s.rd EVT_NEXT_next) (dB d.w 16 4))) 0
    ((List.range (min (dB d.w 10 2) (sub32w (s.rd EVT_NEXT_next) (dB d.w 16 4)))).map fun i =>
      s.recordAt ((dB d.w 16 4 + i) % 2 ^ 32))) _
  rw [← hn]
  unfold State.evtAnswer
  extract_lets got u
  have hgot : got = (List.range n).map fun i => (s.recordAt ((dB d.w 16 4 + i) % 2 ^ 32)).getD [] := filterMap_all_some _ n hsome
  have hlen : got.length = n := by rw [hgot, List.length_map, List.length_range]
  have hu : u = (picked s d).send (.fabricWrite (dB d.w 24 8) got.flatten) :=
    if_neg (by rw [List.isEmpty_iff, ← List.length_eq_zero_iff]; omega)
  have hsent : Sent s u (.fabricWrite (dB d.w 24 8) got.flatten) := hu ▸ send_sent s _
  have hsame : SameQueue s u d.ring := hu ▸ ⟨rfl, rfl, rfl, prefix_send s _⟩
  have hcomplete := (complete_completed (status := 0) (ps := [(8, 4, n), (12, 4, dB d.w 16 4), (16, 4, dB d.w 16 4 + n), (20, 4, 0)])
    (show Reports u d from hu ▸ hreports))
  rw [hlen, if_neg (by omega), Nat.sub_self]
  refine ⟨Completed.before hcomplete hsame, ?_⟩
  have hflat : got.flatten = (List.range n).flatMap fun i => (s.recordAt ((dB d.w 16 4 + i) % 2 ^ 32)).getD [] := by
    rw [hgot, List.flatMap_def]
  rw [← hflat]
  exact Sent.after hsent (out_complete (hu ▸ hreports))

theorem evtReadRefused_answers : Claims.evtReadRefused := by
  intro d s hrun hturn hreports hsap hlater
  refine Answers.opcode rfl hrun hturn ?_
  unfold Machine.evtRead
  extract_lets w sw size count first nxt
  rw [if_pos hsap, if_pos (show laterSer first nxt 32 = true from hlater)]
  exact Completed.before_picked (complete_completed (Reports.picked hreports))

/-! ### Civil time (R474, R475, R484) -/

theorem timeSet_answers : Claims.timeSet := by
  intro d s hrun hturn hreports hok
  refine Answers.opcode rfl hrun hturn ?_
  unfold Machine.timeSet
  extract_lets w ta sa na step u
  have hok' : timeOk w (picked s d).ts = true := hok
  rw [if_neg (by rw [hok']; decide)]
  have hread (f : Fld) (hf : sepFld f EVT_DROP_dropped = true) (ps : List Nat) : ((u.emit 16 4 ps).complete d 0 []).rd f = u.rd f := by
    rw [rd_complete, State.rd_emit _ _ _ _ _ _ hf]
  have hcomplete (ps : List Nat) : Completed (picked s d) ((u.emit 16 4 ps).complete d 0 []) d 0 [] := by
    have hframe := State.emit_frame (Sub.refl _) (Frame.refl _ u) 16 4 ps
    refine complete_completed_after hreports (hframe.hif rfl) (hframe.par rfl) (hframe.fuse rfl) (by rw [hframe.out rfl]; exact List.prefix_refl _)
      fun f hf => ?_
    have hwr : u.rd f = s.rd f := by
      simp only [completionFlds, List.mem_cons, List.not_mem_nil, or_false] at hf
      rcases hf with rfl | rfl | rfl | rfl <;> simp (disch := decide) only [u, State.rd_wr_sep, rd_picked]
    rw [State.rd_emit _ _ _ _ _ _ (by simp only [completionFlds, List.mem_cons, List.not_mem_nil, or_false] at hf; rcases hf with rfl | rfl | rfl | rfl <;> decide), hwr]
    rfl
  have hna : na < 2 ^ 30 := by
    simp only [timeOk, Bool.and_eq_true, decide_eq_true_eq] at hok
    have hns : dB d.w 24 4 ≤ 999999999 := hok.1.2.2.2.2
    exact Nat.lt_of_le_of_lt hns (by decide)
  rw [hread _ (by decide), hread _ (by decide), hread _ (by decide), hread _ (by decide)]
  simp (disch := decide) only [u, State.rd_wr_sep, State.rd_wr_same]
  exact ⟨Nat.mod_eq_of_lt (dB_lt _ _ _), Nat.mod_eq_of_lt hna, rfl, rfl, Completed.before_picked (hcomplete _)⟩

theorem timeSetRefused_answers : Claims.timeSetRefused := by
  intro d s hrun hturn hreports hok
  refine Answers.opcode rfl hrun hturn ?_
  unfold Machine.timeSet
  extract_lets w ta sa na step u
  have hok' : timeOk w (picked s d).ts = false := hok
  rw [if_pos (by rw [hok']; decide), rd_complete, rd_complete]
  exact ⟨Completed.before_picked (complete_completed (Reports.picked hreports)), rfl, rfl⟩

theorem evtCivLatch_answers : Claims.evtCivLatch := by
  intro v y m d h n sec ns s hrun hlatch hunit hcivil
  refine Answers.hub rfl hrun ?_
  unfold Machine.evtCivLatch
  rw [if_neg (by simp [hlatch, hunit])]
  simp only [hcivil]
  simp (disch := decide) only [State.rd_wr_sep, State.rd_wr_same]
  exact ⟨rfl, rfl, rfl, rfl, rfl, rfl, rfl, rfl, rfl⟩

theorem evtCivInvalid_answers : Claims.evtCivInvalid := by
  intro v s hrun hlatch hunit hanchor
  refine Answers.hub rfl hrun ?_
  have hcivil : s.civil s.ts = none := by
    unfold State.civil
    rw [flag_of_rd_zero hanchor]
    rfl
  unfold Machine.evtCivLatch
  rw [if_neg (by simp [hlatch, hunit])]
  simp only [hcivil]
  exact ⟨(State.rd_wr_sep _ _ _ _ _ _ (by decide)).trans (State.rd_wr_same _ _ _ _), State.rd_wr_same _ _ _ _⟩

/-- Settles O13. -/
theorem eventRecorder : Obligations.EventRecorder :=
  ⟨eventRecordAccept_answers, eventRecordLost_answers, heartwoodProgram_answers, evtRead_answers, evtReadRefused_answers,
    evtClear_answers, evtClearRefused_answers, timeSet_answers, timeSetRefused_answers, evtCivLatch_answers, evtCivInvalid_answers⟩

end Sys2Proof.Machine
end

section
/-!
PROOF. The accounts: reconciliation in Glatos S, jobs, energy reads and caps (R272 to R287).
-/
namespace Sys2Proof.Machine
open Sys2Proof.Claims

set_option Elab.async false

/-! ### Mirroring -/

theorem mirror_of_not {s : State} (h : s.mirroring = false) (obj idx : Nat) (data : List Byte) : s.mirror obj idx data = s :=
  if_neg (by rw [h]; exact Bool.false_ne_true)

theorem acc_mirror (s : State) (obj idx : Nat) (data : List Byte) : (s.mirror obj idx data).acc = s.acc :=
  (State.mirror_frame (Sub.refl _) (Frame.refl _ s) obj idx data).acc rfl

theorem rd_mirror (s : State) (obj idx : Nat) (data : List Byte) (f : Fld) (i : Nat) : (s.mirror obj idx data).rd f i = s.rd f i :=
  (State.mirror_frame (Sub.refl _) (Frame.refl _ s) obj idx data).rd_all (by decide) (by decide) f i

/-! ### Charging an account (R278, R281) -/

/-- The accounts' component apart from the charges and the count of clamped spans. -/
def Accts.uncharged (a : Accts) : Accts := { a with tenants := [], queues := [], clamps := 0 }

section
variable (s : State)

theorem uncharged_addAcct (i n : Nat) : (s.addAcct i n).acc.uncharged = s.acc.uncharged := by
  unfold State.addAcct
  dsimp only
  rw [acc_mirror]
  split <;> rfl

theorem settled_addAcct_same {i : Nat} (n : Nat) (hi : i < 512) : (s.addAcct i n).settled i = (s.settled i + n) % 2 ^ 64 := by
  have hacc : (s.addAcct i n).acc = { s.acc with tenants := mput s.acc.tenants i ((s.settled i + n) % 2 ^ 64) } := by
    unfold State.addAcct
    dsimp only
    rw [acc_mirror]
    exact if_pos hi
  have hsettled : (s.addAcct i n).settled i = mget (s.addAcct i n).acc.tenants i 0 := if_pos hi
  rw [hsettled, hacc]
  exact mget_mput_same _ _ _ _

theorem settled_addAcct_ne {i k : Nat} (n : Nat) (hk : k < 512) (hne : k ≠ i) : (s.addAcct i n).settled k = s.settled k := by
  have hleft : (s.addAcct i n).settled k = mget (s.addAcct i n).acc.tenants k 0 := if_pos hk
  have hright : s.settled k = mget s.acc.tenants k 0 := if_pos hk
  have hacc : mget (s.addAcct i n).acc.tenants k 0 = mget s.acc.tenants k 0 := by
    unfold State.addAcct
    dsimp only
    rw [acc_mirror]
    split
    · exact mget_mput_ne _ _ _ hne
    · rfl
  rw [hleft, hright, hacc]

theorem rd_addAcct (i n : Nat) (f : Fld) (j : Nat) : (s.addAcct i n).rd f j = s.rd f j :=
  (State.addAcct_frame (Sub.refl _) (Frame.refl _ s) i n).rd_all (by decide) (by decide) f j

/-- Charges of accounts one after another, by rising index. -/
def State.addAll (s : State) (l : List (Nat × Nat)) : State := l.foldl (fun s x => s.addAcct x.1 x.2) s

theorem uncharged_addAll (l : List (Nat × Nat)) : (s.addAll l).acc.uncharged = s.acc.uncharged := by
  induction l generalizing s with
  | nil => rfl
  | cons x xs ih => exact (ih (s.addAcct x.1 x.2)).trans (uncharged_addAcct s x.1 x.2)

theorem rd_addAll (l : List (Nat × Nat)) (f : Fld) (j : Nat) : (s.addAll l).rd f j = s.rd f j := by
  induction l generalizing s with
  | nil => rfl
  | cons x xs ih => exact (ih (s.addAcct x.1 x.2)).trans (rd_addAcct s x.1 x.2 f j)

theorem isD_addAll (l : List (Nat × Nat)) : (s.addAll l).isD = s.isD := by
  induction l generalizing s with
  | nil => rfl
  | cons x xs ih =>
    refine (ih (s.addAcct x.1 x.2)).trans ?_
    unfold State.isD
    rw [(State.addAcct_frame (Sub.refl _) (Frame.refl _ s) x.1 x.2).fuse rfl]

/-- An account that no charge names. -/
theorem settled_addAll_ne {k : Nat} (l : List (Nat × Nat)) (hk : k < 512) (hl : ∀ x ∈ l, k ≠ x.1) : (s.addAll l).settled k = s.settled k := by
  induction l generalizing s with
  | nil => rfl
  | cons x xs ih =>
    exact (ih (s.addAcct x.1 x.2) fun y hy => hl y (List.mem_cons_of_mem _ hy)).trans
      (settled_addAcct_ne s x.2 hk (hl x (List.mem_cons_self ..)))

theorem below_of_rising {b : Nat} {l : List (Nat × Nat)} (hl : mrisingFrom b l = true) : ∀ x ∈ l, b ≤ x.1 := by
  induction l generalizing b with
  | nil => intro x hx; cases hx
  | cons y ys ih =>
    obtain ⟨k, v⟩ := y
    simp only [mrisingFrom, Bool.and_eq_true, decide_eq_true_eq] at hl
    obtain ⟨hb, hys⟩ := hl
    intro x hx
    rcases List.mem_cons.1 hx with rfl | hx
    · exact hb
    · exact Nat.le_trans hb (Nat.le_of_succ_le (ih hys x hx))

/-- Every account named is charged once; the others keep their values. -/
theorem settled_addAll {b k : Nat} {l : List (Nat × Nat)} (hl : mrisingFrom b l = true) (hk : k < 512) :
    (s.addAll l).settled k = (s.settled k + mget l k 0) % 2 ^ 64 ∨ mget l k 0 = 0 ∧ (s.addAll l).settled k = s.settled k := by
  induction l generalizing b s with
  | nil => exact .inr ⟨rfl, rfl⟩
  | cons x xs ih =>
    obtain ⟨i, v⟩ := x
    simp only [mrisingFrom, Bool.and_eq_true, decide_eq_true_eq] at hl
    obtain ⟨-, hxs⟩ := hl
    by_cases hki : i = k
    · subst hki
      have hcharge : mget ((i, v) :: xs) i 0 = v := by simp [mget, mfind]
      have hrest := settled_addAll_ne (s.addAcct i v) xs hk fun y hy => Nat.ne_of_lt (below_of_rising hxs y hy)
      rw [hcharge]
      exact .inl (hrest.trans (settled_addAcct_same s v hk))
    · have hcharge : mget ((i, v) :: xs) k 0 = mget xs k 0 := by simp [mget, mfind, hki]
      rw [hcharge, ← settled_addAcct_ne s v hk (Ne.symm hki)]
      exact ih (s.addAcct i v) hxs

end

/-! ### The increments of a span (R278) -/

theorem rising_map {α β : Type} (g : Nat × α → β) (b : Nat) (m : SMap α) :
    mrisingFrom b (m.map fun x => (x.1, g x)) = mrisingFrom b m := by
  induction m generalizing b with
  | nil => rfl
  | cons x xs ih =>
    obtain ⟨k, v⟩ := x
    show (decide (b ≤ k) && mrisingFrom (k + 1) (xs.map fun x => (x.1, g x))) = (decide (b ≤ k) && mrisingFrom (k + 1) xs)
    rw [ih]

theorem rising_sumsBy (l : List (Nat × Nat)) : mrisingFrom 0 (sumsBy l) = true := by
  have hfold (m : SMap Nat) (hm : mrisingFrom 0 m = true) :
      mrisingFrom 0 (l.foldl (fun m x => mput m x.1 (mget m x.1 0 + x.2)) m) = true := by
    induction l generalizing m with
    | nil => exact hm
    | cons x xs ih => exact ih _ (mrisingFrom_mput _ (Nat.zero_le _) hm)
  exact hfold [] rfl

/-- Each tenant is charged once for a span. -/
theorem rising_charge (rs : List MsRec) (mc ma k : Nat) (on : Bool) : mrisingFrom 0 (((spanOf rs mc ma).incs k on).charge) = true := by
  unfold Incs.charge Span.incs spanOf
  simp only [List.map_map]
  exact (rising_map (fun x : Nat × Nat => _) 0 _).trans (rising_sumsBy _)

/-! ### The clamp and the division -/

section
variable (s : State)

theorem uncharged_clampEvent (i : Incs) (mc : Nat) : (s.clampEvent i mc).acc.uncharged = s.acc.uncharged := by
  unfold State.clampEvent
  dsimp only
  split
  · rfl
  · rw [(State.emitLim_frame (Sub.refl _) (Frame.refl _ _) _ _ _ _ _).acc rfl]
    rfl

theorem settled_clampEvent (i : Incs) (mc k : Nat) : (s.clampEvent i mc).settled k = s.settled k := by
  unfold State.clampEvent
  dsimp only
  split
  · rfl
  · unfold State.settled
    rw [(State.emitLim_frame (Sub.refl _) (Frame.refl _ _) _ _ _ _ _).acc rfl]
    rfl

theorem acc_newCaps (l : List (Nat × Nat)) : (l.foldl (fun s x => s.newCap x.1 x.2) s).acc = s.acc := by
  induction l generalizing s with
  | nil => rfl
  | cons x xs ih => exact (ih (s.newCap x.1 x.2)).trans ((State.newCap_frame (Sub.refl _) (Frame.refl _ s) x.1 x.2).acc rfl)

theorem isD_newCaps (l : List (Nat × Nat)) : (l.foldl (fun s x => s.newCap x.1 x.2) s).isD = s.isD := by
  induction l generalizing s with
  | nil => rfl
  | cons x xs ih =>
    refine (ih (s.newCap x.1 x.2)).trans ?_
    unfold State.isD
    rw [(State.newCap_frame (Sub.refl _) (Frame.refl _ s) x.1 x.2).fuse rfl]

/-- In Glatos S the division puts caps in force and changes no account. -/
theorem acc_division {s : State} (hS : s.isD = false) (house n : Nat) (active : List Nat) (e0 e1 : SMap Nat) :
    (s.division house n active e0 e1).acc = s.acc := by
  unfold State.division
  extract_lets half bud set caps u
  have hu : u.isD = false := (isD_newCaps s caps).trans hS
  rw [if_pos (by rw [hu]; rfl)]
  exact acc_newCaps s caps

end

/-! ### RECONCILIATION (R278, R279) -/

/-- The span's increments stand in the accounts. -/
theorem addIncs_effect (s : State) (i : Incs) (mc : Nat) (hi : mrisingFrom 0 i.charge = true) :
    (s.addIncs i mc).acc.uncharged = s.acc.uncharged ∧ (s.addIncs i mc).isD = s.isD ∧
    (s.addIncs i mc).rd ACT_HOUSE = (s.rd ACT_HOUSE + i.house) % 2 ^ ACT_HOUSE.width ∧
    (s.addIncs i mc).rd ACT_RLOSS = (s.rd ACT_RLOSS + i.loss) % 2 ^ ACT_RLOSS.width ∧
    ∀ n < 512, (s.addIncs i mc).settled n = (s.settled n + mget i.charge n 0) % 2 ^ 64 ∨
      mget i.charge n 0 = 0 ∧ (s.addIncs i mc).settled n = s.settled n := by
  have hqueues (l : List (Nat × Nat)) (u : State) : l.foldl (fun s x => s.addAcct (512 + x.1) x.2) u =
      u.addAll (l.map fun x => (512 + x.1, x.2)) := by
    unfold State.addAll
    rw [List.foldl_map]
  have htenants : i.t.foldl (fun s x => s.addAcct x.1 (x.2.1 + x.2.2.1)) s = s.addAll i.charge := by
    unfold State.addAll Incs.charge
    rw [List.foldl_map]
  unfold State.addIncs
  rw [htenants]
  dsimp only
  rw [hqueues]
  have hv (f : Fld) : ((s.addAll i.charge).addAll (i.q.map fun x => (512 + x.1, x.2))).rd f = s.rd f := by
    rw [rd_addAll, rd_addAll]
  have hD : ((s.addAll i.charge).addAll (i.q.map fun x => (512 + x.1, x.2))).isD = s.isD := by
    rw [isD_addAll, isD_addAll]
  have hacc : ((s.addAll i.charge).addAll (i.q.map fun x => (512 + x.1, x.2))).acc.uncharged = s.acc.uncharged := by
    rw [uncharged_addAll, uncharged_addAll]
  have hsettled (n : Nat) (hn : n < 512) : ((s.addAll i.charge).addAll (i.q.map fun x => (512 + x.1, x.2))).settled n =
      (s.addAll i.charge).settled n := by
    refine settled_addAll_ne _ _ hn fun x hx => ?_
    obtain ⟨y, -, rfl⟩ := List.mem_map.1 hx
    exact Nat.ne_of_lt (Nat.lt_of_lt_of_le hn (Nat.le_add_right _ _))
  generalize (s.addAll i.charge).addAll (i.q.map fun x => (512 + x.1, x.2)) = v at hv hD hacc hsettled ⊢
  have hclamp (f : Fld) (hf : untouched State.clampEvent_foot f = true) (u : State) : (u.clampEvent i mc).rd f = u.rd f :=
    (State.clampEvent_frame (Sub.refl _) (Frame.refl _ u) i mc).rd_of hf 0
  refine ⟨(uncharged_clampEvent _ i mc).trans hacc, ?_, ?_, ?_, fun n hn => ?_⟩
  · refine Eq.trans ?_ hD
    unfold State.isD
    rw [(State.clampEvent_frame (Sub.refl _) (Frame.refl _ _) i mc).fuse rfl]
    rfl
  · rw [hclamp _ (by decide +kernel), State.rd_wr_sep _ _ _ _ _ _ (by decide), State.rd_wr_same, hv]
  · rw [hclamp _ (by decide +kernel), State.rd_wr_same, hv]
  · rw [settled_clampEvent]
    show v.settled n = _ ∨ _ ∧ v.settled n = _
    rw [hsettled n hn]
    exact settled_addAll s hi hn

theorem spanRecs_one {s : State} {r : MsRec} {rest : List MsRec} (hgap : s.acc.gap = false) (hwait : s.acc.wait = r :: rest)
    (hqc : r.qc.isSome = true) : s.spanRecs = [r] := by
  unfold State.spanRecs
  rw [hwait, List.takeWhile_cons_of_pos (p := fun r : MsRec => r.qc.isSome) hqc, hgap]
  rfl

/-- In Glatos S a span is charged to the accounts, and the division follows. -/
theorem chargeSpan_effect {s : State} (hS : s.isD = false) (rs : List MsRec) (mc ma : Nat) (o : Span) (b n : Nat) (held : List Nat)
    (i : Incs) (hi : (spanOf rs mc ma).incs (s.rd ACT_ACC_CTL_smax) (s.flag ACT_ACC_CTL_aux_mode) = i) :
    (s.chargeSpan (spanOf rs mc ma) o b n held).acc.uncharged = s.acc.uncharged ∧
    (s.chargeSpan (spanOf rs mc ma) o b n held).rd ACT_HOUSE = (s.rd ACT_HOUSE + i.house) % 2 ^ ACT_HOUSE.width ∧
    (s.chargeSpan (spanOf rs mc ma) o b n held).rd ACT_RLOSS = (s.rd ACT_RLOSS + i.loss) % 2 ^ ACT_RLOSS.width ∧
    ∀ k < 512, (s.chargeSpan (spanOf rs mc ma) o b n held).settled k = (s.settled k + mget i.charge k 0) % 2 ^ 64 ∨
      mget i.charge k 0 = 0 ∧ (s.chargeSpan (spanOf rs mc ma) o b n held).settled k = s.settled k := by
  obtain ⟨hacc, hD, hhouse, hloss, hsettled⟩ := addIncs_effect s i (spanOf rs mc ma).mc (hi ▸ rising_charge rs mc ma _ _)
  unfold State.chargeSpan
  dsimp only
  rw [hi, if_pos (by rw [hS]; rfl)]
  have hdiv (house n : Nat) (active : List Nat) := acc_division (hD.trans hS) house n active [] []
  have hrd (f : Fld) (hf : untouched State.division_foot f = true) (house n : Nat) (active : List Nat) :
      ((s.addIncs i (spanOf rs mc ma).mc).division house n active [] []).rd f = (s.addIncs i (spanOf rs mc ma).mc).rd f :=
    (State.division_frame (Sub.refl _) (Frame.refl _ _) house n active [] []).rd_of hf 0
  refine ⟨by rw [hdiv, hacc], by rw [hrd _ (by decide +kernel), hhouse], by rw [hrd _ (by decide +kernel), hloss], fun k hk => ?_⟩
  unfold State.settled at hsettled ⊢
  rw [hdiv]
  exact hsettled k hk

theorem reconciliation_answers : Claims.reconciliation := by
  intro r rest qc s hrun hfw hclk hS hgap hwait hqc hjobs
  refine Answers.hub rfl hrun ?_
  have hrs := spanRecs_one hgap hwait (by rw [hqc]; rfl)
  unfold Machine.reconciliation
  extract_lets rs
  have hrs' : rs = [r] := hrs
  clear_value rs
  subst hrs'
  split
  · next h => cases h
  · next last h =>
    obtain rfl : r = last := Option.some.inj h
    rw [if_neg (by simp [hfw, hclk])]
    extract_lets mc ma p first u held v w x
    have hmc : mc = acctUnits qc := congrArg acctUnits (by rw [hqc]; rfl)
    have hp : p = spanOf [r] (acctUnits qc - s.acc.mc) (acctUnits r.qa - s.acc.ma) := by
      show spanOf [r] (mc - s.acc.mc) _ = _
      rw [hmc]
    have hw : w = v := if_neg (show ¬ s.acc.gap = true by rw [hgap]; exact Bool.false_ne_true)
    have hincs : p.incs (u.rd ACT_ACC_CTL_smax) (u.flag ACT_ACC_CTL_aux_mode) = msIncs s r qc := by
      rw [hp]
      rfl
    obtain ⟨hacc, hhouse, hloss, hsettled⟩ := chargeSpan_effect (s := u) hS [r] _ _ _ r.b _ held _ hincs
    have hx : x.acc.uncharged = u.acc.uncharged := by
      rw [← hacc, show x.acc = w.acc from rfl, hw]
    have hno : x.acc.jobs = [] := (congrArg Accts.jobs hx).trans hjobs
    have hserve : x.serveJobs r.b r.fill = x := by
      unfold State.serveJobs
      rw [hno]
      simp only [List.foldl_nil, hno]
    have ht : (if x.holdsJobs then x.serveJobs r.b r.fill else x) = x := by
      rw [hserve, ite_self]
    have hrd (f : Fld) (hf : sepFld f ACT_RECON_T = true) : x.rd f = v.rd f := by
      rw [← hw]
      exact State.rd_wr_sep _ _ _ _ _ _ hf
    have hkept (k : Nat) : x.settled k = v.settled k := by
      rw [← hw]
      rfl
    have hlast : u.acc.lastM = (acctUnits qc - s.acc.mc) + (acctUnits r.qa - s.acc.ma) := by
      have hone : ¬ (decide (s.isD = true) && decide (s.pState = 2) && decide (s.pRole = 1)) = true := by simp [hS]
      refine (congrArg (p.mc + p.ma + ·) (if_neg hone)).trans ?_
      show (mc - s.acc.mc) + (ma - s.acc.ma) = _
      rw [hmc]
    rw [ht]
    refine ⟨?_, (congrArg Accts.mc hx).trans hmc, congrArg Accts.ma hx, State.rd_wr_same _ _ _ _, congrArg Accts.lastN hx, fun k hk => ?_, ?_, ?_,
      (congrArg Accts.lastM hx).trans hlast⟩
    · refine (congrArg Accts.wait hx).trans ?_
      show s.acc.wait.drop 1 = rest
      rw [hwait]
      rfl
    · rw [hkept]
      exact hsettled k hk
    · exact (hrd _ (by decide)).trans hhouse
    · exact (hrd _ (by decide)).trans hloss

/-! ### Jobs (R283, R284, R288) -/

section
variable (s : State) (k : Nat) (j : Job)

theorem job_setJob : (s.setJob k j).job k = j := by
  unfold State.setJob State.job
  rw [acc_mirror]
  exact mget_mput_same _ _ _ _

theorem rd_setJob (f : Fld) (i : Nat) : (s.setJob k j).rd f i = s.rd f i := rd_mirror _ _ _ _ f i

end

theorem jobOpen_answers : Claims.jobOpen := by
  intro d k s hrun hturn hring hkind hfree hlimit hlater
  refine Answers.opcode rfl hrun hturn ?_
  unfold Machine.jobOpen
  extract_lets kind n own mine
  have hown : own = dB d.w 10 2 := if_pos hkind
  rw [if_neg (show ¬ (d.ring < 512 ∧ kind = 1 ∧ own ≠ d.ring) from fun h => absurd h.1 (by rw [hring]; decide))]
  split
  · next h => exact absurd (hfree.symm.trans h) (by simp)
  · next k' h =>
    obtain rfl : k = k' := Option.some.inj (hfree.symm.trans h)
    have hmine : mine < s.rd ACT_ACC_CTL_jobmax := by
      show (s.acc.jobs.filter fun e => decide (e.2.state ≠ 0) && decide (e.2.tenant = own)).length < _
      rw [hown]
      exact hlimit
    rw [if_neg (show ¬ (own < 512 ∧ (picked s d).rd ACT_ACC_CTL_jobmax ≤ mine) from fun h => absurd h.2 (Nat.not_le.2 hmine))]
    extract_lets j u
    have hrecon : u.rd ACT_RECON_T = s.rd ACT_RECON_T := rd_setJob _ _ _ _ _
    rw [if_neg (by rw [hrecon]; exact fun h => absurd h.1 (Nat.not_le.2 hlater)), job_setJob]
    have hacct : acctIndex kind n = dB d.w 10 2 := if_pos hkind
    exact ⟨rfl, hacct, hown, rfl, rfl, rfl⟩

theorem jobOpenFull_answers : Claims.jobOpenFull := by
  intro d s hrun hturn hring hreports hfree
  refine Answers.opcode rfl hrun hturn ?_
  unfold Machine.jobOpen
  extract_lets kind n own mine
  rw [if_neg (show ¬ (d.ring < 512 ∧ kind = 1 ∧ own ≠ d.ring) from fun h => absurd h.1 (by rw [hring]; decide))]
  split
  · exact ⟨Completed.before_picked (complete_completed (Reports.picked hreports)), (complete_same _ _ _ _).2.1⟩
  · next j hj => exact absurd (hfree.symm.trans hj) (by simp)

/-- The record a close names, where it is in use, of the handle's generation and not closing. -/
theorem jobClose_eq {d : Desc} {s : State} (hring : d.ring = stewardRing) (hstate : (s.job (dB d.w 8 2 % 1024)).state ≠ 0)
    (hclose : (s.job (dB d.w 8 2 % 1024)).close = none) (hgen : (s.job (dB d.w 8 2 % 1024)).gen % 64 = dB d.w 8 2 / 1024)
    (hlater : (s.job (dB d.w 8 2 % 1024)).state = 2 → s.rd ACT_RECON_T < nextMs d.t) :
    (Machine.jobClose d s).job (dB d.w 8 2 % 1024) = { s.job (dB d.w 8 2 % 1024) with
      state := if (s.job (dB d.w 8 2 % 1024)).state = 1 then 1 else 3, close := some d, b1 := nextMs d.t } := by
  unfold Machine.jobClose
  extract_lets h k j u
  have hopen : ¬ (j.state = 0 ∨ j.close.isSome = true ∨ j.gen % 64 ≠ h / 1024 ∨ (d.ring < 512 ∧ j.tenant ≠ d.ring)) := by
    rintro (h | h | h | ⟨h, -⟩)
    · exact hstate h
    · exact absurd (hclose ▸ h : (none : Option Desc).isSome = true) (by decide)
    · exact h hgen
    · exact absurd h (by rw [hring]; decide)
  have hwaits : ¬ (j.state = 2 ∧ nextMs d.t ≤ u.rd ACT_RECON_T) := by
    rintro ⟨h2, hle⟩
    rw [show u.rd ACT_RECON_T = s.rd ACT_RECON_T from rd_setJob _ _ _ _ _] at hle
    exact absurd hle (Nat.not_le.2 (hlater h2))
  rw [if_neg hopen, if_neg hwaits]
  exact job_setJob _ _ _

theorem jobClose_answers : Claims.jobClose := by
  intro d s hrun hturn hring hstate hclose hgen hlater
  refine Answers.opcode rfl hrun hturn ?_
  have hstate' : (s.job (dB d.w 8 2 % 1024)).state ≠ 0 := by rw [hstate]; decide
  have hthree : (if ((picked s d).job (dB d.w 8 2 % 1024)).state = 1 then 1 else 3) = 3 :=
    if_neg (show ¬ (s.job (dB d.w 8 2 % 1024)).state = 1 by rw [hstate]; decide)
  have hclosing := jobClose_eq (s := picked s d) hring hstate' hclose hgen fun _ => hlater
  rw [hthree] at hclosing
  exact hclosing

theorem jobCloseRefused_answers : Claims.jobCloseRefused := by
  intro d s hrun hturn hreports hwhy
  refine Answers.opcode rfl hrun hturn ?_
  have hrefused : Machine.jobClose d (picked s d) = (picked s d).complete d 0x0302 [] := by
    refine if_pos ?_
    rcases hwhy with h | h | h
    · exact .inl h
    · exact .inr (.inr (.inl h))
    · exact .inr (.inl h)
  rw [hrefused]
  exact ⟨Completed.before_picked (complete_completed (Reports.picked hreports)), (complete_same _ _ _ _).2.1⟩

theorem jobCloseOpening_answers : Claims.jobCloseOpening := by
  intro d s hrun hturn hring hstate hclose hgen
  refine Answers.opcode rfl hrun hturn ?_
  have hstate' : (s.job (dB d.w 8 2 % 1024)).state ≠ 0 := by rw [hstate]; decide
  have hone : (if ((picked s d).job (dB d.w 8 2 % 1024)).state = 1 then 1 else 3) = (s.job (dB d.w 8 2 % 1024)).state :=
    (if_pos (show (s.job (dB d.w 8 2 % 1024)).state = 1 from hstate)).trans hstate.symm
  have hclosing := jobClose_eq (s := picked s d) hring hstate' hclose hgen fun h => absurd (hstate.symm.trans h) (by decide)
  rw [hone] at hclosing
  exact hclosing

/-! ### Energy reads and caps (R273, R282) -/

theorem readEnergy_answers : Claims.readEnergy := by
  intro d s hrun hturn hreports
  refine Answers.opcode rfl hrun hturn ?_
  exact ⟨(complete_same _ _ _ _).2.1, Completed.before_picked (complete_completed (Reports.picked hreports))⟩

theorem setTenantCap_answers : Claims.setTenantCap := by
  intro d s hrun hturn hreports hrange
  refine Answers.opcode rfl hrun hturn ?_
  have hrd (f : Fld) (i : Nat) (hf : sepFld f ACT_TSET = true) :
      ((picked s d).wr ACT_TSET (dB d.w 8 2) (dB d.w 12 4)).rd f i = s.rd f i := State.rd_wr_sep _ _ _ _ _ _ hf
  have hflds (f : Fld) (hf : f ∈ completionFlds) : ((picked s d).wr ACT_TSET (dB d.w 8 2) (dB d.w 12 4)).rd f = (picked s d).rd f := by
    simp only [completionFlds, List.mem_cons, List.not_mem_nil, or_false] at hf
    rcases hf with rfl | rfl | rfl | rfl <;> exact hrd _ 0 (by decide)
  obtain ⟨-, -, -, hmirror, -⟩ := Reports.congr (u := (picked s d).wr ACT_TSET (dB d.w 8 2) (dB d.w 12 4))
    (Reports.picked hreports) rfl rfl rfl hflds
  unfold Machine.setTenantCap
  dsimp only
  rw [mirror_of_not hmirror]
  refine ⟨?_, Completed.before_picked (complete_completed_after (Reports.picked hreports) rfl rfl rfl (List.prefix_refl _) hflds)⟩
  rw [rd_complete, State.rd_wr_same]
  exact Nat.mod_eq_of_lt (dB_lt _ _ _)

/-- Settles O12. -/
theorem accounts : Obligations.Accounts :=
  ⟨reconciliation_answers, jobOpen_answers, jobOpenFull_answers, jobClose_answers, jobCloseRefused_answers, jobCloseOpening_answers,
    readEnergy_answers, setTenantCap_answers⟩

end Sys2Proof.Machine
end

section
/-!
PROOF. The commands of the slates: opening, staging, abandoning, checking (R303, R318 to R323).
-/
namespace Sys2Proof.Machine
open Sys2Proof.Claims

set_option Elab.async false

/-! ### Settings across a frame -/

/-- The footprint holds no field that a take writes. -/
def keepsSettings (m : Nat) : Bool :=
  (List.range 24).all fun u => (unitFlds u).all fun f => !decide (f.acc = .rwt) || untouched m f

theorem unitFlds_of_le {u : Nat} (hu : 24 ≤ u) : unitFlds u = [] := by
  obtain ⟨k, rfl⟩ := Nat.exists_eq_add_of_le hu
  rw [Nat.add_comm]
  rfl

theorem Frame.rwtWord {m : Nat} {s t : State} (h : Frame m s t) (hm : keepsSettings m = true) (o : Nat) : t.rwtWord o = s.rwtWord o := by
  unfold State.rwtWord
  refine congrArg sumN (List.map_congr_left fun x hx => ?_)
  obtain ⟨hmem, hacc⟩ := List.mem_filter.1 hx
  obtain ⟨f, hf, hi⟩ := List.mem_flatMap.1 hmem
  obtain ⟨i, -, rfl⟩ := List.mem_map.1 hi
  have hunit : unitOf o < 24 := by
    by_contra hle
    rw [unitFlds_of_le (Nat.le_of_not_lt hle)] at hf
    cases hf
  have hall := List.all_eq_true.1 (List.all_eq_true.1 hm _ (List.mem_range.2 hunit)) f hf
  rw [of_decide_eq_true hacc] at hall
  rw [h.rd_of (by simpa using hall)]

/-- A completion written after changes that a footprint bounds. -/
theorem complete_completed_frame {m : Nat} {s u : State} {d : Desc} {status : Nat} {ps : List (Nat × Nat × Nat)} (h : Reports s d)
    (hframe : Frame m s u) (hflds : completionFlds.all (untouched m) = true) (hcomps : m &&& 0xa0000088 = 0) :
    Completed s (u.complete d status ps) d status ps := by
  have hbit (n : Nat) (hn : (0xa0000088 : Nat).testBit n = true) : m.testBit n = false := by
    have hand : (m &&& 0xa0000088).testBit n = false := by rw [hcomps, Nat.zero_testBit]
    rw [Nat.testBit_and, hn, Bool.and_true] at hand
    exact hand
  refine complete_completed_after h (hframe.hif (hbit 29 rfl)) (hframe.par (hbit 31 rfl)) (hframe.fuse (hbit 3 rfl))
    (hframe.out (hbit 7 rfl) ▸ List.prefix_refl _) fun f hf => ?_
  exact hframe.rd_of (List.all_eq_true.1 hflds f hf) 0

/-! ### The slates as shown (R334) -/

section
variable (s : State) (k : Nat)

theorem slt_showSlates : s.showSlates.slt = s.slt := (State.showSlates_frame (Sub.refl _) (Frame.refl _ s)).slt rfl

/-- The registers of one slate. -/
def State.showSlate (s : State) (k : Nat) : State :=
  (((s.wr SLT_SLATE_state k (s.slate k).state).wr SLT_SLATE_thm k (b2n (s.slate k).thm)).wr SLT_SLATE_gen k (s.slate k).gen).wr
    SLT_SLATE_lines k (min 65535 (s.slate k).lines)

theorem rd_showSlate_state_same : (s.showSlate k).rd SLT_SLATE_state k = (s.slate k).state % 2 ^ SLT_SLATE_state.width := by
  unfold State.showSlate
  simp (disch := decide) only [State.rd_wr_sep, State.rd_wr_same]

theorem rd_showSlate_state_ne {j : Nat} (hj : j < 8) (hk : k < 8) (hne : k ≠ j) :
    (s.showSlate j).rd SLT_SLATE_state k = s.rd SLT_SLATE_state k := by
  unfold State.showSlate
  simp (disch := decide) only [State.rd_wr_sep]
  exact State.rd_wr_idx _ _ _ (by decide) hj hk hne

theorem rd_showSlates_fold (hk : k < 8) {l : List Nat} (hl : ∀ j ∈ l, j < 8) : (l.foldl State.showSlate s).rd SLT_SLATE_state k =
    if k ∈ l then (s.slate k).state % 2 ^ SLT_SLATE_state.width else s.rd SLT_SLATE_state k := by
  induction l generalizing s with
  | nil => rfl
  | cons j js ih =>
    rw [List.foldl_cons, ih (s.showSlate j) fun q hq => hl q (List.mem_cons_of_mem _ hq)]
    have hslate : (s.showSlate j).slate k = s.slate k := rfl
    by_cases hjs : k ∈ js
    · rw [if_pos hjs, if_pos (List.mem_cons_of_mem _ hjs), hslate]
    · rw [if_neg hjs]
      by_cases hkj : k = j
      · subst hkj
        rw [if_pos (List.mem_cons_self ..), rd_showSlate_state_same]
      · rw [if_neg (by simp [hkj, hjs]), rd_showSlate_state_ne s k (hl j (List.mem_cons_self ..)) hk hkj]

theorem rd_showSlates_state (hk : k < 8) : s.showSlates.rd SLT_SLATE_state k = (s.slate k).state % 2 ^ SLT_SLATE_state.width := by
  have hfold := rd_showSlates_fold s k hk (l := List.range 8) fun j hj => List.mem_range.1 hj
  rw [if_pos (List.mem_range.2 hk)] at hfold
  unfold State.showSlates
  extract_lets u v w x
  have hu : u.rd SLT_SLATE_state k = (s.slate k).state % 2 ^ SLT_SLATE_state.width := hfold
  clear_value u
  simp (disch := decide) only [v, w, x, State.rd_wr_sep]
  exact hu

theorem slate_setSlateRaw (x : Slate) : (s.setSlateRaw k x).slate k = x := mget_mput_same _ _ _ _

theorem slate_of_slt {s t : State} (h : t.slt = s.slt) (k : Nat) : t.slate k = s.slate k := by
  unfold State.slate
  rw [h]

theorem slate_setSlate (x : Slate) : (s.setSlate k x).slate k = x := by
  unfold State.setSlate
  rw [slate_of_slt (slt_showSlates _), slate_of_slt ((State.mirror_frame (Sub.refl _) (Frame.refl _ _) _ _ _).slt rfl)]
  exact slate_setSlateRaw s k x

/-- Without a secondary to tell, a slate changes here alone. -/
theorem setSlate_of_not_mirroring {s : State} (h : s.mirroring = false) (k : Nat) (x : Slate) :
    s.setSlate k x = (s.setSlateRaw k x).showSlates := by
  unfold State.setSlate
  rw [mirror_of_not (s := s.setSlateRaw k x) h]

end

/-- The footprint of a slate changed where nothing is mirrored. -/
def slateFoot : Nat := State.showSlates_foot ||| 0x40000000

theorem sub_slateFoot : Sub State.showSlates_foot slateFoot ∧ Sub State.setSlateRaw_foot slateFoot := by
  unfold Sub
  decide

/-- A slate is changed and shown. -/
def State.slateShown (s : State) (k : Nat) (x : Slate) : State := (s.setSlateRaw k x).showSlates

theorem slateShown_frame (s : State) (k : Nat) (x : Slate) : Frame slateFoot s (s.slateShown k x) :=
  State.showSlates_frame sub_slateFoot.1 (State.setSlateRaw_frame sub_slateFoot.2 (Frame.refl _ s) k x)

theorem slateFoot_completes : completionFlds.all (untouched slateFoot) = true ∧ slateFoot &&& 0xa0000088 = 0 := by
  constructor <;> decide +kernel

theorem slateFoot_keepsSettings : keepsSettings slateFoot = true := by decide +kernel

theorem slate_slateShown (s : State) (k : Nat) (x : Slate) : (s.slateShown k x).slate k = x :=
  (slate_of_slt (slt_showSlates _) k).trans (slate_setSlateRaw s k x)

theorem slateShown_completed {s : State} {d : Desc} (h : Reports s d) (k : Nat) (x : Slate) {status : Nat} {ps : List (Nat × Nat × Nat)} :
    Completed s ((s.slateShown k x).complete d status ps) d status ps :=
  complete_completed_frame h (slateShown_frame s k x) slateFoot_completes.1 slateFoot_completes.2

theorem slate_complete (s : State) (d : Desc) (status : Nat) (ps : List (Nat × Nat × Nat)) (k : Nat) :
    (s.complete d status ps).slate k = s.slate k := slate_of_slt (complete_same s d status ps).2.2.1 k

/-! ### SLATE_OPEN (R318) -/

theorem slateOpen_answers : Claims.slateOpen := by
  intro d k s hrun hturn hreports hfree
  refine Answers.opcode rfl hrun hturn ?_
  have hk : k < 8 := List.mem_range.1 (List.mem_of_find?_eq_some hfree)
  unfold Machine.slateOpen
  split
  · next h => exact absurd (hfree.symm.trans h) (by simp)
  · next h =>
    obtain rfl := Option.some.inj (hfree.symm.trans h)
    rw [setSlate_of_not_mirroring (Reports.picked hreports).2.2.2.1]
    have hslate := slate_slateShown (picked s d) k { state := 1, gen := (((picked s d).slate k).gen + 1) % 8192 }
    have hhandle : ((picked s d).slateShown k { state := 1, gen := (((picked s d).slate k).gen + 1) % 8192 }).handleOf k =
        k + 8 * (((s.slate k).gen + 1) % 8192) := by
      unfold State.handleOf
      rw [hslate]
      show k + 8 * ((((s.slate k).gen + 1) % 8192) % 8192) = _
      rw [Nat.mod_mod]
    have hdone := slateShown_completed (Reports.picked hreports) k { state := 1, gen := (((picked s d).slate k).gen + 1) % 8192 }
      (status := 0) (ps := [(8, 2, k + 8 * (((s.slate k).gen + 1) % 8192))])
    refine ⟨?_, ?_, ?_⟩
    · rw [slate_complete]
      exact hslate
    · rw [rd_complete, rd_showSlates_state _ _ hk, slate_setSlateRaw]
      rfl
    · show Completed s (((picked s d).slateShown k _).complete d 0 [(8, 2, ((picked s d).slateShown k _).handleOf k)]) d 0 _
      rw [hhandle]
      exact Completed.before_picked hdone

theorem slateOpenFull_answers : Claims.slateOpenFull := by
  intro d s hrun hturn hreports hfull
  refine Answers.opcode rfl hrun hturn ?_
  unfold Machine.slateOpen
  split
  · exact ⟨Completed.before_picked (complete_completed (Reports.picked hreports)), (complete_same _ _ _ _).2.2.1⟩
  · next h => exact absurd (hfull.symm.trans h) (by simp)

/-! ### SLATE_WRITE (R303, R319) -/

theorem take_leBytes (n m x : Nat) : (leBytes (n + m) x).take n = leBytes n x := by
  induction n generalizing x with
  | zero => simp [leBytes]
  | succ n ih =>
    rw [Nat.succ_add]
    show BitVec.ofNat 8 x :: (leBytes (n + m) (x / 256)).take n = BitVec.ofNat 8 x :: leBytes n (x / 256)
    rw [ih]

/-- A word of a register table is staged where the store has room. -/
theorem stageWrite_word {s : State} {k idx v i : Nat} {bs : List Byte} (hok : s.tableOk 1 idx 4 = some (v, i, 1)) (hroom : s.linesUsed < 65536) :
    s.stageWrite k 1 idx 4 bs = (s.slateShown k { s.slate k with regs := mput (s.slate k).regs (i * 4 + v) (leNat (bs.take 4)) }, 0) := by
  have hlines : (s.slate k).newLines 1 v i 1 ≤ 1 := List.length_filter_le _ _
  unfold State.stageWrite
  rw [hok]
  dsimp only
  rw [if_neg (show ¬ (decide (3 ≤ 1) && decide (1 ≤ 5) && s.slt.slates.any fun e => decide (e.1 ≠ k) && e.2.thm) = true from
    Bool.false_ne_true), if_neg (show ¬ 65536 < s.linesUsed + (s.slate k).newLines 1 v i 1 by omega)]
  rfl

theorem mirrorWrite_of_not {s : State} (h : s.mirroring = false) {k table idx unit : Nat} {data : List Byte} :
    s.mirrorWrite k table idx unit data = s := if_pos (by rw [h]; rfl)

theorem slateWrite_answers : Claims.slateWrite := by
  intro data d k v i s hrun hturn hreports hinline htable hlen hslate hopen hok hroom
  refine Answers.opcode rfl hrun hturn ?_
  have hword : leNat ((leBytes 32 (dB d.w 32 32) ++ List.replicate 4 0).take 4) = dB d.w 32 4 := by
    rw [List.take_append_of_le_length (by rw [length_leBytes]; decide), take_leBytes 4 28, Tests.leNat_leBytes]
    exact Nat.mod_mod_of_dvd _ (by decide)
  have heq : Machine.slateWrite data d (picked s d) = ((picked s d).slateShown k
      { s.slate k with regs := mput (s.slate k).regs (i * 4 + v) (dB d.w 32 4) }).complete d 0 [] := by
    have hmirror : ((picked s d).slateShown k { s.slate k with regs := mput (s.slate k).regs (i * 4 + v) (dB d.w 32 4) }).mirroring = false := by
      have hframe := slateShown_frame (picked s d) k { s.slate k with regs := mput (s.slate k).regs (i * 4 + v) (dB d.w 32 4) }
      exact (Reports.congr (Reports.picked hreports) (hframe.hif rfl) (hframe.par rfl) (hframe.fuse rfl) fun f hf =>
        hframe.rd_of (List.all_eq_true.1 slateFoot_completes.1 f hf) 0).2.2.2.1
    unfold Machine.slateWrite
    extract_lets w len src bs fits u
    have hbs : leNat (bs.take 4) = dB d.w 32 4 := by
      have hsrc : src = leBytes 32 (dB d.w 32 32) := if_pos hinline
      show leNat (((src ++ List.replicate len 0).take len).take 4) = _
      rw [hsrc, show len = 4 from hlen, List.take_take]
      exact hword
    split
    · next h => exact absurd (hslate.symm.trans h) (by simp)
    · next h =>
      obtain rfl := Option.some.inj (hslate.symm.trans h)
      rw [if_neg (not_not.2 (show ((picked s d).slate k).state = 1 from hopen))]
      extract_lets staged v'
      have hu : u = picked s d := if_neg (by simp [w, hinline])
      have hstaged : staged = ((picked s d).slateShown k
          { s.slate k with regs := mput (s.slate k).regs (i * 4 + v) (dB d.w 32 4) }, 0) := by
        show u.stageWrite k (dB d.w 10 2) (dB d.w 12 4) (dB d.w 16 4) bs = _
        rw [hu, htable, hlen, stageWrite_word (s := picked s d) hok hroom, hbs]
        rfl
      have hv' : v' = (picked s d).slateShown k { s.slate k with regs := mput (s.slate k).regs (i * 4 + v) (dB d.w 32 4) } := by
        show (if staged.2 = 0 then staged.1.mirrorWrite k (dB w 10 2) (dB w 12 4) ((tableShape (dB w 10 2)).getD (4, 0)).1 bs else u) = _
        rw [hstaged]
        exact mirrorWrite_of_not hmirror
      rw [hv', hstaged]
  rw [heq]
  refine ⟨?_, ?_, ?_, Completed.before_picked (slateShown_completed (Reports.picked hreports) k _)⟩
  · rw [slate_complete, slate_slateShown]
    exact mfind_mput_same _ _ _
  · rw [slate_complete, slate_slateShown]
    exact hopen
  · rw [(State.complete_frame (Sub.refl _) (Frame.refl _ _) d 0 []).rwtWord (by decide +kernel),
      (slateShown_frame (picked s d) k _).rwtWord slateFoot_keepsSettings]
    rfl

theorem slateWriteRefused_answers : Claims.slateWriteRefused := by
  intro data d k s hrun hturn hreports hslate hopen hbad
  refine Answers.opcode rfl hrun hturn ?_
  have heq : Machine.slateWrite data d (picked s d) = (picked s d).complete d 0x0105 [] := by
    unfold Machine.slateWrite
    extract_lets w len src bs fits u
    split
    · next h => exact absurd (hslate.symm.trans h) (by simp)
    · next h =>
      obtain rfl := Option.some.inj (hslate.symm.trans h)
      rw [if_neg (not_not.2 (show ((picked s d).slate k).state = 1 from hopen))]
      have hbad' : (picked s d).tableOk (dB w 10 2) (dB w 12 4) len = none := hbad
      extract_lets staged v
      have hu : u = picked s d := if_neg (by simp [fits, hbad'])
      have hstaged : staged = (picked s d, 0x0105) := by
        show u.stageWrite k (dB w 10 2) (dB w 12 4) len bs = _
        rw [hu]
        unfold State.stageWrite
        rw [hbad']
      have hv : v = picked s d := by
        show (if staged.2 = 0 then _ else u) = _
        rw [hstaged, if_neg (show ¬ 0x0105 = 0 by decide), hu]
      rw [hv, hstaged]
  rw [heq]
  exact ⟨Completed.before_picked (complete_completed (Reports.picked hreports)), (complete_same _ _ _ _).2.2.1⟩

/-! ### ABANDON (R322) -/

/-- The footprint of a slate freed, with any staged thermal copy, where nothing is mirrored. -/
def slateFreedFoot : Nat := slateFoot ||| 0x10000000

theorem slateFreedFoot_completes : completionFlds.all (untouched slateFreedFoot) = true ∧ slateFreedFoot &&& 0xa0000088 = 0 := by
  constructor <;> decide +kernel

/-- The staged thermal copy goes with the slate that holds it (R208). -/
def State.copyReleased (s : State) (k : Nat) : State :=
  if (s.slate k).thm then s.setThm { s.thm with staged := none } else s

theorem freeSlate_eq {s : State} (h : s.mirroring = false) (k : Nat) :
    s.freeSlate k = (s.copyReleased k).slateShown k { gen := (s.slate k).gen } := by
  have hmirror : (s.copyReleased k).mirroring = false := by
    unfold State.copyReleased
    split <;> exact h
  unfold State.freeSlate
  exact setSlate_of_not_mirroring (s := s.copyReleased k) hmirror k _

theorem freeSlate_frame {s : State} (h : s.mirroring = false) (k : Nat) : Frame slateFreedFoot s (s.freeSlate k) := by
  rw [freeSlate_eq h]
  have hcopy : Frame slateFreedFoot s (s.copyReleased k) := by
    unfold State.copyReleased
    split
    · exact State.setThm_frame (show _ &&& _ = _ by decide) (Frame.refl _ s) _
    · exact Frame.refl _ s
  exact State.showSlates_frame (show _ &&& _ = _ by decide) (State.setSlateRaw_frame (show _ &&& _ = _ by decide) hcopy k _)

theorem abandon_answers : Claims.abandon := by
  intro d k s hrun hturn hreports hslate hopen
  refine Answers.opcode rfl hrun hturn ?_
  have heq : Machine.abandon d (picked s d) = (((picked s d).freeSlate k).emit 6 6 [s.handleOf k, 0]).complete d 0 [] := by
    unfold Machine.abandon
    split
    · next h => exact absurd (hslate.symm.trans h) (by simp)
    · next h =>
      obtain rfl := Option.some.inj (hslate.symm.trans h)
      exact if_pos hopen
  rw [heq]
  have hframe := freeSlate_frame (Reports.picked hreports).2.2.2.1 k
  refine ⟨?_, Completed.before_picked (complete_completed_frame (m := slateFreedFoot ||| State.emit_foot) (Reports.picked hreports)
    (State.emit_frame (show _ &&& _ = _ by decide) (hframe.mono (show _ &&& _ = _ by decide)) 6 6 _) (by decide +kernel) (by decide)), ?_⟩
  · rw [slate_complete, slate_of_slt ((State.emit_frame (Sub.refl _) (Frame.refl _ _) _ _ _).slt rfl),
      freeSlate_eq (Reports.picked hreports).2.2.2.1, slate_slateShown]
    rfl
  · exact ((State.emit_recorded ((picked s d).freeSlate k) 6 6 [s.handleOf k, 0]).before (hframe.recd rfl) (hframe.ts rfl)).after
      (complete_same _ _ _ _).2.2.2.2.1

theorem abandonHandle_answers : Claims.abandonHandle := by
  intro d s hrun hturn hreports hslate
  refine Answers.opcode rfl hrun hturn ?_
  unfold Machine.abandon
  split
  · exact ⟨Completed.before_picked (complete_completed (Reports.picked hreports)), (complete_same _ _ _ _).2.2.1⟩
  · next h => exact absurd (hslate.symm.trans h) (by simp)

/-! ### SLATE_CHECK (R323) -/

/-- A completion that is written at once changes no register. -/
theorem regs_complete {s : State} {d : Desc} {status : Nat} {ps : List (Nat × Nat × Nat)} (h : Reports s d) :
    (s.complete d status ps).regs = s.regs := by
  have hfetch (u : State) (r : Nat) : (u.fetchOne r).regs = u.regs := by
    unfold State.fetchOne
    split <;> rfl
  have hwrite (u : State) (r tag status op : Nat) (res : List Byte) (notify : Bool) :
      (u.writeCompletion r tag status op res notify).regs = u.regs := by
    unfold State.writeCompletion
    dsimp only
    split <;> rfl
  have hland : (s.landed d).regs = s.regs := by
    unfold State.landed State.landAt
    dsimp only
    split
    · split <;> rfl
    · rfl
  unfold State.complete
  rw [completeAs_reports h]
  unfold State.tryFetch
  rw [hfetch, hfetch, hwrite, hland]

/-- A check of an open slate. -/
theorem slateCheck_eq {d : Desc} {k : Nat} {s : State} (hslate : s.slateOf (dB d.w 8 2) = some k) (hopen : (s.slate k).state = 1) :
    Machine.slateCheck d s = match s.checkShadow (s.shadowOf (s.slate k)) with
      | some f => (s.refuseSlate (s.handleOf k) f (s.rd GEN_CFG_die)).complete d 0x0106 (refusal f)
      | none => s.complete d 0 [] := by
  unfold Machine.slateCheck
  split
  · next h => exact absurd (hslate.symm.trans h) (by simp)
  · next h =>
    obtain rfl := Option.some.inj (hslate.symm.trans h)
    exact if_neg (not_not.2 hopen)

theorem slateCheck_answers : Claims.slateCheck := by
  intro d k s hrun hturn hreports hslate hopen hcheck
  refine Answers.opcode rfl hrun hturn ?_
  have heq : Machine.slateCheck d (picked s d) = (picked s d).complete d 0 [] := by
    rw [slateCheck_eq (s := picked s d) hslate hopen]
    split
    · next h => exact absurd (hcheck.symm.trans h) (by simp)
    · rfl
  rw [heq]
  exact ⟨Completed.before_picked (complete_completed (Reports.picked hreports)), (complete_same _ _ _ _).2.2.1,
    regs_complete (Reports.picked hreports)⟩

theorem slateCheckRefused_answers : Claims.slateCheckRefused := by
  intro d k f s hrun hturn hreports hslate hopen hcheck
  refine Answers.opcode rfl hrun hturn ?_
  have heq : Machine.slateCheck d (picked s d) =
      ((picked s d).refuseSlate (s.handleOf k) f (s.rd GEN_CFG_die)).complete d 0x0106 (refusal f) := by
    rw [slateCheck_eq (s := picked s d) hslate hopen]
    split
    · next h =>
      obtain rfl := Option.some.inj (hcheck.symm.trans h)
      rfl
    · next h => exact absurd (hcheck.symm.trans h) (by simp)
  rw [heq]
  have hframe := State.emit_frame (Sub.refl _) (Frame.refl _ (picked s d)) 6 2 [s.handleOf k, f.1, f.2, s.rd GEN_CFG_die]
  refine ⟨Completed.before_picked (complete_completed_frame (Reports.picked hreports) hframe (by decide +kernel) (by decide)), ?_, ?_⟩
  · rw [(complete_same _ _ _ _).2.2.1]
    exact hframe.slt rfl
  · exact ((State.emit_recorded (picked s d) 6 2 _).before rfl rfl).after (complete_same _ _ _ _).2.2.2.2.1

/-- Settles O18. -/
theorem slateCommands : Obligations.SlateCommands :=
  ⟨slateOpen_answers, slateOpenFull_answers, slateWrite_answers, slateWriteRefused_answers, abandon_answers, abandonHandle_answers,
    slateCheck_answers, slateCheckRefused_answers⟩

end Sys2Proof.Machine
end

section
/-!
PROOF. The doorbells and the fetching of descriptors (R292 to R296, R300, R310 to R313).
-/
namespace Sys2Proof.Machine
open Sys2Proof.Claims

set_option Elab.async false

/-- What is recorded stays recorded while records only join the queue. -/
theorem Recorded.framed {m : Nat} {s t u : State} {unit idx : Nat} {ps : List Nat} (h : Recorded s t unit idx ps) (hframe : Frame m t u)
    (hm : m.testBit 4 = false) : Recorded s u unit idx ps := fun hroom =>
  have ⟨x, hx, hcode, hparams, hts⟩ := h hroom
  ⟨x, (hframe.queue hm).subset hx, hcode, hparams, hts⟩

/-! ### The rings' states -/

theorem ring_of_hif {s t : State} (h : t.hif = s.hif) (q : Nat) : t.ring q = s.ring q := by
  unfold State.ring
  rw [h]

section
variable (s : State) (r : Nat)

theorem ring_emit (unit idx : Nat) (ps : List Nat) (q : Nat) : (s.emit unit idx ps).ring q = s.ring q :=
  ring_of_hif ((State.emit_frame (Sub.refl _) (Frame.refl _ s) unit idx ps).hif rfl) q

theorem ring_emitLim (unit idx scope span : Nat) (ps : List Nat) (q : Nat) : (s.emitLim unit idx scope span ps).ring q = s.ring q :=
  ring_of_hif ((State.emitLim_frame (Sub.refl _) (Frame.refl _ s) unit idx scope span ps).hif rfl) q

theorem ring_mirror (obj idx : Nat) (data : List Byte) (q : Nat) : (s.mirror obj idx data).ring q = s.ring q :=
  ring_of_hif ((State.mirror_frame (Sub.refl _) (Frame.refl _ s) obj idx data).hif rfl) q

theorem ring_setRState (st : Nat) : (s.setRState r st).ring r = { s.ring r with st := st } := by
  unfold State.setRState
  dsimp only
  split
  · exact ring_setRing_same _ _ _
  · exact ring_setRing_same _ _ _

/-- One fetch counts itself among the ring's reads. -/
theorem ring_fetchOne : (s.fetchOne r).ring r = { s.ring r with reads := ((s.fetchOne r).ring r).reads } := by
  unfold State.fetchOne
  split
  · rw [ring_send, ring_setRing_same]
  · rfl

theorem ring_tryFetch : (s.tryFetch r).ring r = { s.ring r with reads := ((s.tryFetch r).ring r).reads } := by
  unfold State.tryFetch
  rw [ring_fetchOne (s.fetchOne r) r, ring_fetchOne s r]

/-- A ring whose bucket is full is quarantined (R311). -/
def BucketFull (s : State) (r : Nat) : Prop :=
  r < 512 ∧ ((s.ring r).st = 1 ∨ (s.ring r).st = 2) ∧ s.rd HIF_QLIM_limit ≤ (s.ring r).bucket

theorem ring_quarCheck : ∃ st, (s.quarCheck r).ring r = { s.ring r with st := st } ∧ (st = 3 ∨ st = (s.ring r).st) ∧
    (BucketFull s r → st = 3) := by
  unfold State.quarCheck
  extract_lets x
  split
  · exact ⟨3, by rw [ring_emit, ring_setRState], Or.inl rfl, fun _ => rfl⟩
  · next hopen => exact ⟨(s.ring r).st, rfl, Or.inr rfl, fun hfull => absurd hfull hopen⟩

end

/-! ### Violations (R310) -/

/-- The bucket of a ring once a violation has filled it. -/
def State.filled (s : State) (r : Nat) : Nat := if r < 512 then min 255 ((s.ring r).bucket + 1) else 0

section
variable (s : State) (r kind v : Nat)

theorem ringViol_eq : s.ringViol r kind v =
    (((s.setRing r { s.ring r with viol := ((s.ring r).viol + 1) % 65536, bucket := s.filled r }).bump HIF_STAT_viol).emitLim 5 2 r msT
      [r, kind, v, s.filled r]).quarCheck r := rfl

theorem ring_ringViol : ∃ st, (s.ringViol r kind v).ring r =
      { s.ring r with viol := ((s.ring r).viol + 1) % 65536, bucket := s.filled r, st := st } ∧
    (st = 3 ∨ st = (s.ring r).st) ∧ (r < 512 → ((s.ring r).st = 1 ∨ (s.ring r).st = 2) → s.rd HIF_QLIM_limit ≤ s.filled r → st = 3) := by
  rw [ringViol_eq]
  obtain ⟨st, hring, hkept, hst⟩ := ring_quarCheck (((s.setRing r { s.ring r with viol := ((s.ring r).viol + 1) % 65536, bucket := s.filled r }).bump
    HIF_STAT_viol).emitLim 5 2 r msT [r, kind, v, s.filled r]) r
  rw [ring_emitLim] at hring hkept
  have hst₀ : ((s.setRing r { s.ring r with viol := ((s.ring r).viol + 1) % 65536, bucket := s.filled r }).ring r).st = (s.ring r).st := by
    rw [ring_setRing_same]
  refine ⟨st, hring.trans ?_, hkept.imp_right fun h => h.trans hst₀, fun hr hopen hfull => hst ⟨hr, ?_, ?_⟩⟩
  · show { (State.ring (s.setRing r _) r) with st := st } = _
    rw [ring_setRing_same]
  · rw [ring_emitLim]
    show (State.ring (s.setRing r _) r).st = 1 ∨ (State.ring (s.setRing r _) r).st = 2
    rw [ring_setRing_same]
    exact hopen
  · rw [ring_emitLim, State.rd_emitLim _ _ _ _ _ _ _ _ (by decide), State.rd_bump_sep _ _ _ _ _ (by decide)]
    show _ ≤ (State.ring (s.setRing r _) r).bucket
    rw [ring_setRing_same]
    exact hfull

theorem rd_ringViol_viol : (s.ringViol r kind v).rd HIF_STAT_viol = (s.rd HIF_STAT_viol + 1) % 2 ^ HIF_STAT_viol.width := by
  rw [ringViol_eq, (State.quarCheck_frame (Sub.refl _) (Frame.refl _ _) _).rd_of (by decide +kernel),
    State.rd_emitLim _ _ _ _ _ _ _ _ (by decide), State.rd_bump_same]
  rfl

theorem ringViol_recorded (hlimit : mget s.recd.last (evCode 5 2 * 2 ^ 16 + r) 0 ≠ s.ts / msT + 1) :
    Recorded s (s.ringViol r kind v) 5 2 [r, kind, v, s.filled r] := by
  rw [ringViol_eq]
  refine Recorded.framed ?_ (State.quarCheck_frame (Sub.refl _) (Frame.refl _ _) r) rfl
  exact Recorded.before (State.emitLim_recorded _ _ _ _ _ _ hlimit) rfl rfl

end

/-! ### Pages (R292, R293) -/

section
variable {off : BitVec 22} {r : Fin 513} {o : Nat} {s : State}

theorem dbPage_at (h : AtPage off r o) : dbPage off.toNat = some r.val ∧ off.toNat % 4096 = o := by
  obtain ⟨hoff, ho⟩ := h
  have hr := r.isLt
  have hdiv : off.toNat / 4096 = r.val := by omega
  refine ⟨?_, by omega⟩
  unfold dbPage
  rw [hdiv]
  exact if_pos (by unfold stewardRing; omega)

theorem doorbellAt_page (h : AtPage off r o) (f : Nat → State → State) : s.doorbellAt off o f = s.doorbell r (f r) := by
  unfold State.doorbellAt
  rw [(dbPage_at h).1]
  exact if_pos (dbPage_at h).2

theorem doorbell_open (hclock : s.clocked 5 = true) (hen : (s.ring r).st ≠ 0) (hquar : (s.ring r).st ≠ 3) (f : State → State) :
    s.doorbell r f = f s := by
  unfold State.doorbell
  dsimp only
  rw [if_neg (by simp [hclock, hen]), if_neg (fun h => hquar h.1)]

theorem doorbellProdWrite_answers : Claims.doorbellProdWrite := by
  intro off r v s hrun hpage hclock hen hquar hahead hfit
  refine Answers.hub rfl hrun ?_
  unfold Machine.doorbellProdWrite
  rw [doorbellAt_page hpage, doorbell_open hclock hen hquar]
  dsimp only
  rw [if_pos ⟨hahead, hfit⟩, ring_tryFetch, ring_setRing_same]
  exact ⟨rfl, rfl, rfl⟩

/-- A producer index that is not permitted is a violation of kind 0 (R295). -/
theorem doorbellProdWrite_refused {v : BitVec 32} (hpage : AtPage off r 0x000) (hclock : s.clocked 5 = true) (hen : (s.ring r).st ≠ 0)
    (hquar : (s.ring r).st ≠ 3) (hroles : s.holdsRoles = true)
    (hbad : 2 ^ 31 < sub32w v.toNat (s.ring r).prod ∨ s.rN r < sub32w v.toNat (s.ring r).cqHead) :
    Machine.doorbellProdWrite off v s = s.ringViol r 0 v.toNat := by
  unfold Machine.doorbellProdWrite
  rw [doorbellAt_page hpage, doorbell_open hclock hen hquar]
  dsimp only
  rw [if_neg (by omega)]
  exact if_pos hroles

theorem doorbellProdViolation_answers : Claims.doorbellProdViolation := by
  intro off r v s hrun hpage hclock hen hquar hroles hbad hlimit
  refine Answers.hub rfl hrun ?_
  rw [doorbellProdWrite_refused hpage hclock hen hquar hroles hbad]
  obtain ⟨st, hring, -⟩ := ring_ringViol s r 0 v.toNat
  exact ⟨by rw [hring], by rw [hring], rd_ringViol_viol .., ringViol_recorded _ _ _ _ hlimit⟩

theorem doorbellQuarantines_answers : Claims.doorbellQuarantines := by
  intro off r v s hrun hpage hclock hopen hroles hr hbad hfull
  refine Answers.hub rfl hrun ?_
  rw [doorbellProdWrite_refused hpage hclock (by omega) (by omega) hroles (Or.inl hbad)]
  obtain ⟨st, hring, -, hst⟩ := ring_ringViol s r 0 v.toNat
  have hfilled : s.filled r = min 255 ((s.ring r).bucket + 1) := if_pos hr
  rw [hring]
  exact hst hr hopen (hfilled ▸ hfull)

theorem doorbellIgnored_answers : Claims.doorbellIgnored := by
  intro off r v s hrun hpage hclock hquar hroles
  refine Answers.hub rfl hrun ?_
  unfold Machine.doorbellProdWrite
  rw [doorbellAt_page hpage]
  unfold State.doorbell
  dsimp only
  rw [if_neg (by simp [hclock, hquar]), if_pos ⟨hquar, hroles⟩, ring_setRing_same]

theorem doorbellCqHeadWrite_answers : Claims.doorbellCqHeadWrite := by
  intro off r v s hrun hpage hclock hen hquar hroles hhead
  refine Answers.hub rfl hrun ?_
  have hroom : s.headRoom r = sub32w (s.ring r).cqTail (s.ring r).cqHead := if_pos hroles
  unfold Machine.doorbellCqHeadWrite
  rw [doorbellAt_page hpage, doorbell_open hclock hen hquar]
  dsimp only
  rw [if_pos (hroom ▸ hhead), ring_setRing_same]
  exact ⟨rfl, rfl⟩

theorem doorbellBadAccess_answers : Claims.doorbellBadAccess := by
  intro off r o k v s hrun hpage hbad hclock hen hquar hroles hlimit
  refine Answers.hub rfl hrun ?_
  have hviol : Machine.doorbellBadAccess off true k v s = s.ringViol r 2 v.toNat := by
    unfold Machine.doorbellBadAccess
    dsimp only
    rw [if_neg (by simp), (dbPage_at hpage).2, if_neg (by omega), doorbellAt_page hpage, doorbell_open hclock hen hquar]
    exact if_pos hroles
  rw [hviol]
  obtain ⟨st, hring, -⟩ := ring_ringViol s r 2 v.toNat
  exact ⟨by rw [hring], by rw [hring], ringViol_recorded _ _ _ _ hlimit⟩

theorem doorbellBadRead_answers : Claims.doorbellBadRead := by
  intro off r o k v s hrun hpage hwidth hclock hen hroles hlimit
  refine Answers.hub rfl hrun ?_
  have hviol : Machine.doorbellBadAccess off false k v s = (s.send (.dbData off.toNat 0)).ringViol r 2 0 := by
    unfold Machine.doorbellBadAccess
    dsimp only
    rw [if_pos (by rfl), if_neg hwidth]
    unfold State.dbBadRead
    dsimp only
    rw [(dbPage_at hpage).1]
    dsimp only
    rw [if_pos (by exact Bool.and_eq_true_iff.2 ⟨hclock, decide_eq_true hen⟩)]
    exact if_pos hroles
  rw [hviol]
  obtain ⟨st, hring, -⟩ := ring_ringViol (s.send (.dbData off.toNat 0)) r 2 0
  have hout : ((s.send (.dbData off.toNat 0)).ringViol r 2 0).out = (s.send (.dbData off.toNat 0)).out :=
    (State.ringViol_frame (Sub.refl _) (Frame.refl _ _) _ _ _).out rfl
  exact ⟨by rw [hring]; rfl, by rw [hring]; rfl, Sent.after (send_sent s _) (hout ▸ List.prefix_refl _),
    Recorded.before (ringViol_recorded _ _ _ _ hlimit) rfl rfl⟩

theorem doorbellRead_answers : Claims.doorbellRead := fun _ _ _ _ hrun => Answers.hub rfl hrun ⟨rfl, rfl, rfl⟩

/-- An offset of a page reads the register of the page's ring. -/
theorem dbRead_page (hclock : s.clocked 5 = true) (ho : o < 4096) : s.dbRead (4096 * r.val + o) = (s.ring r).dbReg o := by
  have hr := r.isLt
  have hpage : dbPage (4096 * r.val + o) = some r.val := by
    unfold dbPage stewardRing
    rw [show (4096 * r.val + o) / 4096 = r.val by omega]
    exact if_pos (by omega)
  unfold State.dbRead
  rw [hpage]
  dsimp only
  rw [if_pos hclock, show (4096 * r.val + o) % 4096 = o by omega]

/-- A page has no other register. -/
theorem dbReg_undefined {x : Ring} (ho : o ∉ [0x000, 0x004, 0x008, 0x00C, 0x010, 0x014]) : x.dbReg o = 0 := by
  unfold Ring.dbReg
  split
  · rfl
  · split
    case h_7 => rfl
    all_goals exact absurd (by decide) ho

theorem doorbellShows_holds : Claims.doorbellShows := by
  intro r s hclock
  have hreg (o : Nat) (ho : o < 4096) : s.dbRead (4096 * r.val + o) = (s.ring r).dbReg o := dbRead_page hclock ho
  refine ⟨fun hen => ?_, fun hdis o ho => ?_, fun o ho => ?_⟩
  · have hdefined (o : Nat) (ho : o < 4096) {v : Nat} (hv : (s.ring r).st ≠ 0 → (s.ring r).dbReg o = v) :
        s.dbRead (4096 * r.val + o) = v := (hreg o ho).trans (hv hen)
    exact ⟨hdefined 0x000 (by decide) fun h => if_neg h, hdefined 0x004 (by decide) fun h => if_neg h,
      hdefined 0x008 (by decide) fun h => if_neg h, hdefined 0x00C (by decide) fun h => if_neg h,
      hdefined 0x010 (by decide) fun h => if_neg h, hdefined 0x014 (by decide) fun h => if_neg h,
      fun o ho hundef => hdefined o ho fun _ => dbReg_undefined hundef⟩
  · exact (hreg o ho).trans (if_pos hdis)
  · have hnone : dbPage o = none := if_neg (by unfold stewardRing; omega)
    unfold State.dbRead
    rw [hnone]

theorem doorbellStray_answers : Claims.doorbellStray := by
  intro off s hrun hclock hoff
  refine Answers.hub rfl hrun ?_
  have hnone : dbPage off.toNat = none := if_neg (by unfold stewardRing; omega)
  unfold Machine.doorbellStray
  rw [hclock, hnone]
  exact State.rd_bump_same ..

theorem mfind_map_snd {α : Type} (f : α → α) (l : SMap α) (k : Nat) : mfind (l.map fun e => (e.1, f e.2)) k = (mfind l k).map f := by
  induction l with
  | nil => rfl
  | cons e l ih =>
    obtain ⟨q, v⟩ := e
    rw [List.map_cons]
    unfold mfind
    split
    · rfl
    · exact ih

theorem bucketLeak_answers : Claims.bucketLeak := by
  intro s hrun hclock hleak hts
  refine Answers.hub rfl hrun ?_
  have hinterval : ¬ msT * s.rd HIF_QLIM_leak = 0 := Nat.mul_ne_zero (by decide) hleak
  unfold Machine.bucketLeak
  dsimp only
  rw [if_neg (by simp [hrun, hclock, hinterval, hts])]
  refine ⟨fun r => ?_, rfl⟩
  unfold State.ring mget
  dsimp only
  rw [mfind_map_snd (fun x : Ring => { x with bucket := x.bucket - 1 })]
  cases mfind s.hif.rings r with
  | none => exact ⟨rfl, rfl⟩
  | some x => exact ⟨rfl, rfl⟩

end

/-! ### Fetched descriptors (R300, R313) -/

section
variable {r : Fin 513} {s : State}

theorem descriptorFetched_answers : Claims.descriptorFetched := by
  intro r b s hrun hreads hen
  refine Answers.hub rfl hrun ?_
  unfold Machine.descriptorFetched
  extract_lets x i nxt d u w d' v v'
  rw [if_neg (by exact not_or.2 ⟨hreads, hen⟩), if_pos (by rfl), ring_tryFetch]
  have hw : w.ring r = u.ring r := by
    have hkeep : (u.keepHdr r i b.toNat).ring r = u.ring r :=
      ring_of_hif ((State.keepHdr_frame (Sub.refl _) (Frame.refl _ u) _ _ _).hif rfl) _
    exact (ring_mirror _ _ _ _ _).trans ((ring_mirror _ _ _ _ _).trans hkeep)
  rw [hw, ring_setRing_same]
  exact ⟨rfl, rfl⟩

theorem descriptorRetried_answers : Claims.descriptorRetried := by
  intro r b s hrun hreads hen htries
  refine Answers.hub rfl hrun ?_
  unfold Machine.descriptorFetched
  extract_lets x i nxt d u w d' v v'
  rw [if_neg (by exact not_or.2 ⟨hreads, hen⟩), if_neg (by simp), if_pos (by exact htries), ring_send, ring_setRing_same]
  exact ⟨rfl, rfl, send_sent _ _⟩

/-- A fabric failure is counted and recorded, and its descriptor completes. -/
theorem fabricEvent_completed {d : Desc} (h : Reports s d) (kind i status : Nat) (ps : List (Nat × Nat × Nat)) :
    (((s.fabricEvent r kind i).complete d status ps).tryFetch d.ring).rd HIF_STAT_fabric =
        (s.rd HIF_STAT_fabric + 1) % 2 ^ HIF_STAT_fabric.width ∧
      Completed s (((s.fabricEvent r kind i).complete d status ps).tryFetch d.ring) d status ps ∧
      Recorded s (((s.fabricEvent r kind i).complete d status ps).tryFetch d.ring) 5 5 [r, kind, i] := by
  have hfetch := State.tryFetch_frame (Sub.refl _) (Frame.refl _ ((s.fabricEvent r kind i).complete d status ps)) d.ring
  have hevent := (State.emit_frame (Sub.refl _) (Frame.refl _ (s.bump HIF_STAT_fabric)) 5 5 [r, kind, i])
  have hcompleted : Completed s ((s.fabricEvent r kind i).complete d status ps) d status ps := by
    refine complete_completed_after h (hevent.hif rfl) (hevent.par rfl) (hevent.fuse rfl) (hevent.out rfl ▸ List.prefix_refl _) fun f hf => ?_
    have hsep : sepFld f HIF_STAT_fabric = true ∧ sepFld f EVT_DROP_dropped = true :=
      (show ∀ f ∈ completionFlds, sepFld f HIF_STAT_fabric = true ∧ sepFld f EVT_DROP_dropped = true by decide) f hf
    exact (State.rd_emit _ _ _ _ _ _ hsep.2).trans (State.rd_bump_sep _ _ _ _ _ hsep.1)
  refine ⟨?_, Completed.after hcompleted (tryFetch_effect _ _).1 (tryFetch_effect _ _).2, ?_⟩
  · rw [hfetch.rd_all (by decide) (by decide), rd_complete]
    exact (State.rd_emit _ _ _ _ _ _ (by decide)).trans (State.rd_bump_same _ _ _)
  · have hrecd : (((s.fabricEvent r kind i).complete d status ps).tryFetch d.ring).recd = (s.fabricEvent r kind i).recd :=
      (hfetch.recd rfl).trans (complete_same _ d status ps).2.2.2.2.1
    exact (Recorded.before (State.emit_recorded (s.bump HIF_STAT_fabric) 5 5 [r, kind, i]) rfl rfl).after hrecd

/-- What a completion reads is not the fetching of its ring. -/
theorem SameQueue.setRing {q : Nat} {x : Ring} (htail : x.cqTail = (s.ring q).cqTail) : SameQueue s (s.setRing q x) q :=
  ⟨by rw [ring_setRing_same, htail], rfl, rfl, List.prefix_refl _⟩

theorem Reports.setRing {d : Desc} {x : Ring} (h : Reports s d) (hgen : x.gen = (s.ring d.ring).gen) (hst : x.st = (s.ring d.ring).st) :
    Reports (s.setRing d.ring x) d := by
  obtain ⟨hen, hlow, hhigh, hmirror, hroles⟩ := h
  refine ⟨?_, ?_, ?_, hmirror, hroles⟩
  · rw [ring_setRing_same, hgen, hen]
  · rw [ring_setRing_same, hst]
    exact hlow
  · rw [ring_setRing_same, hst]
    exact hhigh

/-- The ring of a descriptor whose read has failed for the last time: it goes on with the next. -/
def readFailed (x : Ring) : Ring := { x with reads := x.reads - 1, tries := 0, fetch := (x.fetch + 1) % 2 ^ 32 }

/-- The failed descriptor, of which nothing is known but its place. -/
def unreadDesc (r : Nat) (x : Ring) : Desc := { ring := r, idx := x.fetch, gen := x.gen, w := 0 }

theorem descriptorFetched_failed {b : BitVec 512} (hreads : (s.ring r).reads ≠ 0) (hen : (s.ring r).st ≠ 0) (htries : 2 ≤ (s.ring r).tries) :
    Machine.descriptorFetched r false b s =
      ((((s.setRing r (readFailed (s.ring r))).mirrorRing r).fabricEvent r 0 (s.ring r).fetch).complete (unreadDesc r (s.ring r)) 0x0008
        [(8, 4, (s.ring r).fetch)]).tryFetch r := by
  unfold Machine.descriptorFetched
  extract_lets x i nxt d u w d' v v'
  rw [if_neg (by exact not_or.2 ⟨hreads, hen⟩), if_neg (by simp), if_neg (by exact Nat.not_lt.2 htries)]
  unfold State.complete
  have htag : dTag (unreadDesc r (s.ring r)).w = 0 := show dTag 0 = 0 by decide
  have hop : dOp (unreadDesc r (s.ring r)).w = 0 := show dOp 0 = 0 by decide
  rw [htag, hop]
  rfl

theorem descriptorFailed_answers : Claims.descriptorFailed := by
  intro r b s hrun hreads htries hreports
  refine Answers.hub rfl hrun ?_
  rw [descriptorFetched_failed hreads (Nat.ne_of_gt hreports.2.1) htries]
  have hv : Reports (s.setRing r (readFailed (s.ring r))) (unreadDesc r (s.ring r)) :=
    Reports.setRing (d := unreadDesc r (s.ring r)) hreports rfl rfl
  have hmirror : (s.setRing r (readFailed (s.ring r))).mirrorRing r = s.setRing r (readFailed (s.ring r)) := mirror_of_not hv.2.2.2.1 ..
  rw [hmirror]
  obtain ⟨hcount, hcompleted, hrecorded⟩ := fabricEvent_completed (r := r) hv 0 (s.ring r).fetch 0x0008 [(8, 4, (s.ring r).fetch)]
  exact ⟨hcount, Completed.before hcompleted (SameQueue.setRing rfl), Recorded.before hrecorded rfl rfl⟩

end

/-- Settles O10. -/
theorem doorbells : Obligations.Doorbells :=
  ⟨doorbellProdWrite_answers, doorbellProdViolation_answers, doorbellQuarantines_answers, doorbellIgnored_answers,
    doorbellCqHeadWrite_answers, doorbellBadAccess_answers, doorbellBadRead_answers, doorbellRead_answers, doorbellShows_holds,
    doorbellStray_answers, bucketLeak_answers, descriptorFetched_answers, descriptorRetried_answers, descriptorFailed_answers⟩

end Sys2Proof.Machine
end

section
/-!
PROOF. The turns of the rings, HELLO, and the release from quarantine (R301, R305, R306, R308, R312, R314).
-/
namespace Sys2Proof.Machine
open Sys2Proof.Claims

set_option Elab.async false

/-! ### What changes the rings alone -/

/-- Of the host interface only the rings' records differ. -/
def RingsOnly (s t : State) : Prop := t.hif = { s.hif with rings := t.hif.rings }

section
variable {s t u : State} {d : Desc} {q r : Nat}

theorem RingsOnly.trans (h : RingsOnly s t) (g : RingsOnly t u) : RingsOnly s u := by
  unfold RingsOnly at *
  rw [g, h]

theorem RingsOnly.of_hif (h : t.hif = s.hif) : RingsOnly s t := by
  unfold RingsOnly
  rw [h]

theorem RingsOnly.same (h : RingsOnly s t) : t.hif.units = s.hif.units ∧ t.hif.stewardTurn = s.hif.stewardTurn ∧
    t.hif.lastTenant = s.hif.lastTenant ∧ t.hif.trings = s.hif.trings := by
  rw [h]
  exact ⟨rfl, rfl, rfl, rfl⟩

theorem ringsOnly_setRing (s : State) (r : Nat) (x : Ring) : RingsOnly s (s.setRing r x) := rfl

theorem ringsOnly_setRState (s : State) (r st : Nat) : RingsOnly s (s.setRState r st) := by
  unfold State.setRState
  dsimp only
  split
  · exact ringsOnly_setRing ..
  · exact ringsOnly_setRing ..

theorem ringsOnly_emit (s : State) (unit idx : Nat) (ps : List Nat) : RingsOnly s (s.emit unit idx ps) :=
  RingsOnly.of_hif ((State.emit_frame (Sub.refl _) (Frame.refl _ s) unit idx ps).hif rfl)

theorem ringsOnly_fetchOne (s : State) (r : Nat) : RingsOnly s (s.fetchOne r) := by
  unfold State.fetchOne
  split
  · exact ringsOnly_setRing ..
  · rfl

theorem ringsOnly_tryFetch (s : State) (r : Nat) : RingsOnly s (s.tryFetch r) :=
  (ringsOnly_fetchOne s r).trans (ringsOnly_fetchOne _ r)

theorem ringsOnly_quarCheck (s : State) (r : Nat) : RingsOnly s (s.quarCheck r) := by
  unfold State.quarCheck
  dsimp only
  split
  · exact (ringsOnly_setRState s r 3).trans (ringsOnly_emit ..)
  · rfl

theorem ringsOnly_ringViol (s : State) (r kind v : Nat) : RingsOnly s (s.ringViol r kind v) := by
  rw [ringViol_eq]
  refine RingsOnly.trans (t := State.emitLim _ _ _ _ _ _) ?_ (ringsOnly_quarCheck _ r)
  exact RingsOnly.trans (ringsOnly_setRing s r _) (RingsOnly.of_hif ((State.emitLim_frame (Sub.refl _) (Frame.refl _ _) _ _ _ _ _).hif rfl))

theorem ring_tryFetch_ne (h : q ≠ r) : (s.tryFetch r).ring q = s.ring q := by
  have hone (s : State) : (s.fetchOne r).ring q = s.ring q := by
    unfold State.fetchOne
    split
    · exact ring_setRing_ne _ _ _ h
    · rfl
  exact (hone _).trans (hone s)

theorem ring_setRState_ne (st : Nat) (h : q ≠ r) : (s.setRState r st).ring q = s.ring q := by
  unfold State.setRState
  dsimp only
  split
  · exact ring_setRing_ne _ _ _ h
  · exact ring_setRing_ne _ _ _ h

/-! ### A completion among the rings (R298, R300) -/

/-- A completion leaves a ring all but its queue: what is in flight, the barrier, the tail and the reads. -/
def Flown (x y : Ring) : Prop :=
  y = { x with fly := y.fly, barrier := y.barrier, cqTail := y.cqTail, reads := y.reads } ∧ y.fly.Sublist x.fly

theorem Flown.refl (x : Ring) : Flown x x := ⟨rfl, List.Sublist.refl _⟩

theorem Flown.trans {x y z : Ring} (h : Flown x y) (g : Flown y z) : Flown x z := by
  obtain ⟨hy, hfly⟩ := h
  obtain ⟨hz, hfly'⟩ := g
  refine ⟨?_, hfly'.trans hfly⟩
  rw [hz, hy]

theorem Flown.kept {x y : Ring} (h : Flown x y) : y.st = x.st ∧ y.prod = x.prod ∧ y.fetch = x.fetch ∧ y.cqHead = x.cqHead ∧
    y.bucket = x.bucket ∧ y.viol = x.viol ∧ y.agreed = x.agreed ∧ y.ver = x.ver ∧ y.feat = x.feat := by
  obtain ⟨hy, -⟩ := h
  rw [hy]
  exact ⟨rfl, rfl, rfl, rfl, rfl, rfl, rfl, rfl, rfl⟩

theorem flown_setRing (x : Ring) (h : Flown (s.ring r) x) : Flown (s.ring q) ((s.setRing r x).ring q) := by
  by_cases hq : q = r
  · subst hq
    rw [ring_setRing_same]
    exact h
  · rw [ring_setRing_ne _ _ _ hq]
    exact Flown.refl _

theorem flown_landed : Flown (s.ring q) ((s.landed d).ring q) := by
  unfold State.landed State.landAt
  dsimp only
  split
  · have hpar : State.ring (if s.isD then s.setPar { s.par with hdrs := mdel s.par.hdrs (d.ring * 2 ^ 32 + d.idx) } else s) = s.ring := by
      split <;> rfl
    rw [← hpar]
    refine flown_setRing _ ⟨rfl, ?_⟩
    rw [hpar]
    exact List.erase_sublist
  · exact Flown.refl _

theorem flown_writeCompletion (tag status op : Nat) (res : List Byte) (notify : Bool) :
    Flown (s.ring q) ((s.writeCompletion r tag status op res notify).ring q) := by
  unfold State.writeCompletion
  dsimp only
  split
  · exact flown_setRing (s := s) _ ⟨rfl, List.Sublist.refl _⟩
  · exact flown_setRing (s := s) _ ⟨rfl, List.Sublist.refl _⟩

theorem flown_tryFetch : Flown (s.ring q) ((s.tryFetch r).ring q) := by
  by_cases hq : q = r
  · subst hq
    rw [ring_tryFetch]
    exact ⟨rfl, List.Sublist.refl _⟩
  · rw [ring_tryFetch_ne hq]
    exact Flown.refl _

theorem flown_complete (status : Nat) (ps : List (Nat × Nat × Nat)) : Flown (s.ring q) ((s.complete d status ps).ring q) := by
  unfold State.complete State.completeAs
  dsimp only
  split
  · exact flown_landed
  · split
    · show Flown _ ((s.mirror _ _ _).ring q)
      rw [ring_mirror]
      exact Flown.refl _
    · exact (flown_landed.trans (flown_writeCompletion ..)).trans flown_tryFetch

theorem ringsOnly_landed (s : State) (d : Desc) : RingsOnly s (s.landed d) := by
  unfold State.landed State.landAt
  dsimp only
  split
  · refine RingsOnly.trans (RingsOnly.of_hif ?_) (ringsOnly_setRing ..)
    split <;> rfl
  · rfl

theorem ringsOnly_writeCompletion (s : State) (r tag status op : Nat) (res : List Byte) (notify : Bool) :
    RingsOnly s (s.writeCompletion r tag status op res notify) := by
  unfold State.writeCompletion
  dsimp only
  split
  · rfl
  · rfl

theorem ringsOnly_complete (s : State) (d : Desc) (status : Nat) (ps : List (Nat × Nat × Nat)) : RingsOnly s (s.complete d status ps) := by
  unfold State.complete State.completeAs
  dsimp only
  split
  · exact ringsOnly_landed s d
  · split
    · exact RingsOnly.of_hif ((State.mirror_frame (Sub.refl _) (Frame.refl _ s) _ _ _).hif rfl)
    · exact ((ringsOnly_landed s d).trans (ringsOnly_writeCompletion ..)).trans (ringsOnly_tryFetch ..)

/-- What a descriptor's completion needs of its ring after other changes: the enabling, the tail, and that it is neither DISABLED nor
STOPPED. -/
structure StillOpen (s u : State) (r : Nat) : Prop where
  gen : (u.ring r).gen = (s.ring r).gen
  tail : (u.ring r).cqTail = (s.ring r).cqTail
  low : 1 ≤ (u.ring r).st
  high : (u.ring r).st ≤ 3

/-- A completion written after changes to the rings that a footprint bounds. -/
theorem complete_completed_rings {m : Nat} {status : Nat} {ps : List (Nat × Nat × Nat)} (h : Reports s d) (hframe : Frame m s u)
    (hflds : completionFlds.all (untouched m) = true) (hcomps : m &&& 0x80000088 = 0) (hrings : RingsOnly s u)
    (hopen : StillOpen s u d.ring) : Reports u d ∧ Completed s (u.complete d status ps) d status ps := by
  have hbit (n : Nat) (hn : (0x80000088 : Nat).testBit n = true) : m.testBit n = false := by
    have hand : (m &&& 0x80000088).testBit n = false := by rw [hcomps, Nat.zero_testBit]
    rw [Nat.testBit_and, hn, Bool.and_true] at hand
    exact hand
  have hpar : u.par = s.par := hframe.par (hbit 31 rfl)
  have hfuse : u.fuse = s.fuse := hframe.fuse (hbit 3 rfl)
  have hrd (f : Fld) (hf : f ∈ completionFlds) : u.rd f = s.rd f := hframe.rd_of (List.all_eq_true.1 hflds f hf) 0
  obtain ⟨hgen, -, -, hmirror, hroles⟩ := h
  obtain ⟨hgen', htail, hlow, hhigh⟩ := hopen
  have hD : u.isD = s.isD := by
    unfold State.isD
    rw [hfuse]
  have hrole : u.pRole = s.pRole := hrd _ (by simp [completionFlds])
  have hstate : u.pState = s.pState := hrd _ (by simp [completionFlds])
  have hreports : Reports u d := by
    refine ⟨hgen'.trans hgen, hlow, hhigh, ?_, ?_⟩
    · unfold State.mirroring at hmirror ⊢
      rw [hD, hrole, hstate, hpar]
      exact hmirror
    · unfold State.holdsRoles at hroles ⊢
      rw [hD, hrole, hpar]
      exact hroles
  have htrings : u.hif.trings = s.hif.trings := by rw [hrings]
  refine ⟨hreports, Completed.before (complete_completed hreports) ⟨htail, ?_, ?_, hframe.out (hbit 7 rfl) ▸ List.prefix_refl _⟩⟩
  · unfold State.rCpl State.tring
    rw [htrings, hrd HIF_SCPL_base (by simp [completionFlds])]
  · unfold State.rN State.rSize State.tring
    rw [htrings, hrd HIF_SCTL_size (by simp [completionFlds])]

end

/-! ### Turns (R301, R308) -/

/-- The checks of R301 do not look at what a ring's buffer still holds. -/
theorem descCheck_of_ring {s u : State} {r w : Nat} (hregs : u.regs = s.regs) (hfuse : u.fuse = s.fuse) (hts : u.ts = s.ts)
    (htrings : u.hif.trings = s.hif.trings) (hagreed : (u.ring r).agreed = (s.ring r).agreed) (hver : (u.ring r).ver = (s.ring r).ver)
    (hfeat : (u.ring r).feat = (s.ring r).feat) : u.descCheck r w = s.descCheck r w := by
  have hrd (f : Fld) (i : Nat) : u.rd f i = s.rd f i := rd_of_regs hregs hfuse f i
  have htring (t : Nat) : u.tring t = s.tring t := by
    unfold State.tring
    rw [htrings]
  have hpriv : u.descPriv r w = s.descPriv r w := by
    unfold State.descPriv State.flag
    simp only [hrd]
  have hrange : u.descRange r w = s.descRange r w := by
    unfold State.descRange State.inWindow
    simp only [htring, hts]
  unfold State.descCheck
  dsimp only
  rw [hpriv, hrange, hagreed, hver, hfeat]

/-- The turn is a ring's: the other kind is served next. -/
def State.turned (s : State) (d : Desc) : State :=
  { s with hif := { s.hif with stewardTurn := !decide (d.ring = stewardRing),
                               lastTenant := if decide (d.ring = stewardRing) then s.hif.lastTenant else d.ring } }

/-- The descriptor has left its ring's buffer. -/
def State.unbuffered (s : State) (d : Desc) : State := s.setRing d.ring { s.ring d.ring with buf := (s.ring d.ring).buf.drop 1 }

/-- An ORDER descriptor handed on holds the later ones of its ring. -/
def State.barred (s : State) (d : Desc) : State :=
  if isOrder d.w then s.setRing d.ring { s.ring d.ring with barrier := some d.idx } else s

section
variable {s : State} {d : Desc}

theorem barred_effect (s : State) (d : Desc) :
    RingsOnly s (s.barred d) ∧ (s.barred d).ts = s.ts ∧ ((s.barred d).ring d.ring).buf = (s.ring d.ring).buf := by
  unfold State.barred
  split
  · exact ⟨ringsOnly_setRing .., rfl, by rw [ring_setRing_same]⟩
  · exact ⟨rfl, rfl, rfl⟩

theorem fp2Turn_of_pick (hfw : s.fwRunning 2 = true) (hroles : s.holdsRoles = true)
    (hpick : (if s.hif.stewardTurn then ((s.turnOf stewardRing).orElse fun _ => s.tenantTurn)
      else (s.tenantTurn.orElse fun _ => s.turnOf stewardRing)) = some d) : Machine.fp2Turn s = (s.turned d).takeDesc d := by
  unfold Machine.fp2Turn
  rw [if_neg (by simp [hfw, hroles])]
  dsimp only
  split
  · next h => exact absurd (hpick.symm.trans h) (by simp)
  · next h =>
    obtain rfl := Option.some.inj (hpick.symm.trans h)
    rfl

theorem descCheck_unbuffered (s : State) (d : Desc) : ((s.turned d).unbuffered d).descCheck d.ring d.w = s.descCheck d.ring d.w := by
  refine descCheck_of_ring rfl rfl rfl rfl ?_ ?_ ?_
  · unfold State.unbuffered
    rw [ring_setRing_same]
    rfl
  · unfold State.unbuffered
    rw [ring_setRing_same]
    rfl
  · unfold State.unbuffered
    rw [ring_setRing_same]
    rfl

theorem takeDesc_passed (hcheck : (s.unbuffered d).descCheck d.ring d.w = none) : s.takeDesc d =
    State.tryFetch { (s.unbuffered d).barred d with hif := { ((s.unbuffered d).barred d).hif with
      units := ((s.unbuffered d).barred d).hif.units ++ [{ d with t := ((s.unbuffered d).barred d).ts }] } } d.ring := by
  unfold State.takeDesc
  dsimp only
  split
  · next h => exact absurd (hcheck.symm.trans h) (by simp)
  · rfl

theorem takeDesc_refused {st : Nat} (hcheck : (s.unbuffered d).descCheck d.ring d.w = some st) :
    s.takeDesc d = (((s.unbuffered d).ringViol d.ring 3 st).complete d st []).tryFetch d.ring := by
  unfold State.takeDesc
  dsimp only
  split
  · next h =>
    obtain rfl := Option.some.inj (hcheck.symm.trans h)
    rfl
  · next h => exact absurd (hcheck.symm.trans h) (by simp)

theorem fp2TurnSteward_answers : Claims.fp2TurnSteward := by
  intro d s hrun hfw hroles hsteward hturn hring hcheck
  refine Answers.hub rfl hrun ?_
  rw [fp2Turn_of_pick (d := d) hfw hroles (by rw [if_pos hsteward, hturn]; rfl), takeDesc_passed ((descCheck_unbuffered s d).trans hcheck)]
  obtain ⟨honly, hts, hbuf⟩ := barred_effect ((s.turned d).unbuffered d) d
  obtain ⟨hunits, hnext, -, -⟩ := (RingsOnly.trans (ringsOnly_setRing (s.turned d) d.ring _) honly).same
  obtain ⟨hunits', hnext', -, -⟩ := (ringsOnly_tryFetch { ((s.turned d).unbuffered d).barred d with
    hif := { (((s.turned d).unbuffered d).barred d).hif with units := (((s.turned d).unbuffered d).barred d).hif.units ++
      [{ d with t := (((s.turned d).unbuffered d).barred d).ts }] } } d.ring).same
  refine ⟨?_, ?_, ?_⟩
  · rw [hunits']
    dsimp only
    rw [hunits, hts]
    rfl
  · rw [hnext']
    dsimp only
    rw [hnext]
    unfold State.turned
    simp [hring]
  · rw [ring_tryFetch]
    refine hbuf.trans ?_
    unfold State.unbuffered
    rw [ring_setRing_same]
    rfl

/-- The ring of a descriptor refused: it has left the buffer, and the violation is counted. -/
theorem ring_refused (s : State) (d : Desc) (st : Nat) : ∃ state, ((s.unbuffered d).ringViol d.ring 3 st).ring d.ring =
      { s.ring d.ring with buf := (s.ring d.ring).buf.drop 1, viol := ((s.ring d.ring).viol + 1) % 65536, st := state,
                           bucket := (s.unbuffered d).filled d.ring } ∧
    (state = 3 ∨ state = (s.ring d.ring).st) := by
  obtain ⟨state, hring, hstate, -⟩ := ring_ringViol (s.unbuffered d) d.ring 3 st
  have hunbuffered : (s.unbuffered d).ring d.ring = { s.ring d.ring with buf := (s.ring d.ring).buf.drop 1 } := ring_setRing_same ..
  rw [hunbuffered] at hring hstate
  exact ⟨state, hring, hstate⟩

theorem fp2TurnRefused_answers : Claims.fp2TurnRefused := by
  intro d st s hrun hfw htenant hturn hring hcheck hreports
  refine Answers.hub rfl hrun ?_
  have hpick : (s.tenantTurn.orElse fun _ => s.turnOf stewardRing) = some d := by
    rw [hturn]
    rfl
  rw [fp2Turn_of_pick (d := d) hfw hreports.2.2.2.2 (by rw [htenant]; exact hpick),
    takeDesc_refused ((descCheck_unbuffered s d).trans hcheck)]
  obtain ⟨state, hrefused, hstate⟩ := ring_refused (s.turned d) d st
  have hturned : Reports (s.turned d) d := hreports
  have hlow : 1 ≤ ((s.turned d).ring d.ring).st := hturned.2.1
  have hhigh : ((s.turned d).ring d.ring).st ≤ 3 := hturned.2.2.1
  have honly : RingsOnly (s.turned d) (((s.turned d).unbuffered d).ringViol d.ring 3 st) :=
    (ringsOnly_setRing (s.turned d) d.ring _).trans (ringsOnly_ringViol _ d.ring 3 st)
  have hframe : Frame State.ringViol_foot (s.turned d) (((s.turned d).unbuffered d).ringViol d.ring 3 st) :=
    State.ringViol_frame (Sub.refl _) (State.setRing_frame (show _ &&& _ = _ by decide) (Frame.refl _ _) _ _) _ _ _
  have hopen : StillOpen (s.turned d) (((s.turned d).unbuffered d).ringViol d.ring 3 st) d.ring := by
    refine ⟨by rw [hrefused], by rw [hrefused], ?_, ?_⟩
    · rw [hrefused]
      show 1 ≤ state
      omega
    · rw [hrefused]
      show state ≤ 3
      omega
  obtain ⟨-, hcompleted⟩ := complete_completed_rings (status := st) (ps := []) hturned hframe (by decide +kernel) (by decide) honly hopen
  generalize ((s.turned d).unbuffered d).ringViol d.ring 3 st = u at *
  obtain ⟨hunits, hnext, hlast, -⟩ := ((honly.trans (ringsOnly_complete u d st [])).trans (ringsOnly_tryFetch _ d.ring)).same
  have hviol := ((flown_complete (s := u) (d := d) (q := d.ring) st []).trans (flown_tryFetch (r := d.ring))).kept.2.2.2.2.2.1
  refine ⟨?_, hnext.trans ?_, hlast.trans ?_, hviol.trans ?_, hunits⟩
  · exact Completed.before (Completed.after hcompleted (tryFetch_effect _ _).1 (tryFetch_effect _ _).2) ⟨rfl, rfl, rfl, List.prefix_refl _⟩
  · unfold State.turned
    simp [Nat.ne_of_lt hring, stewardRing]
  · unfold State.turned
    simp [Nat.ne_of_lt hring, stewardRing]
  · rw [hrefused]
    rfl

/-! ### HELLO (R305, R306) -/

/-- What a HELLO agrees: the features that it, the block and its ring's entry allow. -/
def State.helloFeatures (s : State) (d : Desc) : Nat :=
  dB d.w 16 8 &&& s.rd HIF_FEAT &&& (if d.ring = stewardRing then 2 ^ 64 - 1 else eTfeat (s.tring d.ring))

/-- A ring that was ENABLED runs with what its HELLO agreed. -/
def State.greeted (s : State) (d : Desc) : State :=
  (s.setRing d.ring { s.ring d.ring with agreed := true, ver := min (dB d.w 9 1) ringVersion, feat := s.helloFeatures d }).setRState d.ring 2

theorem greeted_ring : (s.greeted d).ring d.ring =
    { s.ring d.ring with agreed := true, ver := min (dB d.w 9 1) ringVersion, feat := s.helloFeatures d, st := 2 } := by
  unfold State.greeted
  rw [ring_setRState, ring_setRing_same]

/-- The footprint of a HELLO that is agreed where nothing is mirrored, but for its completion. -/
def greetedFoot : Nat := State.setRState_foot ||| State.emit_foot

theorem greeted_frame (s : State) (d : Desc) : Frame greetedFoot s (s.greeted d) :=
  State.setRState_frame (show _ &&& _ = _ by decide) (State.setRing_frame (show _ &&& _ = _ by decide) (Frame.refl _ s) _ _) _ _

theorem greeted_only (s : State) (d : Desc) : RingsOnly s (s.greeted d) := (ringsOnly_setRing ..).trans (ringsOnly_setRState ..)

/-- What a HELLO returns. -/
def helloResult (s : State) (d : Desc) (agreed : Nat) : List (Nat × Nat × Nat) :=
  [(8, 1, min (dB d.w 9 1) ringVersion), (9, 1, s.rd HIF_VER_gen), (10, 1, s.rd HIF_VER_slate), (11, 1, s.rd HIF_VER_salgor),
    (12, 2, d.ring), (14, 1, if s.isD then s.pRole else 0), (16, 8, agreed), (24, 8, s.rd HIF_FEAT)]

theorem helloResult_framed {u : State} (hframe : Frame greetedFoot s u) (agreed : Nat) : helloResult u d agreed = helloResult s d agreed := by
  have hrd (f : Fld) (hf : untouched greetedFoot f = true) : u.rd f = s.rd f := hframe.rd_of hf 0
  have hD : u.isD = s.isD := by
    unfold State.isD
    rw [hframe.fuse rfl]
  have hrole : u.pRole = s.pRole := hrd PAR_STAT_role (by decide +kernel)
  unfold helloResult
  rw [hrd HIF_VER_gen (by decide +kernel), hrd HIF_VER_slate (by decide +kernel), hrd HIF_VER_salgor (by decide +kernel),
    hrd HIF_FEAT (by decide +kernel), hD, hrole]

/-- The state in which a HELLO that is agreed completes. -/
def State.helloRecorded (s : State) (d : Desc) : State :=
  (s.greeted d).emit 5 1 [d.ring, min (dB d.w 9 1) ringVersion, s.helloFeatures d % 2 ^ 32]

theorem helloRecorded_frame (s : State) (d : Desc) : Frame greetedFoot s (s.helloRecorded d) :=
  State.emit_frame (show _ &&& _ = _ by decide) (greeted_frame s d) _ _ _

theorem helloRecorded_ring : (s.helloRecorded d).ring d.ring =
    { s.ring d.ring with agreed := true, ver := min (dB d.w 9 1) ringVersion, feat := s.helloFeatures d, st := 2 } :=
  (ring_emit ..).trans greeted_ring

theorem helloRecorded_completed (h : Reports s d) (ps : List (Nat × Nat × Nat)) :
    Completed s ((s.helloRecorded d).complete d 0 ps) d 0 ps := by
  have hopen : StillOpen s (s.helloRecorded d) d.ring := by constructor <;> rw [helloRecorded_ring] <;> simp
  exact (complete_completed_rings h (helloRecorded_frame s d) (by decide +kernel) (by decide)
    ((greeted_only s d).trans (ringsOnly_emit ..)) hopen).2

theorem helloOp_agreed (hreports : Reports s d) (hst : (s.ring d.ring).st = 1) (hspan : dB d.w 8 1 ≤ dB d.w 9 1)
    (hmajor : dB d.w 8 1 / 16 ≤ 1) (hmin : dB d.w 8 1 ≤ min (dB d.w 9 1) ringVersion) :
    Machine.helloOp d s = (s.helloRecorded d).complete d 0 (helloResult s d (s.helloFeatures d)) := by
  have hmirror : (s.greeted d).mirroring = false := by
    have hopen : StillOpen s (s.greeted d) d.ring := by constructor <;> rw [greeted_ring] <;> simp
    exact (complete_completed_rings (status := 0) (ps := []) hreports (greeted_frame s d) (by decide +kernel) (by decide)
      (greeted_only s d) hopen).1.2.2.2.1
  have hop : Machine.helloOp d s = ((((s.greeted d).mirror 0x08 d.ring ((s.greeted d).ringEntryBytes d.ring))).emit 5 1
      [d.ring, min (dB d.w 9 1) ringVersion, s.helloFeatures d % 2 ^ 32]).complete d 0
        ((helloResult ((((s.greeted d).mirror 0x08 d.ring ((s.greeted d).ringEntryBytes d.ring))).emit 5 1
          [d.ring, min (dB d.w 9 1) ringVersion, s.helloFeatures d % 2 ^ 32]) d (s.helloFeatures d)).set 7 (24, 8, s.rd HIF_FEAT)) := by
    unfold Machine.helloOp
    dsimp only
    rw [if_pos ⟨hspan, hmajor, hmin⟩, if_pos hreports.1, if_pos hst]
    rfl
  rw [hop, mirror_of_not hmirror]
  show (s.helloRecorded d).complete d 0 ((helloResult (s.helloRecorded d) d _).set 7 _) = _
  rw [helloResult_framed (helloRecorded_frame s d)]
  rfl

theorem hello_answers : Claims.hello := by
  intro d s hrun hturn hreports hst hring hspan hmajor hmin
  refine Answers.opcode rfl hrun hturn ?_
  have hpicked : Reports (picked s d) d := hreports
  have hfeatures : (picked s d).helloFeatures d = (dB d.w 16 8 &&& s.rd HIF_FEAT &&& eTfeat (s.tring d.ring)) := by
    unfold State.helloFeatures
    rw [if_neg (show ¬ d.ring = stewardRing from Nat.ne_of_lt hring), rd_picked]
    rfl
  rw [helloOp_agreed hpicked hst hspan hmajor hmin, hfeatures]
  have hring' := helloRecorded_ring (s := picked s d) (d := d)
  rw [hfeatures] at hring'
  obtain ⟨hst', -, -, -, -, -, hagreed, hver, hfeat⟩ := (flown_complete (s := (picked s d).helloRecorded d) (d := d) (q := d.ring) 0
    (helloResult (picked s d) d (dB d.w 16 8 &&& s.rd HIF_FEAT &&& eTfeat (s.tring d.ring)))).kept
  rw [hring'] at hst' hagreed hver hfeat
  refine ⟨hagreed, hver, hfeat, hst', ?_⟩
  exact Completed.before_picked (helloRecorded_completed hpicked _)

theorem helloRefused_answers : Claims.helloRefused := by
  intro d s hrun hturn hreports hmajor
  refine Answers.opcode rfl hrun hturn ?_
  have hrefused : Machine.helloOp d (picked s d) =
      (picked s d).complete d 0x0003 [(8, 1, ringVersion), (24, 8, (picked s d).rd HIF_FEAT)] := by
    unfold Machine.helloOp
    extract_lets x vmin vmax v sup permitted
    exact if_neg fun h => Nat.not_le.2 hmajor h.2.1
  rw [hrefused, rd_picked]
  obtain ⟨-, -, -, -, -, -, hagreed, hver, hfeat⟩ := (flown_complete (s := picked s d) (d := d) (q := d.ring) 0x0003
    [(8, 1, ringVersion), (24, 8, s.rd HIF_FEAT)]).kept
  exact ⟨hagreed, hver, hfeat, Completed.before_picked (complete_completed (Reports.picked hreports))⟩

/-! ### Quarantine (R312) -/

theorem ring_complete_ne {q status : Nat} {ps : List (Nat × Nat × Nat)} (h : q ≠ d.ring) : (s.complete d status ps).ring q = s.ring q := by
  have hlanded : (s.landed d).ring q = s.ring q := by
    unfold State.landed State.landAt
    dsimp only
    split
    · refine (ring_setRing_ne _ _ _ h).trans ?_
      split <;> rfl
    · rfl
  unfold State.complete State.completeAs
  dsimp only
  split
  · exact hlanded
  · split
    · show (s.mirror _ _ _).ring q = _
      rw [ring_mirror]
    · rw [ring_tryFetch_ne h]
      unfold State.writeCompletion
      dsimp only
      split
      · exact (ring_setRing_ne _ _ _ h).trans hlanded
      · exact (ring_setRing_ne _ _ _ h).trans hlanded

/-- A command that runs a kind of opcode answers what it does of the descriptor in turn. -/
theorem Answers.op {c : Instr} {p : Desc → Bool} {f : Desc → State → State} {post : State → Prop}
    (harm : exec c s = hubOn (fun s => s.runOp p f) s) (hrun : s.running = true) (hturn : InTurn s p d) (h : post (f d (picked s d))) :
    Answers c s post := Answers.hub harm hrun (by rw [runOp_inTurn f hturn]; exact h)

/-- A tenant ring is put in a state with a record of its own, and the event of its release is written. -/
def State.released (s : State) (t st mode : Nat) (x : Ring) : State := ((s.setRing t x).setRState t st).emit 5 4 [t, mode]

section
variable {t st mode : Nat} {x : Ring}

theorem ring_released : (s.released t st mode x).ring t = { x with st := st } := by
  unfold State.released
  rw [ring_emit, ring_setRState, ring_setRing_same]

theorem ring_released_ne {q : Nat} (h : q ≠ t) : (s.released t st mode x).ring q = s.ring q := by
  unfold State.released
  rw [ring_emit, ring_setRState_ne st h, ring_setRing_ne _ _ _ h]

theorem released_recorded : Recorded s (s.released t st mode x) 5 4 [t, mode] := by
  have hframe : Frame State.setRState_foot s ((s.setRing t x).setRState t st) :=
    State.setRState_frame (Sub.refl _) (State.setRing_frame (show _ &&& _ = _ by decide) (Frame.refl _ s) _ _) _ _
  exact Recorded.before (State.emit_recorded _ 5 4 [t, mode]) (hframe.recd rfl) (hframe.ts rfl)

theorem released_completed (h : Reports s d) (hne : d.ring ≠ t) (status : Nat) (ps : List (Nat × Nat × Nat)) :
    Completed s ((s.released t st mode x).complete d status ps) d status ps := by
  have hframe : Frame greetedFoot s (s.released t st mode x) := State.emit_frame (show _ &&& _ = _ by decide) (State.setRState_frame
    (show _ &&& _ = _ by decide) (State.setRing_frame (show _ &&& _ = _ by decide) (Frame.refl _ s) _ _) _ _) _ _ _
  have honly : RingsOnly s (s.released t st mode x) := ((ringsOnly_setRing ..).trans (ringsOnly_setRState ..)).trans (ringsOnly_emit ..)
  have hopen : StillOpen s (s.released t st mode x) d.ring := by
    obtain ⟨-, hlow, hhigh, -, -⟩ := h
    have hring := ring_released_ne (s := s) (st := st) (mode := mode) (x := x) hne
    exact ⟨by rw [hring], by rw [hring], by rw [hring]; exact hlow, by rw [hring]; exact hhigh⟩
  exact (complete_completed_rings h hframe (by decide +kernel) (by decide) honly hopen).2

end

theorem quarantineResume_answers : Claims.quarantineResume := by
  intro d s hrun hturn hreports hring ht hst
  refine Answers.op rfl hrun hturn ?_
  have hne : d.ring ≠ dB d.w 8 2 := by
    rw [hring]
    exact Nat.ne_of_gt ht
  have hop : Machine.quarantineResume d (picked s d) = (((picked s d).released (dB d.w 8 2) 2 0
      { (picked s d).ring (dB d.w 8 2) with bucket := 0 }).complete d 0 [(8, 4, ((picked s d).ring (dB d.w 8 2)).ign)]).tryFetch (dB d.w 8 2) := by
    unfold Machine.quarantineResume
    dsimp only
    rw [if_pos (by exact hst)]
    rfl
  rw [hop]
  have hreports' : Reports (picked s d) d := hreports
  have hcompleted := released_completed (st := 2) (mode := 0) (x := { (picked s d).ring (dB d.w 8 2) with bucket := 0 }) hreports' hne 0
    [(8, 4, ((picked s d).ring (dB d.w 8 2)).ign)]
  have hrecorded := released_recorded (s := picked s d) (t := dB d.w 8 2) (st := 2) (mode := 0)
    (x := { (picked s d).ring (dB d.w 8 2) with bucket := 0 })
  have hring' := ring_released (s := picked s d) (t := dB d.w 8 2) (st := 2) (mode := 0)
    (x := { (picked s d).ring (dB d.w 8 2) with bucket := 0 })
  generalize (picked s d).released (dB d.w 8 2) 2 0 { (picked s d).ring (dB d.w 8 2) with bucket := 0 } = u at *
  obtain ⟨hst', -, -, -, hbucket, -⟩ := ((flown_complete (s := u) (d := d) (q := dB d.w 8 2) 0
    [(8, 4, ((picked s d).ring (dB d.w 8 2)).ign)]).trans (flown_tryFetch (r := dB d.w 8 2))).kept
  rw [hring'] at hst' hbucket
  refine ⟨hbucket, hst', Completed.before_picked (Completed.after hcompleted (tryFetch_effect _ _).1 ?_), ?_⟩
  · rw [ring_tryFetch_ne hne]
  · have hrecd := (State.tryFetch_frame (Sub.refl _) (Frame.refl _ (u.complete d 0 [(8, 4, ((picked s d).ring (dB d.w 8 2)).ign)]))
      (dB d.w 8 2)).recd rfl
    exact Recorded.before (Recorded.after hrecorded (hrecd.trans (complete_same u d 0 _).2.2.2.2.1)) rfl rfl

theorem quarantineResumeRefused_answers : Claims.quarantineResumeRefused := by
  intro d s hrun hturn hreports hquar hstopped
  refine Answers.op rfl hrun hturn ?_
  have hop : Machine.quarantineResume d (picked s d) = ((picked s d).emit 5 4 [dB d.w 8 2, 0]).complete d 0x0600 [] := by
    unfold Machine.quarantineResume
    dsimp only
    rw [if_neg (by exact hquar), if_neg (by exact hstopped)]
  rw [hop]
  have hreports' : Reports (picked s d) d := hreports
  refine ⟨Completed.before_picked (complete_completed_frame hreports' (State.emit_frame (Sub.refl _) (Frame.refl _ _) _ _ _)
    (by decide +kernel) (by decide)), ?_⟩
  exact (flown_complete (s := (picked s d).emit 5 4 [dB d.w 8 2, 0]) (d := d) (q := dB d.w 8 2) 0x0600 []).kept.1.trans
    (congrArg Ring.st (ring_emit (picked s d) 5 4 [dB d.w 8 2, 0] _))

theorem quarantineReset_answers : Claims.quarantineReset := by
  intro d s hrun hturn hst
  refine Answers.op rfl hrun hturn ?_
  unfold Machine.quarantineReset
  dsimp only
  rw [if_pos (by exact hst), ring_setRing_same]
  exact ⟨rfl, rfl, rfl⟩

theorem quarantineResetDrained_answers : Claims.quarantineResetDrained := by
  intro r d s hrun hresets hfly hring hreports
  refine Answers.hub rfl hrun ?_
  have hne : d.ring ≠ r.val := by
    rw [hring]
    exact Nat.ne_of_gt r.isLt
  have hop : Machine.quarantineResetDrained r s = (s.released r 1 1 { gen := (s.ring r).gen, viol := (s.ring r).viol, ign := (s.ring r).ign }).complete
      d 0 [(8, 4, (s.ring r).ign)] := by
    unfold Machine.quarantineResetDrained
    dsimp only
    rw [hresets, if_neg (by simp [hfly])]
    rfl
  rw [hop, ring_complete_ne hne.symm, ring_released]
  refine ⟨rfl, rfl, rfl, rfl, rfl, rfl, rfl, released_completed hreports hne _ _, ?_⟩
  exact Recorded.after released_recorded (complete_same _ d 0 _).2.2.2.2.1

/-! ### The steward ring (R314, R317) -/

/-- HIF_SCTL.size is written only while the ring is disabled. -/
def State.sctlSized (s : State) (v : BitVec 32) : State := s.wr HIF_SCTL_size 0 (bits v.toNat 8 5)

theorem rd_sctlSized (v : BitVec 32) : (s.sctlSized v).rd HIF_SCTL_size = bits v.toNat 8 5 := by
  have hlt : bits v.toNat 8 5 < 2 ^ HIF_SCTL_size.width := Nat.mod_lt _ (by decide)
  unfold State.sctlSized
  rw [State.rd_wr_same, Nat.mod_eq_of_lt hlt]

theorem enableRing_effect (s : State) (r : Nat) : (s.enableRing r).ring r = { gen := (s.ring r).gen + 1, st := 1 } ∧
    Recorded s (s.enableRing r) 5 6 [r, 1, 0] := by
  unfold State.enableRing
  refine ⟨by rw [ring_emit, ring_setRState, ring_setRing_same], ?_⟩
  have hframe : Frame State.setRState_foot s ((s.setRing r { gen := (s.ring r).gen + 1 }).setRState r 1) :=
    State.setRState_frame (Sub.refl _) (State.setRing_frame (show _ &&& _ = _ by decide) (Frame.refl _ s) _ _) _ _
  exact Recorded.before (State.emit_recorded _ 5 6 [r, 1, 0]) (hframe.recd rfl) (hframe.ts rfl)

/-- A write of HIF_SCTL while the ring is disabled. -/
theorem hifSctlWrite_disabled {v : BitVec 32} (hunit : s.unitAnswers 5 = true) (hen : s.rd HIF_SCTL_en = 0) : Machine.hifSctlWrite v s =
    if bit v.toNat 0 && decide (6 ≤ bits v.toNat 8 5 ∧ bits v.toNat 8 5 ≤ 16) then ((s.sctlSized v).wr HIF_SCTL_en 0 1).enableRing stewardRing
    else s.sctlSized v := by
  have hwrite : Machine.hifSctlWrite v s =
      if bit v.toNat 0 && decide (6 ≤ (s.sctlSized v).rd HIF_SCTL_size ∧ (s.sctlSized v).rd HIF_SCTL_size ≤ 16) then
        ((s.sctlSized v).wr HIF_SCTL_en 0 1).enableRing stewardRing
      else s.sctlSized v := by
    unfold Machine.hifSctlWrite
    dsimp only
    rw [if_neg (by simp [hunit]), flag_of_rd_zero hen]
    rfl
  rw [hwrite, rd_sctlSized]

theorem hifSctlEnable_answers : Claims.hifSctlEnable := by
  intro v s hrun hunit hen hset hlow hhigh
  refine Answers.hub rfl hrun ?_
  rw [hifSctlWrite_disabled hunit hen, if_pos (by simp [hset, hlow, hhigh])]
  have hframe := State.enableRing_frame (Sub.refl _) (Frame.refl _ ((s.sctlSized v).wr HIF_SCTL_en 0 1)) stewardRing
  obtain ⟨hring, hrecorded⟩ := enableRing_effect ((s.sctlSized v).wr HIF_SCTL_en 0 1) stewardRing
  refine ⟨?_, ?_, hring, Recorded.before hrecorded rfl rfl⟩
  · rw [hframe.rd_of (by decide +kernel), State.rd_wr_same]
    rfl
  · rw [hframe.rd_of (by decide +kernel), State.rd_wr_sep _ _ _ _ _ _ (by decide), rd_sctlSized]

theorem hifSctlBadSize_answers : Claims.hifSctlBadSize := by
  intro v s hrun hunit hen hsize
  refine Answers.hub rfl hrun ?_
  have hout : ¬ (6 ≤ bits v.toNat 8 5 ∧ bits v.toNat 8 5 ≤ 16) := by omega
  rw [hifSctlWrite_disabled hunit hen, if_neg (by rw [decide_eq_false hout]; simp)]
  exact ⟨(State.rd_wr_sep _ _ _ _ _ _ (by decide)).trans hen, rd_sctlSized v, rfl⟩

/-- The headers kept of a ring are dropped, its record starts anew, and it is DISABLED. -/
def State.emptied (s : State) (r : Nat) : State :=
  ((s.setPar { s.par with hdrs := s.par.hdrs.filter fun e => decide (e.1 / 2 ^ 32 ≠ r) }).setRing r { gen := (s.ring r).gen + 1 }).setRState r 0

/-- The ring as disabled, before the releases that waited on it complete. -/
def State.shut (s : State) (r : Nat) : State := (s.emptied r).emit 5 6 [r, 0, (s.ring r).inFlight]

theorem shut_effect (s : State) (r : Nat) : (s.shut r).ring r = { gen := (s.ring r).gen + 1, st := 0 } ∧ RingsOnly s (s.shut r) ∧
    Recorded s (s.shut r) 5 6 [r, 0, (s.ring r).inFlight] := by
  have honly : RingsOnly s (s.emptied r) := RingsOnly.trans (by rfl) (ringsOnly_setRState _ r 0)
  have hframe : Frame (State.setRState_foot ||| 0x80000000) s (s.emptied r) :=
    State.setRState_frame (show _ &&& _ = _ by decide) (State.setRing_frame (show _ &&& _ = _ by decide)
      (Frame.set_par rfl (Frame.refl _ s)) _ _) _ _
  refine ⟨?_, honly.trans (ringsOnly_emit ..), Recorded.before (State.emit_recorded _ 5 6 _) (hframe.recd rfl) (hframe.ts rfl)⟩
  unfold State.shut State.emptied
  rw [ring_emit, ring_setRState, ring_setRing_same]

theorem disableRing_eq (s : State) (r : Nat) : s.disableRing r =
    (s.ring r).resets.foldl (fun u d => (u.emit 5 4 [r, 1]).complete d 0x0600 []) (s.shut r) := rfl

/-- Refused releases leave the other rings' records but for their own queues, and the units. -/
theorem foldl_refused (r : Nat) (l : List Desc) (s : State) :
    Flown (s.ring r) ((l.foldl (fun u d => (u.emit 5 4 [r, 1]).complete d 0x0600 []) s).ring r) ∧
      RingsOnly s (l.foldl (fun u d => (u.emit 5 4 [r, 1]).complete d 0x0600 []) s) := by
  induction l generalizing s with
  | nil => exact ⟨Flown.refl _, rfl⟩
  | cons d l ih =>
    obtain ⟨hflown, honly⟩ := ih ((s.emit 5 4 [r, 1]).complete d 0x0600 [])
    have hone : Flown (s.ring r) (((s.emit 5 4 [r, 1]).complete d 0x0600 []).ring r) := by
      have hcomplete := flown_complete (s := s.emit 5 4 [r, 1]) (d := d) (q := r) 0x0600 []
      rwa [ring_emit] at hcomplete
    exact ⟨hone.trans hflown, ((ringsOnly_emit s _ _ _).trans (ringsOnly_complete _ d _ _)).trans honly⟩

theorem hifSctlDisable_answers : Claims.hifSctlDisable := by
  intro v s hrun hunit hen hclear
  refine Answers.hub rfl hrun ?_
  have hdisable : Machine.hifSctlWrite v s = (s.wr HIF_SCTL_en 0 0).disableRing stewardRing := by
    unfold Machine.hifSctlWrite
    dsimp only
    rw [if_neg (by simp [hunit]), flag_of_rd_one hen, if_pos rfl, if_neg (by simp), if_pos (by simp [hclear])]
  rw [hdisable]
  have hframe := State.disableRing_frame (Sub.refl _) (Frame.refl _ (s.wr HIF_SCTL_en 0 0)) stewardRing
  obtain ⟨hring, honly, hrecorded⟩ := shut_effect (s.wr HIF_SCTL_en 0 0) stewardRing
  obtain ⟨hflown, honly'⟩ := foldl_refused stewardRing ((s.wr HIF_SCTL_en 0 0).ring stewardRing).resets ((s.wr HIF_SCTL_en 0 0).shut stewardRing)
  have hfold : Frame (State.emit_foot ||| State.complete_foot) ((s.wr HIF_SCTL_en 0 0).shut stewardRing)
      ((s.wr HIF_SCTL_en 0 0).disableRing stewardRing) := by
    rw [disableRing_eq]
    exact Frame.foldl (Frame.refl _ _) fun u d hu => State.complete_frame (show _ &&& _ = _ by decide)
      (State.emit_frame (show _ &&& _ = _ by decide) hu _ _ _) _ _ _
  rw [← disableRing_eq, hring] at hflown
  rw [← disableRing_eq] at honly'
  refine ⟨?_, ?_, hflown.kept.1, List.sublist_nil.1 hflown.2, (honly.trans honly').same.1, ?_⟩
  · rw [hframe.rd_of (by decide +kernel), State.rd_wr_same]
    rfl
  · rw [hframe.rd_of (by decide +kernel), State.rd_wr_sep _ _ _ _ _ _ (by decide)]
  · exact Recorded.before (hrecorded.framed hfold rfl) rfl rfl

end

/-- Settles O11. -/
theorem ringsAndQuarantine : Obligations.RingsAndQuarantine :=
  ⟨fp2TurnSteward_answers, fp2TurnRefused_answers, hello_answers, helloRefused_answers, quarantineResume_answers,
    quarantineResumeRefused_answers, quarantineReset_answers, quarantineResetDrained_answers, hifSctlEnable_answers,
    hifSctlBadSize_answers, hifSctlDisable_answers⟩

end Sys2Proof.Machine
end

section
/-!
PROOF. The tally port and the pools' arbiters (R242 to R252, R263).
-/
namespace Sys2Proof.Machine
open Sys2Proof.Claims

set_option Elab.async false

/-! ### Objects, lanes and pools -/

section
variable {s t : State} {o c p : Nat}

theorem obj_of_objs (h : t.tly.objs = s.tly.objs) (o : Nat) : t.obj o = s.obj o := by
  unfold State.obj
  rw [h]

theorem obj_setObj_same (s : State) (o : Nat) (x : TObj) : (s.setObj o x).obj o = x := mget_mput_same _ _ _ _

theorem lane_of_lanes (h : t.lanes = s.lanes) (c : Nat) : t.lane c = s.lane c := by
  unfold State.lane
  rw [h]

theorem lane_setLane_same (s : State) (c : Nat) (x : Lane) : (s.setLane c x).lane c = x := mget_mput_same _ _ _ _

theorem lane_setLane_ne {q : Nat} (x : Lane) (h : q ≠ c) : (s.setLane c x).lane q = s.lane q := mget_mput_ne _ _ _ h

theorem poolSt_setPool_same (s : State) (p : Nat) (x : PoolSt) : (s.setPool p x).poolSt p = x := mget_mput_same _ _ _ _

theorem obj_setPool (s : State) (p : Nat) (x : PoolSt) (o : Nat) : (s.setPool p x).obj o = s.obj o := rfl

theorem obj_wr (s : State) (f : Fld) (i v o : Nat) : (s.wr f i v).obj o = s.obj o := rfl

theorem objs_settleRound (s : State) (p n : Nat) : (s.settleRound p n).tly.objs = s.tly.objs := by
  unfold State.settleRound
  split
  · rfl
  · rfl

theorem objs_activate (s : State) (p n : Nat) : (s.activate p n).tly.objs = s.tly.objs := by
  unfold State.activate
  dsimp only
  split
  · rfl
  · rfl

theorem tly_refreshPool (s : State) (p : Nat) : (s.refreshPool p).tly = s.tly :=
  (State.refreshPool_frame (Sub.refl _) (Frame.refl _ s) p).tly rfl

theorem tly_retally (s : State) (c : Nat) : (s.retally c).tly = s.tly := (State.retally_frame (Sub.refl _) (Frame.refl _ s) c).tly rfl

/-- The pool and the choker of an object shown anew after a change. -/
theorem objs_shown (s : State) (p n c : Nat) : (((s.settleRound p n).refreshPool p).retally c).tly.objs = s.tly.objs := by
  rw [tly_retally, tly_refreshPool, objs_settleRound]

theorem shown_frame (s : State) (p n c : Nat) :
    Frame (State.refreshPool_foot ||| State.retally_foot ||| State.settleRound_foot) s (((s.settleRound p n).refreshPool p).retally c) :=
  State.retally_frame (show _ &&& _ = _ by decide) (State.refreshPool_frame (show _ &&& _ = _ by decide)
    (State.settleRound_frame (show _ &&& _ = _ by decide) (Frame.refl _ s) _ _) _) _

end

/-! ### Requests (R242 to R245, R263) -/

section
variable {s : State} {c : Nat} {l : Lane} {r : PortReq}

/-- Picking the request to present loses none. -/
theorem mem_pick (h : r ∈ l.req.toList ++ l.early) : r ∈ l.pick.req.toList ++ l.pick.early := by
  unfold Lane.pick
  dsimp only
  split
  · next x hx =>
    by_cases hr : r = x
    · rw [hr]
      exact List.mem_cons_self ..
    · exact List.mem_cons_of_mem _ ((List.mem_erase_of_ne hr).2 h)
  · generalize l.req.toList ++ l.early = all at h
    cases all with
    | nil => exact h
    | cons x xs => exact h

/-- A port that holds one request presents it. -/
theorem pick_single (h : l.req.toList ++ l.early = [r]) : l.pick = { l with req := some r, early := [] } := by
  unfold Lane.pick
  dsimp only
  rw [h]
  split
  · next x hx =>
    have hx := List.mem_singleton.1 (List.mem_of_find?_eq_some hx)
    rw [hx, List.erase_cons_head]
  · rfl

theorem lane_showHeld (s : State) (c q : Nat) : (s.showHeld c).lane q = s.lane q :=
  lane_of_lanes ((State.showHeld_frame (Sub.refl _) (Frame.refl _ s) c).lanes rfl) q

theorem tly_showHeld (s : State) (c : Nat) : (s.showHeld c).tly = s.tly := (State.showHeld_frame (Sub.refl _) (Frame.refl _ s) c).tly rfl

theorem obj_showHeld (s : State) (c o : Nat) : (s.showHeld c).obj o = s.obj o := obj_of_objs (congrArg Tly.objs (tly_showHeld s c)) o

theorem obj_setLane (s : State) (c : Nat) (x : Lane) (o : Nat) : (s.setLane c x).obj o = s.obj o := rfl

theorem tallyRequestHeld_answers : Claims.tallyRequestHeld := by
  intro core engine seq coll s hrun hheld
  refine Answers.hub rfl hrun ?_
  have hrequest : Machine.tallyRequest core engine seq coll false s =
      (s.setLane (chokerOf core engine) (Lane.pick { s.lane (chokerOf core engine) with
        early := (s.lane (chokerOf core engine)).early ++ [heldReq (chokerOf core engine) seq coll s] })).showHeld (chokerOf core engine) := by
    unfold Machine.tallyRequest
    dsimp only
    rw [if_neg (by simp), hheld, if_neg (by simp)]
    rfl
  rw [hrequest, lane_showHeld, lane_setLane_same]
  refine ⟨mem_pick (by simp), fun hreq hearly => ?_, ?_⟩
  · rw [pick_single (r := heldReq (chokerOf core engine) seq coll s) (by rw [hreq, hearly]; rfl)]
  · exact (State.showHeld_frame (Sub.refl _) (Frame.refl _ _) _).out rfl

theorem tallyRequestRefused_answers : Claims.tallyRequestRefused := by
  intro core engine seq coll s hrun hrefused
  refine Answers.hub rfl hrun ?_
  have hrequest : Machine.tallyRequest core engine seq coll false s = s.refuseReq (chokerOf core engine) seq.toNat := by
    unfold Machine.tallyRequest
    dsimp only
    rw [if_neg (by simp), if_pos hrefused]
  rw [hrequest]
  refine ⟨List.mem_append_right _ (List.mem_singleton.2 rfl), (State.refuseReq_frame (Sub.refl _) (Frame.refl _ s) _ _).lanes rfl, ?_⟩
  exact (State.rd_emitLim _ _ _ _ _ _ _ _ (by decide)).trans (State.rd_bump_same ..)

/-- The hub takes a request for which a fresh object is left. -/
theorem hubTake_fresh {m : Cmd} (hobj : s.rd TLY_TEN_ST_objects (bits m.word 24 9) < s.rd TLY_TEN_objmax (bits m.word 24 9))
    (hfresh : s.tly.fresh < 8192) :
    ((s.hubTake c r m).obj s.tly.fresh).state = 1 ∧ ((s.hubTake c r m).obj s.tly.fresh).tenant = bits m.word 24 9 ∧
      ((s.hubTake c r m).obj s.tly.fresh).engine = c ∧
      ((s.hubTake c r m).obj s.tly.fresh).amount = min (s.rd TLY_AMT_amount (c % 4 * 16 + bits m.word 2 4))
        (s.rd TLY_POOL_cap (if r.coll then s.rd TLY_PSEL_cpool c else s.rd TLY_PSEL_pool c)) ∧
      (s.hubTake c r m).lane c = { (s.lane c).served with prevPresented := some r.seq } ∧
      (s.hubTake c r m).tly.fresh = s.tly.fresh + 1 := by
  unfold State.hubTake
  dsimp only
  rw [if_neg (Nat.not_le.2 hobj), if_pos hfresh]
  dsimp only
  generalize (if r.coll then s.rd TLY_PSEL_cpool c else s.rd TLY_PSEL_pool c) = p
  rw [obj_showHeld, obj_setLane, obj_wr, obj_wr, obj_setObj_same, lane_showHeld, lane_setLane_same, tly_showHeld]
  refine ⟨rfl, rfl, rfl, rfl, ?_, ?_⟩
  · split <;> rfl
  · split <;> rfl

/-- A port with one request has it in front already. -/
theorem pickReq_single (hreq : (s.lane c).req = some r) (hearly : (s.lane c).early = []) :
    (s.pickReq c).lane c = s.lane c ∧ (s.pickReq c).tly = s.tly := by
  unfold State.pickReq
  refine ⟨?_, tly_showHeld _ _⟩
  rw [lane_showHeld, lane_setLane_same, pick_single (r := r) (by rw [hreq, hearly]; rfl), ← hreq, ← hearly]

theorem tallyRequestPresent_answers : Claims.tallyRequestPresent := by
  intro c r m s hrun hreq hearly hshown hcmd hbegun hobj horder hroom hfresh
  refine Answers.hub rfl hrun ?_
  obtain ⟨hlane, htly⟩ := pickReq_single hreq hearly
  have hframe := State.pickReq_frame (Sub.refl _) (Frame.refl _ s) c.val
  have hrd (f : Fld) (hf : untouched State.pickReq_foot f = true) (i : Nat) : (s.pickReq c).rd f i = s.rd f i := hframe.rd_of hf i
  have hstepping : (s.pickReq c).stepping c = s.stepping c := by
    unfold State.stepping State.flag
    rw [hrd _ (by decide +kernel)]
  have hrefused : (s.pickReq c).refused c r.seq = false := by
    unfold State.refused State.objOf
    rw [hlane, hcmd, htly]
    show (m.begun || (s.objOf c r.seq false).isSome) = false
    rw [hbegun, hobj]
    rfl
  have hpresent : Machine.tallyRequestPresent c s = (s.pickReq c).hubTake c { r with presented := true } m := by
    have hpresented : (s.pickReq c).present c { r with presented := true } = (s.pickReq c).hubTake c { r with presented := true } m := by
      unfold State.present
      dsimp only
      rw [hrefused, if_neg (by simp), hlane, hcmd]
      exact if_pos horder
    unfold Machine.tallyRequestPresent
    dsimp only
    rw [hlane, hreq]
    dsimp only
    rw [hstepping]
    exact (if_pos (by rcases hshown with h | h <;> simp [h])).trans hpresented
  rw [hpresent]
  have htake := hubTake_fresh (s := s.pickReq c) (c := c) (r := { r with presented := true }) (m := m)
  rw [htly, hlane, hrd _ (by decide +kernel), hrd _ (by decide +kernel), hrd _ (by decide +kernel), hrd _ (by decide +kernel),
    hrd _ (by decide +kernel), hrd _ (by decide +kernel)] at htake
  obtain ⟨hstate, htenant, hengine, hamount, hserved, hfresh'⟩ := htake hroom hfresh
  refine ⟨hstate, htenant, hengine, hamount, ?_, hfresh'⟩
  rw [hserved]
  unfold Lane.served Lane.pick
  dsimp only
  rw [hearly]
  rfl

end

/-! ### Admission and grants (R249 to R252) -/

section
variable {s : State}

theorem tallyAdmit_answers : Claims.tallyAdmit := by
  intro n o s hrun hhead hquota
  refine Answers.hub rfl hrun ?_
  unfold Machine.tallyAdmit
  split
  · next h => exact absurd (hhead.symm.trans h) (by simp)
  · next h =>
    obtain rfl := Option.some.inj (hhead.symm.trans h)
    rw [if_pos hquota]
    have hshown := State.refreshPool_frame (m := State.refreshPool_foot ||| State.activate_foot) (show _ &&& _ = _ by decide)
      (State.activate_frame (show _ &&& _ = _ by decide) (Frame.refl _ ((s.nextOrder.setObj o
        { s.obj o with admitted := true, tAdm := s.ts, oAdm := s.nextOrder.tly.order }).setCommitted n
          (s.rd TLY_TEN_ST_committed n + (s.obj o).amount))) (s.obj o).pool n) (s.obj o).pool
    have hobj : (((((s.nextOrder.setObj o { s.obj o with admitted := true, tAdm := s.ts, oAdm := s.nextOrder.tly.order }).setCommitted n
        (s.rd TLY_TEN_ST_committed n + (s.obj o).amount)).activate (s.obj o).pool n).refreshPool (s.obj o).pool).obj o) =
        { s.obj o with admitted := true, tAdm := s.ts, oAdm := s.nextOrder.tly.order } := by
      rw [obj_of_objs ((congrArg Tly.objs (tly_refreshPool _ _)).trans (objs_activate _ _ _))]
      exact obj_setObj_same s.nextOrder o _
    refine ⟨congrArg TObj.admitted hobj, congrArg TObj.tAdm hobj, ?_⟩
    exact (hshown.rd_of (by decide +kernel) _).trans (State.rd_wr_same ..)

/-- What a first grant counts, before the pool is shown (R264). -/
def State.grantCounted (s : State) (o : Nat) (x : TObj) : State :=
  if x.everGranted then s else
    let s := s.count (cntTenant x.tenant 11) 1
    let s := s.count (cntQueue x.queue 1) 1
    let s := if x.tAdm ≠ s.ts then
      ((s.count (cntTenant x.tenant 12) 1).count (cntDie 12) 1).count (cntQueue x.queue 0) 1 else s
    let s := s.count (cntTenant x.tenant 13) (s.ts - x.tAdm)
    { s with tly := { s.tly with drive := s.tly.drive ++ [(o, x.gen)] } }

theorem grantCounted_effect (s : State) (o : Nat) (x : TObj) :
    (s.grantCounted o x).tly.objs = s.tly.objs ∧ ∀ f i, (s.grantCounted o x).rd f i = s.rd f i := by
  unfold State.grantCounted
  dsimp only
  split
  · exact ⟨rfl, fun _ _ => rfl⟩
  · refine ⟨?_, fun f i => ?_⟩
    · split <;> simp only [State.count_same]
    · show State.rd (State.count _ _ _) f i = s.rd f i
      split <;> simp only [State.count_rd]

/-- An object as granted. -/
def State.grantedObj (s : State) (o : Nat) : TObj :=
  { s.obj o with state := 2, eligible := false, progSince := false, everGranted := true, tState := s.ts, tGrant := s.ts,
                 oGrant := s.nextOrder.tly.order }

theorem grantObj_effect (s : State) (o : Nat) : (s.grantObj o).obj o = s.grantedObj o ∧
    (s.grantObj o).rd TLY_POOL_ST_used (s.obj o).pool =
      (s.rd TLY_POOL_ST_used (s.obj o).pool + (s.obj o).amount) % 2 ^ TLY_POOL_ST_used.width := by
  have hgrant : s.grantObj o = let u := ((s.nextOrder.setObj o (s.grantedObj o)).wr TLY_POOL_ST_used (s.obj o).pool
        (s.rd TLY_POOL_ST_used (s.obj o).pool + (s.obj o).amount)).grantCounted o (s.obj o)
      (((u.setPool (s.obj o).pool { u.poolSt (s.obj o).pool with aged := (u.poolSt (s.obj o).pool).aged.filter (· ≠ o) }).settleRound
        (s.obj o).pool (s.obj o).tenant).refreshPool (s.obj o).pool).retally (s.obj o).engine := rfl
  rw [hgrant]
  dsimp only
  obtain ⟨hobjs, hrd⟩ := grantCounted_effect ((s.nextOrder.setObj o (s.grantedObj o)).wr TLY_POOL_ST_used (s.obj o).pool
    (s.rd TLY_POOL_ST_used (s.obj o).pool + (s.obj o).amount)) o (s.obj o)
  generalize State.grantCounted _ _ _ = u at *
  refine ⟨?_, ?_⟩
  · rw [obj_of_objs (objs_shown ..), obj_setPool, obj_of_objs hobjs, obj_wr, obj_setObj_same]
  · rw [(shown_frame ..).rd_of (by decide +kernel)]
    exact (hrd _ _).trans (State.rd_wr_same ..)

theorem tallyGrant_answers : Claims.tallyGrant := by
  intro p r rest o s hrun hfree hact hround hhead hdeficit hroom
  refine Answers.hub rfl hrun ?_
  have hround' : ((s.actPool p).poolSt p).round = r :: rest := (congrArg PoolSt.round (poolSt_setPool_same ..)).trans hround
  have hgrant : ∃ x, Machine.tallyGrant p s = ((s.actPool p).setPool p x).grantObj o := by
    unfold Machine.tallyGrant
    rw [if_neg (by simp [hfree, hact])]
    dsimp only
    rw [hround']
    dsimp only
    split
    · next h => exact absurd (hhead.symm.trans h) (by simp)
    · next h =>
      obtain rfl := Option.some.inj (hhead.symm.trans h)
      exact ⟨_, (if_pos hdeficit).trans (if_pos hroom)⟩
  obtain ⟨x, hgrant⟩ := hgrant
  rw [hgrant]
  obtain ⟨hobj, hused⟩ := grantObj_effect ((s.actPool p).setPool p x) o
  rw [hobj]
  exact ⟨rfl, rfl, hused⟩

/-! ### Releases (R246, R247) -/

theorem freeObj_effect {o : Nat} (hheld : (s.obj o).state ≠ 0) :
    ((s.freeObj o).obj o).state = 0 ∧ ((s.freeObj o).obj o).gen = ((s.obj o).gen + 1) % 256 := by
  unfold State.freeObj
  dsimp only
  rw [if_neg hheld, obj_of_objs (objs_shown ..), obj_setPool, obj_setObj_same]
  exact ⟨rfl, rfl⟩

theorem tallyRelease_answers : Claims.tallyRelease := by
  intro core engine id gen s hrun hheld hengine hgen
  refine Answers.hub rfl hrun ?_
  have hrelease : Machine.tallyRelease core engine id gen s =
      (s.freeObj id.toNat).send (.releaseResp (chokerOf core engine) id.toNat 0) := by
    unfold Machine.tallyRelease
    dsimp only
    rw [if_neg (by exact not_or.2 ⟨hheld, not_not.2 hengine⟩), if_pos hgen]
  rw [hrelease]
  exact ⟨(freeObj_effect hheld).1, (freeObj_effect hheld).2, List.mem_append_right _ (List.mem_singleton.2 rfl)⟩

theorem tallyReleaseWrong_answers : Claims.tallyReleaseWrong := by
  intro core engine id gen s hrun hwrong
  refine Answers.hub rfl hrun ?_
  unfold Machine.tallyRelease
  dsimp only
  rw [if_pos hwrong]
  refine ⟨(State.misuse_frame (Sub.refl _) (Frame.refl _ (s.bump TLY_VIOL_rel_err)) _ _ _ _).tly rfl,
    List.mem_append_right _ (List.mem_singleton.2 rfl), ?_⟩
  exact (State.rd_emitLim _ _ _ _ _ _ _ _ (by decide)).trans (State.rd_bump_same ..)

theorem tallyAutoRelease_answers : Claims.tallyAutoRelease := by
  intro core engine seq o s hrun hobj hheld
  refine Answers.hub rfl hrun ?_
  unfold Machine.tallyAutoRelease
  dsimp only
  split
  · next h => exact absurd (hobj.symm.trans h) (by simp)
  · next h =>
    obtain rfl := Option.some.inj (hobj.symm.trans h)
    refine ⟨?_, ?_⟩
    · have htly := (State.misuse_frame (Sub.refl _) (Frame.refl _ ((s.freeObj o).bump TLY_VIOL_late_rel)) (chokerOf core engine) 5 o
        seq.toNat).tly rfl
      rw [obj_of_objs (congrArg Tly.objs htly)]
      exact (freeObj_effect hheld).1
    · refine ((State.rd_emitLim _ _ _ _ _ _ _ _ (by decide)).trans (State.rd_bump_same ..)).trans ?_
      rw [(State.freeObj_frame (Sub.refl _) (Frame.refl _ s) o).rd_of (by decide +kernel)]

end

/-- Settles O2. -/
theorem tallyRequests : Obligations.TallyRequests :=
  ⟨tallyRequestHeld_answers, tallyRequestRefused_answers, tallyRequestPresent_answers, tallyAdmit_answers, tallyGrant_answers,
    tallyRelease_answers, tallyReleaseWrong_answers, tallyAutoRelease_answers⟩

end Sys2Proof.Machine
end

section
/-!
PROOF. Telemetry frames, phase timeouts and the dispatch tap (R17 to R21, R41 to R52).
-/
namespace Sys2Proof.Machine
open Sys2Proof.Claims

set_option Elab.async false

/-! ### Frames (R41 to R45, R52) -/

section
variable {s : State}

/-- A frame of an enabled lane in SYNC. -/
theorem tlmFrame_sync {lane : Fin 18} {frame : BitVec 1000} (hrun : s.running = true) (hlane : bit (s.rd SNS_CTL_lane_en) lane.val = true)
    (hstate : s.rd SNS_TLM_STAT_state lane.val = 2) : Machine.tlmFrame lane frame false s = s.syncFrame lane.val frame.toNat := by
  unfold Machine.tlmFrame
  dsimp only
  rw [if_neg (by simp [hrun, hlane]), if_neg (by simp), if_pos hstate]

/-- A frame whose sync word is right, as the checks of R52 leave it. -/
def State.judged (s : State) (l f0 : Nat) : State :=
  (s.setTlane l { s.tlane l with missSync := 0, prevTs := s.ts }).judge l (unscramble f0)

theorem rd_acceptFrame_temp (s : State) (l f : Nat) :
    (s.acceptFrame l f).rd SNS_PHT (8 * l + frTslot f) = unsgn 16 (sgn 12 (frTemp f) * 16) := by
  have htemp (u : State) : (u.takeTemp l f).rd SNS_PHT (8 * l + frTslot f) = unsgn 16 (sgn 12 (frTemp f) * 16) := by
    unfold State.takeTemp
    dsimp only
    rw [(State.stageTempCheck_frame (Sub.refl _) (Frame.refl _ _)).rd_of (by decide +kernel)]
    refine (State.rd_wr_same ..).trans (Nat.mod_eq_of_lt ?_)
    unfold unsgn
    have hmod : (sgn 12 (frTemp f) * 16) % 2 ^ 16 < 2 ^ 16 := Int.emod_lt_of_pos _ (by decide)
    have hnonneg : 0 ≤ (sgn 12 (frTemp f) * 16) % 2 ^ 16 := Int.emod_nonneg _ (by decide)
    show _ < 2 ^ 16
    omega
  unfold State.acceptFrame
  dsimp only
  rw [(State.traceTlm_frame (Sub.refl _) (Frame.refl _ _) _ _).rd_of (by decide +kernel), htemp]

theorem tlmFrameAccepted_answers : Claims.tlmFrameAccepted := by
  intro lane frame s hrun hlane hstate hsync hgood hnext
  refine Answers.hub rfl hrun ?_
  have haccept : s.syncFrame lane.val frame.toNat =
      (s.judged lane.val frame.toNat).acceptFrame lane.val (unscramble frame.toNat) := by
    unfold State.syncFrame
    dsimp only
    rw [if_neg (Nat.not_lt.2 hsync), hgood, if_neg (by simp), if_pos hnext]
    rfl
  rw [tlmFrame_sync hrun hlane hstate, haccept]
  exact rd_acceptFrame_temp ..

theorem tlmFrameCrc_answers : Claims.tlmFrameCrc := by
  intro lane frame s hrun hlane hstate hsync hcrc
  refine Answers.hub rfl hrun ?_
  have hgood : frameGood lane.val (unscramble frame.toNat) = false := by
    unfold frameGood
    rw [hcrc]
    rfl
  have hfail : s.syncFrame lane.val frame.toNat =
      ((s.setTlane lane.val { s.tlane lane.val with missSync := 0, prevTs := s.ts }).crcFail lane.val).missLane lane.val := by
    unfold State.syncFrame State.judge
    dsimp only
    rw [if_neg (Nat.not_lt.2 hsync), hgood, hcrc, if_pos (by rfl), if_pos (by rfl)]
  have hcount (u : State) (l : Nat) : (u.crcFail l).rd SNS_TLM_STAT_crc_err l = (u.rd SNS_TLM_STAT_crc_err l + 1) % 2 ^ 8 := by
    unfold State.crcFail
    dsimp only
    split
    · rw [State.rd_emitLim _ _ _ _ _ _ _ _ (by decide), State.rd_wr_sep _ _ _ _ _ _ (by decide), State.rd_emitLim _ _ _ _ _ _ _ _ (by decide)]
      exact State.rd_bump_same ..
    · rw [State.rd_emitLim _ _ _ _ _ _ _ _ (by decide)]
      exact State.rd_bump_same ..
  rw [tlmFrame_sync hrun hlane hstate, hfail, (State.missLane_frame (Sub.refl _) (Frame.refl _ _) _).rd_of (by decide +kernel), hcount]
  rfl

theorem rd_setTlane (s : State) (l : Nat) (x : TlmLane) (f : Fld) (i : Nat) : (s.setTlane l x).rd f i = s.rd f i := rfl

/-- A lane that has entered HUNT and is noted dark: the event, and the phases that miss their frame. -/
theorem darkened_effect (u : State) (l : Nat) (x : TlmLane) :
    (((u.setTlane l x).emit 7 1 []).missLane l).rd SNS_TLM_STAT_state l = u.rd SNS_TLM_STAT_state l ∧
      Recorded u (((u.setTlane l x).emit 7 1 []).missLane l) 7 1 [] := by
  have hmiss := State.missLane_frame (Sub.refl _) (Frame.refl _ ((u.setTlane l x).emit 7 1 [])) l
  refine ⟨?_, ?_⟩
  · rw [hmiss.rd_of (by decide +kernel), State.rd_emit _ _ _ _ _ _ (by decide)]
    rfl
  · exact Recorded.after (Recorded.before (State.emit_recorded (u.setTlane l x) 7 1 []) rfl rfl) (hmiss.recd rfl)

theorem tlmLaneDark_answers : Claims.tlmLaneDark := by
  intro lane s hrun hlane
  refine Answers.hub rfl hrun ?_
  have hhunt := State.toHunt_frame (Sub.refl _) (Frame.refl _ s) lane.val
  have hzero : (s.toHunt lane.val).rd SNS_TLM_STAT_state lane.val = 0 := by
    unfold State.toHunt
    dsimp only
    rw [rd_setTlane, State.rd_wr_same, Nat.zero_mod]
  unfold Machine.tlmLaneDark State.laneDark
  rw [if_pos hlane]
  obtain ⟨hstate, hrecorded⟩ := darkened_effect (s.toHunt lane.val) lane.val
    { (s.toHunt lane.val).tlane lane.val with dark := true, darkTs := ((s.toHunt lane.val).tlane lane.val).lastTs }
  exact ⟨hstate.trans hzero, Recorded.before hrecorded (hhunt.recd rfl) (hhunt.ts rfl)⟩

/-! ### Quality (R47 to R51) -/

theorem rd_refreshPh_quality {p : Nat} (hquality : s.quality p < 8) : (s.refreshPh p).rd SNS_PHQ_quality p = s.quality p := by
  have hshown : ((s.wr SNS_PHQ_quality p (s.quality p)).wr SNS_PHQ_current p (s.phCurrent p)).rd SNS_PHQ_quality p = s.quality p := by
    rw [State.rd_wr_sep _ _ _ _ _ _ (by decide), State.rd_wr_same]
    exact Nat.mod_eq_of_lt hquality
  unfold State.refreshPh
  dsimp only
  split
  · exact hshown
  · exact hshown

theorem ph_setPh_same (s : State) (p : Nat) (x : PhTlm) : (s.setPh p x).ph p = x := mget_mput_same _ _ _ _

/-- An event, and a phase's quality after it. -/
theorem quality_emit (s : State) (unit idx : Nat) (ps : List Nat) (p : Nat) : (s.emit unit idx ps).quality p = s.quality p := by
  unfold State.quality State.phaseOn State.ph
  simp only [State.emit_same]
  rw [State.rd_emit _ _ _ _ _ _ (by decide)]

/-- An event of a phase whose quality is shown anew. -/
theorem refreshed_recorded {p : Nat} {x : PhTlm} {idx q : Nat} {ps : List Nat} (hquality : (s.setPh p x).quality p = q) (hq : q < 8) :
    (((s.setPh p x).emit 7 idx ps).refreshPh p).rd SNS_PHQ_quality p = q ∧
      Recorded s (((s.setPh p x).emit 7 idx ps).refreshPh p) 7 idx ps := by
  refine ⟨?_, ?_⟩
  · rw [rd_refreshPh_quality (by rw [quality_emit, hquality]; exact hq), quality_emit, hquality]
  · exact Recorded.after (Recorded.before (State.emit_recorded (s.setPh p x) 7 idx ps) rfl rfl)
      ((State.refreshPh_frame (Sub.refl _) (Frame.refl _ _) _).recd rfl)

theorem phaseStale_answers : Claims.phaseStale := by
  intro p s hrun hon hstale hfault hfrozen hold
  refine Answers.hub rfl hrun ?_
  unfold Machine.phaseStale
  dsimp only
  rw [if_pos ⟨hon, by simp [hstale], hold⟩]
  refine refreshed_recorded ?_ (by decide)
  unfold State.quality
  dsimp only
  rw [ph_setPh_same, if_neg (by simp; exact hon)]
  dsimp only
  rw [hfault, hfrozen]
  rfl

theorem phaseFrozen_answers : Claims.phaseFrozen := by
  intro p s hrun hon hfrozen hfault hrunning
  refine Answers.hub rfl hrun ?_
  unfold Machine.phaseFrozen
  dsimp only
  rw [if_pos ⟨hon, by simp [hfrozen], hrunning⟩]
  refine refreshed_recorded ?_ (by decide)
  unfold State.quality
  dsimp only
  rw [ph_setPh_same, if_neg (by simp; exact hon)]
  dsimp only
  rw [hfault]
  rfl

theorem phaseTempStale_answers : Claims.phaseTempStale := by
  intro p s hrun hseen hold
  refine Answers.hub rfl hrun ?_
  unfold Machine.phaseTempStale
  dsimp only
  rw [if_pos ⟨hseen, hold⟩, (State.stageTempCheck_frame (Sub.refl _) (Frame.refl _ _)).rd_of (by decide +kernel), State.rd_wr_same]
  rfl

end

/-! ### The dispatch tap (R17 to R21) -/

section
variable {s : State} {core : Fin 64} {engine : Fin 4}

theorem fc_setFc_same (s : State) (core : Nat) (x : CoreFc) : (s.setFc core x).fc core = x := mget_mput_same _ _ _ _

theorem dispatch_answers : Claims.dispatch := by
  intro core engine rec s hrun hreset hengine hfree hroom
  refine Answers.hub rfl hrun ?_
  have hlatched : Machine.dispatch core engine rec false s = (s.setLane (chokerOf core engine) { s.lane (chokerOf core engine) with
      cmds := (s.lane (chokerOf core engine)).cmds ++
        [{ word := laneRec rec.toNat engine, spec := bit (laneRec rec.toNat engine) 11 }] }).noteDispatch core (laneRec rec.toNat engine) := by
    unfold Machine.dispatch
    dsimp only
    rw [if_neg (by simp [hreset]), if_neg (by simp), if_neg (not_not.2 hengine), hfree, if_neg (by simp), if_neg (Nat.not_le.2 hroom)]
  rw [hlatched]
  unfold State.noteDispatch
  dsimp only
  rw [fc_setFc_same]
  exact ⟨congrArg Lane.cmds (lane_setLane_same ..), rfl, rfl⟩

theorem tapViol_recorded {seq : Nat} (hlimit : mget s.recd.last (evCode 15 1 * 2 ^ 16 + core) 0 ≠ s.ts / usT + 1) :
    (s.tapViol core engine seq).lanes = s.lanes ∧ Recorded s (s.tapViol core engine seq) 15 1 [core, engine, seq] := by
  obtain ⟨-, -, hts, -, -, -, -, hrecd, -⟩ := State.count_same s (cntCore core 2) 1
  refine ⟨(State.tapViol_frame (Sub.refl _) (Frame.refl _ s) _ _ _).lanes rfl, ?_⟩
  exact Recorded.before (State.emitLim_recorded _ 15 1 core usT [core, engine, seq] (by rw [hrecd, hts]; exact hlimit)) hrecd hts

theorem dispatchTwice_answers : Claims.dispatchTwice := by
  intro core engine rec s hrun hreset hengine htwice hlimit
  refine Answers.hub rfl hrun ?_
  unfold Machine.dispatch
  dsimp only
  rw [if_neg (by simp [hreset]), if_neg (by simp), if_neg (not_not.2 hengine), if_pos htwice]
  exact tapViol_recorded hlimit

theorem dispatchMismatch_answers : Claims.dispatchMismatch := by
  intro core engine rec s hrun hreset
  refine Answers.hub rfl hrun ?_
  unfold Machine.dispatch
  dsimp only
  rw [if_neg (by simp [hreset]), if_pos (by rfl)]
  refine ⟨(State.crossErr_frame (Sub.refl _) (Frame.refl _ s) _).lanes rfl, ?_, ?_⟩
  · exact (State.rd_emit _ _ _ _ _ _ (by decide)).trans (State.rd_wr_same ..)
  · exact Recorded.before (State.emit_recorded _ 1 2 [0, 2]) rfl rfl

theorem lane_traceCmd (s : State) (c : Nat) (isEnd stepped unknown : Bool) (seq rec q : Nat) :
    (s.traceCmd c isEnd stepped unknown seq rec).lane q = s.lane q :=
  lane_of_lanes ((State.traceCmd_frame (Sub.refl _) (Frame.refl _ s) _ _ _ _ _ _).lanes rfl) q

theorem lane_resolveCmd (s : State) (core e seq : Nat) (squashed : Bool) (q : Nat) : (s.resolveCmd core e seq squashed).lane q = s.lane q :=
  lane_of_lanes ((State.resolveCmd_frame (Sub.refl _) (Frame.refl _ s) _ _ _ _).lanes rfl) q

theorem lane_count (s : State) (key n q : Nat) : (s.count key n).lane q = s.lane q :=
  lane_of_lanes ((State.count_frame (Sub.refl _) (Frame.refl _ s) _ _).lanes rfl) q

theorem lane_misuse (s : State) (c kind id tag q : Nat) : (s.misuse c kind id tag).lane q = s.lane q :=
  lane_of_lanes ((State.misuse_frame (Sub.refl _) (Frame.refl _ s) _ _ _ _).lanes rfl) q

theorem lane_bump (s : State) (f : Fld) (i q : Nat) : (s.bump f i).lane q = s.lane q := rfl

theorem beginStrobe_answers : Claims.beginStrobe := by
  intro core engine seq m s hrun hreset hcmd hbegun
  refine Answers.hub rfl hrun ?_
  have hmem : m ∈ (s.lane (chokerOf core engine)).cmds := List.mem_of_find?_eq_some hcmd
  have hfound : (!m.ended && decide (bits m.word 16 8 = seq.toNat)) = true := by
    have h := List.find?_some hcmd
    exact h
  unfold Machine.beginStrobe
  dsimp only
  rw [if_neg (by simp [hreset])]
  split
  · next h => exact absurd (hcmd.symm.trans h) (by simp)
  · next h =>
    obtain rfl := Option.some.inj (hcmd.symm.trans h)
    rw [hbegun, if_neg (by simp), lane_resolveCmd, lane_traceCmd, lane_count]
    refine ⟨{ m with begun := true, spec := false, stepped := s.stepping (chokerOf core engine) }, ?_, rfl, rfl, rfl⟩
    have hstarted : { m with begun := true, spec := false, stepped := s.stepping (chokerOf core engine) } ∈
        (s.lane (chokerOf core engine)).cmds.map fun x => if !x.ended && decide (bits x.word 16 8 = seq.toNat) then
          { x with begun := true, spec := false, stepped := s.stepping (chokerOf core engine) } else x :=
      List.mem_map.2 ⟨m, hmem, if_pos hfound⟩
    split
    · rw [lane_setLane_same]
      exact hstarted
    · rw [lane_misuse, lane_bump, lane_setLane_same]
      exact hstarted

/-- A lane whose begun command has ended. -/
def Lane.ended (l : Lane) (q : Nat) : Lane :=
  { l with cmds := l.cmds.map fun x => if !x.ended && decide (bits x.word 16 8 = q) then { x with ended := true } else x, unkBusy := false }

theorem findCmd_ended (l : Lane) (q : Nat) : findCmd (l.ended q) q = none := by
  refine List.find?_eq_none.2 fun x hx => ?_
  obtain ⟨y, -, rfl⟩ := List.mem_map.1 hx
  split
  · simp
  · next hy => exact hy

theorem endStrobe_answers : Claims.endStrobe := by
  intro core engine seq m s hrun hreset hcmd hbegun
  refine Answers.hub rfl hrun ?_
  unfold Machine.endStrobe
  dsimp only
  rw [if_neg (by simp [hreset])]
  split
  · next h => exact absurd (hcmd.symm.trans h) (by simp)
  · next h =>
    obtain rfl := Option.some.inj (hcmd.symm.trans h)
    rw [hbegun, if_pos rfl, if_pos rfl, lane_traceCmd]
    have hended (u : State) (hu : u.lane (chokerOf core engine) = (s.lane (chokerOf core engine)).ended seq.toNat) :
        (u.lane (chokerOf core engine)).unkBusy = false ∧ findCmd (u.lane (chokerOf core engine)) seq.toNat = none := by
      rw [hu]
      exact ⟨rfl, findCmd_ended _ _⟩
    split
    · exact hended _ (lane_setLane_same ..)
    · exact hended _ (lane_setLane_same ..)

/-- What leaves a lane's commands leaves them over a list. -/
theorem foldl_cmds {α : Type} (c : Nat) (g : State → α → State) (hg : ∀ u x, ((g u x).lane c).cmds = (u.lane c).cmds) (l : List α)
    (u : State) : ((l.foldl g u).lane c).cmds = (u.lane c).cmds := by
  induction l generalizing u with
  | nil => rfl
  | cons x l ih => exact (ih (g u x)).trans (hg u x)

theorem cmds_pick (l : Lane) : l.pick.cmds = l.cmds := by
  unfold Lane.pick
  dsimp only
  split <;> rfl

theorem lane_refuseReq (s : State) (c seq q : Nat) : (s.refuseReq c seq).lane q = s.lane q :=
  lane_of_lanes ((State.refuseReq_frame (Sub.refl _) (Frame.refl _ s) _ _).lanes rfl) q

/-- The requests of a squashed command leave the port, answered REFUSED; the lane's commands stay. -/
theorem dropSeq_cmds (u : State) (c k : Nat) :
    ((if (((u.lane c).req.toList ++ (u.lane c).early).filter fun r => decide (r.seq = k)).isEmpty then u
      else ((((u.lane c).req.toList ++ (u.lane c).early).filter fun r => decide (r.seq = k)).foldl (fun s _ => s.refuseReq c k)
        (u.setLane c ((u.lane c).dropSeq k))).showHeld c).lane c).cmds = (u.lane c).cmds := by
  split
  · rfl
  · rw [lane_showHeld, foldl_cmds c _ (fun v _ => congrArg Lane.cmds (lane_refuseReq v c k c)), lane_setLane_same]
    exact cmds_pick _

theorem squashStrobe_answers : Claims.squashStrobe := by
  intro core engine seq s hrun hreset
  refine Answers.hub rfl hrun ?_
  unfold Machine.squashStrobe
  dsimp only
  rw [if_neg (by simp [hreset])]
  refine (foldl_cmds (chokerOf core engine) _ (fun u m => ?_) _ _).trans ?_
  · rw [lane_resolveCmd]
    refine (dropSeq_cmds _ (chokerOf core engine) (bits m.word 16 8)).trans ?_
    split
    · exact congrArg Lane.cmds (lane_of_lanes ((State.freeObj_frame (Sub.refl _) (Frame.refl _ u) _).lanes rfl) _)
    · rfl
  · rw [lane_setLane_same]

end

/-- Settles O1. -/
theorem telemetryTap : Obligations.TelemetryTap :=
  ⟨tlmFrameAccepted_answers, tlmFrameCrc_answers, tlmLaneDark_answers, phaseStale_answers, phaseFrozen_answers, phaseTempStale_answers,
    dispatch_answers, dispatchTwice_answers, dispatchMismatch_answers, beginStrobe_answers, endStrobe_answers, squashStrobe_answers⟩

end Sys2Proof.Machine
end

section
/-!
PROOF. The core-rail controller at its instants (R132 to R154).
-/
namespace Sys2Proof.Machine
open Sys2Proof.Claims

set_option Elab.async false

/-! ### What follows an event on the power sequences -/

section
variable {s t : State}

/-- With no sequence in progress nothing follows. -/
theorem pmbSettle_of_idle (h : s.pmb.phase = 0) : s.pmbSettle = s := by
  unfold State.pmbSettle
  rw [if_neg (by rw [h]; decide)]
  unfold State.downCheck
  exact if_pos (Or.inl (by rw [h]; decide))

/-- A command of the regulator while no power sequence is in progress. -/
theorem Answers.settled {c : Instr} {f : State → State} {p : State → Prop} (harm : exec c s = hubOn (fun s => (f s).pmbSettle) s)
    (hrun : s.running = true) (hphase : s.pmb.phase = 0) (hpmb : (f s).pmb = s.pmb) (h : p (f s)) : Answers c s p :=
  Answers.hub harm hrun (by rw [pmbSettle_of_idle (hpmb ▸ hphase)]; exact h)

theorem clampI_bounds {lo hi : Int} (x : Int) (h : lo ≤ hi) : lo ≤ clampI lo hi x ∧ clampI lo hi x ≤ hi := by
  unfold clampI
  split_ifs <;> omega

/-- Rounding to nearest does not pass an integer above. -/
theorem roundNE_le {x : Int} {n d : Nat} (hd : 0 < d) (h : x ≤ (n : Int) * d) : roundNE x d ≤ n := by
  have hmod := Int.emod_lt_of_pos x (Int.natCast_pos.2 hd)
  have hmod' := Int.emod_nonneg x (Int.natCast_ne_zero.2 (Nat.ne_of_gt hd))
  have hdiv := Int.mul_ediv_add_emod x d
  have hq : x / (d : Int) ≤ n := Int.ediv_le_of_le_mul (Int.natCast_pos.2 hd) h
  unfold roundNE
  rw [if_neg (Nat.ne_of_gt hd)]
  dsimp only
  by_cases heq : x / (d : Int) = n
  · have hzero : x % (d : Int) = 0 := by
      rw [heq, Int.mul_comm] at hdiv
      omega
    rw [hzero, if_pos (by simpa using hd)]
    exact hq
  · have hlt : x / (d : Int) + 1 ≤ n := by omega
    split_ifs <;> omega

/-! ### Samples and the reference (R136 to R140) -/

theorem rd_deTrack (s : State) (f : Fld) (i : Nat) (hf : untouched State.deTrack_foot f = true) : s.deTrack.rd f i = s.rd f i :=
  (State.deTrack_frame (Sub.refl _) (Frame.refl _ s)).rd_of hf i

/-- Following the conditions of diode emulation changes its own state only. -/
theorem vrc_deTrack (s : State) : s.deTrack.vrc = { s.vrc with de := s.deTrack.vrc.de, deSince := s.deTrack.vrc.deSince } := by
  unfold State.deTrack
  dsimp only
  split <;> rfl

theorem tPid_pidLaw (s : State) (v : Nat) :
    -((s.vrc.n : Int) * 32768) ≤ (s.pidLaw v).vrc.tPid ∧ (s.pidLaw v).vrc.tPid ≤ (s.vrc.n : Int) * 32768 := by
  unfold State.pidLaw
  extract_lets c half e eF ef tD kiE acc kpE tPid tSs lim hi sat bound vrc u w
  have hw : w.vrc.tPid = tPid := by
    dsimp only [w]
    split <;> rfl
  show -half ≤ w.vrc.tPid ∧ w.vrc.tPid ≤ half
  rw [hw]
  exact clampI_bounds _ (show -half ≤ half by omega)

theorem pidSample_answers : Claims.pidSample := by
  intro v s hrun hts
  refine Answers.hub rfl hrun ?_
  have hn : ((s.wr VRC_VSENSE_vsense 0 v.toNat).dvfsReach).vrc = s.vrc :=
    (State.dvfsReach_frame (Sub.refl _) (Frame.refl _ (s.wr VRC_VSENSE_vsense 0 v.toNat))).vrc rfl
  have hsense : ((s.wr VRC_VSENSE_vsense 0 v.toNat).dvfsReach).rd VRC_VSENSE_vsense = v.toNat := by
    rw [(State.dvfsReach_frame (Sub.refl _) (Frame.refl _ _)).rd_of (by decide +kernel), State.rd_wr_same]
    exact Nat.mod_eq_of_lt v.isLt
  unfold Machine.pidSample
  rw [if_neg (by simp [hrun, hts])]
  extract_lets u sns w x
  have hx : x.vrc.n = s.vrc.n := by
    show u.vrc.n = s.vrc.n
    rw [hn]
  have hv : x.rd VRC_VSENSE_vsense = v.toNat :=
    ((State.uvTrack_frame (Sub.refl _) (Frame.refl _ w) v.toNat).rd_of (by decide +kernel) 0).trans hsense
  clear_value x
  rw [rd_deTrack _ _ _ (by decide +kernel), (State.pidLaw_frame (Sub.refl _) (Frame.refl _ x) v.toNat).rd_of (by decide +kernel), vrc_deTrack,
    ← hx]
  exact ⟨hv, tPid_pidLaw x v.toNat⟩

theorem checkReached_regulating (hstate : s.rd VRC_STAT_state = 2) : s.checkReached = s := by
  unfold State.checkReached
  dsimp only
  rw [hstate, if_neg (by simp), if_neg (by simp)]

/-- The slew credit at this instant (R137). -/
def State.slewCredit (s : State) : Nat := min (usT + s.rd VRC_SLEW_slew) (s.vrc.rampCr + (s.ts - s.vrc.rampTs) * s.rd VRC_SLEW_slew)

/-- The reference has taken its step to v, and the credit of it. -/
def State.refStepped (s : State) (v : Nat) : State :=
  let u := s.wr VRC_VREF_vref 0 v
  { u with vrc := { u.vrc with rampTs := u.ts, rampCr := s.slewCredit - usT, prebias := u.vrc.prebias && decide (v < u.vrc.startV + 4) },
           dvfs := { u.dvfs with vBegun := u.dvfs.vBegun || (u.isD && decide (u.rd CLK_DVFS_STAT_stage ≠ 0)) } }

theorem vrefRampStep_regulating (hstate : s.rd VRC_STAT_state = 2) (hmove : s.rd VRC_VREF_vref ≠ s.refTarget) (hcredit : usT ≤ s.slewCredit)
    (hheld : s.isD = false ∨ s.dvfs.vHeld = false) (hmid : s.vrc.pwmMid = false) : Machine.vrefRampStep s =
      (s.refStepped (if s.rd VRC_VREF_vref < s.refTarget then s.rd VRC_VREF_vref + 1 else s.rd VRC_VREF_vref - 1)).showDe.dvfsSettle := by
  have hstepped (v : Nat) : (s.refStepped v).showDe.checkReached = (s.refStepped v).showDe := by
    refine checkReached_regulating ?_
    exact (State.rd_wr_sep _ _ _ _ _ _ (by decide)).trans ((State.rd_wr_sep _ _ _ _ _ _ (by decide)).trans hstate)
  have hblocked : ¬ (s.rd VRC_STAT_state = 0 ∨ 4 ≤ s.rd VRC_STAT_state ∨ s.rd VRC_VREF_vref = s.refTarget ∨ s.slewCredit < usT ∨
      (s.isD = true ∧ s.dvfs.vHeld = true) ∨ (s.rd VRC_STAT_state = 1 ∧ s.vrc.trkHeld = true) ∨ s.vrc.pwmMid = true) := by
    rw [hstate, hmid]
    rcases hheld with h | h <;> simp [h, hmove, hcredit]
  rw [← hstepped]
  exact if_neg hblocked

theorem vrefRampStep_answers : Claims.vrefRampStep := by
  intro s hrun hphase hstate hmove hcredit hheld hmid
  refine Answers.settled rfl hrun hphase ((vrefRampStep_frame (Sub.refl _) (Frame.refl _ s)).pmb rfl) ?_
  have hcredit' : usT ≤ s.slewCredit := Nat.le_min.2 ⟨Nat.le_add_right _ _, hcredit⟩
  rw [vrefRampStep_regulating hstate hmove hcredit' hheld hmid]
  have hshown (u : State) : u.showDe.dvfsSettle.rd VRC_VREF_vref = u.rd VRC_VREF_vref ∧ u.showDe.dvfsSettle.vrc = u.vrc := by
    have hsettle := State.dvfsSettle_frame (Sub.refl _) (Frame.refl _ u.showDe)
    exact ⟨(hsettle.rd_of (by decide +kernel) 0).trans (State.rd_wr_sep _ _ _ _ _ _ (by decide)), hsettle.vrc rfl⟩
  obtain ⟨hrd, hvrc⟩ := hshown (s.refStepped (if s.rd VRC_VREF_vref < s.refTarget then s.rd VRC_VREF_vref + 1 else s.rd VRC_VREF_vref - 1))
  rw [hrd, hvrc]
  exact ⟨State.rd_wr_same .., rfl, rfl⟩

/-! ### The enables (R139, R153) -/

theorem enableDropStop_answers : Claims.enableDropStop := by
  intro n s hrun hphase hmid hdue hstate
  refine Answers.settled rfl hrun hphase ((enableDrop_frame (Sub.refl _) (Frame.refl _ s)).pmb rfl) ?_
  have hdrop : Machine.enableDrop s = s.enablesLow.wr VRC_STAT_state 0 0 := by
    unfold Machine.enableDrop
    rw [hmid]
    dsimp only
    rw [if_neg (Nat.not_lt.2 hdue)]
    exact if_pos hstate
  rw [hdrop]
  exact ⟨rfl, rfl, State.rd_wr_same ..⟩

theorem enableDropFault_answers : Claims.enableDropFault := by
  intro n s hrun hphase hmid hdue hstate
  refine Answers.settled rfl hrun hphase ((enableDrop_frame (Sub.refl _) (Frame.refl _ s)).pmb rfl) ?_
  have hdrop : Machine.enableDrop s = s.enablesLow.wr VRC_VREF_vref 0 0 := by
    unfold Machine.enableDrop
    rw [hmid]
    dsimp only
    rw [if_neg (Nat.not_lt.2 hdue)]
    exact (if_neg (show ¬ s.rd VRC_STAT_state = 3 by omega)).trans (if_pos hstate)
  rw [hdrop]
  exact ⟨rfl, State.rd_wr_same .., (State.rd_wr_sep _ _ _ _ _ _ (by decide)).trans hstate⟩

/-! ### Periods and edges (R132, R133, R141) -/

/-- What a step over the phases leaves of the controller: everything but the phases themselves. -/
def PhasesOnly (s t : State) : Prop := { t.vrc with phs := s.vrc.phs } = s.vrc

theorem PhasesOnly.trans {s t u : State} (h : PhasesOnly s t) (h' : PhasesOnly t u) : PhasesOnly s u := by
  unfold PhasesOnly at *
  calc { u.vrc with phs := s.vrc.phs } = { ({ u.vrc with phs := t.vrc.phs } : Vrc) with phs := s.vrc.phs } := rfl
    _ = s.vrc := by rw [h']; exact h

theorem phasesOnly_foldl {α : Type} {f : State → α → State} (hf : ∀ u a, PhasesOnly u (f u a)) (l : List α) (s : State) :
    PhasesOnly s (l.foldl f s) := by
  induction l generalizing s with
  | nil => rfl
  | cons a l ih => exact (hf s a).trans (ih (f s a))

theorem phasesOnly_setVph (s : State) (p v : Nat) (x : Phase) : PhasesOnly s ((s.wr VRC_PH_STAT_shed p v).setVph p x) := rfl

/-- The period that starts at k, with nothing to shed or to return. -/
def State.periodTaken (s : State) (k : Nat) : State :=
  let order := posOrder.filter s.phEnabled
  { s with vrc := { s.vrc with n := s.rd VRC_PWM_period, perStart := k, started := true, order := order,
                               tdHl := s.rd VRC_DT_td_hl (s.rd THM_STAT_band), tdLh := s.rd VRC_DT_td_lh (s.rd THM_STAT_band) } }

theorem phasesOnly_refreshPh (s : State) (p : Nat) : PhasesOnly s (s.refreshPh p) := by
  have hkept : (s.refreshPh p).vrc = s.vrc := (State.refreshPh_frame (Sub.refl _) (Frame.refl _ s) p).vrc rfl
  unfold PhasesOnly
  rw [hkept]

theorem pwmPeriodStart_answers : Claims.pwmPeriodStart := by
  intro k s hrun hphase hgrid hstarted hunshed hshed
  refine Answers.settled rfl hrun hphase ((pwmPeriodStart_frame (Sub.refl _) (Frame.refl _ s)).pmb rfl) ?_
  have hdue : ((List.range 144).filter fun p => decide ((s.vph p).shedPend ≠ 0) && s.phEnabled p) = [] := by
    refine List.filter_eq_nil_iff.2 fun p hp => ?_
    simp [hshed p (List.mem_range.1 hp)]
  suffices hphases : PhasesOnly (s.periodTaken k) (Machine.pwmPeriodStart s) by
    have hfields (u v : State) (h : PhasesOnly u v) : v.vrc.started = u.vrc.started ∧ v.vrc.perStart = u.vrc.perStart ∧ v.vrc.n = u.vrc.n ∧
        v.vrc.order = u.vrc.order ∧ v.vrc.tdHl = u.vrc.tdHl ∧ v.vrc.tdLh = u.vrc.tdLh := by
      unfold PhasesOnly at h
      rw [← h]
      exact ⟨rfl, rfl, rfl, rfl, rfl, rfl⟩
    exact hfields _ _ hphases
  unfold Machine.pwmPeriodStart
  split
  · next h => exact absurd (hgrid.symm.trans h) (by simp)
  · next h =>
    obtain rfl := Option.some.inj (hgrid.symm.trans h)
    rw [if_neg (by simp [hstarted])]
    extract_lets nOld back cleared src returned due shed order band src' taken counted begun shown
    have hreturned : returned = s := if_neg (by simp [hunshed])
    have hnone : due = [] := by
      dsimp only [due]
      rw [hreturned]
      exact hdue
    have htaken : taken = s.periodTaken k := by
      have hkept : shed = s := by
        dsimp only [shed]
        rw [hnone]
        exact hreturned
      dsimp only [taken, src', band, order]
      rw [hkept]
      rfl
    rw [if_neg (by simp [hnone]), ← htaken]
    have hbegun : PhasesOnly counted begun := phasesOnly_foldl (fun u p => phasesOnly_setVph u p _ _) _ _
    have hshown : PhasesOnly begun shown := phasesOnly_foldl phasesOnly_refreshPh _ _
    exact PhasesOnly.trans hbegun hshown

theorem vph_edgeDone (s : State) (p : Nat) (x : Phase) (b : Bool) : (s.edgeDone p x b).vph p = x := by
  unfold State.edgeDone State.vph State.setVph
  exact mget_mput_same ..

/-- A phase's leading edge: its instant, and its on-time within the limits (R135, R141). -/
theorem leadingEdge_taken (s : State) (p lead : Nat) : ((s.leadingEdge p lead).vph p).lead1 = true ∧
    ((s.leadingEdge p lead).vph p).lead = lead ∧ ((s.leadingEdge p lead).vph p).ton ≤ s.tLim ∧
    (((s.leadingEdge p lead).vph p).ton = 0 ∨ s.rd VRC_PWM_LIM_ton_min ≤ ((s.leadingEdge p lead).vph p).ton) := by
  unfold State.leadingEdge
  extract_lets x n ff q held de tFf carry raw drop x' noPulse x'' b lim r r' t ton
  have hton : ton ≤ s.tLim ∧ (ton = 0 ∨ s.rd VRC_PWM_LIM_ton_min ≤ ton) := by
    have hlim : r' ≤ (s.tLim : Int) * (65536 : Nat) := by
      have hr : r ≤ lim := Int.min_le_right ..
      dsimp only [r']
      split_ifs
      · exact (Int.min_le_left ..).trans hr
      · exact hr
    have ht : t ≤ s.tLim := Int.toNat_le.2 (roundNE_le (by decide) hlim)
    dsimp only [ton]
    split_ifs with h
    · exact ⟨Nat.zero_le _, .inl rfl⟩
    · exact ⟨ht, .inr (Nat.le_of_not_lt fun hc => h (.inr hc))⟩
  split
  · rw [vph_edgeDone]
    exact ⟨rfl, rfl, Nat.zero_le _, .inl rfl⟩
  split
  · rw [vph_edgeDone]
    exact ⟨rfl, rfl, Nat.zero_le _, .inl rfl⟩
  · rw [vph_edgeDone]
    exact ⟨rfl, rfl, hton⟩

theorem phaseLeadingEdge_answers : Claims.phaseLeadingEdge := by
  intro p k s hrun hdriving hstarted hpos hlow hhigh hlead
  refine Answers.hub rfl hrun ?_
  have hedge : Machine.phaseLeadingEdge p s = s.deTrack.leadingEdge p (s.vrc.perStart + k * s.vrc.n / s.nEn) := by
    unfold Machine.phaseLeadingEdge
    dsimp only
    rw [if_neg (by simp [hdriving, hstarted])]
    split
    · next h => exact absurd (hpos.symm.trans h) (by simp)
    · next h =>
      obtain rfl := Option.some.inj (hpos.symm.trans h)
      exact if_pos ⟨hlow, hhigh, by simp [hlead]⟩
  have hlim : s.deTrack.tLim = s.tLim := by
    unfold State.tLim State.tMax
    rw [vrc_deTrack]
    simp (disch := decide +kernel) only [rd_deTrack]
  have htaken := leadingEdge_taken s.deTrack p (s.vrc.perStart + k * s.vrc.n / s.nEn)
  rw [hlim, rd_deTrack _ _ _ (by decide +kernel)] at htaken
  rw [hedge]
  exact htaken

/-! ### Diode emulation (R144) -/

theorem deBelow_setDe (s : State) (b : Bool) (th : Nat) : (s.setDe b).deBelow th = s.deBelow th := by
  have hwr (u : State) (v : Nat) : (u.wr VRC_STAT_de 0 v).deBelow th = u.deBelow th := by
    unfold State.deBelow State.ffPh State.iLim State.foldFrac State.railTarget State.vTarget State.iBase State.icontEff State.ipeakEff
      State.ffNow State.ffRaw State.dieFc State.fcAt State.clocked State.flag
    simp (disch := decide) only [State.rd_wr_sep]
    rfl
  exact hwr _ _

theorem deSince_deTrack {n : Nat} (hsince : s.vrc.deSince = some n) (hbelow : s.deBelow (s.rd VRC_DE_enter) = true) :
    s.deTrack.vrc.deSince = some n := by
  have hsame (u : State) (hu : u.vrc.deSince = some n) (hb : u.deBelow (u.rd VRC_DE_enter) = true) :
      (if u.deBelow (u.rd VRC_DE_enter) then (match u.vrc.deSince with | some t => some t | none => some u.ts) else none) = some n := by
    rw [if_pos hb, hu]
  unfold State.deTrack
  dsimp only
  split
  · refine hsame (s.setDe false) hsince ?_
    rw [deBelow_setDe]
    exact (congrArg (fun v => s.deBelow v) (State.rd_wr_sep _ _ _ _ _ _ (by decide))).trans hbelow
  · rw [hsince]

theorem deEnter_answers : Claims.deEnter := by
  intro n s hrun hsince hbelow hdwell hen hstate hsat
  refine Answers.hub rfl hrun ?_
  have hsince' := deSince_deTrack hsince hbelow
  have hframe := State.deTrack_frame (Sub.refl _) (Frame.refl _ s)
  have hrd (f : Fld) (hf : untouched State.deTrack_foot f = true) : s.deTrack.rd f = s.rd f := hframe.rd_of hf 0
  have henter : Machine.deEnter s = s.deTrack.setDe true := by
    unfold Machine.deEnter
    dsimp only
    split
    · next h => exact absurd (hsince'.symm.trans h) (by simp)
    · next h =>
      obtain rfl := Option.some.inj (hsince'.symm.trans h)
      refine if_pos ⟨?_, ?_, ?_, ?_⟩
      · rw [hrd _ (by decide +kernel), hframe.ts rfl]
        exact hdwell
      · unfold State.flag
        rw [hrd _ (by decide +kernel)]
        exact hen
      · rw [hrd _ (by decide +kernel)]
        exact hstate
      · rw [vrc_deTrack]
        simp [hsat]
  rw [henter]
  refine ⟨?_, rfl⟩
  exact State.rd_wr_same ..

/-! ### Totals and trips (R149, R150, R153) -/

/-- A complete interval that has ended is taken. -/
theorem iTotFormed_full {i : Nat} (hrun : s.running = true) (hi : i = max s.vrc.nextInt (s.ts / 80 - 21)) (hdue : 80 * (i + 1) ≤ s.ts)
    (hfull : s.intervalFull i = true) : Machine.iTotFormed s = (s.takeTotal i (s.intervalTotal i)).hardOc := by
  subst hi
  unfold Machine.iTotFormed
  dsimp only
  rw [if_neg]
  rw [hrun, decide_eq_false (Nat.not_lt.2 hdue), hfull]
  simp

theorem ocRun_takeTotal (s : State) (i tot : Nat) : (s.takeTotal i tot).vrc.ocRun =
    if s.rd VRC_OCP_TRIP_itrip * 32 < tot then s.vrc.ocRun + 1 else 0 := rfl

theorem rd_takeTotal (s : State) (i tot : Nat) (f : Fld) (j : Nat) : (s.takeTotal i tot).rd f j = s.rd f j := rfl

theorem itot_takeTotal (s : State) (i tot : Nat) : (s.takeTotal i tot).vrc.itot = tot := rfl

theorem driving_takeTotal (s : State) (i tot : Nat) : (s.takeTotal i tot).driving = s.driving := rfl

theorem iTotFormed_answers : Claims.iTotFormed := by
  intro i s hrun hphase hi hdue hfull hno
  refine Answers.settled rfl hrun hphase ((iTotFormed_frame (Sub.refl _) (Frame.refl _ s)).pmb rfl) ?_
  have hquiet : (s.takeTotal i (s.intervalTotal i)).hardOc = s.takeTotal i (s.intervalTotal i) := by
    unfold State.hardOc
    refine if_neg ?_
    rw [driving_takeTotal, ocRun_takeTotal]
    rcases hno with h | h
    · simp [h]
    · have hlow : ¬ 4 ≤ (if s.rd VRC_OCP_TRIP_itrip * 32 < s.intervalTotal i then s.vrc.ocRun + 1 else 0) := by split_ifs <;> omega
      simp [hlow]
  rw [iTotFormed_full hrun hi hdue hfull, hquiet]
  refine ⟨rfl, rfl, ?_⟩
  unfold State.takeTotal
  dsimp only

/-- What a fault does once its record is captured: every PWM goes to mid, and the fault is shown and recorded. -/
def State.faulted (u : State) (code : Nat) (ps : List Nat) : State :=
  ((((((u.pwmToMid).wr VRC_STAT_state 0 4).wr VRC_STAT_fault 0 code).noDe).emit 9 1 ps).faultCause code).handover 1

theorem faulted_effect (u : State) (code : Nat) (ps : List Nat) :
    (u.faulted code ps).rd VRC_STAT_state = 4 ∧ (u.faulted code ps).rd VRC_STAT_fault = code % 2 ^ VRC_STAT_fault.width ∧
      (u.faulted code ps).vrc = { u.pwmToMid.vrc with de := false, prebias := false } ∧ Recorded u (u.faulted code ps) 9 1 ps := by
  have hafter := State.handover_frame (m := State.handover_foot ||| State.faultCause_foot) (show _ &&& _ = _ by decide)
    (State.faultCause_frame (show _ &&& _ = _ by decide) (Frame.refl _ ((((u.pwmToMid).wr VRC_STAT_state 0 4).wr VRC_STAT_fault 0 code).noDe.emit
      9 1 ps)) code) 1
  refine ⟨?_, ?_, ?_, ?_⟩
  · refine (hafter.rd_of (by decide +kernel) 0).trans ((State.rd_emit _ _ _ _ _ _ (by decide)).trans ?_)
    exact (State.rd_wr_sep _ _ _ _ _ _ (by decide)).trans ((State.rd_wr_sep _ _ _ _ _ _ (by decide)).trans (State.rd_wr_same ..))
  · refine (hafter.rd_of (by decide +kernel) 0).trans ((State.rd_emit _ _ _ _ _ _ (by decide)).trans ?_)
    exact (State.rd_wr_sep _ _ _ _ _ _ (by decide)).trans (State.rd_wr_same ..)
  · refine (hafter.vrc rfl).trans ?_
    simp only [State.emit_same]
    rfl
  · refine Recorded.framed ?_ hafter rfl
    exact Recorded.before (State.emit_recorded _ 9 1 ps) rfl rfl

theorem lfPend_lastFault (s : State) (code st tHot : Nat) : (s.lastFault code st tHot).vrc.lfPend = true := rfl

/-- A rail-off fault of a rail that the controller drives (R153, R157). -/
theorem railOffFault_fresh {code : Nat} (tHot : Nat) (hlow : 1 ≤ s.rd VRC_STAT_state) (hhigh : s.rd VRC_STAT_state ≤ 3) (hcode : code < 8) :
    (s.railOffFault code tHot).rd VRC_STAT_state = 4 ∧ (s.railOffFault code tHot).rd VRC_STAT_fault = code ∧
      (s.railOffFault code tHot).vrc.pwmMid = true ∧ (s.railOffFault code tHot).vrc.midT = some s.ts ∧
      (s.railOffFault code tHot).vrc.lfPend = true ∧
      Recorded s (s.railOffFault code tHot) 9 1 [code, s.rd VRC_VSENSE_vsense, 8 * s.vrc.itot, s.rd VRC_STAT_state] := by
  have hfault : s.railOffFault code tHot = (s.lastFault code (s.rd VRC_STAT_state) tHot).faulted code
      [code, s.rd VRC_VSENSE_vsense, 8 * s.vrc.itot, s.rd VRC_STAT_state] := by
    have hsense : ((((s.lastFault code (s.rd VRC_STAT_state) tHot).pwmToMid.wr VRC_STAT_state 0 4).wr VRC_STAT_fault 0 code).noDe).rd
        VRC_VSENSE_vsense = s.rd VRC_VSENSE_vsense := by
      refine (State.rd_wr_sep _ _ _ _ _ _ (by decide)).trans ((State.rd_wr_sep _ _ _ _ _ _ (by decide)).trans
        ((State.rd_wr_sep _ _ _ _ _ _ (by decide)).trans ?_))
      exact (State.lastFault_frame (Sub.refl _) (Frame.refl _ s) code _ tHot).rd_of (by decide +kernel) 0
    unfold State.railOffFault
    dsimp only
    rw [if_neg (by omega), if_neg (by omega), hsense]
    rfl
  have hlast := State.lastFault_frame (Sub.refl _) (Frame.refl _ s) code (s.rd VRC_STAT_state) tHot
  have hpend := lfPend_lastFault s code (s.rd VRC_STAT_state) tHot
  rw [hfault]
  generalize s.lastFault code (s.rd VRC_STAT_state) tHot = u at *
  obtain ⟨hstate, hcode', hvrc, hrecorded⟩ := faulted_effect u code [code, s.rd VRC_VSENSE_vsense, 8 * s.vrc.itot, s.rd VRC_STAT_state]
  rw [hvrc]
  refine ⟨hstate, hcode'.trans (Nat.mod_eq_of_lt ?_), rfl, congrArg some (hlast.ts rfl), hpend, Recorded.before hrecorded (hlast.recd rfl) (hlast.ts rfl)⟩
  exact Nat.lt_of_lt_of_le hcode (by decide)

theorem iTotTrips_answers : Claims.iTotTrips := by
  intro i s hrun hphase hi hdue hfull hdriving hoc htrip
  refine Answers.settled rfl hrun hphase ((iTotFormed_frame (Sub.refl _) (Frame.refl _ s)).pmb rfl) ?_
  have htrips : (s.takeTotal i (s.intervalTotal i)).hardOc =
      (s.takeTotal i (s.intervalTotal i)).railOffFault 2 (s.takeTotal i (s.intervalTotal i)).hotNode16 := by
    unfold State.hardOc
    refine if_pos ?_
    rw [driving_takeTotal, hdriving, ocRun_takeTotal, if_pos htrip, hoc]
    rfl
  rw [iTotFormed_full hrun hi hdue hfull, htrips]
  have hstate : 1 ≤ s.rd VRC_STAT_state ∧ s.rd VRC_STAT_state ≤ 3 := by
    unfold State.driving at hdriving
    simp only [Bool.and_eq_true, decide_eq_true_eq] at hdriving
    exact hdriving.1
  obtain ⟨hfour, hcode, hmid, -, -, hrecorded⟩ := railOffFault_fresh (s := s.takeTotal i (s.intervalTotal i)) (code := 2)
    (s.takeTotal i (s.intervalTotal i)).hotNode16 (by rw [rd_takeTotal]; exact hstate.1) (by rw [rd_takeTotal]; exact hstate.2) (by omega)
  rw [rd_takeTotal, rd_takeTotal, itot_takeTotal] at hrecorded
  have htotal := State.takeTotal_frame (Sub.refl _) (Frame.refl _ s) i (s.intervalTotal i)
  exact ⟨hfour, hcode, hmid, Recorded.before hrecorded (htotal.recd rfl) (htotal.ts rfl)⟩

theorem uvTimeout_answers : Claims.uvTimeout := by
  intro n s hrun hphase hsince hdue hstate
  refine Answers.settled rfl hrun hphase ((uvTimeout_frame (Sub.refl _) (Frame.refl _ s)).pmb rfl) ?_
  have hfault : Machine.uvTimeout s = s.railOffFault 3 s.hotNode16 := by
    unfold Machine.uvTimeout
    rw [hsince]
    exact if_pos ⟨hdue, hstate⟩
  rw [hfault]
  have hfresh := railOffFault_fresh (s := s) (code := 3) s.hotNode16 (by omega) (by omega) (by omega)
  rwa [hstate] at hfresh

/-- CROWBAR: the rail as the latch leaves it (R154). -/
def State.crowbarred (u : State) : State :=
  (((({ u with vrc := { u.vrc with pwmMid := false, enables := true, midT := none, trk := false, uvSince := none } } : State).wr
    VRC_STAT_state 0 5).wr VRC_STAT_fault 0 1).noDe).wr RST_CAUSE_crowbar 0 1

theorem rd_crowbarred (u : State) (f : Fld) (hstate : sepFld f VRC_STAT_state = true) (hfault : sepFld f VRC_STAT_fault = true)
    (hde : sepFld f VRC_STAT_de = true) (hcause : sepFld f RST_CAUSE_crowbar = true) : u.crowbarred.rd f = u.rd f := by
  unfold State.crowbarred
  rw [State.rd_wr_sep _ _ _ _ _ _ hcause]
  exact (State.rd_wr_sep _ _ _ _ _ _ hde).trans ((State.rd_wr_sep _ _ _ _ _ _ hfault).trans (State.rd_wr_sep _ _ _ _ _ _ hstate))

/-- What the recognition brings beside the rail: its event, a mirror, the stage and the handover. -/
def State.crowbarTold (u : State) (ps : List Nat) : State := (((u.emit 9 2 ps).mirrorCause 1).latchStage 4).handover 3

theorem crowbarTold_effect (u : State) (ps : List Nat) : (u.crowbarTold ps).vrc = u.vrc ∧ (u.crowbarTold ps).pmb = u.pmb ∧
    (∀ f ∈ [VRC_STAT_state, VRC_STAT_fault, RST_CAUSE_crowbar], (u.crowbarTold ps).rd f = u.rd f) ∧ Recorded u (u.crowbarTold ps) 9 2 ps := by
  have hafter := State.handover_frame (m := State.handover_foot ||| State.latchStage_foot ||| State.mirrorCause_foot)
    (show _ &&& _ = _ by decide) (State.latchStage_frame (show _ &&& _ = _ by decide) (State.mirrorCause_frame (show _ &&& _ = _ by decide)
      (Frame.refl _ (u.emit 9 2 ps)) 1) 4) 3
  obtain ⟨hvrc, hpmb⟩ : (u.emit 9 2 ps).vrc = u.vrc ∧ (u.emit 9 2 ps).pmb = u.pmb := by simp only [State.emit_same, and_self]
  refine ⟨(hafter.vrc rfl).trans hvrc, (hafter.pmb rfl).trans hpmb, fun f hf => ?_, (State.emit_recorded u 9 2 ps).framed hafter rfl⟩
  have hkept : ∀ f ∈ [VRC_STAT_state, VRC_STAT_fault, RST_CAUSE_crowbar],
      untouched (State.handover_foot ||| State.latchStage_foot ||| State.mirrorCause_foot) f = true ∧ sepFld f EVT_DROP_dropped = true := by
    decide +kernel
  exact (hafter.rd_of (hkept f hf).1 0).trans (State.rd_emit _ _ _ _ _ _ (hkept f hf).2)

/-- The over-voltage comparator is recognised while the rail is not latched. -/
theorem overVoltage_eq (hstate : s.rd VRC_STAT_state ≠ 5) : Machine.overVoltage s =
    (s.lastFault 1 (s.rd VRC_STAT_state) s.hotNode16).crowbarred.crowbarTold [s.rd VRC_VSENSE_vsense, s.rd VRC_OVP_level] := by
  have hlast := State.lastFault_frame (Sub.refl _) (Frame.refl _ s) 1 (s.rd VRC_STAT_state) s.hotNode16
  have hsense : (s.lastFault 1 (s.rd VRC_STAT_state) s.hotNode16).crowbarred.rd VRC_VSENSE_vsense = s.rd VRC_VSENSE_vsense :=
    (rd_crowbarred _ _ (by decide) (by decide) (by decide) (by decide)).trans (hlast.rd_of (by decide +kernel) 0)
  have hlevel : (s.lastFault 1 (s.rd VRC_STAT_state) s.hotNode16).crowbarred.rd VRC_OVP_level = s.rd VRC_OVP_level :=
    (rd_crowbarred _ _ (by decide) (by decide) (by decide) (by decide)).trans (hlast.rd_of (by decide +kernel) 0)
  rw [← hsense, ← hlevel]
  clear hsense hlevel hlast
  unfold Machine.overVoltage
  extract_lets st u v w x y z
  exact if_neg hstate

theorem crowbarred_effect (u : State) : u.crowbarred.rd VRC_STAT_state = 5 ∧ u.crowbarred.rd VRC_STAT_fault = 1 ∧
    u.crowbarred.rd RST_CAUSE_crowbar = 1 ∧ u.crowbarred.vrc.enables = true ∧ u.crowbarred.vrc.lfPend = u.vrc.lfPend := by
  refine ⟨?_, ?_, State.rd_wr_same .., rfl, rfl⟩
  · exact (State.rd_wr_sep _ _ _ _ _ _ (by decide)).trans ((State.rd_wr_sep _ _ _ _ _ _ (by decide)).trans
      ((State.rd_wr_sep _ _ _ _ _ _ (by decide)).trans (State.rd_wr_same ..)))
  · exact (State.rd_wr_sep _ _ _ _ _ _ (by decide)).trans ((State.rd_wr_sep _ _ _ _ _ _ (by decide)).trans (State.rd_wr_same ..))

/-- The rail latched and told of, from the state u that holds the captured record of s. -/
theorem crowbarTold_crowbarred {u : State} (ps : List Nat) (hpend : u.vrc.lfPend = true) (hbus : u.pmb = s.pmb) (hrecd : u.recd = s.recd)
    (hts : u.ts = s.ts) :
    (u.crowbarred.crowbarTold ps).rd VRC_STAT_state = 5 ∧ (u.crowbarred.crowbarTold ps).rd VRC_STAT_fault = 1 ∧
      (u.crowbarred.crowbarTold ps).rd RST_CAUSE_crowbar = 1 ∧ (u.crowbarred.crowbarTold ps).vrc.enables = true ∧
      (u.crowbarred.crowbarTold ps).vrc.lfPend = true ∧ (u.crowbarred.crowbarTold ps).pmb = s.pmb ∧
      Recorded s (u.crowbarred.crowbarTold ps) 9 2 ps := by
  obtain ⟨hfive, hfault, hcrowbar, henables, hkept⟩ := crowbarred_effect u
  obtain ⟨hvrc, hpmb, hrd, hrecorded⟩ := crowbarTold_effect u.crowbarred ps
  rw [hvrc]
  refine ⟨(hrd _ List.mem_cons_self).trans hfive, (hrd VRC_STAT_fault ?_).trans hfault, (hrd RST_CAUSE_crowbar ?_).trans hcrowbar, henables,
    hkept.trans hpend, hpmb.trans hbus, Recorded.before hrecorded hrecd hts⟩
  · exact List.mem_cons_of_mem _ List.mem_cons_self
  · exact List.mem_cons_of_mem _ (List.mem_cons_of_mem _ List.mem_cons_self)

theorem overVoltage_effect (hstate : s.rd VRC_STAT_state ≠ 5) :
    (Machine.overVoltage s).rd VRC_STAT_state = 5 ∧ (Machine.overVoltage s).rd VRC_STAT_fault = 1 ∧
      (Machine.overVoltage s).rd RST_CAUSE_crowbar = 1 ∧ (Machine.overVoltage s).vrc.enables = true ∧
      (Machine.overVoltage s).vrc.lfPend = true ∧ (Machine.overVoltage s).pmb = s.pmb ∧
      Recorded s (Machine.overVoltage s) 9 2 [s.rd VRC_VSENSE_vsense, s.rd VRC_OVP_level] := by
  have hlast := State.lastFault_frame (Sub.refl _) (Frame.refl _ s) 1 (s.rd VRC_STAT_state) s.hotNode16
  rw [overVoltage_eq hstate]
  exact crowbarTold_crowbarred _ (lfPend_lastFault ..) (hlast.pmb rfl) (hlast.recd rfl) (hlast.ts rfl)

theorem prefix_emit {u : State} {src kind : Nat} {ps : List Nat} (h : u.recd = s.recd) :
    s.recd.queue <+: (u.emit src kind ps).recd.queue :=
  h ▸ (State.emit_frame (Sub.refl _) (Frame.refl _ u) src kind ps).queue rfl

/-- The registers that the end of a power-down may write. -/
def downEndFlds : List Fld := [PMB_STAT_seq, RST_SEQ_stage, RST_SEQ_cause, EVT_DROP_dropped]

/-- With no group left to stop the power-down is over (R169). -/
theorem downNext_none (hstarted : s.pmb.started = []) : s.downNext.pmb.phase = 0 ∧ s.downNext.vrc = s.vrc ∧
    (∀ f, downEndFlds.all (sepFld f) = true → s.downNext.rd f = s.rd f) ∧ s.recd.queue <+: s.downNext.recd.queue ∧
    (s.pmb.failed = false → s.downNext.rd PMB_STAT_seq = 0) := by
  have hsep (f : Fld) (hf : downEndFlds.all (sepFld f) = true) : sepFld f PMB_STAT_seq = true ∧ sepFld f RST_SEQ_stage = true ∧
      sepFld f RST_SEQ_cause = true ∧ sepFld f EVT_DROP_dropped = true := by
    simpa [downEndFlds] using hf
  unfold State.downNext
  rw [hstarted]
  dsimp only
  cases hfailed : s.pmb.failed
  · rw [if_neg (show ¬ (false = true) by decide), if_neg (fun h => absurd (hfailed.symm.trans h.1) (by decide))]
    exact ⟨rfl, rfl, fun f hf => State.rd_wr_sep _ _ _ _ _ _ (hsep f hf).1, List.prefix_refl _, fun _ => State.rd_wr_same ..⟩
  · rw [if_pos rfl]
    split
    · refine ⟨?_, ?_, fun f hf => ?_, ?_, fun h => absurd h (by decide)⟩
      · simp only [State.emit_same]
        rfl
      · simp only [State.emit_same]
        rfl
      · obtain ⟨hseq, hstage, hcause, hdrop⟩ := hsep f hf
        rw [State.rd_emit _ _ _ _ _ _ hdrop, State.rd_wr_sep _ _ _ _ _ _ hcause, State.rd_wr_sep _ _ _ _ _ _ hstage]
        exact State.rd_wr_sep _ _ _ _ _ _ hseq
      · exact prefix_emit rfl
    · exact ⟨rfl, rfl, fun f hf => State.rd_wr_sep _ _ _ _ _ _ (hsep f hf).1, List.prefix_refl _, fun h => absurd h (by decide)⟩

/-- Stopping the sequences changes the bus queue and the energy of a sweep. -/
theorem seqStop_effect (s : State) : s.seqStop.regs = s.regs ∧ s.seqStop.fuse = s.fuse ∧ s.seqStop.vrc = s.vrc ∧ s.seqStop.recd = s.recd ∧
    (s.pmb.phase = 0 → s.seqStop.pmb.started = s.pmb.started) := by
  unfold State.seqStop State.sweepStop
  dsimp only
  split
  · exact ⟨rfl, rfl, rfl, rfl, fun h => if_neg fun hc => absurd (h.symm.trans hc.1) (by decide)⟩
  · exact ⟨rfl, rfl, rfl, rfl, fun h => if_neg fun hc => absurd (h.symm.trans hc.1) (by decide)⟩

/-- The power-down of a block with no group started ends at once (R169). -/
theorem powerDown_none (hphase : s.pmb.phase = 0) (hstarted : s.pmb.started = []) :
    s.powerDown.pmb.phase = 0 ∧ s.powerDown.vrc = s.vrc ∧ (∀ f, downEndFlds.all (sepFld f) = true → s.powerDown.rd f = s.rd f) ∧
      s.recd.queue <+: s.powerDown.recd.queue := by
  unfold State.powerDown
  split
  · exact ⟨hphase, rfl, fun _ _ => rfl, List.prefix_refl _⟩
  · obtain ⟨hregs, hfuse, hvrc, hrecd, hkept⟩ := seqStop_effect s
    obtain ⟨hidle, hvrc', hrd, hqueue, -⟩ := downNext_none (s := s.seqStop.wr PMB_STAT_seq 0 4) ((hkept hphase).trans hstarted)
    refine ⟨hidle, hvrc'.trans hvrc, fun f hf => (hrd f hf).trans ?_, hrecd ▸ hqueue⟩
    have hseq : sepFld f PMB_STAT_seq = true := (Bool.and_eq_true_iff.1 hf).1
    exact (State.rd_wr_sep _ _ _ _ _ _ hseq).trans (rd_of_regs hregs hfuse f 0)

theorem overVoltage_answers : Claims.overVoltage := by
  intro s hrun hphase hstarted hstate
  refine Answers.hub (f := fun s => if s.rd VRC_STAT_state = 5 then s else (Machine.overVoltage s).powerDown.pmbSettle) rfl hrun ?_
  rw [if_neg hstate]
  obtain ⟨hfive, hfault, hcrowbar, henables, hpend, hpmb, hrecorded⟩ := overVoltage_effect hstate
  obtain ⟨hidle, hvrc, hrd, hqueue⟩ := powerDown_none (s := Machine.overVoltage s) (hpmb ▸ hphase) (hpmb ▸ hstarted)
  rw [pmbSettle_of_idle hidle, hvrc, hrd _ (by decide), hrd _ (by decide), hrd _ (by decide)]
  refine ⟨hfive, hfault, hcrowbar, henables, hpend, fun hroom => ?_⟩
  obtain ⟨x, hx, hcode, hparams, hts⟩ := hrecorded hroom
  exact ⟨x, hqueue.subset hx, hcode, hparams, hts⟩

/-! ### Tracking (R138, R139) -/

theorem trackDelivery_answers : Claims.trackDelivery := by
  intro vm s hrun htrk hmode
  refine Answers.hub rfl hrun ?_
  unfold Machine.trackDelivery
  dsimp only
  rw [if_neg (by rw [htrk]; rcases hmode with h | h <;> simp [h])]
  exact ⟨rfl, rfl, rfl, rfl⟩

theorem trackHoldStart_answers : Claims.trackHoldStart := by
  intro s hrun htrk hlate hstate hheld
  refine Answers.hub rfl hrun ?_
  unfold Machine.trackHoldTimeout
  rw [if_pos ⟨htrk, hlate⟩, if_neg (by omega), if_pos ⟨hstate, by simp [hheld]⟩]
  refine ⟨?_, Recorded.before (State.emit_recorded _ 9 7 [s.rd VRC_TRK_master, s.rd VRC_VREF_vref]) rfl rfl⟩
  simp only [State.emit_same]

theorem trackHoldStop_answers : Claims.trackHoldStop := by
  intro s hrun htrk hlate hstate
  refine Answers.hub rfl hrun ?_
  unfold Machine.trackHoldTimeout State.trackEnd
  rw [if_pos ⟨htrk, hlate⟩, if_pos hstate, if_pos ⟨hstate, htrk⟩]
  refine ⟨?_, Recorded.before (State.emit_recorded _ 9 7 [s.rd VRC_TRK_master, s.rd VRC_VREF_vref]) rfl rfl⟩
  simp only [State.emit_same]

end

/-- Settles O6. -/
theorem coreRail : Obligations.CoreRail :=
  ⟨pidSample_answers, vrefRampStep_answers, enableDropStop_answers, enableDropFault_answers, pwmPeriodStart_answers,
    phaseLeadingEdge_answers, deEnter_answers, iTotFormed_answers, iTotTrips_answers, uvTimeout_answers, overVoltage_answers,
    trackDelivery_answers, trackHoldStart_answers, trackHoldStop_answers⟩

end Sys2Proof.Machine
end

section
/-!
PROOF. The auxiliary rails and the power sequences (R160 to R173).
-/
namespace Sys2Proof.Machine
open Sys2Proof.Claims

set_option Elab.async false

section
variable {s t : State}

/-! ### The bus queue -/

theorem regs_pmbIssue (s : State) : s.pmbIssue.regs = s.regs ∧ s.pmbIssue.fuse = s.fuse := by
  unfold State.pmbIssue
  split
  · exact ⟨rfl, rfl⟩
  · split <;> exact ⟨rfl, rfl⟩

@[simp] theorem rd_pmbIssue (s : State) (f : Fld) (i : Nat) : s.pmbIssue.rd f i = s.rd f i :=
  rd_of_regs (regs_pmbIssue s).1 (regs_pmbIssue s).2 f i

/-- Putting the head on the bus changes of the sequences only that the bus is busy. -/
theorem pmb_pmbIssue (s : State) : s.pmbIssue.pmb = { s.pmb with busy := s.pmbIssue.pmb.busy } := by
  unfold State.pmbIssue
  split
  · rfl
  · split <;> rfl

theorem prefix_pmbIssue (s : State) : s.out <+: s.pmbIssue.out := by
  unfold State.pmbIssue
  split
  · exact List.prefix_refl _
  · split
    · exact List.prefix_refl _
    · exact prefix_send ..

@[simp] theorem rd_pmbQueue (s : State) (os : List PmbOp) (f : Fld) (i : Nat) : (s.pmbQueue os).rd f i = s.rd f i := rd_pmbIssue _ f i

theorem pmb_pmbQueue (s : State) (os : List PmbOp) :
    (s.pmbQueue os).pmb = { s.pmb with q := s.pmb.q ++ os, busy := (s.pmbQueue os).pmb.busy } := pmb_pmbIssue _

@[simp] theorem rd_pmbNext (s : State) (os : List PmbOp) (f : Fld) (i : Nat) : (s.pmbNext os).rd f i = s.rd f i := rd_pmbIssue _ f i

theorem pmb_pmbNext (s : State) (os : List PmbOp) :
    (s.pmbNext os).pmb = { s.pmb with q := (s.pmbNext os).pmb.q, busy := (s.pmbNext os).pmb.busy } := by
  unfold State.pmbNext
  rw [pmb_pmbIssue]
  rfl

theorem mem_pmbNext {os : List PmbOp} {o : PmbOp} (ho : o ∈ os) : o ∈ (s.pmbNext os).pmb.q := by
  unfold State.pmbNext
  rw [pmb_pmbIssue]
  show o ∈ if s.pmb.busy then s.pmb.q.take 1 ++ os ++ s.repage (s.pmb.q.drop 1) else os ++ s.repage s.pmb.q
  split
  · exact List.mem_append_left _ (List.mem_append_right _ ho)
  · exact List.mem_append_left _ ho

theorem pmb_pmbDrop (s : State) (p : PmbOp → Bool) : (s.pmbDrop p).pmb = { s.pmb with q := (s.pmbDrop p).pmb.q } := rfl

theorem mem_groupOps (s : State) (purpose g : Nat) :
    ({ purpose := purpose, grp := g, rail := 16, cmd := 0x01 } : PmbOp) ∈ s.groupOps purpose g :=
  List.mem_append_right _ List.mem_cons_self

theorem mem_railOps {cmds : List Nat} {c : Nat} (purpose r : Nat) (hc : c ∈ cmds) :
    ({ purpose := purpose, grp := s.rd PMB_RAIL_group r, rail := r, cmd := c } : PmbOp) ∈ s.railOps purpose r cmds :=
  List.mem_append_right _ (List.mem_map_of_mem hc)

theorem satU_lt (w : Nat) (i : Int) : satU w i < 2 ^ w := by
  have hpos : 0 < (2 : Int) ^ w := by positivity
  have hbound := (clampI_bounds (lo := 0) (hi := (2 : Int) ^ w - 1) i (by omega))
  have hcast : ((2 ^ w : Nat) : Int) = (2 : Int) ^ w := by push_cast; rfl
  unfold satU
  omega

theorem voutUnits_lt (y : Nat) (n : Int) : voutUnits y n < 2 ^ PMB_RAIL_V.width := by
  unfold voutUnits
  split
  · exact Nat.lt_of_lt_of_le (satU_lt 16 _) (by decide)
  · exact Nat.lt_of_lt_of_le (satU_lt 16 _) (by decide)

/-! ### Transactions (R160 to R162) -/

/-- What follows a transaction that has ended (R165 to R171). -/
def State.pmbFollow (s : State) (o : PmbOp) : State := (((s.pollAgain o).sweepEnd).discoverEnd.pmbSettle).alertStep.pmbIssue

theorem rd_pmbFollow (s : State) (o : PmbOp) (i : Nat) : (s.pmbFollow o).rd PMB_RAIL_V i = s.rd PMB_RAIL_V i := by
  have hpoll := (State.pollAgain_frame (Sub.refl _) (Frame.refl _ s) o).rd_of (f := PMB_RAIL_V) (by decide +kernel) i
  have hsweep := (State.sweepEnd_frame (Sub.refl _) (Frame.refl _ (s.pollAgain o))).rd_of (f := PMB_RAIL_V) (by decide +kernel) i
  have hfound := (State.discoverEnd_frame (Sub.refl _) (Frame.refl _ (s.pollAgain o).sweepEnd)).rd_of (f := PMB_RAIL_V) (by decide +kernel) i
  have hsettle (u : State) := (State.pmbSettle_frame (Sub.refl _) (Frame.refl _ u)).rd_of (f := PMB_RAIL_V) (by decide +kernel) i
  have halert (u : State) := (State.alertStep_frame (Sub.refl _) (Frame.refl _ u)).rd_of (f := PMB_RAIL_V) (by decide +kernel) i
  unfold State.pmbFollow
  rw [rd_pmbIssue, halert, hsettle, hfound, hsweep, hpoll]

theorem rd_voutRead (s : State) (o : PmbOp) (y : Nat) (hpurpose : o.purpose = 7) :
    (s.voutRead o y).rd PMB_RAIL_V o.rail = voutUnits y (s.railExp o.rail) := by
  have hread : s.voutRead o y = if (s.wr PMB_RAIL_V o.rail (voutUnits y (s.railExp o.rail))).railState o.rail = 3 then
      (s.wr PMB_RAIL_V o.rail (voutUnits y (s.railExp o.rail))).railJudge o.rail
      else s.wr PMB_RAIL_V o.rail (voutUnits y (s.railExp o.rail)) := by
    unfold State.voutRead
    dsimp only
    rw [hpurpose]
    simp
  have hv : (s.wr PMB_RAIL_V o.rail (voutUnits y (s.railExp o.rail))).rd PMB_RAIL_V o.rail = voutUnits y (s.railExp o.rail) :=
    (State.rd_wr_same ..).trans (Nat.mod_eq_of_lt (voutUnits_lt y (s.railExp o.rail)))
  rw [hread]
  split
  · exact ((State.railJudge_frame (Sub.refl _) (Frame.refl _ _) _).rd_of (by decide +kernel) _).trans hv
  · exact hv

theorem pmbTransactionDone_answers : Claims.pmbTransactionDone := by
  intro data o rest s hrun hclk hbusy hq hpurpose hcmd hrail
  refine Answers.hub rfl hrun ?_
  have hdone : Machine.pmbTransactionDone 0 data s =
      ((s.setPmb { s.pmb with q := rest, busy := false, tries := 0 }).voutRead o data.toNat).pmbFollow o := by
    unfold Machine.pmbTransactionDone
    rw [hclk, hbusy, if_neg (by decide)]
    split
    · next h => exact absurd (hq.symm.trans h) (by simp)
    · next h =>
      obtain ⟨rfl, rfl⟩ := List.cons.inj (hq.symm.trans h)
      dsimp only
      rw [if_pos (by decide)]
      refine congrArg (fun u => State.pmbFollow u o) ?_
      unfold State.opDone
      dsimp only
      rw [if_neg (by rw [hcmd]; decide), hpurpose, hcmd]
      exact rfl
  rw [hdone, rd_pmbFollow, rd_voutRead _ _ _ hpurpose]
  rfl

theorem pmbTransactionRetry_answers : Claims.pmbTransactionRetry := by
  intro data o rest s hrun hclk hbusy hq hrail htries
  refine Answers.hub rfl hrun ?_
  have hretry : Machine.pmbTransactionDone 1 data s = ((s.bump PMB_RAIL_STAT_nack o.rail).setPmb
      { s.pmb with busy := false, tries := s.pmb.tries + 1 }).pmbIssue := by
    unfold Machine.pmbTransactionDone
    rw [hclk, hbusy, if_neg (by decide)]
    split
    · next h => exact absurd (hq.symm.trans h) (by simp)
    · next h =>
      obtain ⟨rfl, rfl⟩ := List.cons.inj (hq.symm.trans h)
      have hrail' : ¬ o.rail = 16 := by omega
      dsimp only
      rw [if_neg (by decide), decide_eq_false hrail', if_neg Bool.false_ne_true, if_neg (show ¬ ((1 : Fin 4) : Nat) = 2 by decide)]
      have hlimit : (s.bump PMB_RAIL_STAT_nack o.rail).rd PMB_CTL_retries = s.rd PMB_CTL_retries := State.rd_bump_sep _ _ _ _ _ (by decide)
      refine if_pos ?_
      rw [hlimit]
      simpa using htries
  rw [hretry, pmb_pmbIssue, rd_pmbIssue]
  exact ⟨rfl, rfl, State.rd_bump_same ..⟩

/-! ### Starting a group (R165, R166, R168) -/

theorem any_unreached {l : List Nat} (h : ∀ r ∈ l, s.railState r ≠ 6) : (l.any fun r => decide (s.railState r = 6)) = false := by
  simpa using h

/-- The group command of a group that is not the core's own: it is queued, and once more counted. -/
theorem groupCommand_rails (hgrp : s.pmb.grp < 4) : s.groupCommand.pmb.phase = 6 ∧ s.groupCommand.pmb.starts = s.pmb.starts + 1 ∧
    ({ purpose := 1, grp := s.pmb.grp, rail := 16, cmd := 0x01 } : PmbOp) ∈ s.groupCommand.pmb.q := by
  unfold State.groupCommand
  dsimp only
  rw [if_neg (by omega), pmb_pmbQueue]
  exact ⟨rfl, rfl, List.mem_append_right _ (mem_groupOps ..)⟩

theorem pmbGroupStart_answers : Claims.pmbGroupStart := by
  intro s hrun hclk hphase hdue hgrp hreached
  refine Answers.hub rfl hrun ?_
  have hstart : Machine.pmbGroupStart s = s.groupCommand := by
    unfold Machine.pmbGroupStart
    dsimp only
    rw [if_neg (by simp [hclk, hphase, hdue]), if_neg (by simpa using hreached)]
  rw [hstart]
  exact groupCommand_rails hgrp

theorem pmbGroupRetry_answers : Claims.pmbGroupRetry := by
  intro s hrun hphase hdue hgrp hcool
  refine Answers.hub rfl hrun ?_
  have hretry : Machine.pmbGroupRetry s = (s.pmbDrop fun o => o.purpose = 6).groupCommand := by
    unfold Machine.pmbGroupRetry
    dsimp only
    rw [if_neg (by simp [hphase, hdue]), if_neg (by simpa using fun r hr => (hcool r hr).2), if_pos (by simpa using fun r hr => (hcool r hr).1)]
  rw [hretry]
  exact groupCommand_rails (s := s.pmbDrop fun o => o.purpose = 6) hgrp

/-- The controller enters START from the measured voltage (R138). -/
theorem vrcStart_effect (s : State) : s.vrcStart.vrc.enables = true ∧ s.vrcStart.vrc.startV = s.rd VRC_VSENSE_vsense ∧
    s.vrcStart.rd VRC_VREF_vref = s.rd VRC_VSENSE_vsense % 2 ^ VRC_VREF_vref.width ∧
    (s.vrcStart.rd VRC_STAT_state = 1 ∨ s.vrcStart.rd VRC_STAT_state = 2) := by
  unfold State.vrcStart State.showDe
  extract_lets v u w x
  have hvref : (x.wr VRC_STAT_de 0 (b2n x.deOn)).rd VRC_VREF_vref = v % 2 ^ VRC_VREF_vref.width := by
    refine (State.rd_wr_sep _ _ _ _ _ _ (by decide)).trans ?_
    exact (State.rd_wr_sep _ _ _ _ _ _ (by decide)).trans (State.rd_wr_same ..)
  have hstate : (x.wr VRC_STAT_de 0 (b2n x.deOn)).rd VRC_STAT_state = 1 :=
    (State.rd_wr_sep _ _ _ _ _ _ (by decide)).trans (State.rd_wr_same ..)
  have hvrc : (x.wr VRC_STAT_de 0 (b2n x.deOn)).vrc.enables = true ∧ (x.wr VRC_STAT_de 0 (b2n x.deOn)).vrc.startV = v := ⟨rfl, rfl⟩
  generalize x.wr VRC_STAT_de 0 (b2n x.deOn) = y at *
  unfold State.checkReached
  dsimp only
  split
  · exact ⟨hvrc.1, hvrc.2, (State.rd_wr_sep _ _ _ _ _ _ (by decide)).trans hvref, .inr (State.rd_wr_same ..)⟩
  · rw [if_neg (by omega)]
    exact ⟨hvrc.1, hvrc.2, hvref, .inl hstate⟩

/-- A rail of the group that starts begins to ramp. -/
def State.railRamps (s : State) (r : Nat) : State :=
  let s := s.setRail r 2
  s.setPmb { s.pmb with onRail := mput s.pmb.onRail r s.ts, railT := mdel s.pmb.railT r }

/-- What the ramping of rails leaves. -/
def RampsKept (s t : State) : Prop := t.vrc = s.vrc ∧ t.pmb.grp = s.pmb.grp ∧ t.pmb.phase = s.pmb.phase ∧
  ∀ f, sepFld f PMB_RAIL_STAT_state = true → t.rd f = s.rd f

theorem rampsKept_foldl (l : List Nat) (s : State) : RampsKept s (l.foldl State.railRamps s) := by
  induction l generalizing s with
  | nil => exact ⟨rfl, rfl, rfl, fun _ _ => rfl⟩
  | cons r l ih =>
    obtain ⟨hvrc, hgrp, hphase, hrd⟩ := ih (s.railRamps r)
    exact ⟨hvrc, hgrp, hphase, fun f hf => (hrd f hf).trans (State.rd_wr_sep _ _ _ _ _ _ hf)⟩

/-- The controller that ramps in the turn of the core's own group: nothing that follows touches it. -/
theorem pmbSettle_core (hphase : s.pmb.phase = 2) (hstate : s.rd VRC_STAT_state ≠ 4) (hgrp : s.pmb.grp = 4) : s.pmbSettle.vrc = s.vrc ∧
    s.pmbSettle.rd VRC_VREF_vref = s.rd VRC_VREF_vref ∧ s.pmbSettle.rd VRC_STAT_state = s.rd VRC_STAT_state := by
  unfold State.pmbSettle
  rw [if_pos hphase]
  dsimp only
  rw [if_neg (fun h => hstate h.2)]
  split
  · rw [if_pos (show (s.pmbDrop _).pmb.grp = 4 from hgrp)]
    exact ⟨rfl, State.rd_wr_sep _ _ _ _ _ _ (by decide), State.rd_wr_sep _ _ _ _ _ _ (by decide)⟩
  · exact ⟨rfl, rfl, rfl⟩

/-- The on instant of the core's own group: the controller starts (R138, R166). -/
theorem groupOn_core (hgrp : s.pmb.grp = 4) (hcore : s.rd PMB_SEQ_core_grp = 4) (hstate : s.rd VRC_STAT_state = 0) :
    s.groupOn.vrc.enables = true ∧ s.groupOn.vrc.startV = s.rd VRC_VSENSE_vsense ∧
      s.groupOn.rd VRC_VREF_vref = s.rd VRC_VSENSE_vsense % 2 ^ VRC_VREF_vref.width ∧
      (s.groupOn.rd VRC_STAT_state = 1 ∨ s.groupOn.rd VRC_STAT_state = 2) := by
  unfold State.groupOn
  extract_lets g src on ramped started
  obtain ⟨hvrc, hgrp', hphase', hrd⟩ : RampsKept on ramped := rampsKept_foldl (on.members g) on
  have hturn : ramped.coreTurn = true := by
    unfold State.coreTurn
    rw [hgrp', hrd _ (by decide)]
    exact decide_eq_true (hgrp.trans hcore.symm)
  have hsense : ramped.rd VRC_VSENSE_vsense = s.rd VRC_VSENSE_vsense := hrd _ (by decide)
  have hoff : ramped.rd VRC_STAT_state = 0 := (hrd _ (by decide)).trans hstate
  have hstarted : started = ramped.vrcStart := (if_pos hturn).trans (if_pos (by rw [hoff]; decide))
  have hpmb : started.pmb = ramped.pmb := hstarted ▸ (State.vrcStart_frame (Sub.refl _) (Frame.refl _ ramped)).pmb rfl
  obtain ⟨henables, hstartV, hvref, hregulates⟩ := hstarted ▸ vrcStart_effect ramped
  rw [if_neg (show ¬ g < 4 from by rw [show g = 4 from hgrp]; decide)]
  obtain ⟨hvrc', hvref', hstate'⟩ := pmbSettle_core (s := started) (hpmb ▸ hphase') (by omega) (hpmb ▸ hgrp'.trans hgrp)
  rw [hvrc', hvref', hstate', ← hsense]
  exact ⟨henables, hstartV, hvref, hregulates⟩

theorem coreStartDelay_answers : Claims.coreStartDelay := by
  intro s hrun hphase hdue hgrp hcore hstate
  refine Answers.hub rfl hrun ?_
  unfold Machine.coreStartDelay State.groupCommand
  rw [if_pos ⟨hphase, hdue⟩]
  dsimp only
  rw [if_pos hgrp]
  exact groupOn_core hgrp hcore hstate

/-! ### Groups that fail or are slow (R168, R169) -/

/-- The members of a group that fails. -/
def State.railsFailed (s : State) (g mask : Nat) : State :=
  (s.members g).foldl (fun s r => if s.railState r = 6 then s else s.setRail r (if bit mask r then 4 else 1)) s

theorem railsFailed_frame (s : State) (g mask : Nat) : Frame State.setRail_foot s (s.railsFailed g mask) := by
  refine Frame.foldl (Frame.refl _ s) fun u r h => ?_
  split
  · exact h
  · exact State.setRail_frame (Sub.refl _) h _ _

/-- A group that does not hold the core fails with a retry left: it is reported and cools (R168). -/
theorem groupFail_cools (cause mask : Nat) (hgrp : s.pmb.grp < 4) (hcore : s.pmb.grp ≠ s.rd PMB_SEQ_core_grp)
    (hretry : s.pmb.starts < 1 + s.rd PMB_GRP_retries s.pmb.grp) :
    (s.groupFail cause mask).pmb.phase = 3 ∧ (s.groupFail cause mask).pmb.due = s.ts + s.rd PMB_GRP_cool s.pmb.grp * msT ∧
      Recorded s (s.groupFail cause mask) 10 2 [s.pmb.grp, mask, cause] := by
  unfold State.groupFail
  extract_lets g dropped off src stopped failed told gr src' cools
  obtain ⟨hpmb, hts, hrecd, hrd⟩ : off.pmb.starts = s.pmb.starts ∧ off.ts = s.ts ∧ off.recd = s.recd ∧ ∀ f i, off.rd f i = s.rd f i := by
    have hnext : off = dropped.pmbNext (dropped.groupOps 5 g) := if_pos hgrp
    have hframe := State.pmbNext_frame (Sub.refl _) (Frame.refl _ dropped) (dropped.groupOps 5 g)
    rw [hnext, pmb_pmbNext]
    exact ⟨rfl, hframe.ts rfl, hframe.recd rfl, fun f i => rd_pmbNext _ _ f i⟩
  have hstopped : stopped = off := if_neg (by rw [hrd]; exact hcore)
  have hfailed : Frame State.setRail_foot off failed := hstopped ▸ railsFailed_frame stopped g mask
  have hrecorded : Recorded s told 10 2 [g, mask, cause] :=
    Recorded.before (State.emit_recorded failed 10 2 [g, mask, cause]) ((hfailed.recd rfl).trans hrecd) ((hfailed.ts rfl).trans hts)
  have htold : Frame (State.setRail_foot ||| State.emit_foot) off told :=
    State.emit_frame (show _ &&& _ = _ by decide) (hfailed.mono (show _ &&& _ = _ by decide)) _ _ _
  have hgr : gr = g := if_neg (by omega)
  have hstarts : told.pmb.starts = s.pmb.starts := (congrArg Pmb.starts (htold.pmb rfl)).trans hpmb
  have hcool : told.ts + told.rd PMB_GRP_cool gr * msT = s.ts + s.rd PMB_GRP_cool g * msT := by
    rw [hgr, htold.ts rfl, htold.rd_of (by decide +kernel), hrd, hts]
  have hleft : told.pmb.starts < 1 + told.rd PMB_GRP_retries gr := by
    rw [hgr, hstarts, htold.rd_of (by decide +kernel), hrd]
    exact hretry
  rw [if_pos hleft, if_pos hgrp, pmb_pmbQueue]
  refine ⟨rfl, hcool, ?_⟩
  refine Recorded.framed ?_ (State.pmbQueue_frame (Sub.refl _) (Frame.refl _ cools) _) rfl
  exact hrecorded

theorem pmbGroupTimeout_answers : Claims.pmbGroupTimeout := by
  intro s hrun hphase hgrp hcore hdue hbad hretry
  refine Answers.hub rfl hrun ?_
  have hlate : Machine.pmbGroupTimeout s = s.groupFail 0 s.notGood := by
    unfold Machine.pmbGroupTimeout
    dsimp only
    rw [if_neg (show ¬ s.pmb.grp = 4 by omega), if_pos ⟨hphase, hdue⟩, if_neg hbad]
  rw [hlate]
  exact groupFail_cools 0 s.notGood hgrp hcore hretry

theorem pmb_groupOff (s : State) : s.groupOff.pmb = { s.pmb with off := true } := by
  unfold State.groupOff
  extract_lets g src u v
  have hv : v.pmb = { s.pmb with off := true } := by
    have hframe : Frame State.setRail_foot u v := by
      refine Frame.foldl (Frame.refl _ u) fun w r h => ?_
      split
      · exact h
      · exact State.setRail_frame (Sub.refl _) h _ _
    exact hframe.pmb rfl
  clear_value v
  split
  · split
    · exact ((State.railOffFault_frame (Sub.refl _) (Frame.refl _ v) _ _).pmb rfl).trans hv
    · exact ((State.vrcStop_frame (Sub.refl _) (Frame.refl _ v)).pmb rfl).trans hv
  · exact hv

theorem pmbGroupOffTimeout_answers : Claims.pmbGroupOffTimeout := by
  intro s hrun hphase hgrp hdue hstarted hfailed
  refine Answers.hub rfl hrun ?_
  unfold Machine.pmbGroupOffTimeout
  rw [if_pos ⟨hphase, hgrp, hdue⟩]
  extract_lets told off
  have htold : told.pmb = s.pmb := by
    dsimp only [told]
    simp only [State.emit_same]
  obtain ⟨hstarted', hfailed'⟩ : off.pmb.started = [] ∧ off.pmb.failed = false := by
    dsimp only [off]
    split
    · exact ⟨htold ▸ hstarted, htold ▸ hfailed⟩
    · rw [pmb_groupOff]
      exact ⟨htold ▸ hstarted, htold ▸ hfailed⟩
  have hoff : Frame State.groupOff_foot told off := by
    dsimp only [off]
    split
    · exact Frame.refl _ _
    · exact State.groupOff_frame (Sub.refl _) (Frame.refl _ _)
  obtain ⟨hidle, -, -, -, hseq⟩ := downNext_none (s := off.pmbDrop fun o => o.purpose = 3 ∨ o.purpose = 4) hstarted'
  refine ⟨hidle, hseq hfailed', ?_⟩
  refine Recorded.framed ?_ (State.downNext_frame (Sub.refl _) (Frame.refl _ _)) rfl
  exact Recorded.after ((State.emit_recorded s 10 3 []).framed hoff rfl) rfl

/-! ### Sweeps (R170) -/

theorem pmbSweepStart_answers : Claims.pmbSweepStart := by
  intro r s hrun hclk hup hstuck hperiod hsweep hon
  refine Answers.hub rfl hrun ?_
  have hop : ({ purpose := 7, grp := s.rd PMB_RAIL_group r, rail := r, cmd := 0x8B } : PmbOp) ∈
      s.rails.flatMap fun r => s.railOps 7 r [0x8B, 0x96, 0x79] :=
    List.mem_flatMap.2 ⟨r, List.mem_filter.2 ⟨List.mem_range.2 r.isLt, hon⟩, mem_railOps 7 r List.mem_cons_self⟩
  unfold Machine.pmbSweepStart
  dsimp only
  rw [if_neg (by simp [hclk, hup]), if_neg (by simp [hperiod]), if_neg (by simp [hsweep]), if_neg (by simp [hstuck]),
    if_neg (by simpa using List.ne_nil_of_mem hop), pmb_pmbQueue]
  exact ⟨rfl, List.mem_append_right _ hop⟩

theorem pmbSweepSkip_answers : Claims.pmbSweepSkip := by
  intro s hrun hclk hup hperiod hsweep
  refine Answers.hub rfl hrun ?_
  unfold Machine.pmbSweepStart
  rw [if_neg (by simp [hclk, hup]), if_neg (by simp [hperiod]), if_pos hsweep]
  exact ⟨State.rd_bump_same .., rfl⟩

/-! ### Alerts and the bus (R171) -/

theorem pmbAlert_answers : Claims.pmbAlert := by
  intro s hrun hclk hbegun hen hmask hnone
  refine Answers.hub rfl hrun ?_
  have hask : Machine.pmbAlert true s = (s.setPmb { s.pmb with alert := true }).pmbNext [{ purpose := 8, grp := 0, rail := 16, cmd := 0x0C }] := by
    have hidle : (s.pmb.q.any fun o => decide (o.purpose = 8 ∨ o.purpose = 9 ∨ o.purpose = 10)) = false := by
      simpa using hnone
    unfold Machine.pmbAlert State.askAra
    rw [if_neg (by simp [hclk])]
    refine if_pos ?_
    show (true && s.pmb.begun && s.clocked 10 && s.flag PMB_CTL_alert_en && !s.flag PMB_STAT_masked &&
      !(s.pmb.q.any fun o => decide (o.purpose = 8 ∨ o.purpose = 9 ∨ o.purpose = 10))) = true
    rw [hbegun, hclk, hen, hmask, hidle]
    rfl
  rw [hask]
  refine ⟨?_, mem_pmbNext List.mem_cons_self⟩
  rw [pmb_pmbNext]
  rfl

theorem pmbAlertEnds_answers : Claims.pmbAlertEnds := by
  intro s hrun hclk
  refine Answers.hub rfl hrun ?_
  have hends : Machine.pmbAlert false s = s.setPmb { s.pmb with alert := false, noReply := none } := by
    unfold Machine.pmbAlert State.askAra
    rw [if_neg (by simp [hclk])]
    exact if_neg (by simp [State.setPmb])
  rw [hends]
  exact ⟨rfl, rfl, rfl, rfl⟩

theorem rd_askAra (s : State) (f : Fld) (i : Nat) : s.askAra.rd f i = s.rd f i := by
  unfold State.askAra
  split
  · exact rd_pmbNext ..
  · rfl

theorem pmbAlertMaskEnd_answers : Claims.pmbAlertMaskEnd := by
  intro s hrun hsec
  refine Answers.hub rfl hrun ?_
  unfold Machine.pmbAlertMaskEnd
  rw [if_pos hsec, rd_askAra]
  exact State.rd_wr_same ..

theorem pmbBusStuck_answers : Claims.pmbBusStuck := by
  intro still s hrun hclk
  refine Answers.hub rfl hrun ?_
  unfold Machine.pmbBusStuck
  dsimp only
  rw [if_neg (by simp [hclk])]
  have hemit := State.emit_frame (Sub.refl _) (Frame.refl _ ((s.send .pmbusRecover).wr PMB_STAT_stuck 0 (b2n still))) 10 8 []
  refine ⟨?_, ?_, ?_⟩
  · rw [rd_pmbIssue]
    refine (State.rd_emit _ _ _ _ _ _ (by decide)).trans ((State.rd_wr_same ..).trans ?_)
    cases still <;> rfl
  · refine Recorded.framed ?_ (State.pmbIssue_frame (Sub.refl _) (Frame.refl _ _)) rfl
    exact Recorded.before (State.emit_recorded _ 10 8 []) rfl rfl
  · refine Sent.after (send_sent s .pmbusRecover) ?_
    refine List.IsPrefix.trans ?_ (prefix_pmbIssue _)
    rw [show (State.send s .pmbusRecover).out = (((s.send .pmbusRecover).wr PMB_STAT_stuck 0 (b2n still)).emit 10 8 []).out from (hemit.out rfl).symm]
    exact List.prefix_refl _

theorem pmbBusFree_answers : Claims.pmbBusFree := by
  intro s hrun hstuck
  refine Answers.hub rfl hrun ?_
  unfold Machine.pmbBusFree
  rw [if_pos hstuck, rd_pmbIssue, pmb_pmbIssue]
  exact ⟨State.rd_wr_same .., rfl⟩

end

/-- Settles O7. -/
theorem auxiliaryRails : Obligations.AuxiliaryRails :=
  ⟨pmbTransactionDone_answers, pmbTransactionRetry_answers, pmbGroupStart_answers, pmbGroupTimeout_answers, pmbGroupRetry_answers,
    pmbGroupOffTimeout_answers, pmbSweepStart_answers, pmbSweepSkip_answers, pmbAlert_answers, pmbAlertEnds_answers,
    pmbAlertMaskEnd_answers, pmbBusStuck_answers, pmbBusFree_answers, coreStartDelay_answers⟩

end Sys2Proof.Machine
end

section
/-!
PROOF. The estimator's ticks, measured energy, calibration and anchors (R54 to R62).
-/
namespace Sys2Proof.Machine
open Sys2Proof.Claims

set_option Elab.async false

section
variable {s t u : State}

/-- What a step over indices establishes at one of them, where the others leave both its premise and it. -/
theorem foldTo_at {n a : Nat} (f : State → Nat → State) (P Q : State → Prop) (ha : a < n) (hstart : P s)
    (hbefore : ∀ u k, k < n → k ≠ a → P u → P (f u k)) (hat : ∀ u, P u → Q (f u a))
    (hafter : ∀ u k, k < n → k ≠ a → Q u → Q (f u k)) : Q (foldTo n s f) := by
  have hsucc (k : Nat) : foldTo (k + 1) s f = f (foldTo k s f) k := by
    unfold foldTo
    rw [List.range_succ, List.foldl_append]
    rfl
  have hfirst (k : Nat) (hk : k ≤ a) : P (foldTo k s f) := by
    induction k with
    | zero => exact hstart
    | succ k ih =>
      rw [hsucc]
      exact hbefore _ k (by omega) (by omega) (ih (by omega))
  have hrest (k : Nat) (hk : a < k) (hn : k ≤ n) : Q (foldTo k s f) := by
    induction k with
    | zero => omega
    | succ k ih =>
      rw [hsucc]
      rcases Nat.lt_succ_iff_lt_or_eq.1 hk with hlt | rfl
      · exact hafter _ k hn (by omega) (ih hlt (by omega))
      · exact hat _ (hfirst a (Nat.le_refl a))
  exact hrest n ha (Nat.le_refl n)

/-! ### The tick (R58, R60, R501) -/

/-- What the open tick has taken at its start stays: its counts of activity and its reference. -/
def TickKept (s t : State) : Prop := t.sns.acts = s.sns.acts ∧ t.sns.estV = s.sns.estV

theorem TickKept.refl (s : State) : TickKept s s := ⟨rfl, rfl⟩

theorem TickKept.trans (h : TickKept s t) (h' : TickKept t u) : TickKept s u := ⟨h'.1.trans h.1, h'.2.trans h.2⟩

theorem TickKept.of_sns (h : t.sns = s.sns) : TickKept s t := ⟨congrArg Sns.acts h, congrArg Sns.estV h⟩

theorem TickKept.steps {n : Nat} {f : State → Nat → State} (hf : ∀ u k, TickKept u (f u k)) (s : State) : TickKept s (foldTo n s f) := by
  unfold foldTo
  generalize List.range n = l
  induction l generalizing s with
  | nil => exact TickKept.refl s
  | cons k l ih => exact (hf s k).trans (ih (f s k))

theorem tickKept_wr (s : State) (f : Fld) (i v : Nat) : TickKept s (s.wr f i v) := ⟨rfl, rfl⟩

theorem tickKept_setPh (s : State) (p : Nat) (x : PhTlm) : TickKept s (s.setPh p x) := ⟨rfl, rfl⟩

theorem tickKept_setTlane (s : State) (l : Nat) (x : TlmLane) : TickKept s (s.setTlane l x) := ⟨rfl, rfl⟩

theorem tickKept_applyCoefNew (s : State) : TickKept s s.applyCoefNew := by
  unfold State.applyCoefNew
  split
  · have hcoefs : TickKept s (foldTo 64 s fun s k => s.wr ACT_COEF_CAL k (s.rd ACT_COEF k)) := TickKept.steps (fun u k => tickKept_wr u _ k _) s
    generalize (foldTo 64 s fun s k => s.wr ACT_COEF_CAL k (s.rd ACT_COEF k)) = v at *
    exact hcoefs.trans ⟨rfl, rfl⟩
  · exact TickKept.refl s

theorem tickKept_msBoundary (s : State) : TickKept s s.msBoundary := by
  unfold State.msBoundary
  extract_lets lanes shared src had src' noted summed dirty src'' closed counted
  have hlanes : TickKept s lanes := by
    refine TickKept.steps (fun u l => ?_) s
    refine TickKept.trans ?_ (tickKept_setTlane _ l _)
    split
    · exact tickKept_wr u _ l _
    · exact TickKept.refl u
  have hshared : TickKept lanes shared := TickKept.steps (fun u p => tickKept_setPh u p _) lanes
  have hnoted : TickKept lanes noted := by
    clear_value shared
    dsimp only [noted]
    split
    · exact hshared.trans ⟨rfl, rfl⟩
    · exact TickKept.refl _
  have hsummed : TickKept noted summed := TickKept.steps (fun u p => tickKept_setPh u p _) noted
  clear_value summed
  exact (hlanes.trans hnoted).trans (hsummed.trans ⟨rfl, rfl⟩)

theorem closeMs_sns (s : State) : s.closeMs.sns = s.sns := rfl

theorem cntPend_applyCounts (s : State) : s.applyCounts.cntPend = [] := by
  unfold State.applyCounts
  refine List.foldlRecOn (motive := fun u : State => u.cntPend = []) _ _ rfl fun u h x _ => ?_
  dsimp only
  split
  · exact h
  · split <;> exact h

theorem cntZero_cntClear (s : State) : s.cntClear.cntZero = s.cntZero.filter fun z => decide (s.ts ≤ z.since) := by
  unfold State.cntClear
  extract_lets cleared
  have hcleared : Frame (State.cntClearDie_foot ||| State.cntClearTenant_foot) s cleared := by
    refine Frame.foldl (Frame.refl _ s) fun u z h => ?_
    split
    · exact State.cntClearDie_frame (show _ &&& _ = _ by decide) h
    · exact State.cntClearTenant_frame (show _ &&& _ = _ by decide) h _
  show cleared.cntZero.filter (fun z => decide (cleared.ts ≤ z.since)) = _
  rw [hcleared.cntZero rfl, hcleared.ts rfl]

/-- The footprint of what closes a tick, without the counts and what is sensed. -/
def tickFoot : Nat := State.countCycles_foot ||| State.chargeCore_foot ||| State.chargeHouse_foot ||| State.publishTick_foot |||
  State.publishTenants_foot ||| State.thmTick_foot ||| State.closeVolts_foot ||| State.peakTick_foot ||| State.deTrack_foot ||| 0x20400 |||
  State.setCore_foot

/-- The open tick closes: the counts of activity and the reference of the next one, the pending counts and the estimate (R58, R60). -/
theorem estimatorTick_closes (s : State) : (estimatorTick s).sns.acts = [] ∧ (estimatorTick s).cntPend = [] ∧
    (estimatorTick s).cntZero = s.cntZero.filter (fun z => decide (s.ts ≤ z.since)) ∧
    (estimatorTick s).sns.estV = s.rd VRC_VREF_vref ∧ (estimatorTick s).rd ACT_EST_DIE = satU 32 (roundNE
      (sumN ((List.range 64).map fun c => (foldTo 64 s State.countCycles).coreEnergy c (foldTo 64 s State.countCycles).voltScale) : Nat)
        125000) := by
  unfold Machine.estimatorTick
  extract_lets n cycled vs es leaks die counted eng before t0 t charged housed shown src closed published tracked opened zeroed src' started
    coefs
  have hcycled : Frame tickFoot s cycled := Frame.foldTo (Frame.refl _ s) fun u c h => State.countCycles_frame (show _ &&& _ = _ by decide) h c
  have hcounted : Frame tickFoot s counted := Frame.foldTo hcycled fun u c h =>
    State.count_frame (show _ &&& _ = _ by decide) (State.count_frame (show _ &&& _ = _ by decide) h _ _) _ _
  have hcharged : Frame tickFoot s charged := Frame.foldTo hcounted fun u c h => State.chargeCore_frame (show _ &&& _ = _ by decide) h _ _ _
  have hhoused : Frame tickFoot s housed := State.chargeHouse_frame (show _ &&& _ = _ by decide) hcharged _
  have hshown : shown.rd ACT_EST_DIE = satU 32 (roundNE (die : Int) 125000) := by
    exact (State.rd_wr_same ..).trans (Nat.mod_eq_of_lt (Nat.lt_of_lt_of_le (satU_lt 32 _) (by decide)))
  clear_value housed
  have htracked : Frame tickFoot shown tracked :=
    State.deTrack_frame (show _ &&& _ = _ by decide) (State.peakTick_frame (show _ &&& _ = _ by decide) (State.closeVolts_frame
      (show _ &&& _ = _ by decide) (State.thmTick_frame (show _ &&& _ = _ by decide) (State.publishTenants_frame (show _ &&& _ = _ by decide) (State.publishTick_frame
        (show _ &&& _ = _ by decide) (Frame.set_sns rfl (Frame.refl _ shown)) _) _) _)))
  have hopened : Frame tickFoot shown opened := Frame.foldTo htracked fun u c h => State.setCore_frame (show _ &&& _ = _ by decide) h _ _
  have hzeroed : Frame (State.applyCounts_foot ||| State.cntClear_foot) opened zeroed :=
    State.cntClear_frame (show _ &&& _ = _ by decide) (State.applyCounts_frame (show _ &&& _ = _ by decide) (Frame.refl _ opened))
  have hpend : zeroed.cntPend = [] :=
    ((State.cntClear_frame (Sub.refl _) (Frame.refl _ opened.applyCounts)).cntPend rfl).trans (cntPend_applyCounts opened)
  have hzero : zeroed.cntZero = s.cntZero.filter fun z => decide (s.ts ≤ z.since) := by
    have hcounts := State.applyCounts_frame (Sub.refl _) (Frame.refl _ opened)
    refine (cntZero_cntClear opened.applyCounts).trans ?_
    rw [hcounts.cntZero rfl, hcounts.ts rfl, hopened.cntZero rfl, hopened.ts rfl]
    show housed.cntZero.filter (fun z => decide (housed.ts ≤ z.since)) = _
    rw [hhoused.cntZero rfl, hhoused.ts rfl]
  have hvref : zeroed.rd VRC_VREF_vref = s.rd VRC_VREF_vref := by
    refine (hzeroed.rd_of (by decide +kernel) 0).trans ((hopened.rd_of (by decide +kernel) 0).trans ?_)
    exact (State.rd_wr_sep _ _ _ _ _ _ (by decide)).trans (hhoused.rd_of (by decide +kernel) 0)
  have hdie : zeroed.rd ACT_EST_DIE = satU 32 (roundNE (die : Int) 125000) :=
    (hzeroed.rd_of (by decide +kernel) 0).trans ((hopened.rd_of (by decide +kernel) 0).trans hshown)
  clear_value zeroed
  obtain ⟨hkept, hafter⟩ : TickKept started (if coefs.ts % msT = 0 then coefs.closeMs.msBoundary else coefs) ∧
      Frame (State.applyCoefNew_foot ||| State.closeMs_foot ||| State.msBoundary_foot) started
        (if coefs.ts % msT = 0 then coefs.closeMs.msBoundary else coefs) := by
    have hcoefs : TickKept started coefs := tickKept_applyCoefNew started
    have hframe := State.applyCoefNew_frame (m := State.applyCoefNew_foot ||| State.closeMs_foot ||| State.msBoundary_foot)
      (show _ &&& _ = _ by decide) (Frame.refl _ started)
    split
    · exact ⟨(hcoefs.trans (TickKept.of_sns (closeMs_sns coefs))).trans (tickKept_msBoundary _),
        State.msBoundary_frame (show _ &&& _ = _ by decide) (State.closeMs_frame (show _ &&& _ = _ by decide) hframe)⟩
    · exact ⟨hcoefs, hframe⟩
  exact ⟨hkept.1, (hafter.cntPend rfl).trans hpend, (hafter.cntZero rfl).trans hzero, hkept.2.trans hvref,
    (hafter.rd_of (by decide +kernel) 0).trans hdie⟩

theorem estimatorTick_answers : Claims.estimatorTick := by
  intro parts s hrun hgrid hdue
  refine Answers.hub rfl hrun ?_
  unfold estimatorBoundary
  rw [if_neg (by omega)]
  extract_lets slots zs ended
  have hslots : Frame State.tickSlots_foot s slots := Frame.foldl (Frame.refl _ s) fun u p h => State.tickSlots_frame (Sub.refl _) h p
  obtain ⟨hacts, hpend, hzero, hvref, hdie⟩ := estimatorTick_closes slots
  rw [hslots.cntZero rfl, hslots.ts rfl] at hzero
  rw [hslots.rd_of (by decide +kernel) 0] at hvref
  have hended : Frame (State.cntZeroDone_foot ||| State.bridgeIdle_foot ||| State.msEnd_foot) (Machine.estimatorTick slots)
      (if ended.ts % msT = 0 then ended.msEnd else ended) := by
    have hframe := State.bridgeIdle_frame (m := State.cntZeroDone_foot ||| State.bridgeIdle_foot ||| State.msEnd_foot)
      (show _ &&& _ = _ by decide) (State.cntZeroDone_frame (show _ &&& _ = _ by decide) (Frame.refl _ (Machine.estimatorTick slots)) zs)
    split
    · exact State.msEnd_frame (show _ &&& _ = _ by decide) hframe
    · exact hframe
  rw [hended.sns rfl, hended.cntPend rfl, hended.cntZero rfl, hended.rd_of (by decide +kernel) 0]
  exact ⟨hacts, hpend, hzero, hvref, hdie⟩

/-! ### Measured energy (R61) -/

theorem nextFin_publishMeas (s : State) (n : Nat) : (s.publishMeas n).sns.nextFin = s.sns.nextFin := by
  unfold State.publishMeas
  extract_lets p ok w i rails reach pkg slope slopeOk cur die paired sloped
  have hpaired : paired.sns = s.sns := by
    dsimp only [paired]
    split
    · exact (State.publishPair_frame (Sub.refl _) (Frame.refl _ die) _ _ _).sns rfl
    · rfl
  show paired.sns.nextFin = s.sns.nextFin
  rw [hpaired]

theorem measFinalise_answers : Claims.measFinalise := by
  intro n s hrun hgrid hts hnext
  refine Answers.hub rfl hrun ?_
  have husT : 0 < usT := by decide
  have hn : s.ts / usT - 3 = n := by
    rw [hts, Nat.mul_div_cancel _ husT]
    omega
  have hlate : ¬ s.ts < 3 * usT := by
    rw [hts]
    exact Nat.not_lt.2 (Nat.mul_le_mul_right _ (by omega))
  unfold Machine.measFinalise
  rw [hn]
  rw [if_neg (by simp [hrun, hgrid, hlate, hnext])]
  extract_lets t f cv srcS srcA final shown filled noted published cur kept paused
  have hnoted : Frame State.noteQc_foot filled noted := by
    dsimp only [noted]
    split
    · exact State.noteQc_frame (Sub.refl _) (Frame.refl _ filled) _
    · exact Frame.refl _ filled
  have hfilled : filled.sns.nextFin = n + 1 ∧ filled.rd ACT_MEAS_DIE = satU 32 (roundNE (cv : Int) 160000) ∧
      filled.rd ACT_MEAS_FILL = f.1 % 2 ^ ACT_MEAS_FILL.width := by
    refine ⟨rfl, (State.rd_wr_sep _ _ _ _ _ _ (by decide)).trans ((State.rd_wr_same ..).trans ?_), State.rd_wr_same ..⟩
    exact Nat.mod_eq_of_lt (Nat.lt_of_lt_of_le (satU_lt 32 _) (by decide))
  obtain ⟨hnext', hdie, hfill⟩ := hfilled
  have hkept : kept.sns.nextFin = n + 1 := by
    have hpub : published.sns.nextFin = n + 1 := by
      refine Eq.trans ?_ ((nextFin_publishMeas noted n).trans ((congrArg Sns.nextFin (hnoted.sns rfl)).trans hnext'))
      exact congrArg Sns.nextFin ((State.thmMeas_frame (Sub.refl _) (Frame.refl _ (noted.publishMeas n)) n cv).sns rfl)
    exact hpub
  have hend : Frame (State.noteQc_foot ||| State.publishMeas_foot ||| State.thmMeas_foot ||| State.lowPower_foot) filled kept :=
    State.lowPower_frame (show _ &&& _ = _ by decide) (State.thmMeas_frame (show _ &&& _ = _ by decide) (State.publishMeas_frame
      (show _ &&& _ = _ by decide) (hnoted.mono (show _ &&& _ = _ by decide)) _) _ _) _
  have hdie' := (hend.rd_of (f := ACT_MEAS_DIE) (by decide +kernel) 0).trans hdie
  have hfill' := (hend.rd_of (f := ACT_MEAS_FILL) (by decide +kernel) 0).trans hfill
  clear_value kept
  split
  · have hcal := State.calUpdate_frame (Sub.refl _) (Frame.refl _ kept) n t cv
    exact ⟨(congrArg Sns.nextFin (hcal.sns rfl)).trans hkept, (hcal.rd_of (by decide +kernel) 0).trans hdie',
      (hcal.rd_of (by decide +kernel) 0).trans hfill'⟩
  · exact ⟨hkept, hdie', hfill'⟩

/-! ### Calibration (R62) -/

theorem calibrationApply_answers : Claims.calibrationApply := by
  intro k s hrun hms hpaused hen
  refine Answers.hub rfl hrun ?_
  unfold Machine.calibrationApply
  rw [if_neg (by simp [hrun, hms, hpaused, hen])]
  extract_lets pct lim acted applied
  have happlied : applied.rd ACT_COEF_CAL k = clampN (lim k).1 (lim k).2 (s.fitted (k / 16) (k % 16)) % 2 ^ 32 :=
    foldTo_at (fun u k => u.wr ACT_COEF_CAL k (clampN (lim k).1 (lim k).2 (s.fitted (k / 16) (k % 16)))) (fun _ => True)
      (fun u => u.rd ACT_COEF_CAL k = clampN (lim k).1 (lim k).2 (s.fitted (k / 16) (k % 16)) % 2 ^ 32) k.isLt trivial
      (fun _ _ _ _ _ => trivial) (fun u _ => State.rd_wr_same ..)
      fun u j hj hne h => (State.rd_wr_idx u ACT_COEF_CAL _ (by decide) hj k.isLt (Ne.symm hne)).trans h
  split
  · exact (State.rd_emitLim _ _ _ _ _ _ _ _ (by decide)).trans happlied
  · exact happlied

/-! ### Anchors (R54, R55) -/

/-- An anchor reports the mean of its conversions, or shows its fault (R54, R55). -/
def State.anchorReport (s : State) (a : Nat) : State :=
  let xs := mget s.sns.ancConv a []
  let bad := mget s.sns.ancBad a false || xs.isEmpty
  let was := s.flag SNS_ANC_fault a
  let s := if xs.isEmpty then s else s.wr SNS_ANC_value a (satS 16 (roundNE ((xs.map fun w => sgn 16 w).sum) xs.length))
  let s := s.wr SNS_ANC_fault a (b2n bad)
  if bad && !was then s.emit 7 10 [] else s

theorem satS_lt (w : Nat) (i : Int) : satS w i < 2 ^ w := by
  have hpos : 0 < (2 : Int) ^ w := by positivity
  have hcast : ((2 ^ w : Nat) : Int) = (2 : Int) ^ w := by push_cast; rfl
  have hlt := Int.emod_lt_of_pos (clampI (-((2 : Int) ^ (w - 1))) ((2 : Int) ^ (w - 1) - 1) i) hpos
  unfold satS unsgn
  omega

/-- What an anchor shows of the conversions in hand. -/
def AnchorShown (s u : State) (a : Nat) : Prop := u.sns = s.sns ∧
  u.rd SNS_ANC_fault a = b2n (mget s.sns.ancBad a false || (mget s.sns.ancConv a []).isEmpty) ∧
  (mget s.sns.ancConv a [] ≠ [] → u.rd SNS_ANC_value a =
    satS 16 (roundNE (((mget s.sns.ancConv a []).map fun w => sgn 16 w).sum) (mget s.sns.ancConv a []).length))

theorem anchorReport_sns (s : State) (a : Nat) : (s.anchorReport a).sns = s.sns := by
  unfold State.anchorReport
  dsimp only
  split
  · simp only [State.emit_same]
    split <;> rfl
  · split <;> rfl

/-- What a report leaves of another anchor's registers. -/
theorem anchorReport_others (s : State) {a k : Nat} (ha : a < 128) (hk : k < 128) (hne : k ≠ a) :
    (s.anchorReport a).rd SNS_ANC_fault k = s.rd SNS_ANC_fault k ∧ (s.anchorReport a).rd SNS_ANC_value k = s.rd SNS_ANC_value k := by
  have hvalue (v : Nat) : (s.wr SNS_ANC_value a v).rd SNS_ANC_value k = s.rd SNS_ANC_value k :=
    State.rd_wr_idx s SNS_ANC_value v (by decide) ha hk hne
  have hfault (u : State) (v : Nat) : (u.wr SNS_ANC_fault a v).rd SNS_ANC_fault k = u.rd SNS_ANC_fault k :=
    State.rd_wr_idx u SNS_ANC_fault v (by decide) ha hk hne
  unfold State.anchorReport
  extract_lets xs bad was valued faulted
  have hvalued : valued.rd SNS_ANC_fault k = s.rd SNS_ANC_fault k ∧ valued.rd SNS_ANC_value k = s.rd SNS_ANC_value k := by
    dsimp only [valued]
    split
    · exact ⟨rfl, rfl⟩
    · exact ⟨State.rd_wr_sep _ _ _ _ _ _ (by decide), hvalue _⟩
  have hfaulted : faulted.rd SNS_ANC_fault k = s.rd SNS_ANC_fault k ∧ faulted.rd SNS_ANC_value k = s.rd SNS_ANC_value k :=
    ⟨(hfault valued _).trans hvalued.1, (State.rd_wr_sep _ _ _ _ _ _ (by decide)).trans hvalued.2⟩
  split
  · rw [State.rd_emit _ _ _ _ _ _ (by decide), State.rd_emit _ _ _ _ _ _ (by decide)]
    exact hfaulted
  · exact hfaulted

theorem anchorReport_shows (s : State) (a : Nat) : AnchorShown s (s.anchorReport a) a := by
  refine ⟨anchorReport_sns s a, ?_⟩
  unfold State.anchorReport
  extract_lets xs bad was valued faulted
  have hfaulted : faulted.rd SNS_ANC_fault a = b2n bad := (State.rd_wr_same ..).trans (by cases bad <;> rfl)
  have hvalued : xs ≠ [] → faulted.rd SNS_ANC_value a = satS 16 (roundNE ((xs.map fun w => sgn 16 w).sum) xs.length) := by
    intro h
    refine (State.rd_wr_sep _ _ _ _ _ _ (by decide)).trans ?_
    dsimp only [valued]
    rw [if_neg (by simpa using h), State.rd_wr_same]
    exact Nat.mod_eq_of_lt (satS_lt 16 _)
  split
  · rw [State.rd_emit _ _ _ _ _ _ (by decide), State.rd_emit _ _ _ _ _ _ (by decide)]
    exact ⟨hfaulted, hvalued⟩
  · exact ⟨hfaulted, hvalued⟩

/-- At the boundary every anchor reports. -/
theorem anchorPublish_shown {a : Nat} (ha : a < 128) (hrun : s.running = true) (hms : s.ts % msT = 0) (hen : s.flag SNS_CTL_anc_en = true)
    (hnew : s.sns.ancT ≠ some s.ts) : (Machine.anchorPublish s).sns.ancConv = [] ∧ (Machine.anchorPublish s).sns.ancBad = [] ∧
    (Machine.anchorPublish s).rd SNS_ANC_fault a = b2n (mget s.sns.ancBad a false || (mget s.sns.ancConv a []).isEmpty) ∧
    (mget s.sns.ancConv a [] ≠ [] → (Machine.anchorPublish s).rd SNS_ANC_value a =
      satS 16 (roundNE (((mget s.sns.ancConv a []).map fun w => sgn 16 w).sum) (mget s.sns.ancConv a []).length)) := by
  unfold Machine.anchorPublish
  rw [if_neg (by simp [hrun, hms, hen, hnew])]
  extract_lets src judged shown
  have hshown : AnchorShown judged shown a := by
    refine foldTo_at State.anchorReport (fun u => u.sns = judged.sns) (fun u => AnchorShown judged u a) ha rfl
      (fun u k _ _ h => (anchorReport_sns u k).trans h) (fun u h => ?_) fun u k hlt hk ⟨hsns, hfault, hvalue⟩ => ?_
    · have hreport := anchorReport_shows u a
      unfold AnchorShown at *
      rwa [h] at hreport
    · obtain ⟨hfault', hvalue'⟩ := anchorReport_others u hlt ha (Ne.symm hk)
      exact ⟨(anchorReport_sns u k).trans hsns, hfault'.trans hfault, fun h => hvalue'.trans (hvalue h)⟩
  obtain ⟨-, hfault, hvalue⟩ := hshown
  clear_value shown
  exact ⟨rfl, rfl, hfault, hvalue⟩

theorem anchorPublish_answers : Claims.anchorPublish := by
  intro a s hrun hms hen hnew hconv hbad
  obtain ⟨hnone, hclean, hfault, hvalue⟩ := anchorPublish_shown a.isLt hrun hms hen hnew
  refine Answers.hub rfl hrun ⟨?_, hvalue hconv, hnone, hclean⟩
  rw [hfault, hbad, List.isEmpty_eq_false_iff.2 hconv]
  rfl

theorem anchorFault_answers : Claims.anchorFault := by
  intro a s hrun hms hen hnew hconv
  obtain ⟨-, -, hfault, -⟩ := anchorPublish_shown a.isLt hrun hms hen hnew
  refine Answers.hub rfl hrun ?_
  rw [hfault, hconv, List.isEmpty_nil, Bool.or_true]
  rfl

end

end Sys2Proof.Machine
end

section
/-!
PROOF. Snapshots, forecasts and fallback (R102 to R123).
-/
namespace Sys2Proof.Machine
open Sys2Proof.Claims

set_option Elab.async false

section
variable {s t u : State}

/-! ### Snapshots (R102, R107) -/

theorem fc_of_cores {c : Nat} (h : t.fcs.cores = s.fcs.cores) : t.fc c = s.fc c := by
  unfold State.fc
  rw [h]

/-- A dropped entry leaves what else the core's forecasts hold, and the jobs. -/
theorem limitUnres_effect (s : State) (c : Nat) : ((s.limitUnres c).fc c).everSnap = (s.fc c).everSnap ∧
    ((s.limitUnres c).fc c).lastSnap = (s.fc c).lastSnap ∧ ((s.limitUnres c).fc c).prompt = (s.fc c).prompt ∧
    (s.limitUnres c).fcs.queue = s.fcs.queue ∧ (s.limitUnres c).fcs.passes = s.fcs.passes := by
  unfold State.limitUnres
  extract_lets f
  split
  · split
    · next old _ =>
      have hfc : ∀ x, (((s.setFc c x).bump FCS_DISCARD_unres c).fc c) = x := fun x => fc_setFc_same s c x
      extract_lets dropped
      rw [hfc]
      exact ⟨rfl, rfl, rfl, rfl, rfl⟩
    · exact ⟨rfl, rfl, rfl, rfl, rfl⟩
  · exact ⟨rfl, rfl, rfl, rfl, rfl⟩

/-- A snapshot: the core's features are taken and its forecast is queued (R102 to R104). -/
theorem snapshot_effect (s : State) (c : Nat) : ((s.snapshot c).fc c).everSnap = true ∧ ((s.snapshot c).fc c).lastSnap = s.ts ∧
    ((s.snapshot c).fc c).prompt = false ∧ (s.snapshot c).fcs.passes = s.fcs.passes + 2 ∧
    ∃ j ∈ (s.snapshot c).fcs.queue, j.core = c ∧ j.snap = s.ts ∧ j.x = s.features c := by
  unfold State.snapshot
  extract_lets tenant slot fit job entry f noted src queued counted
  have hqueued : (queued.fc c).everSnap = true ∧ (queued.fc c).lastSnap = s.ts ∧ (queued.fc c).prompt = false ∧
      queued.fcs.passes = s.fcs.passes + 2 ∧ job ∈ queued.fcs.queue := by
    have hfc : queued.fc c = noted.fc c := rfl
    rw [hfc]
    dsimp only [noted]
    rw [fc_setFc_same]
    exact ⟨rfl, rfl, rfl, rfl, List.mem_append_right _ List.mem_cons_self⟩
  have hcounted : counted.fcs = queued.fcs := by
    dsimp only [counted]
    split
    · exact (State.countRight_frame (Sub.refl _) (Frame.refl _ queued) c _).fcs rfl
    · rfl
  obtain ⟨hever, hlast, hprompt, hpasses, hjob⟩ := hqueued
  obtain ⟨hever', hlast', hprompt', hqueue, hpasses'⟩ := limitUnres_effect counted c
  rw [hever', hlast', hprompt', hqueue, hpasses', fc_of_cores (congrArg Fcs.cores hcounted), hcounted]
  exact ⟨hever, hlast, hprompt, hpasses, job, hjob, rfl, rfl, rfl⟩

theorem periodicSnapshot_answers : Claims.periodicSnapshot := by
  intro core s hrun hgrid hclk hen hreset hfallback hgap
  refine Answers.hub rfl hrun ?_
  unfold Machine.periodicSnapshot
  dsimp only
  rw [if_neg (by simp [hrun, hgrid, hclk, hen]), if_neg (by simp [hreset]), if_neg (by simp [hfallback, hgap])]
  obtain ⟨hever, hlast, -, hpasses, hjob⟩ := snapshot_effect s core
  exact ⟨hever, hlast, hpasses, hjob⟩

theorem periodicSnapshotStopped_answers : Claims.periodicSnapshotStopped := by
  intro core s hrun hgrid hclk hen hreset
  refine Answers.hub rfl hrun ?_
  unfold Machine.periodicSnapshot State.skipStopped
  dsimp only
  rw [if_neg (by simp [hrun, hgrid, hclk, hen]), if_pos hreset]
  have hformed (u : State) : u.formFF.fc core = u.fc core ∧ u.formFF.fcs.queue = u.fcs.queue := ⟨rfl, rfl⟩
  rw [(hformed _).1, (hformed _).2, fc_setFc_same]
  exact ⟨rfl, rfl, rfl⟩

theorem promptSnapshot_answers : Claims.promptSnapshot := by
  intro core s hrun hmay hprompt hen hgap
  refine Answers.hub rfl hrun ?_
  unfold Machine.promptSnapshot
  dsimp only
  rw [if_pos (by simp [hrun, hmay, hprompt, hen, hgap])]
  obtain ⟨-, hlast, hnone, -, j, hj, hcore, hsnap, -⟩ := snapshot_effect s core
  exact ⟨hnone, hlast, j, hj, hcore, hsnap⟩

/-! ### Outputs (R106, R114) -/

/-- An output that arrives for its unresolved entry leaves what is applied, and the jobs. -/
theorem outputArrived_effect (s : State) (c snap : Nat) (y : List Nat) :
    ((s.outputArrived c snap y).fc c).applied = (s.fc c).applied ∧ ((s.outputArrived c snap y).fc c).appSnap = (s.fc c).appSnap ∧
      (s.outputArrived c snap y).fcs.queue = s.fcs.queue := by
  have htraced (u : State) (x : Unres) : (u.traceFc c x).fcs = u.fcs := (State.traceFc_frame (Sub.refl _) (Frame.refl _ u) c x).fcs rfl
  unfold State.outputArrived
  extract_lets f dropped
  split
  · exact ⟨rfl, rfl, rfl⟩
  · next x _ =>
    split
    · rw [fc_of_cores (congrArg Fcs.cores (htraced dropped _)), htraced]
      dsimp only [dropped]
      rw [fc_setFc_same]
      exact ⟨rfl, rfl, rfl⟩
    · rw [fc_setFc_same]
      exact ⟨rfl, rfl, rfl⟩

theorem forecastOutput_answers : Claims.forecastOutput := by
  intro slice j s hrun hclk hjob hfallback happlied
  refine Answers.hub rfl hrun ?_
  unfold Machine.forecastOutput
  rw [if_neg (by simp [hclk])]
  split
  · next h => exact absurd (hjob.symm.trans h) (by simp)
  · next h =>
    obtain rfl := Option.some.inj (hjob.symm.trans h)
    extract_lets y src erased flagged arrived f
    have hflagged : Frame State.arrFlags_foot erased flagged := by
      dsimp only [flagged]
      split
      · exact State.arrFlags_frame (Sub.refl _) (Frame.refl _ erased) _ _ _
      · exact Frame.refl _ erased
    have hcores : flagged.fcs = erased.fcs := hflagged.fcs rfl
    have harrived : Frame (State.arrFlags_foot ||| State.outputArrived_foot) erased arrived :=
      State.outputArrived_frame (show _ &&& _ = _ by decide) (hflagged.mono (show _ &&& _ = _ by decide)) _ _ _
    obtain ⟨hwas, hsnap, hqueue⟩ := outputArrived_effect flagged j.core j.snap y
    have hblocked : ¬ (arrived.flag FCS_CORE_fallback j.core || (f.applied && decide (j.snap < f.appSnap))) = true := by
      have hclear : arrived.flag FCS_CORE_fallback j.core = false := by
        unfold State.flag
        rw [harrived.rd_of (by decide +kernel)]
        exact hfallback
      have hfc : flagged.fc j.core = s.fc j.core := fc_of_cores (s := erased) (congrArg Fcs.cores hcores)
      have hlatest : (f.applied && decide (j.snap < f.appSnap)) = false := by
        show ((arrived.fc j.core).applied && decide (j.snap < (arrived.fc j.core).appSnap)) = false
        rw [hwas, hsnap, hfc]
        rcases happlied with h | h
        · rw [h, Bool.false_and]
        · rw [decide_eq_false (Nat.not_lt.2 h), Bool.and_false]
      rw [hclear, hlatest]
      decide
    rw [if_neg hblocked]
    have hformed (u : State) : u.formFF.fc j.core = u.fc j.core ∧ u.formFF.fcs.queue = u.fcs.queue := ⟨rfl, rfl⟩
    rw [(hformed _).1, (hformed _).2, fc_setFc_same]
    refine ⟨rfl, rfl, rfl, ?_⟩
    show arrived.fcs.queue = _
    rw [hqueue, hcores]

/-! ### Fallback (R121) -/

/-- A core that no cause holds enters fallback by LN_MODE, which is reported (R121, R122). -/
theorem setLn_enters {c : Nat} (hclk : s.clocked 12 = true) (hln : s.rd FCS_CORE_ln c = 0) (hstatic : s.rd FCS_CORE_force_static c = 0) :
    (s.setLn c true).rd FCS_CORE_ln c = 1 ∧ (s.setLn c true).rd FCS_CORE_fallback c = 1 ∧ Recorded s (s.setLn c true) 12 2 [c, 1, 1] := by
  have hln' : s.flag FCS_CORE_ln c = false := flag_of_rd_zero hln
  have hstatic' : s.flag FCS_CORE_force_static c = false := flag_of_rd_zero hstatic
  unfold State.setLn
  extract_lets src moved ln0 fs
  have hset : (moved.wr FCS_CORE_ln c (b2n true)).flag FCS_CORE_ln c = true := flag_of_rd_one (State.rd_wr_same ..)
  have hkept : (moved.wr FCS_CORE_ln c (b2n true)).flag FCS_CORE_force_static c = false :=
    flag_of_rd_zero ((State.rd_wr_sep _ _ _ _ _ _ (by decide)).trans hstatic)
  rw [if_neg (by simp [show moved.clocked 12 = true from hclk]), show ln0 = false from hln', show fs = false from hstatic']
  have hshown : (moved.wr FCS_CORE_ln c (b2n true)).rd FCS_CORE_ln c = 1 := State.rd_wr_same ..
  unfold State.moveFallback
  extract_lets ln fs' fallen told shown
  have hlnOn : ln = true := hset
  have hfs : fs' = false := hkept
  have hfallen : fallen.rd FCS_CORE_ln c = 1 ∧ fallen.rd FCS_CORE_fallback c = 1 := by
    dsimp only [fallen]
    rw [hlnOn, State.rd_wr_sep _ _ _ _ _ _ (by decide)]
    exact ⟨hshown, State.rd_wr_same ..⟩
  have hafter : Frame State.refreshChokers_foot told shown := State.refreshChokers_frame (Sub.refl _) (Frame.refl _ told) _
  have hrecorded : Recorded s told 12 2 [c, 1, 1] := by
    dsimp only [told]
    rw [hlnOn, hfs]
    exact Recorded.before (State.emit_recorded fallen 12 2 [c, 1, 1]) rfl rfl
  have hrecorded' : Recorded s shown 12 2 [c, 1, 1] := hrecorded.framed hafter rfl
  have hrd (f : Fld) (hf : untouched State.refreshChokers_foot f = true) (hdrop : sepFld f EVT_DROP_dropped = true) :
      shown.rd f c = fallen.rd f c := (hafter.rd_of hf c).trans (State.rd_emit _ _ _ _ _ _ hdrop)
  rw [if_neg (by rw [hlnOn, hfs]; decide), if_pos (by rw [hlnOn, hfs]; rfl)]
  have hln1 := (hrd FCS_CORE_ln (by decide +kernel) (by decide)).trans hfallen.1
  have hfall1 := (hrd FCS_CORE_fallback (by decide +kernel) (by decide)).trans hfallen.2
  clear_value shown
  exact ⟨hln1, hfall1, hrecorded'⟩

theorem lnModeChange_answers : Claims.lnModeChange := by
  intro core s hrun hclk hreset hln hstatic
  refine Answers.hub rfl hrun ?_
  unfold Machine.lnModeChange
  rw [if_neg (by simp [hreset])]
  exact setLn_enters hclk hln hstatic

end

end Sys2Proof.Machine
end

section
/-!
PROOF. The loop engine's releases, skips and evaluations (R184 to R199), and the estimator, forecasts and loops as a whole.
-/
namespace Sys2Proof.Machine
open Sys2Proof.Claims

set_option Elab.async false

section
variable {s t u : State}

/-! ### Releases (R184, R198) -/

theorem ctx_of_ctxs {n : Nat} (h : t.lpe.ctxs = s.lpe.ctxs) : t.ctx n = s.ctx n := by
  unfold State.ctx
  rw [h]

theorem ctx_setCtx_same (s : State) (n : Nat) (x : Ctx) : (s.setCtx n x).ctx n = x := mget_mput_same _ _ _ _

/-- A release instant of a context in use that has none queued for it. -/
theorem loopRelease_due {n : Fin 4096} (overrun : Bool) (hrun : s.running = true) (hclk : s.clocked 13 = true)
    (hkind : cKind (s.ctx n).cfg = 1 ∨ cKind (s.ctx n).cfg = 2) (hgrid : s.ts % usT = 0)
    (hphase : s.ts / usT % periodUs (s.ctx n).cfg = cPhase (s.ctx n).cfg) (hnew : ∀ r ∈ s.lpe.queue, ¬ (r.ctx = n.val ∧ r.rel = s.ts)) :
    Machine.loopRelease n overrun s = if overrun then (s.skipRelease n).crossOvr 7
      else { s with lpe := { s.lpe with
        queue := s.lpe.queue ++
          [{ ctx := n, rel := s.ts, dead := s.ts + usT * periodUs (s.ctx n).cfg, k := cK (s.ctx n).cfg, cfg := (s.ctx n).cfg }],
        deepQ := max s.lpe.deepQ (s.lpe.queue.length + 1) } } := by
  have hagain : (s.lpe.queue.any fun r => decide (r.ctx = n.val ∧ r.rel = s.ts)) = false := by
    simpa using hnew
  unfold Machine.loopRelease
  dsimp only
  rw [hagain, if_neg (by simp [hrun, hclk, hkind, hgrid, hphase])]

theorem loopRelease_answers : Claims.loopRelease := by
  intro n s hrun hclk hkind hgrid hphase hnew
  refine Answers.hub rfl hrun ?_
  rw [loopRelease_due false hrun hclk hkind hgrid hphase hnew, if_neg (by decide)]
  exact ⟨rfl, rfl⟩

/-- A release that is dropped: its context's run of skips and the count of skips (R198, R199). -/
theorem skipRelease_effect (s : State) (n : Nat) : (s.skipRelease n).lpe.queue = s.lpe.queue ∧
    (s.skipRelease n).rd LPE_STAT_skips = (s.rd LPE_STAT_skips + 1) % 2 ^ LPE_STAT_skips.width ∧
    ((s.skipRelease n).ctx n).skipRun = min 255 ((s.ctx n).skipRun + 1) ∧ ((s.skipRelease n).ctx n).skips = ((s.ctx n).skips + 1) % 65536 := by
  unfold State.skipRelease
  extract_lets x run y l counted
  have hctx : (((counted.setCtx n y).setFlagBit LPE_OVR n y.ovr).bump LPE_STAT_skips).ctx n = y := ctx_setCtx_same counted n y
  rw [hctx]
  refine ⟨rfl, ?_, rfl, rfl⟩
  rw [State.rd_bump_same]
  unfold State.setFlagBit
  rw [State.rd_wr_sep _ _ _ _ _ _ (by decide)]
  rfl

theorem loopReleaseOverrun_answers : Claims.loopReleaseOverrun := by
  intro n s hrun hclk hkind hgrid hphase hnew
  refine Answers.hub rfl hrun ?_
  obtain ⟨hqueue, hskips, -, -⟩ := skipRelease_effect s n
  rw [loopRelease_due true hrun hclk hkind hgrid hphase hnew, if_pos rfl]
  refine ⟨hqueue, (State.rd_wr_sep _ _ _ _ _ _ (by decide)).trans hskips, (State.rd_wr_same ..).trans ?_⟩
  have hframe := State.skipRelease_frame (Sub.refl _) (Frame.refl _ s) n
  rw [hframe.rd_of (by decide +kernel)]

/-- A release first in the order. -/
theorem loopSkip_due {r : Rel} (hhead : s.relHead = some r) (hclk : s.clocked 13 = true) (hdead : r.dead ≤ s.ts) : Machine.loopSkip s =
    ({ s with lpe := { s.lpe with queue := s.lpe.queue.erase r } } : State).skipRelease r.ctx := by
  unfold Machine.loopSkip
  split
  · next h =>
    obtain rfl := Option.some.inj (hhead.symm.trans h)
    exact if_pos (by simp [hclk, hdead])
  · next h => exact absurd (hhead.symm.trans h) (by simp)

theorem loopSkip_answers : Claims.loopSkip := by
  intro r s hrun hhead hclk hdead
  refine Answers.hub rfl hrun ?_
  rw [loopSkip_due hhead hclk hdead]
  exact skipRelease_effect _ r.ctx

/-! ### Evaluations (R188, R191) -/

/-- The release is taken out of the queue. -/
def State.issued (s : State) (r : Rel) : State := { s with lpe := { s.lpe with queue := s.lpe.queue.erase r } }

theorem loopEvaluation_issued {r : Rel} (late : Bool) (hhead : s.relHead = some r) (hclk : s.clocked 13 = true) (hdead : s.ts < r.dead) :
    Machine.loopEvaluation late s = (if cKind r.cfg = 1 then (s.issued r).evalPI r else (s.issued r).evalFilt r).published r late := by
  unfold Machine.loopEvaluation
  split
  · next h =>
    obtain rfl := Option.some.inj (hhead.symm.trans h)
    exact if_pos (by simp [hclk, hdead])
  · next h => exact absurd (hhead.symm.trans h) (by simp)

/-- The bookkeeping of an evaluation out of OVERRUN. -/
theorem published_effect {r : Rel} (late : Bool) (hovr : (s.ctx r.ctx).ovr = false) : (s.published r late).lpe.queue = s.lpe.queue ∧
    ((s.published r late).ctx r.ctx).tEval = s.ts ∧ ((s.published r late).ctx r.ctx).skipRun = 0 ∧
    ((s.published r late).ctx r.ctx).u = (s.ctx r.ctx).u ∧ ((s.published r late).ctx r.ctx).started = (s.ctx r.ctx).started := by
  unfold State.published
  extract_lets x y z
  rw [if_neg (by simp [show y.ovr = false from hovr]), ctx_setCtx_same]
  exact ⟨rfl, rfl, rfl, rfl, rfl⟩

/-- A PI evaluation with a good input, out of feedback fault and OVERRUN, runs the law. -/
theorem evalPI_law {r : Rel} (hfb : (s.ctx r.ctx).fb = 0) (hovr : (s.ctx r.ctx).ovr = false)
    (hgood : s.judgeInput r.cfg (cIn r.cfg) (s.source (cIn r.cfg)) (s.ctx r.ctx).frz r.rel = none) :
    (s.evalPI r).lpe.queue = s.lpe.queue ∧ (s.evalPI r).ts = s.ts ∧ ((s.evalPI r).ctx r.ctx).ovr = false ∧ ((s.evalPI r).ctx r.ctx).u =
      (s.piLaw r.cfg { s.ctx r.ctx with outranked := s.outRanked r.cfg (s.ctx r.ctx).u }
        (s.measure r.cfg (s.source (cIn r.cfg)).val) (s.outRanked r.cfg (s.ctx r.ctx).u)).u := by
  have hrun : s.feedback r.ctx r.cfg r.rel (s.ctx r.ctx) (s.source (cIn r.cfg)) =
      (s, s.ctx r.ctx, .law (cIn r.cfg) (s.source (cIn r.cfg))) := by
    unfold State.feedback
    dsimp only
    rw [if_pos hfb, hgood]
  unfold State.evalPI
  extract_lets g x p outr
  rw [show s.feedback r.ctx g r.rel x p = _ from hrun]
  dsimp -zeta only
  extract_lets x2 du y v
  have hlaw : x2 = s.piLaw g { x with outranked := outr } (s.measure g p.val) outr := by
    dsimp only [x2, State.runCtx]
    exact if_neg (by rw [show x.ovr = false from hovr]; decide)
  have hovr2 : y.ovr = false := by
    show x2.ovr = false
    rw [hlaw]
    exact hovr
  have hu2 : y.u = (s.piLaw g { x with outranked := outr } (s.measure g p.val) outr).u :=
    (show y.u = x2.u from rfl).trans (congrArg Ctx.u hlaw)
  clear_value y
  have hctx : v.ctx r.ctx = y := ctx_setCtx_same s r.ctx y
  have hqueue : v.lpe.queue = s.lpe.queue := rfl
  have hts : v.ts = s.ts := rfl
  clear_value v
  have hchokers := State.refreshChokers_frame (Sub.refl _) (Frame.refl _ v) (destList v y.cfg)
  rw [ctx_of_ctxs (congrArg Lpe.ctxs (hchokers.lpe rfl)), hchokers.lpe rfl, hchokers.ts rfl, hctx]
  exact ⟨hqueue, hts, hovr2, hu2⟩

theorem loopEvaluationPI_answers : Claims.loopEvaluationPI := by
  intro late r s hrun hhead hclk hdead hkind hfb hovr hgood
  refine Answers.hub rfl hrun ?_
  obtain ⟨hqueue, hts, hovr', hu⟩ := evalPI_law (s := s.issued r) (r := r) hfb hovr hgood
  obtain ⟨hqueue', heval, hskip, hu', -⟩ := published_effect (s := (s.issued r).evalPI r) (r := r) late hovr'
  rw [loopEvaluation_issued late hhead hclk hdead, if_pos hkind, hqueue', heval, hskip, hu', hqueue, hts, hu]
  exact ⟨rfl, rfl, rfl, rfl⟩

/-- A FILT evaluation on a valid input. -/
theorem evalFilt_valid {r : Rel} (hvalid : (s.source (cIn r.cfg)).valid = true) (hever : (s.source (cIn r.cfg)).ever = true) :
    ((s.evalFilt r).ctx r.ctx).ovr = (s.ctx r.ctx).ovr ∧ ((s.evalFilt r).ctx r.ctx).started = true ∧ ((s.evalFilt r).ctx r.ctx).u =
      (if (s.ctx r.ctx).started then add32 (s.ctx r.ctx).u (mul32 (cKp r.cfg) (sub32 (s.source (cIn r.cfg)).val (s.ctx r.ctx).u))
        else (s.source (cIn r.cfg)).val) := by
  unfold State.evalFilt
  extract_lets g x p ok u' y old new
  have hok : ok = true := by
    show (p.valid && p.ever) = true
    rw [show p.valid = true from hvalid, show p.ever = true from hever]
    rfl
  have hy : y.ovr = x.ovr ∧ y.started = true ∧
      y.u = if x.started then add32 x.u (mul32 (cKp g) (sub32 p.val x.u)) else p.val := by
    refine ⟨rfl, ?_, ?_⟩
    · show (x.started || ok) = true
      rw [hok, Bool.or_true]
    · show (if (!ok) = true then x.u else _) = _
      rw [hok]
      rfl
  clear_value y
  have hctx : State.ctx { s.setCtx r.ctx y with lpe := { (s.setCtx r.ctx y).lpe with src := mput s.lpe.src (srcK 0x0B r.ctx) new } } r.ctx = y :=
    ctx_setCtx_same s r.ctx y
  rw [hctx]
  exact hy

theorem loopEvaluationFilt_answers : Claims.loopEvaluationFilt := by
  intro late r s hrun hhead hclk hdead hkind hvalid hever hovr
  refine Answers.hub rfl hrun ?_
  obtain ⟨hovr', hstarted, hu⟩ := evalFilt_valid (s := s.issued r) (r := r) hvalid hever
  obtain ⟨-, -, -, hu', hstarted'⟩ := published_effect (s := (s.issued r).evalFilt r) (r := r) late (hovr'.trans hovr)
  rw [loopEvaluation_issued late hhead hclk hdead, if_neg (by omega), hu', hstarted', hu]
  exact ⟨hstarted, rfl⟩

end

/-- Settles O8. -/
theorem estimateForecastLoops : Obligations.EstimateForecastLoops :=
  ⟨estimatorTick_answers, measFinalise_answers, calibrationApply_answers, anchorPublish_answers, anchorFault_answers,
    periodicSnapshot_answers, periodicSnapshotStopped_answers, promptSnapshot_answers, forecastOutput_answers, lnModeChange_answers,
    loopRelease_answers, loopReleaseOverrun_answers, loopSkip_answers, loopEvaluationPI_answers, loopEvaluationFilt_answers⟩

end Sys2Proof.Machine
end

section
/-!
PROOF. Anchors, thermal steps and the thermal protection (R54, R205 to R236).
-/
namespace Sys2Proof.Machine
open Sys2Proof.Claims

set_option Elab.async false

section
variable {s t u : State}

theorem foldTo_kept {β : Type} (g : State → β) (f : State → Nat → State) (hf : ∀ u k, g (f u k) = g u) (n : Nat) (s : State) :
    g (foldTo n s f) = g s := by
  unfold foldTo
  generalize List.range n = l
  induction l generalizing s with
  | nil => rfl
  | cons k l ih => exact (ih (f s k)).trans (hf s k)

/-! ### Conversions (R54, R55) -/

theorem anchorConversion_answers : Claims.anchorConversion := by
  intro a raw s hrun hen hlow hhigh
  refine Answers.hub rfl hrun ?_
  unfold Machine.anchorConversion
  dsimp only
  rw [if_neg (by simp [hrun, hen]), if_neg (by simp [hlow, hhigh]), (State.conversionEffects_frame (Sub.refl _) (Frame.refl _ _) _).sns rfl]
  exact ⟨mget_mput_same .., mget_mput_same ..⟩

theorem anchorConversionFails_answers : Claims.anchorConversionFails := by
  intro a raw s hrun hen
  refine Answers.hub rfl hrun ?_
  unfold Machine.anchorConversion
  dsimp only
  rw [if_neg (by simp [hrun, hen]), if_pos (by simp)]
  exact ⟨mget_mput_same .., rfl⟩

/-! ### Step instants (R207, R209, R230) -/

/-- A step instant of the running model. -/
theorem thermalStep_due (hrun : s.running = true) (hstate : s.rd THM_STAT_state = 2) (hstart : s.thm.t0 ≤ s.ts) (hper : s.thm.per ≠ 0)
    (hgrid : (s.ts - s.thm.t0) % (usT * s.thm.per) = 0) (hnew : s.thm.lastStep ≠ some s.ts) :
    ¬ (!s.running || decide (s.rd THM_STAT_state ≠ 2) || decide (s.ts < s.thm.t0) || decide (s.thm.per = 0)
      || decide ((s.ts - s.thm.t0) % (usT * s.thm.per) ≠ 0) || decide (s.thm.lastStep = some s.ts)) = true := by
  simp [hrun, hstate, hstart, hper, hgrid, hnew]

theorem thermalStep_answers : Claims.thermalStep := by
  intro s hrun hstate hstart hper hgrid hnew hpend hidle
  refine Answers.hub rfl hrun ?_
  unfold Machine.thermalStep State.startStep
  dsimp only
  rw [if_neg (thermalStep_due hrun hstate hstart hper hgrid hnew), hpend, hidle]
  exact ⟨rfl, rfl, rfl, rfl⟩

theorem thermalStepLate_answers : Claims.thermalStepLate := by
  intro r s hrun hstate hstart hper hgrid hnew hpend hbusy hroom
  refine Answers.hub rfl hrun ?_
  unfold Machine.thermalStep
  dsimp only
  rw [if_neg (thermalStep_due hrun hstate hstart hper hgrid hnew), hpend, hbusy]
  dsimp only
  rw [Option.isSome_none, Bool.false_and, if_neg Bool.false_ne_true, if_neg Bool.false_ne_true]
  split
  · next h => exact absurd h (Nat.not_le.2 hroom)
  · refine ⟨rfl, List.length_append, ?_⟩
    exact (State.rd_wr_sep _ _ _ _ _ _ (by decide)).trans (State.rd_bump_same ..)

theorem thermalStepNewSet_answers : Claims.thermalStepNewSet := by
  intro m s hrun hstate hstart hper hgrid hnew hpend hidle
  refine Answers.hub rfl hrun ?_
  unfold Machine.thermalStep
  have hperiod : (if (some m).isSome && decide (s.thm.per ≠ s.rd THM_STEP_period) then s.rd THM_STEP_period else s.thm.per) =
      s.rd THM_STEP_period := by
    by_cases h : s.thm.per = s.rd THM_STEP_period <;> simp [h]
  dsimp only
  rw [if_neg (thermalStep_due hrun hstate hstart hper hgrid hnew), hpend, hidle]
  dsimp only
  rw [hperiod]
  unfold State.startStep
  dsimp only
  refine ⟨rfl, rfl, rfl, rfl, ?_, rfl⟩
  exact (State.rd_wr_sep _ _ _ _ _ _ (by decide)).trans ((State.rd_wr_sep _ _ _ _ _ _ (by decide)).trans (State.rd_wr_same ..))

/-- REINIT is entered. -/
theorem thmReinit_effect (s : State) (cause node : Nat) : (s.thmReinit cause node).rd THM_STAT_state = 3 ∧
    (s.thmReinit cause node).thm = { s.thm.dropSteps with below := none } ∧
    (s.thmReinit cause node).rd THM_STEP_STAT_reinit = (s.rd THM_STEP_STAT_reinit + 1) % 2 ^ THM_STEP_STAT_reinit.width ∧
    Recorded s (s.thmReinit cause node) 11 9 [cause, node] := by
  unfold State.thmReinit
  extract_lets u src v
  refine ⟨?_, ?_, ?_, Recorded.before (State.emit_recorded _ 11 9 [cause, node]) rfl rfl⟩
  · rw [State.rd_emit _ _ _ _ _ _ (by decide), State.rd_bump_sep _ _ _ _ _ (by decide)]
    exact (State.rd_wr_sep _ _ _ _ _ _ (by decide)).trans (State.rd_wr_same ..)
  · simp only [State.emit_same]
    rfl
  · rw [State.rd_emit _ _ _ _ _ _ (by decide), State.rd_bump_same]
    have hcount : v.rd THM_STEP_STAT_reinit = s.rd THM_STEP_STAT_reinit :=
      (State.rd_wr_sep _ _ _ _ _ _ (by decide)).trans (State.rd_wr_sep _ _ _ _ _ _ (by decide))
    rw [hcount]

theorem thermalStepOverrun_answers : Claims.thermalStepOverrun := by
  intro r s hrun hstate hstart hper hgrid hnew hbusy hfull
  refine Answers.hub rfl hrun ?_
  unfold Machine.thermalStep
  extract_lets t newP per st u
  rw [if_neg (thermalStep_due hrun hstate hstart hper hgrid hnew)]
  split
  · next h => exact absurd (hbusy.symm.trans h) (by simp)
  · rw [if_pos (show u.rd THM_STEP_catchup ≤ t.queue.length from hfull)]
    obtain ⟨hthree, hthm, -, hrecorded⟩ := thmReinit_effect u 0 0xFFFF
    rw [hthm]
    exact ⟨hthree, rfl, rfl, Recorded.before hrecorded rfl rfl⟩

/-! ### A step completes (R124, R220) -/

/-- The step in progress of the running model ends: its temperatures are judged. -/
theorem thermalStepComplete_bad {st : ThmStep} {x rest : List Nat} {n : Nat} (hrun : s.running = true) (hbusy : s.thm.run = some st)
    (hstate : s.rd THM_STAT_state = 2) (hx : stepX s.thm.set (correctedX s.thm.x st.corr) st.p = x) (hbad : badNodes x = n :: rest) :
    Machine.thermalStepComplete s = (s.arrFlags 1 (n / 64) x).thmReinit 1 n := by
  unfold Machine.thermalStepComplete
  split
  · next h => exact absurd (hbusy.symm.trans h) (by simp)
  · next h =>
    obtain rfl := Option.some.inj (hbusy.symm.trans h)
    rw [if_neg (by simp [hrun, hstate]), hx]
    extract_lets y flagged
    split
    · next h' =>
      obtain ⟨rfl, rfl⟩ := List.cons.inj (hbad.symm.trans h')
      dsimp only [flagged, y]
      rw [hbad, List.headD_cons]
    · next h' => exact absurd (hbad.symm.trans h') (by simp)

theorem thermalStepComplete_good {st : ThmStep} {x : List Nat} (hrun : s.running = true) (hbusy : s.thm.run = some st)
    (hstate : s.rd THM_STAT_state = 2) (hx : stepX s.thm.set (correctedX s.thm.x st.corr) st.p = x) (hgood : badNodes x = []) :
    Machine.thermalStepComplete s = ((s.arrFlags 1 (0 / 64) x).stepResults st ((s.arrFlags 1 (0 / 64) x).coldPlate x)).stepNext := by
  unfold Machine.thermalStepComplete
  split
  · next h => exact absurd (hbusy.symm.trans h) (by simp)
  · next h =>
    obtain rfl := Option.some.inj (hbusy.symm.trans h)
    rw [if_neg (by simp [hrun, hstate]), hx]
    extract_lets y flagged
    split
    · next h' => exact absurd (hgood.symm.trans h') (by simp)
    · dsimp only [flagged, y]
      rw [hgood, List.headD_nil]

theorem arrFlags_thm (s : State) (program slice : Nat) (ws : List Nat) : (s.arrFlags program slice ws).thm = s.thm ∧
    (s.arrFlags program slice ws).ts = s.ts ∧ (s.arrFlags program slice ws).rd THM_STEP_STAT_reinit = s.rd THM_STEP_STAT_reinit := by
  have hframe := State.arrFlags_frame (Sub.refl _) (Frame.refl _ s) program slice ws
  exact ⟨hframe.thm rfl, hframe.ts rfl, hframe.rd_of (by decide +kernel) 0⟩

theorem thermalStepBad_answers : Claims.thermalStepBad := by
  intro st s hrun hbusy hstate hbad
  refine Answers.hub rfl hrun ?_
  obtain ⟨n, rest, hn⟩ := List.exists_cons_of_ne_nil hbad
  rw [thermalStepComplete_bad hrun hbusy hstate rfl hn]
  generalize stepX s.thm.set (correctedX s.thm.x st.corr) st.p = x
  obtain ⟨hthm, -, hcount⟩ := arrFlags_thm s 1 (n / 64) x
  obtain ⟨hthree, hdropped, hreinit, -⟩ := thmReinit_effect (s.arrFlags 1 (n / 64) x) 1 n
  rw [hdropped, hthm, hreinit, hcount]
  exact ⟨hthree, rfl, rfl, rfl⟩

/-- The temperatures and the instant of the latest step to complete. -/
def State.completed (s : State) : List Nat × Option Nat := (s.thm.x, s.thm.lastDone)

theorem completed_of_thm (h : t.thm = s.thm) : t.completed = s.completed := by
  unfold State.completed
  rw [h]

theorem completed_setThm (s : State) (x : Thm) (h : x.x = s.thm.x ∧ x.lastDone = s.thm.lastDone) : (s.setThm x).completed = s.completed :=
  Prod.ext h.1 h.2

theorem completed_wr (s : State) (f : Fld) (i v : Nat) : (s.wr f i v).completed = s.completed := rfl

theorem completed_emitLim (s : State) (unit idx scope span : Nat) (ps : List Nat) :
    (s.emitLim unit idx scope span ps).completed = s.completed := by
  refine completed_of_thm ?_
  simp only [State.emitLim_same]

theorem completed_emit (s : State) (unit idx : Nat) (ps : List Nat) : (s.emit unit idx ps).completed = s.completed := by
  refine completed_of_thm ?_
  simp only [State.emit_same]

theorem completed_nodeFlags (s : State) (n : Nat) : (s.nodeFlags n).completed = s.completed := by
  unfold State.nodeFlags
  generalize s.theta24 n = th
  obtain ⟨th, rate⟩ := th
  dsimp -zeta only
  extract_lets g l hyst warn w0 t0 w t' shown src held told
  have hheld : held.completed = s.completed := rfl
  have htold : told.completed = s.completed := by
    dsimp only [told]
    split
    · exact (completed_emitLim ..).trans hheld
    · exact hheld
  split
  · exact (completed_emitLim ..).trans htold
  · exact htold

theorem thm_showL (s : State) (n l : Nat) : (s.showL n l).thm = s.thm := rfl

theorem thm_showHot (s : State) : s.showHot.thm = s.thm := rfl

theorem completed_refreshL (s : State) : s.refreshL.completed = s.completed := by
  unfold State.refreshL
  extract_lets l src held
  have hheld : held.completed = s.completed := completed_setThm s _ ⟨rfl, rfl⟩
  clear_value held l
  have hshown : (foldTo 512 held fun s n => s.showL n (l.getD n 0)).thm = held.thm :=
    foldTo_kept State.thm (fun s n => s.showL n (l.getD n 0)) (fun u n => thm_showL u n (l.getD n 0)) 512 held
  generalize foldTo 512 held (fun s n => s.showL n (l.getD n 0)) = shown at *
  exact (completed_of_thm ((thm_showHot shown).trans hshown)).trans hheld

theorem completed_publishL (s : State) : s.publishL.completed = s.completed := by
  unfold State.publishL
  extract_lets published
  have hpublished : published.thm = s.thm := foldTo_kept State.thm (fun s n => s.publish 0x08 n (s.thm.l.getD n 0) true) (fun _ _ => rfl) 512 s
  clear_value published
  exact (foldTo_kept State.completed State.nodeFlags completed_nodeFlags 512 published).trans (completed_of_thm hpublished)

theorem completed_setBand (s : State) (b tb : Nat) : (s.setBand b tb).completed = s.completed := by
  unfold State.setBand
  extract_lets old u src v w
  have hw : w.completed = s.completed := by
    dsimp only [w]
    split <;> rfl
  exact (completed_emit ..).trans hw

theorem completed_bandRise (s : State) : s.bandRise.completed = s.completed := by
  unfold State.bandRise
  split
  · split
    · exact completed_setBand ..
    · rfl
  · rfl

theorem completed_bandStep (s : State) : s.bandStep.completed = s.completed := by
  unfold State.bandStep
  extract_lets src banded risen
  have hrisen : risen.completed = s.completed := by
    refine (completed_bandRise banded).trans ?_
    dsimp only [banded]
    split <;> rfl
  clear_value risen
  split
  · exact hrisen
  · exact hrisen

theorem completed_startStep (s : State) (st : ThmStep) : (s.startStep st).completed = s.completed := by
  unfold State.startStep
  dsimp only
  split <;> rfl

theorem completed_shutdown (s : State) (n l source : Nat) : (s.shutdown n l source).completed = s.completed := by
  unfold State.shutdown
  split
  · rfl
  · extract_lets u v pins src w
    have hv : v.completed = s.completed := completed_emit ..
    have hw : w.completed = v.completed := rfl
    have hlast := State.handover_frame (m := State.handover_foot ||| State.haltPowerUp_foot) (show _ &&& _ = _ by decide)
      (State.haltPowerUp_frame (show _ &&& _ = _ by decide) (Frame.refl _ (w.wr THM_STEP_STAT_pend 0 0))) 2
    exact (completed_of_thm (s := w) (hlast.thm rfl)).trans (hw.trans hv)

theorem completed_stepNext (s : State) : s.stepNext.completed = s.completed := by
  unfold State.stepNext
  split
  · exact completed_shutdown ..
  · split
    · rfl
    · exact completed_startStep _ _

theorem completed_stepResults (s : State) (st : ThmStep) (x : List Nat) : (s.stepResults st x).completed = (x, some s.ts) := by
  unfold State.stepResults
  extract_lets shown src held sent published flagged
  have hshown : shown.ts = s.ts := (State.showX_frame (Sub.refl _) (Frame.refl _ s) x).ts rfl
  clear_value shown
  have hheld : held.completed = (x, some shown.ts) := rfl
  clear_value held
  have hsent : sent.thm = held.thm := (State.sendPlate_frame (Sub.refl _) (Frame.refl _ held) _ _).thm rfl
  have hpublished : published.completed = sent.completed := (completed_publishL _).trans (completed_refreshL sent)
  clear_value published
  have hflagged : flagged.completed = published.completed := (completed_wr ..).trans (completed_wr ..)
  exact (completed_bandStep flagged).trans (hflagged.trans (hpublished.trans ((completed_of_thm hsent).trans (hheld.trans (by rw [hshown])))))

theorem thermalStepComplete_answers : Claims.thermalStepComplete := by
  intro st s hrun hbusy hstate hone hgood
  refine Answers.hub rfl hrun ?_
  rw [thermalStepComplete_good hrun hbusy hstate rfl hgood]
  generalize stepX s.thm.set (correctedX s.thm.x st.corr) st.p = x
  have hflags := State.arrFlags_frame (Sub.refl _) (Frame.refl _ s) 1 (0 / 64) x
  have hone' : (s.arrFlags 1 (0 / 64) x).isD = false := by
    unfold State.isD
    rw [hflags.fuse rfl]
    exact hone
  generalize s.arrFlags 1 (0 / 64) x = u at *
  have hplate : u.coldPlate x = x := by
    unfold State.coldPlate
    rw [hone']
    exact if_neg (by simp)
  have hdone := (completed_stepNext _).trans (completed_stepResults u st (u.coldPlate x))
  rw [hplate, hflags.ts rfl] at hdone
  rw [hplate]
  exact Prod.mk.inj hdone

/-! ### Bands and the shutdown (R227, R233) -/

/-- A band change is shown and recorded (R228). -/
theorem setBand_effect (s : State) (b tb : Nat) : (s.setBand b tb).rd THM_STAT_band = b % 2 ^ THM_STAT_band.width ∧
    (s.setBand b tb).rd SNS_DRP_BAND_band = b % 2 ^ SNS_DRP_BAND_band.width ∧
    Recorded s (s.setBand b tb) 11 7 [s.rd THM_STAT_band, b, p7 tb] := by
  unfold State.setBand
  extract_lets old u src v w
  have hu : u.rd THM_STAT_band = b % 2 ^ THM_STAT_band.width ∧ u.rd SNS_DRP_BAND_band = b % 2 ^ SNS_DRP_BAND_band.width :=
    ⟨(State.rd_wr_sep _ _ _ _ _ _ (by decide)).trans (State.rd_wr_same ..), State.rd_wr_same ..⟩
  have hw : w.rd THM_STAT_band = u.rd THM_STAT_band ∧ w.rd SNS_DRP_BAND_band = u.rd SNS_DRP_BAND_band ∧ w.recd = s.recd ∧ w.ts = s.ts := by
    dsimp only [w]
    split
    · exact ⟨State.rd_wr_sep _ _ _ _ _ _ (by decide), State.rd_wr_sep _ _ _ _ _ _ (by decide), rfl, rfl⟩
    · exact ⟨rfl, rfl, rfl, rfl⟩
  obtain ⟨hband, hdroop, hrecd, hts⟩ := hw
  rw [State.rd_emit _ _ _ _ _ _ (by decide), State.rd_emit _ _ _ _ _ _ (by decide), hband, hdroop]
  exact ⟨hu.1, hu.2, Recorded.before (State.emit_recorded w 11 7 [old, b, p7 tb]) hrecd hts⟩

theorem bandFall_answers : Claims.bandFall := by
  intro n tb s hrun hbelow htemp hstate hdone hlow hdwell
  refine Answers.hub rfl hrun ?_
  unfold Machine.bandFall
  split
  · next h h' =>
    obtain rfl := Option.some.inj (hbelow.symm.trans h)
    obtain rfl := Option.some.inj (htemp.symm.trans h')
    rw [if_pos (by simp [hrun, hstate, hdone, hlow, hdwell])]
    obtain ⟨hband, hdroop, hrecorded⟩ := setBand_effect s (s.rd THM_STAT_band - 1) tb
    exact ⟨hband, hdroop, Recorded.after hrecorded rfl⟩
  · next hnone => exact absurd htemp (hnone n tb hbelow)

/-- The stage becomes LATCHED and QUEFA_READY is negated (R411). -/
theorem latchStage_effect (s : State) {cause : Nat} (hcause : cause < 8) : (s.latchStage cause).pins.ready = false ∧
    (s.latchStage cause).rd RST_SEQ_stage = 9 ∧ (s.latchStage cause).rd RST_SEQ_cause = cause := by
  have hready (u : State) (k : Nat) : (u.readyNegate k).pins.ready = false := by
    unfold State.readyNegate
    split
    · have hlost := foldTo_kept State.pins State.chokerLost (fun _ _ => rfl) 320 { u with pins := { u.pins with ready := false } }
      simp only [State.emit_same]
      rw [hlost]
    · next h => simpa using h
  unfold State.latchStage
  refine ⟨hready s _, (State.rd_wr_sep _ _ _ _ _ _ (by decide)).trans (State.rd_wr_same ..), (State.rd_wr_same ..).trans (Nat.mod_eq_of_lt ?_)⟩
  exact Nat.lt_of_lt_of_le hcause (by decide)

/-- The power-down of a block with no group started, past the sequence of start-up: the stage stays. -/
theorem powerDown_latched (hphase : s.pmb.phase = 0) (hstarted : s.pmb.started = []) (hstage : s.rd RST_SEQ_stage ≠ 4) :
    s.powerDown.pmb.phase = 0 ∧ s.powerDown.pmb.thermal = s.pmb.thermal ∧ s.powerDown.rd RST_SEQ_stage = s.rd RST_SEQ_stage ∧
      s.powerDown.rd RST_SEQ_cause = s.rd RST_SEQ_cause ∧ s.powerDown.pins = s.pins := by
  unfold State.powerDown
  split
  · exact ⟨hphase, rfl, rfl, rfl, rfl⟩
  · obtain ⟨hregs, hfuse, -, -, hkept⟩ := seqStop_effect s
    have hthermal : s.seqStop.pmb.thermal = s.pmb.thermal ∧ s.seqStop.pins = s.pins := by
      unfold State.seqStop State.sweepStop
      dsimp only
      split <;> exact ⟨rfl, rfl⟩
    have hrd (f : Fld) (hf : sepFld f PMB_STAT_seq = true) (v : Nat) : (s.seqStop.wr PMB_STAT_seq 0 v).rd f = s.rd f :=
      (State.rd_wr_sep _ _ _ _ _ _ hf).trans (rd_of_regs hregs hfuse f 0)
    have hnext : (s.seqStop.wr PMB_STAT_seq 0 4).pmb.started = [] := (hkept hphase).trans hstarted
    have hstage' : (s.seqStop.wr PMB_STAT_seq 0 4).rd RST_SEQ_stage = s.rd RST_SEQ_stage := hrd _ (by decide) 4
    have hcause' : (s.seqStop.wr PMB_STAT_seq 0 4).rd RST_SEQ_cause = s.rd RST_SEQ_cause := hrd _ (by decide) 4
    have hthermal' : (s.seqStop.wr PMB_STAT_seq 0 4).pmb.thermal = s.pmb.thermal := hthermal.1
    have hpins : (s.seqStop.wr PMB_STAT_seq 0 4).pins = s.pins := hthermal.2
    generalize s.seqStop.wr PMB_STAT_seq 0 4 = u at *
    unfold State.downNext
    rw [hnext]
    extract_lets v src w
    have hv (f : Fld) (hf : sepFld f PMB_STAT_seq = true) : w.rd f = u.rd f := State.rd_wr_sep _ _ _ _ _ _ hf
    rw [if_neg (fun h => hstage ((hstage'.symm.trans (hv _ (by decide)).symm).trans h.2)), hv _ (by decide), hv _ (by decide)]
    exact ⟨rfl, hthermal', hstage', hcause', hpins⟩

theorem shutdownDrainExpire_answers : Claims.shutdownDrainExpire := by
  intro n s hrun hshut hdrain hphase hstarted
  refine Answers.hub rfl hrun ?_
  unfold Machine.shutdownDrainExpire
  split
  · next h =>
    obtain rfl := Option.some.inj (hshut.symm.trans h)
    rw [if_pos (by simp [hrun, hdrain])]
    extract_lets srcT v srcP w latched
    obtain ⟨hready, hnine, hfive⟩ := latchStage_effect w (cause := 5) (by decide)
    have hlatched : Frame State.latchStage_foot w latched := State.latchStage_frame (Sub.refl _) (Frame.refl _ w) 5
    have hpmb : latched.pmb = w.pmb := hlatched.pmb rfl
    obtain ⟨hidle, hthermal, hstage, hcause, hpins⟩ := powerDown_latched (s := latched) (hpmb ▸ hphase) (hpmb ▸ hstarted)
      (fun h => absurd (hnine.symm.trans h) (by decide))
    have hdown : Frame (State.powerDown_foot ||| State.mirrorCause_foot) latched (latched.powerDown.mirrorCause 2) :=
      State.mirrorCause_frame (show _ &&& _ = _ by decide) (State.powerDown_frame (show _ &&& _ = _ by decide) (Frame.refl _ latched)) 2
    have hmirror := State.mirrorCause_frame (Sub.refl _) (Frame.refl _ latched.powerDown) 2
    rw [pmbSettle_of_idle ((congrArg Pmb.phase (hmirror.pmb rfl)).trans hidle), hdown.thm rfl, hmirror.pins rfl, hpins, hlatched.thm rfl,
      hmirror.pmb rfl, hmirror.rd_of (by decide +kernel), hmirror.rd_of (by decide +kernel), hstage, hcause, hthermal, hpmb]
    exact ⟨rfl, hready, hnine, hfive, rfl⟩
  · next h => exact absurd (hshut.symm.trans h) (by simp)

/-! ### Runs of the model (R213, R231) -/

/-- The unit's own state where a run of the model begins. -/
def State.runBegun (s : State) (x : List Nat) : State :=
  let u := s.setThm { s.thm.dropSteps with x := x, t0 := s.ts, runT := s.ts, per := s.rd THM_STEP_period, lastStep := none, ms := [],
                                           below := none }
  { u with lpe := { u.lpe with src := u.lpe.src.filter fun e => decide (e.1 / 4096 ≠ 0x08) } }

theorem thm_rateCleared (s : State) : (foldTo 512 s fun s n => s.wr THM_RATE n 0).thm = s.thm :=
  foldTo_kept State.thm (fun s n => s.wr THM_RATE n 0) (fun _ _ => rfl) 512 s

theorem thm_runBegun (s : State) (x : List Nat) : (s.runBegun x).thm.t0 = s.ts ∧ (s.runBegun x).thm.runT = s.ts ∧
    (s.runBegun x).thm.x = x ∧ (s.runBegun x).thm.run = none ∧ (s.runBegun x).thm.queue = [] := ⟨rfl, rfl, rfl, rfl, rfl⟩

theorem thm_wr (s : State) (f : Fld) (i v : Nat) : (s.wr f i v).thm = s.thm := rfl

/-- A run of the model begins. -/
theorem beginRun_effect (s : State) (x : List Nat) : (s.beginRun x).rd THM_STAT_state = 2 ∧ (s.beginRun x).thm.t0 = s.ts ∧
    (s.beginRun x).thm.runT = s.ts ∧ (s.beginRun x).thm.x = x ∧ (s.beginRun x).thm.run = none ∧ (s.beginRun x).thm.queue = [] := by
  have hthm : (s.beginRun x).thm = (s.runBegun x).thm := (thm_wr ..).trans (thm_rateCleared (s.runBegun x))
  rw [hthm]
  exact ⟨State.rd_wr_same .., thm_runBegun s x⟩

theorem modelInit_answers : Claims.modelInit := by
  intro s hrun hms hstate
  refine Answers.hub rfl hrun ?_
  unfold Machine.modelInit
  rw [if_pos (by simp [hrun, hms, hstate])]
  exact beginRun_effect s (s.initX fun a => !s.flag SNS_ANC_fault a)

theorem reinitRecover_answers : Claims.reinitRecover := by
  intro s hrun hms hstate
  refine Answers.hub rfl hrun ?_
  unfold Machine.reinitRecover
  rw [if_pos (by simp [hrun, hms, hstate])]
  obtain ⟨hrunning, ht0, hrunT, hx, -, -⟩ := beginRun_effect s (s.initX fun a => !s.flag SNS_ANC_fault a && !s.flag SNS_ANC_broken a)
  exact ⟨hrunning, ht0, hrunT, hx⟩

/-! ### Anchors' corrections (R214) -/

theorem rd_setThm (s : State) (x : Thm) (f : Fld) (i : Nat) : (s.setThm x).rd f i = s.rd f i := rfl

/-- Judging an anchor writes the residuals at its own index alone. -/
theorem rd_judgeAnchor (s : State) (rs : List Nat) (ok : Nat → Bool) (a k : Nat) : (s.judgeAnchor rs ok a).rd THM_ANC_ST_residual k =
    (s.wr THM_ANC_ST_residual a (t7 (rs.getD a 0))).rd THM_ANC_ST_residual k := by
  unfold State.judgeAnchor
  extract_lets r flagged nb med fm fn run shown judged broken d d'
  have hjudged : judged.rd THM_ANC_ST_residual k = (s.wr THM_ANC_ST_residual a (t7 (rs.getD a 0))).rd THM_ANC_ST_residual k := by
    refine (State.rd_wr_sep _ _ _ _ _ _ (by decide)).trans ((State.rd_wr_sep _ _ _ _ _ _ (by decide)).trans
      ((State.rd_wr_sep _ _ _ _ _ _ (by decide)).trans ?_))
    exact State.rd_wr_sep _ _ _ _ _ _ (by decide)
  have hbroken : broken.rd THM_ANC_ST_residual k = judged.rd THM_ANC_ST_residual k := by
    dsimp only [broken]
    split
    · exact (State.rd_emit _ _ _ _ _ _ (by decide)).trans (State.rd_wr_sep _ _ _ _ _ _ (by decide))
    · rfl
  split
  · exact (State.rd_emit _ _ _ _ _ _ (by decide)).trans (hbroken.trans hjudged)
  · exact hbroken.trans hjudged

theorem anchorCorrection_answers : Claims.anchorCorrection := by
  intro a s hrun hms hstate hafter hen
  refine Answers.hub rfl hrun ?_
  unfold Machine.anchorCorrection
  rw [if_neg (by simp [hrun, hms, hstate, hafter, hen])]
  extract_lets rs ok judged blinded cl cs
  have hres : rs.getD a 0 = s.residual a := by
    dsimp only [rs]
    simp [List.getD, a.isLt]
  have hlen : cs.length = 128 := by
    dsimp only [cs]
    rw [List.length_map, List.length_range]
  clear_value rs cs
  have hjudged : judged.rd THM_ANC_ST_residual a = t7 (s.residual a) % 2 ^ THM_ANC_ST_residual.width := by
    refine foldTo_at (fun s a => s.judgeAnchor rs ok a) (fun _ => True)
      (fun u => u.rd THM_ANC_ST_residual a = t7 (s.residual a) % 2 ^ THM_ANC_ST_residual.width) a.isLt trivial
      (fun _ _ _ _ _ => trivial) (fun u _ => ?_) fun u k hk hne h => ?_
    · rw [rd_judgeAnchor, State.rd_wr_same, hres]
    · rw [rd_judgeAnchor, State.rd_wr_idx u THM_ANC_ST_residual _ (by decide) hk a.isLt (Ne.symm hne), h]
  refine ⟨?_, hlen⟩
  exact (rd_setThm ..).trans (((State.judgeBlind_frame (Sub.refl _) (Frame.refl _ judged)).rd_of (by decide +kernel) a).trans hjudged)

/-! ### The cold plate and the coolant (R207, R235) -/

theorem cplateLocal_answers : Claims.cplateLocal := by
  intro s hrun hpair hremote hlate
  refine Answers.hub rfl hrun ?_
  unfold Machine.cplateLocal
  rw [if_pos (by simp [hpair, hremote, hlate])]
  refine ⟨(State.rd_emit _ _ _ _ _ _ (by decide)).trans (State.rd_wr_same ..), ?_⟩
  exact Recorded.before (State.emit_recorded _ 11 12 [roundNEN (s.ts - s.thm.cpT) usT]) rfl rfl

theorem thmTinWrite_answers : Claims.thmTinWrite := by
  intro v s hrun hunit hlow hhigh
  refine Answers.hub rfl hrun ?_
  unfold Machine.thmTinWrite State.writeTin
  dsimp only
  rw [if_pos hunit, if_pos ⟨hlow, hhigh⟩]
  exact ⟨(State.rd_wr_same ..).trans (Nat.mod_eq_of_lt v.isLt), State.rd_wr_sep _ _ _ _ _ _ (by decide)⟩

theorem thmTinReject_answers : Claims.thmTinReject := by
  intro v s hrun hunit hout
  refine Answers.hub rfl hrun ?_
  unfold Machine.thmTinWrite State.writeTin
  dsimp only
  rw [if_pos hunit, if_neg (by omega)]
  exact ⟨State.rd_bump_sep _ _ _ _ _ (by decide), State.rd_bump_same ..⟩

end

/-- Settles O9. -/
theorem thermalModel : Obligations.ThermalModel :=
  ⟨anchorConversion_answers, anchorConversionFails_answers, thermalStep_answers, thermalStepLate_answers, thermalStepNewSet_answers,
    thermalStepOverrun_answers, thermalStepBad_answers, thermalStepComplete_answers, bandFall_answers, shutdownDrainExpire_answers,
    modelInit_answers, reinitRecover_answers, anchorCorrection_answers, cplateLocal_answers, thmTinWrite_answers, thmTinReject_answers⟩

end Sys2Proof.Machine
end

section
/-!
PROOF. Accesses of the banks, bring-up reads and the background test (R422 to R432).
-/
namespace Sys2Proof.Machine
open Sys2Proof.Claims

set_option Elab.async false

section
variable {s t u : State}

/-! ### Presenting an access (R422, R424) -/

/-- An access that the region registers allow waits for its bank. -/
theorem presentAcc_admitted {a : MemAcc} (h : s.rgnOk a.master a.bank a.off 64 a.write = true) :
    s.presentAcc a = s.setHub { s.hub with accs := s.hub.accs ++ [{ a with gated := !ungated a.master a.bank }] } := by
  unfold State.presentAcc
  exact if_neg (by simp [h])

/-- One that they do not allow is recorded; a read returns zeros. -/
theorem presentAcc_refused {a : MemAcc} (hclear : a.master ≠ 7) (h : s.rgnOk a.master a.bank a.off 64 a.write = false) :
    s.presentAcc a = if a.write then s.rgnViol a.master a.bank a.off a.write
      else if a.master = 12 then
        (s.rgnViol a.master a.bank a.off a.write).setHub { (s.rgnViol a.master a.bank a.off a.write).hub with
          buData := some (List.replicate 64 0) }
      else (s.rgnViol a.master a.bank a.off a.write).send (.memData a.master (List.replicate 64 0)) := by
  unfold State.presentAcc
  exact if_pos (by simp [hclear, h])

/-- A violation is recorded (R422). -/
theorem rgnViol_effect (s : State) {master bank off : Nat} (write : Bool) (hmaster : master < 16) (hbank : bank < 32) :
    (s.rgnViol master bank off write).rd MEM_VIOL_valid = 1 ∧ (s.rgnViol master bank off write).rd MEM_VIOL_master = master ∧
      (s.rgnViol master bank off write).rd MEM_VIOL_bank = bank ∧ (s.rgnViol master bank off write).rd MEM_VIOL_write = b2n write ∧
      (s.rgnViol master bank off write).rd MEM_VIOL_region = off / 256 % 2 ^ MEM_VIOL_region.width ∧
      (s.rgnViol master bank off write).mem = s.mem ∧ (s.rgnViol master bank off write).out = s.out ∧
      (s.rgnViol master bank off write).hub = s.hub := by
  have hframe := State.rgnViol_frame (Sub.refl _) (Frame.refl _ s) master bank off write
  refine ⟨?_, ?_, ?_, ?_, ?_, hframe.mem rfl, hframe.out rfl, hframe.hub rfl⟩
  all_goals
    unfold State.rgnViol
    rw [State.rd_emitLim _ _ _ _ _ _ _ _ (by decide)]
    simp (disch := decide) only [State.rd_wr_sep, State.rd_wr_same]
  · rfl
  · exact Nat.mod_eq_of_lt (Nat.lt_of_lt_of_le hmaster (by decide))
  · exact Nat.mod_eq_of_lt (Nat.lt_of_lt_of_le hbank (by decide))
  · cases write <;> rfl

/-- The line access of a master. -/
def lineAcc (m : Fin 12) (bank : Fin 18) (line : BitVec 14) (write : Bool) (data : BitVec 512) : MemAcc :=
  { master := m, bank := bank, off := 64 * line.toNat, write := write, data := data.toNat, ecc := [] }

/-- A master's access is presented. -/
theorem firmwareMemoryAccess_presented {m : Fin 12} (bank : Fin 18) (line : BitVec 14) (write : Bool) (data : BitVec 512)
    (hmay : MayAccess s m) : Machine.firmwareMemoryAccess m bank line write data [] s = s.presentAcc (lineAcc m bank line write data) := by
  unfold Machine.firmwareMemoryAccess
  refine if_neg fun h => ?_
  obtain ⟨hfw, hstopped⟩ := Bool.and_eq_true_iff.1 h
  have hruns := hmay.2 (of_decide_eq_true hfw) (Nat.lt_succ_iff.1 m.isLt)
  rw [hruns] at hstopped
  exact absurd hstopped (by decide)

theorem firmwareAccess_answers : Claims.firmwareAccess := by
  intro m bank line write data s hrun hmay hok
  refine Answers.hub rfl hrun ?_
  rw [firmwareMemoryAccess_presented bank line write data hmay, presentAcc_admitted (a := lineAcc m bank line write data) hok]
  exact ⟨rfl, rfl, rfl, rfl⟩

theorem firmwareViolation_answers : Claims.firmwareViolation := by
  intro m bank line data s hrun hmay hbad
  refine Answers.hub rfl hrun ?_
  have hport : ¬ (lineAcc m bank line false data).master = 12 := Nat.ne_of_lt m.isLt
  obtain ⟨hvalid, hmaster, hbank, hwrite, hregion, hmem, hout, hhub⟩ := rgnViol_effect s (off := 64 * line.toNat) false
    (show m.val < 16 by omega) (show bank.val < 32 by omega)
  rw [firmwareMemoryAccess_presented bank line false data hmay, presentAcc_refused (a := lineAcc m bank line false data) hmay.1 hbad,
    if_neg (show ¬ (lineAcc m bank line false data).write = true from Bool.false_ne_true), if_neg hport]
  exact ⟨hvalid, hmaster, hbank, hwrite, hregion, congrArg (· ++ [_]) hout, hmem, congrArg Hub.accs hhub⟩

theorem firmwareWriteViolation_answers : Claims.firmwareWriteViolation := by
  intro m bank line data s hrun hmay hbad
  refine Answers.hub rfl hrun ?_
  obtain ⟨hvalid, -, -, hwrite, -, hmem, hout, hhub⟩ := rgnViol_effect s (off := 64 * line.toNat) true
    (show m.val < 16 by omega) (show bank.val < 32 by omega)
  rw [firmwareMemoryAccess_presented bank line true data hmay, presentAcc_refused (a := lineAcc m bank line true data) hmay.1 hbad,
    if_pos (show (lineAcc m bank line true data).write = true from rfl)]
  exact ⟨hvalid, hwrite, hmem, congrArg Hub.accs hhub, hout⟩

/-! ### The bring-up port (R432) -/

/-- The read of the bring-up port that a write of MEM_BU_ADDR asks for. -/
def State.buAsked (s : State) (v : BitVec 32) : State :=
  let s := (s.wr MEM_BU_ADDR_bank 0 (bits v.toNat 0 5)).wr MEM_BU_ADDR_line 0 (bits v.toNat 6 14)
  let s := (s.wr MEM_BU_ADDR_done 0 0).dropAccs 12
  s.setHub { s.hub with buWait := true, buData := none }

def buAcc (v : BitVec 32) : MemAcc :=
  { master := 12, bank := bits v.toNat 0 5, off := 64 * bits v.toNat 6 14, write := false, ecc := [] }

theorem buAsked_addr (s : State) (v : BitVec 32) : (s.buAsked v).rd MEM_BU_ADDR_bank = bits v.toNat 0 5 ∧
    (s.buAsked v).rd MEM_BU_ADDR_line = bits v.toNat 6 14 ∧ (s.buAsked v).rd MEM_BU_ADDR_done = 0 := by
  refine ⟨?_, ?_, State.rd_wr_same ..⟩
  · exact (State.rd_wr_sep _ _ _ _ _ _ (by decide)).trans ((State.rd_wr_sep _ _ _ _ _ _ (by decide)).trans
      ((State.rd_wr_same ..).trans (Nat.mod_eq_of_lt (Nat.mod_lt _ (by decide)))))
  · exact (State.rd_wr_sep _ _ _ _ _ _ (by decide)).trans ((State.rd_wr_same ..).trans (Nat.mod_eq_of_lt (Nat.mod_lt _ (by decide))))

theorem memBuRead_presented {v : BitVec 32} (hunit : s.unitAnswers 3 = true) : Machine.memBuRead v [] s = (s.buAsked v).presentAcc (buAcc v) := by
  obtain ⟨hbank, hline, -⟩ := buAsked_addr s v
  unfold buAcc
  rw [← hbank, ← hline]
  exact if_neg (by simp [hunit])

theorem rgnOk_buAsked (s : State) (v : BitVec 32) (master bank off len : Nat) (write : Bool) :
    (s.buAsked v).rgnOk master bank off len write = s.rgnOk master bank off len write := by
  have hrd (f : Fld) (i : Nat) (hf : sepFld f MEM_BU_ADDR_bank = true) (hl : sepFld f MEM_BU_ADDR_line = true)
      (hd : sepFld f MEM_BU_ADDR_done = true) : (s.buAsked v).rd f i = s.rd f i :=
    (State.rd_wr_sep _ _ _ _ _ _ hd).trans ((State.rd_wr_sep _ _ _ _ _ _ hl).trans (State.rd_wr_sep _ _ _ _ _ _ hf))
  unfold State.rgnOk State.rgnCovers State.flag
  cases write <;> simp (disch := decide) only [hrd, if_true, if_false, Bool.false_eq_true]

theorem memBuRead_answers : Claims.memBuRead := by
  intro v s hrun hunit hok
  refine Answers.hub rfl hrun ?_
  obtain ⟨hbank, hline, hdone⟩ := buAsked_addr s v
  rw [memBuRead_presented hunit, presentAcc_admitted (a := buAcc v) ((rgnOk_buAsked ..).trans hok)]
  exact ⟨hbank, hline, hdone, rfl, rfl, rfl⟩

theorem memBuReadRefused_answers : Claims.memBuReadRefused := by
  intro v s hrun hunit hbad
  refine Answers.hub rfl hrun ?_
  obtain ⟨hvalid, hmaster, -, -, -, -, -, hhub⟩ := rgnViol_effect (s.buAsked v) (off := 64 * bits v.toNat 6 14) false
    (show 12 < 16 by decide) (show bits v.toNat 0 5 < 32 from Nat.mod_lt _ (by decide))
  rw [memBuRead_presented hunit, presentAcc_refused (a := buAcc v) (show 12 ≠ 7 by decide) ((rgnOk_buAsked ..).trans hbad),
    if_neg (show ¬ (buAcc v).write = true from Bool.false_ne_true), if_pos (show (buAcc v).master = 12 from rfl)]
  exact ⟨hvalid, hmaster, rfl, congrArg Hub.accs hhub⟩

theorem memBuReadDone_answers : Claims.memBuReadDone := by
  intro bs s hrun hdata
  refine Answers.hub rfl hrun ?_
  unfold Machine.memBuReadDone
  split
  · next h =>
    obtain rfl := Option.some.inj (hdata.symm.trans h)
    extract_lets src taken shown
    have hshown (k : Nat) (hk : k < 16) : shown.rd MEM_BU_DATA k = fieldAt bs (4 * k) 4 % 2 ^ 32 :=
      foldTo_at (fun s k => s.wr MEM_BU_DATA k (fieldAt bs (4 * k) 4)) (fun _ => True)
        (fun u => u.rd MEM_BU_DATA k = fieldAt bs (4 * k) 4 % 2 ^ 32) hk trivial (fun _ _ _ _ _ => trivial)
        (fun u _ => State.rd_wr_same ..) fun u j hj hne h =>
          (State.rd_wr_idx u MEM_BU_DATA _ (by decide) hj hk (Ne.symm hne)).trans h
    have hhub : shown.hub = taken.hub ∧ shown.mem = taken.mem := by
      have hkept := foldTo_kept (fun u => (u.hub, u.mem)) (fun s k => s.wr MEM_BU_DATA k (fieldAt bs (4 * k) 4)) (fun _ _ => rfl) 16 taken
      exact Prod.mk.inj hkept
    clear_value shown
    refine ⟨State.rd_wr_same .., congrArg Hub.buWait hhub.1, congrArg Hub.buData hhub.1, hhub.2, fun k hk => ?_⟩
    exact (State.rd_wr_sep _ _ _ _ _ _ (by decide)).trans (hshown k hk)
  · next h => exact absurd (hdata.symm.trans h) (by simp)

/-! ### The background test (R428 to R430) -/

/-- The region at the front of the test's queue is taken up. -/
def State.btTaken (s : State) (bank region : Nat) : State :=
  let s := s.setHub { s.hub with btT := s.ts + 1 }
  let s := s.wr MEM_STAT_bt_bank 0 bank
  let s := if bank = 8 then s.lcxStall 2 else s
  s.setHub { s.hub with btQueue := s.hub.btQueue.erase (bank, region) }

theorem btTaken_effect {bank region : Nat} {q : List (Nat × Nat)} (hqueue : s.hub.btQueue = (bank, region) :: q) :
    (s.btTaken bank region).hub = { s.hub with btT := s.ts + 1, btQueue := q } ∧ (s.btTaken bank region).mem = s.mem ∧
      (s.btTaken bank region).recd = s.recd ∧ (s.btTaken bank region).ts = s.ts ∧
      (s.btTaken bank region).rd MEM_STAT_bt_bank = bank % 2 ^ MEM_STAT_bt_bank.width ∧
      ∀ f i, sepFld f MEM_STAT_bt_bank = true → (s.btTaken bank region).rd f i = s.rd f i := by
  have herase : s.hub.btQueue.erase (bank, region) = q := by
    rw [hqueue, List.erase_cons_head]
  unfold State.btTaken
  extract_lets src u v w
  have hw : w.hub = u.hub ∧ w.mem = s.mem ∧ w.recd = s.recd ∧ w.ts = s.ts ∧ ∀ f i, w.rd f i = v.rd f i := by
    dsimp only [w]
    split <;> exact ⟨rfl, rfl, rfl, rfl, fun _ _ => rfl⟩
  obtain ⟨hhub, hmem, hrecd, hts, hrd⟩ := hw
  refine ⟨?_, hmem, hrecd, hts, (hrd ..).trans (State.rd_wr_same ..), fun f i hf => (hrd ..).trans (State.rd_wr_sep _ _ _ _ _ _ hf)⟩
  show { w.hub with btQueue := w.hub.btQueue.erase (bank, region) } = _
  rw [hhub]
  show { u.hub with btQueue := s.hub.btQueue.erase (bank, region) } = _
  rw [herase]
  rfl

/-- At its period the test takes the region at the front of its queue. -/
theorem backgroundTest_due {bank region : Nat} {q : List (Nat × Nat)} (fails : Bool) (hrun : s.running = true) (hen : s.rd MEM_BT_en = 1)
    (hgrid : s.ts % (usT * s.rd MEM_BT_period) = 0) (hdue : s.hub.btT ≤ s.ts) (hqueue : s.hub.btQueue = (bank, region) :: q)
    (hskip : s.btSkip bank = false) : Machine.backgroundTest fails [] s =
      if fails then (s.btTaken bank region).retire bank region else s.btTaken bank region := by
  have hserves : ((fun e : Nat × Nat => !(s.setHub { s.hub with btT := s.ts + 1 }).btSkip e.1) (bank, region)) = true := congrArg (!·) hskip
  have hpick : (s.setHub { s.hub with btT := s.ts + 1 }).btPick = some ((bank, region), true) := by
    unfold State.btPick
    rw [show (s.setHub { s.hub with btT := s.ts + 1 }).hub.btQueue = (bank, region) :: q from hqueue,
      List.filter_cons_of_pos (a := (bank, region)) hserves, List.head?_cons]
  unfold Machine.backgroundTest
  dsimp only
  rw [if_neg (by simp [hrun, flag_of_rd_one hen, hgrid, hdue]), hpick]
  exact rfl

theorem backgroundTest_answers : Claims.backgroundTest := by
  intro bank region q s hrun hen hgrid hdue hqueue hskip
  refine Answers.hub rfl hrun ?_
  obtain ⟨hhub, hmem, hrecd, -, hbank, -⟩ := btTaken_effect hqueue
  rw [backgroundTest_due false hrun hen hgrid hdue hqueue hskip, if_neg (by decide), hhub]
  exact ⟨rfl, hmem, hrecd, hbank⟩

/-- The spares of a bank in use do not change as a region is taken up. -/
theorem spare_btTaken {bank region : Nat} {q : List (Nat × Nat)} (hqueue : s.hub.btQueue = (bank, region) :: q) :
    (List.range 8).find? (fun k => !(s.btTaken bank region).flag MEM_RMAP_valid (8 * bank + k)) =
      (List.range 8).find? (fun k => !s.flag MEM_RMAP_valid (8 * bank + k)) := by
  obtain ⟨-, -, -, -, -, hrd⟩ := btTaken_effect hqueue
  refine congrArg (fun p => List.find? p (List.range 8)) (funext fun k => ?_)
  unfold State.flag
  rw [hrd _ _ (by decide)]

theorem backgroundTestRetires_answers : Claims.backgroundTestRetires := by
  intro bank region k q s hrun hen hbank hregion hgrid hdue hqueue hskip hspare
  refine Answers.hub rfl hrun ?_
  obtain ⟨hhub, -, -, -, -, hrd⟩ := btTaken_effect hqueue
  have hretired := hrd MEM_STAT_retired 0 (by decide)
  have hfind := (spare_btTaken hqueue).trans hspare
  rw [backgroundTest_due true hrun hen hgrid hdue hqueue hskip, if_pos rfl]
  generalize s.btTaken bank region = u at *
  unfold State.retire
  split
  · next h =>
    obtain rfl := Option.some.inj (hfind.symm.trans h)
    extract_lets v w
    have hv : v.rd MEM_STAT_retired = s.rd MEM_STAT_retired :=
      (State.rd_wr_sep _ _ _ _ _ _ (by decide)).trans ((State.rd_wr_sep _ _ _ _ _ _ (by decide)).trans hretired)
    have hw : w.hub.btQueue = q := congrArg Hub.btQueue hhub
    simp only [State.emit_same]
    rw [State.rd_emit _ _ _ _ _ _ (by decide), State.rd_emit _ _ _ _ _ _ (by decide), State.rd_emit _ _ _ _ _ _ (by decide)]
    refine ⟨?_, ?_, ?_, hw⟩
    · exact (State.rd_wr_sep _ _ _ _ _ _ (by decide)).trans (State.rd_wr_same ..)
    · refine (State.rd_wr_sep _ _ _ _ _ _ (by decide)).trans ((State.rd_wr_sep _ _ _ _ _ _ (by decide)).trans ((State.rd_wr_same ..).trans ?_))
      exact Nat.mod_eq_of_lt hregion
    · refine (State.rd_wr_same ..).trans ?_
      rw [hv]
      exact Nat.mod_eq_of_lt (Nat.lt_of_le_of_lt (Nat.min_le_left ..) (by decide))
  · next h => exact absurd (hfind.symm.trans h) (by simp)

theorem backgroundTestNoSpare_answers : Claims.backgroundTestNoSpare := by
  intro bank region q s hrun hen hgrid hdue hqueue hskip hspare
  refine Answers.hub rfl hrun ?_
  obtain ⟨-, -, hrecd, hts, -, -⟩ := btTaken_effect hqueue
  have hfind := (spare_btTaken hqueue).trans hspare
  rw [backgroundTest_due true hrun hen hgrid hdue hqueue hskip, if_pos rfl]
  generalize s.btTaken bank region = u at *
  unfold State.retire
  split
  · next h => exact absurd (hfind.symm.trans h) (by simp)
  · extract_lets src v
    have hbad : mget v.hub.bad (bank * 4096 + region) false = true := mget_mput_same ..
    rw [State.rd_emit _ _ _ _ _ _ (by decide)]
    refine ⟨State.rd_wr_same .., ?_, Recorded.before (State.emit_recorded (v.wr MEM_STAT_nospare 0 1) 3 4 []) hrecd hts⟩
    simp only [State.emit_same]
    exact hbad

end

/-- Settles O17. -/
theorem memoryAccess : Obligations.MemoryAccess :=
  ⟨firmwareAccess_answers, firmwareViolation_answers, firmwareWriteViolation_answers, memBuRead_answers, memBuReadDone_answers,
    memBuReadRefused_answers, backgroundTest_answers, backgroundTestRetires_answers, backgroundTestNoSpare_answers⟩

end Sys2Proof.Machine
end

section
/-!
PROOF. What the block has put out stays out: the functions that a hub cycle's end calls only add to it.
-/
namespace Sys2Proof.Machine
open Sys2Proof.Claims

set_option Elab.async false

/-- What stood in the output of s stands first in that of t. -/
structure Grows (s t : State) : Prop where
  out : s.out <+: t.out

section
variable {s0 s t u : State} {m : Nat}

theorem Grows.refl (s : State) : Grows s s := ⟨List.prefix_refl _⟩

theorem Grows.trans (h : Grows s t) (hu : Grows t u) : Grows s u := ⟨List.IsPrefix.trans h.out hu.out⟩

theorem Grows.of_out (h : Grows s0 s) (hout : t.out = s.out) : Grows s0 t := ⟨List.IsPrefix.trans h.out (by rw [hout])⟩

/-- A function without the output in its footprint leaves it. -/
theorem Grows.framed (h : Grows s0 s) (hframe : Frame m s t) (hout : m.testBit 7 = false) : Grows s0 t := h.of_out (hframe.out hout)

theorem Grows.ite {p : Prop} [Decidable p] (h : Grows s0 s) (hu : Grows s0 t) : Grows s0 (if p then s else t) := by
  split
  · exact h
  · exact hu

theorem Grows.foldl {α : Type} {f : State → α → State} {l : List α} (hf : ∀ u x, Grows u (f u x)) (h : Grows s0 s) :
    Grows s0 (l.foldl f s) := by
  induction l generalizing s with
  | nil => exact h
  | cons x l ih => exact ih (h.trans (hf s x))

theorem Grows.foldTo {f : State → Nat → State} {n : Nat} (hf : ∀ u k, Grows u (f u k)) (h : Grows s0 s) :
    Grows s0 (Sys2Proof.foldTo n s f) := Grows.foldl hf h

theorem Grows.emit (h : Grows s0 s) (unit idx : Nat) (ps : List Nat) : Grows s0 (s.emit unit idx ps) :=
  h.of_out (by simp)

theorem Grows.emitLim (h : Grows s0 s) (unit idx scope span : Nat) (ps : List Nat) : Grows s0 (s.emitLim unit idx scope span ps) :=
  h.of_out (by simp)

theorem Grows.wr (h : Grows s0 s) (f : Fld) (i v : Nat) : Grows s0 (s.wr f i v) := h.of_out rfl

theorem Grows.bump (h : Grows s0 s) (f : Fld) : Grows s0 (s.bump f) := h.of_out rfl

theorem Grows.setMgt (h : Grows s0 s) (g : Mgt) : Grows s0 (s.setMgt g) := h.of_out rfl

theorem Grows.setPar (h : Grows s0 s) (g : Par) : Grows s0 (s.setPar g) := h.of_out rfl

theorem Grows.send (h : Grows s0 s) (o : Out) : Grows s0 (s.send o) := h.trans ⟨prefix_send s o⟩

/-! ### The bridge (R368, R370, R374) -/

theorem bridgeSend_grows (s : State) (kind : Nat) (body : List Byte) : Grows s (s.bridgeSend kind body) := by
  unfold State.bridgeSend
  exact (Grows.ite ((Grows.refl s).send _) (Grows.refl s)).setPar _

theorem mirror_grows (s : State) (obj idx : Nat) (data : List Byte) : Grows s (s.mirror obj idx data) := by
  unfold State.mirror
  exact Grows.ite ((bridgeSend_grows s 0x04 (mirrorRec obj idx data)).setPar _) (Grows.refl s)

theorem sendCkpt_grows (s : State) : Grows s s.sendCkpt := by
  unfold State.sendCkpt
  exact (Grows.foldl (fun u p => bridgeSend_grows u ..) (Grows.refl s)).setPar _

theorem handover_grows (s : State) (cause : Nat) : Grows s (s.handover cause) := by
  unfold State.handover
  have hsent : Grows s ((s.bridgeSend 0x14 (leBytes 1 cause)).sendCkpt) := (bridgeSend_grows s 0x14 _).trans (sendCkpt_grows _)
  exact Grows.ite (Grows.refl s) ((hsent.wr PAR_STAT_role 0 2).framed (State.dropRole_frame (Sub.refl _) (Frame.refl _ _)) rfl)

theorem shutdown_grows (s : State) (n l source : Nat) : Grows s (s.shutdown n l source) := by
  unfold State.shutdown
  refine Grows.ite (Grows.refl s) ?_
  extract_lets shut told pins thm stopped
  have hstopped : Grows s stopped :=
    (((((Grows.refl s).wr THM_STAT_shut 0 1).wr THM_STAT_state 0 4).wr RST_CAUSE_shutdown 0 1).emit 11 3 [n, p7 l, source]).of_out rfl
  exact ((hstopped.wr THM_STEP_STAT_pend 0 0).framed (State.haltPowerUp_frame (Sub.refl _) (Frame.refl _ _)) rfl).trans (handover_grows _ 2)

/-! ### Salgor's messages (R345 to R361) -/

theorem setMem_grows (s : State) (i : Nat) (x : MgtMem) : Grows s (s.setMem i x) := by
  unfold State.setMem
  exact ((Grows.refl s).setMgt _).trans (mirror_grows ..)

theorem laneOut_grows (s : State) (link : Nat) (msg : List Byte) : Grows s (s.laneOut link msg) := by
  unfold State.laneOut
  exact Grows.ite ((mirror_grows s 0x07 0 s.mgtBytes).setPar _) ((Grows.refl s).send _)

theorem mgtSendAs_grows (s : State) (dom me type dst ep : Nat) (body : List Byte) : Grows s (s.mgtSendAs dom me type dst ep body) := by
  unfold State.mgtSendAs
  extract_lets msg src counted
  have hcounted : Grows s counted := (Grows.refl s).setMgt _
  refine Grows.ite (hcounted.setMgt _) (Grows.ite (Grows.foldl (fun u k => laneOut_grows u k msg) hcounted) ?_)
  split
  · exact hcounted.trans (laneOut_grows ..)
  · exact hcounted.bump _

theorem mgtSend_grows (s : State) (type dst ep : Nat) (body : List Byte) : Grows s (s.mgtSend type dst ep body) := mgtSendAs_grows ..

theorem mgtSendC_grows (s : State) (type ep : Nat) (body : List Byte) : Grows s (s.mgtSendC type ep body) :=
  (mgtSend_grows ..).trans (mgtSend_grows ..)

theorem csyncMember_grows (s : State) (i : Nat) : Grows s (s.csyncMember i) := mgtSend_grows ..

theorem sendLeave_grows (s : State) (dst reason : Nat) : Grows s (s.sendLeave dst reason) := mgtSend_grows ..

theorem sendVersion_grows (s : State) : Grows s s.sendVersion := by
  unfold State.sendVersion
  exact ((Grows.refl s).setMgt _).trans (mgtSendC_grows ..)

theorem enterJoining_grows (s : State) : Grows s s.enterJoining := by
  unfold State.enterJoining
  have hstate := (Grows.refl s).wr MGT_STAT_state 0 2
  exact Grows.ite (hstate.trans (sendVersion_grows _)) hstate

theorem selfLeave_grows (s : State) (src : Nat) : Grows s (s.selfLeave src) := by
  unfold State.selfLeave
  exact Grows.ite (enterJoining_grows s) (Grows.refl s)

theorem joinRefuse_grows (s : State) (i reason : Nat) : Grows s (s.joinRefuse i reason) := (mgtSend_grows ..).emit 21 1 _

theorem joinAccept_grows (s : State) (msg : List Byte) : Grows s (s.joinAccept msg) := by
  unfold State.joinAccept
  exact (((setMem_grows ..).trans (mgtSend_grows ..)).trans (csyncMember_grows ..)).emit 21 1 _

theorem joinRequest_grows (s : State) (msg : List Byte) : Grows s (s.joinRequest msg) := by
  unfold State.joinRequest
  exact Grows.ite (joinRefuse_grows ..) (Grows.ite (joinRefuse_grows ..) (Grows.ite (joinRefuse_grows ..)
    (Grows.ite (joinAccept_grows ..) ((Grows.refl s).setMgt _))))

theorem takeTerm_grows (s : State) (msg : List Byte) : Grows s (s.takeTerm msg) :=
  (Grows.refl s).framed (State.takeTerm_frame (Sub.refl _) (Frame.refl _ s) msg) rfl

theorem onVersion_grows (s : State) (msg : List Byte) : Grows s (s.onVersion msg) := by
  have hterm := takeTerm_grows s msg
  unfold State.onVersion
  split
  · exact Grows.ite (joinRequest_grows ..) (Grows.refl s)
  · have hbound (g : Mgt) := ((hterm.setMgt g).wr MGT_STAT_state 0 3).wr MGT_STAT_bound 0 1
    exact Grows.ite ((Grows.ite ((hbound _).emit 21 2 _) (hbound _)).emit 21 1 _) hterm
  · exact hterm.emit 21 1 _

theorem onDemand_grows (s : State) (msg : List Byte) : Grows s (s.onDemand msg) := by
  unfold State.onDemand
  have hrefused := (Grows.refl s).bump MGT_VIOL_noroute
  have hheard := setMem_grows s (mSrc msg) { s.mgtMem (mSrc msg) with heard := s.mgtEpoch, silent := false }
  exact Grows.ite (Grows.refl s) (Grows.ite (((Grows.refl s).bump MGT_VIOL_late).emitLim 21 11 5 _ _)
    (Grows.ite (Grows.ite (hrefused.trans (sendLeave_grows ..)) hrefused)
      (Grows.ite (hheard.bump _) ((Grows.ite (hheard.bump _) hheard).setMgt _))))

theorem onLeave_grows (s : State) (msg : List Byte) : Grows s (s.onLeave msg) := by
  unfold State.onLeave
  have htold (ps : List Nat) : Grows s (s.emit 21 1 ps) := (Grows.refl s).emit 21 1 ps
  have hleft (ps : List Nat) (i : Nat) (g : Mgt) : Grows s (((s.emit 21 1 ps).setMem i { }).setMgt g) :=
    ((htold ps).trans (setMem_grows ..)).setMgt g
  exact Grows.ite
    (Grows.ite (Grows.ite (Grows.refl s) (selfLeave_grows ..))
      (Grows.ite (Grows.ite ((hleft ..).trans (csyncMember_grows ..)) (hleft ..)) ((htold _).trans (selfLeave_grows ..))))
    (Grows.ite ((htold _).trans (enterJoining_grows _)) (Grows.refl s))

theorem showReady_grows (h : Grows s0 s) : Grows s0 s.showReady :=
  h.framed (State.showReady_frame (Sub.refl _) (Frame.refl _ s)) rfl

theorem onCsync_grows (s : State) (msg : List Byte) : Grows s (s.onCsync msg) := by
  unfold State.onCsync
  refine Grows.ite (Grows.refl s) (Grows.ite (showReady_grows ?_) (showReady_grows ?_))
  · exact ((Grows.refl s).setMgt _).trans (mgtSend_grows ..)
  · refine Grows.ite (Grows.setMgt ?_ _) ?_
    all_goals exact Grows.foldTo (fun u k => Grows.ite ((Grows.refl u).setMgt _) (setMem_grows ..)) (Grows.refl s)

theorem mgtHandle_grows (s : State) (msg : List Byte) : Grows s (s.mgtHandle msg) := by
  unfold State.mgtHandle
  split
  · exact onVersion_grows s msg
  · exact onDemand_grows s msg
  · exact (Grows.refl s).framed (State.onGrant_frame (Sub.refl _) (Frame.refl _ s) msg) rfl
  · exact (Grows.refl s).framed (State.onHeartbeat_frame (Sub.refl _) (Frame.refl _ s) msg) rfl
  · exact onLeave_grows s msg
  · exact onCsync_grows s msg
  · exact (Grows.refl s).framed (State.onCsyncAck_frame (Sub.refl _) (Frame.refl _ s) msg) rfl
  · exact Grows.refl s

theorem mgtDrain_grows (n : Nat) (s : State) : Grows s (State.mgtDrain n s) := by
  induction n generalizing s with
  | zero => exact Grows.refl s
  | succ n ih =>
    unfold State.mgtDrain
    split
    · exact Grows.refl s
    · exact (((Grows.refl s).setMgt _).trans (mgtHandle_grows ..)).trans (ih _)

theorem markSilent_grows (s : State) : Grows s s.markSilent := by
  unfold State.markSilent
  exact Grows.foldl (fun u e => Grows.ite ((setMem_grows ..).emit 21 7 _) (Grows.refl u)) (Grows.refl s)

theorem mgtAllocate_grows (s : State) : Grows s s.mgtAllocate := by
  unfold State.mgtAllocate
  refine Grows.ite (Grows.refl s) (Grows.trans ?_ (mgtDrain_grows 32 _))
  refine Grows.trans (Grows.foldl (fun u msg => joinRequest_grows u msg) (Grows.setMgt ?_ _)) (markSilent_grows _)
  have hcut := (Grows.refl s).setMgt { s.mgt with cut := false, alloc := s.mgtEpoch + 2 }
  refine Grows.ite hcut (Grows.ite (Grows.emitLim (Grows.setMgt ?_ _) ..) (Grows.setMgt ?_ _))
  all_goals exact Grows.foldl (fun u x => setMem_grows u ..) hcut

end

end Sys2Proof.Machine
end

section
/-!
PROOF. A hub cycle with no command waiting: the banks' cycles, recalls, Grant items, the firebreak and Salgor's allocation (R423 to R426,
R236, R258, R264, R85 to R87, R353).
-/
namespace Sys2Proof.Machine
open Sys2Proof.Claims

set_option Elab.async false

section
variable {s t u : State} {a b : MemAcc}

/-! ### The parts of a hub cycle -/

theorem step_hubCycle (hrun : s.running = true) (hnone : s.pending = []) : step s = .next s.hubCycle := by
  unfold step
  split
  · rw [idle_of_running hrun]
  · next h => exact absurd (hnone.symm.trans h) (by simp)

/-- What a hub cycle's end judges before the banks' cycles. -/
def State.cycleJudged (s : State) : State := s.tlyEnd.fbJudge.thmTrip.mgtAllocate.notePhases

theorem cycleEnd_eq (s : State) : s.cycleEnd = s.cycleJudged.bankCycles := rfl

def judgedFoot : Nat := State.tlyEnd_foot ||| State.fbJudge_foot ||| State.thmTrip_foot ||| State.mgtAllocate_foot ||| State.notePhases_foot

theorem judged_frame (s : State) : Frame judgedFoot s s.cycleJudged :=
  State.notePhases_frame (m := judgedFoot) (show _ &&& _ = _ by decide)
    (State.mgtAllocate_frame (m := judgedFoot) (show _ &&& _ = _ by decide)
      (State.thmTrip_frame (m := judgedFoot) (show _ &&& _ = _ by decide)
        (State.fbJudge_frame (m := judgedFoot) (show _ &&& _ = _ by decide)
          (State.tlyEnd_frame (m := judgedFoot) (show _ &&& _ = _ by decide) (Frame.refl _ s)))))

/-- From the banks' cycles on only the timestamp, the pulses and the feed-forward current change. -/
theorem hubCycle_from_end (s : State) : Frame (State.cycleStart_foot ||| 4) s.cycleEnd s.hubCycle := by
  unfold State.hubCycle
  exact State.cycleStart_frame (show _ &&& _ = _ by decide) (Frame.set_ts (by decide) (Frame.refl _ _))

theorem Grows.setHub (h : Grows s t) (g : Hub) : Grows s (t.setHub g) := h.of_out rfl

theorem Grows.setThm (h : Grows s t) (g : Thm) : Grows s (t.setThm g) := h.of_out rfl

theorem Grows.lcxStall (h : Grows s t) (n : Nat) : Grows s (t.lcxStall n) := h.of_out rfl

theorem driveGrant_grows (s : State) (e : Nat × Nat) : Grows s (s.driveGrant e) := by
  unfold State.driveGrant
  exact Grows.ite (Grows.refl s) ((Grows.refl s).send _)

theorem countRecall_out (s : State) (e : Nat × Nat × Nat) : (s.countRecall e).out = s.out :=
  (State.countRecall_frame (Sub.refl _) (Frame.refl _ s) e).out rfl

theorem tlyEnd_grows (s : State) : Grows s s.tlyEnd :=
  Grows.foldl (fun u e => (Grows.refl u).of_out (countRecall_out u e))
    (Grows.foldl driveGrant_grows ((Grows.refl s).of_out rfl))

theorem thmTrip_grows (s : State) : Grows s s.thmTrip := by
  unfold State.thmTrip
  split
  · exact ((Grows.refl s).setThm _).trans (shutdown_grows ..)
  · exact Grows.refl s

/-- The judging after the tallies' end only adds to the output. -/
theorem judged_from_tallies (s : State) : Grows s.tlyEnd s.cycleJudged :=
  (((((Grows.refl s.tlyEnd).framed (State.fbJudge_frame (Sub.refl _) (Frame.refl _ _)) rfl).trans (thmTrip_grows _)).trans
    (mgtAllocate_grows _))).framed (State.notePhases_frame (Sub.refl _) (Frame.refl _ _)) rfl

theorem serveAcc_grows (s : State) (a : MemAcc) : Grows s (s.serveAcc a) := by
  unfold State.serveAcc
  have hread (bank off : Nat) (ecc : List (Nat × Bool)) : Grows s (s.eccRead bank off ecc) :=
    (Grows.refl s).framed (State.eccRead_frame (Sub.refl _) (Frame.refl _ s) bank off ecc) rfl
  exact Grows.ite ((Grows.refl s).framed (State.bankPut_frame (Sub.refl _) (Frame.refl _ s) _ _ _) rfl)
    (Grows.ite ((hread ..).setHub _) ((hread ..).send _))

theorem bankCycle_grows (s : State) (bank : Nat) : Grows s (s.bankCycle bank) := by
  unfold State.bankCycle
  have hgate := (Grows.refl s).framed (State.gateAdmit_frame (Sub.refl _) (Frame.refl _ s) bank) rfl
  exact Grows.ite (Grows.refl s) (Grows.foldl serveAcc_grows ((Grows.ite (hgate.lcxStall 1) hgate).setHub _))

theorem bankCycles_grows (s : State) : Grows s s.bankCycles := by
  unfold State.bankCycles
  have hall := (Grows.foldTo bankCycle_grows (Grows.refl s) (n := 14)).trans (bankCycle_grows _ 8)
  exact Grows.ite (Grows.refl s) (Grows.ite (Grows.foldTo (fun u k => bankCycle_grows u (14 + k)) hall) hall)

/-- An output of the tallies' end stands in the output as the hub cycle has passed. -/
theorem hubCycle_from_tallies (s : State) : Grows s.tlyEnd s.hubCycle :=
  ((judged_from_tallies s).trans (bankCycles_grows _)).framed (m := State.cycleStart_foot ||| 4) (hubCycle_from_end s) (by decide)

/-! ### One cycle of a bank (R423 to R425) -/

/-- A bank for which nothing waits makes no difference. -/
theorem bankCycle_idle {bank : Nat} (h : ∀ a ∈ u.hub.accs, a.bank ≠ bank) : u.bankCycle bank = u := by
  have hhead (l : List MemAcc) (hl : ∀ a ∈ l, a.bank ≠ bank) : ∀ a ∈ headAccs l, a.bank ≠ bank := by
    unfold headAccs
    suffices hfold : ∀ (l h : List MemAcc), (∀ a ∈ l, a.bank ≠ bank) → (∀ a ∈ h, a.bank ≠ bank) →
        ∀ a ∈ l.foldl (fun h a => if h.any fun b => decide (b.master = a.master) then h else h ++ [a]) h, a.bank ≠ bank from
      hfold l [] hl (by simp)
    intro l
    induction l with
    | nil => exact fun h _ hh => hh
    | cons x l ih =>
      refine fun h hl hh => ih _ (fun a ha => hl a (List.mem_cons_of_mem _ ha)) fun a ha => ?_
      dsimp only at ha
      split at ha
      · exact hh a ha
      · rcases List.mem_append.1 ha with ha | ha
        · exact hh a ha
        · exact List.mem_singleton.1 ha ▸ hl x List.mem_cons_self
  have hgate : u.gateAdmit bank = u := by
    unfold State.gateAdmit
    split
    · next x hx =>
      have hbank := List.find?_some hx
      simp only [Bool.and_eq_true, decide_eq_true_eq] at hbank
      exact absurd hbank.1 (hhead _ h x (List.mem_of_find?_eq_some hx))
    · rfl
  have hnone : ((headAccs u.hub.accs).filter fun a => decide (a.bank = bank) && !a.gated) = [] :=
    List.filter_eq_nil_iff.2 fun a ha => by simp [hhead _ h a ha]
  unfold State.bankCycle
  split
  · rfl
  · rw [hgate]
    dsimp only
    rw [hnone]
    simp [servedAccs, firstAcc, State.setHub]

/-- The state in which a bank serves its accesses: the others wait, and the loop engine has lost n cycles of LCX. -/
def State.serving (s : State) (rest : List MemAcc) (n : Nat) : State := (s.lcxStall n).setHub { s.hub with accs := rest }

/-- A bank that is not busy, with every access admitted, serves those that arbitration gives. -/
theorem bankCycle_served {bank : Nat} {cand : List MemAcc} (hbusy : u.bankBusy bank = false) (hopen : ∀ a ∈ headAccs u.hub.accs, a.gated = false)
    (hcand : ((headAccs u.hub.accs).filter fun a => decide (a.bank = bank) && !a.gated) = cand) :
    ∃ n, u.bankCycle bank = (servedAccs cand).foldl State.serveAcc (u.serving
      ((u.hub.accs.filter fun a => !decide (a ∈ servedAccs cand)).map fun a => if a ∈ cand then { a with held := true } else a) n) := by
  have hgate : u.gateAdmit bank = u := by
    unfold State.gateAdmit
    split
    · next x hx =>
      have hbank := List.find?_some hx
      rw [hopen x (List.mem_of_find?_eq_some hx)] at hbank
      exact absurd hbank (by simp)
    · rfl
  unfold State.bankCycle
  rw [if_neg (by rw [hbusy]; exact Bool.false_ne_true), hgate]
  dsimp only
  rw [hcand]
  by_cases h : (decide (bank = 8) && (servedAccs cand).any fun a => decide (a.master ≠ 1)) = true
  · exact ⟨1, by rw [if_pos h]; rfl⟩
  · exact ⟨0, by rw [if_neg h]; rfl⟩

/-- Where all accesses are of one bank only its cycle counts; two of LCX where the first leaves nothing. -/
theorem bankCycles_single {bank : Nat} (hsome : u.hub.accs ≠ []) (hbanks : ∀ a ∈ u.hub.accs, a.bank = bank) (hbank : bank < 18)
    (hodd : 14 ≤ bank → u.ts % 2 = 1) (hkeep : ∀ a ∈ (u.bankCycle bank).hub.accs, a.bank = bank ∧ bank ≠ 8) :
    u.bankCycles = u.bankCycle bank := by
  have hother {k : Nat} (hk : k ≠ bank) : u.bankCycle k = u := bankCycle_idle fun a ha => by rw [hbanks a ha]; exact hk.symm
  have hafter {k : Nat} (hk : k ≠ bank ∨ k = 8) : (u.bankCycle bank).bankCycle k = u.bankCycle bank :=
    bankCycle_idle fun a ha => by have := hkeep a ha; omega
  have hts : (u.bankCycle bank).ts = u.ts := (State.bankCycle_frame (Sub.refl _) (Frame.refl _ u) bank).ts rfl
  have hid (n : Nat) (v : State) (f : State → Nat → State) (hf : ∀ k < n, f v k = v) : foldTo n v f = v := by
    induction n with
    | zero => rfl
    | succ n ih =>
      rw [foldTo, List.range_succ, List.foldl_append]
      show f (foldTo n v f) n = v
      rw [ih fun k hk => hf k (by omega)]
      exact hf n (Nat.lt_succ_self n)
  have hone {n k : Nat} (f : State → Nat → State) (hk : k < n) (hat : f u k = u.bankCycle bank) (hu : ∀ j < n, j ≠ k → f u j = u)
      (hv : ∀ j < n, j ≠ k → f (u.bankCycle bank) j = u.bankCycle bank) : foldTo n u f = u.bankCycle bank :=
    foldTo_at f (fun v => v = u) (fun v => v = u.bankCycle bank) hk rfl (fun v j hj hne h => by rw [h]; exact hu j hj hne)
      (fun v h => by rw [h]; exact hat) (fun v j hj hne h => by rw [h]; exact hv j hj hne)
  unfold State.bankCycles
  rw [if_neg (by simpa using hsome)]
  dsimp only
  by_cases hlow : bank < 14
  · rw [hone State.bankCycle hlow rfl (fun j _ hne => hother hne) (fun j _ hne => hafter (Or.inl hne)),
      hafter (k := 8) (by omega)]
    split
    · exact hid 4 _ _ fun k _ => hafter (by omega)
    · rfl
  · rw [hid 14 u State.bankCycle fun k hk => hother (by omega), hother (k := 8) (by omega), if_pos (hodd (by omega))]
    exact hone (k := bank - 14) (fun v k => v.bankCycle (14 + k)) (by omega) (by rw [show 14 + (bank - 14) = bank by omega])
      (fun j _ hne => hother (by omega)) (fun j _ hne => hafter (by omega))

/-- What arbitration holds stays while an access is served. -/
theorem accs_serveAcc (s : State) (a : MemAcc) : (s.serveAcc a).hub.accs = s.hub.accs := by
  have hlim (u : State) (unit idx scope span : Nat) (ps : List Nat) : (u.emitLim unit idx scope span ps).hub.accs = u.hub.accs := by simp
  have hecc (bank off : Nat) (ecc : List (Nat × Bool)) (u : State) : (u.eccRead bank off ecc).hub.accs = u.hub.accs := by
    unfold State.eccRead
    induction ecc generalizing u with
    | nil => rfl
    | cons e ecc ih =>
      refine (ih _).trans ?_
      dsimp only
      unfold State.eccWord
      dsimp only
      split
      · exact hlim _ ..
      · rfl
  have hput (bank off : Nat) (bs : List Byte) : (s.bankPut bank off bs).hub.accs = s.hub.accs := by
    unfold State.bankPut
    split
    · exact foldTo_kept (fun u => u.hub.accs) _ (fun u k => congrArg Hub.accs
        ((State.putThmWord_frame (Sub.refl _) (Frame.refl _ u) _ _ _).hub rfl)) _ s
    · unfold State.noteWrote
      split
      · rfl
      · rfl
  unfold State.serveAcc
  split
  · exact hput ..
  · dsimp only
    split
    · exact hecc ..
    · exact hecc ..

/-! ### The lines served (R423, R425, R426) -/

theorem serving_judged (s : State) (rest : List MemAcc) (n : Nat) : (s.cycleJudged.serving rest n).mem = s.mem ∧
    (s.cycleJudged.serving rest n).flash = s.flash ∧ (s.cycleJudged.serving rest n).ts = s.ts ∧
    (s.cycleJudged.serving rest n).fcs = s.fcs ∧ (s.cycleJudged.serving rest n).hub = { s.hub with accs := rest } := by
  have hframe := judged_frame s
  refine ⟨hframe.mem (by decide), hframe.flash (by decide), hframe.ts (by decide), hframe.fcs (by decide), ?_⟩
  show { s.cycleJudged.hub with accs := rest } = _
  rw [hframe.hub (by decide)]

/-- A line outside the thermal copies reads alike where the bytes, the marks of their banks and the models are the same. -/
theorem readLine_congr {bank off : Nat} (hplace : 8 ≤ bank ∨ 0x30000 ≤ off) (hmem : t.mem = s.mem) (hts : t.ts = s.ts) (hfcs : t.fcs = s.fcs)
    (hbad : t.hub.bad = s.hub.bad) (hwrote : t.hub.wrote = s.hub.wrote) : t.readLine bank off = s.readLine bank off := by
  unfold State.readLine
  refine List.map_congr_left fun k _ => ?_
  unfold State.anyByte State.bankByte State.freeAt
  rw [hmem, hts, hfcs, hbad, hwrote]
  have hcopies : ¬ (bank < 8 ∧ off + k < 0x30000 ∧ ¬ mget s.hub.bad (bank * 4096 + (off + k) / 256) false) := by omega
  rw [if_neg hcopies, if_neg hcopies]

theorem readLine_serving (hplace : 8 ≤ a.bank ∨ 0x30000 ≤ a.off) (rest : List MemAcc) (n : Nat) :
    (s.cycleJudged.serving rest n).readLine a.bank a.off = s.readLine a.bank a.off := by
  obtain ⟨hmem, -, hts, hfcs, hhub⟩ := serving_judged s rest n
  exact readLine_congr hplace hmem hts hfcs (by rw [hhub]) (by rw [hhub])

theorem eccBytes_nil (bs : List Byte) : eccBytes bs [] = bs := by
  simp [eccBytes, List.mapIdx_eq_zipIdx_map]

theorem bankBusy_judged (s : State) (bank : Nat) : s.cycleJudged.bankBusy bank = s.bankBusy bank := by
  unfold State.bankBusy State.clearing State.clocked
  rw [(judged_frame s).rd_of (f := MEM_STAT_clearing) (by decide +kernel) 0, (judged_frame s).rd_of (f := CLK_EN_en) (by decide +kernel) 0]

/-- A hub cycle's end where the accesses are all of one bank, none at the gate and no master's twice: the bank serves those that
arbitration gives, and where it leaves any the bank is not LCX. -/
theorem cycleEnd_served {l rest : List MemAcc} (hserved : Served s a) (hsome : l ≠ []) (hall : ∀ b ∈ l, b.bank = a.bank ∧ b.gated = false)
    (haccs : s.hub.accs = l) (hhead : headAccs l = l)
    (hrest : (l.filter fun b => !decide (b ∈ servedAccs l)).map (fun b => if b ∈ l then { b with held := true } else b) = rest)
    (hkeep : ∀ b ∈ rest, b.bank = a.bank ∧ a.bank ≠ 8) :
    ∃ n, s.cycleEnd = (servedAccs l).foldl State.serveAcc (s.cycleJudged.serving rest n) ∧ s.cycleEnd.hub.accs = rest := by
  obtain ⟨-, -, hbank, -, hodd, hbusy, -, -⟩ := hserved
  have haccs' : s.cycleJudged.hub.accs = l := (congrArg Hub.accs ((judged_frame s).hub (by decide))).trans haccs
  have hcand : (l.filter fun b => decide (b.bank = a.bank) && !b.gated) = l :=
    List.filter_eq_self.2 fun b hb => by simp [hall b hb]
  obtain ⟨n, hn⟩ := bankCycle_served (u := s.cycleJudged) (bank := a.bank) (cand := l) ((bankBusy_judged s _).trans hbusy)
    (fun b hb => (hall b (by rw [haccs', hhead] at hb; exact hb)).2) (by rw [haccs', hhead, hcand])
  rw [haccs', hrest] at hn
  have hkept : (s.cycleJudged.bankCycle a.bank).hub.accs = rest := by
    rw [hn]
    generalize servedAccs l = now
    have hfold (v : State) : (now.foldl State.serveAcc v).hub.accs = v.hub.accs := by
      induction now generalizing v with
      | nil => rfl
      | cons b now ih => exact (ih _).trans (accs_serveAcc v b)
    exact hfold _
  have hcycles : s.cycleEnd = s.cycleJudged.bankCycle a.bank :=
    bankCycles_single (u := s.cycleJudged) (by rw [haccs']; exact hsome) (fun b hb => (hall b (haccs' ▸ hb)).1) hbank
      (fun h => by rw [(judged_frame s).ts (by decide)]; exact hodd h) (fun b hb => hkeep b (hkept ▸ hb))
  exact ⟨n, hcycles.trans hn, by rw [hcycles]; exact hkept⟩

theorem servedAccs_single (a : MemAcc) : servedAccs [a] = [a] := by
  cases h : a.write <;> simp [servedAccs, firstAcc, h]

theorem cycleEnd_alone (hserved : Served s a) (honly : s.hub.accs = [a]) :
    ∃ n, s.cycleEnd = (s.cycleJudged.serving [] n).serveAcc a ∧ s.cycleEnd.hub.accs = [] := by
  obtain ⟨-, -, -, -, -, -, hgated, -⟩ := id hserved
  obtain ⟨n, hn, haccs⟩ := cycleEnd_served (l := [a]) (rest := []) hserved (by simp) (by simp [hgated]) honly rfl
    (by simp [servedAccs_single]) (by simp)
  exact ⟨n, by rw [hn, servedAccs_single]; rfl, haccs⟩

/-- A write stands in its line, and no other byte changes. -/
theorem serveAcc_write (hplace : 8 ≤ a.bank ∨ 0x30000 ≤ a.off) (hwrite : a.write = true) :
    (u.serveAcc a).mem = memWriteBytes u.mem bankDefault (bankAddr a.bank a.off) (leBytes 64 a.data) := by
  unfold State.serveAcc
  rw [if_pos hwrite]
  unfold State.bankPut
  rw [if_neg (by omega)]
  unfold State.noteWrote
  split
  · rfl
  · rfl

/-- A read returns the line, with the words of its double-bit errors zero. -/
theorem serveAcc_read (hread : a.write = false) (hport : a.master ≠ 12) :
    u.serveAcc a = (u.eccRead a.bank a.off a.ecc).send (.memData a.master (eccBytes (u.readLine a.bank a.off) a.ecc)) := by
  unfold State.serveAcc
  rw [if_neg (by rw [hread]; exact Bool.false_ne_true)]
  exact if_neg hport

theorem hubCycle_memories (s : State) : s.hubCycle.mem = s.cycleEnd.mem ∧ s.hubCycle.flash = s.cycleEnd.flash ∧
    s.hubCycle.hub = s.cycleEnd.hub ∧ s.hubCycle.out = s.cycleEnd.out :=
  have h := hubCycle_from_end s
  ⟨h.mem (by decide), h.flash (by decide), h.hub (by decide), h.out (by decide)⟩

theorem firmwareWrite_answers : Claims.firmwareWrite := by
  intro a s hserved honly hwrite hok
  obtain ⟨n, hend, haccs⟩ := cycleEnd_alone hserved honly
  obtain ⟨hrun, hnone, hbank, hoff, -, -, -, hplace⟩ := hserved
  obtain ⟨hmem, hflash, hhub, -⟩ := hubCycle_memories s
  obtain ⟨hwas, hfwas, -, -, -⟩ := serving_judged s [] n
  have hline : s.hubCycle.mem = memWriteBytes s.mem bankDefault (bankAddr a.bank a.off) (leBytes 64 a.data) := by
    rw [hmem, hend, serveAcc_write hplace hwrite, hwas]
  have hflash' : s.hubCycle.flash = s.flash := by
    rw [hflash, hend, (State.serveAcc_frame (Sub.refl _) (Frame.refl _ _) a).flash rfl, hfwas]
  refine ⟨_, step_hubCycle hrun hnone, ?_, fun x hx => ?_, hflash', (congrArg Hub.accs hhub).trans haccs⟩
  · rw [hline]
    refine List.ext_getElem (by simp [length_leBytes]) fun k _ hk => ?_
    rw [List.getElem_map, List.getElem_range]
    exact (congrArg _ (Nat.add_assoc ..).symm).trans (memRead_writeBytes_in (memoriesOk_iff.1 hok).1 hk)
  · rw [hline]
    exact memRead_writeBytes_ne _ _ _ (by rw [length_leBytes]; exact hx)

theorem firmwareRead_answers : Claims.firmwareRead := by
  intro a s hserved honly hread hport hecc
  obtain ⟨n, hend, haccs⟩ := cycleEnd_alone hserved honly
  obtain ⟨hrun, hnone, -, -, -, -, -, hplace⟩ := hserved
  obtain ⟨hmem, -, hhub, hout⟩ := hubCycle_memories s
  obtain ⟨hwas, -, -, -, -⟩ := serving_judged s [] n
  rw [serveAcc_read hread hport, hecc, eccBytes_nil, readLine_serving hplace] at hend
  refine ⟨_, step_hubCycle hrun hnone, ?_, by rw [hmem, hend]; exact hwas, (congrArg Hub.accs hhub).trans haccs⟩
  refine Sent.after (t := s.cycleEnd) ?_ (by rw [hout])
  rw [hend]
  exact Sent.before (send_sent _ _) (((tlyEnd_grows s).trans (judged_from_tallies s)).out)

/-- A word with a double-bit error is counted and its region goes to the head of the background test's queue. -/
theorem eccRead_double (u : State) (bank off w : Nat) :
    (u.eccRead bank off [(w, true)]).rd MEM_ECC_double = (u.rd MEM_ECC_double + 1) % 2 ^ MEM_ECC_double.width ∧
      (u.eccRead bank off [(w, true)]).hub.btQueue = (bank, (off + 8 * w) / 256) :: u.hub.btQueue ∧
      (u.eccRead bank off [(w, true)]).mem = u.mem ∧ (u.eccRead bank off [(w, true)]).out = u.out := by
  have hframe := State.eccRead_frame (Sub.refl _) (Frame.refl _ u) bank off [(w, true)]
  refine ⟨?_, ?_, hframe.mem rfl, hframe.out rfl⟩
  all_goals
    unfold State.eccRead
    rw [List.foldl_cons, List.foldl_nil]
    unfold State.eccWord
    rw [if_pos rfl]
  · rw [State.rd_emitLim _ _ _ _ _ _ _ _ (by decide), State.rd_bump_same]
    rfl
  · simp

theorem firmwareDouble_answers : Claims.firmwareDouble := by
  intro a w s hserved honly hread hport hecc
  obtain ⟨n, hend, haccs⟩ := cycleEnd_alone hserved honly
  obtain ⟨hrun, hnone, -, -, -, -, -, hplace⟩ := hserved
  obtain ⟨hmem, -, hhub, hout⟩ := hubCycle_memories s
  obtain ⟨hwas, -, -, -, hhwas⟩ := serving_judged s [] n
  have hdouble : (s.cycleJudged.serving [] n).rd MEM_ECC_double = s.rd MEM_ECC_double :=
    (judged_frame s).rd_of (f := MEM_ECC_double) (by decide +kernel) 0
  have hgrown : s.out <+: (s.cycleJudged.serving [] n).out := ((tlyEnd_grows s).trans (judged_from_tallies s)).out
  obtain ⟨hcount, hqueue, hkept, hsilent⟩ := eccRead_double (s.cycleJudged.serving [] n) a.bank a.off w
  rw [serveAcc_read hread hport, hecc, readLine_serving hplace] at hend
  refine ⟨_, step_hubCycle hrun hnone, ?_, ?_, ?_, ?_⟩
  · refine Sent.after (t := s.cycleEnd) ?_ (by rw [hout])
    rw [hend]
    exact Sent.before (send_sent _ _) (by rw [hsilent]; exact hgrown)
  · rw [(hubCycle_from_end s).rd_of (f := MEM_ECC_double) (by decide +kernel) 0, hend, ← hdouble]
    exact hcount
  · rw [hmem, hend, ← hwas]
    exact hkept
  · rw [hhub, hend]
    refine hqueue.trans ?_
    rw [hhwas]

theorem servedAccs_first {l : List MemAcc} (hfirst : firstAcc l = some a) (hline : l.filter (fun c => decide (c.off = a.off)) = [a]) :
    servedAccs l = [a] := by
  unfold servedAccs
  split
  · next h => exact absurd (hfirst.symm.trans h) (by simp)
  · next x h =>
    obtain rfl := Option.some.inj (hfirst.symm.trans h)
    rw [hline]
    cases hw : a.write <;> simp [hw, firstAcc]

theorem memoryPriority_answers : Claims.memoryPriority := by
  intro a b s ha hb hbank hlcx hoff hmaster hafter horder
  obtain ⟨hrun, hnone, -, -, -, -, hga, -⟩ := id ha
  obtain ⟨-, -, -, -, -, -, hgb, -⟩ := hb
  obtain ⟨-, -, hhub, -⟩ := hubCycle_memories s
  refine ⟨_, step_hubCycle hrun hnone, (congrArg Hub.accs hhub).trans ?_⟩
  have hba : b ≠ a := fun h => hmaster (congrArg MemAcc.master h)
  have hkeep : ∀ c ∈ [{ b with held := true }], c.bank = a.bank ∧ a.bank ≠ 8 := by simp [hbank, hlcx]
  rcases horder with haccs | ⟨haccs, hbefore⟩
  · have hserved : servedAccs [a, b] = [a] := servedAccs_first (by simp [firstAcc, hafter]) (by simp [hoff])
    obtain ⟨-, -, h⟩ := cycleEnd_served (l := [a, b]) (rest := [{ b with held := true }]) ha (by simp) (by simp [hga, hgb, hbank]) haccs
      (by simp [headAccs, hmaster.symm]) (by simp [hserved, hba]) hkeep
    exact h
  · have hserved : servedAccs [b, a] = [a] := servedAccs_first (by simp [firstAcc, hbefore]) (by simp [hoff])
    obtain ⟨-, -, h⟩ := cycleEnd_served (l := [b, a]) (rest := [{ b with held := true }]) ha (by simp) (by simp [hga, hgb, hbank]) haccs
      (by simp [headAccs, hmaster]) (by simp [hserved, hba]) hkeep
    exact h

theorem memorySameLine_answers : Claims.memorySameLine := by
  intro w r s hw hr hbank hoff hmaster hport hwrite hread hecc haccs
  obtain ⟨hrun, hnone, -, -, -, -, hgw, hplace⟩ := id hw
  obtain ⟨-, -, -, -, -, -, hgr, -⟩ := hr
  have hserved : servedAccs [w, r] = [r, w] := by
    unfold servedAccs firstAcc
    cases hfirst : r.before w <;> simp [firstAcc, hfirst, hoff, hwrite, hread]
  obtain ⟨n, hend, haccs'⟩ := cycleEnd_served (l := [w, r]) (rest := []) hw (by simp) (by simp [hgw, hgr, hbank]) haccs
    (by simp [headAccs, hmaster.symm]) (by simp [hserved]) (by simp)
  obtain ⟨hmem, -, hhub, hout⟩ := hubCycle_memories s
  obtain ⟨hwas, -, -, -, -⟩ := serving_judged s [] n
  rw [hserved, List.foldl_cons, List.foldl_cons, List.foldl_nil, serveAcc_read hread hport, hecc, eccBytes_nil,
    readLine_serving (a := r) (by rw [hbank, hoff]; exact hplace)] at hend
  refine ⟨_, step_hubCycle hrun hnone, ?_, (congrArg Hub.accs hhub).trans haccs', ?_⟩
  · refine Sent.after (t := s.cycleEnd) ?_ (by rw [hout])
    rw [hend]
    refine Sent.after (Sent.before (send_sent (s.cycleJudged.serving [] n) _) ?_) (serveAcc_grows _ w).out
    exact ((tlyEnd_grows s).trans (judged_from_tallies s)).out
  · rw [hmem, hend, serveAcc_write hplace hwrite]
    exact congrArg (memWriteBytes · bankDefault _ _) hwas

/-! ### Recalls and Grant items (R236, R258, R264) -/

/-- The tallies as the cycle's end finds them, its Grant items driven. -/
def State.driven (s : State) : State :=
  s.tly.drive.foldl State.driveGrant { s with tly := { s.tly with drive := [], recalls := [] } }

theorem tlyEnd_eq (s : State) : s.tlyEnd = s.tly.recalls.foldl State.countRecall s.driven := rfl

theorem driven_frame (s : State) :
    Frame State.driveGrant_foot { s with tly := { s.tly with drive := [], recalls := [] } } s.driven :=
  Frame.foldl (Frame.refl _ _) (fun _ e h => State.driveGrant_frame (Sub.refl _) h e)

/-- A recall of an object still held is recorded. -/
theorem countRecall_recorded {o g k : Nat} (hheld : (u.obj o).state ≠ 0) (hgen : (u.obj o).gen = g)
    (hlast : mget u.recd.last (evCode 14 1 * 2 ^ 16 + (u.obj o).engine) 0 ≠ u.ts / msT + 1) :
    Recorded u (u.countRecall (o, g, k)) 14 1 [o, (u.obj o).engine, k % 2,
      (u.obj o).tenant + 65536 * b2n ((List.range 256).any fun c => u.stepping c)] := by
  unfold State.countRecall
  extract_lets obj x cause clamped told counted flag
  have hcounts : counted.recd = u.recd ∧ counted.ts = u.ts ∧ ∀ c, counted.rd CHK_STEP_mode c = u.rd CHK_STEP_mode c := by
    have hclamped : clamped.recd = u.recd ∧ clamped.ts = u.ts ∧ ∀ c, clamped.rd CHK_STEP_mode c = u.rd CHK_STEP_mode c := by
      unfold clamped
      split
      · exact ⟨rfl, rfl, fun c => State.rd_bump_sep _ _ _ _ _ (by decide)⟩
      · exact ⟨rfl, rfl, fun c => rfl⟩
    have htold : told.recd = clamped.recd ∧ told.ts = clamped.ts ∧ ∀ c, told.rd CHK_STEP_mode c = clamped.rd CHK_STEP_mode c := by
      unfold told
      split
      · exact ⟨rfl, rfl, fun c => State.rd_bump_sep _ _ _ _ _ (by decide)⟩
      · exact ⟨rfl, rfl, fun c => State.rd_bump_sep _ _ _ _ _ (by decide)⟩
    refine ⟨?_, ?_, fun c => ?_⟩
    · simp [counted, htold, hclamped]
    · simp [counted, htold, hclamped]
    · simp [counted, htold, hclamped]
  obtain ⟨hrecd, hts, hmode⟩ := hcounts
  have hflag : flag = (List.range 256).any fun c => u.stepping c := by
    unfold flag State.stepping State.flag
    simp only [hmode]
  rw [if_neg (by rintro (h | h); exacts [hheld h, h hgen]), hflag]
  exact (State.emitLim_recorded counted 14 1 x.engine msT _ (by rw [hrecd, hts]; exact hlast)).before hrecd hts

theorem recallReported_answers : Claims.recallReported := by
  intro o g k s hrun hnone hrecalls hheld hgen hlast
  have hframe := driven_frame s
  have hobj : s.driven.obj o = s.obj o := obj_of_objs (congrArg Tly.objs (hframe.tly rfl)) o
  have hstep (c : Nat) : s.driven.stepping c = s.stepping c :=
    congrArg (fun v => decide (v = 1)) (hframe.rd_of (f := CHK_STEP_mode) (by decide +kernel) c)
  have hend : s.tlyEnd = s.driven.countRecall (o, g, k) := by rw [tlyEnd_eq, hrecalls]; rfl
  have hrecorded := countRecall_recorded (u := s.driven) (o := o) (g := g) (k := k) (by rw [hobj]; exact hheld) (by rw [hobj]; exact hgen)
    (by rw [hobj, hframe.recd rfl, hframe.ts rfl]; exact hlast)
  rw [← hend, hobj] at hrecorded
  simp only [hstep] at hrecorded
  refine ⟨_, step_hubCycle hrun hnone, ?_⟩
  refine Recorded.framed ?_ (hubCycle_from_end s) (by decide)
  refine Recorded.framed ?_ (State.bankCycles_frame (Sub.refl _) (Frame.refl _ s.cycleJudged)) rfl
  refine Recorded.framed ?_ (State.notePhases_frame (Sub.refl _) (Frame.refl _ _)) rfl
  refine Recorded.framed ?_ (State.mgtAllocate_frame (Sub.refl _) (Frame.refl _ _)) rfl
  refine Recorded.framed ?_ (State.thmTrip_frame (Sub.refl _) (Frame.refl _ _)) rfl
  refine Recorded.framed ?_ (State.fbJudge_frame (Sub.refl _) (Frame.refl _ _)) rfl
  exact hrecorded.before (hframe.recd rfl) (hframe.ts rfl)

theorem grantDriven_answers : Claims.grantDriven := by
  intro o g s hrun hnone hdrive hheld hgen
  refine ⟨_, step_hubCycle hrun hnone, ?_⟩
  have hdriven : Sent s s.driven (.grantItem (s.obj o).engine (s.obj o).seq o g 0) := by
    unfold State.driven
    rw [hdrive, List.foldl_cons, List.foldl_nil]
    unfold State.driveGrant
    rw [if_neg (by rintro (h | h); exacts [hheld h, h hgen]), ← hgen]
    exact send_sent _ _
  refine Sent.after (Sent.after hdriven ?_) (hubCycle_from_tallies s).out
  rw [tlyEnd_eq]
  exact (Grows.foldl (fun u e => (Grows.refl u).of_out (countRecall_out u e)) (Grows.refl _)).out

/-! ### The firebreak (R85 to R87) -/

/-- A firebreak whose end is armed and whose hold-off is done ends. -/
theorem fbEnd_ends (hstate : 2 ≤ u.rd CHK_FB_STAT_state) (harmed : u.flag CHK_FB_STAT_armed = true) (hheld : u.fbHeldOff = true) :
    u.fbEnd.rd CHK_FB_STAT_state = 0 ∧ u.fbEnd.ramp = u.ramp := by
  refine ⟨?_, (State.fbEnd_frame (Sub.refl _) (Frame.refl _ u)).ramp rfl⟩
  unfold State.fbEnd
  rw [if_pos ⟨hstate, harmed, hheld⟩]
  extract_lets told ended
  rw [(State.dvfsFree_frame (Sub.refl _) (Frame.refl _ ended)).rd_of (f := CHK_FB_STAT_state) (by decide +kernel) 0]
  exact (State.rd_wr_sep _ _ _ _ _ _ (by decide)).trans (State.rd_wr_same ..)

/-- A release judged ends a firebreak whose hold-off is done. -/
theorem fbJudge_ends {n : Nat} (hask : u.ramp.relAsk = some n) (hstate : u.rd CHK_FB_STAT_state = 3) (hheld : u.fbHeldOff = true) :
    u.fbJudge.rd CHK_FB_STAT_state = 0 ∧ u.fbJudge.ramp.relAsk = none := by
  unfold State.fbJudge
  split
  · next h => exact absurd (hask.symm.trans h) (by simp)
  · next q h =>
    obtain rfl := Option.some.inj (hask.symm.trans h)
    extract_lets inForce src noted armed
    have hstate' : armed.rd CHK_FB_STAT_state = 3 :=
      (State.rd_wr_sep noted CHK_FB_STAT_armed CHK_FB_STAT_state 0 0 1 (by decide)).trans hstate
    have hheld' : decide (u.ramp.negT + armed.rd CHK_FB_CTL_holdoff * usT ≤ u.ts) = true :=
      (congrArg (fun v => decide (u.ramp.negT + v * usT ≤ u.ts))
        (State.rd_wr_sep noted CHK_FB_STAT_armed CHK_FB_CTL_holdoff 0 0 1 (by decide))).trans hheld
    have harmed : armed.flag CHK_FB_STAT_armed = true := congrArg (fun v => decide (v = 1)) (State.rd_wr_same ..)
    rw [if_pos (show inForce = true from decide_eq_true (by omega))]
    obtain ⟨hended, hramp⟩ := fbEnd_ends (u := { armed with ramp := { armed.ramp with relTake := n } })
      (Nat.le_trans (by decide) (Nat.le_of_eq hstate'.symm)) harmed hheld'
    exact ⟨hended, congrArg Ramp.relAsk hramp⟩

theorem firebreakReleased_answers : Claims.firebreakReleased := by
  intro n s hrun hnone hask hstate hheld
  refine ⟨_, step_hubCycle hrun hnone, ?_⟩
  have htly := State.tlyEnd_frame (Sub.refl _) (Frame.refl _ s)
  have hheld' : s.tlyEnd.fbHeldOff = true := by
    unfold State.fbHeldOff
    rw [htly.ramp rfl, htly.ts rfl, htly.rd_of (f := CHK_FB_CTL_holdoff) (by decide +kernel) 0]
    exact hheld
  obtain ⟨hended, hramp⟩ := fbJudge_ends (u := s.tlyEnd) (n := n) ((congrArg Ramp.relAsk (htly.ramp rfl)).trans hask)
    ((htly.rd_of (f := CHK_FB_STAT_state) (by decide +kernel) 0).trans hstate) hheld'
  have hcycle := hubCycle_from_end s
  have hbanks := State.bankCycles_frame (Sub.refl _) (Frame.refl _ s.cycleJudged)
  have hphases := State.notePhases_frame (Sub.refl _) (Frame.refl _ s.tlyEnd.fbJudge.thmTrip.mgtAllocate)
  have hmgt := State.mgtAllocate_frame (Sub.refl _) (Frame.refl _ s.tlyEnd.fbJudge.thmTrip)
  have htrip := State.thmTrip_frame (Sub.refl _) (Frame.refl _ s.tlyEnd.fbJudge)
  constructor
  · rw [hcycle.rd_of (f := CHK_FB_STAT_state) (by decide +kernel) 0]
    refine (hbanks.rd_of (by decide +kernel) 0).trans ?_
    refine (hphases.rd_of (by decide +kernel) 0).trans ?_
    rw [hmgt.rd_of (f := CHK_FB_STAT_state) (by decide +kernel) 0, htrip.rd_of (f := CHK_FB_STAT_state) (by decide +kernel) 0]
    exact hended
  · have h : s.hubCycle.ramp = s.tlyEnd.fbJudge.ramp :=
      (hcycle.ramp (by decide)).trans ((hbanks.ramp rfl).trans ((hphases.ramp rfl).trans ((hmgt.ramp rfl).trans (htrip.ramp rfl))))
    rw [h]
    exact hramp

/-! ### The allocation of a cut-off (R353, R361) -/

/-- What a member has after an allocation that gives it w, where decay alone leaves lo. -/
theorem MgtMem.after_of_join {x : MgtMem} (hjoin : x.join = none) (t w lo : Nat) : x.after t w lo = { x with w := w, lo := lo } := by
  unfold MgtMem.after
  split
  · next h => exact absurd (hjoin.symm.trans h) (by simp)
  · rfl

theorem shareOf_demand {i : Nat} {x : MgtMem} (hjoin : x.join = none) (t : Nat) : u.shareOf t (i, x) = u.demandShare (i, x) := by
  unfold State.shareOf
  split
  · next h => exact absurd (hjoin.symm.trans h) (by simp)
  · rfl

theorem demandShare_decays (i : Nat) (x : MgtMem) :
    (u.demandShare (i, x)).id = i ∧ (u.demandShare (i, x)).lo = decay x.safe x.rate x.w := by
  unfold State.demandShare
  split
  · exact ⟨rfl, rfl⟩
  · exact ⟨rfl, rfl⟩

theorem setMem_alone (hd : u.isD = false) (i : Nat) (x : MgtMem) : u.setMem i x = u.setMgt { u.mgt with mem := mput u.mgt.mem i x } := by
  have hnot {v : State} (hv : v.isD = false) : v.mirroring = false := by simp [State.mirroring, hv]
  unfold State.setMem
  exact mirror_of_not (hnot (v := u.setMgt { u.mgt with mem := mput u.mgt.mem i x }) hd) ..

theorem markSilent_of_silent (h : ∀ e ∈ u.table, e.2.silent = true) : u.markSilent = u := by
  unfold State.markSilent
  generalize u.table = l at h
  induction l with
  | nil => rfl
  | cons e l ih =>
    rw [List.foldl_cons, if_neg (by simp [h e List.mem_cons_self])]
    exact ih fun e he => h e (List.mem_cons_of_mem _ he)

theorem mgtSettle_of_empty (h : u.mgt.inbox = []) : u.mgtSettle = u := by
  unfold State.mgtSettle State.mgtDrain
  split
  · rfl
  · next hx => exact absurd (h.symm.trans hx) (by simp)

/-- The allocation of a domain with one member, which has sent nothing of late. -/
theorem mgtAllocate_alone {i : Nat} {x : MgtMem} (hd : u.isD = false) (hcut : u.mgt.cut = true) (hrole : u.mgtRole = 1)
    (hready : u.mgt.unready = none) (hmem : u.mgt.mem = [(i, x)]) (hjoined : x.joined = true) (hsilent : x.silent = true)
    (hjoin : x.join = none) (hwait : u.mgt.wait = []) (hinbox : u.mgt.inbox = []) :
    u.mgtAllocate.mgt.cut = false ∧ u.mgtAllocate.mgt.alloc = u.mgtEpoch + 2 ∧
      u.mgtAllocate.mgtMem i = { x with
        w := mget (allocate (u.domFor (u.mgtEpoch + 2)) [u.shareOf (u.mgtEpoch + 2) (i, x)]) i (decay x.safe x.rate x.w),
        lo := decay x.safe x.rate x.w } := by
  unfold State.mgtAllocate
  rw [if_neg (by simp [hcut])]
  extract_lets target src cut shares budget floorSum given reserved srcR exceeded told waiting srcW asked
  have hshare : cut.shareOf target (i, x) = u.shareOf target (i, x) := by rw [shareOf_demand hjoin, shareOf_demand hjoin]; rfl
  obtain ⟨hid, hlo⟩ := demandShare_decays (u := u) i x
  rw [← shareOf_demand hjoin target] at hid hlo
  have hshares : shares = [u.shareOf target (i, x)] := by
    rw [← hshare]
    unfold shares State.table
    rw [show cut.mgt.mem = [(i, x)] from hmem]
    simp [hjoined]
  have hgiven : given = allocate (u.domFor target) [u.shareOf target (i, x)] := by
    unfold given
    rw [if_neg (show ¬ cut.mgtRole = 3 by rw [show cut.mgtRole = 1 from hrole]; decide), hshares]
    rfl
  have hreserved : reserved = cut.setMgt { cut.mgt with mem := mput cut.mgt.mem i { x with
      w := mget (allocate (u.domFor target) [u.shareOf target (i, x)]) i (decay x.safe x.rate x.w),
      lo := decay x.safe x.rate x.w } } := by
    unfold reserved
    have hcutMem : cut.mgtMem i = x := by
      unfold State.mgtMem
      rw [show cut.mgt.mem = [(i, x)] from hmem]
      simp [mget, mfind]
    rw [hshares, List.foldl_cons, List.foldl_nil, hid, hlo, hgiven, hcutMem, MgtMem.after_of_join hjoin]
    exact setMem_alone (u := cut) hd i _
  have htold : told.mgt = exceeded.mgt := by
    unfold told
    rw [if_neg (show ¬ cut.mgtUnready = true by simp [State.mgtUnready, show cut.mgt.unready = none from hready])]
    split
    · simp
    · rfl
  have hmgt : told.mgt = { u.mgt with
      cut := false, alloc := target, overB := decide (budget < floorSum),
      mem := mput u.mgt.mem i { x with
        w := mget (allocate (u.domFor target) [u.shareOf target (i, x)]) i (decay x.safe x.rate x.w),
        lo := decay x.safe x.rate x.w } } := by
    rw [htold]
    unfold exceeded srcR
    rw [hreserved]
    rfl
  have hasked : asked = told.setMgt { told.mgt with wait := [] } := by
    unfold asked
    rw [show waiting = [] from (congrArg Mgt.wait hmgt).trans hwait]
    rfl
  have hkept : asked.mgt.mem = mput u.mgt.mem i { x with
      w := mget (allocate (u.domFor target) [u.shareOf target (i, x)]) i (decay x.safe x.rate x.w), lo := decay x.safe x.rate x.w } :=
    (congrArg (fun v => v.mgt.mem) hasked).trans (congrArg Mgt.mem hmgt)
  have hquiet : asked.markSilent.mgtSettle = asked := by
    rw [markSilent_of_silent, mgtSettle_of_empty]
    · exact (congrArg (fun v => v.mgt.inbox) hasked).trans ((congrArg Mgt.inbox hmgt).trans hinbox)
    · intro e he
      unfold State.table at he
      rw [hkept, hmem] at he
      simp only [mput, Nat.lt_irrefl, if_false, if_true, List.mem_filter, List.mem_singleton] at he
      rw [he.1]
      exact hsilent
  rw [hquiet]
  refine ⟨(congrArg (fun v => v.mgt.cut) hasked).trans (congrArg Mgt.cut hmgt),
    (congrArg (fun v => v.mgt.alloc) hasked).trans (congrArg Mgt.alloc hmgt), ?_⟩
  unfold State.mgtMem
  rw [hkept]
  exact mget_mput_same ..

theorem salgorAllocation_answers : Claims.salgorAllocation := by
  intro i x s hrun hnone hd hcut hrole hready hmem hjoined hsilent hjoin hwait hinbox
  refine ⟨_, step_hubCycle hrun hnone, ?_⟩
  have hbefore : Frame (State.tlyEnd_foot ||| State.fbJudge_foot ||| State.thmTrip_foot) s s.tlyEnd.fbJudge.thmTrip :=
    State.thmTrip_frame (show _ &&& _ = _ by decide) (State.fbJudge_frame (show _ &&& _ = _ by decide)
      (State.tlyEnd_frame (show _ &&& _ = _ by decide) (Frame.refl _ s)))
  have hmgt : s.tlyEnd.fbJudge.thmTrip.mgt = s.mgt := hbefore.mgt (by decide)
  have hepoch : s.tlyEnd.fbJudge.thmTrip.mgtEpoch = s.mgtEpoch := hbefore.rd_of (f := MGT_EPOCH) (by decide +kernel) 0
  have hdom (t : Nat) : s.tlyEnd.fbJudge.thmTrip.domFor t = s.domFor t := by
    unfold State.domFor
    rw [hbefore.rd_of (f := MGT_DOM_AT) (by decide +kernel) 0, hbefore.rd_of (f := MGT_DOM_NEXT_next) (by decide +kernel) 0,
      hbefore.rd_of (f := MGT_DOM_BUD_bud) (by decide +kernel) 0]
  have hshare (t : Nat) : s.tlyEnd.fbJudge.thmTrip.shareOf t (i, x) = s.shareOf t (i, x) := by
    rw [shareOf_demand hjoin, shareOf_demand hjoin]
    unfold State.demandShare
    rw [hmgt]
  have hafter : s.hubCycle.mgt = s.tlyEnd.fbJudge.thmTrip.mgtAllocate.mgt :=
    ((hubCycle_from_end s).mgt (by decide)).trans (((State.bankCycles_frame (Sub.refl _) (Frame.refl _ s.cycleJudged)).mgt rfl).trans
      ((State.notePhases_frame (Sub.refl _) (Frame.refl _ _)).mgt rfl))
  obtain ⟨hdone, halloc, hmember⟩ := mgtAllocate_alone (u := s.tlyEnd.fbJudge.thmTrip) (i := i) (x := x)
    ((congrArg isDFuse (hbefore.fuse (by decide))).trans hd) (by rw [hmgt]; exact hcut)
    ((hbefore.rd_of (f := MGT_STAT_role) (by decide +kernel) 0).trans hrole) (by rw [hmgt]; exact hready) (by rw [hmgt]; exact hmem)
    hjoined hsilent hjoin (by rw [hmgt]; exact hwait) (by rw [hmgt]; exact hinbox)
  rw [hepoch] at halloc hmember
  rw [hdom, hshare] at hmember
  have hmember' : s.hubCycle.mgtMem i = s.tlyEnd.fbJudge.thmTrip.mgtAllocate.mgtMem i := congrArg (fun g : Mgt => mget g.mem i ({ } : MgtMem)) hafter
  rw [hmember', hmember, hafter]
  exact ⟨hdone, halloc, rfl, rfl⟩

end

/-- Settles O60. -/
theorem hubCycle : Obligations.HubCycle :=
  ⟨firmwareWrite_answers, firmwareRead_answers, firmwareDouble_answers, memoryPriority_answers, memorySameLine_answers,
    recallReported_answers, grantDriven_answers, firebreakReleased_answers, salgorAllocation_answers⟩

end Sys2Proof.Machine
end

section
/-!
PROOF. What happens to one element of an array, a fan, a ring, a choker, a phase, leaves the others.
-/
namespace Sys2Proof.Machine
open Sys2Proof.Claims

set_option Elab.async false

/-! ### Elements left alone -/

/-- A part of the state and element k of the fields are the same in t as in s. -/
structure Spares {β : Type} (part : State → β) (flds : List Fld) (k : Nat) (s t : State) : Prop where
  part : part t = part s
  reads : ∀ f ∈ flds, t.rd f k = s.rd f k

/-- Two fields apart, or with the same elements. -/
def apartFld (g f : Fld) : Bool :=
  sepFld g f || (decide (g.key = f.key) && decide (g.count = f.count) && decide (g.stride = f.stride) && decide (0 < f.stride))

/-- Different elements of such fields have different keys. -/
theorem apartFld_ne {g f : Fld} {n k : Nat} (h : apartFld g f = true) (hn : n < f.count) (hk : k < f.count) (hne : k ≠ n) :
    g.keyOf k ≠ f.keyOf n := by
  rcases Bool.or_eq_true_iff.1 h with h | h
  · exact sepFld_ne h k n
  · simp only [Bool.and_eq_true, decide_eq_true_eq] at h
    obtain ⟨⟨⟨hkey, hcount⟩, hstride⟩, hpos⟩ := h
    unfold Fld.keyOf
    rw [hkey, hcount, hstride]
    exact Fld.keyOf_ne (f := f) hpos hk hn hne

section
variable {β : Type} {part : State → β} {flds : List Fld} {k : Nat} {s0 s t u : State} {m : Nat}

theorem Spares.refl (s : State) : Spares part flds k s s := ⟨rfl, fun _ _ => rfl⟩

theorem Spares.trans (h : Spares part flds k s t) (hu : Spares part flds k t u) : Spares part flds k s u :=
  ⟨hu.part.trans h.part, fun f hf => (hu.reads f hf).trans (h.reads f hf)⟩

theorem Spares.ite {p : Prop} [Decidable p] (h : Spares part flds k s0 s) (hu : Spares part flds k s0 t) :
    Spares part flds k s0 (if p then s else t) := by
  split
  · exact h
  · exact hu

theorem Spares.foldl {α : Type} {f : State → α → State} {l : List α} (hf : ∀ u x, x ∈ l → Spares part flds k u (f u x))
    (h : Spares part flds k s0 s) : Spares part flds k s0 (l.foldl f s) := by
  induction l generalizing s with
  | nil => exact h
  | cons x l ih => exact ih (fun u y hy => hf u y (List.mem_cons_of_mem _ hy)) (h.trans (hf s x List.mem_cons_self))

theorem Spares.foldTo {f : State → Nat → State} {n : Nat} (hf : ∀ u j, j < n → Spares part flds k u (f u j))
    (h : Spares part flds k s0 s) : Spares part flds k s0 (Sys2Proof.foldTo n s f) :=
  Spares.foldl (fun u j hj => hf u j (List.mem_range.1 hj)) h

/-- Element n of a field is written. -/
theorem Spares.wr (h : Spares part flds k s0 s) (f : Fld) {n : Nat} (v : Nat) (hpart : part (s.wr f n v) = part s)
    (hflds : flds.all (apartFld · f) = true) (hn : n < f.count) (hk : k < f.count) (hne : k ≠ n) : Spares part flds k s0 (s.wr f n v) :=
  h.trans ⟨hpart, fun _ hg => State.rd_wr_key _ _ _ _ _ _ (apartFld_ne (List.all_eq_true.1 hflds _ hg) hn hk hne)⟩

/-- Any element of a field apart from all of them is written. -/
theorem Spares.wr_sep (h : Spares part flds k s0 s) (f : Fld) (n v : Nat) (hpart : part (s.wr f n v) = part s)
    (hflds : flds.all (sepFld · f) = true) : Spares part flds k s0 (s.wr f n v) :=
  h.trans ⟨hpart, fun g hg => State.rd_wr_sep _ _ _ _ _ _ (List.all_eq_true.1 hflds g hg)⟩

/-- A component other than the registers is written. -/
theorem Spares.of_regs (h : Spares part flds k s0 s) (hpart : part t = part s) (hregs : t.regs = s.regs) (hfuse : t.fuse = s.fuse)
    : Spares part flds k s0 t :=
  h.trans ⟨hpart, fun f _ => rd_of_regs hregs hfuse f k⟩

/-- A function whose footprint holds none of the fields leaves them. -/
theorem Spares.framed (h : Spares part flds k s0 s) (hframe : Frame m s t) (hpart : part t = part s)
    (hflds : flds.all (untouched m) = true) : Spares part flds k s0 t :=
  h.trans ⟨hpart, fun f hf => hframe.rd_of (List.all_eq_true.1 hflds f hf) k⟩

theorem Spares.emit (h : Spares part flds k s0 s) (unit idx : Nat) (ps : List Nat) (hpart : part (s.emit unit idx ps) = part s)
    (hflds : flds.all (untouched State.emit_foot) = true) : Spares part flds k s0 (s.emit unit idx ps) :=
  h.framed (State.emit_frame (Sub.refl _) (Frame.refl _ s) unit idx ps) hpart hflds

theorem Spares.emitLim (h : Spares part flds k s0 s) (unit idx scope span : Nat) (ps : List Nat)
    (hpart : part (s.emitLim unit idx scope span ps) = part s) (hflds : flds.all (untouched State.emitLim_foot) = true) :
    Spares part flds k s0 (s.emitLim unit idx scope span ps) :=
  h.framed (State.emitLim_frame (Sub.refl _) (Frame.refl _ s) unit idx scope span ps) hpart hflds

end

/-- The command of a hub operation answers what it does, or leaves a state in die reset. -/
theorem hubOn_next {f : State → State} {s t : State} (h : hubOn f s = .next t) : t = if s.running then f s else s :=
  (Host.Outcome.next.inj h).symm

end Sys2Proof.Machine
end

section
/-!
PROOF. The fans leave one another alone (R519 to R522).
-/
namespace Sys2Proof.Machine
open Sys2Proof.Claims

set_option Elab.async false

section
variable {s s0 : State} {n k : Fin 4}

/-- The fields that a fan shows. -/
def fanFlds : List Fld := [FAN_STAT_state, FAN_STAT_tries, FAN_STAT_duty, FAN_STAT_rpm, FAN_DEF_deficit]

/-- Fan k is the same in both. -/
def FanKept (k : Nat) (s t : State) : Prop := Spares (fun s => s.fan k) fanFlds k s t

theorem FanKept.setFan (hne : k ≠ n) (h : FanKept k s0 s) (x : Fan) : FanKept k s0 (s.setFan n x) :=
  Spares.of_regs h (mget_mput_ne _ _ _ (fun e => hne (Fin.ext e))) rfl rfl

theorem FanKept.wr (hne : k ≠ n) (h : FanKept k s0 s) (f : Fld) (v : Nat) (hf : fanFlds.all (apartFld · f) = true) (hcount : f.count = 4) :
    FanKept k s0 (s.wr f n v) :=
  Spares.wr h f v rfl hf (by rw [hcount]; exact n.isLt) (by rw [hcount]; exact k.isLt) (fun e => hne (Fin.ext e))

theorem FanKept.emit (h : FanKept k s0 s) (unit idx : Nat) (ps : List Nat) : FanKept k s0 (s.emit unit idx ps) :=
  Spares.emit h _ _ _ (by simp) (by decide +kernel)

theorem FanKept.emitLim (h : FanKept k s0 s) (unit idx scope span : Nat) (ps : List Nat) :
    FanKept k s0 (s.emitLim unit idx scope span ps) :=
  Spares.emitLim h _ _ _ _ _ (by simp) (by decide +kernel)

theorem FanKept.ite {p : Prop} [Decidable p] {t : State} (h : FanKept k s0 s) (hu : FanKept k s0 t) : FanKept k s0 (if p then s else t) :=
  Spares.ite h hu

theorem FanKept.fanGo (hne : k ≠ n) (h : FanKept k s0 s) (st : Nat) : FanKept k s0 (s.fanGo n st) := h.setFan hne _

theorem FanKept.fanDef (hne : k ≠ n) (h : FanKept k s0 s) : FanKept k s0 (s.fanDef n) :=
  FanKept.wr hne (h.setFan hne _) FAN_DEF_deficit _ (by decide) rfl

theorem FanKept.fanOut (hne : k ≠ n) (h : FanKept k s0 s) (st : Nat) : FanKept k s0 (s.fanOut n st) := by
  unfold State.fanOut
  exact FanKept.ite ((h.setFan hne _).fanGo hne st) (h.fanGo hne st)

theorem FanKept.fanRestore (hne : k ≠ n) (h : FanKept k s0 s) : FanKept k s0 (s.fanRestore n) :=
  (h.fanGo hne 3).emit 20 5 _

theorem FanKept.fanJudge (hne : k ≠ n) (h : FanKept k s0 s) (last : Nat) : FanKept k s0 (s.fanJudge n last) := by
  unfold State.fanJudge State.fanLost
  exact FanKept.ite (((h.fanOut hne 5).setFan hne _).emit 20 3 _) (FanKept.ite ((h.fanOut hne 4).emitLim 20 4 n secT _)
    (FanKept.ite (h.fanRestore hne) (FanKept.ite (FanKept.ite ((h.setFan hne _).fanRestore hne) (h.setFan hne _)) h)))

theorem FanKept.measured (hne : k ≠ n) (h : FanKept k s0 s) (rpm last : Nat) :
    FanKept k s0 (((s.wr FAN_STAT_rpm n rpm).fanJudge n last).fanDef n) :=
  FanKept.fanDef hne (FanKept.fanJudge hne (h.wr hne FAN_STAT_rpm rpm (by decide) rfl) last)

theorem fanPwmPeriod_spares (hne : k ≠ n) (s : State) : FanKept k s (Machine.fanPwmPeriod n s) := by
  have h : FanKept k s s := Spares.refl s
  unfold Machine.fanPwmPeriod
  refine FanKept.ite h ?_
  extract_lets old fan moved st d
  have hmoved : FanKept k s moved := by
    unfold moved
    split
    · refine FanKept.fanDef hne (FanKept.wr hne ?_ FAN_STAT_tries _ (by decide) rfl)
      exact (h.setFan hne _).wr hne FAN_STAT_state _ (by decide) rfl
    · exact h
  exact Spares.of_regs (hmoved.wr hne FAN_STAT_duty d (by decide) rfl) rfl rfl rfl

theorem tachEdge_spares (hne : k ≠ n) (s : State) : FanKept k s (Machine.tachEdge n s) := by
  have h : FanKept k s s := Spares.refl s
  unfold Machine.tachEdge
  refine FanKept.ite h ?_
  dsimp only
  split
  · exact h.setFan hne _
  · exact FanKept.ite (h.setFan hne _) ((h.setFan hne _).measured hne _ _)

theorem tachTimeout_spares (hne : k ≠ n) (s : State) : FanKept k s (Machine.tachTimeout n s) := by
  have h : FanKept k s s := Spares.refl s
  unfold Machine.tachTimeout
  exact FanKept.ite h (h.measured hne _ _)

theorem fanSpinupEnd_spares (hne : k ≠ n) (s : State) : FanKept k s (Machine.fanSpinupEnd n s) := by
  have h : FanKept k s s := Spares.refl s
  unfold Machine.fanSpinupEnd
  have hfailed (x : Fan) (tries : Nat) (ps : List Nat) : FanKept k s (((s.setFan n x).wr FAN_STAT_tries n tries).emit 20 1 ps) :=
    ((h.setFan hne x).wr hne FAN_STAT_tries tries (by decide) rfl).emit 20 1 ps
  exact FanKept.ite h (FanKept.ite (h.fanGo hne 3)
    (FanKept.ite ((hfailed ..).fanGo hne 2) (((hfailed ..).fanGo hne 6).emit 20 2 _)))

theorem fanRestEnd_spares (hne : k ≠ n) (s : State) : FanKept k s (Machine.fanRestEnd n s) := by
  have h : FanKept k s s := Spares.refl s
  unfold Machine.fanRestEnd
  exact FanKept.ite h (h.fanGo hne 1)

theorem fansApart_holds : Claims.fansApart := by
  intro n k c s t hne hc h
  have hkept {f : State → State} (hf : FanKept k s (f s)) (hanswer : hubOn f s = .next t) : FanKept k s t := by
    rw [hubOn_next hanswer]
    exact FanKept.ite hf (Spares.refl s)
  have hview : FanKept k s t := by
    simp only [List.mem_cons, List.not_mem_nil, or_false] at hc
    rcases hc with rfl | rfl | rfl | rfl | rfl
    · exact hkept (fanPwmPeriod_spares hne s) h
    · exact hkept (tachEdge_spares hne s) h
    · exact hkept (tachTimeout_spares hne s) h
    · exact hkept (fanSpinupEnd_spares hne s) h
    · exact hkept (fanRestEnd_spares hne s) h
  exact ⟨hview.part, hview.reads⟩

end

end Sys2Proof.Machine
end

section
/-!
PROOF. The rings leave one another alone (R3, R4).
-/
namespace Sys2Proof.Machine
open Sys2Proof.Claims

set_option Elab.async false

/-- Bits below place a + n are those of the remainder. -/
theorem bits_mod (x : Nat) {a n b : Nat} (h : a + n ≤ b) : bits (x % 2 ^ b) a n = bits x a n := by
  unfold bits
  obtain ⟨c, rfl⟩ := Nat.exists_eq_add_of_le h
  rw [← Nat.mod_mul_right_div_self, ← Nat.mod_mul_right_div_self, ← Nat.pow_add,
    Nat.mod_mod_of_dvd _ (Nat.pow_dvd_pow 2 (Nat.le_add_right _ _))]

/-- A word with another value in one of its groups of c bits. -/
theorem group_put_split (w v c i : Nat) : w - bits w (c * i) c * 2 ^ (c * i) + v * 2 ^ (c * i) =
    (2 ^ c * (w / 2 ^ (c * i) / 2 ^ c) + v) * 2 ^ (c * i) + w % 2 ^ (c * i) := by
  have hlow := Nat.div_add_mod w (2 ^ (c * i))
  have hgroup := Nat.div_add_mod (w / 2 ^ (c * i)) (2 ^ c)
  have hword : w = 2 ^ c * (w / 2 ^ (c * i) / 2 ^ c) * 2 ^ (c * i) + bits w (c * i) c * 2 ^ (c * i) + w % 2 ^ (c * i) := by
    rw [← Nat.add_mul, show bits w (c * i) c = w / 2 ^ (c * i) % 2 ^ c from rfl, hgroup, Nat.mul_comm]
    exact hlow.symm
  rw [Nat.add_mul]
  omega

/-- The group holds what is put in. -/
theorem bits_same_group {c width i : Nat} (w : Nat) {v : Nat} (hv : v < 2 ^ c) (hi : c * i + c ≤ width) :
    bits ((w - bits w (c * i) c * 2 ^ (c * i) + v * 2 ^ (c * i)) % 2 ^ width) (c * i) c = v := by
  have hpos : 0 < 2 ^ (c * i) := Nat.two_pow_pos _
  rw [bits_mod _ hi, group_put_split]
  unfold bits
  rw [Nat.add_comm, Nat.add_mul_div_right _ _ hpos, Nat.div_eq_of_lt (Nat.mod_lt _ hpos), Nat.zero_add, Nat.mul_add_mod_self_left,
    Nat.mod_eq_of_lt hv]

/-- A group of c bits of a word stays where another one is put in. -/
theorem bits_other_group {c width i j : Nat} (w v : Nat) (hv : v < 2 ^ c) (hj : c * j + c ≤ width) (hne : j ≠ i) :
    bits ((w - bits w (c * i) c * 2 ^ (c * i) + v * 2 ^ (c * i)) % 2 ^ width) (c * j) c = bits w (c * j) c := by
  rw [bits_mod _ hj]
  have hpos : 0 < 2 ^ (c * i) := Nat.two_pow_pos _
  rcases Nat.lt_or_gt_of_ne hne with hlt | hgt
  · have hbelow : c * j + c ≤ c * i := Nat.mul_succ c j ▸ Nat.mul_le_mul_left c hlt
    rw [← bits_mod (_ + _) hbelow, ← bits_mod w hbelow, group_put_split, Nat.mul_add_mod', Nat.mod_mod]
  · have habove (x y : Nat) (h : x / 2 ^ (c * i) / 2 ^ c = y / 2 ^ (c * i) / 2 ^ c) : bits x (c * j) c = bits y (c * j) c := by
      obtain ⟨d, hd⟩ := Nat.exists_eq_add_of_le (show c * i + c ≤ c * j from Nat.mul_succ c i ▸ Nat.mul_le_mul_left c hgt)
      unfold bits
      rw [hd, Nat.pow_add, Nat.pow_add, ← Nat.div_div_eq_div_mul, ← Nat.div_div_eq_div_mul, ← Nat.div_div_eq_div_mul,
        ← Nat.div_div_eq_div_mul, h]
    refine habove _ _ ?_
    rw [group_put_split, Nat.add_comm, Nat.add_mul_div_right _ _ hpos, Nat.div_eq_of_lt (Nat.mod_lt _ hpos), Nat.zero_add,
      Nat.mul_add_div (Nat.two_pow_pos c), Nat.div_eq_of_lt hv, Nat.add_zero]

section
variable {s0 s t u : State} {q r : Nat}

/-- Ring q and its state as HIF_RSTATE shows it are the same in both. -/
structure RingKept (q : Nat) (s t : State) : Prop where
  ring : t.ring q = s.ring q
  shown : bits (t.rd HIF_RSTATE (q / 8)) (4 * (q % 8)) 4 = bits (s.rd HIF_RSTATE (q / 8)) (4 * (q % 8)) 4

theorem RingKept.refl (s : State) : RingKept q s s := ⟨rfl, rfl⟩

theorem RingKept.ite {p : Prop} [Decidable p] (h : RingKept q s0 s) (hu : RingKept q s0 t) : RingKept q s0 (if p then s else t) := by
  split
  · exact h
  · exact hu

theorem RingKept.trans (h : RingKept q s t) (hu : RingKept q t u) : RingKept q s u := ⟨hu.ring.trans h.ring, hu.shown.trans h.shown⟩

theorem RingKept.framed {m : Nat} (h : RingKept q s0 s) (hframe : Frame m s t) (hring : t.ring q = s.ring q)
    (hm : untouched m HIF_RSTATE = true) : RingKept q s0 t :=
  h.trans ⟨hring, by rw [hframe.rd_of hm]⟩

/-- A function that writes no part of the rings leaves them. -/
theorem RingKept.of_hif {m : Nat} (h : RingKept q s0 s) (hframe : Frame m s t) (hhif : m.testBit 29 = false)
    (hm : untouched m HIF_RSTATE = true) : RingKept q s0 t :=
  h.framed hframe (ring_of_hif (hframe.hif hhif) q) hm

theorem RingKept.setRing (hne : q ≠ r) (h : RingKept q s0 s) (x : Ring) : RingKept q s0 (s.setRing r x) :=
  h.trans ⟨ring_setRing_ne _ _ _ hne, rfl⟩

theorem RingKept.send (h : RingKept q s0 s) (o : Out) : RingKept q s0 (s.send o) := h.trans ⟨rfl, rfl⟩

theorem RingKept.bump (h : RingKept q s0 s) (f : Fld) (hf : sepFld HIF_RSTATE f = true) : RingKept q s0 (s.bump f) :=
  h.trans ⟨rfl, by rw [State.rd_bump_sep _ _ _ _ _ hf]⟩

theorem RingKept.emit (h : RingKept q s0 s) (unit idx : Nat) (ps : List Nat) : RingKept q s0 (s.emit unit idx ps) :=
  h.of_hif (State.emit_frame (Sub.refl _) (Frame.refl _ s) unit idx ps) rfl (by decide +kernel)

theorem RingKept.emitLim (h : RingKept q s0 s) (unit idx scope span : Nat) (ps : List Nat) :
    RingKept q s0 (s.emitLim unit idx scope span ps) :=
  h.of_hif (State.emitLim_frame (Sub.refl _) (Frame.refl _ s) unit idx scope span ps) rfl (by decide +kernel)

theorem RingKept.mirror (h : RingKept q s0 s) (obj idx : Nat) (data : List Byte) : RingKept q s0 (s.mirror obj idx data) :=
  h.of_hif (State.mirror_frame (Sub.refl _) (Frame.refl _ s) obj idx data) rfl (by decide +kernel)

theorem RingKept.fetchOne (hne : q ≠ r) (h : RingKept q s0 s) : RingKept q s0 (s.fetchOne r) := by
  unfold State.fetchOne
  exact RingKept.ite ((h.setRing hne _).send _) h

theorem RingKept.tryFetch (hne : q ≠ r) (h : RingKept q s0 s) : RingKept q s0 (s.tryFetch r) := (h.fetchOne hne).fetchOne hne

theorem RingKept.setRState (hne : q ≠ r) (hq : q < 513) (hr : r < 513) (h : RingKept q s0 s) {st : Nat} (hst : st < 16) :
    RingKept q s0 (s.setRState r st) := by
  refine h.trans ⟨ring_setRState_ne st hne, ?_⟩
  unfold State.setRState
  extract_lets src ringed word lo shown
  have hword : bits (shown.rd HIF_RSTATE (q / 8)) (4 * (q % 8)) 4 = bits (s.rd HIF_RSTATE (q / 8)) (4 * (q % 8)) 4 := by
    by_cases he : q / 8 = r / 8
    · rw [he, show shown.rd HIF_RSTATE (r / 8) = _ from State.rd_wr_same ..]
      exact bits_other_group (c := 4) (width := 32) _ st hst (by omega) (by omega)
    · rw [show shown.rd HIF_RSTATE (q / 8) = _ from State.rd_wr_idx ringed HIF_RSTATE _ (by decide)
        (show r / 8 < 65 by omega) (show q / 8 < 65 by omega) he]
      rfl
  split
  · rw [show (shown.setFlagBit HIF_QUAR r _).rd HIF_RSTATE (q / 8) = _ from State.rd_wr_sep _ _ _ _ _ _ (by decide)]
    exact hword
  · exact hword

theorem RingKept.ringViol (hne : q ≠ r) (hq : q < 513) (hr : r < 513) (h : RingKept q s0 s) (kind v : Nat) :
    RingKept q s0 (s.ringViol r kind v) := by
  unfold State.ringViol
  extract_lets x bucket violated
  have hviolated : RingKept q s0 ((violated.bump HIF_STAT_viol).emitLim 5 2 r msT [r, kind, v, bucket]) :=
    ((h.setRing hne _).bump HIF_STAT_viol (by decide)).emitLim 5 2 r msT _
  unfold State.quarCheck
  exact RingKept.ite ((hviolated.setRState hne hq hr (by decide)).emit 5 3 _) hviolated

theorem RingKept.dbViol (hne : q ≠ r) (hq : q < 513) (hr : r < 513) (h : RingKept q s0 s) (kind v : Nat) :
    RingKept q s0 (s.dbViol r kind v) := by
  unfold State.dbViol
  exact RingKept.ite (h.ringViol hne hq hr kind v) h

/-- An access to the page of ring r leaves ring q where what it does there leaves it. -/
theorem doorbellAt_spares {off : BitVec 22} {page : Fin 513} {o o' : Nat} (hpage : AtPage off page o') (hne : q ≠ page)
    {f : Nat → State → State} (hf : RingKept q s (f page s)) : RingKept q s (s.doorbellAt off o f) := by
  unfold State.doorbellAt
  rw [(dbPage_at hpage).1]
  refine RingKept.ite ?_ (RingKept.refl s)
  unfold State.doorbell
  exact RingKept.ite (RingKept.refl s) (RingKept.ite ((RingKept.refl s).setRing hne _) hf)

theorem doorbellProdWrite_spares {off : BitVec 22} {r q : Fin 513} {o : Nat} (v : BitVec 32) (hpage : AtPage off r o) (hne : q.val ≠ r.val)
    (s : State) : RingKept q s (Machine.doorbellProdWrite off v s) := by
  have h : RingKept q s s := RingKept.refl s
  exact doorbellAt_spares hpage hne (RingKept.ite ((h.setRing hne _).tryFetch hne) (h.dbViol hne q.isLt r.isLt 0 _))

theorem doorbellCqHeadWrite_spares {off : BitVec 22} {r q : Fin 513} {o : Nat} (v : BitVec 32) (hpage : AtPage off r o) (hne : q.val ≠ r.val)
    (s : State) : RingKept q s (Machine.doorbellCqHeadWrite off v s) := by
  have h : RingKept q s s := RingKept.refl s
  exact doorbellAt_spares hpage hne (RingKept.ite (h.setRing hne _) (h.dbViol hne q.isLt r.isLt 1 _))

theorem doorbellBadAccess_spares {off : BitVec 22} {r q : Fin 513} {o : Nat} (w : Bool) (n : Fin 4) (v : BitVec 32) (hpage : AtPage off r o)
    (hne : q.val ≠ r.val) (s : State) : RingKept q s (Machine.doorbellBadAccess off w n v s) := by
  have h : RingKept q s s := RingKept.refl s
  unfold Machine.doorbellBadAccess State.dbBadRead
  rw [(dbPage_at hpage).1]
  have hviol {u : State} (hu : RingKept q s u) (kind x : Nat) : RingKept q s (u.dbViol r kind x) := hu.dbViol hne q.isLt r.isLt kind x
  exact RingKept.ite (RingKept.ite h (RingKept.ite (hviol (h.send _) 2 0) (h.send _)))
    (RingKept.ite h (doorbellAt_spares hpage hne (hviol h 2 _)))

theorem RingKept.completeAs {d : Desc} (hne : q ≠ d.ring) (h : RingKept q s0 s) (tag op status : Nat) (res : List Byte) :
    RingKept q s0 (s.completeAs d tag op status res) := by
  have hlanded : RingKept q s0 (s.landed d) := by
    unfold State.landed State.landAt
    refine RingKept.ite (RingKept.setRing hne ?_ _) h
    exact RingKept.ite (h.trans ⟨rfl, rfl⟩) h
  unfold State.completeAs State.writeCompletion
  exact RingKept.ite hlanded (RingKept.ite ((h.mirror 0x03 _ _).trans ⟨rfl, rfl⟩)
    ((RingKept.ite ((((hlanded.send _).send _).setRing hne _).send _) (((hlanded.send _).send _).setRing hne _)).tryFetch hne))

theorem descriptorFetched_spares {r q : Fin 513} (hne : q.val ≠ r.val) (ok : Bool) (b : BitVec 512) (s : State) :
    RingKept q s (Machine.descriptorFetched r ok b s) := by
  have h : RingKept q s s := RingKept.refl s
  unfold Machine.descriptorFetched
  have hkept {u : State} (hu : RingKept q s u) (i w : Nat) : RingKept q s (u.keepHdr r i w) := by
    unfold State.keepHdr
    exact RingKept.ite (hu.trans ⟨rfl, rfl⟩) hu
  have hfailed {u : State} (hu : RingKept q s u) (i : Nat) : RingKept q s (u.fabricEvent r 0 i) :=
    (hu.bump HIF_STAT_fabric (by decide)).emit 5 5 _
  refine RingKept.ite h (RingKept.ite ?_ (RingKept.ite ((h.setRing hne _).send _) ?_))
  · exact ((((hkept (h.setRing hne _) _ _).mirror _ _ _).mirror _ _ _).tryFetch hne)
  · exact RingKept.tryFetch hne (RingKept.completeAs hne (hfailed ((h.setRing hne _).mirror _ _ _) _) _ _ _ _)

theorem ringsApart_holds : Claims.ringsApart := by
  intro r k off o v w ok n b c s t hne hpage hc h
  have hval : k.val ≠ r.val := fun e => hne (Fin.ext e)
  have hkept {f : State → State} (hf : RingKept k s (f s)) (hanswer : hubOn f s = .next t) : RingKept k s t := by
    rw [hubOn_next hanswer]
    exact RingKept.ite hf (RingKept.refl s)
  have hview : RingKept k s t := by
    simp only [List.mem_cons, List.not_mem_nil, or_false] at hc
    rcases hc with rfl | rfl | rfl | rfl
    · exact hkept (doorbellProdWrite_spares v hpage hval s) h
    · exact hkept (doorbellCqHeadWrite_spares v hpage hval s) h
    · exact hkept (doorbellBadAccess_spares w n v hpage hval s) h
    · exact hkept (descriptorFetched_spares hval ok b s) h
  exact ⟨hview.ring, hview.shown⟩

end

end Sys2Proof.Machine
end

section
/-!
PROOF. The engines' dispatch taps leave one another alone (R17, R20, R243).
-/
namespace Sys2Proof.Machine
open Sys2Proof.Claims

set_option Elab.async false

section
variable {s0 s t : State} {k j c core m : Nat}

/-- The lane of engine k and the forecast of core j are the same in both. -/
def TapKept (k j : Nat) (s t : State) : Prop := Spares (fun s => (s.lane k, s.fc j)) [] 0 s t

theorem TapKept.refl (s : State) : TapKept k j s s := Spares.refl s

theorem TapKept.ite {p : Prop} [Decidable p] (h : TapKept k j s0 s) (hu : TapKept k j s0 t) : TapKept k j s0 (if p then s else t) :=
  Spares.ite h hu

theorem TapKept.framed (h : TapKept k j s0 s) (hframe : Frame m s t) (hlanes : m.testBit 11 = false) (hfcs : m.testBit 18 = false) :
    TapKept k j s0 t :=
  Spares.trans h ⟨Prod.ext (lane_of_lanes (hframe.lanes hlanes) k) (fc_of_cores (by rw [hframe.fcs hfcs])), by simp⟩

theorem TapKept.setLane (hne : k ≠ c) (h : TapKept k j s0 s) (l : Lane) : TapKept k j s0 (s.setLane c l) :=
  Spares.trans h ⟨Prod.ext (mget_mput_ne _ _ _ hne) rfl, by simp⟩

theorem TapKept.setFc (hne : j ≠ core) (h : TapKept k j s0 s) (x : CoreFc) : TapKept k j s0 (s.setFc core x) :=
  Spares.trans h ⟨Prod.ext rfl (mget_mput_ne _ _ _ hne), by simp⟩

theorem TapKept.setObj (h : TapKept k j s0 s) (o : Nat) (x : TObj) : TapKept k j s0 (s.setObj o x) := Spares.trans h ⟨rfl, by simp⟩

theorem TapKept.bump (h : TapKept k j s0 s) (f : Fld) (i : Nat) : TapKept k j s0 (s.bump f i) := Spares.trans h ⟨rfl, by simp⟩

theorem TapKept.tapViol (h : TapKept k j s0 s) (core e seq : Nat) : TapKept k j s0 (s.tapViol core e seq) :=
  h.framed (State.tapViol_frame (Sub.refl _) (Frame.refl _ s) core e seq) rfl rfl

theorem TapKept.traceCmd (h : TapKept k j s0 s) (c : Nat) (isEnd stepped unknown : Bool) (seq rec : Nat) :
    TapKept k j s0 (s.traceCmd c isEnd stepped unknown seq rec) :=
  h.framed (State.traceCmd_frame (Sub.refl _) (Frame.refl _ s) c isEnd stepped unknown seq rec) rfl rfl

theorem TapKept.misuse (h : TapKept k j s0 s) (c kind id tag : Nat) : TapKept k j s0 (s.misuse c kind id tag) :=
  h.framed (State.misuse_frame (Sub.refl _) (Frame.refl _ s) c kind id tag) rfl rfl

theorem TapKept.refuseReq (h : TapKept k j s0 s) (c seq : Nat) : TapKept k j s0 (s.refuseReq c seq) :=
  h.framed (State.refuseReq_frame (Sub.refl _) (Frame.refl _ s) c seq) rfl rfl

theorem TapKept.showHeld (h : TapKept k j s0 s) (c : Nat) : TapKept k j s0 (s.showHeld c) :=
  h.framed (State.showHeld_frame (Sub.refl _) (Frame.refl _ s) c) rfl rfl

theorem TapKept.crossErr (h : TapKept k j s0 s) (n : Nat) : TapKept k j s0 (s.crossErr n) :=
  h.framed (State.crossErr_frame (Sub.refl _) (Frame.refl _ s) n) rfl rfl

theorem TapKept.freeObj (h : TapKept k j s0 s) (o : Nat) : TapKept k j s0 (s.freeObj o) :=
  h.framed (State.freeObj_frame (Sub.refl _) (Frame.refl _ s) o) rfl rfl

theorem TapKept.resolveCmd (hne : j ≠ core) (h : TapKept k j s0 s) (e seq : Nat) (squashed : Bool) :
    TapKept k j s0 (s.resolveCmd core e seq squashed) := by
  unfold State.resolveCmd
  refine Spares.foldl (fun u x _ => ?_) (h.setFc hne _)
  have hcounted (y : Unres) : TapKept k j u (u.countRight core y) :=
    (TapKept.refl u).framed (State.countRight_frame (Sub.refl _) (Frame.refl _ u) core y) rfl rfl
  exact TapKept.ite (TapKept.ite ((TapKept.refl u).bump ..) (TapKept.ite
    ((hcounted _).framed (State.traceFc_frame (Sub.refl _) (Frame.refl _ _) core _) rfl rfl) (hcounted _))) (TapKept.refl u)

theorem dispatch_spares {core : Fin 64} {engine : Fin 4} (hc : k ≠ chokerOf core engine) (hne : j ≠ core) (rec : BitVec 128)
    (mismatch : Bool) (s : State) : TapKept k j s (Machine.dispatch core engine rec mismatch s) := by
  have h : TapKept k j s s := Spares.refl s
  unfold Machine.dispatch State.noteDispatch
  have hnamed : TapKept k j s (if bits rec.toNat 0 2 ≠ engine then s.tapViol core engine (bits rec.toNat 16 8) else s) :=
    TapKept.ite (h.tapViol ..) h
  exact TapKept.ite h (TapKept.ite (h.crossErr 0) (TapKept.ite (hnamed.tapViol ..) (TapKept.ite (hnamed.tapViol ..)
    ((hnamed.setLane hc _).setFc hne _))))

theorem beginStrobe_spares {core : Fin 64} {engine : Fin 4} (hc : k ≠ chokerOf core engine) (hne : j ≠ core) (seq : BitVec 8) (s : State) :
    TapKept k j s (Machine.beginStrobe core engine seq s) := by
  have h : TapKept k j s s := Spares.refl s
  unfold Machine.beginStrobe
  refine TapKept.ite h ?_
  extract_lets l f seen
  have hseen : TapKept k j s seen := h.setFc hne _
  split
  · exact ((hseen.setLane hc _).tapViol ..).traceCmd ..
  · refine TapKept.ite ((hseen.tapViol ..).traceCmd ..) ?_
    have hheld {u : State} (hu : TapKept k j s u) : TapKept k j s ((u.bump TLY_VIOL_nogrant).misuse (chokerOf core engine) 4 0 seq.toNat) :=
      (hu.bump ..).misuse ..
    have hcounted {u : State} (hu : TapKept k j s u) (key n : Nat) : TapKept k j s (u.count key n) :=
      hu.framed (State.count_frame (Sub.refl _) (Frame.refl _ u) key n) rfl rfl
    exact ((hcounted (TapKept.ite (hseen.setLane hc _) (hheld (hseen.setLane hc _))) _ 1).traceCmd ..).resolveCmd hne _ _ _

theorem endStrobe_spares {core : Fin 64} {engine : Fin 4} (hc : k ≠ chokerOf core engine) (hne : j ≠ core) (seq : BitVec 8) (s : State) :
    TapKept k j s (Machine.endStrobe core engine seq s) := by
  have h : TapKept k j s s := Spares.refl s
  unfold Machine.endStrobe
  refine TapKept.ite h ?_
  extract_lets l f seen
  have hseen : TapKept k j s seen := h.setFc hne _
  split
  · exact ((hseen.setLane hc _).tapViol ..).traceCmd ..
  · extract_lets cmds ended noted traced
    have hended : TapKept k j s ended := hseen.setLane hc _
    have hnoted : TapKept k j s noted := by
      unfold noted
      split
      · exact hended.setObj ..
      · exact hended
    have htraced : TapKept k j s traced := hnoted.traceCmd ..
    exact TapKept.ite htraced (htraced.resolveCmd hne _ _ _)

theorem squashStrobe_spares {core : Fin 64} {engine : Fin 4} (hc : k ≠ chokerOf core engine) (hne : j ≠ core) (seq : BitVec 8) (s : State) :
    TapKept k j s (Machine.squashStrobe core engine seq s) := by
  have h : TapKept k j s s := Spares.refl s
  unfold Machine.squashStrobe
  refine TapKept.ite h (Spares.foldl (fun u x _ => ?_) ((h.setFc hne _).setLane hc _))
  extract_lets seqX freed l held dropped
  have hfreed : TapKept k j u freed := by
    unfold freed
    split
    · exact (TapKept.refl u).freeObj _
    · exact TapKept.refl u
  have hrefused {v : State} (hv : TapKept k j u v) : TapKept k j u (held.foldl (fun s _ => s.refuseReq (chokerOf core engine) seqX) v) :=
    Spares.foldl (fun w _ _ => (TapKept.refl w).refuseReq ..) hv
  have hdropped : TapKept k j u dropped := TapKept.ite hfreed ((hrefused (hfreed.setLane hc _)).showHeld _)
  exact hdropped.resolveCmd hne _ _ _

theorem tallyRequest_spares {core : Fin 64} {engine : Fin 4} (hc : k ≠ chokerOf core engine) (seq : BitVec 8) (coll mismatch : Bool)
    (s : State) : TapKept k j s (Machine.tallyRequest core engine seq coll mismatch s) := by
  have h : TapKept k j s s := Spares.refl s
  unfold Machine.tallyRequest
  exact TapKept.ite (h.crossErr 1) (TapKept.ite (h.refuseReq ..) ((h.setLane hc _).showHeld _))

theorem tapsApart_holds : Claims.tapsApart := by
  intro core j engine k rec seq a b c s t hc hne hmem h
  have hval : j.val ≠ core.val := fun e => hne (Fin.ext e)
  have hkept {f : State → State} (hf : TapKept k j s (f s)) (hanswer : hubOn f s = .next t) : TapKept k j s t := by
    rw [hubOn_next hanswer]
    exact TapKept.ite hf (TapKept.refl s)
  have hview : TapKept k j s t := by
    simp only [List.mem_cons, List.not_mem_nil, or_false] at hmem
    rcases hmem with rfl | rfl | rfl | rfl | rfl
    · exact hkept (dispatch_spares hc hval rec a s) h
    · exact hkept (beginStrobe_spares hc hval seq s) h
    · exact hkept (endStrobe_spares hc hval seq s) h
    · exact hkept (squashStrobe_spares hc hval seq s) h
    · exact hkept (tallyRequest_spares hc seq a b s) h
  exact ⟨congrArg Prod.fst hview.part, congrArg Prod.snd hview.part⟩

end

end Sys2Proof.Machine
end

section
/-!
PROOF. The chokers, and the droops of different cores, leave one another alone (R37, R69, R71, R79, R81).
-/
namespace Sys2Proof.Machine
open Sys2Proof.Claims

set_option Elab.async false

section
variable {s0 s t : State} {m : Nat}

/-- What a choker shows of its allowance. -/
def allowFlds : List Fld := [CHK_ALLOW_now, CHK_ALLOW_in_droop]

/-- Choker k is the same in both. -/
def ChkKept (k : Nat) (s t : State) : Prop := Spares (fun s => s.chk k) allowFlds k s t

theorem ChkKept.framed {k : Nat} (h : ChkKept k s0 s) (hframe : Frame m s t) (hchks : m.testBit 12 = false)
    (hflds : allowFlds.all (untouched m) = true) : ChkKept k s0 t :=
  Spares.framed h hframe (by simp only [State.chk, hframe.chks hchks]) hflds

theorem chokerWindow_spares {c k : Fin 320} (hne : k ≠ c) (slots : List (BitVec 8 × Fin 65)) (unk : Fin 65) (bytes : BitVec 32) (s : State) :
    ChkKept k s (Machine.chokerWindow c slots unk bytes s) := by
  have h : ChkKept k s s := Spares.refl s
  have hval : k.val ≠ c.val := fun e => hne (Fin.ext e)
  unfold Machine.chokerWindow
  refine Spares.ite h ?_
  extract_lets used taken shown counted atFloor dropped a d old now droop
  have hcount {u : State} (hu : ChkKept k s u) (key n : Nat) : ChkKept k s (u.count key n) :=
    hu.framed (State.count_frame (Sub.refl _) (Frame.refl _ u) key n) rfl (by decide +kernel)
  have htaken : ChkKept k s taken :=
    h.framed (State.takeSlots_frame (Sub.refl _) (Frame.refl _ s) c slots unk bytes) rfl (by decide +kernel)
  have hshown : ChkKept k s shown := Spares.ite
    (htaken.framed (State.laneWindow_frame (Sub.refl _) (Frame.refl _ taken) c used) rfl (by decide +kernel)) htaken
  have hcounted : ChkKept k s counted := hcount hshown _ _
  have hfloor : ChkKept k s atFloor := Spares.ite (hcount hcounted _ 1) hcounted
  have hdropped : ChkKept k s dropped := Spares.ite (hcount hfloor _ 1) hfloor
  have hnow : ChkKept k s now := Spares.wr hdropped CHK_ALLOW_now a rfl (by decide) c.isLt k.isLt hval
  have hdroop : ChkKept k s droop := Spares.wr hnow CHK_ALLOW_in_droop (b2n d) rfl (by decide) c.isLt k.isLt hval
  exact Spares.of_regs hdroop (mget_mput_ne _ _ _ hval) rfl rfl

theorem chokersApart_holds : Claims.chokersApart := by
  intro c k slots unk bytes s t hne h
  have hview : ChkKept k s t := by
    rw [hubOn_next (f := Machine.chokerWindow c slots unk bytes) h]
    exact Spares.ite (chokerWindow_spares hne slots unk bytes s) (Spares.refl s)
  exact ⟨hview.part, hview.reads CHK_ALLOW_now (by simp [allowFlds]), hview.reads CHK_ALLOW_in_droop (by simp [allowFlds])⟩

/-- Choker k, its allowance now and the droop of core j are the same in both. -/
def DroopKept (k j : Nat) (s t : State) : Prop := Spares (fun s => (s.chk k, s.droop j)) [CHK_ALLOW_now] k s t

theorem DroopKept.framed {k j : Nat} (h : DroopKept k j s0 s) (hframe : Frame m s t) (hchks : m.testBit 12 = false)
    (hdroops : m.testBit 13 = false) (hnow : untouched m CHK_ALLOW_now = true) : DroopKept k j s0 t :=
  Spares.framed h hframe (by simp only [State.chk, State.droop, hframe.chks hchks, hframe.droops hdroops])
    (by rw [List.all_cons, hnow]; rfl)

theorem DroopKept.setDroop {k j core : Nat} (hne : j ≠ core) (h : DroopKept k j s0 s) (x : Droop) : DroopKept k j s0 (s.setDroop core x) :=
  Spares.of_regs h (Prod.ext rfl (mget_mput_ne _ _ _ hne)) rfl rfl

theorem DroopKept.cutChoker {k : Fin 320} {j c : Nat} (hne : k.val ≠ c) (hc : c < 320) (h : DroopKept k j s0 s) (n : Nat) :
    DroopKept k j s0 (s.cutChoker c n) := by
  unfold State.cutChoker
  have hset {u : State} (hu : DroopKept k j s0 u) (x : Chk) : DroopKept k j s0 (u.setChk c x) :=
    Spares.of_regs hu (Prod.ext (mget_mput_ne _ _ _ hne) rfl) rfl rfl
  refine Spares.ite h (Spares.wr_sep (Spares.ite (Spares.wr (hset h _) CHK_ALLOW_now _ rfl (by decide) hc k.isLt hne) h)
    CHK_ALLOW_in_droop c 1 rfl (by decide))

theorem droopDetect_spares {core j : Fin 64} {k : Fin 320} (hj : j ≠ core) (hk : k.val / 4 ≠ core) (n : Fin 64)
    (drops : List (Fin 32 × BitVec 12)) (s : State) : DroopKept k j s (Machine.droopDetect core n drops s) := by
  have h : DroopKept k j s s := Spares.refl s
  have hval : j.val ≠ core.val := fun e => hj (Fin.ext e)
  have hcount {u : State} (hu : DroopKept k j s u) (key n : Nat) : DroopKept k j s (u.count key n) :=
    hu.framed (State.count_frame (Sub.refl _) (Frame.refl _ u) key n) rfl rfl (by decide +kernel)
  have hdetect {u : State} (hu : DroopKept k j s u) (low : Nat) : DroopKept k j s (u.detect core n low) := by
    unfold State.detect
    extract_lets mac a src held cut counted told
    have hcut : DroopKept k j s cut := Spares.foldTo (fun v e he => DroopKept.cutChoker (show k.val ≠ 4 * core.val + e by omega)
      (show 4 * core.val + e < 320 by omega) (Spares.refl v) n) (hu.setDroop hval _)
    have htold : DroopKept k j s told := Spares.emitLim (hcount (hcount hcut _ 1) _ 1) 8 1 core.val msT _ (by simp [State.chk, State.droop])
      (by decide +kernel)
    exact htold.framed (State.dvfsOnDroop_frame (Sub.refl _) (Frame.refl _ told)) rfl rfl (by decide +kernel)
  unfold Machine.droopDetect
  refine Spares.ite h ?_
  unfold State.newCmp
  extract_lets d oldOut cmp out mask masked counted live was src compared srcQ quiet
  have hcompared : DroopKept k j s compared := DroopKept.setDroop hval (hcount h _ _) _
  have hquiet : DroopKept k j s quiet := Spares.ite (hcompared.setDroop hval _) hcompared
  exact Spares.ite (hdetect hquiet _) hquiet

theorem droopsApart_holds : Claims.droopsApart := by
  intro core n j k drops s t hj hk h
  have hview : DroopKept k j s t := by
    rw [hubOn_next (f := Machine.droopDetect core n drops) h]
    exact Spares.ite (droopDetect_spares hj hk n drops s) (Spares.refl s)
  exact ⟨congrArg Prod.snd hview.part, hview.reads CHK_ALLOW_now (by simp), congrArg Prod.fst hview.part⟩

end

end Sys2Proof.Machine
end

section
/-!
PROOF. The phases leave one another alone (R44, R47, R49, R50).
-/
namespace Sys2Proof.Machine
open Sys2Proof.Claims

set_option Elab.async false

section
variable {s0 s t : State} {k : Fin 144} {p l m : Nat}

/-- What a phase shows. -/
def phFlds : List Fld := [SNS_PHQ_quality, SNS_PHQ_current]

/-- Phase k is the same in both. -/
def PhKept (k : Fin 144) (s t : State) : Prop := Spares (fun s => s.ph k) phFlds k s t

theorem PhKept.ite {p : Prop} [Decidable p] (h : PhKept k s0 s) (hu : PhKept k s0 t) : PhKept k s0 (if p then s else t) := Spares.ite h hu

theorem PhKept.framed (h : PhKept k s0 s) (hframe : Frame m s t) (hsns : m.testBit 17 = false)
    (hflds : phFlds.all (untouched m) = true) : PhKept k s0 t :=
  Spares.framed h hframe (by simp only [State.ph, hframe.sns hsns]) hflds

theorem PhKept.setPh (hne : k.val ≠ p) (h : PhKept k s0 s) (x : PhTlm) : PhKept k s0 (s.setPh p x) :=
  Spares.of_regs h (mget_mput_ne _ _ _ hne) rfl rfl

theorem PhKept.setTlane (h : PhKept k s0 s) (l : Nat) (x : TlmLane) : PhKept k s0 (s.setTlane l x) := Spares.of_regs h rfl rfl rfl

theorem PhKept.wr_sep (h : PhKept k s0 s) (f : Fld) (n v : Nat) (hf : phFlds.all (sepFld · f) = true) : PhKept k s0 (s.wr f n v) :=
  Spares.wr_sep h f n v rfl hf

theorem PhKept.emit (h : PhKept k s0 s) (unit idx : Nat) (ps : List Nat) : PhKept k s0 (s.emit unit idx ps) :=
  h.framed (State.emit_frame (Sub.refl _) (Frame.refl _ s) unit idx ps) rfl (by decide +kernel)

theorem PhKept.emitLim (h : PhKept k s0 s) (unit idx scope span : Nat) (ps : List Nat) : PhKept k s0 (s.emitLim unit idx scope span ps) :=
  h.framed (State.emitLim_frame (Sub.refl _) (Frame.refl _ s) unit idx scope span ps) rfl (by decide +kernel)

theorem PhKept.stageGroup (h : PhKept k s0 s) (g : List Nat) : PhKept k s0 (s.stageGroup g) :=
  h.framed (State.stageGroup_frame (Sub.refl _) (Frame.refl _ s) g) rfl (by decide +kernel)

theorem PhKept.refreshPh (hne : k.val ≠ p) (hp : p < 144) (h : PhKept k s0 s) : PhKept k s0 (s.refreshPh p) := by
  unfold State.refreshPh
  have hquality (v : Nat) : PhKept k s0 (s.wr SNS_PHQ_quality p v) := Spares.wr h SNS_PHQ_quality v rfl (by decide) hp k.isLt hne
  have hcurrent (v w : Nat) : PhKept k s0 ((s.wr SNS_PHQ_quality p v).wr SNS_PHQ_current p w) :=
    Spares.wr (hquality v) SNS_PHQ_current w rfl (by decide) hp k.isLt hne
  exact PhKept.ite (hcurrent _ _) (Spares.of_regs (hcurrent _ _) rfl rfl rfl)

theorem phaseStale_spares {p : Fin 144} (hne : k ≠ p) (s : State) : PhKept k s (Machine.phaseStale p s) := by
  have h : PhKept k s s := Spares.refl s
  have hval : k.val ≠ p.val := fun e => hne (Fin.ext e)
  unfold Machine.phaseStale
  exact PhKept.ite (((h.setPh hval _).emit 7 3 _).refreshPh hval p.isLt) h

theorem phaseFrozen_spares {p : Fin 144} (hne : k ≠ p) (s : State) : PhKept k s (Machine.phaseFrozen p s) := by
  have h : PhKept k s s := Spares.refl s
  have hval : k.val ≠ p.val := fun e => hne (Fin.ext e)
  unfold Machine.phaseFrozen
  exact PhKept.ite (((h.setPh hval _).emit 7 4 _).refreshPh hval p.isLt) h

theorem PhKept.stageTempCheck (h : PhKept k s0 s) : PhKept k s0 s.stageTempCheck :=
  h.framed (State.stageTempCheck_frame (Sub.refl _) (Frame.refl _ s)) rfl (by decide +kernel)

theorem phaseTempStale_spares (p : Fin 144) (s : State) : PhKept k s (Machine.phaseTempStale p s) := by
  have h : PhKept k s s := Spares.refl s
  unfold Machine.phaseTempStale
  exact PhKept.ite ((h.wr_sep SNS_PHT p _ (by decide)).stageTempCheck) h

/-! ### A lane's phases (R43 to R52) -/

/-- The phases of another lane have other numbers. -/
theorem phase_ne (hl : k.val / 8 ≠ l) {j : Nat} (hj : j < 8) : k.val ≠ 8 * l + j := by omega

theorem PhKept.missLane (hl : k.val / 8 ≠ l) (hlt : l < 18) (h : PhKept k s0 s) : PhKept k s0 (s.missLane l) := by
  unfold State.missLane
  exact Spares.foldTo (fun u j hj => PhKept.refreshPh (phase_ne hl hj) (by omega)
    (PhKept.setPh (phase_ne hl hj) (Spares.refl u) _)) h

theorem PhKept.flushPair (h : PhKept k s0 s) (l : Nat) : PhKept k s0 (s.flushPair l) := by
  unfold State.flushPair
  split
  · exact h
  · exact PhKept.ite ((h.setTlane l _).stageGroup _) (h.setTlane l _)

theorem PhKept.toHunt (hl : k.val / 8 ≠ l) (h : PhKept k s0 s) : PhKept k s0 (s.toHunt l) := by
  unfold State.toHunt
  refine PhKept.setTlane (PhKept.wr_sep (Spares.foldTo (fun u j hj => ?_) (h.flushPair l)) SNS_TLM_STAT_state l 0 (by decide)) l _
  exact PhKept.setPh (phase_ne hl hj) (Spares.refl u) _

theorem PhKept.laneDark (hl : k.val / 8 ≠ l) (hlt : l < 18) (h : PhKept k s0 s) : PhKept k s0 (s.laneDark l) := by
  unfold State.laneDark
  exact (((h.toHunt hl).setTlane l _).emit 7 1 []).missLane hl hlt

theorem PhKept.bump (h : PhKept k s0 s) (f : Fld) (i : Nat) (hf : phFlds.all (sepFld · f) = true) : PhKept k s0 (s.bump f i) :=
  h.wr_sep f i _ hf

theorem PhKept.judge (hl : k.val / 8 ≠ l) (hlt : l < 18) (h : PhKept k s0 s) (f : Nat) : PhKept k s0 (s.judge l f) := by
  unfold State.judge State.crcFail
  have hcrc (x : TlmLane) : PhKept k s0 (((s.bump SNS_TLM_STAT_crc_err l).setTlane l x).emitLim 7 5 l msT []) :=
    ((h.bump SNS_TLM_STAT_crc_err l (by decide)).setTlane l x).emitLim 7 5 l msT []
  refine PhKept.ite (PhKept.ite (((hcrc _).wr_sep SNS_TLM_STAT_degraded l 1 (by decide)).emitLim 7 9 l msT []) (hcrc _)) ?_
  extract_lets versioned n src wrong
  have hversioned : PhKept k s0 versioned := PhKept.ite ((h.bump SNS_TLM_CNT_ver_err l (by decide)).emitLim 7 7 l msT []) h
  have hwrong : PhKept k s0 wrong := ((hversioned.bump SNS_TLM_STAT_lane_err l (by decide)).setTlane l _).emitLim 7 6 l msT []
  exact PhKept.ite (PhKept.ite (hwrong.laneDark hl hlt) hwrong) (hversioned.setTlane l _)

theorem PhKept.putSample (hne : k.val ≠ p) (h : PhKept k s0 s) (t5 code : Nat) : PhKept k s0 (s.putSample p t5 code) := by
  have hadd {u : State} (hu : PhKept k s0 u) (iv sum cv : Nat) : PhKept k s0 (u.addSample p iv sum cv) := by
    unfold State.addSample
    exact PhKept.ite hu (Spares.of_regs hu rfl rfl rfl)
  unfold State.putSample
  exact (hadd (PhKept.ite (hadd h ..) h) ..).setPh hne _

theorem PhKept.sample (hl : k.val / 8 ≠ l) {slot : Nat} (hslot : slot < 8) (h : PhKept k s0 s) (T j code : Nat) :
    PhKept k s0 (s.sample l slot T j code) := by
  have hne := phase_ne hl hslot
  unfold State.sample
  extract_lets p x t5 phases run coded held limited
  have hcoded : PhKept k s0 coded := h.setPh hne _
  have hlimited : PhKept k s0 limited := PhKept.ite hcoded
    (hcoded.framed (State.limitSample_frame (Sub.refl _) (Frame.refl _ coded) p code) rfl (by decide +kernel))
  exact PhKept.ite (hlimited.putSample hne _ _) hlimited

theorem PhKept.acceptSlot (hl : k.val / 8 ≠ l) (hlt : l < 18) {slot : Nat} (hslot : slot < 8) (h : PhKept k s0 s) (f : Nat) :
    PhKept k s0 (s.acceptSlot l slot f) := by
  have hne := phase_ne hl hslot
  unfold State.acceptSlot
  extract_lets p st codes x noted before changed good chg judged src shed sampled
  have hjudged : PhKept k s0 judged := (h.wr_sep SNS_PHQ_status p st (by decide)).setPh hne _
  have hshed : PhKept k s0 shed := PhKept.ite (Spares.of_regs hjudged rfl rfl rfl) hjudged
  have hsampled : PhKept k s0 sampled := PhKept.ite hshed
    (Spares.foldTo (fun u j _ => PhKept.sample hl hslot (Spares.refl u) _ _ _) hshed)
  exact hsampled.refreshPh hne (by omega)

theorem PhKept.traceTlm (h : PhKept k s0 s) (l f : Nat) : PhKept k s0 (s.traceTlm l f) := by
  unfold State.traceTlm
  refine PhKept.ite (h.setTlane l _) ?_
  extract_lets q cs flushed
  refine PhKept.ite ((h.flushPair l).setTlane l _) ?_
  split
  · exact PhKept.ite ((h.setTlane l _).stageGroup _) ((h.flushPair l).stageGroup _)
  · exact h.stageGroup _

theorem PhKept.acceptFrame (hl : k.val / 8 ≠ l) (hlt : l < 18) (h : PhKept k s0 s) (f : Nat) : PhKept k s0 (s.acceptFrame l f) := by
  unfold State.acceptFrame
  extract_lets reserved src got slots
  have hgot : PhKept k s0 got := PhKept.setTlane (PhKept.ite (h.bump SNS_TLM_CNT_rsv_err l (by decide)) h) l _
  have hslots : PhKept k s0 slots :=
    Spares.foldTo (fun u j hj => PhKept.acceptSlot hl hlt hj (Spares.refl u) f) hgot
  have htemp : PhKept k s0 (slots.takeTemp l f) := by
    unfold State.takeTemp
    refine PhKept.stageTempCheck (PhKept.setPh (phase_ne hl ?_) (hslots.wr_sep SNS_PHT _ _ (by decide)) _)
    exact Nat.mod_lt _ (by decide)
  exact htemp.traceTlm l f

theorem PhKept.syncFrame (hl : k.val / 8 ≠ l) (hlt : l < 18) (h : PhKept k s0 s) (f0 : Nat) : PhKept k s0 (s.syncFrame l f0) := by
  unfold State.syncFrame
  have hmissed (x : TlmLane) : PhKept k s0 (s.setTlane l x) := h.setTlane l x
  have hjudged (x : TlmLane) (f : Nat) : PhKept k s0 ((s.setTlane l x).judge l f) := (hmissed x).judge hl hlt f
  have hcounted (x : TlmLane) (f : Nat) : PhKept k s0 (((s.setTlane l x).judge l f).count (cntLane l) 1) :=
    (hjudged x f).framed (State.count_frame (Sub.refl _) (Frame.refl _ _) _ 1) rfl (by decide +kernel)
  exact PhKept.ite (PhKept.ite (((hmissed _).toHunt hl).missLane hl hlt) ((hmissed _).missLane hl hlt))
    (PhKept.ite ((hjudged ..).missLane hl hlt) (PhKept.ite ((hjudged ..).acceptFrame hl hlt _)
      (PhKept.ite ((((hjudged ..).wr_sep SNS_TLM_STAT_lost l _ (by decide)).emitLim 7 8 l msT []).acceptFrame hl hlt _)
        (((hcounted ..).emitLim 7 8 l msT []).missLane hl hlt))))

theorem PhKept.huntFrame (hl : k.val / 8 ≠ l) (hlt : l < 18) (h : PhKept k s0 s) (f0 : Nat) : PhKept k s0 (s.huntFrame l f0) := by
  unfold State.huntFrame
  have hjudged (x : TlmLane) (f : Nat) : PhKept k s0 ((s.setTlane l x).judge l f) := (h.setTlane l x).judge hl hlt f
  exact PhKept.ite h ((PhKept.ite ((hjudged ..).wr_sep SNS_TLM_STAT_state l 1 (by decide)) (hjudged ..)).missLane hl hlt)

theorem tlmFrame_spares {lane : Fin 18} (hl : k.val / 8 ≠ lane) (frame : BitVec 1000) (ov : Bool) (s : State) :
    PhKept k s (Machine.tlmFrame lane frame ov s) := by
  have h : PhKept k s s := Spares.refl s
  unfold Machine.tlmFrame
  have hover : PhKept k s (s.crossOvr 11) := h.framed (State.crossOvr_frame (Sub.refl _) (Frame.refl _ s) 11) rfl (by decide +kernel)
  have hjudged (x : TlmLane) (f : Nat) : PhKept k s ((s.setTlane lane x).judge lane f) := (h.setTlane lane x).judge hl lane.isLt f
  have hlocked {u : State} (hu : PhKept k s u) (f : Nat) : PhKept k s ((u.wr SNS_TLM_STAT_state lane 2).continuity lane f) :=
    (hu.wr_sep SNS_TLM_STAT_state lane 2 (by decide)).framed (State.continuity_frame (Sub.refl _) (Frame.refl _ _) lane f) rfl
      (by decide +kernel)
  exact PhKept.ite h (PhKept.ite (hover.missLane hl lane.isLt) (PhKept.ite (h.syncFrame hl lane.isLt _)
    (PhKept.ite (PhKept.ite ((h.toHunt hl).huntFrame hl lane.isLt _) (PhKept.ite ((h.toHunt hl).missLane hl lane.isLt)
      (PhKept.ite ((hlocked (hjudged ..) _).acceptFrame hl lane.isLt _) (((hjudged ..).toHunt hl).missLane hl lane.isLt))))
      (h.huntFrame hl lane.isLt _))))

theorem tlmLaneDark_spares {lane : Fin 18} (hl : k.val / 8 ≠ lane) (s : State) : PhKept k s (Machine.tlmLaneDark lane s) := by
  have h : PhKept k s s := Spares.refl s
  unfold Machine.tlmLaneDark
  exact PhKept.ite (h.laneDark hl lane.isLt) h

theorem phasesApart_holds : Claims.phasesApart := by
  intro p k lane frame ov c s t hne hl hc h
  have hkept {f : State → State} (hf : PhKept k s (f s)) (hanswer : hubOn f s = .next t) : PhKept k s t := by
    rw [hubOn_next hanswer]
    exact PhKept.ite hf (Spares.refl s)
  have hview : PhKept k s t := by
    simp only [List.mem_cons, List.not_mem_nil, or_false] at hc
    rcases hc with rfl | rfl | rfl | rfl | rfl
    · exact hkept (phaseStale_spares hne s) h
    · exact hkept (phaseFrozen_spares hne s) h
    · exact hkept (phaseTempStale_spares p s) h
    · exact hkept (tlmFrame_spares hl frame ov s) h
    · exact hkept (tlmLaneDark_spares hl s) h
  exact ⟨hview.part, hview.reads SNS_PHQ_quality (by simp [phFlds]), hview.reads SNS_PHQ_current (by simp [phFlds])⟩

end

end Sys2Proof.Machine
end

section
/-!
PROOF. The loop contexts, the processors and the slates leave one another alone (R186, R188, R198, R318, R319, R440, R442).
-/
namespace Sys2Proof.Machine
open Sys2Proof.Claims

set_option Elab.async false

section
variable {s0 s t : State} {k n m : Nat}

/-! ### Loop contexts -/

/-- Context n is the same in both. -/
def CtxKept (n : Nat) (s t : State) : Prop := Spares (fun s => s.ctx n) [] 0 s t

theorem CtxKept.of_ctxs (h : CtxKept n s0 s) (hctxs : t.lpe.ctxs = s.lpe.ctxs) : CtxKept n s0 t :=
  Spares.trans h ⟨ctx_of_ctxs hctxs, by simp⟩

theorem CtxKept.framed (h : CtxKept n s0 s) (hframe : Frame m s t) (hlpe : m.testBit 19 = false) : CtxKept n s0 t :=
  h.of_ctxs (by rw [hframe.lpe hlpe])

theorem CtxKept.setCtx (hne : n ≠ k) (h : CtxKept n s0 s) (x : Ctx) : CtxKept n s0 (s.setCtx k x) :=
  Spares.trans h ⟨mget_mput_ne _ _ _ hne, by simp⟩

theorem CtxKept.wr (h : CtxKept n s0 s) (f : Fld) (i v : Nat) : CtxKept n s0 (s.wr f i v) := h.of_ctxs rfl

theorem evalFilt_spares {r : Rel} (hne : n ≠ r.ctx) (s : State) : CtxKept n s (s.evalFilt r) := by
  have h : CtxKept n s s := Spares.refl s
  unfold State.evalFilt
  exact (h.setCtx hne _).of_ctxs rfl

theorem evalPI_spares {r : Rel} (hne : n ≠ r.ctx) (s : State) : CtxKept n s (s.evalPI r) := by
  have h : CtxKept n s s := Spares.refl s
  unfold State.evalPI
  extract_lets g x p outr
  have hfed := h.framed (State.feedback_frame (Sub.refl _) (Frame.refl _ s) r.ctx g r.rel x p) rfl
  generalize s.feedback r.ctx g r.rel x p = fed at hfed
  obtain ⟨u, x1, run⟩ := fed
  refine CtxKept.framed ?_ (State.refreshChokers_frame (Sub.refl _) (Frame.refl _ _) _) rfl
  exact (hfed.setCtx hne _).wr _ _ _

theorem published_spares {r : Rel} (hne : n ≠ r.ctx) (late : Bool) (h : CtxKept n s0 s) : CtxKept n s0 (s.published r late) := by
  unfold State.published
  have hcounted (f : Fld) (i v : Nat) : CtxKept n s0 (s.addTo f i v).countIssued := h.of_ctxs rfl
  refine Spares.ite ?_ ((hcounted ..).setCtx hne _)
  exact (((hcounted ..).setCtx hne _).wr _ _ _).framed (State.emit_frame (Sub.refl _) (Frame.refl _ _) 13 4 _) rfl

theorem loopEvaluation_spares {r : Rel} (hhead : s.relHead = some r) (hne : n ≠ r.ctx) (late : Bool) :
    CtxKept n s (Machine.loopEvaluation late s) := by
  have h : CtxKept n s s := Spares.refl s
  unfold Machine.loopEvaluation
  split
  · next r' hr' =>
    obtain rfl := Option.some.inj (hhead.symm.trans hr')
    extract_lets src issued evaluated
    have hissued : CtxKept n s issued := h.of_ctxs rfl
    have hevaluated : CtxKept n s evaluated :=
      Spares.ite (Spares.trans hissued (evalPI_spares hne issued)) (Spares.trans hissued (evalFilt_spares hne issued))
    exact Spares.ite (published_spares hne late hevaluated) h
  · exact h

theorem loopSkip_spares {r : Rel} (hhead : s.relHead = some r) (hne : n ≠ r.ctx) : CtxKept n s (Machine.loopSkip s) := by
  have h : CtxKept n s s := Spares.refl s
  unfold Machine.loopSkip
  split
  · next r' hr' =>
    obtain rfl := Option.some.inj (hhead.symm.trans hr')
    have hskip {u : State} (hu : CtxKept n s u) : CtxKept n s (u.skipRelease r.ctx) := by
      unfold State.skipRelease
      extract_lets x run skipped src counted
      have hcounted : CtxKept n s counted := hu.of_ctxs rfl
      exact (((hcounted.setCtx hne _).wr LPE_OVR _ _).wr LPE_STAT_skips _ _)
    exact Spares.ite (hskip (h.of_ctxs rfl)) h
  · exact h

theorem contextsApart_holds : Claims.contextsApart := by
  intro r n late c s t hhead hne hc h
  have hview : CtxKept n s t := by
    simp only [List.mem_cons, List.not_mem_nil, or_false] at hc
    rcases hc with rfl | rfl
    · rw [hubOn_next (f := Machine.loopEvaluation late) h]
      exact Spares.ite (loopEvaluation_spares hhead hne late) (Spares.refl s)
    · rw [hubOn_next (f := Machine.loopSkip) h]
      exact Spares.ite (loopSkip_spares hhead hne) (Spares.refl s)
  exact hview.part

/-! ### Processors -/

/-- The state and the count of processor k, and every byte outside bank 14 + n, are the same in both. -/
structure FwKept (n k : Fin 4) (s t : State) : Prop where
  state : t.fwState k = s.fwState k
  count : t.rd FW_RCNT_count k = s.rd FW_RCNT_count k
  bytes : MemAs s t fun a => a / 2 ^ 20 ≠ 14 + n.val

section
variable {n k : Fin 4}

theorem FwKept.refl (s : State) : FwKept n k s s := ⟨rfl, rfl, fun _ _ => rfl⟩

theorem FwKept.trans (h : FwKept n k s0 s) (hu : FwKept n k s t) : FwKept n k s0 t :=
  ⟨hu.state.trans h.state, hu.count.trans h.count, fun a ha => (hu.bytes a ha).trans (h.bytes a ha)⟩

theorem FwKept.ite {p : Prop} [Decidable p] (h : FwKept n k s0 s) (hu : FwKept n k s0 t) : FwKept n k s0 (if p then s else t) := by
  split
  · exact h
  · exact hu

theorem FwKept.framed (h : FwKept n k s0 s) (hframe : Frame m s t) (hmem : m.testBit 5 = false) (hstate : untouched m FW_STAT_state = true)
    (hcount : untouched m FW_RCNT_count = true) : FwKept n k s0 t :=
  h.trans ⟨congrArg (bits · _ 2) (hframe.rd_of hstate 0), hframe.rd_of hcount k, fun a _ => by rw [hframe.mem hmem]⟩

theorem FwKept.setFw (h : FwKept n k s0 s) (x : Fw) : FwKept n k s0 (s.setFw x) := h.trans ⟨rfl, rfl, fun _ _ => rfl⟩

theorem FwKept.emit (h : FwKept n k s0 s) (unit idx : Nat) (ps : List Nat) : FwKept n k s0 (s.emit unit idx ps) :=
  h.framed (State.emit_frame (Sub.refl _) (Frame.refl _ s) unit idx ps) rfl (by decide +kernel) (by decide +kernel)

/-- Element n of a field that is not the state is written. -/
theorem FwKept.wr (hne : k ≠ n) (h : FwKept n k s0 s) (f : Fld) (v : Nat) (hcount : f.count = 4) (hstate : sepFld FW_STAT_state f = true)
    (hapart : apartFld FW_RCNT_count f = true) : FwKept n k s0 (s.wr f n v) :=
  h.trans ⟨congrArg (bits · _ 2) (State.rd_wr_sep _ _ _ _ _ _ hstate),
    State.rd_wr_key _ _ _ _ _ _ (apartFld_ne hapart (by rw [hcount]; exact n.isLt) (by rw [hcount]; exact k.isLt)
      (fun e => hne (Fin.ext e))), fun _ _ => rfl⟩

theorem FwKept.setFwState (hne : k ≠ n) (h : FwKept n k s0 s) {v : Nat} (hv : v < 4) : FwKept n k s0 (s.setFwState n v) := by
  refine h.trans ⟨?_, State.rd_wr_sep _ _ _ _ _ _ (by decide), fun _ _ => rfl⟩
  unfold State.fwState State.setFwState
  rw [State.rd_wr_same]
  exact bits_other_group (c := 2) (width := 8) _ v hv (by omega) (fun e => hne (Fin.ext e))

theorem FwKept.clearBank (h : FwKept n k s0 s) : FwKept n k s0 (s.clearBank (14 + n)) := by
  refine h.trans ⟨rfl, rfl, fun a ha => ?_⟩
  refine (memRead_filter s.mem bankDefault (fun q => decide (q / 2 ^ 20 ≠ 14 + n.val)) a).trans ?_
  rw [if_pos (decide_eq_true ha)]

theorem FwKept.fwAbsent (h : FwKept n k s0 s) : FwKept n k s0 (s.fwAbsent n) :=
  h.framed (State.fwAbsent_frame (Sub.refl _) (Frame.refl _ s) n) rfl (by decide +kernel) (by decide +kernel)

theorem FwKept.fwRestart (hne : k ≠ n) (h : FwKept n k s0 s) (cause : Nat) : FwKept n k s0 (s.fwRestart n cause) := by
  have hstart (cause : Nat) (recent : List Nat) : FwKept n k s0 (s.fwStart n cause recent) := by
    unfold State.fwStart
    extract_lets src timed counted told crossed cleared marked
    have hcounted : FwKept n k s0 counted :=
      ((((h.setFw _).setFwState hne (by decide)).wr hne FW_RCNT_count _ rfl (by decide) (by decide)).wr hne FW_RCNT_cause cause rfl (by decide)
        (by decide))
    have hcleared : FwKept n k s0 cleared := (((hcounted.emit 4 1 _).emit 1 3 _).fwAbsent).clearBank
    have hmarked : FwKept n k s0 marked := hcleared.trans ⟨congrArg (bits · _ 2) (State.rd_wr_sep _ _ _ _ _ _ (by decide)),
      State.rd_wr_sep _ _ _ _ _ _ (by decide), fun _ _ => rfl⟩
    exact FwKept.ite (hmarked.setFw _) (hmarked.setFw _)
  unfold State.fwRestart
  exact FwKept.ite (FwKept.ite ((((h.setFwState hne (by decide)).wr hne FW_RCNT_cause _ rfl (by decide) (by decide)).emit 4 4 _).fwAbsent)
    (hstart ..)) (FwKept.ite (hstart ..) h)

theorem processorsApart_holds : Claims.processorsApart := by
  intro n k ecc c s t hne hc h
  have hview : FwKept n k s t := by
    simp only [List.mem_cons, List.not_mem_nil, or_false] at hc
    rcases hc with rfl | rfl
    · rw [hubOn_next (f := Machine.fwException n ecc) h]
      exact FwKept.ite ((FwKept.refl s).fwRestart hne _) (FwKept.refl s)
    · rw [hubOn_next (f := Machine.watchdogExpire n) h]
      exact FwKept.ite (FwKept.ite ((FwKept.refl s).fwRestart hne 1) (FwKept.refl s)) (FwKept.refl s)
  exact ⟨hview.state, hview.count, hview.bytes⟩

end

/-! ### Slates -/

/-- Slate k is the same in both. -/
def SlateKept (k : Nat) (s t : State) : Prop := Spares (fun s => s.slate k) [] 0 s t

theorem SlateKept.framed (h : SlateKept k s0 s) (hframe : Frame m s t) (hslt : m.testBit 30 = false) : SlateKept k s0 t :=
  Spares.trans h ⟨slate_of_slt (hframe.slt hslt) k, by simp⟩

theorem stageWrite_spares (hne : k ≠ n) (h : SlateKept k s0 s) (table idx len : Nat) (data : List Byte) :
    SlateKept k s0 (s.stageWrite n table idx len data).1 := by
  unfold State.stageWrite
  dsimp only
  split
  · exact h
  · next v i words _ =>
    split
    · exact h
    · split
      · exact h
      · refine SlateKept.framed ?_ (State.showSlates_frame (Sub.refl _) (Frame.refl _ _)) rfl
        refine Spares.trans ?_ ⟨mget_mput_ne _ _ _ hne, by simp⟩
        unfold State.holdThm
        have hheld (u : State) (hu : u.slt = s.slt) : SlateKept k s0 u := Spares.trans h ⟨slate_of_slt hu k, by simp⟩
        exact Spares.ite (Spares.ite h (hheld _ rfl)) h

theorem slateWrite_spares (data : List Byte) (d : Desc) (hne : k ≠ dB d.w 8 2 % 8) (s : State) :
    SlateKept k s (Machine.slateWrite data d s) := by
  have h : SlateKept k s s := Spares.refl s
  have hcomplete {u : State} (hu : SlateKept k s u) (status : Nat) : SlateKept k s (u.complete d status []) :=
    hu.framed (State.complete_frame (Sub.refl _) (Frame.refl _ u) d status []) rfl
  unfold Machine.slateWrite
  dsimp only
  split
  · exact hcomplete h _
  · next n hn =>
    have hn' : n = dB d.w 8 2 % 8 := by
      unfold State.slateOf at hn
      dsimp only at hn
      split at hn
      · exact (Option.some.inj hn).symm
      · exact absurd hn (by simp)
    refine Spares.ite (hcomplete h _) (hcomplete ?_ _)
    have hread (b : Bool) (o : Out) : SlateKept k s (if b then s.send o else s) := Spares.ite (Spares.trans h ⟨rfl, by simp⟩) h
    have hstaged (b : Bool) (o : Out) (table idx len : Nat) (bs : List Byte) :
        SlateKept k s ((if b then s.send o else s).stageWrite n table idx len bs).1 :=
      stageWrite_spares (hn' ▸ hne) (hread b o) table idx len bs
    exact Spares.ite ((hstaged ..).framed (State.mirrorWrite_frame (Sub.refl _) (Frame.refl _ _) _ _ _ _ _) rfl) (hread ..)

theorem slatesApart_holds : Claims.slatesApart := by
  intro data d k s t hturn hne h
  have hview : SlateKept k s t := by
    rw [hubOn_next (f := fun s => s.runOpcode 0x11 (Machine.slateWrite data)) h, runOpcode_inTurn _ hturn]
    have hpicked : SlateKept k s (picked s d) := Spares.trans (Spares.refl s) ⟨rfl, by simp⟩
    exact Spares.ite (Spares.trans hpicked (slateWrite_spares data d hne _)) (Spares.refl s)
  exact hview.part

end

/-- Settles O52. -/
theorem apart : Obligations.Apart :=
  ⟨fansApart_holds, ringsApart_holds, tapsApart_holds, chokersApart_holds, droopsApart_holds, phasesApart_holds, contextsApart_holds,
    processorsApart_holds, slatesApart_holds⟩

end Sys2Proof.Machine
end

section
/-!
PROOF. A write to sticky flags (R11) in a state whose registers hold more than their fields' widths.
-/
namespace Sys2Proof.Machine
open Sys2Proof.Claims

set_option Elab.async false

/-- A running block whose MEM_VIOL.master, 4 bits wide, holds 16. No command stores such a value, as State.wr cuts what it writes to the
field's width; the claims are about every state. -/
def overwide : State :=
  { State.reset with running := true, rst := { config := true }, regs := [(MEM_VIOL_master.keyOf 0, 16)] }

/-- The write of valid alone cuts the value of master, which lies in the same word, to its 4 bits. -/
theorem overwide_written :
    (Machine.w1cWrite true (BitVec.ofNat 22 (MEM_VIOL_valid.key / 32 * 4)) 0x80000000 0 overwide).rd MEM_VIOL_master = 0 := by
  decide +kernel

/-- A write of 1 to valid does not leave bit 4 of master there. -/
theorem not_w1cWrite : ¬ Claims.w1cWrite := by
  intro h
  obtain ⟨t, hnext, -, hkept⟩ := h 0x80000000 overwide rfl (by decide +kernel) (by decide)
  have hmaster : t.rd MEM_VIOL_master = 0 := by
    rw [hubOn_next (f := Machine.w1cWrite true _ 0x80000000 0) hnext, if_pos (show overwide.running = true from rfl)]
    exact overwide_written
  have hbit := hkept 4 (by decide)
  rw [hmaster] at hbit
  exact absurd hbit (by decide +kernel)

/-- Refutes O32: its clause (7) fails in a state whose MEM_VIOL.master holds 16, more than its 4 bits: the write that clears valid cuts
master to its width, and bit 4 of it, which the written word leaves 0, goes from 1 to 0. -/
theorem not_registerAccess : ¬ Obligations.RegisterAccess := by
  intro h
  obtain ⟨-, -, -, -, -, -, hw1c, -⟩ := h
  exact not_w1cWrite hw1c

end Sys2Proof.Machine
end

section
/-!
PROOF. Watchdogs, restarts and loads of the firmware, and model loads (R108 to R113, R417, R434 to R444).
-/
namespace Sys2Proof.Machine
open Sys2Proof.Claims

set_option Elab.async false

section
variable {s t u : State} {d : Desc}

/-! ### A processor's bits -/

/-- A bit set in a word cut to its width reads as what it was set to. -/
theorem bit_setBit_same (x : Nat) {n width : Nat} (b : Bool) (hn : n < width) : bit (setBit x n b % 2 ^ width) n = b := by
  have hmod : bits (setBit x n b % 2 ^ width) n 1 = bits (setBit x n b) n 1 := bits_mod _ hn
  have hset : bits (setBit x n b) n 1 = if b then 1 else 0 := by
    have hpos : 0 < 2 ^ n := Nat.two_pow_pos n
    have hlow : x % 2 ^ n < 2 ^ n := Nat.mod_lt _ hpos
    unfold bits setBit
    have hsplit : x / 2 ^ (n + 1) * 2 ^ (n + 1) + (if b then 2 ^ n else 0) + x % 2 ^ n =
        (2 * (x / 2 ^ (n + 1)) + if b then 1 else 0) * 2 ^ n + x % 2 ^ n := by
      rw [Nat.pow_succ, Nat.add_mul]
      cases b
      · simp [Nat.mul_comm, Nat.mul_left_comm, Nat.mul_assoc]
      · simp [Nat.mul_comm, Nat.mul_left_comm, Nat.mul_assoc]
    rw [hsplit, Nat.add_comm, Nat.add_mul_div_right _ _ hpos, Nat.div_eq_of_lt hlow, Nat.zero_add, Nat.pow_one, Nat.mul_add_mod]
    cases b
    · rfl
    · rfl
  unfold bits at hmod hset
  unfold bit
  rw [Nat.pow_one] at hmod hset
  rw [hmod, hset]
  cases b
  · rfl
  · rfl

theorem fwState_setFwState (s : State) (n : Fin 4) {v : Nat} (hv : v < 4) : (s.setFwState n v).fwState n = v := by
  unfold State.fwState State.setFwState
  rw [State.rd_wr_same]
  exact bits_same_group (c := 2) (width := 8) _ hv (by omega)

theorem fwState_of_rd (h : t.rd FW_STAT_state = s.rd FW_STAT_state) (n : Nat) : t.fwState n = s.fwState n := congrArg (bits · _ 2) h

theorem fwState_of_running {n : Nat} (h : s.fwRunning n = true) : s.fwState n = 2 := of_decide_eq_true h

/-! ### Watchdogs and restarts (R439 to R444) -/

theorem watchdogStrike_answers : Claims.watchdogStrike := by
  intro n s hrun hfw
  refine Answers.hub rfl hrun ?_
  unfold Machine.watchdogStrike
  rw [if_pos hfw]
  exact ⟨mget_mput_same _ _ _ _, rfl, rfl⟩

theorem mem_queueLoad (q : List Nat) (n : Nat) : n ∈ queueLoad q n := by
  have hins (l : List Nat) : n ∈ insLoad n l := by
    induction l with
    | nil => exact List.mem_singleton.2 rfl
    | cons m l ih =>
      unfold insLoad
      split
      · exact List.mem_cons_self
      · exact List.mem_cons_of_mem _ ih
  cases q with
  | nil => exact List.mem_singleton.2 rfl
  | cons m q => exact List.mem_cons_of_mem _ (hins q)

/-- What a restart of processor n leaves. -/
theorem fwStart_effect (s : State) (n : Fin 4) {cause : Nat} (hcause : cause < 16) (recent : List Nat) :
    (s.fwStart n cause recent).fwState n = 1 ∧ (s.fwStart n cause recent).rd FW_RCNT_cause n = cause ∧
      (s.fwStart n cause recent).rd FW_RCNT_count n = (s.rd FW_RCNT_count n + 1) % 2 ^ FW_RCNT_count.width ∧
      n.val ∈ (s.fwStart n cause recent).fw.loads ∧ (s.fwStart n cause recent).clearing (14 + n) = true ∧
      (∀ o < 2 ^ 20, memRead (s.fwStart n cause recent).mem bankDefault (bankAddr (14 + n) o) = 0) ∧
      Recorded s (s.fwStart n cause recent) 4 1 [n, cause, recent.length + 1] := by
  unfold State.fwStart
  extract_lets src timed counted told crossed cleared marked
  have hstate : counted.fwState n = 1 := by
    refine (fwState_of_rd ?_ n).trans (fwState_setFwState timed n (by decide))
    exact (State.rd_wr_sep _ _ _ _ _ _ (by decide)).trans (State.rd_bump_sep _ _ _ _ _ (by decide))
  have hcauseShown : counted.rd FW_RCNT_cause n = cause := (State.rd_wr_same ..).trans (Nat.mod_eq_of_lt hcause)
  have hcount : counted.rd FW_RCNT_count n = (s.rd FW_RCNT_count n + 1) % 2 ^ FW_RCNT_count.width := by
    refine (State.rd_wr_sep _ _ _ _ _ _ (by decide)).trans ((State.rd_bump_same ..).trans ?_)
    exact congrArg (fun v => (v + 1) % 2 ^ FW_RCNT_count.width) (State.rd_wr_sep timed _ _ _ _ _ (by decide))
  have hframe : Frame (State.emit_foot ||| State.fwAbsent_foot) counted (crossed.fwAbsent n) :=
    State.fwAbsent_frame (show _ &&& _ = _ by decide) (State.emit_frame (show _ &&& _ = _ by decide)
      (State.emit_frame (show _ &&& _ = _ by decide) (Frame.refl _ counted) ..) ..) n
  have hrd (f : Fld) (hf : untouched (State.emit_foot ||| State.fwAbsent_foot) f = true) (hm : sepFld f MEM_STAT_clearing = true)
      (i : Nat) : marked.rd f i = counted.rd f i := (State.rd_wr_sep _ _ _ _ _ _ hm).trans (hframe.rd_of hf i)
  have hrecorded : Recorded s marked 4 1 [n, cause, recent.length + 1] := by
    have htold : Recorded s told 4 1 [n, cause, recent.length + 1] := (State.emit_recorded counted 4 1 _).before rfl rfl
    have habsent := Recorded.framed (htold.framed (State.emit_frame (Sub.refl _) (Frame.refl _ told) 1 3 [3, 2]) rfl)
      (State.fwAbsent_frame (Sub.refl _) (Frame.refl _ crossed) n) rfl
    exact habsent.after rfl
  have hbytes (o : Nat) (ho : o < 2 ^ 20) : memRead marked.mem bankDefault (bankAddr (14 + n) o) = 0 := by
    refine (memRead_filter (crossed.fwAbsent n).mem bankDefault (fun q => decide (q / 2 ^ 20 ≠ 14 + n.val)) _).trans ?_
    rw [if_neg (by unfold bankAddr; simp only [decide_eq_true_eq]; omega)]
    rfl
  have hclearing : marked.clearing (14 + n) = true := by
    unfold State.clearing
    rw [show marked.rd MEM_STAT_clearing = _ from State.rd_wr_same ..]
    exact bit_setBit_same _ true (show 14 + n.val < 18 by omega)
  have hfinal (x : Fw) (hx : n.val ∈ x.loads) : (marked.setFw x).fwState n = 1 ∧ (marked.setFw x).rd FW_RCNT_cause n = cause ∧
      (marked.setFw x).rd FW_RCNT_count n = (s.rd FW_RCNT_count n + 1) % 2 ^ FW_RCNT_count.width ∧
      n.val ∈ (marked.setFw x).fw.loads ∧ (marked.setFw x).clearing (14 + n) = true ∧
      (∀ o < 2 ^ 20, memRead (marked.setFw x).mem bankDefault (bankAddr (14 + n) o) = 0) ∧
      Recorded s (marked.setFw x) 4 1 [n, cause, recent.length + 1] :=
    ⟨(fwState_of_rd (hrd FW_STAT_state (by decide +kernel) (by decide) 0) n).trans hstate,
      (hrd FW_RCNT_cause (by decide +kernel) (by decide) n).trans hcauseShown,
      (hrd FW_RCNT_count (by decide +kernel) (by decide) n).trans hcount, hx, hclearing, hbytes, hrecorded⟩
  split
  · exact hfinal _ (List.mem_singleton.2 rfl)
  · exact hfinal _ (mem_queueLoad _ n)

theorem fwCause_of_ne {n cause : Nat} (h : cause ≠ 4) : s.fwCause n cause = cause := if_neg fun e => h e.2.1

theorem fwRestart_starts {n : Fin 4} {cause : Nat} (hfw : s.fwRunning n = true) (hcause : cause ≠ 4)
    (hfew : ((mget s.fw.times n []).filter fun t => decide (s.ts < t + secT)).length < 4) :
    s.fwRestart n cause = s.fwStart n cause ((mget s.fw.times n []).filter fun t => decide (s.ts < t + secT)) := by
  unfold State.fwRestart
  rw [fwCause_of_ne hcause]
  dsimp only
  rw [if_pos (fwState_of_running hfw), if_neg (Nat.not_le.2 hfew)]

theorem watchdogExpire_answers : Claims.watchdogExpire := by
  intro n s hrun hfw hdue hfew
  refine Answers.hub rfl hrun ?_
  have hrestart : Machine.watchdogExpire n s = s.fwRestart n 1 :=
    if_pos (Bool.and_eq_true_iff.2 ⟨hfw, decide_eq_true hdue⟩)
  obtain ⟨hstate, hcause, hcount, hload, hclearing, -, hrecorded⟩ := fwStart_effect s n (cause := 1) (by decide)
    ((mget s.fw.times n []).filter fun t => decide (s.ts < t + secT))
  rw [hrestart, fwRestart_starts hfw (by decide) hfew]
  exact ⟨hstate, hcause, hcount, hload, hclearing, hrecorded⟩

theorem fwException_answers : Claims.fwException := by
  intro n ecc s hrun hfw hfew
  refine Answers.hub rfl hrun ?_
  obtain ⟨hstate, hcause, -, -, hclearing, hbytes, -⟩ := fwStart_effect s n (cause := if ecc then 3 else 2) (by cases ecc <;> decide)
    ((mget s.fw.times n []).filter fun t => decide (s.ts < t + secT))
  unfold Machine.fwException
  rw [fwRestart_starts hfw (by cases ecc <;> decide) hfew]
  exact ⟨hstate, hcause, hbytes, hclearing⟩

theorem fwHalt_answers : Claims.fwHalt := by
  intro n ecc s hrun hfw hmany
  refine Answers.hub rfl hrun ?_
  unfold Machine.fwException State.fwRestart
  rw [fwCause_of_ne (show (if ecc then 3 else 2) ≠ 4 by cases ecc <;> decide)]
  dsimp only
  rw [if_pos (fwState_of_running hfw), if_pos hmany]
  generalize hcause : (if ecc then 3 else 2) = cause
  have hframe := State.fwAbsent_frame (m := State.emit_foot ||| State.fwAbsent_foot) (show _ &&& _ = _ by decide)
    (State.emit_frame (show _ &&& _ = _ by decide) (Frame.refl _ ((s.setFwState n 3).wr FW_RCNT_cause n cause)) 4 4 [n, cause]) n
  refine ⟨(fwState_of_rd (hframe.rd_of (by decide +kernel) 0) n).trans ?_, ?_⟩
  · exact (fwState_of_rd (State.rd_wr_sep _ _ _ _ _ _ (by decide)) n).trans (fwState_setFwState s n (by decide))
  · exact Recorded.framed (Recorded.before (State.emit_recorded ((s.setFwState n 3).wr FW_RCNT_cause n cause) 4 4 _) rfl rfl)
      (State.fwAbsent_frame (Sub.refl _) (Frame.refl _ _) n) rfl

/-! ### Images (R436, R437) -/

theorem imgCheck_of_rd (h : ∀ i, t.rd FW_FUSE_d i = s.rd FW_FUSE_d i) (n : Nat) (img : List Byte) (ok : Bool) :
    t.imgCheck n img ok = s.imgCheck n img ok := by
  unfold State.imgCheck State.fusedDigest
  simp only [h]

/-- An image of processor n has been read: its digest is shown where its header is whole. -/
def State.imageRead (s : State) (n : Nat) (img : List Byte) : State := if imgHdrOk n img then s.showDigest n img else s

theorem imageRead_frame (s : State) (n : Nat) (img : List Byte) : Frame State.showDigest_foot s (s.imageRead n img) := by
  unfold State.imageRead
  split
  · exact State.showDigest_frame (Sub.refl _) (Frame.refl _ s) ..
  · exact Frame.refl _ s

theorem imgCheck_imageRead (s : State) (n : Nat) (img : List Byte) (ok : Bool) :
    (s.imageRead n img).imgCheck n img ok = s.imgCheck n img ok :=
  imgCheck_of_rd (fun i => (imageRead_frame s n img).rd_of (by decide +kernel) i) n img ok

section
variable {n : Fin 4} {img : List Byte} (hrun : s.running = true) (hload : s.fw.loads.head? = some n.val)
  (hclear : s.clearing (14 + n.val) = false) (hops : s.nvm.ops = []) (hport : s.nvm.portHigh = false)
  (himg : s.readFlash (imageAddr s.fw.copyB n) 0x80000 = img)
include hrun hload hclear hops hport himg

/-- With its bank clear and the flash at rest an image whose checks pass starts its processor; the last of the four ends the stage. -/
theorem fwImageLoaded_passes (hcheck : s.imgCheck n img true = none) :
    Machine.fwImageLoaded n true s = (s.imageRead n img).imgPass n img ∨
      Machine.fwImageLoaded n true s = ((s.imageRead n img).imgPass n img).wr RST_SEQ_stage 0 2 := by
  unfold Machine.fwImageLoaded
  rw [himg]
  extract_lets busy img' readOk shown passed
  rw [if_neg (by simp [hload, hclear, hops, hrun, busy])]
  have hread : readOk = true := by simp [readOk, hport]
  have hshown : shown = s.imageRead n img := by
    unfold shown State.imageRead
    rw [hread, Bool.true_and]
  rw [← hshown]
  split
  · exact ite_eq_or_eq .. |>.symm
  · next c h =>
    rw [hshown, hread, imgCheck_imageRead] at h
    exact absurd (hcheck.symm.trans h) (by simp)

/-- One that fails a check goes on to copy B, or fails for good. -/
theorem fwImageLoaded_fails {c : Nat} (hcheck : s.imgCheck n img true = some c) :
    Machine.fwImageLoaded n true s = if (s.imageRead n img).fw.copyB then (s.imageRead n img).imgFail n c
      else (s.imageRead n img).setFw { (s.imageRead n img).fw with copyB := true, failA := c } := by
  unfold Machine.fwImageLoaded
  rw [himg]
  extract_lets busy img' readOk shown passed
  rw [if_neg (by simp [hload, hclear, hops, hrun, busy])]
  have hread : readOk = true := by simp [readOk, hport]
  have hshown : shown = s.imageRead n img := by
    unfold shown State.imageRead
    rw [hread, Bool.true_and]
  rw [← hshown]
  split
  · next h =>
    rw [hshown, hread, imgCheck_imageRead] at h
    exact absurd (hcheck.symm.trans h) (by simp)
  · next c' h =>
    rw [hshown, hread, imgCheck_imageRead] at h
    obtain rfl := Option.some.inj (hcheck.symm.trans h)
    show (if shown.fw.copyB then shown.imgFail n c else shown.setFw { shown.fw with copyB := true, failA := c }) = _
    rw [hshown]

end

/-- A processor's return leaves the queue of loads. -/
theorem loads_fwReturn (s : State) (n : Nat) : (s.fwReturn n).fw.loads = s.fw.loads := by
  unfold State.fwReturn
  extract_lets freed mine src left answered
  have hfreed : freed.fw = s.fw := by
    unfold freed
    split
    · exact (State.abandonOpen_frame (Sub.refl _) (Frame.refl _ s)).fw rfl
    · rfl
  have hanswered : answered.fw.loads = s.fw.loads := by
    have hlost : answered.fw = left.fw :=
      (Frame.foldl (m := State.completeLost_foot) (Frame.refl _ left) (fun _ d h => State.completeLost_frame (Sub.refl _) h d)).fw rfl
    rw [hlost]
    exact (show freed.fw.loads = s.fw.loads by rw [hfreed])
  split
  · exact (congrArg Fw.loads ((reconciliation_frame (Sub.refl _) (Frame.refl _ answered) _ _ _ _ _).fw rfl)).trans hanswered
  · split
    · exact (congrArg Fw.loads ((State.nvmFwReturn_frame (Sub.refl _) (Frame.refl _ answered)).fw rfl)).trans hanswered
    · exact hanswered

/-- What an image that passes leaves. -/
theorem imgPass_effect (s : State) (n : Fin 4) (img : List Byte) :
    (s.imgPass n img).fwState n = 2 ∧ (s.imgPass n img).rd FW_VER_version n = fieldAt img 8 4 % 2 ^ FW_VER_version.width ∧
      (s.imgPass n img).rd FW_LEN_length n = fieldAt img 12 4 % 2 ^ FW_LEN_length.width ∧
      (s.imgPass n img).fw.loads = s.fw.loads.drop 1 ∧ bit ((s.imgPass n img).rd FW_STAT_copy) n = s.fw.copyB := by
  unfold State.imgPass
  extract_lets copyB len copied shown src struck rewritten
  have hframe : Frame (State.emit_foot ||| State.imageRewrite_foot) struck rewritten := Frame.ite
    (State.imageRewrite_frame (show _ &&& _ = _ by decide) (State.emit_frame (show _ &&& _ = _ by decide) (Frame.refl _ struck) ..) n)
    (Frame.refl _ struck)
  have hreturn := State.fwReturn_frame (Sub.refl _) (Frame.refl _ rewritten) n
  have hrd (f : Fld) (h : untouched (State.emit_foot ||| State.imageRewrite_foot) f = true) (h' : untouched State.fwReturn_foot f = true)
      (i : Nat) : ((rewritten.fwReturn n).nextLoad).rd f i = shown.rd f i := (hreturn.rd_of h' i).trans (hframe.rd_of h i)
  have hcopied : bit (copied.rd FW_STAT_copy) n = copyB := by
    rw [show copied.rd FW_STAT_copy = _ from State.rd_wr_same ..]
    exact bit_setBit_same _ copyB (show n.val < 4 from n.isLt)
  refine ⟨?_, ?_, ?_, ?_, ?_⟩
  · exact (fwState_of_rd (hrd FW_STAT_state (by decide +kernel) (by decide +kernel) 0) n).trans (fwState_setFwState _ n (by decide))
  · rw [hrd FW_VER_version (by decide +kernel) (by decide +kernel) n]
    exact (State.rd_wr_sep _ _ _ _ _ _ (by decide)).trans ((State.rd_wr_sep _ _ _ _ _ _ (by decide)).trans (State.rd_wr_same ..))
  · rw [hrd FW_LEN_length (by decide +kernel) (by decide +kernel) n]
    exact (State.rd_wr_sep _ _ _ _ _ _ (by decide)).trans (State.rd_wr_same ..)
  · show (rewritten.fwReturn n).fw.loads.drop 1 = s.fw.loads.drop 1
    rw [loads_fwReturn, hframe.fw (by decide)]
    rfl
  · rw [hrd FW_STAT_copy (by decide +kernel) (by decide +kernel) 0]
    refine Eq.trans ?_ hcopied
    exact congrArg (bit · _) ((State.rd_wr_sep _ _ _ _ _ _ (by decide)).trans ((State.rd_wr_sep _ _ _ _ _ _ (by decide)).trans
      (State.rd_wr_sep _ _ _ _ _ _ (by decide))))

theorem fwImageLoaded_answers : Claims.fwImageLoaded := by
  intro n s hrun hload hclear hops hport hcheck
  refine Answers.hub rfl hrun ?_
  generalize himg : s.readFlash (imageAddr s.fw.copyB n) 0x80000 = img at hcheck ⊢
  obtain ⟨hstate, hver, hlen, hloads, hcopy⟩ := imgPass_effect (s.imageRead n img) n img
  rw [(imageRead_frame s n img).fw rfl] at hloads hcopy
  rcases fwImageLoaded_passes hrun hload hclear hops hport himg hcheck with h | h
  · rw [h]
    exact ⟨hstate, hver, hlen, hloads, hcopy⟩
  · rw [h]
    generalize (s.imageRead n img).imgPass n img = u at hstate hver hlen hloads hcopy
    have hrd (f : Fld) (hf : sepFld f RST_SEQ_stage = true) (i : Nat) : (u.wr RST_SEQ_stage 0 2).rd f i = u.rd f i :=
      State.rd_wr_sep _ _ _ _ _ _ hf
    exact ⟨(fwState_of_rd (hrd FW_STAT_state (by decide) 0) n).trans hstate, (hrd _ (by decide) n).trans hver,
      (hrd _ (by decide) n).trans hlen, hloads, (congrArg (bit · _) (hrd FW_STAT_copy (by decide) 0)).trans hcopy⟩

theorem fwImageCopyB_answers : Claims.fwImageCopyB := by
  intro n c s hrun hload hclear hops hport hcopy hcheck
  refine Answers.hub rfl hrun ?_
  rw [← hcopy] at hcheck
  generalize himg : s.readFlash (imageAddr s.fw.copyB n) 0x80000 = img at hcheck ⊢
  have hframe := imageRead_frame s n img
  rw [fwImageLoaded_fails hrun hload hclear hops hport himg hcheck, if_neg (by rw [hframe.fw rfl, hcopy]; decide), hframe.fw rfl]
  generalize s.imageRead n img = u at hframe
  exact ⟨rfl, rfl, fwState_of_rd (hframe.rd_of (by decide +kernel) 0) n⟩

/-- A load that fails for good halts its processor. -/
theorem imgFail_effect (s : State) (n : Fin 4) (c : Nat) : (s.imgFail n c).fwState n = 3 ∧ Recorded s (s.imgFail n c) 4 3 [n, c] := by
  unfold State.imgFail
  extract_lets failed src
  have hfailed : failed.fwState n = 3 ∧ Recorded s failed 4 3 [n, c] := by
    refine ⟨(fwState_of_rd ?_ n).trans (fwState_setFwState s n (by decide)),
      (State.emit_recorded (s.setFwState n 3) 4 3 _).before rfl rfl⟩
    exact (State.emit_frame (Sub.refl _) (Frame.refl _ (s.setFwState n 3)) 4 3 [n, c]).rd_of (by decide +kernel) 0
  have hstage := State.stageFail_frame (Sub.refl _) (Frame.refl _ (failed.wr RST_SEQ_image 0 n)) 1 n
  split
  · have hnoted : Recorded s (failed.wr RST_SEQ_image 0 n) 4 3 [n, c] := hfailed.2.after rfl
    refine ⟨(fwState_of_rd ?_ n).trans hfailed.1, (hnoted.framed hstage rfl).after rfl⟩
    exact (hstage.rd_of (f := FW_STAT_state) (by decide +kernel) 0).trans (State.rd_wr_sep _ _ _ _ _ _ (by decide))
  · exact ⟨hfailed.1, hfailed.2.after rfl⟩

theorem fwImageHalted_answers : Claims.fwImageHalted := by
  intro n c s hrun hload hclear hops hport hcopy hcheck
  refine Answers.hub rfl hrun ?_
  have hcheckB : s.imgCheck n (s.readFlash (imageAddr s.fw.copyB n) 0x80000) true = some c := by rw [hcopy]; exact hcheck
  generalize himg : s.readFlash (imageAddr s.fw.copyB n) 0x80000 = img at hcheckB
  have hframe := imageRead_frame s n img
  rw [fwImageLoaded_fails hrun hload hclear hops hport himg hcheckB, if_pos (by rw [hframe.fw rfl, hcopy])]
  obtain ⟨hstate, hrecorded⟩ := imgFail_effect (s.imageRead n img) n c
  exact ⟨hstate, hrecorded.before (hframe.recd rfl) (hframe.ts rfl)⟩

/-! ### Loads of the forecast's models (R108 to R113) -/

/-- The image as the checks see it, cut or filled up to its length. -/
def imgWhole (img : List Byte) : List Byte := (img ++ List.replicate 12992 0).take 12992

theorem imgWhole_of_length {img : List Byte} (h : img.length = 12992) : imgWhole img = img := by
  unfold imgWhole
  rw [← h]
  exact List.take_left

/-- What a die's own checks of a load give. -/
def ownStatus (len : Nat) (ok : Bool) (img : List Byte) : Nat :=
  let c := if ok then fitCheck (imgWhole img) len else 3
  if c = 0 then 0 else 0x0200 + c - 1

/-- The status a load ends with: at a pair the joint one. -/
def State.loadStatus (s : State) (len : Nat) (ok : Bool) (img : List Byte) (peer : Nat) : Nat :=
  if s.isD ∧ s.pState = 2 then jointStatus (ownStatus len ok img) peer else ownStatus len ok img

theorem endLoad_eq (s : State) (slot len : Nat) (ok : Bool) (img : List Byte) (peer : Nat) :
    s.endLoad slot len ok img peer =
      ((s.setSlot slot (imgWhole img) (decide (s.loadStatus len ok img peer = 0))).emit 12 1
        [slot, if ok then imgU (imgWhole img) 24 4 else 0, s.loadStatus len ok img peer,
          (s.setSlot slot (imgWhole img) (decide (s.loadStatus len ok img peer = 0))).rd GEN_CFG_die],
      s.loadStatus len ok img peer) := rfl

theorem ownStatus_pass {len : Nat} {img : List Byte} (hlen : img.length = 12992) (hfit : fitCheck img len = 0) :
    ownStatus len true img = 0 := by
  unfold ownStatus
  rw [imgWhole_of_length hlen, if_pos rfl, hfit]
  rfl

theorem ownStatus_fail {len c : Nat} {img : List Byte} (hlen : img.length = 12992) (hfit : fitCheck img len = c + 1) :
    ownStatus len true img = 0x0200 + c := by
  unfold ownStatus
  rw [imgWhole_of_length hlen, if_pos rfl, hfit]
  rfl

/-- A die that reports completions at once is in no pair. -/
theorem Reports.alone (h : Reports s d) : ¬ (s.isD = true ∧ s.pState = 2) := by
  obtain ⟨-, -, -, hmirror, hroles⟩ := h
  rintro ⟨hD, hpair⟩
  have hrole : s.pRole = 1 := by
    unfold State.holdsRoles at hroles
    rw [hD] at hroles
    exact of_decide_eq_true (Bool.and_eq_true_iff.1 hroles).2
  unfold State.mirroring at hmirror
  rw [hD, hrole, hpair] at hmirror
  exact absurd hmirror (by simp)

theorem setSlot_state (s : State) (slot : Nat) (img : List Byte) (ok : Bool) :
    (s.setSlot slot img ok).rd FCS_SLOT_state slot = if ok then 2 else 3 := by
  unfold State.setSlot
  extract_lets src hubbed fsrc fitted
  cases ok
  · exact State.rd_wr_same ..
  · exact (State.rd_wr_sep _ _ _ _ _ _ (by decide)).trans ((State.rd_wr_sep _ _ _ _ _ _ (by decide)).trans (State.rd_wr_same ..))

theorem setSlot_load (s : State) (slot : Nat) (img : List Byte) (ok : Bool) : (s.setSlot slot img ok).fcs.load = s.fcs.load := by
  cases ok
  · rfl
  · rfl

/-- A FIT slot holds its image and shows its mode and identity. -/
theorem setSlot_fit (s : State) (slot : Nat) (img : List Byte) :
    (s.setSlot slot img true).rd FCS_SLOT_mode slot = imgU img 5 1 % 2 ^ FCS_SLOT_mode.width ∧
      (s.setSlot slot img true).rd FCS_SLOT_ID_ident slot = imgU img 24 4 % 2 ^ 32 ∧
      mget (s.setSlot slot img true).fcs.models slot [] = img := by
  unfold State.setSlot
  extract_lets src hubbed fsrc fitted
  exact ⟨(State.rd_wr_sep _ _ _ _ _ _ (by decide)).trans (State.rd_wr_same ..), State.rd_wr_same .., mget_mput_same _ _ _ _⟩

/-- What a load's end leaves. -/
theorem endLoad_effect (s : State) (slot len : Nat) (ok : Bool) (img : List Byte) (peer : Nat) :
    (s.endLoad slot len ok img peer).1.rd FCS_SLOT_state slot = (if s.loadStatus len ok img peer = 0 then 2 else 3) ∧
      (s.endLoad slot len ok img peer).1.fcs.load = s.fcs.load ∧
      Recorded s (s.endLoad slot len ok img peer).1 12 1
        [slot, if ok then imgU (imgWhole img) 24 4 else 0, s.loadStatus len ok img peer, s.rd GEN_CFG_die] := by
  rw [endLoad_eq]
  generalize s.loadStatus len ok img peer = st
  have hframe := State.setSlot_frame (Sub.refl _) (Frame.refl _ s) slot (imgWhole img) (decide (st = 0))
  have hdie := hframe.rd_of (f := GEN_CFG_die) (by decide +kernel) 0
  refine ⟨?_, ?_, ?_⟩
  · rw [State.rd_emit _ _ _ _ _ _ (by decide), setSlot_state]
    simp only [decide_eq_true_eq]
  · rw [(State.emit_frame (Sub.refl _) (Frame.refl _ (s.setSlot slot (imgWhole img) (decide (st = 0)))) 12 1 _).fcs rfl, setSlot_load]
  · rw [hdie]
    exact (State.emit_recorded (s.setSlot slot (imgWhole img) (decide (st = 0))) 12 1 _).before (hframe.recd rfl) (hframe.ts rfl)

theorem fcstLoad_answers : Claims.fcstLoad := by
  intro d s hrun hload hclk hturn hslot hfree
  refine Answers.hub (f := fun s => if s.fcs.load.isSome || !s.clocked 12 then s else s.runOpcode 0x31 Machine.fcstLoad) rfl hrun ?_
  rw [if_neg (by simp [hload, hclk]), runOpcode_inTurn _ hturn]
  have hbusy : (picked s d).slotBusy (dB d.w 8 1) = false := hfree
  unfold Machine.fcstLoad
  dsimp only
  rw [if_neg (Nat.not_lt.2 hslot), if_neg (by rw [hbusy]; decide)]
  exact ⟨State.rd_wr_same .., rfl, rfl⟩

theorem fcstLoadBusy_answers : Claims.fcstLoadBusy := by
  intro d s hrun hload hclk hturn hreports hslot hfull
  refine Answers.hub (f := fun s => if s.fcs.load.isSome || !s.clocked 12 then s else s.runOpcode 0x31 Machine.fcstLoad) rfl hrun ?_
  rw [if_neg (by simp [hload, hclk]), runOpcode_inTurn _ hturn]
  have hbusy : (picked s d).slotBusy (dB d.w 8 1) = true := hfull
  unfold Machine.fcstLoad State.loadRefused
  dsimp only
  rw [if_neg (Nat.not_lt.2 hslot), if_pos hbusy]
  have hemit := State.emit_frame (Sub.refl _) (Frame.refl _ (picked s d)) 12 1 [dB d.w 8 1, 0, 0x0201, s.rd GEN_CFG_die]
  obtain ⟨-, -, -, -, hrecd, -, hfcs, -⟩ :=
    complete_same ((picked s d).emit 12 1 [dB d.w 8 1, 0, 0x0201, s.rd GEN_CFG_die]) d 0x0201 []
  refine ⟨Completed.before_picked (complete_completed_frame (Reports.picked hreports) hemit (by decide +kernel) (by decide)),
    hfcs.trans (hemit.fcs rfl), ?_⟩
  exact ((State.emit_recorded (picked s d) 12 1 _).before rfl rfl).after hrecd

/-- The status that the other die's checks give. -/
def peerStatus (peer : Fin 8) : Nat := if peer.val = 0 then 0 else 0x0201 + peer.val

/-- The read of a model's image has ended. -/
def State.loadEnded (s : State) : State := { s with fcs := { s.fcs with load := none } }

section
variable {slot : Nat} {img : List Byte} {peer : Fin 8} {k : Fin 48} (hfw : s.fwRunning 0 = true) (hclk : s.clocked 12 = true)
  (hload : s.fcs.load = some (slot, d))
include hfw hclk hload

/-- A load whose read met no error ends with its checks. -/
theorem fcstLoadComplete_read {status : Nat}
    (hstatus : s.loadEnded.loadStatus (dB d.w 12 4) true img (peerStatus peer) = status) :
    Machine.fcstLoadComplete true img peer k s =
      (s.loadEnded.endLoad slot (dB d.w 12 4) true img (peerStatus peer)).1.complete d status
        (if status = 0 then
          [(8, 1, (s.loadEnded.endLoad slot (dB d.w 12 4) true img (peerStatus peer)).1.rd FCS_SLOT_state slot),
            (12, 4, imgU img 24 4)] else []) := by
  subst hstatus
  unfold Machine.fcstLoadComplete
  dsimp only
  rw [if_neg (by simp [hfw, hclk])]
  split
  · next h => exact absurd (hload.symm.trans h) (by simp)
  · next slot' d' h =>
    obtain ⟨rfl, rfl⟩ := Prod.mk.inj (Option.some.inj (hload.symm.trans h))
    rfl

/-- One whose read met an error ends with the third check's status, the failure of the fabric counted and recorded before. -/
theorem fcstLoadComplete_unread {status : Nat}
    (hstatus : (s.loadEnded.fabricEvent d.ring 1 d.idx).loadStatus (dB d.w 12 4) false img (peerStatus peer) =
      status) (hne : status ≠ 0) :
    Machine.fcstLoadComplete false img peer k s =
      ((s.loadEnded.fabricEvent d.ring 1 d.idx).endLoad slot (dB d.w 12 4) false img
        (peerStatus peer)).1.complete d status [] := by
  subst hstatus
  unfold Machine.fcstLoadComplete
  dsimp only
  rw [if_neg (by simp [hfw, hclk])]
  split
  · next h => exact absurd (hload.symm.trans h) (by simp)
  · next slot' d' h =>
    obtain ⟨rfl, rfl⟩ := Prod.mk.inj (Option.some.inj (hload.symm.trans h))
    exact congrArg _ (if_neg hne)

end

theorem loadEnded_frame (s : State) : Frame (2 ^ 18) s s.loadEnded :=
  Frame.set_fcs (show (2 ^ 18 : Nat).testBit 18 = true by decide) (Frame.refl _ s)

theorem endLoad_ended_frame (s : State) (slot len : Nat) (ok : Bool) (img : List Byte) (peer : Nat) :
    Frame (State.endLoad_foot ||| 2 ^ 18) s (s.loadEnded.endLoad slot len ok img peer).1 :=
  State.endLoad_frame (show _ &&& _ = _ by decide) (Frame.mono (show _ &&& _ = _ by decide) (loadEnded_frame s)) slot len ok img peer

theorem fcstLoadComplete_answers : Claims.fcstLoadComplete := by
  intro img peer k slot d s hrun hfw hclk hload hslot hlen hfit hreports
  refine Answers.hub rfl hrun ?_
  generalize hp : peerStatus peer = p
  have hstatus : s.loadEnded.loadStatus (dB d.w 12 4) true img p = 0 := (if_neg (Reports.alone hreports)).trans (ownStatus_pass hlen hfit)
  rw [fcstLoadComplete_read hfw hclk hload (hp ▸ hstatus), hp, if_pos rfl]
  obtain ⟨hstate, hfree, hrecorded⟩ := endLoad_effect s.loadEnded slot (dB d.w 12 4) true img p
  rw [hstatus, if_pos rfl] at hstate
  rw [hstatus, if_pos rfl, imgWhole_of_length hlen] at hrecorded
  have hframe := endLoad_ended_frame s slot (dB d.w 12 4) true img p
  have hfit' : (s.loadEnded.endLoad slot (dB d.w 12 4) true img p).1 = (s.loadEnded.setSlot slot img true).emit 12 1
      [slot, imgU img 24 4, 0, (s.loadEnded.setSlot slot img true).rd GEN_CFG_die] := by
    rw [endLoad_eq, hstatus, imgWhole_of_length hlen]
    rfl
  obtain ⟨hmode, hident, hmodels⟩ := setSlot_fit s.loadEnded slot img
  have hshown (f : Fld) (hf : sepFld f EVT_DROP_dropped = true) (i : Nat) :
      (s.loadEnded.endLoad slot (dB d.w 12 4) true img p).1.rd f i = (s.loadEnded.setSlot slot img true).rd f i := by
    rw [hfit']
    exact State.rd_emit _ _ _ _ _ _ hf
  have hkept : (s.loadEnded.endLoad slot (dB d.w 12 4) true img p).1.fcs = (s.loadEnded.setSlot slot img true).fcs := by
    rw [hfit']
    exact (State.emit_frame (Sub.refl _) (Frame.refl _ _) 12 1 _).fcs rfl
  have hend : (s.loadEnded.endLoad slot (dB d.w 12 4) true img p).1.rd FCS_SLOT_state slot = 2 := hstate
  rw [hend]
  generalize (s.loadEnded.endLoad slot (dB d.w 12 4) true img p).1 = u at *
  obtain ⟨-, -, -, -, hrecd, -, hfcs, -⟩ := complete_same u d 0 [(8, 1, 2), (12, 4, imgU img 24 4)]
  refine ⟨(congrArg Fcs.load hfcs).trans hfree, (rd_complete u ..).trans hend, ?_, ?_, ?_, ?_, ?_⟩
  · exact (rd_complete u ..).trans ((hshown FCS_SLOT_mode (by decide) slot).trans hmode)
  · exact (rd_complete u ..).trans ((hshown FCS_SLOT_ID_ident (by decide) slot).trans hident)
  · rw [hfcs, hkept]
    exact hmodels
  · exact complete_completed_frame hreports hframe (by decide +kernel) (by decide)
  · exact (hrecorded.before rfl rfl).after hrecd

theorem fcstLoadFailed_answers : Claims.fcstLoadFailed := by
  intro img peer k slot c d s hrun hfw hclk hload hslot hlen hfit hreports
  refine Answers.hub rfl hrun ?_
  generalize hp : peerStatus peer = p
  have hstatus : s.loadEnded.loadStatus (dB d.w 12 4) true img p = 0x0200 + c :=
    (if_neg (Reports.alone hreports)).trans (ownStatus_fail hlen hfit)
  have hne : ¬ 0x0200 + c = 0 := by omega
  rw [fcstLoadComplete_read hfw hclk hload (hp ▸ hstatus), hp, if_neg hne]
  obtain ⟨hstate, hfree, hrecorded⟩ := endLoad_effect s.loadEnded slot (dB d.w 12 4) true img p
  rw [hstatus, if_neg hne] at hstate
  rw [hstatus, if_pos rfl, imgWhole_of_length hlen] at hrecorded
  have hframe := endLoad_ended_frame s slot (dB d.w 12 4) true img p
  generalize (s.loadEnded.endLoad slot (dB d.w 12 4) true img p).1 = u at *
  obtain ⟨-, -, -, -, hrecd, -, hfcs, -⟩ := complete_same u d (0x0200 + c) []
  exact ⟨(congrArg Fcs.load hfcs).trans hfree, (rd_complete u ..).trans hstate,
    complete_completed_frame hreports hframe (by decide +kernel) (by decide), (hrecorded.before rfl rfl).after hrecd⟩

theorem fcstLoadJoint_answers : Claims.fcstLoadJoint := by
  intro img peer k slot d s hrun hfw hclk hD hpair hload hslot hlen hfit
  refine Answers.hub rfl hrun ?_
  rw [show (if peer.val = 0 then 0 else 0x0201 + peer.val) = peerStatus peer from rfl]
  generalize hp : peerStatus peer = p
  have hstatus : s.loadEnded.loadStatus (dB d.w 12 4) true img p = p := by
    have hboth : s.loadEnded.isD = true ∧ s.loadEnded.pState = 2 := ⟨hD, hpair⟩
    refine (if_pos hboth).trans ?_
    rw [ownStatus_pass hlen hfit]
    exact if_pos rfl
  have hzero : p = 0 ↔ peer.val = 0 := by
    rw [← hp]
    unfold peerStatus
    split
    · next h => exact ⟨fun _ => h, fun _ => rfl⟩
    · next h => exact ⟨fun h' => absurd h' (by omega), fun h' => absurd h' h⟩
  rw [fcstLoadComplete_read hfw hclk hload (hp ▸ hstatus), hp]
  obtain ⟨hstate, hfree, hrecorded⟩ := endLoad_effect s.loadEnded slot (dB d.w 12 4) true img p
  rw [hstatus, imgWhole_of_length hlen, if_pos rfl] at hrecorded
  rw [hstatus] at hstate
  simp only [hzero] at hstate
  generalize (s.loadEnded.endLoad slot (dB d.w 12 4) true img p).1 = u at *
  generalize (if p = 0 then [(8, 1, u.rd FCS_SLOT_state slot), (12, 4, imgU img 24 4)] else []) = ps
  obtain ⟨-, -, -, -, hrecd, -, hfcs, -⟩ := complete_same u d p ps
  exact ⟨(congrArg Fcs.load hfcs).trans hfree, (rd_complete u ..).trans hstate, (hrecorded.before rfl rfl).after hrecd⟩

theorem fcstLoadUnread_answers : Claims.fcstLoadUnread := by
  intro img peer k slot d s hrun hfw hclk hload hslot hreports
  refine Answers.hub rfl hrun ?_
  generalize hp : peerStatus peer = p
  have hevent : Frame (State.fabricEvent_foot ||| 2 ^ 18) s (s.loadEnded.fabricEvent d.ring 1 d.idx) :=
    State.fabricEvent_frame (show _ &&& _ = _ by decide) (Frame.mono (show _ &&& _ = _ by decide) (loadEnded_frame s)) ..
  have hcount : (s.loadEnded.fabricEvent d.ring 1 d.idx).rd HIF_STAT_fabric = (s.rd HIF_STAT_fabric + 1) % 2 ^ HIF_STAT_fabric.width :=
    (State.rd_emit _ _ _ _ _ _ (by decide)).trans (State.rd_bump_same ..)
  have hnoted : Recorded s (s.loadEnded.fabricEvent d.ring 1 d.idx) 5 5 [d.ring, 1, d.idx] :=
    (State.emit_recorded (s.loadEnded.bump HIF_STAT_fabric) 5 5 _).before rfl rfl
  have hload' : (s.loadEnded.fabricEvent d.ring 1 d.idx).fcs.load = none :=
    congrArg Fcs.load ((State.fabricEvent_frame (Sub.refl _) (Frame.refl _ s.loadEnded) d.ring 1 d.idx).fcs rfl)
  have halone : ¬ ((s.loadEnded.fabricEvent d.ring 1 d.idx).isD = true ∧ (s.loadEnded.fabricEvent d.ring 1 d.idx).pState = 2) := by
    refine fun h => Reports.alone hreports ⟨?_, (hevent.rd_of (f := PAR_STAT_state) (by decide +kernel) 0).symm.trans h.2⟩
    unfold State.isD at h ⊢
    exact (hevent.fuse (by decide)) ▸ h.1
  have hstatus : (s.loadEnded.fabricEvent d.ring 1 d.idx).loadStatus (dB d.w 12 4) false img p = 0x0202 := if_neg halone
  rw [fcstLoadComplete_unread hfw hclk hload (hp ▸ hstatus) (by decide), hp]
  generalize s.loadEnded.fabricEvent d.ring 1 d.idx = v at *
  obtain ⟨hstate, hfree, -⟩ := endLoad_effect v slot (dB d.w 12 4) false img p
  rw [hstatus, if_neg (by decide)] at hstate
  have hend := State.endLoad_frame (Sub.refl _) (Frame.refl _ v) slot (dB d.w 12 4) false img p
  have hframe : Frame (State.endLoad_foot ||| (State.fabricEvent_foot ||| 2 ^ 18)) s (v.endLoad slot (dB d.w 12 4) false img p).1 :=
    State.endLoad_frame (show _ &&& _ = _ by decide) (Frame.mono (show _ &&& _ = _ by decide) hevent) slot (dB d.w 12 4) false img p
  have hkept := hend.rd_of (f := HIF_STAT_fabric) (by decide +kernel) 0
  have hrecorded := hnoted.framed hend rfl
  generalize (v.endLoad slot (dB d.w 12 4) false img p).1 = u at *
  obtain ⟨-, -, -, -, hrecd, -, hfcs, -⟩ := complete_same u d 0x0202 []
  exact ⟨(congrArg Fcs.load hfcs).trans (hfree.trans hload'), (rd_complete u ..).trans hstate,
    complete_completed_frame hreports hframe (by decide +kernel) (by decide), (rd_complete u ..).trans (hkept.trans hcount),
    hrecorded.after hrecd⟩

theorem slot0Load_answers : Claims.slot0Load := by
  intro s hrun hfw hclk hempty hbanks
  refine Answers.hub rfl hrun ?_
  unfold Machine.slot0Load
  extract_lets img loaded
  rw [if_neg (by simp [hfw, hclk, hempty, hbanks])]
  have hstate : loaded.rd FCS_SLOT_state 0 = if fitCheck img 12992 = 0 then 2 else 3 := by
    refine (setSlot_state s 0 img _).trans ?_
    simp only [decide_eq_true_eq]
  have hframe := State.setSlot_frame (Sub.refl _) (Frame.refl _ s) 0 img (decide (fitCheck img 12992 = 0))
  have hthm : loaded.thm = s.thm := hframe.thm rfl
  have hrst : loaded.rst = s.rst := hframe.rst rfl
  clear_value loaded
  split
  · refine ⟨?_, fun _ => ⟨?_, ?_⟩⟩
    · exact (State.rd_wr_sep _ _ _ _ _ _ (by decide)).trans ((State.rd_wr_sep _ _ _ _ _ _ (by decide)).trans hstate)
    · rw [← hthm]
      exact (State.rd_wr_sep _ _ _ _ _ _ (by decide)).trans (State.rd_wr_same ..)
    · rw [← hthm]
      exact State.rd_wr_same ..
  · next h => exact ⟨hstate, fun hc => absurd (hrst ▸ hc) h⟩

end

/-- Settles O20. -/
theorem firmwareAndModels : Obligations.FirmwareAndModels :=
  ⟨watchdogStrike_answers, watchdogExpire_answers, fwException_answers, fwHalt_answers, fwImageLoaded_answers, fwImageCopyB_answers,
    fwImageHalted_answers, fcstLoad_answers, fcstLoadBusy_answers, fcstLoadComplete_answers, fcstLoadFailed_answers,
    fcstLoadJoint_answers, fcstLoadUnread_answers, slot0Load_answers⟩

end Sys2Proof.Machine
end

section
/-!
PROOF. TAKE and the take engine at a die's own instants (R325 to R332).
-/
namespace Sys2Proof.Machine
open Sys2Proof.Claims

set_option Elab.async false

section
variable {s t u : State} {d : Desc} {j : TakeJob}

/-! ### The engine's jobs -/

theorem jobs_setJobs (s : State) (js : List TakeJob) : (s.setJobs js).slt.jobs = js := congrArg Slt.jobs (slt_showSlates _)

theorem slate_setJobs (s : State) (js : List TakeJob) (k : Nat) : (s.setJobs js).slate k = s.slate k := slate_of_slt (slt_showSlates _) k

theorem jobs_setSlate (s : State) (k : Nat) (x : Slate) : (s.setSlate k x).slt.jobs = s.slt.jobs := by
  unfold State.setSlate
  rw [slt_showSlates, (State.mirror_frame (Sub.refl _) (Frame.refl _ (s.setSlateRaw k x)) _ _ _).slt rfl]
  rfl

theorem jobs_slateTo (s : State) (k st : Nat) : (s.slateTo k st).slt.jobs = s.slt.jobs := jobs_setSlate ..

theorem slate_slateTo (s : State) (k st : Nat) : (s.slateTo k st).slate k = { s.slate k with state := st } := slate_setSlate ..

theorem jobs_freeSlate (s : State) (k : Nat) : (s.freeSlate k).slt.jobs = s.slt.jobs := by
  unfold State.freeSlate
  extract_lets x src released
  have hslt : released.slt = s.slt := by
    unfold released
    split <;> rfl
  exact (jobs_setSlate ..).trans (congrArg Slt.jobs hslt)

theorem slate_freeSlate (s : State) (k : Nat) : ((s.freeSlate k).slate k).state = 0 := by
  unfold State.freeSlate
  exact congrArg Slate.state (slate_setSlate ..)

theorem jobs_complete (s : State) (d : Desc) (status : Nat) (ps : List (Nat × Nat × Nat)) :
    (s.complete d status ps).slt.jobs = s.slt.jobs := congrArg Slt.jobs (complete_same s d status ps).2.2.1

theorem recd_complete (s : State) (d : Desc) (status : Nat) (ps : List (Nat × Nat × Nat)) : (s.complete d status ps).recd = s.recd :=
  (complete_same s d status ps).2.2.2.2.1

theorem putTake_alone (hjobs : s.slt.jobs = [j]) (k : TakeJob) : s.putTake j k = s.setJobs [k] := by
  unfold State.putTake
  rw [hjobs]
  exact congrArg (fun x => s.setJobs [x]) (if_pos rfl)

theorem dropTake_alone (hjobs : s.slt.jobs = [j]) : s.dropTake j = s.setJobs [] := by
  unfold State.dropTake
  rw [hjobs]
  exact congrArg s.setJobs (by simp)

theorem jobs_dropTake (hjobs : s.slt.jobs = [j]) : (s.dropTake j).slt.jobs = [] := by
  rw [dropTake_alone hjobs, jobs_setJobs]

theorem dropTake_frame (s : State) (j : TakeJob) : Frame State.setJobs_foot s (s.dropTake j) :=
  State.setJobs_frame (Sub.refl _) (Frame.refl _ s) _

theorem rd_setJobs_armed (s : State) (js : List TakeJob) :
    (s.setJobs js).rd SLT_STAT_armed = (js.filter TakeJob.armed).length % 2 ^ SLT_STAT_armed.width := by
  unfold State.setJobs State.showSlates
  extract_lets shown opened armed paired
  have hshown : opened.slt.jobs = js :=
    foldTo_kept (fun u => u.slt.jobs) State.showSlate (fun _ _ => rfl) 8 (s.setSlt { s.slt with jobs := js })
  have harmed : armed.slt.jobs = js := hshown
  clear_value opened
  refine (State.rd_wr_sep _ _ _ _ _ _ (by decide)).trans ((State.rd_wr_sep _ _ _ _ _ _ (by decide)).trans ((State.rd_wr_same ..).trans ?_))
  rw [harmed]

theorem eq_of_find {p : TakeJob → Bool} {k : TakeJob} (hjobs : s.slt.jobs = [j]) (h : s.slt.jobs.find? p = some k) : k = j :=
  List.mem_singleton.1 (hjobs ▸ List.mem_of_find?_eq_some h)

theorem find_ne_none {p : TakeJob → Bool} (hjobs : s.slt.jobs = [j]) (hp : p j = true) (h : s.slt.jobs.find? p = none) : False :=
  List.find?_eq_none.1 h j (hjobs ▸ List.mem_singleton.2 rfl) hp

/-! ### TAKE (R325) -/

theorem take_answers : Claims.take := by
  intro d k s hrun hfree hturn hslate hopen hcheck hscope harm
  refine Answers.hub (f := fun s => if s.copyFree then s.runOpcode 0x13 takeRow else s) rfl hrun ?_
  rw [if_pos hfree, runOpcode_inTurn _ hturn]
  unfold takeRow
  split
  · next h => exact absurd (hslate.symm.trans h) (by simp)
  · next k' h =>
    obtain rfl := Option.some.inj (hslate.symm.trans h)
    rw [if_neg (not_not.2 (show ((picked s d).slate k).state = 1 from hopen))]
    dsimp only
    split
    · next h' => exact absurd (hcheck.symm.trans h') (by simp)
    · have hpair : decide (dB d.w 10 1 = 1) = false := by rw [hscope]; rfl
      have harm' : (picked s d).armStatus (if dB d.w 16 8 ≠ 0 then some (dB d.w 16 8) else
          if decide (dB d.w 10 1 = 1) then none else some ((picked s d).ts + ((picked s d).slate k).lines + 1)) = 0 := by
        rw [hpair, if_neg Bool.false_ne_true, ← apply_ite some]
        exact harm
      rw [harm', if_neg (fun h => h rfl), hpair]
      refine ⟨?_, ?_, ?_⟩
      · rw [slate_setJobs, slate_slateTo]
      · rw [slate_setJobs, slate_slateTo]
        rfl
      · rw [jobs_setJobs]
        rfl

theorem takeLimit_answers : Claims.takeLimit := by
  intro d k s hrun hfree hturn hreports hslate hopen hcheck hfull
  refine Answers.hub (f := fun s => if s.copyFree then s.runOpcode 0x13 takeRow else s) rfl hrun ?_
  rw [if_pos hfree, runOpcode_inTurn _ hturn]
  have hstatus (x : Option Nat) : (picked s d).armStatus x = 0x0101 := if_pos hfull
  have heq : takeRow d (picked s d) = (picked s d).complete d 0x0101 [] := by
    unfold takeRow
    split
    · next h => exact absurd (hslate.symm.trans h) (by simp)
    · next k' h =>
      obtain rfl := Option.some.inj (hslate.symm.trans h)
      rw [if_neg (not_not.2 (show ((picked s d).slate k).state = 1 from hopen))]
      dsimp only
      split
      · next h' => exact absurd (hcheck.symm.trans h') (by simp)
      · rw [hstatus, if_pos (by decide)]
  rw [heq]
  exact ⟨Completed.before_picked (complete_completed (Reports.picked hreports)), (complete_same _ _ _ _).2.2.1⟩

/-! ### TAKE_ARMED (R325, R326) -/

/-- A job alone whose shadow copy has ended. -/
theorem takeArmed_alone (hjobs : s.slt.jobs = [j]) (hphase : j.phase = 0) (hend : j.copyEnd ≤ s.ts) (hpair : j.pair = false) :
    Machine.takeArmed s = if j.body ≠ 0 ∧ j.body ≤ j.copyEnd then s.takePast j j.copyEnd
      else s.putTake j { j with phase := 1, t := some (if j.body = 0 then j.copyEnd + 1 else j.body) } := by
  unfold Machine.takeArmed
  split
  · next h => exact (find_ne_none hjobs (by simp [hphase, hend]) h).elim
  · next k h =>
    obtain rfl := eq_of_find hjobs h
    have harmed : s.armedTakes = [] := by
      unfold State.armedTakes
      rw [hjobs]
      simp [TakeJob.armed, hphase]
    have hstatus (x : Nat) : s.armStatus (some x) = 0 := by
      unfold State.armStatus State.afterAll
      rw [harmed]
      rfl
    dsimp only
    rw [if_neg (by rw [hpair]; decide), hstatus]
    rfl

theorem takeArmed_answers : Claims.takeArmed := by
  intro j s hrun hjobs hphase hend hpair hbody
  refine Answers.hub rfl hrun ?_
  rw [takeArmed_alone hjobs hphase hend hpair, if_neg (fun h => h.1 hbody), if_pos hbody, putTake_alone hjobs]
  exact ⟨jobs_setJobs .., (rd_setJobs_armed ..).trans rfl⟩

/-- The footprint of a slate freed and of the engine's jobs, where nothing is mirrored. -/
def jobsFoot : Nat := slateFreedFoot ||| State.setJobs_foot

/-- The footprint of a take that ends without being applied, where nothing is mirrored: its slate, the jobs, the count of its failure and
the event. -/
def takeEndFoot : Nat := jobsFoot ||| State.emit_foot ||| 2 ^ (64 + unitBase 6 + 14) ||| 2 ^ (64 + unitBase 6 + 12)

theorem takeEndFoot_completes : completionFlds.all (untouched takeEndFoot) = true ∧ takeEndFoot &&& 0xa0000088 = 0 := by
  constructor <;> decide +kernel

theorem dropTake_mirroring (s : State) (j : TakeJob) : (s.dropTake j).mirroring = s.mirroring := by
  have hframe := dropTake_frame s j
  have hpar := hframe.par rfl
  have hfuse := hframe.fuse rfl
  have hrole : (s.dropTake j).pRole = s.pRole := hframe.rd_of (f := PAR_STAT_role) (by decide +kernel) 0
  have hstate : (s.dropTake j).pState = s.pState := hframe.rd_of (f := PAR_STAT_state) (by decide +kernel) 0
  unfold State.mirroring State.isD
  rw [hpar, hfuse, hrole, hstate]

theorem takePast_answers : Claims.takePast := by
  intro j d s hrun hjobs hphase hend hpair hbody hpast hdesc hreports hslate
  refine Answers.hub rfl hrun ?_
  rw [takeArmed_alone hjobs hphase hend hpair, if_pos ⟨hbody, hpast⟩]
  unfold State.takePast State.endTake
  rw [hdesc]
  dsimp only
  have hdrop := dropTake_frame s j
  have hmirror : (s.dropTake j).mirroring = false := (dropTake_mirroring s j).trans hreports.2.2.2.1
  have hback : Frame jobsFoot s ((s.dropTake j).slateTo j.slate 1) := by
    unfold State.slateTo
    rw [setSlate_of_not_mirroring hmirror]
    exact State.showSlates_frame (show _ &&& _ = _ by decide) (State.setSlateRaw_frame (show _ &&& _ = _ by decide)
      (hdrop.mono (show _ &&& _ = _ by decide)) _ _)
  have hjobs' : ((s.dropTake j).slateTo j.slate 1).slt.jobs = [] := (jobs_slateTo ..).trans (jobs_dropTake hjobs)
  have hopen : (((s.dropTake j).slateTo j.slate 1).slate j.slate).state = 1 := congrArg Slate.state (slate_slateTo ..)
  generalize (s.dropTake j).slateTo j.slate 1 = u at hback hjobs' hopen
  have hframe : Frame takeEndFoot s ((u.bump SLT_FAIL_past).emit 6 3 [j.handle, j.body % 2 ^ 32, j.copyEnd % 2 ^ 32]) :=
    State.emit_frame (show _ &&& _ = _ by decide) (bump_frame ⟨6, 14, rfl, by decide⟩ (hback.mono (show _ &&& _ = _ by decide)) 0) 6 3 _
  have hrecorded : Recorded s ((u.bump SLT_FAIL_past).emit 6 3 [j.handle, j.body % 2 ^ 32, j.copyEnd % 2 ^ 32]) 6 3 _ :=
    (State.emit_recorded (u.bump SLT_FAIL_past) 6 3 _).before (hback.recd rfl) (hback.ts rfl)
  have hcount : ((u.bump SLT_FAIL_past).emit 6 3 [j.handle, j.body % 2 ^ 32, j.copyEnd % 2 ^ 32]).rd SLT_FAIL_past =
      (s.rd SLT_FAIL_past + 1) % 2 ^ SLT_FAIL_past.width := by
    rw [State.rd_emit _ _ _ _ _ _ (by decide), State.rd_bump_same, hback.rd_of (by decide +kernel)]
  have hslt : ((u.bump SLT_FAIL_past).emit 6 3 [j.handle, j.body % 2 ^ 32, j.copyEnd % 2 ^ 32]).slt = u.slt :=
    (State.emit_frame (Sub.refl _) (Frame.refl _ (u.bump SLT_FAIL_past)) 6 3 _).slt rfl
  refine ⟨(jobs_complete ..).trans ((congrArg Slt.jobs hslt).trans hjobs'), ?_, (rd_complete ..).trans hcount,
    complete_completed_frame hreports hframe takeEndFoot_completes.1 takeEndFoot_completes.2, hrecorded.after (recd_complete ..)⟩
  rw [slate_complete, slate_of_slt hslt, hopen]

/-! ### Takes that fail (R328, R330, R331) -/

/-- A take that fails, before its TAKE completes. -/
def State.failNoted (s : State) (j : TakeJob) (cause : Nat) : State :=
  (((s.dropTake j).freeSlate j.slate).bump SLT_FAIL_failed).emit 6 4 [j.handle, cause]

theorem failTake_eq (hdesc : j.desc = some d) (htold : j.told = false) (cause : Nat) :
    s.failTake j cause = (s.failNoted j cause).complete d 0x0107 [] := by
  unfold State.failTake State.endTake
  rw [hdesc, htold]
  rfl

theorem failNoted_effect (hjobs : s.slt.jobs = [j]) (cause : Nat) : (s.failNoted j cause).slt.jobs = [] ∧
    ((s.failNoted j cause).slate j.slate).state = 0 ∧
    (s.failNoted j cause).rd SLT_FAIL_failed = (s.rd SLT_FAIL_failed + 1) % 2 ^ SLT_FAIL_failed.width ∧
    Recorded s (s.failNoted j cause) 6 4 [j.handle, cause] := by
  have hfree : ((s.dropTake j).freeSlate j.slate).slt.jobs = [] := (jobs_freeSlate ..).trans (jobs_dropTake hjobs)
  have hstate := slate_freeSlate (s.dropTake j) j.slate
  have hframe : Frame (State.freeSlate_foot ||| State.setJobs_foot) s ((s.dropTake j).freeSlate j.slate) :=
    State.freeSlate_frame (show _ &&& _ = _ by decide) ((dropTake_frame s j).mono (show _ &&& _ = _ by decide)) j.slate
  unfold State.failNoted
  generalize (s.dropTake j).freeSlate j.slate = u at hfree hstate hframe
  have hslt : ((u.bump SLT_FAIL_failed).emit 6 4 [j.handle, cause]).slt = u.slt :=
    (State.emit_frame (Sub.refl _) (Frame.refl _ (u.bump SLT_FAIL_failed)) 6 4 _).slt rfl
  refine ⟨(congrArg Slt.jobs hslt).trans hfree, (congrArg Slate.state (slate_of_slt hslt _)).trans hstate, ?_,
    (State.emit_recorded (u.bump SLT_FAIL_failed) 6 4 _).before (hframe.recd rfl) (hframe.ts rfl)⟩
  rw [State.rd_emit _ _ _ _ _ _ (by decide), State.rd_bump_same, hframe.rd_of (by decide +kernel)]

theorem failNoted_frame (h : s.mirroring = false) (j : TakeJob) (cause : Nat) : Frame takeEndFoot s (s.failNoted j cause) := by
  have hframe : Frame takeEndFoot s ((s.dropTake j).freeSlate j.slate) :=
    ((dropTake_frame s j).mono (show _ &&& _ = _ by decide)).trans
      ((freeSlate_frame ((dropTake_mirroring s j).trans h) j.slate).mono (show _ &&& _ = _ by decide))
  exact State.emit_frame (show _ &&& _ = _ by decide) (bump_frame ⟨6, 12, rfl, by decide⟩ hframe 0) 6 4 _

/-- The engine's instant of a job alone. -/
theorem takeApply_alone {n : Nat} (hjobs : s.slt.jobs = [j]) (hphase : j.phase = 1) (ht : j.t = some n) (hn : n ≤ s.ts) :
    Machine.takeApply false s = if s.gatedTake j.sh then s.failTake j 0
      else (((s.dropTake j).doTake j).freeSlate j.slate).endTake j 0 [(8, 4, ((s.dropTake j).doTake j).rd SLT_TAKE_take), (16, 8, n)] := by
  unfold Machine.takeApply State.takeFault
  split
  · next h => exact (find_ne_none hjobs (by simp [TakeJob.armed, hphase, ht, hn]) h).elim
  · next k h =>
    obtain rfl := eq_of_find hjobs h
    have hafter : s.takesAfter k = [] := by
      unfold State.takesAfter
      rw [hjobs]
      simp
    rw [hphase, hafter, ht]
    dsimp only
    cases hgated : s.gatedTake k.sh
    · rfl
    · rfl

theorem takeFailed_answers : Claims.takeFailed := by
  intro j d n s hrun hjobs hphase ht hn hpair hgated hdesc htold hreports hslate
  refine Answers.hub rfl hrun ?_
  rw [takeApply_alone hjobs hphase ht hn, if_pos hgated, failTake_eq hdesc htold]
  obtain ⟨hnone, hstate, hcount, hrecorded⟩ := failNoted_effect hjobs 0
  have hframe := failNoted_frame hreports.2.2.2.1 j 0
  generalize s.failNoted j 0 = u at hnone hstate hcount hrecorded hframe
  refine ⟨(rd_complete ..).trans hcount, (rd_complete ..).trans (hframe.rd_of (by decide +kernel) 0), fun o ho => ?_,
    (jobs_complete ..).trans hnone, ?_, complete_completed_frame hreports hframe takeEndFoot_completes.1 takeEndFoot_completes.2,
    hrecorded.after (recd_complete ..)⟩
  · have hdone : (u.complete d 0x0107 []).rwtWord o = u.rwtWord o := by
      unfold State.rwtWord
      simp only [rd_complete]
    exact hdone.trans (hframe.rwtWord (by decide +kernel) o)
  · rw [slate_complete]
    exact hstate

theorem pairPrepareTimeout_answers : Claims.pairPrepareTimeout := by
  intro j d s hrun hjobs hphase hlate hdesc htold hslate
  refine Answers.hub rfl hrun ?_
  unfold Machine.pairPrepareTimeout
  split
  · next h => exact (find_ne_none hjobs (by simp [hphase, hlate]) h).elim
  · next k h =>
    obtain rfl := eq_of_find hjobs h
    have hsent : Frame State.bridgeSend_foot s (s.bridgeSend 0x0C (leBytes 2 k.handle)) :=
      State.bridgeSend_frame (Sub.refl _) (Frame.refl _ s) _ _
    generalize s.bridgeSend 0x0C (leBytes 2 k.handle) = v at hsent
    obtain ⟨hnone, hstate, hcount, hrecorded⟩ := failNoted_effect (s := v) ((congrArg Slt.jobs (hsent.slt rfl)).trans hjobs) 3
    rw [failTake_eq hdesc htold]
    generalize v.failNoted k 3 = u at hnone hstate hcount hrecorded
    refine ⟨(jobs_complete ..).trans hnone, ?_, (rd_complete ..).trans ?_,
      (hrecorded.before (hsent.recd rfl) (hsent.ts rfl)).after (recd_complete ..)⟩
    · rw [slate_complete]
      exact hstate
    · rw [hcount, hsent.rd_of (by decide +kernel)]

/-! ### Takes at their instant (R327, R314) -/

/-- The words written hold no unit's settings but those of the memory. -/
theorem unitsTaken_of_mem {regs : SMap Nat} {s0 tr : State} (hregs : ∀ e ∈ regs, unitOf e.1 = 3)
    (htr : ∀ f ∈ triggerFlds, tr.rd f = 0) : s.unitsTaken s0 tr regs = s := by
  have hwrote (us : List Nat) (h3 : 3 ∉ us) : wroteUnit regs us = false := by
    unfold wroteUnit
    refine List.any_eq_false.2 fun e he => ?_
    rw [hregs e he]
    simpa using h3
  have hflag (f : Fld) (hf : f ∈ triggerFlds) : tr.flag f = false := flag_of_rd_zero (htr f hf)
  have hrestart : tr.rd FW_CTL_restart = 0 := htr _ (by simp [triggerFlds])
  unfold State.unitsTaken
  simp only [onlyIf, hwrote _ (show 3 ∉ [7] by decide), hwrote _ (show 3 ∉ [10] by decide), hwrote _ (show 3 ∉ [9] by decide),
    hwrote _ (show 3 ∉ [11] by decide), hwrote _ (show 3 ∉ [14] by decide), hwrote _ (show 3 ∉ [12] by decide),
    hwrote _ (show 3 ∉ [8, 12, 14] by decide), hwrote _ (show 3 ∉ [8] by decide), hwrote _ (show 3 ∉ [15] by decide),
    hwrote _ (show 3 ∉ [5] by decide), hwrote _ (show 3 ∉ [20] by decide), hwrote _ (show 3 ∉ [21] by decide),
    hwrote _ (show 3 ∉ [1, 9] by decide), hwrote _ (show 3 ∉ [1] by decide), hflag CHK_FB_CTL_release (by simp [triggerFlds]),
    hflag PAR_CTL_handover (by simp [triggerFlds]), hflag PAR_CTL_sole (by simp [triggerFlds]), hflag RST_START_go (by simp [triggerFlds]),
    hflag RST_START_down (by simp [triggerFlds]), hrestart, Bool.false_eq_true, if_false]
  have hkept (n : Nat) : foldTo n s (fun s n => if bit 0 n then s.fwRestart n 4 else s) = s :=
    foldTo_kept (fun u : State => u) (fun s n => if bit 0 n then s.fwRestart n 4 else s)
      (fun u k => if_neg (by unfold bit; rw [Nat.zero_div]; decide)) n s
  rw [hkept]
  unfold State.startTriggers
  dsimp only
  rw [if_neg Bool.false_ne_true, if_neg Bool.false_ne_true]

/-- A take has its number, and its event is written. -/
def State.drawn (s : State) (j : TakeJob) : State :=
  ((s.dropTake j).setSlt { (s.dropTake j).slt with undo := (s.dropTake j).slt.undo.without j.sh }).nextTake.emit 6 1
    [j.handle, j.lines, s.ts % 2 ^ 32, 0]

theorem doTake_eq (hpair : j.pair = false) : (s.dropTake j).doTake j = (s.drawn j).applyShadow j.sh := by
  have hts := (dropTake_frame s j).ts rfl
  unfold State.doTake State.drawn
  rw [hpair, ← hts]
  generalize s.dropTake j = u
  dsimp only
  rw [if_neg Bool.false_ne_true]
  rfl

theorem nextTake_take (s : State) : s.nextTake.rd SLT_TAKE_take = (s.rd SLT_TAKE_take + 1) % 2 ^ 32 := by
  unfold State.nextTake
  extract_lets n numbered
  have hnumbered : numbered.rd SLT_TAKE_take = n % 2 ^ 32 :=
    (State.rd_wr_sep _ _ _ _ _ _ (by decide)).trans (State.rd_wr_same ..)
  have hn : n % 2 ^ 32 = n := Nat.mod_mod ..
  split
  · exact (State.rd_bump_sep _ _ _ _ _ (by decide)).trans (hnumbered.trans hn)
  · exact hnumbered.trans hn

theorem nextTake_instant (s : State) : s.nextTake.rd SLT_TAKE_T_instant = s.ts % 2 ^ SLT_TAKE_T_instant.width := by
  unfold State.nextTake
  extract_lets n numbered
  have hnumbered : numbered.rd SLT_TAKE_T_instant = s.ts % 2 ^ SLT_TAKE_T_instant.width := State.rd_wr_same ..
  split
  · exact (State.rd_bump_sep _ _ _ _ _ (by decide)).trans hnumbered
  · exact hnumbered

/-- The footprint of a take drawn. -/
def drawnFoot : Nat := State.setJobs_foot ||| State.nextTake_foot ||| State.emit_foot ||| 2 ^ 30

/-- What a take drawn shows. -/
theorem drawn_effect (hjobs : s.slt.jobs = [j]) : Frame drawnFoot s (s.drawn j) ∧ (s.drawn j).slt.jobs = [] ∧
    (s.drawn j).rd SLT_TAKE_take = (s.rd SLT_TAKE_take + 1) % 2 ^ 32 ∧
    (s.drawn j).rd SLT_TAKE_T_instant = s.ts % 2 ^ SLT_TAKE_T_instant.width ∧
    Recorded s (s.drawn j) 6 1 [j.handle, j.lines, s.ts % 2 ^ 32, 0] := by
  have hdrop := dropTake_frame s j
  have hnone := jobs_dropTake hjobs
  unfold State.drawn
  generalize s.dropTake j = u at hdrop hnone
  generalize hv : u.setSlt { u.slt with undo := u.slt.undo.without j.sh } = v
  have hframe : Frame (State.setJobs_foot ||| 2 ^ 30) s v := by
    rw [← hv]
    exact Frame.set_slt (show (State.setJobs_foot ||| 2 ^ 30).testBit 30 = true by decide) (hdrop.mono (show _ &&& _ = _ by decide))
  have hjobs' : v.slt.jobs = [] := by
    rw [← hv]
    exact hnone
  clear hv
  have hnext := State.nextTake_frame (Sub.refl _) (Frame.refl _ v)
  have hemit := State.emit_frame (Sub.refl _) (Frame.refl _ v.nextTake) 6 1 [j.handle, j.lines, s.ts % 2 ^ 32, 0]
  refine ⟨?_, ?_, ?_, ?_, ?_⟩
  · exact State.emit_frame (show _ &&& _ = _ by decide) (State.nextTake_frame (show _ &&& _ = _ by decide)
      (hframe.mono (show _ &&& _ = _ by decide))) 6 1 _
  · rw [hemit.slt rfl, hnext.slt rfl, hjobs']
  · rw [State.rd_emit _ _ _ _ _ _ (by decide), nextTake_take, hframe.rd_of (by decide +kernel)]
  · rw [State.rd_emit _ _ _ _ _ _ (by decide), nextTake_instant, hframe.ts rfl]
  · exact (State.emit_recorded v.nextTake 6 1 _).before ((hnext.recd rfl).trans (hframe.recd rfl)) ((hnext.ts rfl).trans (hframe.ts rfl))

/-- The triggers that read zero go on doing so. -/
theorem triggers_drawn (hjobs : s.slt.jobs = [j]) (htrig : ∀ f ∈ triggerFlds, s.rd f = 0) :
    ∀ f ∈ triggerFlds, (s.drawn j).rd f = 0 :=
  fun f hf => ((drawn_effect hjobs).1.rd_of
    (List.all_eq_true.1 (show triggerFlds.all (untouched drawnFoot) = true by decide +kernel) f hf) 0).trans (htrig f hf)

theorem trings_enableRing (s : State) (r : Nat) : (s.enableRing r).hif.trings = s.hif.trings := by
  unfold State.enableRing
  rw [(State.emit_frame (Sub.refl _) (Frame.refl _ _) 5 6 [r, 1, 0]).hif rfl]
  unfold State.setRState
  dsimp only
  split
  · rfl
  · rfl

/-- A take that sets en of a ring's entry puts the entry in force and enables the ring (R314). -/
theorem takeRing_enables {r e : Nat} (hoff : eEn (s.tring r) = false) (hon : eEn e = true) :
    (s.takeRing r e).tring r = e ∧ (s.takeRing r e).ring r = { gen := (s.ring r).gen + 1, st := 1 } := by
  unfold State.takeRing
  extract_lets old src entered enabled
  have henabled : enabled = entered.enableRing r := if_pos (by rw [show old = s.tring r from rfl, hoff, hon]; rfl)
  have hhif := (State.mirror_frame (Sub.refl _) (Frame.refl _ enabled) 0x08 r (enabled.ringEntryBytes r)).hif rfl
  have hentered : entered.hif.trings = mput s.hif.trings r e ∧ entered.ring r = s.ring r := ⟨rfl, rfl⟩
  clear_value enabled entered
  subst henabled
  refine ⟨?_, (ring_of_hif hhif r).trans ((enableRing_effect entered r).1.trans (by rw [hentered.2]))⟩
  unfold State.tring
  rw [hhif, trings_enableRing, hentered.1]
  exact mget_mput_same _ _ _ _

theorem takeApplyRing_answers : Claims.takeApplyRing := by
  intro j r e n s hrun hjobs hphase ht hn hpair hsh hr hoff hon hdesc hslate htrig hwrap
  refine Answers.hub rfl hrun ?_
  have hgated : s.gatedTake j.sh = false := by rw [hsh]; rfl
  have happly : Machine.takeApply false s = (((s.drawn j).applyShadow j.sh).freeSlate j.slate) := by
    rw [takeApply_alone hjobs hphase ht hn, if_neg (by rw [hgated]; decide), doTake_eq hpair]
    unfold State.endTake
    rw [hdesc]
  obtain ⟨hframe, hnone, htake, hinstant, hrecorded⟩ := drawn_effect hjobs
  have htrig' := triggers_drawn hjobs htrig
  have hrings := hframe.hif rfl
  rw [happly, hsh]
  generalize s.drawn j = u at hframe hnone htake hinstant hrecorded htrig' hrings
  have hshadow : u.applyShadow { rings := [(r, e)] } = u.clearTriggers.takeRing r e := by
    unfold State.applyShadow
    exact unitsTaken_of_mem (fun _ h => absurd h List.not_mem_nil) htrig'
  rw [hshadow]
  have hclear := State.clearTriggers_frame (Sub.refl _) (Frame.refl _ u)
  have hentry : u.clearTriggers.tring r = s.tring r := by
    unfold State.tring
    rw [hclear.hif rfl, hrings]
  have hring : u.clearTriggers.ring r = s.ring r := ring_of_hif ((hclear.hif rfl).trans hrings) r
  have htaken : Frame (State.clearTriggers_foot ||| State.takeRing_foot) u (u.clearTriggers.takeRing r e) :=
    State.takeRing_frame (show _ &&& _ = _ by decide) (hclear.mono (show _ &&& _ = _ by decide)) r e
  obtain ⟨hentry', hring'⟩ := takeRing_enables (s := u.clearTriggers) (r := r) (e := e) (by rw [hentry]; exact hoff) hon
  rw [hring] at hring'
  generalize u.clearTriggers.takeRing r e = v at htaken hentry' hring'
  have hfree := State.freeSlate_frame (Sub.refl _) (Frame.refl _ v) j.slate
  have hrd (f : Fld) (h : untouched (State.clearTriggers_foot ||| State.takeRing_foot) f = true)
      (h' : untouched State.freeSlate_foot f = true) : (v.freeSlate j.slate).rd f = u.rd f := (hfree.rd_of h' 0).trans (htaken.rd_of h 0)
  have hfreed : (v.freeSlate j.slate).ring r = { gen := (s.ring r).gen + 1, st := 1 } := (ring_of_hif (hfree.hif rfl) r).trans hring'
  refine ⟨?_, ?_, ?_, ?_, ?_, ?_, ?_, slate_freeSlate .., ?_⟩
  · rw [hrd _ (by decide +kernel) (by decide +kernel), htake, Nat.mod_eq_of_lt (by omega)]
  · rw [hrd _ (by decide +kernel) (by decide +kernel), hinstant]
  · unfold State.tring at hentry' ⊢
    rw [hfree.hif rfl]
    exact hentry'
  · rw [hfreed]
  · rw [hfreed]
  · rw [hfreed]
  · rw [jobs_freeSlate, htaken.slt (by decide), hnone]
  · exact (hrecorded.framed htaken (by decide)).framed hfree rfl

/-- A take of one word of the memory's settings. -/
theorem applyShadow_word {o v : Nat} (ho : unitOf o = 3) (htrig : ∀ f ∈ triggerFlds, (s.takeWord o v).rd f = 0) :
    s.applyShadow { regs := [(o, v)] } = (s.takeWord o v).clearTriggers := by
  unfold State.applyShadow
  dsimp only [List.foldl_cons, List.foldl_nil, List.isEmpty_nil, if_true]
  exact unitsTaken_of_mem (fun e he => by rw [List.mem_singleton.1 he]; exact ho) htrig

/-- The word of the background test's settings holds their two fields. -/
theorem wordFlds_bt : wordFlds (MEM_BT_en.key / 8) = [(MEM_BT_en, 0), (MEM_BT_period, 0)] := rfl

/-- The part of a field that a word replaces, where the field lies in it whole. -/
theorem replaced_mod (old x w : Nat) (hx : x < 2 ^ w) : (old - bits old 0 w + x) % 2 ^ w = x := by
  unfold bits
  rw [Nat.pow_zero, Nat.div_one]
  have hsplit : old - old % 2 ^ w = 2 ^ w * (old / 2 ^ w) := by
    have := Nat.div_add_mod old (2 ^ w)
    omega
  rw [hsplit, Nat.mul_add_mod, Nat.mod_eq_of_lt hx]

theorem keepOld_bt (s : State) : s.keepOld (MEM_BT_en.key / 8) = s := by
  unfold State.keepOld
  rw [wordFlds_bt, show [(MEM_BT_en, 0), (MEM_BT_period, 0)].filter (fun x => decide (x.1.key ∈ tickFlds.map Fld.key)) = [] from rfl]
  rfl

theorem calWord_bt : calWord (MEM_BT_en.key / 8) = false ∧ coefWord (MEM_BT_en.key / 8) = false := by
  unfold calWord coefWord
  rw [wordFlds_bt]
  exact ⟨rfl, rfl⟩

theorem writeRwt_bt (s : State) (v : Nat) : s.writeRwt (MEM_BT_en.key / 8) v =
    (s.wr MEM_BT_en 0 (s.rd MEM_BT_en - bits (s.rd MEM_BT_en) 0 1 + bits v 0 1)).wr MEM_BT_period 0
      (s.rd MEM_BT_period - bits (s.rd MEM_BT_period) 0 10 + bits v 16 10) := by
  have hsel : [(MEM_BT_en, 0), (MEM_BT_period, 0)].filter (fun x => decide (x.1.acc = .rwt) && (s.isD || !dvfsOnly x.1)) =
      [(MEM_BT_en, 0), (MEM_BT_period, 0)] := by
    cases hD : s.isD
    · rfl
    · rfl
  have hen (old : Nat) : MEM_BT_en.ofWord 0 (MEM_BT_en.key / 8) old v = old - bits old 0 1 + bits v 0 1 := rfl
  have hperiod (old : Nat) : MEM_BT_period.ofWord 0 (MEM_BT_en.key / 8) old v = old - bits old 0 10 + bits v 16 10 := rfl
  unfold State.writeRwt State.writeFlds
  rw [wordFlds_bt, hsel, List.foldl_cons, List.foldl_cons, List.foldl_nil, hen, hperiod, State.rd_wr_sep _ _ _ _ _ _ (by decide)]

/-- A take writes the background test's settings. -/
theorem takeWord_bt (s : State) (v : Nat) : (s.takeWord (MEM_BT_en.key / 8) v).rd MEM_BT_en = bits v 0 1 ∧
    (s.takeWord (MEM_BT_en.key / 8) v).rd MEM_BT_period = bits v 16 10 ∧
    (∀ f ∈ triggerFlds, (s.takeWord (MEM_BT_en.key / 8) v).rd f = s.rd f) ∧ (s.takeWord (MEM_BT_en.key / 8) v).slt = s.slt := by
  have heq : s.takeWord (MEM_BT_en.key / 8) v =
      (s.wr MEM_BT_en 0 (s.rd MEM_BT_en - bits (s.rd MEM_BT_en) 0 1 + bits v 0 1)).wr MEM_BT_period 0
        (s.rd MEM_BT_period - bits (s.rd MEM_BT_period) 0 10 + bits v 16 10) := by
    unfold State.takeWord
    dsimp only
    rw [keepOld_bt, calWord_bt.1, calWord_bt.2, if_neg (show ¬ MEM_BT_en.key / 8 = clkEnOff by decide), writeRwt_bt]
    rfl
  rw [heq]
  refine ⟨?_, ?_, fun f hf => ?_, rfl⟩
  · rw [State.rd_wr_sep _ _ _ _ _ _ (by decide), State.rd_wr_same]
    exact replaced_mod _ _ 1 (Nat.mod_lt _ (by decide))
  · rw [State.rd_wr_same]
    exact replaced_mod _ _ 10 (Nat.mod_lt _ (by decide))
  · have hsep := (show ∀ f ∈ triggerFlds, sepFld f MEM_BT_en = true ∧ sepFld f MEM_BT_period = true by decide) f hf
    rw [State.rd_wr_sep _ _ _ _ _ _ hsep.2, State.rd_wr_sep _ _ _ _ _ _ hsep.1]

theorem takeApplyWord_answers : Claims.takeApplyWord := by
  intro j v n s hrun hjobs hphase ht hn hpair hsh hv hclk hdesc hslate htrig
  refine Answers.hub rfl hrun ?_
  have hgated : s.gatedTake j.sh = false := by
    rw [hsh]
    unfold State.gatedTake
    simp only [List.any_cons, List.any_nil, show unitOf (MEM_BT_en.key / 8) = 3 from rfl, hclk]
    rfl
  have happly : Machine.takeApply false s = (((s.drawn j).applyShadow j.sh).freeSlate j.slate) := by
    rw [takeApply_alone hjobs hphase ht hn, if_neg (by rw [hgated]; decide), doTake_eq hpair]
    unfold State.endTake
    rw [hdesc]
  obtain ⟨hframe, hnone, -, -, -⟩ := drawn_effect hjobs
  have htrig' := triggers_drawn hjobs htrig
  rw [happly, hsh]
  generalize s.drawn j = u at hnone htrig'
  obtain ⟨hen, hperiod, hkept, hslt⟩ := takeWord_bt u v
  have hshadow : u.applyShadow { regs := [(MEM_BT_en.key / 8, v)] } = (u.takeWord (MEM_BT_en.key / 8) v).clearTriggers :=
    applyShadow_word rfl fun f hf => (hkept f hf).trans (htrig' f hf)
  rw [hshadow]
  generalize u.takeWord (MEM_BT_en.key / 8) v = w at hen hperiod hslt
  have hclear := State.clearTriggers_frame (Sub.refl _) (Frame.refl _ w)
  generalize w.clearTriggers = x at hclear
  have hfree := State.freeSlate_frame (Sub.refl _) (Frame.refl _ x) j.slate
  have hrd (f : Fld) (h : untouched State.clearTriggers_foot f = true) (h' : untouched State.freeSlate_foot f = true) :
      (x.freeSlate j.slate).rd f = w.rd f := (hfree.rd_of h' 0).trans (hclear.rd_of h 0)
  refine ⟨(hrd _ (by decide +kernel) (by decide +kernel)).trans hen, (hrd _ (by decide +kernel) (by decide +kernel)).trans hperiod, ?_,
    slate_freeSlate ..⟩
  rw [jobs_freeSlate, hclear.slt rfl, hslt, hnone]

end

/-- Settles O19. -/
theorem takes : Obligations.Takes :=
  ⟨take_answers, takeLimit_answers, takeArmed_answers, takePast_answers, takeApplyRing_answers, takeApplyWord_answers, takeFailed_answers,
    pairPrepareTimeout_answers⟩

end Sys2Proof.Machine
end

section
/-!
PROOF. The bridge: what a message that arrives brings first, what sending leaves, and pair takes (R330, R331, R366 to R368, R375).
-/
namespace Sys2Proof.Machine
open Sys2Proof.Claims

set_option Elab.async false

section
variable {s t u : State} {d : Desc} {j : TakeJob} {hdr : BitVec 96} {body : List Byte} {crc : BitVec 32} {kind : Nat}

/-! ### A message received (R368) -/

/-- A valid message has been heard, and what it acknowledges is forgotten. -/
def State.heard (s : State) (hdr : BitVec 96) : State :=
  (s.setPar { s.par with lastRx := s.ts, lost := false, rx := (s.par.rx + 1) % 65536 }).bridgeAck (fieldAt (leBytes 12 hdr.toNat) 4 2)

/-- What hearing a message changes where no checkpoint waits for its acknowledgement: what leaves, and the bridge's counts. -/
structure Heard (s u : State) : Prop where
  frame : Frame 0x80000080 s u
  regs : u.regs = s.regs
  par : u.par = { s.par with lastRx := s.ts, lost := false, rx := (s.par.rx + 1) % 65536, unack := u.par.unack }

theorem Heard.rd (h : Heard s u) (f : Fld) (i : Nat) : u.rd f i = s.rd f i := h.frame.rd_all (by decide) (by decide) f i

/-- What an acknowledgement changes: messages leave, and the list of those that wait. -/
theorem bridgeAck_of_idle (h : s.par.ckptEnd = none) (ack : Nat) : Frame 0x80000080 s (s.bridgeAck ack) ∧
    (s.bridgeAck ack).regs = s.regs ∧ (s.bridgeAck ack).par = { s.par with unack := (s.bridgeAck ack).par.unack } := by
  unfold State.bridgeAck
  extract_lets rest fresh sent src acked
  have hsent : sent.regs = s.regs ∧ sent.par = s.par ∧ Frame 0x80000080 s sent := by
    unfold sent
    suffices ∀ v : State, v.regs = s.regs → v.par = s.par → Frame 0x80000080 s v →
        (fresh.foldl (fun s m => s.send (.bridge (s.bridgeBytes m.kind m.seq m.body))) v).regs = s.regs ∧
          (fresh.foldl (fun s m => s.send (.bridge (s.bridgeBytes m.kind m.seq m.body))) v).par = s.par ∧
          Frame 0x80000080 s (fresh.foldl (fun s m => s.send (.bridge (s.bridgeBytes m.kind m.seq m.body))) v) from
      this s rfl rfl (Frame.refl _ s)
    intro v hregs hpar hframe
    induction fresh generalizing v with
    | nil => exact ⟨hregs, hpar, hframe⟩
    | cons m ms ih => exact ih _ hregs hpar (Frame.set_out (show (0x80000080 : Nat).testBit 7 = true by decide) hframe)
  clear_value sent
  obtain ⟨hregs, hpar, hframe⟩ := hsent
  have hidle : acked.par.ckptEnd = none := by
    show sent.par.ckptEnd = none
    rw [hpar]
    exact h
  have hacked : Frame 0x80000080 s acked ∧ acked.regs = s.regs ∧ acked.par = { s.par with unack := acked.par.unack } := by
    refine ⟨Frame.set_par (show (0x80000080 : Nat).testBit 31 = true by decide) hframe, hregs, ?_⟩
    show { sent.par with unack := acked.par.unack } = _
    rw [hpar]
  clear_value acked
  split
  · next q hq => exact absurd (hidle.symm.trans hq) (by simp)
  · exact hacked

theorem heard_of_idle (h : s.par.ckptEnd = none) (hdr : BitVec 96) : Heard s (s.heard hdr) := by
  unfold State.heard
  obtain ⟨hframe, hregs, hpar⟩ := bridgeAck_of_idle
    (s := s.setPar { s.par with lastRx := s.ts, lost := false, rx := (s.par.rx + 1) % 65536 }) h (fieldAt (leBytes 12 hdr.toNat) 4 2)
  exact ⟨(Frame.set_par (by decide) (Frame.refl _ s)).trans hframe, hregs, hpar⟩

theorem Valid.heard (h : Valid s kind hdr body crc) : Heard s (s.heard hdr) := by
  obtain ⟨-, -, -, -, hidle, -⟩ := h
  exact heard_of_idle hidle hdr

/-- A message that arrives whole, in order and with the right CRC is heard; one that says its sender does not receive splits the pair. -/
theorem bridgeRx_whole (hrun : s.running = true) (hD : s.isD = true) (hup : s.par.up = true) (hidle : s.par.ckptEnd = none)
    (hkind : fieldAt (leBytes 12 hdr.toNat) 0 1 = kind) (hlen : body.length % 8 = 0)
    (hunits : body.length / 8 % 256 = fieldAt (leBytes 12 hdr.toNat) 8 1) (hmin : bridgeMin kind ≤ body.length)
    (hcrc : crc.toNat = crcBytes (leBytes 12 hdr.toNat ++ body)) (hseq : fieldAt (leBytes 12 hdr.toNat) 2 2 = s.par.rx)
    (hstate : s.pState = 1 ∨ s.pState = 2) (f : List Byte → State → State) :
    s.bridgeRx kind hdr body crc f =
      if bit (fieldAt (leBytes 12 hdr.toNat) 1 1) 0 then f (leBytes 12 hdr.toNat) (s.heard hdr) else (s.heard hdr).enterSplit 1 := by
  have hkept : (s.heard hdr).pState = s.pState := (heard_of_idle hidle hdr).rd PAR_STAT_state 0
  have hout : ¬ (s.pState = 3 ∨ s.pState = 4) := by omega
  unfold State.bridgeRx
  dsimp only
  rw [if_neg (by simp [hD, hrun, hup, hkind]), if_neg (by simp [hlen, hunits, hmin, hcrc, hseq])]
  generalize bit (fieldAt (leBytes 12 hdr.toNat) 1 1) 0 = ok
  show (if !ok && decide ((s.heard hdr).pState = 1 ∨ (s.heard hdr).pState = 2) then (s.heard hdr).enterSplit 1
    else f (leBytes 12 hdr.toNat) (if ok && decide ((s.heard hdr).pState = 3 ∨ (s.heard hdr).pState = 4) then (s.heard hdr).startSync
      else s.heard hdr)) = _
  rw [hkept, decide_eq_true hstate, decide_eq_false hout]
  cases ok
  · rfl
  · rfl

/-- A valid message does what its type does, once it has been heard. -/
theorem bridgeRx_valid (h : Valid s kind hdr body crc) (f : List Byte → State → State) :
    s.bridgeRx kind hdr body crc f = f (leBytes 12 hdr.toNat) (s.heard hdr) := by
  obtain ⟨hrun, hD, hup, hstate, hidle, hkind, hlen, hunits, hmin, hcrc, hseq, hok⟩ := h
  rw [bridgeRx_whole hrun hD hup hidle hkind hlen hunits hmin hcrc hseq (Or.inr hstate), if_pos hok]

theorem Answers.bridge {c : Instr} {f : List Byte → State → State} {p : State → Prop}
    (harm : exec c s = hubOn (fun s => s.bridgeRx kind hdr body crc f) s) (h : Valid s kind hdr body crc)
    (hp : p (f (leBytes 12 hdr.toNat) (s.heard hdr))) : Answers c s p :=
  Answers.hub harm h.1 (by rw [bridgeRx_valid h]; exact hp)

/-! ### A message sent (R368) -/

/-- The message sent is the last of those that wait for their acknowledgement. -/
theorem last_bridgeSend (s : State) (kind : Nat) (body : List Byte) :
    (s.bridgeSend kind body).par.unack.getLast?.map (fun m => (m.kind, m.body)) = some (kind, pad8 body) := by
  unfold State.bridgeSend
  dsimp only [State.setPar]
  rw [List.getLast?_concat]
  rfl

theorem tx_bridgeSend (s : State) (kind : Nat) (body : List Byte) : (s.bridgeSend kind body).par.tx = (s.par.tx + 1) % 65536 := rfl

theorem regs_bridgeSend (s : State) (kind : Nat) (body : List Byte) : (s.bridgeSend kind body).regs = s.regs := by
  unfold State.bridgeSend
  extract_lets p b go sent
  show sent.regs = s.regs
  unfold sent
  split <;> rfl

theorem bridgeSend_framed (s : State) (kind : Nat) (body : List Byte) : Frame State.bridgeSend_foot s (s.bridgeSend kind body) :=
  State.bridgeSend_frame (Sub.refl _) (Frame.refl _ s) kind body

theorem jobs_bridgeSend (s : State) (kind : Nat) (body : List Byte) : (s.bridgeSend kind body).slt.jobs = s.slt.jobs :=
  congrArg Slt.jobs ((bridgeSend_framed s kind body).slt rfl)

end

end Sys2Proof.Machine
end

section
/-!
PROOF. Pair takes over the bridge, and the take-over of the roles (R330, R331, R371, R375).
-/
namespace Sys2Proof.Machine
open Sys2Proof.Claims

set_option Elab.async false

section
variable {s t u : State} {d : Desc} {j : TakeJob} {hdr : BitVec 96} {body : List Byte} {crc : BitVec 32} {kind : Nat}

/-! ### The job a message names -/

theorem Heard.jobs (h : Heard s u) : u.slt.jobs = s.slt.jobs := congrArg Slt.jobs (h.frame.slt rfl)

theorem Heard.ts (h : Heard s u) : u.ts = s.ts := h.frame.ts rfl

/-- The one job there is, named by its handle and in a phase that is asked for. -/
theorem jobOf_alone {n : Nat} {p : Nat → Bool} (hjobs : s.slt.jobs = [j]) (hn : j.handle = n) (hp : p j.phase = true) :
    s.jobOf n p = some j := by
  unfold State.jobOf
  rw [hjobs, List.find?_cons_of_pos]
  simp [hn, hp]

/-- A slate freed leaves the engine as it is. -/
theorem slt_freeSlate (s : State) (k : Nat) : ∃ m, (s.freeSlate k).slt = { s.slt with slates := m } := by
  unfold State.freeSlate
  extract_lets x src released
  have hslt : released.slt = s.slt := by
    unfold released
    split <;> rfl
  refine ⟨mput released.slt.slates k { gen := x.gen }, ?_⟩
  unfold State.setSlate
  rw [slt_showSlates, (State.mirror_frame (Sub.refl _) (Frame.refl _ (released.setSlateRaw k { gen := x.gen })) _ _ _).slt rfl]
  show { released.slt with slates := mput released.slt.slates k { gen := x.gen } } = _
  rw [hslt]

theorem jobs_putTake (hjobs : s.slt.jobs = [j]) (k : TakeJob) : (s.putTake j k).slt.jobs = [k] := by
  rw [putTake_alone hjobs, jobs_setJobs]

/-! ### READY, REFUSE, COMMIT, ACK, DONE and ABORT (R330) -/

theorem bridgeReady_answers : Claims.bridgeReady := by
  intro hdr body crc j s hvalid hjobs hphase hhandle hbody
  refine Answers.bridge rfl hvalid ?_
  have hheard := Valid.heard hvalid
  generalize s.heard hdr = u at hheard
  have hjobs' := hheard.jobs.trans hjobs
  have hstatus (x : Nat) : u.armStatus (some x) = 0 := by
    unfold State.armStatus State.afterAll
    have harmed : u.armedTakes = [] := by
      unfold State.armedTakes
      rw [hjobs']
      simp [TakeJob.armed, hphase]
    rw [harmed]
    rfl
  have heq : u.onReady body = (u.putTake j { j with phase := 3, t := some (s.ts + s.rd SLT_PAIR_lead * usT) }).bridgeSend 0x09
      (leBytes 2 j.handle ++ leBytes 6 0 ++ leBytes 8 (s.ts + s.rd SLT_PAIR_lead * usT)) := by
    unfold State.onReady
    dsimp only
    rw [jobOf_alone hjobs' hhandle (by rw [hphase]; rfl)]
    dsimp only
    rw [if_neg (fun h => h.1 hbody), hstatus, if_neg (fun h => h rfl), if_pos hbody, hheard.ts, hheard.rd, hhandle]
  rw [heq]
  exact ⟨(jobs_bridgeSend ..).trans (jobs_putTake hjobs' _), last_bridgeSend ..⟩

theorem bridgeRefuse_answers : Claims.bridgeRefuse := by
  intro hdr body crc j s hvalid hjobs hphase hhandle hslate
  refine Answers.bridge rfl hvalid ?_
  have hheard := Valid.heard hvalid
  generalize s.heard hdr = u at hheard
  have hjobs' := hheard.jobs.trans hjobs
  unfold State.onRefuse
  rw [jobOf_alone hjobs' hhandle (by rw [hphase]; rfl)]
  dsimp only
  have hback : Frame State.slateTo_foot u ((u.dropTake j).slateTo j.slate 1) :=
    State.slateTo_frame (Sub.refl _) ((dropTake_frame u j).mono (show _ &&& _ = _ by decide)) _ _
  have hnone : ((u.dropTake j).slateTo j.slate 1).slt.jobs = [] := (jobs_slateTo ..).trans (jobs_dropTake hjobs')
  have hopen : (((u.dropTake j).slateTo j.slate 1).slate j.slate).state = 1 := congrArg Slate.state (slate_slateTo ..)
  have hdie : ((u.dropTake j).slateTo j.slate 1).rd GEN_CFG_die = s.rd GEN_CFG_die :=
    (hback.rd_of (by decide +kernel) 0).trans (hheard.rd _ 0)
  generalize (u.dropTake j).slateTo j.slate 1 = v at hback hnone hopen hdie
  unfold State.refuseSlate
  rw [hdie]
  have hemit := State.emit_frame (Sub.refl _) (Frame.refl _ v) 6 2 [j.handle, fieldAt body 2 2, fieldAt body 4 4, 1 - s.rd GEN_CFG_die]
  have hrecorded : Recorded s (v.emit 6 2 [j.handle, fieldAt body 2 2, fieldAt body 4 4, 1 - s.rd GEN_CFG_die]) 6 2 _ :=
    (State.emit_recorded v 6 2 _).before ((hback.recd rfl).trans (hheard.frame.recd rfl)) ((hback.ts rfl).trans (hheard.frame.ts rfl))
  have hslt := hemit.slt rfl
  generalize v.emit 6 2 [j.handle, fieldAt body 2 2, fieldAt body 4 4, 1 - s.rd GEN_CFG_die] = w at hslt hrecorded
  have hend := State.endTake_frame (Sub.refl _) (Frame.refl _ w) j 0x0106 (refusal (fieldAt body 2 2, fieldAt body 4 4))
  have hkept := (hend.slt rfl).trans hslt
  exact ⟨(congrArg Slt.jobs hkept).trans hnone, (congrArg Slate.state (slate_of_slt hkept _)).trans hopen, hrecorded.framed hend rfl⟩

theorem bridgeCommit_answers : Claims.bridgeCommit := by
  intro hdr body crc j s hvalid hjobs hphase hhandle hlate
  refine Answers.bridge rfl hvalid ?_
  have hheard := Valid.heard hvalid
  generalize s.heard hdr = u at hheard
  have hjobs' := hheard.jobs.trans hjobs
  have hfrom : u.fromPrimary (fieldAt body 8 8) = s.fromPrimary (fieldAt body 8 8) := by
    unfold State.fromPrimary
    rw [hheard.rd]
  have heq : u.onCommit body = (u.putTake j { j with phase := 8, t := some (s.fromPrimary (fieldAt body 8 8)) }).bridgeSend 0x0A
      (leBytes 2 (fieldAt body 0 2)) := by
    unfold State.onCommit
    dsimp only
    rw [jobOf_alone hjobs' hhandle (by rw [hphase]; rfl)]
    dsimp only
    rw [hfrom, hheard.ts, if_pos hlate]
  rw [heq]
  exact ⟨(jobs_bridgeSend ..).trans (jobs_putTake hjobs' _), last_bridgeSend ..⟩

theorem bridgeAck_answers : Claims.bridgeAck := by
  intro hdr body crc j n s hvalid hjobs hphase hhandle ht hn
  refine Answers.bridge rfl hvalid ?_
  have hheard := Valid.heard hvalid
  generalize s.heard hdr = u at hheard
  have hjobs' := hheard.jobs.trans hjobs
  have heq : u.onAck body = u.setJobs [{ j with phase := 4 }] := by
    unfold State.onAck
    rw [jobOf_alone hjobs' hhandle (by rw [hphase]; rfl)]
    dsimp only
    rw [ht, hheard.ts, if_pos (show s.ts < (some n).getD 0 from hn), putTake_alone hjobs']
  rw [heq]
  exact ⟨jobs_setJobs .., (rd_setJobs_armed ..).trans rfl⟩

theorem bridgeDone_answers : Claims.bridgeDone := by
  intro hdr body crc j s hvalid hjobs hphase hhandle hdone hdesc hslate
  refine Answers.bridge rfl hvalid ?_
  have hheard := Valid.heard hvalid
  generalize s.heard hdr = u at hheard
  have hjobs' := hheard.jobs.trans hjobs
  have hput := jobs_putTake hjobs' { j with done := some (fieldAt body 4 4) }
  have heq : u.onDone body = State.freeSlate (State.setPairOut
      ((u.putTake j { j with done := some (fieldAt body 4 4) }).dropTake { j with done := some (fieldAt body 4 4) }) none) j.slate := by
    unfold State.onDone
    dsimp only
    rw [jobOf_alone hjobs' hhandle (by rw [hphase]; rfl)]
    dsimp only
    unfold State.settlePair State.endTake
    dsimp only
    rw [if_pos hphase, if_pos hdone, hdesc]
  rw [heq]
  have hnone := jobs_dropTake hput
  generalize (u.putTake j { j with done := some (fieldAt body 4 4) }).dropTake { j with done := some (fieldAt body 4 4) } = v at hnone
  obtain ⟨m, hm⟩ := slt_freeSlate (v.setPairOut none) j.slate
  refine ⟨(jobs_freeSlate ..).trans hnone, ?_, slate_freeSlate ..⟩
  rw [hm]
  rfl

theorem bridgeAbort_answers : Claims.bridgeAbort := by
  intro hdr body crc j s hvalid hjobs hphase hhandle
  refine Answers.bridge rfl hvalid ?_
  have hheard := Valid.heard hvalid
  generalize s.heard hdr = u at hheard
  have hjobs' := hheard.jobs.trans hjobs
  unfold State.onAbort
  rw [jobOf_alone hjobs' hhandle (decide_eq_true hphase)]
  dsimp only
  rw [dropTake_alone hjobs']
  exact ⟨jobs_setJobs .., (rd_setJobs_armed ..).trans rfl⟩

/-! ### PREPARE (R330) -/

theorem bridgePrepare_answers : Claims.bridgePrepare := by
  intro hdr body crc s hvalid hrole hfirst hmore
  refine Answers.bridge rfl hvalid ?_
  have hheard := Valid.heard hvalid
  have hpaired : (s.heard hdr).pState = 2 := (hheard.rd PAR_STAT_state 0).trans hvalid.2.2.2.1
  generalize s.heard hdr = u at hheard hpaired
  have hrole' : u.pRole = 2 := (hheard.rd PAR_STAT_role 0).trans hrole
  have heq : u.onPrepare body = u.setSlt { u.slt with prep := [(0, body.drop 16)], prepH := fieldAt body 0 2 } := by
    unfold State.onPrepare
    rw [if_neg (by simp [hrole', hpaired])]
    extract_lets h old parts
    have hparts : parts = [(0, body.drop 16)] := by
      unfold parts old
      rw [if_neg (fun h => h.2 hfirst), hfirst]
      rfl
    rw [hparts]
    exact if_pos hmore
  rw [heq]
  exact ⟨rfl, rfl, hheard.jobs⟩

/-- A PREPARE of one part is checked at once. -/
theorem onPrepare_whole (hrole : s.pRole = 2) (hpaired : s.pState = 2) (hfirst : fieldAt body 2 2 = 0) (hone : fieldAt body 4 2 = 1)
    (hjobs : s.slt.jobs = []) : ∃ v : State, v.slt.jobs = [] ∧
      ((∃ j : TakeJob, j.handle = fieldAt body 0 2 ∧ j.phase = 7 ∧ j.pair = true ∧
          s.onPrepare body = (v.setJobs [j]).bridgeSend 0x07 (leBytes 2 (fieldAt body 0 2))) ∨
        ∃ b, s.onPrepare body = v.bridgeSend 0x08 b) := by
  unfold State.onPrepare
  rw [if_neg (by simp [hrole, hpaired])]
  extract_lets h old parts src bytes sh kept start job
  have hjobs' : kept.slt.jobs = [] := hjobs
  clear_value kept
  have hparts : parts.length = 1 := by
    unfold parts old
    rw [if_neg (fun h => h.2 hfirst)]
    rfl
  rw [if_neg (by rw [hparts, hone]; decide)]
  split
  · next f hf =>
    refine ⟨kept.refuseSlate h f (kept.rd GEN_CFG_die), ?_, Or.inr ⟨_, rfl⟩⟩
    exact (congrArg Slt.jobs ((State.emit_frame (Sub.refl _) (Frame.refl _ kept) 6 2 _).slt rfl)).trans hjobs'
  · refine ⟨kept, hjobs', Or.inl ⟨job, rfl, rfl, rfl, ?_⟩⟩
    rw [hjobs', List.nil_append]

theorem bridgePrepareLast_answers : Claims.bridgePrepareLast := by
  intro hdr body crc s hvalid hrole hfirst hone hjobs
  refine Answers.bridge rfl hvalid ?_
  have hheard := Valid.heard hvalid
  obtain ⟨v, hnone, ⟨j, hhandle, hphase, hpair, heq⟩ | ⟨b, heq⟩⟩ := onPrepare_whole (body := body)
    ((hheard.rd PAR_STAT_role 0).trans hrole) ((hheard.rd PAR_STAT_state 0).trans hvalid.2.2.2.1) hfirst hone (hheard.jobs.trans hjobs)
  · rw [heq]
    refine Or.inl ⟨?_, last_bridgeSend ..⟩
    rw [jobs_bridgeSend, jobs_setJobs, List.map_cons, List.map_nil, hhandle, hphase, hpair]
  · rw [heq]
    refine Or.inr ⟨(jobs_bridgeSend ..).trans hnone, ?_⟩
    have hlast := congrArg (Option.map Prod.fst) (last_bridgeSend v 0x08 b)
    rw [Option.map_map] at hlast
    exact hlast

/-! ### The take-over (R371, R375) -/

/-- The headers and completions mirrored here. -/
def Mirrored (s t : State) : Prop := t.par.hdrs = s.par.hdrs ∧ t.par.cpls = s.par.cpls

theorem mirror_mirrored (s : State) (obj idx : Nat) (data : List Byte) : Mirrored s (s.mirror obj idx data) := by
  unfold State.mirror
  split
  · exact ⟨rfl, rfl⟩
  · exact ⟨rfl, rfl⟩

theorem setJob_mirrored (s : State) (n : Nat) (x : Job) : Mirrored s (s.setJob n x) := by
  unfold State.setJob
  exact mirror_mirrored ..

/-- A new primary holds no header or completion mirrored to it before. -/
theorem resumeRoles_empty (s : State) : s.resumeRoles.par.hdrs = [] ∧ s.resumeRoles.par.cpls = [] := by
  unfold State.resumeRoles
  extract_lets dropped resumed src emptied closed
  suffices closed.par.hdrs = [] ∧ closed.par.cpls = [] from this
  have hstart : emptied.par.hdrs = [] ∧ emptied.par.cpls = [] := ⟨rfl, rfl⟩
  unfold closed
  clear_value emptied
  generalize emptied.acc.jobs = l
  induction l generalizing emptied with
  | nil => exact hstart
  | cons e l ih =>
    refine ih _ ?_
    dsimp only
    split
    · exact ⟨(setJob_mirrored ..).1.trans hstart.1, (setJob_mirrored ..).2.trans hstart.2⟩
    · split
      · exact ⟨(setJob_mirrored ..).1.trans hstart.1, (setJob_mirrored ..).2.trans hstart.2⟩
      · exact hstart

theorem refreshDie_par (s : State) : s.refreshDie.par = s.par := (State.refreshDie_frame (Sub.refl _) (Frame.refl _ s)).par rfl

theorem refreshBudget_mirrored (s : State) : Mirrored s s.refreshBudget := by
  unfold State.refreshBudget
  extract_lets cap b source old noted
  have hnoted : noted.par = s.par := (State.emit_frame (Sub.refl _) (Frame.refl _ (s.wr ACT_PKG_BUD 0 b)) 15 6 [old, b, source]).par rfl
  clear_value noted
  have hmirror := mirror_mirrored noted 0x06 1024 (leBytes 4 b)
  generalize noted.mirror 0x06 1024 (leBytes 4 b) = v at hmirror
  have hv : Mirrored s v := ⟨hmirror.1.trans (congrArg Par.hdrs hnoted), hmirror.2.trans (congrArg Par.cpls hnoted)⟩
  have hdie : Mirrored s v.refreshDie := by
    unfold Mirrored
    rw [refreshDie_par]
    exact hv
  split
  · exact ⟨rfl, rfl⟩
  · split
    · unfold State.untilMack
      split
      · split
        · exact hv
        · exact hdie
      · exact hdie
    · exact ⟨congrArg Par.hdrs hnoted, congrArg Par.cpls hnoted⟩

/-- The footprint of the roles resumed and of what follows from it. -/
def resumedFoot : Nat := State.resumeRoles_foot ||| State.refreshBudget_foot ||| State.refreshDie_foot

theorem pairTakeover_answers : Claims.pairTakeover := by
  intro s hrun hD hstate hrole hlate
  refine Answers.hub rfl hrun ?_
  have heq : Machine.pairTakeover s = (s.wr PAR_STAT_term 0 (s.rd PAR_STAT_term + 1)).becomePrimary 4 :=
    if_pos ⟨hD, hstate, hrole, hlate⟩
  rw [heq]
  unfold State.becomePrimary
  extract_lets primary
  have hterm : ((s.wr PAR_STAT_term 0 (s.rd PAR_STAT_term + 1)).wr PAR_STAT_role 0 1 |>.bump PAR_CNT_failover).rd PAR_STAT_term =
      (s.rd PAR_STAT_term + 1) % 2 ^ PAR_STAT_term.width := by
    simp (disch := decide) only [State.rd_bump_sep, State.rd_wr_sep, State.rd_wr_same]
  have hcount : ((s.wr PAR_STAT_term 0 (s.rd PAR_STAT_term + 1)).wr PAR_STAT_role 0 1 |>.bump PAR_CNT_failover).rd PAR_CNT_failover =
      (s.rd PAR_CNT_failover + 1) % 2 ^ PAR_CNT_failover.width := by
    rw [State.rd_bump_same]
    simp (disch := decide) only [State.rd_wr_sep]
  have hone : ((s.wr PAR_STAT_term 0 (s.rd PAR_STAT_term + 1)).wr PAR_STAT_role 0 1 |>.bump PAR_CNT_failover).rd PAR_STAT_role = 1 :=
    (State.rd_bump_sep _ _ _ _ _ (by decide)).trans (State.rd_wr_same ..)
  have hshown (f : Fld) (hf : sepFld f EVT_DROP_dropped = true) : primary.rd f =
      ((s.wr PAR_STAT_term 0 (s.rd PAR_STAT_term + 1)).wr PAR_STAT_role 0 1 |>.bump PAR_CNT_failover).rd f := State.rd_emit _ _ _ _ _ _ hf
  have hrecorded : Recorded s primary 22 2 [(s.rd PAR_STAT_term + 1) % 2 ^ PAR_STAT_term.width, 4] := by
    have htold := State.emit_recorded ((s.wr PAR_STAT_term 0 (s.rd PAR_STAT_term + 1)).wr PAR_STAT_role 0 1 |>.bump PAR_CNT_failover) 22 2
      [(s.rd PAR_STAT_term + 1) % 2 ^ PAR_STAT_term.width, 4]
    have hprimary : primary = ((s.wr PAR_STAT_term 0 (s.rd PAR_STAT_term + 1)).wr PAR_STAT_role 0 1 |>.bump PAR_CNT_failover).emit 22 2
        [(s.rd PAR_STAT_term + 1) % 2 ^ PAR_STAT_term.width, 4] := by
      rw [← State.rd_wr_same s PAR_STAT_term 0 (s.rd PAR_STAT_term + 1)]
    rw [hprimary]
    exact htold.before rfl rfl
  clear_value primary
  have hempty := resumeRoles_empty primary
  have hbudget := refreshBudget_mirrored primary.resumeRoles
  have hframe : Frame resumedFoot primary primary.resumeRoles.refreshBudget.refreshDie :=
    State.refreshDie_frame (show _ &&& _ = _ by decide) (State.refreshBudget_frame (show _ &&& _ = _ by decide)
      (State.resumeRoles_frame (show _ &&& _ = _ by decide) (Frame.refl _ primary)))
  refine ⟨?_, ?_, ?_, ?_, ?_, hrecorded.framed hframe (by decide)⟩
  · exact (hframe.rd_of (f := PAR_STAT_role) (by decide +kernel) 0).trans ((hshown _ (by decide)).trans hone)
  · rw [hframe.rd_of (by decide +kernel), hshown _ (by decide), hterm]
  · rw [hframe.rd_of (by decide +kernel), hshown _ (by decide), hcount]
  · rw [refreshDie_par, hbudget.1, hempty.1]
  · rw [refreshDie_par, hbudget.2, hempty.2]

end

/-- Settles O29. -/
theorem pairTakes : Obligations.PairTakes :=
  ⟨pairTakeover_answers, bridgeReady_answers, bridgeRefuse_answers, bridgeCommit_answers, bridgeAck_answers, bridgeDone_answers,
    bridgeAbort_answers, bridgePrepare_answers, bridgePrepareLast_answers⟩

end Sys2Proof.Machine
end

section
/-!
PROOF. The bridge's messages: validity, SYNC, checkpoints, mirrors and power (R235, R365 to R372).
-/
namespace Sys2Proof.Machine
open Sys2Proof.Claims

set_option Elab.async false

section
variable {s t u : State} {d : Desc} {hdr : BitVec 96} {body : List Byte} {crc : BitVec 32} {kind : Nat}

/-! ### Validity (R366, R368, R371) -/

theorem Heard.kept (h : Heard s u) : u.par.rx = (s.par.rx + 1) % 65536 ∧ u.par.lastRx = s.ts ∧ u.par.lost = false := by
  rw [h.par]
  exact ⟨rfl, rfl, rfl⟩

theorem bridgeHb_answers : Claims.bridgeHb := by
  intro hdr body crc s hvalid
  refine Answers.bridge rfl hvalid ?_
  have hheard := Valid.heard hvalid
  obtain ⟨hrx, hlast, hlost⟩ := hheard.kept
  exact ⟨hrx, hlast, hlost, hheard.regs, hheard.frame.acc rfl⟩

theorem bridgeBadCrc_answers : Claims.bridgeBadCrc := by
  intro hdr body crc s hrun hD hup hkind hcrc
  refine Answers.hub (f := fun s => s.bridgeRx 0x01 hdr body crc fun _ s => s) rfl hrun ?_
  unfold State.bridgeRx
  dsimp only
  rw [if_neg (by simp [hD, hrun, hup, hkind]), if_pos (Or.inr (Or.inr (Or.inr (Or.inl hcrc))))]
  exact ⟨rfl, State.rd_bump_same .., rfl⟩

/-! ### The loss of the bridge (R371) -/

/-- The bridge's state at its loss, with the package power that this die is left. -/
def Par.parted (x : Par) (now power : Nat) : Par :=
  { x with splitT := now, added := 0, ckptEnd := none, ckptOn := false, ckpt := [], handing := none, mir := none, waits := [], p := power }

/-- A PRIMARY that has lost its bridge, before its pair takes are settled. -/
def State.parted (s : State) (cause : Nat) : State :=
  (((((s.wr PAR_STAT_up 0 0).setPar
    (s.par.parted s.ts (min ((s.wr PAR_STAT_up 0 0).rd ACT_PKG_CAP_cap) ((s.wr PAR_STAT_up 0 0).rd ACT_PKG_BUD)))).wr
    PAR_STAT_role 0 3).wr PAR_STAT_state 0 3).bump PAR_CNT_split).emit 22 1 [cause, 1]

theorem enterSplit_eq (hrole : s.pRole = 1) (cause : Nat) : s.enterSplit cause = (s.parted cause).splitTakes.refreshDie := by
  unfold State.enterSplit
  rw [hrole]
  rfl

theorem parted_effect (s : State) (cause : Nat) : (s.parted cause).pState = 3 ∧ (s.parted cause).pRole = 3 ∧
    (s.parted cause).rd PAR_STAT_up = 0 ∧ (s.parted cause).rd PAR_CNT_split = (s.rd PAR_CNT_split + 1) % 2 ^ PAR_CNT_split.width ∧
    Recorded s (s.parted cause) 22 1 [cause, 1] := by
  unfold State.parted
  generalize hv : (s.wr PAR_STAT_up 0 0).setPar
    (s.par.parted s.ts (min ((s.wr PAR_STAT_up 0 0).rd ACT_PKG_CAP_cap) ((s.wr PAR_STAT_up 0 0).rd ACT_PKG_BUD))) = v
  have hup : v.rd PAR_STAT_up = 0 := by
    rw [← hv]
    exact State.rd_wr_same ..
  have hsplit : v.rd PAR_CNT_split = s.rd PAR_CNT_split := by
    rw [← hv]
    exact State.rd_wr_sep _ _ _ _ _ _ (by decide)
  have hrecd : v.recd = s.recd ∧ v.ts = s.ts := by
    rw [← hv]
    exact ⟨rfl, rfl⟩
  clear hv
  have hshown (f : Fld) (hf : sepFld f EVT_DROP_dropped = true) :
      ((((v.wr PAR_STAT_role 0 3).wr PAR_STAT_state 0 3).bump PAR_CNT_split).emit 22 1 [cause, 1]).rd f =
        (((v.wr PAR_STAT_role 0 3).wr PAR_STAT_state 0 3).bump PAR_CNT_split).rd f := State.rd_emit _ _ _ _ _ _ hf
  refine ⟨?_, ?_, ?_, ?_, ?_⟩
  · exact (hshown PAR_STAT_state (by decide)).trans ((State.rd_bump_sep _ _ _ _ _ (by decide)).trans (State.rd_wr_same ..))
  · refine (hshown PAR_STAT_role (by decide)).trans ((State.rd_bump_sep _ _ _ _ _ (by decide)).trans ?_)
    exact (State.rd_wr_sep _ _ _ _ _ _ (by decide)).trans (State.rd_wr_same ..)
  · rw [hshown _ (by decide)]
    simp (disch := decide) only [State.rd_bump_sep, State.rd_wr_sep]
    exact hup
  · rw [hshown _ (by decide), State.rd_bump_same]
    simp (disch := decide) only [State.rd_wr_sep]
    rw [hsplit]
  · exact (State.emit_recorded (((v.wr PAR_STAT_role 0 3).wr PAR_STAT_state 0 3).bump PAR_CNT_split) 22 1 _).before hrecd.1 hrecd.2

/-- The footprint of the takes settled and of the die's budget. -/
def settledFoot : Nat := State.splitTakes_foot ||| State.refreshDie_foot

theorem settled_frame (s : State) : Frame settledFoot s s.splitTakes.refreshDie :=
  State.refreshDie_frame (show _ &&& _ = _ by decide) (State.splitTakes_frame (show _ &&& _ = _ by decide) (Frame.refl _ s))

/-- What SPLIT shows at a PRIMARY. -/
theorem enterSplit_effect (hrole : s.pRole = 1) (cause : Nat) : (s.enterSplit cause).pState = 3 ∧ (s.enterSplit cause).pRole = 3 ∧
    (s.enterSplit cause).rd PAR_STAT_up = 0 ∧
    (s.enterSplit cause).rd PAR_CNT_split = (s.rd PAR_CNT_split + 1) % 2 ^ PAR_CNT_split.width ∧
    Recorded s (s.enterSplit cause) 22 1 [cause, 1] := by
  rw [enterSplit_eq hrole]
  obtain ⟨hstate, hrole', hup, hcount, hrecorded⟩ := parted_effect s cause
  generalize s.parted cause = v at hstate hrole' hup hcount hrecorded
  have hframe := settled_frame v
  refine ⟨(hframe.rd_of (f := PAR_STAT_state) (by decide +kernel) 0).trans hstate,
    (hframe.rd_of (f := PAR_STAT_role) (by decide +kernel) 0).trans hrole', (hframe.rd_of (by decide +kernel) 0).trans hup,
    (hframe.rd_of (by decide +kernel) 0).trans hcount, hrecorded.framed hframe (by decide)⟩

theorem bridgeNotReceiving_answers : Claims.bridgeNotReceiving := by
  intro hdr body crc s hrun hD hup hstate hidle hkind hlen hunits hcrc hseq hok hrole
  refine Answers.hub (f := fun s => s.bridgeRx 0x01 hdr body crc fun _ s => s) rfl hrun ?_
  have hheard := heard_of_idle hidle hdr
  rw [bridgeRx_whole hrun hD hup hidle hkind hlen hunits (Nat.zero_le _) hcrc hseq (Or.inr hstate), hok, if_neg Bool.false_ne_true]
  generalize s.heard hdr = u at hheard
  obtain ⟨hstate', hrole', -, hcount, hrecorded⟩ := enterSplit_effect (s := u) ((hheard.rd PAR_STAT_role 0).trans hrole) 1
  rw [hheard.rd] at hcount
  exact ⟨hstate', hrole', hcount, hrecorded.before (hheard.frame.recd rfl) (hheard.frame.ts rfl)⟩

/-! ### SYNC (R365) -/

/-- What the start of SYNC leaves where no pair take's outcome is open. -/
theorem startSync_effect (hnone : s.slt.pairOut = none) : s.startSync.pState = 1 ∧ s.startSync.rd PAR_STAT_up = 1 ∧ ∃ p : Par,
    s.startSync.par = p ∧ p.up = s.par.up ∧ p.rx = s.par.rx ∧ p.tx = (s.par.tx + 1) % 65536 ∧ p.former = s.pRole ∧
      p.unack.map (fun m => m.kind) = s.par.unack.map (fun m => m.kind) ++ [0x02] := by
  unfold State.startSync
  extract_lets src opened shown told
  have hpair : told.slt.pairOut = none := (congrArg Slt.pairOut ((bridgeSend_framed shown 0x02 _).slt rfl)).trans hnone
  have hstate : told.rd PAR_STAT_state = 1 := by
    refine ((bridgeSend_framed shown 0x02 _).rd_of (by decide +kernel) 0).trans ?_
    exact (State.rd_wr_sep _ _ _ _ _ _ (by decide)).trans (State.rd_wr_same ..)
  have hup : told.rd PAR_STAT_up = 1 := ((bridgeSend_framed shown 0x02 _).rd_of (by decide +kernel) 0).trans (State.rd_wr_same ..)
  have hpar : told.par.up = s.par.up ∧ told.par.rx = s.par.rx ∧ told.par.tx = (s.par.tx + 1) % 65536 ∧ told.par.former = s.pRole ∧
      told.par.unack.map (fun m => m.kind) = s.par.unack.map (fun m => m.kind) ++ [0x02] :=
    ⟨rfl, rfl, rfl, rfl, List.map_append⟩
  clear_value told
  split
  · next h => exact absurd (hpair.symm.trans h) (by simp)
  · have hdie := State.refreshDie_frame (Sub.refl _) (Frame.refl _ told)
    exact ⟨(hdie.rd_of (f := PAR_STAT_state) (by decide +kernel) 0).trans hstate, (hdie.rd_of (by decide +kernel) 0).trans hup, told.par,
      refreshDie_par told, hpar⟩

theorem bridgeUp_answers : Claims.bridgeUp := by
  intro s hrun hD hdown hnone
  refine Answers.hub rfl hrun ?_
  have heq : Machine.bridgeUp s =
      (s.setPar { s.par with up := true, tx := 0, rx := 0, unack := [], lost := false, lastRx := s.ts, t1 := none }).startSync :=
    if_pos (by simp [hD, hrun, hdown])
  rw [heq]
  generalize hv : s.setPar { s.par with up := true, tx := 0, rx := 0, unack := [], lost := false, lastRx := s.ts, t1 := none } = v
  have hstart : v.pRole = s.pRole ∧ v.slt.pairOut = none ∧ v.par.up = true ∧ v.par.rx = 0 ∧ v.par.tx = 0 ∧ v.par.unack = [] := by
    rw [← hv]
    exact ⟨rfl, hnone, rfl, rfl, rfl, rfl⟩
  clear hv
  obtain ⟨hrole, hpair, hup, hrx, htx, hunack⟩ := hstart
  obtain ⟨hstate, hshown, p, hpar, hup', hrx', htx', hformer, hkinds⟩ := startSync_effect hpair
  rw [hpar]
  refine ⟨hstate, hshown, hup'.trans hup, hrx'.trans hrx, ?_, hformer.trans hrole, ?_⟩
  · rw [htx', htx]
  · rw [hkinds, hunack]
    rfl

/-- Who wins does not hang on what has been heard. -/
theorem Heard.winsSync (h : Heard s u) (term role : Nat) : u.winsSync term role = s.winsSync term role := by
  have hformer : u.par.former = s.par.former := by rw [h.par]
  unfold State.winsSync
  rw [hformer, h.rd, h.rd]

theorem Heard.ckptEnd (h : Heard s u) : u.par.ckptEnd = s.par.ckptEnd := by rw [h.par]

theorem fieldAt_lt (b : List Byte) (o n : Nat) : fieldAt b o n < 2 ^ (8 * n) := by
  have hlen : ((b.drop o).take n).length ≤ n := List.length_take_le ..
  calc leNat ((b.drop o).take n) < 256 ^ ((b.drop o).take n).length := Tests.leNat_lt _
    _ ≤ 256 ^ n := Nat.pow_le_pow_right (by decide) hlen
    _ = 2 ^ (8 * n) := by rw [Nat.pow_mul]

/-- The secondary of a SYNC. -/
theorem syncSecondary_effect (s : State) (term : Nat) : (s.syncSecondary term).pRole = 2 ∧
    (s.syncSecondary term).rd PAR_STAT_term = term % 2 ^ PAR_STAT_term.width ∧ (s.syncSecondary term).par.ledger = [] ∧
    (s.syncSecondary term).rd PAR_STAT_ledger = 0 := by
  unfold State.syncSecondary
  extract_lets dropped recs sent
  have hframe : Frame (State.dropRole_foot ||| State.bridgeSend_foot) ((s.wr PAR_STAT_role 0 2).wr PAR_STAT_term 0 term) sent := by
    have hdropped : Frame (State.dropRole_foot ||| State.bridgeSend_foot) ((s.wr PAR_STAT_role 0 2).wr PAR_STAT_term 0 term) dropped :=
      State.dropRole_frame (show _ &&& _ = _ by decide) (Frame.refl _ _)
    unfold sent
    split
    · exact hdropped
    · exact Frame.foldl hdropped fun u b h => State.bridgeSend_frame (show _ &&& _ = _ by decide) h _ _
  clear_value sent
  have hrd (f : Fld) (hf : sepFld f PAR_STAT_ledger = true) (h : untouched (State.dropRole_foot ||| State.bridgeSend_foot) f = true) :
      ((sent.setPar { sent.par with ledger := [] }).wr PAR_STAT_ledger 0 0).rd f =
        ((s.wr PAR_STAT_role 0 2).wr PAR_STAT_term 0 term).rd f := (State.rd_wr_sep _ _ _ _ _ _ hf).trans (hframe.rd_of h 0)
  refine ⟨(hrd PAR_STAT_role (by decide) (by decide +kernel)).trans ?_, (hrd PAR_STAT_term (by decide) (by decide +kernel)).trans ?_, rfl,
    State.rd_wr_same ..⟩
  · exact (State.rd_wr_sep _ _ _ _ _ _ (by decide)).trans (State.rd_wr_same ..)
  · exact State.rd_wr_same ..

theorem bridgeSyncSecondary_answers : Claims.bridgeSyncSecondary := by
  intro hdr body crc s hrun hD hup hstate hidle hkind hlen hunits hmin hcrc hseq hok hloses
  refine Answers.hub (f := fun s => s.bridgeRx 0x02 hdr body crc fun h s => s.onSync h body) rfl hrun ?_
  have hheard := heard_of_idle hidle hdr
  rw [bridgeRx_whole hrun hD hup hidle hkind hlen hunits hmin hcrc hseq (Or.inl hstate), if_pos hok]
  generalize s.heard hdr = u at hheard
  have heq : u.onSync (leBytes 12 hdr.toNat) body = u.syncSecondary (fieldAt (leBytes 12 hdr.toNat) 6 2) := by
    unfold State.onSync
    dsimp only
    rw [if_pos (show u.pState = 1 from (hheard.rd PAR_STAT_state 0).trans hstate), hheard.winsSync, hloses, if_neg Bool.false_ne_true]
  obtain ⟨hrole, hterm, hledger, hshown⟩ := syncSecondary_effect u (fieldAt (leBytes 12 hdr.toNat) 6 2)
  rw [heq]
  exact ⟨hrole, hterm.trans (Nat.mod_eq_of_lt (fieldAt_lt _ 6 2)), hledger, hshown⟩

/-! ### Checkpoints (R370) -/

theorem packRecs_ne_nil (n : Nat) (rs : List (List Byte)) (cur : List Byte) : packRecs n rs cur ≠ [] := by
  induction rs generalizing cur with
  | nil => simp [packRecs]
  | cons r rs ih =>
    unfold packRecs
    split
    · exact ih _
    · simp

/-- Messages sent one after the other. -/
theorem sends_effect {α : Type} (g : α → Nat × List Byte) (l : List α) (s : State) :
    (l.foldl (fun s a => s.bridgeSend (g a).1 (g a).2) s).regs = s.regs ∧
      (l.foldl (fun s a => s.bridgeSend (g a).1 (g a).2) s).ts = s.ts ∧
      (l ≠ [] → (l.foldl (fun s a => s.bridgeSend (g a).1 (g a).2) s).par.tx = (s.par.tx + l.length) % 65536) := by
  induction l generalizing s with
  | nil => exact ⟨rfl, rfl, fun h => absurd rfl h⟩
  | cons a l ih =>
    obtain ⟨hregs, hts, htx⟩ := ih (s.bridgeSend (g a).1 (g a).2)
    refine ⟨hregs.trans (regs_bridgeSend ..), hts.trans ((bridgeSend_framed ..).ts rfl), fun _ => ?_⟩
    rw [List.foldl_cons, List.length_cons]
    by_cases hl : l = []
    · subst hl
      rfl
    · rw [htx hl, tx_bridgeSend]
      omega

theorem sendCkpt_effect (s : State) : s.sendCkpt.regs = s.regs ∧ s.sendCkpt.par.ckptT = s.ts ∧
    s.sendCkpt.par.tx = (s.par.tx + s.ckptParts) % 65536 := by
  unfold State.sendCkpt State.ckptParts
  have hsome := packRecs_ne_nil 2024 s.ckptRecs []
  generalize packRecs 2024 s.ckptRecs [] = ps at hsome
  extract_lets parts n sent src
  obtain ⟨hregs, hts, htx⟩ := sends_effect (fun p : List Byte × Nat => (0x03, leBytes 2 (n - 1 - p.2) ++ leBytes 6 0 ++ p.1))
    (parts.zip (List.range n)) s
  have hlen : (parts.zip (List.range n)).length = n := by rw [List.length_zip, List.length_range, Nat.min_self]
  have hne : parts.zip (List.range n) ≠ [] := by
    intro h
    rw [h] at hlen
    exact hsome (List.length_eq_zero_iff.1 hlen.symm)
  exact ⟨hregs, hts, (htx hne).trans (by rw [hlen])⟩

/-- The primary of a SYNC. -/
theorem syncPrimary_effect (s : State) (role : Nat) (ledger : Bool) : (s.syncPrimary role ledger).pRole = 1 ∧
    (s.syncPrimary role ledger).rd PAR_STAT_term = s.rd PAR_STAT_term ∧ (s.syncPrimary role ledger).par.ckptEnd.isSome = true ∧
    (s.syncPrimary role ledger).par.ckptT = s.ts ∧ (s.syncPrimary role ledger).rd PAR_STAT_ledger = 0 := by
  unfold State.syncPrimary
  extract_lets split ruled own src kept cleared noted announced sent src'
  have hnoted : Frame State.emit_foot cleared noted := by
    unfold noted
    split
    · exact State.emit_frame (Sub.refl _) (Frame.refl _ cleared) 22 5 _
    · exact Frame.refl _ cleared
  have hsent : Frame (State.emit_foot ||| State.sendCkpt_foot) cleared sent :=
    State.sendCkpt_frame (show _ &&& _ = _ by decide) (State.bridgeSend_frame (show _ &&& _ = _ by decide)
      (hnoted.mono (show _ &&& _ = _ by decide)) _ _)
  have hckpt : sent.par.ckptT = s.ts := by
    refine (sendCkpt_effect announced).2.1.trans ?_
    exact ((bridgeSend_framed noted 0x02 _).ts rfl).trans (hnoted.ts rfl)
  have hcleared : cleared.rd PAR_STAT_role = 1 ∧ cleared.rd PAR_STAT_term = s.rd PAR_STAT_term ∧ cleared.rd PAR_STAT_ledger = 0 :=
    ⟨(State.rd_wr_sep _ _ _ _ _ _ (by decide)).trans (State.rd_wr_same ..),
      (State.rd_wr_sep _ _ _ _ _ _ (by decide)).trans (State.rd_wr_sep _ _ _ _ _ _ (by decide)), State.rd_wr_same ..⟩
  clear_value sent cleared
  obtain ⟨hrole, hterm, hledger⟩ := hcleared
  exact ⟨(hsent.rd_of (f := PAR_STAT_role) (by decide +kernel) 0).trans hrole, (hsent.rd_of (by decide +kernel) 0).trans hterm, rfl,
    hckpt, (hsent.rd_of (by decide +kernel) 0).trans hledger⟩

theorem bridgeSyncPrimary_answers : Claims.bridgeSyncPrimary := by
  intro hdr body crc s hrun hD hup hstate hidle hkind hlen hunits hmin hcrc hseq hok hwins
  refine Answers.hub (f := fun s => s.bridgeRx 0x02 hdr body crc fun h s => s.onSync h body) rfl hrun ?_
  have hheard := heard_of_idle hidle hdr
  rw [bridgeRx_whole hrun hD hup hidle hkind hlen hunits hmin hcrc hseq (Or.inl hstate), if_pos hok]
  generalize s.heard hdr = u at hheard
  have heq : u.onSync (leBytes 12 hdr.toNat) body = u.syncPrimary (fieldAt body 0 1) (decide (fieldAt body 1 1 = 1)) := by
    unfold State.onSync
    dsimp only
    rw [if_pos (show u.pState = 1 from (hheard.rd PAR_STAT_state 0).trans hstate), hheard.winsSync, hwins, if_pos rfl,
      hheard.ckptEnd, hidle]
    rfl
  obtain ⟨hrole, hterm, hend, hckpt, hledger⟩ := syncPrimary_effect u (fieldAt body 0 1) (decide (fieldAt body 1 1 = 1))
  rw [heq]
  exact ⟨hrole, hterm.trans (hheard.rd ..), hend, hckpt.trans (hheard.frame.ts rfl), hledger⟩

theorem Heard.ckptOn (h : Heard s u) : u.par.ckptOn = s.par.ckptOn := by rw [h.par]

/-- A part of a checkpoint, the first. -/
theorem onCkpt_first (hrole : s.pRole = 2) (hoff : s.par.ckptOn = false) (hmore : fieldAt body 0 2 ≠ 0) :
    s.onCkpt body = s.setPar { s.par with ckpt := body.drop 8, ckptOn := true } := by
  unfold State.onCkpt
  rw [if_neg (fun h => h hrole), hoff]
  dsimp only
  rw [if_pos hmore]
  rfl

theorem bridgeCkptPart_answers : Claims.bridgeCkptPart := by
  intro hdr body crc s hvalid hrole hoff hmore
  refine Answers.bridge rfl hvalid ?_
  have hheard := Valid.heard hvalid
  generalize s.heard hdr = u at hheard
  rw [onCkpt_first ((hheard.rd PAR_STAT_role 0).trans hrole) (hheard.ckptOn.trans hoff) hmore]
  exact ⟨rfl, rfl, hheard.frame.acc rfl, hheard.regs⟩

/-- What is emptied before a checkpoint is applied. -/
theorem emptyMirror_effect (s : State) : s.emptyMirror.acc.tenants = [] ∧ s.emptyMirror.acc.queues = [] ∧
    s.emptyMirror.acc.jobs = [] ∧ s.emptyMirror.hif.trings = [] ∧ s.emptyMirror.slt.slates = [] ∧
    s.emptyMirror.par = { s.par with hdrs := [], cpls := [] } ∧
    s.emptyMirror.pRole = s.pRole ∧ s.emptyMirror.pState = s.pState := by
  have hframe := State.emptyMirror_frame (Sub.refl _) (Frame.refl _ s)
  refine ⟨rfl, rfl, rfl, rfl, rfl, ?_, hframe.rd_of (f := PAR_STAT_role) (by decide +kernel) 0,
    hframe.rd_of (f := PAR_STAT_state) (by decide +kernel) 0⟩
  have hrings : (s.hif.rings.foldl (fun s e => s.setRState e.1 0) s).par = s.par :=
    (Frame.foldl (m := State.setRState_foot) (Frame.refl _ s) fun u e h => State.setRState_frame (Sub.refl _) h e.1 0).par rfl
  unfold State.emptyMirror
  generalize s.hif.rings.foldl (fun s e => s.setRState e.1 0) s = v at hrings
  show { v.par with hdrs := [], cpls := [] } = _
  rw [hrings]

/-- A checkpoint that holds no record. -/
theorem onCkpt_empty (hrole : s.pRole = 2) (hpaired : s.pState = 2) (hoff : s.par.ckptOn = false) (hlast : fieldAt body 0 2 = 0)
    (hlen : body.length = 8) (hhand : s.par.handing = none) :
    s.onCkpt body = (s.setPar { s.par with ckpt := [], ckptOn := false }).emptyMirror := by
  have hrecs : (if s.par.ckptOn = true then s.par.ckpt else []) ++ body.drop 8 = [] := by
    rw [hoff, if_neg Bool.false_ne_true, List.drop_of_length_le (Nat.le_of_eq hlen)]
    rfl
  obtain ⟨-, -, -, -, -, hpar, -, hstate⟩ := emptyMirror_effect (s.setPar { s.par with ckpt := [], ckptOn := false })
  have hnone : (s.setPar { s.par with ckpt := [], ckptOn := false }).emptyMirror.par.handing = none := by
    rw [hpar]
    exact hhand
  have hpaired' : (s.setPar { s.par with ckpt := [], ckptOn := false }).emptyMirror.pState = 2 := hstate.trans hpaired
  unfold State.onCkpt
  rw [if_neg (fun h => h hrole)]
  dsimp only
  rw [if_neg (not_not.2 hlast), hrecs]
  unfold State.applyRecs
  rw [List.length_nil, recsOf, List.foldl_nil, hpaired', if_neg (by decide)]
  split
  · next c h => exact absurd (hnone.symm.trans h) (by simp)
  · rfl

theorem Heard.handing (h : Heard s u) : u.par.handing = s.par.handing := by rw [h.par]

theorem bridgeCkptLast_answers : Claims.bridgeCkptLast := by
  intro hdr body crc s hvalid hrole hoff hlast hlen hhand
  refine Answers.bridge rfl hvalid ?_
  have hheard := Valid.heard hvalid
  have hpaired : (s.heard hdr).pState = 2 := (hheard.rd PAR_STAT_state 0).trans hvalid.2.2.2.1
  generalize s.heard hdr = u at hheard hpaired
  have hrole' : u.pRole = 2 := (hheard.rd PAR_STAT_role 0).trans hrole
  rw [onCkpt_empty hrole' hpaired (hheard.ckptOn.trans hoff) hlast hlen (hheard.handing.trans hhand)]
  obtain ⟨htenants, hqueues, hjobs, htrings, hslates, hpar, hrole'', -⟩ :=
    emptyMirror_effect (u.setPar { u.par with ckpt := [], ckptOn := false })
  exact ⟨htenants, hqueues, hjobs, htrings, hslates, by rw [hpar]; rfl, hrole''.trans hrole'⟩

/-! ### Mirrors (R367, R370) -/

/-- A number of so many bytes stands where it was put. -/
theorem fieldAt_between (before after : List Byte) (n x : Nat) {k : Nat} (hk : before.length = k) (hx : x < 256 ^ n) :
    fieldAt (before ++ leBytes n x ++ after) k n = x := by
  unfold fieldAt
  rw [List.append_assoc, List.drop_append_of_le_length (Nat.le_of_eq hk.symm), List.drop_of_length_le (Nat.le_of_eq hk), List.nil_append,
    List.take_append_of_le_length (Nat.le_of_eq (length_leBytes n x).symm), List.take_of_length_le (Nat.le_of_eq (length_leBytes n x)),
    Tests.leNat_leBytes, Nat.mod_eq_of_lt hx]

theorem recsOf_nil (n : Nat) : recsOf n [] = [] := by
  cases n
  · rfl
  · rw [recsOf, if_pos (Or.inl (show ([] : List Byte).length < 8 by decide))]

theorem length_pad8 (b : List Byte) : (pad8 b).length = (b.length + 7) / 8 * 8 := by
  unfold pad8
  rw [List.length_append, List.length_replicate]
  omega

/-- A record alone in a body. -/
theorem recsOf_mirrorRec {obj idx : Nat} {data : List Byte} (hobj : obj < 2 ^ 16) (hne : obj ≠ 0) (hidx : idx < 2 ^ 32)
    (hdata : data.length < 2 ^ 16) : recsOf (mirrorRec obj idx data).length (mirrorRec obj idx data) = [(obj, idx, data)] := by
  have h0 : fieldAt (mirrorRec obj idx data) 0 2 = obj := by
    unfold mirrorRec
    rw [List.append_assoc, List.append_assoc]
    exact fieldAt_between [] _ 2 obj rfl hobj
  have h2 : fieldAt (mirrorRec obj idx data) 2 4 = idx := by
    unfold mirrorRec
    rw [List.append_assoc]
    exact fieldAt_between (leBytes 2 obj) _ 4 idx (length_leBytes 2 obj) hidx
  have h6 : fieldAt (mirrorRec obj idx data) 6 2 = data.length := by
    unfold mirrorRec
    exact fieldAt_between (leBytes 2 obj ++ leBytes 4 idx) _ 2 data.length
      (by rw [List.length_append, length_leBytes, length_leBytes]) hdata
  have hhead : (leBytes 2 obj ++ leBytes 4 idx ++ leBytes 2 data.length).length = 8 := by
    rw [List.length_append, List.length_append, length_leBytes, length_leBytes, length_leBytes]
  have hlen : (mirrorRec obj idx data).length = 8 + (data.length + 7) / 8 * 8 := by
    unfold mirrorRec
    rw [List.length_append, hhead, length_pad8]
  have hdrop : (mirrorRec obj idx data).drop 8 = pad8 data := by
    unfold mirrorRec
    exact List.drop_left' hhead
  have htake : (pad8 data).take data.length = data := List.take_left
  have hrest : (mirrorRec obj idx data).drop (8 + (data.length + 7) / 8 * 8) = [] := List.drop_of_length_le (Nat.le_of_eq hlen)
  generalize mirrorRec obj idx data = b at h0 h2 h6 hlen hdrop hrest
  obtain ⟨n, hn⟩ := Nat.exists_eq_succ_of_ne_zero (show b.length ≠ 0 by omega)
  rw [hn, recsOf, if_neg (by rw [h0]; omega), h0, h2, h6, hdrop, htake, hrest, recsOf_nil]

theorem bridgeMirror_answers : Claims.bridgeMirror := by
  intro hdr crc t v s hvalid hrole
  refine Answers.bridge rfl hvalid ?_
  have hheard := Valid.heard hvalid
  have htx : (s.heard hdr).par.tx = s.par.tx := by rw [hheard.par]
  generalize s.heard hdr = u at hheard htx
  have hrole' : u.pRole = 2 := (hheard.rd PAR_STAT_role 0).trans hrole
  have heq : u.onMirror (leBytes 12 hdr.toNat) (mirrorRec 0x06 t (leBytes 4 v.toNat)) =
      (u.wr ACT_TCAP t v.toNat).bridgeSend 0x05 (leBytes 2 (fieldAt (leBytes 12 hdr.toNat) 2 2)) := by
    have hv : fieldAt (leBytes 4 v.toNat) 0 4 = v.toNat := by
      have h := fieldAt_between [] [] 4 v.toNat rfl v.isLt
      rwa [List.append_nil] at h
    unfold State.onMirror State.applyRecs
    rw [if_neg (fun h => h hrole'),
      recsOf_mirrorRec (by decide) (by decide) (Nat.lt_trans t.isLt (by decide)) (by rw [length_leBytes]; decide),
      List.foldl_cons, List.foldl_nil]
    have happly : u.applyRec 0x06 t (leBytes 4 v.toNat) = u.wr ACT_TCAP t (fieldAt (leBytes 4 v.toNat) 0 4) := if_pos t.isLt
    rw [happly, hv]
  rw [heq]
  refine ⟨?_, ?_, last_bridgeSend ..⟩
  · rw [(bridgeSend_framed ..).rd_of (by decide +kernel), State.rd_wr_same]
    exact Nat.mod_eq_of_lt v.isLt
  · rw [tx_bridgeSend]
    exact congrArg (fun x => (x + 1) % 65536) htx

/-! ### MACK (R370) -/

/-- What waits for a MACK: completions and messages of the lanes. -/
def Waits (s t : State) : Prop := t.par.held = s.par.held ∧ t.par.lane = s.par.lane

theorem Waits.of_par (h : t.par = s.par) : Waits s t := ⟨congrArg Par.held h, congrArg Par.lane h⟩

theorem Waits.trans (h : Waits s t) (h' : Waits t u) : Waits s u := ⟨h'.1.trans h.1, h'.2.trans h.2⟩

theorem waits_mirror (s : State) (obj idx : Nat) (data : List Byte) : Waits s (s.mirror obj idx data) := by
  unfold State.mirror
  split
  · exact ⟨rfl, rfl⟩
  · exact ⟨rfl, rfl⟩

theorem waits_landAt (s : State) (r idx gen : Nat) : Waits s (s.landAt r idx gen) := by
  unfold State.landAt
  dsimp only
  split
  · split
    · exact ⟨rfl, rfl⟩
    · exact ⟨rfl, rfl⟩
  · exact ⟨rfl, rfl⟩

theorem waits_writeHeld (s : State) (p : HeldCpl → Bool) : (s.writeHeld p).par.held = s.par.held.filter (fun h => !p h) ∧
    (s.writeHeld p).par.lane = s.par.lane := by
  unfold State.writeHeld
  extract_lets hs src kept
  have hkept : kept.par.held = s.par.held.filter (fun h => !p h) ∧ kept.par.lane = s.par.lane := ⟨rfl, rfl⟩
  clear_value kept
  suffices Waits kept (hs.foldl (fun s h =>
      if (s.ring h.ring).gen ≠ h.gen ∨ (s.ring h.ring).st = 0 ∨ (s.ring h.ring).st = 4 then s.landAt h.ring h.idx h.gen
      else (((s.landAt h.ring h.idx h.gen).writeCompletion h.ring h.tag h.status h.op h.res h.notify).mirrorRing h.ring).tryFetch h.ring)
        kept) from ⟨this.1.trans hkept.1, this.2.trans hkept.2⟩
  generalize hs = l
  clear hkept
  induction l generalizing kept with
  | nil => exact ⟨rfl, rfl⟩
  | cons h l ih =>
    refine Waits.trans ?_ (ih _)
    dsimp only
    have hland := waits_landAt kept h.ring h.idx h.gen
    generalize kept.landAt h.ring h.idx h.gen = v at hland
    split
    · exact hland
    · have hwrite : Waits v (v.writeCompletion h.ring h.tag h.status h.op h.res h.notify) :=
        Waits.of_par ((State.writeCompletion_frame (Sub.refl _) (Frame.refl _ v) ..).par rfl)
      generalize v.writeCompletion h.ring h.tag h.status h.op h.res h.notify = w at hwrite
      have hmirror : Waits w (w.mirrorRing h.ring) := waits_mirror ..
      generalize w.mirrorRing h.ring = x at hmirror
      exact hland.trans (hwrite.trans (hmirror.trans (Waits.of_par ((State.tryFetch_frame (Sub.refl _) (Frame.refl _ x) h.ring).par rfl))))

theorem waits_applyWaits (s : State) (p : Nat → Bool) : Waits s (s.applyWaits p) := by
  unfold State.applyWaits
  extract_lets ws src kept
  have hkept : Waits s kept := ⟨rfl, rfl⟩
  clear_value kept
  refine hkept.trans ?_
  generalize ws = l
  clear hkept
  induction l generalizing kept with
  | nil => exact ⟨rfl, rfl⟩
  | cons w l ih =>
    refine Waits.trans (Waits.of_par ?_) (ih _)
    exact (refreshDie_par _).trans ((State.putPortions_frame (Sub.refl _) (Frame.refl _ kept) w.2).par rfl)

theorem bridgeMack_answers : Claims.bridgeMack := by
  intro hdr body crc s hvalid
  refine Answers.bridge rfl hvalid ?_
  have hheard := Valid.heard hvalid
  have hwaits : Waits s (s.heard hdr) := by
    unfold Waits
    rw [hheard.par]
    exact ⟨rfl, rfl⟩
  generalize s.heard hdr = u at hheard hwaits
  unfold State.onMack
  extract_lets q src freed held lanes src' cleared
  have hfreed : Waits u freed := by
    unfold freed
    split
    · exact ⟨rfl, rfl⟩
    · exact ⟨rfl, rfl⟩
  have hwritten := waits_writeHeld freed fun h => decide (h.mseq = q)
  have happlied : Waits (freed.writeHeld fun h => decide (h.mseq = q)) held := waits_applyWaits ..
  have hheld : held.par.held = s.par.held.filter (fun h => !decide (h.mseq = q)) := by
    rw [happlied.1, hwritten.1, hfreed.1, hwaits.1]
  have hlane : held.par.lane = s.par.lane := by
    rw [happlied.2, hwritten.2, hfreed.2, hwaits.2]
  clear_value held
  have hcleared : Waits cleared (lanes.foldl (fun s l => s.send (.lane l.link l.msg)) cleared) := by
    generalize lanes = l
    clear_value cleared
    induction l generalizing cleared with
    | nil => exact ⟨rfl, rfl⟩
    | cons x l ih => exact ih (cleared.send (.lane x.link x.msg))
  exact ⟨hcleared.1.trans hheld, hcleared.2.trans (by rw [← hlane]; rfl)⟩

theorem bridgeDiepwr_answers : Claims.bridgeDiepwr := by
  intro hdr body crc s hvalid
  refine Answers.bridge rfl hvalid ?_
  have hheard := Valid.heard hvalid
  have hpaired : (s.heard hdr).pState = 2 := (hheard.rd PAR_STAT_state 0).trans hvalid.2.2.2.1
  generalize s.heard hdr = u at hheard hpaired
  unfold State.onDiepwr
  dsimp only
  rw [if_pos (show (u.setPar { u.par with otherP := fieldAt body 0 4, otherT := fieldAt body 8 8 }).pState = 2 from hpaired)]
  exact ⟨rfl, rfl, rfl, hheard.regs⟩

end

/-- Settles O27. -/
theorem pairMessages : Obligations.PairMessages :=
  ⟨bridgeHb_answers, bridgeBadCrc_answers, bridgeNotReceiving_answers, bridgeUp_answers, bridgeSyncSecondary_answers,
    bridgeSyncPrimary_answers, bridgeCkptPart_answers, bridgeCkptLast_answers, bridgeMirror_answers, bridgeMack_answers,
    bridgeDiepwr_answers⟩

end Sys2Proof.Machine
end

section
/-!
PROOF. The bridge's messages of power, plates, ledgers and claps, what it sends at its instants, and its loss (R274, R343, R368 to R377).
-/
namespace Sys2Proof.Machine
open Sys2Proof.Claims

set_option Elab.async false

section
variable {s t u : State} {d : Desc} {hdr : BitVec 96} {body : List Byte} {crc : BitVec 32} {kind : Nat}

/-! ### Power and plates (R235, R274) -/

theorem newPortion_same (s : State) (t v : Nat) : mget (s.newPortion t v).acc.portion t uncapped = v := by
  unfold State.newPortion
  split
  · next h => exact h
  · exact mget_mput_same _ _ _ _

theorem newPortion_ne (s : State) (t v : Nat) {k : Nat} (h : k ≠ t) :
    mget (s.newPortion t v).acc.portion k uncapped = mget s.acc.portion k uncapped := by
  unfold State.newPortion
  split
  · rfl
  · exact mget_mput_ne _ _ _ h

theorem bridgePkg_answers : Claims.bridgePkg := by
  intro hdr body crc s hvalid hrole
  refine Answers.bridge rfl hvalid ?_
  have hheard := Valid.heard hvalid
  generalize s.heard hdr = u at hheard
  have hrole' : u.pRole = 2 := (hheard.rd PAR_STAT_role 0).trans hrole
  unfold State.onPkg
  rw [if_neg (fun h => h hrole')]
  extract_lets w budgeted
  have hbud : budgeted.rd PAR_DIEBUD_bud = w := by
    unfold budgeted
    split
    · next h => exact h
    · exact (State.rd_wr_same ..).trans (Nat.mod_eq_of_lt (fieldAt_lt body 0 4))
  clear_value budgeted
  have hportions : Frame State.newPortion_foot budgeted (foldTo 512 budgeted fun s t => s.newPortion t (fieldAt body (4 + 4 * t) 4)) :=
    Frame.foldTo (Frame.refl _ budgeted) fun u t h => State.newPortion_frame (Sub.refl _) h t _
  refine ⟨(hportions.rd_of (by decide +kernel) 0).trans hbud, fun k hk => ?_⟩
  exact foldTo_at (fun s t => s.newPortion t (fieldAt body (4 + 4 * t) 4)) (fun _ => True)
    (fun v => mget v.acc.portion k uncapped = fieldAt body (4 + 4 * k) 4) hk trivial (fun _ _ _ _ _ => trivial)
    (fun v _ => newPortion_same v k _) fun v i _ hi h => (newPortion_ne v i _ (Ne.symm hi)).trans h

theorem bridgeCplate_answers : Claims.bridgeCplate := by
  intro hdr body crc s hvalid hrole
  refine Answers.bridge rfl hvalid ?_
  have hheard := Valid.heard hvalid
  generalize s.heard hdr = u at hheard
  have hrole' : u.pRole = 2 := (hheard.rd PAR_STAT_role 0).trans hrole
  unfold State.onCplate
  rw [if_neg (fun h => h hrole')]
  exact ⟨rfl, hheard.frame.ts rfl, State.rd_wr_same ..⟩

/-! ### Ledgers and lane messages (R376, R377) -/

theorem Heard.add (h : Heard s u) : u.par.add = s.par.add := by rw [h.par]

theorem bridgeLedger_answers : Claims.bridgeLedger := by
  intro hdr crc i v s hvalid hrole
  refine Answers.bridge rfl hvalid ?_
  have hheard := Valid.heard hvalid
  generalize s.heard hdr = u at hheard
  have hrole' : u.pRole = 1 := (hheard.rd PAR_STAT_role 0).trans hrole
  have hv : fieldAt (leBytes 8 v.toNat) 0 8 = v.toNat := by
    have h := fieldAt_between [] [] 8 v.toNat rfl v.isLt
    rwa [List.append_nil] at h
  unfold State.onLedger
  rw [if_pos hrole', recsOf_mirrorRec (by decide) (by decide) (Nat.lt_trans i.isLt (by decide)) (by rw [length_leBytes]; decide)]
  refine ⟨?_, rfl, by rw [← hheard.frame.acc rfl]; rfl⟩
  show mget (mput u.par.add i (mget u.par.add i 0 + fieldAt (leBytes 8 v.toNat) 0 8)) i 0 = _
  rw [mget_mput_same, hv, hheard.add]

/-- FP3 of the holder of the roles counts a message of a type that is not defined. -/
theorem mgtDeliver_undefined {m : List Byte} (hon : s.mgtFw = true) (hstate : s.rd MGT_STAT_state ≠ 0)
    (hfew : mget s.mgt.got (mSrc m) 0 < 16) (hver : mVer m / 16 = 1) (htype : mType m = 0) :
    (s.mgtDeliver m).rd MGT_VIOL_type = (s.rd MGT_VIOL_type + 1) % 2 ^ MGT_VIOL_type.width ∧
      mget (s.mgtDeliver m).mgt.got (mSrc m) 0 = mget s.mgt.got (mSrc m) 0 + 1 := by
  unfold State.mgtDeliver
  rw [if_neg (by simp [hon, hstate])]
  extract_lets src n src' counted key noted
  rw [if_neg (show ¬ 16 < mget s.mgt.got (mSrc m) 0 + 1 by omega), if_neg (not_not.2 hver), if_pos (Or.inl htype)]
  have hcounted : counted.rd MGT_VIOL_type = s.rd MGT_VIOL_type ∧ mget counted.mgt.got (mSrc m) 0 = n := ⟨rfl, mget_mput_same _ _ _ _⟩
  clear_value counted
  have hnoted : noted.rd MGT_VIOL_type = counted.rd MGT_VIOL_type ∧ noted.mgt = counted.mgt := by
    unfold noted
    split
    · exact ⟨State.rd_bump_sep _ _ _ _ _ (by decide), rfl⟩
    · exact ⟨rfl, rfl⟩
  clear_value noted
  unfold State.mgtDrop
  have hframe := State.emitLim_frame (Sub.refl _) (Frame.refl _ (noted.bump MGT_VIOL_type)) 21 11 4 msT [4, mSrc m, mType m]
  refine ⟨?_, ?_⟩
  · rw [State.rd_emitLim _ _ _ _ _ _ _ _ (by decide), State.rd_bump_same, hnoted.1, hcounted.1]
  · rw [hframe.mgt rfl]
    exact (congrArg (fun x : Mgt => mget x.got (mSrc m) 0) hnoted.2).trans hcounted.2

theorem bridgeSalg_answers : Claims.bridgeSalg := by
  intro hdr body crc s hvalid hrole hpaired hclk hen hfw hstate hfew hver htype
  have hD := hvalid.2.1
  refine Answers.bridge rfl hvalid ?_
  have hheard := Valid.heard hvalid
  generalize s.heard hdr = u at hheard
  have hrole' : u.pRole = 1 := (hheard.rd PAR_STAT_role 0).trans hrole
  have hmgt := hheard.frame.mgt rfl
  have hpaired' : u.par.paired = true := by
    rw [hheard.par]
    exact hpaired
  have hon : u.mgtFw = true := by
    have hclk' : u.clocked 21 = true := by
      unfold State.clocked
      rw [hheard.rd]
      exact hclk
    have hfw' : u.fwRunning 3 = true := by
      unfold State.fwRunning State.fwState at hfw ⊢
      rw [hheard.rd]
      exact hfw
    unfold State.mgtFw State.mgtOn State.holdsRoles
    rw [hclk', hfw', hpaired', hrole', flag_of_rd_one ((hheard.rd MGT_CTL_en 0).trans hen)]
    simp
  obtain ⟨hcount, hgot⟩ := mgtDeliver_undefined (s := u) (m := body.take (20 + 8 * mLen body)) hon (by rw [hheard.rd]; exact hstate)
    (by rw [hmgt]; exact hfew) hver htype
  unfold State.onSalg
  rw [if_pos hrole', hcount, hgot, hheard.rd, hmgt]
  exact ⟨rfl, rfl⟩

theorem bridgeHandover_answers : Claims.bridgeHandover := by
  intro hdr body crc s hvalid hrole
  refine Answers.bridge rfl hvalid ?_
  have hheard := Valid.heard hvalid
  have hpaired : (s.heard hdr).pState = 2 := (hheard.rd PAR_STAT_state 0).trans hvalid.2.2.2.1
  generalize s.heard hdr = u at hheard hpaired
  have hrole' : u.pRole = 2 := (hheard.rd PAR_STAT_role 0).trans hrole
  unfold State.onHandover
  rw [if_pos ⟨hrole', hpaired⟩]
  exact ⟨rfl, hrole'⟩

/-! ### Claps (R369) -/

theorem bridgePclapReq_answers : Claims.bridgePclapReq := by
  intro hdr body crc stamp s hvalid
  refine Answers.bridge rfl hvalid ?_
  have hheard := Valid.heard hvalid
  rw [← hheard.ts]
  exact ⟨last_bridgeSend .., (regs_bridgeSend ..).trans hheard.regs⟩

theorem bridgePclapRsp_answers : Claims.bridgePclapRsp := by
  intro hdr body crc stamp s hvalid ht1
  refine Answers.bridge rfl hvalid ?_
  have hheard := Valid.heard hvalid
  generalize s.heard hdr = u at hheard
  have ht1' : u.par.t1 = some (fieldAt body 0 8) := by
    rw [hheard.par]
    exact ht1
  unfold State.onPclapRsp
  dsimp only
  rw [if_neg (not_not.2 ht1')]
  refine ⟨rfl, (State.rd_wr_same ..).trans ?_⟩
  generalize (((fieldAt body 8 8 : Int) - fieldAt body 0 8) - ((stamp.toNat : Int) - fieldAt body 16 8)) * 128 = x
  exact Nat.mod_eq_of_lt (show (x % 2 ^ 64).toNat < 2 ^ 64 by omega)

theorem bridgeClapSend_answers : Claims.bridgeClapSend := by
  intro s hrun hD hup hdue
  refine Answers.hub rfl hrun ?_
  have heq : Machine.bridgeClapSend s = (s.setPar { s.par with t1 := some s.ts, clapT := s.ts }).bridgeSend 0x12 (leBytes 8 s.ts) :=
    if_pos ⟨hD, hrun, hup, by omega⟩
  rw [heq]
  exact ⟨rfl, rfl, rfl, regs_bridgeSend ..⟩

/-! ### What is sent again, checkpoints and the loss (R368, R370, R371) -/

theorem bridgeRetransmit_answers : Claims.bridgeRetransmit := by
  intro m s hrun hD hup hone hout hlate
  refine Answers.hub rfl hrun ?_
  unfold Machine.bridgeRetransmit
  rw [if_neg (by simp [hD, hrun, hup])]
  extract_lets due ms sent src
  have hdue : due m = true := Bool.and_eq_true_iff.2 ⟨hout, decide_eq_true hlate⟩
  have hms : ms = [m] := by
    unfold ms
    rw [hone, List.filter_cons_of_pos hdue]
    rfl
  have hsent : sent = (s.send (.bridge (s.bridgeBytes m.kind m.seq m.body))).bump PAR_CNT_rtx := by
    unfold sent
    rw [hms]
    rfl
  clear_value sent ms
  subst hsent
  refine ⟨?_, rfl, State.rd_bump_same ..⟩
  show s.par.unack.map (fun m => if due m then { m with sent := s.ts } else m) = _
  rw [hone, List.map_cons, if_pos hdue]
  rfl

theorem bridgeCheckpointTimer_answers : Claims.bridgeCheckpointTimer := by
  intro s hrun hD hstate hrole hdue
  refine Answers.hub rfl hrun ?_
  have heq : Machine.bridgeCheckpointTimer s = s.sendCkpt := if_pos ⟨hD, hstate, hrole, hdue⟩
  obtain ⟨hregs, hckpt, htx⟩ := sendCkpt_effect s
  rw [heq]
  exact ⟨hckpt, htx, hregs⟩

/-- That the bridge is lost, and since when it has been split. -/
def LossKept (s t : State) : Prop := t.par.lost = s.par.lost ∧ t.par.splitT = s.par.splitT

theorem LossKept.of_par (h : t.par = s.par) : LossKept s t := ⟨congrArg Par.lost h, congrArg Par.splitT h⟩

theorem LossKept.trans (h : LossKept s t) (h' : LossKept t u) : LossKept s u := ⟨h'.1.trans h.1, h'.2.trans h.2⟩

theorem lossKept_mirror (s : State) (obj idx : Nat) (data : List Byte) : LossKept s (s.mirror obj idx data) := by
  unfold State.mirror
  split
  · exact ⟨rfl, rfl⟩
  · exact ⟨rfl, rfl⟩

theorem lossKept_freeSlate (s : State) (k : Nat) : LossKept s (s.freeSlate k) := by
  unfold State.freeSlate State.setSlate
  extract_lets x src released
  have hreleased : LossKept s (released.setSlateRaw k { gen := x.gen }) := by
    unfold released
    split
    · exact ⟨rfl, rfl⟩
    · exact ⟨rfl, rfl⟩
  refine (hreleased.trans (lossKept_mirror _ 0x09 k (slateStateBytes { gen := x.gen }))).trans (LossKept.of_par ?_)
  exact (State.showSlates_frame (Sub.refl _) (Frame.refl _ _)).par rfl

theorem lossKept_landed (s : State) (d : Desc) : LossKept s (s.landed d) := by
  unfold State.landed State.landAt
  dsimp only
  split
  · split
    · exact ⟨rfl, rfl⟩
    · exact ⟨rfl, rfl⟩
  · exact ⟨rfl, rfl⟩

theorem lossKept_complete (s : State) (d : Desc) (status : Nat) (ps : List (Nat × Nat × Nat)) : LossKept s (s.complete d status ps) := by
  unfold State.complete State.completeAs
  dsimp only
  split
  · exact lossKept_landed s d
  · split
    · exact LossKept.trans (lossKept_mirror s 0x03 d.ring _) ⟨rfl, rfl⟩
    · refine (lossKept_landed s d).trans (LossKept.of_par ?_)
      generalize s.landed d = v
      have hwrite :=
        State.writeCompletion_frame (Sub.refl _) (Frame.refl _ v) d.ring (dTag d.w) status (dOp d.w) (resultBytes ps) (dNotify d.w)
      generalize v.writeCompletion d.ring (dTag d.w) status (dOp d.w) (resultBytes ps) (dNotify d.w) = w at hwrite
      exact ((State.tryFetch_frame (Sub.refl _) (Frame.refl _ w) d.ring).par rfl).trans (hwrite.par rfl)

theorem lossKept_splitTakes (s : State) : LossKept s s.splitTakes := by
  unfold State.splitTakes
  extract_lets js src kept
  have hkept : LossKept s kept.showSlates := LossKept.of_par ((State.showSlates_frame (Sub.refl _) (Frame.refl _ kept)).par rfl)
  generalize kept.showSlates = v at hkept
  refine hkept.trans ?_
  generalize js.filter (fun j => decide (j.phase = 2)) = l
  clear hkept
  induction l generalizing v with
  | nil => exact ⟨rfl, rfl⟩
  | cons j l ih =>
    refine LossKept.trans ?_ (ih _)
    have hfreed := lossKept_freeSlate v j.slate
    dsimp only
    generalize v.freeSlate j.slate = w at hfreed
    have hnoted : LossKept v ((w.bump SLT_FAIL_failed).emit 6 4 [j.handle, 3]) :=
      hfreed.trans (LossKept.of_par ((State.emit_frame (Sub.refl _) (Frame.refl _ (w.bump SLT_FAIL_failed)) 6 4 _).par rfl))
    split
    · exact hnoted.trans (lossKept_complete ..)
    · exact hnoted

theorem bridgeLoss_answers : Claims.bridgeLoss := by
  intro s hrun hD hup hlost hlate hstate hrole
  refine Answers.hub rfl hrun ?_
  have heq : Machine.bridgeLoss s = (s.setPar { s.par with lost := true }).enterSplit 0 := by
    unfold Machine.bridgeLoss
    rw [if_pos ⟨hD, hup, by rw [hlost]; rfl, hlate⟩]
    exact if_pos (Or.inr hstate)
  have hrole' : (s.setPar { s.par with lost := true }).pRole = 1 := hrole
  obtain ⟨hstate', hdemoted, hdown, hcount, hrecorded⟩ := enterSplit_effect hrole' 0
  have hkept : LossKept ((s.setPar { s.par with lost := true }).parted 0) ((s.setPar { s.par with lost := true }).enterSplit 0) := by
    rw [enterSplit_eq hrole']
    exact (lossKept_splitTakes _).trans (LossKept.of_par (refreshDie_par _))
  have hparted : ((s.setPar { s.par with lost := true }).parted 0).par.lost = true ∧
      ((s.setPar { s.par with lost := true }).parted 0).par.splitT = s.ts := by
    unfold State.parted
    rw [(State.emit_frame (Sub.refl _) (Frame.refl _ _) 22 1 [0, 1]).par rfl]
    exact ⟨rfl, rfl⟩
  rw [heq]
  exact ⟨hstate', hdemoted, hkept.1.trans hparted.1, hdown, hkept.2.trans hparted.2, hcount, hrecorded.before rfl rfl⟩

end

/-- Settles O28. -/
theorem pairState : Obligations.PairState :=
  ⟨bridgePkg_answers, bridgeCplate_answers, bridgeLedger_answers, bridgeSalg_answers, bridgeHandover_answers, bridgePclapReq_answers,
    bridgePclapRsp_answers, bridgeClapSend_answers, bridgeRetransmit_answers, bridgeCheckpointTimer_answers, bridgeLoss_answers⟩

end Sys2Proof.Machine
end
